-- ==== Sys2Proof/Word.lean ====
section
/-! DEFINITION. The plain words of the model: bytes, register words, codes, the sparse table in which the
large parts of the state are held, and the description of one register field. -/

namespace Sys2Proof

/-- One byte of device or host memory. -/
abbrev Byte := BitVec 8

/-- A 32-bit register word (R12). -/
abbrev Word := BitVec 32

/-- A 16-bit status, completion or fault code (R18); the number stays below 2^16 by construction. -/
abbrev Code := Nat

/-- A sparse table: pairs of a key and a value, keys strictly rising. -/
abbrev Table (α : Type) := List (Nat × α)

/-- The access codes of R13; reserved bits have no field of their own. -/
inductive Access where
  | rw | ro | w1c | wo
  deriving DecidableEq, Repr

/-- One field of a register: its number `id` among the fields the spec names (one number for all the copies of a field),
the PF offset of its register in BAR0 (R512), its bits, its access code (R13) and
its reset value. `fn` selects the copy of a per-function register (R107); `bank` tells the values software wrote
(0) from the values in force (1) and the values waiting to come into force (2) where the spec keeps them apart. -/
structure Field where
  id : Nat
  off : Nat
  msb : Nat
  lsb : Nat
  acc : Access
  reset : Nat
  fn : Nat := 0
  bank : Nat := 0
  deriving DecidableEq, Repr

end Sys2Proof
end

