-- ==== Sys2Proof/Syntax.lean ====
section
/-! DEFINITION. The commands of the block: one constructor of Instr per row of spec/opcode_table.json, with the data
that comes from outside with it. -/

namespace Sys2Proof

/-- Who writes or reads a register: a function of the host (0 the PF, f a VF), a supervisor pair's firmware, or the debug
window behind the TAP (R499; R469 gives each its origin in the Ledger). -/
inductive Writer where
  | host (f : Fin 32)
  | super (p : Fin 4)
  | debug
  deriving DecidableEq, Repr

/-- The forms of a BAR0 access (R515): the 32-bit and 64-bit forms that act on registers, and every other form. -/
inductive AccessForm where
  | word
  | double
  | other
  deriving DecidableEq, Repr

/-- A submission descriptor (R120) as the device fetches it from ring `rid`, without its OPCODE, which the command
names. `params` are bytes 32-63, byte 32 lowest. `data` is what every host-memory read of the descriptor's data
returns, in the order the descriptor names the data; none when such a read fails (check 6 of R122). -/
structure Desc where
  rid : Fin 16384
  flags : BitVec 16
  objType : BitVec 4
  objIndex : BitVec 28
  cookie : BitVec 64
  launch : BitVec 128
  params : BitVec 256
  data : Option (List Byte)
  deriving DecidableEq, Repr

/-- What identifies a consumed descriptor until it completes (R125): the submission or BS_IN ring, the completion
ring, the owning function and that function's epoch, the cookie, whether its launch fired late (R124), and whether
a Catcher completes it for its Flyer (R128). -/
structure Ticket where
  rid : Nat
  cpl : Nat
  fn : Nat
  epoch : Nat
  cookie : Nat
  late : Bool := false
  catcher : Bool := false
  deriving DecidableEq, Repr

/-- A PTP message's common fields (R47, R48): lane it arrives on, sixteenth of a tick of its timestamp point, PTP
domain number (none when the message is cut before it), sender's port identity, sequence number, correctionField in 2^-16 ns, logMessageInterval, and whether
the message is malformed as R48 lists (version, length, truncation). -/
structure PtpHeader where
  lane : Fin 16
  sub : Fin 16
  domain : Option (BitVec 8)
  sender : BitVec 80
  seq : BitVec 16
  correction : Int
  logInterval : Int
  malformed : Bool
  deriving DecidableEq, Repr

/-- A PTP timestamp: seconds and nanoseconds. -/
structure PtpTime where
  sec : BitVec 48
  ns : Fin 1000000000
  deriving DecidableEq, Repr

/-- The data set an Announce carries for best master selection (R47), and the MAC and IPv4 addresses it came from (R325). -/
structure Announce where
  priority1 : BitVec 8
  clockClass : BitVec 8
  accuracy : BitVec 8
  variance : BitVec 16
  priority2 : BitVec 8
  grandmaster : BitVec 64
  stepsRemoved : BitVec 16
  mac : BitVec 48
  ip : BitVec 32
  deriving DecidableEq, Repr

/-- What a frame received on an Ethernet port is, as far as forwarding goes (R59, R324): a PTP message (event or
general, with its domain number) or another frame; its PCP when tagged; its length; its correctionField and UDP checksum; whether
its FCS was bad. -/
structure EthFrame where
  ptp : Option (Bool × BitVec 8)
  pcp : Option (Fin 8)
  len : Fin 9217
  correction : Int
  udp : BitVec 16
  badFcs : Bool
  sub : Fin 16
  deriving DecidableEq, Repr

/-- A unit that the device can fence (R96), or a part of the service floor that can fail (R98). -/
inductive UnitId where
  | pair (p : Fin 4)
  | cmp (i : Fin 4)
  | face (i : Fin 16)
  | engine (i : Fin 96)
  | lane (i : Fin 16)
  | link (i : Fin 16)
  | dsp (i : Fin 8)
  | ringmaster
  | barker
  | housekeeping
  deriving DecidableEq, Repr

/-- Where a slot command comes from (R99, R121): a write of ENC_BSn_RUN with its FREERUN_OK and AUTOSTART bits, or a
SLOT_CMD descriptor. -/
inductive SlotSrc where
  | reg (w : Writer) (freerun autostart : Bool)
  | desc (d : Desc)
  deriving DecidableEq, Repr

/-- The presentation stamp of an access unit (R264). -/
structure Stamp where
  version : BitVec 8
  sweepStart : Bool
  firstSweep : Bool
  catcher : Bool
  sweepPos : BitVec 8
  sweepLen : BitVec 8
  pic : BitVec 32
  pdtSec : BitVec 48
  pdtNs : Fin 1000000000
  pdtFrac : BitVec 16
  capSec : BitVec 48
  capNs : Fin 1000000000
  gdrCols : BitVec 8
  deriving DecidableEq, Repr

/-- The coding tools of a slot that its parameter sets signal (R213): the codec (0 VVC, 1 HEVC), the sizes of CTU, smallest CU and
largest transform, whether CUs split in two halves, temporal vector prediction, 4-parameter affine motion, the intra modes, the
largest transform-skip block (0 off), 4 × 4 DST, ALF with fixed filter sets. Merge, AMVP, sign data hiding, CU QP delta, deblocking,
SAO and CABAC are always on; every other tool is off. -/
structure ToolSet where
  codec : Nat
  ctu : Nat
  minCu : Nat
  transform : Nat
  halves : Bool
  temporalMv : Bool
  affine4 : Bool
  intraModes : Nat
  skipTransform : Nat
  dst4 : Bool
  fixedAlf : Bool
  deriving DecidableEq, Repr

/-- What the parameter sets of a slot say (R208 to R217, R244): profile, tier (1 High), general_level_idc, CHROMA, coded bit depth, size,
tools, references, the grid of subpictures (columns, rows, CTUs of each), whether all are of one size; each subpicture is one tile
that is treated as a picture, no loop filter crosses its edges, IDs are implicit; the HRD's bit rate in b/s and CPB size in bits,
its cbr_flag. -/
structure SeqParams where
  profile : Nat
  tier : Nat
  levelIdc : Nat
  chroma : Nat
  depth : Nat
  width : Nat
  height : Nat
  tools : ToolSet
  refs : Nat
  cols : Nat
  rows : Nat
  spW : Nat
  spH : Nat
  sameSize : Bool
  asPicture : Bool
  crossFilter : Bool
  idMapped : Bool
  bitRate : Nat
  cpbBits : Nat
  cbr : Bool
  deriving DecidableEq, Repr

/-- Parameter sets received in a stream (R271): which sets they are, what they say, whether they enable any tool that ToolSet does not
name, and whether the stream they head codes only IDR, first-of-sweep and P pictures in output order. -/
structure ParamSets where
  id : Nat
  params : SeqParams
  others : Bool
  inOrder : Bool
  deriving DecidableEq, Repr

/-- What a coded-stream packet carries (R262): non-VCL units with their parameter sets and stamp, or bytes of one slice
with its subpicture ID, CTU row, whether it holds the slice's first and last bytes, and whether its picture is an IDR or
first-of-sweep picture. -/
inductive CodedContent where
  | head (ps : Option ParamSets) (stamp : Option Stamp)
  | slice (sp : BitVec 16) (row : Fin 64) (first last : Bool) (start : Bool)
  deriving DecidableEq, Repr

/-- A whole slice that a BS_IN buffer holds: the RTP timestamp that names its picture, subpicture ID, row, whether the
picture is an IDR or first-of-sweep picture. -/
structure Slice where
  ts : BitVec 32
  sp : BitVec 16
  row : Fin 64
  start : Bool
  deriving DecidableEq, Repr

/-- A coded slice as the slice engine completes it (R220, R246, R247): the exact bits of its headers, of each CTU as decided until the
guard acts (its last entry the decision that the guard turned down), of the CTUs in Spoil form, of termination and trailing, and
the emulation prevention bytes that its bytes took. -/
structure SliceDone where
  head : Nat
  coded : List Nat
  spoil : List Nat
  tail : Nat
  emul : Nat
  deriving DecidableEq, Repr

/-- The posted entry of a BS_OUT ring as the device fetches it: ring, address, size (R132). -/
structure Posted where
  rid : Fin 16384
  addr : BitVec 64
  size : BitVec 32
  deriving DecidableEq, Repr

/-- How decoding of a row of a subpicture ended (R276 to R278, R299): in error; a write outside the fence; reads outside the
slot's buffers; whether a reference lay outside its tile; whether every sample equals that of the previous picture. -/
structure RowResult where
  errored : Bool
  fenced : Bool
  strays : Nat
  xtile : Bool
  unchanged : Bool
  deriving DecidableEq, Repr

/-- An ARP request (R325): the IPv4 address it asks for and the hardware address of its sender. -/
structure ArpRequest where
  ip : BitVec 32
  mac : BitVec 48
  deriving DecidableEq, Repr

/-- A read of a burst with errors (R386): its address and the 4-bit lane groups of its beats that are in error. -/
structure BadBurst where
  addr : BitVec 39
  groups : List (Fin 20)
  deriving DecidableEq, Repr

/-- A BS_IN entry as the device fetches it (R132): its SIZE, whether its buffer address is aligned to 64 B, and the slice
its buffer holds (none when the buffer cannot be read or holds no slice). -/
structure BsIn where
  size : BitVec 32
  aligned : Bool
  slice : Option Slice
  deriving DecidableEq, Repr

/-- The samples of one row of an ST 2110-20 packet: its line, first pixel, pixels, and the samples of its three components in order
along the line (Y, Cb, Cr or R, G, B), the subsampled ones fewer (R153). -/
structure VideoRow where
  line : BitVec 16
  off : BitVec 16
  len : BitVec 16
  c0 : List (BitVec 12)
  c1 : List (BitVec 12)
  c2 : List (BitVec 12)
  deriving DecidableEq, Repr

/-- What a frame carries that a path is matched by (R143): the lane it arrives on, destination and source address, destination
port, its 802.1Q tags, whether it is IPv4 UDP. -/
structure Flow where
  lane : Fin 16
  dst : BitVec 32
  src : BitVec 32
  port : BitVec 16
  tags : Fin 3
  udp : Bool
  deriving DecidableEq, Repr

/-- An ST 2110-20 packet (R143, R150, R155, R158): its flow, RTP payload type, extended sequence number, RTP timestamp, whether its
headers are malformed in one of the ways of R158 that no other operand shows (RTP version, IPv4 options or fragments, UDP checksum,
a row's length in bytes, field bit), its rows. `crcOk` tells of every packet here whether the CRC field
that a check unit in CHECK_STRIP would read is there and matches (R420). -/
structure VideoPacket where
  flow : Flow
  pt : BitVec 7
  seq : BitVec 32
  ts : BitVec 32
  malformed : Bool
  crcOk : Bool
  rows : List VideoRow
  deriving DecidableEq, Repr

/-- An ST 2110-30 packet (R147): sequence number, timestamp, whether malformed, samples by channel. -/
structure AudioPacket where
  flow : Flow
  pt : BitVec 7
  seq : BitVec 16
  ts : BitVec 32
  malformed : Bool
  crcOk : Bool
  samples : List (List (BitVec 24))
  deriving DecidableEq, Repr

/-- An ANC packet of an ST 2110-40 payload (R148). -/
structure Anc where
  c : Bool
  line : BitVec 11
  s : Bool
  hoff : BitVec 12
  streamNum : BitVec 7
  did : BitVec 10
  sdid : BitVec 10
  count : BitVec 10
  words : List (BitVec 10)
  deriving DecidableEq, Repr

/-- An ST 2110-40 packet. -/
structure AncPacket where
  flow : Flow
  pt : BitVec 7
  seq : BitVec 16
  ts : BitVec 32
  malformed : Bool
  crcOk : Bool
  ancs : List Anc
  deriving DecidableEq, Repr

/-- A coded-stream packet (R149, R262): sequence number, RTP timestamp, whether malformed, its content and payload bytes. -/
structure CodedPacket where
  flow : Flow
  pt : BitVec 7
  seq : BitVec 16
  ts : BitVec 32
  malformed : Bool
  crcOk : Bool
  bytes : Nat
  content : CodedContent
  deriving DecidableEq, Repr

/-- An IGMP query (R145): general, or for one group. -/
inductive IgmpQuery where
  | general
  | group (g : BitVec 32)
  deriving DecidableEq, Repr

/-- A CAP_OFFER's fields (R331): ROLE, VERSIONS, PART, the credits advertised in data slots, TURN in ps. -/
structure CapOffer where
  role : BitVec 8
  versions : BitVec 8
  part : BitVec 16
  mirror : BitVec 16
  control : BitVec 16
  turn : BitVec 32
  deriving DecidableEq, Repr

/-- A header slot as it arrives (R327, R337): whether HCRC passes, KIND, LEN, CR_CLASS and CR_SLOTS, whether a reserved byte
is not zero, whether its data passes DCRC, whether its data exceeds the credit the device advertised. -/
structure LinkHeader where
  hcrc : Bool
  kind : BitVec 8
  len : BitVec 8
  crClass : Fin 4
  crSlots : BitVec 14
  bad : Bool
  dcrc : Bool
  beyond : Bool
  deriving DecidableEq, Repr

/-- What a training frame asks (R311, R333): the partner's READY, its precoding request, its PRE and POST requests (0 hold,
1 increment, 2 decrement), and whether the device's own receiver has held 18 dB for 1 ms. -/
structure TrainFrame where
  ready : Bool
  precode : Bool
  pre : Fin 4
  post : Fin 4
  own : Bool
  deriving DecidableEq, Repr


/-- A subframe of an AES3 frame (R357, R359): its 24-bit sample, whether its parity is right, its validity bit (set: not
valid), channel status and user bits. -/
structure Subframe where
  sample : BitVec 24
  parityOk : Bool
  invalid : Bool
  status : Bool
  user : Bool
  deriving DecidableEq, Repr

/-- An AES3 frame as received (R356, R357): the sixteenth of a tick at which its preamble arrives, whether its preambles are
valid, whether its first is Z, its subframes A and B. -/
structure AesFrame where
  sub : Fin 16
  valid : Bool
  z : Bool
  a : Subframe
  b : Subframe
  deriving DecidableEq, Repr

/-- What the boot ROM meets when the device leaves reset (R88, R89): the straps, the DRAM ranks the board populates, and the units
of the floor self-test that fail (supervisor pairs, Ringmaster, Barker, housekeeping). -/
structure Boot where
  bootSrc : Fin 4
  smbAddr : Fin 4
  populated : BitVec 16
  failed : List UnitId
  deriving DecidableEq, Repr

/-- Where a device reset comes from: SYS_RST_N low, which holds the device in reset until it rises, or the PWR_RESET timer,
after which the boot ROM starts at once. -/
inductive ResetSrc where
  | pin
  | timer (b : Boot)
  deriving DecidableEq, Repr

/-- The fields of a HELLO (R426): PART, ROLE, Catcher state, firmware set, key digest, SEQ, compatible sets. -/
structure Hello where
  part : BitVec 16
  role : BitVec 8
  state : BitVec 8
  set : BitVec 64
  key : BitVec 256
  seq : BitVec 32
  sets : List (BitVec 64)
  deriving DecidableEq, Repr

/-- The rate part of a CKPT of an encode slot (R259): next row to take in, SPOIL_FROM, actual bytes so far, the charge or cap of
each row not complete, F, t_n, qp[k] and a[k], qp_prev[k] and bytes_prev[k], p_s and previous bytes of each slice by row
and column. -/
structure CkptRate where
  next : Fin 65
  spoilFrom : BitVec 8
  bytes : BitVec 32
  pending : List (Fin 64 × Nat)
  fullness : BitVec 32
  target : BitVec 32
  qp : List Nat
  plan : List Nat
  qpPrev : List Nat
  bytesPrev : List Nat
  ps : List (List Nat)
  slicePrev : List (List Nat)
  deriving DecidableEq, Repr

/-- The rate part of a CKPT of a decode slot (R437): JOINED, STREAM_UP, p of the last accepted picture in 2^-16 ns, concealed
marks of the window subpictures. -/
structure CkptDec where
  joined : Bool
  up : Bool
  lastP : Int
  marks : BitVec 64
  deriving DecidableEq, Repr

/-- A CKPT record as received (R437): its row, the nanoseconds of its tick, the rate part, launch words, ring indices (ring,
SUB consumer, CPL producer), SEQ and state of each slot's Safety Net. -/
structure CkptIn where
  row : Fin 64
  ns : Fin 1000000000
  rate : CkptRate ⊕ CkptDec
  launches : List (BitVec 128)
  rings : List (Fin 16384 × BitVec 32 × BitVec 32)
  saf : List (BitVec 32 × Fin 3)
  deriving DecidableEq, Repr

/-- A Safety Net record (R205): picture, state, first line, SEQ of the package, CRC of each line. -/
structure SafLines where
  pic : BitVec 32
  state : BitVec 8
  first : Fin 4320
  seq : BitVec 32
  crcs : List (BitVec 32)
  deriving DecidableEq, Repr

/-- The commands of the block. Each constructor stands for the row of spec/opcode_table.json that LAWS.json maps it to. -/
inductive Instr where
  | registerWrite (w : Writer) (off : Nat) (form : AccessForm) (value : BitVec 64)
  | lowWordRead (w : Writer) (off : Nat) (form : AccessForm)
  | timDomClr (w : Writer) (n : Fin 2)
  | timLateClr (w : Writer)
  | encLateClr (w : Writer) (n : Fin 4)
  | pwrCntClr (w : Writer)
  | hifFnClr (f : Fin 32)
  | ingLaneClr (w : Writer)
  | ingRxClr (w : Writer) (r : Fin 60)
  | cmpSlotClr (w : Writer) (n : Fin 4)
  | safClr (w : Writer)
  | encEffortCntClr (w : Writer)
  | encBsClr (w : Writer) (n : Fin 4)
  | encPktClr (w : Writer) (n : Fin 4)
  | decBsClr (w : Writer) (n : Fin 4)
  | rcBsClr (w : Writer) (n : Fin 4)
  | scnLaneClr (w : Writer) (i : Fin 16)
  | laneClr (w : Writer) (i : Fin 16)
  | aknClr (w : Writer) (i : Fin 16)
  | carSwapCntClr (w : Writer) (i : Fin 16)
  | carQueueClr (w : Writer) (i : Fin 16) (c : Fin 8)
  | trnClr (w : Writer)
  | audCntClr (w : Writer)
  | dmcClr (w : Writer)
  | brkClr (w : Writer)
  | jugClr (w : Writer)
  | chkClr (w : Writer) (n : Fin 4)
  | trpClr (w : Writer)
  | thmClr (w : Writer)
  | snap (w : Writer)
  | revert (w : Writer)
  | domainEnable (w : Writer) (d : Fin 2)
  | domainDisable (w : Writer) (d : Fin 2)
  | acceptJump (w : Writer) (d : Fin 2)
  | todSecWrite (w : Writer) (d : Fin 2) (sec : BitVec 32)
  | launchWindowWrite (pair : Fin 4) (word : BitVec 128)
  | launchCancel (w : Writer) (unit : BitVec 10) (tag : BitVec 16)
  | syncRx (h : PtpHeader) (t1 : Option PtpTime)
  | followUpRx (h : PtpHeader) (t1 : PtpTime)
  | delayReqSend (d : Fin 2) (lane : Fin 16) (sub : Fin 16)
  | delayRespRx (h : PtpHeader) (t4 : PtpTime)
  | announceRx (h : PtpHeader) (a : Announce)
  | masterLoss (d : Fin 2)
  | slewEnd
  | ppsInEdge (sub : Fin 16)
  | ppsInLoss
  | clk10InLoss
  | pllRefSwitch
  | ppsOutEdge
  | ethFrameForward (i : Fin 16) (f : EthFrame)
  | compositionStart (u : Fin 4)
  | encodeRowStart (u : Fin 112) (decided : List (Fin 64 × Nat))
  | packetRelease (i : Fin 16)
  | gateSwitch (i : Fin 16)
  | presentation (i : Fin 16)
  | sampleRelease (k : Fin 32)
  | decodeRowStart (u : Fin 16)
  | scanOutFrameStart (i : Fin 16)
  | genericEvent (u : Fin 264)
  | modeRequest (w : Writer) (target : Fin 16) (force : Bool)
  | mode (d : Desc)
  | modeDrained
  | powerWaveDone
  | modeLoadDone (failed : List UnitId) (reloads : Nat)
  | pwrReset (w : Writer) (value : BitVec 32)
  | deviceReset (src : ResetSrc)
  | sysRstNRise (b : Boot)
  | pcieReset
  | supervisorImageLoaded (a b : Option (List Byte))
  | fwPcieGo (w : Writer) (value : BitVec 32) (bundle : Option (List Byte))
  | rankTrained (p : Fin 16) (ok : Bool)
  | autostartSlotStart (failed : List UnitId)
  | lockstepCompareFail
  | unitRuntimeFault (u : UnitId)
  | slotStart (src : SlotSrc) (n : Fin 4) (failed : List UnitId)
  | slotStop (src : SlotSrc) (n : Fin 4)
  | slotCommit (src : SlotSrc) (n : Fin 4)
  | slotStopDone (n : Fin 4)
  | functionOpen (f : Fin 32) (major minor : BitVec 8) (close : Bool)
  | functionClose (f : Fin 32)
  | flr (f : Fin 32)
  | d3hotExit (f : Fin 32)
  | penOwnerWrite (w : Writer) (p : Fin 256) (assigned : Bool) (f : Fin 32)
  | slotOwnerWrite (w : Writer) (o0 o1 o2 o3 : Fin 32)
  | vectorWrite (w : Writer) (f : Fin 32) (count : BitVec 12) (base : BitVec 11) (vfEnable : Bool)
  | doorbell (f : Fin 32) (page : Fin 256) (off : Fin 4096) (whole : Bool) (value : BitVec 64)
  | nop (opcode : BitVec 16) (d : Desc)
  | createRing (d : Desc)
  | destroyRing (d : Desc)
  | destroyRingDone (r : Fin 16384)
  | configWrite (d : Desc)
  | configRead (d : Desc)
  | statsRead (d : Desc)
  | cancelTimed (d : Desc)
  | ringFetchError (r : Fin 16384)
  | msixModerationTimeout (r : Fin 16384)
  | msixUnmask (v : Fin 2048) (mask : Bool)
  | bsInEntry (r : Fin 16384) (e : BsIn) (posted : List Posted)
  | ingLaneMaskWrite (w : Writer) (mask : BitVec 16)
  | receiverEnable (w : Writer) (r : Fin 60) (path1 path0 : Bool) (pt : BitVec 7)
  | receiverDisable (w : Writer) (r : Fin 60) (enable path1 path0 : Bool) (pt : BitVec 7)
  | videoPacketRx (r : Fin 32) (p : Fin 2) (x : VideoPacket)
  | audioPacketRx (r : Fin 16) (p : Fin 2) (x : AudioPacket)
  | ancPacketRx (r : Fin 8) (p : Fin 2) (x : AncPacket)
  | codedPacketRx (r : Fin 4) (p : Fin 2) (x : CodedPacket) (posted : List Posted)
  | unmatchedFrameRx (i : Fin 16)
  | arpRequestRx (i : Fin 16) (q : ArpRequest)
  | pauseFrameRx (i : Fin 16)
  | badFcsFrameRx (i : Fin 16)
  | igmpQueryRx (i : Fin 16) (q : IgmpQuery)
  | pictureCloseTimeout (r : Fin 32)
  | pathLossTimeout (r : Fin 60) (p : Fin 2)
  | composeRow (n : Fin 4)
  | cmpSlotCommit (w : Writer) (n : Fin 4)
  | cmpCommit (d : Desc)
  | surfaceLoad (d : Desc)
  | surfaceCopyDone (n : Fin 4) (l : Fin 16)
  | tableLoad (d : Desc)
  | benchFlattenDone (n : Fin 4)
  | safLoad (d : Desc)
  | safPackageChecked (k : Fin 5)
  | safEnroll (d : Desc)
  | safAreaWrite (w : Writer) (n : Fin 4) (value : BitVec 27)
  | protectedWriteDrop (o : Fin 16) (addr : BitVec 39)
  | sliceComplete (n : Fin 4) (row : Fin 64) (col : Fin 64) (x : SliceDone) (posted : List Posted)
  | effortFloorWrite (w : Writer) (floor : Fin 16)
  | tsPsiTimer (n : Fin 4)
  | decodeRowDone (n : Fin 4) (row : Fin 64) (sp : BitVec 16) (x : RowResult)
  | streamLossTimeout (n : Fin 4)
  | laneLineOpen (i : Fin 16)
  | startOfBlanking (i : Fin 16)
  | rowReqRx (i : Fin 16) (tile : BitVec 8) (line : BitVec 16) (ready : Bool)
  | scnLaneCommit (w : Writer) (i : Fin 16)
  | laneCfgWrite (w : Writer) (i : Fin 16) (value : BitVec 32)
  | laneTestWrite (w : Writer) (i : Fin 16) (value : BitVec 32)
  | laneMacWrite (w : Writer) (i : Fin 16) (high : Bool) (value : BitVec 32)
  | laneRetrain (d : Desc)
  | aknSend (d : Desc)
  | terminationSense (i : Fin 16) (sensed : Bool)
  | autonegComplete (i : Fin 16)
  | trainingFrameRx (i : Fin 16) (x : TrainFrame)
  | bitLock (i : Fin 16)
  | amLock (i : Fin 16)
  | trainTimeout (i : Fin 16)
  | lockTimeout (i : Fin 16)
  | trainRetry (i : Fin 16)
  | farEndLoss (i : Fin 16)
  | ethLinkFault (i : Fin 16)
  | slotLockTimeout (i : Fin 16)
  | refclkLoss (q : Fin 4)
  | refclkReturn (q : Fin 4)
  | headerSlotRx (i : Fin 16) (h : LinkHeader)
  | capOfferRx (i : Fin 16) (tile : Fin 64) (o : CapOffer)
  | capEnumRx (i : Fin 16) (count : Fin 65) (minVersion : BitVec 8)
  | capRetry (i : Fin 16)
  | echoRespRx (i : Fin 16) (tile : Fin 64) (trip : Fin 1000000)
  | echoTimeout (i : Fin 16)
  | ctrlRespRx (i : Fin 16) (tag : BitVec 16) (value : BitVec 32) (status : BitVec 16)
  | ctrlResponseTimeout (i : Fin 16) (tag : BitVec 16)
  | egressSelect (i : Fin 16)
  | carCommit (w : Writer) (i : Fin 16)
  | carListLoad (d : Desc)
  | gateListSwap (i : Fin 16)
  | trnCtrlWrite (w : Writer) (q : Fin 128) (mode : Fin 4) (ovh : Fin 64)
  | aes3FrameRx (j : Fin 16) (f : AesFrame)
  | aes3LockLoss (j : Fin 16) (rate : Bool)
  | asrcDecision (j : Fin 16) (ppm : BitVec 16)
  | sampleSlip (j : Fin 16) (c : Fin 2)
  | mclkLoss
  | mclkResume (w : Writer)
  | audPortWrite (w : Writer) (k : Fin 64) (value : BitVec 32)
  | audRouteWrite (w : Writer) (c : Fin 96) (value : BitVec 32)
  | zeroCrossingChange (c : Fin 96)
  | zcTimeout (c : Fin 96)
  | audioCmd (d : Desc)
  | audCaptureRead (d : Desc)
  | audTemplateLoad (d : Desc)
  | dmcLayoutCommit (w : Writer) (value : BitVec 32)
  | trnWrite (w : Writer) (c : Fin 8) (value : BitVec 32)
  | trnReadCompare (w : Writer) (c : Fin 8) (value : BitVec 32)
  | trnWriteCompare (w : Writer) (c : Fin 8) (value : BitVec 32)
  | trnOpDone (c : Fin 8) (errors : List (Fin 80 × Fin 65536))
  | trnDlySet (w : Writer) (c : Fin 8) (value : BitVec 32)
  | mrWrite (w : Writer) (c : Fin 8) (addr data : BitVec 8)
  | mrRead (w : Writer) (c : Fin 8) (addr answer : BitVec 8)
  | setFillDone (k : Fin 2)
  | eccCorrectedRead (b : BadBurst)
  | eccUncorrectableRead (b : BadBurst)
  | commandRetryFail (p : Fin 16)
  | patrolScrub (spareBad : Bool)
  | dmcMigrate (d : Desc)
  | migrationComplete
  | refresh (p : Fin 16) (mr4 : Fin 3) (selected : List (Fin 32 × Fin 65536))
  | taskCreate (pair : Fin 4) (priority : Fin 8) (affinity : BitVec 96) (preemptible : Bool) (mask : BitVec 32) (all : Bool)
  | taskDestroy (id : Fin 4096)
  | taskSignal (id : Fin 4096) (flags : BitVec 32)
  | taskWait (e : Fin 96) (mask : BitVec 32) (all : Bool)
  | taskYield (e : Fin 96)
  | taskDispatch
  | jugDrainWrite (w : Writer) (drain : BitVec 8)
  | watchdogExpiry (u : UnitId)
  | barkerEntry (pair : Fin 4)
  | brkComplete (pair : Fin 4) (src : Fin 1024)
  | brkSwWrite (w : Writer) (value : BitVec 32)
  | brkLatchClear (w : Writer) (i : Fin 32) (mask : BitVec 32)
  | chkCtrlWrite (w : Writer) (n : Fin 4) (value : BitVec 32)
  | chkScan (d : Desc)
  | chkScanDone (n : Fin 4)
  | trpCtrlWrite (w : Writer) (value : BitVec 32)
  | helloSend
  | helloRx (i : Fin 16) (h : Hello)
  | partnerLoss
  | mirrorDataRx (i : Fin 16) (seq : BitVec 32) (malformed : Nat)
  | configRecord (l : List (BitVec 32 × BitVec 32))
  | surfRecord (addr : BitVec 39) (data : List Byte) (poison : Bool)
  | refRecord (n : Fin 4) (pic : BitVec 32) (addr : BitVec 39) (blocks : List (Fin 8 × List Byte)) (poison : Bool)
  | sliceRecord (n : Fin 4) (pic : BitVec 32) (row : Fin 64) (sp : BitVec 16) (bytes : BitVec 32)
  | ckptRecord (n : Fin 4) (pic : BitVec 32) (c : CkptIn)
  | rowEndRecord (n : Fin 4) (pic : BitVec 32) (row : Fin 64) (seq : BitVec 32) (count : BitVec 32)
  | safPkgRecord (n : Fin 4) (data : List Byte)
  | safLineRecord (n : Fin 4) (x : SafLines)
  | ringRecord (r : Fin 16384) (cons : BitVec 32) (opcode : BitVec 16) (d : Desc)
  | syncStartRecord
  | syncEndRecord
  | safLineMissingTimeout (n : Fin 4) (pic : BitVec 32) (row : Fin 64)
  | divergenceRx (i : Fin 16) (mask : BitVec 4)
  | ackRx (i : Fin 16) (seq : BitVec 32)
  | uncoveredRelease (n : Fin 4) (pic : BitVec 32) (row : Fin 64)
  | resendRequestRx (i : Fin 16) (seq : BitVec 32)
  | resendTimeout (seq : BitVec 32)
  | resyncRequestRx (i : Fin 16)
  | heartbeatToggle
  | pet (w : Writer)
  | trpTakeN
  | trpTakeover (d : Desc)
  | testTurn
  | trpHealthRead (d : Desc)
  | fwStage (d : Desc)
  | fwActivate (d : Desc)
  | updateGroupDrained (failed : List (Fin 96))
  | fwFlashWrite (d : Desc) (present : Bool)
  | flashWriteDone (ok : Bool)
  | fwFuse (d : Desc)
  | ldgRead (d : Desc)
  | ldgRingWrite (w : Writer) (value : BitVec 32)
  | housekeepingRound (temps : List (BitVec 16)) (failed : BitVec 24) (volts : List (BitVec 16)) (margin : Nat)
  | avsFail
  | avsEnWrite (w : Writer) (en : Bool)
  | thmWrite (w : Writer) (i : Fin 3) (value : BitVec 32)
  | thermtripAnalogue
  | railDrop
  | smbThmStatus (addr : BitVec 7) (pec : Bool)
  | smbTmax (addr : BitVec 7) (pec : Bool)
  | smbModeStatus (addr : BitVec 7) (pec : Bool)
  | smbReason (addr : BitVec 7) (pec : Bool)
  | smbChipId (addr : BitVec 7) (pec : Bool)
  | smbSensor (addr : BitVec 7) (x : Fin 24) (pec : Bool)
  | smbVoltage (addr : BitVec 7) (c : Fin 32) (pec : Bool)
  | smbHealth (addr : BitVec 7) (pec : Bool)
  | smbNak (addr : BitVec 7)
  | readyInstant
  | takeoverComplete (done : List (Fin 16384 × BitVec 64))
  | engineReloadDone (ok : Bool)
  | testTurnEnd (failed : List UnitId)
  | prbsCheckerSync (i : Fin 16) (gained : Bool) (compared errors : BitVec 32)
  | clk10InReturn
  | audMclkInReturn
  | powerOnResetRelease (b : Boot)
  deriving DecidableEq, Repr

end Sys2Proof
end

