-- ==== Sys2Proof/Config.lean ====
section
/-! DEFINITION. The free values: what the spec leaves open. Each constant has no body, so no proof can see a value of
it, and a claim holds whatever it is. `free` gives a fresh number for each draw (the State field `free` counts the
draws); the others are functions of what the open value depends on. -/

namespace Sys2Proof.Config

/-- A byte of a pre-empted task's context (R405): the spec does not state it. -/
opaque contextByte : Nat → Nat → Byte

/-- A fresh free number for the k-th draw, of any size; each use reduces it to the bound the spec sets. -/
opaque free : Nat → Nat

/-- Whether an exact value between two representable ones is rounded up, at a place (`site`) where the spec gives no
rounding: RATE (site 0), THETA (site 1), lat_j in half ps (site 2), LAT_MAX_NS (site 3), a sample on a 1 ms ramp (site 4), a 16-bit
component of the canvas (site 5), a sample of a line buffer (site 6), the whole-sample position that a search starts at (site 7). -/
opaque roundsUp : Nat → Rat → Bool

/-- x to the power y, e to the power x, the natural and the decimal logarithm as the device computes them in its transfer
characteristics (R181): the spec gives no precision. -/
opaque power : Rat → Rat → Rat
opaque exp : Rat → Rat
opaque ln : Rat → Rat
opaque log10 : Rat → Rat

/-- The taps of the Lanczos-windowed filter that every coefficient set holds at reset (R178), but one: set size, phase, tap. -/
opaque lanczos : Nat → Nat → Nat → Int

/-- A sample of a decoded picture: slot, picture, component, position. Decoding is the standard's and is not computed. -/
opaque decoded : List Nat → Nat

/-- What a decode slot's stream says of its colorimetry, transfer and range (R180): slot, which of the three. -/
opaque streamFormat : Nat → Nat → Nat

/-- A sample of a reconstructed picture of an encode slot: slot, picture, component, position. Reconstruction is the standard's and is
not computed. -/
opaque reconstructed : List Int → Nat

/-- The estimated bits of a vector against its predictor, when there is one (R229); the SATD of a block's differences by a Hadamard
transform whose size and scale the spec does not give (R230); which of several equally frequent vectors counts as the most
frequent (R227). -/
opaque vectorBits : Option (Int × Int) → Int × Int → Nat
opaque satd : List Int → Nat
opaque choice : List (Int × Int) → Nat

/-- The vector of merge candidate i of a coding unit, the sum of squared errors and the bits of a choice for one (R232): the
standards' and not computed. -/
opaque mergeVector : List Int → Nat → Option (Int × Int × Nat)
opaque squaredError : List Int → Nat
opaque choiceBits : List Int → Nat

/-- A motion hint component that does not fit 16 bits (R186). -/
opaque hintVector : Int → Int

/-- The SHA-256 digest of a byte string as a number (first byte most significant): the spec names the function and
does not define it. -/
opaque sha256 : List Byte → Nat

/-- Whether an ECDSA P-256 signature verifies: key, signed bytes, signature (the spec names the algorithm, FIPS 186-5). -/
opaque verifies : Nat → List Byte → List Byte → Bool

/-- O of R249 for a committed configuration (its fields in the order that Slots.lean lists them): the syntax of the
device's non-VCL units is its own and not part of its interface. -/
opaque overhead : List Nat → Nat

/-- Whether a layout exceeds the counts that Annex A of the standard sets for its level (R211): codec, level code,
columns, rows, slices of a picture. The spec does not restate Annex A. -/
opaque exceedsAnnexA : List Nat → Bool

/-- The bytes of a non-VCL unit of a picture before the bound O of R249: slot configuration, N, which unit. -/
opaque unitBytes : List Nat → Nat → Nat → Nat

/-- The 8-bit pixel (bytes A, R', G', B') of a FAULT_COLOUR in the Safety Net's output (R201, R205): the spec gives the colour
in 10 bits and the output in 8. -/
opaque blankPixel : Nat → Nat

/-- Where the AUD_MCLK_IN edges lie beside the frame starts of the DT grid (R362), and how far a port slews back in a frame (R363). -/
opaque mclkPhase : Nat → Nat
opaque mclkSlew : Nat → Nat → Nat

/-- What an Aknis Link lane's scrambler, precoder or training pattern starts from (R326, R333): lane, LC. -/
opaque wireStart : Nat → Nat → Nat

/-- The metadata of a 512 B block that a Face wrote (R398): its run, the block. Whether and how far the block's samples compress is not
computed. -/
opaque sectors : Nat → Nat → Nat

/-- A byte of a MIRROR record that the model does not compute (R433): which record, byte. -/
opaque recordByte : List Nat → Nat → Nat

/-- The Voxni firmware key, whose digest the boot ROM holds (R455). -/
opaque voxniKey : Nat

end Sys2Proof.Config
end

