-- ==== Sys2Proof/Machine/Bits.lean ====
section
/-! DEFINITION. Bit-field, sign, byte-order and table helpers used by every meaning. -/

namespace Sys2Proof

namespace Table

/-- The value under a key, if the table lists it. -/
def find {α : Type} : Table α → Nat → Option α
  | [], _ => none
  | (k, v) :: t, q => if q = k then some v else find t q

/-- The value under a key, or a default. -/
def getD {α : Type} (t : Table α) (k : Nat) (d : α) : α := (find t k).getD d

/-- Write a value under a key, keeping the keys rising. -/
def put {α : Type} : Table α → Nat → α → Table α
  | [], q, x => [(q, x)]
  | (k, v) :: t, q, x =>
    if q < k then (q, x) :: (k, v) :: t
    else if q = k then (q, x) :: t
    else (k, v) :: put t q x

/-- Remove a key. -/
def del {α : Type} : Table α → Nat → Table α
  | [], _ => []
  | (k, v) :: t, q => if q = k then del t q else (k, v) :: del t q

/-- Keys strictly rising. -/
def rising {α : Type} (t : Table α) : Prop := t.Pairwise (fun a b => a.1 < b.1)

/-- Apply a function to the value under a key, starting from a default. -/
def upd {α : Type} (t : Table α) (k : Nat) (d : α) (f : α → α) : Table α := put t k (f (getD t k d))

/-- Keep the entries that satisfy a test. -/
def keep {α : Type} (t : Table α) (p : Nat → α → Bool) : Table α := t.filter (fun e => p e.1 e.2)

/-- Apply a function to every value. -/
def mapv {α β : Type} (t : Table α) (f : Nat → α → β) : Table β := t.map (fun e => (e.1, f e.1 e.2))

/-- The keys whose values satisfy a test, in rising order. -/
def keysWhere {α : Type} (t : Table α) (p : Nat → α → Bool) : List Nat :=
  (t.filter (fun e => p e.1 e.2)).map (fun e => e.1)

end Table

/-- Bits `[hi:lo]` of a number. -/
def bits (n hi lo : Nat) : Nat := n / 2 ^ lo % 2 ^ (hi + 1 - lo)

/-- Bit `i` of a number. -/
def bit (n i : Nat) : Bool := n.testBit i

/-- A Bool as a register bit. -/
def b2n (b : Bool) : Nat := if b then 1 else 0

/-- The number whose only one bits are the listed ones. -/
def maskOf (l : List Nat) : Nat := l.foldl (fun m i => m ||| 2 ^ i) 0

/-- A number with one bit set. -/
def setBit (n i : Nat) : Nat := n ||| 2 ^ i

/-- A number with one bit cleared. -/
def clearBit (n i : Nat) : Nat := if n.testBit i then n - 2 ^ i else n

/-- The indices below `w` at which a number has a one bit, rising. -/
def bitsOf (w n : Nat) : List Nat := (List.range w).filter (fun i => n.testBit i)

/-- The number of one bits below `w`. -/
def popcount (w n : Nat) : Nat := (bitsOf w n).length

/-- The signed reading of the low `w` bits (two's complement). -/
def signed (w n : Nat) : Int :=
  if n % 2 ^ w < 2 ^ (w - 1) then ((n % 2 ^ w : Nat) : Int) else ((n % 2 ^ w : Nat) : Int) - (2 ^ w : Nat)

/-- The low `w` bits that stand for a signed number. -/
def unsigned (w : Nat) (i : Int) : Nat := (i % ((2 ^ w : Nat) : Int)).toNat

/-- A signed number held to the range of `w` bits. -/
def saturate (w : Nat) (i : Int) : Int :=
  if i < -((2 ^ (w - 1) : Nat) : Int) then -((2 ^ (w - 1) : Nat) : Int)
  else if ((2 ^ (w - 1) : Nat) : Int) - 1 < i then ((2 ^ (w - 1) : Nat) : Int) - 1 else i

/-- Ceiling division. -/
def ceilDiv (a b : Nat) : Nat := (a + b - 1) / b

/-- The distance from `b` up to `a`, modulo 2^32 (R117). -/
def sub32 (a b : Nat) : Nat := (a + 2 ^ 32 - b % 2 ^ 32) % 2 ^ 32

/-- A little-endian number from its bytes. -/
def leNat : List Byte → Nat
  | [] => 0
  | b :: l => b.toNat + 256 * leNat l

/-- The `n` little-endian bytes of a number. -/
def leBytes : Nat → Nat → List Byte
  | 0, _ => []
  | n + 1, v => BitVec.ofNat 8 v :: leBytes n (v / 256)

/-- A little-endian number of `n` bytes at byte `k` of a byte list (absent bytes read as zero). -/
def leAt (l : List Byte) (k n : Nat) : Nat := leNat ((l.drop k).take n)

/-- Absolute value of a rational. -/
def ratAbs (q : Rat) : Rat := if q < 0 then -q else q

end Sys2Proof
end

