-- ==== Sys2Proof/Machine/FieldsA.lean ====
section
/-! DEFINITION. The register fields of blocks HIF, PWR, THM, FW, LDG, TIM (R11, R13, R512), one definition per field of
the spec's field maps. Index arguments run as in the map: i the first, j the second, m the third; f is the function
whose copy of a per-function register is meant (R107). -/

namespace Sys2Proof.Machine.Reg

/-- HIF_CHIP_ID_PART bits [31:16], RO (00). Part number in binary-coded decimal -/
def HIF_CHIP_ID_PART : Field := { id := 1, off := 0x0, msb := 31, lsb := 16, acc := .ro, reset := 0x4816 }

/-- HIF_CHIP_ID_GRADE bits [15:12], RO (00). 0x1 = PN4816-C, 0x2 = PN4816-E; other values are not shipped -/
def HIF_CHIP_ID_GRADE : Field := { id := 2, off := 0x0, msb := 15, lsb := 12, acc := .ro, reset := 0x1 }

/-- HIF_CHIP_ID_STEP_MAJOR bits [11:8], RO (00). Stepping letter as hex digit: 0xB = B -/
def HIF_CHIP_ID_STEP_MAJOR : Field := { id := 3, off := 0x0, msb := 11, lsb := 8, acc := .ro, reset := 0xb }

/-- HIF_CHIP_ID_STEP_MINOR bits [7:4], RO (00). Stepping digit -/
def HIF_CHIP_ID_STEP_MINOR : Field := { id := 4, off := 0x0, msb := 7, lsb := 4, acc := .ro, reset := 0x0 }

/-- HIF_FN_OPEN_OPEN bits [31:31], WO (04). 1 opens the function, as in R114 -/
def HIF_FN_OPEN_OPEN (f : Nat) : Field := { id := 5, off := 0x10, msb := 31, lsb := 31, acc := .wo, reset := 0x0, fn := f }

/-- HIF_FN_OPEN_CLOSE bits [30:30], WO (04). 1 closes the function, as in R141 -/
def HIF_FN_OPEN_CLOSE (f : Nat) : Field := { id := 6, off := 0x10, msb := 30, lsb := 30, acc := .wo, reset := 0x0, fn := f }

/-- HIF_FN_OPEN_HOST_MAJOR bits [15:8], RW (04). ABI major the driver speaks -/
def HIF_FN_OPEN_HOST_MAJOR (f : Nat) : Field := { id := 7, off := 0x10, msb := 15, lsb := 8, acc := .rw, reset := 0x3, fn := f }

/-- HIF_FN_OPEN_HOST_MINOR bits [7:0], RW (04). Highest ABI minor the driver speaks -/
def HIF_FN_OPEN_HOST_MINOR (f : Nat) : Field := { id := 8, off := 0x10, msb := 7, lsb := 0, acc := .rw, reset := 0x0, fn := f }

/-- HIF_FN_STATUS_OPENED bits [31:31], RO (04). 1 while the function is open -/
def HIF_FN_STATUS_OPENED (f : Nat) : Field := { id := 9, off := 0x14, msb := 31, lsb := 31, acc := .ro, reset := 0x0, fn := f }

/-- HIF_FN_STATUS_ABI_MAJOR bits [23:16], RO (04). Negotiated major; 0x00 while closed -/
def HIF_FN_STATUS_ABI_MAJOR (f : Nat) : Field := { id := 10, off := 0x14, msb := 23, lsb := 16, acc := .ro, reset := 0x0, fn := f }

/-- HIF_FN_STATUS_ABI_MINOR bits [15:8], RO (04). Negotiated minor -/
def HIF_FN_STATUS_ABI_MINOR (f : Nat) : Field := { id := 11, off := 0x14, msb := 15, lsb := 8, acc := .ro, reset := 0x0, fn := f }

/-- HIF_FN_STATUS_DEV_MINOR_MAX bits [7:0], RO (04). Highest minor of major 3 the device implements -/
def HIF_FN_STATUS_DEV_MINOR_MAX (f : Nat) : Field := { id := 12, off := 0x14, msb := 7, lsb := 0, acc := .ro, reset := 0x2, fn := f }

/-- HIF_FN_LAST_LAST_STATUS bits [15:0], RO (04). Status of the last OPEN or CLOSE -/
def HIF_FN_LAST_STATUS (f : Nat) : Field := { id := 13, off := 0x18, msb := 15, lsb := 0, acc := .ro, reset := 0x0, fn := f }

/-- HIF_ADMIN_CFG_CQ_LOG2 bits [28:24], RW (04). Admin completion ring size, 6 to 16 -/
def HIF_ADMIN_CFG_CQ_LOG2 (f : Nat) : Field := { id := 14, off := 0x28, msb := 28, lsb := 24, acc := .rw, reset := 0x6, fn := f }

/-- HIF_ADMIN_CFG_SQ_LOG2 bits [20:16], RW (04). Admin submission ring size, 6 to 16 -/
def HIF_ADMIN_CFG_SQ_LOG2 (f : Nat) : Field := { id := 15, off := 0x28, msb := 20, lsb := 16, acc := .rw, reset := 0x6, fn := f }

/-- HIF_ADMIN_CFG_VECTOR bits [10:0], RW (04). Local vector of the admin completion ring -/
def HIF_ADMIN_CFG_VECTOR (f : Nat) : Field := { id := 16, off := 0x28, msb := 10, lsb := 0, acc := .rw, reset := 0x0, fn := f }

/-- HIF_FN_ERR_DESC_ERR_CNT bits [31:16], RO (04). Descriptors that failed R122 checks 1 to 6 -/
def HIF_FN_DESC_ERR_CNT (f : Nat) : Field := { id := 17, off := 0x30, msb := 31, lsb := 16, acc := .ro, reset := 0x0, fn := f }

/-- HIF_FN_ERR_DB_ERR_CNT bits [15:0], RO (04). Doorbells ignored, as in R137 -/
def HIF_FN_DB_ERR_CNT (f : Nat) : Field := { id := 18, off := 0x30, msb := 15, lsb := 0, acc := .ro, reset := 0x0, fn := f }

/-- HIF_FN_ERR2_DMA_ERR_CNT bits [31:16], RO (04). Failed host-memory reads, as in R119 -/
def HIF_FN_DMA_ERR_CNT (f : Nat) : Field := { id := 19, off := 0x34, msb := 31, lsb := 16, acc := .ro, reset := 0x0, fn := f }

/-- HIF_FN_ERR2_EVT_LOST_CNT bits [15:0], RO (04). Events lost to full EVT rings, as in R131 -/
def HIF_FN_EVT_LOST_CNT (f : Nat) : Field := { id := 20, off := 0x34, msb := 15, lsb := 0, acc := .ro, reset := 0x0, fn := f }

/-- HIF_FN_CLR_CLR bits [0:0], WO (04). 1 clears the four counters of this function -/
def HIF_FN_CLR_CLR (f : Nat) : Field := { id := 21, off := 0x38, msb := 0, lsb := 0, acc := .wo, reset := 0x0, fn := f }

/-- HIF_PEN_OWNER_ASSIGNED bits [31:31], RW (04). 1 when the pen is owned -/
def HIF_PEN_OWNER_ASSIGNED (i : Nat) : Field := { id := 22, off := 0x1000 + 0x4 * i, msb := 31, lsb := 31, acc := .rw, reset := if i = 0 then 1 else 0 }

/-- HIF_PEN_OWNER_FUNCTION bits [4:0], RW (04). Owning function f -/
def HIF_PEN_OWNER_FUNCTION (i : Nat) : Field := { id := 23, off := 0x1000 + 0x4 * i, msb := 4, lsb := 0, acc := .rw, reset := 0x0 }

/-- HIF_FN_VEC_VEC_COUNT bits [27:16], RW (04). Vectors of VF f, 0 to 512 -/
def HIF_FN_VEC_COUNT (i : Nat) : Field := { id := 24, off := 0x1400 + 0x4 * i, msb := 27, lsb := 16, acc := .rw, reset := 0x0 }

/-- HIF_FN_VEC_VEC_BASE bits [10:0], RW (04). First global vector, 64 to 2,047; not checked while VEC_COUNT is 0 (R139) -/
def HIF_FN_VEC_BASE (i : Nat) : Field := { id := 25, off := 0x1400 + 0x4 * i, msb := 10, lsb := 0, acc := .rw, reset := 0x0 }

/-- HIF_SLOT_OWNER_SLOT3 bits [28:24], RW (04). Function owning slot 3 -/
def HIF_SLOT_OWNER_SLOT3 : Field := { id := 26, off := 0x1480, msb := 28, lsb := 24, acc := .rw, reset := 0x0 }

/-- HIF_SLOT_OWNER_SLOT2 bits [20:16], RW (04). Function owning slot 2 -/
def HIF_SLOT_OWNER_SLOT2 : Field := { id := 27, off := 0x1480, msb := 20, lsb := 16, acc := .rw, reset := 0x0 }

/-- HIF_SLOT_OWNER_SLOT1 bits [12:8], RW (04). Function owning slot 1 -/
def HIF_SLOT_OWNER_SLOT1 : Field := { id := 28, off := 0x1480, msb := 12, lsb := 8, acc := .rw, reset := 0x0 }

/-- HIF_SLOT_OWNER_SLOT0 bits [4:0], RW (04). Function owning slot 0 -/
def HIF_SLOT_OWNER_SLOT0 : Field := { id := 29, off := 0x1480, msb := 4, lsb := 0, acc := .rw, reset := 0x0 }

/-- HIF_SETUP_STATUS_LAST_STATUS bits [15:0], RO (04). Status of the last write to a PF-only HIF_ register: 0x0000, 0x1401 or 0x1402 -/
def HIF_SETUP_STATUS_LAST_STATUS : Field := { id := 30, off := 0x1484, msb := 15, lsb := 0, acc := .ro, reset := 0x0 }

/-- HIF_ADMIN_BASE_LO bits [31:0], RW (04). -/
def HIF_ADMIN_BASE_LO (f : Nat) : Field := { id := 31, off := 0x20, msb := 31, lsb := 0, acc := .rw, reset := 0x0, fn := f }

/-- HIF_ADMIN_BASE_HI bits [31:0], RW (04). -/
def HIF_ADMIN_BASE_HI (f : Nat) : Field := { id := 32, off := 0x24, msb := 31, lsb := 0, acc := .rw, reset := 0x0, fn := f }

/-- PWR_MODE_CTRL_REQ bits [31:31], WO (03). 1 requests a transition to TARGET -/
def PWR_MODE_CTRL_REQ : Field := { id := 33, off := 0x40000, msb := 31, lsb := 31, acc := .wo, reset := 0x0 }

/-- PWR_MODE_CTRL_FORCE bits [30:30], WO (03). 1 allows the transition to stop slots, as in R85 -/
def PWR_MODE_CTRL_FORCE : Field := { id := 34, off := 0x40000, msb := 30, lsb := 30, acc := .wo, reset := 0x0 }

/-- PWR_MODE_CTRL_TARGET bits [3:0], RW (03). Target mode, as in R76 -/
def PWR_MODE_CTRL_TARGET : Field := { id := 35, off := 0x40000, msb := 3, lsb := 0, acc := .rw, reset := 0x0 }

/-- PWR_MODE_STATUS_CUR_MODE bits [31:28], RO (03). Mode in force -/
def PWR_MODE_STATUS_CUR_MODE : Field := { id := 36, off := 0x40004, msb := 31, lsb := 28, acc := .ro, reset := 0x0 }

/-- PWR_MODE_STATUS_TARGET_MODE bits [27:24], RO (03). Mode being entered; equals CUR_MODE when PHASE is STABLE -/
def PWR_MODE_STATUS_TARGET_MODE : Field := { id := 37, off := 0x40004, msb := 27, lsb := 24, acc := .ro, reset := 0x0 }

/-- PWR_MODE_STATUS_PHASE bits [23:20], RO (03). 0x0 STABLE, 0x1 BOOT, 0x2 BOOT_WAIT, 0x3 TRAINING, 0x4 DRAINING, 0x5 POWERING, 0x6 LOADING, 0x7 TAKEOVER, 0... -/
def PWR_MODE_STATUS_PHASE : Field := { id := 38, off := 0x40004, msb := 23, lsb := 20, acc := .ro, reset := 0x1 }

/-- PWR_MODE_STATUS_ACTIVE_PAIR bits [19:18], RO (03). Supervisor pair in charge -/
def PWR_MODE_STATUS_ACTIVE_PAIR : Field := { id := 39, off := 0x40004, msb := 19, lsb := 18, acc := .ro, reset := 0x0 }

/-- PWR_MODE_STATUS_LAST_STATUS bits [15:0], RO (03). Status of the last mode request or transition -/
def PWR_MODE_STATUS_LAST_STATUS : Field := { id := 40, off := 0x40004, msb := 15, lsb := 0, acc := .ro, reset := 0x0 }

/-- PWR_SERVICE_REASON_REASON bits [15:0], RO (03). Why the device is in SERVICE or HALTED; 0x0000 after boot or on request -/
def PWR_SERVICE_REASON : Field := { id := 41, off := 0x40008, msb := 15, lsb := 0, acc := .ro, reset := 0x0 }

/-- PWR_BOOT_AUTO_MODE bits [7:4], RO (03). AUTOSTART mode from the configuration image; 0xF none -/
def PWR_BOOT_AUTO_MODE : Field := { id := 42, off := 0x4000c, msb := 7, lsb := 4, acc := .ro, reset := 0xf }

/-- PWR_BOOT_BOOT_USED bits [3:2], RO (03). 0x0 none yet, 0x1 xSPI flash, 0x2 PCIe -/
def PWR_BOOT_BOOT_USED : Field := { id := 43, off := 0x4000c, msb := 3, lsb := 2, acc := .ro, reset := 0x0 }

/-- PWR_BOOT_BOOT_STRAP bits [1:0], RO (03). BOOT_SRC as sampled -/
def PWR_BOOT_BOOT_STRAP : Field := { id := 44, off := 0x4000c, msb := 1, lsb := 0, acc := .ro, reset := 0x0 }

/-- PWR_FENCE_A_PAIR bits [31:28], RO (03). Bit i: supervisor pair i fenced -/
def PWR_FENCE_PAIR : Field := { id := 45, off := 0x40010, msb := 31, lsb := 28, acc := .ro, reset := 0x0 }

/-- PWR_FENCE_A_CMP bits [27:24], RO (03). Bit i: compositor Ci fenced -/
def PWR_FENCE_CMP : Field := { id := 46, off := 0x40010, msb := 27, lsb := 24, acc := .ro, reset := 0x0 }

/-- PWR_FENCE_A_FACE bits [15:0], RO (03). Bit i: Face i fenced -/
def PWR_FENCE_FACE : Field := { id := 47, off := 0x40010, msb := 15, lsb := 0, acc := .ro, reset := 0x0 }

/-- PWR_FENCE_B_LANE bits [15:0], RO (03). Bit i: LN i fenced -/
def PWR_FENCE_LANE : Field := { id := 48, off := 0x40014, msb := 15, lsb := 0, acc := .ro, reset := 0x0 }

/-- PWR_FENCE_E_ENGINE bits [31:0], RO (03). Bit i: slice engine E(32 × m + i) fenced, where m is 0, 1 or 2 -/
def PWR_FENCE_ENGINE (i : Nat) : Field := { id := 49, off := 0x40018 + 0x4 * i, msb := 31, lsb := 0, acc := .ro, reset := 0x0 }

/-- PWR_FENCE_C_AUDIO bits [23:16], RO (03). Bit i: audio DSP Ai fenced -/
def PWR_FENCE_AUDIO : Field := { id := 50, off := 0x40024, msb := 23, lsb := 16, acc := .ro, reset := 0x0 }

/-- PWR_FENCE_C_LINK bits [15:0], RO (03). Bit i: link engine Li fenced; LN i is then fenced too, as in R96 -/
def PWR_FENCE_LINK : Field := { id := 51, off := 0x40024, msb := 15, lsb := 0, acc := .ro, reset := 0x0 }

/-- PWR_RESET_KEY bits [31:16], WO (03). Must be 0xA5C3 in the same write as DEVICE -/
def PWR_RESET_KEY : Field := { id := 52, off := 0x40030, msb := 31, lsb := 16, acc := .wo, reset := 0x0 }

/-- PWR_RESET_DEVICE bits [0:0], WO (03). 1 requests a device reset, as in R87 -/
def PWR_RESET_DEVICE : Field := { id := 53, off := 0x40030, msb := 0, lsb := 0, acc := .wo, reset := 0x0 }

/-- PWR_CNT_MODE_CHANGE_CNT bits [31:16], RO (03). Transitions completed, take-overs included -/
def PWR_MODE_CHANGE_CNT : Field := { id := 54, off := 0x40034, msb := 31, lsb := 16, acc := .ro, reset := 0x0 }

/-- PWR_CNT_REFUSED_CNT bits [15:0], RO (03). Mode requests refused -/
def PWR_REFUSED_CNT : Field := { id := 55, off := 0x40034, msb := 15, lsb := 0, acc := .ro, reset := 0x0 }

/-- PWR_CNT_CLR_CLR bits [0:0], WO (03). 1 clears MODE_CHANGE_CNT and REFUSED_CNT -/
def PWR_CNT_CLR_CLR : Field := { id := 56, off := 0x40038, msb := 0, lsb := 0, acc := .wo, reset := 0x0 }

/-- PWR_PD_ON_ON bits [31:0], RO (19). Bit i: PD(32 × m + i) powered, where m is 0, 1 or 2 -/
def PWR_PD_ON (i : Nat) : Field := { id := 57, off := 0x40040 + 0x4 * i, msb := 31, lsb := 0, acc := .ro, reset := 0x0 }

/-- PWR_AVS_AVS_EN bits [31:31], RW (19). 1 runs adaptive core voltage, as in R475 -/
def PWR_AVS_EN : Field := { id := 58, off := 0x40050, msb := 31, lsb := 31, acc := .rw, reset := 0x0 }

/-- PWR_AVS_V_FUSE_MV bits [25:16], RO (19). V_FUSE in mV, 680 to 880 -/
def PWR_AVS_V_FUSE_MV : Field := { id := 59, off := 0x40050, msb := 25, lsb := 16, acc := .ro, reset := 0x352 }

/-- PWR_AVS_V_TGT_MV bits [9:0], RO (19). V_TGT in mV. Reads 865, the start voltage of R504, until AVS_EN is first set to 1; from then on, the target... -/
def PWR_AVS_V_TGT_MV : Field := { id := 60, off := 0x40050, msb := 9, lsb := 0, acc := .ro, reset := 0x361 }

/-- PWR_AVS_CNT_AVS_ERR_CNT bits [31:16], RO (19). AVSBus failures, as in R476 -/
def PWR_AVS_ERR_CNT : Field := { id := 61, off := 0x40054, msb := 31, lsb := 16, acc := .ro, reset := 0x0 }

/-- PWR_AVS_CNT_AVS_STEP_CNT bits [15:0], RO (19). Changes of V_TGT -/
def PWR_AVS_STEP_CNT : Field := { id := 62, off := 0x40054, msb := 15, lsb := 0, acc := .ro, reset := 0x0 }

/-- THM_THRESH_SHUTDOWN_C bits [31:24], RW (19). Shutdown threshold, °C -/
def THM_THRESH_SHUTDOWN_C : Field := { id := 63, off := 0x80000, msb := 31, lsb := 24, acc := .rw, reset := 0x70 }

/-- THM_THRESH_THROTTLE_C bits [23:16], RW (19). Throttle level 1 threshold, °C -/
def THM_THRESH_THROTTLE_C : Field := { id := 64, off := 0x80000, msb := 23, lsb := 16, acc := .rw, reset := 0x66 }

/-- THM_THRESH_WARN_C bits [15:8], RW (19). Warning threshold, °C -/
def THM_THRESH_WARN_C : Field := { id := 65, off := 0x80000, msb := 15, lsb := 8, acc := .rw, reset := 0x5f }

/-- THM_THRESH_STEP_C bits [7:4], RW (19). Spacing of throttle levels, °C -/
def THM_THRESH_STEP_C : Field := { id := 66, off := 0x80000, msb := 7, lsb := 4, acc := .rw, reset := 0x2 }

/-- THM_THRESH_HYST_C bits [3:0], RW (19). Hysteresis, °C -/
def THM_THRESH_HYST_C : Field := { id := 67, off := 0x80000, msb := 3, lsb := 0, acc := .rw, reset := 0x3 }

/-- THM_CFG_DWELL bits [31:28], RW (19). Rounds of dwell, 1 to 15 -/
def THM_CFG_DWELL : Field := { id := 68, off := 0x80004, msb := 31, lsb := 28, acc := .rw, reset := 0x4 }

/-- THM_CFG_SENSOR_MASK bits [23:0], RW (19). Bit s: sensor s left out of Tmax, as in R482 -/
def THM_CFG_SENSOR_MASK : Field := { id := 69, off := 0x80004, msb := 23, lsb := 0, acc := .rw, reset := 0x0 }

/-- THM_BANDS_EDGE3 bits [23:16], RW (19). Band 3 edge, signed °C -/
def THM_BANDS_EDGE3 : Field := { id := 70, off := 0x80008, msb := 23, lsb := 16, acc := .rw, reset := 0x5f }

/-- THM_BANDS_EDGE2 bits [15:8], RW (19). Band 2 edge, signed °C -/
def THM_BANDS_EDGE2 : Field := { id := 71, off := 0x80008, msb := 15, lsb := 8, acc := .rw, reset := 0x55 }

/-- THM_BANDS_EDGE1 bits [7:0], RW (19). Band 1 edge, signed °C -/
def THM_BANDS_EDGE1 : Field := { id := 72, off := 0x80008, msb := 7, lsb := 0, acc := .rw, reset := 0x0 }

/-- THM_STATUS_TRIP bits [31:31], RO (19). Shutdown asserted, or analogue trip -/
def THM_STATUS_TRIP : Field := { id := 73, off := 0x8000c, msb := 31, lsb := 31, acc := .ro, reset := 0x0 }

/-- THM_STATUS_WARN bits [30:30], RO (19). Warning asserted -/
def THM_STATUS_WARN : Field := { id := 74, off := 0x8000c, msb := 30, lsb := 30, acc := .ro, reset := 0x0 }

/-- THM_STATUS_LEVEL bits [29:27], RO (19). THERM_STEP, 0 to 5 -/
def THM_STATUS_LEVEL : Field := { id := 75, off := 0x8000c, msb := 29, lsb := 27, acc := .ro, reset := 0x0 }

/-- THM_STATUS_BAND bits [26:25], RO (19). Band in force -/
def THM_STATUS_BAND : Field := { id := 76, off := 0x8000c, msb := 26, lsb := 25, acc := .ro, reset := 0x0 }

/-- THM_STATUS_SENS_FAIL bits [23:0], RO (19). Bit s: sensor s failed -/
def THM_STATUS_SENS_FAIL : Field := { id := 77, off := 0x8000c, msb := 23, lsb := 0, acc := .ro, reset := 0x0 }

/-- THM_TMAX_TMAX bits [31:16], RO (19). Tmax, signed, 0.1 °C -/
def THM_TMAX : Field := { id := 78, off := 0x80010, msb := 31, lsb := 16, acc := .ro, reset := 0x0 }

/-- THM_TMAX_TMAX_SENSOR bits [4:0], RO (19). Sensor giving Tmax -/
def THM_TMAX_SENSOR : Field := { id := 79, off := 0x80010, msb := 4, lsb := 0, acc := .ro, reset := 0x0 }

/-- THM_CNT_VOLT_ERR_CNT bits [31:16], RO (19). As in R489, R485 -/
def THM_VOLT_ERR_CNT : Field := { id := 80, off := 0x80020, msb := 31, lsb := 16, acc := .ro, reset := 0x0 }

/-- THM_CNT_THROTTLE_CNT bits [15:0], RO (19). As in R489, R485 -/
def THM_THROTTLE_CNT : Field := { id := 81, off := 0x80020, msb := 15, lsb := 0, acc := .ro, reset := 0x0 }

/-- THM_CNT_WARN_CNT bits [31:16], RO (19). As in R484, R491 -/
def THM_WARN_CNT : Field := { id := 82, off := 0x80024, msb := 31, lsb := 16, acc := .ro, reset := 0x0 }

/-- THM_CNT_SMB_ERR_CNT bits [15:0], RO (19). As in R484, R491 -/
def THM_SMB_ERR_CNT : Field := { id := 83, off := 0x80024, msb := 15, lsb := 0, acc := .ro, reset := 0x0 }

/-- THM_CNT_CLR bits [0:0], WO (19). 1 clears every THM_ counter; bits [31:1] RSV -/
def THM_CLR : Field := { id := 84, off := 0x80028, msb := 0, lsb := 0, acc := .wo, reset := 0x0 }

/-- THM_TEMP_TEMP bits [31:16], RO (19). Reading, signed, 0.1 °C -/
def THM_TEMP (i : Nat) : Field := { id := 85, off := 0x80100 + 0x4 * i, msb := 31, lsb := 16, acc := .ro, reset := 0x0 }

/-- THM_TEMP_FAIL bits [0:0], RO (19). Sensor failed, as in R481 -/
def THM_TEMP_FAIL (i : Nat) : Field := { id := 86, off := 0x80100 + 0x4 * i, msb := 0, lsb := 0, acc := .ro, reset := 0x0 }

/-- THM_VOLT_MV bits [31:16], RO (19). Reading in mV -/
def THM_VOLT_MV (i : Nat) : Field := { id := 87, off := 0x80200 + 0x4 * i, msb := 31, lsb := 16, acc := .ro, reset := 0x0 }

/-- THM_VOLT_OUT bits [0:0], RO (19). Out of window, as in R489 -/
def THM_VOLT_OUT (i : Nat) : Field := { id := 88, off := 0x80200 + 0x4 * i, msb := 0, lsb := 0, acc := .ro, reset := 0x0 }

/-- FW_BOOT_STATUS_BANK bits [31:30], RO (18). 0x0 none, 0x1 A, 0x2 B, 0x3 PCIe bundle -/
def FW_BOOT_STATUS_BANK : Field := { id := 89, off := 0xc0000, msb := 31, lsb := 30, acc := .ro, reset := 0x0 }

/-- FW_BOOT_STATUS_PCIE_STATUS bits [15:0], RO (18). Status of the last PCIe bundle (R462) -/
def FW_BOOT_STATUS_PCIE_STATUS : Field := { id := 90, off := 0xc0000, msb := 15, lsb := 0, acc := .ro, reset := 0x0 }

/-- FW_BANK_STATUS_BANK_A bits [31:16], RO (18). First failed check of bank A at boot; 0x0000 if it passed -/
def FW_BANK_STATUS_BANK_A : Field := { id := 91, off := 0xc0004, msb := 31, lsb := 16, acc := .ro, reset := 0x0 }

/-- FW_BANK_STATUS_BANK_B bits [15:0], RO (18). The same for bank B -/
def FW_BANK_STATUS_BANK_B : Field := { id := 92, off := 0xc0004, msb := 15, lsb := 0, acc := .ro, reset := 0x0 }

/-- FW_PCIE_CTRL_GO bits [31:31], WO (18). 1 reads and checks the bundle, as in R462 -/
def FW_PCIE_CTRL_GO : Field := { id := 93, off := 0xc0010, msb := 31, lsb := 31, acc := .wo, reset := 0x0 }

/-- FW_PCIE_CTRL_LEN bits [24:0], RW (18). Bundle length, 4,096 to 16,777,216 B -/
def FW_PCIE_CTRL_LEN : Field := { id := 94, off := 0xc0010, msb := 24, lsb := 0, acc := .rw, reset := 0x0 }

/-- FW_VERSION_VERSION bits [31:0], RO (18). VERSION in force of TYPE t -/
def FW_VERSION (i : Nat) : Field := { id := 95, off := 0xc0020 + 0x4 * i, msb := 31, lsb := 0, acc := .ro, reset := 0x0 }

/-- FW_UPDATE_ACTIVE bits [31:31], RO (18). An update runs -/
def FW_UPDATE_ACTIVE : Field := { id := 96, off := 0xc0048, msb := 31, lsb := 31, acc := .ro, reset := 0x0 }

/-- FW_UPDATE_TYPE bits [30:28], RO (18). Type being updated -/
def FW_UPDATE_TYPE : Field := { id := 97, off := 0xc0048, msb := 30, lsb := 28, acc := .ro, reset := 0x0 }

/-- FW_UPDATE_STEP bits [27:24], RO (18). Group, pair, engine or DSP in progress -/
def FW_UPDATE_STEP : Field := { id := 98, off := 0xc0048, msb := 27, lsb := 24, acc := .ro, reset := 0x0 }

/-- FW_UPDATE_PENDING bits [23:20], RO (18). Bit t − 1: TYPE t has a pending image -/
def FW_UPDATE_PENDING : Field := { id := 99, off := 0xc0048, msb := 23, lsb := 20, acc := .ro, reset := 0x0 }

/-- FW_UPDATE_LAST_STATUS bits [15:0], RO (18). Status of the last FW_ descriptor -/
def FW_UPDATE_LAST_STATUS : Field := { id := 100, off := 0xc0048, msb := 15, lsb := 0, acc := .ro, reset := 0x0 }

/-- FW_STAGE_BASE_BASE bits [26:0], RO (18). Staging area in 4 KiB units, from the configuration image (R463) -/
def FW_STAGE_BASE : Field := { id := 101, off := 0xc004c, msb := 26, lsb := 0, acc := .ro, reset := 0x100000 }

/-- FW_ROLLBACK_CONFIG bits [29:24], RO (18). Minimum ROLLBACK, TYPE 0x8 -/
def FW_ROLLBACK_CONFIG : Field := { id := 102, off := 0xc0050, msb := 29, lsb := 24, acc := .ro, reset := 0x0 }

/-- FW_ROLLBACK_AUDIO bits [23:18], RO (18). TYPE 0x4 -/
def FW_ROLLBACK_AUDIO : Field := { id := 103, off := 0xc0050, msb := 23, lsb := 18, acc := .ro, reset := 0x0 }

/-- FW_ROLLBACK_LINK bits [17:12], RO (18). TYPE 0x3 -/
def FW_ROLLBACK_LINK : Field := { id := 104, off := 0xc0050, msb := 17, lsb := 12, acc := .ro, reset := 0x0 }

/-- FW_ROLLBACK_SLICE bits [11:6], RO (18). TYPE 0x2 -/
def FW_ROLLBACK_SLICE : Field := { id := 105, off := 0xc0050, msb := 11, lsb := 6, acc := .ro, reset := 0x0 }

/-- FW_ROLLBACK_SUPER bits [5:0], RO (18). TYPE 0x1 -/
def FW_ROLLBACK_SUPER : Field := { id := 106, off := 0xc0050, msb := 5, lsb := 0, acc := .ro, reset := 0x0 }

/-- FW_OWNER_FUSED bits [31:31], RO (18). 1 once an owner key digest is fused -/
def FW_OWNER_FUSED : Field := { id := 107, off := 0xc0054, msb := 31, lsb := 31, acc := .ro, reset := 0x0 }

/-- FW_OWNER_STAGE_ERR_CNT bits [15:0], RO (18). Staged copies reloaded, as in R463 -/
def FW_STAGE_ERR_CNT : Field := { id := 108, off := 0xc0054, msb := 15, lsb := 0, acc := .ro, reset := 0x0 }

/-- FW_PCIE_ADDR_LO bits [31:0], RW (18). -/
def FW_PCIE_ADDR_LO : Field := { id := 109, off := 0xc0008, msb := 31, lsb := 0, acc := .rw, reset := 0x0 }

/-- FW_PCIE_ADDR_HI bits [31:0], RW (18). -/
def FW_PCIE_ADDR_HI : Field := { id := 110, off := 0xc000c, msb := 31, lsb := 0, acc := .rw, reset := 0x0 }

/-- FW_SET_LO bits [31:0], RO (18). -/
def FW_SET_LO : Field := { id := 111, off := 0xc0040, msb := 31, lsb := 0, acc := .ro, reset := 0x0 }

/-- FW_SET_HI bits [31:0], RO (18). -/
def FW_SET_HI : Field := { id := 112, off := 0xc0044, msb := 31, lsb := 0, acc := .ro, reset := 0x0 }

/-- LDG_RING_LOG2 bits [31:27], RW (18). Ring of 2^LOG2 entries, 10 to 24; 0 no ring -/
def LDG_RING_LOG2 : Field := { id := 113, off := 0x100000, msb := 31, lsb := 27, acc := .rw, reset := 0x0 }

/-- LDG_RING_LDG_BASE bits [26:0], RW (18). Ring in 4 KiB units -/
def LDG_RING_BASE : Field := { id := 114, off := 0x100000, msb := 26, lsb := 0, acc := .rw, reset := 0x0 }

/-- LDG_SEQ_NEXT_SEQ bits [31:0], RO (18). SEQ the next entry will carry -/
def LDG_NEXT_SEQ : Field := { id := 115, off := 0x100004, msb := 31, lsb := 0, acc := .ro, reset := 0x0 }

/-- LDG_CNT_OVERRUN_CNT bits [31:0], RO (18). Entries lost, as in R470 -/
def LDG_OVERRUN_CNT : Field := { id := 116, off := 0x100008, msb := 31, lsb := 0, acc := .ro, reset := 0x0 }

/-- LDG_CLR_LAST_STATUS bits [15:0], RO (18). 0x1181 when a LDG_RING write is out of range or the ring is outside in-service DRAM; the write is ignored -/
def LDG_LAST_STATUS : Field := { id := 117, off := 0x10000c, msb := 15, lsb := 0, acc := .ro, reset := 0x0 }

/-- TIM_CTRL_SLEW_PPB bits [23:8], RW (02). Slew limit at a switch or revert, 1 to 10,000 ppb -/
def TIM_CTRL_SLEW_PPB : Field := { id := 118, off := 0x140000, msb := 23, lsb := 8, acc := .rw, reset := 0x3e8 }

/-- TIM_CTRL_REVERT bits [7:7], WO (02). 1 returns the active domain to primary, as in R57 -/
def TIM_CTRL_REVERT : Field := { id := 119, off := 0x140000, msb := 7, lsb := 7, acc := .wo, reset := 0x0 }

/-- TIM_CTRL_SLEWING bits [6:6], RO (02). 1 while the active DT differs from its domain -/
def TIM_CTRL_SLEWING : Field := { id := 120, off := 0x140000, msb := 6, lsb := 6, acc := .ro, reset := 0x0 }

/-- TIM_CTRL_ACTIVE bits [5:5], RO (02). 0 = primary active, 1 = secondary active -/
def TIM_CTRL_ACTIVE : Field := { id := 121, off := 0x140000, msb := 5, lsb := 5, acc := .ro, reset := 0x0 }

/-- TIM_CTRL_PLL_REF bits [4:4], RW (02). 0 = 25 MHz system clock, 1 = CLK10_IN -/
def TIM_CTRL_PLL_REF : Field := { id := 122, off := 0x140000, msb := 4, lsb := 4, acc := .rw, reset := 0x0 }

/-- TIM_CTRL_POLICY bits [3:2], RW (02). 0x0 REFUSE, 0x1 SWITCH; other values rejected -/
def TIM_CTRL_POLICY : Field := { id := 123, off := 0x140000, msb := 3, lsb := 2, acc := .rw, reset := 0x0 }

/-- TIM_SNAP_SNAP bits [0:0], WO (02). 1 captures the snapshot, as in R45 -/
def TIM_SNAP_SNAP : Field := { id := 124, off := 0x140004, msb := 0, lsb := 0, acc := .wo, reset := 0x0 }

/-- TIM_SNAP_DT_SEC_LO bits [31:0], RO (02). Seconds [31:0] -/
def TIM_SNAP_DT_SEC_LO (i : Nat) : Field := { id := 125, off := 0x140010 + 0x10 * i, msb := 31, lsb := 0, acc := .ro, reset := 0x0 }

/-- TIM_SNAP_DT_SEC_HI bits [15:0], RO (02). Seconds [47:32] -/
def TIM_SNAP_DT_SEC_HI (i : Nat) : Field := { id := 126, off := 0x140014 + 0x10 * i, msb := 15, lsb := 0, acc := .ro, reset := 0x0 }

/-- TIM_SNAP_DT_NS bits [31:0], RO (02). Nanoseconds -/
def TIM_SNAP_DT_NS (i : Nat) : Field := { id := 127, off := 0x140018 + 0x10 * i, msb := 31, lsb := 0, acc := .ro, reset := 0x0 }

/-- TIM_SNAP_DT_FRAC bits [15:0], RO (02). Fractional ns -/
def TIM_SNAP_DT_FRAC (i : Nat) : Field := { id := 128, off := 0x14001c + 0x10 * i, msb := 15, lsb := 0, acc := .ro, reset := 0x0 }

/-- TIM_DOM_CTRL_ENABLE bits [31:31], RW (02). 1 enables the domain; it enters FREERUN. 0 disables it, as R516 states -/
def TIM_DOM_ENABLE (i : Nat) : Field := { id := 129, off := 0x140100 + 0x40 * i, msb := 31, lsb := 31, acc := .rw, reset := 0x0 }

/-- TIM_DOM_CTRL_ACCEPT_JUMP bits [30:30], WO (02). 1 moves a domain in HOLDOVER to ACQUIRE, as in R53; ignored in other states -/
def TIM_DOM_ACCEPT_JUMP (i : Nat) : Field := { id := 130, off := 0x140100 + 0x40 * i, msb := 30, lsb := 30, acc := .wo, reset := 0x0 }

/-- TIM_DOM_CTRL_SOURCE bits [29:28], RW (02). 0x0 PTP, 0x1 PPS_IN; other values rejected -/
def TIM_DOM_SOURCE (i : Nat) : Field := { id := 131, off := 0x140100 + 0x40 * i, msb := 29, lsb := 28, acc := .rw, reset := 0x0 }

/-- TIM_DOM_CTRL_DREQ_UNI bits [27:27], RW (02). 1 sends Delay_Req by unicast to the selected master -/
def TIM_DOM_DREQ_UNI (i : Nat) : Field := { id := 132, off := 0x140100 + 0x40 * i, msb := 27, lsb := 27, acc := .rw, reset := 0x0 }

/-- TIM_DOM_CTRL_LANE_MASK bits [23:8], RW (02). Lanes on which this domain receives PTP; bit i is LN i -/
def TIM_DOM_LANE_MASK (i : Nat) : Field := { id := 133, off := 0x140100 + 0x40 * i, msb := 23, lsb := 8, acc := .rw, reset := 0x0 }

/-- TIM_DOM_CTRL_PTP_DOMAIN bits [7:0], RW (02). PTP domain number, 0 to 127 -/
def TIM_DOM_PTP_DOMAIN (i : Nat) : Field := { id := 134, off := 0x140100 + 0x40 * i, msb := 7, lsb := 0, acc := .rw, reset := 0x7f }

/-- TIM_DOM_SERVO_KP bits [31:24], RW (02). Proportional gain × 256, 1 to 255 -/
def TIM_DOM_KP (i : Nat) : Field := { id := 135, off := 0x140104 + 0x40 * i, msb := 31, lsb := 24, acc := .rw, reset := 0x80 }

/-- TIM_DOM_SERVO_KI bits [23:16], RW (02). Integral gain × 256, 1 to 255 -/
def TIM_DOM_KI (i : Nat) : Field := { id := 136, off := 0x140104 + 0x40 * i, msb := 23, lsb := 16, acc := .rw, reset := 0x8 }

/-- TIM_DOM_SERVO_STEP_US bits [15:0], RW (02). Step threshold in ACQUIRE, 1 to 65,535 µs -/
def TIM_DOM_STEP_US (i : Nat) : Field := { id := 137, off := 0x140104 + 0x40 * i, msb := 15, lsb := 0, acc := .rw, reset := 0x32 }

/-- TIM_DOM_LIMITS_JUMP_NS bits [31:16], RW (02). Jump threshold, 50 to 65,535 ns -/
def TIM_DOM_JUMP_NS (i : Nat) : Field := { id := 138, off := 0x140108 + 0x40 * i, msb := 31, lsb := 16, acc := .rw, reset := 0x3e8 }

/-- TIM_DOM_RATE_RATE bits [31:0], RO (02). Rate in force, signed, units of 2^−40 -/
def TIM_DOM_RATE (i : Nat) : Field := { id := 139, off := 0x14010c + 0x40 * i, msb := 31, lsb := 0, acc := .ro, reset := 0x0 }

/-- TIM_DOM_STATUS_STATE bits [31:28], RO (02). 0x0 FREERUN, 0x1 ACQUIRE, 0x2 LOCKED, 0x3 HOLDOVER; reads 0x0 while disabled -/
def TIM_DOM_STATE (i : Nat) : Field := { id := 140, off := 0x140110 + 0x40 * i, msb := 31, lsb := 28, acc := .ro, reset := 0x0 }

/-- TIM_DOM_STATUS_JUMP_FLAG bits [27:27], W1C (02). A jump was refused -/
def TIM_DOM_JUMP_FLAG (i : Nat) : Field := { id := 141, off := 0x140110 + 0x40 * i, msb := 27, lsb := 27, acc := .w1c, reset := 0x0 }

/-- TIM_DOM_STATUS_LOSS_FLAG bits [26:26], W1C (02). The master or PPS_IN was lost -/
def TIM_DOM_LOSS_FLAG (i : Nat) : Field := { id := 142, off := 0x140110 + 0x40 * i, msb := 26, lsb := 26, acc := .w1c, reset := 0x0 }

/-- TIM_DOM_THETA_THETA bits [31:0], RO (02). Theta of the last accepted sample, signed ns, saturating -/
def TIM_DOM_THETA (i : Nat) : Field := { id := 143, off := 0x140114 + 0x40 * i, msb := 31, lsb := 0, acc := .ro, reset := 0x0 }

/-- TIM_DOM_CNT_DISCARD_CNT bits [31:16], RO (02). Samples discarded, as in R43, R49 and R54 -/
def TIM_DOM_DISCARD_CNT (i : Nat) : Field := { id := 144, off := 0x140118 + 0x40 * i, msb := 31, lsb := 16, acc := .ro, reset := 0x0 }

/-- TIM_DOM_CNT_PTP_ERR_CNT bits [15:0], RO (02). Malformed PTP messages, as in R48 -/
def TIM_DOM_PTP_ERR_CNT (i : Nat) : Field := { id := 145, off := 0x140118 + 0x40 * i, msb := 15, lsb := 0, acc := .ro, reset := 0x0 }

/-- TIM_DOM_TOD_TOD_SEC bits [31:0], WO (02). Seconds [31:0] denoted by the next PPS_IN edge; seconds [47:32] are kept -/
def TIM_DOM_TOD_SEC (i : Nat) : Field := { id := 146, off := 0x14011c + 0x40 * i, msb := 31, lsb := 0, acc := .wo, reset := 0x0 }

/-- TIM_DOM_CLR_CLR bits [0:0], WO (02). 1 clears DISCARD_CNT and PTP_ERR_CNT -/
def TIM_DOM_CLR_CLR (i : Nat) : Field := { id := 147, off := 0x140120 + 0x40 * i, msb := 0, lsb := 0, acc := .wo, reset := 0x0 }

/-- TIM_PPS_OUT_EN bits [31:31], RW (02). Enables PPS_OUT -/
def TIM_PPS_OUT_EN : Field := { id := 148, off := 0x140200, msb := 31, lsb := 31, acc := .rw, reset := 0x0 }

/-- TIM_PPS_CLK10_OUT_EN bits [30:30], RW (02). Enables CLK10_OUT -/
def TIM_PPS_CLK10_OUT_EN : Field := { id := 149, off := 0x140200, msb := 30, lsb := 30, acc := .rw, reset := 0x0 }

/-- TIM_PPS_WIDTH_US bits [19:0], RW (02). PPS_OUT high time, 1 to 500,000 µs -/
def TIM_PPS_WIDTH_US : Field := { id := 150, off := 0x140200, msb := 19, lsb := 0, acc := .rw, reset := 0x186a0 }

/-- TIM_PPS_COMP_OUT_COMP_NS bits [31:16], RW (02). Signed ns added to output edges, for board delay -/
def TIM_PPS_OUT_COMP_NS : Field := { id := 151, off := 0x140204, msb := 31, lsb := 16, acc := .rw, reset := 0x0 }

/-- TIM_PPS_COMP_IN_COMP_NS bits [15:0], RW (02). Signed ns added to PPS_IN stamps -/
def TIM_PPS_IN_COMP_NS : Field := { id := 152, off := 0x140204, msb := 15, lsb := 0, acc := .rw, reset := 0x0 }

/-- TIM_REFSTAT_CLK10_LOST bits [3:3], W1C (02). CLK10_IN was lost -/
def TIM_REFSTAT_CLK10_LOST : Field := { id := 153, off := 0x140208, msb := 3, lsb := 3, acc := .w1c, reset := 0x0 }

/-- TIM_REFSTAT_PPS_LOST bits [2:2], W1C (02). PPS_IN was lost -/
def TIM_REFSTAT_PPS_LOST : Field := { id := 154, off := 0x140208, msb := 2, lsb := 2, acc := .w1c, reset := 0x0 }

/-- TIM_REFSTAT_CLK10_OK bits [1:1], RO (02). CLK10_IN present and in tolerance -/
def TIM_REFSTAT_CLK10_OK : Field := { id := 155, off := 0x140208, msb := 1, lsb := 1, acc := .ro, reset := 0x0 }

/-- TIM_REFSTAT_PPS_OK bits [0:0], RO (02). PPS_IN edges arriving -/
def TIM_REFSTAT_PPS_OK : Field := { id := 156, off := 0x140208, msb := 0, lsb := 0, acc := .ro, reset := 0x0 }

/-- TIM_LATE_LAUNCH_LATE_CNT bits [31:16], RO (02). Launches fired late, as in R24, R69 and R71 -/
def TIM_LAUNCH_LATE_CNT : Field := { id := 157, off := 0x140210, msb := 31, lsb := 16, acc := .ro, reset := 0x0 }

/-- TIM_LATE_CLR bits [0:0], WO (02). 1 clears LAUNCH_LATE_CNT -/
def TIM_LATE_CLR : Field := { id := 158, off := 0x140210, msb := 0, lsb := 0, acc := .wo, reset := 0x0 }

/-- TIM_TC_TC_FRAME_CNT bits [31:16], RO (02). Event messages corrected -/
def TIM_TC_FRAME_CNT : Field := { id := 159, off := 0x140220, msb := 31, lsb := 16, acc := .ro, reset := 0x0 }

/-- TIM_TC_TC_LANE_MASK bits [15:0], RW (02). Egress lanes on which the transparent clock corrects -/
def TIM_TC_LANE_MASK : Field := { id := 160, off := 0x140220, msb := 15, lsb := 0, acc := .rw, reset := 0xffff }

/-- TIM_LCANCEL_UNIT bits [25:16], WO (02). Launch unit -/
def TIM_LCANCEL_UNIT : Field := { id := 161, off := 0x140230, msb := 25, lsb := 16, acc := .wo, reset := 0x0 }

/-- TIM_LCANCEL_TAG bits [15:0], WO (02). Tag of the launches to cancel, as in R73 -/
def TIM_LCANCEL_TAG : Field := { id := 162, off := 0x140230, msb := 15, lsb := 0, acc := .wo, reset := 0x0 }

/-- TIM_SNAP_LC_LO bits [31:0], RO (02). -/
def TIM_SNAP_LC_LO : Field := { id := 163, off := 0x140008, msb := 31, lsb := 0, acc := .ro, reset := 0x0 }

/-- TIM_SNAP_LC_HI bits [31:0], RO (02). -/
def TIM_SNAP_LC_HI : Field := { id := 164, off := 0x14000c, msb := 31, lsb := 0, acc := .ro, reset := 0x0 }

end Sys2Proof.Machine.Reg
end

