-- ==== Sys2Proof/Machine/FieldsB.lean ====
section
/-! DEFINITION. The register fields of blocks BRK, JUG, CHK, DMC, LANE, AKN (R11, R13, R512), one definition per field of
the spec's field maps. Index arguments run as in the map: i the first, j the second, m the third; f is the function
whose copy of a per-function register is meant (R107). -/

namespace Sys2Proof.Machine.Reg

/-- The reset values of the latency targets of the DRAM ports (R399). -/
def dmcTargetReset (q : Nat) : Nat :=
  ([2000, 4000, 4000, 8000, 8000, 8000, 20000, 10000, 10000, 10000, 20000, 20000, 0, 50000, 0, 0] : List Nat).getD q 0

/-- BRK_PAIR_STATE_RPRI bits [31:27], RO (16). Running priority -/
def BRK_PAIR_RPRI (i : Nat) : Field := { id := 165, off := 0x180100 + 0x10 * i, msb := 31, lsb := 27, acc := .ro, reset := 0x0 }

/-- BRK_PAIR_STATE_DEPTH bits [26:22], RO (16). Claims held -/
def BRK_PAIR_DEPTH (i : Nat) : Field := { id := 166, off := 0x180100 + 0x10 * i, msb := 26, lsb := 22, acc := .ro, reset := 0x0 }

/-- BRK_PAIR_STATE_VALID bits [10:10], RO (16). 1 while a claim is held -/
def BRK_PAIR_VALID (i : Nat) : Field := { id := 167, off := 0x180100 + 0x10 * i, msb := 10, lsb := 10, acc := .ro, reset := 0x0 }

/-- BRK_PAIR_STATE_CUR_SRC bits [9:0], RO (16). Innermost claimed source -/
def BRK_PAIR_CUR_SRC (i : Nat) : Field := { id := 168, off := 0x180100 + 0x10 * i, msb := 9, lsb := 0, acc := .ro, reset := 0x0 }

/-- BRK_PAIR_CNT_VANISHED_CNT bits [31:16], RO (16). As in R416, R417 -/
def BRK_PAIR_VANISHED_CNT (i : Nat) : Field := { id := 169, off := 0x180104 + 0x10 * i, msb := 31, lsb := 16, acc := .ro, reset := 0x0 }

/-- BRK_PAIR_CNT_STRAY_CNT bits [15:0], RO (16). As in R416, R417 -/
def BRK_PAIR_STRAY_CNT (i : Nat) : Field := { id := 170, off := 0x180104 + 0x10 * i, msb := 15, lsb := 0, acc := .ro, reset := 0x0 }

/-- BRK_PAIR_CNT_HANDON_CNT bits [31:16], RO (16). As in R415, R414 -/
def BRK_PAIR_HANDON_CNT (i : Nat) : Field := { id := 171, off := 0x180108 + 0x10 * i, msb := 31, lsb := 16, acc := .ro, reset := 0x0 }

/-- BRK_PAIR_CNT_ENTRY_TAKE_CNT bits [15:0], RO (16). As in R415, R414 -/
def BRK_PAIR_ENTRY_TAKE_CNT (i : Nat) : Field := { id := 172, off := 0x180108 + 0x10 * i, msb := 15, lsb := 0, acc := .ro, reset := 0x0 }

/-- BRK_CLR_CLR bits [0:0], WO (16). 1 clears every BRK_ counter -/
def BRK_CLR_CLR : Field := { id := 173, off := 0x180000, msb := 0, lsb := 0, acc := .wo, reset := 0x0 }

/-- BRK_LATCH_LATCH bits [31:0], W1C (16). Bit i: latch of source 32w + i; meaningful for event-kind and launch sources -/
def BRK_LATCH (i : Nat) : Field := { id := 174, off := 0x180400 + 0x4 * i, msb := 31, lsb := 0, acc := .w1c, reset := 0x0 }

/-- BRK_SW_SET bits [31:31], WO (16). 1 sets the level of SRC, 0 clears it -/
def BRK_SW_SET : Field := { id := 175, off := 0x180008, msb := 31, lsb := 31, acc := .wo, reset := 0x0 }

/-- BRK_SW_SRC bits [9:0], WO (16). Software source 896 to 1,015; other values ignored -/
def BRK_SW_SRC : Field := { id := 176, off := 0x180008, msb := 9, lsb := 0, acc := .wo, reset := 0x0 }

/-- BRK_SRC_CFG_HOST bits [31:31], RW (16). Software sources: 1 notifies the host, as in R418 -/
def BRK_SRC_CFG_HOST (i : Nat) : Field := { id := 177, off := 0x181000 + 0x4 * i, msb := 31, lsb := 31, acc := .rw, reset := 0x0 }

/-- BRK_SRC_CFG_ACTIVE bits [30:30], RO (16). Level now -/
def BRK_SRC_CFG_ACTIVE (i : Nat) : Field := { id := 178, off := 0x181000 + 0x4 * i, msb := 30, lsb := 30, acc := .ro, reset := 0x0 }

/-- BRK_SRC_CFG_PENDING bits [29:29], RO (16). Pending, as in R412 -/
def BRK_SRC_CFG_PENDING (i : Nat) : Field := { id := 179, off := 0x181000 + 0x4 * i, msb := 29, lsb := 29, acc := .ro, reset := 0x0 }

/-- BRK_SRC_CFG_CLAIMED bits [28:28], RO (16). Claimed -/
def BRK_SRC_CFG_CLAIMED (i : Nat) : Field := { id := 180, off := 0x181000 + 0x4 * i, msb := 28, lsb := 28, acc := .ro, reset := 0x0 }

/-- BRK_SRC_CFG_CLAIMED_BY bits [27:26], RO (16). Pair holding the claim -/
def BRK_SRC_CFG_CLAIMED_BY (i : Nat) : Field := { id := 181, off := 0x181000 + 0x4 * i, msb := 27, lsb := 26, acc := .ro, reset := 0x0 }

/-- BRK_SRC_CFG_TARGET bits [9:8], RW (16). Target pair -/
def BRK_SRC_CFG_TARGET (i : Nat) : Field := { id := 182, off := 0x181000 + 0x4 * i, msb := 9, lsb := 8, acc := .rw, reset := 0x0 }

/-- BRK_SRC_CFG_PRIORITY bits [4:0], RW (16). 0 never delivered; 1 to 31 -/
def BRK_SRC_CFG_PRIORITY (i : Nat) : Field := { id := 183, off := 0x181000 + 0x4 * i, msb := 4, lsb := 0, acc := .rw, reset := 0x0 }

/-- BRK_SW_DATA bits [31:0], WO (16). -/
def BRK_SW_DATA : Field := { id := 184, off := 0x18000c, msb := 31, lsb := 0, acc := .wo, reset := 0x0 }

/-- JUG_CTRL_DRAIN bits [31:24], RW (16). Bit g: drain group g, as in R409 -/
def JUG_CTRL_DRAIN : Field := { id := 185, off := 0x1c0000, msb := 31, lsb := 24, acc := .rw, reset := 0x0 }

/-- JUG_CTRL_DRAINED bits [23:16], RO (16). Bit g: group g has no running task -/
def JUG_CTRL_DRAINED : Field := { id := 186, off := 0x1c0000, msb := 23, lsb := 16, acc := .ro, reset := 0x0 }

/-- JUG_CTRL_WDT_US bits [15:0], RW (16). Engine watchdog, 10 to 65,535 µs; other values ignored -/
def JUG_CTRL_WDT_US : Field := { id := 187, off := 0x1c0000, msb := 15, lsb := 0, acc := .rw, reset := 0x3e8 }

/-- JUG_CTX_CTX_BASE bits [26:0], RW (16). Context area of 8 MiB, in 4 KiB units -/
def JUG_CTX_BASE : Field := { id := 188, off := 0x1c0004, msb := 26, lsb := 0, acc := .rw, reset := 0x0 }

/-- JUG_TASKS_READY_NOW bits [28:16], RO (16). Tasks READY -/
def JUG_TASKS_READY_NOW : Field := { id := 189, off := 0x1c0008, msb := 28, lsb := 16, acc := .ro, reset := 0x0 }

/-- JUG_TASKS_USED bits [12:0], RO (16). Tasks not FREE -/
def JUG_TASKS_USED : Field := { id := 190, off := 0x1c0008, msb := 12, lsb := 0, acc := .ro, reset := 0x0 }

/-- JUG_CNT_DISPATCH_CNT bits [31:0], RO (16). Dispatches -/
def JUG_DISPATCH_CNT : Field := { id := 191, off := 0x1c000c, msb := 31, lsb := 0, acc := .ro, reset := 0x0 }

/-- JUG_CNT_PREEMPT_CNT bits [31:0], RO (16). Pre-emptions -/
def JUG_PREEMPT_CNT : Field := { id := 192, off := 0x1c0010, msb := 31, lsb := 0, acc := .ro, reset := 0x0 }

/-- JUG_CNT_INTR_CNT bits [31:16], RO (16). Dispatch interrupts; signals to no task -/
def JUG_INTR_CNT : Field := { id := 193, off := 0x1c0014, msb := 31, lsb := 16, acc := .ro, reset := 0x0 }

/-- JUG_CNT_STRAY_SIG_CNT bits [15:0], RO (16). Dispatch interrupts; signals to no task -/
def JUG_STRAY_SIG_CNT : Field := { id := 194, off := 0x1c0014, msb := 15, lsb := 0, acc := .ro, reset := 0x0 }

/-- JUG_CNT_WDT_CNT bits [31:16], RO (16). Watchdog expiries; CREATE failures -/
def JUG_WDT_CNT : Field := { id := 195, off := 0x1c0018, msb := 31, lsb := 16, acc := .ro, reset := 0x0 }

/-- JUG_CNT_FULL_CNT bits [15:0], RO (16). Watchdog expiries; CREATE failures -/
def JUG_FULL_CNT : Field := { id := 196, off := 0x1c0018, msb := 15, lsb := 0, acc := .ro, reset := 0x0 }

/-- JUG_CLR_CLR bits [0:0], WO (16). 1 clears every JUG_ counter -/
def JUG_CLR_CLR : Field := { id := 197, off := 0x1c001c, msb := 0, lsb := 0, acc := .wo, reset := 0x0 }

/-- CHK_CTRL_MODE bits [31:30], RW (16). 0x0 OFF, 0x1 APPEND, 0x2 CHECK_STRIP; 0x3 rejected -/
def CHK_MODE (i : Nat) : Field := { id := 198, off := 0x200100 + 0x40 * i, msb := 31, lsb := 30, acc := .rw, reset := 0x0 }

/-- CHK_CTRL_REFIN bits [29:29], RW (16). Input reflection -/
def CHK_REFIN (i : Nat) : Field := { id := 199, off := 0x200100 + 0x40 * i, msb := 29, lsb := 29, acc := .rw, reset := 0x1 }

/-- CHK_CTRL_REFOUT bits [28:28], RW (16). Output reflection -/
def CHK_REFOUT (i : Nat) : Field := { id := 200, off := 0x200100 + 0x40 * i, msb := 28, lsb := 28, acc := .rw, reset := 0x1 }

/-- CHK_CTRL_BUSY bits [27:27], RO (16). A scan runs -/
def CHK_BUSY (i : Nat) : Field := { id := 201, off := 0x200100 + 0x40 * i, msb := 27, lsb := 27, acc := .ro, reset := 0x0 }

/-- CHK_CTRL_ATTACH_KIND bits [23:20], RW (16). As in R420 -/
def CHK_ATTACH_KIND (i : Nat) : Field := { id := 202, off := 0x200100 + 0x40 * i, msb := 23, lsb := 20, acc := .rw, reset := 0x0 }

/-- CHK_CTRL_ATTACH_INDEX bits [13:8], RW (16). As in R420 -/
def CHK_ATTACH_INDEX (i : Nat) : Field := { id := 203, off := 0x200100 + 0x40 * i, msb := 13, lsb := 8, acc := .rw, reset := 0x0 }

/-- CHK_CTRL_WIDTH bits [6:0], RW (16). CRC width, 8 to 64 -/
def CHK_WIDTH (i : Nat) : Field := { id := 204, off := 0x200100 + 0x40 * i, msb := 6, lsb := 0, acc := .rw, reset := 0x20 }

/-- CHK_POLY_LO bits [31:0], RW (16). Polynomial bits [31:0] / [63:32] -/
def CHK_POLY_LO (i : Nat) : Field := { id := 205, off := 0x200104 + 0x40 * i, msb := 31, lsb := 0, acc := .rw, reset := 0x1edc6f41 }

/-- CHK_POLY_HI bits [31:0], RW (16). Polynomial bits [31:0] / [63:32] -/
def CHK_POLY_HI (i : Nat) : Field := { id := 206, off := 0x200108 + 0x40 * i, msb := 31, lsb := 0, acc := .rw, reset := 0x0 }

/-- CHK_INIT_LO bits [31:0], RW (16). Initial value -/
def CHK_INIT_LO (i : Nat) : Field := { id := 207, off := 0x20010c + 0x40 * i, msb := 31, lsb := 0, acc := .rw, reset := 0xffffffff }

/-- CHK_INIT_HI bits [31:0], RW (16). Initial value -/
def CHK_INIT_HI (i : Nat) : Field := { id := 208, off := 0x200110 + 0x40 * i, msb := 31, lsb := 0, acc := .rw, reset := 0x0 }

/-- CHK_XOR_LO bits [31:0], RW (16). Final XOR -/
def CHK_XOR_LO (i : Nat) : Field := { id := 209, off := 0x200114 + 0x40 * i, msb := 31, lsb := 0, acc := .rw, reset := 0xffffffff }

/-- CHK_XOR_HI bits [31:0], RW (16). Final XOR -/
def CHK_XOR_HI (i : Nat) : Field := { id := 210, off := 0x200118 + 0x40 * i, msb := 31, lsb := 0, acc := .rw, reset := 0x0 }

/-- CHK_RESULT_LO bits [31:0], RO (16). Result of the last scan, read as R12 states -/
def CHK_RESULT_LO (i : Nat) : Field := { id := 211, off := 0x20011c + 0x40 * i, msb := 31, lsb := 0, acc := .ro, reset := 0x0 }

/-- CHK_RESULT_HI bits [31:0], RO (16). Result of the last scan, read as R12 states -/
def CHK_RESULT_HI (i : Nat) : Field := { id := 212, off := 0x200120 + 0x40 * i, msb := 31, lsb := 0, acc := .ro, reset := 0x0 }

/-- CHK_CNT_LAST_STATUS bits [15:0], RO (16). Status of the last write or scan -/
def CHK_LAST_STATUS (i : Nat) : Field := { id := 213, off := 0x200124 + 0x40 * i, msb := 15, lsb := 0, acc := .ro, reset := 0x0 }

/-- CHK_CNT_PKT_CNT bits [31:0], RO (16). Packets appended or checked -/
def CHK_PKT_CNT (i : Nat) : Field := { id := 214, off := 0x200128 + 0x40 * i, msb := 31, lsb := 0, acc := .ro, reset := 0x0 }

/-- CHK_CNT_CRC_ERR_CNT bits [31:16], RO (16). Packets discarded, as in R420 -/
def CHK_CRC_ERR_CNT (i : Nat) : Field := { id := 215, off := 0x20012c + 0x40 * i, msb := 31, lsb := 16, acc := .ro, reset := 0x0 }

/-- CHK_CNT_CLR bits [0:0], WO (16). 1 clears the unit's counters; bits [31:1] RSV -/
def CHK_CLR (i : Nat) : Field := { id := 216, off := 0x200130 + 0x40 * i, msb := 0, lsb := 0, acc := .wo, reset := 0x0 }

/-- DMC_LAYOUT_COMMIT bits [31:31], WO (15). 1 commits the layout and forms the full map, as in R376 -/
def DMC_LAYOUT_COMMIT : Field := { id := 217, off := 0x240000, msb := 31, lsb := 31, acc := .wo, reset := 0x0 }

/-- DMC_LAYOUT_MAP bits [30:29], RO (15). 0x0 none, 0x1 FLOOR, 0x2 FULL -/
def DMC_LAYOUT_MAP : Field := { id := 218, off := 0x240000, msb := 30, lsb := 29, acc := .ro, reset := 0x0 }

/-- DMC_LAYOUT_SPARE_EN bits [19:19], RW (15). 1: a spare at rank 1 of SPARE_CH -/
def DMC_LAYOUT_SPARE_EN : Field := { id := 219, off := 0x240000, msb := 19, lsb := 19, acc := .rw, reset := 0x0 }

/-- DMC_LAYOUT_SPARE_CH bits [18:16], RW (15). Channel of the spare -/
def DMC_LAYOUT_SPARE_CH : Field := { id := 220, off := 0x240000, msb := 18, lsb := 16, acc := .rw, reset := 0x0 }

/-- DMC_LAYOUT_RANK_SIZE bits [13:12], RW (15). 0x0 8 GiB, 0x1 16 GiB, 0x2 32 GiB; 0x3 refused -/
def DMC_LAYOUT_RANK_SIZE : Field := { id := 221, off := 0x240000, msb := 13, lsb := 12, acc := .rw, reset := 0x2 }

/-- DMC_LAYOUT_NR bits [1:0], RW (15). Ranks per channel, 1 or 2 -/
def DMC_LAYOUT_NR : Field := { id := 222, off := 0x240000, msb := 1, lsb := 0, acc := .rw, reset := 0x2 }

/-- DMC_STATUS_LAST_STATUS bits [31:16], RO (15). Status of the last layout commit or refused write -/
def DMC_STATUS_LAST_STATUS : Field := { id := 223, off := 0x240004, msb := 31, lsb := 16, acc := .ro, reset := 0x0 }

/-- DMC_STATUS_FILL_DONE bits [15:15], RO (15). Every set in service is DONE -/
def DMC_STATUS_FILL_DONE : Field := { id := 224, off := 0x240004, msb := 15, lsb := 15, acc := .ro, reset := 0x0 }

/-- DMC_STATUS_MIG_ACTIVE bits [14:14], RO (15). A migration runs -/
def DMC_STATUS_MIG_ACTIVE : Field := { id := 225, off := 0x240004, msb := 14, lsb := 14, acc := .ro, reset := 0x0 }

/-- DMC_STATUS_SETS bits [1:0], RO (15). Bit s: set s in service -/
def DMC_STATUS_SETS : Field := { id := 226, off := 0x240004, msb := 1, lsb := 0, acc := .ro, reset := 0x0 }

/-- DMC_CLR_CLR bits [0:0], WO (15). 1 clears every DMC_ counter -/
def DMC_CLR_CLR : Field := { id := 227, off := 0x240008, msb := 0, lsb := 0, acc := .wo, reset := 0x0 }

/-- DMC_RANK_STATE_STATE bits [31:28], RO (15). 0x0 ABSENT, 0x1 TRAINING, 0x2 IN_SERVICE, 0x3 SPARE, 0x4 MIGRATING, 0x5 RETIRED, 0x6 FILLING -/
def DMC_RANK_STATE_STATE (i : Nat) : Field := { id := 228, off := 0x240010 + 0x4 * i, msb := 31, lsb := 28, acc := .ro, reset := 0x0 }

/-- DMC_RANK_STATE_MAPPED bits [27:27], RO (15). 1 while the rank serves a position -/
def DMC_RANK_STATE_MAPPED (i : Nat) : Field := { id := 229, off := 0x240010 + 0x4 * i, msb := 27, lsb := 27, acc := .ro, reset := 0x0 }

/-- DMC_RANK_STATE_POS_CH bits [26:24], RO (15). Channel of the position served -/
def DMC_RANK_STATE_POS_CH (i : Nat) : Field := { id := 230, off := 0x240010 + 0x4 * i, msb := 26, lsb := 24, acc := .ro, reset := 0x0 }

/-- DMC_RANK_STATE_POS_RANK bits [23:23], RO (15). Rank of the position served -/
def DMC_RANK_STATE_POS_RANK (i : Nat) : Field := { id := 231, off := 0x240010 + 0x4 * i, msb := 23, lsb := 23, acc := .ro, reset := 0x0 }

/-- DMC_RANK_STATE_RETIRE_CODE bits [15:0], RO (15). Code that retired the rank; 0x0000 otherwise -/
def DMC_RANK_STATE_RETIRE_CODE (i : Nat) : Field := { id := 232, off := 0x240010 + 0x4 * i, msb := 15, lsb := 0, acc := .ro, reset := 0x0 }

/-- DMC_RANK_ECC_CE_CNT bits [31:16], RO (15). Corrected errors -/
def DMC_RANK_CE_CNT (i : Nat) : Field := { id := 233, off := 0x240060 + 0x4 * i, msb := 31, lsb := 16, acc := .ro, reset := 0x0 }

/-- DMC_RANK_ECC_UE_CNT bits [15:0], RO (15). Uncorrectable reads -/
def DMC_RANK_UE_CNT (i : Nat) : Field := { id := 234, off := 0x240060 + 0x4 * i, msb := 15, lsb := 0, acc := .ro, reset := 0x0 }

/-- DMC_ECC_CTRL_CE_LIMIT bits [31:16], RW (15). Corrected errors in 1 s that make a rank fault; 0 off -/
def DMC_CE_LIMIT : Field := { id := 235, off := 0x2400a0, msb := 31, lsb := 16, acc := .rw, reset := 0x400 }

/-- DMC_ECC_CTRL_SCRUB_H bits [15:8], RW (15). Patrol scrub pass, 1 to 255 hours -/
def DMC_SCRUB_H : Field := { id := 236, off := 0x2400a0, msb := 15, lsb := 8, acc := .rw, reset := 0x18 }

/-- DMC_SET_FILL_DONE bits [31:31], RO (15). Set filled, as in R382 -/
def DMC_SET_FILL_DONE (i : Nat) : Field := { id := 237, off := 0x2400b0 + 0x4 * i, msb := 31, lsb := 31, acc := .ro, reset := 0x0 }

/-- DMC_SET_FILL_FILLED bits [26:0], RO (15). 4 KiB units filled from the set base -/
def DMC_SET_FILL_FILLED (i : Nat) : Field := { id := 238, off := 0x2400b0 + 0x4 * i, msb := 26, lsb := 0, acc := .ro, reset := 0x0 }

/-- DMC_MIG_CTRL_ACTIVE bits [31:31], RO (15). A migration runs -/
def DMC_MIG_CTRL_ACTIVE : Field := { id := 239, off := 0x2400c0, msb := 31, lsb := 31, acc := .ro, reset := 0x0 }

/-- DMC_MIG_CTRL_SRC bits [23:20], RO (15). Source physical rank -/
def DMC_MIG_CTRL_SRC : Field := { id := 240, off := 0x2400c0, msb := 23, lsb := 20, acc := .ro, reset := 0x0 }

/-- DMC_MIG_CTRL_DST bits [19:16], RO (15). Spare physical rank -/
def DMC_MIG_CTRL_DST : Field := { id := 241, off := 0x2400c0, msb := 19, lsb := 16, acc := .ro, reset := 0x0 }

/-- DMC_MIG_CTRL_RATE_MBPS bits [15:0], RW (15). Copy rate, 1,000 to 32,000 MB/s; live -/
def DMC_MIG_CTRL_RATE_MBPS : Field := { id := 242, off := 0x2400c0, msb := 15, lsb := 0, acc := .rw, reset := 0x3e80 }

/-- DMC_MIG_PTR_PTR bits [23:0], RO (15). First block not yet copied, in 4 KiB units -/
def DMC_MIG_PTR : Field := { id := 243, off := 0x2400c4, msb := 23, lsb := 0, acc := .ro, reset := 0x0 }

/-- DMC_MIG_CNT_MIG_CNT bits [31:16], RO (15). Migrations completed -/
def DMC_MIG_CNT : Field := { id := 244, off := 0x2400c8, msb := 31, lsb := 16, acc := .ro, reset := 0x0 }

/-- DMC_MIG_CNT_POISON_COPY_CNT bits [15:0], RO (15). Poisoned lines copied -/
def DMC_POISON_COPY_CNT : Field := { id := 245, off := 0x2400c8, msb := 15, lsb := 0, acc := .ro, reset := 0x0 }

/-- DMC_REFRESH_NBR_K bits [23:16], RW (15). Neighbour refresh probability 2^−k, 6 to 16; 0 off -/
def DMC_REFRESH_NBR_K : Field := { id := 246, off := 0x2400d0, msb := 23, lsb := 16, acc := .rw, reset := 0xb }

/-- DMC_REFRESH_MULT bits [15:8], RW (15). Bits [9 + 2b:8 + 2b]: multiplier of band b; 0x0 ×1, 0x1 ×2, 0x2 ×4, 0x3 refused -/
def DMC_REFRESH_MULT : Field := { id := 247, off := 0x2400d0, msb := 15, lsb := 8, acc := .rw, reset := 0x90 }

/-- DMC_REFRESH_MULT_MAX bits [1:0], RO (15). Largest multiplier in force on any rank -/
def DMC_REFRESH_MULT_MAX : Field := { id := 248, off := 0x2400d0, msb := 1, lsb := 0, acc := .ro, reset := 0x0 }

/-- DMC_NBR_CNT_NBR_CNT bits [31:0], RO (15). Neighbour refresh selections -/
def DMC_NBR_CNT : Field := { id := 249, off := 0x2400d4, msb := 31, lsb := 0, acc := .ro, reset := 0x0 }

/-- DMC_PORT_QOS_TARGET_NS bits [31:16], RW (15). Latency target; 0 none -/
def DMC_PORT_TARGET_NS (i : Nat) : Field := { id := 250, off := 0x240100 + 0x4 * i, msb := 31, lsb := 16, acc := .rw, reset := dmcTargetReset i }

/-- DMC_PORT_QOS_LATE_CNT bits [15:0], RO (15). Requests served after their target -/
def DMC_PORT_LATE_CNT (i : Nat) : Field := { id := 251, off := 0x240100 + 0x4 * i, msb := 15, lsb := 0, acc := .ro, reset := 0x0 }

/-- DMC_TRN_GO bits [31:31], WO (15). 1 starts the operation -/
def DMC_TRN_GO (i : Nat) : Field := { id := 252, off := 0x241000 + 0x100 * i, msb := 31, lsb := 31, acc := .wo, reset := 0x0 }

/-- DMC_TRN_BUSY bits [30:30], RO (15). Operation in progress -/
def DMC_TRN_BUSY (i : Nat) : Field := { id := 253, off := 0x241000 + 0x100 * i, msb := 30, lsb := 30, acc := .ro, reset := 0x0 }

/-- DMC_TRN_OP bits [29:28], RW (15). As in R383 -/
def DMC_TRN_OP (i : Nat) : Field := { id := 254, off := 0x241000 + 0x100 * i, msb := 29, lsb := 28, acc := .rw, reset := 0x0 }

/-- DMC_TRN_PATTERN bits [27:26], RW (15). 0x0 PRBS7, 0x1 PRBS31, 0x2 walking one, 0x3 user -/
def DMC_TRN_PATTERN (i : Nat) : Field := { id := 255, off := 0x241000 + 0x100 * i, msb := 27, lsb := 26, acc := .rw, reset := 0x1 }

/-- DMC_TRN_RANK bits [25:25], RW (15). Rank of the channel -/
def DMC_TRN_RANK (i : Nat) : Field := { id := 256, off := 0x241000 + 0x100 * i, msb := 25, lsb := 25, acc := .rw, reset := 0x0 }

/-- DMC_TRN_LEN bits [23:0], RW (15). Bursts, 1 to 16,777,215 -/
def DMC_TRN_LEN (i : Nat) : Field := { id := 257, off := 0x241000 + 0x100 * i, msb := 23, lsb := 0, acc := .rw, reset := 0x400 }

/-- DMC_TRN_TRN_ADDR bits [28:0], RW (15). Rank-local address in 64 B units -/
def DMC_TRN_ADDR (i : Nat) : Field := { id := 258, off := 0x241004 + 0x100 * i, msb := 28, lsb := 0, acc := .rw, reset := 0x0 }

/-- DMC_TRN_LAST_STATUS bits [15:0], RO (15). Status of the last operation -/
def DMC_TRN_LAST_STATUS (i : Nat) : Field := { id := 259, off := 0x241008 + 0x100 * i, msb := 15, lsb := 0, acc := .ro, reset := 0x0 }

/-- DMC_TRN_SET bits [31:31], WO (15). 1 writes the delays and VREF of LANE -/
def DMC_TRN_SET (i : Nat) : Field := { id := 260, off := 0x24100c + 0x100 * i, msb := 31, lsb := 31, acc := .wo, reset := 0x0 }

/-- DMC_TRN_LANE bits [30:24], RW (15). Lane 0 to 79 -/
def DMC_TRN_LANE (i : Nat) : Field := { id := 261, off := 0x24100c + 0x100 * i, msb := 30, lsb := 24, acc := .rw, reset := 0x0 }

/-- DMC_TRN_RD_DLY bits [23:16], RW (15). Read delay in 1/64 UI -/
def DMC_TRN_RD_DLY (i : Nat) : Field := { id := 262, off := 0x24100c + 0x100 * i, msb := 23, lsb := 16, acc := .rw, reset := 0x0 }

/-- DMC_TRN_WR_DLY bits [15:8], RW (15). Write delay in 1/64 UI -/
def DMC_TRN_WR_DLY (i : Nat) : Field := { id := 263, off := 0x24100c + 0x100 * i, msb := 15, lsb := 8, acc := .rw, reset := 0x0 }

/-- DMC_TRN_VREF bits [7:0], RW (15). VREF in 0.5 % of VDDQ -/
def DMC_TRN_VREF (i : Nat) : Field := { id := 264, off := 0x24100c + 0x100 * i, msb := 7, lsb := 0, acc := .rw, reset := 0x0 }

/-- DMC_TRN_MR_WRITE bits [31:31], WO (15). 1 writes MR_DATA to MR_ADDR; a write of 0 reads it into MR_DATA -/
def DMC_TRN_MR_WRITE (i : Nat) : Field := { id := 265, off := 0x241010 + 0x100 * i, msb := 31, lsb := 31, acc := .wo, reset := 0x0 }

/-- DMC_TRN_MR_ADDR bits [15:8], RW (15). Mode register -/
def DMC_TRN_MR_ADDR (i : Nat) : Field := { id := 266, off := 0x241010 + 0x100 * i, msb := 15, lsb := 8, acc := .rw, reset := 0x0 }

/-- DMC_TRN_MR_DATA bits [7:0], RW (15). Mode register value -/
def DMC_TRN_MR_DATA (i : Nat) : Field := { id := 267, off := 0x241010 + 0x100 * i, msb := 7, lsb := 0, acc := .rw, reset := 0x0 }

/-- DMC_TRN_TRN_USER bits [31:0], RW (15). User pattern, m = 0 to 15, bytes 4m to 4m + 3 -/
def DMC_TRN_USER (i j : Nat) : Field := { id := 268, off := 0x241040 + 0x100 * i + 0x4 * j, msb := 31, lsb := 0, acc := .rw, reset := 0x0 }

/-- DMC_TRN_TRN_ERR bits [31:0], RO (15). Bit errors of lanes 4m to 4m + 3, 8 bits each from lane 4m in [7:0]; m = 0 to 19 -/
def DMC_TRN_ERR (i j : Nat) : Field := { id := 269, off := 0x241080 + 0x100 * i + 0x4 * j, msb := 31, lsb := 0, acc := .ro, reset := 0x0 }

/-- LANE_REFSTAT_LOST bits [7:4], W1C (12). Bit q: REFCLK_Qq was lost -/
def LANE_REFSTAT_LOST : Field := { id := 270, off := 0x280000, msb := 7, lsb := 4, acc := .w1c, reset := 0x0 }

/-- LANE_REFSTAT_OK bits [3:0], RO (12). Bit q: REFCLK_Qq present and in tolerance -/
def LANE_REFSTAT_OK : Field := { id := 271, off := 0x280000, msb := 3, lsb := 0, acc := .ro, reset := 0x0 }

/-- LANE_CFG_ENABLE bits [31:31], RW (12). 1 enables the lane, as in R308 -/
def LANE_CFG_ENABLE (i : Nat) : Field := { id := 272, off := 0x281000 + 0x100 * i, msb := 31, lsb := 31, acc := .rw, reset := 0x0 }

/-- LANE_CFG_MODE bits [27:24], RW (12). Lane mode, as in R306 -/
def LANE_CFG_MODE (i : Nat) : Field := { id := 273, off := 0x281000 + 0x100 * i, msb := 27, lsb := 24, acc := .rw, reset := 0x0 }

/-- LANE_CFG_AN_EN bits [23:23], RW (12). Ethernet: 1 runs Clause 73 auto-negotiation -/
def LANE_CFG_AN_EN (i : Nat) : Field := { id := 274, off := 0x281000 + 0x100 * i, msb := 23, lsb := 23, acc := .rw, reset := 0x0 }

/-- LANE_CFG_PRECODE_TX bits [22:22], RW (12). 1 precodes test patterns -/
def LANE_CFG_PRECODE_TX (i : Nat) : Field := { id := 275, off := 0x281000 + 0x100 * i, msb := 22, lsb := 22, acc := .rw, reset := 0x0 }

/-- LANE_CFG_PRECODE_RX bits [21:21], RW (12). Aknis Link: 1 requests precoding toward this receiver -/
def LANE_CFG_PRECODE_RX (i : Nat) : Field := { id := 276, off := 0x281000 + 0x100 * i, msb := 21, lsb := 21, acc := .rw, reset := 0x0 }

/-- LANE_CFG_FFE_MODE bits [20:20], RW (12). 0 partner-driven, 1 fixed, as in R311 -/
def LANE_CFG_FFE_MODE (i : Nat) : Field := { id := 277, off := 0x281000 + 0x100 * i, msb := 20, lsb := 20, acc := .rw, reset := 0x0 }

/-- LANE_CFG_TRAIN_TO_MS bits [15:0], RW (12). Training limit, 100 to 12,000 ms -/
def LANE_CFG_TRAIN_TO_MS (i : Nat) : Field := { id := 278, off := 0x281000 + 0x100 * i, msb := 15, lsb := 0, acc := .rw, reset := 0x1f4 }

/-- LANE_FFE_MAIN bits [23:16], RO (12). Main tap in force, in 1/64 -/
def LANE_FFE_MAIN (i : Nat) : Field := { id := 279, off := 0x281004 + 0x100 * i, msb := 23, lsb := 16, acc := .ro, reset := 0x38 }

/-- LANE_FFE_PRE bits [15:8], RW (12). Pre-cursor magnitude, 0 to 16 -/
def LANE_FFE_PRE (i : Nat) : Field := { id := 280, off := 0x281004 + 0x100 * i, msb := 15, lsb := 8, acc := .rw, reset := 0x4 }

/-- LANE_FFE_POST bits [7:0], RW (12). Post-cursor magnitude, 0 to 16 -/
def LANE_FFE_POST (i : Nat) : Field := { id := 281, off := 0x281004 + 0x100 * i, msb := 7, lsb := 0, acc := .rw, reset := 0x4 }

/-- LANE_FWD_FWD_MASK bits [15:0], RW (12). Ports to which frames from this port are forwarded, as in R324 -/
def LANE_FWD_MASK (i : Nat) : Field := { id := 282, off := 0x281008 + 0x100 * i, msb := 15, lsb := 0, acc := .rw, reset := 0x0 }

/-- LANE_STATUS_STATE bits [31:28], RO (12). State, as in R314 -/
def LANE_STATUS_STATE (i : Nat) : Field := { id := 283, off := 0x28100c + 0x100 * i, msb := 31, lsb := 28, acc := .ro, reset := 0x0 }

/-- LANE_STATUS_LAST_STATUS bits [15:0], RO (12). Status of the last refused write or test request -/
def LANE_STATUS_LAST_STATUS (i : Nat) : Field := { id := 284, off := 0x28100c + 0x100 * i, msb := 15, lsb := 0, acc := .ro, reset := 0x0 }

/-- LANE_ADAPT_FREEZE bits [31:31], RW (12). 1 holds the DFE taps -/
def LANE_ADAPT_FREEZE (i : Nat) : Field := { id := 285, off := 0x281010 + 0x100 * i, msb := 31, lsb := 31, acc := .rw, reset := 0x0 }

/-- LANE_ADAPT_PRESET bits [27:24], RO (12). Adaptation preset loaded at the last TRAIN -/
def LANE_ADAPT_PRESET (i : Nat) : Field := { id := 286, off := 0x281010 + 0x100 * i, msb := 27, lsb := 24, acc := .ro, reset := 0x0 }

/-- LANE_ADAPT_RX_SNR bits [15:0], RO (12). Receiver SNR estimate in 0.01 dB -/
def LANE_ADAPT_RX_SNR (i : Nat) : Field := { id := 287, off := 0x281010 + 0x100 * i, msb := 15, lsb := 0, acc := .ro, reset := 0x0 }

/-- LANE_DFE_TAP3 bits [31:24], RO (12). Tap 4m + 3, signed, in 1/128 -/
def LANE_DFE_TAP3 (i j : Nat) : Field := { id := 288, off := 0x281014 + 0x100 * i + 0x4 * j, msb := 31, lsb := 24, acc := .ro, reset := 0x0 }

/-- LANE_DFE_TAP2 bits [23:16], RO (12). Tap 4m + 2 -/
def LANE_DFE_TAP2 (i j : Nat) : Field := { id := 289, off := 0x281014 + 0x100 * i + 0x4 * j, msb := 23, lsb := 16, acc := .ro, reset := 0x0 }

/-- LANE_DFE_TAP1 bits [15:8], RO (12). Tap 4m + 1 -/
def LANE_DFE_TAP1 (i j : Nat) : Field := { id := 290, off := 0x281014 + 0x100 * i + 0x4 * j, msb := 15, lsb := 8, acc := .ro, reset := 0x0 }

/-- LANE_DFE_TAP0 bits [7:0], RO (12). Tap 4m -/
def LANE_DFE_TAP0 (i j : Nat) : Field := { id := 291, off := 0x281014 + 0x100 * i + 0x4 * j, msb := 7, lsb := 0, acc := .ro, reset := 0x0 }

/-- LANE_TEST_TEST_EN bits [31:31], RW (12). 1 enters TEST, as in R319 and R322 -/
def LANE_TEST_TEST_EN (i : Nat) : Field := { id := 292, off := 0x281020 + 0x100 * i, msb := 31, lsb := 31, acc := .rw, reset := 0x0 }

/-- LANE_TEST_TX_PAT bits [30:28], RW (12). Generator pattern -/
def LANE_TEST_TX_PAT (i : Nat) : Field := { id := 293, off := 0x281020 + 0x100 * i, msb := 30, lsb := 28, acc := .rw, reset := 0x0 }

/-- LANE_TEST_RX_PAT bits [27:25], RW (12). Checker pattern -/
def LANE_TEST_RX_PAT (i : Nat) : Field := { id := 294, off := 0x281020 + 0x100 * i, msb := 27, lsb := 25, acc := .rw, reset := 0x0 }

/-- LANE_TEST_LOOP bits [24:23], RW (12). Loopback, as in R321 -/
def LANE_TEST_LOOP (i : Nat) : Field := { id := 295, off := 0x281020 + 0x100 * i, msb := 24, lsb := 23, acc := .rw, reset := 0x0 }

/-- LANE_TEST_SYNC bits [0:0], RO (12). 1 while the checker is synchronised -/
def LANE_TEST_SYNC (i : Nat) : Field := { id := 296, off := 0x281020 + 0x100 * i, msb := 0, lsb := 0, acc := .ro, reset := 0x0 }

/-- LANE_PRBS_ERR_ERR_CNT bits [31:0], RO (12). Bits in error -/
def LANE_ERR_CNT (i : Nat) : Field := { id := 297, off := 0x281024 + 0x100 * i, msb := 31, lsb := 0, acc := .ro, reset := 0x0 }

/-- LANE_CNT_LOCK_LOSS_CNT bits [31:16], RO (12). Losses of lock, in ACTIVE or in TEST -/
def LANE_LOCK_LOSS_CNT (i : Nat) : Field := { id := 298, off := 0x281030 + 0x100 * i, msb := 31, lsb := 16, acc := .ro, reset := 0x0 }

/-- LANE_CNT_TRAIN_FAIL_CNT bits [15:0], RO (12). Trainings failed -/
def LANE_TRAIN_FAIL_CNT (i : Nat) : Field := { id := 299, off := 0x281030 + 0x100 * i, msb := 15, lsb := 0, acc := .ro, reset := 0x0 }

/-- LANE_FEC_FEC_CORR_CNT bits [31:0], RO (12). Codewords corrected; for a group, counted on lane 4g -/
def LANE_FEC_CORR_CNT (i : Nat) : Field := { id := 300, off := 0x281034 + 0x100 * i, msb := 31, lsb := 0, acc := .ro, reset := 0x0 }

/-- LANE_FEC_FEC_UNCORR_CNT bits [31:0], RO (12). Codewords uncorrectable -/
def LANE_FEC_UNCORR_CNT (i : Nat) : Field := { id := 301, off := 0x281038 + 0x100 * i, msb := 31, lsb := 0, acc := .ro, reset := 0x0 }

/-- LANE_ETH_FCS_ERR_CNT bits [31:16], RO (12). Frames received with a bad FCS -/
def LANE_FCS_ERR_CNT (i : Nat) : Field := { id := 302, off := 0x28103c + 0x100 * i, msb := 31, lsb := 16, acc := .ro, reset := 0x0 }

/-- LANE_ETH_PAUSE_CNT bits [15:0], RO (12). PAUSE and PFC frames discarded -/
def LANE_PAUSE_CNT (i : Nat) : Field := { id := 303, off := 0x28103c + 0x100 * i, msb := 15, lsb := 0, acc := .ro, reset := 0x0 }

/-- LANE_CLR_CLR bits [0:0], WO (12). 1 clears the lane's counters except ERR_CNT and BITS_CNT -/
def LANE_CLR_CLR (i : Nat) : Field := { id := 304, off := 0x281040 + 0x100 * i, msb := 0, lsb := 0, acc := .wo, reset := 0x0 }

/-- LANE_MAC_LO_MAC_LO bits [31:0], RW (12). Port MAC bytes 2–5, byte 2 in [31:24], as in R325 -/
def LANE_MAC_LO (i : Nat) : Field := { id := 305, off := 0x281044 + 0x100 * i, msb := 31, lsb := 0, acc := .rw, reset := 0x0 }

/-- LANE_MAC_HI_MAC_HI bits [15:0], RW (12). Port MAC bytes 0–1, byte 0 in [15:8] -/
def LANE_MAC_HI (i : Nat) : Field := { id := 306, off := 0x281048 + 0x100 * i, msb := 15, lsb := 0, acc := .rw, reset := 0x0 }

/-- LANE_IPV4_IPV4 bits [31:0], RW (12). Port IPv4 address, first octet in [31:24]; 0.0.0.0 none -/
def LANE_IPV4 (i : Nat) : Field := { id := 307, off := 0x28104c + 0x100 * i, msb := 31, lsb := 0, acc := .rw, reset := 0x0 }

/-- LANE_BITS_CNT_LO bits [31:0], RO (12). -/
def LANE_BITS_CNT_LO (i : Nat) : Field := { id := 308, off := 0x281028 + 0x100 * i, msb := 31, lsb := 0, acc := .ro, reset := 0x0 }

/-- LANE_BITS_CNT_HI bits [31:0], RO (12). -/
def LANE_BITS_CNT_HI (i : Nat) : Field := { id := 309, off := 0x28102c + 0x100 * i, msb := 31, lsb := 0, acc := .ro, reset := 0x0 }

/-- LANE_NH_MAC_LO bits [31:0], RW (12). -/
def LANE_NH_MAC_LO (i : Nat) : Field := { id := 310, off := 0x281050 + 0x100 * i, msb := 31, lsb := 0, acc := .rw, reset := 0x0 }

/-- LANE_NH_MAC_HI bits [15:0], RW (12). -/
def LANE_NH_MAC_HI (i : Nat) : Field := { id := 311, off := 0x281054 + 0x100 * i, msb := 15, lsb := 0, acc := .rw, reset := 0x0 }

/-- AKN_CTRL_VERSIONS bits [7:0], RW (12). Bit v: version v offered; only bits 2 and 3 may be set. Takes effect at the next CAP -/
def AKN_CTRL_VERSIONS (i : Nat) : Field := { id := 312, off := 0x2c1000 + 0x200 * i, msb := 7, lsb := 0, acc := .rw, reset := 0xc }

/-- AKN_STATUS_VERSION bits [31:28], RO (12). Version in force; 0x0 before CAP completes -/
def AKN_STATUS_VERSION (i : Nat) : Field := { id := 313, off := 0x2c1004 + 0x200 * i, msb := 31, lsb := 28, acc := .ro, reset := 0x0 }

/-- AKN_STATUS_PEER_ROLE bits [27:26], RO (12). ROLE of the neighbour's CAP_OFFER -/
def AKN_STATUS_PEER_ROLE (i : Nat) : Field := { id := 314, off := 0x2c1004 + 0x200 * i, msb := 27, lsb := 26, acc := .ro, reset := 0x0 }

/-- AKN_STATUS_TILES_FOUND bits [22:16], RO (12). COUNT returned by CAP_ENUM -/
def AKN_STATUS_TILES_FOUND (i : Nat) : Field := { id := 315, off := 0x2c1004 + 0x200 * i, msb := 22, lsb := 16, acc := .ro, reset := 0x0 }

/-- AKN_STATUS_PEER_PART bits [15:0], RO (12). PART of the neighbour's CAP_OFFER -/
def AKN_STATUS_PEER_PART (i : Nat) : Field := { id := 316, off := 0x2c1004 + 0x200 * i, msb := 15, lsb := 0, acc := .ro, reset := 0x0 }

/-- AKN_CNT_HCRC_ERR_CNT bits [31:16], RO (12). Headers and data failing their CRC -/
def AKN_HCRC_ERR_CNT (i : Nat) : Field := { id := 317, off := 0x2c1008 + 0x200 * i, msb := 31, lsb := 16, acc := .ro, reset := 0x0 }

/-- AKN_CNT_DCRC_ERR_CNT bits [15:0], RO (12). Headers and data failing their CRC -/
def AKN_DCRC_ERR_CNT (i : Nat) : Field := { id := 318, off := 0x2c1008 + 0x200 * i, msb := 15, lsb := 0, acc := .ro, reset := 0x0 }

/-- AKN_CNT_PROTO_CNT bits [31:16], RO (12). Violations, as in R337 and R338 -/
def AKN_PROTO_CNT (i : Nat) : Field := { id := 319, off := 0x2c100c + 0x200 * i, msb := 31, lsb := 16, acc := .ro, reset := 0x0 }

/-- AKN_CNT_CREDIT_ERR_CNT bits [15:0], RO (12). Violations, as in R337 and R338 -/
def AKN_CREDIT_ERR_CNT (i : Nat) : Field := { id := 320, off := 0x2c100c + 0x200 * i, msb := 15, lsb := 0, acc := .ro, reset := 0x0 }

/-- AKN_CLR_CLR bits [0:0], WO (12). 1 clears the lane's AKN_ counters -/
def AKN_CLR_CLR (i : Nat) : Field := { id := 321, off := 0x2c1010 + 0x200 * i, msb := 0, lsb := 0, acc := .wo, reset := 0x0 }

/-- AKN_LAT_LAT_PS bits [31:0], RO (12). lat_j of R336 in ps; 0 for a tile that was not found -/
def AKN_LAT_PS (i j : Nat) : Field := { id := 322, off := 0x2c1100 + 0x200 * i + 0x4 * j, msb := 31, lsb := 0, acc := .ro, reset := 0x0 }

end Sys2Proof.Machine.Reg
end

