-- ==== Sys2Proof/Machine/FieldsC.lean ====
section
/-! DEFINITION. The register fields of blocks CAR, TRN, ING, CMP, SAF (R11, R13, R512), one definition per field of
the spec's field maps. Index arguments run as in the map: i the first, j the second, m the third; f is the function
whose copy of a per-function register is meant (R107). -/

namespace Sys2Proof.Machine.Reg

/-- CAR_P_CTRL_GATE_EN bits [31:31], RW (13). 1 runs the gate list; shadowed -/
def CAR_P_GATE_EN (i : Nat) : Field := { id := 323, off := 0x300100 + 0x40 * i, msb := 31, lsb := 31, acc := .rw, reset := 0x0 }

/-- CAR_P_CTRL_BANK bits [30:30], RO (13). Bank in force -/
def CAR_P_BANK (i : Nat) : Field := { id := 324, off := 0x300100 + 0x40 * i, msb := 30, lsb := 30, acc := .ro, reset := 0x0 }

/-- CAR_P_CTRL_PENDING bits [29:29], RO (13). A committed list awaits x -/
def CAR_P_PENDING (i : Nat) : Field := { id := 325, off := 0x300100 + 0x40 * i, msb := 29, lsb := 29, acc := .ro, reset := 0x0 }

/-- CAR_P_CTRL_CTRL_CLASS bits [26:24], RW (13). Class of frames the device originates -/
def CAR_P_CTRL_CLASS (i : Nat) : Field := { id := 326, off := 0x300100 + 0x40 * i, msb := 26, lsb := 24, acc := .rw, reset := 0x7 }

/-- CAR_P_CTRL_DEFAULT_CLASS bits [22:20], RW (13). Class of untagged forwarded frames -/
def CAR_P_DEFAULT_CLASS (i : Nat) : Field := { id := 327, off := 0x300100 + 0x40 * i, msb := 22, lsb := 20, acc := .rw, reset := 0x0 }

/-- CAR_P_LIST_CYCLE_NS bits [31:0], RW (13). Cycle, 1,000 to 1,000,000,000 ns -/
def CAR_P_CYCLE_NS (i : Nat) : Field := { id := 328, off := 0x300104 + 0x40 * i, msb := 31, lsb := 0, acc := .rw, reset := 0xf4240 }

/-- CAR_P_LIST_BASE_SEC bits [31:0], RW (13). BASE seconds [31:0]; seconds [47:32] are taken from the active DT -/
def CAR_P_BASE_SEC (i : Nat) : Field := { id := 329, off := 0x300108 + 0x40 * i, msb := 31, lsb := 0, acc := .rw, reset := 0x0 }

/-- CAR_P_LIST_BASE_NS bits [31:0], RW (13). BASE nanoseconds -/
def CAR_P_BASE_NS (i : Nat) : Field := { id := 330, off := 0x30010c + 0x40 * i, msb := 31, lsb := 0, acc := .rw, reset := 0x0 }

/-- CAR_P_LIST_COUNT bits [8:0], RW (13). Entries, 1 to 256 -/
def CAR_P_COUNT (i : Nat) : Field := { id := 331, off := 0x300110 + 0x40 * i, msb := 8, lsb := 0, acc := .rw, reset := 0x1 }

/-- CAR_P_COMMIT_COMMIT bits [31:31], WO (13). 1 commits the shadow, as in R349 and R350 -/
def CAR_P_COMMIT_COMMIT (i : Nat) : Field := { id := 332, off := 0x300114 + 0x40 * i, msb := 31, lsb := 31, acc := .wo, reset := 0x0 }

/-- CAR_P_COMMIT_LAST_STATUS bits [15:0], RO (13). Status of the last commit -/
def CAR_P_COMMIT_LAST_STATUS (i : Nat) : Field := { id := 333, off := 0x300114 + 0x40 * i, msb := 15, lsb := 0, acc := .ro, reset := 0x0 }

/-- CAR_P_CNT_SWAP_CNT bits [31:16], RO (13). Lists taken into force -/
def CAR_P_CNT_SWAP_CNT (i : Nat) : Field := { id := 334, off := 0x300120 + 0x40 * i, msb := 31, lsb := 16, acc := .ro, reset := 0x0 }

/-- CAR_P_CNT_CLR bits [0:0], WO (13). 1 clears SWAP_CNT -/
def CAR_P_CNT_CLR (i : Nat) : Field := { id := 335, off := 0x300120 + 0x40 * i, msb := 0, lsb := 0, acc := .wo, reset := 0x0 }

/-- CAR_P_ENTRY_INTERVAL_NS bits [31:0], RW (13). Entry interval, 64 to 1,000,000,000 ns -/
def CAR_P_ENTRY_INTERVAL_NS (i j : Nat) : Field := { id := 336, off := 0x308000 + 0x800 * i + 0x8 * j, msb := 31, lsb := 0, acc := .rw, reset := 0xf4240 }

/-- CAR_P_ENTRY_GATES bits [31:24], RW (13). Bit c: class c open -/
def CAR_P_ENTRY_GATES (i j : Nat) : Field := { id := 337, off := 0x308004 + 0x800 * i + 0x8 * j, msb := 31, lsb := 24, acc := .rw, reset := 0xff }

/-- CAR_P_Q_CTRL_PACED bits [31:31], RW (13). 1 holds stream packets for their release launch, as in R343 -/
def CAR_P_Q_PACED (i j : Nat) : Field := { id := 338, off := 0x301000 + 0x200 * i + 0x40 * j, msb := 31, lsb := 31, acc := .rw, reset := 0x0 }

/-- CAR_P_Q_CTRL_QMAX_KB bits [26:16], RW (13). Queue limit, 1 to 1,024 KiB -/
def CAR_P_Q_QMAX_KB (i j : Nat) : Field := { id := 339, off := 0x301000 + 0x200 * i + 0x40 * j, msb := 26, lsb := 16, acc := .rw, reset := 0x100 }

/-- CAR_P_Q_CTRL_DELAY_LIMIT_US bits [15:0], RW (13). Residence limit, 1 to 65,535 µs; 0 off -/
def CAR_P_Q_DELAY_LIMIT_US (i j : Nat) : Field := { id := 340, off := 0x301000 + 0x200 * i + 0x40 * j, msb := 15, lsb := 0, acc := .rw, reset := 0x0 }

/-- CAR_P_Q_DEPTH_B bits [20:0], RO (13). Bytes queued; bits [31:21] RSV -/
def CAR_P_Q_DEPTH_B (i j : Nat) : Field := { id := 341, off := 0x301004 + 0x200 * i + 0x40 * j, msb := 20, lsb := 0, acc := .ro, reset := 0x0 }

/-- CAR_P_Q_DEPTH_MAX_B bits [20:0], RO (13). Largest DEPTH_B; bits [31:21] RSV -/
def CAR_P_Q_DEPTH_MAX_B (i j : Nat) : Field := { id := 342, off := 0x301008 + 0x200 * i + 0x40 * j, msb := 20, lsb := 0, acc := .ro, reset := 0x0 }

/-- CAR_P_Q_DELAY_MAX_NS bits [31:0], RO (13). Largest residence -/
def CAR_P_Q_DELAY_MAX_NS (i j : Nat) : Field := { id := 343, off := 0x30100c + 0x200 * i + 0x40 * j, msb := 31, lsb := 0, acc := .ro, reset := 0x0 }

/-- CAR_P_Q_TX_FRAME_CNT bits [31:0], RO (13). Frames sent, 64 bits with +0x14, low word first -/
def CAR_P_Q_TX_FRAME_CNT (i j : Nat) : Field := { id := 344, off := 0x301010 + 0x200 * i + 0x40 * j, msb := 31, lsb := 0, acc := .ro, reset := 0x0 }

/-- CAR_P_Q_DROP_CNT bits [31:16], RO (13). Tail drops; oversize discards -/
def CAR_P_Q_DROP_CNT (i j : Nat) : Field := { id := 345, off := 0x301018 + 0x200 * i + 0x40 * j, msb := 31, lsb := 16, acc := .ro, reset := 0x0 }

/-- CAR_P_Q_OVERSIZE_CNT bits [15:0], RO (13). Tail drops; oversize discards -/
def CAR_P_Q_OVERSIZE_CNT (i j : Nat) : Field := { id := 346, off := 0x301018 + 0x200 * i + 0x40 * j, msb := 15, lsb := 0, acc := .ro, reset := 0x0 }

/-- CAR_P_Q_DOWN_DROP_CNT bits [31:16], RO (13). Discards with lane down; frames over DELAY_LIMIT_US -/
def CAR_P_Q_DOWN_DROP_CNT (i j : Nat) : Field := { id := 347, off := 0x30101c + 0x200 * i + 0x40 * j, msb := 31, lsb := 16, acc := .ro, reset := 0x0 }

/-- CAR_P_Q_OVERDUE_CNT bits [15:0], RO (13). Discards with lane down; frames over DELAY_LIMIT_US -/
def CAR_P_Q_OVERDUE_CNT (i j : Nat) : Field := { id := 348, off := 0x30101c + 0x200 * i + 0x40 * j, msb := 15, lsb := 0, acc := .ro, reset := 0x0 }

/-- CAR_P_Q_CLR bits [0:0], WO (13). 1 clears the queue's counters and watermarks; bits [31:1] RSV -/
def CAR_P_Q_CLR (i j : Nat) : Field := { id := 349, off := 0x301020 + 0x200 * i + 0x40 * j, msb := 0, lsb := 0, acc := .wo, reset := 0x0 }

/-- CAR_P_APPLY_SEC bits [31:0], RO (13). -/
def CAR_P_APPLY_SEC (i : Nat) : Field := { id := 350, off := 0x300118 + 0x40 * i, msb := 31, lsb := 0, acc := .ro, reset := 0x0 }

/-- CAR_P_APPLY_NS bits [31:0], RO (13). -/
def CAR_P_APPLY_NS (i : Nat) : Field := { id := 351, off := 0x30011c + 0x40 * i, msb := 31, lsb := 0, acc := .ro, reset := 0x0 }

/-- CAR_P_Q_TX_FRAME_CNT_HI bits [31:0], RO (13). -/
def CAR_P_Q_TX_FRAME_CNT_HI (i j : Nat) : Field := { id := 352, off := 0x301014 + 0x200 * i + 0x40 * j, msb := 31, lsb := 0, acc := .ro, reset := 0x0 }

/-- TRN_CLR_CLR bits [0:0], WO (13). 1 clears every meter's colour counters -/
def TRN_CLR_CLR : Field := { id := 353, off := 0x340000, msb := 0, lsb := 0, acc := .wo, reset := 0x0 }

/-- TRN_Q_CTRL_MODE bits [31:30], RW (13). 0x0 OFF, 0x1 SHAPE, 0x2 POLICE; 0x3 rejected -/
def TRN_Q_MODE (i : Nat) : Field := { id := 354, off := 0x341000 + 0x20 * i, msb := 31, lsb := 30, acc := .rw, reset := 0x0 }

/-- TRN_Q_CTRL_OVH bits [21:16], RW (13). Bytes added per frame, 0 to 32 -/
def TRN_Q_OVH (i : Nat) : Field := { id := 355, off := 0x341000 + 0x20 * i, msb := 21, lsb := 16, acc := .rw, reset := 0x14 }

/-- TRN_Q_CTRL_LAST_STATUS bits [15:0], RO (13). Status of the last write, as in R352 -/
def TRN_Q_LAST_STATUS (i : Nat) : Field := { id := 356, off := 0x341000 + 0x20 * i, msb := 15, lsb := 0, acc := .ro, reset := 0x0 }

/-- TRN_Q_CIR_MBPS bits [18:0], RW (13). Committed rate, 1 to 400,000 Mb/s; bits [31:19] RSV -/
def TRN_Q_CIR_MBPS (i : Nat) : Field := { id := 357, off := 0x341004 + 0x20 * i, msb := 18, lsb := 0, acc := .rw, reset := 0x186a0 }

/-- TRN_Q_PIR_MBPS bits [18:0], RW (13). Peak rate, CIR_MBPS to 400,000 Mb/s; bits [31:19] RSV -/
def TRN_Q_PIR_MBPS (i : Nat) : Field := { id := 358, off := 0x341008 + 0x20 * i, msb := 18, lsb := 0, acc := .rw, reset := 0x186a0 }

/-- TRN_Q_CBS_B bits [23:0], RW (13). Committed bucket, 9,248 to 16,777,215 B; bits [31:24] RSV -/
def TRN_Q_CBS_B (i : Nat) : Field := { id := 359, off := 0x34100c + 0x20 * i, msb := 23, lsb := 0, acc := .rw, reset := 0x4000 }

/-- TRN_Q_PBS_B bits [23:0], RW (13). Peak bucket, 9,248 to 16,777,215 B; bits [31:24] RSV -/
def TRN_Q_PBS_B (i : Nat) : Field := { id := 360, off := 0x341010 + 0x20 * i, msb := 23, lsb := 0, acc := .rw, reset := 0x4000 }

/-- TRN_Q_GREEN_CNT bits [31:0], RO (13). Frames coloured green -/
def TRN_Q_GREEN_CNT (i : Nat) : Field := { id := 361, off := 0x341014 + 0x20 * i, msb := 31, lsb := 0, acc := .ro, reset := 0x0 }

/-- TRN_Q_YELLOW_CNT bits [31:0], RO (13). Frames coloured yellow -/
def TRN_Q_YELLOW_CNT (i : Nat) : Field := { id := 362, off := 0x341018 + 0x20 * i, msb := 31, lsb := 0, acc := .ro, reset := 0x0 }

/-- TRN_Q_RED_CNT bits [31:0], RO (13). Frames dropped red in POLICE -/
def TRN_Q_RED_CNT (i : Nat) : Field := { id := 363, off := 0x34101c + 0x20 * i, msb := 31, lsb := 0, acc := .ro, reset := 0x0 }

/-- ING_CTRL_LAST_STATUS bits [31:16], RO (05). Status of the last write to LANE_MASK -/
def ING_CTRL_LAST_STATUS : Field := { id := 364, off := 0x380000, msb := 31, lsb := 16, acc := .ro, reset := 0x0 }

/-- ING_CTRL_LANE_MASK bits [15:0], RW (05). Ingest lanes; bit i is LN i; at most 8 bits set -/
def ING_CTRL_LANE_MASK : Field := { id := 365, off := 0x380000, msb := 15, lsb := 0, acc := .rw, reset := 0x0 }

/-- ING_LANE_CNT_UNMATCHED_CNT bits [31:0], RO (05). Frames discarded as unmatched, as in R143 -/
def ING_LANE_UNMATCHED_CNT (i : Nat) : Field := { id := 366, off := 0x380100 + 0x4 * i, msb := 31, lsb := 0, acc := .ro, reset := 0x0 }

/-- ING_LANE_CLR_CLR bits [0:0], WO (05). 1 clears every UNMATCHED_CNT -/
def ING_LANE_CLR_CLR : Field := { id := 367, off := 0x380180, msb := 0, lsb := 0, acc := .wo, reset := 0x0 }

/-- ING_RX_CTRL_ENABLE bits [31:31], RW (05). 1 enables the receiver, as in R162 -/
def ING_RX_ENABLE (i : Nat) : Field := { id := 368, off := 0x381000 + 0x100 * i, msb := 31, lsb := 31, acc := .rw, reset := 0x0 }

/-- ING_RX_CTRL_PATH1_EN bits [30:30], RW (05). Path 1 in use -/
def ING_RX_PATH1_EN (i : Nat) : Field := { id := 369, off := 0x381000 + 0x100 * i, msb := 30, lsb := 30, acc := .rw, reset := 0x0 }

/-- ING_RX_CTRL_PATH0_EN bits [29:29], RW (05). Path 0 in use -/
def ING_RX_PATH0_EN (i : Nat) : Field := { id := 370, off := 0x381000 + 0x100 * i, msb := 29, lsb := 29, acc := .rw, reset := 0x1 }

/-- ING_RX_CTRL_PT bits [22:16], RW (05). RTP payload type, 96 to 127 -/
def ING_RX_PT (i : Nat) : Field := { id := 371, off := 0x381000 + 0x100 * i, msb := 22, lsb := 16, acc := .rw, reset := 0x60 }

/-- ING_RX_CTRL_LAST_STATUS bits [15:0], RO (05). Status of the last enable or refused write -/
def ING_RX_LAST_STATUS (i : Nat) : Field := { id := 372, off := 0x381000 + 0x100 * i, msb := 15, lsb := 0, acc := .ro, reset := 0x0 }

/-- ING_RX_FMT_RATE bits [19:16], RW (05). 0x0 23.98, 0x1 24, 0x2 25, 0x3 29.97, 0x4 30, 0x5 50, 0x6 59.94, 0x7 60, 0x8 100, 0x9 119.88, 0xA 120 Hz -/
def ING_RX_FMT_RATE (i : Nat) : Field := { id := 373, off := 0x381004 + 0x100 * i, msb := 19, lsb := 16, acc := .rw, reset := 0xa }

/-- ING_RX_FMT_RANGE bits [15:15], RW (05). 0 narrow, 1 full -/
def ING_RX_FMT_RANGE (i : Nat) : Field := { id := 374, off := 0x381004 + 0x100 * i, msb := 15, lsb := 15, acc := .rw, reset := 0x0 }

/-- ING_RX_FMT_PACKING bits [14:14], RW (05). 0 general, 1 block -/
def ING_RX_FMT_PACKING (i : Nat) : Field := { id := 375, off := 0x381004 + 0x100 * i, msb := 14, lsb := 14, acc := .rw, reset := 0x0 }

/-- ING_RX_FMT_TCS bits [13:12], RW (05). 0x0 SDR, 0x1 PQ, 0x2 HLG -/
def ING_RX_FMT_TCS (i : Nat) : Field := { id := 376, off := 0x381004 + 0x100 * i, msb := 13, lsb := 12, acc := .rw, reset := 0x0 }

/-- ING_RX_FMT_COLORIMETRY bits [11:10], RW (05). 0x0 BT.709, 0x1 BT.2020, 0x2 BT.2100 -/
def ING_RX_FMT_COLORIMETRY (i : Nat) : Field := { id := 377, off := 0x381004 + 0x100 * i, msb := 11, lsb := 10, acc := .rw, reset := 0x0 }

/-- ING_RX_FMT_DEPTH bits [9:8], RW (05). 0x0 8, 0x1 10, 0x2 12 bits -/
def ING_RX_FMT_DEPTH (i : Nat) : Field := { id := 378, off := 0x381004 + 0x100 * i, msb := 9, lsb := 8, acc := .rw, reset := 0x1 }

/-- ING_RX_FMT_SAMPLING bits [1:0], RW (05). 0x0 4:2:2, 0x1 4:4:4, 0x2 RGB, 0x3 4:2:0 -/
def ING_RX_FMT_SAMPLING (i : Nat) : Field := { id := 379, off := 0x381004 + 0x100 * i, msb := 1, lsb := 0, acc := .rw, reset := 0x0 }

/-- ING_RX_AFMT_FIRST_CH bits [23:16], RW (05). First Calliope input channel, 0 to 63 -/
def ING_RX_AFMT_FIRST_CH (i : Nat) : Field := { id := 380, off := 0x381004 + 0x100 * i, msb := 23, lsb := 16, acc := .rw, reset := 0x0 }

/-- ING_RX_AFMT_CHANNELS bits [15:8], RW (05). Channels in the stream, 1 to 64 -/
def ING_RX_AFMT_CHANNELS (i : Nat) : Field := { id := 381, off := 0x381004 + 0x100 * i, msb := 15, lsb := 8, acc := .rw, reset := 0x2 }

/-- ING_RX_AFMT_PTIME bits [1:1], RW (05). 0 1 ms, 1 125 µs -/
def ING_RX_AFMT_PTIME (i : Nat) : Field := { id := 382, off := 0x381004 + 0x100 * i, msb := 1, lsb := 1, acc := .rw, reset := 0x0 }

/-- ING_RX_AFMT_SRATE bits [0:0], RW (05). 0 48 kHz, 1 96 kHz -/
def ING_RX_AFMT_SRATE (i : Nat) : Field := { id := 383, off := 0x381004 + 0x100 * i, msb := 0, lsb := 0, acc := .rw, reset := 0x0 }

/-- ING_RX_SIZE_WIDTH bits [31:16], RW (05). Width in pixels, 64 to 8,192 -/
def ING_RX_SIZE_WIDTH (i : Nat) : Field := { id := 384, off := 0x381008 + 0x100 * i, msb := 31, lsb := 16, acc := .rw, reset := 0x780 }

/-- ING_RX_SIZE_HEIGHT bits [15:0], RW (05). Height in lines, 64 to 4,320 -/
def ING_RX_SIZE_HEIGHT (i : Nat) : Field := { id := 385, off := 0x381008 + 0x100 * i, msb := 15, lsb := 0, acc := .rw, reset := 0x438 }

/-- ING_RX_FS_FS_COUNT bits [31:28], RW (05). Frame buffers, 3 to 8; ignored for ancillary receivers -/
def ING_RX_FS_COUNT (i : Nat) : Field := { id := 386, off := 0x38100c + 0x100 * i, msb := 31, lsb := 28, acc := .rw, reset := 0x4 }

/-- ING_RX_FS_FS_BASE bits [26:0], RW (05). Store base in DRAM, in 4 KiB units -/
def ING_RX_FS_BASE (i : Nat) : Field := { id := 387, off := 0x38100c + 0x100 * i, msb := 26, lsb := 0, acc := .rw, reset := 0x0 }

/-- ING_RX_PATH_LANE bits [19:16], RW (05). Lane of the path -/
def ING_RX_PATH_LANE (i j : Nat) : Field := { id := 388, off := 0x381010 + 0x100 * i + 0xc * j, msb := 19, lsb := 16, acc := .rw, reset := 0x0 }

/-- ING_RX_PATH_UDP_PORT bits [15:0], RW (05). Destination port -/
def ING_RX_PATH_UDP_PORT (i j : Nat) : Field := { id := 389, off := 0x381010 + 0x100 * i + 0xc * j, msb := 15, lsb := 0, acc := .rw, reset := 0x0 }

/-- ING_RX_TIMING_LATE_US bits [31:16], RW (05). Picture close after capture DT + P_f, 0 to 20,000 µs -/
def ING_RX_LATE_US (i : Nat) : Field := { id := 390, off := 0x381028 + 0x100 * i, msb := 31, lsb := 16, acc := .rw, reset := 0x96 }

/-- ING_RX_TIMING_LOSS_MS bits [15:0], RW (05). Path loss time, 1 to 1,000 ms -/
def ING_RX_LOSS_MS (i : Nat) : Field := { id := 391, off := 0x381028 + 0x100 * i, msb := 15, lsb := 0, acc := .rw, reset := 0xa }

/-- ING_RX_STATUS_SIGNAL bits [31:31], RO (05). 1 while at least one enabled path is UP -/
def ING_RX_SIGNAL (i : Nat) : Field := { id := 392, off := 0x38102c + 0x100 * i, msb := 31, lsb := 31, acc := .ro, reset := 0x0 }

/-- ING_RX_STATUS_PATH1_UP bits [30:30], RO (05). Path 1 UP -/
def ING_RX_PATH1_UP (i : Nat) : Field := { id := 393, off := 0x38102c + 0x100 * i, msb := 30, lsb := 30, acc := .ro, reset := 0x0 }

/-- ING_RX_STATUS_PATH0_UP bits [29:29], RO (05). Path 0 UP -/
def ING_RX_PATH0_UP (i : Nat) : Field := { id := 394, off := 0x38102c + 0x100 * i, msb := 29, lsb := 29, acc := .ro, reset := 0x0 }

/-- ING_RX_STATUS_WRITE_BUF bits [2:0], RO (05). Buffer of the newest open picture -/
def ING_RX_WRITE_BUF (i : Nat) : Field := { id := 395, off := 0x38102c + 0x100 * i, msb := 2, lsb := 0, acc := .ro, reset := 0x0 }

/-- ING_RX_ERR_A_LATE_CNT bits [31:16], RO (05). Late packets -/
def ING_RX_LATE_CNT (i : Nat) : Field := { id := 396, off := 0x381048 + 0x100 * i, msb := 31, lsb := 16, acc := .ro, reset := 0x0 }

/-- ING_RX_ERR_A_FMT_ERR_CNT bits [15:0], RO (05). Malformed packets -/
def ING_RX_FMT_ERR_CNT (i : Nat) : Field := { id := 397, off := 0x381048 + 0x100 * i, msb := 15, lsb := 0, acc := .ro, reset := 0x0 }

/-- ING_RX_ERR_B_LOST_LINE_CNT bits [31:16], RO (05). Lines lost at picture close -/
def ING_RX_LOST_LINE_CNT (i : Nat) : Field := { id := 398, off := 0x38104c + 0x100 * i, msb := 31, lsb := 16, acc := .ro, reset := 0x0 }

/-- ING_RX_ERR_B_FS_DROP_CNT bits [15:0], RO (05). Pictures dropped for want of a buffer; ANC_OVER_CNT for ancillary receivers -/
def ING_RX_FS_DROP_CNT (i : Nat) : Field := { id := 399, off := 0x38104c + 0x100 * i, msb := 15, lsb := 0, acc := .ro, reset := 0x0 }

/-- ING_RX_ERR_C_TIME_ERR_CNT bits [31:16], RO (05). Packets with capture DT more than 200 ms from the active DT -/
def ING_RX_TIME_ERR_CNT (i : Nat) : Field := { id := 400, off := 0x381050 + 0x100 * i, msb := 31, lsb := 16, acc := .ro, reset := 0x0 }

/-- ING_RX_ERR_C_PATH_DOWN_CNT bits [15:0], RO (05). Changes of a path to DOWN -/
def ING_RX_PATH_DOWN_CNT (i : Nat) : Field := { id := 401, off := 0x381050 + 0x100 * i, msb := 15, lsb := 0, acc := .ro, reset := 0x0 }

/-- ING_RX_CLR_CLR bits [0:0], WO (05). 1 clears every counter of the receiver -/
def ING_RX_CLR (i : Nat) : Field := { id := 402, off := 0x381054 + 0x100 * i, msb := 0, lsb := 0, acc := .wo, reset := 0x0 }

/-- ING_RX_SUBPIC_ID_HI bits [31:16], RW (05). Selected subpicture ID 2j + 1; 0xFFFF empty -/
def ING_RX_SUBPIC_ID_HI (i j : Nat) : Field := { id := 403, off := 0x381080 + 0x100 * i + 0x4 * j, msb := 31, lsb := 16, acc := .rw, reset := 0xffff }

/-- ING_RX_SUBPIC_ID_LO bits [15:0], RW (05). Selected subpicture ID 2j; 0xFFFF empty -/
def ING_RX_SUBPIC_ID_LO (i j : Nat) : Field := { id := 404, off := 0x381080 + 0x100 * i + 0x4 * j, msb := 15, lsb := 0, acc := .rw, reset := 0xffff }

/-- ING_RX_ADDR_GROUP bits [31:0], RW (05). -/
def ING_RX_GROUP (i j : Nat) : Field := { id := 405, off := 0x381014 + 0x100 * i + 0xc * j, msb := 31, lsb := 0, acc := .rw, reset := 0x0 }

/-- ING_RX_ADDR_SRC bits [31:0], RW (05). -/
def ING_RX_SRC (i j : Nat) : Field := { id := 406, off := 0x381018 + 0x100 * i + 0xc * j, msb := 31, lsb := 0, acc := .rw, reset := 0x0 }

/-- ING_RX_NFMT_RATE bits [19:16], RW (05). -/
def ING_RX_NFMT_RATE (i : Nat) : Field := { id := 407, off := 0x381004 + 0x100 * i, msb := 19, lsb := 16, acc := .rw, reset := 0xa }

/-- ING_RX_NFMT_ANC_LOG2 bits [3:0], RW (05). -/
def ING_RX_NFMT_ANC_LOG2 (i : Nat) : Field := { id := 408, off := 0x381004 + 0x100 * i, msb := 3, lsb := 0, acc := .rw, reset := 0x0 }

/-- ING_RX_CNT64_PKT0_CNT_LO bits [31:0], RO (05). -/
def ING_RX_PKT0_CNT_LO (i : Nat) : Field := { id := 409, off := 0x381030 + 0x100 * i, msb := 31, lsb := 0, acc := .ro, reset := 0x0 }

/-- ING_RX_CNT64_PKT0_CNT_HI bits [31:0], RO (05). -/
def ING_RX_PKT0_CNT_HI (i : Nat) : Field := { id := 410, off := 0x381034 + 0x100 * i, msb := 31, lsb := 0, acc := .ro, reset := 0x0 }

/-- ING_RX_CNT64_PKT1_CNT_LO bits [31:0], RO (05). -/
def ING_RX_PKT1_CNT_LO (i : Nat) : Field := { id := 411, off := 0x381038 + 0x100 * i, msb := 31, lsb := 0, acc := .ro, reset := 0x0 }

/-- ING_RX_CNT64_PKT1_CNT_HI bits [31:0], RO (05). -/
def ING_RX_PKT1_CNT_HI (i : Nat) : Field := { id := 412, off := 0x38103c + 0x100 * i, msb := 31, lsb := 0, acc := .ro, reset := 0x0 }

/-- ING_RX_CNT64_DUP_CNT_LO bits [31:0], RO (05). -/
def ING_RX_DUP_CNT_LO (i : Nat) : Field := { id := 413, off := 0x381040 + 0x100 * i, msb := 31, lsb := 0, acc := .ro, reset := 0x0 }

/-- ING_RX_CNT64_DUP_CNT_HI bits [31:0], RO (05). -/
def ING_RX_DUP_CNT_HI (i : Nat) : Field := { id := 414, off := 0x381044 + 0x100 * i, msb := 31, lsb := 0, acc := .ro, reset := 0x0 }

/-- CMP_SLOT_CANVAS_TCS bits [31:30], RW (06). 0x0 SDR, 0x1 PQ, 0x2 HLG -/
def CMP_SLOT_CANVAS_TCS (i : Nat) : Field := { id := 415, off := 0x3c0000 + 0x4000 * i, msb := 31, lsb := 30, acc := .rw, reset := 0x0 }

/-- CMP_SLOT_CANVAS_COLORIMETRY bits [29:28], RW (06). 0x0 BT.709, 0x1 BT.2020 -/
def CMP_SLOT_CANVAS_COLORIMETRY (i : Nat) : Field := { id := 416, off := 0x3c0000 + 0x4000 * i, msb := 29, lsb := 28, acc := .rw, reset := 0x0 }

/-- CMP_SLOT_CANVAS_CANVAS_PEAK bits [15:0], RW (06). PQ canvas peak, 100 to 10,000 cd/m² -/
def CMP_SLOT_CANVAS_CANVAS_PEAK (i : Nat) : Field := { id := 417, off := 0x3c0000 + 0x4000 * i, msb := 15, lsb := 0, acc := .rw, reset := 0x3e8 }

/-- CMP_SLOT_BG_BG_R bits [29:20], RW (06). Background R′, 10 bits full range -/
def CMP_SLOT_BG_R (i : Nat) : Field := { id := 418, off := 0x3c0004 + 0x4000 * i, msb := 29, lsb := 20, acc := .rw, reset := 0x0 }

/-- CMP_SLOT_BG_BG_G bits [19:10], RW (06). Background G′ -/
def CMP_SLOT_BG_G (i : Nat) : Field := { id := 419, off := 0x3c0004 + 0x4000 * i, msb := 19, lsb := 10, acc := .rw, reset := 0x0 }

/-- CMP_SLOT_BG_BG_B bits [9:0], RW (06). Background B′ -/
def CMP_SLOT_BG_B (i : Nat) : Field := { id := 420, off := 0x3c0004 + 0x4000 * i, msb := 9, lsb := 0, acc := .rw, reset := 0x0 }

/-- CMP_SLOT_LEVELS_SDR_WHITE bits [31:16], RW (06). SDR reference white, 100 to 1,000 cd/m² -/
def CMP_SLOT_LEVELS_SDR_WHITE (i : Nat) : Field := { id := 421, off := 0x3c0008 + 0x4000 * i, msb := 31, lsb := 16, acc := .rw, reset := 0xcb }

/-- CMP_SLOT_LEVELS_HLG_LW bits [15:0], RW (06). HLG nominal peak, 400 to 4,000 cd/m² -/
def CMP_SLOT_LEVELS_HLG_LW (i : Nat) : Field := { id := 422, off := 0x3c0008 + 0x4000 * i, msb := 15, lsb := 0, acc := .rw, reset := 0x3e8 }

/-- CMP_SLOT_BENCH_BENCH_EN bits [31:31], RW (06). 1 enables the Bench -/
def CMP_SLOT_BENCH_EN (i : Nat) : Field := { id := 423, off := 0x3c000c + 0x4000 * i, msb := 31, lsb := 31, acc := .rw, reset := 0x0 }

/-- CMP_SLOT_BENCH_BENCH_FRAMES bits [7:0], RW (06). Pictures before a layer is static, 1 to 255 -/
def CMP_SLOT_BENCH_FRAMES (i : Nat) : Field := { id := 424, off := 0x3c000c + 0x4000 * i, msb := 7, lsb := 0, acc := .rw, reset := 0x8 }

/-- CMP_SLOT_AREAS_BENCH_BASE bits [26:0], RW (06). Bench area in 4 KiB units; size canvas width × height × 8 B, rounded up to 4 KiB -/
def CMP_SLOT_BENCH_BASE (i : Nat) : Field := { id := 425, off := 0x3c0010 + 0x4000 * i, msb := 26, lsb := 0, acc := .rw, reset := 0x0 }

/-- CMP_SLOT_AREAS_TABLE_BASE bits [26:0], RW (06). Table area in 4 KiB units: 4 LUTs of 290,816 B, then the coefficient sets in 8 KiB (the four horizontal set... -/
def CMP_SLOT_TABLE_BASE (i : Nat) : Field := { id := 426, off := 0x3c0014 + 0x4000 * i, msb := 26, lsb := 0, acc := .rw, reset := 0x0 }

/-- CMP_SLOT_COMMIT_COMMIT bits [31:31], WO (06). 1 commits the shadow, as in R189 -/
def CMP_SLOT_COMMIT_COMMIT (i : Nat) : Field := { id := 427, off := 0x3c0018 + 0x4000 * i, msb := 31, lsb := 31, acc := .wo, reset := 0x0 }

/-- CMP_SLOT_COMMIT_LAST_STATUS bits [15:0], RO (06). Status of the last commit -/
def CMP_SLOT_COMMIT_LAST_STATUS (i : Nat) : Field := { id := 428, off := 0x3c0018 + 0x4000 * i, msb := 15, lsb := 0, acc := .ro, reset := 0x0 }

/-- CMP_SLOT_STATUS_UNIT_VALID bits [31:31], RO (06). 1 while a compositor is allocated -/
def CMP_SLOT_STATUS_UNIT_VALID (i : Nat) : Field := { id := 429, off := 0x3c001c + 0x4000 * i, msb := 31, lsb := 31, acc := .ro, reset := 0x0 }

/-- CMP_SLOT_STATUS_UNIT bits [30:29], RO (06). Allocated compositor Ci -/
def CMP_SLOT_STATUS_UNIT (i : Nat) : Field := { id := 430, off := 0x3c001c + 0x4000 * i, msb := 30, lsb := 29, acc := .ro, reset := 0x0 }

/-- CMP_SLOT_STATUS_BENCH_STATE bits [28:27], RO (06). 0x0 off, 0x1 counting, 0x2 flattening, 0x3 in use -/
def CMP_SLOT_STATUS_BENCH_STATE (i : Nat) : Field := { id := 431, off := 0x3c001c + 0x4000 * i, msb := 28, lsb := 27, acc := .ro, reset := 0x0 }

/-- CMP_SLOT_STATUS_LAG bits [7:0], RO (06). Bit l: video layer l lagged -/
def CMP_SLOT_STATUS_LAG (i : Nat) : Field := { id := 432, off := 0x3c001c + 0x4000 * i, msb := 7, lsb := 0, acc := .ro, reset := 0x0 }

/-- CMP_SLOT_BCNT_BENCH_EVICT_CNT bits [31:16], RO (06). Bench evictions -/
def CMP_SLOT_BCNT_BENCH_EVICT_CNT (i : Nat) : Field := { id := 433, off := 0x3c0020 + 0x4000 * i, msb := 31, lsb := 16, acc := .ro, reset := 0x0 }

/-- CMP_SLOT_BCNT_BENCH_FLAT_CNT bits [15:0], RO (06). Flattenings completed -/
def CMP_SLOT_BCNT_BENCH_FLAT_CNT (i : Nat) : Field := { id := 434, off := 0x3c0020 + 0x4000 * i, msb := 15, lsb := 0, acc := .ro, reset := 0x0 }

/-- CMP_SLOT_CLR_CLR bits [0:0], WO (06). 1 clears the slot's and its layers' counters -/
def CMP_SLOT_CLR_CLR (i : Nat) : Field := { id := 435, off := 0x3c0024 + 0x4000 * i, msb := 0, lsb := 0, acc := .wo, reset := 0x0 }

/-- CMP_SLOT_L_CTRL_ENABLE bits [31:31], RW (06). 1 enables the layer -/
def CMP_L_ENABLE (i j : Nat) : Field := { id := 436, off := 0x3c0400 + 0x4000 * i + 0x40 * j, msb := 31, lsb := 31, acc := .rw, reset := 0x0 }

/-- CMP_SLOT_L_CTRL_Z bits [30:27], RW (06). Stacking order, 0 bottom to 15 top -/
def CMP_L_Z (i j : Nat) : Field := { id := 437, off := 0x3c0400 + 0x4000 * i + 0x40 * j, msb := 30, lsb := 27, acc := .rw, reset := 0x0 }

/-- CMP_SLOT_L_CTRL_PREMULT bits [26:26], RW (06). Graphics: 1 premultiplied alpha; ignored for video -/
def CMP_L_PREMULT (i j : Nat) : Field := { id := 438, off := 0x3c0400 + 0x4000 * i + 0x40 * j, msb := 26, lsb := 26, acc := .rw, reset := 0x0 }

/-- CMP_SLOT_L_CTRL_LAYER_ALPHA bits [25:16], RW (06). A_L × 1,023 -/
def CMP_L_LAYER_ALPHA (i j : Nat) : Field := { id := 439, off := 0x3c0400 + 0x4000 * i + 0x40 * j, msb := 25, lsb := 16, acc := .rw, reset := 0x3ff }

/-- CMP_SLOT_L_CTRL_TM_MODE bits [15:15], RW (06). 0 CONVERT, 1 LUT (video only) -/
def CMP_L_TM_MODE (i j : Nat) : Field := { id := 440, off := 0x3c0400 + 0x4000 * i + 0x40 * j, msb := 15, lsb := 15, acc := .rw, reset := 0x0 }

/-- CMP_SLOT_L_CTRL_LUT bits [14:13], RW (06). LUT 0 to 3 -/
def CMP_L_LUT (i j : Nat) : Field := { id := 441, off := 0x3c0400 + 0x4000 * i + 0x40 * j, msb := 14, lsb := 13, acc := .rw, reset := 0x0 }

/-- CMP_SLOT_L_CTRL_COEF_H bits [12:11], RW (06). Horizontal set 0 to 3 -/
def CMP_L_COEF_H (i j : Nat) : Field := { id := 442, off := 0x3c0400 + 0x4000 * i + 0x40 * j, msb := 12, lsb := 11, acc := .rw, reset := 0x0 }

/-- CMP_SLOT_L_CTRL_COEF_V bits [10:9], RW (06). Vertical set 0 to 3 -/
def CMP_L_COEF_V (i j : Nat) : Field := { id := 443, off := 0x3c0400 + 0x4000 * i + 0x40 * j, msb := 10, lsb := 9, acc := .rw, reset := 0x0 }

/-- CMP_SLOT_L_SRC_SRC_KIND_OR_FORMAT bits [31:30], RW (06). Video: 0x0 ingest receiver, 0x1 decode slot. Graphics: 0x0 ARGB8, 0x1 A2R10G10B10, 0x2 ARGB16 -/
def CMP_L_SRC_KIND_OR_FORMAT (i j : Nat) : Field := { id := 444, off := 0x3c0404 + 0x4000 * i + 0x40 * j, msb := 31, lsb := 30, acc := .rw, reset := 0x0 }

/-- CMP_SLOT_L_SRC_GFX_TCS bits [29:28], RW (06). Graphics: 0x0 BT.709 SDR, 0x1 BT.2100 PQ, 0x2 BT.2100 HLG; RSV for video -/
def CMP_L_GFX_TCS (i j : Nat) : Field := { id := 445, off := 0x3c0404 + 0x4000 * i + 0x40 * j, msb := 29, lsb := 28, acc := .rw, reset := 0x0 }

/-- CMP_SLOT_L_SRC_INDEX_OR_PITCH bits [15:0], RW (06). Video: receiver 0 to 31 or slot 0 to 3. Graphics: surface pitch in 64 B units, 1 to 1,024 -/
def CMP_L_INDEX_OR_PITCH (i j : Nat) : Field := { id := 446, off := 0x3c0404 + 0x4000 * i + 0x40 * j, msb := 15, lsb := 0, acc := .rw, reset := 0x0 }

/-- CMP_SLOT_L_GEO_CROP_X bits [31:16], RW (06). Crop origin in the source or surface -/
def CMP_L_CROP_X (i j : Nat) : Field := { id := 447, off := 0x3c0408 + 0x4000 * i + 0x40 * j, msb := 31, lsb := 16, acc := .rw, reset := 0x0 }

/-- CMP_SLOT_L_GEO_CROP_Y bits [15:0], RW (06). Crop origin in the source or surface -/
def CMP_L_CROP_Y (i j : Nat) : Field := { id := 448, off := 0x3c0408 + 0x4000 * i + 0x40 * j, msb := 15, lsb := 0, acc := .rw, reset := 0x0 }

/-- CMP_SLOT_L_GEO_CROP_W bits [31:16], RW (06). Crop size, 1 to 8,192 by 1 to 4,320; for graphics also the destination size -/
def CMP_L_CROP_W (i j : Nat) : Field := { id := 449, off := 0x3c040c + 0x4000 * i + 0x40 * j, msb := 31, lsb := 16, acc := .rw, reset := 0x780 }

/-- CMP_SLOT_L_GEO_CROP_H bits [15:0], RW (06). Crop size, 1 to 8,192 by 1 to 4,320; for graphics also the destination size -/
def CMP_L_CROP_H (i j : Nat) : Field := { id := 450, off := 0x3c040c + 0x4000 * i + 0x40 * j, msb := 15, lsb := 0, acc := .rw, reset := 0x438 }

/-- CMP_SLOT_L_GEO_DST_X bits [31:16], RW (06). Destination origin, signed -/
def CMP_L_DST_X (i j : Nat) : Field := { id := 451, off := 0x3c0410 + 0x4000 * i + 0x40 * j, msb := 31, lsb := 16, acc := .rw, reset := 0x0 }

/-- CMP_SLOT_L_GEO_DST_Y bits [15:0], RW (06). Destination origin, signed -/
def CMP_L_DST_Y (i j : Nat) : Field := { id := 452, off := 0x3c0410 + 0x4000 * i + 0x40 * j, msb := 15, lsb := 0, acc := .rw, reset := 0x0 }

/-- CMP_SLOT_L_GEO_DST_W bits [31:16], RW (06). Destination size, video only; RSV for graphics -/
def CMP_L_DST_W (i j : Nat) : Field := { id := 453, off := 0x3c0414 + 0x4000 * i + 0x40 * j, msb := 31, lsb := 16, acc := .rw, reset := 0x780 }

/-- CMP_SLOT_L_GEO_DST_H bits [15:0], RW (06). Destination size, video only; RSV for graphics -/
def CMP_L_DST_H (i j : Nat) : Field := { id := 454, off := 0x3c0414 + 0x4000 * i + 0x40 * j, msb := 15, lsb := 0, acc := .rw, reset := 0x438 }

/-- CMP_SLOT_L_GEO_SRC_PEAK bits [31:16], RW (06). PQ source peak, 100 to 10,000 cd/m² -/
def CMP_L_SRC_PEAK (i j : Nat) : Field := { id := 455, off := 0x3c0418 + 0x4000 * i + 0x40 * j, msb := 31, lsb := 16, acc := .rw, reset := 0x3e8 }

/-- CMP_SLOT_L_GEO_KNEE bits [15:8], RW (06). Knee × 256 -/
def CMP_L_KNEE (i j : Nat) : Field := { id := 456, off := 0x3c0418 + 0x4000 * i + 0x40 * j, msb := 15, lsb := 8, acc := .rw, reset := 0xc0 }

/-- CMP_SLOT_L_GEO_SCROLL_X bits [31:16], RW (06). Graphics: signed pixels per picture; RSV for video -/
def CMP_L_SCROLL_X (i j : Nat) : Field := { id := 457, off := 0x3c041c + 0x4000 * i + 0x40 * j, msb := 31, lsb := 16, acc := .rw, reset := 0x0 }

/-- CMP_SLOT_L_GEO_SCROLL_Y bits [15:0], RW (06). Graphics: signed pixels per picture; RSV for video -/
def CMP_L_SCROLL_Y (i j : Nat) : Field := { id := 458, off := 0x3c041c + 0x4000 * i + 0x40 * j, msb := 15, lsb := 0, acc := .rw, reset := 0x0 }

/-- CMP_SLOT_L_SURF_SURF_A_BASE bits [26:0], RW (06). Surface A in 4 KiB units; bits [31:27] RSV -/
def CMP_L_SURF_A_BASE (i j : Nat) : Field := { id := 459, off := 0x3c0420 + 0x4000 * i + 0x40 * j, msb := 26, lsb := 0, acc := .rw, reset := 0x0 }

/-- CMP_SLOT_L_SURF_SURF_B_BASE bits [26:0], RW (06). Surface B in 4 KiB units; bits [31:27] RSV -/
def CMP_L_SURF_B_BASE (i j : Nat) : Field := { id := 460, off := 0x3c0424 + 0x4000 * i + 0x40 * j, msb := 26, lsb := 0, acc := .rw, reset := 0x0 }

/-- CMP_SLOT_L_SURF_SURF_W bits [31:16], RW (06). Surface size in pixels, 1 to 8,192 by 1 to 8,192 -/
def CMP_L_SURF_W (i j : Nat) : Field := { id := 461, off := 0x3c0428 + 0x4000 * i + 0x40 * j, msb := 31, lsb := 16, acc := .rw, reset := 0x780 }

/-- CMP_SLOT_L_SURF_SURF_H bits [15:0], RW (06). Surface size in pixels, 1 to 8,192 by 1 to 8,192 -/
def CMP_L_SURF_H (i j : Nat) : Field := { id := 462, off := 0x3c0428 + 0x4000 * i + 0x40 * j, msb := 15, lsb := 0, acc := .rw, reset := 0x438 }

/-- CMP_SLOT_L_STATUS_FILLED bits [31:31], RO (06). 1 once the layer has shown content -/
def CMP_L_FILLED (i j : Nat) : Field := { id := 463, off := 0x3c042c + 0x4000 * i + 0x40 * j, msb := 31, lsb := 31, acc := .ro, reset := 0x0 }

/-- CMP_SLOT_L_STATUS_HELD bits [30:30], RO (06). The last picture was held -/
def CMP_L_HELD (i j : Nat) : Field := { id := 464, off := 0x3c042c + 0x4000 * i + 0x40 * j, msb := 30, lsb := 30, acc := .ro, reset := 0x0 }

/-- CMP_SLOT_L_STATUS_FRONT bits [29:29], RO (06). Graphics front surface: 0 A, 1 B -/
def CMP_L_FRONT (i j : Nat) : Field := { id := 465, off := 0x3c042c + 0x4000 * i + 0x40 * j, msb := 29, lsb := 29, acc := .ro, reset := 0x0 }

/-- CMP_SLOT_L_STATUS_LOAD_PENDING bits [28:28], RO (06). A SURFACE_LOAD awaits its swap -/
def CMP_L_LOAD_PENDING (i j : Nat) : Field := { id := 466, off := 0x3c042c + 0x4000 * i + 0x40 * j, msb := 28, lsb := 28, acc := .ro, reset := 0x0 }

/-- CMP_SLOT_L_CNT_HELD_PIC_CNT bits [31:16], RO (06). Pictures held, as in R173 -/
def CMP_L_HELD_PIC_CNT (i j : Nat) : Field := { id := 467, off := 0x3c0430 + 0x4000 * i + 0x40 * j, msb := 31, lsb := 16, acc := .ro, reset := 0x0 }

/-- CMP_SLOT_L_CNT_HELD_LINE_CNT bits [15:0], RO (06). Lines held, as in R175 -/
def CMP_L_HELD_LINE_CNT (i j : Nat) : Field := { id := 468, off := 0x3c0430 + 0x4000 * i + 0x40 * j, msb := 15, lsb := 0, acc := .ro, reset := 0x0 }

/-- CMP_SLOT_L_CNT_EMPTY_PIC_CNT bits [31:16], RO (06). Pictures transparent for want of content -/
def CMP_L_EMPTY_PIC_CNT (i j : Nat) : Field := { id := 469, off := 0x3c0434 + 0x4000 * i + 0x40 * j, msb := 31, lsb := 16, acc := .ro, reset := 0x0 }

/-- CMP_SLOT_L_CNT_TRANSP_LINE_CNT bits [15:0], RO (06). Lines left transparent, as in R175 -/
def CMP_L_TRANSP_LINE_CNT (i j : Nat) : Field := { id := 470, off := 0x3c0434 + 0x4000 * i + 0x40 * j, msb := 15, lsb := 0, acc := .ro, reset := 0x0 }

/-- SAF_FN_MASK_FN bits [31:0], RW (07). Bit f: function f owns Safety Net objects 0 to 4 -/
def SAF_FN_MASK : Field := { id := 471, off := 0x400000, msb := 31, lsb := 0, acc := .rw, reset := 0x1 }

/-- SAF_CMP_STATUS_AVAILABLE bits [31:31], RO (07). 1 while paired with a PN4816 and comparing -/
def SAF_CMP_AVAILABLE : Field := { id := 472, off := 0x400040, msb := 31, lsb := 31, acc := .ro, reset := 0x0 }

/-- SAF_CMP_STATUS_DIVERGED bits [3:0], RO (07). Bit n: slot n diverged, as in R206 -/
def SAF_CMP_DIVERGED : Field := { id := 473, off := 0x400040, msb := 3, lsb := 0, acc := .ro, reset := 0x0 }

/-- SAF_CMP_CNT_MISMATCH_CNT bits [31:16], RO (07). Lines mismatched -/
def SAF_MISMATCH_CNT : Field := { id := 474, off := 0x400044, msb := 31, lsb := 16, acc := .ro, reset := 0x0 }

/-- SAF_CMP_CNT_MISSING_CNT bits [15:0], RO (07). Lines without a Flyer record -/
def SAF_MISSING_CNT : Field := { id := 475, off := 0x400044, msb := 15, lsb := 0, acc := .ro, reset := 0x0 }

/-- SAF_CMP_CNT_SKEW_CNT bits [31:16], RO (07). Lines not compared for SEQ or STATE -/
def SAF_SKEW_CNT : Field := { id := 476, off := 0x400048, msb := 31, lsb := 16, acc := .ro, reset := 0x0 }

/-- SAF_CMP_CNT_PROTECT_CNT bits [15:0], RO (07). Protected writes dropped, as in R204 -/
def SAF_PROTECT_CNT : Field := { id := 477, off := 0x400048, msb := 15, lsb := 0, acc := .ro, reset := 0x0 }

/-- SAF_CLR_CLR bits [0:0], WO (07). 1 clears every SAF_ counter -/
def SAF_CLR_CLR : Field := { id := 478, off := 0x40004c, msb := 0, lsb := 0, acc := .wo, reset := 0x0 }

/-- SAF_SLOT_AREA_AREA_BASE bits [26:0], RW (07). Safety Net area in 4 KiB units, as in R203; 0 means unset -/
def SAF_SLOT_AREA_BASE (i : Nat) : Field := { id := 479, off := 0x400100 + 0x40 * i, msb := 26, lsb := 0, acc := .rw, reset := 0x0 }

/-- SAF_SLOT_STATE_STATE bits [31:30], RO (07). State of R198 at the last composition start -/
def SAF_SLOT_STATE_STATE (i : Nat) : Field := { id := 480, off := 0x400104 + 0x40 * i, msb := 31, lsb := 30, acc := .ro, reset := 0x0 }

/-- SAF_SLOT_STATE_PENDING bits [29:29], RO (07). A content package is pending -/
def SAF_SLOT_STATE_PENDING (i : Nat) : Field := { id := 481, off := 0x400104 + 0x40 * i, msb := 29, lsb := 29, acc := .ro, reset := 0x0 }

/-- SAF_SLOT_STATE_REQUIRE bits [28:28], RO (07). REQUIRE of the policy in force -/
def SAF_SLOT_STATE_REQUIRE (i : Nat) : Field := { id := 482, off := 0x400104 + 0x40 * i, msb := 28, lsb := 28, acc := .ro, reset := 0x0 }

/-- SAF_SLOT_STATE_FAULT_ACTION bits [27:26], RO (07). FAULT_ACTION of the policy in force -/
def SAF_SLOT_STATE_FAULT_ACTION (i : Nat) : Field := { id := 483, off := 0x400104 + 0x40 * i, msb := 27, lsb := 26, acc := .ro, reset := 0x0 }

/-- SAF_SLOT_STATE_LAST_STATUS bits [15:0], RO (07). Status of the last SAF_LOAD or AREA write for this slot -/
def SAF_SLOT_STATE_LAST_STATUS (i : Nat) : Field := { id := 484, off := 0x400104 + 0x40 * i, msb := 15, lsb := 0, acc := .ro, reset := 0x0 }

/-- SAF_SLOT_CNT_REFUSED_CNT bits [31:16], RO (07). Packages refused -/
def SAF_SLOT_REFUSED_CNT (i : Nat) : Field := { id := 485, off := 0x400118 + 0x40 * i, msb := 31, lsb := 16, acc := .ro, reset := 0x0 }

/-- SAF_SLOT_CNT_READBACK_ERR_CNT bits [15:0], RO (07). Panel read-back failures, as in R200 -/
def SAF_SLOT_READBACK_ERR_CNT (i : Nat) : Field := { id := 486, off := 0x400118 + 0x40 * i, msb := 15, lsb := 0, acc := .ro, reset := 0x0 }

/-- SAF_KEY bits [31:0], RO (07). -/
def SAF_KEY (i : Nat) : Field := { id := 487, off := 0x400010 + 0x4 * i, msb := 31, lsb := 0, acc := .ro, reset := 0x0 }

/-- SAF_SLOT_PKG_SEQ_LO bits [31:0], RO (07). -/
def SAF_SLOT_SEQ_LO (i : Nat) : Field := { id := 488, off := 0x400108 + 0x40 * i, msb := 31, lsb := 0, acc := .ro, reset := 0x0 }

/-- SAF_SLOT_PKG_SEQ_HI bits [31:0], RO (07). -/
def SAF_SLOT_SEQ_HI (i : Nat) : Field := { id := 489, off := 0x40010c + 0x40 * i, msb := 31, lsb := 0, acc := .ro, reset := 0x0 }

/-- SAF_SLOT_PKG_UNTIL_SEC bits [31:0], RO (07). -/
def SAF_SLOT_UNTIL_SEC (i : Nat) : Field := { id := 490, off := 0x400110 + 0x40 * i, msb := 31, lsb := 0, acc := .ro, reset := 0x0 }

/-- SAF_SLOT_PKG_UNTIL_NS bits [31:0], RO (07). -/
def SAF_SLOT_UNTIL_NS (i : Nat) : Field := { id := 491, off := 0x400114 + 0x40 * i, msb := 31, lsb := 0, acc := .ro, reset := 0x0 }

end Sys2Proof.Machine.Reg
end

