-- ==== Sys2Proof/Machine/FieldsD.lean ====
section
/-! DEFINITION. The register fields of blocks ENC, RC, DEC, SCN, AUD, TRP, BRKLOCAL (R11, R13, R512), one definition per field of
the spec's field maps. Index arguments run as in the map: i the first, j the second, m the third; f is the function
whose copy of a per-function register is meant (R107). -/

namespace Sys2Proof.Machine.Reg

/-- ENC_BS_DELAY_D_NS bits [31:0], RW (01). D in ns. 0 selects the default, P_f + 2,000,000 ns. Other values must be at least 4,000,000 and at most 200... -/
def ENC_BS_D_NS (i : Nat) : Field := { id := 492, off := 0x440100 + 0x20 * i, msb := 31, lsb := 0, acc := .rw, reset := 0x0 }

/-- ENC_BS_ALLOW_A_A_SRC_US bits [31:16], RW (01). A_SRC in µs, 0 to 20,000 -/
def ENC_BS_A_SRC_US (i : Nat) : Field := { id := 493, off := 0x440104 + 0x20 * i, msb := 31, lsb := 16, acc := .rw, reset := 0x64 }

/-- ENC_BS_ALLOW_A_A_DST_US bits [15:0], RW (01). A_DST in µs, 0 to 20,000 -/
def ENC_BS_A_DST_US (i : Nat) : Field := { id := 494, off := 0x440104 + 0x20 * i, msb := 15, lsb := 0, acc := .rw, reset := 0xc8 }

/-- ENC_BS_ALLOW_B_A_SCN_US bits [31:16], RW (01). A_SCN in µs, 1 to 5,000 -/
def ENC_BS_A_SCN_US (i : Nat) : Field := { id := 495, off := 0x440108 + 0x20 * i, msb := 31, lsb := 16, acc := .rw, reset := 0x3c }

/-- ENC_BS_ALLOW_B_A_RES_US bits [15:0], RW (01). A_RES in µs, 0 to 20,000; at least 800 when the device is paired -/
def ENC_BS_A_RES_US (i : Nat) : Field := { id := 496, off := 0x440108 + 0x20 * i, msb := 15, lsb := 0, acc := .rw, reset := 0x0 }

/-- ENC_BS_BUDGET_VALID bits [31:31], RO (01). 1 when the configuration in force passed the check in R35 -/
def ENC_BS_BUDGET_VALID (i : Nat) : Field := { id := 497, off := 0x44010c + 0x20 * i, msb := 31, lsb := 31, acc := .ro, reset := 0x0 }

/-- ENC_BS_BUDGET_MARGIN_US bits [23:0], RO (01). Margin of the configuration in force, in µs, rounded down. 0 when VALID is 0 -/
def ENC_BS_BUDGET_MARGIN_US (i : Nat) : Field := { id := 498, off := 0x44010c + 0x20 * i, msb := 23, lsb := 0, acc := .ro, reset := 0x0 }

/-- ENC_BS_LATE_ROW_LATE_CNT bits [31:16], RO (01). Rows of this bitstream released after their e_k -/
def ENC_BS_ROW_LATE_CNT (i : Nat) : Field := { id := 499, off := 0x440110 + 0x20 * i, msb := 31, lsb := 16, acc := .ro, reset := 0x0 }

/-- ENC_BS_LATE_CLR bits [0:0], WO (01). Writing 1 clears ROW_LATE_CNT -/
def ENC_BS_LATE_CLR (i : Nat) : Field := { id := 500, off := 0x440110 + 0x20 * i, msb := 0, lsb := 0, acc := .wo, reset := 0x0 }

/-- ENC_BS_RUN_CMD bits [31:28], WO (03). 0x1 START, 0x2 STOP, 0x3 COMMIT; other values refused with 0x1305 -/
def ENC_BS_RUN_CMD (i : Nat) : Field := { id := 501, off := 0x440114 + 0x20 * i, msb := 31, lsb := 28, acc := .wo, reset := 0x0 }

/-- ENC_BS_RUN_FREERUN_OK bits [27:27], RW (03). 1 allows START while the active domain is FREERUN or ACQUIRE -/
def ENC_BS_RUN_FREERUN_OK (i : Nat) : Field := { id := 502, off := 0x440114 + 0x20 * i, msb := 27, lsb := 27, acc := .rw, reset := 0x0 }

/-- ENC_BS_RUN_AUTOSTART bits [26:26], RW (03). 1 starts the slot as in R93; loaded from the configuration image -/
def ENC_BS_RUN_AUTOSTART (i : Nat) : Field := { id := 503, off := 0x440114 + 0x20 * i, msb := 26, lsb := 26, acc := .rw, reset := 0x0 }

/-- ENC_BS_RUN_STATE bits [19:16], RO (03). Slot state, as in R100 -/
def ENC_BS_RUN_STATE (i : Nat) : Field := { id := 504, off := 0x440114 + 0x20 * i, msb := 19, lsb := 16, acc := .ro, reset := 0x0 }

/-- ENC_BS_RUN_LAST_STATUS bits [15:0], RO (03). Status of the last command -/
def ENC_BS_RUN_LAST_STATUS (i : Nat) : Field := { id := 505, off := 0x440114 + 0x20 * i, msb := 15, lsb := 0, acc := .ro, reset := 0x0 }

/-- ENC_BS_FIRST_FIRST_PIC bits [31:0], RO (03). Bits [31:0] of N, the first picture of the last START of an encode slot -/
def ENC_BS_FIRST_PIC (i : Nat) : Field := { id := 506, off := 0x440118 + 0x20 * i, msb := 31, lsb := 0, acc := .ro, reset := 0x0 }

/-- ENC_CTRL_EFFORT_FLOOR bits [31:28], RW (08). Lowest effort step, 0 to 5; a write of 6 to 15 is ignored -/
def ENC_CTRL_EFFORT_FLOOR : Field := { id := 507, off := 0x440000, msb := 31, lsb := 28, acc := .rw, reset := 0x0 }

/-- ENC_CTRL_THERM_STEP bits [19:16], RO (08). Step requested by thermal management -/
def ENC_CTRL_THERM_STEP : Field := { id := 508, off := 0x440000, msb := 19, lsb := 16, acc := .ro, reset := 0x0 }

/-- ENC_CTRL_EFFORT bits [3:0], RO (08). Step in force, as in R234 -/
def ENC_CTRL_EFFORT : Field := { id := 509, off := 0x440000, msb := 3, lsb := 0, acc := .ro, reset := 0x0 }

/-- ENC_EFFORT_CNT_EFFORT_CHG_CNT bits [31:16], RO (08). Changes of EFFORT -/
def ENC_EFFORT_CHG_CNT : Field := { id := 510, off := 0x440004, msb := 31, lsb := 16, acc := .ro, reset := 0x0 }

/-- ENC_EFFORT_CNT_CLR bits [0:0], WO (08). 1 clears EFFORT_CHG_CNT -/
def ENC_EFFORT_CNT_CLR : Field := { id := 511, off := 0x440004, msb := 0, lsb := 0, acc := .wo, reset := 0x0 }

/-- ENC_FACE_LOAD_SLOTS bits [31:28], RO (08). Bit n: slot n has columns on Face i -/
def ENC_FACE_SLOTS (i : Nat) : Field := { id := 512, off := 0x440040 + 0x4 * i, msb := 31, lsb := 28, acc := .ro, reset := 0x0 }

/-- ENC_FACE_LOAD_LOAD_PM bits [9:0], RO (08). Load placed on Face i in thousandths of 1 Gpx/s, rounded up -/
def ENC_FACE_LOAD_PM (i : Nat) : Field := { id := 513, off := 0x440040 + 0x4 * i, msb := 9, lsb := 0, acc := .ro, reset := 0x0 }

/-- ENC_BS_FORMAT_KIND bits [31:31], RW (08). 0 encode slot, 1 decode slot -/
def ENC_BS_FORMAT_KIND (i : Nat) : Field := { id := 514, off := 0x440200 + 0x40 * i, msb := 31, lsb := 31, acc := .rw, reset := 0x0 }

/-- ENC_BS_FORMAT_PROFILE bits [30:28], RW (08). As in R208; other values rejected -/
def ENC_BS_FORMAT_PROFILE (i : Nat) : Field := { id := 515, off := 0x440200 + 0x40 * i, msb := 30, lsb := 28, acc := .rw, reset := 0x0 }

/-- ENC_BS_FORMAT_CHROMA bits [27:26], RW (08). 0x0 4:2:0, 0x1 4:2:2, 0x2 4:4:4; 0x3 rejected -/
def ENC_BS_FORMAT_CHROMA (i : Nat) : Field := { id := 516, off := 0x440200 + 0x40 * i, msb := 27, lsb := 26, acc := .rw, reset := 0x0 }

/-- ENC_BS_FORMAT_TIER bits [25:25], RW (08). 0 Main, 1 High -/
def ENC_BS_FORMAT_TIER (i : Nat) : Field := { id := 517, off := 0x440200 + 0x40 * i, msb := 25, lsb := 25, acc := .rw, reset := 0x0 }

/-- ENC_BS_FORMAT_STRICT_LEVEL bits [24:24], RW (08). 1 rejects layouts beyond Annex A limits, as in R211 -/
def ENC_BS_FORMAT_STRICT_LEVEL (i : Nat) : Field := { id := 518, off := 0x440200 + 0x40 * i, msb := 24, lsb := 24, acc := .rw, reset := 0x0 }

/-- ENC_BS_FORMAT_LEVEL bits [23:20], RW (08). 0x0 automatic; 0x1 to 0x8 as in R210; other values rejected -/
def ENC_BS_FORMAT_LEVEL (i : Nat) : Field := { id := 519, off := 0x440200 + 0x40 * i, msb := 23, lsb := 20, acc := .rw, reset := 0x0 }

/-- ENC_BS_FORMAT_RATE bits [19:16], RW (08). Frame rate, encoded as ING_RXr_FMT.RATE -/
def ENC_BS_FORMAT_RATE (i : Nat) : Field := { id := 520, off := 0x440200 + 0x40 * i, msb := 19, lsb := 16, acc := .rw, reset := 0xa }

/-- ENC_BS_SIZE_WIDTH bits [31:16], RW (08). Picture width, 256 to 8,192, multiple of 8 -/
def ENC_BS_SIZE_WIDTH (i : Nat) : Field := { id := 521, off := 0x440204 + 0x40 * i, msb := 31, lsb := 16, acc := .rw, reset := 0x780 }

/-- ENC_BS_SIZE_HEIGHT bits [15:0], RW (08). Picture height, 384 to 4,320, multiple of 8 -/
def ENC_BS_SIZE_HEIGHT (i : Nat) : Field := { id := 522, off := 0x440204 + 0x40 * i, msb := 15, lsb := 0, acc := .rw, reset := 0x438 }

/-- ENC_BS_SUBPIC_SP_W bits [31:24], RW (08). Subpicture width in CTUs of 128, 1 to 64 -/
def ENC_BS_SP_W (i : Nat) : Field := { id := 523, off := 0x440208 + 0x40 * i, msb := 31, lsb := 24, acc := .rw, reset := 0x2 }

/-- ENC_BS_SUBPIC_SP_H bits [23:16], RW (08). Subpicture height in CTUs of 128, 1 to 34 -/
def ENC_BS_SP_H (i : Nat) : Field := { id := 524, off := 0x440208 + 0x40 * i, msb := 23, lsb := 16, acc := .rw, reset := 0x2 }

/-- ENC_BS_SUBPIC_SP_COUNT bits [10:0], RO (08). Subpictures in the committed layout -/
def ENC_BS_SP_COUNT (i : Nat) : Field := { id := 525, off := 0x440208 + 0x40 * i, msb := 10, lsb := 0, acc := .ro, reset := 0x0 }

/-- ENC_BS_GDR_GDR_COLS bits [31:28], RW (08). Band width in CTU columns, 1 to 8 -/
def ENC_BS_GDR_COLS (i : Nat) : Field := { id := 526, off := 0x44020c + 0x40 * i, msb := 31, lsb := 28, acc := .rw, reset := 0x2 }

/-- ENC_BS_GDR_SWEEP_LEN bits [7:0], RO (08). L of the committed configuration -/
def ENC_BS_SWEEP_LEN (i : Nat) : Field := { id := 527, off := 0x44020c + 0x40 * i, msb := 7, lsb := 0, acc := .ro, reset := 0x0 }

/-- ENC_BS_TOOLS_NUM_REF bits [31:30], RW (08). Reference pictures, 1 or 2; 0x0 and 0x3 rejected -/
def ENC_BS_TOOLS_NUM_REF (i : Nat) : Field := { id := 528, off := 0x440210 + 0x40 * i, msb := 31, lsb := 30, acc := .rw, reset := 0x1 }

/-- ENC_BS_TOOLS_AFFINE_EN bits [29:29], RW (08). 1 enables affine candidates (VVC only; ignored for HEVC) -/
def ENC_BS_TOOLS_AFFINE_EN (i : Nat) : Field := { id := 529, off := 0x440210 + 0x40 * i, msb := 29, lsb := 29, acc := .rw, reset := 0x1 }

/-- ENC_BS_TOOLS_HINT_EN bits [28:28], RW (08). 1 enables composition candidates -/
def ENC_BS_TOOLS_HINT_EN (i : Nat) : Field := { id := 530, off := 0x440210 + 0x40 * i, msb := 28, lsb := 28, acc := .rw, reset := 0x1 }

/-- ENC_BS_TOOLS_TS_EN bits [27:27], RW (08). 1 enables transform skip -/
def ENC_BS_TOOLS_TS_EN (i : Nat) : Field := { id := 531, off := 0x440210 + 0x40 * i, msb := 27, lsb := 27, acc := .rw, reset := 0x1 }

/-- ENC_BS_TOOLS_FACE_MASK bits [15:0], RW (08). Bit i: the slot may use Face i -/
def ENC_BS_TOOLS_FACE_MASK (i : Nat) : Field := { id := 532, off := 0x440210 + 0x40 * i, msb := 15, lsb := 0, acc := .rw, reset := 0xffff }

/-- ENC_BS_ENGINES_COLS_PER_ENG bits [31:28], RW (08). Subpicture columns per slice engine, 1 to 8 -/
def ENC_BS_COLS_PER_ENG (i : Nat) : Field := { id := 533, off := 0x440214 + 0x40 * i, msb := 31, lsb := 28, acc := .rw, reset := 0x4 }

/-- ENC_BS_ENGINES_ENG_COUNT bits [7:0], RO (08). Engines allocated, as in R238; 0 when none -/
def ENC_BS_ENG_COUNT (i : Nat) : Field := { id := 534, off := 0x440214 + 0x40 * i, msb := 7, lsb := 0, acc := .ro, reset := 0x0 }

/-- ENC_BS_ENGMASK_ENGINE bits [31:0], RO (08). Bit i: slice engine E(32 × m + i) allocated to the slot, where m is 0, 1 or 2 -/
def ENC_BS_ENGMASK_ENGINE (i j : Nat) : Field := { id := 535, off := 0x440218 + 0x40 * i + 0x4 * j, msb := 31, lsb := 0, acc := .ro, reset := 0x0 }

/-- ENC_BS_FACES_FACE_USED bits [15:0], RO (08). Bit i: the slot has columns on Face i -/
def ENC_BS_FACE_USED (i : Nat) : Field := { id := 536, off := 0x440224 + 0x40 * i, msb := 15, lsb := 0, acc := .ro, reset := 0x0 }

/-- ENC_BS_STATUS_SWEEP_POS bits [31:24], RO (08). j of the last picture composed, as in R226 -/
def ENC_BS_SWEEP_POS (i : Nat) : Field := { id := 537, off := 0x440228 + 0x40 * i, msb := 31, lsb := 24, acc := .ro, reset := 0x0 }

/-- ENC_BS_STATUS_FIRST_SWEEP bits [23:23], RO (08). 1 while the first sweep after START runs -/
def ENC_BS_FIRST_SWEEP (i : Nat) : Field := { id := 538, off := 0x440228 + 0x40 * i, msb := 23, lsb := 23, acc := .ro, reset := 0x0 }

/-- ENC_BS_PIC_CNT_PIC_CNT bits [31:0], RO (08). Pictures encoded since the last START -/
def ENC_BS_PIC_CNT (i : Nat) : Field := { id := 539, off := 0x44022c + 0x40 * i, msb := 31, lsb := 0, acc := .ro, reset := 0x0 }

/-- ENC_BS_SWEEP_CNT_SWEEP_CNT bits [31:16], RO (08). Sweeps completed since the last START -/
def ENC_BS_SWEEP_CNT (i : Nat) : Field := { id := 540, off := 0x440230 + 0x40 * i, msb := 31, lsb := 16, acc := .ro, reset := 0x0 }

/-- ENC_BS_CLR_CLR bits [0:0], WO (08). 1 clears PIC_CNT and SWEEP_CNT -/
def ENC_BS_CLR_CLR (i : Nat) : Field := { id := 541, off := 0x440234 + 0x40 * i, msb := 0, lsb := 0, acc := .wo, reset := 0x0 }

/-- ENC_BS_PKT_CTRL_TS_EN bits [31:31], RW (10). 1 sends an MPEG-2 TS, as in R265 -/
def ENC_BS_PKT_TS_EN (i : Nat) : Field := { id := 542, off := 0x440400 + 0x200 * i, msb := 31, lsb := 31, acc := .rw, reset := 0x0 }

/-- ENC_BS_PKT_CTRL_TS_RTP bits [30:30], RW (10). 1 adds RTP per RFC 2250 -/
def ENC_BS_PKT_TS_RTP (i : Nat) : Field := { id := 543, off := 0x440400 + 0x200 * i, msb := 30, lsb := 30, acc := .rw, reset := 0x1 }

/-- ENC_BS_PKT_CTRL_STREAMS bits [27:24], RW (10). Streams, 1 to 8 -/
def ENC_BS_PKT_STREAMS (i : Nat) : Field := { id := 544, off := 0x440400 + 0x200 * i, msb := 27, lsb := 24, acc := .rw, reset := 0x1 }

/-- ENC_BS_PKT_CTRL_MTU bits [13:0], RW (10). Largest IPv4 datagram, 576 to 9,000 B -/
def ENC_BS_PKT_MTU (i : Nat) : Field := { id := 545, off := 0x440400 + 0x200 * i, msb := 13, lsb := 0, acc := .rw, reset := 0x5dc }

/-- ENC_BS_PKT_TS_VIDEO_PID bits [28:16], RW (10). 0x0020 to 0x1FFE -/
def ENC_BS_PKT_VIDEO_PID (i : Nat) : Field := { id := 546, off := 0x440404 + 0x200 * i, msb := 28, lsb := 16, acc := .rw, reset := 0x100 }

/-- ENC_BS_PKT_TS_PMT_PID bits [12:0], RW (10). 0x0020 to 0x1FFE, not VIDEO_PID -/
def ENC_BS_PKT_PMT_PID (i : Nat) : Field := { id := 547, off := 0x440404 + 0x200 * i, msb := 12, lsb := 0, acc := .rw, reset := 0x1000 }

/-- ENC_BS_PKT_CLR_CLR bits [0:0], WO (10). 1 clears every PKT_CNT of the slot -/
def ENC_BS_PKT_CLR_CLR (i : Nat) : Field := { id := 548, off := 0x440408 + 0x200 * i, msb := 0, lsb := 0, acc := .wo, reset := 0x0 }

/-- ENC_BS_STR_COL_FIRST bits [31:24], RW (10). First subpicture column -/
def ENC_BS_STR_COL_FIRST (i j : Nat) : Field := { id := 549, off := 0x440420 + 0x200 * i + 0x20 * j, msb := 31, lsb := 24, acc := .rw, reset := 0x0 }

/-- ENC_BS_STR_COL_LAST bits [23:16], RW (10). Last subpicture column -/
def ENC_BS_STR_COL_LAST (i j : Nat) : Field := { id := 550, off := 0x440420 + 0x200 * i + 0x20 * j, msb := 23, lsb := 16, acc := .rw, reset := 0x0 }

/-- ENC_BS_STR_PATH1_EN bits [15:15], RW (10). 1 sends the ST 2022-7 copy on LANE1 -/
def ENC_BS_STR_PATH1_EN (i j : Nat) : Field := { id := 551, off := 0x440420 + 0x200 * i + 0x20 * j, msb := 15, lsb := 15, acc := .rw, reset := 0x0 }

/-- ENC_BS_STR_PT bits [14:8], RW (10). RTP payload type, 96 to 127 -/
def ENC_BS_STR_PT (i j : Nat) : Field := { id := 552, off := 0x440420 + 0x200 * i + 0x20 * j, msb := 14, lsb := 8, acc := .rw, reset := 0x60 }

/-- ENC_BS_STR_DSCP bits [7:2], RW (10). IPv4 DSCP -/
def ENC_BS_STR_DSCP (i j : Nat) : Field := { id := 553, off := 0x440420 + 0x200 * i + 0x20 * j, msb := 7, lsb := 2, acc := .rw, reset := 0x0 }

/-- ENC_BS_STR_LANE0 bits [31:28], RW (10). Path 0 lane -/
def ENC_BS_STR_LANE0 (i j : Nat) : Field := { id := 554, off := 0x440424 + 0x200 * i + 0x20 * j, msb := 31, lsb := 28, acc := .rw, reset := 0x0 }

/-- ENC_BS_STR_LANE1 bits [27:24], RW (10). Path 1 lane -/
def ENC_BS_STR_LANE1 (i j : Nat) : Field := { id := 555, off := 0x440424 + 0x200 * i + 0x20 * j, msb := 27, lsb := 24, acc := .rw, reset := 0x1 }

/-- ENC_BS_STR_TTL bits [23:16], RW (10). IPv4 TTL, 1 to 255 -/
def ENC_BS_STR_TTL (i j : Nat) : Field := { id := 556, off := 0x440424 + 0x200 * i + 0x20 * j, msb := 23, lsb := 16, acc := .rw, reset := 0x40 }

/-- ENC_BS_STR_DST_PORT bits [15:0], RW (10). UDP destination port -/
def ENC_BS_STR_DST_PORT (i j : Nat) : Field := { id := 557, off := 0x440424 + 0x200 * i + 0x20 * j, msb := 15, lsb := 0, acc := .rw, reset := 0x138c }

/-- ENC_BS_STR_GROUP bits [31:0], RW (10). IPv4 destination address -/
def ENC_BS_STR_GROUP (i j : Nat) : Field := { id := 558, off := 0x440428 + 0x200 * i + 0x20 * j, msb := 31, lsb := 0, acc := .rw, reset := 0x0 }

/-- ENC_BS_STR_SRC_PORT bits [31:16], RW (10). UDP source port -/
def ENC_BS_STR_SRC_PORT (i j : Nat) : Field := { id := 559, off := 0x44042c + 0x200 * i + 0x20 * j, msb := 31, lsb := 16, acc := .rw, reset := 0x138c }

/-- ENC_BS_STR_TAG_EN bits [15:15], RW (10). 1 adds an IEEE 802.1Q tag -/
def ENC_BS_STR_TAG_EN (i j : Nat) : Field := { id := 560, off := 0x44042c + 0x200 * i + 0x20 * j, msb := 15, lsb := 15, acc := .rw, reset := 0x0 }

/-- ENC_BS_STR_PCP bits [14:12], RW (10). Tag priority -/
def ENC_BS_STR_PCP (i j : Nat) : Field := { id := 561, off := 0x44042c + 0x200 * i + 0x20 * j, msb := 14, lsb := 12, acc := .rw, reset := 0x0 }

/-- ENC_BS_STR_VID bits [11:0], RW (10). Tag VLAN ID -/
def ENC_BS_STR_VID (i j : Nat) : Field := { id := 562, off := 0x44042c + 0x200 * i + 0x20 * j, msb := 11, lsb := 0, acc := .rw, reset := 0x0 }

/-- ENC_BS_STR_SSRC bits [31:0], RW (10). RTP SSRC -/
def ENC_BS_STR_SSRC (i j : Nat) : Field := { id := 563, off := 0x440430 + 0x200 * i + 0x20 * j, msb := 31, lsb := 0, acc := .rw, reset := 0x0 }

/-- ENC_BS_STR_TCLASS bits [2:0], RW (10). Egress traffic class, 0 to 7 -/
def ENC_BS_STR_TCLASS (i j : Nat) : Field := { id := 564, off := 0x440434 + 0x200 * i + 0x20 * j, msb := 2, lsb := 0, acc := .rw, reset := 0x0 }

/-- ENC_BS_STR_PKT_CNT bits [31:0], RO (10). Packets of the stream transmitted on path 0, counted as each leaves its lane. Packets dropped or discarded ... -/
def ENC_BS_STR_PKT_CNT (i j : Nat) : Field := { id := 565, off := 0x440438 + 0x200 * i + 0x20 * j, msb := 31, lsb := 0, acc := .ro, reset := 0x0 }

/-- RC_BS_MAX_MAX_KBPS bits [21:0], RW (09). Hard bound rate, 1,000 to 4,000,000 kb/s; not live -/
def RC_BS_MAX_KBPS (i : Nat) : Field := { id := 566, off := 0x480100 + 0x40 * i, msb := 21, lsb := 0, acc := .rw, reset := 0x186a0 }

/-- RC_BS_TARGET_TARGET_KBPS bits [21:0], RW (09). Average target, 1,000 kb/s to MAX_KBPS; live -/
def RC_BS_TARGET_KBPS (i : Nat) : Field := { id := 567, off := 0x480104 + 0x40 * i, msb := 21, lsb := 0, acc := .rw, reset := 0x13880 }

/-- RC_BS_QP_QP_INIT bits [29:24], RW (09). QP of every row's first plan after START; not live -/
def RC_BS_QP_INIT (i : Nat) : Field := { id := 568, off := 0x480108 + 0x40 * i, msb := 29, lsb := 24, acc := .rw, reset := 0x20 }

/-- RC_BS_QP_QP_MIN bits [21:16], RW (09). Lowest CTU QP; live -/
def RC_BS_QP_MIN (i : Nat) : Field := { id := 569, off := 0x480108 + 0x40 * i, msb := 21, lsb := 16, acc := .rw, reset := 0x4 }

/-- RC_BS_QP_QP_MAX bits [13:8], RW (09). Highest CTU QP; live -/
def RC_BS_QP_MAX (i : Nat) : Field := { id := 570, off := 0x480108 + 0x40 * i, msb := 13, lsb := 8, acc := .rw, reset := 0x33 }

/-- RC_BS_QP_DQP_PIC bits [3:0], RW (09). Largest row QP change between pictures, 1 to 12; live -/
def RC_BS_DQP_PIC (i : Nat) : Field := { id := 571, off := 0x480108 + 0x40 * i, msb := 3, lsb := 0, acc := .rw, reset := 0x4 }

/-- RC_BS_ROW_ROW_MAX bits [24:0], RW (09). Row cap ceiling in bytes; 0 automatic, as in R245; live -/
def RC_BS_ROW_MAX (i : Nat) : Field := { id := 572, off := 0x48010c + 0x40 * i, msb := 24, lsb := 0, acc := .rw, reset := 0x0 }

/-- RC_BS_FLOOR_ROW_FLOOR bits [24:0], RW (09). Least room for a coded row in bytes; 0 automatic, as in R245; live -/
def RC_BS_ROW_FLOOR (i : Nat) : Field := { id := 573, off := 0x480110 + 0x40 * i, msb := 24, lsb := 0, acc := .rw, reset := 0x0 }

/-- RC_BS_ROW_EFF_ROW_MAX_EFF bits [24:0], RO (09). Row cap ceiling in force -/
def RC_BS_ROW_MAX_EFF (i : Nat) : Field := { id := 574, off := 0x480120 + 0x40 * i, msb := 24, lsb := 0, acc := .ro, reset := 0x0 }

/-- RC_BS_FLOOR_EFF_ROW_FLOOR_EFF bits [24:0], RO (09). Row floor in force -/
def RC_BS_ROW_FLOOR_EFF (i : Nat) : Field := { id := 575, off := 0x480124 + 0x40 * i, msb := 24, lsb := 0, acc := .ro, reset := 0x0 }

/-- RC_BS_FULL_FULLNESS bits [31:0], RO (09). F after the last picture, signed bytes -/
def RC_BS_FULLNESS (i : Nat) : Field := { id := 576, off := 0x480128 + 0x40 * i, msb := 31, lsb := 0, acc := .ro, reset := 0x0 }

/-- RC_BS_CNT_A_SPOIL_PIC_CNT bits [31:16], RO (09). Pictures with Spoil rows -/
def RC_BS_SPOIL_PIC_CNT (i : Nat) : Field := { id := 577, off := 0x48012c + 0x40 * i, msb := 31, lsb := 16, acc := .ro, reset := 0x0 }

/-- RC_BS_CNT_A_GUARD_PIC_CNT bits [15:0], RO (09). Pictures with guarded CTUs in coded rows -/
def RC_BS_GUARD_PIC_CNT (i : Nat) : Field := { id := 578, off := 0x48012c + 0x40 * i, msb := 15, lsb := 0, acc := .ro, reset := 0x0 }

/-- RC_BS_CLR_CLR bits [0:0], WO (09). 1 clears the slot's RC_ counters -/
def RC_BS_CLR_CLR (i : Nat) : Field := { id := 579, off := 0x480138 + 0x40 * i, msb := 0, lsb := 0, acc := .wo, reset := 0x0 }

/-- RC_BS_DRV_B_MAX bits [31:0], RO (09). -/
def RC_BS_B_MAX (i : Nat) : Field := { id := 580, off := 0x480114 + 0x40 * i, msb := 31, lsb := 0, acc := .ro, reset := 0x0 }

/-- RC_BS_DRV_OVERHEAD bits [31:0], RO (09). -/
def RC_BS_OVERHEAD (i : Nat) : Field := { id := 581, off := 0x480118 + 0x40 * i, msb := 31, lsb := 0, acc := .ro, reset := 0x0 }

/-- RC_BS_DRV_SPOIL_ROW bits [31:0], RO (09). -/
def RC_BS_SPOIL_ROW (i : Nat) : Field := { id := 582, off := 0x48011c + 0x40 * i, msb := 31, lsb := 0, acc := .ro, reset := 0x0 }

/-- RC_BS_CNT_BC_GUARD_CTU_CNT bits [31:0], RO (09). -/
def RC_BS_GUARD_CTU_CNT (i : Nat) : Field := { id := 583, off := 0x480130 + 0x40 * i, msb := 31, lsb := 0, acc := .ro, reset := 0x0 }

/-- RC_BS_CNT_BC_SPOIL_ROW_CNT bits [31:0], RO (09). -/
def RC_BS_SPOIL_ROW_CNT (i : Nat) : Field := { id := 584, off := 0x480134 + 0x40 * i, msb := 31, lsb := 0, acc := .ro, reset := 0x0 }

/-- DEC_BS_FORMAT_CODEC bits [31:30], RW (10). 0x0 VVC, 0x1 HEVC; other values rejected -/
def DEC_BS_CODEC (i : Nat) : Field := { id := 585, off := 0x4c0100 + 0x80 * i, msb := 31, lsb := 30, acc := .rw, reset := 0x0 }

/-- DEC_BS_FORMAT_CHROMA bits [29:28], RW (10). 0x0 4:2:0, 0x1 4:2:2, 0x2 4:4:4 -/
def DEC_BS_CHROMA (i : Nat) : Field := { id := 586, off := 0x4c0100 + 0x80 * i, msb := 29, lsb := 28, acc := .rw, reset := 0x0 }

/-- DEC_BS_FORMAT_DEPTH8 bits [27:27], RW (10). 1 for HEVC Main (8-bit) -/
def DEC_BS_DEPTH8 (i : Nat) : Field := { id := 587, off := 0x4c0100 + 0x80 * i, msb := 27, lsb := 27, acc := .rw, reset := 0x0 }

/-- DEC_BS_FORMAT_RATE bits [19:16], RW (10). Frame rate, encoded as ING_RXr_FMT.RATE -/
def DEC_BS_RATE (i : Nat) : Field := { id := 588, off := 0x4c0100 + 0x80 * i, msb := 19, lsb := 16, acc := .rw, reset := 0xa }

/-- DEC_BS_GEO_WIDTH bits [31:16], RW (10). Stream picture size, as in R209 -/
def DEC_BS_WIDTH (i : Nat) : Field := { id := 589, off := 0x4c0104 + 0x80 * i, msb := 31, lsb := 16, acc := .rw, reset := 0x780 }

/-- DEC_BS_GEO_HEIGHT bits [15:0], RW (10). Stream picture size, as in R209 -/
def DEC_BS_HEIGHT (i : Nat) : Field := { id := 590, off := 0x4c0104 + 0x80 * i, msb := 15, lsb := 0, acc := .rw, reset := 0x438 }

/-- DEC_BS_GEO_SP_W bits [31:24], RW (10). Stream subpicture size in CTUs of 128 -/
def DEC_BS_SP_W (i : Nat) : Field := { id := 591, off := 0x4c0108 + 0x80 * i, msb := 31, lsb := 24, acc := .rw, reset := 0x2 }

/-- DEC_BS_GEO_SP_H bits [23:16], RW (10). Stream subpicture size in CTUs of 128 -/
def DEC_BS_SP_H (i : Nat) : Field := { id := 592, off := 0x4c0108 + 0x80 * i, msb := 23, lsb := 16, acc := .rw, reset := 0x2 }

/-- DEC_BS_GEO_WIN_COL bits [31:24], RW (10). Window origin in subpictures -/
def DEC_BS_WIN_COL (i : Nat) : Field := { id := 593, off := 0x4c010c + 0x80 * i, msb := 31, lsb := 24, acc := .rw, reset := 0x0 }

/-- DEC_BS_GEO_WIN_ROW bits [23:16], RW (10). Window origin in subpictures -/
def DEC_BS_WIN_ROW (i : Nat) : Field := { id := 594, off := 0x4c010c + 0x80 * i, msb := 23, lsb := 16, acc := .rw, reset := 0x0 }

/-- DEC_BS_GEO_WIN_COLS bits [15:8], RW (10). Window size in subpictures -/
def DEC_BS_WIN_COLS (i : Nat) : Field := { id := 595, off := 0x4c010c + 0x80 * i, msb := 15, lsb := 8, acc := .rw, reset := 0x1 }

/-- DEC_BS_GEO_WIN_ROWS bits [7:0], RW (10). Window size in subpictures -/
def DEC_BS_WIN_ROWS (i : Nat) : Field := { id := 596, off := 0x4c010c + 0x80 * i, msb := 7, lsb := 0, acc := .rw, reset := 0x1 }

/-- DEC_BS_GEO_OUT_X bits [31:16], RW (10). Output region origin, canvas samples -/
def DEC_BS_OUT_X (i : Nat) : Field := { id := 597, off := 0x4c0110 + 0x80 * i, msb := 31, lsb := 16, acc := .rw, reset := 0x0 }

/-- DEC_BS_GEO_OUT_Y bits [15:0], RW (10). Output region origin, canvas samples -/
def DEC_BS_OUT_Y (i : Nat) : Field := { id := 598, off := 0x4c0110 + 0x80 * i, msb := 15, lsb := 0, acc := .rw, reset := 0x0 }

/-- DEC_BS_GEO_OUT_W bits [31:16], RW (10). Output region size -/
def DEC_BS_OUT_W (i : Nat) : Field := { id := 599, off := 0x4c0114 + 0x80 * i, msb := 31, lsb := 16, acc := .rw, reset := 0x100 }

/-- DEC_BS_GEO_OUT_H bits [15:0], RW (10). Output region size -/
def DEC_BS_OUT_H (i : Nat) : Field := { id := 600, off := 0x4c0114 + 0x80 * i, msb := 15, lsb := 0, acc := .rw, reset := 0x100 }

/-- DEC_BS_GEO_SBUF_LOG2 bits [31:27], RW (10). Slice buffer 2^SBUF_LOG2 B, 20 to 25 -/
def DEC_BS_SBUF_LOG2 (i : Nat) : Field := { id := 601, off := 0x4c0118 + 0x80 * i, msb := 31, lsb := 27, acc := .rw, reset := 0x14 }

/-- DEC_BS_GEO_AREA_BASE bits [26:0], RW (10). Decode area in 4 KiB units; 0 means unset -/
def DEC_BS_AREA_BASE (i : Nat) : Field := { id := 602, off := 0x4c0118 + 0x80 * i, msb := 26, lsb := 0, acc := .rw, reset := 0x0 }

/-- DEC_BS_GEO_LOAD_US bits [31:16], RW (10). Tile load allowance, 1 to 5,000 µs; live -/
def DEC_BS_LOAD_US (i : Nat) : Field := { id := 603, off := 0x4c011c + 0x80 * i, msb := 31, lsb := 16, acc := .rw, reset := 0x3c }

/-- DEC_BS_STATUS_JOINED bits [31:31], RO (10). 1 while joined, as in R272 -/
def DEC_BS_JOINED (i : Nat) : Field := { id := 604, off := 0x4c0120 + 0x80 * i, msb := 31, lsb := 31, acc := .ro, reset := 0x0 }

/-- DEC_BS_STATUS_STREAM_UP bits [30:30], RO (10). 0 after the 1,000 ms loss of R280 -/
def DEC_BS_STREAM_UP (i : Nat) : Field := { id := 605, off := 0x4c0120 + 0x80 * i, msb := 30, lsb := 30, acc := .ro, reset := 0x0 }

/-- DEC_BS_STATUS_CONC_SP bits [15:0], RO (10). Window subpictures marked concealed -/
def DEC_BS_CONC_SP (i : Nat) : Field := { id := 606, off := 0x4c0120 + 0x80 * i, msb := 15, lsb := 0, acc := .ro, reset := 0x0 }

/-- DEC_BS_CNT_MISS_SLICE_CNT bits [31:16], RO (10). Slices concealed as missing; slices errored -/
def DEC_BS_MISS_SLICE_CNT (i : Nat) : Field := { id := 607, off := 0x4c012c + 0x80 * i, msb := 31, lsb := 16, acc := .ro, reset := 0x0 }

/-- DEC_BS_CNT_ERR_SLICE_CNT bits [15:0], RO (10). Slices concealed as missing; slices errored -/
def DEC_BS_ERR_SLICE_CNT (i : Nat) : Field := { id := 608, off := 0x4c012c + 0x80 * i, msb := 15, lsb := 0, acc := .ro, reset := 0x0 }

/-- DEC_BS_CNT_MISS_PIC_CNT bits [31:16], RO (10). Pictures missing; pictures without a stamp -/
def DEC_BS_MISS_PIC_CNT (i : Nat) : Field := { id := 609, off := 0x4c0130 + 0x80 * i, msb := 31, lsb := 16, acc := .ro, reset := 0x0 }

/-- DEC_BS_CNT_NOSTAMP_CNT bits [15:0], RO (10). Pictures missing; pictures without a stamp -/
def DEC_BS_NOSTAMP_CNT (i : Nat) : Field := { id := 610, off := 0x4c0130 + 0x80 * i, msb := 15, lsb := 0, acc := .ro, reset := 0x0 }

/-- DEC_BS_CNT_FENCE_CNT bits [31:16], RO (10). Fenced accesses; out-of-tile references -/
def DEC_BS_FENCE_CNT (i : Nat) : Field := { id := 611, off := 0x4c0134 + 0x80 * i, msb := 31, lsb := 16, acc := .ro, reset := 0x0 }

/-- DEC_BS_CNT_XTILE_CNT bits [15:0], RO (10). Fenced accesses; out-of-tile references -/
def DEC_BS_XTILE_CNT (i : Nat) : Field := { id := 612, off := 0x4c0134 + 0x80 * i, msb := 15, lsb := 0, acc := .ro, reset := 0x0 }

/-- DEC_BS_CNT_DUP_SLICE_CNT bits [31:16], RO (10). Duplicate slices; slices outside the window -/
def DEC_BS_DUP_SLICE_CNT (i : Nat) : Field := { id := 613, off := 0x4c0138 + 0x80 * i, msb := 31, lsb := 16, acc := .ro, reset := 0x0 }

/-- DEC_BS_CNT_OUTSIDE_CNT bits [15:0], RO (10). Duplicate slices; slices outside the window -/
def DEC_BS_OUTSIDE_CNT (i : Nat) : Field := { id := 614, off := 0x4c0138 + 0x80 * i, msb := 15, lsb := 0, acc := .ro, reset := 0x0 }

/-- DEC_BS_CNT_STALE_CNT bits [31:16], RO (10). Stale pictures; late slice fragments -/
def DEC_BS_STALE_CNT (i : Nat) : Field := { id := 615, off := 0x4c013c + 0x80 * i, msb := 31, lsb := 16, acc := .ro, reset := 0x0 }

/-- DEC_BS_CNT_LATE_SLICE_CNT bits [15:0], RO (10). Stale pictures; late slice fragments -/
def DEC_BS_LATE_SLICE_CNT (i : Nat) : Field := { id := 616, off := 0x4c013c + 0x80 * i, msb := 15, lsb := 0, acc := .ro, reset := 0x0 }

/-- DEC_BS_CNT_MISMATCH_CNT bits [15:0], RO (10). Parameter set mismatches -/
def DEC_BS_MISMATCH_CNT (i : Nat) : Field := { id := 617, off := 0x4c0140 + 0x80 * i, msb := 15, lsb := 0, acc := .ro, reset := 0x0 }

/-- DEC_BS_CLR_CLR bits [0:0], WO (10). 1 clears every DEC_ counter of the slot -/
def DEC_BS_CLR_CLR (i : Nat) : Field := { id := 618, off := 0x4c0144 + 0x80 * i, msb := 0, lsb := 0, acc := .wo, reset := 0x0 }

/-- DEC_BS_LAST_PDT_SEC bits [31:0], RO (10). -/
def DEC_BS_LAST_PDT_SEC (i : Nat) : Field := { id := 619, off := 0x4c0124 + 0x80 * i, msb := 31, lsb := 0, acc := .ro, reset := 0x0 }

/-- DEC_BS_LAST_PDT_NS bits [31:0], RO (10). -/
def DEC_BS_LAST_PDT_NS (i : Nat) : Field := { id := 620, off := 0x4c0128 + 0x80 * i, msb := 31, lsb := 0, acc := .ro, reset := 0x0 }

/-- SCN_LANE_CTRL_ENABLE bits [31:31], RW (11). 1 enables the lane -/
def SCN_LANE_ENABLE (i : Nat) : Field := { id := 621, off := 0x501000 + 0x100 * i, msb := 31, lsb := 31, acc := .rw, reset := 0x0 }

/-- SCN_LANE_CTRL_SRC_KIND bits [30:30], RW (11). 0 decode slot, 1 memory planes -/
def SCN_LANE_SRC_KIND (i : Nat) : Field := { id := 622, off := 0x501000 + 0x100 * i, msb := 30, lsb := 30, acc := .rw, reset := 0x0 }

/-- SCN_LANE_CTRL_SR_EN bits [29:29], RW (11). 1 allows self-refresh -/
def SCN_LANE_SR_EN (i : Nat) : Field := { id := 623, off := 0x501000 + 0x100 * i, msb := 29, lsb := 29, acc := .rw, reset := 0x1 }

/-- SCN_LANE_CTRL_CLONE_EN bits [28:28], RW (11). 1 makes the lane a follower -/
def SCN_LANE_CLONE_EN (i : Nat) : Field := { id := 624, off := 0x501000 + 0x100 * i, msb := 28, lsb := 28, acc := .rw, reset := 0x0 }

/-- SCN_LANE_CTRL_CLONE_OF bits [27:24], RW (11). Leader lane -/
def SCN_LANE_CLONE_OF (i : Nat) : Field := { id := 625, off := 0x501000 + 0x100 * i, msb := 27, lsb := 24, acc := .rw, reset := 0x0 }

/-- SCN_LANE_CTRL_SRC_INDEX bits [17:16], RW (11). Decode slot 0 to 3 -/
def SCN_LANE_SRC_INDEX (i : Nat) : Field := { id := 626, off := 0x501000 + 0x100 * i, msb := 17, lsb := 16, acc := .rw, reset := 0x0 }

/-- SCN_LANE_CTRL_TILES bits [14:8], RW (11). Tiles in the chain, 1 to 64 -/
def SCN_LANE_TILES (i : Nat) : Field := { id := 627, off := 0x501000 + 0x100 * i, msb := 14, lsb := 8, acc := .rw, reset := 0x1 }

/-- SCN_LANE_CTRL_EVT_EN bits [3:0], RW (11). Event kinds sent to the host, as in R304 -/
def SCN_LANE_EVT_EN (i : Nat) : Field := { id := 628, off := 0x501000 + 0x100 * i, msb := 3, lsb := 0, acc := .rw, reset := 0x8 }

/-- SCN_LANE_GEO_SRC_X bits [31:16], RW (11). Source rectangle origin -/
def SCN_LANE_SRC_X (i : Nat) : Field := { id := 629, off := 0x501004 + 0x100 * i, msb := 31, lsb := 16, acc := .rw, reset := 0x0 }

/-- SCN_LANE_GEO_SRC_Y bits [15:0], RW (11). Source rectangle origin -/
def SCN_LANE_SRC_Y (i : Nat) : Field := { id := 630, off := 0x501004 + 0x100 * i, msb := 15, lsb := 0, acc := .rw, reset := 0x0 }

/-- SCN_LANE_GEO_SRC_W bits [31:16], RW (11). Width 8 to 8,192, multiple of 8; height 1 to 4,320 -/
def SCN_LANE_SRC_W (i : Nat) : Field := { id := 631, off := 0x501008 + 0x100 * i, msb := 31, lsb := 16, acc := .rw, reset := 0x100 }

/-- SCN_LANE_GEO_SRC_H bits [15:0], RW (11). Width 8 to 8,192, multiple of 8; height 1 to 4,320 -/
def SCN_LANE_SRC_H (i : Nat) : Field := { id := 632, off := 0x501008 + 0x100 * i, msb := 15, lsb := 0, acc := .rw, reset := 0x100 }

/-- SCN_LANE_GEO_LINE_NS bits [31:16], RW (11). Line period, 20 to 65,535 ns -/
def SCN_LANE_LINE_NS (i : Nat) : Field := { id := 633, off := 0x50100c + 0x100 * i, msb := 31, lsb := 16, acc := .rw, reset := 0xc8 }

/-- SCN_LANE_GEO_FLIP_LEAD_NS bits [15:0], RW (11). Flip lead, 100 to 20,000 ns -/
def SCN_LANE_FLIP_LEAD_NS (i : Nat) : Field := { id := 634, off := 0x50100c + 0x100 * i, msb := 15, lsb := 0, acc := .rw, reset := 0x2710 }

/-- SCN_LANE_GEO_LINE_MATCH bits [31:16], RW (11). Lane line of the line match event -/
def SCN_LANE_LINE_MATCH (i : Nat) : Field := { id := 635, off := 0x501010 + 0x100 * i, msb := 31, lsb := 16, acc := .rw, reset := 0x0 }

/-- SCN_LANE_GEO_SR_FRAMES bits [7:0], RW (11). Static pictures before self-refresh, 1 to 255 -/
def SCN_LANE_SR_FRAMES (i : Nat) : Field := { id := 636, off := 0x501010 + 0x100 * i, msb := 7, lsb := 0, acc := .rw, reset := 0x8 }

/-- SCN_LANE_APPLY_APPLY_SEC bits [31:0], RW (11). APPLY DT seconds [31:0]; seconds [47:32] are taken from the active DT -/
def SCN_LANE_APPLY_SEC (i : Nat) : Field := { id := 637, off := 0x501014 + 0x100 * i, msb := 31, lsb := 0, acc := .rw, reset := 0x0 }

/-- SCN_LANE_APPLY_APPLY_NS bits [31:0], RW (11). APPLY DT nanoseconds; both words 0 mean at acceptance -/
def SCN_LANE_APPLY_NS (i : Nat) : Field := { id := 638, off := 0x501018 + 0x100 * i, msb := 31, lsb := 0, acc := .rw, reset := 0x0 }

/-- SCN_LANE_COMMIT_COMMIT bits [31:31], WO (11). 1 commits the shadow, as in R303 and R305 -/
def SCN_LANE_COMMIT_COMMIT (i : Nat) : Field := { id := 639, off := 0x50101c + 0x100 * i, msb := 31, lsb := 31, acc := .wo, reset := 0x0 }

/-- SCN_LANE_COMMIT_LAST_STATUS bits [15:0], RO (11). Status of the last commit or recheck -/
def SCN_LANE_COMMIT_LAST_STATUS (i : Nat) : Field := { id := 640, off := 0x50101c + 0x100 * i, msb := 15, lsb := 0, acc := .ro, reset := 0x0 }

/-- SCN_LANE_STATUS_STATE bits [31:28], RO (11). Lane state -/
def SCN_LANE_STATUS_STATE (i : Nat) : Field := { id := 641, off := 0x501020 + 0x100 * i, msb := 31, lsb := 28, acc := .ro, reset := 0x0 }

/-- SCN_LANE_STATUS_PENDING bits [27:27], RO (11). A timing change awaits its start of blanking -/
def SCN_LANE_STATUS_PENDING (i : Nat) : Field := { id := 642, off := 0x501020 + 0x100 * i, msb := 27, lsb := 27, acc := .ro, reset := 0x0 }

/-- SCN_LANE_STATUS_TILES_FOUND bits [22:16], RO (11). Chain length found -/
def SCN_LANE_STATUS_TILES_FOUND (i : Nat) : Field := { id := 643, off := 0x501020 + 0x100 * i, msb := 22, lsb := 16, acc := .ro, reset := 0x0 }

/-- SCN_LANE_STATUS_LAT_MAX_NS bits [15:0], RO (11). Largest lat_j measured -/
def SCN_LANE_STATUS_LAT_MAX_NS (i : Nat) : Field := { id := 644, off := 0x501020 + 0x100 * i, msb := 15, lsb := 0, acc := .ro, reset := 0x0 }

/-- SCN_LANE_CNT_UNDERRUN_CNT bits [31:16], RO (11). Lines answered HOLD, as in R294 -/
def SCN_LANE_UNDERRUN_CNT (i : Nat) : Field := { id := 645, off := 0x501024 + 0x100 * i, msb := 31, lsb := 16, acc := .ro, reset := 0x0 }

/-- SCN_LANE_CNT_NOTREADY_CNT bits [15:0], RO (11). Lines answered HOLD, as in R294 -/
def SCN_LANE_NOTREADY_CNT (i : Nat) : Field := { id := 646, off := 0x501024 + 0x100 * i, msb := 15, lsb := 0, acc := .ro, reset := 0x0 }

/-- SCN_LANE_CNT_PROTO_CNT bits [31:16], RO (11). Requests NAKed; requests answered again -/
def SCN_LANE_PROTO_CNT (i : Nat) : Field := { id := 647, off := 0x501028 + 0x100 * i, msb := 31, lsb := 16, acc := .ro, reset := 0x0 }

/-- SCN_LANE_CNT_DUP_REQ_CNT bits [15:0], RO (11). Requests NAKed; requests answered again -/
def SCN_LANE_DUP_REQ_CNT (i : Nat) : Field := { id := 648, off := 0x501028 + 0x100 * i, msb := 15, lsb := 0, acc := .ro, reset := 0x0 }

/-- SCN_LANE_CNT_SR_ENTER_CNT bits [31:16], RO (11). Self-refresh entries; timing changes applied -/
def SCN_LANE_SR_ENTER_CNT (i : Nat) : Field := { id := 649, off := 0x50102c + 0x100 * i, msb := 31, lsb := 16, acc := .ro, reset := 0x0 }

/-- SCN_LANE_CNT_TRANSITION_CNT bits [15:0], RO (11). Self-refresh entries; timing changes applied -/
def SCN_LANE_TRANSITION_CNT (i : Nat) : Field := { id := 650, off := 0x50102c + 0x100 * i, msb := 15, lsb := 0, acc := .ro, reset := 0x0 }

/-- SCN_LANE_CNT_FRAME_CNT bits [31:0], RO (11). Flips sent -/
def SCN_LANE_FRAME_CNT (i : Nat) : Field := { id := 651, off := 0x501030 + 0x100 * i, msb := 31, lsb := 0, acc := .ro, reset := 0x0 }

/-- SCN_LANE_CLR_CLR bits [0:0], WO (11). 1 clears the lane's counters -/
def SCN_LANE_CLR_CLR (i : Nat) : Field := { id := 652, off := 0x501034 + 0x100 * i, msb := 0, lsb := 0, acc := .wo, reset := 0x0 }

/-- SCN_LANE_MEM_MEM_LOAD_US bits [31:16], RW (11). Load allowance, 1 to 5,000 µs -/
def SCN_LANE_MEM_LOAD_US (i : Nat) : Field := { id := 653, off := 0x501038 + 0x100 * i, msb := 31, lsb := 16, acc := .rw, reset := 0x3c }

/-- SCN_LANE_MEM_RATE bits [15:12], RW (11). Frame rate, encoded as ING_RXr_FMT.RATE -/
def SCN_LANE_MEM_RATE (i : Nat) : Field := { id := 654, off := 0x501038 + 0x100 * i, msb := 15, lsb := 12, acc := .rw, reset := 0xa }

/-- SCN_LANE_MEM_COLORIMETRY bits [11:10], RW (11). 0x0 BT.709, 0x1 BT.2020 -/
def SCN_LANE_MEM_COLORIMETRY (i : Nat) : Field := { id := 655, off := 0x501038 + 0x100 * i, msb := 11, lsb := 10, acc := .rw, reset := 0x0 }

/-- SCN_LANE_MEM_DEPTH bits [9:8], RW (11). 0x0 8, 0x1 10 bits -/
def SCN_LANE_MEM_DEPTH (i : Nat) : Field := { id := 656, off := 0x501038 + 0x100 * i, msb := 9, lsb := 8, acc := .rw, reset := 0x1 }

/-- SCN_LANE_MEM_PLANAR bits [7:7], RW (11). 1 planar, 0 semi-planar (4:2:x only) -/
def SCN_LANE_MEM_PLANAR (i : Nat) : Field := { id := 657, off := 0x501038 + 0x100 * i, msb := 7, lsb := 7, acc := .rw, reset := 0x0 }

/-- SCN_LANE_MEM_SAMPLING bits [1:0], RW (11). 0x0 4:2:2, 0x1 4:4:4, 0x2 RGB, 0x3 4:2:0 -/
def SCN_LANE_MEM_SAMPLING (i : Nat) : Field := { id := 658, off := 0x501038 + 0x100 * i, msb := 1, lsb := 0, acc := .rw, reset := 0x0 }

/-- SCN_LANE_MEM_MEM_BASE bits [26:0], RW (11). Planes in 4 KiB units; plane size is SRC_W × SRC_H, laid out as R154 states -/
def SCN_LANE_MEM_BASE (i : Nat) : Field := { id := 659, off := 0x50103c + 0x100 * i, msb := 26, lsb := 0, acc := .rw, reset := 0x0 }

/-- SCN_LANE_TILE_TILE_X bits [31:16], RW (11). Tile origin in the source rectangle -/
def SCN_TILE_X (i j : Nat) : Field := { id := 660, off := 0x508000 + 0x200 * i + 0x8 * j, msb := 31, lsb := 16, acc := .rw, reset := 0x0 }

/-- SCN_LANE_TILE_TILE_Y bits [15:0], RW (11). Tile origin in the source rectangle -/
def SCN_TILE_Y (i j : Nat) : Field := { id := 661, off := 0x508000 + 0x200 * i + 0x8 * j, msb := 15, lsb := 0, acc := .rw, reset := 0x0 }

/-- SCN_LANE_TILE_TILE_W bits [31:16], RW (11). Width 8 to 1,024, multiple of 8; height 1 to 512 -/
def SCN_TILE_W (i j : Nat) : Field := { id := 662, off := 0x508004 + 0x200 * i + 0x8 * j, msb := 31, lsb := 16, acc := .rw, reset := 0x40 }

/-- SCN_LANE_TILE_TILE_H bits [15:0], RW (11). Width 8 to 1,024, multiple of 8; height 1 to 512 -/
def SCN_TILE_H (i j : Nat) : Field := { id := 663, off := 0x508004 + 0x200 * i + 0x8 * j, msb := 15, lsb := 0, acc := .rw, reset := 0x40 }

/-- AUD_CTRL_MCLK_EN bits [31:31], RW (14). 1 clocks AES3 outputs from AUD_MCLK_IN, as in R362 -/
def AUD_MCLK_EN : Field := { id := 664, off := 0x540000, msb := 31, lsb := 31, acc := .rw, reset := 0x0 }

/-- AUD_CTRL_MCLK_RESUME bits [30:30], WO (14). 1 returns to AUD_MCLK_IN, as in R363 -/
def AUD_MCLK_RESUME : Field := { id := 665, off := 0x540000, msb := 30, lsb := 30, acc := .wo, reset := 0x0 }

/-- AUD_CTRL_MCLK_OK bits [29:29], RO (14). AUD_MCLK_IN present and in tolerance -/
def AUD_MCLK_OK : Field := { id := 666, off := 0x540000, msb := 29, lsb := 29, acc := .ro, reset := 0x0 }

/-- AUD_CTRL_MCLK_LOST bits [28:28], W1C (14). AUD_MCLK_IN was lost -/
def AUD_MCLK_LOST : Field := { id := 667, off := 0x540000, msb := 28, lsb := 28, acc := .w1c, reset := 0x0 }

/-- AUD_CTRL_ZC_TIMEOUT_MS bits [23:16], RW (14). Zero-crossing timeout, 1 to 50 ms -/
def AUD_ZC_TIMEOUT_MS : Field := { id := 668, off := 0x540000, msb := 23, lsb := 16, acc := .rw, reset := 0x5 }

/-- AUD_CTRL_LAST_STATUS bits [15:0], RO (14). Status of the last MCLK_RESUME -/
def AUD_LAST_STATUS : Field := { id := 669, off := 0x540000, msb := 15, lsb := 0, acc := .ro, reset := 0x0 }

/-- AUD_CNT_MCLK_LOSS_CNT bits [31:16], RO (14). Losses of AUD_MCLK_IN -/
def AUD_MCLK_LOSS_CNT : Field := { id := 670, off := 0x540004, msb := 31, lsb := 16, acc := .ro, reset := 0x0 }

/-- AUD_CNT_CLR bits [0:0], WO (14). 1 clears every AUD_ counter -/
def AUD_CNT_CLR : Field := { id := 671, off := 0x540004, msb := 0, lsb := 0, acc := .wo, reset := 0x0 }

/-- AUD_IN_ENABLE bits [31:31], RW (14). AES3: 1 enables; network: RSV (ingest enables) -/
def AUD_IN_ENABLE (i : Nat) : Field := { id := 672, off := 0x541000 + 0x40 * i, msb := 31, lsb := 31, acc := .rw, reset := 0x0 }

/-- AUD_IN_SRATE bits [30:30], RW (14). AES3: 0 48 kHz, 1 96 kHz -/
def AUD_IN_SRATE (i : Nat) : Field := { id := 673, off := 0x541000 + 0x40 * i, msb := 30, lsb := 30, acc := .rw, reset := 0x0 }

/-- AUD_IN_ASRC_MODE bits [29:28], RW (14). AES3: as in R360; 0x3 rejected -/
def AUD_IN_ASRC_MODE (i : Nat) : Field := { id := 674, off := 0x541000 + 0x40 * i, msb := 29, lsb := 28, acc := .rw, reset := 0x0 }

/-- AUD_IN_LAST_STATUS bits [15:0], RO (14). Status of the last write -/
def AUD_IN_LAST_STATUS (i : Nat) : Field := { id := 675, off := 0x541000 + 0x40 * i, msb := 15, lsb := 0, acc := .ro, reset := 0x0 }

/-- AUD_IN_LOCK bits [31:31], RO (14). AES3: receiver lock; asynchronous mapping -/
def AUD_IN_LOCK (i : Nat) : Field := { id := 676, off := 0x541004 + 0x40 * i, msb := 31, lsb := 31, acc := .ro, reset := 0x0 }

/-- AUD_IN_ASRC bits [30:30], RO (14). AES3: receiver lock; asynchronous mapping -/
def AUD_IN_ASRC (i : Nat) : Field := { id := 677, off := 0x541004 + 0x40 * i, msb := 30, lsb := 30, acc := .ro, reset := 0x0 }

/-- AUD_IN_RATE_PPM bits [15:0], RO (14). AES3: measured deviation, signed, in 0.1 ppm -/
def AUD_IN_RATE_PPM (i : Nat) : Field := { id := 678, off := 0x541004 + 0x40 * i, msb := 15, lsb := 0, acc := .ro, reset := 0x0 }

/-- AUD_IN_CS_A bits [31:0], RO (14). Channel status bytes 0–3 of channel A -/
def AUD_IN_CS_A (i : Nat) : Field := { id := 679, off := 0x541008 + 0x40 * i, msb := 31, lsb := 0, acc := .ro, reset := 0x0 }

/-- AUD_IN_CS_B bits [31:0], RO (14). Channel status bytes 0–3 of channel B -/
def AUD_IN_CS_B (i : Nat) : Field := { id := 680, off := 0x54100c + 0x40 * i, msb := 31, lsb := 0, acc := .ro, reset := 0x0 }

/-- AUD_IN_LOSS_CNT bits [31:16], RO (14). As in R358, R359 -/
def AUD_IN_LOSS_CNT (i : Nat) : Field := { id := 681, off := 0x541010 + 0x40 * i, msb := 31, lsb := 16, acc := .ro, reset := 0x0 }

/-- AUD_IN_PARITY_CNT bits [15:0], RO (14). As in R358, R359 -/
def AUD_IN_PARITY_CNT (i : Nat) : Field := { id := 682, off := 0x541010 + 0x40 * i, msb := 15, lsb := 0, acc := .ro, reset := 0x0 }

/-- AUD_IN_SLIP_CNT bits [31:16], RO (14). As in R360, R359 -/
def AUD_IN_SLIP_CNT (i : Nat) : Field := { id := 683, off := 0x541014 + 0x40 * i, msb := 31, lsb := 16, acc := .ro, reset := 0x0 }

/-- AUD_IN_CS_ERR_CNT bits [15:0], RO (14). As in R360, R359 -/
def AUD_IN_CS_ERR_CNT (i : Nat) : Field := { id := 684, off := 0x541014 + 0x40 * i, msb := 15, lsb := 0, acc := .ro, reset := 0x0 }

/-- AUD_IN_INVALID_CNT bits [31:16], RO (14). As in R359, R358 -/
def AUD_IN_INVALID_CNT (i : Nat) : Field := { id := 685, off := 0x541018 + 0x40 * i, msb := 31, lsb := 16, acc := .ro, reset := 0x0 }

/-- AUD_IN_RATE_ERR_CNT bits [15:0], RO (14). As in R359, R358 -/
def AUD_IN_RATE_ERR_CNT (i : Nat) : Field := { id := 686, off := 0x541018 + 0x40 * i, msb := 15, lsb := 0, acc := .ro, reset := 0x0 }

/-- AUD_IN_CAP_LOG2 bits [31:28], RW (14). Ring of 2^CAP_LOG2 × 64 KiB, 0 to 10 -/
def AUD_IN_CAP_LOG2 (i : Nat) : Field := { id := 687, off := 0x54101c + 0x40 * i, msb := 31, lsb := 28, acc := .rw, reset := 0x0 }

/-- AUD_IN_CAP_BASE bits [26:0], RW (14). Capture ring in 4 KiB units -/
def AUD_IN_CAP_BASE (i : Nat) : Field := { id := 688, off := 0x54101c + 0x40 * i, msb := 26, lsb := 0, acc := .rw, reset := 0x0 }

/-- AUD_IN_CAP_MASK_LO bits [31:0], RW (14). Channels 0–31 captured; AES3 uses bits 1:0 -/
def AUD_IN_CAP_MASK_LO (i : Nat) : Field := { id := 689, off := 0x541020 + 0x40 * i, msb := 31, lsb := 0, acc := .rw, reset := 0x0 }

/-- AUD_IN_CAP_MASK_HI bits [31:0], RW (14). Channels 32–63 captured -/
def AUD_IN_CAP_MASK_HI (i : Nat) : Field := { id := 690, off := 0x541024 + 0x40 * i, msb := 31, lsb := 0, acc := .rw, reset := 0x0 }

/-- AUD_OUT_ENABLE bits [31:31], RW (14). 1 enables the port, as in R373 -/
def AUD_OUT_ENABLE (i : Nat) : Field := { id := 691, off := 0x541000 + 0x40 * i, msb := 31, lsb := 31, acc := .rw, reset := 0x0 }

/-- AUD_OUT_SRATE bits [30:30], RW (14). 0 48 kHz, 1 96 kHz -/
def AUD_OUT_SRATE (i : Nat) : Field := { id := 692, off := 0x541000 + 0x40 * i, msb := 30, lsb := 30, acc := .rw, reset := 0x0 }

/-- AUD_OUT_MUTE bits [29:29], RW (14). 1 mutes the port, as in R367 -/
def AUD_OUT_MUTE (i : Nat) : Field := { id := 693, off := 0x541000 + 0x40 * i, msb := 29, lsb := 29, acc := .rw, reset := 0x0 }

/-- AUD_OUT_PTIME bits [28:28], RW (14). Transmitter: 0 1 ms, 1 125 µs; RSV for AES3 -/
def AUD_OUT_PTIME (i : Nat) : Field := { id := 694, off := 0x541000 + 0x40 * i, msb := 28, lsb := 28, acc := .rw, reset := 0x1 }

/-- AUD_OUT_LAST_STATUS bits [15:0], RO (14). Status of the last write or command -/
def AUD_OUT_LAST_STATUS (i : Nat) : Field := { id := 695, off := 0x541000 + 0x40 * i, msb := 15, lsb := 0, acc := .ro, reset := 0x0 }

/-- AUD_OUT_UNDERRUN_CNT bits [31:16], RO (14). As in R365, R367 -/
def AUD_OUT_UNDERRUN_CNT (i : Nat) : Field := { id := 696, off := 0x541004 + 0x40 * i, msb := 31, lsb := 16, acc := .ro, reset := 0x0 }

/-- AUD_OUT_ZC_TO_CNT bits [15:0], RO (14). As in R365, R367 -/
def AUD_OUT_ZC_TO_CNT (i : Nat) : Field := { id := 697, off := 0x541004 + 0x40 * i, msb := 15, lsb := 0, acc := .ro, reset := 0x0 }

/-- AUD_OUT_OFFSET_NS bits [15:0], RW (14). AES3: signed ns for board delay; bits [31:16] RSV -/
def AUD_OUT_OFFSET_NS (i : Nat) : Field := { id := 698, off := 0x541008 + 0x40 * i, msb := 15, lsb := 0, acc := .rw, reset := 0x0 }

/-- AUD_OUT_LANE bits [31:28], RW (14). Transmitter: lane -/
def AUD_OUT_LANE (i : Nat) : Field := { id := 699, off := 0x54100c + 0x40 * i, msb := 31, lsb := 28, acc := .rw, reset := 0x0 }

/-- AUD_OUT_TCLASS bits [27:25], RW (14). Transmitter: egress class -/
def AUD_OUT_TCLASS (i : Nat) : Field := { id := 700, off := 0x54100c + 0x40 * i, msb := 27, lsb := 25, acc := .rw, reset := 0x0 }

/-- AUD_OUT_CHANNELS bits [24:18], RW (14). Transmitter: 1 to 64 -/
def AUD_OUT_CHANNELS (i : Nat) : Field := { id := 701, off := 0x54100c + 0x40 * i, msb := 24, lsb := 18, acc := .rw, reset := 0x2 }

/-- AUD_OUT_FIRST_CH bits [17:12], RW (14). Transmitter: first output channel, 0 to 63 -/
def AUD_OUT_FIRST_CH (i : Nat) : Field := { id := 702, off := 0x54100c + 0x40 * i, msb := 17, lsb := 12, acc := .rw, reset := 0x0 }

/-- AUD_OUT_PT bits [11:5], RW (14). Transmitter: payload type, 96 to 127 -/
def AUD_OUT_PT (i : Nat) : Field := { id := 703, off := 0x54100c + 0x40 * i, msb := 11, lsb := 5, acc := .rw, reset := 0x61 }

/-- AUD_OUT_GROUP bits [31:0], RW (14). Transmitter: IPv4 destination -/
def AUD_OUT_GROUP (i : Nat) : Field := { id := 704, off := 0x541010 + 0x40 * i, msb := 31, lsb := 0, acc := .rw, reset := 0x0 }

/-- AUD_OUT_DST_PORT bits [31:16], RW (14). Transmitter: UDP destination port -/
def AUD_OUT_DST_PORT (i : Nat) : Field := { id := 705, off := 0x541014 + 0x40 * i, msb := 31, lsb := 16, acc := .rw, reset := 0x138c }

/-- AUD_OUT_DSCP bits [15:10], RW (14). Transmitter: IPv4 DSCP -/
def AUD_OUT_DSCP (i : Nat) : Field := { id := 706, off := 0x541014 + 0x40 * i, msb := 15, lsb := 10, acc := .rw, reset := 0x0 }

/-- AUD_OUT_SSRC bits [31:0], RW (14). Transmitter: RTP SSRC -/
def AUD_OUT_SSRC (i : Nat) : Field := { id := 707, off := 0x541018 + 0x40 * i, msb := 31, lsb := 0, acc := .rw, reset := 0x0 }

/-- AUD_OUT_PKT_CNT bits [31:0], RO (14). Transmitter: packets sent -/
def AUD_OUT_PKT_CNT (i : Nat) : Field := { id := 708, off := 0x54101c + 0x40 * i, msb := 31, lsb := 0, acc := .ro, reset := 0x0 }

/-- AUD_ROUTE_SRC bits [31:24], RW (14). Input channel 0 to 95; 0xFF silent -/
def AUD_ROUTE_SRC (i : Nat) : Field := { id := 709, off := 0x543000 + 0x4 * i, msb := 31, lsb := 24, acc := .rw, reset := 0xff }

/-- AUD_ROUTE_DELAY_SEL bits [23:20], RW (14). As in R364 -/
def AUD_ROUTE_DELAY_SEL (i : Nat) : Field := { id := 710, off := 0x543000 + 0x4 * i, msb := 23, lsb := 20, acc := .rw, reset := 0x4 }

/-- AUD_ROUTE_DELAY_US bits [19:0], RW (14). 0 to 200,000 µs -/
def AUD_ROUTE_DELAY_US (i : Nat) : Field := { id := 711, off := 0x543000 + 0x4 * i, msb := 19, lsb := 0, acc := .rw, reset := 0x0 }

/-- TRP_CTRL_ENABLE bits [31:31], RW (17). 1 pairs the device, as in R424 -/
def TRP_CTRL_ENABLE : Field := { id := 712, off := 0x580000, msb := 31, lsb := 31, acc := .rw, reset := 0x0 }

/-- TRP_CTRL_PIN_EN bits [30:30], RW (17). 1 lets TRP_TAKE_N order a take-over -/
def TRP_CTRL_PIN_EN : Field := { id := 713, off := 0x580000, msb := 30, lsb := 30, acc := .rw, reset := 0x1 }

/-- TRP_CTRL_DESC_EN bits [29:29], RW (17). 1 lets TRP_TAKEOVER order a take-over -/
def TRP_CTRL_DESC_EN : Field := { id := 714, off := 0x580000, msb := 29, lsb := 29, acc := .rw, reset := 0x1 }

/-- TRP_CTRL_ACK_WAIT_US bits [23:16], RW (17). Release gate limit of R438, 0 to 200 µs -/
def TRP_CTRL_ACK_WAIT_US : Field := { id := 715, off := 0x580000, msb := 23, lsb := 16, acc := .rw, reset := 0x14 }

/-- TRP_CTRL_MIRROR_LANES bits [15:0], RW (17). Bit i: LN i carries MIRROR, as in R425 -/
def TRP_CTRL_MIRROR_LANES : Field := { id := 716, off := 0x580000, msb := 15, lsb := 0, acc := .rw, reset := 0x0 }

/-- TRP_HB_HB_PERIOD_US bits [31:16], RW (17). Heartbeat period, 50 to 10,000 µs -/
def TRP_HB_PERIOD_US : Field := { id := 717, off := 0x580004, msb := 31, lsb := 16, acc := .rw, reset := 0x64 }

/-- TRP_HB_PET bits [0:0], WO (17). Supervisor firmware writes 1, as in R439 -/
def TRP_HB_PET : Field := { id := 718, off := 0x580004, msb := 0, lsb := 0, acc := .wo, reset := 0x0 }

/-- TRP_STATUS_ROLE bits [31:28], RO (17). 0x0 none, 0x1 Flyer, 0x2 Catcher -/
def TRP_STATUS_ROLE : Field := { id := 719, off := 0x580008, msb := 31, lsb := 28, acc := .ro, reset := 0x0 }

/-- TRP_STATUS_STATE bits [27:24], RO (17). Catcher state of R427; 0x0 otherwise -/
def TRP_STATUS_STATE : Field := { id := 720, off := 0x580008, msb := 27, lsb := 24, acc := .ro, reset := 0x0 }

/-- TRP_STATUS_PARTNER_SEEN bits [23:23], RO (17). HELLO received within 10 ms -/
def TRP_STATUS_PARTNER_SEEN : Field := { id := 721, off := 0x580008, msb := 23, lsb := 23, acc := .ro, reset := 0x0 }

/-- TRP_STATUS_PARTNER_READY bits [22:22], RO (17). Flyer: the Catcher reports READY -/
def TRP_STATUS_PARTNER_READY : Field := { id := 722, off := 0x580008, msb := 22, lsb := 22, acc := .ro, reset := 0x0 }

/-- TRP_STATUS_FIT bits [21:21], RO (17). Catcher: every condition of R427 holds -/
def TRP_STATUS_FIT : Field := { id := 723, off := 0x580008, msb := 21, lsb := 21, acc := .ro, reset := 0x0 }

/-- TRP_STATUS_LAST_STATUS bits [15:0], RO (17). Status of the last write or order -/
def TRP_STATUS_LAST_STATUS : Field := { id := 724, off := 0x580008, msb := 15, lsb := 0, acc := .ro, reset := 0x0 }

/-- TRP_PARTNER_PART bits [31:16], RO (17). Partner's PART -/
def TRP_PARTNER_PART : Field := { id := 725, off := 0x58000c, msb := 31, lsb := 16, acc := .ro, reset := 0x0 }

/-- TRP_PARTNER_VERSION bits [15:8], RO (17). Aknis Link version of the MIRROR lanes -/
def TRP_PARTNER_VERSION : Field := { id := 726, off := 0x58000c, msb := 15, lsb := 8, acc := .ro, reset := 0x0 }

/-- TRP_CNT_UNCOVERED_CNT bits [31:16], RO (17). As in R438, R435 -/
def TRP_UNCOVERED_CNT : Field := { id := 727, off := 0x580018, msb := 31, lsb := 16, acc := .ro, reset := 0x0 }

/-- TRP_CNT_RESEND_CNT bits [15:0], RO (17). As in R438, R435 -/
def TRP_RESEND_CNT : Field := { id := 728, off := 0x580018, msb := 15, lsb := 0, acc := .ro, reset := 0x0 }

/-- TRP_CNT_RESYNC_CNT bits [31:16], RO (17). Resyncs started; take-overs completed -/
def TRP_RESYNC_CNT : Field := { id := 729, off := 0x58001c, msb := 31, lsb := 16, acc := .ro, reset := 0x0 }

/-- TRP_CNT_TAKEOVER_CNT bits [15:0], RO (17). Resyncs started; take-overs completed -/
def TRP_TAKEOVER_CNT : Field := { id := 730, off := 0x58001c, msb := 15, lsb := 0, acc := .ro, reset := 0x0 }

/-- TRP_CNT_MALFORMED_CNT bits [31:16], RO (17). As in R433, R450 -/
def TRP_MALFORMED_CNT : Field := { id := 731, off := 0x580020, msb := 31, lsb := 16, acc := .ro, reset := 0x0 }

/-- TRP_CNT_TEST_FAIL_CNT bits [15:0], RO (17). As in R433, R450 -/
def TRP_TEST_FAIL_CNT : Field := { id := 732, off := 0x580020, msb := 15, lsb := 0, acc := .ro, reset := 0x0 }

/-- TRP_CLR_CLR bits [0:0], WO (17). 1 clears every TRP_ counter -/
def TRP_CLR_CLR : Field := { id := 733, off := 0x580024, msb := 0, lsb := 0, acc := .wo, reset := 0x0 }

/-- TRP_TEST_TEST_INTERVAL_MS bits [31:16], RW (17). Turn interval, 50 to 10,000 ms -/
def TRP_TEST_INTERVAL_MS : Field := { id := 734, off := 0x580030, msb := 31, lsb := 16, acc := .rw, reset := 0xfa }

/-- TRP_TEST_POS bits [7:0], RO (17). Turn of the rotation last started -/
def TRP_TEST_POS : Field := { id := 735, off := 0x580030, msb := 7, lsb := 0, acc := .ro, reset := 0x0 }

/-- TRP_AREA_AREA_BASE bits [26:0], RW (17). Trapeze area of 128 MiB, in 4 KiB units, as in R436 -/
def TRP_AREA_BASE : Field := { id := 736, off := 0x580034, msb := 26, lsb := 0, acc := .rw, reset := 0x0 }

/-- TRP_SEQ bits [31:0], RO (17). -/
def TRP_SEQ : Field := { id := 737, off := 0x580010, msb := 31, lsb := 0, acc := .ro, reset := 0x0 }

/-- TRP_ACK bits [31:0], RO (17). -/
def TRP_ACK : Field := { id := 738, off := 0x580014, msb := 31, lsb := 0, acc := .ro, reset := 0x0 }

/-- TRP_TAKE_SEC bits [31:0], RO (17). -/
def TRP_TAKE_SEC : Field := { id := 739, off := 0x580040, msb := 31, lsb := 0, acc := .ro, reset := 0x0 }

/-- TRP_TAKE_NS bits [31:0], RO (17). -/
def TRP_TAKE_NS : Field := { id := 740, off := 0x580044, msb := 31, lsb := 0, acc := .ro, reset := 0x0 }

/-- TRP_TAKE_US bits [31:0], RO (17). -/
def TRP_TAKE_US : Field := { id := 741, off := 0x580048, msb := 31, lsb := 0, acc := .ro, reset := 0x0 }

/-- BRK_LOCAL_ENTRY_ACTIVE_AT_ENTRY bits [31:31], RO (16). Level at the first instruction, as in R413 -/
def BRK_LOCAL_ENTRY_ACTIVE_AT_ENTRY (i : Nat) : Field := { id := 742, off := 0x8000000 + 0x10 * i, msb := 31, lsb := 31, acc := .ro, reset := 0x0 }

/-- BRK_LOCAL_ENTRY_SRC bits [9:0], RO (16). Source of the running handler -/
def BRK_LOCAL_ENTRY_SRC (i : Nat) : Field := { id := 743, off := 0x8000000 + 0x10 * i, msb := 9, lsb := 0, acc := .ro, reset := 0x0 }

/-- BRK_LOCAL_COMPLETE_SRC bits [9:0], WO (16). Source completed, as in R413 and R417 -/
def BRK_LOCAL_COMPLETE_SRC (i : Nat) : Field := { id := 744, off := 0x8000004 + 0x10 * i, msb := 9, lsb := 0, acc := .wo, reset := 0x0 }

end Sys2Proof.Machine.Reg
end

