-- ==== Sys2Proof/Machine/RegMap.lean ====
section
/-! DEFINITION. The register map: which fields stand in the 32-bit word at an offset of BAR0 (R11, R512, R14). -/

namespace Sys2Proof.Machine.Reg

/-- The fields of the word at offset `o` of an array of words: `base` is the first word, each index has a stride and
a count, and the last argument lists the fields for given indices. Answers none where the offset is no word of it. -/
def wordAt (base s1 c1 s2 c2 o : Nat) (l : Nat → Nat → List Field) : Option (List Field) :=
  if o < base then none
  else if s1 = 0 then (if o = base then some (l 0 0) else none)
  else if s2 = 0 then
    (if (o - base) % s1 = 0 ∧ (o - base) / s1 < c1 then some (l ((o - base) / s1) 0) else none)
  else if (o - base) / s1 < c1 ∧ (o - base) % s1 % s2 = 0 ∧ (o - base) % s1 / s2 < c2 then
    some (l ((o - base) / s1) ((o - base) % s1 / s2))
  else none

/-- A list of fields when a condition on the indices holds. -/
def onlyIf (c : Bool) (l : List Field) : List Field := if c then l else []

/-- The words of block 0, HIF_. -/
def hifWords (f o : Nat) : List (Option (List Field)) :=
  [
    wordAt 0x0 0x0 0 0x0 0 o (fun _ _ => [HIF_CHIP_ID_PART, HIF_CHIP_ID_GRADE, HIF_CHIP_ID_STEP_MAJOR, HIF_CHIP_ID_STEP_MINOR]),
    wordAt 0x10 0x0 0 0x0 0 o (fun _ _ => [(HIF_FN_OPEN_OPEN f), (HIF_FN_OPEN_CLOSE f), (HIF_FN_OPEN_HOST_MAJOR f), (HIF_FN_OPEN_HOST_MINOR f)]),
    wordAt 0x14 0x0 0 0x0 0 o (fun _ _ => [(HIF_FN_STATUS_OPENED f), (HIF_FN_STATUS_ABI_MAJOR f), (HIF_FN_STATUS_ABI_MINOR f), (HIF_FN_STATUS_DEV_MINOR_MAX f)]),
    wordAt 0x18 0x0 0 0x0 0 o (fun _ _ => [(HIF_FN_LAST_STATUS f)]),
    wordAt 0x28 0x0 0 0x0 0 o (fun _ _ => [(HIF_ADMIN_CFG_CQ_LOG2 f), (HIF_ADMIN_CFG_SQ_LOG2 f), (HIF_ADMIN_CFG_VECTOR f)]),
    wordAt 0x30 0x0 0 0x0 0 o (fun _ _ => [(HIF_FN_DESC_ERR_CNT f), (HIF_FN_DB_ERR_CNT f)]),
    wordAt 0x34 0x0 0 0x0 0 o (fun _ _ => [(HIF_FN_DMA_ERR_CNT f), (HIF_FN_EVT_LOST_CNT f)]),
    wordAt 0x38 0x0 0 0x0 0 o (fun _ _ => [(HIF_FN_CLR_CLR f)]),
    wordAt 0x1000 0x4 256 0x0 0 o (fun i _ => [(HIF_PEN_OWNER_ASSIGNED i), (HIF_PEN_OWNER_FUNCTION i)]),
    wordAt 0x1400 0x4 32 0x0 0 o (fun i _ => onlyIf (decide (1 ≤ i)) [(HIF_FN_VEC_COUNT i), (HIF_FN_VEC_BASE i)]),
    wordAt 0x1480 0x0 0 0x0 0 o (fun _ _ => [HIF_SLOT_OWNER_SLOT3, HIF_SLOT_OWNER_SLOT2, HIF_SLOT_OWNER_SLOT1, HIF_SLOT_OWNER_SLOT0]),
    wordAt 0x1484 0x0 0 0x0 0 o (fun _ _ => [HIF_SETUP_STATUS_LAST_STATUS]),
    wordAt 0x20 0x0 0 0x0 0 o (fun _ _ => [(HIF_ADMIN_BASE_LO f)]),
    wordAt 0x24 0x0 0 0x0 0 o (fun _ _ => [(HIF_ADMIN_BASE_HI f)])]

/-- The words of block 1, PWR_. -/
def pwrWords (o : Nat) : List (Option (List Field)) :=
  [
    wordAt 0x40000 0x0 0 0x0 0 o (fun _ _ => [PWR_MODE_CTRL_REQ, PWR_MODE_CTRL_FORCE, PWR_MODE_CTRL_TARGET]),
    wordAt 0x40004 0x0 0 0x0 0 o (fun _ _ => [PWR_MODE_STATUS_CUR_MODE, PWR_MODE_STATUS_TARGET_MODE, PWR_MODE_STATUS_PHASE, PWR_MODE_STATUS_ACTIVE_PAIR, PWR_MODE_STATUS_LAST_STATUS]),
    wordAt 0x40008 0x0 0 0x0 0 o (fun _ _ => [PWR_SERVICE_REASON]),
    wordAt 0x4000c 0x0 0 0x0 0 o (fun _ _ => [PWR_BOOT_AUTO_MODE, PWR_BOOT_BOOT_USED, PWR_BOOT_BOOT_STRAP]),
    wordAt 0x40010 0x0 0 0x0 0 o (fun _ _ => [PWR_FENCE_PAIR, PWR_FENCE_CMP, PWR_FENCE_FACE]),
    wordAt 0x40014 0x0 0 0x0 0 o (fun _ _ => [PWR_FENCE_LANE]),
    wordAt 0x40018 0x4 3 0x0 0 o (fun i _ => [(PWR_FENCE_ENGINE i)]),
    wordAt 0x40024 0x0 0 0x0 0 o (fun _ _ => [PWR_FENCE_AUDIO, PWR_FENCE_LINK]),
    wordAt 0x40030 0x0 0 0x0 0 o (fun _ _ => [PWR_RESET_KEY, PWR_RESET_DEVICE]),
    wordAt 0x40034 0x0 0 0x0 0 o (fun _ _ => [PWR_MODE_CHANGE_CNT, PWR_REFUSED_CNT]),
    wordAt 0x40038 0x0 0 0x0 0 o (fun _ _ => [PWR_CNT_CLR_CLR]),
    wordAt 0x40040 0x4 3 0x0 0 o (fun i _ => [(PWR_PD_ON i)]),
    wordAt 0x40050 0x0 0 0x0 0 o (fun _ _ => [PWR_AVS_EN, PWR_AVS_V_FUSE_MV, PWR_AVS_V_TGT_MV]),
    wordAt 0x40054 0x0 0 0x0 0 o (fun _ _ => [PWR_AVS_ERR_CNT, PWR_AVS_STEP_CNT])]

/-- The words of block 2, THM_. -/
def thmWords (o : Nat) : List (Option (List Field)) :=
  [
    wordAt 0x80000 0x0 0 0x0 0 o (fun _ _ => [THM_THRESH_SHUTDOWN_C, THM_THRESH_THROTTLE_C, THM_THRESH_WARN_C, THM_THRESH_STEP_C, THM_THRESH_HYST_C]),
    wordAt 0x80004 0x0 0 0x0 0 o (fun _ _ => [THM_CFG_DWELL, THM_CFG_SENSOR_MASK]),
    wordAt 0x80008 0x0 0 0x0 0 o (fun _ _ => [THM_BANDS_EDGE3, THM_BANDS_EDGE2, THM_BANDS_EDGE1]),
    wordAt 0x8000c 0x0 0 0x0 0 o (fun _ _ => [THM_STATUS_TRIP, THM_STATUS_WARN, THM_STATUS_LEVEL, THM_STATUS_BAND, THM_STATUS_SENS_FAIL]),
    wordAt 0x80010 0x0 0 0x0 0 o (fun _ _ => [THM_TMAX, THM_TMAX_SENSOR]),
    wordAt 0x80020 0x0 0 0x0 0 o (fun _ _ => [THM_VOLT_ERR_CNT, THM_THROTTLE_CNT]),
    wordAt 0x80024 0x0 0 0x0 0 o (fun _ _ => [THM_WARN_CNT, THM_SMB_ERR_CNT]),
    wordAt 0x80028 0x0 0 0x0 0 o (fun _ _ => [THM_CLR]),
    wordAt 0x80100 0x4 24 0x0 0 o (fun i _ => [(THM_TEMP i), (THM_TEMP_FAIL i)]),
    wordAt 0x80200 0x4 32 0x0 0 o (fun i _ => [(THM_VOLT_MV i), (THM_VOLT_OUT i)])]

/-- The words of block 3, FW_. -/
def fwWords (o : Nat) : List (Option (List Field)) :=
  [
    wordAt 0xc0000 0x0 0 0x0 0 o (fun _ _ => [FW_BOOT_STATUS_BANK, FW_BOOT_STATUS_PCIE_STATUS]),
    wordAt 0xc0004 0x0 0 0x0 0 o (fun _ _ => [FW_BANK_STATUS_BANK_A, FW_BANK_STATUS_BANK_B]),
    wordAt 0xc0010 0x0 0 0x0 0 o (fun _ _ => [FW_PCIE_CTRL_GO, FW_PCIE_CTRL_LEN]),
    wordAt 0xc0020 0x4 5 0x0 0 o (fun i _ => onlyIf (decide (1 ≤ i)) [(FW_VERSION i)]),
    wordAt 0xc0048 0x0 0 0x0 0 o (fun _ _ => [FW_UPDATE_ACTIVE, FW_UPDATE_TYPE, FW_UPDATE_STEP, FW_UPDATE_PENDING, FW_UPDATE_LAST_STATUS]),
    wordAt 0xc004c 0x0 0 0x0 0 o (fun _ _ => [FW_STAGE_BASE]),
    wordAt 0xc0050 0x0 0 0x0 0 o (fun _ _ => [FW_ROLLBACK_CONFIG, FW_ROLLBACK_AUDIO, FW_ROLLBACK_LINK, FW_ROLLBACK_SLICE, FW_ROLLBACK_SUPER]),
    wordAt 0xc0054 0x0 0 0x0 0 o (fun _ _ => [FW_OWNER_FUSED, FW_STAGE_ERR_CNT]),
    wordAt 0xc0008 0x0 0 0x0 0 o (fun _ _ => [FW_PCIE_ADDR_LO]),
    wordAt 0xc000c 0x0 0 0x0 0 o (fun _ _ => [FW_PCIE_ADDR_HI]),
    wordAt 0xc0040 0x0 0 0x0 0 o (fun _ _ => [FW_SET_LO]),
    wordAt 0xc0044 0x0 0 0x0 0 o (fun _ _ => [FW_SET_HI])]

/-- The words of block 4, LDG_. -/
def ldgWords (o : Nat) : List (Option (List Field)) :=
  [
    wordAt 0x100000 0x0 0 0x0 0 o (fun _ _ => [LDG_RING_LOG2, LDG_RING_BASE]),
    wordAt 0x100004 0x0 0 0x0 0 o (fun _ _ => [LDG_NEXT_SEQ]),
    wordAt 0x100008 0x0 0 0x0 0 o (fun _ _ => [LDG_OVERRUN_CNT]),
    wordAt 0x10000c 0x0 0 0x0 0 o (fun _ _ => [LDG_LAST_STATUS])]

/-- The words of block 5, TIM_. -/
def timWords (o : Nat) : List (Option (List Field)) :=
  [
    wordAt 0x140000 0x0 0 0x0 0 o (fun _ _ => [TIM_CTRL_SLEW_PPB, TIM_CTRL_REVERT, TIM_CTRL_SLEWING, TIM_CTRL_ACTIVE, TIM_CTRL_PLL_REF, TIM_CTRL_POLICY]),
    wordAt 0x140004 0x0 0 0x0 0 o (fun _ _ => [TIM_SNAP_SNAP]),
    wordAt 0x140010 0x10 3 0x0 0 o (fun i _ => [(TIM_SNAP_DT_SEC_LO i)]),
    wordAt 0x140014 0x10 3 0x0 0 o (fun i _ => [(TIM_SNAP_DT_SEC_HI i)]),
    wordAt 0x140018 0x10 3 0x0 0 o (fun i _ => [(TIM_SNAP_DT_NS i)]),
    wordAt 0x14001c 0x10 3 0x0 0 o (fun i _ => [(TIM_SNAP_DT_FRAC i)]),
    wordAt 0x140100 0x40 2 0x0 0 o (fun i _ => [(TIM_DOM_ENABLE i), (TIM_DOM_ACCEPT_JUMP i), (TIM_DOM_SOURCE i), (TIM_DOM_DREQ_UNI i), (TIM_DOM_LANE_MASK i), (TIM_DOM_PTP_DOMAIN i)]),
    wordAt 0x140104 0x40 2 0x0 0 o (fun i _ => [(TIM_DOM_KP i), (TIM_DOM_KI i), (TIM_DOM_STEP_US i)]),
    wordAt 0x140108 0x40 2 0x0 0 o (fun i _ => [(TIM_DOM_JUMP_NS i)]),
    wordAt 0x14010c 0x40 2 0x0 0 o (fun i _ => [(TIM_DOM_RATE i)]),
    wordAt 0x140110 0x40 2 0x0 0 o (fun i _ => [(TIM_DOM_STATE i), (TIM_DOM_JUMP_FLAG i), (TIM_DOM_LOSS_FLAG i)]),
    wordAt 0x140114 0x40 2 0x0 0 o (fun i _ => [(TIM_DOM_THETA i)]),
    wordAt 0x140118 0x40 2 0x0 0 o (fun i _ => [(TIM_DOM_DISCARD_CNT i), (TIM_DOM_PTP_ERR_CNT i)]),
    wordAt 0x14011c 0x40 2 0x0 0 o (fun i _ => [(TIM_DOM_TOD_SEC i)]),
    wordAt 0x140120 0x40 2 0x0 0 o (fun i _ => [(TIM_DOM_CLR_CLR i)]),
    wordAt 0x140200 0x0 0 0x0 0 o (fun _ _ => [TIM_PPS_OUT_EN, TIM_PPS_CLK10_OUT_EN, TIM_PPS_WIDTH_US]),
    wordAt 0x140204 0x0 0 0x0 0 o (fun _ _ => [TIM_PPS_OUT_COMP_NS, TIM_PPS_IN_COMP_NS]),
    wordAt 0x140208 0x0 0 0x0 0 o (fun _ _ => [TIM_REFSTAT_CLK10_LOST, TIM_REFSTAT_PPS_LOST, TIM_REFSTAT_CLK10_OK, TIM_REFSTAT_PPS_OK]),
    wordAt 0x140210 0x0 0 0x0 0 o (fun _ _ => [TIM_LAUNCH_LATE_CNT, TIM_LATE_CLR]),
    wordAt 0x140220 0x0 0 0x0 0 o (fun _ _ => [TIM_TC_FRAME_CNT, TIM_TC_LANE_MASK]),
    wordAt 0x140230 0x0 0 0x0 0 o (fun _ _ => [TIM_LCANCEL_UNIT, TIM_LCANCEL_TAG]),
    wordAt 0x140008 0x0 0 0x0 0 o (fun _ _ => [TIM_SNAP_LC_LO]),
    wordAt 0x14000c 0x0 0 0x0 0 o (fun _ _ => [TIM_SNAP_LC_HI])]

/-- The words of block 6, BRK_. -/
def brkWords (o : Nat) : List (Option (List Field)) :=
  [
    wordAt 0x180100 0x10 4 0x0 0 o (fun i _ => [(BRK_PAIR_RPRI i), (BRK_PAIR_DEPTH i), (BRK_PAIR_VALID i), (BRK_PAIR_CUR_SRC i)]),
    wordAt 0x180104 0x10 4 0x0 0 o (fun i _ => [(BRK_PAIR_VANISHED_CNT i), (BRK_PAIR_STRAY_CNT i)]),
    wordAt 0x180108 0x10 4 0x0 0 o (fun i _ => [(BRK_PAIR_HANDON_CNT i), (BRK_PAIR_ENTRY_TAKE_CNT i)]),
    wordAt 0x180000 0x0 0 0x0 0 o (fun _ _ => [BRK_CLR_CLR]),
    wordAt 0x180400 0x4 32 0x0 0 o (fun i _ => [(BRK_LATCH i)]),
    wordAt 0x180008 0x0 0 0x0 0 o (fun _ _ => [BRK_SW_SET, BRK_SW_SRC]),
    wordAt 0x181000 0x4 1024 0x0 0 o (fun i _ => [(BRK_SRC_CFG_HOST i), (BRK_SRC_CFG_ACTIVE i), (BRK_SRC_CFG_PENDING i), (BRK_SRC_CFG_CLAIMED i), (BRK_SRC_CFG_CLAIMED_BY i), (BRK_SRC_CFG_TARGET i), (BRK_SRC_CFG_PRIORITY i)]),
    wordAt 0x18000c 0x0 0 0x0 0 o (fun _ _ => [BRK_SW_DATA])]

/-- The words of block 7, JUG_. -/
def jugWords (o : Nat) : List (Option (List Field)) :=
  [
    wordAt 0x1c0000 0x0 0 0x0 0 o (fun _ _ => [JUG_CTRL_DRAIN, JUG_CTRL_DRAINED, JUG_CTRL_WDT_US]),
    wordAt 0x1c0004 0x0 0 0x0 0 o (fun _ _ => [JUG_CTX_BASE]),
    wordAt 0x1c0008 0x0 0 0x0 0 o (fun _ _ => [JUG_TASKS_READY_NOW, JUG_TASKS_USED]),
    wordAt 0x1c000c 0x0 0 0x0 0 o (fun _ _ => [JUG_DISPATCH_CNT]),
    wordAt 0x1c0010 0x0 0 0x0 0 o (fun _ _ => [JUG_PREEMPT_CNT]),
    wordAt 0x1c0014 0x0 0 0x0 0 o (fun _ _ => [JUG_INTR_CNT, JUG_STRAY_SIG_CNT]),
    wordAt 0x1c0018 0x0 0 0x0 0 o (fun _ _ => [JUG_WDT_CNT, JUG_FULL_CNT]),
    wordAt 0x1c001c 0x0 0 0x0 0 o (fun _ _ => [JUG_CLR_CLR])]

/-- The words of block 8, CHK_. -/
def chkWords (o : Nat) : List (Option (List Field)) :=
  [
    wordAt 0x200100 0x40 4 0x0 0 o (fun i _ => [(CHK_MODE i), (CHK_REFIN i), (CHK_REFOUT i), (CHK_BUSY i), (CHK_ATTACH_KIND i), (CHK_ATTACH_INDEX i), (CHK_WIDTH i)]),
    wordAt 0x200104 0x40 4 0x0 0 o (fun i _ => [(CHK_POLY_LO i)]),
    wordAt 0x200108 0x40 4 0x0 0 o (fun i _ => [(CHK_POLY_HI i)]),
    wordAt 0x20010c 0x40 4 0x0 0 o (fun i _ => [(CHK_INIT_LO i)]),
    wordAt 0x200110 0x40 4 0x0 0 o (fun i _ => [(CHK_INIT_HI i)]),
    wordAt 0x200114 0x40 4 0x0 0 o (fun i _ => [(CHK_XOR_LO i)]),
    wordAt 0x200118 0x40 4 0x0 0 o (fun i _ => [(CHK_XOR_HI i)]),
    wordAt 0x20011c 0x40 4 0x0 0 o (fun i _ => [(CHK_RESULT_LO i)]),
    wordAt 0x200120 0x40 4 0x0 0 o (fun i _ => [(CHK_RESULT_HI i)]),
    wordAt 0x200124 0x40 4 0x0 0 o (fun i _ => [(CHK_LAST_STATUS i)]),
    wordAt 0x200128 0x40 4 0x0 0 o (fun i _ => [(CHK_PKT_CNT i)]),
    wordAt 0x20012c 0x40 4 0x0 0 o (fun i _ => [(CHK_CRC_ERR_CNT i)]),
    wordAt 0x200130 0x40 4 0x0 0 o (fun i _ => [(CHK_CLR i)])]

/-- The words of block 9, DMC_. -/
def dmcWords (o : Nat) : List (Option (List Field)) :=
  [
    wordAt 0x240000 0x0 0 0x0 0 o (fun _ _ => [DMC_LAYOUT_COMMIT, DMC_LAYOUT_MAP, DMC_LAYOUT_SPARE_EN, DMC_LAYOUT_SPARE_CH, DMC_LAYOUT_RANK_SIZE, DMC_LAYOUT_NR]),
    wordAt 0x240004 0x0 0 0x0 0 o (fun _ _ => [DMC_STATUS_LAST_STATUS, DMC_STATUS_FILL_DONE, DMC_STATUS_MIG_ACTIVE, DMC_STATUS_SETS]),
    wordAt 0x240008 0x0 0 0x0 0 o (fun _ _ => [DMC_CLR_CLR]),
    wordAt 0x240010 0x4 16 0x0 0 o (fun i _ => [(DMC_RANK_STATE_STATE i), (DMC_RANK_STATE_MAPPED i), (DMC_RANK_STATE_POS_CH i), (DMC_RANK_STATE_POS_RANK i), (DMC_RANK_STATE_RETIRE_CODE i)]),
    wordAt 0x240060 0x4 16 0x0 0 o (fun i _ => [(DMC_RANK_CE_CNT i), (DMC_RANK_UE_CNT i)]),
    wordAt 0x2400a0 0x0 0 0x0 0 o (fun _ _ => [DMC_CE_LIMIT, DMC_SCRUB_H]),
    wordAt 0x2400b0 0x4 2 0x0 0 o (fun i _ => [(DMC_SET_FILL_DONE i), (DMC_SET_FILL_FILLED i)]),
    wordAt 0x2400c0 0x0 0 0x0 0 o (fun _ _ => [DMC_MIG_CTRL_ACTIVE, DMC_MIG_CTRL_SRC, DMC_MIG_CTRL_DST, DMC_MIG_CTRL_RATE_MBPS]),
    wordAt 0x2400c4 0x0 0 0x0 0 o (fun _ _ => [DMC_MIG_PTR]),
    wordAt 0x2400c8 0x0 0 0x0 0 o (fun _ _ => [DMC_MIG_CNT, DMC_POISON_COPY_CNT]),
    wordAt 0x2400d0 0x0 0 0x0 0 o (fun _ _ => [DMC_REFRESH_NBR_K, DMC_REFRESH_MULT, DMC_REFRESH_MULT_MAX]),
    wordAt 0x2400d4 0x0 0 0x0 0 o (fun _ _ => [DMC_NBR_CNT]),
    wordAt 0x240100 0x4 16 0x0 0 o (fun i _ => [(DMC_PORT_TARGET_NS i), (DMC_PORT_LATE_CNT i)]),
    wordAt 0x241000 0x100 8 0x0 0 o (fun i _ => [(DMC_TRN_GO i), (DMC_TRN_BUSY i), (DMC_TRN_OP i), (DMC_TRN_PATTERN i), (DMC_TRN_RANK i), (DMC_TRN_LEN i)]),
    wordAt 0x241004 0x100 8 0x0 0 o (fun i _ => [(DMC_TRN_ADDR i)]),
    wordAt 0x241008 0x100 8 0x0 0 o (fun i _ => [(DMC_TRN_LAST_STATUS i)]),
    wordAt 0x24100c 0x100 8 0x0 0 o (fun i _ => [(DMC_TRN_SET i), (DMC_TRN_LANE i), (DMC_TRN_RD_DLY i), (DMC_TRN_WR_DLY i), (DMC_TRN_VREF i)]),
    wordAt 0x241010 0x100 8 0x0 0 o (fun i _ => [(DMC_TRN_MR_WRITE i), (DMC_TRN_MR_ADDR i), (DMC_TRN_MR_DATA i)]),
    wordAt 0x241040 0x100 8 0x4 16 o (fun i j => [(DMC_TRN_USER i j)]),
    wordAt 0x241080 0x100 8 0x4 20 o (fun i j => [(DMC_TRN_ERR i j)])]

/-- The words of block 10, LANE_. -/
def laneWords (o : Nat) : List (Option (List Field)) :=
  [
    wordAt 0x280000 0x0 0 0x0 0 o (fun _ _ => [LANE_REFSTAT_LOST, LANE_REFSTAT_OK]),
    wordAt 0x281000 0x100 16 0x0 0 o (fun i _ => [(LANE_CFG_ENABLE i), (LANE_CFG_MODE i), (LANE_CFG_AN_EN i), (LANE_CFG_PRECODE_TX i), (LANE_CFG_PRECODE_RX i), (LANE_CFG_FFE_MODE i), (LANE_CFG_TRAIN_TO_MS i)]),
    wordAt 0x281004 0x100 16 0x0 0 o (fun i _ => [(LANE_FFE_MAIN i), (LANE_FFE_PRE i), (LANE_FFE_POST i)]),
    wordAt 0x281008 0x100 16 0x0 0 o (fun i _ => [(LANE_FWD_MASK i)]),
    wordAt 0x28100c 0x100 16 0x0 0 o (fun i _ => [(LANE_STATUS_STATE i), (LANE_STATUS_LAST_STATUS i)]),
    wordAt 0x281010 0x100 16 0x0 0 o (fun i _ => [(LANE_ADAPT_FREEZE i), (LANE_ADAPT_PRESET i), (LANE_ADAPT_RX_SNR i)]),
    wordAt 0x281014 0x100 16 0x4 3 o (fun i j => [(LANE_DFE_TAP3 i j), (LANE_DFE_TAP2 i j), (LANE_DFE_TAP1 i j), (LANE_DFE_TAP0 i j)]),
    wordAt 0x281020 0x100 16 0x0 0 o (fun i _ => [(LANE_TEST_TEST_EN i), (LANE_TEST_TX_PAT i), (LANE_TEST_RX_PAT i), (LANE_TEST_LOOP i), (LANE_TEST_SYNC i)]),
    wordAt 0x281024 0x100 16 0x0 0 o (fun i _ => [(LANE_ERR_CNT i)]),
    wordAt 0x281030 0x100 16 0x0 0 o (fun i _ => [(LANE_LOCK_LOSS_CNT i), (LANE_TRAIN_FAIL_CNT i)]),
    wordAt 0x281034 0x100 16 0x0 0 o (fun i _ => [(LANE_FEC_CORR_CNT i)]),
    wordAt 0x281038 0x100 16 0x0 0 o (fun i _ => [(LANE_FEC_UNCORR_CNT i)]),
    wordAt 0x28103c 0x100 16 0x0 0 o (fun i _ => [(LANE_FCS_ERR_CNT i), (LANE_PAUSE_CNT i)]),
    wordAt 0x281040 0x100 16 0x0 0 o (fun i _ => [(LANE_CLR_CLR i)]),
    wordAt 0x281044 0x100 16 0x0 0 o (fun i _ => [(LANE_MAC_LO i)]),
    wordAt 0x281048 0x100 16 0x0 0 o (fun i _ => [(LANE_MAC_HI i)]),
    wordAt 0x28104c 0x100 16 0x0 0 o (fun i _ => [(LANE_IPV4 i)]),
    wordAt 0x281028 0x100 16 0x0 0 o (fun i _ => [(LANE_BITS_CNT_LO i)]),
    wordAt 0x28102c 0x100 16 0x0 0 o (fun i _ => [(LANE_BITS_CNT_HI i)]),
    wordAt 0x281050 0x100 16 0x0 0 o (fun i _ => [(LANE_NH_MAC_LO i)]),
    wordAt 0x281054 0x100 16 0x0 0 o (fun i _ => [(LANE_NH_MAC_HI i)])]

/-- The words of block 11, AKN_. -/
def aknWords (o : Nat) : List (Option (List Field)) :=
  [
    wordAt 0x2c1000 0x200 16 0x0 0 o (fun i _ => [(AKN_CTRL_VERSIONS i)]),
    wordAt 0x2c1004 0x200 16 0x0 0 o (fun i _ => [(AKN_STATUS_VERSION i), (AKN_STATUS_PEER_ROLE i), (AKN_STATUS_TILES_FOUND i), (AKN_STATUS_PEER_PART i)]),
    wordAt 0x2c1008 0x200 16 0x0 0 o (fun i _ => [(AKN_HCRC_ERR_CNT i), (AKN_DCRC_ERR_CNT i)]),
    wordAt 0x2c100c 0x200 16 0x0 0 o (fun i _ => [(AKN_PROTO_CNT i), (AKN_CREDIT_ERR_CNT i)]),
    wordAt 0x2c1010 0x200 16 0x0 0 o (fun i _ => [(AKN_CLR_CLR i)]),
    wordAt 0x2c1100 0x200 16 0x4 64 o (fun i j => [(AKN_LAT_PS i j)])]

/-- The words of block 12, CAR_. -/
def carWords (o : Nat) : List (Option (List Field)) :=
  [
    wordAt 0x300100 0x40 16 0x0 0 o (fun i _ => [(CAR_P_GATE_EN i), (CAR_P_BANK i), (CAR_P_PENDING i), (CAR_P_CTRL_CLASS i), (CAR_P_DEFAULT_CLASS i)]),
    wordAt 0x300104 0x40 16 0x0 0 o (fun i _ => [(CAR_P_CYCLE_NS i)]),
    wordAt 0x300108 0x40 16 0x0 0 o (fun i _ => [(CAR_P_BASE_SEC i)]),
    wordAt 0x30010c 0x40 16 0x0 0 o (fun i _ => [(CAR_P_BASE_NS i)]),
    wordAt 0x300110 0x40 16 0x0 0 o (fun i _ => [(CAR_P_COUNT i)]),
    wordAt 0x300114 0x40 16 0x0 0 o (fun i _ => [(CAR_P_COMMIT_COMMIT i), (CAR_P_COMMIT_LAST_STATUS i)]),
    wordAt 0x300120 0x40 16 0x0 0 o (fun i _ => [(CAR_P_CNT_SWAP_CNT i), (CAR_P_CNT_CLR i)]),
    wordAt 0x308000 0x800 16 0x8 256 o (fun i j => [(CAR_P_ENTRY_INTERVAL_NS i j)]),
    wordAt 0x308004 0x800 16 0x8 256 o (fun i j => [(CAR_P_ENTRY_GATES i j)]),
    wordAt 0x301000 0x200 16 0x40 8 o (fun i j => [(CAR_P_Q_PACED i j), (CAR_P_Q_QMAX_KB i j), (CAR_P_Q_DELAY_LIMIT_US i j)]),
    wordAt 0x301004 0x200 16 0x40 8 o (fun i j => [(CAR_P_Q_DEPTH_B i j)]),
    wordAt 0x301008 0x200 16 0x40 8 o (fun i j => [(CAR_P_Q_DEPTH_MAX_B i j)]),
    wordAt 0x30100c 0x200 16 0x40 8 o (fun i j => [(CAR_P_Q_DELAY_MAX_NS i j)]),
    wordAt 0x301010 0x200 16 0x40 8 o (fun i j => [(CAR_P_Q_TX_FRAME_CNT i j)]),
    wordAt 0x301018 0x200 16 0x40 8 o (fun i j => [(CAR_P_Q_DROP_CNT i j), (CAR_P_Q_OVERSIZE_CNT i j)]),
    wordAt 0x30101c 0x200 16 0x40 8 o (fun i j => [(CAR_P_Q_DOWN_DROP_CNT i j), (CAR_P_Q_OVERDUE_CNT i j)]),
    wordAt 0x301020 0x200 16 0x40 8 o (fun i j => [(CAR_P_Q_CLR i j)]),
    wordAt 0x300118 0x40 16 0x0 0 o (fun i _ => [(CAR_P_APPLY_SEC i)]),
    wordAt 0x30011c 0x40 16 0x0 0 o (fun i _ => [(CAR_P_APPLY_NS i)]),
    wordAt 0x301014 0x200 16 0x40 8 o (fun i j => [(CAR_P_Q_TX_FRAME_CNT_HI i j)])]

/-- The words of block 13, TRN_. -/
def trnWords (o : Nat) : List (Option (List Field)) :=
  [
    wordAt 0x340000 0x0 0 0x0 0 o (fun _ _ => [TRN_CLR_CLR]),
    wordAt 0x341000 0x20 128 0x0 0 o (fun i _ => [(TRN_Q_MODE i), (TRN_Q_OVH i), (TRN_Q_LAST_STATUS i)]),
    wordAt 0x341004 0x20 128 0x0 0 o (fun i _ => [(TRN_Q_CIR_MBPS i)]),
    wordAt 0x341008 0x20 128 0x0 0 o (fun i _ => [(TRN_Q_PIR_MBPS i)]),
    wordAt 0x34100c 0x20 128 0x0 0 o (fun i _ => [(TRN_Q_CBS_B i)]),
    wordAt 0x341010 0x20 128 0x0 0 o (fun i _ => [(TRN_Q_PBS_B i)]),
    wordAt 0x341014 0x20 128 0x0 0 o (fun i _ => [(TRN_Q_GREEN_CNT i)]),
    wordAt 0x341018 0x20 128 0x0 0 o (fun i _ => [(TRN_Q_YELLOW_CNT i)]),
    wordAt 0x34101c 0x20 128 0x0 0 o (fun i _ => [(TRN_Q_RED_CNT i)])]

/-- The words of block 14, ING_. -/
def ingWords (o : Nat) : List (Option (List Field)) :=
  [
    wordAt 0x380000 0x0 0 0x0 0 o (fun _ _ => [ING_CTRL_LAST_STATUS, ING_CTRL_LANE_MASK]),
    wordAt 0x380100 0x4 16 0x0 0 o (fun i _ => [(ING_LANE_UNMATCHED_CNT i)]),
    wordAt 0x380180 0x0 0 0x0 0 o (fun _ _ => [ING_LANE_CLR_CLR]),
    wordAt 0x381000 0x100 60 0x0 0 o (fun i _ => [(ING_RX_ENABLE i), (ING_RX_PATH1_EN i), (ING_RX_PATH0_EN i), (ING_RX_PT i), (ING_RX_LAST_STATUS i)]),
    wordAt 0x381004 0x100 60 0x0 0 o (fun i _ => onlyIf (decide (i < 32)) [(ING_RX_FMT_RATE i), (ING_RX_FMT_RANGE i), (ING_RX_FMT_PACKING i), (ING_RX_FMT_TCS i), (ING_RX_FMT_COLORIMETRY i), (ING_RX_FMT_DEPTH i), (ING_RX_FMT_SAMPLING i)] ++ onlyIf (decide (32 ≤ i ∧ i < 48)) [(ING_RX_AFMT_FIRST_CH i), (ING_RX_AFMT_CHANNELS i), (ING_RX_AFMT_PTIME i), (ING_RX_AFMT_SRATE i)] ++ onlyIf (decide (48 ≤ i ∧ i < 56)) [(ING_RX_NFMT_RATE i), (ING_RX_NFMT_ANC_LOG2 i)]),
    wordAt 0x381008 0x100 60 0x0 0 o (fun i _ => onlyIf (decide (i < 32)) [(ING_RX_SIZE_WIDTH i), (ING_RX_SIZE_HEIGHT i)]),
    wordAt 0x38100c 0x100 60 0x0 0 o (fun i _ => onlyIf (decide (i < 32 ∨ (48 ≤ i ∧ i < 56))) [(ING_RX_FS_COUNT i), (ING_RX_FS_BASE i)]),
    wordAt 0x381010 0x100 60 0xc 2 o (fun i j => [(ING_RX_PATH_LANE i j), (ING_RX_PATH_UDP_PORT i j)]),
    wordAt 0x381028 0x100 60 0x0 0 o (fun i _ => [(ING_RX_LATE_US i), (ING_RX_LOSS_MS i)]),
    wordAt 0x38102c 0x100 60 0x0 0 o (fun i _ => [(ING_RX_SIGNAL i), (ING_RX_PATH1_UP i), (ING_RX_PATH0_UP i), (ING_RX_WRITE_BUF i)]),
    wordAt 0x381048 0x100 60 0x0 0 o (fun i _ => [(ING_RX_LATE_CNT i), (ING_RX_FMT_ERR_CNT i)]),
    wordAt 0x38104c 0x100 60 0x0 0 o (fun i _ => [(ING_RX_LOST_LINE_CNT i), (ING_RX_FS_DROP_CNT i)]),
    wordAt 0x381050 0x100 60 0x0 0 o (fun i _ => [(ING_RX_TIME_ERR_CNT i), (ING_RX_PATH_DOWN_CNT i)]),
    wordAt 0x381054 0x100 60 0x0 0 o (fun i _ => [(ING_RX_CLR i)]),
    wordAt 0x381080 0x100 60 0x4 32 o (fun i j => onlyIf (decide (56 ≤ i)) [(ING_RX_SUBPIC_ID_HI i j), (ING_RX_SUBPIC_ID_LO i j)]),
    wordAt 0x381014 0x100 60 0xc 2 o (fun i j => [(ING_RX_GROUP i j)]),
    wordAt 0x381018 0x100 60 0xc 2 o (fun i j => [(ING_RX_SRC i j)]),
    wordAt 0x381030 0x100 60 0x0 0 o (fun i _ => [(ING_RX_PKT0_CNT_LO i)]),
    wordAt 0x381034 0x100 60 0x0 0 o (fun i _ => [(ING_RX_PKT0_CNT_HI i)]),
    wordAt 0x381038 0x100 60 0x0 0 o (fun i _ => [(ING_RX_PKT1_CNT_LO i)]),
    wordAt 0x38103c 0x100 60 0x0 0 o (fun i _ => [(ING_RX_PKT1_CNT_HI i)]),
    wordAt 0x381040 0x100 60 0x0 0 o (fun i _ => [(ING_RX_DUP_CNT_LO i)]),
    wordAt 0x381044 0x100 60 0x0 0 o (fun i _ => [(ING_RX_DUP_CNT_HI i)])]

/-- The words of block 15, CMP_. -/
def cmpWords (o : Nat) : List (Option (List Field)) :=
  [
    wordAt 0x3c0000 0x4000 4 0x0 0 o (fun i _ => [(CMP_SLOT_CANVAS_TCS i), (CMP_SLOT_CANVAS_COLORIMETRY i), (CMP_SLOT_CANVAS_CANVAS_PEAK i)]),
    wordAt 0x3c0004 0x4000 4 0x0 0 o (fun i _ => [(CMP_SLOT_BG_R i), (CMP_SLOT_BG_G i), (CMP_SLOT_BG_B i)]),
    wordAt 0x3c0008 0x4000 4 0x0 0 o (fun i _ => [(CMP_SLOT_LEVELS_SDR_WHITE i), (CMP_SLOT_LEVELS_HLG_LW i)]),
    wordAt 0x3c000c 0x4000 4 0x0 0 o (fun i _ => [(CMP_SLOT_BENCH_EN i), (CMP_SLOT_BENCH_FRAMES i)]),
    wordAt 0x3c0010 0x4000 4 0x0 0 o (fun i _ => [(CMP_SLOT_BENCH_BASE i)]),
    wordAt 0x3c0014 0x4000 4 0x0 0 o (fun i _ => [(CMP_SLOT_TABLE_BASE i)]),
    wordAt 0x3c0018 0x4000 4 0x0 0 o (fun i _ => [(CMP_SLOT_COMMIT_COMMIT i), (CMP_SLOT_COMMIT_LAST_STATUS i)]),
    wordAt 0x3c001c 0x4000 4 0x0 0 o (fun i _ => [(CMP_SLOT_STATUS_UNIT_VALID i), (CMP_SLOT_STATUS_UNIT i), (CMP_SLOT_STATUS_BENCH_STATE i), (CMP_SLOT_STATUS_LAG i)]),
    wordAt 0x3c0020 0x4000 4 0x0 0 o (fun i _ => [(CMP_SLOT_BCNT_BENCH_EVICT_CNT i), (CMP_SLOT_BCNT_BENCH_FLAT_CNT i)]),
    wordAt 0x3c0024 0x4000 4 0x0 0 o (fun i _ => [(CMP_SLOT_CLR_CLR i)]),
    wordAt 0x3c0400 0x4000 4 0x40 16 o (fun i j => [(CMP_L_ENABLE i j), (CMP_L_Z i j), (CMP_L_PREMULT i j), (CMP_L_LAYER_ALPHA i j), (CMP_L_TM_MODE i j), (CMP_L_LUT i j), (CMP_L_COEF_H i j), (CMP_L_COEF_V i j)]),
    wordAt 0x3c0404 0x4000 4 0x40 16 o (fun i j => [(CMP_L_SRC_KIND_OR_FORMAT i j), (CMP_L_INDEX_OR_PITCH i j)] ++ onlyIf (decide (8 ≤ j)) [(CMP_L_GFX_TCS i j)]),
    wordAt 0x3c0408 0x4000 4 0x40 16 o (fun i j => [(CMP_L_CROP_X i j), (CMP_L_CROP_Y i j)]),
    wordAt 0x3c040c 0x4000 4 0x40 16 o (fun i j => [(CMP_L_CROP_W i j), (CMP_L_CROP_H i j)]),
    wordAt 0x3c0410 0x4000 4 0x40 16 o (fun i j => [(CMP_L_DST_X i j), (CMP_L_DST_Y i j)]),
    wordAt 0x3c0414 0x4000 4 0x40 16 o (fun i j => onlyIf (decide (j < 8)) [(CMP_L_DST_W i j), (CMP_L_DST_H i j)]),
    wordAt 0x3c0418 0x4000 4 0x40 16 o (fun i j => [(CMP_L_SRC_PEAK i j), (CMP_L_KNEE i j)]),
    wordAt 0x3c041c 0x4000 4 0x40 16 o (fun i j => onlyIf (decide (8 ≤ j)) [(CMP_L_SCROLL_X i j), (CMP_L_SCROLL_Y i j)]),
    wordAt 0x3c0420 0x4000 4 0x40 16 o (fun i j => onlyIf (decide (8 ≤ j)) [(CMP_L_SURF_A_BASE i j)]),
    wordAt 0x3c0424 0x4000 4 0x40 16 o (fun i j => onlyIf (decide (8 ≤ j)) [(CMP_L_SURF_B_BASE i j)]),
    wordAt 0x3c0428 0x4000 4 0x40 16 o (fun i j => onlyIf (decide (8 ≤ j)) [(CMP_L_SURF_W i j), (CMP_L_SURF_H i j)]),
    wordAt 0x3c042c 0x4000 4 0x40 16 o (fun i j => [(CMP_L_FILLED i j), (CMP_L_HELD i j), (CMP_L_FRONT i j), (CMP_L_LOAD_PENDING i j)]),
    wordAt 0x3c0430 0x4000 4 0x40 16 o (fun i j => [(CMP_L_HELD_PIC_CNT i j), (CMP_L_HELD_LINE_CNT i j)]),
    wordAt 0x3c0434 0x4000 4 0x40 16 o (fun i j => [(CMP_L_EMPTY_PIC_CNT i j), (CMP_L_TRANSP_LINE_CNT i j)])]

/-- The words of block 16, SAF_. -/
def safWords (o : Nat) : List (Option (List Field)) :=
  [
    wordAt 0x400000 0x0 0 0x0 0 o (fun _ _ => [SAF_FN_MASK]),
    wordAt 0x400040 0x0 0 0x0 0 o (fun _ _ => [SAF_CMP_AVAILABLE, SAF_CMP_DIVERGED]),
    wordAt 0x400044 0x0 0 0x0 0 o (fun _ _ => [SAF_MISMATCH_CNT, SAF_MISSING_CNT]),
    wordAt 0x400048 0x0 0 0x0 0 o (fun _ _ => [SAF_SKEW_CNT, SAF_PROTECT_CNT]),
    wordAt 0x40004c 0x0 0 0x0 0 o (fun _ _ => [SAF_CLR_CLR]),
    wordAt 0x400100 0x40 4 0x0 0 o (fun i _ => [(SAF_SLOT_AREA_BASE i)]),
    wordAt 0x400104 0x40 4 0x0 0 o (fun i _ => [(SAF_SLOT_STATE_STATE i), (SAF_SLOT_STATE_PENDING i), (SAF_SLOT_STATE_REQUIRE i), (SAF_SLOT_STATE_FAULT_ACTION i), (SAF_SLOT_STATE_LAST_STATUS i)]),
    wordAt 0x400118 0x40 4 0x0 0 o (fun i _ => [(SAF_SLOT_REFUSED_CNT i), (SAF_SLOT_READBACK_ERR_CNT i)]),
    wordAt 0x400010 0x4 8 0x0 0 o (fun i _ => [(SAF_KEY i)]),
    wordAt 0x400108 0x40 4 0x0 0 o (fun i _ => [(SAF_SLOT_SEQ_LO i)]),
    wordAt 0x40010c 0x40 4 0x0 0 o (fun i _ => [(SAF_SLOT_SEQ_HI i)]),
    wordAt 0x400110 0x40 4 0x0 0 o (fun i _ => [(SAF_SLOT_UNTIL_SEC i)]),
    wordAt 0x400114 0x40 4 0x0 0 o (fun i _ => [(SAF_SLOT_UNTIL_NS i)])]

/-- The words of block 17, ENC_. -/
def encWords (o : Nat) : List (Option (List Field)) :=
  [
    wordAt 0x440100 0x20 4 0x0 0 o (fun i _ => [(ENC_BS_D_NS i)]),
    wordAt 0x440104 0x20 4 0x0 0 o (fun i _ => [(ENC_BS_A_SRC_US i), (ENC_BS_A_DST_US i)]),
    wordAt 0x440108 0x20 4 0x0 0 o (fun i _ => [(ENC_BS_A_SCN_US i), (ENC_BS_A_RES_US i)]),
    wordAt 0x44010c 0x20 4 0x0 0 o (fun i _ => [(ENC_BS_BUDGET_VALID i), (ENC_BS_BUDGET_MARGIN_US i)]),
    wordAt 0x440110 0x20 4 0x0 0 o (fun i _ => [(ENC_BS_ROW_LATE_CNT i), (ENC_BS_LATE_CLR i)]),
    wordAt 0x440114 0x20 4 0x0 0 o (fun i _ => [(ENC_BS_RUN_CMD i), (ENC_BS_RUN_FREERUN_OK i), (ENC_BS_RUN_AUTOSTART i), (ENC_BS_RUN_STATE i), (ENC_BS_RUN_LAST_STATUS i)]),
    wordAt 0x440118 0x20 4 0x0 0 o (fun i _ => [(ENC_BS_FIRST_PIC i)]),
    wordAt 0x440000 0x0 0 0x0 0 o (fun _ _ => [ENC_CTRL_EFFORT_FLOOR, ENC_CTRL_THERM_STEP, ENC_CTRL_EFFORT]),
    wordAt 0x440004 0x0 0 0x0 0 o (fun _ _ => [ENC_EFFORT_CHG_CNT, ENC_EFFORT_CNT_CLR]),
    wordAt 0x440040 0x4 16 0x0 0 o (fun i _ => [(ENC_FACE_SLOTS i), (ENC_FACE_LOAD_PM i)]),
    wordAt 0x440200 0x40 4 0x0 0 o (fun i _ => [(ENC_BS_FORMAT_KIND i), (ENC_BS_FORMAT_PROFILE i), (ENC_BS_FORMAT_CHROMA i), (ENC_BS_FORMAT_TIER i), (ENC_BS_FORMAT_STRICT_LEVEL i), (ENC_BS_FORMAT_LEVEL i), (ENC_BS_FORMAT_RATE i)]),
    wordAt 0x440204 0x40 4 0x0 0 o (fun i _ => [(ENC_BS_SIZE_WIDTH i), (ENC_BS_SIZE_HEIGHT i)]),
    wordAt 0x440208 0x40 4 0x0 0 o (fun i _ => [(ENC_BS_SP_W i), (ENC_BS_SP_H i), (ENC_BS_SP_COUNT i)]),
    wordAt 0x44020c 0x40 4 0x0 0 o (fun i _ => [(ENC_BS_GDR_COLS i), (ENC_BS_SWEEP_LEN i)]),
    wordAt 0x440210 0x40 4 0x0 0 o (fun i _ => [(ENC_BS_TOOLS_NUM_REF i), (ENC_BS_TOOLS_AFFINE_EN i), (ENC_BS_TOOLS_HINT_EN i), (ENC_BS_TOOLS_TS_EN i), (ENC_BS_TOOLS_FACE_MASK i)]),
    wordAt 0x440214 0x40 4 0x0 0 o (fun i _ => [(ENC_BS_COLS_PER_ENG i), (ENC_BS_ENG_COUNT i)]),
    wordAt 0x440218 0x40 4 0x4 3 o (fun i j => [(ENC_BS_ENGMASK_ENGINE i j)]),
    wordAt 0x440224 0x40 4 0x0 0 o (fun i _ => [(ENC_BS_FACE_USED i)]),
    wordAt 0x440228 0x40 4 0x0 0 o (fun i _ => [(ENC_BS_SWEEP_POS i), (ENC_BS_FIRST_SWEEP i)]),
    wordAt 0x44022c 0x40 4 0x0 0 o (fun i _ => [(ENC_BS_PIC_CNT i)]),
    wordAt 0x440230 0x40 4 0x0 0 o (fun i _ => [(ENC_BS_SWEEP_CNT i)]),
    wordAt 0x440234 0x40 4 0x0 0 o (fun i _ => [(ENC_BS_CLR_CLR i)]),
    wordAt 0x440400 0x200 4 0x0 0 o (fun i _ => [(ENC_BS_PKT_TS_EN i), (ENC_BS_PKT_TS_RTP i), (ENC_BS_PKT_STREAMS i), (ENC_BS_PKT_MTU i)]),
    wordAt 0x440404 0x200 4 0x0 0 o (fun i _ => [(ENC_BS_PKT_VIDEO_PID i), (ENC_BS_PKT_PMT_PID i)]),
    wordAt 0x440408 0x200 4 0x0 0 o (fun i _ => [(ENC_BS_PKT_CLR_CLR i)]),
    wordAt 0x440420 0x200 4 0x20 8 o (fun i j => [(ENC_BS_STR_COL_FIRST i j), (ENC_BS_STR_COL_LAST i j), (ENC_BS_STR_PATH1_EN i j), (ENC_BS_STR_PT i j), (ENC_BS_STR_DSCP i j)]),
    wordAt 0x440424 0x200 4 0x20 8 o (fun i j => [(ENC_BS_STR_LANE0 i j), (ENC_BS_STR_LANE1 i j), (ENC_BS_STR_TTL i j), (ENC_BS_STR_DST_PORT i j)]),
    wordAt 0x440428 0x200 4 0x20 8 o (fun i j => [(ENC_BS_STR_GROUP i j)]),
    wordAt 0x44042c 0x200 4 0x20 8 o (fun i j => [(ENC_BS_STR_SRC_PORT i j), (ENC_BS_STR_TAG_EN i j), (ENC_BS_STR_PCP i j), (ENC_BS_STR_VID i j)]),
    wordAt 0x440430 0x200 4 0x20 8 o (fun i j => [(ENC_BS_STR_SSRC i j)]),
    wordAt 0x440434 0x200 4 0x20 8 o (fun i j => [(ENC_BS_STR_TCLASS i j)]),
    wordAt 0x440438 0x200 4 0x20 8 o (fun i j => [(ENC_BS_STR_PKT_CNT i j)])]

/-- The words of block 18, RC_. -/
def rcWords (o : Nat) : List (Option (List Field)) :=
  [
    wordAt 0x480100 0x40 4 0x0 0 o (fun i _ => [(RC_BS_MAX_KBPS i)]),
    wordAt 0x480104 0x40 4 0x0 0 o (fun i _ => [(RC_BS_TARGET_KBPS i)]),
    wordAt 0x480108 0x40 4 0x0 0 o (fun i _ => [(RC_BS_QP_INIT i), (RC_BS_QP_MIN i), (RC_BS_QP_MAX i), (RC_BS_DQP_PIC i)]),
    wordAt 0x48010c 0x40 4 0x0 0 o (fun i _ => [(RC_BS_ROW_MAX i)]),
    wordAt 0x480110 0x40 4 0x0 0 o (fun i _ => [(RC_BS_ROW_FLOOR i)]),
    wordAt 0x480120 0x40 4 0x0 0 o (fun i _ => [(RC_BS_ROW_MAX_EFF i)]),
    wordAt 0x480124 0x40 4 0x0 0 o (fun i _ => [(RC_BS_ROW_FLOOR_EFF i)]),
    wordAt 0x480128 0x40 4 0x0 0 o (fun i _ => [(RC_BS_FULLNESS i)]),
    wordAt 0x48012c 0x40 4 0x0 0 o (fun i _ => [(RC_BS_SPOIL_PIC_CNT i), (RC_BS_GUARD_PIC_CNT i)]),
    wordAt 0x480138 0x40 4 0x0 0 o (fun i _ => [(RC_BS_CLR_CLR i)]),
    wordAt 0x480114 0x40 4 0x0 0 o (fun i _ => [(RC_BS_B_MAX i)]),
    wordAt 0x480118 0x40 4 0x0 0 o (fun i _ => [(RC_BS_OVERHEAD i)]),
    wordAt 0x48011c 0x40 4 0x0 0 o (fun i _ => [(RC_BS_SPOIL_ROW i)]),
    wordAt 0x480130 0x40 4 0x0 0 o (fun i _ => [(RC_BS_GUARD_CTU_CNT i)]),
    wordAt 0x480134 0x40 4 0x0 0 o (fun i _ => [(RC_BS_SPOIL_ROW_CNT i)])]

/-- The words of block 19, DEC_. -/
def decWords (o : Nat) : List (Option (List Field)) :=
  [
    wordAt 0x4c0100 0x80 4 0x0 0 o (fun i _ => [(DEC_BS_CODEC i), (DEC_BS_CHROMA i), (DEC_BS_DEPTH8 i), (DEC_BS_RATE i)]),
    wordAt 0x4c0104 0x80 4 0x0 0 o (fun i _ => [(DEC_BS_WIDTH i), (DEC_BS_HEIGHT i)]),
    wordAt 0x4c0108 0x80 4 0x0 0 o (fun i _ => [(DEC_BS_SP_W i), (DEC_BS_SP_H i)]),
    wordAt 0x4c010c 0x80 4 0x0 0 o (fun i _ => [(DEC_BS_WIN_COL i), (DEC_BS_WIN_ROW i), (DEC_BS_WIN_COLS i), (DEC_BS_WIN_ROWS i)]),
    wordAt 0x4c0110 0x80 4 0x0 0 o (fun i _ => [(DEC_BS_OUT_X i), (DEC_BS_OUT_Y i)]),
    wordAt 0x4c0114 0x80 4 0x0 0 o (fun i _ => [(DEC_BS_OUT_W i), (DEC_BS_OUT_H i)]),
    wordAt 0x4c0118 0x80 4 0x0 0 o (fun i _ => [(DEC_BS_SBUF_LOG2 i), (DEC_BS_AREA_BASE i)]),
    wordAt 0x4c011c 0x80 4 0x0 0 o (fun i _ => [(DEC_BS_LOAD_US i)]),
    wordAt 0x4c0120 0x80 4 0x0 0 o (fun i _ => [(DEC_BS_JOINED i), (DEC_BS_STREAM_UP i), (DEC_BS_CONC_SP i)]),
    wordAt 0x4c012c 0x80 4 0x0 0 o (fun i _ => [(DEC_BS_MISS_SLICE_CNT i), (DEC_BS_ERR_SLICE_CNT i)]),
    wordAt 0x4c0130 0x80 4 0x0 0 o (fun i _ => [(DEC_BS_MISS_PIC_CNT i), (DEC_BS_NOSTAMP_CNT i)]),
    wordAt 0x4c0134 0x80 4 0x0 0 o (fun i _ => [(DEC_BS_FENCE_CNT i), (DEC_BS_XTILE_CNT i)]),
    wordAt 0x4c0138 0x80 4 0x0 0 o (fun i _ => [(DEC_BS_DUP_SLICE_CNT i), (DEC_BS_OUTSIDE_CNT i)]),
    wordAt 0x4c013c 0x80 4 0x0 0 o (fun i _ => [(DEC_BS_STALE_CNT i), (DEC_BS_LATE_SLICE_CNT i)]),
    wordAt 0x4c0140 0x80 4 0x0 0 o (fun i _ => [(DEC_BS_MISMATCH_CNT i)]),
    wordAt 0x4c0144 0x80 4 0x0 0 o (fun i _ => [(DEC_BS_CLR_CLR i)]),
    wordAt 0x4c0124 0x80 4 0x0 0 o (fun i _ => [(DEC_BS_LAST_PDT_SEC i)]),
    wordAt 0x4c0128 0x80 4 0x0 0 o (fun i _ => [(DEC_BS_LAST_PDT_NS i)])]

/-- The words of block 20, SCN_. -/
def scnWords (o : Nat) : List (Option (List Field)) :=
  [
    wordAt 0x501000 0x100 16 0x0 0 o (fun i _ => [(SCN_LANE_ENABLE i), (SCN_LANE_SRC_KIND i), (SCN_LANE_SR_EN i), (SCN_LANE_CLONE_EN i), (SCN_LANE_CLONE_OF i), (SCN_LANE_SRC_INDEX i), (SCN_LANE_TILES i), (SCN_LANE_EVT_EN i)]),
    wordAt 0x501004 0x100 16 0x0 0 o (fun i _ => [(SCN_LANE_SRC_X i), (SCN_LANE_SRC_Y i)]),
    wordAt 0x501008 0x100 16 0x0 0 o (fun i _ => [(SCN_LANE_SRC_W i), (SCN_LANE_SRC_H i)]),
    wordAt 0x50100c 0x100 16 0x0 0 o (fun i _ => [(SCN_LANE_LINE_NS i), (SCN_LANE_FLIP_LEAD_NS i)]),
    wordAt 0x501010 0x100 16 0x0 0 o (fun i _ => [(SCN_LANE_LINE_MATCH i), (SCN_LANE_SR_FRAMES i)]),
    wordAt 0x501014 0x100 16 0x0 0 o (fun i _ => [(SCN_LANE_APPLY_SEC i)]),
    wordAt 0x501018 0x100 16 0x0 0 o (fun i _ => [(SCN_LANE_APPLY_NS i)]),
    wordAt 0x50101c 0x100 16 0x0 0 o (fun i _ => [(SCN_LANE_COMMIT_COMMIT i), (SCN_LANE_COMMIT_LAST_STATUS i)]),
    wordAt 0x501020 0x100 16 0x0 0 o (fun i _ => [(SCN_LANE_STATUS_STATE i), (SCN_LANE_STATUS_PENDING i), (SCN_LANE_STATUS_TILES_FOUND i), (SCN_LANE_STATUS_LAT_MAX_NS i)]),
    wordAt 0x501024 0x100 16 0x0 0 o (fun i _ => [(SCN_LANE_UNDERRUN_CNT i), (SCN_LANE_NOTREADY_CNT i)]),
    wordAt 0x501028 0x100 16 0x0 0 o (fun i _ => [(SCN_LANE_PROTO_CNT i), (SCN_LANE_DUP_REQ_CNT i)]),
    wordAt 0x50102c 0x100 16 0x0 0 o (fun i _ => [(SCN_LANE_SR_ENTER_CNT i), (SCN_LANE_TRANSITION_CNT i)]),
    wordAt 0x501030 0x100 16 0x0 0 o (fun i _ => [(SCN_LANE_FRAME_CNT i)]),
    wordAt 0x501034 0x100 16 0x0 0 o (fun i _ => [(SCN_LANE_CLR_CLR i)]),
    wordAt 0x501038 0x100 16 0x0 0 o (fun i _ => [(SCN_LANE_MEM_LOAD_US i), (SCN_LANE_MEM_RATE i), (SCN_LANE_MEM_COLORIMETRY i), (SCN_LANE_MEM_DEPTH i), (SCN_LANE_MEM_PLANAR i), (SCN_LANE_MEM_SAMPLING i)]),
    wordAt 0x50103c 0x100 16 0x0 0 o (fun i _ => [(SCN_LANE_MEM_BASE i)]),
    wordAt 0x508000 0x200 16 0x8 64 o (fun i j => [(SCN_TILE_X i j), (SCN_TILE_Y i j)]),
    wordAt 0x508004 0x200 16 0x8 64 o (fun i j => [(SCN_TILE_W i j), (SCN_TILE_H i j)])]

/-- The words of block 21, AUD_. -/
def audWords (o : Nat) : List (Option (List Field)) :=
  [
    wordAt 0x540000 0x0 0 0x0 0 o (fun _ _ => [AUD_MCLK_EN, AUD_MCLK_RESUME, AUD_MCLK_OK, AUD_MCLK_LOST, AUD_ZC_TIMEOUT_MS, AUD_LAST_STATUS]),
    wordAt 0x540004 0x0 0 0x0 0 o (fun _ _ => [AUD_MCLK_LOSS_CNT, AUD_CNT_CLR]),
    wordAt 0x541000 0x40 64 0x0 0 o (fun i _ => onlyIf (decide (i < 16)) [(AUD_IN_ENABLE i), (AUD_IN_SRATE i), (AUD_IN_ASRC_MODE i)] ++ onlyIf (decide (i < 16 ∨ (32 ≤ i ∧ i < 48))) [(AUD_IN_LAST_STATUS i)] ++ onlyIf (decide ((16 ≤ i ∧ i < 32) ∨ 48 ≤ i)) [(AUD_OUT_ENABLE i), (AUD_OUT_SRATE i), (AUD_OUT_MUTE i), (AUD_OUT_LAST_STATUS i)] ++ onlyIf (decide (48 ≤ i)) [(AUD_OUT_PTIME i)]),
    wordAt 0x541004 0x40 64 0x0 0 o (fun i _ => onlyIf (decide (i < 16 ∨ (32 ≤ i ∧ i < 48))) [(AUD_IN_LOCK i), (AUD_IN_ASRC i), (AUD_IN_RATE_PPM i)] ++ onlyIf (decide ((16 ≤ i ∧ i < 32) ∨ 48 ≤ i)) [(AUD_OUT_UNDERRUN_CNT i), (AUD_OUT_ZC_TO_CNT i)]),
    wordAt 0x541008 0x40 64 0x0 0 o (fun i _ => onlyIf (decide (i < 16 ∨ (32 ≤ i ∧ i < 48))) [(AUD_IN_CS_A i)] ++ onlyIf (decide (16 ≤ i ∧ i < 32)) [(AUD_OUT_OFFSET_NS i)]),
    wordAt 0x54100c 0x40 64 0x0 0 o (fun i _ => onlyIf (decide (i < 16 ∨ (32 ≤ i ∧ i < 48))) [(AUD_IN_CS_B i)] ++ onlyIf (decide (48 ≤ i)) [(AUD_OUT_LANE i), (AUD_OUT_TCLASS i), (AUD_OUT_CHANNELS i), (AUD_OUT_FIRST_CH i), (AUD_OUT_PT i)]),
    wordAt 0x541010 0x40 64 0x0 0 o (fun i _ => onlyIf (decide (i < 16 ∨ (32 ≤ i ∧ i < 48))) [(AUD_IN_LOSS_CNT i), (AUD_IN_PARITY_CNT i)] ++ onlyIf (decide (48 ≤ i)) [(AUD_OUT_GROUP i)]),
    wordAt 0x541014 0x40 64 0x0 0 o (fun i _ => onlyIf (decide (i < 16 ∨ (32 ≤ i ∧ i < 48))) [(AUD_IN_SLIP_CNT i), (AUD_IN_CS_ERR_CNT i)] ++ onlyIf (decide (48 ≤ i)) [(AUD_OUT_DST_PORT i), (AUD_OUT_DSCP i)]),
    wordAt 0x541018 0x40 64 0x0 0 o (fun i _ => onlyIf (decide (i < 16 ∨ (32 ≤ i ∧ i < 48))) [(AUD_IN_INVALID_CNT i), (AUD_IN_RATE_ERR_CNT i)] ++ onlyIf (decide (48 ≤ i)) [(AUD_OUT_SSRC i)]),
    wordAt 0x54101c 0x40 64 0x0 0 o (fun i _ => onlyIf (decide (i < 16 ∨ (32 ≤ i ∧ i < 48))) [(AUD_IN_CAP_LOG2 i), (AUD_IN_CAP_BASE i)] ++ onlyIf (decide (48 ≤ i)) [(AUD_OUT_PKT_CNT i)]),
    wordAt 0x541020 0x40 64 0x0 0 o (fun i _ => onlyIf (decide (i < 16 ∨ (32 ≤ i ∧ i < 48))) [(AUD_IN_CAP_MASK_LO i)]),
    wordAt 0x541024 0x40 64 0x0 0 o (fun i _ => onlyIf (decide (i < 16 ∨ (32 ≤ i ∧ i < 48))) [(AUD_IN_CAP_MASK_HI i)]),
    wordAt 0x543000 0x4 96 0x0 0 o (fun i _ => [(AUD_ROUTE_SRC i), (AUD_ROUTE_DELAY_SEL i), (AUD_ROUTE_DELAY_US i)])]

/-- The words of block 22, TRP_. -/
def trpWords (o : Nat) : List (Option (List Field)) :=
  [
    wordAt 0x580000 0x0 0 0x0 0 o (fun _ _ => [TRP_CTRL_ENABLE, TRP_CTRL_PIN_EN, TRP_CTRL_DESC_EN, TRP_CTRL_ACK_WAIT_US, TRP_CTRL_MIRROR_LANES]),
    wordAt 0x580004 0x0 0 0x0 0 o (fun _ _ => [TRP_HB_PERIOD_US, TRP_HB_PET]),
    wordAt 0x580008 0x0 0 0x0 0 o (fun _ _ => [TRP_STATUS_ROLE, TRP_STATUS_STATE, TRP_STATUS_PARTNER_SEEN, TRP_STATUS_PARTNER_READY, TRP_STATUS_FIT, TRP_STATUS_LAST_STATUS]),
    wordAt 0x58000c 0x0 0 0x0 0 o (fun _ _ => [TRP_PARTNER_PART, TRP_PARTNER_VERSION]),
    wordAt 0x580018 0x0 0 0x0 0 o (fun _ _ => [TRP_UNCOVERED_CNT, TRP_RESEND_CNT]),
    wordAt 0x58001c 0x0 0 0x0 0 o (fun _ _ => [TRP_RESYNC_CNT, TRP_TAKEOVER_CNT]),
    wordAt 0x580020 0x0 0 0x0 0 o (fun _ _ => [TRP_MALFORMED_CNT, TRP_TEST_FAIL_CNT]),
    wordAt 0x580024 0x0 0 0x0 0 o (fun _ _ => [TRP_CLR_CLR]),
    wordAt 0x580030 0x0 0 0x0 0 o (fun _ _ => [TRP_TEST_INTERVAL_MS, TRP_TEST_POS]),
    wordAt 0x580034 0x0 0 0x0 0 o (fun _ _ => [TRP_AREA_BASE]),
    wordAt 0x580010 0x0 0 0x0 0 o (fun _ _ => [TRP_SEQ]),
    wordAt 0x580014 0x0 0 0x0 0 o (fun _ _ => [TRP_ACK]),
    wordAt 0x580040 0x0 0 0x0 0 o (fun _ _ => [TRP_TAKE_SEC]),
    wordAt 0x580044 0x0 0 0x0 0 o (fun _ _ => [TRP_TAKE_NS]),
    wordAt 0x580048 0x0 0 0x0 0 o (fun _ _ => [TRP_TAKE_US])]

/-- Every word candidate of the block an offset lies in (R512, R513: blocks 23 to 255 are unassigned). -/
def blockWords (f o : Nat) : List (Option (List Field)) :=
  match o / 0x40000 with
  | 0 => hifWords f o
  | 1 => pwrWords o
  | 2 => thmWords o
  | 3 => fwWords o
  | 4 => ldgWords o
  | 5 => timWords o
  | 6 => brkWords o
  | 7 => jugWords o
  | 8 => chkWords o
  | 9 => dmcWords o
  | 10 => laneWords o
  | 11 => aknWords o
  | 12 => carWords o
  | 13 => trnWords o
  | 14 => ingWords o
  | 15 => cmpWords o
  | 16 => safWords o
  | 17 => encWords o
  | 18 => rcWords o
  | 19 => decWords o
  | 20 => scnWords o
  | 21 => audWords o
  | 22 => trpWords o
  | _ => []

/-- The fields of several overlapping layouts of one word, joined: a word that more than one candidate names has the
fields of each (receivers and audio ports of different kinds share an offset). -/
def joinWords : List (Option (List Field)) → Option (List Field)
  | [] => none
  | none :: t => joinWords t
  | some l :: t => match joinWords t with
    | none => some l
    | some l' => some (l ++ l')

/-- The fields of the word at a 32-bit aligned offset as function `f` sees it (R107): a VF sees only its own
per-function view. None is an unassigned offset (R14). -/
def fieldsAt (f o : Nat) : Option (List Field) :=
  if o % 4 ≠ 0 then none
  else if f ≠ 0 ∧ 0x100 ≤ o then none
  else joinWords (blockWords f o)

end Sys2Proof.Machine.Reg
end

