-- ==== Sys2Proof/Machine/State.lean ====
section
/-! DEFINITION. The state of the PN4816 as plain data: every register field, and every piece of state the spec gives the
part beyond its registers, with the state after reset. -/

namespace Sys2Proof.Machine

/-- Why the machine stops with a fault. The block raises none today: every command of the table has an effect the
spec gives, and a command whose event cannot occur leaves the state as it is (log entry 3). Safe: a fault would only
stop a run. -/
inductive Fault where
  /-- Raised by no meaning; kept so that the type is inhabited and a later meaning may stop by name. Safe. -/
  | reserved
  deriving DecidableEq, Repr

/-- Why a command has no meaning yet. -/
inductive Refusal where
  /-- Raised by an arm of the dispatcher that has no meaning yet, with the command's mnemonic. Safe: it only stops. -/
  | notModelled (mnemonic : String)
  deriving DecidableEq, Repr

/-- A mapping of the local count to a domain time (R41): DT in units of 2^-16 ns, the anchor's LC, and RATE in units
of 2^-40. -/
structure Mapping where
  dt : Int
  lc : Nat
  rate : Int
  deriving DecidableEq, Repr

/-- The kinds of ring (the ring table of chapter 04), in the order of their KIND codes. -/
inductive RingKind where
  | sub | cpl | evt | bsIn | bsOut
  deriving DecidableEq, Repr

/-- The states of a ring that has a context (R119); a ring the table does not list is DISABLED. -/
inductive RingState where
  | active | error
  deriving DecidableEq, Repr

/-- The context of a ring (R116, R117, R119, R136, R140). `base` is its host address, `vector` its function-local
MSI-X vector, `prod`, `cons` and `fill` its indices modulo 2^32, `reserved` the completions promised to descriptors in
flight (R126), `inFlight` the descriptors consumed and not completed, `lost` the events lost since the last 0x0402
record (R131), `unsig` the entries not yet signalled (R140), `closing` the DESTROY_RINGs waiting for it. -/
structure Ring where
  kind : RingKind
  state : RingState
  fn : Nat
  base : Nat
  log2 : Nat
  pair : Nat
  vector : Option Nat
  modCount : Nat
  modUs : Nat
  mask : Nat
  slot : Nat
  prod : Nat := 0
  cons : Nat := 0
  fill : Nat := 0
  reserved : Nat := 0
  inFlight : Nat := 0
  lost : Nat := 0
  unsig : Nat := 0
  closing : List Ticket := []
  deriving DecidableEq, Repr

/-- A function of the host interface beyond its registers: the pen of its admin rings (R114), and how often it has been
reset or closed, so that completions of actions accepted before are discarded (R141). -/
structure Fn where
  epoch : Nat
  pen : Nat
  deriving DecidableEq, Repr

/-- A completion record (R125) and the host address of its entry (R117). -/
structure CplRecord where
  entry : Nat
  cookie : Nat
  status : Code
  phase : Bool
  catcher : Bool
  rid : Nat
  sqHead : Nat
  dtSec : Nat
  dtNs : Nat
  result : Nat
  deriving DecidableEq, Repr

/-- The 16 DETAIL bytes of an event as four little-endian words: bytes 16-19, 20-23, 24-27, 28-31 (R129). -/
structure Detail where
  w16 : Nat := 0
  w20 : Nat := 0
  w24 : Nat := 0
  w28 : Nat := 0
  deriving DecidableEq, Repr

/-- An event record (R129) and the host address of its entry (R117). -/
structure EvtRecord where
  entry : Nat
  code : Code
  phase : Bool
  object : Nat
  dtSec : Nat
  dtNs : Nat
  detail : Detail
  deriving DecidableEq, Repr

/-- The bytes 12 to 31 the device writes back into a BS_OUT entry (R132), and the host address of the entry (R117). -/
structure BsRecord where
  entry : Nat
  length : Nat
  pdtSec : Nat
  pdtNs : Nat
  subpic : Nat
  phase : Bool
  auStart : Bool
  auEnd : Bool
  spoil : Bool
  status : Code
  deriving DecidableEq, Repr

/-- Pins the device drives. -/
inductive Pin where
  | faultN | safFaultN | thermtripN | ppsOut | clk10Out | trpHb
  deriving DecidableEq, Repr

/-- Ethernet frames the device originates or forwards, with the fields the spec fixes. -/
inductive TxFrame where
  /-- A Delay_Req of a domain with its sequence number, to the MAC and IPv4 address of the selected master when it is unicast (R47). -/
  | delayReq (domain seq : Nat) (unicast : Option (Nat × Nat))
  /-- IGMPv3 report or leave for a path (R145). -/
  | igmpReport (group src : Nat)
  | igmpLeave (group src : Nat)
  | arpReply (ip mac : Nat)
  /-- A stream packet (R261): slot, stream, path, sequence number, timestamp, payload length, marker, and the stream's
  destination, ports, DSCP, TTL and tag as latched for the picture (R286). The other header fields are constants: no IPv4 options,
  DF set, identification 0, the UDP checksum computed, RTP version 2 without padding, extension and CSRC. -/
  | stream (slot stream path seq ts len : Nat) (marker : Bool) (hdr : List Nat)
  /-- A datagram of TS packets (R265): slot, path, sequence number, TS packets, destination, ports, DSCP, TTL and tag, the RTP
  timestamp (PT 33) when it has an RTP header, and the TS packets that carry a PCR with its value; timestamp and PCRs are those of the
  sending, 0 while it waits. -/
  | ts (slot path seq packets : Nat) (hdr : List Nat) (rtp : Option Nat) (pcrs : List (Nat × Nat))
  /-- A network audio packet (R366): transmitter, sequence number, timestamp, payload length, the destination, ports, DSCP, PT and
  SSRC, the samples by channel. -/
  | audio (tx seq ts len : Nat) (hdr : List Nat) (samples : List (List Int))
  /-- A forwarded frame: the lane it came in on, its correctionField and UDP checksum as they leave, whether its FCS is bad. -/
  | forwarded (fromLane : Nat) (corr : Int) (udp : Nat) (badFcs : Bool)
  deriving DecidableEq, Repr

/-- The MAC and IPv4 addresses of a frame that the device originates (R325). -/
structure FrameAddr where
  dstMac : Nat
  srcMac : Nat
  srcIp : Nat
  dstIp : Nat
  deriving DecidableEq, Repr

/-- An entry of the Ledger (R469). `kind` is OBJ_KIND, `hash` tells VALUES apart (an old and a new value, or the first
8 bytes of a SHA-256), `chain` is filled in when the entry is stored. -/
structure LedgerEntry where
  dtSec : Nat
  dtNs : Nat
  origin : Nat
  kind : Nat
  hash : Bool
  originIndex : Nat
  code : Code
  object : Nat
  old : Nat
  new : Nat
  seq : Nat
  tick : Nat
  chain : Nat := 0
  deriving DecidableEq, Repr

/-- The Ledger (R468-R472): the intake queue, the on-chip buffer (oldest first), the entries in the DRAM ring (oldest
first), the entries written to the ring since it was emptied, and the CHAIN of the last stored entry. -/
structure Ledger where
  intake : List LedgerEntry
  buffer : List LedgerEntry
  dram : List LedgerEntry
  placed : Nat
  chain : Nat
  deriving DecidableEq, Repr

/-- What a queued launch stands for: a word supervisor firmware wrote, a timed descriptor with its ticket (R124), or a
launch the device itself queued for a picture, row, port or lane. -/
inductive LaunchAct where
  | firmware
  | timed (opcode : Nat) (d : Desc) (t : Ticket)
  | composition (slot n : Nat)
  | encodeRow (slot n row : Nat)
  | release (slot n row : Nat)
  | decodeRow (slot pic row : Nat)
  | present (lane pic : Nat)
  | frameStart (lane n : Nat)
  | gate (port entry : Nat)
  | sample (port : Nat)
  deriving DecidableEq, Repr

/-- A launch word in a unit's queue (R64, R71): its kind, reference, tag, instant (LC value for REF 0, else DT in
2^-16 ns), the tick it was accepted in and what it stands for. -/
structure QLaunch where
  kind : Nat
  ref : Nat
  tag : Nat
  instant : Int
  accepted : Nat
  act : LaunchAct
  deriving DecidableEq, Repr

/-- A Sync (R48-R50): its stamp t2 and correction, sequence number, its sender and whether that was the selected master, and t1
once known (all times in 2^-16 ns). -/
structure PendingSync where
  t2 : Int
  corr : Int
  seq : Nat
  sender : Nat
  mine : Bool
  t1 : Option Int
  deriving DecidableEq, Repr

/-- A Delay_Req the device sent: its sequence number, its stamp t3, and t4 and correction once answered. -/
structure PendingReq where
  seq : Nat
  t3 : Int
  answer : Option (Int × Int)
  deriving DecidableEq, Repr

/-- A master heard by Announce, with the port identity that sends. -/
structure Master where
  sender : Nat
  data : Announce
  deriving DecidableEq, Repr

/-- One time domain beyond its registers: the mapping in force and those that govern from later ticks, oldest first (R42), the
integrator (dimensionless, exact), the mpd of the last 16 accepted samples in ns (R49), the lengths of the runs of
consecutive good samples that the state table counts, the stepping sample waiting for its second sample (R518: its
theta in ns and t2), whether ACCEPT_JUMP awaits its sample (R53), the selected master and the other masters heard, the
Sync interval's exponent (R519), the two-step Syncs whose Follow_Up is outstanding (of every sender, newest first), the
exchanges of the sample under way, the t2 of the last Sync that gave a sample, the sequence number of the next Delay_Req, the second the next PPS_IN edge denotes (R54) and whether that edge is the first after TOD_SEC. -/
structure Domain where
  map : Mapping
  next : List (Nat × Mapping)
  integ : Rat
  mpds : List Rat
  near : Nat
  inJump : Nat
  step : Option (Rat × Int)
  acceptJump : Bool
  master : Option Master
  heard : List Master
  logSync : Int
  syncs : List PendingSync
  sync : Option PendingSync
  req : Option PendingReq
  lastT2 : Option Int
  reqSeq : Nat
  tod : Option Nat
  todFresh : Bool
  deriving DecidableEq, Repr

/-- A domain no message has reached. -/
def Domain.reset : Domain :=
  { map := ⟨0, 0, 0⟩, next := [], integ := 0, mpds := [], near := 0, inJump := 0, step := none, acceptJump := false,
    master := none, heard := [], logSync := 0, syncs := [], sync := none, req := none, lastT2 := none, reqSeq := 0, tod := none,
    todFresh := false }

/-- Ringmaster beyond its registers: the two domains, the mapping of the active DT while it slews (R56) and the frozen
mapping of the outputs while the active domain is disabled (R516), whether the PLL runs from CLK10_IN (R40), the launch
queues (R71), the tick of each unit's last launch and the words written to the queue window, by register (R75). -/
structure Tim where
  dom0 : Domain
  dom1 : Domain
  slew : Option Mapping
  frozen : Option Mapping
  pllClk10 : Bool
  queues : Table (List QLaunch)
  fired : Table Nat
  window : Table Nat
  deriving DecidableEq, Repr

/-- Ringmaster at reset: both domains disabled, every queue empty (R44). -/
def Tim.reset : Tim :=
  { dom0 := Domain.reset, dom1 := Domain.reset, slew := none, frozen := none, pllClk10 := false,
    queues := [], fired := [], window := [] }

/-- A frame in an egress queue (R341, R343, R353): what it is, its length from destination address through FCS, the LC
of its admission, the row of a stream packet, whether its release has made it eligible, the MIRROR SEQ whose
acknowledgement it waits for on a paired Flyer (R438), and the ingress stamp (in sixteenths of a tick) and PTP domain
of a forwarded event message (R59). -/
structure EgFrame where
  frame : TxFrame
  len : Nat
  stamp : Nat
  row : Option (Nat × Nat × Nat)
  eligible : Bool
  cover : Option Nat
  tc : Option (Nat × Nat)
  deriving DecidableEq, Repr

/-- A gate list (R346): GATE_EN, cycle and base in 2^-16 ns, and the entries' intervals (2^-16 ns) and gate masks. -/
structure GateList where
  en : Bool
  cycle : Nat
  base : Int
  entries : List (Nat × Nat)
  deriving DecidableEq, Repr

/-- An Ethernet port's Carousel and transmitter (R344, R349): the list in force, the list waiting with its instant x and
the descriptors that complete at x, the gates as last switched, the tick from which the transmitter is free, the queues whose
accepted meter fields wait for the next frame boundary (R352). -/
structure EgPort where
  list : GateList
  pend : Option (GateList × Int)
  tickets : List Ticket
  gates : Nat
  freeAt : Nat
  turning : List Nat
  deriving DecidableEq, Repr

/-- The gate list in force at reset: GATE_EN 0, every gate open (R346). -/
def EgPort.reset : EgPort :=
  { list := { en := false, cycle := 1000000 * 65536, base := 0, entries := [(1000000 * 65536, 0xFF)] }, pend := none,
    tickets := [], gates := 0xFF, freeAt := 0, turning := [] }

/-- A meter's buckets in 1/12,800 B (1/50 of the 1/256 B steps, so that a tick's fill is whole), and the LC up to which
they are filled (R351). -/
structure Meter where
  c : Nat
  p : Nat
  filled : Nat
  deriving DecidableEq, Repr

/-- The egress side beyond its registers: ports by lane, queues and meters by 8i + c, bytes sent per queue (R354), and
the last row released to each port and slot (R343), by 4i + n, as 64N + k + 1. -/
structure Egress where
  ports : Table EgPort
  queues : Table (List EgFrame)
  meters : Table Meter
  sent : Table Nat
  released : Table Nat
  deriving DecidableEq, Repr

/-- The allowances of a slot in µs (R35). -/
structure Allow where
  src : Nat
  dst : Nat
  scn : Nat
  res : Nat
  deriving DecidableEq, Repr

/-- A motion vector in quarter luma samples and its reference: 0 picture N − 1, 1 picture N − 2 (R227). -/
structure Vec where
  x : Int
  y : Int
  ref : Nat
  deriving DecidableEq, Repr

/-- What the search of a block found (R230): its refined vector and how far it was refined from the winning candidate. -/
structure Motion where
  vec : Vec
  offX : Int
  offY : Int
  deriving DecidableEq, Repr

/-- How a coding unit is coded (R232, R233, R225, R248): skip or merge with a candidate index, AMVP with a vector, affine with the
control-point vectors in 1/16 sample, intra with a mode, flat mid-grey. -/
inductive CuMode where
  | skip (i : Nat)
  | merge (i : Nat)
  | amvp (v : Vec)
  | affine (x0 y0 x1 y1 : Int) (ref : Nat)
  | intra (m : Nat)
  | grey
  deriving DecidableEq, Repr

/-- A coding unit: where it stands in the picture, its size, how it is coded and whether it carries a residual. -/
structure Cu where
  x : Nat
  y : Nat
  w : Nat
  h : Nat
  mode : CuMode
  residual : Bool
  deriving DecidableEq, Repr

/-- The NAL unit type of a picture's slices (R212, R225). -/
inductive SliceType where
  | idrNLp
  | gdrNut
  | trail
  deriving DecidableEq, Repr

/-- The NAL units of an access unit in their order (R218): the parameter sets, the stamp, the recovery point message
(recovery_poc_cnt, exact_match_flag), the motion-constrained tile sets message (one set a tile), the VVC picture header (its slice
type, ph_recovery_poc_cnt of a GDR picture, the vertical virtual boundary, R224), then the slices. -/
inductive NalUnit where
  | delimiter
  | vps (p : SeqParams)
  | sps (p : SeqParams)
  | pps (p : SeqParams)
  | stampSei (x : Stamp)
  | recoverySei (pocCnt : Nat) (exact : Bool)
  | tileSetsSei (sets : List Nat)
  | pictureHeader (t : SliceType) (recovery : Option Nat) (boundary : Option Nat)
  | slices (t : SliceType)
  deriving DecidableEq, Repr

/-- A CTU row of a picture being encoded: whether it is composed, the three planes of its lines as the compositor passes them to the
Faces (R166, R168), its cap once admitted (R250), whether it is a Spoil row,
its charge once its mode decision is complete (R246), the slices complete (column and bytes) and those of them that wait
behind an earlier late row (R37), its guarded CTUs, the tick its last slice completed in and whether that was after e_k,
whether its release launches are queued, whether it is wholly released; what its search blocks found (512 × block row + block
column, R230) and how its CTUs are coded (1024 × CTU row within it + CTU column, R232, R248). -/
structure EncRow where
  composed : Bool
  lines : List (List (List Nat))
  cap : Option Nat
  spoil : Bool
  charge : Option Nat
  slices : List (Nat × Nat)
  held : List (Nat × Nat)
  guarded : Nat
  doneAt : Option Nat
  own : Bool
  launched : Bool
  released : Bool
  motions : Table Motion
  cus : Table (List Cu)
  deriving DecidableEq, Repr

/-- The rate-control values in force (R242, R245, R249): bounds, fixed costs, effective row limits and QP limits. -/
structure Rc where
  bMax : Nat
  bTgt : Nat
  overhead : Nat
  sRow : Nat
  rowMax : Nat
  rowFloor : Nat
  qpMin : Nat
  qpMax : Nat
  dqp : Nat
  deriving DecidableEq, Repr

/-- A motion hint record (R186). -/
structure Hint where
  x : Nat
  y : Nat
  w : Nat
  h : Nat
  dx : Int
  dy : Int
  zoom : Nat
  cut : Bool
  held : Bool
  srcMotion : Bool
  layer : Nat
  deriving DecidableEq, Repr

/-- A picture in progress of an encode slot: N, its allowances, the rate control latched at c_0 (R256), t_n, a[k], qp[k] and
p_s per row and column (R254), its hints (R186), its rows, the bytes of its non-VCL units once sent with the stream header
fields latched then (R286), lowest and highest QP. -/
structure EncPic where
  n : Nat
  allow : Allow
  rc : Rc
  target : Nat
  plan : List Nat
  qp : List Nat
  ps : List (List Nat)
  hints : List Hint
  rows : List EncRow
  head : Option Nat
  hdr : List (List Nat)
  qpLo : Nat
  qpHi : Nat
  deriving DecidableEq, Repr

/-- A picture record (R258). -/
structure PicRecord where
  pic : Nat
  bytes : Nat
  target : Nat
  peakRow : Nat
  guardCtus : Nat
  spoilFrom : Nat
  qpLo : Nat
  qpHi : Nat
  flags : Nat
  fullness : Int
  deriving DecidableEq, Repr

/-- A transport stream in progress (R265): bytes of the access unit not yet in a TS packet, the TS packets not yet in a
datagram and whether each carries a PCR, LC of the last PCR, whether the next TS packet is the first of its PES. -/
structure TsState where
  bytes : Nat
  packets : List Bool
  lastPcr : Option Nat
  start : Bool
  deriving DecidableEq, Repr

/-- A slice of a picture of a decode slot (R274, R279): CTU row, subpicture, the fragments received (extended sequence number,
whether first, whether last) and their bytes, whether it is complete, whether its row is done, whether it is concealed, whether
the row is UNCHANGED (R299). -/
structure DecSlice where
  row : Nat
  sp : Nat
  frags : List (Nat × Bool × Bool)
  bytes : Nat
  got : Bool
  done : Bool
  concealed : Bool
  unchanged : Bool
  deriving DecidableEq, Repr

/-- A picture of a decode slot (R273, R280): an order number of its own, its RTP timestamp once accepted, capture DT and
presentation DT in 2^-16 ns, the presentation DT its row deadlines are counted from (its own, but for a picture decoded for reference
only, R32), whether it is to be presented, whether it has its stamp, whether it only keeps the grid while no
stream arrives (R301), PIC, sweep position and length and GDR_COLS, whether it is an IDR or first-of-sweep picture, the
subpictures selected at its first packet (R161), LOAD_US, the first row whose deadline has not come, whether it is complete, its
slices, which once-per-picture events it has raised, whether the Safety Net is latched for it (1) and read
back (2) with whether package and state are those of the picture before (R299), whether it has been presented or
dropped, the subpictures whose marks it clears when it is presented (R282). -/
structure DecPic where
  id : Nat
  ts : Option Nat
  cap : Rat
  p : Rat
  base : Rat
  present : Bool
  stamped : Bool
  idle : Bool
  num : Nat
  pos : Nat
  len : Nat
  gdr : Nat
  start : Bool
  sel : List Nat
  load : Nat
  nextRow : Nat
  decoded : Bool
  slices : List DecSlice
  raised : List Code
  latched : Nat
  same : Bool
  shown : Bool
  clears : List Nat
  deriving DecidableEq, Repr

/-- The last concealment of a subpicture (R282): PIC and sweep position of its picture. -/
structure Mark where
  num : Nat
  pos : Nat
  deriving DecidableEq, Repr

/-- A decode slot beyond its registers: the parameter sets last received, the difference p − capture DT of the last stamped
picture (R280), the last accepted presentation DT, the LC at which a picture was last accepted, the pictures in progress (by
presentation DT), subpictures marked concealed, those cleared since the join (R283), subpictures reconstructed since START
(R281), bytes in the slice buffer, the timestamps of pictures done and of stale ones (R280), the next order number, the selection
latched for pictures that have no record yet, by timestamp (R161). -/
structure Dec where
  sets : Option ParamSets
  lag : Option Rat
  lastP : Option Rat
  lastAt : Nat
  pics : List DecPic
  marks : Table Mark
  cleared : List Nat
  made : List Nat
  buffered : Nat
  dropped : List Nat
  stale : List Nat
  nextId : Nat
  sels : List (Nat × List Nat)
  deriving DecidableEq, Repr

/-- A decode slot before START. -/
def Dec.reset : Dec :=
  { sets := none, lag := none, lastP := none, lastAt := 0, pics := [], marks := [], cleared := [], made := [], buffered := 0,
    dropped := [], stale := [], nextId := 0, sels := [] }

/-- A bitstream slot beyond its registers: whether its pictures are a Catcher's after a take-over (R264), the Face of each subpicture column, the next picture to compose, the first
picture of the run, allowances in force and changes with the first picture they apply to (R36), pictures in progress (oldest
first), rate control history (R254), the tick of the last accepted commit and the rate control before it (R256), picture
records (R258), RTP sequence numbers per stream, transport stream, what the search found in the last picture coded (its N, its
rows; R227), decode state. -/
structure Slot where
  catcher : Bool
  faces : List Nat
  next : Nat
  first : Nat
  allow : Allow
  allowNext : List (Nat × Allow)
  pics : List EncPic
  bytesPrev : List Rat
  qpPrev : List Nat
  slicePrev : Table Nat
  bandPrev : Nat
  commitAt : Nat
  rcBefore : Option Rc
  records : List PicRecord
  seqs : Table Nat
  ts : TsState
  motionPrev : Nat × List (Table Motion)
  dec : Dec
  deriving DecidableEq, Repr

/-- A slot that was never started. -/
def Slot.reset : Slot :=
  { catcher := false, faces := [], next := 0, first := 0, allow := ⟨0, 0, 0, 0⟩, allowNext := [], pics := [], bytesPrev := [],
    qpPrev := [], slicePrev := [], bandPrev := 0, commitAt := 0, rcBefore := none, records := [], seqs := [], ts := ⟨0, [], none, false⟩,
    motionPrev := (0, []), dec := Dec.reset }

/-- A checkpoint (R437): its row, the nanoseconds of its tick, the picture in progress with its rate state (R259) for an
encode slot, F, the pictures coded before with their rows and bytes (R254), JOINED, STREAM_UP, the last presentation DT and
the subpictures marked concealed for a decode slot, the launch words queued for the slot's units, the ring indices changed (ring, SUB consumer, CPL producer), SEQ and
state of each slot's Safety Net. -/
structure Ckpt where
  row : Nat
  ns : Nat
  pic : Option EncPic
  fullness : Nat
  bytesPrev : List Rat
  qpPrev : List Nat
  slicePrev : Table Nat
  joined : Bool
  up : Bool
  lastP : Option Rat
  marks : List Nat
  launches : List (Nat × QLaunch)
  rings : List (Nat × Nat × Nat)
  saf : List (Nat × Nat)
  deriving DecidableEq, Repr

/-- A record of the MIRROR stream (R431, R433). The samples of reference blocks and the bytes of coded slices are not
computed by the model: REF carries its place among the records of its row and its payload's size, SLICE the row, subpicture (0xFFFF
for non-VCL units), byte offset and bytes. A RING record of a BS_IN entry holds no descriptor. -/
inductive MirrorRec where
  | config (off value : Nat)
  | surf (addr : Nat) (data : List Byte) (poison : Bool)
  | ref (slot pic row index len : Nat)
  | slice (slot pic row sp off bytes : Nat)
  | ckpt (slot pic : Nat) (c : Ckpt)
  | rowEnd (slot pic row count : Nat)
  | safPkg (slot : Nat) (data : List Byte) (poison : Bool)
  | safLine (slot pic state first seq : Nat) (crcs : List Nat)
  | ring (rid cons : Nat) (opcode : Nat) (d : Option Desc)
  | syncStart
  | syncEnd
  deriving DecidableEq, Repr

/-- The messages of an Aknis Link lane that the device sends (R331), with the fields a receiver acts on. `credit` is the
CREDIT field of any header (R327); `train` a training frame's control word (R333). -/
inductive LinkMsg where
  | frameStart (pic : Nat)
  | flip (pic : Nat)
  | mode (tile x y w h fdelay : Nat)
  | srEnter (pic : Nat)
  | rowData (tile line : Nat) (pixels : List Nat)
  | hold (tile line : Nat)
  | nak (tile line reason : Nat)
  | mirror (seq : Nat) (r : MirrorRec)
  | ctrl (tile topic tag addr value : Nat) (data : List Byte)
  | capOffer (role versions part mirror control turn : Nat)
  | capEnum (count minVersion : Nat)
  | capSet (version : Nat)
  | echo (tile stamp : Nat)
  | credit (cls slots : Nat)
  | train (word : Nat)
  deriving DecidableEq, Repr

/-- Where a rank-local address lies in a rank (R379). -/
structure DramPlace where
  burst : Nat
  sub : Nat
  group : Nat
  column : Nat
  bank : Nat
  row : Nat
  deriving DecidableEq, Repr

/-- What the block sends to the outside: register data read, writes to host memory, MSI-X messages, frames, link
messages, pins, SMBus answers. -/
inductive Output where
  | readData (fn off value : Nat)
  /-- Bytes written to a function's memory, with EP set when they come from a poisoned line (R388). -/
  | hostWrite (fn addr : Nat) (data : List Byte) (ep : Bool)
  | cpl (ring index : Nat) (r : CplRecord)
  | evt (ring index : Nat) (r : EvtRecord)
  | bs (ring index addr : Nat) (r : BsRecord)
  /-- STATUS and PHASE written back into a BS_IN entry at a host address (R132). -/
  | bsIn (ring index entry : Nat) (phase : Bool) (status : Code)
  /-- The bytes of a slice written to a posted buffer of a function (R133): the address and how many. -/
  | slice (fn addr len : Nat)
  | msix (vector : Nat)
  | frame (lane cls : Nat) (addr : Option FrameAddr) (f : TxFrame)
  | link (lane : Nat) (m : LinkMsg)
  /-- The levels that carry an Aknis Link message, with the IDLE headers before it, or a training frame (R309, R326, R333). -/
  | levels (lane : Nat) (l : List Int)
  /-- A lane's test generator starts: TX_PAT, the first symbols of a PRBS pattern, LOOP (R319, R321). -/
  | pattern (lane pat : Nat) (l : List Int) (loop : Nat)
  /-- The NAL units of an access unit as its first slice goes out (R218, R264), and the PTS of its PES in a transport stream (R265). -/
  | accessUnit (slot : Nat) (units : List NalUnit) (pts : Option Nat)
  /-- The PAT and PMT of a transport stream (R265): slot, PMT_PID, VIDEO_PID, which carries the PCR, stream_type; the PAT on PID 0 names
  program 1. -/
  | psi (slot pmtPid videoPid streamType : Nat)
  /-- An AES3 frame (R361, R369): output, frame number, samples A and B, status A, status B, user A, user B bits, the sixteenth of the
  tick at which its preamble leaves, whether it starts a block with Z. -/
  | aes3 (j k : Nat) (a b : Int) (bits : List Bool) (sub : Nat) (z : Bool)
  | pin (p : Pin) (high : Bool)
  /-- A pin rises at a sixteenth of the tick and stays high for some microseconds (R62). -/
  | pulse (p : Pin) (us sub : Nat)
  /-- An edge of a clock output at a sixteenth of the tick (R62). -/
  | edge (p : Pin) (high : Bool) (sub : Nat)
  | smbus (data : List Byte)
  | smbusNak
  | avsWrite (mv : Nat)
  | dispatchInterrupt (engine : Nat)
  /-- What CREATE answers its caller (R406): the status, and the task's ID. -/
  | created (pair : Nat) (code : Code) (id : Nat)
  | modeRegister (channel rank addr value : Nat)
  /-- A training helper works on a rank: OP, PATTERN with the user bytes, the place of its first burst, LEN (R379, R383). -/
  | training (channel rank op pattern : Nat) (user : List Byte) (first : DramPlace) (len : Nat)
  /-- A neighbour refresh: rank, bank of the rank, row (R397). -/
  | neighbour (rank bank row : Nat)
  deriving DecidableEq, Repr

/-- A picture of a video receiver (R155 to R157): RTP timestamp, capture DT in 2^-16 ns, its buffer (none when it was
dropped), the samples received of lines not complete (a mask per line), the lines valid (a mask), whether it is open. -/
structure RxPic where
  ts : Nat
  cap : Rat
  buf : Option Nat
  part : Table Nat
  valid : Nat
  isOpen : Bool
  deriving DecidableEq, Repr

/-- A receiver beyond its registers: its pictures (newest first), the newest accepted extended sequence number and the
accepted ones within the window (R150), the LC in which path 1 last gave packets and those it gave then (R151), the LC of the last
matching packet of each path (R152), the next entry of an ancillary store and the entries written (R148). -/
structure Rx where
  pics : List RxPic
  newest : Option Nat
  seen : List Nat
  second : Nat × List Nat
  last0 : Option Nat
  last1 : Option Nat
  anc : Nat
  deriving DecidableEq, Repr

/-- A receiver before its first packet. -/
def Rx.reset : Rx := { pics := [], newest := none, seen := [], second := (0, []), last0 := none, last1 := none, anc := 0 }

/-- A picture a layer shows: the receiver (0 to 31) or decode slot (0x100 + n) it comes from and its capture DT. -/
structure LayerPic where
  src : Nat
  cap : Rat
  deriving DecidableEq, Repr

/-- A layer beyond its registers (R173 to R176, R184, R188): the picture in use and the one used before (its read claims),
whether a held run is under way, the source lines judged in the picture, its lines held and transparent, the
scrolled crop origin, the pictures it has been static for, whether a swap or a committed change has come since the last canvas
picture, whether its surface is new in this one, whether it showed content in the one before, a load of the back surface with its
descriptor and the tick its copy completed, whether a surface was ever swapped in, the geometry of the last picture for its hint. -/
structure Layer where
  cur : Option LayerPic
  prev : Option LayerPic
  src : Nat
  holding : Bool
  judged : List Nat
  heldLines : List Nat
  clearLines : List Nat
  scrollX : Nat
  scrollY : Nat
  still : Nat
  touched : Bool
  newSurf : Bool
  showed : Bool
  load : Option (Ticket × Option Nat)
  swapped : Bool
  geo : List Int
  deriving DecidableEq, Repr

/-- A layer that was never enabled. -/
def Layer.reset : Layer :=
  { cur := none, prev := none, src := 0, holding := false, judged := [], heldLines := [], clearLines := [], scrollX := 0,
    scrollY := 0, still := 0, touched := false, newSurf := false, showed := false, load := none, swapped := false, geo := [] }


/-- The Bench of a slot (R184, R185): the layers of its run from the bottom up, the least and greatest of their Z values, whether its
surface is complete, from which tick, and the class of each 64 × 64 tile then, row by row (0 transparent, 1 mixed, 2 opaque). -/
structure Bench where
  layers : List Nat
  lo : Nat
  hi : Nat
  done : Option Nat
  tiles : List Nat
  deriving DecidableEq, Repr

/-- The compositor of a slot beyond its registers: its layers, a commit that waits for c_0 (the tick it was accepted in and
the CMP_COMMIT descriptors that complete then), the hints of the last picture, the LUTs loaded since the slot left IDLE (a mask,
R183), the on-chip tables by their number (R178; an unlisted coefficient set is the one of reset), the Bench. -/
structure Cmp where
  layers : Table Layer
  pendAt : Option Nat
  tickets : List Ticket
  hints : List Hint
  luts : Nat
  tables : Table (List Byte)
  bench : Option Bench
  deriving DecidableEq, Repr

/-- A compositor's slot at reset: every set holds the same filter (R178); no LUT loaded. -/
def Cmp.reset : Cmp :=
  { layers := [], pendAt := none, tickets := [], hints := [], luts := 0, tables := [], bench := none }

/-- A panel of a package (R191). -/
structure Panel where
  x : Nat
  y : Nat
  w : Nat
  h : Nat
  offset : Nat
  crc : Nat
  deriving DecidableEq, Repr

/-- A content package held for a slot (R191, R197): SEQ, validity in 2^-16 ns, panels, the part of the Safety Net area that
holds its bytes, the tick it was accepted in. -/
structure SafPkg where
  seq : Nat
  from_ : Int
  until_ : Int
  panels : List Panel
  part : Nat
  accepted : Nat
  deriving DecidableEq, Repr

/-- A policy package (R196): FAULT_ACTION, REQUIRE, MISMATCH_LIMIT, FAULT_COLOUR, card panels, whether a card failed
read-back (R201), whether a package is held at all (else the default policy). -/
structure SafPolicy where
  action : Nat
  require : Bool
  limit : Nat
  colour : Nat
  panels : List Panel
  cardBad : Bool
  held : Bool
  deriving DecidableEq, Repr

/-- The default policy (R196). -/
def SafPolicy.default : SafPolicy := { action := 0, require := false, limit := 8, colour := 0, panels := [], cardBad := false, held := false }

/-- A SAF_LOAD whose package waits for its checking (R196): the descriptor, the tick it started in, the length it gives, the bytes. -/
structure SafCheck where
  ticket : Ticket
  start : Nat
  len : Nat
  bytes : List Byte
  deriving DecidableEq, Repr

/-- A Safety Net object (R195 to R202): packages held, policy, the last SEQ accepted, packages being checked (oldest first),
whether read-back failed, the SEQ, state, blanking colour (plus 1) and panels of the last picture, consecutive mismatches and
matches (R206). -/
structure Saf where
  cur : Option SafPkg
  pend : Option SafPkg
  policy : SafPolicy
  lastSeq : Nat
  checking : List SafCheck
  bad : Bool
  shownSeq : Nat
  shownState : Nat
  shownBlank : Nat
  shownPanels : List Panel
  miss : Nat
  hits : Nat
  deriving DecidableEq, Repr

/-- A Safety Net object at reset. -/
def Saf.reset : Saf :=
  { cur := none, pend := none, policy := SafPolicy.default, lastSeq := 0, checking := [], bad := false,
    shownSeq := 0, shownState := 0, shownBlank := 0, shownPanels := [], miss := 0, hits := 0 }

/-- The ECHO under way on a lane (R336): the tile, echoes answered, retries of this one, the sum of round trips in 1/16 tick. -/
structure Echo where
  tile : Nat
  done : Nat
  tries : Nat
  sum : Nat
  deriving DecidableEq, Repr

/-- A lane beyond its registers (R314 to R338): whether DETECT has sensed the termination, READY of the partner and of the
device, whether a failed training waits in DOWN, whether slot lock was lost and is awaited, consecutive good headers (at
most 8), the results of the last headers (newest first, at most 64), training frames sent, whether the partner asked for
precoding, the neighbour's offer, TURN of each tile, the ECHO under way, the round trips summed per tile, credit left and
advertised by the neighbour (MIRROR, CONTROL), CONTROL messages held for credit, the next TAG, AKN_SENDs awaiting their
response with their TAGs, LANE_RETRAINs under way with the tick each was taken in. -/
structure Lane where
  sensed : Bool
  peerReady : Bool
  selfReady : Bool
  failed : Bool
  relock : Bool
  good : Nat
  heads : List Bool
  fseq : Nat
  precode : Bool
  offer : Option CapOffer
  turns : Table Nat
  echo : Option Echo
  trips : Table Nat
  mirror : Nat
  mirrorMax : Nat
  control : Nat
  controlMax : Nat
  held : List LinkMsg
  tag : Nat
  asked : List (Ticket × Nat)
  retrain : List (Ticket × Nat)
  deriving DecidableEq, Repr

/-- A lane that was never up. -/
def Lane.reset : Lane :=
  { sensed := false, peerReady := false, selfReady := false, failed := false, relock := false, good := 0, heads := [],
    fseq := 0, precode := false, offer := none, turns := [], echo := none, trips := [], mirror := 0, mirrorMax := 0,
    control := 0, controlMax := 0, held := [], tag := 0, asked := [], retrain := [] }

/-- The slot stream that an Aknis Link lane transmits (R326): the scrambler's register (the last 58 bits sent), the symbol sent
last (R310), the LC at which the stream began and the slots sent since. -/
structure Wire where
  reg : Nat
  last : Nat
  since : Nat
  count : Nat
  deriving DecidableEq, Repr

/-- A stream that has not begun; where one begins at reset, from zeros (DESIGN CHOICE, log entry 130). -/
def Wire.reset : Wire := { reg := 0, last := 0, since := 0, count := 0 }

/-- The load frame of a scan-out lane (R292 to R295): the picture and its presentation instant in 2^-16 ns, the lane lines
opened, the tile lines answered (tile, line), whether 0x6B01 and frame done were raised, whether blanking has begun, whether the
picture is static on the lane (R299). -/
structure LoadFrame where
  pic : Nat
  p : Rat
  opened : Nat
  answered : List (Nat × Nat)
  underrun : Bool
  late : List Nat
  done : Bool
  blank : Bool
  still : Bool
  deriving DecidableEq, Repr

/-- A scan-out lane beyond its registers: the APPLY instant of a timing that waits for its start of blanking (R303), the load
frame, whether the frame that a TRANSITION skips has begun, consecutive static pictures loaded and flipped (R300), whether a changed
LOAD_US keeps it waiting (R305). -/
structure Scn where
  pend : Option Int
  frame : Option LoadFrame
  skipped : Bool
  still : Nat
  blocked : Bool
  deriving DecidableEq, Repr

/-- A scan-out lane that never ran. -/
def Scn.reset : Scn := { pend := none, frame := none, skipped := false, still := 0, blocked := false }

/-- What the partner's last HELLO said (R426): PART, ROLE, Catcher state, firmware set, key digest, SEQ, compatible sets. -/
structure Partner where
  part : Nat
  role : Nat
  state : Nat
  set : Nat
  key : Nat
  seq : Nat
  sets : List Nat
  deriving DecidableEq, Repr

/-- A row of the Flyer that a Catcher holds (R434): its slices (subpicture, bytes), the SEQ of its ROW_END once received. -/
structure HeldRow where
  slot : Nat
  pic : Nat
  row : Nat
  slices : List (Nat × Nat)
  endSeq : Option Nat
  deriving DecidableEq, Repr

/-- A take-over (R441 to R443): the tick T, the descriptors that ordered it, whether it started from SYNCING, T_r once it
has come, rows sent from the mirror and rows spoiled at T_r. -/
structure Take where
  start : Nat
  tickets : List Ticket
  syncing : Bool
  ready : Option Nat
  sent : Nat
  spoiled : Nat
  deriving DecidableEq, Repr

/-- A descriptor the Flyer consumed (R448): its ring, the SUB consumer index after it, its opcode, the descriptor, and whether its
effect has come with a later record. -/
structure HeldDesc where
  rid : Nat
  cons : Nat
  opcode : Nat
  d : Desc
  shown : Bool
  deriving DecidableEq, Repr

/-- Trapeze beyond its registers. Flyer: the next SEQ, messages kept for re-sending (newest first), ROW_ENDs not yet
acknowledged (SEQ, slot, row order, tick sent), the lane to use next, the last picture with a row released uncovered per slot.
Catcher: the next SEQ awaited, SEQs received beyond it, SEQs asked for again, the tick of the last acknowledgement, whether
SYNC_END has come since the last SYNC_START, the last CKPT per slot, rows held, descriptors the Flyer consumed, the rings it
created, the lines whose Safety Net record came (slot, picture, row). Both: ring indices of the last CKPT that named each ring,
the partner while it is seen, a take-over, whether the pen-255 admin pair serves beside another (R447), the LC of the last PET, the
level of TRP_HB, the rotation of R450 (status of the last turn, rotations, the group under test, the next group), the failed conditions of
R427 as bits, DT of the last health update. -/
structure Trp where
  partner : Option Partner
  next : Nat
  sent : List (Nat × MirrorRec)
  rowEnds : List (Nat × Nat × Nat × Nat)
  lane : Nat
  ringPrev : Table (Nat × Nat)
  uncovered : Table Nat
  got : Nat
  ahead : List Nat
  asked : List Nat
  ackAt : Nat
  ended : Bool
  ckpts : Table (Nat × CkptIn)
  rows : List HeldRow
  descs : List HeldDesc
  rings : Table Ring
  lines : List (Nat × Nat × Nat)
  take : Option Take
  beside : Bool
  pet : Option Nat
  hb : Bool
  testStatus : Nat
  rotations : Nat
  turn : Option Nat
  turnNext : Nat
  fit : Nat
  updated : Nat × Nat
  deriving DecidableEq, Repr

/-- Trapeze at reset: not paired. The first SEQ is 1 (DESIGN CHOICE, log entry 64). -/
def Trp.reset : Trp :=
  { partner := none, next := 1, sent := [], rowEnds := [], lane := 0, ringPrev := [], uncovered := [], got := 1, ahead := [],
    asked := [], ackAt := 0, ended := false, ckpts := [], rows := [], descs := [], rings := [], lines := [], take := none,
    beside := false, pet := none, hb := false, testStatus := 0, rotations := 0, turn := none, turnNext := 0, fit := 0, updated := (0, 0) }


/-- An audio sample of an input channel (R356): its capture DT in 2^-16 ns, its value, the LC from which availability counts (R365). -/
structure AudSample where
  cap : Rat
  value : Int
  got : Nat
  deriving DecidableEq, Repr

/-- An audio input port beyond its registers (R357 to R360, R369, R370): consecutive valid frames before lock, whether the last frame of
a locked input had an invalid preamble, the LC of lock, whether its
mapping is decided, frames of its fade-in, the last samples A and B, the next grid index of each channel, the status and user
bits of the block so far (newest first: A status, B status, A user, B user) once a Z was seen, the last valid channel status
blocks A and B and user blocks A and B (24 B each), from which capture DT on its channels are silent (0), synchronous (1) or
asynchronous (2), newest first, the SEQ of the next capture block, and of the block under way the capture DT of its first frame, the
mask, the frames (oldest first), whether it holds ramp or zero samples. -/
structure AudIn where
  good : Nat
  bad : Bool
  lockAt : Nat
  decided : Bool
  fade : Nat
  last : Int × Int
  grid : Int × Int
  block : Option (List (Bool × Bool × Bool × Bool))
  status : List Byte
  user : List Byte
  kinds : List (Rat × Nat)
  seq : Nat
  start : Rat
  mask : Nat
  part : List (List Int)
  loss : Bool
  deriving DecidableEq, Repr

/-- An input that was never locked. -/
def AudIn.reset : AudIn :=
  { good := 0, bad := false, lockAt := 0, decided := false, fade := 0, last := (0, 0), grid := (0, 0), block := none,
    status := List.replicate 48 0, user := List.replicate 48 0, kinds := [], seq := 0, start := 0, mask := 0, part := [],
    loss := false }

/-- A change of an output channel (R367): of its port's start, stop, mute or unmute; of its route, first as a mute, then the
switch once it is silent, then the unmute. -/
inductive AudChange where
  | start | stop | mute | unmute
  | route (src sel us : Nat)
  | switch (src sel us : Nat)
  | uncut
  deriving DecidableEq, Repr

/-- An output channel beyond its route in force (R364 to R367): whether its port's commands have started and muted it, whether a
route change has muted it, whether its route's slot was lost, the change pending with its effective LC and the command it is
part of, its gain in samples of the 1 ms ramp and whether it ramps, its last released value, while samples are missing
the value the ramp began from and its samples so far, and the sample that its route gave last (none: the route is new). -/
structure AudCh where
  started : Bool
  muted : Bool
  cut : Bool
  broken : Bool
  pend : Option (AudChange × Nat × Option (Nat × Ticket))
  gain : Nat
  ramp : Bool
  last : Int
  miss : Option (Int × Nat)
  raw : Option Int
  deriving DecidableEq, Repr

/-- A channel at reset. -/
def AudCh.reset : AudCh :=
  { started := false, muted := false, cut := false, broken := false, pend := none, gain := 0, ramp := false, last := 0, miss := none, raw := none }

/-- An output port beyond its registers: the next frame or packet to release, the RTP sequence number, the template loaded (96 B,
none: the reset template) and the one that waits for a block start (R369), and how far an AES3 output's frames lie from the DT grid, in
2^-16 ns (R362, R363). -/
structure AudOut where
  index : Nat
  seq : Nat
  template : Option (List Byte)
  waiting : Option (List Byte)
  shift : Int
  deriving DecidableEq, Repr

/-- An output port at reset. -/
def AudOut.reset : AudOut := { index := 0, seq := 0, template := none, waiting := none, shift := 0 }

/-- Calliope beyond its registers: the samples of each input channel (newest first), input ports, output ports, output channels,
whether the MCLK ports run from AUD_MCLK_IN (R362, R363), the number of the next command. -/
structure Aud where
  samples : Table (List AudSample)
  ins : Table AudIn
  outs : Table AudOut
  chans : Table AudCh
  mclk : Bool
  cmd : Nat
  deriving DecidableEq, Repr

/-- Calliope at reset. -/
def Aud.reset : Aud := { samples := [], ins := [], outs := [], chans := [], mclk := false, cmd := 0 }


/-- A migration under way (R392): whether CE_LIMIT or command retries started it, the DMC_MIGRATE descriptors that did, and
the bytes copied in units of 1/1,600 B (RATE_MBPS units a tick), the LC at which it started. -/
structure Migration where
  failing : Bool
  tickets : List Ticket
  acc : Nat
  since : Nat
  deriving DecidableEq, Repr

/-- A run of 512 B blocks in compressed form (R398): the first block, how many, whose metadata it is: a given number of sectors (0
uncompressed), or that of a Face's write, a free value under a key. -/
structure BlockRun where
  first : Nat
  count : Nat
  given : Option Nat
  key : Nat
  deriving DecidableEq, Repr

/-- The DRAM controller beyond its registers (R375 to R396): populated ranks and trained ranks (masks), whether a layout was
committed, the physical rank that serves each position 8r + c under the full map, poisoned lines (device addresses of 64 B lines,
rising), the ticks of each rank's corrected errors in the last second, the migration, the delays and VREF of each lane by
80c + lane, the operation under way at each helper (whether it compares), the refresh multiplier of each rank, the metadata of the
blocks that are not stored uncompressed (R398). -/
structure Dram where
  populated : Nat
  trained : Nat
  formed : Bool
  serve : Table Nat
  poison : List Nat
  corrected : Table (List Nat)
  mig : Option Migration
  delays : Table (Nat × Nat × Nat)
  ops : Table Bool
  mult : Table Nat
  runs : List BlockRun
  deriving DecidableEq, Repr

/-- The DRAM controller at reset. -/
def Dram.reset : Dram :=
  { populated := 0, trained := 0, formed := false, serve := [], poison := [], corrected := [], mig := none, delays := [],
    ops := [], mult := [], runs := [] }


/-- The states of a Juggler task that is not FREE (R405), RUNNING with its engine. -/
inductive TaskState where
  | waiting
  | ready
  | running (engine : Nat)
  | faulted
  deriving DecidableEq, Repr

/-- A Juggler task (R404), with the flags passed to it at its last dispatch (R406). -/
structure Task where
  state : TaskState
  priority : Nat
  flags : Nat
  mask : Nat
  all : Bool
  affinity : Nat
  preemptible : Bool
  readyAt : Nat
  passed : Nat
  asked : Option (Nat × Nat)
  deriving DecidableEq, Repr

/-- A claim of a supervisor pair (R413): its source, its priority, when its handler's first instruction runs in fifths of a tick,
its level there once that has come (ACTIVE_AT_ENTRY). -/
structure Claim where
  src : Nat
  priority : Nat
  first : Nat
  level : Option Bool
  deriving DecidableEq, Repr

/-- Barker beyond its registers: the claims of each pair, innermost first; when the exit of a pair to its interrupted code ends,
in fifths of a tick; the software sources whose level is 1. -/
structure Brk where
  claims : Table (List Claim)
  exits : Table Nat
  soft : List Nat
  deriving DecidableEq, Repr

/-- A memory scan of a check unit (R422): its descriptor, start and length. -/
structure Scan where
  ticket : Ticket
  start : Nat
  len : Nat
  deriving DecidableEq, Repr

/-- A mode transition under way (R82 to R84): source and target, the descriptors that complete with it, the power domains
step 3 gated and the lanes it took down, the domains of step 4 not yet powered (ascending) and those powered, whether the device
returns to its source. -/
structure Trans where
  source : Nat
  target : Nat
  tickets : List Ticket
  off : List Nat
  lanes : List Nat
  waves : List Nat
  powered : List Nat
  back : Bool
  deriving DecidableEq, Repr

/-- A valid firmware image (R454, R455): TYPE, VERSION, its compatibility table (type, MIN, MAX), its partner table. -/
structure FwImage where
  kind : Nat
  version : Nat
  compat : List (Nat × Nat × Nat)
  partners : List Nat
  deriving DecidableEq, Repr

/-- A live update under way (R465, R466): TYPE, its image and descriptor, the groups, pairs, engines or DSPs still to come, the
first of them in progress. -/
structure Update where
  kind : Nat
  image : FwImage
  ticket : Ticket
  left : List Nat
  deriving DecidableEq, Repr

/-- Firmware beyond its registers (R454 to R467): images in force and pending by TYPE, the records of the configuration
image (R456; the key record's value is its 64 bytes), whether the rest of the supervisor image failed its digest (R461), GEN of the
bundle booted, the digest of the owner key, the flash write under way, the update under way. -/
structure Fw where
  images : Table FwImage
  pending : Table FwImage
  config : List (Nat × Nat)
  restBad : Bool
  gen : Nat
  owner : Option Nat
  flash : Option Ticket
  update : Option Update
  deriving DecidableEq, Repr

/-- Firmware before the boot. -/
def Fw.reset : Fw :=
  { images := [], pending := [], config := [], restBad := false, gen := 0, owner := none, flash := none, update := none }

/-- A temperature threshold (R483): consecutive rounds at or above it, consecutive rounds below θ − h, whether it is asserted. -/
structure Threshold where
  above : Nat
  below : Nat
  on : Bool
  deriving DecidableEq, Repr

/-- Housekeeping beyond its registers: the thresholds (0 warning, 1 to 5 throttle levels, 6 shutdown, 7 to 9 band edges), the
consecutive rounds each voltage channel is out of window, consecutive rounds with margin above 6 %, the voltage last confirmed
over AVSBus. -/
structure Thm where
  levels : Table Threshold
  volts : Table Nat
  roomy : Nat
  confirmed : Nat
  deriving DecidableEq, Repr

/-- Housekeeping at reset; the start voltage is 865 mV (R504). -/
def Thm.reset : Thm := { levels := [], volts := [], roomy := 0, confirmed := 865 }

/-- A mode request that is checking (R80, R81): who wrote it, TARGET, FORCE, the descriptor that made it, and the register word
before and as written. -/
structure ModeAsk where
  w : Writer
  target : Nat
  force : Bool
  ticket : Option Ticket
  old : Nat
  new : Nat
  deriving DecidableEq, Repr

/-- What holds the whole device: SYS_RST_N low, the power-on-reset detector, the strapped SMBus address, the tick at which a
PWR_RESET takes effect (R87), whether PHASE was ever STABLE (R93), whether the AUTOSTART slots had their START (R93), the
levels of FAULT_N and THERMTRIP_N (true: driven low), the mode requests of this cycle, oldest first (R80), the LC of the last
PERST_N low (R92), and the ring served last (R138). -/
structure Sys where
  rstLow : Bool
  porLow : Bool
  smbAddr : Nat
  resetAt : Option Nat
  stable : Bool
  started : Bool
  faultPin : Bool
  thermPin : Bool
  asked : List ModeAsk
  perst : Nat
  served : Nat
  deriving DecidableEq, Repr

/-- The device in reset, SYS_RST_N low, its rails up. -/
def Sys.reset : Sys :=
  { rstLow := true, porLow := false, smbAddr := 0, resetAt := none, stable := false, started := false, faultPin := false,
    thermPin := false, asked := [], perst := 0, served := 16383 }

/-- The state of the whole part. -/
structure State where
  /-- Every register field whose value differs from its reset value, by key (R11, R13). -/
  regs : Table Nat
  /-- The high words latched per function and 64-bit quantity (R12). -/
  latches : Table Nat
  /-- The bits set, and the counters counted, in this cycle, by field key (R13, R16). -/
  fresh : Table Nat
  /-- The local count (R39). -/
  lc : Nat
  /-- Ringmaster beyond its registers. -/
  tim : Tim
  /-- The egress side beyond its registers. -/
  egr : Egress
  /-- The bitstream slots beyond their registers (R99). -/
  slots : Table Slot
  /-- The receivers beyond their registers (R143 to R157). -/
  rx : Table Rx
  /-- The compositor configuration of each slot beyond its registers (chapter 06). -/
  cmps : Table Cmp
  /-- The Safety Net objects beyond their registers, 4 the key store (chapter 07). -/
  safs : Table Saf
  /-- The enrolled Safety Net key (R193). -/
  safKey : Option Nat
  /-- Whether SAF_FAULT_N is driven low (R202). -/
  safFaultPin : Bool
  /-- The lanes beyond their registers (chapter 12). -/
  lanes : Table Lane
  /-- The slot streams of the Aknis Link lanes (R326). -/
  wires : Table Wire
  /-- The scan-out lanes beyond their registers (chapter 11). -/
  scns : Table Scn
  /-- Trapeze beyond its registers (chapter 17). -/
  trp : Trp
  /-- Calliope beyond its registers (chapter 14). -/
  aud : Aud
  /-- The DRAM controller beyond its registers (chapter 15). -/
  dram : Dram
  /-- The Juggler tasks that are not FREE (R404). -/
  tasks : Table Task
  /-- Barker beyond its registers (R411 to R417). -/
  brk : Brk
  /-- The memory scans of the check units (R422). -/
  scans : Table Scan
  /-- The mode transition under way (R82). -/
  trans : Option Trans
  /-- Firmware beyond its registers (chapter 18). -/
  fw : Fw
  /-- Housekeeping beyond its registers (chapter 19). -/
  thm : Thm
  /-- Resets, straps and alarm pins. -/
  sys : Sys
  /-- The MIRROR records waiting to be sent (R431, R436). -/
  mirrorQ : List MirrorRec
  /-- The effort step each Face works at (R235). -/
  faceStep : Table Nat
  /-- The effort step before the last change of EFFORT, and the LC of that change (R235). -/
  effortWas : Nat × Nat
  /-- Per decode slot, the LC of the last change of its receiver's selection list and the list before it (R161). -/
  selWas : Table (Nat × List Nat)
  /-- Slice engines reserved as stand-ins by an update (R466). -/
  standIns : List Nat
  /-- The functions that are or have been open (R114, R141). -/
  fns : Table Fn
  /-- The VF Enable bit of the PF's SR-IOV capability, as last seen (R139, R141). -/
  vfEnable : Bool
  /-- The rings that are not DISABLED (R119). -/
  rings : Table Ring
  /-- The MSI-X vectors' mask bits; an unlisted vector is masked (PRESUMED, log entry 5). -/
  masked : Table Bool
  /-- The MSI-X pending bits (R140). -/
  pba : Table Bool
  /-- LC at which a ring's oldest unsignalled entry was written (R140). -/
  unsigSince : Table Nat
  /-- The Ledger (R468). -/
  ledger : Ledger
  /-- LC at which a rate-limited event was last raised, by code and index. -/
  limits : Table Nat
  /-- Device DRAM, one byte per entry; an unlisted address reads 0 (R382). -/
  mem : List Host.Cell
  /-- The MODEL's own counter of free values drawn so far. -/
  free : Nat
  /-- The MODEL's own record of what the block sent, newest first, each with its LC. -/
  out : List (Nat × Output)
  /-- The commands waiting, first in, first out. -/
  pending : List Instr
  deriving DecidableEq, Repr

/-- The state right after reset (R39, R44, R76 and each field's own rule): the registers at their reset values, PHASE
BOOT, nothing enabled, nothing queued. Values the spec does not give are named in the assumption log. -/
def State.reset : State :=
  { regs := [],
    latches := [],
    fresh := [],
    lc := 0,
    tim := Tim.reset,
    egr := { ports := [], queues := [], meters := [], sent := [], released := [] },
    slots := [],
    rx := [],
    cmps := [],
    safs := [],
    safKey := none,
    safFaultPin := false,
    lanes := [],
    wires := [],
    scns := [],
    trp := Trp.reset,
    aud := Aud.reset,
    dram := Dram.reset,
    tasks := [],
    brk := { claims := [], exits := [], soft := [] },
    scans := [],
    trans := none,
    fw := Fw.reset,
    thm := Thm.reset,
    sys := Sys.reset,
    mirrorQ := [],
    faceStep := [],
    effortWas := (0, 0),
    selWas := [],
    standIns := [],
    fns := [],
    vfEnable := false,
    rings := [],
    masked := [],
    pba := [],
    unsigSince := [],
    ledger := { intake := [], buffer := [], dram := [], placed := 0, chain := 0xFFFFFFFF },
    limits := [],
    mem := [],
    free := 0,
    out := [],
    pending := [] }

end Sys2Proof.Machine
end

