-- ==== Sys2Proof/Machine/Ops.lean ====
section
/-! DEFINITION. The named operations over the state: register fields, counters, device memory, time, events, Barker
latches, the Ledger, rings and completions, interrupts, launch queues. Every meaning is written over these. -/

namespace Sys2Proof.Machine

/-! ## Register fields -/

/-- The key of a field in the register store: its number lowest, so that two names never share a key, then which copy. -/
def fieldKey (f : Field) : Nat := f.id % 1024 + 1024 * (f.lsb + 32 * f.off + 2 ^ 34 * f.fn + 2 ^ 40 * f.bank)

/-- The offset, the lowest bit, the function and the bank of the field that a key stands for. -/
def keyOff (k : Nat) : Nat := k / 1024 % 2 ^ 34 / 32
def keyLsb (k : Nat) : Nat := k / 1024 % 32
def keyFn (k : Nat) : Nat := k / 2 ^ 44 % 64
def keyBank (k : Nat) : Nat := k / 2 ^ 50

/-- The width of a field in bits. -/
def fieldWidth (f : Field) : Nat := f.msb + 1 - f.lsb

/-- The value of a field. -/
def State.get (s : State) (f : Field) : Nat := Table.getD s.regs (fieldKey f) f.reset

/-- Whether a one-bit field is 1. -/
def State.on (s : State) (f : Field) : Bool := s.get f != 0

/-- Write a field, cut to its width; a field at its reset value is not listed. -/
def State.set (s : State) (f : Field) (v : Nat) : State :=
  { s with regs := if v % 2 ^ fieldWidth f = f.reset then Table.del s.regs (fieldKey f)
                   else Table.put s.regs (fieldKey f) (v % 2 ^ fieldWidth f) }

/-- Write several fields, in order. -/
def State.setAll (s : State) : List (Field × Nat) → State
  | [] => s
  | (f, v) :: l => (s.set f v).setAll l

/-- Note the bits of a field that the block set, or the counter that it counted in, in this cycle (R13, R16). -/
def State.freshen (s : State) (f : Field) (bits : Nat) : State :=
  { s with fresh := Table.put s.fresh (fieldKey f) (Table.getD s.fresh (fieldKey f) 0 ||| bits) }

/-- The bits of a field that were set in this cycle; 1 for a counter that counted. -/
def State.freshBits (s : State) (f : Field) : Nat := Table.getD s.fresh (fieldKey f) 0

/-- Set bits of a W1C field: a write of 1 in the same cycle leaves them 1 (R13). -/
def State.flag (s : State) (f : Field) (bits : Nat) : State := (s.set f (s.get f ||| bits)).freshen f bits

/-- The clear control of counters: each reads 0, or 1 when an event fell in the same cycle (R16). -/
def State.clear (s : State) : List Field → State
  | [] => s
  | f :: l => (s.set f (s.freshBits f)).clear l

/-- Return fields to their reset values. -/
def State.resetFields (s : State) : List Field → State
  | [] => s
  | f :: l => (s.set f f.reset).resetFields l

/-- The all-ones value of a field. -/
def fieldMax (f : Field) : Nat := 2 ^ fieldWidth f - 1

/-- Count `n` events in a counter, which saturates at its all-ones value (R16). -/
def State.count (s : State) (f : Field) (n : Nat) : State :=
  if n = 0 then s else (s.set f (min (s.get f + n) (fieldMax f))).freshen f 1

/-- Count one event. -/
def State.bump (s : State) (f : Field) : State := s.count f 1

/-- Raise a high-water mark. -/
def State.setMax (s : State) (f : Field) (v : Nat) : State := s.set f (max (s.get f) (min v (fieldMax f)))

/-- A 64-bit counter in two words. -/
def State.get64 (s : State) (lo hi : Field) : Nat := s.get lo + 2 ^ 32 * s.get hi

/-- Write a 64-bit quantity in two words. -/
def State.set64 (s : State) (lo hi : Field) (v : Nat) : State := (s.set lo v).set hi (v / 2 ^ 32)

/-- Count in a 64-bit counter, saturating (R16). -/
def State.count64 (s : State) (lo hi : Field) (n : Nat) : State :=
  if n = 0 then s else (s.set64 lo hi (min (s.get64 lo hi + n) (2 ^ 64 - 1))).freshen lo 1

/-- The same field in another bank: 0 as software wrote it, 1 in force, 2 waiting. -/
def bank (b : Nat) (f : Field) : Field := { f with bank := b }

/-- Copy fields from one bank to another. -/
def State.copyBank (s : State) (src dst : Nat) : List Field → State
  | [] => s
  | f :: l => (s.set (bank dst f) (s.get (bank src f))).copyBank src dst l

/-- The value of a register word: its fields in place, reserved bits zero (R13). -/
def State.word (s : State) : List Field → Nat
  | [] => 0
  | f :: l => s.get f * 2 ^ f.lsb + s.word l

/-- Remove from the store every register field of some blocks: they return to their reset values. -/
def State.resetBlock (s : State) (blocks : List Nat) : State :=
  { s with regs := s.regs.filter (fun e => !(blocks.contains (keyOff e.1 / 2 ^ 18))) }

/-! ## Free values and outputs -/

/-- Draw a fresh free number: the counter of draws advances and the number stays unknown. -/
def State.draw (s : State) : Nat × State := (Config.free s.free, { s with free := s.free + 1 })

/-- Send something to the outside, stamped with the local count. -/
def State.emit (s : State) (o : Output) : State := { s with out := (s.lc, o) :: s.out }

/-- Send several things, in order. -/
def State.emitAll (s : State) : List Output → State
  | [] => s
  | o :: l => (s.emit o).emitAll l

/-! ## Device memory -/

/-- What an address of device memory that nothing has written reads as: the fill of R382 leaves zeros. -/
def Memory.unlisted : Byte := 0#8

/-- The canonical form of device memory: addresses strictly rising, no entry equal to what an unlisted address reads
as. -/
abbrev Memory.wf (m : List Host.Cell) : Prop :=
  m.Pairwise (fun a b => a.1 < b.1) ∧ ∀ c ∈ m, c.2 ≠ Memory.unlisted

/-- Read one byte. -/
def Memory.read : List Host.Cell → Nat → Byte
  | [], _ => Memory.unlisted
  | (k, v) :: t, a => if a = k then v else Memory.read t a

/-- Remove an address. -/
def Memory.erase : List Host.Cell → Nat → List Host.Cell
  | [], _ => []
  | (k, v) :: t, a => if a = k then Memory.erase t a else (k, v) :: Memory.erase t a

/-- Put a byte at an address, keeping addresses rising. -/
def Memory.insert : List Host.Cell → Nat → Byte → List Host.Cell
  | [], a, x => [(a, x)]
  | (k, v) :: t, a, x =>
    if a < k then (a, x) :: (k, v) :: t
    else if a = k then (a, x) :: t
    else (k, v) :: Memory.insert t a x

/-- Write one byte, keeping the canonical form. -/
def Memory.write (m : List Host.Cell) (a : Nat) (x : Byte) : List Host.Cell :=
  if x = Memory.unlisted then Memory.erase m a else Memory.insert m a x

/-- Write bytes at rising addresses. -/
def Memory.writeAll : List Host.Cell → Nat → List Byte → List Host.Cell
  | m, _, [] => m
  | m, a, x :: l => Memory.writeAll (Memory.write m a x) (a + 1) l

/-- Read `n` bytes at rising addresses. -/
def Memory.readAll (m : List Host.Cell) : Nat → Nat → List Byte
  | _, 0 => []
  | a, n + 1 => Memory.read m a :: Memory.readAll m (a + 1) n

/-- What stays of a run of blocks when the blocks from lo up to hi are written anew. -/
def BlockRun.without (r : BlockRun) (lo hi : Nat) : List BlockRun :=
  ([(r.first, min (r.first + r.count) lo), (max r.first hi, r.first + r.count)].filter (fun e => decide (e.1 < e.2))).map
    (fun e => { r with first := e.1, count := e.2 - e.1 })

/-- The runs after a range of bytes is written uncompressed (R398). -/
def runsWithout (l : List BlockRun) (a len : Nat) : List BlockRun :=
  if len = 0 then l else l.flatMap (fun r => r.without (a / 512) ((a + len - 1) / 512 + 1))

/-- Write bytes of device memory, their blocks uncompressed (R398). A poisoned line that is written whole is poisoned no more (R388). -/
def State.store (s : State) (a : Nat) (l : List Byte) : State :=
  { s with mem := Memory.writeAll s.mem a l,
           dram := { s.dram with poison := s.dram.poison.filter (fun p => !(decide (a ≤ p ∧ p + 64 ≤ a + l.length))),
                                 runs := runsWithout s.dram.runs a l.length } }

/-- The 4-bit metadata of the block of an address (R398): 1 to 7 sectors of 64 B, or 0 for uncompressed. -/
def State.blockMeta (s : State) (a : Nat) : Nat :=
  match s.dram.runs.find? (fun r => decide (r.first ≤ a / 512 ∧ a / 512 < r.first + r.count)) with
  | some r => r.given.getD (Config.sectors r.key (a / 512)) % 8
  | none => 0

/-- The sectors of 64 B that hold the block of an address. -/
def State.blockSectors (s : State) (a : Nat) : Nat := if s.blockMeta a = 0 then 8 else s.blockMeta a

/-- Blocks take new metadata: those from an address on, over some bytes. -/
def State.putRun (s : State) (a len : Nat) (given : Option Nat) : State :=
  let r : BlockRun := { first := a / 512, count := (a % 512 + len + 511) / 512, given := given, key := s.free }
  { s with free := s.free + 1, dram := { s.dram with runs := r :: runsWithout s.dram.runs a len } }

/-- Whether a range of bytes reads a poisoned line (R388). -/
def State.poisoned (s : State) (a len : Nat) : Bool := s.dram.poison.any (fun p => decide (p < a + len ∧ a < p + 64))

/-! ## Time -/

/-- One tick in units of 2^-16 ns: 0.625 ns (R41). -/
def tickUnits : Nat := 40960

/-- Ticks in a microsecond and in a second (R40). -/
def ticksPerUs : Nat := 1600
def ticksPerSec : Nat := 1600000000

/-- One nanosecond and one second in units of 2^-16 ns. -/
def nsUnits : Nat := 65536
def secUnits : Nat := 65536000000000

/-- DT of a mapping at LC k, plus sixteenths of a tick, rounded toward minus infinity to 2^-16 ns (R41). -/
def Mapping.at16 (m : Mapping) (k sub : Nat) : Int :=
  m.dt + ((((k : Int) - m.lc) * 16 + sub) * 2560 * (2 ^ 40 + m.rate)) / 2 ^ 40

/-- DT of a mapping at LC k (R41). -/
def Mapping.at (m : Mapping) (k : Nat) : Int := m.at16 k 0

/-- Re-anchor a mapping at tick u and give it a new rate (R42). -/
def Mapping.reanchor (m : Mapping) (u : Nat) (rate : Int) : Mapping := { dt := m.at u, lc := u, rate := rate }

/-- Step a mapping's DT by an offset at tick u (R42). -/
def Mapping.shift (m : Mapping) (by' : Int) : Mapping := { m with dt := m.dt + by' }

/-- A domain's state: 0 primary, 1 secondary. -/
def State.domain (s : State) (d : Nat) : Domain := if d = 0 then s.tim.dom0 else s.tim.dom1

/-- Write a domain's state. -/
def State.setDomain (s : State) (d : Nat) (x : Domain) : State :=
  if d = 0 then { s with tim := { s.tim with dom0 := x } } else { s with tim := { s.tim with dom1 := x } }

/-- Whether a domain is enabled. -/
def State.domEnabled (s : State) (d : Nat) : Bool := s.on (Reg.TIM_DOM_ENABLE d)

/-- The active domain: 0 or 1 (R44). -/
def State.activeDom (s : State) : Nat := s.get Reg.TIM_CTRL_ACTIVE

/-- DT of a domain now; a disabled domain reads as zero (R46). -/
def State.domDt (s : State) (d : Nat) : Int := if s.domEnabled d then (s.domain d).map.at s.lc else 0

/-- The mapping the active DT follows now: the slewing mapping while one runs (R56), else the active domain's own. -/
def State.activeMap (s : State) : Mapping := s.tim.slew.getD (s.domain s.activeDom).map

/-- The active DT now, in 2^-16 ns; zero while the active domain is disabled (R46). -/
def State.activeDt (s : State) : Int := if s.domEnabled s.activeDom then s.activeMap.at s.lc else 0

/-- The seconds of a DT. -/
def dtSec (t : Int) : Nat := (t / secUnits).toNat

/-- The nanoseconds of a DT. -/
def dtNs (t : Int) : Nat := (t % secUnits / nsUnits).toNat

/-- The fraction of a nanosecond of a DT, in 2^-16 ns. -/
def dtFrac (t : Int) : Nat := (t % nsUnits).toNat

/-- A DT from seconds, nanoseconds and fraction. -/
def dtOf (sec ns frac : Nat) : Int := (sec : Int) * secUnits + (ns : Int) * nsUnits + frac

/-- Seconds [31:0] of the active DT now, as records carry them. -/
def State.dtSec32 (s : State) : Nat := dtSec s.activeDt % 2 ^ 32

/-- Nanoseconds of the active DT now. -/
def State.dtNsNow (s : State) : Nat := dtNs s.activeDt

/-- The domain a launch reference names: 0x1 the active one, 0x2 primary, 0x3 secondary (R64, R66). -/
def State.refDom (s : State) (ref : Nat) : Nat := if ref = 2 then 0 else if ref = 3 then 1 else s.activeDom

/-- The mapping a launch reference follows: REF 0x1 follows the active DT, slewing included (R66, R69). -/
def State.refMap (s : State) (ref : Nat) : Mapping :=
  if ref = 1 then s.activeMap else (s.domain (s.refDom ref)).map

/-- Whether an instant of a reference has come: its tick k, with DT(k) <= x < DT(k+1) (R68), is at or before now. -/
def State.due (s : State) (ref : Nat) (x : Int) : Bool :=
  if ref = 0 then decide (x ≤ s.lc) else decide (x < (s.refMap ref).at (s.lc + 1))

/-- Whether an instant's tick lies before now, so that a launch at it fires late (R71). -/
def State.past (s : State) (ref : Nat) (x : Int) : Bool :=
  if ref = 0 then decide (x < s.lc) else decide (x < (s.refMap ref).at s.lc)

/-! ## The mode and the service floor -/

/-- PHASE values of PWR_MODE_STATUS. -/
def phaseStable : Nat := 0
def phaseBoot : Nat := 1
def phaseBootWait : Nat := 2
def phaseTraining : Nat := 3
def phaseDraining : Nat := 4
def phasePowering : Nat := 5
def phaseLoading : Nat := 6
def phaseTakeover : Nat := 7
def phaseHalted : Nat := 15

/-- The phase shown. -/
def State.phase (s : State) : Nat := s.get Reg.PWR_MODE_STATUS_PHASE

/-- Whether the device is HALTED (R98). -/
def State.halted (s : State) : Bool := s.phase == phaseHalted

/-- The mode in force (R76): 0 SERVICE, 1 HEAD, 2 CLUSTER, 3 RELAY, 4 BRIDGE, 5 CATCHER. -/
def State.mode (s : State) : Nat := s.get Reg.PWR_MODE_STATUS_CUR_MODE

/-- STATE of a slot (R100): 0 IDLE, 1 STOPPED, 2 STARTING, 3 RUNNING, 4 STOPPING, 5 FAULT. -/
def State.slotState (s : State) (n : Nat) : Nat := s.get (Reg.ENC_BS_RUN_STATE n)
def slotIdle : Nat := 0
def slotStopped : Nat := 1
def slotStarting : Nat := 2
def slotRunning : Nat := 3
def slotStopping : Nat := 4
def slotFault : Nat := 5

/-- Whether a slot is in STARTING, RUNNING or STOPPING. -/
def State.slotBusy (s : State) (n : Nat) : Bool := decide (2 ≤ s.slotState n ∧ s.slotState n ≤ 4)

/-! ## The Ledger -/

/-- The origin code of a writer (R469). -/
def originOf : Writer → Nat
  | .host f => if f.val = 0 then 0 else 1
  | .super _ => 2
  | .debug => 4

/-- The origin index of a writer (R469). -/
def originIndexOf : Writer → Nat
  | .host f => f.val
  | .super p => p.val
  | .debug => 0

/-- The function a writer acts as in BAR0: firmware and the debug window reach the PF's registers. -/
def viewOf : Writer → Nat
  | .host f => f.val
  | _ => 0

/-- Origin hardware (R469). -/
def originHw : Nat := 0xA

/-- An entry stamped with the tick it is offered in and its SEQ. -/
def State.ledgerEntry (s : State) (origin oidx kind : Nat) (hash : Bool) (code : Code) (object old new : Nat) : LedgerEntry :=
  { dtSec := s.dtSec32, dtNs := s.dtNsNow, origin := origin, kind := kind, hash := hash, originIndex := oidx,
    code := code, object := object, old := old, new := new, seq := s.get Reg.LDG_NEXT_SEQ, tick := s.lc }

/-! ## Objects and their owners -/

/-- The OBJECT word of a descriptor or event (R120): type in [31:28], index in [27:0]. -/
def objWord (type index : Nat) : Nat := type * 2 ^ 28 + index

/-- The device object. -/
def objDevice : Nat := 0

/-- The object of a bitstream slot, a layer, a lane, an egress queue, an audio port (R120). -/
def objRing (r : Nat) : Nat := objWord 1 r
def objSlot (n : Nat) : Nat := objWord 2 n
def objLayer (n l : Nat) : Nat := objWord 3 (16 * n + l)
def objSafety (n : Nat) : Nat := objWord 4 n
def objLane (i : Nat) : Nat := objWord 5 i
def objQueue (q : Nat) : Nat := objWord 6 q
def objAudio (k : Nat) : Nat := objWord 7 k

/-- The function that owns a bitstream slot (R111). -/
def State.slotOwner (s : State) (n : Nat) : Nat :=
  if n = 0 then s.get Reg.HIF_SLOT_OWNER_SLOT0 else if n = 1 then s.get Reg.HIF_SLOT_OWNER_SLOT1
  else if n = 2 then s.get Reg.HIF_SLOT_OWNER_SLOT2 else s.get Reg.HIF_SLOT_OWNER_SLOT3

/-- Whether function `f` owns pen `p` (R109). -/
def State.ownsPen (s : State) (f p : Nat) : Bool :=
  s.on (Reg.HIF_PEN_OWNER_ASSIGNED p) && s.get (Reg.HIF_PEN_OWNER_FUNCTION p) == f

/-- Whether function `f` owns an object of the descriptor's form (R108 to R112, R195). Every function may name the
device object. -/
def State.ownsObject (s : State) (f type index : Nat) : Bool :=
  match type with
  | 0 => true
  | 1 => s.ownsPen f (index / 64)
  | 2 => s.slotOwner index == f
  | 3 => s.slotOwner (index / 16) == f
  | 4 => bit (s.get Reg.SAF_FN_MASK) f
  | _ => f == 0

/-- Whether events on an object go to function `f` (R130): as ownership, and device-wide events to the PF. -/
def State.receives (s : State) (f obj : Nat) : Bool :=
  if obj / 2 ^ 28 = 0 then f == 0 else s.ownsObject f (obj / 2 ^ 28) (obj % 2 ^ 28)

/-! ## Rings: indices, entries and interrupts -/

/-- The functions table's entry of a function. -/
def State.fn (s : State) (f : Nat) : Fn := Table.getD s.fns f ⟨0, 0⟩

/-- The negotiated minor of a function (R114). -/
def State.minor (s : State) (f : Nat) : Nat := s.get (Reg.HIF_FN_STATUS_ABI_MINOR f)

/-- The context of a ring, none while it is DISABLED (R119). -/
def State.ring (s : State) (r : Nat) : Option Ring := Table.find s.rings r

/-- Write a ring's context. -/
def State.putRing (s : State) (r : Nat) (x : Ring) : State := { s with rings := Table.put s.rings r x }

/-- Update a ring's context when it has one. -/
def State.updRing (s : State) (r : Nat) (f : Ring → Ring) : State :=
  match s.ring r with
  | none => s
  | some x => s.putRing r (f x)

/-- The vectors a function has (R139): 64 for the PF, VEC_COUNT for a VF. -/
def State.vecCount (s : State) (f : Nat) : Nat := if f = 0 then 64 else s.get (Reg.HIF_FN_VEC_COUNT f)

/-- The global vector of a function's local vector (R139). -/
def State.globalVec (s : State) (f v : Nat) : Nat := if f = 0 then v else s.get (Reg.HIF_FN_VEC_BASE f) + v

/-- Whether a vector is masked. -/
def State.vecMasked (s : State) (v : Nat) : Bool := Table.getD s.masked v true

/-- Send the MSI-X message of a global vector, or set its PBA bit while it is masked (R140). -/
def State.signal (s : State) (v : Nat) : State :=
  if s.vecMasked v then { s with pba := Table.put s.pba v true } else s.emit (.msix v)

/-- The PHASE bit of the entry with producer index `x` (R118). -/
def ringPhase (log2 x : Nat) : Bool := x / 2 ^ log2 % 2 == 0

/-- Account one written entry of a ring and signal it as R140 states. -/
def State.moderate (s : State) (r : Nat) : State :=
  match s.ring r with
  | none => s
  | some x =>
    match x.vector with
    | none => s
    | some v =>
      if x.modCount = 0 ∨ x.modUs = 0 ∨ x.modCount ≤ x.unsig + 1 then
        (({ s with unsigSince := Table.del s.unsigSince r } : State).putRing r { x with unsig := 0 }).signal (s.globalVec x.fn v)
      else
        let s1 := s.putRing r { x with unsig := x.unsig + 1 }
        if x.unsig = 0 then { s1 with unsigSince := Table.put s1.unsigSince r s.lc } else s1

/-- The size of a ring's entries in bytes (the ring table of chapter 04). -/
def entrySize (k : RingKind) : Nat := if k = .sub then 64 else 32

/-- The host address of the entry that an index addresses (R117). -/
def Ring.entryAt (x : Ring) (i : Nat) : Nat := x.base + entrySize x.kind * (i % 2 ^ x.log2)

/-- Entries a ring holds (R117). -/
def Ring.count (x : Ring) : Nat := sub32 x.prod x.cons

/-- Whether a device-produced ring has no free entry, counting completions promised (R126, R131). -/
def Ring.full (x : Ring) : Bool := decide (2 ^ x.log2 ≤ x.count + x.reserved)

/-! ## Events -/

/-- Write an event record into an EVT ring; an event a full ring cannot take is counted and remembered (R131). -/
def State.pushEvt (s : State) (r : Nat) (code : Code) (obj : Nat) (d : Detail) : State :=
  match s.ring r with
  | none => s
  | some x =>
    if 2 ^ x.log2 ≤ x.count then
      (s.putRing r { x with lost := x.lost + 1 }).bump (Reg.HIF_FN_EVT_LOST_CNT x.fn)
    else
      ((s.putRing r { x with prod := (x.prod + 1) % 2 ^ 32 }).emit
        (.evt r x.prod { entry := x.entryAt x.prod, code := code, phase := ringPhase x.log2 x.prod, object := obj, dtSec := s.dtSec32, dtNs := s.dtNsNow, detail := d })).moderate r

/-- The EVT rings that take an event (R130): ACTIVE, of a function the test names, admitting the code's class, or of a
function that negotiated minor 0. -/
def State.evtRings (s : State) (dest : Nat → Bool) (code : Code) : List Nat :=
  Table.keysWhere s.rings (fun _ x => x.kind == .evt && x.state == .active && dest x.fn
    && (s.minor x.fn == 0 || bit x.mask (code / 2 ^ 12)))

/-- Deliver an event to a list of EVT rings, in ring order. -/
def State.pushEvts (s : State) (code : Code) (obj : Nat) (d : Detail) : List Nat → State
  | [] => s
  | r :: l => (s.pushEvt r code obj d).pushEvts code obj d l

/-- The codes raised as events, unit by unit, in the order of each unit's code table, with the unit's first Barker
source (R411; which codes count as events is DEDUCED, log entry 8). -/
def barkerUnits : List (Nat × List Code) :=
  [(0, [0x1206, 0x4201, 0x5001, 0x5201, 0x5202, 0x5203, 0x5204]),
   (32, [0x0191, 0x0192, 0x4191, 0xA191, 0xA192, 0xA193, 0xA194, 0xA195, 0xA196, 0xA197]),
   (64, [0x0402, 0x3410, 0x3411, 0x3412, 0x3420, 0x6402]),
   (128, [0x0501, 0x4501, 0x6501, 0x6502, 0x6503, 0x6504]),
   (192, [0x6601, 0x6602, 0x0702, 0x8710, 0x8711, 0x8712, 0x8713]),
   (320, [0x0C01, 0x4C01, 0x4C02, 0x5C01, 0x6C01, 0x6C02, 0x9C01, 0x9C02]),
   (384, [0x0D01, 0x5D01, 0x6D01, 0x6D02, 0x6D03]),
   (448, [0x0E01, 0x0E02, 0x0E03, 0x5E01, 0x6E01, 0x6E02, 0x6E03, 0x6E04]),
   (512, [0x0802, 0xA801, 0x6901, 0x6902, 0x0A01, 0x0A02, 0x6A01, 0x6A02, 0x6A03, 0x6A04, 0x6A05, 0x6A06, 0x6A07, 0x6A08, 0x6A09]),
   (576, [0x0F01, 0x0F02, 0x5F01, 0x7F01, 0x7F02, 0x7F03, 0x7F04, 0x7F05, 0x7F06, 0x7F07, 0xAF01]),
   (608, [0x4161]),
   (624, [0x0171, 0x0172, 0x4171, 0x9171, 0xB171, 0xB172, 0xB173, 0xB174, 0xB175, 0xB176, 0xB177]),
   (656, [0x0181, 0x2183, 0x7181])]

/-- The position of a code in a list. -/
def codeIndex (c : Code) : List Code → Nat → Option Nat
  | [], _ => none
  | x :: l, i => if x = c then some i else codeIndex c l (i + 1)

/-- The Barker source a code sets, if any (R411). -/
def barkerSource (c : Code) : List (Nat × List Code) → Option Nat
  | [] => none
  | (b, l) :: t => match codeIndex c l 0 with
    | some i => some (b + i)
    | none => barkerSource c t

/-- Set the latch of a Barker source (BRK_LATCH). -/
def State.latch (s : State) (n : Nat) : State :=
  s.flag (Reg.BRK_LATCH (n / 32)) (2 ^ (n % 32))

/-- Set the latch of the source a code carries. -/
def State.latchCode (s : State) (c : Code) : State :=
  match barkerSource c barkerUnits with
  | none => s
  | some n => s.latch n

/-- Raise an event on an object: to every EVT ring of its owner that admits it (R130), and to its Barker source (R411). -/
def State.raise (s : State) (code : Code) (obj : Nat) (d : Detail) : State :=
  (s.pushEvts code obj d (s.evtRings (fun f => s.receives f obj) code)).latchCode code

/-- Raise a device-wide event to the EVT rings of one function: the doorbell events of R137. -/
def State.raiseTo (s : State) (f : Nat) (code : Code) (d : Detail) : State :=
  (s.pushEvts code objDevice d (s.evtRings (fun g => g == f) code)).latchCode code

/-- Whether a rate-limited event may be raised again: not within one second of the last one of its code and index. -/
def State.limitOpen (s : State) (code : Code) (idx : Nat) : Bool :=
  match Table.find s.limits (code * 2 ^ 16 + idx) with
  | none => true
  | some t => decide (t + ticksPerSec ≤ s.lc)

/-- Note that a rate-limited event is raised now. -/
def State.limitNote (s : State) (code : Code) (idx : Nat) : State :=
  { s with limits := Table.put s.limits (code * 2 ^ 16 + idx) s.lc }

/-- Raise an event at most once per index in any 1 s. -/
def State.raiseLimited (s : State) (code : Code) (idx obj : Nat) (d : Detail) : State :=
  if s.limitOpen code idx then (s.limitNote code idx).raise code obj d else s

/-! ## MIRROR records -/

/-- Whether the device sends MIRROR records (R426, R428): a paired Flyer whose partner is seen and is no Flyer. -/
def State.flying (s : State) : Bool :=
  s.on Reg.TRP_CTRL_ENABLE && s.get Reg.TRP_STATUS_ROLE == 1 &&
    (match s.trp.partner with | none => false | some p => p.role != 1)

/-- Put a MIRROR record in the backlog (R431, R436). -/
def State.mirror (s : State) (r : MirrorRec) : State := if s.flying then { s with mirrorQ := s.mirrorQ ++ [r] } else s

/-- Put a record that only link version 3 carries in the backlog (R433, R452): a PN2408 partner gets none. -/
def State.mirror3 (s : State) (r : MirrorRec) : State :=
  match s.trp.partner with
  | none => s
  | some p => if p.part = 0x4816 then s.mirror r else s

/-- Cut n bytes into pieces of at most `lim`, with their offsets. -/
def cuts (lim : Nat) : Nat → Nat → Nat → List (Nat × Nat)
  | 0, _, _ => []
  | k + 1, off, n => if n = 0 then [] else (off, min n lim) :: cuts lim k (off + min n lim) (n - min n lim)

/-- Send data in DRAM as SURF records, each with a payload of at most 4,080 B (R428, R431). -/
def State.mirrorSurf (s : State) (addr : Nat) (data : List Byte) : State :=
  (cuts 4072 data.length 0 data.length).foldl (fun (t : State) c => t.mirror (.surf (addr + c.1) ((data.drop c.1).take c.2) false)) s

/-- The blocks whose changes are not mirrored (R428): TRP_, PWR_, THM_, FW_, LDG_, DMC_. -/
def unmirroredBlocks : List Nat := [22, 1, 2, 3, 4, 9]

/-- Whether an accepted change at a BAR0 offset is mirrored (R428): not one of those blocks, nor LANE_ and AKN_ of a MIRROR lane,
nor the open state of a function. -/
def State.mirrored (s : State) (off : Nat) : Bool :=
  !(unmirroredBlocks.contains (off / 0x40000)) && off != 0x10 &&
  !(off / 0x40000 == 10 && decide (0x1000 ≤ off % 0x40000) && bit (s.get Reg.TRP_CTRL_MIRROR_LANES) (off % 0x40000 / 0x100 - 16)) &&
  !(off / 0x40000 == 11 && decide (0x1000 ≤ off % 0x40000) && bit (s.get Reg.TRP_CTRL_MIRROR_LANES) (off % 0x40000 / 0x200 - 8))

/-- Mirror a change of configuration (R428). -/
def State.mirrorCfg (s : State) (off v : Nat) : State := if s.mirrored off then s.mirror (.config off v) else s

/-! ## Ledger entries -/

/-- The intake queue's and the on-chip buffer's sizes (R470). -/
def ledgerIntake : Nat := 64
def ledgerBuffer : Nat := 1024

/-- An entry is lost (R470): OVERRUN_CNT counts it and 0x2183 is raised at most once per second. -/
def State.ledgerLost (s : State) : State := (s.bump Reg.LDG_OVERRUN_CNT).raiseLimited 0x2183 0 objDevice {}

/-- Every entry of a list takes the SEQ of the next, an entry before them the first's. -/
def shiftEntries (e : LedgerEntry) : List LedgerEntry → List LedgerEntry
  | [] => [e]
  | x :: l => { e with seq := x.seq } :: shiftEntries { x with seq := e.seq } l

/-- Put an entry into the intake queue: those of one tick stand in ascending ORIGIN, then ORIGIN_INDEX (R470). -/
def intakeEntry (e : LedgerEntry) : List LedgerEntry → List LedgerEntry
  | [] => [e]
  | x :: l =>
    if x.tick = e.tick ∧ e.origin * 256 + e.originIndex < x.origin * 256 + x.originIndex then shiftEntries e (x :: l)
    else x :: intakeEntry e l

/-- Offer an entry to the Ledger: it takes the next SEQ; an entry that finds the intake queue full is lost (R470). -/
def State.offer (s : State) (e : LedgerEntry) : State :=
  let s1 := s.set Reg.LDG_NEXT_SEQ (s.get Reg.LDG_NEXT_SEQ + 1)
  if ledgerIntake ≤ s.ledger.intake.length then s1.ledgerLost
  else { s1 with ledger := { s1.ledger with intake := intakeEntry e s1.ledger.intake } }

/-- Log a write to a register at a BAR0 offset, with its old and new word (R468, R469). -/
def State.logReg (s : State) (w : Writer) (off : Nat) (code : Code) (old new : Nat) : State :=
  let s1 := s.offer (s.ledgerEntry (originOf w) (originIndexOf w) 0 false code off old new)
  if code < 0x1000 then s1.mirrorCfg off new else s1

/-- Log a change made by a descriptor of function `f` on an object. -/
def State.logDesc (s : State) (f obj : Nat) (code : Code) (old new : Nat) : State :=
  s.offer (s.ledgerEntry (if f = 0 then 0 else 1) f 1 false code obj old new)

/-- Word i of a SHA-256 digest: its bytes 4i to 4i + 3, the first one lowest (R12, R194, R469). -/
def digestWord (d i : Nat) : Nat := leNat (leBytes 4 (d / 2 ^ (32 * (7 - i)))).reverse

/-- Log a change whose new content is long: the first 8 bytes of its SHA-256 stand for it (R469). -/
def State.logHash (s : State) (f obj : Nat) (code : Code) (content : List Byte) : State :=
  s.offer (s.ledgerEntry (if f = 0 then 0 else 1) f 1 true code obj (digestWord (Config.sha256 content) 0) (digestWord (Config.sha256 content) 1))

/-- Log an event of a unit: block number and index within it (R469, OBJ_KIND 0x2). -/
def State.logUnit (s : State) (origin oidx : Nat) (code : Code) (block index : Nat) : State :=
  s.offer (s.ledgerEntry origin oidx 2 false code (block * 2 ^ 24 + index) 0 0)

/-! ## Completions -/

/-- The STATUS of a completion: 0x5001 for a launch that fired late (R124), 0x0401 for what a Catcher finished for its Flyer
(R128). -/
def State.ticketStatus (t : Ticket) (status : Code) : Code :=
  if status ≠ 0 then status else if t.catcher then 0x0401 else if t.late then 0x5001 else 0

/-- A completion record is written for a ticket (R125 to R127), unless its function was reset or closed since the
descriptor was accepted (R141). The promised entry of the completion ring is used, and the submission ring has one
descriptor fewer in flight. -/
def State.complete (s : State) (t : Ticket) (status : Code) (result : Nat) : State :=
  if (s.fn t.fn).epoch ≠ t.epoch then s
  else
    let s1 := s.updRing t.rid (fun x => { x with inFlight := x.inFlight - 1 })
    let head := match s1.ring t.rid with
      | none => 0
      | some x => x.cons
    match s1.ring t.cpl with
    | none => s1
    | some c =>
      ((s1.putRing t.cpl { c with prod := (c.prod + 1) % 2 ^ 32, reserved := c.reserved - 1 }).emit
        (.cpl t.cpl c.prod
          { entry := c.entryAt c.prod, cookie := t.cookie, status := State.ticketStatus t status, phase := ringPhase c.log2 c.prod, catcher := t.catcher,
            rid := t.rid, sqHead := head, dtSec := s.dtSec32, dtNs := s.dtNsNow, result := result })).moderate t.cpl

/-- Complete a descriptor that fails checks 1 to 6 of R122: it is counted and logged too (R142). A MODE refused with 0x1303 is a
refused mode request as well (R86). -/
def State.failDesc (s : State) (t : Ticket) (obj : Nat) (status : Code) : State :=
  let s1 := if status = 0x1303 then s.bump Reg.PWR_REFUSED_CNT else s
  ((s1.bump (Reg.HIF_FN_DESC_ERR_CNT t.fn)).logDesc t.fn obj status 0 0).complete t status 0

/-- Write bytes to a function's memory, unless the function was reset or closed since (R141); `ep` when they come from a poisoned
line (R388). -/
def State.hostWriteEp (s : State) (t : Ticket) (addr : Nat) (data : List Byte) (ep : Bool) : State :=
  if (s.fn t.fn).epoch ≠ t.epoch then s else s.emit (.hostWrite t.fn addr data ep)

/-- Write bytes that no poisoned line gave. -/
def State.hostWrite (s : State) (t : Ticket) (addr : Nat) (data : List Byte) : State := s.hostWriteEp t addr data false

/-! ## Launch queues -/

/-- The launch queue of a unit (R71). -/
def State.queue (s : State) (u : Nat) : List QLaunch := Table.getD s.tim.queues u []

/-- Write the launch queue of a unit. -/
def State.setQueue (s : State) (u : Nat) (q : List QLaunch) : State :=
  { s with tim := { s.tim with queues := Table.put s.tim.queues u q } }

/-- The depth of a launch queue (R71). -/
def queueDepth : Nat := 16

/-- The kinds a launch unit takes; an unassigned unit takes none ("Unit indices", chapter 02). -/
def unitTakes (u kind : Nat) : Bool :=
  if u < 4 then kind == 1 || kind == 0xF
  else if 16 ≤ u ∧ u < 32 then kind == 2 || kind == 7 || kind == 0xF
  else if 32 ≤ u ∧ u < 128 then kind == 2 || kind == 3 || kind == 0xF
  else if 128 ≤ u ∧ u < 144 then kind == 3
  else if 144 ≤ u ∧ u < 160 then kind == 4
  else if 160 ≤ u ∧ u < 176 then kind == 5 || kind == 8
  else if 192 ≤ u ∧ u < 224 then kind == 6
  else if 256 ≤ u ∧ u < 264 then kind == 0xF
  else false

/-- Fields of a launch word (R64). -/
def lwKind (w : Nat) : Nat := bits w 127 124
def lwRef (w : Nat) : Nat := bits w 123 122
def lwUnit (w : Nat) : Nat := bits w 121 112
def lwTag (w : Nat) : Nat := bits w 111 96

/-- The instant of a launch word (R64): an LC value for REF 0, else a DT in 2^-16 ns. -/
def lwInstant (w : Nat) : Int :=
  if lwRef w = 0 then (bits w 63 0 : Nat) else dtOf (bits w 95 48) (bits w 47 16) (bits w 15 0)

/-- Whether a launch word is valid (R65). -/
def State.launchValid (s : State) (w : Nat) : Bool :=
  unitTakes (lwUnit w) (lwKind w) &&
  (if lwRef w = 0 then bits w 95 64 == 0
   else decide (bits w 47 16 ≤ 999999999) && s.domEnabled (s.refDom (lwRef w)))

/-- Queue a launch on a unit, when it has room. -/
def State.enqueue (s : State) (u : Nat) (q : QLaunch) : State :=
  if queueDepth ≤ (s.queue u).length then s else s.setQueue u (s.queue u ++ [q])

/-- Whether a launch is the device's own: neither supervisor firmware nor a descriptor wrote it. -/
def QLaunch.own (q : QLaunch) : Bool :=
  match q.act with
  | .firmware => false
  | .timed _ _ _ => false
  | _ => true

/-- Insert a launch of the device's own among those that stand last in the queue, by instant: the device writes its own launches in
the order of their instants (DEDUCED, log entry 14). A launch that firmware or a descriptor wrote before stays ahead (R71). -/
def insertLaunch (q : QLaunch) : List QLaunch → List QLaunch
  | [] => [q]
  | x :: l => if decide (q.instant < x.instant) && (x :: l).all QLaunch.own then q :: x :: l else x :: insertLaunch q l

/-- Queue a launch of the device's own on a unit, following the active domain (R66). The device never overfills a queue (R72): what
finds no room there waits behind it, in its order. -/
def State.launchAt (s : State) (u kind : Nat) (t : Int) (act : LaunchAct) : State :=
  s.setQueue u (insertLaunch { kind := kind, ref := 1, tag := 0, instant := t, accepted := s.lc, act := act } (s.queue u))

/-- Complete the timed descriptors among removed launches with 0x5401 (R124). -/
def State.cancelled (s : State) : List QLaunch → State
  | [] => s
  | q :: l => match q.act with
    | .timed _ _ t => (s.complete t 0x5401 0).cancelled l
    | _ => s.cancelled l

/-- Remove from a unit's queue the launches a test names, completing timed descriptors with 0x5401 (R73, R124). -/
def State.cancel (s : State) (u : Nat) (p : QLaunch → Bool) : State :=
  (s.setQueue u ((s.queue u).filter (fun q => !(p q)))).cancelled ((s.queue u).filter p)

/-- Remove from every listed unit's queue the launches a test names. -/
def State.cancelIn (s : State) (p : QLaunch → Bool) : List Nat → State
  | [] => s
  | u :: l => (s.cancel u p).cancelIn p l

/-- Remove the launches a test names from every queue, in unit order. -/
def State.cancelAll (s : State) (p : QLaunch → Bool) : State := s.cancelIn p (s.tim.queues.map (fun e => e.1))

end Sys2Proof.Machine
end

