-- ==== Sys2Proof/Machine/Operands.lean ====
section
/-! DEFINITION. The operand forms: who may write a register and when a write acts (R423, R512, R98), and the checks a
submission descriptor passes before its action starts (R122 to R126). -/

namespace Sys2Proof.Machine

/-! ## Register writes -/

/-- The block number of a BAR0 offset (R512). -/
def blockOf (off : Nat) : Nat := off / 0x40000

/-- Whether a writer's write reaches a register at an offset: a VF reaches only its own view (R107); BRK_ and JUG_ are
written by supervisor firmware alone (R423, R513); blocks 2, 8 and 9 by the PF and firmware, the others by the PF and
by supervisor firmware acting for it; the debug window reaches every block but SAF_ (R204); a HALTED device ignores every write, and
the debug window is gated (R98). -/
def State.mayWrite (s : State) (w : Writer) (off : Nat) : Bool :=
  !s.halted &&
  (match w with
   | .host f => if f.val = 0 then !(blockOf off == 6 || blockOf off == 7) else decide (off < 0x100)
   | .super _ => true
   | .debug => blockOf off != 16)

/-- Apply a register command's effect when its writer reaches the register. -/
def State.byWriter (s : State) (w : Writer) (off : Nat) (f : State → State) : State :=
  if s.mayWrite w off then f s else s

/-! ## Descriptors -/

end Sys2Proof.Machine

namespace Sys2Proof

/-- Fields of a descriptor (R120). -/
def Desc.timed (d : Desc) : Bool := d.flags.getLsbD 15
def Desc.indirect (d : Desc) : Bool := d.flags.getLsbD 14
def Desc.fence (d : Desc) : Bool := d.flags.getLsbD 13
def Desc.obj (d : Desc) : Nat := Machine.objWord d.objType.toNat d.objIndex.toNat

/-- The little-endian number of `n` bytes at descriptor byte `k` (32 to 63). -/
def Desc.p (d : Desc) (k n : Nat) : Nat := d.params.toNat / 2 ^ (8 * (k - 32)) % 2 ^ (8 * n)

/-- Whether descriptor bytes `k` to 63 are zero. -/
def Desc.zeroFrom (d : Desc) (k : Nat) : Bool := d.params.toNat / 2 ^ (8 * (k - 32)) == 0

/-- The data read for a descriptor; empty when it read none. -/
def Desc.bytes (d : Desc) : List Byte := d.data.getD []

end Sys2Proof

namespace Sys2Proof.Machine

/-- What the checks of R122 need to know of an opcode. `object` says which object types and indices it takes, `form`
that its reserved bytes are zero and its encoded values defined (check 3), `owned` the further ownership of check 4,
`aligned` the further alignment of check 5, `reads` whether it reads host memory (check 6), `ringOk` check 7, `launchOk` what
check 8 asks of a timed one's launch word beyond R65. -/
structure OpSpec where
  opcode : Nat
  admin : Bool := false
  pfOnly : Bool := false
  minor : Nat := 0
  usesIndirect : Bool := false
  object : Nat → Nat → Bool
  form : Desc → Bool := fun d => d.zeroFrom 32
  owned : State → Nat → Desc → Bool := fun _ _ _ => true
  aligned : Desc → Bool := fun _ => true
  reads : Bool := false
  ringOk : State → Desc → Bool := fun _ _ => true
  launchOk : Desc → Bool := fun _ => true

/-- The device object as an opcode's object (type 0x0, index 0). -/
def onDevice (t i : Nat) : Bool := t == 0 && i == 0

/-- Whether a launch unit is allocated to a slot: its compositor, a Face that carries its columns, or a slice engine
(R112). -/
def State.unitOfSlot (s : State) (u n : Nat) : Bool :=
  if u < 4 then s.on (Reg.CMP_SLOT_STATUS_UNIT_VALID n) && s.get (Reg.CMP_SLOT_STATUS_UNIT n) == u
  else if 16 ≤ u ∧ u < 32 then bit (s.get (Reg.ENC_BS_FACE_USED n)) (u - 16)
  else if 32 ≤ u ∧ u < 128 then bit (s.get (Reg.ENC_BS_ENGMASK_ENGINE n ((u - 32) / 32))) ((u - 32) % 32)
  else false

/-- Whether function `f` owns a launch unit (R112); an unassigned unit passes here and fails check 8. -/
def State.ownsUnit (s : State) (f u : Nat) : Bool :=
  if 256 ≤ u ∧ u < 264 then false
  else if u < 4 ∨ (16 ≤ u ∧ u < 128) then
    if ([0, 1, 2, 3] : List Nat).any (s.unitOfSlot u) then
      ([0, 1, 2, 3] : List Nat).any (fun n => s.unitOfSlot u n && s.slotOwner n == f)
    else f == 0
  else if (128 ≤ u ∧ u < 176) ∨ (192 ≤ u ∧ u < 224) then f == 0
  else true

/-- The first check of R122, 1 to 8, that a descriptor of function `f` fails, with its status. -/
def State.descFailure (s : State) (o : OpSpec) (f : Nat) (d : Desc) : Option Code :=
  if (o.pfOnly && f != 0) || (o.admin && d.rid.val != 64 * (s.fn f).pen && !(s.trp.beside && f == 0 && d.rid.val == 64 * 255)) then
    some (if o.opcode = 3 ∧ f ≠ 0 then 0x1303 else 0x3401)
  else if s.minor f < o.minor ∨ (d.fence ∧ s.minor f < 2) then some 0x3406
  else if d.flags.toNat % 2 ^ 13 ≠ 0 ∨ !(o.object d.objType.toNat d.objIndex.toNat)
      ∨ (!d.timed ∧ d.launch ≠ 0) ∨ (d.indirect != o.usesIndirect)
      ∨ (d.indirect ∧ !(d.zeroFrom 44)) ∨ (!d.indirect ∧ !(o.form d)) then some 0x3402
  else if !(s.ownsObject f d.objType.toNat d.objIndex.toNat) ∨ !(o.owned s f d)
      ∨ (d.timed ∧ unitTakes (lwUnit d.launch.toNat) (lwKind d.launch.toNat) ∧ !(s.ownsUnit f (lwUnit d.launch.toNat))) then some 0x3403
  else if (d.indirect ∧ (d.p 32 8 % 8 ≠ 0 ∨ d.p 40 4 = 0 ∨ 65536 < d.p 40 4)) ∨ !(o.aligned d) then some 0x3404
  else if o.reads ∧ d.data = none then some 0x3405
  else if !(o.ringOk s d) then some 0x1403
  else if d.timed ∧ !(s.launchValid d.launch.toNat && o.launchOk d) then some 0x1202
  else none

/-- Whether a ring the device fetches from has pending work and a free entry in its completion ring (R119, R126, R138). -/
def State.hasWork (s : State) (x : Ring) : Bool :=
  (x.kind == .sub || x.kind == .bsIn) && x.state == .active && x.closing.isEmpty && x.count != 0
    && (match s.ring x.pair with
        | none => false
        | some c => c.kind == .cpl && !c.full)

/-- Where a ring stands in the round that follows the ring served last (R138). -/
def State.turn (s : State) (r : Nat) : Nat := (r + 16383 - s.sys.served) % 16384

/-- Whether a ring's turn has come (R138): no ring with pending work stands before it in the round. A ring with descriptors in
flight may stand before it: a FENCE at its head, which the device sees only there, would hold it back (R123; log entry 112). -/
def State.ringTurn (s : State) (r : Nat) : Bool :=
  s.rings.all (fun e => !(s.hasWork e.2) || e.2.inFlight != 0 || decide (s.turn r ≤ s.turn e.1))

/-- Whether the next entry of a SUB or BS_IN ring can be consumed now (R119, R123, R126, R138): the device is not HALTED, the ring
has work, its turn has come, and a FENCE finds every earlier descriptor completed. -/
def State.servable (s : State) (k : RingKind) (r : Nat) (fence : Bool) : Bool :=
  !s.halted && s.ringTurn r &&
  (match s.ring r with
   | none => false
   | some x => x.kind == k && s.hasWork x && !(fence && x.inFlight != 0))

/-- Consume the next entry of a SUB or BS_IN ring: its consumer index advances, a completion entry is promised, and the
ticket stands for the descriptor from then on (R125, R126). -/
def State.consume (s : State) (r : Nat) (cookie : Nat) : State × Ticket :=
  match s.ring r with
  | none => (s, { rid := r, cpl := 0, fn := 0, epoch := 0, cookie := cookie })
  | some x =>
    ((({ s with sys := { s.sys with served := r } } : State).putRing r
        { x with cons := (x.cons + 1) % 2 ^ 32, inFlight := x.inFlight + 1 }).updRing x.pair (fun c => { c with reserved := c.reserved + 1 }),
     { rid := r, cpl := x.pair, fn := x.fn, epoch := (s.fn x.fn).epoch, cookie := cookie })

/-- The consumer index of a ring; zero while it is DISABLED. -/
def State.consOf (s : State) (r : Nat) : Nat :=
  match s.ring r with
  | none => 0
  | some x => x.cons

/-- Queue a timed descriptor as its launch word, or refuse it when the queue is full (R72, R124). -/
def State.queueTimed (s : State) (opcode : Nat) (d : Desc) (t : Ticket) : State :=
  let w := d.launch.toNat
  if queueDepth ≤ (s.queue (lwUnit w)).length then s.complete t 0x2201 0
  else s.enqueue (lwUnit w) { kind := lwKind w, ref := lwRef w, tag := lwTag w, instant := lwInstant w, accepted := s.lc, act := .timed opcode d t }

/-- A cookie that no descriptor carries. -/
def probeCookie : Nat := 2 ^ 64

/-- Whether an action started now would at once be answered with a failure: check 9 of R122, which is the action's own. -/
def failsNow (act : Desc → Ticket → State → State) (d : Desc) (t : Ticket) (s : State) : Bool :=
  (act d { t with cookie := probeCookie } { s with out := [] }).out.any (fun e => match e.2 with
    | .cpl _ _ r => r.cookie == probeCookie && decide (0x1000 ≤ r.status)
    | _ => false)

/-- Carry a descriptor through R122: not consumable yet, it stays; failing a check, it completes with that check's
status (1 to 6 are counted and logged, R142; a failed read counts in DMA_ERR_CNT); timed, it is queued once it passes check 9 too
(R124; log entry 113); else its action starts with its ticket. -/
def State.runDesc (s : State) (o : OpSpec) (d : Desc) (act : Desc → Ticket → State → State) : State :=
  if s.servable .sub d.rid.val d.fence then
    let (s0, t) := s.consume d.rid.val d.cookie.toNat
    let s1 := s0.mirror3 (.ring d.rid.val (s0.consOf d.rid.val) o.opcode (some d))
    match s.descFailure o t.fn d with
    | some c =>
      if c = 0x1403 ∨ c = 0x1202 then (s1.logDesc t.fn d.obj c 0 0).complete t c 0
      else if c = 0x3405 then (s1.bump (Reg.HIF_FN_DMA_ERR_CNT t.fn)).failDesc t d.obj c
      else s1.failDesc t d.obj c
    | none => if d.timed && !(failsNow act d t s1) then s1.queueTimed o.opcode d t else act d t s1
  else s

end Sys2Proof.Machine
end

