-- ==== Sys2Proof/Machine/Egress.lean ====
section
/-! DEFINITION. Egress queues, Carousel gates and Turnstile meters (chapter 13): the shared operations that take in,
hold, select and discard frames, and the commands of the family. -/

namespace Sys2Proof.Machine

/-! ## Ports -/

/-- The MODE of a lane (R306). -/
def State.laneMode (s : State) (i : Nat) : Nat := s.get (Reg.LANE_CFG_MODE i)

/-- STATE of a lane (R314). -/
def State.laneState (s : State) (i : Nat) : Nat := s.get (Reg.LANE_STATUS_STATE i)

/-- The ACTIVE state of a lane. -/
def laneActive : Nat := 6

/-- Whether a lane names an Ethernet port: MODE 0x1 or 0x2, or lane 4g of a 400G group (R307). -/
def State.isPort (s : State) (i : Nat) : Bool :=
  s.laneMode i == 1 || s.laneMode i == 2 || (s.laneMode i == 3 && i % 4 == 0)

/-- The lanes of a port: its own, or the four of its group. -/
def State.portLanes (s : State) (i : Nat) : List Nat :=
  if s.laneMode i = 3 then [4 * (i / 4), 4 * (i / 4) + 1, 4 * (i / 4) + 2, 4 * (i / 4) + 3] else [i]

/-- Whether a port's lane, or every lane of its group, is ACTIVE. -/
def State.portActive (s : State) (i : Nat) : Bool :=
  s.isPort i && (s.portLanes i).all (fun l => s.laneState l == laneActive)

/-- The ticks a frame of length L takes on the wire (R344): 100 Gb/s, or 400 Gb/s on a group port. -/
def State.frameTicks (s : State) (i len : Nat) : Nat :=
  if s.laneMode i = 3 then ceilDiv ((len + 20) * 4) 125 else ceilDiv ((len + 20) * 16) 125

/-- A port's Carousel and transmitter. -/
def State.port (s : State) (i : Nat) : EgPort := Table.getD s.egr.ports i EgPort.reset

/-- Write a port's Carousel and transmitter. -/
def State.setPort (s : State) (i : Nat) (p : EgPort) : State :=
  { s with egr := { s.egr with ports := Table.put s.egr.ports i p } }

/-! ## Queues -/

/-- The frames of queue `c` of port `i`, oldest first. -/
def State.frames (s : State) (i c : Nat) : List EgFrame := Table.getD s.egr.queues (8 * i + c) []

/-- The bytes of a list of frames. -/
def framesLen (l : List EgFrame) : Nat := (l.map (fun f => f.len)).foldl (· + ·) 0

/-- Write a queue, with DEPTH_B and DEPTH_MAX_B (R353). -/
def State.setFrames (s : State) (i c : Nat) (l : List EgFrame) : State :=
  (({ s with egr := { s.egr with queues := Table.put s.egr.queues (8 * i + c) l } } : State).set
    (Reg.CAR_P_Q_DEPTH_B i c) (framesLen l)).setMax (Reg.CAR_P_Q_DEPTH_MAX_B i c) (framesLen l)

/-- The bytes queued on a port. -/
def State.portBytes (s : State) (i : Nat) : Nat :=
  (([0, 1, 2, 3, 4, 5, 6, 7] : List Nat).map (fun c => framesLen (s.frames i c))).foldl (· + ·) 0

/-- The egress buffer of a port: 1 MiB, or 4 MiB pooled for a group port (R341). -/
def State.portBuffer (s : State) (i : Nat) : Nat := if s.laneMode i = 3 then 4194304 else 1048576

/-! ## Turnstile meters -/

/-- The configuration of a meter in force (R352): MODE, OVH, CIR, PIR, CBS, PBS. -/
def State.meterMode (s : State) (q : Nat) : Nat := s.get (bank 1 (Reg.TRN_Q_MODE q))
def State.meterOvh (s : State) (q : Nat) : Nat := s.get (bank 1 (Reg.TRN_Q_OVH q))
def State.meterCir (s : State) (q : Nat) : Nat := s.get (bank 1 (Reg.TRN_Q_CIR_MBPS q))
def State.meterPir (s : State) (q : Nat) : Nat := s.get (bank 1 (Reg.TRN_Q_PIR_MBPS q))
def State.meterCbs (s : State) (q : Nat) : Nat := s.get (bank 1 (Reg.TRN_Q_CBS_B q))
def State.meterPbs (s : State) (q : Nat) : Nat := s.get (bank 1 (Reg.TRN_Q_PBS_B q))

/-- Full buckets now. -/
def State.fullMeter (s : State) (q : Nat) : Meter := ⟨s.meterCbs q * 12800, s.meterPbs q * 12800, s.lc⟩

/-- A meter's buckets filled up to now: CIR and PIR Mb/s are CIR and PIR steps of 1/12,800 B per tick (R351). -/
def State.meterNow (s : State) (q : Nat) : Meter :=
  match Table.find s.egr.meters q with
  | none => s.fullMeter q
  | some m =>
    ⟨min (m.c + s.meterCir q * (s.lc - m.filled)) (s.meterCbs q * 12800),
     min (m.p + s.meterPir q * (s.lc - m.filled)) (s.meterPbs q * 12800), s.lc⟩

/-- Write a meter's buckets. -/
def State.setMeter (s : State) (q : Nat) (m : Meter) : State :=
  { s with egr := { s.egr with meters := Table.put s.egr.meters q m } }

/-- The fields of a meter. -/
def meterFields (q : Nat) : List Field :=
  [Reg.TRN_Q_MODE q, Reg.TRN_Q_OVH q, Reg.TRN_Q_CIR_MBPS q, Reg.TRN_Q_PIR_MBPS q, Reg.TRN_Q_CBS_B q, Reg.TRN_Q_PBS_B q]

/-- Accepted fields of a meter come into force with full buckets (R352). -/
def State.installMeter (s : State) (q : Nat) : State := let s1 := s.copyBank 2 1 (meterFields q); s1.setMeter q (s1.fullMeter q)

/-- Meters that waited for the port's frame boundary come into force once it has passed (R352). -/
def State.settleMeters (s : State) (i : Nat) : State :=
  let p := s.port i
  if p.turning.isEmpty ∨ s.lc < p.freeAt then s
  else p.turning.foldl (fun (t : State) q => t.installMeter q) (s.setPort i { p with turning := [] })

/-- A frame's colour (R351): 0 green, 1 yellow, 2 red. -/
def Colour.of (m : Meter) (len : Nat) : Nat :=
  if m.p < len * 12800 then 2 else if m.c < len * 12800 then 1 else 0

/-- Take a frame from the buckets by its colour (R351). -/
def Meter.take (m : Meter) (colour len : Nat) : Meter :=
  if colour = 0 then { m with c := m.c - len * 12800, p := m.p - len * 12800 }
  else if colour = 1 then { m with p := m.p - len * 12800 } else m

/-- Count a frame's colour. -/
def State.countColour (s : State) (q colour : Nat) : State :=
  s.bump (if colour = 0 then Reg.TRN_Q_GREEN_CNT q else if colour = 1 then Reg.TRN_Q_YELLOW_CNT q else Reg.TRN_Q_RED_CNT q)

/-! ## Admission -/

/-- The number of a row for ordering releases of one slot. -/
def rowOrder (n row : Nat) : Nat := 64 * n + row + 1

/-- Whether a stream packet's row has been released to its port (R343). -/
def State.rowReleased (s : State) (i slot n row : Nat) : Bool :=
  decide (rowOrder n row ≤ Table.getD s.egr.released (4 * i + slot) 0)

/-- Admit a frame to queue `c` of port `i` (R341, R342, R343, R351): discarded while the port is not ACTIVE, dropped red
by a policing meter, dropped at the tail when its queue or the port buffer is full, else queued with its stamp. -/
def State.enterQueue (u : State) (i c : Nat) (f : EgFrame) : State :=
  let q := 8 * i + c
  let s := u.settleMeters i
  if !s.portActive i then s.bump (Reg.CAR_P_Q_DOWN_DROP_CNT i c)
  else
    let m := s.meterNow q
    let col := Colour.of m (f.len + s.meterOvh q)
    if s.meterMode q = 2 ∧ col = 2 then s.countColour q 2
    else if s.get (Reg.CAR_P_Q_QMAX_KB i c) * 1024 < framesLen (s.frames i c) + f.len
        ∨ s.portBuffer i < s.portBytes i + f.len then
      (s.bump (Reg.CAR_P_Q_DROP_CNT i c)).raiseLimited 0x6D01 q (objQueue q) {}
    else
      let held := match f.row with
        | none => false
        | some (slot, n, row) => s.on (Reg.CAR_P_Q_PACED i c) && !s.rowReleased i slot n row
      let s1 := s.setFrames i c (s.frames i c ++ [{ f with stamp := s.lc, eligible := !held }])
      if s.meterMode q = 2 then (s1.setMeter q (m.take col (f.len + s.meterOvh q))).countColour q col else s1

/-- A frame the device originates enters the CTRL_CLASS queue of the port (R340). -/
def State.originate (s : State) (i : Nat) (f : TxFrame) (len : Nat) : State :=
  s.enterQueue i (s.get (Reg.CAR_P_CTRL_CLASS i))
    { frame := f, len := len, stamp := s.lc, row := none, eligible := true, cover := none, tc := none }

/-- Discard every queued frame of a port, one queue (R342). -/
def State.dropQueue (s : State) (i c : Nat) : State :=
  if (s.frames i c).length = 0 then s
  else (s.setFrames i c []).count (Reg.CAR_P_Q_DOWN_DROP_CNT i c) (s.frames i c).length

/-- The port that a lane belongs to: lane 4g for a member of a group (R307). -/
def State.portOf (s : State) (i : Nat) : Nat := if s.laneMode i = 3 then 4 * (i / 4) else i

/-- A port's lane leaves ACTIVE: every queued frame of the port is discarded and 0x6D02 is raised once (R342). -/
def State.portDown (s : State) (i : Nat) : State :=
  let p := s.portOf i
  (([0, 1, 2, 3, 4, 5, 6, 7] : List Nat).foldl (fun s c => s.dropQueue p c) s).raise 0x6D02 (objLane p) {}

/-! ## Carousel gates -/

/-- The gate mask at an offset into a cycle: the entry whose half-open window holds it, the last entry's gates holding
to the cycle's end (R346). -/
def gatesAt : List (Nat × Nat) → Nat → Nat
  | [], _ => 0xFF
  | [(_, g)], _ => g
  | (d, g) :: l, o => if o < d then g else gatesAt l (o - d)

/-- The end of the entry window that holds an offset, cut at the cycle's end. -/
def windowEnd (cycle : Nat) : List (Nat × Nat) → Nat → Nat → Nat
  | [], _, _ => cycle
  | [_], _, _ => cycle
  | (d, _) :: l, start, o =>
    if o < start + d then min (start + d) cycle else windowEnd cycle l (start + d) o

/-- The offset of an instant into a list's cycle. -/
def GateList.offset (g : GateList) (z : Int) : Nat := ((z - g.base) % (g.cycle : Int)).toNat

/-- The gates of a list at an instant (R346). -/
def GateList.mask (g : GateList) (z : Int) : Nat := if g.en then gatesAt g.entries (g.offset z) else 0xFF

/-- The instant at which the entry window that holds an instant ends. -/
def GateList.next (g : GateList) (z : Int) : Int :=
  z - (g.offset z : Nat) + (windowEnd g.cycle g.entries 0 (g.offset z) : Nat)

/-- The end of the run of open windows of class `c` that holds instant `z`, followed over at most `fuel` windows; none
when it does not end within them (R347). -/
def GateList.runEnd (g : GateList) (c : Nat) : Nat → Int → Option Int
  | 0, _ => none
  | fuel + 1, z =>
    if !g.en then none
    else if bit (g.mask z) c then g.runEnd c fuel (g.next z) else some z

/-- Windows enough for two whole cycles. -/
def GateList.fuel (g : GateList) : Nat := 2 * g.entries.length + 2

/-- The instant that stands for tick k: a window [start, end) holds k exactly when it holds DT(k+1) - 2^-16 ns (R68,
R70). -/
def State.tickInstant (s : State) (k : Nat) : Int := s.activeMap.at (k + 1) - 1

/-- The gates of a port at tick k (R346): every gate open while the active domain is disabled (R516). -/
def State.gatesOpen (s : State) (i k : Nat) : Nat :=
  if s.domEnabled s.activeDom then (s.port i).list.mask (s.tickInstant k) else 0xFF

/-- The instant at which the gate of class `c`, open at tick k, next closes, followed across a pending swap (R347). -/
def State.closeInstant (s : State) (i c k : Nat) : Option Int :=
  if !s.domEnabled s.activeDom then none
  else
    let p := s.port i
    let z := s.tickInstant k
    match p.list.runEnd c p.list.fuel z, p.pend with
    | e, none => e
    | some e, some (g, x) => if e < x then some e else g.runEnd c g.fuel x
    | none, some (g, x) => g.runEnd c g.fuel x

/-- Whether a frame started at tick k ends before its gate closes (the length-aware guard of R344). -/
def State.guardFits (s : State) (i c k len : Nat) : Bool :=
  match s.closeInstant i c k with
  | none => true
  | some e => decide (s.activeMap.at (k + s.frameTicks i len) ≤ e)

/-- The longest run of open windows of a class over a cycle, in 2^-16 ns: none when the class is always open. -/
def GateList.longestRun (g : GateList) (c : Nat) : Option Nat :=
  if !g.en then none
  else
    let starts := (List.range g.entries.length).map (fun j => ((g.entries.take j).map (fun e => e.1)).foldl (· + ·) 0)
    let runs := starts.filterMap (fun o =>
      if g.cycle ≤ o then some 0
      else if bit (g.mask (g.base + (o : Nat))) c then
        (g.runEnd c g.fuel (g.base + (o : Nat))).map (fun e => (e - (g.base + (o : Nat))).toNat)
      else some 0)
    if runs.length < starts.length then none else some (runs.foldl max 0)

/-- Whether a frame can never pass the guard: longer than the longest open run of its class, which is open at some time
(R348). -/
def State.oversize (s : State) (i c len : Nat) : Bool :=
  if !s.domEnabled s.activeDom then false
  else match (s.port i).list.longestRun c with
    | none => false
    | some r => decide (0 < r) && decide ((r : Int) < s.activeMap.at (s.lc + s.frameTicks i len) - s.activeMap.at s.lc)

/-- Discard from the head of a queue the frames that can never pass the guard, over at most `n` frames (R348). -/
def State.dropOversize (i c : Nat) : Nat → State → State
  | 0, s => s
  | n + 1, s => match s.frames i c with
    | [] => s
    | f :: l =>
      if s.oversize i c f.len then
        State.dropOversize i c n
          (((s.setFrames i c l).bump (Reg.CAR_P_Q_OVERSIZE_CNT i c)).raiseLimited 0x6D03 (8 * i + c) (objQueue (8 * i + c)) {})
      else s

/-- Whether the acknowledgement a gated packet waits for has come (R438): its row's SEQ is at or below ACK, or it waits
for none. -/
def EgFrame.covered (f : EgFrame) : Bool := f.cover == none

/-- Whether queue `c`'s head may start at tick k in a pass of R344: 0 green, 1 yellow. -/
def State.headReady (s : State) (i pass c : Nat) : Bool :=
  match s.frames i c with
  | [] => false
  | f :: _ =>
    let q := 8 * i + c
    let colour := if s.meterMode q = 1 then Colour.of (s.meterNow q) (f.len + s.meterOvh q) else 0
    f.eligible && f.covered && bit (s.gatesOpen i s.lc) c && s.guardFits i c s.lc f.len && colour == pass

/-- The queue selected: the green pass before the yellow one, the highest class first (R344). -/
def State.selected (s : State) (i : Nat) : Option (Nat × Nat) :=
  match ([7, 6, 5, 4, 3, 2, 1, 0] : List Nat).find? (fun c => s.headReady i 0 c) with
  | some c => some (0, c)
  | none => match ([7, 6, 5, 4, 3, 2, 1, 0] : List Nat).find? (fun c => s.headReady i 1 c) with
    | some c => some (1, c)
    | none => none

/-- The rate used to convert a residence: that of the enabled domain whose PTP domain number the message carries, else
the active domain's (R60). Where both enabled domains carry that number, the primary's (DESIGN CHOICE, log entry 102). -/
def State.residenceRate (s : State) (ptpDomain : Nat) : Int :=
  if s.domEnabled 0 && s.get (Reg.TIM_DOM_PTP_DOMAIN 0) == ptpDomain then (s.domain 0).map.rate
  else if s.domEnabled 1 && s.get (Reg.TIM_DOM_PTP_DOMAIN 1) == ptpDomain then (s.domain 1).map.rate
  else s.activeMap.rate

/-- A ones' complement sum of 16-bit words. -/
def onesAdd (a b : Nat) : Nat := if a + b < 0x10000 then a + b else a + b - 0xFFFF

/-- The four 16-bit words of a correctionField. -/
def corrWords (c : Int) : List Nat := ([48, 32, 16, 0] : List Nat).map (fun k => unsigned 64 c / 2 ^ k % 2 ^ 16)

/-- The UDP checksum after correctionField changes (R61): a zero one stays zero, another is updated incrementally, and one that
comes out zero is sent as 0xFFFF, as UDP has it (PRESUMED, log entry 103). -/
def udpUpdate (sum : Nat) (old new : Int) : Nat :=
  if sum = 0 then 0
  else
    let a := (corrWords old).foldl (fun (x : Nat) w => onesAdd x (0xFFFF - w)) (0xFFFF - sum)
    let r := 0xFFFF - (corrWords new).foldl onesAdd a
    if r = 0 then 0xFFFF else r

/-- A forwarded PTP event message gains its residence time in correctionField as it leaves on a lane set in
TC_LANE_MASK (R59, R60), and its UDP checksum follows, except one whose FCS was bad (R61). -/
def State.correct (s : State) (i : Nat) (f : EgFrame) : TxFrame × Bool :=
  match f.frame, f.tc with
  | .forwarded l corr udp bad, some (stamp16, dom) =>
    if bit (s.get Reg.TIM_TC_LANE_MASK) i && !bad then
      let c := corr + ((s.lc * 16 : Nat) - stamp16 : Int) * 2560 * (2 ^ 40 + s.residenceRate dom) / 2 ^ 40
      (.forwarded l c (udpUpdate udp corr c) bad, true)
    else (f.frame, false)
  | fr, _ => (fr, false)

/-- The 27 MHz and 90 kHz clocks of the active domain at a number of ticks from now (R265). -/
def State.clockAt (s : State) (hz ticks : Nat) : Nat :=
  (((s.activeDt + (ticks * tickUnits : Nat) : Int) : Rat) / ((secUnits : Nat) : Rat) * (hz : Rat)).floor.toNat

/-- A transport stream's datagram as it leaves (R265): its RTP timestamp, and each PCR at the tick its packet's first byte leaves. -/
def State.stampTs (s : State) (i : Nat) (f : EgFrame) : TxFrame → TxFrame
  | .ts n path q k hdr rtp pcrs =>
    .ts n path q k hdr (rtp.map (fun _ => s.clockAt 90000 0 % 2 ^ 32))
      (pcrs.map (fun e => (e.1, s.clockAt 27000000 (s.frameTicks i (f.len - 4 - 188 * (k - e.1) - 12)) % (2 ^ 33 * 300))))
  | x => x

/-- A MAC address from its two registers. -/
def State.macOf (s : State) (hi lo : Nat → Field) (i : Nat) : Nat := s.get (hi i) * 2 ^ 32 + s.get (lo i)

/-- The addresses of a frame that port i originates (R325); a forwarded frame keeps its own. IGMPv3 reports go to 224.0.0.22, a multicast
Delay_Req to 224.0.1.129 (PRESUMED, log entry 128). -/
def State.addresses (s : State) (i : Nat) (f : TxFrame) : Option FrameAddr :=
  let out := fun (ip : Nat) (mac : Option Nat) => some
    { dstMac := match mac with
        | some m => m
        | none => if ip / 2 ^ 28 = 14 then 0x01005E000000 + ip % 2 ^ 23 else s.macOf Reg.LANE_NH_MAC_HI Reg.LANE_NH_MAC_LO i,
      srcMac := s.macOf Reg.LANE_MAC_HI Reg.LANE_MAC_LO i, srcIp := s.get (Reg.LANE_IPV4 i), dstIp := ip }
  match f with
  | .delayReq _ _ (some (mac, ip)) => out ip (some mac)
  | .delayReq _ _ none => out 0xE0000181 none
  | .igmpReport _ _ => out 0xE0000016 none
  | .igmpLeave _ _ => out 0xE0000016 none
  | .arpReply ip mac => out ip (some mac)
  | .stream _ _ _ _ _ _ _ hdr => out (hdr.getD 0 0) none
  | .ts _ _ _ _ hdr _ _ => out (hdr.getD 0 0) none
  | .audio _ _ _ _ hdr _ => out (hdr.getD 0 0) none
  | .forwarded _ _ _ _ => none

/-- PKT_CNT of a stream counts its packets that leave on path 0, that of a transmitter its packets (chapters 10, 14). -/
def State.countSent (s : State) : TxFrame → State
  | .stream n m path _ _ _ _ _ => if path = 0 then s.bump (Reg.ENC_BS_STR_PKT_CNT n m) else s
  | .ts n path _ _ _ _ _ => if path = 0 then s.bump (Reg.ENC_BS_STR_PKT_CNT n 0) else s
  | .audio m _ _ _ _ _ => s.bump (Reg.AUD_OUT_PKT_CNT (48 + m))
  | _ => s

/-- Start sending the head of queue `c` (R344, R351, R353): statistics, buckets, correction, and the transmitter is busy
until the frame's end. -/
def State.startFrame (s : State) (i pass c : Nat) : State :=
  match s.frames i c with
  | [] => s
  | f :: l =>
    let q := 8 * i + c
    let res := (s.lc - f.stamp) * 625 / 1000
    let s1 := (s.setFrames i c l).setPort i { s.port i with freeAt := s.lc + s.frameTicks i f.len }
    let s2 := if s.meterMode q = 1 then
        (s1.setMeter q ((s.meterNow q).take pass (f.len + s.meterOvh q))).countColour q pass
      else if s.meterMode q = 0 then s1.countColour q 0 else s1
    let s3 := ((s2.count64 (Reg.CAR_P_Q_TX_FRAME_CNT i c) (Reg.CAR_P_Q_TX_FRAME_CNT_HI i c) 1).setMax
      (Reg.CAR_P_Q_DELAY_MAX_NS i c) res)
    let s4 : State := { s3 with egr := { s3.egr with sent := Table.put s3.egr.sent q (Table.getD s3.egr.sent q 0 + f.len) } }
    let lim := s.get (Reg.CAR_P_Q_DELAY_LIMIT_US i c)
    let s5 := if lim ≠ 0 ∧ lim * ticksPerUs < s.lc - f.stamp then
        (s4.bump (Reg.CAR_P_Q_OVERDUE_CNT i c)).raiseLimited 0x5D01 q (objQueue q) { w16 := res }
      else s4
    let (fr, corrected) := s.correct i f
    ((if corrected then s5.bump Reg.TIM_TC_FRAME_CNT else s5).countSent fr).emit (.frame i c (s.addresses i fr) (s.stampTs i f fr))

/-- EGRESS_SELECT (R344, R348): a free transmitter discards what can never pass, then selects and starts at most one
frame. -/
def State.egressSelect (s : State) (i : Nat) : State :=
  if s.portActive i && decide ((s.port i).freeAt ≤ s.lc) then
    let s1 := ([0, 1, 2, 3, 4, 5, 6, 7] : List Nat).foldl (fun s c => State.dropOversize i c (s.frames i c).length s) (s.settleMeters i)
    match s1.selected i with
    | none => s1
    | some (pass, c) => s1.startFrame i pass c
  else s

def execEgressSelect (i : Fin 16) (s : State) : Host.Outcome State Fault Refusal := .next (s.egressSelect i)

/-! ## Gate list commits and swaps -/

/-- The shadow list's fields as software wrote them; BASE takes seconds [47:32] from the active DT (chapter 13). -/
def State.shadowList (s : State) (i : Nat) : GateList :=
  { en := s.on (Reg.CAR_P_GATE_EN i), cycle := s.get (Reg.CAR_P_CYCLE_NS i) * nsUnits,
    base := dtOf (dtSec s.activeDt / 2 ^ 32 * 2 ^ 32 + s.get (Reg.CAR_P_BASE_SEC i)) (s.get (Reg.CAR_P_BASE_NS i)) 0,
    entries := (List.range (s.get (Reg.CAR_P_COUNT i))).map
      (fun j => (s.get (Reg.CAR_P_ENTRY_INTERVAL_NS i j) * nsUnits, s.get (Reg.CAR_P_ENTRY_GATES i j))) }

/-- Check 1 of R350. -/
def gateFieldsOk (count cycleNs baseNs : Nat) (intervals : List Nat) : Bool :=
  decide (1 ≤ count ∧ count ≤ 256 ∧ 1000 ≤ cycleNs ∧ cycleNs ≤ 1000000000 ∧ baseNs ≤ 999999999)
  && intervals.all (fun d => decide (64 ≤ d ∧ d ≤ 1000000000))

/-- The instant x of R349 for a pending list, from the tick after now. -/
def State.gateX (s : State) (i : Nat) (g : GateList) : Int :=
  let t := s.activeMap.at (s.lc + 1)
  let old := (s.port i).list
  let bound := if old.en then old.base + ((t - old.base) / (old.cycle : Int) + 1) * old.cycle else t
  g.base + (bound - g.base + (g.cycle : Int) - 1) / (g.cycle : Int) * g.cycle

/-- Show x in APPLY_SEC and APPLY_NS (chapter 13). -/
def State.showX (s : State) (i : Nat) (x : Int) : State :=
  s.setAll [(Reg.CAR_P_PENDING i, 1), (Reg.CAR_P_APPLY_SEC i, dtSec x), (Reg.CAR_P_APPLY_NS i, dtNs x)]

/-- Make a list pending, with the descriptor that completes at x, if any (R349). -/
def State.pendList (s : State) (i : Nat) (g : GateList) (t : Option Ticket) : State :=
  let x := s.gateX i g
  (s.setPort i { s.port i with pend := some (g, x), tickets := (s.port i).tickets ++ t.toList }).showX i x

/-- Compute x of a pending list again, when the active domain is enabled (R516). -/
def State.renewX (s : State) (i : Nat) : State :=
  match (s.port i).pend with
  | none => s
  | some (g, _) => (s.setPort i { s.port i with pend := some (g, s.gateX i g) }).showX i (s.gateX i g)

/-- CAR_COMMIT (R349, R350). -/
def State.carCommit (s : State) (i : Nat) : State :=
  let n := s.get (Reg.CAR_P_COUNT i)
  let ok := gateFieldsOk n (s.get (Reg.CAR_P_CYCLE_NS i)) (s.get (Reg.CAR_P_BASE_NS i))
      ((List.range n).map (fun j => s.get (Reg.CAR_P_ENTRY_INTERVAL_NS i j))) && s.domEnabled s.activeDom
  if ok then (s.pendList i (s.shadowList i) none).set (Reg.CAR_P_COMMIT_LAST_STATUS i) 0
  else s.set (Reg.CAR_P_COMMIT_LAST_STATUS i) 0x1D01

def execCarCommit (w : Writer) (i : Fin 16) (s : State) : Host.Outcome State Fault Refusal :=
  .next (s.byWriter w (Reg.CAR_P_COMMIT_COMMIT i).off (fun s =>
    let s1 := s.carCommit i
    s1.logReg w (Reg.CAR_P_COMMIT_COMMIT i).off (s1.get (Reg.CAR_P_COMMIT_LAST_STATUS i)) 0 0))

/-- CAR_LIST_LOAD as an opcode (R350). -/
def carListSpec : OpSpec :=
  { opcode := 0x0400, object := fun t i => t == 5 && decide (i < 16), usesIndirect := true, reads := true }

/-- Write the entries of a list into the shadow. -/
def State.writeEntries (s : State) (i : Nat) (l : List Byte) : Nat → State
  | 0 => s
  | j + 1 =>
    (s.writeEntries i l j).setAll
      [(Reg.CAR_P_ENTRY_INTERVAL_NS i j, leAt l (32 + 8 * j) 4), (Reg.CAR_P_ENTRY_GATES i j, leAt l (36 + 8 * j) 1)]

/-- The action of CAR_LIST_LOAD: the buffer's fields are written to the shadow, checked as R350 states and committed;
the descriptor completes at x, or at once with 0x1D01. -/
def actCarListLoad (d : Desc) (t : Ticket) (s : State) : State :=
  let l := d.bytes
  let i := d.objIndex.toNat
  let n := leAt l 16 2
  let iv := (List.range n).map (fun j => leAt l (32 + 8 * j) 4)
  let rsv := leAt l 14 1 < 2 ∧ leAt l 15 1 = 0 ∧ leAt l 18 14 = 0
    ∧ (List.range n).all (fun j => leAt l (37 + 8 * j) 3 == 0) ∧ l.length = 32 + 8 * n
  let s1 := (s.setAll [(Reg.CAR_P_CYCLE_NS i, leAt l 0 4), (Reg.CAR_P_BASE_SEC i, leAt l 4 4),
    (Reg.CAR_P_BASE_NS i, leAt l 10 4), (Reg.CAR_P_GATE_EN i, leAt l 14 1), (Reg.CAR_P_COUNT i, n)]).writeEntries i l (min n 256)
  if gateFieldsOk n (leAt l 0 4) (leAt l 10 4) iv && decide rsv && s.domEnabled s.activeDom then
    let g : GateList :=
      { en := leAt l 14 1 == 1, cycle := leAt l 0 4 * nsUnits, base := dtOf (leAt l 4 6) (leAt l 10 4) 0,
        entries := (List.range n).map (fun j => (leAt l (32 + 8 * j) 4 * nsUnits, leAt l (36 + 8 * j) 1)) }
    let (a, s2) := if s1.flying then s1.draw else (0, s1)
    (((s2.pendList i g (some t)).set (Reg.CAR_P_COMMIT_LAST_STATUS i) 0).mirrorSurf (a % 2 ^ 39) l).logHash t.fn d.obj 0 l
  else ((s1.set (Reg.CAR_P_COMMIT_LAST_STATUS i) 0x1D01).logHash t.fn d.obj 0x1D01 l).complete t 0x1D01 0

def execCarListLoad (d : Desc) (s : State) : Host.Outcome State Fault Refusal :=
  .next (s.runDesc carListSpec d actCarListLoad)

/-- Queue the next gate switch of the list in force on UNIT 144 + i (R346). -/
def State.queueGate (s : State) (i : Nat) : State :=
  let g := (s.port i).list
  if g.en && s.domEnabled s.activeDom then
    s.launchAt (144 + i) 4 (g.next (s.tickInstant s.lc)) (.gate i 0)
  else s

/-- Complete a list of tickets. -/
def State.completeAll (s : State) (c : Code) : List Ticket → State
  | [] => s
  | t :: l => (s.complete t c 0).completeAll c l

/-- GATE_LIST_SWAP (R349): at x the pending list takes effect. -/
def State.gateSwap (s : State) (i : Nat) : State :=
  match (s.port i).pend with
  | none => s
  | some (g, x) =>
    if s.domEnabled s.activeDom && s.due 1 x then
      let p := s.port i
      let s1 := s.setPort i { p with list := g, pend := none, tickets := [], gates := g.mask (s.tickInstant s.lc) }
      let s2 := (s1.setAll [(Reg.CAR_P_PENDING i, 0), (Reg.CAR_P_APPLY_SEC i, 0), (Reg.CAR_P_APPLY_NS i, 0),
        (Reg.CAR_P_BANK i, 1 - s.get (Reg.CAR_P_BANK i))]).bump (Reg.CAR_P_CNT_SWAP_CNT i)
      (((s2.raise 0x0D01 (objLane i) {}).completeAll 0 p.tickets).setQueue (144 + i) []).queueGate i
    else s

def execGateListSwap (i : Fin 16) (s : State) : Host.Outcome State Fault Refusal := .next (s.gateSwap i)

/-! ## Turnstile writes -/

/-- TRN_CTRL_WRITE (R352): MODE and OVH as written, and the queue's rate and bucket fields, are checked together; they
take effect with full buckets at the port's next frame boundary, at once while it sends nothing, or nothing changes. -/
def State.trnWrite (s : State) (q mode ovh : Nat) : State :=
  let cir := s.get (Reg.TRN_Q_CIR_MBPS q)
  let pir := s.get (Reg.TRN_Q_PIR_MBPS q)
  let cbs := s.get (Reg.TRN_Q_CBS_B q)
  let pbs := s.get (Reg.TRN_Q_PBS_B q)
  if mode ≤ 2 ∧ ovh ≤ 32 ∧ 1 ≤ cir ∧ cir ≤ pir ∧ pir ≤ 400000 ∧ 9248 ≤ cbs ∧ 9248 ≤ pbs then
    let s1 := (s.setAll [(Reg.TRN_Q_MODE q, mode), (Reg.TRN_Q_OVH q, ovh), (Reg.TRN_Q_LAST_STATUS q, 0)]).copyBank 0 2 (meterFields q)
    let p := s1.port (q / 8)
    (s1.setPort (q / 8) { p with turning := q :: p.turning.filter (· != q) }).settleMeters (q / 8)
  else s.set (Reg.TRN_Q_LAST_STATUS q) 0x1D03

def execTrnCtrlWrite (w : Writer) (q : Fin 128) (mode : Fin 4) (ovh : Fin 64) (s : State) : Host.Outcome State Fault Refusal :=
  .next (s.byWriter w (Reg.TRN_Q_MODE q).off (fun s =>
    let l := [Reg.TRN_Q_MODE q.val, Reg.TRN_Q_OVH q.val, Reg.TRN_Q_LAST_STATUS q.val]
    let s1 := s.trnWrite q mode ovh
    s1.logReg w (Reg.TRN_Q_MODE q).off (s1.get (Reg.TRN_Q_LAST_STATUS q)) (s.word l) (s1.word l)))

/-! ## Forwarding -/

/-- The ports a frame received on port `i` is forwarded to (R324). -/
def State.forwardPorts (s : State) (i : Nat) : List Nat :=
  (bitsOf 16 (s.get (Reg.LANE_FWD_MASK i))).filter (fun k => k != i && s.isPort k)

/-- Whether an enabled domain consumes a PTP frame received on a lane (R324). -/
def State.domainConsumes (s : State) (lane ptpDomain : Nat) : Bool :=
  ([0, 1] : List Nat).any (fun d => s.domEnabled d && s.get (Reg.TIM_DOM_SOURCE d) == 0
    && bit (s.get (Reg.TIM_DOM_LANE_MASK d)) lane && s.get (Reg.TIM_DOM_PTP_DOMAIN d) == ptpDomain)

/-- Whether a frame received on a port is forwarded in the present mode (R324). -/
def State.forwards (s : State) (i : Nat) (f : EthFrame) : Bool :=
  s.portActive i && (s.mode == 4 || match f.ptp with
    | none => false
    | some (_, dom) => !s.domainConsumes i dom.toNat)

/-- ETH_FRAME_FORWARD (R324, R340): the frame enters the queue of its class on each destination port, with its ingress
stamp when it is a PTP event message (R59). -/
def State.forward (s : State) (i : Nat) (f : EthFrame) : State :=
  if s.forwards i f then
    (s.forwardPorts i).foldl (fun s k =>
      s.enterQueue k (match f.pcp with | some c => c.val | none => s.get (Reg.CAR_P_DEFAULT_CLASS k))
        { frame := .forwarded i f.correction f.udp.toNat f.badFcs, len := f.len, stamp := s.lc, row := none, eligible := true,
          cover := none,
          tc := match f.ptp with
            | some (true, dom) => some (16 * s.lc + f.sub.val, dom.toNat)
            | _ => none }) s
  else s

def execEthFrameForward (i : Fin 16) (f : EthFrame) (s : State) : Host.Outcome State Fault Refusal := .next (s.forward i f)

end Sys2Proof.Machine
end

