-- ==== Sys2Proof/Machine/Flags.lean ====
section
/-! DEFINITION. The flags and checks computed from data: CRC words and comparisons of data sets. The block has no
condition flags; what the spec computes bit by bit stands here. -/

namespace Sys2Proof.Machine

/-- One bit step of a reflected CRC with polynomial `poly`. -/
def crcBit (poly c : Nat) : Nat := if c % 2 = 1 then c / 2 ^^^ poly else c / 2

/-- Eight bit steps. -/
def crcByte (poly c : Nat) : Nat :=
  crcBit poly (crcBit poly (crcBit poly (crcBit poly (crcBit poly (crcBit poly (crcBit poly (crcBit poly c)))))))

/-- A reflected CRC over bytes, from a register value. -/
def crcBytes (poly : Nat) : Nat → List Byte → Nat
  | c, [] => c
  | c, b :: l => crcBytes poly (crcByte poly (c ^^^ b.toNat)) l

/-- The reflected polynomial of CRC-32C. -/
def crc32cPoly : Nat := 0x82F63B78

/-- CRC-32C (chapter 07) from an initial register value, with the final XOR. -/
def crc32cInit (init : Nat) (l : List Byte) : Nat := crcBytes crc32cPoly init l ^^^ 0xFFFFFFFF

/-- CRC-32C of a byte string. -/
def crc32c (l : List Byte) : Nat := crc32cInit 0xFFFFFFFF l

/-- One bit step of an unreflected CRC of width `w`, message bit first. -/
def crcMsbBit (w poly : Nat) (c : Nat) (b : Bool) : Nat :=
  if (c.testBit (w - 1)) != b then (c * 2 % 2 ^ w) ^^^ poly else c * 2 % 2 ^ w

/-- An unreflected CRC over bits, first bit first. -/
def crcMsb (w poly : Nat) : Nat → List Bool → Nat
  | c, [] => c
  | c, b :: l => crcMsb w poly (crcMsbBit w poly c b) l

/-- The bits of a number of width `w`, most significant first. -/
def msbBits (w n : Nat) : List Bool := (List.range w).map (fun i => n.testBit (w - 1 - i))

/-- The comparison keys of an Announce data set, in the order of the default data set comparison of IEEE 1588
(PRESUMED, log entry 9: the spec names the comparison and does not spell it out). -/
def Master.keys (m : Master) : List Nat :=
  [m.data.priority1.toNat, m.data.clockClass.toNat, m.data.accuracy.toNat, m.data.variance.toNat,
   m.data.priority2.toNat, m.data.grandmaster.toNat, m.data.stepsRemoved.toNat, m.sender]

/-- Whether one list of keys comes before another, key by key. -/
def keysBefore : List Nat → List Nat → Bool
  | x :: l, y :: r => if x = y then keysBefore l r else decide (x < y)
  | _, _ => false

/-- The best master of a list (R47). -/
def bestMaster : List Master → Option Master
  | [] => none
  | m :: l => match bestMaster l with
    | none => some m
    | some b => if keysBefore b.keys m.keys then some b else some m

end Sys2Proof.Machine
end

