-- ==== Sys2Proof/Machine/Ringmaster.lean ====
section
/-! DEFINITION. Ringmaster (chapter 02): time domains and their servo, the active domain, PTP and PPS events, launch
words written and cancelled, and the tick of the local count. -/

namespace Sys2Proof.Machine

/-! ## The log of TIM_ writes -/

/-- A TIM_ write is logged with its code (R57, R75). -/
def State.logTim (s : State) (w : Writer) (f : Field) (code : Code) (new : Nat) : State :=
  s.logReg w f.off code 0 new

/-! ## Mappings -/

/-- The servo states (the STATE codes of TIM_DOMn_STATUS). -/
def servoFreerun : Nat := 0
def servoAcquire : Nat := 1
def servoLocked : Nat := 2
def servoHoldover : Nat := 3

/-- STATE of a domain. -/
def State.servo (s : State) (d : Nat) : Nat := s.get (Reg.TIM_DOM_STATE d)

/-- Put a domain in a servo state; the runs of good samples start again. -/
def State.toServo (s : State) (d st : Nat) : State :=
  (s.set (Reg.TIM_DOM_STATE d) st).setDomain d { s.domain d with near := 0, inJump := 0 }

/-- The last mapping of a list, else a given one. -/
def lastMap (m : Mapping) : List (Nat × Mapping) → Mapping
  | [] => m
  | e :: l => lastMap e.2 l

/-- The mapping a further change of a domain starts from: the last one still to govern, else the one in force. -/
def Domain.latest (x : Domain) : Mapping := lastMap x.map x.next

/-- Change a domain's mapping at the next tick u (R42): it is re-anchored there, stepped by `off` units, and given a
rate; the change governs from tick u + 1, after those accepted before it. -/
def State.remap (s : State) (d : Nat) (rate : Int) (off : Int) : State :=
  let x := s.domain d
  s.setDomain d { x with next := x.next ++ [(s.lc + 2, (x.latest.reanchor (s.lc + 1) rate).shift off)] }

/-- The limit of RATE (R43). -/
def rateLimit : Int := 219902326

/-- An exact frequency in units of 2^-40; the spec gives no rounding (free, log entry 10). -/
def rateUnits (q : Rat) : Int :=
  let f : Int := (q * 2 ^ 40).floor
  if q * 2 ^ 40 = (f : Rat) then f else if Config.roundsUp 0 q then f + 1 else f

/-- Drive a domain's rate, held at the limit; a sample that would pass the limit is counted (R43). -/
def State.drive (s : State) (d : Nat) (q : Rat) (sample : Bool) : State :=
  let v := rateUnits q
  let r := if v < -rateLimit then -rateLimit else if rateLimit < v then rateLimit else v
  let s1 := s.remap d r 0
  if r ≠ v ∧ sample then s1.bump (Reg.TIM_DOM_DISCARD_CNT d) else s1

/-! ## Switching the active domain -/

/-- The change of rate a slew may add, in units of 2^-40 (R56). -/
def State.slewRate (s : State) : Int := ((s.get Reg.TIM_CTRL_SLEW_PPB * 2 ^ 40 / 1000000000 : Nat) : Int)

/-- A slewing mapping from an active DT at tick k toward a domain's mapping (R56). -/
def State.slewFrom (s : State) (dt : Int) (k : Nat) (m : Mapping) : Mapping :=
  { dt := dt, lc := k, rate := if dt < m.at k then m.rate + s.slewRate else m.rate - s.slewRate }

/-- Whether an active DT is within one tick of its domain's. -/
def withinTick (a b : Int) : Bool := decide (-(tickUnits : Int) ≤ a - b ∧ a - b ≤ (tickUnits : Int))

/-- Switch the active domain (R56): its DT goes on without a step and slews toward the new domain. While the domain left is
disabled there is no active DT to go on from, and the new domain's is taken at once (DESIGN CHOICE, log entry 4). -/
def State.switchTo (s : State) (d : Nat) : State :=
  let dt := s.activeDt
  let m := (s.domain d).map
  if !s.domEnabled s.activeDom || withinTick dt (m.at s.lc) then
    ({ s with tim := { s.tim with slew := none, frozen := none } } : State).setAll [(Reg.TIM_CTRL_ACTIVE, d), (Reg.TIM_CTRL_SLEWING, 0)]
  else
    ({ s with tim := { s.tim with slew := some (s.slewFrom dt s.lc m) } } : State).setAll
      [(Reg.TIM_CTRL_ACTIVE, d), (Reg.TIM_CTRL_SLEWING, 1)]

/-- TIM_'s block number (R512). -/
def blockTim : Nat := 5

/-- The primary domain leaves LOCKED: with POLICY SWITCH and the secondary LOCKED, the active domain switches (R55). -/
def State.primaryLeft (s : State) : State :=
  if s.get Reg.TIM_CTRL_POLICY = 1 ∧ s.activeDom = 0 ∧ s.domEnabled 1 ∧ s.servo 1 = servoLocked then
    ((s.switchTo 1).raise 0x5203 objDevice { w16 := 1 }).logUnit originHw 0 0x5203 blockTim 1
  else s

/-- A domain enters HOLDOVER with RATE at the integrator's value (R52, R53); for the primary leaving LOCKED, R55
follows after the event. -/
def State.toHoldover (s : State) (d : Nat) (flag : Field) (code : Code) (w16 : Nat) : State :=
  let s1 := ((s.drive d (s.domain d).integ false).toServo d servoHoldover).flag flag 1
  let s2 := s1.raise code objDevice { w16 := w16 }
  if d = 0 ∧ s.servo 0 = servoLocked then s2.primaryLeft else s2

/-! ## Samples -/

/-- KP and KI as fractions (R51). -/
def State.kp (s : State) (d : Nat) : Rat := (s.get (Reg.TIM_DOM_KP d) : Rat) / 256
def State.ki (s : State) (d : Nat) : Rat := (s.get (Reg.TIM_DOM_KI d) : Rat) / 256

/-- Write a domain's integrator. -/
def State.setInteg (s : State) (d : Nat) (q : Rat) : State := s.setDomain d { s.domain d with integ := q }

/-- The PI rule (R51). -/
def State.piRule (s : State) (d : Nat) (theta ts : Rat) : State :=
  let i := (s.domain d).integ - s.ki d * theta / ts
  (s.setInteg d i).drive d (i - s.kp d * theta / ts) true

/-- The second sample after a step (R518); `delta` is the time between the two in the DT after the step. -/
def State.secondSample (s : State) (d : Nat) (theta ts : Rat) (theta1 : Rat) (t2a t2 : Int) : State :=
  let delta : Rat := ((t2 - t2a : Int) : Rat) / nsUnits + theta1
  let i := (((s.domain d).latest.rate : Rat) / 2 ^ 40) - theta / delta
  ((s.setDomain d { s.domain d with step := none }).setInteg d i).drive d (i - s.kp d * theta / ts) true

/-- A stepping sample (R518): DT moves by −theta, RATE stays. The t2 that R519 counts from and those of the Syncs still
outstanding move with it. The run of samples within 100 ns starts again after it, whatever its own offset (DESIGN CHOICE, log
entry 6). -/
def State.stepSample (s : State) (d : Nat) (theta : Rat) (t2 : Int) : State :=
  let off := (-(theta * nsUnits)).floor
  let x := s.domain d
  (s.remap d x.latest.rate off).setDomain d
    { (s.remap d x.latest.rate off).domain d with
        step := some (theta, t2), acceptJump := false, near := 0, lastT2 := x.lastT2.map (· + off),
        syncs := x.syncs.map (fun y => { y with t2 := y.t2 + off }) }

/-- Count a run of samples in ACQUIRE within 100 ns; the 16th locks the domain. -/
def State.countNear (s : State) (d : Nat) (theta : Rat) : State :=
  if ratAbs theta ≤ 100 then
    if 15 ≤ (s.domain d).near then s.toServo d servoLocked
    else s.setDomain d { s.domain d with near := (s.domain d).near + 1 }
  else s.setDomain d { s.domain d with near := 0 }

/-- A sample in ACQUIRE (the ACQUIRE row of the state table, R51, R518). -/
def State.acquireSample (s : State) (d : Nat) (theta ts : Rat) (t2 : Int) : State :=
  if (s.domain d).acceptJump ∨ (s.get (Reg.TIM_DOM_STEP_US d) : Rat) * 1000 < ratAbs theta then s.stepSample d theta t2
  else
    (match (s.domain d).step with
     | some (theta1, t2a) => s.secondSample d theta ts theta1 t2a t2
     | none => s.piRule d theta ts).countNear d theta

/-- An accepted sample by the servo's state (the state table, R51 to R53). -/
def State.servoSample (s : State) (d : Nat) (theta ts : Rat) (t2 : Int) : State :=
  let jump := decide ((s.get (Reg.TIM_DOM_JUMP_NS d) : Rat) < ratAbs theta)
  if s.servo d = servoFreerun then (s.toServo d servoAcquire).acquireSample d theta ts t2
  else if s.servo d = servoAcquire then s.acquireSample d theta ts t2
  else if s.servo d = servoLocked then
    if jump then s.toHoldover d (Reg.TIM_DOM_JUMP_FLAG d) 0x5201 d else s.piRule d theta ts
  else if jump then s.setDomain d { s.domain d with inJump := 0 }
  else if 7 ≤ (s.domain d).inJump then s.toServo d servoLocked
  else s.setDomain d { s.domain d with inJump := (s.domain d).inJump + 1 }

/-- THETA of an accepted sample, signed ns, saturating; the spec gives no rounding (free, log entry 10). -/
def thetaNs (theta : Rat) : Nat :=
  let f : Int := theta.floor
  unsigned 32 (saturate 32 (if theta = (f : Rat) then f else if Config.roundsUp 1 theta then f + 1 else f))

/-- The mean of a list of numbers. -/
def mean (l : List Rat) : Rat := l.foldl (· + ·) 0 / l.length

/-- A sample with its mean path delay: discarded above the running mean (R49), else accepted and applied. -/
def State.sample (s : State) (d : Nat) (theta ts : Rat) (mpd : Option Rat) (t2 : Int) : State :=
  let x := s.domain d
  match mpd with
  | none => (s.set (Reg.TIM_DOM_THETA d) (thetaNs theta)).servoSample d theta ts t2
  | some p =>
    if x.mpds.length = 16 ∧ mean x.mpds + 2000 < p then s.bump (Reg.TIM_DOM_DISCARD_CNT d)
    else ((s.setDomain d { x with mpds := (p :: x.mpds).take 16 }).set (Reg.TIM_DOM_THETA d) (thetaNs theta)).servoSample d
      theta ts t2

/-! ## PTP messages -/

/-- A PTP timestamp in units of 2^-16 ns. -/
def ptpUnits (t : PtpTime) : Int := dtOf t.sec.toNat t.ns.val 0

/-- Whether an enabled domain receives a message: its source is PTP, the lane is in LANE_MASK, the number is its own. -/
def State.hears (s : State) (d : Nat) (h : PtpHeader) : Bool :=
  s.domEnabled d && s.get (Reg.TIM_DOM_SOURCE d) == 0 && bit (s.get (Reg.TIM_DOM_LANE_MASK d)) h.lane.val
    && h.domain == some (BitVec.ofNat 8 (s.get (Reg.TIM_DOM_PTP_DOMAIN d)))

/-- Origin PTP (R469). -/
def originPtp : Nat := 5

/-- A malformed message at a domain (R48): counted, logged, raised. -/
def State.ptpError (s : State) (d lane : Nat) : State :=
  ((s.bump (Reg.TIM_DOM_PTP_ERR_CNT d)).logUnit originPtp lane 0x4201 blockTim lane).raise 0x4201 objDevice
    { w16 := lane + 256 * d }

/-- Whether an enabled domain receives PTP on a lane. -/
def State.listens (s : State) (d lane : Nat) : Bool :=
  s.domEnabled d && s.get (Reg.TIM_DOM_SOURCE d) == 0 && bit (s.get (Reg.TIM_DOM_LANE_MASK d)) lane

/-- Count a malformed message that names no domain at each domain that receives PTP on its lane. -/
def State.countShort (s : State) (lane : Nat) : State :=
  let s1 := if s.listens 0 lane then s.bump (Reg.TIM_DOM_PTP_ERR_CNT 0) else s
  if s.listens 1 lane then s1.bump (Reg.TIM_DOM_PTP_ERR_CNT 1) else s1

/-- Deliver a message to each domain that receives it; a malformed one is an error at each (R48). One too short to
name a domain is logged and raised once, for no domain (0xFF of R517), and counted at each domain that receives PTP on the lane. A
malformed message that names a domain number no enabled domain uses is no violation, as the last sentence of R48 says, and R517's
0xFF is left to those that name none (DESIGN CHOICE, log entry 7). -/
def State.ptp (s : State) (h : PtpHeader) (act : Nat → State → State) : State :=
  let one := fun (s : State) (d : Nat) =>
    if s.hears d h then (if h.malformed then s.ptpError d h.lane else act d s) else s
  if h.malformed ∧ h.domain = none then
    ((s.countShort h.lane).logUnit originPtp h.lane 0x4201 blockTim h.lane).raise 0x4201 objDevice { w16 := h.lane + 256 * 0xFF }
  else one (one s 0) 1

/-- Whether a message comes from a domain's selected master. -/
def State.fromMaster (s : State) (d : Nat) (h : PtpHeader) : Bool :=
  match (s.domain d).master with
  | none => false
  | some m => m.sender == h.sender.toNat

/-- DT of a domain at a timestamp point of this tick (R41, R47). -/
def State.stampDt (s : State) (d sub : Nat) : Int := (s.domain d).map.at16 s.lc sub

/-- The Sync interval of R519 in ns. -/
def Domain.tsNs (x : Domain) : Rat :=
  let e := max x.logSync (-7)
  if 0 ≤ e then 1000000000 * 2 ^ e.toNat else 1000000000 / 2 ^ (-e).toNat

/-- The least distance of two Syncs that give samples (R519), in 2^-16 ns. -/
def minSync : Int := 5859375 * nsUnits

/-- Complete the sample when both exchanges are known (R49, R51, R519). -/
def State.trySample (s : State) (d : Nat) : State :=
  let x := s.domain d
  match x.sync, x.req with
  | some y, some r =>
    match y.t1, r.answer with
    | some t1, some (t4, cd) =>
      let ms : Rat := ((y.t2 - t1 - y.corr : Int) : Rat) / nsUnits
      let sm : Rat := ((t4 - r.t3 - cd : Int) : Rat) / nsUnits
      let s1 := s.setDomain d { x with sync := none, req := none, lastT2 := some y.t2 }
      s1.sample d (ms - (ms + sm) / 2) x.tsNs (some ((ms + sm) / 2)) y.t2
    | _, _ => s
  | _, _ => s

/-- Whether R519 lets a Sync stamped t2 give a sample. -/
def Domain.gives (x : Domain) (t2 : Int) : Bool :=
  match x.lastT2 with
  | none => true
  | some l => decide (minSync ≤ t2 - l)

/-- Whether a Sync is the one a header's sender and sequence number name. -/
def PendingSync.names (y : PendingSync) (h : PtpHeader) : Bool := y.sender == h.sender.toNat && y.seq == h.seq.toNat

/-- SYNC_RX (R519): a Sync is stamped at t2. A one-step Sync of the selected master brings t1 and starts a sample when R519 allows
it; a two-step Sync, of whatever sender, is outstanding until its Follow_Up comes (R48). -/
def State.syncRx (s : State) (h : PtpHeader) (t1 : Option PtpTime) (d : Nat) : State :=
  let mine := s.fromMaster d h
  let x := if mine then { s.domain d with logSync := h.logInterval } else s.domain d
  let y : PendingSync :=
    { t2 := s.stampDt d h.sub, corr := h.correction, seq := h.seq.toNat, sender := h.sender.toNat, mine := mine, t1 := t1.map ptpUnits }
  if t1.isNone then s.setDomain d { x with syncs := y :: x.syncs.filter (fun z => !(z.names h)) }
  else if mine && x.gives y.t2 then (s.setDomain d { x with sync := some y }).trySample d
  else s.setDomain d x

def execSyncRx (h : PtpHeader) (t1 : Option PtpTime) (s : State) : Host.Outcome State Fault Refusal :=
  .next (s.ptp h (fun d s => s.syncRx h t1 d))

/-- FOLLOW_UP_RX (R48, R50): t1 and correctionField of the two-step Sync it matches; one that matches none is malformed. A
Sync whose Follow_Up comes after one Sync interval, or that R519 bars, gives no sample. -/
def State.followUpRx (s : State) (h : PtpHeader) (t1 : PtpTime) (d : Nat) : State :=
  let x := s.domain d
  match x.syncs.find? (fun y => y.names h) with
  | none => s.ptpError d h.lane
  | some y =>
    let x1 := { x with syncs := x.syncs.filter (fun z => !(z.names h)) }
    if y.mine && s.fromMaster d h && x.gives y.t2 && decide (((s.stampDt d h.sub - y.t2 : Int) : Rat) / nsUnits ≤ x.tsNs) then
      (s.setDomain d { x1 with sync := some { y with corr := y.corr + h.correction, t1 := some (ptpUnits t1) } }).trySample d
    else s.setDomain d x1

def execFollowUpRx (h : PtpHeader) (t1 : PtpTime) (s : State) : Host.Outcome State Fault Refusal :=
  .next (s.ptp h (fun d s => s.followUpRx h t1 d))

/-- The length of a Delay_Req frame: Ethernet, IPv4, UDP, 44 B of PTP and FCS. -/
def delayReqLen : Nat := 90

/-- DELAY_REQ_SEND (R47): a domain with a selected master sends Delay_Req on one of its lanes and stamps t3. -/
def State.delayReqSend (s : State) (d lane sub : Nat) : State :=
  let x := s.domain d
  if s.domEnabled d && s.get (Reg.TIM_DOM_SOURCE d) == 0 && bit (s.get (Reg.TIM_DOM_LANE_MASK d)) lane
      && s.portActive lane && x.master.isSome then
    (s.setDomain d { x with req := some { seq := x.reqSeq, t3 := s.stampDt d sub, answer := none },
                            reqSeq := (x.reqSeq + 1) % 2 ^ 16 }).originate lane
      (.delayReq (s.get (Reg.TIM_DOM_PTP_DOMAIN d)) x.reqSeq
        (if s.on (Reg.TIM_DOM_DREQ_UNI d) then x.master.map (fun m => (m.data.mac.toNat, m.data.ip.toNat)) else none)) delayReqLen
  else s

def execDelayReqSend (d : Fin 2) (lane sub : Fin 16) (s : State) : Host.Outcome State Fault Refusal :=
  .next (s.delayReqSend d lane sub)

/-- DELAY_RESP_RX (R48, R51): the selected master's answer to the outstanding Delay_Req; one that matches none, of whatever
sender, is malformed. -/
def State.delayRespRx (s : State) (h : PtpHeader) (t4 : PtpTime) (d : Nat) : State :=
  let x := s.domain d
  match x.req with
  | some r =>
    if r.seq = h.seq.toNat ∧ r.answer = none then
      if s.fromMaster d h then
        (s.setDomain d { x with req := some { r with answer := some (ptpUnits t4, h.correction) } }).trySample d
      else s
    else s.ptpError d h.lane
  | none => s.ptpError d h.lane

def execDelayRespRx (h : PtpHeader) (t4 : PtpTime) (s : State) : Host.Outcome State Fault Refusal :=
  .next (s.ptp h (fun d s => s.delayRespRx h t4 d))

/-- Select the best master heard; exchanges with another one are dropped. -/
def State.selectMaster (s : State) (d : Nat) : State :=
  let x := s.domain d
  let m := bestMaster x.heard
  if m.map (·.sender) = x.master.map (·.sender) then s.setDomain d { x with master := m }
  else s.setDomain d { x with master := m, sync := none, req := none }

/-- ANNOUNCE_RX (R47): the sender's data set enters best master selection and stays in it until the master is selected and lost:
the spec ages only the selected master (R52), and no entry of another one (DESIGN CHOICE, log entry 100). -/
def State.announceRx (s : State) (h : PtpHeader) (a : Announce) (d : Nat) : State :=
  let x := s.domain d
  (s.setDomain d { x with heard := ⟨h.sender.toNat, a⟩ :: x.heard.filter (fun m => m.sender != h.sender.toNat) }).selectMaster d

def execAnnounceRx (h : PtpHeader) (a : Announce) (s : State) : Host.Outcome State Fault Refusal :=
  .next (s.ptp h (fun d s => s.announceRx h a d))

/-- MASTER_LOSS (R52): the selected master is lost; the domain goes to HOLDOVER and selection may choose another. A
domain in FREERUN has only ACQUIRE to leave to, and stays. -/
def State.masterLoss (s : State) (d : Nat) : State :=
  let x := s.domain d
  if s.domEnabled d && s.get (Reg.TIM_DOM_SOURCE d) == 0 then
    let s1 := (s.setDomain d { x with heard := x.heard.filter (fun m => x.master.map (·.sender) != some m.sender) }).selectMaster d
    if s.servo d = servoFreerun then s1 else s1.toHoldover d (Reg.TIM_DOM_LOSS_FLAG d) 0x5202 d
  else s

def execMasterLoss (d : Fin 2) (s : State) : Host.Outcome State Fault Refusal := .next (s.masterLoss d)

/-! ## Writes of TIM_ controls -/

/-- Write one snapshot DT. -/
def State.snapDt (s : State) (m : Nat) (t : Int) : State :=
  s.setAll [(Reg.TIM_SNAP_DT_SEC_LO m, dtSec t), (Reg.TIM_SNAP_DT_SEC_HI m, dtSec t / 2 ^ 32),
    (Reg.TIM_SNAP_DT_NS m, dtNs t), (Reg.TIM_SNAP_DT_FRAC m, dtFrac t)]

/-- SNAP (R45, R46): LC and the three DTs of one tick. -/
def State.snap (s : State) : State :=
  (((s.set64 Reg.TIM_SNAP_LC_LO Reg.TIM_SNAP_LC_HI s.lc).snapDt 0 (s.domDt 0)).snapDt 1 (s.domDt 1)).snapDt 2 s.activeDt

def execSnap (w : Writer) (s : State) : Host.Outcome State Fault Refusal :=
  .next (s.byWriter w Reg.TIM_SNAP_SNAP.off (fun s => s.snap.logTim w Reg.TIM_SNAP_SNAP 0 1))

/-- What REVERT does, and its code (R57). -/
def State.revertAct (s : State) : State × Code :=
  if s.activeDom = 0 then (s, 0)
  else if s.domEnabled 0 ∧ s.servo 0 = servoLocked then (s.switchTo 0, 0)
  else (s.raise 0x1206 objDevice {}, 0x1206)

/-- REVERT (R57), logged. -/
def State.revert (s : State) (w : Writer) : State := s.revertAct.1.logTim w Reg.TIM_CTRL_REVERT s.revertAct.2 0x80

def execRevert (w : Writer) (s : State) : Host.Outcome State Fault Refusal :=
  .next (s.byWriter w Reg.TIM_CTRL_REVERT.off (fun s => s.revert w))

/-- Compute x of every pending gate list again (R516). -/
def State.renewGates (s : State) : State :=
  (List.range 16).foldl (fun s i => (s.renewX i).queueGate i) s

/-- A domain is enabled: FREERUN, anchored at DT 0 at this tick, RATE 0 (R41, the FREERUN row). -/
def State.domainEnable (s : State) (d : Nat) : State :=
  if s.domEnabled d then s
  else
    let s1 := (s.setDomain d { Domain.reset with map := ⟨0, s.lc, 0⟩, reqSeq := (s.domain d).reqSeq, tod := (s.domain d).tod, todFresh := (s.domain d).todFresh }).setAll
      [(Reg.TIM_DOM_ENABLE d, 1), (Reg.TIM_DOM_STATE d, servoFreerun), (Reg.TIM_DOM_RATE d, 0)]
    if d = s.activeDom then ({ s1 with tim := { s1.tim with frozen := none, slew := none } } : State).renewGates else s1


/-- Whether a queued launch follows a domain that is disabled (R516). -/
def followsDomain (d active : Nat) (q : QLaunch) : Bool := q.ref == d + 2 || (q.ref == 1 && d == active)

/-- A domain is disabled (R516): its launches go, its DT is gone, and when it is the active one the outputs go on with
its mapping frozen. -/
def State.domainDisable (s : State) (d : Nat) : State :=
  let a := s.activeDom
  let s1 := if d = a then { s with tim := { s.tim with frozen := some s.activeMap, slew := none } } else s
  let s2 := (if d = a then s1.set Reg.TIM_CTRL_SLEWING 0 else s1).cancelAll (followsDomain d a)
  (s2.setDomain d { s2.domain d with next := [], master := none, heard := [], syncs := [], sync := none, req := none }).setAll
    [(Reg.TIM_DOM_ENABLE d, 0), (Reg.TIM_DOM_STATE d, 0)]

/-- Whether disabling a domain is refused: it is the active one and a slot follows it (R516). -/
def State.disableRefused (s : State) (d : Nat) : Bool :=
  d == s.activeDom && ([0, 1, 2, 3] : List Nat).any (fun n => s.slotBusy n)


/-- ACCEPT_JUMP (R53): HOLDOVER to ACQUIRE; ignored in other states. -/
def State.acceptJump (s : State) (d : Nat) : State :=
  if s.domEnabled d ∧ s.servo d = servoHoldover then
    let s1 := s.toServo d servoAcquire
    s1.setDomain d { s1.domain d with acceptJump := true, step := none }
  else s

def execAcceptJump (w : Writer) (d : Fin 2) (s : State) : Host.Outcome State Fault Refusal :=
  .next (s.byWriter w (Reg.TIM_DOM_ACCEPT_JUMP d).off (fun s =>
    (s.acceptJump d).logTim w (Reg.TIM_DOM_ACCEPT_JUMP d) 0 (2 ^ 30)))

/-- TOD_SEC (R54): the second the next PPS_IN edge denotes; seconds [47:32] are kept. -/
def State.todWrite (s : State) (d sec : Nat) : State :=
  let x := s.domain d
  let hi := match x.tod with
    | some t => t / 2 ^ 32
    | none => dtSec (s.domDt d) / 2 ^ 32
  s.setDomain d { x with tod := some (hi * 2 ^ 32 + sec), todFresh := true }

def execTodSecWrite (w : Writer) (d : Fin 2) (sec : BitVec 32) (s : State) : Host.Outcome State Fault Refusal :=
  .next (s.byWriter w (Reg.TIM_DOM_TOD_SEC d).off (fun s =>
    (s.todWrite d sec.toNat).logTim w (Reg.TIM_DOM_TOD_SEC d) 0 sec.toNat))

/-! ## Launch words -/

/-- The BAR0 offset of the queue window of a unit. -/
def launchWindow (u : Nat) : Nat := 0x141000 + 0x10 * u

/-- A launch word written by supervisor firmware (R65, R72): rejected, refused by a full queue, or queued. -/
def State.launchWrite (s : State) (p : Nat) (w : Nat) : State :=
  let log := fun (c : Code) (t : State) => t.logReg (.super (Fin.ofNat 4 p)) (launchWindow (lwUnit w)) c 0 (w / 2 ^ 96)
  if !s.launchValid w then log 0x1202 s
  else if queueDepth ≤ (s.queue (lwUnit w)).length then log 0x2201 s
  else log 0 (s.enqueue (lwUnit w)
    { kind := lwKind w, ref := lwRef w, tag := lwTag w, instant := lwInstant w, accepted := s.lc, act := .firmware })

def execLaunchWindowWrite (p : Fin 4) (w : BitVec 128) (s : State) : Host.Outcome State Fault Refusal :=
  .next (s.byWriter (.super p) (launchWindow (lwUnit w.toNat)) (fun s => s.launchWrite p w.toNat))

/-- A word written to a register of the queue window (R75): the three low words of a unit are held, and the write of the highest
word queues the launch. The launch word's own UNIT names the queue (DESIGN CHOICE, log entry 101). -/
def State.windowWrite (s : State) (p : Fin 4) (off v : Nat) : State :=
  let r := (off - launchWindow 0) / 4
  let held := fun (j : Nat) => Table.getD s.tim.window (r / 4 * 4 + j) 0
  if r % 4 = 3 then s.launchWrite p (held 0 + 2 ^ 32 * held 1 + 2 ^ 64 * held 2 + 2 ^ 96 * v)
  else { s with tim := { s.tim with window := Table.put s.tim.window r v } }

/-- Whether an offset is a register of the queue window (R75). -/
def isWindow (off : Nat) : Bool := decide (launchWindow 0 ≤ off ∧ off < launchWindow 1024 ∧ off % 4 = 0)

/-- Whether a unit's head launch fires in this tick: it is due, it was accepted before, and the unit has not fired in this
tick (R71). -/
def State.firesNow (s : State) (u : Nat) : Bool :=
  match s.queue u with
  | [] => false
  | q :: _ => s.due q.ref q.instant && decide (q.accepted < s.lc) && Table.find s.tim.fired u != some s.lc

/-- LAUNCH_CANCEL (R73): the launches of a unit with a tag go, except one that fires in this tick. -/
def State.launchCancel (s : State) (u tag : Nat) : State :=
  if s.firesNow u then
    match s.queue u with
    | [] => s
    | q :: l => ((s.setQueue u l).cancel u (fun x => x.tag == tag)).setQueue u (q :: l.filter (fun x => !(x.tag == tag)))
  else s.cancel u (fun x => x.tag == tag)

def execLaunchCancel (w : Writer) (u : BitVec 10) (tag : BitVec 16) (s : State) : Host.Outcome State Fault Refusal :=
  .next (s.byWriter w Reg.TIM_LCANCEL_UNIT.off (fun s =>
    (s.launchCancel u.toNat tag.toNat).logTim w Reg.TIM_LCANCEL_UNIT 0 (u.toNat * 2 ^ 16 + tag.toNat)))

/-! ## Slews, PPS and references -/

/-- SLEW_END (R56): within one tick of its domain, the active DT equals it from then on. -/
def State.slewEnd (s : State) : State :=
  match s.tim.slew with
  | none => s
  | some m =>
    if withinTick (m.at s.lc) ((s.domain s.activeDom).map.at s.lc) then
      ({ s with tim := { s.tim with slew := none } } : State).set Reg.TIM_CTRL_SLEWING 0
    else s

def execSlewEnd (s : State) : Host.Outcome State Fault Refusal := .next s.slewEnd

/-- IN_COMP_NS and OUT_COMP_NS, signed, in 2^-16 ns. -/
def State.inComp (s : State) : Int := signed 16 (s.get Reg.TIM_PPS_IN_COMP_NS) * nsUnits
def State.outComp (s : State) : Int := signed 16 (s.get Reg.TIM_PPS_OUT_COMP_NS) * nsUnits

/-- A PPS_IN edge at one domain (R54): it denotes a whole second; the first edge after TOD_SEC always is a sample, a
later one more than 1 µs off is discarded. -/
def State.ppsAt (s : State) (sub d : Nat) : State :=
  if s.domEnabled d && s.get (Reg.TIM_DOM_SOURCE d) == 1 then
    let x := s.domain d
    match x.tod with
    | none => s
    | some t =>
      let dt := s.stampDt d sub + s.inComp
      let off := dt - (t : Int) * secUnits
      let s1 := s.setDomain d { x with tod := some ((t + 1) % 2 ^ 48), todFresh := false }
      if !x.todFresh && !(decide (-(1000 * nsUnits : Int) ≤ off ∧ off ≤ 1000 * nsUnits)) then
        s1.bump (Reg.TIM_DOM_DISCARD_CNT d)
      else s1.sample d ((off : Rat) / nsUnits) 1000000000 none dt
  else s

/-- PPS_IN_EDGE (R54): PPS_IN is present, and each domain that follows it takes the sample. -/
def State.ppsInEdge (s : State) (sub : Nat) : State :=
  ((s.set Reg.TIM_REFSTAT_PPS_OK 1).ppsAt sub 0).ppsAt sub 1

def execPpsInEdge (sub : Fin 16) (s : State) : Host.Outcome State Fault Refusal := .next (s.ppsInEdge sub)

/-- PPS_IN is lost at a domain that follows it (R52, R54). -/
def State.ppsLost (s : State) (d : Nat) : State :=
  if s.domEnabled d && s.get (Reg.TIM_DOM_SOURCE d) == 1 && s.servo d != servoFreerun then
    s.toHoldover d (Reg.TIM_DOM_LOSS_FLAG d) 0x5202 (d + 256)
  else s

/-- PPS_IN_LOSS (R54, R63). -/
def State.ppsInLoss (s : State) : State :=
  ((((s.set Reg.TIM_REFSTAT_PPS_OK 0).flag Reg.TIM_REFSTAT_PPS_LOST 1).raise 0x5204 objDevice { w16 := 1 }).ppsLost 0).ppsLost 1

def execPpsInLoss (s : State) : Host.Outcome State Fault Refusal := .next s.ppsInLoss

/-- CLK10_IN_LOSS (R63). -/
def State.clk10InLoss (s : State) : State :=
  ((s.set Reg.TIM_REFSTAT_CLK10_OK 0).flag Reg.TIM_REFSTAT_CLK10_LOST 1).raise 0x5204 objDevice {}

def execClk10InLoss (s : State) : Host.Outcome State Fault Refusal := .next s.clk10InLoss

/-- The mapping the outputs follow (R62): the active DT's, or, while the active domain is disabled, the one frozen then (R516). -/
def State.outMap (s : State) : Option Mapping := if s.domEnabled s.activeDom then some s.activeMap else s.tim.frozen

/-- The sixteenth of tick k at which an instant falls on a mapping, when it falls in that tick (R62). -/
def Mapping.sub16 (m : Mapping) (k : Nat) (x : Int) : Option Nat :=
  if m.at k ≤ x ∧ x < m.at (k + 1) then some (((List.range 16).filter (fun j => decide (m.at16 k j ≤ x))).length - 1) else none

/-- The first instant at or after a tick that is `off` past a whole multiple of `per`. -/
def Mapping.nextEdge (m : Mapping) (k : Nat) (per off : Int) : Int := off + per * ((m.at k - off + per - 1) / per)

/-- The sixteenth of this tick at which an output's edge falls: every `per`, `off` after its multiples and OUT_COMP_NS later. -/
def State.outEdge (s : State) (per off : Int) : Option Nat :=
  match s.outMap with
  | none => none
  | some m => m.sub16 s.lc (m.nextEdge s.lc per (off + s.outComp))

/-- CLK10_OUT in a tick (R62): a rising edge at every whole 100 ns of the DT the outputs follow, a falling one 50 ns later. -/
def State.clk10Tick (s : State) : State :=
  if s.on Reg.TIM_PPS_CLK10_OUT_EN then
    match s.outEdge (100 * nsUnits) 0, s.outEdge (100 * nsUnits) (50 * nsUnits) with
    | some j, _ => s.emit (.edge .clk10Out true j)
    | none, some j => s.emit (.edge .clk10Out false j)
    | none, none => s
  else s

/-- PLL_REF_SWITCH (R40): with its selected 10 MHz input lost, the PLL runs from the system clock; PLL_REF and LC stay. -/
def execPllRefSwitch (s : State) : Host.Outcome State Fault Refusal :=
  .next (if s.tim.pllClk10 && !s.on Reg.TIM_REFSTAT_CLK10_OK then { s with tim := { s.tim with pllClk10 := false } } else s)

/-- PPS_OUT_EDGE (R62): in the tick of a whole second of the DT the outputs follow, plus OUT_COMP_NS, PPS_OUT rises and stays high
for WIDTH_US; in another tick there is no edge. -/
def execPpsOutEdge (s : State) : Host.Outcome State Fault Refusal :=
  .next (match s.outEdge secUnits 0 with
    | some j => if s.on Reg.TIM_PPS_OUT_EN then s.emit (.pulse .ppsOut (s.get Reg.TIM_PPS_WIDTH_US) j) else s
    | none => s)

/-! ## The tick -/

/-- The mapping changes that have come to govern, in order (R42). -/
def State.governs (s : State) (d : Nat) : State :=
  let x := s.domain d
  let come := x.next.filter (fun e => decide (e.1 ≤ s.lc))
  if come.isEmpty then s
  else
    let m := lastMap x.map come
    let s1 := (s.setDomain d { x with map := m, next := x.next.filter (fun e => !(decide (e.1 ≤ s.lc))) }).set
      (Reg.TIM_DOM_RATE d) (unsigned 32 m.rate)
    match s1.tim.slew with
    | none => s1
    | some y =>
      if d = s1.activeDom then
        { s1 with tim := { s1.tim with slew := some (s1.slewFrom (y.at (s.lc - 1)) (s.lc - 1) m) } }
      else s1

/-- One tick of the local count (R39, R42). -/
def State.tickTime (s : State) : State := ((({ s with lc := s.lc + 1 } : State).governs 0).governs 1).clk10Tick

end Sys2Proof.Machine
end

