-- ==== Sys2Proof/Machine/Host.lean ====
section
/-! DEFINITION. The host interface (chapter 04): opening and resetting functions, ownership, doorbells, rings,
interrupts, bitstream rings, NOP and CANCEL_TIMED. -/

namespace Sys2Proof.Machine

/-- HIF_'s block number (R512). -/
def blockHif : Nat := 0

/-! ## Opening, closing and resetting functions -/

/-- Pens a function owns, rising. -/
def State.pensOf (s : State) (f : Nat) : List Nat := (List.range 256).filter (fun p => s.ownsPen f p)

/-- The first check of R114 that an OPEN fails. -/
def State.openFailure (s : State) (f major : Nat) : Option Code :=
  if s.on (Reg.HIF_FN_STATUS_OPENED f) then some 0x1406
  else if major ≠ 3 then some 0x9401
  else if (s.pensOf f).isEmpty then some 0x2402
  else if s.get (Reg.HIF_ADMIN_BASE_LO f) % 4096 ≠ 0
      ∨ s.get (Reg.HIF_ADMIN_CFG_SQ_LOG2 f) < 6 ∨ 16 < s.get (Reg.HIF_ADMIN_CFG_SQ_LOG2 f)
      ∨ s.get (Reg.HIF_ADMIN_CFG_CQ_LOG2 f) < 6 ∨ 16 < s.get (Reg.HIF_ADMIN_CFG_CQ_LOG2 f)
      ∨ s.vecCount f ≤ s.get (Reg.HIF_ADMIN_CFG_VECTOR f) then some 0x1407
  else none

/-- A ring context with every index at zero. -/
def newRing (kind : RingKind) (f base log2 pair : Nat) (vector : Option Nat) : Ring :=
  { kind := kind, state := .active, fn := f, base := base, log2 := log2, pair := pair, vector := vector, modCount := 0,
    modUs := 0, mask := 0xFFFF, slot := 0 }

/-- The device opens a function: its admin rings become ACTIVE and the minor is negotiated (R114). -/
def State.openFn (s : State) (f minor : Nat) : State :=
  let p := (s.pensOf f).headD 0
  let base := s.get64 (Reg.HIF_ADMIN_BASE_LO f) (Reg.HIF_ADMIN_BASE_HI f)
  let sq := s.get (Reg.HIF_ADMIN_CFG_SQ_LOG2 f)
  let s1 := (s.putRing (64 * p) (newRing .sub f base sq (64 * p + 1) none)).putRing (64 * p + 1)
    (newRing .cpl f (base + 64 * 2 ^ sq) (s.get (Reg.HIF_ADMIN_CFG_CQ_LOG2 f)) 0 (some (s.get (Reg.HIF_ADMIN_CFG_VECTOR f))))
  ({ s1 with fns := Table.put s1.fns f { s1.fn f with pen := p } } : State).setAll
    [(Reg.HIF_FN_STATUS_OPENED f, 1), (Reg.HIF_FN_STATUS_ABI_MAJOR f, 3), (Reg.HIF_FN_STATUS_ABI_MINOR f, min minor 2),
     (Reg.HIF_FN_LAST_STATUS f, 0)]

/-- FUNCTION_OPEN (R114); a write that sets CLOSE too does nothing but report 0x1407. -/
def State.functionOpen (s : State) (f major minor : Nat) (close : Bool) : State :=
  let s1 := s.setAll [(Reg.HIF_FN_OPEN_HOST_MAJOR f, major), (Reg.HIF_FN_OPEN_HOST_MINOR f, minor)]
  if close then s1.set (Reg.HIF_FN_LAST_STATUS f) 0x1407
  else match s1.openFailure f major with
    | some c => s1.set (Reg.HIF_FN_LAST_STATUS f) c
    | none => s1.openFn f minor

def execFunctionOpen (f : Fin 32) (major minor : BitVec 8) (close : Bool) (s : State) : Host.Outcome State Fault Refusal :=
  .next (s.byWriter (.host f) 0x10 (fun s =>
    let s1 := s.functionOpen f major.toNat minor.toNat close
    s1.logReg (.host f) 0x10 (s1.get (Reg.HIF_FN_LAST_STATUS f)) 0 (2 ^ 31 + major.toNat * 256 + minor.toNat)))

/-- A function's rings become DISABLED, and completions of actions accepted before are discarded (R141). -/
def State.closeFn (s : State) (f : Nat) : State :=
  let mine := Table.keysWhere s.rings (fun _ x => x.fn == f)
  ({ s with rings := Table.keep s.rings (fun _ x => x.fn != f),
            unsigSince := Table.keep s.unsigSince (fun r _ => !(mine.contains r)),
            fns := Table.put s.fns f { s.fn f with epoch := (s.fn f).epoch + 1 } } : State).setAll
    [(Reg.HIF_FN_STATUS_OPENED f, 0), (Reg.HIF_FN_STATUS_ABI_MAJOR f, 0)]

def execFunctionClose (f : Fin 32) (s : State) : Host.Outcome State Fault Refusal :=
  .next (s.byWriter (.host f) 0x10 (fun s =>
    ((s.closeFn f).set (Reg.HIF_FN_LAST_STATUS f) 0).logReg (.host f) 0x10 0 0 (2 ^ 30)))

/-- The PF-only HIF_ registers (R141, step 2 of a PF FLR). -/
def pfOnlyHif : List Field :=
  (List.range 256).flatMap (fun p => [Reg.HIF_PEN_OWNER_ASSIGNED p, Reg.HIF_PEN_OWNER_FUNCTION p])
  ++ (List.range 32).flatMap (fun f => [Reg.HIF_FN_VEC_COUNT f, Reg.HIF_FN_VEC_BASE f])
  ++ [Reg.HIF_SLOT_OWNER_SLOT0, Reg.HIF_SLOT_OWNER_SLOT1, Reg.HIF_SLOT_OWNER_SLOT2, Reg.HIF_SLOT_OWNER_SLOT3,
      Reg.HIF_SETUP_STATUS_LAST_STATUS]

/-- Close functions 1 to n. -/
def State.closeVfs (s : State) : Nat → State
  | 0 => s
  | n + 1 => (s.closeVfs n).closeFn (n + 1)

/-- FLR of a function (R141); of the PF, every VF first, then the PF-only registers. -/
def State.flr (s : State) (f : Nat) : State :=
  if f = 0 then
    (({ ((s.closeVfs 31).closeFn 0) with vfEnable := false } : State).resetFields pfOnlyHif)
  else s.closeFn f

def execFlr (f : Fin 32) (s : State) : Host.Outcome State Fault Refusal := .next (s.flr f)

/-- A function leaving D3hot is reset as if by FLR (R105). -/
def execD3hotExit (f : Fin 32) (s : State) : Host.Outcome State Fault Refusal := .next (s.flr f)

/-- PERST_N low: a function reset of every function (R141, the reset table of chapter 03). -/
def execPcieReset (s : State) : Host.Outcome State Fault Refusal :=
  .next (({ s with sys := { s.sys with perst := s.lc } } : State).flr 0)

/-! ## Ownership and vectors -/

/-- Whether a write changes a pen's owner. -/
def State.penChanges (s : State) (p : Nat) (assigned : Bool) (f : Nat) : Bool :=
  if s.on (Reg.HIF_PEN_OWNER_ASSIGNED p) then !(assigned && s.get (Reg.HIF_PEN_OWNER_FUNCTION p) == f) else assigned

/-- Whether a pen's new owner is refused (R109): one of its rings is not DISABLED, or a VF would own more than 16. -/
def State.penRefused (s : State) (p : Nat) (assigned : Bool) (f : Nat) : Bool :=
  s.penChanges p assigned f &&
    (!(Table.keysWhere s.rings (fun r _ => r / 64 == p)).isEmpty
     || (assigned && f != 0 && decide (16 ≤ (s.pensOf f).length)))

def execPenOwnerWrite (w : Writer) (p : Fin 256) (assigned : Bool) (f : Fin 32) (s : State) : Host.Outcome State Fault Refusal :=
  let a := Reg.HIF_PEN_OWNER_ASSIGNED p.val
  let u := Reg.HIF_PEN_OWNER_FUNCTION p.val
  .next (s.byWriter w a.off (fun s =>
    if s.penRefused p assigned f then
      (s.set Reg.HIF_SETUP_STATUS_LAST_STATUS 0x1402).logReg w a.off 0x1402 (s.word [a, u]) (s.word [a, u])
    else
      let s1 := s.setAll [(a, b2n assigned), (u, f.val), (Reg.HIF_SETUP_STATUS_LAST_STATUS, 0)]
      s1.logReg w a.off 0 (s.word [a, u]) (s1.word [a, u])))

/-- The fields of HIF_SLOT_OWNER. -/
def slotOwnerFields : List Field :=
  [Reg.HIF_SLOT_OWNER_SLOT0, Reg.HIF_SLOT_OWNER_SLOT1, Reg.HIF_SLOT_OWNER_SLOT2, Reg.HIF_SLOT_OWNER_SLOT3]

/-- Whether a slot's owner may become `f` (R111). -/
def State.slotOwnerOk (s : State) (n f : Nat) : Bool :=
  s.slotOwner n == f || s.slotState n == slotIdle || s.slotState n == slotStopped

def execSlotOwnerWrite (w : Writer) (o0 o1 o2 o3 : Fin 32) (s : State) : Host.Outcome State Fault Refusal :=
  .next (s.byWriter w Reg.HIF_SLOT_OWNER_SLOT0.off (fun s =>
    let old := s.word slotOwnerFields
    if s.slotOwnerOk 0 o0 && s.slotOwnerOk 1 o1 && s.slotOwnerOk 2 o2 && s.slotOwnerOk 3 o3 then
      let s1 := s.setAll [(Reg.HIF_SLOT_OWNER_SLOT0, o0.val), (Reg.HIF_SLOT_OWNER_SLOT1, o1.val), (Reg.HIF_SLOT_OWNER_SLOT2, o2.val),
        (Reg.HIF_SLOT_OWNER_SLOT3, o3.val), (Reg.HIF_SETUP_STATUS_LAST_STATUS, 0)]
      s1.logReg w Reg.HIF_SLOT_OWNER_SLOT0.off 0 old (s1.word slotOwnerFields)
    else (s.set Reg.HIF_SETUP_STATUS_LAST_STATUS 0x1402).logReg w Reg.HIF_SLOT_OWNER_SLOT0.off 0x1402 old old))

/-- Whether a VF's vectors overlap those of VF g. -/
def State.vecOverlap (s : State) (base count g : Nat) : Bool :=
  s.get (Reg.HIF_FN_VEC_COUNT g) != 0
    && decide (base < s.get (Reg.HIF_FN_VEC_BASE g) + s.get (Reg.HIF_FN_VEC_COUNT g) ∧ s.get (Reg.HIF_FN_VEC_BASE g) < base + count)

/-- The limits of R139. -/
def State.vectorsOk (s : State) (f count base : Nat) : Bool :=
  !s.vfEnable &&
    (count == 0 ||
     (decide (count ≤ 512 ∧ 64 ≤ base ∧ base + count ≤ 2048)
      && (List.range 32).all (fun g => g == 0 || g == f || !(s.vecOverlap base count g))))

/-- MSI-X Table Size as a VF's capability reads (R139), encoded as the count less 1; the PF has 64 vectors. -/
def State.msixTableSize (s : State) (f : Nat) : Nat := s.vecCount f - 1

/-- The global vector of an entry of a function's MSI-X table in its BAR4 (R106, R139); none past the table. -/
def State.msixEntry (s : State) (f v : Nat) : Option Nat := if v < s.vecCount f then some (s.globalVec f v) else none

/-- Word w of a function's pending bit array, at 0x8000 (PF) or 0x2000 (VF) of its BAR4 (R106, R140). -/
def State.pbaWord (s : State) (f w : Nat) : Nat :=
  (List.range 64).foldl (fun a i => match s.msixEntry f (64 * w + i) with
    | some v => if Table.getD s.pba v false then a + 2 ^ i else a
    | none => a) 0

/-- A function's Device ID (R105). -/
def deviceId (f : Nat) : Nat := if f = 0 then 0x4816 else 0x4817

/-- The size in bytes of a function's BAR0, BAR2 or BAR4 (R106); 0 for another. -/
def barSize (f bar : Nat) : Nat :=
  match bar with
  | 0 => if f = 0 then 0x4000000 else 0x40000
  | 2 => if f = 0 then 0x100000 else 0x10000
  | 4 => if f = 0 then 0x10000 else 0x4000
  | _ => 0

/-- VECTOR_WRITE (R139); `vfEnable` is the VF Enable bit at the time of the write. There is no HIF_FN_VEC0. -/
def execVectorWrite (w : Writer) (f : Fin 32) (count : BitVec 12) (base : BitVec 11) (vfEnable : Bool) (s : State) :
    Host.Outcome State Fault Refusal :=
  let c := Reg.HIF_FN_VEC_COUNT f.val
  let b := Reg.HIF_FN_VEC_BASE f.val
  .next (if f.val = 0 then s else ({ s with vfEnable := vfEnable } : State).byWriter w c.off (fun s =>
    if s.vectorsOk f count.toNat base.toNat then
      let s1 := s.setAll [(c, count.toNat), (b, base.toNat), (Reg.HIF_SETUP_STATUS_LAST_STATUS, 0)]
      s1.logReg w c.off 0 (s.word [c, b]) (s1.word [c, b])
    else (s.set Reg.HIF_SETUP_STATUS_LAST_STATUS 0x1401).logReg w c.off 0x1401 (s.word [c, b]) (s.word [c, b])))

/-! ## Doorbells -/

/-- The pen a doorbell page maps for a function (R110): the page's own for the PF, the j-th owned pen for a VF. -/
def State.pageMap (s : State) (f page : Nat) : Option Nat :=
  if f = 0 then (if s.ownsPen 0 page then some page else none)
  else if page < 16 then (s.pensOf f)[page]? else none

/-- The ring a doorbell location belongs to (R135, R136): the ring at its index, or the BS_OUT ring whose second
location it is (with `true`). -/
def State.doorbellRing (s : State) (r : Nat) : Nat × Bool :=
  if r % 2 = 1 then
    match s.ring (r - 1) with
    | some x => if x.kind == .bsOut then (r - 1, true) else (r, false)
    | none => (r, false)
  else (r, false)

/-- Whether a doorbell advances a consumer index. -/
def consumerBell (k : RingKind) (second : Bool) : Bool := k == .cpl || k == .evt || (k == .bsOut && second)

/-- Whether the new index of a doorbell is in range (the third check of R137). -/
def Ring.indexOk (x : Ring) (second : Bool) (i : Nat) : Bool :=
  match x.kind with
  | .sub | .bsIn => decide (sub32 x.prod x.cons ≤ sub32 i x.cons ∧ sub32 i x.cons ≤ 2 ^ x.log2)
  | .cpl | .evt => decide (sub32 i x.cons ≤ sub32 x.prod x.cons)
  | .bsOut =>
    if second then decide (sub32 i x.cons ≤ sub32 x.fill x.cons)
    else decide (sub32 x.prod x.cons ≤ sub32 i x.cons ∧ sub32 i x.cons ≤ 2 ^ x.log2)

/-- Take a new index. -/
def Ring.take (x : Ring) (second : Bool) (i : Nat) : Ring :=
  match x.kind with
  | .sub | .bsIn => { x with prod := i }
  | .cpl | .evt => { x with cons := i }
  | .bsOut => if second then { x with cons := i } else { x with prod := i }

/-- A doorbell is ignored: counted, logged, and reported to the writing function (R137). -/
def State.badBell (s : State) (f : Nat) (code : Code) : State :=
  ((s.bump (Reg.HIF_FN_DB_ERR_CNT f)).logUnit (if f = 0 then 0 else 1) f code blockHif f).raiseTo f code {}

/-- After a consumer doorbell on an EVT ring that lost events and now has room, the 0x0402 record (R131). -/
def State.lostRecord (s : State) (r : Nat) (freed : Bool) : State :=
  match s.ring r with
  | none => s
  | some x =>
    if freed && x.kind == .evt && x.lost != 0 then
      ((s.putRing r { x with lost := 0 }).pushEvt r 0x0402 (objRing r) { w16 := x.lost }).latchCode 0x0402
    else s

/-- A doorbell for ring r (R137). -/
def State.ringBell (s : State) (f r : Nat) (second : Bool) (i : Nat) : State :=
  match s.ring r with
  | none => s.badBell f 0x3411
  | some x =>
    if x.state == .error && !(consumerBell x.kind second) then s.badBell f 0x3411
    else if !(x.indexOk second i) then s.badBell f 0x3410
    else (s.putRing r (x.take second i)).lostRecord r (i != x.cons)

/-- DOORBELL (R135 to R138). -/
def State.doorbell (s : State) (f page off : Nat) (whole : Bool) (v : Nat) : State :=
  if s.halted then s
  else match s.pageMap f page with
    | none => s.badBell f 0x3412
    | some p =>
      let (r, second) := s.doorbellRing (64 * p + off / 8)
      if whole && decide (off < 0x200 ∧ off % 8 = 0 ∧ bits v 63 50 = r ∧ bits v 49 32 = 0) then
        s.ringBell f r second (bits v 31 0)
      else s.badBell f 0x3412

def execDoorbell (f : Fin 32) (page : Fin 256) (off : Fin 4096) (whole : Bool) (v : BitVec 64) (s : State) :
    Host.Outcome State Fault Refusal :=
  .next (s.doorbell f page off whole v.toNat)

/-! ## NOP, CREATE_RING, DESTROY_RING, CANCEL_TIMED -/

/-- The opcodes of the opcode tables (R121 and the unit chapters). -/
def knownOpcodes : List Nat :=
  [0x0000, 0x0001, 0x0002, 0x0003, 0x0010, 0x0011, 0x0012, 0x0013, 0x0020, 0x0100, 0x0101, 0x0102, 0x0180, 0x0181,
   0x0300, 0x0301, 0x0400, 0x0500, 0x0501, 0x0502, 0x0600, 0x0700, 0x0900, 0x0901, 0x0A00, 0x0A01, 0x0A02, 0x0A03,
   0x0B00]

/-- NOP's checks. -/
def nopSpec : OpSpec := { opcode := 0, object := onDevice }

/-- A descriptor with an unknown opcode fails check 1 (R122). -/
def State.unknownOpcode (s : State) (op : Nat) (d : Desc) : State :=
  if s.servable .sub d.rid.val d.fence then
    let (s0, t) := s.consume d.rid.val d.cookie.toNat
    let s1 := s0.mirror3 (.ring d.rid.val (s0.consOf d.rid.val) op (some d))
    s1.failDesc t d.obj 0x3401
  else s

/-- NOP (R121). A descriptor whose opcode has a row of its own is that row's command. -/
def execNop (op : BitVec 16) (d : Desc) (s : State) : Host.Outcome State Fault Refusal :=
  .next (if op.toNat = 0 then s.runDesc nopSpec d (fun _ t s => s.complete t 0 0)
    else if knownOpcodes.contains op.toNat then s
    else s.unknownOpcode op.toNat d)

/-- The ring kinds by their codes. -/
def ringKind (k : Nat) : RingKind :=
  if k = 0 then .sub else if k = 1 then .cpl else if k = 2 then .evt else if k = 3 then .bsIn else .bsOut

/-- Check 3 of CREATE_RING: encoded values defined, reserved fields and unused parameters zero (R121, R122). -/
def createForm (d : Desc) : Bool :=
  let k := d.p 40 1
  decide (k ≤ 4 ∧ 6 ≤ d.p 41 1 ∧ d.p 41 1 ≤ 16) && d.zeroFrom 53
  && (k == 0 || k == 3 || (d.p 42 2 == 0 && decide (d.p 46 2 ≤ 4096 ∧ d.p 48 2 ≤ 10000)))
  && (if k == 3 || k == 4 then decide (d.p 52 1 ≤ 3) else d.p 52 1 == 0)
  && (k == 2 || d.p 50 2 == 0)

/-- Check 4 of CREATE_RING: PAIR and SLOT owned where the kind uses them; a vector the function has. Which check a VECTOR at or above
the function's count fails the spec does not say; it is taken as a vector not owned, check 4 with 0x3403 (DESIGN CHOICE, log entry
114). -/
def createOwned (s : State) (f : Nat) (d : Desc) : Bool :=
  let k := d.p 40 1
  (!(k == 0 || k == 3) || s.ownsPen f (d.p 42 2 / 64))
  && (!(k == 3 || k == 4) || s.slotOwner (d.p 52 1) == f)
  && (k == 0 || k == 3 || d.p 44 2 == 0xFFFF || decide (d.p 44 2 < s.vecCount f))

/-- Whether a slot is configured as a decode slot (R99). -/
def State.isDecode (s : State) (n : Nat) : Bool := s.get (bank 1 (Reg.ENC_BS_FORMAT_KIND n)) == 1

/-- Check 7 of CREATE_RING (R122, R134, R136). -/
def createRingOk (s : State) (d : Desc) : Bool :=
  let r := d.objIndex.toNat
  let k := d.p 40 1
  (s.ring r).isNone
  && !(r % 2 == 1 && (match s.ring (r - 1) with | some x => x.kind == .bsOut | none => false))
  && !(k == 4 && (r % 2 == 1 || (s.ring (r + 1)).isSome))
  && (!(k == 0 || k == 3) || (match s.ring (d.p 42 2) with | some x => x.kind == .cpl && x.state == .active | none => false))
  && (k != 3 || s.isDecode (d.p 52 1))

/-- CREATE_RING's checks. -/
def createSpec : OpSpec :=
  { opcode := 1, admin := true, object := fun t i => t == 1 && decide (i < 16384), form := createForm, owned := createOwned,
    aligned := fun d => d.p 32 8 % 4096 == 0, ringOk := createRingOk }

/-- The ring CREATE_RING makes (R121). -/
def actCreateRing (d : Desc) (t : Ticket) (s : State) : State :=
  let k := ringKind (d.p 40 1)
  let v := if k = .sub ∨ k = .bsIn ∨ d.p 44 2 = 0xFFFF then none else some (d.p 44 2)
  ((s.putRing d.objIndex.toNat
      { newRing k t.fn (d.p 32 8) (d.p 41 1) (d.p 42 2) v with
        modCount := d.p 46 2, modUs := d.p 48 2, mask := d.p 50 2, slot := d.p 52 1 }).logDesc t.fn d.obj 0 0 (d.p 40 1)).complete t 0 0

def execCreateRing (d : Desc) (s : State) : Host.Outcome State Fault Refusal := .next (s.runDesc createSpec d actCreateRing)

/-- Check 7 of DESTROY_RING: the ring exists and no ACTIVE ring pairs with it. -/
def destroyRingOk (s : State) (d : Desc) : Bool :=
  let r := d.objIndex.toNat
  (s.ring r).isSome
  && (Table.keysWhere s.rings (fun q x => q != r && x.state == .active && (x.kind == .sub || x.kind == .bsIn) && x.pair == r)).isEmpty

/-- DESTROY_RING's checks. -/
def destroySpec : OpSpec :=
  { opcode := 2, admin := true, object := fun t i => t == 1 && decide (i < 16384), ringOk := destroyRingOk }

/-- DESTROY_RING stops fetching; it completes when the ring's in-flight items are done (R119, R121). -/
def actDestroyRing (d : Desc) (t : Ticket) (s : State) : State :=
  (s.updRing d.objIndex.toNat (fun x => { x with closing := x.closing ++ [t] })).logDesc t.fn d.obj 0 1 0

def execDestroyRing (d : Desc) (s : State) : Host.Outcome State Fault Refusal := .next (s.runDesc destroySpec d actDestroyRing)

/-- The in-flight items of a ring that is being destroyed, its own DESTROY_RINGs left out. -/
def Ring.busy (x : Ring) (r : Nat) : Nat :=
  match x.kind with
  | .sub | .bsIn => x.inFlight - (x.closing.filter (fun t => t.rid == r)).length
  | .cpl => x.reserved - (x.closing.filter (fun t => t.cpl == r)).length
  | _ => 0

/-- DESTROY_RING_DONE (R119): the ring becomes DISABLED and each DESTROY_RING of it completes. -/
def State.destroyDone (s : State) (r : Nat) : State :=
  match s.ring r with
  | none => s
  | some x =>
    if !x.closing.isEmpty && x.busy r == 0 then
      ({ s with rings := Table.del s.rings r, unsigSince := Table.del s.unsigSince r } : State).completeAll 0 x.closing
    else s

def execDestroyRingDone (r : Fin 16384) (s : State) : Host.Outcome State Fault Refusal := .next (s.destroyDone r)

/-- CANCEL_TIMED's checks. -/
def cancelSpec : OpSpec :=
  { opcode := 0x20, minor := 2, object := onDevice, form := fun d => d.zeroFrom 36 && decide (d.p 32 2 < 1024) }

/-- The function that queued a timed launch. -/
def QLaunch.ofFn (q : QLaunch) (f : Nat) : Bool :=
  match q.act with
  | .timed _ _ t => t.fn == f
  | _ => false

/-- Cancel the launches of a unit that a test names, except one that fires in this tick (R73). -/
def State.cancelUnit (s : State) (u : Nat) (p : QLaunch → Bool) : State :=
  if s.firesNow u then
    match s.queue u with
    | [] => s
    | q :: l => ((s.setQueue u l).cancel u p).setQueue u (q :: l.filter (fun x => !(p x)))
  else s.cancel u p

/-- CANCEL_TIMED (R121, R124): the function's own timed descriptors of a UNIT and TAG go; it completes with 0x0000. -/
def actCancelTimed (d : Desc) (t : Ticket) (s : State) : State :=
  (s.cancelUnit (d.p 32 2) (fun q => q.ofFn t.fn && q.tag == d.p 34 2)).complete t 0 0

def execCancelTimed (d : Desc) (s : State) : Host.Outcome State Fault Refusal := .next (s.runDesc cancelSpec d actCancelTimed)

/-! ## Fetch errors and interrupts -/

/-- RING_FETCH_ERROR (R119, R142): the ring goes to ERROR. Only rings whose entries the device reads can fail. -/
def State.fetchError (s : State) (r : Nat) : State :=
  match s.ring r with
  | none => s
  | some x =>
    if x.state == .active && (x.kind == .sub || x.kind == .bsIn || x.kind == .bsOut) then
      (((s.putRing r { x with state := .error }).bump (Reg.HIF_FN_DMA_ERR_CNT x.fn)).logUnit (if x.fn = 0 then 0 else 1) x.fn
        0x3420 blockHif r).raise 0x3420 (objRing r) {}
    else s

def execRingFetchError (r : Fin 16384) (s : State) : Host.Outcome State Fault Refusal := .next (s.fetchError r)

/-- Whether the oldest unsignalled entry of a ring has waited MOD_US (R140). -/
def State.modExpired (s : State) (r : Nat) (x : Ring) : Bool :=
  match Table.find s.unsigSince r with
  | none => true
  | some k => decide (k + x.modUs * ticksPerUs ≤ s.lc)

/-- MSIX_MODERATION_TIMEOUT (R140): an unsignalled entry that has waited MOD_US is signalled. -/
def State.moderationTimeout (s : State) (r : Nat) : State :=
  match s.ring r with
  | none => s
  | some x =>
    match x.vector with
    | none => s
    | some v =>
      if x.unsig = 0 ∨ s.modExpired r x = false then s
      else (({ s with unsigSince := Table.del s.unsigSince r } : State).putRing r { x with unsig := 0 }).signal (s.globalVec x.fn v)

def execMsixModerationTimeout (r : Fin 16384) (s : State) : Host.Outcome State Fault Refusal := .next (s.moderationTimeout r)

/-- MSIX_UNMASK (R140): the mask bit of a vector as the host writes it; unmasking with the PBA bit set sends one message. -/
def State.msixMask (s : State) (v : Nat) (mask : Bool) : State :=
  let s1 : State := { s with masked := Table.put s.masked v mask }
  if !mask && Table.getD s.pba v false then ({ s1 with pba := Table.put s1.pba v false } : State).emit (.msix v) else s1

def execMsixUnmask (v : Fin 2048) (mask : Bool) (s : State) : Host.Outcome State Fault Refusal := .next (s.msixMask v mask)

/-! ## Bitstream out rings -/

/-- The slices' description that BS_OUT records carry (R132). -/
structure SliceRecord where
  length : Nat
  pdt : Int
  subpic : Nat
  auStart : Bool
  auEnd : Bool
  spoil : Bool

/-- What is wrong with a posted BS_OUT entry (R132): its SIZE, else its ADDR; 0 for nothing. A malformed one is answered in its STATUS
like a BS_IN entry (R142; DESIGN CHOICE, log entry 115). -/
def postedCode (addr size : Nat) : Code :=
  if size = 0 ∨ 1048576 < size then 0x3402 else if addr % 64 ≠ 0 then 0x3404 else 0

/-- A malformed bitstream entry is counted and logged (R142). -/
def State.badEntry (s : State) (f r : Nat) (c : Code) : State := (s.bump (Reg.HIF_FN_DESC_ERR_CNT f)).logDesc f (objRing r) c 0 0

/-- Write the next BS_OUT entry of one ring for a slice (R133), the slice's bytes first (R127): `posted` is the address and size of
the posted entry. -/
def State.bsOutRing (s : State) (r : Nat) (posted : Nat × Nat) (x : SliceRecord) : State :=
  match s.ring r with
  | none => s
  | some g =>
    if g.fill = g.prod then s.raise 0x6402 (objSlot g.slot) {}
    else
      let bad := postedCode posted.1 posted.2
      let code := if bad ≠ 0 then bad else if x.length ≤ posted.2 then 0 else 0x6401
      let s1 := if bad ≠ 0 then s.badEntry g.fn r bad else s
      let s2 := if code = 0 then s1.emit (.slice g.fn posted.1 x.length) else s1
      ((s2.updRing r (fun g => { g with fill := (g.fill + 1) % 2 ^ 32 })).emit (.bs r g.fill posted.1
        { entry := g.entryAt g.fill, length := if code = 0 then x.length else 0, pdtSec := dtSec x.pdt % 2 ^ 32, pdtNs := dtNs x.pdt,
          subpic := x.subpic, phase := ringPhase g.log2 g.fill, auStart := x.auStart, auEnd := x.auEnd, spoil := x.spoil,
          status := code })).moderate r

/-- Copy a slice to every ACTIVE BS_OUT ring of a slot (R133), each with the entry the host posted next on it. -/
def State.bsOut (s : State) (slot : Nat) (posted : List (Nat × Nat × Nat)) (x : SliceRecord) : State :=
  (Table.keysWhere s.rings (fun _ g => g.kind == .bsOut && g.state == .active && g.slot == slot && g.closing.isEmpty)).foldl
    (fun s r => s.bsOutRing r (match posted.find? (fun e => e.1 == r) with | some e => e.2 | none => (0, 0)) x) s

end Sys2Proof.Machine
end

