-- ==== Sys2Proof/Machine/Format.lean ====
section
/-! DEFINITION. Picture formats: frame periods, CTU rows, planes and areas of DRAM (R25, R27, R153, R154, R382). -/

namespace Sys2Proof.Machine

/-- A field of the configuration in force (bank 1), where software's writes are held back until a commit. -/
def State.cfg (s : State) (f : Nat → Field) (n : Nat) : Nat := s.get (bank 1 (f n))

/-- Whether a one-bit field in force is 1. -/
def State.cfgOn (s : State) (f : Nat → Field) (n : Nat) : Bool := s.cfg f n != 0

/-- The frame period in seconds of a RATE code (R25, ING_RXr_FMT.RATE); 0 for a code outside the encoding. -/
def framePeriod (rc : Nat) : Rat :=
  ([1001 / 24000, 1 / 24, 1 / 25, 1001 / 30000, 1 / 30, 1 / 50, 1001 / 60000, 1 / 60, 1 / 100, 1001 / 120000, 1 / 120] : List Rat).getD rc 0

/-- The frame period in units of 2^-16 ns, exact. -/
def framePeriodU (rc : Nat) : Rat := framePeriod rc * secUnits

/-- Frames per second, exact. -/
def frameRate (rc : Nat) : Rat := 1 / framePeriod rc

/-- Whether a RATE code is encoded. -/
def rateOk (rc : Nat) : Bool := decide (rc ≤ 10)

/-- CTU rows or columns of 128 samples (R27, R215). -/
def ctus (x : Nat) : Nat := ceilDiv x 128

/-- An instant of exact value as DT in 2^-16 ns, rounded down (DEDUCED, log entry 12). -/
def instant (q : Rat) : Int := q.floor

/-- Microseconds in units of 2^-16 ns. -/
def usU (n : Nat) : Rat := ((n * 1000 * nsUnits : Nat) : Rat)

/-- Round an exact value down to whole µs, for a value at least 0. -/
def floorUs (q : Rat) : Nat := (q / ((1000 * nsUnits : Nat) : Rat)).floor.toNat

/-- Round up to a multiple. -/
def roundUp (x m : Nat) : Nat := ceilDiv x m * m

/-- The size of a plane from the bytes of a line and its height (R154). -/
def planeSize (lineBytes h : Nat) : Nat := roundUp (roundUp lineBytes 256 * h) 4096

/-- The bytes of a picture buffer (R153, R154): sampling 0 4:2:2, 1 4:4:4, 2 RGB, 3 4:2:0; bytes per sample. -/
def pictureBytes (sampling bps w h : Nat) : Nat :=
  if sampling = 0 then planeSize (w * bps) h + planeSize (2 * ceilDiv w 2 * bps) h
  else if sampling = 3 then planeSize (w * bps) h + planeSize (2 * ceilDiv w 2 * bps) (ceilDiv h 2)
  else 3 * planeSize (w * bps) h

/-- The sampling code of a CHROMA code (0 4:2:0, 1 4:2:2, 2 4:4:4). -/
def chromaSampling (c : Nat) : Nat := if c = 0 then 3 else if c = 1 then 0 else 1

/-! ## In-service DRAM -/

/-- The bytes of a rank (DMC_LAYOUT.RANK_SIZE). -/
def rankBytes (code : Nat) : Nat := 2 ^ (33 + code)

/-- MAP codes (DMC_LAYOUT.MAP). -/
def mapFloor : Nat := 1
def mapFull : Nat := 2

/-- The bytes of set s of the map in force. -/
def State.setBytes (s : State) : Nat :=
  if s.get Reg.DMC_LAYOUT_MAP = mapFull then 8 * rankBytes (s.get Reg.DMC_LAYOUT_RANK_SIZE) else rankBytes (s.get Reg.DMC_LAYOUT_RANK_SIZE)

/-- The in-service range of set k (R382): its base and its filled bytes. -/
def State.setRange (s : State) (k : Nat) : Nat × Nat :=
  (k * s.setBytes, k * s.setBytes + s.get (Reg.DMC_SET_FILL_FILLED k) * 4096)

/-- Whether a range of device addresses lies in in-service DRAM (R382): inside one filled set, or across two whose
filled ranges touch. -/
def State.inService (s : State) (base len : Nat) : Bool :=
  let a := s.setRange 0
  let b := s.setRange 1
  s.get Reg.DMC_LAYOUT_MAP != 0 &&
    (decide (a.1 ≤ base ∧ base + len ≤ a.2) || (s.get Reg.DMC_LAYOUT_MAP == mapFull && decide (b.1 ≤ base ∧ base + len ≤ b.2))
      || (s.get Reg.DMC_LAYOUT_MAP == mapFull && decide (a.2 = b.1 ∧ a.1 ≤ base ∧ base + len ≤ b.2)))

/-! ## Areas -/

/-- An area of DRAM with what holds it. -/
structure Area where
  tag : Nat
  base : Nat
  len : Nat
  deriving DecidableEq, Repr

/-- The tags of areas: an ingest store, the CMP_ areas of a slot (k 0 Bench, 1 tables, 2 + 2l + b surface b of graphics layer
l), a Safety Net area, a decode area, an audio capture ring. -/
def tagIngest (r : Nat) : Nat := r
def tagCmp (n k : Nat) : Nat := 0x1000 + 0x100 * n + k
def tagSaf (n : Nat) : Nat := 0x2000 + n
def tagDec (n : Nat) : Nat := 0x3000 + n
def tagAud (k : Nat) : Nat := 0x4000 + k

/-- The bytes of an ingest store (R153, R148). -/
def State.storeBytes (s : State) (r : Nat) : Nat :=
  if r < 32 then
    s.get (Reg.ING_RX_FS_COUNT r) * pictureBytes (s.get (Reg.ING_RX_FMT_SAMPLING r))
      (if s.get (Reg.ING_RX_FMT_DEPTH r) = 0 then 1 else 2) (s.get (Reg.ING_RX_SIZE_WIDTH r)) (s.get (Reg.ING_RX_SIZE_HEIGHT r))
  else if 48 ≤ r ∧ r < 56 then 1024 * 2 ^ s.get (Reg.ING_RX_NFMT_ANC_LOG2 r) else 0

/-- The store of a receiver. -/
def State.storeArea (s : State) (r : Nat) : Area := ⟨tagIngest r, s.get (Reg.ING_RX_FS_BASE r) * 4096, s.storeBytes r⟩

/-- The bytes of a pixel of a graphics FORMAT. -/
def gfxBytes (format : Nat) : Nat := if format = 2 then 8 else 4

/-- The canvas of a slot: WIDTH × HEIGHT of an encode slot, the output region of a decode slot (R266). -/
def State.canvas (s : State) (n : Nat) : Nat × Nat :=
  if s.cfg Reg.ENC_BS_FORMAT_KIND n = 0 then (s.cfg Reg.ENC_BS_SIZE_WIDTH n, s.cfg Reg.ENC_BS_SIZE_HEIGHT n)
  else (s.cfg Reg.DEC_BS_OUT_W n, s.cfg Reg.DEC_BS_OUT_H n)

/-- The bytes of a slot's table area (CMP_SLOTn_AREAS). -/
def tableAreaBytes : Nat := 1171456

/-- The CMP_ areas that bank b of a slot's configuration places: the Bench area with BENCH_EN, the tables when TABLE_BASE
is set, the surfaces of each enabled graphics layer. A TABLE_BASE of 0 places none (DESIGN CHOICE, log entry 13). -/
def State.cmpAreas (s : State) (b n : Nat) : List Area :=
  let g := fun (f : Field) => s.get (bank b f)
  (if g (Reg.CMP_SLOT_BENCH_EN n) = 1 then
    [⟨tagCmp n 0, g (Reg.CMP_SLOT_BENCH_BASE n) * 4096, roundUp ((s.canvas n).1 * (s.canvas n).2 * 8) 4096⟩] else []) ++
  (if g (Reg.CMP_SLOT_TABLE_BASE n) = 0 then [] else [⟨tagCmp n 1, g (Reg.CMP_SLOT_TABLE_BASE n) * 4096, tableAreaBytes⟩]) ++
  (([8, 9, 10, 11, 12, 13, 14, 15] : List Nat).flatMap (fun l =>
    if g (Reg.CMP_L_ENABLE n l) = 1 then
      let len := g (Reg.CMP_L_INDEX_OR_PITCH n l) * 64 * g (Reg.CMP_L_SURF_H n l)
      [⟨tagCmp n (2 + 2 * l), g (Reg.CMP_L_SURF_A_BASE n l) * 4096, len⟩, ⟨tagCmp n (3 + 2 * l), g (Reg.CMP_L_SURF_B_BASE n l) * 4096, len⟩]
    else []))

/-- The bytes of a Safety Net area (R203). -/
def safAreaBytes : Nat := 100663296

/-- The Safety Net area of a slot, none while it is unset. -/
def State.safArea (s : State) (n : Nat) : List Area :=
  if s.get (Reg.SAF_SLOT_AREA_BASE n) = 0 then [] else [⟨tagSaf n, s.get (Reg.SAF_SLOT_AREA_BASE n) * 4096, safAreaBytes⟩]

/-- The grid of a picture: subpicture columns and rows (R215). -/
def gridCols (w spw : Nat) : Nat := ceilDiv (ctus w) spw
def gridRows (h sph : Nat) : Nat := ceilDiv (ctus h) sph

/-- The samples that `cnt` subpictures of `sp` CTUs from index `first` cover, clipped to `size`. -/
def spanOf (size sp first cnt : Nat) : Nat := min size ((first + cnt) * sp * 128) - min size (first * sp * 128)

/-- The window of a decode slot in samples, from bank b (R266). -/
def State.decWindow (s : State) (b n : Nat) : Nat × Nat :=
  let g := fun (f : Field) => s.get (bank b f)
  (spanOf (g (Reg.DEC_BS_WIDTH n)) (g (Reg.DEC_BS_SP_W n)) (g (Reg.DEC_BS_WIN_COL n)) (g (Reg.DEC_BS_WIN_COLS n)),
   spanOf (g (Reg.DEC_BS_HEIGHT n)) (g (Reg.DEC_BS_SP_H n)) (g (Reg.DEC_BS_WIN_ROW n)) (g (Reg.DEC_BS_WIN_ROWS n)))

/-- The subpictures of a decode slot's window in force, by rows (R266): the ID is row × grid columns + column (R216). -/
def State.windowSps (s : State) (n : Nat) : List Nat :=
  let cols := gridCols (s.cfg Reg.DEC_BS_WIDTH n) (s.cfg Reg.DEC_BS_SP_W n)
  (List.range (s.cfg Reg.DEC_BS_WIN_ROWS n)).flatMap (fun r => (List.range (s.cfg Reg.DEC_BS_WIN_COLS n)).map (fun c =>
    (s.cfg Reg.DEC_BS_WIN_ROW n + r) * cols + s.cfg Reg.DEC_BS_WIN_COL n + c))

/-- The CTU rows of subpicture sp of a decode slot's stream: first and the one after the last. -/
def State.spRows (s : State) (n sp : Nat) : Nat × Nat :=
  let r := sp / max 1 (gridCols (s.cfg Reg.DEC_BS_WIDTH n) (s.cfg Reg.DEC_BS_SP_W n))
  (r * s.cfg Reg.DEC_BS_SP_H n, min (ctus (s.cfg Reg.DEC_BS_HEIGHT n)) ((r + 1) * s.cfg Reg.DEC_BS_SP_H n))

/-- The CTU columns of subpicture sp of a decode slot's stream. -/
def State.spCols (s : State) (n sp : Nat) : Nat × Nat :=
  let c := sp % max 1 (gridCols (s.cfg Reg.DEC_BS_WIDTH n) (s.cfg Reg.DEC_BS_SP_W n))
  (c * s.cfg Reg.DEC_BS_SP_W n, min (ctus (s.cfg Reg.DEC_BS_WIDTH n)) ((c + 1) * s.cfg Reg.DEC_BS_SP_W n))

/-- The window subpictures with a CTU row k. -/
def State.rowSps (s : State) (n k : Nat) : List Nat :=
  (s.windowSps n).filter (fun sp => decide ((s.spRows n sp).1 ≤ k ∧ k < (s.spRows n sp).2))

/-- The CTU rows that meet a decode slot's window: first and the one after the last. -/
def State.windowRows (s : State) (n : Nat) : Nat × Nat :=
  (s.cfg Reg.DEC_BS_WIN_ROW n * s.cfg Reg.DEC_BS_SP_H n,
   min (ctus (s.cfg Reg.DEC_BS_HEIGHT n)) ((s.cfg Reg.DEC_BS_WIN_ROW n + s.cfg Reg.DEC_BS_WIN_ROWS n) * s.cfg Reg.DEC_BS_SP_H n))

/-- Whether every selected window subpicture of a picture has finished CTU row k. -/
def State.rowReady (s : State) (n : Nat) (p : DecPic) (k : Nat) : Bool :=
  (s.rowSps n k).all (fun sp => !(p.sel.contains sp) || p.slices.any (fun d => d.row == k && d.sp == sp && d.done))

/-- The decode area that bank b of a slot declares (R269); none while AREA_BASE is 0. -/
def State.decArea (s : State) (b n : Nat) : List Area :=
  let g := fun (f : Field) => s.get (bank b f)
  if g (Reg.DEC_BS_AREA_BASE n) = 0 then [] else
    [⟨tagDec n, g (Reg.DEC_BS_AREA_BASE n) * 4096,
      5 * pictureBytes (chromaSampling (g (Reg.DEC_BS_CHROMA n))) (if g (Reg.DEC_BS_DEPTH8 n) = 1 then 1 else 2)
        (s.decWindow b n).1 (s.decWindow b n).2 + 2 ^ g (Reg.DEC_BS_SBUF_LOG2 n)⟩]

/-- The capture ring of an enabled audio input with a channel mask (R370). -/
def State.audArea (s : State) (k : Nat) : List Area :=
  if s.on (Reg.AUD_IN_ENABLE k) && (s.get (Reg.AUD_IN_CAP_MASK_LO k) != 0 || s.get (Reg.AUD_IN_CAP_MASK_HI k) != 0) then
    [⟨tagAud k, s.get (Reg.AUD_IN_CAP_BASE k) * 4096, 2 ^ s.get (Reg.AUD_IN_CAP_LOG2 k) * 65536⟩] else []

/-- The configured slots. -/
def State.configured (s : State) (n : Nat) : Bool := s.slotState n != slotIdle

/-- Every area placed now: stores of enabled receivers, CMP_ areas in force, Safety Net areas, decode areas of configured
decode slots, capture rings. -/
def State.areas (s : State) : List Area :=
  ((List.range 56).filter (fun r => s.on (Reg.ING_RX_ENABLE r))).map s.storeArea ++
  ([0, 1, 2, 3] : List Nat).flatMap (fun n => s.cmpAreas 1 n ++ s.safArea n
    ++ (if s.configured n && s.cfg Reg.ENC_BS_FORMAT_KIND n == 1 then s.decArea 1 n else [])) ++
  (List.range 44).flatMap s.audArea

/-- Whether two areas share a byte. -/
def Area.meets (a b : Area) : Bool := decide (a.base < b.base + b.len ∧ b.base < a.base + a.len ∧ 0 < a.len ∧ 0 < b.len)

/-- Whether an area may be placed: inside in-service DRAM and meeting no area of another holder; `own` tells the areas it
replaces. -/
def State.areaOk (s : State) (own : Nat → Bool) (a : Area) : Bool :=
  s.inService a.base a.len && (s.areas.filter (fun b => !(own b.tag))).all (fun b => !(a.meets b))

/-! ## Engines and lanes as units -/

/-- Whether a lane carries Ethernet: MODE 0x1 to 0x3 and enabled. -/
def State.ethLane (s : State) (i : Nat) : Bool :=
  s.on (Reg.LANE_CFG_ENABLE i) && decide (1 ≤ s.get (Reg.LANE_CFG_MODE i) ∧ s.get (Reg.LANE_CFG_MODE i) ≤ 3)

/-- Indices of a range that hold a property. -/
def countWhere (n : Nat) (p : Nat → Bool) : Nat := ((List.range n).filter p).length

end Sys2Proof.Machine
end

