-- ==== Sys2Proof/Machine/Slots.lean ====
section
/-! DEFINITION. Bitstream slots (chapters 01, 03, 08, 09, 10): the checks of COMMIT and START, allocation of Faces, slice
engines and compositors, STOP and FAULT. -/

namespace Sys2Proof.Machine

/-! ## Slots -/

/-- A slot beyond its registers. -/
def State.slot (s : State) (n : Nat) : Slot := Table.getD s.slots n Slot.reset

/-- Write a slot. -/
def State.setSlot (s : State) (n : Nat) (x : Slot) : State := { s with slots := Table.put s.slots n x }

/-- Update a slot. -/
def State.updSlot (s : State) (n : Nat) (f : Slot → Slot) : State := s.setSlot n (f (s.slot n))

/-- The four slots. -/
def fourSlots : List Nat := [0, 1, 2, 3]

/-! ## Writes of device memory (R204) -/

/-- The slot whose Safety Net area a range of addresses touches. -/
def State.safAreaMeets (s : State) (a len : Nat) : Option Nat :=
  fourSlots.find? (fun n => (s.safArea n).any (fun x => decide (x.base < a + len ∧ a < x.base + x.len)))

/-- A write into slot n's Safety Net area is dropped: counted, logged with its origin, raised at most once per second on the Safety
Net object of that slot. -/
def State.dropProtected (s : State) (o n : Nat) : State :=
  ((s.bump Reg.SAF_PROTECT_CNT).logUnit o 0 0x8713 (blockOf Reg.SAF_CLR_CLR.off) n).raiseLimited 0x8713 0 (objSafety n) {}

/-- A write by anything but the Safety Net copy engine: one that touches a Safety Net area is dropped whole. -/
def State.deviceStore (s : State) (a : Nat) (l : List Byte) : State :=
  match s.safAreaMeets a l.length with
  | some n => s.dropProtected originHw n
  | none => s.store a l

/-- The kind of a slot's configuration in force: 0 encode, 1 decode. -/
def State.slotKind (s : State) (n : Nat) : Nat := s.cfg Reg.ENC_BS_FORMAT_KIND n

/-- Whether a device is paired (R424). -/
def State.paired (s : State) : Bool := s.on Reg.TRP_CTRL_ENABLE

/-- The committed fields common to both kinds of slot (R240). -/
def commonFields (n : Nat) : List Field :=
  [Reg.ENC_BS_FORMAT_KIND n, Reg.ENC_BS_TOOLS_FACE_MASK n, Reg.ENC_BS_COLS_PER_ENG n]

/-- The stream fields of an encode slot that are live (R286). -/
def liveStream (n : Nat) : List Field :=
  (List.range 8).flatMap (fun m => [Reg.ENC_BS_STR_GROUP n m, Reg.ENC_BS_STR_DST_PORT n m, Reg.ENC_BS_STR_SRC_PORT n m,
    Reg.ENC_BS_STR_DSCP n m, Reg.ENC_BS_STR_TTL n m, Reg.ENC_BS_STR_TAG_EN n m, Reg.ENC_BS_STR_PCP n m, Reg.ENC_BS_STR_VID n m])

/-- The live fields of an encode slot (R104, R256, R286). -/
def liveEncode (n : Nat) : List Field :=
  [Reg.ENC_BS_A_SRC_US n, Reg.ENC_BS_A_DST_US n, Reg.ENC_BS_A_SCN_US n, Reg.ENC_BS_A_RES_US n, Reg.RC_BS_TARGET_KBPS n,
   Reg.RC_BS_QP_MIN n, Reg.RC_BS_QP_MAX n, Reg.RC_BS_DQP_PIC n, Reg.RC_BS_ROW_MAX n, Reg.RC_BS_ROW_FLOOR n] ++ liveStream n

/-- The fields of an encode slot that need a restart, D aside. -/
def fixedEncode (n : Nat) : List Field :=
  commonFields n ++
  [Reg.ENC_BS_FORMAT_PROFILE n, Reg.ENC_BS_FORMAT_CHROMA n, Reg.ENC_BS_FORMAT_TIER n, Reg.ENC_BS_FORMAT_STRICT_LEVEL n,
   Reg.ENC_BS_FORMAT_LEVEL n, Reg.ENC_BS_FORMAT_RATE n, Reg.ENC_BS_SIZE_WIDTH n, Reg.ENC_BS_SIZE_HEIGHT n, Reg.ENC_BS_SP_W n,
   Reg.ENC_BS_SP_H n, Reg.ENC_BS_GDR_COLS n, Reg.ENC_BS_TOOLS_NUM_REF n, Reg.ENC_BS_TOOLS_AFFINE_EN n,
   Reg.ENC_BS_TOOLS_HINT_EN n, Reg.ENC_BS_TOOLS_TS_EN n, Reg.ENC_BS_PKT_TS_EN n, Reg.ENC_BS_PKT_TS_RTP n,
   Reg.ENC_BS_PKT_STREAMS n, Reg.ENC_BS_PKT_MTU n, Reg.ENC_BS_PKT_VIDEO_PID n, Reg.ENC_BS_PKT_PMT_PID n, Reg.RC_BS_MAX_KBPS n,
   Reg.RC_BS_QP_INIT n] ++
  (List.range 8).flatMap (fun m => [Reg.ENC_BS_STR_COL_FIRST n m, Reg.ENC_BS_STR_COL_LAST n m, Reg.ENC_BS_STR_PATH1_EN n m,
    Reg.ENC_BS_STR_PT n m, Reg.ENC_BS_STR_LANE0 n m, Reg.ENC_BS_STR_LANE1 n m, Reg.ENC_BS_STR_SSRC n m,
    Reg.ENC_BS_STR_TCLASS n m])

/-- The declaration of a decode slot that needs a restart (R267). -/
def fixedDecode (n : Nat) : List Field :=
  commonFields n ++
  [Reg.DEC_BS_CODEC n, Reg.DEC_BS_CHROMA n, Reg.DEC_BS_DEPTH8 n, Reg.DEC_BS_RATE n, Reg.DEC_BS_WIDTH n, Reg.DEC_BS_HEIGHT n,
   Reg.DEC_BS_SP_W n, Reg.DEC_BS_SP_H n, Reg.DEC_BS_WIN_COL n, Reg.DEC_BS_WIN_ROW n, Reg.DEC_BS_WIN_COLS n,
   Reg.DEC_BS_WIN_ROWS n, Reg.DEC_BS_OUT_X n, Reg.DEC_BS_OUT_Y n, Reg.DEC_BS_OUT_W n, Reg.DEC_BS_OUT_H n,
   Reg.DEC_BS_SBUF_LOG2 n, Reg.DEC_BS_AREA_BASE n]

/-- The fields that a commit of a slot of a kind takes over. -/
def slotFields (kind n : Nat) : List Field :=
  if kind = 0 then Reg.ENC_BS_D_NS n :: (fixedEncode n ++ liveEncode n) else fixedDecode n ++ [Reg.DEC_BS_LOAD_US n]

/-! ## Formats -/

/-- The codec of a PROFILE: 0 VVC, 1 HEVC. -/
def profileCodec (p : Nat) : Nat := if p < 4 then 0 else 1

/-- The profile and chroma combinations of R208. -/
def profileOk (p c : Nat) : Bool :=
  (p == 0 && c == 0) || (p == 1 && (c == 1 || c == 2)) || (p == 4 && c == 0) || (p == 5 && c == 0) || (p == 6 && c == 1)

/-- The sizes of R209. -/
def sizeOk (w h : Nat) : Bool := decide (256 ≤ w ∧ w ≤ 8192 ∧ 384 ≤ h ∧ h ≤ 4320) && w % 8 == 0 && h % 8 == 0

/-- The levels of R210: MaxLumaPs, MaxLumaSr, and MaxBR of the Main and High tiers (R243), LEVEL 0x1 first. -/
def levels : List (Nat × Nat × Nat × Nat) :=
  [(2228224, 66846720, 12000, 30000), (2228224, 133693440, 20000, 50000), (8912896, 267386880, 25000, 100000),
   (8912896, 534773760, 40000, 160000), (8912896, 1069547520, 60000, 240000), (35651584, 1069547520, 60000, 240000),
   (35651584, 2139095040, 120000, 480000), (35651584, 4278190080, 240000, 800000)]

/-- Whether a level admits a picture (R210). -/
def levelAdmits (w h : Nat) (rate : Rat) (l : Nat × Nat × Nat × Nat) : Bool :=
  decide (w * h ≤ l.1 ∧ w * w ≤ 8 * l.1 ∧ h * h ≤ 8 * l.1 ∧ (w * h : Nat) * rate ≤ (l.2.1 : Rat))

/-- The level signalled: LEVEL, or the lowest that admits the picture; none when it does not, or none does (R210). -/
def signalledLevel (code w h : Nat) (rate : Rat) : Option (Nat × Nat × Nat × Nat) :=
  if code = 0 then levels.find? (levelAdmits w h rate)
  else match levels[code - 1]? with
    | some l => if levelAdmits w h rate l then some l else none
    | none => none

/-- CpbNalFactor of a profile (R243). -/
def cpbNalFactor (p : Nat) : Nat := if p = 1 then 2750 else if p = 6 then 1833 else 1100

/-- Whether a grid is valid (R215). -/
def gridOk (codec w h spw sph : Nat) : Bool :=
  decide (1 ≤ spw ∧ spw ≤ ctus w ∧ 1 ≤ sph ∧ sph ≤ ctus h ∧ gridCols w spw * gridRows h sph ≤ 1024)
  && !(codec == 1 && (spw == 1 || decide (spanOf w spw (gridCols w spw - 1) 1 < 256)))

/-- The width in samples of subpicture column c. -/
def colWidth (w spw c : Nat) : Nat := spanOf w spw c 1

/-- The height in lines of CTU row k. -/
def rowHeight (h k : Nat) : Nat := min 128 (h - 128 * k)

/-- The CTUs of a slice (R249): 128 × 128 in VVC, 64 × 64 in HEVC. -/
def sliceCtus (codec colw rowh : Nat) : Nat :=
  if codec = 0 then ceilDiv colw 128 else ceilDiv colw 64 * ceilDiv rowh 64

/-- G of R247 in bits. -/
def spoilBits (codec : Nat) : Nat := if codec = 0 then 160 else 128

/-- The charge of a slice of b bits (R246). -/
def chargeOf (b : Nat) : Nat := 4 + 3 * ceilDiv b 8 / 2

/-- S_slice of R249. -/
def sliceCost (codec colw rowh : Nat) : Nat := chargeOf (280 + spoilBits codec * sliceCtus codec colw rowh)

/-- The sum of a list. -/
def sumNat (l : List Nat) : Nat := l.foldl (· + ·) 0

/-- S_row of R249, over the rows of full height. -/
def rowCost (codec w spw : Nat) : Nat :=
  sumNat ((List.range (gridCols w spw)).map (fun c => sliceCost codec (colWidth w spw c) 128))

/-! ## Delay budget -/

/-- D in 2^-16 ns (ENC_BSn_DELAY): 0 selects P_f + 2 ms. -/
def delayU (dNs : Nat) (pf : Rat) : Rat := if dNs = 0 then pf + usU 2000 else ((dNs * nsUnits : Nat) : Rat)

/-- Allowances from bank b. -/
def State.allowOf (s : State) (b n : Nat) : Allow :=
  { src := s.get (bank b (Reg.ENC_BS_A_SRC_US n)), dst := s.get (bank b (Reg.ENC_BS_A_DST_US n)),
    scn := s.get (bank b (Reg.ENC_BS_A_SCN_US n)), res := s.get (bank b (Reg.ENC_BS_A_RES_US n)) }

/-- P_f and P_r of bank b of an encode slot, in 2^-16 ns. -/
def State.encPf (s : State) (b n : Nat) : Rat := framePeriodU (s.get (bank b (Reg.ENC_BS_FORMAT_RATE n)))
def State.encRows (s : State) (b n : Nat) : Nat := ctus (s.get (bank b (Reg.ENC_BS_SIZE_HEIGHT n)))
def State.encPr (s : State) (b n : Nat) : Rat := s.encPf b n / s.encRows b n

/-- The margin of R35 in 2^-16 ns. -/
def State.margin (s : State) (b n : Nat) : Rat :=
  let a := s.allowOf b n
  delayU (s.get (bank b (Reg.ENC_BS_D_NS n))) (s.encPf b n)
    - (s.encPf b n + usU (a.src + 20 + a.dst + a.scn + a.res) + 5 * s.encPr b n)

/-- The luma sample rate of a slot from bank b (R28, R268), in samples per second. -/
def State.sampleRate (s : State) (b n : Nat) : Rat :=
  if s.get (bank b (Reg.ENC_BS_FORMAT_KIND n)) = 0 then
    ((s.get (bank b (Reg.ENC_BS_SIZE_WIDTH n)) * s.get (bank b (Reg.ENC_BS_SIZE_HEIGHT n)) : Nat) : Rat) * frameRate (s.get (bank b (Reg.ENC_BS_FORMAT_RATE n)))
  else (((s.decWindow b n).1 * (s.decWindow b n).2 : Nat) : Rat) * frameRate (s.get (bank b (Reg.DEC_BS_RATE n)))

/-- Healthy Faces (R97). -/
def State.faceHealthy (s : State) (i : Nat) : Bool := !(bit (s.get Reg.PWR_FENCE_FACE) i)
def State.engineHealthy (s : State) (e : Nat) : Bool := !(bit (s.get (Reg.PWR_FENCE_ENGINE (e / 32))) (e % 32))
def State.cmpHealthy (s : State) (i : Nat) : Bool := !(bit (s.get Reg.PWR_FENCE_CMP) i)

/-- One Gpx/s. -/
def gpx : Rat := 1000000000

/-- Whether the summed sample rate with slot n taken from bank b passes R28 and R97. -/
def State.rateFits (s : State) (b n : Nat) : Bool :=
  let others := (fourSlots.filter (fun k => k != n && s.slotBusy k)).map (fun k => s.sampleRate 1 k)
  decide (others.foldl (· + ·) (s.sampleRate b n) ≤ (countWhere 16 s.faceHealthy : Rat) * gpx)

/-- Checks 1, 3, 4 and 5 of R35 on bank b; 0 when all pass. -/
def State.budgetCode (s : State) (b n : Nat) : Code :=
  let d := s.get (bank b (Reg.ENC_BS_D_NS n))
  let a := s.allowOf b n
  if !(d = 0 ∨ (4000000 ≤ d ∧ d ≤ 200000000)) ∨ 20000 < a.src ∨ 20000 < a.dst ∨ a.scn < 1 ∨ 5000 < a.scn ∨ 20000 < a.res then 0x1101
  else if s.paired ∧ a.res < 800 then 0x1103
  else if !(s.rateFits b n) then 0x1104
  else if s.margin b n < 0 then 0x1102
  else 0

/-! ## Rate control values -/

/-- Bytes of a rate over a frame period, rounded up (R242). -/
def rateBytes (kbps rc : Nat) : Nat := ((kbps * 1000 : Nat) * framePeriod rc / 8 : Rat).ceil.toNat

/-- The values of the committed fields that O and Annex A depend on. -/
def State.encKey (s : State) (b n : Nat) : List Nat := (Reg.ENC_BS_D_NS n :: fixedEncode n).map (fun f => s.get (bank b f))

/-- The rate-control values that bank b of a slot gives (R242, R245, R249). -/
def State.rcOf (s : State) (b n : Nat) : Rc :=
  let g := fun (f : Field) => s.get (bank b f)
  let bMax := rateBytes (g (Reg.RC_BS_MAX_KBPS n)) (g (Reg.ENC_BS_FORMAT_RATE n))
  let nr := s.encRows b n
  let sRow := rowCost (profileCodec (g (Reg.ENC_BS_FORMAT_PROFILE n))) (g (Reg.ENC_BS_SIZE_WIDTH n)) (g (Reg.ENC_BS_SP_W n))
  let rm := g (Reg.RC_BS_ROW_MAX n)
  let rf := g (Reg.RC_BS_ROW_FLOOR n)
  { bMax := bMax, bTgt := rateBytes (g (Reg.RC_BS_TARGET_KBPS n)) (g (Reg.ENC_BS_FORMAT_RATE n)),
    overhead := Config.overhead (s.encKey b n) % 2 ^ 32, sRow := sRow,
    rowMax := min bMax (if rm = 0 then ceilDiv (3 * bMax) nr else rm),
    rowFloor := if rf = 0 then sRow + ceilDiv bMax (2 * nr) else rf,
    qpMin := g (Reg.RC_BS_QP_MIN n), qpMax := g (Reg.RC_BS_QP_MAX n), dqp := g (Reg.RC_BS_DQP_PIC n) }

/-! ## Checks of a commit -/

/-- The format checks of an encode slot (R240): 0, 0x0801 or the first failure. -/
def State.formatCode (s : State) (n : Nat) : Code :=
  let g := fun (f : Nat → Field) => s.get (f n)
  let p := g Reg.ENC_BS_FORMAT_PROFILE
  let w := g Reg.ENC_BS_SIZE_WIDTH
  let h := g Reg.ENC_BS_SIZE_HEIGHT
  let rc := g Reg.ENC_BS_FORMAT_RATE
  let spw := g Reg.ENC_BS_SP_W
  let sph := g Reg.ENC_BS_SP_H
  let gdr := g Reg.ENC_BS_GDR_COLS
  let refs := g Reg.ENC_BS_TOOLS_NUM_REF
  let cpe := g Reg.ENC_BS_COLS_PER_ENG
  if !(profileOk p (g Reg.ENC_BS_FORMAT_CHROMA)) ∨ 8 < g Reg.ENC_BS_FORMAT_LEVEL ∨ !(sizeOk w h) ∨ !(rateOk rc)
      ∨ gdr < 1 ∨ 8 < gdr ∨ ctus w < gdr ∨ refs = 0 ∨ refs = 3 ∨ cpe < 1 ∨ 8 < cpe then 0x1801
  else if (signalledLevel (g Reg.ENC_BS_FORMAT_LEVEL) w h (frameRate rc)).isNone then 0x1802
  else if !(gridOk (profileCodec p) w h spw sph) then 0x1803
  else if Config.exceedsAnnexA [p, g Reg.ENC_BS_FORMAT_LEVEL, w, h, rc, spw, sph] then
    (if g Reg.ENC_BS_FORMAT_STRICT_LEVEL = 1 then 0x1804 else 0x0801)
  else 0

/-- Whether the column ranges of the streams follow R260. -/
def State.streamCols (s : State) (n cols : Nat) : Nat → Nat → Bool
  | 0, nextCol => nextCol == cols
  | k + 1, nextCol =>
    let m := s.get (Reg.ENC_BS_PKT_STREAMS n) - (k + 1)
    let a := s.get (Reg.ENC_BS_STR_COL_FIRST n m)
    let b := s.get (Reg.ENC_BS_STR_COL_LAST n m)
    a == nextCol && decide (a ≤ b) && s.streamCols n cols k (b + 1)

/-- The packetization checks of R286. -/
def State.packetCode (s : State) (n : Nat) : Code :=
  let g := fun (f : Nat → Field) => s.get (f n)
  let k := g Reg.ENC_BS_PKT_STREAMS
  let mtu := g Reg.ENC_BS_PKT_MTU
  let v := g Reg.ENC_BS_PKT_VIDEO_PID
  let pmt := g Reg.ENC_BS_PKT_PMT_PID
  let streamOk := fun (m : Nat) =>
    decide (96 ≤ s.get (Reg.ENC_BS_STR_PT n m) ∧ s.get (Reg.ENC_BS_STR_PT n m) ≤ 127)
    && s.isPort (s.get (Reg.ENC_BS_STR_LANE0 n m))
    && (s.get (Reg.ENC_BS_STR_PATH1_EN n m) == 0 ||
        (s.get (Reg.ENC_BS_STR_LANE1 n m) != s.get (Reg.ENC_BS_STR_LANE0 n m) && s.isPort (s.get (Reg.ENC_BS_STR_LANE1 n m))))
  if k < 1 ∨ 8 < k then 0x1A01
  else if s.streamCols n (gridCols (g Reg.ENC_BS_SIZE_WIDTH) (g Reg.ENC_BS_SP_W)) k 0 ∧ (List.range k).all streamOk
      ∧ 576 ≤ mtu ∧ mtu ≤ 9000
      ∧ !(g Reg.ENC_BS_PKT_TS_EN = 1 ∧ k ≠ 1) ∧ 0x20 ≤ v ∧ v ≤ 0x1FFE ∧ 0x20 ≤ pmt ∧ pmt ≤ 0x1FFE ∧ v ≠ pmt then 0
  else 0x1A01

/-- The rate-control checks of R257: `live` runs 1, 3 and 4 only. 0, 0x0901 or the first failure. -/
def State.rcCode (s : State) (n : Nat) (live : Bool) : Code :=
  let g := fun (f : Nat → Field) => s.get (f n)
  let mx := g Reg.RC_BS_MAX_KBPS
  let tg := g Reg.RC_BS_TARGET_KBPS
  let q := g Reg.RC_BS_QP_INIT
  let p := g Reg.ENC_BS_FORMAT_PROFILE
  let r := s.rcOf 0 n
  let nr := s.encRows 0 n
  let limit := match signalledLevel (g Reg.ENC_BS_FORMAT_LEVEL) (g Reg.ENC_BS_SIZE_WIDTH) (g Reg.ENC_BS_SIZE_HEIGHT) (frameRate (g Reg.ENC_BS_FORMAT_RATE)) with
    | some l => (if g Reg.ENC_BS_FORMAT_TIER = 0 then l.2.2.1 else l.2.2.2) * cpbNalFactor p / 1000
    | none => 0
  if mx < 1000 ∨ 4000000 < mx ∨ tg < 1000 ∨ mx < tg ∨ q < r.qpMin ∨ r.qpMax < q
      ∨ (if profileCodec p = 0 then 63 else 51) < r.qpMax ∨ r.dqp < 1 ∨ 12 < r.dqp then 0x1901
  else if !live ∧ limit < mx ∧ g Reg.ENC_BS_FORMAT_STRICT_LEVEL = 1 then 0x1904
  else if r.bMax / 4 < r.overhead + nr * r.sRow then 0x1903
  else if r.rowMax < ceilDiv r.bMax nr ∨ r.rowFloor < r.sRow ∨ min r.rowMax (ceilDiv r.bMax nr) < r.rowFloor then 0x1902
  else if !live ∧ limit < mx then 0x0901
  else 0

/-- The declaration of a decode slot (R267), then its area and the sample rate (R522). -/
def State.declCode (s : State) (n : Nat) : Code :=
  let g := fun (f : Nat → Field) => s.get (f n)
  let w := g Reg.DEC_BS_WIDTH
  let h := g Reg.DEC_BS_HEIGHT
  let c := g Reg.DEC_BS_CODEC
  let ch := g Reg.DEC_BS_CHROMA
  let spw := g Reg.DEC_BS_SP_W
  let sph := g Reg.DEC_BS_SP_H
  let wx := g Reg.DEC_BS_WIN_COL
  let wy := g Reg.DEC_BS_WIN_ROW
  let ww := g Reg.DEC_BS_WIN_COLS
  let wh := g Reg.DEC_BS_WIN_ROWS
  let x0 := wx * spw * 128
  let y0 := wy * sph * 128
  let win := s.decWindow 0 n
  let profile := (c == 0 && g Reg.DEC_BS_DEPTH8 == 0 && decide (ch ≤ 2))
    || (c == 1 && ((g Reg.DEC_BS_DEPTH8 == 0 && decide (ch ≤ 1)) || (g Reg.DEC_BS_DEPTH8 == 1 && ch == 0)))
  if !profile ∨ !(sizeOk w h) ∨ !(rateOk (g Reg.DEC_BS_RATE)) ∨ !(gridOk c w h spw sph) ∨ ww = 0 ∨ wh = 0
      ∨ gridCols w spw < wx + ww ∨ gridRows h sph < wy + wh
      ∨ g Reg.DEC_BS_OUT_W = 0 ∨ g Reg.DEC_BS_OUT_H = 0 ∨ g Reg.DEC_BS_OUT_X < x0 ∨ g Reg.DEC_BS_OUT_Y < y0
      ∨ x0 + win.1 < g Reg.DEC_BS_OUT_X + g Reg.DEC_BS_OUT_W ∨ y0 + win.2 < g Reg.DEC_BS_OUT_Y + g Reg.DEC_BS_OUT_H
      ∨ g Reg.DEC_BS_SBUF_LOG2 < 20 ∨ 25 < g Reg.DEC_BS_SBUF_LOG2
      ∨ g Reg.DEC_BS_LOAD_US < 1 ∨ 5000 < g Reg.DEC_BS_LOAD_US then 0x1A02
  else match s.decArea 0 n with
    | [] => 0x1A03
    | a :: _ => if !(s.areaOk (fun t => t == tagDec n) a) then 0x1A03 else if s.rateFits 0 n then 0 else 0x1104

/-- The first failure of two checks, keeping a notice (a code below 0x1000) that a later check does not replace. -/
def firstCode (a b : Code) : Code := if a ≠ 0 then a else b

/-- Whether a code refuses. -/
def refuses (c : Code) : Bool := decide (0x1000 ≤ c)

/-- Whether a commit to a running slot changes D (0x1105) or a field that is not live (0x1306) (R104, R522). -/
def State.liveCode (s : State) (n : Nat) : Code :=
  let k := s.slotKind n
  let changed := fun (f : Field) => s.get f != s.get (bank 1 f)
  if k = 0 ∧ changed (Reg.ENC_BS_D_NS n) then 0x1105
  else if (if k = 0 then fixedEncode n else fixedDecode n).any changed then 0x1306 else 0

/-- The checks of R522 in their order, whatever the slot's state (R28, R35): 0, a notice, or the first failure. -/
def State.commitChecks (s : State) (n : Nat) : Code :=
  let st := s.slotState n
  let running := st == slotRunning
  if (st = slotStarting ∨ st = slotRunning) ∧ s.liveCode n ≠ 0 then s.liveCode n
  else if s.get (Reg.ENC_BS_FORMAT_KIND n) = 0 then
    let c := s.formatCode n
    if refuses c then c
    else if s.budgetCode 0 n ≠ 0 then s.budgetCode 0 n
    else if s.packetCode n ≠ 0 then s.packetCode n
    else if refuses (s.rcCode n running) then s.rcCode n running
    else firstCode c (s.rcCode n running)
  else if s.get (Reg.ENC_BS_COLS_PER_ENG n) < 1 ∨ 8 < s.get (Reg.ENC_BS_COLS_PER_ENG n) then 0x1801
  else s.declCode n

/-- The status of a COMMIT (R100, R522): 0 or a notice when it is accepted. One that passes every check in a state that takes no
COMMIT is refused with 0x1305 (DEDUCED, log entry 15). -/
def State.commitCode (s : State) (n : Nat) : Code :=
  let st := s.slotState n
  let c := s.commitChecks n
  if refuses c then c else if st = slotStarting ∨ st = slotStopping ∨ st = slotFault then 0x1305 else c

/-- The composition start c_0 of picture N under given allowances (R35), in 2^-16 ns. -/
def State.c0 (s : State) (n : Nat) (a : Allow) (pic : Nat) : Rat := (pic : Rat) * s.encPf 1 n + s.encPr 1 n + usU (a.src + 20)

/-- The least picture whose composition start under given allowances is at least an instant. -/
def State.firstPic (s : State) (n : Nat) (a : Allow) (t : Rat) : Nat :=
  ((t - s.c0 n a 0) / s.encPf 1 n).ceil.toNat

/-- The allowances of picture N of a slot (R36). -/
def Slot.allowAt (x : Slot) (pic : Nat) : Allow :=
  (x.allowNext.filter (fun e => decide (e.1 ≤ pic))).foldl (fun _ e => e.2) x.allow

/-- The first picture a change of allowances accepted now applies to (R36). -/
def State.allowFrom (s : State) (n : Nat) : Nat :=
  let x := s.slot n
  let t : Rat := (s.activeDt : Rat) + usU 2000
  let cand := x.allowNext.map (fun e => e.1) ++ (List.range (x.allowNext.length + 1)).map (fun i =>
    s.firstPic n (match i with | 0 => x.allow | j + 1 => (x.allowNext.getD j (0, x.allow)).2) t)
  let ok := fun (p : Nat) => decide (t ≤ s.c0 n (x.allowAt p) p)
  match (cand.filter ok).foldl (fun m p => match m with | none => some p | some q => some (min p q)) none with
  | some p => p
  | none => s.firstPic n x.allow t

/-- Show what follows from the configuration in force of a slot (R105, R242, R245, R249). -/
def State.showCfg (s : State) (n : Nat) : State :=
  if s.slotKind n = 0 then
    let r := s.rcOf 1 n
    s.setAll
      [(Reg.ENC_BS_SP_COUNT n, gridCols (s.cfg Reg.ENC_BS_SIZE_WIDTH n) (s.cfg Reg.ENC_BS_SP_W n)
          * gridRows (s.cfg Reg.ENC_BS_SIZE_HEIGHT n) (s.cfg Reg.ENC_BS_SP_H n)),
       (Reg.ENC_BS_SWEEP_LEN n, ceilDiv (ctus (s.cfg Reg.ENC_BS_SIZE_WIDTH n)) (s.cfg Reg.ENC_BS_GDR_COLS n)),
       (Reg.ENC_BS_BUDGET_VALID n, 1), (Reg.ENC_BS_BUDGET_MARGIN_US n, floorUs (s.margin 1 n)),
       (Reg.RC_BS_B_MAX n, r.bMax), (Reg.RC_BS_OVERHEAD n, r.overhead), (Reg.RC_BS_SPOIL_ROW n, r.sRow),
       (Reg.RC_BS_ROW_MAX_EFF n, if s.slotState n = slotRunning then s.get (Reg.RC_BS_ROW_MAX_EFF n) else r.rowMax),
       (Reg.RC_BS_ROW_FLOOR_EFF n, if s.slotState n = slotRunning then s.get (Reg.RC_BS_ROW_FLOOR_EFF n) else r.rowFloor)]
  else s.setAll [(Reg.ENC_BS_SP_COUNT n, 0), (Reg.ENC_BS_SWEEP_LEN n, 0), (Reg.ENC_BS_BUDGET_VALID n, 0), (Reg.ENC_BS_BUDGET_MARGIN_US n, 0)]

/-- Queue the composition start of picture N on the slot's compositor (KIND 0x1). -/
def State.queueComposition (s : State) (n pic : Nat) : State :=
  if s.on (Reg.CMP_SLOT_STATUS_UNIT_VALID n) then
    s.launchAt (s.get (Reg.CMP_SLOT_STATUS_UNIT n)) 1 (instant (s.c0 n ((s.slot n).allowAt pic) pic)) (.composition n pic)
  else s

/-- Write the composition start of the slot's next picture again when changed allowances move it (R36). -/
def State.moveComposition (s : State) (n : Nat) (old : Allow) : State :=
  let x := s.slot n
  if x.allowAt x.next = old then s
  else
    (s.cancelAll (fun q => match q.act with | .composition k pic => k == n && pic == x.next | _ => false)).queueComposition n x.next

/-- Install a slot's configuration: the fields come into force and the registers that show it follow. -/
def State.install (s : State) (n : Nat) : State :=
  let k := s.get (Reg.ENC_BS_FORMAT_KIND n)
  let old := if s.slotState n = slotRunning ∧ k = 0 then some (s.rcOf 1 n) else none
  let from' := s.allowFrom n
  let s1 := s.copyBank 0 1 (slotFields k n)
  let x := s1.slot n
  let s2 := s1.setSlot n (if s.slotState n = slotRunning ∧ k = 0 then
      { x with commitAt := s.lc, rcBefore := if x.commitAt = s.lc ∧ x.rcBefore.isSome then x.rcBefore else old,
               allowNext := if s1.allowOf 1 n = s.allowOf 1 n then x.allowNext
                 else x.allowNext.filter (fun e => decide (e.1 < from')) ++ [(from', s1.allowOf 1 n)] }
    else { x with rcBefore := none })
  (if s.slotState n = slotRunning ∧ k = 0 then s2.moveComposition n (x.allowAt x.next) else s2).showCfg n

/-! ## Scan-out lanes of a slot -/

/-- A scan-out lane beyond its registers. -/
def State.scn (s : State) (i : Nat) : Scn := Table.getD s.scns i Scn.reset
def State.setScn (s : State) (i : Nat) (x : Scn) : State := { s with scns := Table.put s.scns i x }

/-- States of a scan-out lane (chapter 11). -/
def scnOff : Nat := 0
def scnWait : Nat := 1
def scnRun : Nat := 2
def scnSelf : Nat := 3
def scnTransition : Nat := 4

/-- STATE of a scan-out lane. -/
def State.scnState (s : State) (i : Nat) : Nat := s.get (Reg.SCN_LANE_STATUS_STATE i)

/-- The lane whose timing a scan-out lane follows: its leader when it is a clone (R302). -/
def State.scnLead (s : State) (i : Nat) : Nat :=
  if s.get (bank 1 (Reg.SCN_LANE_CLONE_EN i)) = 1 then s.get (bank 1 (Reg.SCN_LANE_CLONE_OF i)) else i

/-- The lanes that show a decode slot: enabled, the source in force (of the leader, R302) the slot. -/
def State.lanesOf (s : State) (n : Nat) : List Nat :=
  (List.range 16).filter (fun i => s.get (bank 1 (Reg.SCN_LANE_ENABLE i)) == 1
    && s.get (bank 1 (Reg.SCN_LANE_SRC_KIND (s.scnLead i))) == 0 && s.get (bank 1 (Reg.SCN_LANE_SRC_INDEX (s.scnLead i))) == n)

/-- Check 4 of R305 on the timing in force of a lane for a load allowance in µs. -/
def State.loadFits (s : State) (b i loadUs : Nat) : Bool :=
  decide (s.get (bank b (Reg.SCN_LANE_SRC_H i)) * s.get (bank b (Reg.SCN_LANE_LINE_NS i)) + s.get (bank b (Reg.SCN_LANE_FLIP_LEAD_NS i)) + 1000
    ≤ loadUs * 1000)

/-- Check 4 is run again when a slot's LOAD_US changes (R305): a lane that fails waits until a commit passes. -/
def State.recheckLoad (s : State) (n : Nat) : State :=
  ((s.lanesOf n).filter (fun i => !(s.loadFits 1 (s.scnLead i) (s.cfg Reg.DEC_BS_LOAD_US n)))).foldl (fun (t : State) i =>
    (t.setScn i { t.scn i with frame := none, still := 0, blocked := true }).setAll
      [(Reg.SCN_LANE_STATUS_STATE i, scnWait), (Reg.SCN_LANE_COMMIT_LAST_STATUS i, 0x1B04)]) s

/-- A slot leaves IDLE: no LUT counts as loaded since (R183). -/
def State.forgetLuts (s : State) (n : Nat) : State :=
  { s with cmps := Table.upd s.cmps n Cmp.reset (fun c => { c with luts := 0 }) }

/-- The offset and size of a table in the table area (CMP_SLOTn_AREAS): LUTs, horizontal, vertical sets. -/
def tablePlace (k : Nat) : Nat × Nat :=
  if k < 4 then (k * 290816, 287496) else if k < 8 then (1163264 + (k - 4) * 1024, 1024) else (1163264 + 4096 + (k - 8) * 768, 768)

/-- At START the compositor reloads its on-chip tables from the slot's DRAM copy: those that were ever loaded, when the table area is
set (R178). -/
def State.reloadTables (s : State) (n : Nat) : State :=
  let base := s.get (bank 1 (Reg.CMP_SLOT_TABLE_BASE n)) * 4096
  if base = 0 then s
  else { s with cmps := Table.upd s.cmps n Cmp.reset (fun c =>
           { c with tables := c.tables.map (fun e => (e.1, Memory.readAll s.mem (base + (tablePlace e.1).1) (tablePlace e.1).2)) }) }

/-- The layers of a slot that stops claim no source picture any more (R174). -/
def State.endClaims (s : State) (n : Nat) : State :=
  { s with cmps := Table.upd s.cmps n Cmp.reset (fun c =>
      { c with layers := c.layers.map (fun e => (e.1, { e.2 with cur := none, prev := none, holding := false })) }) }

/-- COMMIT (R100, R104, R522). -/
def State.slotCommit (s : State) (n : Nat) : State × Code :=
  let c := s.commitCode n
  if refuses c then (s, c)
  else
    let s0 := s.install n
    let s1 := if s.get (Reg.ENC_BS_FORMAT_KIND n) = 1 ∧ s0.cfg Reg.DEC_BS_LOAD_US n ≠ s.cfg Reg.DEC_BS_LOAD_US n then s0.recheckLoad n else s0
    (if s.slotState n = slotIdle then (s1.forgetLuts n).set (Reg.ENC_BS_RUN_STATE n) slotStopped else s1, c)

/-! ## Power domains of slots -/

/-- Write the power domains that are on (PWR_PD_ON0 to PWR_PD_ON2). -/
def State.pdOn (s : State) (p : Nat) : Bool := bit (s.get (Reg.PWR_PD_ON (p / 32))) (p % 32)
def State.setPd (s : State) (on : Bool) (p : Nat) : State :=
  s.set (Reg.PWR_PD_ON (p / 32)) ((if on then setBit else clearBit) (s.get (Reg.PWR_PD_ON (p / 32))) (p % 32))
def State.setPds (s : State) (on : Bool) (l : List Nat) : State := l.foldl (fun s p => s.setPd on p) s

/-- The slice engines of a slot (ENC_BSn_ENGMASK). -/
def State.slotEngines (s : State) (n : Nat) : List Nat :=
  (List.range 96).filter (fun e => bit (s.get (Reg.ENC_BS_ENGMASK_ENGINE n (e / 32))) (e % 32))

/-- The Faces of a slot. -/
def State.slotFaces (s : State) (n : Nat) : List Nat := bitsOf 16 (s.get (Reg.ENC_BS_FACE_USED n))

/-- The compositor of a slot. -/
def State.slotCmp (s : State) (n : Nat) : Option Nat :=
  if s.on (Reg.CMP_SLOT_STATUS_UNIT_VALID n) then some (s.get (Reg.CMP_SLOT_STATUS_UNIT n)) else none

/-- The power domains a slot's units need (R77, R477): motion search only for encode columns. -/
def State.slotPds (s : State) (n : Nat) : List Nat :=
  ((s.slotEngines n).map (fun e => 7 + e / 12)) ++
  (s.slotFaces n).flatMap (fun i => if s.slotKind n = 0 then [15 + i, 31 + i] else [31 + i]) ++
  (match s.slotCmp n with | none => [] | some u => [47 + u, 51 + u])

/-! ## Allocation -/

/-- The loads of a slot's subpicture columns in samples per second (R236, R268). -/
def State.colLoads (s : State) (n : Nat) : List Rat :=
  if s.slotKind n = 0 then
    let w := s.cfg Reg.ENC_BS_SIZE_WIDTH n
    let spw := s.cfg Reg.ENC_BS_SP_W n
    (List.range (gridCols w spw)).map (fun c =>
      ((colWidth w spw c * s.cfg Reg.ENC_BS_SIZE_HEIGHT n : Nat) : Rat) * frameRate (s.cfg Reg.ENC_BS_FORMAT_RATE n))
  else
    (List.range (s.cfg Reg.DEC_BS_WIN_COLS n)).map (fun c =>
      ((colWidth (s.cfg Reg.DEC_BS_WIDTH n) (s.cfg Reg.DEC_BS_SP_W n) (s.cfg Reg.DEC_BS_WIN_COL n + c) * (s.decWindow 1 n).2 : Nat) : Rat)
        * frameRate (s.cfg Reg.DEC_BS_RATE n))

/-- The load that allocated slots place on a Face. -/
def State.faceLoad (s : State) (i : Nat) : Rat :=
  (fourSlots.map (fun n => (((s.slot n).faces.zip (s.colLoads n)).filter (fun e => e.1 == i)).foldl (fun a e => a + e.2) 0)).foldl (· + ·) 0

/-- The Face a column goes to from Face i on (R236): the first permitted, healthy one with room. -/
def findFace (ok : Nat → Bool) (load : Nat → Rat) (c : Rat) : Nat → Nat → Option Nat
  | 0, _ => none
  | fuel + 1, i => if ok i ∧ load i + c ≤ gpx then some i else findFace ok load c fuel (i + 1)

/-- The placement of R236: the Face of each column, or none. -/
def placeCols (ok : Nat → Bool) : List Rat → (Nat → Rat) → Nat → List Nat → Option (List Nat)
  | [], _, _, acc => some acc.reverse
  | c :: l, load, i, acc => match findFace ok load c (16 - i) i with
    | none => none
    | some j => placeCols ok l (fun k => if k = j then load k + c else load k) j (j :: acc)

/-- The placement of a slot's columns. -/
def State.placement (s : State) (n : Nat) : Option (List Nat) :=
  placeCols (fun i => bit (s.cfg Reg.ENC_BS_TOOLS_FACE_MASK n) i && s.faceHealthy i) (s.colLoads n) s.faceLoad 0 []

/-- Free healthy slice engines, lowest first (R238): held by no slot, and no stand-in of an update (R466). -/
def State.freeEngines (s : State) : List Nat :=
  (List.range 96).filter (fun e => s.engineHealthy e && !(s.standIns.contains e)
    && fourSlots.all (fun n => !(bit (s.get (Reg.ENC_BS_ENGMASK_ENGINE n (e / 32))) (e % 32))))

/-- ENG_COUNT of a slot (R238). -/
def State.engCount (s : State) (n : Nat) : Nat := ceilDiv (s.colLoads n).length (s.cfg Reg.ENC_BS_COLS_PER_ENG n) + 1

/-- The lowest healthy compositor held by no slot (R163). -/
def State.freeCmp (s : State) : Option Nat :=
  fourSlots.find? (fun u => s.cmpHealthy u && fourSlots.all (fun n => s.slotCmp n != some u))

/-- Show the Faces' loads (ENC_FACEi_LOAD). -/
def State.showFaces (s : State) : State :=
  (List.range 16).foldl (fun t i => t.setAll
    [(Reg.ENC_FACE_LOAD_PM i, (s.faceLoad i / 1000000).ceil.toNat),
     (Reg.ENC_FACE_SLOTS i, maskOf (fourSlots.filter (fun n => (s.slot n).faces.contains i)))]) s

/-- A mask word of a list of engines. -/
def engWord (l : List Nat) (m : Nat) : Nat := maskOf ((l.filter (fun e => e / 32 == m)).map (fun e => e % 32))

/-- Allocate Faces, engines and a compositor to a slot, powered (R163, R236, R238, R77). -/
def State.allocate (s : State) (n : Nat) (faces : List Nat) (engines : List Nat) (u : Nat) : State :=
  let s1 := ((s.updSlot n (fun x => { x with faces := faces })).setAll
    [(Reg.ENC_BS_FACE_USED n, maskOf faces), (Reg.ENC_BS_ENG_COUNT n, engines.length),
     (Reg.ENC_BS_ENGMASK_ENGINE n 0, engWord engines 0), (Reg.ENC_BS_ENGMASK_ENGINE n 1, engWord engines 1),
     (Reg.ENC_BS_ENGMASK_ENGINE n 2, engWord engines 2), (Reg.CMP_SLOT_STATUS_UNIT_VALID n, 1), (Reg.CMP_SLOT_STATUS_UNIT n, u)]).showFaces
  (s1.setPds true (s1.slotPds n)).reloadTables n

/-- Release a slot's units: domains that no other slot needs are gated (R77, R100). -/
def State.release (s : State) (n : Nat) : State :=
  let gone := (s.slotPds n).filter (fun p => (fourSlots.filter (fun k => k != n)).all (fun k => !((s.slotPds k).contains p)))
  ((((s.updSlot n (fun x => { x with faces := [] })).setAll
    [(Reg.ENC_BS_FACE_USED n, 0), (Reg.ENC_BS_ENG_COUNT n, 0), (Reg.ENC_BS_ENGMASK_ENGINE n 0, 0),
     (Reg.ENC_BS_ENGMASK_ENGINE n 1, 0), (Reg.ENC_BS_ENGMASK_ENGINE n 2, 0), (Reg.CMP_SLOT_STATUS_UNIT_VALID n, 0),
     (Reg.CMP_SLOT_STATUS_UNIT n, 0)]).showFaces).setPds false gone).endClaims n

/-! ## Stopping -/

/-- The slot a queued launch of the device belongs to; releases belong to the lane (R103). -/
def LaunchAct.slotOf : LaunchAct → Option Nat
  | .composition n _ => some n
  | .encodeRow n _ _ => some n
  | .decodeRow n _ _ => some n
  | _ => none

/-- Whether a unit is held by a slot and by no other. -/
def State.onlyOf (s : State) (u n : Nat) : Bool :=
  s.unitOfSlot u n && (fourSlots.filter (fun k => k != n)).all (fun k => !(s.unitOfSlot u k))

/-- Cancel every queued launch of a slot's own units (R103): its own launches, and whatever waits on units it alone
holds. -/
def State.cancelSlot (s : State) (n : Nat) : State :=
  (s.tim.queues.map (fun e => e.1)).foldl (fun t u =>
    t.cancel u (fun q => q.act.slotOf == some n || s.onlyOf u n)) s

/-- Whether some slice of a row has gone to packetization. -/
def EncRow.anyReleased (r : EncRow) : Bool := decide (r.held.length < r.slices.length)

/-- Cancel the release launches of rows of which nothing was released (R103). -/
def State.cancelReleases (s : State) (n : Nat) : State :=
  let gone := (s.slot n).pics.flatMap (fun p =>
    (p.rows.zipIdx.filter (fun e => !(e.1.anyReleased))).map (fun e => (p.n, e.2)))
  s.cancelAll (fun q => match q.act with | .release k pic row => k == n && gone.contains (pic, row) | _ => false)

/-- Stop a slot at once (R103): launches cancelled, rows not released dropped, units released. -/
def State.stopNow (s : State) (n st : Nat) : State :=
  ((((s.cancelReleases n).cancelSlot n).release n).updSlot n (fun x =>
    { x with pics := [], allowNext := [], rcBefore := none, dec := { x.dec with pics := [] } })).set (Reg.ENC_BS_RUN_STATE n) st

/-- A slot goes to FAULT with 0xF303 (R97, R98, R100). -/
def State.slotToFault (s : State) (n : Nat) : State :=
  if s.slotBusy n then (s.stopNow n slotFault).raise 0xF303 (objSlot n) {} else s

/-- STOP (R100, R103). -/
def State.slotStop (s : State) (n : Nat) : State × Code :=
  let st := s.slotState n
  if st = slotStarting then (s.stopNow n slotStopped, 0)
  else if st = slotRunning then
    ((s.cancelAll (fun q => match q.act with | .composition k _ => k == n | _ => false)).set (Reg.ENC_BS_RUN_STATE n) slotStopping, 0)
  else if st = slotFault then (s.set (Reg.ENC_BS_RUN_STATE n) slotStopped, 0)
  else (s, 0x1305)

/-- Whether every picture begun of a STOPPING slot is done (R103). -/
def State.stopDone (s : State) (n : Nat) : Bool :=
  s.slotState n == slotStopping &&
  (if s.slotKind n = 0 then (s.slot n).pics.isEmpty else (s.slot n).dec.pics.all (fun p => p.ts.isNone || p.shown || s.due 1 (instant p.p)))

/-- SLOT_STOP_DONE (R103): the slot cancels its remaining launches, releases its units and is STOPPED. -/
def State.slotStopDone (s : State) (n : Nat) : State :=
  if s.stopDone n then
    (((s.cancelSlot n).release n).updSlot n (fun x => { x with dec := { x.dec with pics := [] } })).set (Reg.ENC_BS_RUN_STATE n) slotStopped
  else s

/-! ## Fencing units of slots -/

/-- The slots that hold a unit. -/
def State.holders (s : State) : UnitId → List Nat
  | .cmp i => fourSlots.filter (fun n => s.slotCmp n == some i.val)
  | .face i => fourSlots.filter (fun n => bit (s.get (Reg.ENC_BS_FACE_USED n)) i)
  | .engine e => fourSlots.filter (fun n => (s.slotEngines n).contains e.val)
  | _ => []

/-- The PWR_ block's number (R512). -/
def blockPwr : Nat := 1

/-- A number that names a unit in its class: pair, compositor, Face, engine, lane, link engine, DSP, floor unit. -/
def unitIndex : UnitId → Nat
  | .pair p => p | .cmp i => 0x100 + i | .face i => 0x200 + i | .engine e => 0x300 + e | .lane i => 0x400 + i | .link i => 0x500 + i
  | .dsp i => 0x600 + i | .ringmaster => 0x700 | .barker => 0x701 | .housekeeping => 0x702

/-- Set the fence bit of a unit of a slot (R96). -/
def State.fenceBit (s : State) : UnitId → State
  | .cmp i => s.set Reg.PWR_FENCE_CMP (setBit (s.get Reg.PWR_FENCE_CMP) i)
  | .face i => s.set Reg.PWR_FENCE_FACE (setBit (s.get Reg.PWR_FENCE_FACE) i)
  | .engine e => s.set (Reg.PWR_FENCE_ENGINE (e / 32)) (setBit (s.get (Reg.PWR_FENCE_ENGINE (e / 32))) (e % 32))
  | .pair p => s.set Reg.PWR_FENCE_PAIR (setBit (s.get Reg.PWR_FENCE_PAIR) p)
  | .lane i => s.set Reg.PWR_FENCE_LANE (setBit (s.get Reg.PWR_FENCE_LANE) i)
  | .link i => (s.set Reg.PWR_FENCE_LINK (setBit (s.get Reg.PWR_FENCE_LINK) i)).set Reg.PWR_FENCE_LANE (setBit (s.get Reg.PWR_FENCE_LANE) i)
  | .dsp i => s.set Reg.PWR_FENCE_AUDIO (setBit (s.get Reg.PWR_FENCE_AUDIO) i)
  | _ => s

/-- Whether a unit is fenced already. -/
def State.isFenced (s : State) : UnitId → Bool
  | .cmp i => !(s.cmpHealthy i)
  | .face i => !(s.faceHealthy i)
  | .engine e => !(s.engineHealthy e)
  | .pair p => bit (s.get Reg.PWR_FENCE_PAIR) p
  | .lane i => bit (s.get Reg.PWR_FENCE_LANE) i
  | .link i => bit (s.get Reg.PWR_FENCE_LINK) i
  | .dsp i => bit (s.get Reg.PWR_FENCE_AUDIO) i
  | _ => false

/-- The domains of a unit that are its own alone: a Face, a compositor, a pair, a lane. An engine or a DSP shares its domain. -/
def unitPds : UnitId → List Nat
  | .cmp i => [47 + i, 51 + i] | .face i => [15 + i, 31 + i] | .pair p => [2 + p] | .lane i => [57 + i] | .link i => [57 + i] | _ => []

/-- The domains of a unit, those it shares included. -/
def unitDomains : UnitId → List Nat
  | .engine e => [7 + e / 12]
  | .dsp _ => [56]
  | u => unitPds u

/-- Fence a unit (R96): its bit, 0xF302 (0xF301 for a pair), the Ledger, its gating, and FAULT for the slots that hold it. -/
def State.fenceCore (s : State) (u : UnitId) : State :=
  if s.isFenced u then s
  else
    let code := match u with | .pair _ => 0xF301 | _ => 0xF302
    let s1 := ((s.fenceBit u).raise code objDevice {}).logUnit originHw 0 code blockPwr (unitIndex u)
    ((s.holders u).foldl (fun t n => t.slotToFault n) s1).setPds false (unitPds u)

/-! ## START -/

/-- Whether the mode takes a slot kind (R99). -/
def State.modeTakes (s : State) (kind : Nat) : Bool :=
  s.mode == 3 || (s.mode == 1 && kind == 0) || (s.mode == 2 && kind == 1)

/-- The checks of START (R99, R239): 0 when all pass. The mode that takes the slot's kind is the one in force, CUR_MODE, while a
transition or a take-over is under way too: the spec does not bar START then (DESIGN CHOICE, log entry 107). -/
def State.startCode (s : State) (n : Nat) (freerun : Bool) : Code :=
  let k := s.slotKind n
  let servo := s.servo s.activeDom
  if s.slotState n ≠ slotStopped ∨ !(s.modeTakes k) then 0x1305
  else if k = 0 ∧ s.budgetCode 1 n ≠ 0 then s.budgetCode 1 n
  else if !(s.rateFits 1 n) then 0x1104
  else if !(s.domEnabled s.activeDom) ∨ (servo ≠ servoLocked ∧ servo ≠ servoHoldover ∧ !freerun) then 0x2302
  else if (s.placement n).isNone then 0x2801
  else if s.freeEngines.length < s.engCount n then 0x2802
  else if s.freeCmp.isNone then 0x2602
  else 0

/-- START (R100 to R102, R521): units allocated and powered, those of them whose domains this START powered and that fail their
self-test fenced, the first launch queued. A START by register write or by a descriptor's launch names no failed unit: its
self-test's failure comes as UNIT_RUNTIME_FAULT before the first launch (log entry 53). -/
def State.slotStart (s : State) (n : Nat) (freerun : Bool) (failed : List UnitId) : State × Code :=
  let c := s.startCode n freerun
  if c ≠ 0 then (s, c)
  else
    let s1 := s.allocate n ((s.placement n).getD []) (s.freeEngines.take (s.engCount n)) (s.freeCmp.getD 0)
    let s2 := s1.set (Reg.ENC_BS_RUN_STATE n) slotStarting
    let bad := failed.filter (fun u => (s2.holders u).contains n && (unitDomains u).any (fun p => !(s.pdOn p)))
    let a := s2.allowOf 1 n
    let first := s2.firstPic n a ((s2.activeDt : Rat) + usU 2000)
    let s3 := s2.setSlot n { Slot.reset with faces := (s2.slot n).faces, next := first, first := first, allow := a, commitAt := s2.lc }
    let s4 := if s.slotKind n = 0 then
        ((s3.setAll [(Reg.ENC_BS_FIRST_PIC n, first), (Reg.ENC_BS_PIC_CNT n, 0), (Reg.ENC_BS_SWEEP_CNT n, 0),
          (Reg.RC_BS_FULLNESS n, 0), (Reg.ENC_BS_FIRST_SWEEP n, 1), (Reg.ENC_BS_SWEEP_POS n, 0)]).queueComposition n first)
      else s3.setAll [(Reg.DEC_BS_JOINED n, 0), (Reg.DEC_BS_STREAM_UP n, 0), (Reg.DEC_BS_CONC_SP n, 0)]
    (bad.foldl (fun t u => t.fenceCore u) s4, 0)

/-! ## Commands -/

/-- A slot command by its CMD (ENC_BSn_RUN): 1 START, 2 STOP, 3 COMMIT; another is refused. -/
def State.slotCmd (s : State) (n cmd : Nat) (freerun : Bool) (failed : List UnitId) : State × Code :=
  let r := if cmd = 1 then s.slotStart n freerun failed else if cmd = 2 then s.slotStop n
    else if cmd = 3 then s.slotCommit n else (s, 0x1305)
  (r.1.set (Reg.ENC_BS_RUN_LAST_STATUS n) r.2, r.2)

/-- SLOT_CMD as an opcode. -/
def slotCmdSpec : OpSpec :=
  { opcode := 0x0010, object := fun t i => t == 2 && decide (i < 4), form := fun d => d.zeroFrom 33 }

/-- The action of SLOT_CMD. -/
def actSlotCmd (failed : List UnitId) (d : Desc) (t : Ticket) (s : State) : State :=
  let n := d.objIndex.toNat
  let r := s.slotCmd n (d.p 32 1) (s.on (Reg.ENC_BS_RUN_FREERUN_OK n)) failed
  let s1 := (r.1.logDesc t.fn d.obj r.2 0 (d.p 32 1)).complete t r.2 0
  if r.2 < 0x1000 then s1.mirrorCfg (Reg.ENC_BS_RUN_CMD n).off
    (d.p 32 1 * 2 ^ 28 + s.get (Reg.ENC_BS_RUN_FREERUN_OK n) * 2 ^ 27 + s.get (Reg.ENC_BS_RUN_AUTOSTART n) * 2 ^ 26) else s1

/-- Whether a writer may command a slot (R111): a function only its own; supervisor firmware any. -/
def State.mayCommand (s : State) (n : Nat) : Writer → Bool
  | .host f => s.slotOwner n == f.val
  | _ => true

/-- A slot command from a register write or a descriptor (R99, R121). A command written by a function that does not own the slot is
refused with 0x3403, as a descriptor's would be (R111; DESIGN CHOICE, log entry 116). -/
def State.slotCommand (s : State) (src : SlotSrc) (n cmd : Nat) (failed : List UnitId) : State :=
  match src with
  | .desc d => s.runDesc slotCmdSpec d (actSlotCmd failed)
  | .reg w freerun autostart =>
    s.byWriter w (Reg.ENC_BS_RUN_CMD n).off (fun s =>
      let s1 := s.setAll [(Reg.ENC_BS_RUN_FREERUN_OK n, b2n freerun), (Reg.ENC_BS_RUN_AUTOSTART n, b2n autostart)]
      let r := if s.mayCommand n w then s1.slotCmd n cmd freerun failed else (s1.set (Reg.ENC_BS_RUN_LAST_STATUS n) 0x3403, 0x3403)
      r.1.logReg w (Reg.ENC_BS_RUN_CMD n).off r.2 0 (cmd * 2 ^ 28 + b2n freerun * 2 ^ 27 + b2n autostart * 2 ^ 26))

def execSlotStop (src : SlotSrc) (n : Fin 4) (s : State) : Host.Outcome State Fault Refusal := .next (s.slotCommand src n 2 [])
def execSlotCommit (src : SlotSrc) (n : Fin 4) (s : State) : Host.Outcome State Fault Refusal := .next (s.slotCommand src n 3 [])
def execSlotStopDone (n : Fin 4) (s : State) : Host.Outcome State Fault Refusal := .next (s.slotStopDone n)

end Sys2Proof.Machine
end

