-- ==== Sys2Proof/Machine/Ingest.lean ====
section
/-! DEFINITION. Ingest (chapter 05): receivers, the merging of two paths, pictures and frame stores, the ancillary store. -/

namespace Sys2Proof.Machine

/-! ## Receivers -/

/-- A receiver beyond its registers. -/
def State.rcv (s : State) (r : Nat) : Rx := Table.getD s.rx r Rx.reset

/-- Write a receiver. -/
def State.setRcv (s : State) (r : Nat) (x : Rx) : State := { s with rx := Table.put s.rx r x }

/-- Whether ingest runs in the mode in force (R77). -/
def State.ingestOn (s : State) : Bool := s.mode == 1 || s.mode == 2 || s.mode == 3 || s.mode == 5

/-- The kinds of receiver by index. -/
def isVideo (r : Nat) : Bool := decide (r < 32)
def isAudio (r : Nat) : Bool := decide (32 ≤ r ∧ r < 48)
def isAnc (r : Nat) : Bool := decide (48 ≤ r ∧ r < 56)
def isCoded (r : Nat) : Bool := decide (56 ≤ r)

/-- The UP bit and the enable of path p of a receiver. -/
def pathUp (r p : Nat) : Field := if p = 0 then Reg.ING_RX_PATH0_UP r else Reg.ING_RX_PATH1_UP r
def pathEn (r p : Nat) : Field := if p = 0 then Reg.ING_RX_PATH0_EN r else Reg.ING_RX_PATH1_EN r

/-- The DETAIL of an ingest event: the receiver in bytes 20-21 (R159). -/
def rxDetail (r w16 : Nat) : Detail := { w16 := w16, w20 := r }

/-- Whether an IPv4 address is a multicast group. -/
def isMulticast (a : Nat) : Bool := a / 2 ^ 28 == 14

/-- The length of the small frames the device originates: the least Ethernet frame. -/
def smallFrame : Nat := 64

/-- Report a path's membership, when its address is multicast (R145). -/
def State.igmpJoin (s : State) (r p : Nat) : State :=
  let g := s.get (Reg.ING_RX_GROUP r p)
  if isMulticast g then
    s.originate (s.portOf (s.get (Reg.ING_RX_PATH_LANE r p))) (.igmpReport g (s.get (Reg.ING_RX_SRC r p))) smallFrame else s

/-- Leave a path's group (R145). -/
def State.igmpLeave (s : State) (r p : Nat) : State :=
  let g := s.get (Reg.ING_RX_GROUP r p)
  if isMulticast g then
    s.originate (s.portOf (s.get (Reg.ING_RX_PATH_LANE r p))) (.igmpLeave g (s.get (Reg.ING_RX_SRC r p))) smallFrame else s

/-- Whether a path of a receiver is in use: the receiver is enabled with it. -/
def State.pathInUse (s : State) (r p : Nat) : Bool := s.on (Reg.ING_RX_ENABLE r) && s.on (pathEn r p)

/-- A port comes up: the paths in use on it report their groups (R145). -/
def State.igmpLane (s : State) (i : Nat) : State :=
  if s.portActive (s.portOf i) then
    (List.range 60).foldl (fun t r => ([0, 1] : List Nat).foldl (fun t p =>
      if t.pathInUse r p && t.portOf (t.get (Reg.ING_RX_PATH_LANE r p)) == t.portOf i then t.igmpJoin r p else t) t) s
  else s

/-! ## Enabling -/

/-- What identifies the flow of a path (R144). -/
def State.pathKey (s : State) (r p : Nat) : List Nat :=
  [s.get (Reg.ING_RX_PATH_LANE r p), s.get (Reg.ING_RX_GROUP r p), s.get (Reg.ING_RX_PATH_UDP_PORT r p), s.get (Reg.ING_RX_SRC r p)]

/-- Whether an enabled path of a receiver matches one of another enabled receiver (R144). -/
def State.pathClash (s : State) (r : Nat) (paths : List Nat) : Bool :=
  (List.range 60).any (fun k => k != r && s.on (Reg.ING_RX_ENABLE k) &&
    ([0, 1] : List Nat).any (fun q => s.on (pathEn k q) && paths.any (fun p => s.pathKey r p == s.pathKey k q)))

/-- The channels of an audio receiver. -/
def State.rxChannels (s : State) (r : Nat) : Nat × Nat := (s.get (Reg.ING_RX_AFMT_FIRST_CH r), s.get (Reg.ING_RX_AFMT_CHANNELS r))

/-- The format checks of R146 and R147 by kind. -/
def State.rxFormatOk (s : State) (r : Nat) : Bool :=
  if isVideo r then
    let w := s.get (Reg.ING_RX_SIZE_WIDTH r)
    let h := s.get (Reg.ING_RX_SIZE_HEIGHT r)
    let sm := s.get (Reg.ING_RX_FMT_SAMPLING r)
    rateOk (s.get (Reg.ING_RX_FMT_RATE r)) && decide (s.get (Reg.ING_RX_FMT_TCS r) ≤ 2 ∧ s.get (Reg.ING_RX_FMT_COLORIMETRY r) ≤ 2
      ∧ s.get (Reg.ING_RX_FMT_DEPTH r) ≤ 2 ∧ 64 ≤ w ∧ w ≤ 8192 ∧ 64 ≤ h ∧ h ≤ 4320)
    && !((sm == 0 || sm == 3) && w % 2 == 1) && !(sm == 3 && h % 2 == 1)
    && decide (3 ≤ s.get (Reg.ING_RX_FS_COUNT r) ∧ s.get (Reg.ING_RX_FS_COUNT r) ≤ 8)
  else if isAudio r then
    let (f, c) := s.rxChannels r
    let others := ((List.range 16).map (· + 32)).filter (fun k => k != r && s.on (Reg.ING_RX_ENABLE k))
    decide (1 ≤ c ∧ c ≤ 64 ∧ f + c ≤ 64 ∧ sumNat (others.map (fun k => (s.rxChannels k).2)) + c ≤ 64)
    && others.all (fun k => let (g, e) := s.rxChannels k; !(decide (f < g + e ∧ g < f + c)))
  else if isAnc r then rateOk (s.get (Reg.ING_RX_NFMT_RATE r)) && decide (4 ≤ s.get (Reg.ING_RX_NFMT_ANC_LOG2 r) ∧ s.get (Reg.ING_RX_NFMT_ANC_LOG2 r) ≤ 12)
  else true

/-- The checks of enabling a receiver (R144, R146, R147, R154, R162): 0 when all pass. -/
def State.enableCode (s : State) (r : Nat) (paths : List Nat) (pt : Nat) : Code :=
  if s.pathClash r paths then 0x1504
  else if paths.any (fun p => !(bit (s.get Reg.ING_CTRL_LANE_MASK) (s.get (Reg.ING_RX_PATH_LANE r p)))
      || !(s.isPort (s.get (Reg.ING_RX_PATH_LANE r p)))) then 0x1502
  else if !(s.rxFormatOk r) ∨ pt < 96 ∨ 20000 < s.get (Reg.ING_RX_LATE_US r) ∨ s.get (Reg.ING_RX_LOSS_MS r) < 1
      ∨ 1000 < s.get (Reg.ING_RX_LOSS_MS r) then 0x1501
  else if (isVideo r || isAnc r) && !(s.areaOk (fun t => t == tagIngest r) (s.storeArea r)) then 0x1503
  else 0

/-- The paths in use of two enables. -/
def pathsOf (path1 path0 : Bool) : List Nat := (if path0 then [0] else []) ++ (if path1 then [1] else [])

/-- A receiver, or one of its paths, is turned off: groups are left, the path is DOWN without an event. -/
def State.pathOff (s : State) (r p : Nat) : State := (s.igmpLeave r p).set (pathUp r p) 0

/-- A receiver none of whose paths is UP shows no SIGNAL any more; one that stays enabled raises 0x6504 (R152). -/
def State.signalLost (s : State) (r : Nat) (enabled : Bool) : State :=
  if s.on (Reg.ING_RX_SIGNAL r) && !(s.on (pathUp r 0)) && !(s.on (pathUp r 1)) then
    let s1 := s.set (Reg.ING_RX_SIGNAL r) 0
    if enabled then s1.raise 0x6504 objDevice (rxDetail r 0) else s1
  else s

/-- Write the enable word of a receiver (R145, R162). -/
def State.rxCtrl (s : State) (r : Nat) (enable path1 path0 : Bool) (pt : Nat) : State × Code :=
  let want := pathsOf path1 path0
  let was := if s.on (Reg.ING_RX_ENABLE r) then pathsOf (s.on (Reg.ING_RX_PATH1_EN r)) (s.on (Reg.ING_RX_PATH0_EN r)) else []
  let code := if enable ∧ !(s.on (Reg.ING_RX_ENABLE r)) then s.enableCode r want pt else 0
  let on := enable && code == 0
  let now := if on then want else []
  let s1 := s.setAll [(Reg.ING_RX_PATH1_EN r, b2n path1), (Reg.ING_RX_PATH0_EN r, b2n path0), (Reg.ING_RX_PT r, pt),
    (Reg.ING_RX_ENABLE r, b2n on)]
  let s2 := (was.filter (fun p => !(now.contains p))).foldl (fun t p => t.pathOff r p) s1
  let s3 := (now.filter (fun p => !(was.contains p))).foldl (fun t p => t.igmpJoin r p) s2
  let s4 := s3.signalLost r on
  ((if enable then s4.set (Reg.ING_RX_LAST_STATUS r) code else s4.setRcv r Rx.reset), code)

/-- A write of ING_RXr_CTRL, logged. -/
def State.rxCtrlWrite (s : State) (w : Writer) (r : Nat) (enable path1 path0 : Bool) (pt : Nat) : State :=
  s.byWriter w (Reg.ING_RX_ENABLE r).off (fun s =>
    let word := fun (t : State) => t.word [Reg.ING_RX_ENABLE r, Reg.ING_RX_PATH1_EN r, Reg.ING_RX_PATH0_EN r, Reg.ING_RX_PT r]
    let x := s.rxCtrl r enable path1 path0 pt
    x.1.logReg w (Reg.ING_RX_ENABLE r).off x.2 (word s) (word x.1))

def execReceiverEnable (w : Writer) (r : Fin 60) (path1 path0 : Bool) (pt : BitVec 7) (s : State) : Host.Outcome State Fault Refusal :=
  .next (s.rxCtrlWrite w r true path1 path0 pt.toNat)

/-- RECEIVER_DISABLE (R145): the receiver is disabled, or stays enabled with a path turned off. -/
def execReceiverDisable (w : Writer) (r : Fin 60) (enable path1 path0 : Bool) (pt : BitVec 7) (s : State) : Host.Outcome State Fault Refusal :=
  .next (s.rxCtrlWrite w r enable path1 path0 pt.toNat)

/-- ING_LANE_MASK_WRITE (R144). -/
def execIngLaneMaskWrite (w : Writer) (mask : BitVec 16) (s : State) : Host.Outcome State Fault Refusal :=
  .next (s.byWriter w Reg.ING_CTRL_LANE_MASK.off (fun s =>
    let old := s.get Reg.ING_CTRL_LANE_MASK
    if popcount 16 mask.toNat ≤ 8 then
      (s.setAll [(Reg.ING_CTRL_LANE_MASK, mask.toNat), (Reg.ING_CTRL_LAST_STATUS, 0)]).logReg w Reg.ING_CTRL_LANE_MASK.off 0 old mask.toNat
    else (s.set Reg.ING_CTRL_LAST_STATUS 0x1502).logReg w Reg.ING_CTRL_LANE_MASK.off 0x1502 old mask.toNat))

/-! ## Paths -/

/-- A path goes DOWN (R152). -/
def State.pathDown (s : State) (r p : Nat) : State :=
  if s.on (pathUp r p) then
    (((s.set (pathUp r p) 0).bump (Reg.ING_RX_PATH_DOWN_CNT r)).raise 0x6503 objDevice (rxDetail r 0)).signalLost r true
  else s

/-- A lane goes down: so do the paths on it, or on its group's port, at once (R152). -/
def State.lanePathsDown (s : State) (i : Nat) : State :=
  (List.range 60).foldl (fun t r => ([0, 1] : List Nat).foldl (fun t p =>
    if t.portOf (t.get (Reg.ING_RX_PATH_LANE r p)) = t.portOf i then t.pathDown r p else t) t) s

/-- The LC of the last matching packet of a path. -/
def State.lastSeen (s : State) (r p : Nat) : Option Nat := if p = 0 then (s.rcv r).last0 else (s.rcv r).last1

/-- A matching packet arrived on a path: it is UP; one that had been UP before is back (R152). -/
def State.pathSeen (s : State) (r p : Nat) : State :=
  let x := s.rcv r
  let s1 := s.setRcv r (if p = 0 then { x with last0 := some s.lc } else { x with last1 := some s.lc })
  if s1.on (pathUp r p) then s1
  else
    let s2 := s1.setAll [(pathUp r p, 1), (Reg.ING_RX_SIGNAL r, 1)]
    if (s.lastSeen r p).isSome then s2.raise 0x0501 objDevice (rxDetail r 0) else s2

/-- PATH_LOSS_TIMEOUT (R152). -/
def execPathLossTimeout (r : Fin 60) (p : Fin 2) (s : State) : Host.Outcome State Fault Refusal :=
  .next (match s.lastSeen r p with
    | some k => if k + s.get (Reg.ING_RX_LOSS_MS r) * 1000 * ticksPerUs ≤ s.lc then s.pathDown r p else s
    | none => s)

/-- Whether a packet can arrive at an enabled receiver on a path now: ingest runs, the path is in use and its port ACTIVE. -/
def State.receivesPath (s : State) (r p : Nat) : Bool :=
  s.ingestOn && s.pathInUse r p && s.portActive (s.portOf (s.get (Reg.ING_RX_PATH_LANE r p)))

/-- Whether a frame matches a path as its registers describe it (R143). -/
def State.flowMatches (s : State) (r p : Nat) (x : Flow) : Bool :=
  x.udp && decide (x.tags.val ≤ 1) && s.portOf x.lane.val == s.portOf (s.get (Reg.ING_RX_PATH_LANE r p))
    && x.dst.toNat == s.get (Reg.ING_RX_GROUP r p) && x.port.toNat == s.get (Reg.ING_RX_PATH_UDP_PORT r p)
    && (s.get (Reg.ING_RX_SRC r p) == 0 || x.src.toNat == s.get (Reg.ING_RX_SRC r p))

/-- Whether a frame is for path p of receiver r: it can arrive there and matches (R143). -/
def State.takesFlow (s : State) (r p : Nat) (x : Flow) : Bool := s.receivesPath r p && s.flowMatches r p x

/-- A frame that is not PTP and matches no path of an enabled receiver is discarded and counted (R143); in BRIDGE forwarding takes
precedence. -/
def State.unmatched (s : State) (i : Nat) : State :=
  if s.portActive (s.portOf i) && s.mode != 4 then s.bump (Reg.ING_LANE_UNMATCHED_CNT i) else s

/-- A frame not for the path it is offered to is unmatched, unless it is another path's. -/
def State.strayFrame (s : State) (x : Flow) : State :=
  if (List.range 60).any (fun r => s.takesFlow r 0 x || s.takesFlow r 1 x) then s else s.unmatched x.lane

/-! ## The duplicate window -/

/-- The duplicate window (R150). -/
def seqWindow : Nat := 262144

/-- Extend a sequence number of `w` bits next to the newest accepted one. -/
def extendSeq (w : Nat) (newest : Option Nat) (q : Nat) : Nat :=
  match newest with
  | none => q + 2 ^ w
  | some m =>
    let base := m / 2 ^ w * 2 ^ w + q
    if base + 2 ^ (w - 1) < m then base + 2 ^ w
    else if m + 2 ^ (w - 1) < base ∧ 2 ^ w ≤ base then base - 2 ^ w else base

/-- What the window says of a packet: 0 new, 1 a duplicate, 2 late (R150). -/
def Rx.judge (x : Rx) (e : Nat) : Nat :=
  match x.newest with
  | none => 0
  | some m => if e + seqWindow < m then 2 else if x.seen.contains e then 1 else 0

/-- Note an accepted packet. -/
def Rx.accept (x : Rx) (e : Nat) : Rx :=
  let m := match x.newest with
    | none => e
    | some m => max m e
  { x with newest := some m, seen := e :: x.seen.filter (fun k => decide (m ≤ k + seqWindow)) }

/-- A malformed packet (R158, R159). -/
def State.rxMalformed (s : State) (r : Nat) : State :=
  let s1 := s.bump (Reg.ING_RX_FMT_ERR_CNT r)
  if s1.limitOpen 0x4501 r then
    ((s1.limitNote 0x4501 r).logUnit originHw 0 0x4501 (blockOf (Reg.ING_RX_ENABLE r).off) r).raise 0x4501 objDevice (rxDetail r 0)
  else s1

/-- Count an accepted packet of a path (R151). -/
def State.countPkt (s : State) (r p : Nat) : State :=
  if p = 0 then s.count64 (Reg.ING_RX_PKT0_CNT_LO r) (Reg.ING_RX_PKT0_CNT_HI r) 1
  else s.count64 (Reg.ING_RX_PKT1_CNT_LO r) (Reg.ING_RX_PKT1_CNT_HI r) 1

/-- The DT that an RTP timestamp of a clock of `hz` denotes: the value nearest to the active DT (R26). -/
def State.rtpDt (s : State) (hz ts : Nat) : Rat :=
  let sec : Rat := ((secUnits : Nat) : Rat)
  let period : Rat := (2 ^ 32 : Nat) / (hz : Rat) * sec
  let t0 : Rat := (ts : Rat) / hz * sec
  t0 + ((((s.activeDt : Rat) - t0) / period + 1 / 2).floor : Int) * period

/-- Whether a capture DT is more than 200 ms from the active DT (R158). -/
def State.timeError (s : State) (cap : Rat) : Bool := decide (usU 200000 < ratAbs (cap - (s.activeDt : Rat)))

/-- The check unit attached to a flow in a mode (R420), if any. -/
def State.checkUnit (s : State) (mode kind index : Nat) : Option Nat :=
  ([0, 1, 2, 3] : List Nat).find? (fun c => s.get (Reg.CHK_MODE c) == mode && s.get (Reg.CHK_ATTACH_KIND c) == kind
    && s.get (Reg.CHK_ATTACH_INDEX c) == index)

/-- The check unit's block number (R512). -/
def blockChk : Nat := 8

/-- A packet that a check unit discards (R420): counted, 0x4161 and its Ledger entry at most once per unit in 1 s. -/
def State.crcError (s : State) (c : Nat) : State :=
  let s1 := s.bump (Reg.CHK_CRC_ERR_CNT c)
  if s1.limitOpen 0x4161 c then
    ((s1.limitNote 0x4161 c).logUnit originHw 0 0x4161 blockChk c).raise 0x4161 objDevice {} else s1

/-- CHECK_STRIP on a receiver's path (R420): the packet goes on, or is discarded. -/
def State.checkStrip (s : State) (r : Nat) (crcOk : Bool) : State × Bool :=
  match s.checkUnit 2 3 r with
  | none => (s, true)
  | some c => if crcOk then (s.bump (Reg.CHK_PKT_CNT c), true) else ((s.bump (Reg.CHK_PKT_CNT c)).crcError c, false)

/-- What every packet carries (R143, R149, R150, R158): its flow, payload type, sequence number and that number's width, whether it
is malformed otherwise, whether a CHECK_STRIP unit would find its CRC right, its capture DT if its kind has one. -/
structure RxHead where
  flow : Flow
  pt : Nat
  width : Nat
  seq : Nat
  malformed : Bool
  crcOk : Bool
  cap : Option Rat

/-- Whether a packet is malformed for a receiver: another payload type than PT is (R158). -/
def State.badHead (s : State) (r : Nat) (h : RxHead) : Bool := h.malformed || h.pt != s.get (Reg.ING_RX_PT r)

/-- Count one packet more as a duplicate (R150). -/
def State.countDup (s : State) (r : Nat) : State := s.count64 (Reg.ING_RX_DUP_CNT_LO r) (Reg.ING_RX_DUP_CNT_HI r) 1

/-- Take back the count of a packet accepted from path 1, unless the counter is saturated. -/
def State.uncountSecond (s : State) (r : Nat) : State :=
  let v := s.get64 (Reg.ING_RX_PKT1_CNT_LO r) (Reg.ING_RX_PKT1_CNT_HI r)
  if v = 2 ^ 64 - 1 then s else s.set64 (Reg.ING_RX_PKT1_CNT_LO r) (Reg.ING_RX_PKT1_CNT_HI r) (v - 1)

/-- A packet already accepted (R150). When path 1 gave its copy in this very cycle and this one is path 0's, path 0's is the one
accepted and path 1's the duplicate (R151): the two are the same packet, so only the counts tell. -/
def State.duplicate (s : State) (r p e : Nat) : State :=
  let x := s.rcv r
  if p = 0 ∧ x.second.1 = s.lc ∧ x.second.2.contains e then
    (((s.setRcv r { x with second := (s.lc, x.second.2.filter (fun k => k != e)) }).uncountSecond r).countPkt r 0).countDup r
  else s.countDup r

/-- A packet is accepted from a path: entered in the window and counted (R150, R151). -/
def State.acceptPacket (s : State) (r p e : Nat) : State :=
  let x := (s.rcv r).accept e
  let y := if p = 1 then { x with second := (s.lc, e :: if x.second.1 = s.lc then x.second.2 else []) } else x
  (s.setRcv r y).countPkt r p

/-- Take a packet through the path, malformation, duplicate, late and time checks of R158 to what its kind does with it. -/
def State.rxPacket (s : State) (r p : Nat) (h : RxHead) (act : State → State) : State :=
  if s.takesFlow r p h.flow then
    let (s1, passed) := (s.pathSeen r p).checkStrip r h.crcOk
    if !passed then s1
    else if s1.badHead r h then s1.rxMalformed r
    else
      let e := extendSeq h.width (s1.rcv r).newest h.seq
      let j := (s1.rcv r).judge e
      if j = 1 then s1.duplicate r p e
      else if j = 2 then s1.bump (Reg.ING_RX_LATE_CNT r)
      else if (match h.cap with | none => false | some c => s1.timeError c) then s1.bump (Reg.ING_RX_TIME_ERR_CNT r)
      else act (s1.acceptPacket r p e)
  else s.strayFrame h.flow

/-! ## Video pictures -/

/-- The lines of a picture that are not valid. -/
def RxPic.lost (x : RxPic) (h : Nat) : Nat := h - popcount h x.valid

/-- The newest open picture with a buffer. -/
def Rx.newestOpen (x : Rx) : Option RxPic :=
  (x.pics.filter (fun q => q.isOpen && q.buf.isSome)).foldl
    (fun (m : Option RxPic) q => match m with | none => some q | some o => if o.cap < q.cap then some q else some o) none

/-- WRITE_BUF shows the buffer of the newest open picture; with none open it keeps its value (R162). -/
def State.showWriteBuf (s : State) (r : Nat) : State :=
  match (s.rcv r).newestOpen.bind (fun q => q.buf) with
  | some b => s.set (Reg.ING_RX_WRITE_BUF r) b
  | none => s

/-- Close a picture (R156, R157, R162). -/
def State.closePic (s : State) (r ts : Nat) : State :=
  let x := s.rcv r
  let h := s.get (Reg.ING_RX_SIZE_HEIGHT r)
  let lost := sumNat ((x.pics.filter (fun q => q.isOpen && q.ts == ts && q.buf.isSome)).map (fun q => q.lost h))
  let s1 := (s.setRcv r { x with pics := x.pics.map (fun q => if q.ts = ts then { q with isOpen := false, part := [] } else q) }).showWriteBuf r
  if lost = 0 then s1 else (s1.count (Reg.ING_RX_LOST_LINE_CNT r) lost).raise 0x6501 objDevice (rxDetail r lost)

/-- The read claims of compositors on a receiver's pictures (R174): capture DTs. -/
def State.claims (s : State) (r : Nat) : List Rat :=
  s.cmps.flatMap (fun e => e.2.layers.flatMap (fun l =>
    ([l.2.cur, l.2.prev].filterMap id).filterMap (fun q => if q.src = r then some q.cap else none)))

/-- The buffer a new picture takes (R155): one that holds no picture, else the oldest closed picture's that is not being
read; none when there is none. -/
def State.freeBuffer (s : State) (r : Nat) : Option (Nat × Option Nat) :=
  let x := s.rcv r
  let used := x.pics.filterMap (fun q => q.buf)
  match (List.range (s.get (Reg.ING_RX_FS_COUNT r))).find? (fun b => !(used.contains b)) with
  | some b => some (b, none)
  | none =>
    let free := x.pics.filter (fun q => !q.isOpen && q.buf.isSome && !((s.claims r).contains q.cap))
    match free.foldl (fun (m : Option RxPic) q => match m with | none => some q | some o => if q.cap < o.cap then some q else some o) none with
    | some q => some (q.buf.getD 0, some q.ts)
    | none => none

/-- Open a picture (R155). -/
def State.openPic (s : State) (r ts : Nat) (cap : Rat) : State :=
  let opened := (s.rcv r).pics.filter (fun q => q.isOpen && q.buf.isSome)
  let s1 := if 2 ≤ opened.length then
      match opened.foldl (fun (m : Option RxPic) q => match m with | none => some q | some o => if q.cap < o.cap then some q else some o) none with
      | some q => s.closePic r q.ts
      | none => s
    else s
  let x := s1.rcv r
  match s1.freeBuffer r with
  | some (b, old) =>
    (s1.setRcv r { x with pics := ({ ts := ts, cap := cap, buf := some b, part := [], valid := 0, isOpen := true } ::
      x.pics.filter (fun q => old != some q.ts)).take 32 }).set (Reg.ING_RX_WRITE_BUF r) b
  | none =>
    ((s1.setRcv r { x with pics := ({ ts := ts, cap := cap, buf := none, part := [], valid := 0, isOpen := false } :: x.pics).take 32 }).bump
      (Reg.ING_RX_FS_DROP_CNT r)).raise 0x6502 objDevice (rxDetail r 0)

/-- The pixels of a line that a pgroup of a sampling (by its code) and a depth (by its code) covers: SMPTE ST 2110-20's pgroups, of
which the spec shows one (4:2:2 at 10 bits; PRESUMED, log entry 117). -/
def pgroupPixels (sampling depth : Nat) : Nat :=
  if sampling = 0 then 2
  else if sampling = 3 then (if depth = 1 then 4 else 2)
  else if depth = 0 then 1 else if depth = 1 then 4 else 2

/-- Whether a row of a packet fits the receiver's format: whole pgroups within the configured size (R158). -/
def State.rowOk (s : State) (r : Nat) (x : VideoRow) : Bool :=
  let g := pgroupPixels (s.get (Reg.ING_RX_FMT_SAMPLING r)) (s.get (Reg.ING_RX_FMT_DEPTH r))
  x.len.toNat % g == 0 && x.off.toNat % g == 0 && decide (x.line.toNat < s.get (Reg.ING_RX_SIZE_HEIGHT r)
    ∧ x.off.toNat + x.len.toNat ≤ s.get (Reg.ING_RX_SIZE_WIDTH r))

/-- Place a row's samples: its line is valid once every sample has been received (R157). -/
def RxPic.place (x : RxPic) (w : Nat) (row : VideoRow) : RxPic :=
  let l := row.line.toNat
  let m := Table.getD x.part l 0 ||| ((2 ^ row.len.toNat - 1) * 2 ^ row.off.toNat)
  if m % 2 ^ w = 2 ^ w - 1 then { x with part := Table.del x.part l, valid := setBit x.valid l }
  else { x with part := Table.put x.part l m }

/-- The device address of a plane's byte of a row (R153, R154): plane q, line l, first pixel o. -/
def State.rowAddr (s : State) (r b q l o : Nat) : Nat :=
  let w := s.get (Reg.ING_RX_SIZE_WIDTH r)
  let h := s.get (Reg.ING_RX_SIZE_HEIGHT r)
  let sm := s.get (Reg.ING_RX_FMT_SAMPLING r)
  let bps := if s.get (Reg.ING_RX_FMT_DEPTH r) = 0 then 1 else 2
  let y := planeSize (w * bps) h
  (s.storeArea r).base + b * pictureBytes sm bps w h + q * y
    + (if sm = 3 ∧ q = 1 then l / 2 else l) * roundUp (w * bps) 256 + o * bps

/-- A sample as its plane holds it (R153): 1 byte at 8 bits, else 2 bytes little-endian, MSB-aligned, the unused low bits zero. -/
def sampleBytes (depth : Nat) (x : BitVec 12) : List Byte :=
  if depth = 0 then leBytes 1 x.toNat
  else if depth = 1 then leBytes 2 (x.toNat % 2 ^ 10 * 2 ^ 6)
  else leBytes 2 (x.toNat * 2 ^ 4)

/-- Two sample rows taken in turn, the first one's sample first. -/
def interleave : List (BitVec 12) → List (BitVec 12) → List (BitVec 12)
  | a :: l, b :: m => a :: b :: interleave l m
  | _, _ => []

/-- The samples of a row by plane (R153): Y and interleaved Cb, Cr, or three full planes; at 4:2:0 chroma stands on even lines. -/
def rowPlanes (sampling : Nat) (x : VideoRow) : List (Nat × List (BitVec 12)) :=
  if sampling = 0 then [(0, x.c0), (1, interleave x.c1 x.c2)]
  else if sampling = 3 then (if x.line.toNat % 2 = 0 then [(0, x.c0), (1, interleave x.c1 x.c2)] else [(0, x.c0)])
  else [(0, x.c0), (1, x.c1), (2, x.c2)]

/-- Write a row's samples into its buffer (R153, R154): as many as its pixels in each plane. -/
def State.storeRow (s : State) (r b : Nat) (row : VideoRow) : State :=
  (rowPlanes (s.get (Reg.ING_RX_FMT_SAMPLING r)) row).foldl (fun (t : State) e =>
    t.deviceStore (t.rowAddr r b e.1 row.line.toNat row.off.toNat)
      ((e.2.take row.len.toNat).flatMap (sampleBytes (t.get (Reg.ING_RX_FMT_DEPTH r))))) s

/-- A packet of an open picture: its rows are placed; the picture closes when every line is valid (R155 to R157). -/
def State.fillPic (s : State) (r : Nat) (x : VideoPacket) : State :=
  let w := s.get (Reg.ING_RX_SIZE_WIDTH r)
  let h := s.get (Reg.ING_RX_SIZE_HEIGHT r)
  let ts := x.ts.toNat
  let b := ((s.rcv r).pics.find? (fun q => q.ts == ts)).bind (fun q => q.buf)
  let s1 := s.setRcv r { s.rcv r with pics := (s.rcv r).pics.map (fun q => if q.ts = ts then x.rows.foldl (fun q row => q.place w row) q else q) }
  let s2 := match b with
    | some b => x.rows.foldl (fun (t : State) row => t.storeRow r b row) s1
    | none => s1
  if (s2.rcv r).pics.any (fun q => q.ts == ts && q.isOpen && q.valid % 2 ^ h == 2 ^ h - 1) then s2.closePic r ts else s2

/-- Whether a picture's closing instant has come (R156). -/
def State.picExpired (s : State) (r : Nat) (cap : Rat) : Bool :=
  s.due 1 (instant (cap + framePeriodU (s.get (Reg.ING_RX_FMT_RATE r)) + usU (s.get (Reg.ING_RX_LATE_US r))))

/-- What a video packet carries for the checks. -/
def State.videoHead (s : State) (r : Nat) (x : VideoPacket) : RxHead :=
  { flow := x.flow, pt := x.pt.toNat, width := 32, seq := x.seq.toNat, malformed := x.malformed || !(x.rows.all (s.rowOk r)), crcOk := x.crcOk,
    cap := some (s.rtpDt 90000 x.ts.toNat) }

/-- Whether a video packet comes into a picture that is closed, expired, or older than an open one. -/
def State.videoLate (s : State) (r ts : Nat) (q : Option RxPic) : Bool :=
  let cap := s.rtpDt 90000 ts
  match q with
  | some q => !q.isOpen || s.picExpired r q.cap
  | none => (s.rcv r).pics.any (fun q => q.isOpen && decide (cap ≤ q.cap)) || s.picExpired r cap

/-- VIDEO_PACKET_RX (R150 to R158). A packet that would come into a picture that is closed, expired, or older than an open
one is late; one of a dropped picture is discarded without further counting. -/
def State.videoRx (s : State) (r p : Nat) (x : VideoPacket) : State :=
  let ts := x.ts.toNat
  let h := s.videoHead r x
  let q := (s.rcv r).pics.find? (fun q => q.ts == ts)
  if s.takesFlow r p x.flow && !(s.badHead r h) && (x.crcOk || (s.checkUnit 2 3 r).isNone) && (match q with | some q => q.buf.isNone | none => false) then
    ((s.pathSeen r p).checkStrip r x.crcOk).1
  else if s.takesFlow r p x.flow && !(s.badHead r h) && (x.crcOk || (s.checkUnit 2 3 r).isNone) && s.videoLate r ts q
      && (s.rcv r).judge (extendSeq 32 (s.rcv r).newest x.seq.toNat) == 0 && !(s.timeError (s.rtpDt 90000 ts)) then
    ((s.pathSeen r p).checkStrip r x.crcOk).1.bump (Reg.ING_RX_LATE_CNT r)
  else
    s.rxPacket r p h (fun t => (if q.isSome then t else t.openPic r ts (s.rtpDt 90000 ts)).fillPic r x)

def execVideoPacketRx (r : Fin 32) (p : Fin 2) (x : VideoPacket) (s : State) : Host.Outcome State Fault Refusal :=
  .next (s.videoRx r p x)

/-- PICTURE_CLOSE_TIMEOUT (R156). -/
def execPictureCloseTimeout (r : Fin 32) (s : State) : Host.Outcome State Fault Refusal :=
  .next (((s.rcv r).pics.filter (fun q => q.isOpen && s.picExpired r q.cap)).foldl (fun t q => t.closePic r q.ts) s)

/-! ## Ancillary -/

/-- A 10-bit word in 2 bytes. -/
def word10 (x : BitVec 10) : List Byte := leBytes 2 x.toNat

/-- An entry of an ancillary store (R148). -/
def ancEntry (cap : Rat) (a : Anc) : List Byte :=
  let t := instant cap
  let b := leBytes 4 (dtSec t % 2 ^ 32) ++ leBytes 4 (dtNs t) ++ leBytes 2 (b2n a.c * 2 ^ 15 + a.line.toNat)
    ++ leBytes 2 (b2n a.s * 2 ^ 15 + a.hoff.toNat) ++ leBytes 1 a.streamNum.toNat ++ leBytes 1 0 ++ word10 a.did ++ word10 a.sdid
    ++ word10 a.count ++ leBytes 12 0 ++ (a.words.take 256).flatMap word10
  b ++ List.replicate (1024 - b.length) 0

/-- Write one ANC packet into the store, overwriting the oldest entry when it is full. -/
def State.ancWrite (s : State) (r : Nat) (cap : Rat) (a : Anc) : State :=
  let x := s.rcv r
  let n := 2 ^ s.get (Reg.ING_RX_NFMT_ANC_LOG2 r)
  let s1 := (s.deviceStore ((s.storeArea r).base + x.anc % n * 1024) (ancEntry cap a)).setRcv r { x with anc := x.anc + 1 }
  if n ≤ x.anc then s1.bump (Reg.ING_RX_FS_DROP_CNT r) else s1

def execAncPacketRx (r : Fin 8) (p : Fin 2) (x : AncPacket) (s : State) : Host.Outcome State Fault Refusal :=
  let cap := s.rtpDt 90000 x.ts.toNat
  .next (s.rxPacket (48 + r) p { flow := x.flow, pt := x.pt.toNat, width := 16, seq := x.seq.toNat, malformed := x.malformed, crcOk := x.crcOk, cap := some cap }
    (fun s => x.ancs.foldl (fun t a => t.ancWrite (48 + r) cap a) s))

/-! ## Frames -/

/-- UNMATCHED_FRAME_RX (R143). -/
def execUnmatchedFrameRx (i : Fin 16) (s : State) : Host.Outcome State Fault Refusal := .next (s.unmatched i)

/-- IGMP_QUERY_RX (R145): the reports of the enabled multicast paths on the lane that the query names. -/
def execIgmpQueryRx (i : Fin 16) (q : IgmpQuery) (s : State) : Host.Outcome State Fault Refusal :=
  .next ((List.range 60).foldl (fun t r => ([0, 1] : List Nat).foldl (fun t p =>
    if t.receivesPath r p && t.portOf (t.get (Reg.ING_RX_PATH_LANE r p)) == t.portOf i
        && (match q with | .general => true | .group g => t.get (Reg.ING_RX_GROUP r p) == g.toNat) then t.igmpJoin r p else t) t) s)

end Sys2Proof.Machine
end

