-- ==== Sys2Proof/Machine/Wire.lean ====
section
/-! DEFINITION. The wire of an Aknis Link lane (R309, R310, R326, R327, R331, R333): messages as slots, slots as scrambled bits, bit
pairs as levels. -/

namespace Sys2Proof.Machine

/-! ## Records as bytes (R431, R433) -/

/-- The bytes of a CKPT's payload (R259, R437). -/
def Ckpt.bytes (c : Ckpt) : Nat :=
  12 + (match c.pic with
    | some p => 33 + 10 * p.rows.length + 8 * (p.ps.map (fun l => l.length)).sum
    | none => 20) + 16 * c.launches.length + 10 * c.rings.length + 9 * c.saf.length

/-- The bytes of a record: the header, the payload and its padding to a multiple of 4 (R431). -/
def MirrorRec.bytes : MirrorRec → Nat
  | .config _ _ => 20
  | .surf _ data _ => 20 + ceilDiv data.length 4 * 4
  | .ref _ _ _ _ len => 12 + ceilDiv len 4 * 4
  | .slice _ _ _ _ _ n => 20 + ceilDiv n 4 * 4
  | .ckpt _ _ c => 12 + ceilDiv c.bytes 4 * 4
  | .rowEnd _ _ _ _ => 20
  | .safPkg _ data _ => 12 + ceilDiv data.length 4 * 4
  | .safLine _ _ _ _ _ crcs => 28 + 4 * crcs.length
  | .ring _ _ _ _ => 84
  | .syncStart => 12
  | .syncEnd => 12

/-- The slots of a message that carries one record (R330). -/
def MirrorRec.slots (r : MirrorRec) : Nat := min 128 (ceilDiv r.bytes 32)

/-- A record's TYPE, SLOT and PIC (R431, R433). -/
def MirrorRec.head : MirrorRec → Nat × Nat × Nat
  | .config _ _ => (0x01, 0xFF, 0)
  | .surf _ _ _ => (0x02, 0xFF, 0)
  | .ref n pic _ _ _ => (0x03, n, pic)
  | .slice n pic _ _ _ _ => (0x04, n, pic)
  | .ckpt n pic _ => (0x05, n, pic)
  | .rowEnd n pic _ _ => (0x06, n, pic)
  | .safPkg n _ _ => (0x07, n, 0)
  | .safLine n pic _ _ _ _ => (0x08, n, pic)
  | .ring _ _ _ _ => (0x09, 0xFF, 0)
  | .syncStart => (0x0A, 0xFF, 0)
  | .syncEnd => (0x0B, 0xFF, 0)

/-- A run of bytes of a record that the model does not compute: stored sectors, coded bytes, a checkpoint's parts, a descriptor. -/
def freeBytes (key : List Nat) (n : Nat) : List Byte := (List.range n).map (fun i => BitVec.ofNat 8 (Config.recordByte key i))

/-- A record's payload, before its padding (R205, R433, R437). -/
def MirrorRec.payload : MirrorRec → List Byte
  | .config off v => leBytes 4 off ++ leBytes 4 v
  | .surf a data _ => leBytes 8 a ++ data
  | .ref n pic row index len => freeBytes [0x03, n, pic, row, index] len
  | .slice n pic row sp off len => leBytes 2 row ++ leBytes 2 sp ++ leBytes 4 off ++ freeBytes [0x04, n, pic, row, sp, off] len
  | .ckpt n pic c => leBytes 2 c.row ++ leBytes 2 c.launches.length ++ leBytes 4 c.ns ++ freeBytes [0x05, n, pic, c.row] (c.bytes - 8)
  | .rowEnd _ _ row count => leBytes 2 row ++ leBytes 2 0 ++ leBytes 4 count
  | .safPkg _ data _ => data
  | .safLine n pic state first seq crcs =>
    leBytes 4 pic ++ leBytes 1 n ++ leBytes 1 state ++ leBytes 2 first ++ leBytes 2 crcs.length ++ leBytes 2 0 ++ leBytes 4 seq ++
      crcs.flatMap (leBytes 4)
  | .ring rid cons opcode _ => leBytes 2 rid ++ leBytes 2 0 ++ leBytes 4 cons ++ freeBytes [0x09, rid, cons, opcode] 64
  | .syncStart => []
  | .syncEnd => []

/-- Bytes filled up with zeros to a multiple of n. -/
def padTo (n : Nat) (l : List Byte) : List Byte := l ++ List.replicate (ceilDiv l.length n * n - l.length) 0

/-- Whether a record's data includes a poisoned line (R388, R431): free for a REF record, whose addresses the model does not follow
(log entry 130). -/
def MirrorRec.poison : MirrorRec → Bool
  | .surf _ _ p => p
  | .safPkg _ _ p => p
  | .ref n pic row index _ => Config.recordByte [0, n, pic, row, index] 0 % 2 == 1
  | _ => false

/-- A record as bytes. -/
def MirrorRec.image (r : MirrorRec) : List Byte :=
  let h := r.head
  leBytes 1 h.1 ++ leBytes 1 h.2.1 ++ leBytes 2 (b2n r.poison * 2 ^ 15) ++ leBytes 4 r.payload.length ++ leBytes 4 h.2.2 ++ padTo 4 r.payload

/-! ## Messages as slots (R327, R331) -/

/-- A message's KIND. -/
def LinkMsg.kind : LinkMsg → Nat
  | .frameStart _ => 0x10
  | .flip _ => 0x11
  | .mode _ _ _ _ _ _ => 0x12
  | .srEnter _ => 0x13
  | .rowData _ _ _ => 0x15
  | .hold _ _ => 0x16
  | .nak _ _ _ => 0x17
  | .mirror _ _ => 0x40
  | .ctrl _ _ _ _ _ _ => 0x60
  | .capOffer _ _ _ _ _ _ => 0x80
  | .capEnum _ _ => 0x81
  | .capSet _ => 0x82
  | .echo _ _ => 0x83
  | .credit _ _ => 0x00
  | .train _ => 0x00

/-- A message's BODY from byte 8 on; the rest is zero. -/
def LinkMsg.body : LinkMsg → List Byte
  | .frameStart pic => leBytes 4 0xFF ++ leBytes 4 pic
  | .flip pic => leBytes 4 0xFF ++ leBytes 4 pic
  | .srEnter pic => leBytes 4 0xFF ++ leBytes 4 pic
  | .mode j x y w h fdelay => leBytes 2 j ++ leBytes 2 x ++ leBytes 2 y ++ leBytes 2 w ++ leBytes 2 h ++ leBytes 2 0 ++ leBytes 4 fdelay
  | .rowData j line _ => leBytes 2 j ++ leBytes 2 line
  | .hold j line => leBytes 2 j ++ leBytes 2 line
  | .nak j line reason => leBytes 2 j ++ leBytes 2 line ++ leBytes 1 reason
  | .mirror seq r => leBytes 4 seq ++ leBytes 1 ((r.image.length + 31) % 32 + 1)
  | .ctrl j topic tag a v _ => leBytes 1 j ++ leBytes 1 topic ++ leBytes 2 tag ++ leBytes 4 a ++ leBytes 4 v
  | .capOffer role versions part room control turn =>
    leBytes 1 0 ++ leBytes 1 role ++ leBytes 2 versions ++ leBytes 2 part ++ leBytes 2 room ++ leBytes 4 control ++ leBytes 4 turn
  | .capEnum count low => leBytes 1 0 ++ leBytes 1 count ++ leBytes 1 low
  | .capSet v => leBytes 2 0xFF ++ leBytes 1 v
  | .echo j stamp => leBytes 4 j ++ leBytes 8 stamp
  | .credit _ _ => []
  | .train _ => []

/-- A message's data. -/
def LinkMsg.data : LinkMsg → List Byte
  | .rowData _ _ px => px.flatMap (leBytes 4)
  | .mirror _ r => r.image
  | .ctrl _ _ _ _ _ d => d
  | _ => []

/-- The CREDIT field (R327): the credit a message returns. -/
def LinkMsg.creditField : LinkMsg → Nat
  | .credit cls n => cls % 4 * 2 ^ 14 + n % 2 ^ 14
  | _ => 0

/-- HCRC (R327): polynomial 0x1021 from 0xFFFF, unreflected, bytes most significant bit first. -/
def hcrc (l : List Byte) : Nat := crcMsb 16 0x1021 0xFFFF (l.flatMap (fun b => msbBits 8 b.toNat))

/-- The first n bytes of a list, zeros where it ends. -/
def fill (n : Nat) (l : List Byte) : List Byte := (l ++ List.replicate n 0).take n

/-- A header slot (R327). -/
def headerSlot (kind len credit dcrc : Nat) (body : List Byte) : List Byte :=
  let h := leBytes 1 kind ++ leBytes 1 len ++ leBytes 2 credit ++ leBytes 4 dcrc ++ fill 22 body
  h ++ leBytes 2 (hcrc h)

/-- An IDLE header (R326). -/
def idleSlot : List Byte := headerSlot 0 0 0 0 []

/-- A message as bytes at a link version: its header slot and its data slots (R326, R327). -/
def LinkMsg.slots (v : Nat) (m : LinkMsg) : List Byte :=
  let d := padTo 32 m.data
  headerSlot m.kind (d.length / 32) m.creditField (if v = 3 ∧ d ≠ [] then crc32c d else 0) m.body ++ d

/-! ## Bits and levels (R309, R310, R326) -/

/-- The bits of bytes in the order a lane sends them: from byte 0, least significant bit first (R309). -/
def sentBits (l : List Byte) : List Bool := l.flatMap (fun b => (List.range 8).map (fun i => b.toNat.testBit i))

/-- One bit through the scrambler x^58 + x^39 + 1 (R326): the register holds the last 58 bits sent, the newest in bit 0. -/
def scrambleBit (reg : Nat) (b : Bool) : Bool × Nat :=
  let o := b != (reg.testBit 38 != reg.testBit 57)
  (o, (reg * 2 + b2n o) % 2 ^ 58)

/-- One bit through the descrambler: its register holds the last 58 bits received. -/
def descrambleBit (reg : Nat) (b : Bool) : Bool × Nat :=
  (b != (reg.testBit 38 != reg.testBit 57), (reg * 2 + b2n b) % 2 ^ 58)

/-- Bits through the scrambler. -/
def scramble : Nat → List Bool → List Bool × Nat
  | reg, [] => ([], reg)
  | reg, b :: l =>
    let (o, r1) := scrambleBit reg b
    let (t, r2) := scramble r1 l
    (o :: t, r2)

/-- Bits through the descrambler. -/
def descramble : Nat → List Bool → List Bool
  | _, [] => []
  | reg, b :: l => (descrambleBit reg b).1 :: descramble (descrambleBit reg b).2 l

/-- The Gray code of a bit pair, its first bit the less significant (R309): 00, 01, 11 and 10 are symbols 0 to 3. -/
def graySymbol (first second : Bool) : Nat := if second then (if first then 2 else 3) else (if first then 1 else 0)

/-- Bits as symbols, in pairs. -/
def symbols : List Bool → List Nat
  | a :: b :: l => graySymbol a b :: symbols l
  | _ => []

/-- The precoder 1/(1 + D) modulo 4 (R310), from the symbol sent last. -/
def precode : Nat → List Nat → List Nat
  | _, [] => []
  | last, x :: l => let y := (x + 4 - last % 4) % 4; y :: precode y l

/-- The level of a symbol (R309): −3, −1, +1, +3. -/
def level (x : Nat) : Int := 2 * (x : Int) - 3

/-! ## The slot stream of a lane (R326) -/

/-- The slots that a lane sends in n ticks: 106.25 Gb/s, 256 bits a slot, 0.625 ns a tick. -/
def slotsIn (n : Nat) : Nat := n * 2125 / 8192

/-- What a lane transmits when a message goes out: the IDLE headers since the last message (none while messages wait behind each
other), then the message, scrambled, mapped and precoded; and the wire after it. -/
def Wire.send (x : Wire) (now v : Nat) (coded : Bool) (m : LinkMsg) : List Int × Wire :=
  let bytes := m.slots v
  let idle := slotsIn (now - x.since) - x.count
  let (bitsOut, reg) := scramble x.reg (sentBits ((List.replicate idle idleSlot).flatten ++ bytes))
  let sy := symbols bitsOut
  let out := if coded then precode x.last sy else sy
  (out.map level, { x with reg := reg, last := out.getLast?.getD x.last, count := x.count + idle + bytes.length / 32 })

/-- The wire of a lane. -/
def State.wire (s : State) (i : Nat) : Wire := Table.getD s.wires i Wire.reset

/-- A lane beyond its registers. -/
def State.lane (s : State) (i : Nat) : Lane := Table.getD s.lanes i Lane.reset

/-- Send a message on a lane: the message, and the levels that carry it. -/
def State.transmit (s : State) (i : Nat) (m : LinkMsg) : State :=
  let r := (s.wire i).send s.lc (s.get (Reg.AKN_STATUS_VERSION i)) (s.lane i).precode m
  ({ s with wires := Table.put s.wires i r.2 }.emit (.link i m)).emit (.levels i r.1)

/-- Send several messages on a lane, in order. -/
def State.transmitAll (s : State) (i : Nat) (l : List LinkMsg) : State := l.foldl (fun (t : State) m => t.transmit i m) s

/-- The slot stream of a lane begins (R333): what the scrambler and the precoder start from is free. -/
def State.wireStart (s : State) (i : Nat) : State :=
  let w : Wire := { reg := Config.wireStart i s.lc % 2 ^ 58, last := Config.wireStart i s.lc / 2 ^ 58 % 4, since := s.lc, count := 0 }
  { s with wires := Table.put s.wires i w }

/-! ## Training frames and test patterns (R319, R333) -/

/-- The bits of a pseudo-random sequence: the feedback taps of a register of n bits, newest bit first. -/
def prbsBits (n : Nat) (taps : List Nat) : Nat → Nat → List Bool
  | 0, _ => []
  | k + 1, reg =>
    let b := taps.foldl (fun (t : Bool) i => t != reg.testBit (i - 1)) false
    b :: prbsBits n taps k ((reg * 2 + b2n b) % 2 ^ n)

/-- The register length and taps of a PRBS pattern code (R319). -/
def prbsTaps : Nat → Nat × List Nat
  | 1 => (7, [7, 6])
  | 2 => (9, [9, 5])
  | 3 => (13, [13, 12, 2, 1])
  | 4 => (15, [15, 14])
  | 5 => (31, [31, 28])
  | _ => (0, [])

/-- The first symbols that a generator sends for a PRBS pattern from a register value, precoded when PRECODE_TX says so (R310, R319). -/
def patternSymbols (pat reg count : Nat) (coded : Bool) : List Int :=
  let p := prbsTaps pat
  let sy := symbols (prbsBits p.1 p.2 (2 * count) reg)
  (if coded then precode 0 sy else sy).map level

/-- The levels of a training frame (R333): marker, control word most significant bit first, PRBS13 from a free register value. -/
def trainLevels (word reg : Nat) : List Int :=
  List.replicate 16 3 ++ List.replicate 16 (-3) ++ (msbBits 32 word).flatMap (fun b => if b then [3, -3] else [-3, 3]) ++
    patternSymbols 3 reg 4000 false

/-- Send a training frame. -/
def State.sendTraining (s : State) (i word : Nat) : State :=
  (s.emit (.link i (.train word))).emit (.levels i (trainLevels word (Config.wireStart i s.lc % (2 ^ 13 - 1) + 1)))

end Sys2Proof.Machine
end

