-- ==== Sys2Proof/Machine/Lanes.lean ====
section
/-! DEFINITION. Lanes, Ethernet link state and Aknis Link (chapter 12): configuration, bring-up, loss, test, capability
exchange, credits and partner violations; the chain of a scan-out lane as a lane's state changes it (R298). -/

namespace Sys2Proof.Machine

/-! ## Lanes -/

/-- States of a lane (R314); ACTIVE is `laneActive`. -/
def laneDown : Nat := 0
def laneDetect : Nat := 1
def laneTrain : Nat := 2
def laneBitLock : Nat := 3
def laneSymbolLock : Nat := 4
def laneCap : Nat := 5
def laneTest : Nat := 7

def State.setLane (s : State) (i : Nat) (x : Lane) : State := { s with lanes := Table.put s.lanes i x }
def State.updLane (s : State) (i : Nat) (f : Lane → Lane) : State := s.setLane i (f (s.lane i))

/-- The LANE_ and AKN_ block numbers (R512). -/
def blockLane : Nat := 10
def blockAkn : Nat := 11

/-- Ethernet and Aknis Link modes (R306). -/
def State.isEth (s : State) (i : Nat) : Bool := decide (1 ≤ s.laneMode i ∧ s.laneMode i ≤ 3)
def State.isAkn (s : State) (i : Nat) : Bool := s.laneMode i == 4 || s.laneMode i == 5

/-- Whether a lane is fenced (PWR_FENCE_B). -/
def State.laneFenced (s : State) (i : Nat) : Bool := bit (s.get Reg.PWR_FENCE_LANE) i

/-- Whether the configuration names a lane (R520). -/
def State.laneNamed (s : State) (i : Nat) : Bool := s.on (Reg.LANE_CFG_ENABLE i) && s.laneMode i != 0

/-- Whether an enabled time domain names a lane's port. -/
def State.inDomain (s : State) (i : Nat) : Bool :=
  ([0, 1] : List Nat).any (fun d => s.domEnabled d && bit (s.get (Reg.TIM_DOM_LANE_MASK d)) (s.portOf i))

/-- Whether the mode in force powers and brings up a named lane (R520). -/
def State.laneWanted (s : State) (i : Nat) : Bool :=
  s.laneNamed i &&
    (s.mode != 5 || (s.laneMode i == 5 && bit (s.get Reg.TRP_CTRL_MIRROR_LANES) i) || (s.isEth i && s.inDomain i))

/-- Whether a lane is in use (R308). -/
def State.laneInUse (s : State) (i : Nat) : Bool :=
  let p := s.portOf i
  (List.range 60).any (fun r => s.on (Reg.ING_RX_ENABLE r) && ([0, 1] : List Nat).any (fun q =>
      s.on (if q = 0 then Reg.ING_RX_PATH0_EN r else Reg.ING_RX_PATH1_EN r) && s.get (Reg.ING_RX_PATH_LANE r q) == p))
  || fourSlots.any (fun n => decide (2 ≤ s.slotState n) && s.slotKind n == 0 &&
      (List.range (s.cfg Reg.ENC_BS_PKT_STREAMS n)).any (fun m =>
        s.get (bank 1 (Reg.ENC_BS_STR_LANE0 n m)) == p
        || (s.get (bank 1 (Reg.ENC_BS_STR_PATH1_EN n m)) == 1 && s.get (bank 1 (Reg.ENC_BS_STR_LANE1 n m)) == p)))
  || s.get (bank 1 (Reg.SCN_LANE_ENABLE i)) == 1
  || (s.on Reg.TRP_CTRL_ENABLE && bit (s.get Reg.TRP_CTRL_MIRROR_LANES) i)
  || s.inDomain i

/-- Log a change of a lane's registers and show its status. -/
def State.laneStatus (s : State) (i : Nat) (c : Code) : State := if c = 0 then s else s.set (Reg.LANE_STATUS_LAST_STATUS i) c

/-! ## The chain of a scan-out lane -/

/-- A lane that loses its chain returns to WAIT_CHAIN; its load frame ends (R298). -/
def State.scnDrop (s : State) (i : Nat) : State :=
  if s.scnState i = scnOff then s
  else (s.setScn i { s.scn i with frame := none, still := 0 }).set (Reg.SCN_LANE_STATUS_STATE i) scnWait

/-- The status of the chain (R298): 0, 0x2B01 or 0x2B02. -/
def State.chainCode (s : State) (i : Nat) : Code :=
  if s.get (Reg.AKN_STATUS_TILES_FOUND i) ≠ s.get (bank 1 (Reg.SCN_LANE_TILES (s.scnLead i))) then 0x2B01
  else if s.get (bank 1 (Reg.SCN_LANE_FLIP_LEAD_NS (s.scnLead i))) < s.get (Reg.SCN_LANE_STATUS_LAT_MAX_NS i) + 50 then 0x2B02
  else 0

/-- Send a message on an Aknis Link lane that is ACTIVE (R317). -/
def State.sendLink (s : State) (i : Nat) (m : LinkMsg) : State :=
  if s.laneState i = laneActive ∧ s.isAkn i then s.transmit i m else s

/-- MODE to each tile of a lane (R296, R303, R336): its geometry and FDELAY = FLIP_LEAD − lat in ps. -/
def State.sendModes (s : State) (i : Nat) : State :=
  let l := s.scnLead i
  s.transmitAll i ((List.range (s.get (bank 1 (Reg.SCN_LANE_TILES l)))).map (fun j =>
    .mode j (s.get (bank 1 (Reg.SCN_TILE_X l j))) (s.get (bank 1 (Reg.SCN_TILE_Y l j))) (s.get (bank 1 (Reg.SCN_TILE_W l j)))
      (s.get (bank 1 (Reg.SCN_TILE_H l j))) (s.get (bank 1 (Reg.SCN_LANE_FLIP_LEAD_NS l)) * 1000 - s.get (Reg.AKN_LAT_PS i j))))

/-- Judge the chain of a lane that became ACTIVE: LAST_STATUS shows a failed recheck (R298). -/
def State.scnChain (s : State) (i : Nat) : State :=
  if s.scnState i = scnOff then s else s.set (Reg.SCN_LANE_COMMIT_LAST_STATUS i) (s.chainCode i)

/-! ## Leaving and entering states -/

/-- Complete the LANE_RETRAINs of a lane with a status (R318). -/
def State.endRetrain (s : State) (i : Nat) (c : Code) : State :=
  ((s.lane i).retrain.foldl (fun (t : State) e => t.complete e.1 c (if c = 0 then (t.lc - e.2) / (1000 * ticksPerUs) else 0)) s).updLane i
    (fun x => { x with retrain := [] })

/-- A lane forgets its link: readiness, slot lock, credits, version and waiting messages (R316, R317). -/
def Lane.forget (x : Lane) : Lane :=
  { Lane.reset with tag := x.tag, asked := x.asked, retrain := x.retrain, fseq := x.fseq, precode := x.precode }

/-- One lane goes to a state other than ACTIVE (R316): its link is forgotten, at DOWN or TRAIN the ingest paths of its port are
DOWN, its scan-out lane waits for its chain, and its port discards its queues when it was ACTIVE (R342). -/
def State.laneTo (s : State) (i st : Nat) : State :=
  let was := s.laneState i
  let up := s.portActive (s.portOf i)
  let s1 := ((s.updLane i Lane.forget).setAll [(Reg.LANE_STATUS_STATE i, st), (Reg.AKN_STATUS_VERSION i, 0)])
  let s2 := if st = laneDown ∨ st = laneTrain ∨ st = laneTest then s1.lanePathsDown (s.portOf i) else s1
  let s3 := if was = laneActive then s2.scnDrop i else s2
  let s4 := if up then s3.portDown i else s3
  if st = laneTrain then s4.set (Reg.LANE_ADAPT_PRESET i) (s.get Reg.THM_STATUS_BAND) else s4

/-- Whether a transition is between draining and its last step, when no lane begins bring-up (R82). -/
def State.moving (s : State) : Bool := s.phase == phaseDraining || s.phase == phasePowering || s.phase == phaseLoading

/-- A lane that is DOWN begins bring-up at DETECT when it may (R314, R520); its domain is on. -/
def State.laneStart (s : State) (i : Nat) : State :=
  if s.laneState i = laneDown ∧ s.laneWanted i ∧ !(s.laneFenced i) ∧ !s.halted ∧ !s.moving ∧ !(s.lane i).failed
      ∧ bit (s.get Reg.LANE_REFSTAT_OK) (i / 4) then
    (((s.updLane i Lane.forget).set (Reg.LANE_STATUS_STATE i) laneDetect)).setPd true (57 + i)
  else s

/-- The lanes that go down with a lane: those of its 400G group (R307). -/
def State.laneMates (s : State) (i : Nat) : List Nat :=
  (s.portLanes i).filter (fun l => l != i && s.laneState l != laneDown && s.laneState l != laneTest)

/-- A lane goes to a state and its group with it; lanes that are DOWN start again when they may. -/
def State.laneGoes (s : State) (i st : Nat) : State :=
  let mates := if decide (4 ≤ s.laneState i ∧ s.laneState i ≤ 6) then s.laneMates i else []
  let s1 := mates.foldl (fun (t : State) l => (t.laneTo l laneDown).laneStart l) (s.laneTo i st)
  if st = laneDown then s1.laneStart i else s1

/-- A lane goes DOWN and stays there, gated when the configuration does not name it. -/
def State.laneOff (s : State) (i : Nat) (c : Code) : State :=
  let s1 := (s.laneTo i laneDown).endRetrain i c
  let s2 := (s.laneMates i).foldl (fun (t : State) l => (t.laneTo l laneDown).laneStart l) s1
  if s2.laneWanted i then s2 else s2.setPd false (57 + i)

/-- A lane reaches ACTIVE (R314): 0x0C01, and its retrains complete (R318). -/
def State.laneUp (s : State) (i : Nat) : State :=
  (((((s.set (Reg.LANE_STATUS_STATE i) laneActive).updLane i (fun x => { x with relock := false })).raise 0x0C01 (objLane i) {}).endRetrain i
    0).igmpLane i).scnChain i

/-- A training failure (R315): counted, 0x6C02, DOWN until the retry. -/
def State.trainFailed (s : State) (i : Nat) : State :=
  ((((s.bump (Reg.LANE_TRAIN_FAIL_CNT i)).raise 0x6C02 (objLane i) {}).laneTo i laneDown).endRetrain i 0x6C02).updLane i
    (fun x => { x with failed := true })

/-! ## LANE_i_CFG, LANE_i_TEST and the port MAC -/

/-- The fields of LANE_i_CFG with their values in a written word. -/
def laneCfgFields (i v : Nat) : List (Field × Nat) :=
  [Reg.LANE_CFG_ENABLE i, Reg.LANE_CFG_MODE i, Reg.LANE_CFG_AN_EN i, Reg.LANE_CFG_PRECODE_TX i, Reg.LANE_CFG_PRECODE_RX i,
   Reg.LANE_CFG_FFE_MODE i, Reg.LANE_CFG_TRAIN_TO_MS i].map (fun f => (f, bits v f.msb f.lsb))

/-- The fields of a word. -/
def fieldsOf (l : List (Field × Nat)) : List Field := l.map (fun e => e.1)

/-- Whether a group would hold an enabled lane with MODE 0x3 and a lane with another MODE after a write (R307). -/
def State.groupBroken (s : State) (i : Nat) : Bool :=
  let g := ([0, 1, 2, 3] : List Nat).map (fun k => 4 * (i / 4) + k)
  g.any (fun l => s.laneMode l == 3 && s.on (Reg.LANE_CFG_ENABLE l)) && g.any (fun l => s.laneMode l != 3)

/-- The status of a write of LANE_i_CFG (R306 to R308): the fence is judged first. -/
def State.laneCfgCode (s : State) (i v : Nat) : Code :=
  let s1 := s.setAll (laneCfgFields i v)
  if s.laneFenced i then 0x1C03
  else if 5 < bits v 27 24 ∨ bits v 15 0 < 100 ∨ 12000 < bits v 15 0 ∨ s1.groupBroken i then 0x1C01
  else if (bits v 31 31 ≠ s.get (Reg.LANE_CFG_ENABLE i) ∨ bits v 27 24 ≠ s.laneMode i) ∧ s.laneInUse i then 0x1C02
  else 0

/-- LANE_CFG_WRITE (R308). -/
def State.laneCfgWrite (s : State) (w : Writer) (i v : Nat) : State :=
  let off := (Reg.LANE_CFG_MODE i).off
  let l := laneCfgFields i v
  let old := s.word (fieldsOf l)
  let c := s.laneCfgCode i v
  if c ≠ 0 then (s.laneStatus i c).logReg w off c old old
  else if bits v 31 31 ≠ s.get (Reg.LANE_CFG_ENABLE i) ∨ bits v 27 24 ≠ s.laneMode i then
    let s1 := (s.laneOff i (if bits v 31 31 = 1 ∧ bits v 27 24 ≠ 0 then 0x1C01 else 0x2C01)).setAll ((Reg.LANE_TEST_TEST_EN i, 0) :: l)
    let s2 := (s1.updLane i (fun x => { x with failed := false })).laneStart i
    (if s2.laneWanted i then s2 else s2.setPd false (57 + i)).logReg w off 0 old (s2.word (fieldsOf l))
  else (s.setAll l).logReg w off 0 old ((s.setAll l).word (fieldsOf l))


/-- Clear the checker's counters (R320). -/
def State.clearChecker (s : State) (i : Nat) : State :=
  s.setAll [(Reg.LANE_ERR_CNT i, 0), (Reg.LANE_BITS_CNT_LO i, 0), (Reg.LANE_BITS_CNT_HI i, 0), (Reg.LANE_TEST_SYNC i, 0)]

/-- The fields of LANE_i_TEST with their values in a written word. -/
def laneTestFields (i v : Nat) : List (Field × Nat) :=
  [Reg.LANE_TEST_TEST_EN i, Reg.LANE_TEST_TX_PAT i, Reg.LANE_TEST_RX_PAT i, Reg.LANE_TEST_LOOP i].map (fun f => (f, bits v f.msb f.lsb))

/-- The generator of a lane in TEST starts (R319, R321): the pattern from a free register value, unless a far-end loopback idles it. -/
def State.testStart (s : State) (i : Nat) : State :=
  let pat := s.get (Reg.LANE_TEST_TX_PAT i)
  if s.laneState i ≠ laneTest ∨ s.get (Reg.LANE_TEST_LOOP i) = 3 then s
  else
    let n := (prbsTaps pat).1
    s.emit (.pattern i pat (patternSymbols pat (Config.wireStart i s.lc % (2 ^ n - 1) + 1) n (s.on (Reg.LANE_CFG_PRECODE_TX i)))
      (s.get (Reg.LANE_TEST_LOOP i)))

/-- LANE_TEST_WRITE (R319, R320, R322). -/
def State.laneTestWrite (s : State) (w : Writer) (i v : Nat) : State :=
  let off := (Reg.LANE_TEST_TEST_EN i).off
  let l := laneTestFields i v
  let old := s.word (fieldsOf l)
  let sets := bits v 31 31 = 1 ∧ s.get (Reg.LANE_TEST_TEST_EN i) = 0
  let c := if sets ∧ s.laneFenced i then 0x1C03
    else if bits v 30 28 = 7 ∨ bits v 27 25 = 7 ∨ (sets ∧ s.laneMode i = 0) then 0x1C01
    else if sets ∧ s.laneInUse i then 0x1C04 else 0
  if c ≠ 0 then (s.laneStatus i c).logReg w off c old old
  else
    let s1 := ((if sets then s.set (Reg.LANE_STATUS_LAST_STATUS i) 0 else s).setAll l).clearChecker i
    let s2 := if sets then (((s1.laneGoes i laneTest).endRetrain i 0x2C01).setPd true (57 + i)).testStart i
      else if s.get (Reg.LANE_TEST_TEST_EN i) = 1 then (if bits v 31 31 = 0 then s1.laneGoes i laneDown else s1.testStart i) else s1
    s2.logReg w off 0 old (s2.word (fieldsOf l))

def execLaneTestWrite (w : Writer) (i : Fin 16) (value : BitVec 32) (s : State) : Host.Outcome State Fault Refusal :=
  .next (s.byWriter w (Reg.LANE_TEST_TEST_EN i).off (fun s => s.laneTestWrite w i value.toNat))

/-- PRBS_CHECKER_SYNC (R320): the bits compared and in error since the checker last reported count when it was synchronised; then
it has sync, or, with more than 512 errors in 1,024 bits, has lost it. In TEST with a receive pattern only. -/
def State.prbsSync (s : State) (i : Nat) (gained : Bool) (compared errors : Nat) : State :=
  if s.laneState i ≠ laneTest ∨ s.get (Reg.LANE_TEST_RX_PAT i) = 0 then s
  else
    let synced := s.on (Reg.LANE_TEST_SYNC i)
    let s1 := if synced then (s.count64 (Reg.LANE_BITS_CNT_LO i) (Reg.LANE_BITS_CNT_HI i) compared).count (Reg.LANE_ERR_CNT i) errors else s
    if gained then s1.set (Reg.LANE_TEST_SYNC i) 1
    else if synced then (s1.bump (Reg.LANE_LOCK_LOSS_CNT i)).set (Reg.LANE_TEST_SYNC i) 0
    else s1

def execPrbsCheckerSync (i : Fin 16) (gained : Bool) (compared errors : BitVec 32) (s : State) : Host.Outcome State Fault Refusal :=
  .next (s.prbsSync i gained compared.toNat errors.toNat)

/-- LANE_MAC_WRITE (R325): a group address is ignored with 0x1C01; bit 0 of the first byte stands in MAC_HI. -/
def State.laneMacWrite (s : State) (w : Writer) (i : Nat) (high : Bool) (v : Nat) : State :=
  let f := if high then Reg.LANE_MAC_HI i else Reg.LANE_MAC_LO i
  if high ∧ bit v 8 then (s.laneStatus i 0x1C01).logReg w f.off 0x1C01 (s.get f) (s.get f)
  else (s.set f v).logReg w f.off 0 (s.get f) ((s.set f v).get f)

def execLaneMacWrite (w : Writer) (i : Fin 16) (high : Bool) (value : BitVec 32) (s : State) : Host.Outcome State Fault Refusal :=
  .next (s.byWriter w (Reg.LANE_MAC_LO i).off (fun s => s.laneMacWrite w i high value.toNat))

/-! ## Retraining -/

/-- LANE_RETRAIN as an opcode (R317). -/
def laneRetrainSpec : OpSpec :=
  { opcode := 0x0300, object := fun t i => t == 5 && decide (i < 16), form := fun d => decide (d.p 32 1 ≤ 1) && d.zeroFrom 33 }

/-- The action of LANE_RETRAIN (R318): a lane in bring-up restarts nothing. -/
def actLaneRetrain (d : Desc) (t : Ticket) (s : State) : State :=
  let i := d.objIndex.toNat
  let s1 := s.logDesc t.fn d.obj 0 0 (d.p 32 1)
  if s.laneFenced i then s1.complete t 0x1C03 0
  else if s.laneMode i = 0 ∨ s.laneState i = laneTest then s1.complete t 0x1C01 0
  else if !(s.on (Reg.LANE_CFG_ENABLE i)) then s1.complete t 0x2C01 0
  else
    let s2 := s1.updLane i (fun x => { x with retrain := x.retrain ++ [(t, s.lc)] })
    if s.laneState i = laneActive then
      (if d.p 32 1 = 1 then s2.laneGoes i laneDown else s2.laneGoes i laneTrain)
    else s2

def execLaneRetrain (d : Desc) (s : State) : Host.Outcome State Fault Refusal := .next (s.runDesc laneRetrainSpec d actLaneRetrain)

/-! ## Bring-up -/

/-- TERMINATION_SENSE (R314). -/
def State.terminationSense (s : State) (i : Nat) (sensed : Bool) : State :=
  if s.laneState i = laneDetect ∧ sensed then
    (if s.isEth i && s.on (Reg.LANE_CFG_AN_EN i) then s.updLane i (fun x => { x with sensed := true }) else s.laneTo i laneTrain)
  else s

def execTerminationSense (i : Fin 16) (sensed : Bool) (s : State) : Host.Outcome State Fault Refusal := .next (s.terminationSense i sensed)

/-- AUTONEG_COMPLETE (R314): after the termination is sensed. -/
def execAutonegComplete (i : Fin 16) (s : State) : Host.Outcome State Fault Refusal :=
  .next (if s.laneState i = laneDetect ∧ s.isEth i ∧ s.on (Reg.LANE_CFG_AN_EN i) ∧ (s.lane i).sensed then s.laneTo i laneTrain else s)

/-- A tap after a request (R311): 1 increments, 2 decrements, within 0 to 16; true when it changed. -/
def tapStep (v : Nat) (req : Nat) : Nat × Bool :=
  if req = 1 ∧ v < 16 then (v + 1, true) else if req = 2 ∧ 0 < v then (v - 1, true) else (v, false)

/-- TRAINING_FRAME_RX (R310, R311, R333): the partner's requests are answered in the device's next training frame; what the
device itself asks of PRE and POST is its receiver's own and is a free value. -/
def State.trainingFrame (s : State) (i : Nat) (x : TrainFrame) : State :=
  if s.laneState i ≠ laneTrain then s
  else
    let fixed := s.on (Reg.LANE_CFG_FFE_MODE i)
    let a := tapStep (s.get (Reg.LANE_FFE_PRE i)) x.pre
    let b := tapStep (s.get (Reg.LANE_FFE_POST i)) x.post
    let asks := decide (x.pre.val = 1 ∨ x.pre.val = 2) || decide (x.post.val = 1 ∨ x.post.val = 2)
    let reply := if !asks then 0 else if !fixed && (a.2 || b.2) then 1 else 2
    let s1 := if fixed then s else
      s.setAll [(Reg.LANE_FFE_PRE i, a.1), (Reg.LANE_FFE_POST i, b.1), (Reg.LANE_FFE_MAIN i, 64 - a.1 - b.1)]
    let l := s.lane i
    let s2 := s1.setLane i { l with peerReady := x.ready, selfReady := x.own, precode := x.precode, fseq := (l.fseq + 1) % 256 }
    if s.isAkn i then
      let (q, s3) := s2.draw
      s3.sendTraining i (b2n x.own * 2 ^ 31 + s.get (Reg.LANE_CFG_PRECODE_RX i) * 2 ^ 30 + q % 3 * 2 ^ 28 + q / 3 % 3 * 2 ^ 26
        + reply * 2 ^ 24 + l.fseq * 2 ^ 16)
    else s2

def execTrainingFrameRx (i : Fin 16) (x : TrainFrame) (s : State) : Host.Outcome State Fault Refusal := .next (s.trainingFrame i x)

/-- Whether both sides have reported ready. -/
def State.bothReady (s : State) (i : Nat) : Bool := s.laneState i == laneTrain && (s.lane i).peerReady && (s.lane i).selfReady

/-- BIT_LOCK (R314): an Aknis Link lane's slot stream has begun after the last training frame (R333). -/
def execBitLock (i : Fin 16) (s : State) : Host.Outcome State Fault Refusal :=
  .next (if s.bothReady i then
      let s1 := s.set (Reg.LANE_STATUS_STATE i) laneBitLock
      if s.isAkn i then s1.wireStart i else s1
    else s)

/-- AM_LOCK (R314): an Ethernet lane passes SYMBOL_LOCK and is ACTIVE. -/
def execAmLock (i : Fin 16) (s : State) : Host.Outcome State Fault Refusal :=
  .next (if s.laneState i = laneBitLock ∧ s.isEth i then s.laneUp i else s)

/-- TRAIN_TIMEOUT (R315). -/
def execTrainTimeout (i : Fin 16) (s : State) : Host.Outcome State Fault Refusal :=
  .next (if s.laneState i = laneTrain then s.trainFailed i else s)

/-- LOCK_TIMEOUT (R315): bit lock has not followed TRAIN, or symbol lock bit lock. -/
def execLockTimeout (i : Fin 16) (s : State) : Host.Outcome State Fault Refusal :=
  .next (if s.bothReady i ∨ s.laneState i = laneBitLock then s.trainFailed i else s)

/-- TRAIN_RETRY (R315). -/
def execTrainRetry (i : Fin 16) (s : State) : Host.Outcome State Fault Refusal :=
  .next (if (s.lane i).failed then (s.updLane i (fun x => { x with failed := false })).laneStart i else s)

/-! ## Losses -/

/-- Whether a lane is ACTIVE or in CAP. -/
def State.laneServing (s : State) (i : Nat) : Bool := s.laneState i == laneActive || s.laneState i == laneCap

/-- FAR_END_LOSS (R316). -/
def execFarEndLoss (i : Fin 16) (s : State) : Host.Outcome State Fault Refusal :=
  .next (if s.laneServing i then ((s.bump (Reg.LANE_LOCK_LOSS_CNT i)).raise 0x6C01 (objLane i) {}).laneGoes i laneDown else s)

/-- ETH_LINK_FAULT (R316). -/
def execEthLinkFault (i : Fin 16) (s : State) : Host.Outcome State Fault Refusal :=
  .next (if s.laneState i = laneActive ∧ s.isEth i then
    ((s.bump (Reg.LANE_LOCK_LOSS_CNT i)).raise 0x6C01 (objLane i) {}).laneGoes i laneTrain else s)

/-- SLOT_LOCK_TIMEOUT (R316). -/
def execSlotLockTimeout (i : Fin 16) (s : State) : Host.Outcome State Fault Refusal :=
  .next (if s.laneState i = laneSymbolLock ∧ (s.lane i).relock then (s.raise 0x6C01 (objLane i) {}).laneGoes i laneTrain else s)

/-- The lanes of a quad. -/
def quadLanes (q : Nat) : List Nat := [4 * q, 4 * q + 1, 4 * q + 2, 4 * q + 3]

/-- REFCLK_LOSS (R313, R322): every lane of the quad is DOWN, a test included; 0x5C01 once. A reference that came back for less
than the 1 ms that REFCLK_RETURN marks is lost again the same way (log entry 78). -/
def State.refclkLoss (s : State) (q : Nat) : State :=
  let s1 := (s.set Reg.LANE_REFSTAT_OK (clearBit (s.get Reg.LANE_REFSTAT_OK) q)).flag Reg.LANE_REFSTAT_LOST (2 ^ q)
  let s2 := (quadLanes q).foldl (fun (t : State) i => (t.laneTo i laneDown).endRetrain i 0x5C01) s1
  s2.raise 0x5C01 objDevice { w16 := q }

def execRefclkLoss (q : Fin 4) (s : State) : Host.Outcome State Fault Refusal := .next (s.refclkLoss q)

/-- REFCLK_RETURN (R313, R322): enabled lanes restart at DETECT, a test starts again with cleared counters. -/
def State.refclkReturn (s : State) (q : Nat) : State :=
  if bit (s.get Reg.LANE_REFSTAT_OK) q then s
  else
    (quadLanes q).foldl (fun (t : State) i =>
      if t.on (Reg.LANE_TEST_TEST_EN i) then ((t.set (Reg.LANE_STATUS_STATE i) laneTest).clearChecker i).testStart i else t.laneStart i)
      (s.set Reg.LANE_REFSTAT_OK (setBit (s.get Reg.LANE_REFSTAT_OK) q))

def execRefclkReturn (q : Fin 4) (s : State) : Host.Outcome State Fault Refusal := .next (s.refclkReturn q)

/-! ## Aknis Link -/

/-- A violation of a neighbour (R337): counted and logged, its event at most once per lane in 1 s. -/
def State.aknViolation (s : State) (i : Nat) (cnt : Field) (c : Code) : State :=
  let s1 := (s.bump cnt).logUnit originHw 0 c blockAkn i
  if c = 0 then s1 else s1.raiseLimited c i (objLane i) {}

/-- Aknis Link credits a device advertises (R330). -/
def State.ownMirror (s : State) (i : Nat) : Nat := if s.laneMode i = 5 then 4096 else 0

/-- Whether the link engine of a lane is being reloaded (R465): it runs neither capability exchange nor CONTROL messages then. -/
def State.linkReloading (s : State) (i : Nat) : Bool :=
  match s.fw.update with
  | some u => u.kind == 3 && u.left.head? == some i
  | none => false

/-- CAP begins (R334): the device offers its versions, part and credits; its own TURN is 0. While the lane's engine is being reloaded
the exchange waits (R465). -/
def State.enterCap (s : State) (i : Nat) : State :=
  let s1 := (s.updLane i (fun x => { x.forget with good := x.good, heads := x.heads })).setAll
    [(Reg.LANE_STATUS_STATE i, laneCap), (Reg.AKN_STATUS_VERSION i, 0)]
  if s1.linkReloading i then s1 else s1.transmit i (.capOffer (if s.laneMode i = 5 then 2 else 0) (s.get (Reg.AKN_CTRL_VERSIONS i)) 0x4816 (s.ownMirror i) 512 0)

/-- Slot lock is lost (R316, R328). -/
def State.slotLockLost (s : State) (i : Nat) : State :=
  (((s.bump (Reg.LANE_LOCK_LOSS_CNT i)).laneTo i laneSymbolLock).updLane i (fun x => { x with relock := true }))

/-- The kinds a neighbour may send on a lane (R331): on a raster lane and on a peer lane. -/
def kindAllowed (mode kind : Nat) : Bool :=
  (if mode = 4 then [0x00, 0x14, 0x60, 0x61, 0x80, 0x81, 0x84] else [0x00, 0x40, 0x60, 0x61, 0x80]).contains kind

/-- The class of credit that a kind's data uses: 1 MIRROR, 2 CONTROL, 0 none. -/
def kindCredit (kind : Nat) : Nat := if kind = 0x40 then 1 else if kind = 0x60 ∨ kind = 0x61 then 2 else 0

/-- Send held CONTROL messages while credit lasts (R330); a message that waits holds the later ones. -/
def State.sendHeld (i : Nat) : Nat → State → State
  | 0, s => s
  | k + 1, s =>
    let x := s.lane i
    match x.held with
    | [] => s
    | m :: l =>
      let need := match m with | .ctrl _ _ _ _ _ data => ceilDiv data.length 32 | _ => 0
      if need ≤ x.control then
        State.sendHeld i k ((s.setLane i { x with held := l, control := x.control - need }).sendLink i m)
      else s

/-- Send a CONTROL message, or hold it behind earlier ones until credit returns (R330); a lane whose engine is being reloaded sends
none (R465). -/
def State.sendCtrl (s : State) (i : Nat) (m : LinkMsg) : State :=
  if s.laneState i = laneActive ∧ s.isAkn i ∧ !(s.linkReloading i) then
    let s1 := s.updLane i (fun x => { x with held := x.held ++ [m] })
    State.sendHeld i (s1.lane i).held.length s1
  else s

/-- The CREDIT field of a header (R330, R337). -/
def State.takeCredit (s : State) (i cls n : Nat) : State :=
  let x := s.lane i
  if cls = 1 then
    let s1 := s.setLane i { x with mirror := min x.mirrorMax (x.mirror + n) }
    if x.mirrorMax < x.mirror + n then s1.aknViolation i (Reg.AKN_CREDIT_ERR_CNT i) 0x4C02 else s1
  else if cls = 2 then
    let s1 := s.setLane i { x with control := min x.controlMax (x.control + n) }
    let s2 := if x.controlMax < x.control + n then s1.aknViolation i (Reg.AKN_CREDIT_ERR_CNT i) 0x4C02 else s1
    State.sendHeld i (s2.lane i).held.length s2
  else s

/-- A good header on a lane that exchanges messages: violations, its CREDIT field, its data's credit and DCRC (R329, R330, R337). -/
def State.headerMessage (s : State) (i : Nat) (h : LinkHeader) : State :=
  let k := h.kind.toNat
  if !(kindAllowed (s.laneMode i) k) ∨ 128 < h.len.toNat ∨ h.bad ∨ h.crClass.val = 3 then
    s.aknViolation i (Reg.AKN_PROTO_CNT i) 0x4C01
  else
    let s1 := s.takeCredit i h.crClass.val h.crSlots.toNat
    let c := kindCredit k
    if h.len.toNat = 0 ∨ c = 0 then s1
    else if h.beyond then s1.aknViolation i (Reg.AKN_CREDIT_ERR_CNT i) 0x4C02
    else
      let s2 := if !h.dcrc ∧ s.get (Reg.AKN_STATUS_VERSION i) = 3 then s1.aknViolation i (Reg.AKN_DCRC_ERR_CNT i) 0 else s1
      s2.transmit i (.credit c h.len.toNat)

/-- HEADER_SLOT_RX (R328, R330, R337): slot lock after 8 consecutive good headers, lost at 4 failures in 64. -/
def State.headerSlot (s : State) (i : Nat) (h : LinkHeader) : State :=
  let st := s.laneState i
  if !(s.isAkn i) ∨ st < laneBitLock ∨ st = laneTest then s
  else
    let x := s.lane i
    let heads := ((!h.hcrc) :: x.heads).take 64
    let s1 := s.setLane i { x with heads := heads, good := if h.hcrc then min 8 (x.good + 1) else 0 }
    if !h.hcrc then
      let s2 := s1.aknViolation i (Reg.AKN_HCRC_ERR_CNT i) 0
      if (st = laneCap ∨ st = laneActive) ∧ 4 ≤ (heads.filter id).length then s2.slotLockLost i else s2
    else if (st = laneBitLock ∨ st = laneSymbolLock) then
      (if (s1.lane i).good = 8 then s1.enterCap i else s1)
    else s1.headerMessage i h

def execHeaderSlotRx (i : Fin 16) (h : LinkHeader) (s : State) : Host.Outcome State Fault Refusal := .next (s.headerSlot i h)

/-- The highest version in a mask of versions 2 and 3 (R334), 0 when none. -/
def highestVersion (m : Nat) : Nat := if bit m 3 then 3 else if bit m 2 then 2 else 0

/-- A version is found (R335): CAP_SET carries it and it is in force. -/
def State.setVersion (s : State) (i v : Nat) : State :=
  (s.set (Reg.AKN_STATUS_VERSION i) v).transmit i (.capSet v)

/-- An unusable offer or version leaves the lane in CAP. -/
def State.capStays (s : State) (i : Nat) (c : Code) : State := s.raise c (objLane i) {}

/-- The neighbour's offer is taken: its role, part and credits. -/
def State.takeOffer (s : State) (i : Nat) (o : CapOffer) : State :=
  (s.updLane i (fun x => { x with offer := some o, mirror := o.mirror.toNat, mirrorMax := o.mirror.toNat, control := o.control.toNat, controlMax := o.control.toNat })).setAll
    [(Reg.AKN_STATUS_PEER_ROLE i, o.role.toNat), (Reg.AKN_STATUS_PEER_PART i, o.part.toNat)]

/-- lat_j in ps from 16 round trips in 1/16 tick and TURN (R336); a half is rounded freely. -/
def latPs (sum turn : Nat) : Nat :=
  let q : Rat := (((sum : Rat) / 16 * (625 / 16)) - turn) / 2
  (q.floor + (if Config.roundsUp 2 q ∧ q.floor ≠ q.ceil then 1 else 0)).toNat

/-- The measurement is complete when every tile found has its round trips and its TURN: the delays are stored, each tile is sent
its MODE and the lane is ACTIVE (R336). -/
def State.chainDone (s : State) (i : Nat) : State :=
  let x := s.lane i
  let n := s.get (Reg.AKN_STATUS_TILES_FOUND i)
  let tiles := List.range n
  if s.laneState i = laneCap ∧ s.get (Reg.AKN_STATUS_VERSION i) ≠ 0 ∧ x.echo.isNone
      ∧ tiles.all (fun j => (Table.find x.trips j).isSome && (Table.find x.turns j).isSome) then
    let lat := fun j => latPs (Table.getD x.trips j 0) (Table.getD x.turns j 0)
    let big := tiles.foldl (fun m j => max m (lat j)) 0
    let s1 := s.setAll ((List.range 64).map (fun j => (Reg.AKN_LAT_PS i j, if j < n then lat j else 0)))
    let s2 := s1.setAll [(Reg.SCN_LANE_STATUS_TILES_FOUND i, n),
      (Reg.SCN_LANE_STATUS_LAT_MAX_NS i, big / 1000 + (if Config.roundsUp 3 ((big : Rat) / 1000) ∧ big % 1000 ≠ 0 then 1 else 0))]
    (s2.sendModes i).laneUp i
  else s

/-- CAP_OFFER_RX (R334, R336, R337). -/
def State.capOffer (s : State) (i tile : Nat) (o : CapOffer) : State :=
  let x := s.lane i
  if !(s.isAkn i) ∨ s.linkReloading i then s
  else if s.laneState i = laneActive then s.aknViolation i (Reg.AKN_PROTO_CNT i) 0x4C01
  else if s.laneState i ≠ laneCap then s
  else if s.laneMode i = 5 then
    if o.role ≠ 2 ∨ (o.part ≠ 0x4816 ∧ o.part ≠ 0x2408) then s.capStays i 0x9C02
    else
      let s1 := s.takeOffer i o
      let v := highestVersion (o.versions.toNat &&& s.get (Reg.AKN_CTRL_VERSIONS i))
      if v = 0 then s1.capStays i 0x9C01 else (s1.setVersion i v).laneUp i
  else if o.role = 2 then s.capStays i 0x9C02
  else
    let s1 := s.updLane i (fun x => { x with turns := Table.put x.turns tile o.turn.toNat })
    if x.offer.isNone then (s1.takeOffer i o).transmit i (.capEnum 0 (highestVersion (s.get (Reg.AKN_CTRL_VERSIONS i))))
    else s1.chainDone i

def execCapOfferRx (i : Fin 16) (tile : Fin 64) (o : CapOffer) (s : State) : Host.Outcome State Fault Refusal := .next (s.capOffer i tile o)

/-- Send an ECHO to a tile, its STAMP the LC (R336). -/
def State.sendEcho (s : State) (i : Nat) (e : Echo) : State :=
  (s.updLane i (fun x => { x with echo := some e })).transmit i (.echo e.tile s.lc)

/-- CAP_ENUM_RX (R334, R335): TILES_FOUND and the chain version; the measurement begins at tile 0. -/
def State.capEnum (s : State) (i count v : Nat) : State :=
  if !(s.isAkn i) ∨ s.linkReloading i then s
  else if s.laneState i = laneActive then s.aknViolation i (Reg.AKN_PROTO_CNT i) 0x4C01
  else if s.laneState i ≠ laneCap ∨ s.laneMode i ≠ 4 ∨ (s.lane i).offer.isNone ∨ s.get (Reg.AKN_STATUS_VERSION i) ≠ 0 then s
  else
    let s1 := s.setAll [(Reg.AKN_STATUS_TILES_FOUND i, count), (Reg.SCN_LANE_STATUS_TILES_FOUND i, count)]
    if v < 2 ∨ 3 < v ∨ !(bit (s.get (Reg.AKN_CTRL_VERSIONS i)) v) then s1.capStays i 0x9C01
    else
      let s2 := (s1.setVersion i v).updLane i (fun x => { x with trips := [] })
      if count = 0 then s2.chainDone i else s2.sendEcho i ⟨0, 0, 0, 0⟩

def execCapEnumRx (i : Fin 16) (count : Fin 65) (v : BitVec 8) (s : State) : Host.Outcome State Fault Refusal := .next (s.capEnum i count v.toNat)

/-- CAP_RETRY (R335): with no version found the exchange repeats. -/
def execCapRetry (i : Fin 16) (s : State) : Host.Outcome State Fault Refusal :=
  .next (if s.laneState i = laneCap ∧ s.get (Reg.AKN_STATUS_VERSION i) = 0 then s.enterCap i else s)

/-- ECHO_RESP_RX (R336): a round trip in 1/16 tick; 16 of them for each tile in turn. -/
def State.echoResp (s : State) (i tile trip : Nat) : State :=
  let x := s.lane i
  match x.echo with
  | none => s
  | some e =>
    if s.laneState i ≠ laneCap ∨ e.tile ≠ tile ∨ s.linkReloading i then s
    else if e.done + 1 < 16 then s.sendEcho i ⟨tile, e.done + 1, 0, e.sum + trip⟩
    else
      let s1 := s.setLane i { x with echo := none, trips := Table.put x.trips tile (e.sum + trip) }
      if tile + 1 < s.get (Reg.AKN_STATUS_TILES_FOUND i) then s1.sendEcho i ⟨tile + 1, 0, 0, 0⟩ else s1.chainDone i

def execEchoRespRx (i : Fin 16) (tile : Fin 64) (trip : Fin 1000000) (s : State) : Host.Outcome State Fault Refusal := .next (s.echoResp i tile trip)

/-- ECHO_TIMEOUT (R336): retried up to three times, then TRAIN with 0x6C01. -/
def State.echoTimeout (s : State) (i : Nat) : State :=
  match (s.lane i).echo with
  | none => s
  | some e =>
    if e.tries < 3 then s.sendEcho i { e with tries := e.tries + 1 }
    else (s.raise 0x6C01 (objLane i) {}).laneGoes i laneTrain

def execEchoTimeout (i : Fin 16) (s : State) : Host.Outcome State Fault Refusal := .next (s.echoTimeout i)

/-- AKN_SEND as an opcode (R338). -/
def aknSendSpec : OpSpec :=
  { opcode := 0x0301, object := fun t i => t == 5 && decide (i < 16),
    form := fun d => (d.p 33 1 == 1 || d.p 33 1 == 2) && d.p 34 2 == 0 && d.zeroFrom 44 }

/-- The action of AKN_SEND (R338): one CTRL message with the next TAG. -/
def actAknSend (d : Desc) (t : Ticket) (s : State) : State :=
  let i := d.objIndex.toNat
  let s1 := s.logDesc t.fn d.obj 0 0 (d.p 36 4)
  if s.laneState i ≠ laneActive ∨ !(s.isAkn i) then s1.complete t 0x1C01 0
  else
    let x := s.lane i
    (s1.setLane i { x with tag := (x.tag + 1) % 2 ^ 16, asked := x.asked ++ [(t, x.tag)] }).sendCtrl i
      (.ctrl (d.p 32 1) (d.p 33 1) x.tag (d.p 36 4) (d.p 40 4) [])

def execAknSend (d : Desc) (s : State) : Host.Outcome State Fault Refusal := .next (s.runDesc aknSendSpec d actAknSend)

/-- CTRL_RESP_RX (R338). A response that comes while the lane's engine is being reloaded is not taken: its request times out (R465). -/
def State.ctrlResp (s : State) (i tag value status : Nat) : State :=
  if s.laneState i ≠ laneActive ∨ !(s.isAkn i) ∨ s.linkReloading i then s
  else match (s.lane i).asked.find? (fun e => e.2 == tag) with
    | none => s.aknViolation i (Reg.AKN_PROTO_CNT i) 0x4C01
    | some e => (s.updLane i (fun x => { x with asked := x.asked.erase e })).complete e.1 0 (value + status * 2 ^ 32)

def execCtrlRespRx (i : Fin 16) (tag : BitVec 16) (value : BitVec 32) (status : BitVec 16) (s : State) : Host.Outcome State Fault Refusal :=
  .next (s.ctrlResp i tag.toNat value.toNat status.toNat)

/-- CTRL_RESPONSE_TIMEOUT (R338). -/
def execCtrlResponseTimeout (i : Fin 16) (tag : BitVec 16) (s : State) : Host.Outcome State Fault Refusal :=
  .next (match (s.lane i).asked.find? (fun e => e.2 == tag.toNat) with
    | none => s
    | some e => (s.updLane i (fun x => { x with asked := x.asked.erase e })).complete e.1 0x6C03 0)

/-! ## Ethernet frames that stop at the port -/

/-- ARP_REQUEST_RX (R325): a request for the port's own address is answered; another is an unmatched frame (R143). -/
def execArpRequestRx (i : Fin 16) (q : ArpRequest) (s : State) : Host.Outcome State Fault Refusal :=
  .next (if s.portActive i && s.get (Reg.LANE_IPV4 i) != 0 && s.get (Reg.LANE_IPV4 i) == q.ip.toNat then
      s.originate i (.arpReply q.ip.toNat q.mac.toNat) 64
    else if s.portActive i && s.mode != 4 then s.bump (Reg.ING_LANE_UNMATCHED_CNT i) else s)

/-- PAUSE_FRAME_RX (R323): discarded and counted. -/
def execPauseFrameRx (i : Fin 16) (s : State) : Host.Outcome State Fault Refusal :=
  .next (if s.portActive i then s.bump (Reg.LANE_PAUSE_CNT i) else s)

/-- BAD_FCS_FRAME_RX (R323): counted; it reaches neither ingest nor Ringmaster. A frame forwarded with its FCS bad is
ETH_FRAME_FORWARD's (R61). -/
def execBadFcsFrameRx (i : Fin 16) (s : State) : Host.Outcome State Fault Refusal :=
  .next (if s.portActive i then s.bump (Reg.LANE_FCS_ERR_CNT i) else s)

end Sys2Proof.Machine
end

