-- ==== Sys2Proof/Machine/Colour.lean ====
section
/-! DEFINITION. Samples and colour (chapter 06): components of 16 bits and their blending, range and matrix, transfer
characteristics, gamut, tone curve, look-up tables. Exact rationals stand for real values; the powers and logarithms are the
uninterpreted functions of Config, and the constants of the transfer characteristics and the matrices are those of BT.709, BT.2020
and BT.2100, which the spec names (PRESUMED, log entry 119). -/

namespace Sys2Proof.Machine

/-! ## Components -/

/-- Three components: R, G, B or Y, Cb, Cr. -/
structure Tri (α : Type) where
  a : α
  b : α
  c : α
  deriving DecidableEq, Repr

/-- Apply a function to each component, or to two triples. -/
def Tri.map {α β : Type} (f : α → β) (x : Tri α) : Tri β := ⟨f x.a, f x.b, f x.c⟩
def Tri.zip {α β γ : Type} (f : α → β → γ) (x : Tri α) (y : Tri β) : Tri γ := ⟨f x.a y.a, f x.b y.b, f x.c y.c⟩

/-- The all-ones value of a 16-bit component. -/
def full16 : Nat := 65535

/-- The nearest whole number of a value at least 0, ties up. -/
def nearUp (q : Rat) : Nat := (q + 1 / 2).floor.toNat

/-- A value held to [0, 1]. -/
def unit01 (q : Rat) : Rat := if q < 0 then 0 else if 1 < q then 1 else q

/-- A value rounded at a place where the spec gives no rounding: up or down is free. -/
def roundFree (site : Nat) (q : Rat) : Nat :=
  let f := q.floor.toNat
  if (f : Rat) = q then f else if Config.roundsUp site q then f + 1 else f

/-- A value of [0, 1] as a 16-bit component (R168); how it is rounded the spec does not say. -/
def to16 (q : Rat) : Nat := roundFree 5 (unit01 q * full16)

/-- A 16-bit component as a value of [0, 1]. -/
def of16 (n : Nat) : Rat := (n : Rat) / full16

/-! ## Blending (R170) -/

/-- The product of a 16-bit component and a 16-bit fraction, rounded to nearest, ties up. -/
def mul16 (x f : Nat) : Nat := (2 * x * f + full16) / (2 * full16)

/-- a_p × A_L as a 16-bit fraction: a pixel's alpha out of its maximum, LAYER_ALPHA out of 1,023. -/
def alpha16 (pixel most layer : Nat) : Nat := (2 * pixel * layer * full16 + most * 1023) / (2 * most * 1023)

/-- A colour over the canvas: `premult` tells the type of its alpha, `alpha` is a_p × A_L and `layer` A_L, 16-bit fractions. -/
def blend (premult : Bool) (alpha layer : Nat) (c dst : Tri Nat) : Tri Nat :=
  c.zip (fun x d => min full16 (mul16 x (if premult then layer else alpha) + mul16 d (full16 - alpha))) dst

/-! ## Range and matrix (R168, R180) -/

/-- A sample code of `depth` bits as a component: luma or R'G'B' in [0, 1], or a colour difference in [-1/2, 1/2]. -/
def expand (depth : Nat) (full luma : Bool) (v : Rat) : Rat :=
  let u : Rat := ((2 ^ (depth - 8) : Nat) : Rat)
  let most : Rat := ((2 ^ depth - 1 : Nat) : Rat)
  if full then (if luma then v / most else (v - 128 * u) / most)
  else if luma then (v - 16 * u) / (219 * u) else (v - 128 * u) / (224 * u)

/-- Whether a colorimetry code is BT.2020 or BT.2100, the same primaries and matrix; else BT.709. -/
def wide (col : Nat) : Bool := col != 0

/-- The luma weights of R' and B' of the non-constant-luminance matrix. -/
def lumaR (col : Nat) : Rat := if wide col then 2627 / 10000 else 2126 / 10000
def lumaB (col : Nat) : Rat := if wide col then 593 / 10000 else 722 / 10000

/-- Y'CbCr to R'G'B' and back. -/
def yccToRgb (col : Nat) (x : Tri Rat) : Tri Rat :=
  let r := x.a + 2 * (1 - lumaR col) * x.c
  let b := x.a + 2 * (1 - lumaB col) * x.b
  ⟨r, (x.a - lumaR col * r - lumaB col * b) / (1 - lumaR col - lumaB col), b⟩
def rgbToYcc (col : Nat) (x : Tri Rat) : Tri Rat :=
  let y := lumaR col * x.a + (1 - lumaR col - lumaB col) * x.b + lumaB col * x.c
  ⟨y, (x.c - y) / (2 * (1 - lumaB col)), (x.a - y) / (2 * (1 - lumaR col))⟩

/-- A component of the canvas as a 10-bit narrow-range code, rounded to nearest, ties up (R168). -/
def narrow10 (luma : Bool) (q : Rat) : Nat := if luma then nearUp (64 + 876 * q) else nearUp (512 + 896 * q)

/-! ## Transfer characteristics (R181): TCS codes 0 SDR, 1 PQ, 2 HLG; luminances in cd/m² -/

/-- The reference luminances of a slot: SDR_WHITE and HLG_LW. -/
structure Levels where
  sdr : Rat
  hlg : Rat

/-- The constants of PQ. -/
def pqM1 : Rat := 2610 / 16384
def pqM2 : Rat := 2523 / 32
def pqC1 : Rat := 3424 / 4096
def pqC2 : Rat := 2413 / 128
def pqC3 : Rat := 2392 / 128

/-- PQ: the luminance of a signal, and the signal of a luminance. -/
def pqLight (v : Rat) : Rat :=
  let e := Config.power v (1 / pqM2)
  10000 * Config.power (max (e - pqC1) 0 / (pqC2 - pqC3 * e)) (1 / pqM1)
def pqSignal (l : Rat) : Rat :=
  let y := Config.power (l / 10000) pqM1
  Config.power ((pqC1 + pqC2 * y) / (1 + pqC3 * y)) pqM2

/-- The constants of HLG. -/
def hlgA : Rat := 17883277 / 100000000
def hlgB : Rat := 1 - 4 * hlgA
def hlgC : Rat := 55991073 / 100000000

/-- HLG: the scene light of a signal, and the signal of a scene light. -/
def hlgScene (v : Rat) : Rat := if v ≤ 1 / 2 then v * v / 3 else (Config.exp ((v - hlgC) / hlgA) + hlgB) / 12
def hlgSignal (e : Rat) : Rat := if e ≤ 1 / 12 then Config.power (3 * e) (1 / 2) else hlgA * Config.ln (12 * e - hlgB) + hlgC

/-- The system gamma (R181) and the luminance of scene light with the BT.2100 weights. -/
def hlgGamma (lw : Rat) : Rat := 12 / 10 + 42 / 100 * Config.log10 (lw / 1000)
def hlgY (x : Tri Rat) : Rat := lumaR 1 * x.a + (1 - lumaR 1 - lumaB 1) * x.b + lumaB 1 * x.c

/-- Linearisation: R'G'B' to luminances. -/
def linearise (tcs : Nat) (lv : Levels) (x : Tri Rat) : Tri Rat :=
  if tcs = 1 then x.map pqLight
  else if tcs = 2 then
    let e := x.map hlgScene
    let y := hlgY e
    e.map (fun v => if y = 0 then 0 else lv.hlg * Config.power y (hlgGamma lv.hlg - 1) * v)
  else x.map (fun v => lv.sdr * Config.power v (12 / 5))

/-- The canvas transfer: luminances to R'G'B'. -/
def transfer (tcs : Nat) (lv : Levels) (x : Tri Rat) : Tri Rat :=
  if tcs = 1 then x.map pqSignal
  else if tcs = 2 then
    let y := Config.power (hlgY x / lv.hlg) (1 / hlgGamma lv.hlg)
    x.map (fun v => if hlgY x = 0 then hlgSignal 0 else hlgSignal (v / (lv.hlg * Config.power y (hlgGamma lv.hlg - 1))))
  else x.map (fun v => Config.power (v / lv.sdr) (5 / 12))

/-! ## Gamut (R181) -/

/-- A chromaticity as XYZ with Y = 1. -/
def chroma (x y : Rat) : Tri Rat := ⟨x / y, 1, (1 - x - y) / y⟩

/-- The determinant of three columns. -/
def det3 (p q r : Tri Rat) : Rat :=
  p.a * (q.b * r.c - q.c * r.b) - q.a * (p.b * r.c - p.c * r.b) + r.a * (p.b * q.c - p.c * q.b)

/-- The amounts of three columns that make a vector (Cramer's rule). -/
def solve3 (p q r v : Tri Rat) : Tri Rat := ⟨det3 v q r / det3 p q r, det3 p v r / det3 p q r, det3 p q v / det3 p q r⟩

/-- The primaries of a colorimetry as XYZ columns, scaled so that equal amounts make D65 white. -/
def primaries (col : Nat) : Tri (Tri Rat) :=
  let r := if wide col then chroma (708 / 1000) (292 / 1000) else chroma (64 / 100) (33 / 100)
  let g := if wide col then chroma (170 / 1000) (797 / 1000) else chroma (30 / 100) (60 / 100)
  let b := if wide col then chroma (131 / 1000) (46 / 1000) else chroma (15 / 100) (6 / 100)
  let s := solve3 r g b (chroma (3127 / 10000) (3290 / 10000))
  ⟨r.map (s.a * ·), g.map (s.b * ·), b.map (s.c * ·)⟩

/-- Luminances from one colorimetry's primaries to another's; negative results are 0. -/
def gamut (src dst : Nat) (x : Tri Rat) : Tri Rat :=
  if wide src = wide dst then x
  else
    let p := primaries src
    let q := primaries dst
    let xyz := ((p.a.map (x.a * ·)).zip (· + ·) (p.b.map (x.b * ·))).zip (· + ·) (p.c.map (x.c * ·))
    (solve3 q.a q.b q.c xyz).map (fun v => max v 0)

/-! ## The tone curve (R182) -/

/-- The tone curve from a source peak to a target peak with knee k. -/
def toneCurve (ls lt k : Rat) (v : Tri Rat) : Tri Rat :=
  if ls ≤ lt then v
  else
    let x := max v.a (max v.b v.c) / lt
    let xm := ls / lt
    let y := if x ≤ k then x
      else
        let t := min ((x - k) / (xm - k)) 1
        k + (1 - k) * t * (2 - t)
    if x = 0 then v else v.map (fun c => c * y / x)

/-- What a layer's conversion needs to know (R180 to R182): the source's and the canvas' colorimetry and TCS, the reference
luminances, the peaks of source and target, the knee. -/
structure Conversion where
  srcCol : Nat
  srcTcs : Nat
  dstCol : Nat
  dstTcs : Nat
  levels : Levels
  srcPeak : Rat
  dstPeak : Rat
  knee : Rat

/-- Whether source and canvas share colorimetry and transfer, when CONVERT is the identity. -/
def Conversion.same (v : Conversion) : Bool := wide v.srcCol == wide v.dstCol && v.srcTcs == v.dstTcs

/-- CONVERT from R'G'B' of the source to R'G'B' of the canvas (R180). -/
def Conversion.convert (v : Conversion) (x : Tri Rat) : Tri Rat :=
  if v.same then x
  else transfer v.dstTcs v.levels (toneCurve v.srcPeak v.dstPeak v.knee (gamut v.srcCol v.dstCol (linearise v.srcTcs v.levels (x.map unit01))))

/-- CONVERT of a premultiplied pixel of alpha a_p: divided, converted, multiplied (R171). -/
def Conversion.convertPremult (v : Conversion) (ap : Rat) (x : Tri Rat) : Tri Rat :=
  if v.same then x
  else if ap = 0 then v.convert ⟨0, 0, 0⟩ |>.map (· * ap)
  else (v.convert (x.map (· / ap))).map (· * ap)

/-! ## Look-up tables (R183) -/

/-- The byte of entry (r, g, b) of a LUT. -/
def lutByte (r g b : Nat) : Nat := ((b * 33 + g) * 33 + r) * 8

/-- Entry (r, g, b): canvas R', G', B'. -/
def lutEntry (l : List Byte) (r g b : Nat) : Tri Rat :=
  let k := lutByte r g b
  ⟨of16 (leAt l k 2), of16 (leAt l (k + 2) 2), of16 (leAt l (k + 4) 2)⟩

/-- The cell of a coordinate and the fraction within it. -/
def lutCell (v : Rat) : Nat × Rat :=
  let x := unit01 v * 32
  let i := min 31 x.floor.toNat
  (i, x - (i : Rat))

/-- Tetrahedral interpolation: the path from corner (0, 0, 0) to (1, 1, 1) of the cell goes along the axes by falling fraction. -/
def lutApply (l : List Byte) (x : Tri Rat) : Tri Rat :=
  let (i, fr) := lutCell x.a
  let (j, fg) := lutCell x.b
  let (k, fb) := lutCell x.c
  let e := fun (p q r : Nat) => lutEntry l (i + p) (j + q) (k + r)
  let mix := fun (f1 f2 f3 : Rat) (c1 c2 : Tri Rat) =>
    (((e 0 0 0).map ((1 - f1) * ·)).zip (· + ·) (c1.map ((f1 - f2) * ·))).zip (· + ·) ((c2.map ((f2 - f3) * ·)).zip (· + ·) ((e 1 1 1).map (f3 * ·)))
  if fg ≤ fr ∧ fb ≤ fg then mix fr fg fb (e 1 0 0) (e 1 1 0)
  else if fb ≤ fr ∧ fg ≤ fb then mix fr fb fg (e 1 0 0) (e 1 0 1)
  else if fr ≤ fb ∧ fg ≤ fr then mix fb fr fg (e 0 0 1) (e 1 0 1)
  else if fr ≤ fg ∧ fb ≤ fr then mix fg fr fb (e 0 1 0) (e 1 1 0)
  else if fb ≤ fg ∧ fr ≤ fb then mix fg fb fr (e 0 1 0) (e 0 1 1)
  else mix fb fg fr (e 0 0 1) (e 0 1 1)

/-! ## Chroma to and from 4:4:4 -/

/-- An index held to a span of `n` samples from `a`. -/
def heldTo (a n : Nat) (i : Int) : Nat := max a (min (a + n - 1) i.toNat)

/-- A picture's samples as its planes hold them: sampling (0 4:2:2, 1 4:4:4, 2 RGB, 3 4:2:0), depth in bits, size, and the code of
component q (0, 1, 2) at a position of its own plane. -/
structure Raster where
  sampling : Nat
  depth : Nat
  w : Nat
  h : Nat
  code : Nat → Nat → Nat → Nat

/-- A colour difference at sample x of a chroma line: interpolated with [1, 1]/2 between cosited samples; past the edge the last
sample stands. -/
def Raster.chromaAt (g : Raster) (q x yc : Nat) : Rat :=
  let n := ceilDiv g.w 2
  let v := fun (i : Nat) => (g.code q (heldTo 0 n i) yc : Rat)
  if x % 2 = 0 then v (x / 2) else (v (x / 2) + v (x / 2 + 1)) / 2

/-- Component q of pixel (x, y) at 4:4:4: 4:2:0 chroma is interpolated vertically with [3, 1]/4 and [1, 3]/4 then. -/
def Raster.at444 (g : Raster) (q x y : Nat) : Rat :=
  if q = 0 ∨ g.sampling = 1 ∨ g.sampling = 2 then (g.code q x y : Rat)
  else if g.sampling = 0 then g.chromaAt q x y
  else
    let n := ceilDiv g.h 2
    let near := g.chromaAt q x (y / 2)
    let far := g.chromaAt q x (heldTo 0 n (if y % 2 = 0 then (y / 2 : Nat) - 1 else (y / 2 : Nat) + 1))
    (3 * near + far) / 4

/-- A pixel's three components at 4:4:4, as codes. -/
def Raster.pixel (g : Raster) (x y : Nat) : Tri Rat := ⟨g.at444 0 x y, g.at444 1 x y, g.at444 2 x y⟩

/-- The R'G'B' of codes of a depth, range and colorimetry. -/
def codesToRgb (rgb : Bool) (depth : Nat) (full : Bool) (col : Nat) (x : Tri Rat) : Tri Rat :=
  if rgb then x.map (expand depth full true)
  else yccToRgb col ⟨expand depth full true x.a, expand depth full false x.b, expand depth full false x.c⟩

/-- A line of canvas colours as 10-bit narrow-range Y'CbCr at 4:4:4, the differences not rounded yet. -/
def yccLine (col : Nat) (l : List (Tri Nat)) : List (Tri Rat) := l.map (fun x => rgbToYcc col (x.map of16))

/-- One component of a line with its chroma subsampled horizontally: [1, 2, 1]/4 at the even positions; past the edge the last
sample stands (DESIGN CHOICE, log entry 120). -/
def halfLine (l : List Rat) : List Rat :=
  (List.range (ceilDiv l.length 2)).map (fun i =>
    let v := fun (k : Int) => l.getD (heldTo 0 l.length k) 0
    (v (2 * (i : Int) - 1) + 2 * v (2 * (i : Int)) + v (2 * (i : Int) + 1)) / 4)

/-- Two chroma lines averaged, [1, 1]/2. -/
def averageLines (l m : List Rat) : List Rat := (l.zip m).map (fun e => (e.1 + e.2) / 2)

/-- Pairs of lines averaged; an odd last one stands alone. -/
def halveLines : List (List Rat) → List (List Rat)
  | l :: m :: r => averageLines l m :: halveLines r
  | l => l

/-- Canvas lines as the three planes of an encoder's source (R168): CHROMA 0 4:2:0, 1 4:2:2, 2 4:4:4. -/
def encoderPlanes (chroma col : Nat) (lines : List (List (Tri Nat))) : List (List (List Nat)) :=
  let ycc := lines.map (yccLine col)
  let diff := fun (f : Tri Rat → Rat) =>
    let full := ycc.map (fun l => l.map f)
    let h := if chroma = 2 then full else full.map halfLine
    ((if chroma = 0 then halveLines h else h).map (fun l => l.map (narrow10 false)))
  [ycc.map (fun l => l.map (fun x => narrow10 true x.a)), diff (fun x => x.b), diff (fun x => x.c)]

end Sys2Proof.Machine
end

