-- ==== Sys2Proof/Machine/SafetyNet.lean ====
section
/-! DEFINITION. The Safety Net (chapter 07): packages and their checks, latching at each composition start, read-back, the
display-fault states, the protected areas. -/

namespace Sys2Proof.Machine

/-- A Safety Net object. -/
def State.saf (s : State) (k : Nat) : Saf := Table.getD s.safs k Saf.reset

/-- The number that big-endian bytes write. -/
def beNat (l : List Byte) : Nat := l.foldl (fun a b => a * 256 + b.toNat) 0

/-- The largest package, and a part of a Safety Net area (R192, R203). -/
def safPart : Nat := 33554432

/-- Show a slot's Safety Net in its registers. -/
def State.showSaf (s : State) (n : Nat) : State :=
  let x := s.saf n
  let seq := (x.cur.map (·.seq)).getD 0
  let til := (x.cur.map (·.until_)).getD 0
  s.setAll [(Reg.SAF_SLOT_STATE_STATE n, x.shownState), (Reg.SAF_SLOT_STATE_PENDING n, b2n x.pend.isSome),
    (Reg.SAF_SLOT_STATE_REQUIRE n, b2n x.policy.require), (Reg.SAF_SLOT_STATE_FAULT_ACTION n, x.policy.action),
    (Reg.SAF_SLOT_SEQ_LO n, seq), (Reg.SAF_SLOT_SEQ_HI n, seq / 2 ^ 32), (Reg.SAF_SLOT_UNTIL_SEC n, dtSec til),
    (Reg.SAF_SLOT_UNTIL_NS n, dtNs til)]

/-- Write a Safety Net object, shown when it is a slot's. -/
def State.setSaf (s : State) (k : Nat) (x : Saf) : State :=
  let s1 : State := { s with safs := Table.put s.safs k x }
  if k < 4 then s1.showSaf k else s1

/-- Show the digest of the enrolled key, SAF_KEY0 its first word (R194). -/
def State.setKey (s : State) (key : Nat) (bytes : List Byte) : State :=
  (List.range 8).foldl (fun t i => t.set (Reg.SAF_KEY i) (digestWord (Config.sha256 bytes) i)) { s with safKey := some key }

/-! ## Packages -/

/-- Fields of a package (R191). -/
def pkgKind (l : List Byte) : Nat := leAt l 2 1
def pkgSeq (l : List Byte) : Nat := leAt l 4 8
def pkgFrom (l : List Byte) : Int := dtOf (leAt l 12 6) (leAt l 18 4) 0
def pkgUntil (l : List Byte) : Int := dtOf (leAt l 22 6) (leAt l 28 4) 0
def pkgLen (l : List Byte) : Nat := leAt l 44 4

/-- The panels of a package. -/
def pkgPanels (l : List Byte) : List Panel :=
  (List.range (leAt l 36 1)).map (fun j =>
    let a := 64 + 16 * j
    { x := leAt l a 2, y := leAt l (a + 2) 2, w := leAt l (a + 4) 2, h := leAt l (a + 6) 2, offset := leAt l (a + 8) 4, crc := leAt l (a + 12) 4 })

/-- Whether slot k is configured: on a Catcher, in the held configuration (R430). -/
def State.safConfigured (s : State) (k : Nat) : Bool := s.slotState k != slotIdle || (s.mode == 5 && s.get (bank 5 (Reg.ENC_BS_RUN_STATE k)) != slotIdle)

/-- Check 1 of R196 for object k. -/
def State.pkgForm (s : State) (k : Nat) (l : List Byte) : Bool :=
  let kind := pkgKind l
  let ps := pkgPanels l
  let mask := leAt l 3 1
  let c := s.canvas k
  decide (128 ≤ l.length ∧ leAt l 0 2 = 1 ∧ kind ≤ 2 ∧ leAt l 48 16 = 0 ∧ 1 ≤ pkgSeq l ∧ pkgLen l = l.length ∧ l.length ≤ safPart
    ∧ leAt l 36 1 ≤ 16)
  && (kind != 0 || decide (leAt l 18 4 ≤ 999999999 ∧ leAt l 28 4 ≤ 999999999))
  && (kind != 1 || decide (leAt l 37 1 ≤ 2 ∧ leAt l 38 1 % 128 = 0 ∧ 1 ≤ leAt l 39 1 ∧ leAt l 40 4 < 2 ^ 30))
  && (if kind = 2 then k == 4 && mask == 0 && ps.isEmpty && decide (192 ≤ l.length)
      else decide (k < 4) && bit mask k && s.safConfigured k && leAt l 32 2 == c.1 && leAt l 34 2 == c.2)
  && ps.all (fun p => decide (p.offset % 64 = 0 ∧ 64 + 16 * ps.length ≤ p.offset ∧ p.offset + p.w * p.h * 4 + 64 ≤ l.length
      ∧ p.x + p.w ≤ c.1 ∧ p.y + p.h ≤ c.2))

/-- The first failure of R196, 0 when a package is accepted. -/
def State.pkgCode (s : State) (k : Nat) (l : List Byte) : Code :=
  let servo := s.servo s.activeDom
  let fr := pkgFrom l
  let un := pkgUntil l
  if !(s.pkgForm k l) then 0x1701
  else match s.safKey with
    | none => 0x8704
    | some key =>
      if !(Config.verifies key (l.take (l.length - 64)) (l.drop (l.length - 64))) then 0x8701
      else if pkgSeq l ≤ (s.saf k).lastSeq then 0x8702
      else if pkgKind l = 0 ∧ !(s.domEnabled s.activeDom && (servo == servoLocked || servo == servoHoldover)
          && decide (s.activeDt < un ∧ fr < un ∧ un - fr ≤ 30 * 86400 * (secUnits : Int))) then 0x8703
      else if (pkgPanels l).any (fun p => crc32c ((l.drop p.offset).take (p.w * p.h * 4)) != p.crc) then 0x8701
      else if k < 4 ∧ s.get (Reg.SAF_SLOT_AREA_BASE k) = 0 then 0x1702
      else 0

/-- The device address of a part of a slot's area: 0 and 1 hold content, 2 the policy (R203). -/
def State.safAddr (s : State) (n part : Nat) : Nat := s.get (Reg.SAF_SLOT_AREA_BASE n) * 4096 + part * safPart

/-- Hold an accepted package (R194, R196, R197). -/
def State.pkgHold (s : State) (k : Nat) (l : List Byte) : State :=
  let x := s.saf k
  let kind := pkgKind l
  if kind = 2 then (s.setSaf k { x with lastSeq := pkgSeq l }).setKey (beNat ((l.drop 64).take 64)) ((l.drop 64).take 64)
  else if kind = 1 then
    let pol : SafPolicy := { action := leAt l 37 1, require := bit (leAt l 38 1) 7, limit := leAt l 39 1, colour := leAt l 40 4,
                             panels := pkgPanels l, cardBad := false, held := true }
    (s.store (s.safAddr k 2) l).setSaf k { x with lastSeq := pkgSeq l, policy := pol }
  else
    let part := match x.cur with
      | some c => 1 - c.part
      | none => 0
    let q : SafPkg := { seq := pkgSeq l, from_ := pkgFrom l, until_ := pkgUntil l, panels := pkgPanels l, part := part, accepted := s.lc }
    (s.store (s.safAddr k part) l).setSaf k { x with lastSeq := pkgSeq l, pend := some q }

/-- SAF_LOAD's checks. -/
def safLoadSpec : OpSpec :=
  { opcode := 0x0180, object := fun t i => t == 4 && decide (i < 5), form := fun d => d.zeroFrom 44,
    aligned := fun d => d.p 32 8 % 64 == 0, reads := true }

/-- Place a package among those that wait: after every one started in an earlier cycle, and of those of its own cycle after the ones
of rings with a lower ID (R196). -/
def queueCheck (q : SafCheck) (l : List SafCheck) : List SafCheck :=
  let first := l.filter (fun x => decide (x.start ≠ q.start ∨ x.ticket.rid ≤ q.ticket.rid))
  let after := l.filter (fun x => decide (x.start = q.start ∧ q.ticket.rid < x.ticket.rid))
  first ++ q :: after

/-- The action of SAF_LOAD: the copy waits for its checking (R196). -/
def actSafLoad (d : Desc) (t : Ticket) (s : State) : State :=
  let k := d.objIndex.toNat
  s.setSaf k { s.saf k with checking := queueCheck ⟨t, s.lc, d.p 40 4, d.bytes⟩ (s.saf k).checking }

def execSafLoad (d : Desc) (s : State) : Host.Outcome State Fault Refusal := .next (s.runDesc safLoadSpec d actSafLoad)

/-- SAF_PACKAGE_CHECKED (R196): the oldest package of the object is accepted and held, or refused. -/
def State.safChecked (s : State) (k : Nat) : State :=
  match (s.saf k).checking with
  | [] => s
  | ⟨t, _, len, l⟩ :: rest =>
    let s1 := s.setSaf k { s.saf k with checking := rest }
    let c := if len = l.length then s1.pkgCode k l else 0x1701
    if c = 0 then
      let h := Config.sha256 l
      let s1 := if k < 4 then s1.set (Reg.SAF_SLOT_STATE_LAST_STATUS k) 0 else s1
      ((((s1.pkgHold k l).mirror3 (.safPkg k l false)).offer ((s1.pkgHold k l).ledgerEntry 3 t.fn 1 true 0 (objSafety k) (digestWord h 0) (digestWord h 1)))).complete t 0
        (pkgSeq l % 2 ^ 32)
    else
      let s2 := if k < 4 then (s1.bump (Reg.SAF_SLOT_REFUSED_CNT k)).set (Reg.SAF_SLOT_STATE_LAST_STATUS k) c else s1
      (s2.logHash t.fn (objSafety k) c l).complete t c 0

def execSafPackageChecked (k : Fin 5) (s : State) : Host.Outcome State Fault Refusal := .next (s.safChecked k)

/-- SAF_ENROLL's checks. -/
def safEnrollSpec : OpSpec :=
  { opcode := 0x0181, object := fun t i => t == 4 && i == 4, form := fun d => d.zeroFrom 40, aligned := fun d => d.p 32 8 % 8 == 0, reads := true }

/-- The action of SAF_ENROLL (R193). -/
def actSafEnroll (d : Desc) (t : Ticket) (s : State) : State :=
  if t.fn = 0 ∧ s.mode = 0 ∧ s.safKey = none then
    ((s.setKey (beNat (d.bytes.take 64)) (d.bytes.take 64)).logHash t.fn d.obj 0 (d.bytes.take 64)).complete t 0 0
  else (s.logHash t.fn d.obj 0x8704 (d.bytes.take 64)).complete t 0x8704 0

def execSafEnroll (d : Desc) (s : State) : Host.Outcome State Fault Refusal := .next (s.runDesc safEnrollSpec d actSafEnroll)

/-! ## Latching -/

/-- Drive SAF_FAULT_N while any slot is in FAULT (R202). -/
def State.safPin (s : State) : State :=
  let low := fourSlots.any (fun n => (s.saf n).shownState == 2)
  if low = s.safFaultPin then s else ({ s with safFaultPin := low } : State).emit (.pin .safFaultN (!low))

/-- Latch a slot's Safety Net for a picture presented at p (R197, R198, R202). -/
def State.safLatch (s : State) (n : Nat) (p : Rat) : State :=
  let x := s.saf n
  let take := match x.pend with
    | some q => decide (q.accepted < s.lc ∧ (q.from_ : Rat) ≤ p)
    | none => false
  let cur := if take then x.pend else x.cur
  let bad := x.bad && !take
  let inForce := match cur with
    | some c => decide ((c.from_ : Rat) ≤ p ∧ p < (c.until_ : Rat))
    | none => false
  let (st, why) := if bad then (2, 2) else if inForce then (1, 0) else if cur.isSome then (2, 1) else if x.policy.require then (2, 3) else (0, 0)
  let card := st == 2 && x.policy.action == 1 && !x.policy.cardBad
  let blank := st == 2 && x.policy.action != 2 && !card
  let s1 := s.setSaf n { x with
    cur := cur, pend := if take then none else x.pend, bad := bad, shownSeq := if inForce then (cur.map (·.seq)).getD 0 else 0, shownState := st,
    shownBlank := if blank then x.policy.colour + 1 else 0,
    shownPanels := if st = 1 then (cur.map (·.panels)).getD [] else if card then x.policy.panels else [] }
  let s2 := if st = 2 ∧ x.shownState ≠ 2 then s1.raise 0x8710 (objSafety n) { w16 := why }
    else if st ≠ 2 ∧ x.shownState = 2 then s1.raise 0x0702 (objSafety n) {} else s1
  s2.safPin

/-- The panels a slot's compositor fetches for the picture, as latched for all of its rows (R197), with the part that holds them
(R199, R201). -/
def State.safPanels (s : State) (n : Nat) : Nat × List Panel :=
  let x := s.saf n
  (if x.shownState = 1 then (x.cur.map (·.part)).getD 0 else 2, x.shownPanels)

/-- Read-back (R200, R201): the CRC of each panel fetched for the picture; each that fails is counted and raised. -/
def State.safReadBack (s : State) (n : Nat) : State :=
  let (part, ps) := s.safPanels n
  let wrong := ps.filter (fun p => crc32c (Memory.readAll s.mem (s.safAddr n part + p.offset) (p.w * p.h * 4)) != p.crc)
  if wrong.isEmpty then s
  else
    let x := s.saf n
    wrong.foldl (fun (t : State) _ => (t.bump (Reg.SAF_SLOT_READBACK_ERR_CNT n)).raise 0x8711 (objSafety n) {})
      (s.setSaf n (if part = 2 then { x with policy := { x.policy with cardBad := true } } else { x with bad := true }))

/-- Whether a slot composes FAULT_COLOUR over the whole canvas (R201), and that colour. -/
def State.safBlank (s : State) (n : Nat) : Bool := (s.saf n).shownBlank != 0
def State.safColour (s : State) (n : Nat) : Nat := (s.saf n).shownBlank - 1

/-- Whether two pictures' Safety Nets are the same (R199, R299). -/
def Saf.sameShown (a b : Saf) : Bool :=
  a.shownSeq == b.shownSeq && a.shownState == b.shownState && a.shownBlank == b.shownBlank && a.shownPanels == b.shownPanels

/-- One component of a panel pixel over another, premultiplied (R170, R199), in 8 bits rounded to nearest, ties up. -/
def overByte (a p d : Nat) : Nat := min 255 (p + ((255 - a) * d * 2 + 255) / 510)

/-- A panel pixel over another: A, R', G', B'. -/
def overPixel (p d : List Byte) : List Byte :=
  (p.zip d).map (fun e => BitVec.ofNat 8 (overByte (p.getD 0 0#8).toNat e.1.toNat e.2.toNat))

/-- The Safety Net's output at a pixel, against a transparent background (R192, R199, R205). -/
def State.safPixel (s : State) (n x y : Nat) : List Byte :=
  let (part, ps) := s.safPanels n
  (ps.filter (fun p => decide (p.x ≤ x ∧ x < p.x + p.w ∧ p.y ≤ y ∧ y < p.y + p.h))).foldl (fun d p =>
    overPixel (Memory.readAll s.mem (s.safAddr n part + p.offset + 4 * ((y - p.y) * p.w + (x - p.x))) 4) d) [0#8, 0#8, 0#8, 0#8]

/-- The CRC-32C of a line of the Safety Net's output (R205). The 8-bit pixel of FAULT_COLOUR is a free value of the colour. -/
def State.safLineCrc (s : State) (n y : Nat) : Nat :=
  crc32c ((List.range (s.canvas n).1).flatMap (fun x =>
    if s.safBlank n then leBytes 4 (Config.blankPixel (s.safColour n)) else s.safPixel n x y))

/-- The Safety Net record of a CTU row of a slot (R205). -/
def State.mirrorSafRow (s : State) (n pic k : Nat) : State :=
  if s.flying then
    let lines := min 128 ((s.canvas n).2 - 128 * k)
    s.mirror3 (.safLine n pic (s.saf n).shownState (128 * k) ((s.saf n).shownSeq % 2 ^ 32)
      ((List.range lines).map (fun i => s.safLineCrc n (128 * k + i))))
  else s

/-! ## Areas -/

/-- SAF_AREA_WRITE (R203). -/
def State.safAreaWrite (s : State) (w : Writer) (n v : Nat) : State :=
  let x := s.saf n
  let old := s.get (Reg.SAF_SLOT_AREA_BASE n)
  let held := x.cur.isSome || x.pend.isSome || x.policy.held
  if (s.slotState n = slotIdle ∨ s.slotState n = slotStopped) ∧ !held ∧ (v == 0 || s.areaOk (fun t => t == tagSaf n) ⟨tagSaf n, v * 4096, safAreaBytes⟩) then
    (s.setAll [(Reg.SAF_SLOT_AREA_BASE n, v), (Reg.SAF_SLOT_STATE_LAST_STATUS n, 0)]).logReg w (Reg.SAF_SLOT_AREA_BASE n).off 0 old v
  else (s.set (Reg.SAF_SLOT_STATE_LAST_STATUS n) 0x1702).logReg w (Reg.SAF_SLOT_AREA_BASE n).off 0x1702 old v

def execSafAreaWrite (w : Writer) (n : Fin 4) (v : BitVec 27) (s : State) : Host.Outcome State Fault Refusal :=
  .next (s.byWriter w (Reg.SAF_SLOT_AREA_BASE n).off (fun s => s.safAreaWrite w n v.toNat))

/-- PROTECTED_WRITE_DROP (R204), with the origin of the write. -/
def execProtectedWriteDrop (o : Fin 16) (addr : BitVec 39) (s : State) : Host.Outcome State Fault Refusal :=
  .next (match s.safAreaMeets addr.toNat 1 with
    | some n => s.dropProtected o n
    | none => s)

end Sys2Proof.Machine
end

