-- ==== Sys2Proof/Machine/Compositor.lean ====
section
/-! DEFINITION. The compositors (chapter 06): layer geometry, the commit of a configuration, the choice of source pictures at
each composition start, judging of source lines, the Bench, motion hints, surfaces and tables. -/

namespace Sys2Proof.Machine

/-! ## State and fields -/

/-- The compositor configuration of a slot beyond its registers. -/
def State.cmp (s : State) (n : Nat) : Cmp := Table.getD s.cmps n Cmp.reset
def State.setCmp (s : State) (n : Nat) (x : Cmp) : State := { s with cmps := Table.put s.cmps n x }
def State.updCmp (s : State) (n : Nat) (f : Cmp → Cmp) : State := s.setCmp n (f (s.cmp n))

/-- A layer beyond its registers. -/
def State.layer (s : State) (n l : Nat) : Layer := Table.getD (s.cmp n).layers l Layer.reset
def State.setLayer (s : State) (n l : Nat) (x : Layer) : State :=
  s.updCmp n (fun c => { c with layers := Table.put c.layers l x })

/-- The sixteen layers; 0 to 7 are video (R164). -/
def layers16 : List Nat := List.range 16
def isVideoLayer (l : Nat) : Bool := decide (l < 8)

/-- The shadowed fields of a layer (R189). -/
def layerFields (n l : Nat) : List Field :=
  [Reg.CMP_L_ENABLE n l, Reg.CMP_L_Z n l, Reg.CMP_L_PREMULT n l, Reg.CMP_L_LAYER_ALPHA n l, Reg.CMP_L_TM_MODE n l, Reg.CMP_L_LUT n l,
   Reg.CMP_L_COEF_H n l, Reg.CMP_L_COEF_V n l, Reg.CMP_L_SRC_KIND_OR_FORMAT n l, Reg.CMP_L_GFX_TCS n l, Reg.CMP_L_INDEX_OR_PITCH n l,
   Reg.CMP_L_CROP_X n l, Reg.CMP_L_CROP_Y n l, Reg.CMP_L_CROP_W n l, Reg.CMP_L_CROP_H n l, Reg.CMP_L_DST_X n l, Reg.CMP_L_DST_Y n l,
   Reg.CMP_L_DST_W n l, Reg.CMP_L_DST_H n l, Reg.CMP_L_SRC_PEAK n l, Reg.CMP_L_KNEE n l, Reg.CMP_L_SCROLL_X n l, Reg.CMP_L_SCROLL_Y n l,
   Reg.CMP_L_SURF_A_BASE n l, Reg.CMP_L_SURF_B_BASE n l, Reg.CMP_L_SURF_W n l, Reg.CMP_L_SURF_H n l]

/-- The shadowed fields of a slot and its layers (R189). -/
def cmpFields (n : Nat) : List Field :=
  [Reg.CMP_SLOT_CANVAS_TCS n, Reg.CMP_SLOT_CANVAS_COLORIMETRY n, Reg.CMP_SLOT_CANVAS_CANVAS_PEAK n, Reg.CMP_SLOT_BG_R n,
   Reg.CMP_SLOT_BG_G n, Reg.CMP_SLOT_BG_B n, Reg.CMP_SLOT_LEVELS_SDR_WHITE n, Reg.CMP_SLOT_LEVELS_HLG_LW n, Reg.CMP_SLOT_BENCH_EN n,
   Reg.CMP_SLOT_BENCH_FRAMES n, Reg.CMP_SLOT_BENCH_BASE n, Reg.CMP_SLOT_TABLE_BASE n] ++ layers16.flatMap (layerFields n)

/-! ## Geometry (R169, R177) -/

/-- The geometry of a layer: crop origin and size, destination origin (signed) and size, source size, steps in 2^-16. -/
structure Geo where
  cx : Nat
  cy : Nat
  cw : Nat
  ch : Nat
  dx : Int
  dy : Int
  dw : Nat
  dh : Nat
  sw : Nat
  sh : Nat
  hstep : Nat
  vstep : Nat

/-- A step of R177, rounded to nearest. -/
def stepOf (c d : Nat) : Nat := (2 * c * 65536 + d) / (2 * d)

/-- The source size of a video layer: its receiver's, or its decode slot's picture. -/
def State.sourceSize (s : State) (kind idx : Nat) : Nat × Nat :=
  if kind = 0 then (s.get (Reg.ING_RX_SIZE_WIDTH idx), s.get (Reg.ING_RX_SIZE_HEIGHT idx))
  else (s.cfg Reg.DEC_BS_WIDTH idx, s.cfg Reg.DEC_BS_HEIGHT idx)

/-- The geometry of a layer in bank b; graphics are not scaled. -/
def State.geo (s : State) (b n l : Nat) : Geo :=
  let g := fun (f : Nat → Nat → Field) => s.get (bank b (f n l))
  let cw := g Reg.CMP_L_CROP_W
  let ch := g Reg.CMP_L_CROP_H
  let v := isVideoLayer l
  let dw := if v then g Reg.CMP_L_DST_W else cw
  let dh := if v then g Reg.CMP_L_DST_H else ch
  let src := if v then s.sourceSize (g Reg.CMP_L_SRC_KIND_OR_FORMAT) (g Reg.CMP_L_INDEX_OR_PITCH) else (g Reg.CMP_L_SURF_W, g Reg.CMP_L_SURF_H)
  { cx := g Reg.CMP_L_CROP_X, cy := g Reg.CMP_L_CROP_Y, cw := cw, ch := ch, dx := signed 16 (g Reg.CMP_L_DST_X),
    dy := signed 16 (g Reg.CMP_L_DST_Y), dw := dw, dh := dh, sw := src.1, sh := src.2,
    hstep := if v then stepOf cw dw else 65536, vstep := if v then stepOf ch dh else 65536 }

/-- The visible span of a destination on a canvas side: first and length (R169). -/
def visible (d : Int) (len canvas : Nat) : Nat × Nat :=
  let a := max d 0
  let e := min (d + len) canvas
  if e ≤ a then (0, 0) else (a.toNat, (e - a).toNat)

/-- The source position of canvas line y (R177). -/
def Geo.sy (g : Geo) (y : Nat) : Rat := (g.cy : Rat) + (((y : Int) - g.dy : Int) + 1 / 2 : Rat) * (g.vstep : Rat) / 65536 - 1 / 2

/-- The first and the deepest source line that canvas line y reads (R177). -/
def Geo.sMax (g : Geo) (y : Nat) : Int :=
  if g.vstep = 65536 then (g.sy y).floor else min ((g.sy y).floor + 3) (g.cy + g.ch - 1 : Nat)
def Geo.sMin (g : Geo) (y : Nat) : Int := if g.vstep = 65536 then (g.sy y).floor else max ((g.sy y).floor - 2) g.cy

/-- The source position of canvas column x (R177). -/
def Geo.sx (g : Geo) (x : Nat) : Rat := (g.cx : Rat) + (((x : Int) - g.dx : Int) + 1 / 2 : Rat) * (g.hstep : Rat) / 65536 - 1 / 2

/-- The phase of a source position (R177). -/
def phaseOf (q : Rat) : Nat := ((q - (q.floor : Rat)) * 64).floor.toNat

/-- The visible part of a destination on the canvas is empty (R169). -/
def Geo.hidden (g : Geo) (canvas : Nat × Nat) : Bool :=
  (visible g.dx g.dw canvas.1).2 == 0 || (visible g.dy g.dh canvas.2).2 == 0

/-- The frame period of a video layer's source, in 2^-16 ns. -/
def State.sourcePf (s : State) (kind idx : Nat) : Rat :=
  framePeriodU (if kind = 0 then s.get (Reg.ING_RX_FMT_RATE idx) else s.cfg Reg.DEC_BS_RATE idx)

/-- Whether a video layer of bank b is lagged (R172): H_src is the height of the source, which for a video layer is its crop. -/
def State.lagged (s : State) (b n l : Nat) : Bool :=
  let g := s.geo b n l
  let hc := (s.canvas n).2
  let v := if g.hidden (s.canvas n) then (0, 0) else visible g.dy g.dh hc
  let kind := s.get (bank b (Reg.CMP_L_SRC_KIND_OR_FORMAT n l))
  let idx := s.get (bank b (Reg.CMP_L_INDEX_OR_PITCH n l))
  isVideoLayer l && s.get (bank b (Reg.CMP_L_ENABLE n l)) == 1 &&
  (decide (s.encPf 1 n < s.sourcePf kind idx) ||
    (List.range v.2).any (fun i => decide (((128 * ctus hc : Nat) : Int) * (g.sMax (v.1 + i) + 1) > ((v.1 + i + 128) * g.ch : Nat))))

/-- The layers lagged, as a mask. -/
def State.lagMask (s : State) (b n : Nat) : Nat := maskOf ((List.range 8).filter (fun l => s.lagged b n l))

/-! ## Committing (R189, R190) -/

/-- The enabled layers of bank b. -/
def State.enabledLayers (s : State) (b n : Nat) : List Nat := layers16.filter (fun l => s.get (bank b (Reg.CMP_L_ENABLE n l)) == 1)

/-- Check 1 for an enabled layer. -/
def State.layerFieldsOk (s : State) (n l : Nat) : Bool :=
  let g := fun (f : Nat → Nat → Field) => s.get (f n l)
  let q := s.geo 0 n l
  let kind := g Reg.CMP_L_SRC_KIND_OR_FORMAT
  let idx := g Reg.CMP_L_INDEX_OR_PITCH
  decide (1 ≤ q.cw ∧ q.cw ≤ 8192 ∧ 1 ≤ q.ch ∧ q.ch ≤ 4320 ∧ 1 ≤ q.dw ∧ 1 ≤ q.dh ∧ q.cx + q.cw ≤ q.sw ∧ q.cy + q.ch ≤ q.sh
    ∧ 100 ≤ g Reg.CMP_L_SRC_PEAK ∧ g Reg.CMP_L_SRC_PEAK ≤ 10000)
  && (if isVideoLayer l then
        decide (kind ≤ 1 ∧ idx < (if kind = 0 then 32 else 4) ∧ 4096 ≤ q.hstep ∧ q.hstep ≤ 524288 ∧ 4096 ≤ q.vstep ∧ q.vstep ≤ 524288)
      else decide (kind ≤ 2 ∧ g Reg.CMP_L_GFX_TCS ≤ 2 ∧ 1 ≤ idx ∧ idx ≤ 1024 ∧ g Reg.CMP_L_TM_MODE = 0
        ∧ 1 ≤ q.sw ∧ q.sw ≤ 8192 ∧ 1 ≤ q.sh ∧ q.sh ≤ 8192))

/-- Check 4 for a video layer (R179). -/
def State.lineBufferOk (s : State) (n l : Nat) : Bool :=
  let g := s.geo 0 n l
  let w := roundUp (visible g.dx g.dw (s.canvas n).1).2 64
  g.hidden (s.canvas n) || decide (6 + 2 * ceilDiv g.vstep 65536 ≤ 131072 / w)

/-- The visible source area of a layer (check 7). -/
def State.fetchArea (s : State) (n l : Nat) : Rat :=
  let g := s.geo 0 n l
  let c := s.canvas n
  ((visible g.dx g.dw c.1).2 * (visible g.dy g.dh c.2).2 : Nat) * (g.hstep : Rat) / 65536 * g.vstep / 65536

/-- The frame rate of a slot. -/
def State.slotRate (s : State) (n : Nat) : Rat :=
  frameRate (if s.slotKind n = 0 then s.cfg Reg.ENC_BS_FORMAT_RATE n else s.cfg Reg.DEC_BS_RATE n)

/-- A coefficient of a 64-phase set (R178): the low 12 bits of its 16-bit container, two's complement (log entry 121). Set k of the
table numbers: 4 to 7 horizontal of 8 taps, 8 to 11 vertical of 6. The sums of the reset filter's phases are right, so its last tap
follows from the others. -/
def State.coef (s : State) (n k ph tap : Nat) : Int :=
  let taps := if k < 8 then 8 else 6
  match Table.find (s.cmp n).tables k with
  | some l => signed 12 (leAt l (2 * (ph * taps + tap)) 2)
  | none =>
    if tap + 1 = taps then 1024 - ((List.range (taps - 1)).map (fun t => Config.lanczos taps ph t)).foldl (· + ·) 0
    else Config.lanczos taps ph tap

/-- Whether every phase of a coefficient set sums to 1,024 (R178). -/
def State.coefSumsOk (s : State) (n k : Nat) : Bool :=
  (Table.find (s.cmp n).tables k).isNone ||
    (List.range 64).all (fun ph => ((List.range (if k < 8 then 8 else 6)).map (fun t => s.coef n k ph t)).foldl (· + ·) 0 == 1024)

/-- No two of a list meet. -/
def disjointAll : List Area → Bool
  | [] => true
  | a :: l => l.all (fun b => !(a.meets b)) && disjointAll l

/-- The status of a compositor commit (R190): 0, 0x0601 or the first failure. -/
def State.cmpCode (s : State) (n : Nat) : Code :=
  let g := fun (f : Nat → Field) => s.get (f n)
  let en := s.enabledLayers 0 n
  let vid := en.filter isVideoLayer
  let areas := s.cmpAreas 0 n
  if !(decide (g Reg.CMP_SLOT_CANVAS_TCS ≤ 2 ∧ g Reg.CMP_SLOT_CANVAS_COLORIMETRY ≤ 1 ∧ 100 ≤ g Reg.CMP_SLOT_CANVAS_CANVAS_PEAK
      ∧ g Reg.CMP_SLOT_CANVAS_CANVAS_PEAK ≤ 10000 ∧ 100 ≤ g Reg.CMP_SLOT_LEVELS_SDR_WHITE ∧ g Reg.CMP_SLOT_LEVELS_SDR_WHITE ≤ 1000
      ∧ 400 ≤ g Reg.CMP_SLOT_LEVELS_HLG_LW ∧ g Reg.CMP_SLOT_LEVELS_HLG_LW ≤ 4000 ∧ 1 ≤ g Reg.CMP_SLOT_BENCH_FRAMES)
      && en.all (fun l => s.layerFieldsOk n l)) then 0x1602
  else if !(decide (en.map (fun l => s.get (Reg.CMP_L_Z n l))).Nodup) then 0x1603
  else if (s.slotKind n = 1 ∧ en ≠ []) ∨ vid.any (fun l => s.get (Reg.CMP_L_SRC_KIND_OR_FORMAT n l) == 1
      && (s.mode != 3 || s.slotKind (s.get (Reg.CMP_L_INDEX_OR_PITCH n l)) != 1)) then 0x1608
  else if !(vid.all (fun l => s.lineBufferOk n l)) then 0x1601
  else if vid.any (fun l => s.get (Reg.CMP_L_TM_MODE n l) == 1 && !(bit (s.cmp n).luts (s.get (Reg.CMP_L_LUT n l)))) then 0x1604
  else if vid.any (fun l => !(s.coefSumsOk n (4 + s.get (Reg.CMP_L_COEF_H n l))) || !(s.coefSumsOk n (8 + s.get (Reg.CMP_L_COEF_V n l)))) then 0x1606
  else if 20 * gpx < (en.map (fun l => s.fetchArea n l)).foldl (· + ·) 0 * s.slotRate n then 0x1605
  else if !(areas.all (fun a => s.areaOk (fun t => t / 0x100 == 0x10 + n) a)) ∨ !(disjointAll areas) then 0x1607
  else if s.lagMask 0 n ≠ 0 then 0x0601 else 0

/-- Bring a bank into force: fields, LAG, BENCH_STATE; a layer whose fields change is not static, one newly enabled or with a
new source has shown nothing (R173, R184). -/
def State.cmpApply (s : State) (b n : Nat) : State :=
  let s1 := layers16.foldl (fun (t : State) l =>
    let changed := (layerFields n l).any (fun f => s.get (bank b f) != s.get (bank 1 f))
    let fresh := (s.get (bank b (Reg.CMP_L_ENABLE n l)) == 1 && s.get (bank 1 (Reg.CMP_L_ENABLE n l)) == 0)
      || (isVideoLayer l && (s.get (bank b (Reg.CMP_L_SRC_KIND_OR_FORMAT n l)) != s.get (bank 1 (Reg.CMP_L_SRC_KIND_OR_FORMAT n l))
        || s.get (bank b (Reg.CMP_L_INDEX_OR_PITCH n l)) != s.get (bank 1 (Reg.CMP_L_INDEX_OR_PITCH n l))))
    let x := t.layer n l
    let gone := s.get (bank b (Reg.CMP_L_ENABLE n l)) == 0
    let x0 := if changed then { x with still := 0, touched := true } else x
    let x1 := if gone then { x0 with cur := none, prev := none, holding := false, showed := false } else x0
    if fresh then
      (t.setLayer n l { x1 with cur := none, prev := none, holding := false, showed := false, geo := [] }).set (Reg.CMP_L_FILLED n l)
        (if isVideoLayer l then 0 else b2n x.swapped)
    else if changed then t.setLayer n l x1 else t) s
  let s2 := s1.copyBank b 1 (cmpFields n)
  let s3 := s2.set (Reg.CMP_SLOT_STATUS_LAG n) (s2.lagMask 1 n)
  if s3.get (bank 1 (Reg.CMP_SLOT_BENCH_EN n)) = 0 then
    (s3.updCmp n (fun c => { c with bench := none })).set (Reg.CMP_SLOT_STATUS_BENCH_STATE n) 0
  else if s3.get (Reg.CMP_SLOT_STATUS_BENCH_STATE n) = 0 then s3.set (Reg.CMP_SLOT_STATUS_BENCH_STATE n) 1 else s3

/-- Commit the shadow (R189): at once, or at the next c_0 for a RUNNING or STARTING slot, where the ticket completes too. -/
def State.cmpCommit (s : State) (n : Nat) (t : Option Ticket) : State × Code :=
  let c := s.cmpCode n
  let s1 := s.set (Reg.CMP_SLOT_COMMIT_LAST_STATUS n) c
  if refuses c then (match t with | some t => s1.complete t c 0 | none => s1, c)
  else if s.slotState n = slotRunning ∨ s.slotState n = slotStarting then
    ((s1.copyBank 0 2 (cmpFields n)).updCmp n (fun x => { x with pendAt := some s.lc, tickets := x.tickets ++ t.toList }), c)
  else
    let s2 := s1.cmpApply 0 n
    (match t with | some t => s2.complete t c ((s2.slot n).next % 2 ^ 32) | none => s2, c)

def execCmpSlotCommit (w : Writer) (n : Fin 4) (s : State) : Host.Outcome State Fault Refusal :=
  .next (s.byWriter w (Reg.CMP_SLOT_COMMIT_COMMIT n).off (fun s =>
    let r := s.cmpCommit n none
    r.1.logReg w (Reg.CMP_SLOT_COMMIT_COMMIT n).off r.2 0 (2 ^ 31)))

/-- CMP_COMMIT as an opcode. -/
def cmpCommitSpec : OpSpec := { opcode := 0x0100, object := fun t i => t == 2 && decide (i < 4) }

def actCmpCommit (d : Desc) (t : Ticket) (s : State) : State :=
  let r := s.cmpCommit d.objIndex.toNat (some t)
  let s1 := r.1.logDesc t.fn d.obj r.2 0 0
  if r.2 < 0x1000 then s1.mirrorCfg (Reg.CMP_SLOT_COMMIT_COMMIT d.objIndex.toNat).off (2 ^ 31) else s1

def execCmpCommit (d : Desc) (s : State) : Host.Outcome State Fault Refusal := .next (s.runDesc cmpCommitSpec d actCmpCommit)

/-- A pending commit takes effect at c_0 of picture N, unless it was accepted in this tick (R189). -/
def State.cmpTake (s : State) (n pic : Nat) : State :=
  match (s.cmp n).pendAt with
  | none => s
  | some t =>
    if t < s.lc then
      let tickets := (s.cmp n).tickets
      let c := s.get (Reg.CMP_SLOT_COMMIT_LAST_STATUS n)
      tickets.foldl (fun t k => t.complete k (if refuses c then 0 else c) (pic % 2 ^ 32))
        ((s.cmpApply 2 n).updCmp n (fun x => { x with pendAt := none, tickets := [] }))
    else s

/-! ## Surfaces and tables -/

/-- SURFACE_LOAD's checks: length at most PITCH × 64 B × SURF_H of the configuration in force (check 3). -/
def surfaceSpec : OpSpec :=
  { opcode := 0x0101, object := fun t i => t == 3 && decide (i < 64 ∧ 8 ≤ i % 16), form := fun d => d.zeroFrom 44,
    aligned := fun d => d.p 32 8 % 64 == 0, reads := true }

/-- The surface of a graphics layer that is in front, and the other: FRONT 0 names A, 1 names B (R176). -/
def State.frontBase (s : State) (n l : Nat) : Nat :=
  4096 * s.get (bank 1 (if s.on (Reg.CMP_L_FRONT n l) then Reg.CMP_L_SURF_B_BASE n l else Reg.CMP_L_SURF_A_BASE n l))
def State.backBase (s : State) (n l : Nat) : Nat :=
  4096 * s.get (bank 1 (if s.on (Reg.CMP_L_FRONT n l) then Reg.CMP_L_SURF_A_BASE n l else Reg.CMP_L_SURF_B_BASE n l))

/-- The action of SURFACE_LOAD: refused while an earlier load has not swapped, or when longer than the surface; else the copy
runs (R176). -/
def actSurfaceLoad (d : Desc) (t : Ticket) (s : State) : State :=
  let n := d.objIndex.toNat / 16
  let l := d.objIndex.toNat % 16
  let x := s.layer n l
  let most := s.get (bank 1 (Reg.CMP_L_INDEX_OR_PITCH n l)) * 64 * s.get (bank 1 (Reg.CMP_L_SURF_H n l))
  if most < d.p 40 4 then s.failDesc t d.obj 0x3402
  else if x.load.isSome then (s.logHash t.fn d.obj 0x2601 d.bytes).complete t 0x2601 0
  else ((((s.deviceStore (s.backBase n l) (d.bytes.take (d.p 40 4))).setLayer n l { x with load := some (t, none) }).set
    (Reg.CMP_L_LOAD_PENDING n l) 1).mirrorSurf (s.backBase n l) (d.bytes.take (d.p 40 4))).logHash t.fn d.obj 0 d.bytes

def execSurfaceLoad (d : Desc) (s : State) : Host.Outcome State Fault Refusal := .next (s.runDesc surfaceSpec d actSurfaceLoad)

/-- SURFACE_COPY_DONE (R176). -/
def execSurfaceCopyDone (n : Fin 4) (l : Fin 16) (s : State) : Host.Outcome State Fault Refusal :=
  .next (match (s.layer n l).load with
    | some (t, none) => s.setLayer n l { s.layer n l with load := some (t, some s.lc) }
    | _ => s)


/-- TABLE_LOAD's checks. -/
def tableSpec : OpSpec :=
  { opcode := 0x0102, object := fun t i => t == 2 && decide (i < 4), form := fun d => d.zeroFrom 41 && decide (d.p 40 1 ≤ 11), reads := true }

/-- Whether a table is selected by an enabled layer of the configuration in force. -/
def State.tableUsed (s : State) (n k : Nat) : Bool :=
  (s.enabledLayers 1 n).any (fun l => isVideoLayer l &&
    (if k < 4 then s.get (bank 1 (Reg.CMP_L_TM_MODE n l)) == 1 && s.get (bank 1 (Reg.CMP_L_LUT n l)) == k
     else if k < 8 then s.get (bank 1 (Reg.CMP_L_COEF_H n l)) == k - 4 else s.get (bank 1 (Reg.CMP_L_COEF_V n l)) == k - 8))

/-- The action of TABLE_LOAD (R178, R183). -/
def actTableLoad (d : Desc) (t : Ticket) (s : State) : State :=
  let n := d.objIndex.toNat
  let k := d.p 40 1
  let (off, len) := tablePlace k
  let l := d.bytes.take len
  if s.tableUsed n k then (s.logHash t.fn d.obj 0x2603 l).complete t 0x2603 0
  else
    let base := s.get (bank 1 (Reg.CMP_SLOT_TABLE_BASE n)) * 4096
    let s1 := if base = 0 then s else (s.deviceStore (base + off) l).mirrorSurf (base + off) l
    let s2 := s1.updCmp n (fun c => { c with luts := if k < 4 then setBit c.luts k else c.luts, tables := Table.put c.tables k l })
    (s2.logHash t.fn d.obj 0 l).complete t 0 0

def execTableLoad (d : Desc) (s : State) : Host.Outcome State Fault Refusal := .next (s.runDesc tableSpec d actTableLoad)

/-! ## Choosing pictures (R173, R174, R176) -/

/-- What a layer's source number says: a receiver, or 0x100 + a decode slot. -/
def State.layerSource (s : State) (n l : Nat) : Nat :=
  s.get (bank 1 (Reg.CMP_L_SRC_KIND_OR_FORMAT n l)) * 0x100 + s.get (bank 1 (Reg.CMP_L_INDEX_OR_PITCH n l))

/-- The capture DTs of the pictures a source has opened, none when the source can have no picture: its receiver is disabled
or its decode slot is not running. -/
def State.openedCaps (s : State) (src : Nat) : Option (List Rat) :=
  if src < 0x100 then
    (if s.on (Reg.ING_RX_ENABLE src) then some (((s.rcv src).pics.filter (fun q => q.buf.isSome)).map (fun q => q.cap)) else none)
  else if s.slotBusy (src - 0x100) then some (((s.slot (src - 0x100)).dec.pics.filter (fun q => q.ts.isSome && !q.idle)).map (fun q => q.cap))
  else none

/-- The latest of a list at or before a limit. -/
def latestAt (lim : Rat) (l : List Rat) : Option Rat :=
  (l.filter (fun c => decide (c ≤ lim))).foldl (fun m c => match m with | none => some c | some d => some (if d < c then c else d)) none

/-- The target of a video layer (R173): the latest source picture at or before a limit, when ingest has opened it. One that
stands a source period or more after the latest opened has not been opened. -/
def target (lim pf : Rat) (caps : List Rat) : Option Rat :=
  match latestAt lim caps with
  | none => none
  | some c => if lim < c + pf then some c else none

/-- The choice for a video layer at c_0 of the picture captured at t (R173). -/
def State.chooseVideo (s : State) (n l : Nat) (t : Rat) : State :=
  let x := s.layer n l
  let src := s.layerSource n l
  let pf := s.sourcePf (src / 0x100) (src % 0x100)
  let lim := if bit (s.get (Reg.CMP_SLOT_STATUS_LAG n)) l then t - pf else t
  let empty := (s.setLayer n l { x with cur := none, prev := none, holding := false, judged := [], heldLines := [], clearLines := [] }).bump
    (Reg.CMP_L_EMPTY_PIC_CNT n l)
  match s.openedCaps src with
  | none => empty.set (Reg.CMP_L_HELD n l) 0
  | some caps =>
    let tg := target lim pf caps
    if x.cur.isNone ∧ tg.isNone then empty.set (Reg.CMP_L_HELD n l) 0
    else if tg.isNone ∨ x.cur.map (·.cap) = tg then
      let s1 := (s.setLayer n l { x with prev := x.cur, holding := true, judged := [], heldLines := [], clearLines := [] }).set (Reg.CMP_L_HELD n l) 1
      let s2 := if tg.isNone then s1.bump (Reg.CMP_L_HELD_PIC_CNT n l) else s1
      if x.holding then s2 else s2.raise 0x6601 (objLayer n l) {}
    else
      let y : Layer := { x with
        cur := tg.map (fun c => ⟨src, c⟩), prev := x.cur, src := src, holding := false, judged := [], heldLines := [], clearLines := [] }
      (s.setLayer n l y).setAll [(Reg.CMP_L_HELD n l, 0), (Reg.CMP_L_FILLED n l, 1)]

/-- A surface whose copy completed before this tick swaps at c_0 of picture N (R176). -/
def State.swapSurface (s : State) (n l pic : Nat) : State :=
  let x := s.layer n l
  match x.load with
  | some (t, some k) =>
    if k < s.lc then
      ((s.setLayer n l { x with load := none, swapped := true, touched := true, newSurf := true }).setAll
        [(Reg.CMP_L_FRONT n l, 1 - s.get (Reg.CMP_L_FRONT n l)), (Reg.CMP_L_LOAD_PENDING n l, 0),
         (Reg.CMP_L_FILLED n l, 1)]).complete t 0 (pic % 2 ^ 32)
    else s
  | _ => s

/-- A graphics layer at c_0 (R176, R184, R188): transparent until its first swap, scrolled, one picture more static unless a swap, a
scroll or a committed change falls on this one. -/
def State.chooseGraphics (s : State) (n l : Nat) : State :=
  let g := fun (f : Nat → Nat → Field) => s.get (bank 1 (f n l))
  let x := s.layer n l
  let sx := signed 16 (g Reg.CMP_L_SCROLL_X)
  let sy := signed 16 (g Reg.CMP_L_SCROLL_Y)
  let s1 := s.setLayer n l { x with scrollX := (((x.scrollX : Int) + sx) % (max 1 (g Reg.CMP_L_SURF_W) : Nat)).toNat,
                                    scrollY := (((x.scrollY : Int) + sy) % (max 1 (g Reg.CMP_L_SURF_H) : Nat)).toNat,
                                    still := if sx = 0 ∧ sy = 0 ∧ x.touched = false then x.still + 1 else 0, touched := false }
  if x.swapped then s1 else s1.bump (Reg.CMP_L_EMPTY_PIC_CNT n l)

/-! ## Motion hints (R186, R187) -/

/-- The nearest integer, ties away from zero. -/
def nearest (q : Rat) : Int := if q < 0 then -((-q + 1 / 2).floor) else (q + 1 / 2).floor

/-- A hint component as its 16 bits hold it; what a vector beyond them becomes the spec does not say. -/
def fit16 (i : Int) : Int := if -32768 ≤ i ∧ i ≤ 32767 then i else signed 16 (unsigned 16 (Config.hintVector i))

/-- The 16 bytes of a hint record (R186). -/
def Hint.bytes (h : Hint) : List Byte :=
  leBytes 2 h.x ++ leBytes 2 h.y ++ leBytes 2 h.w ++ leBytes 2 h.h ++ leBytes 2 (unsigned 16 h.dx) ++ leBytes 2 (unsigned 16 h.dy) ++ leBytes 2 h.zoom
    ++ leBytes 1 (128 * b2n h.cut + 64 * b2n h.held + 32 * b2n h.srcMotion) ++ leBytes 1 h.layer

/-- A layer's geometry as its hint compares it with the picture before. -/
def Geo.key (g : Geo) : List Int := [g.dx, g.dy, g.cx, g.cy, g.hstep, g.vstep, g.dw, g.dh]

/-- The hint record of an enabled layer, when it has a visible destination (R186, R187). -/
def State.hintOf (s : State) (n l : Nat) : Option Hint :=
  let g := s.geo 1 n l
  let (cw, ch) := s.canvas n
  let (x, w) := visible g.dx g.dw cw
  let (y, h) := visible g.dy g.dh ch
  let lay := s.layer n l
  let shown := if isVideoLayer l then lay.cur.isSome else lay.swapped
  let old := lay.geo
  let cut := old = [] ∨ (shown ∧ !lay.showed)
  let o := fun i => old.getD i 0
  let scx : Int := if isVideoLayer l then 0 else signed 16 (s.get (bank 1 (Reg.CMP_L_SCROLL_X n l)))
  let scy : Int := if isVideoLayer l then 0 else signed 16 (s.get (bank 1 (Reg.CMP_L_SCROLL_Y n l)))
  let zoomed := decide (o 5 ≠ g.vstep)
  let dx : Rat := if zoomed then -4 * (((g.dx - o 0 : Int) : Rat) + (((g.dw : Int) - o 6 : Int) : Rat) / 2)
    else -4 * ((g.dx - o 0 : Int) : Rat) + 4 * (((g.cx : Int) - o 2 + scx : Int) : Rat) * 65536 / (g.hstep : Rat)
  let dy : Rat := if zoomed then -4 * (((g.dy - o 1 : Int) : Rat) + (((g.dh : Int) - o 7 : Int) : Rat) / 2)
    else -4 * ((g.dy - o 1 : Int) : Rat) + 4 * (((g.cy : Int) - o 3 + scy : Int) : Rat) * 65536 / (g.vstep : Rat)
  let held := if isVideoLayer l then lay.holding else lay.swapped && !lay.newSurf
  if w = 0 ∨ h = 0 then none
  else some
    { x := x, y := y, w := w, h := h, dx := if cut then 0 else fit16 (nearest dx), dy := if cut then 0 else fit16 (nearest dy),
      zoom := if cut ∨ !zoomed then 0x1000 else (nearest ((o 5 : Rat) / (g.vstep : Rat) * 4096)).toNat % 2 ^ 16,
      cut := decide cut, held := held, srcMotion := isVideoLayer l && !held, layer := l }

/-- The hint of a Safety Net panel (R199). -/
def panelHint (same cut : Bool) (p : Panel) : Hint :=
  { x := p.x, y := p.y, w := p.w, h := p.h, dx := 0, dy := 0, zoom := 0x1000, cut := cut, held := same, srcMotion := false, layer := 0xFF }

/-- The enabled layers from the top Z down. -/
def State.byZ (s : State) (n : Nat) : List Nat :=
  ([15, 14, 13, 12, 11, 10, 9, 8, 7, 6, 5, 4, 3, 2, 1, 0] : List Nat).filterMap (fun z =>
    (s.enabledLayers 1 n).find? (fun l => s.get (bank 1 (Reg.CMP_L_Z n l)) == z))

/-- Write the hints of a picture and keep the geometry for the next; `old` is the Safety Net before its latching. -/
def State.setHints (s : State) (n : Nat) (old : Saf) : State :=
  let same := (s.saf n).sameShown old
  let hs := (s.safPanels n).2.map (panelHint same (!same)) ++ (s.byZ n).filterMap (fun l => s.hintOf n l)
  (s.enabledLayers 1 n).foldl (fun (t : State) l =>
    let x := t.layer n l
    t.setLayer n l { x with geo := (s.geo 1 n l).key, newSurf := false, showed := if isVideoLayer l then x.cur.isSome else x.swapped })
    (s.updCmp n (fun c => { c with hints := hs }))

/-! ## The Bench (R184, R185) -/

/-- The first run of at least two static graphics layers in a list of layers from the top down. -/
def benchRun (ok : Nat → Bool) : List Nat → List Nat → List Nat
  | [], acc => if 2 ≤ acc.length then acc.reverse else []
  | l :: r, acc => if ok l then benchRun ok r (l :: acc) else if 2 ≤ acc.length then acc.reverse else benchRun ok r []

/-- The Bench at c_0: evicted, put into use, or a new run starts to be flattened. -/
def State.benchStep (s : State) (n : Nat) : State :=
  if s.get (bank 1 (Reg.CMP_SLOT_BENCH_EN n)) = 0 ∨ s.slotKind n = 1 then s
  else
    let z := fun l => s.get (bank 1 (Reg.CMP_L_Z n l))
    let stat := fun l => !(isVideoLayer l) && decide (s.get (bank 1 (Reg.CMP_SLOT_BENCH_FRAMES n)) ≤ (s.layer n l).still)
    match (s.cmp n).bench with
    | some b =>
      let on := s.enabledLayers 1 n
      if !(b.layers.all (fun l => on.contains l && stat l)) ∨ on.any (fun l => decide (b.lo ≤ z l ∧ z l ≤ b.hi) && !(b.layers.contains l)) then
        (b.layers.foldl (fun (t : State) l => t.setLayer n l { t.layer n l with still := 0 })
          (((s.updCmp n (fun c => { c with bench := none })).bump (Reg.CMP_SLOT_BCNT_BENCH_EVICT_CNT n)))).set (Reg.CMP_SLOT_STATUS_BENCH_STATE n) 1
      else match b.done with
        | some k => if k < s.lc then s.set (Reg.CMP_SLOT_STATUS_BENCH_STATE n) 3 else s
        | none => s
    | none =>
      match benchRun stat (s.byZ n) [] with
      | [] => s.set (Reg.CMP_SLOT_STATUS_BENCH_STATE n) 1
      | hd :: tl =>
        (s.updCmp n (fun c => { c with bench := some ⟨(hd :: tl).reverse, z ((hd :: tl).getLastD hd), z hd, none, []⟩ })).set
          (Reg.CMP_SLOT_STATUS_BENCH_STATE n) 2

/-! ## Composition start and rows -/

/-- What the compositor settles at c_0 for picture N captured at t and presented at p (R173, R176, R189, R197). -/
def State.cmpLatch (s : State) (n pic : Nat) (t p : Rat) : State :=
  let s1 := s.cmpTake n pic
  let s2 := layers16.foldl (fun (u : State) l => if isVideoLayer l then u else u.swapSurface n l pic) s1
  let s3 := (s2.enabledLayers 1 n).foldl (fun (u : State) l => if isVideoLayer l then u.chooseVideo n l t else u.chooseGraphics n l) s2
  ((s3.safLatch n p).setHints n (s3.saf n)).benchStep n

end Sys2Proof.Machine
end

