-- ==== Sys2Proof/Machine/Canvas.lean ====
section
/-! DEFINITION. The canvas (chapter 06): the samples a layer fetches, scaling, conversion and blending up to the composed lines that
go to the Faces, the Bench's surface, the judging of source lines, the Safety Net over it all. -/

namespace Sys2Proof.Machine

/-! ## Source pictures -/

/-- A sample of a plane at a device address (R153): 1 byte, or the top `depth` bits of 2; mid-grey from a poisoned line (R388). -/
def State.sampleAt (s : State) (depth a : Nat) : Nat :=
  if s.poisoned a (if depth = 8 then 1 else 2) then 2 ^ (depth - 1)
  else if depth = 8 then leNat (Memory.readAll s.mem a 1) else leNat (Memory.readAll s.mem a 2) / 2 ^ (16 - depth)

/-- Sample depth of an ingest DEPTH code. -/
def depthBits (code : Nat) : Nat := if code = 0 then 8 else if code = 1 then 10 else 12

/-- The picture in buffer b of a receiver. -/
def State.ingestRaster (s : State) (r b : Nat) : Raster :=
  let sm := s.get (Reg.ING_RX_FMT_SAMPLING r)
  let d := depthBits (s.get (Reg.ING_RX_FMT_DEPTH r))
  let bps := if d = 8 then 1 else 2
  { sampling := sm, depth := d, w := s.get (Reg.ING_RX_SIZE_WIDTH r), h := s.get (Reg.ING_RX_SIZE_HEIGHT r),
    code := fun q x y =>
      if q = 0 ∨ sm = 1 ∨ sm = 2 then s.sampleAt d (s.rowAddr r b q y 0 + x * bps)
      else s.sampleAt d (s.rowAddr r b 1 (if sm = 3 then 2 * y else y) 0 + (2 * x + (q - 1)) * bps) }

/-- A sample of row k of subpicture sp in the latest of some pictures (latest first) that decoded it: a concealed row copies the one
before; the samples of a decoded row are free values; `old` stands for pictures no longer held (R281). -/
def sampleIn (n k sp : Nat) (q x y old : Nat) : List DecPic → Nat
  | [] => old
  | p :: l => match p.slices.find? (fun d => d.row == k && d.sp == sp) with
    | some d => if d.concealed || !d.done then sampleIn n k sp q x y old l else Config.decoded [n, p.id, q, x, y]
    | none => sampleIn n k sp q x y old l

/-- A picture of a decode slot (R270, R281): mid-grey where nothing of a subpicture was reconstructed since START and where it is not
selected. -/
def State.decodeRaster (s : State) (n id : Nat) : Raster :=
  let d := if s.cfg Reg.DEC_BS_DEPTH8 n = 1 then 8 else 10
  let sm := chromaSampling (s.cfg Reg.DEC_BS_CHROMA n)
  let dec := (s.slot n).dec
  let cols := gridCols (s.cfg Reg.DEC_BS_WIDTH n) (s.cfg Reg.DEC_BS_SP_W n)
  { sampling := sm, depth := d, w := s.cfg Reg.DEC_BS_WIDTH n, h := s.cfg Reg.DEC_BS_HEIGHT n,
    code := fun q x y =>
      let lx := if q ≠ 0 ∧ (sm = 0 ∨ sm = 3) then 2 * x else x
      let ly := if q ≠ 0 ∧ sm = 3 then 2 * y else y
      let sp := ly / (128 * s.cfg Reg.DEC_BS_SP_H n) * cols + lx / (128 * s.cfg Reg.DEC_BS_SP_W n)
      let grey := 2 ^ (d - 1)
      let v := match dec.pics.find? (fun p => p.id == id) with
        | none => Config.decoded [n, id, q, x, y]
        | some p =>
          if !(p.sel.contains sp) then grey
          else sampleIn n (ly / 128) sp q x y (if dec.made.contains sp then Config.decoded [n, q, x, y] else grey)
            ((dec.pics.filter (fun o => decide (o.base ≤ p.base))).reverse)
      v % 2 ^ d }

/-- The samples of a source picture, when it is there. -/
def State.sourceRaster (s : State) (q : LayerPic) : Option Raster :=
  if q.src < 0x100 then
    ((s.rcv q.src).pics.find? (fun p => p.buf.isSome && p.cap == q.cap)).map (fun p => s.ingestRaster q.src (p.buf.getD 0))
  else ((s.slot (q.src - 0x100)).dec.pics.find? (fun p => p.cap == q.cap)).map (fun p => s.decodeRaster (q.src - 0x100) p.id)

/-! ## Scaling (R177 to R179) -/

/-- The picture a video layer takes a source line from: the one in use, or for a held line the one before (R175). -/
def State.linePicture (s : State) (n l line : Nat) : Option LayerPic :=
  let x := s.layer n l
  if x.heldLines.contains line then x.prev else x.cur

/-- Component q of a source pixel in 12 bits. -/
def State.tap12 (s : State) (n l q x y : Nat) : Rat :=
  match (s.linePicture n l y).bind s.sourceRaster with
  | some r => r.at444 q x y * ((2 ^ (12 - r.depth) : Nat) : Rat)
  | none => 0

/-- A 12-bit value held to its range. -/
def held12 (v : Rat) : Rat := max 0 (min 4095 v)

/-- A sum of taps weighted by a coefficient set at a phase. -/
def State.filter (s : State) (n k ph : Nat) (v : Nat → Rat) : Rat :=
  ((List.range (if k < 8 then 8 else 6)).map (fun t => (s.coef n k ph t : Rat) * v t)).foldl (· + ·) 0 / 1024

/-- Component q of source line y scaled horizontally at canvas column x, as the line buffer holds it in 12 bits (R179); how it is
rounded there the spec does not say. -/
def State.hScaled (s : State) (n l : Nat) (g : Geo) (q x y : Nat) : Rat :=
  let f := (g.sx x).floor
  if g.hstep = 65536 then s.tap12 n l q (heldTo g.cx g.cw f) y
  else
    let k := 4 + s.get (bank 1 (Reg.CMP_L_COEF_H n l))
    (roundFree 6 (held12 (s.filter n k (phaseOf (g.sx x)) (fun t => s.tap12 n l q (heldTo g.cx g.cw (f - 3 + t)) y))) : Rat)

/-- Component q of a layer at canvas pixel (x, y): vertical after horizontal (R177, R179). -/
def State.layerScaled (s : State) (n l : Nat) (g : Geo) (q x y : Nat) : Rat :=
  let f := (g.sy y).floor
  if g.vstep = 65536 then s.hScaled n l g q x (heldTo g.cy g.ch f)
  else
    let k := 8 + s.get (bank 1 (Reg.CMP_L_COEF_V n l))
    held12 (s.filter n k (phaseOf (g.sy y)) (fun t => s.hScaled n l g q x (heldTo g.cy g.ch (f - 2 + t))))

/-! ## Layer pixels -/

/-- Whether a canvas pixel lies in a destination. -/
def Geo.covers (g : Geo) (x y : Nat) : Bool :=
  decide (g.dx ≤ x ∧ (x : Int) < g.dx + g.dw ∧ g.dy ≤ y ∧ (y : Int) < g.dy + g.dh)

/-- The peak of a transfer characteristic: the PQ one given, HLG_LW, SDR_WHITE (R182). -/
def peakOf (tcs : Nat) (pq : Rat) (lv : Levels) : Rat := if tcs = 1 then pq else if tcs = 2 then lv.hlg else lv.sdr

/-- SDR_WHITE and HLG_LW of a slot. -/
def State.refLevels (s : State) (n : Nat) : Levels :=
  { sdr := (s.get (bank 1 (Reg.CMP_SLOT_LEVELS_SDR_WHITE n)) : Rat), hlg := (s.get (bank 1 (Reg.CMP_SLOT_LEVELS_HLG_LW n)) : Rat) }

/-- Colorimetry, TCS and whether full range of a layer's source (R180). A decode slot's stream gives its own: free values. -/
def State.layerFormat (s : State) (n l : Nat) : Nat × Nat × Bool :=
  let idx := s.get (bank 1 (Reg.CMP_L_INDEX_OR_PITCH n l))
  if isVideoLayer l then
    if s.get (bank 1 (Reg.CMP_L_SRC_KIND_OR_FORMAT n l)) = 0 then
      (s.get (Reg.ING_RX_FMT_COLORIMETRY idx), s.get (Reg.ING_RX_FMT_TCS idx), s.on (Reg.ING_RX_FMT_RANGE idx))
    else (Config.streamFormat idx 0 % 2, Config.streamFormat idx 1 % 3, Config.streamFormat idx 2 % 2 == 1)
  else
    let t := s.get (bank 1 (Reg.CMP_L_GFX_TCS n l))
    (if t = 0 then 0 else 2, t, true)

/-- The conversion of a layer to the canvas (R180 to R182). -/
def State.conversion (s : State) (n l : Nat) : Conversion :=
  let lv := s.refLevels n
  let f := s.layerFormat n l
  let t := s.get (bank 1 (Reg.CMP_SLOT_CANVAS_TCS n))
  { srcCol := f.1, srcTcs := f.2.1, dstCol := s.get (bank 1 (Reg.CMP_SLOT_CANVAS_COLORIMETRY n)), dstTcs := t, levels := lv,
    srcPeak := peakOf f.2.1 (s.get (bank 1 (Reg.CMP_L_SRC_PEAK n l)) : Rat) lv,
    dstPeak := peakOf t (s.get (bank 1 (Reg.CMP_SLOT_CANVAS_CANVAS_PEAK n)) : Rat) lv,
    knee := (s.get (bank 1 (Reg.CMP_L_KNEE n l)) : Rat) / 256 }

/-- Whether a source's components are R'G'B' as they stand. -/
def State.layerRgb (s : State) (n l : Nat) : Bool :=
  s.get (bank 1 (Reg.CMP_L_SRC_KIND_OR_FORMAT n l)) == 0 && s.get (Reg.ING_RX_FMT_SAMPLING (s.get (bank 1 (Reg.CMP_L_INDEX_OR_PITCH n l)))) == 2

/-- The depth of a video layer's source, to which its 12-bit values are brought back for range expansion. -/
def State.layerDepth (s : State) (n l : Nat) : Nat :=
  let idx := s.get (bank 1 (Reg.CMP_L_INDEX_OR_PITCH n l))
  if s.get (bank 1 (Reg.CMP_L_SRC_KIND_OR_FORMAT n l)) = 0 then depthBits (s.get (Reg.ING_RX_FMT_DEPTH idx))
  else if s.cfg Reg.DEC_BS_DEPTH8 idx = 1 then 8 else 10

/-- A layer's pixel after conversion: its colour, its own alpha and that alpha's maximum. -/
structure LayerPixel where
  colour : Tri Nat
  alpha : Nat
  most : Nat

/-- A video layer's pixel: none where it is not shown, or where a line it reads is transparent (R175; DEDUCED, log entry 122). -/
def State.videoPixel (s : State) (n l x y : Nat) : Option LayerPixel :=
  let g := s.geo 1 n l
  let lay := s.layer n l
  let lines := (List.range ((g.sMax y) - (g.sMin y) + 1).toNat).map (fun i => (g.sMin y).toNat + i)
  if !(g.covers x y) ∨ lay.cur.isNone ∨ lines.any (fun i => lay.clearLines.contains i) then none
  else
    let d := s.layerDepth n l
    let v : Tri Rat := ⟨s.layerScaled n l g 0 x y, s.layerScaled n l g 1 x y, s.layerScaled n l g 2 x y⟩
    let f := s.layerFormat n l
    let rgb := codesToRgb (s.layerRgb n l) d f.2.2 f.1 (v.map (· / ((2 ^ (12 - d) : Nat) : Rat)))
    let c := if s.get (bank 1 (Reg.CMP_L_TM_MODE n l)) = 1 then
        lutApply (Table.getD (s.cmp n).tables (s.get (bank 1 (Reg.CMP_L_LUT n l))) []) rgb
      else (s.conversion n l).convert rgb
    some { colour := c.map to16, alpha := 1, most := 1 }

/-- A component as a fraction of its maximum. -/
def share (most v : Nat) : Rat := (v : Rat) / most

/-- The fields of a graphics pixel's word, alpha highest, little-endian in DRAM (DESIGN CHOICE, log entry 123): alpha, its maximum,
the colour. -/
def gfxFields (format w : Nat) : Nat × Nat × Tri Rat :=
  if format = 0 then (bits w 31 24, 255, Tri.map (share 255) ⟨bits w 23 16, bits w 15 8, bits w 7 0⟩)
  else if format = 1 then (bits w 31 30, 3, Tri.map (share 1023) ⟨bits w 29 20, bits w 19 10, bits w 9 0⟩)
  else (bits w 63 48, 65535, Tri.map (share 65535) ⟨bits w 47 32, bits w 31 16, bits w 15 0⟩)

/-- A pixel of a poisoned line (R388): mid-grey, opaque (DESIGN CHOICE, log entry 132). -/
def greyGraphics (format : Nat) : Nat × Nat × Tri Rat :=
  let most := if format = 0 then 255 else if format = 1 then 3 else 65535
  (most, most, ⟨1 / 2, 1 / 2, 1 / 2⟩)

/-- A graphics layer's pixel from its front surface, scrolled (R176, R188): transparent until the first swap. -/
def State.gfxPixel (s : State) (n l x y : Nat) : Option LayerPixel :=
  let g := s.geo 1 n l
  let lay := s.layer n l
  if !(g.covers x y) ∨ lay.swapped = false then none
  else
    let fmt := s.get (bank 1 (Reg.CMP_L_SRC_KIND_OR_FORMAT n l))
    let px := ((g.cx + lay.scrollX : Nat) + ((x : Int) - g.dx)).toNat % (max 1 g.sw)
    let py := ((g.cy + lay.scrollY : Nat) + ((y : Int) - g.dy)).toNat % (max 1 g.sh)
    let a := s.frontBase n l + py * (s.get (bank 1 (Reg.CMP_L_INDEX_OR_PITCH n l)) * 64) + px * gfxBytes fmt
    let f := if s.poisoned a (gfxBytes fmt) then greyGraphics fmt else gfxFields fmt (leNat (Memory.readAll s.mem a (gfxBytes fmt)))
    let v := s.conversion n l
    let c := if s.on (bank 1 (Reg.CMP_L_PREMULT n l)) then v.convertPremult ((f.1 : Rat) / f.2.1) f.2.2 else v.convert f.2.2
    some { colour := c.map to16, alpha := f.1, most := f.2.1 }

/-- A layer's pixel. -/
def State.layerPixel (s : State) (n l x y : Nat) : Option LayerPixel := if isVideoLayer l then s.videoPixel n l x y else s.gfxPixel n l x y

/-- A_L and a_p × A_L of a layer's pixel as 16-bit fractions. -/
def State.layerAlpha (s : State) (n l : Nat) (p : LayerPixel) : Nat × Nat :=
  let la := s.get (bank 1 (Reg.CMP_L_LAYER_ALPHA n l))
  (alpha16 1 1 la, alpha16 p.alpha p.most la)

/-- Whether a layer's alpha is premultiplied (R170). -/
def State.isPremult (s : State) (n l : Nat) : Bool := !(isVideoLayer l) && s.on (bank 1 (Reg.CMP_L_PREMULT n l))

/-- A layer over the canvas (R170). -/
def State.layerOver (s : State) (n x y : Nat) (dst : Tri Nat) (l : Nat) : Tri Nat :=
  match s.layerPixel n l x y with
  | none => dst
  | some p => blend (s.isPremult n l) (s.layerAlpha n l p).2 (s.layerAlpha n l p).1 p.colour dst

/-! ## The Bench's surface (R184, R185) -/

/-- A premultiplied pixel of the Bench: alpha and colour. -/
def State.benchPixel (s : State) (n x y : Nat) (layers : List Nat) : Nat × Tri Nat :=
  layers.foldl (fun (d : Nat × Tri Nat) l => match s.layerPixel n l x y with
    | none => d
    | some p =>
      let a := s.layerAlpha n l p
      (min full16 (a.2 + mul16 d.1 (full16 - a.2)), blend (s.isPremult n l) a.2 a.1 p.colour d.2)) (0, ⟨0, 0, 0⟩)

/-- Its 8 bytes in the Bench area: one word, alpha highest (DESIGN CHOICE, log entry 123). -/
def benchBytes (p : Nat × Tri Nat) : List Byte := leBytes 2 p.2.c ++ leBytes 2 p.2.b ++ leBytes 2 p.2.a ++ leBytes 2 p.1

/-- The tiles of a canvas side. -/
def tilesOf (x : Nat) : Nat := ceilDiv x 64

/-- The class of a tile of the Bench: 0 transparent, 2 opaque, 1 mixed. -/
def State.tileClass (s : State) (n : Nat) (layers : List Nat) (tx ty : Nat) : Nat :=
  let c := s.canvas n
  let alphas := (List.range (min 64 (c.2 - 64 * ty))).flatMap (fun j => (List.range (min 64 (c.1 - 64 * tx))).map (fun i =>
    (s.benchPixel n (64 * tx + i) (64 * ty + j) layers).1))
  if alphas.all (· == 0) then 0 else if alphas.all (· == full16) then 2 else 1

/-- The Bench area of a slot and its line of canvas line y. -/
def State.benchAddr (s : State) (n y : Nat) : Nat := s.get (bank 1 (Reg.CMP_SLOT_BENCH_BASE n)) * 4096 + y * (s.canvas n).1 * 8

/-- Flattening completes: the premultiplied surface is written line by line, each tile classed (R184). -/
def State.benchFlatten (s : State) (n : Nat) (b : Bench) : State :=
  let c := s.canvas n
  let tiles := (List.range (tilesOf c.2)).flatMap (fun ty => (List.range (tilesOf c.1)).map (fun tx => s.tileClass n b.layers tx ty))
  ((List.range c.2).foldl (fun (t : State) y =>
      t.deviceStore (s.benchAddr n y) ((List.range c.1).flatMap (fun x => benchBytes (s.benchPixel n x y b.layers)))) s).updCmp n
    (fun k => { k with bench := some { b with done := some s.lc, tiles := tiles } })

/-- BENCH_FLATTEN_DONE (R184). -/
def execBenchFlattenDone (n : Fin 4) (s : State) : Host.Outcome State Fault Refusal :=
  .next (match (s.cmp n).bench with
    | some b => if b.done.isNone then (s.benchFlatten n b).bump (Reg.CMP_SLOT_BCNT_BENCH_FLAT_CNT n) else s
    | none => s)

/-- The Bench while it is in use (BENCH_STATE 0x3). -/
def State.benchUsed (s : State) (n : Nat) : Option Bench :=
  if s.get (Reg.CMP_SLOT_STATUS_BENCH_STATE n) = 3 then (s.cmp n).bench else none

/-- The class of the tile at a canvas position. -/
def State.benchTile (s : State) (n : Nat) (b : Bench) (x y : Nat) : Nat := b.tiles.getD (y / 64 * tilesOf (s.canvas n).1 + x / 64) 1

/-- The Bench's surface over the canvas: a transparent tile is not read. -/
def State.benchOver (s : State) (n x y : Nat) (b : Bench) (dst : Tri Nat) : Tri Nat :=
  if s.benchTile n b x y = 0 then dst
  else
    let a := s.benchAddr n y + 8 * x
    let l := Memory.readAll s.mem a 8
    if s.poisoned a 8 then ⟨32768, 32768, 32768⟩ else blend true (leAt l 6 2) full16 ⟨leAt l 4 2, leAt l 2 2, leAt l 0 2⟩ dst

/-! ## The canvas (R167, R199, R201) -/

/-- A 10-bit full-range colour word as 16-bit components. -/
def colour10 (w : Nat) : Tri Nat := (Tri.map (share 1023) ⟨bits w 29 20, bits w 19 10, bits w 9 0⟩).map (fun v => nearUp (v * full16))

/-- The background (CMP_SLOTn_BG). -/
def State.background (s : State) (n : Nat) : Tri Nat :=
  colour10 (s.get (bank 1 (Reg.CMP_SLOT_BG_R n)) * 2 ^ 20 + s.get (bank 1 (Reg.CMP_SLOT_BG_G n)) * 2 ^ 10 + s.get (bank 1 (Reg.CMP_SLOT_BG_B n)))

/-- The enabled layers over the background in ascending Z, the bench run as one surface while the Bench is in use. -/
def State.stackPixel (s : State) (n x y : Nat) : Tri Nat :=
  (s.byZ n).reverse.foldl (fun d l => match s.benchUsed n with
    | some b => if b.layers.contains l then (if b.layers.head? = some l then s.benchOver n x y b d else d) else s.layerOver n x y d l
    | none => s.layerOver n x y d l) (s.background n)

/-- The Safety Net over a colour: its panels in table order, premultiplied, 8 bits brought to 16; BLANK replaces all. -/
def State.safOver (s : State) (n x y : Nat) (dst : Tri Nat) : Tri Nat :=
  if s.safBlank n then colour10 (s.safColour n)
  else
    let (part, ps) := s.safPanels n
    (ps.filter (fun p => decide (p.x ≤ x ∧ x < p.x + p.w ∧ p.y ≤ y ∧ y < p.y + p.h))).foldl (fun d p =>
      let l := Memory.readAll s.mem (s.safAddr n part + p.offset + 4 * ((y - p.y) * p.w + (x - p.x))) 4
      blend true (leAt l 0 1 * 257) full16 ⟨leAt l 1 1 * 257, leAt l 2 1 * 257, leAt l 3 1 * 257⟩ d) dst

/-- A pixel of an encode slot's canvas: the layers, then the Safety Net above Z 15. -/
def State.canvasPixel (s : State) (n x y : Nat) : Tri Nat := s.safOver n x y (s.stackPixel n x y)

/-- A pixel of a decode slot's output (R165, R289, R290): the decoded region, narrow range to R'G'B' by the canvas' colorimetry,
then the Safety Net. (x, y) is in samples of the output region. -/
def State.outputPixel (s : State) (n id x y : Nat) : Tri Nat :=
  let g := s.decodeRaster n id
  let v := g.pixel (s.cfg Reg.DEC_BS_OUT_X n + x) (s.cfg Reg.DEC_BS_OUT_Y n + y)
  s.safOver n x y ((codesToRgb false g.depth false (s.get (bank 1 (Reg.CMP_SLOT_CANVAS_COLORIMETRY n))) v).map to16)

/-- The lines of a CTU row as the Faces get them (R166, R168). -/
def State.composedLines (s : State) (n k : Nat) : List (List (List Nat)) :=
  let c := s.canvas n
  encoderPlanes (s.cfg Reg.ENC_BS_FORMAT_CHROMA n) (s.get (bank 1 (Reg.CMP_SLOT_CANVAS_COLORIMETRY n)))
    ((List.range (min 128 (c.2 - 128 * k))).map (fun j => (List.range c.1).map (fun x => s.canvasPixel n x (128 * k + j))))

/-! ## Judging source lines (R175) -/

/-- Whether a line of a picture of a source is valid now (R157, R175). -/
def State.lineValid (s : State) (q : Option LayerPic) (line : Nat) : Bool :=
  match q with
  | none => false
  | some q =>
    if q.src < 0x100 then (s.rcv q.src).pics.any (fun p => p.buf.isSome && p.cap == q.cap && bit p.valid line)
    else (s.slot (q.src - 0x100)).dec.pics.any (fun p => p.cap == q.cap && s.rowReady (q.src - 0x100) p (line / 128))

/-- Whether a layer is read at all on a canvas line: it is visible there, and not every tile over it is an opaque one of the
Bench above (R175, R185). -/
def State.lineRead (s : State) (n l y : Nat) : Bool :=
  let g := s.geo 1 n l
  let c := s.canvas n
  let v := visible g.dx g.dw c.1
  !(g.hidden c) && (match s.benchUsed n with
    | none => true
    | some b => decide (b.lo < s.get (bank 1 (Reg.CMP_L_Z n l)))
        || (List.range (tilesOf (v.1 + v.2) - v.1 / 64)).any (fun i => s.benchTile n b (64 * (v.1 / 64 + i)) y != 2))

/-- The source lines that a layer reads for canvas lines y0 to y1 - 1 (R177). -/
def State.linesRead (s : State) (n l y0 y1 : Nat) : List Nat :=
  let g := s.geo 1 n l
  let v := visible g.dy g.dh (s.canvas n).2
  let a := max y0 v.1
  let e := min y1 (v.1 + v.2)
  let ys := ((List.range (e - a)).map (· + a)).filter (s.lineRead n l)
  let lo := (g.sMin a).toNat
  ((List.range ((g.sMax (e - 1)).toNat + 1 - lo)).map (· + lo)).filter (fun i => ys.any (fun y => decide (g.sMin y ≤ i ∧ (i : Int) ≤ g.sMax y)))

/-- Judge the source lines that a layer reads for canvas lines y0 to y1 - 1, each once in a picture (R175). -/
def State.judgeLines (s : State) (n l y0 y1 : Nat) : State :=
  let x := s.layer n l
  if x.cur.isNone then s
  else
    let lines := (s.linesRead n l y0 y1).filter (fun i => !(x.judged.contains i))
    let bad := lines.filter (fun i => !(s.lineValid x.cur i))
    let held := bad.filter (fun i => s.lineValid x.prev i)
    let clear := bad.filter (fun i => !(s.lineValid x.prev i))
    ((s.setLayer n l { x with judged := lines ++ x.judged, heldLines := held ++ x.heldLines, clearLines := clear ++ x.clearLines }).count
      (Reg.CMP_L_HELD_LINE_CNT n l) held.length).count (Reg.CMP_L_TRANSP_LINE_CNT n l) clear.length

/-- The end of a canvas picture: one 0x6602 for each layer with held or transparent lines (R175), and read-back (R200). -/
def State.cmpEnd (s : State) (n : Nat) : State :=
  ((s.enabledLayers 1 n).foldl (fun (t : State) l =>
    let x := t.layer n l
    let k := x.heldLines.length + x.clearLines.length
    if 0 < k then t.raise 0x6602 (objLayer n l) { w16 := k } else t) s).safReadBack n

/-! ## Rows -/

/-- The next row of a slot to compose: its picture and index. -/
def State.rowToCompose (s : State) (n : Nat) : Option (EncPic × Nat) :=
  (s.slot n).pics.findSome? (fun p => (p.rows.findIdx? (fun r => !r.composed)).map (fun k => (p, k)))

/-- Replace the picture N of a slot. -/
def State.setPic (s : State) (n : Nat) (p : EncPic) : State :=
  s.updSlot n (fun x => { x with pics := x.pics.map (fun q => if q.n = p.n then p else q) })

/-- COMPOSE_ROW (R166, R168, R175): from c_k, row k is composed and its lines pass to the Faces. -/
def State.composeRow (s : State) (n : Nat) : State :=
  match s.rowToCompose n with
  | none => s
  | some (p, k) =>
    if s.due 1 (instant (s.c0 n p.allow p.n + k * s.encPr 1 n)) then
      let h := (s.canvas n).2
      let s1 := ((s.enabledLayers 1 n).filter isVideoLayer).foldl (fun (t : State) l => t.judgeLines n l (128 * k) (min (128 * (k + 1)) h)) s
      let s2 := (s1.setPic n { p with rows := p.rows.modify k (fun r => { r with composed := true, lines := s1.composedLines n k }) }).mirrorSafRow
        n p.n k
      if k + 1 = p.rows.length then
        (s2.set (Reg.ENC_BS_SWEEP_POS n) ((p.n - (s.slot n).first) % (max 1 (s.get (Reg.ENC_BS_SWEEP_LEN n))))).cmpEnd n
      else s2
    else s

def execComposeRow (n : Fin 4) (s : State) : Host.Outcome State Fault Refusal := .next (s.composeRow n)

end Sys2Proof.Machine
end

