-- ==== Sys2Proof/Machine/Search.lean ====
section
/-! DEFINITION. What a Face does with a row (chapter 08): the coding tools and parameter sets, the regions of gradual refresh, motion
search, legal vectors, mode decision, Spoil form (R248). Reconstructed samples, and the bits and squared errors of choices, are the
standards' and are the uninterpreted functions of Config. -/

namespace Sys2Proof.Machine

/-! ## The coding tools (R213) and parameter sets -/

/-- The tools of a codec (0 VVC, 1 HEVC) with AFFINE_EN and TS_EN. -/
def codingTools (codec : Nat) (affine ts : Bool) : ToolSet :=
  if codec = 0 then
    { codec := 0, ctu := 128, minCu := 8, transform := 64, halves := true, temporalMv := true, affine4 := affine, intraModes := 67,
      skipTransform := if ts then 32 else 0, dst4 := false, fixedAlf := true }
  else
    { codec := 1, ctu := 64, minCu := 8, transform := 32, halves := false, temporalMv := false, affine4 := false, intraModes := 35,
      skipTransform := if ts then 4 else 0, dst4 := true, fixedAlf := false }

/-- The codec of an encode slot. -/
def State.encCodec (s : State) (n : Nat) : Nat := profileCodec (s.cfg Reg.ENC_BS_FORMAT_PROFILE n)

/-- The tools of an encode slot. -/
def State.encTools (s : State) (n : Nat) : ToolSet :=
  codingTools (s.encCodec n) (s.cfgOn Reg.ENC_BS_TOOLS_AFFINE_EN n) (s.cfgOn Reg.ENC_BS_TOOLS_TS_EN n)

/-- general_level_idc of the levels of R210: of VVC and of HEVC. -/
def levelIdcs : List (Nat × Nat) := [(64, 120), (67, 123), (80, 150), (83, 153), (86, 156), (96, 180), (99, 183), (102, 186)]

/-- The general_level_idc that an encode slot signals (R210). -/
def State.levelIdc (s : State) (n : Nat) : Nat :=
  let code := s.cfg Reg.ENC_BS_FORMAT_LEVEL n
  let i := if code = 0 then
      (levels.findIdx? (levelAdmits (s.cfg Reg.ENC_BS_SIZE_WIDTH n) (s.cfg Reg.ENC_BS_SIZE_HEIGHT n) (frameRate (s.cfg Reg.ENC_BS_FORMAT_RATE n)))).getD 0
    else code - 1
  let e := levelIdcs.getD i (0, 0)
  if s.encCodec n = 0 then e.1 else e.2

/-- The parameter sets of an encode slot, the same while it runs (R213 to R218, R244). -/
def State.seqParams (s : State) (n : Nat) : SeqParams :=
  let w := s.cfg Reg.ENC_BS_SIZE_WIDTH n
  let h := s.cfg Reg.ENC_BS_SIZE_HEIGHT n
  let spw := s.cfg Reg.ENC_BS_SP_W n
  let sph := s.cfg Reg.ENC_BS_SP_H n
  { profile := s.cfg Reg.ENC_BS_FORMAT_PROFILE n, tier := s.cfg Reg.ENC_BS_FORMAT_TIER n, levelIdc := s.levelIdc n,
    chroma := s.cfg Reg.ENC_BS_FORMAT_CHROMA n, depth := if s.cfg Reg.ENC_BS_FORMAT_PROFILE n = 4 then 8 else 10, width := w, height := h,
    tools := s.encTools n, refs := s.cfg Reg.ENC_BS_TOOLS_NUM_REF n, cols := gridCols w spw, rows := gridRows h sph, spW := spw, spH := sph,
    sameSize := w % (128 * spw) == 0 && h % (128 * sph) == 0, asPicture := true, crossFilter := false, idMapped := false,
    bitRate := s.cfg Reg.RC_BS_MAX_KBPS n * 1000, cpbBits := 16 * (s.rcOf 1 n).bMax, cbr := false }

/-! ## Rows and regions -/

/-- A row that nothing has happened to. -/
def EncRow.blank : EncRow :=
  { composed := false, lines := [], cap := none, spoil := false, charge := none, slices := [], held := [], guarded := 0, doneAt := none,
    own := false, launched := false, released := false, motions := [], cus := [] }

/-- The subpicture columns of an encode slot. -/
def State.encCols (s : State) (n : Nat) : Nat := gridCols (s.cfg Reg.ENC_BS_SIZE_WIDTH n) (s.cfg Reg.ENC_BS_SP_W n)

/-- j of picture N (R222). -/
def State.sweepPos (s : State) (n pic : Nat) : Nat := (pic - (s.slot n).first) % max 1 (s.get (Reg.ENC_BS_SWEEP_LEN n))

/-- The regions of gradual refresh (R222). -/
inductive Region where
  | clean
  | band
  | dirty
  deriving DecidableEq, Repr

/-- The region of the sample column x in picture j of a sweep. -/
def State.region (s : State) (n j x : Nat) : Region :=
  let g := s.cfg Reg.ENC_BS_GDR_COLS n
  if x / 128 < j * g then .clean else if x / 128 < (j + 1) * g then .band else .dirty

/-- The right edge of the clean area of a reference of picture j (R223), in samples. -/
def State.cleanEdge (s : State) (n j ref : Nat) : Nat := (j - ref) * s.cfg Reg.ENC_BS_GDR_COLS n * 128

/-- The vertical virtual boundary of picture j, between band and dirty area (R224); none when the band reaches the edge. -/
def State.virtualBoundary (s : State) (n j : Nat) : Option Nat :=
  let x := (j + 1) * s.cfg Reg.ENC_BS_GDR_COLS n * 128
  if x < s.cfg Reg.ENC_BS_SIZE_WIDTH n then some x else none

/-- The first line of picture N − 1 that no prediction for row k may read (R221). -/
def lineLimit (k : Nat) : Nat := 128 * (k + 2) - 8

/-- A rectangle of samples: first and one after the last, in both directions. -/
structure Box where
  x0 : Int
  x1 : Int
  y0 : Int
  y1 : Int

/-- The subpicture that holds a sample (R215). -/
def State.subpicBox (s : State) (n x y : Nat) : Box :=
  let sw := 128 * s.cfg Reg.ENC_BS_SP_W n
  let sh := 128 * s.cfg Reg.ENC_BS_SP_H n
  { x0 := (x / sw * sw : Nat), x1 := (min (s.cfg Reg.ENC_BS_SIZE_WIDTH n) ((x / sw + 1) * sw) : Nat),
    y0 := (y / sh * sh : Nat), y1 := (min (s.cfg Reg.ENC_BS_SIZE_HEIGHT n) ((y / sh + 1) * sh) : Nat) }

/-! ## Legal vectors (R231) -/

/-- The luma samples that `len` samples from `a` read along an axis with a component of v / den samples: an eight-tap filter reads 3
before and 4 after (R231). -/
def lumaSpan (den : Nat) (a len : Nat) (v : Int) : Int × Int :=
  let lo : Int := a + v / den
  if v % den = 0 then (lo, lo + len - 1) else (lo - 3, lo + len + 3)

/-- The luma positions of the chroma samples read along a halved axis: a four-tap filter reads 1 before and 2 after. -/
def chromaSpan (den : Nat) (a len : Nat) (v : Int) : Int × Int :=
  let d : Int := 2 * den
  let lo : Int := (a / 2 : Nat) + v / d
  let hi : Int := lo + (ceilDiv len 2 : Nat) - 1
  if v % d = 0 then (2 * lo, 2 * hi + 1) else (2 * (lo - 1), 2 * (hi + 2) + 1)

/-- What a prediction reads along an axis. -/
def readSpan (halved : Bool) (den a len : Nat) (v : Int) : Int × Int :=
  let l := lumaSpan den a len v
  if halved then let c := chromaSpan den a len v; (min l.1 c.1, max l.2 c.2) else l

/-- A number held between two bounds. -/
def clampInt (lo hi x : Int) : Int := max lo (min hi x)

/-- Whether a vector of v.x / den, v.y / den samples is legal for a block of row k of picture N (R216, R217, R221, R223, R231). -/
def State.legal (s : State) (n pic k x y w h den : Nat) (v : Vec) : Bool :=
  let hevc := s.encCodec n == 1
  let chroma := s.cfg Reg.ENC_BS_FORMAT_CHROMA n
  let b := s.subpicBox n x y
  let (x0, x1) := readSpan (chroma != 2) den x w v.x
  let (y0, y1) := readSpan (chroma == 0) den y h v.y
  let pw : Int := s.cfg Reg.ENC_BS_SIZE_WIDTH n
  let ph : Int := s.cfg Reg.ENC_BS_SIZE_HEIGHT n
  let inTile := decide ((b.x0 ≤ x0 ∨ b.x0 = 0) ∧ (x1 < b.x1 ∨ b.x1 = pw) ∧ (b.y0 ≤ y0 ∨ b.y0 = 0) ∧ (y1 < b.y1 ∨ b.y1 = ph))
  let right := clampInt b.x0 (b.x1 - 1) x1
  let low := clampInt b.y0 (b.y1 - 1) y1
  let j := s.sweepPos n pic
  let edge : Int := (s.cleanEdge n j v.ref : Int) - (if hevc then 8 else 0)
  (!hevc || inTile)
    && (s.region n j x == .dirty && s.region n j (x + w - 1) == .dirty || decide (right < edge))
    && (v.ref != 0 || decide (low < lineLimit k))

/-! ## Samples -/

/-- The luma sample of a composed picture as the Face codes it: HEVC Main reduces it to 8 bits (R208). -/
def State.faceLuma (s : State) (n : Nat) (p : EncPic) (x y : Nat) : Nat :=
  let v := (((p.rows.getD (y / 128) EncRow.blank).lines.getD 0 []).getD (y % 128) []).getD x 0
  if s.cfg Reg.ENC_BS_FORMAT_PROFILE n = 4 then min 255 ((v + 2) / 4) else v

/-- The coded bit depth. -/
def State.encDepth (s : State) (n : Nat) : Nat := if s.cfg Reg.ENC_BS_FORMAT_PROFILE n = 4 then 8 else 10

/-- A luma sample of a reference, clamped to the subpicture in VVC (R216) and to the picture in HEVC. -/
def State.refLuma (s : State) (n pic : Nat) (b : Box) (x y : Int) : Int :=
  let (u, v) := if s.encCodec n = 0 then (clampInt b.x0 (b.x1 - 1) x, clampInt b.y0 (b.y1 - 1) y)
    else (clampInt 0 (s.cfg Reg.ENC_BS_SIZE_WIDTH n - 1 : Nat) x, clampInt 0 (s.cfg Reg.ENC_BS_SIZE_HEIGHT n - 1 : Nat) y)
  (Config.reconstructed [n, pic, 0, u, v] % 2 ^ s.encDepth n : Nat)

/-- The luma interpolation filter of both standards at a quarter-sample position (PRESUMED, log entry 125). -/
def lumaTaps (f : Nat) : List Int :=
  if f = 1 then [-1, 4, -10, 58, 17, -5, 1, 0] else if f = 2 then [-1, 4, -11, 40, 40, -11, 4, -1]
  else if f = 3 then [0, 1, -5, 17, 58, -10, 4, -1] else [0, 0, 0, 64, 0, 0, 0, 0]

/-- Eight samples from `a` weighted. -/
def tapSum (f : Nat) (r : Int → Int) (a : Int) : Int := ((lumaTaps f).zipIdx.map (fun e => e.1 * r (a - 3 + e.2))).foldl (· + ·) 0

/-- The predicted luma sample at (x, y) of a vector, horizontal filter first, in 14 bits between (log entry 125). -/
def predLuma (depth : Nat) (r : Int → Int → Int) (v : Vec) (x y : Nat) : Int :=
  let ix : Int := x + v.x / 4
  let iy : Int := y + v.y / 4
  let fx := (v.x % 4).toNat
  let fy := (v.y % 4).toNat
  let line := fun (yy : Int) => if fx = 0 then r ix yy * 2 ^ (14 - depth) else tapSum fx (fun xx => r xx yy) ix / 2 ^ (depth - 8)
  let m := if fy = 0 then line iy
    else if fx = 0 then tapSum fy (fun yy => r ix yy) iy / 2 ^ (depth - 8)
    else tapSum fy line iy / 64
  clampInt 0 (2 ^ depth - 1) ((m + 2 ^ (13 - depth)) / 2 ^ (14 - depth))

/-! ## Motion search (R227 to R230) -/

/-- The search blocks of a row side by side, and the size of the one at (bx, by) of row k: less at the picture's edge. -/
def State.blocksWide (s : State) (n : Nat) : Nat := ceilDiv (s.cfg Reg.ENC_BS_SIZE_WIDTH n) 16
def State.blockSize (s : State) (n k bx b : Nat) : Nat × Nat :=
  (min 16 (s.cfg Reg.ENC_BS_SIZE_WIDTH n - 16 * bx), min 16 (s.cfg Reg.ENC_BS_SIZE_HEIGHT n - (128 * k + 16 * b)))

/-- The key of a search block in its row's table. -/
def blockKey (bx b : Nat) : Nat := 512 * b + bx

/-- A search in progress: the slot, its picture, the row, the effort step, what earlier blocks of the row found. -/
structure Hunt where
  n : Nat
  pic : EncPic
  k : Nat
  step : Nat
  found : Table Motion

/-- What the search of picture N − 1 found in a row. -/
def State.foundBefore (s : State) (h : Hunt) (k : Nat) : Table Motion :=
  match (s.slot h.n).pics.find? (fun p => p.n + 1 == h.pic.n) with
  | some p => (p.rows.getD k EncRow.blank).motions
  | none => if (s.slot h.n).motionPrev.1 + 1 = h.pic.n then (s.slot h.n).motionPrev.2.getD k [] else []

/-- The refined vector of a block (bx, b), b counted in 16-line steps from the top of row k, none outside the picture or the subpicture of
the block at (x, y), or not searched yet. -/
def State.foundAt (s : State) (h : Hunt) (earlier : Bool) (box : Box) (bx b : Int) : Option (Int × Int) :=
  let px := 16 * bx
  let py := 128 * (h.k : Int) + 16 * b
  if px < box.x0 ∨ box.x1 ≤ px ∨ py < box.y0 ∨ box.y1 ≤ py then none
  else
    let row := (py / 128).toNat
    let t := if earlier then s.foundBefore h row
      else if row = h.k then h.found else (h.pic.rows.getD row EncRow.blank).motions
    (Table.find t (blockKey bx.toNat ((py % 128) / 16).toNat)).map (fun m => (m.vec.x, m.vec.y))

/-- The middle of three numbers. -/
def middle (a b c : Int) : Int := max (min a b) (min (max a b) c)

/-- Whether a record's rectangle holds a sample. -/
def Hint.holds (h : Hint) (x y : Nat) : Bool := decide (h.x ≤ x ∧ x < h.x + h.w ∧ h.y ≤ y ∧ y < h.y + h.h)

/-- A record's vector at a point in 1/4 sample times `scale` (R228, R233). -/
def Hint.vectorAt (h : Hint) (scale : Nat) (x y : Nat) : Int × Int :=
  let f : Rat := 4096 / (h.zoom : Rat) - 1
  let cx : Rat := (h.x : Rat) + (h.w : Rat) / 2
  let cy : Rat := (h.y : Rat) + (h.h : Rat) / 2
  (nearest ((scale : Rat) * ((h.dx : Rat) + 4 * ((x : Rat) - cx) * f)), nearest ((scale : Rat) * ((h.dy : Rat) + 4 * ((y : Rat) - cy) * f)))

/-- The composition candidates of a block (R228): up to eight records, those that hold its centre first, then those that hold a corner. -/
def hintVectors (hs : List Hint) (x y : Nat) : List (Int × Int) :=
  let live := hs.filter (fun h => !h.cut)
  let mid := fun (h : Hint) => h.holds (x + 8) (y + 8)
  let corner := fun (h : Hint) => h.holds x y || h.holds (x + 15) y || h.holds x (y + 15) || h.holds (x + 15) (y + 15)
  ((live.filter mid ++ live.filter (fun h => !(mid h) && corner h)).take 8).map (fun h => h.vectorAt 1 (x + 8) (y + 8))

/-- The most frequent vector of a row; among equally frequent ones which is open. -/
def mostFrequent (l : List (Int × Int)) : Option (Int × Int) :=
  let most := (l.map (fun v => l.count v)).foldl max 0
  let top := (l.filter (fun v => l.count v == most)).eraseDups
  top[Config.choice top % max 1 top.length]?

/-- The candidates of a block with their indices, before removal (R227). -/
def State.candidates (s : State) (h : Hunt) (bx b : Nat) : List (Nat × (Int × Int)) :=
  let x := 16 * bx
  let y := 128 * h.k + 16 * b
  let box := s.subpicBox h.n x y
  let c1 := s.foundAt h false box ((bx : Int) - 1) b
  let c2 := s.foundAt h false box bx ((b : Int) - 1)
  let c3 := s.foundAt h false box ((bx : Int) + 1) ((b : Int) - 1)
  let mid := match c1, c2, c3 with
    | some u, some v, some w => some (middle u.1 v.1 w.1, middle u.2 v.2 w.2)
    | _, _, _ => none
  let hints := if s.cfgOn Reg.ENC_BS_TOOLS_HINT_EN h.n then (hintVectors h.pic.hints x y).zipIdx.map (fun e => (7 + e.2, e.1)) else []
  let one := fun (i : Nat) (c : Option (Int × Int)) => c.toList.map (fun v => (i, v))
  (0, (0, 0)) :: (one 1 c1 ++ one 2 c2 ++ one 3 c3 ++ one 4 (s.foundAt h true box bx b)
    ++ one 5 (s.foundAt h true box ((bx : Int) + 1) ((b : Int) + 1)) ++ one 6 mid ++ hints
    ++ one 15 (mostFrequent ((s.foundBefore h h.k).map (fun e => (e.2.vec.x, e.2.vec.y)))))

/-- Drop what equals an earlier entry. -/
def dropEqual : List (Nat × (Int × Int)) → List (Int × Int) → List (Nat × (Int × Int))
  | [], _ => []
  | c :: l, seen => if seen.contains c.2 then dropEqual l seen else c :: dropEqual l (c.2 :: seen)

/-- λ at a QP (R229). A CTU's QP is its row's as planned: later changes (R255) come after analysis (DEDUCED, log entry 126). -/
def lambda (qp : Nat) : Rat := 57 / 100 * Config.power 2 (((qp : Rat) - 12) / 3)

/-- The differences of a block from its prediction. -/
def State.residue (s : State) (h : Hunt) (bx b : Nat) (v : Vec) : List Int :=
  let (w, ht) := s.blockSize h.n h.k bx b
  let x := 16 * bx
  let y := 128 * h.k + 16 * b
  let r := s.refLuma h.n (h.pic.n - 1 - v.ref) (s.subpicBox h.n x y)
  (List.range ht).flatMap (fun j => (List.range w).map (fun i =>
    (s.faceLuma h.n h.pic (x + i) (y + j) : Int) - predLuma (s.encDepth h.n) r v (x + i) (y + j)))

/-- The score of a vector: SAD, or SATD, plus √λ × the estimated bits of its difference from the median candidate. -/
def State.vectorScore (s : State) (h : Hunt) (pred : Option (Int × Int)) (satd : Bool) (bx b : Nat) (v : Vec) : Rat :=
  let d := s.residue h bx b v
  let e := if satd then Config.satd d else (d.map Int.natAbs).foldl (· + ·) 0
  (e : Rat) + Config.power (lambda (h.pic.qp.getD h.k 0)) (1 / 2) * (Config.vectorBits pred (v.x, v.y) : Rat)

/-- The first entry of least score. -/
def least {α : Type} (score : α → Rat) : List α → Option α
  | [] => none
  | a :: l => match least score l with
    | none => some a
    | some b => if score a ≤ score b then some a else some b

/-- The offsets of a square of radius r, the smaller |dx| + |dy| first, then raster order (R230). -/
def offsets (r : Nat) : List (Int × Int) :=
  let all := (List.range (2 * r + 1)).flatMap (fun j => (List.range (2 * r + 1)).map (fun i => ((i : Int) - r, (j : Int) - r)))
  (List.range (2 * r + 1)).flatMap (fun m => all.filter (fun o => o.1.natAbs + o.2.natAbs == m))

/-- Best of a vector and its neighbours at multiples of `unit` quarter samples within radius r, illegal ones left out. -/
def State.refineBy (s : State) (h : Hunt) (pred : Option (Int × Int)) (satd : Bool) (bx b unit r : Nat) (v : Vec) : Option Vec :=
  let (w, ht) := s.blockSize h.n h.k bx b
  least (s.vectorScore h pred satd bx b)
    (((offsets r).map (fun o => ({ v with x := v.x + unit * o.1, y := v.y + unit * o.2 } : Vec))).filter
      (fun u => s.legal h.n h.pic.n h.k (16 * bx) (128 * h.k + 16 * b) w ht 4 u))

/-- A vector component at whole samples. -/
def wholeSample (v : Int) : Int :=
  if v % 4 = 0 then v else 4 * (v / 4 + if Config.roundsUp 7 ((v : Rat) / 4) then 1 else 0)

/-- The integer search radius, the fractional steps and the last candidate index of an effort step (R234). -/
def searchRadius (step : Nat) : Nat := if step ≤ 1 then 8 else if step ≤ 3 then 4 else if step = 4 then 2 else 0
def fractionSteps (step : Nat) : Nat := if step = 0 then 2 else if step ≤ 2 then 1 else 0
def lastCandidate (step : Nat) : Nat := if step ≤ 2 then 15 else if step = 3 then 10 else 8

/-- The search of a block (R227 to R230, R234): the best legal candidate refined, around the zero vector when there is none. -/
def State.searchBlock (s : State) (h : Hunt) (bx b : Nat) : Option Motion :=
  let (w, ht) := s.blockSize h.n h.k bx b
  let cs := s.candidates h bx b
  let pred := (cs.find? (fun c => c.1 == 6)).map (fun c => c.2)
  let refs := List.range (max 1 (s.cfg Reg.ENC_BS_TOOLS_NUM_REF h.n))
  let vs := ((dropEqual cs []).filter (fun c => decide (c.1 ≤ lastCandidate h.step))).flatMap (fun c => refs.map (fun r => (⟨c.2.1, c.2.2, r⟩ : Vec)))
  let best := least (s.vectorScore h pred false bx b) (vs.filter (fun v => s.legal h.n h.pic.n h.k (16 * bx) (128 * h.k + 16 * b) w ht 4 v))
  let start := best.getD ⟨0, 0, 0⟩
  if searchRadius h.step = 0 then best.map (fun v => ⟨v, 0, 0⟩)
  else
    let v1 := s.refineBy h pred false bx b 4 (searchRadius h.step) { start with x := wholeSample start.x, y := wholeSample start.y }
    let v2 := if fractionSteps h.step = 0 then v1 else v1.bind (s.refineBy h pred true bx b 2 1)
    let v3 := if fractionSteps h.step = 2 then v2.bind (s.refineBy h pred true bx b 1 1) else v2
    match v3 with
    | some v => some ⟨v, v.x - start.x, v.y - start.y⟩
    | none => best.map (fun v => ⟨v, 0, 0⟩)

/-- The search blocks of a CTU column of 128 of a row, in raster order. -/
def State.ctuBlocks (s : State) (n k col : Nat) : List (Nat × Nat) :=
  let h := rowHeight (s.cfg Reg.ENC_BS_SIZE_HEIGHT n) k
  (List.range (ceilDiv h 16)).flatMap (fun b => (List.range 8).filterMap (fun i =>
    if 8 * col + i < s.blocksWide n then some (8 * col + i, b) else none))

/-- The search of some CTU columns of a row, CTU by CTU. -/
def State.searchCols (s : State) (h : Hunt) (cols : List Nat) : Table Motion :=
  (cols.flatMap (s.ctuBlocks h.n h.k)).foldl (fun t e => match s.searchBlock { h with found := t } e.1 e.2 with
    | some m => Table.put t (blockKey e.1 e.2) m
    | none => t) h.found

/-! ## Mode decision (R232, R233) -/

/-- A coding unit's choice as the uninterpreted functions see it. -/
def CuMode.key : CuMode → List Int
  | .skip i => [0, i]
  | .merge i => [1, i]
  | .amvp v => [2, v.x, v.y, v.ref]
  | .affine a b c d r => [3, a, b, c, d, r]
  | .intra m => [4, m]
  | .grey => [5]
def cuKey (h : Hunt) (c : Cu) : List Int :=
  ([h.n, h.pic.n, c.x, c.y, c.w, c.h, b2n c.residual] : List Nat).map (fun i => (i : Int)) ++ c.mode.key

/-- SSE + λ × bits. -/
def cuScore (h : Hunt) (c : Cu) : Rat :=
  (Config.squaredError (cuKey h c) : Rat) + lambda (h.pic.qp.getD h.k 0) * (Config.choiceBits (cuKey h c) : Rat)

/-- The merge candidates of a coding unit: six in VVC, five in HEVC (PRESUMED, log entry 125). -/
def State.mergeList (s : State) (h : Hunt) (x y w ht : Nat) : List (Nat × Vec) :=
  (List.range (if s.encCodec h.n = 0 then 6 else 5)).filterMap (fun i =>
    (Config.mergeVector [h.n, h.pic.n, x, y, w, ht] i).map (fun v => (i, (⟨v.1, v.2.1, v.2.2 % max 1 (s.cfg Reg.ENC_BS_TOOLS_NUM_REF h.n)⟩ : Vec))))

/-- The refined vectors of the search blocks that a coding unit covers, each once. -/
def coveredVectors (h : Hunt) (x y w ht : Nat) : List Vec :=
  ((List.range (ceilDiv ht 16)).flatMap (fun j => (List.range (ceilDiv w 16)).filterMap (fun i =>
    (Table.find h.found (blockKey (x / 16 + i) ((y - 128 * h.k) / 16 + j))).map (fun m => m.vec)))).eraseDups

/-- The control-point vectors of the affine candidates of a coding unit (R233): derived, and with the refinement offset at its centre. -/
def affinePairs (h : Hunt) (x y w ht : Nat) : List (Int × Int × Int × Int) :=
  match h.pic.hints.find? (fun r => !r.cut && r.zoom != 0x1000 && r.holds (x + w / 2) (y + ht / 2)) with
  | none => []
  | some r =>
    let a := r.vectorAt 4 x y
    let c := r.vectorAt 4 (x + w) y
    let plain := [(a.1, a.2, c.1, c.2)]
    match Table.find h.found (blockKey ((x + w / 2) / 16) ((y + ht / 2 - 128 * h.k) / 16)) with
    | some m => plain ++ [(a.1 + 4 * m.offX, a.2 + 4 * m.offY, c.1 + 4 * m.offX, c.2 + 4 * m.offY)]
    | none => plain

/-- Whether every 4 × 4 sub-block vector of a 4-parameter affine candidate is legal. -/
def State.affineLegal (s : State) (h : Hunt) (x y w ht : Nat) (a : Int × Int × Int × Int) (ref : Nat) : Bool :=
  let gx : Rat := ((a.2.2.1 - a.1 : Int) : Rat) / (w : Rat)
  let gy : Rat := ((a.2.2.2 - a.2.1 : Int) : Rat) / (w : Rat)
  (List.range (ht / 4)).all (fun j => (List.range (w / 4)).all (fun i =>
    let px : Rat := ((4 * i + 2 : Nat) : Rat)
    let py : Rat := ((4 * j + 2 : Nat) : Rat)
    s.legal h.n h.pic.n h.k (x + 4 * i) (y + 4 * j) 4 4 16 ⟨nearest ((a.1 : Rat) + gx * px - gy * py), nearest ((a.2.1 : Rat) + gy * px + gx * py), ref⟩))

/-- Whether an intra mode may read only samples outside the dirty area: an angular mode that leans to the upper right reads the samples
above the next block (R223; DEDUCED, log entry 127). -/
def State.intraOk (s : State) (h : Hunt) (x w m : Nat) : Bool :=
  let j := s.sweepPos h.n h.pic.n
  let vertical := if s.encCodec h.n = 0 then 50 else 26
  s.region h.n j x == .dirty || decide (m ≤ vertical) || s.region h.n j (x + 2 * w - 1) != .dirty

/-- The intra choice of a block of 32, 16 or 8: planar, DC and every second angular mode, then the two neighbours of the best. -/
def State.intraChoices (s : State) (h : Hunt) (x y w ht : Nat) : List Cu :=
  if w ≠ ht ∨ !([8, 16, 32].contains w) then []
  else
    let top := (s.encTools h.n).intraModes
    let cu := fun (m : Nat) => ({ x := x, y := y, w := w, h := ht, mode := .intra m, residual := true } : Cu)
    let first := ((0 :: 1 :: (List.range ((top - 1) / 2)).map (fun i => 2 + 2 * i)).filter (s.intraOk h x w)).map cu
    match least (cuScore h) first with
    | some { mode := .intra m, .. } => first ++ (if 2 ≤ m then (([m - 1, m + 1] : List Nat).filter (fun i => decide (2 ≤ i ∧ i < top) && s.intraOk h x w i)).map cu else [])
    | _ => first

/-- The inter choices of a coding unit: skip, merge, AMVP, affine, each legal (R231 to R233). -/
def State.interChoices (s : State) (h : Hunt) (x y w ht : Nat) : List Cu :=
  let cu := fun (m : CuMode) (r : Bool) => ({ x := x, y := y, w := w, h := ht, mode := m, residual := r } : Cu)
  let ok := fun (v : Vec) => s.legal h.n h.pic.n h.k x y w ht 4 v
  let ms := (s.mergeList h x y w ht).filter (fun e => ok e.2)
  let aff := if (s.encTools h.n).affine4 ∧ h.step ≤ 3 ∧ 16 ≤ w ∧ 16 ≤ ht then
      (List.range (max 1 (s.cfg Reg.ENC_BS_TOOLS_NUM_REF h.n))).flatMap (fun r => ((affinePairs h x y w ht).filter (fun a => s.affineLegal h x y w ht a r)).map
        (fun a => cu (.affine a.1 a.2.1 a.2.2.1 a.2.2.2 r) true)) else []
  ms.map (fun e => cu (.skip e.1) false) ++ ms.map (fun e => cu (.merge e.1) true)
    ++ ((coveredVectors h x y w ht).filter ok).map (fun v => cu (.amvp v) true) ++ aff

/-- The best choice for one coding unit; ties fall to skip, merge, AMVP, affine, then intra. The band is intra only (R222). -/
def State.bestCu (s : State) (h : Hunt) (x y w ht : Nat) : Option Cu :=
  let band := s.region h.n (s.sweepPos h.n h.pic.n) x == .band
  least (cuScore h) ((if band then [] else s.interChoices h x y w ht) ++ s.intraChoices h x y w ht)

/-- The score of some coding units. -/
def unitsScore (h : Hunt) (l : List Cu) : Rat := (l.map (cuScore h)).foldl (· + ·) 0

/-- The better of two ways to code an area, the first (the larger coding unit) on a tie. -/
def better (h : Hunt) (a b : Option (List Cu)) : Option (List Cu) :=
  match a, b with
  | some u, some v => if unitsScore h u ≤ unitsScore h v then some u else some v
  | some u, none => some u
  | none, v => v

/-- All parts of an area coded. -/
def joinUnits : List (Option (List Cu)) → Option (List Cu)
  | [] => some []
  | none :: _ => none
  | some u :: l => (joinUnits l).map (u ++ ·)

/-- The coding units of a square of 2^e samples: whole, in two halves (VVC, of 64 to 16), or in four; parts outside the picture hold nothing. -/
def State.codeSquare (s : State) (h : Hunt) : Nat → Nat → Nat → Option (List Cu)
  | 0, _, _ => some []
  | e + 1, x, y =>
    let size := 2 ^ (e + 3)
    let pw := s.cfg Reg.ENC_BS_SIZE_WIDTH h.n
    let ph := s.cfg Reg.ENC_BS_SIZE_HEIGHT h.n
    if pw ≤ x ∨ ph ≤ y then some []
    else
      let fits := decide (x + size ≤ pw ∧ y + size ≤ ph)
      let one := fun (w ht dx dy : Nat) => (s.bestCu h (x + dx) (y + dy) w ht).map (fun c => [c])
      let half := size / 2
      let whole := if fits then one size size 0 0 else none
      let halves := if fits ∧ (s.encTools h.n).halves ∧ 16 ≤ size ∧ size ≤ 64 then
          better h (joinUnits [one half size 0 0, one half size half 0]) (joinUnits [one size half 0 0, one size half 0 half]) else none
      let four := if e = 0 then none else joinUnits [s.codeSquare h e x y, s.codeSquare h e (x + half) y, s.codeSquare h e x (y + half), s.codeSquare h e (x + half) (y + half)]
      better h whole (better h halves four)

/-! ## CTUs -/

/-- The size of a CTU of a slot. -/
def State.ctuSize (s : State) (n : Nat) : Nat := (s.encTools n).ctu

/-- A CTU's key in its row's table: CTU row within the row and CTU column. -/
def ctuKey (cx cy : Nat) : Nat := 1024 * cy + cx

/-- The CTUs of columns of 128 of a row, as a tile's slice codes them (R214): raster within the slice. -/
def State.ctusOf (s : State) (n k : Nat) (cols : List Nat) : List (Nat × Nat) :=
  if s.encCodec n = 0 then cols.map (fun c => (c, 0))
  else
    let w := s.cfg Reg.ENC_BS_SIZE_WIDTH n
    (List.range (ceilDiv (rowHeight (s.cfg Reg.ENC_BS_SIZE_HEIGHT n) k) 64)).flatMap (fun j =>
      cols.flatMap (fun c => (([2 * c, 2 * c + 1] : List Nat).filter (fun i => decide (64 * i < w))).map (fun i => (i, j))))

/-- The CTU columns of 128 of a subpicture column. -/
def State.colCtus (s : State) (n c : Nat) : List Nat :=
  let w := s.cfg Reg.ENC_BS_SP_W n
  ((List.range w).map (· + c * w)).filter (fun i => decide (i < ctus (s.cfg Reg.ENC_BS_SIZE_WIDTH n)))

/-- One coding unit over a CTU. -/
def ctuUnit (size k cx cy : Nat) (m : CuMode) : List Cu :=
  [{ x := size * cx, y := 128 * k + size * cy, w := size, h := size, mode := m, residual := false }]

/-- A CTU in Spoil form (R248). -/
def State.spoilForm (s : State) (h : Hunt) (cx cy : Nat) : List Cu :=
  let size := s.ctuSize h.n
  let j := s.sweepPos h.n h.pic.n
  let x := size * cx
  let rightmost := s.encCodec h.n == 1 && decide (x + 64 = s.cleanEdge h.n j 0)
  if h.pic.n = (s.slot h.n).first ∨ s.region h.n j x = .band ∨ (s.region h.n j x = .clean ∧ rightmost) then ctuUnit size h.k cx cy (.intra 1)
  else match (s.mergeList h x (128 * h.k + size * cy) size size).find? (fun e => e.2 == ⟨0, 0, 0⟩) with
    | some e => ctuUnit size h.k cx cy (.skip e.1)
    | none => ctuUnit size h.k cx cy (.amvp ⟨0, 0, 0⟩)

/-- A CTU as mode decision codes it (R225, R232): the IDR picture grey but for its band; the first sweep's dirty CTUs skipped. -/
def State.codeCtu (s : State) (h : Hunt) (cx cy : Nat) : List Cu :=
  let size := s.ctuSize h.n
  let j := s.sweepPos h.n h.pic.n
  let dirty := s.region h.n j (size * cx) == .dirty
  if h.pic.n = (s.slot h.n).first ∧ dirty then ctuUnit size h.k cx cy .grey
  else if s.on (Reg.ENC_BS_FIRST_SWEEP h.n) ∧ dirty then s.spoilForm h cx cy
  else (s.codeSquare h (if size = 128 then 5 else 4) (size * cx) (128 * h.k + size * cy)).getD []

/-- The CTU columns of 128 that a Face has of a slot (R236). -/
def State.faceCols (s : State) (n face : Nat) : List Nat :=
  ((s.slot n).faces.zipIdx.filter (fun e => e.1 == face)).flatMap (fun e => s.colCtus n e.2)

/-- A Face's share of row k of a picture (R219): analysis, then mode decision of its columns, or Spoil form in a Spoil row. No motion is
searched in the first picture. -/
def State.codeRow (s : State) (n face k step : Nat) (p : EncPic) : EncPic :=
  let cols := s.faceCols n face
  { p with rows := p.rows.modify k (fun r =>
    let h : Hunt := { n := n, pic := p, k := k, step := step, found := r.motions }
    let found := if p.n = (s.slot n).first then r.motions else s.searchCols h cols
    let h1 : Hunt := { h with found := found }
    { r with motions := found,
             cus := (s.ctusOf n k cols).foldl (fun t c => Table.put t (ctuKey c.1 c.2) (if r.spoil then s.spoilForm h1 c.1 c.2 else s.codeCtu h1 c.1 c.2)) r.cus }) }

end Sys2Proof.Machine
end

