-- ==== Sys2Proof/Machine/Encoder.lean ====
section
/-! DEFINITION. Encode slots: the picture's plan and admission (chapters 08 and 09), coded slices, packetization into RTP streams
and the transport stream (chapter 10), late rows (R37), effort steps (R234, R235). Entropy coding is the standards' and is not computed:
the bits that each CTU took are a command's operand. -/

namespace Sys2Proof.Machine

/-! ## Planning -/

/-- The rounded 6 × log2 of a ratio at least 1, held to `m` (R254): the largest j ≤ m with ratio^12 ≥ 2^(2j−1). -/
def log6 (r : Rat) : Nat → Nat
  | 0 => 0
  | j + 1 => if ((2 ^ (2 * j + 1) : Nat) : Rat) ≤ r ^ 12 then j + 1 else log6 r j

/-- The change of a row's QP (R254), held to ±dqp; a plan of 0 bytes asks for the most. -/
def rowDqp (prev : Rat) (a dqp : Nat) : Int :=
  if a = 0 then (dqp : Int)
  else if (a : Rat) ≤ prev then ((log6 (prev / a) dqp : Nat) : Int) else -((log6 ((a : Rat) / prev) dqp : Nat) : Int)


/-- F of a slot. -/
def State.fullness (s : State) (n : Nat) : Int := signed 32 (s.get (Reg.RC_BS_FULLNESS n))

/-- t_n of R254: F/8 truncated toward zero, B_tgt/2 rounded up. -/
def targetOf (r : Rc) (f : Int) (nr : Nat) : Nat :=
  (clampInt (ceilDiv r.bTgt 2 : Nat) ((r.bMax : Int) - r.overhead - (nr * r.sRow : Nat)) ((r.bTgt : Int) - Int.tdiv f 8)).toNat

/-- The subpicture column that holds the first CTU column of the band of picture j (R222). -/
def State.bandCol (s : State) (n j : Nat) : Nat := (j * s.cfg Reg.ENC_BS_GDR_COLS n) / s.cfg Reg.ENC_BS_SP_W n


/-- The previous bytes of a slice, with the exchange of the band's slices (R254); a slice never coded has a free value. -/
def State.slicePrev (s : State) (n band k c : Nat) : Nat :=
  let x := s.slot n
  let c' := if c = band then x.bandPrev else if c = x.bandPrev then band else c
  match Table.find x.slicePrev (64 * k + c') with
  | some b => b
  | none => 1 + Config.free (s.free + 64 * k + c') % 2 ^ 24


/-- The plan of picture N at its c_0 (R254). -/
def State.planOf (s : State) (n pic : Nat) (a : Allow) (r : Rc) : EncPic :=
  let x := s.slot n
  let nr := s.encRows 1 n
  let cols := s.encCols n
  let prev := (List.range nr).map (fun k => x.bytesPrev.getD k ((r.bTgt : Rat) / nr))
  let total := prev.foldl (· + ·) 0
  let t := targetOf r (s.fullness n) nr
  let plan := prev.map (fun b => ((t : Rat) * b / total).floor.toNat)
  let qp := (List.range nr).map (fun k =>
    (clampInt r.qpMin r.qpMax ((x.qpPrev.getD k (s.cfg Reg.RC_BS_QP_INIT n) : Int) + rowDqp (prev.getD k 0) (plan.getD k 0) r.dqp)).toNat)
  let band := s.bandCol n (s.sweepPos n pic)
  let ps := (List.range nr).map (fun k =>
    let w := (List.range cols).map (s.slicePrev n band k)
    w.map (fun b => plan.getD k 0 * b / sumNat w))
  { n := pic, allow := a, rc := r, target := t, plan := plan, qp := qp, ps := ps, hints := (s.cmp n).hints,
    rows := List.replicate nr EncRow.blank,
    head := none, hdr := [], qpLo := 63, qpHi := 0 }

/-! ## Composition start -/

/-- The launch units of an encode slot's rows: its Faces and its slice engines. -/
def State.rowUnits (s : State) (n : Nat) : List Nat := (s.slotFaces n).map (16 + ·) ++ (s.slotEngines n).map (32 + ·)

/-- The encode row start of row k: c_k + P_r (R219). -/
def State.rowStartAt (s : State) (n : Nat) (a : Allow) (pic k : Nat) : Rat := s.c0 n a pic + ((k + 1 : Nat) : Rat) * s.encPr 1 n

/-- e_k (R219). -/
def State.releaseAt (s : State) (n : Nat) (a : Allow) (pic k : Nat) : Rat := s.c0 n a pic + ((k + 4 : Nat) : Rat) * s.encPr 1 n

/-- t_N and t_N + D of a slot's picture, in 2^-16 ns. -/
def State.captureOf (s : State) (n pic : Nat) : Rat := (pic : Rat) * s.encPf 1 n
def State.presentOf (s : State) (n pic : Nat) : Rat := s.captureOf n pic + delayU (s.cfg Reg.ENC_BS_D_NS n) (s.encPf 1 n)

/-- COMPOSITION_START (R100, R102, R173, R254, R256): the slot RUNNING, the picture latched and planned, row 0 and the next
picture queued. -/
def State.compositionStart (s : State) (n pic : Nat) : State :=
  let x := s.slot n
  let s0 := if s.slotState n = slotStarting then s.set (Reg.ENC_BS_RUN_STATE n) slotRunning else s
  let a := x.allowAt pic
  let r := if x.commitAt = s.lc ∧ x.rcBefore.isSome then x.rcBefore.getD (s.rcOf 1 n) else s.rcOf 1 n
  let s1 := s0.cmpLatch n pic (s.captureOf n pic) (s.presentOf n pic)
  let p := s1.planOf n pic a r
  let s2 := (s1.updSlot n (fun y =>
      { y with pics := y.pics ++ [p], next := pic + 1, allow := a, allowNext := y.allowNext.filter (fun e => decide (pic < e.1)),
               bandPrev := s.bandCol n (s.sweepPos n pic) })).setAll
    [(Reg.RC_BS_ROW_MAX_EFF n, r.rowMax), (Reg.RC_BS_ROW_FLOOR_EFF n, r.rowFloor)]
  let s3 : State := { s2 with free := s2.free + 4096 }
  let s4 := (s.rowUnits n).foldl (fun (t : State) u => t.launchAt u 2 (instant (s.rowStartAt n a pic 0)) (.encodeRow n pic 0)) s3
  s4.queueComposition n (pic + 1)

/-! ## Admission -/

/-- How an earlier row counts at an admission (R250). -/
def EncRow.counted (s : State) (rowMax : Nat) (r : EncRow) : Nat :=
  match r.doneAt with
  | some k => if k < s.lc then sumNat (r.slices.map (fun e => e.2)) else (r.charge.getD (r.cap.getD rowMax))
  | none => r.charge.getD (r.cap.getD rowMax)

/-- Note the charges of rows whose mode decision completed before the tick (R246, R250). -/
def EncPic.decide (p : EncPic) (l : List (Fin 64 × Nat)) : EncPic :=
  { p with rows := l.foldl (fun rows e => rows.modify e.1.val (fun r =>
      match r.cap, r.charge with
      | some c, none => if e.2 ≤ c ∧ sumNat (r.slices.map (fun x => x.2)) ≤ e.2 then { r with charge := some e.2 } else r
      | _, _ => r)) p.rows }

/-- Admit row k of a picture (R250): its cap, and whether it is a Spoil row. -/
def State.admission (s : State) (p : EncPic) (k : Nat) : Nat × Bool :=
  let r := p.rc
  let before := p.rows.take k
  let used := r.overhead + sumNat (before.map (EncRow.counted s r.rowMax))
  let room : Int := (r.bMax : Int) - used - (r.sRow * (p.rows.length - 1 - k) : Nat)
  if before.all (fun x => !x.spoil) && decide ((r.rowFloor : Int) ≤ room) then (min room.toNat r.rowMax, false) else (r.sRow, true)

/-- What a checkpoint carries of a picture: its rate state, not its samples (R259). -/
def EncPic.rateState (p : EncPic) : EncPic :=
  { p with hints := [], rows := p.rows.map (fun r => { r with lines := [], motions := [], cus := [] }) }

/-- The state of rate control that a checkpoint carries, and the rest of a CKPT record (R259, R437). -/
def State.ckptOf (s : State) (n row : Nat) (pic : Option EncPic) : Ckpt :=
  let x := s.slot n
  let mine := s.tim.queues.flatMap (fun e => (e.2.filter (fun q => (q.act.slotOf == some n || s.unitOfSlot e.1 n) && q.ref != 0)).map (fun q => (e.1, q)))
  { row := row, ns := s.dtNsNow, pic := pic.map EncPic.rateState, fullness := s.get (Reg.RC_BS_FULLNESS n), bytesPrev := x.bytesPrev, qpPrev := x.qpPrev,
    slicePrev := x.slicePrev, joined := s.on (Reg.DEC_BS_JOINED n), up := s.on (Reg.DEC_BS_STREAM_UP n), lastP := x.dec.lastP,
    marks := x.dec.marks.map (fun e => e.1), launches := mine,
    rings := (s.rings.filter (fun e => (e.2.kind == .sub || e.2.kind == .bsIn) &&
      Table.find s.trp.ringPrev e.1 != some (e.2.cons, (match s.ring e.2.pair with | some c => c.prod | none => 0)))).map
        (fun e => (e.1, e.2.cons, (match s.ring e.2.pair with | some c => c.prod | none => 0))),
    saf := fourSlots.map (fun k => ((s.saf k).shownSeq, (s.saf k).shownState)) }

/-- Send a CKPT (R437): ring indices count from the previous CKPT of any slot. -/
def State.checkpoint (s : State) (n pic row : Nat) (p : Option EncPic) : State :=
  if s.flying then
    let c := s.ckptOf n row p
    let s1 := s.mirror (.ckpt n pic c)
    { s1 with trp := { s1.trp with ringPrev := c.rings.foldl (fun t e => Table.put t e.1 (e.2.1, e.2.2)) s1.trp.ringPrev } }
  else s

/-- The effort step a unit takes over at a row start (R235): a change in this very tick applies from the row after. -/
def State.effortNow (s : State) : Nat := if s.effortWas.2 = s.lc ∧ s.lc ≠ 0 then s.effortWas.1 else s.get Reg.ENC_CTRL_EFFORT

/-- A Face takes the step in force. -/
def State.takeEffort (s : State) (u : Nat) : State :=
  if 16 ≤ u ∧ u < 32 then { s with faceStep := Table.put s.faceStep (u - 16) s.effortNow } else s

/-- A Face codes its columns of a row at the step it has taken (R219, R235). -/
def State.faceRow (s : State) (u n pic k : Nat) : State :=
  match (s.slot n).pics.find? (fun p => p.n == pic) with
  | some p => if 16 ≤ u ∧ u < 32 then s.setPic n (s.codeRow n (u - 16) k (Table.getD s.faceStep (u - 16) 0) p) else s
  | none => s

/-- ENCODE_ROW_START (R219, R235, R250 to R252): the first unit to start row k has it admitted; each Face codes its share, and each unit
queues the next row. -/
def State.encodeRowStart (s : State) (u n pic k : Nat) (decided : List (Fin 64 × Nat)) : State :=
  let s0 := s.takeEffort u
  match (s0.slot n).pics.find? (fun p => p.n == pic) with
  | none => s0
  | some p0 =>
    let p := p0.decide decided
    let s1 := if (p.rows.getD k { EncRow.blank with cap := some 0 }).cap.isSome then s0.setPic n p
      else
        let (cap, spoil) := s0.admission p k
        let q := { p with rows := p.rows.modify k (fun r => { r with cap := some cap, spoil := spoil }) }
        let s2 := s0.setPic n q
        let s3 := if spoil then
            let s3 := s2.bump (Reg.RC_BS_SPOIL_ROW_CNT n)
            if (p.rows.take k).all (fun r => !r.spoil) then
              (s3.bump (Reg.RC_BS_SPOIL_PIC_CNT n)).raise 0x6901 (objSlot n) { w16 := k, w20 := pic % 2 ^ 32 }
            else s3
          else s2
        s3.checkpoint n pic k (some q)
    let s2 := s1.faceRow u n pic k
    if k + 1 < p.rows.length then s2.launchAt u 2 (instant (s.rowStartAt n p.allow pic (k + 1))) (.encodeRow n pic (k + 1)) else s2

/-! ## Streams and packets -/

/-- The stream that carries a subpicture column. -/
def State.streamOf (s : State) (n col : Nat) : Nat :=
  ((List.range 8).find? (fun m => decide (m < s.cfg Reg.ENC_BS_PKT_STREAMS n)
    && decide (s.get (bank 1 (Reg.ENC_BS_STR_COL_FIRST n m)) ≤ col ∧ col ≤ s.get (bank 1 (Reg.ENC_BS_STR_COL_LAST n m))))).getD 0

/-- The streams of a slot. -/
def State.streams (s : State) (n : Nat) : List Nat := List.range (s.cfg Reg.ENC_BS_PKT_STREAMS n)

/-- The lanes of a stream, path 0 first (R260). -/
def State.streamLanes (s : State) (n m : Nat) : List Nat :=
  s.get (bank 1 (Reg.ENC_BS_STR_LANE0 n m)) :: (if s.get (bank 1 (Reg.ENC_BS_STR_PATH1_EN n m)) = 1 then [s.get (bank 1 (Reg.ENC_BS_STR_LANE1 n m))] else [])

/-- The header fields of a stream as its packets carry them (R261): the live ones (R286), then PT and SSRC. -/
def State.streamHdr (s : State) (n m : Nat) : List Nat :=
  ([Reg.ENC_BS_STR_GROUP n m, Reg.ENC_BS_STR_DST_PORT n m, Reg.ENC_BS_STR_SRC_PORT n m, Reg.ENC_BS_STR_DSCP n m, Reg.ENC_BS_STR_TTL n m,
    Reg.ENC_BS_STR_TAG_EN n m, Reg.ENC_BS_STR_PCP n m, Reg.ENC_BS_STR_VID n m, Reg.ENC_BS_STR_PT n m, Reg.ENC_BS_STR_SSRC n m] : List Field).map
    (fun f => s.get (bank 1 f))

/-- The bytes a check unit appends to a stream's packets (R420). -/
def State.appendLen (s : State) (n m : Nat) : Nat :=
  match s.checkUnit 1 1 (8 * n + m) with
  | none => 0
  | some c => ceilDiv (s.get (Reg.CHK_WIDTH c)) 8

/-- The payload limit of a stream (R262, R420). -/
def State.payloadLimit (s : State) (n m : Nat) : Nat := s.cfg Reg.ENC_BS_PKT_MTU n - 40 - s.appendLen n m

/-- The payloads of `len` bytes in pieces of at most `lim`. -/
def pieces (lim : Nat) : Nat → Nat → List Nat
  | 0, _ => []
  | fuel + 1, len => if len = 0 then [] else if len ≤ lim then [len] else lim :: pieces lim fuel (len - lim)

/-- The payloads of a NAL unit of `len` bytes without its start code (R262): one packet, or fragments that carry three bytes of
headers each in place of the unit's own two. -/
def nalPayloads (lim len : Nat) : List Nat :=
  if len ≤ lim then [len] else (pieces (lim - 3) len (len - 2)).map (· + 3)

/-- An Ethernet frame of a UDP datagram of `ip` bytes with its IP header (R261). -/
def frameLen (tagged : Bool) (ip : Nat) : Nat := max 64 (14 + (if tagged then 4 else 0) + ip + 4)

/-- Whether stream packets wait for the Catcher's acknowledgement (R438). -/
def State.gated (s : State) : Bool :=
  s.flying && s.on Reg.TRP_STATUS_PARTNER_READY && (match s.trp.partner with | none => false | some p => p.part == 0x4816)

/-- Enter a frame of a row into the queues of a stream's lanes (R263). -/
def State.enterFrame (s : State) (n pic row m : Nat) (f : Nat → TxFrame) (len : Nat) : State :=
  (s.streamLanes n m).zipIdx.foldl (fun (t : State) e =>
    t.enterQueue e.1 (s.get (bank 1 (Reg.ENC_BS_STR_TCLASS n m)))
      { frame := f e.2, len := len, stamp := t.lc, row := some (n, pic, row), eligible := true,
        cover := if s.gated then some (rowOrder pic row) else none, tc := none }) s

/-- The RTP timestamp of picture N (R261). -/
def State.rtpStamp (s : State) (n pic : Nat) : Nat := (s.captureOf n pic / ((secUnits : Nat) : Rat) * 90000).floor.toNat % 2 ^ 32

/-- Send payloads on a stream, the last with the marker when `last` (R261). -/
def State.sendPayloads (s : State) (n pic row m : Nat) (hdr : List Nat) (last : Bool) : List Nat → State
  | [] => s
  | b :: l =>
    let x := s.slot n
    let q := Table.getD x.seqs m 0
    let s1 := s.setSlot n { x with seqs := Table.put x.seqs m ((q + 1) % 2 ^ 16) }
    let a := s.appendLen n m
    let s2 := match s.checkUnit 1 1 (8 * n + m) with
      | none => s1
      | some c => s1.count (Reg.CHK_PKT_CNT c) (s.streamLanes n m).length
    (s2.enterFrame n pic row m (fun path => .stream n m path q (s.rtpStamp n pic) b (last && l.isEmpty) hdr)
      (frameLen (hdr.getD 5 0 == 1) (40 + b + a))).sendPayloads n pic row m hdr last l

/-! ## The transport stream -/

/-- The room of the next TS packet (R265): 184 bytes, 8 less when it carries a PCR. -/
def TsState.pcrDue (t : TsState) (lc : Nat) : Bool :=
  t.start || (match t.lastPcr with | none => true | some k => decide (k + 20 * 1000 * ticksPerUs < lc))

/-- Take bytes into TS packets; at the end of an access unit the last packet is stuffed. -/
def tsPack (lc : Nat) (fin : Bool) : Nat → TsState → TsState
  | 0, t => t
  | fuel + 1, t =>
    let room := if t.pcrDue lc then 176 else 184
    if room ≤ t.bytes ∨ (fin ∧ 0 < t.bytes) then
      tsPack lc fin fuel { t with bytes := t.bytes - room, packets := t.packets ++ [t.pcrDue lc], start := false,
                                  lastPcr := if t.pcrDue lc then some lc else t.lastPcr }
    else t

/-- Send datagrams of 7 TS packets, and of fewer at the end of an access unit (R265). -/
def State.tsFlush (n pic row : Nat) (fin : Bool) : Nat → State → State
  | 0, s => s
  | fuel + 1, s =>
    let x := s.slot n
    let k := min 7 x.ts.packets.length
    if k = 7 ∨ (fin ∧ 0 < k) then
      let rtp := s.cfgOn Reg.ENC_BS_PKT_TS_RTP n
      let q := Table.getD x.seqs 0 0
      let pcrs := ((x.ts.packets.take k).zipIdx.filter (fun e => e.1)).map (fun e => (e.2, 0))
      let s1 := s.setSlot n { x with ts := { x.ts with packets := x.ts.packets.drop k }, seqs := if rtp then Table.put x.seqs 0 ((q + 1) % 2 ^ 16) else x.seqs }
      State.tsFlush n pic row fin fuel
        (s1.enterFrame n pic row 0 (fun path => .ts n path q k (s.streamHdr n 0) (if rtp then some 0 else none) pcrs)
          (frameLen (s.get (bank 1 (Reg.ENC_BS_STR_TAG_EN n 0)) == 1) (28 + (if rtp then 12 else 0) + 188 * k)))
    else s

/-- Bytes of the access unit enter the transport stream (R265). -/
def State.tsBytes (s : State) (n pic row bytes : Nat) (fin : Bool) : State :=
  let s1 := s.updSlot n (fun x =>
    let t : TsState := { x.ts with bytes := x.ts.bytes + bytes }
    { x with ts := tsPack s.lc fin (t.bytes + 1) t })
  State.tsFlush n pic row fin ((s1.slot n).ts.packets.length + 1) s1

/-- TS_PSI_TIMER (R265): PAT and PMT, one TS packet each. -/
def State.tsPsi (s : State) (n : Nat) : State :=
  if (s.slotState n = slotRunning ∨ s.slotState n = slotStopping) ∧ s.slotKind n = 0 ∧ s.cfgOn Reg.ENC_BS_PKT_TS_EN n then
    match (s.slot n).pics with
    | [] => s
    | p :: _ =>
      let s1 := (s.updSlot n (fun x => { x with ts := { x.ts with packets := x.ts.packets ++ [false, false] } })).emit
        (.psi n (s.cfg Reg.ENC_BS_PKT_PMT_PID n) (s.cfg Reg.ENC_BS_PKT_VIDEO_PID n) (if s.encCodec n = 0 then 0x33 else 0x24))
      State.tsFlush n p.n 0 false ((s1.slot n).ts.packets.length + 1) s1
  else s

def execTsPsiTimer (n : Fin 4) (s : State) : Host.Outcome State Fault Refusal := .next (s.tsPsi n)

/-! ## Release -/

/-- Queue the release launch of a row on each lane that carries it, or mark the row released when e_k has come (R343). -/
def State.queueRelease (s : State) (n : Nat) (p : EncPic) (k : Nat) : State :=
  let e := instant (s.releaseAt n p.allow p.n k)
  let lanes := ((s.streams n).flatMap (s.streamLanes n)).eraseDups
  lanes.foldl (fun (t : State) i =>
    if t.due 1 e then
      { t with egr := { t.egr with released := Table.put t.egr.released (4 * i + n) (max (rowOrder p.n k) (Table.getD t.egr.released (4 * i + n) 0)) } }
    else t.launchAt (128 + i) 3 e (.release n p.n k)) s

/-- PACKET_RELEASE of a row on a lane (R343): its packets held there become eligible. -/
def State.releaseRow (s : State) (i n pic row : Nat) : State :=
  let o := max (rowOrder pic row) (Table.getD s.egr.released (4 * i + n) 0)
  let s1 : State := { s with egr := { s.egr with released := Table.put s.egr.released (4 * i + n) o } }
  ([0, 1, 2, 3, 4, 5, 6, 7] : List Nat).foldl (fun (t : State) c =>
    t.setFrames i c ((t.frames i c).map (fun f => match f.row with
      | some (k, p, r) => if k = n ∧ rowOrder p r ≤ o then { f with eligible := true } else f
      | none => f))) s1

/-- The stamp of picture N (R264). -/
def State.stampOf (s : State) (n pic : Nat) : Stamp :=
  let j := s.sweepPos n pic
  let p := instant (s.presentOf n pic)
  let t := instant (s.captureOf n pic)
  { version := 1, sweepStart := j == 0, firstSweep := s.on (Reg.ENC_BS_FIRST_SWEEP n), catcher := (s.slot n).catcher,
    sweepPos := BitVec.ofNat 8 j, sweepLen := BitVec.ofNat 8 (s.get (Reg.ENC_BS_SWEEP_LEN n)), pic := BitVec.ofNat 32 pic,
    pdtSec := BitVec.ofNat 48 (dtSec p), pdtNs := Fin.ofNat 1000000000 (dtNs p), pdtFrac := BitVec.ofNat 16 (dtFrac p),
    capSec := BitVec.ofNat 48 (dtSec t), capNs := Fin.ofNat 1000000000 (dtNs t),
    gdrCols := BitVec.ofNat 8 (s.cfg Reg.ENC_BS_GDR_COLS n) }

/-- The NAL units of picture N (R212, R218, R224, R225, R244). -/
def State.nalUnits (s : State) (n pic : Nat) : List NalUnit :=
  let hevc := s.encCodec n == 1
  let j := s.sweepPos n pic
  let len := s.get (Reg.ENC_BS_SWEEP_LEN n)
  let idr := pic == (s.slot n).first
  let start := idr || j == 0
  let p := s.seqParams n
  let t : SliceType := if idr then .idrNLp else if start && !hevc then .gdrNut else .trail
  .delimiter :: ((if start then (if hevc then [.vps p] else []) ++ [.sps p, .pps p] else []) ++ [.stampSei (s.stampOf n pic)]
    ++ (if hevc && start then [.recoverySei (len - 1) true, .tileSetsSei (List.range (p.cols * p.rows))] else [])
    ++ (if hevc then [] else [.pictureHeader t (if start && !idr then some (len - 1) else none) (s.virtualBoundary n j)]) ++ [.slices t])

/-- The bytes of a picture's non-VCL units with their start codes, all of them together at most `left` (R249): the delimiter takes 7, the
stamp at most 65, what the others take is the device's own. -/
def unitSizes (key : List Nat) (pic : Nat) : Nat → Nat → List NalUnit → List Nat
  | _, _, [] => []
  | _, _, .slices _ :: _ => []
  | left, i, u :: l =>
    let free := Config.unitBytes key pic i
    let size := min left (match u with
      | .delimiter => 7
      | .stampSei _ => 1 + free % 65
      | _ => 5 + free % (left + 1))
    size :: unitSizes key pic (left - size) (i + 1) l

/-- The payloads of units of given sizes without start codes (R262): aggregation packets (2 B and 2 B a unit) of as many units as fit, a
single NAL unit packet for one alone, fragments for one that does not fit. `got` are the units of the packet in hand. -/
def headPayloads (lim : Nat) : List Nat → List Nat → List Nat
  | got, [] => if got.isEmpty then [] else if got.length = 1 then got else [2 + sumNat got + 2 * got.length]
  | got, u :: l =>
    if 2 + sumNat got + 2 * got.length + 2 + u ≤ lim then headPayloads lim (got ++ [u]) l
    else
      let done := if got.isEmpty then [] else if got.length = 1 then got else [2 + sumNat got + 2 * got.length]
      if 2 + 2 + u ≤ lim then done ++ headPayloads lim [u] l else done ++ nalPayloads lim u ++ headPayloads lim [] l

/-- The non-VCL units of a picture go out before its first slice, on every stream, as part of row 0 (R262, R343). -/
def State.sendHead (s : State) (n : Nat) (p : EncPic) : State :=
  let sizes := unitSizes (s.encKey 1 n) p.n p.rc.overhead 0 (s.nalUnits n p.n)
  let bytes := sumNat sizes
  let hdr := (s.streams n).map (s.streamHdr n)
  let row0 := p.rows.modify 0 (fun r => { r with launched := true })
  let s1 := s.setPic n { p with head := some bytes, hdr := hdr, rows := row0 }
  let pts := if s.cfgOn Reg.ENC_BS_PKT_TS_EN n then
      some ((s.presentOf n p.n / ((secUnits : Nat) : Rat) * 90000).floor.toNat % 2 ^ 33) else none
  let s2 := (s1.emit (.accessUnit n (s.nalUnits n p.n) pts)).queueRelease n p 0
  if s.cfgOn Reg.ENC_BS_PKT_TS_EN n then
    (s2.updSlot n (fun x => { x with ts := { x.ts with start := true } })).tsBytes n p.n 0 (14 + bytes) false
  else (s.streams n).foldl (fun (t : State) m =>
    t.sendPayloads n p.n 0 m (hdr.getD m []) false (headPayloads (s.payloadLimit n m) [] (sizes.map (fun b => b - 4)))) s2

/-- The slices of a picture that have been released, per subpicture column. -/
def EncPic.releasedOf (p : EncPic) (cols : Nat → Bool) : Nat :=
  sumNat (p.rows.map (fun r => (r.slices.filter (fun e => cols e.1 && !(r.held.contains e))).length))

/-- The picture of a slot with a number. -/
def State.picOf (s : State) (n pic : Nat) : Option EncPic := (s.slot n).pics.find? (fun p => p.n == pic)

/-- Remove the entry a slice used of each BS_OUT ring. -/
def usePosted : List Posted → List Nat → List Posted
  | [], _ => []
  | e :: l, seen => if seen.contains e.rid.val then e :: usePosted l seen else usePosted l (e.rid.val :: seen)

/-- Release one slice (R220, R262, R133): its packets, its BS_OUT copies. `p` is its picture with the slice no longer held. -/
def State.releaseSlice (s : State) (n pic k : Nat) (sl : Nat × Nat) (posted : List Posted) : State :=
  match s.picOf n pic with
  | none => s
  | some p0 =>
    let first := p0.head.isNone
    let s1 := if first then s.sendHead n p0 else s
    match s1.picOf n pic with
    | none => s1
    | some p1 =>
      let row := p1.rows.getD k EncRow.blank
      let s2 := if row.launched then s1 else s1.queueRelease n p1 k
      let p := { p1 with rows := p1.rows.modify k (fun r => { r with launched := true, held := r.held.erase sl }) }
      let s3 := s2.setPic n p
      let cols := s.encCols n
      let m := s.streamOf n sl.1
      let mine := fun c => s.streamOf n c == m
      let lastOfStream := decide (p.releasedOf mine = p.rows.length * ((List.range cols).filter mine).length)
      let lastOfPic := decide (p.releasedOf (fun _ => true) = p.rows.length * cols)
      let s4 := if s.cfgOn Reg.ENC_BS_PKT_TS_EN n then s3.tsBytes n pic k sl.2 lastOfPic
        else s3.sendPayloads n pic k m (p.hdr.getD m []) lastOfStream (nalPayloads (s.payloadLimit n m) (sl.2 - 4))
      s4.bsOut n (posted.map (fun e => (e.rid.val, e.addr.toNat, e.size.toNat)))
        { length := sl.2 + (if first then p.head.getD 0 else 0), pdt := instant (s.presentOf n pic),
          subpic := k / s.cfg Reg.ENC_BS_SP_H n * cols + sl.1, auStart := first, auEnd := lastOfPic, spoil := row.spoil }

/-- Release slices of a row in turn. -/
def State.releaseSlices (s : State) (n pic k : Nat) (posted : List Posted) : List (Nat × Nat) → State × List Posted
  | [] => (s, posted)
  | sl :: l => (s.releaseSlice n pic k sl posted).releaseSlices n pic k (usePosted posted []) l

/-- Whether a row is past its e_k and not complete (R37). -/
def State.overdue (s : State) (n : Nat) (p : EncPic) (k : Nat) (r : EncRow) : Bool :=
  r.doneAt.isNone && s.past 1 (instant (s.releaseAt n p.allow p.n k))

/-- The rows of a slot in order, with their pictures. -/
def State.rowsOf (s : State) (n : Nat) : List (EncPic × Nat × EncRow) :=
  (s.slot n).pics.flatMap (fun p => p.rows.zipIdx.map (fun e => (p, e.2, e.1)))

/-- Whether an earlier row of the slot holds back the slices of row k of picture N. -/
def State.heldBack (s : State) (n pic k : Nat) : Bool :=
  (s.rowsOf n).any (fun e => decide (rowOrder e.1.n e.2.1 < rowOrder pic k) && s.overdue n e.1 e.2.1 e.2.2)

/-! ## A picture's end -/

/-- The bytes of a row. -/
def EncRow.bytes (r : EncRow) : Nat := sumNat (r.slices.map (fun e => e.2))

/-- The picture's record (R258). -/
def State.recordOf (s : State) (n : Nat) (p : EncPic) (f : Int) : PicRecord :=
  let guard := sumNat ((p.rows.filter (fun r => !r.spoil)).map (fun r => r.guarded))
  let spoil := p.rows.findIdx? (fun r => r.spoil)
  { pic := p.n % 2 ^ 32, bytes := p.head.getD 0 + sumNat (p.rows.map EncRow.bytes), target := p.target,
    peakRow := (p.rows.map EncRow.bytes).foldl max 0, guardCtus := guard, spoilFrom := spoil.getD 0xFF, qpLo := p.qpLo, qpHi := p.qpHi,
    flags := b2n spoil.isSome * 128 + b2n (guard != 0) * 64 + b2n (s.sweepPos n p.n == 0) * 32 + b2n (s.on (Reg.ENC_BS_FIRST_SWEEP n)) * 16,
    fullness := f }

/-- The history of R254 after a picture: rows coded without guarded CTUs, the slices' bytes. -/
def Slot.learn (x : Slot) (p : EncPic) (nr : Nat) (bTgt : Rat) (qpInit : Nat) : Slot :=
  let clean := fun (r : EncRow) => r.guarded == 0 && !r.spoil
  { x with
    bytesPrev := (List.range nr).map (fun k => match p.rows[k]? with
      | some r => if clean r then (r.bytes : Rat) else x.bytesPrev.getD k (bTgt / nr)
      | none => x.bytesPrev.getD k (bTgt / nr)),
    qpPrev := (List.range nr).map (fun k => match p.rows[k]? with
      | some r => if clean r then p.qp.getD k qpInit else x.qpPrev.getD k qpInit
      | none => x.qpPrev.getD k qpInit),
    slicePrev := (p.rows.zipIdx.flatMap (fun e => e.1.slices.map (fun sl => (64 * e.2 + sl.1, sl.2)))).foldl (fun t e => Table.put t e.1 e.2) x.slicePrev }

/-- The end of a picture (R225, R252, R254, R258): fullness, record, counters and events. -/
def State.endPicture (s : State) (n : Nat) (p : EncPic) : State :=
  let r0 := s.recordOf n p 0
  let f := clampInt (-(p.rc.bMax : Int)) p.rc.bMax (s.fullness n + r0.bytes - p.rc.bTgt)
  let nr := p.rows.length
  let s1 := s.updSlot n (fun x =>
    let y := x.learn p nr p.rc.bTgt (s.cfg Reg.RC_BS_QP_INIT n)
    { y with pics := x.pics.filter (fun q => q.n != p.n), motionPrev := (p.n, p.rows.map (fun r => r.motions)), records := (x.records ++ [{ r0 with fullness := f }]).drop (x.records.length + 1 - 256) })
  let s2 := (s1.set (Reg.RC_BS_FULLNESS n) (unsigned 32 f)).bump (Reg.ENC_BS_PIC_CNT n)
  let s3 := if r0.guardCtus = 0 then s2
    else ((s2.bump (Reg.RC_BS_GUARD_PIC_CNT n)).count (Reg.RC_BS_GUARD_CTU_CNT n) r0.guardCtus).raise 0x6902 (objSlot n) { w16 := r0.guardCtus }
  if s.sweepPos n p.n + 1 = s.get (Reg.ENC_BS_SWEEP_LEN n) then
    let s4 := s3.bump (Reg.ENC_BS_SWEEP_CNT n)
    if s.on (Reg.ENC_BS_FIRST_SWEEP n) then (s4.set (Reg.ENC_BS_FIRST_SWEEP n) 0).raise 0x0802 (objSlot n) {} else s4
  else s3

/-- The REF records of a row (R433): the size of each payload is a free value from 36 to 4,080 B. -/
def refRecords (seed n pic k count : Nat) : List MirrorRec :=
  (List.range count).map (fun j => .ref n pic k j (36 + Config.free (seed + j) % 4045))

/-- The SLICE records of a NAL unit (R431, R433): pieces of at most 4,072 B. -/
def sliceRecords (n pic k sp bytes : Nat) : List MirrorRec := (cuts 4072 bytes 0 bytes).map (fun c => .slice n pic k sp c.1 c.2)

/-- The MIRROR records of a row that is wholly released (R434): REF, SLICE, ROW_END. How many REF records its samples take is a
free value. -/
def State.mirrorRow (s : State) (n : Nat) (p : EncPic) (k : Nat) (r : EncRow) : State :=
  if s.flying then
    let (q, s1) := s.draw
    let refs := 1 + q % 4096
    let head := if k = 0 then sliceRecords n p.n 0 0xFFFF (p.head.getD 0) else []
    let sl := r.slices.flatMap (fun e => sliceRecords n p.n k (k / s.cfg Reg.ENC_BS_SP_H n * s.encCols n + e.1) e.2)
    (refRecords s1.free n p.n k refs ++ head ++ sl ++ [MirrorRec.rowEnd n p.n k (refs + (head ++ sl).length)]).foldl (fun (t : State) x => t.mirror x)
      { s1 with free := s1.free + refs }
  else s

/-- A row whose slices are all released (R37): late when its e_k has passed. -/
def State.rowReleasedNow (s : State) (n : Nat) (p : EncPic) (k : Nat) (r : EncRow) : State :=
  let s1 := s.setPic n { p with rows := p.rows.modify k (fun x => { x with released := true }) }
  let s2 := if s.past 1 (instant (s.releaseAt n p.allow p.n k)) then
      (s1.bump (Reg.ENC_BS_ROW_LATE_CNT n)).raise 0x5101 (objSlot n) { w16 := k + 256 * b2n r.own, w20 := p.n % 2 ^ 32 }
    else s1
  s2.mirrorRow n p k r

/-- Release what may go of every row of a slot in order, and end pictures wholly released. -/
def State.flushRows (n : Nat) (posted : List Posted) : List (Nat × Nat) → State → State
  | [], s => s
  | (pic, k) :: l, s =>
    match s.picOf n pic with
    | none => State.flushRows n posted l s
    | some p =>
      match p.rows[k]? with
      | none => State.flushRows n posted l s
      | some r =>
        if s.heldBack n pic k then s
        else
          let (s1, rest) := s.releaseSlices n pic k posted r.held
          match s1.picOf n pic with
          | none => State.flushRows n rest l s1
          | some p1 =>
            let r1 := p1.rows.getD k r
            let s2 := if r1.doneAt.isSome ∧ r1.held = [] ∧ !r1.released then s1.rowReleasedNow n p1 k r1 else s1
            let s3 := match s2.picOf n pic with
              | some p2 => if p2.rows.all (fun x => x.released) then s2.endPicture n p2 else s2
              | none => s2
            State.flushRows n rest l s3

/-! ## Slices -/

/-- The cap of slice c of row k (R251). -/
def State.sliceCap (s : State) (n : Nat) (p : EncPic) (k c : Nat) : Nat :=
  let codec := profileCodec (s.cfg Reg.ENC_BS_FORMAT_PROFILE n)
  let base := sliceCost codec (colWidth (s.cfg Reg.ENC_BS_SIZE_WIDTH n) (s.cfg Reg.ENC_BS_SP_W n) c) (rowHeight (s.cfg Reg.ENC_BS_SIZE_HEIGHT n) k)
  match p.rows[k]? with
  | some r => base + ((r.cap.getD 0) - p.rc.sRow) * (p.ps.getD k []).getD c 0 / sumNat (p.ps.getD k [])
  | none => 0

/-- The CTU at which the guard acts in a slice of `left` CTUs to come, after `sum` bits (R247); none when it does not. `j` counts the
CTUs decided. -/
def guardAt (g cap : Nat) : Nat → Nat → Nat → List Nat → Option Nat
  | _, _, _, [] => none
  | j, sum, left, b :: l =>
    if cap < chargeOf (sum + b + g * (left - 1) + 8) then some j else guardAt g cap (j + 1) (sum + b) (left - 1) l

/-- The bits of the CTUs of a completed slice that are coded as decided. -/
def keptBits (x : SliceDone) (g cap ctus : Nat) : List Nat := x.coded.take ((guardAt g cap 0 x.head ctus x.coded).getD x.coded.length)

/-- b of R246. -/
def sliceBits (x : SliceDone) (g cap ctus : Nat) : Nat := x.head + sumNat (keptBits x g cap ctus) + sumNat x.spoil + x.tail

/-- The QPs of a slice's CTUs coded as decided (R255): from qp[k], one up or down when the exact count so far is more than 1/8 off the same
fraction of p_s. -/
def ctuQps (base lo hi p ctus : Nat) : Nat → Nat → Nat → List Nat → List Nat
  | _, _, _, [] => []
  | q, sum, j, b :: l =>
    let bits := sum + b
    let want := 8 * p * (j + 1)
    let q1 := if 9 * want < 8 * bits * ctus then q + 1 else if 8 * bits * ctus < 7 * want then q - 1 else q
    q :: ctuQps base lo hi p ctus (max (max lo (base - 6)) (min (min hi (base + 6)) q1)) bits (j + 1) l

/-- The CTUs of a slice (R249). -/
def State.ctusOfSlice (s : State) (n k c : Nat) : Nat :=
  sliceCtus (s.encCodec n) (colWidth (s.cfg Reg.ENC_BS_SIZE_WIDTH n) (s.cfg Reg.ENC_BS_SP_W n) c) (rowHeight (s.cfg Reg.ENC_BS_SIZE_HEIGHT n) k)

/-- Whether a completed slice is one that the hardware can produce here (R241, R246 to R248, R252): its row admitted and composed, the slice
not complete yet; every CTU of a Spoil row in Spoil form, else those from the one at which the guard acts; no such CTU of more than
G bits; its charge within the slice cap, the row within its own charge. -/
def State.sliceOk (s : State) (n : Nat) (p : EncPic) (k c : Nat) (x : SliceDone) : Bool :=
  match p.rows[k]? with
  | none => false
  | some r =>
    let g := spoilBits (s.encCodec n)
    let cap := s.sliceCap n p k c
    let ctus := s.ctusOfSlice n k c
    let b := sliceBits x g cap ctus
    r.composed && r.cap.isSome && decide (c < s.encCols n) && r.slices.all (fun e => e.1 != c)
      && (if r.spoil then x.coded.isEmpty
          else match guardAt g cap 0 x.head ctus x.coded with
            | some j => decide (x.coded.length = j + 1)
            | none => decide (x.coded.length = ctus))
      && decide ((keptBits x g cap ctus).length + x.spoil.length = ctus) && x.spoil.all (fun e => decide (e ≤ g))
      && decide (x.emul ≤ ceilDiv b 8 / 2 ∧ chargeOf b ≤ cap)
      && decide (r.bytes + (4 + ceilDiv b 8 + x.emul) ≤ r.charge.getD (r.cap.getD 0))

/-- SLICE_COMPLETE (R220): the slice of the oldest picture that awaits it is complete, and goes out unless it waits behind an
overdue row. -/
def State.sliceComplete (s : State) (n k c : Nat) (x : SliceDone) (posted : List Posted) : State :=
  match (s.slot n).pics.find? (fun p => s.sliceOk n p k c x) with
  | none => s
  | some p =>
    let g := spoilBits (s.encCodec n)
    let cap := s.sliceCap n p k c
    let ctus := s.ctusOfSlice n k c
    let kept := keptBits x g cap ctus
    let bytes := 4 + ceilDiv (sliceBits x g cap ctus) 8 + x.emul
    let q := p.qp.getD k 0
    let qps := ctuQps q p.rc.qpMin p.rc.qpMax ((p.ps.getD k []).getD c 0) ctus q x.head 0 kept
    let h : Hunt := { n := n, pic := p, k := k, step := 0, found := [] }
    let p1 := { p with
      rows := p.rows.modify k (fun r =>
        let all := decide (r.slices.length + 1 = s.encCols n)
        { r with slices := r.slices ++ [(c, bytes)], held := r.held ++ [(c, bytes)], guarded := r.guarded + x.spoil.length,
                 doneAt := if all then some s.lc else none, own := all && s.past 1 (instant (s.releaseAt n p.allow p.n k)),
                 cus := ((s.ctusOf n k (s.colCtus n c)).drop kept.length).foldl (fun t e => Table.put t (ctuKey e.1 e.2) (s.spoilForm h e.1 e.2)) r.cus }),
      qpLo := qps.foldl min p.qpLo, qpHi := qps.foldl max p.qpHi }
    let s1 := s.setPic n p1
    State.flushRows n posted ((s1.rowsOf n).map (fun e => (e.1.n, e.2.1))) s1

def execSliceComplete (n : Fin 4) (row col : Fin 64) (x : SliceDone) (posted : List Posted) (s : State) : Host.Outcome State Fault Refusal :=
  .next (s.sliceComplete n row col x posted)

/-! ## Effort -/

/-- Put the step in force (R234, R235): the larger of EFFORT_FLOOR and THERM_STEP; a change is counted and raises 0xA801. -/
def State.settleEffort (s : State) : State :=
  let e := max (s.get Reg.ENC_CTRL_EFFORT_FLOOR) (s.get Reg.ENC_CTRL_THERM_STEP)
  if e = s.get Reg.ENC_CTRL_EFFORT then s
  else
    let s1 : State := { s with effortWas := (s.get Reg.ENC_CTRL_EFFORT, s.lc) }
    ((s1.set Reg.ENC_CTRL_EFFORT e).bump Reg.ENC_EFFORT_CHG_CNT).raise 0xA801 objDevice { w16 := e }

/-- EFFORT_FLOOR_WRITE (R235): 6 to 15 is ignored. -/
def State.effortFloorWrite (s : State) (w : Writer) (floor : Nat) : State :=
  let f := Reg.ENC_CTRL_EFFORT_FLOOR
  if 5 < floor then s
  else ((s.set f floor).logReg w f.off 0 (s.get f * 2 ^ 28) (floor * 2 ^ 28)).settleEffort

def execEffortFloorWrite (w : Writer) (floor : Fin 16) (s : State) : Host.Outcome State Fault Refusal :=
  .next (s.byWriter w Reg.ENC_CTRL_EFFORT_FLOOR.off (fun s => s.effortFloorWrite w floor))

end Sys2Proof.Machine
end

