-- ==== Sys2Proof/Machine/Audio.lean ====
section
/-! DEFINITION. Calliope (chapter 14): AES3 inputs, network inputs, routes and releases, output ports, changes at zero
crossings, capture rings. The numbers the ASRC and the 2:1 conversion compute are free: the spec gives no filter. -/

namespace Sys2Proof.Machine

/-! ## Ports and channels (R355, R356) -/

def State.audIn (s : State) (k : Nat) : AudIn := Table.getD s.aud.ins k AudIn.reset
def State.setAudIn (s : State) (k : Nat) (x : AudIn) : State := { s with aud := { s.aud with ins := Table.put s.aud.ins k x } }
def State.audOut (s : State) (k : Nat) : AudOut := Table.getD s.aud.outs k AudOut.reset
def State.setAudOut (s : State) (k : Nat) (x : AudOut) : State := { s with aud := { s.aud with outs := Table.put s.aud.outs k x } }
def State.audCh (s : State) (c : Nat) : AudCh := Table.getD s.aud.chans c AudCh.reset
def State.setAudCh (s : State) (c : Nat) (x : AudCh) : State := { s with aud := { s.aud with chans := Table.put s.aud.chans c x } }

/-- The kinds of audio port by index. -/
def isAesIn (k : Nat) : Bool := decide (k < 16)
def isNetIn (k : Nat) : Bool := decide (32 ≤ k ∧ k < 48)
def isAesOut (k : Nat) : Bool := decide (16 ≤ k ∧ k < 32)
def isTx (k : Nat) : Bool := decide (48 ≤ k ∧ k < 64)
def isAudIn (k : Nat) : Bool := isAesIn k || isNetIn k
def isAudOut (k : Nat) : Bool := isAesOut k || isTx k

/-- The launch unit of an output port, and the port of a unit 192 + u (R355). -/
def audUnit (k : Nat) : Nat := if isAesOut k then 176 + k else 160 + k
def audPortOf (u : Nat) : Nat := if u < 16 then 16 + u else 32 + u

/-- The output ports. -/
def audOutPorts : List Nat := (List.range 16).map (· + 16) ++ (List.range 16).map (· + 48)

/-- Samples of 1 ms of an SRATE, and its rate. -/
def perMs (srate : Nat) : Nat := 48 * (1 + srate)
def rateOfS (srate : Nat) : Nat := 48000 * (1 + srate)

/-- SRATE of an input port: an AES3 input's own, a network input's receiver's. -/
def State.inSrate (s : State) (k : Nat) : Nat := if isAesIn k then s.get (Reg.AUD_IN_SRATE k) else s.get (Reg.ING_RX_AFMT_SRATE k)
def State.outSrate (s : State) (k : Nat) : Nat := s.get (Reg.AUD_OUT_SRATE k)

/-- Whether Calliope is powered (R77). -/
def State.audioOn (s : State) : Bool := s.mode == 1 || s.mode == 2 || s.mode == 3

/-- The output channels of a port (R356). -/
def State.outChans (s : State) (k : Nat) : List Nat :=
  if isAesOut k then [64 + 2 * (k - 16), 65 + 2 * (k - 16)]
  else (List.range (s.get (Reg.AUD_OUT_CHANNELS k))).map (· + s.get (Reg.AUD_OUT_FIRST_CH k))

/-- The enabled output port that sends an output channel. -/
def State.portOfChan (s : State) (c : Nat) : Option Nat :=
  audOutPorts.find? (fun k => s.on (Reg.AUD_OUT_ENABLE k) && (s.outChans k).contains c)

/-- The input port of an input channel, none for a network channel that no enabled receiver fills. -/
def State.inPort (s : State) (c : Nat) : Option Nat :=
  if 64 ≤ c then some ((c - 64) / 2)
  else ((List.range 16).map (· + 32)).find? (fun r => s.on (Reg.ING_RX_ENABLE r)
    && decide (s.get (Reg.ING_RX_AFMT_FIRST_CH r) ≤ c ∧ c < s.get (Reg.ING_RX_AFMT_FIRST_CH r) + s.get (Reg.ING_RX_AFMT_CHANNELS r)))

/-- A sample period in 2^-16 ns. -/
def samplePeriod (srate : Nat) : Rat := ((secUnits : Nat) : Rat) / (rateOfS srate : Nat)

/-! ## Samples -/

/-- A value part of the way along a 1 ms ramp; where it is no whole number the spec gives no rounding (free). -/
def scaled (v : Int) (g n : Nat) : Int :=
  let q : Rat := (v : Rat) * (g : Rat) / (max 1 n : Nat)
  q.floor + (if Config.roundsUp 4 q ∧ q.floor ≠ q.ceil then 1 else 0)

/-- A free 24-bit sample. -/
def State.freeSample (s : State) : Int × State := (signed 24 (s.draw).1, (s.draw).2)

/-- Keep a sample of an input channel; samples of the last second are kept. -/
def State.keepSample (s : State) (c : Nat) (cap : Rat) (v : Int) : State :=
  let l := Table.getD s.aud.samples c []
  let e : AudSample := { cap := cap, value := v, got := s.lc }
  { s with aud := { s.aud with samples := Table.put s.aud.samples c (e :: l.filter (fun e => decide (cap - usU 1000000 < e.cap))) } }

/-- What an AES3 input's channels are at a capture DT: 0 silent, 1 synchronous, 2 asynchronous. -/
def AudIn.kindAt (x : AudIn) (t : Rat) : Nat :=
  match x.kinds.find? (fun e => decide (e.1 ≤ t)) with
  | some e => e.2
  | none => 0

/-- Whether some audio DSP is healthy (R96). -/
def State.dspOk (s : State) : Bool := s.get Reg.PWR_FENCE_AUDIO != 255

/-- The sample of an input channel at capture DT x for an output of a rate (R364, R365): none when it is missing. The one whose
capture DT is nearest counts (DEDUCED: a delay need not be a whole number of samples). -/
def State.inSample (s : State) (c srate : Nat) (x : Rat) : Option Int × State :=
  match s.inPort c with
  | none => (none, s)
  | some k =>
    let r := s.inSrate k
    let now : Rat := s.activeDt
    let hit := (Table.getD s.aud.samples c []).find? (fun e => decide (ratAbs (e.cap - x) ≤ samplePeriod r / 2))
    let give := fun (e : AudSample) => if r = srate then (some e.value, s) else (some s.freeSample.1, s.freeSample.2)
    if c < 64 then
      match hit with
      | some e => if e.got + 50 * ticksPerUs ≤ s.lc then give e else (none, s)
      | none => (none, s)
    else
      let kind := (s.audIn k).kindAt x
      if kind = 0 then (some 0, s)
      else if kind = 1 then
        match hit with
        | some e => if e.cap + usU 250 ≤ now then give e else (none, s)
        | none => (none, s)
      else if x + 24 * samplePeriod r + usU 250 ≤ now ∧ s.dspOk then (some s.freeSample.1, s.freeSample.2) else (none, s)

/-- A field of the route in force of a channel. -/
def State.route (s : State) (c : Nat) : Nat × Nat × Nat :=
  (s.get (bank 1 (Reg.AUD_ROUTE_SRC c)), s.get (bank 1 (Reg.AUD_ROUTE_DELAY_SEL c)), s.get (bank 1 (Reg.AUD_ROUTE_DELAY_US c)))

/-- Whether a slot has a D: an encode slot that is configured (R364). -/
def State.slotHasD (s : State) (n : Nat) : Bool := s.configured n && s.slotKind n == 0

/-- The sample that a channel's route gives for release DT y (R364). -/
def State.routed (s : State) (c srate : Nat) (y : Rat) : Option Int × State :=
  let (src, sel, us) := s.route c
  if src = 0xFF then (some 0, s)
  else if sel < 4 then
    if !(s.slotHasD sel) ∨ (s.audCh c).broken then (none, s.setAudCh c { s.audCh c with broken := true })
    else s.inSample src srate (y - delayU (s.cfg Reg.ENC_BS_D_NS sel) (s.encPf 1 sel) - usU us)
  else s.inSample src srate (y - usU us)

/-- Whether a channel is to be heard. -/
def AudCh.audible (x : AudCh) : Bool := x.started && !x.muted && !x.cut

/-- Release one sample of a channel whose route gives v, with n samples to a ramp (R365, R367): its value, the channel, whether a
run of missing samples begins. -/
def AudCh.step (n : Nat) (v : Option Int) (x : AudCh) : Int × AudCh × Bool :=
  match v with
  | none =>
    if !x.audible && x.gain == 0 && x.miss.isNone then (0, { x with last := 0, ramp := false }, false)
    else
      let m : Int × Nat := match x.miss with
        | some (a, i) => (a, min n (i + 1))
        | none => (x.last, 1)
      let r := scaled m.1 (n - m.2) n
      (r, { x with miss := some m, gain := 0, ramp := false, last := r }, x.miss.isNone)
  | some v =>
    let x1 : AudCh := if x.miss.isSome then { x with miss := none, gain := 0, ramp := true } else x
    let want := if x1.audible then n else 0
    let g := if x1.ramp then (if x1.gain < want then x1.gain + 1 else if want < x1.gain then x1.gain - 1 else x1.gain) else want
    let r := scaled v g n
    (r, { x1 with gain := g, ramp := x1.ramp && g != want, last := r }, false)

/-! ## Changes (R367, R368) -/

/-- Complete an AUDIO_CMD when no channel has its change pending any more. -/
def State.cmdDone (s : State) : Option (Nat × Ticket) → State
  | none => s
  | some (id, t) =>
    if s.aud.chans.any (fun e => match e.2.pend with | some (_, _, some (i, _)) => i == id | _ => false) then s else s.complete t 0 0

/-- Make a change pending on a channel; it replaces one still pending. -/
def State.pendChange (s : State) (c : Nat) (a : AudChange) (cmd : Option (Nat × Ticket)) : State :=
  let x := s.audCh c
  let s1 := s.setAudCh c { x with pend := some (a, s.lc, cmd) }
  match x.pend with
  | some (_, _, old) => s1.cmdDone old
  | none => s1

/-- Install a route and let the channel unmute at its next crossing. -/
def State.switchRoute (s : State) (c src sel us : Nat) : State :=
  let s1 := s.setAll [(bank 1 (Reg.AUD_ROUTE_SRC c), src), (bank 1 (Reg.AUD_ROUTE_DELAY_SEL c), sel), (bank 1 (Reg.AUD_ROUTE_DELAY_US c), us)]
  s1.setAudCh c { s1.audCh c with broken := false, raw := none, pend := some (.uncut, s.lc, none) }

/-- Apply a channel's pending change, with a ramp when it comes of a timeout. -/
def State.applyChange (s : State) (c : Nat) (ramp : Bool) : State :=
  let x := s.audCh c
  match x.pend with
  | none => s
  | some (a, _, cmd) =>
    let y : AudCh := { x with pend := none, ramp := ramp || x.ramp }
    match a with
    | .start => (s.setAudCh c { y with started := true }).cmdDone cmd
    | .stop => (s.setAudCh c { y with started := false }).cmdDone cmd
    | .mute => (s.setAudCh c { y with muted := true }).cmdDone cmd
    | .unmute => (s.setAudCh c { y with muted := false }).cmdDone cmd
    | .uncut => s.setAudCh c { y with cut := false }
    | .route src sel us =>
      if ramp ∧ x.gain ≠ 0 then s.setAudCh c { y with cut := true, pend := some (.switch src sel us, s.lc, none) }
      else (s.setAudCh c { y with cut := true, ramp := x.ramp }).switchRoute c src sel us
    | .switch src sel us => s.switchRoute c src sel us

/-- Whether a change waits for a crossing: the switch within a route change waits for silence. -/
def AudCh.waits (x : AudCh) : Bool :=
  match x.pend with
  | none => false
  | some (.switch _ _ _, _, _) => false
  | some _ => true

/-- ZC_TIMEOUT_MS in ticks. -/
def State.zcTicks (s : State) : Nat := s.get Reg.AUD_ZC_TIMEOUT_MS * 1000 * ticksPerUs

/-- Whether a sample v of release DT y is the crossing that a channel's change waits for (R367): it is zero or differs in sign from the
sample before, and y is at or after the change's effective instant. A missing sample counts as zero (DEDUCED, log entry 134). -/
def State.crossesAt (s : State) (x : AudCh) (v : Option Int) (y : Rat) : Bool :=
  x.waits && (match x.pend with | some (_, t, _) => decide ((s.activeMap.at t : Rat) ≤ y) | none => false)
    && (v.getD 0 == 0 || (match x.raw with | some r => decide (v.getD 0 < 0) != decide (r < 0) | none => false))

/-- Samples of a packet (R366), or one frame. -/
def State.perRelease (s : State) (k : Nat) : Nat :=
  if isAesOut k then 1 else if s.get (Reg.AUD_OUT_PTIME k) = 0 then perMs (s.outSrate k) else perMs (s.outSrate k) / 8

/-- The DT of release i of a port's first sample (R361, R366). -/
def State.releaseDt (s : State) (k i : Nat) : Rat := ((i * s.perRelease k : Nat) : Rat) * samplePeriod (s.outSrate k)

/-- The release DT of the next sample of a channel's port. -/
def State.nextRelease (s : State) (k : Nat) : Rat := s.releaseDt k (s.audOut k).index

/-- ZERO_CROSSING_CHANGE (R367): the next sample of the channel is a crossing, and its change applies from it. -/
def State.crossing (s : State) (c : Nat) : State :=
  if s.audioOn && (s.audCh c).waits then
    (match s.portOfChan c with
     | none => s.applyChange c false
     | some k => if s.crossesAt (s.audCh c) (s.routed c (s.outSrate k) (s.nextRelease k)).1 (s.nextRelease k) then s.applyChange c false else s)
  else s

def execZeroCrossingChange (c : Fin 96) (s : State) : Host.Outcome State Fault Refusal := .next (s.crossing c)

/-- ZC_TIMEOUT (R367): the change applies with a 1 ms ramp. -/
def State.crossingTimeout (s : State) (c : Nat) : State :=
  match (s.audCh c).pend with
  | none => s
  | some (_, t, _) =>
    if s.audioOn && (s.audCh c).waits && decide (t + s.zcTicks ≤ s.lc) then
      match s.portOfChan c with
      | none => s.applyChange c true
      | some k => ((s.applyChange c true).bump (Reg.AUD_OUT_ZC_TO_CNT k)).raise 0x0E03 (objAudio k) {}
    else s

def execZcTimeout (c : Fin 96) (s : State) : Host.Outcome State Fault Refusal := .next (s.crossingTimeout c)

/-! ## Releases (R361, R364 to R366) -/

/-- Release the sample of channel c of port k for release DT y: a change that waits applies from a crossing (R367). -/
def State.releaseSample (s : State) (k c : Nat) (y : Rat) : Int × State :=
  let n := perMs (s.outSrate k)
  let (v, s0) := s.routed c (s.outSrate k) y
  let s1 := if s0.crossesAt (s0.audCh c) v y then s0.applyChange c false else s0
  let fresh0 := (s1.audCh c).raw.isSome || (s0.audCh c).raw.isNone
  let (r, x0, fresh) := (s1.audCh c).step n v
  let x : AudCh := { x0 with raw := if fresh0 then some (v.getD 0) else none }
  let s2 := s1.setAudCh c x
  let s3 := if fresh then (s2.bump (Reg.AUD_OUT_UNDERRUN_CNT k)).raiseLimited 0x6E03 k (objAudio k) {} else s2
  match x.pend with
  | some (.switch src sel us, _, _) => (r, if x.gain = 0 then s3.switchRoute c src sel us else s3)
  | _ => (r, s3)

/-- Release the samples of several channels. -/
def State.releaseChans (k : Nat) (y : Rat) : List Nat → State → List Int × State
  | [], s => ([], s)
  | c :: l, s =>
    let (v, s1) := s.releaseSample k c y
    let (vs, s2) := State.releaseChans k y l s1
    (v :: vs, s2)

/-- Release several sample instants: the samples by instant. -/
def State.releaseInstants (k : Nat) (chans : List Nat) : List Rat → State → List (List Int) × State
  | [], s => ([], s)
  | y :: l, s =>
    let (v, s1) := State.releaseChans k y chans s
    let (vs, s2) := State.releaseInstants k chans l s1
    (v :: vs, s2)

/-- Half a period of AUD_MCLK_IN (24.576 MHz) in 2^-16 ns. -/
def halfMclk : Nat := 1333333

/-- How far an AES3 output's next frame lies from the grid (R362, R363): from AUD_MCLK_IN, that of the edge nearest the frame start
(AUD_MCLK_IN is locked to the grandmaster, so it stays); from its own divider, what is left, less a slew of at most 1 ppm. -/
def State.nextShift (s : State) (k i : Nat) : Int :=
  let v := (s.audOut k).shift
  if s.aud.mclk then ((Config.mclkPhase k % (2 * halfMclk + 1) : Nat) : Int) - halfMclk
  else
    let most := (samplePeriod (s.outSrate k) / 1000000).floor.toNat
    let step := min v.natAbs (Config.mclkSlew k i % (most + 1))
    if 0 < v then v - step else v + step

/-- The instant of release i: a frame's start with OFFSET_NS, as far from the grid as its clock has it; a packet's stamped DT plus
PTIME. -/
def State.audReleaseAt (s : State) (k i : Nat) : Int :=
  if isAesOut k then instant (s.releaseDt k i) + signed 16 (s.get (Reg.AUD_OUT_OFFSET_NS k)) * nsUnits + (s.audOut k).shift
  else instant (s.releaseDt k (i + 1))

/-- Whether a release of a port is queued. -/
def State.releaseQueued (s : State) (k : Nat) : Bool := (s.queue (audUnit k)).any (fun q => q.act == .sample k)

/-- Queue the next release of an enabled port, when none is: the first one after the last that is still to come. -/
def State.armPort (s : State) (k : Nat) : State :=
  if s.audioOn && s.on (Reg.AUD_OUT_ENABLE k) && s.domEnabled s.activeDom && !(s.releaseQueued k) then
    let first := ((s.activeDt : Rat) / (samplePeriod (s.outSrate k) * (max 1 (s.perRelease k) : Nat))).floor.toNat + 1
    let x := s.audOut k
    let i := max x.index first
    (s.setAudOut k { x with index := i }).launchAt (audUnit k) 6 (s.audReleaseAt k i) (.sample k)
  else s

/-- Queue the next release of every port. -/
def State.armAudio (s : State) : State := audOutPorts.foldl (fun (t : State) k => t.armPort k) s

/-- The CRCC of a channel status block over its bytes 0 to 22 (PRESUMED: AES3's x^8 + x^4 + x^3 + x^2 + 1 from all ones). -/
def crcc (l : List Byte) : Nat := crcBytes 0xB8 0xFF (l.take 23)

/-- Replace byte 23 of a channel status block by its CRCC. -/
def withCrcc (l : List Byte) : List Byte := l.take 23 ++ [BitVec.ofNat 8 (crcc l)]

/-- The reset template of a channel's status (R369): professional, sampling frequency, 24-bit words (the codes are AES3's,
PRESUMED). -/
def resetStatus (srate : Nat) : List Byte :=
  [BitVec.ofNat 8 (if srate = 0 then 0x81 else 0x01), 0, 0x2C, 0, BitVec.ofNat 8 (if srate = 0 then 0 else 0x10)] ++ List.replicate 19 0

/-- The template of an AES3 output: channel status A, B, user bits A, B, 24 B each. -/
def State.template (s : State) (k : Nat) : List Byte :=
  (s.audOut k).template.getD (resetStatus (s.outSrate k) ++ resetStatus (s.outSrate k) ++ List.replicate 48 0)

/-- Bit i of a byte string, lowest bit of the lowest byte first. -/
def bitAt (l : List Byte) (i : Nat) : Bool := ((l.drop (i / 8)).headD 0).toNat.testBit (i % 8)

/-- Release an AES3 frame (R361, R369). -/
def State.releaseFrame (s : State) (k i : Nat) : State :=
  let x := s.audOut k
  let s1 := if i % 192 = 0 then
      (match x.waiting with | some t => s.setAudOut k { x with template := some t, waiting := none } | none => s)
    else s
  let t := s1.template k
  let (v, s2) := State.releaseChans k (s.releaseDt k i) (s.outChans k) s1
  let sub := (s.outMap.bind (fun m => m.sub16 s.lc (s.audReleaseAt k i))).getD 0
  s2.emit (.aes3 (k - 16) i (v.headD 0) ((v.drop 1).headD 0)
    [bitAt (withCrcc (t.take 24)) (i % 192), bitAt (withCrcc ((t.drop 24).take 24)) (i % 192),
     bitAt ((t.drop 48).take 24) (i % 192), bitAt ((t.drop 72).take 24) (i % 192)] sub (i % 192 == 0))

/-- Release a network packet (R366): it enters the queue of TCLASS on its lane. -/
def State.releasePacket (s : State) (k i : Nat) : State :=
  let n := s.perRelease k
  let chans := s.outChans k
  let ys := (List.range n).map (fun j => s.releaseDt k i + (j : Rat) * samplePeriod (s.outSrate k))
  let (v, s1) := State.releaseInstants k chans ys s
  let x := s1.audOut k
  let len := n * chans.length * 3
  let unit := s.checkUnit 1 2 (k - 48)
  let add := match unit with
    | none => 0
    | some c => ceilDiv (s.get (Reg.CHK_WIDTH c)) 8
  let s2 := match unit with
    | none => s1
    | some c => s1.bump (Reg.CHK_PKT_CNT c)
  let hdr := ([Reg.AUD_OUT_GROUP k, Reg.AUD_OUT_DST_PORT k, Reg.AUD_OUT_DSCP k, Reg.AUD_OUT_PT k, Reg.AUD_OUT_SSRC k] : List Field).map s.get
  (s2.setAudOut k { x with seq := (x.seq + 1) % 2 ^ 16 }).enterQueue (s.get (Reg.AUD_OUT_LANE k)) (s.get (Reg.AUD_OUT_TCLASS k))
    { frame := .audio (k - 48) x.seq (i * n % 2 ^ 32) len hdr ((List.range chans.length).map (fun j => v.map (fun a => a.getD j 0))),
      len := frameLen false (40 + len + add), stamp := s.lc, row := none, eligible := true, cover := none, tc := none }

/-- A sample release launch fires (R366): the port's frame or packet leaves and the next is queued. -/
def sampleFired (k : Nat) (s : State) : State :=
  if s.audioOn && s.on (Reg.AUD_OUT_ENABLE k) then
    let i := (s.audOut k).index
    let s1 := if isAesOut k then s.releaseFrame k i else s.releasePacket k i
    let y := s1.audOut k
    (s1.setAudOut k { y with index := i + 1, shift := if isAesOut k then s1.nextShift k i else 0 }).armPort k
  else s

/-- While the active domain is disabled no launch follows it, and an AES3 output's frames go on with the mapping frozen then (R361,
R516). -/
def State.frozenFrame (s : State) (k : Nat) : State :=
  match s.tim.frozen with
  | none => s
  | some m =>
    let x := s.audOut k
    let i := max x.index ((m.at s.lc : Rat) / samplePeriod (s.outSrate k)).floor.toNat
    if isAesOut k && s.audioOn && s.on (Reg.AUD_OUT_ENABLE k) && !(s.domEnabled s.activeDom) && decide (s.audReleaseAt k i < m.at (s.lc + 1)) then
      sampleFired k (s.setAudOut k { x with index := i })
    else s

/-! ## Capture rings (R370) -/

/-- The capture mask of an input port: two channels of an AES3 input, 64 of a network one. -/
def State.capMask (s : State) (k : Nat) : Nat :=
  if isAesIn k then s.get (Reg.AUD_IN_CAP_MASK_LO k) % 4
  else s.get (Reg.AUD_IN_CAP_MASK_LO k) + 2 ^ 32 * s.get (Reg.AUD_IN_CAP_MASK_HI k)

/-- The bytes of a capture block of n channels. -/
def capBlock (srate n : Nat) : Nat := roundUp (16 + perMs srate * n * 4) 64

/-- The blocks a port's ring holds, for n channels. -/
def State.capBlocks (s : State) (k n : Nat) : Nat := 2 ^ s.get (Reg.AUD_IN_CAP_LOG2 k) * 65536 / capBlock (s.inSrate k) n

/-- A capture sample of 4 B: the sample in [31:8]. -/
def capWord (v : Int) : List Byte := leBytes 4 (unsigned 24 v * 256)

/-- Write the block under way. -/
def State.writeBlock (s : State) (k : Nat) : State :=
  let x := s.audIn k
  let sel := bitsOf 64 x.mask
  let t := instant x.start
  let size := capBlock (s.inSrate k) sel.length
  let b := leBytes 4 (dtSec t) ++ leBytes 4 (dtNs t) ++ leBytes 4 x.seq ++ leBytes 2 x.part.length
    ++ leBytes 1 (b2n x.loss * 128 + (if isAesIn k then s.get (Reg.AUD_IN_ASRC k) else 0) * 64) ++ [0]
    ++ x.part.flatMap (fun f => sel.flatMap (fun c => capWord (f.getD c 0)))
  let base := s.get (Reg.AUD_IN_CAP_BASE k) * 4096
  let s1 := s.setAudIn k { x with seq := (x.seq + 1) % 2 ^ 32, part := [], loss := false }
  if 0 < s.capBlocks k sel.length ∧ s.inService base (2 ^ s.get (Reg.AUD_IN_CAP_LOG2 k) * 65536) then
    s1.deviceStore (base + x.seq % s.capBlocks k sel.length * size) (b ++ List.replicate (size - b.length) 0)
  else s1

/-- One sample instant of a port comes to its capture ring: the values by channel, whether they are ramp or zero samples. The
mask is taken at the start of a block. -/
def State.capture (s : State) (k : Nat) (cap : Rat) (v : List Int) (loss : Bool) : State :=
  let x := s.audIn k
  let mask := if x.part.isEmpty then s.capMask k else x.mask
  if mask = 0 then s
  else
    let y : AudIn := { x with mask := mask, start := if x.part.isEmpty then cap else x.start, part := x.part ++ [v], loss := x.loss || loss }
    let s1 := s.setAudIn k y
    if perMs (s.inSrate k) ≤ y.part.length then s1.writeBlock k else s1

/-- Instants of a port for which no sample came, up to one block: zeros. -/
def State.captureGap (k : Nat) (v : List Int) : Nat → State → State
  | 0, s => s
  | n + 1, s => if (s.audIn k).part.isEmpty then s else State.captureGap k v n (s.capture k 0 v true)

/-! ## AES3 inputs (R357 to R360) -/

/-- Place a sample of channel c (0 or 1) of a synchronous input at grid index g. -/
def State.placeSync (s : State) (j c : Nat) (g : Int) (v : Int) : State :=
  s.keepSample (64 + 2 * j + c) ((g : Rat) * samplePeriod (s.get (Reg.AUD_IN_SRATE j))) v

/-- Decide the mapping of an input from capture DT x (R360). -/
def State.mapInput (s : State) (j : Nat) (asrc : Bool) (x : Rat) : State :=
  let y := s.audIn j
  let g : Int := (x / samplePeriod (s.get (Reg.AUD_IN_SRATE j)) + 1 / 2).floor
  (s.setAudIn j { y with decided := true, fade := 0, grid := (g, g), kinds := ((x, if asrc then 2 else 1) :: y.kinds).take 16 }).set
    (Reg.AUD_IN_ASRC j) (b2n asrc)

/-- Receiver lock is gained (R358, R360). -/
def State.aesLock (s : State) (j : Nat) (x : Rat) : State :=
  let y := s.audIn j
  let s1 := ((s.setAudIn j { y with lockAt := s.lc, decided := false, fade := 0, block := none }).set (Reg.AUD_IN_LOCK j) 1).raise 0x0E01 (objAudio j) {}
  let m := s.get (Reg.AUD_IN_ASRC_MODE j)
  if m = 1 then s1.mapInput j true x else if m = 2 then s1.mapInput j false x else s1

/-- The bytes of 192 bits given newest first. -/
def blockBytes (l : List Bool) : List Byte :=
  let b := l.reverse
  (List.range 24).map (fun i => BitVec.ofNat 8 (maskOf ((List.range 8).filter (fun k => b.getD (8 * i + k) false))))

/-- A channel's status block is taken when its CRCC is right (R359). -/
def State.takeStatus (s : State) (j c : Nat) (b : List Byte) : State :=
  let y := s.audIn j
  if ((b.drop 23).headD 0).toNat = crcc b then
    (s.setAudIn j { y with status := if c = 0 then b ++ y.status.drop 24 else y.status.take 24 ++ b }).set
      (if c = 0 then Reg.AUD_IN_CS_A j else Reg.AUD_IN_CS_B j) (leNat (b.take 4))
  else s.bump (Reg.AUD_IN_CS_ERR_CNT j)

/-- The status and user bits of a frame: a Z begins a block; its 192nd frame completes it. -/
def State.takeBits (s : State) (j : Nat) (f : AesFrame) : State :=
  let y := s.audIn j
  let one := (f.a.status, f.b.status, f.a.user, f.b.user)
  let blk : Option (List (Bool × Bool × Bool × Bool)) := if f.z then some [one] else y.block.map (one :: ·)
  match blk with
  | none => s
  | some l =>
    if l.length < 192 then s.setAudIn j { y with block := some l }
    else
      let s1 := s.setAudIn j { y with block := none, user := blockBytes (l.map (fun e => e.2.2.1)) ++ blockBytes (l.map (fun e => e.2.2.2)) }
      (s1.takeStatus j 0 (blockBytes (l.map (fun e => e.1)))).takeStatus j 1 (blockBytes (l.map (fun e => e.2.1)))

/-- The value of a subframe of a locked input (R359): a parity error repeats the previous sample, as an invalid frame does
(DEDUCED). -/
def subValue (valid : Bool) (f : Subframe) (last : Int) : Int := if valid && f.parityOk then signed 24 f.sample.toNat else last

/-- A frame of a locked input. -/
def State.aesFrame (s : State) (j : Nat) (f : AesFrame) (x : Rat) : State :=
  let n := perMs (s.get (Reg.AUD_IN_SRATE j))
  let y := s.audIn j
  let a := subValue f.valid f.a y.last.1
  let b := subValue f.valid f.b y.last.2
  let s1 := if f.valid then
      ((s.count (Reg.AUD_IN_PARITY_CNT j) (b2n (!f.a.parityOk) + b2n (!f.b.parityOk))).count (Reg.AUD_IN_INVALID_CNT j)
        (b2n f.a.invalid + b2n f.b.invalid)).takeBits j f
    else s
  let g := if y.decided then min n (y.fade + 1) else 0
  let va := if g = n then a else scaled a g n
  let vb := if g = n then b else scaled b g n
  let s2 := s1.setAudIn j { s1.audIn j with last := (a, b), fade := g, grid := (y.grid.1 + 1, y.grid.2 + 1) }
  let s3 := if y.decided ∧ s.get (Reg.AUD_IN_ASRC j) = 0 then (s2.placeSync j 0 y.grid.1 va).placeSync j 1 y.grid.2 vb else s2
  s3.capture j x [va, vb] (g != n)


/-- The channels of an input ramp from the last good sample to zero over 1 ms (R358). -/
def State.rampOut (s : State) (j : Nat) : State :=
  let n := perMs (s.get (Reg.AUD_IN_SRATE j))
  let y := s.audIn j
  (List.range n).foldl (fun (t : State) (i : Nat) =>
    ((t.placeSync j 0 (y.grid.1 + (i : Int)) (scaled y.last.1 (n - 1 - i) n)).placeSync j 1 (y.grid.2 + (i : Int)) (scaled y.last.2 (n - 1 - i) n))) s

/-- An asynchronous input that loses lock ramps on the grid too, from the last good sample (R358). -/
def State.regrid (s : State) (j : Nat) : State :=
  let y := s.audIn j
  let g : Int := ((s.activeDt : Rat) / samplePeriod (s.get (Reg.AUD_IN_SRATE j)) + 1 / 2).floor
  s.setAudIn j { y with grid := (g, g), kinds := (((s.activeDt : Rat), 1) :: y.kinds).take 16 }

/-- Lock is lost (R358): the channels ramp to zero and are silent after; the capture block under way is filled with zeros. -/
def State.aesLoss (s : State) (j : Nat) (rate : Bool) : State :=
  if s.on (Reg.AUD_IN_LOCK j) then
    let s0 := if s.get (Reg.AUD_IN_ASRC j) = 0 then s else s.regrid j
    let s1 := if (s.audIn j).decided then s0.rampOut j else s
    let s2 := State.captureGap j [0, 0] 96 s1
    let y := s2.audIn j
    let kinds := (((s.activeDt : Rat) + usU 1000, 0) :: y.kinds).take 16
    let s3 := (s2.setAudIn j { y with good := 0, bad := false, decided := false, block := none, kinds := kinds }).setAll
      [(Reg.AUD_IN_LOCK j, 0), (Reg.AUD_IN_ASRC j, 0)]
    let s4 := if rate then (s3.bump (Reg.AUD_IN_RATE_ERR_CNT j)).raise 0x6E02 (objAudio j) {} else s3
    (s4.bump (Reg.AUD_IN_LOSS_CNT j)).raise 0x6E01 (objAudio j) {}
  else s

/-- AES3_FRAME_RX (R357 to R360): 64 consecutive valid frames gain lock; a locked input maps the frame, and a second frame running with
an invalid preamble ends the lock. -/
def State.aesRx (s : State) (j : Nat) (f : AesFrame) : State :=
  if s.audioOn && s.on (Reg.AUD_IN_ENABLE j) && s.domEnabled s.activeDom then
    let x : Rat := s.activeMap.at16 s.lc f.sub.val
    let y := s.audIn j
    if s.on (Reg.AUD_IN_LOCK j) then
      (if !f.valid && y.bad then s.aesLoss j false else (s.setAudIn j { y with bad := !f.valid }).aesFrame j f x)
    else if f.valid && f.a.parityOk && f.b.parityOk then
      if 63 ≤ y.good then (s.setAudIn j { y with good := 0 }).aesLock j x else s.setAudIn j { y with good := y.good + 1 }
    else s.setAudIn j { y with good := 0 }
  else s

def execAes3FrameRx (j : Fin 16) (f : AesFrame) (s : State) : Host.Outcome State Fault Refusal := .next (s.aesRx j f)

def execAes3LockLoss (j : Fin 16) (rate : Bool) (s : State) : Host.Outcome State Fault Refusal := .next (s.aesLoss j rate)

/-- ASRC_DECISION (R360): an AUTO input measured for 100 ms; within ±5 ppm (RATE_PPM in 0.1 ppm) it is synchronous. -/
def State.asrcDecide (s : State) (j : Nat) (ppm : Nat) : State :=
  let y := s.audIn j
  if s.on (Reg.AUD_IN_LOCK j) && s.get (Reg.AUD_IN_ASRC_MODE j) == 0 && !y.decided && decide (y.lockAt + 100000 * ticksPerUs ≤ s.lc) then
    (s.set (Reg.AUD_IN_RATE_PPM j) ppm).mapInput j (decide (50 < (signed 16 ppm).natAbs)) s.activeDt
  else s

def execAsrcDecision (j : Fin 16) (ppm : BitVec 16) (s : State) : Host.Outcome State Fault Refusal := .next (s.asrcDecide j ppm.toNat)

/-- SAMPLE_SLIP (R360): once a synchronous channel's phase error has reached half a sample, one sample is repeated when the
input lags its grid, dropped when it leads. -/
def State.slip (s : State) (j c : Nat) : State :=
  let y := s.audIn j
  let per := samplePeriod (s.get (Reg.AUD_IN_SRATE j))
  let g := if c = 0 then y.grid.1 else y.grid.2
  let err : Rat := (s.activeDt : Rat) - (g : Rat) * per
  if s.on (Reg.AUD_IN_LOCK j) && y.decided && s.get (Reg.AUD_IN_ASRC j) == 0 && decide (per / 2 ≤ ratAbs err) then
    let move : Int := if 0 < err then 1 else -1
    let s1 := if 0 < err then s.placeSync j c g (if c = 0 then y.last.1 else y.last.2) else s
    ((s1.setAudIn j { s1.audIn j with grid := if c = 0 then (g + move, y.grid.2) else (y.grid.1, g + move) }).bump
      (Reg.AUD_IN_SLIP_CNT j)).raise 0x6E04 (objAudio j) {}
  else s

def execSampleSlip (j : Fin 16) (c : Fin 2) (s : State) : Host.Outcome State Fault Refusal := .next (s.slip j c)

/-! ## Network inputs (R147) -/

/-- The samples of an accepted packet, by instant, come to its channels and its capture ring. -/
def State.netSamples (s : State) (r : Nat) (cap : Rat) (x : AudioPacket) : State :=
  let per := samplePeriod (s.get (Reg.ING_RX_AFMT_SRATE r))
  let chans := s.get (Reg.ING_RX_AFMT_CHANNELS r)
  let first := s.get (Reg.ING_RX_AFMT_FIRST_CH r)
  let n := (x.samples.map (fun l => l.length)).foldl max 0
  let val := fun (c i : Nat) => signed 24 (((x.samples.getD c []).getD i 0).toNat)
  (List.range n).foldl (fun (t : State) (i : Nat) =>
    let at' := cap + (i : Rat) * per
    let y := t.audIn r
    let due := y.start + (y.part.length : Rat) * per
    let gap := if y.part.isEmpty then 0 else ((at' - due) / per + 1 / 2).floor.toNat
    let t1 := State.captureGap r [] (min gap 96) t
    ((List.range chans).foldl (fun (t : State) c => t.keepSample (first + c) at' (val c i)) t1).capture r at'
      ((List.range chans).map (fun c => val c i)) false) s

def execAudioPacketRx (r : Fin 16) (p : Fin 2) (x : AudioPacket) (s : State) : Host.Outcome State Fault Refusal :=
  let k := 32 + r.val
  let cap := s.rtpDt (rateOfS (s.get (Reg.ING_RX_AFMT_SRATE k))) x.ts.toNat
  .next (s.rxPacket k p { flow := x.flow, pt := x.pt.toNat, width := 16, seq := x.seq.toNat, malformed := x.malformed, crcOk := x.crcOk, cap := some cap }
    (fun s => s.netSamples k cap x))

/-! ## AUD_MCLK_IN (R362, R363) -/

/-- MCLK_LOSS. -/
def execMclkLoss (s : State) : Host.Outcome State Fault Refusal :=
  .next (if s.on Reg.AUD_MCLK_OK then
    ((((({ s with aud := { s.aud with mclk := false } } : State).set Reg.AUD_MCLK_OK 0).flag Reg.AUD_MCLK_LOST 1).bump
      Reg.AUD_MCLK_LOSS_CNT).raise 0x5E01 objDevice {})
    else s)

/-- AUD_MCLK_IN_RETURN: present and in tolerance again. -/
def execAudMclkInReturn (s : State) : Host.Outcome State Fault Refusal := .next (s.set Reg.AUD_MCLK_OK 1)

/-- MCLK_RESUME: back to AUD_MCLK_IN while it is present, else ignored with 0x2E01. -/
def State.mclkResume (s : State) (w : Writer) : State :=
  s.byWriter w Reg.AUD_MCLK_RESUME.off (fun s =>
    let c := if s.on Reg.AUD_MCLK_OK then 0 else 0x2E01
    let s1 := if c = 0 then
        (({ s with aud := { s.aud with mclk := s.on Reg.AUD_MCLK_EN } } : State).raise 0x0E02 objDevice {})
      else s
    (s1.set Reg.AUD_LAST_STATUS c).logReg w Reg.AUD_MCLK_RESUME.off c 0 (2 ^ 30))

def execMclkResume (w : Writer) (s : State) : Host.Outcome State Fault Refusal := .next (s.mclkResume w)

/-! ## Writes (R373) -/

/-- LAST_STATUS of a port. -/
def audStatus (k : Nat) : Field := if isAudIn k then Reg.AUD_IN_LAST_STATUS k else Reg.AUD_OUT_LAST_STATUS k

/-- The first check of R373 that enabling an input port fails. -/
def State.inputCode (s : State) (k mode : Nat) : Code :=
  let area : Area := ⟨tagAud k, s.get (Reg.AUD_IN_CAP_BASE k) * 4096, 2 ^ s.get (Reg.AUD_IN_CAP_LOG2 k) * 65536⟩
  if mode = 3 ∨ 10 < s.get (Reg.AUD_IN_CAP_LOG2 k) then 0x1E01
  else if s.capMask k != 0 && !(s.areaOk (fun t => t == tagAud k) area) then 0x1E04
  else 0

/-- The first check of R373 that enabling an output port fails. -/
def State.outputCode (s : State) (k srate ptime : Nat) : Code :=
  let ch := s.get (Reg.AUD_OUT_CHANNELS k)
  if isAesOut k then 0
  else if ch < 1 ∨ 64 < ch ∨ s.get (Reg.AUD_OUT_PT k) < 96 then 0x1E01
  else if 1440 < (if ptime = 0 then perMs srate else perMs srate / 8) * ch * 3 ∨ 64 < s.get (Reg.AUD_OUT_FIRST_CH k) + ch
      ∨ ((List.range 16).map (· + 48)).any (fun q => q != k && s.on (Reg.AUD_OUT_ENABLE q)
          && (s.outChans q).any (fun c => (s.outChans k).contains c))
      ∨ !(s.isPort (s.get (Reg.AUD_OUT_LANE k))) then 0x1E03
  else 0

/-- A port is disabled: its releases, its commands and its changes end; its channels are silent and stopped. -/
def State.portOff (s : State) (k : Nat) : State :=
  let s1 := s.cancel (audUnit k) (fun q => q.act == .sample k)
  (s.outChans k).foldl (fun (t : State) c =>
    let x := t.audCh c
    let t1 := t.setAudCh c { x with started := false, muted := false, cut := false, pend := none, gain := 0, ramp := false, last := 0, miss := none, raw := none }
    match x.pend with
    | some (_, _, cmd) => t1.cmdDone cmd
    | none => t1) s1

/-- A change of a whole port. -/
def State.portChange (s : State) (k : Nat) (a : AudChange) (cmd : Option (Nat × Ticket)) : State :=
  (s.outChans k).foldl (fun (t : State) c => t.pendChange c a cmd) s

/-- A write of an output port's CTRL. -/
def State.outWrite (s : State) (k : Nat) (en srate mute ptime : Nat) : State × Code :=
  let was := s.on (Reg.AUD_OUT_ENABLE k)
  let ptime := if isTx k then ptime else s.get (Reg.AUD_OUT_PTIME k)
  if was ∧ (srate ≠ s.outSrate k ∨ ptime ≠ s.get (Reg.AUD_OUT_PTIME k)) then (s, 0x1E01)
  else
    let c := if en = 1 ∧ !was then s.outputCode k srate ptime else 0
    if c ≠ 0 then (s, c)
    else
      let s1 := s.setAll [(Reg.AUD_OUT_ENABLE k, en), (Reg.AUD_OUT_SRATE k, srate), (Reg.AUD_OUT_MUTE k, mute), (Reg.AUD_OUT_PTIME k, ptime)]
      if en = 0 then (if was then (s.portOff k).setAll [(Reg.AUD_OUT_ENABLE k, 0), (Reg.AUD_OUT_MUTE k, mute)] else s1, 0)
      else if !was then
        ((((s.outChans k).foldl (fun (t : State) c => t.setAudCh c { t.audCh c with muted := mute == 1 }) s1).armPort k), 0)
      else if mute ≠ s.get (Reg.AUD_OUT_MUTE k) then (s1.portChange k (if mute = 1 then .mute else .unmute) none, 0)
      else (s1, 0)

/-- A write of an input port's CTRL. -/
def State.inWrite (s : State) (k : Nat) (en srate mode : Nat) : State × Code :=
  if isNetIn k then (s, s.inputCode k 0)
  else
    let was := s.on (Reg.AUD_IN_ENABLE k)
    if was ∧ srate ≠ s.get (Reg.AUD_IN_SRATE k) then (s, 0x1E01)
    else
      let c := if en = 1 ∧ !was then s.inputCode k mode else if mode = 3 then 0x1E01 else 0
      if c ≠ 0 then (s, c)
      else
        let s1 := s.setAll [(Reg.AUD_IN_ENABLE k, en), (Reg.AUD_IN_SRATE k, srate), (Reg.AUD_IN_ASRC_MODE k, mode)]
        if en = 0 ∧ was then
          let y := s1.audIn k
          ((s1.setAudIn k { AudIn.reset with kinds := ((s.activeDt : Rat), 0) :: y.kinds, seq := y.seq }).setAll
            [(Reg.AUD_IN_LOCK k, 0), (Reg.AUD_IN_ASRC k, 0)], 0)
        else (s1, 0)

/-- AUD_PORT_WRITE (R373). -/
def State.audPortWrite (s : State) (w : Writer) (k v : Nat) : State :=
  let en := b2n (bit v 31)
  let srate := b2n (bit v 30)
  let off := 0x541000 + 0x40 * k
  s.byWriter w off (fun s =>
    let fields := if isAudIn k then [Reg.AUD_IN_ENABLE k, Reg.AUD_IN_SRATE k, Reg.AUD_IN_ASRC_MODE k]
      else [Reg.AUD_OUT_ENABLE k, Reg.AUD_OUT_SRATE k, Reg.AUD_OUT_MUTE k, Reg.AUD_OUT_PTIME k]
    let (s1, c) := if isAudIn k then s.inWrite k en srate (bits v 29 28) else s.outWrite k en srate (bits v 29 29) (bits v 28 28)
    (s1.set (audStatus k) c).logReg w off c (s.word fields) (s1.word fields))

def execAudPortWrite (w : Writer) (k : Fin 64) (value : BitVec 32) (s : State) : Host.Outcome State Fault Refusal :=
  .next (s.audPortWrite w k value.toNat)

/-- The first check of R373 that a route fails. -/
def State.routeCode (s : State) (src sel us : Nat) : Code :=
  if (95 < src ∧ src ≠ 0xFF) ∨ 4 < sel ∨ 200000 < us then 0x1E01
  else if sel < 4 ∧ !(s.slotHasD sel) then 0x1E02
  else 0

/-- AUD_ROUTE_WRITE (R373): an enabled port's channel takes it as a mute, the change and an unmute; any other at once. -/
def State.audRouteWrite (s : State) (w : Writer) (c v : Nat) : State :=
  let off := (Reg.AUD_ROUTE_SRC c).off
  s.byWriter w off (fun s =>
    let fields := [Reg.AUD_ROUTE_SRC c, Reg.AUD_ROUTE_DELAY_SEL c, Reg.AUD_ROUTE_DELAY_US c]
    let src := bits v 31 24
    let sel := bits v 23 20
    let us := bits v 19 0
    let code := s.routeCode src sel us
    let port := s.portOfChan c
    let s1 := if code ≠ 0 then s
      else
        let t := s.setAll [(Reg.AUD_ROUTE_SRC c, src), (Reg.AUD_ROUTE_DELAY_SEL c, sel), (Reg.AUD_ROUTE_DELAY_US c, us)]
        match port with
        | some _ => t.pendChange c (.route src sel us) none
        | none => (t.copyBank 0 1 fields).setAudCh c { t.audCh c with broken := false }
    let s2 := match port with
      | some k => s1.set (Reg.AUD_OUT_LAST_STATUS k) code
      | none => if 64 ≤ c then s1.set (Reg.AUD_OUT_LAST_STATUS (16 + (c - 64) / 2)) code else s1
    s2.logReg w off code (s.word fields) (s1.word fields))

def execAudRouteWrite (w : Writer) (c : Fin 96) (value : BitVec 32) (s : State) : Host.Outcome State Fault Refusal :=
  .next (s.audRouteWrite w c value.toNat)

/-! ## Descriptors -/

/-- The object of an audio port opcode. -/
def onAudio (p : Nat → Bool) (t i : Nat) : Bool := t == 7 && decide (i < 64) && p i

/-- AUDIO_CMD's checks (R368): a timed one names the port's launch unit and KIND 0x6. -/
def audioCmdSpec : OpSpec :=
  { opcode := 0x501, object := onAudio isAudOut,
    form := fun d => decide (1 ≤ d.p 32 1 ∧ d.p 32 1 ≤ 4) && d.zeroFrom 33,
    launchOk := fun d => lwKind d.launch.toNat == 6 && lwUnit d.launch.toNat == audUnit d.objIndex.toNat }

/-- AUDIO_CMD takes effect now: each channel of the port takes the change at its crossing. -/
def actAudioCmd (d : Desc) (t : Ticket) (s : State) : State :=
  let k := d.objIndex.toNat
  let a : AudChange := if d.p 32 1 = 1 then .start else if d.p 32 1 = 2 then .stop else if d.p 32 1 = 3 then .mute else .unmute
  if s.on (Reg.AUD_OUT_ENABLE k) then
    let s1 := (s.set (Reg.AUD_OUT_LAST_STATUS k) 0).logDesc t.fn d.obj 0 0 (d.p 32 1)
    ({ s1 with aud := { s1.aud with cmd := s1.aud.cmd + 1 } } : State).portChange k a (some (s1.aud.cmd, t))
  else ((s.set (Reg.AUD_OUT_LAST_STATUS k) 0x2E01).logDesc t.fn d.obj 0x2E01 0 (d.p 32 1)).complete t 0x2E01 0

def execAudioCmd (d : Desc) (s : State) : Host.Outcome State Fault Refusal := .next (s.runDesc audioCmdSpec d actAudioCmd)

/-- AUD_TEMPLATE_LOAD's checks. -/
def templateSpec : OpSpec :=
  { opcode := 0x502, object := onAudio isAesOut, form := fun d => d.zeroFrom 40, reads := true }

/-- AUD_TEMPLATE_LOAD (R369): the template waits for the next block start. -/
def actTemplateLoad (d : Desc) (t : Ticket) (s : State) : State :=
  let k := d.objIndex.toNat
  if s.on (Reg.AUD_OUT_ENABLE k) then
    ((s.setAudOut k { s.audOut k with waiting := some (d.bytes.take 96) }).logHash t.fn d.obj 0 (d.bytes.take 96)).complete t 0 0
  else (s.logHash t.fn d.obj 0x2E01 (d.bytes.take 96)).complete t 0x2E01 0

def execAudTemplateLoad (d : Desc) (s : State) : Host.Outcome State Fault Refusal := .next (s.runDesc templateSpec d actTemplateLoad)

/-- AUD_CAPTURE_READ's checks. -/
def captureReadSpec : OpSpec := { opcode := 0x500, object := onAudio isAudIn, usesIndirect := true }

/-- AUD_CAPTURE_READ: the newest blocks, oldest first, with their count and the SEQ of the first. -/
def actCaptureRead (d : Desc) (t : Ticket) (s : State) : State :=
  let k := d.objIndex.toNat
  let x := s.audIn k
  let m := if x.part.isEmpty then s.capMask k else x.mask
  let nch := (bitsOf 64 m).length
  let size := capBlock (s.inSrate k) nch
  let have' := min x.seq (s.capBlocks k nch)
  let n := if m = 0 then 0 else min (d.p 40 4 / size) have'
  let base := s.get (Reg.AUD_IN_CAP_BASE k) * 4096
  let data := (List.range n).flatMap (fun i =>
    Memory.readAll s.mem (base + (x.seq - n + i) % (max 1 (s.capBlocks k nch)) * size) size)
  let ep := (List.range n).any (fun i => s.poisoned (base + (x.seq - n + i) % (max 1 (s.capBlocks k nch)) * size) size)
  (s.hostWriteEp t (d.p 32 8) data ep).complete t 0 (n + (x.seq - n) * 2 ^ 16)

def execAudCaptureRead (d : Desc) (s : State) : Host.Outcome State Fault Refusal := .next (s.runDesc captureReadSpec d actCaptureRead)

/-- The 96 bytes STATS_READ returns for an AES3 input (R369). -/
def State.aesStats (s : State) (j : Nat) : List Byte := (s.audIn j).status ++ (s.audIn j).user

/-- Calliope is powered by a mode transition (R372): every enabled output port starts as if by START. -/
def State.audioPowered (s : State) : State :=
  (audOutPorts.filter (fun k => s.on (Reg.AUD_OUT_ENABLE k))).foldl (fun (t : State) k => (t.portChange k .start none).armPort k) s

/-- Calliope is off: nothing is released, inputs lose their state. -/
def State.audioOff (s : State) : State :=
  let s1 := (audOutPorts.foldl (fun (t : State) k => t.cancel (audUnit k) (fun q => q.act == .sample k)) s)
  { s1 with aud := { s1.aud with
      samples := [],
      ins := Table.mapv s1.aud.ins (fun _ x => { AudIn.reset with seq := x.seq }),
      chans := Table.mapv s1.aud.chans (fun _ x => { x with started := false, gain := 0, ramp := false, last := 0, miss := none, raw := none }) } }

end Sys2Proof.Machine
end

