-- ==== Sys2Proof/Machine/Clears.lean ====
section
/-! DEFINITION. The clear commands: each returns the counters its register names to zero (R16). -/

namespace Sys2Proof.Machine

/-- One index applied to several fields. -/
def each (n : Nat) (f : Nat → List Field) : List Field := (List.range n).flatMap f

/-- DISCARD_CNT and PTP_ERR_CNT of a domain. -/
def domCounters (n : Nat) : List Field :=
  [Reg.TIM_DOM_DISCARD_CNT n, Reg.TIM_DOM_PTP_ERR_CNT n]

/-- The mode counters and, as chapter 19 adds, the AVS counters. -/
def pwrCounters : List Field :=
  [Reg.PWR_MODE_CHANGE_CNT, Reg.PWR_REFUSED_CNT, Reg.PWR_AVS_ERR_CNT, Reg.PWR_AVS_STEP_CNT]

/-- The four error counters of a function. -/
def fnCounters (f : Nat) : List Field :=
  [Reg.HIF_FN_DESC_ERR_CNT f, Reg.HIF_FN_DB_ERR_CNT f, Reg.HIF_FN_DMA_ERR_CNT f, Reg.HIF_FN_EVT_LOST_CNT f]

/-- Every UNMATCHED_CNT. -/
def ingLaneCounters : List Field :=
  each 16 (fun i => [Reg.ING_LANE_UNMATCHED_CNT i])

/-- Every counter of a receiver. -/
def rxCounters (r : Nat) : List Field :=
  [Reg.ING_RX_LATE_CNT r, Reg.ING_RX_FMT_ERR_CNT r, Reg.ING_RX_LOST_LINE_CNT r, Reg.ING_RX_FS_DROP_CNT r, Reg.ING_RX_TIME_ERR_CNT r, Reg.ING_RX_PATH_DOWN_CNT r, Reg.ING_RX_PKT0_CNT_LO r, Reg.ING_RX_PKT0_CNT_HI r, Reg.ING_RX_PKT1_CNT_LO r, Reg.ING_RX_PKT1_CNT_HI r, Reg.ING_RX_DUP_CNT_LO r, Reg.ING_RX_DUP_CNT_HI r]

/-- The counters of a slot and of its layers. -/
def cmpCounters (n : Nat) : List Field :=
  [Reg.CMP_SLOT_BCNT_BENCH_EVICT_CNT n, Reg.CMP_SLOT_BCNT_BENCH_FLAT_CNT n] ++ each 16 (fun l => [Reg.CMP_L_HELD_PIC_CNT n l, Reg.CMP_L_HELD_LINE_CNT n l, Reg.CMP_L_EMPTY_PIC_CNT n l, Reg.CMP_L_TRANSP_LINE_CNT n l])

/-- Every SAF_ counter. -/
def safCounters : List Field :=
  [Reg.SAF_MISMATCH_CNT, Reg.SAF_MISSING_CNT, Reg.SAF_SKEW_CNT, Reg.SAF_PROTECT_CNT] ++ each 4 (fun n => [Reg.SAF_SLOT_REFUSED_CNT n, Reg.SAF_SLOT_READBACK_ERR_CNT n])

/-- PIC_CNT and SWEEP_CNT of a slot. -/
def encCounters (n : Nat) : List Field :=
  [Reg.ENC_BS_PIC_CNT n, Reg.ENC_BS_SWEEP_CNT n]

/-- Every PKT_CNT of a slot. -/
def pktCounters (n : Nat) : List Field :=
  each 8 (fun m => [Reg.ENC_BS_STR_PKT_CNT n m])

/-- Every DEC_ counter of a slot. -/
def decCounters (n : Nat) : List Field :=
  [Reg.DEC_BS_MISS_SLICE_CNT n, Reg.DEC_BS_ERR_SLICE_CNT n, Reg.DEC_BS_MISS_PIC_CNT n, Reg.DEC_BS_NOSTAMP_CNT n, Reg.DEC_BS_FENCE_CNT n, Reg.DEC_BS_XTILE_CNT n, Reg.DEC_BS_DUP_SLICE_CNT n, Reg.DEC_BS_OUTSIDE_CNT n, Reg.DEC_BS_STALE_CNT n, Reg.DEC_BS_LATE_SLICE_CNT n, Reg.DEC_BS_MISMATCH_CNT n]

/-- The RC_ counters of a slot. -/
def rcCounters (n : Nat) : List Field :=
  [Reg.RC_BS_SPOIL_PIC_CNT n, Reg.RC_BS_GUARD_PIC_CNT n, Reg.RC_BS_GUARD_CTU_CNT n, Reg.RC_BS_SPOIL_ROW_CNT n]

/-- The counters of a scan-out lane. -/
def scnCounters (i : Nat) : List Field :=
  [Reg.SCN_LANE_UNDERRUN_CNT i, Reg.SCN_LANE_NOTREADY_CNT i, Reg.SCN_LANE_PROTO_CNT i, Reg.SCN_LANE_DUP_REQ_CNT i, Reg.SCN_LANE_SR_ENTER_CNT i, Reg.SCN_LANE_TRANSITION_CNT i, Reg.SCN_LANE_FRAME_CNT i]

/-- The lane counters except ERR_CNT and BITS_CNT. -/
def laneCounters (i : Nat) : List Field :=
  [Reg.LANE_LOCK_LOSS_CNT i, Reg.LANE_TRAIN_FAIL_CNT i, Reg.LANE_FEC_CORR_CNT i, Reg.LANE_FEC_UNCORR_CNT i, Reg.LANE_FCS_ERR_CNT i, Reg.LANE_PAUSE_CNT i]

/-- The AKN_ counters of a lane. -/
def aknCounters (i : Nat) : List Field :=
  [Reg.AKN_HCRC_ERR_CNT i, Reg.AKN_DCRC_ERR_CNT i, Reg.AKN_PROTO_CNT i, Reg.AKN_CREDIT_ERR_CNT i]

/-- The counters and watermarks of an egress queue. -/
def queueCounters (i c : Nat) : List Field :=
  [Reg.CAR_P_Q_DEPTH_MAX_B i c, Reg.CAR_P_Q_DELAY_MAX_NS i c, Reg.CAR_P_Q_TX_FRAME_CNT i c, Reg.CAR_P_Q_TX_FRAME_CNT_HI i c, Reg.CAR_P_Q_DROP_CNT i c, Reg.CAR_P_Q_OVERSIZE_CNT i c, Reg.CAR_P_Q_DOWN_DROP_CNT i c, Reg.CAR_P_Q_OVERDUE_CNT i c]

/-- The colour counters of every meter. -/
def trnCounters : List Field :=
  each 128 (fun q => [Reg.TRN_Q_GREEN_CNT q, Reg.TRN_Q_YELLOW_CNT q, Reg.TRN_Q_RED_CNT q])

/-- Every AUD_ counter. -/
def audCounters : List Field :=
  [Reg.AUD_MCLK_LOSS_CNT] ++ each 16 (fun k => [k, k + 32].flatMap (fun p => [Reg.AUD_IN_LOSS_CNT p, Reg.AUD_IN_PARITY_CNT p, Reg.AUD_IN_SLIP_CNT p, Reg.AUD_IN_CS_ERR_CNT p, Reg.AUD_IN_INVALID_CNT p, Reg.AUD_IN_RATE_ERR_CNT p])) ++ each 16 (fun k => [k + 16, k + 48].flatMap (fun p => [Reg.AUD_OUT_UNDERRUN_CNT p, Reg.AUD_OUT_ZC_TO_CNT p])) ++ each 16 (fun k => [Reg.AUD_OUT_PKT_CNT (k + 48)])

/-- Every DMC_ counter. -/
def dmcCounters : List Field :=
  each 16 (fun p => [Reg.DMC_RANK_CE_CNT p, Reg.DMC_RANK_UE_CNT p, Reg.DMC_PORT_LATE_CNT p]) ++ [Reg.DMC_MIG_CNT, Reg.DMC_POISON_COPY_CNT, Reg.DMC_NBR_CNT]

/-- Every BRK_ counter. -/
def brkCounters : List Field :=
  each 4 (fun p => [Reg.BRK_PAIR_VANISHED_CNT p, Reg.BRK_PAIR_STRAY_CNT p, Reg.BRK_PAIR_HANDON_CNT p, Reg.BRK_PAIR_ENTRY_TAKE_CNT p])

/-- Every JUG_ counter. -/
def jugCounters : List Field :=
  [Reg.JUG_DISPATCH_CNT, Reg.JUG_PREEMPT_CNT, Reg.JUG_INTR_CNT, Reg.JUG_STRAY_SIG_CNT, Reg.JUG_WDT_CNT, Reg.JUG_FULL_CNT]

/-- The counters of a check unit. -/
def chkCounters (n : Nat) : List Field :=
  [Reg.CHK_PKT_CNT n, Reg.CHK_CRC_ERR_CNT n]

/-- Every TRP_ counter. -/
def trpCounters : List Field :=
  [Reg.TRP_UNCOVERED_CNT, Reg.TRP_RESEND_CNT, Reg.TRP_RESYNC_CNT, Reg.TRP_TAKEOVER_CNT, Reg.TRP_MALFORMED_CNT, Reg.TRP_TEST_FAIL_CNT]

/-- Every THM_ counter. -/
def thmCounters : List Field :=
  [Reg.THM_VOLT_ERR_CNT, Reg.THM_THROTTLE_CNT, Reg.THM_WARN_CNT, Reg.THM_SMB_ERR_CNT]

/-- A clear command: when the writer reaches the register, every listed counter reads 0 afterwards (R16). -/
def State.clearBy (s : State) (w : Writer) (clr : Field) (l : List Field) : State :=
  s.byWriter w clr.off (fun s => s.clear l)

/-- A clear command of a block whose chapter logs every write (R57, R75; chapter 12; R453): as clearBy, and the write
is logged with CODE 0x0000. -/
def State.clearLogged (s : State) (w : Writer) (clr : Field) (l : List Field) : State :=
  s.byWriter w clr.off (fun s => (s.clear l).logReg w clr.off 0 0 0)

/-- TIM_DOM_CLR. -/
def execTimDomClr (w : Writer) (n : Fin 2) (s : State) : Host.Outcome State Fault Refusal :=
  .next (s.clearLogged w (Reg.TIM_DOM_CLR_CLR n) (domCounters n))

/-- TIM_LATE_CLR. -/
def execTimLateClr (w : Writer) (s : State) : Host.Outcome State Fault Refusal :=
  .next (s.clearLogged w Reg.TIM_LATE_CLR [Reg.TIM_LAUNCH_LATE_CNT])

/-- ENC_LATE_CLR. -/
def execEncLateClr (w : Writer) (n : Fin 4) (s : State) : Host.Outcome State Fault Refusal :=
  .next (s.clearBy w (Reg.ENC_BS_LATE_CLR n) [Reg.ENC_BS_ROW_LATE_CNT n])

/-- PWR_CNT_CLR. -/
def execPwrCntClr (w : Writer) (s : State) : Host.Outcome State Fault Refusal :=
  .next (s.clearBy w Reg.PWR_CNT_CLR_CLR pwrCounters)

/-- ING_LANE_CLR. -/
def execIngLaneClr (w : Writer) (s : State) : Host.Outcome State Fault Refusal :=
  .next (s.clearBy w Reg.ING_LANE_CLR_CLR ingLaneCounters)

/-- ING_RX_CLR. -/
def execIngRxClr (w : Writer) (r : Fin 60) (s : State) : Host.Outcome State Fault Refusal :=
  .next (s.clearBy w (Reg.ING_RX_CLR r) (rxCounters r))

/-- CMP_SLOT_CLR. -/
def execCmpSlotClr (w : Writer) (n : Fin 4) (s : State) : Host.Outcome State Fault Refusal :=
  .next (s.clearBy w (Reg.CMP_SLOT_CLR_CLR n) (cmpCounters n))

/-- SAF_CLR. -/
def execSafClr (w : Writer) (s : State) : Host.Outcome State Fault Refusal :=
  .next (s.clearBy w Reg.SAF_CLR_CLR safCounters)

/-- ENC_EFFORT_CNT_CLR. -/
def execEncEffortCntClr (w : Writer) (s : State) : Host.Outcome State Fault Refusal :=
  .next (s.clearBy w Reg.ENC_EFFORT_CNT_CLR [Reg.ENC_EFFORT_CHG_CNT])

/-- ENC_BS_CLR. -/
def execEncBsClr (w : Writer) (n : Fin 4) (s : State) : Host.Outcome State Fault Refusal :=
  .next (s.clearBy w (Reg.ENC_BS_CLR_CLR n) (encCounters n))

/-- ENC_PKT_CLR. -/
def execEncPktClr (w : Writer) (n : Fin 4) (s : State) : Host.Outcome State Fault Refusal :=
  .next (s.clearBy w (Reg.ENC_BS_PKT_CLR_CLR n) (pktCounters n))

/-- DEC_BS_CLR. -/
def execDecBsClr (w : Writer) (n : Fin 4) (s : State) : Host.Outcome State Fault Refusal :=
  .next (s.clearBy w (Reg.DEC_BS_CLR_CLR n) (decCounters n))

/-- RC_BS_CLR. -/
def execRcBsClr (w : Writer) (n : Fin 4) (s : State) : Host.Outcome State Fault Refusal :=
  .next (s.clearBy w (Reg.RC_BS_CLR_CLR n) (rcCounters n))

/-- SCN_LANE_CLR. -/
def execScnLaneClr (w : Writer) (i : Fin 16) (s : State) : Host.Outcome State Fault Refusal :=
  .next (s.clearBy w (Reg.SCN_LANE_CLR_CLR i) (scnCounters i))

/-- LANE_CLR. -/
def execLaneClr (w : Writer) (i : Fin 16) (s : State) : Host.Outcome State Fault Refusal :=
  .next (s.clearLogged w (Reg.LANE_CLR_CLR i) (laneCounters i))

/-- AKN_CLR. -/
def execAknClr (w : Writer) (i : Fin 16) (s : State) : Host.Outcome State Fault Refusal :=
  .next (s.clearLogged w (Reg.AKN_CLR_CLR i) (aknCounters i))

/-- CAR_SWAP_CNT_CLR. -/
def execCarSwapCntClr (w : Writer) (i : Fin 16) (s : State) : Host.Outcome State Fault Refusal :=
  .next (s.clearBy w (Reg.CAR_P_CNT_CLR i) [Reg.CAR_P_CNT_SWAP_CNT i])

/-- CAR_QUEUE_CLR. -/
def execCarQueueClr (w : Writer) (i : Fin 16) (c : Fin 8) (s : State) : Host.Outcome State Fault Refusal :=
  .next (s.clearBy w (Reg.CAR_P_Q_CLR i c) (queueCounters i c))

/-- TRN_CLR. -/
def execTrnClr (w : Writer) (s : State) : Host.Outcome State Fault Refusal :=
  .next (s.clearBy w Reg.TRN_CLR_CLR trnCounters)

/-- AUD_CNT_CLR. -/
def execAudCntClr (w : Writer) (s : State) : Host.Outcome State Fault Refusal :=
  .next (s.clearBy w Reg.AUD_CNT_CLR audCounters)

/-- DMC_CLR. -/
def execDmcClr (w : Writer) (s : State) : Host.Outcome State Fault Refusal :=
  .next (s.clearBy w Reg.DMC_CLR_CLR dmcCounters)

/-- BRK_CLR. -/
def execBrkClr (w : Writer) (s : State) : Host.Outcome State Fault Refusal :=
  .next (s.clearBy w Reg.BRK_CLR_CLR brkCounters)

/-- JUG_CLR. -/
def execJugClr (w : Writer) (s : State) : Host.Outcome State Fault Refusal :=
  .next (s.clearBy w Reg.JUG_CLR_CLR jugCounters)

/-- CHK_CLR. -/
def execChkClr (w : Writer) (n : Fin 4) (s : State) : Host.Outcome State Fault Refusal :=
  .next (s.clearBy w (Reg.CHK_CLR n) (chkCounters n))

/-- TRP_CLR. -/
def execTrpClr (w : Writer) (s : State) : Host.Outcome State Fault Refusal :=
  .next (s.clearLogged w Reg.TRP_CLR_CLR trpCounters)

/-- THM_CLR. -/
def execThmClr (w : Writer) (s : State) : Host.Outcome State Fault Refusal :=
  .next (s.clearBy w Reg.THM_CLR thmCounters)

/-- HIF_FN_CLR: a function clears its own four error counters. -/
def execHifFnClr (f : Fin 32) (s : State) : Host.Outcome State Fault Refusal :=
  .next (s.clearBy (.host f) (Reg.HIF_FN_CLR_CLR f) (fnCounters f))

end Sys2Proof.Machine
end

