-- ==== Sys2Proof/Machine/Dram.lean ====
section
/-! DEFINITION. The DRAM controller's maps, fill and training helpers (chapter 15). -/

namespace Sys2Proof.Machine

/-! ## Ranks (R375, R378) -/

/-- STATE of a physical rank. -/
def State.rankState (s : State) (p : Nat) : Nat := s.get (Reg.DMC_RANK_STATE_STATE p)
def rankAbsent : Nat := 0
def rankTraining : Nat := 1
def rankInService : Nat := 2
def rankSpare : Nat := 3
def rankMigrating : Nat := 4
def rankRetired : Nat := 5
def rankFilling : Nat := 6

def State.setRank (s : State) (p v : Nat) : State := s.set (Reg.DMC_RANK_STATE_STATE p) v
def State.retireRank (s : State) (p : Nat) (c : Code) : State :=
  s.setAll [(Reg.DMC_RANK_STATE_STATE p, rankRetired), (Reg.DMC_RANK_STATE_MAPPED p, 0), (Reg.DMC_RANK_STATE_RETIRE_CODE p, c)]

/-- The sixteen physical ranks. -/
def ranks : List Nat := List.range 16

/-- The rank the floor map uses: the lowest-numbered trained one that is not retired (R377). -/
def State.floorRank (s : State) : Option Nat := ranks.find? (fun p => bit s.dram.trained p && s.rankState p != rankRetired)

/-- The spare, if one exists. -/
def State.spareRank (s : State) : Option Nat := ranks.find? (fun p => s.rankState p == rankSpare)

/-- Show which position each rank serves under the full map. -/
def State.showServe (s : State) : State :=
  ranks.foldl (fun (t : State) p =>
    match t.dram.serve.find? (fun e => e.2 == p) with
    | some (q, _) => t.setAll [(Reg.DMC_RANK_STATE_MAPPED p, 1), (Reg.DMC_RANK_STATE_POS_CH p, q % 8), (Reg.DMC_RANK_STATE_POS_RANK p, q / 8)]
    | none => t.set (Reg.DMC_RANK_STATE_MAPPED p) 0) s

/-- FILL_DONE: every set in service is DONE. -/
def State.showFill (s : State) : State :=
  let sets := bitsOf 2 (s.get Reg.DMC_STATUS_SETS)
  s.set Reg.DMC_STATUS_FILL_DONE (b2n (!sets.isEmpty && sets.all (fun k => s.on (Reg.DMC_SET_FILL_DONE k))))

/-- Where a rank-local address lies (R379): W is 5, 6 or 7 for ranks of 8, 16 and 32 GiB. -/
def dramPlace (w r : Nat) : DramPlace :=
  { burst := bits r 5 0, sub := bits r 6 6, group := bits r 9 7, column := bits r (9 + w) 10 * 16, bank := bits r (11 + w) (10 + w),
    row := bits r (27 + w) (12 + w) }

/-- The place of a rank-local address on this device's ranks. -/
def State.dramPlace (s : State) (r : Nat) : DramPlace := Sys2Proof.Machine.dramPlace (5 + s.get Reg.DMC_LAYOUT_RANK_SIZE) r

/-- A map comes into force with some sets: in-service DRAM is empty and is filled again, the Ledger's ring
with it (R380, R382, R471). -/
def State.newMap (s : State) (map sets : Nat) : State :=
  (({ s with mem := [], dram := { s.dram with poison := [], runs := [] }, ledger := { s.ledger with dram := [], placed := 0 } } : State).setAll
    [(Reg.DMC_LAYOUT_MAP, map), (Reg.DMC_STATUS_SETS, sets), (Reg.DMC_SET_FILL_DONE 0, 0), (Reg.DMC_SET_FILL_DONE 1, 0),
     (Reg.DMC_SET_FILL_FILLED 0, 0), (Reg.DMC_SET_FILL_FILLED 1, 0)]).showFill

/-- The sets whose eight positions are all served. -/
def State.wholeSets (s : State) : Nat :=
  maskOf (([0, 1] : List Nat).filter (fun k => (List.range 8).all (fun c => (Table.find s.dram.serve (8 * k + c)).isSome)))

/-- The floor map comes into force on a rank (R377, R380). -/
def State.toFloor (s : State) : State :=
  match s.floorRank with
  | none => s
  | some p =>
    ((ranks.foldl (fun (t : State) q => t.set (Reg.DMC_RANK_STATE_MAPPED q) 0) s).setAll
      [(Reg.DMC_RANK_STATE_STATE p, rankInService), (Reg.DMC_RANK_STATE_MAPPED p, 1), (Reg.DMC_RANK_STATE_POS_CH p, p / 2),
       (Reg.DMC_RANK_STATE_POS_RANK p, p % 2)]).newMap mapFloor 1

/-- The full map comes into force (R377, R380). -/
def State.toFull (s : State) : State := (s.showServe.newMap mapFull s.wholeSets)

/-- A rank has been trained, or could not be and is RETIRED with 0x7F05 (R377, R385). -/
def State.rankTrained (s : State) (p : Nat) (ok : Bool) : State :=
  if ok then
    let s1 : State := { s with dram := { s.dram with trained := setBit s.dram.trained p } }
    if s1.floorRank = some p ∧ !s.dram.formed then
      (ranks.foldl (fun (t : State) q => if q ≠ p ∧ t.rankState q = rankInService then t.setRank q rankTraining else t) s1).toFloor
    else s1
  else (s.retireRank p 0x7F05).raise 0x7F05 objDevice {}

/-- Whether every populated rank is trained or retired (R91). -/
def State.allTrained (s : State) : Bool :=
  ranks.all (fun p => !(bit s.dram.populated p) || bit s.dram.trained p || s.rankState p == rankRetired)

/-! ## The layout (R375, R376, R385) -/

/-- Whether a layout allows a rank. -/
def layoutAllows (nr spareEn spareCh p : Nat) : Bool := decide (p % 2 < nr) || (spareEn == 1 && p == 2 * spareCh + 1)

/-- Whether a layout commit is refused. -/
def State.layoutRefused (s : State) (spareEn spareCh size nr : Nat) : Bool :=
  s.dram.formed || size == 3 || nr == 0 || nr == 3 || (spareEn == 1 && nr == 2)
    || ranks.any (fun p => bit s.dram.trained p && s.rankState p != rankRetired && !(layoutAllows nr spareEn spareCh p))

/-- Serve the positions of a layout: each by its own rank, one whose rank is not trained by the spare while it is free. -/
def State.servePositions (s : State) (nr : Nat) (spare : Option Nat) : Table Nat :=
  ((List.range (8 * nr)).foldl (fun (a : Table Nat × Option Nat) q =>
    let p := 2 * (q % 8) + q / 8
    if bit s.dram.trained p && s.rankState p != rankRetired then (Table.put a.1 q p, a.2)
    else match a.2 with
      | some x => (Table.put a.1 q x, none)
      | none => a) ([], spare)).1

/-- DMC_LAYOUT_COMMIT (R376). -/
def State.layoutCommit (s : State) (v : Nat) : State :=
  let en := bits v 19 19
  let ch := bits v 18 16
  let size := bits v 13 12
  let nr := bits v 1 0
  if s.layoutRefused en ch size nr then s.set Reg.DMC_STATUS_LAST_STATUS 0x1F01
  else
    let spare := 2 * ch + 1
    let live := en == 1 && bit s.dram.trained spare && s.rankState spare != rankRetired
    let serve := s.servePositions nr (if live then some spare else none)
    let s1 := ({ s with dram := { s.dram with formed := true, serve := serve } } : State).setAll
      [(Reg.DMC_LAYOUT_SPARE_EN, en), (Reg.DMC_LAYOUT_SPARE_CH, ch), (Reg.DMC_LAYOUT_RANK_SIZE, size), (Reg.DMC_LAYOUT_NR, nr),
       (Reg.DMC_STATUS_LAST_STATUS, 0)]
    let s2 := serve.foldl (fun (t : State) e => t.setRank e.2 rankInService) s1
    (if live && !(serve.any (fun e => e.2 == spare)) then s2.setRank spare rankSpare else s2).toFull

def execDmcLayoutCommit (w : Writer) (v : BitVec 32) (s : State) : Host.Outcome State Fault Refusal :=
  let f := [Reg.DMC_LAYOUT_SPARE_EN, Reg.DMC_LAYOUT_SPARE_CH, Reg.DMC_LAYOUT_RANK_SIZE, Reg.DMC_LAYOUT_NR]
  .next (s.byWriter w Reg.DMC_LAYOUT_COMMIT.off (fun s =>
    let s1 := s.layoutCommit v.toNat
    s1.logReg w Reg.DMC_LAYOUT_COMMIT.off (s1.get Reg.DMC_STATUS_LAST_STATUS) (s.word f) (s1.word f)))

/-! ## Fill (R381, R382) -/

/-- The 4 KiB units of a set below its metadata. -/
def State.setUnits (s : State) : Nat := (s.setBytes - s.setBytes / 1024) / 4096

/-- SET_FILL_DONE: set 0 before set 1. -/
def State.fillDone (s : State) (k : Nat) : State :=
  let sets := s.get Reg.DMC_STATUS_SETS
  if bit sets k && !(s.on (Reg.DMC_SET_FILL_DONE k)) && (k == 0 || !(bit sets 0) || s.on (Reg.DMC_SET_FILL_DONE 0)) then
    ((s.setAll [(Reg.DMC_SET_FILL_FILLED k, s.setUnits), (Reg.DMC_SET_FILL_DONE k, 1)]).showFill).raise 0x0F02 objDevice { w16 := k }
  else s

/-- One tick of a fill: FILLED of the set being filled rises by a free amount and stays below the set's metadata until the
set is DONE (R382: the pace beside other traffic is not fixed). -/
def State.fillTick (s : State) : State :=
  match (bitsOf 2 (s.get Reg.DMC_STATUS_SETS)).find? (fun k => !(s.on (Reg.DMC_SET_FILL_DONE k))) with
  | none => s
  | some k =>
    let (q, s1) := s.draw
    s1.set (Reg.DMC_SET_FILL_FILLED k) (min (s.setUnits - 1) (s.get (Reg.DMC_SET_FILL_FILLED k) + q))

def execSetFillDone (k : Fin 2) (s : State) : Host.Outcome State Fault Refusal := .next (s.fillDone k)

/-! ## Training helpers (R383, R384) -/

/-- Whether an operation is refused: its rank serves or is being filled or copied, or the helper is BUSY. -/
def State.helperRefused (s : State) (c rank : Nat) : Bool :=
  let st := s.rankState (2 * c + rank)
  s.on (Reg.DMC_TRN_BUSY c) || st == rankInService || st == rankMigrating || st == rankFilling

/-- A write of TRN_CTRL with GO: the operation starts, or nothing but LAST_STATUS changes. -/
def State.helperGo (s : State) (w : Writer) (c op v : Nat) : State :=
  let off := (Reg.DMC_TRN_GO c).off
  s.byWriter w off (fun s =>
    let rank := bits v 25 25
    let len := bits v 23 0
    let code := if s.helperRefused c rank then 0x1F03 else if len = 0 then 0x1F02 else 0
    let s1 := if code ≠ 0 then s
      else (({ s with dram := { s.dram with ops := Table.put s.dram.ops c (op != 0) } } : State).setAll
        [(Reg.DMC_TRN_BUSY c, 1), (Reg.DMC_TRN_OP c, op), (Reg.DMC_TRN_PATTERN c, bits v 27 26), (Reg.DMC_TRN_RANK c, rank), (Reg.DMC_TRN_LEN c, len)]).emit
        (.training c rank op (bits v 27 26) ((List.range 16).flatMap (fun m => leBytes 4 (s.get (Reg.DMC_TRN_USER c m))))
          (s.dramPlace (s.get (Reg.DMC_TRN_ADDR c) * 64)) len)
    (s1.set (Reg.DMC_TRN_LAST_STATUS c) code).logReg w off code 0 v)

def execTrnWrite (w : Writer) (c : Fin 8) (v : BitVec 32) (s : State) : Host.Outcome State Fault Refusal :=
  .next (s.helperGo w c 0 v.toNat)
def execTrnReadCompare (w : Writer) (c : Fin 8) (v : BitVec 32) (s : State) : Host.Outcome State Fault Refusal :=
  .next (s.helperGo w c 1 v.toNat)
def execTrnWriteCompare (w : Writer) (c : Fin 8) (v : BitVec 32) (s : State) : Host.Outcome State Fault Refusal :=
  .next (s.helperGo w c 2 v.toNat)

/-- Count bit errors of a lane, 8 bits, saturating. The word is one field of the register store. -/
def State.countErr (s : State) (c lane n : Nat) : State :=
  let f := Reg.DMC_TRN_ERR c (lane / 4)
  let sh := 2 ^ (8 * (lane % 4))
  let old := s.get f / sh % 256
  s.set f (s.get f - old * sh + min 255 (old + n) * sh)

/-- TRN_OP_DONE: BUSY clears; a compare counts the bits in error, lane by lane. -/
def execTrnOpDone (c : Fin 8) (errors : List (Fin 80 × Fin 65536)) (s : State) : Host.Outcome State Fault Refusal :=
  .next (if s.on (Reg.DMC_TRN_BUSY c) then
    let s1 := ({ s with dram := { s.dram with ops := Table.del s.dram.ops c } } : State).setAll [(Reg.DMC_TRN_BUSY c, 0), (Reg.DMC_TRN_LAST_STATUS c, 0)]
    if Table.getD s.dram.ops c false then errors.foldl (fun (t : State) e => t.countErr c e.1 e.2) s1 else s1
    else s)

/-- TRN_DLY_SET: the delays and VREF of one lane. -/
def execTrnDlySet (w : Writer) (c : Fin 8) (v : BitVec 32) (s : State) : Host.Outcome State Fault Refusal :=
  let lane := bits v.toNat 30 24
  let x := (bits v.toNat 23 16, bits v.toNat 15 8, bits v.toNat 7 0)
  .next (s.byWriter w (Reg.DMC_TRN_SET c).off (fun s =>
    if lane < 80 then
      (({ s with dram := { s.dram with delays := Table.put s.dram.delays (80 * c + lane) x } } : State).setAll
        [(Reg.DMC_TRN_LANE c, lane), (Reg.DMC_TRN_RD_DLY c, x.1), (Reg.DMC_TRN_WR_DLY c, x.2.1), (Reg.DMC_TRN_VREF c, x.2.2)]).logReg
        w (Reg.DMC_TRN_SET c).off 0 0 v.toNat
    else (s.set Reg.DMC_STATUS_LAST_STATUS 0x1F02).logReg w (Reg.DMC_TRN_SET c).off 0x1F02 0 v.toNat))

/-- MR_WRITE: an SDRAM mode register of the helper's rank is written. -/
def execMrWrite (w : Writer) (c : Fin 8) (addr data : BitVec 8) (s : State) : Host.Outcome State Fault Refusal :=
  .next (s.byWriter w (Reg.DMC_TRN_MR_WRITE c).off (fun s =>
    ((s.setAll [(Reg.DMC_TRN_MR_ADDR c, addr.toNat), (Reg.DMC_TRN_MR_DATA c, data.toNat)]).emit
      (.modeRegister c (s.get (Reg.DMC_TRN_RANK c)) addr.toNat data.toNat)).logReg w (Reg.DMC_TRN_MR_WRITE c).off 0 0
      (2 ^ 31 + addr.toNat * 256 + data.toNat)))

/-- MR_READ: the SDRAM's answer comes into MR_DATA. -/
def execMrRead (w : Writer) (c : Fin 8) (addr answer : BitVec 8) (s : State) : Host.Outcome State Fault Refusal :=
  .next (s.byWriter w (Reg.DMC_TRN_MR_WRITE c).off (fun s =>
    (s.setAll [(Reg.DMC_TRN_MR_ADDR c, addr.toNat), (Reg.DMC_TRN_MR_DATA c, answer.toNat)]).logReg w (Reg.DMC_TRN_MR_WRITE c).off 0 0
      (addr.toNat * 256)))

/-! ## Migration (R392, R393) -/

/-- PTR at the end of a rank. -/
def State.rankUnits (s : State) : Nat := rankBytes (s.get Reg.DMC_LAYOUT_RANK_SIZE) / 4096

/-- The position a rank serves. -/
def State.positionOf (s : State) (p : Nat) : Option Nat := (s.dram.serve.find? (fun e => e.2 == p)).map (fun e => e.1)

/-- The position under the full map, and the rank-local address, of a device address (R377). -/
def State.fullMap (s : State) (a : Nat) : Nat × Nat :=
  let o := a % s.setBytes
  (8 * (a / s.setBytes) + o / 256 % 8, o / 2048 * 256 + o % 256)

/-- The poisoned lines of a position from block lo up to block hi. -/
def State.poisonIn (s : State) (q lo hi : Nat) : Nat :=
  (s.dram.poison.filter (fun a => let x := s.fullMap a; x.1 == q && decide (lo ≤ x.2 / 4096 ∧ x.2 / 4096 < hi))).length

/-- The copy reaches a block: PTR, with the poisoned lines copied (R392, R394). -/
def State.copyTo (s : State) (ptr : Nat) : State :=
  match s.positionOf (s.get Reg.DMC_MIG_CTRL_SRC) with
  | none => s
  | some q => (s.count Reg.DMC_POISON_COPY_CNT (s.poisonIn q (s.get Reg.DMC_MIG_PTR) ptr)).set Reg.DMC_MIG_PTR ptr

/-- A migration ends with the spare in service (R393). -/
def State.migrationDone (s : State) : State :=
  match s.dram.mig with
  | none => s
  | some m =>
    let src := s.get Reg.DMC_MIG_CTRL_SRC
    let dst := s.get Reg.DMC_MIG_CTRL_DST
    match s.positionOf src with
    | none => s
    | some q =>
      let s1 := ({ s with dram := { s.dram with mig := none, serve := Table.put s.dram.serve q dst } } : State).setAll
        [(Reg.DMC_RANK_STATE_STATE dst, rankInService), (Reg.DMC_RANK_STATE_STATE src, rankRetired),
         (Reg.DMC_RANK_STATE_RETIRE_CODE src, if m.tickets.isEmpty then 0x7F03 else 0x0F01),
         (Reg.DMC_MIG_CTRL_ACTIVE, 0), (Reg.DMC_STATUS_MIG_ACTIVE, 0), (Reg.DMC_MIG_PTR, s.rankUnits)]
      let s2 := if s.get Reg.DMC_LAYOUT_MAP = mapFull then s1.showServe else s1
      ((s2.bump Reg.DMC_MIG_CNT).raise 0x0F01 objDevice {}).completeAll 0x0F01 m.tickets

/-- The copy of a rank is whole (R393). -/
def State.copyDone (s : State) : State := (s.copyTo s.rankUnits).migrationDone

/-- MIGRATION_COMPLETE (R393): PTR leaves the last block; while earlier blocks are still to be copied it has not reached the end. -/
def execMigrationComplete (s : State) : Host.Outcome State Fault Refusal :=
  .next (if s.dram.mig.isSome ∧ s.rankUnits ≤ s.get Reg.DMC_MIG_PTR + 1 then s.copyDone else s)

/-- One tick of a migration: PTR advances at RATE_MBPS; at the end of the rank the migration is done (R392, R393). -/
def State.migrationTick (s : State) : State :=
  match s.dram.mig with
  | none => s
  | some m =>
    let acc := m.acc + s.get Reg.DMC_MIG_CTRL_RATE_MBPS
    let s1 : State := { s with dram := { s.dram with mig := some { m with acc := acc } } }
    if s.rankUnits ≤ acc / 6553600 then s1.copyDone else s1.copyTo (acc / 6553600)

end Sys2Proof.Machine
end

