-- ==== Sys2Proof/Machine/Engines.lean ====
section
/-! DEFINITION. Juggler, Barker and the check units (chapter 16). -/

namespace Sys2Proof.Machine

/-! ## Juggler tasks (R404 to R406) -/

/-- Whether Juggler is powered (R410). -/
def State.juggler (s : State) : Bool := s.pdOn 6

/-- Write a task. -/
def State.setTask (s : State) (id : Nat) (t : Task) : State := { s with tasks := Table.put s.tasks id t }

/-- The task that runs on an engine. -/
def State.runningOn (s : State) (e : Nat) : Option (Nat × Task) := s.tasks.find? (fun x => x.2.state == .running e)

/-- The drain group of an engine (R409). -/
def drainGroup (e : Nat) : Nat := e / 12

/-- READY_NOW, USED and DRAINED. -/
def State.showJug (s : State) : State :=
  let drain := s.get Reg.JUG_CTRL_DRAIN
  let drained := maskOf ((List.range 8).filter (fun g => bit drain g && !(s.tasks.any (fun x =>
    match x.2.state with | .running e => drainGroup e == g | _ => false))))
  s.setAll [(Reg.JUG_TASKS_READY_NOW, (s.tasks.filter (fun x => x.2.state == .ready)).length), (Reg.JUG_TASKS_USED, s.tasks.length),
    (Reg.JUG_CTRL_DRAINED, drained)]

/-- Whether the flags satisfy the wait; a mask of 0 never does. -/
def Task.satisfied (t : Task) : Bool := if t.all then t.mask != 0 && t.flags &&& t.mask == t.mask else t.flags &&& t.mask != 0

/-- A WAITING task becomes READY once its flags satisfy its wait. -/
def Task.wake (t : Task) (lc : Nat) : Task :=
  if t.state == .waiting && t.satisfied then { t with state := .ready, readyAt := lc } else t

/-- The lowest FREE ID. -/
def State.freeTask (s : State) : Option Nat := (List.range 4096).find? (fun i => (Table.find s.tasks i).isNone)

/-- TASK_CREATE (R406). -/
def execTaskCreate (pair : Fin 4) (priority : Fin 8) (affinity : BitVec 96) (preemptible : Bool) (mask : BitVec 32) (all : Bool)
    (s : State) : Host.Outcome State Fault Refusal :=
  .next (if s.juggler then
    match s.freeTask with
    | none => (s.bump Reg.JUG_FULL_CNT).emit (.created pair 0x2162 0)
    | some id =>
      ((s.setTask id { state := .waiting, priority := priority, flags := 0, mask := mask.toNat, all := all,
                       affinity := affinity.toNat, preemptible := preemptible, readyAt := 0, passed := 0, asked := none }).showJug).emit
        (.created pair 0 id)
    else s)

/-- TASK_DESTROY: a task is FREE; a RUNNING one is stopped first. -/
def execTaskDestroy (id : Fin 4096) (s : State) : Host.Outcome State Fault Refusal :=
  .next (if s.juggler then ({ s with tasks := Table.del s.tasks id } : State).showJug else s)

/-- Set flags of a task; of a task that is FREE or FAULTED they are stray (R406). -/
def State.signalTask (s : State) (id flags : Nat) : State :=
  match Table.find s.tasks id with
  | none => s.bump Reg.JUG_STRAY_SIG_CNT
  | some t =>
    if t.state = .faulted then s.bump Reg.JUG_STRAY_SIG_CNT
    else (s.setTask id (({ t with flags := t.flags ||| flags } : Task).wake s.lc)).showJug

def execTaskSignal (id : Fin 4096) (flags : BitVec 32) (s : State) : Host.Outcome State Fault Refusal :=
  .next (if s.juggler then s.signalTask id flags.toNat else s)

/-- A launch to a slice engine unit is delivered to Juggler (R407). -/
def State.launchTask (s : State) (kind tag : Nat) : State :=
  let flag := if kind = 2 then 29 else if kind = 3 then 30 else 31
  if tag / 4096 ≠ 0 ∨ (Table.find s.tasks (tag % 4096)).isNone then s.bump Reg.JUG_STRAY_SIG_CNT else s.signalTask (tag % 4096) (2 ^ flag)

/-- TASK_WAIT: the running task of an engine waits; one already satisfied is READY at once. -/
def execTaskWait (e : Fin 96) (mask : BitVec 32) (all : Bool) (s : State) : Host.Outcome State Fault Refusal :=
  .next (match s.runningOn e with
    | none => s
    | some (id, t) => (s.setTask id (({ t with state := .waiting, mask := mask.toNat, all := all } : Task).wake s.lc)).showJug)

/-- TASK_YIELD: the running task of an engine is READY, its flags unchanged. -/
def execTaskYield (e : Fin 96) (s : State) : Host.Outcome State Fault Refusal :=
  .next (match s.runningOn e with
    | none => s
    | some (id, t) => (s.setTask id { t with state := .ready, readyAt := s.lc }).showJug)

/-! ## Dispatch (R408, R409) -/

/-- Whether an engine takes tasks: powered, not fenced, not draining. -/
def State.engineTakes (s : State) (e : Nat) : Bool := s.engineHealthy e && !(bit (s.get Reg.JUG_CTRL_DRAIN) (drainGroup e))

/-- Whether one READY task comes before another: priority, then the earliest READY_LC, then the ID. -/
def taskBefore (a b : Nat × Task) : Bool :=
  decide (b.2.priority < a.2.priority) || (a.2.priority == b.2.priority && (decide (a.2.readyAt < b.2.readyAt) ||
    (a.2.readyAt == b.2.readyAt && decide (a.1 < b.1))))

/-- The READY tasks in the order Juggler takes them. -/
def State.readyTasks (s : State) : List (Nat × Task) := (s.tasks.filter (fun x => x.2.state == .ready)).mergeSort taskBefore

/-- The engines of a task's affinity. -/
def Task.engines (t : Task) : List Nat := bitsOf 96 t.affinity

/-- Dispatch a task on an engine: the awaited flags that were set are passed to it and cleared. -/
def State.dispatchOn (s : State) (e id : Nat) (t : Task) : State :=
  let got := t.flags &&& t.mask
  (s.setTask id { t with state := .running e, passed := got, flags := t.flags - got, asked := none }).bump Reg.JUG_DISPATCH_CNT

/-- A task's context is saved at CTX_BASE + 2 KiB × ID (R405): its bytes are free values. -/
def State.saveContext (s : State) (id : Nat) : State :=
  let a := 4096 * s.get Reg.JUG_CTX_BASE + 2048 * id
  if s.inService a 2048 then
    ({ s with free := s.free + 1 } : State).deviceStore a ((List.range 2048).map (Config.contextByte s.free))
  else s

/-- A running task is pre-empted: READY, its context saved. -/
def State.preempt (s : State) (id : Nat) (t : Task) : State :=
  ((s.setTask id { t with state := .ready, readyAt := s.lc, asked := none }).saveContext id).bump Reg.JUG_PREEMPT_CNT

/-- The engine among some whose running task has the lowest priority; ties to the lowest engine. -/
def weakest (l : List (Nat × Nat × Task)) : Option (Nat × Nat × Task) :=
  l.foldl (fun (m : Option (Nat × Nat × Task)) x => match m with
    | none => some x
    | some y => if x.2.2.priority < y.2.2.priority then some x else some y) none

/-- Try to place a READY task: the state after, or none when no step places it. A dispatch interrupt is sent once for the task that
runs on the engine, which then runs to its yield point. -/
def State.place (s : State) (id : Nat) (t : Task) : Option State :=
  let es := t.engines.filter s.engineTakes
  match es.find? (fun e => (s.runningOn e).isNone) with
  | some e => some (s.dispatchOn e id t)
  | none =>
    let lower := es.filterMap (fun e => match s.runningOn e with
      | some (k, x) => if x.priority < t.priority then some (e, k, x) else none
      | none => none)
    match weakest (lower.filter (fun x => x.2.2.preemptible)) with
    | some (e, k, x) => some ((s.preempt k x).dispatchOn e id t)
    | none => match lower with
      | (e, k, _) :: _ =>
        if t.asked = some (e, k) then none
        else some (((s.setTask id { t with asked := some (e, k) }).emit (.dispatchInterrupt e)).bump Reg.JUG_INTR_CNT)
      | [] => none

/-- TASK_DISPATCH: the first READY task that some step places. -/
def execTaskDispatch (s : State) : Host.Outcome State Fault Refusal :=
  .next (if s.juggler then
    match (s.readyTasks.filterMap (fun x => s.place x.1 x.2)).head? with
    | some t => t.showJug
    | none => s
    else s)

/-- The engines of newly draining groups are emptied: a pre-emptible task is pre-empted, another gets a dispatch interrupt. -/
def State.drainEngine (s : State) (e : Nat) : State :=
  match s.runningOn e with
  | none => s
  | some (id, t) => if t.preemptible then s.preempt id t else (s.emit (.dispatchInterrupt e)).bump Reg.JUG_INTR_CNT

/-- Set DRAIN (R409). -/
def State.setDrain (s : State) (drain : Nat) : State :=
  let new := (List.range 96).filter (fun e => bit drain (drainGroup e) && !(bit (s.get Reg.JUG_CTRL_DRAIN) (drainGroup e)))
  (new.foldl (fun (t : State) e => t.drainEngine e) (s.set Reg.JUG_CTRL_DRAIN drain)).showJug

def execJugDrainWrite (w : Writer) (drain : BitVec 8) (s : State) : Host.Outcome State Fault Refusal :=
  .next (s.byWriter w Reg.JUG_CTRL_DRAIN.off (fun s =>
    (s.setDrain drain.toNat).logReg w Reg.JUG_CTRL_DRAIN.off 0 (s.get Reg.JUG_CTRL_DRAIN * 2 ^ 24) (drain.toNat * 2 ^ 24)))

/-- A fenced slice engine's running task is FAULTED (R410). -/
def State.taskFault (s : State) (e : Nat) : State :=
  match s.runningOn e with
  | none => s
  | some (id, t) => (s.setTask id { t with state := .faulted }).showJug

/-- Juggler is powered again: every task is FREE. -/
def State.jugglerReset (s : State) : State := ({ s with tasks := [] } : State).showJug

/-! ## Barker (R411 to R417) -/

/-- The level of a source: a software source's own, else its latch. -/
def State.sourceLevel (s : State) (n : Nat) : Bool :=
  if 896 ≤ n ∧ n < 1016 then s.brk.soft.contains n else bit (s.get (Reg.BRK_LATCH (n / 32))) (n % 32)

/-- The claims of a pair, innermost first. -/
def State.claimsOf (s : State) (p : Nat) : List Claim := Table.getD s.brk.claims p []

/-- The running priority of a pair. -/
def State.rpri (s : State) (p : Nat) : Nat := ((s.claimsOf p).map (fun c => c.priority)).foldl max 0

/-- Whether a pair takes sources: not fenced, gated or in Test (R412). -/
def State.pairUsable (s : State) (p : Nat) : Bool :=
  !(bit (s.get Reg.PWR_FENCE_PAIR) p) && s.pdOn (2 + p) && s.trp.turn != some p

/-- The pair that receives a source. -/
def State.sourcePair (s : State) (n : Nat) : Nat :=
  let t := s.get (Reg.BRK_SRC_CFG_TARGET n)
  if s.pairUsable t then t else s.get Reg.PWR_MODE_STATUS_ACTIVE_PAIR

/-- Whether a source is claimed. -/
def State.claimed (s : State) (n : Nat) : Bool := s.brk.claims.any (fun e => e.2.any (fun c => c.src == n))

/-- Whether a source is pending (R412). -/
def State.pendingSource (s : State) (n : Nat) : Bool :=
  s.sourceLevel n && !(s.claimed n) && decide (s.rpri (s.sourcePair n) < s.get (Reg.BRK_SRC_CFG_PRIORITY n))

/-- The source a pair's arbiter picks: the highest PRIORITY, on a tie the lowest number. -/
def State.arbitrate (s : State) (p : Nat) : Option Nat :=
  ((List.range 1024).filter (fun n => s.sourcePair n == p && s.pendingSource n)).foldl (fun (m : Option Nat) n => match m with
    | none => some n
    | some k => if s.get (Reg.BRK_SRC_CFG_PRIORITY k) < s.get (Reg.BRK_SRC_CFG_PRIORITY n) then some n else some k) none

/-- Now in fifths of a tick; a 2.0 GHz cycle is four of them. -/
def State.now5 (s : State) : Nat := 5 * s.lc
def cycles5 (n : Nat) : Nat := 4 * n

/-- Write the claims of a pair and show them; BRK_ENTRY shows the innermost handler whose first instruction has come. -/
def State.setClaims (s : State) (p : Nat) (l : List Claim) : State :=
  let s1 : State := { s with brk := { s.brk with claims := Table.put s.brk.claims p l } }
  s1.setAll [(Reg.BRK_PAIR_RPRI p, s1.rpri p), (Reg.BRK_PAIR_DEPTH p, l.length), (Reg.BRK_PAIR_VALID p, b2n (!l.isEmpty)),
    (Reg.BRK_PAIR_CUR_SRC p, (l.head?.map (fun c => c.src)).getD 0),
    (Reg.BRK_LOCAL_ENTRY_SRC p, ((l.find? (fun c => c.level.isSome)).map (fun c => c.src)).getD 0),
    (Reg.BRK_LOCAL_ENTRY_ACTIVE_AT_ENTRY p, b2n (((l.find? (fun c => c.level.isSome)).bind (fun c => c.level)) == some true))]

/-- Show whether a source is claimed. -/
def State.showClaim (s : State) (n : Nat) (by' : Option Nat) : State :=
  s.setAll [(Reg.BRK_SRC_CFG_CLAIMED n, b2n by'.isSome), (Reg.BRK_SRC_CFG_CLAIMED_BY n, by'.getD 0)]

/-- Claim a source for a pair, with the instant of its first instruction; an exit under way is over. -/
def State.claim (s : State) (p n first : Nat) : State :=
  let s1 : State := { s with brk := { s.brk with exits := Table.put s.brk.exits p 0 } }
  ((s1.setClaims p ({ src := n, priority := s.get (Reg.BRK_SRC_CFG_PRIORITY n), first := first, level := none } :: s.claimsOf p)).showClaim n
    (some p))

/-- A source that pends during an exit is handed on; else its entry begins (R413, R415). -/
def State.enterOrHandOn (s : State) (p n : Nat) : State :=
  if s.now5 < Table.getD s.brk.exits p 0 then (s.bump (Reg.BRK_PAIR_HANDON_CNT p)).claim p n (s.now5 + cycles5 4)
  else s.claim p n (s.now5 + cycles5 14)

/-- BARKER_ENTRY (R413 to R415): the winner of a pair's arbitration is claimed. During the entry of a lower one it takes that
entry over; during an exit it is handed on. -/
def State.barkerEntry (s : State) (p : Nat) : State :=
  match s.arbitrate p with
  | none => s
  | some n =>
    match s.claimsOf p with
    | c :: l =>
      if s.now5 < c.first ∧ c.level = none then
        (((s.setClaims p l).showClaim c.src none).bump (Reg.BRK_PAIR_ENTRY_TAKE_CNT p)).claim p n (max c.first (s.now5 + cycles5 6))
      else s.enterOrHandOn p n
    | [] => s.enterOrHandOn p n

def execBarkerEntry (pair : Fin 4) (s : State) : Host.Outcome State Fault Refusal := .next (s.barkerEntry pair)

/-- Sample the level of every claim whose first instruction has come (R413). -/
def State.barkerTick (s : State) : State :=
  ([0, 1, 2, 3] : List Nat).foldl (fun (t : State) p =>
    if (t.claimsOf p).any (fun c => c.level == none && decide (c.first ≤ s.now5)) then
      t.setClaims p ((t.claimsOf p).map (fun c =>
        if c.level = none ∧ c.first ≤ s.now5 then { c with level := some (s.sourceLevel c.src) } else c))
    else t) s

/-- BRK_COMPLETE (R413, R415 to R417): the claim is released, a qualifying source is handed on. -/
def State.brkComplete (s : State) (p n : Nat) : State :=
  match (s.claimsOf p).find? (fun c => c.src == n) with
  | none => s.bump (Reg.BRK_PAIR_STRAY_CNT p)
  | some c =>
    let s1 := (s.setClaims p ((s.claimsOf p).filter (fun x => x.src != n))).showClaim n none
    let s2 := if c.level = some false ∧ !(s.sourceLevel n) then s1.bump (Reg.BRK_PAIR_VANISHED_CNT p) else s1
    match s2.arbitrate p with
    | some k => (s2.bump (Reg.BRK_PAIR_HANDON_CNT p)).claim p k (s.now5 + cycles5 4)
    | none =>
      if (s.claimsOf p).head?.map (fun x => x.src) = some n then
        { s2 with brk := { s2.brk with exits := Table.put s2.brk.exits p (s.now5 + cycles5 10) } }
      else s2

def execBrkComplete (pair : Fin 4) (src : Fin 1024) (s : State) : Host.Outcome State Fault Refusal := .next (s.brkComplete pair src)

/-- The claims of a pair that is fenced or gated end (DEDUCED: its sources go to the active pair). -/
def State.dropClaims (s : State) (p : Nat) : State :=
  (s.claimsOf p).foldl (fun (t : State) c => t.showClaim c.src none) (s.setClaims p [])

/-- BRK_SW_WRITE (R418). -/
def State.brkSw (s : State) (w : Writer) (v : Nat) : State :=
  s.byWriter w Reg.BRK_SW_SET.off (fun s =>
    let n := bits v 9 0
    let set := bit v 31
    let s1 := if 896 ≤ n ∧ n < 1016 then
        let rise := set && !(s.brk.soft.contains n)
        let l := s.brk.soft.filter (fun k => k != n)
        let s2 : State := { s with brk := { s.brk with soft := if set then n :: l else l } }
        if rise && s.on (Reg.BRK_SRC_CFG_HOST n) then
          s2.pushEvts 0x0161 objDevice { w16 := n, w20 := s.get Reg.BRK_SW_DATA } (s2.evtRings (fun f => s2.receives f objDevice) 0x0161)
        else s2
      else s
    s1.logReg w Reg.BRK_SW_SET.off 0 0 v)

def execBrkSwWrite (w : Writer) (v : BitVec 32) (s : State) : Host.Outcome State Fault Refusal := .next (s.brkSw w v.toNat)

/-- BRK_LATCH_CLEAR (R411): the latches of the one bits clear. -/
def execBrkLatchClear (w : Writer) (i : Fin 32) (mask : BitVec 32) (s : State) : Host.Outcome State Fault Refusal :=
  .next (s.byWriter w (Reg.BRK_LATCH i).off (fun s =>
    let old := s.get (Reg.BRK_LATCH i)
    let new := (old - (old &&& mask.toNat)) ||| (s.freshBits (Reg.BRK_LATCH i) &&& mask.toNat)
    (s.set (Reg.BRK_LATCH i) new).logReg w (Reg.BRK_LATCH i).off 0 old new))

/-! ## Check units (R419 to R422) -/

/-- The low n bits of a number in reverse order. -/
def reflect (n v : Nat) : Nat := maskOf ((List.range n).filter (fun i => bit v (n - 1 - i)))

/-- One bit step of R419. -/
def chkBit (w poly c : Nat) : Nat := (if bit c (w - 1) then (2 * c) ^^^ poly else 2 * c) % 2 ^ w

/-- Eight bit steps of a byte. -/
def chkByte (w poly : Nat) (refin : Bool) (c : Nat) (b : Byte) : Nat :=
  let v := if refin then reflect 8 b.toNat else b.toNat
  (List.range 8).foldl (fun c _ => chkBit w poly c) (c ^^^ (v * 2 ^ (w - 8)))

/-- The CRC of R419. -/
def chkCrc (w poly init xorout : Nat) (refin refout : Bool) (l : List Byte) : Nat :=
  let c := l.foldl (chkByte w poly refin) init
  (if refout then reflect w c else c) ^^^ xorout

/-- The CRC of a unit's configuration over bytes. -/
def State.unitCrc (s : State) (n : Nat) (l : List Byte) : Nat :=
  chkCrc (s.get (Reg.CHK_WIDTH n)) (s.get64 (Reg.CHK_POLY_LO n) (Reg.CHK_POLY_HI n)) (s.get64 (Reg.CHK_INIT_LO n) (Reg.CHK_INIT_HI n))
    (s.get64 (Reg.CHK_XOR_LO n) (Reg.CHK_XOR_HI n)) (s.on (Reg.CHK_REFIN n)) (s.on (Reg.CHK_REFOUT n)) l

/-- The mode that an ATTACH_KIND takes, and whether an INDEX is in its range (R420). -/
def attachOk (mode kind index : Nat) : Bool :=
  if kind = 0 then mode == 0 else if kind = 1 then mode == 1 && decide (index < 32)
  else if kind = 2 then mode == 1 && decide (index < 16) else kind == 3 && mode == 2 && decide (index < 60)

/-- Whether the flow of an attachment is in use (check 2 of R421). -/
def State.flowBusy (s : State) (kind index : Nat) : Bool :=
  if kind = 1 then s.slotState (index / 8) != slotIdle && s.slotState (index / 8) != slotStopped
  else if kind = 2 then s.on (Reg.AUD_OUT_ENABLE (48 + index))
  else kind == 3 && s.on (Reg.ING_RX_ENABLE index)

/-- The first check of R421 that a write of CHK_n_CTRL fails. -/
def State.chkCode (s : State) (n v : Nat) : Code :=
  let w := bits v 6 0
  let kind := bits v 23 20
  let index := bits v 13 8
  let fit := fun lo hi => decide (s.get64 lo hi < 2 ^ w)
  if w < 8 ∨ 64 < w ∨ !(fit (Reg.CHK_POLY_LO n) (Reg.CHK_POLY_HI n)) ∨ !(fit (Reg.CHK_INIT_LO n) (Reg.CHK_INIT_HI n))
      ∨ !(fit (Reg.CHK_XOR_LO n) (Reg.CHK_XOR_HI n)) ∨ !(attachOk (bits v 31 30) kind index) then 0x1161
  else if (kind ≠ 0 ∧ (([0, 1, 2, 3] : List Nat).any (fun m => m != n && s.get (Reg.CHK_ATTACH_KIND m) == kind && s.get (Reg.CHK_ATTACH_INDEX m) == index)
      ∨ s.flowBusy kind index)) ∨ s.on (Reg.CHK_BUSY n) then 0x1162
  else 0

/-- CHK_CTRL_WRITE (R421). -/
def State.chkWrite (s : State) (w : Writer) (n v : Nat) : State :=
  let off := (Reg.CHK_MODE n).off
  s.byWriter w off (fun s =>
    let f := [Reg.CHK_MODE n, Reg.CHK_REFIN n, Reg.CHK_REFOUT n, Reg.CHK_ATTACH_KIND n, Reg.CHK_ATTACH_INDEX n, Reg.CHK_WIDTH n]
    let c := s.chkCode n v
    let s1 := if c ≠ 0 then s else s.setAll (f.map (fun x => (x, bits v x.msb x.lsb)))
    (s1.set (Reg.CHK_LAST_STATUS n) c).logReg w off c (s.word f) (s1.word f))

def execChkCtrlWrite (w : Writer) (n : Fin 4) (v : BitVec 32) (s : State) : Host.Outcome State Fault Refusal := .next (s.chkWrite w n v.toNat)

/-- CHK_SCAN's checks. -/
def chkScanSpec : OpSpec :=
  { opcode := 0x700, object := onDevice,
    form := fun d => decide (d.p 32 1 < 4) && d.p 33 7 == 0 && decide (1 ≤ d.p 48 8 ∧ d.p 48 8 ≤ 2 ^ 39) && d.zeroFrom 56,
    aligned := fun d => d.p 40 8 % 64 == 0 }

/-- CHK_SCAN starts, or is refused. -/
def actChkScan (d : Desc) (t : Ticket) (s : State) : State :=
  let n := d.p 32 1
  let c := if s.get (Reg.CHK_MODE n) ≠ 0 ∨ s.on (Reg.CHK_BUSY n) then 0x2161
    else if !(s.inService (d.p 40 8) (d.p 48 8)) then 0x1163 else 0
  if c ≠ 0 then ((s.set (Reg.CHK_LAST_STATUS n) c).logDesc t.fn d.obj c 0 0).complete t c 0
  else ({ s with scans := Table.put s.scans n { ticket := t, start := d.p 40 8, len := d.p 48 8 } } : State).set (Reg.CHK_BUSY n) 1

def execChkScan (d : Desc) (s : State) : Host.Outcome State Fault Refusal := .next (s.runDesc chkScanSpec d actChkScan)

/-- CHK_SCAN_DONE: the scan ends with its CRC, or stops at the first poisoned line. -/
def State.scanDone (s : State) (n : Nat) : State :=
  match Table.find s.scans n with
  | none => s
  | some x =>
    let s1 := ({ s with scans := Table.del s.scans n } : State).set (Reg.CHK_BUSY n) 0
    match s.dram.poison.find? (fun a => decide (a < x.start + x.len ∧ x.start < a + 64)) with
    | some a => (s1.set (Reg.CHK_LAST_STATUS n) 0x7161).complete x.ticket 0x7161 a
    | none =>
      let c := s.unitCrc n (Memory.readAll s.mem x.start x.len)
      ((s1.set64 (Reg.CHK_RESULT_LO n) (Reg.CHK_RESULT_HI n) c).set (Reg.CHK_LAST_STATUS n) 0).complete x.ticket 0 c

def execChkScanDone (n : Fin 4) (s : State) : Host.Outcome State Fault Refusal := .next (s.scanDone n)

end Sys2Proof.Machine
end

