-- ==== Sys2Proof/Machine/Images.lean ====
section
/-! DEFINITION. Firmware and configuration images, bundles and sets (chapter 18: R454 to R461). -/

namespace Sys2Proof.Machine

/-! ## Images (R454, R455) -/

/-- Fields of an image. -/
def imgKind (l : List Byte) : Nat := leAt l 4 1
def imgVersion (l : List Byte) : Nat := leAt l 8 4
def imgCompat (l : List Byte) : Nat := leAt l 12 2
def imgPartners (l : List Byte) : Nat := leAt l 14 1
def imgLen (l : List Byte) : Nat := leAt l 16 4
def imgRollback (l : List Byte) : Nat := leAt l 20 4
def imgResident (l : List Byte) : Nat := leAt l 56 4

/-- Where the body starts. -/
def imgBodyAt (l : List Byte) : Nat := 64 + 8 * (imgCompat l + imgPartners l)

/-- The body of an image, its padding included. -/
def imgBody (l : List Byte) : List Byte := (l.drop (imgBodyAt l)).take (imgLen l - 64 - imgBodyAt l)

/-- The largest TOTAL_LEN of a type; zero for a reserved type. -/
def imgLimit (kind : Nat) : Nat :=
  if kind = 1 then 8388608 else if kind = 2 then 262144 else if kind = 3 then 131072 else if kind = 4 then 262144
  else if kind = 8 then 4194304 else 0

/-- Whether a compatibility entry is well formed. -/
def compatOk (l : List Byte) (i : Nat) : Bool :=
  decide (1 ≤ leAt l (64 + 8 * i) 1 ∧ leAt l (64 + 8 * i) 1 ≤ 4) && leAt l (65 + 8 * i) 3 == 0

/-- Whether the header is well formed, the length within its type's limit and the image for stepping B0. -/
def imgForm (l : List Byte) : Bool :=
  let k := imgKind l
  decide (64 ≤ l.length) && leAt l 0 4 == 0x31474449 && leAt l 5 1 == 1 && leAt l 6 1 == 0xB0 && leAt l 7 1 == 0
  && decide (0 < imgLimit k ∧ imgLen l ≤ imgLimit k ∧ imgLen l ≤ l.length ∧ imgLen l % 64 = 0 ∧ imgBodyAt l + 64 ≤ imgLen l)
  && (if k == 8 then imgCompat l == 0 else decide (imgCompat l ≤ 32)) && (if k == 1 then decide (imgPartners l ≤ 8) else imgPartners l == 0)
  && leAt l 15 1 == 0 && decide (imgRollback l ≤ 63) && leAt l 60 4 == 0
  && (if k == 1 then decide (imgResident l ≤ 917504) else imgResident l == 0 && leAt l 24 32 == 0)
  && (List.range (imgCompat l)).all (compatOk l)

/-- The fused minimum of ROLLBACK for a type. -/
def rollbackField (kind : Nat) : Field :=
  if kind = 1 then Reg.FW_ROLLBACK_SUPER else if kind = 2 then Reg.FW_ROLLBACK_SLICE else if kind = 3 then Reg.FW_ROLLBACK_LINK
  else if kind = 4 then Reg.FW_ROLLBACK_AUDIO else Reg.FW_ROLLBACK_CONFIG

/-- Whether the signature of an image verifies; a configuration image's is all zero while no owner key is fused. -/
def State.imgSigned (s : State) (l : List Byte) : Bool :=
  let body := l.take (imgLen l - 64)
  let sig := (l.drop (imgLen l - 64)).take 64
  if imgKind l = 8 then (match s.fw.owner with | none => sig.all (fun b => b == 0#8) | some k => Config.verifies k body sig)
  else Config.verifies Config.voxniKey body sig

/-- The first failure of R455, 0 for a valid image. -/
def State.imgCode (s : State) (l : List Byte) : Code :=
  if !(imgForm l) then 0x1181
  else if imgRollback l < s.get (rollbackField (imgKind l)) then 0x9183
  else if s.imgSigned l then 0
  else if imgKind l = 8 then 0x9185 else 0x9182

/-- What the device keeps of a firmware image. -/
def fwImage (l : List Byte) : FwImage :=
  { kind := imgKind l, version := imgVersion l,
    compat := (List.range (imgCompat l)).map (fun i => (leAt l (64 + 8 * i) 1, leAt l (68 + 8 * i) 2, leAt l (70 + 8 * i) 2)),
    partners := (List.range (imgPartners l)).map (fun i => leAt l (64 + 8 * (imgCompat l + i)) 8) }

/-- Whether the rest of a supervisor image's body differs from REST_DIGEST (R461). -/
def restBad (l : List Byte) : Bool :=
  let rest := (imgBody l).drop (64 + imgResident l)
  decide (0 < rest.length) && Config.sha256 rest != ((l.drop 24).take 32).foldl (fun a b => a * 256 + b.toNat) 0

/-! ## Configuration images (R456) -/

/-- The offset that stands for the Safety Net key, the AUTOSTART mode and the staging base. -/
def recKey : Nat := 0xFFFFFF00
def recAuto : Nat := 0xFFFFFF01
def recStage : Nat := 0xFFFFFF02

/-- The records of a configuration body: offset and value, the key's value its 64 bytes. A record of zeros is padding. -/
def configRecords : Nat → List Byte → List (Nat × Nat)
  | 0, _ => []
  | fuel + 1, l =>
    if l.length < 8 then []
    else if leAt l 0 4 = recKey then
      (if l.length < 68 then [] else (recKey, ((l.drop 4).take 64).foldl (fun a b => a * 256 + b.toNat) 0) :: configRecords fuel (l.drop 68))
    else if leAt l 0 8 = 0 then configRecords fuel (l.drop 8)
    else (leAt l 0 4, leAt l 4 4) :: configRecords fuel (l.drop 8)

/-! ## Sets (R457, R458) -/

/-- The four firmware types. -/
def fwKinds : List Nat := [1, 2, 3, 4]

/-- The VERSION of the image of a type in a set; zero where there is none. -/
def versionIn (t : Table FwImage) (k : Nat) : Nat :=
  match Table.find t k with
  | none => 0
  | some x => x.version

/-- The set identifier: the first 8 bytes of the digest, the first byte lowest. -/
def setId (t : Table FwImage) : Nat :=
  leNat ((leBytes 8 (Config.sha256 (fwKinds.flatMap (fun k => leBytes 4 (versionIn t k))) / 2 ^ 192)).reverse)

/-- Whether an image's table holds an entry of a type that covers a version. -/
def FwImage.covers (a : FwImage) (kind version : Nat) : Bool :=
  a.compat.any (fun e => e.1 == kind && decide (e.2.1 ≤ version / 2 ^ 16 ∧ version / 2 ^ 16 ≤ e.2.2))

/-- Whether a set is complete and tested together (R458). -/
def testedTogether (t : Table FwImage) : Bool :=
  fwKinds.all (fun j => fwKinds.all (fun k => match Table.find t j, Table.find t k with
    | some a, some b => j == k || a.covers k b.version
    | _, _ => false))

/-- Show the set in force. -/
def State.showSet (s : State) : State :=
  (fwKinds.foldl (fun (t : State) k => t.set (Reg.FW_VERSION k) (versionIn t.fw.images k)) s).setAll
    [(Reg.FW_SET_LO, setId s.fw.images), (Reg.FW_SET_HI, setId s.fw.images / 2 ^ 32)]

/-! ## Bundles (R460) -/

/-- A directory entry: TYPE, OFFSET, LENGTH. -/
def bundleEntry (l : List Byte) (i : Nat) : Nat × Nat × Nat := (leAt l (16 + 16 * i) 1, leAt l (20 + 16 * i) 4, leAt l (24 + 16 * i) 4)

/-- The entries of a directory. -/
def bundleEntries (l : List Byte) : List (Nat × Nat × Nat) := (List.range (leAt l 8 2)).map (bundleEntry l)

/-- Whether a directory is well formed and its CRC right. -/
def bundleForm (l : List Byte) : Bool :=
  let es := bundleEntries l
  decide (4096 ≤ l.length ∧ l.length ≤ 16777216) && leAt l 0 4 == 0x31444944 && decide (1 ≤ leAt l 8 2 ∧ leAt l 8 2 ≤ 5) && leAt l 10 6 == 0
  && (List.range (leAt l 8 2)).all (fun i => leAt l (17 + 16 * i) 3 == 0 && leAt l (28 + 16 * i) 4 == 0)
  && es.all (fun e => decide (0 < imgLimit e.1 ∧ e.2.1 % 64 = 0 ∧ e.2.1 + e.2.2 ≤ l.length))
  && (es.map (fun e => e.1)).Nodup
  && crc32c (l.take 4092) == leAt l 4092 4

/-- The bytes of the image of a type in a bundle, empty when it holds none. -/
def bundleImage (l : List Byte) (k : Nat) : List Byte :=
  match (bundleEntries l).find? (fun e => e.1 == k) with
  | none => []
  | some e => (l.drop e.2.1).take e.2.2

/-- Whether a bundle's image of a type is one. -/
def State.bundleImageCode (s : State) (l : List Byte) (k : Nat) : Code :=
  let x := bundleImage l k
  if imgKind x ≠ k then 0x1181 else s.imgCode x

/-- The first failed check of a bank or bundle to boot (R461): its directory, then its supervisor image. -/
def State.bankCode (s : State) (l : List Byte) : Code := if !(bundleForm l) then 0x1181 else s.bundleImageCode l 1

/-- The first failed check of a bundle to write (R467): its directory, all four firmware types, then every image. -/
def State.bundleCode (s : State) (l : List Byte) : Code :=
  if !(bundleForm l) || !(fwKinds.all (fun k => (bundleEntries l).any (fun e => e.1 == k))) then 0x1181
  else (((bundleEntries l).map (fun e => s.bundleImageCode l e.1)).find? (fun c => c != 0)).getD 0

/-- Take every valid image of the bundle booted (R461); an image that is not valid is never used (R455). -/
def State.takeBundle (s : State) (l : List Byte) : State :=
  let imgs := (fwKinds.filter (fun k => s.bundleImageCode l k == 0)).map (fun k => (k, fwImage (bundleImage l k)))
  let cfg := if s.bundleImageCode l 8 = 0 then imgBody (bundleImage l 8) else []
  ({ s with fw := { s.fw with images := imgs, config := configRecords cfg.length cfg, gen := leAt l 4 4, restBad := restBad (bundleImage l 1) } }
    : State).showSet

end Sys2Proof.Machine
end

