-- ==== Sys2Proof/Machine/Decoder.lean ====
section
/-! DEFINITION. Decode slots (chapter 10): the packets and slices they accept, row deadlines, concealment and recovery, the grid
of expected pictures, and the launches that present pictures. The samples of decoded pictures are not computed: how a row's
decoding ends is a command's operand. -/

namespace Sys2Proof.Machine

/-! ## The slot -/

/-- A decode slot beyond its registers. -/
def State.dec (s : State) (n : Nat) : Dec := (s.slot n).dec
def State.setDec (s : State) (n : Nat) (d : Dec) : State := s.updSlot n (fun x => { x with dec := d })
def State.updDec (s : State) (n : Nat) (f : Dec → Dec) : State := s.setDec n (f (s.dec n))

/-- A picture of a decode slot by its order number, and replaced. -/
def State.decPic (s : State) (n id : Nat) : Option DecPic := (s.dec n).pics.find? (fun q => q.id == id)
def State.setDecPic (s : State) (n : Nat) (q : DecPic) : State :=
  s.updDec n (fun d => { d with pics := d.pics.map (fun x => if x.id = q.id then q else x) })

/-- The selection list of the slot's receiver as its registers hold it (R160). -/
def State.selectionNow (s : State) (n : Nat) : List Nat :=
  ((List.range 32).flatMap (fun j => [s.get (Reg.ING_RX_SUBPIC_ID_LO (56 + n) j), s.get (Reg.ING_RX_SUBPIC_ID_HI (56 + n) j)])).filter
    (fun i => i != 0xFFFF)

/-- The selection list that judges a packet arriving now: the old one in the tick of a change (R161). -/
def State.selection (s : State) (n : Nat) : List Nat :=
  match Table.find s.selWas n with
  | some (k, l) => if k = s.lc then l else s.selectionNow n
  | none => s.selectionNow n

/-- The slot whose selection list an offset holds. -/
def selectionAt (off : Nat) : Option Nat :=
  let f := Reg.ING_RX_SUBPIC_ID_LO
  ([0, 1, 2, 3] : List Nat).find? (fun n => decide ((f (56 + n) 0).off ≤ off ∧ off ≤ (f (56 + n) 31).off))

/-- Note the selection list before the first change of a tick (R161). -/
def State.noteSelection (s : State) (off : Nat) : State :=
  match selectionAt off with
  | none => s
  | some n => match Table.find s.selWas n with
    | some (k, _) => if k = s.lc then s else { s with selWas := Table.put s.selWas n (s.lc, s.selectionNow n) }
    | none => { s with selWas := Table.put s.selWas n (s.lc, s.selectionNow n) }

/-- P_f and P_r of a decode slot in 2^-16 ns (R273). -/
def State.decPf (s : State) (n : Nat) : Rat := framePeriodU (s.cfg Reg.DEC_BS_RATE n)
def State.decPr (s : State) (n : Nat) : Rat := s.decPf n / ctus (s.cfg Reg.DEC_BS_HEIGHT n)

/-- The capture DT that an RTP timestamp denotes: the nearest instant of the slot's frame grid (R26, R261; DEDUCED, log entry 30). -/
def State.decCap (s : State) (n ts : Nat) : Rat := ((s.rtpDt 90000 ts / s.decPf n + 1 / 2).floor : Int) * s.decPf n

/-- d_k of a picture (R273). -/
def State.deadline (s : State) (n : Nat) (q : DecPic) (k : Nat) : Rat :=
  q.base - usU q.load - ((ctus (s.cfg Reg.DEC_BS_HEIGHT n) - k : Nat) : Rat) * s.decPr n

/-- The subpictures of a CTU row that a picture decodes (R270). -/
def State.liveSps (s : State) (n : Nat) (q : DecPic) (k : Nat) : List Nat := (s.rowSps n k).filter (fun sp => q.sel.contains sp)

/-- Show CONC_SP (R283). -/
def State.showMarks (s : State) (n : Nat) : State := s.set (Reg.DEC_BS_CONC_SP n) (s.dec n).marks.length

/-- Mark a subpicture concealed in a picture (R281). -/
def State.markSp (s : State) (n sp num pos : Nat) : State :=
  (s.updDec n (fun d => { d with marks := match Table.find d.marks sp with
    | some m => if num < m.num then d.marks else Table.put d.marks sp ⟨num, pos⟩
    | none => Table.put d.marks sp ⟨num, pos⟩ })).showMarks n

/-- Raise an event of a picture once (R280). -/
def State.oncePic (s : State) (n id : Nat) (c : Code) (w16 : Nat) : State :=
  match s.decPic n id with
  | none => s
  | some q => if q.raised.contains c then s else (s.setDecPic n { q with raised := c :: q.raised }).raise c (objSlot n) { w16 := w16 }

/-! ## Launches -/

/-- The decode row start of row k of a picture on a Face (KIND 0x7, R273). -/
def State.launchRow (s : State) (u n : Nat) (q : DecPic) (k : Nat) : State :=
  s.launchAt u 7 (instant (s.deadline n q k)) (.decodeRow n q.id k)

/-- Whether a launch is a decode row start of a slot. -/
def QLaunch.decodes (n : Nat) (x : QLaunch) : Bool := match x.act with | .decodeRow k _ _ => k == n | _ => false

/-- The picture a decode row start is for. -/
def QLaunch.decodePic (x : QLaunch) : Nat := match x.act with | .decodeRow _ id _ => id | _ => 0

/-- Queue the first row of a picture on each Face of the slot that has no decode row start of an earlier picture of the slot
waiting; a waiting one of a later picture gives way, and follows in its turn. -/
def State.enqueuePic (s : State) (n : Nat) (q : DecPic) : State :=
  (s.slotFaces n).foldl (fun (t : State) i =>
    let u := 16 + i
    let later := fun (x : QLaunch) => x.decodes n && (match t.decPic n x.decodePic with | some y => decide (q.base < y.base) || y.id == q.id | none => true)
    let t1 := t.setQueue u ((t.queue u).filter (fun x => !(later x)))
    if (t1.queue u).any (QLaunch.decodes n) then t1 else t1.launchRow u n q q.nextRow) s

/-- Queue the frame start and the presentation of a picture on each lane that shows the slot (R284, R292, R296). -/
def State.queueShow (s : State) (n : Nat) (q : DecPic) : State :=
  (s.lanesOf n).foldl (fun (t : State) i =>
    (t.launchAt (160 + i) 8 (instant (q.p - usU q.load)) (.frameStart i q.id)).launchAt (160 + i) 5
      (instant (q.p - ((s.get (bank 1 (Reg.SCN_LANE_FLIP_LEAD_NS (s.scnLead i))) * nsUnits : Nat) : Rat))) (.present i q.id)) s

/-! ## Records of pictures -/

/-- Put a picture among the others by its presentation DT. -/
def insertPic (q : DecPic) : List DecPic → List DecPic
  | [] => [q]
  | x :: l => if q.p < x.p then q :: x :: l else x :: insertPic q l

/-- The newest picture of a slot at or before a presentation DT. -/
def State.picBefore (s : State) (n : Nat) (p : Rat) : Option DecPic := ((s.dec n).pics.filter (fun q => decide (q.p ≤ p))).getLast?

/-- The selection list latched for the picture of an RTP timestamp (R161), else the one in force. -/
def State.latchedSel (s : State) (n : Nat) (ts : Option Nat) : List Nat :=
  match (s.dec n).sels.find? (fun e => some e.1 == ts) with
  | some e => e.2
  | none => s.selection n

/-- The first packet of a picture latches the selection list (R161). -/
def State.latchSel (s : State) (n ts : Nat) : State :=
  if (s.dec n).sels.any (fun e => e.1 == ts) then s
  else s.updDec n (fun d => { d with sels := ((ts, s.selection n) :: d.sels).take 64 })

/-- A record for a picture at p: PIC and sweep position follow from the picture before it. -/
def State.newPic (s : State) (n : Nat) (ts : Option Nat) (cap p : Rat) (present idle : Bool) : DecPic :=
  let b := s.picBefore n p
  let steps := match b with
    | some x => ((p - x.p) / s.decPf n + 1 / 2).floor.toNat
    | none => 0
  let len := match b with
    | some x => max 1 x.len
    | none => 1
  { id := (s.dec n).nextId, ts := ts, cap := cap, p := p, base := p, present := present, stamped := false, idle := idle,
    num := (match b with | some x => x.num | none => 0) + steps,
    pos := ((match b with | some x => x.pos | none => 0) + steps) % len, len := len,
    gdr := (match b with | some x => x.gdr | none => 1), start := false, sel := s.latchedSel n ts, load := s.cfg Reg.DEC_BS_LOAD_US n,
    nextRow := (s.windowRows n).1, decoded := false, slices := [], raised := [], latched := 0, same := false, shown := false, clears := [] }

/-- Enter a record. -/
def State.addPic (s : State) (n : Nat) (q : DecPic) : State :=
  s.updDec n (fun d => { d with pics := insertPic q d.pics, nextId := d.nextId + 1 })

/-- After a picture with presentation DT p the slot expects one at p + P_f (R280); while no stream arrives the record only keeps
the grid (R301). -/
def State.expectNext (s : State) (n : Nat) (q : DecPic) : State :=
  let p := q.p + s.decPf n
  if s.slotState n ≠ slotRunning ∨ (s.dec n).pics.any (fun x => x.present && decide (q.p < x.p ∧ x.p ≤ p + 65536)) then s
  else
    let x := s.newPic n none (q.cap + s.decPf n) p true (!(s.on (Reg.DEC_BS_STREAM_UP n)))
    s.addPic n x

/-- A picture is presented or dropped: five stay for composition (R269) and whatever a compositor claims (R174), the timestamps of
the others are kept. -/
def State.retirePic (s : State) (n : Nat) (q : DecPic) : State :=
  let s1 := s.setDecPic n { q with shown := true }
  let old := (((s1.dec n).pics.filter (fun x => x.shown)).reverse.drop 5).filter (fun x => !((s.claims (0x100 + n)).contains x.cap))
  s1.updDec n (fun d => { d with pics := d.pics.filter (fun x => old.all (fun o => o.id != x.id)),
                                 dropped := (old.filterMap (fun x => x.ts) ++ d.dropped).take 64 })

/-! ## Accepting pictures -/

/-- Apply a stamp to a record (R264, R280): p, PIC, sweep, capture DT and their difference. -/
def State.applyStamp (s : State) (n : Nat) (q : DecPic) (x : Stamp) : State :=
  let p : Rat := (dtOf x.pdtSec.toNat x.pdtNs x.pdtFrac.toNat : Int)
  let cap : Rat := (dtOf x.capSec.toNat x.capNs 0 : Int)
  (s.setDecPic n { q with p := p, base := p, cap := cap, stamped := true, num := x.pic.toNat, pos := x.sweepPos.toNat, len := max 1 x.sweepLen.toNat,
                          gdr := max 1 x.gdrCols.toNat, start := q.start || x.sweepStart }).updDec n (fun d => { d with lag := some (p - cap) })

/-- A picture is accepted (R280): the stream is up and the next one is expected from it. -/
def State.noteAccepted (s : State) (n : Nat) (p : Rat) : State :=
  (s.updDec n (fun d => { d with lastP := some p, lastAt := s.lc,
                                 pics := d.pics.filter (fun x => !(x.idle && x.nextRow == (s.windowRows n).1)) })).set (Reg.DEC_BS_STREAM_UP n) 1

/-- The presentation DT whose row deadlines follow now, the first of them one row time ahead: what a picture decoded for reference
only counts its rows from, its own being past, far or unknown (DESIGN CHOICE, log entry 118). -/
def State.baseNow (s : State) (n : Nat) : Rat :=
  (s.activeDt : Rat) + usU (s.cfg Reg.DEC_BS_LOAD_US n) + s.decPf n + s.decPr n

/-- A new picture is decoded for reference only (R32, R280); `live` is false on a Catcher. -/
def State.referenceOnly (s : State) (n ts : Nat) (cap p : Rat) (live : Bool) : State :=
  let q := { s.newPic n (some ts) cap p false false with base := s.baseNow n }
  if live then (s.addPic n q).enqueuePic n q else s.addPic n q

/-- What a stamp says of the time of a picture (R32): past 0x5102, more than 200 ms ahead 0x5103, else 0. -/
def State.stampCode (s : State) (p : Rat) : Code :=
  if p ≤ (s.activeDt : Rat) then 0x5102 else if (s.activeDt : Rat) + usU 200000 < p then 0x5103 else 0

/-- A picture already accepted turns out by its stamp to be past or too far ahead: it is decoded for reference only (R32). -/
def State.demote (s : State) (n id : Nat) (c : Code) : State :=
  match s.decPic n id with
  | none => s
  | some q => (s.setDecPic n { q with present := false, base := s.baseNow n }).raise c (objSlot n) {}

/-- The first slice or stamp of a picture with RTP timestamp ts arrives (R32, R280). `live` is false on a Catcher, which only
fills its slice buffer (R429). -/
def State.acceptPic (s : State) (n ts : Nat) (stamp : Option Stamp) (live : Bool) : State :=
  let d := s.dec n
  match d.pics.find? (fun q => q.ts == some ts) with
  | some q =>
    match stamp with
    | some x =>
      if q.stamped ∨ (s.windowRows n).1 < q.nextRow then s
      else
        let s1 := s.applyStamp n q x
        let c := s.stampCode (dtOf x.pdtSec.toNat x.pdtNs x.pdtFrac.toNat : Int)
        let s2 := if q.present ∧ c ≠ 0 then s1.demote n q.id c else s1
        match s2.decPic n q.id with
        | some y => if live && decide (y.base ≠ q.base) then s2.enqueuePic n y else s2
        | none => s2
    | none => s
  | none =>
    if d.dropped.contains ts || d.stale.contains ts then s
    else
      let cap := s.decCap n ts
      let p? : Option Rat := match stamp with
        | some x => some (dtOf x.pdtSec.toNat x.pdtNs x.pdtFrac.toNat : Int)
        | none => d.lag.map (cap + ·)
      match p? with
      | none => ((s.bump (Reg.DEC_BS_NOSTAMP_CNT n)).raise 0x6A04 (objSlot n) {}).referenceOnly n ts cap cap live
      | some p =>
        if (match d.lastP with | some l => decide (p ≤ l) | none => false) then
          ((s.bump (Reg.DEC_BS_STALE_CNT n)).raise 0x6A09 (objSlot n) {}).updDec n (fun d => { d with stale := (ts :: d.stale).take 64 })
        else if s.stampCode p ≠ 0 then (s.raise (s.stampCode p) (objSlot n) {}).referenceOnly n ts cap p live
        else
          let s1 := match d.pics.find? (fun q => q.ts.isNone && q.present && decide (p ≤ q.p + 65536 ∧ q.p ≤ p + 65536)) with
            | some q =>
              let first := q.nextRow == (s.windowRows n).1
              s.setDecPic n { q with ts := some ts, cap := cap, p := p, base := p, idle := false, sel := s.latchedSel n (some ts),
                                     load := if first then s.cfg Reg.DEC_BS_LOAD_US n else q.load }
            | none => s.addPic n (s.newPic n (some ts) cap p true false)
          let s2 := s1.noteAccepted n p
          match (s2.dec n).pics.find? (fun q => q.ts == some ts) with
          | none => s2
          | some q =>
            let s3 := match stamp with | some x => s2.applyStamp n q x | none => s2
            match s3.decPic n q.id with
            | some y => if live && y.nextRow == (s.windowRows n).1 then s3.enqueuePic n y else s3
            | none => s3

/-- Whether tools lie within those of R213 for a codec. -/
def toolsWithin (t : ToolSet) (codec : Nat) : Bool :=
  let m := codingTools codec true true
  t.codec == codec && t.ctu == m.ctu && decide (m.minCu ≤ t.minCu ∧ t.transform ≤ m.transform ∧ t.intraModes ≤ m.intraModes ∧ t.skipTransform ≤ m.skipTransform)
    && (m.halves || !t.halves) && (m.temporalMv || !t.temporalMv) && (m.affine4 || !t.affine4) && (m.dst4 || !t.dst4) && (m.fixedAlf || !t.fixedAlf)

/-- Whether parameter sets meet R271 and equal the declaration of the slot. -/
def State.setsFit (s : State) (n : Nat) (x : ParamSets) : Bool :=
  let p := x.params
  let codec := s.cfg Reg.DEC_BS_CODEC n
  let ch := s.cfg Reg.DEC_BS_CHROMA n
  let eight := s.cfgOn Reg.DEC_BS_DEPTH8 n
  let w := s.cfg Reg.DEC_BS_WIDTH n
  let h := s.cfg Reg.DEC_BS_HEIGHT n
  let spw := s.cfg Reg.DEC_BS_SP_W n
  let sph := s.cfg Reg.DEC_BS_SP_H n
  let profile := if codec = 0 then (if ch = 0 then 0 else 1) else if eight then 4 else if ch = 0 then 5 else 6
  p.profile == profile && p.chroma == ch && p.depth == (if eight then 8 else 10) && p.width == w && p.height == h && p.spW == spw && p.spH == sph
    && p.cols == gridCols w spw && p.rows == gridRows h sph && decide (1 ≤ p.refs ∧ p.refs ≤ 2)
    && (codec != 0 || (p.asPicture && !p.crossFilter)) && toolsWithin p.tools codec && !x.others && x.inOrder

/-- The join (R272, R282): every selected window subpicture is as concealed in the picture before. -/
def State.tryJoin (s : State) (n ts : Nat) : State :=
  match (s.dec n).pics.find? (fun q => q.ts == some ts), (s.dec n).sets with
  | some q, some ps =>
    if !(s.on (Reg.DEC_BS_JOINED n)) && s.setsFit n ps && q.start then
      let sps := (s.windowSps n).filter (fun sp => q.sel.contains sp)
      ((s.updDec n (fun d => { d with cleared := [], marks := sps.foldl (fun t sp => Table.put t sp ⟨q.num - 1, (q.pos + q.len - 1) % q.len⟩) [] })).set
        (Reg.DEC_BS_JOINED n) 1).showMarks n |>.raise 0x0A02 (objSlot n) {}
    else s
  | _, _ => s

/-- Parameter sets arrive (R271): a mismatch clears JOINED, and is counted and raised once per change. -/
def State.takeSets (s : State) (n : Nat) (ps : ParamSets) : State :=
  let new := (s.dec n).sets != some ps
  let s1 := s.updDec n (fun d => { d with sets := some ps })
  if s.setsFit n ps then s1
  else
    let s2 := s1.set (Reg.DEC_BS_JOINED n) 0
    if new then (s2.bump (Reg.DEC_BS_MISMATCH_CNT n)).raise 0x6A07 (objSlot n) {} else s2

/-! ## Slices -/

/-- Whether fragments make a whole slice: one that is first and last, or a first to a last one without a gap. -/
def wholeSlice (l : List (Nat × Bool × Bool)) : Bool :=
  l.any (fun f => f.2.1 && f.2.2) ||
  match l.find? (fun f => f.2.1), l.find? (fun f => f.2.2) with
  | some a, some b => decide (a.1 ≤ b.1 ∧ l.length = b.1 - a.1 + 1)
  | _, _ => false

/-- The slice of a picture for a row and subpicture. -/
def DecPic.slice (q : DecPic) (k sp : Nat) : Option DecSlice := q.slices.find? (fun d => d.row == k && d.sp == sp)
def DecPic.putSlice (q : DecPic) (x : DecSlice) : DecPic :=
  { q with slices := if (q.slice x.row x.sp).isSome then q.slices.map (fun d => if d.row = x.row ∧ d.sp = x.sp then x else d) else q.slices ++ [x] }

/-- A slice of which nothing has arrived. -/
def DecSlice.blank (k sp : Nat) : DecSlice :=
  { row := k, sp := sp, frags := [], bytes := 0, got := false, done := false, concealed := false, unchanged := false }

/-- A slice that a decode slot accepts goes to its BS_OUT rings (R133). Whether it holds Spoil rows the decoder does not say: a
free value. -/
def State.copySlice (s : State) (n : Nat) (q : DecPic) (x : DecSlice) (posted : List Posted) : State :=
  let (b, s1) := s.draw
  s1.bsOut n (posted.map (fun e => (e.rid.val, e.addr.toNat, e.size.toNat)))
    { length := x.bytes, pdt := instant q.p, subpic := x.sp, auStart := (q.slices.filter (fun d => d.got || d.done)).length == 1,
      auEnd := (s.windowSps n).all (fun sp => !(q.sel.contains sp) || ((List.range ((s.spRows n sp).2 - (s.spRows n sp).1)).all (fun i =>
        match q.slice ((s.spRows n sp).1 + i) sp with | some d => d.got || d.done | none => false))),
      spoil := b % 2 == 1 }

/-- A slice received already: its slot counts it (R279), or ingest's DUP_CNT when it came through a BS_IN ring (R134, R161). -/
def State.dupSlice (s : State) (n : Nat) (ring : Bool) : State :=
  if ring then s.countDup (56 + n) else s.bump (Reg.DEC_BS_DUP_SLICE_CNT n)

/-- A fragment of a slice arrives (R269, R270, R274, R276, R279); `ring`: through a BS_IN ring, always a whole slice. -/
def State.addFragment (s : State) (n ts seq sp k : Nat) (first last : Bool) (bytes : Nat) (posted : List Posted) (ring : Bool) : State :=
  match (s.dec n).pics.find? (fun q => q.ts == some ts) with
  | none => if (s.dec n).dropped.contains ts then s.bump (Reg.DEC_BS_LATE_SLICE_CNT n) else s
  | some q =>
    if !((s.windowSps n).contains sp) then (if first then s.bump (Reg.DEC_BS_OUTSIDE_CNT n) else s)
    else if k < (s.spRows n sp).1 ∨ (s.spRows n sp).2 ≤ k then
      (if first then (s.bump (Reg.DEC_BS_ERR_SLICE_CNT n)).oncePic n q.id 0x6A02 0 else s)
    else
      let x := (q.slice k sp).getD (DecSlice.blank k sp)
      if x.got ∨ (x.done ∧ !x.concealed) then (if first then s.dupSlice n ring else s)
      else if x.concealed ∨ k < q.nextRow ∨ q.shown then s.bump (Reg.DEC_BS_LATE_SLICE_CNT n)
      else if 2 ^ s.cfg Reg.DEC_BS_SBUF_LOG2 n < (s.dec n).buffered + bytes then s
      else
        let fr := x.frags ++ [(seq, first, last)]
        let y := { x with frags := fr, bytes := x.bytes + bytes, got := wholeSlice fr }
        let q1 := q.putSlice y
        let s1 := (s.setDecPic n q1).updDec n (fun d => { d with buffered := d.buffered + bytes })
        if y.got then s1.copySlice n q1 y posted else s1

/-- What a slot does with accepted content of a picture (R100, R271, R272, R280). -/
def State.decContent (s : State) (n ts seq bytes : Nat) (c : CodedContent) (posted : List Posted) (live ring : Bool) : State :=
  let s0 := if live ∧ s.slotState n = slotStarting then s.set (Reg.ENC_BS_RUN_STATE n) slotRunning else s
  match c with
  | .head ps stamp =>
    let s1 := match ps with | some x => s0.takeSets n x | none => s0
    let s2 := match stamp with
      | some x => if x.version = 1 then s1.acceptPic n ts (some x) live else s1
      | none => s1
    s2.tryJoin n ts
  | .slice sp row first last start =>
    let s1 := s0.acceptPic n ts none live
    let s2 := s1.updDec n (fun d => { d with pics := d.pics.map (fun q => if q.ts = some ts then { q with start := q.start || start } else q) })
    (s2.addFragment n ts seq sp.toNat row first last bytes posted ring).tryJoin n ts

/-- Whether a slot of the held configuration decodes on the Flyer (R149, R428). -/
def State.heldDecode (s : State) (n : Nat) : Bool :=
  s.mode == 5 && s.cfg Reg.ENC_BS_FORMAT_KIND n == 1
    && (s.get (bank 5 (Reg.ENC_BS_RUN_STATE n)) == slotStarting || s.get (bank 5 (Reg.ENC_BS_RUN_STATE n)) == slotRunning)

/-- Whether a decode slot takes slices now (R149). -/
def State.decTakes (s : State) (n : Nat) : Bool :=
  s.slotKind n == 1 && (s.slotState n == slotStarting || s.slotState n == slotRunning)

/-- Whether a packet's slice is filtered out (R160, R161): by the list latched for its picture, else by the one in force. -/
def State.filtered (s : State) (n ts : Nat) (c : CodedContent) : Bool :=
  match c with
  | .head _ _ => false
  | .slice sp _ _ _ _ =>
    let sel := match (s.dec n).pics.find? (fun q => q.ts == some ts) with | some q => q.sel | none => s.latchedSel n (some ts)
    !(sel.contains sp.toNat)

/-- CODED_PACKET_RX (R149 to R152, R158, R160). -/
def State.codedRx (s : State) (n p : Nat) (x : CodedPacket) (posted : List Posted) : State :=
  let r := 56 + n
  let live := s.decTakes n
  let h : RxHead := { flow := x.flow, pt := x.pt.toNat, width := 16, seq := x.seq.toNat, malformed := x.malformed, crcOk := x.crcOk,
                      cap := some (s.decCap n x.ts.toNat) }
  if !(s.takesFlow r p x.flow) then s.strayFrame x.flow
  else if !live && !(s.heldDecode n) then s.unmatched x.flow.lane
  else if s.badHead r h then s.rxPacket r p h (fun s => s)
  else
    let s1 := s.latchSel n x.ts.toNat
    if s1.filtered n x.ts.toNat x.content then ((s1.pathSeen r p).checkStrip r x.crcOk).1
    else
      let seq := extendSeq 16 (s1.rcv r).newest x.seq.toNat
      s1.rxPacket r p h (fun s => s.decContent n x.ts.toNat seq x.bytes x.content posted live false)

def execCodedPacketRx (r : Fin 4) (p : Fin 2) (x : CodedPacket) (posted : List Posted) (s : State) : Host.Outcome State Fault Refusal :=
  .next (s.codedRx r p x posted)

/-! ## BS_IN -/

/-- A BS_IN entry is done: STATUS and PHASE are written back; a completion only for a failure (R132). -/
def State.bsInDone (s : State) (r index : Nat) (t : Ticket) (c : Code) : State :=
  match s.ring r with
  | none => s
  | some x =>
    let s1 := s.emit (.bsIn r index (x.entryAt index) (ringPhase x.log2 index) c)
    if c ≠ 0 then s1.complete t c 0
    else (s1.updRing r (fun x => { x with inFlight := x.inFlight - 1 })).updRing t.cpl (fun y => { y with reserved := y.reserved - 1 })

/-- BS_IN_ENTRY (R132, R134): a slice in addition to ingest packets. -/
def State.bsInEntry (s : State) (r : Nat) (e : BsIn) (posted : List Posted) : State :=
  if s.servable .bsIn r false then
    match s.ring r with
    | none => s
    | some x =>
      let (s0, t) := s.consume r 0
      let s1 := s0.mirror3 (.ring r (s0.consOf r) 0 none)
      if e.size = 0 ∨ 1048576 < e.size.toNat then (s1.badEntry x.fn r 0x3402).bsInDone r x.cons t 0x3402
      else if !e.aligned then (s1.badEntry x.fn r 0x3404).bsInDone r x.cons t 0x3404
      else match e.slice with
        | none => ((s1.bump (Reg.HIF_FN_DMA_ERR_CNT x.fn)).bsInDone r x.cons t 0x3405)
        | some y =>
          let n := x.slot
          let c : CodedContent := .slice y.sp y.row true true y.start
          let s2 := s1.latchSel n y.ts.toNat
          (if s1.decTakes n && !(s2.filtered n y.ts.toNat c) then s2.decContent n y.ts.toNat 0 e.size.toNat c posted true true else s1).bsInDone r x.cons t 0
  else s

def execBsInEntry (r : Fin 16384) (e : BsIn) (posted : List Posted) (s : State) : Host.Outcome State Fault Refusal :=
  .next (s.bsInEntry r e posted)

/-! ## Row deadlines -/

/-- Conceal a row of a subpicture (R274, R281): what has arrived of its slice leaves the buffer, and the subpicture is marked. -/
def State.conceal (s : State) (n id k sp : Nat) : State :=
  match s.decPic n id with
  | none => s
  | some q =>
    let x := (q.slice k sp).getD (DecSlice.blank k sp)
    let s1 := (s.setDecPic n (q.putSlice { x with frags := [], bytes := 0, got := false, concealed := true })).updDec n
      (fun d => { d with buffered := d.buffered - x.bytes })
    s1.markSp n sp q.num q.pos

/-- A subpicture selected since the join and never concealed yet is taken as concealed in the picture before (DEDUCED, log entry 31). -/
def State.markFresh (s : State) (n : Nat) (q : DecPic) : State :=
  if s.on (Reg.DEC_BS_JOINED n) then
    ((s.windowSps n).filter (fun sp => q.sel.contains sp && !((s.dec n).cleared.contains sp) && (Table.find (s.dec n).marks sp).isNone)).foldl
      (fun (t : State) sp => t.markSp n sp (q.num - 1) ((q.pos + q.len - 1) % q.len)) s
  else s

/-- Whether a picture goes on: a STOPPING slot lets only pictures run of which a packet was accepted (R103). -/
def State.goesOn (s : State) (n : Nat) (q : DecPic) : Bool := q.ts.isSome || s.slotState n != slotStopping

/-- d_k of a picture is reached (R272, R274, R280): slices not complete are concealed; the checkpoint of the row is sent (R437). -/
def State.rowDeadline (s : State) (n : Nat) (q : DecPic) (k : Nat) : State :=
  let (lo, hi) := s.windowRows n
  let s0 := s.setDecPic n { q with nextRow := k + 1 }
  if q.idle || !(s.goesOn n q) then s0
  else
    let acc := q.ts.isSome
    let s1 := if k = lo ∧ acc then
        (if q.stamped then s0 else (s0.bump (Reg.DEC_BS_NOSTAMP_CNT n)).raise 0x6A04 (objSlot n) {}).markFresh n q
      else s0
    let sps := (s.liveSps n q k).filter (fun sp => match q.slice k sp with | some d => !d.done | none => true)
    let s2 := if acc ∧ s.on (Reg.DEC_BS_JOINED n) then
        let miss := sps.filter (fun sp => match q.slice k sp with | some d => !d.got | none => true)
        let s2 := (miss.foldl (fun (t : State) sp => t.conceal n q.id k sp) s1).count (Reg.DEC_BS_MISS_SLICE_CNT n) miss.length
        if miss = [] then s2 else s2.oncePic n q.id 0x6A01 miss.length
      else sps.foldl (fun (t : State) sp => t.conceal n q.id k sp) s1
    let s3 := if k + 1 = hi ∧ !acc then (s2.bump (Reg.DEC_BS_MISS_PIC_CNT n)).raise 0x6A03 (objSlot n) {} else s2
    s3.checkpoint n q.num k none

/-- The next picture after one whose rows are not all judged. -/
def State.picAfter (s : State) (n : Nat) (q : DecPic) : Option DecPic :=
  ((s.dec n).pics.filter (fun x => (x.present || x.ts.isSome) && decide (q.base < x.base ∧ x.nextRow < (s.windowRows n).2))).foldl
    (fun (m : Option DecPic) x => match m with | none => some x | some o => if x.base < o.base then some x else some o) none

/-- DECODE_ROW_START of a row on a Face (R273, R274): the first Face to fire judges the row; the first row has the picture's
frame queued and the next picture expected; each Face queues the row after. -/
def State.decodeRowStart (s : State) (u n id k : Nat) : State :=
  match s.decPic n id with
  | none => s
  | some q =>
    let (lo, hi) := s.windowRows n
    let s1 := if q.nextRow = k then
        let s1 := s.rowDeadline n q k
        if k = lo ∧ s.goesOn n q ∧ q.present then (s1.expectNext n q).queueShow n q else s1
      else s
    if k + 1 < hi then s1.launchRow u n q (k + 1)
    else match s1.picAfter n q with
      | some x => if (s1.queue u).any (QLaunch.decodes n) then s1 else s1.launchRow u n x x.nextRow
      | none => s1

/-! ## Rows done -/

/-- The subpictures whose concealed marks a decoded picture clears (R282). -/
def State.clearable (s : State) (n : Nat) (q : DecPic) : List Nat :=
  if !(s.on (Reg.DEC_BS_JOINED n)) ∨ q.ts.isNone then []
  else
    ((s.dec n).marks.filter (fun e =>
      let (a, b) := s.spCols n e.1
      decide (q.pos + 1 = ceilDiv b q.gdr ∧ e.2.num < q.num)
      && (decide (e.2.num < q.num - q.pos) || decide (e.2.num - e.2.pos = q.num - q.pos ∧ e.2.pos < a / q.gdr)))).map (fun e => e.1)

/-- Clear the marks of subpictures at a picture (R282, R283): one concealed again since then stays marked. -/
def State.clearMarks (s : State) (n num : Nat) (l : List Nat) : State :=
  l.foldl (fun (t : State) sp =>
    let again := match Table.find (t.dec n).marks sp with | some m => decide (num ≤ m.num) | none => false
    if again then t
    else ((t.updDec n (fun d => { d with marks := Table.del d.marks sp, cleared := sp :: d.cleared })).showMarks n).raise
      0x0A01 (objSlot n) { w16 := sp }) s

/-- Whether row k of a subpicture may be complete in a picture (R274): it is live, not done, the row above it is done, and its
slice is whole or concealed. -/
def State.rowOpen (s : State) (n : Nat) (q : DecPic) (k sp : Nat) : Bool :=
  !q.idle && (s.liveSps n q k).contains sp
    && (match q.slice k sp with
        | some d => !d.done && (d.concealed || (d.got && s.on (Reg.DEC_BS_JOINED n)))
        | none => false)
    && (k == (s.spRows n sp).1 || (match q.slice (k - 1) sp with | some d => d.done | none => false))

/-- The planes of CTU row k in the picture buffer of a picture (R153, R154, R269): address and bytes. The five buffers are taken in turn
(DESIGN CHOICE, log entry 131). -/
def State.decRows (s : State) (n id k : Nat) : List (Nat × Nat) :=
  match s.decArea 1 n with
  | [] => []
  | a :: _ =>
    let (w, h) := s.decWindow 1 n
    let bps := if s.cfg Reg.DEC_BS_DEPTH8 n = 1 then 1 else 2
    let sm := chromaSampling (s.cfg Reg.DEC_BS_CHROMA n)
    let base := a.base + id % 5 * pictureBytes sm bps w h
    let y := 128 * (k - (s.windowRows n).1)
    let part := fun (p line div : Nat) => (p + y / div * roundUp line 256, (min h (y + 128) - y) / div * roundUp line 256)
    let luma := planeSize (w * bps) h
    let cw := 2 * ceilDiv w 2 * bps
    part base (w * bps) 1 :: (if sm = 0 then [part (base + luma) cw 1] else if sm = 3 then [part (base + luma) cw 2]
      else [part (base + luma) (w * bps) 1, part (base + 2 * luma) (w * bps) 1])

/-- A Face writes a decoded row through port 3: its blocks are compressed (R398). -/
def State.compressRow (s : State) (n id k : Nat) : State := (s.decRows n id k).foldl (fun (t : State) e => t.putRun e.1 e.2 none) s

/-- The MIRROR records of a decoded row (R434): REF and ROW_END. How many REF records its samples take is a free value. -/
def State.mirrorDecRow (s : State) (n pic k : Nat) : State :=
  if s.flying then
    let (q, s1) := s.draw
    let refs := 1 + q % 4096
    (refRecords s1.free n pic k refs ++ [MirrorRec.rowEnd n pic k refs]).foldl (fun (t : State) x => t.mirror x) { s1 with free := s1.free + refs }
  else s

/-- DECODE_ROW_DONE (R275 to R278, R281, R299). -/
def State.rowDone (s : State) (n k sp : Nat) (x : RowResult) : State :=
  match (s.dec n).pics.find? (fun q => s.rowOpen n q k sp) with
  | none => s
  | some q =>
    let d := (q.slice k sp).getD (DecSlice.blank k sp)
    let lost := !d.concealed && (x.errored || x.fenced)
    let same := if d.concealed || lost then (s.dec n).made.contains sp else x.unchanged
    let q1 := q.putSlice { d with frags := [], bytes := 0, done := true, concealed := d.concealed || lost, unchanged := same }
    let s1 := (s.setDecPic n q1).updDec n (fun e => { e with buffered := e.buffered - d.bytes })
    let s2 := if d.concealed then s1 else
      let a := if x.errored then (s1.bump (Reg.DEC_BS_ERR_SLICE_CNT n)).oncePic n q.id 0x6A02 0 else s1
      let b := if x.fenced then (a.bump (Reg.DEC_BS_FENCE_CNT n)).oncePic n q.id 0x6A05 0 else a
      let c := b.count (Reg.DEC_BS_FENCE_CNT n) x.strays
      let e := if x.xtile && !x.errored then (c.bump (Reg.DEC_BS_XTILE_CNT n)).oncePic n q.id 0x6A06 0 else c
      if lost || x.xtile then e.markSp n sp q.num q.pos else e
    let s2m := if s.rowReady n q1 k then (s2.compressRow n q.id k).mirrorDecRow n q.num k else s2
    let rows := s.spRows n sp
    let spDone := (List.range (rows.2 - rows.1)).all (fun i => match q1.slice (rows.1 + i) sp with | some d => d.done | none => false)
    let s3 := if spDone then s2m.updDec n (fun e => { e with made := if e.made.contains sp then e.made else sp :: e.made }) else s2m
    let (lo, hi) := s.windowRows n
    if !q.decoded && (List.range (hi - lo)).all (fun i => s.rowReady n q1 (lo + i)) then
      match s3.decPic n q.id with
      | some y =>
        let l := s3.clearable n y
        if y.present && !y.shown then s3.setDecPic n { y with decoded := true, clears := l }
        else if y.present then (s3.setDecPic n { y with decoded := true }).clearMarks n y.num l
        else ((s3.setDecPic n { y with decoded := true }).clearMarks n y.num l).retirePic n { y with decoded := true }
      | none => s3
    else s3

def execDecodeRowDone (n : Fin 4) (row : Fin 64) (sp : BitVec 16) (x : RowResult) (s : State) : Host.Outcome State Fault Refusal :=
  .next (s.rowDone n row sp.toNat x)

/-- STREAM_LOSS_TIMEOUT (R280): no picture accepted for 1,000 ms; the grid goes on without a stream (R301). -/
def State.streamLoss (s : State) (n : Nat) : State :=
  if s.on (Reg.DEC_BS_STREAM_UP n) ∧ s.slotBusy n ∧ (s.dec n).lastAt + 1000 * 1000 * ticksPerUs ≤ s.lc then
    ((s.set (Reg.DEC_BS_STREAM_UP n) 0).updDec n (fun d => { d with pics := d.pics.map (fun q => if q.ts.isNone then { q with idle := true } else q) })).raise
      0x6A08 (objSlot n) {}
  else s

def execStreamLossTimeout (n : Fin 4) (s : State) : Host.Outcome State Fault Refusal := .next (s.streamLoss n)

end Sys2Proof.Machine
end

