-- ==== Sys2Proof/Machine/Scanout.lean ====
section
/-! DEFINITION. Scan-out to tiles (chapter 11): the timing of a lane and its commit, load frames, requests, flips, self-refresh
and the lane's events. -/

namespace Sys2Proof.Machine

/-! ## Timing -/

/-- The fields of a lane's timing (R303): source, rectangle, line period, flip lead, tile count and tile table. -/
def scnFields (i : Nat) : List Field :=
  [Reg.SCN_LANE_ENABLE i, Reg.SCN_LANE_SRC_KIND i, Reg.SCN_LANE_SRC_INDEX i, Reg.SCN_LANE_CLONE_EN i, Reg.SCN_LANE_CLONE_OF i, Reg.SCN_LANE_TILES i,
   Reg.SCN_LANE_SRC_X i, Reg.SCN_LANE_SRC_Y i, Reg.SCN_LANE_SRC_W i, Reg.SCN_LANE_SRC_H i, Reg.SCN_LANE_LINE_NS i,
   Reg.SCN_LANE_FLIP_LEAD_NS i, Reg.SCN_LANE_MEM_LOAD_US i, Reg.SCN_LANE_MEM_RATE i, Reg.SCN_LANE_MEM_COLORIMETRY i,
   Reg.SCN_LANE_MEM_DEPTH i, Reg.SCN_LANE_MEM_PLANAR i, Reg.SCN_LANE_MEM_SAMPLING i, Reg.SCN_LANE_MEM_BASE i] ++
  (List.range 64).flatMap (fun j => [Reg.SCN_TILE_X i j, Reg.SCN_TILE_Y i j, Reg.SCN_TILE_W i j, Reg.SCN_TILE_H i j])

/-- A timing field in force on a lane: the leader's on a follower (R302). -/
def State.scnGet (s : State) (f : Nat → Field) (i : Nat) : Nat := s.get (bank 1 (f (s.scnLead i)))
def State.scnTile (s : State) (f : Nat → Nat → Field) (i j : Nat) : Nat := s.get (bank 1 (f (s.scnLead i) j))

/-- Whether a lane's source in force is memory planes. -/
def State.scnMem (s : State) (i : Nat) : Bool := s.scnGet Reg.SCN_LANE_SRC_KIND i == 1

/-- LINE_NS in 2^-16 ns. -/
def State.lineU (s : State) (i : Nat) : Rat := ((s.scnGet Reg.SCN_LANE_LINE_NS i * nsUnits : Nat) : Rat)

/-- The bytes of a memory source's planes (R154, R289). -/
def memBytes (sampling planar bps w h : Nat) : Nat :=
  if planar = 1 ∧ sampling = 0 then planeSize (w * bps) h + 2 * planeSize (ceilDiv w 2 * bps) h
  else if planar = 1 ∧ sampling = 3 then planeSize (w * bps) h + 2 * planeSize (ceilDiv w 2 * bps) (ceilDiv h 2)
  else pictureBytes sampling bps w h

/-! ## Committing (R305) -/

/-- Check 1. -/
def State.scnRangesOk (s : State) (i : Nat) : Bool :=
  let g := fun (f : Nat → Field) => s.get (f i)
  let mem := g Reg.SCN_LANE_SRC_KIND == 1
  let w := g Reg.SCN_LANE_SRC_W
  let h := g Reg.SCN_LANE_SRC_H
  let n := g Reg.SCN_LANE_SRC_INDEX
  decide (1 ≤ g Reg.SCN_LANE_TILES ∧ g Reg.SCN_LANE_TILES ≤ 64 ∧ 8 ≤ w ∧ w ≤ 8192 ∧ w % 8 = 0 ∧ 1 ≤ h ∧ h ≤ 4320
    ∧ 20 ≤ g Reg.SCN_LANE_LINE_NS ∧ 100 ≤ g Reg.SCN_LANE_FLIP_LEAD_NS ∧ g Reg.SCN_LANE_FLIP_LEAD_NS ≤ 20000
    ∧ 1 ≤ g Reg.SCN_LANE_SR_FRAMES ∧ g Reg.SCN_LANE_APPLY_NS ≤ 999999999)
  && (if mem then
        decide (1 ≤ g Reg.SCN_LANE_MEM_LOAD_US ∧ g Reg.SCN_LANE_MEM_LOAD_US ≤ 5000 ∧ g Reg.SCN_LANE_MEM_COLORIMETRY ≤ 1 ∧ g Reg.SCN_LANE_MEM_DEPTH ≤ 1
          ∧ g Reg.SCN_LANE_SRC_X = 0 ∧ g Reg.SCN_LANE_SRC_Y = 0)
        && rateOk (g Reg.SCN_LANE_MEM_RATE)
        && (g Reg.SCN_LANE_MEM_PLANAR == 1 || g Reg.SCN_LANE_MEM_SAMPLING == 0 || g Reg.SCN_LANE_MEM_SAMPLING == 3)
      else decide (g Reg.SCN_LANE_SRC_X + w ≤ s.cfg Reg.DEC_BS_OUT_W n ∧ g Reg.SCN_LANE_SRC_Y + h ≤ s.cfg Reg.DEC_BS_OUT_H n))
  && (List.range (g Reg.SCN_LANE_TILES)).all (fun j =>
    let tw := s.get (Reg.SCN_TILE_W i j)
    let th := s.get (Reg.SCN_TILE_H i j)
    decide (8 ≤ tw ∧ tw ≤ 1024 ∧ tw % 8 = 0 ∧ 1 ≤ th ∧ th ≤ 512 ∧ s.get (Reg.SCN_TILE_X i j) + tw ≤ w ∧ s.get (Reg.SCN_TILE_Y i j) + th ≤ h))

/-- Check 5: the slots of each lane line. -/
def State.scnBandwidthOk (s : State) (i : Nat) : Bool :=
  (List.range (s.get (Reg.SCN_LANE_SRC_H i))).all (fun l =>
    let cover := (List.range (s.get (Reg.SCN_LANE_TILES i))).filter (fun j =>
      decide (s.get (Reg.SCN_TILE_Y i j) ≤ l ∧ l < s.get (Reg.SCN_TILE_Y i j) + s.get (Reg.SCN_TILE_H i j)))
    decide (sumNat (cover.map (fun j => s.get (Reg.SCN_TILE_W i j) / 8 + 1)) * 241 ≤ 90 * s.get (Reg.SCN_LANE_LINE_NS i)))

/-- The status of a lane's commit. A follower's own source, rectangle, timing and tiles are ignored (R302), so only checks 2 and 6
apply to it. -/
def State.scnCode (s : State) (i : Nat) : Code :=
  let g := fun (f : Nat → Field) => s.get (f i)
  let clone := g Reg.SCN_LANE_CLONE_EN == 1
  let mem := g Reg.SCN_LANE_SRC_KIND == 1
  let n := g Reg.SCN_LANE_SRC_INDEX
  let lead := g Reg.SCN_LANE_CLONE_OF
  if !clone ∧ !(s.scnRangesOk i) then 0x1B01
  else if s.laneMode i ≠ 4 ∨ (s.on Reg.TRP_CTRL_ENABLE ∧ bit (s.get Reg.TRP_CTRL_MIRROR_LANES) i) then 0x1B02
  else if clone then
    (if lead = i ∨ s.get (bank 1 (Reg.SCN_LANE_ENABLE lead)) ≠ 1 ∨ s.get (bank 1 (Reg.SCN_LANE_CLONE_EN lead)) = 1 then 0x1B06 else 0)
  else if !mem ∧ !(s.configured n && s.slotKind n == 1) then 0x1B03
  else if mem ∧ (s.mode ≠ 0 ∨ !(s.inService (g Reg.SCN_LANE_MEM_BASE * 4096) (memBytes (g Reg.SCN_LANE_MEM_SAMPLING) (g Reg.SCN_LANE_MEM_PLANAR)
      (if g Reg.SCN_LANE_MEM_DEPTH = 0 then 1 else 2) (g Reg.SCN_LANE_SRC_W) (g Reg.SCN_LANE_SRC_H)))) then 0x1B03
  else if !(s.loadFits 0 i (if mem then g Reg.SCN_LANE_MEM_LOAD_US else s.cfg Reg.DEC_BS_LOAD_US n)) then 0x1B04
  else if !(s.scnBandwidthOk i) then 0x1B05
  else 0

/-! ## Events (R304) -/

/-- A lane's event of kind k: its Barker source always, the host when its EVT_EN bit is set. -/
def State.scnEvent (s : State) (i k : Nat) (c : Code) (w16 : Nat) : State :=
  let s1 := s.latch (256 + 4 * i + k)
  if bit (s.get (Reg.SCN_LANE_EVT_EN i)) k then s1.raise c (objLane i) { w16 := w16 } else s1

/-- Frame done, once per frame. -/
def State.frameDone (s : State) (i : Nat) : State :=
  match (s.scn i).frame with
  | some f => if f.done then s else (s.setScn i { s.scn i with frame := some { f with done := true } }).scnEvent i 2 0x0B03 0
  | none => s

/-! ## Ticks of instants -/

/-- The tick of a DT under a mapping (R68). -/
def Mapping.tickOf (m : Mapping) (x : Int) : Int :=
  let den : Int := 40960 * (2 ^ 40 + m.rate)
  ((x - m.dt + 1) * 2 ^ 40 + den - 1) / den - 1 + m.lc

/-- The DT of a lane's frame start, lane line opening and start of blanking (R292). -/
def State.frameAt (s : State) (i : Nat) (f : LoadFrame) : Rat :=
  f.p - usU (if s.scnMem i then s.scnGet Reg.SCN_LANE_MEM_LOAD_US i
    else match s.decPic (s.scnGet Reg.SCN_LANE_SRC_INDEX i) f.pic with
      | some q => q.load
      | none => s.cfg Reg.DEC_BS_LOAD_US (s.scnGet Reg.SCN_LANE_SRC_INDEX i))
def State.lineAt (s : State) (i : Nat) (f : LoadFrame) (l : Nat) : Rat := s.frameAt i f + (l : Rat) * s.lineU i
def State.blankAt (s : State) (i : Nat) (f : LoadFrame) : Rat := s.lineAt i f (s.scnGet Reg.SCN_LANE_SRC_H i)

/-! ## A memory source (R287, R292) -/

/-- Queue the frame start and the flip of picture N of a memory source. -/
def State.queueMem (s : State) (i pic : Nat) : State :=
  let p : Rat := (pic : Rat) * framePeriodU (s.scnGet Reg.SCN_LANE_MEM_RATE i)
  (s.launchAt (160 + i) 8 (instant (p - usU (s.scnGet Reg.SCN_LANE_MEM_LOAD_US i))) (.frameStart i pic)).launchAt (160 + i) 5
    (instant (p - ((s.scnGet Reg.SCN_LANE_FLIP_LEAD_NS i * nsUnits : Nat) : Rat))) (.present i pic)

/-- Start the grid of a memory source at the first picture whose frame start is to come. -/
def State.startMem (s : State) (i : Nat) : State :=
  if s.scnMem i ∧ s.mode = 0 ∧ s.domEnabled s.activeDom then
    let pf := framePeriodU (s.scnGet Reg.SCN_LANE_MEM_RATE i)
    s.queueMem i ((((s.activeDt : Rat) + usU (s.scnGet Reg.SCN_LANE_MEM_LOAD_US i)) / pf).floor + 1).toNat
  else s

/-- Whether a launch is a lane's frame start or presentation. -/
def QLaunch.shows (x : QLaunch) : Bool := match x.act with | .frameStart _ _ => true | .present _ _ => true | _ => false

/-- A lane is turned off (the ENABLE bit, R287). -/
def State.scnDisable (s : State) (i : Nat) : State :=
  (((s.cancel (160 + i) QLaunch.shows).setScn i Scn.reset).setAll
    [(Reg.SCN_LANE_ENABLE i, 0), (bank 1 (Reg.SCN_LANE_ENABLE i), 0), (Reg.SCN_LANE_STATUS_STATE i, scnOff), (Reg.SCN_LANE_STATUS_PENDING i, 0)])

/-! ## Committing -/

/-- Bring a waiting or shadow timing into force, from bank b: MODE goes to the tiles (R303). -/
def State.scnInstall (s : State) (b i : Nat) : State :=
  let s1 := s.copyBank b 1 (scnFields i)
  if s1.laneState i = laneActive ∧ s1.isAkn i then s1.sendModes i else s1

/-- A lane's frame reaches its start of blanking: frame done at the latest, and the event (R304). -/
def State.blankLane (s : State) (i : Nat) (f : LoadFrame) : State :=
  ((s.frameDone i).setScn i { s.scn i with frame := some { f with blank := true, done := true } }).scnEvent i 0 0x0B01 0

/-- A lane takes a new timing and spends one frame in TRANSITION (R303). -/
def State.scnTurn (s : State) (i : Nat) : State :=
  let s1 := (s.setScn i { s.scn i with frame := none, skipped := false, still := 0 }).set (Reg.SCN_LANE_STATUS_STATE i) scnTransition
  let s2 := (s1.bump (Reg.SCN_LANE_TRANSITION_CNT i)).raise 0x0B06 (objLane i) {}
  if s2.chainCode i = 0 then s2 else (s2.scnDrop i).scnChain i

/-- The leader's new timing reaches its followers (R302, DEDUCED, log entry 129): MODE goes to each ACTIVE one, and one that runs
frames turns with its leader, a frame it was loading reaching its blanking first. -/
def State.scnFollow (s : State) (i : Nat) : State :=
  ((List.range 16).filter (fun j => decide (j ≠ i ∧ s.scnLead j = i))).foldl (fun (t : State) j =>
    if t.laneState j = laneActive ∧ t.isAkn j then
      let u := t.sendModes j
      let st := u.scnState j
      if st = scnRun ∨ st = scnSelf ∨ st = scnTransition then
        (match (u.scn j).frame with
         | some f => if f.blank then u else u.blankLane j f
         | none => u).scnTurn j
      else u
    else t) s

/-- The APPLY instant of a lane's shadow: seconds [47:32] from the active DT; zero means this tick (R303). -/
def State.applyDt (s : State) (i : Nat) : Int :=
  let sec := s.get (Reg.SCN_LANE_APPLY_SEC i)
  let ns := s.get (Reg.SCN_LANE_APPLY_NS i)
  if sec = 0 ∧ ns = 0 then s.activeDt else dtOf (dtSec s.activeDt / 2 ^ 32 * 2 ^ 32 + sec) ns 0

/-- SCN_LANE_COMMIT (R303, R305): a lane that runs frames takes the timing at a start of blanking, another at once. -/
def State.scnCommit (s : State) (i : Nat) : State :=
  let c := s.scnCode i
  if c ≠ 0 then s.set (Reg.SCN_LANE_COMMIT_LAST_STATUS i) c
  else
    let st := s.scnState i
    let s0 := (s.setScn i { s.scn i with blocked := false }).set (Reg.SCN_LANE_COMMIT_LAST_STATUS i) 0
    if st = scnRun ∨ st = scnSelf ∨ st = scnTransition then
      ((s0.copyBank 0 2 (scnFields i)).setScn i { s0.scn i with pend := some (s.applyDt i), still := 0 }).setAll
        [(Reg.SCN_LANE_STATUS_PENDING i, 1), (Reg.SCN_LANE_STATUS_STATE i, if st = scnSelf then scnRun else st)]
    else
      let s1 := ((s0.cancel (160 + i) QLaunch.shows).scnInstall 0 i).scnFollow i
      if s1.get (bank 1 (Reg.SCN_LANE_ENABLE i)) = 1 then
        let s2 := (s1.set (Reg.SCN_LANE_STATUS_STATE i) scnWait).startMem i
        if s2.laneState i = laneActive then s2.scnChain i else s2
      else s1.set (Reg.SCN_LANE_STATUS_STATE i) scnOff

def execScnLaneCommit (w : Writer) (i : Fin 16) (s : State) : Host.Outcome State Fault Refusal :=
  .next (s.byWriter w (Reg.SCN_LANE_COMMIT_COMMIT i).off (fun s =>
    let c := s.scnCode i
    (s.scnCommit i).logReg w (Reg.SCN_LANE_COMMIT_COMMIT i).off c 0 (2 ^ 31)))

/-! ## Frame start -/

/-- Whether a lane may run (R298, R305). -/
def State.scnReady (s : State) (i : Nat) : Bool := s.laneState i == laneActive && s.isAkn i && s.chainCode i == 0 && !(s.scn i).blocked

/-- The first and last picture line of a lane's source rectangle. -/
def State.scnLines (s : State) (i : Nat) : Nat × Nat :=
  let n := s.scnGet Reg.SCN_LANE_SRC_INDEX i
  let y := s.cfg Reg.DEC_BS_OUT_Y n + s.scnGet Reg.SCN_LANE_SRC_Y i
  (y, y + s.scnGet Reg.SCN_LANE_SRC_H i - 1)

/-- The window subpictures that samples x0 to x1 - 1 of a picture line read. -/
def State.spsAt (s : State) (n line x0 x1 : Nat) : List Nat :=
  (s.rowSps n (line / 128)).filter (fun sp => decide ((s.spCols n sp).1 * 128 < x1 ∧ x0 < (s.spCols n sp).2 * 128))

/-- The columns of a lane's source rectangle. -/
def State.scnCols (s : State) (i : Nat) : Nat × Nat :=
  let x := s.cfg Reg.DEC_BS_OUT_X (s.scnGet Reg.SCN_LANE_SRC_INDEX i) + s.scnGet Reg.SCN_LANE_SRC_X i
  (x, x + s.scnGet Reg.SCN_LANE_SRC_W i)

/-- Whether a picture is static on a lane (R299, R301): every CTU row it reads UNCHANGED, the Safety Net that of the picture
before, no timing change pending. -/
def State.isStatic (s : State) (i n : Nat) (q : DecPic) : Bool :=
  let (y0, y1) := s.scnLines i
  let (x0, x1) := s.scnCols i
  let rows := (List.range (y1 / 128 + 1 - y0 / 128)).map (· + y0 / 128)
  q.same && (s.scn (s.scnLead i)).pend.isNone
    && (q.idle || rows.all (fun k => ((s.spsAt n (128 * k) x0 x1).filter (fun sp => q.sel.contains sp)).all (fun sp =>
      match q.slice k sp with | some d => d.done && d.unchanged | none => false)))

/-- A load frame begins: FRAME_START is sent (R292). -/
def State.loadFrame (s : State) (i pic num : Nat) (p : Rat) (still : Bool) : State :=
  ((s.setScn i { s.scn i with
    frame := some { pic := pic, p := p, opened := 0, answered := [], underrun := false, late := [], done := false, blank := false, still := still }, skipped := false }).set
    (Reg.SCN_LANE_STATUS_STATE i) scnRun).sendLink i (.frameStart (num % 2 ^ 32))

/-- What a lane does at f_N (the lane state table, R298, R300, R303). -/
def State.frameBegin (s : State) (i pic num : Nat) (p : Rat) (still : Bool) : State :=
  let st := s.scnState i
  if st = scnWait then
    (if s.scnReady i then s.loadFrame i pic num p still else if s.laneState i = laneActive ∧ !(s.scn i).blocked then s.scnChain i else s)
  else if st = scnRun then s.loadFrame i pic num p still
  else if st = scnTransition then
    (if (s.scn i).skipped then s.loadFrame i pic num p still
     else s.setScn i { s.scn i with skipped := true, frame := none })
  else if st = scnSelf then
    (if still then s else (s.raise 0x0B05 (objLane i) {}).loadFrame i pic num p still)
  else s

/-- The frame start f_N is the composition start of a decode slot (R290): the Safety Net is latched once per picture. -/
def State.latchDec (s : State) (n : Nat) (q : DecPic) : State :=
  if q.latched ≠ 0 then s
  else
    let s1 := s.cmpLatch n q.num q.cap q.p
    let same := (s1.saf n).sameShown (s.saf n)
    (List.range (ceilDiv (s.canvas n).2 128)).foldl (fun (t : State) k => t.mirrorSafRow n q.num k)
      (s1.setDecPic n { q with latched := 1, same := same })

/-- SCAN_OUT_FRAME_START of a picture on a lane (R290, R292). -/
def State.frameStartFired (s : State) (i pic : Nat) : State :=
  if s.scnState i = scnOff then s
  else if s.scnMem i then
    let p : Rat := (pic : Rat) * framePeriodU (s.scnGet Reg.SCN_LANE_MEM_RATE i)
    (s.frameBegin i pic pic p false).queueMem i (pic + 1)
  else
    let n := s.scnGet Reg.SCN_LANE_SRC_INDEX i
    match s.decPic n pic with
    | none => s
    | some q =>
      let s1 := s.latchDec n q
      match s1.decPic n pic with
      | some y => s1.frameBegin i pic y.num y.p (s1.isStatic i n y)
      | none => s1

/-! ## Lines and requests -/

/-- LANE_LINE_OPEN (R292, R304). -/
def State.lineOpen (s : State) (i : Nat) : State :=
  match (s.scn i).frame with
  | none => s
  | some f =>
    if s.scnState i = scnRun ∧ !f.blank ∧ f.opened < s.scnGet Reg.SCN_LANE_SRC_H i ∧ s.due 1 (instant (s.lineAt i f f.opened)) then
      let s1 := s.setScn i { s.scn i with frame := some { f with opened := f.opened + 1 } }
      if f.opened = s.get (Reg.SCN_LANE_LINE_MATCH i) then s1.scnEvent i 1 0x0B02 0 else s1
    else s

def execLaneLineOpen (i : Fin 16) (s : State) : Host.Outcome State Fault Refusal := .next (s.lineOpen i)

/-- A request that violates the raster protocol (R294): NAK, counted; its event and Ledger entry at most once per lane in 1 s. -/
def State.rowNak (s : State) (i tile line reason : Nat) : State :=
  let s1 := (s.bump (Reg.SCN_LANE_PROTO_CNT i)).sendLink i (.nak tile line reason)
  if s1.limitOpen 0x4B01 i then
    ((s1.limitNote 0x4B01 i).logUnit originHw 0 0x4B01 (blockOf (Reg.SCN_LANE_ENABLE 0).off) i).raise 0x4B01 (objLane i) { w16 := tile }
  else s1

/-- Whether a tile's line can be shown from a picture (R283, R294): each subpicture it reads has been cleared since the join and
its rows are complete. -/
def State.lineShows (s : State) (i tile line : Nat) (f : LoadFrame) : Bool :=
  if s.scnMem i then true
  else
    let n := s.scnGet Reg.SCN_LANE_SRC_INDEX i
    let x0 := (s.scnCols i).1 + s.scnTile Reg.SCN_TILE_X i tile
    let y := (s.scnLines i).1 + s.scnTile Reg.SCN_TILE_Y i tile + line
    let sps := s.spsAt n y x0 (x0 + s.scnTile Reg.SCN_TILE_W i tile)
    match s.decPic n f.pic with
    | none => false
    | some q =>
      (sps.filter (fun sp => q.sel.contains sp)).all (fun sp => (s.dec n).cleared.contains sp
        && (q.idle || (match q.slice (y / 128) sp with | some d => d.done | none => false)))

/-- The picture of a memory source (R289): semi-planar, or planar with Cb and Cr in planes of their own. -/
def State.memRaster (s : State) (i : Nat) : Raster :=
  let sm := s.scnGet Reg.SCN_LANE_MEM_SAMPLING i
  let planar := s.scnGet Reg.SCN_LANE_MEM_PLANAR i == 1
  let d := if s.scnGet Reg.SCN_LANE_MEM_DEPTH i = 0 then 8 else 10
  let bps := if d = 8 then 1 else 2
  let w := s.scnGet Reg.SCN_LANE_SRC_W i
  let h := s.scnGet Reg.SCN_LANE_SRC_H i
  let base := s.scnGet Reg.SCN_LANE_MEM_BASE i * 4096
  let half := sm == 0 || sm == 3
  let luma := planeSize (w * bps) h
  let cw := if half then ceilDiv w 2 * bps else w * bps
  let ch := if sm = 3 then ceilDiv h 2 else h
  { sampling := sm, depth := d, w := w, h := h,
    code := fun q x y =>
      if q = 0 then s.sampleAt d (base + y * roundUp (w * bps) 256 + x * bps)
      else if half && !planar then s.sampleAt d (base + luma + y * roundUp (2 * cw) 256 + (2 * x + (q - 1)) * bps)
      else s.sampleAt d (base + luma + (q - 1) * planeSize cw ch + y * roundUp cw 256 + x * bps) }

/-- A colour in [0, 1] as the wire carries it (R291). R'G'B' planes of memory count as full range (DEDUCED, log entry 124). -/
def wirePixel (c : Tri Rat) : Nat :=
  let v := c.map (fun x => nearUp (unit01 x * 1023))
  v.a * 2 ^ 20 + v.b * 2 ^ 10 + v.c

/-- The pixel of a lane's source rectangle at (x, y) (R287, R289, R290). -/
def State.lanePixel (s : State) (i : Nat) (f : LoadFrame) (x y : Nat) : Nat :=
  if s.scnMem i then
    let g := s.memRaster i
    let rgb := g.sampling == 2
    wirePixel (codesToRgb rgb g.depth rgb (s.scnGet Reg.SCN_LANE_MEM_COLORIMETRY i) (g.pixel x y))
  else
    wirePixel ((s.outputPixel (s.scnGet Reg.SCN_LANE_SRC_INDEX i) f.pic (s.scnGet Reg.SCN_LANE_SRC_X i + x)
      (s.scnGet Reg.SCN_LANE_SRC_Y i + y)).map of16)

/-- The pixels of a tile's line. -/
def State.linePixels (s : State) (i tile line : Nat) (f : LoadFrame) : List Nat :=
  (List.range (s.scnTile Reg.SCN_TILE_W i tile)).map (fun x =>
    s.lanePixel i f (s.scnTile Reg.SCN_TILE_X i tile + x) (s.scnTile Reg.SCN_TILE_Y i tile + line))

/-- Every line of every tile is answered. -/
def State.allAnswered (s : State) (i : Nat) (f : LoadFrame) : Bool :=
  decide (sumNat ((List.range (s.scnGet Reg.SCN_LANE_TILES i)).map (fun j => s.scnTile Reg.SCN_TILE_H i j)) ≤ f.answered.length)

/-- A lane line that was not prefetched in time, in the lane's frame (R302). -/
def State.noteLate (s : State) (i l : Nat) : State :=
  match (s.scn i).frame with
  | some g => s.setScn i { s.scn i with frame := some { g with late := l :: g.late.filter (· != l) } }
  | none => s

/-- Whether a follower's line is one that underran on its leader in the same picture (R302). -/
def State.leadLate (s : State) (i l : Nat) (f : LoadFrame) : Bool :=
  s.scnLead i != i && (match (s.scn (s.scnLead i)).frame with
    | some g => g.pic == f.pic && g.late.contains l
    | none => false)

/-- Answer a line: HOLD while it cannot be shown or is not prefetched, else its pixels (R294). -/
def State.answerLine (s : State) (i tile line : Nat) (f : LoadFrame) (shows ready again : Bool) : State :=
  let l := s.scnTile Reg.SCN_TILE_Y i tile + line
  let s0 := if again then s.bump (Reg.SCN_LANE_DUP_REQ_CNT i) else s
  if !shows then (if again then s0 else s0.bump (Reg.SCN_LANE_NOTREADY_CNT i)).sendLink i (.hold tile line)
  else if !ready then
    let s1 := ((if again then s0 else s0.bump (Reg.SCN_LANE_UNDERRUN_CNT i)).noteLate i l).sendLink i (.hold tile line)
    if f.underrun then s1
    else match (s1.scn i).frame with
      | some g => (s1.setScn i { s1.scn i with frame := some { g with underrun := true } }).scnEvent i 3 0x6B01 l
      | none => s1
  else s0.sendLink i (.rowData tile line (s0.linePixels i tile line f))

/-- ROW_REQ_RX (R293, R294). `ready` tells whether the line is prefetched. -/
def State.rowReq (s : State) (i tile line : Nat) (ready : Bool) : State :=
  if s.laneMode i ≠ 4 ∨ s.laneState i ≠ laneActive then s
  else if s.scnGet Reg.SCN_LANE_TILES i ≤ tile ∨ s.scnTile Reg.SCN_TILE_H i tile ≤ line then s.rowNak i tile line 1
  else
    let l := s.scnTile Reg.SCN_TILE_Y i tile + line
    match (s.scn i).frame with
    | none => s.rowNak i tile line 2
    | some f =>
      if s.scnState i ≠ scnRun ∨ f.blank ∨ f.opened ≤ l ∨ s.due 1 (instant (s.blankAt i f)) then s.rowNak i tile line 2
      else
        let held := decide (f.opened ≤ l + 16)
        let again := f.answered.contains (tile, line)
        if again && !held then s.rowNak i tile line 3
        else
          let f1 := if again then f else { f with answered := (tile, line) :: f.answered }
          let s1 := (s.setScn i { s.scn i with frame := some f1 }).answerLine i tile line f (s.lineShows i tile line f)
            (ready && held && !(s.leadLate i l f)) again
          if s1.allAnswered i f1 then s1.frameDone i else s1

def execRowReqRx (i : Fin 16) (tile : BitVec 8) (line : BitVec 16) (ready : Bool) (s : State) : Host.Outcome State Fault Refusal :=
  .next (s.rowReq i tile.toNat line.toNat ready)

/-! ## Blanking -/

/-- A waiting timing takes effect at a start of blanking later than its APPLY tick (R303). -/
def State.scnApply (s : State) (i : Nat) : State :=
  (((((s.scnInstall 2 i).setScn i { s.scn i with pend := none }).set (Reg.SCN_LANE_STATUS_PENDING i) 0).scnTurn i).scnFollow i)

/-- SR_ENTER (R300): at version 3, after SR_FRAMES static pictures. -/
def State.scnSleep (s : State) (i : Nat) (f : LoadFrame) : State :=
  if s.on (Reg.SCN_LANE_SR_EN i) ∧ s.get (Reg.AKN_STATUS_VERSION i) = 3 ∧ f.still ∧ s.get (Reg.SCN_LANE_SR_FRAMES i) ≤ (s.scn i).still then
    let num := match s.decPic (s.scnGet Reg.SCN_LANE_SRC_INDEX i) f.pic with | some q => q.num % 2 ^ 32 | none => 0
    ((((s.sendLink i (.srEnter num)).setScn i { s.scn i with frame := none, still := 0 }).set (Reg.SCN_LANE_STATUS_STATE i) scnSelf).bump
      (Reg.SCN_LANE_SR_ENTER_CNT i)).raise 0x0B04 (objLane i) {}
  else s

/-- START_OF_BLANKING (R292, R300, R303, R304). -/
def State.startBlanking (s : State) (i : Nat) : State :=
  match (s.scn i).frame with
  | none => s
  | some f =>
    if s.scnState i = scnRun ∧ !f.blank ∧ s.due 1 (instant (s.blankAt i f)) then
      let s2 := s.blankLane i f
      let n := s.scnGet Reg.SCN_LANE_SRC_INDEX i
      let s3 := if s.scnMem i then s2 else match s2.decPic n f.pic with
        | some q => if q.latched = 1 then (s2.setDecPic n { q with latched := 2 }).cmpEnd n else s2
        | none => s2
      match (s.scn i).pend with
      | some x => if s.activeMap.tickOf x < s.activeMap.tickOf (instant (s.blankAt i f)) then s3.scnApply i else s3
      | none => s3.scnSleep i f
    else s

def execStartOfBlanking (i : Fin 16) (s : State) : Host.Outcome State Fault Refusal := .next (s.startBlanking i)

/-! ## The flip -/

/-- A picture is presented, once per slot (R31, R284): LAST_PDT, 0x5102 when a subpicture is not fully decoded, and the concealed
marks it clears go (R282, at p as in the worked example of chapter 10). -/
def State.slotPresents (s : State) (n : Nat) (q : DecPic) : State :=
  if q.shown then s
  else
    let p := instant q.p
    let s1 := s.setAll [(Reg.DEC_BS_LAST_PDT_SEC n, dtSec p), (Reg.DEC_BS_LAST_PDT_NS n, dtNs p)]
    let (lo, hi) := s.windowRows n
    let s2 := if q.idle ∨ (List.range (hi - lo)).all (fun k => s.rowReady n q (lo + k)) then s1 else s1.oncePic n q.id 0x5102 0
    match s2.decPic n q.id with
    | some y => (s2.clearMarks n y.num y.clears).retirePic n y
    | none => s2

/-- One tick: a decode slot that no lane shows presents its pictures at p all the same (R31, R284). -/
def State.presentTick (s : State) : State :=
  fourSlots.foldl (fun (t : State) n =>
    if t.slotKind n = 1 ∧ t.slotBusy n ∧ t.lanesOf n = [] then
      (t.dec n).pics.foldl (fun (u : State) q => if q.present && u.goesOn n q && u.due 1 (instant q.p) then u.slotPresents n q else u) t
    else t) s

/-- Send FLIP on a lane that has loaded the picture (R296, R300). -/
def State.flip (s : State) (i pic num : Nat) : State :=
  match (s.scn i).frame with
  | some f =>
    if s.scnState i = scnRun ∧ f.pic = pic then
      ((s.setScn i { s.scn i with still := if f.still then (s.scn i).still + 1 else 0 }).bump (Reg.SCN_LANE_FRAME_CNT i)).sendLink i (.flip (num % 2 ^ 32))
    else s
  | none => s

/-- A presentation that would be late (R24, R31, R297): every lane of the slot discards the picture. -/
def State.presentLate (s : State) (i pic : Nat) : State :=
  if s.scnMem i then s
  else
    let n := s.scnGet Reg.SCN_LANE_SRC_INDEX i
    match s.decPic n pic with
    | none => s
    | some q =>
      let s1 := s.oncePic n pic 0x5102 0
      let s2 := (s.lanesOf n).foldl (fun (t : State) l => t.cancel (160 + l) (fun x => match x.act with | .present _ k => k == pic | _ => false)) s1
      (s2.clearMarks n q.num q.clears).retirePic n ((s2.decPic n pic).getD q)

/-- PRESENTATION of a picture on a lane (R284, R296). -/
def State.presentFired (s : State) (i pic : Nat) : State :=
  if s.scnState i = scnOff then s
  else if s.scnMem i then s.flip i pic pic
  else
    let n := s.scnGet Reg.SCN_LANE_SRC_INDEX i
    match s.decPic n pic with
    | none => s
    | some q => if s.goesOn n q then (s.flip i pic q.num).slotPresents n q else s

end Sys2Proof.Machine
end

