-- ==== Sys2Proof/Machine/Modes.lean ====
section
/-! DEFINITION. Operating modes, transitions, fencing and the service floor (chapter 03: R76 to R98). -/

namespace Sys2Proof.Machine

/-! ## Modes and what they power (R77, R477, R520) -/

/-- The modes of R76. -/
def modeService : Nat := 0
def modeHead : Nat := 1
def modeCluster : Nat := 2
def modeRelay : Nat := 3
def modeBridge : Nat := 4
def modeCatcher : Nat := 5

/-- HEAD, CLUSTER and RELAY, which run slots. -/
def runsSlots (m : Nat) : Bool := m == modeHead || m == modeCluster || m == modeRelay

/-- Whether a mode keeps a slot of a kind running (R79, R99). -/
def modeKeeps (m kind : Nat) : Bool := m == modeRelay || (m == modeHead && kind == 0) || (m == modeCluster && kind == 1)

/-- The active supervisor pair. -/
def State.activePair (s : State) : Nat := s.get Reg.PWR_MODE_STATUS_ACTIVE_PAIR

/-- Whether a supervisor pair is healthy. -/
def State.pairHealthy (s : State) (p : Nat) : Bool := !(bit (s.get Reg.PWR_FENCE_PAIR) p)

/-- The lowest healthy pair. -/
def State.lowestPair (s : State) : Option Nat := fourSlots.find? (fun p => s.pairHealthy p)

/-- Whether mode m powers and brings up lane i (R520). -/
def State.laneWantedIn (s : State) (m i : Nat) : Bool :=
  s.laneNamed i && !(s.laneFenced i) &&
    (m != modeCatcher || (s.laneMode i == 5 && bit (s.get Reg.TRP_CTRL_MIRROR_LANES) i) || (s.isEth i && s.inDomain i))

/-- The channels whose controller a mode powers: all in a mode that keeps every rank, one in BRIDGE. -/
def State.modeChannels (s : State) (m : Nat) : List Nat :=
  if m = modeBridge then (match s.floorRank with | none => [] | some p => [p / 2])
  else (List.range 8).filter (fun c => bit s.dram.populated (2 * c) || bit s.dram.populated (2 * c + 1))

/-- The power domains on for as long as mode m lasts (R77, R477), the units of slots left out. Domains the mode table does not
name (xSPI, the debug window, the Chute quadrants) stay on (DESIGN CHOICE, log entry 62). -/
def State.modePds (s : State) (m : Nat) : List Nat :=
  let pairs := if runsSlots m then fourSlots.filter s.pairHealthy else [s.activePair]
  let lanes := (List.range 16).filter (s.laneWantedIn m)
  (List.range 96).filter (fun p =>
    p == 0 || p == 1 || p == 82 || decide (90 ≤ p)
    || (decide (2 ≤ p ∧ p < 6) && pairs.contains (p - 2))
    || (p == 6 && (runsSlots m || m == modeService))
    || (p == 51 && m == modeCatcher && s.cmpHealthy 0)
    || ((p == 55 || p == 56) && runsSlots m)
    || (decide (57 ≤ p ∧ p < 73) && lanes.contains (p - 57))
    || (decide (73 ≤ p ∧ p < 81) && (s.modeChannels m).contains (p - 73))
    || (p == 81 && (runsSlots m || m == modeCatcher))
    || (p == 83 && (m == modeCluster || m == modeRelay || m == modeService))
    || (p == 84 && (m == modeCatcher || (runsSlots m && s.paired)))
    || (p == 85 && m != modeBridge)
    || (decide (86 ≤ p ∧ p < 90) && lanes.any (fun i => i / 4 == p - 86)))

/-- Every domain mode m needs, those of busy slots among them, fenced units' left out. -/
def State.neededPds (s : State) (m : Nat) : List Nat :=
  let slots := (fourSlots.filter (fun n => s.slotBusy n && modeKeeps m (s.slotKind n))).flatMap s.slotPds
  let base := s.modePds m
  (List.range 96).filter (fun p => base.contains p || slots.contains p)

/-- The domains that are on. -/
def State.onPds (s : State) : List Nat := (List.range 96).filter s.pdOn

/-- A quad PLL's domain is on while any lane of its quad is (R477). -/
def State.quadPds (s : State) : State :=
  ([0, 1, 2, 3] : List Nat).foldl (fun (t : State) q => t.setPd ((List.range 4).any (fun k => t.pdOn (57 + 4 * q + k))) (86 + q)) s

/-! ## Minimums (R95) -/

/-- Ethernet lanes enabled: a 400G group counts once, by its lowest lane. A fenced lane is not counted, and a group is judged by the
fence of its lowest lane (DESIGN CHOICE, log entry 108: R95 counts enabled lanes and names no fence). -/
def State.ethLanes (s : State) : Nat :=
  countWhere 16 (fun i => s.laneNamed i && !(s.laneFenced i) && s.isEth i && (s.laneMode i != 3 || i % 4 == 0))

/-- Aknis Link lanes of a MODE enabled. -/
def State.aknLanes (s : State) (mode : Nat) : Nat := countWhere 16 (fun i => s.laneNamed i && !(s.laneFenced i) && s.laneMode i == mode)

/-- Healthy Faces, compositors and slice engines. -/
def State.healthyFaces (s : State) : Nat := countWhere 16 s.faceHealthy
def State.healthyCmps (s : State) : Nat := countWhere 4 s.cmpHealthy
def State.healthyEngines (s : State) : Nat := countWhere 96 s.engineHealthy

/-- Whether every rank of the layout is in service. -/
def State.layoutWhole (s : State) : Bool :=
  s.dram.formed && (List.range (8 * s.get Reg.DMC_LAYOUT_NR)).all (fun q => (Table.find s.dram.serve q).isSome)

/-- Whether a mode's minimum is met. -/
def State.meets (s : State) (m : Nat) : Bool :=
  if m ≠ modeService ∧ !s.dram.formed then false else
  if m = modeHead then decide (1 ≤ s.healthyFaces ∧ 1 ≤ s.healthyCmps ∧ 2 ≤ s.healthyEngines ∧ 1 ≤ s.ethLanes)
  else if m = modeCluster then
    decide (1 ≤ s.healthyFaces ∧ 1 ≤ s.healthyCmps ∧ 2 ≤ s.healthyEngines ∧ 1 ≤ s.ethLanes ∧ 1 ≤ s.aknLanes 4)
  else if m = modeRelay then
    decide (1 ≤ s.healthyFaces ∧ 2 ≤ s.healthyCmps ∧ 4 ≤ s.healthyEngines ∧ 1 ≤ s.ethLanes ∧ 1 ≤ s.aknLanes 4)
  else if m = modeBridge then decide (2 ≤ s.ethLanes)
  else if m = modeCatcher then decide (2 ≤ s.aknLanes 5 ∧ 1 ≤ s.healthyCmps) && s.layoutWhole
  else true

/-! ## Units that lose their power -/

/-- Receivers keep nothing while ingest is gated (R477). -/
def State.ingestOff (s : State) : State :=
  { s with rx := s.rx.map (fun e => (e.1, { Rx.reset with last0 := e.2.last0, last1 := e.2.last1 })) }

/-- Lanes of scan-out show nothing while scan-out is gated: launches go, frames end. -/
def State.scanoutOff (s : State) : State :=
  (List.range 16).foldl (fun (t : State) i => (t.cancel (160 + i) QLaunch.shows).scnDrop i) s

/-- Gate power domains: what their units hold is lost (R477). -/
def State.gateOff (s : State) (off : List Nat) : State :=
  let s1 := if off.contains 55 then s.audioOff else s
  let s2 := if off.contains 6 then s1.jugglerReset else s1
  let s3 := if off.contains 81 then s2.ingestOff else s2
  let s4 := if off.contains 83 then s3.scanoutOff else s3
  let s5 : State := if off.contains 84 then { s4 with mirrorQ := [] } else s4
  let s6 := ([0, 1, 2, 3] : List Nat).foldl (fun (t : State) p => if off.contains (2 + p) then t.dropClaims p else t) s5
  s6.setPds false off

/-- Lanes that a mode does not name go down (R82, step 3). -/
def State.lanesOffFor (s : State) (m : Nat) : State :=
  ((List.range 16).filter (fun i => !(s.laneWantedIn m i) && s.laneState i != laneDown)).foldl (fun (t : State) i =>
    (t.laneTo i laneDown).endRetrain i 0x2C01) s

/-- Lanes on which a mode's bring-up begins (R82, step 6). -/
def State.lanesOnFor (s : State) : State := (List.range 16).foldl (fun (t : State) i => t.laneStart i) s

/-! ## Roles (R426) -/

/-- Move a register key to another bank. -/
def rebank (b k : Nat) : Nat := b * 2 ^ 50 + k % 2 ^ 50

/-- Whether a register key is that of an ingest counter, which only its clear control and a reset of its block clear (R16). -/
def isIngCounter (k : Nat) : Bool := (rxCounters 0 ++ [Reg.ING_LANE_UNMATCHED_CNT 0]).any (fun f => f.id % 1024 == k % 1024)

/-- Whether a register key is, as software wrote it, one that a Catcher holds live: the ING_ block's (R429), its counters left out,
and a Safety Net area. -/
def isLiveKey (k : Nat) : Bool :=
  keyBank k == 0 && ((blockOf (keyOff k) == blockOf (Reg.ING_RX_ENABLE 0).off && !(isIngCounter k))
    || fourSlots.any (fun n => fieldKey (Reg.SAF_SLOT_AREA_BASE n) == k))

/-- A Catcher keeps its own values in force (bank 7) and its own receivers' registers and Safety Net areas (bank 8) aside (R428,
R429). -/
def State.saveOwn (s : State) : State :=
  let kept := (s.regs.filter (fun e => decide (keyBank e.1 = 1) || isLiveKey e.1)).foldl
    (fun (t : Table Nat) e => Table.put t (rebank (if keyBank e.1 = 1 then 7 else 8) e.1) e.2) (s.regs.filter (fun e => !(isLiveKey e.1)))
  { s with regs := kept }

/-- It takes them back, and drops the held configuration (R79). -/
def State.restoreOwn (s : State) : State :=
  let rest := s.regs.filter (fun e => keyBank e.1 == 2 || (keyBank e.1 == 0 && !(isLiveKey e.1)))
  let back := (s.regs.filter (fun e => decide (7 ≤ keyBank e.1))).foldl
    (fun (t : Table Nat) e => Table.put t (rebank (if keyBank e.1 = 7 then 1 else 0) e.1) e.2) rest
  { s with regs := back }

/-- The Trapeze role and Catcher state follow from the mode. -/
def State.setRole (s : State) : State :=
  let role := if !s.paired then 0 else if runsSlots s.mode then 1 else if s.mode = modeCatcher then 2 else 0
  let s1 := if role = 2 ∧ s.get Reg.TRP_STATUS_ROLE ≠ 2 then s.saveOwn else s
  s1.setAll [(Reg.TRP_STATUS_ROLE, role), (Reg.TRP_STATUS_STATE, if role = 2 then 1 else 0)]

/-- The pairing ends: a Catcher that leaves CATCHER by request drops what it held (R79). -/
def State.endPairing (s : State) : State :=
  let s1 := fourSlots.foldl (fun (t : State) n => t.setSaf n { Saf.reset with lastSeq := (t.saf n).lastSeq }) s.restoreOwn
  ({ s1 with trp := { Trp.reset with hb := s.trp.hb, pet := s.trp.pet, testStatus := s.trp.testStatus,
                                               rotations := s.trp.rotations, turnNext := s.trp.turnNext } } : State).setAll
    [(Reg.TRP_CTRL_ENABLE, 0), (Reg.TRP_STATUS_PARTNER_SEEN, 0), (Reg.TRP_STATUS_PARTNER_READY, 0), (Reg.TRP_STATUS_FIT, 0),
     (Reg.TRP_PARTNER_PART, 0), (Reg.TRP_PARTNER_VERSION, 0)]

/-! ## Halting, and falling back to SERVICE (R98) -/

/-- Drive FAULT_N low. -/
def State.driveFault (s : State) : State :=
  if s.sys.faultPin then s else ({ s with sys := { s.sys with faultPin := true } } : State).emit (.pin .faultN false)

/-- The device is HALTED (R98): the Ledger's entry first, busy slots to FAULT, every domain but PD00 and PD01 gated. -/
def State.halt (s : State) (reason : Code) : State :=
  if s.halted then s
  else
    let s1 := s.logUnit originHw 0 reason blockPwr 0
    let s2 := fourSlots.foldl (fun (t : State) n => t.slotToFault n) s1
    let s3 := (List.range 16).foldl (fun (t : State) i => t.laneTo i laneDown) s2
    let s4 := (s3.gateOff ((List.range 96).filter (fun p => decide (2 ≤ p)))).driveFault
    ({ s4 with trans := none, mem := [], trp := { s4.trp with take := none, turn := none } } : State).setAll
      [(Reg.PWR_SERVICE_REASON, reason), (Reg.PWR_MODE_STATUS_PHASE, phaseHalted)]

/-- The mode in force changes: CUR_MODE and TARGET_MODE, the role, the count, PHASE STABLE. -/
def State.enterMode (s : State) (m : Nat) : State :=
  ((s.setAll [(Reg.PWR_MODE_STATUS_CUR_MODE, m), (Reg.PWR_MODE_STATUS_TARGET_MODE, m), (Reg.PWR_MODE_STATUS_PHASE, phaseStable)]).bump
    Reg.PWR_MODE_CHANGE_CNT).setRole

/-- The device no longer meets its mode's minimum: SERVICE with REASON 0x2301 (R98). -/
def State.dropToService (s : State) : State :=
  let s1 := (fourSlots.foldl (fun (t : State) n => t.slotToFault n) s).logUnit originHw 0 0x2301 blockPwr 0
  let from_ := s1.mode
  let s2 := (s1.set Reg.PWR_SERVICE_REASON 0x2301).enterMode modeService
  let need := s2.neededPds modeService
  let s3 := s2.gateOff (s2.onPds.filter (fun p => !(need.contains p)))
  let s4 := if from_ = modeBridge ∧ s3.dram.formed then s3.toFull else s3
  let s5 := if from_ = modeCatcher then s4.endPairing else s4
  (((({ s5 with trp := { s5.trp with turn := none } } : State).setPds true need).lanesOnFor).quadPds)

/-- After a fencing in a stable mode, the minimum is judged (R98). -/
def State.checkMinimum (s : State) : State :=
  if s.phase = phaseStable ∧ s.mode ≠ modeService ∧ !(s.meets s.mode) then s.dropToService else s

/-! ## Fencing (R96) -/

/-- A pair is lost: its claims are dropped; supervision moves from the active pair to the lowest healthy one, and without one
the device is HALTED (R98). -/
def State.pairLost (s : State) (p : Nat) : State :=
  let s1 := s.dropClaims p
  match s1.lowestPair with
  | none => s1.halt 0xF304
  | some q => if s1.activePair = p then (s1.set Reg.PWR_MODE_STATUS_ACTIVE_PAIR q).setPd true (2 + q) else s1

/-- What follows the fencing of a unit: a lane goes down, an engine's task faults, a pair hands over. -/
def State.afterFence (s : State) : UnitId → State
  | .lane i => (s.laneTo i laneDown).endRetrain i 0x1C03
  | .link i => (s.laneTo i laneDown).endRetrain i 0x1C03
  | .engine e => s.taskFault e
  | .pair p => s.pairLost p
  | _ => s

/-- Fence a unit (R96). Ringmaster, Barker and housekeeping are not fenced: their failure halts the device (R98). -/
def State.fence (s : State) (u : UnitId) : State :=
  match u with
  | .ringmaster => s.halt 0xF304
  | .barker => s.halt 0xF304
  | .housekeeping => s.halt 0xF304
  | v => if s.isFenced v then s else ((s.fenceCore v).afterFence v).checkMinimum

/-- Fence several units. -/
def State.fenceAll (s : State) : List UnitId → State
  | [] => s
  | u :: l => (s.fence u).fenceAll l

/-- A START whose units failed their self-test (R521): what follows each fencing is settled after the command. -/
def execSlotStart (src : SlotSrc) (n : Fin 4) (failed : List UnitId) (s : State) : Host.Outcome State Fault Refusal :=
  let s1 := s.slotCommand src n 1 failed
  .next ((failed.filter (fun u => s1.isFenced u && !(s.isFenced u))).foldl (fun (t : State) u => (t.afterFence u).checkMinimum) s1)

/-- LANE_CFG_WRITE (R308); a device that no longer meets its mode's minimum goes to SERVICE (R98). -/
def execLaneCfgWrite (w : Writer) (i : Fin 16) (value : BitVec 32) (s : State) : Host.Outcome State Fault Refusal :=
  .next (s.byWriter w (Reg.LANE_CFG_MODE i).off (fun s => (s.laneCfgWrite w i value.toNat).checkMinimum))

/-- Lanes that the mode in force names from now on begin bring-up, and lanes it names no more go down and are gated (R520). -/
def State.relane (s : State) : State :=
  (List.range 16).foldl (fun (t : State) i =>
    if t.laneWanted i then t.laneStart i else if t.laneState i ≠ laneDown then t.laneOff i 0x2C01 else t) s

/-- DOMAIN_ENABLE (R41, R75): in CATCHER the domain's lanes come up (R520). -/
def execDomainEnable (w : Writer) (d : Fin 2) (s : State) : Host.Outcome State Fault Refusal :=
  .next (s.byWriter w (Reg.TIM_DOM_ENABLE d).off (fun s =>
    ((s.domainEnable d).logReg w (Reg.TIM_DOM_ENABLE d).off 0 (s.get (Reg.TIM_DOM_ENABLE d)) 1).relane))

/-- DOMAIN_DISABLE (R516): in CATCHER lanes that only it named go down (R520). -/
def execDomainDisable (w : Writer) (d : Fin 2) (s : State) : Host.Outcome State Fault Refusal :=
  .next (s.byWriter w (Reg.TIM_DOM_ENABLE d).off (fun s =>
    let v := s.get (Reg.TIM_DOM_ENABLE d)
    if !s.domEnabled d then s.logReg w (Reg.TIM_DOM_ENABLE d).off 0 v 0
    else if s.disableRefused d then s.logReg w (Reg.TIM_DOM_ENABLE d).off 0x1201 v v
    else ((s.domainDisable d).logReg w (Reg.TIM_DOM_ENABLE d).off 0 v 0).relane))

def execUnitRuntimeFault (u : UnitId) (s : State) : Host.Outcome State Fault Refusal := .next (if s.halted then s else s.fence u)

/-- LOCKSTEP_COMPARE_FAIL (R96): the active pair is fenced. -/
def execLockstepCompareFail (s : State) : Host.Outcome State Fault Refusal :=
  .next (if h : s.activePair < 4 then (if s.halted then s else s.fence (.pair ⟨s.activePair, h⟩)) else s)

/-- WATCHDOG_EXPIRY (R402): a slice engine, link engine or audio DSP is stopped and fenced, and WDT_CNT counts. -/
def execWatchdogExpiry (u : UnitId) (s : State) : Host.Outcome State Fault Refusal :=
  .next (match u with
    | .engine _ => if s.isFenced u then s else (s.bump Reg.JUG_WDT_CNT).fence u
    | .link _ => if s.isFenced u then s else (s.bump Reg.JUG_WDT_CNT).fence u
    | .dsp _ => if s.isFenced u then s else (s.bump Reg.JUG_WDT_CNT).fence u
    | _ => s)

/-! ## Requests and step 1 (R79 to R82) -/

/-- The transitions that a request can make (R79). -/
def transitionAllowed (a b : Nat) : Bool :=
  (a == modeService && decide (1 ≤ b ∧ b ≤ 5))
  || ((a == modeHead || a == modeCluster) && (b == modeRelay || b == modeService))
  || (a == modeRelay && (b == modeHead || b == modeCluster || b == modeService))
  || ((a == modeBridge || a == modeCatcher) && b == modeService)

/-- Whether a transition drops a slot that runs: one in STARTING, RUNNING or STOPPING (DESIGN CHOICE, log entry 109: R85 says
"running"). -/
def State.dropsSlot (s : State) (m : Nat) : Bool := fourSlots.any (fun n => s.slotBusy n && !(modeKeeps m (s.slotKind n)))

/-- The first check that a mode request fails; 0 when it is accepted. -/
def State.modeCode (s : State) (m : Nat) (force : Bool) : Code :=
  if s.phase ≠ phaseStable then 0x1302
  else if !(transitionAllowed s.mode m) ∨ (m = modeCatcher ∧ !s.paired) then 0x1301
  else if s.dropsSlot m ∧ !force then 0x1304
  else if !(s.meets m) then 0x2301
  else if !s.allTrained then 0x1302
  else if s.fw.update.isSome then 0x2181
  else if s.mode = modeService ∧ !(testedTogether s.fw.images) then 0x9181
  else if s.mode = modeService ∧ s.fw.restBad then 0x9182
  else 0

/-- Memory lanes are disabled at the first step of a transition out of SERVICE (R287). -/
def State.memLanesOff (s : State) : State :=
  if s.mode = modeService then
    ((List.range 16).filter (fun i => s.get (bank 1 (Reg.SCN_LANE_ENABLE i)) == 1 && s.scnMem i)).foldl (fun (t : State) i => t.scnDisable i) s
  else s

/-- An accepted request: step 2 begins (R82), every slot the target does not keep stopping. -/
def State.modeStart (s : State) (m : Nat) : State :=
  let s1 := s.memLanesOff.setAll [(Reg.PWR_MODE_STATUS_TARGET_MODE, m), (Reg.PWR_MODE_STATUS_PHASE, phaseDraining)]
  let s2 : State := { s1 with trp := { s1.trp with turn := none },
                              trans := some { source := s.mode, target := m, tickets := [], off := [], lanes := [], waves := [],
                                              powered := [], back := false } }
  (fourSlots.filter (fun n => s.slotBusy n && !(modeKeeps m (s.slotKind n)))).foldl (fun (t : State) n => (t.slotStop n).1) s2

/-- A mode request is refused: it is counted and its status shown (R82, R86). -/
def State.modeRefuse (s : State) (c : Code) : State × Code :=
  ((s.bump Reg.PWR_REFUSED_CNT).set Reg.PWR_MODE_STATUS_LAST_STATUS c, c)

/-- A mode request (R79 to R82): refused, it is counted and nothing else changes. -/
def State.modeRequest (s : State) (m : Nat) (force : Bool) : State × Code :=
  let c := s.modeCode m force
  if c ≠ 0 then s.modeRefuse c else (s.modeStart m, 0)

/-- A mode request begins to check; the requests of one cycle are judged together as it ends (R80). -/
def State.ask (s : State) (a : ModeAsk) : State := { s with sys := { s.sys with asked := s.sys.asked ++ [a] } }

/-- Whether a request is supervisor firmware's. -/
def ModeAsk.byFirmware (a : ModeAsk) : Bool := match a.w with | .super _ => true | _ => false

/-- The answer to a request: its Ledger entry; a MODE descriptor completes at once when it is refused, else as the transition
ends. -/
def State.answerAsk (s : State) (a : ModeAsk) (c : Code) : State :=
  match a.ticket with
  | none => s.logReg a.w Reg.PWR_MODE_CTRL_TARGET.off c a.old a.new
  | some t =>
    let s1 := s.logDesc t.fn objDevice c a.old a.new
    if c ≠ 0 then s1.complete t c 0
    else { s1 with trans := s1.trans.map (fun x => { x with tickets := x.tickets ++ [t] }) }

/-- A request is refused with 0x1302. -/
def State.refuseAsk (s : State) (a : ModeAsk) : State := let r := s.modeRefuse 0x1302; r.1.answerAsk a r.2

/-- Every request of the cycle is refused with 0x1302. -/
def State.refuseAsked (s : State) : State :=
  s.sys.asked.foldl (fun (t : State) a => t.refuseAsk a) { s with sys := { s.sys with asked := [] } }

/-- The cycle ends: of its requests firmware's is taken before the host's, the first of them judged, and the others are refused with
0x1302 (R80, R93). -/
def State.judgeAsked (s : State) : State :=
  match s.sys.asked.filter (fun a => a.byFirmware) ++ s.sys.asked.filter (fun a => !(a.byFirmware)) with
  | [] => s
  | a :: l =>
    let s1 : State := { s with sys := { s.sys with asked := [] } }
    let r := s1.modeRequest a.target a.force
    l.foldl (fun (t : State) b => t.refuseAsk b) (r.1.answerAsk a r.2)

/-- MODE_REQUEST: a write of PWR_MODE_CTRL with REQ. A reserved TARGET is refused with 0x1301 at once, before PHASE is judged, and not
stored (DESIGN CHOICE, log entry 110: R76 and R81 do not order the two checks). A HALTED device ignores the write but for the refusal
of R81 (DEDUCED, log entry 111). -/
def State.modeWrite (s : State) (w : Writer) (m : Nat) (force req : Bool) : State :=
  let old := s.get Reg.PWR_MODE_CTRL_TARGET
  let a : ModeAsk := { w := w, target := m, force := force, ticket := none, old := old, new := b2n req * 2 ^ 31 + b2n force * 2 ^ 30 + m }
  if s.halted then (if req && viewOf w == 0 && w != .debug then s.ask a else s)
  else s.byWriter w Reg.PWR_MODE_CTRL_TARGET.off (fun s =>
    if 5 < m then
      (if req then (s.modeRefuse 0x1301).1 else s.set Reg.PWR_MODE_STATUS_LAST_STATUS 0x1301).logReg w Reg.PWR_MODE_CTRL_TARGET.off
        0x1301 old a.new
    else
      let s1 := s.set Reg.PWR_MODE_CTRL_TARGET m
      if req then s1.ask a else s1.logReg w Reg.PWR_MODE_CTRL_TARGET.off 0 old a.new)

def execModeRequest (w : Writer) (m : Fin 16) (force : Bool) (s : State) : Host.Outcome State Fault Refusal :=
  .next (s.modeWrite w m force true)

/-- MODE's checks (R80, R121). -/
def modeSpec : OpSpec :=
  { opcode := 3, admin := true, pfOnly := true, object := onDevice, form := fun d => d.zeroFrom 34 && decide (d.p 33 1 ≤ 1) }

/-- The action of MODE: it completes when the transition ends, or when it is refused. -/
def actMode (d : Desc) (t : Ticket) (s : State) : State :=
  s.ask { w := .host (Fin.ofNat 32 t.fn), target := d.p 32 1, force := bit (d.p 33 1) 0, ticket := some t, old := s.mode, new := d.p 32 1 }

def execMode (d : Desc) (s : State) : Host.Outcome State Fault Refusal := .next (s.runDesc modeSpec d actMode)

/-! ## Steps 3 to 6 -/

/-- MODE_DRAINED: step 3 gates and takes down, step 4 begins (R82); contents and maps of BRIDGE follow R380 and R394. -/
def State.modeDrained (s : State) : State :=
  match s.trans with
  | none => s
  | some x =>
    if s.phase ≠ phaseDraining ∨ s.dropsSlot x.target then s
    else
      let lanes := (List.range 16).filter (fun i => !(s.laneWantedIn x.target i) && s.laneState i != laneDown)
      let s1 := s.lanesOffFor x.target
      let need := s1.neededPds x.target
      let off := s1.onPds.filter (fun p => !(need.contains p))
      let s2 := s1.gateOff off
      let s3 := if x.target = modeBridge then s2.migrationDone.toFloor
        else if x.source = modeBridge ∧ s2.dram.formed then s2.toFull else s2
      let waves := need.filter (fun p => !(s3.pdOn p))
      ({ s3 with trans := some { x with off := off, lanes := lanes, waves := waves, powered := [] } } : State).set
        Reg.PWR_MODE_STATUS_PHASE (if waves.isEmpty then phaseLoading else phasePowering)

def execModeDrained (s : State) : Host.Outcome State Fault Refusal := .next s.modeDrained

/-- POWER_WAVE_DONE (R478): up to eight domains, ascending, are on; after the last wave, step 5. -/
def State.waveDone (s : State) : State :=
  match s.trans with
  | none => s
  | some x =>
    if s.phase ≠ phasePowering then s
    else
      let l := x.waves.take 8
      let s1 := s.setPds true l
      let s2 := if l.contains 6 then s1.jugglerReset else s1
      ({ s2 with trans := some { x with waves := x.waves.drop 8, powered := x.powered ++ l } } : State).set Reg.PWR_MODE_STATUS_PHASE
        (if (x.waves.drop 8).isEmpty then phaseLoading else phasePowering)

def execPowerWaveDone (s : State) : Host.Outcome State Fault Refusal := .next s.waveDone


/-- Staged copies found corrupt and loaded again (R463). -/
def State.stageReloads (s : State) : Nat → State
  | 0 => s
  | n + 1 => ((s.bump Reg.FW_STAGE_ERR_CNT).raise 0x7181 objDevice {}).stageReloads n

/-- End a transition in a mode with a status: LAST_STATUS, the Ledger, its descriptors. -/
def State.transEnd (s : State) (x : Trans) (c : Code) : State :=
  ((({ s with trans := none } : State).set Reg.PWR_MODE_STATUS_LAST_STATUS c).logUnit originHw 0 c blockPwr x.target).completeAll c x.tickets

/-- The mode is entered (R82, step 6). -/
def State.modeEntered (s : State) (x : Trans) (fenced : Bool) : State :=
  let s1 := (s.enterMode x.target).set Reg.PWR_SERVICE_REASON 0
  let s2 := if x.powered.contains 55 then s1.audioPowered else s1
  let s3 := if x.source = modeCatcher then s2.endPairing.setRole else s2
  ((s3.transEnd x (if fenced then 0x0301 else 0)).lanesOnFor).quadPds

/-- The device is back in its source mode (R84), the domains gated that the source does not power (R77). -/
def State.modeBack (s : State) (x : Trans) : State :=
  let need := s.neededPds s.mode
  let s0 := s.gateOff (s.onPds.filter (fun p => !(need.contains p)))
  let s1 := s0.setAll [(Reg.PWR_MODE_STATUS_TARGET_MODE, s.mode), (Reg.PWR_MODE_STATUS_PHASE, phaseStable)]
  let s2 := if x.powered.contains 55 then s1.audioPowered else s1
  (((s2.transEnd x 0x2301).lanesOnFor).quadPds).checkMinimum

/-- MODE_LOAD_DONE (R84): the units tested that failed are fenced; the mode is entered, or the device returns to its source. -/
def State.modeLoaded (s : State) (failed : List UnitId) (reloads : Nat) : State :=
  match s.trans with
  | none => s
  | some x =>
    if s.phase ≠ phaseLoading then s
    else
      let bad := failed.filter (fun u => (unitDomains u).any (fun p => x.powered.contains p) && !(s.isFenced u))
      let s1 := (s.stageReloads reloads).fenceAll bad
      if s1.halted then s1
      else if x.back then s1.modeBack x
      else if s1.meets x.target then s1.modeEntered x (!bad.isEmpty)
      else
        let need := s1.neededPds x.source
        let waves := need.filter (fun p => !(s1.pdOn p))
        let s2 := if x.target = modeBridge ∧ s1.dram.formed then s1.toFull else if x.source = modeBridge then s1.toFloor else s1
        let y := { x with waves := waves, powered := [], back := true }
        if waves.isEmpty then s2.modeBack y
        else ({ s2 with trans := some y } : State).set Reg.PWR_MODE_STATUS_PHASE phasePowering

def execModeLoadDone (failed : List UnitId) (reloads : Nat) (s : State) : Host.Outcome State Fault Refusal :=
  .next (s.modeLoaded failed reloads)

end Sys2Proof.Machine
end

