-- ==== Sys2Proof/Machine/DramFaults.lean ====
section
/-! DEFINITION. DRAM errors, rank faults, migration, scrub and refresh (chapter 15: R386 to R397). -/

namespace Sys2Proof.Machine

/-! ## Which rank serves an address -/

/-- The physical rank that serves a read of a device address (R377, R392): the floor rank under the floor map; under the full map
the rank of its position, below PTR of a migration the spare. -/
def State.rankOf (s : State) (a : Nat) : Option Nat :=
  if s.get Reg.DMC_LAYOUT_MAP = mapFloor then s.floorRank
  else
    let (q, loc) := s.fullMap a
    match Table.find s.dram.serve q with
    | none => none
    | some r =>
      if s.dram.mig.isSome ∧ s.get Reg.DMC_MIG_CTRL_SRC = r ∧ loc / 4096 < s.get Reg.DMC_MIG_PTR then some (s.get Reg.DMC_MIG_CTRL_DST)
      else some r

/-! ## A set leaves service (R395) -/

/-- Whether an area has a byte in set k. -/
def State.inSet (s : State) (k : Nat) (a : Area) : Bool :=
  decide (a.base < (k + 1) * s.setBytes ∧ k * s.setBytes < a.base + a.len)

/-- Disable whatever holds an area: a slot goes to FAULT, a receiver or an audio input is disabled. -/
def State.areaLost (s : State) (t : Nat) : State :=
  if t < 60 then
    let s1 := if s.pathInUse t 0 then s.pathOff t 0 else s
    let s2 := if s.pathInUse t 1 then s1.pathOff t 1 else s1
    ((s2.set (Reg.ING_RX_ENABLE t) 0).signalLost t false).setRcv t Rx.reset
  else if 0x4000 ≤ t then (s.inWrite (t - 0x4000) 0 (s.get (Reg.AUD_IN_SRATE (t - 0x4000))) (s.get (Reg.AUD_IN_ASRC_MODE (t - 0x4000)))).1
  else if 0x2000 ≤ t then s.slotToFault (t % 0x1000)
  else s.slotToFault (t % 0x1000 / 0x100)

/-- The Ledger's ring is in the set. -/
def State.ledgerInSet (s : State) (k : Nat) : Bool :=
  s.get Reg.LDG_RING_LOG2 != 0 && s.inSet k ⟨0, s.get Reg.LDG_RING_BASE * 4096, 32 * 2 ^ s.get Reg.LDG_RING_LOG2⟩

/-- Memory planes that a scan-out lane reads from set k. -/
def State.memInSet (s : State) (k i : Nat) : Bool :=
  s.get (bank 1 (Reg.SCN_LANE_ENABLE i)) == 1 && s.scnMem i &&
    s.inSet k ⟨0, s.scnGet Reg.SCN_LANE_MEM_BASE i * 4096, memBytes (s.scnGet Reg.SCN_LANE_MEM_SAMPLING i) (s.scnGet Reg.SCN_LANE_MEM_PLANAR i)
      (if s.scnGet Reg.SCN_LANE_MEM_DEPTH i = 0 then 1 else 2) (s.scnGet Reg.SCN_LANE_SRC_W i) (s.scnGet Reg.SCN_LANE_SRC_H i)⟩

/-- Set k leaves service; without a set the device is HALTED (R98, R395). -/
def State.setLeaves (s : State) (k : Nat) : State :=
  let tags := (s.areas.filter (s.inSet k)).map (fun a => a.tag)
  let s1 := tags.foldl (fun (t : State) a => t.areaLost a) s
  let s2 := ((List.range 16).filter (s1.memInSet k)).foldl (fun (t : State) i => t.scnDisable i) s1
  let s3 : State := if s2.ledgerInSet k then { s2 with ledger := { s2.ledger with dram := [], placed := 0 } } else s2
  let lo := k * s3.setBytes
  let hi := (k + 1) * s3.setBytes
  let s4 := (({ s3 with mem := s3.mem.filter (fun c => !(decide (lo ≤ c.1 ∧ c.1 < hi))),
                        dram := { s3.dram with poison := s3.dram.poison.filter (fun a => !(decide (lo ≤ a ∧ a < hi))), runs := runsWithout s3.dram.runs lo (hi - lo) } } : State).setAll
    [(Reg.DMC_STATUS_SETS, clearBit (s3.get Reg.DMC_STATUS_SETS) k), (Reg.DMC_SET_FILL_DONE k, 0), (Reg.DMC_SET_FILL_FILLED k, 0)]).showFill
  if s4.get Reg.DMC_STATUS_SETS = 0 then s4.halt 0xF304 else s4.checkMinimum

/-- An in-service rank is RETIRED with no spare to take its place (R391): 0x7F04, and its set leaves service. -/
def State.retireServing (s : State) (p : Nat) : State :=
  let s1 := s.retireRank p 0x7F04
  if s.get Reg.DMC_LAYOUT_MAP = mapFloor then (s1.raise 0x7F04 objDevice {}).setLeaves 0
  else match s.positionOf p with
    | none => s1.raise 0x7F04 objDevice {}
    | some q =>
      (({ s1 with dram := { s1.dram with serve := Table.del s1.dram.serve q } } : State).raise 0x7F04 objDevice {}).setLeaves (q / 8)

/-! ## Rank faults and migrations (R391 to R394) -/

/-- Whether a migration can start (R391). -/
def State.canMigrate (s : State) : Bool := s.spareRank.isSome && s.dram.mig.isNone && s.mode != modeBridge

/-- A migration starts from rank p to the spare (R392). -/
def State.migrate (s : State) (p : Nat) (failing : Bool) (tickets : List Ticket) : State :=
  match s.spareRank with
  | none => s
  | some d =>
    ({ s with dram := { s.dram with mig := some { failing := failing, tickets := tickets, acc := 0, since := s.lc } } } : State).setAll
      [(Reg.DMC_RANK_STATE_STATE p, rankMigrating), (Reg.DMC_RANK_STATE_STATE d, rankFilling), (Reg.DMC_MIG_CTRL_ACTIVE, 1),
       (Reg.DMC_STATUS_MIG_ACTIVE, 1), (Reg.DMC_MIG_CTRL_SRC, p), (Reg.DMC_MIG_CTRL_DST, d), (Reg.DMC_MIG_PTR, 0)]

/-- The spare fails while it is being filled: the migration is abandoned (R394). -/
def State.migrationFails (s : State) : State :=
  match s.dram.mig with
  | none => s
  | some m =>
    let src := s.get Reg.DMC_MIG_CTRL_SRC
    let s1 := ((({ s with dram := { s.dram with mig := none } } : State).retireRank (s.get Reg.DMC_MIG_CTRL_DST) 0x7F07).setAll
      [(Reg.DMC_MIG_CTRL_ACTIVE, 0), (Reg.DMC_STATUS_MIG_ACTIVE, 0), (Reg.DMC_RANK_STATE_STATE src, rankInService)]).raise 0x7F07 objDevice {}
    (if m.failing then s1.retireServing src else s1).completeAll 0x7F07 m.tickets

/-- A fault took the spare in this tick for a rank of higher index than p (R391). -/
def State.spareYields (s : State) (p : Nat) : Bool :=
  match s.dram.mig with
  | none => false
  | some m => m.tickets.isEmpty && m.since == s.lc && decide (p < s.get Reg.DMC_MIG_CTRL_SRC)

/-- The spare goes to a fault of the same tick on a rank of lower index; the other rank is handled as with no spare (R391). -/
def State.takeSpare (s : State) (p : Nat) (hard : Bool) : State :=
  match s.dram.mig with
  | none => s
  | some m =>
    let old := s.get Reg.DMC_MIG_CTRL_SRC
    let s1 := ({ s with dram := { s.dram with mig := some { m with failing := hard } } } : State).setAll
      [(Reg.DMC_RANK_STATE_STATE old, rankInService), (Reg.DMC_RANK_STATE_STATE p, rankMigrating), (Reg.DMC_MIG_CTRL_SRC, p)]
    let s2 := s1.raise 0x7F03 objDevice {}
    if m.failing then s2.retireServing old else s2

/-- A rank fault (R391); `hard` is CE_LIMIT or command retries, else an uncorrectable read alone. -/
def State.rankFault (s : State) (p : Nat) (hard : Bool) : State :=
  let st := s.rankState p
  if st = rankFilling then s.migrationFails
  else if st = rankInService then
    (if s.canMigrate then (s.migrate p hard []).raise 0x7F03 objDevice {}
     else if s.spareYields p then s.takeSpare p hard
     else if hard then s.retireServing p else s)
  else s

/-! ## Errors (R387, R388) -/

/-- Put a line among the poisoned ones, rising. -/
def insertLine (a : Nat) : List Nat → List Nat
  | [] => [a]
  | x :: l => if a < x then a :: x :: l else if a = x then x :: l else x :: insertLine a l

/-- The ticks of a rank's corrected errors in the last second, this one included. -/
def State.recentErrors (s : State) (p : Nat) : List Nat :=
  s.lc :: (Table.getD s.dram.corrected p []).filter (fun t => decide (s.lc < t + ticksPerSec))

/-- A corrected read: counted, reported, and at CE_LIMIT in a second a rank fault. -/
def State.correctedRead (s : State) (a : Nat) : State :=
  if !(s.inService a 1) then s
  else match s.rankOf a with
    | none => s
    | some p =>
      let l := s.recentErrors p
      let lim := s.get Reg.DMC_CE_LIMIT
      let s1 := (({ s with dram := { s.dram with corrected := Table.put s.dram.corrected p l } } : State).bump (Reg.DMC_RANK_CE_CNT p)).raiseLimited
        0x7F01 p objDevice { w16 := p }
      if 0 < lim ∧ lim ≤ l.length then
        ({ s1 with dram := { s1.dram with corrected := Table.del s1.dram.corrected p } } : State).rankFault p true
      else s1


/-- An uncorrectable read: the line is poisoned. -/
def State.uncorrectableRead (s : State) (a : Nat) : State :=
  if !(s.inService a 1) then s
  else match s.rankOf a with
    | none => s
    | some p =>
      (({ (s.bump (Reg.DMC_RANK_UE_CNT p)) with dram := { s.dram with poison := insertLine (a / 64 * 64) s.dram.poison } } : State).raise
        0x7F02 objDevice { w16 := a % 2 ^ 32, w20 := a / 2 ^ 32 }).rankFault p false

/-- What the ECC of a burst makes of errors in some of the twenty 4-bit lane groups of its beats (R386): errors within one group are
corrected, within two detected; beyond that the outcome is the command's own, `corrects`. -/
def State.eccRead (s : State) (a : Nat) (groups : List (Fin 20)) (corrects : Bool) : State :=
  match groups.eraseDups.length with
  | 0 => s
  | 1 => s.correctedRead a
  | 2 => s.uncorrectableRead a
  | _ => if corrects then s.correctedRead a else s.uncorrectableRead a

def execEccCorrectedRead (b : BadBurst) (s : State) : Host.Outcome State Fault Refusal :=
  .next (s.eccRead b.addr.toNat b.groups true)

def execEccUncorrectableRead (b : BadBurst) (s : State) : Host.Outcome State Fault Refusal :=
  .next (s.eccRead b.addr.toNat b.groups false)

/-- COMMAND_RETRY_FAIL: the fourth failed retry in a row is a rank fault (R391). -/
def execCommandRetryFail (p : Fin 16) (s : State) : Host.Outcome State Fault Refusal := .next (if s.halted then s else s.rankFault p true)

/-- PATROL_SCRUB: a pass over the spare ends; a spare in error is RETIRED with 0x7F06 (R390). -/
def execPatrolScrub (spareBad : Bool) (s : State) : Host.Outcome State Fault Refusal :=
  .next (match s.spareRank with
    | none => s
    | some p => if spareBad && !s.halted then (s.retireRank p 0x7F06).raise 0x7F06 objDevice { w16 := p } else s)

/-! ## DMC_MIGRATE and refresh -/

/-- DMC_MIGRATE's checks. -/
def migrateSpec : OpSpec := { opcode := 0x600, object := onDevice, form := fun d => d.zeroFrom 33 }

/-- The action of DMC_MIGRATE. -/
def actMigrate (d : Desc) (t : Ticket) (s : State) : State :=
  let p := d.p 32 1
  if p < 16 ∧ s.rankState p = rankInService ∧ s.canMigrate then (s.migrate p false [t]).logDesc t.fn d.obj 0 0 p
  else (s.logDesc t.fn d.obj 0x2F01 0 p).complete t 0x2F01 0

def execDmcMigrate (d : Desc) (s : State) : Host.Outcome State Fault Refusal := .next (s.runDesc migrateSpec d actMigrate)

/-- The multiplier code in force on a rank (R396): 0 for 1, 1 for 2, 2 for 4. -/
def State.bandMult (s : State) : Nat := bits (s.get Reg.DMC_REFRESH_MULT) (2 * s.get Reg.THM_STATUS_BAND + 1) (2 * s.get Reg.THM_STATUS_BAND)

/-- The neighbours of a selected row, or the one of them that exists (R397). -/
def neighbours (row : Nat) : List Nat := (if 0 < row then [row - 1] else []) ++ (if row + 1 < 65536 then [row + 1] else [])

/-- REFRESH: at a rank's refresh interval its multiplier follows the band and MR4; the rows selected since the last one (bank, row; the
channel's LFSR is not computed) have their neighbours refreshed, and NBR_CNT counts them (R396, R397). -/
def State.refresh (s : State) (p mr4 : Nat) (selected : List (Fin 32 × Fin 65536)) : State :=
  let m := max s.bandMult mr4
  let was := Table.getD s.dram.mult p 0
  let s1 : State := { s with dram := { s.dram with mult := Table.put s.dram.mult p m } }
  let s2 := s1.set Reg.DMC_REFRESH_MULT_MAX ((s1.dram.mult.map (fun e => e.2)).foldl max 0)
  let s3 := if s.get Reg.DMC_REFRESH_NBR_K = 0 then s2
    else (s2.count Reg.DMC_NBR_CNT selected.length).emitAll (selected.flatMap (fun e => (neighbours e.2).map (fun r => .neighbour p e.1 r)))
  if m = was then s3 else s3.raise 0xAF01 objDevice { w16 := p }

def execRefresh (p : Fin 16) (mr4 : Fin 3) (selected : List (Fin 32 × Fin 65536)) (s : State) : Host.Outcome State Fault Refusal :=
  .next (if s.halted || s.rankState p == rankAbsent then s else s.refresh p mr4 selected)

end Sys2Proof.Machine
end

