-- ==== Sys2Proof/Machine/Trapeze.lean ====
section
/-! DEFINITION. Trapeze (chapter 17): pairing and roles, HELLO, the MIRROR stream as the Flyer sends it, acknowledgements and
resyncs, the heartbeat, the self-test rotation and the health report. -/

namespace Sys2Proof.Machine

/-! ## States -/

/-- The states of a Catcher (R427). -/
def trpWait : Nat := 1
def trpSyncing : Nat := 2
def trpReady : Nat := 3
def trpUnfit : Nat := 4
def trpTaking : Nat := 5

/-- Role and Catcher state. -/
def State.trpRole (s : State) : Nat := s.get Reg.TRP_STATUS_ROLE
def State.trpState (s : State) : Nat := s.get Reg.TRP_STATUS_STATE

/-- Trapeze's block number (R512). -/
def blockTrp : Nat := 22

/-- The health report is updated: its time is now (R451). -/
def State.touch (s : State) : State := { s with trp := { s.trp with updated := (s.dtSec32, s.dtNsNow) } }

/-- A Catcher enters a state; entering READY raises 0x0171. -/
def State.toTrp (s : State) (st : Nat) : State :=
  if s.trpState = st then s
  else
    let s1 := (s.set Reg.TRP_STATUS_STATE st).touch
    if st = trpReady then s1.raise 0x0171 objDevice {} else s1

/-- Whether SEQ a is later than SEQ b (R432). -/
def later32 (a b : Nat) : Bool := decide (1 ≤ sub32 a b ∧ sub32 a b < 2 ^ 31)

/-- The ACTIVE MIRROR lanes of a paired device (R425, R426). -/
def State.mirrorLanes (s : State) : List Nat :=
  if s.paired then
    (List.range 16).filter (fun i => bit (s.get Reg.TRP_CTRL_MIRROR_LANES) i && s.laneMode i == 5 && s.laneState i == laneActive)
  else []

/-- Send a CTRL message to the partner on the lowest ACTIVE MIRROR lane (DESIGN CHOICE, log entry 65). -/
def State.sendPeer (s : State) (topic addr v : Nat) : State :=
  match s.mirrorLanes with
  | [] => s
  | i :: _ => s.sendCtrl i (.ctrl 0 topic 0 addr v [])

/-! ## Pairing (R424, R425) -/

/-- The fields of TRP_CTRL. -/
def trpCtrlFields : List Field :=
  [Reg.TRP_CTRL_ENABLE, Reg.TRP_CTRL_PIN_EN, Reg.TRP_CTRL_DESC_EN, Reg.TRP_CTRL_ACK_WAIT_US, Reg.TRP_CTRL_MIRROR_LANES]

/-- Whether a write of TRP_CTRL is refused. -/
def State.trpCtrlCode (s : State) (v : Nat) : Code :=
  let l := bitsOf 16 (bits v 15 0)
  if s.mode ≠ modeService then 0x1172
  else if (l.length = 2 ∨ l.length = 4) ∧ l.all (fun i => s.laneMode i == 5) ∧ bits v 23 16 ≤ 200 then 0 else 0x1171

/-- Packets wait no longer for the Catcher's acknowledgement of rows that a test names (slot, row order). -/
def State.uncover (s : State) (p : Nat → Nat → Bool) : State :=
  { s with egr := { s.egr with queues := s.egr.queues.map (fun e => (e.1, e.2.map (fun f =>
      match f.row, f.cover with
      | some (n, _, _), some o => if p n o then { f with cover := none } else f
      | _, _ => f))) } }

/-- The partner is no longer seen. -/
def State.dropPartner (s : State) : State :=
  (({ s with trp := { s.trp with partner := none } } : State).uncover (fun _ _ => true)).setAll
    [(Reg.TRP_STATUS_PARTNER_SEEN, 0), (Reg.TRP_STATUS_PARTNER_READY, 0), (Reg.TRP_PARTNER_PART, 0), (Reg.TRP_PARTNER_VERSION, 0),
     (Reg.SAF_CMP_AVAILABLE, 0)]

/-- TRP_CTRL_WRITE (R424, R425, R453). -/
def State.trpCtrlWrite (s : State) (w : Writer) (v : Nat) : State :=
  let off := Reg.TRP_CTRL_ENABLE.off
  s.byWriter w off (fun s =>
    let old := s.word trpCtrlFields
    let c := s.trpCtrlCode v
    let s1 := if c ≠ 0 then s
      else
        let t := s.setAll [(Reg.TRP_CTRL_ENABLE, bits v 31 31), (Reg.TRP_CTRL_PIN_EN, bits v 30 30), (Reg.TRP_CTRL_DESC_EN, bits v 29 29),
          (Reg.TRP_CTRL_ACK_WAIT_US, bits v 23 16), (Reg.TRP_CTRL_MIRROR_LANES, bits v 15 0)]
        (if bit v 31 then t else t.dropPartner).setRole
    (s1.set Reg.TRP_STATUS_LAST_STATUS c).logReg w off c old v)

def execTrpCtrlWrite (w : Writer) (value : BitVec 32) (s : State) : Host.Outcome State Fault Refusal := .next (s.trpCtrlWrite w value.toNat)

/-! ## HELLO (R426, R427) -/

/-- The digest of the enrolled key as the 32 bytes of SAF_KEY0 to SAF_KEY7. -/
def State.keyBytes (s : State) : List Byte := (List.range 8).flatMap (fun i => leBytes 4 (s.get (Reg.SAF_KEY i)))

/-- The data of a HELLO. -/
def State.helloData (s : State) : List Byte :=
  let sets := if s.trpRole = 1 then (match Table.find s.fw.images 1 with | some x => x.partners.take 8 | none => []) else []
  leBytes 2 0x4816 ++ leBytes 1 s.trpRole ++ leBytes 1 s.trpState ++ leBytes 8 (setId s.fw.images) ++ s.keyBytes
    ++ leBytes 4 (s.get Reg.TRP_SEQ) ++ List.replicate 16 0 ++ sets.flatMap (leBytes 8) ++ List.replicate (64 - 8 * sets.length) 0

def execHelloSend (s : State) : Host.Outcome State Fault Refusal :=
  .next (s.mirrorLanes.foldl (fun (t : State) i => t.sendCtrl i (.ctrl 0 0x10 0 0 0 s.helloData)) s)

/-- Slots that run on the Flyer, as the held configuration shows. -/
def State.heldRunning (s : State) : List Nat :=
  fourSlots.filter (fun n => s.get (bank 5 (Reg.ENC_BS_RUN_STATE n)) == slotRunning)

/-- Whether slots can be placed on the device's healthy units one after the other (R163, R236, R238). -/
def State.placesAll (s : State) : List Nat → Bool
  | [] => true
  | n :: l =>
    match s.placement n, s.freeCmp with
    | some f, some u => decide (s.engCount n ≤ s.freeEngines.length) && (s.allocate n f (s.freeEngines.take (s.engCount n)) u).placesAll l
    | _, _ => false

/-- Whether the Catcher's firmware set runs with the Flyer's (R459): it is the Flyer's own or one of its compatible sets; a PN2408's set
is looked up in this device's partner table. -/
def State.setsFitPartner (s : State) (h : Hello) : Bool :=
  if h.part.toNat = 0x4816 then h.set.toNat == setId s.fw.images || h.sets.any (fun x => x.toNat == setId s.fw.images)
  else match Table.find s.fw.images 1 with
    | some x => x.partners.contains h.set.toNat
    | none => false

/-- The conditions of R427 that fail against a Flyer's HELLO, as FIT bits; against a PN2408 only the firmware is judged (R452). -/
def State.unfitMask (s : State) (h : Hello) : Nat :=
  let servo := s.servo s.activeDom
  let firmware := !(s.setsFitPartner h)
  if h.part.toNat ≠ 0x4816 then b2n firmware
  else b2n firmware + 2 * b2n (leBytes 32 h.key.toNat != s.keyBytes) + 4 * b2n (!(s.placesAll s.heldRunning))
    + 8 * b2n (!s.layoutWhole) + 16 * b2n (!(s.domEnabled s.activeDom && (servo == servoLocked || servo == servoHoldover)))
    + 32 * b2n (s.get (bank 5 (Reg.HIF_PEN_OWNER_ASSIGNED 255)) == 1)

/-- A Catcher enters SYNCING: it awaits the message after the last one the Flyer sent (DEDUCED, log entry 64). -/
def State.toSyncing (s : State) (seq : Nat) : State :=
  ({ s with trp := { s.trp with got := (seq + 1) % 2 ^ 32, ahead := [], asked := [], ended := false } } : State).toTrp trpSyncing

/-- A Catcher that is found unfit. -/
def State.toUnfit (s : State) (m : Nat) : State :=
  if s.trpState = trpUnfit then s
  else
    let s1 := s.toTrp trpUnfit
    let s2 := if bit m 0 then s1.raise 0x9171 objDevice {} else s1
    if m / 2 ≠ 0 then s2.raise 0xB177 objDevice {} else s2

/-- A Catcher judges itself and its state at a HELLO (R427). -/
def State.judge (s : State) (h : Hello) : State :=
  let st := s.trpState
  if st = trpTaking then s
  else if h.role.toNat ≠ 1 then s.toTrp trpWait
  else
    let m := s.unfitMask h
    let s1 := ({ s with trp := { s.trp with fit := m } } : State).set Reg.TRP_STATUS_FIT (b2n (m == 0))
    if st = trpWait ∨ st = trpUnfit then (if m = 0 then s1.toSyncing h.seq.toNat else s1.toUnfit m)
    else if st = trpReady ∧ m ≠ 0 then s1.toUnfit m
    else s1

/-! ## The MIRROR stream as it is sent (R431 to R436) -/

/-- The newest messages that fit in the re-send store of 16 MiB (R436). -/
def keepSent : Nat → List (Nat × MirrorRec) → List (Nat × MirrorRec)
  | _, [] => []
  | room, e :: l => if e.2.bytes ≤ room then e :: keepSent (room - e.2.bytes) l else []

/-- The next MIRROR lane in turn that has credit for a message (R431). -/
def State.mirrorPick (s : State) (need : Nat) : Option Nat :=
  ((List.range 16).map (fun k => (s.trp.lane + k) % 16)).find? (fun i => s.mirrorLanes.contains i && decide (need ≤ (s.lane i).mirror))

/-- Send a message on a lane: its credit is used. -/
def State.sendMirror (s : State) (i seq : Nat) (r : MirrorRec) : State :=
  let s1 := (s.updLane i (fun x => { x with mirror := x.mirror - r.slots })).sendLink i (.mirror seq r)
  { s1 with trp := { s1.trp with lane := (i + 1) % 16 } }

/-- Send records of the backlog while lanes have credit, one record in a message (DESIGN CHOICE, log entry 66). -/
def State.mirrorDrain : Nat → State → State
  | 0, s => s
  | k + 1, s =>
    match s.mirrorQ with
    | [] => s
    | r :: l =>
      match s.mirrorPick r.slots with
      | none => s
      | some i =>
        let q := s.trp.next
        let s1 := (({ s with mirrorQ := l } : State).sendMirror i q r).set Reg.TRP_SEQ q
        let ends := match r with
          | .rowEnd n pic row _ => s1.trp.rowEnds ++ [(q, n, rowOrder pic row, s.lc)]
          | _ => s1.trp.rowEnds
        State.mirrorDrain k
          { s1 with trp := { s1.trp with next := (q + 1) % 2 ^ 32, sent := keepSent 16777216 ((q, r) :: s1.trp.sent), rowEnds := ends } }

/-! ### The snapshot of a resync (R436) -/

/-- The word that a bank holds at an offset: its RW fields. -/
def State.bankWord (s : State) (b off : Nat) : Nat :=
  s.word ((((Reg.fieldsAt 0 off).getD []).filter (fun f => f.acc == .rw)).map (bank b))

/-- The offsets at which a bank holds a mirrored value other than reset's, rising. -/
def State.bankOffsets (s : State) (b : Nat) : List Nat :=
  (((s.regs.filter (fun e => keyBank e.1 == b && keyFn e.1 == 0)).map (fun e => keyOff e.1)).eraseDups).filter
    (fun o => s.mirrored o && ((Reg.fieldsAt 0 o).getD []).any (fun f => f.acc == .rw))

/-- The CONFIG records of a bank. -/
def State.bankRecords (s : State) (b : Nat) : List MirrorRec := (s.bankOffsets b).map (fun o => .config o (s.bankWord b o))

/-- The CONFIG records that put a configuration into force, and those that start the slots that run. -/
def State.commitRecords (s : State) : List MirrorRec :=
  (fourSlots.filter s.configured).flatMap (fun n =>
    [.config (Reg.ENC_BS_RUN_CMD n).off (3 * 2 ^ 28), .config (Reg.CMP_SLOT_COMMIT_COMMIT n).off (2 ^ 31)])
  ++ ((List.range 16).filter (fun i => s.get (bank 1 (Reg.SCN_LANE_ENABLE i)) == 1)).map (fun i => .config (Reg.SCN_LANE_COMMIT_COMMIT i).off (2 ^ 31))
def State.startRecords (s : State) : List MirrorRec :=
  (fourSlots.filter (fun n => s.slotState n == slotStarting || s.slotState n == slotRunning)).map (fun n =>
    .config (Reg.ENC_BS_RUN_CMD n).off (2 ^ 28))

/-- SURF records of a range of DRAM. -/
def State.surfRecords (s : State) (a len : Nat) : List MirrorRec :=
  (cuts 4072 len 0 len).map (fun c => .surf (a + c.1) (Memory.readAll s.mem (a + c.1) c.2) (s.poisoned (a + c.1) c.2))

/-- SAF_PKG records of the package held in a part of a slot's area. -/
def State.pkgRecords (s : State) (n part : Nat) : List MirrorRec :=
  let a := s.safAddr n part
  let len := min safPart (pkgLen (Memory.readAll s.mem a 48))
  (cuts 4080 len 0 len).map (fun c => .safPkg n (Memory.readAll s.mem (a + c.1) c.2) (s.poisoned (a + c.1) c.2))

/-- The packages a slot holds. -/
def State.slotPkgs (s : State) (n : Nat) : List MirrorRec :=
  let x := s.saf n
  (match x.cur with | some c => s.pkgRecords n c.part | none => []) ++ (match x.pend with | some c => s.pkgRecords n c.part | none => [])
    ++ (if x.policy.held then s.pkgRecords n 2 else [])

/-- The CTU rows of a slot's pictures. -/
def State.pictureRows (s : State) (n : Nat) : Nat × Nat := if s.slotKind n = 0 then (0, s.encRows 1 n) else s.windowRows n

/-- The newest complete reference pictures of a slot, oldest first. -/
def State.refPics (s : State) (n : Nat) : List Nat :=
  let k := s.cfg Reg.ENC_BS_TOOLS_NUM_REF n
  if s.slotKind n = 0 then
    let p := match (s.slot n).pics.head? with | some q => q.n | none => (s.slot n).next
    ((List.range (min k (p - (s.slot n).first))).map (fun j => p - 1 - j)).reverse
  else ((((s.slot n).dec.pics.filter (fun q => q.decoded)).map (fun q => q.num)).reverse.take k).reverse

/-- The REF and ROW_END records of the reference pictures of the slots that run. -/
def State.refSnapshot (s : State) : List MirrorRec × Nat :=
  let rows := (fourSlots.filter (fun n => s.slotState n == slotStarting || s.slotState n == slotRunning)).flatMap (fun n =>
    (s.refPics n).flatMap (fun p => (List.range ((s.pictureRows n).2 - (s.pictureRows n).1)).map (fun k => (n, p, (s.pictureRows n).1 + k))))
  rows.foldl (fun a e =>
    let refs := 1 + Config.free a.2 % 4096
    (a.1 ++ refRecords (a.2 + 1) e.1 e.2.1 e.2.2 refs ++ [MirrorRec.rowEnd e.1 e.2.1 e.2.2 refs], a.2 + 1 + refs)) ([], s.free)

/-- Whether the partner speaks link version 3 (R452): a PN2408 does not. -/
def State.peerNew (s : State) : Bool := match s.trp.partner with | some p => p.part == 0x4816 | none => true

/-- The Flyer starts a resync (R436): the backlog is discarded and the snapshot sent; a PN2408 gets no packages (R452). -/
def State.startResync (s : State) : State :=
  if s.flying then
    let refs := s.refSnapshot
    let areas := (fourSlots.filter s.configured).flatMap (fun n => s.cmpAreas 1 n)
    (({ s with
        free := refs.2,
        mirrorQ := [MirrorRec.syncStart] ++ s.bankRecords 1 ++ s.commitRecords ++ s.bankRecords 0 ++ s.startRecords
          ++ areas.flatMap (fun a => s.surfRecords a.base a.len) ++ (if s.peerNew then fourSlots.flatMap s.slotPkgs else []) ++ refs.1
          ++ [.syncEnd] } : State).bump
      Reg.TRP_RESYNC_CNT).raise 0xB175 objDevice {}
  else s

/-- The bytes of the backlog. -/
def State.backlog (s : State) : Nat := sumNat (s.mirrorQ.map MirrorRec.bytes)

/-- A Catcher acknowledges the stream (R435). -/
def State.sendAck (s : State) : State :=
  let q := s.get Reg.TRP_SEQ
  let s1 := (s.sendPeer 0x11 0 q).set Reg.TRP_ACK q
  { s1 with trp := { s1.trp with ackAt := s.lc } }

/-- What Trapeze does in a tick: the Flyer sends, or resyncs when the backlog would exceed 112 MiB; the Catcher acknowledges every
10 µs while SEQ advances. -/
def State.trapezeTick (s : State) : State :=
  if s.flying then (if 112 * 1048576 < s.backlog then s.startResync else State.mirrorDrain 4 s)
  else if s.trpRole = 2 ∧ s.trpState ≠ trpTaking ∧ s.get Reg.TRP_SEQ ≠ s.get Reg.TRP_ACK ∧ s.trp.ackAt + 10 * ticksPerUs ≤ s.lc then s.sendAck
  else s

/-! ## What arrives -/

/-- HELLO_RX (R426, R427). -/
def State.helloRx (s : State) (i : Nat) (h : Hello) : State :=
  if s.mirrorLanes.contains i then
    let old := s.trp.partner
    let p : Partner := { part := h.part.toNat, role := h.role.toNat, state := h.state.toNat, set := h.set.toNat, key := h.key.toNat,
                         seq := h.seq.toNat, sets := h.sets.map (fun x => x.toNat) }
    let ready := p.role == 2 && p.state == trpReady
    let was := s.on Reg.TRP_STATUS_PARTNER_READY
    let flyer := s.trpRole == 1
    let s1 := ({ s with trp := { s.trp with partner := some p } } : State).setAll
      [(Reg.TRP_STATUS_PARTNER_SEEN, 1), (Reg.TRP_STATUS_PARTNER_READY, b2n (flyer && ready)), (Reg.TRP_PARTNER_PART, p.part),
       (Reg.TRP_PARTNER_VERSION, s.get (Reg.AKN_STATUS_VERSION i)), (Reg.SAF_CMP_AVAILABLE, b2n (p.part == 0x4816))]
    if flyer then
      let s2 := if p.role = 1 then s1.raiseLimited 0xB171 0 objDevice {} else s1
      let s3 := if ready && !was then s2.raise 0x0171 objDevice {} else if was && !ready then s2.uncover (fun _ _ => true) else s2
      let synced := match old with | some q => q.role == 2 && (q.state == trpSyncing || q.state == trpReady) | none => false
      if p.role = 2 ∧ p.state = trpSyncing ∧ !synced then s3.startResync else s3
    else if s.trpRole = 2 then s1.judge h
    else s1
  else s

def execHelloRx (i : Fin 16) (h : Hello) (s : State) : Host.Outcome State Fault Refusal := .next (s.helloRx i h)

/-- PARTNER_LOSS (R426, R427). -/
def State.partnerLoss (s : State) : State :=
  if s.trp.partner.isSome then
    let s1 := (s.dropPartner).raise 0xB176 objDevice {}
    if s.trpRole = 2 ∧ s.trpState ≠ trpTaking then s1.toTrp trpWait else s1
  else s

def execPartnerLoss (s : State) : Host.Outcome State Fault Refusal := .next s.partnerLoss

/-- Whether the device listens to the partner on a lane as a Flyer. -/
def State.fliesOn (s : State) (i : Nat) : Bool := s.mirrorLanes.contains i && s.trpRole == 1

/-- ACK_RX (R438): packets of every row whose ROW_END is covered wait no longer. -/
def State.ackRx (s : State) (i seq : Nat) : State :=
  if s.fliesOn i ∧ !(later32 (s.get Reg.TRP_ACK) seq) then
    let have' := s.trp.rowEnds.filter (fun e => !(later32 e.1 seq))
    let s1 := s.set Reg.TRP_ACK seq
    ({ s1 with trp := { s1.trp with rowEnds := s.trp.rowEnds.filter (fun e => later32 e.1 seq) } } : State).uncover
      (fun n o => have'.any (fun e => e.2.1 == n && e.2.2.1 == o))
  else s

def execAckRx (i : Fin 16) (seq : BitVec 32) (s : State) : Host.Outcome State Fault Refusal := .next (s.ackRx i seq.toNat)

/-- UNCOVERED_RELEASE (R438): packets of the row that would go but for the acknowledgement go without it. -/
def State.uncoveredRelease (s : State) (n pic row : Nat) : State :=
  let mine := s.egr.queues.flatMap (fun e => e.2.filterMap (fun f => match f.row, f.cover with
    | some (k, p, r), some _ => if k = n ∧ p % 2 ^ 32 = pic ∧ r = row ∧ f.eligible then some (rowOrder p r) else none
    | _, _ => none))
  match mine with
  | [] => s
  | o :: _ =>
    if s.gated then
      let s1 := (s.uncover (fun k x => k == n && x == o)).bump Reg.TRP_UNCOVERED_CNT
      if Table.find s.trp.uncovered n = some pic then s1
      else ({ s1 with trp := { s1.trp with uncovered := Table.put s1.trp.uncovered n pic } } : State).raise 0xB174 (objSlot n) {}
    else s

def execUncoveredRelease (n : Fin 4) (pic : BitVec 32) (row : Fin 64) (s : State) : Host.Outcome State Fault Refusal :=
  .next (s.uncoveredRelease n pic.toNat row)

/-- RESEND_REQUEST_RX (R435): a message still held is sent again with its SEQ, on a lane with credit. -/
def State.resendRx (s : State) (i seq : Nat) : State :=
  if s.fliesOn i then
    match s.trp.sent.find? (fun e => e.1 == seq) with
    | none => s
    | some e => match s.mirrorPick e.2.slots with
      | none => s
      | some j => (s.sendMirror j seq e.2).bump Reg.TRP_RESEND_CNT
  else s

def execResendRequestRx (i : Fin 16) (seq : BitVec 32) (s : State) : Host.Outcome State Fault Refusal := .next (s.resendRx i seq.toNat)

def execResyncRequestRx (i : Fin 16) (s : State) : Host.Outcome State Fault Refusal := .next (if s.fliesOn i then s.startResync else s)

/-- Show DIVERGED; a slot that comes to diverge raises 0x8712 (R206). -/
def State.setDiverged (s : State) (mask : Nat) : State :=
  let old := s.get Reg.SAF_CMP_DIVERGED
  (fourSlots.filter (fun n => bit mask n && !(bit old n))).foldl (fun (t : State) n => t.raise 0x8712 (objSafety n) {})
    (s.set Reg.SAF_CMP_DIVERGED mask)

def execDivergenceRx (i : Fin 16) (mask : BitVec 4) (s : State) : Host.Outcome State Fault Refusal :=
  .next (if s.fliesOn i then s.setDiverged mask.toNat else s)

/-! ## Heartbeat (R439) -/

def execHeartbeatToggle (s : State) : Host.Outcome State Fault Refusal :=
  .next (match s.trp.pet with
    | none => s
    | some k =>
      if s.paired ∧ !s.halted ∧ s.lc ≤ k + 2 * s.get Reg.TRP_HB_PERIOD_US * ticksPerUs then
        ({ s with trp := { s.trp with hb := !s.trp.hb } } : State).emit (.pin .trpHb (!s.trp.hb))
      else s)

/-- PET: only supervisor firmware's write counts. -/
def execPet (w : Writer) (s : State) : Host.Outcome State Fault Refusal :=
  .next (match w with
    | .super _ => if s.halted then s else { s with trp := { s.trp with pet := some s.lc } }
    | _ => s)

/-! ## The self-test rotation (R450, R78) -/

/-- The units of group g: the pairs other than the active one, Faces, engine drain groups, compositors. -/
def State.groupUnits (s : State) (g : Nat) : List UnitId :=
  if g < 3 then (((List.finRange 4).filter (fun p => p.val != s.activePair)).drop g |>.take 1).map .pair
  else if g < 19 then [.face (Fin.ofNat 16 (g - 3))]
  else if g < 27 then (List.finRange 12).map (fun k => .engine (Fin.ofNat 96 (12 * (g - 19) + k)))
  else [.cmp (Fin.ofNat 4 (g - 27))]

/-- Whether the mode in force marks a group Test (R77); a group of fenced units only is off. -/
def State.groupTested (s : State) (g : Nat) : Bool :=
  (s.mode == modeCatcher || s.mode == modeService || (s.mode == modeBridge && decide (g < 3)))
    && (s.groupUnits g).any (fun u => !(s.isFenced u))

/-- The domains of a group; C0's turn leaves its Safety Net path, PD51, out. -/
def State.groupPds (s : State) (g : Nat) : List Nat :=
  (((s.groupUnits g).filter (fun u => !(s.isFenced u))).flatMap unitDomains).filter (fun p => !(g == 27 && p == 51))

/-- TEST_TURN: the next group that the mode tests is powered. -/
def State.testTurn (s : State) : State :=
  if s.phase ≠ phaseStable ∨ s.trp.take.isSome ∨ s.trp.turn.isSome then s
  else match ((List.range 31).map (fun k => (s.trp.turnNext + k) % 31)).find? s.groupTested with
    | none => s
    | some g =>
      let s1 := ({ s with trp := { s.trp with turn := some g } } : State).set Reg.TRP_TEST_POS g
      (s1.setPds true (s1.groupPds g)).touch

def execTestTurn (s : State) : Host.Outcome State Fault Refusal := .next s.testTurn

/-- The code that fences a unit (R96). -/
def fenceCode : UnitId → Code
  | .pair _ => 0xF301
  | _ => 0xF302

/-- TEST_TURN_END: a group with a verdict; the units of it that failed are fenced and counted. -/
def State.testTurnEnd (s : State) (failed : List UnitId) : State :=
  match s.trp.turn with
  | none => s
  | some g =>
    let bad := (s.groupUnits g).filter (fun u => failed.contains u && !(s.isFenced u))
    let s1 := s.setPds false ((s.groupPds g).filter (fun p => !((s.neededPds s.mode).contains p)))
    let s2 : State := { s1 with trp := { s1.trp with
      turn := none, turnNext := (g + 1) % 31, testStatus := (bad.head?.map fenceCode).getD 0,
      rotations := if ((List.range (30 - g)).map (fun k => g + 1 + k)).any s.groupTested then s1.trp.rotations else s1.trp.rotations + 1 } }
    ((s2.count Reg.TRP_TEST_FAIL_CNT bad.length).fenceAll bad).touch

def execTestTurnEnd (failed : List UnitId) (s : State) : Host.Outcome State Fault Refusal := .next (s.testTurnEnd failed)

/-! ## The health report (R451) -/

/-- The age of the oldest unacknowledged ROW_END in µs. -/
def State.ackAge (s : State) : Nat :=
  match s.trp.rowEnds.head? with
  | some e => (s.lc - e.2.2.2) / ticksPerUs
  | none => 0

/-- The fenced units: Faces, pairs, compositors, and how many slice engines. -/
def State.fencedWord (s : State) : Nat :=
  s.get Reg.PWR_FENCE_FACE + 2 ^ 16 * s.get Reg.PWR_FENCE_PAIR + 2 ^ 20 * s.get Reg.PWR_FENCE_CMP + 2 ^ 24 * (96 - s.healthyEngines)

/-- The report's 64 bytes. -/
def State.healthReport (s : State) : List Byte :=
  leBytes 2 1 ++ leBytes 1 s.trpRole ++ leBytes 1 s.trpState ++ leBytes 4 s.trp.updated.1 ++ leBytes 4 s.trp.updated.2
    ++ leBytes 1 s.trp.fit ++ leBytes 1 (s.get Reg.TRP_TEST_POS) ++ leBytes 2 s.trp.testStatus ++ leBytes 4 s.trp.rotations
    ++ leBytes 4 s.ackAge ++ leBytes 4 (s.get Reg.TRP_SEQ) ++ leBytes 4 (s.get Reg.TRP_UNCOVERED_CNT) ++ leBytes 4 s.fencedWord
    ++ leBytes 2 (s.get Reg.TRP_PARTNER_PART) ++ leBytes 1 (s.get Reg.TRP_PARTNER_VERSION) ++ leBytes 1 (s.get Reg.SAF_CMP_DIVERGED)
    ++ leBytes 2 (s.get Reg.THM_TMAX) ++ List.replicate 22 0

/-- TRP_HEALTH_READ's checks. -/
def healthSpec : OpSpec := { opcode := 0x0900, object := onDevice, usesIndirect := true }

/-- TRP_HEALTH_READ: as much of the report as the buffer holds. -/
def actHealthRead (d : Desc) (t : Ticket) (s : State) : State :=
  (s.hostWrite t (d.p 32 8) (s.healthReport.take (d.p 40 4))).complete t 0 0

def execTrpHealthRead (d : Desc) (s : State) : Host.Outcome State Fault Refusal := .next (s.runDesc healthSpec d actHealthRead)

end Sys2Proof.Machine
end

