-- ==== Sys2Proof/Machine/MirrorIn.lean ====
section
/-! DEFINITION. The MIRROR stream as a Catcher receives it (chapter 17: R428 to R437, R447, R448; R206): SEQ order, and each
record type. -/

namespace Sys2Proof.Machine

/-- Whether the device takes MIRROR input: a Catcher whose take-over has not closed it (R442). -/
def State.catches (s : State) : Bool := s.trpRole == 2 && s.trp.take.isNone

/-! ## Order (R432, R435) -/

/-- The first SEQ from q on that has not been received. -/
def absorb (l : List Nat) : Nat → Nat → Nat
  | 0, q => q
  | k + 1, q => if l.contains q then absorb l k ((q + 1) % 2 ^ 32) else q

/-- MIRROR_DATA_RX: the message in turn moves the contiguous SEQ on; a later one has each missing SEQ asked for; malformed records
are counted. -/
def State.mirrorDataRx (s : State) (i seq malformed : Nat) : State :=
  if s.catches ∧ s.mirrorLanes.contains i then
    let s1 := if malformed = 0 then s else (s.count Reg.TRP_MALFORMED_CNT malformed).raiseLimited 0x4171 0 objDevice {}
    let x := s1.trp
    if seq = x.got then
      let q := absorb x.ahead x.ahead.length ((seq + 1) % 2 ^ 32)
      ({ s1 with trp := { x with got := q, ahead := x.ahead.filter (fun a => !(later32 q a)), asked := x.asked.filter (fun a => !(later32 q a)) } } : State).set
        Reg.TRP_SEQ ((q + 2 ^ 32 - 1) % 2 ^ 32)
    else if later32 seq x.got ∧ !(x.ahead.contains seq) then
      let miss := ((List.range (sub32 seq x.got)).map (fun k => (x.got + k) % 2 ^ 32)).filter (fun q => !(x.ahead.contains q) && !(x.asked.contains q))
      miss.foldl (fun (t : State) q => t.sendPeer 0x12 q 0)
        { s1 with trp := { x with ahead := seq :: x.ahead, asked := (x.asked ++ miss).filter (fun q => q != seq) } }
    else s1
  else s

def execMirrorDataRx (i : Fin 16) (seq : BitVec 32) (malformed : Nat) (s : State) : Host.Outcome State Fault Refusal :=
  .next (s.mirrorDataRx i seq.toNat malformed)

/-- RESEND_TIMEOUT: the Catcher requests a resync and gives the missing messages up. -/
def State.resendTimeout (s : State) (seq : Nat) : State :=
  if s.catches ∧ s.trp.asked.contains seq then
    let last := s.trp.ahead.foldl (fun a q => if later32 q a then q else a) s.trp.got
    ({ s with trp := { s.trp with got := (last + 1) % 2 ^ 32, ahead := [], asked := [] } } : State).sendPeer 0x14 0 0
  else s

def execResendTimeout (seq : BitVec 32) (s : State) : Host.Outcome State Fault Refusal := .next (s.resendTimeout seq.toNat)

/-! ## What descriptors have had their effect (R448) -/

/-- Mark the oldest descriptor of one of some opcodes whose effect has come. -/
def markFirst (p : HeldDesc → Bool) : List HeldDesc → List HeldDesc
  | [] => []
  | x :: l => if p x && !x.shown then { x with shown := true } :: l else x :: markFirst p l

/-- A record shows the effect of a descriptor. -/
def State.descShown (s : State) (p : HeldDesc → Bool) : State := { s with trp := { s.trp with descs := markFirst p s.trp.descs } }

/-! ## CONFIG (R428, R429) -/

/-- Write the RW fields of a word of the held configuration. -/
def State.heldWrite (s : State) (b off v : Nat) : State :=
  (((Reg.fieldsAt 0 off).getD []).filter (fun f => f.acc == .rw)).foldl (fun (t : State) f => t.set (bank b f) (bits v f.msb f.lsb)) s

/-- The paths in use of a receiver. -/
def State.rxPaths (s : State) (r : Nat) : List Nat :=
  if s.on (Reg.ING_RX_ENABLE r) then pathsOf (s.on (Reg.ING_RX_PATH1_EN r)) (s.on (Reg.ING_RX_PATH0_EN r)) else []

/-- Receivers follow a change of their registers: paths that are new join, paths that are gone leave. -/
def State.rxFollow (s before : State) : State :=
  (List.range 60).foldl (fun (t : State) r =>
    let was := before.rxPaths r
    let want := t.rxPaths r
    let t1 := (was.filter (fun p => !(want.contains p))).foldl (fun (u : State) p => u.pathOff r p) t
    let t2 := (want.filter (fun p => !(was.contains p))).foldl (fun (u : State) p => u.igmpJoin r p) t1
    let t3 := if was = want then t2 else t2.signalLost r (!want.isEmpty)
    if want = [] ∧ was ≠ [] then t3.setRcv r Rx.reset else t3) s

/-- Whether an offset is one that a Catcher holds live. -/
def liveOffset (off : Nat) : Bool :=
  blockOf off == blockOf (Reg.ING_RX_ENABLE 0).off || fourSlots.any (fun n => (Reg.SAF_SLOT_AREA_BASE n).off == off)

/-- Commands among the registers: a slot's CMD, a commit of a compositor, a lane, a meter, a route, a gate list. -/
def State.heldCommand (s : State) (off v : Nat) : State :=
  match fourSlots.find? (fun n => (Reg.ENC_BS_RUN_CMD n).off == off), fourSlots.find? (fun n => (Reg.CMP_SLOT_COMMIT_COMMIT n).off == off) with
  | some n, _ =>
    let cmd := bits v 31 28
    if cmd = 3 then
      let s1 := s.copyBank 5 1 (slotFields (s.get (bank 5 (Reg.ENC_BS_FORMAT_KIND n))) n)
      if s.get (bank 5 (Reg.ENC_BS_RUN_STATE n)) = slotIdle then s1.set (bank 5 (Reg.ENC_BS_RUN_STATE n)) slotStopped else s1
    else if cmd = 1 then s.set (bank 5 (Reg.ENC_BS_RUN_STATE n)) slotRunning
    else if cmd = 2 then s.set (bank 5 (Reg.ENC_BS_RUN_STATE n)) slotStopped
    else s
  | none, some n => if bit v 31 then s.copyBank 5 1 (cmpFields n) else s
  | none, none =>
    match (List.range 16).find? (fun i => (Reg.SCN_LANE_COMMIT_COMMIT i).off == off), (List.range 16).find? (fun i => (Reg.CAR_P_COMMIT_COMMIT i).off == off) with
    | some i, _ => if bit v 31 then s.copyBank 5 6 (scnFields i) else s
    | none, some i => if bit v 31 then s.set (bank 5 (Reg.CAR_P_PENDING i)) 1 else s
    | none, none =>
      match (List.range 128).find? (fun q => (Reg.TRN_Q_MODE q).off == off), (List.range 96).find? (fun c => (Reg.AUD_ROUTE_SRC c).off == off) with
      | some q, _ => s.copyBank 5 6 (meterFields q)
      | none, some c => s.copyBank 5 6 [Reg.AUD_ROUTE_SRC c, Reg.AUD_ROUTE_DELAY_SEL c, Reg.AUD_ROUTE_DELAY_US c]
      | none, none => s

/-- One change of the held configuration; receivers and Safety Net areas follow at once once the snapshot is whole. -/
def State.heldConfig (s : State) (off v : Nat) : State :=
  let s1 := (s.heldWrite 5 off v).heldCommand off v
  if liveOffset off && s.trp.ended then (s1.heldWrite 0 off v).rxFollow s1 else s1

def execConfigRecord (l : List (BitVec 32 × BitVec 32)) (s : State) : Host.Outcome State Fault Refusal :=
  .next (if s.catches then
    l.foldl (fun (t : State) e => (t.heldConfig e.1.toNat e.2.toNat).descShown (fun x => [0x0010, 0x0011, 0x0100].contains x.opcode)) s
    else s)

/-! ## Data -/

/-- Put lines of a range among the poisoned ones (R388). -/
def State.poisonRange (s : State) (a len : Nat) : State :=
  { s with dram := { s.dram with poison := (List.range (ceilDiv (a % 64 + len) 64)).foldl (fun l k => insertLine (64 * (a / 64 + k)) l) s.dram.poison } }

/-- Data at a device address; a record marked POISON leaves its lines poisoned (DEDUCED, log entry 67). -/
def State.mirrorStore (s : State) (a : Nat) (l : List Byte) (poison : Bool) : State :=
  if s.inService a l.length then (if poison then (s.deviceStore a l).poisonRange a l.length else s.deviceStore a l) else s

def execSurfRecord (addr : BitVec 39) (data : List Byte) (poison : Bool) (s : State) : Host.Outcome State Fault Refusal :=
  .next (if s.catches then
    (s.mirrorStore addr.toNat data poison).descShown (fun x => [0x0101, 0x0102, 0x0400].contains x.opcode)
    else s)

/-- One block of a REF record: its decompressed bytes, and its metadata as sent (R398, R433). -/
def State.refBlock (s : State) (a sectors : Nat) (l : List Byte) (poison : Bool) : State :=
  if s.inService a 512 then (s.mirrorStore a (l.take 512) poison).putRun a 512 (some sectors) else s

/-- REF_RECORD: the sectors of each 512 B block at its address. -/
def execRefRecord (_n : Fin 4) (_pic : BitVec 32) (addr : BitVec 39) (blocks : List (Fin 8 × List Byte)) (poison : Bool) (s : State) :
    Host.Outcome State Fault Refusal :=
  .next (if s.catches then
    blocks.zipIdx.foldl (fun (t : State) e => t.refBlock (addr.toNat / 512 * 512 + 512 * e.2) e.1.1 e.1.2 poison) s else s)

/-- The held row of a picture, made new when nothing of it has come. -/
def State.heldRow (s : State) (n pic row : Nat) : HeldRow :=
  (s.trp.rows.find? (fun x => x.slot == n && x.pic == pic && x.row == row)).getD { slot := n, pic := pic, row := row, slices := [], endSeq := none }

/-- The pictures of a slot that rows are held of, in the order they came. -/
def heldPics (n : Nat) (l : List HeldRow) : List Nat := ((l.filter (fun x => x.slot == n)).map (fun x => x.pic)).eraseDups

/-- Hold a row; rows of the slot's newest NUM_REF + 2 pictures stay. -/
def State.putHeldRow (s : State) (x : HeldRow) : State :=
  let l := if s.trp.rows.any (fun y => y.slot == x.slot && y.pic == x.pic && y.row == x.row) then
      s.trp.rows.map (fun y => if y.slot = x.slot ∧ y.pic = x.pic ∧ y.row = x.row then x else y)
    else s.trp.rows ++ [x]
  let pics := heldPics x.slot l
  let keep := pics.drop (pics.length - (s.cfg Reg.ENC_BS_TOOLS_NUM_REF x.slot + 2))
  { s with trp := { s.trp with rows := l.filter (fun y => y.slot != x.slot || keep.contains y.pic) } }

/-- Bytes of a unit of a row, added to what earlier records of it brought. -/
def addSlice (sp n : Nat) : List (Nat × Nat) → List (Nat × Nat)
  | [] => [(sp, n)]
  | e :: l => if e.1 = sp then (sp, e.2 + n) :: l else e :: addSlice sp n l

def execSliceRecord (n : Fin 4) (pic : BitVec 32) (row : Fin 64) (sp : BitVec 16) (bytes : BitVec 32) (s : State) : Host.Outcome State Fault Refusal :=
  .next (if s.catches then
    let x := s.heldRow n pic.toNat row
    s.putHeldRow { x with slices := addSlice sp.toNat bytes.toNat x.slices }
    else s)

/-! ## Readiness (R427) -/

/-- Whether a row is mirrored: its ROW_END and every earlier SEQ are in (R434). -/
def State.rowMirrored (s : State) (n pic row : Nat) : Bool :=
  match (s.heldRow n pic row).endSeq with
  | some q => later32 s.trp.got q
  | none => false

/-- The complete reference pictures of a slot. -/
def State.heldRefs (s : State) (n : Nat) : Nat :=
  let (lo, hi) := s.pictureRows n
  ((heldPics n s.trp.rows).filter (fun p => (List.range (hi - lo)).all (fun k => s.rowMirrored n p (lo + k)))).length

/-- SYNCING ends in READY. -/
def State.tryReady (s : State) : State :=
  if s.trpState = trpSyncing ∧ s.trp.ended ∧ s.heldRunning.all (fun n => decide (s.cfg Reg.ENC_BS_TOOLS_NUM_REF n ≤ s.heldRefs n)) then s.toTrp trpReady
  else s

def execRowEndRecord (n : Fin 4) (pic : BitVec 32) (row : Fin 64) (seq : BitVec 32) (_count : BitVec 32) (s : State) : Host.Outcome State Fault Refusal :=
  .next (if s.catches then
    ((s.putHeldRow { s.heldRow n pic.toNat row with endSeq := some seq.toNat }).sendAck).tryReady
    else s)

/-- SYNC_START: the held configuration is sent anew. -/
def execSyncStartRecord (s : State) : Host.Outcome State Fault Refusal :=
  .next (if s.catches then
    let s1 : State := { s with regs := s.regs.filter (fun e => !(keyBank e.1 == 5 || keyBank e.1 == 6)),
                               trp := { s.trp with ended := false, rows := [], ckpts := [] } }
    if s.trpState = trpReady then s1.toTrp trpSyncing else s1
    else s)

/-- Whether a key is of an RW field. -/
def keyRw (k : Nat) : Bool := ((Reg.fieldsAt 0 (keyOff k)).getD []).any (fun f => f.lsb == keyLsb k && f.acc == .rw)

/-- SYNC_END: the receivers and areas of the snapshot are in use. -/
def State.syncEnd (s : State) : State :=
  let rest := s.regs.filter (fun e => !(isLiveKey e.1 && keyRw e.1))
  let live := (s.regs.filter (fun e => keyBank e.1 == 5 && isLiveKey (rebank 0 e.1) && keyRw e.1)).foldl
    (fun (t : Table Nat) e => Table.put t (rebank 0 e.1) e.2) rest
  (({ s with regs := live, trp := { s.trp with ended := true } } : State).rxFollow s).tryReady

def execSyncEndRecord (s : State) : Host.Outcome State Fault Refusal := .next (if s.catches then s.syncEnd else s)

/-! ## CKPT and RING (R437, R447, R448) -/

def execCkptRecord (n : Fin 4) (pic : BitVec 32) (c : CkptIn) (s : State) : Host.Outcome State Fault Refusal :=
  .next (if s.catches then
    let idx := c.rings.foldl (fun t e => Table.put t e.1.val (e.2.1.toNat, e.2.2.toNat)) s.trp.ringPrev
    let left := s.trp.descs.filter (fun x => match Table.find idx x.rid with | some q => later32 x.cons q.2 | none => true)
    ({ s with trp := { s.trp with ckpts := Table.put s.trp.ckpts n.val (pic.toNat, c), ringPrev := idx, descs := left } } : State).descShown
      (fun x => x.opcode == 0x0010 && x.d.objIndex.toNat == n.val)
    else s)

/-- The function that owns a pen on the Flyer. -/
def State.heldPenOwner (s : State) (p : Nat) : Nat := s.get (bank 5 (Reg.HIF_PEN_OWNER_FUNCTION p))

/-- A ring that the Flyer creates or destroys is held. -/
def State.holdRing (s : State) (r opcode : Nat) (d : Desc) : Table Ring :=
  let id := d.objIndex.toNat
  if opcode = 1 ∧ createForm d ∧ (Table.find s.trp.rings id).isNone then
    let k := ringKind (d.p 40 1)
    let v := if k = .sub ∨ k = .bsIn ∨ d.p 44 2 = 0xFFFF then none else some (d.p 44 2)
    Table.put s.trp.rings id { newRing k (s.heldPenOwner (r / 64)) (d.p 32 8) (d.p 41 1) (d.p 42 2) v with
      modCount := d.p 46 2, modUs := d.p 48 2, mask := d.p 50 2, slot := d.p 52 1 }
  else if opcode = 2 then Table.del s.trp.rings id
  else s.trp.rings

/-- A record that a PN2408 partner has no business to send (R433, R452): ignored and counted. -/
def State.strayRecord (s : State) : State := (s.bump Reg.TRP_MALFORMED_CNT).raiseLimited 0x4171 0 objDevice {}

def execRingRecord (r : Fin 16384) (cons : BitVec 32) (opcode : BitVec 16) (d : Desc) (s : State) : Host.Outcome State Fault Refusal :=
  .next (if !s.catches then s else if !s.peerNew then s.strayRecord else
    let x : HeldDesc := { rid := r, cons := cons.toNat, opcode := opcode.toNat, d := d, shown := false }
    { s with trp := { s.trp with descs := s.trp.descs ++ [x], rings := s.holdRing r opcode.toNat d } })

/-! ## Safety Net (R206, R430) -/

def execSafPkgRecord (n : Fin 4) (data : List Byte) (s : State) : Host.Outcome State Fault Refusal :=
  .next (if !s.catches then s else if !s.peerNew then s.strayRecord else
    let c := s.pkgCode n data
    if c = 0 then (s.pkgHold n data).descShown (fun x => x.opcode == 0x0180 && x.d.objIndex.toNat == n.val)
    else (s.bump (Reg.SAF_SLOT_REFUSED_CNT n)).set (Reg.SAF_SLOT_STATE_LAST_STATUS n) c)

/-- The full number of a picture whose low 32 bits are given: the nearest to now on the slot's grid. -/
def State.fullPic (s : State) (n pic : Nat) : Nat :=
  let near := ((s.activeDt : Rat) / s.encPf 1 n).floor.toNat
  near / 2 ^ 32 * 2 ^ 32 + pic + (if near % 2 ^ 32 > pic + 2 ^ 31 then 2 ^ 32 else 0) - (if near % 2 ^ 32 + 2 ^ 31 < pic then 2 ^ 32 else 0)

/-- The presentation instant of a picture of the held configuration; of a decode slot, the one its own stream gives. -/
def State.heldPresent (s : State) (n pic : Nat) : Option Rat :=
  if s.slotKind n = 0 then some (s.presentOf n (s.fullPic n pic))
  else ((s.dec n).pics.find? (fun q => q.num % 2 ^ 32 == pic)).map (fun q => q.p)

/-- One line compared. -/
def State.compareLine (s : State) (n : Nat) (same : Bool) : State :=
  let x := s.saf n
  let mask := s.get Reg.SAF_CMP_DIVERGED
  if same then
    let s1 := s.setSaf n { x with miss := 0, hits := min 128 (x.hits + 1) }
    if x.hits + 1 = 128 ∧ bit mask n then (s1.setDiverged (clearBit mask n)).sendPeer 0x13 0 (clearBit mask n) else s1
  else
    let s1 := (s.setSaf n { x with miss := x.miss + 1, hits := 0 }).bump Reg.SAF_MISMATCH_CNT
    if x.policy.limit ≤ x.miss + 1 ∧ !(bit mask n) then ((s1.setDiverged (setBit mask n)).sendPeer 0x13 0 (setBit mask n)).touch else s1

/-- Note that the lines of a row are judged. -/
def State.noteLines (s : State) (n pic row : Nat) : State := { s with trp := { s.trp with lines := ((n, pic, row) :: s.trp.lines).take 1024 } }

/-- SAF_LINE_RECORD: the Catcher latches its own Safety Net for the picture at its first row (DEDUCED, log entry 68). -/
def State.safLines (s : State) (n : Nat) (x : SafLines) : State :=
  let pic := x.pic.toNat
  match s.heldPresent n pic with
  | none => s
  | some p =>
    let s1 := if s.trp.lines.any (fun e => e.1 == n && e.2.1 == pic) then s else s.safLatch n p
    let own := s1.saf n
    let s2 := if x.seq.toNat ≠ own.shownSeq % 2 ^ 32 ∨ x.state.toNat ≠ own.shownState then s1.count Reg.SAF_SKEW_CNT x.crcs.length
      else x.crcs.zipIdx.foldl (fun (t : State) e => t.compareLine n (e.1.toNat == s1.safLineCrc n (x.first.val + e.2))) s1
    s2.noteLines n pic (x.first.val / 128)

def execSafLineRecord (n : Fin 4) (x : SafLines) (s : State) : Host.Outcome State Fault Refusal :=
  .next (if !s.catches then s else if !s.peerNew then s.strayRecord else if s.on Reg.SAF_CMP_AVAILABLE then s.safLines n x else s)

def execSafLineMissingTimeout (n : Fin 4) (pic : BitVec 32) (row : Fin 64) (s : State) : Host.Outcome State Fault Refusal :=
  .next (if s.catches ∧ s.on Reg.SAF_CMP_AVAILABLE ∧ !(s.trp.lines.contains (n.val, pic.toNat, row.val)) then
    (s.count Reg.SAF_MISSING_CNT (min 128 ((s.canvas n).2 - 128 * row))).noteLines n pic.toNat row
    else s)

end Sys2Proof.Machine
end

