-- ==== Sys2Proof/Machine/TakeOver.lean ====
section
/-! DEFINITION. Take-over (chapter 17: R440 to R449): orders, the held configuration installed at T_r, the rows and pictures
that go on, the host rings that follow. -/

namespace Sys2Proof.Machine

/-! ## Orders (R440, R441) -/

/-- The take-over instant T: MIRROR input closes, a test turn is abandoned and its group gated (R442, step 1, R77); mode requests
still checking are refused with 0x1302 (R81). -/
def State.takeStart (s : State) (t : Option Ticket) (syncing : Bool) : State :=
  let x : Take := { start := s.lc, tickets := t.toList, syncing := syncing, ready := none, sent := 0, spoiled := 0 }
  let s0 := s.refuseAsked
  let turned := match s0.trp.turn with
    | none => s0
    | some g => s0.setPds false ((s0.groupPds g).filter (fun p => !((s0.neededPds s0.mode).contains p)))
  let s1 : State := { turned with trp := { turned.trp with take := some x, turn := none } }
  let s2 := (s1.setAll [(Reg.PWR_MODE_STATUS_PHASE, phaseTakeover), (Reg.TRP_TAKE_SEC, s.dtSec32), (Reg.TRP_TAKE_NS, s.dtNsNow),
    (Reg.TRP_STATUS_LAST_STATUS, 0)]).toTrp trpTaking
  if syncing then s2.raise 0xB173 objDevice {} else s2

/-- An order that is not carried out: its status, and its descriptor's completion. -/
def State.takeRefused (s : State) (t : Option Ticket) (c : Code) : State :=
  ((s.set Reg.TRP_STATUS_LAST_STATUS c).logUnit originHw 0 c blockTrp 0).completeAll c t.toList

/-- An order of take-over (R441). -/
def State.takeOrder (s : State) (t : Option Ticket) : State :=
  if s.mode ≠ modeCatcher then s.takeRefused t 0x2171
  else match s.trp.take with
    | some x => { s with trp := { s.trp with take := some { x with tickets := x.tickets ++ t.toList } } }
    | none =>
      if s.phase = phaseStable ∧ s.trpState = trpReady then (s.takeStart t false).logUnit originHw 0 0 blockTrp 0
      else if s.phase = phaseStable ∧ s.trpState = trpSyncing ∧ s.trp.ended then (s.takeStart t true).logUnit originHw 0 0 blockTrp 0
      else s.takeRefused t 0xB172

/-- TRP_TAKE_N orders a take-over while PIN_EN is 1. -/
def execTrpTakeN (s : State) : Host.Outcome State Fault Refusal :=
  .next (if s.halted ∨ !(s.on Reg.TRP_CTRL_PIN_EN) then s else s.takeOrder none)

/-- TRP_TAKEOVER's checks. -/
def takeSpec : OpSpec := { opcode := 0x0901, pfOnly := true, object := onDevice }

/-- TRP_TAKEOVER: without DESC_EN it is turned away (DESIGN CHOICE, log entry 69). -/
def actTakeover (_d : Desc) (t : Ticket) (s : State) : State :=
  if s.on Reg.TRP_CTRL_DESC_EN then s.takeOrder (some t) else s.takeRefused (some t) 0xB172

def execTrpTakeover (d : Desc) (s : State) : Host.Outcome State Fault Refusal := .next (s.runDesc takeSpec d actTakeover)

/-! ## Installing the held configuration (R442, step 4) -/

/-- Whether a register key is part of what the Flyer's configuration replaces: mirrored RW fields, pen 255's owner left out. -/
def State.replacedKey (s : State) (k : Nat) : Bool :=
  let off := keyOff k
  keyBank k == 0 && keyFn k == 0 && s.mirrored off && off != (Reg.HIF_PEN_OWNER_FUNCTION 255).off && keyRw k

/-- The held configuration becomes the device's own; a time domain is turned on or off as by a write. -/
def State.installHeld (s : State) : State :=
  let rest := s.regs.filter (fun e => decide (keyBank e.1 < 5) && !(s.replacedKey e.1))
  let held := (s.regs.filter (fun e => keyBank e.1 == 5 && s.replacedKey (rebank 0 e.1))).foldl
    (fun (t : Table Nat) e => Table.put t (rebank 0 e.1) e.2) rest
  let force := (s.regs.filter (fun e => keyBank e.1 == 6)).foldl (fun (t : Table Nat) e => Table.put t (rebank 1 e.1) e.2) held
  let s1 : State := { s with regs := force }
  ([0, 1] : List Nat).foldl (fun (t : State) d =>
    let was := s.domEnabled d
    let now := s1.domEnabled d
    if was = now then t
    else (if now then (t.set (Reg.TIM_DOM_ENABLE d) 0).domainEnable d else (t.set (Reg.TIM_DOM_ENABLE d) 1).domainDisable d)) s1

/-- The Flyer's mode. Nothing in the stream names it: a free choice among the modes that run its slots (DEDUCED, log entry 70). -/
def State.flyerMode (s : State) (running : List Nat) : Nat :=
  let ok := ([modeHead, modeCluster, modeRelay] : List Nat).filter (fun m => running.all (fun n => modeKeeps m (s.slotKind n)))
  ok.getD (Config.free s.free % ok.length) modeRelay

/-! ## Encode slots (R443) -/

/-- The slices held of a row, by subpicture column. -/
def State.heldSlices (s : State) (n pic row : Nat) : List (Nat × Nat) :=
  ((s.heldRow n (pic % 2 ^ 32) row).slices.filter (fun e => e.1 != 0xFFFF)).map (fun e =>
    (e.1 - row / s.cfg Reg.ENC_BS_SP_H n * s.encCols n, e.2))

/-- The rows of a picture at T_r: released by the Flyer before its last CKPT (`since`), mirrored, or to be spoiled. -/
def State.takenRows (s : State) (n : Nat) (p : EncPic) (since : Rat) : List EncRow :=
  let nr := p.rows.length
  let gone := fun k => decide (s.releaseAt n p.allow p.n k ≤ since)
  let whole := fun k => ((List.range (k + 1)).filter (fun j => !(gone j))).all (fun j => s.rowMirrored n (p.n % 2 ^ 32) j)
  (List.range nr).map (fun k =>
    let sl := s.heldSlices n p.n k
    let b := { EncRow.blank with composed := true, cap := some p.rc.sRow }
    if gone k then { b with slices := sl, doneAt := some s.lc, launched := true, released := true }
    else if whole k then { b with slices := sl, held := sl, doneAt := some s.lc }
    else { b with spoil := true })

/-- Enter a picture that goes on: mirrored rows are ready to go, the non-VCL units with row 0; the first spoiled row is raised. -/
def State.takePic (s : State) (n : Nat) (p0 : EncPic) (since : Rat) : State :=
  let rows := s.takenRows n p0 since
  if rows.all (fun r => r.released) then s
  else
    let first := rows.getD 0 EncRow.blank
    let p := { p0 with rows := rows, hdr := (s.streams n).map (s.streamHdr n), head := if first.released then some 0 else none }
    let s1 := s.updSlot n (fun x => { x with pics := x.pics ++ [p] })
    let s2 := if !first.released && !first.spoil then s1.sendHead n p else s1
    let sent := (rows.filter (fun r => !r.released && !r.spoil)).length
    let spoiled := (rows.filter (fun r => r.spoil)).length
    let s3 : State := { s2 with trp := { s2.trp with take := s2.trp.take.map (fun x => { x with sent := x.sent + sent, spoiled := x.spoiled + spoiled }) } }
    if spoiled = 0 then s3
    else (((s3.count (Reg.RC_BS_SPOIL_ROW_CNT n) spoiled).bump (Reg.RC_BS_SPOIL_PIC_CNT n)).raise 0x6901 (objSlot n)
      { w16 := rows.findIdx (fun r => r.spoil), w20 := p.n % 2 ^ 32 })

/-- The pictures at T_r whose c_0 has come, from the one before the last CKPT's. -/
def State.takePics (s : State) (n : Nat) (a : Allow) (upto : Nat) : State :=
  match Table.find s.trp.ckpts n with
  | none => s
  | some (pic, c) =>
    match c.rate with
    | .inr _ => s
    | .inl r =>
      let n0 := s.fullPic n pic
      let since := s.rowStartAt n a n0 c.row
      let s1 := (s.updSlot n (fun x => { x with
          bytesPrev := r.bytesPrev.map (fun b => (b : Rat)), qpPrev := r.qpPrev,
          slicePrev := (r.slicePrev.zipIdx.flatMap (fun e => e.1.zipIdx.map (fun f => (64 * e.2 + f.2, f.1)))) })).set (Reg.RC_BS_FULLNESS n)
        r.fullness.toNat
      let rc := s.rcOf 1 n
      (List.range (upto - (n0 - 1))).foldl (fun (t : State) j =>
        let k := n0 - 1 + j
        let p := t.planOf n k a rc
        t.takePic n (if k = n0 then { p with target := r.target.toNat, plan := r.plan, qp := r.qp, ps := r.ps } else p) since) s1

/-- An encode slot goes on at T_r; its place in the sweep and its RTP sequence numbers are free values. -/
def State.resumeEncode (s : State) (n : Nat) : State :=
  let a := s.allowOf 1 n
  let next := s.firstPic n a (s.activeDt : Rat)
  let len := max 1 (s.get (Reg.ENC_BS_SWEEP_LEN n))
  let first := next - Config.free s.free % len
  let seqs := (s.streams n).map (fun m => (m, Config.free (s.free + 2 + m) % 2 ^ 16))
  let s1 := ({ s with free := s.free + 64 } : State).setSlot n { Slot.reset with faces := (s.slot n).faces, next := next, first := first, allow := a, seqs := seqs }
  let s2 := s1.setAll [(Reg.ENC_BS_RUN_STATE n, slotRunning), (Reg.ENC_BS_FIRST_PIC n, first), (Reg.ENC_BS_PIC_CNT n, 0), (Reg.ENC_BS_SWEEP_CNT n, 0),
    (Reg.ENC_BS_FIRST_SWEEP n, Config.free (s.free + 1) % 2)]
  let s3 := (s2.takePics n a next).updSlot n (fun x => { x with catcher := true })
  (State.flushRows n [] ((s3.rowsOf n).map (fun e => (e.1.n, e.2.1))) s3).queueComposition n next

/-! ## Decode slots (R445) -/

/-- The rows of a picture at T_r: mirrored ones are decoded, others whose deadline has passed are concealed. -/
def State.takeDecRow (s : State) (n id k : Nat) : State :=
  match s.decPic n id with
  | none => s
  | some q =>
    if q.nextRow ≠ k then s
    else if s.rowMirrored n (q.num % 2 ^ 32) k then
      let done := (s.liveSps n q k).foldl (fun (p : DecPic) sp => p.putSlice { (p.slice k sp).getD (DecSlice.blank k sp) with done := true }) q
      s.setDecPic n { done with nextRow := k + 1 }
    else if s.past 1 (instant (s.deadline n q k)) then s.rowDeadline n q k
    else s

/-- JOINED, STREAM_UP, p and the concealed marks of a CKPT. -/
def State.takeMarks (s : State) (n pic : Nat) (r : CkptDec) : State :=
  let marks := ((s.windowSps n).zipIdx.filter (fun e => r.marks.getLsbD e.2)).foldl (fun (t : Table Mark) e => Table.put t e.1 ⟨pic, 0⟩) []
  ((s.updDec n (fun d => { d with lastP := some (r.lastP : Rat), marks := marks, lastAt := s.lc })).setAll
    [(Reg.DEC_BS_JOINED n, b2n r.joined), (Reg.DEC_BS_STREAM_UP n, b2n r.up)]).showMarks n

/-- A decode slot goes on at T_r from its last CKPT. -/
def State.resumeDecode (s : State) (n : Nat) : State :=
  let s1 := match Table.find s.trp.ckpts n with
    | some (pic, c) => (match c.rate with
      | .inr r => s.takeMarks n pic r
      | .inl _ => s)
    | none => s.setAll [(Reg.DEC_BS_JOINED n, 0), (Reg.DEC_BS_STREAM_UP n, 0)]
  let s2 := s1.set (Reg.ENC_BS_RUN_STATE n) slotRunning
  let (lo, hi) := s2.windowRows n
  ((s2.dec n).pics.map (fun q => q.id)).foldl (fun (t : State) id =>
    match t.decPic n id with
    | none => t
    | some q =>
      if !q.present ∨ q.p ≤ (t.activeDt : Rat) then t.retirePic n q
      else
        let t1 := (List.range (hi - lo)).foldl (fun (u : State) k => u.takeDecRow n id (lo + k)) t
        match t1.decPic n id with
        | none => t1
        | some y =>
          let t2 := if y.nextRow < hi then t1.enqueuePic n y else t1
          if lo < y.nextRow then (t2.expectNext n y).queueShow n y else t2) s2

/-- The launch words of a slot's last CKPT are queued (R442, step 4); one whose tick has passed is dropped. The slot's own words are
made again by its schedule, a TIMED descriptor's is queued with it (R448): what is left has a tag or is a generic event. -/
def State.resumeWords (s : State) (n : Nat) : State :=
  match Table.find s.trp.ckpts n with
  | none => s
  | some (_, c) => c.launches.foldl (fun (t : State) w =>
      let v := w.toNat
      if (lwKind v = 15 ∨ lwTag v ≠ 0) ∧ lwRef v ≠ 0 ∧ t.launchValid v ∧ !(t.past (lwRef v) (lwInstant v))
          ∧ (t.queue (lwUnit v)).length < queueDepth ∧ !(t.trp.descs.any (fun x => x.d.timed && x.d.launch == w)) then
        t.enqueue (lwUnit v) { kind := lwKind v, ref := lwRef v, tag := lwTag v, instant := lwInstant v, accepted := t.lc, act := .firmware }
      else t) s

/-! ## T_r (R442, step 5) -/

/-- A slot of the Flyer goes on: units are allocated to it; without room it goes to FAULT as if a unit of it failed (R97). -/
def State.resumeSlot (s : State) (syncing : Bool) (n : Nat) : State :=
  let s0 := s.set (Reg.ENC_BS_RUN_STATE n) slotStopped
  if syncing then
    let r := s0.slotStart n (s0.on (Reg.ENC_BS_RUN_FREERUN_OK n)) []
    if r.2 = 0 then r.1 else (s0.set (Reg.ENC_BS_RUN_STATE n) slotFault).raise 0xF303 (objSlot n) {}
  else
    match s0.placement n, s0.freeCmp with
    | some f, some u =>
      if s0.engCount n ≤ s0.freeEngines.length then
        let s1 := (s0.allocate n f (s0.freeEngines.take (s0.engCount n)) u).set (Reg.ENC_BS_RUN_STATE n) slotStarting
        (if s1.slotKind n = 0 then s1.resumeEncode n else s1.resumeDecode n).resumeWords n
      else (s0.set (Reg.ENC_BS_RUN_STATE n) slotFault).raise 0xF303 (objSlot n) {}
    | _, _ => (s0.set (Reg.ENC_BS_RUN_STATE n) slotFault).raise 0xF303 (objSlot n) {}

/-- Scan-out lanes of the held configuration wait for their chains; gate lists committed on the Flyer are committed here. -/
def State.resumePorts (s : State) (ports : List Nat) : State :=
  let s1 := ((List.range 16).filter (fun i => s.get (bank 1 (Reg.SCN_LANE_ENABLE i)) == 1)).foldl (fun (t : State) i =>
    (t.set (Reg.SCN_LANE_STATUS_STATE i) scnWait).startMem i) s
  ports.foldl (fun (t : State) i => t.carCommit i) s1

/-- READY_INSTANT: domains on, the held configuration installed, the Flyer's mode entered, its slots go on. -/
def State.readyInstant (s : State) : State :=
  match s.trp.take with
  | none => s
  | some x =>
    if x.ready.isSome ∨ s.halted then s
    else
      let running := s.heldRunning
      let states := fourSlots.map (fun n => (n, s.get (bank 5 (Reg.ENC_BS_RUN_STATE n))))
      let ports := (List.range 16).filter (fun i => s.get (bank 5 (Reg.CAR_P_PENDING i)) == 1)
      let m := s.flyerMode running
      let s1 := ({ s.installHeld with free := s.free + 1 } : State).enterMode m
      let s2 := states.foldl (fun (t : State) e => t.set (Reg.ENC_BS_RUN_STATE e.1) e.2) s1
      let s3 := ((fourSlots.filter s2.configured).foldl (fun (t : State) n => t.showCfg n) (s2.setPds true (s2.modePds m))).jugglerReset
      let s4 : State := { s3 with trp := { s3.trp with take := some { x with ready := some s.lc } } }
      let s5 := running.foldl (fun (t : State) n => t.resumeSlot x.syncing n) s4
      ((((((s5.resumePorts ports).set Reg.TRP_TAKE_US ((s.lc - x.start) / ticksPerUs)).audioPowered).lanesOnFor).quadPds).touch).checkMinimum

def execReadyInstant (s : State) : Host.Outcome State Fault Refusal := .next s.readyInstant

/-! ## Host rings (R447 to R449) -/

/-- The function of a held ring: of an admin ring, its pen's owner. -/
def State.ringFn (s : State) (r : Nat) : Nat :=
  match Table.find s.trp.rings r with
  | some x => x.fn
  | none => s.get (Reg.HIF_PEN_OWNER_FUNCTION (r / 64))

/-- The completion ring of a held submission ring: of an admin ring, the next one. -/
def State.ringPair (s : State) (r : Nat) : Nat :=
  match Table.find s.trp.rings r with
  | some x => x.pair
  | none => r + 1

/-- The functions of the Flyer that the records show. -/
def State.heldFns (s : State) : List Nat :=
  (s.trp.rings.map (fun e => e.2.fn) ++ s.trp.descs.map (fun x => s.ringFn x.rid) ++ s.trp.ringPrev.map (fun e => s.ringFn e.1)).eraseDups

/-- The last SUB consumer index known of a ring, and the CPL producer index of the last CKPT. -/
def State.heldIndex (s : State) (r : Nat) : Nat × Nat :=
  let i := (Table.find s.trp.ringPrev r).getD (0, 0)
  (((s.trp.descs.filter (fun x => x.rid == r)).getLast?.map (fun x => x.cons)).getD i.1, i.2)

/-- The submission rings whose records are held. -/
def State.heldSubs (s : State) : List Nat :=
  (s.trp.rings.filterMap (fun e => if e.2.kind = .sub ∨ e.2.kind = .bsIn then some e.1 else none)
    ++ s.trp.descs.map (fun x => x.rid) ++ s.trp.ringPrev.map (fun e => e.1)).eraseDups

/-- Place the indices of the rings: submission rings as last consumed, completion rings after the completions found. The consumer
index of a completion ring is taken as the last CKPT's producer index, the indices of event and bitstream output rings are
free (DESIGN CHOICE, log entry 71). -/
def State.placeRings (s : State) (done : List (Nat × Nat)) : State :=
  let s1 := s.trp.rings.foldl (fun (t : State) e =>
    let (q, u) := t.draw
    if e.2.kind = .evt ∨ e.2.kind = .bsOut then u.putRing e.1 { e.2 with prod := q % 2 ^ 32, cons := q % 2 ^ 32 }
    else t.putRing e.1 e.2) s
  s.heldSubs.foldl (fun (t : State) r =>
    let (c, p) := s.heldIndex r
    let k := s.ringPair r
    let found := (done.filter (fun e => e.1 == k)).length
    (t.updRing r (fun x => { x with cons := c, prod := c })).updRing k (fun x => { x with prod := (p + found) % 2 ^ 32, cons := p })) s1

/-- Settle one descriptor (R448): how many complete with 0x0401 and 0xB178 so far. -/
def State.settle (done : List (Nat × Nat)) (a : State × Nat × Nat) (x : HeldDesc) : State × Nat × Nat :=
  let s := a.1
  let k := s.ringPair x.rid
  let cookie := x.d.cookie.toNat
  if done.contains (k, cookie) then a
  else
    let f := s.ringFn x.rid
    let t : Ticket := { rid := x.rid, cpl := k, fn := f, epoch := (s.fn f).epoch, cookie := cookie, catcher := true }
    let s1 := (s.updRing x.rid (fun r => { r with inFlight := r.inFlight + 1 })).updRing k (fun r => { r with reserved := r.reserved + 1 })
    let w := x.d.launch.toNat
    if x.shown then (s1.complete t 0 0, a.2.1 + 1, a.2.2)
    else if x.d.timed && s.trp.ckpts.any (fun e => e.2.2.launches.contains x.d.launch) && s.launchValid w && !(s.past (lwRef w) (lwInstant w))
        && decide ((s.queue (lwUnit w)).length < queueDepth) then (s1.queueTimed x.opcode x.d t, a.2.1, a.2.2)
    else (s1.complete t 0xB178 0, a.2.1, a.2.2 + 1)

/-- TAKEOVER_COMPLETE: `found` are the completions of the Flyer found in host memory, as completion ring and cookie. -/
def State.takeoverComplete (s : State) (found : List (Nat × Nat)) : State :=
  match s.trp.take with
  | none => s
  | some x =>
    match x.ready with
    | none => s
    | some tr =>
      let fns := s.heldFns
      let s1 := fns.foldl (fun (t : State) f => let (q, u) := t.draw; u.openFn f (q % 3)) s
      let s2 : State := { s1 with trp := { s1.trp with beside := fns.contains 0 && (s.fn 0).pen == 255 } }
      let r := ((s.heldSubs.flatMap (fun q => s.trp.descs.filter (fun d => d.rid == q)))).foldl (State.settle found) (s2.placeRings found, 0, 0)
      let det : Detail := { w16 := (tr - x.start) / ticksPerUs, w20 := x.sent % 2 ^ 16 + 2 ^ 16 * (x.spoiled % 2 ^ 16),
                            w24 := r.2.1 % 2 ^ 16 + 2 ^ 16 * (r.2.2 % 2 ^ 16) }
      let t := r.1
      let t1 : State := { t with trp := { t.trp with
        take := none, next := t.trp.got, sent := [], rowEnds := [], ckpts := [], rows := [], descs := [], rings := [], ringPrev := [],
        lines := [], ahead := [], asked := [], ended := false } }
      let t2 := ((t1.pushEvts 0x0172 objDevice det (t1.evtRings (fun _ => true) 0x0172)).latchCode 0x0172).bump Reg.TRP_TAKEOVER_CNT
      (((t2.set Reg.TRP_STATUS_LAST_STATUS 0x0172).logUnit originHw 0 0x0172 blockTrp 0).completeAll 0x0172 x.tickets).touch

def execTakeoverComplete (done : List (Fin 16384 × BitVec 64)) (s : State) : Host.Outcome State Fault Refusal :=
  .next (s.takeoverComplete (done.map (fun e => (e.1.val, e.2.toNat))))

end Sys2Proof.Machine
end

