-- ==== Sys2Proof/Machine/Firmware.lean ====
section
/-! DEFINITION. Staging, live updates, flash and fuses, and the Ledger's reading and storing (chapter 18: R455, R463 to R472). -/

namespace Sys2Proof.Machine

/-! ## Ends of FW_ descriptors -/

/-- The block of the FW_ registers. -/
def blockFw : Nat := blockOf Reg.FW_UPDATE_ACTIVE.off

/-- Origin supervisor firmware (R469). -/
def originSuper : Nat := 2

/-- A FW_ descriptor completes: FW_UPDATE.LAST_STATUS holds its status. -/
def State.fwDone (s : State) (t : Ticket) (c : Code) (result : Nat) : State := (s.set Reg.FW_UPDATE_LAST_STATUS c).complete t c result

/-- Show which types have a pending image. -/
def State.showPending (s : State) : State :=
  s.set Reg.FW_UPDATE_PENDING (maskOf ((fwKinds.filter (fun k => (Table.find s.fw.pending k).isSome)).map (· - 1)))

/-! ## Staging (R464) -/

/-- FW_STAGE's checks. -/
def stageSpec : OpSpec := { opcode := 0x0A00, pfOnly := true, object := onDevice, usesIndirect := true, reads := true }

/-- FW_STAGE: a valid image is pending for its type. -/
def actFwStage (d : Desc) (t : Ticket) (s : State) : State :=
  let c := s.imgCode d.bytes
  let s1 := s.logHash t.fn d.obj c d.bytes
  if c ≠ 0 then s1.fwDone t c 0
  else
    let x := fwImage d.bytes
    ({ s1 with fw := { s1.fw with pending := Table.put s1.fw.pending x.kind x } } : State).showPending.fwDone t 0 x.version

def execFwStage (d : Desc) (s : State) : Host.Outcome State Fault Refusal := .next (s.runDesc stageSpec d actFwStage)

/-! ## Activation (R464 to R466) -/

/-- One step of an update is logged with origin supervisor firmware, and FW_UPDATE.STEP shows it (R464). -/
def State.fwStep (s : State) (step : Nat) : State :=
  (s.set Reg.FW_UPDATE_STEP step).logUnit originSuper s.activePair 0 blockFw step

/-- An image is in force: the set changes and 0x0181 says so (R457, R466). -/
def State.imageInForce (s : State) (k : Nat) (x : FwImage) : State :=
  ((({ s with fw := { s.fw with images := Table.put s.fw.images k x } } : State).showSet).raise 0x0181 objDevice {}).logUnit
    originSuper s.activePair 0x0181 blockFw k

/-- Engines that a slot holds. -/
def State.allocated (s : State) : List Nat :=
  (List.range 96).filter (fun e => fourSlots.any (fun n => (s.slotEngines n).contains e))

/-- An engine's roles go to another: in the AFFINITY of every task and in every slot's ENGMASK (R466, step 2). -/
def State.moveRole (s : State) (e f : Nat) : State :=
  let mask (n x : Nat) : Field := Reg.ENC_BS_ENGMASK_ENGINE n (x / 32)
  let s1 := fourSlots.foldl (fun (t : State) n =>
    if bit (t.get (mask n e)) (e % 32) then
      let t1 := t.set (mask n e) (clearBit (t.get (mask n e)) (e % 32))
      t1.set (mask n f) (setBit (t1.get (mask n f)) (f % 32))
    else t) s
  { s1 with tasks := Table.mapv s1.tasks (fun _ x => if bit x.affinity e then { x with affinity := setBit (clearBit x.affinity e) f } else x) }

/-- Steps 1 to 3 of R466 for group g: stand-ins are chosen and take the group's roles, and DRAIN bit g is set. While the group
is worked on, its engines and the stand-ins are not free (R238). -/
def State.beginGroup (s : State) (g : Nat) : State :=
  let held := s.allocated
  let chosen := ((List.range 96).filter (fun e => s.engineHealthy e && !(held.contains e) && drainGroup e != g)).take 12
  let own := (List.range 12).map (12 * g + ·)
  let s1 := ((held.filter (fun e => drainGroup e == g)).zip chosen).foldl (fun (t : State) p => t.moveRole p.1 p.2) s
  let s2 := ({ s1 with standIns := chosen ++ own } : State).setPds true ((7 + g) :: chosen.map (fun e => 7 + drainGroup e))
  (s2.setDrain (setBit (s2.get Reg.JUG_CTRL_DRAIN) g)).fwStep g

/-- The engine domains that no slot needs are gated again. -/
def State.trimEngines (s : State) : State :=
  let need := s.neededPds s.mode
  s.setPds false (((List.range 8).map (7 + ·)).filter (fun p => !(need.contains p)))

/-- An update ends: its image is in force (R466). -/
def State.updateEnd (s : State) (u : Update) : State :=
  let s1 : State := { s with fw := { s.fw with update := none }, standIns := [] }
  let s2 := (s1.imageInForce u.kind u.image).setAll [(Reg.FW_UPDATE_ACTIVE, 0), (Reg.FW_UPDATE_TYPE, 0), (Reg.FW_UPDATE_STEP, 0)]
  s2.fwDone u.ticket 0x0181 0

/-- The pairs to reload, in turn: a pair that does not supervise first, so that it takes supervision (R465). -/
def orderPairs (active : Nat) (l : List Nat) : List Nat :=
  match l.find? (fun p => p != active) with
  | none => l
  | some q => q :: l.filter (fun p => p != q)

/-- The units an update reloads one at a time, those since fenced left out. -/
def State.toReload (s : State) (kind : Nat) (l : List Nat) : List Nat :=
  if kind = 1 then (if l.contains s.activePair then orderPairs s.activePair (l.filter s.pairHealthy) else l.filter s.pairHealthy)
  else if kind = 3 then (List.finRange 16).filterMap (fun i => if l.contains i.val && !(s.isFenced (.link i)) then some i.val else none)
  else (List.finRange 8).filterMap (fun i => if l.contains i.val && !(s.isFenced (.dsp i)) then some i.val else none)

/-- The next unit of an update of the supervisor, link engine or audio DSP type begins, or the update ends. -/
def State.nextReload (s : State) (u : Update) (l : List Nat) : State :=
  match s.toReload u.kind l with
  | [] => s.updateEnd u
  | e :: rest => ({ s with fw := { s.fw with update := some { u with left := e :: rest } } } : State).fwStep e

/-- The next drain group of an update of the slice engine type begins, or the update ends. -/
def State.nextGroup (s : State) (u : Update) : List Nat → State
  | [] => (s.trimEngines).updateEnd u
  | g :: rest => ({ s with fw := { s.fw with update := some { u with left := g :: rest } } } : State).beginGroup g

/-- Whether the resources of a type's procedure are free (R465). -/
def State.updateRoom (s : State) (k : Nat) : Bool :=
  if k = 1 then decide (2 ≤ countWhere 4 s.pairHealthy)
  else if k = 2 then decide (12 ≤ s.freeEngines.length)
  else if k = 4 then decide (2 ≤ ((List.finRange 8).filter (fun i => !(s.isFenced (.dsp i)))).length)
  else true

/-- The first check that an activation fails (R464); 0 when it is accepted. -/
def State.activateCode (s : State) (k : Nat) : Code :=
  match Table.find s.fw.pending k with
  | none => 0x2181
  | some x =>
    if s.fw.update.isSome ∨ s.phase ≠ phaseStable then 0x2181
    else if !(testedTogether (Table.put s.fw.images k x)) then 0x9184
    else if !(x.covers k (versionIn s.fw.images k)) then 0x9184
    else if runsSlots s.mode ∧ !(s.updateRoom k) then 0x2181
    else 0

/-- FW_ACTIVATE's checks. -/
def activateSpec : OpSpec :=
  { opcode := 0x0A01, pfOnly := true, object := onDevice, form := fun d => d.zeroFrom 33 && decide (1 ≤ d.p 32 1 ∧ d.p 32 1 ≤ 4) }

/-- FW_ACTIVATE: in HEAD, CLUSTER and RELAY the type's procedure begins; in the other modes the image takes its place at once. -/
def actFwActivate (d : Desc) (t : Ticket) (s : State) : State :=
  let k := d.p 32 1
  let c := s.activateCode k
  match Table.find s.fw.pending k with
  | none => (s.logDesc t.fn d.obj c 0 0).fwDone t c 0
  | some x =>
    let s1 := s.logDesc t.fn d.obj c (versionIn s.fw.images k) x.version
    if c ≠ 0 then s1.fwDone t c 0
    else
      let s2 := ({ s1 with fw := { s1.fw with pending := Table.del s1.fw.pending k } } : State).showPending
      if !(runsSlots s.mode) then (s2.imageInForce k x).fwDone t 0x0181 0
      else
        let u : Update := { kind := k, image := x, ticket := t, left := [] }
        let s3 := s2.setAll [(Reg.FW_UPDATE_ACTIVE, 1), (Reg.FW_UPDATE_TYPE, k)]
        if k = 2 then s3.nextGroup u (List.range 8) else s3.nextReload u (List.range 16)

def execFwActivate (d : Desc) (s : State) : Host.Outcome State Fault Refusal := .next (s.runDesc activateSpec d actFwActivate)

/-- UPDATE_GROUP_DRAINED: steps 4 and 5 of R466; an engine of the group that fails its self-test is fenced. -/
def State.groupDrained (s : State) (failed : List (Fin 96)) : State :=
  match s.fw.update with
  | none => s
  | some u =>
    match u.left with
    | [] => s
    | g :: rest =>
      if u.kind ≠ 2 ∨ !(bit (s.get Reg.JUG_CTRL_DRAINED) g) then s
      else
        let s1 := s.fenceAll ((failed.filter (fun e => drainGroup e.val == g)).map UnitId.engine)
        (s1.setDrain (clearBit (s1.get Reg.JUG_CTRL_DRAIN) g)).nextGroup u rest

def execUpdateGroupDrained (failed : List (Fin 96)) (s : State) : Host.Outcome State Fault Refusal :=
  .next (if s.halted then s else s.groupDrained failed)

/-- The unit of a type and number. -/
def reloadUnit (kind e : Nat) : Option UnitId :=
  if kind = 1 then (if h : e < 4 then some (.pair ⟨e, h⟩) else none)
  else if kind = 3 then (if h : e < 16 then some (.link ⟨e, h⟩) else none)
  else if h : e < 8 then some (.dsp ⟨e, h⟩) else none

/-- ENGINE_RELOAD_DONE (R465): the unit runs the new image, or fails its self-test and is fenced. The first pair reloaded takes
supervision; a capability exchange that waited for its link engine begins. -/
def State.reloadDone (s : State) (ok : Bool) : State :=
  match s.fw.update with
  | none => s
  | some u =>
    match u.left with
    | [] => s
    | e :: rest =>
      if u.kind = 2 then s
      else
        let s1 := if ok then (if u.kind = 1 ∧ rest.contains s.activePair then s.set Reg.PWR_MODE_STATUS_ACTIVE_PAIR e else s)
          else match reloadUnit u.kind e with
            | none => s
            | some x => s.fence x
        let s2 := s1.nextReload u rest
        if u.kind = 3 ∧ ok ∧ s2.laneState e = laneCap ∧ s2.isAkn e then s2.enterCap e else s2

def execEngineReloadDone (ok : Bool) (s : State) : Host.Outcome State Fault Refusal := .next (if s.halted then s else s.reloadDone ok)

/-! ## Flash and fuses (R455, R467) -/

/-- FW_FLASH_WRITE's checks. -/
def flashSpec : OpSpec := { opcode := 0x0A02, pfOnly := true, object := onDevice, form := fun d => d.zeroFrom 44, reads := true }

/-- The first check a flash write fails; 0 when it begins. -/
def State.flashCode (s : State) (len : Nat) (l : List Byte) (present : Bool) : Code :=
  if s.fw.flash.isSome ∨ !present then 0x2182 else if 16777216 < len then 0x1181 else s.bundleCode l

/-- FW_FLASH_WRITE: a valid bundle is written to the bank not booted. -/
def actFlashWrite (present : Bool) (d : Desc) (t : Ticket) (s : State) : State :=
  let l := d.bytes.take (d.p 40 4)
  let c := s.flashCode (d.p 40 4) l present
  let s1 := s.logHash t.fn d.obj c l
  if c ≠ 0 then s1.fwDone t c 0 else { s1 with fw := { s1.fw with flash := some t } }

def execFwFlashWrite (d : Desc) (present : Bool) (s : State) : Host.Outcome State Fault Refusal :=
  .next (s.runDesc flashSpec d (actFlashWrite present))

/-- FLASH_WRITE_DONE: the bank verified, or did not. -/
def execFlashWriteDone (ok : Bool) (s : State) : Host.Outcome State Fault Refusal :=
  .next (match s.fw.flash with
    | none => s
    | some t =>
      let s1 := ({ s with fw := { s.fw with flash := none } } : State).logUnit originSuper s.activePair (if ok then 0x0182 else 0x2182) blockFw 0
      s1.fwDone t (if ok then 0x0182 else 0x2182) 0)

/-- Whether a type carries a rollback minimum. -/
def rollbackKind (k : Nat) : Bool := decide (1 ≤ k ∧ k ≤ 4) || k == 8

/-- FW_FUSE's checks; only the owner key is read. -/
def fuseSpec (d : Desc) : OpSpec :=
  { opcode := 0x0A03, pfOnly := true, object := onDevice,
    form := fun x => if x.p 32 1 = 1 then x.p 33 7 == 0 && x.zeroFrom 48
      else x.p 32 1 == 2 && rollbackKind (x.p 33 1) && x.zeroFrom 35,
    reads := d.p 32 1 == 1 }

/-- FW_FUSE: the owner key's digest is fused once; a ROLLBACK minimum only rises. -/
def actFwFuse (d : Desc) (t : Ticket) (s : State) : State :=
  if s.mode ≠ modeService then (s.logDesc t.fn d.obj 0x2181 0 0).fwDone t 0x2181 0
  else if d.p 32 1 = 1 then
    if s.fw.owner.isSome then (s.logDesc t.fn d.obj 0x1181 0 0).fwDone t 0x1181 0
    else
      let key := d.bytes.take 64
      let s1 := ({ s with fw := { s.fw with owner := some (Config.sha256 key) } } : State).set Reg.FW_OWNER_FUSED 1
      (s1.logHash t.fn d.obj 0 key).fwDone t 0 0
  else
    let f := rollbackField (d.p 33 1)
    let v := d.p 34 1
    if v < s.get f ∨ 63 < v then (s.logDesc t.fn d.obj 0x1181 (s.get f) v).fwDone t 0x1181 0
    else ((s.set f v).logDesc t.fn d.obj 0 (s.get f) v).fwDone t 0 0

def execFwFuse (d : Desc) (s : State) : Host.Outcome State Fault Refusal := .next (s.runDesc (fuseSpec d) d actFwFuse)

/-! ## The Ledger's storing and reading (R469 to R472) -/

/-- Four bytes, the most significant first. -/
def beBytes4 (v : Nat) : List Byte := (leBytes 4 v).reverse

/-- Bytes 0 to 27 of an entry. -/
def LedgerEntry.head (e : LedgerEntry) : List Byte :=
  leBytes 4 e.dtSec ++ leBytes 4 e.dtNs ++ leBytes 1 (e.origin + 16 * e.kind + 64 * b2n e.hash) ++ leBytes 1 e.originIndex ++ leBytes 2 e.code
  ++ leBytes 4 e.object ++ (if e.hash then beBytes4 e.old ++ beBytes4 e.new else leBytes 4 e.old ++ leBytes 4 e.new) ++ leBytes 4 e.seq

/-- The 32 bytes of an entry. -/
def LedgerEntry.bytes (e : LedgerEntry) : List Byte := e.head ++ leBytes 4 e.chain

/-- Whether a DRAM ring is set, and its entries. -/
def State.ledgerRing (s : State) : Nat := if s.get Reg.LDG_RING_LOG2 = 0 then 0 else 2 ^ s.get Reg.LDG_RING_LOG2

/-- An entry moves from the intake queue to the on-chip buffer, and takes its CHAIN; one that finds the buffer full is lost (R470). -/
def State.ledgerStore (s : State) : State :=
  match s.ledger.intake with
  | [] => s
  | e :: rest =>
    if ledgerBuffer ≤ s.ledger.buffer.length then ({ s with ledger := { s.ledger with intake := rest } } : State).ledgerLost
    else
      let c := crc32cInit s.ledger.chain e.head
      { s with ledger := { s.ledger with intake := rest, buffer := s.ledger.buffer ++ [{ e with chain := c }], chain := c } }

/-- The oldest entry of the on-chip buffer moves to the DRAM ring when one is set; the ring overwrites its oldest entry (R471). -/
def State.ledgerSpill (s : State) : State :=
  match s.ledger.buffer with
  | [] => s
  | e :: rest =>
    if s.ledgerRing = 0 then s
    else
      let kept := (s.ledger.dram ++ [e]).drop (s.ledger.dram.length + 1 - s.ledgerRing)
      let s1 : State := { s with ledger := { s.ledger with buffer := rest, dram := kept, placed := s.ledger.placed + 1 } }
      s1.store (s.get Reg.LDG_RING_BASE * 4096 + 32 * (s.ledger.placed % s.ledgerRing)) e.bytes

/-- What the Ledger does in a tick (R470): one entry is stored and one goes to the ring. -/
def State.ledgerTick (s : State) : State := s.ledgerStore.ledgerSpill

/-- LDG_READ's checks. Its parameter is read from the INDIRECT buffer (log entry 72). -/
def ldgReadSpec : OpSpec := { opcode := 0x0B00, pfOnly := true, object := onDevice, usesIndirect := true, reads := true }

/-- The entries held, in ascending SEQ. -/
def State.ledgerHeld (s : State) : List LedgerEntry := s.ledger.dram ++ s.ledger.buffer

/-- Whether an entry of the DRAM ring stands in a poisoned line (R388). -/
def State.ledgerPoisoned (s : State) (seq : Nat) : Bool :=
  s.ledger.dram.zipIdx.any (fun e => e.1.seq == seq &&
    s.poisoned (s.get Reg.LDG_RING_BASE * 4096 + 32 * ((s.ledger.placed - s.ledger.dram.length + e.2) % s.ledgerRing)) 32)

/-- LDG_READ (R472): entries from a SEQ, or from the oldest held. -/
def actLdgRead (d : Desc) (t : Ticket) (s : State) : State :=
  let seq := leAt d.bytes 0 4
  let l := (s.ledgerHeld.dropWhile (fun e => later32 seq e.seq)).take (d.p 40 4 / 32)
  match l with
  | [] => let r := s.draw; r.2.complete t 0 (r.1 % 2 ^ 32)
  | e :: _ => (s.hostWriteEp t (d.p 32 8) (l.flatMap LedgerEntry.bytes) (l.any (fun x => s.ledgerPoisoned x.seq))).complete t 0
      (e.seq + l.length * 2 ^ 32)

def execLdgRead (d : Desc) (s : State) : Host.Outcome State Fault Refusal := .next (s.runDesc ldgReadSpec d actLdgRead)

/-- Whether LDG_RING takes a value: no ring, or a ring in in-service DRAM (R471). -/
def State.ringValueOk (s : State) (v : Nat) : Bool :=
  let log2 := bits v 31 27
  log2 == 0 || (decide (10 ≤ log2 ∧ log2 ≤ 24) && s.inService (bits v 26 0 * 4096) (32 * 2 ^ log2))

/-- LDG_RING_WRITE: a valid ring is set and empty; another write is ignored with 0x1181. -/
def State.ledgerRingWrite (s : State) (w : Writer) (v : Nat) : State :=
  s.byWriter w Reg.LDG_RING_LOG2.off (fun s =>
    let old := s.word [Reg.LDG_RING_LOG2, Reg.LDG_RING_BASE]
    if s.ringValueOk v then
      let s1 := s.setAll [(Reg.LDG_RING_LOG2, bits v 31 27), (Reg.LDG_RING_BASE, bits v 26 0), (Reg.LDG_LAST_STATUS, 0)]
      ({ s1 with ledger := { s1.ledger with dram := [], placed := 0 } } : State).logReg w Reg.LDG_RING_LOG2.off 0 old v
    else (s.set Reg.LDG_LAST_STATUS 0x1181).logReg w Reg.LDG_RING_LOG2.off 0x1181 old v)

def execLdgRingWrite (w : Writer) (value : BitVec 32) (s : State) : Host.Outcome State Fault Refusal := .next (s.ledgerRingWrite w value.toNat)

end Sys2Proof.Machine
end

