-- ==== Sys2Proof/Machine/Thermal.lean ====
section
/-! DEFINITION. Housekeeping: temperatures, thresholds, bands, voltage windows and adaptive core voltage (chapter 19: R475, R476,
R480 to R490). -/

namespace Sys2Proof.Machine

/-- The block of the THM_ registers. -/
def blockThm : Nat := blockOf Reg.THM_TMAX.off

/-! ## Thresholds (R483, R484, R488) -/

/-- The fields of THM_THRESH, THM_CFG and THM_BANDS with the values a word gives them. -/
def thmFields (i v : Nat) : List (Field × Nat) :=
  if i = 0 then [(Reg.THM_THRESH_SHUTDOWN_C, bits v 31 24), (Reg.THM_THRESH_THROTTLE_C, bits v 23 16), (Reg.THM_THRESH_WARN_C, bits v 15 8),
    (Reg.THM_THRESH_STEP_C, bits v 7 4), (Reg.THM_THRESH_HYST_C, bits v 3 0)]
  else if i = 1 then [(Reg.THM_CFG_DWELL, bits v 31 28), (Reg.THM_CFG_SENSOR_MASK, bits v 23 0)]
  else [(Reg.THM_BANDS_EDGE3, bits v 23 16), (Reg.THM_BANDS_EDGE2, bits v 15 8), (Reg.THM_BANDS_EDGE1, bits v 7 0)]

/-- The value of a threshold in °C: 0 the warning, 1 to 5 the throttle levels, 6 the shutdown, 7 to 9 the band edges. -/
def State.threshold (s : State) (j : Nat) : Int :=
  if j = 0 then s.get Reg.THM_THRESH_WARN_C
  else if j < 6 then ((s.get Reg.THM_THRESH_THROTTLE_C + (j - 1) * s.get Reg.THM_THRESH_STEP_C : Nat) : Int)
  else if j = 6 then s.get Reg.THM_THRESH_SHUTDOWN_C
  else if j = 7 then signed 8 (s.get Reg.THM_BANDS_EDGE1)
  else if j = 8 then signed 8 (s.get Reg.THM_BANDS_EDGE2)
  else signed 8 (s.get Reg.THM_BANDS_EDGE3)

/-- A threshold's counts and state. -/
def State.level (s : State) (j : Nat) : Threshold := Table.getD s.thm.levels j ⟨0, 0, false⟩

/-- One round of a threshold at `θ` with hysteresis `h` and dwell `n` (R483); temperatures in 0.1 °C. -/
def Threshold.judge (x : Threshold) (θ h : Int) (n : Nat) (tmax : Int) : Threshold :=
  let above := if θ ≤ tmax then min (x.above + 1) 15 else 0
  let below := if tmax < θ - h then min (x.below + 1) 15 else 0
  { above := above, below := below, on := if x.on then decide (below < n) else decide (n ≤ above) }

/-- Judge every threshold on Tmax; the shutdown is never released (R484). -/
def State.judgeLevels (s : State) (tmax : Int) : State :=
  let h : Int := 10 * (s.get Reg.THM_THRESH_HYST_C : Int)
  let n := s.get Reg.THM_CFG_DWELL
  (List.range 10).foldl (fun (t : State) j =>
    let x := (t.level j).judge (10 * t.threshold j) h n tmax
    let y := if j = 6 ∧ (t.level 6).on then { x with on := true } else x
    { t with thm := { t.thm with levels := Table.put t.thm.levels j y } }) s

/-- The highest asserted of some thresholds, counted from `base`; 0 when none is. -/
def State.highest (s : State) (base n : Nat) : Nat :=
  ((List.range n).filter (fun i => (s.level (base + i)).on)).foldl (fun a i => max a (i + 1)) 0

/-- THERMTRIP_N low, TRIP set, and the device HALTED with REASON and event 0xA193 (R486, R487). -/
def State.thermTrip (s : State) : State :=
  let s1 := s.set Reg.THM_STATUS_TRIP 1
  let s2 : State := if s1.sys.thermPin then s1 else (({ s1 with sys := { s1.sys with thermPin := true } } : State).emit (.pin .thermtripN false))
  if s2.halted then s2 else (s2.raise 0xA193 objDevice {}).halt 0xA193

/-- Shutdown (R486). -/
def State.actShutdown (s : State) (was : Bool) : State := if (s.level 6).on ∧ !was then s.thermTrip else s

/-- THERM_STEP follows the highest asserted throttle level (R485). -/
def State.actThrottle (s : State) : State :=
  let step := s.highest 1 5
  let old := s.get Reg.ENC_CTRL_THERM_STEP
  if step = old then s
  else
    let s1 := s.setAll [(Reg.ENC_CTRL_THERM_STEP, step), (Reg.THM_STATUS_LEVEL, step)]
    let s2 := if old = 0 then (s1.bump Reg.THM_THROTTLE_CNT).raise 0xA192 objDevice {}
      else if step = 0 then s1.raise 0x0191 objDevice {} else s1
    s2.settleEffort

/-- The warning (R484). -/
def State.actWarning (s : State) : State :=
  let on := (s.level 0).on
  if b2n on = s.get Reg.THM_STATUS_WARN then s
  else
    let s1 := s.set Reg.THM_STATUS_WARN (b2n on)
    if on then (s1.bump Reg.THM_WARN_CNT).raise 0xA191 objDevice {} else s1.raise 0x0192 objDevice {}

/-- The band (R488). -/
def State.actBand (s : State) : State :=
  let b := s.highest 7 3
  if b = s.get Reg.THM_STATUS_BAND then s
  else (s.set Reg.THM_STATUS_BAND b).raise 0xA196 objDevice { w16 := b }

/-! ## Sensors (R480 to R482) -/

/-- A sensor that fails its self-check is failed from then on, and 0xA194 is raised once (R481). -/
def State.sensorCheck (s : State) (failed : Nat) : State :=
  (List.range 24).foldl (fun (t : State) i =>
    if bit failed i ∧ !(bit (t.get Reg.THM_STATUS_SENS_FAIL) i) then
      (t.setAll [(Reg.THM_STATUS_SENS_FAIL, setBit (t.get Reg.THM_STATUS_SENS_FAIL) i), (Reg.THM_TEMP_FAIL i, 1)]).raise 0xA194 objDevice { w16 := i }
    else t) s

/-- The readings of a round; a failed sensor reads THROTTLE_C + 4 × STEP_C. -/
def State.readSensors (s : State) (temps : List (BitVec 16)) : State :=
  (List.range 24).foldl (fun (t : State) i =>
    if bit (t.get Reg.THM_STATUS_SENS_FAIL) i then
      t.set (Reg.THM_TEMP i) (10 * (t.get Reg.THM_THRESH_THROTTLE_C + 4 * t.get Reg.THM_THRESH_STEP_C))
    else match temps[i]? with
      | none => t
      | some x => t.set (Reg.THM_TEMP i) x.toNat) s

/-- The reading of a sensor in 0.1 °C. -/
def State.temp (s : State) (i : Nat) : Int := signed 16 (s.get (Reg.THM_TEMP i))

/-- The sensor that gives Tmax, the lowest of those that read it (R482). -/
def State.hottest (s : State) : Nat :=
  let l := (List.range 24).filter (fun i => !(bit (s.get Reg.THM_CFG_SENSOR_MASK) i))
  l.foldl (fun a i => if s.temp a < s.temp i then i else a) (l.headD 0)

/-- Tmax and its sensor. -/
def State.takeTmax (s : State) : State :=
  s.setAll [(Reg.THM_TMAX, s.get (Reg.THM_TEMP s.hottest)), (Reg.THM_TMAX_SENSOR, s.hottest)]

/-! ## Voltages (R489) -/

/-- Nominal voltage of a channel in mV (R473). -/
def nominalMv (c : Nat) : Nat :=
  if c < 16 then 750 else if c < 20 then 800 else if c < 24 then 900 else if c < 26 then 1200 else if c < 27 then 900
  else if c < 29 then 1100 else if c < 31 then 1800 else 600

/-- Whether a reading lies in its channel's window. -/
def State.inWindow (s : State) (c v : Nat) : Bool :=
  if c < 16 then
    if s.on Reg.PWR_AVS_EN then decide (s.get Reg.PWR_AVS_V_TGT_MV ≤ v + 25 ∧ v ≤ s.get Reg.PWR_AVS_V_TGT_MV + 25)
    else decide (s.get Reg.PWR_AVS_V_FUSE_MV ≤ v + 25 ∧ v ≤ 905)
  else decide (19 * nominalMv c ≤ 20 * v ∧ 20 * v ≤ 21 * nominalMv c)

/-- One channel of a round: OUT is set, counted, raised and logged when it has been out for DWELL rounds. -/
def State.voltCheck (s : State) (c v : Nat) : State :=
  let s1 := s.set (Reg.THM_VOLT_MV c) v
  if s1.inWindow c v then ({ s1 with thm := { s1.thm with volts := Table.del s1.thm.volts c } } : State).set (Reg.THM_VOLT_OUT c) 0
  else
    let n := min (Table.getD s1.thm.volts c 0 + 1) 15
    let s2 : State := { s1 with thm := { s1.thm with volts := Table.put s1.thm.volts c n } }
    if s2.on (Reg.THM_VOLT_OUT c) ∨ n < s2.get Reg.THM_CFG_DWELL then s2
    else (((s2.set (Reg.THM_VOLT_OUT c) 1).bump Reg.THM_VOLT_ERR_CNT).raiseLimited 0xA195 c objDevice { w16 := c }).logUnit originHw 0 0xA195 blockThm c

/-- The voltage channels of a round, from channel `c` on. -/
def State.voltChecks (s : State) : Nat → List (BitVec 16) → State
  | _, [] => s
  | c, v :: l => if c < 32 then (s.voltCheck c v.toNat).voltChecks (c + 1) l else s

/-! ## Adaptive core voltage (R475, R476) -/

/-- The end of a round with AVS_EN 1: V_TGT is adjusted by the smallest margin, in tenths of a percent. -/
def State.avsRound (s : State) (margin : Nat) : State :=
  if !(s.on Reg.PWR_AVS_EN) then s
  else
    let v := s.get Reg.PWR_AVS_V_TGT_MV
    let roomy := if 60 < margin then min (s.thm.roomy + 1) 15 else 0
    let s1 : State := { s with thm := { s.thm with roomy := roomy, confirmed := v } }
    let w := if margin < 30 then v + 5
      else if 60 < margin ∧ s.get Reg.THM_CFG_DWELL ≤ roomy ∧ s.phase ≠ phasePowering then v - 5 else v
    let w' := max 680 (min 880 w)
    if w' = v then s1 else ((s1.set Reg.PWR_AVS_V_TGT_MV w').bump Reg.PWR_AVS_STEP_CNT).emit (.avsWrite w')

/-- AVS_FAIL (R476): the voltage last confirmed is held. -/
def State.avsFailed (s : State) : State :=
  if !(s.on Reg.PWR_AVS_EN) then s
  else ((s.set Reg.PWR_AVS_V_TGT_MV s.thm.confirmed).bump Reg.PWR_AVS_ERR_CNT).raiseLimited 0xA197 0 objDevice {}

def execAvsFail (s : State) : Host.Outcome State Fault Refusal := .next s.avsFailed

/-- A write of PWR_AVS.AVS_EN (R475): switched on, V_TGT starts at V_FUSE and is written over AVSBus. -/
def State.avsEnWrite (s : State) (w : Writer) (en : Bool) : State :=
  s.byWriter w Reg.PWR_AVS_EN.off (fun s =>
    let s1 := (s.set Reg.PWR_AVS_EN (b2n en)).logReg w Reg.PWR_AVS_EN.off 0 (s.get Reg.PWR_AVS_EN * 2 ^ 31) (b2n en * 2 ^ 31)
    if en ∧ !(s.on Reg.PWR_AVS_EN) then
      let v := s.get Reg.PWR_AVS_V_FUSE_MV
      let s2 : State := { s1 with thm := { s1.thm with roomy := 0, confirmed := s.get Reg.PWR_AVS_V_TGT_MV } }
      (s2.set Reg.PWR_AVS_V_TGT_MV v).emit (.avsWrite v)
    else s1)

def execAvsEnWrite (w : Writer) (en : Bool) (s : State) : Host.Outcome State Fault Refusal := .next (s.avsEnWrite w en)

/-! ## Rounds and writes (R480, R490) -/

/-- One housekeeping round, its events in the order of R480. -/
def State.round (s : State) (temps : List (BitVec 16)) (failed : Nat) (volts : List (BitVec 16)) (margin : Nat) : State :=
  let was := (s.level 6).on
  let s1 := ((s.sensorCheck failed).readSensors temps).takeTmax
  let s2 := (s1.judgeLevels (signed 16 (s1.get Reg.THM_TMAX))).actShutdown was
  (((s2.actThrottle.actWarning).actBand).voltChecks 0 volts).avsRound margin

def execHousekeepingRound (temps : List (BitVec 16)) (failed : BitVec 24) (volts : List (BitVec 16)) (margin : Nat) (s : State) :
    Host.Outcome State Fault Refusal := .next (s.round temps failed.toNat volts margin)

/-- Whether the fields of THM_THRESH, THM_CFG and THM_BANDS hold together (R490). -/
def State.thmOk (s : State) : Bool :=
  let shut := s.get Reg.THM_THRESH_SHUTDOWN_C
  let step := s.get Reg.THM_THRESH_STEP_C
  let hyst := s.get Reg.THM_THRESH_HYST_C
  let dwell := s.get Reg.THM_CFG_DWELL
  decide (80 ≤ shut ∧ shut ≤ 112 ∧ s.get Reg.THM_THRESH_WARN_C ≤ s.get Reg.THM_THRESH_THROTTLE_C
    ∧ s.get Reg.THM_THRESH_THROTTLE_C + 4 * step < shut ∧ 1 ≤ step ∧ step ≤ 5 ∧ 1 ≤ hyst ∧ hyst ≤ 10 ∧ 1 ≤ dwell ∧ dwell ≤ 15
    ∧ s.threshold 7 < s.threshold 8 ∧ s.threshold 8 < s.threshold 9 ∧ s.threshold 9 ≤ (shut : Int))

/-- The code of a write of one of the three registers. -/
def State.thmCode (s : State) (i v : Nat) : Code :=
  if i = 1 ∧ 4 < popcount 24 v then 0x1192 else if (s.setAll (thmFields i v)).thmOk then 0 else 0x1191

/-- Thresholds whose value changed restart their counts (R483). -/
def State.restartLevels (s before : State) : State :=
  (List.range 10).foldl (fun (t : State) j =>
    if t.threshold j = before.threshold j then t
    else { t with thm := { t.thm with levels := Table.put t.thm.levels j { t.level j with above := 0, below := 0 } } }) s

/-- THM_WRITE (R482, R490). -/
def State.thmWrite (s : State) (w : Writer) (i v : Nat) : State :=
  let off := Reg.THM_THRESH_SHUTDOWN_C.off + 4 * i
  s.byWriter w off (fun s =>
    let old := s.word ((thmFields i v).map (fun e => e.1))
    let c := s.thmCode i v
    if c ≠ 0 then s.logReg w off c old v
    else ((s.setAll (thmFields i v)).restartLevels s).logReg w off 0 old v)

def execThmWrite (w : Writer) (i : Fin 3) (value : BitVec 32) (s : State) : Host.Outcome State Fault Refusal := .next (s.thmWrite w i.val value.toNat)

/-- THERMTRIP_ANALOGUE (R487). -/
def execThermtripAnalogue (s : State) : Host.Outcome State Fault Refusal := .next s.thermTrip

/-- CLK10_IN_RETURN (R63): TIM_REFSTAT.CLK10_OK returns to 1. -/
def execClk10InReturn (s : State) : Host.Outcome State Fault Refusal := .next (s.set Reg.TIM_REFSTAT_CLK10_OK 1)

end Sys2Proof.Machine
end

