-- ==== Sys2Proof/Machine/SmBus.lean ====
section
/-! DEFINITION. The SMBus sideband (chapter 19: R491). -/

namespace Sys2Proof.Machine

/-- The device's 7-bit address. -/
def State.smbAddress (s : State) : Nat := 0x58 + s.sys.smbAddr

/-- Whether the device answers an address: it is its own, and the device is not held in reset. -/
def State.smbAnswers (s : State) (addr : BitVec 7) : Bool := addr.toNat == s.smbAddress && !s.sys.rstLow && !s.sys.porLow

/-- The packet error code of the bytes of a read: CRC-8 of x^8 + x^2 + x + 1 (SMBus 3.1; PRESUMED, log entry 74). -/
def smbPec (addr : Nat) (cmd : Nat) (l : List Byte) : Nat :=
  crcMsb 8 7 0 (([2 * addr, cmd, 2 * addr + 1].map (BitVec.ofNat 8) ++ l).flatMap (fun b => msbBits 8 b.toNat))

/-- Answer a read with bytes, and its PEC on request. -/
def State.smbRead (s : State) (addr : BitVec 7) (cmd : Nat) (pec : Bool) (l : List Byte) : State :=
  if s.smbAnswers addr then s.emit (.smbus (if pec then l ++ [BitVec.ofNat 8 (smbPec addr.toNat cmd l)] else l)) else s

/-- The bytes of a Block Read and of a Read Word. -/
def smbBlock (l : List Byte) : List Byte := BitVec.ofNat 8 l.length :: l
def smbWord (v : Nat) : List Byte := leBytes 2 v

/-- The value of the register at a BAR0 offset of the PF's view. -/
def State.regWord (s : State) (off : Nat) : Nat := s.word ((Reg.fieldsAt 0 off).getD [])

def execSmbThmStatus (addr : BitVec 7) (pec : Bool) (s : State) : Host.Outcome State Fault Refusal :=
  .next (s.smbRead addr 0x01 pec (smbBlock (leBytes 4 (s.regWord Reg.THM_STATUS_LEVEL.off))))

def execSmbTmax (addr : BitVec 7) (pec : Bool) (s : State) : Host.Outcome State Fault Refusal :=
  .next (s.smbRead addr 0x02 pec (smbWord (s.get Reg.THM_TMAX)))

def execSmbModeStatus (addr : BitVec 7) (pec : Bool) (s : State) : Host.Outcome State Fault Refusal :=
  .next (s.smbRead addr 0x03 pec (smbBlock (leBytes 4 (s.regWord Reg.PWR_MODE_STATUS_PHASE.off))))

def execSmbReason (addr : BitVec 7) (pec : Bool) (s : State) : Host.Outcome State Fault Refusal :=
  .next (s.smbRead addr 0x04 pec (smbWord (s.get Reg.PWR_SERVICE_REASON)))

def execSmbChipId (addr : BitVec 7) (pec : Bool) (s : State) : Host.Outcome State Fault Refusal :=
  .next (s.smbRead addr 0x05 pec (smbBlock (leBytes 4 (s.regWord Reg.HIF_CHIP_ID_PART.off))))

def execSmbSensor (addr : BitVec 7) (x : Fin 24) (pec : Bool) (s : State) : Host.Outcome State Fault Refusal :=
  .next (s.smbRead addr (0x10 + x.val) pec (smbWord (s.get (Reg.THM_TEMP x.val))))

def execSmbVoltage (addr : BitVec 7) (c : Fin 32) (pec : Bool) (s : State) : Host.Outcome State Fault Refusal :=
  .next (s.smbRead addr (0x30 + c.val) pec (smbWord (s.get (Reg.THM_VOLT_MV c.val))))

/-- SMB_HEALTH: the health report, zeros when the device is not paired. -/
def execSmbHealth (addr : BitVec 7) (pec : Bool) (s : State) : Host.Outcome State Fault Refusal :=
  .next (s.smbRead addr 0x80 pec (smbBlock (if s.paired then s.healthReport else List.replicate 64 0)))

/-- SMB_NAK: a write or an unknown command is NAKed and counted; 0x4191 and a Ledger entry come at most once per second. -/
def execSmbNak (addr : BitVec 7) (s : State) : Host.Outcome State Fault Refusal :=
  .next (if s.smbAnswers addr then
      let s1 := (s.bump Reg.THM_SMB_ERR_CNT).emit .smbusNak
      if s1.limitOpen 0x4191 0 then (s1.logUnit originHw 0 0x4191 blockThm 0).raiseLimited 0x4191 0 objDevice {} else s1
    else s)

end Sys2Proof.Machine
end

