-- ==== Sys2Proof/Machine/Registers.lean ====
section
/-! DEFINITION. BAR0 writes and reads (chapter 00: R11 to R16, R515; the value rules of the other chapters): a write of a register
reaches the command of its row where it has one, else its fields take the value by their access codes. -/

namespace Sys2Proof.Machine

/-- A command with its operands. -/
abbrev Cmd : Type := State → Host.Outcome State Fault Refusal

/-- The state a command of its own row leaves. -/
def State.run (s : State) (c : Cmd) : State :=
  match c s with
  | .next t => t
  | .fault _ => s
  | .refused _ => s

/-! ## Writing by access code (R13) -/

/-- The value a field holds after a word is written. -/
def State.fieldAfter (s : State) (f : Field) (v : Nat) : Nat :=
  match f.acc with
  | .rw => bits v f.msb f.lsb
  | .w1c => (s.get f &&& (fieldMax f - bits v f.msb f.lsb)) ||| (s.freshBits f &&& bits v f.msb f.lsb)
  | .ro => s.get f
  | .wo => s.get f

/-- Write a word to fields. -/
def State.putFields (s : State) (v : Nat) : List Field → State
  | [] => s
  | f :: l => (s.set f (s.fieldAfter f v)).putFields v l

/-- The part of a word that a read shows: write-only fields read zero. -/
def readable (l : List Field) : List Field := l.filter (fun f => f.acc != .wo)

/-- The fields at an offset of a function's view; a VF has no other registers (R107). -/
def viewFields (f off : Nat) : List Field := if f ≠ 0 ∧ 0x100 ≤ off then [] else (Reg.fieldsAt f off).getD []

/-- The bits of a written word that fields hold: a reserved bit acts as if it had been written 0 (R13). -/
def maskWord (v : Nat) : List Field → Nat
  | [] => 0
  | f :: l => bits v f.msb f.lsb * 2 ^ f.lsb + maskWord v l

/-- Whether a word holds a field that a plain write can change. -/
def writable (l : List Field) : Bool := l.any (fun f => f.acc == .rw || f.acc == .w1c)

/-- Write a word by its access codes alone. -/
def State.applyWord (s : State) (w : Writer) (off v : Nat) : State := (s.noteSelection off).putFields v (viewFields (viewOf w) off)

/-- Log a write of a word with its code, the word as it read before (`before`) and the word written, reserved bits 0 (R13, R15). -/
def State.logWord (s before : State) (w : Writer) (off v : Nat) (c : Code) : State :=
  s.logReg w off c (before.word (readable (viewFields (viewOf w) off))) (maskWord v (viewFields (viewOf w) off))

/-- A write that its access codes alone decide, logged (R15). One that reaches no RW and no W1C field (a word of RO fields alone,
a control written 0) is ignored (R13), changes no configuration and is not logged (DEDUCED, log entry 24). -/
def State.plainWrite (s : State) (w : Writer) (off v : Nat) : State :=
  if writable (viewFields (viewOf w) off) then (s.applyWord w off v).logWord s w off v 0 else s

/-- A refused write: shown in a status field, logged with its code, nothing else changes. -/
def State.refuseWrite (s : State) (w : Writer) (off v : Nat) (status : Option Field) (c : Code) : State :=
  (match status with
    | none => s
    | some f => s.set f c).logWord s w off v c

/-- Write when a condition holds, else refuse with a code. -/
def State.writeIf (s : State) (ok : Bool) (w : Writer) (off v : Nat) (status : Option Field) (c : Code) : State :=
  if ok then s.plainWrite w off v else s.refuseWrite w off v status c

/-! ## PWR_RESET (R87) -/

/-- PWR_RESET: with its key, a device reset 1 µs later, logged before; another write is ignored. A HALTED device takes it too (R98). -/
def State.pwrResetWrite (s : State) (w : Writer) (v : Nat) : State :=
  if viewOf w = 0 ∧ (w ≠ .debug ∨ s.halted = false) ∧ bits v 31 16 = 0xA5C3 ∧ bit v 0 ∧ s.sys.resetAt.isNone then
    ({ s with sys := { s.sys with resetAt := some (s.lc + ticksPerUs) } } : State).logReg w Reg.PWR_RESET_KEY.off 0 0 (maskWord v [Reg.PWR_RESET_KEY, Reg.PWR_RESET_DEVICE])
  else s

def execPwrReset (w : Writer) (value : BitVec 32) (s : State) : Host.Outcome State Fault Refusal := .next (s.pwrResetWrite w value.toNat)

/-! ## The blocks -/

/-- The version fields of HIF_FN_OPEN, which a write with CLOSE 1 writes as well (R13). -/
def State.hostVersion (s : State) (f : Fin 32) (v : Nat) : State :=
  s.setAll [(Reg.HIF_FN_OPEN_HOST_MAJOR f, bits v 15 8), (Reg.HIF_FN_OPEN_HOST_MINOR f, bits v 7 0)]

/-- HIF_: the function view and ownership. -/
def hifCmd (w : Writer) (o v : Nat) : Option Cmd :=
  let f := Fin.ofNat 32 (viewOf w)
  if o = 0x10 ∧ bit v 31 then some (execFunctionOpen f (BitVec.ofNat 8 (bits v 15 8)) (BitVec.ofNat 8 (bits v 7 0)) (bit v 30))
  else if o = 0x10 ∧ bit v 30 then some (fun s => execFunctionClose f (s.hostVersion f v))
  else if o = 0x38 ∧ bit v 0 then some (execHifFnClr f)
  else if 0x1000 ≤ o ∧ o < 0x1400 then some (execPenOwnerWrite w (Fin.ofNat 256 ((o - 0x1000) / 4)) (bit v 31) (Fin.ofNat 32 (bits v 4 0)))
  else if 0x1400 ≤ o ∧ o < 0x1480 then
    some (fun s => execVectorWrite w (Fin.ofNat 32 ((o - 0x1400) / 4)) (BitVec.ofNat 12 (bits v 27 16)) (BitVec.ofNat 11 (bits v 10 0)) s.vfEnable s)
  else if o = 0x1480 then
    some (execSlotOwnerWrite w (Fin.ofNat 32 (bits v 4 0)) (Fin.ofNat 32 (bits v 12 8)) (Fin.ofNat 32 (bits v 20 16)) (Fin.ofNat 32 (bits v 28 24)))
  else none

/-- PWR_, THM_, LDG_. -/
def pwrCmd (w : Writer) (o v : Nat) : Option Cmd :=
  if o = 0 then some (fun s => .next (s.modeWrite w (bits v 3 0) (bit v 30) (bit v 31)))
  else if o = 0x30 then some (fun s => .next (s.pwrResetWrite w v))
  else if o = 0x38 ∧ bit v 0 then some (execPwrCntClr w)
  else if o = 0x50 then some (execAvsEnWrite w (bit v 31))
  else none

def thmCmd (w : Writer) (o v : Nat) : Option Cmd :=
  if o = 0 ∨ o = 4 ∨ o = 8 then some (execThmWrite w (Fin.ofNat 3 (o / 4)) (BitVec.ofNat 32 v))
  else if o = 0x28 ∧ bit v 0 then some (execThmClr w)
  else none

def ldgCmd (w : Writer) (o v : Nat) : Option Cmd := if o = 0 then some (execLdgRingWrite w (BitVec.ofNat 32 v)) else none

/-- TIM_CTRL: POLICY and SLEW_PPB in range (R75), the PLL's reference (R40), then REVERT; one Ledger entry, with REVERT's code. A
write with PLL_REF 1 selects the 10 MHz input whenever it is present, so it takes it again after a loss (DESIGN CHOICE, log entry
106). -/
def State.timCtrl (s : State) (w : Writer) (off v : Nat) : State :=
  if 1 < bits v 3 2 ∨ bits v 23 8 = 0 ∨ 10000 < bits v 23 8 then s.refuseWrite w off v none 0x1201
  else
    let s1 := s.applyWord w off v
    let s2 : State := { s1 with tim := { s1.tim with pllClk10 := bit v 4 && s1.on Reg.TIM_REFSTAT_CLK10_OK } }
    let r := if bit v 7 then s2.revertAct else (s2, 0)
    r.1.logWord s w off v r.2

/-- TIM_DOMn_CTRL: its fields in range (R75), then what ENABLE and ACCEPT_JUMP ask; one Ledger entry. -/
def State.domCtrl (s : State) (w : Writer) (off d v : Nat) : State :=
  let en := s.domEnabled d
  if 1 < bits v 29 28 ∨ 127 < bits v 7 0 ∨ (en ∧ !(bit v 31) ∧ s.disableRefused d) then s.refuseWrite w off v none 0x1201
  else
    let s1 := (s.applyWord w off v).set (Reg.TIM_DOM_ENABLE d) (b2n en)
    let s2 := if bit v 31 then s1.domainEnable d else if en then s1.domainDisable d else s1
    ((if bit v 30 then s2.acceptJump d else s2).logWord s w off v 0).relane

/-- TIM_: time and launches. -/
def timCmd (w : Writer) (off o v : Nat) : Option Cmd :=
  let d := (o - 0x100) / 0x40
  if o = 0 then some (fun s => .next (s.timCtrl w off v))
  else if o = 4 ∧ bit v 0 then some (execSnap w)
  else if 0x100 ≤ o ∧ o < 0x180 then
    let r := (o - 0x100) % 0x40
    if r = 0 then some (fun s => .next (s.domCtrl w off d v))
    else if r = 4 then some (fun s => .next (s.writeIf (decide (bits v 31 24 ≠ 0 ∧ bits v 23 16 ≠ 0 ∧ bits v 15 0 ≠ 0)) w off v none 0x1201))
    else if r = 8 then some (fun s => .next (s.writeIf (decide (50 ≤ bits v 31 16)) w off v none 0x1201))
    else if r = 0x1C then some (execTodSecWrite w (Fin.ofNat 2 d) (BitVec.ofNat 32 v))
    else if r = 0x20 ∧ bit v 0 then some (execTimDomClr w (Fin.ofNat 2 d))
    else none
  else if o = 0x200 then some (fun s => .next (s.writeIf (decide (1 ≤ bits v 19 0 ∧ bits v 19 0 ≤ 500000)) w off v none 0x1201))
  else if o = 0x210 ∧ bit v 0 then some (execTimLateClr w)
  else if o = 0x230 then some (execLaunchCancel w (BitVec.ofNat 10 (bits v 25 16)) (BitVec.ofNat 16 (bits v 15 0)))
  else none

/-- BRK_ and JUG_, which supervisor firmware writes (R423). -/
def brkCmd (w : Writer) (o v : Nat) : Option Cmd :=
  if o = 0 ∧ bit v 0 then some (execBrkClr w)
  else if o = 8 then some (execBrkSwWrite w (BitVec.ofNat 32 v))
  else if o = 0xC then some (fun s => .next (s.set Reg.BRK_SW_DATA v))
  else if 0x400 ≤ o ∧ o < 0x480 then some (execBrkLatchClear w (Fin.ofNat 32 ((o - 0x400) / 4)) (BitVec.ofNat 32 v))
  else none

/-- JUG_CTRL: WDT_US takes 10 to 65,535 and ignores other values; DRAIN drains. -/
def State.jugCtrl (s : State) (w : Writer) (v : Nat) : State :=
  let us := bits v 15 0
  let s1 := if 10 ≤ us then s.set Reg.JUG_CTRL_WDT_US us else s
  (s1.setDrain (bits v 31 24)).logReg w Reg.JUG_CTRL_DRAIN.off 0 (s.word [Reg.JUG_CTRL_DRAIN, Reg.JUG_CTRL_WDT_US]) (maskWord v [Reg.JUG_CTRL_DRAIN, Reg.JUG_CTRL_WDT_US])

def jugCmd (w : Writer) (o v : Nat) : Option Cmd :=
  if o = 0 then some (fun s => .next (s.jugCtrl w v)) else if o = 0x1C ∧ bit v 0 then some (execJugClr w) else none

/-- CHK_: POLY, INIT and XOROUT change only while MODE is OFF and no scan runs (R421). -/
def chkCmd (w : Writer) (off o v : Nat) : Option Cmd :=
  if 0x100 ≤ o ∧ o < 0x200 then
    let n := (o - 0x100) / 0x40
    let r := (o - 0x100) % 0x40
    if r = 0 then some (execChkCtrlWrite w (Fin.ofNat 4 n) (BitVec.ofNat 32 v))
    else if 4 ≤ r ∧ r ≤ 0x18 then
      some (fun s => .next (s.writeIf (!(s.on (Reg.CHK_MODE n)) && !(s.on (Reg.CHK_BUSY n))) w off v (some (Reg.CHK_LAST_STATUS n)) 0x1162))
    else if r = 0x30 ∧ bit v 0 then some (execChkClr w (Fin.ofNat 4 n))
    else none
  else none

/-- DMC_LAYOUT written without COMMIT. -/
def State.layoutWrite (s : State) (w : Writer) (off v : Nat) : State :=
  s.writeIf (!s.dram.formed && decide (bits v 13 12 ≠ 3 ∧ 1 ≤ bits v 1 0 ∧ bits v 1 0 ≤ 2)) w off v (some Reg.DMC_STATUS_LAST_STATUS) 0x1F01

/-- A training helper's control word: an operation by OP, or the fields alone. -/
def trnCmd (w : Writer) (off c v : Nat) : Cmd :=
  let op := bits v 29 28
  if !(bit v 31) then (fun s => .next (s.plainWrite w off v))
  else if op = 0 then execTrnWrite w (Fin.ofNat 8 c) (BitVec.ofNat 32 v)
  else if op = 1 then execTrnReadCompare w (Fin.ofNat 8 c) (BitVec.ofNat 32 v)
  else if op = 2 then execTrnWriteCompare w (Fin.ofNat 8 c) (BitVec.ofNat 32 v)
  else (fun s => .next (s.refuseWrite w off v (some (Reg.DMC_TRN_LAST_STATUS c)) 0x1F03))

/-- A mode register access: with MR_WRITE a write, else a read whose answer is the DRAM's. -/
def mrCmd (w : Writer) (c v : Nat) : Cmd :=
  if bit v 31 then execMrWrite w (Fin.ofNat 8 c) (BitVec.ofNat 8 (bits v 15 8)) (BitVec.ofNat 8 (bits v 7 0))
  else (fun s => let r := s.draw; execMrRead w (Fin.ofNat 8 c) (BitVec.ofNat 8 (bits v 15 8)) (BitVec.ofNat 8 r.1) r.2)

/-- DMC_. -/
def dmcCmd (w : Writer) (off o v : Nat) : Option Cmd :=
  let st := some Reg.DMC_STATUS_LAST_STATUS
  if o = 0 then some (if bit v 31 then execDmcLayoutCommit w (BitVec.ofNat 32 v) else (fun s => .next (s.layoutWrite w off v)))
  else if o = 8 ∧ bit v 0 then some (execDmcClr w)
  else if o = 0xA0 then some (fun s => .next (s.writeIf (decide (bits v 15 8 ≠ 0)) w off v st 0x1F02))
  else if o = 0xC0 then some (fun s => .next (s.writeIf (decide (1000 ≤ bits v 15 0 ∧ bits v 15 0 ≤ 32000)) w off v st 0x1F02))
  else if o = 0xD0 then
    some (fun s => .next (s.writeIf (decide (bits v 23 16 = 0 ∨ (6 ≤ bits v 23 16 ∧ bits v 23 16 ≤ 16))
      && ([0, 1, 2, 3] : List Nat).all (fun b => bits v (9 + 2 * b) (8 + 2 * b) != 3)) w off v st 0x1F02))
  else if 0x100 ≤ o ∧ o < 0x140 then
    some (fun s => .next (s.writeIf (decide (bits v 31 16 = 0 ∨ 100 ≤ bits v 31 16)) w off v st 0x1F02))
  else if 0x1000 ≤ o ∧ o < 0x1800 then
    let c := (o - 0x1000) / 0x100
    let r := o % 0x100
    if r = 0 then some (trnCmd w off c v)
    else if r = 0xC ∧ bit v 31 then some (execTrnDlySet w (Fin.ofNat 8 c) (BitVec.ofNat 32 v))
    else if r = 0x10 then some (mrCmd w c v)
    else none
  else none

/-- LANE_i_FFE: PRE and POST 0 to 16; MAIN is what they leave of 64 (R311). -/
def State.ffeWrite (s : State) (w : Writer) (off i v : Nat) : State :=
  if bits v 15 8 ≤ 16 ∧ bits v 7 0 ≤ 16 then (s.plainWrite w off v).set (Reg.LANE_FFE_MAIN i) (64 - bits v 15 8 - bits v 7 0)
  else s.refuseWrite w off v (some (Reg.LANE_STATUS_LAST_STATUS i)) 0x1C01

/-- LANE_ and AKN_. -/
def laneCmd (w : Writer) (off o v : Nat) : Option Cmd :=
  if 0x1000 ≤ o ∧ o < 0x2000 then
    let i := Fin.ofNat 16 ((o - 0x1000) / 0x100)
    let r := o % 0x100
    if r = 0 then some (execLaneCfgWrite w i (BitVec.ofNat 32 v))
    else if r = 4 then some (fun s => .next (s.ffeWrite w off i.val v))
    else if r = 0x20 then some (execLaneTestWrite w i (BitVec.ofNat 32 v))
    else if r = 0x40 ∧ bit v 0 then some (execLaneClr w i)
    else if r = 0x44 then some (execLaneMacWrite w i false (BitVec.ofNat 32 v))
    else if r = 0x48 then some (execLaneMacWrite w i true (BitVec.ofNat 32 v))
    else none
  else none

def aknCmd (w : Writer) (off o v : Nat) : Option Cmd :=
  if 0x1000 ≤ o ∧ o < 0x3000 then
    let i := Fin.ofNat 16 ((o - 0x1000) / 0x200)
    let r := o % 0x200
    if r = 0 then some (fun s => .next (s.writeIf (decide (bits v 7 0 ||| 12 = 12)) w off v none 0x1C01))
    else if r = 0x10 ∧ bit v 0 then some (execAknClr w i)
    else none
  else none

/-- CAR_ and TRN_. -/
def carCmd (w : Writer) (off o v : Nat) : Option Cmd :=
  if 0x100 ≤ o ∧ o < 0x500 then
    let i := Fin.ofNat 16 ((o - 0x100) / 0x40)
    let r := (o - 0x100) % 0x40
    if r = 0x14 ∧ bit v 31 then some (execCarCommit w i)
    else if r = 0x20 ∧ bit v 0 then some (execCarSwapCntClr w i)
    else none
  else if 0x1000 ≤ o ∧ o < 0x3000 then
    let i := Fin.ofNat 16 ((o - 0x1000) / 0x200)
    let c := Fin.ofNat 8 (o % 0x200 / 0x40)
    if o % 0x40 = 0 then
      some (fun s => .next (s.writeIf (decide (1 ≤ bits v 26 16 ∧ bits v 26 16 ≤ 1024)) w off v (some (Reg.CAR_P_COMMIT_LAST_STATUS i.val)) 0x1D02))
    else if o % 0x40 = 0x20 ∧ bit v 0 then some (execCarQueueClr w i c)
    else none
  else none

def turnCmd (w : Writer) (o v : Nat) : Option Cmd :=
  if o = 0 ∧ bit v 0 then some (execTrnClr w)
  else if 0x1000 ≤ o ∧ o < 0x2000 ∧ o % 0x20 = 0 then
    some (execTrnCtrlWrite w (Fin.ofNat 128 ((o - 0x1000) / 0x20)) (Fin.ofNat 4 (bits v 31 30)) (Fin.ofNat 64 (bits v 21 16)))
  else none

/-- A path field of a receiver: an enabled path leaves its old group and joins the new one (R145, R162). -/
def State.pathWrite (s : State) (w : Writer) (off r p v : Nat) : State :=
  let used := (s.rxPaths r).contains p
  let s1 := (if used then s.igmpLeave r p else s).plainWrite w off v
  if used then s1.igmpJoin r p else s1

/-- ING_. -/
def ingCmd (w : Writer) (off o v : Nat) : Option Cmd :=
  if o = 0 then some (execIngLaneMaskWrite w (BitVec.ofNat 16 (bits v 15 0)))
  else if o = 0x180 ∧ bit v 0 then some (execIngLaneClr w)
  else if 0x1000 ≤ o ∧ o < 0x4C00 then
    let i := (o - 0x1000) / 0x100
    let r := o % 0x100
    let st := some (Reg.ING_RX_LAST_STATUS i)
    if r = 0 then some (fun s => .next (s.rxCtrlWrite w i (bit v 31) (bit v 30) (bit v 29) (bits v 22 16)))
    else if r = 4 ∨ r = 8 ∨ r = 0xC then some (fun s => .next (s.writeIf (!(s.on (Reg.ING_RX_ENABLE i))) w off v st 0x1505))
    else if 0x10 ≤ r ∧ r < 0x28 then some (fun s => .next (s.pathWrite w off i ((r - 0x10) / 12) v))
    else if r = 0x28 then
      some (fun s => .next (s.writeIf (decide (bits v 31 16 ≤ 20000 ∧ 1 ≤ bits v 15 0 ∧ bits v 15 0 ≤ 1000)) w off v st 0x1501))
    else if r = 0x54 ∧ bit v 0 then some (execIngRxClr w (Fin.ofNat 60 i))
    else none
  else none

/-- CMP_ and SAF_. -/
def cmpCmd (w : Writer) (o v : Nat) : Option Cmd :=
  let n := Fin.ofNat 4 (o / 0x4000)
  if 0x10000 ≤ o then none
  else if o % 0x4000 = 0x18 ∧ bit v 31 then some (execCmpSlotCommit w n)
  else if o % 0x4000 = 0x24 ∧ bit v 0 then some (execCmpSlotClr w n)
  else none

def safCmd (w : Writer) (o v : Nat) : Option Cmd :=
  if o = 0x4C ∧ bit v 0 then some (execSafClr w)
  else if 0x100 ≤ o ∧ o < 0x200 ∧ (o - 0x100) % 0x40 = 0 then
    some (execSafAreaWrite w (Fin.ofNat 4 ((o - 0x100) / 0x40)) (BitVec.ofNat 27 (bits v 26 0)))
  else none

/-- ENC_BSn_RUN: a slot command, or with CMD zero the RW bits alone (log entry 77). -/
def runCmd (w : Writer) (off n v : Nat) : Cmd :=
  let cmd := bits v 31 28
  let src := SlotSrc.reg w (bit v 27) (bit v 26)
  if cmd = 0 then (fun s => .next (s.plainWrite w off v))
  else if cmd = 1 then execSlotStart src (Fin.ofNat 4 n) []
  else if cmd = 2 then execSlotStop src (Fin.ofNat 4 n)
  else if cmd = 3 then execSlotCommit src (Fin.ofNat 4 n)
  else (fun s => .next (s.slotCommand src n cmd []))

/-- ENC_, RC_, DEC_. -/
def encCmd (w : Writer) (off o v : Nat) : Option Cmd :=
  if o = 0 then some (execEffortFloorWrite w (Fin.ofNat 16 (bits v 31 28)))
  else if o = 4 ∧ bit v 0 then some (execEncEffortCntClr w)
  else if 0x100 ≤ o ∧ o < 0x180 then
    let n := (o - 0x100) / 0x20
    if o % 0x20 = 0x10 ∧ bit v 0 then some (execEncLateClr w (Fin.ofNat 4 n))
    else if o % 0x20 = 0x14 then some (runCmd w off n v)
    else none
  else if 0x200 ≤ o ∧ o < 0x300 ∧ o % 0x40 = 0x34 ∧ bit v 0 then some (execEncBsClr w (Fin.ofNat 4 ((o - 0x200) / 0x40)))
  else if 0x400 ≤ o ∧ o < 0xC00 ∧ o % 0x200 = 8 ∧ bit v 0 then some (execEncPktClr w (Fin.ofNat 4 ((o - 0x400) / 0x200)))
  else none

def rcCmd (w : Writer) (o v : Nat) : Option Cmd :=
  if 0x100 ≤ o ∧ o < 0x200 ∧ o % 0x40 = 0x38 ∧ bit v 0 then some (execRcBsClr w (Fin.ofNat 4 ((o - 0x100) / 0x40))) else none

def decCmd (w : Writer) (o v : Nat) : Option Cmd :=
  if 0x100 ≤ o ∧ o < 0x300 ∧ o % 0x80 = 0x44 ∧ bit v 0 then some (execDecBsClr w (Fin.ofNat 4 ((o - 0x100) / 0x80))) else none

/-- SCN_: ENABLE written 0 turns the lane off at once (R287). -/
def scnCmd (w : Writer) (off o v : Nat) : Option Cmd :=
  if 0x1000 ≤ o ∧ o < 0x2000 then
    let i := (o - 0x1000) / 0x100
    let r := o % 0x100
    if r = 0 then some (fun s => .next (if bit v 31 then s.plainWrite w off v else (s.plainWrite w off v).scnDisable i))
    else if r = 0x1C ∧ bit v 31 then some (execScnLaneCommit w (Fin.ofNat 16 i))
    else if r = 0x34 ∧ bit v 0 then some (execScnLaneClr w (Fin.ofNat 16 i))
    else none
  else none

/-- AUD_CTRL: ZC_TIMEOUT_MS 1 to 50; MCLK_EN clocks AES3 outputs from AUD_MCLK_IN while that is present (R362); then MCLK_RESUME. -/
def State.audCtrl (s : State) (w : Writer) (off v : Nat) : State :=
  if bits v 23 16 = 0 ∨ 50 < bits v 23 16 then s.refuseWrite w off v (some Reg.AUD_LAST_STATUS) 0x1E01
  else
    let s1 := s.plainWrite w off v
    let s2 : State := if bit v 31 == s.on Reg.AUD_MCLK_EN then s1
      else { s1 with aud := { s1.aud with mclk := bit v 31 && s1.on Reg.AUD_MCLK_OK } }
    if bit v 30 then s2.run (execMclkResume w) else s2

/-- The channel word of an output port: LANE, CHANNELS and FIRST_CH do not change while it is enabled (R373). -/
def State.audChannels (s : State) (w : Writer) (off k v : Nat) : State :=
  let same := bits v 31 28 == s.get (Reg.AUD_OUT_LANE k) && bits v 24 18 == s.get (Reg.AUD_OUT_CHANNELS k) && bits v 17 12 == s.get (Reg.AUD_OUT_FIRST_CH k)
  s.writeIf (same || !(s.on (Reg.AUD_OUT_ENABLE k))) w off v (some (Reg.AUD_OUT_LAST_STATUS k)) 0x1E01

def audCmd (w : Writer) (off o v : Nat) : Option Cmd :=
  if o = 0 then some (fun s => .next (s.audCtrl w off v))
  else if o = 4 ∧ bit v 0 then some (execAudCntClr w)
  else if 0x1000 ≤ o ∧ o < 0x2000 then
    let k := (o - 0x1000) / 0x40
    if o % 0x40 = 0 then some (execAudPortWrite w (Fin.ofNat 64 k) (BitVec.ofNat 32 v))
    else if o % 0x40 = 0xC ∧ isAudOut k then some (fun s => .next (s.audChannels w off k v))
    else none
  else if 0x3000 ≤ o ∧ o < 0x3180 then some (execAudRouteWrite w (Fin.ofNat 96 ((o - 0x3000) / 4)) (BitVec.ofNat 32 v))
  else none

/-- TRP_HB: PERIOD_US 50 to 10,000; then PET. -/
def State.hbWrite (s : State) (w : Writer) (off v : Nat) : State :=
  let s1 := s.writeIf (decide (50 ≤ bits v 31 16 ∧ bits v 31 16 ≤ 10000)) w off v (some Reg.TRP_STATUS_LAST_STATUS) 0x1171
  if bit v 0 then s1.run (execPet w) else s1

/-- TRP_AREA follows R424: written only in SERVICE, in in-service DRAM (R436). -/
def State.trpArea (s : State) (w : Writer) (off v : Nat) : State :=
  if s.mode ≠ modeService then s.refuseWrite w off v (some Reg.TRP_STATUS_LAST_STATUS) 0x1172
  else s.writeIf (s.inService (bits v 26 0 * 4096) 134217728) w off v (some Reg.TRP_STATUS_LAST_STATUS) 0x1171

def trpCmd (w : Writer) (off o v : Nat) : Option Cmd :=
  if o = 0 then some (execTrpCtrlWrite w (BitVec.ofNat 32 v))
  else if o = 4 then some (fun s => .next (s.hbWrite w off v))
  else if o = 0x24 ∧ bit v 0 then some (execTrpClr w)
  else if o = 0x30 then
    some (fun s => .next (s.writeIf (decide (50 ≤ bits v 31 16 ∧ bits v 31 16 ≤ 10000)) w off v (some Reg.TRP_STATUS_LAST_STATUS) 0x1171))
  else if o = 0x34 then some (fun s => .next (s.trpArea w off v))
  else none

/-- The command of its own row, or the value rule of its chapter, that a written word reaches; none for a plain register. -/
def rowCmd (w : Writer) (off v : Nat) : Option Cmd :=
  let o := off % 0x40000
  match blockOf off with
  | 0 => hifCmd w o v
  | 1 => pwrCmd w o v
  | 2 => thmCmd w o v
  | 4 => ldgCmd w o v
  | 5 => timCmd w off o v
  | 6 => brkCmd w o v
  | 7 => jugCmd w o v
  | 8 => chkCmd w off o v
  | 9 => dmcCmd w off o v
  | 10 => laneCmd w off o v
  | 11 => aknCmd w off o v
  | 12 => carCmd w off o v
  | 13 => turnCmd w o v
  | 14 => ingCmd w off o v
  | 15 => cmpCmd w o v
  | 16 => safCmd w o v
  | 17 => encCmd w off o v
  | 18 => rcCmd w o v
  | 19 => decCmd w o v
  | 20 => scnCmd w off o v
  | 21 => audCmd w off o v
  | 22 => trpCmd w off o v
  | _ => none

/-- A word for the queue window, which supervisor firmware alone writes (R75). -/
def State.windowWord (s : State) (w : Writer) (off v : Nat) : State :=
  match w with
  | .super p => s.byWriter w off (fun s => s.windowWrite p off v)
  | _ => s

/-- Write one word (R15): a writer that does not reach the register changes nothing, except that PWR_RESET is heard while HALTED. A
write to an unassigned offset is ignored (R14). -/
def State.writeWord (s : State) (w : Writer) (off v : Nat) : State :=
  if off = Reg.PWR_RESET_KEY.off then s.pwrResetWrite w v
  else if off = Reg.PWR_MODE_CTRL_TARGET.off ∧ s.halted ∧ viewOf w = 0 then s.modeWrite w (bits v 3 0) (bit v 30) (bit v 31)
  else if isWindow off then s.windowWord w off v
  else if (viewFields (viewOf w) off).isEmpty then s
  else s.byWriter w off (fun s =>
    match rowCmd w off v with
    | some c => s.run c
    | none => s.plainWrite w off v)

/-- REGISTER_WRITE (R515): a word at a multiple of 4, or two words at a multiple of 8; another access is ignored. -/
def execRegisterWrite (w : Writer) (off : Nat) (form : AccessForm) (value : BitVec 64) (s : State) : Host.Outcome State Fault Refusal :=
  .next (match form with
    | .word => if off % 4 = 0 then s.writeWord w off (value.toNat % 2 ^ 32) else s
    | .double => if off % 8 = 0 then (s.writeWord w off (value.toNat % 2 ^ 32)).writeWord w (off + 4) (value.toNat / 2 ^ 32) else s
    | .other => s)

/-! ## Reads (R12, R14, R515) -/

/-- Whether an offset is the low word of a 64-bit quantity in the PF's view. -/
def isLow (off : Nat) : Bool :=
  let o := off % 0x40000
  match blockOf off with
  | 0 => o == 0x20
  | 3 => o == 8 || o == 0x40
  | 5 => o == 8
  | 8 => decide (0x100 ≤ o ∧ o < 0x200) && [4, 12, 20, 28].contains ((o - 0x100) % 0x40)
  | 10 => decide (0x1000 ≤ o ∧ o < 0x2000) && o % 0x100 == 0x28
  | 12 => decide (0x1000 ≤ o ∧ o < 0x3000) && o % 0x40 == 0x10
  | 14 => decide (0x1000 ≤ o ∧ o < 0x4C00) && [0x30, 0x38, 0x40].contains (o % 0x100)
  | 16 => decide (0x100 ≤ o ∧ o < 0x200) && (o - 0x100) % 0x40 == 8
  | 21 => decide (0x1000 ≤ o ∧ o < 0x2000) && o % 0x40 == 0x20
  | _ => false

/-- A reader's number: a function f, 32 for the debug window, 33 + p for supervisor pair p. Each has its own latches (R12; of the two
that are no function DESIGN CHOICE, log entry 133). -/
def readerOf : Writer → Nat
  | .host f => f.val
  | .debug => 32
  | .super p => 33 + p.val

/-- The view that a reader has of BAR0. -/
def readerView (r : Nat) : Nat := if r < 32 then r else 0

/-- The latch of a reader for the quantity whose high word is at an offset. -/
def latchKey (f off : Nat) : Nat := f + 64 * off

/-- The value of one readable field as a read finds it: the fields Barker derives (R416), and a lane's DFE taps and RX_SNR, which
move while the lane runs unless FREEZE holds them. -/
def State.readField (s : State) (f : Field) : Nat × State :=
  let o := f.off % 0x40000
  if blockOf f.off = 6 ∧ 0x1000 ≤ o then
    let n := (o - 0x1000) / 4
    if f.lsb = 30 then (b2n (s.sourceLevel n), s) else if f.lsb = 29 then (b2n (s.pendingSource n), s) else (s.get f, s)
  else if blockOf f.off = 10 ∧ 0x1000 ≤ o ∧ ((0x14 ≤ o % 0x100 ∧ o % 0x100 < 0x20) ∨ (o % 0x100 = 0x10 ∧ f.lsb = 0)) then
    let i := (o - 0x1000) / 0x100
    if 2 ≤ s.laneState i ∧ s.laneState i ≤ 6 ∧ !(s.on (Reg.LANE_ADAPT_FREEZE i)) then
      let r := s.draw
      (r.1 % 2 ^ fieldWidth f, r.2.set f r.1)
    else (s.get f, s)
  else (s.get f, s)

/-- A word as a read finds it. -/
def State.readFields (s : State) : List Field → Nat × State
  | [] => (0, s)
  | f :: l =>
    let a := s.readField f
    let b := a.2.readFields l
    (a.1 * 2 ^ f.lsb + b.1, b.2)

/-- Read one word of a reader's view: the low word of a quantity latches the high word, and the high word reads the latch. -/
def State.readWord (s : State) (f off : Nat) : Nat × State :=
  let l := readable (viewFields (readerView f) off)
  if 4 ≤ off ∧ isLow (off - 4) ∧ (readerView f = 0 ∨ off < 0x100) then
    (Table.getD s.latches (latchKey f off) ((l.map (fun x => x.reset * 2 ^ x.lsb)).foldl (· + ·) 0), s)
  else
    let r := s.readFields l
    if isLow off ∧ (readerView f = 0 ∨ off < 0x100) then
      let high := r.2.readFields (readable (viewFields (readerView f) (off + 4)))
      (r.1, { high.2 with latches := Table.put high.2.latches (latchKey f (off + 4)) high.1 })
    else r

/-- Answer a read. -/
def State.answer (f off : Nat) (r : Nat × State) : State := r.2.emit (.readData f off r.1)

/-- A read of registers by a reader in one of the forms of R515. -/
def State.readAs (s : State) (r off : Nat) (form : AccessForm) : State :=
  match form with
  | .word => if off % 4 = 0 then State.answer r off (s.readWord r off) else s.emit (.readData r off 0)
  | .double =>
    if off % 8 = 0 then
      let a := s.readWord r off
      let b := a.2.readWord r (off + 4)
      State.answer r off (a.1 + b.1 * 2 ^ 32, b.2)
    else s.emit (.readData r off 0)
  | .other => s.emit (.readData r off 0)

/-- LOW_WORD_READ: a read of registers. One through the debug window is logged, with the low word found as its values (R404, R468,
R499; DESIGN CHOICE, log entry 133), and a HALTED device has gated the window. -/
def execLowWordRead (w : Writer) (off : Nat) (form : AccessForm) (s : State) : Host.Outcome State Fault Refusal :=
  .next (if w = .debug then
      (if s.halted then s
       else
        let v := (s.readWord 32 off).1
        (s.readAs 32 off form).logReg .debug off 0 v v)
    else s.readAs (readerOf w) off form)

end Sys2Proof.Machine
end

