-- ==== Sys2Proof/Machine/ConfigOps.lean ====
section
/-! DEFINITION. CONFIG_WRITE, CONFIG_READ and STATS_READ (chapter 04: R121; R189, R258, R354, R369). -/

namespace Sys2Proof.Machine

/-! ## Windows -/

/-- The register window of an object: its offset in the PF's view and its length; none for an object that has none. Slots and layers
as chapter 06 says; the other windows are the model's (DESIGN CHOICE, log entry 75). -/
def objWindow (type index : Nat) : Option (Nat × Nat) :=
  match type with
  | 0 => some (0, 0x100)
  | 2 => some (0x3C0000 + 0x4000 * index, 0x4000)
  | 3 => some (0x3C0400 + 0x4000 * (index / 16) + 0x40 * (index % 16), 0x40)
  | 4 => if index < 4 then some (0x400100 + 0x40 * index, 0x40) else none
  | 5 => some (0x281000 + 0x100 * index, 0x100)
  | 6 => some (0x301000 + 0x40 * index, 0x40)
  | 7 => some (0x541000 + 0x40 * index, 0x40)
  | _ => none

/-- Whether an object type and index exist (R120). -/
def objExists (type index : Nat) : Bool :=
  match type with
  | 0 => index == 0
  | 1 => decide (index < 16384)
  | 2 => decide (index < 4)
  | 3 => decide (index < 64)
  | 4 => decide (index < 5)
  | 5 => decide (index < 16)
  | 6 => decide (index < 128)
  | 7 => decide (index < 64)
  | _ => false

/-! ## CONFIG_WRITE (R189) -/

/-- The register a CONFIG_WRITE names: one with RW fields in its object's window. -/
def configTarget (d : Desc) : Option Nat :=
  let o := d.p 32 2
  match objWindow d.objType.toNat d.objIndex.toNat with
  | none => none
  | some win => if o % 4 = 0 ∧ o < win.2 ∧ (viewFields 0 (win.1 + o)).any (fun f => f.acc == .rw) then some (win.1 + o) else none

/-- CONFIG_WRITE's checks: it is defined on slots and layers. -/
def configWriteSpec : OpSpec :=
  { opcode := 0x0011, object := fun t i => (t == 2 || t == 3) && objExists t i,
    form := fun d => d.zeroFrom 40 && d.p 34 2 == 0 && (configTarget d).isSome }

/-- CONFIG_WRITE: one shadow register takes its value. -/
def actConfigWrite (d : Desc) (t : Ticket) (s : State) : State :=
  match configTarget d with
  | none => s.complete t 0x3402 0
  | some off =>
    let l := viewFields 0 off
    let s1 := (s.putFields (d.p 36 4) l).logDesc t.fn d.obj 0 (s.word (readable l)) (d.p 36 4)
    (s1.mirrorCfg off (d.p 36 4)).complete t 0 0

def execConfigWrite (d : Desc) (s : State) : Host.Outcome State Fault Refusal := .next (s.runDesc configWriteSpec d actConfigWrite)

/-! ## CONFIG_READ -/

/-- The bytes of a window's registers from its start, as a read finds them. -/
def State.windowBytes (s : State) (f off : Nat) : Nat → List Byte × State
  | 0 => ([], s)
  | n + 1 =>
    let a := s.readFields (readable (viewFields f off))
    let b := a.2.windowBytes f (off + 4) n
    (leBytes 4 a.1 ++ b.1, b.2)

/-- CONFIG_READ's checks. -/
def configReadSpec : OpSpec := { opcode := 0x0012, object := objExists, usesIndirect := true }

/-- CONFIG_READ: the registers of the object's window, as many bytes as the buffer takes. -/
def actConfigRead (d : Desc) (t : Ticket) (s : State) : State :=
  match objWindow d.objType.toNat d.objIndex.toNat with
  | none => s.complete t 0 0
  | some win =>
    let n := min (d.p 40 4) win.2
    let r := s.windowBytes (if d.objType = 0 then t.fn else 0) win.1 (ceilDiv n 4)
    (r.2.hostWrite t (d.p 32 8) (r.1.take n)).complete t 0 0

def execConfigRead (d : Desc) (s : State) : Host.Outcome State Fault Refusal := .next (s.runDesc configReadSpec d actConfigRead)

/-! ## STATS_READ -/

/-- The 32 bytes of a picture record (R258). -/
def PicRecord.bytesOf (x : PicRecord) : List Byte :=
  leBytes 4 x.pic ++ leBytes 4 x.bytes ++ leBytes 4 x.target ++ leBytes 4 x.peakRow ++ leBytes 4 x.guardCtus ++ leBytes 1 x.spoilFrom
  ++ leBytes 1 x.qpLo ++ leBytes 1 x.qpHi ++ leBytes 1 x.flags ++ leBytes 4 (unsigned 32 x.fullness) ++ leBytes 4 0

/-- The 64 bytes of an egress queue's record (R354). -/
def State.queueStats (s : State) (q : Nat) : List Byte :=
  leBytes 8 (s.get64 (Reg.CAR_P_Q_TX_FRAME_CNT (q / 8) (q % 8)) (Reg.CAR_P_Q_TX_FRAME_CNT_HI (q / 8) (q % 8))) ++ leBytes 8 (Table.getD s.egr.sent q 0)
  ++ leBytes 4 (s.get (Reg.CAR_P_Q_DEPTH_B (q / 8) (q % 8))) ++ leBytes 4 (s.get (Reg.CAR_P_Q_DEPTH_MAX_B (q / 8) (q % 8)))
  ++ leBytes 4 (s.get (Reg.CAR_P_Q_DELAY_MAX_NS (q / 8) (q % 8)))
  ++ leBytes 2 (s.get (Reg.CAR_P_Q_DROP_CNT (q / 8) (q % 8))) ++ leBytes 2 (s.get (Reg.CAR_P_Q_OVERSIZE_CNT (q / 8) (q % 8)))
  ++ leBytes 2 (s.get (Reg.CAR_P_Q_DOWN_DROP_CNT (q / 8) (q % 8))) ++ leBytes 2 (s.get (Reg.CAR_P_Q_OVERDUE_CNT (q / 8) (q % 8)))
  ++ leBytes 4 (s.get (Reg.TRN_Q_GREEN_CNT q)) ++ leBytes 4 (s.get (Reg.TRN_Q_YELLOW_CNT q)) ++ leBytes 4 (s.get (Reg.TRN_Q_RED_CNT q))
  ++ leBytes 4 (s.lc % 2 ^ 32) ++ List.replicate 12 0

/-- The registers of a window that hold an object's counters, where no rule lays out a record (DESIGN CHOICE, log entry 75). -/
def counterOffsets (type index : Nat) : List Nat :=
  match type with
  | 0 => [0x30, 0x34]
  | 3 => [0x30, 0x34]
  | 4 => if index < 4 then [0x18] else []
  | 5 => [0x24, 0x28, 0x2C, 0x30, 0x34, 0x38, 0x3C]
  | 7 => if isAudIn index then [0x10, 0x14, 0x18] else [0x04, 0x1C]
  | _ => []

/-- The words of those registers. -/
def State.counterBytes (s : State) (f type index : Nat) : List Byte :=
  match objWindow type index with
  | none => []
  | some win => (counterOffsets type index).flatMap (fun o => leBytes 4 (s.word (readable (viewFields (if type = 0 then f else 0) (win.1 + o)))))

/-- The records of a slot that a buffer takes: the newest, oldest first. -/
def State.slotRecords (s : State) (n len : Nat) : List PicRecord :=
  let l := (s.slot n).records
  l.drop (l.length - min (len / 32) l.length)

/-- STATS_READ's checks. -/
def statsSpec : OpSpec := { opcode := 0x0013, object := objExists, usesIndirect := true }

/-- STATS_READ: picture records, a queue's record, an AES3 input's blocks, or an object's counters. -/
def actStatsRead (d : Desc) (t : Ticket) (s : State) : State :=
  let i := d.objIndex.toNat
  let len := d.p 40 4
  if d.objType = 2 then
    let l := s.slotRecords i len
    (s.hostWrite t (d.p 32 8) (l.flatMap PicRecord.bytesOf)).complete t 0 l.length
  else
    let data := if d.objType = 6 then s.queueStats i
      else if d.objType = 7 ∧ isAesIn i then s.aesStats i
      else s.counterBytes t.fn d.objType.toNat i
    (s.hostWrite t (d.p 32 8) (data.take len)).complete t 0 0

def execStatsRead (d : Desc) (s : State) : Host.Outcome State Fault Refusal := .next (s.runDesc statsSpec d actStatsRead)

end Sys2Proof.Machine
end

