-- ==== Sys2Proof/Machine/Boot.lean ====
section
/-! DEFINITION. Resets and the boot (chapters 03, 18, 20: R87 to R93, R456, R459 to R462, R506). -/

namespace Sys2Proof.Machine

/-! ## Reset -/

/-- Fields whose values are fused: FW_FUSE writes them once or raises them, and reset keeps them (R455). -/
def fusedFields : List Field :=
  [Reg.FW_OWNER_FUSED, Reg.FW_ROLLBACK_SUPER, Reg.FW_ROLLBACK_SLICE, Reg.FW_ROLLBACK_LINK, Reg.FW_ROLLBACK_AUDIO, Reg.FW_ROLLBACK_CONFIG]

/-- The pins a reset releases. -/
def State.releasePins (before s : State) : State :=
  let s1 := if before.sys.faultPin then s.emit (.pin .faultN true) else s
  let s2 := if before.sys.thermPin then s1.emit (.pin .thermtripN true) else s1
  if before.safFaultPin then s2.emit (.pin .safFaultN true) else s2

/-- A device reset (R39): everything returns to its reset value but what is fused; SYS_RST_N and the detector's levels are kept as
given. -/
def State.deviceReset (s : State) (rstLow porLow : Bool) : State :=
  let base : State :=
    { State.reset with fw := { Fw.reset with owner := s.fw.owner }, sys := { Sys.reset with rstLow := rstLow, porLow := porLow },
                       out := s.out, free := s.free, pending := s.pending }
  s.releasePins (base.setAll (fusedFields.map (fun f => (f, s.get f))))

/-! ## The boot ROM (R88 to R90) -/

/-- The pairs that fail the floor self-test are fenced with 0xF301. -/
def State.bootFences (s : State) : List UnitId → State
  | [] => s
  | .pair p :: l => (s.fenceCore (.pair p)).bootFences l
  | _ :: l => s.bootFences l

/-- Whether a floor unit other than a pair failed. -/
def floorFails (l : List UnitId) : Bool := l.any (fun u => u == .ringmaster || u == .barker || u == .housekeeping)

/-- The boot ROM starts: straps, the floor self-test, the active pair, the domains of SERVICE, the boot path. -/
def State.boot (s : State) (strap smb : Nat) (b : Boot) : State :=
  let s0 : State := { s with sys := { s.sys with smbAddr := smb }, dram := { s.dram with populated := b.populated.toNat } }
  let s1 := ((s0.set Reg.PWR_BOOT_BOOT_STRAP strap).setPds true [0, 1]).bootFences b.failed
  match s1.lowestPair with
  | none => s1.halt 0xF304
  | some p =>
    let s2 := s1.set Reg.PWR_MODE_STATUS_ACTIVE_PAIR p
    if floorFails b.failed then s2.halt 0xF304
    else
      (s2.setPds true (s2.neededPds modeService)).setAll
        [(Reg.PWR_MODE_STATUS_PHASE, if strap = 1 then phaseBootWait else phaseBoot)]

/-- Whether the PCIe island may still answer a configuration request with Configuration Request Retry Status (R92): during a boot
over PCIe, or with the last pair fenced, for 100 ms after SYS_RST_N rose, where LC starts (R39), or after the last PERST_N, whichever
is later. Configuration requests are no commands of the table (## Scope). -/
def State.mayRetry (s : State) : Bool :=
  ((s.phase == phaseBootWait && decide (s.get Reg.PWR_BOOT_BOOT_STRAP < 2)) || s.lowestPair.isNone)
    && decide (s.lc ≤ s.sys.perst + ticksPerSec / 10)

/-- DEVICE_RESET: SYS_RST_N low holds the device in reset; the PWR_RESET timer resets it and it boots at once with the straps it
sampled before (R87, R88). -/
def State.resetFrom (s : State) : ResetSrc → State
  | .pin => s.deviceReset true s.sys.porLow
  | .timer b =>
    match s.sys.resetAt with
    | none => s
    | some t => if s.lc < t then s else (s.deviceReset false false).boot (s.get Reg.PWR_BOOT_BOOT_STRAP) s.sys.smbAddr b

def execDeviceReset (src : ResetSrc) (s : State) : Host.Outcome State Fault Refusal := .next (s.resetFrom src)

/-- SYS_RST_N_RISE: the straps are sampled and the boot ROM starts, unless the power-on-reset detector still holds the device. -/
def State.rstRise (s : State) (b : Boot) : State :=
  if !s.sys.rstLow then s
  else
    let s1 : State := { s with sys := { s.sys with rstLow := false } }
    if s.sys.porLow then s1 else s1.boot b.bootSrc b.smbAddr b

def execSysRstNRise (b : Boot) (s : State) : Host.Outcome State Fault Refusal := .next (s.rstRise b)

/-- RAIL_DROP (R506): a device reset that the detector holds. -/
def execRailDrop (s : State) : Host.Outcome State Fault Refusal := .next (s.deviceReset s.sys.rstLow true)

/-- POWER_ON_RESET_RELEASE (R506). -/
def State.porRelease (s : State) (b : Boot) : State :=
  if !s.sys.porLow then s
  else
    let s1 : State := { s with sys := { s.sys with porLow := false } }
    if s.sys.rstLow then s1 else s1.boot b.bootSrc b.smbAddr b

def execPowerOnResetRelease (b : Boot) (s : State) : Host.Outcome State Fault Refusal := .next (s.porRelease b)

/-! ## The supervisor image (R459 to R462) -/

/-- The supervisor runs a bundle: its images are in force, its set is judged, and training of the populated ranks begins. An image of
the bundle that is not valid is logged with its code. -/
def State.runBundle (s : State) (l : List Byte) : State :=
  let bad := (bundleEntries l).filter (fun e => s.bundleImageCode l e.1 != 0)
  let s1 := s.takeBundle l
  let s2 := bad.foldl (fun (t : State) e => t.logUnit originSuper s.activePair (s.bundleImageCode l e.1) blockFw e.1) s1
  let s3 := if testedTogether s2.fw.images then s2 else s2.set Reg.PWR_SERVICE_REASON 0x9181
  (ranks.foldl (fun (t : State) p => if bit t.dram.populated p then t.setRank p rankTraining else t) s3).set Reg.PWR_MODE_STATUS_PHASE phaseBoot

/-- The code of a flash bank: one that cannot be read has no directory. -/
def State.flashBankCode (s : State) (x : Option (List Byte)) : Code :=
  match x with
  | none => 0x1181
  | some l => s.bankCode l

/-- The banks in the order the boot ROM takes them: descending GEN, bank A first when equal. -/
def bankOrder (a b : Option (List Byte)) : List (Nat × Option (List Byte)) :=
  let gen (x : Option (List Byte)) : Nat := match x with
    | none => 0
    | some l => leAt l 4 4
  if gen a < gen b then [(2, b), (1, a)] else [(1, a), (2, b)]

/-- SUPERVISOR_IMAGE_LOADED (R461): the first bank that passes is booted; when none does, PCIe or BOOT_WAIT (R90). -/
def State.imageLoaded (s : State) (a b : Option (List Byte)) : State :=
  if s.phase ≠ phaseBoot ∨ s.sys.rstLow ∨ s.sys.porLow ∨ s.on Reg.PWR_BOOT_BOOT_USED then s
  else
    let s1 := s.setAll [(Reg.FW_BANK_STATUS_BANK_A, s.flashBankCode a), (Reg.FW_BANK_STATUS_BANK_B, s.flashBankCode b)]
    match (bankOrder a b).find? (fun e => s.flashBankCode e.2 == 0) with
    | some (k, some l) => (s1.setAll [(Reg.FW_BOOT_STATUS_BANK, k), (Reg.PWR_BOOT_BOOT_USED, 1)]).runBundle l
    | _ =>
      let s2 := s1.set Reg.PWR_MODE_STATUS_PHASE phaseBootWait
      if s.get Reg.PWR_BOOT_BOOT_STRAP = 0 then s2 else s2.set Reg.PWR_SERVICE_REASON 0x2304

def execSupervisorImageLoaded (a b : Option (List Byte)) (s : State) : Host.Outcome State Fault Refusal := .next (s.imageLoaded a b)

/-- The code of a PCIe bundle: its address and length, then the checks of a bank; a bundle that cannot be read is malformed. -/
def State.pcieCode (s : State) (len : Nat) (l : Option (List Byte)) : Code :=
  match l with
  | none => 0x1181
  | some x =>
    if len < 4096 ∨ 16777216 < len ∨ s.get Reg.FW_PCIE_ADDR_LO % 64 ≠ 0 then 0x1181 else s.bankCode (x.take len)

/-- FW_PCIE_GO (R462): in BOOT_WAIT with PCIe as the boot path. -/
def State.pcieGo (s : State) (w : Writer) (v : Nat) (bundle : Option (List Byte)) : State :=
  s.byWriter w Reg.FW_PCIE_CTRL_LEN.off (fun s =>
    let len := bits v 24 0
    let s1 := (s.set Reg.FW_PCIE_CTRL_LEN len).logReg w Reg.FW_PCIE_CTRL_LEN.off 0 (s.get Reg.FW_PCIE_CTRL_LEN) v
    if !(bit v 31) ∨ s.phase ≠ phaseBootWait ∨ 2 ≤ s.get Reg.PWR_BOOT_BOOT_STRAP then s1
    else
      let c := s.pcieCode len bundle
      let s2 := s1.setAll [(Reg.FW_BOOT_STATUS_PCIE_STATUS, c), (Reg.PWR_BOOT_BOOT_USED, 2)]
      if c ≠ 0 then s2 else (s2.set Reg.FW_BOOT_STATUS_BANK 3).runBundle ((bundle.getD []).take len))

def execFwPcieGo (w : Writer) (value : BitVec 32) (bundle : Option (List Byte)) (s : State) : Host.Outcome State Fault Refusal :=
  .next (s.pcieGo w value.toNat bundle)

/-! ## Training and STABLE (R91, R93, R456) -/

/-- The writer that applies the configuration image. -/
def State.superWriter (s : State) : Writer := .super (Fin.ofNat 4 s.activePair)

/-- Pass 1: the staging base, the DMC_ records, then the layout's commit (R456, R376). -/
def State.configPass1 (s : State) : State :=
  let w := s.superWriter
  let s1 := (s.fw.config.filter (fun e => e.1 == recStage)).foldl (fun (t : State) e => t.set Reg.FW_STAGE_BASE e.2) s
  let s2 := (s.fw.config.filter (fun e => blockOf e.1 == 9)).foldl (fun (t : State) e => t.writeWord w e.1 e.2) s1
  let f := [Reg.DMC_LAYOUT_SPARE_EN, Reg.DMC_LAYOUT_SPARE_CH, Reg.DMC_LAYOUT_RANK_SIZE, Reg.DMC_LAYOUT_NR]
  if s.fw.config.any (fun e => e.1 == Reg.DMC_LAYOUT_NR.off) && !s2.dram.formed then s2.writeWord w Reg.DMC_LAYOUT_NR.off (2 ^ 31 + s2.word f) else s2

/-- One record of pass 2. -/
def State.applyRecord (s : State) (w : Writer) (e : Nat × Nat) : State :=
  if e.1 = recKey then s.setKey e.2 ((leBytes 64 e.2).reverse)
  else if e.1 = recAuto then s.set Reg.PWR_BOOT_AUTO_MODE (bits e.2 3 0)
  else if e.1 = recStage ∨ blockOf e.1 = 9 then s
  else s.writeWord w e.1 e.2

/-- PHASE becomes STABLE for the first time: pass 2 of the configuration image, then the AUTOSTART request in the same cycle. -/
def State.firstStable (s : State) : State :=
  let s1 := ({ s with sys := { s.sys with stable := true } } : State).set Reg.PWR_MODE_STATUS_PHASE phaseStable
  let s2 := s1.fw.config.foldl (fun (t : State) e => t.applyRecord s1.superWriter e) s1
  let m := s2.get Reg.PWR_BOOT_AUTO_MODE
  if m = 0xF then s2
  else
    s2.ask { w := s2.superWriter, target := m, force := false, ticket := none, old := s2.get Reg.PWR_MODE_CTRL_TARGET, new := 2 ^ 31 + m }

/-- RANK_TRAINED (R91): the first trained rank brings PHASE TRAINING and the check of the supervisor image's rest (R461); after the
last populated rank the layout is committed and PHASE is STABLE. -/
def State.rankDone (s : State) (p : Nat) (ok : Bool) : State :=
  if !(bit s.dram.populated p) ∨ bit s.dram.trained p ∨ s.rankState p ≠ rankTraining ∨ !(s.phase == phaseBoot || s.phase == phaseTraining) then s
  else
    let s1 := s.rankTrained p ok
    let s2 := if ok ∧ s.phase = phaseBoot then
        (if s1.fw.restBad then s1.set Reg.PWR_SERVICE_REASON 0x9182 else s1).set Reg.PWR_MODE_STATUS_PHASE phaseTraining
      else s1
    if s2.allTrained ∧ s2.phase = phaseTraining then s2.configPass1.firstStable else s2

def execRankTrained (p : Fin 16) (ok : Bool) (s : State) : Host.Outcome State Fault Refusal := .next (s.rankDone p ok)

/-- AUTOSTART_SLOT_START (R93): when the active domain first is LOCKED, each slot with AUTOSTART issues START. -/
def State.autostart (s : State) (failed : List UnitId) : State :=
  if s.sys.started ∨ !s.sys.stable ∨ s.servo s.activeDom ≠ servoLocked then s
  else
    let s1 : State := { s with sys := { s.sys with started := true } }
    ((List.finRange 4).filter (fun n => s.on (Reg.ENC_BS_RUN_AUTOSTART n.val))).foldl (fun (t : State) n =>
      t.run (execSlotStart (.reg t.superWriter (t.on (Reg.ENC_BS_RUN_FREERUN_OK n.val)) true) n failed)) s1

def execAutostartSlotStart (failed : List UnitId) (s : State) : Host.Outcome State Fault Refusal := .next (s.autostart failed)

end Sys2Proof.Machine
end

