-- ==== Sys2Proof/Machine/Launches.lean ====
section
/-! DEFINITION. Launches that fire (chapters 01, 02, 04, 16: R24, R68 to R74, R124, R407): the head of a unit's queue fires at its
tick, late ones are reported, and the command bound to the launch word acts. -/

namespace Sys2Proof.Machine

/-! ## Timed descriptors (R124) -/

/-- The action of an opcode, as a timed descriptor carries it out when its launch fires. -/
def opcodeAct (opcode : Nat) : Desc → Ticket → State → State :=
  match opcode with
  | 0x001 => actCreateRing
  | 0x002 => actDestroyRing
  | 0x003 => actMode
  | 0x010 => actSlotCmd []
  | 0x011 => actConfigWrite
  | 0x012 => actConfigRead
  | 0x013 => actStatsRead
  | 0x020 => actCancelTimed
  | 0x100 => actCmpCommit
  | 0x101 => actSurfaceLoad
  | 0x102 => actTableLoad
  | 0x180 => actSafLoad
  | 0x181 => actSafEnroll
  | 0x300 => actLaneRetrain
  | 0x301 => actAknSend
  | 0x400 => actCarListLoad
  | 0x500 => actCaptureRead
  | 0x501 => actAudioCmd
  | 0x502 => actTemplateLoad
  | 0x600 => actMigrate
  | 0x700 => actChkScan
  | 0x900 => actHealthRead
  | 0x901 => actTakeover
  | 0xA00 => actFwStage
  | 0xA01 => actFwActivate
  | 0xA02 => actFlashWrite true
  | 0xA03 => actFwFuse
  | 0xB00 => actLdgRead
  | _ => fun _ t s => s.complete t 0 0

/-! ## What a fired launch does -/

/-- A launch word that carries no command of the device's own: at a slice engine it signals its task, at a supervisor a generic event
sets its launch source (R407, R411); at the other units nothing is bound to it. -/
def State.bareLaunch (s : State) (u kind tag : Nat) : State :=
  if 32 ≤ u ∧ u < 128 then s.launchTask kind tag
  else if 256 ≤ u ∧ u < 264 then s.latch (1016 + (u - 256))
  else s

/-- The gate masks of a port change to those of the tick, and the next switch is queued (R346). -/
def State.gateFired (s : State) (i : Nat) : State :=
  (s.setPort i { s.port i with gates := s.gatesOpen i s.lc }).queueGate i

/-- The act of a launch that fires; `decided` is what the encoder settled before the row (R252). -/
def State.launchActs (s : State) (u : Nat) (q : QLaunch) (late : Bool) (decided : List (Fin 64 × Nat)) : State :=
  match q.act with
  | .firmware => s.bareLaunch u q.kind q.tag
  | .timed op d t => opcodeAct op d { t with late := late } s
  | .composition n pic => s.compositionStart n pic
  | .encodeRow n pic k => s.encodeRowStart u n pic k decided
  | .release n pic k => s.releaseRow (u - 128) n pic k
  | .decodeRow n pic k => s.decodeRowStart u n pic k
  | .present i pic => s.presentFired i pic
  | .frameStart i pic => s.frameStartFired i pic
  | .gate i _ => s.gateFired i
  | .sample k => sampleFired k s

/-- A launch that fires late is counted and raises 0x5001 with its UNIT and TAG (R71). -/
def State.lateLaunch (s : State) (u tag : Nat) : State :=
  (s.bump Reg.TIM_LAUNCH_LATE_CNT).raise 0x5001 objDevice { w16 := u + 2 ^ 16 * tag }

/-- The lane picture a presentation launch stands for, discarded when it would fire late (R24, R297). A descriptor's presentation
launch that would fire late completes with 0x5102, the status that R24 names in place of 0x5001 (log entry 52). -/
def State.launchDiscard (s : State) (q : QLaunch) : State :=
  match q.act with
  | .present i pic => s.presentLate i pic
  | .timed _ _ t => s.complete t 0x5102 0
  | _ => s

/-- Whether a unit's head launch fires in this tick at its own tick. -/
def State.firesOnTime (s : State) (u : Nat) : Bool :=
  s.firesNow u && (match s.queue u with | [] => false | q :: _ => !(s.past q.ref q.instant))

/-- Whether a unit of lower index still has a launch to fire at this tick: of the launches of one tick the lower unit comes first
(R74), so a launch command out of that order has no effect (log entry 104). -/
def State.lowerWaits (s : State) (u : Nat) : Bool := s.tim.queues.any (fun e => decide (e.1 < u) && s.firesOnTime e.1)

/-- Fire the head of a unit's queue when its KIND is one of those named and it fires now (R68, R71, R74). A launch whose tick a
change of mapping or the last tick of a slew has passed over is late like any other (R69): it fires now with 0x5001 (DEDUCED, log
entry 105: R69's last sentence says that over a slew or a rate change a launch is never late). -/
def State.fireHead (s : State) (u : Nat) (kinds : List Nat) (decided : List (Fin 64 × Nat)) : State :=
  match s.queue u with
  | [] => s
  | q :: l =>
    if !(kinds.contains q.kind) || !(s.firesNow u) || s.lowerWaits u then s
    else
      let s1 := s.setQueue u l
      let late := s.past q.ref q.instant
      if late && q.kind == 5 then s1.launchDiscard q
      else
        let s2 : State := { s1 with tim := { s1.tim with fired := Table.put s1.tim.fired u s.lc } }
        (if late then s2.lateLaunch u q.tag else s2).launchActs u q late decided

/-! ## The commands -/

/-- COMPOSITION_START: UNIT 0 to 3 (R173). -/
def execCompositionStart (u : Fin 4) (s : State) : Host.Outcome State Fault Refusal := .next (s.fireHead u [1] [])

/-- ENCODE_ROW_START: a Face (UNIT 16 to 31) or slice engine (UNIT 32 to 127) (R219). -/
def execEncodeRowStart (u : Fin 112) (decided : List (Fin 64 × Nat)) (s : State) : Host.Outcome State Fault Refusal :=
  .next (s.fireHead (16 + u) [2] decided)

/-- PACKET_RELEASE: UNIT 128 + i (R343). -/
def execPacketRelease (i : Fin 16) (s : State) : Host.Outcome State Fault Refusal := .next (s.fireHead (128 + i) [3] [])

/-- GATE_SWITCH: UNIT 144 + i (R346). -/
def execGateSwitch (i : Fin 16) (s : State) : Host.Outcome State Fault Refusal := .next (s.fireHead (144 + i) [4] [])

/-- PRESENTATION: UNIT 160 + i (R296). -/
def execPresentation (i : Fin 16) (s : State) : Host.Outcome State Fault Refusal := .next (s.fireHead (160 + i) [5] [])

/-- SAMPLE_RELEASE: UNIT 192 + k (R366). -/
def execSampleRelease (k : Fin 32) (s : State) : Host.Outcome State Fault Refusal :=
  .next (if s.domEnabled s.activeDom then s.fireHead (192 + k) [6] [] else (s.fireHead (192 + k) [6] []).frozenFrame (audPortOf k))

/-- DECODE_ROW_START: a Face (R274). -/
def execDecodeRowStart (u : Fin 16) (s : State) : Host.Outcome State Fault Refusal := .next (s.fireHead (16 + u) [7] [])

/-- SCAN_OUT_FRAME_START: UNIT 160 + i (R292). -/
def execScanOutFrameStart (i : Fin 16) (s : State) : Host.Outcome State Fault Refusal := .next (s.fireHead (160 + i) [8] [])

/-- GENERIC_EVENT: KIND 0xF at any unit that takes it, and KIND 0x3 at a slice engine (R407). -/
def execGenericEvent (u : Fin 264) (s : State) : Host.Outcome State Fault Refusal :=
  .next (s.fireHead u (if 32 ≤ u.val ∧ u.val < 128 then [0xF, 3] else [0xF]) [])

end Sys2Proof.Machine
end

