-- ==== Sys2Proof/Machine/Dispatch.lean ====
section
/-! DEFINITION. The dispatch of the commands: one arm per constructor of Instr, each one call of that command's meaning. -/

namespace Sys2Proof.Machine

def exec (i : Instr) (s : State) : Host.Outcome State Fault Refusal :=
  match i with
  | .registerWrite w off form value => Sys2Proof.Machine.execRegisterWrite w off form value s
  | .lowWordRead w off form => Sys2Proof.Machine.execLowWordRead w off form s
  | .timDomClr w n => Sys2Proof.Machine.execTimDomClr w n s
  | .timLateClr w => Sys2Proof.Machine.execTimLateClr w s
  | .encLateClr w n => Sys2Proof.Machine.execEncLateClr w n s
  | .pwrCntClr w => Sys2Proof.Machine.execPwrCntClr w s
  | .hifFnClr f => Sys2Proof.Machine.execHifFnClr f s
  | .ingLaneClr w => Sys2Proof.Machine.execIngLaneClr w s
  | .ingRxClr w r => Sys2Proof.Machine.execIngRxClr w r s
  | .cmpSlotClr w n => Sys2Proof.Machine.execCmpSlotClr w n s
  | .safClr w => Sys2Proof.Machine.execSafClr w s
  | .encEffortCntClr w => Sys2Proof.Machine.execEncEffortCntClr w s
  | .encBsClr w n => Sys2Proof.Machine.execEncBsClr w n s
  | .encPktClr w n => Sys2Proof.Machine.execEncPktClr w n s
  | .decBsClr w n => Sys2Proof.Machine.execDecBsClr w n s
  | .rcBsClr w n => Sys2Proof.Machine.execRcBsClr w n s
  | .scnLaneClr w idx => Sys2Proof.Machine.execScnLaneClr w idx s
  | .laneClr w idx => Sys2Proof.Machine.execLaneClr w idx s
  | .aknClr w idx => Sys2Proof.Machine.execAknClr w idx s
  | .carSwapCntClr w idx => Sys2Proof.Machine.execCarSwapCntClr w idx s
  | .carQueueClr w idx c => Sys2Proof.Machine.execCarQueueClr w idx c s
  | .trnClr w => Sys2Proof.Machine.execTrnClr w s
  | .audCntClr w => Sys2Proof.Machine.execAudCntClr w s
  | .dmcClr w => Sys2Proof.Machine.execDmcClr w s
  | .brkClr w => Sys2Proof.Machine.execBrkClr w s
  | .jugClr w => Sys2Proof.Machine.execJugClr w s
  | .chkClr w n => Sys2Proof.Machine.execChkClr w n s
  | .trpClr w => Sys2Proof.Machine.execTrpClr w s
  | .thmClr w => Sys2Proof.Machine.execThmClr w s
  | .snap w => Sys2Proof.Machine.execSnap w s
  | .revert w => Sys2Proof.Machine.execRevert w s
  | .domainEnable w d => Sys2Proof.Machine.execDomainEnable w d s
  | .domainDisable w d => Sys2Proof.Machine.execDomainDisable w d s
  | .acceptJump w d => Sys2Proof.Machine.execAcceptJump w d s
  | .todSecWrite w d sec => Sys2Proof.Machine.execTodSecWrite w d sec s
  | .launchWindowWrite pair word => Sys2Proof.Machine.execLaunchWindowWrite pair word s
  | .launchCancel w unit tag => Sys2Proof.Machine.execLaunchCancel w unit tag s
  | .syncRx h t1 => Sys2Proof.Machine.execSyncRx h t1 s
  | .followUpRx h t1 => Sys2Proof.Machine.execFollowUpRx h t1 s
  | .delayReqSend d lane sub => Sys2Proof.Machine.execDelayReqSend d lane sub s
  | .delayRespRx h t4 => Sys2Proof.Machine.execDelayRespRx h t4 s
  | .announceRx h a => Sys2Proof.Machine.execAnnounceRx h a s
  | .masterLoss d => Sys2Proof.Machine.execMasterLoss d s
  | .slewEnd => Sys2Proof.Machine.execSlewEnd s
  | .ppsInEdge sub => Sys2Proof.Machine.execPpsInEdge sub s
  | .ppsInLoss => Sys2Proof.Machine.execPpsInLoss s
  | .clk10InLoss => Sys2Proof.Machine.execClk10InLoss s
  | .pllRefSwitch => Sys2Proof.Machine.execPllRefSwitch s
  | .ppsOutEdge => Sys2Proof.Machine.execPpsOutEdge s
  | .ethFrameForward idx f => Sys2Proof.Machine.execEthFrameForward idx f s
  | .compositionStart u => Sys2Proof.Machine.execCompositionStart u s
  | .encodeRowStart u decided => Sys2Proof.Machine.execEncodeRowStart u decided s
  | .packetRelease idx => Sys2Proof.Machine.execPacketRelease idx s
  | .gateSwitch idx => Sys2Proof.Machine.execGateSwitch idx s
  | .presentation idx => Sys2Proof.Machine.execPresentation idx s
  | .sampleRelease k => Sys2Proof.Machine.execSampleRelease k s
  | .decodeRowStart u => Sys2Proof.Machine.execDecodeRowStart u s
  | .scanOutFrameStart idx => Sys2Proof.Machine.execScanOutFrameStart idx s
  | .genericEvent u => Sys2Proof.Machine.execGenericEvent u s
  | .modeRequest w target force => Sys2Proof.Machine.execModeRequest w target force s
  | .mode d => Sys2Proof.Machine.execMode d s
  | .modeDrained => Sys2Proof.Machine.execModeDrained s
  | .powerWaveDone => Sys2Proof.Machine.execPowerWaveDone s
  | .modeLoadDone failed reloads => Sys2Proof.Machine.execModeLoadDone failed reloads s
  | .pwrReset w value => Sys2Proof.Machine.execPwrReset w value s
  | .deviceReset src => Sys2Proof.Machine.execDeviceReset src s
  | .sysRstNRise b => Sys2Proof.Machine.execSysRstNRise b s
  | .pcieReset => Sys2Proof.Machine.execPcieReset s
  | .supervisorImageLoaded a b => Sys2Proof.Machine.execSupervisorImageLoaded a b s
  | .fwPcieGo w value bundle => Sys2Proof.Machine.execFwPcieGo w value bundle s
  | .rankTrained p ok => Sys2Proof.Machine.execRankTrained p ok s
  | .autostartSlotStart failed => Sys2Proof.Machine.execAutostartSlotStart failed s
  | .lockstepCompareFail => Sys2Proof.Machine.execLockstepCompareFail s
  | .unitRuntimeFault u => Sys2Proof.Machine.execUnitRuntimeFault u s
  | .slotStart src n failed => Sys2Proof.Machine.execSlotStart src n failed s
  | .slotStop src n => Sys2Proof.Machine.execSlotStop src n s
  | .slotCommit src n => Sys2Proof.Machine.execSlotCommit src n s
  | .slotStopDone n => Sys2Proof.Machine.execSlotStopDone n s
  | .functionOpen f major minor close => Sys2Proof.Machine.execFunctionOpen f major minor close s
  | .functionClose f => Sys2Proof.Machine.execFunctionClose f s
  | .flr f => Sys2Proof.Machine.execFlr f s
  | .d3hotExit f => Sys2Proof.Machine.execD3hotExit f s
  | .penOwnerWrite w p assigned f => Sys2Proof.Machine.execPenOwnerWrite w p assigned f s
  | .slotOwnerWrite w o0 o1 o2 o3 => Sys2Proof.Machine.execSlotOwnerWrite w o0 o1 o2 o3 s
  | .vectorWrite w f count base vfEnable => Sys2Proof.Machine.execVectorWrite w f count base vfEnable s
  | .doorbell f page off whole value => Sys2Proof.Machine.execDoorbell f page off whole value s
  | .nop opcode d => Sys2Proof.Machine.execNop opcode d s
  | .createRing d => Sys2Proof.Machine.execCreateRing d s
  | .destroyRing d => Sys2Proof.Machine.execDestroyRing d s
  | .destroyRingDone r => Sys2Proof.Machine.execDestroyRingDone r s
  | .configWrite d => Sys2Proof.Machine.execConfigWrite d s
  | .configRead d => Sys2Proof.Machine.execConfigRead d s
  | .statsRead d => Sys2Proof.Machine.execStatsRead d s
  | .cancelTimed d => Sys2Proof.Machine.execCancelTimed d s
  | .ringFetchError r => Sys2Proof.Machine.execRingFetchError r s
  | .msixModerationTimeout r => Sys2Proof.Machine.execMsixModerationTimeout r s
  | .msixUnmask v mask => Sys2Proof.Machine.execMsixUnmask v mask s
  | .bsInEntry r e posted => Sys2Proof.Machine.execBsInEntry r e posted s
  | .ingLaneMaskWrite w mask => Sys2Proof.Machine.execIngLaneMaskWrite w mask s
  | .receiverEnable w r path1 path0 pt => Sys2Proof.Machine.execReceiverEnable w r path1 path0 pt s
  | .receiverDisable w r enable path1 path0 pt => Sys2Proof.Machine.execReceiverDisable w r enable path1 path0 pt s
  | .videoPacketRx r p x => Sys2Proof.Machine.execVideoPacketRx r p x s
  | .audioPacketRx r p x => Sys2Proof.Machine.execAudioPacketRx r p x s
  | .ancPacketRx r p x => Sys2Proof.Machine.execAncPacketRx r p x s
  | .codedPacketRx r p x posted => Sys2Proof.Machine.execCodedPacketRx r p x posted s
  | .unmatchedFrameRx idx => Sys2Proof.Machine.execUnmatchedFrameRx idx s
  | .arpRequestRx idx q => Sys2Proof.Machine.execArpRequestRx idx q s
  | .pauseFrameRx idx => Sys2Proof.Machine.execPauseFrameRx idx s
  | .badFcsFrameRx idx => Sys2Proof.Machine.execBadFcsFrameRx idx s
  | .igmpQueryRx idx q => Sys2Proof.Machine.execIgmpQueryRx idx q s
  | .pictureCloseTimeout r => Sys2Proof.Machine.execPictureCloseTimeout r s
  | .pathLossTimeout r p => Sys2Proof.Machine.execPathLossTimeout r p s
  | .composeRow n => Sys2Proof.Machine.execComposeRow n s
  | .cmpSlotCommit w n => Sys2Proof.Machine.execCmpSlotCommit w n s
  | .cmpCommit d => Sys2Proof.Machine.execCmpCommit d s
  | .surfaceLoad d => Sys2Proof.Machine.execSurfaceLoad d s
  | .surfaceCopyDone n l => Sys2Proof.Machine.execSurfaceCopyDone n l s
  | .tableLoad d => Sys2Proof.Machine.execTableLoad d s
  | .benchFlattenDone n => Sys2Proof.Machine.execBenchFlattenDone n s
  | .safLoad d => Sys2Proof.Machine.execSafLoad d s
  | .safPackageChecked k => Sys2Proof.Machine.execSafPackageChecked k s
  | .safEnroll d => Sys2Proof.Machine.execSafEnroll d s
  | .safAreaWrite w n value => Sys2Proof.Machine.execSafAreaWrite w n value s
  | .protectedWriteDrop o addr => Sys2Proof.Machine.execProtectedWriteDrop o addr s
  | .sliceComplete n row col x posted => Sys2Proof.Machine.execSliceComplete n row col x posted s
  | .effortFloorWrite w floor => Sys2Proof.Machine.execEffortFloorWrite w floor s
  | .tsPsiTimer n => Sys2Proof.Machine.execTsPsiTimer n s
  | .decodeRowDone n row sp x => Sys2Proof.Machine.execDecodeRowDone n row sp x s
  | .streamLossTimeout n => Sys2Proof.Machine.execStreamLossTimeout n s
  | .laneLineOpen idx => Sys2Proof.Machine.execLaneLineOpen idx s
  | .startOfBlanking idx => Sys2Proof.Machine.execStartOfBlanking idx s
  | .rowReqRx idx tile line ready => Sys2Proof.Machine.execRowReqRx idx tile line ready s
  | .scnLaneCommit w idx => Sys2Proof.Machine.execScnLaneCommit w idx s
  | .laneCfgWrite w idx value => Sys2Proof.Machine.execLaneCfgWrite w idx value s
  | .laneTestWrite w idx value => Sys2Proof.Machine.execLaneTestWrite w idx value s
  | .laneMacWrite w idx high value => Sys2Proof.Machine.execLaneMacWrite w idx high value s
  | .laneRetrain d => Sys2Proof.Machine.execLaneRetrain d s
  | .aknSend d => Sys2Proof.Machine.execAknSend d s
  | .terminationSense idx sensed => Sys2Proof.Machine.execTerminationSense idx sensed s
  | .autonegComplete idx => Sys2Proof.Machine.execAutonegComplete idx s
  | .trainingFrameRx idx x => Sys2Proof.Machine.execTrainingFrameRx idx x s
  | .bitLock idx => Sys2Proof.Machine.execBitLock idx s
  | .amLock idx => Sys2Proof.Machine.execAmLock idx s
  | .trainTimeout idx => Sys2Proof.Machine.execTrainTimeout idx s
  | .lockTimeout idx => Sys2Proof.Machine.execLockTimeout idx s
  | .trainRetry idx => Sys2Proof.Machine.execTrainRetry idx s
  | .farEndLoss idx => Sys2Proof.Machine.execFarEndLoss idx s
  | .ethLinkFault idx => Sys2Proof.Machine.execEthLinkFault idx s
  | .slotLockTimeout idx => Sys2Proof.Machine.execSlotLockTimeout idx s
  | .refclkLoss q => Sys2Proof.Machine.execRefclkLoss q s
  | .refclkReturn q => Sys2Proof.Machine.execRefclkReturn q s
  | .headerSlotRx idx h => Sys2Proof.Machine.execHeaderSlotRx idx h s
  | .capOfferRx idx tile o => Sys2Proof.Machine.execCapOfferRx idx tile o s
  | .capEnumRx idx count minVersion => Sys2Proof.Machine.execCapEnumRx idx count minVersion s
  | .capRetry idx => Sys2Proof.Machine.execCapRetry idx s
  | .echoRespRx idx tile trip => Sys2Proof.Machine.execEchoRespRx idx tile trip s
  | .echoTimeout idx => Sys2Proof.Machine.execEchoTimeout idx s
  | .ctrlRespRx idx tag value status => Sys2Proof.Machine.execCtrlRespRx idx tag value status s
  | .ctrlResponseTimeout idx tag => Sys2Proof.Machine.execCtrlResponseTimeout idx tag s
  | .egressSelect idx => Sys2Proof.Machine.execEgressSelect idx s
  | .carCommit w idx => Sys2Proof.Machine.execCarCommit w idx s
  | .carListLoad d => Sys2Proof.Machine.execCarListLoad d s
  | .gateListSwap idx => Sys2Proof.Machine.execGateListSwap idx s
  | .trnCtrlWrite w q mode ovh => Sys2Proof.Machine.execTrnCtrlWrite w q mode ovh s
  | .aes3FrameRx j f => Sys2Proof.Machine.execAes3FrameRx j f s
  | .aes3LockLoss j rate => Sys2Proof.Machine.execAes3LockLoss j rate s
  | .asrcDecision j ppm => Sys2Proof.Machine.execAsrcDecision j ppm s
  | .sampleSlip j c => Sys2Proof.Machine.execSampleSlip j c s
  | .mclkLoss => Sys2Proof.Machine.execMclkLoss s
  | .mclkResume w => Sys2Proof.Machine.execMclkResume w s
  | .audPortWrite w k value => Sys2Proof.Machine.execAudPortWrite w k value s
  | .audRouteWrite w c value => Sys2Proof.Machine.execAudRouteWrite w c value s
  | .zeroCrossingChange c => Sys2Proof.Machine.execZeroCrossingChange c s
  | .zcTimeout c => Sys2Proof.Machine.execZcTimeout c s
  | .audioCmd d => Sys2Proof.Machine.execAudioCmd d s
  | .audCaptureRead d => Sys2Proof.Machine.execAudCaptureRead d s
  | .audTemplateLoad d => Sys2Proof.Machine.execAudTemplateLoad d s
  | .dmcLayoutCommit w value => Sys2Proof.Machine.execDmcLayoutCommit w value s
  | .trnWrite w c value => Sys2Proof.Machine.execTrnWrite w c value s
  | .trnReadCompare w c value => Sys2Proof.Machine.execTrnReadCompare w c value s
  | .trnWriteCompare w c value => Sys2Proof.Machine.execTrnWriteCompare w c value s
  | .trnOpDone c errors => Sys2Proof.Machine.execTrnOpDone c errors s
  | .trnDlySet w c value => Sys2Proof.Machine.execTrnDlySet w c value s
  | .mrWrite w c addr data => Sys2Proof.Machine.execMrWrite w c addr data s
  | .mrRead w c addr answer => Sys2Proof.Machine.execMrRead w c addr answer s
  | .setFillDone k => Sys2Proof.Machine.execSetFillDone k s
  | .eccCorrectedRead b => Sys2Proof.Machine.execEccCorrectedRead b s
  | .eccUncorrectableRead b => Sys2Proof.Machine.execEccUncorrectableRead b s
  | .commandRetryFail p => Sys2Proof.Machine.execCommandRetryFail p s
  | .patrolScrub spareBad => Sys2Proof.Machine.execPatrolScrub spareBad s
  | .dmcMigrate d => Sys2Proof.Machine.execDmcMigrate d s
  | .migrationComplete => Sys2Proof.Machine.execMigrationComplete s
  | .refresh p mr4 selected => Sys2Proof.Machine.execRefresh p mr4 selected s
  | .taskCreate pair priority affinity preemptible mask all => Sys2Proof.Machine.execTaskCreate pair priority affinity preemptible mask all s
  | .taskDestroy id => Sys2Proof.Machine.execTaskDestroy id s
  | .taskSignal id flags => Sys2Proof.Machine.execTaskSignal id flags s
  | .taskWait e mask all => Sys2Proof.Machine.execTaskWait e mask all s
  | .taskYield e => Sys2Proof.Machine.execTaskYield e s
  | .taskDispatch => Sys2Proof.Machine.execTaskDispatch s
  | .jugDrainWrite w drain => Sys2Proof.Machine.execJugDrainWrite w drain s
  | .watchdogExpiry u => Sys2Proof.Machine.execWatchdogExpiry u s
  | .barkerEntry pair => Sys2Proof.Machine.execBarkerEntry pair s
  | .brkComplete pair src => Sys2Proof.Machine.execBrkComplete pair src s
  | .brkSwWrite w value => Sys2Proof.Machine.execBrkSwWrite w value s
  | .brkLatchClear w idx mask => Sys2Proof.Machine.execBrkLatchClear w idx mask s
  | .chkCtrlWrite w n value => Sys2Proof.Machine.execChkCtrlWrite w n value s
  | .chkScan d => Sys2Proof.Machine.execChkScan d s
  | .chkScanDone n => Sys2Proof.Machine.execChkScanDone n s
  | .trpCtrlWrite w value => Sys2Proof.Machine.execTrpCtrlWrite w value s
  | .helloSend => Sys2Proof.Machine.execHelloSend s
  | .helloRx idx h => Sys2Proof.Machine.execHelloRx idx h s
  | .partnerLoss => Sys2Proof.Machine.execPartnerLoss s
  | .mirrorDataRx idx seq malformed => Sys2Proof.Machine.execMirrorDataRx idx seq malformed s
  | .configRecord l => Sys2Proof.Machine.execConfigRecord l s
  | .surfRecord addr data poison => Sys2Proof.Machine.execSurfRecord addr data poison s
  | .refRecord n pic addr blocks poison => Sys2Proof.Machine.execRefRecord n pic addr blocks poison s
  | .sliceRecord n pic row sp bytes => Sys2Proof.Machine.execSliceRecord n pic row sp bytes s
  | .ckptRecord n pic c => Sys2Proof.Machine.execCkptRecord n pic c s
  | .rowEndRecord n pic row seq count => Sys2Proof.Machine.execRowEndRecord n pic row seq count s
  | .safPkgRecord n data => Sys2Proof.Machine.execSafPkgRecord n data s
  | .safLineRecord n x => Sys2Proof.Machine.execSafLineRecord n x s
  | .ringRecord r cons opcode d => Sys2Proof.Machine.execRingRecord r cons opcode d s
  | .syncStartRecord => Sys2Proof.Machine.execSyncStartRecord s
  | .syncEndRecord => Sys2Proof.Machine.execSyncEndRecord s
  | .safLineMissingTimeout n pic row => Sys2Proof.Machine.execSafLineMissingTimeout n pic row s
  | .divergenceRx idx mask => Sys2Proof.Machine.execDivergenceRx idx mask s
  | .ackRx idx seq => Sys2Proof.Machine.execAckRx idx seq s
  | .uncoveredRelease n pic row => Sys2Proof.Machine.execUncoveredRelease n pic row s
  | .resendRequestRx idx seq => Sys2Proof.Machine.execResendRequestRx idx seq s
  | .resendTimeout seq => Sys2Proof.Machine.execResendTimeout seq s
  | .resyncRequestRx idx => Sys2Proof.Machine.execResyncRequestRx idx s
  | .heartbeatToggle => Sys2Proof.Machine.execHeartbeatToggle s
  | .pet w => Sys2Proof.Machine.execPet w s
  | .trpTakeN => Sys2Proof.Machine.execTrpTakeN s
  | .trpTakeover d => Sys2Proof.Machine.execTrpTakeover d s
  | .testTurn => Sys2Proof.Machine.execTestTurn s
  | .trpHealthRead d => Sys2Proof.Machine.execTrpHealthRead d s
  | .fwStage d => Sys2Proof.Machine.execFwStage d s
  | .fwActivate d => Sys2Proof.Machine.execFwActivate d s
  | .updateGroupDrained failed => Sys2Proof.Machine.execUpdateGroupDrained failed s
  | .fwFlashWrite d present => Sys2Proof.Machine.execFwFlashWrite d present s
  | .flashWriteDone ok => Sys2Proof.Machine.execFlashWriteDone ok s
  | .fwFuse d => Sys2Proof.Machine.execFwFuse d s
  | .ldgRead d => Sys2Proof.Machine.execLdgRead d s
  | .ldgRingWrite w value => Sys2Proof.Machine.execLdgRingWrite w value s
  | .housekeepingRound temps failed volts margin => Sys2Proof.Machine.execHousekeepingRound temps failed volts margin s
  | .avsFail => Sys2Proof.Machine.execAvsFail s
  | .avsEnWrite w en => Sys2Proof.Machine.execAvsEnWrite w en s
  | .thmWrite w idx value => Sys2Proof.Machine.execThmWrite w idx value s
  | .thermtripAnalogue => Sys2Proof.Machine.execThermtripAnalogue s
  | .railDrop => Sys2Proof.Machine.execRailDrop s
  | .smbThmStatus addr pec => Sys2Proof.Machine.execSmbThmStatus addr pec s
  | .smbTmax addr pec => Sys2Proof.Machine.execSmbTmax addr pec s
  | .smbModeStatus addr pec => Sys2Proof.Machine.execSmbModeStatus addr pec s
  | .smbReason addr pec => Sys2Proof.Machine.execSmbReason addr pec s
  | .smbChipId addr pec => Sys2Proof.Machine.execSmbChipId addr pec s
  | .smbSensor addr x pec => Sys2Proof.Machine.execSmbSensor addr x pec s
  | .smbVoltage addr c pec => Sys2Proof.Machine.execSmbVoltage addr c pec s
  | .smbHealth addr pec => Sys2Proof.Machine.execSmbHealth addr pec s
  | .smbNak addr => Sys2Proof.Machine.execSmbNak addr s
  | .readyInstant => Sys2Proof.Machine.execReadyInstant s
  | .takeoverComplete done => Sys2Proof.Machine.execTakeoverComplete done s
  | .engineReloadDone ok => Sys2Proof.Machine.execEngineReloadDone ok s
  | .testTurnEnd failed => Sys2Proof.Machine.execTestTurnEnd failed s
  | .prbsCheckerSync idx gained compared errors => Sys2Proof.Machine.execPrbsCheckerSync idx gained compared errors s
  | .clk10InReturn => Sys2Proof.Machine.execClk10InReturn s
  | .audMclkInReturn => Sys2Proof.Machine.execAudMclkInReturn s
  | .powerOnResetRelease b => Sys2Proof.Machine.execPowerOnResetRelease b s

end Sys2Proof.Machine
end

