-- ==== Sys2Proof/Machine/Tick.lean ====
section
/-! DEFINITION. What happens in a tick whatever is commanded: the local count and the time domains advance, the Ledger stores, Trapeze
sends and acknowledges, the audio ports arm their releases, a decode slot without a lane presents, the fill and a migration advance, Barker samples levels. -/

namespace Sys2Proof.Machine

/-- The same state with another queue of waiting commands. -/
def State.withPending (s : State) (l : List Instr) : State := { s with pending := l }

/-- A device that SYS_RST_N or the power-on-reset detector holds in reset does nothing (R87, R506). -/
def State.heldInReset (s : State) : Bool := s.sys.rstLow || s.sys.porLow

/-- What a tick brings once the cycle's mode requests are judged. -/
def State.advance (s : State) : State :=
  ({ s with fresh := [] } : State).tickTime.ledgerTick.trapezeTick.armAudio.presentTick.fillTick.migrationTick.barkerTick

/-- One tick: the cycle that ends judges its mode requests. -/
def State.tick (s : State) : State := if s.heldInReset then s else s.judgeAsked.advance

end Sys2Proof.Machine
end

