-- ==== Sys2Proof/Safety.lean ====
section
/-! DEFINITION. What claims call a sound state and a sound step, in terms of the state alone. -/

namespace Sys2Proof.Machine

/-- The register store is canonical: keys strictly rising, so that a field has one value. -/
abbrev State.regsWf (s : State) : Prop := Table.rising s.regs

/-- The memory is canonical: addresses strictly rising, nothing listed that an unlisted address reads as. -/
abbrev State.memWf (s : State) : Prop := Memory.wf s.mem

/-- A sound state: its two stores are canonical, so that equal contents are equal data. -/
structure State.Sound (s : State) : Prop where
  regs : s.regsWf
  mem : s.memWf

/-! ## Frames -/

/-- The parts of the state beside the register store, the queue of waiting commands and the record of outputs. -/
inductive Part where
  | latches | fresh | lc | tim | egr | slots | rx | cmps | safs | safKey | safFaultPin | lanes | wires | scns | trp | aud
  | dram | tasks | brk | scans | trans | fw | thm | sys | mirrorQ | faceStep | effortWas | selWas | standIns | fns
  | vfEnable | rings | masked | pba | unsigSince | ledger | limits | mem | free
  deriving DecidableEq, Repr

/-- Whether a part is the same in two states. -/
def Part.Same (p : Part) (s t : State) : Prop :=
  match p with
  | .latches => t.latches = s.latches
  | .fresh => t.fresh = s.fresh
  | .lc => t.lc = s.lc
  | .tim => t.tim = s.tim
  | .egr => t.egr = s.egr
  | .slots => t.slots = s.slots
  | .rx => t.rx = s.rx
  | .cmps => t.cmps = s.cmps
  | .safs => t.safs = s.safs
  | .safKey => t.safKey = s.safKey
  | .safFaultPin => t.safFaultPin = s.safFaultPin
  | .lanes => t.lanes = s.lanes
  | .wires => t.wires = s.wires
  | .scns => t.scns = s.scns
  | .trp => t.trp = s.trp
  | .aud => t.aud = s.aud
  | .dram => t.dram = s.dram
  | .tasks => t.tasks = s.tasks
  | .brk => t.brk = s.brk
  | .scans => t.scans = s.scans
  | .trans => t.trans = s.trans
  | .fw => t.fw = s.fw
  | .thm => t.thm = s.thm
  | .sys => t.sys = s.sys
  | .mirrorQ => t.mirrorQ = s.mirrorQ
  | .faceStep => t.faceStep = s.faceStep
  | .effortWas => t.effortWas = s.effortWas
  | .selWas => t.selWas = s.selWas
  | .standIns => t.standIns = s.standIns
  | .fns => t.fns = s.fns
  | .vfEnable => t.vfEnable = s.vfEnable
  | .rings => t.rings = s.rings
  | .masked => t.masked = s.masked
  | .pba => t.pba = s.pba
  | .unsigSince => t.unsigSince = s.unsigSince
  | .ledger => t.ledger = s.ledger
  | .limits => t.limits = s.limits
  | .mem => t.mem = s.mem
  | .free => t.free = s.free

/-- Nothing changes but the register fields with a name in `fields` (all copies and banks of each), the parts in `parts`, and what is
sent: the waiting commands stay, what was sent before stays sent, and every other field and part reads as before. -/
structure State.Only (fields : List Nat) (parts : List Part) (s t : State) : Prop where
  queue : t.pending = s.pending
  sent : s.out <:+ t.out
  regs : ∀ f : Field, f.id ∉ fields → f.id < 1024 → t.get f = s.get f
  rest : ∀ p : Part, p ∉ parts → p.Same s t

/-- Nothing changes but the listed register fields, instance by instance. -/
structure State.OnlyFields (l : List Field) (s t : State) : Prop where
  queue : t.pending = s.pending
  sent : t.out = s.out
  regs : ∀ f : Field, fieldKey f ∉ l.map fieldKey → t.get f = s.get f
  rest : ∀ p : Part, p.Same s t

/-- Every byte of device memory reads as before. -/
def State.SameMemory (s t : State) : Prop := ∀ a, Memory.read t.mem a = Memory.read s.mem a

/-! ## What a command did -/

/-- Fields read as given. -/
def State.Reads (t : State) (l : List (Field × Nat)) : Prop := ∀ e ∈ l, t.get e.1 = e.2

/-- Counters read 0 after a clear, or 1 where one counted in the same cycle (R16). -/
def State.Cleared (s t : State) (l : List Field) : Prop := ∀ f ∈ l, t.get f = s.freshBits f % 2 ^ fieldWidth f

/-- A counter counted one event, saturating at its all-ones value (R16). -/
def State.Counted (s t : State) (f : Field) : Prop := t.get f = min (s.get f + 1) (fieldMax f)

/-- The Barker latch of a code's source is set, when the code has a source (R411). -/
def State.Latches (t : State) (c : Code) : Prop :=
  ∀ n, barkerSource c barkerUnits = some n → bit (t.get (Reg.BRK_LATCH (n / 32))) (n % 32) = true

/-- Something that satisfies `p` was sent since. -/
def State.Sent (s t : State) (p : Output → Prop) : Prop := ∃ l, t.out = l ++ s.out ∧ ∃ e ∈ l, p e.2

/-- The function whose submission ring a descriptor stands in. -/
def State.submitter (s : State) (d : Desc) : Nat :=
  match s.ring d.rid.val with
  | none => 0
  | some x => x.fn

/-- An untimed descriptor can be consumed now and passes every check of R122. -/
def State.Accepts (s : State) (o : OpSpec) (d : Desc) : Prop :=
  s.servable .sub d.rid.val d.fence = true ∧ s.descFailure o (s.submitter d) d = none ∧ d.timed = false

/-- A completion record for a descriptor was sent, with a status. -/
def State.Answers (s t : State) (d : Desc) (status : Code) : Prop :=
  s.Sent t (fun o => ∃ r i e, o = .cpl r i e ∧ e.rid = d.rid.val ∧ e.cookie = d.cookie.toNat ∧ e.status = status)

/-- The opcode's checks and the descriptor of a descriptor command. -/
def descriptorOf : Instr → Option (OpSpec × Desc)
  | .mode d => some (modeSpec, d)
  | .slotStart (.desc d) _ _ => some (slotCmdSpec, d)
  | .slotStop (.desc d) _ => some (slotCmdSpec, d)
  | .slotCommit (.desc d) _ => some (slotCmdSpec, d)
  | .nop op d => if op = 0 then some (nopSpec, d) else none
  | .createRing d => some (createSpec, d)
  | .destroyRing d => some (destroySpec, d)
  | .configWrite d => some (configWriteSpec, d)
  | .configRead d => some (configReadSpec, d)
  | .statsRead d => some (statsSpec, d)
  | .cancelTimed d => some (cancelSpec, d)
  | .cmpCommit d => some (cmpCommitSpec, d)
  | .surfaceLoad d => some (surfaceSpec, d)
  | .tableLoad d => some (tableSpec, d)
  | .safLoad d => some (safLoadSpec, d)
  | .safEnroll d => some (safEnrollSpec, d)
  | .laneRetrain d => some (laneRetrainSpec, d)
  | .aknSend d => some (aknSendSpec, d)
  | .carListLoad d => some (carListSpec, d)
  | .audioCmd d => some (audioCmdSpec, d)
  | .audCaptureRead d => some (captureReadSpec, d)
  | .audTemplateLoad d => some (templateSpec, d)
  | .dmcMigrate d => some (migrateSpec, d)
  | .chkScan d => some (chkScanSpec, d)
  | .trpTakeover d => some (takeSpec, d)
  | .trpHealthRead d => some (healthSpec, d)
  | .fwStage d => some (stageSpec, d)
  | .fwActivate d => some (activateSpec, d)
  | .fwFlashWrite d _ => some (flashSpec, d)
  | .fwFuse d => some (fuseSpec d, d)
  | .ldgRead d => some (ldgReadSpec, d)
  | _ => none

/-- The action of a descriptor command. -/
def actionOf : Instr → Option (Desc → Ticket → State → State)
  | .mode _ => some actMode
  | .slotStart _ _ failed => some (actSlotCmd failed)
  | .slotStop _ _ => some (actSlotCmd [])
  | .slotCommit _ _ => some (actSlotCmd [])
  | .nop _ _ => some (fun _ t s => s.complete t 0 0)
  | .createRing _ => some actCreateRing
  | .destroyRing _ => some actDestroyRing
  | .configWrite _ => some actConfigWrite
  | .configRead _ => some actConfigRead
  | .statsRead _ => some actStatsRead
  | .cancelTimed _ => some actCancelTimed
  | .cmpCommit _ => some actCmpCommit
  | .surfaceLoad _ => some actSurfaceLoad
  | .tableLoad _ => some actTableLoad
  | .safLoad _ => some actSafLoad
  | .safEnroll _ => some actSafEnroll
  | .laneRetrain _ => some actLaneRetrain
  | .aknSend _ => some actAknSend
  | .carListLoad _ => some actCarListLoad
  | .audioCmd _ => some actAudioCmd
  | .audCaptureRead _ => some actCaptureRead
  | .audTemplateLoad _ => some actTemplateLoad
  | .dmcMigrate _ => some actMigrate
  | .chkScan _ => some actChkScan
  | .trpTakeover _ => some actTakeover
  | .trpHealthRead _ => some actHealthRead
  | .fwStage _ => some actFwStage
  | .fwActivate _ => some actFwActivate
  | .fwFlashWrite _ present => some (actFlashWrite present)
  | .fwFuse _ => some actFwFuse
  | .ldgRead _ => some actLdgRead
  | _ => none

/-! ## What a command may change -/

/-- The fields that an event, a Ledger entry or an event a full ring cannot take may change besides what a command names: HIF_FN_EVT_LOST_CNT,
LDG_NEXT_SEQ, LDG_OVERRUN_CNT and BRK_LATCH. -/
def loggedFields : List Nat := [(Reg.HIF_FN_EVT_LOST_CNT 0).id, Reg.LDG_NEXT_SEQ.id, Reg.LDG_OVERRUN_CNT.id, (Reg.BRK_LATCH 0).id]

/-- The parts that an event, a completion or a Ledger entry may change: the rings and their interrupts, the Ledger, the limits of events. -/
def loggedParts : List Part := [.fresh, .rings, .pba, .unsigSince, .ledger, .limits]

/-- Every register field, by name. -/
def allFields : List Nat := List.range 1024

/-- The register fields, by name, and the parts of the state that a command may change; none for the clear commands
whose own statement says more, and for those that may change almost all of it. -/
def mayChange : Instr → Option (List Nat × List Part)
  | .lowWordRead _ _ _ => some (allFields, loggedParts ++ [.latches, .mirrorQ, .free])
  | .timDomClr _ _ => some (loggedFields ++ [(Reg.TIM_DOM_DISCARD_CNT 0).id, (Reg.TIM_DOM_PTP_ERR_CNT 0).id, (Reg.TIM_DOM_CLR_CLR 0).id],
      loggedParts ++ [.mirrorQ])
  | .timLateClr _ => some (loggedFields ++ [Reg.TIM_LAUNCH_LATE_CNT.id, Reg.TIM_LATE_CLR.id], loggedParts ++ [.mirrorQ])
  | .laneClr _ _ => some (loggedFields ++ [(Reg.LANE_LOCK_LOSS_CNT 0).id, (Reg.LANE_TRAIN_FAIL_CNT 0).id, (Reg.LANE_FEC_CORR_CNT 0).id,
      (Reg.LANE_FEC_UNCORR_CNT 0).id, (Reg.LANE_FCS_ERR_CNT 0).id, (Reg.LANE_PAUSE_CNT 0).id, (Reg.LANE_CLR_CLR 0).id], loggedParts ++ [.mirrorQ])
  | .aknClr _ _ => some (loggedFields ++ [(Reg.AKN_HCRC_ERR_CNT 0).id, (Reg.AKN_DCRC_ERR_CNT 0).id, (Reg.AKN_PROTO_CNT 0).id,
      (Reg.AKN_CREDIT_ERR_CNT 0).id, (Reg.AKN_CLR_CLR 0).id], loggedParts ++ [.mirrorQ])
  | .trpClr _ => some (loggedFields ++ [Reg.TRP_UNCOVERED_CNT.id, Reg.TRP_RESEND_CNT.id, Reg.TRP_RESYNC_CNT.id, Reg.TRP_TAKEOVER_CNT.id,
      Reg.TRP_MALFORMED_CNT.id, Reg.TRP_TEST_FAIL_CNT.id, Reg.TRP_CLR_CLR.id], loggedParts ++ [.mirrorQ])
  | .snap _ => some (loggedFields ++ [Reg.TIM_SNAP_SNAP.id, (Reg.TIM_SNAP_DT_SEC_LO 0).id, (Reg.TIM_SNAP_DT_SEC_HI 0).id,
      (Reg.TIM_SNAP_DT_NS 0).id, (Reg.TIM_SNAP_DT_FRAC 0).id, Reg.TIM_SNAP_LC_LO.id, Reg.TIM_SNAP_LC_HI.id], loggedParts ++ [.mirrorQ])
  | .revert _ => some (loggedFields ++ [Reg.TIM_CTRL_REVERT.id, Reg.TIM_CTRL_SLEWING.id, Reg.TIM_CTRL_ACTIVE.id], loggedParts ++ [.tim, .mirrorQ])
  | .domainEnable _ _ => some (loggedFields ++ [(Reg.PWR_PD_ON 0).id, (Reg.TIM_DOM_ENABLE 0).id, (Reg.TIM_DOM_RATE 0).id,
      (Reg.TIM_DOM_STATE 0).id, (Reg.LANE_STATUS_STATE 0).id, (Reg.LANE_ADAPT_PRESET 0).id, (Reg.AKN_STATUS_VERSION 0).id,
      (Reg.CAR_P_PENDING 0).id, (Reg.CAR_P_Q_DEPTH_B 0 0).id, (Reg.CAR_P_Q_DEPTH_MAX_B 0 0).id, (Reg.CAR_P_Q_DOWN_DROP_CNT 0 0).id,
      (Reg.CAR_P_APPLY_SEC 0).id, (Reg.CAR_P_APPLY_NS 0).id, (Reg.ING_RX_SIGNAL 0).id, (Reg.ING_RX_PATH1_UP 0).id, (Reg.ING_RX_PATH0_UP 0).id,
      (Reg.ING_RX_PATH_DOWN_CNT 0).id, (Reg.SCN_LANE_STATUS_STATE 0).id], loggedParts ++ [.tim, .egr, .lanes, .scns, .mirrorQ])
  | .domainDisable _ _ => some (loggedFields ++ [(Reg.PWR_PD_ON 0).id, Reg.TIM_CTRL_SLEWING.id, (Reg.TIM_DOM_ENABLE 0).id,
      (Reg.TIM_DOM_STATE 0).id, (Reg.LANE_STATUS_STATE 0).id, (Reg.LANE_ADAPT_PRESET 0).id, (Reg.AKN_STATUS_VERSION 0).id,
      (Reg.CAR_P_Q_DEPTH_B 0 0).id, (Reg.CAR_P_Q_DEPTH_MAX_B 0 0).id, (Reg.CAR_P_Q_DOWN_DROP_CNT 0 0).id, (Reg.ING_RX_SIGNAL 0).id,
      (Reg.ING_RX_PATH1_UP 0).id, (Reg.ING_RX_PATH0_UP 0).id, (Reg.ING_RX_PATH_DOWN_CNT 0).id, (Reg.SCN_LANE_STATUS_STATE 0).id], loggedParts ++
      [.tim, .egr, .lanes, .scns, .mirrorQ])
  | .acceptJump _ _ => some (loggedFields ++ [(Reg.TIM_DOM_ACCEPT_JUMP 0).id, (Reg.TIM_DOM_STATE 0).id], loggedParts ++ [.tim, .mirrorQ])
  | .todSecWrite _ _ _ => some (loggedFields ++ [(Reg.TIM_DOM_TOD_SEC 0).id], loggedParts ++ [.tim, .mirrorQ])
  | .launchWindowWrite _ _ => some (loggedFields, loggedParts ++ [.tim, .mirrorQ])
  | .launchCancel _ _ _ => some (loggedFields ++ [Reg.TIM_LCANCEL_UNIT.id], loggedParts ++ [.tim, .mirrorQ])
  | .syncRx _ _ => some (loggedFields ++ [Reg.TIM_CTRL_SLEWING.id, Reg.TIM_CTRL_ACTIVE.id, (Reg.TIM_DOM_STATE 0).id, (Reg.TIM_DOM_JUMP_FLAG 0).id,
      (Reg.TIM_DOM_THETA 0).id, (Reg.TIM_DOM_DISCARD_CNT 0).id, (Reg.TIM_DOM_PTP_ERR_CNT 0).id], loggedParts ++ [.tim])
  | .followUpRx _ _ => some (loggedFields ++ [Reg.TIM_CTRL_SLEWING.id, Reg.TIM_CTRL_ACTIVE.id, (Reg.TIM_DOM_STATE 0).id,
      (Reg.TIM_DOM_JUMP_FLAG 0).id, (Reg.TIM_DOM_THETA 0).id, (Reg.TIM_DOM_DISCARD_CNT 0).id, (Reg.TIM_DOM_PTP_ERR_CNT 0).id], loggedParts ++
      [.tim])
  | .delayReqSend _ _ _ => some ([(Reg.HIF_FN_EVT_LOST_CNT 0).id, (Reg.BRK_LATCH 0).id, (Reg.CAR_P_Q_DEPTH_B 0 0).id,
      (Reg.CAR_P_Q_DEPTH_MAX_B 0 0).id, (Reg.CAR_P_Q_DROP_CNT 0 0).id, (Reg.CAR_P_Q_DOWN_DROP_CNT 0 0).id, (Reg.TRN_Q_MODE 0).id,
      (Reg.TRN_Q_OVH 0).id, (Reg.TRN_Q_CIR_MBPS 0).id, (Reg.TRN_Q_PIR_MBPS 0).id, (Reg.TRN_Q_CBS_B 0).id, (Reg.TRN_Q_PBS_B 0).id,
      (Reg.TRN_Q_GREEN_CNT 0).id, (Reg.TRN_Q_YELLOW_CNT 0).id, (Reg.TRN_Q_RED_CNT 0).id], [.fresh, .tim, .egr, .rings, .pba, .unsigSince,
      .limits])
  | .delayRespRx _ _ => some (loggedFields ++ [Reg.TIM_CTRL_SLEWING.id, Reg.TIM_CTRL_ACTIVE.id, (Reg.TIM_DOM_STATE 0).id,
      (Reg.TIM_DOM_JUMP_FLAG 0).id, (Reg.TIM_DOM_THETA 0).id, (Reg.TIM_DOM_DISCARD_CNT 0).id, (Reg.TIM_DOM_PTP_ERR_CNT 0).id], loggedParts ++
      [.tim])
  | .announceRx _ _ => some (loggedFields ++ [(Reg.TIM_DOM_PTP_ERR_CNT 0).id], loggedParts ++ [.tim])
  | .masterLoss _ => some (loggedFields ++ [Reg.TIM_CTRL_SLEWING.id, Reg.TIM_CTRL_ACTIVE.id, (Reg.TIM_DOM_STATE 0).id,
      (Reg.TIM_DOM_LOSS_FLAG 0).id, (Reg.TIM_DOM_DISCARD_CNT 0).id], loggedParts ++ [.tim])
  | .slewEnd => some ([Reg.TIM_CTRL_SLEWING.id], [.tim])
  | .ppsInEdge _ => some (loggedFields ++ [Reg.TIM_CTRL_SLEWING.id, Reg.TIM_CTRL_ACTIVE.id, (Reg.TIM_DOM_STATE 0).id,
      (Reg.TIM_DOM_JUMP_FLAG 0).id, (Reg.TIM_DOM_THETA 0).id, (Reg.TIM_DOM_DISCARD_CNT 0).id, Reg.TIM_REFSTAT_PPS_OK.id], loggedParts ++ [.tim])
  | .ppsInLoss => some (loggedFields ++ [Reg.TIM_CTRL_SLEWING.id, Reg.TIM_CTRL_ACTIVE.id, (Reg.TIM_DOM_STATE 0).id, (Reg.TIM_DOM_LOSS_FLAG 0).id,
      (Reg.TIM_DOM_DISCARD_CNT 0).id, Reg.TIM_REFSTAT_PPS_LOST.id, Reg.TIM_REFSTAT_PPS_OK.id], loggedParts ++ [.tim])
  | .clk10InLoss => some ([(Reg.HIF_FN_EVT_LOST_CNT 0).id, Reg.TIM_REFSTAT_CLK10_LOST.id, Reg.TIM_REFSTAT_CLK10_OK.id, (Reg.BRK_LATCH 0).id],
      [.fresh, .rings, .pba, .unsigSince])
  | .pllRefSwitch => some ([], [.tim])
  | .ppsOutEdge => some ([], [])
  | .ethFrameForward _ _ => some ([(Reg.HIF_FN_EVT_LOST_CNT 0).id, (Reg.BRK_LATCH 0).id, (Reg.CAR_P_Q_DEPTH_B 0 0).id,
      (Reg.CAR_P_Q_DEPTH_MAX_B 0 0).id, (Reg.CAR_P_Q_DROP_CNT 0 0).id, (Reg.CAR_P_Q_DOWN_DROP_CNT 0 0).id, (Reg.TRN_Q_MODE 0).id,
      (Reg.TRN_Q_OVH 0).id, (Reg.TRN_Q_CIR_MBPS 0).id, (Reg.TRN_Q_PIR_MBPS 0).id, (Reg.TRN_Q_CBS_B 0).id, (Reg.TRN_Q_PBS_B 0).id,
      (Reg.TRN_Q_GREEN_CNT 0).id, (Reg.TRN_Q_YELLOW_CNT 0).id, (Reg.TRN_Q_RED_CNT 0).id], [.fresh, .egr, .rings, .pba, .unsigSince, .limits])
  | .modeRequest _ _ _ => some (loggedFields ++ [Reg.PWR_MODE_CTRL_TARGET.id, Reg.PWR_MODE_STATUS_LAST_STATUS.id, Reg.PWR_REFUSED_CNT.id],
      loggedParts ++ [.sys, .mirrorQ])
  | .mode _ => some (loggedFields ++ [(Reg.HIF_FN_DESC_ERR_CNT 0).id, (Reg.HIF_FN_DMA_ERR_CNT 0).id, Reg.PWR_REFUSED_CNT.id], loggedParts ++
      [.tim, .sys, .mirrorQ])
  | .modeDrained => some ([(Reg.HIF_FN_EVT_LOST_CNT 0).id, Reg.PWR_MODE_STATUS_PHASE.id, (Reg.PWR_PD_ON 0).id, (Reg.BRK_PAIR_RPRI 0).id,
      (Reg.BRK_PAIR_DEPTH 0).id, (Reg.BRK_PAIR_VALID 0).id, (Reg.BRK_PAIR_CUR_SRC 0).id, (Reg.BRK_LATCH 0).id, (Reg.BRK_SRC_CFG_CLAIMED 0).id,
      (Reg.BRK_SRC_CFG_CLAIMED_BY 0).id, Reg.JUG_CTRL_DRAINED.id, Reg.JUG_TASKS_READY_NOW.id, Reg.JUG_TASKS_USED.id, Reg.DMC_LAYOUT_MAP.id,
      Reg.DMC_STATUS_FILL_DONE.id, Reg.DMC_STATUS_MIG_ACTIVE.id, Reg.DMC_STATUS_SETS.id, (Reg.DMC_RANK_STATE_STATE 0).id,
      (Reg.DMC_RANK_STATE_MAPPED 0).id, (Reg.DMC_RANK_STATE_POS_CH 0).id, (Reg.DMC_RANK_STATE_POS_RANK 0).id,
      (Reg.DMC_RANK_STATE_RETIRE_CODE 0).id, (Reg.DMC_SET_FILL_DONE 0).id, (Reg.DMC_SET_FILL_FILLED 0).id, Reg.DMC_MIG_CTRL_ACTIVE.id,
      Reg.DMC_MIG_PTR.id, Reg.DMC_MIG_CNT.id, (Reg.LANE_STATUS_STATE 0).id, (Reg.LANE_ADAPT_PRESET 0).id, (Reg.AKN_STATUS_VERSION 0).id,
      (Reg.CAR_P_Q_DEPTH_B 0 0).id, (Reg.CAR_P_Q_DEPTH_MAX_B 0 0).id, (Reg.CAR_P_Q_DOWN_DROP_CNT 0 0).id, (Reg.ING_RX_SIGNAL 0).id,
      (Reg.ING_RX_PATH1_UP 0).id, (Reg.ING_RX_PATH0_UP 0).id, (Reg.ING_RX_PATH_DOWN_CNT 0).id, (Reg.SCN_LANE_STATUS_STATE 0).id,
      (Reg.BRK_LOCAL_ENTRY_ACTIVE_AT_ENTRY 0).id, (Reg.BRK_LOCAL_ENTRY_SRC 0).id], [.fresh, .tim, .egr, .rx, .lanes, .scns, .aud, .dram, .tasks,
      .brk, .trans, .mirrorQ, .rings, .pba, .unsigSince, .ledger, .mem])
  | .powerWaveDone => some ([Reg.PWR_MODE_STATUS_PHASE.id, (Reg.PWR_PD_ON 0).id, Reg.JUG_CTRL_DRAINED.id, Reg.JUG_TASKS_READY_NOW.id,
      Reg.JUG_TASKS_USED.id], [.tasks, .trans])
  | .modeLoadDone _ _ => some (allFields, loggedParts ++ [.tim, .egr, .slots, .rx, .cmps, .safs, .lanes, .scns, .trp, .aud, .dram, .tasks,
      .brk, .trans, .sys, .mirrorQ, .mem])
  | .pwrReset _ _ => some (loggedFields ++ [Reg.PWR_RESET_KEY.id, Reg.PWR_RESET_DEVICE.id], loggedParts ++ [.sys, .mirrorQ])
  | .sysRstNRise _ => some (loggedFields ++ [Reg.PWR_MODE_STATUS_PHASE.id, Reg.PWR_MODE_STATUS_ACTIVE_PAIR.id, Reg.PWR_SERVICE_REASON.id,
      Reg.PWR_BOOT_BOOT_STRAP.id, Reg.PWR_FENCE_PAIR.id, Reg.PWR_FENCE_CMP.id, Reg.PWR_FENCE_FACE.id, Reg.PWR_FENCE_LANE.id,
      (Reg.PWR_FENCE_ENGINE 0).id, Reg.PWR_FENCE_AUDIO.id, Reg.PWR_FENCE_LINK.id, (Reg.PWR_PD_ON 0).id, (Reg.BRK_PAIR_RPRI 0).id,
      (Reg.BRK_PAIR_DEPTH 0).id, (Reg.BRK_PAIR_VALID 0).id, (Reg.BRK_PAIR_CUR_SRC 0).id, (Reg.BRK_SRC_CFG_CLAIMED 0).id,
      (Reg.BRK_SRC_CFG_CLAIMED_BY 0).id, Reg.JUG_CTRL_DRAINED.id, Reg.JUG_TASKS_READY_NOW.id, Reg.JUG_TASKS_USED.id, (Reg.LANE_STATUS_STATE 0).id,
      (Reg.LANE_ADAPT_PRESET 0).id, (Reg.AKN_STATUS_VERSION 0).id, (Reg.CAR_P_Q_DEPTH_B 0 0).id, (Reg.CAR_P_Q_DEPTH_MAX_B 0 0).id,
      (Reg.CAR_P_Q_DOWN_DROP_CNT 0 0).id, (Reg.ING_RX_SIGNAL 0).id, (Reg.ING_RX_PATH1_UP 0).id, (Reg.ING_RX_PATH0_UP 0).id,
      (Reg.ING_RX_PATH_DOWN_CNT 0).id, (Reg.CMP_SLOT_STATUS_UNIT_VALID 0).id, (Reg.CMP_SLOT_STATUS_UNIT 0).id, (Reg.ENC_BS_RUN_STATE 0).id,
      (Reg.ENC_FACE_SLOTS 0).id, (Reg.ENC_FACE_LOAD_PM 0).id, (Reg.ENC_BS_ENG_COUNT 0).id, (Reg.ENC_BS_ENGMASK_ENGINE 0 0).id,
      (Reg.ENC_BS_FACE_USED 0).id, (Reg.SCN_LANE_STATUS_STATE 0).id, (Reg.BRK_LOCAL_ENTRY_ACTIVE_AT_ENTRY 0).id, (Reg.BRK_LOCAL_ENTRY_SRC 0).id],
      loggedParts ++ [.tim, .egr, .slots, .rx, .cmps, .lanes, .scns, .trp, .aud, .dram, .tasks, .brk, .trans, .sys, .mirrorQ, .mem])
  | .pcieReset => some ([(Reg.HIF_FN_STATUS_OPENED 0).id, (Reg.HIF_FN_STATUS_ABI_MAJOR 0).id, (Reg.HIF_PEN_OWNER_ASSIGNED 0).id,
      (Reg.HIF_PEN_OWNER_FUNCTION 0).id, (Reg.HIF_FN_VEC_COUNT 0).id, (Reg.HIF_FN_VEC_BASE 0).id, Reg.HIF_SLOT_OWNER_SLOT3.id,
      Reg.HIF_SLOT_OWNER_SLOT2.id, Reg.HIF_SLOT_OWNER_SLOT1.id, Reg.HIF_SLOT_OWNER_SLOT0.id, Reg.HIF_SETUP_STATUS_LAST_STATUS.id], [.sys, .fns,
      .vfEnable, .rings, .unsigSince])
  | .supervisorImageLoaded _ _ => some (loggedFields ++ [Reg.PWR_MODE_STATUS_PHASE.id, Reg.PWR_SERVICE_REASON.id, Reg.PWR_BOOT_BOOT_USED.id,
      Reg.FW_BOOT_STATUS_BANK.id, Reg.FW_BANK_STATUS_BANK_A.id, Reg.FW_BANK_STATUS_BANK_B.id, (Reg.FW_VERSION 0).id, Reg.FW_SET_LO.id,
      Reg.FW_SET_HI.id, (Reg.DMC_RANK_STATE_STATE 0).id], loggedParts ++ [.fw])
  | .fwPcieGo _ _ _ => some (loggedFields ++ [Reg.PWR_MODE_STATUS_PHASE.id, Reg.PWR_SERVICE_REASON.id, Reg.PWR_BOOT_BOOT_USED.id,
      Reg.FW_BOOT_STATUS_BANK.id, Reg.FW_BOOT_STATUS_PCIE_STATUS.id, Reg.FW_PCIE_CTRL_LEN.id, (Reg.FW_VERSION 0).id, Reg.FW_SET_LO.id,
      Reg.FW_SET_HI.id, (Reg.DMC_RANK_STATE_STATE 0).id], loggedParts ++ [.fw, .mirrorQ])
  | .autostartSlotStart _ => some (allFields, loggedParts ++ [.tim, .egr, .slots, .rx, .cmps, .safs, .lanes, .scns, .trp, .aud, .dram,
      .tasks, .brk, .trans, .sys, .mirrorQ, .mem])
  | .lockstepCompareFail => some (allFields, loggedParts ++ [.tim, .egr, .slots, .rx, .cmps, .safs, .lanes, .scns, .trp, .aud, .dram,
      .tasks, .brk, .trans, .sys, .mirrorQ, .mem])
  | .unitRuntimeFault _ => some (allFields, loggedParts ++ [.tim, .egr, .slots, .rx, .cmps, .safs, .lanes, .scns, .trp, .aud, .dram, .tasks,
      .brk, .trans, .sys, .mirrorQ, .mem])
  | .slotStart _ _ _ => some (allFields, loggedParts ++ [.tim, .egr, .slots, .rx, .cmps, .safs, .lanes, .scns, .trp, .aud, .dram, .tasks,
      .brk, .trans, .sys, .mirrorQ, .mem])
  | .slotStop _ _ => some (loggedFields ++ [(Reg.HIF_FN_DESC_ERR_CNT 0).id, (Reg.HIF_FN_DMA_ERR_CNT 0).id, Reg.PWR_FENCE_PAIR.id,
      Reg.PWR_FENCE_CMP.id, Reg.PWR_FENCE_FACE.id, Reg.PWR_FENCE_LANE.id, (Reg.PWR_FENCE_ENGINE 0).id, Reg.PWR_FENCE_AUDIO.id,
      Reg.PWR_FENCE_LINK.id, Reg.PWR_REFUSED_CNT.id, (Reg.PWR_PD_ON 0).id, (Reg.CMP_SLOT_STATUS_UNIT_VALID 0).id, (Reg.CMP_SLOT_STATUS_UNIT 0).id,
      (Reg.ENC_BS_D_NS 0).id, (Reg.ENC_BS_A_SRC_US 0).id, (Reg.ENC_BS_A_DST_US 0).id, (Reg.ENC_BS_A_SCN_US 0).id, (Reg.ENC_BS_A_RES_US 0).id,
      (Reg.ENC_BS_BUDGET_VALID 0).id, (Reg.ENC_BS_BUDGET_MARGIN_US 0).id, (Reg.ENC_BS_RUN_FREERUN_OK 0).id, (Reg.ENC_BS_RUN_AUTOSTART 0).id,
      (Reg.ENC_BS_RUN_STATE 0).id, (Reg.ENC_BS_RUN_LAST_STATUS 0).id, (Reg.ENC_BS_FIRST_PIC 0).id, (Reg.ENC_FACE_SLOTS 0).id,
      (Reg.ENC_FACE_LOAD_PM 0).id, (Reg.ENC_BS_FORMAT_KIND 0).id, (Reg.ENC_BS_FORMAT_PROFILE 0).id, (Reg.ENC_BS_FORMAT_CHROMA 0).id,
      (Reg.ENC_BS_FORMAT_TIER 0).id, (Reg.ENC_BS_FORMAT_STRICT_LEVEL 0).id, (Reg.ENC_BS_FORMAT_LEVEL 0).id, (Reg.ENC_BS_FORMAT_RATE 0).id,
      (Reg.ENC_BS_SIZE_WIDTH 0).id, (Reg.ENC_BS_SIZE_HEIGHT 0).id, (Reg.ENC_BS_SP_W 0).id, (Reg.ENC_BS_SP_H 0).id, (Reg.ENC_BS_SP_COUNT 0).id,
      (Reg.ENC_BS_GDR_COLS 0).id, (Reg.ENC_BS_SWEEP_LEN 0).id, (Reg.ENC_BS_TOOLS_NUM_REF 0).id, (Reg.ENC_BS_TOOLS_AFFINE_EN 0).id,
      (Reg.ENC_BS_TOOLS_HINT_EN 0).id, (Reg.ENC_BS_TOOLS_TS_EN 0).id, (Reg.ENC_BS_TOOLS_FACE_MASK 0).id, (Reg.ENC_BS_COLS_PER_ENG 0).id,
      (Reg.ENC_BS_ENG_COUNT 0).id, (Reg.ENC_BS_ENGMASK_ENGINE 0 0).id, (Reg.ENC_BS_FACE_USED 0).id, (Reg.ENC_BS_SWEEP_POS 0).id,
      (Reg.ENC_BS_FIRST_SWEEP 0).id, (Reg.ENC_BS_PIC_CNT 0).id, (Reg.ENC_BS_SWEEP_CNT 0).id, (Reg.ENC_BS_PKT_TS_EN 0).id,
      (Reg.ENC_BS_PKT_TS_RTP 0).id, (Reg.ENC_BS_PKT_STREAMS 0).id, (Reg.ENC_BS_PKT_MTU 0).id, (Reg.ENC_BS_PKT_VIDEO_PID 0).id,
      (Reg.ENC_BS_PKT_PMT_PID 0).id, (Reg.ENC_BS_STR_COL_FIRST 0 0).id, (Reg.ENC_BS_STR_COL_LAST 0 0).id, (Reg.ENC_BS_STR_PATH1_EN 0 0).id,
      (Reg.ENC_BS_STR_PT 0 0).id, (Reg.ENC_BS_STR_DSCP 0 0).id, (Reg.ENC_BS_STR_LANE0 0 0).id, (Reg.ENC_BS_STR_LANE1 0 0).id,
      (Reg.ENC_BS_STR_TTL 0 0).id, (Reg.ENC_BS_STR_DST_PORT 0 0).id, (Reg.ENC_BS_STR_GROUP 0 0).id, (Reg.ENC_BS_STR_SRC_PORT 0 0).id,
      (Reg.ENC_BS_STR_TAG_EN 0 0).id, (Reg.ENC_BS_STR_PCP 0 0).id, (Reg.ENC_BS_STR_VID 0 0).id, (Reg.ENC_BS_STR_SSRC 0 0).id,
      (Reg.ENC_BS_STR_TCLASS 0 0).id, (Reg.RC_BS_MAX_KBPS 0).id, (Reg.RC_BS_TARGET_KBPS 0).id, (Reg.RC_BS_QP_INIT 0).id, (Reg.RC_BS_QP_MIN 0).id,
      (Reg.RC_BS_QP_MAX 0).id, (Reg.RC_BS_DQP_PIC 0).id, (Reg.RC_BS_ROW_MAX 0).id, (Reg.RC_BS_ROW_FLOOR 0).id, (Reg.RC_BS_ROW_MAX_EFF 0).id,
      (Reg.RC_BS_ROW_FLOOR_EFF 0).id, (Reg.RC_BS_FULLNESS 0).id, (Reg.RC_BS_B_MAX 0).id, (Reg.RC_BS_OVERHEAD 0).id, (Reg.RC_BS_SPOIL_ROW 0).id,
      (Reg.DEC_BS_CODEC 0).id, (Reg.DEC_BS_CHROMA 0).id, (Reg.DEC_BS_DEPTH8 0).id, (Reg.DEC_BS_RATE 0).id, (Reg.DEC_BS_WIDTH 0).id,
      (Reg.DEC_BS_HEIGHT 0).id, (Reg.DEC_BS_SP_W 0).id, (Reg.DEC_BS_SP_H 0).id, (Reg.DEC_BS_WIN_COL 0).id, (Reg.DEC_BS_WIN_ROW 0).id,
      (Reg.DEC_BS_WIN_COLS 0).id, (Reg.DEC_BS_WIN_ROWS 0).id, (Reg.DEC_BS_OUT_X 0).id, (Reg.DEC_BS_OUT_Y 0).id, (Reg.DEC_BS_OUT_W 0).id,
      (Reg.DEC_BS_OUT_H 0).id, (Reg.DEC_BS_SBUF_LOG2 0).id, (Reg.DEC_BS_AREA_BASE 0).id, (Reg.DEC_BS_LOAD_US 0).id, (Reg.DEC_BS_JOINED 0).id,
      (Reg.DEC_BS_STREAM_UP 0).id, (Reg.DEC_BS_CONC_SP 0).id, (Reg.SCN_LANE_COMMIT_LAST_STATUS 0).id, (Reg.SCN_LANE_STATUS_STATE 0).id],
      loggedParts ++ [.tim, .slots, .cmps, .scns, .sys, .mirrorQ])
  | .slotCommit _ _ => some (loggedFields ++ [(Reg.HIF_FN_DESC_ERR_CNT 0).id, (Reg.HIF_FN_DMA_ERR_CNT 0).id, Reg.PWR_FENCE_PAIR.id,
      Reg.PWR_FENCE_CMP.id, Reg.PWR_FENCE_FACE.id, Reg.PWR_FENCE_LANE.id, (Reg.PWR_FENCE_ENGINE 0).id, Reg.PWR_FENCE_AUDIO.id,
      Reg.PWR_FENCE_LINK.id, Reg.PWR_REFUSED_CNT.id, (Reg.PWR_PD_ON 0).id, (Reg.CMP_SLOT_STATUS_UNIT_VALID 0).id, (Reg.CMP_SLOT_STATUS_UNIT 0).id,
      (Reg.ENC_BS_D_NS 0).id, (Reg.ENC_BS_A_SRC_US 0).id, (Reg.ENC_BS_A_DST_US 0).id, (Reg.ENC_BS_A_SCN_US 0).id, (Reg.ENC_BS_A_RES_US 0).id,
      (Reg.ENC_BS_BUDGET_VALID 0).id, (Reg.ENC_BS_BUDGET_MARGIN_US 0).id, (Reg.ENC_BS_RUN_FREERUN_OK 0).id, (Reg.ENC_BS_RUN_AUTOSTART 0).id,
      (Reg.ENC_BS_RUN_STATE 0).id, (Reg.ENC_BS_RUN_LAST_STATUS 0).id, (Reg.ENC_BS_FIRST_PIC 0).id, (Reg.ENC_FACE_SLOTS 0).id,
      (Reg.ENC_FACE_LOAD_PM 0).id, (Reg.ENC_BS_FORMAT_KIND 0).id, (Reg.ENC_BS_FORMAT_PROFILE 0).id, (Reg.ENC_BS_FORMAT_CHROMA 0).id,
      (Reg.ENC_BS_FORMAT_TIER 0).id, (Reg.ENC_BS_FORMAT_STRICT_LEVEL 0).id, (Reg.ENC_BS_FORMAT_LEVEL 0).id, (Reg.ENC_BS_FORMAT_RATE 0).id,
      (Reg.ENC_BS_SIZE_WIDTH 0).id, (Reg.ENC_BS_SIZE_HEIGHT 0).id, (Reg.ENC_BS_SP_W 0).id, (Reg.ENC_BS_SP_H 0).id, (Reg.ENC_BS_SP_COUNT 0).id,
      (Reg.ENC_BS_GDR_COLS 0).id, (Reg.ENC_BS_SWEEP_LEN 0).id, (Reg.ENC_BS_TOOLS_NUM_REF 0).id, (Reg.ENC_BS_TOOLS_AFFINE_EN 0).id,
      (Reg.ENC_BS_TOOLS_HINT_EN 0).id, (Reg.ENC_BS_TOOLS_TS_EN 0).id, (Reg.ENC_BS_TOOLS_FACE_MASK 0).id, (Reg.ENC_BS_COLS_PER_ENG 0).id,
      (Reg.ENC_BS_ENG_COUNT 0).id, (Reg.ENC_BS_ENGMASK_ENGINE 0 0).id, (Reg.ENC_BS_FACE_USED 0).id, (Reg.ENC_BS_SWEEP_POS 0).id,
      (Reg.ENC_BS_FIRST_SWEEP 0).id, (Reg.ENC_BS_PIC_CNT 0).id, (Reg.ENC_BS_SWEEP_CNT 0).id, (Reg.ENC_BS_PKT_TS_EN 0).id,
      (Reg.ENC_BS_PKT_TS_RTP 0).id, (Reg.ENC_BS_PKT_STREAMS 0).id, (Reg.ENC_BS_PKT_MTU 0).id, (Reg.ENC_BS_PKT_VIDEO_PID 0).id,
      (Reg.ENC_BS_PKT_PMT_PID 0).id, (Reg.ENC_BS_STR_COL_FIRST 0 0).id, (Reg.ENC_BS_STR_COL_LAST 0 0).id, (Reg.ENC_BS_STR_PATH1_EN 0 0).id,
      (Reg.ENC_BS_STR_PT 0 0).id, (Reg.ENC_BS_STR_DSCP 0 0).id, (Reg.ENC_BS_STR_LANE0 0 0).id, (Reg.ENC_BS_STR_LANE1 0 0).id,
      (Reg.ENC_BS_STR_TTL 0 0).id, (Reg.ENC_BS_STR_DST_PORT 0 0).id, (Reg.ENC_BS_STR_GROUP 0 0).id, (Reg.ENC_BS_STR_SRC_PORT 0 0).id,
      (Reg.ENC_BS_STR_TAG_EN 0 0).id, (Reg.ENC_BS_STR_PCP 0 0).id, (Reg.ENC_BS_STR_VID 0 0).id, (Reg.ENC_BS_STR_SSRC 0 0).id,
      (Reg.ENC_BS_STR_TCLASS 0 0).id, (Reg.RC_BS_MAX_KBPS 0).id, (Reg.RC_BS_TARGET_KBPS 0).id, (Reg.RC_BS_QP_INIT 0).id, (Reg.RC_BS_QP_MIN 0).id,
      (Reg.RC_BS_QP_MAX 0).id, (Reg.RC_BS_DQP_PIC 0).id, (Reg.RC_BS_ROW_MAX 0).id, (Reg.RC_BS_ROW_FLOOR 0).id, (Reg.RC_BS_ROW_MAX_EFF 0).id,
      (Reg.RC_BS_ROW_FLOOR_EFF 0).id, (Reg.RC_BS_FULLNESS 0).id, (Reg.RC_BS_B_MAX 0).id, (Reg.RC_BS_OVERHEAD 0).id, (Reg.RC_BS_SPOIL_ROW 0).id,
      (Reg.DEC_BS_CODEC 0).id, (Reg.DEC_BS_CHROMA 0).id, (Reg.DEC_BS_DEPTH8 0).id, (Reg.DEC_BS_RATE 0).id, (Reg.DEC_BS_WIDTH 0).id,
      (Reg.DEC_BS_HEIGHT 0).id, (Reg.DEC_BS_SP_W 0).id, (Reg.DEC_BS_SP_H 0).id, (Reg.DEC_BS_WIN_COL 0).id, (Reg.DEC_BS_WIN_ROW 0).id,
      (Reg.DEC_BS_WIN_COLS 0).id, (Reg.DEC_BS_WIN_ROWS 0).id, (Reg.DEC_BS_OUT_X 0).id, (Reg.DEC_BS_OUT_Y 0).id, (Reg.DEC_BS_OUT_W 0).id,
      (Reg.DEC_BS_OUT_H 0).id, (Reg.DEC_BS_SBUF_LOG2 0).id, (Reg.DEC_BS_AREA_BASE 0).id, (Reg.DEC_BS_LOAD_US 0).id, (Reg.DEC_BS_JOINED 0).id,
      (Reg.DEC_BS_STREAM_UP 0).id, (Reg.DEC_BS_CONC_SP 0).id, (Reg.SCN_LANE_COMMIT_LAST_STATUS 0).id, (Reg.SCN_LANE_STATUS_STATE 0).id],
      loggedParts ++ [.tim, .slots, .cmps, .scns, .sys, .mirrorQ])
  | .slotStopDone _ => some ([(Reg.PWR_PD_ON 0).id, (Reg.CMP_SLOT_STATUS_UNIT_VALID 0).id, (Reg.CMP_SLOT_STATUS_UNIT 0).id,
      (Reg.ENC_BS_RUN_STATE 0).id, (Reg.ENC_FACE_SLOTS 0).id, (Reg.ENC_FACE_LOAD_PM 0).id, (Reg.ENC_BS_ENG_COUNT 0).id,
      (Reg.ENC_BS_ENGMASK_ENGINE 0 0).id, (Reg.ENC_BS_FACE_USED 0).id], [.tim, .slots, .cmps, .rings, .pba, .unsigSince])
  | .functionOpen _ _ _ _ => some (loggedFields ++ [(Reg.HIF_FN_OPEN_HOST_MAJOR 0).id, (Reg.HIF_FN_OPEN_HOST_MINOR 0).id,
      (Reg.HIF_FN_STATUS_OPENED 0).id, (Reg.HIF_FN_STATUS_ABI_MAJOR 0).id, (Reg.HIF_FN_STATUS_ABI_MINOR 0).id, (Reg.HIF_FN_LAST_STATUS 0).id,
      (Reg.HIF_ADMIN_BASE_HI 0).id], loggedParts ++ [.mirrorQ, .fns])
  | .functionClose _ => some (loggedFields ++ [(Reg.HIF_FN_STATUS_OPENED 0).id, (Reg.HIF_FN_STATUS_ABI_MAJOR 0).id,
      (Reg.HIF_FN_LAST_STATUS 0).id], loggedParts ++ [.mirrorQ, .fns])
  | .flr _ => some ([(Reg.HIF_FN_STATUS_OPENED 0).id, (Reg.HIF_FN_STATUS_ABI_MAJOR 0).id, (Reg.HIF_PEN_OWNER_ASSIGNED 0).id,
      (Reg.HIF_PEN_OWNER_FUNCTION 0).id, (Reg.HIF_FN_VEC_COUNT 0).id, (Reg.HIF_FN_VEC_BASE 0).id, Reg.HIF_SLOT_OWNER_SLOT3.id,
      Reg.HIF_SLOT_OWNER_SLOT2.id, Reg.HIF_SLOT_OWNER_SLOT1.id, Reg.HIF_SLOT_OWNER_SLOT0.id, Reg.HIF_SETUP_STATUS_LAST_STATUS.id], [.fns,
      .vfEnable, .rings, .unsigSince])
  | .d3hotExit _ => some ([(Reg.HIF_FN_STATUS_OPENED 0).id, (Reg.HIF_FN_STATUS_ABI_MAJOR 0).id, (Reg.HIF_PEN_OWNER_ASSIGNED 0).id,
      (Reg.HIF_PEN_OWNER_FUNCTION 0).id, (Reg.HIF_FN_VEC_COUNT 0).id, (Reg.HIF_FN_VEC_BASE 0).id, Reg.HIF_SLOT_OWNER_SLOT3.id,
      Reg.HIF_SLOT_OWNER_SLOT2.id, Reg.HIF_SLOT_OWNER_SLOT1.id, Reg.HIF_SLOT_OWNER_SLOT0.id, Reg.HIF_SETUP_STATUS_LAST_STATUS.id], [.fns,
      .vfEnable, .rings, .unsigSince])
  | .penOwnerWrite _ _ _ _ => some (loggedFields ++ [(Reg.HIF_PEN_OWNER_ASSIGNED 0).id, (Reg.HIF_PEN_OWNER_FUNCTION 0).id,
      Reg.HIF_SETUP_STATUS_LAST_STATUS.id], loggedParts ++ [.mirrorQ])
  | .slotOwnerWrite _ _ _ _ _ => some (loggedFields ++ [Reg.HIF_SLOT_OWNER_SLOT3.id, Reg.HIF_SLOT_OWNER_SLOT2.id, Reg.HIF_SLOT_OWNER_SLOT1.id,
      Reg.HIF_SLOT_OWNER_SLOT0.id, Reg.HIF_SETUP_STATUS_LAST_STATUS.id], loggedParts ++ [.mirrorQ])
  | .vectorWrite _ _ _ _ _ => some (loggedFields ++ [(Reg.HIF_FN_VEC_COUNT 0).id, (Reg.HIF_FN_VEC_BASE 0).id,
      Reg.HIF_SETUP_STATUS_LAST_STATUS.id], loggedParts ++ [.mirrorQ, .vfEnable])
  | .doorbell _ _ _ _ _ => some (loggedFields ++ [(Reg.HIF_FN_DB_ERR_CNT 0).id], loggedParts)
  | .nop _ _ => some (loggedFields ++ [(Reg.HIF_FN_DESC_ERR_CNT 0).id, (Reg.HIF_FN_DMA_ERR_CNT 0).id, Reg.PWR_REFUSED_CNT.id], loggedParts ++
      [.tim, .sys, .mirrorQ])
  | .createRing _ => some (loggedFields ++ [(Reg.HIF_FN_DESC_ERR_CNT 0).id, (Reg.HIF_FN_DMA_ERR_CNT 0).id, Reg.PWR_REFUSED_CNT.id], loggedParts ++
      [.tim, .sys, .mirrorQ])
  | .destroyRing _ => some (loggedFields ++ [(Reg.HIF_FN_DESC_ERR_CNT 0).id, (Reg.HIF_FN_DMA_ERR_CNT 0).id, Reg.PWR_REFUSED_CNT.id], loggedParts
      ++ [.tim, .sys, .mirrorQ])
  | .destroyRingDone _ => some ([], [.rings, .pba, .unsigSince])
  | .configWrite _ => some (allFields, loggedParts ++ [.tim, .sys, .mirrorQ])
  | .configRead _ => some (allFields, loggedParts ++ [.tim, .sys, .mirrorQ, .free])
  | .statsRead _ => some (loggedFields ++ [(Reg.HIF_FN_DESC_ERR_CNT 0).id, (Reg.HIF_FN_DMA_ERR_CNT 0).id, Reg.PWR_REFUSED_CNT.id], loggedParts ++
      [.tim, .sys, .mirrorQ])
  | .cancelTimed _ => some (loggedFields ++ [(Reg.HIF_FN_DESC_ERR_CNT 0).id, (Reg.HIF_FN_DMA_ERR_CNT 0).id, Reg.PWR_REFUSED_CNT.id], loggedParts
      ++ [.tim, .sys, .mirrorQ])
  | .ringFetchError _ => some (loggedFields ++ [(Reg.HIF_FN_DMA_ERR_CNT 0).id], loggedParts)
  | .msixModerationTimeout _ => some ([], [.rings, .pba, .unsigSince])
  | .msixUnmask _ _ => some ([], [.masked, .pba])
  | .bsInEntry _ _ _ => some (loggedFields ++ [(Reg.HIF_FN_DESC_ERR_CNT 0).id, (Reg.HIF_FN_DMA_ERR_CNT 0).id, (Reg.ING_RX_DUP_CNT_LO 0).id,
      (Reg.ING_RX_DUP_CNT_HI 0).id, (Reg.ENC_BS_RUN_STATE 0).id, (Reg.DEC_BS_JOINED 0).id, (Reg.DEC_BS_STREAM_UP 0).id, (Reg.DEC_BS_CONC_SP 0).id,
      (Reg.DEC_BS_ERR_SLICE_CNT 0).id, (Reg.DEC_BS_NOSTAMP_CNT 0).id, (Reg.DEC_BS_DUP_SLICE_CNT 0).id, (Reg.DEC_BS_OUTSIDE_CNT 0).id,
      (Reg.DEC_BS_STALE_CNT 0).id, (Reg.DEC_BS_LATE_SLICE_CNT 0).id, (Reg.DEC_BS_MISMATCH_CNT 0).id], loggedParts ++ [.tim, .slots, .sys,
      .mirrorQ, .free])
  | .ingLaneMaskWrite _ _ => some (loggedFields ++ [Reg.ING_CTRL_LAST_STATUS.id, Reg.ING_CTRL_LANE_MASK.id], loggedParts ++ [.mirrorQ])
  | .receiverEnable _ _ _ _ _ => some (loggedFields ++ [(Reg.CAR_P_Q_DEPTH_B 0 0).id, (Reg.CAR_P_Q_DEPTH_MAX_B 0 0).id,
      (Reg.CAR_P_Q_DROP_CNT 0 0).id, (Reg.CAR_P_Q_DOWN_DROP_CNT 0 0).id, (Reg.TRN_Q_MODE 0).id, (Reg.TRN_Q_OVH 0).id, (Reg.TRN_Q_CIR_MBPS 0).id,
      (Reg.TRN_Q_PIR_MBPS 0).id, (Reg.TRN_Q_CBS_B 0).id, (Reg.TRN_Q_PBS_B 0).id, (Reg.TRN_Q_GREEN_CNT 0).id, (Reg.TRN_Q_YELLOW_CNT 0).id,
      (Reg.TRN_Q_RED_CNT 0).id, (Reg.ING_RX_ENABLE 0).id, (Reg.ING_RX_PATH1_EN 0).id, (Reg.ING_RX_PATH0_EN 0).id, (Reg.ING_RX_PT 0).id,
      (Reg.ING_RX_LAST_STATUS 0).id, (Reg.ING_RX_SIGNAL 0).id, (Reg.ING_RX_PATH1_UP 0).id, (Reg.ING_RX_PATH0_UP 0).id], loggedParts ++ [.egr, .rx,
      .mirrorQ])
  | .receiverDisable _ _ _ _ _ _ => some (loggedFields ++ [(Reg.CAR_P_Q_DEPTH_B 0 0).id, (Reg.CAR_P_Q_DEPTH_MAX_B 0 0).id,
      (Reg.CAR_P_Q_DROP_CNT 0 0).id, (Reg.CAR_P_Q_DOWN_DROP_CNT 0 0).id, (Reg.TRN_Q_MODE 0).id, (Reg.TRN_Q_OVH 0).id, (Reg.TRN_Q_CIR_MBPS 0).id,
      (Reg.TRN_Q_PIR_MBPS 0).id, (Reg.TRN_Q_CBS_B 0).id, (Reg.TRN_Q_PBS_B 0).id, (Reg.TRN_Q_GREEN_CNT 0).id, (Reg.TRN_Q_YELLOW_CNT 0).id,
      (Reg.TRN_Q_RED_CNT 0).id, (Reg.ING_RX_ENABLE 0).id, (Reg.ING_RX_PATH1_EN 0).id, (Reg.ING_RX_PATH0_EN 0).id, (Reg.ING_RX_PT 0).id,
      (Reg.ING_RX_LAST_STATUS 0).id, (Reg.ING_RX_SIGNAL 0).id, (Reg.ING_RX_PATH1_UP 0).id, (Reg.ING_RX_PATH0_UP 0).id], loggedParts ++ [.egr, .rx,
      .mirrorQ])
  | .videoPacketRx _ _ _ => some (loggedFields ++ [(Reg.CHK_PKT_CNT 0).id, (Reg.CHK_CRC_ERR_CNT 0).id, (Reg.ING_LANE_UNMATCHED_CNT 0).id,
      (Reg.ING_RX_SIGNAL 0).id, (Reg.ING_RX_PATH1_UP 0).id, (Reg.ING_RX_PATH0_UP 0).id, (Reg.ING_RX_WRITE_BUF 0).id, (Reg.ING_RX_LATE_CNT 0).id,
      (Reg.ING_RX_FMT_ERR_CNT 0).id, (Reg.ING_RX_LOST_LINE_CNT 0).id, (Reg.ING_RX_FS_DROP_CNT 0).id, (Reg.ING_RX_TIME_ERR_CNT 0).id,
      (Reg.ING_RX_PKT0_CNT_LO 0).id, (Reg.ING_RX_PKT0_CNT_HI 0).id, (Reg.ING_RX_PKT1_CNT_LO 0).id, (Reg.ING_RX_PKT1_CNT_HI 0).id,
      (Reg.ING_RX_DUP_CNT_LO 0).id, (Reg.ING_RX_DUP_CNT_HI 0).id, Reg.SAF_PROTECT_CNT.id, Reg.TRP_STATUS_STATE.id, Reg.TRP_STATUS_FIT.id],
      loggedParts ++ [.rx, .trp, .dram, .mem])
  | .audioPacketRx _ _ _ => some (loggedFields ++ [(Reg.CHK_PKT_CNT 0).id, (Reg.CHK_CRC_ERR_CNT 0).id, (Reg.ING_LANE_UNMATCHED_CNT 0).id,
      (Reg.ING_RX_SIGNAL 0).id, (Reg.ING_RX_PATH1_UP 0).id, (Reg.ING_RX_PATH0_UP 0).id, (Reg.ING_RX_LATE_CNT 0).id, (Reg.ING_RX_FMT_ERR_CNT 0).id,
      (Reg.ING_RX_TIME_ERR_CNT 0).id, (Reg.ING_RX_PKT0_CNT_LO 0).id, (Reg.ING_RX_PKT0_CNT_HI 0).id, (Reg.ING_RX_PKT1_CNT_LO 0).id,
      (Reg.ING_RX_PKT1_CNT_HI 0).id, (Reg.ING_RX_DUP_CNT_LO 0).id, (Reg.ING_RX_DUP_CNT_HI 0).id, Reg.SAF_PROTECT_CNT.id, Reg.TRP_STATUS_STATE.id,
      Reg.TRP_STATUS_FIT.id], loggedParts ++ [.rx, .trp, .aud, .dram, .mem])
  | .ancPacketRx _ _ _ => some (loggedFields ++ [(Reg.CHK_PKT_CNT 0).id, (Reg.CHK_CRC_ERR_CNT 0).id, (Reg.ING_LANE_UNMATCHED_CNT 0).id,
      (Reg.ING_RX_SIGNAL 0).id, (Reg.ING_RX_PATH1_UP 0).id, (Reg.ING_RX_PATH0_UP 0).id, (Reg.ING_RX_LATE_CNT 0).id, (Reg.ING_RX_FMT_ERR_CNT 0).id,
      (Reg.ING_RX_FS_DROP_CNT 0).id, (Reg.ING_RX_TIME_ERR_CNT 0).id, (Reg.ING_RX_PKT0_CNT_LO 0).id, (Reg.ING_RX_PKT0_CNT_HI 0).id,
      (Reg.ING_RX_PKT1_CNT_LO 0).id, (Reg.ING_RX_PKT1_CNT_HI 0).id, (Reg.ING_RX_DUP_CNT_LO 0).id, (Reg.ING_RX_DUP_CNT_HI 0).id,
      Reg.SAF_PROTECT_CNT.id, Reg.TRP_STATUS_STATE.id, Reg.TRP_STATUS_FIT.id], loggedParts ++ [.rx, .trp, .dram, .mem])
  | .codedPacketRx _ _ _ _ => some (loggedFields ++ [(Reg.HIF_FN_DESC_ERR_CNT 0).id, (Reg.CHK_PKT_CNT 0).id, (Reg.CHK_CRC_ERR_CNT 0).id,
      (Reg.ING_LANE_UNMATCHED_CNT 0).id, (Reg.ING_RX_SIGNAL 0).id, (Reg.ING_RX_PATH1_UP 0).id, (Reg.ING_RX_PATH0_UP 0).id,
      (Reg.ING_RX_LATE_CNT 0).id, (Reg.ING_RX_FMT_ERR_CNT 0).id, (Reg.ING_RX_TIME_ERR_CNT 0).id, (Reg.ING_RX_PKT0_CNT_LO 0).id,
      (Reg.ING_RX_PKT0_CNT_HI 0).id, (Reg.ING_RX_PKT1_CNT_LO 0).id, (Reg.ING_RX_PKT1_CNT_HI 0).id, (Reg.ING_RX_DUP_CNT_LO 0).id,
      (Reg.ING_RX_DUP_CNT_HI 0).id, (Reg.ENC_BS_RUN_STATE 0).id, (Reg.DEC_BS_JOINED 0).id, (Reg.DEC_BS_STREAM_UP 0).id, (Reg.DEC_BS_CONC_SP 0).id,
      (Reg.DEC_BS_ERR_SLICE_CNT 0).id, (Reg.DEC_BS_NOSTAMP_CNT 0).id, (Reg.DEC_BS_DUP_SLICE_CNT 0).id, (Reg.DEC_BS_OUTSIDE_CNT 0).id,
      (Reg.DEC_BS_STALE_CNT 0).id, (Reg.DEC_BS_LATE_SLICE_CNT 0).id, (Reg.DEC_BS_MISMATCH_CNT 0).id, Reg.TRP_STATUS_STATE.id,
      Reg.TRP_STATUS_FIT.id], loggedParts ++ [.tim, .slots, .rx, .trp, .free])
  | .unmatchedFrameRx _ => some ([(Reg.ING_LANE_UNMATCHED_CNT 0).id], [.fresh])
  | .arpRequestRx _ _ => some ([(Reg.HIF_FN_EVT_LOST_CNT 0).id, (Reg.BRK_LATCH 0).id, (Reg.CAR_P_Q_DEPTH_B 0 0).id,
      (Reg.CAR_P_Q_DEPTH_MAX_B 0 0).id, (Reg.CAR_P_Q_DROP_CNT 0 0).id, (Reg.CAR_P_Q_DOWN_DROP_CNT 0 0).id, (Reg.TRN_Q_MODE 0).id,
      (Reg.TRN_Q_OVH 0).id, (Reg.TRN_Q_CIR_MBPS 0).id, (Reg.TRN_Q_PIR_MBPS 0).id, (Reg.TRN_Q_CBS_B 0).id, (Reg.TRN_Q_PBS_B 0).id,
      (Reg.TRN_Q_GREEN_CNT 0).id, (Reg.TRN_Q_YELLOW_CNT 0).id, (Reg.TRN_Q_RED_CNT 0).id, (Reg.ING_LANE_UNMATCHED_CNT 0).id], [.fresh, .egr,
      .rings, .pba, .unsigSince, .limits])
  | .pauseFrameRx _ => some ([(Reg.LANE_PAUSE_CNT 0).id], [.fresh])
  | .badFcsFrameRx _ => some ([(Reg.LANE_FCS_ERR_CNT 0).id], [.fresh])
  | .igmpQueryRx _ _ => some ([(Reg.HIF_FN_EVT_LOST_CNT 0).id, (Reg.BRK_LATCH 0).id, (Reg.CAR_P_Q_DEPTH_B 0 0).id,
      (Reg.CAR_P_Q_DEPTH_MAX_B 0 0).id, (Reg.CAR_P_Q_DROP_CNT 0 0).id, (Reg.CAR_P_Q_DOWN_DROP_CNT 0 0).id, (Reg.TRN_Q_MODE 0).id,
      (Reg.TRN_Q_OVH 0).id, (Reg.TRN_Q_CIR_MBPS 0).id, (Reg.TRN_Q_PIR_MBPS 0).id, (Reg.TRN_Q_CBS_B 0).id, (Reg.TRN_Q_PBS_B 0).id,
      (Reg.TRN_Q_GREEN_CNT 0).id, (Reg.TRN_Q_YELLOW_CNT 0).id, (Reg.TRN_Q_RED_CNT 0).id], [.fresh, .egr, .rings, .pba, .unsigSince, .limits])
  | .pictureCloseTimeout _ => some ([(Reg.HIF_FN_EVT_LOST_CNT 0).id, (Reg.BRK_LATCH 0).id, (Reg.ING_RX_WRITE_BUF 0).id,
      (Reg.ING_RX_LOST_LINE_CNT 0).id], [.fresh, .rx, .rings, .pba, .unsigSince])
  | .pathLossTimeout _ _ => some ([(Reg.HIF_FN_EVT_LOST_CNT 0).id, (Reg.BRK_LATCH 0).id, (Reg.ING_RX_SIGNAL 0).id, (Reg.ING_RX_PATH1_UP 0).id,
      (Reg.ING_RX_PATH0_UP 0).id, (Reg.ING_RX_PATH_DOWN_CNT 0).id], [.fresh, .rings, .pba, .unsigSince])
  | .composeRow _ => some ([(Reg.HIF_FN_EVT_LOST_CNT 0).id, (Reg.BRK_LATCH 0).id, (Reg.CMP_L_HELD_LINE_CNT 0 0).id,
      (Reg.CMP_L_TRANSP_LINE_CNT 0 0).id, (Reg.SAF_SLOT_STATE_STATE 0).id, (Reg.SAF_SLOT_STATE_PENDING 0).id, (Reg.SAF_SLOT_STATE_REQUIRE 0).id,
      (Reg.SAF_SLOT_STATE_FAULT_ACTION 0).id, (Reg.SAF_SLOT_READBACK_ERR_CNT 0).id, (Reg.SAF_SLOT_SEQ_LO 0).id, (Reg.SAF_SLOT_SEQ_HI 0).id,
      (Reg.SAF_SLOT_UNTIL_SEC 0).id, (Reg.SAF_SLOT_UNTIL_NS 0).id, (Reg.ENC_BS_SWEEP_POS 0).id], [.fresh, .slots, .cmps, .safs, .mirrorQ, .rings,
      .pba, .unsigSince])
  | .cmpSlotCommit _ _ => some (loggedFields ++ [(Reg.CMP_SLOT_CANVAS_TCS 0).id, (Reg.CMP_SLOT_CANVAS_COLORIMETRY 0).id,
      (Reg.CMP_SLOT_CANVAS_CANVAS_PEAK 0).id, (Reg.CMP_SLOT_BG_R 0).id, (Reg.CMP_SLOT_BG_G 0).id, (Reg.CMP_SLOT_BG_B 0).id,
      (Reg.CMP_SLOT_LEVELS_SDR_WHITE 0).id, (Reg.CMP_SLOT_LEVELS_HLG_LW 0).id, (Reg.CMP_SLOT_BENCH_EN 0).id, (Reg.CMP_SLOT_BENCH_FRAMES 0).id,
      (Reg.CMP_SLOT_BENCH_BASE 0).id, (Reg.CMP_SLOT_TABLE_BASE 0).id, (Reg.CMP_SLOT_COMMIT_LAST_STATUS 0).id,
      (Reg.CMP_SLOT_STATUS_BENCH_STATE 0).id, (Reg.CMP_SLOT_STATUS_LAG 0).id, (Reg.CMP_L_ENABLE 0 0).id, (Reg.CMP_L_Z 0 0).id,
      (Reg.CMP_L_PREMULT 0 0).id, (Reg.CMP_L_LAYER_ALPHA 0 0).id, (Reg.CMP_L_TM_MODE 0 0).id, (Reg.CMP_L_LUT 0 0).id, (Reg.CMP_L_COEF_H 0 0).id,
      (Reg.CMP_L_COEF_V 0 0).id, (Reg.CMP_L_SRC_KIND_OR_FORMAT 0 0).id, (Reg.CMP_L_GFX_TCS 0 0).id, (Reg.CMP_L_INDEX_OR_PITCH 0 0).id,
      (Reg.CMP_L_CROP_X 0 0).id, (Reg.CMP_L_CROP_Y 0 0).id, (Reg.CMP_L_CROP_W 0 0).id, (Reg.CMP_L_CROP_H 0 0).id, (Reg.CMP_L_DST_X 0 0).id,
      (Reg.CMP_L_DST_Y 0 0).id, (Reg.CMP_L_DST_W 0 0).id, (Reg.CMP_L_DST_H 0 0).id, (Reg.CMP_L_SRC_PEAK 0 0).id, (Reg.CMP_L_KNEE 0 0).id,
      (Reg.CMP_L_SCROLL_X 0 0).id, (Reg.CMP_L_SCROLL_Y 0 0).id, (Reg.CMP_L_SURF_A_BASE 0 0).id, (Reg.CMP_L_SURF_B_BASE 0 0).id,
      (Reg.CMP_L_SURF_W 0 0).id, (Reg.CMP_L_SURF_H 0 0).id, (Reg.CMP_L_FILLED 0 0).id], loggedParts ++ [.cmps, .mirrorQ])
  | .cmpCommit _ => some (loggedFields ++ [(Reg.HIF_FN_DESC_ERR_CNT 0).id, (Reg.HIF_FN_DMA_ERR_CNT 0).id, Reg.PWR_REFUSED_CNT.id,
      (Reg.CMP_SLOT_CANVAS_TCS 0).id, (Reg.CMP_SLOT_CANVAS_COLORIMETRY 0).id, (Reg.CMP_SLOT_CANVAS_CANVAS_PEAK 0).id, (Reg.CMP_SLOT_BG_R 0).id,
      (Reg.CMP_SLOT_BG_G 0).id, (Reg.CMP_SLOT_BG_B 0).id, (Reg.CMP_SLOT_LEVELS_SDR_WHITE 0).id, (Reg.CMP_SLOT_LEVELS_HLG_LW 0).id,
      (Reg.CMP_SLOT_BENCH_EN 0).id, (Reg.CMP_SLOT_BENCH_FRAMES 0).id, (Reg.CMP_SLOT_BENCH_BASE 0).id, (Reg.CMP_SLOT_TABLE_BASE 0).id,
      (Reg.CMP_SLOT_COMMIT_LAST_STATUS 0).id, (Reg.CMP_SLOT_STATUS_BENCH_STATE 0).id, (Reg.CMP_SLOT_STATUS_LAG 0).id, (Reg.CMP_L_ENABLE 0 0).id,
      (Reg.CMP_L_Z 0 0).id, (Reg.CMP_L_PREMULT 0 0).id, (Reg.CMP_L_LAYER_ALPHA 0 0).id, (Reg.CMP_L_TM_MODE 0 0).id, (Reg.CMP_L_LUT 0 0).id,
      (Reg.CMP_L_COEF_H 0 0).id, (Reg.CMP_L_COEF_V 0 0).id, (Reg.CMP_L_SRC_KIND_OR_FORMAT 0 0).id, (Reg.CMP_L_GFX_TCS 0 0).id,
      (Reg.CMP_L_INDEX_OR_PITCH 0 0).id, (Reg.CMP_L_CROP_X 0 0).id, (Reg.CMP_L_CROP_Y 0 0).id, (Reg.CMP_L_CROP_W 0 0).id,
      (Reg.CMP_L_CROP_H 0 0).id, (Reg.CMP_L_DST_X 0 0).id, (Reg.CMP_L_DST_Y 0 0).id, (Reg.CMP_L_DST_W 0 0).id, (Reg.CMP_L_DST_H 0 0).id,
      (Reg.CMP_L_SRC_PEAK 0 0).id, (Reg.CMP_L_KNEE 0 0).id, (Reg.CMP_L_SCROLL_X 0 0).id, (Reg.CMP_L_SCROLL_Y 0 0).id,
      (Reg.CMP_L_SURF_A_BASE 0 0).id, (Reg.CMP_L_SURF_B_BASE 0 0).id, (Reg.CMP_L_SURF_W 0 0).id, (Reg.CMP_L_SURF_H 0 0).id,
      (Reg.CMP_L_FILLED 0 0).id], loggedParts ++ [.tim, .cmps, .sys, .mirrorQ])
  | .surfaceLoad _ => some (loggedFields ++ [(Reg.HIF_FN_DESC_ERR_CNT 0).id, (Reg.HIF_FN_DMA_ERR_CNT 0).id, Reg.PWR_REFUSED_CNT.id,
      (Reg.CMP_L_LOAD_PENDING 0 0).id, Reg.SAF_PROTECT_CNT.id], loggedParts ++ [.tim, .cmps, .dram, .sys, .mirrorQ, .mem])
  | .surfaceCopyDone _ _ => some ([], [.cmps])
  | .tableLoad _ => some (loggedFields ++ [(Reg.HIF_FN_DESC_ERR_CNT 0).id, (Reg.HIF_FN_DMA_ERR_CNT 0).id, Reg.PWR_REFUSED_CNT.id,
      Reg.SAF_PROTECT_CNT.id], loggedParts ++ [.tim, .cmps, .dram, .sys, .mirrorQ, .mem])
  | .benchFlattenDone _ => some (loggedFields ++ [(Reg.CMP_SLOT_BCNT_BENCH_FLAT_CNT 0).id, Reg.SAF_PROTECT_CNT.id], loggedParts ++ [.cmps, .dram,
      .mem])
  | .safLoad _ => some (loggedFields ++ [(Reg.HIF_FN_DESC_ERR_CNT 0).id, (Reg.HIF_FN_DMA_ERR_CNT 0).id, Reg.PWR_REFUSED_CNT.id,
      (Reg.SAF_SLOT_STATE_STATE 0).id, (Reg.SAF_SLOT_STATE_PENDING 0).id, (Reg.SAF_SLOT_STATE_REQUIRE 0).id,
      (Reg.SAF_SLOT_STATE_FAULT_ACTION 0).id, (Reg.SAF_SLOT_SEQ_LO 0).id, (Reg.SAF_SLOT_SEQ_HI 0).id, (Reg.SAF_SLOT_UNTIL_SEC 0).id,
      (Reg.SAF_SLOT_UNTIL_NS 0).id], loggedParts ++ [.tim, .safs, .sys, .mirrorQ])
  | .safPackageChecked _ => some (loggedFields ++ [(Reg.SAF_SLOT_STATE_STATE 0).id, (Reg.SAF_SLOT_STATE_PENDING 0).id,
      (Reg.SAF_SLOT_STATE_REQUIRE 0).id, (Reg.SAF_SLOT_STATE_FAULT_ACTION 0).id, (Reg.SAF_SLOT_STATE_LAST_STATUS 0).id,
      (Reg.SAF_SLOT_REFUSED_CNT 0).id, (Reg.SAF_KEY 0).id, (Reg.SAF_SLOT_SEQ_LO 0).id, (Reg.SAF_SLOT_SEQ_HI 0).id, (Reg.SAF_SLOT_UNTIL_SEC 0).id,
      (Reg.SAF_SLOT_UNTIL_NS 0).id], loggedParts ++ [.safs, .safKey, .dram, .mirrorQ, .mem])
  | .safEnroll _ => some (loggedFields ++ [(Reg.HIF_FN_DESC_ERR_CNT 0).id, (Reg.HIF_FN_DMA_ERR_CNT 0).id, Reg.PWR_REFUSED_CNT.id,
      (Reg.SAF_KEY 0).id], loggedParts ++ [.tim, .safKey, .sys, .mirrorQ])
  | .safAreaWrite _ _ _ => some (loggedFields ++ [(Reg.SAF_SLOT_AREA_BASE 0).id, (Reg.SAF_SLOT_STATE_LAST_STATUS 0).id], loggedParts ++
      [.mirrorQ])
  | .protectedWriteDrop _ _ => some (loggedFields ++ [Reg.SAF_PROTECT_CNT.id], loggedParts)
  | .sliceComplete _ _ _ _ _ => some (loggedFields ++ [(Reg.HIF_FN_DESC_ERR_CNT 0).id, (Reg.CHK_PKT_CNT 0).id, (Reg.CAR_P_Q_DEPTH_B 0 0).id,
      (Reg.CAR_P_Q_DEPTH_MAX_B 0 0).id, (Reg.CAR_P_Q_DROP_CNT 0 0).id, (Reg.CAR_P_Q_DOWN_DROP_CNT 0 0).id, (Reg.TRN_Q_MODE 0).id,
      (Reg.TRN_Q_OVH 0).id, (Reg.TRN_Q_CIR_MBPS 0).id, (Reg.TRN_Q_PIR_MBPS 0).id, (Reg.TRN_Q_CBS_B 0).id, (Reg.TRN_Q_PBS_B 0).id,
      (Reg.TRN_Q_GREEN_CNT 0).id, (Reg.TRN_Q_YELLOW_CNT 0).id, (Reg.TRN_Q_RED_CNT 0).id, (Reg.ENC_BS_ROW_LATE_CNT 0).id,
      (Reg.ENC_BS_FIRST_SWEEP 0).id, (Reg.ENC_BS_PIC_CNT 0).id, (Reg.ENC_BS_SWEEP_CNT 0).id, (Reg.RC_BS_FULLNESS 0).id,
      (Reg.RC_BS_GUARD_PIC_CNT 0).id, (Reg.RC_BS_GUARD_CTU_CNT 0).id], loggedParts ++ [.tim, .egr, .slots, .mirrorQ, .free])
  | .effortFloorWrite _ _ => some (loggedFields ++ [Reg.ENC_CTRL_EFFORT_FLOOR.id, Reg.ENC_CTRL_EFFORT.id, Reg.ENC_EFFORT_CHG_CNT.id], loggedParts
      ++ [.mirrorQ, .effortWas])
  | .tsPsiTimer _ => some ([(Reg.HIF_FN_EVT_LOST_CNT 0).id, (Reg.BRK_LATCH 0).id, (Reg.CAR_P_Q_DEPTH_B 0 0).id, (Reg.CAR_P_Q_DEPTH_MAX_B 0 0).id,
      (Reg.CAR_P_Q_DROP_CNT 0 0).id, (Reg.CAR_P_Q_DOWN_DROP_CNT 0 0).id, (Reg.TRN_Q_MODE 0).id, (Reg.TRN_Q_OVH 0).id, (Reg.TRN_Q_CIR_MBPS 0).id,
      (Reg.TRN_Q_PIR_MBPS 0).id, (Reg.TRN_Q_CBS_B 0).id, (Reg.TRN_Q_PBS_B 0).id, (Reg.TRN_Q_GREEN_CNT 0).id, (Reg.TRN_Q_YELLOW_CNT 0).id,
      (Reg.TRN_Q_RED_CNT 0).id], [.fresh, .egr, .slots, .rings, .pba, .unsigSince, .limits])
  | .decodeRowDone _ _ _ _ => some ([(Reg.HIF_FN_EVT_LOST_CNT 0).id, (Reg.BRK_LATCH 0).id, (Reg.DEC_BS_CONC_SP 0).id,
      (Reg.DEC_BS_ERR_SLICE_CNT 0).id, (Reg.DEC_BS_FENCE_CNT 0).id, (Reg.DEC_BS_XTILE_CNT 0).id], [.fresh, .slots, .dram, .mirrorQ, .rings, .pba,
      .unsigSince, .free])
  | .streamLossTimeout _ => some ([(Reg.HIF_FN_EVT_LOST_CNT 0).id, (Reg.BRK_LATCH 0).id, (Reg.DEC_BS_STREAM_UP 0).id], [.fresh, .slots, .rings,
      .pba, .unsigSince])
  | .laneLineOpen _ => some ([(Reg.HIF_FN_EVT_LOST_CNT 0).id, (Reg.BRK_LATCH 0).id], [.fresh, .scns, .rings, .pba, .unsigSince])
  | .startOfBlanking _ => some ([(Reg.HIF_FN_EVT_LOST_CNT 0).id, (Reg.BRK_LATCH 0).id, (Reg.SAF_SLOT_STATE_STATE 0).id,
      (Reg.SAF_SLOT_STATE_PENDING 0).id, (Reg.SAF_SLOT_STATE_REQUIRE 0).id, (Reg.SAF_SLOT_STATE_FAULT_ACTION 0).id,
      (Reg.SAF_SLOT_READBACK_ERR_CNT 0).id, (Reg.SAF_SLOT_SEQ_LO 0).id, (Reg.SAF_SLOT_SEQ_HI 0).id, (Reg.SAF_SLOT_UNTIL_SEC 0).id,
      (Reg.SAF_SLOT_UNTIL_NS 0).id, (Reg.SCN_LANE_ENABLE 0).id, (Reg.SCN_LANE_SRC_KIND 0).id, (Reg.SCN_LANE_CLONE_EN 0).id,
      (Reg.SCN_LANE_CLONE_OF 0).id, (Reg.SCN_LANE_SRC_INDEX 0).id, (Reg.SCN_LANE_TILES 0).id, (Reg.SCN_LANE_SRC_X 0).id,
      (Reg.SCN_LANE_SRC_Y 0).id, (Reg.SCN_LANE_SRC_W 0).id, (Reg.SCN_LANE_SRC_H 0).id, (Reg.SCN_LANE_LINE_NS 0).id,
      (Reg.SCN_LANE_FLIP_LEAD_NS 0).id, (Reg.SCN_LANE_COMMIT_LAST_STATUS 0).id, (Reg.SCN_LANE_STATUS_STATE 0).id,
      (Reg.SCN_LANE_STATUS_PENDING 0).id, (Reg.SCN_LANE_SR_ENTER_CNT 0).id, (Reg.SCN_LANE_TRANSITION_CNT 0).id, (Reg.SCN_LANE_MEM_LOAD_US 0).id,
      (Reg.SCN_LANE_MEM_RATE 0).id, (Reg.SCN_LANE_MEM_COLORIMETRY 0).id, (Reg.SCN_LANE_MEM_DEPTH 0).id, (Reg.SCN_LANE_MEM_PLANAR 0).id,
      (Reg.SCN_LANE_MEM_SAMPLING 0).id, (Reg.SCN_LANE_MEM_BASE 0).id, (Reg.SCN_TILE_X 0 0).id, (Reg.SCN_TILE_Y 0 0).id, (Reg.SCN_TILE_W 0 0).id,
      (Reg.SCN_TILE_H 0 0).id], [.fresh, .slots, .safs, .wires, .scns, .rings, .pba, .unsigSince])
  | .rowReqRx _ _ _ _ => some (loggedFields ++ [(Reg.SCN_LANE_UNDERRUN_CNT 0).id, (Reg.SCN_LANE_NOTREADY_CNT 0).id, (Reg.SCN_LANE_PROTO_CNT 0).id,
      (Reg.SCN_LANE_DUP_REQ_CNT 0).id], loggedParts ++ [.wires, .scns])
  | .scnLaneCommit _ _ => some (loggedFields ++ [(Reg.SCN_LANE_ENABLE 0).id, (Reg.SCN_LANE_SRC_KIND 0).id, (Reg.SCN_LANE_CLONE_EN 0).id,
      (Reg.SCN_LANE_CLONE_OF 0).id, (Reg.SCN_LANE_SRC_INDEX 0).id, (Reg.SCN_LANE_TILES 0).id, (Reg.SCN_LANE_SRC_X 0).id,
      (Reg.SCN_LANE_SRC_Y 0).id, (Reg.SCN_LANE_SRC_W 0).id, (Reg.SCN_LANE_SRC_H 0).id, (Reg.SCN_LANE_LINE_NS 0).id,
      (Reg.SCN_LANE_FLIP_LEAD_NS 0).id, (Reg.SCN_LANE_COMMIT_LAST_STATUS 0).id, (Reg.SCN_LANE_STATUS_STATE 0).id,
      (Reg.SCN_LANE_STATUS_PENDING 0).id, (Reg.SCN_LANE_TRANSITION_CNT 0).id, (Reg.SCN_LANE_MEM_LOAD_US 0).id, (Reg.SCN_LANE_MEM_RATE 0).id,
      (Reg.SCN_LANE_MEM_COLORIMETRY 0).id, (Reg.SCN_LANE_MEM_DEPTH 0).id, (Reg.SCN_LANE_MEM_PLANAR 0).id, (Reg.SCN_LANE_MEM_SAMPLING 0).id,
      (Reg.SCN_LANE_MEM_BASE 0).id, (Reg.SCN_TILE_X 0 0).id, (Reg.SCN_TILE_Y 0 0).id, (Reg.SCN_TILE_W 0 0).id, (Reg.SCN_TILE_H 0 0).id],
      loggedParts ++ [.tim, .wires, .scns, .mirrorQ])
  | .laneCfgWrite _ _ _ => some (allFields, loggedParts ++ [.tim, .egr, .slots, .rx, .cmps, .safs, .lanes, .scns, .trp, .aud, .dram, .tasks,
      .brk, .mirrorQ, .mem])
  | .laneTestWrite _ _ _ => some (loggedFields ++ [(Reg.PWR_PD_ON 0).id, (Reg.LANE_STATUS_STATE 0).id, (Reg.LANE_STATUS_LAST_STATUS 0).id,
      (Reg.LANE_ADAPT_PRESET 0).id, (Reg.LANE_TEST_TEST_EN 0).id, (Reg.LANE_TEST_TX_PAT 0).id, (Reg.LANE_TEST_RX_PAT 0).id,
      (Reg.LANE_TEST_LOOP 0).id, (Reg.LANE_TEST_SYNC 0).id, (Reg.LANE_ERR_CNT 0).id, (Reg.LANE_BITS_CNT_LO 0).id, (Reg.LANE_BITS_CNT_HI 0).id,
      (Reg.AKN_STATUS_VERSION 0).id, (Reg.CAR_P_Q_DEPTH_B 0 0).id, (Reg.CAR_P_Q_DEPTH_MAX_B 0 0).id, (Reg.CAR_P_Q_DOWN_DROP_CNT 0 0).id,
      (Reg.ING_RX_SIGNAL 0).id, (Reg.ING_RX_PATH1_UP 0).id, (Reg.ING_RX_PATH0_UP 0).id, (Reg.ING_RX_PATH_DOWN_CNT 0).id,
      (Reg.SCN_LANE_STATUS_STATE 0).id], loggedParts ++ [.egr, .lanes, .wires, .scns, .mirrorQ])
  | .laneMacWrite _ _ _ _ => some (loggedFields ++ [(Reg.LANE_STATUS_LAST_STATUS 0).id, (Reg.LANE_MAC_LO 0).id, (Reg.LANE_MAC_HI 0).id],
      loggedParts ++ [.mirrorQ])
  | .laneRetrain _ => some (loggedFields ++ [(Reg.HIF_FN_DESC_ERR_CNT 0).id, (Reg.HIF_FN_DMA_ERR_CNT 0).id, Reg.PWR_REFUSED_CNT.id,
      (Reg.PWR_PD_ON 0).id, (Reg.LANE_STATUS_STATE 0).id, (Reg.LANE_ADAPT_PRESET 0).id, (Reg.AKN_STATUS_VERSION 0).id,
      (Reg.CAR_P_Q_DEPTH_B 0 0).id, (Reg.CAR_P_Q_DEPTH_MAX_B 0 0).id, (Reg.CAR_P_Q_DOWN_DROP_CNT 0 0).id, (Reg.ING_RX_SIGNAL 0).id,
      (Reg.ING_RX_PATH1_UP 0).id, (Reg.ING_RX_PATH0_UP 0).id, (Reg.ING_RX_PATH_DOWN_CNT 0).id, (Reg.SCN_LANE_STATUS_STATE 0).id], loggedParts ++
      [.tim, .egr, .lanes, .scns, .sys, .mirrorQ])
  | .aknSend _ => some (loggedFields ++ [(Reg.HIF_FN_DESC_ERR_CNT 0).id, (Reg.HIF_FN_DMA_ERR_CNT 0).id, Reg.PWR_REFUSED_CNT.id], loggedParts ++
      [.tim, .lanes, .wires, .sys, .mirrorQ])
  | .terminationSense _ _ => some ([(Reg.HIF_FN_EVT_LOST_CNT 0).id, (Reg.BRK_LATCH 0).id, (Reg.LANE_STATUS_STATE 0).id,
      (Reg.LANE_ADAPT_PRESET 0).id, (Reg.AKN_STATUS_VERSION 0).id, (Reg.CAR_P_Q_DEPTH_B 0 0).id, (Reg.CAR_P_Q_DEPTH_MAX_B 0 0).id,
      (Reg.CAR_P_Q_DOWN_DROP_CNT 0 0).id, (Reg.ING_RX_SIGNAL 0).id, (Reg.ING_RX_PATH1_UP 0).id, (Reg.ING_RX_PATH0_UP 0).id,
      (Reg.ING_RX_PATH_DOWN_CNT 0).id, (Reg.SCN_LANE_STATUS_STATE 0).id], [.fresh, .egr, .lanes, .scns, .rings, .pba, .unsigSince])
  | .autonegComplete _ => some ([(Reg.HIF_FN_EVT_LOST_CNT 0).id, (Reg.BRK_LATCH 0).id, (Reg.LANE_STATUS_STATE 0).id, (Reg.LANE_ADAPT_PRESET 0).id,
      (Reg.AKN_STATUS_VERSION 0).id, (Reg.CAR_P_Q_DEPTH_B 0 0).id, (Reg.CAR_P_Q_DEPTH_MAX_B 0 0).id, (Reg.CAR_P_Q_DOWN_DROP_CNT 0 0).id,
      (Reg.ING_RX_SIGNAL 0).id, (Reg.ING_RX_PATH1_UP 0).id, (Reg.ING_RX_PATH0_UP 0).id, (Reg.ING_RX_PATH_DOWN_CNT 0).id,
      (Reg.SCN_LANE_STATUS_STATE 0).id], [.fresh, .egr, .lanes, .scns, .rings, .pba, .unsigSince])
  | .trainingFrameRx _ _ => some ([(Reg.LANE_FFE_MAIN 0).id, (Reg.LANE_FFE_PRE 0).id, (Reg.LANE_FFE_POST 0).id], [.lanes, .wires, .free])
  | .bitLock _ => some ([(Reg.LANE_STATUS_STATE 0).id], [.wires])
  | .amLock _ => some ([(Reg.HIF_FN_EVT_LOST_CNT 0).id, (Reg.BRK_LATCH 0).id, (Reg.LANE_STATUS_STATE 0).id, (Reg.CAR_P_Q_DEPTH_B 0 0).id,
      (Reg.CAR_P_Q_DEPTH_MAX_B 0 0).id, (Reg.CAR_P_Q_DROP_CNT 0 0).id, (Reg.CAR_P_Q_DOWN_DROP_CNT 0 0).id, (Reg.TRN_Q_MODE 0).id,
      (Reg.TRN_Q_OVH 0).id, (Reg.TRN_Q_CIR_MBPS 0).id, (Reg.TRN_Q_PIR_MBPS 0).id, (Reg.TRN_Q_CBS_B 0).id, (Reg.TRN_Q_PBS_B 0).id,
      (Reg.TRN_Q_GREEN_CNT 0).id, (Reg.TRN_Q_YELLOW_CNT 0).id, (Reg.TRN_Q_RED_CNT 0).id, (Reg.SCN_LANE_COMMIT_LAST_STATUS 0).id], [.fresh, .egr,
      .lanes, .rings, .pba, .unsigSince, .limits])
  | .trainTimeout _ => some ([(Reg.HIF_FN_EVT_LOST_CNT 0).id, (Reg.BRK_LATCH 0).id, (Reg.LANE_STATUS_STATE 0).id, (Reg.LANE_ADAPT_PRESET 0).id,
      (Reg.LANE_TRAIN_FAIL_CNT 0).id, (Reg.AKN_STATUS_VERSION 0).id, (Reg.CAR_P_Q_DEPTH_B 0 0).id, (Reg.CAR_P_Q_DEPTH_MAX_B 0 0).id,
      (Reg.CAR_P_Q_DOWN_DROP_CNT 0 0).id, (Reg.ING_RX_SIGNAL 0).id, (Reg.ING_RX_PATH1_UP 0).id, (Reg.ING_RX_PATH0_UP 0).id,
      (Reg.ING_RX_PATH_DOWN_CNT 0).id, (Reg.SCN_LANE_STATUS_STATE 0).id], [.fresh, .egr, .lanes, .scns, .rings, .pba, .unsigSince])
  | .lockTimeout _ => some ([(Reg.HIF_FN_EVT_LOST_CNT 0).id, (Reg.BRK_LATCH 0).id, (Reg.LANE_STATUS_STATE 0).id, (Reg.LANE_ADAPT_PRESET 0).id,
      (Reg.LANE_TRAIN_FAIL_CNT 0).id, (Reg.AKN_STATUS_VERSION 0).id, (Reg.CAR_P_Q_DEPTH_B 0 0).id, (Reg.CAR_P_Q_DEPTH_MAX_B 0 0).id,
      (Reg.CAR_P_Q_DOWN_DROP_CNT 0 0).id, (Reg.ING_RX_SIGNAL 0).id, (Reg.ING_RX_PATH1_UP 0).id, (Reg.ING_RX_PATH0_UP 0).id,
      (Reg.ING_RX_PATH_DOWN_CNT 0).id, (Reg.SCN_LANE_STATUS_STATE 0).id], [.fresh, .egr, .lanes, .scns, .rings, .pba, .unsigSince])
  | .trainRetry _ => some ([(Reg.PWR_PD_ON 0).id, (Reg.LANE_STATUS_STATE 0).id], [.lanes])
  | .farEndLoss _ => some ([(Reg.HIF_FN_EVT_LOST_CNT 0).id, (Reg.PWR_PD_ON 0).id, (Reg.BRK_LATCH 0).id, (Reg.LANE_STATUS_STATE 0).id,
      (Reg.LANE_ADAPT_PRESET 0).id, (Reg.LANE_LOCK_LOSS_CNT 0).id, (Reg.AKN_STATUS_VERSION 0).id, (Reg.CAR_P_Q_DEPTH_B 0 0).id,
      (Reg.CAR_P_Q_DEPTH_MAX_B 0 0).id, (Reg.CAR_P_Q_DOWN_DROP_CNT 0 0).id, (Reg.ING_RX_SIGNAL 0).id, (Reg.ING_RX_PATH1_UP 0).id,
      (Reg.ING_RX_PATH0_UP 0).id, (Reg.ING_RX_PATH_DOWN_CNT 0).id, (Reg.SCN_LANE_STATUS_STATE 0).id], [.fresh, .egr, .lanes, .scns, .rings, .pba,
      .unsigSince])
  | .ethLinkFault _ => some ([(Reg.HIF_FN_EVT_LOST_CNT 0).id, (Reg.PWR_PD_ON 0).id, (Reg.BRK_LATCH 0).id, (Reg.LANE_STATUS_STATE 0).id,
      (Reg.LANE_ADAPT_PRESET 0).id, (Reg.LANE_LOCK_LOSS_CNT 0).id, (Reg.AKN_STATUS_VERSION 0).id, (Reg.CAR_P_Q_DEPTH_B 0 0).id,
      (Reg.CAR_P_Q_DEPTH_MAX_B 0 0).id, (Reg.CAR_P_Q_DOWN_DROP_CNT 0 0).id, (Reg.ING_RX_SIGNAL 0).id, (Reg.ING_RX_PATH1_UP 0).id,
      (Reg.ING_RX_PATH0_UP 0).id, (Reg.ING_RX_PATH_DOWN_CNT 0).id, (Reg.SCN_LANE_STATUS_STATE 0).id], [.fresh, .egr, .lanes, .scns, .rings, .pba,
      .unsigSince])
  | .slotLockTimeout _ => some ([(Reg.HIF_FN_EVT_LOST_CNT 0).id, (Reg.PWR_PD_ON 0).id, (Reg.BRK_LATCH 0).id, (Reg.LANE_STATUS_STATE 0).id,
      (Reg.LANE_ADAPT_PRESET 0).id, (Reg.AKN_STATUS_VERSION 0).id, (Reg.CAR_P_Q_DEPTH_B 0 0).id, (Reg.CAR_P_Q_DEPTH_MAX_B 0 0).id,
      (Reg.CAR_P_Q_DOWN_DROP_CNT 0 0).id, (Reg.ING_RX_SIGNAL 0).id, (Reg.ING_RX_PATH1_UP 0).id, (Reg.ING_RX_PATH0_UP 0).id,
      (Reg.ING_RX_PATH_DOWN_CNT 0).id, (Reg.SCN_LANE_STATUS_STATE 0).id], [.fresh, .egr, .lanes, .scns, .rings, .pba, .unsigSince])
  | .refclkLoss _ => some ([(Reg.HIF_FN_EVT_LOST_CNT 0).id, (Reg.BRK_LATCH 0).id, Reg.LANE_REFSTAT_LOST.id, Reg.LANE_REFSTAT_OK.id,
      (Reg.LANE_STATUS_STATE 0).id, (Reg.LANE_ADAPT_PRESET 0).id, (Reg.AKN_STATUS_VERSION 0).id, (Reg.CAR_P_Q_DEPTH_B 0 0).id,
      (Reg.CAR_P_Q_DEPTH_MAX_B 0 0).id, (Reg.CAR_P_Q_DOWN_DROP_CNT 0 0).id, (Reg.ING_RX_SIGNAL 0).id, (Reg.ING_RX_PATH1_UP 0).id,
      (Reg.ING_RX_PATH0_UP 0).id, (Reg.ING_RX_PATH_DOWN_CNT 0).id, (Reg.SCN_LANE_STATUS_STATE 0).id], [.fresh, .egr, .lanes, .scns, .rings, .pba,
      .unsigSince])
  | .refclkReturn _ => some ([(Reg.PWR_PD_ON 0).id, Reg.LANE_REFSTAT_OK.id, (Reg.LANE_STATUS_STATE 0).id, (Reg.LANE_TEST_SYNC 0).id,
      (Reg.LANE_ERR_CNT 0).id, (Reg.LANE_BITS_CNT_LO 0).id, (Reg.LANE_BITS_CNT_HI 0).id], [.lanes, .wires])
  | .headerSlotRx _ _ => some (loggedFields ++ [(Reg.LANE_STATUS_STATE 0).id, (Reg.LANE_ADAPT_PRESET 0).id, (Reg.LANE_LOCK_LOSS_CNT 0).id,
      (Reg.AKN_STATUS_VERSION 0).id, (Reg.AKN_HCRC_ERR_CNT 0).id, (Reg.AKN_DCRC_ERR_CNT 0).id, (Reg.AKN_PROTO_CNT 0).id,
      (Reg.AKN_CREDIT_ERR_CNT 0).id, (Reg.CAR_P_Q_DEPTH_B 0 0).id, (Reg.CAR_P_Q_DEPTH_MAX_B 0 0).id, (Reg.CAR_P_Q_DOWN_DROP_CNT 0 0).id,
      (Reg.ING_RX_SIGNAL 0).id, (Reg.ING_RX_PATH1_UP 0).id, (Reg.ING_RX_PATH0_UP 0).id, (Reg.ING_RX_PATH_DOWN_CNT 0).id,
      (Reg.SCN_LANE_STATUS_STATE 0).id], loggedParts ++ [.egr, .lanes, .wires, .scns])
  | .capOfferRx _ _ _ => some (loggedFields ++ [(Reg.LANE_STATUS_STATE 0).id, (Reg.AKN_STATUS_VERSION 0).id, (Reg.AKN_STATUS_PEER_ROLE 0).id,
      (Reg.AKN_STATUS_PEER_PART 0).id, (Reg.AKN_PROTO_CNT 0).id, (Reg.AKN_LAT_PS 0 0).id, (Reg.CAR_P_Q_DEPTH_B 0 0).id,
      (Reg.CAR_P_Q_DEPTH_MAX_B 0 0).id, (Reg.CAR_P_Q_DROP_CNT 0 0).id, (Reg.CAR_P_Q_DOWN_DROP_CNT 0 0).id, (Reg.TRN_Q_MODE 0).id,
      (Reg.TRN_Q_OVH 0).id, (Reg.TRN_Q_CIR_MBPS 0).id, (Reg.TRN_Q_PIR_MBPS 0).id, (Reg.TRN_Q_CBS_B 0).id, (Reg.TRN_Q_PBS_B 0).id,
      (Reg.TRN_Q_GREEN_CNT 0).id, (Reg.TRN_Q_YELLOW_CNT 0).id, (Reg.TRN_Q_RED_CNT 0).id, (Reg.SCN_LANE_COMMIT_LAST_STATUS 0).id,
      (Reg.SCN_LANE_STATUS_TILES_FOUND 0).id, (Reg.SCN_LANE_STATUS_LAT_MAX_NS 0).id], loggedParts ++ [.egr, .lanes, .wires])
  | .capEnumRx _ _ _ => some (loggedFields ++ [(Reg.LANE_STATUS_STATE 0).id, (Reg.AKN_STATUS_VERSION 0).id, (Reg.AKN_STATUS_TILES_FOUND 0).id,
      (Reg.AKN_PROTO_CNT 0).id, (Reg.AKN_LAT_PS 0 0).id, (Reg.CAR_P_Q_DEPTH_B 0 0).id, (Reg.CAR_P_Q_DEPTH_MAX_B 0 0).id,
      (Reg.CAR_P_Q_DROP_CNT 0 0).id, (Reg.CAR_P_Q_DOWN_DROP_CNT 0 0).id, (Reg.TRN_Q_MODE 0).id, (Reg.TRN_Q_OVH 0).id, (Reg.TRN_Q_CIR_MBPS 0).id,
      (Reg.TRN_Q_PIR_MBPS 0).id, (Reg.TRN_Q_CBS_B 0).id, (Reg.TRN_Q_PBS_B 0).id, (Reg.TRN_Q_GREEN_CNT 0).id, (Reg.TRN_Q_YELLOW_CNT 0).id,
      (Reg.TRN_Q_RED_CNT 0).id, (Reg.SCN_LANE_COMMIT_LAST_STATUS 0).id, (Reg.SCN_LANE_STATUS_TILES_FOUND 0).id,
      (Reg.SCN_LANE_STATUS_LAT_MAX_NS 0).id], loggedParts ++ [.egr, .lanes, .wires])
  | .capRetry _ => some ([(Reg.LANE_STATUS_STATE 0).id, (Reg.AKN_STATUS_VERSION 0).id], [.lanes, .wires])
  | .echoRespRx _ _ _ => some ([(Reg.HIF_FN_EVT_LOST_CNT 0).id, (Reg.BRK_LATCH 0).id, (Reg.LANE_STATUS_STATE 0).id, (Reg.AKN_LAT_PS 0 0).id,
      (Reg.CAR_P_Q_DEPTH_B 0 0).id, (Reg.CAR_P_Q_DEPTH_MAX_B 0 0).id, (Reg.CAR_P_Q_DROP_CNT 0 0).id, (Reg.CAR_P_Q_DOWN_DROP_CNT 0 0).id,
      (Reg.TRN_Q_MODE 0).id, (Reg.TRN_Q_OVH 0).id, (Reg.TRN_Q_CIR_MBPS 0).id, (Reg.TRN_Q_PIR_MBPS 0).id, (Reg.TRN_Q_CBS_B 0).id,
      (Reg.TRN_Q_PBS_B 0).id, (Reg.TRN_Q_GREEN_CNT 0).id, (Reg.TRN_Q_YELLOW_CNT 0).id, (Reg.TRN_Q_RED_CNT 0).id,
      (Reg.SCN_LANE_COMMIT_LAST_STATUS 0).id, (Reg.SCN_LANE_STATUS_TILES_FOUND 0).id, (Reg.SCN_LANE_STATUS_LAT_MAX_NS 0).id], [.fresh, .egr,
      .lanes, .wires, .rings, .pba, .unsigSince, .limits])
  | .echoTimeout _ => some ([(Reg.HIF_FN_EVT_LOST_CNT 0).id, (Reg.PWR_PD_ON 0).id, (Reg.BRK_LATCH 0).id, (Reg.LANE_STATUS_STATE 0).id,
      (Reg.LANE_ADAPT_PRESET 0).id, (Reg.AKN_STATUS_VERSION 0).id, (Reg.CAR_P_Q_DEPTH_B 0 0).id, (Reg.CAR_P_Q_DEPTH_MAX_B 0 0).id,
      (Reg.CAR_P_Q_DOWN_DROP_CNT 0 0).id, (Reg.ING_RX_SIGNAL 0).id, (Reg.ING_RX_PATH1_UP 0).id, (Reg.ING_RX_PATH0_UP 0).id,
      (Reg.ING_RX_PATH_DOWN_CNT 0).id, (Reg.SCN_LANE_STATUS_STATE 0).id], [.fresh, .egr, .lanes, .wires, .scns, .rings, .pba, .unsigSince])
  | .ctrlRespRx _ _ _ _ => some (loggedFields ++ [(Reg.AKN_PROTO_CNT 0).id], loggedParts ++ [.lanes])
  | .ctrlResponseTimeout _ _ => some ([], [.lanes, .rings, .pba, .unsigSince])
  | .egressSelect _ => some ([(Reg.HIF_FN_EVT_LOST_CNT 0).id, Reg.TIM_TC_FRAME_CNT.id, (Reg.BRK_LATCH 0).id, (Reg.CAR_P_Q_DEPTH_B 0 0).id,
      (Reg.CAR_P_Q_DEPTH_MAX_B 0 0).id, (Reg.CAR_P_Q_DELAY_MAX_NS 0 0).id, (Reg.CAR_P_Q_TX_FRAME_CNT 0 0).id, (Reg.CAR_P_Q_OVERSIZE_CNT 0 0).id,
      (Reg.CAR_P_Q_OVERDUE_CNT 0 0).id, (Reg.CAR_P_Q_TX_FRAME_CNT_HI 0 0).id, (Reg.TRN_Q_MODE 0).id, (Reg.TRN_Q_OVH 0).id,
      (Reg.TRN_Q_CIR_MBPS 0).id, (Reg.TRN_Q_PIR_MBPS 0).id, (Reg.TRN_Q_CBS_B 0).id, (Reg.TRN_Q_PBS_B 0).id, (Reg.TRN_Q_GREEN_CNT 0).id,
      (Reg.TRN_Q_YELLOW_CNT 0).id, (Reg.TRN_Q_RED_CNT 0).id, (Reg.ENC_BS_STR_PKT_CNT 0 0).id, (Reg.AUD_OUT_PKT_CNT 0).id], [.fresh, .egr, .rings,
      .pba, .unsigSince, .limits])
  | .carCommit _ _ => some (loggedFields ++ [(Reg.CAR_P_PENDING 0).id, (Reg.CAR_P_COMMIT_LAST_STATUS 0).id, (Reg.CAR_P_APPLY_SEC 0).id,
      (Reg.CAR_P_APPLY_NS 0).id], loggedParts ++ [.egr, .mirrorQ])
  | .carListLoad _ => some (loggedFields ++ [(Reg.HIF_FN_DESC_ERR_CNT 0).id, (Reg.HIF_FN_DMA_ERR_CNT 0).id, Reg.PWR_REFUSED_CNT.id,
      (Reg.CAR_P_GATE_EN 0).id, (Reg.CAR_P_PENDING 0).id, (Reg.CAR_P_CYCLE_NS 0).id, (Reg.CAR_P_BASE_SEC 0).id, (Reg.CAR_P_BASE_NS 0).id,
      (Reg.CAR_P_COUNT 0).id, (Reg.CAR_P_COMMIT_LAST_STATUS 0).id, (Reg.CAR_P_ENTRY_INTERVAL_NS 0 0).id, (Reg.CAR_P_ENTRY_GATES 0 0).id,
      (Reg.CAR_P_APPLY_SEC 0).id, (Reg.CAR_P_APPLY_NS 0).id], loggedParts ++ [.tim, .egr, .sys, .mirrorQ, .free])
  | .gateListSwap _ => some ([(Reg.HIF_FN_EVT_LOST_CNT 0).id, (Reg.BRK_LATCH 0).id, (Reg.CAR_P_BANK 0).id, (Reg.CAR_P_PENDING 0).id,
      (Reg.CAR_P_CNT_SWAP_CNT 0).id, (Reg.CAR_P_APPLY_SEC 0).id, (Reg.CAR_P_APPLY_NS 0).id], [.fresh, .tim, .egr, .rings, .pba, .unsigSince])
  | .trnCtrlWrite _ _ _ _ => some (loggedFields ++ [(Reg.TRN_Q_MODE 0).id, (Reg.TRN_Q_OVH 0).id, (Reg.TRN_Q_LAST_STATUS 0).id,
      (Reg.TRN_Q_CIR_MBPS 0).id, (Reg.TRN_Q_PIR_MBPS 0).id, (Reg.TRN_Q_CBS_B 0).id, (Reg.TRN_Q_PBS_B 0).id], loggedParts ++ [.egr, .mirrorQ])
  | .aes3FrameRx _ _ => some (loggedFields ++ [Reg.SAF_PROTECT_CNT.id, (Reg.AUD_IN_LOCK 0).id, (Reg.AUD_IN_ASRC 0).id, (Reg.AUD_IN_CS_A 0).id,
      (Reg.AUD_IN_CS_B 0).id, (Reg.AUD_IN_LOSS_CNT 0).id, (Reg.AUD_IN_PARITY_CNT 0).id, (Reg.AUD_IN_CS_ERR_CNT 0).id,
      (Reg.AUD_IN_INVALID_CNT 0).id, (Reg.AUD_IN_RATE_ERR_CNT 0).id], loggedParts ++ [.aud, .dram, .mem])
  | .aes3LockLoss _ _ => some (loggedFields ++ [Reg.SAF_PROTECT_CNT.id, (Reg.AUD_IN_LOCK 0).id, (Reg.AUD_IN_ASRC 0).id,
      (Reg.AUD_IN_LOSS_CNT 0).id, (Reg.AUD_IN_RATE_ERR_CNT 0).id], loggedParts ++ [.aud, .dram, .mem])
  | .asrcDecision _ _ => some ([(Reg.AUD_IN_ASRC 0).id, (Reg.AUD_IN_RATE_PPM 0).id], [.aud])
  | .sampleSlip _ _ => some ([(Reg.HIF_FN_EVT_LOST_CNT 0).id, (Reg.BRK_LATCH 0).id, (Reg.AUD_IN_SLIP_CNT 0).id], [.fresh, .aud, .rings, .pba,
      .unsigSince])
  | .mclkLoss => some ([(Reg.HIF_FN_EVT_LOST_CNT 0).id, (Reg.BRK_LATCH 0).id, Reg.AUD_MCLK_OK.id, Reg.AUD_MCLK_LOST.id, Reg.AUD_MCLK_LOSS_CNT.id],
      [.fresh, .aud, .rings, .pba, .unsigSince])
  | .mclkResume _ => some (loggedFields ++ [Reg.AUD_LAST_STATUS.id], loggedParts ++ [.aud, .mirrorQ])
  | .audPortWrite _ _ _ => some (loggedFields ++ [(Reg.AUD_IN_ENABLE 0).id, (Reg.AUD_IN_SRATE 0).id, (Reg.AUD_IN_ASRC_MODE 0).id,
      (Reg.AUD_IN_LAST_STATUS 0).id, (Reg.AUD_IN_LOCK 0).id, (Reg.AUD_IN_ASRC 0).id, (Reg.AUD_OUT_ENABLE 0).id, (Reg.AUD_OUT_SRATE 0).id,
      (Reg.AUD_OUT_MUTE 0).id, (Reg.AUD_OUT_PTIME 0).id, (Reg.AUD_OUT_LAST_STATUS 0).id], loggedParts ++ [.tim, .aud, .mirrorQ])
  | .audRouteWrite _ _ _ => some (loggedFields ++ [(Reg.AUD_OUT_LAST_STATUS 0).id, (Reg.AUD_ROUTE_SRC 0).id, (Reg.AUD_ROUTE_DELAY_SEL 0).id,
      (Reg.AUD_ROUTE_DELAY_US 0).id], loggedParts ++ [.aud, .mirrorQ])
  | .zeroCrossingChange _ => some ([(Reg.AUD_ROUTE_SRC 0).id, (Reg.AUD_ROUTE_DELAY_SEL 0).id, (Reg.AUD_ROUTE_DELAY_US 0).id], [.aud, .rings, .pba,
      .unsigSince, .free])
  | .zcTimeout _ => some ([(Reg.HIF_FN_EVT_LOST_CNT 0).id, (Reg.BRK_LATCH 0).id, (Reg.AUD_OUT_ZC_TO_CNT 0).id, (Reg.AUD_ROUTE_SRC 0).id,
      (Reg.AUD_ROUTE_DELAY_SEL 0).id, (Reg.AUD_ROUTE_DELAY_US 0).id], [.fresh, .aud, .rings, .pba, .unsigSince])
  | .audioCmd _ => some (loggedFields ++ [(Reg.HIF_FN_DESC_ERR_CNT 0).id, (Reg.HIF_FN_DMA_ERR_CNT 0).id, Reg.PWR_REFUSED_CNT.id,
      (Reg.AUD_OUT_LAST_STATUS 0).id], loggedParts ++ [.tim, .aud, .sys, .mirrorQ])
  | .audCaptureRead _ => some (loggedFields ++ [(Reg.HIF_FN_DESC_ERR_CNT 0).id, (Reg.HIF_FN_DMA_ERR_CNT 0).id, Reg.PWR_REFUSED_CNT.id],
      loggedParts ++ [.tim, .sys, .mirrorQ])
  | .audTemplateLoad _ => some (loggedFields ++ [(Reg.HIF_FN_DESC_ERR_CNT 0).id, (Reg.HIF_FN_DMA_ERR_CNT 0).id, Reg.PWR_REFUSED_CNT.id],
      loggedParts ++ [.tim, .aud, .sys, .mirrorQ])
  | .dmcLayoutCommit _ _ => some (loggedFields ++ [Reg.DMC_LAYOUT_MAP.id, Reg.DMC_LAYOUT_SPARE_EN.id, Reg.DMC_LAYOUT_SPARE_CH.id,
      Reg.DMC_LAYOUT_RANK_SIZE.id, Reg.DMC_LAYOUT_NR.id, Reg.DMC_STATUS_LAST_STATUS.id, Reg.DMC_STATUS_FILL_DONE.id, Reg.DMC_STATUS_SETS.id,
      (Reg.DMC_RANK_STATE_STATE 0).id, (Reg.DMC_RANK_STATE_MAPPED 0).id, (Reg.DMC_RANK_STATE_POS_CH 0).id, (Reg.DMC_RANK_STATE_POS_RANK 0).id,
      (Reg.DMC_SET_FILL_DONE 0).id, (Reg.DMC_SET_FILL_FILLED 0).id], loggedParts ++ [.dram, .mirrorQ, .mem])
  | .trnWrite _ _ _ => some (loggedFields ++ [(Reg.DMC_TRN_BUSY 0).id, (Reg.DMC_TRN_OP 0).id, (Reg.DMC_TRN_PATTERN 0).id, (Reg.DMC_TRN_RANK 0).id,
      (Reg.DMC_TRN_LEN 0).id, (Reg.DMC_TRN_LAST_STATUS 0).id], loggedParts ++ [.dram, .mirrorQ])
  | .trnReadCompare _ _ _ => some (loggedFields ++ [(Reg.DMC_TRN_BUSY 0).id, (Reg.DMC_TRN_OP 0).id, (Reg.DMC_TRN_PATTERN 0).id,
      (Reg.DMC_TRN_RANK 0).id, (Reg.DMC_TRN_LEN 0).id, (Reg.DMC_TRN_LAST_STATUS 0).id], loggedParts ++ [.dram, .mirrorQ])
  | .trnWriteCompare _ _ _ => some (loggedFields ++ [(Reg.DMC_TRN_BUSY 0).id, (Reg.DMC_TRN_OP 0).id, (Reg.DMC_TRN_PATTERN 0).id,
      (Reg.DMC_TRN_RANK 0).id, (Reg.DMC_TRN_LEN 0).id, (Reg.DMC_TRN_LAST_STATUS 0).id], loggedParts ++ [.dram, .mirrorQ])
  | .trnOpDone _ _ => some ([(Reg.DMC_TRN_BUSY 0).id, (Reg.DMC_TRN_LAST_STATUS 0).id, (Reg.DMC_TRN_ERR 0 0).id], [.dram])
  | .trnDlySet _ _ _ => some (loggedFields ++ [Reg.DMC_STATUS_LAST_STATUS.id, (Reg.DMC_TRN_LANE 0).id, (Reg.DMC_TRN_RD_DLY 0).id,
      (Reg.DMC_TRN_WR_DLY 0).id, (Reg.DMC_TRN_VREF 0).id], loggedParts ++ [.dram, .mirrorQ])
  | .mrWrite _ _ _ _ => some (loggedFields ++ [(Reg.DMC_TRN_MR_ADDR 0).id, (Reg.DMC_TRN_MR_DATA 0).id], loggedParts ++ [.mirrorQ])
  | .mrRead _ _ _ _ => some (loggedFields ++ [(Reg.DMC_TRN_MR_ADDR 0).id, (Reg.DMC_TRN_MR_DATA 0).id], loggedParts ++ [.mirrorQ])
  | .setFillDone _ => some ([(Reg.HIF_FN_EVT_LOST_CNT 0).id, (Reg.BRK_LATCH 0).id, Reg.DMC_STATUS_FILL_DONE.id, (Reg.DMC_SET_FILL_DONE 0).id,
      (Reg.DMC_SET_FILL_FILLED 0).id], [.fresh, .rings, .pba, .unsigSince])
  | .eccCorrectedRead _ => some (allFields, loggedParts ++ [.tim, .egr, .slots, .rx, .cmps, .safs, .lanes, .scns, .trp, .aud, .dram,
      .tasks, .brk, .trans, .sys, .mirrorQ, .mem])
  | .eccUncorrectableRead _ => some (allFields, loggedParts ++ [.tim, .egr, .slots, .rx, .cmps, .safs, .lanes, .scns, .trp, .aud, .dram,
      .tasks, .brk, .trans, .sys, .mirrorQ, .mem])
  | .commandRetryFail _ => some (allFields, loggedParts ++ [.tim, .egr, .slots, .rx, .cmps, .safs, .lanes, .scns, .trp, .aud, .dram, .tasks,
      .brk, .trans, .sys, .mirrorQ, .mem])
  | .patrolScrub _ => some ([(Reg.HIF_FN_EVT_LOST_CNT 0).id, (Reg.BRK_LATCH 0).id, (Reg.DMC_RANK_STATE_STATE 0).id,
      (Reg.DMC_RANK_STATE_MAPPED 0).id, (Reg.DMC_RANK_STATE_RETIRE_CODE 0).id], [.fresh, .rings, .pba, .unsigSince])
  | .dmcMigrate _ => some (loggedFields ++ [(Reg.HIF_FN_DESC_ERR_CNT 0).id, (Reg.HIF_FN_DMA_ERR_CNT 0).id, Reg.PWR_REFUSED_CNT.id,
      Reg.DMC_STATUS_MIG_ACTIVE.id, (Reg.DMC_RANK_STATE_STATE 0).id, Reg.DMC_MIG_CTRL_ACTIVE.id, Reg.DMC_MIG_CTRL_SRC.id, Reg.DMC_MIG_CTRL_DST.id,
      Reg.DMC_MIG_PTR.id], loggedParts ++ [.tim, .dram, .sys, .mirrorQ])
  | .migrationComplete => some ([(Reg.HIF_FN_EVT_LOST_CNT 0).id, (Reg.BRK_LATCH 0).id, Reg.DMC_STATUS_MIG_ACTIVE.id,
      (Reg.DMC_RANK_STATE_STATE 0).id, (Reg.DMC_RANK_STATE_MAPPED 0).id, (Reg.DMC_RANK_STATE_POS_CH 0).id, (Reg.DMC_RANK_STATE_POS_RANK 0).id,
      (Reg.DMC_RANK_STATE_RETIRE_CODE 0).id, Reg.DMC_MIG_CTRL_ACTIVE.id, Reg.DMC_MIG_PTR.id, Reg.DMC_MIG_CNT.id, Reg.DMC_POISON_COPY_CNT.id],
      [.fresh, .dram, .rings, .pba, .unsigSince])
  | .refresh _ _ _ => some ([(Reg.HIF_FN_EVT_LOST_CNT 0).id, (Reg.BRK_LATCH 0).id, Reg.DMC_REFRESH_MULT_MAX.id, Reg.DMC_NBR_CNT.id], [.fresh,
      .dram, .rings, .pba, .unsigSince])
  | .taskCreate _ _ _ _ _ _ => some ([Reg.JUG_CTRL_DRAINED.id, Reg.JUG_TASKS_READY_NOW.id, Reg.JUG_TASKS_USED.id, Reg.JUG_FULL_CNT.id], [.fresh,
      .tasks])
  | .taskDestroy _ => some ([Reg.JUG_CTRL_DRAINED.id, Reg.JUG_TASKS_READY_NOW.id, Reg.JUG_TASKS_USED.id], [.tasks])
  | .taskSignal _ _ => some ([Reg.JUG_CTRL_DRAINED.id, Reg.JUG_TASKS_READY_NOW.id, Reg.JUG_TASKS_USED.id, Reg.JUG_STRAY_SIG_CNT.id], [.fresh,
      .tasks])
  | .taskWait _ _ _ => some ([Reg.JUG_CTRL_DRAINED.id, Reg.JUG_TASKS_READY_NOW.id, Reg.JUG_TASKS_USED.id], [.tasks])
  | .taskYield _ => some ([Reg.JUG_CTRL_DRAINED.id, Reg.JUG_TASKS_READY_NOW.id, Reg.JUG_TASKS_USED.id], [.tasks])
  | .taskDispatch => some (loggedFields ++ [Reg.JUG_CTRL_DRAINED.id, Reg.JUG_TASKS_READY_NOW.id, Reg.JUG_TASKS_USED.id, Reg.JUG_DISPATCH_CNT.id,
      Reg.JUG_PREEMPT_CNT.id, Reg.JUG_INTR_CNT.id, Reg.SAF_PROTECT_CNT.id], loggedParts ++ [.dram, .tasks, .mem, .free])
  | .jugDrainWrite _ _ => some (loggedFields ++ [Reg.JUG_CTRL_DRAIN.id, Reg.JUG_CTRL_DRAINED.id, Reg.JUG_TASKS_READY_NOW.id,
      Reg.JUG_TASKS_USED.id, Reg.JUG_PREEMPT_CNT.id, Reg.JUG_INTR_CNT.id, Reg.SAF_PROTECT_CNT.id], loggedParts ++ [.dram, .tasks, .mirrorQ, .mem,
      .free])
  | .watchdogExpiry _ => some (allFields, loggedParts ++ [.tim, .egr, .slots, .rx, .cmps, .safs, .lanes, .scns, .trp, .aud, .dram, .tasks,
      .brk, .trans, .sys, .mirrorQ, .mem])
  | .barkerEntry _ => some ([(Reg.BRK_PAIR_RPRI 0).id, (Reg.BRK_PAIR_DEPTH 0).id, (Reg.BRK_PAIR_VALID 0).id, (Reg.BRK_PAIR_CUR_SRC 0).id,
      (Reg.BRK_PAIR_HANDON_CNT 0).id, (Reg.BRK_PAIR_ENTRY_TAKE_CNT 0).id, (Reg.BRK_SRC_CFG_CLAIMED 0).id, (Reg.BRK_SRC_CFG_CLAIMED_BY 0).id,
      (Reg.BRK_LOCAL_ENTRY_ACTIVE_AT_ENTRY 0).id, (Reg.BRK_LOCAL_ENTRY_SRC 0).id], [.fresh, .brk])
  | .brkComplete _ _ => some ([(Reg.BRK_PAIR_RPRI 0).id, (Reg.BRK_PAIR_DEPTH 0).id, (Reg.BRK_PAIR_VALID 0).id, (Reg.BRK_PAIR_CUR_SRC 0).id,
      (Reg.BRK_PAIR_VANISHED_CNT 0).id, (Reg.BRK_PAIR_STRAY_CNT 0).id, (Reg.BRK_PAIR_HANDON_CNT 0).id, (Reg.BRK_SRC_CFG_CLAIMED 0).id,
      (Reg.BRK_SRC_CFG_CLAIMED_BY 0).id, (Reg.BRK_LOCAL_ENTRY_ACTIVE_AT_ENTRY 0).id, (Reg.BRK_LOCAL_ENTRY_SRC 0).id], [.fresh, .brk])
  | .brkSwWrite _ _ => some (loggedFields, loggedParts ++ [.brk, .mirrorQ])
  | .brkLatchClear _ _ _ => some (loggedFields, loggedParts ++ [.mirrorQ])
  | .chkCtrlWrite _ _ _ => some (loggedFields ++ [(Reg.CHK_MODE 0).id, (Reg.CHK_REFIN 0).id, (Reg.CHK_REFOUT 0).id, (Reg.CHK_ATTACH_KIND 0).id,
      (Reg.CHK_ATTACH_INDEX 0).id, (Reg.CHK_WIDTH 0).id, (Reg.CHK_LAST_STATUS 0).id], loggedParts ++ [.mirrorQ])
  | .chkScan _ => some (loggedFields ++ [(Reg.HIF_FN_DESC_ERR_CNT 0).id, (Reg.HIF_FN_DMA_ERR_CNT 0).id, Reg.PWR_REFUSED_CNT.id,
      (Reg.CHK_BUSY 0).id, (Reg.CHK_LAST_STATUS 0).id], loggedParts ++ [.tim, .scans, .sys, .mirrorQ])
  | .chkScanDone _ => some ([(Reg.CHK_BUSY 0).id, (Reg.CHK_RESULT_LO 0).id, (Reg.CHK_RESULT_HI 0).id, (Reg.CHK_LAST_STATUS 0).id], [.scans,
      .rings, .pba, .unsigSince])
  | .trpCtrlWrite _ _ => some (allFields, loggedParts ++ [.egr, .trp, .mirrorQ])
  | .helloSend => some ([], [.lanes, .wires])
  | .helloRx _ _ => some ([(Reg.HIF_FN_EVT_LOST_CNT 0).id, (Reg.BRK_LATCH 0).id, Reg.SAF_CMP_AVAILABLE.id, Reg.TRP_STATUS_STATE.id,
      Reg.TRP_STATUS_PARTNER_SEEN.id, Reg.TRP_STATUS_PARTNER_READY.id, Reg.TRP_STATUS_FIT.id, Reg.TRP_PARTNER_PART.id, Reg.TRP_PARTNER_VERSION.id,
      Reg.TRP_RESYNC_CNT.id], [.fresh, .egr, .trp, .mirrorQ, .rings, .pba, .unsigSince, .limits, .free])
  | .partnerLoss => some ([(Reg.HIF_FN_EVT_LOST_CNT 0).id, (Reg.BRK_LATCH 0).id, Reg.SAF_CMP_AVAILABLE.id, Reg.TRP_STATUS_STATE.id,
      Reg.TRP_STATUS_PARTNER_SEEN.id, Reg.TRP_STATUS_PARTNER_READY.id, Reg.TRP_PARTNER_PART.id, Reg.TRP_PARTNER_VERSION.id], [.fresh, .egr, .trp,
      .rings, .pba, .unsigSince])
  | .mirrorDataRx _ _ _ => some ([(Reg.HIF_FN_EVT_LOST_CNT 0).id, (Reg.BRK_LATCH 0).id, Reg.TRP_MALFORMED_CNT.id, Reg.TRP_SEQ.id], [.fresh,
      .lanes, .wires, .trp, .rings, .pba, .unsigSince, .limits])
  | .configRecord _ => some (allFields, [.fresh, .egr, .rx, .trp, .rings, .pba, .unsigSince, .limits])
  | .surfRecord _ _ _ => some (loggedFields ++ [Reg.SAF_PROTECT_CNT.id], loggedParts ++ [.trp, .dram, .mem])
  | .refRecord _ _ _ _ _ => some (loggedFields ++ [Reg.SAF_PROTECT_CNT.id], loggedParts ++ [.dram, .mem, .free])
  | .sliceRecord _ _ _ _ _ => some ([], [.trp])
  | .ckptRecord _ _ _ => some ([], [.trp])
  | .rowEndRecord _ _ _ _ _ => some ([(Reg.HIF_FN_EVT_LOST_CNT 0).id, (Reg.BRK_LATCH 0).id, Reg.TRP_STATUS_STATE.id, Reg.TRP_ACK.id], [.fresh,
      .lanes, .wires, .trp, .rings, .pba, .unsigSince])
  | .safPkgRecord _ _ => some ([(Reg.HIF_FN_EVT_LOST_CNT 0).id, (Reg.BRK_LATCH 0).id, (Reg.SAF_SLOT_STATE_STATE 0).id,
      (Reg.SAF_SLOT_STATE_PENDING 0).id, (Reg.SAF_SLOT_STATE_REQUIRE 0).id, (Reg.SAF_SLOT_STATE_FAULT_ACTION 0).id,
      (Reg.SAF_SLOT_STATE_LAST_STATUS 0).id, (Reg.SAF_SLOT_REFUSED_CNT 0).id, (Reg.SAF_KEY 0).id, (Reg.SAF_SLOT_SEQ_LO 0).id,
      (Reg.SAF_SLOT_SEQ_HI 0).id, (Reg.SAF_SLOT_UNTIL_SEC 0).id, (Reg.SAF_SLOT_UNTIL_NS 0).id, Reg.TRP_MALFORMED_CNT.id], [.fresh, .safs, .safKey,
      .trp, .dram, .rings, .pba, .unsigSince, .limits, .mem])
  | .safLineRecord _ _ => some ([(Reg.HIF_FN_EVT_LOST_CNT 0).id, (Reg.BRK_LATCH 0).id, Reg.SAF_CMP_DIVERGED.id, Reg.SAF_MISMATCH_CNT.id,
      Reg.SAF_SKEW_CNT.id, (Reg.SAF_SLOT_STATE_STATE 0).id, (Reg.SAF_SLOT_STATE_PENDING 0).id, (Reg.SAF_SLOT_STATE_REQUIRE 0).id,
      (Reg.SAF_SLOT_STATE_FAULT_ACTION 0).id, (Reg.SAF_SLOT_SEQ_LO 0).id, (Reg.SAF_SLOT_SEQ_HI 0).id, (Reg.SAF_SLOT_UNTIL_SEC 0).id,
      (Reg.SAF_SLOT_UNTIL_NS 0).id, Reg.TRP_MALFORMED_CNT.id], [.fresh, .safs, .safFaultPin, .lanes, .wires, .trp, .rings, .pba, .unsigSince,
      .limits])
  | .ringRecord _ _ _ _ => some ([(Reg.HIF_FN_EVT_LOST_CNT 0).id, (Reg.BRK_LATCH 0).id, Reg.TRP_MALFORMED_CNT.id], [.fresh, .trp, .rings, .pba,
      .unsigSince, .limits])
  | .syncStartRecord => some (allFields, [.fresh, .trp, .rings, .pba, .unsigSince])
  | .syncEndRecord => some (allFields, [.fresh, .egr, .rx, .trp, .rings, .pba, .unsigSince, .limits])
  | .safLineMissingTimeout _ _ _ => some ([Reg.SAF_MISSING_CNT.id], [.fresh, .trp])
  | .divergenceRx _ _ => some ([(Reg.HIF_FN_EVT_LOST_CNT 0).id, (Reg.BRK_LATCH 0).id, Reg.SAF_CMP_DIVERGED.id], [.fresh, .rings, .pba,
      .unsigSince])
  | .ackRx _ _ => some ([Reg.TRP_ACK.id], [.egr, .trp])
  | .uncoveredRelease _ _ _ => some ([(Reg.HIF_FN_EVT_LOST_CNT 0).id, (Reg.BRK_LATCH 0).id, Reg.TRP_UNCOVERED_CNT.id], [.fresh, .egr, .trp,
      .rings, .pba, .unsigSince])
  | .resendRequestRx _ _ => some ([Reg.TRP_RESEND_CNT.id], [.fresh, .lanes, .wires, .trp])
  | .resendTimeout _ => some ([], [.lanes, .wires, .trp])
  | .resyncRequestRx _ => some ([(Reg.HIF_FN_EVT_LOST_CNT 0).id, (Reg.BRK_LATCH 0).id, Reg.TRP_RESYNC_CNT.id], [.fresh, .mirrorQ, .rings, .pba,
      .unsigSince, .free])
  | .heartbeatToggle => some ([], [.trp])
  | .pet _ => some ([], [.trp])
  | .trpTakeN => some (loggedFields ++ [Reg.PWR_MODE_STATUS_PHASE.id, Reg.PWR_MODE_STATUS_LAST_STATUS.id, Reg.PWR_REFUSED_CNT.id,
      (Reg.PWR_PD_ON 0).id, Reg.TRP_STATUS_STATE.id, Reg.TRP_STATUS_LAST_STATUS.id, Reg.TRP_TAKE_SEC.id, Reg.TRP_TAKE_NS.id], loggedParts ++
      [.trp, .trans, .sys, .mirrorQ])
  | .trpTakeover _ => some (loggedFields ++ [(Reg.HIF_FN_DESC_ERR_CNT 0).id, (Reg.HIF_FN_DMA_ERR_CNT 0).id, Reg.PWR_MODE_STATUS_PHASE.id,
      Reg.PWR_MODE_STATUS_LAST_STATUS.id, Reg.PWR_REFUSED_CNT.id, (Reg.PWR_PD_ON 0).id, Reg.TRP_STATUS_STATE.id, Reg.TRP_STATUS_LAST_STATUS.id,
      Reg.TRP_TAKE_SEC.id, Reg.TRP_TAKE_NS.id], loggedParts ++ [.tim, .trp, .trans, .sys, .mirrorQ])
  | .testTurn => some ([(Reg.PWR_PD_ON 0).id, Reg.TRP_TEST_POS.id], [.trp])
  | .trpHealthRead _ => some (loggedFields ++ [(Reg.HIF_FN_DESC_ERR_CNT 0).id, (Reg.HIF_FN_DMA_ERR_CNT 0).id, Reg.PWR_REFUSED_CNT.id], loggedParts
      ++ [.tim, .sys, .mirrorQ])
  | .fwStage _ => some (loggedFields ++ [(Reg.HIF_FN_DESC_ERR_CNT 0).id, (Reg.HIF_FN_DMA_ERR_CNT 0).id, Reg.PWR_REFUSED_CNT.id,
      Reg.FW_UPDATE_PENDING.id, Reg.FW_UPDATE_LAST_STATUS.id], loggedParts ++ [.tim, .fw, .sys, .mirrorQ])
  | .fwActivate _ => some (loggedFields ++ [(Reg.HIF_FN_DESC_ERR_CNT 0).id, (Reg.HIF_FN_DMA_ERR_CNT 0).id, Reg.PWR_REFUSED_CNT.id,
      (Reg.PWR_PD_ON 0).id, (Reg.FW_VERSION 0).id, Reg.FW_UPDATE_ACTIVE.id, Reg.FW_UPDATE_TYPE.id, Reg.FW_UPDATE_STEP.id,
      Reg.FW_UPDATE_PENDING.id, Reg.FW_UPDATE_LAST_STATUS.id, Reg.FW_SET_LO.id, Reg.FW_SET_HI.id, Reg.JUG_CTRL_DRAIN.id, Reg.JUG_CTRL_DRAINED.id,
      Reg.JUG_TASKS_READY_NOW.id, Reg.JUG_TASKS_USED.id, Reg.JUG_PREEMPT_CNT.id, Reg.JUG_INTR_CNT.id, Reg.SAF_PROTECT_CNT.id,
      (Reg.ENC_BS_ENGMASK_ENGINE 0 0).id], loggedParts ++ [.tim, .dram, .tasks, .fw, .sys, .mirrorQ, .standIns, .mem, .free])
  | .updateGroupDrained _ => some (allFields, loggedParts ++ [.tim, .egr, .slots, .rx, .cmps, .safs, .lanes, .scns, .trp, .aud, .dram,
      .tasks, .brk, .trans, .fw, .sys, .mirrorQ, .standIns, .mem, .free])
  | .fwFlashWrite _ _ => some (loggedFields ++ [(Reg.HIF_FN_DESC_ERR_CNT 0).id, (Reg.HIF_FN_DMA_ERR_CNT 0).id, Reg.PWR_REFUSED_CNT.id,
      Reg.FW_UPDATE_LAST_STATUS.id], loggedParts ++ [.tim, .fw, .sys, .mirrorQ])
  | .flashWriteDone _ => some (loggedFields ++ [Reg.FW_UPDATE_LAST_STATUS.id], loggedParts ++ [.fw])
  | .fwFuse _ => some (loggedFields ++ [(Reg.HIF_FN_DESC_ERR_CNT 0).id, (Reg.HIF_FN_DMA_ERR_CNT 0).id, Reg.PWR_REFUSED_CNT.id,
      Reg.FW_UPDATE_LAST_STATUS.id, Reg.FW_ROLLBACK_CONFIG.id, Reg.FW_ROLLBACK_AUDIO.id, Reg.FW_ROLLBACK_LINK.id, Reg.FW_ROLLBACK_SLICE.id,
      Reg.FW_ROLLBACK_SUPER.id, Reg.FW_OWNER_FUSED.id], loggedParts ++ [.tim, .fw, .sys, .mirrorQ])
  | .ldgRead _ => some (loggedFields ++ [(Reg.HIF_FN_DESC_ERR_CNT 0).id, (Reg.HIF_FN_DMA_ERR_CNT 0).id, Reg.PWR_REFUSED_CNT.id], loggedParts ++
      [.tim, .sys, .mirrorQ, .free])
  | .ldgRingWrite _ _ => some (loggedFields ++ [Reg.LDG_RING_LOG2.id, Reg.LDG_RING_BASE.id, Reg.LDG_LAST_STATUS.id], loggedParts ++ [.dram,
      .mirrorQ])
  | .housekeepingRound _ _ _ _ => some (loggedFields ++ [Reg.PWR_MODE_STATUS_PHASE.id, Reg.PWR_SERVICE_REASON.id, (Reg.PWR_PD_ON 0).id,
      Reg.PWR_AVS_V_TGT_MV.id, Reg.PWR_AVS_STEP_CNT.id, Reg.THM_STATUS_TRIP.id, Reg.THM_STATUS_WARN.id, Reg.THM_STATUS_LEVEL.id,
      Reg.THM_STATUS_BAND.id, Reg.THM_STATUS_SENS_FAIL.id, Reg.THM_TMAX.id, Reg.THM_TMAX_SENSOR.id, Reg.THM_VOLT_ERR_CNT.id,
      Reg.THM_THROTTLE_CNT.id, Reg.THM_WARN_CNT.id, (Reg.THM_TEMP 0).id, (Reg.THM_TEMP_FAIL 0).id, (Reg.THM_VOLT_MV 0).id,
      (Reg.THM_VOLT_OUT 0).id, (Reg.BRK_PAIR_RPRI 0).id, (Reg.BRK_PAIR_DEPTH 0).id, (Reg.BRK_PAIR_VALID 0).id, (Reg.BRK_PAIR_CUR_SRC 0).id,
      (Reg.BRK_SRC_CFG_CLAIMED 0).id, (Reg.BRK_SRC_CFG_CLAIMED_BY 0).id, Reg.JUG_CTRL_DRAINED.id, Reg.JUG_TASKS_READY_NOW.id,
      Reg.JUG_TASKS_USED.id, (Reg.LANE_STATUS_STATE 0).id, (Reg.LANE_ADAPT_PRESET 0).id, (Reg.AKN_STATUS_VERSION 0).id,
      (Reg.CAR_P_Q_DEPTH_B 0 0).id, (Reg.CAR_P_Q_DEPTH_MAX_B 0 0).id, (Reg.CAR_P_Q_DOWN_DROP_CNT 0 0).id, (Reg.ING_RX_SIGNAL 0).id,
      (Reg.ING_RX_PATH1_UP 0).id, (Reg.ING_RX_PATH0_UP 0).id, (Reg.ING_RX_PATH_DOWN_CNT 0).id, (Reg.CMP_SLOT_STATUS_UNIT_VALID 0).id,
      (Reg.CMP_SLOT_STATUS_UNIT 0).id, (Reg.ENC_BS_RUN_STATE 0).id, Reg.ENC_CTRL_THERM_STEP.id, Reg.ENC_CTRL_EFFORT.id, Reg.ENC_EFFORT_CHG_CNT.id,
      (Reg.ENC_FACE_SLOTS 0).id, (Reg.ENC_FACE_LOAD_PM 0).id, (Reg.ENC_BS_ENG_COUNT 0).id, (Reg.ENC_BS_ENGMASK_ENGINE 0 0).id,
      (Reg.ENC_BS_FACE_USED 0).id, (Reg.SCN_LANE_STATUS_STATE 0).id, Reg.TRP_STATUS_STATE.id, Reg.TRP_STATUS_FIT.id,
      (Reg.BRK_LOCAL_ENTRY_ACTIVE_AT_ENTRY 0).id, (Reg.BRK_LOCAL_ENTRY_SRC 0).id], loggedParts ++ [.tim, .egr, .slots, .rx, .cmps, .lanes, .scns,
      .trp, .aud, .tasks, .brk, .trans, .thm, .sys, .mirrorQ, .effortWas, .mem])
  | .avsFail => some ([(Reg.HIF_FN_EVT_LOST_CNT 0).id, Reg.PWR_AVS_V_TGT_MV.id, Reg.PWR_AVS_ERR_CNT.id, (Reg.BRK_LATCH 0).id], [.fresh, .rings,
      .pba, .unsigSince, .limits])
  | .avsEnWrite _ _ => some (loggedFields ++ [Reg.PWR_AVS_EN.id, Reg.PWR_AVS_V_TGT_MV.id], loggedParts ++ [.thm, .mirrorQ])
  | .thmWrite _ _ _ => some (loggedFields ++ [Reg.THM_THRESH_SHUTDOWN_C.id, Reg.THM_THRESH_THROTTLE_C.id, Reg.THM_THRESH_WARN_C.id,
      Reg.THM_THRESH_STEP_C.id, Reg.THM_THRESH_HYST_C.id, Reg.THM_CFG_DWELL.id, Reg.THM_CFG_SENSOR_MASK.id, Reg.THM_BANDS_EDGE3.id,
      Reg.THM_BANDS_EDGE2.id, Reg.THM_BANDS_EDGE1.id], loggedParts ++ [.thm, .mirrorQ])
  | .thermtripAnalogue => some (loggedFields ++ [Reg.PWR_MODE_STATUS_PHASE.id, Reg.PWR_SERVICE_REASON.id, (Reg.PWR_PD_ON 0).id,
      Reg.THM_STATUS_TRIP.id, (Reg.BRK_PAIR_RPRI 0).id, (Reg.BRK_PAIR_DEPTH 0).id, (Reg.BRK_PAIR_VALID 0).id, (Reg.BRK_PAIR_CUR_SRC 0).id,
      (Reg.BRK_SRC_CFG_CLAIMED 0).id, (Reg.BRK_SRC_CFG_CLAIMED_BY 0).id, Reg.JUG_CTRL_DRAINED.id, Reg.JUG_TASKS_READY_NOW.id,
      Reg.JUG_TASKS_USED.id, (Reg.LANE_STATUS_STATE 0).id, (Reg.LANE_ADAPT_PRESET 0).id, (Reg.AKN_STATUS_VERSION 0).id,
      (Reg.CAR_P_Q_DEPTH_B 0 0).id, (Reg.CAR_P_Q_DEPTH_MAX_B 0 0).id, (Reg.CAR_P_Q_DOWN_DROP_CNT 0 0).id, (Reg.ING_RX_SIGNAL 0).id,
      (Reg.ING_RX_PATH1_UP 0).id, (Reg.ING_RX_PATH0_UP 0).id, (Reg.ING_RX_PATH_DOWN_CNT 0).id, (Reg.CMP_SLOT_STATUS_UNIT_VALID 0).id,
      (Reg.CMP_SLOT_STATUS_UNIT 0).id, (Reg.ENC_BS_RUN_STATE 0).id, (Reg.ENC_FACE_SLOTS 0).id, (Reg.ENC_FACE_LOAD_PM 0).id,
      (Reg.ENC_BS_ENG_COUNT 0).id, (Reg.ENC_BS_ENGMASK_ENGINE 0 0).id, (Reg.ENC_BS_FACE_USED 0).id, (Reg.SCN_LANE_STATUS_STATE 0).id,
      (Reg.BRK_LOCAL_ENTRY_ACTIVE_AT_ENTRY 0).id, (Reg.BRK_LOCAL_ENTRY_SRC 0).id], loggedParts ++ [.tim, .egr, .slots, .rx, .cmps, .lanes, .scns,
      .trp, .aud, .tasks, .brk, .trans, .sys, .mirrorQ, .mem])
  | .smbThmStatus _ _ => some ([], [])
  | .smbTmax _ _ => some ([], [])
  | .smbModeStatus _ _ => some ([], [])
  | .smbReason _ _ => some ([], [])
  | .smbChipId _ _ => some ([], [])
  | .smbSensor _ _ _ => some ([], [])
  | .smbVoltage _ _ _ => some ([], [])
  | .smbHealth _ _ => some ([], [])
  | .smbNak _ => some (loggedFields ++ [Reg.THM_SMB_ERR_CNT.id], loggedParts)
  | .readyInstant => some (allFields, loggedParts ++ [.tim, .egr, .slots, .rx, .cmps, .safs, .lanes, .scns, .trp, .aud, .dram, .tasks, .brk,
      .mirrorQ, .mem, .free])
  | .takeoverComplete _ => some (loggedFields ++ [(Reg.HIF_FN_STATUS_OPENED 0).id, (Reg.HIF_FN_STATUS_ABI_MAJOR 0).id,
      (Reg.HIF_FN_STATUS_ABI_MINOR 0).id, (Reg.HIF_FN_LAST_STATUS 0).id, (Reg.HIF_ADMIN_BASE_HI 0).id, Reg.TRP_STATUS_LAST_STATUS.id,
      Reg.TRP_TAKEOVER_CNT.id], loggedParts ++ [.tim, .trp, .fns, .free])
  | .engineReloadDone _ => some (allFields, loggedParts ++ [.tim, .egr, .slots, .rx, .cmps, .safs, .lanes, .wires, .scns, .trp, .aud, .dram,
      .tasks, .brk, .trans, .fw, .sys, .mirrorQ, .standIns, .mem])
  | .testTurnEnd _ => some (allFields, loggedParts ++ [.tim, .egr, .slots, .rx, .cmps, .safs, .lanes, .scns, .trp, .aud, .dram, .tasks,
      .brk, .trans, .sys, .mirrorQ, .mem])
  | .prbsCheckerSync _ _ _ _ => some ([(Reg.LANE_TEST_SYNC 0).id, (Reg.LANE_ERR_CNT 0).id, (Reg.LANE_LOCK_LOSS_CNT 0).id,
      (Reg.LANE_BITS_CNT_LO 0).id, (Reg.LANE_BITS_CNT_HI 0).id], [.fresh])
  | .clk10InReturn => some ([Reg.TIM_REFSTAT_CLK10_OK.id], [])
  | .audMclkInReturn => some ([Reg.AUD_MCLK_OK.id], [])
  | .powerOnResetRelease _ => some (loggedFields ++ [Reg.PWR_MODE_STATUS_PHASE.id, Reg.PWR_MODE_STATUS_ACTIVE_PAIR.id, Reg.PWR_SERVICE_REASON.id,
      Reg.PWR_BOOT_BOOT_STRAP.id, Reg.PWR_FENCE_PAIR.id, Reg.PWR_FENCE_CMP.id, Reg.PWR_FENCE_FACE.id, Reg.PWR_FENCE_LANE.id,
      (Reg.PWR_FENCE_ENGINE 0).id, Reg.PWR_FENCE_AUDIO.id, Reg.PWR_FENCE_LINK.id, (Reg.PWR_PD_ON 0).id, (Reg.BRK_PAIR_RPRI 0).id,
      (Reg.BRK_PAIR_DEPTH 0).id, (Reg.BRK_PAIR_VALID 0).id, (Reg.BRK_PAIR_CUR_SRC 0).id, (Reg.BRK_SRC_CFG_CLAIMED 0).id,
      (Reg.BRK_SRC_CFG_CLAIMED_BY 0).id, Reg.JUG_CTRL_DRAINED.id, Reg.JUG_TASKS_READY_NOW.id, Reg.JUG_TASKS_USED.id, (Reg.LANE_STATUS_STATE 0).id,
      (Reg.LANE_ADAPT_PRESET 0).id, (Reg.AKN_STATUS_VERSION 0).id, (Reg.CAR_P_Q_DEPTH_B 0 0).id, (Reg.CAR_P_Q_DEPTH_MAX_B 0 0).id,
      (Reg.CAR_P_Q_DOWN_DROP_CNT 0 0).id, (Reg.ING_RX_SIGNAL 0).id, (Reg.ING_RX_PATH1_UP 0).id, (Reg.ING_RX_PATH0_UP 0).id,
      (Reg.ING_RX_PATH_DOWN_CNT 0).id, (Reg.CMP_SLOT_STATUS_UNIT_VALID 0).id, (Reg.CMP_SLOT_STATUS_UNIT 0).id, (Reg.ENC_BS_RUN_STATE 0).id,
      (Reg.ENC_FACE_SLOTS 0).id, (Reg.ENC_FACE_LOAD_PM 0).id, (Reg.ENC_BS_ENG_COUNT 0).id, (Reg.ENC_BS_ENGMASK_ENGINE 0 0).id,
      (Reg.ENC_BS_FACE_USED 0).id, (Reg.SCN_LANE_STATUS_STATE 0).id, (Reg.BRK_LOCAL_ENTRY_ACTIVE_AT_ENTRY 0).id, (Reg.BRK_LOCAL_ENTRY_SRC 0).id],
      loggedParts ++ [.tim, .egr, .slots, .rx, .cmps, .lanes, .scns, .trp, .aud, .dram, .tasks, .brk, .trans, .sys, .mirrorQ, .mem])
  | _ => none

/-- Nothing changes but the listed register fields, instance by instance, what an event or a Ledger entry changes, the parts in `parts`, and
what is sent. -/
structure State.OnlyAt (l : List Field) (parts : List Part) (s t : State) : Prop where
  queue : t.pending = s.pending
  sent : s.out <:+ t.out
  regs : ∀ f : Field, fieldKey f ∉ l.map fieldKey → f.id ∉ loggedFields → f.id < 1024 → t.get f = s.get f
  rest : ∀ p : Part, p ∉ parts → p.Same s t

/-- The unit and the kinds of a launch command. -/
def launchOf : Instr → Option (Nat × List Nat)
  | .compositionStart u => some (u, [1])
  | .encodeRowStart u _ => some (16 + u, [2])
  | .packetRelease i => some (128 + i, [3])
  | .gateSwitch i => some (144 + i, [4])
  | .presentation i => some (160 + i, [5])
  | .sampleRelease k => some (192 + k, [6])
  | .decodeRowStart u => some (16 + u, [7])
  | .scanOutFrameStart i => some (160 + i, [8])
  | .genericEvent u => some (u, if 32 ≤ u.val ∧ u.val < 128 then [0xF, 3] else [0xF])
  | _ => none


/-! ## Completion -/

/-- A command completes with a next state that satisfies `P`. -/
def Completes (c : Instr) (s : State) (P : State → Prop) : Prop := ∃ t, exec c s = .next t ∧ P t

end Sys2Proof.Machine
end

