-- ==== Sys2Proof/Certificates/Slice0/Obligations.lean ====
section
/-! DEFINITION. The statements of the certificate: what the commands, the step and the reset of the device do, each from the spec's rules. A
statement that says `Completes c s P` says that `exec c s` answers a next state, and that `P` holds of it. -/

open Sys2Proof Sys2Proof.Machine

/-! ## The step -/

/-- With commands waiting, a step is the front command's effect on the state with the rest of the queue (log entry 2: how commands wait is the
model's choice). -/
def Obligations.StepRunsFrontCommand : Prop :=
  ∀ (c : Instr) (l : List Instr) (s : State), s.pending = c :: l → step s = exec c { s with pending := l }

/-- With no command waiting, a step is one tick of the 1.6 GHz clock: the local count advances by one and the queue stays empty; while
SYS_RST_N or the power-on-reset detector holds the device in reset nothing changes (log entry 2: the model's choice). -/
def Obligations.IdleStepIsOneTick : Prop :=
  ∀ s : State, s.pending = [] →
    (s.sys.rstLow = true ∨ s.sys.porLow = true → step s = .next s) ∧
    (s.sys.rstLow = false → s.sys.porLow = false → ∃ t, step s = .next t ∧ t.lc = s.lc + 1 ∧ t.pending = [])

/-- The reset state is sound, nothing waits and nothing has been sent, and every register field reads its reset value. -/
def Obligations.ResetStateIsSound : Prop :=
  State.reset.Sound ∧ State.reset.pending = [] ∧ State.reset.out = [] ∧ (∀ f : Field, State.reset.get f = f.reset) ∧
  (∀ a, Memory.read State.reset.mem a = 0)

/-- Every step keeps the state sound: the register store and the device memory stay canonical. -/
def Obligations.StepKeepsSound : Prop :=
  ∀ s t : State, s.Sound → step s = .next t → t.Sound

/-- Every one of the 268 commands completes, in every state and with every operand: exec answers a next state, and in it the waiting commands
are the same and what was sent stays sent. What each command does there the statements below say. -/
def Obligations.CommandsKeepQueueAndSent : Prop :=
  ∀ (c : Instr) (s : State), ∃ t, exec c s = .next t ∧ t.pending = s.pending ∧ s.out <:+ t.out

/-! ## Who may write -/

/-- A register command whose writer does not reach its register changes nothing: a VF beyond its own view, a host at BRK_ and JUG_, the debug
window at SAF_, and any writer of a HALTED device, which hears a mode request of the PF or of firmware only to refuse it (R81, R98, R107,
R204, R423). -/
def Obligations.UnreachedRegistersKeepTheState : Prop :=
  ∀ (s : State) (w : Writer) (shut : Field → Prop), (∀ f, shut f → s.mayWrite w f.off = false) →
    (∀ n, shut (Reg.TIM_DOM_CLR_CLR n.val) → exec (.timDomClr w n) s = .next s) ∧
    (shut Reg.TIM_LATE_CLR → exec (.timLateClr w) s = .next s) ∧
    (∀ n, shut (Reg.ENC_BS_LATE_CLR n.val) → exec (.encLateClr w n) s = .next s) ∧
    (shut Reg.PWR_CNT_CLR_CLR → exec (.pwrCntClr w) s = .next s) ∧
    (shut Reg.ING_LANE_CLR_CLR → exec (.ingLaneClr w) s = .next s) ∧
    (∀ r, shut (Reg.ING_RX_CLR r.val) → exec (.ingRxClr w r) s = .next s) ∧
    (∀ n, shut (Reg.CMP_SLOT_CLR_CLR n.val) → exec (.cmpSlotClr w n) s = .next s) ∧
    (shut Reg.SAF_CLR_CLR → exec (.safClr w) s = .next s) ∧
    (shut Reg.ENC_EFFORT_CNT_CLR → exec (.encEffortCntClr w) s = .next s) ∧
    (∀ n, shut (Reg.ENC_BS_CLR_CLR n.val) → exec (.encBsClr w n) s = .next s) ∧
    (∀ n, shut (Reg.ENC_BS_PKT_CLR_CLR n.val) → exec (.encPktClr w n) s = .next s) ∧
    (∀ n, shut (Reg.DEC_BS_CLR_CLR n.val) → exec (.decBsClr w n) s = .next s) ∧
    (∀ n, shut (Reg.RC_BS_CLR_CLR n.val) → exec (.rcBsClr w n) s = .next s) ∧
    (∀ i, shut (Reg.SCN_LANE_CLR_CLR i.val) → exec (.scnLaneClr w i) s = .next s) ∧
    (∀ i, shut (Reg.LANE_CLR_CLR i.val) → exec (.laneClr w i) s = .next s) ∧
    (∀ i, shut (Reg.AKN_CLR_CLR i.val) → exec (.aknClr w i) s = .next s) ∧
    (∀ i, shut (Reg.CAR_P_CNT_CLR i.val) → exec (.carSwapCntClr w i) s = .next s) ∧
    (∀ i c, shut (Reg.CAR_P_Q_CLR i.val c.val) → exec (.carQueueClr w i c) s = .next s) ∧
    (shut Reg.TRN_CLR_CLR → exec (.trnClr w) s = .next s) ∧
    (shut Reg.AUD_CNT_CLR → exec (.audCntClr w) s = .next s) ∧
    (shut Reg.DMC_CLR_CLR → exec (.dmcClr w) s = .next s) ∧
    (shut Reg.BRK_CLR_CLR → exec (.brkClr w) s = .next s) ∧
    (shut Reg.JUG_CLR_CLR → exec (.jugClr w) s = .next s) ∧
    (∀ n, shut (Reg.CHK_CLR n.val) → exec (.chkClr w n) s = .next s) ∧
    (shut Reg.TRP_CLR_CLR → exec (.trpClr w) s = .next s) ∧
    (shut Reg.THM_CLR → exec (.thmClr w) s = .next s) ∧
    (shut Reg.TIM_SNAP_SNAP → exec (.snap w) s = .next s) ∧
    (shut Reg.TIM_CTRL_REVERT → exec (.revert w) s = .next s) ∧
    (∀ d, shut (Reg.TIM_DOM_ENABLE d.val) → exec (.domainEnable w d) s = .next s ∧ exec (.domainDisable w d) s = .next s) ∧
    (∀ d, shut (Reg.TIM_DOM_ACCEPT_JUMP d.val) → exec (.acceptJump w d) s = .next s) ∧
    (∀ d v, shut (Reg.TIM_DOM_TOD_SEC d.val) → exec (.todSecWrite w d v) s = .next s) ∧
    (∀ u g, shut Reg.TIM_LCANCEL_UNIT → exec (.launchCancel w u g) s = .next s) ∧
    (∀ m force, shut Reg.PWR_MODE_CTRL_TARGET → s.halted = false ∨ viewOf w ≠ 0 ∨ w = .debug → exec (.modeRequest w m force) s = .next s) ∧
    (∀ v b, shut Reg.FW_PCIE_CTRL_LEN → exec (.fwPcieGo w v b) s = .next s) ∧
    (∀ n a b l, shut (Reg.ENC_BS_RUN_CMD n.val) → exec (.slotStart (.reg w a b) n l) s = .next s ∧
      exec (.slotStop (.reg w a b) n) s = .next s ∧ exec (.slotCommit (.reg w a b) n) s = .next s) ∧
    (∀ p a f, shut (Reg.HIF_PEN_OWNER_ASSIGNED p.val) → exec (.penOwnerWrite w p a f) s = .next s) ∧
    (∀ a b c d, shut Reg.HIF_SLOT_OWNER_SLOT0 → exec (.slotOwnerWrite w a b c d) s = .next s) ∧
    (∀ m, shut Reg.ING_CTRL_LANE_MASK → exec (.ingLaneMaskWrite w m) s = .next s) ∧
    (∀ r a b p, shut (Reg.ING_RX_ENABLE r.val) → exec (.receiverEnable w r a b p) s = .next s) ∧
    (∀ r e a b p, shut (Reg.ING_RX_ENABLE r.val) → exec (.receiverDisable w r e a b p) s = .next s) ∧
    (∀ n, shut (Reg.CMP_SLOT_COMMIT_COMMIT n.val) → exec (.cmpSlotCommit w n) s = .next s) ∧
    (∀ n v, shut (Reg.SAF_SLOT_AREA_BASE n.val) → exec (.safAreaWrite w n v) s = .next s) ∧
    (∀ v, shut Reg.ENC_CTRL_EFFORT_FLOOR → exec (.effortFloorWrite w v) s = .next s) ∧
    (∀ i, shut (Reg.SCN_LANE_COMMIT_COMMIT i.val) → exec (.scnLaneCommit w i) s = .next s) ∧
    (∀ i v, shut (Reg.LANE_CFG_MODE i.val) → exec (.laneCfgWrite w i v) s = .next s) ∧
    (∀ i v, shut (Reg.LANE_TEST_TEST_EN i.val) → exec (.laneTestWrite w i v) s = .next s) ∧
    (∀ i h v, shut (Reg.LANE_MAC_LO i.val) → exec (.laneMacWrite w i h v) s = .next s) ∧
    (∀ i, shut (Reg.CAR_P_COMMIT_COMMIT i.val) → exec (.carCommit w i) s = .next s) ∧
    (∀ q m o, shut (Reg.TRN_Q_MODE q.val) → exec (.trnCtrlWrite w q m o) s = .next s) ∧
    (shut Reg.AUD_MCLK_RESUME → exec (.mclkResume w) s = .next s) ∧
    (∀ c v, shut (Reg.AUD_ROUTE_SRC c.val) → exec (.audRouteWrite w c v) s = .next s) ∧
    (∀ v, shut Reg.DMC_LAYOUT_COMMIT → exec (.dmcLayoutCommit w v) s = .next s) ∧
    (∀ c v, shut (Reg.DMC_TRN_GO c.val) → exec (.trnWrite w c v) s = .next s ∧ exec (.trnReadCompare w c v) s = .next s ∧
      exec (.trnWriteCompare w c v) s = .next s) ∧
    (∀ c v, shut (Reg.DMC_TRN_SET c.val) → exec (.trnDlySet w c v) s = .next s) ∧
    (∀ c a b, shut (Reg.DMC_TRN_MR_WRITE c.val) → exec (.mrWrite w c a b) s = .next s ∧ exec (.mrRead w c a b) s = .next s) ∧
    (∀ v, shut Reg.JUG_CTRL_DRAIN → exec (.jugDrainWrite w v) s = .next s) ∧
    (∀ v, shut Reg.BRK_SW_SET → exec (.brkSwWrite w v) s = .next s) ∧
    (∀ i v, shut (Reg.BRK_LATCH i.val) → exec (.brkLatchClear w i v) s = .next s) ∧
    (∀ n v, shut (Reg.CHK_MODE n.val) → exec (.chkCtrlWrite w n v) s = .next s) ∧
    (∀ v, shut Reg.TRP_CTRL_ENABLE → exec (.trpCtrlWrite w v) s = .next s) ∧
    (∀ v, shut Reg.LDG_RING_LOG2 → exec (.ldgRingWrite w v) s = .next s) ∧
    (∀ e, shut Reg.PWR_AVS_EN → exec (.avsEnWrite w e) s = .next s)

/-! ## Clear controls (R16) -/

/-- Each clear command, written by a writer that reaches it, completes with every counter of its register cleared: 0, or 1 where the counter
counted in the same cycle. -/
def Obligations.ClearCommandsClearTheirCounters : Prop :=
  ∀ (s : State) (w : Writer),
    (∀ n, s.mayWrite w (Reg.TIM_DOM_CLR_CLR n.val).off = true → Completes (.timDomClr w n) s (fun t => s.Cleared t (domCounters n.val))) ∧
    (s.mayWrite w Reg.TIM_LATE_CLR.off = true → Completes (.timLateClr w) s (fun t => s.Cleared t [Reg.TIM_LAUNCH_LATE_CNT])) ∧
    (∀ n, s.mayWrite w (Reg.ENC_BS_LATE_CLR n.val).off = true →
      Completes (.encLateClr w n) s (fun t => s.Cleared t [Reg.ENC_BS_ROW_LATE_CNT n.val])) ∧
    (s.mayWrite w Reg.PWR_CNT_CLR_CLR.off = true → Completes (.pwrCntClr w) s (fun t => s.Cleared t
      [Reg.PWR_MODE_CHANGE_CNT, Reg.PWR_REFUSED_CNT, Reg.PWR_AVS_ERR_CNT, Reg.PWR_AVS_STEP_CNT])) ∧
    (∀ f, s.mayWrite (.host f) (Reg.HIF_FN_CLR_CLR f.val).off = true → Completes (.hifFnClr f) s (fun t => s.Cleared t
      [Reg.HIF_FN_DESC_ERR_CNT f.val, Reg.HIF_FN_DB_ERR_CNT f.val, Reg.HIF_FN_DMA_ERR_CNT f.val, Reg.HIF_FN_EVT_LOST_CNT f.val])) ∧
    (∀ i : Fin 16, s.mayWrite w Reg.ING_LANE_CLR_CLR.off = true →
      Completes (.ingLaneClr w) s (fun t => s.Cleared t [Reg.ING_LANE_UNMATCHED_CNT i.val])) ∧
    (∀ r, s.mayWrite w (Reg.ING_RX_CLR r.val).off = true → Completes (.ingRxClr w r) s (fun t => s.Cleared t (rxCounters r.val))) ∧
    (∀ n (l : Fin 16), s.mayWrite w (Reg.CMP_SLOT_CLR_CLR n.val).off = true → Completes (.cmpSlotClr w n) s (fun t => s.Cleared t
      [Reg.CMP_SLOT_BCNT_BENCH_EVICT_CNT n.val, Reg.CMP_SLOT_BCNT_BENCH_FLAT_CNT n.val, Reg.CMP_L_HELD_PIC_CNT n.val l.val,
       Reg.CMP_L_HELD_LINE_CNT n.val l.val, Reg.CMP_L_EMPTY_PIC_CNT n.val l.val, Reg.CMP_L_TRANSP_LINE_CNT n.val l.val])) ∧
    (∀ n : Fin 4, s.mayWrite w Reg.SAF_CLR_CLR.off = true → Completes (.safClr w) s (fun t => s.Cleared t
      [Reg.SAF_MISMATCH_CNT, Reg.SAF_MISSING_CNT, Reg.SAF_SKEW_CNT, Reg.SAF_PROTECT_CNT, Reg.SAF_SLOT_REFUSED_CNT n.val,
       Reg.SAF_SLOT_READBACK_ERR_CNT n.val])) ∧
    (s.mayWrite w Reg.ENC_EFFORT_CNT_CLR.off = true → Completes (.encEffortCntClr w) s (fun t => s.Cleared t [Reg.ENC_EFFORT_CHG_CNT])) ∧
    (∀ n, s.mayWrite w (Reg.ENC_BS_CLR_CLR n.val).off = true →
      Completes (.encBsClr w n) s (fun t => s.Cleared t [Reg.ENC_BS_PIC_CNT n.val, Reg.ENC_BS_SWEEP_CNT n.val])) ∧
    (∀ n (m : Fin 8), s.mayWrite w (Reg.ENC_BS_PKT_CLR_CLR n.val).off = true →
      Completes (.encPktClr w n) s (fun t => s.Cleared t [Reg.ENC_BS_STR_PKT_CNT n.val m.val])) ∧
    (∀ n, s.mayWrite w (Reg.DEC_BS_CLR_CLR n.val).off = true → Completes (.decBsClr w n) s (fun t => s.Cleared t (decCounters n.val))) ∧
    (∀ n, s.mayWrite w (Reg.RC_BS_CLR_CLR n.val).off = true → Completes (.rcBsClr w n) s (fun t => s.Cleared t
      [Reg.RC_BS_SPOIL_PIC_CNT n.val, Reg.RC_BS_GUARD_PIC_CNT n.val, Reg.RC_BS_GUARD_CTU_CNT n.val, Reg.RC_BS_SPOIL_ROW_CNT n.val])) ∧
    (∀ i, s.mayWrite w (Reg.SCN_LANE_CLR_CLR i.val).off = true → Completes (.scnLaneClr w i) s (fun t => s.Cleared t (scnCounters i.val))) ∧
    (∀ i, s.mayWrite w (Reg.LANE_CLR_CLR i.val).off = true → Completes (.laneClr w i) s (fun t => s.Cleared t (laneCounters i.val))) ∧
    (∀ i, s.mayWrite w (Reg.AKN_CLR_CLR i.val).off = true → Completes (.aknClr w i) s (fun t => s.Cleared t
      [Reg.AKN_HCRC_ERR_CNT i.val, Reg.AKN_DCRC_ERR_CNT i.val, Reg.AKN_PROTO_CNT i.val, Reg.AKN_CREDIT_ERR_CNT i.val])) ∧
    (∀ i, s.mayWrite w (Reg.CAR_P_CNT_CLR i.val).off = true → Completes (.carSwapCntClr w i) s (fun t => s.Cleared t [Reg.CAR_P_CNT_SWAP_CNT i.val])) ∧
    (∀ i c, s.mayWrite w (Reg.CAR_P_Q_CLR i.val c.val).off = true →
      Completes (.carQueueClr w i c) s (fun t => s.Cleared t (queueCounters i.val c.val))) ∧
    (∀ q : Fin 128, s.mayWrite w Reg.TRN_CLR_CLR.off = true → Completes (.trnClr w) s (fun t => s.Cleared t
      [Reg.TRN_Q_GREEN_CNT q.val, Reg.TRN_Q_YELLOW_CNT q.val, Reg.TRN_Q_RED_CNT q.val])) ∧
    (s.mayWrite w Reg.AUD_CNT_CLR.off = true → Completes (.audCntClr w) s (fun t => s.Cleared t audCounters)) ∧
    (∀ p : Fin 16, s.mayWrite w Reg.DMC_CLR_CLR.off = true → Completes (.dmcClr w) s (fun t => s.Cleared t
      [Reg.DMC_RANK_CE_CNT p.val, Reg.DMC_RANK_UE_CNT p.val, Reg.DMC_PORT_LATE_CNT p.val, Reg.DMC_MIG_CNT, Reg.DMC_POISON_COPY_CNT,
       Reg.DMC_NBR_CNT])) ∧
    (∀ p : Fin 4, s.mayWrite w Reg.BRK_CLR_CLR.off = true → Completes (.brkClr w) s (fun t => s.Cleared t
      [Reg.BRK_PAIR_VANISHED_CNT p.val, Reg.BRK_PAIR_STRAY_CNT p.val, Reg.BRK_PAIR_HANDON_CNT p.val, Reg.BRK_PAIR_ENTRY_TAKE_CNT p.val])) ∧
    (s.mayWrite w Reg.JUG_CLR_CLR.off = true → Completes (.jugClr w) s (fun t => s.Cleared t jugCounters)) ∧
    (∀ n, s.mayWrite w (Reg.CHK_CLR n.val).off = true →
      Completes (.chkClr w n) s (fun t => s.Cleared t [Reg.CHK_PKT_CNT n.val, Reg.CHK_CRC_ERR_CNT n.val])) ∧
    (s.mayWrite w Reg.TRP_CLR_CLR.off = true → Completes (.trpClr w) s (fun t => s.Cleared t trpCounters)) ∧
    (s.mayWrite w Reg.THM_CLR.off = true → Completes (.thmClr w) s (fun t => s.Cleared t
      [Reg.THM_VOLT_ERR_CNT, Reg.THM_THROTTLE_CNT, Reg.THM_WARN_CNT, Reg.THM_SMB_ERR_CNT]))

/-- A clear command of a block that logs no writes changes its counters and nothing else, whoever writes it. -/
def Obligations.ClearCommandsChangeNothingElse : Prop :=
  ∀ (s t : State) (w : Writer),
    (∀ n, exec (.encLateClr w n) s = .next t → s.OnlyFields [Reg.ENC_BS_ROW_LATE_CNT n.val] t) ∧
    (exec (.pwrCntClr w) s = .next t → s.OnlyFields pwrCounters t) ∧
    (∀ f, exec (.hifFnClr f) s = .next t → s.OnlyFields (fnCounters f.val) t) ∧
    (exec (.ingLaneClr w) s = .next t → s.OnlyFields ingLaneCounters t) ∧
    (∀ r, exec (.ingRxClr w r) s = .next t → s.OnlyFields (rxCounters r.val) t) ∧
    (∀ n, exec (.cmpSlotClr w n) s = .next t → s.OnlyFields (cmpCounters n.val) t) ∧
    (exec (.safClr w) s = .next t → s.OnlyFields safCounters t) ∧
    (exec (.encEffortCntClr w) s = .next t → s.OnlyFields [Reg.ENC_EFFORT_CHG_CNT] t) ∧
    (∀ n, exec (.encBsClr w n) s = .next t → s.OnlyFields (encCounters n.val) t) ∧
    (∀ n, exec (.encPktClr w n) s = .next t → s.OnlyFields (pktCounters n.val) t) ∧
    (∀ n, exec (.decBsClr w n) s = .next t → s.OnlyFields (decCounters n.val) t) ∧
    (∀ n, exec (.rcBsClr w n) s = .next t → s.OnlyFields (rcCounters n.val) t) ∧
    (∀ i, exec (.scnLaneClr w i) s = .next t → s.OnlyFields (scnCounters i.val) t) ∧
    (∀ i, exec (.carSwapCntClr w i) s = .next t → s.OnlyFields [Reg.CAR_P_CNT_SWAP_CNT i.val] t) ∧
    (∀ i c, exec (.carQueueClr w i c) s = .next t → s.OnlyFields (queueCounters i.val c.val) t) ∧
    (exec (.trnClr w) s = .next t → s.OnlyFields trnCounters t) ∧
    (exec (.audCntClr w) s = .next t → s.OnlyFields audCounters t) ∧
    (exec (.dmcClr w) s = .next t → s.OnlyFields dmcCounters t) ∧
    (exec (.brkClr w) s = .next t → s.OnlyFields brkCounters t) ∧
    (exec (.jugClr w) s = .next t → s.OnlyFields jugCounters t) ∧
    (∀ n, exec (.chkClr w n) s = .next t → s.OnlyFields (chkCounters n.val) t) ∧
    (exec (.thmClr w) s = .next t → s.OnlyFields thmCounters t)

/-! ## Egress queues, Carousel gates and Turnstile meters (chapter 13) -/

/-- A frame that is forwarded to one ACTIVE port enters the queue of its class there, with its ingress stamp when it is a PTP event message,
when the queue and the port have room and the queue's meter does not police (R59, R324, R340, R341). A free transmitter of an ACTIVE port
whose queue heads can all pass starts the head that R344 selects: the frame leaves, its queue loses it, and the transmitter is busy for
the frame's time. -/
def Obligations.FramesEnterAndLeaveTheirQueues : Prop :=
  (∀ (i : Fin 16) (f : EthFrame) (s : State) (k : Nat), s.forwards i f = true → s.forwardPorts i = [k] → s.portActive k = true →
     let c := match f.pcp with | some c => c.val | none => s.get (Reg.CAR_P_DEFAULT_CLASS k)
     (s.settleMeters k).meterMode (8 * k + c) ≠ 2 → framesLen (s.frames k c) + f.len ≤ s.get (Reg.CAR_P_Q_QMAX_KB k c) * 1024 →
     s.portBytes k + f.len ≤ s.portBuffer k →
     Completes (.ethFrameForward i f) s (fun t =>
       t.frames k c = s.frames k c ++
         [{ frame := .forwarded i f.correction f.udp.toNat f.badFcs, len := f.len, stamp := s.lc, row := none, eligible := true,
            cover := none,
            tc := match f.ptp with
              | some (true, dom) => some (16 * s.lc + f.sub.val, dom.toNat)
              | _ => none }])) ∧
  (∀ (i : Fin 16) (s : State) (pass c : Nat) (f : EgFrame) (l : List EgFrame),
     s.portActive i = true → (s.port i).freeAt ≤ s.lc →
     let u := s.settleMeters i
     (∀ k < 8, ∀ g m, u.frames i k = g :: m → u.oversize i k g.len = false) →
     u.selected i = some (pass, c) → u.frames i c = f :: l →
     Completes (.egressSelect i) s (fun t =>
       s.Sent t (fun o => o = .frame i c (u.addresses i (u.correct i f).1) (u.stampTs i f (u.correct i f).1)) ∧
       t.frames i c = l ∧ (t.port i).freeAt = s.lc + s.frameTicks i f.len))

/-- A gate list commit with legal fields while the active domain is enabled makes the shadow list pending at the instant R349 computes; with a
field out of range it sets LAST_STATUS to 0x1D01 and the pending list stays (R350). An accepted CAR_LIST_LOAD whose buffer passes the
checks of R350 makes its list pending with the descriptor's completion promised; one that does not completes with 0x1D01 and no list
becomes pending. -/
def Obligations.GateListCommitsPendOrAreRefused : Prop :=
  (∀ (w : Writer) (i : Fin 16) (s : State), s.mayWrite w (Reg.CAR_P_COMMIT_COMMIT i.val).off = true →
     let ok := gateFieldsOk (s.get (Reg.CAR_P_COUNT i.val)) (s.get (Reg.CAR_P_CYCLE_NS i.val)) (s.get (Reg.CAR_P_BASE_NS i.val))
       ((List.range (s.get (Reg.CAR_P_COUNT i.val))).map (fun j => s.get (Reg.CAR_P_ENTRY_INTERVAL_NS i.val j))) && s.domEnabled s.activeDom
     (ok = true → Completes (.carCommit w i) s (fun t =>
       (t.port i).pend = some (s.shadowList i, s.gateX i (s.shadowList i)) ∧
       t.Reads [(Reg.CAR_P_PENDING i.val, 1), (Reg.CAR_P_COMMIT_LAST_STATUS i.val, 0)])) ∧
     (ok = false → Completes (.carCommit w i) s (fun t =>
       (t.port i).pend = (s.port i).pend ∧ t.Reads [(Reg.CAR_P_COMMIT_LAST_STATUS i.val, 0x1D01)]))) ∧
  (∀ (d : Desc) (s : State), s.Accepts carListSpec d →
     let l := d.bytes
     let i := d.objIndex.toNat
     let n := leAt l 16 2
     let iv := (List.range n).map (fun j => leAt l (32 + 8 * j) 4)
     let ok := gateFieldsOk n (leAt l 0 4) (leAt l 10 4) iv && decide (leAt l 14 1 < 2 ∧ leAt l 15 1 = 0 ∧ leAt l 18 14 = 0
       ∧ (List.range n).all (fun j => leAt l (37 + 8 * j) 3 == 0) ∧ l.length = 32 + 8 * n) && s.domEnabled s.activeDom
     let g : GateList :=
       { en := leAt l 14 1 == 1, cycle := leAt l 0 4 * nsUnits, base := dtOf (leAt l 4 6) (leAt l 10 4) 0,
         entries := (List.range n).map (fun j => (leAt l (32 + 8 * j) 4 * nsUnits, leAt l (36 + 8 * j) 1)) }
     (ok = true → Completes (.carListLoad d) s (fun t =>
       (t.port i).pend = some (g, s.gateX i g) ∧ (∃ k : Ticket, (t.port i).tickets = (s.port i).tickets ++ [k] ∧ k.rid = d.rid.val)
       ∧ t.Reads [(Reg.CAR_P_PENDING i, 1), (Reg.CAR_P_COMMIT_LAST_STATUS i, 0)])) ∧
     (ok = false → Completes (.carListLoad d) s (fun t =>
       s.Answers t d 0x1D01 ∧ (t.port i).pend = (s.port i).pend ∧ t.Reads [(Reg.CAR_P_COMMIT_LAST_STATUS i, 0x1D01)])))

/-- At its instant a pending gate list takes effect: it is the list in force, nothing is pending, BANK flips, the swap is counted and 0x0D01
is raised (R349). TRN_CTRL with legal fields puts mode, overhead, rates and buckets in force together with full buckets, while its port
sends a frame only from the frame's end on; with an illegal one it sets LAST_STATUS to 0x1D03 and the meter stays as it was (R352). -/
def Obligations.GateListsAndMetersTakeEffect : Prop :=
  (∀ (i : Fin 16) (s : State) (g : GateList) (x : Int), (s.port i).pend = some (g, x) → s.domEnabled s.activeDom = true → s.due 1 x = true →
     Completes (.gateListSwap i) s (fun t =>
       (t.port i).list = g ∧ (t.port i).pend = none ∧ t.Latches 0x0D01 ∧ s.Counted t (Reg.CAR_P_CNT_SWAP_CNT i.val) ∧
       t.Reads [(Reg.CAR_P_PENDING i.val, 0), (Reg.CAR_P_APPLY_SEC i.val, 0), (Reg.CAR_P_APPLY_NS i.val, 0),
         (Reg.CAR_P_BANK i.val, 1 - s.get (Reg.CAR_P_BANK i.val))])) ∧
  (∀ (w : Writer) (q : Fin 128) (mode : Fin 4) (ovh : Fin 64) (s : State), s.mayWrite w (Reg.TRN_Q_MODE q.val).off = true →
     let ok := mode.val ≤ 2 ∧ ovh.val ≤ 32 ∧ 1 ≤ s.get (Reg.TRN_Q_CIR_MBPS q.val) ∧ s.get (Reg.TRN_Q_CIR_MBPS q.val) ≤ s.get (Reg.TRN_Q_PIR_MBPS q.val)
       ∧ s.get (Reg.TRN_Q_PIR_MBPS q.val) ≤ 400000 ∧ 9248 ≤ s.get (Reg.TRN_Q_CBS_B q.val) ∧ 9248 ≤ s.get (Reg.TRN_Q_PBS_B q.val)
     (ok → s.lc < (s.port (q / 8)).freeAt → Completes (.trnCtrlWrite w q mode ovh) s (fun t =>
       t.meterMode q = s.meterMode q ∧ t.meterOvh q = s.meterOvh q ∧ t.meterCir q = s.meterCir q ∧ t.meterPir q = s.meterPir q ∧
       t.meterCbs q = s.meterCbs q ∧ t.meterPbs q = s.meterPbs q ∧ t.egr.meters = s.egr.meters ∧
       q.val ∈ (t.port (q / 8)).turning ∧ t.get (Reg.TRN_Q_LAST_STATUS q.val) = 0)) ∧
     (ok → (s.port (q / 8)).freeAt ≤ s.lc → Completes (.trnCtrlWrite w q mode ovh) s (fun t =>
       t.meterMode q = mode.val ∧ t.meterOvh q = ovh.val ∧ t.get (Reg.TRN_Q_LAST_STATUS q.val) = 0 ∧
       t.meterCir q = s.get (Reg.TRN_Q_CIR_MBPS q.val) ∧ t.meterPir q = s.get (Reg.TRN_Q_PIR_MBPS q.val) ∧
       t.meterCbs q = s.get (Reg.TRN_Q_CBS_B q.val) % 2 ^ 24 ∧ t.meterPbs q = s.get (Reg.TRN_Q_PBS_B q.val) % 2 ^ 24 ∧
       Table.find t.egr.meters q = some (t.fullMeter q))) ∧
     (¬ ok → Completes (.trnCtrlWrite w q mode ovh) s (fun t =>
       t.get (Reg.TRN_Q_LAST_STATUS q.val) = 0x1D03 ∧ t.meterMode q = s.meterMode q ∧ t.meterOvh q = s.meterOvh q ∧
       t.meterCir q = s.meterCir q ∧ t.meterPir q = s.meterPir q ∧ t.meterCbs q = s.meterCbs q ∧ t.meterPbs q = s.meterPbs q ∧ t.egr = s.egr)))

/-! ## Ringmaster (chapter 02) -/

/-- A SNAP write stores, all of one tick, the local count and the DTs of the primary, the secondary and the active domain (R45). -/
def Obligations.SnapStoresOneInstant : Prop :=
  ∀ (w : Writer) (s : State), s.mayWrite w Reg.TIM_SNAP_SNAP.off = true →
    let dt := fun (m : Nat) => if m = 2 then s.activeDt else s.domDt m
    Completes (.snap w) s (fun t =>
      t.get Reg.TIM_SNAP_LC_LO = s.lc % 2 ^ 32 ∧ t.get Reg.TIM_SNAP_LC_HI = s.lc / 2 ^ 32 % 2 ^ 32 ∧
      ∀ m < 3, t.get (Reg.TIM_SNAP_DT_SEC_LO m) = dtSec (dt m) % 2 ^ 32 ∧
        t.get (Reg.TIM_SNAP_DT_SEC_HI m) = dtSec (dt m) / 2 ^ 32 % 2 ^ fieldWidth (Reg.TIM_SNAP_DT_SEC_HI m) ∧
        t.get (Reg.TIM_SNAP_DT_NS m) = dtNs (dt m) % 2 ^ fieldWidth (Reg.TIM_SNAP_DT_NS m) ∧
        t.get (Reg.TIM_SNAP_DT_FRAC m) = dtFrac (dt m) % 2 ^ fieldWidth (Reg.TIM_SNAP_DT_FRAC m))

/-- REVERT with the secondary active switches to the primary when it is LOCKED; else it raises 0x1206 and the active domain stays (R57).
Enabling a disabled domain puts it in FREERUN at DT 0 from this tick with RATE 0; disabling an enabled one that no slot holds takes it
out, and disabling the active domain while a slot follows it is refused (R41, R516). ACCEPT_JUMP brings a domain from HOLDOVER to ACQUIRE
(R53), and TOD_SEC names the second of the next PPS_IN edge (R54). -/
def Obligations.TimeDomainsAreControlled : Prop :=
  (∀ (w : Writer) (s : State), s.mayWrite w Reg.TIM_CTRL_REVERT.off = true → s.activeDom ≠ 0 →
     (s.domEnabled 0 = true → s.servo 0 = servoLocked → Completes (.revert w) s (fun t => t.activeDom = 0)) ∧
     (¬ (s.domEnabled 0 = true ∧ s.servo 0 = servoLocked) →
       Completes (.revert w) s (fun t => t.activeDom = s.activeDom ∧ t.Latches 0x1206))) ∧
  (∀ (w : Writer) (d : Fin 2) (s : State), s.mayWrite w (Reg.TIM_DOM_ENABLE d.val).off = true →
     (s.domEnabled d = false → Completes (.domainEnable w d) s (fun t =>
       t.domEnabled d = true ∧ t.servo d = servoFreerun ∧ t.get (Reg.TIM_DOM_RATE d.val) = 0 ∧ (t.domain d).map = ⟨0, s.lc, 0⟩)) ∧
     (s.domEnabled d = true → s.disableRefused d = false → Completes (.domainDisable w d) s (fun t =>
       t.domEnabled d = false ∧ t.servo d = 0 ∧ (t.domain d).master = none)) ∧
     (s.domEnabled d = true → s.disableRefused d = true → Completes (.domainDisable w d) s (fun t =>
       t.domEnabled d = true ∧ t.tim = s.tim))) ∧
  (∀ (w : Writer) (d : Fin 2) (s : State),
     (s.mayWrite w (Reg.TIM_DOM_ACCEPT_JUMP d.val).off = true → s.domEnabled d = true → s.servo d = servoHoldover →
       Completes (.acceptJump w d) s (fun t => t.servo d = servoAcquire ∧ (t.domain d).acceptJump = true)) ∧
     (∀ sec : BitVec 32, s.mayWrite w (Reg.TIM_DOM_TOD_SEC d.val).off = true →
       Completes (.todSecWrite w d sec) s (fun t => (t.domain d).todFresh = true ∧ ∃ x, (t.domain d).tod = some x ∧ x % 2 ^ 32 = sec.toNat)))

/-- A valid launch word joins its unit's queue when the queue has room; an invalid one and one for a full queue do not (R65, R72). -/
def Obligations.LaunchWordsAreQueuedOrRefused : Prop :=
  ∀ (p : Fin 4) (w : BitVec 128) (s : State), s.mayWrite (.super p) (launchWindow (lwUnit w.toNat)) = true →
    (s.launchValid w.toNat = true → (s.queue (lwUnit w.toNat)).length < queueDepth →
      Completes (.launchWindowWrite p w) s (fun t => t.queue (lwUnit w.toNat) = s.queue (lwUnit w.toNat) ++
        [{ kind := lwKind w.toNat, ref := lwRef w.toNat, tag := lwTag w.toNat, instant := lwInstant w.toNat, accepted := s.lc,
           act := .firmware }])) ∧
    (s.launchValid w.toNat = false ∨ queueDepth ≤ (s.queue (lwUnit w.toNat)).length →
      Completes (.launchWindowWrite p w) s (fun t => t.tim = s.tim))

/-- A write of UNIT and TAG to TIM_LCANCEL takes every launch with that tag out of that unit's queue, except the head when it fires in this
tick; no other queue and no launch that has fired changes. With no launch of that tag queued no queue changes and nothing is sent or
raised, the Ledger having room for the entry of the write (R73). -/
def Obligations.LaunchCancelRemovesItsTag : Prop :=
  ∀ (w : Writer) (u : BitVec 10) (tag : BitVec 16) (s : State), s.mayWrite w Reg.TIM_LCANCEL_UNIT.off = true →
    Completes (.launchCancel w u tag) s (fun t =>
      (s.firesNow u.toNat = false → t.queue u.toNat = (s.queue u.toNat).filter (fun q => !(q.tag == tag.toNat))) ∧
      (∀ q l, s.firesNow u.toNat = true → s.queue u.toNat = q :: l → t.queue u.toNat = q :: l.filter (fun q => !(q.tag == tag.toNat))) ∧
      (∀ v, v ≠ u.toNat → t.queue v = s.queue v) ∧ t.tim.fired = s.tim.fired ∧
      ((∀ q ∈ s.queue u.toNat, q.tag ≠ tag.toNat) → s.ledger.intake.length < ledgerIntake →
        t.queue u.toNat = s.queue u.toNat ∧ t.out = s.out ∧ ∀ i, t.get (Reg.BRK_LATCH i) = s.get (Reg.BRK_LATCH i)))

/-- A well-formed two-step Sync of the selected master is stamped and waits for its Follow_Up; the Follow_Up in time brings its t1 and
correction when R519 lets the Sync give a sample (R48, R50, R519). A domain with a selected master sends Delay_Req into its lane's
control queue and stamps t3; the matching Delay_Resp brings t4 and the correction (R47, R48, R51). A Follow_Up that matches no waiting
Sync and a Delay_Resp that matches no outstanding Delay_Req are malformed: counted, and raised with 0x4201 (R48). -/
def Obligations.TwoStepExchangeIsStamped : Prop :=
  (∀ (h : PtpHeader) (d : Fin 2) (s : State), h.malformed = false → s.hears d h = true → s.hears (1 - d.val) h = false →
     (s.fromMaster d h = true → Completes (.syncRx h none) s (fun t =>
       (t.domain d).syncs = { t2 := s.stampDt d h.sub, corr := h.correction, seq := h.seq.toNat, sender := h.sender.toNat, mine := true,
                              t1 := none } :: (s.domain d).syncs.filter (fun z => !(z.names h)) ∧
       (t.domain d).logSync = h.logInterval)) ∧
     (∀ (t1 : PtpTime) (y : PendingSync), s.fromMaster d h = true → (s.domain d).syncs.find? (fun z => z.names h) = some y → y.mine = true →
       (∀ l, (s.domain d).lastT2 = some l → minSync ≤ y.t2 - l) →
       (((s.stampDt d h.sub - y.t2 : Int) : Rat) / nsUnits ≤ (s.domain d).tsNs) → (s.domain d).req = none →
       Completes (.followUpRx h t1) s (fun t =>
         (t.domain d).sync = some { y with corr := y.corr + h.correction, t1 := some (ptpUnits t1) } ∧
         (t.domain d).syncs = (s.domain d).syncs.filter (fun z => !(z.names h)))) ∧
     (∀ t1 : PtpTime, (s.domain d).syncs.find? (fun z => z.names h) = none → Completes (.followUpRx h t1) s (fun t =>
       s.Counted t (Reg.TIM_DOM_PTP_ERR_CNT d.val) ∧ t.Latches 0x4201 ∧ t.tim = s.tim)) ∧
     (∀ t4 : PtpTime, (∀ r, (s.domain d).req = some r → r.seq = h.seq.toNat → r.answer ≠ none) → Completes (.delayRespRx h t4) s (fun t =>
       s.Counted t (Reg.TIM_DOM_PTP_ERR_CNT d.val) ∧ t.Latches 0x4201 ∧ t.tim = s.tim))) ∧
  (∀ (d : Fin 2) (s : State),
     (∀ lane sub : Fin 16, s.domEnabled d = true → s.get (Reg.TIM_DOM_SOURCE d.val) = 0 →
       bit (s.get (Reg.TIM_DOM_LANE_MASK d.val)) lane = true → s.portActive lane = true → (s.domain d).master.isSome →
       Completes (.delayReqSend d lane sub) s (fun t =>
         (t.domain d).req = some { seq := (s.domain d).reqSeq, t3 := s.stampDt d sub, answer := none } ∧
         (t.domain d).reqSeq = ((s.domain d).reqSeq + 1) % 2 ^ 16)) ∧
     (∀ (h : PtpHeader) (t4 : PtpTime) (r : PendingReq), h.malformed = false → s.hears d h = true → s.hears (1 - d.val) h = false →
       s.fromMaster d h = true → (s.domain d).req = some r → r.seq = h.seq.toNat → r.answer = none → (s.domain d).sync = none →
       Completes (.delayRespRx h t4) s (fun t => (t.domain d).req = some { r with answer := some (ptpUnits t4, h.correction) })))

/-- An Announce makes its sender's data set the newest heard and the best one heard the domain's master (R47); losing the selected master puts
a domain that had left FREERUN in HOLDOVER with LOSS set and raises 0x5202 (R52). What references and edges do: a slew within one tick
ends; a PPS_IN edge is present from then on, and a domain that follows it with its second known takes THETA from it, or counts it
discarded when it lies more than 1 µs off; PPS_IN and the 10 MHz input are lost with 0x5204 and the 10 MHz input returns; the PLL leaves a
lost 10 MHz input; PPS_OUT, while it is enabled, rises in the tick of a whole second and in no other (R40, R54, R56, R62, R63). -/
def Obligations.MastersReferencesAndEdgesAct : Prop :=
  (∀ (d : Fin 2) (s : State),
     (∀ (h : PtpHeader) (a : Announce), h.malformed = false → s.hears d h = true → s.hears (1 - d.val) h = false →
       Completes (.announceRx h a) s (fun t =>
         (t.domain d).heard = ⟨h.sender.toNat, a⟩ :: (s.domain d).heard.filter (fun m => m.sender != h.sender.toNat) ∧
         (t.domain d).master = bestMaster (t.domain d).heard)) ∧
     (s.domEnabled d = true → s.get (Reg.TIM_DOM_SOURCE d.val) = 0 → s.servo d ≠ servoFreerun →
       Completes (.masterLoss d) s (fun t =>
         t.servo d = servoHoldover ∧ t.get (Reg.TIM_DOM_LOSS_FLAG d.val) = 1 ∧ t.Latches 0x5202))) ∧
  (∀ s : State,
     (∀ m, s.tim.slew = some m → withinTick (m.at s.lc) ((s.domain s.activeDom).map.at s.lc) = true →
       Completes .slewEnd s (fun t => t.tim.slew = none ∧ t.get Reg.TIM_CTRL_SLEWING = 0)) ∧
     (∀ (sub : Fin 16) (sec : Nat), s.domEnabled 0 = true → s.get (Reg.TIM_DOM_SOURCE 0) = 1 → s.get (Reg.TIM_DOM_SOURCE 1) ≠ 1 →
       (s.domain 0).tod = some sec →
       let off := s.stampDt 0 sub + s.inComp - (sec : Int) * secUnits
       ((s.domain 0).todFresh = false → ¬ (-(1000 * nsUnits : Int) ≤ off ∧ off ≤ 1000 * nsUnits) →
         Completes (.ppsInEdge sub) s (fun t => t.get Reg.TIM_REFSTAT_PPS_OK = 1 ∧ s.Counted t (Reg.TIM_DOM_DISCARD_CNT 0) ∧
           (t.domain 0).tod = some ((sec + 1) % 2 ^ 48))) ∧
       ((s.domain 0).todFresh = true → Completes (.ppsInEdge sub) s (fun t =>
         t.get Reg.TIM_REFSTAT_PPS_OK = 1 ∧ t.get (Reg.TIM_DOM_THETA 0) = thetaNs ((off : Rat) / nsUnits) % 2 ^ 32))) ∧
     Completes .ppsInLoss s (fun t => t.get Reg.TIM_REFSTAT_PPS_OK = 0 ∧ t.get Reg.TIM_REFSTAT_PPS_LOST = 1 ∧ t.Latches 0x5204) ∧
     Completes .clk10InLoss s (fun t => t.get Reg.TIM_REFSTAT_CLK10_OK = 0 ∧ t.get Reg.TIM_REFSTAT_CLK10_LOST = 1 ∧ t.Latches 0x5204) ∧
     Completes .clk10InReturn s (fun t => t.get Reg.TIM_REFSTAT_CLK10_OK = 1) ∧
     (s.tim.pllClk10 = true → s.on Reg.TIM_REFSTAT_CLK10_OK = false → Completes .pllRefSwitch s (fun t => t.tim.pllClk10 = false)) ∧
     (∀ j, s.on Reg.TIM_PPS_OUT_EN = true → s.outEdge secUnits 0 = some j → Completes .ppsOutEdge s (fun t =>
       s.Sent t (fun o => o = .pulse .ppsOut (s.get Reg.TIM_PPS_WIDTH_US) j))) ∧
     (s.on Reg.TIM_PPS_OUT_EN = false ∨ s.outEdge secUnits 0 = none → Completes .ppsOutEdge s (fun t => t = s)))

/-! ## Register accesses (R11 to R16, R515) -/

/-- A word written to a register without a command of its own, by a writer that reaches it, changes its fields by their access codes: RW takes
the written bits, W1C clears the bits written 1 except one set in the same cycle, RO and WO keep (R13). A field's value is its number
within its width. -/
def Obligations.PlainRegisterWriteFollowsAccessCodes : Prop :=
  ∀ (w : Writer) (off : Nat) (value : BitVec 64) (s : State), off % 4 = 0 → off ≠ Reg.PWR_RESET_KEY.off → (viewOf w = 0 ∨ off < 0x100) →
    isWindow off = false → s.mayWrite w off = true → (∀ v, rowCmd w off v = none) → ((viewFields (viewOf w) off).map fieldKey).Nodup →
    (∀ f ∈ viewFields (viewOf w) off, f.id < 1024 ∧
      f.id ∉ [(Reg.HIF_FN_EVT_LOST_CNT 0).id, Reg.LDG_NEXT_SEQ.id, Reg.LDG_OVERRUN_CNT.id, (Reg.BRK_LATCH 0).id]) →
    Completes (.registerWrite w off .word value) s (fun t =>
      ∀ f ∈ viewFields (viewOf w) off, t.get f % 2 ^ fieldWidth f = s.fieldAfter f (value.toNat % 2 ^ 32) % 2 ^ fieldWidth f)

/-- A word written to a register whose write is a command of its own row, or has a value rule, completes, and does what that command does
(R13), as does one to PWR_RESET. The low words of the queue window are held for its highest word, which queues the launch (R75; log entry
101). A word that no register of the writer's view holds changes nothing (R14), and so does any in a HALTED device, which hears
PWR_RESET and a mode request alone (R81, R98). -/
def Obligations.RegisterWriteRunsTheRowsCommand : Prop :=
  ∀ (w : Writer) (off : Nat) (value : BitVec 64) (s : State), off % 4 = 0 →
    (∀ c : Cmd, off ≠ Reg.PWR_RESET_KEY.off → s.halted = false → isWindow off = false → (viewFields (viewOf w) off) ≠ [] →
      s.mayWrite w off = true → rowCmd w off (value.toNat % 2 ^ 32) = some c →
      Completes (.registerWrite w off .word value) s (fun t => c s = .next t)) ∧
    (off = Reg.PWR_RESET_KEY.off → Completes (.registerWrite w off .word value) s (fun t =>
      exec (.pwrReset w (value.setWidth 32)) s = .next t)) ∧
    (∀ p : Fin 4, s.halted = false → isWindow off = true → (off - launchWindow 0) / 4 % 4 ≠ 3 →
      Completes (.registerWrite (.super p) off .word value) s (fun t =>
        Table.find t.tim.window ((off - launchWindow 0) / 4) = some (value.toNat % 2 ^ 32))) ∧
    (off ≠ Reg.PWR_RESET_KEY.off → off ≠ Reg.PWR_MODE_CTRL_TARGET.off →
      (isWindow off = false ∧ viewFields (viewOf w) off = []) ∨ s.halted = true →
      Completes (.registerWrite w off .word value) s (fun t => t = s))

/-- A BAR0 access acts on a register only as a word at a multiple of 4 with all its bytes, or as a double word at a multiple of 8, which is
the low word's access and then the high word's. Any other write leaves the state as it is, counters and events too; any other read answers
0 and leaves the rest of the state (R515). -/
def Obligations.BarAccessesActInTwoForms : Prop :=
  ∀ (off : Nat) (form : AccessForm) (s : State),
    ((form = .other ∨ (form = .word ∧ off % 4 ≠ 0) ∨ (form = .double ∧ off % 8 ≠ 0)) →
      (∀ (w : Writer) (v : BitVec 64), exec (.registerWrite w off form v) s = .next s) ∧
      (∀ w : Writer, w ≠ .debug → exec (.lowWordRead w off form) s = .next (s.emit (.readData (readerOf w) off 0)))) ∧
    (off % 8 = 0 →
      (∀ (w : Writer) (v : BitVec 64), ∃ t u, exec (.registerWrite w off .word v) s = .next t ∧
        exec (.registerWrite w (off + 4) .word (v >>> 32)) t = .next u ∧ exec (.registerWrite w off .double v) s = .next u) ∧
      (∀ w : Writer, w ≠ .debug → ∃ (x y : Nat) (t u : State),
        exec (.lowWordRead w off .word) s = .next (t.emit (.readData (readerOf w) off x)) ∧
        exec (.lowWordRead w (off + 4) .word) t = .next (u.emit (.readData (readerOf w) (off + 4) y)) ∧
        exec (.lowWordRead w off .double) s = .next (u.emit (.readData (readerOf w) off (x + y * 2 ^ 32)))))

/-- A word read answers with the word's value, but for the debug window of a HALTED device, which is gated (R98); the read of the low word of
a 64-bit quantity latches its high word, and the next read of the high word by the same reader answers with the latched one whatever the
quantity has become since (R12). -/
def Obligations.LowWordReadLatchesTheHighWord : Prop :=
  ∀ (w : Writer) (off : Nat) (s : State), off % 4 = 0 →
    let f := readerOf w
    let v := readerView f
    (w ≠ .debug ∨ s.halted = false → Completes (.lowWordRead w off .word) s (fun t => s.Sent t (fun o => o = .readData f off (s.readWord f off).1))) ∧
    (w = .debug → s.halted = true → Completes (.lowWordRead w off .word) s (fun t => t = s)) ∧
    (w ≠ .debug → isLow off = true → isLow (off - 4) = false → (v = 0 ∨ off + 4 < 0x100) → ∀ t u : State,
      exec (.lowWordRead w off .word) s = .next t → u.latches = t.latches →
      ∃ r, exec (.lowWordRead w (off + 4) .word) u = .next r ∧ u.Sent r (fun o => o = .readData f (off + 4)
        (((s.readFields (readable (viewFields v off))).2.readFields (readable (viewFields v (off + 4)))).1)))

/-! ## Descriptors (R119 to R127) -/

/-- A descriptor that cannot be consumed yet (the device HALTED, its ring not ACTIVE or empty, its completion ring full, a FENCE with earlier
descriptors in flight) changes nothing and waits (R119, R123, R126). A descriptor that fails a check of R122 is consumed and completes
with that check's status, none of its effect done. A timed descriptor that passes its checks is queued on the unit of its launch word, or
completes with 0x2201 when that queue is full (R72, R124); one whose action, started now, would answer it with a failure has that answer
(check 9 of R122; log entry 113: the model's choice of when it is judged). -/
def Obligations.DescriptorsWaitFailOrAreTimed : Prop :=
  (∀ (c : Instr) (o : OpSpec) (d : Desc) (s : State), descriptorOf c = some (o, d) → s.servable .sub d.rid.val d.fence = false →
     exec c s = .next s) ∧
  (∀ (c : Instr) (o : OpSpec) (d : Desc) (s : State) (status : Code), descriptorOf c = some (o, d) →
     s.servable .sub d.rid.val d.fence = true → s.descFailure o (s.submitter d) d = some status →
     Completes c s (fun t => s.Answers t d status ∧ t.mem = s.mem ∧ t.slots = s.slots ∧ t.tim = s.tim ∧ t.lanes = s.lanes ∧
       (∀ f : Field, f.id < 1024 → f.id ∉ [(Reg.HIF_FN_EVT_LOST_CNT 0).id, Reg.LDG_NEXT_SEQ.id, Reg.LDG_OVERRUN_CNT.id,
         (Reg.BRK_LATCH 0).id, (Reg.HIF_FN_DESC_ERR_CNT 0).id, (Reg.HIF_FN_DMA_ERR_CNT 0).id] → t.get f = s.get f))) ∧
  (∀ (c : Instr) (o : OpSpec) (d : Desc) (act : Desc → Ticket → State → State) (s : State), descriptorOf c = some (o, d) →
     actionOf c = some act → s.servable .sub d.rid.val d.fence = true → s.descFailure o (s.submitter d) d = none → d.timed = true →
     let w := d.launch.toNat
     let (u, k) := s.consume d.rid.val d.cookie.toNat
     let v := u.mirror3 (.ring d.rid.val (u.consOf d.rid.val) o.opcode (some d))
     (failsNow act d k v = false → (s.queue (lwUnit w)).length < queueDepth → Completes c s (fun t =>
       t.queue (lwUnit w) = s.queue (lwUnit w) ++
         [{ kind := lwKind w, ref := lwRef w, tag := lwTag w, instant := lwInstant w, accepted := s.lc, act := .timed o.opcode d k }])) ∧
     (failsNow act d k v = false → queueDepth ≤ (s.queue (lwUnit w)).length → Completes c s (fun t => s.Answers t d 0x2201 ∧ t.tim = s.tim)) ∧
     (failsNow act d k v = true → Completes c s (fun t => t = act d k v)))

/-! ## The host interface (chapter 04) -/

/-- The device opens a function whose OPEN passes the checks of R114: its two admin rings stand ACTIVE on its first pen and the minor is
negotiated; a failing OPEN shows the check's status and makes no ring. Closing a function takes its rings away and leaves the others'. A
function reset (FLR, leaving D3hot) of a VF takes its rings away; of the PF, and a PCIe reset, it takes the rings of every function away,
closes them all, clears VF Enable and returns the pens to their reset owners (R105, R141). -/
def Obligations.FunctionsAreOpenedClosedAndReset : Prop :=
  (∀ (f : Fin 32) (s : State), s.mayWrite (.host f) 0x10 = true →
     (∀ major minor : BitVec 8, s.openFailure f major.toNat = none → Completes (.functionOpen f major minor false) s (fun t =>
       let p := (s.pensOf f).headD 0
       t.Reads [(Reg.HIF_FN_STATUS_OPENED f.val, 1), (Reg.HIF_FN_STATUS_ABI_MAJOR f.val, 3), (Reg.HIF_FN_STATUS_ABI_MINOR f.val, min minor.toNat 2),
         (Reg.HIF_FN_LAST_STATUS f.val, 0)] ∧
       (∃ x, t.ring (64 * p) = some x ∧ x.kind = .sub ∧ x.state = .active ∧ x.fn = f.val) ∧
       (∃ x, t.ring (64 * p + 1) = some x ∧ x.kind = .cpl ∧ x.state = .active ∧ x.fn = f.val))) ∧
     (∀ (major minor : BitVec 8) (c : Code), s.openFailure f major.toNat = some c → Completes (.functionOpen f major minor false) s (fun t =>
       t.get (Reg.HIF_FN_LAST_STATUS f.val) = c ∧ ∀ r, (t.ring r).isSome → (s.ring r).isSome)) ∧
     Completes (.functionClose f) s (fun t =>
       (∀ r x, t.ring r = some x → x.fn ≠ f.val) ∧ (∀ r x, s.ring r = some x → x.fn ≠ f.val → (t.ring r).isSome) ∧
       t.Reads [(Reg.HIF_FN_STATUS_OPENED f.val, 0), (Reg.HIF_FN_LAST_STATUS f.val, 0)] ∧ (t.fn f).epoch = (s.fn f).epoch + 1)) ∧
  (∀ s : State,
     (∀ f : Fin 32, f.val ≠ 0 → ∀ c, c = Instr.flr f ∨ c = Instr.d3hotExit f → Completes c s (fun t =>
       (∀ r x, t.ring r = some x → x.fn ≠ f.val) ∧ t.get (Reg.HIF_FN_STATUS_OPENED f.val) = 0 ∧ (t.fn f).epoch = (s.fn f).epoch + 1)) ∧
     (∀ c, c = Instr.flr 0 ∨ c = Instr.d3hotExit 0 ∨ c = Instr.pcieReset → Completes c s (fun t =>
       (∀ r x, t.ring r = some x → 32 ≤ x.fn) ∧ t.vfEnable = false ∧ (∀ g : Fin 32, t.get (Reg.HIF_FN_STATUS_OPENED g.val) = 0) ∧
       (∀ p : Fin 256, t.get (Reg.HIF_PEN_OWNER_ASSIGNED p.val) = (Reg.HIF_PEN_OWNER_ASSIGNED p.val).reset))))

/-- The ownership of pens and slots and the vectors of a VF take the values written, with LAST_STATUS 0, when R109, R111 and R139 allow them;
else LAST_STATUS shows 0x1402 or 0x1401 and they stay. A doorbell that passes every check of R137 moves its ring's index, when the ring
owes no record of lost events; one to a page that maps no pen, and one whose index is out of range, is counted in DB_ERR_CNT and raised
with its code while the ring stays. A fetch error puts an ACTIVE ring that the device reads in ERROR, counts it and raises 0x3420 (R119,
R142); an unsignalled entry is signalled once it has waited MOD_US and not before, as a message or in the PBA while its vector is masked;
unmasking a vector with its PBA bit set sends one message (R140). -/
def Obligations.OwnershipDoorbellsAndInterruptsAct : Prop :=
  (∀ (w : Writer) (s : State),
     (∀ (p : Fin 256) (a : Bool) (f : Fin 32), s.mayWrite w (Reg.HIF_PEN_OWNER_ASSIGNED p.val).off = true →
       (s.penRefused p a f = false → Completes (.penOwnerWrite w p a f) s (fun t => t.Reads
         [(Reg.HIF_PEN_OWNER_ASSIGNED p.val, if a then 1 else 0), (Reg.HIF_PEN_OWNER_FUNCTION p.val, f.val), (Reg.HIF_SETUP_STATUS_LAST_STATUS, 0)])) ∧
       (s.penRefused p a f = true → Completes (.penOwnerWrite w p a f) s (fun t => t.Reads
         [(Reg.HIF_PEN_OWNER_ASSIGNED p.val, s.get (Reg.HIF_PEN_OWNER_ASSIGNED p.val)),
          (Reg.HIF_PEN_OWNER_FUNCTION p.val, s.get (Reg.HIF_PEN_OWNER_FUNCTION p.val)), (Reg.HIF_SETUP_STATUS_LAST_STATUS, 0x1402)]))) ∧
     (∀ o0 o1 o2 o3 : Fin 32, s.mayWrite w Reg.HIF_SLOT_OWNER_SLOT0.off = true →
       let ok := s.slotOwnerOk 0 o0 && s.slotOwnerOk 1 o1 && s.slotOwnerOk 2 o2 && s.slotOwnerOk 3 o3
       (ok = true → Completes (.slotOwnerWrite w o0 o1 o2 o3) s (fun t =>
         t.slotOwner 0 = o0 ∧ t.slotOwner 1 = o1 ∧ t.slotOwner 2 = o2 ∧ t.slotOwner 3 = o3 ∧ t.get Reg.HIF_SETUP_STATUS_LAST_STATUS = 0)) ∧
       (ok = false → Completes (.slotOwnerWrite w o0 o1 o2 o3) s (fun t =>
         (∀ n, t.slotOwner n = s.slotOwner n) ∧ t.get Reg.HIF_SETUP_STATUS_LAST_STATUS = 0x1402))) ∧
     (∀ (f : Fin 32) (count : BitVec 12) (base : BitVec 11) (e : Bool), f.val ≠ 0 → s.mayWrite w (Reg.HIF_FN_VEC_COUNT f.val).off = true →
       let u : State := { s with vfEnable := e }
       (u.vectorsOk f count.toNat base.toNat = true → Completes (.vectorWrite w f count base e) s (fun t => t.vfEnable = e ∧ t.Reads
         [(Reg.HIF_FN_VEC_COUNT f.val, count.toNat), (Reg.HIF_FN_VEC_BASE f.val, base.toNat), (Reg.HIF_SETUP_STATUS_LAST_STATUS, 0)])) ∧
       (u.vectorsOk f count.toNat base.toNat = false → Completes (.vectorWrite w f count base e) s (fun t => t.vfEnable = e ∧ t.Reads
         [(Reg.HIF_FN_VEC_COUNT f.val, s.get (Reg.HIF_FN_VEC_COUNT f.val)), (Reg.HIF_FN_VEC_BASE f.val, s.get (Reg.HIF_FN_VEC_BASE f.val)),
          (Reg.HIF_SETUP_STATUS_LAST_STATUS, 0x1401)])))) ∧
  (∀ (f : Fin 32) (page : Fin 256) (off : Fin 4096) (whole : Bool) (v : BitVec 64) (s : State), s.halted = false →
     (s.pageMap f page = none → Completes (.doorbell f page off whole v) s (fun t =>
       s.Counted t (Reg.HIF_FN_DB_ERR_CNT f.val) ∧ t.Latches 0x3412)) ∧
     (∀ (p r : Nat) (second : Bool) (x : Ring), s.pageMap f page = some p → s.doorbellRing (64 * p + off / 8) = (r, second) →
       whole = true → off.val < 0x200 ∧ off.val % 8 = 0 ∧ bits v.toNat 63 50 = r ∧ bits v.toNat 49 32 = 0 → s.ring r = some x →
       (x.state = .error → consumerBell x.kind second = true) →
       (x.indexOk second (bits v.toNat 31 0) = true → (x.kind ≠ .evt ∨ x.lost = 0) → Completes (.doorbell f page off whole v) s (fun t =>
         t.ring r = some (x.take second (bits v.toNat 31 0)) ∧ t.out = s.out)) ∧
       (x.indexOk second (bits v.toNat 31 0) = false → Completes (.doorbell f page off whole v) s (fun t =>
         s.Counted t (Reg.HIF_FN_DB_ERR_CNT f.val) ∧ t.Latches 0x3410)))) ∧
  (∀ s : State,
     (∀ (r : Fin 16384) (x : Ring), s.ring r = some x → x.state = .active → (x.kind = .sub ∨ x.kind = .bsIn ∨ x.kind = .bsOut) →
       Completes (.ringFetchError r) s (fun t => s.Counted t (Reg.HIF_FN_DMA_ERR_CNT x.fn) ∧ t.Latches 0x3420 ∧
         ∃ y, t.ring r = some y ∧ y.state = .error)) ∧
     (∀ (r : Fin 16384) (x : Ring), s.ring r = some x → s.modExpired r x = false → Completes (.msixModerationTimeout r) s (fun t => t = s)) ∧
     (∀ (r : Fin 16384) (x : Ring) (v : Nat), s.ring r = some x → x.vector = some v → x.unsig ≠ 0 → s.modExpired r x = true →
       (s.vecMasked (s.globalVec x.fn v) = false → Completes (.msixModerationTimeout r) s (fun t =>
         t.ring r = some { x with unsig := 0 } ∧ s.Sent t (fun o => o = .msix (s.globalVec x.fn v)))) ∧
       (s.vecMasked (s.globalVec x.fn v) = true → Completes (.msixModerationTimeout r) s (fun t =>
         t.ring r = some { x with unsig := 0 } ∧ Table.getD t.pba (s.globalVec x.fn v) false = true ∧ t.out = s.out))) ∧
     (∀ (v : Fin 2048) (mask : Bool), Completes (.msixUnmask v mask) s (fun t => t.vecMasked v = mask ∧
       (mask = false → Table.getD s.pba v.val false = true →
         s.Sent t (fun o => o = .msix v.val) ∧ Table.getD t.pba v.val false = false))))

/-- An accepted NOP completes with 0; an opcode of no table fails check 1 with 0x3401 (R121, R122). Accepted CREATE_RING makes the ring ACTIVE
with its parameters and completes with 0; DESTROY_RING stops it, and when nothing of it is in flight it is gone and every DESTROY_RING of it
completes (R119, R121). -/
def Obligations.RingDescriptorsAct : Prop :=
  (∀ (op : BitVec 16) (d : Desc) (s : State),
     (op.toNat = 0 → s.Accepts nopSpec d → Completes (.nop op d) s (fun t => s.Answers t d 0)) ∧
     (knownOpcodes.contains op.toNat = false → s.servable .sub d.rid.val d.fence = true →
       Completes (.nop op d) s (fun t => s.Answers t d 0x3401))) ∧
  (∀ s : State,
     (∀ d : Desc, s.Accepts createSpec d → s.ledger.intake.length < ledgerIntake → Completes (.createRing d) s (fun t => s.Answers t d 0 ∧
       ∃ x, t.ring d.objIndex.toNat = some x ∧ x.kind = ringKind (d.p 40 1) ∧ x.state = .active ∧ x.fn = s.submitter d ∧ x.base = d.p 32 8 ∧
         x.log2 = d.p 41 1 ∧ x.pair = d.p 42 2 ∧ x.prod = 0 ∧ x.cons = 0 ∧ x.mask = d.p 50 2 ∧ x.slot = d.p 52 1)) ∧
     (∀ d : Desc, s.Accepts destroySpec d → Completes (.destroyRing d) s (fun t =>
       ∃ x y k, s.ring d.objIndex.toNat = some x ∧ t.ring d.objIndex.toNat = some y ∧ y.closing = x.closing ++ [k] ∧ k.rid = d.rid.val ∧
         k.cookie = d.cookie.toNat)) ∧
     (∀ (r : Fin 16384) (x : Ring), s.ring r = some x → x.closing ≠ [] → x.busy r = 0 →
       Completes (.destroyRingDone r) s (fun t => t.ring r = none ∧
         ∀ k ∈ x.closing, (s.fn k.fn).epoch = k.epoch → k.cpl ≠ r.val → (s.ring k.cpl).isSome = true →
           s.Sent t (fun o => ∃ q i e, o = .cpl q i e ∧ e.rid = k.rid ∧ e.cookie = k.cookie ∧ e.status = State.ticketStatus k 0))))

/-- An accepted CONFIG_WRITE completes with 0 and the RW fields of its register take its value; an accepted CONFIG_READ writes as many bytes
of its object's window to host memory as the buffer takes; an accepted STATS_READ of an egress queue writes the queue's record (R121,
R189, R354). An accepted CANCEL_TIMED on a unit that does not fire in this tick takes the function's own timed descriptors of the tag out
of the unit's queue and completes with 0 (R121, R124). -/
def Obligations.ConfigAndCancelDescriptorsAct : Prop :=
  (∀ (d : Desc) (s : State),
     (s.Accepts configWriteSpec d → Completes (.configWrite d) s (fun t => s.Answers t d 0 ∧
       ∀ off f, configTarget d = some off → viewFields 0 off = [f] → f.acc = .rw → f.id < 1024 →
         f.id ∉ [(Reg.HIF_FN_EVT_LOST_CNT 0).id, Reg.LDG_NEXT_SEQ.id, Reg.LDG_OVERRUN_CNT.id, (Reg.BRK_LATCH 0).id] →
         t.get f = bits (d.p 36 4) f.msb f.lsb % 2 ^ fieldWidth f)) ∧
     (s.Accepts configReadSpec d → Completes (.configRead d) s (fun t => s.Answers t d 0 ∧
       ∀ win, objWindow d.objType.toNat d.objIndex.toNat = some win → s.Sent t (fun o =>
         ∃ l, o = .hostWrite (s.submitter d) (d.p 32 8) l false ∧ l.length = min (d.p 40 4) win.2))) ∧
     (s.Accepts statsSpec d → Completes (.statsRead d) s (fun t => s.Answers t d 0 ∧
       (d.objType = 6 → s.Sent t (fun o => o = .hostWrite (s.submitter d) (d.p 32 8) ((s.queueStats d.objIndex.toNat).take (d.p 40 4)) false))))) ∧
  (∀ (d : Desc) (s : State), s.Accepts cancelSpec d → s.firesNow (d.p 32 2) = false →
     Completes (.cancelTimed d) s (fun t => s.Answers t d 0 ∧
       t.queue (d.p 32 2) = (s.queue (d.p 32 2)).filter (fun q => !(q.ofFn (s.submitter d) && q.tag == d.p 34 2))))

/-! ## Slots (chapter 03) -/

/-- START of a slot whose checks pass, with no unit failing its self-test, puts it in STARTING on the Faces of its placement; a check that
fails leaves the slot's state, and LAST_STATUS shows the check's code (R99 to R102). A command of a function that does not own the slot is
refused (R111; with 0x3403, log entry 116: the model's choice of code). -/
def Obligations.SlotStartAllocatesOrRefuses : Prop :=
  ∀ (w : Writer) (freerun autostart : Bool) (n : Fin 4) (s : State), s.mayWrite w (Reg.ENC_BS_RUN_CMD n.val).off = true →
    let u := s.setAll [(Reg.ENC_BS_RUN_FREERUN_OK n.val, if freerun then 1 else 0), (Reg.ENC_BS_RUN_AUTOSTART n.val, if autostart then 1 else 0)]
    (s.mayCommand n w = false → ∀ c, c = Instr.slotStart (.reg w freerun autostart) n [] ∨ c = Instr.slotStop (.reg w freerun autostart) n ∨
        c = Instr.slotCommit (.reg w freerun autostart) n → Completes c s (fun t =>
      t.slotState n = s.slotState n ∧ t.get (Reg.ENC_BS_RUN_LAST_STATUS n.val) = 0x3403 ∧ t.slots = s.slots)) ∧
    (s.mayCommand n w = true → u.startCode n freerun = 0 → Completes (.slotStart (.reg w freerun autostart) n []) s (fun t =>
      t.slotState n = slotStarting ∧ t.get (Reg.ENC_BS_RUN_LAST_STATUS n.val) = 0 ∧ some (t.slot n).faces = u.placement n)) ∧
    (∀ c, s.mayCommand n w = true → u.startCode n freerun = c → c ≠ 0 → c < 2 ^ 16 → Completes (.slotStart (.reg w freerun autostart) n []) s (fun t =>
      t.slotState n = s.slotState n ∧ t.get (Reg.ENC_BS_RUN_LAST_STATUS n.val) = c ∧ t.slots = s.slots))

/-- STOP brings a RUNNING slot to STOPPING, a STARTING or FAULT slot to STOPPED, and is refused with 0x1305 in the other states, written to
the register or by a SLOT_CMD descriptor, which another CMD fails with 0x1305 too; a STOPPING slot whose pictures are done releases its
units and is STOPPED (R100, R103). An accepted COMMIT puts the written configuration in force, and an IDLE slot is STOPPED from then on; a
refused one shows its code and the configuration in force stays (R100, R104). -/
def Obligations.SlotsStopAndCommit : Prop :=
  (∀ s : State,
     (∀ (w : Writer) (fr au : Bool) (n : Fin 4), s.mayWrite w (Reg.ENC_BS_RUN_CMD n.val).off = true → s.mayCommand n w = true →
       (s.slotState n = slotRunning → Completes (.slotStop (.reg w fr au) n) s (fun t =>
         t.slotState n = slotStopping ∧ t.get (Reg.ENC_BS_RUN_LAST_STATUS n.val) = 0)) ∧
       (s.slotState n = slotStarting ∨ s.slotState n = slotFault → Completes (.slotStop (.reg w fr au) n) s (fun t =>
         t.slotState n = slotStopped ∧ t.get (Reg.ENC_BS_RUN_LAST_STATUS n.val) = 0)) ∧
       (s.slotState n < 2 ∨ s.slotState n = slotStopping → Completes (.slotStop (.reg w fr au) n) s (fun t =>
         t.slotState n = s.slotState n ∧ t.get (Reg.ENC_BS_RUN_LAST_STATUS n.val) = 0x1305))) ∧
     (∀ (d : Desc) (n : Fin 4), s.Accepts slotCmdSpec d → d.p 32 1 = 2 → s.slotState d.objIndex.toNat = slotRunning →
       Completes (.slotStop (.desc d) n) s (fun t => s.Answers t d 0 ∧ t.slotState d.objIndex.toNat = slotStopping)) ∧
     (∀ (d : Desc) (n : Fin 4) (l : List UnitId), s.Accepts slotCmdSpec d → 4 ≤ d.p 32 1 → ∀ c,
       c = Instr.slotStart (.desc d) n l ∨ c = Instr.slotStop (.desc d) n ∨ c = Instr.slotCommit (.desc d) n →
       Completes c s (fun t => s.Answers t d 0x1305)) ∧
     (∀ n : Fin 4, s.stopDone n = true → Completes (.slotStopDone n) s (fun t => t.slotState n = slotStopped ∧ (t.slot n).faces = []))) ∧
  (∀ (w : Writer) (fr au : Bool) (n : Fin 4) (s : State), s.mayWrite w (Reg.ENC_BS_RUN_CMD n.val).off = true → s.mayCommand n w = true →
     let u := s.setAll [(Reg.ENC_BS_RUN_FREERUN_OK n.val, if fr then 1 else 0), (Reg.ENC_BS_RUN_AUTOSTART n.val, if au then 1 else 0)]
     (refuses (u.commitCode n) = false → Completes (.slotCommit (.reg w fr au) n) s (fun t =>
       t.slotKind n = s.get (Reg.ENC_BS_FORMAT_KIND n.val) % 2 ^ fieldWidth (Reg.ENC_BS_FORMAT_KIND n.val) ∧
       t.cfg Reg.ENC_BS_COLS_PER_ENG n = s.get (Reg.ENC_BS_COLS_PER_ENG n.val) % 2 ^ fieldWidth (Reg.ENC_BS_COLS_PER_ENG n.val) ∧
       t.get (Reg.ENC_BS_RUN_LAST_STATUS n.val) = u.commitCode n % 2 ^ 16 ∧ (s.slotState n = slotIdle → t.slotState n = slotStopped))) ∧
     (refuses (u.commitCode n) = true → Completes (.slotCommit (.reg w fr au) n) s (fun t =>
       t.get (Reg.ENC_BS_RUN_LAST_STATUS n.val) = u.commitCode n % 2 ^ 16 ∧ t.slotState n = s.slotState n ∧ t.slots = s.slots ∧
       t.slotKind n = s.slotKind n)))

/-! ## Ingest (chapter 05) -/

/-- Enabling a receiver whose checks pass enables it on the written paths; a check that fails leaves it disabled and shows its code. Disabling
it forgets what it received; a write that keeps an enabled receiver on turns off the path it leaves out (R144 to R147). At most eight
lanes carry ingest: a mask of eight or fewer is taken, another refused with 0x1502 (R144). -/
def Obligations.ReceiversAndIngestLanesAreChecked : Prop :=
  (∀ (w : Writer) (r : Fin 60) (path1 path0 : Bool) (pt : BitVec 7) (s : State), s.mayWrite w (Reg.ING_RX_ENABLE r.val).off = true →
     (s.on (Reg.ING_RX_ENABLE r.val) = false → s.enableCode r (pathsOf path1 path0) pt.toNat = 0 →
       Completes (.receiverEnable w r path1 path0 pt) s (fun t => t.Reads [(Reg.ING_RX_ENABLE r.val, 1),
         (Reg.ING_RX_PATH1_EN r.val, if path1 then 1 else 0), (Reg.ING_RX_PATH0_EN r.val, if path0 then 1 else 0), (Reg.ING_RX_PT r.val, pt.toNat),
         (Reg.ING_RX_LAST_STATUS r.val, 0)])) ∧
     (∀ c, s.on (Reg.ING_RX_ENABLE r.val) = false → s.enableCode r (pathsOf path1 path0) pt.toNat = c → c ≠ 0 → c < 2 ^ 16 →
       Completes (.receiverEnable w r path1 path0 pt) s (fun t => t.Reads [(Reg.ING_RX_ENABLE r.val, 0), (Reg.ING_RX_LAST_STATUS r.val, c)])) ∧
     Completes (.receiverDisable w r false path1 path0 pt) s (fun t => t.rcv r = Rx.reset ∧ t.get (Reg.ING_RX_ENABLE r.val) = 0) ∧
     (s.on (Reg.ING_RX_ENABLE r.val) = true → Completes (.receiverDisable w r true path1 path0 pt) s (fun t =>
       t.Reads [(Reg.ING_RX_ENABLE r.val, 1), (Reg.ING_RX_PATH1_EN r.val, if path1 then 1 else 0),
         (Reg.ING_RX_PATH0_EN r.val, if path0 then 1 else 0)]))) ∧
  (∀ (w : Writer) (mask : BitVec 16) (s : State), s.mayWrite w Reg.ING_CTRL_LANE_MASK.off = true →
     (popcount 16 mask.toNat ≤ 8 → Completes (.ingLaneMaskWrite w mask) s (fun t =>
       t.Reads [(Reg.ING_CTRL_LANE_MASK, mask.toNat), (Reg.ING_CTRL_LAST_STATUS, 0)])) ∧
     (8 < popcount 16 mask.toNat → Completes (.ingLaneMaskWrite w mask) s (fun t =>
       t.Reads [(Reg.ING_CTRL_LANE_MASK, s.get Reg.ING_CTRL_LANE_MASK), (Reg.ING_CTRL_LAST_STATUS, 0x1502)])))

/-- A packet of an enabled receiver's path, its payload type the receiver's and nothing of it malformed (R143, R158). A video packet that comes
into an open picture with a buffer, neither duplicate nor late, is accepted: its path is UP, its sequence number noted, and its rows'
samples are written to the picture's buffer where R153 and R154 place them, no Safety Net area being touched. An ANC packet stands in the
store's next entry (R148, R150 to R157). A malformed packet is counted in FMT_ERR_CNT, a duplicate one in DUP_CNT and a video packet behind
the window or into a closed picture in LATE_CNT, and nothing of them is stored (R150, R158). At the closing timeout no picture stays open
whose instant has come (R156); a path without a packet for LOSS_MS goes DOWN, counted and raised as 0x6503 (R152); an unmatched frame on
an ACTIVE port is counted outside BRIDGE (R143); an IGMP query that one multicast path's group answers sends that path's report into the
control queue (R145). -/
def Obligations.PacketsLandOrAreCounted : Prop :=
  (∀ s : State,
     (∀ (r : Fin 32) (p : Fin 2) (x : VideoPacket) (q : RxPic) (b : Nat),
       s.takesFlow r p x.flow = true → s.checkUnit 2 3 r = none → s.badHead r (s.videoHead r x) = false →
       (s.rcv r).judge (extendSeq 32 (s.rcv r).newest x.seq.toNat) = 0 → s.timeError (s.rtpDt 90000 x.ts.toNat) = false →
       (s.rcv r).pics.find? (fun q => q.ts == x.ts.toNat) = some q → q.buf = some b → q.isOpen = true → s.picExpired r q.cap = false →
       let writes := x.rows.flatMap (fun row => (rowPlanes (s.get (Reg.ING_RX_FMT_SAMPLING r.val)) row).map (fun e =>
         (s.rowAddr r b e.1 row.line.toNat row.off.toNat,
          (e.2.take row.len.toNat).flatMap (sampleBytes (s.get (Reg.ING_RX_FMT_DEPTH r.val))))))
       (∀ e ∈ writes, s.safAreaMeets e.1 e.2.length = none) →
       Completes (.videoPacketRx r p x) s (fun t => t.on (pathUp r p) = true ∧
         (t.rcv r).newest = ((s.rcv r).accept (extendSeq 32 (s.rcv r).newest x.seq.toNat)).newest ∧
         t.mem = writes.foldl (fun (m : List Host.Cell) e => Memory.writeAll m e.1 e.2) s.mem)) ∧
     (∀ (r : Fin 8) (p : Fin 2) (x : AncPacket) (a : Anc),
       s.takesFlow (48 + r) p x.flow = true → s.checkUnit 2 3 (48 + r) = none → x.malformed = false →
       x.pt.toNat = s.get (Reg.ING_RX_PT (48 + r.val)) →
       (s.rcv (48 + r)).judge (extendSeq 16 (s.rcv (48 + r)).newest x.seq.toNat) = 0 → s.timeError (s.rtpDt 90000 x.ts.toNat) = false →
       x.ancs = [a] →
       let e := ancEntry (s.rtpDt 90000 x.ts.toNat) a
       let addr := (s.storeArea (48 + r)).base + (s.rcv (48 + r)).anc % 2 ^ s.get (Reg.ING_RX_NFMT_ANC_LOG2 (48 + r)) * 1024
       s.safAreaMeets addr e.length = none →
       Completes (.ancPacketRx r p x) s (fun t => (t.rcv (48 + r)).anc = (s.rcv (48 + r)).anc + 1 ∧
         (∀ i, (h : i < e.length) → Memory.read t.mem (addr + i) = e[i]) ∧
         ∀ y, ¬ (addr ≤ y ∧ y < addr + e.length) → Memory.read t.mem y = Memory.read s.mem y))) ∧
  (∀ (p : Fin 2) (s : State),
     (∀ (r : Fin 8) (x : AncPacket), s.takesFlow (48 + r) p x.flow = true → s.checkUnit 2 3 (48 + r) = none →
       (x.malformed = true ∨ x.pt.toNat ≠ s.get (Reg.ING_RX_PT (48 + r.val)) →
         Completes (.ancPacketRx r p x) s (fun t => s.Counted t (Reg.ING_RX_FMT_ERR_CNT (48 + r.val)) ∧ t.mem = s.mem)) ∧
       (x.malformed = false → x.pt.toNat = s.get (Reg.ING_RX_PT (48 + r.val)) →
         (s.rcv (48 + r)).judge (extendSeq 16 (s.rcv (48 + r)).newest x.seq.toNat) = 1 →
         Completes (.ancPacketRx r p x) s (fun t => t.mem = s.mem ∧
           t.get64 (Reg.ING_RX_DUP_CNT_LO (48 + r.val)) (Reg.ING_RX_DUP_CNT_HI (48 + r.val)) =
             min (s.get64 (Reg.ING_RX_DUP_CNT_LO (48 + r.val)) (Reg.ING_RX_DUP_CNT_HI (48 + r.val)) + 1) (2 ^ 64 - 1)))) ∧
     (∀ (r : Fin 32) (x : VideoPacket), s.takesFlow r p x.flow = true → s.checkUnit 2 3 r = none →
       let j := (s.rcv r).judge (extendSeq 32 (s.rcv r).newest x.seq.toNat)
       let q := (s.rcv r).pics.find? (fun q => q.ts == x.ts.toNat)
       (s.badHead r (s.videoHead r x) = true →
         Completes (.videoPacketRx r p x) s (fun t => s.Counted t (Reg.ING_RX_FMT_ERR_CNT r.val) ∧ t.mem = s.mem)) ∧
       (s.badHead r (s.videoHead r x) = false → (∀ y, q = some y → y.buf.isSome = true) → j = 1 →
         Completes (.videoPacketRx r p x) s (fun t => t.mem = s.mem ∧
           t.get64 (Reg.ING_RX_DUP_CNT_LO r.val) (Reg.ING_RX_DUP_CNT_HI r.val) =
             min (s.get64 (Reg.ING_RX_DUP_CNT_LO r.val) (Reg.ING_RX_DUP_CNT_HI r.val) + 1) (2 ^ 64 - 1))) ∧
       (s.badHead r (s.videoHead r x) = false → (∀ y, q = some y → y.buf.isSome = true) →
         j = 2 ∨ (j = 0 ∧ s.timeError (s.rtpDt 90000 x.ts.toNat) = false ∧ s.videoLate r x.ts.toNat q = true) →
         Completes (.videoPacketRx r p x) s (fun t => s.Counted t (Reg.ING_RX_LATE_CNT r.val) ∧ t.mem = s.mem)))) ∧
  (∀ s : State,
     (∀ r : Fin 32, Completes (.pictureCloseTimeout r) s (fun t =>
       ∀ q ∈ (t.rcv r).pics, q.isOpen = true → s.picExpired r q.cap = false)) ∧
     (∀ (r : Fin 60) (p : Fin 2) (k : Nat), s.lastSeen r p = some k → k + s.get (Reg.ING_RX_LOSS_MS r) * 1000 * ticksPerUs ≤ s.lc →
       s.on (pathUp r p) = true → Completes (.pathLossTimeout r p) s (fun t =>
         t.get (pathUp r p) = 0 ∧ s.Counted t (Reg.ING_RX_PATH_DOWN_CNT r.val) ∧ t.Latches 0x6503)) ∧
     (∀ i : Fin 16, s.portActive (s.portOf i) = true → s.mode ≠ 4 → Completes (.unmatchedFrameRx i) s (fun t =>
       s.Counted t (Reg.ING_LANE_UNMATCHED_CNT i.val))) ∧
     (∀ (i : Fin 16) (g : BitVec 32) (r : Fin 60) (p : Fin 2),
       let k := s.portOf i
       s.receivesPath r p = true → s.portOf (s.get (Reg.ING_RX_PATH_LANE r.val p.val)) = k →
       s.get (Reg.ING_RX_GROUP r.val p.val) = g.toNat → isMulticast g.toNat = true →
       (∀ (m : Fin 60) (q : Fin 2), (m, q) ≠ (r, p) →
         ¬ (s.receivesPath m q = true ∧ s.portOf (s.get (Reg.ING_RX_PATH_LANE m.val q.val)) = k)) →
       let c := s.get (Reg.CAR_P_CTRL_CLASS k)
       (s.settleMeters k).meterMode (8 * k + c) ≠ 2 → framesLen (s.frames k c) + smallFrame ≤ s.get (Reg.CAR_P_Q_QMAX_KB k c) * 1024 →
       s.portBytes k + smallFrame ≤ s.portBuffer k →
       Completes (.igmpQueryRx i (.group g)) s (fun t => t.frames k c = s.frames k c ++
         [{ frame := .igmpReport g.toNat (s.get (Reg.ING_RX_SRC r.val p.val)), len := smallFrame, stamp := s.lc, row := none, eligible := true,
            cover := none, tc := none }])))

/-! ## The Safety Net and the compositors (chapters 06 and 07) -/

/-- An accepted SAF_LOAD waits for its checking, after those started before it and, in its own cycle, those of rings with a lower ID. A package that passes every check of R196 is held: its sequence number is the object's last,
its bytes stand where R203 places them, a content package is pending, a policy is in force, a key package replaces the key. A package that
fails is counted and shown with its code, and the slot's Safety Net stays. The first key is enrolled by the PF in SERVICE (R193, R194). A
Safety Net area that R203 allows takes the address written with LAST_STATUS 0; another stays, with 0x1702. A write that would change a
protected area is dropped: counted, and memory stays (R204). -/
def Obligations.SafetyNetHoldsAndProtects : Prop :=
  (∀ s : State,
     (∀ d : Desc, s.Accepts safLoadSpec d → Completes (.safLoad d) s (fun t => ∃ k : Ticket, k.rid = d.rid.val ∧ k.cookie = d.cookie.toNat ∧
       (t.saf d.objIndex.toNat).checking = queueCheck ⟨k, s.lc, d.p 40 4, d.bytes⟩ (s.saf d.objIndex.toNat).checking)) ∧
     (∀ (k : Fin 5) (x : Ticket) (c : Nat) (l : List Byte) (rest : List SafCheck), (s.saf k).checking = ⟨x, c, l.length, l⟩ :: rest →
       let u := s.setSaf k { s.saf k with checking := rest }
       (u.pkgCode k l = 0 → Completes (.safPackageChecked k) s (fun t => (t.saf k).checking = rest ∧ (t.saf k).lastSeq = pkgSeq l ∧
         (pkgKind l = 0 → ∃ q, (t.saf k).pend = some q ∧ q.seq = pkgSeq l ∧ q.from_ = pkgFrom l ∧ q.until_ = pkgUntil l ∧
           ∀ i, (h : i < l.length) → Memory.read t.mem (s.safAddr k q.part + i) = l[i]) ∧
         (pkgKind l = 1 → (t.saf k).policy.held = true ∧ (t.saf k).policy.panels = pkgPanels l ∧
           ∀ i, (h : i < l.length) → Memory.read t.mem (s.safAddr k 2 + i) = l[i]) ∧
         (pkgKind l = 2 → t.safKey = some (beNat ((l.drop 64).take 64))))) ∧
       (u.pkgCode k l ≠ 0 → k.val < 4 → Completes (.safPackageChecked k) s (fun t =>
         t.saf k = { s.saf k with checking := rest } ∧ s.Counted t (Reg.SAF_SLOT_REFUSED_CNT k.val) ∧
         t.get (Reg.SAF_SLOT_STATE_LAST_STATUS k.val) = u.pkgCode k l))) ∧
     (∀ d : Desc, s.Accepts safEnrollSpec d →
       (s.submitter d = 0 ∧ s.mode = 0 ∧ s.safKey = none → Completes (.safEnroll d) s (fun t =>
         s.Answers t d 0 ∧ t.safKey = some (beNat (d.bytes.take 64)))) ∧
       (¬ (s.submitter d = 0 ∧ s.mode = 0 ∧ s.safKey = none) → Completes (.safEnroll d) s (fun t =>
         s.Answers t d 0x8704 ∧ t.safKey = s.safKey)))) ∧
  (∀ s : State,
     (∀ (w : Writer) (n : Fin 4) (v : BitVec 27), s.mayWrite w (Reg.SAF_SLOT_AREA_BASE n.val).off = true →
       let held := (s.saf n).cur.isSome || (s.saf n).pend.isSome || (s.saf n).policy.held
       let ok := (s.slotState n = slotIdle ∨ s.slotState n = slotStopped) ∧ held = false ∧
         (v = 0 ∨ s.areaOk (fun t => t == tagSaf n) ⟨tagSaf n, v.toNat * 4096, safAreaBytes⟩ = true)
       (ok → Completes (.safAreaWrite w n v) s (fun t => t.Reads [(Reg.SAF_SLOT_AREA_BASE n.val, v.toNat), (Reg.SAF_SLOT_STATE_LAST_STATUS n.val, 0)])) ∧
       (¬ ok → Completes (.safAreaWrite w n v) s (fun t => t.Reads
         [(Reg.SAF_SLOT_AREA_BASE n.val, s.get (Reg.SAF_SLOT_AREA_BASE n.val)), (Reg.SAF_SLOT_STATE_LAST_STATUS n.val, 0x1702)]))) ∧
     (∀ (o : Fin 16) (a : BitVec 39) (n : Nat), s.safAreaMeets a.toNat 1 = some n → Completes (.protectedWriteDrop o a) s (fun t =>
       s.Counted t Reg.SAF_PROTECT_CNT ∧ t.mem = s.mem ∧ (s.limitOpen 0x8713 0 = true → t.Latches 0x8713))))

/-- A compositor commit that R190 refuses shows its code and changes no configuration. An accepted one shows its status; on a slot that is
STARTING or RUNNING it waits, with a copy of what was written, for the next picture, and on any other slot every shadowed field is in
force at once. CMP_COMMIT does the same and, where nothing waits, completes with the status (R189). -/
def Obligations.CompositorCommitsApplyOrAreRefused : Prop :=
  ∀ s : State,
    (∀ (w : Writer) (n : Fin 4), s.mayWrite w (Reg.CMP_SLOT_COMMIT_COMMIT n.val).off = true →
      let waits := s.slotState n = slotRunning ∨ s.slotState n = slotStarting
      (refuses (s.cmpCode n) = true → Completes (.cmpSlotCommit w n) s (fun t => t.get (Reg.CMP_SLOT_COMMIT_LAST_STATUS n.val) = s.cmpCode n ∧
        ∀ f ∈ cmpFields n, t.get (bank 1 f) = s.get (bank 1 f) ∧ t.get (bank 2 f) = s.get (bank 2 f))) ∧
      (refuses (s.cmpCode n) = false → waits → Completes (.cmpSlotCommit w n) s (fun t =>
        t.get (Reg.CMP_SLOT_COMMIT_LAST_STATUS n.val) = s.cmpCode n ∧ (t.cmp n).pendAt = some s.lc ∧
        ∀ f ∈ cmpFields n, t.get (bank 1 f) = s.get (bank 1 f) ∧ t.get (bank 2 f) = s.get f % 2 ^ fieldWidth f)) ∧
      (refuses (s.cmpCode n) = false → ¬ waits → Completes (.cmpSlotCommit w n) s (fun t =>
        t.get (Reg.CMP_SLOT_COMMIT_LAST_STATUS n.val) = s.cmpCode n ∧ ∀ f ∈ cmpFields n, t.get (bank 1 f) = s.get f % 2 ^ fieldWidth f))) ∧
    (∀ d : Desc, s.Accepts cmpCommitSpec d →
      let n := d.objIndex.toNat
      let waits := s.slotState n = slotRunning ∨ s.slotState n = slotStarting
      (refuses (s.cmpCode n) = true → Completes (.cmpCommit d) s (fun t => s.Answers t d (s.cmpCode n) ∧
        ∀ f ∈ cmpFields n, t.get (bank 1 f) = s.get (bank 1 f))) ∧
      (refuses (s.cmpCode n) = false → waits → Completes (.cmpCommit d) s (fun t => (t.cmp n).pendAt = some s.lc ∧
        (∃ k : Ticket, (t.cmp n).tickets = (s.cmp n).tickets ++ [k] ∧ k.rid = d.rid.val ∧ k.cookie = d.cookie.toNat) ∧
        ∀ f ∈ cmpFields n, t.get (bank 1 f) = s.get (bank 1 f) ∧ t.get (bank 2 f) = s.get f % 2 ^ fieldWidth f)) ∧
      (refuses (s.cmpCode n) = false → ¬ waits → Completes (.cmpCommit d) s (fun t => s.Answers t d (s.cmpCode n) ∧
        ∀ f ∈ cmpFields n, t.get (bank 1 f) = s.get f % 2 ^ fieldWidth f)))

/-- A loaded surface stands at the layer's back surface until it swaps, no Safety Net area being touched; one too long and one beside a load
under way are refused. Its copy ends once. A loaded table is held and stands in the slot's table area, and one that an enabled layer uses is
refused. A flattened Bench run stands in the Bench area with the classes of its tiles, and a composed row has its lines (R166, R167, R176,
R178, R183, R184). -/
def Obligations.SurfacesTablesAndRowsAct : Prop :=
  ∀ s : State,
    (∀ d : Desc, s.Accepts surfaceSpec d →
      let n := d.objIndex.toNat / 16
      let l := d.objIndex.toNat % 16
      let most := s.get (bank 1 (Reg.CMP_L_INDEX_OR_PITCH n l)) * 64 * s.get (bank 1 (Reg.CMP_L_SURF_H n l))
      let data := d.bytes.take (d.p 40 4)
      (most < d.p 40 4 → Completes (.surfaceLoad d) s (fun t => s.Answers t d 0x3402)) ∧
      (d.p 40 4 ≤ most → (s.layer n l).load.isSome = true → Completes (.surfaceLoad d) s (fun t => s.Answers t d 0x2601 ∧ t.mem = s.mem)) ∧
      (d.p 40 4 ≤ most → (s.layer n l).load = none → s.safAreaMeets (s.backBase n l) data.length = none → Completes (.surfaceLoad d) s (fun t =>
        (∃ k : Ticket, (t.layer n l).load = some (k, none) ∧ k.rid = d.rid.val ∧ k.cookie = d.cookie.toNat) ∧
        t.get (Reg.CMP_L_LOAD_PENDING n l) = 1 ∧ (∀ i, (h : i < data.length) → Memory.read t.mem (s.backBase n l + i) = data[i]) ∧
        ∀ a, a < s.backBase n l ∨ s.backBase n l + data.length ≤ a → Memory.read t.mem a = Memory.read s.mem a))) ∧
    (∀ (n : Fin 4) (l : Fin 16) (k : Ticket), (s.layer n l).load = some (k, none) → Completes (.surfaceCopyDone n l) s (fun t =>
      (t.layer n l).load = some (k, some s.lc))) ∧
    (∀ d : Desc, s.Accepts tableSpec d →
      let n := d.objIndex.toNat
      let k := d.p 40 1
      let data := d.bytes.take (tablePlace k).2
      let at_ := s.get (bank 1 (Reg.CMP_SLOT_TABLE_BASE n)) * 4096 + (tablePlace k).1
      (s.tableUsed n k = true → Completes (.tableLoad d) s (fun t => s.Answers t d 0x2603 ∧ t.mem = s.mem)) ∧
      (s.tableUsed n k = false → Completes (.tableLoad d) s (fun t => s.Answers t d 0 ∧ (k < 4 → bit (t.cmp n).luts k = true) ∧
        Table.find (t.cmp n).tables k = some data ∧
        (s.get (bank 1 (Reg.CMP_SLOT_TABLE_BASE n)) ≠ 0 → s.safAreaMeets at_ data.length = none → (∀ i, (h : i < data.length) → Memory.read t.mem (at_ + i) = data[i]) ∧
          ∀ a, a < at_ ∨ at_ + data.length ≤ a → Memory.read t.mem a = Memory.read s.mem a)))) ∧
    (∀ (n : Fin 4) (b : Bench), (s.cmp n).bench = some b → b.done = none →
      let w := (s.canvas n).1
      let h := (s.canvas n).2
      let lines := (List.range h).map (fun y => (s.benchAddr n y, (List.range w).flatMap (fun x => benchBytes (s.benchPixel n x y b.layers))))
      Completes (.benchFlattenDone n) s (fun t => s.Counted t (Reg.CMP_SLOT_BCNT_BENCH_FLAT_CNT n.val) ∧
        (t.cmp n).bench = some { b with done := some s.lc, tiles := (List.range (tilesOf h)).flatMap (fun ty =>
          (List.range (tilesOf w)).map (fun tx => s.tileClass n b.layers tx ty)) } ∧
        ((∀ e ∈ lines, s.safAreaMeets e.1 e.2.length = none) →
          t.mem = lines.foldl (fun (m : List Host.Cell) e => Memory.writeAll m e.1 e.2) s.mem))) ∧
    (∀ (n : Fin 4) (p : EncPic) (k : Nat), s.rowToCompose n = some (p, k) → s.due 1 (instant (s.c0 n p.allow p.n + k * s.encPr 1 n)) = true →
      let u := ((s.enabledLayers 1 n).filter isVideoLayer).foldl
        (fun (t : State) l => t.judgeLines n l (128 * k) (min (128 * (k + 1)) (s.canvas n).2)) s
      Completes (.composeRow n) s (fun t => (t.slot n).pics = (s.slot n).pics.map (fun q =>
        if q.n = p.n then { p with rows := p.rows.modify k (fun r => { r with composed := true, lines := u.composedLines n k }) } else q)))

/-! ## Lanes and Aknis Link (chapter 12) -/

/-- A write of LANE_i_CFG or LANE_i_TEST that a check of R306 to R308, R319 or R322 refuses shows its code and the register stays; one that is
accepted takes effect field by field, a lane whose ENABLE or MODE changes is DOWN or begins bring-up, a lane whose TEST_EN is set is in
TEST with its error counter cleared. A port's MAC takes the value written, but for a group address (R325). -/
def Obligations.LaneWritesTakeEffectOrAreRefused : Prop :=
  ∀ (s : State) (w : Writer) (i : Fin 16) (v : BitVec 32),
    (s.mayWrite w (Reg.LANE_CFG_MODE i.val).off = true →
      (s.laneCfgCode i v.toNat ≠ 0 → Completes (.laneCfgWrite w i v) s (fun t =>
        t.get (Reg.LANE_STATUS_LAST_STATUS i.val) = s.laneCfgCode i v.toNat ∧ ∀ e ∈ laneCfgFields i v.toNat, t.get e.1 = s.get e.1)) ∧
      (s.laneCfgCode i v.toNat = 0 → Completes (.laneCfgWrite w i v) s (fun t => t.Reads (laneCfgFields i v.toNat) ∧
        (bits v.toNat 31 31 ≠ s.get (Reg.LANE_CFG_ENABLE i.val) ∨ bits v.toNat 27 24 ≠ s.laneMode i →
          t.laneState i = laneDown ∨ t.laneState i = laneDetect)))) ∧
    (s.mayWrite w (Reg.LANE_TEST_TEST_EN i.val).off = true →
      let sets := bits v.toNat 31 31 = 1 ∧ s.get (Reg.LANE_TEST_TEST_EN i.val) = 0
      let c : Code := if sets ∧ s.laneFenced i then 0x1C03
        else if bits v.toNat 30 28 = 7 ∨ bits v.toNat 27 25 = 7 ∨ (sets ∧ s.laneMode i = 0) then 0x1C01
        else if sets ∧ s.laneInUse i then 0x1C04 else 0
      (c ≠ 0 → Completes (.laneTestWrite w i v) s (fun t =>
        t.get (Reg.LANE_STATUS_LAST_STATUS i.val) = c ∧ ∀ e ∈ laneTestFields i v.toNat, t.get e.1 = s.get e.1)) ∧
      (c = 0 → Completes (.laneTestWrite w i v) s (fun t => t.Reads (laneTestFields i v.toNat) ∧ t.get (Reg.LANE_ERR_CNT i.val) = 0 ∧
        (sets → t.laneState i = laneTest)))) ∧
    (∀ high : Bool, s.mayWrite w (Reg.LANE_MAC_LO i.val).off = true →
      let f := if high then Reg.LANE_MAC_HI i.val else Reg.LANE_MAC_LO i.val
      (high = true ∧ bit v.toNat 8 = true → Completes (.laneMacWrite w i high v) s (fun t =>
        t.get (Reg.LANE_STATUS_LAST_STATUS i.val) = 0x1C01 ∧ t.get f = s.get f)) ∧
      (¬ (high = true ∧ bit v.toNat 8 = true) → Completes (.laneMacWrite w i high v) s (fun t => t.get f = v.toNat % 2 ^ fieldWidth f)))

/-- A lane comes up step by step (R310, R311, R314): a sensed termination or a completed autonegotiation brings it to TRAIN, a training frame
is answered and its readiness noted, both sides' readiness brings bit lock, an Ethernet lane's alignment markers ACTIVE with 0x0C01.
Training and lock timeouts fail it with 0x6C02 until its retry (R315). The loss of the far end brings a serving lane down, a link fault
and the end of slot lock's grace bring it to TRAIN, with 0x6C01; the first two are counted (R316). A lost reference clock brings every
lane of its quad down with 0x5C01, and its return marks it present and restarts the quad's tests (R313, R322). -/
def Obligations.LanesTrainLockAndAreLost : Prop :=
  (∀ (s : State) (i : Fin 16),
     (s.laneState i = laneDetect → (s.isEth i = false ∨ s.on (Reg.LANE_CFG_AN_EN i.val) = false → Completes (.terminationSense i true) s (fun t =>
         t.laneState i = laneTrain)) ∧
       (s.isEth i = true → s.on (Reg.LANE_CFG_AN_EN i.val) = true → Completes (.terminationSense i true) s (fun t =>
         (t.lane i).sensed = true ∧ t.laneState i = laneDetect) ∧
         ((s.lane i).sensed = true → Completes (.autonegComplete i) s (fun t => t.laneState i = laneTrain)))) ∧
     (∀ x : TrainFrame, s.laneState i = laneTrain → Completes (.trainingFrameRx i x) s (fun t =>
       (t.lane i).peerReady = x.ready ∧ (t.lane i).selfReady = x.own ∧ (t.lane i).precode = x.precode ∧
       (s.on (Reg.LANE_CFG_FFE_MODE i.val) = true → t.get (Reg.LANE_FFE_PRE i.val) = s.get (Reg.LANE_FFE_PRE i.val) ∧
         t.get (Reg.LANE_FFE_POST i.val) = s.get (Reg.LANE_FFE_POST i.val)) ∧
       (s.on (Reg.LANE_CFG_FFE_MODE i.val) = false → t.Reads
         [(Reg.LANE_FFE_PRE i.val, (tapStep (s.get (Reg.LANE_FFE_PRE i.val)) x.pre).1 % 2 ^ fieldWidth (Reg.LANE_FFE_PRE i.val)),
          (Reg.LANE_FFE_POST i.val, (tapStep (s.get (Reg.LANE_FFE_POST i.val)) x.post).1 % 2 ^ fieldWidth (Reg.LANE_FFE_POST i.val))]))) ∧
     (s.bothReady i = true → Completes (.bitLock i) s (fun t => t.laneState i = laneBitLock)) ∧
     (s.laneState i = laneBitLock → s.isEth i = true → Completes (.amLock i) s (fun t => t.laneState i = laneActive ∧ t.Latches 0x0C01)) ∧
     (∀ c, (c = Instr.trainTimeout i ∧ s.laneState i = laneTrain) ∨ (c = Instr.lockTimeout i ∧ (s.bothReady i = true ∨ s.laneState i = laneBitLock)) →
       Completes c s (fun t => t.laneState i = laneDown ∧ (t.lane i).failed = true ∧ s.Counted t (Reg.LANE_TRAIN_FAIL_CNT i.val) ∧ t.Latches 0x6C02)) ∧
     ((s.lane i).failed = true → Completes (.trainRetry i) s (fun t => (t.lane i).failed = false))) ∧
  (∀ s : State,
     (∀ i : Fin 16,
       (s.laneServing i = true → Completes (.farEndLoss i) s (fun t => (t.laneState i = laneDown ∨ t.laneState i = laneDetect) ∧
         s.Counted t (Reg.LANE_LOCK_LOSS_CNT i.val) ∧ t.Latches 0x6C01)) ∧
       (s.laneState i = laneActive → s.isEth i = true → Completes (.ethLinkFault i) s (fun t => t.laneState i = laneTrain ∧
         s.Counted t (Reg.LANE_LOCK_LOSS_CNT i.val) ∧ t.Latches 0x6C01)) ∧
       (s.laneState i = laneSymbolLock → (s.lane i).relock = true → Completes (.slotLockTimeout i) s (fun t =>
         t.laneState i = laneTrain ∧ t.Latches 0x6C01))) ∧
     (∀ q : Fin 4, Completes (.refclkLoss q) s (fun t => (∀ i : Fin 16, i.val / 4 = q.val → t.laneState i = laneDown) ∧
       bit (t.get Reg.LANE_REFSTAT_OK) q = false ∧ bit (t.get Reg.LANE_REFSTAT_LOST) q = true ∧ t.Latches 0x5C01)) ∧
     (∀ q : Fin 4, bit (s.get Reg.LANE_REFSTAT_OK) q = false → Completes (.refclkReturn q) s (fun t => bit (t.get Reg.LANE_REFSTAT_OK) q = true ∧
       ∀ i : Fin 16, i.val / 4 = q.val → s.on (Reg.LANE_TEST_TEST_EN i.val) = true →
         t.laneState i = laneTest ∧ t.get (Reg.LANE_ERR_CNT i.val) = 0)))

/-- Aknis Link brings a lane from its header slots to a measured chain (R328, R334 to R336): the eighth good header in a row begins CAP with
the device's offer, a fourth bad one in 64 loses slot lock, a usable offer of a peer makes the lane ACTIVE at the highest common version,
an enumeration that names a version starts the echo exchange, each answer asks the next, an exchange that fails four times falls back to
TRAIN. LANE_RETRAIN and AKN_SEND are refused as R318 and R338 say, or the lane retrains and the message waits for its answer; an answer
and its timeout take the message off, and one without a message is a violation. While the lane's engine is being reloaded the exchange
waits and no answer is taken (R465). Checker synchronisation, an ARP request, a PAUSE frame and
a frame with a bad FCS have the effects of R320, R323 and R325. -/
def Obligations.LinkMessagesAndFramesAct : Prop :=
  (∀ (s : State) (i : Fin 16),
     (∀ h : LinkHeader, s.isAkn i = true → laneBitLock ≤ s.laneState i → s.laneState i < laneTest →
       (h.hcrc = false → Completes (.headerSlotRx i h) s (fun t => s.Counted t (Reg.AKN_HCRC_ERR_CNT i.val))) ∧
       (h.hcrc = false → s.laneState i = laneCap ∨ s.laneState i = laneActive → 4 ≤ (((true :: (s.lane i).heads).take 64).filter id).length →
         Completes (.headerSlotRx i h) s (fun t => t.laneState i = laneSymbolLock ∧ s.Counted t (Reg.LANE_LOCK_LOSS_CNT i.val) ∧
           (t.lane i).relock = true)) ∧
       (h.hcrc = true → s.laneState i = laneBitLock ∨ s.laneState i = laneSymbolLock → 7 ≤ (s.lane i).good →
         Completes (.headerSlotRx i h) s (fun t => t.laneState i = laneCap ∧ (s.linkReloading i = false → s.Sent t (fun o => o = .link i
           (.capOffer (if s.laneMode i = 5 then 2 else 0) (s.get (Reg.AKN_CTRL_VERSIONS i.val)) 0x4816 (s.ownMirror i) 512 0)))))) ∧
     (s.linkReloading i = true → (∀ (tile : Fin 64) (o : CapOffer), Completes (.capOfferRx i tile o) s (fun t => t = s)) ∧
       (∀ (count : Fin 65) (v : BitVec 8), Completes (.capEnumRx i count v) s (fun t => t = s)) ∧
       (∀ (tag : BitVec 16) (v : BitVec 32) (st : BitVec 16), Completes (.ctrlRespRx i tag v st) s (fun t => t = s))) ∧
     (∀ (tile : Fin 64) (o : CapOffer), s.linkReloading i = false →
       (s.isAkn i = true → s.laneState i = laneActive → Completes (.capOfferRx i tile o) s (fun t => s.Counted t (Reg.AKN_PROTO_CNT i.val))) ∧
       (s.laneMode i = 5 → s.laneState i = laneCap → o.role = 2 → o.part = 0x4816 ∨ o.part = 0x2408 →
         let v := highestVersion (o.versions.toNat &&& s.get (Reg.AKN_CTRL_VERSIONS i.val))
         v ≠ 0 → Completes (.capOfferRx i tile o) s (fun t => t.laneState i = laneActive ∧ t.get (Reg.AKN_STATUS_VERSION i.val) = v ∧
           (t.lane i).mirror = o.mirror.toNat ∧ (t.lane i).control = o.control.toNat ∧ t.Latches 0x0C01 ∧
           s.Sent t (fun m => m = .link i (.capSet v))))) ∧
     (∀ (count : Fin 65) (v : BitVec 8), s.linkReloading i = false → s.laneMode i = 4 → s.laneState i = laneCap → (s.lane i).offer.isSome = true →
       s.get (Reg.AKN_STATUS_VERSION i.val) = 0 → v.toNat = 2 ∨ v.toNat = 3 → bit (s.get (Reg.AKN_CTRL_VERSIONS i.val)) v.toNat = true → count.val ≠ 0 →
       Completes (.capEnumRx i count v) s (fun t => t.Reads [(Reg.AKN_STATUS_TILES_FOUND i.val, count.val), (Reg.AKN_STATUS_VERSION i.val, v.toNat)] ∧
         (t.lane i).echo = some ⟨0, 0, 0, 0⟩ ∧ s.Sent t (fun o => o = .link i (.echo 0 s.lc)))) ∧
     (s.laneState i = laneCap → s.get (Reg.AKN_STATUS_VERSION i.val) = 0 → s.linkReloading i = false →
       Completes (.capRetry i) s (fun t => s.Sent t (fun o => o = .link i (.capOffer (if s.laneMode i = 5 then 2 else 0) (s.get (Reg.AKN_CTRL_VERSIONS i.val)) 0x4816 (s.ownMirror i) 512 0)))) ∧
     (∀ (e : Echo) (tile : Fin 64) (trip : Fin 1000000), (s.lane i).echo = some e → s.laneState i = laneCap → e.tile = tile.val →
       s.linkReloading i = false →
       (e.done + 1 < 16 → Completes (.echoRespRx i tile trip) s (fun t => (t.lane i).echo = some ⟨tile, e.done + 1, 0, e.sum + trip⟩ ∧
         s.Sent t (fun o => o = .link i (.echo tile s.lc)))) ∧
       (16 ≤ e.done + 1 → tile.val + 1 < s.get (Reg.AKN_STATUS_TILES_FOUND i.val) → Completes (.echoRespRx i tile trip) s (fun t =>
         (t.lane i).echo = some ⟨tile + 1, 0, 0, 0⟩ ∧ Table.find (t.lane i).trips tile = some (e.sum + trip)))) ∧
     (∀ e : Echo, (s.lane i).echo = some e →
       (e.tries < 3 → Completes (.echoTimeout i) s (fun t => (t.lane i).echo = some { e with tries := e.tries + 1 } ∧
         s.Sent t (fun o => o = .link i (.echo e.tile s.lc)))) ∧
       (3 ≤ e.tries → Completes (.echoTimeout i) s (fun t => t.laneState i = laneTrain ∧ t.Latches 0x6C01)))) ∧
  (∀ s : State,
     (∀ d : Desc, s.Accepts laneRetrainSpec d →
       let i := d.objIndex.toNat
       (s.laneFenced i = true → Completes (.laneRetrain d) s (fun t => s.Answers t d 0x1C03)) ∧
       (s.laneFenced i = false → s.laneMode i = 0 ∨ s.laneState i = laneTest → Completes (.laneRetrain d) s (fun t => s.Answers t d 0x1C01)) ∧
       (s.laneFenced i = false → s.laneMode i ≠ 0 → s.laneState i ≠ laneTest →
         (s.on (Reg.LANE_CFG_ENABLE i) = false → Completes (.laneRetrain d) s (fun t => s.Answers t d 0x2C01)) ∧
         (s.on (Reg.LANE_CFG_ENABLE i) = true → Completes (.laneRetrain d) s (fun t =>
           (∃ k : Ticket, (t.lane i).retrain = (s.lane i).retrain ++ [(k, s.lc)] ∧ k.rid = d.rid.val ∧ k.cookie = d.cookie.toNat) ∧
           (s.laneState i = laneActive → d.p 32 1 ≠ 1 → t.laneState i = laneTrain) ∧
           (s.laneState i = laneActive → d.p 32 1 = 1 → t.laneState i = laneDown ∨ t.laneState i = laneDetect))))) ∧
     (∀ d : Desc, s.Accepts aknSendSpec d →
       let i := d.objIndex.toNat
       (s.laneState i ≠ laneActive ∨ s.isAkn i = false → Completes (.aknSend d) s (fun t => s.Answers t d 0x1C01)) ∧
       (s.laneState i = laneActive → s.isAkn i = true → Completes (.aknSend d) s (fun t => (t.lane i).tag = ((s.lane i).tag + 1) % 2 ^ 16 ∧
         ∃ k : Ticket, (t.lane i).asked = (s.lane i).asked ++ [(k, (s.lane i).tag)] ∧ k.rid = d.rid.val ∧ k.cookie = d.cookie.toNat))) ∧
     (∀ (i : Fin 16) (tag : BitVec 16),
       (∀ (v : BitVec 32) (st : BitVec 16), s.laneState i = laneActive → s.isAkn i = true → s.linkReloading i = false →
         ((s.lane i).asked.find? (fun e => e.2 == tag.toNat) = none → Completes (.ctrlRespRx i tag v st) s (fun t =>
           s.Counted t (Reg.AKN_PROTO_CNT i.val))) ∧
         (∀ e, (s.lane i).asked.find? (fun e => e.2 == tag.toNat) = some e → Completes (.ctrlRespRx i tag v st) s (fun t =>
           (t.lane i).asked = (s.lane i).asked.erase e))) ∧
       (∀ e, (s.lane i).asked.find? (fun e => e.2 == tag.toNat) = some e → Completes (.ctrlResponseTimeout i tag) s (fun t =>
         (t.lane i).asked = (s.lane i).asked.erase e))) ∧
     (∀ (i : Fin 16) (a b : BitVec 32), s.laneState i = laneTest → s.get (Reg.LANE_TEST_RX_PAT i.val) ≠ 0 →
       Completes (.prbsCheckerSync i true a b) s (fun t => t.get (Reg.LANE_TEST_SYNC i.val) = 1) ∧
       (s.on (Reg.LANE_TEST_SYNC i.val) = true → Completes (.prbsCheckerSync i false a b) s (fun t => t.get (Reg.LANE_TEST_SYNC i.val) = 0 ∧
         s.Counted t (Reg.LANE_LOCK_LOSS_CNT i.val) ∧
         (b ≠ 0 → t.get (Reg.LANE_ERR_CNT i.val) = min (s.get (Reg.LANE_ERR_CNT i.val) + b.toNat) (fieldMax (Reg.LANE_ERR_CNT i.val)))))) ∧
     (∀ i : Fin 16, s.portActive i = true →
       Completes (.pauseFrameRx i) s (fun t => s.Counted t (Reg.LANE_PAUSE_CNT i.val)) ∧
       Completes (.badFcsFrameRx i) s (fun t => s.Counted t (Reg.LANE_FCS_ERR_CNT i.val)) ∧
       (∀ (ip : BitVec 32) (mac : BitVec 48), s.get (Reg.LANE_IPV4 i.val) ≠ ip.toNat → s.mode ≠ 4 → Completes (.arpRequestRx i ⟨ip, mac⟩) s
         (fun t => s.Counted t (Reg.ING_LANE_UNMATCHED_CNT i.val))) ∧
       (∀ (ip : BitVec 32) (mac : BitVec 48), s.get (Reg.LANE_IPV4 i.val) = ip.toNat → ip ≠ 0 →
         let c := s.get (Reg.CAR_P_CTRL_CLASS i.val)
         (s.settleMeters i).meterMode (8 * i + c) ≠ 2 → framesLen (s.frames i c) + 64 ≤ s.get (Reg.CAR_P_Q_QMAX_KB i.val c) * 1024 → s.portBytes i + 64 ≤ s.portBuffer i →
         Completes (.arpRequestRx i ⟨ip, mac⟩) s (fun t => t.frames i c = s.frames i c ++
           [{ frame := .arpReply ip.toNat mac.toNat, len := 64, stamp := s.lc, row := none, eligible := true, cover := none, tc := none }]))))

/-! ## Encode, decode and scan-out (chapters 08 to 11) -/

/-- A completed slice that does not end its row is kept among its row's slices with its bytes, and its CTUs in Spoil form are counted (R220,
R246 to R248). EFFORT_FLOOR takes 0 to 5, and the step in force is the larger of it and THERM_STEP (R234, R235). The PSI timer puts two
transport packets in the waiting datagram (R265). A BS_IN entry is answered with the status of R132 in its place. A coded packet of the
receiver's own flow and payload type: its parameter sets go to the decode slot, which runs, and join nothing when they do not fit the
slot's declaration; a malformed one is counted and changes no slot; a duplicate is counted and enters no picture; one for a slot that takes
none is unmatched (R149, R150, R158, R271). A row that may be complete is done, its errors counted; a slot without a picture for 1,000 ms
has no stream (R275, R280). -/
def Obligations.SlicesDecodeInputsAndRowsAct : Prop :=
  (∀ s : State,
     (∀ (n : Fin 4) (row col : Fin 64) (x : SliceDone) (posted : List Posted) (p : EncPic) (r : EncRow),
       (s.slot n).pics.find? (fun p => s.sliceOk n p row col x) = some p → p.rows[row.val]? = some r → r.slices.length + 1 ≠ s.encCols n →
       r.released = false → ((s.slot n).pics.map (fun q => q.n)).Nodup →
       let bits := sliceBits x (spoilBits (s.encCodec n)) (s.sliceCap n p row col) (s.ctusOfSlice n row col)
       Completes (.sliceComplete n row col x posted) s (fun t => ∃ q ∈ (t.slot n).pics, q.n = p.n ∧ ∃ y, q.rows[row.val]? = some y ∧
         y.slices = r.slices ++ [(col.val, 4 + ceilDiv bits 8 + x.emul)] ∧ y.guarded = r.guarded + x.spoil.length)) ∧
     (∀ (w : Writer) (floor : Fin 16), s.mayWrite w Reg.ENC_CTRL_EFFORT_FLOOR.off = true → s.get Reg.ENC_CTRL_THERM_STEP ≤ 5 →
       (floor.val ≤ 5 → Completes (.effortFloorWrite w floor) s (fun t => t.Reads
         [(Reg.ENC_CTRL_EFFORT_FLOOR, floor.val), (Reg.ENC_CTRL_EFFORT, max floor.val (s.get Reg.ENC_CTRL_THERM_STEP))])) ∧
       (5 < floor.val → Completes (.effortFloorWrite w floor) s (fun t => t = s))) ∧
     (∀ (n : Fin 4) (p : EncPic) (l : List EncPic), s.slotState n = slotRunning ∨ s.slotState n = slotStopping → s.slotKind n = 0 →
       s.cfgOn Reg.ENC_BS_PKT_TS_EN n = true → (s.slot n).pics = p :: l → (s.slot n).ts.packets.length + 2 < 7 →
       Completes (.tsPsiTimer n) s (fun t => (t.slot n).ts.packets = (s.slot n).ts.packets ++ [false, false] ∧
         s.Sent t (fun o => o = .psi n (s.cfg Reg.ENC_BS_PKT_PMT_PID n) (s.cfg Reg.ENC_BS_PKT_VIDEO_PID n)
           (if s.encCodec n = 0 then 0x33 else 0x24))))) ∧
  (∀ s : State,
     (∀ (r : Fin 16384) (e : BsIn) (posted : List Posted) (x : Ring), s.servable .bsIn r false = true → s.ring r = some x →
       let status : Code := if e.size = 0 ∨ 1048576 < e.size.toNat then 0x3402 else if e.aligned = false then 0x3404
         else if e.slice.isNone then 0x3405 else 0
       Completes (.bsInEntry r e posted) s (fun t => s.Sent t (fun o =>
         o = .bsIn r x.cons (x.entryAt x.cons) (ringPhase x.log2 x.cons) status))) ∧
     (∀ (n : Fin 4) (p : Fin 2) (x : CodedPacket) (posted : List Posted), s.takesFlow (56 + n) p x.flow = true → s.checkUnit 2 3 (56 + n) = none →
       let bad := x.malformed = true ∨ x.pt.toNat ≠ s.get (Reg.ING_RX_PT (56 + n.val))
       let judged := (s.rcv (56 + n)).judge (extendSeq 16 (s.rcv (56 + n)).newest x.seq.toNat)
       (s.decTakes n = true → bad → Completes (.codedPacketRx n p x posted) s (fun t =>
         s.Counted t (Reg.ING_RX_FMT_ERR_CNT (56 + n.val)) ∧ t.slots = s.slots)) ∧
       (∀ ps : ParamSets, s.decTakes n = true → ¬ bad → x.content = .head (some ps) none → judged = 0 →
         s.timeError (s.decCap n x.ts.toNat) = false →
         Completes (.codedPacketRx n p x posted) s (fun t => (t.dec n).sets = some ps ∧ t.slotState n = slotRunning ∧
           t.on (pathUp (56 + n) p) = true ∧ (s.setsFit n ps = false → t.get (Reg.DEC_BS_JOINED n.val) = 0))) ∧
       (s.decTakes n = true → ¬ bad → s.filtered n x.ts.toNat x.content = false → judged = 1 →
         Completes (.codedPacketRx n p x posted) s (fun t => (t.dec n).pics = (s.dec n).pics ∧
           t.get64 (Reg.ING_RX_DUP_CNT_LO (56 + n.val)) (Reg.ING_RX_DUP_CNT_HI (56 + n.val)) =
             min (s.get64 (Reg.ING_RX_DUP_CNT_LO (56 + n.val)) (Reg.ING_RX_DUP_CNT_HI (56 + n.val)) + 1) (2 ^ 64 - 1))) ∧
       (s.decTakes n = false → s.heldDecode n = false → Completes (.codedPacketRx n p x posted) s (fun t =>
         s.Counted t (Reg.ING_LANE_UNMATCHED_CNT x.flow.lane.val)))) ∧
     (∀ (n : Fin 4) (row : Fin 64) (sp : BitVec 16) (x : RowResult) (q : DecPic),
       (s.dec n).pics.find? (fun q => s.rowOpen n q row sp.toNat) = some q → ((s.dec n).pics.map (fun q => q.id)).Nodup →
       let whole := ∀ d, q.slice row sp.toNat = some d → d.concealed = false
       (q.present = true → Completes (.decodeRowDone n row sp x) s (fun t =>
         ∃ y d, t.decPic n q.id = some y ∧ y.slice row sp.toNat = some d ∧ d.done = true)) ∧
       (whole → x.errored = true → Completes (.decodeRowDone n row sp x) s (fun t => s.Counted t (Reg.DEC_BS_ERR_SLICE_CNT n.val))) ∧
       (whole → x.errored = false → x.fenced = false → Completes (.decodeRowDone n row sp x) s (fun t =>
         t.get (Reg.DEC_BS_ERR_SLICE_CNT n.val) = s.get (Reg.DEC_BS_ERR_SLICE_CNT n.val) ∧
         t.get (Reg.DEC_BS_FENCE_CNT n.val) = min (s.get (Reg.DEC_BS_FENCE_CNT n.val) + x.strays) (fieldMax (Reg.DEC_BS_FENCE_CNT n.val))))) ∧
     (∀ n : Fin 4, s.on (Reg.DEC_BS_STREAM_UP n.val) = true → s.slotBusy n = true → (s.dec n).lastAt + 1000 * 1000 * ticksPerUs ≤ s.lc →
       Completes (.streamLossTimeout n) s (fun t => t.get (Reg.DEC_BS_STREAM_UP n.val) = 0 ∧ t.Latches 0x6A08)))

/-- A lane line opens at its instant. At the start of blanking a load frame is done, or a waiting timing comes into force with 0x0B06. A row
request outside a tile or without a load frame is refused with NAK and counted; one for a prefetched line that can be shown is answered
with its pixels, one that is not prefetched in time or cannot be shown yet with HOLD, counted. A timing commit that R305 refuses shows its code; an accepted one waits on a lane
that runs frames and is in force at once on another (R292 to R305). -/
def Obligations.ScanOutLanesAct : Prop :=
  ∀ (s : State) (i : Fin 16),
    (∀ f : LoadFrame, (s.scn i).frame = some f → s.scnState i = scnRun → f.blank = false →
      (f.opened < s.scnGet Reg.SCN_LANE_SRC_H i → s.due 1 (instant (s.lineAt i f f.opened)) = true → Completes (.laneLineOpen i) s (fun t =>
        (t.scn i).frame = some { f with opened := f.opened + 1 })) ∧
      (s.due 1 (instant (s.blankAt i f)) = true → (s.scn i).pend = none → s.on (Reg.SCN_LANE_SR_EN i.val) = false →
        Completes (.startOfBlanking i) s (fun t => (t.scn i).frame = some { f with blank := true, done := true })) ∧
      (∀ x, s.due 1 (instant (s.blankAt i f)) = true → (s.scn i).pend = some x →
        s.activeMap.tickOf x < s.activeMap.tickOf (instant (s.blankAt i f)) → Completes (.startOfBlanking i) s (fun t =>
          (t.scn i).pend = none ∧ t.get (Reg.SCN_LANE_STATUS_PENDING i.val) = 0 ∧ s.Counted t (Reg.SCN_LANE_TRANSITION_CNT i.val) ∧ t.Latches 0x0B06 ∧
          ∀ g ∈ scnFields i, t.get (bank 1 g) = s.get (bank 2 g) % 2 ^ fieldWidth g))) ∧
    (∀ (tile : BitVec 8) (line : BitVec 16) (ready : Bool), s.laneMode i = 4 → s.laneState i = laneActive →
      (s.scnGet Reg.SCN_LANE_TILES i ≤ tile.toNat ∨ s.scnTile Reg.SCN_TILE_H i tile.toNat ≤ line.toNat → Completes (.rowReqRx i tile line ready) s
        (fun t => s.Counted t (Reg.SCN_LANE_PROTO_CNT i.val) ∧ s.Sent t (fun o => o = .link i (.nak tile.toNat line.toNat 1)))) ∧
      (tile.toNat < s.scnGet Reg.SCN_LANE_TILES i → line.toNat < s.scnTile Reg.SCN_TILE_H i tile.toNat →
        ((s.scn i).frame = none → Completes (.rowReqRx i tile line ready) s (fun t =>
          s.Counted t (Reg.SCN_LANE_PROTO_CNT i.val) ∧ s.Sent t (fun o => o = .link i (.nak tile.toNat line.toNat 2)))) ∧
        (∀ f : LoadFrame, (s.scn i).frame = some f → s.scnState i = scnRun → f.blank = false →
          s.scnTile Reg.SCN_TILE_Y i tile.toNat + line.toNat < f.opened → f.opened ≤ s.scnTile Reg.SCN_TILE_Y i tile.toNat + line.toNat + 16 →
          s.due 1 (instant (s.blankAt i f)) = false → f.answered.contains (tile.toNat, line.toNat) = false →
          s.leadLate i (s.scnTile Reg.SCN_TILE_Y i tile.toNat + line.toNat) f = false →
          (s.lineShows i tile.toNat line.toNat f = true → ready = true → Completes (.rowReqRx i tile line ready) s (fun t =>
            s.Sent t (fun o => o = .link i (.rowData tile.toNat line.toNat (s.linePixels i tile.toNat line.toNat f))))) ∧
          (s.lineShows i tile.toNat line.toNat f = true → ready = false → Completes (.rowReqRx i tile line ready) s (fun t =>
            s.Counted t (Reg.SCN_LANE_UNDERRUN_CNT i.val) ∧ s.Sent t (fun o => o = .link i (.hold tile.toNat line.toNat)))) ∧
          (s.lineShows i tile.toNat line.toNat f = false → Completes (.rowReqRx i tile line ready) s (fun t =>
            s.Counted t (Reg.SCN_LANE_NOTREADY_CNT i.val) ∧ s.Sent t (fun o => o = .link i (.hold tile.toNat line.toNat))))))) ∧
    (∀ w : Writer, s.mayWrite w (Reg.SCN_LANE_COMMIT_COMMIT i.val).off = true →
      let runs := s.scnState i = scnRun ∨ s.scnState i = scnSelf ∨ s.scnState i = scnTransition
      (s.scnCode i ≠ 0 → Completes (.scnLaneCommit w i) s (fun t => t.get (Reg.SCN_LANE_COMMIT_LAST_STATUS i.val) = s.scnCode i ∧
        t.scnState i = s.scnState i ∧ ∀ g ∈ scnFields i, t.get (bank 1 g) = s.get (bank 1 g))) ∧
      (s.scnCode i = 0 → runs → Completes (.scnLaneCommit w i) s (fun t => (t.scn i).pend = some (s.applyDt i) ∧
        t.Reads [(Reg.SCN_LANE_STATUS_PENDING i.val, 1), (Reg.SCN_LANE_COMMIT_LAST_STATUS i.val, 0)] ∧
        ∀ g ∈ scnFields i, t.get (bank 1 g) = s.get (bank 1 g) ∧ t.get (bank 2 g) = s.get g % 2 ^ fieldWidth g)) ∧
      (s.scnCode i = 0 → ¬ runs → Completes (.scnLaneCommit w i) s (fun t =>
        t.scnState i = (if s.get (Reg.SCN_LANE_ENABLE i.val) % 2 = 1 then scnWait else scnOff) ∧
        ∀ g ∈ scnFields i, t.get (bank 1 g) = s.get g % 2 ^ fieldWidth g)))

/-! ## Calliope (chapter 14) -/

/-- AES3 inputs gain lock with the 64th valid frame in a row, note each frame's values while locked, lose lock, and settle their mapping; a
slip moves the grid by one sample and is counted (R357 to R360). AUD_MCLK_IN is lost, returns and is taken again (R362, R363). A packet of
a network input has its sample kept for its channel (R147). An audio port that is enabled takes its settings when the checks of R373 pass;
else LAST_STATUS shows the check's code and it stays off; an output that is disabled stops its channels. A route that passes comes into
force, at once where no enabled port sends the channel, else as a change that waits. A change applies at its crossing, and at its timeout
it is counted and raised (R367). AUDIO_CMD, AUD_TEMPLATE_LOAD and AUD_CAPTURE_READ act or fail as R368 to R370 say. -/
def Obligations.AudioInputsPortsAndRoutesAct : Prop :=
  (∀ s : State,
     (∀ (j : Fin 16) (f : AesFrame), s.audioOn = true → s.on (Reg.AUD_IN_ENABLE j.val) = true → s.domEnabled s.activeDom = true →
       (s.on (Reg.AUD_IN_LOCK j.val) = false → f.valid = true → f.a.parityOk = true → f.b.parityOk = true →
         (63 ≤ (s.audIn j).good → Completes (.aes3FrameRx j f) s (fun t => t.get (Reg.AUD_IN_LOCK j.val) = 1 ∧ t.Latches 0x0E01)) ∧
         ((s.audIn j).good < 63 → Completes (.aes3FrameRx j f) s (fun t => (t.audIn j).good = (s.audIn j).good + 1))) ∧
       (s.on (Reg.AUD_IN_LOCK j.val) = true → f.valid = true ∨ (s.audIn j).bad = false → Completes (.aes3FrameRx j f) s (fun t =>
         (t.audIn j).bad = !f.valid ∧
         (t.audIn j).last = (subValue f.valid f.a (s.audIn j).last.1, subValue f.valid f.b (s.audIn j).last.2))) ∧
       (s.on (Reg.AUD_IN_LOCK j.val) = true → f.valid = false → (s.audIn j).bad = true → Completes (.aes3FrameRx j f) s (fun t =>
         t.get (Reg.AUD_IN_LOCK j.val) = 0 ∧ s.Counted t (Reg.AUD_IN_LOSS_CNT j.val) ∧ t.Latches 0x6E01))) ∧
     (∀ (j : Fin 16) (rate : Bool), s.on (Reg.AUD_IN_LOCK j.val) = true → Completes (.aes3LockLoss j rate) s (fun t =>
       t.get (Reg.AUD_IN_LOCK j.val) = 0 ∧ s.Counted t (Reg.AUD_IN_LOSS_CNT j.val) ∧ t.Latches 0x6E01 ∧
       (rate = true → s.Counted t (Reg.AUD_IN_RATE_ERR_CNT j.val)))) ∧
     (∀ (j : Fin 16) (ppm : BitVec 16), s.on (Reg.AUD_IN_LOCK j.val) = true → s.get (Reg.AUD_IN_ASRC_MODE j.val) = 0 → (s.audIn j).decided = false →
       (s.audIn j).lockAt + 100000 * ticksPerUs ≤ s.lc → Completes (.asrcDecision j ppm) s (fun t => (t.audIn j).decided = true ∧
         t.Reads [(Reg.AUD_IN_RATE_PPM j.val, ppm.toNat), (Reg.AUD_IN_ASRC j.val, if 50 < ppm.toInt.natAbs then 1 else 0)])) ∧
     (∀ (j : Fin 16) (c : Fin 2), s.on (Reg.AUD_IN_LOCK j.val) = true → (s.audIn j).decided = true → s.get (Reg.AUD_IN_ASRC j.val) = 0 →
       let per := samplePeriod (s.get (Reg.AUD_IN_SRATE j.val))
       let g := if c = 0 then (s.audIn j).grid.1 else (s.audIn j).grid.2
       let err : Rat := (s.activeDt : Rat) - (g : Rat) * per
       per / 2 ≤ ratAbs err → Completes (.sampleSlip j c) s (fun t => s.Counted t (Reg.AUD_IN_SLIP_CNT j.val) ∧ t.Latches 0x6E04 ∧
         (if c = 0 then (t.audIn j).grid.1 else (t.audIn j).grid.2) = g + (if 0 < err then 1 else -1))) ∧
     (s.on Reg.AUD_MCLK_OK = true → Completes .mclkLoss s (fun t => t.get Reg.AUD_MCLK_OK = 0 ∧ s.Counted t Reg.AUD_MCLK_LOSS_CNT ∧
       t.Latches 0x5E01 ∧ t.aud.mclk = false)) ∧
     Completes .audMclkInReturn s (fun t => t.get Reg.AUD_MCLK_OK = 1) ∧
     (∀ w : Writer, s.mayWrite w Reg.AUD_MCLK_RESUME.off = true →
       (s.on Reg.AUD_MCLK_OK = true → Completes (.mclkResume w) s (fun t => t.aud.mclk = s.on Reg.AUD_MCLK_EN ∧ t.get Reg.AUD_LAST_STATUS = 0 ∧
         t.Latches 0x0E02)) ∧
       (s.on Reg.AUD_MCLK_OK = false → Completes (.mclkResume w) s (fun t => t.aud = s.aud ∧ t.get Reg.AUD_LAST_STATUS = 0x2E01))) ∧
     (∀ (r : Fin 16) (p : Fin 2) (x : AudioPacket), s.takesFlow (32 + r) p x.flow = true → s.checkUnit 2 3 (32 + r) = none →
       let bad := x.malformed = true ∨ x.pt.toNat ≠ s.get (Reg.ING_RX_PT (32 + r.val))
       (bad → Completes (.audioPacketRx r p x) s (fun t => s.Counted t (Reg.ING_RX_FMT_ERR_CNT (32 + r.val)) ∧ t.aud = s.aud)) ∧
       (∀ v : BitVec 24, ¬ bad → (s.rcv (32 + r)).judge (extendSeq 16 (s.rcv (32 + r)).newest x.seq.toNat) = 0 →
         let cap := s.rtpDt (rateOfS (s.get (Reg.ING_RX_AFMT_SRATE (32 + r.val)))) x.ts.toNat
         s.timeError cap = false → x.samples = [[v]] → 1 ≤ s.get (Reg.ING_RX_AFMT_CHANNELS (32 + r.val)) →
         Completes (.audioPacketRx r p x) s (fun t => t.on (pathUp (32 + r) p) = true ∧
           ∃ e ∈ Table.getD t.aud.samples (s.get (Reg.ING_RX_AFMT_FIRST_CH (32 + r.val))) [], e.cap = cap ∧ e.value = v.toInt ∧ e.got = s.lc)))) ∧
  (∀ s : State,
     (∀ (w : Writer) (k : Fin 64) (v : BitVec 32), s.mayWrite w (0x541000 + 0x40 * k) = true → bit v.toNat 31 = true →
       (isAesIn k = true → s.on (Reg.AUD_IN_ENABLE k.val) = false →
         (s.inputCode k (bits v.toNat 29 28) = 0 → Completes (.audPortWrite w k v) s (fun t => t.Reads [(Reg.AUD_IN_ENABLE k.val, 1),
           (Reg.AUD_IN_SRATE k.val, bits v.toNat 30 30), (Reg.AUD_IN_ASRC_MODE k.val, bits v.toNat 29 28), (Reg.AUD_IN_LAST_STATUS k.val, 0)])) ∧
         (s.inputCode k (bits v.toNat 29 28) ≠ 0 → Completes (.audPortWrite w k v) s (fun t => t.Reads
           [(Reg.AUD_IN_ENABLE k.val, s.get (Reg.AUD_IN_ENABLE k.val)), (Reg.AUD_IN_LAST_STATUS k.val, s.inputCode k (bits v.toNat 29 28))]))) ∧
       (isAudOut k = true → s.on (Reg.AUD_OUT_ENABLE k.val) = false →
         let c := s.outputCode k (bits v.toNat 30 30) (if isTx k then bits v.toNat 28 28 else s.get (Reg.AUD_OUT_PTIME k.val))
         (c = 0 → Completes (.audPortWrite w k v) s (fun t => t.Reads [(Reg.AUD_OUT_ENABLE k.val, 1),
           (Reg.AUD_OUT_SRATE k.val, bits v.toNat 30 30), (Reg.AUD_OUT_MUTE k.val, bits v.toNat 29 29), (Reg.AUD_OUT_LAST_STATUS k.val, 0)])) ∧
         (c ≠ 0 → Completes (.audPortWrite w k v) s (fun t => t.Reads
           [(Reg.AUD_OUT_ENABLE k.val, s.get (Reg.AUD_OUT_ENABLE k.val)), (Reg.AUD_OUT_LAST_STATUS k.val, c)])))) ∧
     (∀ (w : Writer) (c : Fin 96) (v : BitVec 32), s.mayWrite w (Reg.AUD_ROUTE_SRC c.val).off = true →
       let src := bits v.toNat 31 24
       let sel := bits v.toNat 23 20
       let us := bits v.toNat 19 0
       (s.routeCode src sel us ≠ 0 → Completes (.audRouteWrite w c v) s (fun t => t.route c = s.route c ∧ t.aud = s.aud ∧
         ∀ k, s.portOfChan c = some k → t.get (Reg.AUD_OUT_LAST_STATUS k) = s.routeCode src sel us)) ∧
       (s.routeCode src sel us = 0 → s.portOfChan c = none → Completes (.audRouteWrite w c v) s (fun t => t.route c = (src, sel, us))) ∧
       (∀ k, s.routeCode src sel us = 0 → s.portOfChan c = some k → Completes (.audRouteWrite w c v) s (fun t => t.route c = s.route c ∧
         (t.audCh c).pend = some (.route src sel us, s.lc, none) ∧ t.Reads [(Reg.AUD_ROUTE_SRC c.val, src), (Reg.AUD_ROUTE_DELAY_SEL c.val, sel),
           (Reg.AUD_ROUTE_DELAY_US c.val, us), (Reg.AUD_OUT_LAST_STATUS k, 0)]))) ∧
     (∀ (c : Fin 96) (a : AudChange) (n : Nat) (cmd : Option (Nat × Ticket)), (s.audCh c).pend = some (a, n, cmd) → s.audioOn = true →
       let crosses := ∀ k, s.portOfChan c = some k →
         s.crossesAt (s.audCh c) (s.routed c (s.outSrate k) (s.nextRelease k)).1 (s.nextRelease k) = true
       (a = .start ∨ a = .stop → crosses → Completes (.zeroCrossingChange c) s (fun t =>
         (t.audCh c).pend = none ∧ (t.audCh c).started = decide (a = .start))) ∧
       (a = .mute ∨ a = .unmute → crosses → Completes (.zeroCrossingChange c) s (fun t =>
         (t.audCh c).pend = none ∧ (t.audCh c).muted = decide (a = .mute))) ∧
       (¬ crosses → Completes (.zeroCrossingChange c) s (fun t => t = s)) ∧
       (∀ k, (s.audCh c).waits = true → n + s.zcTicks ≤ s.lc → s.portOfChan c = some k → Completes (.zcTimeout c) s (fun t =>
         s.Counted t (Reg.AUD_OUT_ZC_TO_CNT k) ∧ t.Latches 0x0E03))) ∧
     (∀ d : Desc, s.Accepts audioCmdSpec d →
       let k := d.objIndex.toNat
       (s.on (Reg.AUD_OUT_ENABLE k) = false → Completes (.audioCmd d) s (fun t => s.Answers t d 0x2E01 ∧ t.get (Reg.AUD_OUT_LAST_STATUS k) = 0x2E01)) ∧
       (s.on (Reg.AUD_OUT_ENABLE k) = true → Completes (.audioCmd d) s (fun t => t.get (Reg.AUD_OUT_LAST_STATUS k) = 0 ∧
         ∃ x : Ticket, x.rid = d.rid.val ∧ x.cookie = d.cookie.toNat ∧ ∀ c ∈ s.outChans k, (t.audCh c).pend =
           some (if d.p 32 1 = 1 then .start else if d.p 32 1 = 2 then .stop else if d.p 32 1 = 3 then .mute else .unmute, s.lc,
             some (s.aud.cmd, x))))) ∧
     (∀ d : Desc, s.Accepts templateSpec d →
       let k := d.objIndex.toNat
       (s.on (Reg.AUD_OUT_ENABLE k) = false → Completes (.audTemplateLoad d) s (fun t => s.Answers t d 0x2E01 ∧ t.aud = s.aud)) ∧
       (s.on (Reg.AUD_OUT_ENABLE k) = true → Completes (.audTemplateLoad d) s (fun t => s.Answers t d 0 ∧
         (t.audOut k).waiting = some (d.bytes.take 96)))) ∧
     (∀ d : Desc, s.Accepts captureReadSpec d → Completes (.audCaptureRead d) s (fun t => s.Answers t d 0 ∧
       s.Sent t (fun o => ∃ l ep, o = .hostWrite (s.submitter d) (d.p 32 8) l ep ∧ l.length ≤ d.p 40 4))))

/-! ## The DRAM controller (chapter 15) -/

/-- A layout that R376 refuses shows 0x1F01 and leaves the map and memory; an accepted one brings the full map into force: every serving rank
is in service and in-service DRAM is empty (R377, R380). A training helper starts an operation, refuses one on a rank in service with
0x1F03 and one of length 0 with 0x1F02; its end clears BUSY, a compare counting the bits in error lane by lane (R383, R384). Delays and
mode registers take what is written. -/
def Obligations.LayoutAndTrainingAct : Prop :=
  ∀ (w : Writer) (s : State),
    (∀ v : BitVec 32, s.mayWrite w Reg.DMC_LAYOUT_COMMIT.off = true →
      let no := s.layoutRefused (bits v.toNat 19 19) (bits v.toNat 18 16) (bits v.toNat 13 12) (bits v.toNat 1 0)
      (no = true → Completes (.dmcLayoutCommit w v) s (fun t => t.get Reg.DMC_STATUS_LAST_STATUS = 0x1F01 ∧ t.dram = s.dram ∧ t.mem = s.mem)) ∧
      (no = false → Completes (.dmcLayoutCommit w v) s (fun t => t.dram.formed = true ∧ t.mem = [] ∧ (∀ e ∈ t.dram.serve, t.rankState e.2 = rankInService) ∧
        t.Reads [(Reg.DMC_LAYOUT_MAP, mapFull), (Reg.DMC_LAYOUT_NR, bits v.toNat 1 0), (Reg.DMC_LAYOUT_RANK_SIZE, bits v.toNat 13 12),
          (Reg.DMC_LAYOUT_SPARE_EN, bits v.toNat 19 19), (Reg.DMC_LAYOUT_SPARE_CH, bits v.toNat 18 16), (Reg.DMC_STATUS_LAST_STATUS, 0),
          (Reg.DMC_STATUS_SETS, t.wholeSets % 4)]))) ∧
    (∀ (c : Fin 8) (v : BitVec 32), s.mayWrite w (Reg.DMC_TRN_GO c.val).off = true → ∀ e ∈ [(0, Instr.trnWrite w c v), (1, Instr.trnReadCompare w c v),
        (2, Instr.trnWriteCompare w c v)],
      let no := s.helperRefused c (bits v.toNat 25 25)
      (no = true → Completes e.2 s (fun t => t.get (Reg.DMC_TRN_LAST_STATUS c.val) = 0x1F03 ∧ t.dram = s.dram)) ∧
      (no = false → bits v.toNat 23 0 = 0 → Completes e.2 s (fun t => t.get (Reg.DMC_TRN_LAST_STATUS c.val) = 0x1F02 ∧ t.dram = s.dram)) ∧
      (no = false → bits v.toNat 23 0 ≠ 0 → Completes e.2 s (fun t => t.Reads [(Reg.DMC_TRN_LAST_STATUS c.val, 0), (Reg.DMC_TRN_BUSY c.val, 1),
        (Reg.DMC_TRN_OP c.val, e.1), (Reg.DMC_TRN_PATTERN c.val, bits v.toNat 27 26), (Reg.DMC_TRN_RANK c.val, bits v.toNat 25 25),
        (Reg.DMC_TRN_LEN c.val, bits v.toNat 23 0)]))) ∧
    (∀ (c : Fin 8) (l : List (Fin 80 × Fin 65536)), s.on (Reg.DMC_TRN_BUSY c.val) = true → Completes (.trnOpDone c l) s (fun t =>
      t.get (Reg.DMC_TRN_BUSY c.val) = 0 ∧ t.get (Reg.DMC_TRN_LAST_STATUS c.val) = 0 ∧
      ∀ (lane : Fin 80) (n : Fin 65536), l = [(lane, n)] → Table.getD s.dram.ops c.val false = true →
        let f := Reg.DMC_TRN_ERR c.val (lane.val / 4)
        t.get f / 2 ^ (8 * (lane.val % 4)) % 256 = min 255 (s.get f / 2 ^ (8 * (lane.val % 4)) % 256 + n.val))) ∧
    (∀ (c : Fin 8) (v : BitVec 32), s.mayWrite w (Reg.DMC_TRN_SET c.val).off = true →
      let lane := bits v.toNat 30 24
      (lane < 80 → Completes (.trnDlySet w c v) s (fun t =>
        Table.find t.dram.delays (80 * c.val + lane) = some (bits v.toNat 23 16, bits v.toNat 15 8, bits v.toNat 7 0) ∧
        t.Reads [(Reg.DMC_TRN_RD_DLY c.val, bits v.toNat 23 16), (Reg.DMC_TRN_WR_DLY c.val, bits v.toNat 15 8), (Reg.DMC_TRN_VREF c.val, bits v.toNat 7 0)])) ∧
      (80 ≤ lane → Completes (.trnDlySet w c v) s (fun t => t.get Reg.DMC_STATUS_LAST_STATUS = 0x1F02 ∧ t.dram = s.dram))) ∧
    (∀ (c : Fin 8) (a x : BitVec 8), s.mayWrite w (Reg.DMC_TRN_MR_WRITE c.val).off = true →
      Completes (.mrWrite w c a x) s (fun t => s.Sent t (fun o => o = .modeRegister c (s.get (Reg.DMC_TRN_RANK c.val)) a.toNat x.toNat) ∧
        t.Reads [(Reg.DMC_TRN_MR_ADDR c.val, a.toNat), (Reg.DMC_TRN_MR_DATA c.val, x.toNat)]) ∧
      Completes (.mrRead w c a x) s (fun t => t.Reads [(Reg.DMC_TRN_MR_ADDR c.val, a.toNat), (Reg.DMC_TRN_MR_DATA c.val, x.toNat)]))

/-- A set's fill ends once, set 0 before set 1 (R381, R382). A read whose errors lie in one 4-bit lane group is corrected, one with errors in
two groups is not, whichever the command says of more (R386); both are counted to the rank that serves the address, and an uncorrectable one
poisons its line (R387, R388). At CE_LIMIT corrected reads in a second, and at the fourth failed retry, an in-service rank with a usable
spare migrates to it (R391); a spare found in error is retired (R390); DMC_MIGRATE starts a copy or completes with 0x2F01; the copy's end,
once PTR is in the last block, retires the rank, puts the spare in its position and counts the poisoned lines copied (R393, R394). The
refresh multiplier of a rank is the larger of the band's and its MR4's, and the neighbours of selected rows are refreshed and counted
(R396, R397). -/
def Obligations.RankFaultsAndMigrationsAct : Prop :=
  ∀ s : State,
    (∀ k : Fin 2, bit (s.get Reg.DMC_STATUS_SETS) k = true → s.on (Reg.DMC_SET_FILL_DONE k.val) = false →
      (k = 0 ∨ bit (s.get Reg.DMC_STATUS_SETS) 0 = false ∨ s.on (Reg.DMC_SET_FILL_DONE 0) = true) → Completes (.setFillDone k) s (fun t =>
        t.get (Reg.DMC_SET_FILL_DONE k.val) = 1 ∧ t.Latches 0x0F02 ∧
        t.get (Reg.DMC_SET_FILL_FILLED k.val) = s.setUnits % 2 ^ fieldWidth (Reg.DMC_SET_FILL_FILLED k.val))) ∧
    (∀ (a : BitVec 39) (p : Nat), s.inService a.toNat 1 = true → s.rankOf a.toNat = some p →
      ∀ (groups : List (Fin 20)) (read : Instr), read = .eccCorrectedRead ⟨a, groups⟩ ∨ read = .eccUncorrectableRead ⟨a, groups⟩ →
      let limit := s.get Reg.DMC_CE_LIMIT
      let n := groups.eraseDups.length
      (n = 0 → Completes read s (fun t => t = s)) ∧
      (n = 1 ∨ (3 ≤ n ∧ read = .eccCorrectedRead ⟨a, groups⟩) →
        (limit = 0 ∨ (s.recentErrors p).length < limit → Completes read s (fun t =>
          s.Counted t (Reg.DMC_RANK_CE_CNT p) ∧ Table.find t.dram.corrected p = some (s.recentErrors p) ∧ t.dram.poison = s.dram.poison)) ∧
        (0 < limit → limit ≤ (s.recentErrors p).length → s.rankState p = rankInService → s.canMigrate = true →
          Completes read s (fun t => s.Counted t (Reg.DMC_RANK_CE_CNT p) ∧ t.rankState p = rankMigrating ∧ t.dram.mig.isSome = true ∧
            t.Latches 0x7F03))) ∧
      (n = 2 ∨ (3 ≤ n ∧ read = .eccUncorrectableRead ⟨a, groups⟩) → s.rankState p ≠ rankFilling → s.spareYields p = false → Completes read s (fun t =>
        s.Counted t (Reg.DMC_RANK_UE_CNT p) ∧ t.Latches 0x7F02 ∧ t.dram.poison = insertLine (a.toNat / 64 * 64) s.dram.poison))) ∧
    (∀ p : Fin 16, s.halted = false → s.rankState p = rankInService → s.canMigrate = true → Completes (.commandRetryFail p) s (fun t =>
      t.rankState p = rankMigrating ∧ t.dram.mig.isSome = true ∧ t.get Reg.DMC_STATUS_MIG_ACTIVE = 1 ∧ t.Latches 0x7F03)) ∧
    (∀ p : Nat, s.halted = false → s.spareRank = some p → Completes (.patrolScrub true) s (fun t => t.rankState p = rankRetired ∧
      t.get (Reg.DMC_RANK_STATE_RETIRE_CODE p) = 0x7F06 ∧ t.Latches 0x7F06)) ∧
    Completes (.patrolScrub false) s (fun t => t = s) ∧
    (∀ d : Desc, s.Accepts migrateSpec d →
      let p := d.p 32 1
      let ok := p < 16 ∧ s.rankState p = rankInService ∧ s.canMigrate = true
      (ok → Completes (.dmcMigrate d) s (fun t => t.rankState p = rankMigrating ∧ t.get Reg.DMC_MIG_CTRL_SRC = p ∧
        s.spareRank = some (t.get Reg.DMC_MIG_CTRL_DST) ∧ t.get Reg.DMC_MIG_PTR = 0 ∧
        ∃ k : Ticket, t.dram.mig = some { failing := false, tickets := [k], acc := 0, since := s.lc } ∧ k.rid = d.rid.val ∧ k.cookie = d.cookie.toNat)) ∧
      (¬ ok → Completes (.dmcMigrate d) s (fun t => s.Answers t d 0x2F01 ∧ t.dram = s.dram))) ∧
    (∀ q : Nat, s.dram.mig.isSome = true → s.positionOf (s.get Reg.DMC_MIG_CTRL_SRC) = some q →
      s.get Reg.DMC_MIG_CTRL_SRC ≠ s.get Reg.DMC_MIG_CTRL_DST →
      (s.rankUnits ≤ s.get Reg.DMC_MIG_PTR + 1 → Completes .migrationComplete s (fun t => t.dram.mig = none ∧
        Table.find t.dram.serve q = some (s.get Reg.DMC_MIG_CTRL_DST) ∧ t.rankState (s.get Reg.DMC_MIG_CTRL_SRC) = rankRetired ∧
        t.rankState (s.get Reg.DMC_MIG_CTRL_DST) = rankInService ∧ s.Counted t Reg.DMC_MIG_CNT ∧ t.get Reg.DMC_STATUS_MIG_ACTIVE = 0 ∧ t.Latches 0x0F01 ∧
        t.get Reg.DMC_POISON_COPY_CNT = min (s.get Reg.DMC_POISON_COPY_CNT + s.poisonIn q (s.get Reg.DMC_MIG_PTR) s.rankUnits)
          (fieldMax Reg.DMC_POISON_COPY_CNT))) ∧
      (s.get Reg.DMC_MIG_PTR + 1 < s.rankUnits → Completes .migrationComplete s (fun t => t = s))) ∧
    (∀ (p : Fin 16) (mr4 : Fin 3) (selected : List (Fin 32 × Fin 65536)), s.halted = false → s.rankState p ≠ rankAbsent →
      Completes (.refresh p mr4 selected) s (fun t => Table.getD t.dram.mult p 0 = max s.bandMult mr4 ∧
        (max s.bandMult mr4.val ≠ Table.getD s.dram.mult p 0 → t.Latches 0xAF01) ∧
        (s.get Reg.DMC_REFRESH_NBR_K ≠ 0 →
          t.get Reg.DMC_NBR_CNT = min (s.get Reg.DMC_NBR_CNT + selected.length) (fieldMax Reg.DMC_NBR_CNT) ∧
          ∀ e ∈ selected, ∀ r ∈ neighbours e.2, s.Sent t (fun o => o = .neighbour p e.1 r))))

/-! ## Juggler, Barker and the check units (chapter 16) -/

/-- Tasks are created on the lowest free ID (a full table is counted), destroyed, signalled (a signal of a FREE or FAULTED task is stray),
wait and yield; flags that satisfy a wait make a task READY (R404 to R406). A dispatch gives the first READY task a free engine of its
affinity, or the engine of a weaker pre-emptible task; the awaited flags are passed to it and cleared; a weaker task that is not
pre-emptible is sent one dispatch interrupt (R408). DRAIN takes what firmware
writes (R409). A unit whose watchdog expires is counted and fenced (R402). -/
def Obligations.TasksAreScheduled : Prop :=
  ∀ s : State,
    (s.juggler = true → ∀ (p : Fin 4) (pri : Fin 8) (aff : BitVec 96) (pre : Bool) (mask : BitVec 32) (all : Bool),
      (∀ i, s.freeTask = some i → Completes (.taskCreate p pri aff pre mask all) s (fun t => Table.find t.tasks i = some
        { state := .waiting, priority := pri, flags := 0, mask := mask.toNat, all := all, affinity := aff.toNat, preemptible := pre, readyAt := 0,
          passed := 0, asked := none } ∧ s.Sent t (fun o => o = .created p 0 i))) ∧
      (s.freeTask = none → Completes (.taskCreate p pri aff pre mask all) s (fun t => s.Counted t Reg.JUG_FULL_CNT ∧ t.tasks = s.tasks ∧
        s.Sent t (fun o => o = .created p 0x2162 0)))) ∧
    (s.juggler = true → ∀ i : Fin 4096, Completes (.taskDestroy i) s (fun t => Table.find t.tasks i = none) ∧
      ∀ flags : BitVec 32,
        (∀ x, Table.find s.tasks i = some x → x.state ≠ .faulted → Completes (.taskSignal i flags) s (fun t =>
          Table.find t.tasks i = some (({ x with flags := x.flags ||| flags.toNat } : Task).wake s.lc))) ∧
        ((Table.find s.tasks i = none ∨ ∃ x, Table.find s.tasks i = some x ∧ x.state = .faulted) → Completes (.taskSignal i flags) s (fun t =>
          s.Counted t Reg.JUG_STRAY_SIG_CNT ∧ t.tasks = s.tasks))) ∧
    (∀ (e : Fin 96) (i : Nat) (x : Task), s.runningOn e = some (i, x) →
      (∀ (mask : BitVec 32) (all : Bool), Completes (.taskWait e mask all) s (fun t =>
        Table.find t.tasks i = some (({ x with state := .waiting, mask := mask.toNat, all := all } : Task).wake s.lc))) ∧
      Completes (.taskYield e) s (fun t => Table.find t.tasks i = some { x with state := .ready, readyAt := s.lc })) ∧
    (s.juggler = true → ∀ (i : Nat) (x : Task) (rest : List (Nat × Task)), s.readyTasks = (i, x) :: rest →
      let got := x.flags &&& x.mask
      (∀ e, (x.engines.filter s.engineTakes).find? (fun e => (s.runningOn e).isNone) = some e → Completes .taskDispatch s (fun t =>
        s.Counted t Reg.JUG_DISPATCH_CNT ∧
          Table.find t.tasks i = some { x with state := .running e, passed := got, flags := x.flags - got, asked := none })) ∧
      (∀ e k y, x.engines.filter s.engineTakes = [e] → s.runningOn e = some (k, y) → y.priority < x.priority →
        (y.preemptible = true → Completes .taskDispatch s (fun t => s.Counted t Reg.JUG_DISPATCH_CNT ∧ s.Counted t Reg.JUG_PREEMPT_CNT ∧
          Table.find t.tasks i = some { x with state := .running e, passed := got, flags := x.flags - got, asked := none })) ∧
        (y.preemptible = false → x.asked ≠ some (e, k) → Completes .taskDispatch s (fun t => s.Counted t Reg.JUG_INTR_CNT ∧
          s.Sent t (fun o => o = .dispatchInterrupt e) ∧ Table.find t.tasks i = some { x with asked := some (e, k) })))) ∧
    (∀ (w : Writer) (v : BitVec 8), s.mayWrite w Reg.JUG_CTRL_DRAIN.off = true → Completes (.jugDrainWrite w v) s (fun t =>
      t.get Reg.JUG_CTRL_DRAIN = v.toNat)) ∧
    (∀ u : UnitId, (∃ e, u = .engine e) ∨ (∃ i, u = .link i) ∨ (∃ i, u = .dsp i) → s.isFenced u = false →
      (s.mode = modeService ∨ s.phase ≠ phaseStable) → Completes (.watchdogExpiry u) s (fun t => s.Counted t Reg.JUG_WDT_CNT ∧ t.isFenced u = true))

/-- The source that a pair's arbiter picks is claimed for it, innermost: 14 cycles before its first instruction; 6 when it takes over the
entry of a lower one, 4 when an exit hands it on (R413 to R415). The completion of a claimed source releases it and hands the next one on,
or starts the exit; one not claimed is stray (R413, R416). Software sources take their level (R418). -/
def Obligations.SourcesAreClaimedAndReleased : Prop :=
  ∀ (p : Fin 4) (s : State),
    (∀ n, s.arbitrate p = some n →
      let made := fun first : Nat => ({ src := n, priority := s.get (Reg.BRK_SRC_CFG_PRIORITY n), first := first, level := none } : Claim)
      (∀ c l, s.claimsOf p = c :: l → s.now5 < c.first ∧ c.level = none → Completes (.barkerEntry p) s (fun t =>
        t.claimsOf p = made (max c.first (s.now5 + cycles5 6)) :: l ∧ s.Counted t (Reg.BRK_PAIR_ENTRY_TAKE_CNT p.val))) ∧
      ((∀ c, (s.claimsOf p).head? = some c → ¬ (s.now5 < c.first ∧ c.level = none)) →
        (s.now5 < Table.getD s.brk.exits p 0 → Completes (.barkerEntry p) s (fun t =>
          t.claimsOf p = made (s.now5 + cycles5 4) :: s.claimsOf p ∧ s.Counted t (Reg.BRK_PAIR_HANDON_CNT p.val))) ∧
        (Table.getD s.brk.exits p 0 ≤ s.now5 → Completes (.barkerEntry p) s (fun t =>
          t.claimsOf p = made (s.now5 + cycles5 14) :: s.claimsOf p)))) ∧
    (∀ n : Fin 1024, (s.claimsOf p).find? (fun c => c.src == n.val) = none → Completes (.brkComplete p n) s (fun t =>
      s.Counted t (Reg.BRK_PAIR_STRAY_CNT p.val) ∧ t.brk = s.brk)) ∧
    (∀ (n : Fin 1024) (c : Claim), (s.claimsOf p).find? (fun c => c.src == n.val) = some c →
      let left := (s.claimsOf p).filter (fun x => x.src != n.val)
      let u := (s.setClaims p left).showClaim n none
      (c.level = some false → s.sourceLevel n = false → Completes (.brkComplete p n) s (fun t => s.Counted t (Reg.BRK_PAIR_VANISHED_CNT p.val))) ∧
      (u.arbitrate p = none → Completes (.brkComplete p n) s (fun t => t.claimsOf p = left ∧
        ((s.claimsOf p).head? = some c → Table.find t.brk.exits p = some (s.now5 + cycles5 10)) ∧
        ((s.claimsOf p).head?.map (fun x => x.src) ≠ some n.val → t.brk.exits = s.brk.exits))) ∧
      (∀ k, u.arbitrate p = some k → Completes (.brkComplete p n) s (fun t => s.Counted t (Reg.BRK_PAIR_HANDON_CNT p.val) ∧ t.claimsOf p =
        { src := k, priority := s.get (Reg.BRK_SRC_CFG_PRIORITY k), first := s.now5 + cycles5 4, level := none } :: left))) ∧
    (∀ (w : Writer) (v : BitVec 32), s.mayWrite w Reg.BRK_SW_SET.off = true → 896 ≤ bits v.toNat 9 0 → bits v.toNat 9 0 < 1016 →
      Completes (.brkSwWrite w v) s (fun t => t.sourceLevel (bits v.toNat 9 0) = bit v.toNat 31 ∧
        ∀ k, k ≠ bits v.toNat 9 0 → (k ∈ t.brk.soft ↔ k ∈ s.brk.soft))) ∧
    (∀ (w : Writer) (i : Fin 32) (v : BitVec 32), s.mayWrite w (Reg.BRK_LATCH i.val).off = true → s.ledger.intake.length < ledgerIntake →
      let old := s.get (Reg.BRK_LATCH i.val)
      Completes (.brkLatchClear w i v) s (fun t =>
        t.get (Reg.BRK_LATCH i.val) = ((old - (old &&& v.toNat)) ||| (s.freshBits (Reg.BRK_LATCH i.val) &&& v.toNat)) % 2 ^ 32))

/-- A check unit's control word that R421 refuses shows its code and changes nothing else; an accepted one takes effect whole. CHK_SCAN
refuses a unit in another mode or BUSY with 0x2161 and a range outside in-service DRAM with 0x1163, else the unit is BUSY; the scan ends
with the CRC of its bytes, or at the first poisoned line with 0x7161 (R419 to R422). -/
def Obligations.CheckUnitsAct : Prop :=
  ∀ s : State,
    (∀ (w : Writer) (n : Fin 4) (v : BitVec 32), s.mayWrite w (Reg.CHK_MODE n.val).off = true →
      let l := [Reg.CHK_MODE n.val, Reg.CHK_REFIN n.val, Reg.CHK_REFOUT n.val, Reg.CHK_ATTACH_KIND n.val, Reg.CHK_ATTACH_INDEX n.val, Reg.CHK_WIDTH n.val]
      (s.chkCode n v.toNat = 0 → Completes (.chkCtrlWrite w n v) s (fun t => t.get (Reg.CHK_LAST_STATUS n.val) = 0 ∧
        ∀ f ∈ l, t.get f = bits v.toNat f.msb f.lsb)) ∧
      (s.chkCode n v.toNat ≠ 0 → Completes (.chkCtrlWrite w n v) s (fun t => t.get (Reg.CHK_LAST_STATUS n.val) = s.chkCode n v.toNat ∧
        ∀ f ∈ l, t.get f = s.get f))) ∧
    (∀ d : Desc, s.Accepts chkScanSpec d →
      let n := d.p 32 1
      let wrong := s.get (Reg.CHK_MODE n) ≠ 0 ∨ s.on (Reg.CHK_BUSY n) = true
      (wrong → Completes (.chkScan d) s (fun t => s.Answers t d 0x2161 ∧ t.get (Reg.CHK_LAST_STATUS n) = 0x2161 ∧ t.scans = s.scans)) ∧
      (¬ wrong → s.inService (d.p 40 8) (d.p 48 8) = false → Completes (.chkScan d) s (fun t => s.Answers t d 0x1163 ∧
        t.get (Reg.CHK_LAST_STATUS n) = 0x1163 ∧ t.scans = s.scans)) ∧
      (¬ wrong → s.inService (d.p 40 8) (d.p 48 8) = true → Completes (.chkScan d) s (fun t => t.get (Reg.CHK_BUSY n) = 1 ∧
        ∃ k : Ticket, k.rid = d.rid.val ∧ k.cookie = d.cookie.toNat ∧
          Table.find t.scans n = some { ticket := k, start := d.p 40 8, len := d.p 48 8 }))) ∧
    (∀ (n : Fin 4) (x : Scan), Table.find s.scans n = some x →
      let bad := s.dram.poison.find? (fun a => decide (a < x.start + x.len ∧ x.start < a + 64))
      let crc := s.unitCrc n (Memory.readAll s.mem x.start x.len)
      (bad = none → Completes (.chkScanDone n) s (fun t => Table.find t.scans n = none ∧ t.get (Reg.CHK_BUSY n.val) = 0 ∧
        t.get (Reg.CHK_LAST_STATUS n.val) = 0 ∧ t.get64 (Reg.CHK_RESULT_LO n.val) (Reg.CHK_RESULT_HI n.val) = crc % 2 ^ 64)) ∧
      (bad ≠ none → Completes (.chkScanDone n) s (fun t => Table.find t.scans n = none ∧ t.get (Reg.CHK_BUSY n.val) = 0 ∧
        t.get (Reg.CHK_LAST_STATUS n.val) = 0x7161)))

/-! ## Modes, resets, the boot and take-over (chapters 03, 17, 18) -/

/-- A mode request stores its TARGET and waits with those of its cycle, MODE's with its descriptor; a reserved TARGET is refused at once. As the
cycle ends, the request that is judged, firmware's before the host's (R80), is refused by the first check of R79 to R81 that it fails,
counted and shown, and nothing else changes; or the device drains toward its target (R82). The cycle's other requests are refused with
0x1302. A HALTED device hears a request of the PF or of firmware only to refuse it (R81). Step 3 gates the domains that the target does not need; each power wave turns
on up to eight; with everything tested good the mode is entered, counted, and PHASE is STABLE (R82, R478); a device on its way back keeps
its mode. -/
def Obligations.ModesChangeByRequest : Prop :=
  ∀ s : State,
    let begun := fun (m : Nat) (l : List Ticket) =>
      ({ source := s.mode, target := m, tickets := l, off := [], lanes := [], waves := [], powered := [], back := false } : Trans)
    (∀ (w : Writer) (m : Fin 16) (force : Bool),
      let waits := fun t : State => ∃ a : ModeAsk, t.sys.asked = s.sys.asked ++ [a] ∧ a.w = w ∧ a.target = m.val ∧ a.force = force ∧ a.ticket = none
      (s.halted = false → s.mayWrite w Reg.PWR_MODE_CTRL_TARGET.off = true →
        (5 < m.val → Completes (.modeRequest w m force) s (fun t => t.get Reg.PWR_MODE_STATUS_LAST_STATUS = 0x1301 ∧
          s.Counted t Reg.PWR_REFUSED_CNT ∧ t.sys.asked = s.sys.asked ∧ t.trans = s.trans ∧ t.get Reg.PWR_MODE_CTRL_TARGET = s.get Reg.PWR_MODE_CTRL_TARGET)) ∧
        (m.val ≤ 5 → Completes (.modeRequest w m force) s (fun t => waits t ∧ t.get Reg.PWR_MODE_CTRL_TARGET = m.val ∧ t.trans = s.trans))) ∧
      (s.halted = true → viewOf w = 0 → w ≠ .debug → Completes (.modeRequest w m force) s (fun t => waits t ∧ t.regs = s.regs))) ∧
    (∀ d : Desc, s.Accepts modeSpec d → Completes (.mode d) s (fun t => t.trans = s.trans ∧ ∃ (a : ModeAsk) (k : Ticket),
      t.sys.asked = s.sys.asked ++ [a] ∧ a.target = d.p 32 1 ∧ a.force = bit (d.p 33 1) 0 ∧ a.byFirmware = false ∧ a.ticket = some k ∧
      k.rid = d.rid.val ∧ k.cookie = d.cookie.toNat)) ∧
    (s.pending = [] → s.sys.rstLow = false → s.sys.porLow = false → step s = .next s.judgeAsked.advance) ∧
    (s.sys.asked = [] → s.judgeAsked = s) ∧
    (∀ a : ModeAsk, s.sys.asked = [a] →
      let c := s.modeCode a.target a.force
      (c ≠ 0 → s.judgeAsked.sys.asked = [] ∧ s.judgeAsked.get Reg.PWR_MODE_STATUS_LAST_STATUS = c ∧ s.Counted s.judgeAsked Reg.PWR_REFUSED_CNT ∧
        s.judgeAsked.trans = s.trans ∧ s.judgeAsked.mode = s.mode) ∧
      (c = 0 → s.judgeAsked.sys.asked = [] ∧ s.judgeAsked.phase = phaseDraining ∧ s.judgeAsked.mode = s.mode ∧
        s.judgeAsked.get Reg.PWR_MODE_STATUS_TARGET_MODE = a.target ∧ s.judgeAsked.trans = some (begun a.target a.ticket.toList))) ∧
    (∀ a b : ModeAsk, s.sys.asked = [a, b] → a.byFirmware = false → b.byFirmware = true → s.modeCode b.target b.force = 0 →
      s.judgeAsked.phase = phaseDraining ∧ s.judgeAsked.get Reg.PWR_MODE_STATUS_TARGET_MODE = b.target ∧
      s.judgeAsked.get Reg.PWR_MODE_STATUS_LAST_STATUS = 0x1302 ∧ s.Counted s.judgeAsked Reg.PWR_REFUSED_CNT) ∧
    (∀ x : Trans, s.trans = some x →
      (s.phase = phaseDraining → s.dropsSlot x.target = false → Completes .modeDrained s (fun t => ∃ y : Trans, t.trans = some y ∧
        y.source = x.source ∧ y.target = x.target ∧ y.tickets = x.tickets ∧ y.powered = [] ∧ (∀ p ∈ y.off, t.pdOn p = false) ∧
        t.phase = (if y.waves.isEmpty then phaseLoading else phasePowering))) ∧
      (s.phase = phasePowering → Completes .powerWaveDone s (fun t => (∀ p ∈ x.waves.take 8, p < 96 → t.pdOn p = true) ∧
        t.trans = some { x with waves := x.waves.drop 8, powered := x.powered ++ x.waves.take 8 } ∧
        t.phase = (if (x.waves.drop 8).isEmpty then phaseLoading else phasePowering))) ∧
      (s.phase = phaseLoading → x.back = false → s.meets x.target = true → x.target < 5 → x.source ≠ modeCatcher →
        Completes (.modeLoadDone [] 0) s (fun t => t.mode = x.target ∧ t.phase = phaseStable ∧ t.trans = none ∧
          s.Counted t Reg.PWR_MODE_CHANGE_CNT ∧ t.Reads [(Reg.PWR_MODE_STATUS_TARGET_MODE, x.target), (Reg.PWR_MODE_STATUS_LAST_STATUS, 0),
            (Reg.PWR_SERVICE_REASON, 0)])) ∧
      (s.phase = phaseLoading → x.back = true → s.mode = modeService → Completes (.modeLoadDone [] 0) s (fun t => t.mode = modeService ∧
        t.phase = phaseStable ∧ t.trans = none ∧ t.get Reg.PWR_MODE_STATUS_LAST_STATUS = 0x2301)))

/-- A unit that fails is fenced (R96); Ringmaster, Barker and housekeeping are not: their failure halts the device with REASON 0xF304 (R98).
The active pair fails when its lockstep comparison does, and supervision moves to the lowest healthy pair. -/
def Obligations.FailedUnitsAreFenced : Prop :=
  ∀ s : State, s.halted = false →
    (∀ u ∈ [UnitId.ringmaster, UnitId.barker, UnitId.housekeeping], Completes (.unitRuntimeFault u) s (fun t => t.halted = true ∧
      t.get Reg.PWR_SERVICE_REASON = 0xF304 ∧ t.mem = [] ∧ t.sys.faultPin = true ∧ t.trans = none)) ∧
    ((s.mode = modeService ∨ s.phase ≠ phaseStable) →
      (∀ u : UnitId, u ∉ [UnitId.ringmaster, UnitId.barker, UnitId.housekeeping] → s.isFenced u = false →
        Completes (.unitRuntimeFault u) s (fun t => t.isFenced u = true)) ∧
      (∀ h : s.activePair < 4, s.pairHealthy s.activePair = true →
        let u := s.fenceBit (.pair ⟨s.activePair, h⟩)
        Completes .lockstepCompareFail s (fun t => t.pairHealthy s.activePair = false ∧
          (∀ q, u.lowestPair = some q → t.activePair = q ∧ t.pdOn (2 + q) = true) ∧ (u.lowestPair = none → t.halted = true))))

/-- PWR_RESET with its key resets the device 1 µs later; another value is ignored (R87). A reset returns every register field to its reset
value but the fused ones, empties memory, and is held while SYS_RST_N or the power-on-reset detector is low (R39, R87, R455, R506); the
timer's boots at once. -/
def Obligations.ResetsReturnTheDevice : Prop :=
  ∀ s : State,
    (∀ (w : Writer) (v : BitVec 32),
      let ok := viewOf w = 0 ∧ (w ≠ .debug ∨ s.halted = false) ∧ bits v.toNat 31 16 = 0xA5C3 ∧ bit v.toNat 0 = true ∧ s.sys.resetAt = none
      (ok → Completes (.pwrReset w v) s (fun t => t.sys.resetAt = some (s.lc + ticksPerUs))) ∧ (¬ ok → Completes (.pwrReset w v) s (fun t => t = s))) ∧
    (∀ c ∈ [Instr.deviceReset .pin, Instr.railDrop], Completes c s (fun t => t.pending = s.pending ∧ t.mem = [] ∧ t.lc = 0 ∧ t.rings = [] ∧
      (c = .deviceReset .pin → t.sys.rstLow = true ∧ t.sys.porLow = s.sys.porLow) ∧ (c = .railDrop → t.sys.porLow = true ∧ t.sys.rstLow = s.sys.rstLow) ∧
      (∀ f : Field, fieldKey f ∉ fusedFields.map fieldKey → t.get f = f.reset) ∧ ∀ f ∈ fusedFields, t.get f = s.get f % 2 ^ fieldWidth f)) ∧
    (∀ (b : Boot) (r : Nat), s.sys.resetAt = some r → r ≤ s.lc → b.failed = [] → Completes (.deviceReset (.timer b)) s (fun t => t.lc = 0 ∧
      t.activePair = 0 ∧ t.phase = (if s.get Reg.PWR_BOOT_BOOT_STRAP = 1 then phaseBootWait else phaseBoot)))

/-- The boot ROM starts when the last of SYS_RST_N and the detector releases: it samples the straps and takes the lowest healthy pair (R88,
R89). The first flash bank that passes is booted, none leaves BOOT_WAIT with 0x2304 where the straps ask for flash (R90, R461); a bundle
over PCIe is booted when it passes (R462). A rank trained while others wait brings PHASE TRAINING, one that fails is retired with 0x7F05
(R91, R385). AUTOSTART acts once (R93). -/
def Obligations.TheDeviceBoots : Prop :=
  ∀ s : State,
    (∀ b : Boot, s.sys.rstLow = true →
      (s.sys.porLow = true → Completes (.sysRstNRise b) s (fun t => t = { s with sys := { s.sys with rstLow := false } })) ∧
      (∀ p, s.sys.porLow = false → b.failed = [] → s.lowestPair = some p → Completes (.sysRstNRise b) s (fun t => t.sys.rstLow = false ∧
        t.sys.smbAddr = b.smbAddr ∧ t.dram.populated = b.populated.toNat ∧ t.activePair = p ∧ t.get Reg.PWR_BOOT_BOOT_STRAP = b.bootSrc.val ∧
        t.phase = (if b.bootSrc = 1 then phaseBootWait else phaseBoot)))) ∧
    (∀ b : Boot, s.sys.porLow = true →
      (s.sys.rstLow = true → Completes (.powerOnResetRelease b) s (fun t => t = { s with sys := { s.sys with porLow := false } })) ∧
      (∀ p, s.sys.rstLow = false → b.failed = [] → s.lowestPair = some p → Completes (.powerOnResetRelease b) s (fun t => t.sys.porLow = false ∧
        t.sys.smbAddr = b.smbAddr ∧ t.activePair = p ∧ t.get Reg.PWR_BOOT_BOOT_STRAP = b.bootSrc.val ∧
        t.phase = (if b.bootSrc = 1 then phaseBootWait else phaseBoot)))) ∧
    (∀ a b : Option (List Byte), s.phase = phaseBoot → s.sys.rstLow = false → s.sys.porLow = false → s.on Reg.PWR_BOOT_BOOT_USED = false →
      (s.flashBankCode a ≠ 0 → s.flashBankCode b ≠ 0 → Completes (.supervisorImageLoaded a b) s (fun t => t.phase = phaseBootWait ∧
        (s.get Reg.PWR_BOOT_BOOT_STRAP ≠ 0 → t.get Reg.PWR_SERVICE_REASON = 0x2304))) ∧
      (∀ k l, (bankOrder a b).find? (fun e => s.flashBankCode e.2 == 0) = some (k, some l) → Completes (.supervisorImageLoaded a b) s (fun t =>
        t.phase = phaseBoot ∧ t.get Reg.FW_BOOT_STATUS_BANK = k ∧ t.get Reg.PWR_BOOT_BOOT_USED = 1 ∧
        ∀ p < 16, bit s.dram.populated p = true → t.rankState p = rankTraining))) ∧
    (∀ (w : Writer) (v : BitVec 32) (l : Option (List Byte)), s.mayWrite w Reg.FW_PCIE_CTRL_LEN.off = true → bit v.toNat 31 = true →
      s.phase = phaseBootWait → s.get Reg.PWR_BOOT_BOOT_STRAP < 2 →
      let c := s.pcieCode (bits v.toNat 24 0) l
      (c ≠ 0 → Completes (.fwPcieGo w v l) s (fun t => t.get Reg.FW_BOOT_STATUS_PCIE_STATUS = c ∧ t.phase = phaseBootWait)) ∧
      (c = 0 → Completes (.fwPcieGo w v l) s (fun t => t.get Reg.FW_BOOT_STATUS_PCIE_STATUS = 0 ∧ t.phase = phaseBoot ∧
        t.get Reg.FW_BOOT_STATUS_BANK = 3))) ∧
    (∀ (p : Fin 16) (q : Nat), bit s.dram.populated p = true → bit s.dram.trained p = false → s.rankState p = rankTraining →
      (s.phase = phaseBoot ∨ s.phase = phaseTraining) → q < 16 → q ≠ p.val → bit s.dram.populated q = true → bit s.dram.trained q = false →
      s.rankState q ≠ rankRetired →
      Completes (.rankTrained p true) s (fun t => t.phase = phaseTraining ∧ bit t.dram.trained p = true) ∧
      Completes (.rankTrained p false) s (fun t => t.phase = s.phase ∧ t.rankState p = rankRetired ∧
        t.get (Reg.DMC_RANK_STATE_RETIRE_CODE p.val) = 0x7F05 ∧ t.Latches 0x7F05)) ∧
    (s.sys.started = false → s.sys.stable = true → s.servo s.activeDom = servoLocked → Completes (.autostartSlotStart []) s (fun t =>
      t.sys.started = true))

/-- An order of take-over out of CATCHER is turned away with 0x2171, one to a Catcher neither READY nor SYNCING past its snapshot with 0xB172;
a READY Catcher takes over at once, and mode requests still checking are refused (R81, R440, R441). At T_r it is in a mode that runs slots
(R442), or in SERVICE with 0x2301 when that mode's minimum is not met (R98); the take-over ends with 0x0172, counted (R448). -/
def Obligations.TakeOverRuns : Prop :=
  ∀ s : State,
    (s.halted = false → s.on Reg.TRP_CTRL_PIN_EN = true →
      (s.mode ≠ modeCatcher → Completes .trpTakeN s (fun t => t.get Reg.TRP_STATUS_LAST_STATUS = 0x2171 ∧ t.trp = s.trp)) ∧
      (s.mode = modeCatcher → s.trp.take = none → s.phase = phaseStable → s.trpState = trpReady → Completes .trpTakeN s (fun t =>
        t.trp.take = some { start := s.lc, tickets := [], syncing := false, ready := none, sent := 0, spoiled := 0 } ∧ t.phase = phaseTakeover ∧
        t.trpState = trpTaking ∧ t.get Reg.TRP_STATUS_LAST_STATUS = 0 ∧ t.trp.turn = none ∧ t.sys.asked = [] ∧
        (s.sys.asked ≠ [] → t.get Reg.PWR_MODE_STATUS_LAST_STATUS = 0x1302))) ∧
      (s.mode = modeCatcher → s.trp.take = none → s.trpState ≠ trpReady → (s.trpState = trpSyncing → s.trp.ended = false) →
        Completes .trpTakeN s (fun t => t.get Reg.TRP_STATUS_LAST_STATUS = 0xB172 ∧ t.trp = s.trp))) ∧
    (∀ d : Desc, s.Accepts takeSpec d →
      (s.on Reg.TRP_CTRL_DESC_EN = false → Completes (.trpTakeover d) s (fun t => s.Answers t d 0xB172 ∧ t.trp = s.trp)) ∧
      (s.on Reg.TRP_CTRL_DESC_EN = true → s.mode ≠ modeCatcher → Completes (.trpTakeover d) s (fun t => s.Answers t d 0x2171 ∧ t.trp = s.trp)) ∧
      (s.on Reg.TRP_CTRL_DESC_EN = true → s.mode = modeCatcher → s.trp.take = none → s.phase = phaseStable → s.trpState = trpReady →
        Completes (.trpTakeover d) s (fun t => t.phase = phaseTakeover ∧ ∃ (x : Take) (k : Ticket), t.trp.take = some x ∧ x.start = s.lc ∧
          x.tickets = [k] ∧ k.rid = d.rid.val ∧ k.cookie = d.cookie.toNat))) ∧
    (∀ x : Take, s.trp.take = some x → x.ready = none →
      (s.halted = false → Completes .readyInstant s (fun t => t.phase = phaseStable ∧
        (runsSlots t.mode = true ∨ (t.mode = modeService ∧ t.get Reg.PWR_SERVICE_REASON = 0x2301)) ∧
        ∃ y : Take, t.trp.take = some y ∧ y.ready = some s.lc ∧ y.start = x.start ∧ y.tickets = x.tickets)) ∧
      (s.halted = true → Completes .readyInstant s (fun t => t = s))) ∧
    (∀ (x : Take) (r : Nat) (l : List (Fin 16384 × BitVec 64)), s.trp.take = some x → x.ready = some r → Completes (.takeoverComplete l) s (fun t =>
      t.trp.take = none ∧ t.trp.descs = [] ∧ t.get Reg.TRP_STATUS_LAST_STATUS = 0x0172 ∧ s.Counted t Reg.TRP_TAKEOVER_CNT ∧ t.Latches 0x0172))

/-! ## Trapeze (chapter 17) -/

/-- TRP_CTRL is written in SERVICE alone and with two or four MIRROR lanes: otherwise its code is shown and nothing changes (R424, R425).
HELLO goes out, the partner's is remembered and judged by a Catcher (R426, R427); the partner is lost; a PET of supervisor firmware feeds
the heartbeat (R439). A test turn powers the next group that the mode tests; its end notes the verdict and the next group (R450). The
health report is written to the buffer and completes (R451). -/
def Obligations.PairingHeartbeatAndRotationAct : Prop :=
  (∀ s : State,
     (∀ (w : Writer) (v : BitVec 32), s.mayWrite w Reg.TRP_CTRL_ENABLE.off = true →
       (s.trpCtrlCode v.toNat ≠ 0 → Completes (.trpCtrlWrite w v) s (fun t => t.get Reg.TRP_STATUS_LAST_STATUS = s.trpCtrlCode v.toNat ∧
         t.trp = s.trp ∧ ∀ f ∈ trpCtrlFields, t.get f = s.get f)) ∧
       (s.trpCtrlCode v.toNat = 0 → Completes (.trpCtrlWrite w v) s (fun t => (bit v.toNat 31 = false → t.trp.partner = none) ∧
         t.Reads [(Reg.TRP_STATUS_LAST_STATUS, 0), (Reg.TRP_CTRL_PIN_EN, bits v.toNat 30 30), (Reg.TRP_CTRL_DESC_EN, bits v.toNat 29 29),
           (Reg.TRP_CTRL_ENABLE, bits v.toNat 31 31), (Reg.TRP_CTRL_ACK_WAIT_US, bits v.toNat 23 16), (Reg.TRP_CTRL_MIRROR_LANES, bits v.toNat 15 0)]))) ∧
     (s.mirrorLanes = [] → Completes .helloSend s (fun t => t = s)) ∧
     (∀ i, s.mirrorLanes = [i] → (s.lane i).held = [] → 4 ≤ (s.lane i).control → Completes .helloSend s (fun t =>
       s.Sent t (fun o => o = .link i (.ctrl 0 0x10 0 0 0 s.helloData)))) ∧
     (∀ (i : Fin 16) (h : Hello), s.mirrorLanes.contains i.val = true →
       Completes (.helloRx i h) s (fun t => t.get Reg.TRP_STATUS_PARTNER_SEEN = 1 ∧ t.get Reg.TRP_PARTNER_PART = h.part.toNat ∧
         ∃ p : Partner, t.trp.partner = some p ∧ p.part = h.part.toNat ∧ p.role = h.role.toNat ∧ p.state = h.state.toNat ∧ p.seq = h.seq.toNat) ∧
       (s.trpRole = 2 → s.trpState = trpWait → h.role = 1 →
         (s.unfitMask h = 0 → Completes (.helloRx i h) s (fun t => t.trpState = trpSyncing ∧ t.trp.got = (h.seq.toNat + 1) % 2 ^ 32 ∧
           t.get Reg.TRP_STATUS_FIT = 1)) ∧
         (s.unfitMask h ≠ 0 → Completes (.helloRx i h) s (fun t => t.trpState = trpUnfit ∧ t.get Reg.TRP_STATUS_FIT = 0)))) ∧
     (s.trp.partner.isSome = true → Completes .partnerLoss s (fun t => t.trp.partner = none ∧ t.get Reg.TRP_STATUS_PARTNER_SEEN = 0 ∧
       t.Latches 0xB176 ∧ (s.trpRole = 2 → s.trpState ≠ trpTaking → t.trpState = trpWait))) ∧
     (∀ k, s.trp.pet = some k → s.paired = true → s.halted = false → s.lc ≤ k + 2 * s.get Reg.TRP_HB_PERIOD_US * ticksPerUs →
       Completes .heartbeatToggle s (fun t => t.trp.hb = !s.trp.hb ∧ s.Sent t (fun o => o = .pin .trpHb (!s.trp.hb)))) ∧
     (∀ p : Fin 4, s.halted = false → Completes (.pet (.super p)) s (fun t => t.trp.pet = some s.lc)) ∧
     (∀ f : Fin 32, Completes (.pet (.host f)) s (fun t => t = s))) ∧
  (∀ s : State,
     (∀ g, s.phase = phaseStable → s.trp.take = none → s.trp.turn = none →
       ((List.range 31).map (fun k => (s.trp.turnNext + k) % 31)).find? s.groupTested = some g → Completes .testTurn s (fun t =>
         t.trp.turn = some g ∧ t.get Reg.TRP_TEST_POS = g ∧ ∀ p ∈ s.groupPds g, p < 96 → t.pdOn p = true)) ∧
     (∀ g, s.trp.turn = some g → Completes (.testTurnEnd []) s (fun t => t.trp.turn = none ∧ t.trp.turnNext = (g + 1) % 31 ∧ t.trp.testStatus = 0 ∧
       t.get Reg.TRP_TEST_FAIL_CNT = s.get Reg.TRP_TEST_FAIL_CNT)) ∧
     (∀ d : Desc, s.Accepts healthSpec d → Completes (.trpHealthRead d) s (fun t => s.Answers t d 0 ∧
       s.Sent t (fun o => o = .hostWrite (s.submitter d) (d.p 32 8) (s.healthReport.take (d.p 40 4)) false))))

/-- What a Flyer hears: acknowledgements move TRP_ACK and end the waits they cover, a packet that cannot wait longer goes uncovered and is
counted (R438); a message still held is sent again, counted (R435); a resync discards the backlog, is counted and raises 0xB175 (R436); a
divergence is shown and raises 0x8712 (R206). -/
def Obligations.TheFlyerAnswers : Prop :=
  ∀ (i : Fin 16) (s : State),
    (∀ q : BitVec 32, s.fliesOn i = true → later32 (s.get Reg.TRP_ACK) q.toNat = false → Completes (.ackRx i q) s (fun t =>
      t.get Reg.TRP_ACK = q.toNat ∧ t.trp.rowEnds = s.trp.rowEnds.filter (fun e => later32 e.1 q.toNat) ∧
      ∀ e ∈ t.egr.queues, ∀ f ∈ e.2, ∀ n p r o, f.row = some (n, p, r) → f.cover = some o →
        ¬ ∃ x ∈ s.trp.rowEnds, later32 x.1 q.toNat = false ∧ x.2.1 = n ∧ x.2.2.1 = o)) ∧
    (∀ (n : Fin 4) (pic : BitVec 32) (row : Fin 64) (q p : Nat) (f : EgFrame), s.egr.queues = [(q, [f])] → f.row = some (n.val, p, row.val) →
      p % 2 ^ 32 = pic.toNat → f.eligible = true → f.cover = some (rowOrder p row) → s.gated = true → Completes (.uncoveredRelease n pic row) s (fun t =>
        s.Counted t Reg.TRP_UNCOVERED_CNT ∧ t.egr.queues = [(q, [{ f with cover := none }])] ∧
        (Table.find s.trp.uncovered n ≠ some pic.toNat → t.Latches 0xB174))) ∧
    (∀ (q : BitVec 32) (e : Nat × MirrorRec) (j : Nat), s.fliesOn i = true → s.trp.sent.find? (fun e => e.1 == q.toNat) = some e →
      s.mirrorPick e.2.slots = some j → Completes (.resendRequestRx i q) s (fun t => s.Counted t Reg.TRP_RESEND_CNT ∧ t.trp.lane = (j + 1) % 16)) ∧
    (s.fliesOn i = true → s.flying = true → Completes (.resyncRequestRx i) s (fun t => s.Counted t Reg.TRP_RESYNC_CNT ∧ t.Latches 0xB175 ∧
      t.mirrorQ.head? = some .syncStart ∧ t.mirrorQ.getLast? = some .syncEnd)) ∧
    (∀ mask : BitVec 4, s.fliesOn i = true → Completes (.divergenceRx i mask) s (fun t => t.get Reg.SAF_CMP_DIVERGED = mask.toNat ∧
      ((∃ n : Fin 4, bit mask.toNat n = true ∧ bit (s.get Reg.SAF_CMP_DIVERGED) n = false) → t.Latches 0x8712)))

/-- What a Catcher does with the stream: SEQ order is kept and malformed records are counted (R432, R435); CONFIG goes to the held
configuration (R428); SURF and REF data to its addresses, where they lie in service and no Safety Net area; slices, row ends, checkpoints,
packages and descriptors are held (R433 to R437, R447, R448), those that a PN2408 does not send are counted as malformed (R452); SYNC_START empties and SYNC_END completes the snapshot (R436); safety lines are compared,
missing ones counted (R206). -/
def Obligations.TheCatcherHoldsTheStream : Prop :=
  ∀ s : State, s.catches = true →
    (∀ (i : Fin 16) (q : BitVec 32) (bad : Nat), s.mirrorLanes.contains i.val = true →
      (q.toNat = s.trp.got → Completes (.mirrorDataRx i q bad) s (fun t =>
        t.trp.got = absorb s.trp.ahead s.trp.ahead.length ((q.toNat + 1) % 2 ^ 32) ∧ t.get Reg.TRP_SEQ = (t.trp.got + 2 ^ 32 - 1) % 2 ^ 32 ∧
        (0 < bad → t.get Reg.TRP_MALFORMED_CNT = min (s.get Reg.TRP_MALFORMED_CNT + bad) (fieldMax Reg.TRP_MALFORMED_CNT)))) ∧
      (later32 q.toNat s.trp.got = true → q.toNat ∉ s.trp.ahead → Completes (.mirrorDataRx i q bad) s (fun t =>
        t.trp.got = s.trp.got ∧ t.trp.ahead = q.toNat :: s.trp.ahead ∧ q.toNat ∉ t.trp.asked))) ∧
    (∀ off v : BitVec 32, (((Reg.fieldsAt 0 off.toNat).getD []).map (fun f => fieldKey (bank 5 f))).Nodup → Completes (.configRecord [(off, v)]) s (fun t =>
      ∀ f ∈ (Reg.fieldsAt 0 off.toNat).getD [], f.acc = .rw → f.id < 1024 → f.lsb < 32 → f.off < 2 ^ 29 → f.fn < 64 →
        f.id ≠ (Reg.ENC_BS_RUN_STATE 0).id → f.id ≠ (Reg.CAR_P_PENDING 0).id →
        t.get (bank 5 f) = bits v.toNat f.msb f.lsb % 2 ^ fieldWidth f)) ∧
    (∀ (a : BitVec 39) (l : List Byte) (poison : Bool),
      (s.inService a.toNat l.length = true → s.safAreaMeets a.toNat l.length = none → Completes (.surfRecord a l poison) s (fun t =>
        (∀ k, (h : k < l.length) → Memory.read t.mem (a.toNat + k) = l[k]) ∧
        (∀ b, b < a.toNat ∨ a.toNat + l.length ≤ b → Memory.read t.mem b = Memory.read s.mem b) ∧
        (poison = true → l ≠ [] → 64 * (a.toNat / 64) ∈ t.dram.poison))) ∧
      (s.inService a.toNat l.length = false → Completes (.surfRecord a l poison) s (fun t => t.mem = s.mem)) ∧
      (∀ (n : Fin 4) (pic : BitVec 32) (sectors : Fin 8), l.length ≤ 512 →
        let base := a.toNat / 512 * 512
        s.inService base 512 = true → s.inService base l.length = true → s.safAreaMeets base l.length = none →
        Completes (.refRecord n pic a [(sectors, l)] poison) s (fun t =>
        (∀ k, (h : k < l.length) → Memory.read t.mem (base + k) = l[k]) ∧
        ∀ b, b < base ∨ base + l.length ≤ b → Memory.read t.mem b = Memory.read s.mem b))) ∧
    (∀ (n : Fin 4) (pic : BitVec 32) (row : Fin 64), (∀ y ∈ s.trp.rows, y.slot = n.val → y.pic = pic.toNat) →
      (∀ (sp : BitVec 16) (b : BitVec 32), Completes (.sliceRecord n pic row sp b) s (fun t =>
        (t.heldRow n pic.toNat row).slices = addSlice sp.toNat b.toNat (s.heldRow n pic.toNat row).slices)) ∧
      (∀ q c : BitVec 32, Completes (.rowEndRecord n pic row q c) s (fun t => (t.heldRow n pic.toNat row).endSeq = some q.toNat ∧
        t.get Reg.TRP_ACK = s.get Reg.TRP_SEQ % 2 ^ 32 ∧ t.trp.ackAt = s.lc))) ∧
    (∀ (n : Fin 4) (pic : BitVec 32) (c : CkptIn), Completes (.ckptRecord n pic c) s (fun t => Table.find t.trp.ckpts n = some (pic.toNat, c))) ∧
    (∀ (n : Fin 4) (l : List Byte),
      (s.peerNew = true → s.pkgCode n l = 0 → Completes (.safPkgRecord n l) s (fun t => (t.saf n).lastSeq = pkgSeq l)) ∧
      (s.peerNew = true → s.pkgCode n l ≠ 0 → Completes (.safPkgRecord n l) s (fun t =>
        s.Counted t (Reg.SAF_SLOT_REFUSED_CNT n.val) ∧ t.saf n = s.saf n))) ∧
    (s.peerNew = true → ∀ (r : Fin 16384) (c : BitVec 32) (o : BitVec 16) (d : Desc), Completes (.ringRecord r c o d) s (fun t =>
      t.trp.descs = s.trp.descs ++ [{ rid := r, cons := c.toNat, opcode := o.toNat, d := d, shown := false }] ∧
      (o = 2 → Table.find t.trp.rings d.objIndex.toNat = none))) ∧
    (s.peerNew = false → ∀ (n : Fin 4) (l : List Byte) (r : Fin 16384) (c : BitVec 32) (o : BitVec 16) (d : Desc) (x : SafLines),
      ∀ y ∈ [Instr.safPkgRecord n l, .ringRecord r c o d, .safLineRecord n x], Completes y s (fun t => s.Counted t Reg.TRP_MALFORMED_CNT ∧
        t.trp = s.trp ∧ t.safs = s.safs)) ∧
    Completes .syncStartRecord s (fun t => t.trp.ended = false ∧ t.trp.rows = [] ∧ t.trp.ckpts = [] ∧ (s.trpState = trpReady → t.trpState = trpSyncing) ∧
      ∀ f : Field, f.lsb < 32 → f.off < 2 ^ 29 → f.fn < 64 → t.get (bank 5 f) = f.reset ∧ t.get (bank 6 f) = f.reset) ∧
    Completes .syncEndRecord s (fun t => t.trp.ended = true ∧
      (s.trpState = trpSyncing → s.heldRunning = [] → t.trpState = trpReady ∧ t.Latches 0x0171)) ∧
    (s.on Reg.SAF_CMP_AVAILABLE = true →
      (∀ (n : Fin 4) (x : SafLines) (c : BitVec 32), s.peerNew = true → (s.heldPresent n x.pic.toNat).isSome = true → x.crcs = [c] →
        s.trp.lines.any (fun e => e.1 == n.val && e.2.1 == x.pic.toNat) = true →
        x.seq.toNat = (s.saf n).shownSeq % 2 ^ 32 → x.state.toNat = (s.saf n).shownState →
        (c.toNat = s.safLineCrc n x.first → Completes (.safLineRecord n x) s (fun t => (t.saf n).miss = 0 ∧
          t.get Reg.SAF_MISMATCH_CNT = s.get Reg.SAF_MISMATCH_CNT)) ∧
        (c.toNat ≠ s.safLineCrc n x.first → Completes (.safLineRecord n x) s (fun t => (t.saf n).miss = (s.saf n).miss + 1 ∧ (t.saf n).hits = 0 ∧
          s.Counted t Reg.SAF_MISMATCH_CNT))) ∧
      (∀ (n : Fin 4) (pic : BitVec 32) (row : Fin 64), (n.val, pic.toNat, row.val) ∉ s.trp.lines → 128 * row.val < (s.canvas n).2 →
        Completes (.safLineMissingTimeout n pic row) s (fun t => t.get Reg.SAF_MISSING_CNT =
          min (s.get Reg.SAF_MISSING_CNT + min 128 ((s.canvas n).2 - 128 * row)) (fieldMax Reg.SAF_MISSING_CNT) ∧
          (n.val, pic.toNat, row.val) ∈ t.trp.lines))) ∧
    (∀ q : BitVec 32, q.toNat ∈ s.trp.asked → Completes (.resendTimeout q) s (fun t => t.trp.ahead = [] ∧ t.trp.asked = []))

/-! ## Firmware and the Ledger (chapter 18) -/

/-- FW_STAGE holds a valid image for its type or completes with its code (R464). FW_ACTIVATE completes with the first check that fails; in a
mode that runs no slots the image is in force at once, else the type's procedure begins (R464 to R466), each unit reloaded in turn; when
the last is done the image is in force. Flash writes and fuses act once (R455, R467). -/
def Obligations.ImagesAreStagedAndActivated : Prop :=
  ∀ s : State,
    (∀ d : Desc, s.Accepts stageSpec d →
      (s.imgCode d.bytes ≠ 0 → Completes (.fwStage d) s (fun t => s.Answers t d (s.imgCode d.bytes) ∧
        t.get Reg.FW_UPDATE_LAST_STATUS = s.imgCode d.bytes % 2 ^ 16 ∧ t.fw = s.fw)) ∧
      (s.imgCode d.bytes = 0 → Completes (.fwStage d) s (fun t => s.Answers t d 0 ∧
        Table.find t.fw.pending (fwImage d.bytes).kind = some (fwImage d.bytes)))) ∧
    (∀ d : Desc, s.Accepts activateSpec d →
      let k := d.p 32 1
      (s.activateCode k ≠ 0 → Completes (.fwActivate d) s (fun t => s.Answers t d (s.activateCode k) ∧ t.fw = s.fw)) ∧
      (∀ x, s.activateCode k = 0 → Table.find s.fw.pending k = some x →
        (runsSlots s.mode = false → Completes (.fwActivate d) s (fun t => s.Answers t d 0x0181 ∧ Table.find t.fw.images k = some x ∧
          Table.find t.fw.pending k = none ∧ t.Latches 0x0181)) ∧
        (runsSlots s.mode = true → k ≠ 2 → s.toReload k (List.range 16) ≠ [] → Completes (.fwActivate d) s (fun t =>
          t.get Reg.FW_UPDATE_ACTIVE = 1 ∧ ∃ u : Update, t.fw.update = some u ∧ u.kind = k ∧ u.image = x ∧ u.left = s.toReload k (List.range 16))) ∧
        (runsSlots s.mode = true → k = 2 → Completes (.fwActivate d) s (fun t => t.get Reg.FW_UPDATE_ACTIVE = 1 ∧
          bit (t.get Reg.JUG_CTRL_DRAIN) 0 = true ∧ ∃ u : Update, t.fw.update = some u ∧ u.kind = 2 ∧ u.image = x ∧ u.left = List.range 8)))) ∧
    (∀ (u : Update) (e : Nat) (rest : List Nat), s.halted = false → s.fw.update = some u → u.left = e :: rest →
      (u.kind = 2 → bit (s.get Reg.JUG_CTRL_DRAINED) e = true →
        (rest = [] → Completes (.updateGroupDrained []) s (fun t => t.fw.update = none ∧ Table.find t.fw.images 2 = some u.image ∧
          t.get Reg.FW_UPDATE_ACTIVE = 0 ∧ t.Latches 0x0181)) ∧
        (∀ g l, rest = g :: l → g < 8 → Completes (.updateGroupDrained []) s (fun t => t.fw.update = some { u with left := rest } ∧
          bit (t.get Reg.JUG_CTRL_DRAIN) g = true ∧ t.get Reg.FW_UPDATE_STEP = g))) ∧
      (u.kind ≠ 2 → u.kind ≠ 1 →
        (s.toReload u.kind rest = [] → Completes (.engineReloadDone true) s (fun t => t.fw.update = none ∧ t.get Reg.FW_UPDATE_ACTIVE = 0 ∧
          Table.find t.fw.images u.kind = some u.image ∧ t.Latches 0x0181)) ∧
        (s.toReload u.kind rest ≠ [] → Completes (.engineReloadDone true) s (fun t =>
          t.fw.update = some { u with left := s.toReload u.kind rest }))) ∧
      (u.kind = 1 → e < 4 → rest.contains s.activePair = true → Completes (.engineReloadDone true) s (fun t => t.activePair = e)) ∧
      (∀ x, u.kind ≠ 2 → reloadUnit u.kind e = some x → s.isFenced x = false → (s.mode = modeService ∨ s.phase ≠ phaseStable) →
        Completes (.engineReloadDone false) s (fun t => t.isFenced x = true))) ∧
    (∀ (d : Desc) (present : Bool), s.Accepts flashSpec d →
      let c := s.flashCode (d.p 40 4) (d.bytes.take (d.p 40 4)) present
      (c ≠ 0 → Completes (.fwFlashWrite d present) s (fun t => s.Answers t d c ∧ t.fw = s.fw)) ∧
      (c = 0 → Completes (.fwFlashWrite d present) s (fun t => ∃ k : Ticket, t.fw.flash = some k ∧ k.rid = d.rid.val ∧ k.cookie = d.cookie.toNat))) ∧
    (∀ (k : Ticket) (ok : Bool), s.fw.flash = some k → Completes (.flashWriteDone ok) s (fun t => t.fw.flash = none ∧
      t.get Reg.FW_UPDATE_LAST_STATUS = (if ok then 0x0182 else 0x2182))) ∧
    (∀ d : Desc, s.Accepts (fuseSpec d) d →
      (s.mode ≠ modeService → Completes (.fwFuse d) s (fun t => s.Answers t d 0x2181 ∧ t.fw = s.fw)) ∧
      (s.mode = modeService → d.p 32 1 = 1 →
        (s.fw.owner.isSome = true → Completes (.fwFuse d) s (fun t => s.Answers t d 0x1181 ∧ t.fw = s.fw)) ∧
        (s.fw.owner = none → Completes (.fwFuse d) s (fun t => s.Answers t d 0 ∧ t.fw.owner = some (Config.sha256 (d.bytes.take 64)) ∧
          t.get Reg.FW_OWNER_FUSED = 1))) ∧
      (s.mode = modeService → d.p 32 1 ≠ 1 →
        let f := rollbackField (d.p 33 1)
        let no := d.p 34 1 < s.get f ∨ 63 < d.p 34 1
        (no → Completes (.fwFuse d) s (fun t => s.Answers t d 0x1181 ∧ t.get f = s.get f)) ∧
        (¬ no → Completes (.fwFuse d) s (fun t => s.Answers t d 0 ∧ t.get f = d.p 34 1))))

/-- LDG_READ writes the entries held from the SEQ asked for and answers with the first one's; none held from there, it completes too (R472). A
LDG_RING value that R471 allows sets an empty ring; another is ignored with 0x1181. -/
def Obligations.TheLedgerIsReadAndPlaced : Prop :=
  ∀ s : State,
    (∀ d : Desc, s.Accepts ldgReadSpec d →
      let l := (s.ledgerHeld.dropWhile (fun e => later32 (leAt d.bytes 0 4) e.seq)).take (d.p 40 4 / 32)
      Completes (.ldgRead d) s (fun t => s.Answers t d 0 ∧ t.ledger = s.ledger ∧ (l ≠ [] →
        s.Sent t (fun o => o = .hostWrite (s.submitter d) (d.p 32 8) (l.flatMap LedgerEntry.bytes)
          (l.any (fun e => s.ledgerPoisoned e.seq))) ∧
        s.Sent t (fun o => ∃ r i e, o = .cpl r i e ∧ e.cookie = d.cookie.toNat ∧ some e.result = l.head?.map (fun x => x.seq + l.length * 2 ^ 32))))) ∧
    (∀ (w : Writer) (v : BitVec 32), s.mayWrite w Reg.LDG_RING_LOG2.off = true →
      (s.ringValueOk v.toNat = true → Completes (.ldgRingWrite w v) s (fun t => t.ledger.dram = [] ∧ t.ledger.placed = 0 ∧
        t.Reads [(Reg.LDG_RING_LOG2, bits v.toNat 31 27), (Reg.LDG_RING_BASE, bits v.toNat 26 0), (Reg.LDG_LAST_STATUS, 0)])) ∧
      (s.ringValueOk v.toNat = false → Completes (.ldgRingWrite w v) s (fun t => t.ledger.dram = s.ledger.dram ∧
        t.Reads [(Reg.LDG_RING_LOG2, s.get Reg.LDG_RING_LOG2), (Reg.LDG_RING_BASE, s.get Reg.LDG_RING_BASE), (Reg.LDG_LAST_STATUS, 0x1181)])))

/-! ## Housekeeping and the sideband (chapter 19) -/

/-- A round takes each sensor's reading (a failed one reads the fourth throttle level), Tmax is the hottest unmasked sensor's, the warning,
the throttle level and the band follow their thresholds, a shutdown trips and halts the device, and every voltage is shown (R480 to R489).
Adaptive voltage is switched and falls back (R475, R476); the three threshold registers take a whole valid value or keep theirs (R490). -/
def Obligations.HousekeepingActs : Prop :=
  ∀ s : State,
    (∀ (temps : List (BitVec 16)) (failed : BitVec 24) (volts : List (BitVec 16)) (margin : Nat),
      Completes (.housekeepingRound temps failed volts margin) s (fun t =>
        (∀ i < 24, bit failed.toNat i = true → bit (s.get Reg.THM_STATUS_SENS_FAIL) i = false →
          bit (t.get Reg.THM_STATUS_SENS_FAIL) i = true ∧ t.Latches 0xA194) ∧
        (∀ (i : Nat) (x : BitVec 16), i < 24 → bit failed.toNat i = false → bit (s.get Reg.THM_STATUS_SENS_FAIL) i = false → temps[i]? = some x →
          t.get (Reg.THM_TEMP i) = x.toNat) ∧
        (∀ i < 24, bit failed.toNat i = true → t.get (Reg.THM_TEMP i) =
          10 * (s.get Reg.THM_THRESH_THROTTLE_C + 4 * s.get Reg.THM_THRESH_STEP_C) % 2 ^ 16) ∧
        t.get Reg.THM_TMAX = t.get (Reg.THM_TEMP t.hottest) % 2 ^ 16 ∧ t.get Reg.THM_STATUS_WARN = b2n (t.level 0).on ∧
        t.get Reg.ENC_CTRL_THERM_STEP = t.highest 1 5 ∧ t.get Reg.THM_STATUS_BAND = t.highest 7 3 ∧
        (∀ (c : Nat) (v : BitVec 16), c < 32 → volts[c]? = some v → t.get (Reg.THM_VOLT_MV c) = v.toNat % 2 ^ fieldWidth (Reg.THM_VOLT_MV c)) ∧
        ((t.level 6).on = true → (s.level 6).on = false → t.get Reg.THM_STATUS_TRIP = 1 ∧ t.sys.thermPin = true ∧ t.halted = true))) ∧
    Completes .thermtripAnalogue s (fun t => t.get Reg.THM_STATUS_TRIP = 1 ∧ t.sys.thermPin = true ∧ t.halted = true ∧
      (s.halted = false → t.get Reg.PWR_SERVICE_REASON = 0xA193 ∧ t.Latches 0xA193)) ∧
    (s.on Reg.PWR_AVS_EN = true → Completes .avsFail s (fun t => s.Counted t Reg.PWR_AVS_ERR_CNT ∧
      t.get Reg.PWR_AVS_V_TGT_MV = s.thm.confirmed % 2 ^ fieldWidth Reg.PWR_AVS_V_TGT_MV ∧ (s.limitOpen 0xA197 0 = true → t.Latches 0xA197))) ∧
    (s.on Reg.PWR_AVS_EN = false → Completes .avsFail s (fun t => t = s)) ∧
    (∀ (w : Writer) (en : Bool), s.mayWrite w Reg.PWR_AVS_EN.off = true → Completes (.avsEnWrite w en) s (fun t => t.get Reg.PWR_AVS_EN = b2n en ∧
      (en = true → s.on Reg.PWR_AVS_EN = false → s.Sent t (fun o => o = .avsWrite (s.get Reg.PWR_AVS_V_FUSE_MV)) ∧
        t.get Reg.PWR_AVS_V_TGT_MV = s.get Reg.PWR_AVS_V_FUSE_MV % 2 ^ fieldWidth Reg.PWR_AVS_V_TGT_MV))) ∧
    (∀ (w : Writer) (i : Fin 3) (v : BitVec 32), s.mayWrite w (Reg.THM_THRESH_SHUTDOWN_C.off + 4 * i.val) = true →
      (s.thmCode i v.toNat = 0 → Completes (.thmWrite w i v) s (fun t => t.Reads (thmFields i v.toNat))) ∧
      (s.thmCode i v.toNat ≠ 0 → Completes (.thmWrite w i v) s (fun t => t.thm = s.thm ∧ ∀ e ∈ thmFields i v.toNat, t.get e.1 = s.get e.1)))

/-- A sideband read of the device's own address is answered with the register's bytes, and its packet error code on request; a write or an
unknown command is not acknowledged and counted; another address is not answered at all (R491). The packet error code's polynomial is log
entry 74's. -/
def Obligations.TheSidebandAnswers : Prop :=
  ∀ (a : BitVec 7) (pec : Bool) (x : Fin 24) (c : Fin 32) (s : State),
    let reads : List (Instr × Nat × List Byte) :=
      [(.smbThmStatus a pec, 0x01, smbBlock (leBytes 4 (s.regWord Reg.THM_STATUS_LEVEL.off))), (.smbTmax a pec, 0x02, smbWord (s.get Reg.THM_TMAX)),
       (.smbModeStatus a pec, 0x03, smbBlock (leBytes 4 (s.regWord Reg.PWR_MODE_STATUS_PHASE.off))),
       (.smbReason a pec, 0x04, smbWord (s.get Reg.PWR_SERVICE_REASON)),
       (.smbChipId a pec, 0x05, smbBlock (leBytes 4 (s.regWord Reg.HIF_CHIP_ID_PART.off))),
       (.smbSensor a x pec, 0x10 + x.val, smbWord (s.get (Reg.THM_TEMP x.val))), (.smbVoltage a c pec, 0x30 + c.val, smbWord (s.get (Reg.THM_VOLT_MV c.val))),
       (.smbHealth a pec, 0x80, smbBlock (if s.paired then s.healthReport else List.replicate 64 0))]
    (s.smbAnswers a = true → (∀ e ∈ reads, Completes e.1 s (fun t => t.mem = s.mem ∧ t.regs = s.regs ∧
        s.Sent t (fun o => o = .smbus (if pec then e.2.2 ++ [BitVec.ofNat 8 (smbPec a.toNat e.2.1 e.2.2)] else e.2.2)))) ∧
      Completes (.smbNak a) s (fun t => s.Counted t Reg.THM_SMB_ERR_CNT ∧ s.Sent t (fun o => o = .smbusNak) ∧
        (s.limitOpen 0x4191 0 = true → t.Latches 0x4191))) ∧
    (s.smbAnswers a = false → (∀ e ∈ reads, Completes e.1 s (fun t => t = s)) ∧ Completes (.smbNak a) s (fun t => t = s))

/-! ## Launches (R68 to R74) -/

/-- The head of a unit's queue fires at its tick: it leaves the queue, a late one is counted and raises 0x5001 (R71), and what it stands for
happens: a composition begins the slot's next picture (R173), a row of an encoder gets its cap (R250), a row of a decode slot is judged, its
missing slices concealed (R274, R281), a row's packets may go (R343), a port's gates change (R346), a lane counts a presented frame (R296),
a lane begins to load its frame (R292), a transition frame is left out (R303), a sample goes out (R366), a task is signalled (R407), a
completion is written (R124). A late presentation is discarded (R297). While a unit of lower index has a launch to fire nothing happens
(R74; log entry 104). The rows are those `launchOf` names: compositionStart, encodeRowStart, decodeRowStart, scanOutFrameStart,
packetRelease, gateSwitch, presentation, sampleRelease and genericEvent. -/
def Obligations.LaunchesFire : Prop :=
  ∀ (c : Instr) (u : Nat) (kinds : List Nat) (q : QLaunch) (l : List QLaunch) (s : State), launchOf c = some (u, kinds) → s.queue u = q :: l →
    kinds.contains q.kind = true → s.firesNow u = true →
    let late := s.past q.ref q.instant
    (s.lowerWaits u = true → s.domEnabled s.activeDom = true → Completes c s (fun t => t = s)) ∧ (s.lowerWaits u = false →
    (q.act = .firmware → late = false → Completes c s (fun t => t.queue u = l ∧ Table.find t.tim.fired u = some s.lc)) ∧
    (q.act = .firmware → late = true → q.kind ≠ 5 → Completes c s (fun t => t.queue u = l ∧ Table.find t.tim.fired u = some s.lc ∧
      s.Counted t Reg.TIM_LAUNCH_LATE_CNT ∧ t.Latches 0x5001)) ∧
    (q.act = .firmware → late = true → q.kind = 5 → Completes c s (fun t => t.queue u = l ∧
      t.get Reg.TIM_LAUNCH_LATE_CNT = s.get Reg.TIM_LAUNCH_LATE_CNT)) ∧
    (q.act = .firmware → 256 ≤ u → late = false → Completes c s (fun t => bit (t.get (Reg.BRK_LATCH 31)) (u - 232) = true)) ∧
    (∀ x, q.act = .firmware → 32 ≤ u → u < 128 → q.kind = 0xF → q.tag < 4096 → Table.find s.tasks q.tag = some x → x.state ≠ .faulted →
      Completes c s (fun t => Table.find t.tasks q.tag = some (({ x with flags := x.flags ||| 2 ^ 31 } : Task).wake s.lc))) ∧
    (∀ d k, q.act = .timed 0 d k → late = false → (s.fn k.fn).epoch = k.epoch → (s.ring k.cpl).isSome = true → Completes c s (fun t =>
      s.Sent t (fun o => ∃ r i e, o = .cpl r i e ∧ e.cookie = k.cookie ∧ e.status = State.ticketStatus { k with late := false } 0))) ∧
    (∀ n p, q.act = .composition n p → late = false → Completes c s (fun t => (t.slot n).next = p + 1 ∧
      ((t.slot n).pics.getLast?.map (fun x => x.n)) = some p ∧ (s.slotState n = slotStarting → t.slotState n = slotRunning))) ∧
    (∀ n p k x, q.act = .encodeRow n p k → late = false → (s.slot n).pics.find? (fun y => y.n == p) = some x → k < x.rows.length →
      Completes c s (fun t => ∃ y, (t.slot n).pics.find? (fun y => y.n == p) = some y ∧ (y.rows.getD k EncRow.blank).cap.isSome = true)) ∧
    (∀ n p k, q.act = .release n p k → late = false → Completes c s (fun t => ∀ j < 8, ∀ f ∈ t.frames (u - 128) j, ∀ p' r,
      f.row = some (n, p', r) → rowOrder p' r ≤ rowOrder p k → f.eligible = true)) ∧
    (∀ i x, q.act = .gate i x → late = false → Completes c s (fun t => (t.port i).gates = s.gatesOpen i s.lc)) ∧
    (∀ n id k x, q.act = .decodeRow n id k → late = false → s.decPic n id = some x → x.nextRow = k → id < (s.dec n).nextId →
      Completes c s (fun t => (∃ y, t.decPic n id = some y ∧ y.nextRow = k + 1) ∧
        (s.on (Reg.DEC_BS_JOINED n) = true → x.idle = false → x.ts.isSome = true → ∀ sp ∈ s.liveSps n x k, x.slice k sp = none →
          ∃ y d, t.decPic n id = some y ∧ y.slice k sp = some d ∧ d.concealed = true))) ∧
    (∀ i p f, q.act = .present i p → late = false → s.scnState i = scnRun → s.scnMem i = true → (s.scn i).frame = some f → f.pic = p →
      Completes c s (fun t => s.Counted t (Reg.SCN_LANE_FRAME_CNT i))) ∧
    (∀ i p, q.act = .frameStart i p → late = false → s.scnMem i = true →
      (s.scnState i = scnTransition → (s.scn i).skipped = false → Completes c s (fun t => (t.scn i).skipped = true ∧ (t.scn i).frame = none)) ∧
      (s.scnState i = scnRun → Completes c s (fun t => t.scnState i = scnRun ∧ (t.scn i).skipped = false ∧ (t.scn i).frame = some
        { pic := p, p := (p : Rat) * framePeriodU (s.scnGet Reg.SCN_LANE_MEM_RATE i), opened := 0, answered := [], underrun := false, late := [],
          done := false, blank := false, still := false }))) ∧
    (∀ k, q.act = .sample k → late = false → s.audioOn = true → s.on (Reg.AUD_OUT_ENABLE k) = true → Completes c s (fun t =>
      (s.audOut k).index < (t.audOut k).index)))

/-! ## Frames -/

/-- A command changes no register field and no part of the state but those that mayChange names for it; the waiting commands stay and what was
sent stays sent. Where it names no memory, no byte of memory changes. -/
def Obligations.CommandsChangeOnlyWhatTheyName : Prop :=
  ∀ (c : Instr) (fields : List Nat) (parts : List Part) (s t : State), mayChange c = some (fields, parts) → exec c s = .next t →
    s.Only fields parts t

/-- A command on one port, meter, channel or unit changes no register field of another: the owner of a pen, a MAC address, a meter, a training
helper, a Safety Net area, a check unit, a time of day. -/
def Obligations.CommandsOfOneUnitKeepTheOthers : Prop :=
  ∀ (w : Writer) (s t : State),
    let logged := loggedParts ++ [.mirrorQ]
    (∀ p a f, exec (.penOwnerWrite w p a f) s = .next t →
      s.OnlyAt [Reg.HIF_PEN_OWNER_ASSIGNED p.val, Reg.HIF_PEN_OWNER_FUNCTION p.val, Reg.HIF_SETUP_STATUS_LAST_STATUS] logged t) ∧
    (∀ i h v, exec (.laneMacWrite w i h v) s = .next t →
      s.OnlyAt [Reg.LANE_MAC_LO i.val, Reg.LANE_MAC_HI i.val, Reg.LANE_STATUS_LAST_STATUS i.val] logged t) ∧
    (∀ q m o, exec (.trnCtrlWrite w q m o) s = .next t →
      s.OnlyAt ([Reg.TRN_Q_MODE q.val, Reg.TRN_Q_OVH q.val, Reg.TRN_Q_LAST_STATUS q.val] ++ (meterFields q).map (bank 2) ++
        (q.val :: (s.port (q.val / 8)).turning).flatMap (fun x => (meterFields x).map (bank 1))) (logged ++ [.egr]) t) ∧
    (∀ n v, exec (.safAreaWrite w n v) s = .next t →
      s.OnlyAt [Reg.SAF_SLOT_AREA_BASE n.val, Reg.SAF_SLOT_STATE_LAST_STATUS n.val] logged t) ∧
    (∀ d v, exec (.todSecWrite w d v) s = .next t → s.OnlyAt [Reg.TIM_DOM_TOD_SEC d.val] (logged ++ [.tim]) t) ∧
    (∀ c v, ∀ x ∈ [Instr.trnWrite w c v, Instr.trnReadCompare w c v, Instr.trnWriteCompare w c v], exec x s = .next t →
      s.OnlyAt [Reg.DMC_TRN_BUSY c.val, Reg.DMC_TRN_OP c.val, Reg.DMC_TRN_PATTERN c.val, Reg.DMC_TRN_RANK c.val, Reg.DMC_TRN_LEN c.val,
        Reg.DMC_TRN_LAST_STATUS c.val] (logged ++ [.dram]) t) ∧
    (∀ c l, exec (.trnOpDone c l) s = .next t →
      s.OnlyAt ([Reg.DMC_TRN_BUSY c.val, Reg.DMC_TRN_LAST_STATUS c.val] ++ (List.range 20).map (Reg.DMC_TRN_ERR c.val)) [.dram] t) ∧
    (∀ c v, exec (.trnDlySet w c v) s = .next t →
      s.OnlyAt [Reg.DMC_TRN_LANE c.val, Reg.DMC_TRN_RD_DLY c.val, Reg.DMC_TRN_WR_DLY c.val, Reg.DMC_TRN_VREF c.val, Reg.DMC_STATUS_LAST_STATUS]
        (logged ++ [.dram]) t) ∧
    (∀ c a x, ∀ y ∈ [Instr.mrWrite w c a x, Instr.mrRead w c a x], exec y s = .next t →
      s.OnlyAt [Reg.DMC_TRN_MR_ADDR c.val, Reg.DMC_TRN_MR_DATA c.val] logged t) ∧
    (∀ n v, exec (.chkCtrlWrite w n v) s = .next t →
      s.OnlyAt [Reg.CHK_MODE n.val, Reg.CHK_REFIN n.val, Reg.CHK_REFOUT n.val, Reg.CHK_ATTACH_KIND n.val, Reg.CHK_ATTACH_INDEX n.val,
        Reg.CHK_WIDTH n.val, Reg.CHK_LAST_STATUS n.val] logged t) ∧
    (∀ n, exec (.chkScanDone n) s = .next t →
      s.OnlyAt [Reg.CHK_BUSY n.val, Reg.CHK_LAST_STATUS n.val, Reg.CHK_RESULT_LO n.val, Reg.CHK_RESULT_HI n.val] (loggedParts ++ [.scans]) t) ∧
    (∀ k ppm, exec (.asrcDecision k ppm) s = .next t →
      s.OnlyAt [Reg.AUD_IN_RATE_PPM k.val, Reg.AUD_IN_ASRC k.val] (loggedParts ++ [.aud]) t)

/-- Every byte of memory outside the bytes a command stores keeps its value: the samples of a packet's rows in the receiver's buffers, the
entries of an ancillary store, a package in its slot's Safety Net area, mirrored data at its address. Audio that no input captures stores
nothing. -/
def Obligations.StoringCommandsKeepOtherBytes : Prop :=
  ∀ (s t : State) (a : Nat),
    (∀ (r : Fin 32) (p : Fin 2) (x : VideoPacket), exec (.videoPacketRx r p x) s = .next t →
      (∀ (b : Nat) (row : VideoRow), row ∈ x.rows → ∀ e ∈ rowPlanes (s.get (Reg.ING_RX_FMT_SAMPLING r.val)) row,
        a < s.rowAddr r b e.1 row.line.toNat row.off.toNat ∨ s.rowAddr r b e.1 row.line.toNat row.off.toNat +
          ((e.2.take row.len.toNat).flatMap (sampleBytes (s.get (Reg.ING_RX_FMT_DEPTH r.val)))).length ≤ a) →
      Memory.read t.mem a = Memory.read s.mem a) ∧
    (∀ (r : Fin 8) (p : Fin 2) (x : AncPacket), exec (.ancPacketRx r p x) s = .next t →
      (a < (s.storeArea (48 + r)).base ∨ (s.storeArea (48 + r)).base + 1024 * 2 ^ s.get (Reg.ING_RX_NFMT_ANC_LOG2 (48 + r.val)) ≤ a) →
      Memory.read t.mem a = Memory.read s.mem a) ∧
    (∀ (k : Fin 5) (y : SafCheck) (rest : List SafCheck), (s.saf k).checking = y :: rest →
      exec (.safPackageChecked k) s = .next t → (∀ part < 3, a < s.safAddr k part ∨ s.safAddr k part + y.bytes.length ≤ a) →
      (∀ c, (s.saf k).cur = some c → c.part = 0 ∨ c.part = 1) → Memory.read t.mem a = Memory.read s.mem a) ∧
    (∀ (n : Fin 4) (l : List Byte), exec (.safPkgRecord n l) s = .next t → (∀ part < 3, a < s.safAddr n part ∨ s.safAddr n part + l.length ≤ a) →
      (∀ c, (s.saf n).cur = some c → c.part = 0 ∨ c.part = 1) → Memory.read t.mem a = Memory.read s.mem a) ∧
    (∀ (n : Fin 4) (pic : BitVec 32) (b : BitVec 39) (l : List (Fin 8 × List Byte)) (poison : Bool), exec (.refRecord n pic b l poison) s = .next t →
      (a < b.toNat / 512 * 512 ∨ b.toNat / 512 * 512 + 512 * l.length ≤ a) → Memory.read t.mem a = Memory.read s.mem a) ∧
    (∀ (b : BitVec 39) (l : List Byte) (poison : Bool), exec (.surfRecord b l poison) s = .next t → (a < b.toNat ∨ b.toNat + l.length ≤ a) →
      Memory.read t.mem a = Memory.read s.mem a) ∧
    ((∀ k, s.capMask k = 0 ∧ (s.audIn k).part = []) →
      (∀ (r : Fin 16) (p : Fin 2) (x : AudioPacket), exec (.audioPacketRx r p x) s = .next t → Memory.read t.mem a = Memory.read s.mem a) ∧
      (∀ (j : Fin 16) (f : AesFrame), exec (.aes3FrameRx j f) s = .next t → Memory.read t.mem a = Memory.read s.mem a))
end

