-- ==== Sys2Proof/Laws/Tables.lean ====
section
/-! SUPPORT. The laws of the sparse tables and of device memory: what a read gives after a write, and that every operation
keeps the canonical form. -/

namespace Sys2Proof

namespace Table

variable {α : Type}

@[simp] theorem find_put_same (t : Table α) (k : Nat) (x : α) : find (put t k x) k = some x := by
  induction t with
  | nil => simp [put, find]
  | cons e t ih =>
    obtain ⟨q, v⟩ := e
    by_cases h : k < q
    · simp [put, find, h]
    · by_cases h2 : k = q
      · simp [put, find, h2]
      · simp [put, find, h, h2, ih]

theorem find_put_other (t : Table α) (k j : Nat) (x : α) (h : j ≠ k) : find (put t k x) j = find t j := by
  induction t with
  | nil => simp [put, find, h]
  | cons e t ih =>
    obtain ⟨q, v⟩ := e
    by_cases h1 : k < q
    · simp [put, find, h1, h]
    · by_cases h2 : k = q
      · subst h2; simp [put, find, h]
      · simp [put, find, h1, h2, ih]

@[simp] theorem find_del_same (t : Table α) (k : Nat) : find (del t k) k = none := by
  induction t with
  | nil => rfl
  | cons e t ih =>
    obtain ⟨q, v⟩ := e
    by_cases h : k = q
    · simp [del, h]; simpa [h] using ih
    · simp [del, find, h, ih]

theorem find_del_other (t : Table α) (k j : Nat) (h : j ≠ k) : find (del t k) j = find t j := by
  induction t with
  | nil => rfl
  | cons e t ih =>
    obtain ⟨q, v⟩ := e
    by_cases h2 : k = q
    · subst h2; simp [del, find, h, ih]
    · by_cases h3 : j = q
      · simp [del, find, h2, h3]
      · simp [del, find, h2, h3, ih]

@[simp] theorem getD_put_same (t : Table α) (k : Nat) (x d : α) : getD (put t k x) k d = x := by simp [getD]

theorem getD_put_other (t : Table α) (k j : Nat) (x d : α) (h : j ≠ k) : getD (put t k x) j d = getD t j d := by
  simp [getD, find_put_other t k j x h]

@[simp] theorem getD_del_same (t : Table α) (k : Nat) (d : α) : getD (del t k) k d = d := by simp [getD]

theorem getD_del_other (t : Table α) (k j : Nat) (d : α) (h : j ≠ k) : getD (del t k) j d = getD t j d := by
  simp [getD, find_del_other t k j h]

theorem mem_put (t : Table α) (k : Nat) (x : α) (e : Nat × α) (h : e ∈ put t k x) : e = (k, x) ∨ e ∈ t := by
  induction t with
  | nil => simpa [put] using h
  | cons c t ih =>
    obtain ⟨q, v⟩ := c
    by_cases h1 : k < q
    · simpa [put, h1] using h
    · by_cases h2 : k = q
      · simp [put, h2] at h; rcases h with h | h
        · exact .inl (by simp [h, h2])
        · exact .inr (by simp [h])
      · simp [put, h1, h2] at h; rcases h with h | h
        · exact .inr (by simp [h])
        · rcases ih h with h | h
          · exact .inl h
          · exact .inr (by simp [h])

theorem rising_put (t : Table α) (k : Nat) (x : α) (h : rising t) : rising (put t k x) := by
  induction t with
  | nil => simp [put, rising]
  | cons c t ih =>
    obtain ⟨q, v⟩ := c
    have hc := List.pairwise_cons.mp h
    by_cases h1 : k < q
    · simp only [put, h1, if_true]
      refine List.pairwise_cons.mpr ⟨?_, h⟩
      intro e he
      rcases List.mem_cons.mp he with rfl | he
      · exact h1
      · exact lt_trans h1 (hc.1 e he)
    · by_cases h2 : k = q
      · subst h2
        simp only [put, lt_irrefl, if_true, if_false]
        exact List.pairwise_cons.mpr ⟨fun e he => hc.1 e he, hc.2⟩
      · simp only [put, h1, h2, if_false]
        refine List.pairwise_cons.mpr ⟨?_, ih hc.2⟩
        intro e he
        rcases mem_put t k x e he with rfl | he
        · simp only; omega
        · exact hc.1 e he

theorem mem_del (t : Table α) (k : Nat) (e : Nat × α) (h : e ∈ del t k) : e ∈ t := by
  induction t with
  | nil => exact h
  | cons c t ih =>
    obtain ⟨q, v⟩ := c
    by_cases h1 : k = q
    · simp [del, h1] at h; exact List.mem_cons_of_mem _ (ih (by simpa [h1] using h))
    · simp [del, h1] at h; rcases h with h | h
      · simp [h]
      · exact List.mem_cons_of_mem _ (ih h)

theorem rising_del (t : Table α) (k : Nat) (h : rising t) : rising (del t k) := by
  induction t with
  | nil => exact h
  | cons c t ih =>
    obtain ⟨q, v⟩ := c
    have hc := List.pairwise_cons.mp h
    by_cases h1 : k = q
    · simp only [del, h1, if_true]; simpa [h1] using ih hc.2
    · simp only [del, h1, if_false]
      exact List.pairwise_cons.mpr ⟨fun e he => hc.1 e (mem_del t k e he), ih hc.2⟩

theorem rising_filter (t : Table α) (p : Nat × α → Bool) (h : rising t) : rising (t.filter p) := List.Pairwise.filter p h

/-- A fold of writes keeps the keys rising. -/
theorem rising_foldl_put {β : Type} (l : List β) (k : β → Nat) (v : β → α) (t : Table α) (h : rising t) :
    rising (l.foldl (fun t e => put t (k e) (v e)) t) := by
  induction l generalizing t with
  | nil => exact h
  | cons e l ih => exact ih _ (rising_put t _ _ h)

end Table

namespace Machine

/-! ## Device memory -/

@[simp] theorem Memory.read_erase_same (m : List Host.Cell) (a : Nat) : Memory.read (Memory.erase m a) a = Memory.unlisted := by
  induction m with
  | nil => rfl
  | cons e m ih =>
    obtain ⟨k, v⟩ := e
    by_cases h : a = k
    · simp [Memory.erase, h]; simpa [h] using ih
    · simp [Memory.erase, Memory.read, h, ih]

theorem Memory.read_erase_other (m : List Host.Cell) (a b : Nat) (h : b ≠ a) : Memory.read (Memory.erase m a) b = Memory.read m b := by
  induction m with
  | nil => rfl
  | cons e m ih =>
    obtain ⟨k, v⟩ := e
    by_cases h2 : a = k
    · subst h2; simp [Memory.erase, Memory.read, h, ih]
    · by_cases h3 : b = k
      · simp [Memory.erase, Memory.read, h2, h3]
      · simp [Memory.erase, Memory.read, h2, h3, ih]

@[simp] theorem Memory.read_insert_same (m : List Host.Cell) (a : Nat) (x : Byte) : Memory.read (Memory.insert m a x) a = x := by
  induction m with
  | nil => simp [Memory.insert, Memory.read]
  | cons e m ih =>
    obtain ⟨k, v⟩ := e
    by_cases h : a < k
    · simp [Memory.insert, Memory.read, h]
    · by_cases h2 : a = k
      · simp [Memory.insert, Memory.read, h2]
      · simp [Memory.insert, Memory.read, h, h2, ih]

theorem Memory.read_insert_other (m : List Host.Cell) (a b : Nat) (x : Byte) (h : b ≠ a) :
    Memory.read (Memory.insert m a x) b = Memory.read m b := by
  induction m with
  | nil => simp [Memory.insert, Memory.read, h]
  | cons e m ih =>
    obtain ⟨k, v⟩ := e
    by_cases h1 : a < k
    · simp [Memory.insert, Memory.read, h1, h]
    · by_cases h2 : a = k
      · subst h2; simp [Memory.insert, Memory.read, h]
      · simp [Memory.insert, Memory.read, h1, h2, ih]

/-- A read after a write to the same address gives the byte written. -/
@[simp] theorem Memory.read_write_same (m : List Host.Cell) (a : Nat) (x : Byte) : Memory.read (Memory.write m a x) a = x := by
  unfold Memory.write; split
  · next h => simp [h]
  · simp

/-- A write leaves every other address alone. -/
theorem Memory.read_write_other (m : List Host.Cell) (a b : Nat) (x : Byte) (h : b ≠ a) :
    Memory.read (Memory.write m a x) b = Memory.read m b := by
  unfold Memory.write; split
  · exact Memory.read_erase_other m a b h
  · exact Memory.read_insert_other m a b x h

/-- Writing bytes from an address on changes only the addresses they take. -/
theorem Memory.read_writeAll_outside (l : List Byte) (m : List Host.Cell) (a b : Nat) (h : b < a ∨ a + l.length ≤ b) :
    Memory.read (Memory.writeAll m a l) b = Memory.read m b := by
  induction l generalizing m a with
  | nil => rfl
  | cons x l ih =>
    simp only [List.length_cons] at h
    simp only [Memory.writeAll]
    rw [ih _ _ (by omega), Memory.read_write_other m a b x (by omega)]

/-- Each byte of a run of bytes reads back. -/
theorem Memory.read_writeAll_inside (l : List Byte) (m : List Host.Cell) (a i : Nat) (h : i < l.length) :
    Memory.read (Memory.writeAll m a l) (a + i) = l[i] := by
  induction l generalizing m a i with
  | nil => simp at h
  | cons x l ih =>
    simp only [Memory.writeAll]
    cases i with
    | zero => simp [Memory.read_writeAll_outside l _ (a + 1) a (by omega)]
    | succ i =>
      have := ih (Memory.write m a x) (a + 1) i (by simpa using h)
      simpa [Nat.add_assoc, Nat.add_comm 1 i] using this

theorem Memory.mem_erase (m : List Host.Cell) (a : Nat) (c : Host.Cell) (h : c ∈ Memory.erase m a) : c ∈ m := by
  induction m with
  | nil => exact h
  | cons e m ih =>
    obtain ⟨k, v⟩ := e
    by_cases h1 : a = k
    · simp [Memory.erase, h1] at h; exact List.mem_cons_of_mem _ (ih (by simpa [h1] using h))
    · simp [Memory.erase, h1] at h; rcases h with h | h
      · simp [h]
      · exact List.mem_cons_of_mem _ (ih h)

theorem Memory.mem_insert (m : List Host.Cell) (a : Nat) (x : Byte) (c : Host.Cell) (h : c ∈ Memory.insert m a x) :
    c = (a, x) ∨ c ∈ m := by
  induction m with
  | nil => simpa [Memory.insert] using h
  | cons e m ih =>
    obtain ⟨k, v⟩ := e
    by_cases h1 : a < k
    · simpa [Memory.insert, h1] using h
    · by_cases h2 : a = k
      · simp [Memory.insert, h2] at h; rcases h with h | h
        · exact .inl (by simp [h, h2])
        · exact .inr (by simp [h])
      · simp [Memory.insert, h1, h2] at h; rcases h with h | h
        · exact .inr (by simp [h])
        · rcases ih h with h | h
          · exact .inl h
          · exact .inr (by simp [h])

theorem Memory.wf_erase (m : List Host.Cell) (a : Nat) (h : Memory.wf m) : Memory.wf (Memory.erase m a) := by
  refine ⟨?_, fun c hc => h.2 c (Memory.mem_erase m a c hc)⟩
  have h1 := h.1
  clear h
  induction m with
  | nil => exact h1
  | cons e m ih =>
    obtain ⟨k, v⟩ := e
    have hc := List.pairwise_cons.mp h1
    by_cases h2 : a = k
    · simp only [Memory.erase, h2, if_true]; simpa [h2] using ih hc.2
    · simp only [Memory.erase, h2, if_false]
      exact List.pairwise_cons.mpr ⟨fun c hc' => hc.1 c (Memory.mem_erase m a c hc'), ih hc.2⟩

theorem Memory.wf_insert (m : List Host.Cell) (a : Nat) (x : Byte) (hx : x ≠ Memory.unlisted) (h : Memory.wf m) :
    Memory.wf (Memory.insert m a x) := by
  refine ⟨?_, fun c hc => ?_⟩
  · have h1 := h.1
    clear h
    induction m with
    | nil => simp [Memory.insert]
    | cons e m ih =>
      obtain ⟨k, v⟩ := e
      have hc := List.pairwise_cons.mp h1
      by_cases h2 : a < k
      · simp only [Memory.insert, h2, if_true]
        refine List.pairwise_cons.mpr ⟨?_, h1⟩
        intro c hcm
        rcases List.mem_cons.mp hcm with rfl | hcm
        · exact h2
        · exact lt_trans h2 (hc.1 c hcm)
      · by_cases h3 : a = k
        · subst h3
          simp only [Memory.insert, lt_irrefl, if_true, if_false]
          exact List.pairwise_cons.mpr ⟨fun c hcm => hc.1 c hcm, hc.2⟩
        · simp only [Memory.insert, h2, h3, if_false]
          refine List.pairwise_cons.mpr ⟨?_, ih hc.2⟩
          intro c hcm
          rcases Memory.mem_insert m a x c hcm with rfl | hcm
          · simp only; omega
          · exact hc.1 c hcm
  · rcases Memory.mem_insert m a x c hc with rfl | hc
    · exact hx
    · exact h.2 c hc

/-- A write keeps the canonical form. -/
theorem Memory.wf_write (m : List Host.Cell) (a : Nat) (x : Byte) (h : Memory.wf m) : Memory.wf (Memory.write m a x) := by
  unfold Memory.write; split
  · exact Memory.wf_erase m a h
  · next hx => exact Memory.wf_insert m a x hx h

/-- Writing several bytes keeps the canonical form. -/
theorem Memory.wf_writeAll (l : List Byte) (m : List Host.Cell) (a : Nat) (h : Memory.wf m) : Memory.wf (Memory.writeAll m a l) := by
  induction l generalizing m a with
  | nil => exact h
  | cons x l ih => exact ih _ _ (Memory.wf_write m a x h)

/-- Dropping cells keeps the canonical form. -/
theorem Memory.wf_filter (m : List Host.Cell) (p : Host.Cell → Bool) (h : Memory.wf m) : Memory.wf (m.filter p) :=
  ⟨List.Pairwise.filter p h.1, fun c hc => h.2 c (List.mem_filter.mp hc).1⟩

/-! ## Register fields -/

/-- Two fields of different names never share a key. -/
theorem fieldKey_ne (f g : Field) (h : f.id % 1024 ≠ g.id % 1024) : fieldKey f ≠ fieldKey g := by
  intro e; apply h; unfold fieldKey at e; omega

/-- A field reads as it was last written, cut to its width. -/
@[simp] theorem State.get_set_same (s : State) (f : Field) (v : Nat) : (s.set f v).get f = v % 2 ^ fieldWidth f := by
  unfold State.set State.get; split
  · next h => simp [h]
  · simp

/-- A write leaves every field with another key as it was. -/
theorem State.get_set_key (s : State) (f g : Field) (v : Nat) (h : fieldKey g ≠ fieldKey f) : (s.set f v).get g = s.get g := by
  unfold State.set State.get; split
  · simp [Table.getD_del_other _ _ _ _ h]
  · simp [Table.getD_put_other _ _ _ _ _ h]

/-- A write leaves every field of another name as it was. -/
theorem State.get_set_other (s : State) (f g : Field) (v : Nat) (h : g.id % 1024 ≠ f.id % 1024) : (s.set f v).get g = s.get g :=
  s.get_set_key f g v (fieldKey_ne g f h)

theorem State.regsWf_set (s : State) (f : Field) (v : Nat) (h : s.regsWf) : (s.set f v).regsWf := by
  unfold State.set State.regsWf; dsimp only; split
  · exact Table.rising_del _ _ h
  · exact Table.rising_put _ _ _ h

end Machine

end Sys2Proof
end

