-- ==== Sys2Proof/Laws/Keeps.lean ====
section
/-! SUPPORT. What a shared operation may change, as one number: bit i stands for part i of the state beside the registers, bit 64 + n
for the register fields of number n. `Keeps w s t` says that t differs from s only there, with the waiting commands kept, what was sent
kept, and soundness kept. Every operation has one such law, and a meaning's law is their composition. -/

namespace Sys2Proof.Machine

/-- The bit of a part. -/
def Part.index : Part → Nat
  | .latches => 0
  | .fresh => 1
  | .lc => 2
  | .tim => 3
  | .egr => 4
  | .slots => 5
  | .rx => 6
  | .cmps => 7
  | .safs => 8
  | .safKey => 9
  | .safFaultPin => 10
  | .lanes => 11
  | .wires => 12
  | .scns => 13
  | .trp => 14
  | .aud => 15
  | .dram => 16
  | .tasks => 17
  | .brk => 18
  | .scans => 19
  | .trans => 20
  | .fw => 21
  | .thm => 22
  | .sys => 23
  | .mirrorQ => 24
  | .faceStep => 25
  | .effortWas => 26
  | .selWas => 27
  | .standIns => 28
  | .fns => 29
  | .vfEnable => 30
  | .rings => 31
  | .masked => 32
  | .pba => 33
  | .unsigSince => 34
  | .ledger => 35
  | .limits => 36
  | .mem => 37
  | .free => 38

/-- What t keeps of s: everything but the register fields and parts whose bits are one in w. -/
structure Keeps (w : Nat) (s t : State) : Prop where
  queue : t.pending = s.pending
  sent : s.out <:+ t.out
  sound : s.Sound → t.Sound
  regs : ∀ f : Field, w.testBit (64 + f.id % 1024) = false → t.get f = s.get f
  latchesKept : w.testBit 0 = false → t.latches = s.latches
  freshKept : w.testBit 1 = false → t.fresh = s.fresh
  lcKept : w.testBit 2 = false → t.lc = s.lc
  timKept : w.testBit 3 = false → t.tim = s.tim
  egrKept : w.testBit 4 = false → t.egr = s.egr
  slotsKept : w.testBit 5 = false → t.slots = s.slots
  rxKept : w.testBit 6 = false → t.rx = s.rx
  cmpsKept : w.testBit 7 = false → t.cmps = s.cmps
  safsKept : w.testBit 8 = false → t.safs = s.safs
  safKeyKept : w.testBit 9 = false → t.safKey = s.safKey
  safFaultPinKept : w.testBit 10 = false → t.safFaultPin = s.safFaultPin
  lanesKept : w.testBit 11 = false → t.lanes = s.lanes
  wiresKept : w.testBit 12 = false → t.wires = s.wires
  scnsKept : w.testBit 13 = false → t.scns = s.scns
  trpKept : w.testBit 14 = false → t.trp = s.trp
  audKept : w.testBit 15 = false → t.aud = s.aud
  dramKept : w.testBit 16 = false → t.dram = s.dram
  tasksKept : w.testBit 17 = false → t.tasks = s.tasks
  brkKept : w.testBit 18 = false → t.brk = s.brk
  scansKept : w.testBit 19 = false → t.scans = s.scans
  transKept : w.testBit 20 = false → t.trans = s.trans
  fwKept : w.testBit 21 = false → t.fw = s.fw
  thmKept : w.testBit 22 = false → t.thm = s.thm
  sysKept : w.testBit 23 = false → t.sys = s.sys
  mirrorQKept : w.testBit 24 = false → t.mirrorQ = s.mirrorQ
  faceStepKept : w.testBit 25 = false → t.faceStep = s.faceStep
  effortWasKept : w.testBit 26 = false → t.effortWas = s.effortWas
  selWasKept : w.testBit 27 = false → t.selWas = s.selWas
  standInsKept : w.testBit 28 = false → t.standIns = s.standIns
  fnsKept : w.testBit 29 = false → t.fns = s.fns
  vfEnableKept : w.testBit 30 = false → t.vfEnable = s.vfEnable
  ringsKept : w.testBit 31 = false → t.rings = s.rings
  maskedKept : w.testBit 32 = false → t.masked = s.masked
  pbaKept : w.testBit 33 = false → t.pba = s.pba
  unsigSinceKept : w.testBit 34 = false → t.unsigSince = s.unsigSince
  ledgerKept : w.testBit 35 = false → t.ledger = s.ledger
  limitsKept : w.testBit 36 = false → t.limits = s.limits
  memKept : w.testBit 37 = false → t.mem = s.mem
  freeKept : w.testBit 38 = false → t.free = s.free

/-- Whether every one bit of a is one in b. -/
def within (a b : Nat) : Bool := a ||| b == b

theorem within_bit {a b i : Nat} (h : within a b = true) (hb : b.testBit i = false) : a.testBit i = false := by
  have h1 : (a ||| b).testBit i = b.testBit i := by rw [eq_of_beq h]
  rw [Nat.testBit_or, hb] at h1
  simpa using h1

theorem Keeps.refl (w : Nat) (s : State) : Keeps w s s :=
  ⟨rfl, List.suffix_refl _, id, fun _ _ => rfl, fun _ => rfl, fun _ => rfl, fun _ => rfl, fun _ => rfl, fun _ => rfl, fun _ => rfl, fun _ => rfl, fun _ => rfl, fun _ => rfl, fun _ => rfl, fun _ => rfl, fun _ => rfl, fun _ => rfl, fun _ => rfl, fun _ => rfl, fun _ => rfl, fun _ => rfl, fun _ => rfl, fun _ => rfl, fun _ => rfl, fun _ => rfl, fun _ => rfl, fun _ => rfl, fun _ => rfl, fun _ => rfl, fun _ => rfl, fun _ => rfl, fun _ => rfl, fun _ => rfl, fun _ => rfl, fun _ => rfl, fun _ => rfl, fun _ => rfl, fun _ => rfl, fun _ => rfl, fun _ => rfl, fun _ => rfl, fun _ => rfl, fun _ => rfl⟩

theorem Keeps.trans {w : Nat} {s t u : State} (h : Keeps w s t) (k : Keeps w t u) : Keeps w s u :=
  ⟨k.queue.trans h.queue, h.sent.trans k.sent, fun x => k.sound (h.sound x), fun f x => (k.regs f x).trans (h.regs f x),
   fun x => (k.latchesKept x).trans (h.latchesKept x),
   fun x => (k.freshKept x).trans (h.freshKept x),
   fun x => (k.lcKept x).trans (h.lcKept x),
   fun x => (k.timKept x).trans (h.timKept x),
   fun x => (k.egrKept x).trans (h.egrKept x),
   fun x => (k.slotsKept x).trans (h.slotsKept x),
   fun x => (k.rxKept x).trans (h.rxKept x),
   fun x => (k.cmpsKept x).trans (h.cmpsKept x),
   fun x => (k.safsKept x).trans (h.safsKept x),
   fun x => (k.safKeyKept x).trans (h.safKeyKept x),
   fun x => (k.safFaultPinKept x).trans (h.safFaultPinKept x),
   fun x => (k.lanesKept x).trans (h.lanesKept x),
   fun x => (k.wiresKept x).trans (h.wiresKept x),
   fun x => (k.scnsKept x).trans (h.scnsKept x),
   fun x => (k.trpKept x).trans (h.trpKept x),
   fun x => (k.audKept x).trans (h.audKept x),
   fun x => (k.dramKept x).trans (h.dramKept x),
   fun x => (k.tasksKept x).trans (h.tasksKept x),
   fun x => (k.brkKept x).trans (h.brkKept x),
   fun x => (k.scansKept x).trans (h.scansKept x),
   fun x => (k.transKept x).trans (h.transKept x),
   fun x => (k.fwKept x).trans (h.fwKept x),
   fun x => (k.thmKept x).trans (h.thmKept x),
   fun x => (k.sysKept x).trans (h.sysKept x),
   fun x => (k.mirrorQKept x).trans (h.mirrorQKept x),
   fun x => (k.faceStepKept x).trans (h.faceStepKept x),
   fun x => (k.effortWasKept x).trans (h.effortWasKept x),
   fun x => (k.selWasKept x).trans (h.selWasKept x),
   fun x => (k.standInsKept x).trans (h.standInsKept x),
   fun x => (k.fnsKept x).trans (h.fnsKept x),
   fun x => (k.vfEnableKept x).trans (h.vfEnableKept x),
   fun x => (k.ringsKept x).trans (h.ringsKept x),
   fun x => (k.maskedKept x).trans (h.maskedKept x),
   fun x => (k.pbaKept x).trans (h.pbaKept x),
   fun x => (k.unsigSinceKept x).trans (h.unsigSinceKept x),
   fun x => (k.ledgerKept x).trans (h.ledgerKept x),
   fun x => (k.limitsKept x).trans (h.limitsKept x),
   fun x => (k.memKept x).trans (h.memKept x),
   fun x => (k.freeKept x).trans (h.freeKept x)⟩

theorem Keeps.mono {a b : Nat} {s t : State} (h : Keeps a s t) (hw : within a b = true) : Keeps b s t :=
  ⟨h.queue, h.sent, h.sound, fun f x => h.regs f (within_bit hw x),
   fun x => h.latchesKept (within_bit hw x),
   fun x => h.freshKept (within_bit hw x),
   fun x => h.lcKept (within_bit hw x),
   fun x => h.timKept (within_bit hw x),
   fun x => h.egrKept (within_bit hw x),
   fun x => h.slotsKept (within_bit hw x),
   fun x => h.rxKept (within_bit hw x),
   fun x => h.cmpsKept (within_bit hw x),
   fun x => h.safsKept (within_bit hw x),
   fun x => h.safKeyKept (within_bit hw x),
   fun x => h.safFaultPinKept (within_bit hw x),
   fun x => h.lanesKept (within_bit hw x),
   fun x => h.wiresKept (within_bit hw x),
   fun x => h.scnsKept (within_bit hw x),
   fun x => h.trpKept (within_bit hw x),
   fun x => h.audKept (within_bit hw x),
   fun x => h.dramKept (within_bit hw x),
   fun x => h.tasksKept (within_bit hw x),
   fun x => h.brkKept (within_bit hw x),
   fun x => h.scansKept (within_bit hw x),
   fun x => h.transKept (within_bit hw x),
   fun x => h.fwKept (within_bit hw x),
   fun x => h.thmKept (within_bit hw x),
   fun x => h.sysKept (within_bit hw x),
   fun x => h.mirrorQKept (within_bit hw x),
   fun x => h.faceStepKept (within_bit hw x),
   fun x => h.effortWasKept (within_bit hw x),
   fun x => h.selWasKept (within_bit hw x),
   fun x => h.standInsKept (within_bit hw x),
   fun x => h.fnsKept (within_bit hw x),
   fun x => h.vfEnableKept (within_bit hw x),
   fun x => h.ringsKept (within_bit hw x),
   fun x => h.maskedKept (within_bit hw x),
   fun x => h.pbaKept (within_bit hw x),
   fun x => h.unsigSinceKept (within_bit hw x),
   fun x => h.ledgerKept (within_bit hw x),
   fun x => h.limitsKept (within_bit hw x),
   fun x => h.memKept (within_bit hw x),
   fun x => h.freeKept (within_bit hw x)⟩

/-- Go on from a state by an operation with a law of its own. -/
theorem Keeps.app {a w : Nat} {s t u : State} (h : Keeps w s t) (hw : within a w = true) (k : Keeps a t u) : Keeps w s u :=
  h.trans (k.mono hw)

/-- Other parts of the state are replaced, each one a part that may change or as it was. -/
theorem Keeps.mk' {w : Nat} {s t : State} {v_latches : Table Nat} {v_fresh : Table Nat} {v_lc : Nat} {v_tim : Tim} {v_egr : Egress} {v_slots : Table Slot} {v_rx : Table Rx} {v_cmps : Table Cmp} {v_safs : Table Saf} {v_safKey : Option Nat} {v_safFaultPin : Bool} {v_lanes : Table Lane} {v_wires : Table Wire} {v_scns : Table Scn} {v_trp : Trp} {v_aud : Aud} {v_dram : Dram} {v_tasks : Table Task} {v_brk : Brk} {v_scans : Table Scan} {v_trans : Option Trans} {v_fw : Fw} {v_thm : Thm} {v_sys : Sys} {v_mirrorQ : List MirrorRec} {v_faceStep : Table Nat} {v_effortWas : Nat × Nat} {v_selWas : Table (Nat × List Nat)} {v_standIns : List Nat} {v_fns : Table Fn} {v_vfEnable : Bool} {v_rings : Table Ring} {v_masked : Table Bool} {v_pba : Table Bool} {v_unsigSince : Table Nat} {v_ledger : Ledger} {v_limits : Table Nat} {v_free : Nat} (h : Keeps w s t)
    (p0 : w.testBit 0 = true ∨ v_latches = t.latches := by first | exact Or.inl rfl | exact Or.inr rfl)
    (p1 : w.testBit 1 = true ∨ v_fresh = t.fresh := by first | exact Or.inl rfl | exact Or.inr rfl)
    (p2 : w.testBit 2 = true ∨ v_lc = t.lc := by first | exact Or.inl rfl | exact Or.inr rfl)
    (p3 : w.testBit 3 = true ∨ v_tim = t.tim := by first | exact Or.inl rfl | exact Or.inr rfl)
    (p4 : w.testBit 4 = true ∨ v_egr = t.egr := by first | exact Or.inl rfl | exact Or.inr rfl)
    (p5 : w.testBit 5 = true ∨ v_slots = t.slots := by first | exact Or.inl rfl | exact Or.inr rfl)
    (p6 : w.testBit 6 = true ∨ v_rx = t.rx := by first | exact Or.inl rfl | exact Or.inr rfl)
    (p7 : w.testBit 7 = true ∨ v_cmps = t.cmps := by first | exact Or.inl rfl | exact Or.inr rfl)
    (p8 : w.testBit 8 = true ∨ v_safs = t.safs := by first | exact Or.inl rfl | exact Or.inr rfl)
    (p9 : w.testBit 9 = true ∨ v_safKey = t.safKey := by first | exact Or.inl rfl | exact Or.inr rfl)
    (p10 : w.testBit 10 = true ∨ v_safFaultPin = t.safFaultPin := by first | exact Or.inl rfl | exact Or.inr rfl)
    (p11 : w.testBit 11 = true ∨ v_lanes = t.lanes := by first | exact Or.inl rfl | exact Or.inr rfl)
    (p12 : w.testBit 12 = true ∨ v_wires = t.wires := by first | exact Or.inl rfl | exact Or.inr rfl)
    (p13 : w.testBit 13 = true ∨ v_scns = t.scns := by first | exact Or.inl rfl | exact Or.inr rfl)
    (p14 : w.testBit 14 = true ∨ v_trp = t.trp := by first | exact Or.inl rfl | exact Or.inr rfl)
    (p15 : w.testBit 15 = true ∨ v_aud = t.aud := by first | exact Or.inl rfl | exact Or.inr rfl)
    (p16 : w.testBit 16 = true ∨ v_dram = t.dram := by first | exact Or.inl rfl | exact Or.inr rfl)
    (p17 : w.testBit 17 = true ∨ v_tasks = t.tasks := by first | exact Or.inl rfl | exact Or.inr rfl)
    (p18 : w.testBit 18 = true ∨ v_brk = t.brk := by first | exact Or.inl rfl | exact Or.inr rfl)
    (p19 : w.testBit 19 = true ∨ v_scans = t.scans := by first | exact Or.inl rfl | exact Or.inr rfl)
    (p20 : w.testBit 20 = true ∨ v_trans = t.trans := by first | exact Or.inl rfl | exact Or.inr rfl)
    (p21 : w.testBit 21 = true ∨ v_fw = t.fw := by first | exact Or.inl rfl | exact Or.inr rfl)
    (p22 : w.testBit 22 = true ∨ v_thm = t.thm := by first | exact Or.inl rfl | exact Or.inr rfl)
    (p23 : w.testBit 23 = true ∨ v_sys = t.sys := by first | exact Or.inl rfl | exact Or.inr rfl)
    (p24 : w.testBit 24 = true ∨ v_mirrorQ = t.mirrorQ := by first | exact Or.inl rfl | exact Or.inr rfl)
    (p25 : w.testBit 25 = true ∨ v_faceStep = t.faceStep := by first | exact Or.inl rfl | exact Or.inr rfl)
    (p26 : w.testBit 26 = true ∨ v_effortWas = t.effortWas := by first | exact Or.inl rfl | exact Or.inr rfl)
    (p27 : w.testBit 27 = true ∨ v_selWas = t.selWas := by first | exact Or.inl rfl | exact Or.inr rfl)
    (p28 : w.testBit 28 = true ∨ v_standIns = t.standIns := by first | exact Or.inl rfl | exact Or.inr rfl)
    (p29 : w.testBit 29 = true ∨ v_fns = t.fns := by first | exact Or.inl rfl | exact Or.inr rfl)
    (p30 : w.testBit 30 = true ∨ v_vfEnable = t.vfEnable := by first | exact Or.inl rfl | exact Or.inr rfl)
    (p31 : w.testBit 31 = true ∨ v_rings = t.rings := by first | exact Or.inl rfl | exact Or.inr rfl)
    (p32 : w.testBit 32 = true ∨ v_masked = t.masked := by first | exact Or.inl rfl | exact Or.inr rfl)
    (p33 : w.testBit 33 = true ∨ v_pba = t.pba := by first | exact Or.inl rfl | exact Or.inr rfl)
    (p34 : w.testBit 34 = true ∨ v_unsigSince = t.unsigSince := by first | exact Or.inl rfl | exact Or.inr rfl)
    (p35 : w.testBit 35 = true ∨ v_ledger = t.ledger := by first | exact Or.inl rfl | exact Or.inr rfl)
    (p36 : w.testBit 36 = true ∨ v_limits = t.limits := by first | exact Or.inl rfl | exact Or.inr rfl)
    (p38 : w.testBit 38 = true ∨ v_free = t.free := by first | exact Or.inl rfl | exact Or.inr rfl) :
    Keeps w s (State.mk t.regs v_latches v_fresh v_lc v_tim v_egr v_slots v_rx v_cmps v_safs v_safKey v_safFaultPin v_lanes v_wires v_scns v_trp v_aud v_dram v_tasks v_brk v_scans v_trans v_fw v_thm v_sys v_mirrorQ v_faceStep v_effortWas v_selWas v_standIns v_fns v_vfEnable v_rings v_masked v_pba v_unsigSince v_ledger v_limits t.mem v_free t.out t.pending) := by
  refine h.trans ⟨rfl, List.suffix_refl _, fun x => ⟨x.regs, x.mem⟩, fun _ _ => rfl, ?_, ?_, ?_, ?_, ?_, ?_, ?_, ?_, ?_, ?_, ?_, ?_, ?_, ?_, ?_, ?_, ?_, ?_, ?_, ?_, ?_, ?_, ?_, ?_, ?_, ?_, ?_, ?_, ?_, ?_, ?_, ?_, ?_, ?_, ?_, ?_, ?_, fun _ => rfl, ?_⟩
  · intro x; rcases p0 with y | y
    · rw [y] at x; cases x
    · exact y
  · intro x; rcases p1 with y | y
    · rw [y] at x; cases x
    · exact y
  · intro x; rcases p2 with y | y
    · rw [y] at x; cases x
    · exact y
  · intro x; rcases p3 with y | y
    · rw [y] at x; cases x
    · exact y
  · intro x; rcases p4 with y | y
    · rw [y] at x; cases x
    · exact y
  · intro x; rcases p5 with y | y
    · rw [y] at x; cases x
    · exact y
  · intro x; rcases p6 with y | y
    · rw [y] at x; cases x
    · exact y
  · intro x; rcases p7 with y | y
    · rw [y] at x; cases x
    · exact y
  · intro x; rcases p8 with y | y
    · rw [y] at x; cases x
    · exact y
  · intro x; rcases p9 with y | y
    · rw [y] at x; cases x
    · exact y
  · intro x; rcases p10 with y | y
    · rw [y] at x; cases x
    · exact y
  · intro x; rcases p11 with y | y
    · rw [y] at x; cases x
    · exact y
  · intro x; rcases p12 with y | y
    · rw [y] at x; cases x
    · exact y
  · intro x; rcases p13 with y | y
    · rw [y] at x; cases x
    · exact y
  · intro x; rcases p14 with y | y
    · rw [y] at x; cases x
    · exact y
  · intro x; rcases p15 with y | y
    · rw [y] at x; cases x
    · exact y
  · intro x; rcases p16 with y | y
    · rw [y] at x; cases x
    · exact y
  · intro x; rcases p17 with y | y
    · rw [y] at x; cases x
    · exact y
  · intro x; rcases p18 with y | y
    · rw [y] at x; cases x
    · exact y
  · intro x; rcases p19 with y | y
    · rw [y] at x; cases x
    · exact y
  · intro x; rcases p20 with y | y
    · rw [y] at x; cases x
    · exact y
  · intro x; rcases p21 with y | y
    · rw [y] at x; cases x
    · exact y
  · intro x; rcases p22 with y | y
    · rw [y] at x; cases x
    · exact y
  · intro x; rcases p23 with y | y
    · rw [y] at x; cases x
    · exact y
  · intro x; rcases p24 with y | y
    · rw [y] at x; cases x
    · exact y
  · intro x; rcases p25 with y | y
    · rw [y] at x; cases x
    · exact y
  · intro x; rcases p26 with y | y
    · rw [y] at x; cases x
    · exact y
  · intro x; rcases p27 with y | y
    · rw [y] at x; cases x
    · exact y
  · intro x; rcases p28 with y | y
    · rw [y] at x; cases x
    · exact y
  · intro x; rcases p29 with y | y
    · rw [y] at x; cases x
    · exact y
  · intro x; rcases p30 with y | y
    · rw [y] at x; cases x
    · exact y
  · intro x; rcases p31 with y | y
    · rw [y] at x; cases x
    · exact y
  · intro x; rcases p32 with y | y
    · rw [y] at x; cases x
    · exact y
  · intro x; rcases p33 with y | y
    · rw [y] at x; cases x
    · exact y
  · intro x; rcases p34 with y | y
    · rw [y] at x; cases x
    · exact y
  · intro x; rcases p35 with y | y
    · rw [y] at x; cases x
    · exact y
  · intro x; rcases p36 with y | y
    · rw [y] at x; cases x
    · exact y
  · intro x; rcases p38 with y | y
    · rw [y] at x; cases x
    · exact y

/-- The registers are replaced by a rising store. -/
theorem Keeps.anyRegs {w : Nat} {s t : State} (r : Table Nat) (h : Keeps w s t) (hr : Table.rising t.regs → Table.rising r)
    (hw : ∀ n, n < 1024 → w.testBit (64 + n) = true) : Keeps w s { t with regs := r } := by
  refine h.trans ⟨rfl, List.suffix_refl _, fun x => ⟨hr x.regs, x.mem⟩, ?_, fun _ => rfl, fun _ => rfl, fun _ => rfl, fun _ => rfl, fun _ => rfl, fun _ => rfl, fun _ => rfl, fun _ => rfl, fun _ => rfl, fun _ => rfl, fun _ => rfl, fun _ => rfl, fun _ => rfl, fun _ => rfl, fun _ => rfl, fun _ => rfl, fun _ => rfl, fun _ => rfl, fun _ => rfl, fun _ => rfl, fun _ => rfl, fun _ => rfl, fun _ => rfl, fun _ => rfl, fun _ => rfl, fun _ => rfl, fun _ => rfl, fun _ => rfl, fun _ => rfl, fun _ => rfl, fun _ => rfl, fun _ => rfl, fun _ => rfl, fun _ => rfl, fun _ => rfl, fun _ => rfl, fun _ => rfl, fun _ => rfl, fun _ => rfl⟩
  intro f hf
  rw [hw _ (Nat.mod_lt _ (by decide))] at hf
  cases hf

/-- The memory is replaced by a canonical one. -/
theorem Keeps.anyMem {w : Nat} {s t : State} (m : List Host.Cell) (h : Keeps w s t) (hm : Memory.wf t.mem → Memory.wf m)
    (hw : w.testBit 37 = true) : Keeps w s { t with mem := m } := by
  refine h.trans ⟨rfl, List.suffix_refl _, fun x => ⟨x.regs, hm x.mem⟩, fun _ _ => rfl, fun _ => rfl, fun _ => rfl, fun _ => rfl, fun _ => rfl, fun _ => rfl, fun _ => rfl, fun _ => rfl, fun _ => rfl, fun _ => rfl, fun _ => rfl, fun _ => rfl, fun _ => rfl, fun _ => rfl, fun _ => rfl, fun _ => rfl, fun _ => rfl, fun _ => rfl, fun _ => rfl, fun _ => rfl, fun _ => rfl, fun _ => rfl, fun _ => rfl, fun _ => rfl, fun _ => rfl, fun _ => rfl, fun _ => rfl, fun _ => rfl, fun _ => rfl, fun _ => rfl, fun _ => rfl, fun _ => rfl, fun _ => rfl, fun _ => rfl, fun _ => rfl, fun _ => rfl, fun _ => rfl, fun _ => rfl, ?_, fun _ => rfl⟩
  intro x; rw [hw] at x; cases x

/-! ## The operations everything is written over -/

theorem State.set_keeps {w : Nat} {s t : State} {f : Field} {v : Nat} (hf : w.testBit (64 + f.id % 1024) = true)
    (h : Keeps w s t) : Keeps w s (t.set f v) := by
  refine h.trans ⟨rfl, List.suffix_refl _, fun x => ⟨t.regsWf_set f v x.regs, x.mem⟩, ?_, fun _ => rfl, fun _ => rfl, fun _ => rfl, fun _ => rfl, fun _ => rfl, fun _ => rfl, fun _ => rfl, fun _ => rfl, fun _ => rfl, fun _ => rfl, fun _ => rfl, fun _ => rfl, fun _ => rfl, fun _ => rfl, fun _ => rfl, fun _ => rfl, fun _ => rfl, fun _ => rfl, fun _ => rfl, fun _ => rfl, fun _ => rfl, fun _ => rfl, fun _ => rfl, fun _ => rfl, fun _ => rfl, fun _ => rfl, fun _ => rfl, fun _ => rfl, fun _ => rfl, fun _ => rfl, fun _ => rfl, fun _ => rfl, fun _ => rfl, fun _ => rfl, fun _ => rfl, fun _ => rfl, fun _ => rfl, fun _ => rfl, fun _ => rfl⟩
  intro g hg
  exact t.get_set_other f g v (fun e => by rw [e, hf] at hg; cases hg)

theorem Keeps.emit {w : Nat} {s t : State} (o : Output) (h : Keeps w s t) : Keeps w s (t.emit o) :=
  h.trans ⟨rfl, List.suffix_cons _ _, fun x => ⟨x.regs, x.mem⟩, fun _ _ => rfl, fun _ => rfl, fun _ => rfl, fun _ => rfl, fun _ => rfl, fun _ => rfl, fun _ => rfl, fun _ => rfl, fun _ => rfl, fun _ => rfl, fun _ => rfl, fun _ => rfl, fun _ => rfl, fun _ => rfl, fun _ => rfl, fun _ => rfl, fun _ => rfl, fun _ => rfl, fun _ => rfl, fun _ => rfl, fun _ => rfl, fun _ => rfl, fun _ => rfl, fun _ => rfl, fun _ => rfl, fun _ => rfl, fun _ => rfl, fun _ => rfl, fun _ => rfl, fun _ => rfl, fun _ => rfl, fun _ => rfl, fun _ => rfl, fun _ => rfl, fun _ => rfl, fun _ => rfl, fun _ => rfl, fun _ => rfl, fun _ => rfl, fun _ => rfl⟩

theorem Keeps.ite {w : Nat} {s t u : State} (c : Prop) [Decidable c] (h : Keeps w s t) (k : Keeps w s u) :
    Keeps w s (if c then t else u) := by
  split <;> assumption

theorem Keeps.foldl {w : Nat} {s t : State} {α : Type} (f : State → α → State) (l : List α) (h : Keeps w s t)
    (k : ∀ u x, Keeps w s u → Keeps w s (f u x)) : Keeps w s (l.foldl f t) := by
  induction l generalizing t with
  | nil => exact h
  | cons x l ih => exact ih (k t x h)

theorem within_trans {a b c : Nat} (h : within a b = true) (k : within b c = true) : within a c = true := by
  have h1 := eq_of_beq h
  have h2 := eq_of_beq k
  refine beq_iff_eq.mpr ?_
  rw [← h2, ← Nat.or_assoc, h1]

/-- A bit of a number is one in every number it is within. -/
theorem bit_within {a b i : Nat} (h : a.testBit i = true) (k : within a b = true) : b.testBit i = true := by
  cases hb : b.testBit i with
  | true => rfl
  | false => rw [within_bit k hb] at h; cases h

/-- The fields of a list are all among those that may change. -/
def inMask (w : Nat) (l : List Field) : Prop := ∀ f ∈ l, w.testBit (64 + f.id % 1024) = true

theorem inMask_nil (w : Nat) : inMask w [] := fun _ h => nomatch h

theorem inMask_cons {w : Nat} {f : Field} {l : List Field} (h : w.testBit (64 + f.id % 1024) = true) (k : inMask w l) :
    inMask w (f :: l) := fun g hg => by
  rcases List.mem_cons.mp hg with rfl | hg
  · exact h
  · exact k g hg

theorem inMask_append {w : Nat} {l m : List Field} (h : inMask w l) (k : inMask w m) : inMask w (l ++ m) := fun g hg => by
  rcases List.mem_append.mp hg with hg | hg
  · exact h g hg
  · exact k g hg

/-- A question about one bit, as it is. -/
theorem asBit {w n : Nat} (h : w.testBit n = true) : w.testBit n = true := h

theorem inMask_ite {w : Nat} {l m : List Field} (c : Prop) [Decidable c] (h : inMask w l) (k : inMask w m) :
    inMask w (if c then l else m) := by
  split <;> assumption

theorem inMask_map {w : Nat} {α : Type} {l : List α} {f : α → Field} (h : ∀ x, w.testBit (64 + (f x).id % 1024) = true) :
    inMask w (l.map f) := fun g hg => by
  obtain ⟨x, _, rfl⟩ := List.mem_map.mp hg
  exact h x

theorem inMask_flatMap {w : Nat} {α : Type} {l : List α} {f : α → List Field} (h : ∀ x, inMask w (f x)) : inMask w (l.flatMap f) :=
  fun g hg => by
    obtain ⟨x, _, hx⟩ := List.mem_flatMap.mp hg
    exact h x g hx

/-- When every field may change, so may those of any list. -/
theorem inMask_all {w : Nat} {l : List Field} (h : ∀ n, n < 1024 → w.testBit (64 + n) = true) : inMask w l :=
  fun _ _ => h _ (Nat.mod_lt _ (by decide))

/-- Everything may change. -/
def anything : Nat := 0xffffffffffffffffffffffffffffffffffffffffffffffffffffffffffffffffffffffffffffffffffffffffffffffffffffffffffffffffffffffffffffffffffffffffffffffffffffffffffffffffffffffffffffffffffffffffffffffffffffffffffffffffffffffffffffffffffffffffffffffffffffffffffffffffffffffffffffffff

theorem anything_eq : anything = 2 ^ (8 * 136) - 1 := by decide +kernel

theorem anything_bit (n : Nat) (h : n < 1088) : anything.testBit n = true := by
  rw [anything_eq, Nat.testBit_two_pow_sub_one]; exact decide_eq_true (by omega)

/-- Every register field may change. -/
def registers : Nat := 0xffffffffffffffffffffffffffffffffffffffffffffffffffffffffffffffffffffffffffffffffffffffffffffffffffffffffffffffffffffffffffffffffffffffffffffffffffffffffffffffffffffffffffffffffffffffffffffffffffffffffffffffffffffffffffffffffffffffffffffffffffffffffffffffff0000000000000000

theorem registers_eq : registers = (2 ^ (8 * 128) - 1) <<< 64 := by decide +kernel

theorem registers_bit (n : Nat) (h : n < 1024) : registers.testBit (64 + n) = true := by
  rw [registers_eq, Nat.testBit_shiftLeft, Nat.testBit_two_pow_sub_one]; simp; omega

/-- Parts of the state are replaced, the memory among them. -/
theorem Keeps.mkMem {w : Nat} {s t : State} {v_latches : Table Nat} {v_fresh : Table Nat} {v_lc : Nat} {v_tim : Tim} {v_egr : Egress} {v_slots : Table Slot} {v_rx : Table Rx} {v_cmps : Table Cmp} {v_safs : Table Saf} {v_safKey : Option Nat} {v_safFaultPin : Bool} {v_lanes : Table Lane} {v_wires : Table Wire} {v_scns : Table Scn} {v_trp : Trp} {v_aud : Aud} {v_dram : Dram} {v_tasks : Table Task} {v_brk : Brk} {v_scans : Table Scan} {v_trans : Option Trans} {v_fw : Fw} {v_thm : Thm} {v_sys : Sys} {v_mirrorQ : List MirrorRec} {v_faceStep : Table Nat} {v_effortWas : Nat × Nat} {v_selWas : Table (Nat × List Nat)} {v_standIns : List Nat} {v_fns : Table Fn} {v_vfEnable : Bool} {v_rings : Table Ring} {v_masked : Table Bool} {v_pba : Table Bool} {v_unsigSince : Table Nat} {v_ledger : Ledger} {v_limits : Table Nat} {v_free : Nat} {v_mem : List Host.Cell} (h : Keeps w s t) (hm : Memory.wf t.mem → Memory.wf v_mem) (hw : w.testBit 37 = true)
    (p0 : w.testBit 0 = true ∨ v_latches = t.latches := by first | exact Or.inl rfl | exact Or.inr rfl)
    (p1 : w.testBit 1 = true ∨ v_fresh = t.fresh := by first | exact Or.inl rfl | exact Or.inr rfl)
    (p2 : w.testBit 2 = true ∨ v_lc = t.lc := by first | exact Or.inl rfl | exact Or.inr rfl)
    (p3 : w.testBit 3 = true ∨ v_tim = t.tim := by first | exact Or.inl rfl | exact Or.inr rfl)
    (p4 : w.testBit 4 = true ∨ v_egr = t.egr := by first | exact Or.inl rfl | exact Or.inr rfl)
    (p5 : w.testBit 5 = true ∨ v_slots = t.slots := by first | exact Or.inl rfl | exact Or.inr rfl)
    (p6 : w.testBit 6 = true ∨ v_rx = t.rx := by first | exact Or.inl rfl | exact Or.inr rfl)
    (p7 : w.testBit 7 = true ∨ v_cmps = t.cmps := by first | exact Or.inl rfl | exact Or.inr rfl)
    (p8 : w.testBit 8 = true ∨ v_safs = t.safs := by first | exact Or.inl rfl | exact Or.inr rfl)
    (p9 : w.testBit 9 = true ∨ v_safKey = t.safKey := by first | exact Or.inl rfl | exact Or.inr rfl)
    (p10 : w.testBit 10 = true ∨ v_safFaultPin = t.safFaultPin := by first | exact Or.inl rfl | exact Or.inr rfl)
    (p11 : w.testBit 11 = true ∨ v_lanes = t.lanes := by first | exact Or.inl rfl | exact Or.inr rfl)
    (p12 : w.testBit 12 = true ∨ v_wires = t.wires := by first | exact Or.inl rfl | exact Or.inr rfl)
    (p13 : w.testBit 13 = true ∨ v_scns = t.scns := by first | exact Or.inl rfl | exact Or.inr rfl)
    (p14 : w.testBit 14 = true ∨ v_trp = t.trp := by first | exact Or.inl rfl | exact Or.inr rfl)
    (p15 : w.testBit 15 = true ∨ v_aud = t.aud := by first | exact Or.inl rfl | exact Or.inr rfl)
    (p16 : w.testBit 16 = true ∨ v_dram = t.dram := by first | exact Or.inl rfl | exact Or.inr rfl)
    (p17 : w.testBit 17 = true ∨ v_tasks = t.tasks := by first | exact Or.inl rfl | exact Or.inr rfl)
    (p18 : w.testBit 18 = true ∨ v_brk = t.brk := by first | exact Or.inl rfl | exact Or.inr rfl)
    (p19 : w.testBit 19 = true ∨ v_scans = t.scans := by first | exact Or.inl rfl | exact Or.inr rfl)
    (p20 : w.testBit 20 = true ∨ v_trans = t.trans := by first | exact Or.inl rfl | exact Or.inr rfl)
    (p21 : w.testBit 21 = true ∨ v_fw = t.fw := by first | exact Or.inl rfl | exact Or.inr rfl)
    (p22 : w.testBit 22 = true ∨ v_thm = t.thm := by first | exact Or.inl rfl | exact Or.inr rfl)
    (p23 : w.testBit 23 = true ∨ v_sys = t.sys := by first | exact Or.inl rfl | exact Or.inr rfl)
    (p24 : w.testBit 24 = true ∨ v_mirrorQ = t.mirrorQ := by first | exact Or.inl rfl | exact Or.inr rfl)
    (p25 : w.testBit 25 = true ∨ v_faceStep = t.faceStep := by first | exact Or.inl rfl | exact Or.inr rfl)
    (p26 : w.testBit 26 = true ∨ v_effortWas = t.effortWas := by first | exact Or.inl rfl | exact Or.inr rfl)
    (p27 : w.testBit 27 = true ∨ v_selWas = t.selWas := by first | exact Or.inl rfl | exact Or.inr rfl)
    (p28 : w.testBit 28 = true ∨ v_standIns = t.standIns := by first | exact Or.inl rfl | exact Or.inr rfl)
    (p29 : w.testBit 29 = true ∨ v_fns = t.fns := by first | exact Or.inl rfl | exact Or.inr rfl)
    (p30 : w.testBit 30 = true ∨ v_vfEnable = t.vfEnable := by first | exact Or.inl rfl | exact Or.inr rfl)
    (p31 : w.testBit 31 = true ∨ v_rings = t.rings := by first | exact Or.inl rfl | exact Or.inr rfl)
    (p32 : w.testBit 32 = true ∨ v_masked = t.masked := by first | exact Or.inl rfl | exact Or.inr rfl)
    (p33 : w.testBit 33 = true ∨ v_pba = t.pba := by first | exact Or.inl rfl | exact Or.inr rfl)
    (p34 : w.testBit 34 = true ∨ v_unsigSince = t.unsigSince := by first | exact Or.inl rfl | exact Or.inr rfl)
    (p35 : w.testBit 35 = true ∨ v_ledger = t.ledger := by first | exact Or.inl rfl | exact Or.inr rfl)
    (p36 : w.testBit 36 = true ∨ v_limits = t.limits := by first | exact Or.inl rfl | exact Or.inr rfl)
    (p38 : w.testBit 38 = true ∨ v_free = t.free := by first | exact Or.inl rfl | exact Or.inr rfl) :
    Keeps w s (State.mk t.regs v_latches v_fresh v_lc v_tim v_egr v_slots v_rx v_cmps v_safs v_safKey v_safFaultPin v_lanes v_wires v_scns v_trp v_aud v_dram v_tasks v_brk v_scans v_trans v_fw v_thm v_sys v_mirrorQ v_faceStep v_effortWas v_selWas v_standIns v_fns v_vfEnable v_rings v_masked v_pba v_unsigSince v_ledger v_limits v_mem v_free t.out t.pending) :=
  Keeps.mk' (Keeps.anyMem v_mem h hm hw) p0 p1 p2 p3 p4 p5 p6 p7 p8 p9 p10 p11 p12 p13 p14 p15 p16 p17 p18 p19 p20 p21 p22 p23 p24 p25 p26 p27 p28 p29 p30 p31 p32 p33 p34 p35 p36 p38

/-- Parts of the state are replaced, all registers among them. -/
theorem Keeps.mkRegs {w : Nat} {s t : State} {v_latches : Table Nat} {v_fresh : Table Nat} {v_lc : Nat} {v_tim : Tim} {v_egr : Egress} {v_slots : Table Slot} {v_rx : Table Rx} {v_cmps : Table Cmp} {v_safs : Table Saf} {v_safKey : Option Nat} {v_safFaultPin : Bool} {v_lanes : Table Lane} {v_wires : Table Wire} {v_scns : Table Scn} {v_trp : Trp} {v_aud : Aud} {v_dram : Dram} {v_tasks : Table Task} {v_brk : Brk} {v_scans : Table Scan} {v_trans : Option Trans} {v_fw : Fw} {v_thm : Thm} {v_sys : Sys} {v_mirrorQ : List MirrorRec} {v_faceStep : Table Nat} {v_effortWas : Nat × Nat} {v_selWas : Table (Nat × List Nat)} {v_standIns : List Nat} {v_fns : Table Fn} {v_vfEnable : Bool} {v_rings : Table Ring} {v_masked : Table Bool} {v_pba : Table Bool} {v_unsigSince : Table Nat} {v_ledger : Ledger} {v_limits : Table Nat} {v_free : Nat} {v_regs : Table Nat} (h : Keeps w s t) (hr : Table.rising t.regs → Table.rising v_regs) (hw : within registers w = true)
    (p0 : w.testBit 0 = true ∨ v_latches = t.latches := by first | exact Or.inl rfl | exact Or.inr rfl)
    (p1 : w.testBit 1 = true ∨ v_fresh = t.fresh := by first | exact Or.inl rfl | exact Or.inr rfl)
    (p2 : w.testBit 2 = true ∨ v_lc = t.lc := by first | exact Or.inl rfl | exact Or.inr rfl)
    (p3 : w.testBit 3 = true ∨ v_tim = t.tim := by first | exact Or.inl rfl | exact Or.inr rfl)
    (p4 : w.testBit 4 = true ∨ v_egr = t.egr := by first | exact Or.inl rfl | exact Or.inr rfl)
    (p5 : w.testBit 5 = true ∨ v_slots = t.slots := by first | exact Or.inl rfl | exact Or.inr rfl)
    (p6 : w.testBit 6 = true ∨ v_rx = t.rx := by first | exact Or.inl rfl | exact Or.inr rfl)
    (p7 : w.testBit 7 = true ∨ v_cmps = t.cmps := by first | exact Or.inl rfl | exact Or.inr rfl)
    (p8 : w.testBit 8 = true ∨ v_safs = t.safs := by first | exact Or.inl rfl | exact Or.inr rfl)
    (p9 : w.testBit 9 = true ∨ v_safKey = t.safKey := by first | exact Or.inl rfl | exact Or.inr rfl)
    (p10 : w.testBit 10 = true ∨ v_safFaultPin = t.safFaultPin := by first | exact Or.inl rfl | exact Or.inr rfl)
    (p11 : w.testBit 11 = true ∨ v_lanes = t.lanes := by first | exact Or.inl rfl | exact Or.inr rfl)
    (p12 : w.testBit 12 = true ∨ v_wires = t.wires := by first | exact Or.inl rfl | exact Or.inr rfl)
    (p13 : w.testBit 13 = true ∨ v_scns = t.scns := by first | exact Or.inl rfl | exact Or.inr rfl)
    (p14 : w.testBit 14 = true ∨ v_trp = t.trp := by first | exact Or.inl rfl | exact Or.inr rfl)
    (p15 : w.testBit 15 = true ∨ v_aud = t.aud := by first | exact Or.inl rfl | exact Or.inr rfl)
    (p16 : w.testBit 16 = true ∨ v_dram = t.dram := by first | exact Or.inl rfl | exact Or.inr rfl)
    (p17 : w.testBit 17 = true ∨ v_tasks = t.tasks := by first | exact Or.inl rfl | exact Or.inr rfl)
    (p18 : w.testBit 18 = true ∨ v_brk = t.brk := by first | exact Or.inl rfl | exact Or.inr rfl)
    (p19 : w.testBit 19 = true ∨ v_scans = t.scans := by first | exact Or.inl rfl | exact Or.inr rfl)
    (p20 : w.testBit 20 = true ∨ v_trans = t.trans := by first | exact Or.inl rfl | exact Or.inr rfl)
    (p21 : w.testBit 21 = true ∨ v_fw = t.fw := by first | exact Or.inl rfl | exact Or.inr rfl)
    (p22 : w.testBit 22 = true ∨ v_thm = t.thm := by first | exact Or.inl rfl | exact Or.inr rfl)
    (p23 : w.testBit 23 = true ∨ v_sys = t.sys := by first | exact Or.inl rfl | exact Or.inr rfl)
    (p24 : w.testBit 24 = true ∨ v_mirrorQ = t.mirrorQ := by first | exact Or.inl rfl | exact Or.inr rfl)
    (p25 : w.testBit 25 = true ∨ v_faceStep = t.faceStep := by first | exact Or.inl rfl | exact Or.inr rfl)
    (p26 : w.testBit 26 = true ∨ v_effortWas = t.effortWas := by first | exact Or.inl rfl | exact Or.inr rfl)
    (p27 : w.testBit 27 = true ∨ v_selWas = t.selWas := by first | exact Or.inl rfl | exact Or.inr rfl)
    (p28 : w.testBit 28 = true ∨ v_standIns = t.standIns := by first | exact Or.inl rfl | exact Or.inr rfl)
    (p29 : w.testBit 29 = true ∨ v_fns = t.fns := by first | exact Or.inl rfl | exact Or.inr rfl)
    (p30 : w.testBit 30 = true ∨ v_vfEnable = t.vfEnable := by first | exact Or.inl rfl | exact Or.inr rfl)
    (p31 : w.testBit 31 = true ∨ v_rings = t.rings := by first | exact Or.inl rfl | exact Or.inr rfl)
    (p32 : w.testBit 32 = true ∨ v_masked = t.masked := by first | exact Or.inl rfl | exact Or.inr rfl)
    (p33 : w.testBit 33 = true ∨ v_pba = t.pba := by first | exact Or.inl rfl | exact Or.inr rfl)
    (p34 : w.testBit 34 = true ∨ v_unsigSince = t.unsigSince := by first | exact Or.inl rfl | exact Or.inr rfl)
    (p35 : w.testBit 35 = true ∨ v_ledger = t.ledger := by first | exact Or.inl rfl | exact Or.inr rfl)
    (p36 : w.testBit 36 = true ∨ v_limits = t.limits := by first | exact Or.inl rfl | exact Or.inr rfl)
    (p38 : w.testBit 38 = true ∨ v_free = t.free := by first | exact Or.inl rfl | exact Or.inr rfl) :
    Keeps w s (State.mk v_regs v_latches v_fresh v_lc v_tim v_egr v_slots v_rx v_cmps v_safs v_safKey v_safFaultPin v_lanes v_wires v_scns v_trp v_aud v_dram v_tasks v_brk v_scans v_trans v_fw v_thm v_sys v_mirrorQ v_faceStep v_effortWas v_selWas v_standIns v_fns v_vfEnable v_rings v_masked v_pba v_unsigSince v_ledger v_limits t.mem v_free t.out t.pending) :=
  Keeps.mk' (Keeps.anyRegs v_regs h hr (fun n hn => bit_within (registers_bit n hn) hw)) p0 p1 p2 p3 p4 p5 p6 p7 p8 p9 p10 p11 p12 p13 p14 p15 p16 p17 p18 p19 p20 p21 p22 p23 p24 p25 p26 p27 p28 p29 p30 p31 p32 p33 p34 p35 p36 p38

end Sys2Proof.Machine
end

