-- ==== Sys2Proof/Laws/KeepsOps.lean ====
section
/-! SUPPORT. What each operation of Machine/Ops.lean may change (Laws/Keeps.lean). -/

namespace Sys2Proof.Machine

set_option Elab.async false
set_option linter.unusedTactic false
set_option linter.unusedSimpArgs false
set_option linter.unreachableTactic false



theorem State.setAll_keeps {w u s l} (hl : inMask w (l.map (fun (e : Field × Nat) => e.1))) (h : Keeps w u s) : Keeps w u (State.setAll s l) := by
  induction l generalizing s with
  | nil => exact h
  | cons e l ih =>
    obtain ⟨f, v⟩ := e
    exact ih (fun g hg => hl g (by simp at hg ⊢; exact .inr hg)) (State.set_keeps (hl f (by simp)) h)

theorem State.freshen_keeps {w u s f b} (h : Keeps w u s) (hw : within 0x2 w = true := by decide) : Keeps w u (State.freshen s f b) := by
  refine h.app hw ?_
  unfold State.freshen
  exact Keeps.mk' (.refl _ _)

theorem State.flag_keeps {w u s f b} (hf : w.testBit (64 + f.id % 1024) = true) (h : Keeps w u s) (hw : within 0x2 w = true := by decide) :
    Keeps w u (State.flag s f b) := State.freshen_keeps (State.set_keeps hf h) hw

theorem State.clear_keeps {w u s l} (hl : inMask w l) (h : Keeps w u s) : Keeps w u (State.clear s l) := by
  induction l generalizing s with
  | nil => exact h
  | cons f l ih => exact ih (fun g hg => hl g (List.mem_cons_of_mem _ hg)) (State.set_keeps (hl f List.mem_cons_self) h)

theorem State.resetFields_keeps {w u s l} (hl : inMask w l) (h : Keeps w u s) : Keeps w u (State.resetFields s l) := by
  induction l generalizing s with
  | nil => exact h
  | cons f l ih => exact ih (fun g hg => hl g (List.mem_cons_of_mem _ hg)) (State.set_keeps (hl f List.mem_cons_self) h)

theorem State.count_keeps {w u s f n} (hf : w.testBit (64 + f.id % 1024) = true) (h : Keeps w u s) (hw : within 0x2 w = true := by decide) :
    Keeps w u (State.count s f n) := by
  unfold State.count
  split
  · exact h
  · exact State.freshen_keeps (State.set_keeps hf h) hw

theorem State.bump_keeps {w u s f} (hf : w.testBit (64 + f.id % 1024) = true) (h : Keeps w u s) (hw : within 0x2 w = true := by decide) :
    Keeps w u (State.bump s f) := State.count_keeps hf h hw

theorem State.setMax_keeps {w u s f v} (hf : w.testBit (64 + f.id % 1024) = true) (h : Keeps w u s) :
    Keeps w u (State.setMax s f v) := State.set_keeps hf h

theorem State.set64_keeps {w u s lo hi v} (hl : w.testBit (64 + lo.id % 1024) = true) (hh : w.testBit (64 + hi.id % 1024) = true)
    (h : Keeps w u s) : Keeps w u (State.set64 s lo hi v) := State.set_keeps hh (State.set_keeps hl h)

theorem State.count64_keeps {w u s lo hi n} (hl : w.testBit (64 + lo.id % 1024) = true) (hh : w.testBit (64 + hi.id % 1024) = true)
    (h : Keeps w u s) (hw : within 0x2 w = true := by decide) : Keeps w u (State.count64 s lo hi n) := by
  unfold State.count64
  split
  · exact h
  · exact State.freshen_keeps (State.set64_keeps hl hh h) hw

theorem State.copyBank_keeps {w u s a b l} (hl : inMask w l) (h : Keeps w u s) : Keeps w u (State.copyBank s a b l) := by
  induction l generalizing s with
  | nil => exact h
  | cons f l ih => exact ih (fun g hg => hl g (List.mem_cons_of_mem _ hg)) (State.set_keeps (hl f List.mem_cons_self) h)

theorem State.resetBlock_keeps {w u s b} (h : Keeps w u s) (hw : within registers w = true := by decide) : Keeps w u (State.resetBlock s b) := by
  unfold State.resetBlock
  exact h.anyRegs _ (Table.rising_filter _ _) (fun n hn => bit_within (registers_bit n hn) hw)

theorem State.draw_keeps {w u s} (h : Keeps w u s) (hw : within 0x4000000000 w = true := by decide) : Keeps w u (State.draw s).2 := by
  refine h.app hw ?_
  unfold State.draw
  exact Keeps.mk' (.refl _ _)

theorem State.emit_keeps {w u s o} (h : Keeps w u s) : Keeps w u (State.emit s o) := h.emit o

theorem State.emitAll_keeps {w u s l} (h : Keeps w u s) : Keeps w u (State.emitAll s l) := by
  induction l generalizing s with
  | nil => exact h
  | cons o l ih => exact ih (State.emit_keeps h)

theorem State.store_keeps {w u s a l} (h : Keeps w u s) (hw : within 0x2000010000 w = true := by decide) : Keeps w u (State.store s a l) := by
  unfold State.store
  have k : Keeps w u { s with mem := Memory.writeAll s.mem a l } :=
    h.anyMem _ (Memory.wf_writeAll l s.mem a) (bit_within (by decide) hw)
  refine k.app hw ?_
  exact Keeps.mk' (.refl _ _)

theorem State.putRun_keeps {m0 s0 s a len given} (h0 : Keeps m0 s0 s) (hw0 : within 0x4000010000 m0 = true := by decide) :
    Keeps m0 s0 (State.putRun s a len given) := by
  refine h0.app hw0 ?_
  unfold State.putRun
  try dsimp only
  repeat' first
    | with_reducible exact .refl _ _
    | with_reducible assumption
    | fail_if_no_progress with_reducible refine Keeps.mk' ?_
    | split
    | dsimp only

theorem State.setDomain_keeps {m0 s0 s d x} (h0 : Keeps m0 s0 s) (hw0 : within 0x8 m0 = true := by decide) :
    Keeps m0 s0 (State.setDomain s d x) := by
  refine h0.app hw0 ?_
  unfold State.setDomain
  try dsimp only
  repeat' first
    | with_reducible exact .refl _ _
    | with_reducible assumption
    | with_reducible refine .ite _ ?_ ?_
    | fail_if_no_progress with_reducible refine Keeps.mk' ?_
    | split
    | dsimp only

theorem State.putRing_keeps {m0 s0 s r x} (h0 : Keeps m0 s0 s) (hw0 : within 0x80000000 m0 = true := by decide) :
    Keeps m0 s0 (State.putRing s r x) := by
  refine h0.app hw0 ?_
  unfold State.putRing
  try dsimp only
  repeat' first
    | with_reducible exact .refl _ _
    | with_reducible assumption
    | fail_if_no_progress with_reducible refine Keeps.mk' ?_
    | split
    | dsimp only

theorem State.updRing_keeps {m0 s0 s r f} (h0 : Keeps m0 s0 s) (hw0 : within 0x80000000 m0 = true := by decide) :
    Keeps m0 s0 (State.updRing s r f) := by
  refine h0.app hw0 ?_
  unfold State.updRing
  try dsimp only
  repeat' first
    | with_reducible exact .refl _ _
    | with_reducible assumption
    | with_reducible refine State.putRing_keeps ?_
    | fail_if_no_progress with_reducible refine Keeps.mk' ?_
    | split
    | dsimp only

theorem State.signal_keeps {m0 s0 s v} (h0 : Keeps m0 s0 s) (hw0 : within 0x200000000 m0 = true := by decide) :
    Keeps m0 s0 (State.signal s v) := by
  refine h0.app hw0 ?_
  unfold State.signal
  try dsimp only
  repeat' first
    | with_reducible exact .refl _ _
    | with_reducible assumption
    | with_reducible refine .ite _ ?_ ?_
    | with_reducible refine State.emit_keeps ?_
    | fail_if_no_progress with_reducible refine Keeps.mk' ?_
    | split
    | dsimp only

theorem State.moderate_keeps {m0 s0 s r} (h0 : Keeps m0 s0 s) (hw0 : within 0x680000000 m0 = true := by decide) :
    Keeps m0 s0 (State.moderate s r) := by
  refine h0.app hw0 ?_
  unfold State.moderate
  try dsimp only
  repeat' first
    | with_reducible exact .refl _ _
    | with_reducible assumption
    | with_reducible refine .ite _ ?_ ?_
    | with_reducible refine State.putRing_keeps ?_
    | with_reducible refine State.signal_keeps ?_
    | fail_if_no_progress with_reducible refine Keeps.mk' ?_
    | split
    | dsimp only

theorem State.pushEvt_keeps {m0 s0 s r code obj d} (h0 : Keeps m0 s0 s) (hw0 : within 0x1000000000000680000002 m0 = true := by decide) :
    Keeps m0 s0 (State.pushEvt s r code obj d) := by
  refine h0.app hw0 ?_
  unfold State.pushEvt
  try dsimp only
  repeat' first
    | with_reducible exact .refl _ _
    | with_reducible assumption
    | with_reducible refine .ite _ ?_ ?_
    | with_reducible refine State.putRing_keeps ?_
    | with_reducible refine State.emit_keeps ?_
    | with_reducible refine State.moderate_keeps ?_
    | with_reducible refine State.bump_keeps (by first | assumption | (dsimp only [bank, Reg.HIF_FN_EVT_LOST_CNT]; decide)) ?_
    | fail_if_no_progress with_reducible refine Keeps.mk' ?_
    | split
    | dsimp only

theorem State.pushEvts_keeps {w u s c o d l} (h : Keeps w u s) (hw : within 0x1000000000000680000002 w = true := by decide) :
    Keeps w u (State.pushEvts s c o d l) := by
  induction l generalizing s with
  | nil => exact h
  | cons r l ih => exact ih (State.pushEvt_keeps h (within_trans (by decide) hw))

theorem State.latch_keeps {m0 s0 s n} (h0 : Keeps m0 s0 s) (hw0 : within 0x400000000000000000000000000000000000000000000000000000000002 m0 = true := by decide) :
    Keeps m0 s0 (State.latch s n) := by
  refine h0.app hw0 ?_
  unfold State.latch
  try dsimp only
  repeat' first
    | with_reducible exact .refl _ _
    | with_reducible assumption
    | with_reducible refine State.flag_keeps (by first | assumption | (dsimp only [bank, Reg.BRK_LATCH]; decide)) ?_
    | split
    | dsimp only

theorem State.latchCode_keeps {m0 s0 s c} (h0 : Keeps m0 s0 s) (hw0 : within 0x400000000000000000000000000000000000000000000000000000000002 m0 = true := by decide) :
    Keeps m0 s0 (State.latchCode s c) := by
  refine h0.app hw0 ?_
  unfold State.latchCode
  try dsimp only
  repeat' first
    | with_reducible exact .refl _ _
    | with_reducible assumption
    | with_reducible refine State.latch_keeps ?_
    | fail_if_no_progress with_reducible refine Keeps.mk' ?_
    | split
    | dsimp only

theorem State.raise_keeps {m0 s0 s code obj d} (h0 : Keeps m0 s0 s) (hw0 : within 0x400000000000000000000000000000000000001000000000000680000002 m0 = true := by decide) :
    Keeps m0 s0 (State.raise s code obj d) := by
  refine h0.app hw0 ?_
  unfold State.raise
  try dsimp only
  repeat' first
    | with_reducible exact .refl _ _
    | with_reducible assumption
    | with_reducible refine State.pushEvts_keeps ?_
    | with_reducible refine State.latchCode_keeps ?_
    | split
    | dsimp only

theorem State.raiseTo_keeps {m0 s0 s f code d} (h0 : Keeps m0 s0 s) (hw0 : within 0x400000000000000000000000000000000000001000000000000680000002 m0 = true := by decide) :
    Keeps m0 s0 (State.raiseTo s f code d) := by
  refine h0.app hw0 ?_
  unfold State.raiseTo
  try dsimp only
  repeat' first
    | with_reducible exact .refl _ _
    | with_reducible assumption
    | with_reducible refine State.pushEvts_keeps ?_
    | with_reducible refine State.latchCode_keeps ?_
    | split
    | dsimp only

theorem State.limitNote_keeps {m0 s0 s code idx} (h0 : Keeps m0 s0 s) (hw0 : within 0x1000000000 m0 = true := by decide) :
    Keeps m0 s0 (State.limitNote s code idx) := by
  refine h0.app hw0 ?_
  unfold State.limitNote
  try dsimp only
  repeat' first
    | with_reducible exact .refl _ _
    | with_reducible assumption
    | fail_if_no_progress with_reducible refine Keeps.mk' ?_
    | split
    | dsimp only

theorem State.raiseLimited_keeps {m0 s0 s code idx obj d} (h0 : Keeps m0 s0 s) (hw0 : within 0x400000000000000000000000000000000000001000000000001680000002 m0 = true := by decide) :
    Keeps m0 s0 (State.raiseLimited s code idx obj d) := by
  refine h0.app hw0 ?_
  unfold State.raiseLimited
  try dsimp only
  repeat' first
    | with_reducible exact .refl _ _
    | with_reducible assumption
    | with_reducible refine .ite _ ?_ ?_
    | with_reducible refine State.limitNote_keeps ?_
    | with_reducible refine State.raise_keeps ?_
    | split
    | dsimp only

theorem State.mirror_keeps {m0 s0 s r} (h0 : Keeps m0 s0 s) (hw0 : within 0x1000000 m0 = true := by decide) :
    Keeps m0 s0 (State.mirror s r) := by
  refine h0.app hw0 ?_
  unfold State.mirror
  try dsimp only
  repeat' first
    | with_reducible exact .refl _ _
    | with_reducible assumption
    | with_reducible refine .ite _ ?_ ?_
    | fail_if_no_progress with_reducible refine Keeps.mk' ?_
    | split
    | dsimp only

theorem State.mirror3_keeps {m0 s0 s r} (h0 : Keeps m0 s0 s) (hw0 : within 0x1000000 m0 = true := by decide) :
    Keeps m0 s0 (State.mirror3 s r) := by
  refine h0.app hw0 ?_
  unfold State.mirror3
  try dsimp only
  repeat' first
    | with_reducible exact .refl _ _
    | with_reducible assumption
    | with_reducible refine .ite _ ?_ ?_
    | with_reducible refine State.mirror_keeps ?_
    | fail_if_no_progress with_reducible refine Keeps.mk' ?_
    | split
    | dsimp only

theorem State.mirrorSurf_keeps {m0 s0 s addr data} (h0 : Keeps m0 s0 s) (hw0 : within 0x1000000 m0 = true := by decide) :
    Keeps m0 s0 (State.mirrorSurf s addr data) := by
  refine h0.app hw0 ?_
  unfold State.mirrorSurf
  try dsimp only
  repeat' first
    | with_reducible exact .refl _ _
    | with_reducible assumption
    | with_reducible refine State.mirror_keeps ?_
    | with_reducible refine .foldl _ _ ?_ (fun _ _ _ => ?_)
    | split
    | dsimp only

theorem State.mirrorCfg_keeps {m0 s0 s off v} (h0 : Keeps m0 s0 s) (hw0 : within 0x1000000 m0 = true := by decide) :
    Keeps m0 s0 (State.mirrorCfg s off v) := by
  refine h0.app hw0 ?_
  unfold State.mirrorCfg
  try dsimp only
  repeat' first
    | with_reducible exact .refl _ _
    | with_reducible assumption
    | with_reducible refine .ite _ ?_ ?_
    | with_reducible refine State.mirror_keeps ?_
    | split
    | dsimp only

theorem State.ledgerLost_keeps {m0 s0 s} (h0 : Keeps m0 s0 s) (hw0 : within 0x400000000000001000000000000000000000001000000000001680000002 m0 = true := by decide) :
    Keeps m0 s0 (State.ledgerLost s) := by
  refine h0.app hw0 ?_
  unfold State.ledgerLost
  try dsimp only
  repeat' first
    | with_reducible exact .refl _ _
    | with_reducible assumption
    | with_reducible refine State.raiseLimited_keeps ?_
    | with_reducible refine State.bump_keeps (by first | assumption | (dsimp only [bank, Reg.LDG_OVERRUN_CNT]; decide)) ?_
    | split
    | dsimp only

theorem State.offer_keeps {m0 s0 s e} (h0 : Keeps m0 s0 s) (hw0 : within 0x400000000000001800000000000000000000001000000000001e80000002 m0 = true := by decide) :
    Keeps m0 s0 (State.offer s e) := by
  refine h0.app hw0 ?_
  unfold State.offer
  try dsimp only
  repeat' first
    | with_reducible exact .refl _ _
    | with_reducible assumption
    | with_reducible refine .ite _ ?_ ?_
    | with_reducible refine State.ledgerLost_keeps ?_
    | with_reducible refine State.set_keeps (by first | assumption | (dsimp only [bank, Reg.LDG_NEXT_SEQ]; decide)) ?_
    | fail_if_no_progress with_reducible refine Keeps.mk' ?_
    | split
    | dsimp only

theorem State.logReg_keeps {m0 s0 s w off code old new} (h0 : Keeps m0 s0 s) (hw0 : within 0x400000000000001800000000000000000000001000000000001e81000002 m0 = true := by decide) :
    Keeps m0 s0 (State.logReg s w off code old new) := by
  refine h0.app hw0 ?_
  unfold State.logReg
  try dsimp only
  repeat' first
    | with_reducible exact .refl _ _
    | with_reducible assumption
    | with_reducible refine .ite _ ?_ ?_
    | with_reducible refine State.offer_keeps ?_
    | with_reducible refine State.mirrorCfg_keeps ?_
    | split
    | dsimp only

theorem State.logDesc_keeps {m0 s0 s f obj code old new} (h0 : Keeps m0 s0 s) (hw0 : within 0x400000000000001800000000000000000000001000000000001e80000002 m0 = true := by decide) :
    Keeps m0 s0 (State.logDesc s f obj code old new) := by
  refine h0.app hw0 ?_
  unfold State.logDesc
  try dsimp only
  repeat' first
    | with_reducible exact .refl _ _
    | with_reducible assumption
    | with_reducible refine .ite _ ?_ ?_
    | with_reducible refine State.offer_keeps ?_
    | split
    | dsimp only

theorem State.logHash_keeps {m0 s0 s f obj code content} (h0 : Keeps m0 s0 s) (hw0 : within 0x400000000000001800000000000000000000001000000000001e80000002 m0 = true := by decide) :
    Keeps m0 s0 (State.logHash s f obj code content) := by
  refine h0.app hw0 ?_
  unfold State.logHash
  try dsimp only
  repeat' first
    | with_reducible exact .refl _ _
    | with_reducible assumption
    | with_reducible refine .ite _ ?_ ?_
    | with_reducible refine State.offer_keeps ?_
    | split
    | dsimp only

theorem State.logUnit_keeps {m0 s0 s origin oidx code block index} (h0 : Keeps m0 s0 s) (hw0 : within 0x400000000000001800000000000000000000001000000000001e80000002 m0 = true := by decide) :
    Keeps m0 s0 (State.logUnit s origin oidx code block index) := by
  refine h0.app hw0 ?_
  unfold State.logUnit
  try dsimp only
  repeat' first
    | with_reducible exact .refl _ _
    | with_reducible assumption
    | with_reducible refine State.offer_keeps ?_
    | split
    | dsimp only

theorem State.complete_keeps {m0 s0 s t status result} (h0 : Keeps m0 s0 s) (hw0 : within 0x680000000 m0 = true := by decide) :
    Keeps m0 s0 (State.complete s t status result) := by
  refine h0.app hw0 ?_
  unfold State.complete
  try dsimp only
  repeat' first
    | with_reducible exact .refl _ _
    | with_reducible assumption
    | with_reducible refine .ite _ ?_ ?_
    | with_reducible refine State.updRing_keeps ?_
    | with_reducible refine State.putRing_keeps ?_
    | with_reducible refine State.emit_keeps ?_
    | with_reducible refine State.moderate_keeps ?_
    | fail_if_no_progress with_reducible refine Keeps.mk' ?_
    | split
    | dsimp only

theorem State.failDesc_keeps {m0 s0 s t obj status} (h0 : Keeps m0 s0 s) (hw0 : within 0x400000000000001800000000000000800000001200000000001e80000002 m0 = true := by decide) :
    Keeps m0 s0 (State.failDesc s t obj status) := by
  refine h0.app hw0 ?_
  unfold State.failDesc
  try dsimp only
  repeat' first
    | with_reducible exact .refl _ _
    | with_reducible assumption
    | with_reducible refine .ite _ ?_ ?_
    | with_reducible refine State.logDesc_keeps ?_
    | with_reducible refine State.complete_keeps ?_
    | with_reducible refine State.bump_keeps (by first | assumption | (dsimp only [bank, Reg.HIF_FN_DESC_ERR_CNT, Reg.PWR_REFUSED_CNT]; decide)) ?_
    | split
    | dsimp only

theorem State.hostWriteEp_keeps {m0 s0 s t addr data ep} (h0 : Keeps m0 s0 s) (hw0 : within 0x0 m0 = true := by decide) :
    Keeps m0 s0 (State.hostWriteEp s t addr data ep) := by
  refine h0.app hw0 ?_
  unfold State.hostWriteEp
  try dsimp only
  repeat' first
    | with_reducible exact .refl _ _
    | with_reducible assumption
    | with_reducible refine .ite _ ?_ ?_
    | with_reducible refine State.emit_keeps ?_
    | split
    | dsimp only

theorem State.hostWrite_keeps {m0 s0 s t addr data} (h0 : Keeps m0 s0 s) (hw0 : within 0x0 m0 = true := by decide) :
    Keeps m0 s0 (State.hostWrite s t addr data) := by
  refine h0.app hw0 ?_
  unfold State.hostWrite
  try dsimp only
  repeat' first
    | with_reducible exact .refl _ _
    | with_reducible assumption
    | with_reducible refine State.hostWriteEp_keeps ?_
    | split
    | dsimp only

theorem State.setQueue_keeps {m0 s0 s u q} (h0 : Keeps m0 s0 s) (hw0 : within 0x8 m0 = true := by decide) :
    Keeps m0 s0 (State.setQueue s u q) := by
  refine h0.app hw0 ?_
  unfold State.setQueue
  try dsimp only
  repeat' first
    | with_reducible exact .refl _ _
    | with_reducible assumption
    | fail_if_no_progress with_reducible refine Keeps.mk' ?_
    | split
    | dsimp only

theorem State.enqueue_keeps {m0 s0 s u q} (h0 : Keeps m0 s0 s) (hw0 : within 0x8 m0 = true := by decide) :
    Keeps m0 s0 (State.enqueue s u q) := by
  refine h0.app hw0 ?_
  unfold State.enqueue
  try dsimp only
  repeat' first
    | with_reducible exact .refl _ _
    | with_reducible assumption
    | with_reducible refine .ite _ ?_ ?_
    | with_reducible refine State.setQueue_keeps ?_
    | split
    | dsimp only

theorem State.launchAt_keeps {m0 s0 s u kind t act} (h0 : Keeps m0 s0 s) (hw0 : within 0x8 m0 = true := by decide) :
    Keeps m0 s0 (State.launchAt s u kind t act) := by
  refine h0.app hw0 ?_
  unfold State.launchAt
  try dsimp only
  repeat' first
    | with_reducible exact .refl _ _
    | with_reducible assumption
    | with_reducible refine State.setQueue_keeps ?_
    | split
    | dsimp only

theorem State.cancelled_keeps {w u s l} (h : Keeps w u s) (hw : within 0x680000000 w = true := by decide) : Keeps w u (State.cancelled s l) := by
  induction l generalizing s with
  | nil => exact h
  | cons x l ih =>
    unfold State.cancelled
    split
    · exact ih (State.complete_keeps h (within_trans (by decide) hw))
    · exact ih h

theorem State.cancel_keeps {m0 s0 s u p} (h0 : Keeps m0 s0 s) (hw0 : within 0x680000008 m0 = true := by decide) :
    Keeps m0 s0 (State.cancel s u p) := by
  refine h0.app hw0 ?_
  unfold State.cancel
  try dsimp only
  repeat' first
    | with_reducible exact .refl _ _
    | with_reducible assumption
    | with_reducible refine State.setQueue_keeps ?_
    | with_reducible refine State.cancelled_keeps ?_
    | split
    | dsimp only

theorem State.cancelIn_keeps {w u s p l} (h : Keeps w u s) (hw : within 0x680000008 w = true := by decide) : Keeps w u (State.cancelIn s p l) := by
  induction l generalizing s with
  | nil => exact h
  | cons x l ih => exact ih (State.cancel_keeps h (within_trans (by decide) hw))

theorem State.cancelAll_keeps {m0 s0 s p} (h0 : Keeps m0 s0 s) (hw0 : within 0x680000008 m0 = true := by decide) :
    Keeps m0 s0 (State.cancelAll s p) := by
  refine h0.app hw0 ?_
  unfold State.cancelAll
  try dsimp only
  repeat' first
    | with_reducible exact .refl _ _
    | with_reducible assumption
    | with_reducible refine State.cancelIn_keeps ?_
    | split
    | dsimp only

end Sys2Proof.Machine
end

