-- ==== Sys2Proof/Laws/KeepsOperands.lean ====
section
/-! SUPPORT. What each operation of Machine/Operands.lean may change (Laws/Keeps.lean). -/

namespace Sys2Proof.Machine

set_option Elab.async false
set_option linter.unusedTactic false
set_option linter.unusedSimpArgs false
set_option linter.unreachableTactic false

theorem State.byWriter_keeps {m0 s0 s w off f} (hf : ∀ t, Keeps m0 s0 t → Keeps m0 s0 (f t)) (h0 : Keeps m0 s0 s) :
    Keeps m0 s0 (State.byWriter s w off f) := by
  unfold State.byWriter
  split
  · exact hf _ h0
  · exact h0

theorem State.consume_keeps {m0 s0 s r cookie} (h0 : Keeps m0 s0 s) (hw0 : within 0x80800000 m0 = true := by decide) :
    Keeps m0 s0 (State.consume s r cookie).1 := by
  refine h0.app hw0 ?_
  unfold State.consume
  try dsimp only
  repeat' first
    | with_reducible exact .refl _ _
    | with_reducible assumption
    | with_reducible refine State.putRing_keeps ?_
    | with_reducible refine State.updRing_keeps ?_
    | fail_if_no_progress with_reducible refine Keeps.mk' ?_
    | split
    | dsimp only

theorem State.consume_keepsP {m0 s0 t0 x0 s r cookie} (e0 : State.consume s r cookie = (t0, x0)) (h0 : Keeps m0 s0 s)
    (hw0 : within 0x80800000 m0 = true := by decide) : Keeps m0 s0 t0 := by
  have := State.consume_keeps (s := s) (r := r) (cookie := cookie) h0 hw0
  rwa [e0] at this

theorem State.queueTimed_keeps {m0 s0 s opcode d t} (h0 : Keeps m0 s0 s) (hw0 : within 0x680000008 m0 = true := by decide) :
    Keeps m0 s0 (State.queueTimed s opcode d t) := by
  refine h0.app hw0 ?_
  unfold State.queueTimed
  try dsimp only
  repeat' first
    | with_reducible exact .refl _ _
    | with_reducible assumption
    | with_reducible refine .ite _ ?_ ?_
    | with_reducible refine State.complete_keeps ?_
    | with_reducible refine State.enqueue_keeps ?_
    | split
    | dsimp only

theorem State.runDesc_keeps {m0 s0 s o d act} (ha : ∀ t u, Keeps m0 s0 u → Keeps m0 s0 (act d t u)) (h0 : Keeps m0 s0 s)
    (hw0 : within 0x400000000000001800000000000000800000001a00000000001e8180000a m0 = true := by decide) : Keeps m0 s0 (State.runDesc s o d act) := by
  have k : ∀ u, Keeps 0x400000000000001800000000000000800000001a00000000001e8180000a s u → Keeps m0 s0 u := fun u hu => h0.app hw0 hu
  have hc : Keeps 0x400000000000001800000000000000800000001a00000000001e8180000a s (State.consume s d.rid.val d.cookie.toNat).1 := State.consume_keeps (.refl _ _)
  unfold State.runDesc
  split
  · dsimp only
    split
    · refine k _ ?_
      repeat' first
        | with_reducible exact .refl _ _
        | with_reducible assumption
        | with_reducible refine .ite _ ?_ ?_
        | with_reducible refine State.bump_keeps (by dsimp only [Reg.HIF_FN_DMA_ERR_CNT]; decide) ?_
        | with_reducible refine State.failDesc_keeps ?_
        | with_reducible refine State.complete_keeps ?_
        | with_reducible refine State.logDesc_keeps ?_
        | with_reducible refine State.mirror3_keeps ?_
    · split
      · exact k _ (State.queueTimed_keeps (State.mirror3_keeps hc))
      · exact ha _ _ (k _ (State.mirror3_keeps hc))
  · exact h0

end Sys2Proof.Machine
end

