-- ==== Sys2Proof/Laws/KeepsClears.lean ====
section
/-! SUPPORT. What each operation of Machine/Clears.lean may change (Laws/Keeps.lean). -/

namespace Sys2Proof.Machine

set_option Elab.async false
set_option linter.unusedTactic false
set_option linter.unusedSimpArgs false
set_option linter.unreachableTactic false

theorem State.clearBy_keeps {m0 s0 s w clr l} (hl : inMask m0 l) (h0 : Keeps m0 s0 s) : Keeps m0 s0 (State.clearBy s w clr l) :=
  State.byWriter_keeps (fun _ h => State.clear_keeps hl h) h0

theorem State.clearLogged_keeps {m0 s0 s w clr l} (hl : inMask m0 l) (h0 : Keeps m0 s0 s) (hw0 : within 0x400000000000001800000000000000000000001000000000001e81000002 m0 = true := by decide) :
    Keeps m0 s0 (State.clearLogged s w clr l) :=
  State.byWriter_keeps (fun _ h => State.logReg_keeps (State.clear_keeps hl h) (within_trans (by decide) hw0)) h0

theorem execTimDomClr_keeps {w n s t0} (e0 : execTimDomClr w n s = .next t0) : Keeps 0x4000000b0000001800000000000000000000001000000000001e81000002 s t0 := by
  rw [← Host.Outcome.next.inj e0]
  try dsimp only
  repeat' first
    | with_reducible exact .refl _ _
    | with_reducible assumption
    | with_reducible refine State.clearLogged_keeps (by (repeat' first | with_reducible assumption | with_reducible exact inMask_nil _ | (with_reducible refine inMask_cons ?_ ?_) | (with_reducible refine inMask_append ?_ ?_) | (with_reducible refine inMask_flatMap (fun _ => ?_)) | (with_reducible refine asBit ?_; dsimp only [Function.comp, bank, Reg.TIM_DOM_CLR_CLR, Reg.TIM_DOM_DISCARD_CNT, Reg.TIM_DOM_PTP_ERR_CNT]; decide) | (unfold domCounters) | (simp only [List.map_map, List.map_append, List.map_cons, List.map_nil]) | (with_reducible refine inMask_ite _ ?_ ?_) | (with_reducible refine inMask_map (fun _ => ?_)))) ?_
    | split
    | dsimp only

theorem execTimLateClr_keeps {w s t0} (e0 : execTimLateClr w s = .next t0) : Keeps 0x400060000000001800000000000000000000001000000000001e81000002 s t0 := by
  rw [← Host.Outcome.next.inj e0]
  try dsimp only
  repeat' first
    | with_reducible exact .refl _ _
    | with_reducible assumption
    | with_reducible refine State.clearLogged_keeps (by (repeat' first | with_reducible assumption | with_reducible exact inMask_nil _ | (with_reducible refine inMask_cons ?_ ?_) | (with_reducible refine inMask_append ?_ ?_) | (with_reducible refine inMask_flatMap (fun _ => ?_)) | (with_reducible refine asBit ?_; dsimp only [Function.comp, bank, Reg.TIM_LATE_CLR, Reg.TIM_LAUNCH_LATE_CNT]; decide) | (simp only [List.map_map, List.map_append, List.map_cons, List.map_nil]) | (with_reducible refine inMask_ite _ ?_ ?_) | (with_reducible refine inMask_map (fun _ => ?_)))) ?_
    | split
    | dsimp only

theorem execEncLateClr_keeps {w n s t0} (e0 : execEncLateClr w n s = .next t0) : Keeps 0x1800000000000000000000000000000000000000000000000000000000000000000000000000000000000000000000000000000000000000000000000000000000000000000000 s t0 := by
  rw [← Host.Outcome.next.inj e0]
  try dsimp only
  repeat' first
    | with_reducible exact .refl _ _
    | with_reducible assumption
    | with_reducible refine State.clearBy_keeps (by (repeat' first | with_reducible assumption | with_reducible exact inMask_nil _ | (with_reducible refine inMask_cons ?_ ?_) | (with_reducible refine inMask_append ?_ ?_) | (with_reducible refine inMask_flatMap (fun _ => ?_)) | (with_reducible refine asBit ?_; dsimp only [Function.comp, bank, Reg.ENC_BS_LATE_CLR, Reg.ENC_BS_ROW_LATE_CNT]; decide) | (simp only [List.map_map, List.map_append, List.map_cons, List.map_nil]) | (with_reducible refine inMask_ite _ ?_ ?_) | (with_reducible refine inMask_map (fun _ => ?_)))) ?_
    | split
    | dsimp only

theorem execPwrCntClr_keeps {w s t0} (e0 : execPwrCntClr w s = .next t0) : Keeps 0x61c00000000000000000000000000000 s t0 := by
  rw [← Host.Outcome.next.inj e0]
  try dsimp only
  repeat' first
    | with_reducible exact .refl _ _
    | with_reducible assumption
    | with_reducible refine State.clearBy_keeps (by (repeat' first | with_reducible assumption | with_reducible exact inMask_nil _ | (with_reducible refine inMask_cons ?_ ?_) | (with_reducible refine inMask_append ?_ ?_) | (with_reducible refine inMask_flatMap (fun _ => ?_)) | (with_reducible refine asBit ?_; dsimp only [Function.comp, bank, Reg.PWR_AVS_ERR_CNT, Reg.PWR_AVS_STEP_CNT, Reg.PWR_CNT_CLR_CLR, Reg.PWR_MODE_CHANGE_CNT, Reg.PWR_REFUSED_CNT]; decide) | (unfold pwrCounters) | (simp only [List.map_map, List.map_append, List.map_cons, List.map_nil]) | (with_reducible refine inMask_ite _ ?_ ?_) | (with_reducible refine inMask_map (fun _ => ?_)))) ?_
    | split
    | dsimp only

theorem execIngLaneClr_keeps {w s t0} (e0 : execIngLaneClr w s = .next t0) : Keeps 0xc00000000000000000000000000000000000000000000000000000000000000000000000000000000000000000000000000000000000 s t0 := by
  rw [← Host.Outcome.next.inj e0]
  try dsimp only
  repeat' first
    | with_reducible exact .refl _ _
    | with_reducible assumption
    | with_reducible refine State.clearBy_keeps (by (repeat' first | with_reducible assumption | with_reducible exact inMask_nil _ | (with_reducible refine inMask_cons ?_ ?_) | (with_reducible refine inMask_append ?_ ?_) | (with_reducible refine inMask_flatMap (fun _ => ?_)) | (with_reducible refine asBit ?_; dsimp only [Function.comp, bank, Reg.ING_LANE_CLR_CLR, Reg.ING_LANE_UNMATCHED_CNT]; decide) | (unfold each) | (unfold ingLaneCounters) | (simp only [List.map_map, List.map_append, List.map_cons, List.map_nil]) | (with_reducible refine inMask_ite _ ?_ ?_) | (with_reducible refine inMask_map (fun _ => ?_)))) ?_
    | split
    | dsimp only

theorem execIngRxClr_keeps {w r s t0} (e0 : execIngRxClr w r s = .next t0) : Keeps 0x7e07f0000000000000000000000000000000000000000000000000000000000000000000000000000000000000000000000000000000000000000000 s t0 := by
  rw [← Host.Outcome.next.inj e0]
  try dsimp only
  repeat' first
    | with_reducible exact .refl _ _
    | with_reducible assumption
    | with_reducible refine State.clearBy_keeps (by (repeat' first | with_reducible assumption | with_reducible exact inMask_nil _ | (with_reducible refine inMask_cons ?_ ?_) | (with_reducible refine inMask_append ?_ ?_) | (with_reducible refine inMask_flatMap (fun _ => ?_)) | (with_reducible refine asBit ?_; dsimp only [Function.comp, bank, Reg.ING_RX_CLR, Reg.ING_RX_DUP_CNT_HI, Reg.ING_RX_DUP_CNT_LO, Reg.ING_RX_FMT_ERR_CNT, Reg.ING_RX_FS_DROP_CNT, Reg.ING_RX_LATE_CNT, Reg.ING_RX_LOST_LINE_CNT, Reg.ING_RX_PATH_DOWN_CNT, Reg.ING_RX_PKT0_CNT_HI, Reg.ING_RX_PKT0_CNT_LO, Reg.ING_RX_PKT1_CNT_HI, Reg.ING_RX_PKT1_CNT_LO, Reg.ING_RX_TIME_ERR_CNT]; decide) | (unfold rxCounters) | (simp only [List.map_map, List.map_append, List.map_cons, List.map_nil]) | (with_reducible refine inMask_ite _ ?_ ?_) | (with_reducible refine inMask_map (fun _ => ?_)))) ?_
    | split
    | dsimp only

theorem execCmpSlotClr_keeps {w n s t0} (e0 : execCmpSlotClr w n s = .next t0) : Keeps 0x780000000e0000000000000000000000000000000000000000000000000000000000000000000000000000000000000000000000000000000000000000000000000000 s t0 := by
  rw [← Host.Outcome.next.inj e0]
  try dsimp only
  repeat' first
    | with_reducible exact .refl _ _
    | with_reducible assumption
    | with_reducible refine State.clearBy_keeps (by (repeat' first | with_reducible assumption | with_reducible exact inMask_nil _ | (with_reducible refine inMask_cons ?_ ?_) | (with_reducible refine inMask_append ?_ ?_) | (with_reducible refine inMask_flatMap (fun _ => ?_)) | (with_reducible refine asBit ?_; dsimp only [Function.comp, bank, Reg.CMP_L_EMPTY_PIC_CNT, Reg.CMP_L_HELD_LINE_CNT, Reg.CMP_L_HELD_PIC_CNT, Reg.CMP_L_TRANSP_LINE_CNT, Reg.CMP_SLOT_BCNT_BENCH_EVICT_CNT, Reg.CMP_SLOT_BCNT_BENCH_FLAT_CNT, Reg.CMP_SLOT_CLR_CLR]; decide) | (unfold cmpCounters) | (unfold each) | (simp only [List.map_map, List.map_append, List.map_cons, List.map_nil]) | (with_reducible refine inMask_ite _ ?_ ?_) | (with_reducible refine inMask_map (fun _ => ?_)))) ?_
    | split
    | dsimp only

theorem execSafClr_keeps {w s t0} (e0 : execSafClr w s = .next t0) : Keeps 0x607c00000000000000000000000000000000000000000000000000000000000000000000000000000000000000000000000000000000000000000000000000000000000000 s t0 := by
  rw [← Host.Outcome.next.inj e0]
  try dsimp only
  repeat' first
    | with_reducible exact .refl _ _
    | with_reducible assumption
    | with_reducible refine State.clearBy_keeps (by (repeat' first | with_reducible assumption | with_reducible exact inMask_nil _ | (with_reducible refine inMask_cons ?_ ?_) | (with_reducible refine inMask_append ?_ ?_) | (with_reducible refine inMask_flatMap (fun _ => ?_)) | (with_reducible refine asBit ?_; dsimp only [Function.comp, bank, Reg.SAF_CLR_CLR, Reg.SAF_MISMATCH_CNT, Reg.SAF_MISSING_CNT, Reg.SAF_PROTECT_CNT, Reg.SAF_SKEW_CNT, Reg.SAF_SLOT_READBACK_ERR_CNT, Reg.SAF_SLOT_REFUSED_CNT]; decide) | (unfold each) | (unfold safCounters) | (simp only [List.map_map, List.map_append, List.map_cons, List.map_nil]) | (with_reducible refine inMask_ite _ ?_ ?_) | (with_reducible refine inMask_map (fun _ => ?_)))) ?_
    | split
    | dsimp only

theorem execEncEffortCntClr_keeps {w s t0} (e0 : execEncEffortCntClr w s = .next t0) : Keeps 0xc00000000000000000000000000000000000000000000000000000000000000000000000000000000000000000000000000000000000000000000000000000000000000000000000 s t0 := by
  rw [← Host.Outcome.next.inj e0]
  try dsimp only
  repeat' first
    | with_reducible exact .refl _ _
    | with_reducible assumption
    | with_reducible refine State.clearBy_keeps (by (repeat' first | with_reducible assumption | with_reducible exact inMask_nil _ | (with_reducible refine inMask_cons ?_ ?_) | (with_reducible refine inMask_append ?_ ?_) | (with_reducible refine inMask_flatMap (fun _ => ?_)) | (with_reducible refine asBit ?_; dsimp only [Function.comp, bank, Reg.ENC_EFFORT_CHG_CNT, Reg.ENC_EFFORT_CNT_CLR]; decide) | (simp only [List.map_map, List.map_append, List.map_cons, List.map_nil]) | (with_reducible refine inMask_ite _ ?_ ?_) | (with_reducible refine inMask_map (fun _ => ?_)))) ?_
    | split
    | dsimp only

theorem execEncBsClr_keeps {w n s t0} (e0 : execEncBsClr w n s = .next t0) : Keeps 0x38000000000000000000000000000000000000000000000000000000000000000000000000000000000000000000000000000000000000000000000000000000000000000000000000000000 s t0 := by
  rw [← Host.Outcome.next.inj e0]
  try dsimp only
  repeat' first
    | with_reducible exact .refl _ _
    | with_reducible assumption
    | with_reducible refine State.clearBy_keeps (by (repeat' first | with_reducible assumption | with_reducible exact inMask_nil _ | (with_reducible refine inMask_cons ?_ ?_) | (with_reducible refine inMask_append ?_ ?_) | (with_reducible refine inMask_flatMap (fun _ => ?_)) | (with_reducible refine asBit ?_; dsimp only [Function.comp, bank, Reg.ENC_BS_CLR_CLR, Reg.ENC_BS_PIC_CNT, Reg.ENC_BS_SWEEP_CNT]; decide) | (unfold encCounters) | (simp only [List.map_map, List.map_append, List.map_cons, List.map_nil]) | (with_reducible refine inMask_ite _ ?_ ?_) | (with_reducible refine inMask_map (fun _ => ?_)))) ?_
    | split
    | dsimp only

theorem execEncPktClr_keeps {w n s t0} (e0 : execEncPktClr w n s = .next t0) : Keeps 0x20001000000000000000000000000000000000000000000000000000000000000000000000000000000000000000000000000000000000000000000000000000000000000000000000000000000000 s t0 := by
  rw [← Host.Outcome.next.inj e0]
  try dsimp only
  repeat' first
    | with_reducible exact .refl _ _
    | with_reducible assumption
    | with_reducible refine State.clearBy_keeps (by (repeat' first | with_reducible assumption | with_reducible exact inMask_nil _ | (with_reducible refine inMask_cons ?_ ?_) | (with_reducible refine inMask_append ?_ ?_) | (with_reducible refine inMask_flatMap (fun _ => ?_)) | (with_reducible refine asBit ?_; dsimp only [Function.comp, bank, Reg.ENC_BS_PKT_CLR_CLR, Reg.ENC_BS_STR_PKT_CNT]; decide) | (unfold each) | (unfold pktCounters) | (simp only [List.map_map, List.map_append, List.map_cons, List.map_nil]) | (with_reducible refine inMask_ite _ ?_ ?_) | (with_reducible refine inMask_map (fun _ => ?_)))) ?_
    | split
    | dsimp only

theorem execDecBsClr_keeps {w n s t0} (e0 : execDecBsClr w n s = .next t0) : Keeps 0x7ff800000000000000000000000000000000000000000000000000000000000000000000000000000000000000000000000000000000000000000000000000000000000000000000000000000000000000000000000 s t0 := by
  rw [← Host.Outcome.next.inj e0]
  try dsimp only
  repeat' first
    | with_reducible exact .refl _ _
    | with_reducible assumption
    | with_reducible refine State.clearBy_keeps (by (repeat' first | with_reducible assumption | with_reducible exact inMask_nil _ | (with_reducible refine inMask_cons ?_ ?_) | (with_reducible refine inMask_append ?_ ?_) | (with_reducible refine inMask_flatMap (fun _ => ?_)) | (with_reducible refine asBit ?_; dsimp only [Function.comp, bank, Reg.DEC_BS_CLR_CLR, Reg.DEC_BS_DUP_SLICE_CNT, Reg.DEC_BS_ERR_SLICE_CNT, Reg.DEC_BS_FENCE_CNT, Reg.DEC_BS_LATE_SLICE_CNT, Reg.DEC_BS_MISMATCH_CNT, Reg.DEC_BS_MISS_PIC_CNT, Reg.DEC_BS_MISS_SLICE_CNT, Reg.DEC_BS_NOSTAMP_CNT, Reg.DEC_BS_OUTSIDE_CNT, Reg.DEC_BS_STALE_CNT, Reg.DEC_BS_XTILE_CNT]; decide) | (unfold decCounters) | (simp only [List.map_map, List.map_append, List.map_cons, List.map_nil]) | (with_reducible refine inMask_ite _ ?_ ?_) | (with_reducible refine inMask_map (fun _ => ?_)))) ?_
    | split
    | dsimp only

theorem execRcBsClr_keeps {w n s t0} (e0 : execRcBsClr w n s = .next t0) : Keeps 0x18e0000000000000000000000000000000000000000000000000000000000000000000000000000000000000000000000000000000000000000000000000000000000000000000000000000000000000000 s t0 := by
  rw [← Host.Outcome.next.inj e0]
  try dsimp only
  repeat' first
    | with_reducible exact .refl _ _
    | with_reducible assumption
    | with_reducible refine State.clearBy_keeps (by (repeat' first | with_reducible assumption | with_reducible exact inMask_nil _ | (with_reducible refine inMask_cons ?_ ?_) | (with_reducible refine inMask_append ?_ ?_) | (with_reducible refine inMask_flatMap (fun _ => ?_)) | (with_reducible refine asBit ?_; dsimp only [Function.comp, bank, Reg.RC_BS_CLR_CLR, Reg.RC_BS_GUARD_CTU_CNT, Reg.RC_BS_GUARD_PIC_CNT, Reg.RC_BS_SPOIL_PIC_CNT, Reg.RC_BS_SPOIL_ROW_CNT]; decide) | (unfold rcCounters) | (simp only [List.map_map, List.map_append, List.map_cons, List.map_nil]) | (with_reducible refine inMask_ite _ ?_ ?_) | (with_reducible refine inMask_map (fun _ => ?_)))) ?_
    | split
    | dsimp only

theorem execScnLaneClr_keeps {w i s t0} (e0 : execScnLaneClr w i s = .next t0) : Keeps 0x1fe000000000000000000000000000000000000000000000000000000000000000000000000000000000000000000000000000000000000000000000000000000000000000000000000000000000000000000000000000000000 s t0 := by
  rw [← Host.Outcome.next.inj e0]
  try dsimp only
  repeat' first
    | with_reducible exact .refl _ _
    | with_reducible assumption
    | with_reducible refine State.clearBy_keeps (by (repeat' first | with_reducible assumption | with_reducible exact inMask_nil _ | (with_reducible refine inMask_cons ?_ ?_) | (with_reducible refine inMask_append ?_ ?_) | (with_reducible refine inMask_flatMap (fun _ => ?_)) | (with_reducible refine asBit ?_; dsimp only [Function.comp, bank, Reg.SCN_LANE_CLR_CLR, Reg.SCN_LANE_DUP_REQ_CNT, Reg.SCN_LANE_FRAME_CNT, Reg.SCN_LANE_NOTREADY_CNT, Reg.SCN_LANE_PROTO_CNT, Reg.SCN_LANE_SR_ENTER_CNT, Reg.SCN_LANE_TRANSITION_CNT, Reg.SCN_LANE_UNDERRUN_CNT]; decide) | (unfold scnCounters) | (simp only [List.map_map, List.map_append, List.map_cons, List.map_nil]) | (with_reducible refine inMask_ite _ ?_ ?_) | (with_reducible refine inMask_map (fun _ => ?_)))) ?_
    | split
    | dsimp only

theorem execLaneClr_keeps {w i s t0} (e0 : execLaneClr w i s = .next t0) : Keeps 0x1fc000000000000000000000000000000400000000000001800000000000000000000001000000000001e81000002 s t0 := by
  rw [← Host.Outcome.next.inj e0]
  try dsimp only
  repeat' first
    | with_reducible exact .refl _ _
    | with_reducible assumption
    | with_reducible refine State.clearLogged_keeps (by (repeat' first | with_reducible assumption | with_reducible exact inMask_nil _ | (with_reducible refine inMask_cons ?_ ?_) | (with_reducible refine inMask_append ?_ ?_) | (with_reducible refine inMask_flatMap (fun _ => ?_)) | (with_reducible refine asBit ?_; dsimp only [Function.comp, bank, Reg.LANE_CLR_CLR, Reg.LANE_FCS_ERR_CNT, Reg.LANE_FEC_CORR_CNT, Reg.LANE_FEC_UNCORR_CNT, Reg.LANE_LOCK_LOSS_CNT, Reg.LANE_PAUSE_CNT, Reg.LANE_TRAIN_FAIL_CNT]; decide) | (unfold laneCounters) | (simp only [List.map_map, List.map_append, List.map_cons, List.map_nil]) | (with_reducible refine inMask_ite _ ?_ ?_) | (with_reducible refine inMask_map (fun _ => ?_)))) ?_
    | split
    | dsimp only

theorem execAknClr_keeps {w i s t0} (e0 : execAknClr w i s = .next t0) : Keeps 0x3e00000000000000000000000000000000000400000000000001800000000000000000000001000000000001e81000002 s t0 := by
  rw [← Host.Outcome.next.inj e0]
  try dsimp only
  repeat' first
    | with_reducible exact .refl _ _
    | with_reducible assumption
    | with_reducible refine State.clearLogged_keeps (by (repeat' first | with_reducible assumption | with_reducible exact inMask_nil _ | (with_reducible refine inMask_cons ?_ ?_) | (with_reducible refine inMask_append ?_ ?_) | (with_reducible refine inMask_flatMap (fun _ => ?_)) | (with_reducible refine asBit ?_; dsimp only [Function.comp, bank, Reg.AKN_CLR_CLR, Reg.AKN_CREDIT_ERR_CNT, Reg.AKN_DCRC_ERR_CNT, Reg.AKN_HCRC_ERR_CNT, Reg.AKN_PROTO_CNT]; decide) | (unfold aknCounters) | (simp only [List.map_map, List.map_append, List.map_cons, List.map_nil]) | (with_reducible refine inMask_ite _ ?_ ?_) | (with_reducible refine inMask_map (fun _ => ?_)))) ?_
    | split
    | dsimp only

theorem execCarSwapCntClr_keeps {w i s t0} (e0 : execCarSwapCntClr w i s = .next t0) : Keeps 0xc000000000000000000000000000000000000000000000000000000000000000000000000000000000000000000000000000 s t0 := by
  rw [← Host.Outcome.next.inj e0]
  try dsimp only
  repeat' first
    | with_reducible exact .refl _ _
    | with_reducible assumption
    | with_reducible refine State.clearBy_keeps (by (repeat' first | with_reducible assumption | with_reducible exact inMask_nil _ | (with_reducible refine inMask_cons ?_ ?_) | (with_reducible refine inMask_append ?_ ?_) | (with_reducible refine inMask_flatMap (fun _ => ?_)) | (with_reducible refine asBit ?_; dsimp only [Function.comp, bank, Reg.CAR_P_CNT_CLR, Reg.CAR_P_CNT_SWAP_CNT]; decide) | (simp only [List.map_map, List.map_append, List.map_cons, List.map_nil]) | (with_reducible refine inMask_ite _ ?_ ?_) | (with_reducible refine inMask_map (fun _ => ?_)))) ?_
    | split
    | dsimp only

theorem execCarQueueClr_keeps {w i c s t0} (e0 : execCarQueueClr w i c s = .next t0) : Keeps 0x13fc00000000000000000000000000000000000000000000000000000000000000000000000000000000000000000000000000000 s t0 := by
  rw [← Host.Outcome.next.inj e0]
  try dsimp only
  repeat' first
    | with_reducible exact .refl _ _
    | with_reducible assumption
    | with_reducible refine State.clearBy_keeps (by (repeat' first | with_reducible assumption | with_reducible exact inMask_nil _ | (with_reducible refine inMask_cons ?_ ?_) | (with_reducible refine inMask_append ?_ ?_) | (with_reducible refine inMask_flatMap (fun _ => ?_)) | (with_reducible refine asBit ?_; dsimp only [Function.comp, bank, Reg.CAR_P_Q_CLR, Reg.CAR_P_Q_DELAY_MAX_NS, Reg.CAR_P_Q_DEPTH_MAX_B, Reg.CAR_P_Q_DOWN_DROP_CNT, Reg.CAR_P_Q_DROP_CNT, Reg.CAR_P_Q_OVERDUE_CNT, Reg.CAR_P_Q_OVERSIZE_CNT, Reg.CAR_P_Q_TX_FRAME_CNT, Reg.CAR_P_Q_TX_FRAME_CNT_HI]; decide) | (unfold queueCounters) | (simp only [List.map_map, List.map_append, List.map_cons, List.map_nil]) | (with_reducible refine inMask_ite _ ?_ ?_) | (with_reducible refine inMask_map (fun _ => ?_)))) ?_
    | split
    | dsimp only

theorem execTrnClr_keeps {w s t0} (e0 : execTrnClr w s = .next t0) : Keeps 0xe0200000000000000000000000000000000000000000000000000000000000000000000000000000000000000000000000000000000 s t0 := by
  rw [← Host.Outcome.next.inj e0]
  try dsimp only
  repeat' first
    | with_reducible exact .refl _ _
    | with_reducible assumption
    | with_reducible refine State.clearBy_keeps (by (repeat' first | with_reducible assumption | with_reducible exact inMask_nil _ | (with_reducible refine inMask_cons ?_ ?_) | (with_reducible refine inMask_append ?_ ?_) | (with_reducible refine inMask_flatMap (fun _ => ?_)) | (with_reducible refine asBit ?_; dsimp only [Function.comp, bank, Reg.TRN_CLR_CLR, Reg.TRN_Q_GREEN_CNT, Reg.TRN_Q_RED_CNT, Reg.TRN_Q_YELLOW_CNT]; decide) | (unfold each) | (unfold trnCounters) | (simp only [List.map_map, List.map_append, List.map_cons, List.map_nil]) | (with_reducible refine inMask_ite _ ?_ ?_) | (with_reducible refine inMask_map (fun _ => ?_)))) ?_
    | split
    | dsimp only

theorem execAudCntClr_keeps {w s t0} (e0 : execAudCntClr w s = .next t0) : Keeps 0x1003007e00c000000000000000000000000000000000000000000000000000000000000000000000000000000000000000000000000000000000000000000000000000000000000000000000000000000000000000000000000000000000000000 s t0 := by
  rw [← Host.Outcome.next.inj e0]
  try dsimp only
  repeat' first
    | with_reducible exact .refl _ _
    | with_reducible assumption
    | with_reducible refine State.clearBy_keeps (by (repeat' first | with_reducible assumption | with_reducible exact inMask_nil _ | (with_reducible refine inMask_cons ?_ ?_) | (with_reducible refine inMask_append ?_ ?_) | (with_reducible refine inMask_flatMap (fun _ => ?_)) | (with_reducible refine asBit ?_; dsimp only [Function.comp, bank, Reg.AUD_CNT_CLR, Reg.AUD_IN_CS_ERR_CNT, Reg.AUD_IN_INVALID_CNT, Reg.AUD_IN_LOSS_CNT, Reg.AUD_IN_PARITY_CNT, Reg.AUD_IN_RATE_ERR_CNT, Reg.AUD_IN_SLIP_CNT, Reg.AUD_MCLK_LOSS_CNT, Reg.AUD_OUT_PKT_CNT, Reg.AUD_OUT_UNDERRUN_CNT, Reg.AUD_OUT_ZC_TO_CNT]; decide) | (unfold audCounters) | (unfold each) | (simp only [List.map_map, List.map_append, List.map_cons, List.map_nil]) | (with_reducible refine inMask_ite _ ?_ ?_) | (with_reducible refine inMask_map (fun _ => ?_)))) ?_
    | split
    | dsimp only

theorem execDmcClr_keeps {w s t0} (e0 : execDmcClr w s = .next t0) : Keeps 0xa300608000000000000000000000000000000000000000000000000000000000000000000000000 s t0 := by
  rw [← Host.Outcome.next.inj e0]
  try dsimp only
  repeat' first
    | with_reducible exact .refl _ _
    | with_reducible assumption
    | with_reducible refine State.clearBy_keeps (by (repeat' first | with_reducible assumption | with_reducible exact inMask_nil _ | (with_reducible refine inMask_cons ?_ ?_) | (with_reducible refine inMask_append ?_ ?_) | (with_reducible refine inMask_flatMap (fun _ => ?_)) | (with_reducible refine asBit ?_; dsimp only [Function.comp, bank, Reg.DMC_CLR_CLR, Reg.DMC_MIG_CNT, Reg.DMC_NBR_CNT, Reg.DMC_POISON_COPY_CNT, Reg.DMC_PORT_LATE_CNT, Reg.DMC_RANK_CE_CNT, Reg.DMC_RANK_UE_CNT]; decide) | (unfold dmcCounters) | (unfold each) | (simp only [List.map_map, List.map_append, List.map_cons, List.map_nil]) | (with_reducible refine inMask_ite _ ?_ ?_) | (with_reducible refine inMask_map (fun _ => ?_)))) ?_
    | split
    | dsimp only

theorem execBrkClr_keeps {w s t0} (e0 : execBrkClr w s = .next t0) : Keeps 0x3e0000000000000000000000000000000000000000000000000000000000 s t0 := by
  rw [← Host.Outcome.next.inj e0]
  try dsimp only
  repeat' first
    | with_reducible exact .refl _ _
    | with_reducible assumption
    | with_reducible refine State.clearBy_keeps (by (repeat' first | with_reducible assumption | with_reducible exact inMask_nil _ | (with_reducible refine inMask_cons ?_ ?_) | (with_reducible refine inMask_append ?_ ?_) | (with_reducible refine inMask_flatMap (fun _ => ?_)) | (with_reducible refine asBit ?_; dsimp only [Function.comp, bank, Reg.BRK_CLR_CLR, Reg.BRK_PAIR_ENTRY_TAKE_CNT, Reg.BRK_PAIR_HANDON_CNT, Reg.BRK_PAIR_STRAY_CNT, Reg.BRK_PAIR_VANISHED_CNT]; decide) | (unfold brkCounters) | (unfold each) | (simp only [List.map_map, List.map_append, List.map_cons, List.map_nil]) | (with_reducible refine inMask_ite _ ?_ ?_) | (with_reducible refine inMask_map (fun _ => ?_)))) ?_
    | split
    | dsimp only

theorem execJugClr_keeps {w s t0} (e0 : execJugClr w s = .next t0) : Keeps 0x3f8000000000000000000000000000000000000000000000000000000000000000 s t0 := by
  rw [← Host.Outcome.next.inj e0]
  try dsimp only
  repeat' first
    | with_reducible exact .refl _ _
    | with_reducible assumption
    | with_reducible refine State.clearBy_keeps (by (repeat' first | with_reducible assumption | with_reducible exact inMask_nil _ | (with_reducible refine inMask_cons ?_ ?_) | (with_reducible refine inMask_append ?_ ?_) | (with_reducible refine inMask_flatMap (fun _ => ?_)) | (with_reducible refine asBit ?_; dsimp only [Function.comp, bank, Reg.JUG_CLR_CLR, Reg.JUG_DISPATCH_CNT, Reg.JUG_FULL_CNT, Reg.JUG_INTR_CNT, Reg.JUG_PREEMPT_CNT, Reg.JUG_STRAY_SIG_CNT, Reg.JUG_WDT_CNT]; decide) | (unfold jugCounters) | (simp only [List.map_map, List.map_append, List.map_cons, List.map_nil]) | (with_reducible refine inMask_ite _ ?_ ?_) | (with_reducible refine inMask_map (fun _ => ?_)))) ?_
    | split
    | dsimp only

theorem execChkClr_keeps {w n s t0} (e0 : execChkClr w n s = .next t0) : Keeps 0x1c000000000000000000000000000000000000000000000000000000000000000000000 s t0 := by
  rw [← Host.Outcome.next.inj e0]
  try dsimp only
  repeat' first
    | with_reducible exact .refl _ _
    | with_reducible assumption
    | with_reducible refine State.clearBy_keeps (by (repeat' first | with_reducible assumption | with_reducible exact inMask_nil _ | (with_reducible refine inMask_cons ?_ ?_) | (with_reducible refine inMask_append ?_ ?_) | (with_reducible refine inMask_flatMap (fun _ => ?_)) | (with_reducible refine asBit ?_; dsimp only [Function.comp, bank, Reg.CHK_CLR, Reg.CHK_CRC_ERR_CNT, Reg.CHK_PKT_CNT]; decide) | (unfold chkCounters) | (simp only [List.map_map, List.map_append, List.map_cons, List.map_nil]) | (with_reducible refine inMask_ite _ ?_ ?_) | (with_reducible refine inMask_map (fun _ => ?_)))) ?_
    | split
    | dsimp only

theorem execTrpClr_keeps {w s t0} (e0 : execTrpClr w s = .next t0) : Keeps 0x3f800000000000000000000000000000000000000000000000000000000000000000000000000000000000000000000000000000000000000000000000000000000000000000400000000000001800000000000000000000001000000000001e81000002 s t0 := by
  rw [← Host.Outcome.next.inj e0]
  try dsimp only
  repeat' first
    | with_reducible exact .refl _ _
    | with_reducible assumption
    | with_reducible refine State.clearLogged_keeps (by (repeat' first | with_reducible assumption | with_reducible exact inMask_nil _ | (with_reducible refine inMask_cons ?_ ?_) | (with_reducible refine inMask_append ?_ ?_) | (with_reducible refine inMask_flatMap (fun _ => ?_)) | (with_reducible refine asBit ?_; dsimp only [Function.comp, bank, Reg.TRP_CLR_CLR, Reg.TRP_MALFORMED_CNT, Reg.TRP_RESEND_CNT, Reg.TRP_RESYNC_CNT, Reg.TRP_TAKEOVER_CNT, Reg.TRP_TEST_FAIL_CNT, Reg.TRP_UNCOVERED_CNT]; decide) | (unfold trpCounters) | (simp only [List.map_map, List.map_append, List.map_cons, List.map_nil]) | (with_reducible refine inMask_ite _ ?_ ?_) | (with_reducible refine inMask_map (fun _ => ?_)))) ?_
    | split
    | dsimp only

theorem execThmClr_keeps {w s t0} (e0 : execThmClr w s = .next t0) : Keeps 0x1f000000000000000000000000000000000000 s t0 := by
  rw [← Host.Outcome.next.inj e0]
  try dsimp only
  repeat' first
    | with_reducible exact .refl _ _
    | with_reducible assumption
    | with_reducible refine State.clearBy_keeps (by (repeat' first | with_reducible assumption | with_reducible exact inMask_nil _ | (with_reducible refine inMask_cons ?_ ?_) | (with_reducible refine inMask_append ?_ ?_) | (with_reducible refine inMask_flatMap (fun _ => ?_)) | (with_reducible refine asBit ?_; dsimp only [Function.comp, bank, Reg.THM_CLR, Reg.THM_SMB_ERR_CNT, Reg.THM_THROTTLE_CNT, Reg.THM_VOLT_ERR_CNT, Reg.THM_WARN_CNT]; decide) | (unfold thmCounters) | (simp only [List.map_map, List.map_append, List.map_cons, List.map_nil]) | (with_reducible refine inMask_ite _ ?_ ?_) | (with_reducible refine inMask_map (fun _ => ?_)))) ?_
    | split
    | dsimp only

theorem execHifFnClr_keeps {f s t0} (e0 : execHifFnClr f s = .next t0) : Keeps 0x3e00000000000000000000 s t0 := by
  rw [← Host.Outcome.next.inj e0]
  try dsimp only
  repeat' first
    | with_reducible exact .refl _ _
    | with_reducible assumption
    | with_reducible refine State.clearBy_keeps (by (repeat' first | with_reducible assumption | with_reducible exact inMask_nil _ | (with_reducible refine inMask_cons ?_ ?_) | (with_reducible refine inMask_append ?_ ?_) | (with_reducible refine inMask_flatMap (fun _ => ?_)) | (with_reducible refine asBit ?_; dsimp only [Function.comp, bank, Reg.HIF_FN_CLR_CLR, Reg.HIF_FN_DB_ERR_CNT, Reg.HIF_FN_DESC_ERR_CNT, Reg.HIF_FN_DMA_ERR_CNT, Reg.HIF_FN_EVT_LOST_CNT]; decide) | (unfold fnCounters) | (simp only [List.map_map, List.map_append, List.map_cons, List.map_nil]) | (with_reducible refine inMask_ite _ ?_ ?_) | (with_reducible refine inMask_map (fun _ => ?_)))) ?_
    | split
    | dsimp only

end Sys2Proof.Machine
end

