-- ==== Sys2Proof/Laws/KeepsEgress.lean ====
section
/-! SUPPORT. What each operation of Machine/Egress.lean may change (Laws/Keeps.lean). -/

namespace Sys2Proof.Machine

set_option Elab.async false
set_option linter.unusedTactic false
set_option linter.unusedSimpArgs false
set_option linter.unreachableTactic false

theorem State.setPort_keeps {m0 s0 s i p} (h0 : Keeps m0 s0 s) (hw0 : within 0x10 m0 = true := by decide) :
    Keeps m0 s0 (State.setPort s i p) := by
  refine h0.app hw0 ?_
  unfold State.setPort
  try dsimp only
  repeat' first
    | with_reducible exact .refl _ _
    | with_reducible assumption
    | fail_if_no_progress with_reducible refine Keeps.mk' ?_
    | split
    | dsimp only

theorem State.setFrames_keeps {m0 s0 s i c l} (h0 : Keeps m0 s0 s) (hw0 : within 0x600000000000000000000000000000000000000000000000000000000000000000000000000000000000000000000000000010 m0 = true := by decide) :
    Keeps m0 s0 (State.setFrames s i c l) := by
  refine h0.app hw0 ?_
  unfold State.setFrames
  try dsimp only
  repeat' first
    | with_reducible exact .refl _ _
    | with_reducible assumption
    | with_reducible refine State.set_keeps (by first | assumption | (dsimp only [bank, Reg.CAR_P_Q_DEPTH_B, Reg.CAR_P_Q_DEPTH_MAX_B]; decide)) ?_
    | with_reducible refine State.setMax_keeps (by first | assumption | (dsimp only [bank, Reg.CAR_P_Q_DEPTH_B, Reg.CAR_P_Q_DEPTH_MAX_B]; decide)) ?_
    | fail_if_no_progress with_reducible refine Keeps.mk' ?_
    | split
    | dsimp only

theorem State.setMeter_keeps {m0 s0 s q m} (h0 : Keeps m0 s0 s) (hw0 : within 0x10 m0 = true := by decide) :
    Keeps m0 s0 (State.setMeter s q m) := by
  refine h0.app hw0 ?_
  unfold State.setMeter
  try dsimp only
  repeat' first
    | with_reducible exact .refl _ _
    | with_reducible assumption
    | fail_if_no_progress with_reducible refine Keeps.mk' ?_
    | split
    | dsimp only

theorem State.installMeter_keeps {m0 s0 s q} (h0 : Keeps m0 s0 s) (hw0 : within 0x1ec00000000000000000000000000000000000000000000000000000000000000000000000000000000000000000000000000000010 m0 = true := by decide) :
    Keeps m0 s0 (State.installMeter s q) := by
  refine h0.app hw0 ?_
  unfold State.installMeter
  try dsimp only
  repeat' first
    | with_reducible exact .refl _ _
    | with_reducible assumption
    | with_reducible refine State.setMeter_keeps ?_
    | with_reducible refine State.copyBank_keeps (by (repeat' first | with_reducible assumption | with_reducible exact inMask_nil _ | (with_reducible refine inMask_cons ?_ ?_) | (with_reducible refine inMask_append ?_ ?_) | (with_reducible refine inMask_flatMap (fun _ => ?_)) | (with_reducible refine asBit ?_; dsimp only [Function.comp, bank, Reg.TRN_Q_CBS_B, Reg.TRN_Q_CIR_MBPS, Reg.TRN_Q_MODE, Reg.TRN_Q_OVH, Reg.TRN_Q_PBS_B, Reg.TRN_Q_PIR_MBPS]; decide) | (unfold meterFields) | (simp only [List.map_map, List.map_append, List.map_cons, List.map_nil]) | (with_reducible refine inMask_ite _ ?_ ?_) | (with_reducible refine inMask_map (fun _ => ?_)))) ?_
    | split
    | dsimp only

theorem State.settleMeters_keeps {m0 s0 s i} (h0 : Keeps m0 s0 s) (hw0 : within 0x1ec00000000000000000000000000000000000000000000000000000000000000000000000000000000000000000000000000000010 m0 = true := by decide) :
    Keeps m0 s0 (State.settleMeters s i) := by
  refine h0.app hw0 ?_
  unfold State.settleMeters
  try dsimp only
  repeat' first
    | with_reducible exact .refl _ _
    | with_reducible assumption
    | with_reducible refine .ite _ ?_ ?_
    | with_reducible refine State.installMeter_keeps ?_
    | with_reducible refine State.setPort_keeps ?_
    | with_reducible refine .foldl _ _ ?_ (fun _ _ _ => ?_)
    | fail_if_no_progress with_reducible refine Keeps.mk' ?_
    | split
    | dsimp only

theorem State.countColour_keeps {m0 s0 s q colour} (h0 : Keeps m0 s0 s) (hw0 : within 0xe0000000000000000000000000000000000000000000000000000000000000000000000000000000000000000000000000000000002 m0 = true := by decide) :
    Keeps m0 s0 (State.countColour s q colour) := by
  refine h0.app hw0 ?_
  unfold State.countColour
  try dsimp only
  repeat' first
    | with_reducible exact .refl _ _
    | with_reducible assumption
    | with_reducible refine .ite _ ?_ ?_
    | with_reducible refine State.bump_keeps (by first | assumption | (dsimp only [bank, Reg.TRN_Q_GREEN_CNT, Reg.TRN_Q_RED_CNT, Reg.TRN_Q_YELLOW_CNT]; decide)) ?_
    | split
    | dsimp only

theorem State.enterQueue_keeps {m0 s0 u i c f} (h0 : Keeps m0 s0 u) (hw0 : within 0xfec0a600000000000000000000000000000000000000000400000000000000000000000000000000000001000000000001680000012 m0 = true := by decide) :
    Keeps m0 s0 (State.enterQueue u i c f) := by
  refine h0.app hw0 ?_
  unfold State.enterQueue
  try dsimp only
  repeat' first
    | with_reducible exact .refl _ _
    | with_reducible assumption
    | with_reducible refine .ite _ ?_ ?_
    | with_reducible refine State.settleMeters_keeps ?_
    | with_reducible refine State.countColour_keeps ?_
    | with_reducible refine State.raiseLimited_keeps ?_
    | with_reducible refine State.setFrames_keeps ?_
    | with_reducible refine State.setMeter_keeps ?_
    | with_reducible refine State.bump_keeps (by first | assumption | (dsimp only [bank, Reg.CAR_P_Q_DOWN_DROP_CNT, Reg.CAR_P_Q_DROP_CNT, Reg.CAR_P_Q_PACED, Reg.CAR_P_Q_QMAX_KB]; decide)) ?_
    | fail_if_no_progress with_reducible refine Keeps.mk' ?_
    | split
    | dsimp only

theorem State.originate_keeps {m0 s0 s i f len} (h0 : Keeps m0 s0 s) (hw0 : within 0xfec0a600000000000000000000000000000000000000000400000000000000000000000000000000000001000000000001680000012 m0 = true := by decide) :
    Keeps m0 s0 (State.originate s i f len) := by
  refine h0.app hw0 ?_
  unfold State.originate
  try dsimp only
  repeat' first
    | with_reducible exact .refl _ _
    | with_reducible assumption
    | with_reducible refine State.enterQueue_keeps ?_
    | split
    | dsimp only

theorem State.dropQueue_keeps {m0 s0 s i c} (h0 : Keeps m0 s0 s) (hw0 : within 0x8600000000000000000000000000000000000000000000000000000000000000000000000000000000000000000000000000012 m0 = true := by decide) :
    Keeps m0 s0 (State.dropQueue s i c) := by
  refine h0.app hw0 ?_
  unfold State.dropQueue
  try dsimp only
  repeat' first
    | with_reducible exact .refl _ _
    | with_reducible assumption
    | with_reducible refine .ite _ ?_ ?_
    | with_reducible refine State.setFrames_keeps ?_
    | with_reducible refine State.count_keeps (by first | assumption | (dsimp only [bank, Reg.CAR_P_Q_DOWN_DROP_CNT]; decide)) ?_
    | split
    | dsimp only

theorem State.portDown_keeps {m0 s0 s i} (h0 : Keeps m0 s0 s) (hw0 : within 0x8600000000000000000000000000000000000000000400000000000000000000000000000000000001000000000000680000012 m0 = true := by decide) :
    Keeps m0 s0 (State.portDown s i) := by
  refine h0.app hw0 ?_
  unfold State.portDown
  try dsimp only
  repeat' first
    | with_reducible exact .refl _ _
    | with_reducible assumption
    | with_reducible refine State.dropQueue_keeps ?_
    | with_reducible refine State.raise_keeps ?_
    | with_reducible refine .foldl _ _ ?_ (fun _ _ _ => ?_)
    | split
    | dsimp only

theorem State.dropOversize_keeps {m0 s0 i c n s} (h0 : Keeps m0 s0 s) (hw0 : within 0x4600000000000000000000000000000000000000000400000000000000000000000000000000000001000000000001680000012 m0 = true := by decide) :
    Keeps m0 s0 (State.dropOversize i c n s) := by
  refine h0.app hw0 ?_
  clear h0 hw0
  induction n generalizing s with
  | zero => exact .refl _ _
  | succ n ih =>
    unfold State.dropOversize
    split
    · exact .refl _ _
    · refine .ite _ ?_ (.refl _ _)
      refine Keeps.trans ?_ (ih (s := _))
      repeat' first
        | with_reducible exact .refl _ _
        | with_reducible refine State.bump_keeps (by (first | assumption | (dsimp only [bank, Reg.CAR_P_Q_OVERSIZE_CNT]; decide))) ?_
        | with_reducible refine State.setFrames_keeps ?_
        | with_reducible refine State.raiseLimited_keeps ?_

theorem State.countSent_keeps {m0 s0 s x} (h0 : Keeps m0 s0 s) (hw0 : within 0x10000000000000000000000000000000000020000000000000000000000000000000000000000000000000000000000000000000000000000000000000000000000000000000000000000000000000000000000000000000000000000000000002 m0 = true := by decide) :
    Keeps m0 s0 (State.countSent s x) := by
  refine h0.app hw0 ?_
  unfold State.countSent
  repeat' first
    | with_reducible exact .refl _ _
    | with_reducible refine .ite _ ?_ ?_
    | with_reducible refine State.bump_keeps (by (first | assumption | (dsimp only [bank, Reg.AUD_OUT_PKT_CNT, Reg.ENC_BS_STR_PKT_CNT]; decide))) ?_
    | split

theorem State.startFrame_keeps {m0 s0 s i pass c} (h0 : Keeps m0 s0 s) (hw0 : within 0x100000000000000000000000000000000000200000000000000000000000000000000000000000000000000e0111e00000000000000000000000000000000000000000400080000000000000000000000000000000001000000000001680000012 m0 = true := by decide) :
    Keeps m0 s0 (State.startFrame s i pass c) := by
  refine h0.app hw0 ?_
  unfold State.startFrame
  try dsimp only
  repeat' first
    | with_reducible exact .refl _ _
    | with_reducible assumption
    | with_reducible refine .ite _ ?_ ?_
    | with_reducible refine State.setFrames_keeps ?_
    | with_reducible refine State.setPort_keeps ?_
    | with_reducible refine State.setMeter_keeps ?_
    | with_reducible refine State.countColour_keeps ?_
    | with_reducible refine State.raiseLimited_keeps ?_
    | with_reducible refine State.countSent_keeps ?_
    | with_reducible refine State.emit_keeps ?_
    | with_reducible refine State.bump_keeps (by first | assumption | (dsimp only [bank, Reg.CAR_P_Q_DELAY_LIMIT_US, Reg.CAR_P_Q_DELAY_MAX_NS, Reg.CAR_P_Q_OVERDUE_CNT, Reg.CAR_P_Q_TX_FRAME_CNT, Reg.CAR_P_Q_TX_FRAME_CNT_HI, Reg.TIM_TC_FRAME_CNT]; decide)) ?_
    | with_reducible refine State.setMax_keeps (by first | assumption | (dsimp only [bank, Reg.CAR_P_Q_DELAY_LIMIT_US, Reg.CAR_P_Q_DELAY_MAX_NS, Reg.CAR_P_Q_OVERDUE_CNT, Reg.CAR_P_Q_TX_FRAME_CNT, Reg.CAR_P_Q_TX_FRAME_CNT_HI, Reg.TIM_TC_FRAME_CNT]; decide)) ?_
    | with_reducible refine State.count64_keeps (by first | assumption | (dsimp only [bank, Reg.CAR_P_Q_DELAY_LIMIT_US, Reg.CAR_P_Q_DELAY_MAX_NS, Reg.CAR_P_Q_OVERDUE_CNT, Reg.CAR_P_Q_TX_FRAME_CNT, Reg.CAR_P_Q_TX_FRAME_CNT_HI, Reg.TIM_TC_FRAME_CNT]; decide)) (by first | assumption | (dsimp only [bank, Reg.CAR_P_Q_DELAY_LIMIT_US, Reg.CAR_P_Q_DELAY_MAX_NS, Reg.CAR_P_Q_OVERDUE_CNT, Reg.CAR_P_Q_TX_FRAME_CNT, Reg.CAR_P_Q_TX_FRAME_CNT_HI, Reg.TIM_TC_FRAME_CNT]; decide)) ?_
    | fail_if_no_progress with_reducible refine Keeps.mk' ?_
    | split
    | dsimp only

theorem State.egressSelect_keeps {m0 s0 s i} (h0 : Keeps m0 s0 s) (hw0 : within 0x100000000000000000000000000000000000200000000000000000000000000000000000000000000000000fed15e00000000000000000000000000000000000000000400080000000000000000000000000000000001000000000001680000012 m0 = true := by decide) :
    Keeps m0 s0 (State.egressSelect s i) := by
  refine h0.app hw0 ?_
  unfold State.egressSelect
  try dsimp only
  repeat' first
    | with_reducible exact .refl _ _
    | with_reducible assumption
    | with_reducible refine .ite _ ?_ ?_
    | with_reducible refine State.dropOversize_keeps ?_
    | with_reducible refine State.settleMeters_keeps ?_
    | with_reducible refine State.startFrame_keeps ?_
    | with_reducible refine .foldl _ _ ?_ (fun _ _ _ => ?_)
    | fail_if_no_progress with_reducible refine Keeps.mk' ?_
    | split
    | dsimp only

theorem execEgressSelect_keeps {i s t0} (e0 : execEgressSelect i s = .next t0) : Keeps 0x100000000000000000000000000000000000200000000000000000000000000000000000000000000000000fed15e00000000000000000000000000000000000000000400080000000000000000000000000000000001000000000001680000012 s t0 := by
  rw [← Host.Outcome.next.inj e0]
  try dsimp only
  repeat' first
    | with_reducible exact .refl _ _
    | with_reducible assumption
    | with_reducible refine State.egressSelect_keeps ?_
    | split
    | dsimp only

theorem State.showX_keeps {m0 s0 s i x} (h0 : Keeps m0 s0 s) (hw0 : within 0xc0000020000000000000000000000000000000000000000000000000000000000000000000000000000000000000000000000000 m0 = true := by decide) :
    Keeps m0 s0 (State.showX s i x) := by
  refine h0.app hw0 ?_
  unfold State.showX
  try dsimp only [State.setAll]
  repeat' first
    | with_reducible exact .refl _ _
    | with_reducible assumption
    | with_reducible refine State.set_keeps (by first | assumption | (dsimp only [bank, Reg.CAR_P_APPLY_NS, Reg.CAR_P_APPLY_SEC, Reg.CAR_P_PENDING]; decide)) ?_
    | split
    | dsimp only

theorem State.pendList_keeps {m0 s0 s i g t} (h0 : Keeps m0 s0 s) (hw0 : within 0xc0000020000000000000000000000000000000000000000000000000000000000000000000000000000000000000000000000010 m0 = true := by decide) :
    Keeps m0 s0 (State.pendList s i g t) := by
  refine h0.app hw0 ?_
  unfold State.pendList
  try dsimp only
  repeat' first
    | with_reducible exact .refl _ _
    | with_reducible assumption
    | with_reducible refine State.setPort_keeps ?_
    | with_reducible refine State.showX_keeps ?_
    | fail_if_no_progress with_reducible refine Keeps.mk' ?_
    | split
    | dsimp only

theorem State.renewX_keeps {m0 s0 s i} (h0 : Keeps m0 s0 s) (hw0 : within 0xc0000020000000000000000000000000000000000000000000000000000000000000000000000000000000000000000000000010 m0 = true := by decide) :
    Keeps m0 s0 (State.renewX s i) := by
  refine h0.app hw0 ?_
  unfold State.renewX
  try dsimp only
  repeat' first
    | with_reducible exact .refl _ _
    | with_reducible assumption
    | with_reducible refine State.setPort_keeps ?_
    | with_reducible refine State.showX_keeps ?_
    | fail_if_no_progress with_reducible refine Keeps.mk' ?_
    | split
    | dsimp only

theorem State.carCommit_keeps {m0 s0 s i} (h0 : Keeps m0 s0 s) (hw0 : within 0xc0002020000000000000000000000000000000000000000000000000000000000000000000000000000000000000000000000010 m0 = true := by decide) :
    Keeps m0 s0 (State.carCommit s i) := by
  refine h0.app hw0 ?_
  unfold State.carCommit
  try dsimp only
  repeat' first
    | with_reducible exact .refl _ _
    | with_reducible assumption
    | with_reducible refine .ite _ ?_ ?_
    | with_reducible refine State.pendList_keeps ?_
    | with_reducible refine State.set_keeps (by first | assumption | (dsimp only [bank, Reg.CAR_P_BASE_NS, Reg.CAR_P_COMMIT_LAST_STATUS, Reg.CAR_P_COUNT, Reg.CAR_P_CYCLE_NS, Reg.CAR_P_ENTRY_INTERVAL_NS]; decide)) ?_
    | split
    | dsimp only

theorem execCarCommit_keeps {w i s t0} (e0 : execCarCommit w i s = .next t0) : Keeps 0xc0002020000000000000000000000000000000000000400000000000001800000000000000000000001000000000001e81000012 s t0 := by
  rw [← Host.Outcome.next.inj e0]
  try dsimp only
  repeat' first
    | with_reducible exact .refl _ _
    | with_reducible assumption
    | with_reducible refine State.carCommit_keeps ?_
    | with_reducible refine State.logReg_keeps ?_
    | with_reducible refine State.byWriter_keeps (fun _ _ => ?_) ?_
    | split
    | dsimp only

theorem State.writeEntries_keeps {m0 s0 s i l n} (h0 : Keeps m0 s0 s) (hw0 : within 0x30000000000000000000000000000000000000000000000000000000000000000000000000000000000000000000000000000 m0 = true := by decide) :
    Keeps m0 s0 (State.writeEntries s i l n) := by
  refine h0.app hw0 ?_
  clear h0 hw0
  induction n with
  | zero => exact .refl _ _
  | succ n ih =>
    unfold State.writeEntries
    dsimp only [State.setAll]
    exact State.set_keeps (by (first | assumption | (dsimp only [bank, Reg.CAR_P_ENTRY_GATES, Reg.CAR_P_ENTRY_INTERVAL_NS]; decide))) (State.set_keeps (by (first | assumption | (dsimp only [bank, Reg.CAR_P_ENTRY_GATES, Reg.CAR_P_ENTRY_INTERVAL_NS]; decide))) ih)

theorem actCarListLoad_keeps {m0 s0 d t s} (h0 : Keeps m0 s0 s) (hw0 : within 0xc0032f28000000000000000000000000000000000000400000000000001800000000000000000000001000000000005e81000012 m0 = true := by decide) :
    Keeps m0 s0 (actCarListLoad d t s) := by
  refine h0.app hw0 ?_
  unfold actCarListLoad
  try dsimp only [State.draw, State.setAll]
  repeat' first
    | with_reducible exact .refl _ _
    | with_reducible assumption
    | with_reducible refine .ite _ ?_ ?_
    | with_reducible refine State.writeEntries_keeps ?_
    | with_reducible refine State.pendList_keeps ?_
    | with_reducible refine State.mirrorSurf_keeps ?_
    | with_reducible refine State.logHash_keeps ?_
    | with_reducible refine State.complete_keeps ?_
    | with_reducible refine State.set_keeps (by first | assumption | (dsimp only [bank, Reg.CAR_P_BASE_NS, Reg.CAR_P_BASE_SEC, Reg.CAR_P_COMMIT_LAST_STATUS, Reg.CAR_P_COUNT, Reg.CAR_P_CYCLE_NS, Reg.CAR_P_GATE_EN]; decide)) ?_
    | fail_if_no_progress with_reducible refine Keeps.mk' ?_
    | split
    | dsimp only

theorem execCarListLoad_keeps {d s t0} (e0 : execCarListLoad d s = .next t0) : Keeps 0xc0032f28000000000000000000000000000000000000400000000000001800000000000000800000001a00000000005e8180001a s t0 := by
  rw [← Host.Outcome.next.inj e0]
  try dsimp only
  repeat' first
    | with_reducible exact .refl _ _
    | with_reducible assumption
    | with_reducible refine actCarListLoad_keeps ?_
    | with_reducible refine State.runDesc_keeps (fun _ _ _ => ?_) ?_
    | split
    | dsimp only

theorem State.queueGate_keeps {m0 s0 s i} (h0 : Keeps m0 s0 s) (hw0 : within 0x8 m0 = true := by decide) :
    Keeps m0 s0 (State.queueGate s i) := by
  refine h0.app hw0 ?_
  unfold State.queueGate
  try dsimp only
  repeat' first
    | with_reducible exact .refl _ _
    | with_reducible assumption
    | with_reducible refine .ite _ ?_ ?_
    | with_reducible refine State.launchAt_keeps ?_
    | split
    | dsimp only

theorem State.completeAll_keeps {m0 s0 s c l} (h0 : Keeps m0 s0 s) (hw0 : within 0x680000000 m0 = true := by decide) :
    Keeps m0 s0 (State.completeAll s c l) := by
  induction l generalizing s with
  | nil => exact h0
  | cons x l ih => exact ih (State.complete_keeps h0 (within_trans (by decide) hw0))

theorem State.gateSwap_keeps {m0 s0 s i} (h0 : Keeps m0 s0 s) (hw0 : within 0xc000403000000000000000000000000000000000000040000000000000000000000000000000000000100000000000068000001a m0 = true := by decide) :
    Keeps m0 s0 (State.gateSwap s i) := by
  refine h0.app hw0 ?_
  unfold State.gateSwap
  try dsimp only [State.setAll]
  repeat' first
    | with_reducible exact .refl _ _
    | with_reducible assumption
    | with_reducible refine .ite _ ?_ ?_
    | with_reducible refine State.setPort_keeps ?_
    | with_reducible refine State.raise_keeps ?_
    | with_reducible refine State.completeAll_keeps ?_
    | with_reducible refine State.setQueue_keeps ?_
    | with_reducible refine State.queueGate_keeps ?_
    | with_reducible refine State.set_keeps (by first | assumption | (dsimp only [bank, Reg.CAR_P_APPLY_NS, Reg.CAR_P_APPLY_SEC, Reg.CAR_P_BANK, Reg.CAR_P_CNT_SWAP_CNT, Reg.CAR_P_PENDING]; decide)) ?_
    | with_reducible refine State.bump_keeps (by first | assumption | (dsimp only [bank, Reg.CAR_P_APPLY_NS, Reg.CAR_P_APPLY_SEC, Reg.CAR_P_BANK, Reg.CAR_P_CNT_SWAP_CNT, Reg.CAR_P_PENDING]; decide)) ?_
    | fail_if_no_progress with_reducible refine Keeps.mk' ?_
    | split
    | dsimp only

theorem execGateListSwap_keeps {i s t0} (e0 : execGateListSwap i s = .next t0) : Keeps 0xc000403000000000000000000000000000000000000040000000000000000000000000000000000000100000000000068000001a s t0 := by
  rw [← Host.Outcome.next.inj e0]
  try dsimp only
  repeat' first
    | with_reducible exact .refl _ _
    | with_reducible assumption
    | with_reducible refine State.gateSwap_keeps ?_
    | split
    | dsimp only

theorem State.trnWrite_keeps {m0 s0 s q mode ovh} (h0 : Keeps m0 s0 s) (hw0 : within 0x1fc00000000000000000000000000000000000000000000000000000000000000000000000000000000000000000000000000000010 m0 = true := by decide) :
    Keeps m0 s0 (State.trnWrite s q mode ovh) := by
  refine h0.app hw0 ?_
  unfold State.trnWrite
  try dsimp only [State.setAll]
  repeat' first
    | with_reducible exact .refl _ _
    | with_reducible assumption
    | with_reducible refine .ite _ ?_ ?_
    | with_reducible refine State.setPort_keeps ?_
    | with_reducible refine State.settleMeters_keeps ?_
    | with_reducible refine State.set_keeps (by first | assumption | (dsimp only [bank, Reg.TRN_Q_CBS_B, Reg.TRN_Q_CIR_MBPS, Reg.TRN_Q_LAST_STATUS, Reg.TRN_Q_MODE, Reg.TRN_Q_OVH, Reg.TRN_Q_PBS_B, Reg.TRN_Q_PIR_MBPS]; decide)) ?_
    | with_reducible refine State.copyBank_keeps (by (repeat' first | with_reducible assumption | with_reducible exact inMask_nil _ | (with_reducible refine inMask_cons ?_ ?_) | (with_reducible refine inMask_append ?_ ?_) | (with_reducible refine inMask_flatMap (fun _ => ?_)) | (with_reducible refine asBit ?_; dsimp only [Function.comp, bank, Reg.TRN_Q_CBS_B, Reg.TRN_Q_CIR_MBPS, Reg.TRN_Q_LAST_STATUS, Reg.TRN_Q_MODE, Reg.TRN_Q_OVH, Reg.TRN_Q_PBS_B, Reg.TRN_Q_PIR_MBPS]; decide) | (unfold meterFields) | (simp only [List.map_map, List.map_append, List.map_cons, List.map_nil]) | (with_reducible refine inMask_ite _ ?_ ?_) | (with_reducible refine inMask_map (fun _ => ?_)))) ?_
    | fail_if_no_progress with_reducible refine Keeps.mk' ?_
    | split
    | dsimp only

theorem execTrnCtrlWrite_keeps {w q mode ovh s t0} (e0 : execTrnCtrlWrite w q mode ovh s = .next t0) : Keeps 0x1fc00000000000000000000000000000000000000000000400000000000001800000000000000000000001000000000001e81000012 s t0 := by
  rw [← Host.Outcome.next.inj e0]
  try dsimp only
  repeat' first
    | with_reducible exact .refl _ _
    | with_reducible assumption
    | with_reducible refine State.trnWrite_keeps ?_
    | with_reducible refine State.logReg_keeps ?_
    | with_reducible refine State.byWriter_keeps (fun _ _ => ?_) ?_
    | split
    | dsimp only

theorem State.forward_keeps {m0 s0 s i f} (h0 : Keeps m0 s0 s) (hw0 : within 0xfec0a600000000000000000000000000000000000000000400000000000000000000000000000000000001000000000001680000012 m0 = true := by decide) :
    Keeps m0 s0 (State.forward s i f) := by
  refine h0.app hw0 ?_
  unfold State.forward
  try dsimp only
  repeat' first
    | with_reducible exact .refl _ _
    | with_reducible assumption
    | with_reducible refine .ite _ ?_ ?_
    | with_reducible refine State.enterQueue_keeps ?_
    | with_reducible refine .foldl _ _ ?_ (fun _ _ _ => ?_)
    | fail_if_no_progress with_reducible refine Keeps.mk' ?_
    | split
    | dsimp only

theorem execEthFrameForward_keeps {i f s t0} (e0 : execEthFrameForward i f s = .next t0) : Keeps 0xfec0a600000000000000000000000000000000000000000400000000000000000000000000000000000001000000000001680000012 s t0 := by
  rw [← Host.Outcome.next.inj e0]
  try dsimp only
  repeat' first
    | with_reducible exact .refl _ _
    | with_reducible assumption
    | with_reducible refine State.forward_keeps ?_
    | split
    | dsimp only

end Sys2Proof.Machine
end

