-- ==== Sys2Proof/Laws/KeepsRingmaster.lean ====
section
/-! SUPPORT. What each operation of Machine/Ringmaster.lean may change (Laws/Keeps.lean). -/

namespace Sys2Proof.Machine

set_option Elab.async false
set_option linter.unusedTactic false
set_option linter.unusedSimpArgs false
set_option linter.unreachableTactic false

theorem State.logTim_keeps {m0 s0 s w f code new} (h0 : Keeps m0 s0 s) (hw0 : within 0x400000000000001800000000000000000000001000000000001e81000002 m0 = true := by decide) :
    Keeps m0 s0 (State.logTim s w f code new) := State.logReg_keeps h0 hw0

theorem State.toServo_keeps {m0 s0 s d st} (h0 : Keeps m0 s0 s) (hw0 : within 0x1000000000000000000000000000000000000000000000000008 m0 = true := by decide) :
    Keeps m0 s0 (State.toServo s d st) := by
  refine h0.app hw0 ?_
  unfold State.toServo
  try dsimp only
  repeat' first
    | with_reducible exact .refl _ _
    | with_reducible assumption
    | with_reducible refine State.setDomain_keeps ?_
    | with_reducible refine State.set_keeps (by first | assumption | (dsimp only [bank, Reg.TIM_DOM_STATE]; decide)) ?_
    | fail_if_no_progress with_reducible refine Keeps.mk' ?_
    | split
    | dsimp only

theorem State.remap_keeps {m0 s0 s d rate off} (h0 : Keeps m0 s0 s) (hw0 : within 0x8 m0 = true := by decide) :
    Keeps m0 s0 (State.remap s d rate off) := by
  refine h0.app hw0 ?_
  unfold State.remap
  try dsimp only
  repeat' first
    | with_reducible exact .refl _ _
    | with_reducible assumption
    | with_reducible refine State.setDomain_keeps ?_
    | fail_if_no_progress with_reducible refine Keeps.mk' ?_
    | split
    | dsimp only

theorem State.drive_keeps {m0 s0 s d q sample} (h0 : Keeps m0 s0 s) (hw0 : within 0x1000000000000000000000000000000000000000000000000000a m0 = true := by decide) :
    Keeps m0 s0 (State.drive s d q sample) := by
  refine h0.app hw0 ?_
  unfold State.drive
  try dsimp only
  repeat' first
    | with_reducible exact .refl _ _
    | with_reducible assumption
    | with_reducible refine .ite _ ?_ ?_
    | with_reducible refine State.remap_keeps ?_
    | with_reducible refine State.bump_keeps (by first | assumption | (dsimp only [bank, Reg.TIM_DOM_DISCARD_CNT]; decide)) ?_
    | split
    | dsimp only

theorem State.switchTo_keeps {m0 s0 s d} (h0 : Keeps m0 s0 s) (hw0 : within 0x30000000000000000000000000000000000000000000008 m0 = true := by decide) :
    Keeps m0 s0 (State.switchTo s d) := by
  refine h0.app hw0 ?_
  unfold State.switchTo
  try dsimp only [State.setAll]
  repeat' first
    | with_reducible exact .refl _ _
    | with_reducible assumption
    | with_reducible refine .ite _ ?_ ?_
    | with_reducible refine State.set_keeps (by first | assumption | (dsimp only [bank, Reg.TIM_CTRL_ACTIVE, Reg.TIM_CTRL_SLEWING]; decide)) ?_
    | fail_if_no_progress with_reducible refine Keeps.mk' ?_
    | split
    | dsimp only

theorem State.primaryLeft_keeps {m0 s0 s} (h0 : Keeps m0 s0 s) (hw0 : within 0x400000000000031800000000000000000000001000000000001e8000000a m0 = true := by decide) :
    Keeps m0 s0 (State.primaryLeft s) := by
  refine h0.app hw0 ?_
  unfold State.primaryLeft
  try dsimp only
  repeat' first
    | with_reducible exact .refl _ _
    | with_reducible assumption
    | with_reducible refine .ite _ ?_ ?_
    | with_reducible refine State.switchTo_keeps ?_
    | with_reducible refine State.raise_keeps ?_
    | with_reducible refine State.logUnit_keeps ?_
    | split
    | dsimp only

theorem State.toHoldover_keeps {m0 s0 s d flag code w16} (hf : m0.testBit (64 + flag.id % 1024) = true) (h0 : Keeps m0 s0 s)
    (hw0 : within 0x400000011000031800000000000000000000001000000000001e8000000a m0 = true := by decide) : Keeps m0 s0 (State.toHoldover s d flag code w16) := by
  have k : ∀ a, within a 0x400000011000031800000000000000000000001000000000001e8000000a = true → within a m0 = true := fun _ h => within_trans h hw0
  unfold State.toHoldover
  have h1 := State.raise_keeps (code := code) (obj := objDevice) (d := { w16 := w16 })
    (State.flag_keeps (b := 1) hf (State.toServo_keeps (d := d) (st := servoHoldover) (State.drive_keeps (d := d) (q := (s.domain d).integ) (sample := false) h0 (k _ (by decide))) (k _ (by decide))) (k _ (by decide))) (k _ (by decide))
  dsimp only
  split
  · exact State.primaryLeft_keeps h1 (k _ (by decide))
  · exact h1

theorem State.setInteg_keeps {m0 s0 s d q} (h0 : Keeps m0 s0 s) (hw0 : within 0x8 m0 = true := by decide) :
    Keeps m0 s0 (State.setInteg s d q) := by
  refine h0.app hw0 ?_
  unfold State.setInteg
  try dsimp only
  repeat' first
    | with_reducible exact .refl _ _
    | with_reducible assumption
    | with_reducible refine State.setDomain_keeps ?_
    | fail_if_no_progress with_reducible refine Keeps.mk' ?_
    | split
    | dsimp only

theorem State.piRule_keeps {m0 s0 s d theta ts} (h0 : Keeps m0 s0 s) (hw0 : within 0x1000000000000000000000000000000000000000000000000000a m0 = true := by decide) :
    Keeps m0 s0 (State.piRule s d theta ts) := by
  refine h0.app hw0 ?_
  unfold State.piRule
  try dsimp only
  repeat' first
    | with_reducible exact .refl _ _
    | with_reducible assumption
    | with_reducible refine State.setInteg_keeps ?_
    | with_reducible refine State.drive_keeps ?_
    | split
    | dsimp only

theorem State.secondSample_keeps {m0 s0 s d theta ts theta1 t2a t2} (h0 : Keeps m0 s0 s) (hw0 : within 0x1000000000000000000000000000000000000000000000000000a m0 = true := by decide) :
    Keeps m0 s0 (State.secondSample s d theta ts theta1 t2a t2) := by
  refine h0.app hw0 ?_
  unfold State.secondSample
  try dsimp only
  repeat' first
    | with_reducible exact .refl _ _
    | with_reducible assumption
    | with_reducible refine State.setDomain_keeps ?_
    | with_reducible refine State.setInteg_keeps ?_
    | with_reducible refine State.drive_keeps ?_
    | fail_if_no_progress with_reducible refine Keeps.mk' ?_
    | split
    | dsimp only

theorem State.stepSample_keeps {m0 s0 s d theta t2} (h0 : Keeps m0 s0 s) (hw0 : within 0x8 m0 = true := by decide) :
    Keeps m0 s0 (State.stepSample s d theta t2) := by
  refine h0.app hw0 ?_
  unfold State.stepSample
  try dsimp only
  repeat' first
    | with_reducible exact .refl _ _
    | with_reducible assumption
    | with_reducible refine State.remap_keeps ?_
    | with_reducible refine State.setDomain_keeps ?_
    | fail_if_no_progress with_reducible refine Keeps.mk' ?_
    | split
    | dsimp only

theorem State.countNear_keeps {m0 s0 s d theta} (h0 : Keeps m0 s0 s) (hw0 : within 0x1000000000000000000000000000000000000000000000000008 m0 = true := by decide) :
    Keeps m0 s0 (State.countNear s d theta) := by
  refine h0.app hw0 ?_
  unfold State.countNear
  try dsimp only
  repeat' first
    | with_reducible exact .refl _ _
    | with_reducible assumption
    | with_reducible refine .ite _ ?_ ?_
    | with_reducible refine State.toServo_keeps ?_
    | with_reducible refine State.setDomain_keeps ?_
    | fail_if_no_progress with_reducible refine Keeps.mk' ?_
    | split
    | dsimp only

theorem State.acquireSample_keeps {m0 s0 s d theta ts t2} (h0 : Keeps m0 s0 s) (hw0 : within 0x1100000000000000000000000000000000000000000000000000a m0 = true := by decide) :
    Keeps m0 s0 (State.acquireSample s d theta ts t2) := by
  refine h0.app hw0 ?_
  unfold State.acquireSample
  try dsimp only
  repeat' first
    | with_reducible exact .refl _ _
    | with_reducible assumption
    | with_reducible refine .ite _ ?_ ?_
    | with_reducible refine State.acceptJump_keeps ?_
    | with_reducible refine State.stepSample_keeps ?_
    | with_reducible refine State.secondSample_keeps ?_
    | with_reducible refine State.piRule_keeps ?_
    | with_reducible refine State.countNear_keeps ?_
    | fail_if_no_progress with_reducible refine Keeps.mk' ?_
    | split
    | dsimp only

theorem State.servoSample_keeps {m0 s0 s d theta ts t2} (h0 : Keeps m0 s0 s) (hw0 : within 0x400000013000031800000000000000000000001000000000001e8000000a m0 = true := by decide) :
    Keeps m0 s0 (State.servoSample s d theta ts t2) := by
  refine h0.app hw0 ?_
  unfold State.servoSample
  try dsimp only
  repeat' first
    | with_reducible exact .refl _ _
    | with_reducible assumption
    | with_reducible refine .ite _ ?_ ?_
    | with_reducible refine State.toServo_keeps ?_
    | with_reducible refine State.acquireSample_keeps ?_
    | with_reducible refine State.piRule_keeps ?_
    | with_reducible refine State.setDomain_keeps ?_
    | with_reducible refine State.toHoldover_keeps (by first | assumption | (dsimp only [bank, Reg.TIM_DOM_JUMP_FLAG, Reg.TIM_DOM_JUMP_NS]; decide)) ?_
    | fail_if_no_progress with_reducible refine Keeps.mk' ?_
    | split
    | dsimp only

theorem State.sample_keeps {m0 s0 s d theta ts mpd t2} (h0 : Keeps m0 s0 s) (hw0 : within 0x40000001b000031800000000000000000000001000000000001e8000000a m0 = true := by decide) :
    Keeps m0 s0 (State.sample s d theta ts mpd t2) := by
  refine h0.app hw0 ?_
  unfold State.sample
  try dsimp only
  repeat' first
    | with_reducible exact .refl _ _
    | with_reducible assumption
    | with_reducible refine .ite _ ?_ ?_
    | with_reducible refine State.servoSample_keeps ?_
    | with_reducible refine State.setDomain_keeps ?_
    | with_reducible refine State.set_keeps (by first | assumption | (dsimp only [bank, Reg.TIM_DOM_DISCARD_CNT, Reg.TIM_DOM_THETA]; decide)) ?_
    | with_reducible refine State.bump_keeps (by first | assumption | (dsimp only [bank, Reg.TIM_DOM_DISCARD_CNT, Reg.TIM_DOM_THETA]; decide)) ?_
    | fail_if_no_progress with_reducible refine Keeps.mk' ?_
    | split
    | dsimp only

theorem State.ptpError_keeps {m0 s0 s d lane} (h0 : Keeps m0 s0 s) (hw0 : within 0x400000020000001800000000000000000000001000000000001e80000002 m0 = true := by decide) :
    Keeps m0 s0 (State.ptpError s d lane) := by
  refine h0.app hw0 ?_
  unfold State.ptpError
  try dsimp only
  repeat' first
    | with_reducible exact .refl _ _
    | with_reducible assumption
    | with_reducible refine State.logUnit_keeps ?_
    | with_reducible refine State.raise_keeps ?_
    | with_reducible refine State.bump_keeps (by first | assumption | (dsimp only [bank, Reg.TIM_DOM_PTP_ERR_CNT]; decide)) ?_
    | split
    | dsimp only

theorem State.countShort_keeps {m0 s0 s lane} (h0 : Keeps m0 s0 s) (hw0 : within 0x20000000000000000000000000000000000000000000000000002 m0 = true := by decide) :
    Keeps m0 s0 (State.countShort s lane) := by
  refine h0.app hw0 ?_
  unfold State.countShort
  try dsimp only
  repeat' first
    | with_reducible exact .refl _ _
    | with_reducible assumption
    | with_reducible refine .ite _ ?_ ?_
    | with_reducible refine State.bump_keeps (by first | assumption | (dsimp only [bank, Reg.TIM_DOM_PTP_ERR_CNT]; decide)) ?_
    | split
    | dsimp only

theorem State.ptp_keeps {m0 s0 s h act} (ha : ∀ d u, Keeps m0 s0 u → Keeps m0 s0 (act d u)) (h0 : Keeps m0 s0 s)
    (hw0 : within 0x400000020000001800000000000000000000001000000000001e80000002 m0 = true := by decide) : Keeps m0 s0 (State.ptp s h act) := by
  have k : ∀ a, within a 0x400000020000001800000000000000000000001000000000001e80000002 = true → within a m0 = true := fun _ h => within_trans h hw0
  have one : ∀ d u, Keeps m0 s0 u →
      Keeps m0 s0 (if u.hears d h then (if h.malformed then u.ptpError d h.lane else act d u) else u) := by
    intro d u hu
    refine .ite _ (.ite _ ?_ (ha d u hu)) hu
    exact State.ptpError_keeps hu (k _ (by decide))
  unfold State.ptp
  dsimp only
  split
  · exact State.raise_keeps (State.logUnit_keeps (State.countShort_keeps h0 (k _ (by decide))) (k _ (by decide))) (k _ (by decide))
  · exact one _ _ (one _ _ h0)

theorem State.trySample_keeps {m0 s0 s d} (h0 : Keeps m0 s0 s) (hw0 : within 0x40000001b000031800000000000000000000001000000000001e8000000a m0 = true := by decide) :
    Keeps m0 s0 (State.trySample s d) := by
  refine h0.app hw0 ?_
  unfold State.trySample
  try dsimp only
  repeat' first
    | with_reducible exact .refl _ _
    | with_reducible assumption
    | with_reducible refine State.setDomain_keeps ?_
    | with_reducible refine State.sample_keeps ?_
    | with_reducible refine State.answer_keeps ?_
    | fail_if_no_progress with_reducible refine Keeps.mk' ?_
    | split
    | dsimp only

theorem State.syncRx_keeps {m0 s0 s h t1 d} (h0 : Keeps m0 s0 s) (hw0 : within 0x40000001b000031800000000000000000000001000000000001e8000000a m0 = true := by decide) :
    Keeps m0 s0 (State.syncRx s h t1 d) := by
  refine h0.app hw0 ?_
  unfold State.syncRx
  try dsimp only
  repeat' first
    | with_reducible exact .refl _ _
    | with_reducible assumption
    | with_reducible refine .ite _ ?_ ?_
    | with_reducible refine State.setDomain_keeps ?_
    | with_reducible refine State.trySample_keeps ?_
    | fail_if_no_progress with_reducible refine Keeps.mk' ?_
    | split
    | dsimp only

theorem execSyncRx_keeps {h t1 s t0} (e0 : execSyncRx h t1 s = .next t0) : Keeps 0x40000003b000031800000000000000000000001000000000001e8000000a s t0 := by
  rw [← Host.Outcome.next.inj e0]
  try dsimp only
  repeat' first
    | with_reducible exact .refl _ _
    | with_reducible assumption
    | with_reducible refine State.syncRx_keeps ?_
    | with_reducible refine State.ptp_keeps (fun _ _ _ => ?_) ?_
    | split
    | dsimp only

theorem State.followUpRx_keeps {m0 s0 s h t1 d} (h0 : Keeps m0 s0 s) (hw0 : within 0x40000003b000031800000000000000000000001000000000001e8000000a m0 = true := by decide) :
    Keeps m0 s0 (State.followUpRx s h t1 d) := by
  refine h0.app hw0 ?_
  unfold State.followUpRx
  try dsimp only
  repeat' first
    | with_reducible exact .refl _ _
    | with_reducible assumption
    | with_reducible refine .ite _ ?_ ?_
    | with_reducible refine State.ptpError_keeps ?_
    | with_reducible refine State.setDomain_keeps ?_
    | with_reducible refine State.trySample_keeps ?_
    | fail_if_no_progress with_reducible refine Keeps.mk' ?_
    | split
    | dsimp only

theorem execFollowUpRx_keeps {h t1 s t0} (e0 : execFollowUpRx h t1 s = .next t0) : Keeps 0x40000003b000031800000000000000000000001000000000001e8000000a s t0 := by
  rw [← Host.Outcome.next.inj e0]
  try dsimp only
  repeat' first
    | with_reducible exact .refl _ _
    | with_reducible assumption
    | with_reducible refine State.followUpRx_keeps ?_
    | with_reducible refine State.ptp_keeps (fun _ _ _ => ?_) ?_
    | split
    | dsimp only

theorem State.delayReqSend_keeps {m0 s0 s d lane sub} (h0 : Keeps m0 s0 s) (hw0 : within 0xfec0a60000000000000000000000000000000000000000040000000000000000000000000000000000000100000000000168000001a m0 = true := by decide) :
    Keeps m0 s0 (State.delayReqSend s d lane sub) := by
  refine h0.app hw0 ?_
  unfold State.delayReqSend
  try dsimp only
  repeat' first
    | with_reducible exact .refl _ _
    | with_reducible assumption
    | with_reducible refine .ite _ ?_ ?_
    | with_reducible refine State.setDomain_keeps ?_
    | with_reducible refine State.originate_keeps ?_
    | fail_if_no_progress with_reducible refine Keeps.mk' ?_
    | split
    | dsimp only

theorem execDelayReqSend_keeps {d lane sub s t0} (e0 : execDelayReqSend d lane sub s = .next t0) : Keeps 0xfec0a60000000000000000000000000000000000000000040000000000000000000000000000000000000100000000000168000001a s t0 := by
  rw [← Host.Outcome.next.inj e0]
  try dsimp only
  repeat' first
    | with_reducible exact .refl _ _
    | with_reducible assumption
    | with_reducible refine State.delayReqSend_keeps ?_
    | split
    | dsimp only

theorem State.delayRespRx_keeps {m0 s0 s h t4 d} (h0 : Keeps m0 s0 s) (hw0 : within 0x40000003b000031800000000000000000000001000000000001e8000000a m0 = true := by decide) :
    Keeps m0 s0 (State.delayRespRx s h t4 d) := by
  refine h0.app hw0 ?_
  unfold State.delayRespRx
  try dsimp only
  repeat' first
    | with_reducible exact .refl _ _
    | with_reducible assumption
    | with_reducible refine .ite _ ?_ ?_
    | with_reducible refine State.setDomain_keeps ?_
    | with_reducible refine State.trySample_keeps ?_
    | with_reducible refine State.ptpError_keeps ?_
    | with_reducible refine State.answer_keeps ?_
    | fail_if_no_progress with_reducible refine Keeps.mk' ?_
    | split
    | dsimp only

theorem execDelayRespRx_keeps {h t4 s t0} (e0 : execDelayRespRx h t4 s = .next t0) : Keeps 0x40000003b000031800000000000000000000001000000000001e8000000a s t0 := by
  rw [← Host.Outcome.next.inj e0]
  try dsimp only
  repeat' first
    | with_reducible exact .refl _ _
    | with_reducible assumption
    | with_reducible refine State.delayRespRx_keeps ?_
    | with_reducible refine State.ptp_keeps (fun _ _ _ => ?_) ?_
    | split
    | dsimp only

theorem State.selectMaster_keeps {m0 s0 s d} (h0 : Keeps m0 s0 s) (hw0 : within 0x8 m0 = true := by decide) :
    Keeps m0 s0 (State.selectMaster s d) := by
  refine h0.app hw0 ?_
  unfold State.selectMaster
  try dsimp only
  repeat' first
    | with_reducible exact .refl _ _
    | with_reducible assumption
    | with_reducible refine .ite _ ?_ ?_
    | with_reducible refine State.setDomain_keeps ?_
    | fail_if_no_progress with_reducible refine Keeps.mk' ?_
    | split
    | dsimp only

theorem State.announceRx_keeps {m0 s0 s h a d} (h0 : Keeps m0 s0 s) (hw0 : within 0x8 m0 = true := by decide) :
    Keeps m0 s0 (State.announceRx s h a d) := by
  refine h0.app hw0 ?_
  unfold State.announceRx
  try dsimp only
  repeat' first
    | with_reducible exact .refl _ _
    | with_reducible assumption
    | with_reducible refine State.setDomain_keeps ?_
    | with_reducible refine State.selectMaster_keeps ?_
    | fail_if_no_progress with_reducible refine Keeps.mk' ?_
    | split
    | dsimp only

theorem execAnnounceRx_keeps {h a s t0} (e0 : execAnnounceRx h a s = .next t0) : Keeps 0x400000020000001800000000000000000000001000000000001e8000000a s t0 := by
  rw [← Host.Outcome.next.inj e0]
  try dsimp only
  repeat' first
    | with_reducible exact .refl _ _
    | with_reducible assumption
    | with_reducible refine State.announceRx_keeps ?_
    | with_reducible refine State.ptp_keeps (fun _ _ _ => ?_) ?_
    | split
    | dsimp only

theorem State.masterLoss_keeps {m0 s0 s d} (h0 : Keeps m0 s0 s) (hw0 : within 0x400000015000031800000000000000000000001000000000001e8000000a m0 = true := by decide) :
    Keeps m0 s0 (State.masterLoss s d) := by
  refine h0.app hw0 ?_
  unfold State.masterLoss
  try dsimp only
  repeat' first
    | with_reducible exact .refl _ _
    | with_reducible assumption
    | with_reducible refine .ite _ ?_ ?_
    | with_reducible refine State.setDomain_keeps ?_
    | with_reducible refine State.selectMaster_keeps ?_
    | with_reducible refine State.toHoldover_keeps (by first | assumption | (dsimp only [bank, Reg.TIM_DOM_LOSS_FLAG, Reg.TIM_DOM_SOURCE]; decide)) ?_
    | fail_if_no_progress with_reducible refine Keeps.mk' ?_
    | split
    | dsimp only

theorem execMasterLoss_keeps {d s t0} (e0 : execMasterLoss d s = .next t0) : Keeps 0x400000015000031800000000000000000000001000000000001e8000000a s t0 := by
  rw [← Host.Outcome.next.inj e0]
  try dsimp only
  repeat' first
    | with_reducible exact .refl _ _
    | with_reducible assumption
    | with_reducible refine State.masterLoss_keeps ?_
    | split
    | dsimp only

theorem State.snapDt_keeps {m0 s0 s m t} (h0 : Keeps m0 s0 s) (hw0 : within 0x1e00000000000000000000000000000000000000000000000 m0 = true := by decide) :
    Keeps m0 s0 (State.snapDt s m t) := by
  refine h0.app hw0 ?_
  unfold State.snapDt
  try dsimp only [State.setAll]
  repeat' first
    | with_reducible exact .refl _ _
    | with_reducible assumption
    | with_reducible refine State.set_keeps (by first | assumption | (dsimp only [bank, Reg.TIM_SNAP_DT_FRAC, Reg.TIM_SNAP_DT_NS, Reg.TIM_SNAP_DT_SEC_HI, Reg.TIM_SNAP_DT_SEC_LO]; decide)) ?_
    | split
    | dsimp only

theorem State.snap_keeps {m0 s0 s} (h0 : Keeps m0 s0 s) (hw0 : within 0x1800000001e00000000000000000000000000000000000000000000000 m0 = true := by decide) :
    Keeps m0 s0 (State.snap s) := by
  refine h0.app hw0 ?_
  unfold State.snap
  try dsimp only
  repeat' first
    | with_reducible exact .refl _ _
    | with_reducible assumption
    | with_reducible refine State.snapDt_keeps ?_
    | with_reducible refine State.set64_keeps (by first | assumption | (dsimp only [bank, Reg.TIM_SNAP_LC_HI, Reg.TIM_SNAP_LC_LO]; decide)) (by first | assumption | (dsimp only [bank, Reg.TIM_SNAP_LC_HI, Reg.TIM_SNAP_LC_LO]; decide)) ?_
    | split
    | dsimp only

theorem execSnap_keeps {w s t0} (e0 : execSnap w s = .next t0) : Keeps 0x401800000001f01800000000000000000000001000000000001e81000002 s t0 := by
  rw [← Host.Outcome.next.inj e0]
  try dsimp only
  repeat' first
    | with_reducible exact .refl _ _
    | with_reducible assumption
    | with_reducible refine State.snap_keeps ?_
    | with_reducible refine State.byWriter_keeps (fun _ _ => ?_) ?_
    | with_reducible refine State.logTim_keeps ?_
    | split
    | dsimp only

theorem State.revertAct_keeps {m0 s0 s} (h0 : Keeps m0 s0 s) (hw0 : within 0x40000000000003000000000000000000000000100000000000068000000a m0 = true := by decide) :
    Keeps m0 s0 (State.revertAct s).1 := by
  refine h0.app hw0 ?_
  unfold State.revertAct
  try dsimp only
  repeat' first
    | with_reducible exact .refl _ _
    | with_reducible assumption
    | with_reducible refine .ite _ ?_ ?_
    | with_reducible refine State.switchTo_keeps ?_
    | with_reducible refine State.raise_keeps ?_
    | split
    | dsimp only

theorem State.revertAct_keepsP {m0 s0 t0 x0 s} (e0 : State.revertAct s = (t0, x0)) (h0 : Keeps m0 s0 s)
    (hw0 : within 0x40000000000003000000000000000000000000100000000000068000000a m0 = true := by decide) : Keeps m0 s0 t0 := by
  have := State.revertAct_keeps (s := s) h0 hw0
  rwa [e0] at this

theorem State.revert_keeps {m0 s0 s w} (h0 : Keeps m0 s0 s) (hw0 : within 0x400000000000039800000000000000000000001000000000001e8100000a m0 = true := by decide) :
    Keeps m0 s0 (State.revert s w) := by
  refine h0.app hw0 ?_
  unfold State.revert
  try dsimp only
  repeat' first
    | with_reducible exact .refl _ _
    | with_reducible assumption
    | with_reducible refine State.revertAct_keeps ?_
    | with_reducible refine State.revertAct_keepsP (by assumption) ?_
    | with_reducible refine State.logTim_keeps ?_
    | split
    | dsimp only

theorem execRevert_keeps {w s t0} (e0 : execRevert w s = .next t0) : Keeps 0x400000000000039800000000000000000000001000000000001e8100000a s t0 := by
  rw [← Host.Outcome.next.inj e0]
  try dsimp only
  repeat' first
    | with_reducible exact .refl _ _
    | with_reducible assumption
    | with_reducible refine State.revert_keeps ?_
    | with_reducible refine State.byWriter_keeps (fun _ _ => ?_) ?_
    | split
    | dsimp only

theorem State.renewGates_keeps {m0 s0 s} (h0 : Keeps m0 s0 s) (hw0 : within 0xc0000020000000000000000000000000000000000000000000000000000000000000000000000000000000000000000000000018 m0 = true := by decide) :
    Keeps m0 s0 (State.renewGates s) := by
  refine h0.app hw0 ?_
  unfold State.renewGates
  try dsimp only
  repeat' first
    | with_reducible exact .refl _ _
    | with_reducible assumption
    | with_reducible refine State.renewX_keeps ?_
    | with_reducible refine State.queueGate_keeps ?_
    | with_reducible refine .foldl _ _ ?_ (fun _ _ _ => ?_)
    | split
    | dsimp only

theorem State.domainEnable_keeps {m0 s0 s d} (h0 : Keeps m0 s0 s) (hw0 : within 0xc0000020000000000000000000000000000000000000000000001802000000000000000000000000000000000000000000000018 m0 = true := by decide) :
    Keeps m0 s0 (State.domainEnable s d) := by
  refine h0.app hw0 ?_
  unfold State.domainEnable
  try dsimp only [State.setAll]
  repeat' first
    | with_reducible exact .refl _ _
    | with_reducible assumption
    | with_reducible refine .ite _ ?_ ?_
    | with_reducible refine State.setDomain_keeps ?_
    | with_reducible refine State.renewGates_keeps ?_
    | with_reducible refine State.set_keeps (by first | assumption | (dsimp only [bank, Reg.TIM_DOM_ENABLE, Reg.TIM_DOM_RATE, Reg.TIM_DOM_STATE]; decide)) ?_
    | fail_if_no_progress with_reducible refine Keeps.mk' ?_
    | split
    | dsimp only

theorem State.domainDisable_keeps {m0 s0 s d} (h0 : Keeps m0 s0 s) (hw0 : within 0x1002010000000000000000000000000000000000000680000008 m0 = true := by decide) :
    Keeps m0 s0 (State.domainDisable s d) := by
  refine h0.app hw0 ?_
  unfold State.domainDisable
  try dsimp only [State.setAll]
  repeat' first
    | with_reducible exact .refl _ _
    | with_reducible assumption
    | with_reducible refine .ite _ ?_ ?_
    | with_reducible refine State.cancelAll_keeps ?_
    | with_reducible refine State.setDomain_keeps ?_
    | with_reducible refine State.set_keeps (by first | assumption | (dsimp only [bank, Reg.TIM_CTRL_SLEWING, Reg.TIM_DOM_ENABLE, Reg.TIM_DOM_STATE]; decide)) ?_
    | fail_if_no_progress with_reducible refine Keeps.mk' ?_
    | split
    | dsimp only

theorem State.acceptJump_keeps {m0 s0 s d} (h0 : Keeps m0 s0 s) (hw0 : within 0x1000000000000000000000000000000000000000000000000008 m0 = true := by decide) :
    Keeps m0 s0 (State.acceptJump s d) := by
  refine h0.app hw0 ?_
  unfold State.acceptJump
  try dsimp only
  repeat' first
    | with_reducible exact .refl _ _
    | with_reducible assumption
    | with_reducible refine .ite _ ?_ ?_
    | with_reducible refine State.toServo_keeps ?_
    | with_reducible refine State.setDomain_keeps ?_
    | fail_if_no_progress with_reducible refine Keeps.mk' ?_
    | split
    | dsimp only

theorem execAcceptJump_keeps {w d s t0} (e0 : execAcceptJump w d s = .next t0) : Keeps 0x400000001004001800000000000000000000001000000000001e8100000a s t0 := by
  rw [← Host.Outcome.next.inj e0]
  try dsimp only
  repeat' first
    | with_reducible exact .refl _ _
    | with_reducible assumption
    | with_reducible refine State.acceptJump_keeps ?_
    | with_reducible refine State.byWriter_keeps (fun _ _ => ?_) ?_
    | with_reducible refine State.logTim_keeps ?_
    | split
    | dsimp only

theorem State.todWrite_keeps {m0 s0 s d sec} (h0 : Keeps m0 s0 s) (hw0 : within 0x8 m0 = true := by decide) :
    Keeps m0 s0 (State.todWrite s d sec) := by
  refine h0.app hw0 ?_
  unfold State.todWrite
  try dsimp only
  repeat' first
    | with_reducible exact .refl _ _
    | with_reducible assumption
    | with_reducible refine State.setDomain_keeps ?_
    | fail_if_no_progress with_reducible refine Keeps.mk' ?_
    | split
    | dsimp only

theorem execTodSecWrite_keeps {w d sec s t0} (e0 : execTodSecWrite w d sec s = .next t0) : Keeps 0x400000040000001800000000000000000000001000000000001e8100000a s t0 := by
  rw [← Host.Outcome.next.inj e0]
  try dsimp only
  repeat' first
    | with_reducible exact .refl _ _
    | with_reducible assumption
    | with_reducible refine State.todWrite_keeps ?_
    | with_reducible refine State.byWriter_keeps (fun _ _ => ?_) ?_
    | with_reducible refine State.logTim_keeps ?_
    | split
    | dsimp only

theorem State.launchWrite_keeps {m0 s0 s p w} (h0 : Keeps m0 s0 s) (hw0 : within 0x400000000000001800000000000000000000001000000000001e8100000a m0 = true := by decide) :
    Keeps m0 s0 (State.launchWrite s p w) := by
  refine h0.app hw0 ?_
  unfold State.launchWrite
  try dsimp only
  repeat' first
    | with_reducible exact .refl _ _
    | with_reducible assumption
    | with_reducible refine .ite _ ?_ ?_
    | with_reducible refine State.logReg_keeps ?_
    | with_reducible refine State.enqueue_keeps ?_
    | split
    | dsimp only

theorem execLaunchWindowWrite_keeps {p w s t0} (e0 : execLaunchWindowWrite p w s = .next t0) : Keeps 0x400000000000001800000000000000000000001000000000001e8100000a s t0 := by
  rw [← Host.Outcome.next.inj e0]
  try dsimp only
  repeat' first
    | with_reducible exact .refl _ _
    | with_reducible assumption
    | with_reducible refine State.launchWrite_keeps ?_
    | with_reducible refine State.byWriter_keeps (fun _ _ => ?_) ?_
    | split
    | dsimp only

theorem State.windowWrite_keeps {m0 s0 s p off v} (h0 : Keeps m0 s0 s) (hw0 : within 0x400000000000001800000000000000000000001000000000001e8100000a m0 = true := by decide) :
    Keeps m0 s0 (State.windowWrite s p off v) := by
  refine h0.app hw0 ?_
  unfold State.windowWrite
  try dsimp only
  repeat' first
    | with_reducible exact .refl _ _
    | with_reducible assumption
    | with_reducible refine .ite _ ?_ ?_
    | with_reducible refine State.launchWrite_keeps ?_
    | fail_if_no_progress with_reducible refine Keeps.mk' ?_
    | split
    | dsimp only

theorem State.launchCancel_keeps {m0 s0 s u tag} (h0 : Keeps m0 s0 s) (hw0 : within 0x680000008 m0 = true := by decide) :
    Keeps m0 s0 (State.launchCancel s u tag) := by
  refine h0.app hw0 ?_
  unfold State.launchCancel
  try dsimp only
  repeat' first
    | with_reducible exact .refl _ _
    | with_reducible assumption
    | with_reducible refine .ite _ ?_ ?_
    | with_reducible refine State.setQueue_keeps ?_
    | with_reducible refine State.cancel_keeps ?_
    | fail_if_no_progress with_reducible refine Keeps.mk' ?_
    | split
    | dsimp only

theorem execLaunchCancel_keeps {w u tag s t0} (e0 : execLaunchCancel w u tag s = .next t0) : Keeps 0x400200000000001800000000000000000000001000000000001e8100000a s t0 := by
  rw [← Host.Outcome.next.inj e0]
  try dsimp only
  repeat' first
    | with_reducible exact .refl _ _
    | with_reducible assumption
    | with_reducible refine State.launchCancel_keeps ?_
    | with_reducible refine State.byWriter_keeps (fun _ _ => ?_) ?_
    | with_reducible refine State.logTim_keeps ?_
    | split
    | dsimp only

theorem State.slewEnd_keeps {m0 s0 s} (h0 : Keeps m0 s0 s) (hw0 : within 0x10000000000000000000000000000000000000000000008 m0 = true := by decide) :
    Keeps m0 s0 (State.slewEnd s) := by
  refine h0.app hw0 ?_
  unfold State.slewEnd
  try dsimp only
  repeat' first
    | with_reducible exact .refl _ _
    | with_reducible assumption
    | with_reducible refine .ite _ ?_ ?_
    | with_reducible refine State.set_keeps (by first | assumption | (dsimp only [bank, Reg.TIM_CTRL_SLEWING]; decide)) ?_
    | fail_if_no_progress with_reducible refine Keeps.mk' ?_
    | split
    | dsimp only

theorem execSlewEnd_keeps {s t0} (e0 : execSlewEnd s = .next t0) : Keeps 0x10000000000000000000000000000000000000000000008 s t0 := by
  rw [← Host.Outcome.next.inj e0]
  try dsimp only
  repeat' first
    | with_reducible exact .refl _ _
    | with_reducible assumption
    | with_reducible refine State.slewEnd_keeps ?_
    | split
    | dsimp only

theorem State.ppsAt_keeps {m0 s0 s sub d} (h0 : Keeps m0 s0 s) (hw0 : within 0x40000001b000031800000000000000000000001000000000001e8000000a m0 = true := by decide) :
    Keeps m0 s0 (State.ppsAt s sub d) := by
  refine h0.app hw0 ?_
  unfold State.ppsAt
  try dsimp only
  repeat' first
    | with_reducible exact .refl _ _
    | with_reducible assumption
    | with_reducible refine .ite _ ?_ ?_
    | with_reducible refine State.setDomain_keeps ?_
    | with_reducible refine State.sample_keeps ?_
    | with_reducible refine State.bump_keeps (by first | assumption | (dsimp only [bank, Reg.TIM_DOM_DISCARD_CNT, Reg.TIM_DOM_SOURCE]; decide)) ?_
    | fail_if_no_progress with_reducible refine Keeps.mk' ?_
    | split
    | dsimp only

theorem State.ppsInEdge_keeps {m0 s0 s sub} (h0 : Keeps m0 s0 s) (hw0 : within 0x40001001b000031800000000000000000000001000000000001e8000000a m0 = true := by decide) :
    Keeps m0 s0 (State.ppsInEdge s sub) := by
  refine h0.app hw0 ?_
  unfold State.ppsInEdge
  try dsimp only
  repeat' first
    | with_reducible exact .refl _ _
    | with_reducible assumption
    | with_reducible refine State.ppsAt_keeps ?_
    | with_reducible refine State.set_keeps (by first | assumption | (dsimp only [bank, Reg.TIM_REFSTAT_PPS_OK]; decide)) ?_
    | split
    | dsimp only

theorem execPpsInEdge_keeps {sub s t0} (e0 : execPpsInEdge sub s = .next t0) : Keeps 0x40001001b000031800000000000000000000001000000000001e8000000a s t0 := by
  rw [← Host.Outcome.next.inj e0]
  try dsimp only
  repeat' first
    | with_reducible exact .refl _ _
    | with_reducible assumption
    | with_reducible refine State.ppsInEdge_keeps ?_
    | split
    | dsimp only

theorem State.ppsLost_keeps {m0 s0 s d} (h0 : Keeps m0 s0 s) (hw0 : within 0x400000015000031800000000000000000000001000000000001e8000000a m0 = true := by decide) :
    Keeps m0 s0 (State.ppsLost s d) := by
  refine h0.app hw0 ?_
  unfold State.ppsLost
  try dsimp only
  repeat' first
    | with_reducible exact .refl _ _
    | with_reducible assumption
    | with_reducible refine .ite _ ?_ ?_
    | with_reducible refine State.toHoldover_keeps (by first | assumption | (dsimp only [bank, Reg.TIM_DOM_LOSS_FLAG, Reg.TIM_DOM_SOURCE]; decide)) ?_
    | split
    | dsimp only

theorem State.ppsInLoss_keeps {m0 s0 s} (h0 : Keeps m0 s0 s) (hw0 : within 0x400014015000031800000000000000000000001000000000001e8000000a m0 = true := by decide) :
    Keeps m0 s0 (State.ppsInLoss s) := by
  refine h0.app hw0 ?_
  unfold State.ppsInLoss
  try dsimp only
  repeat' first
    | with_reducible exact .refl _ _
    | with_reducible assumption
    | with_reducible refine State.raise_keeps ?_
    | with_reducible refine State.ppsLost_keeps ?_
    | with_reducible refine State.set_keeps (by first | assumption | (dsimp only [bank, Reg.TIM_REFSTAT_PPS_LOST, Reg.TIM_REFSTAT_PPS_OK]; decide)) ?_
    | with_reducible refine State.flag_keeps (by first | assumption | (dsimp only [bank, Reg.TIM_REFSTAT_PPS_LOST, Reg.TIM_REFSTAT_PPS_OK]; decide)) ?_
    | split
    | dsimp only

theorem execPpsInLoss_keeps {s t0} (e0 : execPpsInLoss s = .next t0) : Keeps 0x400014015000031800000000000000000000001000000000001e8000000a s t0 := by
  rw [← Host.Outcome.next.inj e0]
  try dsimp only
  repeat' first
    | with_reducible exact .refl _ _
    | with_reducible assumption
    | with_reducible refine State.ppsInLoss_keeps ?_
    | split
    | dsimp only

theorem State.clk10InLoss_keeps {m0 s0 s} (h0 : Keeps m0 s0 s) (hw0 : within 0x40000a000000000000000000000000000000001000000000000680000002 m0 = true := by decide) :
    Keeps m0 s0 (State.clk10InLoss s) := by
  refine h0.app hw0 ?_
  unfold State.clk10InLoss
  try dsimp only
  repeat' first
    | with_reducible exact .refl _ _
    | with_reducible assumption
    | with_reducible refine State.raise_keeps ?_
    | with_reducible refine State.set_keeps (by first | assumption | (dsimp only [bank, Reg.TIM_REFSTAT_CLK10_LOST, Reg.TIM_REFSTAT_CLK10_OK]; decide)) ?_
    | with_reducible refine State.flag_keeps (by first | assumption | (dsimp only [bank, Reg.TIM_REFSTAT_CLK10_LOST, Reg.TIM_REFSTAT_CLK10_OK]; decide)) ?_
    | split
    | dsimp only

theorem execClk10InLoss_keeps {s t0} (e0 : execClk10InLoss s = .next t0) : Keeps 0x40000a000000000000000000000000000000001000000000000680000002 s t0 := by
  rw [← Host.Outcome.next.inj e0]
  try dsimp only
  repeat' first
    | with_reducible exact .refl _ _
    | with_reducible assumption
    | with_reducible refine State.clk10InLoss_keeps ?_
    | split
    | dsimp only

theorem State.clk10Tick_keeps {m0 s0 s} (h0 : Keeps m0 s0 s) (hw0 : within 0x0 m0 = true := by decide) :
    Keeps m0 s0 (State.clk10Tick s) := by
  refine h0.app hw0 ?_
  unfold State.clk10Tick
  try dsimp only
  repeat' first
    | with_reducible exact .refl _ _
    | with_reducible assumption
    | with_reducible refine .ite _ ?_ ?_
    | with_reducible refine State.emit_keeps ?_
    | fail_if_no_progress with_reducible refine Keeps.mk' ?_
    | split
    | dsimp only

theorem execPllRefSwitch_keeps {s t0} (e0 : execPllRefSwitch s = .next t0) : Keeps 0x8 s t0 := by
  rw [← Host.Outcome.next.inj e0]
  try dsimp only
  repeat' first
    | with_reducible exact .refl _ _
    | with_reducible assumption
    | with_reducible refine .ite _ ?_ ?_
    | fail_if_no_progress with_reducible refine Keeps.mk' ?_
    | split
    | dsimp only

theorem execPpsOutEdge_keeps {s t0} (e0 : execPpsOutEdge s = .next t0) : Keeps 0x0 s t0 := by
  rw [← Host.Outcome.next.inj e0]
  try dsimp only
  repeat' first
    | with_reducible exact .refl _ _
    | with_reducible assumption
    | with_reducible refine .ite _ ?_ ?_
    | with_reducible refine State.emit_keeps ?_
    | fail_if_no_progress with_reducible refine Keeps.mk' ?_
    | split
    | dsimp only

theorem State.governs_keeps {m0 s0 s d} (h0 : Keeps m0 s0 s) (hw0 : within 0x800000000000000000000000000000000000000000000000008 m0 = true := by decide) :
    Keeps m0 s0 (State.governs s d) := by
  refine h0.app hw0 ?_
  unfold State.governs
  try dsimp only
  repeat' first
    | with_reducible exact .refl _ _
    | with_reducible assumption
    | with_reducible refine .ite _ ?_ ?_
    | with_reducible refine State.setDomain_keeps ?_
    | with_reducible refine State.set_keeps (by first | assumption | (dsimp only [bank, Reg.TIM_DOM_RATE]; decide)) ?_
    | fail_if_no_progress with_reducible refine Keeps.mk' ?_
    | split
    | dsimp only

theorem State.tickTime_keeps {m0 s0 s} (h0 : Keeps m0 s0 s) (hw0 : within 0x80000000000000000000000000000000000000000000000000c m0 = true := by decide) :
    Keeps m0 s0 (State.tickTime s) := by
  refine h0.app hw0 ?_
  unfold State.tickTime
  try dsimp only
  repeat' first
    | with_reducible exact .refl _ _
    | with_reducible assumption
    | with_reducible refine State.governs_keeps ?_
    | with_reducible refine State.clk10Tick_keeps ?_
    | fail_if_no_progress with_reducible refine Keeps.mk' ?_
    | split
    | dsimp only

end Sys2Proof.Machine
end

