-- ==== Sys2Proof/Laws/KeepsSlots.lean ====
section
/-! SUPPORT. What each operation of Machine/Slots.lean may change (Laws/Keeps.lean). -/

namespace Sys2Proof.Machine

set_option Elab.async false
set_option linter.unusedTactic false
set_option linter.unusedSimpArgs false
set_option linter.unreachableTactic false

theorem State.setSlot_keeps {m0 s0 s n x} (h0 : Keeps m0 s0 s) (hw0 : within 0x20 m0 = true := by decide) :
    Keeps m0 s0 (State.setSlot s n x) := by
  refine h0.app hw0 ?_
  unfold State.setSlot
  try dsimp only
  repeat' first
    | with_reducible exact .refl _ _
    | with_reducible assumption
    | fail_if_no_progress with_reducible refine Keeps.mk' ?_
    | split
    | dsimp only

theorem State.updSlot_keeps {m0 s0 s n f} (h0 : Keeps m0 s0 s) (hw0 : within 0x20 m0 = true := by decide) :
    Keeps m0 s0 (State.updSlot s n f) := by
  refine h0.app hw0 ?_
  unfold State.updSlot
  try dsimp only
  repeat' first
    | with_reducible exact .refl _ _
    | with_reducible assumption
    | with_reducible refine State.setSlot_keeps ?_
    | split
    | dsimp only

theorem State.dropProtected_keeps {m0 s0 s o n} (h0 : Keeps m0 s0 s) (hw0 : within 0x2000000000000000000000000000000000000000000000000000000000000000000000000000400000000000001800000000000000000000001000000000001e80000002 m0 = true := by decide) :
    Keeps m0 s0 (State.dropProtected s o n) := by
  refine h0.app hw0 ?_
  unfold State.dropProtected
  try dsimp only
  repeat' first
    | with_reducible exact .refl _ _
    | with_reducible assumption
    | with_reducible refine State.logUnit_keeps ?_
    | with_reducible refine State.raiseLimited_keeps ?_
    | with_reducible refine State.bump_keeps (by first | assumption | (dsimp only [bank, Reg.SAF_CLR_CLR, Reg.SAF_PROTECT_CNT]; decide)) ?_
    | split
    | dsimp only

theorem State.deviceStore_keeps {m0 s0 s a l} (h0 : Keeps m0 s0 s) (hw0 : within 0x2000000000000000000000000000000000000000000000000000000000000000000000000000400000000000001800000000000000000000001000000000003e80010002 m0 = true := by decide) :
    Keeps m0 s0 (State.deviceStore s a l) := by
  refine h0.app hw0 ?_
  unfold State.deviceStore
  try dsimp only
  repeat' first
    | with_reducible exact .refl _ _
    | with_reducible assumption
    | with_reducible refine State.dropProtected_keeps ?_
    | with_reducible refine State.store_keeps ?_
    | fail_if_no_progress with_reducible refine Keeps.mk' ?_
    | split
    | dsimp only

theorem State.showCfg_keeps {m0 s0 s n} (h0 : Keeps m0 s0 s) (hw0 : within 0x70c00000000000a000000600000000000000000000000000000000000000000000000000000000000000000000000000000000000000000000000000000000000000000000000000000000000000000000 m0 = true := by decide) :
    Keeps m0 s0 (State.showCfg s n) := by
  refine h0.app hw0 ?_
  unfold State.showCfg
  try dsimp only [State.setAll]
  repeat' first
    | with_reducible exact .refl _ _
    | with_reducible assumption
    | with_reducible refine .ite _ ?_ ?_
    | with_reducible refine State.set_keeps (by first | assumption | (dsimp only [bank, Reg.ENC_BS_BUDGET_MARGIN_US, Reg.ENC_BS_BUDGET_VALID, Reg.ENC_BS_GDR_COLS, Reg.ENC_BS_SIZE_HEIGHT, Reg.ENC_BS_SIZE_WIDTH, Reg.ENC_BS_SP_COUNT, Reg.ENC_BS_SP_H, Reg.ENC_BS_SP_W, Reg.ENC_BS_SWEEP_LEN, Reg.RC_BS_B_MAX, Reg.RC_BS_OVERHEAD, Reg.RC_BS_ROW_FLOOR_EFF, Reg.RC_BS_ROW_MAX_EFF, Reg.RC_BS_SPOIL_ROW]; decide)) ?_
    | split
    | dsimp only

theorem State.queueComposition_keeps {m0 s0 s n pic} (h0 : Keeps m0 s0 s) (hw0 : within 0x8 m0 = true := by decide) :
    Keeps m0 s0 (State.queueComposition s n pic) := by
  refine h0.app hw0 ?_
  unfold State.queueComposition
  try dsimp only
  repeat' first
    | with_reducible exact .refl _ _
    | with_reducible assumption
    | with_reducible refine .ite _ ?_ ?_
    | with_reducible refine State.launchAt_keeps ?_
    | split
    | dsimp only

theorem State.moveComposition_keeps {m0 s0 s n old} (h0 : Keeps m0 s0 s) (hw0 : within 0x680000008 m0 = true := by decide) :
    Keeps m0 s0 (State.moveComposition s n old) := by
  refine h0.app hw0 ?_
  unfold State.moveComposition
  try dsimp only
  repeat' first
    | with_reducible exact .refl _ _
    | with_reducible assumption
    | with_reducible refine .ite _ ?_ ?_
    | with_reducible refine State.cancelAll_keeps ?_
    | with_reducible refine State.queueComposition_keeps ?_
    | fail_if_no_progress with_reducible refine Keeps.mk' ?_
    | split
    | dsimp only

theorem State.install_keeps {m0 s0 s n} (h0 : Keeps m0 s0 s) (hw0 : within 0xffffe70ffdfffefc03ffffc0007f0000000000000000000000000000000000000000000000000000000000000000000000000000000000000000000000000000000000000000000000000000000000680000028 m0 = true := by decide) :
    Keeps m0 s0 (State.install s n) := by
  refine h0.app hw0 ?_
  unfold State.install
  try dsimp only
  repeat' first
    | with_reducible exact .refl _ _
    | with_reducible assumption
    | with_reducible refine .ite _ ?_ ?_
    | with_reducible refine State.setSlot_keeps ?_
    | with_reducible refine State.moveComposition_keeps ?_
    | with_reducible refine State.showCfg_keeps ?_
    | with_reducible refine State.copyBank_keeps (by (repeat' first | with_reducible assumption | with_reducible exact inMask_nil _ | (with_reducible refine inMask_cons ?_ ?_) | (with_reducible refine inMask_append ?_ ?_) | (with_reducible refine inMask_flatMap (fun _ => ?_)) | (with_reducible refine asBit ?_; dsimp only [Function.comp, bank, Reg.DEC_BS_AREA_BASE, Reg.DEC_BS_CHROMA, Reg.DEC_BS_CODEC, Reg.DEC_BS_DEPTH8, Reg.DEC_BS_HEIGHT, Reg.DEC_BS_LOAD_US, Reg.DEC_BS_OUT_H, Reg.DEC_BS_OUT_W, Reg.DEC_BS_OUT_X, Reg.DEC_BS_OUT_Y, Reg.DEC_BS_RATE, Reg.DEC_BS_SBUF_LOG2, Reg.DEC_BS_SP_H, Reg.DEC_BS_SP_W, Reg.DEC_BS_WIDTH, Reg.DEC_BS_WIN_COL, Reg.DEC_BS_WIN_COLS, Reg.DEC_BS_WIN_ROW, Reg.DEC_BS_WIN_ROWS, Reg.ENC_BS_A_DST_US, Reg.ENC_BS_A_RES_US, Reg.ENC_BS_A_SCN_US, Reg.ENC_BS_A_SRC_US, Reg.ENC_BS_COLS_PER_ENG, Reg.ENC_BS_D_NS, Reg.ENC_BS_FORMAT_CHROMA, Reg.ENC_BS_FORMAT_KIND, Reg.ENC_BS_FORMAT_LEVEL, Reg.ENC_BS_FORMAT_PROFILE, Reg.ENC_BS_FORMAT_RATE, Reg.ENC_BS_FORMAT_STRICT_LEVEL, Reg.ENC_BS_FORMAT_TIER, Reg.ENC_BS_GDR_COLS, Reg.ENC_BS_PKT_MTU, Reg.ENC_BS_PKT_PMT_PID, Reg.ENC_BS_PKT_STREAMS, Reg.ENC_BS_PKT_TS_EN, Reg.ENC_BS_PKT_TS_RTP, Reg.ENC_BS_PKT_VIDEO_PID, Reg.ENC_BS_SIZE_HEIGHT, Reg.ENC_BS_SIZE_WIDTH, Reg.ENC_BS_SP_H, Reg.ENC_BS_SP_W, Reg.ENC_BS_STR_COL_FIRST, Reg.ENC_BS_STR_COL_LAST, Reg.ENC_BS_STR_DSCP, Reg.ENC_BS_STR_DST_PORT, Reg.ENC_BS_STR_GROUP, Reg.ENC_BS_STR_LANE0, Reg.ENC_BS_STR_LANE1, Reg.ENC_BS_STR_PATH1_EN, Reg.ENC_BS_STR_PCP, Reg.ENC_BS_STR_PT, Reg.ENC_BS_STR_SRC_PORT, Reg.ENC_BS_STR_SSRC, Reg.ENC_BS_STR_TAG_EN, Reg.ENC_BS_STR_TCLASS, Reg.ENC_BS_STR_TTL, Reg.ENC_BS_STR_VID, Reg.ENC_BS_TOOLS_AFFINE_EN, Reg.ENC_BS_TOOLS_FACE_MASK, Reg.ENC_BS_TOOLS_HINT_EN, Reg.ENC_BS_TOOLS_NUM_REF, Reg.ENC_BS_TOOLS_TS_EN, Reg.RC_BS_DQP_PIC, Reg.RC_BS_MAX_KBPS, Reg.RC_BS_QP_INIT, Reg.RC_BS_QP_MAX, Reg.RC_BS_QP_MIN, Reg.RC_BS_ROW_FLOOR, Reg.RC_BS_ROW_MAX, Reg.RC_BS_TARGET_KBPS]; decide) | (unfold commonFields) | (unfold fixedDecode) | (unfold fixedEncode) | (unfold liveEncode) | (unfold liveStream) | (unfold slotFields) | (simp only [List.map_map, List.map_append, List.map_cons, List.map_nil]) | (with_reducible refine inMask_ite _ ?_ ?_) | split | (with_reducible refine inMask_map (fun _ => ?_)))) ?_
    | fail_if_no_progress with_reducible refine Keeps.mk' ?_
    | split
    | dsimp only

theorem State.setScn_keeps {m0 s0 s i x} (h0 : Keeps m0 s0 s) (hw0 : within 0x2000 m0 = true := by decide) :
    Keeps m0 s0 (State.setScn s i x) := by
  refine h0.app hw0 ?_
  unfold State.setScn
  try dsimp only
  repeat' first
    | with_reducible exact .refl _ _
    | with_reducible assumption
    | fail_if_no_progress with_reducible refine Keeps.mk' ?_
    | split
    | dsimp only

theorem State.recheckLoad_keeps {m0 s0 s n} (h0 : Keeps m0 s0 s) (hw0 : within 0x300000000000000000000000000000000000000000000000000000000000000000000000000000000000000000000000000000000000000000000000000000000000000000000000000000000000000000000000000002000 m0 = true := by decide) :
    Keeps m0 s0 (State.recheckLoad s n) := by
  refine h0.app hw0 ?_
  unfold State.recheckLoad
  try dsimp only [State.setAll]
  repeat' first
    | with_reducible exact .refl _ _
    | with_reducible assumption
    | with_reducible refine State.setScn_keeps ?_
    | with_reducible refine State.set_keeps (by first | assumption | (dsimp only [bank, Reg.DEC_BS_LOAD_US, Reg.SCN_LANE_COMMIT_LAST_STATUS, Reg.SCN_LANE_STATUS_STATE]; decide)) ?_
    | with_reducible refine .foldl _ _ ?_ (fun _ _ _ => ?_)
    | fail_if_no_progress with_reducible refine Keeps.mk' ?_
    | split
    | dsimp only

theorem State.forgetLuts_keeps {m0 s0 s n} (h0 : Keeps m0 s0 s) (hw0 : within 0x80 m0 = true := by decide) :
    Keeps m0 s0 (State.forgetLuts s n) := by
  refine h0.app hw0 ?_
  unfold State.forgetLuts
  try dsimp only
  repeat' first
    | with_reducible exact .refl _ _
    | with_reducible assumption
    | fail_if_no_progress with_reducible refine Keeps.mk' ?_
    | split
    | dsimp only

theorem State.reloadTables_keeps {m0 s0 s n} (h0 : Keeps m0 s0 s) (hw0 : within 0x80 m0 = true := by decide) :
    Keeps m0 s0 (State.reloadTables s n) := by
  refine h0.app hw0 ?_
  unfold State.reloadTables
  try dsimp only
  repeat' first
    | with_reducible exact .refl _ _
    | with_reducible assumption
    | with_reducible refine .ite _ ?_ ?_
    | fail_if_no_progress with_reducible refine Keeps.mk' ?_
    | split
    | dsimp only

theorem State.endClaims_keeps {m0 s0 s n} (h0 : Keeps m0 s0 s) (hw0 : within 0x80 m0 = true := by decide) :
    Keeps m0 s0 (State.endClaims s n) := by
  refine h0.app hw0 ?_
  unfold State.endClaims
  try dsimp only
  repeat' first
    | with_reducible exact .refl _ _
    | with_reducible assumption
    | fail_if_no_progress with_reducible refine Keeps.mk' ?_
    | split
    | dsimp only

theorem State.slotCommit_keeps {m0 s0 s n} (h0 : Keeps m0 s0 s) (hw0 : within 0x3000000000ffffe70ffdfffefc03ffffc0107f00000000000000000000000000000000000000000000000000000000000000000000000000000000000000000000000000000000000000000000000000000000006800020a8 m0 = true := by decide) :
    Keeps m0 s0 (State.slotCommit s n).1 := by
  refine h0.app hw0 ?_
  unfold State.slotCommit
  try dsimp only
  repeat' first
    | with_reducible exact .refl _ _
    | with_reducible assumption
    | with_reducible refine .ite _ ?_ ?_
    | with_reducible refine State.install_keeps ?_
    | with_reducible refine State.recheckLoad_keeps ?_
    | with_reducible refine State.forgetLuts_keeps ?_
    | with_reducible refine State.set_keeps (by first | assumption | (dsimp only [bank, Reg.DEC_BS_LOAD_US, Reg.ENC_BS_FORMAT_KIND, Reg.ENC_BS_RUN_STATE]; decide)) ?_
    | split
    | dsimp only

theorem State.slotCommit_keepsP {m0 s0 t0 x0 s n} (e0 : State.slotCommit s n = (t0, x0)) (h0 : Keeps m0 s0 s)
    (hw0 : within 0x3000000000ffffe70ffdfffefc03ffffc0107f00000000000000000000000000000000000000000000000000000000000000000000000000000000000000000000000000000000000000000000000000000000006800020a8 m0 = true := by decide) : Keeps m0 s0 t0 := by
  have := State.slotCommit_keeps (s := s) (n := n) h0 hw0
  rwa [e0] at this

theorem State.setPd_keeps {m0 s0 s on p} (h0 : Keeps m0 s0 s) (hw0 : within 0x2000000000000000000000000000000 m0 = true := by decide) :
    Keeps m0 s0 (State.setPd s on p) := by
  refine h0.app hw0 ?_
  unfold State.setPd
  try dsimp only
  repeat' first
    | with_reducible exact .refl _ _
    | with_reducible assumption
    | with_reducible refine .ite _ ?_ ?_
    | with_reducible refine State.set_keeps (by first | assumption | (dsimp only [bank, Reg.PWR_PD_ON]; decide)) ?_
    | split
    | dsimp only

theorem State.setPds_keeps {m0 s0 s on l} (h0 : Keeps m0 s0 s) (hw0 : within 0x2000000000000000000000000000000 m0 = true := by decide) :
    Keeps m0 s0 (State.setPds s on l) := by
  refine h0.app hw0 ?_
  unfold State.setPds
  try dsimp only
  repeat' first
    | with_reducible exact .refl _ _
    | with_reducible assumption
    | with_reducible refine State.setPd_keeps ?_
    | with_reducible refine .foldl _ _ ?_ (fun _ _ _ => ?_)
    | split
    | dsimp only

theorem State.showFaces_keeps {m0 s0 s} (h0 : Keeps m0 s0 s) (hw0 : within 0x3000000000000000000000000000000000000000000000000000000000000000000000000000000000000000000000000000000000000000000000000000000000000000000000000 m0 = true := by decide) :
    Keeps m0 s0 (State.showFaces s) := by
  refine h0.app hw0 ?_
  unfold State.showFaces
  try dsimp only [State.setAll]
  repeat' first
    | with_reducible exact .refl _ _
    | with_reducible assumption
    | with_reducible refine State.set_keeps (by first | assumption | (dsimp only [bank, Reg.ENC_FACE_LOAD_PM, Reg.ENC_FACE_SLOTS]; decide)) ?_
    | with_reducible refine .foldl _ _ ?_ (fun _ _ _ => ?_)
    | split
    | dsimp only

theorem State.allocate_keeps {m0 s0 s n faces engines u} (h0 : Keeps m0 s0 s) (hw0 : within 0x1c000030000000000000000000060000000000000000000000000000000000000000000000000000000000000000000000000000000000000000000020000000000000000000000000000a0 m0 = true := by decide) :
    Keeps m0 s0 (State.allocate s n faces engines u) := by
  refine h0.app hw0 ?_
  unfold State.allocate
  try dsimp only [State.setAll]
  repeat' first
    | with_reducible exact .refl _ _
    | with_reducible assumption
    | with_reducible refine State.updSlot_keeps ?_
    | with_reducible refine State.showFaces_keeps ?_
    | with_reducible refine State.setPds_keeps ?_
    | with_reducible refine State.reloadTables_keeps ?_
    | with_reducible refine State.set_keeps (by first | assumption | (dsimp only [bank, Reg.CMP_SLOT_STATUS_UNIT, Reg.CMP_SLOT_STATUS_UNIT_VALID, Reg.ENC_BS_ENGMASK_ENGINE, Reg.ENC_BS_ENG_COUNT, Reg.ENC_BS_FACE_USED]; decide)) ?_
    | fail_if_no_progress with_reducible refine Keeps.mk' ?_
    | split
    | dsimp only

theorem State.release_keeps {m0 s0 s n} (h0 : Keeps m0 s0 s) (hw0 : within 0x1c000030000000000000000000060000000000000000000000000000000000000000000000000000000000000000000000000000000000000000000020000000000000000000000000000a0 m0 = true := by decide) :
    Keeps m0 s0 (State.release s n) := by
  refine h0.app hw0 ?_
  unfold State.release
  try dsimp only [State.setAll]
  repeat' first
    | with_reducible exact .refl _ _
    | with_reducible assumption
    | with_reducible refine State.updSlot_keeps ?_
    | with_reducible refine State.showFaces_keeps ?_
    | with_reducible refine State.setPds_keeps ?_
    | with_reducible refine State.endClaims_keeps ?_
    | with_reducible refine State.set_keeps (by first | assumption | (dsimp only [bank, Reg.CMP_SLOT_STATUS_UNIT, Reg.CMP_SLOT_STATUS_UNIT_VALID, Reg.ENC_BS_ENGMASK_ENGINE, Reg.ENC_BS_ENG_COUNT, Reg.ENC_BS_FACE_USED]; decide)) ?_
    | fail_if_no_progress with_reducible refine Keeps.mk' ?_
    | split
    | dsimp only

theorem State.cancelSlot_keeps {m0 s0 s n} (h0 : Keeps m0 s0 s) (hw0 : within 0x680000008 m0 = true := by decide) :
    Keeps m0 s0 (State.cancelSlot s n) := by
  refine h0.app hw0 ?_
  unfold State.cancelSlot
  try dsimp only
  repeat' first
    | with_reducible exact .refl _ _
    | with_reducible assumption
    | with_reducible refine State.cancel_keeps ?_
    | with_reducible refine .foldl _ _ ?_ (fun _ _ _ => ?_)
    | split
    | dsimp only

theorem State.cancelReleases_keeps {m0 s0 s n} (h0 : Keeps m0 s0 s) (hw0 : within 0x680000008 m0 = true := by decide) :
    Keeps m0 s0 (State.cancelReleases s n) := by
  refine h0.app hw0 ?_
  unfold State.cancelReleases
  try dsimp only
  repeat' first
    | with_reducible exact .refl _ _
    | with_reducible assumption
    | with_reducible refine State.cancelAll_keeps ?_
    | fail_if_no_progress with_reducible refine Keeps.mk' ?_
    | split
    | dsimp only

theorem State.stopNow_keeps {m0 s0 s n st} (h0 : Keeps m0 s0 s) (hw0 : within 0x1c000030100000000000000000060000000000000000000000000000000000000000000000000000000000000000000000000000000000000000000020000000000000000000006800000a8 m0 = true := by decide) :
    Keeps m0 s0 (State.stopNow s n st) := by
  refine h0.app hw0 ?_
  unfold State.stopNow
  try dsimp only
  repeat' first
    | with_reducible exact .refl _ _
    | with_reducible assumption
    | with_reducible refine State.cancelReleases_keeps ?_
    | with_reducible refine State.cancelSlot_keeps ?_
    | with_reducible refine State.release_keeps ?_
    | with_reducible refine State.updSlot_keeps ?_
    | with_reducible refine State.set_keeps (by first | assumption | (dsimp only [bank, Reg.ENC_BS_RUN_STATE]; decide)) ?_
    | fail_if_no_progress with_reducible refine Keeps.mk' ?_
    | split
    | dsimp only

theorem State.slotToFault_keeps {m0 s0 s n} (h0 : Keeps m0 s0 s) (hw0 : within 0x1c000030100000000000000000060000000000000000000000000000000000000000000000000000000000000004000000000000000000000000000020000000010000000000006800000aa m0 = true := by decide) :
    Keeps m0 s0 (State.slotToFault s n) := by
  refine h0.app hw0 ?_
  unfold State.slotToFault
  try dsimp only
  repeat' first
    | with_reducible exact .refl _ _
    | with_reducible assumption
    | with_reducible refine .ite _ ?_ ?_
    | with_reducible refine State.stopNow_keeps ?_
    | with_reducible refine State.raise_keeps ?_
    | split
    | dsimp only

theorem State.slotStop_keeps {m0 s0 s n} (h0 : Keeps m0 s0 s) (hw0 : within 0x1c000030100000000000000000060000000000000000000000000000000000000000000000000000000000000000000000000000000000000000000020000000000000000000006800000a8 m0 = true := by decide) :
    Keeps m0 s0 (State.slotStop s n).1 := by
  refine h0.app hw0 ?_
  unfold State.slotStop
  try dsimp only
  repeat' first
    | with_reducible exact .refl _ _
    | with_reducible assumption
    | with_reducible refine .ite _ ?_ ?_
    | with_reducible refine State.stopNow_keeps ?_
    | with_reducible refine State.cancelAll_keeps ?_
    | with_reducible refine State.set_keeps (by first | assumption | (dsimp only [bank, Reg.ENC_BS_RUN_STATE]; decide)) ?_
    | fail_if_no_progress with_reducible refine Keeps.mk' ?_
    | split
    | dsimp only

theorem State.slotStop_keepsP {m0 s0 t0 x0 s n} (e0 : State.slotStop s n = (t0, x0)) (h0 : Keeps m0 s0 s)
    (hw0 : within 0x1c000030100000000000000000060000000000000000000000000000000000000000000000000000000000000000000000000000000000000000000020000000000000000000006800000a8 m0 = true := by decide) : Keeps m0 s0 t0 := by
  have := State.slotStop_keeps (s := s) (n := n) h0 hw0
  rwa [e0] at this

theorem State.slotStopDone_keeps {m0 s0 s n} (h0 : Keeps m0 s0 s) (hw0 : within 0x1c000030100000000000000000060000000000000000000000000000000000000000000000000000000000000000000000000000000000000000000020000000000000000000006800000a8 m0 = true := by decide) :
    Keeps m0 s0 (State.slotStopDone s n) := by
  refine h0.app hw0 ?_
  unfold State.slotStopDone
  try dsimp only
  repeat' first
    | with_reducible exact .refl _ _
    | with_reducible assumption
    | with_reducible refine .ite _ ?_ ?_
    | with_reducible refine State.cancelSlot_keeps ?_
    | with_reducible refine State.release_keeps ?_
    | with_reducible refine State.updSlot_keeps ?_
    | with_reducible refine State.set_keeps (by first | assumption | (dsimp only [bank, Reg.ENC_BS_RUN_STATE]; decide)) ?_
    | fail_if_no_progress with_reducible refine Keeps.mk' ?_
    | split
    | dsimp only

theorem State.fenceBit_keeps {m0 s0 s u} (h0 : Keeps m0 s0 s) (hw0 : within 0xfe000000000000000000000000000 m0 = true := by decide) :
    Keeps m0 s0 (State.fenceBit s u) := by
  refine h0.app hw0 ?_
  unfold State.fenceBit
  repeat' first
    | with_reducible exact .refl _ _
    | with_reducible refine State.set_keeps (by (first | assumption | (dsimp only [bank, Reg.PWR_FENCE_AUDIO, Reg.PWR_FENCE_CMP, Reg.PWR_FENCE_ENGINE, Reg.PWR_FENCE_FACE, Reg.PWR_FENCE_LANE, Reg.PWR_FENCE_LINK, Reg.PWR_FENCE_PAIR]; decide))) ?_
    | split

theorem State.fenceCore_keeps {m0 s0 s u} (h0 : Keeps m0 s0 s) (hw0 : within 0x1c000030100000000000000000060000000000000000000000000000000000000000000000000000000000000004000000000000018000000000000020fe000001000000000001e800000aa m0 = true := by decide) :
    Keeps m0 s0 (State.fenceCore s u) := by
  refine h0.app hw0 ?_
  unfold State.fenceCore
  try dsimp only
  repeat' first
    | with_reducible exact .refl _ _
    | with_reducible assumption
    | with_reducible refine .ite _ ?_ ?_
    | with_reducible refine State.fenceBit_keeps ?_
    | with_reducible refine State.raise_keeps ?_
    | with_reducible refine State.logUnit_keeps ?_
    | with_reducible refine State.slotToFault_keeps ?_
    | with_reducible refine State.setPds_keeps ?_
    | with_reducible refine .foldl _ _ ?_ (fun _ _ _ => ?_)
    | fail_if_no_progress with_reducible refine Keeps.mk' ?_
    | split
    | dsimp only

theorem State.slotStart_keeps {m0 s0 s n freerun failed} (h0 : Keeps m0 s0 s) (hw0 : within 0x70000001000000001fc000030500000000000000000060000000000000000000000000000000000000000000000000000000000000004000000000000018000000000000020fe000001000000000001e800000aa m0 = true := by decide) :
    Keeps m0 s0 (State.slotStart s n freerun failed).1 := by
  refine h0.app hw0 ?_
  unfold State.slotStart
  try dsimp only [State.setAll]
  repeat' first
    | with_reducible exact .refl _ _
    | with_reducible assumption
    | with_reducible refine .ite _ ?_ ?_
    | with_reducible refine State.allocate_keeps ?_
    | with_reducible refine State.setSlot_keeps ?_
    | with_reducible refine State.queueComposition_keeps ?_
    | with_reducible refine State.fenceCore_keeps ?_
    | with_reducible refine State.set_keeps (by first | assumption | (dsimp only [bank, Reg.DEC_BS_CONC_SP, Reg.DEC_BS_JOINED, Reg.DEC_BS_STREAM_UP, Reg.ENC_BS_FIRST_PIC, Reg.ENC_BS_FIRST_SWEEP, Reg.ENC_BS_PIC_CNT, Reg.ENC_BS_RUN_STATE, Reg.ENC_BS_SWEEP_CNT, Reg.ENC_BS_SWEEP_POS, Reg.RC_BS_FULLNESS]; decide)) ?_
    | with_reducible refine .foldl _ _ ?_ (fun _ _ _ => ?_)
    | fail_if_no_progress with_reducible refine Keeps.mk' ?_
    | split
    | dsimp only

theorem State.slotStart_keepsP {m0 s0 t0 x0 s n freerun failed} (e0 : State.slotStart s n freerun failed = (t0, x0)) (h0 : Keeps m0 s0 s)
    (hw0 : within 0x70000001000000001fc000030500000000000000000060000000000000000000000000000000000000000000000000000000000000004000000000000018000000000000020fe000001000000000001e800000aa m0 = true := by decide) : Keeps m0 s0 t0 := by
  have := State.slotStart_keeps (s := s) (n := n) (freerun := freerun) (failed := failed) h0 hw0
  rwa [e0] at this

theorem State.slotCmd_keeps {m0 s0 s n cmd freerun failed} (h0 : Keeps m0 s0 s) (hw0 : within 0x3000000007ffffe71ffdfffefdfffffff0707f00000000000000060000000000000000000000000000000000000000000000000000000000000004000000000000018000000000000020fe000001000000000001e800020aa m0 = true := by decide) :
    Keeps m0 s0 (State.slotCmd s n cmd freerun failed).1 := by
  refine h0.app hw0 ?_
  unfold State.slotCmd
  try dsimp only
  repeat' first
    | with_reducible exact .refl _ _
    | with_reducible assumption
    | with_reducible refine .ite _ ?_ ?_
    | with_reducible refine State.slotStart_keeps ?_
    | with_reducible refine State.slotStart_keepsP (by assumption) ?_
    | with_reducible refine State.slotStop_keeps ?_
    | with_reducible refine State.slotStop_keepsP (by assumption) ?_
    | with_reducible refine State.slotCommit_keeps ?_
    | with_reducible refine State.slotCommit_keepsP (by assumption) ?_
    | with_reducible refine State.set_keeps (by first | assumption | (dsimp only [bank, Reg.ENC_BS_RUN_LAST_STATUS]; decide)) ?_
    | split
    | dsimp only

theorem State.slotCmd_keepsP {m0 s0 t0 x0 s n cmd freerun failed} (e0 : State.slotCmd s n cmd freerun failed = (t0, x0)) (h0 : Keeps m0 s0 s)
    (hw0 : within 0x3000000007ffffe71ffdfffefdfffffff0707f00000000000000060000000000000000000000000000000000000000000000000000000000000004000000000000018000000000000020fe000001000000000001e800020aa m0 = true := by decide) : Keeps m0 s0 t0 := by
  have := State.slotCmd_keeps (s := s) (n := n) (cmd := cmd) (freerun := freerun) (failed := failed) h0 hw0
  rwa [e0] at this

theorem actSlotCmd_keeps {m0 s0 failed d t s} (h0 : Keeps m0 s0 s) (hw0 : within 0x3000000007ffffe71ffdfffefdfffffff0707f00000000000000060000000000000000000000000000000000000000000000000000000000000004000000000000018000000000000020fe000001000000000001e810020aa m0 = true := by decide) :
    Keeps m0 s0 (actSlotCmd failed d t s) := by
  refine h0.app hw0 ?_
  unfold actSlotCmd
  try dsimp only
  repeat' first
    | with_reducible exact .refl _ _
    | with_reducible assumption
    | with_reducible refine .ite _ ?_ ?_
    | with_reducible refine State.slotCmd_keeps ?_
    | with_reducible refine State.slotCmd_keepsP (by assumption) ?_
    | with_reducible refine State.logDesc_keeps ?_
    | with_reducible refine State.complete_keeps ?_
    | with_reducible refine State.mirrorCfg_keeps ?_
    | split
    | dsimp only

theorem State.slotCommand_keeps {m0 s0 s src n cmd failed} (h0 : Keeps m0 s0 s) (hw0 : within 0x3000000007ffffe71ffdfffefdfffffff07c7f00000000000000060000000000000000000000000000000000000000000000000000000000000004000000000000018000000000000028fe000001a00000000001e818020aa m0 = true := by decide) :
    Keeps m0 s0 (State.slotCommand s src n cmd failed) := by
  refine h0.app hw0 ?_
  unfold State.slotCommand
  try dsimp only [State.setAll]
  repeat' first
    | with_reducible exact .refl _ _
    | with_reducible assumption
    | with_reducible refine .ite _ ?_ ?_
    | with_reducible refine actSlotCmd_keeps ?_
    | with_reducible refine State.slotCmd_keeps ?_
    | with_reducible refine State.slotCmd_keepsP (by assumption) ?_
    | with_reducible refine State.logReg_keeps ?_
    | with_reducible refine State.set_keeps (by first | assumption | (dsimp only [bank, Reg.ENC_BS_RUN_AUTOSTART, Reg.ENC_BS_RUN_CMD, Reg.ENC_BS_RUN_FREERUN_OK, Reg.ENC_BS_RUN_LAST_STATUS]; decide)) ?_
    | with_reducible refine State.byWriter_keeps (fun _ _ => ?_) ?_
    | with_reducible refine State.runDesc_keeps (fun _ _ _ => ?_) ?_
    | fail_if_no_progress with_reducible refine Keeps.mk' ?_
    | split
    | dsimp only

theorem execSlotStop_keeps {src n s t0} (e0 : execSlotStop src n s = .next t0) : Keeps 0x3000000007ffffe71ffdfffefdfffffff07c7f00000000000000060000000000000000000000000000000000000000000000000000000000000004000000000000018000000000000028fe000001a00000000001e818020aa s t0 := by
  rw [← Host.Outcome.next.inj e0]
  try dsimp only
  repeat' first
    | with_reducible exact .refl _ _
    | with_reducible assumption
    | with_reducible refine State.slotCommand_keeps ?_
    | split
    | dsimp only

theorem execSlotCommit_keeps {src n s t0} (e0 : execSlotCommit src n s = .next t0) : Keeps 0x3000000007ffffe71ffdfffefdfffffff07c7f00000000000000060000000000000000000000000000000000000000000000000000000000000004000000000000018000000000000028fe000001a00000000001e818020aa s t0 := by
  rw [← Host.Outcome.next.inj e0]
  try dsimp only
  repeat' first
    | with_reducible exact .refl _ _
    | with_reducible assumption
    | with_reducible refine State.slotCommand_keeps ?_
    | split
    | dsimp only

theorem execSlotStopDone_keeps {n s t0} (e0 : execSlotStopDone n s = .next t0) : Keeps 0x1c000030100000000000000000060000000000000000000000000000000000000000000000000000000000000000000000000000000000000000000020000000000000000000006800000a8 s t0 := by
  rw [← Host.Outcome.next.inj e0]
  try dsimp only
  repeat' first
    | with_reducible exact .refl _ _
    | with_reducible assumption
    | with_reducible refine State.slotStopDone_keeps ?_
    | split
    | dsimp only

end Sys2Proof.Machine
end

