-- ==== Sys2Proof/Laws/KeepsIngest.lean ====
section
/-! SUPPORT. What each operation of Machine/Ingest.lean may change (Laws/Keeps.lean). -/

namespace Sys2Proof.Machine

set_option Elab.async false
set_option linter.unusedTactic false
set_option linter.unusedSimpArgs false
set_option linter.unreachableTactic false

theorem State.setRcv_keeps {m0 s0 s r x} (h0 : Keeps m0 s0 s) (hw0 : within 0x40 m0 = true := by decide) :
    Keeps m0 s0 (State.setRcv s r x) := by
  refine h0.app hw0 ?_
  unfold State.setRcv
  try dsimp only
  repeat' first
    | with_reducible exact .refl _ _
    | with_reducible assumption
    | fail_if_no_progress with_reducible refine Keeps.mk' ?_
    | split
    | dsimp only

theorem State.igmpJoin_keeps {m0 s0 s r p} (h0 : Keeps m0 s0 s) (hw0 : within 0xfec0a600000000000000000000000000000000000000000400000000000000000000000000000000000001000000000001680000012 m0 = true := by decide) :
    Keeps m0 s0 (State.igmpJoin s r p) := by
  refine h0.app hw0 ?_
  unfold State.igmpJoin
  try dsimp only
  repeat' first
    | with_reducible exact .refl _ _
    | with_reducible assumption
    | with_reducible refine .ite _ ?_ ?_
    | with_reducible refine State.originate_keeps ?_
    | split
    | dsimp only

theorem State.igmpLeave_keeps {m0 s0 s r p} (h0 : Keeps m0 s0 s) (hw0 : within 0xfec0a600000000000000000000000000000000000000000400000000000000000000000000000000000001000000000001680000012 m0 = true := by decide) :
    Keeps m0 s0 (State.igmpLeave s r p) := by
  refine h0.app hw0 ?_
  unfold State.igmpLeave
  try dsimp only
  repeat' first
    | with_reducible exact .refl _ _
    | with_reducible assumption
    | with_reducible refine .ite _ ?_ ?_
    | with_reducible refine State.originate_keeps ?_
    | split
    | dsimp only

theorem State.igmpLane_keeps {m0 s0 s i} (h0 : Keeps m0 s0 s) (hw0 : within 0xfec0a600000000000000000000000000000000000000000400000000000000000000000000000000000001000000000001680000012 m0 = true := by decide) :
    Keeps m0 s0 (State.igmpLane s i) := by
  refine h0.app hw0 ?_
  unfold State.igmpLane
  try dsimp only
  repeat' first
    | with_reducible exact .refl _ _
    | with_reducible assumption
    | with_reducible refine .ite _ ?_ ?_
    | with_reducible refine State.igmpJoin_keeps ?_
    | with_reducible refine .foldl _ _ ?_ (fun _ _ _ => ?_)
    | split
    | dsimp only

theorem State.pathOff_keeps {m0 s0 s r p} (h0 : Keeps m0 s0 s) (hw0 : within 0x60000000fec0a600000000000000000000000000000000000000000400000000000000000000000000000000000001000000000001680000012 m0 = true := by decide) :
    Keeps m0 s0 (State.pathOff s r p) := by
  refine h0.app hw0 ?_
  unfold State.pathOff
  try dsimp only
  repeat' first
    | with_reducible exact .refl _ _
    | with_reducible assumption
    | with_reducible refine State.igmpLeave_keeps ?_
    | with_reducible refine State.set_keeps (by repeat' first | assumption | (dsimp only [bank, Reg.ING_RX_PATH0_UP, Reg.ING_RX_PATH1_UP]; decide) | (unfold pathUp) | split) ?_
    | split
    | dsimp only

theorem State.signalLost_keeps {m0 s0 s r enabled} (h0 : Keeps m0 s0 s) (hw0 : within 0x7000000000000000000000000000000000000000000000000000000400000000000000000000000000000000000001000000000000680000002 m0 = true := by decide) :
    Keeps m0 s0 (State.signalLost s r enabled) := by
  refine h0.app hw0 ?_
  unfold State.signalLost
  try dsimp only
  repeat' first
    | with_reducible exact .refl _ _
    | with_reducible assumption
    | with_reducible refine .ite _ ?_ ?_
    | with_reducible refine State.raise_keeps ?_
    | with_reducible refine State.set_keeps (by repeat' first | assumption | (dsimp only [bank, Reg.ING_RX_PATH0_UP, Reg.ING_RX_PATH1_UP, Reg.ING_RX_SIGNAL]; decide) | (unfold pathUp) | split) ?_
    | split
    | dsimp only

theorem State.rxCtrl_keeps {m0 s0 s r enable path1 path0 pt} (h0 : Keeps m0 s0 s) (hw0 : within 0x700001f0fec0a600000000000000000000000000000000000000000400000000000000000000000000000000000001000000000001680000052 m0 = true := by decide) :
    Keeps m0 s0 (State.rxCtrl s r enable path1 path0 pt).1 := by
  refine h0.app hw0 ?_
  unfold State.rxCtrl
  try dsimp only [State.setAll]
  repeat' first
    | with_reducible exact .refl _ _
    | with_reducible assumption
    | with_reducible refine .ite _ ?_ ?_
    | with_reducible refine State.pathOff_keeps ?_
    | with_reducible refine State.igmpJoin_keeps ?_
    | with_reducible refine State.signalLost_keeps ?_
    | with_reducible refine State.setRcv_keeps ?_
    | with_reducible refine State.set_keeps (by first | assumption | (dsimp only [bank, Reg.ING_RX_ENABLE, Reg.ING_RX_LAST_STATUS, Reg.ING_RX_PATH0_EN, Reg.ING_RX_PATH1_EN, Reg.ING_RX_PT]; decide)) ?_
    | with_reducible refine .foldl _ _ ?_ (fun _ _ _ => ?_)
    | split
    | dsimp only

theorem State.rxCtrl_keepsP {m0 s0 t0 x0 s r enable path1 path0 pt} (e0 : State.rxCtrl s r enable path1 path0 pt = (t0, x0)) (h0 : Keeps m0 s0 s)
    (hw0 : within 0x700001f0fec0a600000000000000000000000000000000000000000400000000000000000000000000000000000001000000000001680000052 m0 = true := by decide) : Keeps m0 s0 t0 := by
  have := State.rxCtrl_keeps (s := s) (r := r) (enable := enable) (path1 := path1) (path0 := path0) (pt := pt) h0 hw0
  rwa [e0] at this

theorem State.rxCtrlWrite_keeps {m0 s0 s w r enable path1 path0 pt} (h0 : Keeps m0 s0 s) (hw0 : within 0x700001f0fec0a600000000000000000000000000000000000000000400000000000001800000000000000000000001000000000001e81000052 m0 = true := by decide) :
    Keeps m0 s0 (State.rxCtrlWrite s w r enable path1 path0 pt) := by
  refine h0.app hw0 ?_
  unfold State.rxCtrlWrite
  try dsimp only
  repeat' first
    | with_reducible exact .refl _ _
    | with_reducible assumption
    | with_reducible refine State.rxCtrl_keeps ?_
    | with_reducible refine State.rxCtrl_keepsP (by assumption) ?_
    | with_reducible refine State.logReg_keeps ?_
    | with_reducible refine State.byWriter_keeps (fun _ _ => ?_) ?_
    | split
    | dsimp only

theorem execReceiverEnable_keeps {w r path1 path0 pt s t0} (e0 : execReceiverEnable w r path1 path0 pt s = .next t0) : Keeps 0x700001f0fec0a600000000000000000000000000000000000000000400000000000001800000000000000000000001000000000001e81000052 s t0 := by
  rw [← Host.Outcome.next.inj e0]
  try dsimp only
  repeat' first
    | with_reducible exact .refl _ _
    | with_reducible assumption
    | with_reducible refine State.rxCtrlWrite_keeps ?_
    | split
    | dsimp only

theorem execReceiverDisable_keeps {w r enable path1 path0 pt s t0} (e0 : execReceiverDisable w r enable path1 path0 pt s = .next t0) : Keeps 0x700001f0fec0a600000000000000000000000000000000000000000400000000000001800000000000000000000001000000000001e81000052 s t0 := by
  rw [← Host.Outcome.next.inj e0]
  try dsimp only
  repeat' first
    | with_reducible exact .refl _ _
    | with_reducible assumption
    | with_reducible refine State.rxCtrlWrite_keeps ?_
    | split
    | dsimp only

theorem execIngLaneMaskWrite_keeps {w mask s t0} (e0 : execIngLaneMaskWrite w mask s = .next t0) : Keeps 0x300000000000000000000000000000000000000000000000400000000000001800000000000000000000001000000000001e81000002 s t0 := by
  rw [← Host.Outcome.next.inj e0]
  try dsimp only [State.setAll]
  repeat' first
    | with_reducible exact .refl _ _
    | with_reducible assumption
    | with_reducible refine .ite _ ?_ ?_
    | with_reducible refine State.logReg_keeps ?_
    | with_reducible refine State.set_keeps (by first | assumption | (dsimp only [bank, Reg.ING_CTRL_LANE_MASK, Reg.ING_CTRL_LAST_STATUS]; decide)) ?_
    | with_reducible refine State.byWriter_keeps (fun _ _ => ?_) ?_
    | split
    | dsimp only

theorem State.pathDown_keeps {m0 s0 s r p} (h0 : Keeps m0 s0 s) (hw0 : within 0x207000000000000000000000000000000000000000000000000000000400000000000000000000000000000000000001000000000000680000002 m0 = true := by decide) :
    Keeps m0 s0 (State.pathDown s r p) := by
  refine h0.app hw0 ?_
  unfold State.pathDown
  try dsimp only
  repeat' first
    | with_reducible exact .refl _ _
    | with_reducible assumption
    | with_reducible refine .ite _ ?_ ?_
    | with_reducible refine State.raise_keeps ?_
    | with_reducible refine State.signalLost_keeps ?_
    | with_reducible refine State.set_keeps (by repeat' first | assumption | (dsimp only [bank, Reg.ING_RX_PATH0_UP, Reg.ING_RX_PATH1_UP, Reg.ING_RX_PATH_DOWN_CNT]; decide) | (unfold pathUp) | split) ?_
    | with_reducible refine State.bump_keeps (by repeat' first | assumption | (dsimp only [bank, Reg.ING_RX_PATH0_UP, Reg.ING_RX_PATH1_UP, Reg.ING_RX_PATH_DOWN_CNT]; decide) | (unfold pathUp) | split) ?_
    | split
    | dsimp only

theorem State.lanePathsDown_keeps {m0 s0 s i} (h0 : Keeps m0 s0 s) (hw0 : within 0x207000000000000000000000000000000000000000000000000000000400000000000000000000000000000000000001000000000000680000002 m0 = true := by decide) :
    Keeps m0 s0 (State.lanePathsDown s i) := by
  refine h0.app hw0 ?_
  unfold State.lanePathsDown
  try dsimp only
  repeat' first
    | with_reducible exact .refl _ _
    | with_reducible assumption
    | with_reducible refine .ite _ ?_ ?_
    | with_reducible refine State.pathDown_keeps ?_
    | with_reducible refine .foldl _ _ ?_ (fun _ _ _ => ?_)
    | split
    | dsimp only

theorem State.pathSeen_keeps {m0 s0 s r p} (h0 : Keeps m0 s0 s) (hw0 : within 0x7000000000000000000000000000000000000000000000000000000400000000000000000000000000000000000001000000000000680000042 m0 = true := by decide) :
    Keeps m0 s0 (State.pathSeen s r p) := by
  refine h0.app hw0 ?_
  unfold State.pathSeen
  try dsimp only [State.setAll]
  repeat' first
    | with_reducible exact .refl _ _
    | with_reducible assumption
    | with_reducible refine .ite _ ?_ ?_
    | with_reducible refine State.setRcv_keeps ?_
    | with_reducible refine State.raise_keeps ?_
    | with_reducible refine State.set_keeps (by repeat' first | assumption | (dsimp only [bank, Reg.ING_RX_PATH0_UP, Reg.ING_RX_PATH1_UP, Reg.ING_RX_SIGNAL]; decide) | (unfold pathUp) | split) ?_
    | fail_if_no_progress with_reducible refine Keeps.mk' ?_
    | split
    | dsimp only

theorem execPathLossTimeout_keeps {r p s t0} (e0 : execPathLossTimeout r p s = .next t0) : Keeps 0x207000000000000000000000000000000000000000000000000000000400000000000000000000000000000000000001000000000000680000002 s t0 := by
  rw [← Host.Outcome.next.inj e0]
  try dsimp only
  repeat' first
    | with_reducible exact .refl _ _
    | with_reducible assumption
    | with_reducible refine .ite _ ?_ ?_
    | with_reducible refine State.pathDown_keeps ?_
    | fail_if_no_progress with_reducible refine Keeps.mk' ?_
    | split
    | dsimp only

theorem State.unmatched_keeps {m0 s0 s i} (h0 : Keeps m0 s0 s) (hw0 : within 0x400000000000000000000000000000000000000000000000000000000000000000000000000000000000000000000000000000000002 m0 = true := by decide) :
    Keeps m0 s0 (State.unmatched s i) := by
  refine h0.app hw0 ?_
  unfold State.unmatched
  try dsimp only
  repeat' first
    | with_reducible exact .refl _ _
    | with_reducible assumption
    | with_reducible refine .ite _ ?_ ?_
    | with_reducible refine State.bump_keeps (by first | assumption | (dsimp only [bank, Reg.ING_LANE_UNMATCHED_CNT]; decide)) ?_
    | split
    | dsimp only

theorem State.strayFrame_keeps {m0 s0 s x} (h0 : Keeps m0 s0 s) (hw0 : within 0x400000000000000000000000000000000000000000000000000000000000000000000000000000000000000000000000000000000002 m0 = true := by decide) :
    Keeps m0 s0 (State.strayFrame s x) := by
  refine h0.app hw0 ?_
  unfold State.strayFrame
  try dsimp only
  repeat' first
    | with_reducible exact .refl _ _
    | with_reducible assumption
    | with_reducible refine .ite _ ?_ ?_
    | with_reducible refine State.unmatched_keeps ?_
    | split
    | dsimp only

theorem State.rxMalformed_keeps {m0 s0 s r} (h0 : Keeps m0 s0 s) (hw0 : within 0x20000000000000000000000000000000000000000000000000000000400000000000001800000000000000000000001000000000001e80000002 m0 = true := by decide) :
    Keeps m0 s0 (State.rxMalformed s r) := by
  refine h0.app hw0 ?_
  unfold State.rxMalformed
  try dsimp only
  repeat' first
    | with_reducible exact .refl _ _
    | with_reducible assumption
    | with_reducible refine .ite _ ?_ ?_
    | with_reducible refine State.limitNote_keeps ?_
    | with_reducible refine State.logUnit_keeps ?_
    | with_reducible refine State.raise_keeps ?_
    | with_reducible refine State.bump_keeps (by first | assumption | (dsimp only [bank, Reg.ING_RX_ENABLE, Reg.ING_RX_FMT_ERR_CNT]; decide)) ?_
    | split
    | dsimp only

theorem State.countPkt_keeps {m0 s0 s r p} (h0 : Keeps m0 s0 s) (hw0 : within 0x1e0000000000000000000000000000000000000000000000000000000000000000000000000000000000000000000000000000000000000000000002 m0 = true := by decide) :
    Keeps m0 s0 (State.countPkt s r p) := by
  refine h0.app hw0 ?_
  unfold State.countPkt
  try dsimp only
  repeat' first
    | with_reducible exact .refl _ _
    | with_reducible assumption
    | with_reducible refine .ite _ ?_ ?_
    | with_reducible refine State.count64_keeps (by first | assumption | (dsimp only [bank, Reg.ING_RX_PKT0_CNT_HI, Reg.ING_RX_PKT0_CNT_LO, Reg.ING_RX_PKT1_CNT_HI, Reg.ING_RX_PKT1_CNT_LO]; decide)) (by first | assumption | (dsimp only [bank, Reg.ING_RX_PKT0_CNT_HI, Reg.ING_RX_PKT0_CNT_LO, Reg.ING_RX_PKT1_CNT_HI, Reg.ING_RX_PKT1_CNT_LO]; decide)) ?_
    | split
    | dsimp only

theorem State.crcError_keeps {m0 s0 s c} (h0 : Keeps m0 s0 s) (hw0 : within 0x8000000000400000000000001800000000000000000000001000000000001e80000002 m0 = true := by decide) :
    Keeps m0 s0 (State.crcError s c) := by
  refine h0.app hw0 ?_
  unfold State.crcError
  try dsimp only
  repeat' first
    | with_reducible exact .refl _ _
    | with_reducible assumption
    | with_reducible refine .ite _ ?_ ?_
    | with_reducible refine State.limitNote_keeps ?_
    | with_reducible refine State.logUnit_keeps ?_
    | with_reducible refine State.raise_keeps ?_
    | with_reducible refine State.bump_keeps (by first | assumption | (dsimp only [bank, Reg.CHK_CRC_ERR_CNT]; decide)) ?_
    | split
    | dsimp only

theorem State.checkStrip_keeps {m0 s0 s r crcOk} (h0 : Keeps m0 s0 s) (hw0 : within 0xc000000000400000000000001800000000000000000000001000000000001e80000002 m0 = true := by decide) :
    Keeps m0 s0 (State.checkStrip s r crcOk).1 := by
  refine h0.app hw0 ?_
  unfold State.checkStrip
  try dsimp only
  repeat' first
    | with_reducible exact .refl _ _
    | with_reducible assumption
    | with_reducible refine .ite _ ?_ ?_
    | with_reducible refine State.crcError_keeps ?_
    | with_reducible refine State.bump_keeps (by first | assumption | (dsimp only [bank, Reg.CHK_PKT_CNT]; decide)) ?_
    | fail_if_no_progress with_reducible refine Keeps.mk' ?_
    | split
    | dsimp only

theorem State.checkStrip_keepsP {m0 s0 t0 x0 s r crcOk} (e0 : State.checkStrip s r crcOk = (t0, x0)) (h0 : Keeps m0 s0 s)
    (hw0 : within 0xc000000000400000000000001800000000000000000000001000000000001e80000002 m0 = true := by decide) : Keeps m0 s0 t0 := by
  have := State.checkStrip_keeps (s := s) (r := r) (crcOk := crcOk) h0 hw0
  rwa [e0] at this

theorem State.countDup_keeps {m0 s0 s r} (h0 : Keeps m0 s0 s) (hw0 : within 0x600000000000000000000000000000000000000000000000000000000000000000000000000000000000000000000000000000000000000000000002 m0 = true := by decide) :
    Keeps m0 s0 (State.countDup s r) := by
  refine h0.app hw0 ?_
  unfold State.countDup
  try dsimp only
  repeat' first
    | with_reducible exact .refl _ _
    | with_reducible assumption
    | with_reducible refine State.count64_keeps (by first | assumption | (dsimp only [bank, Reg.ING_RX_DUP_CNT_HI, Reg.ING_RX_DUP_CNT_LO]; decide)) (by first | assumption | (dsimp only [bank, Reg.ING_RX_DUP_CNT_HI, Reg.ING_RX_DUP_CNT_LO]; decide)) ?_
    | split
    | dsimp only

theorem State.uncountSecond_keeps {m0 s0 s r} (h0 : Keeps m0 s0 s) (hw0 : within 0x180000000000000000000000000000000000000000000000000000000000000000000000000000000000000000000000000000000000000000000000 m0 = true := by decide) :
    Keeps m0 s0 (State.uncountSecond s r) := by
  refine h0.app hw0 ?_
  unfold State.uncountSecond
  try dsimp only
  repeat' first
    | with_reducible exact .refl _ _
    | with_reducible assumption
    | with_reducible refine .ite _ ?_ ?_
    | with_reducible refine State.set64_keeps (by first | assumption | (dsimp only [bank, Reg.ING_RX_PKT1_CNT_HI, Reg.ING_RX_PKT1_CNT_LO]; decide)) (by first | assumption | (dsimp only [bank, Reg.ING_RX_PKT1_CNT_HI, Reg.ING_RX_PKT1_CNT_LO]; decide)) ?_
    | split
    | dsimp only

theorem State.duplicate_keeps {m0 s0 s r p e} (h0 : Keeps m0 s0 s) (hw0 : within 0x7e0000000000000000000000000000000000000000000000000000000000000000000000000000000000000000000000000000000000000000000042 m0 = true := by decide) :
    Keeps m0 s0 (State.duplicate s r p e) := by
  refine h0.app hw0 ?_
  unfold State.duplicate
  try dsimp only
  repeat' first
    | with_reducible exact .refl _ _
    | with_reducible assumption
    | with_reducible refine .ite _ ?_ ?_
    | with_reducible refine State.setRcv_keeps ?_
    | with_reducible refine State.uncountSecond_keeps ?_
    | with_reducible refine State.countPkt_keeps ?_
    | with_reducible refine State.countDup_keeps ?_
    | fail_if_no_progress with_reducible refine Keeps.mk' ?_
    | split
    | dsimp only

theorem State.acceptPacket_keeps {m0 s0 s r p e} (h0 : Keeps m0 s0 s) (hw0 : within 0x1e0000000000000000000000000000000000000000000000000000000000000000000000000000000000000000000000000000000000000000000042 m0 = true := by decide) :
    Keeps m0 s0 (State.acceptPacket s r p e) := by
  refine h0.app hw0 ?_
  unfold State.acceptPacket
  try dsimp only
  repeat' first
    | with_reducible exact .refl _ _
    | with_reducible assumption
    | with_reducible refine .ite _ ?_ ?_
    | with_reducible refine State.setRcv_keeps ?_
    | with_reducible refine State.countPkt_keeps ?_
    | fail_if_no_progress with_reducible refine Keeps.mk' ?_
    | split
    | dsimp only

theorem State.rxPacket_keeps {m0 s0 s r p h act} (ha : ∀ u, Keeps m0 s0 u → Keeps m0 s0 (act u))
    (h0 : Keeps m0 s0 s) (hw0 : within 0x900000000000000000000000000000000000000000000000000000000000000000000000000007e013700000040000000000000000000000000000000000000c000000000400000000000001800000000000000000000001000000000001e80004042 m0 = true := by decide) : Keeps m0 s0 (State.rxPacket s r p h act) := by
  have k : ∀ u, Keeps 0x900000000000000000000000000000000000000000000000000000000000000000000000000007e013700000040000000000000000000000000000000000000c000000000400000000000001800000000000000000000001000000000001e80004042 s u → Keeps m0 s0 u := fun u hu => h0.app hw0 hu
  unfold State.rxPacket
  split
  · split
    rename_i s1 passed e1
    have h1 : Keeps 0x900000000000000000000000000000000000000000000000000000000000000000000000000007e013700000040000000000000000000000000000000000000c000000000400000000000001800000000000000000000001000000000001e80004042 s s1 := State.checkStrip_keepsP e1 (State.pathSeen_keeps (.refl _ _))
    dsimp only
    split
    · exact k _ h1
    · split
      · exact k _ (State.rxMalformed_keeps h1)
      · split
        · exact k _ (State.duplicate_keeps h1)
        · split
          · exact k _ (State.bump_keeps (by (first | assumption | (dsimp only [bank, Reg.ING_RX_LATE_CNT, Reg.ING_RX_TIME_ERR_CNT]; decide))) h1)
          · refine .ite _ (k _ (State.bump_keeps (by (first | assumption | (dsimp only [bank, Reg.ING_RX_LATE_CNT, Reg.ING_RX_TIME_ERR_CNT]; decide))) h1)) ?_
            exact ha _ (k _ (State.acceptPacket_keeps h1))
  · exact k _ (State.strayFrame_keeps (.refl _ _))

theorem State.showWriteBuf_keeps {m0 s0 s r} (h0 : Keeps m0 s0 s) (hw0 : within 0x8000000000000000000000000000000000000000000000000000000000000000000000000000000000000000000000000000000000000000000 m0 = true := by decide) :
    Keeps m0 s0 (State.showWriteBuf s r) := by
  refine h0.app hw0 ?_
  unfold State.showWriteBuf
  try dsimp only
  repeat' first
    | with_reducible exact .refl _ _
    | with_reducible assumption
    | with_reducible refine State.set_keeps (by first | assumption | (dsimp only [bank, Reg.ING_RX_WRITE_BUF]; decide)) ?_
    | fail_if_no_progress with_reducible refine Keeps.mk' ?_
    | split
    | dsimp only

theorem State.closePic_keeps {m0 s0 s r ts} (h0 : Keeps m0 s0 s) (hw0 : within 0x48000000000000000000000000000000000000000000000000000000400000000000000000000000000000000000001000000000000680000042 m0 = true := by decide) :
    Keeps m0 s0 (State.closePic s r ts) := by
  refine h0.app hw0 ?_
  unfold State.closePic
  try dsimp only
  repeat' first
    | with_reducible exact .refl _ _
    | with_reducible assumption
    | with_reducible refine .ite _ ?_ ?_
    | with_reducible refine State.setRcv_keeps ?_
    | with_reducible refine State.showWriteBuf_keeps ?_
    | with_reducible refine State.raise_keeps ?_
    | with_reducible refine State.count_keeps (by first | assumption | (dsimp only [bank, Reg.ING_RX_LOST_LINE_CNT, Reg.ING_RX_SIZE_HEIGHT]; decide)) ?_
    | fail_if_no_progress with_reducible refine Keeps.mk' ?_
    | split
    | dsimp only

theorem State.openPic_keeps {m0 s0 s r ts cap} (h0 : Keeps m0 s0 s) (hw0 : within 0xc8000000000000000000000000000000000000000000000000000000400000000000000000000000000000000000001000000000000680000042 m0 = true := by decide) :
    Keeps m0 s0 (State.openPic s r ts cap) := by
  refine h0.app hw0 ?_
  unfold State.openPic
  try dsimp only
  repeat' first
    | with_reducible exact .refl _ _
    | with_reducible assumption
    | with_reducible refine .ite _ ?_ ?_
    | with_reducible refine State.closePic_keeps ?_
    | with_reducible refine State.setRcv_keeps ?_
    | with_reducible refine State.raise_keeps ?_
    | with_reducible refine State.set_keeps (by first | assumption | (dsimp only [bank, Reg.ING_RX_FS_DROP_CNT, Reg.ING_RX_WRITE_BUF]; decide)) ?_
    | with_reducible refine State.bump_keeps (by first | assumption | (dsimp only [bank, Reg.ING_RX_FS_DROP_CNT, Reg.ING_RX_WRITE_BUF]; decide)) ?_
    | with_reducible refine .foldl _ _ ?_ (fun _ _ _ => ?_)
    | fail_if_no_progress with_reducible refine Keeps.mk' ?_
    | split
    | dsimp only

theorem State.storeRow_keeps {m0 s0 s r b row} (h0 : Keeps m0 s0 s) (hw0 : within 0x2000000000000000000000000000000000000000000000000000000000000000000000000000400000000000001800000000000000000000001000000000003e80010002 m0 = true := by decide) :
    Keeps m0 s0 (State.storeRow s r b row) := by
  refine h0.app hw0 ?_
  unfold State.storeRow
  try dsimp only
  repeat' first
    | with_reducible exact .refl _ _
    | with_reducible assumption
    | with_reducible refine State.deviceStore_keeps ?_
    | with_reducible refine .foldl _ _ ?_ (fun _ _ _ => ?_)
    | split
    | dsimp only

theorem State.fillPic_keeps {m0 s0 s r x} (h0 : Keeps m0 s0 s) (hw0 : within 0x2000000000000000000048000000000000000000000000000000000000000000000000000000400000000000001800000000000000000000001000000000003e80010042 m0 = true := by decide) :
    Keeps m0 s0 (State.fillPic s r x) := by
  refine h0.app hw0 ?_
  unfold State.fillPic
  try dsimp only
  repeat' first
    | with_reducible exact .refl _ _
    | with_reducible assumption
    | with_reducible refine .ite _ ?_ ?_
    | with_reducible refine State.setRcv_keeps ?_
    | with_reducible refine State.storeRow_keeps ?_
    | with_reducible refine State.closePic_keeps ?_
    | with_reducible refine .foldl _ _ ?_ (fun _ _ _ => ?_)
    | fail_if_no_progress with_reducible refine Keeps.mk' ?_
    | split
    | dsimp only

theorem State.videoRx_keeps {m0 s0 s r p x} (h0 : Keeps m0 s0 s) (hw0 : within 0x900000000000000000000000000000000000000000000000000000000000020000000000000007e01ff00000040000000000000000000000000000000000000c000000000400000000000001800000000000000000000001000000000003e80014042 m0 = true := by decide) :
    Keeps m0 s0 (State.videoRx s r p x) := by
  refine h0.app hw0 ?_
  unfold State.videoRx
  try dsimp only
  repeat' first
    | with_reducible exact .refl _ _
    | with_reducible assumption
    | with_reducible refine .ite _ ?_ ?_
    | with_reducible refine State.pathSeen_keeps ?_
    | with_reducible refine State.checkStrip_keeps ?_
    | with_reducible refine State.checkStrip_keepsP (by assumption) ?_
    | with_reducible refine State.judge_keeps ?_
    | with_reducible refine State.openPic_keeps ?_
    | with_reducible refine State.fillPic_keeps ?_
    | with_reducible refine State.bump_keeps (by first | assumption | (dsimp only [bank, Reg.ING_RX_LATE_CNT]; decide)) ?_
    | with_reducible refine State.rxPacket_keeps (fun _ _ => ?_) ?_
    | fail_if_no_progress with_reducible refine Keeps.mk' ?_
    | split
    | dsimp only

theorem execVideoPacketRx_keeps {r p x s t0} (e0 : execVideoPacketRx r p x s = .next t0) : Keeps 0x900000000000000000000000000000000000000000000000000000000000020000000000000007e01ff00000040000000000000000000000000000000000000c000000000400000000000001800000000000000000000001000000000003e80014042 s t0 := by
  rw [← Host.Outcome.next.inj e0]
  try dsimp only
  repeat' first
    | with_reducible exact .refl _ _
    | with_reducible assumption
    | with_reducible refine State.videoRx_keeps ?_
    | split
    | dsimp only

theorem execPictureCloseTimeout_keeps {r s t0} (e0 : execPictureCloseTimeout r s = .next t0) : Keeps 0x48000000000000000000000000000000000000000000000000000000400000000000000000000000000000000000001000000000000680000042 s t0 := by
  rw [← Host.Outcome.next.inj e0]
  try dsimp only
  repeat' first
    | with_reducible exact .refl _ _
    | with_reducible assumption
    | with_reducible refine State.closePic_keeps ?_
    | with_reducible refine .foldl _ _ ?_ (fun _ _ _ => ?_)
    | split
    | dsimp only

theorem State.ancWrite_keeps {m0 s0 s r cap a} (h0 : Keeps m0 s0 s) (hw0 : within 0x2000000000000000000080000000000000000000000000000000000000000000000000000000400000000000001800000000000000000000001000000000003e80010042 m0 = true := by decide) :
    Keeps m0 s0 (State.ancWrite s r cap a) := by
  refine h0.app hw0 ?_
  unfold State.ancWrite
  try dsimp only
  repeat' first
    | with_reducible exact .refl _ _
    | with_reducible assumption
    | with_reducible refine .ite _ ?_ ?_
    | with_reducible refine State.deviceStore_keeps ?_
    | with_reducible refine State.setRcv_keeps ?_
    | with_reducible refine State.bump_keeps (by first | assumption | (dsimp only [bank, Reg.ING_RX_FS_DROP_CNT, Reg.ING_RX_NFMT_ANC_LOG2]; decide)) ?_
    | fail_if_no_progress with_reducible refine Keeps.mk' ?_
    | split
    | dsimp only

theorem execAncPacketRx_keeps {r p x s t0} (e0 : execAncPacketRx r p x s = .next t0) : Keeps 0x900000000000000000000000000000000000000000000000000000000000020000000000000007e01b700000040000000000000000000000000000000000000c000000000400000000000001800000000000000000000001000000000003e80014042 s t0 := by
  rw [← Host.Outcome.next.inj e0]
  try dsimp only
  repeat' first
    | with_reducible exact .refl _ _
    | with_reducible assumption
    | with_reducible refine State.ancWrite_keeps ?_
    | with_reducible refine State.rxPacket_keeps (fun _ _ => ?_) ?_
    | with_reducible refine .foldl _ _ ?_ (fun _ _ _ => ?_)
    | split
    | dsimp only

theorem execUnmatchedFrameRx_keeps {i s t0} (e0 : execUnmatchedFrameRx i s = .next t0) : Keeps 0x400000000000000000000000000000000000000000000000000000000000000000000000000000000000000000000000000000000002 s t0 := by
  rw [← Host.Outcome.next.inj e0]
  try dsimp only
  repeat' first
    | with_reducible exact .refl _ _
    | with_reducible assumption
    | with_reducible refine State.unmatched_keeps ?_
    | split
    | dsimp only

theorem execIgmpQueryRx_keeps {i q s t0} (e0 : execIgmpQueryRx i q s = .next t0) : Keeps 0xfec0a600000000000000000000000000000000000000000400000000000000000000000000000000000001000000000001680000012 s t0 := by
  rw [← Host.Outcome.next.inj e0]
  try dsimp only
  repeat' first
    | with_reducible exact .refl _ _
    | with_reducible assumption
    | with_reducible refine .ite _ ?_ ?_
    | with_reducible refine State.igmpJoin_keeps ?_
    | with_reducible refine .foldl _ _ ?_ (fun _ _ _ => ?_)
    | fail_if_no_progress with_reducible refine Keeps.mk' ?_
    | split
    | dsimp only

end Sys2Proof.Machine
end

