-- ==== Sys2Proof/Laws/KeepsSafetyNet.lean ====
section
/-! SUPPORT. What each operation of Machine/SafetyNet.lean may change (Laws/Keeps.lean). -/

namespace Sys2Proof.Machine

set_option Elab.async false
set_option linter.unusedTactic false
set_option linter.unusedSimpArgs false
set_option linter.unreachableTactic false

theorem State.showSaf_keeps {m0 s0 s n} (h0 : Keeps m0 s0 s) (hw0 : within 0xf0f0000000000000000000000000000000000000000000000000000000000000000000000000000000000000000000000000000000000000000000000000000000000000000 m0 = true := by decide) :
    Keeps m0 s0 (State.showSaf s n) := by
  refine h0.app hw0 ?_
  unfold State.showSaf
  try dsimp only [State.setAll]
  repeat' first
    | with_reducible exact .refl _ _
    | with_reducible assumption
    | with_reducible refine State.set_keeps (by first | assumption | (dsimp only [bank, Reg.SAF_SLOT_SEQ_HI, Reg.SAF_SLOT_SEQ_LO, Reg.SAF_SLOT_STATE_FAULT_ACTION, Reg.SAF_SLOT_STATE_PENDING, Reg.SAF_SLOT_STATE_REQUIRE, Reg.SAF_SLOT_STATE_STATE, Reg.SAF_SLOT_UNTIL_NS, Reg.SAF_SLOT_UNTIL_SEC]; decide)) ?_
    | split
    | dsimp only

theorem State.setSaf_keeps {m0 s0 s k x} (h0 : Keeps m0 s0 s) (hw0 : within 0xf0f0000000000000000000000000000000000000000000000000000000000000000000000000000000000000000000000000000000000000000000000000000000000000100 m0 = true := by decide) :
    Keeps m0 s0 (State.setSaf s k x) := by
  refine h0.app hw0 ?_
  unfold State.setSaf
  try dsimp only
  repeat' first
    | with_reducible exact .refl _ _
    | with_reducible assumption
    | with_reducible refine .ite _ ?_ ?_
    | with_reducible refine State.showSaf_keeps ?_
    | fail_if_no_progress with_reducible refine Keeps.mk' ?_
    | split
    | dsimp only

theorem State.setKey_keeps {m0 s0 s key bytes} (h0 : Keeps m0 s0 s) (hw0 : within 0x800000000000000000000000000000000000000000000000000000000000000000000000000000000000000000000000000000000000000000000000000000000000000200 m0 = true := by decide) :
    Keeps m0 s0 (State.setKey s key bytes) := by
  refine h0.app hw0 ?_
  unfold State.setKey
  try dsimp only
  repeat' first
    | with_reducible exact .refl _ _
    | with_reducible assumption
    | with_reducible refine State.set_keeps (by first | assumption | (dsimp only [bank, Reg.SAF_KEY]; decide)) ?_
    | with_reducible refine .foldl _ _ ?_ (fun _ _ _ => ?_)
    | fail_if_no_progress with_reducible refine Keeps.mk' ?_
    | split
    | dsimp only

theorem State.pkgHold_keeps {m0 s0 s k l} (h0 : Keeps m0 s0 s) (hw0 : within 0xf8f0000000000000000000000000000000000000000000000000000000000000000000000000000000000000000000000000000000000000000000000000000002000010300 m0 = true := by decide) :
    Keeps m0 s0 (State.pkgHold s k l) := by
  refine h0.app hw0 ?_
  unfold State.pkgHold
  try dsimp only
  repeat' first
    | with_reducible exact .refl _ _
    | with_reducible assumption
    | with_reducible refine .ite _ ?_ ?_
    | with_reducible refine State.setSaf_keeps ?_
    | with_reducible refine State.setKey_keeps ?_
    | with_reducible refine State.store_keeps ?_
    | fail_if_no_progress with_reducible refine Keeps.mk' ?_
    | split
    | dsimp only

theorem actSafLoad_keeps {m0 s0 d t s} (h0 : Keeps m0 s0 s) (hw0 : within 0xf0f0000000000000000000000000000000000000000000000000000000000000000000000000000000000000000000000000000000000000000000000000000000000000100 m0 = true := by decide) :
    Keeps m0 s0 (actSafLoad d t s) := by
  refine h0.app hw0 ?_
  unfold actSafLoad
  try dsimp only
  repeat' first
    | with_reducible exact .refl _ _
    | with_reducible assumption
    | with_reducible refine State.setSaf_keeps ?_
    | fail_if_no_progress with_reducible refine Keeps.mk' ?_
    | split
    | dsimp only

theorem execSafLoad_keeps {d s t0} (e0 : execSafLoad d s = .next t0) : Keeps 0xf0f0000000000000000000000000000000000000000000000000000000000000000000000000000400000000000001800000000000000800000001a00000000001e8180010a s t0 := by
  rw [← Host.Outcome.next.inj e0]
  try dsimp only
  repeat' first
    | with_reducible exact .refl _ _
    | with_reducible assumption
    | with_reducible refine actSafLoad_keeps ?_
    | with_reducible refine State.runDesc_keeps (fun _ _ _ => ?_) ?_
    | split
    | dsimp only

theorem State.safChecked_keeps {m0 s0 s k} (h0 : Keeps m0 s0 s) (hw0 : within 0xfbf0000000000000000000000000000000000000000000000000000000000000000000000000000400000000000001800000000000000000000001000000000003e81010302 m0 = true := by decide) :
    Keeps m0 s0 (State.safChecked s k) := by
  refine h0.app hw0 ?_
  unfold State.safChecked
  try dsimp only
  repeat' first
    | with_reducible exact .refl _ _
    | with_reducible assumption
    | with_reducible refine .ite _ ?_ ?_
    | with_reducible refine State.setSaf_keeps ?_
    | with_reducible refine State.pkgHold_keeps ?_
    | with_reducible refine State.mirror3_keeps ?_
    | with_reducible refine State.offer_keeps ?_
    | with_reducible refine State.complete_keeps ?_
    | with_reducible refine State.logHash_keeps ?_
    | with_reducible refine State.set_keeps (by first | assumption | (dsimp only [bank, Reg.SAF_SLOT_REFUSED_CNT, Reg.SAF_SLOT_STATE_LAST_STATUS]; decide)) ?_
    | with_reducible refine State.bump_keeps (by first | assumption | (dsimp only [bank, Reg.SAF_SLOT_REFUSED_CNT, Reg.SAF_SLOT_STATE_LAST_STATUS]; decide)) ?_
    | fail_if_no_progress with_reducible refine Keeps.mk' ?_
    | split
    | dsimp only

theorem execSafPackageChecked_keeps {k s t0} (e0 : execSafPackageChecked k s = .next t0) : Keeps 0xfbf0000000000000000000000000000000000000000000000000000000000000000000000000000400000000000001800000000000000000000001000000000003e81010302 s t0 := by
  rw [← Host.Outcome.next.inj e0]
  try dsimp only
  repeat' first
    | with_reducible exact .refl _ _
    | with_reducible assumption
    | with_reducible refine State.safChecked_keeps ?_
    | split
    | dsimp only

theorem actSafEnroll_keeps {m0 s0 d t s} (h0 : Keeps m0 s0 s) (hw0 : within 0x800000000000000000000000000000000000000000000000000000000000000000000000000000400000000000001800000000000000000000001000000000001e80000202 m0 = true := by decide) :
    Keeps m0 s0 (actSafEnroll d t s) := by
  refine h0.app hw0 ?_
  unfold actSafEnroll
  try dsimp only
  repeat' first
    | with_reducible exact .refl _ _
    | with_reducible assumption
    | with_reducible refine .ite _ ?_ ?_
    | with_reducible refine State.setKey_keeps ?_
    | with_reducible refine State.logHash_keeps ?_
    | with_reducible refine State.complete_keeps ?_
    | split
    | dsimp only

theorem execSafEnroll_keeps {d s t0} (e0 : execSafEnroll d s = .next t0) : Keeps 0x800000000000000000000000000000000000000000000000000000000000000000000000000000400000000000001800000000000000800000001a00000000001e8180020a s t0 := by
  rw [← Host.Outcome.next.inj e0]
  try dsimp only
  repeat' first
    | with_reducible exact .refl _ _
    | with_reducible assumption
    | with_reducible refine actSafEnroll_keeps ?_
    | with_reducible refine State.runDesc_keeps (fun _ _ _ => ?_) ?_
    | split
    | dsimp only

theorem State.safPin_keeps {m0 s0 s} (h0 : Keeps m0 s0 s) (hw0 : within 0x400 m0 = true := by decide) :
    Keeps m0 s0 (State.safPin s) := by
  refine h0.app hw0 ?_
  unfold State.safPin
  try dsimp only
  repeat' first
    | with_reducible exact .refl _ _
    | with_reducible assumption
    | with_reducible refine .ite _ ?_ ?_
    | with_reducible refine State.emit_keeps ?_
    | fail_if_no_progress with_reducible refine Keeps.mk' ?_
    | split
    | dsimp only

theorem State.safLatch_keeps {m0 s0 s n p} (h0 : Keeps m0 s0 s) (hw0 : within 0xf0f0000000000000000000000000000000000000000000000000000000000000000000000000000400000000000000000000000000000000000001000000000000680000502 m0 = true := by decide) :
    Keeps m0 s0 (State.safLatch s n p) := by
  refine h0.app hw0 ?_
  unfold State.safLatch
  try dsimp only
  repeat' first
    | with_reducible exact .refl _ _
    | with_reducible assumption
    | with_reducible refine .ite _ ?_ ?_
    | with_reducible refine State.setSaf_keeps ?_
    | with_reducible refine State.raise_keeps ?_
    | with_reducible refine State.safPin_keeps ?_
    | fail_if_no_progress with_reducible refine Keeps.mk' ?_
    | split
    | dsimp only

theorem State.safReadBack_keeps {m0 s0 s n} (h0 : Keeps m0 s0 s) (hw0 : within 0xf4f0000000000000000000000000000000000000000000000000000000000000000000000000000400000000000000000000000000000000000001000000000000680000102 m0 = true := by decide) :
    Keeps m0 s0 (State.safReadBack s n) := by
  refine h0.app hw0 ?_
  unfold State.safReadBack
  try dsimp only
  repeat' first
    | with_reducible exact .refl _ _
    | with_reducible assumption
    | with_reducible refine .ite _ ?_ ?_
    | with_reducible refine State.raise_keeps ?_
    | with_reducible refine State.setSaf_keeps ?_
    | with_reducible refine State.bump_keeps (by first | assumption | (dsimp only [bank, Reg.SAF_SLOT_READBACK_ERR_CNT]; decide)) ?_
    | with_reducible refine .foldl _ _ ?_ (fun _ _ _ => ?_)
    | fail_if_no_progress with_reducible refine Keeps.mk' ?_
    | split
    | dsimp only

theorem State.mirrorSafRow_keeps {m0 s0 s n pic k} (h0 : Keeps m0 s0 s) (hw0 : within 0x1000000 m0 = true := by decide) :
    Keeps m0 s0 (State.mirrorSafRow s n pic k) := by
  refine h0.app hw0 ?_
  unfold State.mirrorSafRow
  try dsimp only
  repeat' first
    | with_reducible exact .refl _ _
    | with_reducible assumption
    | with_reducible refine .ite _ ?_ ?_
    | with_reducible refine State.mirror3_keeps ?_
    | split
    | dsimp only

theorem State.safAreaWrite_keeps {m0 s0 s w n v} (h0 : Keeps m0 s0 s) (hw0 : within 0x108000000000000000000000000000000000000000000000000000000000000000000000000000400000000000001800000000000000000000001000000000001e81000002 m0 = true := by decide) :
    Keeps m0 s0 (State.safAreaWrite s w n v) := by
  refine h0.app hw0 ?_
  unfold State.safAreaWrite
  try dsimp only [State.setAll]
  repeat' first
    | with_reducible exact .refl _ _
    | with_reducible assumption
    | with_reducible refine .ite _ ?_ ?_
    | with_reducible refine State.logReg_keeps ?_
    | with_reducible refine State.set_keeps (by first | assumption | (dsimp only [bank, Reg.SAF_SLOT_AREA_BASE, Reg.SAF_SLOT_STATE_LAST_STATUS]; decide)) ?_
    | split
    | dsimp only

theorem execSafAreaWrite_keeps {w n v s t0} (e0 : execSafAreaWrite w n v s = .next t0) : Keeps 0x108000000000000000000000000000000000000000000000000000000000000000000000000000400000000000001800000000000000000000001000000000001e81000002 s t0 := by
  rw [← Host.Outcome.next.inj e0]
  try dsimp only
  repeat' first
    | with_reducible exact .refl _ _
    | with_reducible assumption
    | with_reducible refine State.safAreaWrite_keeps ?_
    | with_reducible refine State.byWriter_keeps (fun _ _ => ?_) ?_
    | split
    | dsimp only

theorem execProtectedWriteDrop_keeps {o addr s t0} (e0 : execProtectedWriteDrop o addr s = .next t0) : Keeps 0x2000000000000000000000000000000000000000000000000000000000000000000000000000400000000000001800000000000000000000001000000000001e80000002 s t0 := by
  rw [← Host.Outcome.next.inj e0]
  try dsimp only
  repeat' first
    | with_reducible exact .refl _ _
    | with_reducible assumption
    | with_reducible refine State.dropProtected_keeps ?_
    | fail_if_no_progress with_reducible refine Keeps.mk' ?_
    | split
    | dsimp only

end Sys2Proof.Machine
end

