-- ==== Sys2Proof/Laws/KeepsCompositor.lean ====
section
/-! SUPPORT. What each operation of Machine/Compositor.lean may change (Laws/Keeps.lean). -/

namespace Sys2Proof.Machine

set_option Elab.async false
set_option linter.unusedTactic false
set_option linter.unusedSimpArgs false
set_option linter.unreachableTactic false

theorem State.setCmp_keeps {m0 s0 s n x} (h0 : Keeps m0 s0 s) (hw0 : within 0x80 m0 = true := by decide) :
    Keeps m0 s0 (State.setCmp s n x) := by
  refine h0.app hw0 ?_
  unfold State.setCmp
  try dsimp only
  repeat' first
    | with_reducible exact .refl _ _
    | with_reducible assumption
    | fail_if_no_progress with_reducible refine Keeps.mk' ?_
    | split
    | dsimp only

theorem State.updCmp_keeps {m0 s0 s n f} (h0 : Keeps m0 s0 s) (hw0 : within 0x80 m0 = true := by decide) :
    Keeps m0 s0 (State.updCmp s n f) := by
  refine h0.app hw0 ?_
  unfold State.updCmp
  try dsimp only
  repeat' first
    | with_reducible exact .refl _ _
    | with_reducible assumption
    | with_reducible refine State.setCmp_keeps ?_
    | split
    | dsimp only

theorem State.setLayer_keeps {m0 s0 s n l x} (h0 : Keeps m0 s0 s) (hw0 : within 0x80 m0 = true := by decide) :
    Keeps m0 s0 (State.setLayer s n l x) := by
  refine h0.app hw0 ?_
  unfold State.setLayer
  try dsimp only
  repeat' first
    | with_reducible exact .refl _ _
    | with_reducible assumption
    | with_reducible refine State.updCmp_keeps ?_
    | fail_if_no_progress with_reducible refine Keeps.mk' ?_
    | split
    | dsimp only

theorem State.cmpApply_keeps {m0 s0 s b n} (h0 : Keeps m0 s0 s) (hw0 : within 0xfffffff187ff800000000000000000000000000000000000000000000000000000000000000000000000000000000000000000000000000000000000000000000080 m0 = true := by decide) :
    Keeps m0 s0 (State.cmpApply s b n) := by
  refine h0.app hw0 ?_
  unfold State.cmpApply
  try dsimp only
  repeat' first
    | with_reducible exact .refl _ _
    | with_reducible assumption
    | with_reducible refine .ite _ ?_ ?_
    | with_reducible refine State.setLayer_keeps ?_
    | with_reducible refine State.updCmp_keeps ?_
    | with_reducible refine State.set_keeps (by repeat' first | assumption | (dsimp only [bank, Reg.CMP_L_COEF_H, Reg.CMP_L_COEF_V, Reg.CMP_L_CROP_H, Reg.CMP_L_CROP_W, Reg.CMP_L_CROP_X, Reg.CMP_L_CROP_Y, Reg.CMP_L_DST_H, Reg.CMP_L_DST_W, Reg.CMP_L_DST_X, Reg.CMP_L_DST_Y, Reg.CMP_L_ENABLE, Reg.CMP_L_FILLED, Reg.CMP_L_GFX_TCS, Reg.CMP_L_INDEX_OR_PITCH, Reg.CMP_L_KNEE, Reg.CMP_L_LAYER_ALPHA, Reg.CMP_L_LUT, Reg.CMP_L_PREMULT, Reg.CMP_L_SCROLL_X, Reg.CMP_L_SCROLL_Y, Reg.CMP_L_SRC_KIND_OR_FORMAT, Reg.CMP_L_SRC_PEAK, Reg.CMP_L_SURF_A_BASE, Reg.CMP_L_SURF_B_BASE, Reg.CMP_L_SURF_H, Reg.CMP_L_SURF_W, Reg.CMP_L_TM_MODE, Reg.CMP_L_Z, Reg.CMP_SLOT_BENCH_BASE, Reg.CMP_SLOT_BENCH_EN, Reg.CMP_SLOT_BENCH_FRAMES, Reg.CMP_SLOT_BG_B, Reg.CMP_SLOT_BG_G, Reg.CMP_SLOT_BG_R, Reg.CMP_SLOT_CANVAS_CANVAS_PEAK, Reg.CMP_SLOT_CANVAS_COLORIMETRY, Reg.CMP_SLOT_CANVAS_TCS, Reg.CMP_SLOT_LEVELS_HLG_LW, Reg.CMP_SLOT_LEVELS_SDR_WHITE, Reg.CMP_SLOT_STATUS_BENCH_STATE, Reg.CMP_SLOT_STATUS_LAG, Reg.CMP_SLOT_TABLE_BASE]; decide) | (unfold bank) | split) ?_
    | with_reducible refine State.copyBank_keeps (by (repeat' first | with_reducible assumption | with_reducible exact inMask_nil _ | (with_reducible refine inMask_cons ?_ ?_) | (with_reducible refine inMask_append ?_ ?_) | (with_reducible refine inMask_flatMap (fun _ => ?_)) | (with_reducible refine asBit ?_; dsimp only [Function.comp, bank, Reg.CMP_L_COEF_H, Reg.CMP_L_COEF_V, Reg.CMP_L_CROP_H, Reg.CMP_L_CROP_W, Reg.CMP_L_CROP_X, Reg.CMP_L_CROP_Y, Reg.CMP_L_DST_H, Reg.CMP_L_DST_W, Reg.CMP_L_DST_X, Reg.CMP_L_DST_Y, Reg.CMP_L_ENABLE, Reg.CMP_L_FILLED, Reg.CMP_L_GFX_TCS, Reg.CMP_L_INDEX_OR_PITCH, Reg.CMP_L_KNEE, Reg.CMP_L_LAYER_ALPHA, Reg.CMP_L_LUT, Reg.CMP_L_PREMULT, Reg.CMP_L_SCROLL_X, Reg.CMP_L_SCROLL_Y, Reg.CMP_L_SRC_KIND_OR_FORMAT, Reg.CMP_L_SRC_PEAK, Reg.CMP_L_SURF_A_BASE, Reg.CMP_L_SURF_B_BASE, Reg.CMP_L_SURF_H, Reg.CMP_L_SURF_W, Reg.CMP_L_TM_MODE, Reg.CMP_L_Z, Reg.CMP_SLOT_BENCH_BASE, Reg.CMP_SLOT_BENCH_EN, Reg.CMP_SLOT_BENCH_FRAMES, Reg.CMP_SLOT_BG_B, Reg.CMP_SLOT_BG_G, Reg.CMP_SLOT_BG_R, Reg.CMP_SLOT_CANVAS_CANVAS_PEAK, Reg.CMP_SLOT_CANVAS_COLORIMETRY, Reg.CMP_SLOT_CANVAS_TCS, Reg.CMP_SLOT_LEVELS_HLG_LW, Reg.CMP_SLOT_LEVELS_SDR_WHITE, Reg.CMP_SLOT_STATUS_BENCH_STATE, Reg.CMP_SLOT_STATUS_LAG, Reg.CMP_SLOT_TABLE_BASE]; decide) | (unfold bank) | (unfold cmpFields) | (unfold layerFields) | (simp only [List.map_map, List.map_append, List.map_cons, List.map_nil]) | (with_reducible refine inMask_ite _ ?_ ?_) | (with_reducible refine inMask_map (fun _ => ?_)))) ?_
    | with_reducible refine .foldl _ _ ?_ (fun _ _ _ => ?_)
    | fail_if_no_progress with_reducible refine Keeps.mk' ?_
    | split
    | dsimp only

theorem State.cmpCommit_keeps {m0 s0 s n t} (h0 : Keeps m0 s0 s) (hw0 : within 0xfffffff197ff800000000000000000000000000000000000000000000000000000000000000000000000000000000000000000000000000000000000000680000080 m0 = true := by decide) :
    Keeps m0 s0 (State.cmpCommit s n t).1 := by
  refine h0.app hw0 ?_
  unfold State.cmpCommit
  try dsimp only
  repeat' first
    | with_reducible exact .refl _ _
    | with_reducible assumption
    | with_reducible refine .ite _ ?_ ?_
    | with_reducible refine State.complete_keeps ?_
    | with_reducible refine State.updCmp_keeps ?_
    | with_reducible refine State.cmpApply_keeps ?_
    | with_reducible refine State.set_keeps (by first | assumption | (dsimp only [bank, Reg.CMP_L_COEF_H, Reg.CMP_L_COEF_V, Reg.CMP_L_CROP_H, Reg.CMP_L_CROP_W, Reg.CMP_L_CROP_X, Reg.CMP_L_CROP_Y, Reg.CMP_L_DST_H, Reg.CMP_L_DST_W, Reg.CMP_L_DST_X, Reg.CMP_L_DST_Y, Reg.CMP_L_ENABLE, Reg.CMP_L_GFX_TCS, Reg.CMP_L_INDEX_OR_PITCH, Reg.CMP_L_KNEE, Reg.CMP_L_LAYER_ALPHA, Reg.CMP_L_LUT, Reg.CMP_L_PREMULT, Reg.CMP_L_SCROLL_X, Reg.CMP_L_SCROLL_Y, Reg.CMP_L_SRC_KIND_OR_FORMAT, Reg.CMP_L_SRC_PEAK, Reg.CMP_L_SURF_A_BASE, Reg.CMP_L_SURF_B_BASE, Reg.CMP_L_SURF_H, Reg.CMP_L_SURF_W, Reg.CMP_L_TM_MODE, Reg.CMP_L_Z, Reg.CMP_SLOT_BENCH_BASE, Reg.CMP_SLOT_BENCH_EN, Reg.CMP_SLOT_BENCH_FRAMES, Reg.CMP_SLOT_BG_B, Reg.CMP_SLOT_BG_G, Reg.CMP_SLOT_BG_R, Reg.CMP_SLOT_CANVAS_CANVAS_PEAK, Reg.CMP_SLOT_CANVAS_COLORIMETRY, Reg.CMP_SLOT_CANVAS_TCS, Reg.CMP_SLOT_COMMIT_LAST_STATUS, Reg.CMP_SLOT_LEVELS_HLG_LW, Reg.CMP_SLOT_LEVELS_SDR_WHITE, Reg.CMP_SLOT_TABLE_BASE]; decide)) ?_
    | with_reducible refine State.copyBank_keeps (by (repeat' first | with_reducible assumption | with_reducible exact inMask_nil _ | (with_reducible refine inMask_cons ?_ ?_) | (with_reducible refine inMask_append ?_ ?_) | (with_reducible refine inMask_flatMap (fun _ => ?_)) | (with_reducible refine asBit ?_; dsimp only [Function.comp, bank, Reg.CMP_L_COEF_H, Reg.CMP_L_COEF_V, Reg.CMP_L_CROP_H, Reg.CMP_L_CROP_W, Reg.CMP_L_CROP_X, Reg.CMP_L_CROP_Y, Reg.CMP_L_DST_H, Reg.CMP_L_DST_W, Reg.CMP_L_DST_X, Reg.CMP_L_DST_Y, Reg.CMP_L_ENABLE, Reg.CMP_L_GFX_TCS, Reg.CMP_L_INDEX_OR_PITCH, Reg.CMP_L_KNEE, Reg.CMP_L_LAYER_ALPHA, Reg.CMP_L_LUT, Reg.CMP_L_PREMULT, Reg.CMP_L_SCROLL_X, Reg.CMP_L_SCROLL_Y, Reg.CMP_L_SRC_KIND_OR_FORMAT, Reg.CMP_L_SRC_PEAK, Reg.CMP_L_SURF_A_BASE, Reg.CMP_L_SURF_B_BASE, Reg.CMP_L_SURF_H, Reg.CMP_L_SURF_W, Reg.CMP_L_TM_MODE, Reg.CMP_L_Z, Reg.CMP_SLOT_BENCH_BASE, Reg.CMP_SLOT_BENCH_EN, Reg.CMP_SLOT_BENCH_FRAMES, Reg.CMP_SLOT_BG_B, Reg.CMP_SLOT_BG_G, Reg.CMP_SLOT_BG_R, Reg.CMP_SLOT_CANVAS_CANVAS_PEAK, Reg.CMP_SLOT_CANVAS_COLORIMETRY, Reg.CMP_SLOT_CANVAS_TCS, Reg.CMP_SLOT_COMMIT_LAST_STATUS, Reg.CMP_SLOT_LEVELS_HLG_LW, Reg.CMP_SLOT_LEVELS_SDR_WHITE, Reg.CMP_SLOT_TABLE_BASE]; decide) | (unfold cmpFields) | (unfold layerFields) | (simp only [List.map_map, List.map_append, List.map_cons, List.map_nil]) | (with_reducible refine inMask_ite _ ?_ ?_) | (with_reducible refine inMask_map (fun _ => ?_)))) ?_
    | fail_if_no_progress with_reducible refine Keeps.mk' ?_
    | split
    | dsimp only

theorem State.cmpCommit_keepsP {m0 s0 t0 x0 s n t} (e0 : State.cmpCommit s n t = (t0, x0)) (h0 : Keeps m0 s0 s)
    (hw0 : within 0xfffffff197ff800000000000000000000000000000000000000000000000000000000000000000000000000000000000000000000000000000000000000680000080 m0 = true := by decide) : Keeps m0 s0 t0 := by
  have := State.cmpCommit_keeps (s := s) (n := n) (t := t) h0 hw0
  rwa [e0] at this

theorem execCmpSlotCommit_keeps {w n s t0} (e0 : execCmpSlotCommit w n s = .next t0) : Keeps 0xfffffff197ff800000000000000000000000000000000000000000000000000000000000400000000000001800000000000000000000001000000000001e81000082 s t0 := by
  rw [← Host.Outcome.next.inj e0]
  try dsimp only
  repeat' first
    | with_reducible exact .refl _ _
    | with_reducible assumption
    | with_reducible refine State.cmpCommit_keeps ?_
    | with_reducible refine State.cmpCommit_keepsP (by assumption) ?_
    | with_reducible refine State.logReg_keeps ?_
    | with_reducible refine State.byWriter_keeps (fun _ _ => ?_) ?_
    | split
    | dsimp only

theorem actCmpCommit_keeps {m0 s0 d t s} (h0 : Keeps m0 s0 s) (hw0 : within 0xfffffff197ff800000000000000000000000000000000000000000000000000000000000400000000000001800000000000000000000001000000000001e81000082 m0 = true := by decide) :
    Keeps m0 s0 (actCmpCommit d t s) := by
  refine h0.app hw0 ?_
  unfold actCmpCommit
  try dsimp only
  repeat' first
    | with_reducible exact .refl _ _
    | with_reducible assumption
    | with_reducible refine .ite _ ?_ ?_
    | with_reducible refine State.cmpCommit_keeps ?_
    | with_reducible refine State.cmpCommit_keepsP (by assumption) ?_
    | with_reducible refine State.logDesc_keeps ?_
    | with_reducible refine State.mirrorCfg_keeps ?_
    | split
    | dsimp only

theorem execCmpCommit_keeps {d s t0} (e0 : execCmpCommit d s = .next t0) : Keeps 0xfffffff197ff800000000000000000000000000000000000000000000000000000000000400000000000001800000000000000800000001a00000000001e8180008a s t0 := by
  rw [← Host.Outcome.next.inj e0]
  try dsimp only
  repeat' first
    | with_reducible exact .refl _ _
    | with_reducible assumption
    | with_reducible refine actCmpCommit_keeps ?_
    | with_reducible refine State.runDesc_keeps (fun _ _ _ => ?_) ?_
    | split
    | dsimp only

theorem State.cmpTake_keeps {m0 s0 s n pic} (h0 : Keeps m0 s0 s) (hw0 : within 0xfffffff187ff800000000000000000000000000000000000000000000000000000000000000000000000000000000000000000000000000000000000000680000080 m0 = true := by decide) :
    Keeps m0 s0 (State.cmpTake s n pic) := by
  refine h0.app hw0 ?_
  unfold State.cmpTake
  try dsimp only
  repeat' first
    | with_reducible exact .refl _ _
    | with_reducible assumption
    | with_reducible refine .ite _ ?_ ?_
    | with_reducible refine State.complete_keeps ?_
    | with_reducible refine State.cmpApply_keeps ?_
    | with_reducible refine State.updCmp_keeps ?_
    | with_reducible refine .foldl _ _ ?_ (fun _ _ _ => ?_)
    | fail_if_no_progress with_reducible refine Keeps.mk' ?_
    | split
    | dsimp only

theorem actSurfaceLoad_keeps {m0 s0 d t s} (h0 : Keeps m0 s0 s) (hw0 : within 0x2004000000000000000000000000000000000000000000000000000000000000000000000000400000000000001800000000000000800000001200000000003e81010082 m0 = true := by decide) :
    Keeps m0 s0 (actSurfaceLoad d t s) := by
  refine h0.app hw0 ?_
  unfold actSurfaceLoad
  try dsimp only
  repeat' first
    | with_reducible exact .refl _ _
    | with_reducible assumption
    | with_reducible refine .ite _ ?_ ?_
    | with_reducible refine State.failDesc_keeps ?_
    | with_reducible refine State.logHash_keeps ?_
    | with_reducible refine State.complete_keeps ?_
    | with_reducible refine State.deviceStore_keeps ?_
    | with_reducible refine State.setLayer_keeps ?_
    | with_reducible refine State.mirrorSurf_keeps ?_
    | with_reducible refine State.set_keeps (by repeat' first | assumption | (dsimp only [bank, Reg.CMP_L_INDEX_OR_PITCH, Reg.CMP_L_LOAD_PENDING, Reg.CMP_L_SURF_H]; decide) | (unfold bank) | split) ?_
    | fail_if_no_progress with_reducible refine Keeps.mk' ?_
    | split
    | dsimp only

theorem execSurfaceLoad_keeps {d s t0} (e0 : execSurfaceLoad d s = .next t0) : Keeps 0x2004000000000000000000000000000000000000000000000000000000000000000000000000400000000000001800000000000000800000001a00000000003e8181008a s t0 := by
  rw [← Host.Outcome.next.inj e0]
  try dsimp only
  repeat' first
    | with_reducible exact .refl _ _
    | with_reducible assumption
    | with_reducible refine actSurfaceLoad_keeps ?_
    | with_reducible refine State.runDesc_keeps (fun _ _ _ => ?_) ?_
    | split
    | dsimp only

theorem execSurfaceCopyDone_keeps {n l s t0} (e0 : execSurfaceCopyDone n l s = .next t0) : Keeps 0x80 s t0 := by
  rw [← Host.Outcome.next.inj e0]
  try dsimp only
  repeat' first
    | with_reducible exact .refl _ _
    | with_reducible assumption
    | with_reducible refine State.setLayer_keeps ?_
    | fail_if_no_progress with_reducible refine Keeps.mk' ?_
    | split
    | dsimp only

theorem actTableLoad_keeps {m0 s0 d t s} (h0 : Keeps m0 s0 s) (hw0 : within 0x2000000000000000000000000000000000000000000000000000000000000000000000000000400000000000001800000000000000000000001000000000003e81010082 m0 = true := by decide) :
    Keeps m0 s0 (actTableLoad d t s) := by
  refine h0.app hw0 ?_
  unfold actTableLoad
  try dsimp only
  repeat' first
    | with_reducible exact .refl _ _
    | with_reducible assumption
    | with_reducible refine .ite _ ?_ ?_
    | with_reducible refine State.logHash_keeps ?_
    | with_reducible refine State.complete_keeps ?_
    | with_reducible refine State.deviceStore_keeps ?_
    | with_reducible refine State.mirrorSurf_keeps ?_
    | with_reducible refine State.updCmp_keeps ?_
    | fail_if_no_progress with_reducible refine Keeps.mk' ?_
    | split
    | dsimp only

theorem execTableLoad_keeps {d s t0} (e0 : execTableLoad d s = .next t0) : Keeps 0x2000000000000000000000000000000000000000000000000000000000000000000000000000400000000000001800000000000000800000001a00000000003e8181008a s t0 := by
  rw [← Host.Outcome.next.inj e0]
  try dsimp only
  repeat' first
    | with_reducible exact .refl _ _
    | with_reducible assumption
    | with_reducible refine actTableLoad_keeps ?_
    | with_reducible refine State.runDesc_keeps (fun _ _ _ => ?_) ?_
    | split
    | dsimp only

theorem State.chooseVideo_keeps {m0 s0 s n l t} (h0 : Keeps m0 s0 s) (hw0 : within 0x29800000000000000000000000000000000000000000000000000000000000000000000000400000000000000000000000000000000000001000000000000680000082 m0 = true := by decide) :
    Keeps m0 s0 (State.chooseVideo s n l t) := by
  refine h0.app hw0 ?_
  unfold State.chooseVideo
  try dsimp only [State.setAll]
  repeat' first
    | with_reducible exact .refl _ _
    | with_reducible assumption
    | with_reducible refine .ite _ ?_ ?_
    | with_reducible refine State.setLayer_keeps ?_
    | with_reducible refine State.raise_keeps ?_
    | with_reducible refine State.set_keeps (by first | assumption | (dsimp only [bank, Reg.CMP_L_EMPTY_PIC_CNT, Reg.CMP_L_FILLED, Reg.CMP_L_HELD, Reg.CMP_L_HELD_PIC_CNT, Reg.CMP_SLOT_STATUS_LAG]; decide)) ?_
    | with_reducible refine State.bump_keeps (by first | assumption | (dsimp only [bank, Reg.CMP_L_EMPTY_PIC_CNT, Reg.CMP_L_FILLED, Reg.CMP_L_HELD, Reg.CMP_L_HELD_PIC_CNT, Reg.CMP_SLOT_STATUS_LAG]; decide)) ?_
    | fail_if_no_progress with_reducible refine Keeps.mk' ?_
    | split
    | dsimp only

theorem State.swapSurface_keeps {m0 s0 s n l pic} (h0 : Keeps m0 s0 s) (hw0 : within 0x6800000000000000000000000000000000000000000000000000000000000000000000000000000000000000000000000000000000000000000000000000680000080 m0 = true := by decide) :
    Keeps m0 s0 (State.swapSurface s n l pic) := by
  refine h0.app hw0 ?_
  unfold State.swapSurface
  try dsimp only [State.setAll]
  repeat' first
    | with_reducible exact .refl _ _
    | with_reducible assumption
    | with_reducible refine .ite _ ?_ ?_
    | with_reducible refine State.setLayer_keeps ?_
    | with_reducible refine State.complete_keeps ?_
    | with_reducible refine State.set_keeps (by first | assumption | (dsimp only [bank, Reg.CMP_L_FILLED, Reg.CMP_L_FRONT, Reg.CMP_L_LOAD_PENDING]; decide)) ?_
    | fail_if_no_progress with_reducible refine Keeps.mk' ?_
    | split
    | dsimp only

theorem State.chooseGraphics_keeps {m0 s0 s n l} (h0 : Keeps m0 s0 s) (hw0 : within 0x20000000000000000000000000000000000000000000000000000000000000000000000000000000000000000000000000000000000000000000000000000000000082 m0 = true := by decide) :
    Keeps m0 s0 (State.chooseGraphics s n l) := by
  refine h0.app hw0 ?_
  unfold State.chooseGraphics
  try dsimp only
  repeat' first
    | with_reducible exact .refl _ _
    | with_reducible assumption
    | with_reducible refine .ite _ ?_ ?_
    | with_reducible refine State.setLayer_keeps ?_
    | with_reducible refine State.bump_keeps (by repeat' first | assumption | (dsimp only [bank, Reg.CMP_L_EMPTY_PIC_CNT, Reg.CMP_L_SCROLL_X, Reg.CMP_L_SCROLL_Y, Reg.CMP_L_SURF_H, Reg.CMP_L_SURF_W]; decide) | (unfold bank) | split) ?_
    | fail_if_no_progress with_reducible refine Keeps.mk' ?_
    | split
    | dsimp only

theorem State.setHints_keeps {m0 s0 s n old} (h0 : Keeps m0 s0 s) (hw0 : within 0x80 m0 = true := by decide) :
    Keeps m0 s0 (State.setHints s n old) := by
  refine h0.app hw0 ?_
  unfold State.setHints
  try dsimp only
  repeat' first
    | with_reducible exact .refl _ _
    | with_reducible assumption
    | with_reducible refine .ite _ ?_ ?_
    | with_reducible refine State.setLayer_keeps ?_
    | with_reducible refine State.updCmp_keeps ?_
    | with_reducible refine .foldl _ _ ?_ (fun _ _ _ => ?_)
    | fail_if_no_progress with_reducible refine Keeps.mk' ?_
    | split
    | dsimp only

theorem State.benchStep_keeps {m0 s0 s n} (h0 : Keeps m0 s0 s) (hw0 : within 0x28000000000000000000000000000000000000000000000000000000000000000000000000000000000000000000000000000000000000000000000000082 m0 = true := by decide) :
    Keeps m0 s0 (State.benchStep s n) := by
  refine h0.app hw0 ?_
  unfold State.benchStep
  try dsimp only
  repeat' first
    | with_reducible exact .refl _ _
    | with_reducible assumption
    | with_reducible refine .ite _ ?_ ?_
    | with_reducible refine State.setLayer_keeps ?_
    | with_reducible refine State.updCmp_keeps ?_
    | with_reducible refine State.set_keeps (by repeat' first | assumption | (dsimp only [bank, Reg.CMP_L_Z, Reg.CMP_SLOT_BCNT_BENCH_EVICT_CNT, Reg.CMP_SLOT_BENCH_EN, Reg.CMP_SLOT_BENCH_FRAMES, Reg.CMP_SLOT_STATUS_BENCH_STATE]; decide) | (unfold bank) | split) ?_
    | with_reducible refine State.bump_keeps (by repeat' first | assumption | (dsimp only [bank, Reg.CMP_L_Z, Reg.CMP_SLOT_BCNT_BENCH_EVICT_CNT, Reg.CMP_SLOT_BENCH_EN, Reg.CMP_SLOT_BENCH_FRAMES, Reg.CMP_SLOT_STATUS_BENCH_STATE]; decide) | (unfold bank) | split) ?_
    | with_reducible refine .foldl _ _ ?_ (fun _ _ _ => ?_)
    | fail_if_no_progress with_reducible refine Keeps.mk' ?_
    | split
    | dsimp only

theorem State.cmpLatch_keeps {m0 s0 s n pic t p} (h0 : Keeps m0 s0 s) (hw0 : within 0xf0f002ffffffff387ff800000000000000000000000000000000000000000000000000000000000400000000000000000000000000000000000001000000000000680000582 m0 = true := by decide) :
    Keeps m0 s0 (State.cmpLatch s n pic t p) := by
  refine h0.app hw0 ?_
  unfold State.cmpLatch
  try dsimp only
  repeat' first
    | with_reducible exact .refl _ _
    | with_reducible assumption
    | with_reducible refine .ite _ ?_ ?_
    | with_reducible refine State.cmpTake_keeps ?_
    | with_reducible refine State.swapSurface_keeps ?_
    | with_reducible refine State.chooseVideo_keeps ?_
    | with_reducible refine State.chooseGraphics_keeps ?_
    | with_reducible refine State.safLatch_keeps ?_
    | with_reducible refine State.setHints_keeps ?_
    | with_reducible refine State.benchStep_keeps ?_
    | with_reducible refine .foldl _ _ ?_ (fun _ _ _ => ?_)
    | split
    | dsimp only

end Sys2Proof.Machine
end

