-- ==== Sys2Proof/Laws/KeepsCanvas.lean ====
section
/-! SUPPORT. What each operation of Machine/Canvas.lean may change (Laws/Keeps.lean). -/

namespace Sys2Proof.Machine

set_option Elab.async false
set_option linter.unusedTactic false
set_option linter.unusedSimpArgs false
set_option linter.unreachableTactic false

theorem State.benchFlatten_keeps {m0 s0 s n b} (h0 : Keeps m0 s0 s) (hw0 : within 0x2000000000000000000000000000000000000000000000000000000000000000000000000000400000000000001800000000000000000000001000000000003e80010082 m0 = true := by decide) :
    Keeps m0 s0 (State.benchFlatten s n b) := by
  refine h0.app hw0 ?_
  unfold State.benchFlatten
  try dsimp only
  repeat' first
    | with_reducible exact .refl _ _
    | with_reducible assumption
    | with_reducible refine State.deviceStore_keeps ?_
    | with_reducible refine State.updCmp_keeps ?_
    | with_reducible refine .foldl _ _ ?_ (fun _ _ _ => ?_)
    | fail_if_no_progress with_reducible refine Keeps.mk' ?_
    | split
    | dsimp only

theorem execBenchFlattenDone_keeps {n s t0} (e0 : execBenchFlattenDone n s = .next t0) : Keeps 0x2000000000040000000000000000000000000000000000000000000000000000000000000000400000000000001800000000000000000000001000000000003e80010082 s t0 := by
  rw [← Host.Outcome.next.inj e0]
  try dsimp only
  repeat' first
    | with_reducible exact .refl _ _
    | with_reducible assumption
    | with_reducible refine .ite _ ?_ ?_
    | with_reducible refine State.benchFlatten_keeps ?_
    | with_reducible refine State.bump_keeps (by first | assumption | (dsimp only [bank, Reg.CMP_SLOT_BCNT_BENCH_FLAT_CNT]; decide)) ?_
    | fail_if_no_progress with_reducible refine Keeps.mk' ?_
    | split
    | dsimp only

theorem State.judgeLines_keeps {m0 s0 s n l y0 y1} (h0 : Keeps m0 s0 s) (hw0 : within 0x50000000000000000000000000000000000000000000000000000000000000000000000000000000000000000000000000000000000000000000000000000000000082 m0 = true := by decide) :
    Keeps m0 s0 (State.judgeLines s n l y0 y1) := by
  refine h0.app hw0 ?_
  unfold State.judgeLines
  try dsimp only
  repeat' first
    | with_reducible exact .refl _ _
    | with_reducible assumption
    | with_reducible refine .ite _ ?_ ?_
    | with_reducible refine State.setLayer_keeps ?_
    | with_reducible refine State.count_keeps (by first | assumption | (dsimp only [bank, Reg.CMP_L_HELD_LINE_CNT, Reg.CMP_L_TRANSP_LINE_CNT]; decide)) ?_
    | fail_if_no_progress with_reducible refine Keeps.mk' ?_
    | split
    | dsimp only

theorem State.cmpEnd_keeps {m0 s0 s n} (h0 : Keeps m0 s0 s) (hw0 : within 0xf4f0000000000000000000000000000000000000000000000000000000000000000000000000000400000000000000000000000000000000000001000000000000680000102 m0 = true := by decide) :
    Keeps m0 s0 (State.cmpEnd s n) := by
  refine h0.app hw0 ?_
  unfold State.cmpEnd
  try dsimp only
  repeat' first
    | with_reducible exact .refl _ _
    | with_reducible assumption
    | with_reducible refine .ite _ ?_ ?_
    | with_reducible refine State.raise_keeps ?_
    | with_reducible refine State.safReadBack_keeps ?_
    | with_reducible refine .foldl _ _ ?_ (fun _ _ _ => ?_)
    | split
    | dsimp only

theorem State.setPic_keeps {m0 s0 s n p} (h0 : Keeps m0 s0 s) (hw0 : within 0x20 m0 = true := by decide) :
    Keeps m0 s0 (State.setPic s n p) := by
  refine h0.app hw0 ?_
  unfold State.setPic
  try dsimp only
  repeat' first
    | with_reducible exact .refl _ _
    | with_reducible assumption
    | with_reducible refine .ite _ ?_ ?_
    | with_reducible refine State.updSlot_keeps ?_
    | fail_if_no_progress with_reducible refine Keeps.mk' ?_
    | split
    | dsimp only

theorem State.composeRow_keeps {m0 s0 s n} (h0 : Keeps m0 s0 s) (hw0 : within 0x200000000000f4f00500000000000000000000000000000000000000000000000000000000000000000000000004000000000000000000000000000000000000010000000000006810001a2 m0 = true := by decide) :
    Keeps m0 s0 (State.composeRow s n) := by
  refine h0.app hw0 ?_
  unfold State.composeRow
  try dsimp only
  repeat' first
    | with_reducible exact .refl _ _
    | with_reducible assumption
    | with_reducible refine .ite _ ?_ ?_
    | with_reducible refine State.judgeLines_keeps ?_
    | with_reducible refine State.setPic_keeps ?_
    | with_reducible refine State.mirrorSafRow_keeps ?_
    | with_reducible refine State.cmpEnd_keeps ?_
    | with_reducible refine State.set_keeps (by first | assumption | (dsimp only [bank, Reg.ENC_BS_SWEEP_LEN, Reg.ENC_BS_SWEEP_POS]; decide)) ?_
    | with_reducible refine .foldl _ _ ?_ (fun _ _ _ => ?_)
    | fail_if_no_progress with_reducible refine Keeps.mk' ?_
    | split
    | dsimp only

theorem execComposeRow_keeps {n s t0} (e0 : execComposeRow n s = .next t0) : Keeps 0x200000000000f4f00500000000000000000000000000000000000000000000000000000000000000000000000004000000000000000000000000000000000000010000000000006810001a2 s t0 := by
  rw [← Host.Outcome.next.inj e0]
  try dsimp only
  repeat' first
    | with_reducible exact .refl _ _
    | with_reducible assumption
    | with_reducible refine State.composeRow_keeps ?_
    | split
    | dsimp only

end Sys2Proof.Machine
end

