-- ==== Sys2Proof/Laws/KeepsWire.lean ====
section
/-! SUPPORT. What each operation of Machine/Wire.lean may change (Laws/Keeps.lean). -/

namespace Sys2Proof.Machine

set_option Elab.async false
set_option linter.unusedTactic false
set_option linter.unusedSimpArgs false
set_option linter.unreachableTactic false

theorem State.transmit_keeps {m0 s0 s i m} (h0 : Keeps m0 s0 s) (hw0 : within 0x1000 m0 = true := by decide) :
    Keeps m0 s0 (State.transmit s i m) := by
  refine h0.app hw0 ?_
  unfold State.transmit
  try dsimp only
  repeat' first
    | with_reducible exact .refl _ _
    | with_reducible assumption
    | with_reducible refine State.emit_keeps ?_
    | fail_if_no_progress with_reducible refine Keeps.mk' ?_
    | split
    | dsimp only

theorem State.transmitAll_keeps {m0 s0 s i l} (h0 : Keeps m0 s0 s) (hw0 : within 0x1000 m0 = true := by decide) :
    Keeps m0 s0 (State.transmitAll s i l) := by
  refine h0.app hw0 ?_
  unfold State.transmitAll
  try dsimp only
  repeat' first
    | with_reducible exact .refl _ _
    | with_reducible assumption
    | with_reducible refine State.transmit_keeps ?_
    | with_reducible refine .foldl _ _ ?_ (fun _ _ _ => ?_)
    | split
    | dsimp only

theorem State.wireStart_keeps {m0 s0 s i} (h0 : Keeps m0 s0 s) (hw0 : within 0x1000 m0 = true := by decide) :
    Keeps m0 s0 (State.wireStart s i) := by
  refine h0.app hw0 ?_
  unfold State.wireStart
  try dsimp only
  repeat' first
    | with_reducible exact .refl _ _
    | with_reducible assumption
    | fail_if_no_progress with_reducible refine Keeps.mk' ?_
    | split
    | dsimp only

theorem State.sendTraining_keeps {m0 s0 s i word} (h0 : Keeps m0 s0 s) (hw0 : within 0x1000 m0 = true := by decide) :
    Keeps m0 s0 (State.sendTraining s i word) := by
  refine h0.app hw0 ?_
  unfold State.sendTraining
  try dsimp only
  repeat' first
    | with_reducible exact .refl _ _
    | with_reducible assumption
    | with_reducible refine State.emit_keeps ?_
    | with_reducible refine State.wireStart_keeps ?_
    | split
    | dsimp only

end Sys2Proof.Machine
end

