-- ==== Sys2Proof/Laws/KeepsLanes.lean ====
section
/-! SUPPORT. What each operation of Machine/Lanes.lean may change (Laws/Keeps.lean). -/

namespace Sys2Proof.Machine

set_option Elab.async false
set_option linter.unusedTactic false
set_option linter.unusedSimpArgs false
set_option linter.unreachableTactic false

theorem State.setLane_keeps {m0 s0 s i x} (h0 : Keeps m0 s0 s) (hw0 : within 0x800 m0 = true := by decide) :
    Keeps m0 s0 (State.setLane s i x) := by
  refine h0.app hw0 ?_
  unfold State.setLane
  try dsimp only
  repeat' first
    | with_reducible exact .refl _ _
    | with_reducible assumption
    | fail_if_no_progress with_reducible refine Keeps.mk' ?_
    | split
    | dsimp only

theorem State.updLane_keeps {m0 s0 s i f} (h0 : Keeps m0 s0 s) (hw0 : within 0x800 m0 = true := by decide) :
    Keeps m0 s0 (State.updLane s i f) := by
  refine h0.app hw0 ?_
  unfold State.updLane
  try dsimp only
  repeat' first
    | with_reducible exact .refl _ _
    | with_reducible assumption
    | with_reducible refine State.setLane_keeps ?_
    | split
    | dsimp only

theorem State.laneStatus_keeps {m0 s0 s i c} (h0 : Keeps m0 s0 s) (hw0 : within 0x1000000000000000000000000000000000000000000000000000000000000000000000000000000000000000 m0 = true := by decide) :
    Keeps m0 s0 (State.laneStatus s i c) := by
  refine h0.app hw0 ?_
  unfold State.laneStatus
  try dsimp only
  repeat' first
    | with_reducible exact .refl _ _
    | with_reducible assumption
    | with_reducible refine .ite _ ?_ ?_
    | with_reducible refine State.set_keeps (by first | assumption | (dsimp only [bank, Reg.LANE_STATUS_LAST_STATUS]; decide)) ?_
    | split
    | dsimp only

theorem State.scnDrop_keeps {m0 s0 s i} (h0 : Keeps m0 s0 s) (hw0 : within 0x200000000000000000000000000000000000000000000000000000000000000000000000000000000000000000000000000000000000000000000000000000000000000000000000000000000000000000000000000002000 m0 = true := by decide) :
    Keeps m0 s0 (State.scnDrop s i) := by
  refine h0.app hw0 ?_
  unfold State.scnDrop
  try dsimp only
  repeat' first
    | with_reducible exact .refl _ _
    | with_reducible assumption
    | with_reducible refine .ite _ ?_ ?_
    | with_reducible refine State.setScn_keeps ?_
    | with_reducible refine State.set_keeps (by first | assumption | (dsimp only [bank, Reg.SCN_LANE_STATUS_STATE]; decide)) ?_
    | fail_if_no_progress with_reducible refine Keeps.mk' ?_
    | split
    | dsimp only

theorem State.sendLink_keeps {m0 s0 s i m} (h0 : Keeps m0 s0 s) (hw0 : within 0x1000 m0 = true := by decide) :
    Keeps m0 s0 (State.sendLink s i m) := by
  refine h0.app hw0 ?_
  unfold State.sendLink
  try dsimp only
  repeat' first
    | with_reducible exact .refl _ _
    | with_reducible assumption
    | with_reducible refine .ite _ ?_ ?_
    | with_reducible refine State.transmit_keeps ?_
    | split
    | dsimp only

theorem State.sendModes_keeps {m0 s0 s i} (h0 : Keeps m0 s0 s) (hw0 : within 0x1000 m0 = true := by decide) :
    Keeps m0 s0 (State.sendModes s i) := by
  refine h0.app hw0 ?_
  unfold State.sendModes
  try dsimp only
  repeat' first
    | with_reducible exact .refl _ _
    | with_reducible assumption
    | with_reducible refine State.transmitAll_keeps ?_
    | split
    | dsimp only

theorem State.scnChain_keeps {m0 s0 s i} (h0 : Keeps m0 s0 s) (hw0 : within 0x100000000000000000000000000000000000000000000000000000000000000000000000000000000000000000000000000000000000000000000000000000000000000000000000000000000000000000000000000000000 m0 = true := by decide) :
    Keeps m0 s0 (State.scnChain s i) := by
  refine h0.app hw0 ?_
  unfold State.scnChain
  try dsimp only
  repeat' first
    | with_reducible exact .refl _ _
    | with_reducible assumption
    | with_reducible refine .ite _ ?_ ?_
    | with_reducible refine State.set_keeps (by first | assumption | (dsimp only [bank, Reg.SCN_LANE_COMMIT_LAST_STATUS]; decide)) ?_
    | split
    | dsimp only

theorem State.endRetrain_keeps {m0 s0 s i c} (h0 : Keeps m0 s0 s) (hw0 : within 0x680000800 m0 = true := by decide) :
    Keeps m0 s0 (State.endRetrain s i c) := by
  refine h0.app hw0 ?_
  unfold State.endRetrain
  try dsimp only
  repeat' first
    | with_reducible exact .refl _ _
    | with_reducible assumption
    | with_reducible refine .ite _ ?_ ?_
    | with_reducible refine State.complete_keeps ?_
    | with_reducible refine State.updLane_keeps ?_
    | with_reducible refine .foldl _ _ ?_ (fun _ _ _ => ?_)
    | fail_if_no_progress with_reducible refine Keeps.mk' ?_
    | split
    | dsimp only

theorem State.laneTo_keeps {m0 s0 s i st} (h0 : Keeps m0 s0 s) (hw0 : within 0x200000000000000000000000000000000000000000000000000000000000207000000000008600000020000004800000000000000000000000000400000000000000000000000000000000000001000000000000680002812 m0 = true := by decide) :
    Keeps m0 s0 (State.laneTo s i st) := by
  refine h0.app hw0 ?_
  unfold State.laneTo
  try dsimp only [State.setAll]
  repeat' first
    | with_reducible exact .refl _ _
    | with_reducible assumption
    | with_reducible refine .ite _ ?_ ?_
    | with_reducible refine State.updLane_keeps ?_
    | with_reducible refine State.lanePathsDown_keeps ?_
    | with_reducible refine State.scnDrop_keeps ?_
    | with_reducible refine State.portDown_keeps ?_
    | with_reducible refine State.set_keeps (by first | assumption | (dsimp only [bank, Reg.AKN_STATUS_VERSION, Reg.LANE_ADAPT_PRESET, Reg.LANE_STATUS_STATE, Reg.THM_STATUS_BAND]; decide)) ?_
    | split
    | dsimp only

theorem State.laneStart_keeps {m0 s0 s i} (h0 : Keeps m0 s0 s) (hw0 : within 0x800000000000000000000000000000000000000000000000000000002000000000000000000000000000800 m0 = true := by decide) :
    Keeps m0 s0 (State.laneStart s i) := by
  refine h0.app hw0 ?_
  unfold State.laneStart
  try dsimp only
  repeat' first
    | with_reducible exact .refl _ _
    | with_reducible assumption
    | with_reducible refine .ite _ ?_ ?_
    | with_reducible refine State.updLane_keeps ?_
    | with_reducible refine State.setPd_keeps ?_
    | with_reducible refine State.set_keeps (by first | assumption | (dsimp only [bank, Reg.LANE_REFSTAT_OK, Reg.LANE_STATUS_STATE]; decide)) ?_
    | split
    | dsimp only

theorem State.laneGoes_keeps {m0 s0 s i st} (h0 : Keeps m0 s0 s) (hw0 : within 0x200000000000000000000000000000000000000000000000000000000000207000000000008600000020000004800000000000000000000000000400000000000000000000000000002000000001000000000000680002812 m0 = true := by decide) :
    Keeps m0 s0 (State.laneGoes s i st) := by
  refine h0.app hw0 ?_
  unfold State.laneGoes
  try dsimp only
  repeat' first
    | with_reducible exact .refl _ _
    | with_reducible assumption
    | with_reducible refine .ite _ ?_ ?_
    | with_reducible refine State.laneTo_keeps ?_
    | with_reducible refine State.laneStart_keeps ?_
    | with_reducible refine .foldl _ _ ?_ (fun _ _ _ => ?_)
    | split
    | dsimp only

theorem State.laneOff_keeps {m0 s0 s i c} (h0 : Keeps m0 s0 s) (hw0 : within 0x200000000000000000000000000000000000000000000000000000000000207000000000008600000020000004800000000000000000000000000400000000000000000000000000002000000001000000000000680002812 m0 = true := by decide) :
    Keeps m0 s0 (State.laneOff s i c) := by
  refine h0.app hw0 ?_
  unfold State.laneOff
  try dsimp only
  repeat' first
    | with_reducible exact .refl _ _
    | with_reducible assumption
    | with_reducible refine .ite _ ?_ ?_
    | with_reducible refine State.laneTo_keeps ?_
    | with_reducible refine State.endRetrain_keeps ?_
    | with_reducible refine State.laneStart_keeps ?_
    | with_reducible refine State.setPd_keeps ?_
    | with_reducible refine .foldl _ _ ?_ (fun _ _ _ => ?_)
    | split
    | dsimp only

theorem State.laneUp_keeps {m0 s0 s i} (h0 : Keeps m0 s0 s) (hw0 : within 0x1000000000000000000000000000000000000000000000000000000000000000000000fec0a600000000000000800000000000000000000000000400000000000000000000000000000000000001000000000001680000812 m0 = true := by decide) :
    Keeps m0 s0 (State.laneUp s i) := by
  refine h0.app hw0 ?_
  unfold State.laneUp
  try dsimp only
  repeat' first
    | with_reducible exact .refl _ _
    | with_reducible assumption
    | with_reducible refine State.updLane_keeps ?_
    | with_reducible refine State.raise_keeps ?_
    | with_reducible refine State.endRetrain_keeps ?_
    | with_reducible refine State.igmpLane_keeps ?_
    | with_reducible refine State.scnChain_keeps ?_
    | with_reducible refine State.set_keeps (by first | assumption | (dsimp only [bank, Reg.LANE_STATUS_STATE]; decide)) ?_
    | fail_if_no_progress with_reducible refine Keeps.mk' ?_
    | split
    | dsimp only

theorem State.trainFailed_keeps {m0 s0 s i} (h0 : Keeps m0 s0 s) (hw0 : within 0x200000000000000000000000000000000000000000000000000000000000207000000000008600000020008004800000000000000000000000000400000000000000000000000000000000000001000000000000680002812 m0 = true := by decide) :
    Keeps m0 s0 (State.trainFailed s i) := by
  refine h0.app hw0 ?_
  unfold State.trainFailed
  try dsimp only
  repeat' first
    | with_reducible exact .refl _ _
    | with_reducible assumption
    | with_reducible refine State.raise_keeps ?_
    | with_reducible refine State.laneTo_keeps ?_
    | with_reducible refine State.endRetrain_keeps ?_
    | with_reducible refine State.updLane_keeps ?_
    | with_reducible refine State.bump_keeps (by first | assumption | (dsimp only [bank, Reg.LANE_TRAIN_FAIL_CNT]; decide)) ?_
    | fail_if_no_progress with_reducible refine Keeps.mk' ?_
    | split
    | dsimp only

theorem State.laneCfgWrite_keeps {m0 s0 s w i v} (h0 : Keeps m0 s0 s) (hw0 : within 0x20000000000000000000000000000000000000000000000000000000000020700000000000860000002000010587f000000000000000000000000400000000000001800000000000002000000001000000000001e81002812 m0 = true := by decide) :
    Keeps m0 s0 (State.laneCfgWrite s w i v) := by
  refine h0.app hw0 ?_
  unfold State.laneCfgWrite
  try dsimp only [State.setAll]
  repeat' first
    | with_reducible exact .refl _ _
    | with_reducible assumption
    | with_reducible refine .ite _ ?_ ?_
    | with_reducible refine State.laneStatus_keeps ?_
    | with_reducible refine State.logReg_keeps ?_
    | with_reducible refine State.laneOff_keeps ?_
    | with_reducible refine State.updLane_keeps ?_
    | with_reducible refine State.laneStart_keeps ?_
    | with_reducible refine State.setPd_keeps ?_
    | with_reducible refine State.set_keeps (by first | assumption | (dsimp only [bank, Reg.LANE_CFG_AN_EN, Reg.LANE_CFG_ENABLE, Reg.LANE_CFG_FFE_MODE, Reg.LANE_CFG_MODE, Reg.LANE_CFG_PRECODE_RX, Reg.LANE_CFG_PRECODE_TX, Reg.LANE_CFG_TRAIN_TO_MS, Reg.LANE_TEST_TEST_EN]; decide)) ?_
    | with_reducible refine State.setAll_keeps (by (repeat' first | with_reducible assumption | with_reducible exact inMask_nil _ | (with_reducible refine inMask_cons ?_ ?_) | (with_reducible refine inMask_append ?_ ?_) | (with_reducible refine inMask_flatMap (fun _ => ?_)) | (with_reducible refine asBit ?_; dsimp only [Function.comp, bank, Reg.LANE_CFG_AN_EN, Reg.LANE_CFG_ENABLE, Reg.LANE_CFG_FFE_MODE, Reg.LANE_CFG_MODE, Reg.LANE_CFG_PRECODE_RX, Reg.LANE_CFG_PRECODE_TX, Reg.LANE_CFG_TRAIN_TO_MS, Reg.LANE_TEST_TEST_EN]; decide) | (unfold fieldsOf) | (unfold laneCfgFields) | (simp only [List.map_map, List.map_append, List.map_cons, List.map_nil]) | (with_reducible refine inMask_ite _ ?_ ?_) | (with_reducible refine inMask_map (fun _ => ?_)))) ?_
    | fail_if_no_progress with_reducible refine Keeps.mk' ?_
    | split
    | dsimp only

theorem State.clearChecker_keeps {m0 s0 s i} (h0 : Keeps m0 s0 s) (hw0 : within 0x3003000000000000000000000000000000000000000000000000000000000000000000000000000000000000000000 m0 = true := by decide) :
    Keeps m0 s0 (State.clearChecker s i) := by
  refine h0.app hw0 ?_
  unfold State.clearChecker
  try dsimp only [State.setAll]
  repeat' first
    | with_reducible exact .refl _ _
    | with_reducible assumption
    | with_reducible refine State.set_keeps (by first | assumption | (dsimp only [bank, Reg.LANE_BITS_CNT_HI, Reg.LANE_BITS_CNT_LO, Reg.LANE_ERR_CNT, Reg.LANE_TEST_SYNC]; decide)) ?_
    | split
    | dsimp only

theorem State.testStart_keeps {m0 s0 s i} (h0 : Keeps m0 s0 s) (hw0 : within 0x1000 m0 = true := by decide) :
    Keeps m0 s0 (State.testStart s i) := by
  refine h0.app hw0 ?_
  unfold State.testStart
  try dsimp only
  repeat' first
    | with_reducible exact .refl _ _
    | with_reducible assumption
    | with_reducible refine .ite _ ?_ ?_
    | with_reducible refine State.emit_keeps ?_
    | with_reducible refine State.wireStart_keeps ?_
    | split
    | dsimp only

theorem State.laneTestWrite_keeps {m0 s0 s w i v} (h0 : Keeps m0 s0 s) (hw0 : within 0x200000000000000000000000000000000000000000000000000000000000207000000000008600000023003f05800000000000000000000000000400000000000001800000000000002000000001000000000001e81003812 m0 = true := by decide) :
    Keeps m0 s0 (State.laneTestWrite s w i v) := by
  refine h0.app hw0 ?_
  unfold State.laneTestWrite
  try dsimp only [State.setAll]
  repeat' first
    | with_reducible exact .refl _ _
    | with_reducible assumption
    | with_reducible refine .ite _ ?_ ?_
    | with_reducible refine State.laneStatus_keeps ?_
    | with_reducible refine State.logReg_keeps ?_
    | with_reducible refine State.clearChecker_keeps ?_
    | with_reducible refine State.laneGoes_keeps ?_
    | with_reducible refine State.endRetrain_keeps ?_
    | with_reducible refine State.setPd_keeps ?_
    | with_reducible refine State.testStart_keeps ?_
    | with_reducible refine State.set_keeps (by first | assumption | (dsimp only [bank, Reg.LANE_STATUS_LAST_STATUS, Reg.LANE_TEST_LOOP, Reg.LANE_TEST_RX_PAT, Reg.LANE_TEST_TEST_EN, Reg.LANE_TEST_TX_PAT]; decide)) ?_
    | with_reducible refine State.setAll_keeps (by (repeat' first | with_reducible assumption | with_reducible exact inMask_nil _ | (with_reducible refine inMask_cons ?_ ?_) | (with_reducible refine inMask_append ?_ ?_) | (with_reducible refine inMask_flatMap (fun _ => ?_)) | (with_reducible refine asBit ?_; dsimp only [Function.comp, bank, Reg.LANE_STATUS_LAST_STATUS, Reg.LANE_TEST_LOOP, Reg.LANE_TEST_RX_PAT, Reg.LANE_TEST_TEST_EN, Reg.LANE_TEST_TX_PAT]; decide) | (unfold fieldsOf) | (unfold laneTestFields) | (simp only [List.map_map, List.map_append, List.map_cons, List.map_nil]) | (with_reducible refine inMask_ite _ ?_ ?_) | (with_reducible refine inMask_map (fun _ => ?_)))) ?_
    | split
    | dsimp only

theorem execLaneTestWrite_keeps {w i value s t0} (e0 : execLaneTestWrite w i value s = .next t0) : Keeps 0x200000000000000000000000000000000000000000000000000000000000207000000000008600000023003f05800000000000000000000000000400000000000001800000000000002000000001000000000001e81003812 s t0 := by
  rw [← Host.Outcome.next.inj e0]
  try dsimp only
  repeat' first
    | with_reducible exact .refl _ _
    | with_reducible assumption
    | with_reducible refine State.laneTestWrite_keeps ?_
    | with_reducible refine State.byWriter_keeps (fun _ _ => ?_) ?_
    | split
    | dsimp only

theorem State.prbsSync_keeps {m0 s0 s i gained compared errors} (h0 : Keeps m0 s0 s) (hw0 : within 0x3007000000000000000000000000000000000000000000000000000000000000000000000000000000000000000002 m0 = true := by decide) :
    Keeps m0 s0 (State.prbsSync s i gained compared errors) := by
  refine h0.app hw0 ?_
  unfold State.prbsSync
  try dsimp only
  repeat' first
    | with_reducible exact .refl _ _
    | with_reducible assumption
    | with_reducible refine .ite _ ?_ ?_
    | with_reducible refine State.set_keeps (by first | assumption | (dsimp only [bank, Reg.LANE_BITS_CNT_HI, Reg.LANE_BITS_CNT_LO, Reg.LANE_ERR_CNT, Reg.LANE_LOCK_LOSS_CNT, Reg.LANE_TEST_RX_PAT, Reg.LANE_TEST_SYNC]; decide)) ?_
    | with_reducible refine State.bump_keeps (by first | assumption | (dsimp only [bank, Reg.LANE_BITS_CNT_HI, Reg.LANE_BITS_CNT_LO, Reg.LANE_ERR_CNT, Reg.LANE_LOCK_LOSS_CNT, Reg.LANE_TEST_RX_PAT, Reg.LANE_TEST_SYNC]; decide)) ?_
    | with_reducible refine State.count_keeps (by first | assumption | (dsimp only [bank, Reg.LANE_BITS_CNT_HI, Reg.LANE_BITS_CNT_LO, Reg.LANE_ERR_CNT, Reg.LANE_LOCK_LOSS_CNT, Reg.LANE_TEST_RX_PAT, Reg.LANE_TEST_SYNC]; decide)) ?_
    | with_reducible refine State.count64_keeps (by first | assumption | (dsimp only [bank, Reg.LANE_BITS_CNT_HI, Reg.LANE_BITS_CNT_LO, Reg.LANE_ERR_CNT, Reg.LANE_LOCK_LOSS_CNT, Reg.LANE_TEST_RX_PAT, Reg.LANE_TEST_SYNC]; decide)) (by first | assumption | (dsimp only [bank, Reg.LANE_BITS_CNT_HI, Reg.LANE_BITS_CNT_LO, Reg.LANE_ERR_CNT, Reg.LANE_LOCK_LOSS_CNT, Reg.LANE_TEST_RX_PAT, Reg.LANE_TEST_SYNC]; decide)) ?_
    | split
    | dsimp only

theorem execPrbsCheckerSync_keeps {i gained compared errors s t0} (e0 : execPrbsCheckerSync i gained compared errors s = .next t0) : Keeps 0x3007000000000000000000000000000000000000000000000000000000000000000000000000000000000000000002 s t0 := by
  rw [← Host.Outcome.next.inj e0]
  try dsimp only
  repeat' first
    | with_reducible exact .refl _ _
    | with_reducible assumption
    | with_reducible refine State.prbsSync_keeps ?_
    | split
    | dsimp only

theorem State.laneMacWrite_keeps {m0 s0 s w i high v} (h0 : Keeps m0 s0 s) (hw0 : within 0x600001000000000000000000000000000400000000000001800000000000000000000001000000000001e81000002 m0 = true := by decide) :
    Keeps m0 s0 (State.laneMacWrite s w i high v) := by
  refine h0.app hw0 ?_
  unfold State.laneMacWrite
  try dsimp only
  repeat' first
    | with_reducible exact .refl _ _
    | with_reducible assumption
    | with_reducible refine .ite _ ?_ ?_
    | with_reducible refine State.laneStatus_keeps ?_
    | with_reducible refine State.logReg_keeps ?_
    | with_reducible refine State.set_keeps (by first | assumption | (dsimp only [bank, Reg.LANE_MAC_HI, Reg.LANE_MAC_LO]; decide)) ?_
    | split
    | dsimp only

theorem execLaneMacWrite_keeps {w i high value s t0} (e0 : execLaneMacWrite w i high value s = .next t0) : Keeps 0x600001000000000000000000000000000400000000000001800000000000000000000001000000000001e81000002 s t0 := by
  rw [← Host.Outcome.next.inj e0]
  try dsimp only
  repeat' first
    | with_reducible exact .refl _ _
    | with_reducible assumption
    | with_reducible refine State.laneMacWrite_keeps ?_
    | with_reducible refine State.byWriter_keeps (fun _ _ => ?_) ?_
    | split
    | dsimp only

theorem actLaneRetrain_keeps {m0 s0 d t s} (h0 : Keeps m0 s0 s) (hw0 : within 0x200000000000000000000000000000000000000000000000000000000000207000000000008600000020000004800000000000000000000000000400000000000001800000000000002000000001000000000001e80002812 m0 = true := by decide) :
    Keeps m0 s0 (actLaneRetrain d t s) := by
  refine h0.app hw0 ?_
  unfold actLaneRetrain
  try dsimp only
  repeat' first
    | with_reducible exact .refl _ _
    | with_reducible assumption
    | with_reducible refine .ite _ ?_ ?_
    | with_reducible refine State.logDesc_keeps ?_
    | with_reducible refine State.complete_keeps ?_
    | with_reducible refine State.updLane_keeps ?_
    | with_reducible refine State.laneGoes_keeps ?_
    | fail_if_no_progress with_reducible refine Keeps.mk' ?_
    | split
    | dsimp only

theorem execLaneRetrain_keeps {d s t0} (e0 : execLaneRetrain d s = .next t0) : Keeps 0x200000000000000000000000000000000000000000000000000000000000207000000000008600000020000004800000000000000000000000000400000000000001800000000000002800000001a00000000001e8180281a s t0 := by
  rw [← Host.Outcome.next.inj e0]
  try dsimp only
  repeat' first
    | with_reducible exact .refl _ _
    | with_reducible assumption
    | with_reducible refine actLaneRetrain_keeps ?_
    | with_reducible refine State.runDesc_keeps (fun _ _ _ => ?_) ?_
    | split
    | dsimp only

theorem State.terminationSense_keeps {m0 s0 s i sensed} (h0 : Keeps m0 s0 s) (hw0 : within 0x200000000000000000000000000000000000000000000000000000000000207000000000008600000020000004800000000000000000000000000400000000000000000000000000000000000001000000000000680002812 m0 = true := by decide) :
    Keeps m0 s0 (State.terminationSense s i sensed) := by
  refine h0.app hw0 ?_
  unfold State.terminationSense
  try dsimp only
  repeat' first
    | with_reducible exact .refl _ _
    | with_reducible assumption
    | with_reducible refine .ite _ ?_ ?_
    | with_reducible refine State.updLane_keeps ?_
    | with_reducible refine State.laneTo_keeps ?_
    | fail_if_no_progress with_reducible refine Keeps.mk' ?_
    | split
    | dsimp only

theorem execTerminationSense_keeps {i sensed s t0} (e0 : execTerminationSense i sensed s = .next t0) : Keeps 0x200000000000000000000000000000000000000000000000000000000000207000000000008600000020000004800000000000000000000000000400000000000000000000000000000000000001000000000000680002812 s t0 := by
  rw [← Host.Outcome.next.inj e0]
  try dsimp only
  repeat' first
    | with_reducible exact .refl _ _
    | with_reducible assumption
    | with_reducible refine State.terminationSense_keeps ?_
    | split
    | dsimp only

theorem execAutonegComplete_keeps {i s t0} (e0 : execAutonegComplete i s = .next t0) : Keeps 0x200000000000000000000000000000000000000000000000000000000000207000000000008600000020000004800000000000000000000000000400000000000000000000000000000000000001000000000000680002812 s t0 := by
  rw [← Host.Outcome.next.inj e0]
  try dsimp only
  repeat' first
    | with_reducible exact .refl _ _
    | with_reducible assumption
    | with_reducible refine .ite _ ?_ ?_
    | with_reducible refine State.laneTo_keeps ?_
    | split
    | dsimp only

theorem State.trainingFrame_keeps {m0 s0 s i x} (h0 : Keeps m0 s0 s) (hw0 : within 0x380000000000000000000000000000000000000000000000000000000000000000000000000004000001800 m0 = true := by decide) :
    Keeps m0 s0 (State.trainingFrame s i x) := by
  refine h0.app hw0 ?_
  unfold State.trainingFrame
  try dsimp only [State.draw, State.setAll]
  repeat' first
    | with_reducible exact .refl _ _
    | with_reducible assumption
    | with_reducible refine .ite _ ?_ ?_
    | with_reducible refine State.setLane_keeps ?_
    | with_reducible refine State.sendTraining_keeps ?_
    | with_reducible refine State.set_keeps (by first | assumption | (dsimp only [bank, Reg.LANE_CFG_FFE_MODE, Reg.LANE_CFG_PRECODE_RX, Reg.LANE_FFE_MAIN, Reg.LANE_FFE_POST, Reg.LANE_FFE_PRE]; decide)) ?_
    | fail_if_no_progress with_reducible refine Keeps.mk' ?_
    | split
    | dsimp only

theorem execTrainingFrameRx_keeps {i x s t0} (e0 : execTrainingFrameRx i x s = .next t0) : Keeps 0x380000000000000000000000000000000000000000000000000000000000000000000000000004000001800 s t0 := by
  rw [← Host.Outcome.next.inj e0]
  try dsimp only
  repeat' first
    | with_reducible exact .refl _ _
    | with_reducible assumption
    | with_reducible refine State.trainingFrame_keeps ?_
    | split
    | dsimp only

theorem execBitLock_keeps {i s t0} (e0 : execBitLock i s = .next t0) : Keeps 0x800000000000000000000000000000000000000000000000000000000000000000000000000000000001000 s t0 := by
  rw [← Host.Outcome.next.inj e0]
  try dsimp only
  repeat' first
    | with_reducible exact .refl _ _
    | with_reducible assumption
    | with_reducible refine .ite _ ?_ ?_
    | with_reducible refine State.wireStart_keeps ?_
    | with_reducible refine State.set_keeps (by first | assumption | (dsimp only [bank, Reg.LANE_STATUS_STATE]; decide)) ?_
    | split
    | dsimp only

theorem execAmLock_keeps {i s t0} (e0 : execAmLock i s = .next t0) : Keeps 0x1000000000000000000000000000000000000000000000000000000000000000000000fec0a600000000000000800000000000000000000000000400000000000000000000000000000000000001000000000001680000812 s t0 := by
  rw [← Host.Outcome.next.inj e0]
  try dsimp only
  repeat' first
    | with_reducible exact .refl _ _
    | with_reducible assumption
    | with_reducible refine .ite _ ?_ ?_
    | with_reducible refine State.laneUp_keeps ?_
    | split
    | dsimp only

theorem execTrainTimeout_keeps {i s t0} (e0 : execTrainTimeout i s = .next t0) : Keeps 0x200000000000000000000000000000000000000000000000000000000000207000000000008600000020008004800000000000000000000000000400000000000000000000000000000000000001000000000000680002812 s t0 := by
  rw [← Host.Outcome.next.inj e0]
  try dsimp only
  repeat' first
    | with_reducible exact .refl _ _
    | with_reducible assumption
    | with_reducible refine .ite _ ?_ ?_
    | with_reducible refine State.trainFailed_keeps ?_
    | split
    | dsimp only

theorem execLockTimeout_keeps {i s t0} (e0 : execLockTimeout i s = .next t0) : Keeps 0x200000000000000000000000000000000000000000000000000000000000207000000000008600000020008004800000000000000000000000000400000000000000000000000000000000000001000000000000680002812 s t0 := by
  rw [← Host.Outcome.next.inj e0]
  try dsimp only
  repeat' first
    | with_reducible exact .refl _ _
    | with_reducible assumption
    | with_reducible refine .ite _ ?_ ?_
    | with_reducible refine State.trainFailed_keeps ?_
    | split
    | dsimp only

theorem execTrainRetry_keeps {i s t0} (e0 : execTrainRetry i s = .next t0) : Keeps 0x800000000000000000000000000000000000000000000000000000002000000000000000000000000000800 s t0 := by
  rw [← Host.Outcome.next.inj e0]
  try dsimp only
  repeat' first
    | with_reducible exact .refl _ _
    | with_reducible assumption
    | with_reducible refine .ite _ ?_ ?_
    | with_reducible refine State.updLane_keeps ?_
    | with_reducible refine State.laneStart_keeps ?_
    | fail_if_no_progress with_reducible refine Keeps.mk' ?_
    | split
    | dsimp only

theorem execFarEndLoss_keeps {i s t0} (e0 : execFarEndLoss i s = .next t0) : Keeps 0x200000000000000000000000000000000000000000000000000000000000207000000000008600000020004004800000000000000000000000000400000000000000000000000000002000000001000000000000680002812 s t0 := by
  rw [← Host.Outcome.next.inj e0]
  try dsimp only
  repeat' first
    | with_reducible exact .refl _ _
    | with_reducible assumption
    | with_reducible refine .ite _ ?_ ?_
    | with_reducible refine State.raise_keeps ?_
    | with_reducible refine State.laneGoes_keeps ?_
    | with_reducible refine State.bump_keeps (by first | assumption | (dsimp only [bank, Reg.LANE_LOCK_LOSS_CNT]; decide)) ?_
    | split
    | dsimp only

theorem execEthLinkFault_keeps {i s t0} (e0 : execEthLinkFault i s = .next t0) : Keeps 0x200000000000000000000000000000000000000000000000000000000000207000000000008600000020004004800000000000000000000000000400000000000000000000000000002000000001000000000000680002812 s t0 := by
  rw [← Host.Outcome.next.inj e0]
  try dsimp only
  repeat' first
    | with_reducible exact .refl _ _
    | with_reducible assumption
    | with_reducible refine .ite _ ?_ ?_
    | with_reducible refine State.raise_keeps ?_
    | with_reducible refine State.laneGoes_keeps ?_
    | with_reducible refine State.bump_keeps (by first | assumption | (dsimp only [bank, Reg.LANE_LOCK_LOSS_CNT]; decide)) ?_
    | split
    | dsimp only

theorem execSlotLockTimeout_keeps {i s t0} (e0 : execSlotLockTimeout i s = .next t0) : Keeps 0x200000000000000000000000000000000000000000000000000000000000207000000000008600000020000004800000000000000000000000000400000000000000000000000000002000000001000000000000680002812 s t0 := by
  rw [← Host.Outcome.next.inj e0]
  try dsimp only
  repeat' first
    | with_reducible exact .refl _ _
    | with_reducible assumption
    | with_reducible refine .ite _ ?_ ?_
    | with_reducible refine State.raise_keeps ?_
    | with_reducible refine State.laneGoes_keeps ?_
    | split
    | dsimp only

theorem State.refclkLoss_keeps {m0 s0 s q} (h0 : Keeps m0 s0 s) (hw0 : within 0x200000000000000000000000000000000000000000000000000000000000207000000000008600000020000004800c00000000000000000000000400000000000000000000000000000000000001000000000000680002812 m0 = true := by decide) :
    Keeps m0 s0 (State.refclkLoss s q) := by
  refine h0.app hw0 ?_
  unfold State.refclkLoss
  try dsimp only
  repeat' first
    | with_reducible exact .refl _ _
    | with_reducible assumption
    | with_reducible refine State.laneTo_keeps ?_
    | with_reducible refine State.endRetrain_keeps ?_
    | with_reducible refine State.raise_keeps ?_
    | with_reducible refine State.set_keeps (by first | assumption | (dsimp only [bank, Reg.LANE_REFSTAT_LOST, Reg.LANE_REFSTAT_OK]; decide)) ?_
    | with_reducible refine State.flag_keeps (by first | assumption | (dsimp only [bank, Reg.LANE_REFSTAT_LOST, Reg.LANE_REFSTAT_OK]; decide)) ?_
    | with_reducible refine .foldl _ _ ?_ (fun _ _ _ => ?_)
    | split
    | dsimp only

theorem execRefclkLoss_keeps {q s t0} (e0 : execRefclkLoss q s = .next t0) : Keeps 0x200000000000000000000000000000000000000000000000000000000000207000000000008600000020000004800c00000000000000000000000400000000000000000000000000000000000001000000000000680002812 s t0 := by
  rw [← Host.Outcome.next.inj e0]
  try dsimp only
  repeat' first
    | with_reducible exact .refl _ _
    | with_reducible assumption
    | with_reducible refine State.refclkLoss_keeps ?_
    | split
    | dsimp only

theorem State.refclkReturn_keeps {m0 s0 s q} (h0 : Keeps m0 s0 s) (hw0 : within 0x3003000800800000000000000000000000000000000000000000000000000002000000000000000000000000001800 m0 = true := by decide) :
    Keeps m0 s0 (State.refclkReturn s q) := by
  refine h0.app hw0 ?_
  unfold State.refclkReturn
  try dsimp only
  repeat' first
    | with_reducible exact .refl _ _
    | with_reducible assumption
    | with_reducible refine .ite _ ?_ ?_
    | with_reducible refine State.clearChecker_keeps ?_
    | with_reducible refine State.testStart_keeps ?_
    | with_reducible refine State.laneStart_keeps ?_
    | with_reducible refine State.set_keeps (by first | assumption | (dsimp only [bank, Reg.LANE_REFSTAT_OK, Reg.LANE_STATUS_STATE, Reg.LANE_TEST_TEST_EN]; decide)) ?_
    | with_reducible refine .foldl _ _ ?_ (fun _ _ _ => ?_)
    | split
    | dsimp only

theorem execRefclkReturn_keeps {q s t0} (e0 : execRefclkReturn q s = .next t0) : Keeps 0x3003000800800000000000000000000000000000000000000000000000000002000000000000000000000000001800 s t0 := by
  rw [← Host.Outcome.next.inj e0]
  try dsimp only
  repeat' first
    | with_reducible exact .refl _ _
    | with_reducible assumption
    | with_reducible refine State.refclkReturn_keeps ?_
    | split
    | dsimp only

theorem State.aknViolation_keeps {m0 s0 s i cnt c} (hf : m0.testBit (64 + cnt.id % 1024) = true) (h0 : Keeps m0 s0 s)
    (hw0 : within 0x400000000000001800000000000000000000001000000000001e80000002 m0 = true := by decide) : Keeps m0 s0 (State.aknViolation s i cnt c) := by
  have k : ∀ a, within a 0x400000000000001800000000000000000000001000000000001e80000002 = true → within a m0 = true := fun _ h => within_trans h hw0
  unfold State.aknViolation
  dsimp only
  have h1 := State.logUnit_keeps (origin := originHw) (oidx := 0) (code := c) (block := blockAkn) (index := i)
    (State.bump_keeps hf h0 (k _ (by decide))) (k _ (by decide))
  exact .ite _ h1 (State.raiseLimited_keeps h1 (k _ (by decide)))

theorem State.enterCap_keeps {m0 s0 s i} (h0 : Keeps m0 s0 s) (hw0 : within 0x20000000800000000000000000000000000000000000000000000000000000000000000000000000000000000001800 m0 = true := by decide) :
    Keeps m0 s0 (State.enterCap s i) := by
  refine h0.app hw0 ?_
  unfold State.enterCap
  try dsimp only [State.setAll]
  repeat' first
    | with_reducible exact .refl _ _
    | with_reducible assumption
    | with_reducible refine .ite _ ?_ ?_
    | with_reducible refine State.updLane_keeps ?_
    | with_reducible refine State.transmit_keeps ?_
    | with_reducible refine State.set_keeps (by first | assumption | (dsimp only [bank, Reg.AKN_CTRL_VERSIONS, Reg.AKN_STATUS_VERSION, Reg.LANE_STATUS_STATE]; decide)) ?_
    | fail_if_no_progress with_reducible refine Keeps.mk' ?_
    | split
    | dsimp only

theorem State.slotLockLost_keeps {m0 s0 s i} (h0 : Keeps m0 s0 s) (hw0 : within 0x200000000000000000000000000000000000000000000000000000000000207000000000008600000020004004800000000000000000000000000400000000000000000000000000000000000001000000000000680002812 m0 = true := by decide) :
    Keeps m0 s0 (State.slotLockLost s i) := by
  refine h0.app hw0 ?_
  unfold State.slotLockLost
  try dsimp only
  repeat' first
    | with_reducible exact .refl _ _
    | with_reducible assumption
    | with_reducible refine State.laneTo_keeps ?_
    | with_reducible refine State.updLane_keeps ?_
    | with_reducible refine State.bump_keeps (by first | assumption | (dsimp only [bank, Reg.LANE_LOCK_LOSS_CNT]; decide)) ?_
    | fail_if_no_progress with_reducible refine Keeps.mk' ?_
    | split
    | dsimp only

theorem State.sendHeld_keeps {m0 s0 i n s} (h0 : Keeps m0 s0 s) (hw0 : within 0x1800 m0 = true := by decide) :
    Keeps m0 s0 (State.sendHeld i n s) := by
  refine h0.app hw0 ?_
  clear h0 hw0
  induction n generalizing s with
  | zero => exact .refl _ _
  | succ n ih =>
    unfold State.sendHeld
    dsimp only
    split
    · exact .refl _ _
    · refine .ite _ ?_ (.refl _ _)
      refine Keeps.trans ?_ (ih (s := _))
      repeat' first
        | with_reducible exact .refl _ _
        | with_reducible refine State.setLane_keeps ?_
        | with_reducible refine State.sendLink_keeps ?_

theorem State.sendCtrl_keeps {m0 s0 s i m} (h0 : Keeps m0 s0 s) (hw0 : within 0x1800 m0 = true := by decide) :
    Keeps m0 s0 (State.sendCtrl s i m) := by
  refine h0.app hw0 ?_
  unfold State.sendCtrl
  try dsimp only
  repeat' first
    | with_reducible exact .refl _ _
    | with_reducible assumption
    | with_reducible refine .ite _ ?_ ?_
    | with_reducible refine State.sendHeld_keeps ?_
    | with_reducible refine State.updLane_keeps ?_
    | fail_if_no_progress with_reducible refine Keeps.mk' ?_
    | split
    | dsimp only

theorem State.takeCredit_keeps {m0 s0 s i cls n} (h0 : Keeps m0 s0 s) (hw0 : within 0x1000000000000000000000000000000000000400000000000001800000000000000000000001000000000001e80001802 m0 = true := by decide) :
    Keeps m0 s0 (State.takeCredit s i cls n) := by
  refine h0.app hw0 ?_
  unfold State.takeCredit
  try dsimp only
  repeat' first
    | with_reducible exact .refl _ _
    | with_reducible assumption
    | with_reducible refine .ite _ ?_ ?_
    | with_reducible refine State.sendHeld_keeps ?_
    | with_reducible refine State.setLane_keeps ?_
    | with_reducible refine State.aknViolation_keeps (by first | assumption | (dsimp only [bank, Reg.AKN_CREDIT_ERR_CNT]; decide)) ?_
    | fail_if_no_progress with_reducible refine Keeps.mk' ?_
    | split
    | dsimp only

theorem State.headerMessage_keeps {m0 s0 s i h} (h0 : Keeps m0 s0 s) (hw0 : within 0x1c00000000000000000000000000000000000400000000000001800000000000000000000001000000000001e80001802 m0 = true := by decide) :
    Keeps m0 s0 (State.headerMessage s i h) := by
  refine h0.app hw0 ?_
  unfold State.headerMessage
  try dsimp only
  repeat' first
    | with_reducible exact .refl _ _
    | with_reducible assumption
    | with_reducible refine .ite _ ?_ ?_
    | with_reducible refine State.takeCredit_keeps ?_
    | with_reducible refine State.transmit_keeps ?_
    | with_reducible refine State.aknViolation_keeps (by first | assumption | (dsimp only [bank, Reg.AKN_CREDIT_ERR_CNT, Reg.AKN_DCRC_ERR_CNT, Reg.AKN_PROTO_CNT, Reg.AKN_STATUS_VERSION]; decide)) ?_
    | split
    | dsimp only

theorem State.headerSlot_keeps {m0 s0 s i h} (h0 : Keeps m0 s0 s) (hw0 : within 0x200000000000000000000000000000000000000000000000000000000000207000000000008600001e20004004800000000000000000000000000400000000000001800000000000000000000001000000000001e80003812 m0 = true := by decide) :
    Keeps m0 s0 (State.headerSlot s i h) := by
  refine h0.app hw0 ?_
  unfold State.headerSlot
  try dsimp only
  repeat' first
    | with_reducible exact .refl _ _
    | with_reducible assumption
    | with_reducible refine .ite _ ?_ ?_
    | with_reducible refine State.setLane_keeps ?_
    | with_reducible refine State.slotLockLost_keeps ?_
    | with_reducible refine State.enterCap_keeps ?_
    | with_reducible refine State.headerMessage_keeps ?_
    | with_reducible refine State.aknViolation_keeps (by first | assumption | (dsimp only [bank, Reg.AKN_HCRC_ERR_CNT]; decide)) ?_
    | fail_if_no_progress with_reducible refine Keeps.mk' ?_
    | split
    | dsimp only

theorem execHeaderSlotRx_keeps {i h s t0} (e0 : execHeaderSlotRx i h s = .next t0) : Keeps 0x200000000000000000000000000000000000000000000000000000000000207000000000008600001e20004004800000000000000000000000000400000000000001800000000000000000000001000000000001e80003812 s t0 := by
  rw [← Host.Outcome.next.inj e0]
  try dsimp only
  repeat' first
    | with_reducible exact .refl _ _
    | with_reducible assumption
    | with_reducible refine State.headerSlot_keeps ?_
    | split
    | dsimp only

theorem State.setVersion_keeps {m0 s0 s i v} (h0 : Keeps m0 s0 s) (hw0 : within 0x20000000000000000000000000000000000000000000000000000000000000000000000000000000000000000001000 m0 = true := by decide) :
    Keeps m0 s0 (State.setVersion s i v) := by
  refine h0.app hw0 ?_
  unfold State.setVersion
  try dsimp only
  repeat' first
    | with_reducible exact .refl _ _
    | with_reducible assumption
    | with_reducible refine State.transmit_keeps ?_
    | with_reducible refine State.set_keeps (by first | assumption | (dsimp only [bank, Reg.AKN_STATUS_VERSION]; decide)) ?_
    | split
    | dsimp only

theorem State.capStays_keeps {m0 s0 s i c} (h0 : Keeps m0 s0 s) (hw0 : within 0x400000000000000000000000000000000000001000000000000680000002 m0 = true := by decide) :
    Keeps m0 s0 (State.capStays s i c) := by
  refine h0.app hw0 ?_
  unfold State.capStays
  try dsimp only
  repeat' first
    | with_reducible exact .refl _ _
    | with_reducible assumption
    | with_reducible refine State.raise_keeps ?_
    | split
    | dsimp only

theorem State.takeOffer_keeps {m0 s0 s i o} (h0 : Keeps m0 s0 s) (hw0 : within 0x140000000000000000000000000000000000000000000000000000000000000000000000000000000000000000000800 m0 = true := by decide) :
    Keeps m0 s0 (State.takeOffer s i o) := by
  refine h0.app hw0 ?_
  unfold State.takeOffer
  try dsimp only [State.setAll]
  repeat' first
    | with_reducible exact .refl _ _
    | with_reducible assumption
    | with_reducible refine State.updLane_keeps ?_
    | with_reducible refine State.set_keeps (by first | assumption | (dsimp only [bank, Reg.AKN_STATUS_PEER_PART, Reg.AKN_STATUS_PEER_ROLE]; decide)) ?_
    | fail_if_no_progress with_reducible refine Keeps.mk' ?_
    | split
    | dsimp only

theorem State.chainDone_keeps {m0 s0 s i} (h0 : Keeps m0 s0 s) (hw0 : within 0x19000000000000000000000000000000000000000000000000000000000000000000000fec0a600004000000000800000000000000000000000000400000000000000000000000000000000000001000000000001680001812 m0 = true := by decide) :
    Keeps m0 s0 (State.chainDone s i) := by
  refine h0.app hw0 ?_
  unfold State.chainDone
  try dsimp only [State.setAll]
  repeat' first
    | with_reducible exact .refl _ _
    | with_reducible assumption
    | with_reducible refine .ite _ ?_ ?_
    | with_reducible refine State.sendModes_keeps ?_
    | with_reducible refine State.laneUp_keeps ?_
    | with_reducible refine State.set_keeps (by first | assumption | (dsimp only [bank, Reg.AKN_LAT_PS, Reg.AKN_STATUS_TILES_FOUND, Reg.AKN_STATUS_VERSION, Reg.SCN_LANE_STATUS_LAT_MAX_NS, Reg.SCN_LANE_STATUS_TILES_FOUND]; decide)) ?_
    | with_reducible refine State.setAll_keeps (by (repeat' first | with_reducible assumption | with_reducible exact inMask_nil _ | (with_reducible refine inMask_cons ?_ ?_) | (with_reducible refine inMask_append ?_ ?_) | (with_reducible refine inMask_flatMap (fun _ => ?_)) | (with_reducible refine asBit ?_; dsimp only [Function.comp, bank, Reg.AKN_LAT_PS, Reg.AKN_STATUS_TILES_FOUND, Reg.AKN_STATUS_VERSION, Reg.SCN_LANE_STATUS_LAT_MAX_NS, Reg.SCN_LANE_STATUS_TILES_FOUND]; decide) | (simp only [List.map_map, List.map_append, List.map_cons, List.map_nil]) | (with_reducible refine inMask_ite _ ?_ ?_) | (with_reducible refine inMask_map (fun _ => ?_)))) ?_
    | with_reducible refine .foldl _ _ ?_ (fun _ _ _ => ?_)
    | split
    | dsimp only

theorem State.capOffer_keeps {m0 s0 s i tile o} (h0 : Keeps m0 s0 s) (hw0 : within 0x19000000000000000000000000000000000000000000000000000000000000000000000fec0a600004960000000800000000000000000000000000400000000000001800000000000000000000001000000000001e80001812 m0 = true := by decide) :
    Keeps m0 s0 (State.capOffer s i tile o) := by
  refine h0.app hw0 ?_
  unfold State.capOffer
  try dsimp only
  repeat' first
    | with_reducible exact .refl _ _
    | with_reducible assumption
    | with_reducible refine .ite _ ?_ ?_
    | with_reducible refine State.capStays_keeps ?_
    | with_reducible refine State.takeOffer_keeps ?_
    | with_reducible refine State.setVersion_keeps ?_
    | with_reducible refine State.laneUp_keeps ?_
    | with_reducible refine State.updLane_keeps ?_
    | with_reducible refine State.transmit_keeps ?_
    | with_reducible refine State.chainDone_keeps ?_
    | with_reducible refine State.aknViolation_keeps (by first | assumption | (dsimp only [bank, Reg.AKN_CTRL_VERSIONS, Reg.AKN_PROTO_CNT]; decide)) ?_
    | fail_if_no_progress with_reducible refine Keeps.mk' ?_
    | split
    | dsimp only

theorem execCapOfferRx_keeps {i tile o s t0} (e0 : execCapOfferRx i tile o s = .next t0) : Keeps 0x19000000000000000000000000000000000000000000000000000000000000000000000fec0a600004960000000800000000000000000000000000400000000000001800000000000000000000001000000000001e80001812 s t0 := by
  rw [← Host.Outcome.next.inj e0]
  try dsimp only
  repeat' first
    | with_reducible exact .refl _ _
    | with_reducible assumption
    | with_reducible refine State.capOffer_keeps ?_
    | split
    | dsimp only

theorem State.sendEcho_keeps {m0 s0 s i e} (h0 : Keeps m0 s0 s) (hw0 : within 0x1800 m0 = true := by decide) :
    Keeps m0 s0 (State.sendEcho s i e) := by
  refine h0.app hw0 ?_
  unfold State.sendEcho
  try dsimp only
  repeat' first
    | with_reducible exact .refl _ _
    | with_reducible assumption
    | with_reducible refine State.updLane_keeps ?_
    | with_reducible refine State.transmit_keeps ?_
    | fail_if_no_progress with_reducible refine Keeps.mk' ?_
    | split
    | dsimp only

theorem State.capEnum_keeps {m0 s0 s i count v} (h0 : Keeps m0 s0 s) (hw0 : within 0x19000000000000000000000000000000000000000000000000000000000000000000000fec0a6000048a0000000800000000000000000000000000400000000000001800000000000000000000001000000000001e80001812 m0 = true := by decide) :
    Keeps m0 s0 (State.capEnum s i count v) := by
  refine h0.app hw0 ?_
  unfold State.capEnum
  try dsimp only [State.setAll]
  repeat' first
    | with_reducible exact .refl _ _
    | with_reducible assumption
    | with_reducible refine .ite _ ?_ ?_
    | with_reducible refine State.offer_keeps ?_
    | with_reducible refine State.capStays_keeps ?_
    | with_reducible refine State.setVersion_keeps ?_
    | with_reducible refine State.updLane_keeps ?_
    | with_reducible refine State.chainDone_keeps ?_
    | with_reducible refine State.sendEcho_keeps ?_
    | with_reducible refine State.set_keeps (by first | assumption | (dsimp only [bank, Reg.AKN_CTRL_VERSIONS, Reg.AKN_PROTO_CNT, Reg.AKN_STATUS_TILES_FOUND, Reg.AKN_STATUS_VERSION, Reg.SCN_LANE_STATUS_TILES_FOUND]; decide)) ?_
    | with_reducible refine State.aknViolation_keeps (by first | assumption | (dsimp only [bank, Reg.AKN_CTRL_VERSIONS, Reg.AKN_PROTO_CNT, Reg.AKN_STATUS_TILES_FOUND, Reg.AKN_STATUS_VERSION, Reg.SCN_LANE_STATUS_TILES_FOUND]; decide)) ?_
    | fail_if_no_progress with_reducible refine Keeps.mk' ?_
    | split
    | dsimp only

theorem execCapEnumRx_keeps {i count v s t0} (e0 : execCapEnumRx i count v s = .next t0) : Keeps 0x19000000000000000000000000000000000000000000000000000000000000000000000fec0a6000048a0000000800000000000000000000000000400000000000001800000000000000000000001000000000001e80001812 s t0 := by
  rw [← Host.Outcome.next.inj e0]
  try dsimp only
  repeat' first
    | with_reducible exact .refl _ _
    | with_reducible assumption
    | with_reducible refine State.capEnum_keeps ?_
    | split
    | dsimp only

theorem execCapRetry_keeps {i s t0} (e0 : execCapRetry i s = .next t0) : Keeps 0x20000000800000000000000000000000000000000000000000000000000000000000000000000000000000000001800 s t0 := by
  rw [← Host.Outcome.next.inj e0]
  try dsimp only
  repeat' first
    | with_reducible exact .refl _ _
    | with_reducible assumption
    | with_reducible refine .ite _ ?_ ?_
    | with_reducible refine State.enterCap_keeps ?_
    | split
    | dsimp only

theorem State.echoResp_keeps {m0 s0 s i tile trip} (h0 : Keeps m0 s0 s) (hw0 : within 0x19000000000000000000000000000000000000000000000000000000000000000000000fec0a600004000000000800000000000000000000000000400000000000000000000000000000000000001000000000001680001812 m0 = true := by decide) :
    Keeps m0 s0 (State.echoResp s i tile trip) := by
  refine h0.app hw0 ?_
  unfold State.echoResp
  try dsimp only
  repeat' first
    | with_reducible exact .refl _ _
    | with_reducible assumption
    | with_reducible refine .ite _ ?_ ?_
    | with_reducible refine State.sendEcho_keeps ?_
    | with_reducible refine State.setLane_keeps ?_
    | with_reducible refine State.chainDone_keeps ?_
    | fail_if_no_progress with_reducible refine Keeps.mk' ?_
    | split
    | dsimp only

theorem execEchoRespRx_keeps {i tile trip s t0} (e0 : execEchoRespRx i tile trip s = .next t0) : Keeps 0x19000000000000000000000000000000000000000000000000000000000000000000000fec0a600004000000000800000000000000000000000000400000000000000000000000000000000000001000000000001680001812 s t0 := by
  rw [← Host.Outcome.next.inj e0]
  try dsimp only
  repeat' first
    | with_reducible exact .refl _ _
    | with_reducible assumption
    | with_reducible refine State.echoResp_keeps ?_
    | split
    | dsimp only

theorem State.echoTimeout_keeps {m0 s0 s i} (h0 : Keeps m0 s0 s) (hw0 : within 0x200000000000000000000000000000000000000000000000000000000000207000000000008600000020000004800000000000000000000000000400000000000000000000000000002000000001000000000000680003812 m0 = true := by decide) :
    Keeps m0 s0 (State.echoTimeout s i) := by
  refine h0.app hw0 ?_
  unfold State.echoTimeout
  try dsimp only
  repeat' first
    | with_reducible exact .refl _ _
    | with_reducible assumption
    | with_reducible refine .ite _ ?_ ?_
    | with_reducible refine State.sendEcho_keeps ?_
    | with_reducible refine State.raise_keeps ?_
    | with_reducible refine State.laneGoes_keeps ?_
    | fail_if_no_progress with_reducible refine Keeps.mk' ?_
    | split
    | dsimp only

theorem execEchoTimeout_keeps {i s t0} (e0 : execEchoTimeout i s = .next t0) : Keeps 0x200000000000000000000000000000000000000000000000000000000000207000000000008600000020000004800000000000000000000000000400000000000000000000000000002000000001000000000000680003812 s t0 := by
  rw [← Host.Outcome.next.inj e0]
  try dsimp only
  repeat' first
    | with_reducible exact .refl _ _
    | with_reducible assumption
    | with_reducible refine State.echoTimeout_keeps ?_
    | split
    | dsimp only

theorem actAknSend_keeps {m0 s0 d t s} (h0 : Keeps m0 s0 s) (hw0 : within 0x400000000000001800000000000000000000001000000000001e80001802 m0 = true := by decide) :
    Keeps m0 s0 (actAknSend d t s) := by
  refine h0.app hw0 ?_
  unfold actAknSend
  try dsimp only
  repeat' first
    | with_reducible exact .refl _ _
    | with_reducible assumption
    | with_reducible refine .ite _ ?_ ?_
    | with_reducible refine State.logDesc_keeps ?_
    | with_reducible refine State.complete_keeps ?_
    | with_reducible refine State.setLane_keeps ?_
    | with_reducible refine State.sendCtrl_keeps ?_
    | fail_if_no_progress with_reducible refine Keeps.mk' ?_
    | split
    | dsimp only

theorem execAknSend_keeps {d s t0} (e0 : execAknSend d s = .next t0) : Keeps 0x400000000000001800000000000000800000001a00000000001e8180180a s t0 := by
  rw [← Host.Outcome.next.inj e0]
  try dsimp only
  repeat' first
    | with_reducible exact .refl _ _
    | with_reducible assumption
    | with_reducible refine actAknSend_keeps ?_
    | with_reducible refine State.runDesc_keeps (fun _ _ _ => ?_) ?_
    | split
    | dsimp only

theorem State.ctrlResp_keeps {m0 s0 s i tag value status} (h0 : Keeps m0 s0 s) (hw0 : within 0x800000000000000000000000000000000000400000000000001800000000000000000000001000000000001e80000802 m0 = true := by decide) :
    Keeps m0 s0 (State.ctrlResp s i tag value status) := by
  refine h0.app hw0 ?_
  unfold State.ctrlResp
  try dsimp only
  repeat' first
    | with_reducible exact .refl _ _
    | with_reducible assumption
    | with_reducible refine .ite _ ?_ ?_
    | with_reducible refine State.updLane_keeps ?_
    | with_reducible refine State.complete_keeps ?_
    | with_reducible refine State.aknViolation_keeps (by first | assumption | (dsimp only [bank, Reg.AKN_PROTO_CNT]; decide)) ?_
    | fail_if_no_progress with_reducible refine Keeps.mk' ?_
    | split
    | dsimp only

theorem execCtrlRespRx_keeps {i tag value status s t0} (e0 : execCtrlRespRx i tag value status s = .next t0) : Keeps 0x800000000000000000000000000000000000400000000000001800000000000000000000001000000000001e80000802 s t0 := by
  rw [← Host.Outcome.next.inj e0]
  try dsimp only
  repeat' first
    | with_reducible exact .refl _ _
    | with_reducible assumption
    | with_reducible refine State.ctrlResp_keeps ?_
    | split
    | dsimp only

theorem execCtrlResponseTimeout_keeps {i tag s t0} (e0 : execCtrlResponseTimeout i tag s = .next t0) : Keeps 0x680000800 s t0 := by
  rw [← Host.Outcome.next.inj e0]
  try dsimp only
  repeat' first
    | with_reducible exact .refl _ _
    | with_reducible assumption
    | with_reducible refine State.updLane_keeps ?_
    | with_reducible refine State.complete_keeps ?_
    | fail_if_no_progress with_reducible refine Keeps.mk' ?_
    | split
    | dsimp only

theorem execArpRequestRx_keeps {i q s t0} (e0 : execArpRequestRx i q s = .next t0) : Keeps 0x4fec0a600000000000000000000000000000000000000000400000000000000000000000000000000000001000000000001680000012 s t0 := by
  rw [← Host.Outcome.next.inj e0]
  try dsimp only
  repeat' first
    | with_reducible exact .refl _ _
    | with_reducible assumption
    | with_reducible refine .ite _ ?_ ?_
    | with_reducible refine State.originate_keeps ?_
    | with_reducible refine State.bump_keeps (by first | assumption | (dsimp only [bank, Reg.ING_LANE_UNMATCHED_CNT, Reg.LANE_IPV4]; decide)) ?_
    | split
    | dsimp only

theorem execPauseFrameRx_keeps {i s t0} (e0 : execPauseFrameRx i s = .next t0) : Keeps 0x80000000000000000000000000000000000000000000000000000000000000000000000000000000000000000002 s t0 := by
  rw [← Host.Outcome.next.inj e0]
  try dsimp only
  repeat' first
    | with_reducible exact .refl _ _
    | with_reducible assumption
    | with_reducible refine .ite _ ?_ ?_
    | with_reducible refine State.bump_keeps (by first | assumption | (dsimp only [bank, Reg.LANE_PAUSE_CNT]; decide)) ?_
    | split
    | dsimp only

theorem execBadFcsFrameRx_keeps {i s t0} (e0 : execBadFcsFrameRx i s = .next t0) : Keeps 0x40000000000000000000000000000000000000000000000000000000000000000000000000000000000000000002 s t0 := by
  rw [← Host.Outcome.next.inj e0]
  try dsimp only
  repeat' first
    | with_reducible exact .refl _ _
    | with_reducible assumption
    | with_reducible refine .ite _ ?_ ?_
    | with_reducible refine State.bump_keeps (by first | assumption | (dsimp only [bank, Reg.LANE_FCS_ERR_CNT]; decide)) ?_
    | split
    | dsimp only

end Sys2Proof.Machine
end

