-- ==== Sys2Proof/Laws/KeepsHost.lean ====
section
/-! SUPPORT. What each operation of Machine/Host.lean may change (Laws/Keeps.lean). -/

namespace Sys2Proof.Machine

set_option Elab.async false
set_option linter.unusedTactic false
set_option linter.unusedSimpArgs false
set_option linter.unreachableTactic false

theorem State.openFn_keeps {m0 s0 s f minor} (h0 : Keeps m0 s0 s) (hw0 : within 0x100002e0000000000a0000000 m0 = true := by decide) :
    Keeps m0 s0 (State.openFn s f minor) := by
  refine h0.app hw0 ?_
  unfold State.openFn
  try dsimp only [State.setAll]
  repeat' first
    | with_reducible exact .refl _ _
    | with_reducible assumption
    | with_reducible refine State.putRing_keeps ?_
    | with_reducible refine State.set_keeps (by first | assumption | (dsimp only [bank, Reg.HIF_ADMIN_BASE_HI, Reg.HIF_ADMIN_BASE_LO, Reg.HIF_ADMIN_CFG_CQ_LOG2, Reg.HIF_ADMIN_CFG_SQ_LOG2, Reg.HIF_ADMIN_CFG_VECTOR, Reg.HIF_FN_LAST_STATUS, Reg.HIF_FN_STATUS_ABI_MAJOR, Reg.HIF_FN_STATUS_ABI_MINOR, Reg.HIF_FN_STATUS_OPENED]; decide)) ?_
    | fail_if_no_progress with_reducible refine Keeps.mk' ?_
    | split
    | dsimp only

theorem State.functionOpen_keeps {m0 s0 s f major minor close} (h0 : Keeps m0 s0 s) (hw0 : within 0x100002f8000000000a0000000 m0 = true := by decide) :
    Keeps m0 s0 (State.functionOpen s f major minor close) := by
  refine h0.app hw0 ?_
  unfold State.functionOpen
  try dsimp only [State.setAll]
  repeat' first
    | with_reducible exact .refl _ _
    | with_reducible assumption
    | with_reducible refine .ite _ ?_ ?_
    | with_reducible refine State.openFn_keeps ?_
    | with_reducible refine State.set_keeps (by first | assumption | (dsimp only [bank, Reg.HIF_FN_LAST_STATUS, Reg.HIF_FN_OPEN_HOST_MAJOR, Reg.HIF_FN_OPEN_HOST_MINOR]; decide)) ?_
    | fail_if_no_progress with_reducible refine Keeps.mk' ?_
    | split
    | dsimp only

theorem execFunctionOpen_keeps {f major minor close s t0} (e0 : execFunctionOpen f major minor close s = .next t0) : Keeps 0x40000000000000180000000000000000000100102f800000001ea1000002 s t0 := by
  rw [← Host.Outcome.next.inj e0]
  try dsimp only
  repeat' first
    | with_reducible exact .refl _ _
    | with_reducible assumption
    | with_reducible refine State.functionOpen_keeps ?_
    | with_reducible refine State.logReg_keeps ?_
    | with_reducible refine State.byWriter_keeps (fun _ _ => ?_) ?_
    | split
    | dsimp only

theorem State.closeFn_keeps {m0 s0 s f} (h0 : Keeps m0 s0 s) (hw0 : within 0x60000000004a0000000 m0 = true := by decide) :
    Keeps m0 s0 (State.closeFn s f) := by
  refine h0.app hw0 ?_
  unfold State.closeFn
  try dsimp only [State.setAll]
  repeat' first
    | with_reducible exact .refl _ _
    | with_reducible assumption
    | with_reducible refine State.set_keeps (by first | assumption | (dsimp only [bank, Reg.HIF_FN_STATUS_ABI_MAJOR, Reg.HIF_FN_STATUS_OPENED]; decide)) ?_
    | fail_if_no_progress with_reducible refine Keeps.mk' ?_
    | split
    | dsimp only

theorem execFunctionClose_keeps {f s t0} (e0 : execFunctionClose f s = .next t0) : Keeps 0x400000000000001800000000000000000000001026000000001ea1000002 s t0 := by
  rw [← Host.Outcome.next.inj e0]
  try dsimp only
  repeat' first
    | with_reducible exact .refl _ _
    | with_reducible assumption
    | with_reducible refine State.closeFn_keeps ?_
    | with_reducible refine State.logReg_keeps ?_
    | with_reducible refine State.set_keeps (by first | assumption | (dsimp only [bank, Reg.HIF_FN_LAST_STATUS]; decide)) ?_
    | with_reducible refine State.byWriter_keeps (fun _ _ => ?_) ?_
    | split
    | dsimp only

theorem State.closeVfs_keeps {m0 s0 s n} (h0 : Keeps m0 s0 s) (hw0 : within 0x60000000004a0000000 m0 = true := by decide) :
    Keeps m0 s0 (State.closeVfs s n) := by
  induction n with
  | zero => exact h0
  | succ n ih => exact State.closeFn_keeps ih (within_trans (by decide) hw0)

theorem State.flr_keeps {m0 s0 s f} (h0 : Keeps m0 s0 s) (hw0 : within 0x7fc0060000000004e0000000 m0 = true := by decide) :
    Keeps m0 s0 (State.flr s f) := by
  refine h0.app hw0 ?_
  unfold State.flr
  try dsimp only
  repeat' first
    | with_reducible exact .refl _ _
    | with_reducible assumption
    | with_reducible refine .ite _ ?_ ?_
    | with_reducible refine State.closeVfs_keeps ?_
    | with_reducible refine State.closeFn_keeps ?_
    | with_reducible refine State.resetFields_keeps (by (repeat' first | with_reducible assumption | with_reducible exact inMask_nil _ | (with_reducible refine inMask_cons ?_ ?_) | (with_reducible refine inMask_append ?_ ?_) | (with_reducible refine inMask_flatMap (fun _ => ?_)) | (with_reducible refine asBit ?_; dsimp only [Function.comp, bank, Reg.HIF_FN_VEC_BASE, Reg.HIF_FN_VEC_COUNT, Reg.HIF_PEN_OWNER_ASSIGNED, Reg.HIF_PEN_OWNER_FUNCTION, Reg.HIF_SETUP_STATUS_LAST_STATUS, Reg.HIF_SLOT_OWNER_SLOT0, Reg.HIF_SLOT_OWNER_SLOT1, Reg.HIF_SLOT_OWNER_SLOT2, Reg.HIF_SLOT_OWNER_SLOT3]; decide) | (unfold pfOnlyHif) | (simp only [List.map_map, List.map_append, List.map_cons, List.map_nil]) | (with_reducible refine inMask_ite _ ?_ ?_) | (with_reducible refine inMask_map (fun _ => ?_)))) ?_
    | fail_if_no_progress with_reducible refine Keeps.mk' ?_
    | split
    | dsimp only

theorem execFlr_keeps {f s t0} (e0 : execFlr f s = .next t0) : Keeps 0x7fc0060000000004e0000000 s t0 := by
  rw [← Host.Outcome.next.inj e0]
  try dsimp only
  repeat' first
    | with_reducible exact .refl _ _
    | with_reducible assumption
    | with_reducible refine State.flr_keeps ?_
    | split
    | dsimp only

theorem execD3hotExit_keeps {f s t0} (e0 : execD3hotExit f s = .next t0) : Keeps 0x7fc0060000000004e0000000 s t0 := by
  rw [← Host.Outcome.next.inj e0]
  try dsimp only
  repeat' first
    | with_reducible exact .refl _ _
    | with_reducible assumption
    | with_reducible refine State.flr_keeps ?_
    | split
    | dsimp only

theorem execPcieReset_keeps {s t0} (e0 : execPcieReset s = .next t0) : Keeps 0x7fc0060000000004e0800000 s t0 := by
  rw [← Host.Outcome.next.inj e0]
  try dsimp only
  repeat' first
    | with_reducible exact .refl _ _
    | with_reducible assumption
    | with_reducible refine State.flr_keeps ?_
    | fail_if_no_progress with_reducible refine Keeps.mk' ?_
    | split
    | dsimp only

theorem execPenOwnerWrite_keeps {w p assigned f s t0} (e0 : execPenOwnerWrite w p assigned f s = .next t0) : Keeps 0x40000000000000180000000000000000000040d000000000001e81000002 s t0 := by
  rw [← Host.Outcome.next.inj e0]
  try dsimp only [State.setAll]
  repeat' first
    | with_reducible exact .refl _ _
    | with_reducible assumption
    | with_reducible refine .ite _ ?_ ?_
    | with_reducible refine State.logReg_keeps ?_
    | with_reducible refine State.set_keeps (by first | assumption | (dsimp only [bank, Reg.HIF_PEN_OWNER_ASSIGNED, Reg.HIF_PEN_OWNER_FUNCTION, Reg.HIF_SETUP_STATUS_LAST_STATUS]; decide)) ?_
    | with_reducible refine State.byWriter_keeps (fun _ _ => ?_) ?_
    | split
    | dsimp only

theorem execSlotOwnerWrite_keeps {w o0 o1 o2 o3 s t0} (e0 : execSlotOwnerWrite w o0 o1 o2 o3 s = .next t0) : Keeps 0x4000000000000018000000000000000000007c1000000000001e81000002 s t0 := by
  rw [← Host.Outcome.next.inj e0]
  try dsimp only [State.setAll]
  repeat' first
    | with_reducible exact .refl _ _
    | with_reducible assumption
    | with_reducible refine .ite _ ?_ ?_
    | with_reducible refine State.logReg_keeps ?_
    | with_reducible refine State.set_keeps (by first | assumption | (dsimp only [bank, Reg.HIF_SETUP_STATUS_LAST_STATUS, Reg.HIF_SLOT_OWNER_SLOT0, Reg.HIF_SLOT_OWNER_SLOT1, Reg.HIF_SLOT_OWNER_SLOT2, Reg.HIF_SLOT_OWNER_SLOT3]; decide)) ?_
    | with_reducible refine State.byWriter_keeps (fun _ _ => ?_) ?_
    | split
    | dsimp only

theorem execVectorWrite_keeps {w f count base vfEnable s t0} (e0 : execVectorWrite w f count base vfEnable s = .next t0) : Keeps 0x400000000000001800000000000000000000431000000000001ec1000002 s t0 := by
  rw [← Host.Outcome.next.inj e0]
  try dsimp only [State.setAll]
  repeat' first
    | with_reducible exact .refl _ _
    | with_reducible assumption
    | with_reducible refine .ite _ ?_ ?_
    | with_reducible refine State.logReg_keeps ?_
    | with_reducible refine State.set_keeps (by first | assumption | (dsimp only [bank, Reg.HIF_FN_VEC_BASE, Reg.HIF_FN_VEC_COUNT, Reg.HIF_SETUP_STATUS_LAST_STATUS]; decide)) ?_
    | with_reducible refine State.byWriter_keeps (fun _ _ => ?_) ?_
    | fail_if_no_progress with_reducible refine Keeps.mk' ?_
    | split
    | dsimp only

theorem State.badBell_keeps {m0 s0 s f code} (h0 : Keeps m0 s0 s) (hw0 : within 0x400000000000001800000000000000000000001400000000001e80000002 m0 = true := by decide) :
    Keeps m0 s0 (State.badBell s f code) := by
  refine h0.app hw0 ?_
  unfold State.badBell
  try dsimp only
  repeat' first
    | with_reducible exact .refl _ _
    | with_reducible assumption
    | with_reducible refine .ite _ ?_ ?_
    | with_reducible refine State.logUnit_keeps ?_
    | with_reducible refine State.raiseTo_keeps ?_
    | with_reducible refine State.bump_keeps (by first | assumption | (dsimp only [bank, Reg.HIF_FN_DB_ERR_CNT]; decide)) ?_
    | split
    | dsimp only

theorem State.lostRecord_keeps {m0 s0 s r freed} (h0 : Keeps m0 s0 s) (hw0 : within 0x400000000000000000000000000000000000001000000000000680000002 m0 = true := by decide) :
    Keeps m0 s0 (State.lostRecord s r freed) := by
  refine h0.app hw0 ?_
  unfold State.lostRecord
  try dsimp only
  repeat' first
    | with_reducible exact .refl _ _
    | with_reducible assumption
    | with_reducible refine .ite _ ?_ ?_
    | with_reducible refine State.putRing_keeps ?_
    | with_reducible refine State.pushEvt_keeps ?_
    | with_reducible refine State.latchCode_keeps ?_
    | fail_if_no_progress with_reducible refine Keeps.mk' ?_
    | split
    | dsimp only

theorem State.ringBell_keeps {m0 s0 s f r second i} (h0 : Keeps m0 s0 s) (hw0 : within 0x400000000000001800000000000000000000001400000000001e80000002 m0 = true := by decide) :
    Keeps m0 s0 (State.ringBell s f r second i) := by
  refine h0.app hw0 ?_
  unfold State.ringBell
  try dsimp only
  repeat' first
    | with_reducible exact .refl _ _
    | with_reducible assumption
    | with_reducible refine .ite _ ?_ ?_
    | with_reducible refine State.badBell_keeps ?_
    | with_reducible refine State.putRing_keeps ?_
    | with_reducible refine State.lostRecord_keeps ?_
    | fail_if_no_progress with_reducible refine Keeps.mk' ?_
    | split
    | dsimp only

theorem State.doorbell_keeps {m0 s0 s f page off whole v} (h0 : Keeps m0 s0 s) (hw0 : within 0x400000000000001800000000000000000000001400000000001e80000002 m0 = true := by decide) :
    Keeps m0 s0 (State.doorbell s f page off whole v) := by
  refine h0.app hw0 ?_
  unfold State.doorbell
  try dsimp only
  repeat' first
    | with_reducible exact .refl _ _
    | with_reducible assumption
    | with_reducible refine .ite _ ?_ ?_
    | with_reducible refine State.badBell_keeps ?_
    | with_reducible refine State.ringBell_keeps ?_
    | fail_if_no_progress with_reducible refine Keeps.mk' ?_
    | split
    | dsimp only

theorem execDoorbell_keeps {f page off whole v s t0} (e0 : execDoorbell f page off whole v s = .next t0) : Keeps 0x400000000000001800000000000000000000001400000000001e80000002 s t0 := by
  rw [← Host.Outcome.next.inj e0]
  try dsimp only
  repeat' first
    | with_reducible exact .refl _ _
    | with_reducible assumption
    | with_reducible refine State.doorbell_keeps ?_
    | split
    | dsimp only

theorem State.unknownOpcode_keeps {m0 s0 s op d} (h0 : Keeps m0 s0 s) (hw0 : within 0x400000000000001800000000000000800000001200000000001e81800002 m0 = true := by decide) :
    Keeps m0 s0 (State.unknownOpcode s op d) := by
  refine h0.app hw0 ?_
  unfold State.unknownOpcode
  try dsimp only
  repeat' first
    | with_reducible exact .refl _ _
    | with_reducible assumption
    | with_reducible refine .ite _ ?_ ?_
    | with_reducible refine State.consume_keeps ?_
    | with_reducible refine State.consume_keepsP (by assumption) ?_
    | with_reducible refine State.mirror3_keeps ?_
    | with_reducible refine State.failDesc_keeps ?_
    | split
    | dsimp only

theorem execNop_keeps {op d s t0} (e0 : execNop op d s = .next t0) : Keeps 0x400000000000001800000000000000800000001a00000000001e8180000a s t0 := by
  rw [← Host.Outcome.next.inj e0]
  try dsimp only
  repeat' first
    | with_reducible exact .refl _ _
    | with_reducible assumption
    | with_reducible refine .ite _ ?_ ?_
    | with_reducible refine State.complete_keeps ?_
    | with_reducible refine State.unknownOpcode_keeps ?_
    | with_reducible refine State.runDesc_keeps (fun _ _ _ => ?_) ?_
    | split
    | dsimp only

theorem actCreateRing_keeps {m0 s0 d t s} (h0 : Keeps m0 s0 s) (hw0 : within 0x400000000000001800000000000000000000001000000000001e80000002 m0 = true := by decide) :
    Keeps m0 s0 (actCreateRing d t s) := by
  refine h0.app hw0 ?_
  unfold actCreateRing
  try dsimp only
  repeat' first
    | with_reducible exact .refl _ _
    | with_reducible assumption
    | with_reducible refine .ite _ ?_ ?_
    | with_reducible refine State.putRing_keeps ?_
    | with_reducible refine State.logDesc_keeps ?_
    | with_reducible refine State.complete_keeps ?_
    | fail_if_no_progress with_reducible refine Keeps.mk' ?_
    | split
    | dsimp only

theorem execCreateRing_keeps {d s t0} (e0 : execCreateRing d s = .next t0) : Keeps 0x400000000000001800000000000000800000001a00000000001e8180000a s t0 := by
  rw [← Host.Outcome.next.inj e0]
  try dsimp only
  repeat' first
    | with_reducible exact .refl _ _
    | with_reducible assumption
    | with_reducible refine actCreateRing_keeps ?_
    | with_reducible refine State.runDesc_keeps (fun _ _ _ => ?_) ?_
    | split
    | dsimp only

theorem actDestroyRing_keeps {m0 s0 d t s} (h0 : Keeps m0 s0 s) (hw0 : within 0x400000000000001800000000000000000000001000000000001e80000002 m0 = true := by decide) :
    Keeps m0 s0 (actDestroyRing d t s) := by
  refine h0.app hw0 ?_
  unfold actDestroyRing
  try dsimp only
  repeat' first
    | with_reducible exact .refl _ _
    | with_reducible assumption
    | with_reducible refine State.updRing_keeps ?_
    | with_reducible refine State.logDesc_keeps ?_
    | fail_if_no_progress with_reducible refine Keeps.mk' ?_
    | split
    | dsimp only

theorem execDestroyRing_keeps {d s t0} (e0 : execDestroyRing d s = .next t0) : Keeps 0x400000000000001800000000000000800000001a00000000001e8180000a s t0 := by
  rw [← Host.Outcome.next.inj e0]
  try dsimp only
  repeat' first
    | with_reducible exact .refl _ _
    | with_reducible assumption
    | with_reducible refine actDestroyRing_keeps ?_
    | with_reducible refine State.runDesc_keeps (fun _ _ _ => ?_) ?_
    | split
    | dsimp only

theorem State.destroyDone_keeps {m0 s0 s r} (h0 : Keeps m0 s0 s) (hw0 : within 0x680000000 m0 = true := by decide) :
    Keeps m0 s0 (State.destroyDone s r) := by
  refine h0.app hw0 ?_
  unfold State.destroyDone
  try dsimp only
  repeat' first
    | with_reducible exact .refl _ _
    | with_reducible assumption
    | with_reducible refine .ite _ ?_ ?_
    | with_reducible refine State.completeAll_keeps ?_
    | fail_if_no_progress with_reducible refine Keeps.mk' ?_
    | split
    | dsimp only

theorem execDestroyRingDone_keeps {r s t0} (e0 : execDestroyRingDone r s = .next t0) : Keeps 0x680000000 s t0 := by
  rw [← Host.Outcome.next.inj e0]
  try dsimp only
  repeat' first
    | with_reducible exact .refl _ _
    | with_reducible assumption
    | with_reducible refine State.destroyDone_keeps ?_
    | split
    | dsimp only

theorem State.cancelUnit_keeps {m0 s0 s u p} (h0 : Keeps m0 s0 s) (hw0 : within 0x680000008 m0 = true := by decide) :
    Keeps m0 s0 (State.cancelUnit s u p) := by
  refine h0.app hw0 ?_
  unfold State.cancelUnit
  try dsimp only
  repeat' first
    | with_reducible exact .refl _ _
    | with_reducible assumption
    | with_reducible refine .ite _ ?_ ?_
    | with_reducible refine State.setQueue_keeps ?_
    | with_reducible refine State.cancel_keeps ?_
    | fail_if_no_progress with_reducible refine Keeps.mk' ?_
    | split
    | dsimp only

theorem actCancelTimed_keeps {m0 s0 d t s} (h0 : Keeps m0 s0 s) (hw0 : within 0x680000008 m0 = true := by decide) :
    Keeps m0 s0 (actCancelTimed d t s) := by
  refine h0.app hw0 ?_
  unfold actCancelTimed
  try dsimp only
  repeat' first
    | with_reducible exact .refl _ _
    | with_reducible assumption
    | with_reducible refine State.cancelUnit_keeps ?_
    | with_reducible refine State.complete_keeps ?_
    | split
    | dsimp only

theorem execCancelTimed_keeps {d s t0} (e0 : execCancelTimed d s = .next t0) : Keeps 0x400000000000001800000000000000800000001a00000000001e8180000a s t0 := by
  rw [← Host.Outcome.next.inj e0]
  try dsimp only
  repeat' first
    | with_reducible exact .refl _ _
    | with_reducible assumption
    | with_reducible refine actCancelTimed_keeps ?_
    | with_reducible refine State.runDesc_keeps (fun _ _ _ => ?_) ?_
    | split
    | dsimp only

theorem State.fetchError_keeps {m0 s0 s r} (h0 : Keeps m0 s0 s) (hw0 : within 0x400000000000001800000000000000000000001800000000001e80000002 m0 = true := by decide) :
    Keeps m0 s0 (State.fetchError s r) := by
  refine h0.app hw0 ?_
  unfold State.fetchError
  try dsimp only
  repeat' first
    | with_reducible exact .refl _ _
    | with_reducible assumption
    | with_reducible refine .ite _ ?_ ?_
    | with_reducible refine State.putRing_keeps ?_
    | with_reducible refine State.logUnit_keeps ?_
    | with_reducible refine State.raise_keeps ?_
    | with_reducible refine State.bump_keeps (by first | assumption | (dsimp only [bank, Reg.HIF_FN_DMA_ERR_CNT]; decide)) ?_
    | fail_if_no_progress with_reducible refine Keeps.mk' ?_
    | split
    | dsimp only

theorem execRingFetchError_keeps {r s t0} (e0 : execRingFetchError r s = .next t0) : Keeps 0x400000000000001800000000000000000000001800000000001e80000002 s t0 := by
  rw [← Host.Outcome.next.inj e0]
  try dsimp only
  repeat' first
    | with_reducible exact .refl _ _
    | with_reducible assumption
    | with_reducible refine State.fetchError_keeps ?_
    | split
    | dsimp only

theorem State.moderationTimeout_keeps {m0 s0 s r} (h0 : Keeps m0 s0 s) (hw0 : within 0x680000000 m0 = true := by decide) :
    Keeps m0 s0 (State.moderationTimeout s r) := by
  refine h0.app hw0 ?_
  unfold State.moderationTimeout
  try dsimp only
  repeat' first
    | with_reducible exact .refl _ _
    | with_reducible assumption
    | with_reducible refine .ite _ ?_ ?_
    | with_reducible refine State.putRing_keeps ?_
    | with_reducible refine State.signal_keeps ?_
    | fail_if_no_progress with_reducible refine Keeps.mk' ?_
    | split
    | dsimp only

theorem execMsixModerationTimeout_keeps {r s t0} (e0 : execMsixModerationTimeout r s = .next t0) : Keeps 0x680000000 s t0 := by
  rw [← Host.Outcome.next.inj e0]
  try dsimp only
  repeat' first
    | with_reducible exact .refl _ _
    | with_reducible assumption
    | with_reducible refine State.moderationTimeout_keeps ?_
    | split
    | dsimp only

theorem State.msixMask_keeps {m0 s0 s v mask} (h0 : Keeps m0 s0 s) (hw0 : within 0x300000000 m0 = true := by decide) :
    Keeps m0 s0 (State.msixMask s v mask) := by
  refine h0.app hw0 ?_
  unfold State.msixMask
  try dsimp only
  repeat' first
    | with_reducible exact .refl _ _
    | with_reducible assumption
    | with_reducible refine .ite _ ?_ ?_
    | with_reducible refine State.emit_keeps ?_
    | fail_if_no_progress with_reducible refine Keeps.mk' ?_
    | split
    | dsimp only

theorem execMsixUnmask_keeps {v mask s t0} (e0 : execMsixUnmask v mask s = .next t0) : Keeps 0x300000000 s t0 := by
  rw [← Host.Outcome.next.inj e0]
  try dsimp only
  repeat' first
    | with_reducible exact .refl _ _
    | with_reducible assumption
    | with_reducible refine State.msixMask_keeps ?_
    | split
    | dsimp only

theorem State.badEntry_keeps {m0 s0 s f r c} (h0 : Keeps m0 s0 s) (hw0 : within 0x400000000000001800000000000000000000001200000000001e80000002 m0 = true := by decide) :
    Keeps m0 s0 (State.badEntry s f r c) := by
  refine h0.app hw0 ?_
  unfold State.badEntry
  try dsimp only
  repeat' first
    | with_reducible exact .refl _ _
    | with_reducible assumption
    | with_reducible refine State.logDesc_keeps ?_
    | with_reducible refine State.bump_keeps (by first | assumption | (dsimp only [bank, Reg.HIF_FN_DESC_ERR_CNT]; decide)) ?_
    | split
    | dsimp only

theorem State.bsOutRing_keeps {m0 s0 s r posted x} (h0 : Keeps m0 s0 s) (hw0 : within 0x400000000000001800000000000000000000001200000000001e80000002 m0 = true := by decide) :
    Keeps m0 s0 (State.bsOutRing s r posted x) := by
  refine h0.app hw0 ?_
  unfold State.bsOutRing
  try dsimp only
  repeat' first
    | with_reducible exact .refl _ _
    | with_reducible assumption
    | with_reducible refine .ite _ ?_ ?_
    | with_reducible refine State.raise_keeps ?_
    | with_reducible refine State.badEntry_keeps ?_
    | with_reducible refine State.emit_keeps ?_
    | with_reducible refine State.updRing_keeps ?_
    | with_reducible refine State.moderate_keeps ?_
    | fail_if_no_progress with_reducible refine Keeps.mk' ?_
    | split
    | dsimp only

theorem State.bsOut_keeps {m0 s0 s slot posted x} (h0 : Keeps m0 s0 s) (hw0 : within 0x400000000000001800000000000000000000001200000000001e80000002 m0 = true := by decide) :
    Keeps m0 s0 (State.bsOut s slot posted x) := by
  refine h0.app hw0 ?_
  unfold State.bsOut
  try dsimp only
  repeat' first
    | with_reducible exact .refl _ _
    | with_reducible assumption
    | with_reducible refine State.bsOutRing_keeps ?_
    | with_reducible refine .foldl _ _ ?_ (fun _ _ _ => ?_)
    | fail_if_no_progress with_reducible refine Keeps.mk' ?_
    | split
    | dsimp only

end Sys2Proof.Machine
end

