-- ==== Sys2Proof/Laws/KeepsEncoder.lean ====
section
/-! SUPPORT. What each operation of Machine/Encoder.lean may change (Laws/Keeps.lean). -/

namespace Sys2Proof.Machine

set_option Elab.async false
set_option linter.unusedTactic false
set_option linter.unusedSimpArgs false
set_option linter.unreachableTactic false

theorem State.compositionStart_keeps {m0 s0 s n pic} (h0 : Keeps m0 s0 s) (hw0 : within 0xc00000000000000001000f0f002ffffffff387ff8000000000000000000000000000000000000000000000000000000000004000000000000000000000000000000000000010000000000046800005aa m0 = true := by decide) :
    Keeps m0 s0 (State.compositionStart s n pic) := by
  refine h0.app hw0 ?_
  unfold State.compositionStart
  try dsimp only [State.setAll]
  repeat' first
    | with_reducible exact .refl _ _
    | with_reducible assumption
    | with_reducible refine .ite _ ?_ ?_
    | with_reducible refine State.cmpLatch_keeps ?_
    | with_reducible refine State.updSlot_keeps ?_
    | with_reducible refine State.launchAt_keeps ?_
    | with_reducible refine State.queueComposition_keeps ?_
    | with_reducible refine State.set_keeps (by first | assumption | (dsimp only [bank, Reg.ENC_BS_RUN_STATE, Reg.RC_BS_ROW_FLOOR_EFF, Reg.RC_BS_ROW_MAX_EFF]; decide)) ?_
    | with_reducible refine .foldl _ _ ?_ (fun _ _ _ => ?_)
    | fail_if_no_progress with_reducible refine Keeps.mk' ?_
    | split
    | dsimp only

theorem State.checkpoint_keeps {m0 s0 s n pic row p} (h0 : Keeps m0 s0 s) (hw0 : within 0x1004000 m0 = true := by decide) :
    Keeps m0 s0 (State.checkpoint s n pic row p) := by
  refine h0.app hw0 ?_
  unfold State.checkpoint
  try dsimp only
  repeat' first
    | with_reducible exact .refl _ _
    | with_reducible assumption
    | with_reducible refine .ite _ ?_ ?_
    | with_reducible refine State.mirror_keeps ?_
    | with_reducible refine .foldl _ _ ?_ (fun _ _ _ => ?_)
    | fail_if_no_progress with_reducible refine Keeps.mk' ?_
    | split
    | dsimp only

theorem State.takeEffort_keeps {m0 s0 s u} (h0 : Keeps m0 s0 s) (hw0 : within 0x2000000 m0 = true := by decide) :
    Keeps m0 s0 (State.takeEffort s u) := by
  refine h0.app hw0 ?_
  unfold State.takeEffort
  try dsimp only
  repeat' first
    | with_reducible exact .refl _ _
    | with_reducible assumption
    | with_reducible refine .ite _ ?_ ?_
    | fail_if_no_progress with_reducible refine Keeps.mk' ?_
    | split
    | dsimp only

theorem State.faceRow_keeps {m0 s0 s u n pic k} (h0 : Keeps m0 s0 s) (hw0 : within 0x20 m0 = true := by decide) :
    Keeps m0 s0 (State.faceRow s u n pic k) := by
  refine h0.app hw0 ?_
  unfold State.faceRow
  try dsimp only
  repeat' first
    | with_reducible exact .refl _ _
    | with_reducible assumption
    | with_reducible refine .ite _ ?_ ?_
    | with_reducible refine State.setPic_keeps ?_
    | fail_if_no_progress with_reducible refine Keeps.mk' ?_
    | split
    | dsimp only

theorem State.encodeRowStart_keeps {m0 s0 s u n pic k decided} (h0 : Keeps m0 s0 s) (hw0 : within 0x102000000000000000000000000000000000000000000000000000000000000000000000000000000000000000000000000000040000000000000000000000000000000000000100000000000068300402a m0 = true := by decide) :
    Keeps m0 s0 (State.encodeRowStart s u n pic k decided) := by
  refine h0.app hw0 ?_
  unfold State.encodeRowStart
  try dsimp only
  repeat' first
    | with_reducible exact .refl _ _
    | with_reducible assumption
    | with_reducible refine .ite _ ?_ ?_
    | with_reducible refine State.takeEffort_keeps ?_
    | with_reducible refine State.setPic_keeps ?_
    | with_reducible refine State.raise_keeps ?_
    | with_reducible refine State.checkpoint_keeps ?_
    | with_reducible refine State.faceRow_keeps ?_
    | with_reducible refine State.launchAt_keeps ?_
    | with_reducible refine State.bump_keeps (by first | assumption | (dsimp only [bank, Reg.RC_BS_SPOIL_PIC_CNT, Reg.RC_BS_SPOIL_ROW_CNT]; decide)) ?_
    | fail_if_no_progress with_reducible refine Keeps.mk' ?_
    | split
    | dsimp only

theorem State.enterFrame_keeps {m0 s0 s n pic row m f len} (h0 : Keeps m0 s0 s) (hw0 : within 0xfec0a600000000000000000000000000000000000000000400000000000000000000000000000000000001000000000001680000012 m0 = true := by decide) :
    Keeps m0 s0 (State.enterFrame s n pic row m f len) := by
  refine h0.app hw0 ?_
  unfold State.enterFrame
  try dsimp only
  repeat' first
    | with_reducible exact .refl _ _
    | with_reducible assumption
    | with_reducible refine .ite _ ?_ ?_
    | with_reducible refine State.enterQueue_keeps ?_
    | with_reducible refine .foldl _ _ ?_ (fun _ _ _ => ?_)
    | split
    | dsimp only

theorem State.sendPayloads_keeps {m0 s0 s n pic row m hdr last l} (h0 : Keeps m0 s0 s) (hw0 : within 0xfec0a600000000000000000000000000000004000000000400000000000000000000000000000000000001000000000001680000032 m0 = true := by decide) :
    Keeps m0 s0 (State.sendPayloads s n pic row m hdr last l) := by
  refine h0.app hw0 ?_
  clear h0 hw0
  induction l generalizing s with
  | nil => exact .refl _ _
  | cons b l ih =>
    unfold State.sendPayloads
    dsimp only
    refine Keeps.trans ?_ (ih (s := _))
    repeat' first
      | with_reducible exact .refl _ _
      | with_reducible refine State.count_keeps (by (first | assumption | (dsimp only [bank, Reg.CHK_PKT_CNT]; decide))) ?_
        | with_reducible refine State.setSlot_keeps ?_
        | with_reducible refine State.enterFrame_keeps ?_
      | split

theorem State.tsFlush_keeps {m0 s0 n pic row fin k s} (h0 : Keeps m0 s0 s) (hw0 : within 0xfec0a600000000000000000000000000000000000000000400000000000000000000000000000000000001000000000001680000032 m0 = true := by decide) :
    Keeps m0 s0 (State.tsFlush n pic row fin k s) := by
  refine h0.app hw0 ?_
  clear h0 hw0
  induction k generalizing s with
  | zero => exact .refl _ _
  | succ k ih =>
    unfold State.tsFlush
    dsimp only
    refine .ite _ ?_ (.refl _ _)
    refine Keeps.trans ?_ (ih (s := _))
    repeat' first
      | with_reducible exact .refl _ _
        | with_reducible refine State.setSlot_keeps ?_
        | with_reducible refine State.enterFrame_keeps ?_

theorem State.tsBytes_keeps {m0 s0 s n pic row bytes fin} (h0 : Keeps m0 s0 s) (hw0 : within 0xfec0a600000000000000000000000000000000000000000400000000000000000000000000000000000001000000000001680000032 m0 = true := by decide) :
    Keeps m0 s0 (State.tsBytes s n pic row bytes fin) := by
  refine h0.app hw0 ?_
  unfold State.tsBytes
  try dsimp only
  repeat' first
    | with_reducible exact .refl _ _
    | with_reducible assumption
    | with_reducible refine State.tsFlush_keeps ?_
    | with_reducible refine State.updSlot_keeps ?_
    | fail_if_no_progress with_reducible refine Keeps.mk' ?_
    | split
    | dsimp only

theorem State.tsPsi_keeps {m0 s0 s n} (h0 : Keeps m0 s0 s) (hw0 : within 0xfec0a600000000000000000000000000000000000000000400000000000000000000000000000000000001000000000001680000032 m0 = true := by decide) :
    Keeps m0 s0 (State.tsPsi s n) := by
  refine h0.app hw0 ?_
  unfold State.tsPsi
  try dsimp only
  repeat' first
    | with_reducible exact .refl _ _
    | with_reducible assumption
    | with_reducible refine .ite _ ?_ ?_
    | with_reducible refine State.tsFlush_keeps ?_
    | with_reducible refine State.updSlot_keeps ?_
    | with_reducible refine State.emit_keeps ?_
    | fail_if_no_progress with_reducible refine Keeps.mk' ?_
    | split
    | dsimp only

theorem execTsPsiTimer_keeps {n s t0} (e0 : execTsPsiTimer n s = .next t0) : Keeps 0xfec0a600000000000000000000000000000000000000000400000000000000000000000000000000000001000000000001680000032 s t0 := by
  rw [← Host.Outcome.next.inj e0]
  try dsimp only
  repeat' first
    | with_reducible exact .refl _ _
    | with_reducible assumption
    | with_reducible refine State.tsPsi_keeps ?_
    | split
    | dsimp only

theorem State.queueRelease_keeps {m0 s0 s n p k} (h0 : Keeps m0 s0 s) (hw0 : within 0x18 m0 = true := by decide) :
    Keeps m0 s0 (State.queueRelease s n p k) := by
  refine h0.app hw0 ?_
  unfold State.queueRelease
  try dsimp only
  repeat' first
    | with_reducible exact .refl _ _
    | with_reducible assumption
    | with_reducible refine .ite _ ?_ ?_
    | with_reducible refine State.launchAt_keeps ?_
    | with_reducible refine .foldl _ _ ?_ (fun _ _ _ => ?_)
    | fail_if_no_progress with_reducible refine Keeps.mk' ?_
    | split
    | dsimp only

theorem State.releaseRow_keeps {m0 s0 s i n pic row} (h0 : Keeps m0 s0 s) (hw0 : within 0x600000000000000000000000000000000000000000000000000000000000000000000000000000000000000000000000000010 m0 = true := by decide) :
    Keeps m0 s0 (State.releaseRow s i n pic row) := by
  refine h0.app hw0 ?_
  unfold State.releaseRow
  try dsimp only
  repeat' first
    | with_reducible exact .refl _ _
    | with_reducible assumption
    | with_reducible refine .ite _ ?_ ?_
    | with_reducible refine State.setFrames_keeps ?_
    | with_reducible refine .foldl _ _ ?_ (fun _ _ _ => ?_)
    | fail_if_no_progress with_reducible refine Keeps.mk' ?_
    | split
    | dsimp only

theorem State.sendHead_keeps {m0 s0 s n p} (h0 : Keeps m0 s0 s) (hw0 : within 0xfec0a60000000000000000000000000000000400000000040000000000000000000000000000000000000100000000000168000003a m0 = true := by decide) :
    Keeps m0 s0 (State.sendHead s n p) := by
  refine h0.app hw0 ?_
  unfold State.sendHead
  try dsimp only
  repeat' first
    | with_reducible exact .refl _ _
    | with_reducible assumption
    | with_reducible refine .ite _ ?_ ?_
    | with_reducible refine State.setPic_keeps ?_
    | with_reducible refine State.emit_keeps ?_
    | with_reducible refine State.queueRelease_keeps ?_
    | with_reducible refine State.updSlot_keeps ?_
    | with_reducible refine State.tsBytes_keeps ?_
    | with_reducible refine State.sendPayloads_keeps ?_
    | with_reducible refine .foldl _ _ ?_ (fun _ _ _ => ?_)
    | fail_if_no_progress with_reducible refine Keeps.mk' ?_
    | split
    | dsimp only

theorem State.releaseSlice_keeps {m0 s0 s n pic k sl posted} (h0 : Keeps m0 s0 s) (hw0 : within 0xfec0a600000000000000000000000000000004000000000400000000000001800000000000000000000001200000000001e8000003a m0 = true := by decide) :
    Keeps m0 s0 (State.releaseSlice s n pic k sl posted) := by
  refine h0.app hw0 ?_
  unfold State.releaseSlice
  try dsimp only
  repeat' first
    | with_reducible exact .refl _ _
    | with_reducible assumption
    | with_reducible refine .ite _ ?_ ?_
    | with_reducible refine State.sendHead_keeps ?_
    | with_reducible refine State.queueRelease_keeps ?_
    | with_reducible refine State.setPic_keeps ?_
    | with_reducible refine State.tsBytes_keeps ?_
    | with_reducible refine State.sendPayloads_keeps ?_
    | with_reducible refine State.bsOut_keeps ?_
    | fail_if_no_progress with_reducible refine Keeps.mk' ?_
    | split
    | dsimp only

theorem State.releaseSlices_keeps {m0 s0 s n pic k posted l} (h0 : Keeps m0 s0 s) (hw0 : within 0xfec0a600000000000000000000000000000004000000000400000000000001800000000000000000000001200000000001e8000003a m0 = true := by decide) :
    Keeps m0 s0 (State.releaseSlices s n pic k posted l).1 := by
  refine h0.app hw0 ?_
  clear h0 hw0
  induction l generalizing s posted with
  | nil => exact .refl _ _
  | cons b l ih =>
    unfold State.releaseSlices
    refine Keeps.trans ?_ (ih (s := _) (posted := _))
    exact State.releaseSlice_keeps (.refl _ _)

theorem State.releaseSlices_keepsP {m0 s0 t0 x0 s n pic k posted l} (e0 : State.releaseSlices s n pic k posted l = (t0, x0))
    (h0 : Keeps m0 s0 s) (hw0 : within 0xfec0a600000000000000000000000000000004000000000400000000000001800000000000000000000001200000000001e8000003a m0 = true := by decide) : Keeps m0 s0 t0 := by
  have := State.releaseSlices_keeps (n := n) (pic := pic) (k := k) (posted := posted) (l := l) h0 hw0
  rwa [e0] at this

theorem State.endPicture_keeps {m0 s0 s n p} (h0 : Keeps m0 s0 s) (hw0 : within 0x85000000001c000000000000000000000000000000000000000000000000000000000000000000000000000000000000000000400000000000000000000000000000000000001000000000000680000022 m0 = true := by decide) :
    Keeps m0 s0 (State.endPicture s n p) := by
  refine h0.app hw0 ?_
  unfold State.endPicture
  try dsimp only
  repeat' first
    | with_reducible exact .refl _ _
    | with_reducible assumption
    | with_reducible refine .ite _ ?_ ?_
    | with_reducible refine State.updSlot_keeps ?_
    | with_reducible refine State.raise_keeps ?_
    | with_reducible refine State.set_keeps (by first | assumption | (dsimp only [bank, Reg.ENC_BS_FIRST_SWEEP, Reg.ENC_BS_PIC_CNT, Reg.ENC_BS_SWEEP_CNT, Reg.ENC_BS_SWEEP_LEN, Reg.RC_BS_FULLNESS, Reg.RC_BS_GUARD_CTU_CNT, Reg.RC_BS_GUARD_PIC_CNT, Reg.RC_BS_QP_INIT]; decide)) ?_
    | with_reducible refine State.bump_keeps (by first | assumption | (dsimp only [bank, Reg.ENC_BS_FIRST_SWEEP, Reg.ENC_BS_PIC_CNT, Reg.ENC_BS_SWEEP_CNT, Reg.ENC_BS_SWEEP_LEN, Reg.RC_BS_FULLNESS, Reg.RC_BS_GUARD_CTU_CNT, Reg.RC_BS_GUARD_PIC_CNT, Reg.RC_BS_QP_INIT]; decide)) ?_
    | with_reducible refine State.count_keeps (by first | assumption | (dsimp only [bank, Reg.ENC_BS_FIRST_SWEEP, Reg.ENC_BS_PIC_CNT, Reg.ENC_BS_SWEEP_CNT, Reg.ENC_BS_SWEEP_LEN, Reg.RC_BS_FULLNESS, Reg.RC_BS_GUARD_CTU_CNT, Reg.RC_BS_GUARD_PIC_CNT, Reg.RC_BS_QP_INIT]; decide)) ?_
    | fail_if_no_progress with_reducible refine Keeps.mk' ?_
    | split
    | dsimp only

theorem State.mirrorRow_keeps {m0 s0 s n p k r} (h0 : Keeps m0 s0 s) (hw0 : within 0x4001000000 m0 = true := by decide) :
    Keeps m0 s0 (State.mirrorRow s n p k r) := by
  refine h0.app hw0 ?_
  unfold State.mirrorRow
  try dsimp only [State.draw]
  repeat' first
    | with_reducible exact .refl _ _
    | with_reducible assumption
    | with_reducible refine .ite _ ?_ ?_
    | with_reducible refine State.mirror_keeps ?_
    | with_reducible refine .foldl _ _ ?_ (fun _ _ _ => ?_)
    | fail_if_no_progress with_reducible refine Keeps.mk' ?_
    | split
    | dsimp only

theorem State.rowReleasedNow_keeps {m0 s0 s n p k r} (h0 : Keeps m0 s0 s) (hw0 : within 0x800000000000000000000000000000000000000000000000000000000000000000000000000000000400000000000000000000000000000000000001000000000004681000022 m0 = true := by decide) :
    Keeps m0 s0 (State.rowReleasedNow s n p k r) := by
  refine h0.app hw0 ?_
  unfold State.rowReleasedNow
  try dsimp only
  repeat' first
    | with_reducible exact .refl _ _
    | with_reducible assumption
    | with_reducible refine .ite _ ?_ ?_
    | with_reducible refine State.setPic_keeps ?_
    | with_reducible refine State.raise_keeps ?_
    | with_reducible refine State.mirrorRow_keeps ?_
    | with_reducible refine State.bump_keeps (by first | assumption | (dsimp only [bank, Reg.ENC_BS_ROW_LATE_CNT]; decide)) ?_
    | fail_if_no_progress with_reducible refine Keeps.mk' ?_
    | split
    | dsimp only

theorem State.flushRows_keeps {m0 s0 n posted l s} (h0 : Keeps m0 s0 s) (hw0 : within 0x85000000001c0000000008000000000000000000000000000000000fec0a600000000000000000000000000000004000000000400000000000001800000000000000000000001200000000005e8100003a m0 = true := by decide) :
    Keeps m0 s0 (State.flushRows n posted l s) := by
  refine h0.app hw0 ?_
  clear h0 hw0
  induction l generalizing s posted with
  | nil => exact .refl _ _
  | cons b l ih =>
    unfold State.flushRows
    dsimp only
    repeat' first
      | with_reducible exact .refl _ _
      | with_reducible refine Keeps.trans ?_ (ih (s := _) (posted := _))
      | with_reducible refine .ite _ ?_ ?_
        | with_reducible refine State.releaseSlices_keeps ?_
        | with_reducible refine State.releaseSlices_keepsP (by assumption) ?_
        | with_reducible refine State.rowReleasedNow_keeps ?_
        | with_reducible refine State.endPicture_keeps ?_
      | split

theorem State.sliceComplete_keeps {m0 s0 s n k c x posted} (h0 : Keeps m0 s0 s) (hw0 : within 0x85000000001c0000000008000000000000000000000000000000000fec0a600000000000000000000000000000004000000000400000000000001800000000000000000000001200000000005e8100003a m0 = true := by decide) :
    Keeps m0 s0 (State.sliceComplete s n k c x posted) := by
  refine h0.app hw0 ?_
  unfold State.sliceComplete
  try dsimp only
  repeat' first
    | with_reducible exact .refl _ _
    | with_reducible assumption
    | with_reducible refine .ite _ ?_ ?_
    | with_reducible refine State.flushRows_keeps ?_
    | with_reducible refine State.setPic_keeps ?_
    | with_reducible refine .foldl _ _ ?_ (fun _ _ _ => ?_)
    | fail_if_no_progress with_reducible refine Keeps.mk' ?_
    | split
    | dsimp only

theorem execSliceComplete_keeps {n row col x posted s t0} (e0 : execSliceComplete n row col x posted s = .next t0) : Keeps 0x85000000001c0000000008000000000000000000000000000000000fec0a600000000000000000000000000000004000000000400000000000001800000000000000000000001200000000005e8100003a s t0 := by
  rw [← Host.Outcome.next.inj e0]
  try dsimp only
  repeat' first
    | with_reducible exact .refl _ _
    | with_reducible assumption
    | with_reducible refine State.sliceComplete_keeps ?_
    | split
    | dsimp only

theorem State.settleEffort_keeps {m0 s0 s} (h0 : Keeps m0 s0 s) (hw0 : within 0x600000000000000000000000000000000000000000000000000000000000000000000000000000000000400000000000000000000000000000000000001000000000000684000002 m0 = true := by decide) :
    Keeps m0 s0 (State.settleEffort s) := by
  refine h0.app hw0 ?_
  unfold State.settleEffort
  try dsimp only
  repeat' first
    | with_reducible exact .refl _ _
    | with_reducible assumption
    | with_reducible refine .ite _ ?_ ?_
    | with_reducible refine State.raise_keeps ?_
    | with_reducible refine State.set_keeps (by first | assumption | (dsimp only [bank, Reg.ENC_CTRL_EFFORT, Reg.ENC_CTRL_EFFORT_FLOOR, Reg.ENC_CTRL_THERM_STEP, Reg.ENC_EFFORT_CHG_CNT]; decide)) ?_
    | with_reducible refine State.bump_keeps (by first | assumption | (dsimp only [bank, Reg.ENC_CTRL_EFFORT, Reg.ENC_CTRL_EFFORT_FLOOR, Reg.ENC_CTRL_THERM_STEP, Reg.ENC_EFFORT_CHG_CNT]; decide)) ?_
    | fail_if_no_progress with_reducible refine Keeps.mk' ?_
    | split
    | dsimp only

theorem State.effortFloorWrite_keeps {m0 s0 s w floor} (h0 : Keeps m0 s0 s) (hw0 : within 0x680000000000000000000000000000000000000000000000000000000000000000000000000000000000400000000000001800000000000000000000001000000000001e85000002 m0 = true := by decide) :
    Keeps m0 s0 (State.effortFloorWrite s w floor) := by
  refine h0.app hw0 ?_
  unfold State.effortFloorWrite
  try dsimp only
  repeat' first
    | with_reducible exact .refl _ _
    | with_reducible assumption
    | with_reducible refine .ite _ ?_ ?_
    | with_reducible refine State.logReg_keeps ?_
    | with_reducible refine State.settleEffort_keeps ?_
    | with_reducible refine State.set_keeps (by first | assumption | (dsimp only [bank, Reg.ENC_CTRL_EFFORT_FLOOR]; decide)) ?_
    | split
    | dsimp only

theorem execEffortFloorWrite_keeps {w floor s t0} (e0 : execEffortFloorWrite w floor s = .next t0) : Keeps 0x680000000000000000000000000000000000000000000000000000000000000000000000000000000000400000000000001800000000000000000000001000000000001e85000002 s t0 := by
  rw [← Host.Outcome.next.inj e0]
  try dsimp only
  repeat' first
    | with_reducible exact .refl _ _
    | with_reducible assumption
    | with_reducible refine State.effortFloorWrite_keeps ?_
    | with_reducible refine State.byWriter_keeps (fun _ _ => ?_) ?_
    | split
    | dsimp only

end Sys2Proof.Machine
end

