-- ==== Sys2Proof/Laws/KeepsDecoder.lean ====
section
/-! SUPPORT. What each operation of Machine/Decoder.lean may change (Laws/Keeps.lean). -/

namespace Sys2Proof.Machine

set_option Elab.async false
set_option linter.unusedTactic false
set_option linter.unusedSimpArgs false
set_option linter.unreachableTactic false

theorem State.setDec_keeps {m0 s0 s n d} (h0 : Keeps m0 s0 s) (hw0 : within 0x20 m0 = true := by decide) :
    Keeps m0 s0 (State.setDec s n d) := by
  refine h0.app hw0 ?_
  unfold State.setDec
  try dsimp only
  repeat' first
    | with_reducible exact .refl _ _
    | with_reducible assumption
    | with_reducible refine State.updSlot_keeps ?_
    | fail_if_no_progress with_reducible refine Keeps.mk' ?_
    | split
    | dsimp only

theorem State.updDec_keeps {m0 s0 s n f} (h0 : Keeps m0 s0 s) (hw0 : within 0x20 m0 = true := by decide) :
    Keeps m0 s0 (State.updDec s n f) := by
  refine h0.app hw0 ?_
  unfold State.updDec
  try dsimp only
  repeat' first
    | with_reducible exact .refl _ _
    | with_reducible assumption
    | with_reducible refine State.setDec_keeps ?_
    | split
    | dsimp only

theorem State.setDecPic_keeps {m0 s0 s n q} (h0 : Keeps m0 s0 s) (hw0 : within 0x20 m0 = true := by decide) :
    Keeps m0 s0 (State.setDecPic s n q) := by
  refine h0.app hw0 ?_
  unfold State.setDecPic
  try dsimp only
  repeat' first
    | with_reducible exact .refl _ _
    | with_reducible assumption
    | with_reducible refine .ite _ ?_ ?_
    | with_reducible refine State.updDec_keeps ?_
    | fail_if_no_progress with_reducible refine Keeps.mk' ?_
    | split
    | dsimp only

theorem State.noteSelection_keeps {m0 s0 s off} (h0 : Keeps m0 s0 s) (hw0 : within 0x8000000 m0 = true := by decide) :
    Keeps m0 s0 (State.noteSelection s off) := by
  refine h0.app hw0 ?_
  unfold State.noteSelection
  try dsimp only
  repeat' first
    | with_reducible exact .refl _ _
    | with_reducible assumption
    | with_reducible refine .ite _ ?_ ?_
    | fail_if_no_progress with_reducible refine Keeps.mk' ?_
    | split
    | dsimp only

theorem State.showMarks_keeps {m0 s0 s n} (h0 : Keeps m0 s0 s) (hw0 : within 0x400000000000000000000000000000000000000000000000000000000000000000000000000000000000000000000000000000000000000000000000000000000000000000000000000000000000000000000000 m0 = true := by decide) :
    Keeps m0 s0 (State.showMarks s n) := by
  refine h0.app hw0 ?_
  unfold State.showMarks
  try dsimp only
  repeat' first
    | with_reducible exact .refl _ _
    | with_reducible assumption
    | with_reducible refine State.set_keeps (by first | assumption | (dsimp only [bank, Reg.DEC_BS_CONC_SP]; decide)) ?_
    | split
    | dsimp only

theorem State.markSp_keeps {m0 s0 s n sp num pos} (h0 : Keeps m0 s0 s) (hw0 : within 0x400000000000000000000000000000000000000000000000000000000000000000000000000000000000000000000000000000000000000000000000000000000000000000000000000000000000000000000020 m0 = true := by decide) :
    Keeps m0 s0 (State.markSp s n sp num pos) := by
  refine h0.app hw0 ?_
  unfold State.markSp
  try dsimp only
  repeat' first
    | with_reducible exact .refl _ _
    | with_reducible assumption
    | with_reducible refine .ite _ ?_ ?_
    | with_reducible refine State.updDec_keeps ?_
    | with_reducible refine State.showMarks_keeps ?_
    | fail_if_no_progress with_reducible refine Keeps.mk' ?_
    | split
    | dsimp only

theorem State.oncePic_keeps {m0 s0 s n id c w16} (h0 : Keeps m0 s0 s) (hw0 : within 0x400000000000000000000000000000000000001000000000000680000022 m0 = true := by decide) :
    Keeps m0 s0 (State.oncePic s n id c w16) := by
  refine h0.app hw0 ?_
  unfold State.oncePic
  try dsimp only
  repeat' first
    | with_reducible exact .refl _ _
    | with_reducible assumption
    | with_reducible refine .ite _ ?_ ?_
    | with_reducible refine State.setDecPic_keeps ?_
    | with_reducible refine State.raise_keeps ?_
    | fail_if_no_progress with_reducible refine Keeps.mk' ?_
    | split
    | dsimp only

theorem State.launchRow_keeps {m0 s0 s u n q k} (h0 : Keeps m0 s0 s) (hw0 : within 0x8 m0 = true := by decide) :
    Keeps m0 s0 (State.launchRow s u n q k) := by
  refine h0.app hw0 ?_
  unfold State.launchRow
  try dsimp only
  repeat' first
    | with_reducible exact .refl _ _
    | with_reducible assumption
    | with_reducible refine State.launchAt_keeps ?_
    | split
    | dsimp only

theorem State.enqueuePic_keeps {m0 s0 s n q} (h0 : Keeps m0 s0 s) (hw0 : within 0x8 m0 = true := by decide) :
    Keeps m0 s0 (State.enqueuePic s n q) := by
  refine h0.app hw0 ?_
  unfold State.enqueuePic
  try dsimp only
  repeat' first
    | with_reducible exact .refl _ _
    | with_reducible assumption
    | with_reducible refine .ite _ ?_ ?_
    | with_reducible refine State.setQueue_keeps ?_
    | with_reducible refine State.launchRow_keeps ?_
    | with_reducible refine .foldl _ _ ?_ (fun _ _ _ => ?_)
    | fail_if_no_progress with_reducible refine Keeps.mk' ?_
    | split
    | dsimp only

theorem State.queueShow_keeps {m0 s0 s n q} (h0 : Keeps m0 s0 s) (hw0 : within 0x8 m0 = true := by decide) :
    Keeps m0 s0 (State.queueShow s n q) := by
  refine h0.app hw0 ?_
  unfold State.queueShow
  try dsimp only
  repeat' first
    | with_reducible exact .refl _ _
    | with_reducible assumption
    | with_reducible refine State.launchAt_keeps ?_
    | with_reducible refine .foldl _ _ ?_ (fun _ _ _ => ?_)
    | split
    | dsimp only

theorem State.latchSel_keeps {m0 s0 s n ts} (h0 : Keeps m0 s0 s) (hw0 : within 0x20 m0 = true := by decide) :
    Keeps m0 s0 (State.latchSel s n ts) := by
  refine h0.app hw0 ?_
  unfold State.latchSel
  try dsimp only
  repeat' first
    | with_reducible exact .refl _ _
    | with_reducible assumption
    | with_reducible refine .ite _ ?_ ?_
    | with_reducible refine State.updDec_keeps ?_
    | fail_if_no_progress with_reducible refine Keeps.mk' ?_
    | split
    | dsimp only

theorem State.addPic_keeps {m0 s0 s n q} (h0 : Keeps m0 s0 s) (hw0 : within 0x20 m0 = true := by decide) :
    Keeps m0 s0 (State.addPic s n q) := by
  refine h0.app hw0 ?_
  unfold State.addPic
  try dsimp only
  repeat' first
    | with_reducible exact .refl _ _
    | with_reducible assumption
    | with_reducible refine State.updDec_keeps ?_
    | fail_if_no_progress with_reducible refine Keeps.mk' ?_
    | split
    | dsimp only

theorem State.expectNext_keeps {m0 s0 s n q} (h0 : Keeps m0 s0 s) (hw0 : within 0x20 m0 = true := by decide) :
    Keeps m0 s0 (State.expectNext s n q) := by
  refine h0.app hw0 ?_
  unfold State.expectNext
  try dsimp only
  repeat' first
    | with_reducible exact .refl _ _
    | with_reducible assumption
    | with_reducible refine .ite _ ?_ ?_
    | with_reducible refine State.addPic_keeps ?_
    | split
    | dsimp only

theorem State.retirePic_keeps {m0 s0 s n q} (h0 : Keeps m0 s0 s) (hw0 : within 0x20 m0 = true := by decide) :
    Keeps m0 s0 (State.retirePic s n q) := by
  refine h0.app hw0 ?_
  unfold State.retirePic
  try dsimp only
  repeat' first
    | with_reducible exact .refl _ _
    | with_reducible assumption
    | with_reducible refine State.setDecPic_keeps ?_
    | with_reducible refine State.updDec_keeps ?_
    | fail_if_no_progress with_reducible refine Keeps.mk' ?_
    | split
    | dsimp only

theorem State.applyStamp_keeps {m0 s0 s n q x} (h0 : Keeps m0 s0 s) (hw0 : within 0x20 m0 = true := by decide) :
    Keeps m0 s0 (State.applyStamp s n q x) := by
  refine h0.app hw0 ?_
  unfold State.applyStamp
  try dsimp only
  repeat' first
    | with_reducible exact .refl _ _
    | with_reducible assumption
    | with_reducible refine State.setDecPic_keeps ?_
    | with_reducible refine State.updDec_keeps ?_
    | fail_if_no_progress with_reducible refine Keeps.mk' ?_
    | split
    | dsimp only

theorem State.noteAccepted_keeps {m0 s0 s n p} (h0 : Keeps m0 s0 s) (hw0 : within 0x200000000000000000000000000000000000000000000000000000000000000000000000000000000000000000000000000000000000000000000000000000000000000000000000000000000000000000000020 m0 = true := by decide) :
    Keeps m0 s0 (State.noteAccepted s n p) := by
  refine h0.app hw0 ?_
  unfold State.noteAccepted
  try dsimp only
  repeat' first
    | with_reducible exact .refl _ _
    | with_reducible assumption
    | with_reducible refine State.updDec_keeps ?_
    | with_reducible refine State.set_keeps (by first | assumption | (dsimp only [bank, Reg.DEC_BS_STREAM_UP]; decide)) ?_
    | fail_if_no_progress with_reducible refine Keeps.mk' ?_
    | split
    | dsimp only

theorem State.referenceOnly_keeps {m0 s0 s n ts cap p live} (h0 : Keeps m0 s0 s) (hw0 : within 0x28 m0 = true := by decide) :
    Keeps m0 s0 (State.referenceOnly s n ts cap p live) := by
  refine h0.app hw0 ?_
  unfold State.referenceOnly
  try dsimp only
  repeat' first
    | with_reducible exact .refl _ _
    | with_reducible assumption
    | with_reducible refine .ite _ ?_ ?_
    | with_reducible refine State.addPic_keeps ?_
    | with_reducible refine State.enqueuePic_keeps ?_
    | fail_if_no_progress with_reducible refine Keeps.mk' ?_
    | split
    | dsimp only

theorem State.demote_keeps {m0 s0 s n id c} (h0 : Keeps m0 s0 s) (hw0 : within 0x400000000000000000000000000000000000001000000000000680000022 m0 = true := by decide) :
    Keeps m0 s0 (State.demote s n id c) := by
  refine h0.app hw0 ?_
  unfold State.demote
  try dsimp only
  repeat' first
    | with_reducible exact .refl _ _
    | with_reducible assumption
    | with_reducible refine State.setDecPic_keeps ?_
    | with_reducible refine State.raise_keeps ?_
    | fail_if_no_progress with_reducible refine Keeps.mk' ?_
    | split
    | dsimp only

theorem State.acceptPic_keeps {m0 s0 s n ts stamp live} (h0 : Keeps m0 s0 s) (hw0 : within 0x8420000000000000000000000000000000000000000000000000000000000000000000000000000000000000000000000000000000000040000000000000000000000000000000000000100000000000068000002a m0 = true := by decide) :
    Keeps m0 s0 (State.acceptPic s n ts stamp live) := by
  refine h0.app hw0 ?_
  unfold State.acceptPic
  try dsimp only
  repeat' first
    | with_reducible exact .refl _ _
    | with_reducible assumption
    | with_reducible refine .ite _ ?_ ?_
    | with_reducible refine State.applyStamp_keeps ?_
    | with_reducible refine State.demote_keeps ?_
    | with_reducible refine State.enqueuePic_keeps ?_
    | with_reducible refine State.raise_keeps ?_
    | with_reducible refine State.referenceOnly_keeps ?_
    | with_reducible refine State.updDec_keeps ?_
    | with_reducible refine State.setDecPic_keeps ?_
    | with_reducible refine State.addPic_keeps ?_
    | with_reducible refine State.noteAccepted_keeps ?_
    | with_reducible refine State.bump_keeps (by first | assumption | (dsimp only [bank, Reg.DEC_BS_LOAD_US, Reg.DEC_BS_NOSTAMP_CNT, Reg.DEC_BS_STALE_CNT]; decide)) ?_
    | fail_if_no_progress with_reducible refine Keeps.mk' ?_
    | split
    | dsimp only

theorem State.tryJoin_keeps {m0 s0 s n ts} (h0 : Keeps m0 s0 s) (hw0 : within 0x500000000000000000000000000000000000000000000000000000000000000000000000000000000000000000000000000000000000400000000000000000000000000000000000001000000000000680000022 m0 = true := by decide) :
    Keeps m0 s0 (State.tryJoin s n ts) := by
  refine h0.app hw0 ?_
  unfold State.tryJoin
  try dsimp only
  repeat' first
    | with_reducible exact .refl _ _
    | with_reducible assumption
    | with_reducible refine .ite _ ?_ ?_
    | with_reducible refine State.updDec_keeps ?_
    | with_reducible refine State.showMarks_keeps ?_
    | with_reducible refine State.raise_keeps ?_
    | with_reducible refine State.set_keeps (by first | assumption | (dsimp only [bank, Reg.DEC_BS_JOINED]; decide)) ?_
    | with_reducible refine .foldl _ _ ?_ (fun _ _ _ => ?_)
    | fail_if_no_progress with_reducible refine Keeps.mk' ?_
    | split
    | dsimp only

theorem State.takeSets_keeps {m0 s0 s n ps} (h0 : Keeps m0 s0 s) (hw0 : within 0x200100000000000000000000000000000000000000000000000000000000000000000000000000000000000000000000000000000000000400000000000000000000000000000000000001000000000000680000022 m0 = true := by decide) :
    Keeps m0 s0 (State.takeSets s n ps) := by
  refine h0.app hw0 ?_
  unfold State.takeSets
  try dsimp only
  repeat' first
    | with_reducible exact .refl _ _
    | with_reducible assumption
    | with_reducible refine .ite _ ?_ ?_
    | with_reducible refine State.updDec_keeps ?_
    | with_reducible refine State.raise_keeps ?_
    | with_reducible refine State.set_keeps (by first | assumption | (dsimp only [bank, Reg.DEC_BS_JOINED, Reg.DEC_BS_MISMATCH_CNT]; decide)) ?_
    | with_reducible refine State.bump_keeps (by first | assumption | (dsimp only [bank, Reg.DEC_BS_JOINED, Reg.DEC_BS_MISMATCH_CNT]; decide)) ?_
    | fail_if_no_progress with_reducible refine Keeps.mk' ?_
    | split
    | dsimp only

theorem State.copySlice_keeps {m0 s0 s n q x posted} (h0 : Keeps m0 s0 s) (hw0 : within 0x400000000000001800000000000000000000001200000000005e80000002 m0 = true := by decide) :
    Keeps m0 s0 (State.copySlice s n q x posted) := by
  refine h0.app hw0 ?_
  unfold State.copySlice
  try dsimp only [State.draw]
  repeat' first
    | with_reducible exact .refl _ _
    | with_reducible assumption
    | with_reducible refine State.bsOut_keeps ?_
    | fail_if_no_progress with_reducible refine Keeps.mk' ?_
    | split
    | dsimp only

theorem State.dupSlice_keeps {m0 s0 s n ring} (h0 : Keeps m0 s0 s) (hw0 : within 0x20000000000000000000000000000000000000000000000000600000000000000000000000000000000000000000000000000000000000000000000000000000000000000000000000000000000000000000000002 m0 = true := by decide) :
    Keeps m0 s0 (State.dupSlice s n ring) := by
  refine h0.app hw0 ?_
  unfold State.dupSlice
  try dsimp only
  repeat' first
    | with_reducible exact .refl _ _
    | with_reducible assumption
    | with_reducible refine .ite _ ?_ ?_
    | with_reducible refine State.countDup_keeps ?_
    | with_reducible refine State.bump_keeps (by first | assumption | (dsimp only [bank, Reg.DEC_BS_DUP_SLICE_CNT]; decide)) ?_
    | split
    | dsimp only

theorem State.addFragment_keeps {m0 s0 s n ts seq sp k first last bytes posted ring} (h0 : Keeps m0 s0 s) (hw0 : within 0x161000000000000000000000000000000000000000000000000600000000000000000000000000000000000000000000000000000000000400000000000001800000000000000000000001200000000005e80000022 m0 = true := by decide) :
    Keeps m0 s0 (State.addFragment s n ts seq sp k first last bytes posted ring) := by
  refine h0.app hw0 ?_
  unfold State.addFragment
  try dsimp only
  repeat' first
    | with_reducible exact .refl _ _
    | with_reducible assumption
    | with_reducible refine .ite _ ?_ ?_
    | with_reducible refine State.oncePic_keeps ?_
    | with_reducible refine State.dupSlice_keeps ?_
    | with_reducible refine State.setDecPic_keeps ?_
    | with_reducible refine State.updDec_keeps ?_
    | with_reducible refine State.copySlice_keeps ?_
    | with_reducible refine State.bump_keeps (by first | assumption | (dsimp only [bank, Reg.DEC_BS_ERR_SLICE_CNT, Reg.DEC_BS_LATE_SLICE_CNT, Reg.DEC_BS_OUTSIDE_CNT, Reg.DEC_BS_SBUF_LOG2]; decide)) ?_
    | fail_if_no_progress with_reducible refine Keeps.mk' ?_
    | split
    | dsimp only

theorem State.decContent_keeps {m0 s0 s n ts seq bytes c posted live ring} (h0 : Keeps m0 s0 s) (hw0 : within 0x3e5700000000000000000000000010000000000000000000000600000000000000000000000000000000000000000000000000000000000400000000000001800000000000000000000001200000000005e8000002a m0 = true := by decide) :
    Keeps m0 s0 (State.decContent s n ts seq bytes c posted live ring) := by
  refine h0.app hw0 ?_
  unfold State.decContent
  try dsimp only
  repeat' first
    | with_reducible exact .refl _ _
    | with_reducible assumption
    | with_reducible refine .ite _ ?_ ?_
    | with_reducible refine State.takeSets_keeps ?_
    | with_reducible refine State.acceptPic_keeps ?_
    | with_reducible refine State.tryJoin_keeps ?_
    | with_reducible refine State.updDec_keeps ?_
    | with_reducible refine State.addFragment_keeps ?_
    | with_reducible refine State.set_keeps (by first | assumption | (dsimp only [bank, Reg.ENC_BS_RUN_STATE]; decide)) ?_
    | fail_if_no_progress with_reducible refine Keeps.mk' ?_
    | split
    | dsimp only

theorem State.codedRx_keeps {m0 s0 s n p x posted} (h0 : Keeps m0 s0 s) (hw0 : within 0x900000000000000000000000003e57000000000000000000000000100000000000000000000007e013700000040000000000000000000000000000000000000c000000000400000000000001800000000000000000000001200000000005e8000406a m0 = true := by decide) :
    Keeps m0 s0 (State.codedRx s n p x posted) := by
  refine h0.app hw0 ?_
  unfold State.codedRx
  try dsimp only
  repeat' first
    | with_reducible exact .refl _ _
    | with_reducible assumption
    | with_reducible refine .ite _ ?_ ?_
    | with_reducible refine State.strayFrame_keeps ?_
    | with_reducible refine State.unmatched_keeps ?_
    | with_reducible refine State.latchSel_keeps ?_
    | with_reducible refine State.pathSeen_keeps ?_
    | with_reducible refine State.checkStrip_keeps ?_
    | with_reducible refine State.checkStrip_keepsP (by assumption) ?_
    | with_reducible refine State.decContent_keeps ?_
    | with_reducible refine State.rxPacket_keeps (fun _ _ => ?_) ?_
    | split
    | dsimp only

theorem execCodedPacketRx_keeps {r p x posted s t0} (e0 : execCodedPacketRx r p x posted s = .next t0) : Keeps 0x900000000000000000000000003e57000000000000000000000000100000000000000000000007e013700000040000000000000000000000000000000000000c000000000400000000000001800000000000000000000001200000000005e8000406a s t0 := by
  rw [← Host.Outcome.next.inj e0]
  try dsimp only
  repeat' first
    | with_reducible exact .refl _ _
    | with_reducible assumption
    | with_reducible refine State.codedRx_keeps ?_
    | split
    | dsimp only

theorem State.bsInDone_keeps {m0 s0 s r index t c} (h0 : Keeps m0 s0 s) (hw0 : within 0x680000000 m0 = true := by decide) :
    Keeps m0 s0 (State.bsInDone s r index t c) := by
  refine h0.app hw0 ?_
  unfold State.bsInDone
  try dsimp only
  repeat' first
    | with_reducible exact .refl _ _
    | with_reducible assumption
    | with_reducible refine .ite _ ?_ ?_
    | with_reducible refine State.emit_keeps ?_
    | with_reducible refine State.complete_keeps ?_
    | with_reducible refine State.updRing_keeps ?_
    | fail_if_no_progress with_reducible refine Keeps.mk' ?_
    | split
    | dsimp only

theorem State.bsInEntry_keeps {m0 s0 s r e posted} (h0 : Keeps m0 s0 s) (hw0 : within 0x3e5700000000000000000000000010000000000000000000000600000000000000000000000000000000000000000000000000000000000400000000000001800000000000000000000001a00000000005e8180002a m0 = true := by decide) :
    Keeps m0 s0 (State.bsInEntry s r e posted) := by
  refine h0.app hw0 ?_
  unfold State.bsInEntry
  try dsimp only
  repeat' first
    | with_reducible exact .refl _ _
    | with_reducible assumption
    | with_reducible refine .ite _ ?_ ?_
    | with_reducible refine State.consume_keeps ?_
    | with_reducible refine State.consume_keepsP (by assumption) ?_
    | with_reducible refine State.mirror3_keeps ?_
    | with_reducible refine State.badEntry_keeps ?_
    | with_reducible refine State.bsInDone_keeps ?_
    | with_reducible refine State.latchSel_keeps ?_
    | with_reducible refine State.decContent_keeps ?_
    | with_reducible refine State.bump_keeps (by first | assumption | (dsimp only [bank, Reg.HIF_FN_DMA_ERR_CNT]; decide)) ?_
    | fail_if_no_progress with_reducible refine Keeps.mk' ?_
    | split
    | dsimp only

theorem execBsInEntry_keeps {r e posted s t0} (e0 : execBsInEntry r e posted s = .next t0) : Keeps 0x3e5700000000000000000000000010000000000000000000000600000000000000000000000000000000000000000000000000000000000400000000000001800000000000000000000001a00000000005e8180002a s t0 := by
  rw [← Host.Outcome.next.inj e0]
  try dsimp only
  repeat' first
    | with_reducible exact .refl _ _
    | with_reducible assumption
    | with_reducible refine State.bsInEntry_keeps ?_
    | split
    | dsimp only

theorem State.conceal_keeps {m0 s0 s n id k sp} (h0 : Keeps m0 s0 s) (hw0 : within 0x400000000000000000000000000000000000000000000000000000000000000000000000000000000000000000000000000000000000000000000000000000000000000000000000000000000000000000000020 m0 = true := by decide) :
    Keeps m0 s0 (State.conceal s n id k sp) := by
  refine h0.app hw0 ?_
  unfold State.conceal
  try dsimp only
  repeat' first
    | with_reducible exact .refl _ _
    | with_reducible assumption
    | with_reducible refine State.setDecPic_keeps ?_
    | with_reducible refine State.updDec_keeps ?_
    | with_reducible refine State.markSp_keeps ?_
    | fail_if_no_progress with_reducible refine Keeps.mk' ?_
    | split
    | dsimp only

theorem State.markFresh_keeps {m0 s0 s n q} (h0 : Keeps m0 s0 s) (hw0 : within 0x400000000000000000000000000000000000000000000000000000000000000000000000000000000000000000000000000000000000000000000000000000000000000000000000000000000000000000000020 m0 = true := by decide) :
    Keeps m0 s0 (State.markFresh s n q) := by
  refine h0.app hw0 ?_
  unfold State.markFresh
  try dsimp only
  repeat' first
    | with_reducible exact .refl _ _
    | with_reducible assumption
    | with_reducible refine .ite _ ?_ ?_
    | with_reducible refine State.markSp_keeps ?_
    | with_reducible refine .foldl _ _ ?_ (fun _ _ _ => ?_)
    | split
    | dsimp only

theorem State.rowDeadline_keeps {m0 s0 s n q k} (h0 : Keeps m0 s0 s) (hw0 : within 0x6c00000000000000000000000000000000000000000000000000000000000000000000000000000000000000000000000000000000000400000000000000000000000000000000000001000000000000681004022 m0 = true := by decide) :
    Keeps m0 s0 (State.rowDeadline s n q k) := by
  refine h0.app hw0 ?_
  unfold State.rowDeadline
  try dsimp only
  repeat' first
    | with_reducible exact .refl _ _
    | with_reducible assumption
    | with_reducible refine .ite _ ?_ ?_
    | with_reducible refine State.setDecPic_keeps ?_
    | with_reducible refine State.raise_keeps ?_
    | with_reducible refine State.markFresh_keeps ?_
    | with_reducible refine State.conceal_keeps ?_
    | with_reducible refine State.oncePic_keeps ?_
    | with_reducible refine State.checkpoint_keeps ?_
    | with_reducible refine State.bump_keeps (by first | assumption | (dsimp only [bank, Reg.DEC_BS_JOINED, Reg.DEC_BS_MISS_PIC_CNT, Reg.DEC_BS_MISS_SLICE_CNT, Reg.DEC_BS_NOSTAMP_CNT]; decide)) ?_
    | with_reducible refine State.count_keeps (by first | assumption | (dsimp only [bank, Reg.DEC_BS_JOINED, Reg.DEC_BS_MISS_PIC_CNT, Reg.DEC_BS_MISS_SLICE_CNT, Reg.DEC_BS_NOSTAMP_CNT]; decide)) ?_
    | with_reducible refine .foldl _ _ ?_ (fun _ _ _ => ?_)
    | fail_if_no_progress with_reducible refine Keeps.mk' ?_
    | split
    | dsimp only

theorem State.decodeRowStart_keeps {m0 s0 s u n id k} (h0 : Keeps m0 s0 s) (hw0 : within 0x6c0000000000000000000000000000000000000000000000000000000000000000000000000000000000000000000000000000000000040000000000000000000000000000000000000100000000000068100402a m0 = true := by decide) :
    Keeps m0 s0 (State.decodeRowStart s u n id k) := by
  refine h0.app hw0 ?_
  unfold State.decodeRowStart
  try dsimp only
  repeat' first
    | with_reducible exact .refl _ _
    | with_reducible assumption
    | with_reducible refine .ite _ ?_ ?_
    | with_reducible refine State.rowDeadline_keeps ?_
    | with_reducible refine State.expectNext_keeps ?_
    | with_reducible refine State.queueShow_keeps ?_
    | with_reducible refine State.launchRow_keeps ?_
    | fail_if_no_progress with_reducible refine Keeps.mk' ?_
    | split
    | dsimp only

theorem State.clearMarks_keeps {m0 s0 s n num l} (h0 : Keeps m0 s0 s) (hw0 : within 0x400000000000000000000000000000000000000000000000000000000000000000000000000000000000000000000000000000000000400000000000000000000000000000000000001000000000000680000022 m0 = true := by decide) :
    Keeps m0 s0 (State.clearMarks s n num l) := by
  refine h0.app hw0 ?_
  unfold State.clearMarks
  try dsimp only
  repeat' first
    | with_reducible exact .refl _ _
    | with_reducible assumption
    | with_reducible refine .ite _ ?_ ?_
    | with_reducible refine State.updDec_keeps ?_
    | with_reducible refine State.showMarks_keeps ?_
    | with_reducible refine State.raise_keeps ?_
    | with_reducible refine .foldl _ _ ?_ (fun _ _ _ => ?_)
    | fail_if_no_progress with_reducible refine Keeps.mk' ?_
    | split
    | dsimp only

theorem State.compressRow_keeps {m0 s0 s n id k} (h0 : Keeps m0 s0 s) (hw0 : within 0x4000010000 m0 = true := by decide) :
    Keeps m0 s0 (State.compressRow s n id k) := by
  refine h0.app hw0 ?_
  unfold State.compressRow
  try dsimp only
  repeat' first
    | with_reducible exact .refl _ _
    | with_reducible assumption
    | with_reducible refine State.putRun_keeps ?_
    | with_reducible refine .foldl _ _ ?_ (fun _ _ _ => ?_)
    | split
    | dsimp only

theorem State.mirrorDecRow_keeps {m0 s0 s n pic k} (h0 : Keeps m0 s0 s) (hw0 : within 0x4001000000 m0 = true := by decide) :
    Keeps m0 s0 (State.mirrorDecRow s n pic k) := by
  refine h0.app hw0 ?_
  unfold State.mirrorDecRow
  try dsimp only [State.draw]
  repeat' first
    | with_reducible exact .refl _ _
    | with_reducible assumption
    | with_reducible refine .ite _ ?_ ?_
    | with_reducible refine State.mirror_keeps ?_
    | with_reducible refine .foldl _ _ ?_ (fun _ _ _ => ?_)
    | fail_if_no_progress with_reducible refine Keeps.mk' ?_
    | split
    | dsimp only

theorem State.rowDone_keeps {m0 s0 s n k sp x} (h0 : Keeps m0 s0 s) (hw0 : within 0x19400000000000000000000000000000000000000000000000000000000000000000000000000000000000000000000000000000000000400000000000000000000000000000000000001000000000004681010022 m0 = true := by decide) :
    Keeps m0 s0 (State.rowDone s n k sp x) := by
  refine h0.app hw0 ?_
  unfold State.rowDone
  split
  · exact .refl _ _
  · lift_lets
    extract_lets d lost same q1 s1 a b c e s2 s2m rows spDone s3
    have h1 : Keeps 0x19400000000000000000000000000000000000000000000000000000000000000000000000000000000000000000000000000000000000400000000000000000000000000000000000001000000000004681010022 s s1 := State.updDec_keeps (State.setDecPic_keeps (.refl _ _))
    have ha : Keeps 0x19400000000000000000000000000000000000000000000000000000000000000000000000000000000000000000000000000000000000400000000000000000000000000000000000001000000000004681010022 s a := .ite _ (State.oncePic_keeps (State.bump_keeps (by (first | assumption | (dsimp only [bank, Reg.DEC_BS_ERR_SLICE_CNT, Reg.DEC_BS_FENCE_CNT, Reg.DEC_BS_XTILE_CNT]; decide))) h1)) h1
    have hb : Keeps 0x19400000000000000000000000000000000000000000000000000000000000000000000000000000000000000000000000000000000000400000000000000000000000000000000000001000000000004681010022 s b := .ite _ (State.oncePic_keeps (State.bump_keeps (by (first | assumption | (dsimp only [bank, Reg.DEC_BS_ERR_SLICE_CNT, Reg.DEC_BS_FENCE_CNT, Reg.DEC_BS_XTILE_CNT]; decide))) ha)) ha
    have hc : Keeps 0x19400000000000000000000000000000000000000000000000000000000000000000000000000000000000000000000000000000000000400000000000000000000000000000000000001000000000004681010022 s c := State.count_keeps (by (first | assumption | (dsimp only [bank, Reg.DEC_BS_ERR_SLICE_CNT, Reg.DEC_BS_FENCE_CNT, Reg.DEC_BS_XTILE_CNT]; decide))) hb
    have he : Keeps 0x19400000000000000000000000000000000000000000000000000000000000000000000000000000000000000000000000000000000000400000000000000000000000000000000000001000000000004681010022 s e := .ite _ (State.oncePic_keeps (State.bump_keeps (by (first | assumption | (dsimp only [bank, Reg.DEC_BS_ERR_SLICE_CNT, Reg.DEC_BS_FENCE_CNT, Reg.DEC_BS_XTILE_CNT]; decide))) hc)) hc
    have h2 : Keeps 0x19400000000000000000000000000000000000000000000000000000000000000000000000000000000000000000000000000000000000400000000000000000000000000000000000001000000000004681010022 s s2 := .ite _ h1 (.ite _ (State.markSp_keeps he) he)
    have hm : Keeps 0x19400000000000000000000000000000000000000000000000000000000000000000000000000000000000000000000000000000000000400000000000000000000000000000000000001000000000004681010022 s s2m := .ite _ (State.mirrorDecRow_keeps (State.compressRow_keeps h2)) h2
    have h3 : Keeps 0x19400000000000000000000000000000000000000000000000000000000000000000000000000000000000000000000000000000000000400000000000000000000000000000000000001000000000004681010022 s s3 := .ite _ (State.updDec_keeps hm) hm
    clear_value s3
    split
    refine .ite _ ?_ h3
    split
    · dsimp only
      exact .ite _ (State.setDecPic_keeps h3) (.ite _ (State.clearMarks_keeps (State.setDecPic_keeps h3))
        (State.retirePic_keeps (State.clearMarks_keeps (State.setDecPic_keeps h3))))
    · exact h3

theorem execDecodeRowDone_keeps {n row sp x s t0} (e0 : execDecodeRowDone n row sp x s = .next t0) : Keeps 0x19400000000000000000000000000000000000000000000000000000000000000000000000000000000000000000000000000000000000400000000000000000000000000000000000001000000000004681010022 s t0 := by
  rw [← Host.Outcome.next.inj e0]
  try dsimp only
  repeat' first
    | with_reducible exact .refl _ _
    | with_reducible assumption
    | with_reducible refine State.rowDone_keeps ?_
    | split
    | dsimp only

theorem State.streamLoss_keeps {m0 s0 s n} (h0 : Keeps m0 s0 s) (hw0 : within 0x200000000000000000000000000000000000000000000000000000000000000000000000000000000000000000000000000000000000400000000000000000000000000000000000001000000000000680000022 m0 = true := by decide) :
    Keeps m0 s0 (State.streamLoss s n) := by
  refine h0.app hw0 ?_
  unfold State.streamLoss
  try dsimp only
  repeat' first
    | with_reducible exact .refl _ _
    | with_reducible assumption
    | with_reducible refine .ite _ ?_ ?_
    | with_reducible refine State.updDec_keeps ?_
    | with_reducible refine State.raise_keeps ?_
    | with_reducible refine State.set_keeps (by first | assumption | (dsimp only [bank, Reg.DEC_BS_STREAM_UP]; decide)) ?_
    | fail_if_no_progress with_reducible refine Keeps.mk' ?_
    | split
    | dsimp only

theorem execStreamLossTimeout_keeps {n s t0} (e0 : execStreamLossTimeout n s = .next t0) : Keeps 0x200000000000000000000000000000000000000000000000000000000000000000000000000000000000000000000000000000000000400000000000000000000000000000000000001000000000000680000022 s t0 := by
  rw [← Host.Outcome.next.inj e0]
  try dsimp only
  repeat' first
    | with_reducible exact .refl _ _
    | with_reducible assumption
    | with_reducible refine State.streamLoss_keeps ?_
    | split
    | dsimp only

end Sys2Proof.Machine
end

