-- ==== Sys2Proof/Laws/KeepsScanout.lean ====
section
/-! SUPPORT. What each operation of Machine/Scanout.lean may change (Laws/Keeps.lean). -/

namespace Sys2Proof.Machine

set_option Elab.async false
set_option linter.unusedTactic false
set_option linter.unusedSimpArgs false
set_option linter.unreachableTactic false

theorem State.scnEvent_keeps {m0 s0 s i k c w16} (h0 : Keeps m0 s0 s) (hw0 : within 0x400000000000000000000000000000000000001000000000000680000002 m0 = true := by decide) :
    Keeps m0 s0 (State.scnEvent s i k c w16) := by
  refine h0.app hw0 ?_
  unfold State.scnEvent
  try dsimp only
  repeat' first
    | with_reducible exact .refl _ _
    | with_reducible assumption
    | with_reducible refine .ite _ ?_ ?_
    | with_reducible refine State.latch_keeps ?_
    | with_reducible refine State.raise_keeps ?_
    | split
    | dsimp only

theorem State.frameDone_keeps {m0 s0 s i} (h0 : Keeps m0 s0 s) (hw0 : within 0x400000000000000000000000000000000000001000000000000680002002 m0 = true := by decide) :
    Keeps m0 s0 (State.frameDone s i) := by
  refine h0.app hw0 ?_
  unfold State.frameDone
  try dsimp only
  repeat' first
    | with_reducible exact .refl _ _
    | with_reducible assumption
    | with_reducible refine .ite _ ?_ ?_
    | with_reducible refine State.setScn_keeps ?_
    | with_reducible refine State.scnEvent_keeps ?_
    | fail_if_no_progress with_reducible refine Keeps.mk' ?_
    | split
    | dsimp only

theorem State.queueMem_keeps {m0 s0 s i pic} (h0 : Keeps m0 s0 s) (hw0 : within 0x8 m0 = true := by decide) :
    Keeps m0 s0 (State.queueMem s i pic) := by
  refine h0.app hw0 ?_
  unfold State.queueMem
  try dsimp only
  repeat' first
    | with_reducible exact .refl _ _
    | with_reducible assumption
    | with_reducible refine State.launchAt_keeps ?_
    | split
    | dsimp only

theorem State.startMem_keeps {m0 s0 s i} (h0 : Keeps m0 s0 s) (hw0 : within 0x8 m0 = true := by decide) :
    Keeps m0 s0 (State.startMem s i) := by
  refine h0.app hw0 ?_
  unfold State.startMem
  try dsimp only
  repeat' first
    | with_reducible exact .refl _ _
    | with_reducible assumption
    | with_reducible refine .ite _ ?_ ?_
    | with_reducible refine State.queueMem_keeps ?_
    | split
    | dsimp only

theorem State.scnDisable_keeps {m0 s0 s i} (h0 : Keeps m0 s0 s) (hw0 : within 0x600002000000000000000000000000000000000000000000000000000000000000000000000000000000000000000000000000000000000000000000000000000000000000000000000000000000000000000000680002008 m0 = true := by decide) :
    Keeps m0 s0 (State.scnDisable s i) := by
  refine h0.app hw0 ?_
  unfold State.scnDisable
  try dsimp only [State.setAll]
  repeat' first
    | with_reducible exact .refl _ _
    | with_reducible assumption
    | with_reducible refine State.cancel_keeps ?_
    | with_reducible refine State.setScn_keeps ?_
    | with_reducible refine State.set_keeps (by repeat' first | assumption | (dsimp only [bank, Reg.SCN_LANE_ENABLE, Reg.SCN_LANE_STATUS_PENDING, Reg.SCN_LANE_STATUS_STATE]; decide) | (unfold bank) | split) ?_
    | split
    | dsimp only

theorem State.scnInstall_keeps {m0 s0 s b i} (h0 : Keeps m0 s0 s) (hw0 : within 0xffe00007ef6000000000000000000000000000000000000000000000000000000000000000000000000000000000000000000000000000000000000000000000000000000000000000000000000000000000000000000000001000 m0 = true := by decide) :
    Keeps m0 s0 (State.scnInstall s b i) := by
  refine h0.app hw0 ?_
  unfold State.scnInstall
  try dsimp only
  repeat' first
    | with_reducible exact .refl _ _
    | with_reducible assumption
    | with_reducible refine .ite _ ?_ ?_
    | with_reducible refine State.sendModes_keeps ?_
    | with_reducible refine State.copyBank_keeps (by (repeat' first | with_reducible assumption | with_reducible exact inMask_nil _ | (with_reducible refine inMask_cons ?_ ?_) | (with_reducible refine inMask_append ?_ ?_) | (with_reducible refine inMask_flatMap (fun _ => ?_)) | (with_reducible refine asBit ?_; dsimp only [Function.comp, bank, Reg.SCN_LANE_CLONE_EN, Reg.SCN_LANE_CLONE_OF, Reg.SCN_LANE_ENABLE, Reg.SCN_LANE_FLIP_LEAD_NS, Reg.SCN_LANE_LINE_NS, Reg.SCN_LANE_MEM_BASE, Reg.SCN_LANE_MEM_COLORIMETRY, Reg.SCN_LANE_MEM_DEPTH, Reg.SCN_LANE_MEM_LOAD_US, Reg.SCN_LANE_MEM_PLANAR, Reg.SCN_LANE_MEM_RATE, Reg.SCN_LANE_MEM_SAMPLING, Reg.SCN_LANE_SRC_H, Reg.SCN_LANE_SRC_INDEX, Reg.SCN_LANE_SRC_KIND, Reg.SCN_LANE_SRC_W, Reg.SCN_LANE_SRC_X, Reg.SCN_LANE_SRC_Y, Reg.SCN_LANE_TILES, Reg.SCN_TILE_H, Reg.SCN_TILE_W, Reg.SCN_TILE_X, Reg.SCN_TILE_Y]; decide) | (unfold scnFields) | (simp only [List.map_map, List.map_append, List.map_cons, List.map_nil]) | (with_reducible refine inMask_ite _ ?_ ?_) | (with_reducible refine inMask_map (fun _ => ?_)))) ?_
    | split
    | dsimp only

theorem State.blankLane_keeps {m0 s0 s i f} (h0 : Keeps m0 s0 s) (hw0 : within 0x400000000000000000000000000000000000001000000000000680002002 m0 = true := by decide) :
    Keeps m0 s0 (State.blankLane s i f) := by
  refine h0.app hw0 ?_
  unfold State.blankLane
  try dsimp only
  repeat' first
    | with_reducible exact .refl _ _
    | with_reducible assumption
    | with_reducible refine State.frameDone_keeps ?_
    | with_reducible refine State.setScn_keeps ?_
    | with_reducible refine State.scnEvent_keeps ?_
    | fail_if_no_progress with_reducible refine Keeps.mk' ?_
    | split
    | dsimp only

theorem State.scnTurn_keeps {m0 s0 s i} (h0 : Keeps m0 s0 s) (hw0 : within 0x40300000000000000000000000000000000000000000000000000000000000000000000000000000000000000000000000000000000000000000000400000000000000000000000000000000000001000000000000680002002 m0 = true := by decide) :
    Keeps m0 s0 (State.scnTurn s i) := by
  refine h0.app hw0 ?_
  unfold State.scnTurn
  try dsimp only
  repeat' first
    | with_reducible exact .refl _ _
    | with_reducible assumption
    | with_reducible refine .ite _ ?_ ?_
    | with_reducible refine State.setScn_keeps ?_
    | with_reducible refine State.raise_keeps ?_
    | with_reducible refine State.scnDrop_keeps ?_
    | with_reducible refine State.scnChain_keeps ?_
    | with_reducible refine State.set_keeps (by first | assumption | (dsimp only [bank, Reg.SCN_LANE_STATUS_STATE, Reg.SCN_LANE_TRANSITION_CNT]; decide)) ?_
    | with_reducible refine State.bump_keeps (by first | assumption | (dsimp only [bank, Reg.SCN_LANE_STATUS_STATE, Reg.SCN_LANE_TRANSITION_CNT]; decide)) ?_
    | fail_if_no_progress with_reducible refine Keeps.mk' ?_
    | split
    | dsimp only

theorem State.scnFollow_keeps {m0 s0 s i} (h0 : Keeps m0 s0 s) (hw0 : within 0x40300000000000000000000000000000000000000000000000000000000000000000000000000000000000000000000000000000000000000000000400000000000000000000000000000000000001000000000000680003002 m0 = true := by decide) :
    Keeps m0 s0 (State.scnFollow s i) := by
  refine h0.app hw0 ?_
  unfold State.scnFollow
  try dsimp only
  repeat' first
    | with_reducible exact .refl _ _
    | with_reducible assumption
    | with_reducible refine .ite _ ?_ ?_
    | with_reducible refine State.sendModes_keeps ?_
    | with_reducible refine State.blankLane_keeps ?_
    | with_reducible refine State.scnTurn_keeps ?_
    | with_reducible refine .foldl _ _ ?_ (fun _ _ _ => ?_)
    | fail_if_no_progress with_reducible refine Keeps.mk' ?_
    | split
    | dsimp only

theorem State.scnCommit_keeps {m0 s0 s i} (h0 : Keeps m0 s0 s) (hw0 : within 0xffe40707ef600000000000000000000000000000000000000000000000000000000000000000000000000000000000000000000000000000000000000040000000000000000000000000000000000000100000000000068000300a m0 = true := by decide) :
    Keeps m0 s0 (State.scnCommit s i) := by
  refine h0.app hw0 ?_
  unfold State.scnCommit
  try dsimp only [State.setAll]
  repeat' first
    | with_reducible exact .refl _ _
    | with_reducible assumption
    | with_reducible refine .ite _ ?_ ?_
    | with_reducible refine State.setScn_keeps ?_
    | with_reducible refine State.cancel_keeps ?_
    | with_reducible refine State.scnInstall_keeps ?_
    | with_reducible refine State.scnFollow_keeps ?_
    | with_reducible refine State.startMem_keeps ?_
    | with_reducible refine State.scnChain_keeps ?_
    | with_reducible refine State.set_keeps (by repeat' first | assumption | (dsimp only [bank, Reg.SCN_LANE_CLONE_EN, Reg.SCN_LANE_CLONE_OF, Reg.SCN_LANE_COMMIT_LAST_STATUS, Reg.SCN_LANE_ENABLE, Reg.SCN_LANE_FLIP_LEAD_NS, Reg.SCN_LANE_LINE_NS, Reg.SCN_LANE_MEM_BASE, Reg.SCN_LANE_MEM_COLORIMETRY, Reg.SCN_LANE_MEM_DEPTH, Reg.SCN_LANE_MEM_LOAD_US, Reg.SCN_LANE_MEM_PLANAR, Reg.SCN_LANE_MEM_RATE, Reg.SCN_LANE_MEM_SAMPLING, Reg.SCN_LANE_SRC_H, Reg.SCN_LANE_SRC_INDEX, Reg.SCN_LANE_SRC_KIND, Reg.SCN_LANE_SRC_W, Reg.SCN_LANE_SRC_X, Reg.SCN_LANE_SRC_Y, Reg.SCN_LANE_STATUS_PENDING, Reg.SCN_LANE_STATUS_STATE, Reg.SCN_LANE_TILES, Reg.SCN_TILE_H, Reg.SCN_TILE_W, Reg.SCN_TILE_X, Reg.SCN_TILE_Y]; decide) | (unfold bank) | split) ?_
    | with_reducible refine State.copyBank_keeps (by (repeat' first | with_reducible assumption | with_reducible exact inMask_nil _ | (with_reducible refine inMask_cons ?_ ?_) | (with_reducible refine inMask_append ?_ ?_) | (with_reducible refine inMask_flatMap (fun _ => ?_)) | (with_reducible refine asBit ?_; dsimp only [Function.comp, bank, Reg.SCN_LANE_CLONE_EN, Reg.SCN_LANE_CLONE_OF, Reg.SCN_LANE_COMMIT_LAST_STATUS, Reg.SCN_LANE_ENABLE, Reg.SCN_LANE_FLIP_LEAD_NS, Reg.SCN_LANE_LINE_NS, Reg.SCN_LANE_MEM_BASE, Reg.SCN_LANE_MEM_COLORIMETRY, Reg.SCN_LANE_MEM_DEPTH, Reg.SCN_LANE_MEM_LOAD_US, Reg.SCN_LANE_MEM_PLANAR, Reg.SCN_LANE_MEM_RATE, Reg.SCN_LANE_MEM_SAMPLING, Reg.SCN_LANE_SRC_H, Reg.SCN_LANE_SRC_INDEX, Reg.SCN_LANE_SRC_KIND, Reg.SCN_LANE_SRC_W, Reg.SCN_LANE_SRC_X, Reg.SCN_LANE_SRC_Y, Reg.SCN_LANE_STATUS_PENDING, Reg.SCN_LANE_STATUS_STATE, Reg.SCN_LANE_TILES, Reg.SCN_TILE_H, Reg.SCN_TILE_W, Reg.SCN_TILE_X, Reg.SCN_TILE_Y]; decide) | (unfold bank) | (unfold scnFields) | (simp only [List.map_map, List.map_append, List.map_cons, List.map_nil]) | (with_reducible refine inMask_ite _ ?_ ?_) | (with_reducible refine inMask_map (fun _ => ?_)))) ?_
    | fail_if_no_progress with_reducible refine Keeps.mk' ?_
    | split
    | dsimp only

theorem execScnLaneCommit_keeps {w i s t0} (e0 : execScnLaneCommit w i s = .next t0) : Keeps 0xffe40707ef6000000000000000000000000000000000000000000000000000000000000000000000000000000000000000000000000000000000000000400000000000001800000000000000000000001000000000001e8100300a s t0 := by
  rw [← Host.Outcome.next.inj e0]
  try dsimp only
  repeat' first
    | with_reducible exact .refl _ _
    | with_reducible assumption
    | with_reducible refine State.scnCommit_keeps ?_
    | with_reducible refine State.logReg_keeps ?_
    | with_reducible refine State.byWriter_keeps (fun _ _ => ?_) ?_
    | split
    | dsimp only

theorem State.loadFrame_keeps {m0 s0 s i pic num p still} (h0 : Keeps m0 s0 s) (hw0 : within 0x200000000000000000000000000000000000000000000000000000000000000000000000000000000000000000000000000000000000000000000000000000000000000000000000000000000000000000000000000003000 m0 = true := by decide) :
    Keeps m0 s0 (State.loadFrame s i pic num p still) := by
  refine h0.app hw0 ?_
  unfold State.loadFrame
  try dsimp only
  repeat' first
    | with_reducible exact .refl _ _
    | with_reducible assumption
    | with_reducible refine State.setScn_keeps ?_
    | with_reducible refine State.sendLink_keeps ?_
    | with_reducible refine State.set_keeps (by first | assumption | (dsimp only [bank, Reg.SCN_LANE_STATUS_STATE]; decide)) ?_
    | fail_if_no_progress with_reducible refine Keeps.mk' ?_
    | split
    | dsimp only

theorem State.frameBegin_keeps {m0 s0 s i pic num p still} (h0 : Keeps m0 s0 s) (hw0 : within 0x300000000000000000000000000000000000000000000000000000000000000000000000000000000000000000000000000000000000000000000400000000000000000000000000000000000001000000000000680003002 m0 = true := by decide) :
    Keeps m0 s0 (State.frameBegin s i pic num p still) := by
  refine h0.app hw0 ?_
  unfold State.frameBegin
  try dsimp only
  repeat' first
    | with_reducible exact .refl _ _
    | with_reducible assumption
    | with_reducible refine .ite _ ?_ ?_
    | with_reducible refine State.loadFrame_keeps ?_
    | with_reducible refine State.scnChain_keeps ?_
    | with_reducible refine State.setScn_keeps ?_
    | with_reducible refine State.raise_keeps ?_
    | fail_if_no_progress with_reducible refine Keeps.mk' ?_
    | split
    | dsimp only

theorem State.latchDec_keeps {m0 s0 s n q} (h0 : Keeps m0 s0 s) (hw0 : within 0xf0f002ffffffff387ff8000000000000000000000000000000000000000000000000000000000004000000000000000000000000000000000000010000000000006810005a2 m0 = true := by decide) :
    Keeps m0 s0 (State.latchDec s n q) := by
  refine h0.app hw0 ?_
  unfold State.latchDec
  try dsimp only
  repeat' first
    | with_reducible exact .refl _ _
    | with_reducible assumption
    | with_reducible refine .ite _ ?_ ?_
    | with_reducible refine State.cmpLatch_keeps ?_
    | with_reducible refine State.mirrorSafRow_keeps ?_
    | with_reducible refine State.setDecPic_keeps ?_
    | with_reducible refine .foldl _ _ ?_ (fun _ _ _ => ?_)
    | fail_if_no_progress with_reducible refine Keeps.mk' ?_
    | split
    | dsimp only

theorem State.frameStartFired_keeps {m0 s0 s i pic} (h0 : Keeps m0 s0 s) (hw0 : within 0x30000000000000000000000000000000000000f0f002ffffffff387ff8000000000000000000000000000000000000000000000000000000000004000000000000000000000000000000000000010000000000006810035aa m0 = true := by decide) :
    Keeps m0 s0 (State.frameStartFired s i pic) := by
  refine h0.app hw0 ?_
  unfold State.frameStartFired
  try dsimp only
  repeat' first
    | with_reducible exact .refl _ _
    | with_reducible assumption
    | with_reducible refine .ite _ ?_ ?_
    | with_reducible refine State.frameBegin_keeps ?_
    | with_reducible refine State.queueMem_keeps ?_
    | with_reducible refine State.latchDec_keeps ?_
    | fail_if_no_progress with_reducible refine Keeps.mk' ?_
    | split
    | dsimp only

theorem State.lineOpen_keeps {m0 s0 s i} (h0 : Keeps m0 s0 s) (hw0 : within 0x400000000000000000000000000000000000001000000000000680002002 m0 = true := by decide) :
    Keeps m0 s0 (State.lineOpen s i) := by
  refine h0.app hw0 ?_
  unfold State.lineOpen
  try dsimp only
  repeat' first
    | with_reducible exact .refl _ _
    | with_reducible assumption
    | with_reducible refine .ite _ ?_ ?_
    | with_reducible refine State.setScn_keeps ?_
    | with_reducible refine State.scnEvent_keeps ?_
    | fail_if_no_progress with_reducible refine Keeps.mk' ?_
    | split
    | dsimp only

theorem execLaneLineOpen_keeps {i s t0} (e0 : execLaneLineOpen i s = .next t0) : Keeps 0x400000000000000000000000000000000000001000000000000680002002 s t0 := by
  rw [← Host.Outcome.next.inj e0]
  try dsimp only
  repeat' first
    | with_reducible exact .refl _ _
    | with_reducible assumption
    | with_reducible refine State.lineOpen_keeps ?_
    | split
    | dsimp only

theorem State.rowNak_keeps {m0 s0 s i tile line reason} (h0 : Keeps m0 s0 s) (hw0 : within 0x8000000000000000000000000000000000000000000000000000000000000000000000000000000000000000000000000000000000000000000000400000000000001800000000000000000000001000000000001e80001002 m0 = true := by decide) :
    Keeps m0 s0 (State.rowNak s i tile line reason) := by
  refine h0.app hw0 ?_
  unfold State.rowNak
  try dsimp only
  repeat' first
    | with_reducible exact .refl _ _
    | with_reducible assumption
    | with_reducible refine .ite _ ?_ ?_
    | with_reducible refine State.sendLink_keeps ?_
    | with_reducible refine State.limitNote_keeps ?_
    | with_reducible refine State.logUnit_keeps ?_
    | with_reducible refine State.raise_keeps ?_
    | with_reducible refine State.bump_keeps (by first | assumption | (dsimp only [bank, Reg.SCN_LANE_ENABLE, Reg.SCN_LANE_PROTO_CNT]; decide)) ?_
    | split
    | dsimp only

theorem State.noteLate_keeps {m0 s0 s i l} (h0 : Keeps m0 s0 s) (hw0 : within 0x2000 m0 = true := by decide) :
    Keeps m0 s0 (State.noteLate s i l) := by
  refine h0.app hw0 ?_
  unfold State.noteLate
  try dsimp only
  repeat' first
    | with_reducible exact .refl _ _
    | with_reducible assumption
    | with_reducible refine State.setScn_keeps ?_
    | fail_if_no_progress with_reducible refine Keeps.mk' ?_
    | split
    | dsimp only

theorem State.answerLine_keeps {m0 s0 s i tile line f shows ready again} (h0 : Keeps m0 s0 s) (hw0 : within 0x16000000000000000000000000000000000000000000000000000000000000000000000000000000000000000000000000000000000000000000000400000000000000000000000000000000000001000000000000680003002 m0 = true := by decide) :
    Keeps m0 s0 (State.answerLine s i tile line f shows ready again) := by
  refine h0.app hw0 ?_
  unfold State.answerLine
  try dsimp only
  repeat' first
    | with_reducible exact .refl _ _
    | with_reducible assumption
    | with_reducible refine .ite _ ?_ ?_
    | with_reducible refine State.sendLink_keeps ?_
    | with_reducible refine State.noteLate_keeps ?_
    | with_reducible refine State.setScn_keeps ?_
    | with_reducible refine State.scnEvent_keeps ?_
    | with_reducible refine State.bump_keeps (by first | assumption | (dsimp only [bank, Reg.SCN_LANE_DUP_REQ_CNT, Reg.SCN_LANE_NOTREADY_CNT, Reg.SCN_LANE_UNDERRUN_CNT, Reg.SCN_TILE_Y]; decide)) ?_
    | fail_if_no_progress with_reducible refine Keeps.mk' ?_
    | split
    | dsimp only

theorem State.rowReq_keeps {m0 s0 s i tile line ready} (h0 : Keeps m0 s0 s) (hw0 : within 0x1e000000000000000000000000000000000000000000000000000000000000000000000000000000000000000000000000000000000000000000000400000000000001800000000000000000000001000000000001e80003002 m0 = true := by decide) :
    Keeps m0 s0 (State.rowReq s i tile line ready) := by
  refine h0.app hw0 ?_
  unfold State.rowReq
  try dsimp only
  repeat' first
    | with_reducible exact .refl _ _
    | with_reducible assumption
    | with_reducible refine .ite _ ?_ ?_
    | with_reducible refine State.rowNak_keeps ?_
    | with_reducible refine State.setScn_keeps ?_
    | with_reducible refine State.answerLine_keeps ?_
    | with_reducible refine State.frameDone_keeps ?_
    | fail_if_no_progress with_reducible refine Keeps.mk' ?_
    | split
    | dsimp only

theorem execRowReqRx_keeps {i tile line ready s t0} (e0 : execRowReqRx i tile line ready s = .next t0) : Keeps 0x1e000000000000000000000000000000000000000000000000000000000000000000000000000000000000000000000000000000000000000000000400000000000001800000000000000000000001000000000001e80003002 s t0 := by
  rw [← Host.Outcome.next.inj e0]
  try dsimp only
  repeat' first
    | with_reducible exact .refl _ _
    | with_reducible assumption
    | with_reducible refine State.rowReq_keeps ?_
    | split
    | dsimp only

theorem State.scnApply_keeps {m0 s0 s i} (h0 : Keeps m0 s0 s) (hw0 : within 0xffe40707ef6000000000000000000000000000000000000000000000000000000000000000000000000000000000000000000000000000000000000000400000000000000000000000000000000000001000000000000680003002 m0 = true := by decide) :
    Keeps m0 s0 (State.scnApply s i) := by
  refine h0.app hw0 ?_
  unfold State.scnApply
  try dsimp only
  repeat' first
    | with_reducible exact .refl _ _
    | with_reducible assumption
    | with_reducible refine State.scnInstall_keeps ?_
    | with_reducible refine State.setScn_keeps ?_
    | with_reducible refine State.scnTurn_keeps ?_
    | with_reducible refine State.scnFollow_keeps ?_
    | with_reducible refine State.set_keeps (by first | assumption | (dsimp only [bank, Reg.SCN_LANE_STATUS_PENDING]; decide)) ?_
    | fail_if_no_progress with_reducible refine Keeps.mk' ?_
    | split
    | dsimp only

theorem State.scnSleep_keeps {m0 s0 s i f} (h0 : Keeps m0 s0 s) (hw0 : within 0x20200000000000000000000000000000000000000000000000000000000000000000000000000000000000000000000000000000000000000000000400000000000000000000000000000000000001000000000000680003002 m0 = true := by decide) :
    Keeps m0 s0 (State.scnSleep s i f) := by
  refine h0.app hw0 ?_
  unfold State.scnSleep
  try dsimp only
  repeat' first
    | with_reducible exact .refl _ _
    | with_reducible assumption
    | with_reducible refine .ite _ ?_ ?_
    | with_reducible refine State.sendLink_keeps ?_
    | with_reducible refine State.setScn_keeps ?_
    | with_reducible refine State.raise_keeps ?_
    | with_reducible refine State.set_keeps (by first | assumption | (dsimp only [bank, Reg.AKN_STATUS_VERSION, Reg.SCN_LANE_SRC_INDEX, Reg.SCN_LANE_SR_EN, Reg.SCN_LANE_SR_ENTER_CNT, Reg.SCN_LANE_SR_FRAMES, Reg.SCN_LANE_STATUS_STATE]; decide)) ?_
    | with_reducible refine State.bump_keeps (by first | assumption | (dsimp only [bank, Reg.AKN_STATUS_VERSION, Reg.SCN_LANE_SRC_INDEX, Reg.SCN_LANE_SR_EN, Reg.SCN_LANE_SR_ENTER_CNT, Reg.SCN_LANE_SR_FRAMES, Reg.SCN_LANE_STATUS_STATE]; decide)) ?_
    | fail_if_no_progress with_reducible refine Keeps.mk' ?_
    | split
    | dsimp only

theorem State.startBlanking_keeps {m0 s0 s i} (h0 : Keeps m0 s0 s) (hw0 : within 0xffe60707ef600000000000000000000000000000000f4f0000000000000000000000000000000000000000000000000000000000000000000000000000400000000000000000000000000000000000001000000000000680003122 m0 = true := by decide) :
    Keeps m0 s0 (State.startBlanking s i) := by
  refine h0.app hw0 ?_
  unfold State.startBlanking
  try dsimp only
  repeat' first
    | with_reducible exact .refl _ _
    | with_reducible assumption
    | with_reducible refine .ite _ ?_ ?_
    | with_reducible refine State.blankLane_keeps ?_
    | with_reducible refine State.setDecPic_keeps ?_
    | with_reducible refine State.cmpEnd_keeps ?_
    | with_reducible refine State.scnApply_keeps ?_
    | with_reducible refine State.scnSleep_keeps ?_
    | fail_if_no_progress with_reducible refine Keeps.mk' ?_
    | split
    | dsimp only

theorem execStartOfBlanking_keeps {i s t0} (e0 : execStartOfBlanking i s = .next t0) : Keeps 0xffe60707ef600000000000000000000000000000000f4f0000000000000000000000000000000000000000000000000000000000000000000000000000400000000000000000000000000000000000001000000000000680003122 s t0 := by
  rw [← Host.Outcome.next.inj e0]
  try dsimp only
  repeat' first
    | with_reducible exact .refl _ _
    | with_reducible assumption
    | with_reducible refine State.startBlanking_keeps ?_
    | split
    | dsimp only

theorem State.slotPresents_keeps {m0 s0 s n q} (h0 : Keeps m0 s0 s) (hw0 : within 0x1800400000000000000000000000000000000000000000000000000000000000000000000000000000000000000000000000000000000000400000000000000000000000000000000000001000000000000680000022 m0 = true := by decide) :
    Keeps m0 s0 (State.slotPresents s n q) := by
  refine h0.app hw0 ?_
  unfold State.slotPresents
  try dsimp only [State.setAll]
  repeat' first
    | with_reducible exact .refl _ _
    | with_reducible assumption
    | with_reducible refine .ite _ ?_ ?_
    | with_reducible refine State.oncePic_keeps ?_
    | with_reducible refine State.clearMarks_keeps ?_
    | with_reducible refine State.retirePic_keeps ?_
    | with_reducible refine State.set_keeps (by first | assumption | (dsimp only [bank, Reg.DEC_BS_LAST_PDT_NS, Reg.DEC_BS_LAST_PDT_SEC]; decide)) ?_
    | fail_if_no_progress with_reducible refine Keeps.mk' ?_
    | split
    | dsimp only

theorem State.presentTick_keeps {m0 s0 s} (h0 : Keeps m0 s0 s) (hw0 : within 0x1800400000000000000000000000000000000000000000000000000000000000000000000000000000000000000000000000000000000000400000000000000000000000000000000000001000000000000680000022 m0 = true := by decide) :
    Keeps m0 s0 (State.presentTick s) := by
  refine h0.app hw0 ?_
  unfold State.presentTick
  try dsimp only
  repeat' first
    | with_reducible exact .refl _ _
    | with_reducible assumption
    | with_reducible refine .ite _ ?_ ?_
    | with_reducible refine State.slotPresents_keeps ?_
    | with_reducible refine .foldl _ _ ?_ (fun _ _ _ => ?_)
    | split
    | dsimp only

theorem State.flip_keeps {m0 s0 s i pic num} (h0 : Keeps m0 s0 s) (hw0 : within 0x80000000000000000000000000000000000000000000000000000000000000000000000000000000000000000000000000000000000000000000000000000000000000000000000000000000000000000000000000000003002 m0 = true := by decide) :
    Keeps m0 s0 (State.flip s i pic num) := by
  refine h0.app hw0 ?_
  unfold State.flip
  try dsimp only
  repeat' first
    | with_reducible exact .refl _ _
    | with_reducible assumption
    | with_reducible refine .ite _ ?_ ?_
    | with_reducible refine State.setScn_keeps ?_
    | with_reducible refine State.sendLink_keeps ?_
    | with_reducible refine State.bump_keeps (by first | assumption | (dsimp only [bank, Reg.SCN_LANE_FRAME_CNT]; decide)) ?_
    | fail_if_no_progress with_reducible refine Keeps.mk' ?_
    | split
    | dsimp only

theorem State.presentLate_keeps {m0 s0 s i pic} (h0 : Keeps m0 s0 s) (hw0 : within 0x40000000000000000000000000000000000000000000000000000000000000000000000000000000000000000000000000000000000040000000000000000000000000000000000000100000000000068000002a m0 = true := by decide) :
    Keeps m0 s0 (State.presentLate s i pic) := by
  refine h0.app hw0 ?_
  unfold State.presentLate
  try dsimp only
  repeat' first
    | with_reducible exact .refl _ _
    | with_reducible assumption
    | with_reducible refine .ite _ ?_ ?_
    | with_reducible refine State.oncePic_keeps ?_
    | with_reducible refine State.cancel_keeps ?_
    | with_reducible refine State.clearMarks_keeps ?_
    | with_reducible refine State.retirePic_keeps ?_
    | with_reducible refine .foldl _ _ ?_ (fun _ _ _ => ?_)
    | fail_if_no_progress with_reducible refine Keeps.mk' ?_
    | split
    | dsimp only

theorem State.presentFired_keeps {m0 s0 s i pic} (h0 : Keeps m0 s0 s) (hw0 : within 0x80000001800400000000000000000000000000000000000000000000000000000000000000000000000000000000000000000000000000000000000400000000000000000000000000000000000001000000000000680003022 m0 = true := by decide) :
    Keeps m0 s0 (State.presentFired s i pic) := by
  refine h0.app hw0 ?_
  unfold State.presentFired
  try dsimp only
  repeat' first
    | with_reducible exact .refl _ _
    | with_reducible assumption
    | with_reducible refine .ite _ ?_ ?_
    | with_reducible refine State.flip_keeps ?_
    | with_reducible refine State.slotPresents_keeps ?_
    | fail_if_no_progress with_reducible refine Keeps.mk' ?_
    | split
    | dsimp only

end Sys2Proof.Machine
end

