-- ==== Sys2Proof/Laws/KeepsAudio.lean ====
section
/-! SUPPORT. What each operation of Machine/Audio.lean may change (Laws/Keeps.lean). -/

namespace Sys2Proof.Machine

set_option Elab.async false
set_option linter.unusedTactic false
set_option linter.unusedSimpArgs false
set_option linter.unreachableTactic false

theorem State.setAudIn_keeps {m0 s0 s k x} (h0 : Keeps m0 s0 s) (hw0 : within 0x8000 m0 = true := by decide) :
    Keeps m0 s0 (State.setAudIn s k x) := by
  refine h0.app hw0 ?_
  unfold State.setAudIn
  try dsimp only
  repeat' first
    | with_reducible exact .refl _ _
    | with_reducible assumption
    | fail_if_no_progress with_reducible refine Keeps.mk' ?_
    | split
    | dsimp only

theorem State.setAudOut_keeps {m0 s0 s k x} (h0 : Keeps m0 s0 s) (hw0 : within 0x8000 m0 = true := by decide) :
    Keeps m0 s0 (State.setAudOut s k x) := by
  refine h0.app hw0 ?_
  unfold State.setAudOut
  try dsimp only
  repeat' first
    | with_reducible exact .refl _ _
    | with_reducible assumption
    | fail_if_no_progress with_reducible refine Keeps.mk' ?_
    | split
    | dsimp only

theorem State.setAudCh_keeps {m0 s0 s c x} (h0 : Keeps m0 s0 s) (hw0 : within 0x8000 m0 = true := by decide) :
    Keeps m0 s0 (State.setAudCh s c x) := by
  refine h0.app hw0 ?_
  unfold State.setAudCh
  try dsimp only
  repeat' first
    | with_reducible exact .refl _ _
    | with_reducible assumption
    | fail_if_no_progress with_reducible refine Keeps.mk' ?_
    | split
    | dsimp only

theorem State.freeSample_keeps {m0 s0 s} (h0 : Keeps m0 s0 s) (hw0 : within 0x4000000000 m0 = true := by decide) :
    Keeps m0 s0 (State.freeSample s).2 := by
  refine h0.app hw0 ?_
  unfold State.freeSample
  try dsimp only [State.draw]
  repeat' first
    | with_reducible exact .refl _ _
    | with_reducible assumption
    | fail_if_no_progress with_reducible refine Keeps.mk' ?_
    | split
    | dsimp only

theorem State.freeSample_keepsP {m0 s0 t0 x0 s} (e0 : State.freeSample s = (x0, t0)) (h0 : Keeps m0 s0 s)
    (hw0 : within 0x4000000000 m0 = true := by decide) : Keeps m0 s0 t0 := by
  have := State.freeSample_keeps (s := s) h0 hw0
  rwa [e0] at this

theorem State.keepSample_keeps {m0 s0 s c cap v} (h0 : Keeps m0 s0 s) (hw0 : within 0x8000 m0 = true := by decide) :
    Keeps m0 s0 (State.keepSample s c cap v) := by
  refine h0.app hw0 ?_
  unfold State.keepSample
  try dsimp only
  repeat' first
    | with_reducible exact .refl _ _
    | with_reducible assumption
    | fail_if_no_progress with_reducible refine Keeps.mk' ?_
    | split
    | dsimp only

theorem State.inSample_keeps {m0 s0 s c srate x} (h0 : Keeps m0 s0 s) (hw0 : within 0x4000000000 m0 = true := by decide) :
    Keeps m0 s0 (State.inSample s c srate x).2 := by
  refine h0.app hw0 ?_
  unfold State.inSample
  try dsimp only
  repeat' first
    | with_reducible exact .refl _ _
    | with_reducible assumption
    | with_reducible refine .ite _ ?_ ?_
    | with_reducible refine State.freeSample_keeps ?_
    | with_reducible refine State.freeSample_keepsP (by assumption) ?_
    | fail_if_no_progress with_reducible refine Keeps.mk' ?_
    | split
    | dsimp only

theorem State.inSample_keepsP {m0 s0 t0 x0 s c srate x} (e0 : State.inSample s c srate x = (x0, t0)) (h0 : Keeps m0 s0 s)
    (hw0 : within 0x4000000000 m0 = true := by decide) : Keeps m0 s0 t0 := by
  have := State.inSample_keeps (s := s) (c := c) (srate := srate) (x := x) h0 hw0
  rwa [e0] at this

theorem State.routed_keeps {m0 s0 s c srate y} (h0 : Keeps m0 s0 s) (hw0 : within 0x4000008000 m0 = true := by decide) :
    Keeps m0 s0 (State.routed s c srate y).2 := by
  refine h0.app hw0 ?_
  unfold State.routed
  try dsimp only
  repeat' first
    | with_reducible exact .refl _ _
    | with_reducible assumption
    | with_reducible refine .ite _ ?_ ?_
    | with_reducible refine State.setAudCh_keeps ?_
    | with_reducible refine State.inSample_keeps ?_
    | with_reducible refine State.inSample_keepsP (by assumption) ?_
    | fail_if_no_progress with_reducible refine Keeps.mk' ?_
    | split
    | dsimp only

theorem State.routed_keepsP {m0 s0 t0 x0 s c srate y} (e0 : State.routed s c srate y = (x0, t0)) (h0 : Keeps m0 s0 s)
    (hw0 : within 0x4000008000 m0 = true := by decide) : Keeps m0 s0 t0 := by
  have := State.routed_keeps (s := s) (c := c) (srate := srate) (y := y) h0 hw0
  rwa [e0] at this

theorem State.cmdDone_keeps {m0 s0 s x} (h0 : Keeps m0 s0 s) (hw0 : within 0x680000000 m0 = true := by decide) :
    Keeps m0 s0 (State.cmdDone s x) := by
  unfold State.cmdDone
  split
  · exact h0
  · exact .ite _ h0 (State.complete_keeps h0 (within_trans (by decide) hw0))

theorem State.pendChange_keeps {m0 s0 s c a cmd} (h0 : Keeps m0 s0 s) (hw0 : within 0x680008000 m0 = true := by decide) :
    Keeps m0 s0 (State.pendChange s c a cmd) := by
  refine h0.app hw0 ?_
  unfold State.pendChange
  try dsimp only
  repeat' first
    | with_reducible exact .refl _ _
    | with_reducible assumption
    | with_reducible refine State.setAudCh_keeps ?_
    | with_reducible refine State.cmdDone_keeps ?_
    | fail_if_no_progress with_reducible refine Keeps.mk' ?_
    | split
    | dsimp only

theorem State.switchRoute_keeps {m0 s0 s c src sel us} (h0 : Keeps m0 s0 s) (hw0 : within 0xe0000000000000000000000000000000000000000000000000000000000000000000000000000000000000000000000000000000000000000000000000000000000000000000000000000000000000000000000000000000000000000000008000 m0 = true := by decide) :
    Keeps m0 s0 (State.switchRoute s c src sel us) := by
  refine h0.app hw0 ?_
  unfold State.switchRoute
  try dsimp only [State.setAll]
  repeat' first
    | with_reducible exact .refl _ _
    | with_reducible assumption
    | with_reducible refine State.setAudCh_keeps ?_
    | with_reducible refine State.set_keeps (by repeat' first | assumption | (dsimp only [bank, Reg.AUD_ROUTE_DELAY_SEL, Reg.AUD_ROUTE_DELAY_US, Reg.AUD_ROUTE_SRC]; decide) | (unfold bank) | split) ?_
    | fail_if_no_progress with_reducible refine Keeps.mk' ?_
    | split
    | dsimp only

theorem State.applyChange_keeps {m0 s0 s c ramp} (h0 : Keeps m0 s0 s) (hw0 : within 0xe0000000000000000000000000000000000000000000000000000000000000000000000000000000000000000000000000000000000000000000000000000000000000000000000000000000000000000000000000000000000000000680008000 m0 = true := by decide) :
    Keeps m0 s0 (State.applyChange s c ramp) := by
  refine h0.app hw0 ?_
  unfold State.applyChange
  try dsimp only
  repeat' first
    | with_reducible exact .refl _ _
    | with_reducible assumption
    | with_reducible refine .ite _ ?_ ?_
    | with_reducible refine State.setAudCh_keeps ?_
    | with_reducible refine State.cmdDone_keeps ?_
    | with_reducible refine State.switchRoute_keeps ?_
    | fail_if_no_progress with_reducible refine Keeps.mk' ?_
    | split
    | dsimp only

theorem State.crossing_keeps {m0 s0 s c} (h0 : Keeps m0 s0 s) (hw0 : within 0xe0000000000000000000000000000000000000000000000000000000000000000000000000000000000000000000000000000000000000000000000000000000000000000000000000000000000000000000000000000000000000004680008000 m0 = true := by decide) :
    Keeps m0 s0 (State.crossing s c) := by
  refine h0.app hw0 ?_
  unfold State.crossing
  try dsimp only
  repeat' first
    | with_reducible exact .refl _ _
    | with_reducible assumption
    | with_reducible refine .ite _ ?_ ?_
    | with_reducible refine State.applyChange_keeps ?_
    | with_reducible refine State.routed_keeps ?_
    | with_reducible refine State.routed_keepsP (by assumption) ?_
    | fail_if_no_progress with_reducible refine Keeps.mk' ?_
    | split
    | dsimp only

theorem execZeroCrossingChange_keeps {c s t0} (e0 : execZeroCrossingChange c s = .next t0) : Keeps 0xe0000000000000000000000000000000000000000000000000000000000000000000000000000000000000000000000000000000000000000000000000000000000000000000000000000000000000000000000000000000000000004680008000 s t0 := by
  rw [← Host.Outcome.next.inj e0]
  try dsimp only
  repeat' first
    | with_reducible exact .refl _ _
    | with_reducible assumption
    | with_reducible refine State.crossing_keeps ?_
    | split
    | dsimp only

theorem State.crossingTimeout_keeps {m0 s0 s c} (h0 : Keeps m0 s0 s) (hw0 : within 0xe0020000000000000000000000000000000000000000000000000000000000000000000000000000000000000000000000000000000000000000000000000000000000400000000000000000000000000000000000001000000000000680008002 m0 = true := by decide) :
    Keeps m0 s0 (State.crossingTimeout s c) := by
  refine h0.app hw0 ?_
  unfold State.crossingTimeout
  try dsimp only
  repeat' first
    | with_reducible exact .refl _ _
    | with_reducible assumption
    | with_reducible refine .ite _ ?_ ?_
    | with_reducible refine State.applyChange_keeps ?_
    | with_reducible refine State.raise_keeps ?_
    | with_reducible refine State.bump_keeps (by first | assumption | (dsimp only [bank, Reg.AUD_OUT_ZC_TO_CNT]; decide)) ?_
    | fail_if_no_progress with_reducible refine Keeps.mk' ?_
    | split
    | dsimp only

theorem execZcTimeout_keeps {c s t0} (e0 : execZcTimeout c s = .next t0) : Keeps 0xe0020000000000000000000000000000000000000000000000000000000000000000000000000000000000000000000000000000000000000000000000000000000000400000000000000000000000000000000000001000000000000680008002 s t0 := by
  rw [← Host.Outcome.next.inj e0]
  try dsimp only
  repeat' first
    | with_reducible exact .refl _ _
    | with_reducible assumption
    | with_reducible refine State.crossingTimeout_keeps ?_
    | split
    | dsimp only

theorem State.releaseSample_keeps {m0 s0 s k c y} (h0 : Keeps m0 s0 s) (hw0 : within 0xe0010000000000000000000000000000000000000000000000000000000000000000000000000000000000000000000000000000000000000000000000000000000000400000000000000000000000000000000000001000000000005680008002 m0 = true := by decide) :
    Keeps m0 s0 (State.releaseSample s k c y).2 := by
  refine h0.app hw0 ?_
  unfold State.releaseSample
  try dsimp only
  repeat' first
    | with_reducible exact .refl _ _
    | with_reducible assumption
    | with_reducible refine .ite _ ?_ ?_
    | with_reducible refine State.routed_keeps ?_
    | with_reducible refine State.routed_keepsP (by assumption) ?_
    | with_reducible refine State.applyChange_keeps ?_
    | with_reducible refine State.setAudCh_keeps ?_
    | with_reducible refine State.raiseLimited_keeps ?_
    | with_reducible refine State.switchRoute_keeps ?_
    | with_reducible refine State.bump_keeps (by first | assumption | (dsimp only [bank, Reg.AUD_OUT_UNDERRUN_CNT]; decide)) ?_
    | fail_if_no_progress with_reducible refine Keeps.mk' ?_
    | split
    | dsimp only

theorem State.releaseSample_keepsP {m0 s0 t0 x0 s k c y} (e0 : State.releaseSample s k c y = (x0, t0)) (h0 : Keeps m0 s0 s)
    (hw0 : within 0xe0010000000000000000000000000000000000000000000000000000000000000000000000000000000000000000000000000000000000000000000000000000000000400000000000000000000000000000000000001000000000005680008002 m0 = true := by decide) : Keeps m0 s0 t0 := by
  have := State.releaseSample_keeps (s := s) (k := k) (c := c) (y := y) h0 hw0
  rwa [e0] at this

theorem State.releaseChans_keeps {m0 s0 k y l s} (h0 : Keeps m0 s0 s) (hw0 : within 0xe0010000000000000000000000000000000000000000000000000000000000000000000000000000000000000000000000000000000000000000000000000000000000400000000000000000000000000000000000001000000000005680008002 m0 = true := by decide) :
    Keeps m0 s0 (State.releaseChans k y l s).2 := by
  refine h0.app hw0 ?_
  clear h0 hw0
  induction l generalizing s with
  | nil => exact .refl _ _
  | cons c l ih =>
    unfold State.releaseChans
    exact Keeps.trans (State.releaseSample_keeps (.refl _ _)) (ih (s := _))

theorem State.releaseChans_keepsP {m0 s0 t0 x0 k y l s} (e0 : State.releaseChans k y l s = (x0, t0)) (h0 : Keeps m0 s0 s)
    (hw0 : within 0xe0010000000000000000000000000000000000000000000000000000000000000000000000000000000000000000000000000000000000000000000000000000000000400000000000000000000000000000000000001000000000005680008002 m0 = true := by decide) : Keeps m0 s0 t0 := by
  have := State.releaseChans_keeps (k := k) (y := y) (l := l) h0 hw0
  rwa [e0] at this

theorem State.releaseInstants_keeps {m0 s0 k chans l s} (h0 : Keeps m0 s0 s) (hw0 : within 0xe0010000000000000000000000000000000000000000000000000000000000000000000000000000000000000000000000000000000000000000000000000000000000400000000000000000000000000000000000001000000000005680008002 m0 = true := by decide) :
    Keeps m0 s0 (State.releaseInstants k chans l s).2 := by
  refine h0.app hw0 ?_
  clear h0 hw0
  induction l generalizing s with
  | nil => exact .refl _ _
  | cons c l ih =>
    unfold State.releaseInstants
    exact Keeps.trans (State.releaseChans_keeps (.refl _ _)) (ih (s := _))

theorem State.releaseInstants_keepsP {m0 s0 t0 x0 k chans l s} (e0 : State.releaseInstants k chans l s = (x0, t0)) (h0 : Keeps m0 s0 s)
    (hw0 : within 0xe0010000000000000000000000000000000000000000000000000000000000000000000000000000000000000000000000000000000000000000000000000000000000400000000000000000000000000000000000001000000000005680008002 m0 = true := by decide) : Keeps m0 s0 t0 := by
  have := State.releaseInstants_keeps (k := k) (chans := chans) (l := l) h0 hw0
  rwa [e0] at this

theorem State.armPort_keeps {m0 s0 s k} (h0 : Keeps m0 s0 s) (hw0 : within 0x8008 m0 = true := by decide) :
    Keeps m0 s0 (State.armPort s k) := by
  refine h0.app hw0 ?_
  unfold State.armPort
  try dsimp only
  repeat' first
    | with_reducible exact .refl _ _
    | with_reducible assumption
    | with_reducible refine .ite _ ?_ ?_
    | with_reducible refine State.setAudOut_keeps ?_
    | with_reducible refine State.launchAt_keeps ?_
    | fail_if_no_progress with_reducible refine Keeps.mk' ?_
    | split
    | dsimp only

theorem State.armAudio_keeps {m0 s0 s} (h0 : Keeps m0 s0 s) (hw0 : within 0x8008 m0 = true := by decide) :
    Keeps m0 s0 (State.armAudio s) := by
  refine h0.app hw0 ?_
  unfold State.armAudio
  try dsimp only
  repeat' first
    | with_reducible exact .refl _ _
    | with_reducible assumption
    | with_reducible refine State.armPort_keeps ?_
    | with_reducible refine .foldl _ _ ?_ (fun _ _ _ => ?_)
    | split
    | dsimp only

theorem State.releaseFrame_keeps {m0 s0 s k i} (h0 : Keeps m0 s0 s) (hw0 : within 0xe0010000000000000000000000000000000000000000000000000000000000000000000000000000000000000000000000000000000000000000000000000000000000400000000000000000000000000000000000001000000000005680008002 m0 = true := by decide) :
    Keeps m0 s0 (State.releaseFrame s k i) := by
  refine h0.app hw0 ?_
  unfold State.releaseFrame
  try dsimp only
  repeat' first
    | with_reducible exact .refl _ _
    | with_reducible assumption
    | with_reducible refine .ite _ ?_ ?_
    | with_reducible refine State.releaseChans_keeps ?_
    | with_reducible refine State.releaseChans_keepsP (by assumption) ?_
    | with_reducible refine State.setAudOut_keeps ?_
    | with_reducible refine State.emit_keeps ?_
    | fail_if_no_progress with_reducible refine Keeps.mk' ?_
    | split
    | dsimp only

theorem State.releasePacket_keeps {m0 s0 s k i} (h0 : Keeps m0 s0 s) (hw0 : within 0xef8100000000000000000000000000000000000000000000000000000000000000000000000000000000000fec0a600000000000000000000000000000004000000000400000000000000000000000000000000000001000000000005680008012 m0 = true := by decide) :
    Keeps m0 s0 (State.releasePacket s k i) := by
  refine h0.app hw0 ?_
  unfold State.releasePacket
  try dsimp only
  repeat' first
    | with_reducible exact .refl _ _
    | with_reducible assumption
    | with_reducible refine State.releaseInstants_keeps ?_
    | with_reducible refine State.releaseInstants_keepsP (by assumption) ?_
    | with_reducible refine State.setAudOut_keeps ?_
    | with_reducible refine State.enterQueue_keeps ?_
    | with_reducible refine State.bump_keeps (by first | assumption | (dsimp only [bank, Reg.AUD_OUT_DSCP, Reg.AUD_OUT_DST_PORT, Reg.AUD_OUT_GROUP, Reg.AUD_OUT_LANE, Reg.AUD_OUT_PT, Reg.AUD_OUT_SSRC, Reg.AUD_OUT_TCLASS, Reg.CHK_PKT_CNT, Reg.CHK_WIDTH]; decide)) ?_
    | fail_if_no_progress with_reducible refine Keeps.mk' ?_
    | split
    | dsimp only

theorem sampleFired_keeps {m0 s0 k s} (h0 : Keeps m0 s0 s) (hw0 : within 0xef8100000000000000000000000000000000000000000000000000000000000000000000000000000000000fec0a60000000000000000000000000000000400000000040000000000000000000000000000000000000100000000000568000801a m0 = true := by decide) :
    Keeps m0 s0 (sampleFired k s) := by
  refine h0.app hw0 ?_
  unfold sampleFired
  try dsimp only
  repeat' first
    | with_reducible exact .refl _ _
    | with_reducible assumption
    | with_reducible refine .ite _ ?_ ?_
    | with_reducible refine State.releaseFrame_keeps ?_
    | with_reducible refine State.releasePacket_keeps ?_
    | with_reducible refine State.setAudOut_keeps ?_
    | with_reducible refine State.armPort_keeps ?_
    | fail_if_no_progress with_reducible refine Keeps.mk' ?_
    | split
    | dsimp only

theorem State.frozenFrame_keeps {m0 s0 s k} (h0 : Keeps m0 s0 s) (hw0 : within 0xef8100000000000000000000000000000000000000000000000000000000000000000000000000000000000fec0a60000000000000000000000000000000400000000040000000000000000000000000000000000000100000000000568000801a m0 = true := by decide) :
    Keeps m0 s0 (State.frozenFrame s k) := by
  refine h0.app hw0 ?_
  unfold State.frozenFrame
  try dsimp only
  repeat' first
    | with_reducible exact .refl _ _
    | with_reducible assumption
    | with_reducible refine .ite _ ?_ ?_
    | with_reducible refine sampleFired_keeps ?_
    | with_reducible refine State.setAudOut_keeps ?_
    | fail_if_no_progress with_reducible refine Keeps.mk' ?_
    | split
    | dsimp only

theorem State.writeBlock_keeps {m0 s0 s k} (h0 : Keeps m0 s0 s) (hw0 : within 0x2000000000000000000000000000000000000000000000000000000000000000000000000000400000000000001800000000000000000000001000000000003e80018002 m0 = true := by decide) :
    Keeps m0 s0 (State.writeBlock s k) := by
  refine h0.app hw0 ?_
  unfold State.writeBlock
  try dsimp only
  repeat' first
    | with_reducible exact .refl _ _
    | with_reducible assumption
    | with_reducible refine .ite _ ?_ ?_
    | with_reducible refine State.setAudIn_keeps ?_
    | with_reducible refine State.deviceStore_keeps ?_
    | fail_if_no_progress with_reducible refine Keeps.mk' ?_
    | split
    | dsimp only

theorem State.capture_keeps {m0 s0 s k cap v loss} (h0 : Keeps m0 s0 s) (hw0 : within 0x2000000000000000000000000000000000000000000000000000000000000000000000000000400000000000001800000000000000000000001000000000003e80018002 m0 = true := by decide) :
    Keeps m0 s0 (State.capture s k cap v loss) := by
  refine h0.app hw0 ?_
  unfold State.capture
  try dsimp only
  repeat' first
    | with_reducible exact .refl _ _
    | with_reducible assumption
    | with_reducible refine .ite _ ?_ ?_
    | with_reducible refine State.setAudIn_keeps ?_
    | with_reducible refine State.writeBlock_keeps ?_
    | fail_if_no_progress with_reducible refine Keeps.mk' ?_
    | split
    | dsimp only

theorem State.captureGap_keeps {m0 s0 k v n s} (h0 : Keeps m0 s0 s) (hw0 : within 0x2000000000000000000000000000000000000000000000000000000000000000000000000000400000000000001800000000000000000000001000000000003e80018002 m0 = true := by decide) :
    Keeps m0 s0 (State.captureGap k v n s) := by
  refine h0.app hw0 ?_
  clear h0 hw0
  induction n generalizing s with
  | zero => exact .refl _ _
  | succ n ih =>
    unfold State.captureGap
    refine .ite _ (.refl _ _) ?_
    refine Keeps.trans ?_ (ih (s := _))
    exact State.capture_keeps (.refl _ _)

theorem State.placeSync_keeps {m0 s0 s j c g v} (h0 : Keeps m0 s0 s) (hw0 : within 0x8000 m0 = true := by decide) :
    Keeps m0 s0 (State.placeSync s j c g v) := by
  refine h0.app hw0 ?_
  unfold State.placeSync
  try dsimp only
  repeat' first
    | with_reducible exact .refl _ _
    | with_reducible assumption
    | with_reducible refine State.keepSample_keeps ?_
    | split
    | dsimp only

theorem State.mapInput_keeps {m0 s0 s j asrc x} (h0 : Keeps m0 s0 s) (hw0 : within 0x200000000000000000000000000000000000000000000000000000000000000000000000000000000000000000000000000000000000000000000000000000000000000000000000000000000000000000000000000000000000008000 m0 = true := by decide) :
    Keeps m0 s0 (State.mapInput s j asrc x) := by
  refine h0.app hw0 ?_
  unfold State.mapInput
  try dsimp only
  repeat' first
    | with_reducible exact .refl _ _
    | with_reducible assumption
    | with_reducible refine .ite _ ?_ ?_
    | with_reducible refine State.setAudIn_keeps ?_
    | with_reducible refine State.set_keeps (by first | assumption | (dsimp only [bank, Reg.AUD_IN_ASRC, Reg.AUD_IN_SRATE]; decide)) ?_
    | fail_if_no_progress with_reducible refine Keeps.mk' ?_
    | split
    | dsimp only

theorem State.aesLock_keeps {m0 s0 s j x} (h0 : Keeps m0 s0 s) (hw0 : within 0x300000000000000000000000000000000000000000000000000000000000000000000000000000000000000000000000000000000000000000000000000000400000000000000000000000000000000000001000000000000680008002 m0 = true := by decide) :
    Keeps m0 s0 (State.aesLock s j x) := by
  refine h0.app hw0 ?_
  unfold State.aesLock
  try dsimp only
  repeat' first
    | with_reducible exact .refl _ _
    | with_reducible assumption
    | with_reducible refine .ite _ ?_ ?_
    | with_reducible refine State.setAudIn_keeps ?_
    | with_reducible refine State.raise_keeps ?_
    | with_reducible refine State.mapInput_keeps ?_
    | with_reducible refine State.set_keeps (by first | assumption | (dsimp only [bank, Reg.AUD_IN_ASRC_MODE, Reg.AUD_IN_LOCK]; decide)) ?_
    | fail_if_no_progress with_reducible refine Keeps.mk' ?_
    | split
    | dsimp only

theorem State.takeStatus_keeps {m0 s0 s j c b} (h0 : Keeps m0 s0 s) (hw0 : within 0x11800000000000000000000000000000000000000000000000000000000000000000000000000000000000000000000000000000000000000000000000000000000000000000000000000000000000000000000000000000000000008002 m0 = true := by decide) :
    Keeps m0 s0 (State.takeStatus s j c b) := by
  refine h0.app hw0 ?_
  unfold State.takeStatus
  try dsimp only
  repeat' first
    | with_reducible exact .refl _ _
    | with_reducible assumption
    | with_reducible refine .ite _ ?_ ?_
    | with_reducible refine State.setAudIn_keeps ?_
    | with_reducible refine State.set_keeps (by first | assumption | (dsimp only [bank, Reg.AUD_IN_CS_A, Reg.AUD_IN_CS_B, Reg.AUD_IN_CS_ERR_CNT]; decide)) ?_
    | with_reducible refine State.bump_keeps (by first | assumption | (dsimp only [bank, Reg.AUD_IN_CS_A, Reg.AUD_IN_CS_B, Reg.AUD_IN_CS_ERR_CNT]; decide)) ?_
    | fail_if_no_progress with_reducible refine Keeps.mk' ?_
    | split
    | dsimp only

theorem State.takeBits_keeps {m0 s0 s j f} (h0 : Keeps m0 s0 s) (hw0 : within 0x11800000000000000000000000000000000000000000000000000000000000000000000000000000000000000000000000000000000000000000000000000000000000000000000000000000000000000000000000000000000000008002 m0 = true := by decide) :
    Keeps m0 s0 (State.takeBits s j f) := by
  refine h0.app hw0 ?_
  unfold State.takeBits
  try dsimp only
  repeat' first
    | with_reducible exact .refl _ _
    | with_reducible assumption
    | with_reducible refine .ite _ ?_ ?_
    | with_reducible refine State.setAudIn_keeps ?_
    | with_reducible refine State.takeStatus_keeps ?_
    | fail_if_no_progress with_reducible refine Keeps.mk' ?_
    | split
    | dsimp only

theorem State.aesFrame_keeps {m0 s0 s j f x} (h0 : Keeps m0 s0 s) (hw0 : within 0x35800000000000000000000000000000000000000000000000002000000000000000000000000000000000000000000000000000000000000000000000000000400000000000001800000000000000000000001000000000003e80018002 m0 = true := by decide) :
    Keeps m0 s0 (State.aesFrame s j f x) := by
  refine h0.app hw0 ?_
  unfold State.aesFrame
  try dsimp only
  repeat' first
    | with_reducible exact .refl _ _
    | with_reducible assumption
    | with_reducible refine .ite _ ?_ ?_
    | with_reducible refine State.takeBits_keeps ?_
    | with_reducible refine State.setAudIn_keeps ?_
    | with_reducible refine State.placeSync_keeps ?_
    | with_reducible refine State.capture_keeps ?_
    | with_reducible refine State.count_keeps (by first | assumption | (dsimp only [bank, Reg.AUD_IN_ASRC, Reg.AUD_IN_INVALID_CNT, Reg.AUD_IN_PARITY_CNT, Reg.AUD_IN_SRATE]; decide)) ?_
    | fail_if_no_progress with_reducible refine Keeps.mk' ?_
    | split
    | dsimp only

theorem State.rampOut_keeps {m0 s0 s j} (h0 : Keeps m0 s0 s) (hw0 : within 0x8000 m0 = true := by decide) :
    Keeps m0 s0 (State.rampOut s j) := by
  refine h0.app hw0 ?_
  unfold State.rampOut
  try dsimp only
  repeat' first
    | with_reducible exact .refl _ _
    | with_reducible assumption
    | with_reducible refine State.placeSync_keeps ?_
    | with_reducible refine .foldl _ _ ?_ (fun _ _ _ => ?_)
    | split
    | dsimp only

theorem State.regrid_keeps {m0 s0 s j} (h0 : Keeps m0 s0 s) (hw0 : within 0x8000 m0 = true := by decide) :
    Keeps m0 s0 (State.regrid s j) := by
  refine h0.app hw0 ?_
  unfold State.regrid
  try dsimp only
  repeat' first
    | with_reducible exact .refl _ _
    | with_reducible assumption
    | with_reducible refine State.setAudIn_keeps ?_
    | fail_if_no_progress with_reducible refine Keeps.mk' ?_
    | split
    | dsimp only

theorem State.aesLoss_keeps {m0 s0 s j rate} (h0 : Keeps m0 s0 s) (hw0 : within 0x42300000000000000000000000000000000000000000000000002000000000000000000000000000000000000000000000000000000000000000000000000000400000000000001800000000000000000000001000000000003e80018002 m0 = true := by decide) :
    Keeps m0 s0 (State.aesLoss s j rate) := by
  refine h0.app hw0 ?_
  unfold State.aesLoss
  try dsimp only [State.setAll]
  repeat' first
    | with_reducible exact .refl _ _
    | with_reducible assumption
    | with_reducible refine .ite _ ?_ ?_
    | with_reducible refine State.captureGap_keeps ?_
    | with_reducible refine State.regrid_keeps ?_
    | with_reducible refine State.rampOut_keeps ?_
    | with_reducible refine State.setAudIn_keeps ?_
    | with_reducible refine State.raise_keeps ?_
    | with_reducible refine State.set_keeps (by first | assumption | (dsimp only [bank, Reg.AUD_IN_ASRC, Reg.AUD_IN_LOCK, Reg.AUD_IN_LOSS_CNT, Reg.AUD_IN_RATE_ERR_CNT]; decide)) ?_
    | with_reducible refine State.bump_keeps (by first | assumption | (dsimp only [bank, Reg.AUD_IN_ASRC, Reg.AUD_IN_LOCK, Reg.AUD_IN_LOSS_CNT, Reg.AUD_IN_RATE_ERR_CNT]; decide)) ?_
    | fail_if_no_progress with_reducible refine Keeps.mk' ?_
    | split
    | dsimp only

theorem State.aesRx_keeps {m0 s0 s j f} (h0 : Keeps m0 s0 s) (hw0 : within 0x77b00000000000000000000000000000000000000000000000002000000000000000000000000000000000000000000000000000000000000000000000000000400000000000001800000000000000000000001000000000003e80018002 m0 = true := by decide) :
    Keeps m0 s0 (State.aesRx s j f) := by
  refine h0.app hw0 ?_
  unfold State.aesRx
  try dsimp only
  repeat' first
    | with_reducible exact .refl _ _
    | with_reducible assumption
    | with_reducible refine .ite _ ?_ ?_
    | with_reducible refine State.aesLoss_keeps ?_
    | with_reducible refine State.setAudIn_keeps ?_
    | with_reducible refine State.aesFrame_keeps ?_
    | with_reducible refine State.aesLock_keeps ?_
    | fail_if_no_progress with_reducible refine Keeps.mk' ?_
    | split
    | dsimp only

theorem execAes3FrameRx_keeps {j f s t0} (e0 : execAes3FrameRx j f s = .next t0) : Keeps 0x77b00000000000000000000000000000000000000000000000002000000000000000000000000000000000000000000000000000000000000000000000000000400000000000001800000000000000000000001000000000003e80018002 s t0 := by
  rw [← Host.Outcome.next.inj e0]
  try dsimp only
  repeat' first
    | with_reducible exact .refl _ _
    | with_reducible assumption
    | with_reducible refine State.aesRx_keeps ?_
    | split
    | dsimp only

theorem execAes3LockLoss_keeps {j rate s t0} (e0 : execAes3LockLoss j rate s = .next t0) : Keeps 0x42300000000000000000000000000000000000000000000000002000000000000000000000000000000000000000000000000000000000000000000000000000400000000000001800000000000000000000001000000000003e80018002 s t0 := by
  rw [← Host.Outcome.next.inj e0]
  try dsimp only
  repeat' first
    | with_reducible exact .refl _ _
    | with_reducible assumption
    | with_reducible refine State.aesLoss_keeps ?_
    | split
    | dsimp only

theorem State.asrcDecide_keeps {m0 s0 s j ppm} (h0 : Keeps m0 s0 s) (hw0 : within 0x600000000000000000000000000000000000000000000000000000000000000000000000000000000000000000000000000000000000000000000000000000000000000000000000000000000000000000000000000000000000008000 m0 = true := by decide) :
    Keeps m0 s0 (State.asrcDecide s j ppm) := by
  refine h0.app hw0 ?_
  unfold State.asrcDecide
  try dsimp only
  repeat' first
    | with_reducible exact .refl _ _
    | with_reducible assumption
    | with_reducible refine .ite _ ?_ ?_
    | with_reducible refine State.mapInput_keeps ?_
    | with_reducible refine State.set_keeps (by first | assumption | (dsimp only [bank, Reg.AUD_IN_ASRC_MODE, Reg.AUD_IN_LOCK, Reg.AUD_IN_RATE_PPM]; decide)) ?_
    | split
    | dsimp only

theorem execAsrcDecision_keeps {j ppm s t0} (e0 : execAsrcDecision j ppm s = .next t0) : Keeps 0x600000000000000000000000000000000000000000000000000000000000000000000000000000000000000000000000000000000000000000000000000000000000000000000000000000000000000000000000000000000000008000 s t0 := by
  rw [← Host.Outcome.next.inj e0]
  try dsimp only
  repeat' first
    | with_reducible exact .refl _ _
    | with_reducible assumption
    | with_reducible refine State.asrcDecide_keeps ?_
    | split
    | dsimp only

theorem State.slip_keeps {m0 s0 s j c} (h0 : Keeps m0 s0 s) (hw0 : within 0x8000000000000000000000000000000000000000000000000000000000000000000000000000000000000000000000000000000000000000000000000000000400000000000000000000000000000000000001000000000000680008002 m0 = true := by decide) :
    Keeps m0 s0 (State.slip s j c) := by
  refine h0.app hw0 ?_
  unfold State.slip
  try dsimp only
  repeat' first
    | with_reducible exact .refl _ _
    | with_reducible assumption
    | with_reducible refine .ite _ ?_ ?_
    | with_reducible refine State.placeSync_keeps ?_
    | with_reducible refine State.setAudIn_keeps ?_
    | with_reducible refine State.raise_keeps ?_
    | with_reducible refine State.bump_keeps (by first | assumption | (dsimp only [bank, Reg.AUD_IN_ASRC, Reg.AUD_IN_LOCK, Reg.AUD_IN_SLIP_CNT, Reg.AUD_IN_SRATE]; decide)) ?_
    | fail_if_no_progress with_reducible refine Keeps.mk' ?_
    | split
    | dsimp only

theorem execSampleSlip_keeps {j c s t0} (e0 : execSampleSlip j c s = .next t0) : Keeps 0x8000000000000000000000000000000000000000000000000000000000000000000000000000000000000000000000000000000000000000000000000000000400000000000000000000000000000000000001000000000000680008002 s t0 := by
  rw [← Host.Outcome.next.inj e0]
  try dsimp only
  repeat' first
    | with_reducible exact .refl _ _
    | with_reducible assumption
    | with_reducible refine State.slip_keeps ?_
    | split
    | dsimp only

theorem State.netSamples_keeps {m0 s0 s r cap x} (h0 : Keeps m0 s0 s) (hw0 : within 0x2000000000000000000000000000000000000000000000000000000000000000000000000000400000000000001800000000000000000000001000000000003e80018002 m0 = true := by decide) :
    Keeps m0 s0 (State.netSamples s r cap x) := by
  refine h0.app hw0 ?_
  unfold State.netSamples
  try dsimp only
  repeat' first
    | with_reducible exact .refl _ _
    | with_reducible assumption
    | with_reducible refine .ite _ ?_ ?_
    | with_reducible refine State.captureGap_keeps ?_
    | with_reducible refine State.keepSample_keeps ?_
    | with_reducible refine State.capture_keeps ?_
    | with_reducible refine .foldl _ _ ?_ (fun _ _ _ => ?_)
    | split
    | dsimp only

theorem execAudioPacketRx_keeps {r p x s t0} (e0 : execAudioPacketRx r p x s = .next t0) : Keeps 0x900000000000000000000000000000000000000000000000000000000000020000000000000007e013700000040000000000000000000000000000000000000c000000000400000000000001800000000000000000000001000000000003e8001c042 s t0 := by
  rw [← Host.Outcome.next.inj e0]
  try dsimp only
  repeat' first
    | with_reducible exact .refl _ _
    | with_reducible assumption
    | with_reducible refine State.netSamples_keeps ?_
    | with_reducible refine State.rxPacket_keeps (fun _ _ => ?_) ?_
    | split
    | dsimp only

theorem execMclkLoss_keeps {s t0} (e0 : execMclkLoss s = .next t0) : Keeps 0x4c00000000000000000000000000000000000000000000000000000000000000000000000000000000000000000000000000000000000000000000000000400000000000000000000000000000000000001000000000000680008002 s t0 := by
  rw [← Host.Outcome.next.inj e0]
  try dsimp only
  repeat' first
    | with_reducible exact .refl _ _
    | with_reducible assumption
    | with_reducible refine .ite _ ?_ ?_
    | with_reducible refine State.raise_keeps ?_
    | with_reducible refine State.set_keeps (by first | assumption | (dsimp only [bank, Reg.AUD_MCLK_LOSS_CNT, Reg.AUD_MCLK_LOST, Reg.AUD_MCLK_OK]; decide)) ?_
    | with_reducible refine State.bump_keeps (by first | assumption | (dsimp only [bank, Reg.AUD_MCLK_LOSS_CNT, Reg.AUD_MCLK_LOST, Reg.AUD_MCLK_OK]; decide)) ?_
    | with_reducible refine State.flag_keeps (by first | assumption | (dsimp only [bank, Reg.AUD_MCLK_LOSS_CNT, Reg.AUD_MCLK_LOST, Reg.AUD_MCLK_OK]; decide)) ?_
    | fail_if_no_progress with_reducible refine Keeps.mk' ?_
    | split
    | dsimp only

theorem execAudMclkInReturn_keeps {s t0} (e0 : execAudMclkInReturn s = .next t0) : Keeps 0x400000000000000000000000000000000000000000000000000000000000000000000000000000000000000000000000000000000000000000000000000000000000000000000000000000000000000000000000000000000000000 s t0 := by
  rw [← Host.Outcome.next.inj e0]
  try dsimp only
  repeat' first
    | with_reducible exact .refl _ _
    | with_reducible assumption
    | with_reducible refine State.set_keeps (by first | assumption | (dsimp only [bank, Reg.AUD_MCLK_OK]; decide)) ?_
    | split
    | dsimp only

theorem State.mclkResume_keeps {m0 s0 s w} (h0 : Keeps m0 s0 s) (hw0 : within 0x2000000000000000000000000000000000000000000000000000000000000000000000000000000000000000000000000000000000000000000000000000400000000000001800000000000000000000001000000000001e81008002 m0 = true := by decide) :
    Keeps m0 s0 (State.mclkResume s w) := by
  refine h0.app hw0 ?_
  unfold State.mclkResume
  try dsimp only
  repeat' first
    | with_reducible exact .refl _ _
    | with_reducible assumption
    | with_reducible refine .ite _ ?_ ?_
    | with_reducible refine State.raise_keeps ?_
    | with_reducible refine State.logReg_keeps ?_
    | with_reducible refine State.set_keeps (by first | assumption | (dsimp only [bank, Reg.AUD_LAST_STATUS, Reg.AUD_MCLK_EN, Reg.AUD_MCLK_OK, Reg.AUD_MCLK_RESUME]; decide)) ?_
    | with_reducible refine State.byWriter_keeps (fun _ _ => ?_) ?_
    | fail_if_no_progress with_reducible refine Keeps.mk' ?_
    | split
    | dsimp only

theorem execMclkResume_keeps {w s t0} (e0 : execMclkResume w s = .next t0) : Keeps 0x2000000000000000000000000000000000000000000000000000000000000000000000000000000000000000000000000000000000000000000000000000400000000000001800000000000000000000001000000000001e81008002 s t0 := by
  rw [← Host.Outcome.next.inj e0]
  try dsimp only
  repeat' first
    | with_reducible exact .refl _ _
    | with_reducible assumption
    | with_reducible refine State.mclkResume_keeps ?_
    | split
    | dsimp only

theorem State.portOff_keeps {m0 s0 s k} (h0 : Keeps m0 s0 s) (hw0 : within 0x680008008 m0 = true := by decide) :
    Keeps m0 s0 (State.portOff s k) := by
  refine h0.app hw0 ?_
  unfold State.portOff
  try dsimp only
  repeat' first
    | with_reducible exact .refl _ _
    | with_reducible assumption
    | with_reducible refine State.cancel_keeps ?_
    | with_reducible refine State.setAudCh_keeps ?_
    | with_reducible refine State.cmdDone_keeps ?_
    | with_reducible refine .foldl _ _ ?_ (fun _ _ _ => ?_)
    | fail_if_no_progress with_reducible refine Keeps.mk' ?_
    | split
    | dsimp only

theorem State.portChange_keeps {m0 s0 s k a cmd} (h0 : Keeps m0 s0 s) (hw0 : within 0x680008000 m0 = true := by decide) :
    Keeps m0 s0 (State.portChange s k a cmd) := by
  refine h0.app hw0 ?_
  unfold State.portChange
  try dsimp only
  repeat' first
    | with_reducible exact .refl _ _
    | with_reducible assumption
    | with_reducible refine State.pendChange_keeps ?_
    | with_reducible refine .foldl _ _ ?_ (fun _ _ _ => ?_)
    | split
    | dsimp only

theorem State.outWrite_keeps {m0 s0 s k en srate mute ptime} (h0 : Keeps m0 s0 s) (hw0 : within 0x7800000000000000000000000000000000000000000000000000000000000000000000000000000000000000000000000000000000000000000000000000000000000000000000000000000000000000000000000000000000000680008008 m0 = true := by decide) :
    Keeps m0 s0 (State.outWrite s k en srate mute ptime).1 := by
  refine h0.app hw0 ?_
  unfold State.outWrite
  try dsimp only [State.setAll]
  repeat' first
    | with_reducible exact .refl _ _
    | with_reducible assumption
    | with_reducible refine .ite _ ?_ ?_
    | with_reducible refine State.portOff_keeps ?_
    | with_reducible refine State.setAudCh_keeps ?_
    | with_reducible refine State.armPort_keeps ?_
    | with_reducible refine State.portChange_keeps ?_
    | with_reducible refine State.set_keeps (by first | assumption | (dsimp only [bank, Reg.AUD_OUT_ENABLE, Reg.AUD_OUT_MUTE, Reg.AUD_OUT_PTIME, Reg.AUD_OUT_SRATE]; decide)) ?_
    | with_reducible refine .foldl _ _ ?_ (fun _ _ _ => ?_)
    | fail_if_no_progress with_reducible refine Keeps.mk' ?_
    | split
    | dsimp only

theorem State.outWrite_keepsP {m0 s0 t0 x0 s k en srate mute ptime} (e0 : State.outWrite s k en srate mute ptime = (t0, x0)) (h0 : Keeps m0 s0 s)
    (hw0 : within 0x7800000000000000000000000000000000000000000000000000000000000000000000000000000000000000000000000000000000000000000000000000000000000000000000000000000000000000000000000000000000000680008008 m0 = true := by decide) : Keeps m0 s0 t0 := by
  have := State.outWrite_keeps (s := s) (k := k) (en := en) (srate := srate) (mute := mute) (ptime := ptime) h0 hw0
  rwa [e0] at this

theorem State.inWrite_keeps {m0 s0 s k en srate mode} (h0 : Keeps m0 s0 s) (hw0 : within 0x370000000000000000000000000000000000000000000000000000000000000000000000000000000000000000000000000000000000000000000000000000000000000000000000000000000000000000000000000000000000008000 m0 = true := by decide) :
    Keeps m0 s0 (State.inWrite s k en srate mode).1 := by
  refine h0.app hw0 ?_
  unfold State.inWrite
  try dsimp only [State.setAll]
  repeat' first
    | with_reducible exact .refl _ _
    | with_reducible assumption
    | with_reducible refine .ite _ ?_ ?_
    | with_reducible refine State.setAudIn_keeps ?_
    | with_reducible refine State.set_keeps (by first | assumption | (dsimp only [bank, Reg.AUD_IN_ASRC, Reg.AUD_IN_ASRC_MODE, Reg.AUD_IN_ENABLE, Reg.AUD_IN_LOCK, Reg.AUD_IN_SRATE]; decide)) ?_
    | fail_if_no_progress with_reducible refine Keeps.mk' ?_
    | split
    | dsimp only

theorem State.inWrite_keepsP {m0 s0 t0 x0 s k en srate mode} (e0 : State.inWrite s k en srate mode = (t0, x0)) (h0 : Keeps m0 s0 s)
    (hw0 : within 0x370000000000000000000000000000000000000000000000000000000000000000000000000000000000000000000000000000000000000000000000000000000000000000000000000000000000000000000000000000000000008000 m0 = true := by decide) : Keeps m0 s0 t0 := by
  have := State.inWrite_keeps (s := s) (k := k) (en := en) (srate := srate) (mode := mode) h0 hw0
  rwa [e0] at this

theorem State.audPortWrite_keeps {m0 s0 s w k v} (h0 : Keeps m0 s0 s) (hw0 : within 0xf8003f0000000000000000000000000000000000000000000000000000000000000000000000000000000000000000000000000000000000000000000000000000400000000000001800000000000000000000001000000000001e8100800a m0 = true := by decide) :
    Keeps m0 s0 (State.audPortWrite s w k v) := by
  refine h0.app hw0 ?_
  unfold State.audPortWrite
  try dsimp only
  repeat' first
    | with_reducible exact .refl _ _
    | with_reducible assumption
    | with_reducible refine .ite _ ?_ ?_
    | with_reducible refine State.inWrite_keeps ?_
    | with_reducible refine State.inWrite_keepsP (by assumption) ?_
    | with_reducible refine State.outWrite_keeps ?_
    | with_reducible refine State.outWrite_keepsP (by assumption) ?_
    | with_reducible refine State.logReg_keeps ?_
    | with_reducible refine State.set_keeps (by repeat' first | assumption | (dsimp only [bank, Reg.AUD_IN_ASRC_MODE, Reg.AUD_IN_ENABLE, Reg.AUD_IN_LAST_STATUS, Reg.AUD_IN_SRATE, Reg.AUD_OUT_ENABLE, Reg.AUD_OUT_LAST_STATUS, Reg.AUD_OUT_MUTE, Reg.AUD_OUT_PTIME, Reg.AUD_OUT_SRATE]; decide) | (unfold audStatus) | split) ?_
    | with_reducible refine State.byWriter_keeps (fun _ _ => ?_) ?_
    | split
    | dsimp only

theorem execAudPortWrite_keeps {w k value s t0} (e0 : execAudPortWrite w k value s = .next t0) : Keeps 0xf8003f0000000000000000000000000000000000000000000000000000000000000000000000000000000000000000000000000000000000000000000000000000400000000000001800000000000000000000001000000000001e8100800a s t0 := by
  rw [← Host.Outcome.next.inj e0]
  try dsimp only
  repeat' first
    | with_reducible exact .refl _ _
    | with_reducible assumption
    | with_reducible refine State.audPortWrite_keeps ?_
    | split
    | dsimp only

theorem State.audRouteWrite_keeps {m0 s0 s w c v} (h0 : Keeps m0 s0 s) (hw0 : within 0xe0008000000000000000000000000000000000000000000000000000000000000000000000000000000000000000000000000000000000000000000000000000000000400000000000001800000000000000000000001000000000001e81008002 m0 = true := by decide) :
    Keeps m0 s0 (State.audRouteWrite s w c v) := by
  refine h0.app hw0 ?_
  unfold State.audRouteWrite
  try dsimp only [State.setAll]
  repeat' first
    | with_reducible exact .refl _ _
    | with_reducible assumption
    | with_reducible refine .ite _ ?_ ?_
    | with_reducible refine State.pendChange_keeps ?_
    | with_reducible refine State.setAudCh_keeps ?_
    | with_reducible refine State.logReg_keeps ?_
    | with_reducible refine State.set_keeps (by first | assumption | (dsimp only [bank, Reg.AUD_OUT_LAST_STATUS, Reg.AUD_ROUTE_DELAY_SEL, Reg.AUD_ROUTE_DELAY_US, Reg.AUD_ROUTE_SRC]; decide)) ?_
    | with_reducible refine State.copyBank_keeps (by (repeat' first | with_reducible assumption | with_reducible exact inMask_nil _ | (with_reducible refine inMask_cons ?_ ?_) | (with_reducible refine inMask_append ?_ ?_) | (with_reducible refine inMask_flatMap (fun _ => ?_)) | (with_reducible refine asBit ?_; dsimp only [Function.comp, bank, Reg.AUD_OUT_LAST_STATUS, Reg.AUD_ROUTE_DELAY_SEL, Reg.AUD_ROUTE_DELAY_US, Reg.AUD_ROUTE_SRC]; decide) | (simp only [List.map_map, List.map_append, List.map_cons, List.map_nil]) | (with_reducible refine inMask_ite _ ?_ ?_) | (with_reducible refine inMask_map (fun _ => ?_)))) ?_
    | with_reducible refine State.byWriter_keeps (fun _ _ => ?_) ?_
    | fail_if_no_progress with_reducible refine Keeps.mk' ?_
    | split
    | dsimp only

theorem execAudRouteWrite_keeps {w c value s t0} (e0 : execAudRouteWrite w c value s = .next t0) : Keeps 0xe0008000000000000000000000000000000000000000000000000000000000000000000000000000000000000000000000000000000000000000000000000000000000400000000000001800000000000000000000001000000000001e81008002 s t0 := by
  rw [← Host.Outcome.next.inj e0]
  try dsimp only
  repeat' first
    | with_reducible exact .refl _ _
    | with_reducible assumption
    | with_reducible refine State.audRouteWrite_keeps ?_
    | split
    | dsimp only

theorem actAudioCmd_keeps {m0 s0 d t s} (h0 : Keeps m0 s0 s) (hw0 : within 0x8000000000000000000000000000000000000000000000000000000000000000000000000000000000000000000000000000000000000000000000000000000000400000000000001800000000000000000000001000000000001e80008002 m0 = true := by decide) :
    Keeps m0 s0 (actAudioCmd d t s) := by
  refine h0.app hw0 ?_
  unfold actAudioCmd
  try dsimp only
  repeat' first
    | with_reducible exact .refl _ _
    | with_reducible assumption
    | with_reducible refine .ite _ ?_ ?_
    | with_reducible refine State.logDesc_keeps ?_
    | with_reducible refine State.portChange_keeps ?_
    | with_reducible refine State.complete_keeps ?_
    | with_reducible refine State.set_keeps (by first | assumption | (dsimp only [bank, Reg.AUD_OUT_ENABLE, Reg.AUD_OUT_LAST_STATUS]; decide)) ?_
    | fail_if_no_progress with_reducible refine Keeps.mk' ?_
    | split
    | dsimp only

theorem execAudioCmd_keeps {d s t0} (e0 : execAudioCmd d s = .next t0) : Keeps 0x8000000000000000000000000000000000000000000000000000000000000000000000000000000000000000000000000000000000000000000000000000000000400000000000001800000000000000800000001a00000000001e8180800a s t0 := by
  rw [← Host.Outcome.next.inj e0]
  try dsimp only
  repeat' first
    | with_reducible exact .refl _ _
    | with_reducible assumption
    | with_reducible refine actAudioCmd_keeps ?_
    | with_reducible refine State.runDesc_keeps (fun _ _ _ => ?_) ?_
    | split
    | dsimp only

theorem actTemplateLoad_keeps {m0 s0 d t s} (h0 : Keeps m0 s0 s) (hw0 : within 0x400000000000001800000000000000000000001000000000001e80008002 m0 = true := by decide) :
    Keeps m0 s0 (actTemplateLoad d t s) := by
  refine h0.app hw0 ?_
  unfold actTemplateLoad
  try dsimp only
  repeat' first
    | with_reducible exact .refl _ _
    | with_reducible assumption
    | with_reducible refine .ite _ ?_ ?_
    | with_reducible refine State.setAudOut_keeps ?_
    | with_reducible refine State.logHash_keeps ?_
    | with_reducible refine State.complete_keeps ?_
    | fail_if_no_progress with_reducible refine Keeps.mk' ?_
    | split
    | dsimp only

theorem execAudTemplateLoad_keeps {d s t0} (e0 : execAudTemplateLoad d s = .next t0) : Keeps 0x400000000000001800000000000000800000001a00000000001e8180800a s t0 := by
  rw [← Host.Outcome.next.inj e0]
  try dsimp only
  repeat' first
    | with_reducible exact .refl _ _
    | with_reducible assumption
    | with_reducible refine actTemplateLoad_keeps ?_
    | with_reducible refine State.runDesc_keeps (fun _ _ _ => ?_) ?_
    | split
    | dsimp only

theorem actCaptureRead_keeps {m0 s0 d t s} (h0 : Keeps m0 s0 s) (hw0 : within 0x680000000 m0 = true := by decide) :
    Keeps m0 s0 (actCaptureRead d t s) := by
  refine h0.app hw0 ?_
  unfold actCaptureRead
  try dsimp only
  repeat' first
    | with_reducible exact .refl _ _
    | with_reducible assumption
    | with_reducible refine .ite _ ?_ ?_
    | with_reducible refine State.hostWriteEp_keeps ?_
    | with_reducible refine State.complete_keeps ?_
    | split
    | dsimp only

theorem execAudCaptureRead_keeps {d s t0} (e0 : execAudCaptureRead d s = .next t0) : Keeps 0x400000000000001800000000000000800000001a00000000001e8180000a s t0 := by
  rw [← Host.Outcome.next.inj e0]
  try dsimp only
  repeat' first
    | with_reducible exact .refl _ _
    | with_reducible assumption
    | with_reducible refine actCaptureRead_keeps ?_
    | with_reducible refine State.runDesc_keeps (fun _ _ _ => ?_) ?_
    | split
    | dsimp only

theorem State.audioPowered_keeps {m0 s0 s} (h0 : Keeps m0 s0 s) (hw0 : within 0x680008008 m0 = true := by decide) :
    Keeps m0 s0 (State.audioPowered s) := by
  refine h0.app hw0 ?_
  unfold State.audioPowered
  try dsimp only
  repeat' first
    | with_reducible exact .refl _ _
    | with_reducible assumption
    | with_reducible refine State.portChange_keeps ?_
    | with_reducible refine State.armPort_keeps ?_
    | with_reducible refine .foldl _ _ ?_ (fun _ _ _ => ?_)
    | split
    | dsimp only

theorem State.audioOff_keeps {m0 s0 s} (h0 : Keeps m0 s0 s) (hw0 : within 0x680008008 m0 = true := by decide) :
    Keeps m0 s0 (State.audioOff s) := by
  refine h0.app hw0 ?_
  unfold State.audioOff
  try dsimp only
  repeat' first
    | with_reducible exact .refl _ _
    | with_reducible assumption
    | with_reducible refine State.cancel_keeps ?_
    | with_reducible refine .foldl _ _ ?_ (fun _ _ _ => ?_)
    | fail_if_no_progress with_reducible refine Keeps.mk' ?_
    | split
    | dsimp only

end Sys2Proof.Machine
end

