-- ==== Sys2Proof/Laws/KeepsDram.lean ====
section
/-! SUPPORT. What each operation of Machine/Dram.lean may change (Laws/Keeps.lean). -/

namespace Sys2Proof.Machine

set_option Elab.async false
set_option linter.unusedTactic false
set_option linter.unusedSimpArgs false
set_option linter.unreachableTactic false

theorem State.setRank_keeps {m0 s0 s p v} (h0 : Keeps m0 s0 s) (hw0 : within 0x10000000000000000000000000000000000000000000000000000000000000000000000000 m0 = true := by decide) :
    Keeps m0 s0 (State.setRank s p v) := by
  refine h0.app hw0 ?_
  unfold State.setRank
  try dsimp only
  repeat' first
    | with_reducible exact .refl _ _
    | with_reducible assumption
    | with_reducible refine State.set_keeps (by first | assumption | (dsimp only [bank, Reg.DMC_RANK_STATE_STATE]; decide)) ?_
    | split
    | dsimp only

theorem State.retireRank_keeps {m0 s0 s p c} (h0 : Keeps m0 s0 s) (hw0 : within 0x130000000000000000000000000000000000000000000000000000000000000000000000000 m0 = true := by decide) :
    Keeps m0 s0 (State.retireRank s p c) := by
  refine h0.app hw0 ?_
  unfold State.retireRank
  try dsimp only [State.setAll]
  repeat' first
    | with_reducible exact .refl _ _
    | with_reducible assumption
    | with_reducible refine State.set_keeps (by first | assumption | (dsimp only [bank, Reg.DMC_RANK_STATE_MAPPED, Reg.DMC_RANK_STATE_RETIRE_CODE, Reg.DMC_RANK_STATE_STATE]; decide)) ?_
    | split
    | dsimp only

theorem State.showServe_keeps {m0 s0 s} (h0 : Keeps m0 s0 s) (hw0 : within 0xe0000000000000000000000000000000000000000000000000000000000000000000000000 m0 = true := by decide) :
    Keeps m0 s0 (State.showServe s) := by
  refine h0.app hw0 ?_
  unfold State.showServe
  try dsimp only [State.setAll]
  repeat' first
    | with_reducible exact .refl _ _
    | with_reducible assumption
    | with_reducible refine State.set_keeps (by first | assumption | (dsimp only [bank, Reg.DMC_RANK_STATE_MAPPED, Reg.DMC_RANK_STATE_POS_CH, Reg.DMC_RANK_STATE_POS_RANK]; decide)) ?_
    | with_reducible refine .foldl _ _ ?_ (fun _ _ _ => ?_)
    | fail_if_no_progress with_reducible refine Keeps.mk' ?_
    | split
    | dsimp only

theorem State.showFill_keeps {m0 s0 s} (h0 : Keeps m0 s0 s) (hw0 : within 0x1000000000000000000000000000000000000000000000000000000000000000000000000 m0 = true := by decide) :
    Keeps m0 s0 (State.showFill s) := by
  refine h0.app hw0 ?_
  unfold State.showFill
  try dsimp only
  repeat' first
    | with_reducible exact .refl _ _
    | with_reducible assumption
    | with_reducible refine State.set_keeps (by first | assumption | (dsimp only [bank, Reg.DMC_SET_FILL_DONE, Reg.DMC_STATUS_FILL_DONE, Reg.DMC_STATUS_SETS]; decide)) ?_
    | split
    | dsimp only

theorem State.newMap_keeps {m0 s0 s map sets} (h0 : Keeps m0 s0 s) (hw0 : within 0x6005040000000000000000000000000000000000000000000000000000000000002800010000 m0 = true := by decide) :
    Keeps m0 s0 (State.newMap s map sets) := by
  refine h0.app hw0 ?_
  unfold State.newMap
  try dsimp only [State.setAll]
  repeat' first
    | with_reducible exact .refl _ _
    | with_reducible assumption
    | with_reducible refine State.showFill_keeps ?_
    | with_reducible refine State.set_keeps (by first | assumption | (dsimp only [bank, Reg.DMC_LAYOUT_MAP, Reg.DMC_SET_FILL_DONE, Reg.DMC_SET_FILL_FILLED, Reg.DMC_STATUS_SETS]; decide)) ?_
    | fail_if_no_progress with_reducible refine Keeps.mkMem ?_ (by first | exact fun _ => ⟨.nil, fun _ h => absurd h List.not_mem_nil⟩ | exact fun h => Memory.wf_filter _ _ h) (by decide)
    | fail_if_no_progress with_reducible refine Keeps.mk' ?_
    | split
    | dsimp only

theorem State.toFloor_keeps {m0 s0 s} (h0 : Keeps m0 s0 s) (hw0 : within 0x60f5040000000000000000000000000000000000000000000000000000000000002800010000 m0 = true := by decide) :
    Keeps m0 s0 (State.toFloor s) := by
  refine h0.app hw0 ?_
  unfold State.toFloor
  try dsimp only [State.setAll]
  repeat' first
    | with_reducible exact .refl _ _
    | with_reducible assumption
    | with_reducible refine State.newMap_keeps ?_
    | with_reducible refine State.set_keeps (by first | assumption | (dsimp only [bank, Reg.DMC_RANK_STATE_MAPPED, Reg.DMC_RANK_STATE_POS_CH, Reg.DMC_RANK_STATE_POS_RANK, Reg.DMC_RANK_STATE_STATE]; decide)) ?_
    | with_reducible refine .foldl _ _ ?_ (fun _ _ _ => ?_)
    | fail_if_no_progress with_reducible refine Keeps.mk' ?_
    | split
    | dsimp only

theorem State.toFull_keeps {m0 s0 s} (h0 : Keeps m0 s0 s) (hw0 : within 0x60e5040000000000000000000000000000000000000000000000000000000000002800010000 m0 = true := by decide) :
    Keeps m0 s0 (State.toFull s) := by
  refine h0.app hw0 ?_
  unfold State.toFull
  try dsimp only
  repeat' first
    | with_reducible exact .refl _ _
    | with_reducible assumption
    | with_reducible refine State.showServe_keeps ?_
    | with_reducible refine State.newMap_keeps ?_
    | split
    | dsimp only

theorem State.rankTrained_keeps {m0 s0 s p ok} (h0 : Keeps m0 s0 s) (hw0 : within 0x61f5040000000000400000000000000000000000000000000000001000000000002e80010002 m0 = true := by decide) :
    Keeps m0 s0 (State.rankTrained s p ok) := by
  refine h0.app hw0 ?_
  unfold State.rankTrained
  try dsimp only
  repeat' first
    | with_reducible exact .refl _ _
    | with_reducible assumption
    | with_reducible refine .ite _ ?_ ?_
    | with_reducible refine State.setRank_keeps ?_
    | with_reducible refine State.toFloor_keeps ?_
    | with_reducible refine State.retireRank_keeps ?_
    | with_reducible refine State.raise_keeps ?_
    | with_reducible refine .foldl _ _ ?_ (fun _ _ _ => ?_)
    | fail_if_no_progress with_reducible refine Keeps.mk' ?_
    | split
    | dsimp only

theorem State.layoutCommit_keeps {m0 s0 s v} (h0 : Keeps m0 s0 s) (hw0 : within 0x60f5fc0000000000000000000000000000000000000000000000000000000000002800010000 m0 = true := by decide) :
    Keeps m0 s0 (State.layoutCommit s v) := by
  refine h0.app hw0 ?_
  unfold State.layoutCommit
  try dsimp only [State.setAll]
  repeat' first
    | with_reducible exact .refl _ _
    | with_reducible assumption
    | with_reducible refine .ite _ ?_ ?_
    | with_reducible refine State.setRank_keeps ?_
    | with_reducible refine State.toFull_keeps ?_
    | with_reducible refine State.set_keeps (by first | assumption | (dsimp only [bank, Reg.DMC_LAYOUT_NR, Reg.DMC_LAYOUT_RANK_SIZE, Reg.DMC_LAYOUT_SPARE_CH, Reg.DMC_LAYOUT_SPARE_EN, Reg.DMC_STATUS_LAST_STATUS]; decide)) ?_
    | with_reducible refine .foldl _ _ ?_ (fun _ _ _ => ?_)
    | fail_if_no_progress with_reducible refine Keeps.mk' ?_
    | split
    | dsimp only

theorem execDmcLayoutCommit_keeps {w v s t0} (e0 : execDmcLayoutCommit w v s = .next t0) : Keeps 0x60f5fc0000000000400000000000001800000000000000000000001000000000003e81010002 s t0 := by
  rw [← Host.Outcome.next.inj e0]
  try dsimp only
  repeat' first
    | with_reducible exact .refl _ _
    | with_reducible assumption
    | with_reducible refine State.layoutCommit_keeps ?_
    | with_reducible refine State.logReg_keeps ?_
    | with_reducible refine State.byWriter_keeps (fun _ _ => ?_) ?_
    | split
    | dsimp only

theorem State.fillDone_keeps {m0 s0 s k} (h0 : Keeps m0 s0 s) (hw0 : within 0x6001000000000000400000000000000000000000000000000000001000000000000680000002 m0 = true := by decide) :
    Keeps m0 s0 (State.fillDone s k) := by
  refine h0.app hw0 ?_
  unfold State.fillDone
  try dsimp only [State.setAll]
  repeat' first
    | with_reducible exact .refl _ _
    | with_reducible assumption
    | with_reducible refine .ite _ ?_ ?_
    | with_reducible refine State.showFill_keeps ?_
    | with_reducible refine State.raise_keeps ?_
    | with_reducible refine State.set_keeps (by first | assumption | (dsimp only [bank, Reg.DMC_SET_FILL_DONE, Reg.DMC_SET_FILL_FILLED, Reg.DMC_STATUS_SETS]; decide)) ?_
    | split
    | dsimp only

theorem State.fillTick_keeps {m0 s0 s} (h0 : Keeps m0 s0 s) (hw0 : within 0x4000000000000000000000000000000000000000000000000000000000000000004000000000 m0 = true := by decide) :
    Keeps m0 s0 (State.fillTick s) := by
  refine h0.app hw0 ?_
  unfold State.fillTick
  try dsimp only [State.draw]
  repeat' first
    | with_reducible exact .refl _ _
    | with_reducible assumption
    | with_reducible refine State.set_keeps (by first | assumption | (dsimp only [bank, Reg.DMC_SET_FILL_DONE, Reg.DMC_SET_FILL_FILLED, Reg.DMC_STATUS_SETS]; decide)) ?_
    | fail_if_no_progress with_reducible refine Keeps.mk' ?_
    | split
    | dsimp only

theorem execSetFillDone_keeps {k s t0} (e0 : execSetFillDone k s = .next t0) : Keeps 0x6001000000000000400000000000000000000000000000000000001000000000000680000002 s t0 := by
  rw [← Host.Outcome.next.inj e0]
  try dsimp only
  repeat' first
    | with_reducible exact .refl _ _
    | with_reducible assumption
    | with_reducible refine State.fillDone_keeps ?_
    | split
    | dsimp only

theorem State.helperGo_keeps {m0 s0 s w c op v} (h0 : Keeps m0 s0 s) (hw0 : within 0xbe0000000000000000000400000000000001800000000000000000000001000000000001e81010002 m0 = true := by decide) :
    Keeps m0 s0 (State.helperGo s w c op v) := by
  refine h0.app hw0 ?_
  unfold State.helperGo
  try dsimp only [State.setAll]
  repeat' first
    | with_reducible exact .refl _ _
    | with_reducible assumption
    | with_reducible refine .ite _ ?_ ?_
    | with_reducible refine State.emit_keeps ?_
    | with_reducible refine State.logReg_keeps ?_
    | with_reducible refine State.set_keeps (by first | assumption | (dsimp only [bank, Reg.DMC_TRN_ADDR, Reg.DMC_TRN_BUSY, Reg.DMC_TRN_GO, Reg.DMC_TRN_LAST_STATUS, Reg.DMC_TRN_LEN, Reg.DMC_TRN_OP, Reg.DMC_TRN_PATTERN, Reg.DMC_TRN_RANK, Reg.DMC_TRN_USER]; decide)) ?_
    | with_reducible refine State.byWriter_keeps (fun _ _ => ?_) ?_
    | fail_if_no_progress with_reducible refine Keeps.mk' ?_
    | split
    | dsimp only

theorem execTrnWrite_keeps {w c v s t0} (e0 : execTrnWrite w c v s = .next t0) : Keeps 0xbe0000000000000000000400000000000001800000000000000000000001000000000001e81010002 s t0 := by
  rw [← Host.Outcome.next.inj e0]
  try dsimp only
  repeat' first
    | with_reducible exact .refl _ _
    | with_reducible assumption
    | with_reducible refine State.helperGo_keeps ?_
    | split
    | dsimp only

theorem execTrnReadCompare_keeps {w c v s t0} (e0 : execTrnReadCompare w c v s = .next t0) : Keeps 0xbe0000000000000000000400000000000001800000000000000000000001000000000001e81010002 s t0 := by
  rw [← Host.Outcome.next.inj e0]
  try dsimp only
  repeat' first
    | with_reducible exact .refl _ _
    | with_reducible assumption
    | with_reducible refine State.helperGo_keeps ?_
    | split
    | dsimp only

theorem execTrnWriteCompare_keeps {w c v s t0} (e0 : execTrnWriteCompare w c v s = .next t0) : Keeps 0xbe0000000000000000000400000000000001800000000000000000000001000000000001e81010002 s t0 := by
  rw [← Host.Outcome.next.inj e0]
  try dsimp only
  repeat' first
    | with_reducible exact .refl _ _
    | with_reducible assumption
    | with_reducible refine State.helperGo_keeps ?_
    | split
    | dsimp only

theorem State.countErr_keeps {m0 s0 s c lane n} (h0 : Keeps m0 s0 s) (hw0 : within 0x200000000000000000000000000000000000000000000000000000000000000000000000000000000000 m0 = true := by decide) :
    Keeps m0 s0 (State.countErr s c lane n) := by
  refine h0.app hw0 ?_
  unfold State.countErr
  try dsimp only
  repeat' first
    | with_reducible exact .refl _ _
    | with_reducible assumption
    | with_reducible refine State.set_keeps (by first | assumption | (dsimp only [bank, Reg.DMC_TRN_ERR]; decide)) ?_
    | split
    | dsimp only

theorem execTrnOpDone_keeps {c errors s t0} (e0 : execTrnOpDone c errors s = .next t0) : Keeps 0x200820000000000000000000000000000000000000000000000000000000000000000000000000010000 s t0 := by
  rw [← Host.Outcome.next.inj e0]
  try dsimp only [State.setAll]
  repeat' first
    | with_reducible exact .refl _ _
    | with_reducible assumption
    | with_reducible refine .ite _ ?_ ?_
    | with_reducible refine State.countErr_keeps ?_
    | with_reducible refine State.set_keeps (by first | assumption | (dsimp only [bank, Reg.DMC_TRN_BUSY, Reg.DMC_TRN_LAST_STATUS]; decide)) ?_
    | with_reducible refine .foldl _ _ ?_ (fun _ _ _ => ?_)
    | fail_if_no_progress with_reducible refine Keeps.mk' ?_
    | split
    | dsimp only

theorem execTrnDlySet_keeps {w c v s t0} (e0 : execTrnDlySet w c v s = .next t0) : Keeps 0x1e000000000800000000000400000000000001800000000000000000000001000000000001e81010002 s t0 := by
  rw [← Host.Outcome.next.inj e0]
  try dsimp only [State.setAll]
  repeat' first
    | with_reducible exact .refl _ _
    | with_reducible assumption
    | with_reducible refine .ite _ ?_ ?_
    | with_reducible refine State.logReg_keeps ?_
    | with_reducible refine State.set_keeps (by first | assumption | (dsimp only [bank, Reg.DMC_STATUS_LAST_STATUS, Reg.DMC_TRN_LANE, Reg.DMC_TRN_RD_DLY, Reg.DMC_TRN_SET, Reg.DMC_TRN_VREF, Reg.DMC_TRN_WR_DLY]; decide)) ?_
    | with_reducible refine State.byWriter_keeps (fun _ _ => ?_) ?_
    | fail_if_no_progress with_reducible refine Keeps.mk' ?_
    | split
    | dsimp only

theorem execMrWrite_keeps {w c addr data s t0} (e0 : execMrWrite w c addr data s = .next t0) : Keeps 0xc0000000000000000000000400000000000001800000000000000000000001000000000001e81000002 s t0 := by
  rw [← Host.Outcome.next.inj e0]
  try dsimp only [State.setAll]
  repeat' first
    | with_reducible exact .refl _ _
    | with_reducible assumption
    | with_reducible refine State.emit_keeps ?_
    | with_reducible refine State.logReg_keeps ?_
    | with_reducible refine State.set_keeps (by first | assumption | (dsimp only [bank, Reg.DMC_TRN_MR_ADDR, Reg.DMC_TRN_MR_DATA, Reg.DMC_TRN_MR_WRITE, Reg.DMC_TRN_RANK]; decide)) ?_
    | with_reducible refine State.byWriter_keeps (fun _ _ => ?_) ?_
    | split
    | dsimp only

theorem execMrRead_keeps {w c addr answer s t0} (e0 : execMrRead w c addr answer s = .next t0) : Keeps 0xc0000000000000000000000400000000000001800000000000000000000001000000000001e81000002 s t0 := by
  rw [← Host.Outcome.next.inj e0]
  try dsimp only [State.setAll]
  repeat' first
    | with_reducible exact .refl _ _
    | with_reducible assumption
    | with_reducible refine State.logReg_keeps ?_
    | with_reducible refine State.set_keeps (by first | assumption | (dsimp only [bank, Reg.DMC_TRN_MR_ADDR, Reg.DMC_TRN_MR_DATA, Reg.DMC_TRN_MR_WRITE]; decide)) ?_
    | with_reducible refine State.byWriter_keeps (fun _ _ => ?_) ?_
    | split
    | dsimp only

theorem State.copyTo_keeps {m0 s0 s ptr} (h0 : Keeps m0 s0 s) (hw0 : within 0x280000000000000000000000000000000000000000000000000000000000000000000000000002 m0 = true := by decide) :
    Keeps m0 s0 (State.copyTo s ptr) := by
  refine h0.app hw0 ?_
  unfold State.copyTo
  try dsimp only
  repeat' first
    | with_reducible exact .refl _ _
    | with_reducible assumption
    | with_reducible refine State.set_keeps (by first | assumption | (dsimp only [bank, Reg.DMC_MIG_CTRL_SRC, Reg.DMC_MIG_PTR, Reg.DMC_POISON_COPY_CNT]; decide)) ?_
    | with_reducible refine State.count_keeps (by first | assumption | (dsimp only [bank, Reg.DMC_MIG_CTRL_SRC, Reg.DMC_MIG_PTR, Reg.DMC_POISON_COPY_CNT]; decide)) ?_
    | fail_if_no_progress with_reducible refine Keeps.mk' ?_
    | split
    | dsimp only

theorem State.migrationDone_keeps {m0 s0 s} (h0 : Keeps m0 s0 s) (hw0 : within 0x1881f2000000000000400000000000000000000000000000000000001000000000000680010002 m0 = true := by decide) :
    Keeps m0 s0 (State.migrationDone s) := by
  refine h0.app hw0 ?_
  unfold State.migrationDone
  try dsimp only [State.setAll]
  repeat' first
    | with_reducible exact .refl _ _
    | with_reducible assumption
    | with_reducible refine .ite _ ?_ ?_
    | with_reducible refine State.showServe_keeps ?_
    | with_reducible refine State.raise_keeps ?_
    | with_reducible refine State.completeAll_keeps ?_
    | with_reducible refine State.set_keeps (by first | assumption | (dsimp only [bank, Reg.DMC_LAYOUT_MAP, Reg.DMC_MIG_CNT, Reg.DMC_MIG_CTRL_ACTIVE, Reg.DMC_MIG_CTRL_DST, Reg.DMC_MIG_CTRL_SRC, Reg.DMC_MIG_PTR, Reg.DMC_RANK_STATE_RETIRE_CODE, Reg.DMC_RANK_STATE_STATE, Reg.DMC_STATUS_MIG_ACTIVE]; decide)) ?_
    | with_reducible refine State.bump_keeps (by first | assumption | (dsimp only [bank, Reg.DMC_LAYOUT_MAP, Reg.DMC_MIG_CNT, Reg.DMC_MIG_CTRL_ACTIVE, Reg.DMC_MIG_CTRL_DST, Reg.DMC_MIG_CTRL_SRC, Reg.DMC_MIG_PTR, Reg.DMC_RANK_STATE_RETIRE_CODE, Reg.DMC_RANK_STATE_STATE, Reg.DMC_STATUS_MIG_ACTIVE]; decide)) ?_
    | fail_if_no_progress with_reducible refine Keeps.mk' ?_
    | split
    | dsimp only

theorem State.copyDone_keeps {m0 s0 s} (h0 : Keeps m0 s0 s) (hw0 : within 0x3881f2000000000000400000000000000000000000000000000000001000000000000680010002 m0 = true := by decide) :
    Keeps m0 s0 (State.copyDone s) := by
  refine h0.app hw0 ?_
  unfold State.copyDone
  try dsimp only
  repeat' first
    | with_reducible exact .refl _ _
    | with_reducible assumption
    | with_reducible refine State.copyTo_keeps ?_
    | with_reducible refine State.migrationDone_keeps ?_
    | split
    | dsimp only

theorem execMigrationComplete_keeps {s t0} (e0 : execMigrationComplete s = .next t0) : Keeps 0x3881f2000000000000400000000000000000000000000000000000001000000000000680010002 s t0 := by
  rw [← Host.Outcome.next.inj e0]
  try dsimp only
  repeat' first
    | with_reducible exact .refl _ _
    | with_reducible assumption
    | with_reducible refine .ite _ ?_ ?_
    | with_reducible refine State.copyDone_keeps ?_
    | split
    | dsimp only

theorem State.migrationTick_keeps {m0 s0 s} (h0 : Keeps m0 s0 s) (hw0 : within 0x3881f2000000000000400000000000000000000000000000000000001000000000000680010002 m0 = true := by decide) :
    Keeps m0 s0 (State.migrationTick s) := by
  refine h0.app hw0 ?_
  unfold State.migrationTick
  try dsimp only
  repeat' first
    | with_reducible exact .refl _ _
    | with_reducible assumption
    | with_reducible refine .ite _ ?_ ?_
    | with_reducible refine State.copyDone_keeps ?_
    | with_reducible refine State.copyTo_keeps ?_
    | fail_if_no_progress with_reducible refine Keeps.mk' ?_
    | split
    | dsimp only

end Sys2Proof.Machine
end

