-- ==== Sys2Proof/Laws/KeepsEngines.lean ====
section
/-! SUPPORT. What each operation of Machine/Engines.lean may change (Laws/Keeps.lean). -/

namespace Sys2Proof.Machine

set_option Elab.async false
set_option linter.unusedTactic false
set_option linter.unusedSimpArgs false
set_option linter.unreachableTactic false

theorem State.setTask_keeps {m0 s0 s id t} (h0 : Keeps m0 s0 s) (hw0 : within 0x20000 m0 = true := by decide) :
    Keeps m0 s0 (State.setTask s id t) := by
  refine h0.app hw0 ?_
  unfold State.setTask
  try dsimp only
  repeat' first
    | with_reducible exact .refl _ _
    | with_reducible assumption
    | fail_if_no_progress with_reducible refine Keeps.mk' ?_
    | split
    | dsimp only

theorem State.showJug_keeps {m0 s0 s} (h0 : Keeps m0 s0 s) (hw0 : within 0x6400000000000000000000000000000000000000000000000000000000000000 m0 = true := by decide) :
    Keeps m0 s0 (State.showJug s) := by
  refine h0.app hw0 ?_
  unfold State.showJug
  try dsimp only [State.setAll]
  repeat' first
    | with_reducible exact .refl _ _
    | with_reducible assumption
    | with_reducible refine State.set_keeps (by first | assumption | (dsimp only [bank, Reg.JUG_CTRL_DRAIN, Reg.JUG_CTRL_DRAINED, Reg.JUG_TASKS_READY_NOW, Reg.JUG_TASKS_USED]; decide)) ?_
    | fail_if_no_progress with_reducible refine Keeps.mk' ?_
    | split
    | dsimp only

theorem execTaskCreate_keeps {pair priority affinity preemptible mask all s t0} (e0 : execTaskCreate pair priority affinity preemptible mask all s = .next t0) : Keeps 0x106400000000000000000000000000000000000000000000000000000000020002 s t0 := by
  rw [← Host.Outcome.next.inj e0]
  try dsimp only
  repeat' first
    | with_reducible exact .refl _ _
    | with_reducible assumption
    | with_reducible refine .ite _ ?_ ?_
    | with_reducible refine State.emit_keeps ?_
    | with_reducible refine State.setTask_keeps ?_
    | with_reducible refine State.showJug_keeps ?_
    | with_reducible refine State.bump_keeps (by first | assumption | (dsimp only [bank, Reg.JUG_FULL_CNT]; decide)) ?_
    | fail_if_no_progress with_reducible refine Keeps.mk' ?_
    | split
    | dsimp only

theorem execTaskDestroy_keeps {id s t0} (e0 : execTaskDestroy id s = .next t0) : Keeps 0x6400000000000000000000000000000000000000000000000000000000020000 s t0 := by
  rw [← Host.Outcome.next.inj e0]
  try dsimp only
  repeat' first
    | with_reducible exact .refl _ _
    | with_reducible assumption
    | with_reducible refine .ite _ ?_ ?_
    | with_reducible refine State.showJug_keeps ?_
    | fail_if_no_progress with_reducible refine Keeps.mk' ?_
    | split
    | dsimp only

theorem State.signalTask_keeps {m0 s0 s id flags} (h0 : Keeps m0 s0 s) (hw0 : within 0x46400000000000000000000000000000000000000000000000000000000020002 m0 = true := by decide) :
    Keeps m0 s0 (State.signalTask s id flags) := by
  refine h0.app hw0 ?_
  unfold State.signalTask
  try dsimp only
  repeat' first
    | with_reducible exact .refl _ _
    | with_reducible assumption
    | with_reducible refine .ite _ ?_ ?_
    | with_reducible refine State.setTask_keeps ?_
    | with_reducible refine State.showJug_keeps ?_
    | with_reducible refine State.bump_keeps (by first | assumption | (dsimp only [bank, Reg.JUG_STRAY_SIG_CNT]; decide)) ?_
    | fail_if_no_progress with_reducible refine Keeps.mk' ?_
    | split
    | dsimp only

theorem execTaskSignal_keeps {id flags s t0} (e0 : execTaskSignal id flags s = .next t0) : Keeps 0x46400000000000000000000000000000000000000000000000000000000020002 s t0 := by
  rw [← Host.Outcome.next.inj e0]
  try dsimp only
  repeat' first
    | with_reducible exact .refl _ _
    | with_reducible assumption
    | with_reducible refine .ite _ ?_ ?_
    | with_reducible refine State.signalTask_keeps ?_
    | split
    | dsimp only

theorem State.launchTask_keeps {m0 s0 s kind tag} (h0 : Keeps m0 s0 s) (hw0 : within 0x46400000000000000000000000000000000000000000000000000000000020002 m0 = true := by decide) :
    Keeps m0 s0 (State.launchTask s kind tag) := by
  refine h0.app hw0 ?_
  unfold State.launchTask
  try dsimp only
  repeat' first
    | with_reducible exact .refl _ _
    | with_reducible assumption
    | with_reducible refine .ite _ ?_ ?_
    | with_reducible refine State.signalTask_keeps ?_
    | with_reducible refine State.bump_keeps (by first | assumption | (dsimp only [bank, Reg.JUG_STRAY_SIG_CNT]; decide)) ?_
    | split
    | dsimp only

theorem execTaskWait_keeps {e mask all s t0} (e0 : execTaskWait e mask all s = .next t0) : Keeps 0x6400000000000000000000000000000000000000000000000000000000020000 s t0 := by
  rw [← Host.Outcome.next.inj e0]
  try dsimp only
  repeat' first
    | with_reducible exact .refl _ _
    | with_reducible assumption
    | with_reducible refine State.setTask_keeps ?_
    | with_reducible refine State.showJug_keeps ?_
    | fail_if_no_progress with_reducible refine Keeps.mk' ?_
    | split
    | dsimp only

theorem execTaskYield_keeps {e s t0} (e0 : execTaskYield e s = .next t0) : Keeps 0x6400000000000000000000000000000000000000000000000000000000020000 s t0 := by
  rw [← Host.Outcome.next.inj e0]
  try dsimp only
  repeat' first
    | with_reducible exact .refl _ _
    | with_reducible assumption
    | with_reducible refine State.setTask_keeps ?_
    | with_reducible refine State.showJug_keeps ?_
    | fail_if_no_progress with_reducible refine Keeps.mk' ?_
    | split
    | dsimp only

theorem State.dispatchOn_keeps {m0 s0 s e id t} (h0 : Keeps m0 s0 s) (hw0 : within 0x8000000000000000000000000000000000000000000000000000000000020002 m0 = true := by decide) :
    Keeps m0 s0 (State.dispatchOn s e id t) := by
  refine h0.app hw0 ?_
  unfold State.dispatchOn
  try dsimp only
  repeat' first
    | with_reducible exact .refl _ _
    | with_reducible assumption
    | with_reducible refine State.setTask_keeps ?_
    | with_reducible refine State.bump_keeps (by first | assumption | (dsimp only [bank, Reg.JUG_DISPATCH_CNT]; decide)) ?_
    | fail_if_no_progress with_reducible refine Keeps.mk' ?_
    | split
    | dsimp only

theorem State.saveContext_keeps {m0 s0 s id} (h0 : Keeps m0 s0 s) (hw0 : within 0x2000000000000000000000000000000000000000000000000000000000000000000000000000400000000000001800000000000000000000001000000000007e80010002 m0 = true := by decide) :
    Keeps m0 s0 (State.saveContext s id) := by
  refine h0.app hw0 ?_
  unfold State.saveContext
  try dsimp only
  repeat' first
    | with_reducible exact .refl _ _
    | with_reducible assumption
    | with_reducible refine .ite _ ?_ ?_
    | with_reducible refine State.deviceStore_keeps ?_
    | fail_if_no_progress with_reducible refine Keeps.mk' ?_
    | split
    | dsimp only

theorem State.preempt_keeps {m0 s0 s id t} (h0 : Keeps m0 s0 s) (hw0 : within 0x2000000000000000000000000000000000000000000000000000000000000000000000010000400000000000001800000000000000000000001000000000007e80030002 m0 = true := by decide) :
    Keeps m0 s0 (State.preempt s id t) := by
  refine h0.app hw0 ?_
  unfold State.preempt
  try dsimp only
  repeat' first
    | with_reducible exact .refl _ _
    | with_reducible assumption
    | with_reducible refine State.setTask_keeps ?_
    | with_reducible refine State.saveContext_keeps ?_
    | with_reducible refine State.bump_keeps (by first | assumption | (dsimp only [bank, Reg.JUG_PREEMPT_CNT]; decide)) ?_
    | fail_if_no_progress with_reducible refine Keeps.mk' ?_
    | split
    | dsimp only

theorem State.place_keeps {s id t u} (e0 : State.place s id t = some u) : Keeps 0x2000000000000000000000000000000000000000000000000000000000000000000000038000400000000000001800000000000000000000001000000000007e80030002 s u := by
  unfold State.place at e0
  dsimp only at e0
  split at e0
  · rw [← Option.some.inj e0]; exact State.dispatchOn_keeps (.refl _ _)
  · split at e0
    · rw [← Option.some.inj e0]; exact State.dispatchOn_keeps (State.preempt_keeps (.refl _ _))
    · split at e0
      · split at e0
        · cases e0
        · rw [← Option.some.inj e0]; exact State.bump_keeps (by (first | assumption | (dsimp only [bank, Reg.JUG_INTR_CNT]; decide))) (State.emit_keeps (State.setTask_keeps (.refl _ _)))
      · cases e0

theorem execTaskDispatch_keeps {s t0} (e0 : execTaskDispatch s = .next t0) : Keeps 0x200000000000000000000000000000000000000000000000000000000000000000000003e400400000000000001800000000000000000000001000000000007e80030002 s t0 := by
  rw [← Host.Outcome.next.inj e0]
  refine .ite _ ?_ (.refl _ _)
  split
  · next u hu =>
    obtain ⟨x, _, hx⟩ := List.mem_filterMap.mp (List.mem_of_mem_head? hu)
    exact State.showJug_keeps ((State.place_keeps hx).mono (by decide))
  · exact .refl _ _

theorem State.drainEngine_keeps {m0 s0 s e} (h0 : Keeps m0 s0 s) (hw0 : within 0x2000000000000000000000000000000000000000000000000000000000000000000000030000400000000000001800000000000000000000001000000000007e80030002 m0 = true := by decide) :
    Keeps m0 s0 (State.drainEngine s e) := by
  refine h0.app hw0 ?_
  unfold State.drainEngine
  try dsimp only
  repeat' first
    | with_reducible exact .refl _ _
    | with_reducible assumption
    | with_reducible refine .ite _ ?_ ?_
    | with_reducible refine State.preempt_keeps ?_
    | with_reducible refine State.emit_keeps ?_
    | with_reducible refine State.bump_keeps (by first | assumption | (dsimp only [bank, Reg.JUG_INTR_CNT]; decide)) ?_
    | fail_if_no_progress with_reducible refine Keeps.mk' ?_
    | split
    | dsimp only

theorem State.setDrain_keeps {m0 s0 s drain} (h0 : Keeps m0 s0 s) (hw0 : within 0x2000000000000000000000000000000000000000000000000000000000000000000000036600400000000000001800000000000000000000001000000000007e80030002 m0 = true := by decide) :
    Keeps m0 s0 (State.setDrain s drain) := by
  refine h0.app hw0 ?_
  unfold State.setDrain
  try dsimp only
  repeat' first
    | with_reducible exact .refl _ _
    | with_reducible assumption
    | with_reducible refine State.drainEngine_keeps ?_
    | with_reducible refine State.showJug_keeps ?_
    | with_reducible refine State.set_keeps (by first | assumption | (dsimp only [bank, Reg.JUG_CTRL_DRAIN]; decide)) ?_
    | with_reducible refine .foldl _ _ ?_ (fun _ _ _ => ?_)
    | split
    | dsimp only

theorem execJugDrainWrite_keeps {w drain s t0} (e0 : execJugDrainWrite w drain s = .next t0) : Keeps 0x2000000000000000000000000000000000000000000000000000000000000000000000036600400000000000001800000000000000000000001000000000007e81030002 s t0 := by
  rw [← Host.Outcome.next.inj e0]
  try dsimp only
  repeat' first
    | with_reducible exact .refl _ _
    | with_reducible assumption
    | with_reducible refine State.setDrain_keeps ?_
    | with_reducible refine State.logReg_keeps ?_
    | with_reducible refine State.byWriter_keeps (fun _ _ => ?_) ?_
    | split
    | dsimp only

theorem State.taskFault_keeps {m0 s0 s e} (h0 : Keeps m0 s0 s) (hw0 : within 0x6400000000000000000000000000000000000000000000000000000000020000 m0 = true := by decide) :
    Keeps m0 s0 (State.taskFault s e) := by
  refine h0.app hw0 ?_
  unfold State.taskFault
  try dsimp only
  repeat' first
    | with_reducible exact .refl _ _
    | with_reducible assumption
    | with_reducible refine State.setTask_keeps ?_
    | with_reducible refine State.showJug_keeps ?_
    | fail_if_no_progress with_reducible refine Keeps.mk' ?_
    | split
    | dsimp only

theorem State.jugglerReset_keeps {m0 s0 s} (h0 : Keeps m0 s0 s) (hw0 : within 0x6400000000000000000000000000000000000000000000000000000000020000 m0 = true := by decide) :
    Keeps m0 s0 (State.jugglerReset s) := by
  refine h0.app hw0 ?_
  unfold State.jugglerReset
  try dsimp only
  repeat' first
    | with_reducible exact .refl _ _
    | with_reducible assumption
    | with_reducible refine State.showJug_keeps ?_
    | fail_if_no_progress with_reducible refine Keeps.mk' ?_
    | split
    | dsimp only

theorem State.setClaims_keeps {m0 s0 s p l} (h0 : Keeps m0 s0 s) (hw0 : within 0xc00000000000000000000000000000000000000000000000000000000000000000000000000000000000000000000000000000000000000000000000000000000000000000000001e000000000000000000000000000000000000000000000000000040000 m0 = true := by decide) :
    Keeps m0 s0 (State.setClaims s p l) := by
  refine h0.app hw0 ?_
  unfold State.setClaims
  try dsimp only [State.setAll]
  repeat' first
    | with_reducible exact .refl _ _
    | with_reducible assumption
    | with_reducible refine State.set_keeps (by first | assumption | (dsimp only [bank, Reg.BRK_LOCAL_ENTRY_ACTIVE_AT_ENTRY, Reg.BRK_LOCAL_ENTRY_SRC, Reg.BRK_PAIR_CUR_SRC, Reg.BRK_PAIR_DEPTH, Reg.BRK_PAIR_RPRI, Reg.BRK_PAIR_VALID]; decide)) ?_
    | fail_if_no_progress with_reducible refine Keeps.mk' ?_
    | split
    | dsimp only

theorem State.showClaim_keeps {m0 s0 s n by'} (h0 : Keeps m0 s0 s) (hw0 : within 0x30000000000000000000000000000000000000000000000000000000000000 m0 = true := by decide) :
    Keeps m0 s0 (State.showClaim s n by') := by
  refine h0.app hw0 ?_
  unfold State.showClaim
  try dsimp only [State.setAll]
  repeat' first
    | with_reducible exact .refl _ _
    | with_reducible assumption
    | with_reducible refine State.set_keeps (by first | assumption | (dsimp only [bank, Reg.BRK_SRC_CFG_CLAIMED, Reg.BRK_SRC_CFG_CLAIMED_BY]; decide)) ?_
    | split
    | dsimp only

theorem State.claim_keeps {m0 s0 s p n first} (h0 : Keeps m0 s0 s) (hw0 : within 0xc00000000000000000000000000000000000000000000000000000000000000000000000000000000000000000000000000000000000000000000000000000000000000000003001e000000000000000000000000000000000000000000000000000040000 m0 = true := by decide) :
    Keeps m0 s0 (State.claim s p n first) := by
  refine h0.app hw0 ?_
  unfold State.claim
  try dsimp only
  repeat' first
    | with_reducible exact .refl _ _
    | with_reducible assumption
    | with_reducible refine State.setClaims_keeps ?_
    | with_reducible refine State.showClaim_keeps ?_
    | fail_if_no_progress with_reducible refine Keeps.mk' ?_
    | split
    | dsimp only

theorem State.enterOrHandOn_keeps {m0 s0 s p n} (h0 : Keeps m0 s0 s) (hw0 : within 0xc00000000000000000000000000000000000000000000000000000000000000000000000000000000000000000000000000000000000000000000000000000000000000000003009e000000000000000000000000000000000000000000000000000040002 m0 = true := by decide) :
    Keeps m0 s0 (State.enterOrHandOn s p n) := by
  refine h0.app hw0 ?_
  unfold State.enterOrHandOn
  try dsimp only
  repeat' first
    | with_reducible exact .refl _ _
    | with_reducible assumption
    | with_reducible refine .ite _ ?_ ?_
    | with_reducible refine State.claim_keeps ?_
    | with_reducible refine State.bump_keeps (by first | assumption | (dsimp only [bank, Reg.BRK_PAIR_HANDON_CNT]; decide)) ?_
    | split
    | dsimp only

theorem State.barkerEntry_keeps {m0 s0 s p} (h0 : Keeps m0 s0 s) (hw0 : within 0xc00000000000000000000000000000000000000000000000000000000000000000000000000000000000000000000000000000000000000000000000000000000000000000003019e000000000000000000000000000000000000000000000000000040002 m0 = true := by decide) :
    Keeps m0 s0 (State.barkerEntry s p) := by
  refine h0.app hw0 ?_
  unfold State.barkerEntry
  try dsimp only
  repeat' first
    | with_reducible exact .refl _ _
    | with_reducible assumption
    | with_reducible refine .ite _ ?_ ?_
    | with_reducible refine State.setClaims_keeps ?_
    | with_reducible refine State.showClaim_keeps ?_
    | with_reducible refine State.claim_keeps ?_
    | with_reducible refine State.enterOrHandOn_keeps ?_
    | with_reducible refine State.bump_keeps (by first | assumption | (dsimp only [bank, Reg.BRK_PAIR_ENTRY_TAKE_CNT]; decide)) ?_
    | fail_if_no_progress with_reducible refine Keeps.mk' ?_
    | split
    | dsimp only

theorem execBarkerEntry_keeps {pair s t0} (e0 : execBarkerEntry pair s = .next t0) : Keeps 0xc00000000000000000000000000000000000000000000000000000000000000000000000000000000000000000000000000000000000000000000000000000000000000000003019e000000000000000000000000000000000000000000000000000040002 s t0 := by
  rw [← Host.Outcome.next.inj e0]
  try dsimp only
  repeat' first
    | with_reducible exact .refl _ _
    | with_reducible assumption
    | with_reducible refine State.barkerEntry_keeps ?_
    | split
    | dsimp only

theorem State.barkerTick_keeps {m0 s0 s} (h0 : Keeps m0 s0 s) (hw0 : within 0xc00000000000000000000000000000000000000000000000000000000000000000000000000000000000000000000000000000000000000000000000000000000000000000000001e000000000000000000000000000000000000000000000000000040000 m0 = true := by decide) :
    Keeps m0 s0 (State.barkerTick s) := by
  refine h0.app hw0 ?_
  unfold State.barkerTick
  try dsimp only
  repeat' first
    | with_reducible exact .refl _ _
    | with_reducible assumption
    | with_reducible refine .ite _ ?_ ?_
    | with_reducible refine State.setClaims_keeps ?_
    | with_reducible refine .foldl _ _ ?_ (fun _ _ _ => ?_)
    | fail_if_no_progress with_reducible refine Keeps.mk' ?_
    | split
    | dsimp only

theorem State.brkComplete_keeps {m0 s0 s p n} (h0 : Keeps m0 s0 s) (hw0 : within 0xc0000000000000000000000000000000000000000000000000000000000000000000000000000000000000000000000000000000000000000000000000000000000000000000300fe000000000000000000000000000000000000000000000000000040002 m0 = true := by decide) :
    Keeps m0 s0 (State.brkComplete s p n) := by
  refine h0.app hw0 ?_
  unfold State.brkComplete
  try dsimp only
  repeat' first
    | with_reducible exact .refl _ _
    | with_reducible assumption
    | with_reducible refine .ite _ ?_ ?_
    | with_reducible refine State.setClaims_keeps ?_
    | with_reducible refine State.showClaim_keeps ?_
    | with_reducible refine State.claim_keeps ?_
    | with_reducible refine State.bump_keeps (by first | assumption | (dsimp only [bank, Reg.BRK_PAIR_HANDON_CNT, Reg.BRK_PAIR_STRAY_CNT, Reg.BRK_PAIR_VANISHED_CNT]; decide)) ?_
    | fail_if_no_progress with_reducible refine Keeps.mk' ?_
    | split
    | dsimp only

theorem execBrkComplete_keeps {pair src s t0} (e0 : execBrkComplete pair src s = .next t0) : Keeps 0xc0000000000000000000000000000000000000000000000000000000000000000000000000000000000000000000000000000000000000000000000000000000000000000000300fe000000000000000000000000000000000000000000000000000040002 s t0 := by
  rw [← Host.Outcome.next.inj e0]
  try dsimp only
  repeat' first
    | with_reducible exact .refl _ _
    | with_reducible assumption
    | with_reducible refine State.brkComplete_keeps ?_
    | split
    | dsimp only

theorem State.dropClaims_keeps {m0 s0 s p} (h0 : Keeps m0 s0 s) (hw0 : within 0xc00000000000000000000000000000000000000000000000000000000000000000000000000000000000000000000000000000000000000000000000000000000000000000003001e000000000000000000000000000000000000000000000000000040000 m0 = true := by decide) :
    Keeps m0 s0 (State.dropClaims s p) := by
  refine h0.app hw0 ?_
  unfold State.dropClaims
  try dsimp only
  repeat' first
    | with_reducible exact .refl _ _
    | with_reducible assumption
    | with_reducible refine State.showClaim_keeps ?_
    | with_reducible refine State.setClaims_keeps ?_
    | with_reducible refine .foldl _ _ ?_ (fun _ _ _ => ?_)
    | split
    | dsimp only

theorem State.brkSw_keeps {m0 s0 s w v} (h0 : Keeps m0 s0 s) (hw0 : within 0x400000000000001800000000000000000000001000000000001e81040002 m0 = true := by decide) :
    Keeps m0 s0 (State.brkSw s w v) := by
  refine h0.app hw0 ?_
  unfold State.brkSw
  try dsimp only
  repeat' first
    | with_reducible exact .refl _ _
    | with_reducible assumption
    | with_reducible refine .ite _ ?_ ?_
    | with_reducible refine State.pushEvts_keeps ?_
    | with_reducible refine State.logReg_keeps ?_
    | with_reducible refine State.byWriter_keeps (fun _ _ => ?_) ?_
    | fail_if_no_progress with_reducible refine Keeps.mk' ?_
    | split
    | dsimp only

theorem execBrkSwWrite_keeps {w v s t0} (e0 : execBrkSwWrite w v s = .next t0) : Keeps 0x400000000000001800000000000000000000001000000000001e81040002 s t0 := by
  rw [← Host.Outcome.next.inj e0]
  try dsimp only
  repeat' first
    | with_reducible exact .refl _ _
    | with_reducible assumption
    | with_reducible refine State.brkSw_keeps ?_
    | split
    | dsimp only

theorem execBrkLatchClear_keeps {w i mask s t0} (e0 : execBrkLatchClear w i mask s = .next t0) : Keeps 0x400000000000001800000000000000000000001000000000001e81000002 s t0 := by
  rw [← Host.Outcome.next.inj e0]
  try dsimp only
  repeat' first
    | with_reducible exact .refl _ _
    | with_reducible assumption
    | with_reducible refine State.logReg_keeps ?_
    | with_reducible refine State.set_keeps (by first | assumption | (dsimp only [bank, Reg.BRK_LATCH]; decide)) ?_
    | with_reducible refine State.byWriter_keeps (fun _ _ => ?_) ?_
    | split
    | dsimp only

theorem State.chkWrite_keeps {m0 s0 s w n v} (h0 : Keeps m0 s0 s) (hw0 : within 0x201dc00000400000000000001800000000000000000000001000000000001e81000002 m0 = true := by decide) :
    Keeps m0 s0 (State.chkWrite s w n v) := by
  refine h0.app hw0 ?_
  unfold State.chkWrite
  try dsimp only [State.setAll]
  repeat' first
    | with_reducible exact .refl _ _
    | with_reducible assumption
    | with_reducible refine .ite _ ?_ ?_
    | with_reducible refine State.logReg_keeps ?_
    | with_reducible refine State.set_keeps (by first | assumption | (dsimp only [bank, Reg.CHK_ATTACH_INDEX, Reg.CHK_ATTACH_KIND, Reg.CHK_LAST_STATUS, Reg.CHK_MODE, Reg.CHK_REFIN, Reg.CHK_REFOUT, Reg.CHK_WIDTH]; decide)) ?_
    | with_reducible refine State.setAll_keeps (by (repeat' first | with_reducible assumption | with_reducible exact inMask_nil _ | (with_reducible refine inMask_cons ?_ ?_) | (with_reducible refine inMask_append ?_ ?_) | (with_reducible refine inMask_flatMap (fun _ => ?_)) | (with_reducible refine asBit ?_; dsimp only [Function.comp, bank, Reg.CHK_ATTACH_INDEX, Reg.CHK_ATTACH_KIND, Reg.CHK_LAST_STATUS, Reg.CHK_MODE, Reg.CHK_REFIN, Reg.CHK_REFOUT, Reg.CHK_WIDTH]; decide) | (simp only [List.map_map, List.map_append, List.map_cons, List.map_nil]) | (with_reducible refine inMask_ite _ ?_ ?_) | (with_reducible refine inMask_map (fun _ => ?_)))) ?_
    | with_reducible refine State.byWriter_keeps (fun _ _ => ?_) ?_
    | split
    | dsimp only

theorem execChkCtrlWrite_keeps {w n v s t0} (e0 : execChkCtrlWrite w n v s = .next t0) : Keeps 0x201dc00000400000000000001800000000000000000000001000000000001e81000002 s t0 := by
  rw [← Host.Outcome.next.inj e0]
  try dsimp only
  repeat' first
    | with_reducible exact .refl _ _
    | with_reducible assumption
    | with_reducible refine State.chkWrite_keeps ?_
    | split
    | dsimp only

theorem actChkScan_keeps {m0 s0 d t s} (h0 : Keeps m0 s0 s) (hw0 : within 0x2002000000400000000000001800000000000000000000001000000000001e80080002 m0 = true := by decide) :
    Keeps m0 s0 (actChkScan d t s) := by
  refine h0.app hw0 ?_
  unfold actChkScan
  try dsimp only
  repeat' first
    | with_reducible exact .refl _ _
    | with_reducible assumption
    | with_reducible refine .ite _ ?_ ?_
    | with_reducible refine State.logDesc_keeps ?_
    | with_reducible refine State.complete_keeps ?_
    | with_reducible refine State.set_keeps (by first | assumption | (dsimp only [bank, Reg.CHK_BUSY, Reg.CHK_LAST_STATUS, Reg.CHK_MODE]; decide)) ?_
    | fail_if_no_progress with_reducible refine Keeps.mk' ?_
    | split
    | dsimp only

theorem execChkScan_keeps {d s t0} (e0 : execChkScan d s = .next t0) : Keeps 0x2002000000400000000000001800000000000000800000001a00000000001e8188000a s t0 := by
  rw [← Host.Outcome.next.inj e0]
  try dsimp only
  repeat' first
    | with_reducible exact .refl _ _
    | with_reducible assumption
    | with_reducible refine actChkScan_keeps ?_
    | with_reducible refine State.runDesc_keeps (fun _ _ _ => ?_) ?_
    | split
    | dsimp only

theorem State.scanDone_keeps {m0 s0 s n} (h0 : Keeps m0 s0 s) (hw0 : within 0x3802000000000000000000000000000000000000000000000000000000000680080000 m0 = true := by decide) :
    Keeps m0 s0 (State.scanDone s n) := by
  refine h0.app hw0 ?_
  unfold State.scanDone
  try dsimp only
  repeat' first
    | with_reducible exact .refl _ _
    | with_reducible assumption
    | with_reducible refine State.complete_keeps ?_
    | with_reducible refine State.set_keeps (by first | assumption | (dsimp only [bank, Reg.CHK_BUSY, Reg.CHK_LAST_STATUS, Reg.CHK_RESULT_HI, Reg.CHK_RESULT_LO]; decide)) ?_
    | with_reducible refine State.set64_keeps (by first | assumption | (dsimp only [bank, Reg.CHK_BUSY, Reg.CHK_LAST_STATUS, Reg.CHK_RESULT_HI, Reg.CHK_RESULT_LO]; decide)) (by first | assumption | (dsimp only [bank, Reg.CHK_BUSY, Reg.CHK_LAST_STATUS, Reg.CHK_RESULT_HI, Reg.CHK_RESULT_LO]; decide)) ?_
    | fail_if_no_progress with_reducible refine Keeps.mk' ?_
    | split
    | dsimp only

theorem execChkScanDone_keeps {n s t0} (e0 : execChkScanDone n s = .next t0) : Keeps 0x3802000000000000000000000000000000000000000000000000000000000680080000 s t0 := by
  rw [← Host.Outcome.next.inj e0]
  try dsimp only
  repeat' first
    | with_reducible exact .refl _ _
    | with_reducible assumption
    | with_reducible refine State.scanDone_keeps ?_
    | split
    | dsimp only

end Sys2Proof.Machine
end

