-- ==== Sys2Proof/Laws/KeepsImages.lean ====
section
/-! SUPPORT. What each operation of Machine/Images.lean may change (Laws/Keeps.lean). -/

namespace Sys2Proof.Machine

set_option Elab.async false
set_option linter.unusedTactic false
set_option linter.unusedSimpArgs false
set_option linter.unreachableTactic false

theorem State.showSet_keeps {m0 s0 s} (h0 : Keeps m0 s0 s) (hw0 : within 0x180008000000000000000000000000000000000000000 m0 = true := by decide) :
    Keeps m0 s0 (State.showSet s) := by
  refine h0.app hw0 ?_
  unfold State.showSet
  try dsimp only [State.setAll]
  repeat' first
    | with_reducible exact .refl _ _
    | with_reducible assumption
    | with_reducible refine State.set_keeps (by first | assumption | (dsimp only [bank, Reg.FW_SET_HI, Reg.FW_SET_LO, Reg.FW_VERSION]; decide)) ?_
    | with_reducible refine .foldl _ _ ?_ (fun _ _ _ => ?_)
    | split
    | dsimp only

theorem State.takeBundle_keeps {m0 s0 s l} (h0 : Keeps m0 s0 s) (hw0 : within 0x180008000000000000000000000000000000000200000 m0 = true := by decide) :
    Keeps m0 s0 (State.takeBundle s l) := by
  refine h0.app hw0 ?_
  unfold State.takeBundle
  try dsimp only
  repeat' first
    | with_reducible exact .refl _ _
    | with_reducible assumption
    | with_reducible refine .ite _ ?_ ?_
    | with_reducible refine State.showSet_keeps ?_
    | fail_if_no_progress with_reducible refine Keeps.mk' ?_
    | split
    | dsimp only

end Sys2Proof.Machine
end

