-- ==== Sys2Proof/Laws/KeepsModes.lean ====
section
/-! SUPPORT. What each operation of Machine/Modes.lean may change (Laws/Keeps.lean). -/

namespace Sys2Proof.Machine

set_option Elab.async false
set_option linter.unusedTactic false
set_option linter.unusedSimpArgs false
set_option linter.unreachableTactic false

theorem State.quadPds_keeps {m0 s0 s} (h0 : Keeps m0 s0 s) (hw0 : within 0x2000000000000000000000000000000 m0 = true := by decide) :
    Keeps m0 s0 (State.quadPds s) := by
  refine h0.app hw0 ?_
  unfold State.quadPds
  try dsimp only
  repeat' first
    | with_reducible exact .refl _ _
    | with_reducible assumption
    | with_reducible refine State.setPd_keeps ?_
    | with_reducible refine .foldl _ _ ?_ (fun _ _ _ => ?_)
    | split
    | dsimp only

theorem State.ingestOff_keeps {m0 s0 s} (h0 : Keeps m0 s0 s) (hw0 : within 0x40 m0 = true := by decide) :
    Keeps m0 s0 (State.ingestOff s) := by
  refine h0.app hw0 ?_
  unfold State.ingestOff
  try dsimp only
  repeat' first
    | with_reducible exact .refl _ _
    | with_reducible assumption
    | fail_if_no_progress with_reducible refine Keeps.mk' ?_
    | split
    | dsimp only

theorem State.scanoutOff_keeps {m0 s0 s} (h0 : Keeps m0 s0 s) (hw0 : within 0x200000000000000000000000000000000000000000000000000000000000000000000000000000000000000000000000000000000000000000000000000000000000000000000000000000000000000000000000680002008 m0 = true := by decide) :
    Keeps m0 s0 (State.scanoutOff s) := by
  refine h0.app hw0 ?_
  unfold State.scanoutOff
  try dsimp only
  repeat' first
    | with_reducible exact .refl _ _
    | with_reducible assumption
    | with_reducible refine State.cancel_keeps ?_
    | with_reducible refine State.scnDrop_keeps ?_
    | with_reducible refine .foldl _ _ ?_ (fun _ _ _ => ?_)
    | split
    | dsimp only

theorem State.gateOff_keeps {m0 s0 s off} (h0 : Keeps m0 s0 s) (hw0 : within 0xc00000000000000000000000020000000000000000000000000000000000000000000000000000000000000000000000000000000000000000000000000000000000000000643001e00000000000000000000000000200000000000000000000068106a048 m0 = true := by decide) :
    Keeps m0 s0 (State.gateOff s off) := by
  refine h0.app hw0 ?_
  unfold State.gateOff
  try dsimp only
  repeat' first
    | with_reducible exact .refl _ _
    | with_reducible assumption
    | with_reducible refine .ite _ ?_ ?_
    | with_reducible refine State.audioOff_keeps ?_
    | with_reducible refine State.jugglerReset_keeps ?_
    | with_reducible refine State.ingestOff_keeps ?_
    | with_reducible refine State.scanoutOff_keeps ?_
    | with_reducible refine State.dropClaims_keeps ?_
    | with_reducible refine State.setPds_keeps ?_
    | with_reducible refine .foldl _ _ ?_ (fun _ _ _ => ?_)
    | fail_if_no_progress with_reducible refine Keeps.mk' ?_
    | split
    | dsimp only

theorem State.lanesOffFor_keeps {m0 s0 s m} (h0 : Keeps m0 s0 s) (hw0 : within 0x200000000000000000000000000000000000000000000000000000000000207000000000008600000020000004800000000000000000000000000400000000000000000000000000000000000001000000000000680002812 m0 = true := by decide) :
    Keeps m0 s0 (State.lanesOffFor s m) := by
  refine h0.app hw0 ?_
  unfold State.lanesOffFor
  try dsimp only
  repeat' first
    | with_reducible exact .refl _ _
    | with_reducible assumption
    | with_reducible refine State.laneTo_keeps ?_
    | with_reducible refine State.endRetrain_keeps ?_
    | with_reducible refine .foldl _ _ ?_ (fun _ _ _ => ?_)
    | split
    | dsimp only

theorem State.lanesOnFor_keeps {m0 s0 s} (h0 : Keeps m0 s0 s) (hw0 : within 0x800000000000000000000000000000000000000000000000000000002000000000000000000000000000800 m0 = true := by decide) :
    Keeps m0 s0 (State.lanesOnFor s) := by
  refine h0.app hw0 ?_
  unfold State.lanesOnFor
  try dsimp only
  repeat' first
    | with_reducible exact .refl _ _
    | with_reducible assumption
    | with_reducible refine State.laneStart_keeps ?_
    | with_reducible refine .foldl _ _ ?_ (fun _ _ _ => ?_)
    | split
    | dsimp only

theorem State.saveOwn_keeps {m0 s0 s} (h0 : Keeps m0 s0 s) (hw0 : within registers m0 = true := by decide) :
    Keeps m0 s0 (State.saveOwn s) := by
  refine h0.app hw0 ?_
  unfold State.saveOwn
  try dsimp only
  repeat' first
    | with_reducible exact .refl _ _
    | with_reducible assumption
    | with_reducible refine .ite _ ?_ ?_
    | with_reducible refine .foldl _ _ ?_ (fun _ _ _ => ?_)
    | fail_if_no_progress with_reducible refine Keeps.mkRegs ?_ (fun h => by repeat' first | exact h | refine Table.rising_foldl_put _ _ _ _ ?_ | refine Table.rising_filter _ _ ?_) (by decide)
    | fail_if_no_progress with_reducible refine Keeps.mk' ?_
    | split
    | dsimp only

theorem State.restoreOwn_keeps {m0 s0 s} (h0 : Keeps m0 s0 s) (hw0 : within registers m0 = true := by decide) :
    Keeps m0 s0 (State.restoreOwn s) := by
  refine h0.app hw0 ?_
  unfold State.restoreOwn
  try dsimp only
  repeat' first
    | with_reducible exact .refl _ _
    | with_reducible assumption
    | with_reducible refine .ite _ ?_ ?_
    | with_reducible refine .foldl _ _ ?_ (fun _ _ _ => ?_)
    | fail_if_no_progress with_reducible refine Keeps.mkRegs ?_ (fun h => by repeat' first | exact h | refine Table.rising_foldl_put _ _ _ _ ?_ | refine Table.rising_filter _ _ ?_) (by decide)
    | fail_if_no_progress with_reducible refine Keeps.mk' ?_
    | split
    | dsimp only

theorem State.setRole_keeps {m0 s0 s} (h0 : Keeps m0 s0 s) (hw0 : within registers m0 = true := by decide) :
    Keeps m0 s0 (State.setRole s) := by
  refine h0.app hw0 ?_
  unfold State.setRole
  try dsimp only [State.setAll]
  repeat' first
    | with_reducible exact .refl _ _
    | with_reducible assumption
    | with_reducible refine .ite _ ?_ ?_
    | with_reducible refine State.saveOwn_keeps ?_
    | with_reducible refine State.set_keeps (by first | assumption | (dsimp only [bank, Reg.TRP_STATUS_ROLE, Reg.TRP_STATUS_STATE]; decide)) ?_
    | split
    | dsimp only

theorem State.endPairing_keeps {m0 s0 s} (h0 : Keeps m0 s0 s) (hw0 : within 0xffffffffffffffffffffffffffffffffffffffffffffffffffffffffffffffffffffffffffffffffffffffffffffffffffffffffffffffffffffffffffffffffffffffffffffffffffffffffffffffffffffffffffffffffffffffffffffffffffffffffffffffffffffffffffffffffffffffffffffffffffffffffffffffff0000000000004100 m0 = true := by decide) :
    Keeps m0 s0 (State.endPairing s) := by
  refine h0.app hw0 ?_
  unfold State.endPairing
  try dsimp only [State.setAll]
  repeat' first
    | with_reducible exact .refl _ _
    | with_reducible assumption
    | with_reducible refine State.setSaf_keeps ?_
    | with_reducible refine State.restoreOwn_keeps ?_
    | with_reducible refine State.set_keeps (by first | assumption | (dsimp only [bank, Reg.TRP_CTRL_ENABLE, Reg.TRP_PARTNER_PART, Reg.TRP_PARTNER_VERSION, Reg.TRP_STATUS_FIT, Reg.TRP_STATUS_PARTNER_READY, Reg.TRP_STATUS_PARTNER_SEEN]; decide)) ?_
    | with_reducible refine .foldl _ _ ?_ (fun _ _ _ => ?_)
    | fail_if_no_progress with_reducible refine Keeps.mk' ?_
    | split
    | dsimp only

theorem State.driveFault_keeps {m0 s0 s} (h0 : Keeps m0 s0 s) (hw0 : within 0x800000 m0 = true := by decide) :
    Keeps m0 s0 (State.driveFault s) := by
  refine h0.app hw0 ?_
  unfold State.driveFault
  try dsimp only
  repeat' first
    | with_reducible exact .refl _ _
    | with_reducible assumption
    | with_reducible refine .ite _ ?_ ?_
    | with_reducible refine State.emit_keeps ?_
    | fail_if_no_progress with_reducible refine Keeps.mk' ?_
    | split
    | dsimp only

theorem State.halt_keeps {m0 s0 s reason} (h0 : Keeps m0 s0 s) (hw0 : within 0xc000000000000000000000000200000000000000000000000001c0000301000000000000000000600000020700000000000860000002000000480000000000000000000000643041e000000000001800000000000002000240001000000000003e8196e8fa m0 = true := by decide) :
    Keeps m0 s0 (State.halt s reason) := by
  refine h0.app hw0 ?_
  unfold State.halt
  try dsimp only [State.setAll]
  repeat' first
    | with_reducible exact .refl _ _
    | with_reducible assumption
    | with_reducible refine .ite _ ?_ ?_
    | with_reducible refine State.logUnit_keeps ?_
    | with_reducible refine State.slotToFault_keeps ?_
    | with_reducible refine State.laneTo_keeps ?_
    | with_reducible refine State.gateOff_keeps ?_
    | with_reducible refine State.driveFault_keeps ?_
    | with_reducible refine State.set_keeps (by first | assumption | (dsimp only [bank, Reg.PWR_MODE_STATUS_PHASE, Reg.PWR_SERVICE_REASON]; decide)) ?_
    | with_reducible refine .foldl _ _ ?_ (fun _ _ _ => ?_)
    | fail_if_no_progress with_reducible refine Keeps.mkMem ?_ (by first | exact fun _ => ⟨.nil, fun _ h => absurd h List.not_mem_nil⟩ | exact fun h => Memory.wf_filter _ _ h) (by decide)
    | fail_if_no_progress with_reducible refine Keeps.mk' ?_
    | split
    | dsimp only

theorem State.enterMode_keeps {m0 s0 s m} (h0 : Keeps m0 s0 s) (hw0 : within 0xffffffffffffffffffffffffffffffffffffffffffffffffffffffffffffffffffffffffffffffffffffffffffffffffffffffffffffffffffffffffffffffffffffffffffffffffffffffffffffffffffffffffffffffffffffffffffffffffffffffffffffffffffffffffffffffffffffffffffffffffffffffffffffffff0000000000000002 m0 = true := by decide) :
    Keeps m0 s0 (State.enterMode s m) := by
  refine h0.app hw0 ?_
  unfold State.enterMode
  try dsimp only [State.setAll]
  repeat' first
    | with_reducible exact .refl _ _
    | with_reducible assumption
    | with_reducible refine State.setRole_keeps ?_
    | with_reducible refine State.set_keeps (by first | assumption | (dsimp only [bank, Reg.PWR_MODE_CHANGE_CNT, Reg.PWR_MODE_STATUS_CUR_MODE, Reg.PWR_MODE_STATUS_PHASE, Reg.PWR_MODE_STATUS_TARGET_MODE]; decide)) ?_
    | with_reducible refine State.bump_keeps (by first | assumption | (dsimp only [bank, Reg.PWR_MODE_CHANGE_CNT, Reg.PWR_MODE_STATUS_CUR_MODE, Reg.PWR_MODE_STATUS_PHASE, Reg.PWR_MODE_STATUS_TARGET_MODE]; decide)) ?_
    | split
    | dsimp only

theorem State.dropToService_keeps {m0 s0 s} (h0 : Keeps m0 s0 s) (hw0 : within 0xffffffffffffffffffffffffffffffffffffffffffffffffffffffffffffffffffffffffffffffffffffffffffffffffffffffffffffffffffffffffffffffffffffffffffffffffffffffffffffffffffffffffffffffffffffffffffffffffffffffffffffffffffffffffffffffffffffffffffffffffffffffffffffffff0000003e8107e9ea m0 = true := by decide) :
    Keeps m0 s0 (State.dropToService s) := by
  refine h0.app hw0 ?_
  unfold State.dropToService
  try dsimp only
  repeat' first
    | with_reducible exact .refl _ _
    | with_reducible assumption
    | with_reducible refine .ite _ ?_ ?_
    | with_reducible refine State.slotToFault_keeps ?_
    | with_reducible refine State.logUnit_keeps ?_
    | with_reducible refine State.enterMode_keeps ?_
    | with_reducible refine State.gateOff_keeps ?_
    | with_reducible refine State.toFull_keeps ?_
    | with_reducible refine State.endPairing_keeps ?_
    | with_reducible refine State.setPds_keeps ?_
    | with_reducible refine State.lanesOnFor_keeps ?_
    | with_reducible refine State.quadPds_keeps ?_
    | with_reducible refine State.set_keeps (by first | assumption | (dsimp only [bank, Reg.PWR_SERVICE_REASON]; decide)) ?_
    | with_reducible refine .foldl _ _ ?_ (fun _ _ _ => ?_)
    | fail_if_no_progress with_reducible refine Keeps.mk' ?_
    | split
    | dsimp only

theorem State.checkMinimum_keeps {m0 s0 s} (h0 : Keeps m0 s0 s) (hw0 : within 0xffffffffffffffffffffffffffffffffffffffffffffffffffffffffffffffffffffffffffffffffffffffffffffffffffffffffffffffffffffffffffffffffffffffffffffffffffffffffffffffffffffffffffffffffffffffffffffffffffffffffffffffffffffffffffffffffffffffffffffffffffffffffffffffff0000003e8107e9ea m0 = true := by decide) :
    Keeps m0 s0 (State.checkMinimum s) := by
  refine h0.app hw0 ?_
  unfold State.checkMinimum
  try dsimp only
  repeat' first
    | with_reducible exact .refl _ _
    | with_reducible assumption
    | with_reducible refine .ite _ ?_ ?_
    | with_reducible refine State.dropToService_keeps ?_
    | split
    | dsimp only

theorem State.pairLost_keeps {m0 s0 s p} (h0 : Keeps m0 s0 s) (hw0 : within 0xc000000000000000000000000200000000000000000000000001c0000301000000000000000000600000020700000000000860000002000000480000000000000000000000643041e0000000000018000000000000020002c0001000000000003e8196e8fa m0 = true := by decide) :
    Keeps m0 s0 (State.pairLost s p) := by
  refine h0.app hw0 ?_
  unfold State.pairLost
  try dsimp only
  repeat' first
    | with_reducible exact .refl _ _
    | with_reducible assumption
    | with_reducible refine .ite _ ?_ ?_
    | with_reducible refine State.dropClaims_keeps ?_
    | with_reducible refine State.halt_keeps ?_
    | with_reducible refine State.setPd_keeps ?_
    | with_reducible refine State.set_keeps (by first | assumption | (dsimp only [bank, Reg.PWR_MODE_STATUS_ACTIVE_PAIR]; decide)) ?_
    | fail_if_no_progress with_reducible refine Keeps.mk' ?_
    | split
    | dsimp only

theorem State.afterFence_keeps {m0 s0 s u} (h0 : Keeps m0 s0 s) (hw0 : within 0xc000000000000000000000000200000000000000000000000001c0000301000000000000000000600000020700000000000860000002000000480000000000000000000000643041e0000000000018000000000000020002c0001000000000003e8196e8fa m0 = true := by decide) :
    Keeps m0 s0 (State.afterFence s u) := by
  refine h0.app hw0 ?_
  unfold State.afterFence
  repeat' first
    | with_reducible exact .refl _ _
        | with_reducible refine State.laneTo_keeps ?_
        | with_reducible refine State.endRetrain_keeps ?_
        | with_reducible refine State.taskFault_keeps ?_
        | with_reducible refine State.pairLost_keeps ?_
    | split

theorem State.fence_keeps {m0 s0 s u} (h0 : Keeps m0 s0 s) (hw0 : within 0xffffffffffffffffffffffffffffffffffffffffffffffffffffffffffffffffffffffffffffffffffffffffffffffffffffffffffffffffffffffffffffffffffffffffffffffffffffffffffffffffffffffffffffffffffffffffffffffffffffffffffffffffffffffffffffffffffffffffffffffffffffffffffffffff0000003e8197e9fa m0 = true := by decide) :
    Keeps m0 s0 (State.fence s u) := by
  refine h0.app hw0 ?_
  unfold State.fence
  try dsimp only
  repeat' first
    | with_reducible exact .refl _ _
    | with_reducible assumption
    | with_reducible refine .ite _ ?_ ?_
    | with_reducible refine State.halt_keeps ?_
    | with_reducible refine State.fenceCore_keeps ?_
    | with_reducible refine State.afterFence_keeps ?_
    | with_reducible refine State.checkMinimum_keeps ?_
    | fail_if_no_progress with_reducible refine Keeps.mk' ?_
    | split
    | dsimp only

theorem State.fenceAll_keeps {m0 s0 s l} (h0 : Keeps m0 s0 s) (hw0 : within 0xffffffffffffffffffffffffffffffffffffffffffffffffffffffffffffffffffffffffffffffffffffffffffffffffffffffffffffffffffffffffffffffffffffffffffffffffffffffffffffffffffffffffffffffffffffffffffffffffffffffffffffffffffffffffffffffffffffffffffffffffffffffffffffffff0000003e8197e9fa m0 = true := by decide) :
    Keeps m0 s0 (State.fenceAll s l) := by
  induction l generalizing s with
  | nil => exact h0
  | cons u l ih => exact ih (State.fence_keeps h0 (within_trans (by decide) hw0))

theorem execSlotStart_keeps {src n failed s t0} (e0 : execSlotStart src n failed s = .next t0) : Keeps 0xffffffffffffffffffffffffffffffffffffffffffffffffffffffffffffffffffffffffffffffffffffffffffffffffffffffffffffffffffffffffffffffffffffffffffffffffffffffffffffffffffffffffffffffffffffffffffffffffffffffffffffffffffffffffffffffffffffffffffffffffffffffffffffffff0000003e8197e9fa s t0 := by
  rw [← Host.Outcome.next.inj e0]
  try dsimp only
  repeat' first
    | with_reducible exact .refl _ _
    | with_reducible assumption
    | with_reducible refine State.slotCommand_keeps ?_
    | with_reducible refine State.afterFence_keeps ?_
    | with_reducible refine State.checkMinimum_keeps ?_
    | with_reducible refine .foldl _ _ ?_ (fun _ _ _ => ?_)
    | split
    | dsimp only

theorem execLaneCfgWrite_keeps {w i value s t0} (e0 : execLaneCfgWrite w i value s = .next t0) : Keeps 0xffffffffffffffffffffffffffffffffffffffffffffffffffffffffffffffffffffffffffffffffffffffffffffffffffffffffffffffffffffffffffffffffffffffffffffffffffffffffffffffffffffffffffffffffffffffffffffffffffffffffffffffffffffffffffffffffffffffffffffffffffffffffffffffff0000003e8107e9fa s t0 := by
  rw [← Host.Outcome.next.inj e0]
  try dsimp only
  repeat' first
    | with_reducible exact .refl _ _
    | with_reducible assumption
    | with_reducible refine State.laneCfgWrite_keeps ?_
    | with_reducible refine State.checkMinimum_keeps ?_
    | with_reducible refine State.byWriter_keeps (fun _ _ => ?_) ?_
    | split
    | dsimp only

theorem State.relane_keeps {m0 s0 s} (h0 : Keeps m0 s0 s) (hw0 : within 0x200000000000000000000000000000000000000000000000000000000000207000000000008600000020000004800000000000000000000000000400000000000000000000000000002000000001000000000000680002812 m0 = true := by decide) :
    Keeps m0 s0 (State.relane s) := by
  refine h0.app hw0 ?_
  unfold State.relane
  try dsimp only
  repeat' first
    | with_reducible exact .refl _ _
    | with_reducible assumption
    | with_reducible refine .ite _ ?_ ?_
    | with_reducible refine State.laneStart_keeps ?_
    | with_reducible refine State.laneOff_keeps ?_
    | with_reducible refine .foldl _ _ ?_ (fun _ _ _ => ?_)
    | split
    | dsimp only

theorem execDomainEnable_keeps {w d s t0} (e0 : execDomainEnable w d s = .next t0) : Keeps 0x2000000000000000000000000000000000000000000000000000000000002070000000000c8600020020000004800000000000000000000000000400000001802001800000000000002000000001000000000001e8100281a s t0 := by
  rw [← Host.Outcome.next.inj e0]
  try dsimp only
  repeat' first
    | with_reducible exact .refl _ _
    | with_reducible assumption
    | with_reducible refine State.domainEnable_keeps ?_
    | with_reducible refine State.logReg_keeps ?_
    | with_reducible refine State.relane_keeps ?_
    | with_reducible refine State.byWriter_keeps (fun _ _ => ?_) ?_
    | split
    | dsimp only

theorem execDomainDisable_keeps {w d s t0} (e0 : execDomainDisable w d s = .next t0) : Keeps 0x200000000000000000000000000000000000000000000000000000000000207000000000008600000020000004800000000000000000000000000400000001002011800000000000002000000001000000000001e8100281a s t0 := by
  rw [← Host.Outcome.next.inj e0]
  try dsimp only
  repeat' first
    | with_reducible exact .refl _ _
    | with_reducible assumption
    | with_reducible refine .ite _ ?_ ?_
    | with_reducible refine State.logReg_keeps ?_
    | with_reducible refine State.domainDisable_keeps ?_
    | with_reducible refine State.relane_keeps ?_
    | with_reducible refine State.byWriter_keeps (fun _ _ => ?_) ?_
    | split
    | dsimp only

theorem execUnitRuntimeFault_keeps {u s t0} (e0 : execUnitRuntimeFault u s = .next t0) : Keeps 0xffffffffffffffffffffffffffffffffffffffffffffffffffffffffffffffffffffffffffffffffffffffffffffffffffffffffffffffffffffffffffffffffffffffffffffffffffffffffffffffffffffffffffffffffffffffffffffffffffffffffffffffffffffffffffffffffffffffffffffffffffffffffffffffff0000003e8197e9fa s t0 := by
  rw [← Host.Outcome.next.inj e0]
  try dsimp only
  repeat' first
    | with_reducible exact .refl _ _
    | with_reducible assumption
    | with_reducible refine .ite _ ?_ ?_
    | with_reducible refine State.fence_keeps ?_
    | split
    | dsimp only

theorem execLockstepCompareFail_keeps {s t0} (e0 : execLockstepCompareFail s = .next t0) : Keeps 0xffffffffffffffffffffffffffffffffffffffffffffffffffffffffffffffffffffffffffffffffffffffffffffffffffffffffffffffffffffffffffffffffffffffffffffffffffffffffffffffffffffffffffffffffffffffffffffffffffffffffffffffffffffffffffffffffffffffffffffffffffffffffffffffff0000003e8197e9fa s t0 := by
  rw [← Host.Outcome.next.inj e0]
  try dsimp only
  repeat' first
    | with_reducible exact .refl _ _
    | with_reducible assumption
    | with_reducible refine .ite _ ?_ ?_
    | with_reducible refine State.fence_keeps ?_
    | split
    | dsimp only

theorem execWatchdogExpiry_keeps {u s t0} (e0 : execWatchdogExpiry u s = .next t0) : Keeps 0xffffffffffffffffffffffffffffffffffffffffffffffffffffffffffffffffffffffffffffffffffffffffffffffffffffffffffffffffffffffffffffffffffffffffffffffffffffffffffffffffffffffffffffffffffffffffffffffffffffffffffffffffffffffffffffffffffffffffffffffffffffffffffffffff0000003e8197e9fa s t0 := by
  rw [← Host.Outcome.next.inj e0]
  try dsimp only
  repeat' first
    | with_reducible exact .refl _ _
    | with_reducible assumption
    | with_reducible refine .ite _ ?_ ?_
    | with_reducible refine State.fence_keeps ?_
    | with_reducible refine State.bump_keeps (by first | assumption | (dsimp only [bank, Reg.JUG_WDT_CNT]; decide)) ?_
    | fail_if_no_progress with_reducible refine Keeps.mk' ?_
    | split
    | dsimp only

theorem State.memLanesOff_keeps {m0 s0 s} (h0 : Keeps m0 s0 s) (hw0 : within 0x600002000000000000000000000000000000000000000000000000000000000000000000000000000000000000000000000000000000000000000000000000000000000000000000000000000000000000000000680002008 m0 = true := by decide) :
    Keeps m0 s0 (State.memLanesOff s) := by
  refine h0.app hw0 ?_
  unfold State.memLanesOff
  try dsimp only
  repeat' first
    | with_reducible exact .refl _ _
    | with_reducible assumption
    | with_reducible refine .ite _ ?_ ?_
    | with_reducible refine State.scnDisable_keeps ?_
    | with_reducible refine .foldl _ _ ?_ (fun _ _ _ => ?_)
    | split
    | dsimp only

theorem State.modeStart_keeps {m0 s0 s m} (h0 : Keeps m0 s0 s) (hw0 : within 0x600002000000000000000000001c000030100000000000000000060000000000000000000000000000000000000000000000000000000000000000000000000000000000000000000020000600000000000000006801060a8 m0 = true := by decide) :
    Keeps m0 s0 (State.modeStart s m) := by
  refine h0.app hw0 ?_
  unfold State.modeStart
  try dsimp only [State.setAll]
  repeat' first
    | with_reducible exact .refl _ _
    | with_reducible assumption
    | with_reducible refine State.memLanesOff_keeps ?_
    | with_reducible refine State.slotStop_keeps ?_
    | with_reducible refine State.slotStop_keepsP (by assumption) ?_
    | with_reducible refine State.set_keeps (by first | assumption | (dsimp only [bank, Reg.PWR_MODE_STATUS_PHASE, Reg.PWR_MODE_STATUS_TARGET_MODE]; decide)) ?_
    | with_reducible refine .foldl _ _ ?_ (fun _ _ _ => ?_)
    | fail_if_no_progress with_reducible refine Keeps.mk' ?_
    | split
    | dsimp only

theorem State.modeRefuse_keeps {m0 s0 s c} (h0 : Keeps m0 s0 s) (hw0 : within 0x800100000000000000000000000002 m0 = true := by decide) :
    Keeps m0 s0 (State.modeRefuse s c).1 := by
  refine h0.app hw0 ?_
  unfold State.modeRefuse
  try dsimp only
  repeat' first
    | with_reducible exact .refl _ _
    | with_reducible assumption
    | with_reducible refine State.set_keeps (by first | assumption | (dsimp only [bank, Reg.PWR_MODE_STATUS_LAST_STATUS, Reg.PWR_REFUSED_CNT]; decide)) ?_
    | with_reducible refine State.bump_keeps (by first | assumption | (dsimp only [bank, Reg.PWR_MODE_STATUS_LAST_STATUS, Reg.PWR_REFUSED_CNT]; decide)) ?_
    | split
    | dsimp only

theorem State.modeRefuse_keepsP {m0 s0 t0 x0 s c} (e0 : State.modeRefuse s c = (t0, x0)) (h0 : Keeps m0 s0 s)
    (hw0 : within 0x800100000000000000000000000002 m0 = true := by decide) : Keeps m0 s0 t0 := by
  have := State.modeRefuse_keeps (s := s) (c := c) h0 hw0
  rwa [e0] at this

theorem State.modeRequest_keeps {m0 s0 s m force} (h0 : Keeps m0 s0 s) (hw0 : within 0x600002000000000000000000001c000030100000000000000000060000000000000000000000000000000000000000000000000000000000000000000000000000000000000000000028001600000000000000006801060aa m0 = true := by decide) :
    Keeps m0 s0 (State.modeRequest s m force).1 := by
  refine h0.app hw0 ?_
  unfold State.modeRequest
  try dsimp only
  repeat' first
    | with_reducible exact .refl _ _
    | with_reducible assumption
    | with_reducible refine .ite _ ?_ ?_
    | with_reducible refine State.modeRefuse_keeps ?_
    | with_reducible refine State.modeRefuse_keepsP (by assumption) ?_
    | with_reducible refine State.modeStart_keeps ?_
    | split
    | dsimp only

theorem State.modeRequest_keepsP {m0 s0 t0 x0 s m force} (e0 : State.modeRequest s m force = (t0, x0)) (h0 : Keeps m0 s0 s)
    (hw0 : within 0x600002000000000000000000001c000030100000000000000000060000000000000000000000000000000000000000000000000000000000000000000000000000000000000000000028001600000000000000006801060aa m0 = true := by decide) : Keeps m0 s0 t0 := by
  have := State.modeRequest_keeps (s := s) (m := m) (force := force) h0 hw0
  rwa [e0] at this

theorem State.ask_keeps {m0 s0 s a} (h0 : Keeps m0 s0 s) (hw0 : within 0x800000 m0 = true := by decide) :
    Keeps m0 s0 (State.ask s a) := by
  refine h0.app hw0 ?_
  unfold State.ask
  try dsimp only
  repeat' first
    | with_reducible exact .refl _ _
    | with_reducible assumption
    | fail_if_no_progress with_reducible refine Keeps.mk' ?_
    | split
    | dsimp only

theorem State.answerAsk_keeps {m0 s0 s a c} (h0 : Keeps m0 s0 s) (hw0 : within 0x400000000000001800000000000000000000001000000000001e81100002 m0 = true := by decide) :
    Keeps m0 s0 (State.answerAsk s a c) := by
  refine h0.app hw0 ?_
  unfold State.answerAsk
  try dsimp only
  repeat' first
    | with_reducible exact .refl _ _
    | with_reducible assumption
    | with_reducible refine .ite _ ?_ ?_
    | with_reducible refine State.logReg_keeps ?_
    | with_reducible refine State.logDesc_keeps ?_
    | with_reducible refine State.complete_keeps ?_
    | fail_if_no_progress with_reducible refine Keeps.mk' ?_
    | split
    | dsimp only

theorem State.refuseAsk_keeps {m0 s0 s a} (h0 : Keeps m0 s0 s) (hw0 : within 0x400000000000001800000000000000800100001000000000001e81100002 m0 = true := by decide) :
    Keeps m0 s0 (State.refuseAsk s a) := by
  refine h0.app hw0 ?_
  unfold State.refuseAsk
  try dsimp only
  repeat' first
    | with_reducible exact .refl _ _
    | with_reducible assumption
    | with_reducible refine State.modeRefuse_keeps ?_
    | with_reducible refine State.modeRefuse_keepsP (by assumption) ?_
    | with_reducible refine State.answerAsk_keeps ?_
    | split
    | dsimp only

theorem State.refuseAsked_keeps {m0 s0 s} (h0 : Keeps m0 s0 s) (hw0 : within 0x400000000000001800000000000000800100001000000000001e81900002 m0 = true := by decide) :
    Keeps m0 s0 (State.refuseAsked s) := by
  refine h0.app hw0 ?_
  unfold State.refuseAsked
  try dsimp only
  repeat' first
    | with_reducible exact .refl _ _
    | with_reducible assumption
    | with_reducible refine State.refuseAsk_keeps ?_
    | with_reducible refine .foldl _ _ ?_ (fun _ _ _ => ?_)
    | fail_if_no_progress with_reducible refine Keeps.mk' ?_
    | split
    | dsimp only

theorem State.judgeAsked_keeps {m0 s0 s} (h0 : Keeps m0 s0 s) (hw0 : within 0x600002000000000000000000001c00003010000000000000000006000000000000000000000000000000000000000000000000000000000000000400000000000001800000000000002800160001000000000001e819060aa m0 = true := by decide) :
    Keeps m0 s0 (State.judgeAsked s) := by
  refine h0.app hw0 ?_
  unfold State.judgeAsked
  try dsimp only
  repeat' first
    | with_reducible exact .refl _ _
    | with_reducible assumption
    | with_reducible refine State.modeRequest_keeps ?_
    | with_reducible refine State.modeRequest_keepsP (by assumption) ?_
    | with_reducible refine State.refuseAsk_keeps ?_
    | with_reducible refine State.answerAsk_keeps ?_
    | with_reducible refine .foldl _ _ ?_ (fun _ _ _ => ?_)
    | fail_if_no_progress with_reducible refine Keeps.mk' ?_
    | split
    | dsimp only

theorem State.modeWrite_keeps {m0 s0 s w m force req} (h0 : Keeps m0 s0 s) (hw0 : within 0x400000000000001800000000000000800108001000000000001e81800002 m0 = true := by decide) :
    Keeps m0 s0 (State.modeWrite s w m force req) := by
  refine h0.app hw0 ?_
  unfold State.modeWrite
  try dsimp only
  repeat' first
    | with_reducible exact .refl _ _
    | with_reducible assumption
    | with_reducible refine .ite _ ?_ ?_
    | with_reducible refine State.ask_keeps ?_
    | with_reducible refine State.modeRefuse_keeps ?_
    | with_reducible refine State.modeRefuse_keepsP (by assumption) ?_
    | with_reducible refine State.logReg_keeps ?_
    | with_reducible refine State.set_keeps (by first | assumption | (dsimp only [bank, Reg.PWR_MODE_CTRL_TARGET, Reg.PWR_MODE_STATUS_LAST_STATUS]; decide)) ?_
    | with_reducible refine State.byWriter_keeps (fun _ _ => ?_) ?_
    | split
    | dsimp only

theorem execModeRequest_keeps {w m force s t0} (e0 : execModeRequest w m force s = .next t0) : Keeps 0x400000000000001800000000000000800108001000000000001e81800002 s t0 := by
  rw [← Host.Outcome.next.inj e0]
  try dsimp only
  repeat' first
    | with_reducible exact .refl _ _
    | with_reducible assumption
    | with_reducible refine State.modeWrite_keeps ?_
    | split
    | dsimp only

theorem actMode_keeps {m0 s0 d t s} (h0 : Keeps m0 s0 s) (hw0 : within 0x800000 m0 = true := by decide) :
    Keeps m0 s0 (actMode d t s) := by
  refine h0.app hw0 ?_
  unfold actMode
  try dsimp only
  repeat' first
    | with_reducible exact .refl _ _
    | with_reducible assumption
    | with_reducible refine State.ask_keeps ?_
    | split
    | dsimp only

theorem execMode_keeps {d s t0} (e0 : execMode d s = .next t0) : Keeps 0x400000000000001800000000000000800000001a00000000001e8180000a s t0 := by
  rw [← Host.Outcome.next.inj e0]
  try dsimp only
  repeat' first
    | with_reducible exact .refl _ _
    | with_reducible assumption
    | with_reducible refine actMode_keeps ?_
    | with_reducible refine State.runDesc_keeps (fun _ _ _ => ?_) ?_
    | split
    | dsimp only

theorem State.modeDrained_keeps {m0 s0 s} (h0 : Keeps m0 s0 s) (hw0 : within 0xc00000000000000000000000020000000000000000000000000000000000000000000000000000000000020700000000000860000002000000480000000018e1f704000000643041e000000000000000000000000002000040001000000000002e8117a85a m0 = true := by decide) :
    Keeps m0 s0 (State.modeDrained s) := by
  refine h0.app hw0 ?_
  unfold State.modeDrained
  try dsimp only
  repeat' first
    | with_reducible exact .refl _ _
    | with_reducible assumption
    | with_reducible refine .ite _ ?_ ?_
    | with_reducible refine State.lanesOffFor_keeps ?_
    | with_reducible refine State.gateOff_keeps ?_
    | with_reducible refine State.migrationDone_keeps ?_
    | with_reducible refine State.toFloor_keeps ?_
    | with_reducible refine State.toFull_keeps ?_
    | with_reducible refine State.set_keeps (by first | assumption | (dsimp only [bank, Reg.PWR_MODE_STATUS_PHASE]; decide)) ?_
    | fail_if_no_progress with_reducible refine Keeps.mk' ?_
    | split
    | dsimp only

theorem execModeDrained_keeps {s t0} (e0 : execModeDrained s = .next t0) : Keeps 0xc00000000000000000000000020000000000000000000000000000000000000000000000000000000000020700000000000860000002000000480000000018e1f704000000643041e000000000000000000000000002000040001000000000002e8117a85a s t0 := by
  rw [← Host.Outcome.next.inj e0]
  try dsimp only
  repeat' first
    | with_reducible exact .refl _ _
    | with_reducible assumption
    | with_reducible refine State.modeDrained_keeps ?_
    | split
    | dsimp only

theorem State.waveDone_keeps {m0 s0 s} (h0 : Keeps m0 s0 s) (hw0 : within 0x6400000000000000000000000000000002000040000000000000000000120000 m0 = true := by decide) :
    Keeps m0 s0 (State.waveDone s) := by
  refine h0.app hw0 ?_
  unfold State.waveDone
  try dsimp only
  repeat' first
    | with_reducible exact .refl _ _
    | with_reducible assumption
    | with_reducible refine .ite _ ?_ ?_
    | with_reducible refine State.setPds_keeps ?_
    | with_reducible refine State.jugglerReset_keeps ?_
    | with_reducible refine State.set_keeps (by first | assumption | (dsimp only [bank, Reg.PWR_MODE_STATUS_PHASE]; decide)) ?_
    | fail_if_no_progress with_reducible refine Keeps.mk' ?_
    | split
    | dsimp only

theorem execPowerWaveDone_keeps {s t0} (e0 : execPowerWaveDone s = .next t0) : Keeps 0x6400000000000000000000000000000002000040000000000000000000120000 s t0 := by
  rw [← Host.Outcome.next.inj e0]
  try dsimp only
  repeat' first
    | with_reducible exact .refl _ _
    | with_reducible assumption
    | with_reducible refine State.waveDone_keeps ?_
    | split
    | dsimp only

theorem State.stageReloads_keeps {m0 s0 s n} (h0 : Keeps m0 s0 s) (hw0 : within 0x400000000000000010000000000000000000001000000000000680000002 m0 = true := by decide) :
    Keeps m0 s0 (State.stageReloads s n) := by
  refine h0.app hw0 ?_
  clear h0 hw0
  induction n generalizing s with
  | zero => exact .refl _ _
  | succ n ih =>
    unfold State.stageReloads
    refine Keeps.trans ?_ (ih (s := _))
    exact State.raise_keeps (State.bump_keeps (by (first | assumption | (dsimp only [bank, Reg.FW_STAGE_ERR_CNT]; decide))) (.refl _ _))

theorem State.transEnd_keeps {m0 s0 s x c} (h0 : Keeps m0 s0 s) (hw0 : within 0x400000000000001800000000000000000100001000000000001e80100002 m0 = true := by decide) :
    Keeps m0 s0 (State.transEnd s x c) := by
  refine h0.app hw0 ?_
  unfold State.transEnd
  try dsimp only
  repeat' first
    | with_reducible exact .refl _ _
    | with_reducible assumption
    | with_reducible refine State.logUnit_keeps ?_
    | with_reducible refine State.completeAll_keeps ?_
    | with_reducible refine State.set_keeps (by first | assumption | (dsimp only [bank, Reg.PWR_MODE_STATUS_LAST_STATUS]; decide)) ?_
    | fail_if_no_progress with_reducible refine Keeps.mk' ?_
    | split
    | dsimp only

theorem State.modeEntered_keeps {m0 s0 s x fenced} (h0 : Keeps m0 s0 s) (hw0 : within 0xffffffffffffffffffffffffffffffffffffffffffffffffffffffffffffffffffffffffffffffffffffffffffffffffffffffffffffffffffffffffffffffffffffffffffffffffffffffffffffffffffffffffffffffffffffffffffffffffffffffffffffffffffffffffffffffffffffffffffffffffffffffffffffffff0000001e8010c90a m0 = true := by decide) :
    Keeps m0 s0 (State.modeEntered s x fenced) := by
  refine h0.app hw0 ?_
  unfold State.modeEntered
  try dsimp only
  repeat' first
    | with_reducible exact .refl _ _
    | with_reducible assumption
    | with_reducible refine .ite _ ?_ ?_
    | with_reducible refine State.enterMode_keeps ?_
    | with_reducible refine State.audioPowered_keeps ?_
    | with_reducible refine State.endPairing_keeps ?_
    | with_reducible refine State.setRole_keeps ?_
    | with_reducible refine State.transEnd_keeps ?_
    | with_reducible refine State.lanesOnFor_keeps ?_
    | with_reducible refine State.quadPds_keeps ?_
    | with_reducible refine State.set_keeps (by first | assumption | (dsimp only [bank, Reg.PWR_SERVICE_REASON]; decide)) ?_
    | split
    | dsimp only

theorem State.modeBack_keeps {m0 s0 s x} (h0 : Keeps m0 s0 s) (hw0 : within 0xffffffffffffffffffffffffffffffffffffffffffffffffffffffffffffffffffffffffffffffffffffffffffffffffffffffffffffffffffffffffffffffffffffffffffffffffffffffffffffffffffffffffffffffffffffffffffffffffffffffffffffffffffffffffffffffffffffffffffffffffffffffffffffffff0000003e8117e9ea m0 = true := by decide) :
    Keeps m0 s0 (State.modeBack s x) := by
  refine h0.app hw0 ?_
  unfold State.modeBack
  try dsimp only [State.setAll]
  repeat' first
    | with_reducible exact .refl _ _
    | with_reducible assumption
    | with_reducible refine .ite _ ?_ ?_
    | with_reducible refine State.gateOff_keeps ?_
    | with_reducible refine State.audioPowered_keeps ?_
    | with_reducible refine State.transEnd_keeps ?_
    | with_reducible refine State.lanesOnFor_keeps ?_
    | with_reducible refine State.quadPds_keeps ?_
    | with_reducible refine State.checkMinimum_keeps ?_
    | with_reducible refine State.set_keeps (by first | assumption | (dsimp only [bank, Reg.PWR_MODE_STATUS_PHASE, Reg.PWR_MODE_STATUS_TARGET_MODE]; decide)) ?_
    | split
    | dsimp only

theorem State.modeLoaded_keeps {m0 s0 s failed reloads} (h0 : Keeps m0 s0 s) (hw0 : within 0xffffffffffffffffffffffffffffffffffffffffffffffffffffffffffffffffffffffffffffffffffffffffffffffffffffffffffffffffffffffffffffffffffffffffffffffffffffffffffffffffffffffffffffffffffffffffffffffffffffffffffffffffffffffffffffffffffffffffffffffffffffffffffffffff0000003e8197e9fa m0 = true := by decide) :
    Keeps m0 s0 (State.modeLoaded s failed reloads) := by
  refine h0.app hw0 ?_
  unfold State.modeLoaded
  try dsimp only
  repeat' first
    | with_reducible exact .refl _ _
    | with_reducible assumption
    | with_reducible refine .ite _ ?_ ?_
    | with_reducible refine State.stageReloads_keeps ?_
    | with_reducible refine State.fenceAll_keeps ?_
    | with_reducible refine State.modeBack_keeps ?_
    | with_reducible refine State.modeEntered_keeps ?_
    | with_reducible refine State.toFull_keeps ?_
    | with_reducible refine State.toFloor_keeps ?_
    | with_reducible refine State.set_keeps (by first | assumption | (dsimp only [bank, Reg.PWR_MODE_STATUS_PHASE]; decide)) ?_
    | fail_if_no_progress with_reducible refine Keeps.mk' ?_
    | split
    | dsimp only

theorem execModeLoadDone_keeps {failed reloads s t0} (e0 : execModeLoadDone failed reloads s = .next t0) : Keeps 0xffffffffffffffffffffffffffffffffffffffffffffffffffffffffffffffffffffffffffffffffffffffffffffffffffffffffffffffffffffffffffffffffffffffffffffffffffffffffffffffffffffffffffffffffffffffffffffffffffffffffffffffffffffffffffffffffffffffffffffffffffffffffffffffff0000003e8197e9fa s t0 := by
  rw [← Host.Outcome.next.inj e0]
  try dsimp only
  repeat' first
    | with_reducible exact .refl _ _
    | with_reducible assumption
    | with_reducible refine State.modeLoaded_keeps ?_
    | split
    | dsimp only

end Sys2Proof.Machine
end

