-- ==== Sys2Proof/Laws/KeepsDramFaults.lean ====
section
/-! SUPPORT. What each operation of Machine/DramFaults.lean may change (Laws/Keeps.lean). -/

namespace Sys2Proof.Machine

set_option Elab.async false
set_option linter.unusedTactic false
set_option linter.unusedSimpArgs false
set_option linter.unreachableTactic false

theorem State.areaLost_keeps {m0 s0 s t} (h0 : Keeps m0 s0 s) (hw0 : within 0x370000000000000000000000000000000001c000030100000000000000000060000000070000010fec0a6000000000000000000000000000000000000000004000000000000000000000000000020000000010000000000016800080fa m0 = true := by decide) :
    Keeps m0 s0 (State.areaLost s t) := by
  refine h0.app hw0 ?_
  unfold State.areaLost
  try dsimp only
  repeat' first
    | with_reducible exact .refl _ _
    | with_reducible assumption
    | with_reducible refine .ite _ ?_ ?_
    | with_reducible refine State.pathOff_keeps ?_
    | with_reducible refine State.signalLost_keeps ?_
    | with_reducible refine State.setRcv_keeps ?_
    | with_reducible refine State.inWrite_keeps ?_
    | with_reducible refine State.inWrite_keepsP (by assumption) ?_
    | with_reducible refine State.slotToFault_keeps ?_
    | with_reducible refine State.set_keeps (by first | assumption | (dsimp only [bank, Reg.AUD_IN_ASRC_MODE, Reg.AUD_IN_SRATE, Reg.ING_RX_ENABLE]; decide)) ?_
    | split
    | dsimp only

theorem State.setLeaves_keeps {m0 s0 s k} (h0 : Keeps m0 s0 s) (hw0 : within 0xffffffffffffffffffffffffffffffffffffffffffffffffffffffffffffffffffffffffffffffffffffffffffffffffffffffffffffffffffffffffffffffffffffffffffffffffffffffffffffffffffffffffffffffffffffffffffffffffffffffffffffffffffffffffffffffffffffffffffffffffffffffffffffffff0000003e8197e9fa m0 = true := by decide) :
    Keeps m0 s0 (State.setLeaves s k) := by
  refine h0.app hw0 ?_
  unfold State.setLeaves
  lift_lets
  extract_lets tags s1 s2 l3 s3 lo hi d4 s4
  have h1 : Keeps 0xffffffffffffffffffffffffffffffffffffffffffffffffffffffffffffffffffffffffffffffffffffffffffffffffffffffffffffffffffffffffffffffffffffffffffffffffffffffffffffffffffffffffffffffffffffffffffffffffffffffffffffffffffffffffffffffffffffffffffffffffffffffffffffffff0000003e8197e9fa s s1 := .foldl _ _ (.refl _ _) (fun _ _ h => State.areaLost_keeps h)
  have h2 : Keeps 0xffffffffffffffffffffffffffffffffffffffffffffffffffffffffffffffffffffffffffffffffffffffffffffffffffffffffffffffffffffffffffffffffffffffffffffffffffffffffffffffffffffffffffffffffffffffffffffffffffffffffffffffffffffffffffffffffffffffffffffffffffffffffffffffff0000003e8197e9fa s s2 := .foldl _ _ h1 (fun _ _ h => State.scnDisable_keeps h)
  have h3 : Keeps 0xffffffffffffffffffffffffffffffffffffffffffffffffffffffffffffffffffffffffffffffffffffffffffffffffffffffffffffffffffffffffffffffffffffffffffffffffffffffffffffffffffffffffffffffffffffffffffffffffffffffffffffffffffffffffffffffffffffffffffffffffffffffffffffffff0000003e8197e9fa s s3 := .ite _ (Keeps.mk' h2) h2
  have h4 : Keeps 0xffffffffffffffffffffffffffffffffffffffffffffffffffffffffffffffffffffffffffffffffffffffffffffffffffffffffffffffffffffffffffffffffffffffffffffffffffffffffffffffffffffffffffffffffffffffffffffffffffffffffffffffffffffffffffffffffffffffffffffffffffffffffffffffff0000003e8197e9fa s s4 := by
    refine State.showFill_keeps (State.setAll_keeps (by (repeat' first | with_reducible assumption | with_reducible exact inMask_nil _ | (with_reducible refine inMask_cons ?_ ?_) | (with_reducible refine inMask_append ?_ ?_) | (with_reducible refine inMask_flatMap (fun _ => ?_)) | (with_reducible refine asBit ?_; dsimp only [Function.comp, bank, Reg.DMC_SET_FILL_DONE, Reg.DMC_SET_FILL_FILLED, Reg.DMC_STATUS_SETS]; decide) | (simp only [List.map_map, List.map_append, List.map_cons, List.map_nil]) | (with_reducible refine inMask_ite _ ?_ ?_) | (with_reducible refine inMask_map (fun _ => ?_)))) ?_)
    exact Keeps.mkMem h3 (fun h => Memory.wf_filter _ _ h) (by decide)
  exact .ite _ (State.halt_keeps h4) (State.checkMinimum_keeps h4)

theorem State.retireServing_keeps {m0 s0 s p} (h0 : Keeps m0 s0 s) (hw0 : within 0xffffffffffffffffffffffffffffffffffffffffffffffffffffffffffffffffffffffffffffffffffffffffffffffffffffffffffffffffffffffffffffffffffffffffffffffffffffffffffffffffffffffffffffffffffffffffffffffffffffffffffffffffffffffffffffffffffffffffffffffffffffffffffffffff0000003e8197e9fa m0 = true := by decide) :
    Keeps m0 s0 (State.retireServing s p) := by
  refine h0.app hw0 ?_
  unfold State.retireServing
  try dsimp only
  repeat' first
    | with_reducible exact .refl _ _
    | with_reducible assumption
    | with_reducible refine .ite _ ?_ ?_
    | with_reducible refine State.retireRank_keeps ?_
    | with_reducible refine State.raise_keeps ?_
    | with_reducible refine State.setLeaves_keeps ?_
    | fail_if_no_progress with_reducible refine Keeps.mk' ?_
    | split
    | dsimp only

theorem State.migrate_keeps {m0 s0 s p failing tickets} (h0 : Keeps m0 s0 s) (hw0 : within 0xb8012000000000000000000000000000000000000000000000000000000000000000000010000 m0 = true := by decide) :
    Keeps m0 s0 (State.migrate s p failing tickets) := by
  refine h0.app hw0 ?_
  unfold State.migrate
  try dsimp only [State.setAll]
  repeat' first
    | with_reducible exact .refl _ _
    | with_reducible assumption
    | with_reducible refine State.set_keeps (by first | assumption | (dsimp only [bank, Reg.DMC_MIG_CTRL_ACTIVE, Reg.DMC_MIG_CTRL_DST, Reg.DMC_MIG_CTRL_SRC, Reg.DMC_MIG_PTR, Reg.DMC_RANK_STATE_STATE, Reg.DMC_STATUS_MIG_ACTIVE]; decide)) ?_
    | fail_if_no_progress with_reducible refine Keeps.mk' ?_
    | split
    | dsimp only

theorem State.migrationFails_keeps {m0 s0 s} (h0 : Keeps m0 s0 s) (hw0 : within 0xffffffffffffffffffffffffffffffffffffffffffffffffffffffffffffffffffffffffffffffffffffffffffffffffffffffffffffffffffffffffffffffffffffffffffffffffffffffffffffffffffffffffffffffffffffffffffffffffffffffffffffffffffffffffffffffffffffffffffffffffffffffffffffffff0000003e8197e9fa m0 = true := by decide) :
    Keeps m0 s0 (State.migrationFails s) := by
  refine h0.app hw0 ?_
  unfold State.migrationFails
  try dsimp only [State.setAll]
  repeat' first
    | with_reducible exact .refl _ _
    | with_reducible assumption
    | with_reducible refine .ite _ ?_ ?_
    | with_reducible refine State.retireRank_keeps ?_
    | with_reducible refine State.raise_keeps ?_
    | with_reducible refine State.retireServing_keeps ?_
    | with_reducible refine State.completeAll_keeps ?_
    | with_reducible refine State.set_keeps (by first | assumption | (dsimp only [bank, Reg.DMC_MIG_CTRL_ACTIVE, Reg.DMC_MIG_CTRL_DST, Reg.DMC_MIG_CTRL_SRC, Reg.DMC_RANK_STATE_STATE, Reg.DMC_STATUS_MIG_ACTIVE]; decide)) ?_
    | fail_if_no_progress with_reducible refine Keeps.mk' ?_
    | split
    | dsimp only

theorem State.takeSpare_keeps {m0 s0 s p hard} (h0 : Keeps m0 s0 s) (hw0 : within 0xffffffffffffffffffffffffffffffffffffffffffffffffffffffffffffffffffffffffffffffffffffffffffffffffffffffffffffffffffffffffffffffffffffffffffffffffffffffffffffffffffffffffffffffffffffffffffffffffffffffffffffffffffffffffffffffffffffffffffffffffffffffffffffffff0000003e8197e9fa m0 = true := by decide) :
    Keeps m0 s0 (State.takeSpare s p hard) := by
  refine h0.app hw0 ?_
  unfold State.takeSpare
  try dsimp only [State.setAll]
  repeat' first
    | with_reducible exact .refl _ _
    | with_reducible assumption
    | with_reducible refine .ite _ ?_ ?_
    | with_reducible refine State.raise_keeps ?_
    | with_reducible refine State.retireServing_keeps ?_
    | with_reducible refine State.set_keeps (by first | assumption | (dsimp only [bank, Reg.DMC_MIG_CTRL_SRC, Reg.DMC_RANK_STATE_STATE]; decide)) ?_
    | fail_if_no_progress with_reducible refine Keeps.mk' ?_
    | split
    | dsimp only

theorem State.rankFault_keeps {m0 s0 s p hard} (h0 : Keeps m0 s0 s) (hw0 : within 0xffffffffffffffffffffffffffffffffffffffffffffffffffffffffffffffffffffffffffffffffffffffffffffffffffffffffffffffffffffffffffffffffffffffffffffffffffffffffffffffffffffffffffffffffffffffffffffffffffffffffffffffffffffffffffffffffffffffffffffffffffffffffffffffff0000003e8197e9fa m0 = true := by decide) :
    Keeps m0 s0 (State.rankFault s p hard) := by
  refine h0.app hw0 ?_
  unfold State.rankFault
  try dsimp only
  repeat' first
    | with_reducible exact .refl _ _
    | with_reducible assumption
    | with_reducible refine .ite _ ?_ ?_
    | with_reducible refine State.migrationFails_keeps ?_
    | with_reducible refine State.migrate_keeps ?_
    | with_reducible refine State.raise_keeps ?_
    | with_reducible refine State.takeSpare_keeps ?_
    | with_reducible refine State.retireServing_keeps ?_
    | split
    | dsimp only

theorem State.correctedRead_keeps {m0 s0 s a} (h0 : Keeps m0 s0 s) (hw0 : within 0xffffffffffffffffffffffffffffffffffffffffffffffffffffffffffffffffffffffffffffffffffffffffffffffffffffffffffffffffffffffffffffffffffffffffffffffffffffffffffffffffffffffffffffffffffffffffffffffffffffffffffffffffffffffffffffffffffffffffffffffffffffffffffffffff0000003e8197e9fa m0 = true := by decide) :
    Keeps m0 s0 (State.correctedRead s a) := by
  refine h0.app hw0 ?_
  unfold State.correctedRead
  try dsimp only
  repeat' first
    | with_reducible exact .refl _ _
    | with_reducible assumption
    | with_reducible refine .ite _ ?_ ?_
    | with_reducible refine State.raiseLimited_keeps ?_
    | with_reducible refine State.rankFault_keeps ?_
    | with_reducible refine State.bump_keeps (by first | assumption | (dsimp only [bank, Reg.DMC_CE_LIMIT, Reg.DMC_RANK_CE_CNT]; decide)) ?_
    | fail_if_no_progress with_reducible refine Keeps.mk' ?_
    | split
    | dsimp only

theorem State.uncorrectableRead_keeps {m0 s0 s a} (h0 : Keeps m0 s0 s) (hw0 : within 0xffffffffffffffffffffffffffffffffffffffffffffffffffffffffffffffffffffffffffffffffffffffffffffffffffffffffffffffffffffffffffffffffffffffffffffffffffffffffffffffffffffffffffffffffffffffffffffffffffffffffffffffffffffffffffffffffffffffffffffffffffffffffffffffff0000003e8197e9fa m0 = true := by decide) :
    Keeps m0 s0 (State.uncorrectableRead s a) := by
  refine h0.app hw0 ?_
  unfold State.uncorrectableRead
  try dsimp only
  repeat' first
    | with_reducible exact .refl _ _
    | with_reducible assumption
    | with_reducible refine .ite _ ?_ ?_
    | with_reducible refine State.raise_keeps ?_
    | with_reducible refine State.rankFault_keeps ?_
    | with_reducible refine State.bump_keeps (by first | assumption | (dsimp only [bank, Reg.DMC_RANK_UE_CNT]; decide)) ?_
    | fail_if_no_progress with_reducible refine Keeps.mk' ?_
    | split
    | dsimp only

theorem State.eccRead_keeps {m0 s0 s a groups corrects} (h0 : Keeps m0 s0 s) (hw0 : within 0xffffffffffffffffffffffffffffffffffffffffffffffffffffffffffffffffffffffffffffffffffffffffffffffffffffffffffffffffffffffffffffffffffffffffffffffffffffffffffffffffffffffffffffffffffffffffffffffffffffffffffffffffffffffffffffffffffffffffffffffffffffffffffffffff0000003e8197e9fa m0 = true := by decide) :
    Keeps m0 s0 (State.eccRead s a groups corrects) := by
  refine h0.app hw0 ?_
  unfold State.eccRead
  try dsimp only
  repeat' first
    | with_reducible exact .refl _ _
    | with_reducible assumption
    | with_reducible refine .ite _ ?_ ?_
    | with_reducible refine State.correctedRead_keeps ?_
    | with_reducible refine State.uncorrectableRead_keeps ?_
    | fail_if_no_progress with_reducible refine Keeps.mk' ?_
    | split
    | dsimp only

theorem execEccCorrectedRead_keeps {b s t0} (e0 : execEccCorrectedRead b s = .next t0) : Keeps 0xffffffffffffffffffffffffffffffffffffffffffffffffffffffffffffffffffffffffffffffffffffffffffffffffffffffffffffffffffffffffffffffffffffffffffffffffffffffffffffffffffffffffffffffffffffffffffffffffffffffffffffffffffffffffffffffffffffffffffffffffffffffffffffffff0000003e8197e9fa s t0 := by
  rw [← Host.Outcome.next.inj e0]
  try dsimp only
  repeat' first
    | with_reducible exact .refl _ _
    | with_reducible assumption
    | with_reducible refine State.eccRead_keeps ?_
    | split
    | dsimp only

theorem execEccUncorrectableRead_keeps {b s t0} (e0 : execEccUncorrectableRead b s = .next t0) : Keeps 0xffffffffffffffffffffffffffffffffffffffffffffffffffffffffffffffffffffffffffffffffffffffffffffffffffffffffffffffffffffffffffffffffffffffffffffffffffffffffffffffffffffffffffffffffffffffffffffffffffffffffffffffffffffffffffffffffffffffffffffffffffffffffffffffff0000003e8197e9fa s t0 := by
  rw [← Host.Outcome.next.inj e0]
  try dsimp only
  repeat' first
    | with_reducible exact .refl _ _
    | with_reducible assumption
    | with_reducible refine State.eccRead_keeps ?_
    | split
    | dsimp only

theorem execCommandRetryFail_keeps {p s t0} (e0 : execCommandRetryFail p s = .next t0) : Keeps 0xffffffffffffffffffffffffffffffffffffffffffffffffffffffffffffffffffffffffffffffffffffffffffffffffffffffffffffffffffffffffffffffffffffffffffffffffffffffffffffffffffffffffffffffffffffffffffffffffffffffffffffffffffffffffffffffffffffffffffffffffffffffffffffffff0000003e8197e9fa s t0 := by
  rw [← Host.Outcome.next.inj e0]
  try dsimp only
  repeat' first
    | with_reducible exact .refl _ _
    | with_reducible assumption
    | with_reducible refine .ite _ ?_ ?_
    | with_reducible refine State.rankFault_keeps ?_
    | split
    | dsimp only

theorem execPatrolScrub_keeps {spareBad s t0} (e0 : execPatrolScrub spareBad s = .next t0) : Keeps 0x130000000000000400000000000000000000000000000000000001000000000000680000002 s t0 := by
  rw [← Host.Outcome.next.inj e0]
  try dsimp only
  repeat' first
    | with_reducible exact .refl _ _
    | with_reducible assumption
    | with_reducible refine .ite _ ?_ ?_
    | with_reducible refine State.retireRank_keeps ?_
    | with_reducible refine State.raise_keeps ?_
    | fail_if_no_progress with_reducible refine Keeps.mk' ?_
    | split
    | dsimp only

theorem actMigrate_keeps {m0 s0 d t s} (h0 : Keeps m0 s0 s) (hw0 : within 0xb8012000000000000400000000000001800000000000000000000001000000000001e80010002 m0 = true := by decide) :
    Keeps m0 s0 (actMigrate d t s) := by
  refine h0.app hw0 ?_
  unfold actMigrate
  try dsimp only
  repeat' first
    | with_reducible exact .refl _ _
    | with_reducible assumption
    | with_reducible refine .ite _ ?_ ?_
    | with_reducible refine State.migrate_keeps ?_
    | with_reducible refine State.logDesc_keeps ?_
    | with_reducible refine State.complete_keeps ?_
    | split
    | dsimp only

theorem execDmcMigrate_keeps {d s t0} (e0 : execDmcMigrate d s = .next t0) : Keeps 0xb8012000000000000400000000000001800000000000000800000001a00000000001e8181000a s t0 := by
  rw [← Host.Outcome.next.inj e0]
  try dsimp only
  repeat' first
    | with_reducible exact .refl _ _
    | with_reducible assumption
    | with_reducible refine actMigrate_keeps ?_
    | with_reducible refine State.runDesc_keeps (fun _ _ _ => ?_) ?_
    | split
    | dsimp only

theorem State.refresh_keeps {m0 s0 s p mr4 selected} (h0 : Keeps m0 s0 s) (hw0 : within 0x3000000000000000000400000000000000000000000000000000000001000000000000680010002 m0 = true := by decide) :
    Keeps m0 s0 (State.refresh s p mr4 selected) := by
  refine h0.app hw0 ?_
  unfold State.refresh
  try dsimp only [State.emitAll]
  repeat' first
    | with_reducible exact .refl _ _
    | with_reducible assumption
    | with_reducible refine .ite _ ?_ ?_
    | with_reducible refine State.raise_keeps ?_
    | with_reducible refine State.set_keeps (by first | assumption | (dsimp only [bank, Reg.DMC_NBR_CNT, Reg.DMC_REFRESH_MULT_MAX, Reg.DMC_REFRESH_NBR_K]; decide)) ?_
    | with_reducible refine State.count_keeps (by first | assumption | (dsimp only [bank, Reg.DMC_NBR_CNT, Reg.DMC_REFRESH_MULT_MAX, Reg.DMC_REFRESH_NBR_K]; decide)) ?_
    | with_reducible refine State.emitAll_keeps ?_
    | with_reducible refine .foldl _ _ ?_ (fun _ _ _ => ?_)
    | fail_if_no_progress with_reducible refine Keeps.mk' ?_
    | split
    | dsimp only

theorem execRefresh_keeps {p mr4 selected s t0} (e0 : execRefresh p mr4 selected s = .next t0) : Keeps 0x3000000000000000000400000000000000000000000000000000000001000000000000680010002 s t0 := by
  rw [← Host.Outcome.next.inj e0]
  try dsimp only
  repeat' first
    | with_reducible exact .refl _ _
    | with_reducible assumption
    | with_reducible refine .ite _ ?_ ?_
    | with_reducible refine State.refresh_keeps ?_
    | split
    | dsimp only

end Sys2Proof.Machine
end

