-- ==== Sys2Proof/Laws/KeepsTrapeze.lean ====
section
/-! SUPPORT. What each operation of Machine/Trapeze.lean may change (Laws/Keeps.lean). -/

namespace Sys2Proof.Machine

set_option Elab.async false
set_option linter.unusedTactic false
set_option linter.unusedSimpArgs false
set_option linter.unreachableTactic false

theorem State.touch_keeps {m0 s0 s} (h0 : Keeps m0 s0 s) (hw0 : within 0x4000 m0 = true := by decide) :
    Keeps m0 s0 (State.touch s) := by
  refine h0.app hw0 ?_
  unfold State.touch
  try dsimp only
  repeat' first
    | with_reducible exact .refl _ _
    | with_reducible assumption
    | fail_if_no_progress with_reducible refine Keeps.mk' ?_
    | split
    | dsimp only

theorem State.toTrp_keeps {m0 s0 s st} (h0 : Keeps m0 s0 s) (hw0 : within 0x10000000000000000000000000000000000000000000000000000000000000000000000000000000000000000000000000000000000000000000000000000000000000000400000000000000000000000000000000000001000000000000680004002 m0 = true := by decide) :
    Keeps m0 s0 (State.toTrp s st) := by
  refine h0.app hw0 ?_
  unfold State.toTrp
  try dsimp only
  repeat' first
    | with_reducible exact .refl _ _
    | with_reducible assumption
    | with_reducible refine .ite _ ?_ ?_
    | with_reducible refine State.touch_keeps ?_
    | with_reducible refine State.raise_keeps ?_
    | with_reducible refine State.set_keeps (by first | assumption | (dsimp only [bank, Reg.TRP_STATUS_STATE]; decide)) ?_
    | split
    | dsimp only

theorem State.sendPeer_keeps {m0 s0 s topic addr v} (h0 : Keeps m0 s0 s) (hw0 : within 0x1800 m0 = true := by decide) :
    Keeps m0 s0 (State.sendPeer s topic addr v) := by
  refine h0.app hw0 ?_
  unfold State.sendPeer
  try dsimp only
  repeat' first
    | with_reducible exact .refl _ _
    | with_reducible assumption
    | with_reducible refine State.sendCtrl_keeps ?_
    | fail_if_no_progress with_reducible refine Keeps.mk' ?_
    | split
    | dsimp only

theorem State.uncover_keeps {m0 s0 s p} (h0 : Keeps m0 s0 s) (hw0 : within 0x10 m0 = true := by decide) :
    Keeps m0 s0 (State.uncover s p) := by
  refine h0.app hw0 ?_
  unfold State.uncover
  try dsimp only
  repeat' first
    | with_reducible exact .refl _ _
    | with_reducible assumption
    | with_reducible refine .ite _ ?_ ?_
    | fail_if_no_progress with_reducible refine Keeps.mk' ?_
    | split
    | dsimp only

theorem State.dropPartner_keeps {m0 s0 s} (h0 : Keeps m0 s0 s) (hw0 : within 0x660000000000000000000000000000000000000000000000000000000000000100000000000000000000000000000000000000000000000000000000000000000000000000000000000000000000000000000000000000000000000000000000004010 m0 = true := by decide) :
    Keeps m0 s0 (State.dropPartner s) := by
  refine h0.app hw0 ?_
  unfold State.dropPartner
  try dsimp only [State.setAll]
  repeat' first
    | with_reducible exact .refl _ _
    | with_reducible assumption
    | with_reducible refine State.uncover_keeps ?_
    | with_reducible refine State.set_keeps (by first | assumption | (dsimp only [bank, Reg.SAF_CMP_AVAILABLE, Reg.TRP_PARTNER_PART, Reg.TRP_PARTNER_VERSION, Reg.TRP_STATUS_PARTNER_READY, Reg.TRP_STATUS_PARTNER_SEEN]; decide)) ?_
    | fail_if_no_progress with_reducible refine Keeps.mk' ?_
    | split
    | dsimp only

theorem State.trpCtrlWrite_keeps {m0 s0 s w v} (h0 : Keeps m0 s0 s) (hw0 : within 0xffffffffffffffffffffffffffffffffffffffffffffffffffffffffffffffffffffffffffffffffffffffffffffffffffffffffffffffffffffffffffffffffffffffffffffffffffffffffffffffffffffffffffffffffffffffffffffffffffffffffffffffffffffffffffffffffffffffffffffffffffffffffffffffff0000001e81004012 m0 = true := by decide) :
    Keeps m0 s0 (State.trpCtrlWrite s w v) := by
  refine h0.app hw0 ?_
  unfold State.trpCtrlWrite
  try dsimp only [State.setAll]
  repeat' first
    | with_reducible exact .refl _ _
    | with_reducible assumption
    | with_reducible refine .ite _ ?_ ?_
    | with_reducible refine State.dropPartner_keeps ?_
    | with_reducible refine State.setRole_keeps ?_
    | with_reducible refine State.logReg_keeps ?_
    | with_reducible refine State.set_keeps (by first | assumption | (dsimp only [bank, Reg.TRP_CTRL_ACK_WAIT_US, Reg.TRP_CTRL_DESC_EN, Reg.TRP_CTRL_ENABLE, Reg.TRP_CTRL_MIRROR_LANES, Reg.TRP_CTRL_PIN_EN, Reg.TRP_STATUS_LAST_STATUS]; decide)) ?_
    | with_reducible refine State.byWriter_keeps (fun _ _ => ?_) ?_
    | split
    | dsimp only

theorem execTrpCtrlWrite_keeps {w value s t0} (e0 : execTrpCtrlWrite w value s = .next t0) : Keeps 0xffffffffffffffffffffffffffffffffffffffffffffffffffffffffffffffffffffffffffffffffffffffffffffffffffffffffffffffffffffffffffffffffffffffffffffffffffffffffffffffffffffffffffffffffffffffffffffffffffffffffffffffffffffffffffffffffffffffffffffffffffffffffffffffff0000001e81004012 s t0 := by
  rw [← Host.Outcome.next.inj e0]
  try dsimp only
  repeat' first
    | with_reducible exact .refl _ _
    | with_reducible assumption
    | with_reducible refine State.trpCtrlWrite_keeps ?_
    | split
    | dsimp only

theorem execHelloSend_keeps {s t0} (e0 : execHelloSend s = .next t0) : Keeps 0x1800 s t0 := by
  rw [← Host.Outcome.next.inj e0]
  try dsimp only
  repeat' first
    | with_reducible exact .refl _ _
    | with_reducible assumption
    | with_reducible refine State.sendCtrl_keeps ?_
    | with_reducible refine .foldl _ _ ?_ (fun _ _ _ => ?_)
    | split
    | dsimp only

theorem State.toSyncing_keeps {m0 s0 s seq} (h0 : Keeps m0 s0 s) (hw0 : within 0x10000000000000000000000000000000000000000000000000000000000000000000000000000000000000000000000000000000000000000000000000000000000000000400000000000000000000000000000000000001000000000000680004002 m0 = true := by decide) :
    Keeps m0 s0 (State.toSyncing s seq) := by
  refine h0.app hw0 ?_
  unfold State.toSyncing
  try dsimp only
  repeat' first
    | with_reducible exact .refl _ _
    | with_reducible assumption
    | with_reducible refine State.toTrp_keeps ?_
    | fail_if_no_progress with_reducible refine Keeps.mk' ?_
    | split
    | dsimp only

theorem State.toUnfit_keeps {m0 s0 s m} (h0 : Keeps m0 s0 s) (hw0 : within 0x10000000000000000000000000000000000000000000000000000000000000000000000000000000000000000000000000000000000000000000000000000000000000000400000000000000000000000000000000000001000000000000680004002 m0 = true := by decide) :
    Keeps m0 s0 (State.toUnfit s m) := by
  refine h0.app hw0 ?_
  unfold State.toUnfit
  try dsimp only
  repeat' first
    | with_reducible exact .refl _ _
    | with_reducible assumption
    | with_reducible refine .ite _ ?_ ?_
    | with_reducible refine State.toTrp_keeps ?_
    | with_reducible refine State.raise_keeps ?_
    | split
    | dsimp only

theorem State.judge_keeps {m0 s0 s h} (h0 : Keeps m0 s0 s) (hw0 : within 0x90000000000000000000000000000000000000000000000000000000000000000000000000000000000000000000000000000000000000000000000000000000000000000400000000000000000000000000000000000001000000000000680004002 m0 = true := by decide) :
    Keeps m0 s0 (State.judge s h) := by
  refine h0.app hw0 ?_
  unfold State.judge
  try dsimp only
  repeat' first
    | with_reducible exact .refl _ _
    | with_reducible assumption
    | with_reducible refine .ite _ ?_ ?_
    | with_reducible refine State.toTrp_keeps ?_
    | with_reducible refine State.toSyncing_keeps ?_
    | with_reducible refine State.toUnfit_keeps ?_
    | with_reducible refine State.set_keeps (by first | assumption | (dsimp only [bank, Reg.TRP_STATUS_FIT]; decide)) ?_
    | fail_if_no_progress with_reducible refine Keeps.mk' ?_
    | split
    | dsimp only

theorem State.sendMirror_keeps {m0 s0 s i seq r} (h0 : Keeps m0 s0 s) (hw0 : within 0x5800 m0 = true := by decide) :
    Keeps m0 s0 (State.sendMirror s i seq r) := by
  refine h0.app hw0 ?_
  unfold State.sendMirror
  try dsimp only
  repeat' first
    | with_reducible exact .refl _ _
    | with_reducible assumption
    | with_reducible refine State.updLane_keeps ?_
    | with_reducible refine State.sendLink_keeps ?_
    | fail_if_no_progress with_reducible refine Keeps.mk' ?_
    | split
    | dsimp only

theorem State.mirrorDrain_keeps {m0 s0 n s} (h0 : Keeps m0 s0 s) (hw0 : within 0x200000000000000000000000000000000000000000000000000000000000000000000000000000000000000000000000000000000000000000000000000000000000000000000000000000000000000000000000000000000000000000000000001005800 m0 = true := by decide) :
    Keeps m0 s0 (State.mirrorDrain n s) := by
  refine h0.app hw0 ?_
  clear h0 hw0
  induction n generalizing s with
  | zero => exact .refl _ _
  | succ n ih =>
    unfold State.mirrorDrain
    split
    · exact .refl _ _
    · split
      · exact .refl _ _
      · dsimp only
        refine Keeps.trans ?_ (ih (s := _))
        refine Keeps.mk' ?_
        refine State.set_keeps (by (first | assumption | (dsimp only [bank, Reg.TRP_SEQ]; decide))) ?_
        refine State.sendMirror_keeps ?_
        exact Keeps.mk' (.refl _ _)

theorem State.startResync_keeps {m0 s0 s} (h0 : Keeps m0 s0 s) (hw0 : within 0x2000000000000000000000000000000000000000000000000000000000000000000000000000000000000000000000000000000000000000000000000000000000000000000400000000000000000000000000000000000001000000000004681000002 m0 = true := by decide) :
    Keeps m0 s0 (State.startResync s) := by
  refine h0.app hw0 ?_
  unfold State.startResync
  try dsimp only
  repeat' first
    | with_reducible exact .refl _ _
    | with_reducible assumption
    | with_reducible refine .ite _ ?_ ?_
    | with_reducible refine State.raise_keeps ?_
    | with_reducible refine State.bump_keeps (by first | assumption | (dsimp only [bank, Reg.TRP_RESYNC_CNT]; decide)) ?_
    | fail_if_no_progress with_reducible refine Keeps.mk' ?_
    | split
    | dsimp only

theorem State.sendAck_keeps {m0 s0 s} (h0 : Keeps m0 s0 s) (hw0 : within 0x400000000000000000000000000000000000000000000000000000000000000000000000000000000000000000000000000000000000000000000000000000000000000000000000000000000000000000000000000000000000000000000000000005800 m0 = true := by decide) :
    Keeps m0 s0 (State.sendAck s) := by
  refine h0.app hw0 ?_
  unfold State.sendAck
  try dsimp only
  repeat' first
    | with_reducible exact .refl _ _
    | with_reducible assumption
    | with_reducible refine State.sendPeer_keeps ?_
    | with_reducible refine State.set_keeps (by first | assumption | (dsimp only [bank, Reg.TRP_ACK, Reg.TRP_SEQ]; decide)) ?_
    | fail_if_no_progress with_reducible refine Keeps.mk' ?_
    | split
    | dsimp only

theorem State.trapezeTick_keeps {m0 s0 s} (h0 : Keeps m0 s0 s) (hw0 : within 0x602000000000000000000000000000000000000000000000000000000000000000000000000000000000000000000000000000000000000000000000000000000000000000000400000000000000000000000000000000000001000000000004681005802 m0 = true := by decide) :
    Keeps m0 s0 (State.trapezeTick s) := by
  refine h0.app hw0 ?_
  unfold State.trapezeTick
  try dsimp only
  repeat' first
    | with_reducible exact .refl _ _
    | with_reducible assumption
    | with_reducible refine .ite _ ?_ ?_
    | with_reducible refine State.mirrorDrain_keeps ?_
    | with_reducible refine State.startResync_keeps ?_
    | with_reducible refine State.sendAck_keeps ?_
    | split
    | dsimp only

theorem State.helloRx_keeps {m0 s0 s i h} (h0 : Keeps m0 s0 s) (hw0 : within 0x26f0000000000000000000000000000000000000000000000000000000000000100000000000000000000000000000000000000000000000000000000000000000000000000400000000000000000000000000000000000001000000000005681004012 m0 = true := by decide) :
    Keeps m0 s0 (State.helloRx s i h) := by
  refine h0.app hw0 ?_
  unfold State.helloRx
  try dsimp only [State.setAll]
  repeat' first
    | with_reducible exact .refl _ _
    | with_reducible assumption
    | with_reducible refine .ite _ ?_ ?_
    | with_reducible refine State.raiseLimited_keeps ?_
    | with_reducible refine State.raise_keeps ?_
    | with_reducible refine State.uncover_keeps ?_
    | with_reducible refine State.startResync_keeps ?_
    | with_reducible refine State.judge_keeps ?_
    | with_reducible refine State.set_keeps (by first | assumption | (dsimp only [bank, Reg.AKN_STATUS_VERSION, Reg.SAF_CMP_AVAILABLE, Reg.TRP_PARTNER_PART, Reg.TRP_PARTNER_VERSION, Reg.TRP_STATUS_PARTNER_READY, Reg.TRP_STATUS_PARTNER_SEEN]; decide)) ?_
    | fail_if_no_progress with_reducible refine Keeps.mk' ?_
    | split
    | dsimp only

theorem execHelloRx_keeps {i h s t0} (e0 : execHelloRx i h s = .next t0) : Keeps 0x26f0000000000000000000000000000000000000000000000000000000000000100000000000000000000000000000000000000000000000000000000000000000000000000400000000000000000000000000000000000001000000000005681004012 s t0 := by
  rw [← Host.Outcome.next.inj e0]
  try dsimp only
  repeat' first
    | with_reducible exact .refl _ _
    | with_reducible assumption
    | with_reducible refine State.helloRx_keeps ?_
    | split
    | dsimp only

theorem State.partnerLoss_keeps {m0 s0 s} (h0 : Keeps m0 s0 s) (hw0 : within 0x670000000000000000000000000000000000000000000000000000000000000100000000000000000000000000000000000000000000000000000000000000000000000000400000000000000000000000000000000000001000000000000680004012 m0 = true := by decide) :
    Keeps m0 s0 (State.partnerLoss s) := by
  refine h0.app hw0 ?_
  unfold State.partnerLoss
  try dsimp only
  repeat' first
    | with_reducible exact .refl _ _
    | with_reducible assumption
    | with_reducible refine .ite _ ?_ ?_
    | with_reducible refine State.dropPartner_keeps ?_
    | with_reducible refine State.raise_keeps ?_
    | with_reducible refine State.toTrp_keeps ?_
    | split
    | dsimp only

theorem execPartnerLoss_keeps {s t0} (e0 : execPartnerLoss s = .next t0) : Keeps 0x670000000000000000000000000000000000000000000000000000000000000100000000000000000000000000000000000000000000000000000000000000000000000000400000000000000000000000000000000000001000000000000680004012 s t0 := by
  rw [← Host.Outcome.next.inj e0]
  try dsimp only
  repeat' first
    | with_reducible exact .refl _ _
    | with_reducible assumption
    | with_reducible refine State.partnerLoss_keeps ?_
    | split
    | dsimp only

theorem State.ackRx_keeps {m0 s0 s i seq} (h0 : Keeps m0 s0 s) (hw0 : within 0x400000000000000000000000000000000000000000000000000000000000000000000000000000000000000000000000000000000000000000000000000000000000000000000000000000000000000000000000000000000000000000000000000004010 m0 = true := by decide) :
    Keeps m0 s0 (State.ackRx s i seq) := by
  refine h0.app hw0 ?_
  unfold State.ackRx
  try dsimp only
  repeat' first
    | with_reducible exact .refl _ _
    | with_reducible assumption
    | with_reducible refine .ite _ ?_ ?_
    | with_reducible refine State.uncover_keeps ?_
    | with_reducible refine State.set_keeps (by first | assumption | (dsimp only [bank, Reg.TRP_ACK]; decide)) ?_
    | fail_if_no_progress with_reducible refine Keeps.mk' ?_
    | split
    | dsimp only

theorem execAckRx_keeps {i seq s t0} (e0 : execAckRx i seq s = .next t0) : Keeps 0x400000000000000000000000000000000000000000000000000000000000000000000000000000000000000000000000000000000000000000000000000000000000000000000000000000000000000000000000000000000000000000000000000004010 s t0 := by
  rw [← Host.Outcome.next.inj e0]
  try dsimp only
  repeat' first
    | with_reducible exact .refl _ _
    | with_reducible assumption
    | with_reducible refine State.ackRx_keeps ?_
    | split
    | dsimp only

theorem State.uncoveredRelease_keeps {m0 s0 s n pic row} (h0 : Keeps m0 s0 s) (hw0 : within 0x800000000000000000000000000000000000000000000000000000000000000000000000000000000000000000000000000000000000000000000000000000000000000000400000000000000000000000000000000000001000000000000680004012 m0 = true := by decide) :
    Keeps m0 s0 (State.uncoveredRelease s n pic row) := by
  refine h0.app hw0 ?_
  unfold State.uncoveredRelease
  try dsimp only
  repeat' first
    | with_reducible exact .refl _ _
    | with_reducible assumption
    | with_reducible refine .ite _ ?_ ?_
    | with_reducible refine State.uncover_keeps ?_
    | with_reducible refine State.raise_keeps ?_
    | with_reducible refine State.bump_keeps (by first | assumption | (dsimp only [bank, Reg.TRP_UNCOVERED_CNT]; decide)) ?_
    | fail_if_no_progress with_reducible refine Keeps.mk' ?_
    | split
    | dsimp only

theorem execUncoveredRelease_keeps {n pic row s t0} (e0 : execUncoveredRelease n pic row s = .next t0) : Keeps 0x800000000000000000000000000000000000000000000000000000000000000000000000000000000000000000000000000000000000000000000000000000000000000000400000000000000000000000000000000000001000000000000680004012 s t0 := by
  rw [← Host.Outcome.next.inj e0]
  try dsimp only
  repeat' first
    | with_reducible exact .refl _ _
    | with_reducible assumption
    | with_reducible refine State.uncoveredRelease_keeps ?_
    | split
    | dsimp only

theorem State.resendRx_keeps {m0 s0 s i seq} (h0 : Keeps m0 s0 s) (hw0 : within 0x1000000000000000000000000000000000000000000000000000000000000000000000000000000000000000000000000000000000000000000000000000000000000000000000000000000000000000000000000000000000000000000000000005802 m0 = true := by decide) :
    Keeps m0 s0 (State.resendRx s i seq) := by
  refine h0.app hw0 ?_
  unfold State.resendRx
  try dsimp only
  repeat' first
    | with_reducible exact .refl _ _
    | with_reducible assumption
    | with_reducible refine .ite _ ?_ ?_
    | with_reducible refine State.sendMirror_keeps ?_
    | with_reducible refine State.bump_keeps (by first | assumption | (dsimp only [bank, Reg.TRP_RESEND_CNT]; decide)) ?_
    | fail_if_no_progress with_reducible refine Keeps.mk' ?_
    | split
    | dsimp only

theorem execResendRequestRx_keeps {i seq s t0} (e0 : execResendRequestRx i seq s = .next t0) : Keeps 0x1000000000000000000000000000000000000000000000000000000000000000000000000000000000000000000000000000000000000000000000000000000000000000000000000000000000000000000000000000000000000000000000000005802 s t0 := by
  rw [← Host.Outcome.next.inj e0]
  try dsimp only
  repeat' first
    | with_reducible exact .refl _ _
    | with_reducible assumption
    | with_reducible refine State.resendRx_keeps ?_
    | split
    | dsimp only

theorem execResyncRequestRx_keeps {i s t0} (e0 : execResyncRequestRx i s = .next t0) : Keeps 0x2000000000000000000000000000000000000000000000000000000000000000000000000000000000000000000000000000000000000000000000000000000000000000000400000000000000000000000000000000000001000000000004681000002 s t0 := by
  rw [← Host.Outcome.next.inj e0]
  try dsimp only
  repeat' first
    | with_reducible exact .refl _ _
    | with_reducible assumption
    | with_reducible refine .ite _ ?_ ?_
    | with_reducible refine State.startResync_keeps ?_
    | split
    | dsimp only

theorem State.setDiverged_keeps {m0 s0 s mask} (h0 : Keeps m0 s0 s) (hw0 : within 0x200000000000000000000000000000000000000000000000000000000000000000000000000400000000000000000000000000000000000001000000000000680000002 m0 = true := by decide) :
    Keeps m0 s0 (State.setDiverged s mask) := by
  refine h0.app hw0 ?_
  unfold State.setDiverged
  try dsimp only
  repeat' first
    | with_reducible exact .refl _ _
    | with_reducible assumption
    | with_reducible refine State.raise_keeps ?_
    | with_reducible refine State.set_keeps (by first | assumption | (dsimp only [bank, Reg.SAF_CMP_DIVERGED]; decide)) ?_
    | with_reducible refine .foldl _ _ ?_ (fun _ _ _ => ?_)
    | split
    | dsimp only

theorem execDivergenceRx_keeps {i mask s t0} (e0 : execDivergenceRx i mask s = .next t0) : Keeps 0x200000000000000000000000000000000000000000000000000000000000000000000000000400000000000000000000000000000000000001000000000000680000002 s t0 := by
  rw [← Host.Outcome.next.inj e0]
  try dsimp only
  repeat' first
    | with_reducible exact .refl _ _
    | with_reducible assumption
    | with_reducible refine .ite _ ?_ ?_
    | with_reducible refine State.setDiverged_keeps ?_
    | split
    | dsimp only

theorem execHeartbeatToggle_keeps {s t0} (e0 : execHeartbeatToggle s = .next t0) : Keeps 0x4000 s t0 := by
  rw [← Host.Outcome.next.inj e0]
  try dsimp only
  repeat' first
    | with_reducible exact .refl _ _
    | with_reducible assumption
    | with_reducible refine .ite _ ?_ ?_
    | with_reducible refine State.emit_keeps ?_
    | fail_if_no_progress with_reducible refine Keeps.mk' ?_
    | split
    | dsimp only

theorem execPet_keeps {w s t0} (e0 : execPet w s = .next t0) : Keeps 0x4000 s t0 := by
  rw [← Host.Outcome.next.inj e0]
  try dsimp only
  repeat' first
    | with_reducible exact .refl _ _
    | with_reducible assumption
    | with_reducible refine .ite _ ?_ ?_
    | fail_if_no_progress with_reducible refine Keeps.mk' ?_
    | split
    | dsimp only

theorem State.testTurn_keeps {m0 s0 s} (h0 : Keeps m0 s0 s) (hw0 : within 0x80000000000000000000000000000000000000000000000000000000000000000000000000000000000000000000000000000000000000000000000000000000000000000000000000000000000000000000000002000000000000000000000000004000 m0 = true := by decide) :
    Keeps m0 s0 (State.testTurn s) := by
  refine h0.app hw0 ?_
  unfold State.testTurn
  try dsimp only
  repeat' first
    | with_reducible exact .refl _ _
    | with_reducible assumption
    | with_reducible refine .ite _ ?_ ?_
    | with_reducible refine State.setPds_keeps ?_
    | with_reducible refine State.touch_keeps ?_
    | with_reducible refine State.set_keeps (by first | assumption | (dsimp only [bank, Reg.TRP_TEST_POS]; decide)) ?_
    | fail_if_no_progress with_reducible refine Keeps.mk' ?_
    | split
    | dsimp only

theorem execTestTurn_keeps {s t0} (e0 : execTestTurn s = .next t0) : Keeps 0x80000000000000000000000000000000000000000000000000000000000000000000000000000000000000000000000000000000000000000000000000000000000000000000000000000000000000000000000002000000000000000000000000004000 s t0 := by
  rw [← Host.Outcome.next.inj e0]
  try dsimp only
  repeat' first
    | with_reducible exact .refl _ _
    | with_reducible assumption
    | with_reducible refine State.testTurn_keeps ?_
    | split
    | dsimp only

theorem State.testTurnEnd_keeps {m0 s0 s failed} (h0 : Keeps m0 s0 s) (hw0 : within 0xffffffffffffffffffffffffffffffffffffffffffffffffffffffffffffffffffffffffffffffffffffffffffffffffffffffffffffffffffffffffffffffffffffffffffffffffffffffffffffffffffffffffffffffffffffffffffffffffffffffffffffffffffffffffffffffffffffffffffffffffffffffffffffffff0000003e8197e9fa m0 = true := by decide) :
    Keeps m0 s0 (State.testTurnEnd s failed) := by
  refine h0.app hw0 ?_
  unfold State.testTurnEnd
  try dsimp only
  repeat' first
    | with_reducible exact .refl _ _
    | with_reducible assumption
    | with_reducible refine .ite _ ?_ ?_
    | with_reducible refine State.setPds_keeps ?_
    | with_reducible refine State.fenceAll_keeps ?_
    | with_reducible refine State.touch_keeps ?_
    | with_reducible refine State.count_keeps (by first | assumption | (dsimp only [bank, Reg.TRP_TEST_FAIL_CNT]; decide)) ?_
    | fail_if_no_progress with_reducible refine Keeps.mk' ?_
    | split
    | dsimp only

theorem execTestTurnEnd_keeps {failed s t0} (e0 : execTestTurnEnd failed s = .next t0) : Keeps 0xffffffffffffffffffffffffffffffffffffffffffffffffffffffffffffffffffffffffffffffffffffffffffffffffffffffffffffffffffffffffffffffffffffffffffffffffffffffffffffffffffffffffffffffffffffffffffffffffffffffffffffffffffffffffffffffffffffffffffffffffffffffffffffffff0000003e8197e9fa s t0 := by
  rw [← Host.Outcome.next.inj e0]
  try dsimp only
  repeat' first
    | with_reducible exact .refl _ _
    | with_reducible assumption
    | with_reducible refine State.testTurnEnd_keeps ?_
    | split
    | dsimp only

theorem actHealthRead_keeps {m0 s0 d t s} (h0 : Keeps m0 s0 s) (hw0 : within 0x680000000 m0 = true := by decide) :
    Keeps m0 s0 (actHealthRead d t s) := by
  refine h0.app hw0 ?_
  unfold actHealthRead
  try dsimp only
  repeat' first
    | with_reducible exact .refl _ _
    | with_reducible assumption
    | with_reducible refine State.hostWrite_keeps ?_
    | with_reducible refine State.complete_keeps ?_
    | split
    | dsimp only

theorem execTrpHealthRead_keeps {d s t0} (e0 : execTrpHealthRead d s = .next t0) : Keeps 0x400000000000001800000000000000800000001a00000000001e8180000a s t0 := by
  rw [← Host.Outcome.next.inj e0]
  try dsimp only
  repeat' first
    | with_reducible exact .refl _ _
    | with_reducible assumption
    | with_reducible refine actHealthRead_keeps ?_
    | with_reducible refine State.runDesc_keeps (fun _ _ _ => ?_) ?_
    | split
    | dsimp only

end Sys2Proof.Machine
end

