-- ==== Sys2Proof/Laws/KeepsMirrorIn.lean ====
section
/-! SUPPORT. What each operation of Machine/MirrorIn.lean may change (Laws/Keeps.lean). -/

namespace Sys2Proof.Machine

set_option Elab.async false
set_option linter.unusedTactic false
set_option linter.unusedSimpArgs false
set_option linter.unreachableTactic false

theorem State.mirrorDataRx_keeps {m0 s0 s i seq malformed} (h0 : Keeps m0 s0 s) (hw0 : within 0x208000000000000000000000000000000000000000000000000000000000000000000000000000000000000000000000000000000000000000000000000000000000000000000400000000000000000000000000000000000001000000000001680005802 m0 = true := by decide) :
    Keeps m0 s0 (State.mirrorDataRx s i seq malformed) := by
  refine h0.app hw0 ?_
  unfold State.mirrorDataRx
  try dsimp only
  repeat' first
    | with_reducible exact .refl _ _
    | with_reducible assumption
    | with_reducible refine .ite _ ?_ ?_
    | with_reducible refine State.raiseLimited_keeps ?_
    | with_reducible refine State.sendPeer_keeps ?_
    | with_reducible refine State.set_keeps (by first | assumption | (dsimp only [bank, Reg.TRP_MALFORMED_CNT, Reg.TRP_SEQ]; decide)) ?_
    | with_reducible refine State.count_keeps (by first | assumption | (dsimp only [bank, Reg.TRP_MALFORMED_CNT, Reg.TRP_SEQ]; decide)) ?_
    | with_reducible refine .foldl _ _ ?_ (fun _ _ _ => ?_)
    | fail_if_no_progress with_reducible refine Keeps.mk' ?_
    | split
    | dsimp only

theorem execMirrorDataRx_keeps {i seq malformed s t0} (e0 : execMirrorDataRx i seq malformed s = .next t0) : Keeps 0x208000000000000000000000000000000000000000000000000000000000000000000000000000000000000000000000000000000000000000000000000000000000000000000400000000000000000000000000000000000001000000000001680005802 s t0 := by
  rw [← Host.Outcome.next.inj e0]
  try dsimp only
  repeat' first
    | with_reducible exact .refl _ _
    | with_reducible assumption
    | with_reducible refine State.mirrorDataRx_keeps ?_
    | split
    | dsimp only

theorem State.resendTimeout_keeps {m0 s0 s seq} (h0 : Keeps m0 s0 s) (hw0 : within 0x5800 m0 = true := by decide) :
    Keeps m0 s0 (State.resendTimeout s seq) := by
  refine h0.app hw0 ?_
  unfold State.resendTimeout
  try dsimp only
  repeat' first
    | with_reducible exact .refl _ _
    | with_reducible assumption
    | with_reducible refine .ite _ ?_ ?_
    | with_reducible refine State.sendPeer_keeps ?_
    | with_reducible refine .foldl _ _ ?_ (fun _ _ _ => ?_)
    | fail_if_no_progress with_reducible refine Keeps.mk' ?_
    | split
    | dsimp only

theorem execResendTimeout_keeps {seq s t0} (e0 : execResendTimeout seq s = .next t0) : Keeps 0x5800 s t0 := by
  rw [← Host.Outcome.next.inj e0]
  try dsimp only
  repeat' first
    | with_reducible exact .refl _ _
    | with_reducible assumption
    | with_reducible refine State.resendTimeout_keeps ?_
    | split
    | dsimp only

theorem State.descShown_keeps {m0 s0 s p} (h0 : Keeps m0 s0 s) (hw0 : within 0x4000 m0 = true := by decide) :
    Keeps m0 s0 (State.descShown s p) := by
  refine h0.app hw0 ?_
  unfold State.descShown
  try dsimp only
  repeat' first
    | with_reducible exact .refl _ _
    | with_reducible assumption
    | fail_if_no_progress with_reducible refine Keeps.mk' ?_
    | split
    | dsimp only

theorem State.heldWrite_keeps {m0 s0 s b off v} (h0 : Keeps m0 s0 s) (hw0 : within registers m0 = true := by decide) :
    Keeps m0 s0 (State.heldWrite s b off v) := by
  unfold State.heldWrite
  exact .foldl _ _ h0 (fun _ _ h => State.set_keeps (bit_within (registers_bit _ (Nat.mod_lt _ (by decide))) hw0) h)

theorem State.rxFollow_keeps {m0 s0 s before} (h0 : Keeps m0 s0 s) (hw0 : within 0x70000000fec0a600000000000000000000000000000000000000000400000000000000000000000000000000000001000000000001680000052 m0 = true := by decide) :
    Keeps m0 s0 (State.rxFollow s before) := by
  refine h0.app hw0 ?_
  unfold State.rxFollow
  try dsimp only
  repeat' first
    | with_reducible exact .refl _ _
    | with_reducible assumption
    | with_reducible refine .ite _ ?_ ?_
    | with_reducible refine State.pathOff_keeps ?_
    | with_reducible refine State.igmpJoin_keeps ?_
    | with_reducible refine State.signalLost_keeps ?_
    | with_reducible refine State.setRcv_keeps ?_
    | with_reducible refine .foldl _ _ ?_ (fun _ _ _ => ?_)
    | split
    | dsimp only

theorem State.heldCommand_keeps {m0 s0 s off v} (h0 : Keeps m0 s0 s) (hw0 : within 0xe00000000000ffe00007ef60000ffffe003fdfffefc03f5ffc0101f00000007ffffff007ff80000000000001ec00000020000000000000000000000000000000000000000000000000000000000000000000000000000000000000000000000000 m0 = true := by decide) :
    Keeps m0 s0 (State.heldCommand s off v) := by
  refine h0.app hw0 ?_
  unfold State.heldCommand
  try dsimp only
  repeat' first
    | with_reducible exact .refl _ _
    | with_reducible assumption
    | with_reducible refine .ite _ ?_ ?_
    | with_reducible refine State.set_keeps (by repeat' first | assumption | (dsimp only [bank, Reg.AUD_ROUTE_DELAY_SEL, Reg.AUD_ROUTE_DELAY_US, Reg.AUD_ROUTE_SRC, Reg.CAR_P_COMMIT_COMMIT, Reg.CAR_P_PENDING, Reg.CMP_L_COEF_H, Reg.CMP_L_COEF_V, Reg.CMP_L_CROP_H, Reg.CMP_L_CROP_W, Reg.CMP_L_CROP_X, Reg.CMP_L_CROP_Y, Reg.CMP_L_DST_H, Reg.CMP_L_DST_W, Reg.CMP_L_DST_X, Reg.CMP_L_DST_Y, Reg.CMP_L_ENABLE, Reg.CMP_L_GFX_TCS, Reg.CMP_L_INDEX_OR_PITCH, Reg.CMP_L_KNEE, Reg.CMP_L_LAYER_ALPHA, Reg.CMP_L_LUT, Reg.CMP_L_PREMULT, Reg.CMP_L_SCROLL_X, Reg.CMP_L_SCROLL_Y, Reg.CMP_L_SRC_KIND_OR_FORMAT, Reg.CMP_L_SRC_PEAK, Reg.CMP_L_SURF_A_BASE, Reg.CMP_L_SURF_B_BASE, Reg.CMP_L_SURF_H, Reg.CMP_L_SURF_W, Reg.CMP_L_TM_MODE, Reg.CMP_L_Z, Reg.CMP_SLOT_BENCH_BASE, Reg.CMP_SLOT_BENCH_EN, Reg.CMP_SLOT_BENCH_FRAMES, Reg.CMP_SLOT_BG_B, Reg.CMP_SLOT_BG_G, Reg.CMP_SLOT_BG_R, Reg.CMP_SLOT_CANVAS_CANVAS_PEAK, Reg.CMP_SLOT_CANVAS_COLORIMETRY, Reg.CMP_SLOT_CANVAS_TCS, Reg.CMP_SLOT_COMMIT_COMMIT, Reg.CMP_SLOT_LEVELS_HLG_LW, Reg.CMP_SLOT_LEVELS_SDR_WHITE, Reg.CMP_SLOT_TABLE_BASE, Reg.DEC_BS_AREA_BASE, Reg.DEC_BS_CHROMA, Reg.DEC_BS_CODEC, Reg.DEC_BS_DEPTH8, Reg.DEC_BS_HEIGHT, Reg.DEC_BS_LOAD_US, Reg.DEC_BS_OUT_H, Reg.DEC_BS_OUT_W, Reg.DEC_BS_OUT_X, Reg.DEC_BS_OUT_Y, Reg.DEC_BS_RATE, Reg.DEC_BS_SBUF_LOG2, Reg.DEC_BS_SP_H, Reg.DEC_BS_SP_W, Reg.DEC_BS_WIDTH, Reg.DEC_BS_WIN_COL, Reg.DEC_BS_WIN_COLS, Reg.DEC_BS_WIN_ROW, Reg.DEC_BS_WIN_ROWS, Reg.ENC_BS_A_DST_US, Reg.ENC_BS_A_RES_US, Reg.ENC_BS_A_SCN_US, Reg.ENC_BS_A_SRC_US, Reg.ENC_BS_COLS_PER_ENG, Reg.ENC_BS_D_NS, Reg.ENC_BS_FORMAT_CHROMA, Reg.ENC_BS_FORMAT_KIND, Reg.ENC_BS_FORMAT_LEVEL, Reg.ENC_BS_FORMAT_PROFILE, Reg.ENC_BS_FORMAT_RATE, Reg.ENC_BS_FORMAT_STRICT_LEVEL, Reg.ENC_BS_FORMAT_TIER, Reg.ENC_BS_GDR_COLS, Reg.ENC_BS_PKT_MTU, Reg.ENC_BS_PKT_PMT_PID, Reg.ENC_BS_PKT_STREAMS, Reg.ENC_BS_PKT_TS_EN, Reg.ENC_BS_PKT_TS_RTP, Reg.ENC_BS_PKT_VIDEO_PID, Reg.ENC_BS_RUN_CMD, Reg.ENC_BS_RUN_STATE, Reg.ENC_BS_SIZE_HEIGHT, Reg.ENC_BS_SIZE_WIDTH, Reg.ENC_BS_SP_H, Reg.ENC_BS_SP_W, Reg.ENC_BS_STR_COL_FIRST, Reg.ENC_BS_STR_COL_LAST, Reg.ENC_BS_STR_DSCP, Reg.ENC_BS_STR_DST_PORT, Reg.ENC_BS_STR_GROUP, Reg.ENC_BS_STR_LANE0, Reg.ENC_BS_STR_LANE1, Reg.ENC_BS_STR_PATH1_EN, Reg.ENC_BS_STR_PCP, Reg.ENC_BS_STR_PT, Reg.ENC_BS_STR_SRC_PORT, Reg.ENC_BS_STR_SSRC, Reg.ENC_BS_STR_TAG_EN, Reg.ENC_BS_STR_TCLASS, Reg.ENC_BS_STR_TTL, Reg.ENC_BS_STR_VID, Reg.ENC_BS_TOOLS_AFFINE_EN, Reg.ENC_BS_TOOLS_FACE_MASK, Reg.ENC_BS_TOOLS_HINT_EN, Reg.ENC_BS_TOOLS_NUM_REF, Reg.ENC_BS_TOOLS_TS_EN, Reg.RC_BS_DQP_PIC, Reg.RC_BS_MAX_KBPS, Reg.RC_BS_QP_INIT, Reg.RC_BS_QP_MAX, Reg.RC_BS_QP_MIN, Reg.RC_BS_ROW_FLOOR, Reg.RC_BS_ROW_MAX, Reg.RC_BS_TARGET_KBPS, Reg.SCN_LANE_CLONE_EN, Reg.SCN_LANE_CLONE_OF, Reg.SCN_LANE_COMMIT_COMMIT, Reg.SCN_LANE_ENABLE, Reg.SCN_LANE_FLIP_LEAD_NS, Reg.SCN_LANE_LINE_NS, Reg.SCN_LANE_MEM_BASE, Reg.SCN_LANE_MEM_COLORIMETRY, Reg.SCN_LANE_MEM_DEPTH, Reg.SCN_LANE_MEM_LOAD_US, Reg.SCN_LANE_MEM_PLANAR, Reg.SCN_LANE_MEM_RATE, Reg.SCN_LANE_MEM_SAMPLING, Reg.SCN_LANE_SRC_H, Reg.SCN_LANE_SRC_INDEX, Reg.SCN_LANE_SRC_KIND, Reg.SCN_LANE_SRC_W, Reg.SCN_LANE_SRC_X, Reg.SCN_LANE_SRC_Y, Reg.SCN_LANE_TILES, Reg.SCN_TILE_H, Reg.SCN_TILE_W, Reg.SCN_TILE_X, Reg.SCN_TILE_Y, Reg.TRN_Q_CBS_B, Reg.TRN_Q_CIR_MBPS, Reg.TRN_Q_MODE, Reg.TRN_Q_OVH, Reg.TRN_Q_PBS_B, Reg.TRN_Q_PIR_MBPS]; decide) | (unfold bank) | split) ?_
    | with_reducible refine State.copyBank_keeps (by (repeat' first | with_reducible assumption | with_reducible exact inMask_nil _ | (with_reducible refine inMask_cons ?_ ?_) | (with_reducible refine inMask_append ?_ ?_) | (with_reducible refine inMask_flatMap (fun _ => ?_)) | (with_reducible refine asBit ?_; dsimp only [Function.comp, bank, Reg.AUD_ROUTE_DELAY_SEL, Reg.AUD_ROUTE_DELAY_US, Reg.AUD_ROUTE_SRC, Reg.CAR_P_COMMIT_COMMIT, Reg.CAR_P_PENDING, Reg.CMP_L_COEF_H, Reg.CMP_L_COEF_V, Reg.CMP_L_CROP_H, Reg.CMP_L_CROP_W, Reg.CMP_L_CROP_X, Reg.CMP_L_CROP_Y, Reg.CMP_L_DST_H, Reg.CMP_L_DST_W, Reg.CMP_L_DST_X, Reg.CMP_L_DST_Y, Reg.CMP_L_ENABLE, Reg.CMP_L_GFX_TCS, Reg.CMP_L_INDEX_OR_PITCH, Reg.CMP_L_KNEE, Reg.CMP_L_LAYER_ALPHA, Reg.CMP_L_LUT, Reg.CMP_L_PREMULT, Reg.CMP_L_SCROLL_X, Reg.CMP_L_SCROLL_Y, Reg.CMP_L_SRC_KIND_OR_FORMAT, Reg.CMP_L_SRC_PEAK, Reg.CMP_L_SURF_A_BASE, Reg.CMP_L_SURF_B_BASE, Reg.CMP_L_SURF_H, Reg.CMP_L_SURF_W, Reg.CMP_L_TM_MODE, Reg.CMP_L_Z, Reg.CMP_SLOT_BENCH_BASE, Reg.CMP_SLOT_BENCH_EN, Reg.CMP_SLOT_BENCH_FRAMES, Reg.CMP_SLOT_BG_B, Reg.CMP_SLOT_BG_G, Reg.CMP_SLOT_BG_R, Reg.CMP_SLOT_CANVAS_CANVAS_PEAK, Reg.CMP_SLOT_CANVAS_COLORIMETRY, Reg.CMP_SLOT_CANVAS_TCS, Reg.CMP_SLOT_COMMIT_COMMIT, Reg.CMP_SLOT_LEVELS_HLG_LW, Reg.CMP_SLOT_LEVELS_SDR_WHITE, Reg.CMP_SLOT_TABLE_BASE, Reg.DEC_BS_AREA_BASE, Reg.DEC_BS_CHROMA, Reg.DEC_BS_CODEC, Reg.DEC_BS_DEPTH8, Reg.DEC_BS_HEIGHT, Reg.DEC_BS_LOAD_US, Reg.DEC_BS_OUT_H, Reg.DEC_BS_OUT_W, Reg.DEC_BS_OUT_X, Reg.DEC_BS_OUT_Y, Reg.DEC_BS_RATE, Reg.DEC_BS_SBUF_LOG2, Reg.DEC_BS_SP_H, Reg.DEC_BS_SP_W, Reg.DEC_BS_WIDTH, Reg.DEC_BS_WIN_COL, Reg.DEC_BS_WIN_COLS, Reg.DEC_BS_WIN_ROW, Reg.DEC_BS_WIN_ROWS, Reg.ENC_BS_A_DST_US, Reg.ENC_BS_A_RES_US, Reg.ENC_BS_A_SCN_US, Reg.ENC_BS_A_SRC_US, Reg.ENC_BS_COLS_PER_ENG, Reg.ENC_BS_D_NS, Reg.ENC_BS_FORMAT_CHROMA, Reg.ENC_BS_FORMAT_KIND, Reg.ENC_BS_FORMAT_LEVEL, Reg.ENC_BS_FORMAT_PROFILE, Reg.ENC_BS_FORMAT_RATE, Reg.ENC_BS_FORMAT_STRICT_LEVEL, Reg.ENC_BS_FORMAT_TIER, Reg.ENC_BS_GDR_COLS, Reg.ENC_BS_PKT_MTU, Reg.ENC_BS_PKT_PMT_PID, Reg.ENC_BS_PKT_STREAMS, Reg.ENC_BS_PKT_TS_EN, Reg.ENC_BS_PKT_TS_RTP, Reg.ENC_BS_PKT_VIDEO_PID, Reg.ENC_BS_RUN_CMD, Reg.ENC_BS_RUN_STATE, Reg.ENC_BS_SIZE_HEIGHT, Reg.ENC_BS_SIZE_WIDTH, Reg.ENC_BS_SP_H, Reg.ENC_BS_SP_W, Reg.ENC_BS_STR_COL_FIRST, Reg.ENC_BS_STR_COL_LAST, Reg.ENC_BS_STR_DSCP, Reg.ENC_BS_STR_DST_PORT, Reg.ENC_BS_STR_GROUP, Reg.ENC_BS_STR_LANE0, Reg.ENC_BS_STR_LANE1, Reg.ENC_BS_STR_PATH1_EN, Reg.ENC_BS_STR_PCP, Reg.ENC_BS_STR_PT, Reg.ENC_BS_STR_SRC_PORT, Reg.ENC_BS_STR_SSRC, Reg.ENC_BS_STR_TAG_EN, Reg.ENC_BS_STR_TCLASS, Reg.ENC_BS_STR_TTL, Reg.ENC_BS_STR_VID, Reg.ENC_BS_TOOLS_AFFINE_EN, Reg.ENC_BS_TOOLS_FACE_MASK, Reg.ENC_BS_TOOLS_HINT_EN, Reg.ENC_BS_TOOLS_NUM_REF, Reg.ENC_BS_TOOLS_TS_EN, Reg.RC_BS_DQP_PIC, Reg.RC_BS_MAX_KBPS, Reg.RC_BS_QP_INIT, Reg.RC_BS_QP_MAX, Reg.RC_BS_QP_MIN, Reg.RC_BS_ROW_FLOOR, Reg.RC_BS_ROW_MAX, Reg.RC_BS_TARGET_KBPS, Reg.SCN_LANE_CLONE_EN, Reg.SCN_LANE_CLONE_OF, Reg.SCN_LANE_COMMIT_COMMIT, Reg.SCN_LANE_ENABLE, Reg.SCN_LANE_FLIP_LEAD_NS, Reg.SCN_LANE_LINE_NS, Reg.SCN_LANE_MEM_BASE, Reg.SCN_LANE_MEM_COLORIMETRY, Reg.SCN_LANE_MEM_DEPTH, Reg.SCN_LANE_MEM_LOAD_US, Reg.SCN_LANE_MEM_PLANAR, Reg.SCN_LANE_MEM_RATE, Reg.SCN_LANE_MEM_SAMPLING, Reg.SCN_LANE_SRC_H, Reg.SCN_LANE_SRC_INDEX, Reg.SCN_LANE_SRC_KIND, Reg.SCN_LANE_SRC_W, Reg.SCN_LANE_SRC_X, Reg.SCN_LANE_SRC_Y, Reg.SCN_LANE_TILES, Reg.SCN_TILE_H, Reg.SCN_TILE_W, Reg.SCN_TILE_X, Reg.SCN_TILE_Y, Reg.TRN_Q_CBS_B, Reg.TRN_Q_CIR_MBPS, Reg.TRN_Q_MODE, Reg.TRN_Q_OVH, Reg.TRN_Q_PBS_B, Reg.TRN_Q_PIR_MBPS]; decide) | (unfold bank) | (unfold cmpFields) | (unfold commonFields) | (unfold fixedDecode) | (unfold fixedEncode) | (unfold layerFields) | (unfold liveEncode) | (unfold liveStream) | (unfold meterFields) | (unfold scnFields) | (unfold slotFields) | (simp only [List.map_map, List.map_append, List.map_cons, List.map_nil]) | (with_reducible refine inMask_ite _ ?_ ?_) | split | (with_reducible refine inMask_map (fun _ => ?_)))) ?_
    | fail_if_no_progress with_reducible refine Keeps.mk' ?_
    | split
    | dsimp only

theorem State.heldConfig_keeps {m0 s0 s off v} (h0 : Keeps m0 s0 s) (hw0 : within 0xffffffffffffffffffffffffffffffffffffffffffffffffffffffffffffffffffffffffffffffffffffffffffffffffffffffffffffffffffffffffffffffffffffffffffffffffffffffffffffffffffffffffffffffffffffffffffffffffffffffffffffffffffffffffffffffffffffffffffffffffffffffffffffffff0000001680000052 m0 = true := by decide) :
    Keeps m0 s0 (State.heldConfig s off v) := by
  refine h0.app hw0 ?_
  unfold State.heldConfig
  try dsimp only
  repeat' first
    | with_reducible exact .refl _ _
    | with_reducible assumption
    | with_reducible refine .ite _ ?_ ?_
    | with_reducible refine State.heldWrite_keeps ?_
    | with_reducible refine State.heldCommand_keeps ?_
    | with_reducible refine State.rxFollow_keeps ?_
    | split
    | dsimp only

theorem execConfigRecord_keeps {l s t0} (e0 : execConfigRecord l s = .next t0) : Keeps 0xffffffffffffffffffffffffffffffffffffffffffffffffffffffffffffffffffffffffffffffffffffffffffffffffffffffffffffffffffffffffffffffffffffffffffffffffffffffffffffffffffffffffffffffffffffffffffffffffffffffffffffffffffffffffffffffffffffffffffffffffffffffffffffffff0000001680004052 s t0 := by
  rw [← Host.Outcome.next.inj e0]
  try dsimp only
  repeat' first
    | with_reducible exact .refl _ _
    | with_reducible assumption
    | with_reducible refine .ite _ ?_ ?_
    | with_reducible refine State.heldConfig_keeps ?_
    | with_reducible refine State.descShown_keeps ?_
    | with_reducible refine .foldl _ _ ?_ (fun _ _ _ => ?_)
    | split
    | dsimp only

theorem State.poisonRange_keeps {m0 s0 s a len} (h0 : Keeps m0 s0 s) (hw0 : within 0x10000 m0 = true := by decide) :
    Keeps m0 s0 (State.poisonRange s a len) := by
  refine h0.app hw0 ?_
  unfold State.poisonRange
  try dsimp only
  repeat' first
    | with_reducible exact .refl _ _
    | with_reducible assumption
    | with_reducible refine .foldl _ _ ?_ (fun _ _ _ => ?_)
    | fail_if_no_progress with_reducible refine Keeps.mk' ?_
    | split
    | dsimp only

theorem State.mirrorStore_keeps {m0 s0 s a l poison} (h0 : Keeps m0 s0 s) (hw0 : within 0x2000000000000000000000000000000000000000000000000000000000000000000000000000400000000000001800000000000000000000001000000000003e80010002 m0 = true := by decide) :
    Keeps m0 s0 (State.mirrorStore s a l poison) := by
  refine h0.app hw0 ?_
  unfold State.mirrorStore
  try dsimp only
  repeat' first
    | with_reducible exact .refl _ _
    | with_reducible assumption
    | with_reducible refine .ite _ ?_ ?_
    | with_reducible refine State.deviceStore_keeps ?_
    | with_reducible refine State.poisonRange_keeps ?_
    | split
    | dsimp only

theorem execSurfRecord_keeps {addr data poison s t0} (e0 : execSurfRecord addr data poison s = .next t0) : Keeps 0x2000000000000000000000000000000000000000000000000000000000000000000000000000400000000000001800000000000000000000001000000000003e80014002 s t0 := by
  rw [← Host.Outcome.next.inj e0]
  try dsimp only
  repeat' first
    | with_reducible exact .refl _ _
    | with_reducible assumption
    | with_reducible refine .ite _ ?_ ?_
    | with_reducible refine State.mirrorStore_keeps ?_
    | with_reducible refine State.descShown_keeps ?_
    | split
    | dsimp only

theorem State.refBlock_keeps {m0 s0 s a sectors l poison} (h0 : Keeps m0 s0 s) (hw0 : within 0x2000000000000000000000000000000000000000000000000000000000000000000000000000400000000000001800000000000000000000001000000000007e80010002 m0 = true := by decide) :
    Keeps m0 s0 (State.refBlock s a sectors l poison) := by
  refine h0.app hw0 ?_
  unfold State.refBlock
  try dsimp only
  repeat' first
    | with_reducible exact .refl _ _
    | with_reducible assumption
    | with_reducible refine .ite _ ?_ ?_
    | with_reducible refine State.mirrorStore_keeps ?_
    | with_reducible refine State.putRun_keeps ?_
    | split
    | dsimp only

theorem execRefRecord_keeps {_n _pic addr blocks poison s t0} (e0 : execRefRecord _n _pic addr blocks poison s = .next t0) : Keeps 0x2000000000000000000000000000000000000000000000000000000000000000000000000000400000000000001800000000000000000000001000000000007e80010002 s t0 := by
  rw [← Host.Outcome.next.inj e0]
  try dsimp only
  repeat' first
    | with_reducible exact .refl _ _
    | with_reducible assumption
    | with_reducible refine .ite _ ?_ ?_
    | with_reducible refine State.refBlock_keeps ?_
    | with_reducible refine .foldl _ _ ?_ (fun _ _ _ => ?_)
    | split
    | dsimp only

theorem State.putHeldRow_keeps {m0 s0 s x} (h0 : Keeps m0 s0 s) (hw0 : within 0x4000 m0 = true := by decide) :
    Keeps m0 s0 (State.putHeldRow s x) := by
  refine h0.app hw0 ?_
  unfold State.putHeldRow
  try dsimp only
  repeat' first
    | with_reducible exact .refl _ _
    | with_reducible assumption
    | with_reducible refine .ite _ ?_ ?_
    | fail_if_no_progress with_reducible refine Keeps.mk' ?_
    | split
    | dsimp only

theorem execSliceRecord_keeps {n pic row sp bytes s t0} (e0 : execSliceRecord n pic row sp bytes s = .next t0) : Keeps 0x4000 s t0 := by
  rw [← Host.Outcome.next.inj e0]
  try dsimp only
  repeat' first
    | with_reducible exact .refl _ _
    | with_reducible assumption
    | with_reducible refine .ite _ ?_ ?_
    | with_reducible refine State.putHeldRow_keeps ?_
    | fail_if_no_progress with_reducible refine Keeps.mk' ?_
    | split
    | dsimp only

theorem State.tryReady_keeps {m0 s0 s} (h0 : Keeps m0 s0 s) (hw0 : within 0x10000000000000000000000000000000000000000000000000000000000000000000000000000000000000000000000000000000000000000000000000000000000000000400000000000000000000000000000000000001000000000000680004002 m0 = true := by decide) :
    Keeps m0 s0 (State.tryReady s) := by
  refine h0.app hw0 ?_
  unfold State.tryReady
  try dsimp only
  repeat' first
    | with_reducible exact .refl _ _
    | with_reducible assumption
    | with_reducible refine .ite _ ?_ ?_
    | with_reducible refine State.toTrp_keeps ?_
    | split
    | dsimp only

theorem execRowEndRecord_keeps {n pic row seq _count s t0} (e0 : execRowEndRecord n pic row seq _count s = .next t0) : Keeps 0x400010000000000000000000000000000000000000000000000000000000000000000000000000000000000000000000000000000000000000000000000000000000000000000400000000000000000000000000000000000001000000000000680005802 s t0 := by
  rw [← Host.Outcome.next.inj e0]
  try dsimp only
  repeat' first
    | with_reducible exact .refl _ _
    | with_reducible assumption
    | with_reducible refine .ite _ ?_ ?_
    | with_reducible refine State.putHeldRow_keeps ?_
    | with_reducible refine State.sendAck_keeps ?_
    | with_reducible refine State.tryReady_keeps ?_
    | fail_if_no_progress with_reducible refine Keeps.mk' ?_
    | split
    | dsimp only

theorem execSyncStartRecord_keeps {s t0} (e0 : execSyncStartRecord s = .next t0) : Keeps 0xffffffffffffffffffffffffffffffffffffffffffffffffffffffffffffffffffffffffffffffffffffffffffffffffffffffffffffffffffffffffffffffffffffffffffffffffffffffffffffffffffffffffffffffffffffffffffffffffffffffffffffffffffffffffffffffffffffffffffffffffffffffffffffffff0000000680004002 s t0 := by
  rw [← Host.Outcome.next.inj e0]
  try dsimp only
  repeat' first
    | with_reducible exact .refl _ _
    | with_reducible assumption
    | with_reducible refine .ite _ ?_ ?_
    | with_reducible refine State.toTrp_keeps ?_
    | fail_if_no_progress with_reducible refine Keeps.mkRegs ?_ (fun h => by repeat' first | exact h | refine Table.rising_foldl_put _ _ _ _ ?_ | refine Table.rising_filter _ _ ?_) (by decide)
    | fail_if_no_progress with_reducible refine Keeps.mk' ?_
    | split
    | dsimp only

theorem State.syncEnd_keeps {m0 s0 s} (h0 : Keeps m0 s0 s) (hw0 : within 0xffffffffffffffffffffffffffffffffffffffffffffffffffffffffffffffffffffffffffffffffffffffffffffffffffffffffffffffffffffffffffffffffffffffffffffffffffffffffffffffffffffffffffffffffffffffffffffffffffffffffffffffffffffffffffffffffffffffffffffffffffffffffffffffff0000001680004052 m0 = true := by decide) :
    Keeps m0 s0 (State.syncEnd s) := by
  refine h0.app hw0 ?_
  unfold State.syncEnd
  try dsimp only
  repeat' first
    | with_reducible exact .refl _ _
    | with_reducible assumption
    | with_reducible refine State.rxFollow_keeps ?_
    | with_reducible refine State.tryReady_keeps ?_
    | with_reducible refine .foldl _ _ ?_ (fun _ _ _ => ?_)
    | fail_if_no_progress with_reducible refine Keeps.mkRegs ?_ (fun h => by repeat' first | exact h | refine Table.rising_foldl_put _ _ _ _ ?_ | refine Table.rising_filter _ _ ?_) (by decide)
    | fail_if_no_progress with_reducible refine Keeps.mk' ?_
    | split
    | dsimp only

theorem execSyncEndRecord_keeps {s t0} (e0 : execSyncEndRecord s = .next t0) : Keeps 0xffffffffffffffffffffffffffffffffffffffffffffffffffffffffffffffffffffffffffffffffffffffffffffffffffffffffffffffffffffffffffffffffffffffffffffffffffffffffffffffffffffffffffffffffffffffffffffffffffffffffffffffffffffffffffffffffffffffffffffffffffffffffffffffff0000001680004052 s t0 := by
  rw [← Host.Outcome.next.inj e0]
  try dsimp only
  repeat' first
    | with_reducible exact .refl _ _
    | with_reducible assumption
    | with_reducible refine .ite _ ?_ ?_
    | with_reducible refine State.syncEnd_keeps ?_
    | split
    | dsimp only

theorem execCkptRecord_keeps {n pic c s t0} (e0 : execCkptRecord n pic c s = .next t0) : Keeps 0x4000 s t0 := by
  rw [← Host.Outcome.next.inj e0]
  try dsimp only
  repeat' first
    | with_reducible exact .refl _ _
    | with_reducible assumption
    | with_reducible refine .ite _ ?_ ?_
    | with_reducible refine State.descShown_keeps ?_
    | with_reducible refine .foldl _ _ ?_ (fun _ _ _ => ?_)
    | fail_if_no_progress with_reducible refine Keeps.mk' ?_
    | split
    | dsimp only

theorem State.strayRecord_keeps {m0 s0 s} (h0 : Keeps m0 s0 s) (hw0 : within 0x8000000000000000000000000000000000000000000000000000000000000000000000000000000000000000000000000000000000000000000000000000000000000000000400000000000000000000000000000000000001000000000001680000002 m0 = true := by decide) :
    Keeps m0 s0 (State.strayRecord s) := by
  refine h0.app hw0 ?_
  unfold State.strayRecord
  try dsimp only
  repeat' first
    | with_reducible exact .refl _ _
    | with_reducible assumption
    | with_reducible refine State.raiseLimited_keeps ?_
    | with_reducible refine State.bump_keeps (by first | assumption | (dsimp only [bank, Reg.TRP_MALFORMED_CNT]; decide)) ?_
    | split
    | dsimp only

theorem execRingRecord_keeps {r cons opcode d s t0} (e0 : execRingRecord r cons opcode d s = .next t0) : Keeps 0x8000000000000000000000000000000000000000000000000000000000000000000000000000000000000000000000000000000000000000000000000000000000000000000400000000000000000000000000000000000001000000000001680004002 s t0 := by
  rw [← Host.Outcome.next.inj e0]
  try dsimp only
  repeat' first
    | with_reducible exact .refl _ _
    | with_reducible assumption
    | with_reducible refine .ite _ ?_ ?_
    | with_reducible refine State.strayRecord_keeps ?_
    | fail_if_no_progress with_reducible refine Keeps.mk' ?_
    | split
    | dsimp only

theorem execSafPkgRecord_keeps {n data s t0} (e0 : execSafPkgRecord n data s = .next t0) : Keeps 0x800000000000000000000000000000000000000000000000000000000000fbf0000000000000000000000000000000000000000000000000000000000000000000000000000400000000000000000000000000000000000001000000000003680014302 s t0 := by
  rw [← Host.Outcome.next.inj e0]
  try dsimp only
  repeat' first
    | with_reducible exact .refl _ _
    | with_reducible assumption
    | with_reducible refine .ite _ ?_ ?_
    | with_reducible refine State.strayRecord_keeps ?_
    | with_reducible refine State.pkgHold_keeps ?_
    | with_reducible refine State.descShown_keeps ?_
    | with_reducible refine State.set_keeps (by first | assumption | (dsimp only [bank, Reg.SAF_SLOT_REFUSED_CNT, Reg.SAF_SLOT_STATE_LAST_STATUS]; decide)) ?_
    | with_reducible refine State.bump_keeps (by first | assumption | (dsimp only [bank, Reg.SAF_SLOT_REFUSED_CNT, Reg.SAF_SLOT_STATE_LAST_STATUS]; decide)) ?_
    | split
    | dsimp only

theorem State.compareLine_keeps {m0 s0 s n same} (h0 : Keeps m0 s0 s) (hw0 : within 0xf0f0600000000000000000000000000000000000000000000000000000000000000000000000000400000000000000000000000000000000000001000000000000680005902 m0 = true := by decide) :
    Keeps m0 s0 (State.compareLine s n same) := by
  refine h0.app hw0 ?_
  unfold State.compareLine
  try dsimp only
  repeat' first
    | with_reducible exact .refl _ _
    | with_reducible assumption
    | with_reducible refine .ite _ ?_ ?_
    | with_reducible refine State.setSaf_keeps ?_
    | with_reducible refine State.setDiverged_keeps ?_
    | with_reducible refine State.sendPeer_keeps ?_
    | with_reducible refine State.touch_keeps ?_
    | with_reducible refine State.bump_keeps (by first | assumption | (dsimp only [bank, Reg.SAF_CMP_DIVERGED, Reg.SAF_MISMATCH_CNT]; decide)) ?_
    | fail_if_no_progress with_reducible refine Keeps.mk' ?_
    | split
    | dsimp only

theorem State.noteLines_keeps {m0 s0 s n pic row} (h0 : Keeps m0 s0 s) (hw0 : within 0x4000 m0 = true := by decide) :
    Keeps m0 s0 (State.noteLines s n pic row) := by
  refine h0.app hw0 ?_
  unfold State.noteLines
  try dsimp only
  repeat' first
    | with_reducible exact .refl _ _
    | with_reducible assumption
    | fail_if_no_progress with_reducible refine Keeps.mk' ?_
    | split
    | dsimp only

theorem State.safLines_keeps {m0 s0 s n x} (h0 : Keeps m0 s0 s) (hw0 : within 0xf0f1600000000000000000000000000000000000000000000000000000000000000000000000000400000000000000000000000000000000000001000000000000680005d02 m0 = true := by decide) :
    Keeps m0 s0 (State.safLines s n x) := by
  refine h0.app hw0 ?_
  unfold State.safLines
  try dsimp only
  repeat' first
    | with_reducible exact .refl _ _
    | with_reducible assumption
    | with_reducible refine .ite _ ?_ ?_
    | with_reducible refine State.safLatch_keeps ?_
    | with_reducible refine State.compareLine_keeps ?_
    | with_reducible refine State.noteLines_keeps ?_
    | with_reducible refine State.count_keeps (by first | assumption | (dsimp only [bank, Reg.SAF_SKEW_CNT]; decide)) ?_
    | with_reducible refine .foldl _ _ ?_ (fun _ _ _ => ?_)
    | fail_if_no_progress with_reducible refine Keeps.mk' ?_
    | split
    | dsimp only

theorem execSafLineRecord_keeps {n x s t0} (e0 : execSafLineRecord n x s = .next t0) : Keeps 0x800000000000000000000000000000000000000000000000000000000000f0f1600000000000000000000000000000000000000000000000000000000000000000000000000400000000000000000000000000000000000001000000000001680005d02 s t0 := by
  rw [← Host.Outcome.next.inj e0]
  try dsimp only
  repeat' first
    | with_reducible exact .refl _ _
    | with_reducible assumption
    | with_reducible refine .ite _ ?_ ?_
    | with_reducible refine State.strayRecord_keeps ?_
    | with_reducible refine State.safLines_keeps ?_
    | split
    | dsimp only

theorem execSafLineMissingTimeout_keeps {n pic row s t0} (e0 : execSafLineMissingTimeout n pic row s = .next t0) : Keeps 0x800000000000000000000000000000000000000000000000000000000000000000000000000000000000000000000000000000000000000000000000000000000004002 s t0 := by
  rw [← Host.Outcome.next.inj e0]
  try dsimp only
  repeat' first
    | with_reducible exact .refl _ _
    | with_reducible assumption
    | with_reducible refine .ite _ ?_ ?_
    | with_reducible refine State.noteLines_keeps ?_
    | with_reducible refine State.count_keeps (by first | assumption | (dsimp only [bank, Reg.SAF_CMP_AVAILABLE, Reg.SAF_MISSING_CNT]; decide)) ?_
    | split
    | dsimp only

end Sys2Proof.Machine
end

