-- ==== Sys2Proof/Laws/KeepsTakeOver.lean ====
section
/-! SUPPORT. What each operation of Machine/TakeOver.lean may change (Laws/Keeps.lean). -/

namespace Sys2Proof.Machine

set_option Elab.async false
set_option linter.unusedTactic false
set_option linter.unusedSimpArgs false
set_option linter.unreachableTactic false

theorem State.takeStart_keeps {m0 s0 s t syncing} (h0 : Keeps m0 s0 s) (hw0 : within 0x1800110000000000000000000000000000000000000000000000000000000000000000000000000000000000000000000000000000000000000000000000000000000000000000400000000000001800000000000002800140001000000000001e81904002 m0 = true := by decide) :
    Keeps m0 s0 (State.takeStart s t syncing) := by
  refine h0.app hw0 ?_
  unfold State.takeStart
  try dsimp only [State.setAll]
  repeat' first
    | with_reducible exact .refl _ _
    | with_reducible assumption
    | with_reducible refine .ite _ ?_ ?_
    | with_reducible refine State.refuseAsked_keeps ?_
    | with_reducible refine State.setPds_keeps ?_
    | with_reducible refine State.toTrp_keeps ?_
    | with_reducible refine State.raise_keeps ?_
    | with_reducible refine State.set_keeps (by first | assumption | (dsimp only [bank, Reg.PWR_MODE_STATUS_PHASE, Reg.TRP_STATUS_LAST_STATUS, Reg.TRP_TAKE_NS, Reg.TRP_TAKE_SEC]; decide)) ?_
    | fail_if_no_progress with_reducible refine Keeps.mk' ?_
    | split
    | dsimp only

theorem State.takeRefused_keeps {m0 s0 s t c} (h0 : Keeps m0 s0 s) (hw0 : within 0x100000000000000000000000000000000000000000000000000000000000000000000000000000000000000000000000000000000000000000000000000000000000000000400000000000001800000000000000000000001000000000001e80000002 m0 = true := by decide) :
    Keeps m0 s0 (State.takeRefused s t c) := by
  refine h0.app hw0 ?_
  unfold State.takeRefused
  try dsimp only
  repeat' first
    | with_reducible exact .refl _ _
    | with_reducible assumption
    | with_reducible refine State.logUnit_keeps ?_
    | with_reducible refine State.completeAll_keeps ?_
    | with_reducible refine State.set_keeps (by first | assumption | (dsimp only [bank, Reg.TRP_STATUS_LAST_STATUS]; decide)) ?_
    | split
    | dsimp only

theorem State.takeOrder_keeps {m0 s0 s t} (h0 : Keeps m0 s0 s) (hw0 : within 0x1800110000000000000000000000000000000000000000000000000000000000000000000000000000000000000000000000000000000000000000000000000000000000000000400000000000001800000000000002800140001000000000001e81904002 m0 = true := by decide) :
    Keeps m0 s0 (State.takeOrder s t) := by
  refine h0.app hw0 ?_
  unfold State.takeOrder
  try dsimp only
  repeat' first
    | with_reducible exact .refl _ _
    | with_reducible assumption
    | with_reducible refine .ite _ ?_ ?_
    | with_reducible refine State.takeRefused_keeps ?_
    | with_reducible refine State.takeStart_keeps ?_
    | with_reducible refine State.logUnit_keeps ?_
    | fail_if_no_progress with_reducible refine Keeps.mk' ?_
    | split
    | dsimp only

theorem execTrpTakeN_keeps {s t0} (e0 : execTrpTakeN s = .next t0) : Keeps 0x1800110000000000000000000000000000000000000000000000000000000000000000000000000000000000000000000000000000000000000000000000000000000000000000400000000000001800000000000002800140001000000000001e81904002 s t0 := by
  rw [← Host.Outcome.next.inj e0]
  try dsimp only
  repeat' first
    | with_reducible exact .refl _ _
    | with_reducible assumption
    | with_reducible refine .ite _ ?_ ?_
    | with_reducible refine State.takeOrder_keeps ?_
    | split
    | dsimp only

theorem actTakeover_keeps {m0 s0 _d t s} (h0 : Keeps m0 s0 s) (hw0 : within 0x1800110000000000000000000000000000000000000000000000000000000000000000000000000000000000000000000000000000000000000000000000000000000000000000400000000000001800000000000002800140001000000000001e81904002 m0 = true := by decide) :
    Keeps m0 s0 (actTakeover _d t s) := by
  refine h0.app hw0 ?_
  unfold actTakeover
  try dsimp only
  repeat' first
    | with_reducible exact .refl _ _
    | with_reducible assumption
    | with_reducible refine .ite _ ?_ ?_
    | with_reducible refine State.takeOrder_keeps ?_
    | with_reducible refine State.takeRefused_keeps ?_
    | split
    | dsimp only

theorem execTrpTakeover_keeps {d s t0} (e0 : execTrpTakeover d s = .next t0) : Keeps 0x1800110000000000000000000000000000000000000000000000000000000000000000000000000000000000000000000000000000000000000000000000000000000000000000400000000000001800000000000002800140001a00000000001e8190400a s t0 := by
  rw [← Host.Outcome.next.inj e0]
  try dsimp only
  repeat' first
    | with_reducible exact .refl _ _
    | with_reducible assumption
    | with_reducible refine actTakeover_keeps ?_
    | with_reducible refine State.runDesc_keeps (fun _ _ _ => ?_) ?_
    | split
    | dsimp only

theorem State.installHeld_keeps {m0 s0 s} (h0 : Keeps m0 s0 s) (hw0 : within 0xffffffffffffffffffffffffffffffffffffffffffffffffffffffffffffffffffffffffffffffffffffffffffffffffffffffffffffffffffffffffffffffffffffffffffffffffffffffffffffffffffffffffffffffffffffffffffffffffffffffffffffffffffffffffffffffffffffffffffffffffffffffffffffffff0000000680000018 m0 = true := by decide) :
    Keeps m0 s0 (State.installHeld s) := by
  refine h0.app hw0 ?_
  unfold State.installHeld
  try dsimp only
  repeat' first
    | with_reducible exact .refl _ _
    | with_reducible assumption
    | with_reducible refine .ite _ ?_ ?_
    | with_reducible refine State.domainEnable_keeps ?_
    | with_reducible refine State.domainDisable_keeps ?_
    | with_reducible refine State.set_keeps (by first | assumption | (dsimp only [bank, Reg.TIM_DOM_ENABLE]; decide)) ?_
    | with_reducible refine .foldl _ _ ?_ (fun _ _ _ => ?_)
    | fail_if_no_progress with_reducible refine Keeps.mkRegs ?_ (fun h => by repeat' first | exact h | refine Table.rising_foldl_put _ _ _ _ ?_ | refine Table.rising_filter _ _ ?_) (by decide)
    | fail_if_no_progress with_reducible refine Keeps.mk' ?_
    | split
    | dsimp only

theorem State.takePic_keeps {m0 s0 s n p0 since} (h0 : Keeps m0 s0 s) (hw0 : within 0x10200000000000000000000000000000000000000000000000000000fec0a60000000000000000000000000000000400000000040000000000000000000000000000000000000100000000000168000403a m0 = true := by decide) :
    Keeps m0 s0 (State.takePic s n p0 since) := by
  refine h0.app hw0 ?_
  unfold State.takePic
  try dsimp only
  repeat' first
    | with_reducible exact .refl _ _
    | with_reducible assumption
    | with_reducible refine .ite _ ?_ ?_
    | with_reducible refine State.updSlot_keeps ?_
    | with_reducible refine State.sendHead_keeps ?_
    | with_reducible refine State.raise_keeps ?_
    | with_reducible refine State.bump_keeps (by first | assumption | (dsimp only [bank, Reg.RC_BS_SPOIL_PIC_CNT, Reg.RC_BS_SPOIL_ROW_CNT]; decide)) ?_
    | with_reducible refine State.count_keeps (by first | assumption | (dsimp only [bank, Reg.RC_BS_SPOIL_PIC_CNT, Reg.RC_BS_SPOIL_ROW_CNT]; decide)) ?_
    | fail_if_no_progress with_reducible refine Keeps.mk' ?_
    | split
    | dsimp only

theorem State.takePics_keeps {m0 s0 s n a upto} (h0 : Keeps m0 s0 s) (hw0 : within 0x10300000000000000000000000000000000000000000000000000000fec0a60000000000000000000000000000000400000000040000000000000000000000000000000000000100000000000168000403a m0 = true := by decide) :
    Keeps m0 s0 (State.takePics s n a upto) := by
  refine h0.app hw0 ?_
  unfold State.takePics
  try dsimp only
  repeat' first
    | with_reducible exact .refl _ _
    | with_reducible assumption
    | with_reducible refine .ite _ ?_ ?_
    | with_reducible refine State.updSlot_keeps ?_
    | with_reducible refine State.takePic_keeps ?_
    | with_reducible refine State.set_keeps (by first | assumption | (dsimp only [bank, Reg.RC_BS_FULLNESS]; decide)) ?_
    | with_reducible refine .foldl _ _ ?_ (fun _ _ _ => ?_)
    | fail_if_no_progress with_reducible refine Keeps.mk' ?_
    | split
    | dsimp only

theorem State.resumeEncode_keeps {m0 s0 s n} (h0 : Keeps m0 s0 s) (hw0 : within 0x187000000001c0000000508000000000000000000000000000000000fec0a600000000000000000000000000000004000000000400000000000001800000000000000000000001200000000005e8100403a m0 = true := by decide) :
    Keeps m0 s0 (State.resumeEncode s n) := by
  refine h0.app hw0 ?_
  unfold State.resumeEncode
  try dsimp only [State.setAll]
  repeat' first
    | with_reducible exact .refl _ _
    | with_reducible assumption
    | with_reducible refine State.flushRows_keeps ?_
    | with_reducible refine State.setSlot_keeps ?_
    | with_reducible refine State.takePics_keeps ?_
    | with_reducible refine State.updSlot_keeps ?_
    | with_reducible refine State.queueComposition_keeps ?_
    | with_reducible refine State.set_keeps (by first | assumption | (dsimp only [bank, Reg.ENC_BS_FIRST_PIC, Reg.ENC_BS_FIRST_SWEEP, Reg.ENC_BS_PIC_CNT, Reg.ENC_BS_RUN_STATE, Reg.ENC_BS_SWEEP_CNT, Reg.ENC_BS_SWEEP_LEN]; decide)) ?_
    | fail_if_no_progress with_reducible refine Keeps.mk' ?_
    | split
    | dsimp only

theorem State.takeDecRow_keeps {m0 s0 s n id k} (h0 : Keeps m0 s0 s) (hw0 : within 0x6c00000000000000000000000000000000000000000000000000000000000000000000000000000000000000000000000000000000000400000000000000000000000000000000000001000000000000681004022 m0 = true := by decide) :
    Keeps m0 s0 (State.takeDecRow s n id k) := by
  refine h0.app hw0 ?_
  unfold State.takeDecRow
  try dsimp only
  repeat' first
    | with_reducible exact .refl _ _
    | with_reducible assumption
    | with_reducible refine .ite _ ?_ ?_
    | with_reducible refine State.setDecPic_keeps ?_
    | with_reducible refine State.rowDeadline_keeps ?_
    | with_reducible refine .foldl _ _ ?_ (fun _ _ _ => ?_)
    | fail_if_no_progress with_reducible refine Keeps.mk' ?_
    | split
    | dsimp only

theorem State.takeMarks_keeps {m0 s0 s n pic r} (h0 : Keeps m0 s0 s) (hw0 : within 0x700000000000000000000000000000000000000000000000000000000000000000000000000000000000000000000000000000000000000000000000000000000000000000000000000000000000000000000020 m0 = true := by decide) :
    Keeps m0 s0 (State.takeMarks s n pic r) := by
  refine h0.app hw0 ?_
  unfold State.takeMarks
  try dsimp only [State.setAll]
  repeat' first
    | with_reducible exact .refl _ _
    | with_reducible assumption
    | with_reducible refine State.updDec_keeps ?_
    | with_reducible refine State.showMarks_keeps ?_
    | with_reducible refine State.set_keeps (by first | assumption | (dsimp only [bank, Reg.DEC_BS_JOINED, Reg.DEC_BS_STREAM_UP]; decide)) ?_
    | with_reducible refine .foldl _ _ ?_ (fun _ _ _ => ?_)
    | fail_if_no_progress with_reducible refine Keeps.mk' ?_
    | split
    | dsimp only

theorem State.resumeDecode_keeps {m0 s0 s n} (h0 : Keeps m0 s0 s) (hw0 : within 0x6f0000000000000000000000001000000000000000000000000000000000000000000000000000000000000000000000000000000000040000000000000000000000000000000000000100000000000068100402a m0 = true := by decide) :
    Keeps m0 s0 (State.resumeDecode s n) := by
  refine h0.app hw0 ?_
  unfold State.resumeDecode
  try dsimp only [State.setAll]
  repeat' first
    | with_reducible exact .refl _ _
    | with_reducible assumption
    | with_reducible refine .ite _ ?_ ?_
    | with_reducible refine State.takeMarks_keeps ?_
    | with_reducible refine State.retirePic_keeps ?_
    | with_reducible refine State.takeDecRow_keeps ?_
    | with_reducible refine State.enqueuePic_keeps ?_
    | with_reducible refine State.expectNext_keeps ?_
    | with_reducible refine State.queueShow_keeps ?_
    | with_reducible refine State.set_keeps (by first | assumption | (dsimp only [bank, Reg.DEC_BS_JOINED, Reg.DEC_BS_STREAM_UP, Reg.ENC_BS_RUN_STATE]; decide)) ?_
    | with_reducible refine .foldl _ _ ?_ (fun _ _ _ => ?_)
    | fail_if_no_progress with_reducible refine Keeps.mk' ?_
    | split
    | dsimp only

theorem State.resumeWords_keeps {m0 s0 s n} (h0 : Keeps m0 s0 s) (hw0 : within 0x8 m0 = true := by decide) :
    Keeps m0 s0 (State.resumeWords s n) := by
  refine h0.app hw0 ?_
  unfold State.resumeWords
  try dsimp only
  repeat' first
    | with_reducible exact .refl _ _
    | with_reducible assumption
    | with_reducible refine .ite _ ?_ ?_
    | with_reducible refine State.enqueue_keeps ?_
    | with_reducible refine .foldl _ _ ?_ (fun _ _ _ => ?_)
    | fail_if_no_progress with_reducible refine Keeps.mk' ?_
    | split
    | dsimp only

theorem State.resumeSlot_keeps {m0 s0 s syncing n} (h0 : Keeps m0 s0 s) (hw0 : within 0x6f0000187000000001fc000030508000000000000000060000000000000000fec0a6000000000000000000000000000000040000000004000000000000018000000000000020fe000001200000000005e810040ba m0 = true := by decide) :
    Keeps m0 s0 (State.resumeSlot s syncing n) := by
  refine h0.app hw0 ?_
  unfold State.resumeSlot
  try dsimp only
  repeat' first
    | with_reducible exact .refl _ _
    | with_reducible assumption
    | with_reducible refine .ite _ ?_ ?_
    | with_reducible refine State.slotStart_keeps ?_
    | with_reducible refine State.slotStart_keepsP (by assumption) ?_
    | with_reducible refine State.raise_keeps ?_
    | with_reducible refine State.allocate_keeps ?_
    | with_reducible refine State.resumeEncode_keeps ?_
    | with_reducible refine State.resumeDecode_keeps ?_
    | with_reducible refine State.resumeWords_keeps ?_
    | with_reducible refine State.set_keeps (by first | assumption | (dsimp only [bank, Reg.ENC_BS_RUN_FREERUN_OK, Reg.ENC_BS_RUN_STATE]; decide)) ?_
    | fail_if_no_progress with_reducible refine Keeps.mk' ?_
    | split
    | dsimp only

theorem State.resumePorts_keeps {m0 s0 s ports} (h0 : Keeps m0 s0 s) (hw0 : within 0x2000000000000000000000000000000000000000000000000000000000000000000000000c0002020000000000000000000000000000000000000000000000000000000000000000000000000000000000000000000000018 m0 = true := by decide) :
    Keeps m0 s0 (State.resumePorts s ports) := by
  refine h0.app hw0 ?_
  unfold State.resumePorts
  try dsimp only
  repeat' first
    | with_reducible exact .refl _ _
    | with_reducible assumption
    | with_reducible refine State.startMem_keeps ?_
    | with_reducible refine State.carCommit_keeps ?_
    | with_reducible refine State.set_keeps (by repeat' first | assumption | (dsimp only [bank, Reg.SCN_LANE_ENABLE, Reg.SCN_LANE_STATUS_STATE]; decide) | (unfold bank) | split) ?_
    | with_reducible refine .foldl _ _ ?_ (fun _ _ _ => ?_)
    | split
    | dsimp only

theorem State.readyInstant_keeps {m0 s0 s} (h0 : Keeps m0 s0 s) (hw0 : within 0xffffffffffffffffffffffffffffffffffffffffffffffffffffffffffffffffffffffffffffffffffffffffffffffffffffffffffffffffffffffffffffffffffffffffffffffffffffffffffffffffffffffffffffffffffffffffffffffffffffffffffffffffffffffffffffffffffffffffffffffffffffffffffffffff0000007e8107e9fa m0 = true := by decide) :
    Keeps m0 s0 (State.readyInstant s) := by
  refine h0.app hw0 ?_
  unfold State.readyInstant
  try dsimp only
  repeat' first
    | with_reducible exact .refl _ _
    | with_reducible assumption
    | with_reducible refine .ite _ ?_ ?_
    | with_reducible refine State.installHeld_keeps ?_
    | with_reducible refine State.enterMode_keeps ?_
    | with_reducible refine State.showCfg_keeps ?_
    | with_reducible refine State.setPds_keeps ?_
    | with_reducible refine State.jugglerReset_keeps ?_
    | with_reducible refine State.resumeSlot_keeps ?_
    | with_reducible refine State.resumePorts_keeps ?_
    | with_reducible refine State.audioPowered_keeps ?_
    | with_reducible refine State.lanesOnFor_keeps ?_
    | with_reducible refine State.quadPds_keeps ?_
    | with_reducible refine State.touch_keeps ?_
    | with_reducible refine State.checkMinimum_keeps ?_
    | with_reducible refine State.set_keeps (by repeat' first | assumption | (dsimp only [bank, Reg.CAR_P_PENDING, Reg.ENC_BS_RUN_STATE, Reg.TRP_TAKE_US]; decide) | (unfold bank) | split) ?_
    | with_reducible refine .foldl _ _ ?_ (fun _ _ _ => ?_)
    | fail_if_no_progress with_reducible refine Keeps.mk' ?_
    | split
    | dsimp only

theorem execReadyInstant_keeps {s t0} (e0 : execReadyInstant s = .next t0) : Keeps 0xffffffffffffffffffffffffffffffffffffffffffffffffffffffffffffffffffffffffffffffffffffffffffffffffffffffffffffffffffffffffffffffffffffffffffffffffffffffffffffffffffffffffffffffffffffffffffffffffffffffffffffffffffffffffffffffffffffffffffffffffffffffffffffffff0000007e8107e9fa s t0 := by
  rw [← Host.Outcome.next.inj e0]
  try dsimp only
  repeat' first
    | with_reducible exact .refl _ _
    | with_reducible assumption
    | with_reducible refine State.readyInstant_keeps ?_
    | split
    | dsimp only

theorem State.placeRings_keeps {m0 s0 s done} (h0 : Keeps m0 s0 s) (hw0 : within 0x4080000000 m0 = true := by decide) :
    Keeps m0 s0 (State.placeRings s done) := by
  refine h0.app hw0 ?_
  unfold State.placeRings
  try dsimp only [State.draw]
  repeat' first
    | with_reducible exact .refl _ _
    | with_reducible assumption
    | with_reducible refine .ite _ ?_ ?_
    | with_reducible refine State.putRing_keeps ?_
    | with_reducible refine State.updRing_keeps ?_
    | with_reducible refine .foldl _ _ ?_ (fun _ _ _ => ?_)
    | fail_if_no_progress with_reducible refine Keeps.mk' ?_
    | split
    | dsimp only

theorem State.settle_keeps {m0 s0 done a x} (h0 : Keeps m0 s0 a.1) (hw0 : within 0x680000008 m0 = true := by decide) :
    Keeps m0 s0 (State.settle done a x).1 := by
  refine h0.app hw0 ?_
  unfold State.settle
  dsimp only
  repeat' first
    | with_reducible exact .refl _ _
        | with_reducible refine State.updRing_keeps ?_
        | with_reducible refine State.complete_keeps ?_
        | with_reducible refine State.queueTimed_keeps ?_
    | split
    | dsimp only

theorem State.settles_keeps {m0 s0 done l a} (h0 : Keeps m0 s0 a.1) (hw0 : within 0x680000008 m0 = true := by decide) :
    Keeps m0 s0 (List.foldl (State.settle done) a l).1 := by
  induction l generalizing a with
  | nil => exact h0
  | cons x l ih => exact ih (State.settle_keeps h0 hw0)

theorem State.takeoverComplete_keeps {m0 s0 s found} (h0 : Keeps m0 s0 s) (hw0 : within 0x410000000000000000000000000000000000000000000000000000000000000000000000000000000000000000000000000000000000000000000000000000000000000000040000000000000180000000000000000000100102e000000005ea000400a m0 = true := by decide) :
    Keeps m0 s0 (State.takeoverComplete s found) := by
  refine h0.app hw0 ?_
  unfold State.takeoverComplete
  split
  · exact .refl _ _
  · split
    · exact .refl _ _
    · lift_lets
      extract_lets fns s1 x2 s2 r det t x3 t1 t2
      have h1 : Keeps 0x410000000000000000000000000000000000000000000000000000000000000000000000000000000000000000000000000000000000000000000000000000000000000000040000000000000180000000000000000000100102e000000005ea000400a s s1 := .foldl _ _ (.refl _ _) (fun _ _ h => State.openFn_keeps (State.draw_keeps h))
      have h2 : Keeps 0x410000000000000000000000000000000000000000000000000000000000000000000000000000000000000000000000000000000000000000000000000000000000000000040000000000000180000000000000000000100102e000000005ea000400a s s2 := Keeps.mk' h1
      have hr : Keeps 0x410000000000000000000000000000000000000000000000000000000000000000000000000000000000000000000000000000000000000000000000000000000000000000040000000000000180000000000000000000100102e000000005ea000400a s t := State.settles_keeps (State.placeRings_keeps h2)
      have ht1 : Keeps 0x410000000000000000000000000000000000000000000000000000000000000000000000000000000000000000000000000000000000000000000000000000000000000000040000000000000180000000000000000000100102e000000005ea000400a s t1 := Keeps.mk' hr
      have ht2 : Keeps 0x410000000000000000000000000000000000000000000000000000000000000000000000000000000000000000000000000000000000000000000000000000000000000000040000000000000180000000000000000000100102e000000005ea000400a s t2 := State.bump_keeps (by (first | assumption | (dsimp only [bank, Reg.TRP_STATUS_LAST_STATUS, Reg.TRP_TAKEOVER_CNT]; decide))) (State.latchCode_keeps (State.pushEvts_keeps ht1))
      exact State.touch_keeps (State.completeAll_keeps (State.logUnit_keeps (State.set_keeps (by (first | assumption | (dsimp only [bank, Reg.TRP_STATUS_LAST_STATUS, Reg.TRP_TAKEOVER_CNT]; decide))) ht2)))

theorem execTakeoverComplete_keeps {done s t0} (e0 : execTakeoverComplete done s = .next t0) : Keeps 0x410000000000000000000000000000000000000000000000000000000000000000000000000000000000000000000000000000000000000000000000000000000000000000040000000000000180000000000000000000100102e000000005ea000400a s t0 := by
  rw [← Host.Outcome.next.inj e0]
  try dsimp only
  repeat' first
    | with_reducible exact .refl _ _
    | with_reducible assumption
    | with_reducible refine State.takeoverComplete_keeps ?_
    | split
    | dsimp only

end Sys2Proof.Machine
end

