-- ==== Sys2Proof/Laws/KeepsFirmware.lean ====
section
/-! SUPPORT. What each operation of Machine/Firmware.lean may change (Laws/Keeps.lean). -/

namespace Sys2Proof.Machine

set_option Elab.async false
set_option linter.unusedTactic false
set_option linter.unusedSimpArgs false
set_option linter.unreachableTactic false

theorem State.fwDone_keeps {m0 s0 s t c result} (h0 : Keeps m0 s0 s) (hw0 : within 0x100000000000000000000000000000000680000000 m0 = true := by decide) :
    Keeps m0 s0 (State.fwDone s t c result) := by
  refine h0.app hw0 ?_
  unfold State.fwDone
  try dsimp only
  repeat' first
    | with_reducible exact .refl _ _
    | with_reducible assumption
    | with_reducible refine State.complete_keeps ?_
    | with_reducible refine State.set_keeps (by first | assumption | (dsimp only [bank, Reg.FW_UPDATE_LAST_STATUS]; decide)) ?_
    | split
    | dsimp only

theorem State.showPending_keeps {m0 s0 s} (h0 : Keeps m0 s0 s) (hw0 : within 0x80000000000000000000000000000000000000000 m0 = true := by decide) :
    Keeps m0 s0 (State.showPending s) := by
  refine h0.app hw0 ?_
  unfold State.showPending
  try dsimp only
  repeat' first
    | with_reducible exact .refl _ _
    | with_reducible assumption
    | with_reducible refine State.set_keeps (by first | assumption | (dsimp only [bank, Reg.FW_UPDATE_PENDING]; decide)) ?_
    | split
    | dsimp only

theorem actFwStage_keeps {m0 s0 d t s} (h0 : Keeps m0 s0 s) (hw0 : within 0x400000000000001800180000000000000000001000000000001e80200002 m0 = true := by decide) :
    Keeps m0 s0 (actFwStage d t s) := by
  refine h0.app hw0 ?_
  unfold actFwStage
  try dsimp only
  repeat' first
    | with_reducible exact .refl _ _
    | with_reducible assumption
    | with_reducible refine .ite _ ?_ ?_
    | with_reducible refine State.logHash_keeps ?_
    | with_reducible refine State.fwDone_keeps ?_
    | with_reducible refine State.showPending_keeps ?_
    | fail_if_no_progress with_reducible refine Keeps.mk' ?_
    | split
    | dsimp only

theorem execFwStage_keeps {d s t0} (e0 : execFwStage d s = .next t0) : Keeps 0x400000000000001800180000000000800000001a00000000001e81a0000a s t0 := by
  rw [← Host.Outcome.next.inj e0]
  try dsimp only
  repeat' first
    | with_reducible exact .refl _ _
    | with_reducible assumption
    | with_reducible refine actFwStage_keeps ?_
    | with_reducible refine State.runDesc_keeps (fun _ _ _ => ?_) ?_
    | split
    | dsimp only

theorem State.fwStep_keeps {m0 s0 s step} (h0 : Keeps m0 s0 s) (hw0 : within 0x400000000000001800040000000000000000001000000000001e80000002 m0 = true := by decide) :
    Keeps m0 s0 (State.fwStep s step) := by
  refine h0.app hw0 ?_
  unfold State.fwStep
  try dsimp only
  repeat' first
    | with_reducible exact .refl _ _
    | with_reducible assumption
    | with_reducible refine State.logUnit_keeps ?_
    | with_reducible refine State.set_keeps (by first | assumption | (dsimp only [bank, Reg.FW_UPDATE_STEP]; decide)) ?_
    | split
    | dsimp only

theorem State.imageInForce_keeps {m0 s0 s k x} (h0 : Keeps m0 s0 s) (hw0 : within 0x400000000000001980008000000000000000001000000000001e80200002 m0 = true := by decide) :
    Keeps m0 s0 (State.imageInForce s k x) := by
  refine h0.app hw0 ?_
  unfold State.imageInForce
  try dsimp only
  repeat' first
    | with_reducible exact .refl _ _
    | with_reducible assumption
    | with_reducible refine State.showSet_keeps ?_
    | with_reducible refine State.raise_keeps ?_
    | with_reducible refine State.logUnit_keeps ?_
    | fail_if_no_progress with_reducible refine Keeps.mk' ?_
    | split
    | dsimp only

theorem State.moveRole_keeps {m0 s0 s e f} (h0 : Keeps m0 s0 s) (hw0 : within 0x800000000000000000000000000000000000000000000000000000000000000000000000000000000000000000000000000000000000000000000000000000000000000000000000020000 m0 = true := by decide) :
    Keeps m0 s0 (State.moveRole s e f) := by
  refine h0.app hw0 ?_
  unfold State.moveRole
  try dsimp only
  repeat' first
    | with_reducible exact .refl _ _
    | with_reducible assumption
    | with_reducible refine .ite _ ?_ ?_
    | with_reducible refine State.set_keeps (by first | assumption | (dsimp only [bank, Reg.ENC_BS_ENGMASK_ENGINE]; decide)) ?_
    | with_reducible refine .foldl _ _ ?_ (fun _ _ _ => ?_)
    | fail_if_no_progress with_reducible refine Keeps.mk' ?_
    | split
    | dsimp only

theorem State.beginGroup_keeps {m0 s0 s g} (h0 : Keeps m0 s0 s) (hw0 : within 0x800000000000002000000000000000000000000000000000000000000000000000000000000000000000036600400000000000001800040000000002000000001000000000007e90030002 m0 = true := by decide) :
    Keeps m0 s0 (State.beginGroup s g) := by
  refine h0.app hw0 ?_
  unfold State.beginGroup
  try dsimp only
  repeat' first
    | with_reducible exact .refl _ _
    | with_reducible assumption
    | with_reducible refine State.moveRole_keeps ?_
    | with_reducible refine State.setPds_keeps ?_
    | with_reducible refine State.setDrain_keeps ?_
    | with_reducible refine State.fwStep_keeps ?_
    | with_reducible refine .foldl _ _ ?_ (fun _ _ _ => ?_)
    | fail_if_no_progress with_reducible refine Keeps.mk' ?_
    | split
    | dsimp only

theorem State.trimEngines_keeps {m0 s0 s} (h0 : Keeps m0 s0 s) (hw0 : within 0x2000000000000000000000000000000 m0 = true := by decide) :
    Keeps m0 s0 (State.trimEngines s) := by
  refine h0.app hw0 ?_
  unfold State.trimEngines
  try dsimp only
  repeat' first
    | with_reducible exact .refl _ _
    | with_reducible assumption
    | with_reducible refine State.setPds_keeps ?_
    | split
    | dsimp only

theorem State.updateEnd_keeps {m0 s0 s u} (h0 : Keeps m0 s0 s) (hw0 : within 0x400000000000001980178000000000000000001000000000001e90200002 m0 = true := by decide) :
    Keeps m0 s0 (State.updateEnd s u) := by
  refine h0.app hw0 ?_
  unfold State.updateEnd
  try dsimp only [State.setAll]
  repeat' first
    | with_reducible exact .refl _ _
    | with_reducible assumption
    | with_reducible refine State.imageInForce_keeps ?_
    | with_reducible refine State.fwDone_keeps ?_
    | with_reducible refine State.set_keeps (by first | assumption | (dsimp only [bank, Reg.FW_UPDATE_ACTIVE, Reg.FW_UPDATE_STEP, Reg.FW_UPDATE_TYPE]; decide)) ?_
    | fail_if_no_progress with_reducible refine Keeps.mk' ?_
    | split
    | dsimp only

theorem State.nextReload_keeps {m0 s0 s u l} (h0 : Keeps m0 s0 s) (hw0 : within 0x400000000000001980178000000000000000001000000000001e90200002 m0 = true := by decide) :
    Keeps m0 s0 (State.nextReload s u l) := by
  refine h0.app hw0 ?_
  unfold State.nextReload
  try dsimp only
  repeat' first
    | with_reducible exact .refl _ _
    | with_reducible assumption
    | with_reducible refine State.updateEnd_keeps ?_
    | with_reducible refine State.fwStep_keeps ?_
    | fail_if_no_progress with_reducible refine Keeps.mk' ?_
    | split
    | dsimp only

theorem State.nextGroup_keeps {m0 s0 s x l} (h0 : Keeps m0 s0 s) (hw0 : within 0x800000000000002000000000000000000000000000000000000000000000000000000000000000000000036600400000000000001980178000000002000000001000000000007e90230002 m0 = true := by decide) :
    Keeps m0 s0 (State.nextGroup s x l) := by
  refine h0.app hw0 ?_
  unfold State.nextGroup
  split
  · exact State.updateEnd_keeps (State.trimEngines_keeps (.refl _ _))
  · exact State.beginGroup_keeps (Keeps.mk' (.refl _ _))

theorem actFwActivate_keeps {m0 s0 d t s} (h0 : Keeps m0 s0 s) (hw0 : within 0x8000000000000020000000000000000000000000000000000000000000000000000000000000000000000366004000000000000019801f8000000002000000001000000000007e90230002 m0 = true := by decide) :
    Keeps m0 s0 (actFwActivate d t s) := by
  refine h0.app hw0 ?_
  unfold actFwActivate
  try dsimp only [State.setAll]
  repeat' first
    | with_reducible exact .refl _ _
    | with_reducible assumption
    | with_reducible refine .ite _ ?_ ?_
    | with_reducible refine State.logDesc_keeps ?_
    | with_reducible refine State.fwDone_keeps ?_
    | with_reducible refine State.showPending_keeps ?_
    | with_reducible refine State.imageInForce_keeps ?_
    | with_reducible refine State.nextGroup_keeps ?_
    | with_reducible refine State.nextReload_keeps ?_
    | with_reducible refine State.set_keeps (by first | assumption | (dsimp only [bank, Reg.FW_UPDATE_ACTIVE, Reg.FW_UPDATE_TYPE]; decide)) ?_
    | fail_if_no_progress with_reducible refine Keeps.mk' ?_
    | split
    | dsimp only

theorem execFwActivate_keeps {d s t0} (e0 : execFwActivate d s = .next t0) : Keeps 0x8000000000000020000000000000000000000000000000000000000000000000000000000000000000000366004000000000000019801f8000000002800000001a00000000007e91a3000a s t0 := by
  rw [← Host.Outcome.next.inj e0]
  try dsimp only
  repeat' first
    | with_reducible exact .refl _ _
    | with_reducible assumption
    | with_reducible refine actFwActivate_keeps ?_
    | with_reducible refine State.runDesc_keeps (fun _ _ _ => ?_) ?_
    | split
    | dsimp only

theorem State.groupDrained_keeps {m0 s0 s failed} (h0 : Keeps m0 s0 s) (hw0 : within 0xffffffffffffffffffffffffffffffffffffffffffffffffffffffffffffffffffffffffffffffffffffffffffffffffffffffffffffffffffffffffffffffffffffffffffffffffffffffffffffffffffffffffffffffffffffffffffffffffffffffffffffffffffffffffffffffffffffffffffffffffffffffffffffffff0000007e91b7e9fa m0 = true := by decide) :
    Keeps m0 s0 (State.groupDrained s failed) := by
  refine h0.app hw0 ?_
  unfold State.groupDrained
  try dsimp only
  repeat' first
    | with_reducible exact .refl _ _
    | with_reducible assumption
    | with_reducible refine .ite _ ?_ ?_
    | with_reducible refine State.fenceAll_keeps ?_
    | with_reducible refine State.setDrain_keeps ?_
    | with_reducible refine State.nextGroup_keeps ?_
    | fail_if_no_progress with_reducible refine Keeps.mk' ?_
    | split
    | dsimp only

theorem execUpdateGroupDrained_keeps {failed s t0} (e0 : execUpdateGroupDrained failed s = .next t0) : Keeps 0xffffffffffffffffffffffffffffffffffffffffffffffffffffffffffffffffffffffffffffffffffffffffffffffffffffffffffffffffffffffffffffffffffffffffffffffffffffffffffffffffffffffffffffffffffffffffffffffffffffffffffffffffffffffffffffffffffffffffffffffffffffffffffffffff0000007e91b7e9fa s t0 := by
  rw [← Host.Outcome.next.inj e0]
  try dsimp only
  repeat' first
    | with_reducible exact .refl _ _
    | with_reducible assumption
    | with_reducible refine .ite _ ?_ ?_
    | with_reducible refine State.groupDrained_keeps ?_
    | split
    | dsimp only

theorem State.reloadDone_keeps {m0 s0 s ok} (h0 : Keeps m0 s0 s) (hw0 : within 0xffffffffffffffffffffffffffffffffffffffffffffffffffffffffffffffffffffffffffffffffffffffffffffffffffffffffffffffffffffffffffffffffffffffffffffffffffffffffffffffffffffffffffffffffffffffffffffffffffffffffffffffffffffffffffffffffffffffffffffffffffffffffffffffff0000003e91b7f9fa m0 = true := by decide) :
    Keeps m0 s0 (State.reloadDone s ok) := by
  refine h0.app hw0 ?_
  unfold State.reloadDone
  try dsimp only
  repeat' first
    | with_reducible exact .refl _ _
    | with_reducible assumption
    | with_reducible refine .ite _ ?_ ?_
    | with_reducible refine State.fence_keeps ?_
    | with_reducible refine State.nextReload_keeps ?_
    | with_reducible refine State.enterCap_keeps ?_
    | with_reducible refine State.set_keeps (by first | assumption | (dsimp only [bank, Reg.PWR_MODE_STATUS_ACTIVE_PAIR]; decide)) ?_
    | fail_if_no_progress with_reducible refine Keeps.mk' ?_
    | split
    | dsimp only

theorem execEngineReloadDone_keeps {ok s t0} (e0 : execEngineReloadDone ok s = .next t0) : Keeps 0xffffffffffffffffffffffffffffffffffffffffffffffffffffffffffffffffffffffffffffffffffffffffffffffffffffffffffffffffffffffffffffffffffffffffffffffffffffffffffffffffffffffffffffffffffffffffffffffffffffffffffffffffffffffffffffffffffffffffffffffffffffffffffffffff0000003e91b7f9fa s t0 := by
  rw [← Host.Outcome.next.inj e0]
  try dsimp only
  repeat' first
    | with_reducible exact .refl _ _
    | with_reducible assumption
    | with_reducible refine .ite _ ?_ ?_
    | with_reducible refine State.reloadDone_keeps ?_
    | split
    | dsimp only

theorem actFlashWrite_keeps {m0 s0 present d t s} (h0 : Keeps m0 s0 s) (hw0 : within 0x400000000000001800100000000000000000001000000000001e80200002 m0 = true := by decide) :
    Keeps m0 s0 (actFlashWrite present d t s) := by
  refine h0.app hw0 ?_
  unfold actFlashWrite
  try dsimp only
  repeat' first
    | with_reducible exact .refl _ _
    | with_reducible assumption
    | with_reducible refine .ite _ ?_ ?_
    | with_reducible refine State.logHash_keeps ?_
    | with_reducible refine State.fwDone_keeps ?_
    | fail_if_no_progress with_reducible refine Keeps.mk' ?_
    | split
    | dsimp only

theorem execFwFlashWrite_keeps {d present s t0} (e0 : execFwFlashWrite d present s = .next t0) : Keeps 0x400000000000001800100000000000800000001a00000000001e81a0000a s t0 := by
  rw [← Host.Outcome.next.inj e0]
  try dsimp only
  repeat' first
    | with_reducible exact .refl _ _
    | with_reducible assumption
    | with_reducible refine actFlashWrite_keeps ?_
    | with_reducible refine State.runDesc_keeps (fun _ _ _ => ?_) ?_
    | split
    | dsimp only

theorem execFlashWriteDone_keeps {ok s t0} (e0 : execFlashWriteDone ok s = .next t0) : Keeps 0x400000000000001800100000000000000000001000000000001e80200002 s t0 := by
  rw [← Host.Outcome.next.inj e0]
  try dsimp only
  repeat' first
    | with_reducible exact .refl _ _
    | with_reducible assumption
    | with_reducible refine .ite _ ?_ ?_
    | with_reducible refine State.logUnit_keeps ?_
    | with_reducible refine State.fwDone_keeps ?_
    | fail_if_no_progress with_reducible refine Keeps.mk' ?_
    | split
    | dsimp only

theorem actFwFuse_keeps {m0 s0 d t s} (h0 : Keeps m0 s0 s) (hw0 : within 0x40000000000000180fd00000000000000000001000000000001e80200002 m0 = true := by decide) :
    Keeps m0 s0 (actFwFuse d t s) := by
  refine h0.app hw0 ?_
  unfold actFwFuse
  try dsimp only
  repeat' first
    | with_reducible exact .refl _ _
    | with_reducible assumption
    | with_reducible refine .ite _ ?_ ?_
    | with_reducible refine State.logDesc_keeps ?_
    | with_reducible refine State.fwDone_keeps ?_
    | with_reducible refine State.logHash_keeps ?_
    | with_reducible refine State.set_keeps (by repeat' first | assumption | (dsimp only [bank, Reg.FW_OWNER_FUSED, Reg.FW_ROLLBACK_AUDIO, Reg.FW_ROLLBACK_CONFIG, Reg.FW_ROLLBACK_LINK, Reg.FW_ROLLBACK_SLICE, Reg.FW_ROLLBACK_SUPER]; decide) | (unfold rollbackField) | split) ?_
    | fail_if_no_progress with_reducible refine Keeps.mk' ?_
    | split
    | dsimp only

theorem execFwFuse_keeps {d s t0} (e0 : execFwFuse d s = .next t0) : Keeps 0x40000000000000180fd00000000000800000001a00000000001e81a0000a s t0 := by
  rw [← Host.Outcome.next.inj e0]
  try dsimp only
  repeat' first
    | with_reducible exact .refl _ _
    | with_reducible assumption
    | with_reducible refine actFwFuse_keeps ?_
    | with_reducible refine State.runDesc_keeps (fun _ _ _ => ?_) ?_
    | split
    | dsimp only

theorem State.ledgerStore_keeps {m0 s0 s} (h0 : Keeps m0 s0 s) (hw0 : within 0x400000000000001000000000000000000000001000000000001e80000002 m0 = true := by decide) :
    Keeps m0 s0 (State.ledgerStore s) := by
  refine h0.app hw0 ?_
  unfold State.ledgerStore
  try dsimp only
  repeat' first
    | with_reducible exact .refl _ _
    | with_reducible assumption
    | with_reducible refine .ite _ ?_ ?_
    | with_reducible refine State.ledgerLost_keeps ?_
    | fail_if_no_progress with_reducible refine Keeps.mk' ?_
    | split
    | dsimp only

theorem State.ledgerSpill_keeps {m0 s0 s} (h0 : Keeps m0 s0 s) (hw0 : within 0x2800010000 m0 = true := by decide) :
    Keeps m0 s0 (State.ledgerSpill s) := by
  refine h0.app hw0 ?_
  unfold State.ledgerSpill
  try dsimp only
  repeat' first
    | with_reducible exact .refl _ _
    | with_reducible assumption
    | with_reducible refine .ite _ ?_ ?_
    | with_reducible refine State.store_keeps ?_
    | fail_if_no_progress with_reducible refine Keeps.mk' ?_
    | split
    | dsimp only

theorem State.ledgerTick_keeps {m0 s0 s} (h0 : Keeps m0 s0 s) (hw0 : within 0x400000000000001000000000000000000000001000000000003e80010002 m0 = true := by decide) :
    Keeps m0 s0 (State.ledgerTick s) := by
  refine h0.app hw0 ?_
  unfold State.ledgerTick
  try dsimp only
  repeat' first
    | with_reducible exact .refl _ _
    | with_reducible assumption
    | with_reducible refine State.ledgerStore_keeps ?_
    | with_reducible refine State.ledgerSpill_keeps ?_
    | split
    | dsimp only

theorem actLdgRead_keeps {m0 s0 d t s} (h0 : Keeps m0 s0 s) (hw0 : within 0x4680000000 m0 = true := by decide) :
    Keeps m0 s0 (actLdgRead d t s) := by
  refine h0.app hw0 ?_
  unfold actLdgRead
  try dsimp only [State.draw]
  repeat' first
    | with_reducible exact .refl _ _
    | with_reducible assumption
    | with_reducible refine State.complete_keeps ?_
    | with_reducible refine State.hostWriteEp_keeps ?_
    | fail_if_no_progress with_reducible refine Keeps.mk' ?_
    | split
    | dsimp only

theorem execLdgRead_keeps {d s t0} (e0 : execLdgRead d s = .next t0) : Keeps 0x400000000000001800000000000000800000001a00000000005e8180000a s t0 := by
  rw [← Host.Outcome.next.inj e0]
  try dsimp only
  repeat' first
    | with_reducible exact .refl _ _
    | with_reducible assumption
    | with_reducible refine actLdgRead_keeps ?_
    | with_reducible refine State.runDesc_keeps (fun _ _ _ => ?_) ?_
    | split
    | dsimp only

theorem State.ledgerRingWrite_keeps {m0 s0 s w v} (h0 : Keeps m0 s0 s) (hw0 : within 0x400000000000003e00000000000000000000001000000000001e81010002 m0 = true := by decide) :
    Keeps m0 s0 (State.ledgerRingWrite s w v) := by
  refine h0.app hw0 ?_
  unfold State.ledgerRingWrite
  try dsimp only [State.setAll]
  repeat' first
    | with_reducible exact .refl _ _
    | with_reducible assumption
    | with_reducible refine .ite _ ?_ ?_
    | with_reducible refine State.logReg_keeps ?_
    | with_reducible refine State.set_keeps (by first | assumption | (dsimp only [bank, Reg.LDG_LAST_STATUS, Reg.LDG_RING_BASE, Reg.LDG_RING_LOG2]; decide)) ?_
    | with_reducible refine State.byWriter_keeps (fun _ _ => ?_) ?_
    | fail_if_no_progress with_reducible refine Keeps.mk' ?_
    | split
    | dsimp only

theorem execLdgRingWrite_keeps {w value s t0} (e0 : execLdgRingWrite w value s = .next t0) : Keeps 0x400000000000003e00000000000000000000001000000000001e81010002 s t0 := by
  rw [← Host.Outcome.next.inj e0]
  try dsimp only
  repeat' first
    | with_reducible exact .refl _ _
    | with_reducible assumption
    | with_reducible refine State.ledgerRingWrite_keeps ?_
    | split
    | dsimp only

end Sys2Proof.Machine
end

