-- ==== Sys2Proof/Laws/KeepsThermal.lean ====
section
/-! SUPPORT. What each operation of Machine/Thermal.lean may change (Laws/Keeps.lean). -/

namespace Sys2Proof.Machine

set_option Elab.async false
set_option linter.unusedTactic false
set_option linter.unusedSimpArgs false
set_option linter.unreachableTactic false

theorem State.judgeLevels_keeps {m0 s0 s tmax} (h0 : Keeps m0 s0 s) (hw0 : within 0x90000000000000000000000000000000000000000000000000000000000000000000000000000000000000000000000000000000000000000000000000000000000000000400000000000000000000000000000000000001000000000000680404002 m0 = true := by decide) :
    Keeps m0 s0 (State.judgeLevels s tmax) := by
  refine h0.app hw0 ?_
  unfold State.judgeLevels
  try dsimp only
  repeat' first
    | with_reducible exact .refl _ _
    | with_reducible assumption
    | with_reducible refine .ite _ ?_ ?_
    | with_reducible refine State.judge_keeps ?_
    | with_reducible refine .foldl _ _ ?_ (fun _ _ _ => ?_)
    | fail_if_no_progress with_reducible refine Keeps.mk' ?_
    | split
    | dsimp only

theorem State.thermTrip_keeps {m0 s0 s} (h0 : Keeps m0 s0 s) (hw0 : within 0xc000000000000000000000000200000000000000000000000001c0000301000000000000000000600000020700000000000860000002000000480000000000000000000000643041e000000000001800000000020002000240001000000000003e8196e8fa m0 = true := by decide) :
    Keeps m0 s0 (State.thermTrip s) := by
  refine h0.app hw0 ?_
  unfold State.thermTrip
  try dsimp only
  repeat' first
    | with_reducible exact .refl _ _
    | with_reducible assumption
    | with_reducible refine .ite _ ?_ ?_
    | with_reducible refine State.emit_keeps ?_
    | with_reducible refine State.raise_keeps ?_
    | with_reducible refine State.halt_keeps ?_
    | with_reducible refine State.set_keeps (by first | assumption | (dsimp only [bank, Reg.THM_STATUS_TRIP]; decide)) ?_
    | fail_if_no_progress with_reducible refine Keeps.mk' ?_
    | split
    | dsimp only

theorem State.actShutdown_keeps {m0 s0 s was} (h0 : Keeps m0 s0 s) (hw0 : within 0xc000000000000000000000000200000000000000000000000001c0000301000000000000000000600000020700000000000860000002000000480000000000000000000000643041e000000000001800000000020002000240001000000000003e8196e8fa m0 = true := by decide) :
    Keeps m0 s0 (State.actShutdown s was) := by
  refine h0.app hw0 ?_
  unfold State.actShutdown
  try dsimp only
  repeat' first
    | with_reducible exact .refl _ _
    | with_reducible assumption
    | with_reducible refine .ite _ ?_ ?_
    | with_reducible refine State.thermTrip_keeps ?_
    | split
    | dsimp only

theorem State.actThrottle_keeps {m0 s0 s} (h0 : Keeps m0 s0 s) (hw0 : within 0x700000000000000000000000000000000000000000000000000000000000000000000000000000000000400000000000000000000002080000000000001000000000000684000002 m0 = true := by decide) :
    Keeps m0 s0 (State.actThrottle s) := by
  refine h0.app hw0 ?_
  unfold State.actThrottle
  try dsimp only [State.setAll]
  repeat' first
    | with_reducible exact .refl _ _
    | with_reducible assumption
    | with_reducible refine .ite _ ?_ ?_
    | with_reducible refine State.raise_keeps ?_
    | with_reducible refine State.settleEffort_keeps ?_
    | with_reducible refine State.set_keeps (by first | assumption | (dsimp only [bank, Reg.ENC_CTRL_THERM_STEP, Reg.THM_STATUS_LEVEL, Reg.THM_THROTTLE_CNT]; decide)) ?_
    | with_reducible refine State.bump_keeps (by first | assumption | (dsimp only [bank, Reg.ENC_CTRL_THERM_STEP, Reg.THM_STATUS_LEVEL, Reg.THM_THROTTLE_CNT]; decide)) ?_
    | split
    | dsimp only

theorem State.actWarning_keeps {m0 s0 s} (h0 : Keeps m0 s0 s) (hw0 : within 0x400000000000000000000004040000000000001000000000000680000002 m0 = true := by decide) :
    Keeps m0 s0 (State.actWarning s) := by
  refine h0.app hw0 ?_
  unfold State.actWarning
  try dsimp only
  repeat' first
    | with_reducible exact .refl _ _
    | with_reducible assumption
    | with_reducible refine .ite _ ?_ ?_
    | with_reducible refine State.raise_keeps ?_
    | with_reducible refine State.set_keeps (by first | assumption | (dsimp only [bank, Reg.THM_STATUS_WARN, Reg.THM_WARN_CNT]; decide)) ?_
    | with_reducible refine State.bump_keeps (by first | assumption | (dsimp only [bank, Reg.THM_STATUS_WARN, Reg.THM_WARN_CNT]; decide)) ?_
    | split
    | dsimp only

theorem State.actBand_keeps {m0 s0 s} (h0 : Keeps m0 s0 s) (hw0 : within 0x400000000000000000000000100000000000001000000000000680000002 m0 = true := by decide) :
    Keeps m0 s0 (State.actBand s) := by
  refine h0.app hw0 ?_
  unfold State.actBand
  try dsimp only
  repeat' first
    | with_reducible exact .refl _ _
    | with_reducible assumption
    | with_reducible refine .ite _ ?_ ?_
    | with_reducible refine State.raise_keeps ?_
    | with_reducible refine State.set_keeps (by first | assumption | (dsimp only [bank, Reg.THM_STATUS_BAND]; decide)) ?_
    | split
    | dsimp only

theorem State.sensorCheck_keeps {m0 s0 s failed} (h0 : Keeps m0 s0 s) (hw0 : within 0x400000000000000000000040200000000000001000000000000680000002 m0 = true := by decide) :
    Keeps m0 s0 (State.sensorCheck s failed) := by
  refine h0.app hw0 ?_
  unfold State.sensorCheck
  try dsimp only [State.setAll]
  repeat' first
    | with_reducible exact .refl _ _
    | with_reducible assumption
    | with_reducible refine .ite _ ?_ ?_
    | with_reducible refine State.raise_keeps ?_
    | with_reducible refine State.set_keeps (by first | assumption | (dsimp only [bank, Reg.THM_STATUS_SENS_FAIL, Reg.THM_TEMP_FAIL]; decide)) ?_
    | with_reducible refine .foldl _ _ ?_ (fun _ _ _ => ?_)
    | split
    | dsimp only

theorem State.readSensors_keeps {m0 s0 s temps} (h0 : Keeps m0 s0 s) (hw0 : within 0x20000000000000000000000000000000000000 m0 = true := by decide) :
    Keeps m0 s0 (State.readSensors s temps) := by
  refine h0.app hw0 ?_
  unfold State.readSensors
  try dsimp only
  repeat' first
    | with_reducible exact .refl _ _
    | with_reducible assumption
    | with_reducible refine .ite _ ?_ ?_
    | with_reducible refine State.set_keeps (by first | assumption | (dsimp only [bank, Reg.THM_STATUS_SENS_FAIL, Reg.THM_TEMP, Reg.THM_THRESH_STEP_C, Reg.THM_THRESH_THROTTLE_C]; decide)) ?_
    | with_reducible refine .foldl _ _ ?_ (fun _ _ _ => ?_)
    | fail_if_no_progress with_reducible refine Keeps.mk' ?_
    | split
    | dsimp only

theorem State.takeTmax_keeps {m0 s0 s} (h0 : Keeps m0 s0 s) (hw0 : within 0xc00000000000000000000000000000000000 m0 = true := by decide) :
    Keeps m0 s0 (State.takeTmax s) := by
  refine h0.app hw0 ?_
  unfold State.takeTmax
  try dsimp only [State.setAll]
  repeat' first
    | with_reducible exact .refl _ _
    | with_reducible assumption
    | with_reducible refine State.set_keeps (by first | assumption | (dsimp only [bank, Reg.THM_TEMP, Reg.THM_TMAX, Reg.THM_TMAX_SENSOR]; decide)) ?_
    | split
    | dsimp only

theorem State.voltCheck_keeps {m0 s0 s c v} (h0 : Keeps m0 s0 s) (hw0 : within 0x400000000000001800000181000000000000001000000000001e80400002 m0 = true := by decide) :
    Keeps m0 s0 (State.voltCheck s c v) := by
  refine h0.app hw0 ?_
  unfold State.voltCheck
  try dsimp only
  repeat' first
    | with_reducible exact .refl _ _
    | with_reducible assumption
    | with_reducible refine .ite _ ?_ ?_
    | with_reducible refine State.raiseLimited_keeps ?_
    | with_reducible refine State.logUnit_keeps ?_
    | with_reducible refine State.set_keeps (by first | assumption | (dsimp only [bank, Reg.THM_CFG_DWELL, Reg.THM_VOLT_ERR_CNT, Reg.THM_VOLT_MV, Reg.THM_VOLT_OUT]; decide)) ?_
    | with_reducible refine State.bump_keeps (by first | assumption | (dsimp only [bank, Reg.THM_CFG_DWELL, Reg.THM_VOLT_ERR_CNT, Reg.THM_VOLT_MV, Reg.THM_VOLT_OUT]; decide)) ?_
    | fail_if_no_progress with_reducible refine Keeps.mk' ?_
    | split
    | dsimp only

theorem State.voltChecks_keeps {m0 s0 s c l} (h0 : Keeps m0 s0 s) (hw0 : within 0x400000000000001800000181000000000000001000000000001e80400002 m0 = true := by decide) :
    Keeps m0 s0 (State.voltChecks s c l) := by
  induction l generalizing s c with
  | nil => exact h0
  | cons v l ih =>
    unfold State.voltChecks
    exact .ite _ (ih (State.voltCheck_keeps h0 (within_trans (by decide) hw0))) h0

theorem State.avsRound_keeps {m0 s0 s margin} (h0 : Keeps m0 s0 s) (hw0 : within 0x50000000000000000000000000400002 m0 = true := by decide) :
    Keeps m0 s0 (State.avsRound s margin) := by
  refine h0.app hw0 ?_
  unfold State.avsRound
  try dsimp only
  repeat' first
    | with_reducible exact .refl _ _
    | with_reducible assumption
    | with_reducible refine .ite _ ?_ ?_
    | with_reducible refine State.emit_keeps ?_
    | with_reducible refine State.set_keeps (by first | assumption | (dsimp only [bank, Reg.PWR_AVS_EN, Reg.PWR_AVS_STEP_CNT, Reg.PWR_AVS_V_TGT_MV, Reg.THM_CFG_DWELL]; decide)) ?_
    | with_reducible refine State.bump_keeps (by first | assumption | (dsimp only [bank, Reg.PWR_AVS_EN, Reg.PWR_AVS_STEP_CNT, Reg.PWR_AVS_V_TGT_MV, Reg.THM_CFG_DWELL]; decide)) ?_
    | fail_if_no_progress with_reducible refine Keeps.mk' ?_
    | split
    | dsimp only

theorem State.avsFailed_keeps {m0 s0 s} (h0 : Keeps m0 s0 s) (hw0 : within 0x400000000000000000000000000030000000001000000000001680000002 m0 = true := by decide) :
    Keeps m0 s0 (State.avsFailed s) := by
  refine h0.app hw0 ?_
  unfold State.avsFailed
  try dsimp only
  repeat' first
    | with_reducible exact .refl _ _
    | with_reducible assumption
    | with_reducible refine .ite _ ?_ ?_
    | with_reducible refine State.raiseLimited_keeps ?_
    | with_reducible refine State.set_keeps (by first | assumption | (dsimp only [bank, Reg.PWR_AVS_EN, Reg.PWR_AVS_ERR_CNT, Reg.PWR_AVS_V_TGT_MV]; decide)) ?_
    | with_reducible refine State.bump_keeps (by first | assumption | (dsimp only [bank, Reg.PWR_AVS_EN, Reg.PWR_AVS_ERR_CNT, Reg.PWR_AVS_V_TGT_MV]; decide)) ?_
    | split
    | dsimp only

theorem execAvsFail_keeps {s t0} (e0 : execAvsFail s = .next t0) : Keeps 0x400000000000000000000000000030000000001000000000001680000002 s t0 := by
  rw [← Host.Outcome.next.inj e0]
  try dsimp only
  repeat' first
    | with_reducible exact .refl _ _
    | with_reducible assumption
    | with_reducible refine State.avsFailed_keeps ?_
    | split
    | dsimp only

theorem State.avsEnWrite_keeps {m0 s0 s w en} (h0 : Keeps m0 s0 s) (hw0 : within 0x400000000000001800000000000014000000001000000000001e81400002 m0 = true := by decide) :
    Keeps m0 s0 (State.avsEnWrite s w en) := by
  refine h0.app hw0 ?_
  unfold State.avsEnWrite
  try dsimp only
  repeat' first
    | with_reducible exact .refl _ _
    | with_reducible assumption
    | with_reducible refine .ite _ ?_ ?_
    | with_reducible refine State.logReg_keeps ?_
    | with_reducible refine State.emit_keeps ?_
    | with_reducible refine State.set_keeps (by first | assumption | (dsimp only [bank, Reg.PWR_AVS_EN, Reg.PWR_AVS_V_FUSE_MV, Reg.PWR_AVS_V_TGT_MV]; decide)) ?_
    | with_reducible refine State.byWriter_keeps (fun _ _ => ?_) ?_
    | fail_if_no_progress with_reducible refine Keeps.mk' ?_
    | split
    | dsimp only

theorem execAvsEnWrite_keeps {w en s t0} (e0 : execAvsEnWrite w en s = .next t0) : Keeps 0x400000000000001800000000000014000000001000000000001e81400002 s t0 := by
  rw [← Host.Outcome.next.inj e0]
  try dsimp only
  repeat' first
    | with_reducible exact .refl _ _
    | with_reducible assumption
    | with_reducible refine State.avsEnWrite_keeps ?_
    | split
    | dsimp only

theorem State.round_keeps {m0 s0 s temps failed volts margin} (h0 : Keeps m0 s0 s) (hw0 : within 0xc000090000000000000000000200000000000000000000000001c0000371000000000000000000600000020700000000000860000002000000480000000000000000000000643041e0000000000018000001e7fe0052000240001000000000003e85d6e8fa m0 = true := by decide) :
    Keeps m0 s0 (State.round s temps failed volts margin) := by
  refine h0.app hw0 ?_
  unfold State.round
  try dsimp only
  repeat' first
    | with_reducible exact .refl _ _
    | with_reducible assumption
    | with_reducible refine State.sensorCheck_keeps ?_
    | with_reducible refine State.readSensors_keeps ?_
    | with_reducible refine State.takeTmax_keeps ?_
    | with_reducible refine State.judgeLevels_keeps ?_
    | with_reducible refine State.actShutdown_keeps ?_
    | with_reducible refine State.actThrottle_keeps ?_
    | with_reducible refine State.actWarning_keeps ?_
    | with_reducible refine State.actBand_keeps ?_
    | with_reducible refine State.voltChecks_keeps ?_
    | with_reducible refine State.avsRound_keeps ?_
    | split
    | dsimp only

theorem execHousekeepingRound_keeps {temps failed volts margin s t0} (e0 : execHousekeepingRound temps failed volts margin s = .next t0) : Keeps 0xc000090000000000000000000200000000000000000000000001c0000371000000000000000000600000020700000000000860000002000000480000000000000000000000643041e0000000000018000001e7fe0052000240001000000000003e85d6e8fa s t0 := by
  rw [← Host.Outcome.next.inj e0]
  try dsimp only
  repeat' first
    | with_reducible exact .refl _ _
    | with_reducible assumption
    | with_reducible refine State.round_keeps ?_
    | split
    | dsimp only

theorem State.restartLevels_keeps {m0 s0 s before} (h0 : Keeps m0 s0 s) (hw0 : within 0x400000 m0 = true := by decide) :
    Keeps m0 s0 (State.restartLevels s before) := by
  refine h0.app hw0 ?_
  unfold State.restartLevels
  try dsimp only
  repeat' first
    | with_reducible exact .refl _ _
    | with_reducible assumption
    | with_reducible refine .ite _ ?_ ?_
    | with_reducible refine .foldl _ _ ?_ (fun _ _ _ => ?_)
    | fail_if_no_progress with_reducible refine Keeps.mk' ?_
    | split
    | dsimp only

theorem State.thmWrite_keeps {m0 s0 s w i v} (h0 : Keeps m0 s0 s) (hw0 : within 0x40000000000000180000000001ff80000000001000000000001e81400002 m0 = true := by decide) :
    Keeps m0 s0 (State.thmWrite s w i v) := by
  refine h0.app hw0 ?_
  unfold State.thmWrite
  try dsimp only [State.setAll]
  repeat' first
    | with_reducible exact .refl _ _
    | with_reducible assumption
    | with_reducible refine .ite _ ?_ ?_
    | with_reducible refine State.logReg_keeps ?_
    | with_reducible refine State.restartLevels_keeps ?_
    | with_reducible refine State.set_keeps (by first | assumption | (dsimp only [bank, Reg.THM_BANDS_EDGE1, Reg.THM_BANDS_EDGE2, Reg.THM_BANDS_EDGE3, Reg.THM_CFG_DWELL, Reg.THM_CFG_SENSOR_MASK, Reg.THM_THRESH_HYST_C, Reg.THM_THRESH_SHUTDOWN_C, Reg.THM_THRESH_STEP_C, Reg.THM_THRESH_THROTTLE_C, Reg.THM_THRESH_WARN_C]; decide)) ?_
    | with_reducible refine State.setAll_keeps (by (repeat' first | with_reducible assumption | with_reducible exact inMask_nil _ | (with_reducible refine inMask_cons ?_ ?_) | (with_reducible refine inMask_append ?_ ?_) | (with_reducible refine inMask_flatMap (fun _ => ?_)) | (with_reducible refine asBit ?_; dsimp only [Function.comp, bank, Reg.THM_BANDS_EDGE1, Reg.THM_BANDS_EDGE2, Reg.THM_BANDS_EDGE3, Reg.THM_CFG_DWELL, Reg.THM_CFG_SENSOR_MASK, Reg.THM_THRESH_HYST_C, Reg.THM_THRESH_SHUTDOWN_C, Reg.THM_THRESH_STEP_C, Reg.THM_THRESH_THROTTLE_C, Reg.THM_THRESH_WARN_C]; decide) | (unfold thmFields) | (simp only [List.map_map, List.map_append, List.map_cons, List.map_nil]) | (with_reducible refine inMask_ite _ ?_ ?_) | split | (with_reducible refine inMask_map (fun _ => ?_)))) ?_
    | with_reducible refine State.byWriter_keeps (fun _ _ => ?_) ?_
    | split
    | dsimp only

theorem execThmWrite_keeps {w i value s t0} (e0 : execThmWrite w i value s = .next t0) : Keeps 0x40000000000000180000000001ff80000000001000000000001e81400002 s t0 := by
  rw [← Host.Outcome.next.inj e0]
  try dsimp only
  repeat' first
    | with_reducible exact .refl _ _
    | with_reducible assumption
    | with_reducible refine State.thmWrite_keeps ?_
    | split
    | dsimp only

theorem execThermtripAnalogue_keeps {s t0} (e0 : execThermtripAnalogue s = .next t0) : Keeps 0xc000000000000000000000000200000000000000000000000001c0000301000000000000000000600000020700000000000860000002000000480000000000000000000000643041e000000000001800000000020002000240001000000000003e8196e8fa s t0 := by
  rw [← Host.Outcome.next.inj e0]
  try dsimp only
  repeat' first
    | with_reducible exact .refl _ _
    | with_reducible assumption
    | with_reducible refine State.thermTrip_keeps ?_
    | split
    | dsimp only

theorem execClk10InReturn_keeps {s t0} (e0 : execClk10InReturn s = .next t0) : Keeps 0x8000000000000000000000000000000000000000000000000000000 s t0 := by
  rw [← Host.Outcome.next.inj e0]
  try dsimp only
  repeat' first
    | with_reducible exact .refl _ _
    | with_reducible assumption
    | with_reducible refine State.set_keeps (by first | assumption | (dsimp only [bank, Reg.TIM_REFSTAT_CLK10_OK]; decide)) ?_
    | split
    | dsimp only

end Sys2Proof.Machine
end

