-- ==== Sys2Proof/Laws/KeepsSmBus.lean ====
section
/-! SUPPORT. What each operation of Machine/SmBus.lean may change (Laws/Keeps.lean). -/

namespace Sys2Proof.Machine

set_option Elab.async false
set_option linter.unusedTactic false
set_option linter.unusedSimpArgs false
set_option linter.unreachableTactic false

theorem State.smbRead_keeps {m0 s0 s addr cmd pec l} (h0 : Keeps m0 s0 s) (hw0 : within 0x0 m0 = true := by decide) :
    Keeps m0 s0 (State.smbRead s addr cmd pec l) := by
  refine h0.app hw0 ?_
  unfold State.smbRead
  try dsimp only
  repeat' first
    | with_reducible exact .refl _ _
    | with_reducible assumption
    | with_reducible refine .ite _ ?_ ?_
    | with_reducible refine State.emit_keeps ?_
    | split
    | dsimp only

theorem execSmbThmStatus_keeps {addr pec s t0} (e0 : execSmbThmStatus addr pec s = .next t0) : Keeps 0x0 s t0 := by
  rw [← Host.Outcome.next.inj e0]
  try dsimp only
  repeat' first
    | with_reducible exact .refl _ _
    | with_reducible assumption
    | with_reducible refine State.smbRead_keeps ?_
    | split
    | dsimp only

theorem execSmbTmax_keeps {addr pec s t0} (e0 : execSmbTmax addr pec s = .next t0) : Keeps 0x0 s t0 := by
  rw [← Host.Outcome.next.inj e0]
  try dsimp only
  repeat' first
    | with_reducible exact .refl _ _
    | with_reducible assumption
    | with_reducible refine State.smbRead_keeps ?_
    | split
    | dsimp only

theorem execSmbModeStatus_keeps {addr pec s t0} (e0 : execSmbModeStatus addr pec s = .next t0) : Keeps 0x0 s t0 := by
  rw [← Host.Outcome.next.inj e0]
  try dsimp only
  repeat' first
    | with_reducible exact .refl _ _
    | with_reducible assumption
    | with_reducible refine State.smbRead_keeps ?_
    | split
    | dsimp only

theorem execSmbReason_keeps {addr pec s t0} (e0 : execSmbReason addr pec s = .next t0) : Keeps 0x0 s t0 := by
  rw [← Host.Outcome.next.inj e0]
  try dsimp only
  repeat' first
    | with_reducible exact .refl _ _
    | with_reducible assumption
    | with_reducible refine State.smbRead_keeps ?_
    | split
    | dsimp only

theorem execSmbChipId_keeps {addr pec s t0} (e0 : execSmbChipId addr pec s = .next t0) : Keeps 0x0 s t0 := by
  rw [← Host.Outcome.next.inj e0]
  try dsimp only
  repeat' first
    | with_reducible exact .refl _ _
    | with_reducible assumption
    | with_reducible refine State.smbRead_keeps ?_
    | split
    | dsimp only

theorem execSmbSensor_keeps {addr x pec s t0} (e0 : execSmbSensor addr x pec s = .next t0) : Keeps 0x0 s t0 := by
  rw [← Host.Outcome.next.inj e0]
  try dsimp only
  repeat' first
    | with_reducible exact .refl _ _
    | with_reducible assumption
    | with_reducible refine State.smbRead_keeps ?_
    | split
    | dsimp only

theorem execSmbVoltage_keeps {addr c pec s t0} (e0 : execSmbVoltage addr c pec s = .next t0) : Keeps 0x0 s t0 := by
  rw [← Host.Outcome.next.inj e0]
  try dsimp only
  repeat' first
    | with_reducible exact .refl _ _
    | with_reducible assumption
    | with_reducible refine State.smbRead_keeps ?_
    | split
    | dsimp only

theorem execSmbHealth_keeps {addr pec s t0} (e0 : execSmbHealth addr pec s = .next t0) : Keeps 0x0 s t0 := by
  rw [← Host.Outcome.next.inj e0]
  try dsimp only
  repeat' first
    | with_reducible exact .refl _ _
    | with_reducible assumption
    | with_reducible refine .ite _ ?_ ?_
    | with_reducible refine State.smbRead_keeps ?_
    | split
    | dsimp only

theorem execSmbNak_keeps {addr s t0} (e0 : execSmbNak addr s = .next t0) : Keeps 0x400000000000001800000008000000000000001000000000001e80000002 s t0 := by
  rw [← Host.Outcome.next.inj e0]
  try dsimp only
  repeat' first
    | with_reducible exact .refl _ _
    | with_reducible assumption
    | with_reducible refine .ite _ ?_ ?_
    | with_reducible refine State.emit_keeps ?_
    | with_reducible refine State.logUnit_keeps ?_
    | with_reducible refine State.raiseLimited_keeps ?_
    | with_reducible refine State.bump_keeps (by first | assumption | (dsimp only [bank, Reg.THM_SMB_ERR_CNT]; decide)) ?_
    | split
    | dsimp only

end Sys2Proof.Machine
end

