-- ==== Sys2Proof/Laws/KeepsRegisters.lean ====
section
/-! SUPPORT. What each operation of Machine/Registers.lean may change (Laws/Keeps.lean). -/

namespace Sys2Proof.Machine

set_option Elab.async false
set_option linter.unusedTactic false
set_option linter.unusedSimpArgs false
set_option linter.unreachableTactic false

theorem State.run_keeps {m0 s0 s c} (hc : ∀ x t, c x = .next t → Keeps m0 x t) (h0 : Keeps m0 s0 s) : Keeps m0 s0 (State.run s c) := by
  unfold State.run
  split
  · next t e => exact h0.trans (hc _ _ e)
  · exact h0
  · exact h0

theorem State.putFields_keeps {m0 s0 s v l} (h0 : Keeps m0 s0 s) (hw0 : within registers m0 = true := by decide) :
    Keeps m0 s0 (State.putFields s v l) := by
  induction l generalizing s with
  | nil => exact h0
  | cons f l ih => exact ih (State.set_keeps (bit_within (registers_bit _ (Nat.mod_lt _ (by decide))) hw0) h0)

theorem State.applyWord_keeps {m0 s0 s w off v} (h0 : Keeps m0 s0 s) (hw0 : within 0xffffffffffffffffffffffffffffffffffffffffffffffffffffffffffffffffffffffffffffffffffffffffffffffffffffffffffffffffffffffffffffffffffffffffffffffffffffffffffffffffffffffffffffffffffffffffffffffffffffffffffffffffffffffffffffffffffffffffffffffffffffffffffffffff0000000008000000 m0 = true := by decide) :
    Keeps m0 s0 (State.applyWord s w off v) := by
  refine h0.app hw0 ?_
  unfold State.applyWord
  try dsimp only
  repeat' first
    | with_reducible exact .refl _ _
    | with_reducible assumption
    | with_reducible refine State.noteSelection_keeps ?_
    | with_reducible refine State.putFields_keeps ?_
    | split
    | dsimp only

theorem State.logWord_keeps {m0 s0 s before w off v c} (h0 : Keeps m0 s0 s) (hw0 : within 0x400000000000001800000000000000000000001000000000001e81000002 m0 = true := by decide) :
    Keeps m0 s0 (State.logWord s before w off v c) := by
  refine h0.app hw0 ?_
  unfold State.logWord
  try dsimp only
  repeat' first
    | with_reducible exact .refl _ _
    | with_reducible assumption
    | with_reducible refine State.logReg_keeps ?_
    | split
    | dsimp only

theorem State.plainWrite_keeps {m0 s0 s w off v} (h0 : Keeps m0 s0 s) (hw0 : within 0xffffffffffffffffffffffffffffffffffffffffffffffffffffffffffffffffffffffffffffffffffffffffffffffffffffffffffffffffffffffffffffffffffffffffffffffffffffffffffffffffffffffffffffffffffffffffffffffffffffffffffffffffffffffffffffffffffffffffffffffffffffffffffffffff0000001e89000002 m0 = true := by decide) :
    Keeps m0 s0 (State.plainWrite s w off v) := by
  refine h0.app hw0 ?_
  unfold State.plainWrite
  try dsimp only
  repeat' first
    | with_reducible exact .refl _ _
    | with_reducible assumption
    | with_reducible refine .ite _ ?_ ?_
    | with_reducible refine State.applyWord_keeps ?_
    | with_reducible refine State.logWord_keeps ?_
    | split
    | dsimp only

theorem State.refuseWrite_keeps {m0 s0 s w off v status c} (h0 : Keeps m0 s0 s) (hw0 : within 0xffffffffffffffffffffffffffffffffffffffffffffffffffffffffffffffffffffffffffffffffffffffffffffffffffffffffffffffffffffffffffffffffffffffffffffffffffffffffffffffffffffffffffffffffffffffffffffffffffffffffffffffffffffffffffffffffffffffffffffffffffffffffffffffff0000001e81000002 m0 = true := by decide) :
    Keeps m0 s0 (State.refuseWrite s w off v status c) := by
  unfold State.refuseWrite
  refine State.logReg_keeps ?_ (within_trans (by decide) hw0)
  split
  · exact h0
  · exact State.set_keeps (bit_within (registers_bit _ (Nat.mod_lt _ (by decide))) (within_trans (by decide) hw0)) h0

theorem State.writeIf_keeps {m0 s0 s ok w off v status c} (h0 : Keeps m0 s0 s) (hw0 : within 0xffffffffffffffffffffffffffffffffffffffffffffffffffffffffffffffffffffffffffffffffffffffffffffffffffffffffffffffffffffffffffffffffffffffffffffffffffffffffffffffffffffffffffffffffffffffffffffffffffffffffffffffffffffffffffffffffffffffffffffffffffffffffffffffff0000001e89000002 m0 = true := by decide) :
    Keeps m0 s0 (State.writeIf s ok w off v status c) :=
  .ite _ (State.plainWrite_keeps h0 (within_trans (by decide) hw0)) (State.refuseWrite_keeps h0 (within_trans (by decide) hw0))

theorem State.pwrResetWrite_keeps {m0 s0 s w v} (h0 : Keeps m0 s0 s) (hw0 : within 0x400000000000001800000000000000300000001000000000001e81800002 m0 = true := by decide) :
    Keeps m0 s0 (State.pwrResetWrite s w v) := by
  refine h0.app hw0 ?_
  unfold State.pwrResetWrite
  try dsimp only
  repeat' first
    | with_reducible exact .refl _ _
    | with_reducible assumption
    | with_reducible refine .ite _ ?_ ?_
    | with_reducible refine State.logReg_keeps ?_
    | fail_if_no_progress with_reducible refine Keeps.mk' ?_
    | split
    | dsimp only

theorem execPwrReset_keeps {w value s t0} (e0 : execPwrReset w value s = .next t0) : Keeps 0x400000000000001800000000000000300000001000000000001e81800002 s t0 := by
  rw [← Host.Outcome.next.inj e0]
  try dsimp only
  repeat' first
    | with_reducible exact .refl _ _
    | with_reducible assumption
    | with_reducible refine State.pwrResetWrite_keeps ?_
    | split
    | dsimp only

theorem State.hostVersion_keeps {m0 s0 s f v} (h0 : Keeps m0 s0 s) (hw0 : within 0x1800000000000000000 m0 = true := by decide) :
    Keeps m0 s0 (State.hostVersion s f v) := by
  refine h0.app hw0 ?_
  unfold State.hostVersion
  try dsimp only [State.setAll]
  repeat' first
    | with_reducible exact .refl _ _
    | with_reducible assumption
    | with_reducible refine State.set_keeps (by first | assumption | (dsimp only [bank, Reg.HIF_FN_OPEN_HOST_MAJOR, Reg.HIF_FN_OPEN_HOST_MINOR]; decide)) ?_
    | split
    | dsimp only

theorem State.timCtrl_keeps {m0 s0 s w off v} (h0 : Keeps m0 s0 s) (hw0 : within 0xffffffffffffffffffffffffffffffffffffffffffffffffffffffffffffffffffffffffffffffffffffffffffffffffffffffffffffffffffffffffffffffffffffffffffffffffffffffffffffffffffffffffffffffffffffffffffffffffffffffffffffffffffffffffffffffffffffffffffffffffffffffffffffffff0000001e8900000a m0 = true := by decide) :
    Keeps m0 s0 (State.timCtrl s w off v) := by
  refine h0.app hw0 ?_
  unfold State.timCtrl
  try dsimp only
  repeat' first
    | with_reducible exact .refl _ _
    | with_reducible assumption
    | with_reducible refine .ite _ ?_ ?_
    | with_reducible refine State.applyWord_keeps ?_
    | with_reducible refine State.revertAct_keeps ?_
    | with_reducible refine State.revertAct_keepsP (by assumption) ?_
    | with_reducible refine State.logWord_keeps ?_
    | with_reducible refine State.refuseWrite_keeps ?_
    | fail_if_no_progress with_reducible refine Keeps.mk' ?_
    | split
    | dsimp only

theorem State.domCtrl_keeps {m0 s0 s w off d v} (h0 : Keeps m0 s0 s) (hw0 : within 0xffffffffffffffffffffffffffffffffffffffffffffffffffffffffffffffffffffffffffffffffffffffffffffffffffffffffffffffffffffffffffffffffffffffffffffffffffffffffffffffffffffffffffffffffffffffffffffffffffffffffffffffffffffffffffffffffffffffffffffffffffffffffffffffff0000001e8900281a m0 = true := by decide) :
    Keeps m0 s0 (State.domCtrl s w off d v) := by
  refine h0.app hw0 ?_
  unfold State.domCtrl
  try dsimp only
  repeat' first
    | with_reducible exact .refl _ _
    | with_reducible assumption
    | with_reducible refine .ite _ ?_ ?_
    | with_reducible refine State.applyWord_keeps ?_
    | with_reducible refine State.domainEnable_keeps ?_
    | with_reducible refine State.domainDisable_keeps ?_
    | with_reducible refine State.acceptJump_keeps ?_
    | with_reducible refine State.logWord_keeps ?_
    | with_reducible refine State.relane_keeps ?_
    | with_reducible refine State.set_keeps (by first | assumption | (dsimp only [bank, Reg.TIM_DOM_ENABLE]; decide)) ?_
    | with_reducible refine State.refuseWrite_keeps ?_
    | split
    | dsimp only

theorem State.jugCtrl_keeps {m0 s0 s w v} (h0 : Keeps m0 s0 s) (hw0 : within 0x2000000000000000000000000000000000000000000000000000000000000000000000036e00400000000000001800000000000000000000001000000000007e81030002 m0 = true := by decide) :
    Keeps m0 s0 (State.jugCtrl s w v) := by
  refine h0.app hw0 ?_
  unfold State.jugCtrl
  try dsimp only
  repeat' first
    | with_reducible exact .refl _ _
    | with_reducible assumption
    | with_reducible refine .ite _ ?_ ?_
    | with_reducible refine State.setDrain_keeps ?_
    | with_reducible refine State.logReg_keeps ?_
    | with_reducible refine State.set_keeps (by first | assumption | (dsimp only [bank, Reg.JUG_CTRL_DRAIN, Reg.JUG_CTRL_WDT_US]; decide)) ?_
    | split
    | dsimp only

theorem State.layoutWrite_keeps {m0 s0 s w off v} (h0 : Keeps m0 s0 s) (hw0 : within 0xffffffffffffffffffffffffffffffffffffffffffffffffffffffffffffffffffffffffffffffffffffffffffffffffffffffffffffffffffffffffffffffffffffffffffffffffffffffffffffffffffffffffffffffffffffffffffffffffffffffffffffffffffffffffffffffffffffffffffffffffffffffffffffffff0000001e89000002 m0 = true := by decide) :
    Keeps m0 s0 (State.layoutWrite s w off v) := by
  refine h0.app hw0 ?_
  unfold State.layoutWrite
  try dsimp only
  repeat' first
    | with_reducible exact .refl _ _
    | with_reducible assumption
    | with_reducible refine State.writeIf_keeps ?_
    | split
    | dsimp only

theorem State.ffeWrite_keeps {m0 s0 s w off i v} (h0 : Keeps m0 s0 s) (hw0 : within 0xffffffffffffffffffffffffffffffffffffffffffffffffffffffffffffffffffffffffffffffffffffffffffffffffffffffffffffffffffffffffffffffffffffffffffffffffffffffffffffffffffffffffffffffffffffffffffffffffffffffffffffffffffffffffffffffffffffffffffffffffffffffffffffffff0000001e89000002 m0 = true := by decide) :
    Keeps m0 s0 (State.ffeWrite s w off i v) := by
  refine h0.app hw0 ?_
  unfold State.ffeWrite
  try dsimp only
  repeat' first
    | with_reducible exact .refl _ _
    | with_reducible assumption
    | with_reducible refine .ite _ ?_ ?_
    | with_reducible refine State.plainWrite_keeps ?_
    | with_reducible refine State.set_keeps (by first | assumption | (dsimp only [bank, Reg.LANE_FFE_MAIN, Reg.LANE_STATUS_LAST_STATUS]; decide)) ?_
    | with_reducible refine State.refuseWrite_keeps ?_
    | split
    | dsimp only

theorem State.pathWrite_keeps {m0 s0 s w off r p v} (h0 : Keeps m0 s0 s) (hw0 : within 0xffffffffffffffffffffffffffffffffffffffffffffffffffffffffffffffffffffffffffffffffffffffffffffffffffffffffffffffffffffffffffffffffffffffffffffffffffffffffffffffffffffffffffffffffffffffffffffffffffffffffffffffffffffffffffffffffffffffffffffffffffffffffffffffff0000001e89000012 m0 = true := by decide) :
    Keeps m0 s0 (State.pathWrite s w off r p v) := by
  refine h0.app hw0 ?_
  unfold State.pathWrite
  try dsimp only
  repeat' first
    | with_reducible exact .refl _ _
    | with_reducible assumption
    | with_reducible refine .ite _ ?_ ?_
    | with_reducible refine State.igmpLeave_keeps ?_
    | with_reducible refine State.plainWrite_keeps ?_
    | with_reducible refine State.igmpJoin_keeps ?_
    | split
    | dsimp only

theorem State.audCtrl_keeps {m0 s0 s w off v} (h0 : Keeps m0 s0 s) (hw0 : within 0xffffffffffffffffffffffffffffffffffffffffffffffffffffffffffffffffffffffffffffffffffffffffffffffffffffffffffffffffffffffffffffffffffffffffffffffffffffffffffffffffffffffffffffffffffffffffffffffffffffffffffffffffffffffffffffffffffffffffffffffffffffffffffffffff0000001e89008002 m0 = true := by decide) :
    Keeps m0 s0 (State.audCtrl s w off v) := by
  refine h0.app hw0 ?_
  unfold State.audCtrl
  try dsimp only
  repeat' first
    | with_reducible exact .refl _ _
    | with_reducible assumption
    | with_reducible refine .ite _ ?_ ?_
    | with_reducible refine State.run_keeps (fun _ _ e => (execMclkResume_keeps e).mono (by decide)) ?_
    | with_reducible refine State.plainWrite_keeps ?_
    | with_reducible refine State.refuseWrite_keeps ?_
    | fail_if_no_progress with_reducible refine Keeps.mk' ?_
    | split
    | dsimp only

theorem State.audChannels_keeps {m0 s0 s w off k v} (h0 : Keeps m0 s0 s) (hw0 : within 0xffffffffffffffffffffffffffffffffffffffffffffffffffffffffffffffffffffffffffffffffffffffffffffffffffffffffffffffffffffffffffffffffffffffffffffffffffffffffffffffffffffffffffffffffffffffffffffffffffffffffffffffffffffffffffffffffffffffffffffffffffffffffffffffff0000001e89000002 m0 = true := by decide) :
    Keeps m0 s0 (State.audChannels s w off k v) := by
  refine h0.app hw0 ?_
  unfold State.audChannels
  try dsimp only
  repeat' first
    | with_reducible exact .refl _ _
    | with_reducible assumption
    | with_reducible refine State.writeIf_keeps ?_
    | split
    | dsimp only

theorem State.hbWrite_keeps {m0 s0 s w off v} (h0 : Keeps m0 s0 s) (hw0 : within 0xffffffffffffffffffffffffffffffffffffffffffffffffffffffffffffffffffffffffffffffffffffffffffffffffffffffffffffffffffffffffffffffffffffffffffffffffffffffffffffffffffffffffffffffffffffffffffffffffffffffffffffffffffffffffffffffffffffffffffffffffffffffffffffffff0000001e89004002 m0 = true := by decide) :
    Keeps m0 s0 (State.hbWrite s w off v) := by
  refine h0.app hw0 ?_
  unfold State.hbWrite
  try dsimp only
  repeat' first
    | with_reducible exact .refl _ _
    | with_reducible assumption
    | with_reducible refine .ite _ ?_ ?_
    | with_reducible refine State.run_keeps (fun _ _ e => (execPet_keeps e).mono (by decide)) ?_
    | with_reducible refine State.writeIf_keeps ?_
    | split
    | dsimp only

theorem State.trpArea_keeps {m0 s0 s w off v} (h0 : Keeps m0 s0 s) (hw0 : within 0xffffffffffffffffffffffffffffffffffffffffffffffffffffffffffffffffffffffffffffffffffffffffffffffffffffffffffffffffffffffffffffffffffffffffffffffffffffffffffffffffffffffffffffffffffffffffffffffffffffffffffffffffffffffffffffffffffffffffffffffffffffffffffffffff0000001e89000002 m0 = true := by decide) :
    Keeps m0 s0 (State.trpArea s w off v) := by
  refine h0.app hw0 ?_
  unfold State.trpArea
  try dsimp only
  repeat' first
    | with_reducible exact .refl _ _
    | with_reducible assumption
    | with_reducible refine .ite _ ?_ ?_
    | with_reducible refine State.refuseWrite_keeps ?_
    | with_reducible refine State.writeIf_keeps ?_
    | split
    | dsimp only

theorem State.windowWord_keeps {m0 s0 s w off v} (h0 : Keeps m0 s0 s) (hw0 : within 0x400000000000001800000000000000000000001000000000001e8100000a m0 = true := by decide) :
    Keeps m0 s0 (State.windowWord s w off v) := by
  refine h0.app hw0 ?_
  unfold State.windowWord
  try dsimp only
  repeat' first
    | with_reducible exact .refl _ _
    | with_reducible assumption
    | with_reducible refine State.windowWrite_keeps ?_
    | with_reducible refine State.byWriter_keeps (fun _ _ => ?_) ?_
    | fail_if_no_progress with_reducible refine Keeps.mk' ?_
    | split
    | dsimp only

theorem hifCmd_keeps {w o v c x t} (k : hifCmd w o v = some c) (e : c x = .next t) : Keeps anything x t := by
  unfold hifCmd at k
  try dsimp only at k
  repeat' first
    | split at k
    | (simp only [reduceCtorEq] at k; done)
    | obtain rfl := Option.some.inj k
  all_goals first
    | with_reducible exact (execFunctionOpen_keeps e).mono (by decide)
    | with_reducible exact (execFunctionClose_keeps e).mono (by decide)
    | with_reducible exact (execHifFnClr_keeps e).mono (by decide)
    | with_reducible exact (execPenOwnerWrite_keeps e).mono (by decide)
    | with_reducible exact (execVectorWrite_keeps e).mono (by decide)
    | with_reducible exact (execSlotOwnerWrite_keeps e).mono (by decide)
    | with_reducible exact (State.hostVersion_keeps (.refl _ _)).trans ((execFunctionClose_keeps e).mono (by decide))
    | (rw [← Host.Outcome.next.inj e]
       repeat' first
        | with_reducible exact .refl _ _
        | with_reducible refine State.hostVersion_keeps ?_
        | with_reducible refine .ite _ ?_ ?_)
    | (split at e
       all_goals first
        | with_reducible exact (execFunctionOpen_keeps e).mono (by decide)
        | with_reducible exact (execFunctionClose_keeps e).mono (by decide)
        | with_reducible exact (execHifFnClr_keeps e).mono (by decide)
        | with_reducible exact (execPenOwnerWrite_keeps e).mono (by decide)
        | with_reducible exact (execVectorWrite_keeps e).mono (by decide)
        | with_reducible exact (execSlotOwnerWrite_keeps e).mono (by decide)
        | with_reducible exact (State.hostVersion_keeps (.refl _ _)).trans ((execFunctionClose_keeps e).mono (by decide))
        | (rw [← Host.Outcome.next.inj e]
           repeat' first
            | with_reducible exact .refl _ _
            | with_reducible refine State.hostVersion_keeps ?_))


theorem pwrCmd_keeps {w o v c x t} (k : pwrCmd w o v = some c) (e : c x = .next t) : Keeps anything x t := by
  unfold pwrCmd at k
  try dsimp only at k
  repeat' first
    | split at k
    | (simp only [reduceCtorEq] at k; done)
    | obtain rfl := Option.some.inj k
  all_goals first
    | with_reducible exact (execPwrCntClr_keeps e).mono (by decide)
    | with_reducible exact (execAvsEnWrite_keeps e).mono (by decide)
    | (rw [← Host.Outcome.next.inj e]
       repeat' first
        | with_reducible exact .refl _ _
        | with_reducible refine State.modeWrite_keeps ?_
        | with_reducible refine State.pwrResetWrite_keeps ?_
        | with_reducible refine .ite _ ?_ ?_)
    | (split at e
       all_goals first
        | with_reducible exact (execPwrCntClr_keeps e).mono (by decide)
        | with_reducible exact (execAvsEnWrite_keeps e).mono (by decide)
        | (rw [← Host.Outcome.next.inj e]
           repeat' first
            | with_reducible exact .refl _ _
            | with_reducible refine State.modeWrite_keeps ?_
            | with_reducible refine State.pwrResetWrite_keeps ?_))


theorem thmCmd_keeps {w o v c x t} (k : thmCmd w o v = some c) (e : c x = .next t) : Keeps anything x t := by
  unfold thmCmd at k
  try dsimp only at k
  repeat' first
    | split at k
    | (simp only [reduceCtorEq] at k; done)
    | obtain rfl := Option.some.inj k
  all_goals first
    | with_reducible exact (execThmWrite_keeps e).mono (by decide)
    | with_reducible exact (execThmClr_keeps e).mono (by decide)
    | (rw [← Host.Outcome.next.inj e]
       repeat' first
        | with_reducible exact .refl _ _
        | with_reducible refine .ite _ ?_ ?_)
    | (split at e
       all_goals first
        | with_reducible exact (execThmWrite_keeps e).mono (by decide)
        | with_reducible exact (execThmClr_keeps e).mono (by decide)
        | (rw [← Host.Outcome.next.inj e]
           repeat' first
            | with_reducible exact .refl _ _))


theorem ldgCmd_keeps {w o v c x t} (k : ldgCmd w o v = some c) (e : c x = .next t) : Keeps anything x t := by
  unfold ldgCmd at k
  try dsimp only at k
  repeat' first
    | split at k
    | (simp only [reduceCtorEq] at k; done)
    | obtain rfl := Option.some.inj k
  all_goals first
    | with_reducible exact (execLdgRingWrite_keeps e).mono (by decide)
    | (rw [← Host.Outcome.next.inj e]
       repeat' first
        | with_reducible exact .refl _ _
        | with_reducible refine .ite _ ?_ ?_)
    | (split at e
       all_goals first
        | with_reducible exact (execLdgRingWrite_keeps e).mono (by decide)
        | (rw [← Host.Outcome.next.inj e]
           repeat' first
            | with_reducible exact .refl _ _))


theorem timCmd_keeps {w off o v c x t} (k : timCmd w off o v = some c) (e : c x = .next t) : Keeps anything x t := by
  unfold timCmd at k
  try dsimp only at k
  repeat' first
    | split at k
    | (simp only [reduceCtorEq] at k; done)
    | obtain rfl := Option.some.inj k
  all_goals first
    | with_reducible exact (execSnap_keeps e).mono (by decide)
    | with_reducible exact (execTodSecWrite_keeps e).mono (by decide)
    | with_reducible exact (execTimDomClr_keeps e).mono (by decide)
    | with_reducible exact (execTimLateClr_keeps e).mono (by decide)
    | with_reducible exact (execLaunchCancel_keeps e).mono (by decide)
    | (rw [← Host.Outcome.next.inj e]
       repeat' first
        | with_reducible exact .refl _ _
        | with_reducible refine State.timCtrl_keeps ?_
        | with_reducible refine State.domCtrl_keeps ?_
        | with_reducible refine State.writeIf_keeps ?_
        | with_reducible refine .ite _ ?_ ?_)
    | (split at e
       all_goals first
        | with_reducible exact (execSnap_keeps e).mono (by decide)
        | with_reducible exact (execTodSecWrite_keeps e).mono (by decide)
        | with_reducible exact (execTimDomClr_keeps e).mono (by decide)
        | with_reducible exact (execTimLateClr_keeps e).mono (by decide)
        | with_reducible exact (execLaunchCancel_keeps e).mono (by decide)
        | (rw [← Host.Outcome.next.inj e]
           repeat' first
            | with_reducible exact .refl _ _
            | with_reducible refine State.timCtrl_keeps ?_
            | with_reducible refine State.domCtrl_keeps ?_
            | with_reducible refine State.writeIf_keeps ?_))


theorem brkCmd_keeps {w o v c x t} (k : brkCmd w o v = some c) (e : c x = .next t) : Keeps anything x t := by
  unfold brkCmd at k
  try dsimp only at k
  repeat' first
    | split at k
    | (simp only [reduceCtorEq] at k; done)
    | obtain rfl := Option.some.inj k
  all_goals first
    | with_reducible exact (execBrkClr_keeps e).mono (by decide)
    | with_reducible exact (execBrkSwWrite_keeps e).mono (by decide)
    | with_reducible exact (execBrkLatchClear_keeps e).mono (by decide)
    | (rw [← Host.Outcome.next.inj e]
       repeat' first
        | with_reducible exact .refl _ _
        | with_reducible refine State.set_keeps (by (first | assumption | (dsimp only [bank, Reg.BRK_SW_DATA]; decide))) ?_
        | with_reducible refine .ite _ ?_ ?_)
    | (split at e
       all_goals first
        | with_reducible exact (execBrkClr_keeps e).mono (by decide)
        | with_reducible exact (execBrkSwWrite_keeps e).mono (by decide)
        | with_reducible exact (execBrkLatchClear_keeps e).mono (by decide)
        | (rw [← Host.Outcome.next.inj e]
           repeat' first
            | with_reducible exact .refl _ _
            | with_reducible refine State.set_keeps (by (first | assumption | (dsimp only [bank, Reg.BRK_SW_DATA]; decide))) ?_))


theorem jugCmd_keeps {w o v c x t} (k : jugCmd w o v = some c) (e : c x = .next t) : Keeps anything x t := by
  unfold jugCmd at k
  try dsimp only at k
  repeat' first
    | split at k
    | (simp only [reduceCtorEq] at k; done)
    | obtain rfl := Option.some.inj k
  all_goals first
    | with_reducible exact (execJugClr_keeps e).mono (by decide)
    | (rw [← Host.Outcome.next.inj e]
       repeat' first
        | with_reducible exact .refl _ _
        | with_reducible refine State.jugCtrl_keeps ?_
        | with_reducible refine .ite _ ?_ ?_)
    | (split at e
       all_goals first
        | with_reducible exact (execJugClr_keeps e).mono (by decide)
        | (rw [← Host.Outcome.next.inj e]
           repeat' first
            | with_reducible exact .refl _ _
            | with_reducible refine State.jugCtrl_keeps ?_))


theorem chkCmd_keeps {w off o v c x t} (k : chkCmd w off o v = some c) (e : c x = .next t) : Keeps anything x t := by
  unfold chkCmd at k
  try dsimp only at k
  repeat' first
    | split at k
    | (simp only [reduceCtorEq] at k; done)
    | obtain rfl := Option.some.inj k
  all_goals first
    | with_reducible exact (execChkCtrlWrite_keeps e).mono (by decide)
    | with_reducible exact (execChkClr_keeps e).mono (by decide)
    | (rw [← Host.Outcome.next.inj e]
       repeat' first
        | with_reducible exact .refl _ _
        | with_reducible refine State.writeIf_keeps ?_
        | with_reducible refine .ite _ ?_ ?_)
    | (split at e
       all_goals first
        | with_reducible exact (execChkCtrlWrite_keeps e).mono (by decide)
        | with_reducible exact (execChkClr_keeps e).mono (by decide)
        | (rw [← Host.Outcome.next.inj e]
           repeat' first
            | with_reducible exact .refl _ _
            | with_reducible refine State.writeIf_keeps ?_))


theorem trnCmd_keeps {w off c v x t} (e : trnCmd w off c v x = .next t) : Keeps anything x t := by
  unfold trnCmd at e
  try dsimp only at e
  repeat' first
    | with_reducible exact (execTrnWrite_keeps e).mono (by decide)
    | with_reducible exact (execTrnReadCompare_keeps e).mono (by decide)
    | with_reducible exact (execTrnWriteCompare_keeps e).mono (by decide)
    | split at e
    | exact ((State.draw_keeps (.refl _ _)).trans (execMrRead_keeps e |>.mono (by decide)))
    | (rw [← Host.Outcome.next.inj e]
       repeat' first
        | with_reducible exact .refl _ _
        | with_reducible refine State.plainWrite_keeps ?_
        | with_reducible refine State.refuseWrite_keeps ?_)


theorem mrCmd_keeps {w c v x t} (e : mrCmd w c v x = .next t) : Keeps anything x t := by
  unfold mrCmd at e
  try dsimp only at e
  repeat' first
    | with_reducible exact (execMrWrite_keeps e).mono (by decide)
    | with_reducible exact (execMrRead_keeps e).mono (by decide)
    | split at e
    | exact ((State.draw_keeps (.refl _ _)).trans (execMrRead_keeps e |>.mono (by decide)))
    | (rw [← Host.Outcome.next.inj e]
       repeat' first
        | with_reducible exact .refl _ _)


theorem dmcCmd_keeps {w off o v c x t} (k : dmcCmd w off o v = some c) (e : c x = .next t) : Keeps anything x t := by
  unfold dmcCmd at k
  try dsimp only at k
  repeat' first
    | split at k
    | (simp only [reduceCtorEq] at k; done)
    | obtain rfl := Option.some.inj k
  all_goals first
    | with_reducible exact (execDmcLayoutCommit_keeps e).mono (by decide)
    | with_reducible exact (execDmcClr_keeps e).mono (by decide)
    | with_reducible exact (execTrnDlySet_keeps e).mono (by decide)
    | with_reducible exact trnCmd_keeps e
    | with_reducible exact mrCmd_keeps e
    | (rw [← Host.Outcome.next.inj e]
       repeat' first
        | with_reducible exact .refl _ _
        | with_reducible refine State.layoutWrite_keeps ?_
        | with_reducible refine State.writeIf_keeps ?_
        | with_reducible refine .ite _ ?_ ?_)
    | (split at e
       all_goals first
        | with_reducible exact (execDmcLayoutCommit_keeps e).mono (by decide)
        | with_reducible exact (execDmcClr_keeps e).mono (by decide)
        | with_reducible exact (execTrnDlySet_keeps e).mono (by decide)
        | with_reducible exact trnCmd_keeps e
        | with_reducible exact mrCmd_keeps e
        | (rw [← Host.Outcome.next.inj e]
           repeat' first
            | with_reducible exact .refl _ _
            | with_reducible refine State.layoutWrite_keeps ?_
            | with_reducible refine State.writeIf_keeps ?_))


theorem laneCmd_keeps {w off o v c x t} (k : laneCmd w off o v = some c) (e : c x = .next t) : Keeps anything x t := by
  unfold laneCmd at k
  try dsimp only at k
  repeat' first
    | split at k
    | (simp only [reduceCtorEq] at k; done)
    | obtain rfl := Option.some.inj k
  all_goals first
    | with_reducible exact (execLaneCfgWrite_keeps e).mono (by decide)
    | with_reducible exact (execLaneTestWrite_keeps e).mono (by decide)
    | with_reducible exact (execLaneClr_keeps e).mono (by decide)
    | with_reducible exact (execLaneMacWrite_keeps e).mono (by decide)
    | (rw [← Host.Outcome.next.inj e]
       repeat' first
        | with_reducible exact .refl _ _
        | with_reducible refine State.ffeWrite_keeps ?_
        | with_reducible refine .ite _ ?_ ?_)
    | (split at e
       all_goals first
        | with_reducible exact (execLaneCfgWrite_keeps e).mono (by decide)
        | with_reducible exact (execLaneTestWrite_keeps e).mono (by decide)
        | with_reducible exact (execLaneClr_keeps e).mono (by decide)
        | with_reducible exact (execLaneMacWrite_keeps e).mono (by decide)
        | (rw [← Host.Outcome.next.inj e]
           repeat' first
            | with_reducible exact .refl _ _
            | with_reducible refine State.ffeWrite_keeps ?_))


theorem aknCmd_keeps {w off o v c x t} (k : aknCmd w off o v = some c) (e : c x = .next t) : Keeps anything x t := by
  unfold aknCmd at k
  try dsimp only at k
  repeat' first
    | split at k
    | (simp only [reduceCtorEq] at k; done)
    | obtain rfl := Option.some.inj k
  all_goals first
    | with_reducible exact (execAknClr_keeps e).mono (by decide)
    | (rw [← Host.Outcome.next.inj e]
       repeat' first
        | with_reducible exact .refl _ _
        | with_reducible refine State.writeIf_keeps ?_
        | with_reducible refine .ite _ ?_ ?_)
    | (split at e
       all_goals first
        | with_reducible exact (execAknClr_keeps e).mono (by decide)
        | (rw [← Host.Outcome.next.inj e]
           repeat' first
            | with_reducible exact .refl _ _
            | with_reducible refine State.writeIf_keeps ?_))


theorem carCmd_keeps {w off o v c x t} (k : carCmd w off o v = some c) (e : c x = .next t) : Keeps anything x t := by
  unfold carCmd at k
  try dsimp only at k
  repeat' first
    | split at k
    | (simp only [reduceCtorEq] at k; done)
    | obtain rfl := Option.some.inj k
  all_goals first
    | with_reducible exact (execCarCommit_keeps e).mono (by decide)
    | with_reducible exact (execCarSwapCntClr_keeps e).mono (by decide)
    | with_reducible exact (execCarQueueClr_keeps e).mono (by decide)
    | (rw [← Host.Outcome.next.inj e]
       repeat' first
        | with_reducible exact .refl _ _
        | with_reducible refine State.writeIf_keeps ?_
        | with_reducible refine .ite _ ?_ ?_)
    | (split at e
       all_goals first
        | with_reducible exact (execCarCommit_keeps e).mono (by decide)
        | with_reducible exact (execCarSwapCntClr_keeps e).mono (by decide)
        | with_reducible exact (execCarQueueClr_keeps e).mono (by decide)
        | (rw [← Host.Outcome.next.inj e]
           repeat' first
            | with_reducible exact .refl _ _
            | with_reducible refine State.writeIf_keeps ?_))


theorem turnCmd_keeps {w o v c x t} (k : turnCmd w o v = some c) (e : c x = .next t) : Keeps anything x t := by
  unfold turnCmd at k
  try dsimp only at k
  repeat' first
    | split at k
    | (simp only [reduceCtorEq] at k; done)
    | obtain rfl := Option.some.inj k
  all_goals first
    | with_reducible exact (execTrnClr_keeps e).mono (by decide)
    | with_reducible exact (execTrnCtrlWrite_keeps e).mono (by decide)
    | (rw [← Host.Outcome.next.inj e]
       repeat' first
        | with_reducible exact .refl _ _
        | with_reducible refine .ite _ ?_ ?_)
    | (split at e
       all_goals first
        | with_reducible exact (execTrnClr_keeps e).mono (by decide)
        | with_reducible exact (execTrnCtrlWrite_keeps e).mono (by decide)
        | (rw [← Host.Outcome.next.inj e]
           repeat' first
            | with_reducible exact .refl _ _))


theorem ingCmd_keeps {w off o v c x t} (k : ingCmd w off o v = some c) (e : c x = .next t) : Keeps anything x t := by
  unfold ingCmd at k
  try dsimp only at k
  repeat' first
    | split at k
    | (simp only [reduceCtorEq] at k; done)
    | obtain rfl := Option.some.inj k
  all_goals first
    | with_reducible exact (execIngLaneMaskWrite_keeps e).mono (by decide)
    | with_reducible exact (execIngLaneClr_keeps e).mono (by decide)
    | with_reducible exact (execIngRxClr_keeps e).mono (by decide)
    | (rw [← Host.Outcome.next.inj e]
       repeat' first
        | with_reducible exact .refl _ _
        | with_reducible refine State.rxCtrlWrite_keeps ?_
        | with_reducible refine State.writeIf_keeps ?_
        | with_reducible refine State.pathWrite_keeps ?_
        | with_reducible refine .ite _ ?_ ?_)
    | (split at e
       all_goals first
        | with_reducible exact (execIngLaneMaskWrite_keeps e).mono (by decide)
        | with_reducible exact (execIngLaneClr_keeps e).mono (by decide)
        | with_reducible exact (execIngRxClr_keeps e).mono (by decide)
        | (rw [← Host.Outcome.next.inj e]
           repeat' first
            | with_reducible exact .refl _ _
            | with_reducible refine State.rxCtrlWrite_keeps ?_
            | with_reducible refine State.writeIf_keeps ?_
            | with_reducible refine State.pathWrite_keeps ?_))


theorem cmpCmd_keeps {w o v c x t} (k : cmpCmd w o v = some c) (e : c x = .next t) : Keeps anything x t := by
  unfold cmpCmd at k
  try dsimp only at k
  repeat' first
    | split at k
    | (simp only [reduceCtorEq] at k; done)
    | obtain rfl := Option.some.inj k
  all_goals first
    | with_reducible exact (execCmpSlotCommit_keeps e).mono (by decide)
    | with_reducible exact (execCmpSlotClr_keeps e).mono (by decide)
    | (rw [← Host.Outcome.next.inj e]
       repeat' first
        | with_reducible exact .refl _ _
        | with_reducible refine .ite _ ?_ ?_)
    | (split at e
       all_goals first
        | with_reducible exact (execCmpSlotCommit_keeps e).mono (by decide)
        | with_reducible exact (execCmpSlotClr_keeps e).mono (by decide)
        | (rw [← Host.Outcome.next.inj e]
           repeat' first
            | with_reducible exact .refl _ _))


theorem safCmd_keeps {w o v c x t} (k : safCmd w o v = some c) (e : c x = .next t) : Keeps anything x t := by
  unfold safCmd at k
  try dsimp only at k
  repeat' first
    | split at k
    | (simp only [reduceCtorEq] at k; done)
    | obtain rfl := Option.some.inj k
  all_goals first
    | with_reducible exact (execSafClr_keeps e).mono (by decide)
    | with_reducible exact (execSafAreaWrite_keeps e).mono (by decide)
    | (rw [← Host.Outcome.next.inj e]
       repeat' first
        | with_reducible exact .refl _ _
        | with_reducible refine .ite _ ?_ ?_)
    | (split at e
       all_goals first
        | with_reducible exact (execSafClr_keeps e).mono (by decide)
        | with_reducible exact (execSafAreaWrite_keeps e).mono (by decide)
        | (rw [← Host.Outcome.next.inj e]
           repeat' first
            | with_reducible exact .refl _ _))


theorem runCmd_keeps {w off n v x t} (e : runCmd w off n v x = .next t) : Keeps anything x t := by
  unfold runCmd at e
  try dsimp only at e
  repeat' first
    | with_reducible exact (execSlotStart_keeps e).mono (by decide)
    | with_reducible exact (execSlotStop_keeps e).mono (by decide)
    | with_reducible exact (execSlotCommit_keeps e).mono (by decide)
    | split at e
    | exact ((State.draw_keeps (.refl _ _)).trans (execMrRead_keeps e |>.mono (by decide)))
    | (rw [← Host.Outcome.next.inj e]
       repeat' first
        | with_reducible exact .refl _ _
        | with_reducible refine State.plainWrite_keeps ?_
        | with_reducible refine State.slotCommand_keeps ?_)


theorem encCmd_keeps {w off o v c x t} (k : encCmd w off o v = some c) (e : c x = .next t) : Keeps anything x t := by
  unfold encCmd at k
  try dsimp only at k
  repeat' first
    | split at k
    | (simp only [reduceCtorEq] at k; done)
    | obtain rfl := Option.some.inj k
  all_goals first
    | with_reducible exact (execEffortFloorWrite_keeps e).mono (by decide)
    | with_reducible exact (execEncEffortCntClr_keeps e).mono (by decide)
    | with_reducible exact (execEncLateClr_keeps e).mono (by decide)
    | with_reducible exact (execEncBsClr_keeps e).mono (by decide)
    | with_reducible exact (execEncPktClr_keeps e).mono (by decide)
    | with_reducible exact runCmd_keeps e
    | (rw [← Host.Outcome.next.inj e]
       repeat' first
        | with_reducible exact .refl _ _
        | with_reducible refine .ite _ ?_ ?_)
    | (split at e
       all_goals first
        | with_reducible exact (execEffortFloorWrite_keeps e).mono (by decide)
        | with_reducible exact (execEncEffortCntClr_keeps e).mono (by decide)
        | with_reducible exact (execEncLateClr_keeps e).mono (by decide)
        | with_reducible exact (execEncBsClr_keeps e).mono (by decide)
        | with_reducible exact (execEncPktClr_keeps e).mono (by decide)
        | with_reducible exact runCmd_keeps e
        | (rw [← Host.Outcome.next.inj e]
           repeat' first
            | with_reducible exact .refl _ _))


theorem rcCmd_keeps {w o v c x t} (k : rcCmd w o v = some c) (e : c x = .next t) : Keeps anything x t := by
  unfold rcCmd at k
  try dsimp only at k
  repeat' first
    | split at k
    | (simp only [reduceCtorEq] at k; done)
    | obtain rfl := Option.some.inj k
  all_goals first
    | with_reducible exact (execRcBsClr_keeps e).mono (by decide)
    | (rw [← Host.Outcome.next.inj e]
       repeat' first
        | with_reducible exact .refl _ _
        | with_reducible refine .ite _ ?_ ?_)
    | (split at e
       all_goals first
        | with_reducible exact (execRcBsClr_keeps e).mono (by decide)
        | (rw [← Host.Outcome.next.inj e]
           repeat' first
            | with_reducible exact .refl _ _))


theorem decCmd_keeps {w o v c x t} (k : decCmd w o v = some c) (e : c x = .next t) : Keeps anything x t := by
  unfold decCmd at k
  try dsimp only at k
  repeat' first
    | split at k
    | (simp only [reduceCtorEq] at k; done)
    | obtain rfl := Option.some.inj k
  all_goals first
    | with_reducible exact (execDecBsClr_keeps e).mono (by decide)
    | (rw [← Host.Outcome.next.inj e]
       repeat' first
        | with_reducible exact .refl _ _
        | with_reducible refine .ite _ ?_ ?_)
    | (split at e
       all_goals first
        | with_reducible exact (execDecBsClr_keeps e).mono (by decide)
        | (rw [← Host.Outcome.next.inj e]
           repeat' first
            | with_reducible exact .refl _ _))


theorem scnCmd_keeps {w off o v c x t} (k : scnCmd w off o v = some c) (e : c x = .next t) : Keeps anything x t := by
  unfold scnCmd at k
  try dsimp only at k
  repeat' first
    | split at k
    | (simp only [reduceCtorEq] at k; done)
    | obtain rfl := Option.some.inj k
  all_goals first
    | with_reducible exact (execScnLaneCommit_keeps e).mono (by decide)
    | with_reducible exact (execScnLaneClr_keeps e).mono (by decide)
    | (rw [← Host.Outcome.next.inj e]
       repeat' first
        | with_reducible exact .refl _ _
        | with_reducible refine State.plainWrite_keeps ?_
        | with_reducible refine State.scnDisable_keeps ?_
        | with_reducible refine .ite _ ?_ ?_)
    | (split at e
       all_goals first
        | with_reducible exact (execScnLaneCommit_keeps e).mono (by decide)
        | with_reducible exact (execScnLaneClr_keeps e).mono (by decide)
        | (rw [← Host.Outcome.next.inj e]
           repeat' first
            | with_reducible exact .refl _ _
            | with_reducible refine State.plainWrite_keeps ?_
            | with_reducible refine State.scnDisable_keeps ?_))


theorem audCmd_keeps {w off o v c x t} (k : audCmd w off o v = some c) (e : c x = .next t) : Keeps anything x t := by
  unfold audCmd at k
  try dsimp only at k
  repeat' first
    | split at k
    | (simp only [reduceCtorEq] at k; done)
    | obtain rfl := Option.some.inj k
  all_goals first
    | with_reducible exact (execAudCntClr_keeps e).mono (by decide)
    | with_reducible exact (execAudPortWrite_keeps e).mono (by decide)
    | with_reducible exact (execAudRouteWrite_keeps e).mono (by decide)
    | (rw [← Host.Outcome.next.inj e]
       repeat' first
        | with_reducible exact .refl _ _
        | with_reducible refine State.audCtrl_keeps ?_
        | with_reducible refine State.audChannels_keeps ?_
        | with_reducible refine .ite _ ?_ ?_)
    | (split at e
       all_goals first
        | with_reducible exact (execAudCntClr_keeps e).mono (by decide)
        | with_reducible exact (execAudPortWrite_keeps e).mono (by decide)
        | with_reducible exact (execAudRouteWrite_keeps e).mono (by decide)
        | (rw [← Host.Outcome.next.inj e]
           repeat' first
            | with_reducible exact .refl _ _
            | with_reducible refine State.audCtrl_keeps ?_
            | with_reducible refine State.audChannels_keeps ?_))


theorem trpCmd_keeps {w off o v c x t} (k : trpCmd w off o v = some c) (e : c x = .next t) : Keeps anything x t := by
  unfold trpCmd at k
  try dsimp only at k
  repeat' first
    | split at k
    | (simp only [reduceCtorEq] at k; done)
    | obtain rfl := Option.some.inj k
  all_goals first
    | with_reducible exact (execTrpCtrlWrite_keeps e).mono (by decide)
    | with_reducible exact (execTrpClr_keeps e).mono (by decide)
    | (rw [← Host.Outcome.next.inj e]
       repeat' first
        | with_reducible exact .refl _ _
        | with_reducible refine State.hbWrite_keeps ?_
        | with_reducible refine State.writeIf_keeps ?_
        | with_reducible refine State.trpArea_keeps ?_
        | with_reducible refine .ite _ ?_ ?_)
    | (split at e
       all_goals first
        | with_reducible exact (execTrpCtrlWrite_keeps e).mono (by decide)
        | with_reducible exact (execTrpClr_keeps e).mono (by decide)
        | (rw [← Host.Outcome.next.inj e]
           repeat' first
            | with_reducible exact .refl _ _
            | with_reducible refine State.hbWrite_keeps ?_
            | with_reducible refine State.writeIf_keeps ?_
            | with_reducible refine State.trpArea_keeps ?_))


set_option maxRecDepth 4000 in
theorem rowCmd_keeps {w off v c x t} (k : rowCmd w off v = some c) (e : c x = .next t) : Keeps anything x t := by
  unfold rowCmd at k
  dsimp only at k
  split at k
  all_goals first
    | with_reducible exact hifCmd_keeps k e
    | with_reducible exact pwrCmd_keeps k e
    | with_reducible exact thmCmd_keeps k e
    | with_reducible exact ldgCmd_keeps k e
    | with_reducible exact timCmd_keeps k e
    | with_reducible exact brkCmd_keeps k e
    | with_reducible exact jugCmd_keeps k e
    | with_reducible exact chkCmd_keeps k e
    | with_reducible exact dmcCmd_keeps k e
    | with_reducible exact laneCmd_keeps k e
    | with_reducible exact aknCmd_keeps k e
    | with_reducible exact carCmd_keeps k e
    | with_reducible exact turnCmd_keeps k e
    | with_reducible exact ingCmd_keeps k e
    | with_reducible exact cmpCmd_keeps k e
    | with_reducible exact safCmd_keeps k e
    | with_reducible exact encCmd_keeps k e
    | with_reducible exact rcCmd_keeps k e
    | with_reducible exact decCmd_keeps k e
    | with_reducible exact scnCmd_keeps k e
    | with_reducible exact audCmd_keeps k e
    | with_reducible exact trpCmd_keeps k e
    | cases k

theorem State.writeWord_keeps {m0 s0 s w off v} (h0 : Keeps m0 s0 s) (hw0 : within anything m0 = true := by decide) :
    Keeps m0 s0 (State.writeWord s w off v) := by
  refine h0.app hw0 ?_
  unfold State.writeWord
  refine .ite _ (State.pwrResetWrite_keeps (.refl _ _)) (.ite _ (State.modeWrite_keeps (.refl _ _))
    (.ite _ (State.windowWord_keeps (.refl _ _)) (.ite _ (.refl _ _) (State.byWriter_keeps (fun u h => ?_) (.refl _ _)))))
  split
  · next c k => exact State.run_keeps (fun x t e => rowCmd_keeps k e) h
  · exact State.plainWrite_keeps h

theorem execRegisterWrite_keeps {w off form value s t0} (e0 : execRegisterWrite w off form value s = .next t0) : Keeps anything s t0 := by
  rw [← Host.Outcome.next.inj e0]
  try dsimp only
  repeat' first
    | with_reducible exact .refl _ _
    | with_reducible assumption
    | with_reducible refine .ite _ ?_ ?_
    | with_reducible refine State.writeWord_keeps ?_
    | fail_if_no_progress with_reducible refine Keeps.mk' ?_
    | split
    | dsimp only

theorem State.readField_keeps {m0 s0 s f} (h0 : Keeps m0 s0 s) (hw0 : within 0xffffffffffffffffffffffffffffffffffffffffffffffffffffffffffffffffffffffffffffffffffffffffffffffffffffffffffffffffffffffffffffffffffffffffffffffffffffffffffffffffffffffffffffffffffffffffffffffffffffffffffffffffffffffffffffffffffffffffffffffffffffffffffffffff0000004000000000 m0 = true := by decide) :
    Keeps m0 s0 (State.readField s f).2 := by
  have k : ∀ v, Keeps m0 s0 ((State.draw s).2.set f v) := fun v =>
    State.set_keeps (bit_within (registers_bit _ (Nat.mod_lt _ (by decide))) (within_trans (by decide) hw0))
      (State.draw_keeps h0 (within_trans (by decide) hw0))
  unfold State.readField
  dsimp only
  repeat' first
    | with_reducible exact h0
    | with_reducible exact k _
    | split

theorem State.readFields_keeps {m0 s0 s l} (h0 : Keeps m0 s0 s) (hw0 : within 0xffffffffffffffffffffffffffffffffffffffffffffffffffffffffffffffffffffffffffffffffffffffffffffffffffffffffffffffffffffffffffffffffffffffffffffffffffffffffffffffffffffffffffffffffffffffffffffffffffffffffffffffffffffffffffffffffffffffffffffffffffffffffffffffff0000004000000000 m0 = true := by decide) :
    Keeps m0 s0 (State.readFields s l).2 := by
  induction l generalizing s with
  | nil => exact h0
  | cons f l ih => exact ih (State.readField_keeps h0 hw0)

theorem State.readWord_keeps {m0 s0 s f off} (h0 : Keeps m0 s0 s) (hw0 : within 0xffffffffffffffffffffffffffffffffffffffffffffffffffffffffffffffffffffffffffffffffffffffffffffffffffffffffffffffffffffffffffffffffffffffffffffffffffffffffffffffffffffffffffffffffffffffffffffffffffffffffffffffffffffffffffffffffffffffffffffffffffffffffffffffff0000004000000001 m0 = true := by decide) :
    Keeps m0 s0 (State.readWord s f off).2 := by
  refine h0.app hw0 ?_
  unfold State.readWord
  dsimp only
  repeat' first
    | with_reducible exact .refl _ _
    | with_reducible refine State.readFields_keeps ?_
    | fail_if_no_progress with_reducible refine Keeps.mk' ?_
    | split

theorem State.answer_keeps {m0 s0 f off r} (h0 : Keeps m0 s0 r.2) : Keeps m0 s0 (State.answer f off r) := State.emit_keeps h0

theorem State.readAs_keeps {m0 s0 s r off form} (h0 : Keeps m0 s0 s) (hw0 : within 0xffffffffffffffffffffffffffffffffffffffffffffffffffffffffffffffffffffffffffffffffffffffffffffffffffffffffffffffffffffffffffffffffffffffffffffffffffffffffffffffffffffffffffffffffffffffffffffffffffffffffffffffffffffffffffffffffffffffffffffffffffffffffffffffff0000004000000001 m0 = true := by decide) :
    Keeps m0 s0 (State.readAs s r off form) := by
  refine h0.app hw0 ?_
  unfold State.readAs
  try dsimp only
  repeat' first
    | with_reducible exact .refl _ _
    | with_reducible assumption
    | with_reducible refine .ite _ ?_ ?_
    | with_reducible refine State.readWord_keeps ?_
    | with_reducible refine State.readWord_keepsP (by assumption) ?_
    | with_reducible refine State.emit_keeps ?_
    | with_reducible refine State.answer_keeps ?_
    | fail_if_no_progress with_reducible refine Keeps.mk' ?_
    | split
    | dsimp only

theorem execLowWordRead_keeps {w off form s t0} (e0 : execLowWordRead w off form s = .next t0) : Keeps 0xffffffffffffffffffffffffffffffffffffffffffffffffffffffffffffffffffffffffffffffffffffffffffffffffffffffffffffffffffffffffffffffffffffffffffffffffffffffffffffffffffffffffffffffffffffffffffffffffffffffffffffffffffffffffffffffffffffffffffffffffffffffffffffffff0000005e81000003 s t0 := by
  rw [← Host.Outcome.next.inj e0]
  try dsimp only
  repeat' first
    | with_reducible exact .refl _ _
    | with_reducible assumption
    | with_reducible refine .ite _ ?_ ?_
    | with_reducible refine State.readWord_keeps ?_
    | with_reducible refine State.readWord_keepsP (by assumption) ?_
    | with_reducible refine State.readAs_keeps ?_
    | with_reducible refine State.logReg_keeps ?_
    | split
    | dsimp only

end Sys2Proof.Machine
end

