-- ==== Sys2Proof/Laws/KeepsConfigOps.lean ====
section
/-! SUPPORT. What each operation of Machine/ConfigOps.lean may change (Laws/Keeps.lean). -/

namespace Sys2Proof.Machine

set_option Elab.async false
set_option linter.unusedTactic false
set_option linter.unusedSimpArgs false
set_option linter.unreachableTactic false

theorem actConfigWrite_keeps {m0 s0 d t s} (h0 : Keeps m0 s0 s) (hw0 : within 0xffffffffffffffffffffffffffffffffffffffffffffffffffffffffffffffffffffffffffffffffffffffffffffffffffffffffffffffffffffffffffffffffffffffffffffffffffffffffffffffffffffffffffffffffffffffffffffffffffffffffffffffffffffffffffffffffffffffffffffffffffffffffffffffff0000001e81000002 m0 = true := by decide) :
    Keeps m0 s0 (actConfigWrite d t s) := by
  refine h0.app hw0 ?_
  unfold actConfigWrite
  try dsimp only
  repeat' first
    | with_reducible exact .refl _ _
    | with_reducible assumption
    | with_reducible refine State.complete_keeps ?_
    | with_reducible refine State.logDesc_keeps ?_
    | with_reducible refine State.mirrorCfg_keeps ?_
    | with_reducible refine State.putFields_keeps ?_
    | fail_if_no_progress with_reducible refine Keeps.mk' ?_
    | split
    | dsimp only

theorem execConfigWrite_keeps {d s t0} (e0 : execConfigWrite d s = .next t0) : Keeps 0xffffffffffffffffffffffffffffffffffffffffffffffffffffffffffffffffffffffffffffffffffffffffffffffffffffffffffffffffffffffffffffffffffffffffffffffffffffffffffffffffffffffffffffffffffffffffffffffffffffffffffffffffffffffffffffffffffffffffffffffffffffffffffffffff0000001e8180000a s t0 := by
  rw [← Host.Outcome.next.inj e0]
  try dsimp only
  repeat' first
    | with_reducible exact .refl _ _
    | with_reducible assumption
    | with_reducible refine actConfigWrite_keeps ?_
    | with_reducible refine State.runDesc_keeps (fun _ _ _ => ?_) ?_
    | split
    | dsimp only

theorem State.windowBytes_keeps {m0 s0 s f off n} (h0 : Keeps m0 s0 s) (hw0 : within 0xffffffffffffffffffffffffffffffffffffffffffffffffffffffffffffffffffffffffffffffffffffffffffffffffffffffffffffffffffffffffffffffffffffffffffffffffffffffffffffffffffffffffffffffffffffffffffffffffffffffffffffffffffffffffffffffffffffffffffffffffffffffffffffffff0000004000000000 m0 = true := by decide) :
    Keeps m0 s0 (State.windowBytes s f off n).2 := by
  induction n generalizing s off with
  | zero => exact h0
  | succ n ih => exact ih (State.readFields_keeps h0 (within_trans (by decide) hw0))

theorem State.windowBytes_keepsP {m0 s0 t0 x0 s f off n} (e0 : State.windowBytes s f off n = (x0, t0)) (h0 : Keeps m0 s0 s)
    (hw0 : within 0xffffffffffffffffffffffffffffffffffffffffffffffffffffffffffffffffffffffffffffffffffffffffffffffffffffffffffffffffffffffffffffffffffffffffffffffffffffffffffffffffffffffffffffffffffffffffffffffffffffffffffffffffffffffffffffffffffffffffffffffffffffffffffffffff0000004000000000 m0 = true := by decide) : Keeps m0 s0 t0 := by
  have := State.windowBytes_keeps (f := f) (off := off) (n := n) h0 hw0
  rwa [e0] at this

theorem actConfigRead_keeps {m0 s0 d t s} (h0 : Keeps m0 s0 s) (hw0 : within 0xffffffffffffffffffffffffffffffffffffffffffffffffffffffffffffffffffffffffffffffffffffffffffffffffffffffffffffffffffffffffffffffffffffffffffffffffffffffffffffffffffffffffffffffffffffffffffffffffffffffffffffffffffffffffffffffffffffffffffffffffffffffffffffffff0000004680000000 m0 = true := by decide) :
    Keeps m0 s0 (actConfigRead d t s) := by
  refine h0.app hw0 ?_
  unfold actConfigRead
  try dsimp only
  repeat' first
    | with_reducible exact .refl _ _
    | with_reducible assumption
    | with_reducible refine .ite _ ?_ ?_
    | with_reducible refine State.complete_keeps ?_
    | with_reducible refine State.windowBytes_keeps ?_
    | with_reducible refine State.windowBytes_keepsP (by assumption) ?_
    | with_reducible refine State.hostWrite_keeps ?_
    | fail_if_no_progress with_reducible refine Keeps.mk' ?_
    | split
    | dsimp only

theorem execConfigRead_keeps {d s t0} (e0 : execConfigRead d s = .next t0) : Keeps 0xffffffffffffffffffffffffffffffffffffffffffffffffffffffffffffffffffffffffffffffffffffffffffffffffffffffffffffffffffffffffffffffffffffffffffffffffffffffffffffffffffffffffffffffffffffffffffffffffffffffffffffffffffffffffffffffffffffffffffffffffffffffffffffffff0000005e8180000a s t0 := by
  rw [← Host.Outcome.next.inj e0]
  try dsimp only
  repeat' first
    | with_reducible exact .refl _ _
    | with_reducible assumption
    | with_reducible refine actConfigRead_keeps ?_
    | with_reducible refine State.runDesc_keeps (fun _ _ _ => ?_) ?_
    | split
    | dsimp only

theorem actStatsRead_keeps {m0 s0 d t s} (h0 : Keeps m0 s0 s) (hw0 : within 0x680000000 m0 = true := by decide) :
    Keeps m0 s0 (actStatsRead d t s) := by
  refine h0.app hw0 ?_
  unfold actStatsRead
  try dsimp only
  repeat' first
    | with_reducible exact .refl _ _
    | with_reducible assumption
    | with_reducible refine .ite _ ?_ ?_
    | with_reducible refine State.hostWrite_keeps ?_
    | with_reducible refine State.complete_keeps ?_
    | split
    | dsimp only

theorem execStatsRead_keeps {d s t0} (e0 : execStatsRead d s = .next t0) : Keeps 0x400000000000001800000000000000800000001a00000000001e8180000a s t0 := by
  rw [← Host.Outcome.next.inj e0]
  try dsimp only
  repeat' first
    | with_reducible exact .refl _ _
    | with_reducible assumption
    | with_reducible refine actStatsRead_keeps ?_
    | with_reducible refine State.runDesc_keeps (fun _ _ _ => ?_) ?_
    | split
    | dsimp only

end Sys2Proof.Machine
end

