-- ==== Sys2Proof/Laws/KeepsBoot.lean ====
section
/-! SUPPORT. What each operation of Machine/Boot.lean may change (Laws/Keeps.lean). -/

namespace Sys2Proof.Machine

set_option Elab.async false
set_option linter.unusedTactic false
set_option linter.unusedSimpArgs false
set_option linter.unreachableTactic false

theorem State.releasePins_keeps {m0 s0 before s} (h0 : Keeps m0 s0 s) (hw0 : within 0x0 m0 = true := by decide) :
    Keeps m0 s0 (State.releasePins before s) := by
  refine h0.app hw0 ?_
  unfold State.releasePins
  repeat' first
    | with_reducible exact .refl _ _
    | with_reducible refine .ite _ ?_ ?_
    | with_reducible refine State.emit_keeps ?_
    | dsimp only

theorem Keeps.all {s t : State} (hq : t.pending = s.pending) (ho : s.out <:+ t.out) (hs : t.Sound) : Keeps anything s t := by
  refine ⟨hq, ho, fun _ => hs, ?_, ?_, ?_, ?_, ?_, ?_, ?_, ?_, ?_, ?_, ?_, ?_, ?_, ?_, ?_, ?_, ?_, ?_, ?_, ?_, ?_, ?_, ?_, ?_, ?_, ?_, ?_, ?_, ?_, ?_, ?_, ?_, ?_, ?_, ?_, ?_, ?_, ?_, ?_, ?_⟩
  · intro f hf
    rw [anything_bit _ (by have := Nat.mod_lt f.id (show 0 < 1024 by decide); omega)] at hf
    cases hf
  all_goals (intro hf; rw [anything_bit _ (by decide)] at hf; cases hf)

theorem State.deviceReset_keeps {m0 s0 s rstLow porLow} (h0 : Keeps m0 s0 s) (hw0 : within anything m0 = true := by decide) :
    Keeps m0 s0 (State.deviceReset s rstLow porLow) := by
  refine h0.app hw0 ?_
  unfold State.deviceReset
  refine State.releasePins_keeps (State.setAll_keeps (inMask_all (fun n hn => anything_bit _ (by omega))) ?_)
  exact Keeps.all rfl (List.suffix_refl _) ⟨.nil, .nil, fun _ h => absurd h List.not_mem_nil⟩

theorem State.bootFences_keeps {m0 s0 s l} (h0 : Keeps m0 s0 s) (hw0 : within 0x1c000030100000000000000000060000000000000000000000000000000000000000000000000000000000000004000000000000018000000000000020fe000001000000000001e800000aa m0 = true := by decide) :
    Keeps m0 s0 (State.bootFences s l) := by
  induction l generalizing s with
  | nil => exact h0
  | cons u l ih =>
    cases u with
    | pair p => exact ih (State.fenceCore_keeps h0 (within_trans (by decide) hw0))
    | _ => exact ih h0

theorem State.boot_keeps {m0 s0 s strap smb b} (h0 : Keeps m0 s0 s) (hw0 : within 0xc000000000000000000000000200000000000000000000000001c0000301000000000000000000600000020700000000000860000002000000480000000000000000000000643041e0000000000018000000000000020ff2c0001000000000003e8197e8fa m0 = true := by decide) :
    Keeps m0 s0 (State.boot s strap smb b) := by
  refine h0.app hw0 ?_
  unfold State.boot
  try dsimp only [State.setAll]
  repeat' first
    | with_reducible exact .refl _ _
    | with_reducible assumption
    | with_reducible refine .ite _ ?_ ?_
    | with_reducible refine State.setPds_keeps ?_
    | with_reducible refine State.bootFences_keeps ?_
    | with_reducible refine State.halt_keeps ?_
    | with_reducible refine State.set_keeps (by first | assumption | (dsimp only [bank, Reg.PWR_BOOT_BOOT_STRAP, Reg.PWR_MODE_STATUS_ACTIVE_PAIR, Reg.PWR_MODE_STATUS_PHASE]; decide)) ?_
    | fail_if_no_progress with_reducible refine Keeps.mk' ?_
    | split
    | dsimp only

theorem State.resetFrom_keeps {m0 s0 s src} (h0 : Keeps m0 s0 s) (hw0 : within anything m0 = true := by decide) :
    Keeps m0 s0 (State.resetFrom s src) := by
  refine h0.app hw0 ?_
  unfold State.resetFrom
  repeat' first
    | with_reducible exact .refl _ _
        | with_reducible refine State.deviceReset_keeps ?_
        | with_reducible refine State.boot_keeps ?_
    | split

theorem execDeviceReset_keeps {src s t0} (e0 : execDeviceReset src s = .next t0) : Keeps anything s t0 := by
  rw [← Host.Outcome.next.inj e0]
  try dsimp only
  repeat' first
    | with_reducible exact .refl _ _
    | with_reducible assumption
    | with_reducible refine State.resetFrom_keeps ?_
    | split
    | dsimp only

theorem State.rstRise_keeps {m0 s0 s b} (h0 : Keeps m0 s0 s) (hw0 : within 0xc000000000000000000000000200000000000000000000000001c0000301000000000000000000600000020700000000000860000002000000480000000000000000000000643041e0000000000018000000000000020ff2c0001000000000003e8197e8fa m0 = true := by decide) :
    Keeps m0 s0 (State.rstRise s b) := by
  refine h0.app hw0 ?_
  unfold State.rstRise
  try dsimp only
  repeat' first
    | with_reducible exact .refl _ _
    | with_reducible assumption
    | with_reducible refine .ite _ ?_ ?_
    | with_reducible refine State.boot_keeps ?_
    | fail_if_no_progress with_reducible refine Keeps.mk' ?_
    | split
    | dsimp only

theorem execSysRstNRise_keeps {b s t0} (e0 : execSysRstNRise b s = .next t0) : Keeps 0xc000000000000000000000000200000000000000000000000001c0000301000000000000000000600000020700000000000860000002000000480000000000000000000000643041e0000000000018000000000000020ff2c0001000000000003e8197e8fa s t0 := by
  rw [← Host.Outcome.next.inj e0]
  try dsimp only
  repeat' first
    | with_reducible exact .refl _ _
    | with_reducible assumption
    | with_reducible refine State.rstRise_keeps ?_
    | split
    | dsimp only

theorem execRailDrop_keeps {s t0} (e0 : execRailDrop s = .next t0) : Keeps anything s t0 := by
  rw [← Host.Outcome.next.inj e0]
  try dsimp only
  repeat' first
    | with_reducible exact .refl _ _
    | with_reducible assumption
    | with_reducible refine State.deviceReset_keeps ?_
    | split
    | dsimp only

theorem State.porRelease_keeps {m0 s0 s b} (h0 : Keeps m0 s0 s) (hw0 : within 0xc000000000000000000000000200000000000000000000000001c0000301000000000000000000600000020700000000000860000002000000480000000000000000000000643041e0000000000018000000000000020ff2c0001000000000003e8197e8fa m0 = true := by decide) :
    Keeps m0 s0 (State.porRelease s b) := by
  refine h0.app hw0 ?_
  unfold State.porRelease
  try dsimp only
  repeat' first
    | with_reducible exact .refl _ _
    | with_reducible assumption
    | with_reducible refine .ite _ ?_ ?_
    | with_reducible refine State.boot_keeps ?_
    | fail_if_no_progress with_reducible refine Keeps.mk' ?_
    | split
    | dsimp only

theorem execPowerOnResetRelease_keeps {b s t0} (e0 : execPowerOnResetRelease b s = .next t0) : Keeps 0xc000000000000000000000000200000000000000000000000001c0000301000000000000000000600000020700000000000860000002000000480000000000000000000000643041e0000000000018000000000000020ff2c0001000000000003e8197e8fa s t0 := by
  rw [← Host.Outcome.next.inj e0]
  try dsimp only
  repeat' first
    | with_reducible exact .refl _ _
    | with_reducible assumption
    | with_reducible refine State.porRelease_keeps ?_
    | split
    | dsimp only

theorem State.runBundle_keeps {m0 s0 s l} (h0 : Keeps m0 s0 s) (hw0 : within 0x10000000000000400000000000001980008000000000000240001000000000001e80200002 m0 = true := by decide) :
    Keeps m0 s0 (State.runBundle s l) := by
  refine h0.app hw0 ?_
  unfold State.runBundle
  try dsimp only
  repeat' first
    | with_reducible exact .refl _ _
    | with_reducible assumption
    | with_reducible refine .ite _ ?_ ?_
    | with_reducible refine State.takeBundle_keeps ?_
    | with_reducible refine State.logUnit_keeps ?_
    | with_reducible refine State.setRank_keeps ?_
    | with_reducible refine State.set_keeps (by first | assumption | (dsimp only [bank, Reg.PWR_MODE_STATUS_PHASE, Reg.PWR_SERVICE_REASON]; decide)) ?_
    | with_reducible refine .foldl _ _ ?_ (fun _ _ _ => ?_)
    | split
    | dsimp only

theorem State.imageLoaded_keeps {m0 s0 s a b} (h0 : Keeps m0 s0 s) (hw0 : within 0x10000000000000400000000000001980009a00000000000a40001000000000001e80200002 m0 = true := by decide) :
    Keeps m0 s0 (State.imageLoaded s a b) := by
  refine h0.app hw0 ?_
  unfold State.imageLoaded
  try dsimp only [State.setAll]
  repeat' first
    | with_reducible exact .refl _ _
    | with_reducible assumption
    | with_reducible refine .ite _ ?_ ?_
    | with_reducible refine State.runBundle_keeps ?_
    | with_reducible refine State.set_keeps (by first | assumption | (dsimp only [bank, Reg.FW_BANK_STATUS_BANK_A, Reg.FW_BANK_STATUS_BANK_B, Reg.FW_BOOT_STATUS_BANK, Reg.PWR_BOOT_BOOT_STRAP, Reg.PWR_BOOT_BOOT_USED, Reg.PWR_MODE_STATUS_PHASE, Reg.PWR_SERVICE_REASON]; decide)) ?_
    | fail_if_no_progress with_reducible refine Keeps.mk' ?_
    | split
    | dsimp only

theorem execSupervisorImageLoaded_keeps {a b s t0} (e0 : execSupervisorImageLoaded a b s = .next t0) : Keeps 0x10000000000000400000000000001980009a00000000000a40001000000000001e80200002 s t0 := by
  rw [← Host.Outcome.next.inj e0]
  try dsimp only
  repeat' first
    | with_reducible exact .refl _ _
    | with_reducible assumption
    | with_reducible refine State.imageLoaded_keeps ?_
    | split
    | dsimp only

theorem State.pcieGo_keeps {m0 s0 s w v bundle} (h0 : Keeps m0 s0 s) (hw0 : within 0x1000000000000040000000000000198000c600000000000a40001000000000001e81200002 m0 = true := by decide) :
    Keeps m0 s0 (State.pcieGo s w v bundle) := by
  refine h0.app hw0 ?_
  unfold State.pcieGo
  try dsimp only [State.setAll]
  repeat' first
    | with_reducible exact .refl _ _
    | with_reducible assumption
    | with_reducible refine .ite _ ?_ ?_
    | with_reducible refine State.logReg_keeps ?_
    | with_reducible refine State.runBundle_keeps ?_
    | with_reducible refine State.set_keeps (by first | assumption | (dsimp only [bank, Reg.FW_BOOT_STATUS_BANK, Reg.FW_BOOT_STATUS_PCIE_STATUS, Reg.FW_PCIE_CTRL_LEN, Reg.PWR_BOOT_BOOT_STRAP, Reg.PWR_BOOT_BOOT_USED]; decide)) ?_
    | with_reducible refine State.byWriter_keeps (fun _ _ => ?_) ?_
    | split
    | dsimp only

theorem execFwPcieGo_keeps {w value bundle s t0} (e0 : execFwPcieGo w value bundle s = .next t0) : Keeps 0x1000000000000040000000000000198000c600000000000a40001000000000001e81200002 s t0 := by
  rw [← Host.Outcome.next.inj e0]
  try dsimp only
  repeat' first
    | with_reducible exact .refl _ _
    | with_reducible assumption
    | with_reducible refine State.pcieGo_keeps ?_
    | split
    | dsimp only

theorem State.configPass1_keeps {m0 s0 s} (h0 : Keeps m0 s0 s) (hw0 : within anything m0 = true := by decide) :
    Keeps m0 s0 (State.configPass1 s) := by
  refine h0.app hw0 ?_
  unfold State.configPass1
  try dsimp only
  repeat' first
    | with_reducible exact .refl _ _
    | with_reducible assumption
    | with_reducible refine .ite _ ?_ ?_
    | with_reducible refine State.writeWord_keeps ?_
    | with_reducible refine State.set_keeps (by first | assumption | (dsimp only [bank, Reg.DMC_LAYOUT_NR, Reg.DMC_LAYOUT_RANK_SIZE, Reg.DMC_LAYOUT_SPARE_CH, Reg.DMC_LAYOUT_SPARE_EN, Reg.FW_STAGE_BASE]; decide)) ?_
    | with_reducible refine .foldl _ _ ?_ (fun _ _ _ => ?_)
    | split
    | dsimp only

theorem State.applyRecord_keeps {m0 s0 s w e} (h0 : Keeps m0 s0 s) (hw0 : within anything m0 = true := by decide) :
    Keeps m0 s0 (State.applyRecord s w e) := by
  refine h0.app hw0 ?_
  unfold State.applyRecord
  try dsimp only
  repeat' first
    | with_reducible exact .refl _ _
    | with_reducible assumption
    | with_reducible refine .ite _ ?_ ?_
    | with_reducible refine State.setKey_keeps ?_
    | with_reducible refine State.writeWord_keeps ?_
    | with_reducible refine State.set_keeps (by first | assumption | (dsimp only [bank, Reg.PWR_BOOT_AUTO_MODE]; decide)) ?_
    | split
    | dsimp only

theorem State.firstStable_keeps {m0 s0 s} (h0 : Keeps m0 s0 s) (hw0 : within anything m0 = true := by decide) :
    Keeps m0 s0 (State.firstStable s) := by
  refine h0.app hw0 ?_
  unfold State.firstStable
  try dsimp only
  repeat' first
    | with_reducible exact .refl _ _
    | with_reducible assumption
    | with_reducible refine .ite _ ?_ ?_
    | with_reducible refine State.applyRecord_keeps ?_
    | with_reducible refine State.ask_keeps ?_
    | with_reducible refine State.set_keeps (by first | assumption | (dsimp only [bank, Reg.PWR_BOOT_AUTO_MODE, Reg.PWR_MODE_CTRL_TARGET, Reg.PWR_MODE_STATUS_PHASE]; decide)) ?_
    | with_reducible refine .foldl _ _ ?_ (fun _ _ _ => ?_)
    | fail_if_no_progress with_reducible refine Keeps.mk' ?_
    | split
    | dsimp only

theorem State.rankDone_keeps {m0 s0 s p ok} (h0 : Keeps m0 s0 s) (hw0 : within anything m0 = true := by decide) :
    Keeps m0 s0 (State.rankDone s p ok) := by
  refine h0.app hw0 ?_
  unfold State.rankDone
  try dsimp only
  repeat' first
    | with_reducible exact .refl _ _
    | with_reducible assumption
    | with_reducible refine .ite _ ?_ ?_
    | with_reducible refine State.rankTrained_keeps ?_
    | with_reducible refine State.configPass1_keeps ?_
    | with_reducible refine State.firstStable_keeps ?_
    | with_reducible refine State.set_keeps (by first | assumption | (dsimp only [bank, Reg.PWR_MODE_STATUS_PHASE, Reg.PWR_SERVICE_REASON]; decide)) ?_
    | split
    | dsimp only

theorem execRankTrained_keeps {p ok s t0} (e0 : execRankTrained p ok s = .next t0) : Keeps anything s t0 := by
  rw [← Host.Outcome.next.inj e0]
  try dsimp only
  repeat' first
    | with_reducible exact .refl _ _
    | with_reducible assumption
    | with_reducible refine State.rankDone_keeps ?_
    | split
    | dsimp only

theorem State.autostart_keeps {m0 s0 s failed} (h0 : Keeps m0 s0 s) (hw0 : within 0xffffffffffffffffffffffffffffffffffffffffffffffffffffffffffffffffffffffffffffffffffffffffffffffffffffffffffffffffffffffffffffffffffffffffffffffffffffffffffffffffffffffffffffffffffffffffffffffffffffffffffffffffffffffffffffffffffffffffffffffffffffffffffffffff0000003e8197e9fa m0 = true := by decide) :
    Keeps m0 s0 (State.autostart s failed) := by
  refine h0.app hw0 ?_
  unfold State.autostart
  try dsimp only
  repeat' first
    | with_reducible exact .refl _ _
    | with_reducible assumption
    | with_reducible refine .ite _ ?_ ?_
    | with_reducible refine State.run_keeps (fun _ _ e => (execSlotStart_keeps e).mono (by decide)) ?_
    | with_reducible refine .foldl _ _ ?_ (fun _ _ _ => ?_)
    | fail_if_no_progress with_reducible refine Keeps.mk' ?_
    | split
    | dsimp only

theorem execAutostartSlotStart_keeps {failed s t0} (e0 : execAutostartSlotStart failed s = .next t0) : Keeps 0xffffffffffffffffffffffffffffffffffffffffffffffffffffffffffffffffffffffffffffffffffffffffffffffffffffffffffffffffffffffffffffffffffffffffffffffffffffffffffffffffffffffffffffffffffffffffffffffffffffffffffffffffffffffffffffffffffffffffffffffffffffffffffffffff0000003e8197e9fa s t0 := by
  rw [← Host.Outcome.next.inj e0]
  try dsimp only
  repeat' first
    | with_reducible exact .refl _ _
    | with_reducible assumption
    | with_reducible refine State.autostart_keeps ?_
    | split
    | dsimp only

end Sys2Proof.Machine
end

