-- ==== Sys2Proof/Laws/KeepsLaunches.lean ====
section
/-! SUPPORT. What each operation of Machine/Launches.lean may change (Laws/Keeps.lean). -/

namespace Sys2Proof.Machine

set_option Elab.async false
set_option linter.unusedTactic false
set_option linter.unusedSimpArgs false
set_option linter.unreachableTactic false

theorem opcodeAct_keeps {m0 s0 opcode d t s} (h0 : Keeps m0 s0 s) (hw0 : within anything m0 = true := by decide) :
    Keeps m0 s0 (opcodeAct opcode d t s) := by
  refine h0.app hw0 ?_
  unfold opcodeAct
  split
  all_goals first
    | exact State.complete_keeps (.refl _ _)
    | with_reducible exact actCreateRing_keeps (.refl _ _)
    | with_reducible exact actDestroyRing_keeps (.refl _ _)
    | with_reducible exact actMode_keeps (.refl _ _)
    | with_reducible exact actSlotCmd_keeps (.refl _ _)
    | with_reducible exact actConfigWrite_keeps (.refl _ _)
    | with_reducible exact actConfigRead_keeps (.refl _ _)
    | with_reducible exact actStatsRead_keeps (.refl _ _)
    | with_reducible exact actCancelTimed_keeps (.refl _ _)
    | with_reducible exact actCmpCommit_keeps (.refl _ _)
    | with_reducible exact actSurfaceLoad_keeps (.refl _ _)
    | with_reducible exact actTableLoad_keeps (.refl _ _)
    | with_reducible exact actSafLoad_keeps (.refl _ _)
    | with_reducible exact actSafEnroll_keeps (.refl _ _)
    | with_reducible exact actLaneRetrain_keeps (.refl _ _)
    | with_reducible exact actAknSend_keeps (.refl _ _)
    | with_reducible exact actCarListLoad_keeps (.refl _ _)
    | with_reducible exact actCaptureRead_keeps (.refl _ _)
    | with_reducible exact actAudioCmd_keeps (.refl _ _)
    | with_reducible exact actTemplateLoad_keeps (.refl _ _)
    | with_reducible exact actMigrate_keeps (.refl _ _)
    | with_reducible exact actChkScan_keeps (.refl _ _)
    | with_reducible exact actHealthRead_keeps (.refl _ _)
    | with_reducible exact actTakeover_keeps (.refl _ _)
    | with_reducible exact actFwStage_keeps (.refl _ _)
    | with_reducible exact actFwActivate_keeps (.refl _ _)
    | with_reducible exact actFlashWrite_keeps (.refl _ _)
    | with_reducible exact actFwFuse_keeps (.refl _ _)
    | with_reducible exact actLdgRead_keeps (.refl _ _)

theorem State.bareLaunch_keeps {m0 s0 s u kind tag} (h0 : Keeps m0 s0 s) (hw0 : within 0x46400400000000000000000000000000000000000000000000000000000020002 m0 = true := by decide) :
    Keeps m0 s0 (State.bareLaunch s u kind tag) := by
  refine h0.app hw0 ?_
  unfold State.bareLaunch
  try dsimp only
  repeat' first
    | with_reducible exact .refl _ _
    | with_reducible assumption
    | with_reducible refine .ite _ ?_ ?_
    | with_reducible refine State.launchTask_keeps ?_
    | with_reducible refine State.latch_keeps ?_
    | split
    | dsimp only

theorem State.gateFired_keeps {m0 s0 s i} (h0 : Keeps m0 s0 s) (hw0 : within 0x18 m0 = true := by decide) :
    Keeps m0 s0 (State.gateFired s i) := by
  refine h0.app hw0 ?_
  unfold State.gateFired
  try dsimp only
  repeat' first
    | with_reducible exact .refl _ _
    | with_reducible assumption
    | with_reducible refine State.setPort_keeps ?_
    | with_reducible refine State.queueGate_keeps ?_
    | fail_if_no_progress with_reducible refine Keeps.mk' ?_
    | split
    | dsimp only

theorem State.launchActs_keeps {m0 s0 s u q late decided} (h0 : Keeps m0 s0 s) (hw0 : within anything m0 = true := by decide) :
    Keeps m0 s0 (State.launchActs s u q late decided) := by
  refine h0.app hw0 ?_
  unfold State.launchActs
  try dsimp only
  repeat' first
    | with_reducible exact .refl _ _
    | with_reducible assumption
    | with_reducible refine opcodeAct_keeps ?_
    | with_reducible refine sampleFired_keeps ?_
    | with_reducible refine State.bareLaunch_keeps ?_
    | with_reducible refine State.compositionStart_keeps ?_
    | with_reducible refine State.encodeRowStart_keeps ?_
    | with_reducible refine State.releaseRow_keeps ?_
    | with_reducible refine State.decodeRowStart_keeps ?_
    | with_reducible refine State.presentFired_keeps ?_
    | with_reducible refine State.frameStartFired_keeps ?_
    | with_reducible refine State.gateFired_keeps ?_
    | fail_if_no_progress with_reducible refine Keeps.mk' ?_
    | split
    | dsimp only

theorem State.lateLaunch_keeps {m0 s0 s u tag} (h0 : Keeps m0 s0 s) (hw0 : within 0x400020000000000000000000000000000000001000000000000680000002 m0 = true := by decide) :
    Keeps m0 s0 (State.lateLaunch s u tag) := by
  refine h0.app hw0 ?_
  unfold State.lateLaunch
  try dsimp only
  repeat' first
    | with_reducible exact .refl _ _
    | with_reducible assumption
    | with_reducible refine State.raise_keeps ?_
    | with_reducible refine State.bump_keeps (by first | assumption | (dsimp only [bank, Reg.TIM_LAUNCH_LATE_CNT]; decide)) ?_
    | split
    | dsimp only

theorem State.launchDiscard_keeps {m0 s0 s q} (h0 : Keeps m0 s0 s) (hw0 : within 0x40000000000000000000000000000000000000000000000000000000000000000000000000000000000000000000000000000000000040000000000000000000000000000000000000100000000000068000002a m0 = true := by decide) :
    Keeps m0 s0 (State.launchDiscard s q) := by
  refine h0.app hw0 ?_
  unfold State.launchDiscard
  try dsimp only
  repeat' first
    | with_reducible exact .refl _ _
    | with_reducible assumption
    | with_reducible refine State.presentLate_keeps ?_
    | with_reducible refine State.complete_keeps ?_
    | fail_if_no_progress with_reducible refine Keeps.mk' ?_
    | split
    | dsimp only

theorem State.fireHead_keeps {m0 s0 s u kinds decided} (h0 : Keeps m0 s0 s) (hw0 : within anything m0 = true := by decide) :
    Keeps m0 s0 (State.fireHead s u kinds decided) := by
  refine h0.app hw0 ?_
  unfold State.fireHead
  try dsimp only
  repeat' first
    | with_reducible exact .refl _ _
    | with_reducible assumption
    | with_reducible refine .ite _ ?_ ?_
    | with_reducible refine State.setQueue_keeps ?_
    | with_reducible refine State.launchDiscard_keeps ?_
    | with_reducible refine State.lateLaunch_keeps ?_
    | with_reducible refine State.launchActs_keeps ?_
    | fail_if_no_progress with_reducible refine Keeps.mk' ?_
    | split
    | dsimp only

theorem execCompositionStart_keeps {u s t0} (e0 : execCompositionStart u s = .next t0) : Keeps anything s t0 := by
  rw [← Host.Outcome.next.inj e0]
  try dsimp only
  repeat' first
    | with_reducible exact .refl _ _
    | with_reducible assumption
    | with_reducible refine State.fireHead_keeps ?_
    | split
    | dsimp only

theorem execEncodeRowStart_keeps {u decided s t0} (e0 : execEncodeRowStart u decided s = .next t0) : Keeps anything s t0 := by
  rw [← Host.Outcome.next.inj e0]
  try dsimp only
  repeat' first
    | with_reducible exact .refl _ _
    | with_reducible assumption
    | with_reducible refine State.fireHead_keeps ?_
    | split
    | dsimp only

theorem execPacketRelease_keeps {i s t0} (e0 : execPacketRelease i s = .next t0) : Keeps anything s t0 := by
  rw [← Host.Outcome.next.inj e0]
  try dsimp only
  repeat' first
    | with_reducible exact .refl _ _
    | with_reducible assumption
    | with_reducible refine State.fireHead_keeps ?_
    | split
    | dsimp only

theorem execGateSwitch_keeps {i s t0} (e0 : execGateSwitch i s = .next t0) : Keeps anything s t0 := by
  rw [← Host.Outcome.next.inj e0]
  try dsimp only
  repeat' first
    | with_reducible exact .refl _ _
    | with_reducible assumption
    | with_reducible refine State.fireHead_keeps ?_
    | split
    | dsimp only

theorem execPresentation_keeps {i s t0} (e0 : execPresentation i s = .next t0) : Keeps anything s t0 := by
  rw [← Host.Outcome.next.inj e0]
  try dsimp only
  repeat' first
    | with_reducible exact .refl _ _
    | with_reducible assumption
    | with_reducible refine State.fireHead_keeps ?_
    | split
    | dsimp only

theorem execSampleRelease_keeps {k s t0} (e0 : execSampleRelease k s = .next t0) : Keeps anything s t0 := by
  rw [← Host.Outcome.next.inj e0]
  try dsimp only
  repeat' first
    | with_reducible exact .refl _ _
    | with_reducible assumption
    | with_reducible refine .ite _ ?_ ?_
    | with_reducible refine State.fireHead_keeps ?_
    | with_reducible refine State.frozenFrame_keeps ?_
    | split
    | dsimp only

theorem execDecodeRowStart_keeps {u s t0} (e0 : execDecodeRowStart u s = .next t0) : Keeps anything s t0 := by
  rw [← Host.Outcome.next.inj e0]
  try dsimp only
  repeat' first
    | with_reducible exact .refl _ _
    | with_reducible assumption
    | with_reducible refine State.fireHead_keeps ?_
    | split
    | dsimp only

theorem execScanOutFrameStart_keeps {i s t0} (e0 : execScanOutFrameStart i s = .next t0) : Keeps anything s t0 := by
  rw [← Host.Outcome.next.inj e0]
  try dsimp only
  repeat' first
    | with_reducible exact .refl _ _
    | with_reducible assumption
    | with_reducible refine State.fireHead_keeps ?_
    | split
    | dsimp only

theorem execGenericEvent_keeps {u s t0} (e0 : execGenericEvent u s = .next t0) : Keeps anything s t0 := by
  rw [← Host.Outcome.next.inj e0]
  try dsimp only
  repeat' first
    | with_reducible exact .refl _ _
    | with_reducible assumption
    | with_reducible refine .ite _ ?_ ?_
    | with_reducible refine State.fireHead_keeps ?_
    | split
    | dsimp only

end Sys2Proof.Machine
end

