-- ==== Sys2Proof/Laws/KeepsTick.lean ====
section
/-! SUPPORT. What each operation of Machine/Tick.lean may change (Laws/Keeps.lean). -/

namespace Sys2Proof.Machine

set_option Elab.async false
set_option linter.unusedTactic false
set_option linter.unusedSimpArgs false
set_option linter.unreachableTactic false



theorem State.advance_keeps {m0 s0 s} (h0 : Keeps m0 s0 s) (hw0 : within 0xc60200000000000000000000000000180040000000000000000000000000000000000000000000000000000000000000000000000000000000000000000038c1f200000000000041e000000800001000000000000000000000001000000000007e8105d82e m0 = true := by decide) :
    Keeps m0 s0 (State.advance s) := by
  refine h0.app hw0 ?_
  unfold State.advance
  try dsimp only
  repeat' first
    | with_reducible exact .refl _ _
    | with_reducible assumption
    | with_reducible refine State.tickTime_keeps ?_
    | with_reducible refine State.ledgerTick_keeps ?_
    | with_reducible refine State.trapezeTick_keeps ?_
    | with_reducible refine State.armAudio_keeps ?_
    | with_reducible refine State.presentTick_keeps ?_
    | with_reducible refine State.fillTick_keeps ?_
    | with_reducible refine State.migrationTick_keeps ?_
    | with_reducible refine State.barkerTick_keeps ?_
    | fail_if_no_progress with_reducible refine Keeps.mk' ?_
    | split
    | dsimp only

theorem State.tick_keeps {m0 s0 s} (h0 : Keeps m0 s0 s) (hw0 : within 0xc602000000000000000000000600003800400000000000000001c0000301000000000000000000600000000000000000000000000000000000000000000038c1f200000000000041e000000800001800000000000002800160001000000000007e8195f8ae m0 = true := by decide) :
    Keeps m0 s0 (State.tick s) := by
  refine h0.app hw0 ?_
  unfold State.tick
  try dsimp only
  repeat' first
    | with_reducible exact .refl _ _
    | with_reducible assumption
    | with_reducible refine .ite _ ?_ ?_
    | with_reducible refine State.judgeAsked_keeps ?_
    | with_reducible refine State.advance_keeps ?_
    | split
    | dsimp only

end Sys2Proof.Machine
end

