-- ==== Sys2Proof/Laws/State.lean ====
section
/-! SUPPORT. What each update of one part leaves of the others, and what the part reads as after it. -/

namespace Sys2Proof.Machine

set_option Elab.async false

@[simp] theorem State.set_latches (s : State) (f : Field) (v : Nat) : (s.set f v).latches = s.latches := rfl
@[simp] theorem State.set_fresh (s : State) (f : Field) (v : Nat) : (s.set f v).fresh = s.fresh := rfl
@[simp] theorem State.set_lc (s : State) (f : Field) (v : Nat) : (s.set f v).lc = s.lc := rfl
@[simp] theorem State.set_tim (s : State) (f : Field) (v : Nat) : (s.set f v).tim = s.tim := rfl
@[simp] theorem State.set_egr (s : State) (f : Field) (v : Nat) : (s.set f v).egr = s.egr := rfl
@[simp] theorem State.set_slots (s : State) (f : Field) (v : Nat) : (s.set f v).slots = s.slots := rfl
@[simp] theorem State.set_rx (s : State) (f : Field) (v : Nat) : (s.set f v).rx = s.rx := rfl
@[simp] theorem State.set_cmps (s : State) (f : Field) (v : Nat) : (s.set f v).cmps = s.cmps := rfl
@[simp] theorem State.set_safs (s : State) (f : Field) (v : Nat) : (s.set f v).safs = s.safs := rfl
@[simp] theorem State.set_safKey (s : State) (f : Field) (v : Nat) : (s.set f v).safKey = s.safKey := rfl
@[simp] theorem State.set_safFaultPin (s : State) (f : Field) (v : Nat) : (s.set f v).safFaultPin = s.safFaultPin := rfl
@[simp] theorem State.set_lanes (s : State) (f : Field) (v : Nat) : (s.set f v).lanes = s.lanes := rfl
@[simp] theorem State.set_wires (s : State) (f : Field) (v : Nat) : (s.set f v).wires = s.wires := rfl
@[simp] theorem State.set_scns (s : State) (f : Field) (v : Nat) : (s.set f v).scns = s.scns := rfl
@[simp] theorem State.set_trp (s : State) (f : Field) (v : Nat) : (s.set f v).trp = s.trp := rfl
@[simp] theorem State.set_aud (s : State) (f : Field) (v : Nat) : (s.set f v).aud = s.aud := rfl
@[simp] theorem State.set_dram (s : State) (f : Field) (v : Nat) : (s.set f v).dram = s.dram := rfl
@[simp] theorem State.set_tasks (s : State) (f : Field) (v : Nat) : (s.set f v).tasks = s.tasks := rfl
@[simp] theorem State.set_brk (s : State) (f : Field) (v : Nat) : (s.set f v).brk = s.brk := rfl
@[simp] theorem State.set_scans (s : State) (f : Field) (v : Nat) : (s.set f v).scans = s.scans := rfl
@[simp] theorem State.set_trans (s : State) (f : Field) (v : Nat) : (s.set f v).trans = s.trans := rfl
@[simp] theorem State.set_fw (s : State) (f : Field) (v : Nat) : (s.set f v).fw = s.fw := rfl
@[simp] theorem State.set_thm (s : State) (f : Field) (v : Nat) : (s.set f v).thm = s.thm := rfl
@[simp] theorem State.set_sys (s : State) (f : Field) (v : Nat) : (s.set f v).sys = s.sys := rfl
@[simp] theorem State.set_mirrorQ (s : State) (f : Field) (v : Nat) : (s.set f v).mirrorQ = s.mirrorQ := rfl
@[simp] theorem State.set_faceStep (s : State) (f : Field) (v : Nat) : (s.set f v).faceStep = s.faceStep := rfl
@[simp] theorem State.set_effortWas (s : State) (f : Field) (v : Nat) : (s.set f v).effortWas = s.effortWas := rfl
@[simp] theorem State.set_selWas (s : State) (f : Field) (v : Nat) : (s.set f v).selWas = s.selWas := rfl
@[simp] theorem State.set_standIns (s : State) (f : Field) (v : Nat) : (s.set f v).standIns = s.standIns := rfl
@[simp] theorem State.set_fns (s : State) (f : Field) (v : Nat) : (s.set f v).fns = s.fns := rfl
@[simp] theorem State.set_vfEnable (s : State) (f : Field) (v : Nat) : (s.set f v).vfEnable = s.vfEnable := rfl
@[simp] theorem State.set_rings (s : State) (f : Field) (v : Nat) : (s.set f v).rings = s.rings := rfl
@[simp] theorem State.set_masked (s : State) (f : Field) (v : Nat) : (s.set f v).masked = s.masked := rfl
@[simp] theorem State.set_pba (s : State) (f : Field) (v : Nat) : (s.set f v).pba = s.pba := rfl
@[simp] theorem State.set_unsigSince (s : State) (f : Field) (v : Nat) : (s.set f v).unsigSince = s.unsigSince := rfl
@[simp] theorem State.set_ledger (s : State) (f : Field) (v : Nat) : (s.set f v).ledger = s.ledger := rfl
@[simp] theorem State.set_limits (s : State) (f : Field) (v : Nat) : (s.set f v).limits = s.limits := rfl
@[simp] theorem State.set_mem (s : State) (f : Field) (v : Nat) : (s.set f v).mem = s.mem := rfl
@[simp] theorem State.set_free (s : State) (f : Field) (v : Nat) : (s.set f v).free = s.free := rfl
@[simp] theorem State.set_out (s : State) (f : Field) (v : Nat) : (s.set f v).out = s.out := rfl
@[simp] theorem State.set_pending (s : State) (f : Field) (v : Nat) : (s.set f v).pending = s.pending := rfl

@[simp] theorem State.freshen_regs (s : State) (f : Field) (b : Nat) : (s.freshen f b).regs = s.regs := rfl
@[simp] theorem State.freshen_latches (s : State) (f : Field) (b : Nat) : (s.freshen f b).latches = s.latches := rfl
@[simp] theorem State.freshen_lc (s : State) (f : Field) (b : Nat) : (s.freshen f b).lc = s.lc := rfl
@[simp] theorem State.freshen_tim (s : State) (f : Field) (b : Nat) : (s.freshen f b).tim = s.tim := rfl
@[simp] theorem State.freshen_egr (s : State) (f : Field) (b : Nat) : (s.freshen f b).egr = s.egr := rfl
@[simp] theorem State.freshen_slots (s : State) (f : Field) (b : Nat) : (s.freshen f b).slots = s.slots := rfl
@[simp] theorem State.freshen_rx (s : State) (f : Field) (b : Nat) : (s.freshen f b).rx = s.rx := rfl
@[simp] theorem State.freshen_cmps (s : State) (f : Field) (b : Nat) : (s.freshen f b).cmps = s.cmps := rfl
@[simp] theorem State.freshen_safs (s : State) (f : Field) (b : Nat) : (s.freshen f b).safs = s.safs := rfl
@[simp] theorem State.freshen_safKey (s : State) (f : Field) (b : Nat) : (s.freshen f b).safKey = s.safKey := rfl
@[simp] theorem State.freshen_safFaultPin (s : State) (f : Field) (b : Nat) : (s.freshen f b).safFaultPin = s.safFaultPin := rfl
@[simp] theorem State.freshen_lanes (s : State) (f : Field) (b : Nat) : (s.freshen f b).lanes = s.lanes := rfl
@[simp] theorem State.freshen_wires (s : State) (f : Field) (b : Nat) : (s.freshen f b).wires = s.wires := rfl
@[simp] theorem State.freshen_scns (s : State) (f : Field) (b : Nat) : (s.freshen f b).scns = s.scns := rfl
@[simp] theorem State.freshen_trp (s : State) (f : Field) (b : Nat) : (s.freshen f b).trp = s.trp := rfl
@[simp] theorem State.freshen_aud (s : State) (f : Field) (b : Nat) : (s.freshen f b).aud = s.aud := rfl
@[simp] theorem State.freshen_dram (s : State) (f : Field) (b : Nat) : (s.freshen f b).dram = s.dram := rfl
@[simp] theorem State.freshen_tasks (s : State) (f : Field) (b : Nat) : (s.freshen f b).tasks = s.tasks := rfl
@[simp] theorem State.freshen_brk (s : State) (f : Field) (b : Nat) : (s.freshen f b).brk = s.brk := rfl
@[simp] theorem State.freshen_scans (s : State) (f : Field) (b : Nat) : (s.freshen f b).scans = s.scans := rfl
@[simp] theorem State.freshen_trans (s : State) (f : Field) (b : Nat) : (s.freshen f b).trans = s.trans := rfl
@[simp] theorem State.freshen_fw (s : State) (f : Field) (b : Nat) : (s.freshen f b).fw = s.fw := rfl
@[simp] theorem State.freshen_thm (s : State) (f : Field) (b : Nat) : (s.freshen f b).thm = s.thm := rfl
@[simp] theorem State.freshen_sys (s : State) (f : Field) (b : Nat) : (s.freshen f b).sys = s.sys := rfl
@[simp] theorem State.freshen_mirrorQ (s : State) (f : Field) (b : Nat) : (s.freshen f b).mirrorQ = s.mirrorQ := rfl
@[simp] theorem State.freshen_faceStep (s : State) (f : Field) (b : Nat) : (s.freshen f b).faceStep = s.faceStep := rfl
@[simp] theorem State.freshen_effortWas (s : State) (f : Field) (b : Nat) : (s.freshen f b).effortWas = s.effortWas := rfl
@[simp] theorem State.freshen_selWas (s : State) (f : Field) (b : Nat) : (s.freshen f b).selWas = s.selWas := rfl
@[simp] theorem State.freshen_standIns (s : State) (f : Field) (b : Nat) : (s.freshen f b).standIns = s.standIns := rfl
@[simp] theorem State.freshen_fns (s : State) (f : Field) (b : Nat) : (s.freshen f b).fns = s.fns := rfl
@[simp] theorem State.freshen_vfEnable (s : State) (f : Field) (b : Nat) : (s.freshen f b).vfEnable = s.vfEnable := rfl
@[simp] theorem State.freshen_rings (s : State) (f : Field) (b : Nat) : (s.freshen f b).rings = s.rings := rfl
@[simp] theorem State.freshen_masked (s : State) (f : Field) (b : Nat) : (s.freshen f b).masked = s.masked := rfl
@[simp] theorem State.freshen_pba (s : State) (f : Field) (b : Nat) : (s.freshen f b).pba = s.pba := rfl
@[simp] theorem State.freshen_unsigSince (s : State) (f : Field) (b : Nat) : (s.freshen f b).unsigSince = s.unsigSince := rfl
@[simp] theorem State.freshen_ledger (s : State) (f : Field) (b : Nat) : (s.freshen f b).ledger = s.ledger := rfl
@[simp] theorem State.freshen_limits (s : State) (f : Field) (b : Nat) : (s.freshen f b).limits = s.limits := rfl
@[simp] theorem State.freshen_mem (s : State) (f : Field) (b : Nat) : (s.freshen f b).mem = s.mem := rfl
@[simp] theorem State.freshen_free (s : State) (f : Field) (b : Nat) : (s.freshen f b).free = s.free := rfl
@[simp] theorem State.freshen_out (s : State) (f : Field) (b : Nat) : (s.freshen f b).out = s.out := rfl
@[simp] theorem State.freshen_pending (s : State) (f : Field) (b : Nat) : (s.freshen f b).pending = s.pending := rfl
@[simp] theorem State.freshen_get (s : State) (f : Field) (b : Nat) (g : Field) : (s.freshen f b).get g = s.get g := rfl

@[simp] theorem State.resetBlock_latches (s : State) (b : List Nat) : (s.resetBlock b).latches = s.latches := rfl
@[simp] theorem State.resetBlock_fresh (s : State) (b : List Nat) : (s.resetBlock b).fresh = s.fresh := rfl
@[simp] theorem State.resetBlock_lc (s : State) (b : List Nat) : (s.resetBlock b).lc = s.lc := rfl
@[simp] theorem State.resetBlock_tim (s : State) (b : List Nat) : (s.resetBlock b).tim = s.tim := rfl
@[simp] theorem State.resetBlock_egr (s : State) (b : List Nat) : (s.resetBlock b).egr = s.egr := rfl
@[simp] theorem State.resetBlock_slots (s : State) (b : List Nat) : (s.resetBlock b).slots = s.slots := rfl
@[simp] theorem State.resetBlock_rx (s : State) (b : List Nat) : (s.resetBlock b).rx = s.rx := rfl
@[simp] theorem State.resetBlock_cmps (s : State) (b : List Nat) : (s.resetBlock b).cmps = s.cmps := rfl
@[simp] theorem State.resetBlock_safs (s : State) (b : List Nat) : (s.resetBlock b).safs = s.safs := rfl
@[simp] theorem State.resetBlock_safKey (s : State) (b : List Nat) : (s.resetBlock b).safKey = s.safKey := rfl
@[simp] theorem State.resetBlock_safFaultPin (s : State) (b : List Nat) : (s.resetBlock b).safFaultPin = s.safFaultPin := rfl
@[simp] theorem State.resetBlock_lanes (s : State) (b : List Nat) : (s.resetBlock b).lanes = s.lanes := rfl
@[simp] theorem State.resetBlock_wires (s : State) (b : List Nat) : (s.resetBlock b).wires = s.wires := rfl
@[simp] theorem State.resetBlock_scns (s : State) (b : List Nat) : (s.resetBlock b).scns = s.scns := rfl
@[simp] theorem State.resetBlock_trp (s : State) (b : List Nat) : (s.resetBlock b).trp = s.trp := rfl
@[simp] theorem State.resetBlock_aud (s : State) (b : List Nat) : (s.resetBlock b).aud = s.aud := rfl
@[simp] theorem State.resetBlock_dram (s : State) (b : List Nat) : (s.resetBlock b).dram = s.dram := rfl
@[simp] theorem State.resetBlock_tasks (s : State) (b : List Nat) : (s.resetBlock b).tasks = s.tasks := rfl
@[simp] theorem State.resetBlock_brk (s : State) (b : List Nat) : (s.resetBlock b).brk = s.brk := rfl
@[simp] theorem State.resetBlock_scans (s : State) (b : List Nat) : (s.resetBlock b).scans = s.scans := rfl
@[simp] theorem State.resetBlock_trans (s : State) (b : List Nat) : (s.resetBlock b).trans = s.trans := rfl
@[simp] theorem State.resetBlock_fw (s : State) (b : List Nat) : (s.resetBlock b).fw = s.fw := rfl
@[simp] theorem State.resetBlock_thm (s : State) (b : List Nat) : (s.resetBlock b).thm = s.thm := rfl
@[simp] theorem State.resetBlock_sys (s : State) (b : List Nat) : (s.resetBlock b).sys = s.sys := rfl
@[simp] theorem State.resetBlock_mirrorQ (s : State) (b : List Nat) : (s.resetBlock b).mirrorQ = s.mirrorQ := rfl
@[simp] theorem State.resetBlock_faceStep (s : State) (b : List Nat) : (s.resetBlock b).faceStep = s.faceStep := rfl
@[simp] theorem State.resetBlock_effortWas (s : State) (b : List Nat) : (s.resetBlock b).effortWas = s.effortWas := rfl
@[simp] theorem State.resetBlock_selWas (s : State) (b : List Nat) : (s.resetBlock b).selWas = s.selWas := rfl
@[simp] theorem State.resetBlock_standIns (s : State) (b : List Nat) : (s.resetBlock b).standIns = s.standIns := rfl
@[simp] theorem State.resetBlock_fns (s : State) (b : List Nat) : (s.resetBlock b).fns = s.fns := rfl
@[simp] theorem State.resetBlock_vfEnable (s : State) (b : List Nat) : (s.resetBlock b).vfEnable = s.vfEnable := rfl
@[simp] theorem State.resetBlock_rings (s : State) (b : List Nat) : (s.resetBlock b).rings = s.rings := rfl
@[simp] theorem State.resetBlock_masked (s : State) (b : List Nat) : (s.resetBlock b).masked = s.masked := rfl
@[simp] theorem State.resetBlock_pba (s : State) (b : List Nat) : (s.resetBlock b).pba = s.pba := rfl
@[simp] theorem State.resetBlock_unsigSince (s : State) (b : List Nat) : (s.resetBlock b).unsigSince = s.unsigSince := rfl
@[simp] theorem State.resetBlock_ledger (s : State) (b : List Nat) : (s.resetBlock b).ledger = s.ledger := rfl
@[simp] theorem State.resetBlock_limits (s : State) (b : List Nat) : (s.resetBlock b).limits = s.limits := rfl
@[simp] theorem State.resetBlock_mem (s : State) (b : List Nat) : (s.resetBlock b).mem = s.mem := rfl
@[simp] theorem State.resetBlock_free (s : State) (b : List Nat) : (s.resetBlock b).free = s.free := rfl
@[simp] theorem State.resetBlock_out (s : State) (b : List Nat) : (s.resetBlock b).out = s.out := rfl
@[simp] theorem State.resetBlock_pending (s : State) (b : List Nat) : (s.resetBlock b).pending = s.pending := rfl

@[simp] theorem State.emit_regs (s : State) (o : Output) : (s.emit o).regs = s.regs := rfl
@[simp] theorem State.emit_latches (s : State) (o : Output) : (s.emit o).latches = s.latches := rfl
@[simp] theorem State.emit_fresh (s : State) (o : Output) : (s.emit o).fresh = s.fresh := rfl
@[simp] theorem State.emit_lc (s : State) (o : Output) : (s.emit o).lc = s.lc := rfl
@[simp] theorem State.emit_tim (s : State) (o : Output) : (s.emit o).tim = s.tim := rfl
@[simp] theorem State.emit_egr (s : State) (o : Output) : (s.emit o).egr = s.egr := rfl
@[simp] theorem State.emit_slots (s : State) (o : Output) : (s.emit o).slots = s.slots := rfl
@[simp] theorem State.emit_rx (s : State) (o : Output) : (s.emit o).rx = s.rx := rfl
@[simp] theorem State.emit_cmps (s : State) (o : Output) : (s.emit o).cmps = s.cmps := rfl
@[simp] theorem State.emit_safs (s : State) (o : Output) : (s.emit o).safs = s.safs := rfl
@[simp] theorem State.emit_safKey (s : State) (o : Output) : (s.emit o).safKey = s.safKey := rfl
@[simp] theorem State.emit_safFaultPin (s : State) (o : Output) : (s.emit o).safFaultPin = s.safFaultPin := rfl
@[simp] theorem State.emit_lanes (s : State) (o : Output) : (s.emit o).lanes = s.lanes := rfl
@[simp] theorem State.emit_wires (s : State) (o : Output) : (s.emit o).wires = s.wires := rfl
@[simp] theorem State.emit_scns (s : State) (o : Output) : (s.emit o).scns = s.scns := rfl
@[simp] theorem State.emit_trp (s : State) (o : Output) : (s.emit o).trp = s.trp := rfl
@[simp] theorem State.emit_aud (s : State) (o : Output) : (s.emit o).aud = s.aud := rfl
@[simp] theorem State.emit_dram (s : State) (o : Output) : (s.emit o).dram = s.dram := rfl
@[simp] theorem State.emit_tasks (s : State) (o : Output) : (s.emit o).tasks = s.tasks := rfl
@[simp] theorem State.emit_brk (s : State) (o : Output) : (s.emit o).brk = s.brk := rfl
@[simp] theorem State.emit_scans (s : State) (o : Output) : (s.emit o).scans = s.scans := rfl
@[simp] theorem State.emit_trans (s : State) (o : Output) : (s.emit o).trans = s.trans := rfl
@[simp] theorem State.emit_fw (s : State) (o : Output) : (s.emit o).fw = s.fw := rfl
@[simp] theorem State.emit_thm (s : State) (o : Output) : (s.emit o).thm = s.thm := rfl
@[simp] theorem State.emit_sys (s : State) (o : Output) : (s.emit o).sys = s.sys := rfl
@[simp] theorem State.emit_mirrorQ (s : State) (o : Output) : (s.emit o).mirrorQ = s.mirrorQ := rfl
@[simp] theorem State.emit_faceStep (s : State) (o : Output) : (s.emit o).faceStep = s.faceStep := rfl
@[simp] theorem State.emit_effortWas (s : State) (o : Output) : (s.emit o).effortWas = s.effortWas := rfl
@[simp] theorem State.emit_selWas (s : State) (o : Output) : (s.emit o).selWas = s.selWas := rfl
@[simp] theorem State.emit_standIns (s : State) (o : Output) : (s.emit o).standIns = s.standIns := rfl
@[simp] theorem State.emit_fns (s : State) (o : Output) : (s.emit o).fns = s.fns := rfl
@[simp] theorem State.emit_vfEnable (s : State) (o : Output) : (s.emit o).vfEnable = s.vfEnable := rfl
@[simp] theorem State.emit_rings (s : State) (o : Output) : (s.emit o).rings = s.rings := rfl
@[simp] theorem State.emit_masked (s : State) (o : Output) : (s.emit o).masked = s.masked := rfl
@[simp] theorem State.emit_pba (s : State) (o : Output) : (s.emit o).pba = s.pba := rfl
@[simp] theorem State.emit_unsigSince (s : State) (o : Output) : (s.emit o).unsigSince = s.unsigSince := rfl
@[simp] theorem State.emit_ledger (s : State) (o : Output) : (s.emit o).ledger = s.ledger := rfl
@[simp] theorem State.emit_limits (s : State) (o : Output) : (s.emit o).limits = s.limits := rfl
@[simp] theorem State.emit_mem (s : State) (o : Output) : (s.emit o).mem = s.mem := rfl
@[simp] theorem State.emit_free (s : State) (o : Output) : (s.emit o).free = s.free := rfl
@[simp] theorem State.emit_pending (s : State) (o : Output) : (s.emit o).pending = s.pending := rfl
@[simp] theorem State.emit_get (s : State) (o : Output) (g : Field) : (s.emit o).get g = s.get g := rfl

@[simp] theorem State.putRing_regs (s : State) (r : Nat) (x : Ring) : (s.putRing r x).regs = s.regs := rfl
@[simp] theorem State.putRing_latches (s : State) (r : Nat) (x : Ring) : (s.putRing r x).latches = s.latches := rfl
@[simp] theorem State.putRing_fresh (s : State) (r : Nat) (x : Ring) : (s.putRing r x).fresh = s.fresh := rfl
@[simp] theorem State.putRing_lc (s : State) (r : Nat) (x : Ring) : (s.putRing r x).lc = s.lc := rfl
@[simp] theorem State.putRing_tim (s : State) (r : Nat) (x : Ring) : (s.putRing r x).tim = s.tim := rfl
@[simp] theorem State.putRing_egr (s : State) (r : Nat) (x : Ring) : (s.putRing r x).egr = s.egr := rfl
@[simp] theorem State.putRing_slots (s : State) (r : Nat) (x : Ring) : (s.putRing r x).slots = s.slots := rfl
@[simp] theorem State.putRing_rx (s : State) (r : Nat) (x : Ring) : (s.putRing r x).rx = s.rx := rfl
@[simp] theorem State.putRing_cmps (s : State) (r : Nat) (x : Ring) : (s.putRing r x).cmps = s.cmps := rfl
@[simp] theorem State.putRing_safs (s : State) (r : Nat) (x : Ring) : (s.putRing r x).safs = s.safs := rfl
@[simp] theorem State.putRing_safKey (s : State) (r : Nat) (x : Ring) : (s.putRing r x).safKey = s.safKey := rfl
@[simp] theorem State.putRing_safFaultPin (s : State) (r : Nat) (x : Ring) : (s.putRing r x).safFaultPin = s.safFaultPin := rfl
@[simp] theorem State.putRing_lanes (s : State) (r : Nat) (x : Ring) : (s.putRing r x).lanes = s.lanes := rfl
@[simp] theorem State.putRing_wires (s : State) (r : Nat) (x : Ring) : (s.putRing r x).wires = s.wires := rfl
@[simp] theorem State.putRing_scns (s : State) (r : Nat) (x : Ring) : (s.putRing r x).scns = s.scns := rfl
@[simp] theorem State.putRing_trp (s : State) (r : Nat) (x : Ring) : (s.putRing r x).trp = s.trp := rfl
@[simp] theorem State.putRing_aud (s : State) (r : Nat) (x : Ring) : (s.putRing r x).aud = s.aud := rfl
@[simp] theorem State.putRing_dram (s : State) (r : Nat) (x : Ring) : (s.putRing r x).dram = s.dram := rfl
@[simp] theorem State.putRing_tasks (s : State) (r : Nat) (x : Ring) : (s.putRing r x).tasks = s.tasks := rfl
@[simp] theorem State.putRing_brk (s : State) (r : Nat) (x : Ring) : (s.putRing r x).brk = s.brk := rfl
@[simp] theorem State.putRing_scans (s : State) (r : Nat) (x : Ring) : (s.putRing r x).scans = s.scans := rfl
@[simp] theorem State.putRing_trans (s : State) (r : Nat) (x : Ring) : (s.putRing r x).trans = s.trans := rfl
@[simp] theorem State.putRing_fw (s : State) (r : Nat) (x : Ring) : (s.putRing r x).fw = s.fw := rfl
@[simp] theorem State.putRing_thm (s : State) (r : Nat) (x : Ring) : (s.putRing r x).thm = s.thm := rfl
@[simp] theorem State.putRing_sys (s : State) (r : Nat) (x : Ring) : (s.putRing r x).sys = s.sys := rfl
@[simp] theorem State.putRing_mirrorQ (s : State) (r : Nat) (x : Ring) : (s.putRing r x).mirrorQ = s.mirrorQ := rfl
@[simp] theorem State.putRing_faceStep (s : State) (r : Nat) (x : Ring) : (s.putRing r x).faceStep = s.faceStep := rfl
@[simp] theorem State.putRing_effortWas (s : State) (r : Nat) (x : Ring) : (s.putRing r x).effortWas = s.effortWas := rfl
@[simp] theorem State.putRing_selWas (s : State) (r : Nat) (x : Ring) : (s.putRing r x).selWas = s.selWas := rfl
@[simp] theorem State.putRing_standIns (s : State) (r : Nat) (x : Ring) : (s.putRing r x).standIns = s.standIns := rfl
@[simp] theorem State.putRing_fns (s : State) (r : Nat) (x : Ring) : (s.putRing r x).fns = s.fns := rfl
@[simp] theorem State.putRing_vfEnable (s : State) (r : Nat) (x : Ring) : (s.putRing r x).vfEnable = s.vfEnable := rfl
@[simp] theorem State.putRing_masked (s : State) (r : Nat) (x : Ring) : (s.putRing r x).masked = s.masked := rfl
@[simp] theorem State.putRing_pba (s : State) (r : Nat) (x : Ring) : (s.putRing r x).pba = s.pba := rfl
@[simp] theorem State.putRing_unsigSince (s : State) (r : Nat) (x : Ring) : (s.putRing r x).unsigSince = s.unsigSince := rfl
@[simp] theorem State.putRing_ledger (s : State) (r : Nat) (x : Ring) : (s.putRing r x).ledger = s.ledger := rfl
@[simp] theorem State.putRing_limits (s : State) (r : Nat) (x : Ring) : (s.putRing r x).limits = s.limits := rfl
@[simp] theorem State.putRing_mem (s : State) (r : Nat) (x : Ring) : (s.putRing r x).mem = s.mem := rfl
@[simp] theorem State.putRing_free (s : State) (r : Nat) (x : Ring) : (s.putRing r x).free = s.free := rfl
@[simp] theorem State.putRing_out (s : State) (r : Nat) (x : Ring) : (s.putRing r x).out = s.out := rfl
@[simp] theorem State.putRing_pending (s : State) (r : Nat) (x : Ring) : (s.putRing r x).pending = s.pending := rfl
@[simp] theorem State.putRing_get (s : State) (r : Nat) (x : Ring) (g : Field) : (s.putRing r x).get g = s.get g := rfl

@[simp] theorem State.limitNote_regs (s : State) (c : Code) (i : Nat) : (s.limitNote c i).regs = s.regs := rfl
@[simp] theorem State.limitNote_latches (s : State) (c : Code) (i : Nat) : (s.limitNote c i).latches = s.latches := rfl
@[simp] theorem State.limitNote_fresh (s : State) (c : Code) (i : Nat) : (s.limitNote c i).fresh = s.fresh := rfl
@[simp] theorem State.limitNote_lc (s : State) (c : Code) (i : Nat) : (s.limitNote c i).lc = s.lc := rfl
@[simp] theorem State.limitNote_tim (s : State) (c : Code) (i : Nat) : (s.limitNote c i).tim = s.tim := rfl
@[simp] theorem State.limitNote_egr (s : State) (c : Code) (i : Nat) : (s.limitNote c i).egr = s.egr := rfl
@[simp] theorem State.limitNote_slots (s : State) (c : Code) (i : Nat) : (s.limitNote c i).slots = s.slots := rfl
@[simp] theorem State.limitNote_rx (s : State) (c : Code) (i : Nat) : (s.limitNote c i).rx = s.rx := rfl
@[simp] theorem State.limitNote_cmps (s : State) (c : Code) (i : Nat) : (s.limitNote c i).cmps = s.cmps := rfl
@[simp] theorem State.limitNote_safs (s : State) (c : Code) (i : Nat) : (s.limitNote c i).safs = s.safs := rfl
@[simp] theorem State.limitNote_safKey (s : State) (c : Code) (i : Nat) : (s.limitNote c i).safKey = s.safKey := rfl
@[simp] theorem State.limitNote_safFaultPin (s : State) (c : Code) (i : Nat) : (s.limitNote c i).safFaultPin = s.safFaultPin := rfl
@[simp] theorem State.limitNote_lanes (s : State) (c : Code) (i : Nat) : (s.limitNote c i).lanes = s.lanes := rfl
@[simp] theorem State.limitNote_wires (s : State) (c : Code) (i : Nat) : (s.limitNote c i).wires = s.wires := rfl
@[simp] theorem State.limitNote_scns (s : State) (c : Code) (i : Nat) : (s.limitNote c i).scns = s.scns := rfl
@[simp] theorem State.limitNote_trp (s : State) (c : Code) (i : Nat) : (s.limitNote c i).trp = s.trp := rfl
@[simp] theorem State.limitNote_aud (s : State) (c : Code) (i : Nat) : (s.limitNote c i).aud = s.aud := rfl
@[simp] theorem State.limitNote_dram (s : State) (c : Code) (i : Nat) : (s.limitNote c i).dram = s.dram := rfl
@[simp] theorem State.limitNote_tasks (s : State) (c : Code) (i : Nat) : (s.limitNote c i).tasks = s.tasks := rfl
@[simp] theorem State.limitNote_brk (s : State) (c : Code) (i : Nat) : (s.limitNote c i).brk = s.brk := rfl
@[simp] theorem State.limitNote_scans (s : State) (c : Code) (i : Nat) : (s.limitNote c i).scans = s.scans := rfl
@[simp] theorem State.limitNote_trans (s : State) (c : Code) (i : Nat) : (s.limitNote c i).trans = s.trans := rfl
@[simp] theorem State.limitNote_fw (s : State) (c : Code) (i : Nat) : (s.limitNote c i).fw = s.fw := rfl
@[simp] theorem State.limitNote_thm (s : State) (c : Code) (i : Nat) : (s.limitNote c i).thm = s.thm := rfl
@[simp] theorem State.limitNote_sys (s : State) (c : Code) (i : Nat) : (s.limitNote c i).sys = s.sys := rfl
@[simp] theorem State.limitNote_mirrorQ (s : State) (c : Code) (i : Nat) : (s.limitNote c i).mirrorQ = s.mirrorQ := rfl
@[simp] theorem State.limitNote_faceStep (s : State) (c : Code) (i : Nat) : (s.limitNote c i).faceStep = s.faceStep := rfl
@[simp] theorem State.limitNote_effortWas (s : State) (c : Code) (i : Nat) : (s.limitNote c i).effortWas = s.effortWas := rfl
@[simp] theorem State.limitNote_selWas (s : State) (c : Code) (i : Nat) : (s.limitNote c i).selWas = s.selWas := rfl
@[simp] theorem State.limitNote_standIns (s : State) (c : Code) (i : Nat) : (s.limitNote c i).standIns = s.standIns := rfl
@[simp] theorem State.limitNote_fns (s : State) (c : Code) (i : Nat) : (s.limitNote c i).fns = s.fns := rfl
@[simp] theorem State.limitNote_vfEnable (s : State) (c : Code) (i : Nat) : (s.limitNote c i).vfEnable = s.vfEnable := rfl
@[simp] theorem State.limitNote_rings (s : State) (c : Code) (i : Nat) : (s.limitNote c i).rings = s.rings := rfl
@[simp] theorem State.limitNote_masked (s : State) (c : Code) (i : Nat) : (s.limitNote c i).masked = s.masked := rfl
@[simp] theorem State.limitNote_pba (s : State) (c : Code) (i : Nat) : (s.limitNote c i).pba = s.pba := rfl
@[simp] theorem State.limitNote_unsigSince (s : State) (c : Code) (i : Nat) : (s.limitNote c i).unsigSince = s.unsigSince := rfl
@[simp] theorem State.limitNote_ledger (s : State) (c : Code) (i : Nat) : (s.limitNote c i).ledger = s.ledger := rfl
@[simp] theorem State.limitNote_mem (s : State) (c : Code) (i : Nat) : (s.limitNote c i).mem = s.mem := rfl
@[simp] theorem State.limitNote_free (s : State) (c : Code) (i : Nat) : (s.limitNote c i).free = s.free := rfl
@[simp] theorem State.limitNote_out (s : State) (c : Code) (i : Nat) : (s.limitNote c i).out = s.out := rfl
@[simp] theorem State.limitNote_pending (s : State) (c : Code) (i : Nat) : (s.limitNote c i).pending = s.pending := rfl
@[simp] theorem State.limitNote_get (s : State) (c : Code) (i : Nat) (g : Field) : (s.limitNote c i).get g = s.get g := rfl

@[simp] theorem State.setQueue_regs (s : State) (u : Nat) (q : List QLaunch) : (s.setQueue u q).regs = s.regs := rfl
@[simp] theorem State.setQueue_latches (s : State) (u : Nat) (q : List QLaunch) : (s.setQueue u q).latches = s.latches := rfl
@[simp] theorem State.setQueue_fresh (s : State) (u : Nat) (q : List QLaunch) : (s.setQueue u q).fresh = s.fresh := rfl
@[simp] theorem State.setQueue_lc (s : State) (u : Nat) (q : List QLaunch) : (s.setQueue u q).lc = s.lc := rfl
@[simp] theorem State.setQueue_egr (s : State) (u : Nat) (q : List QLaunch) : (s.setQueue u q).egr = s.egr := rfl
@[simp] theorem State.setQueue_slots (s : State) (u : Nat) (q : List QLaunch) : (s.setQueue u q).slots = s.slots := rfl
@[simp] theorem State.setQueue_rx (s : State) (u : Nat) (q : List QLaunch) : (s.setQueue u q).rx = s.rx := rfl
@[simp] theorem State.setQueue_cmps (s : State) (u : Nat) (q : List QLaunch) : (s.setQueue u q).cmps = s.cmps := rfl
@[simp] theorem State.setQueue_safs (s : State) (u : Nat) (q : List QLaunch) : (s.setQueue u q).safs = s.safs := rfl
@[simp] theorem State.setQueue_safKey (s : State) (u : Nat) (q : List QLaunch) : (s.setQueue u q).safKey = s.safKey := rfl
@[simp] theorem State.setQueue_safFaultPin (s : State) (u : Nat) (q : List QLaunch) : (s.setQueue u q).safFaultPin = s.safFaultPin := rfl
@[simp] theorem State.setQueue_lanes (s : State) (u : Nat) (q : List QLaunch) : (s.setQueue u q).lanes = s.lanes := rfl
@[simp] theorem State.setQueue_wires (s : State) (u : Nat) (q : List QLaunch) : (s.setQueue u q).wires = s.wires := rfl
@[simp] theorem State.setQueue_scns (s : State) (u : Nat) (q : List QLaunch) : (s.setQueue u q).scns = s.scns := rfl
@[simp] theorem State.setQueue_trp (s : State) (u : Nat) (q : List QLaunch) : (s.setQueue u q).trp = s.trp := rfl
@[simp] theorem State.setQueue_aud (s : State) (u : Nat) (q : List QLaunch) : (s.setQueue u q).aud = s.aud := rfl
@[simp] theorem State.setQueue_dram (s : State) (u : Nat) (q : List QLaunch) : (s.setQueue u q).dram = s.dram := rfl
@[simp] theorem State.setQueue_tasks (s : State) (u : Nat) (q : List QLaunch) : (s.setQueue u q).tasks = s.tasks := rfl
@[simp] theorem State.setQueue_brk (s : State) (u : Nat) (q : List QLaunch) : (s.setQueue u q).brk = s.brk := rfl
@[simp] theorem State.setQueue_scans (s : State) (u : Nat) (q : List QLaunch) : (s.setQueue u q).scans = s.scans := rfl
@[simp] theorem State.setQueue_trans (s : State) (u : Nat) (q : List QLaunch) : (s.setQueue u q).trans = s.trans := rfl
@[simp] theorem State.setQueue_fw (s : State) (u : Nat) (q : List QLaunch) : (s.setQueue u q).fw = s.fw := rfl
@[simp] theorem State.setQueue_thm (s : State) (u : Nat) (q : List QLaunch) : (s.setQueue u q).thm = s.thm := rfl
@[simp] theorem State.setQueue_sys (s : State) (u : Nat) (q : List QLaunch) : (s.setQueue u q).sys = s.sys := rfl
@[simp] theorem State.setQueue_mirrorQ (s : State) (u : Nat) (q : List QLaunch) : (s.setQueue u q).mirrorQ = s.mirrorQ := rfl
@[simp] theorem State.setQueue_faceStep (s : State) (u : Nat) (q : List QLaunch) : (s.setQueue u q).faceStep = s.faceStep := rfl
@[simp] theorem State.setQueue_effortWas (s : State) (u : Nat) (q : List QLaunch) : (s.setQueue u q).effortWas = s.effortWas := rfl
@[simp] theorem State.setQueue_selWas (s : State) (u : Nat) (q : List QLaunch) : (s.setQueue u q).selWas = s.selWas := rfl
@[simp] theorem State.setQueue_standIns (s : State) (u : Nat) (q : List QLaunch) : (s.setQueue u q).standIns = s.standIns := rfl
@[simp] theorem State.setQueue_fns (s : State) (u : Nat) (q : List QLaunch) : (s.setQueue u q).fns = s.fns := rfl
@[simp] theorem State.setQueue_vfEnable (s : State) (u : Nat) (q : List QLaunch) : (s.setQueue u q).vfEnable = s.vfEnable := rfl
@[simp] theorem State.setQueue_rings (s : State) (u : Nat) (q : List QLaunch) : (s.setQueue u q).rings = s.rings := rfl
@[simp] theorem State.setQueue_masked (s : State) (u : Nat) (q : List QLaunch) : (s.setQueue u q).masked = s.masked := rfl
@[simp] theorem State.setQueue_pba (s : State) (u : Nat) (q : List QLaunch) : (s.setQueue u q).pba = s.pba := rfl
@[simp] theorem State.setQueue_unsigSince (s : State) (u : Nat) (q : List QLaunch) : (s.setQueue u q).unsigSince = s.unsigSince := rfl
@[simp] theorem State.setQueue_ledger (s : State) (u : Nat) (q : List QLaunch) : (s.setQueue u q).ledger = s.ledger := rfl
@[simp] theorem State.setQueue_limits (s : State) (u : Nat) (q : List QLaunch) : (s.setQueue u q).limits = s.limits := rfl
@[simp] theorem State.setQueue_mem (s : State) (u : Nat) (q : List QLaunch) : (s.setQueue u q).mem = s.mem := rfl
@[simp] theorem State.setQueue_free (s : State) (u : Nat) (q : List QLaunch) : (s.setQueue u q).free = s.free := rfl
@[simp] theorem State.setQueue_out (s : State) (u : Nat) (q : List QLaunch) : (s.setQueue u q).out = s.out := rfl
@[simp] theorem State.setQueue_pending (s : State) (u : Nat) (q : List QLaunch) : (s.setQueue u q).pending = s.pending := rfl
@[simp] theorem State.setQueue_get (s : State) (u : Nat) (q : List QLaunch) (g : Field) : (s.setQueue u q).get g = s.get g := rfl

@[simp] theorem State.setDomain_regs (s : State) (d : Nat) (x : Domain) : (s.setDomain d x).regs = s.regs := by unfold State.setDomain; split <;> rfl
@[simp] theorem State.setDomain_latches (s : State) (d : Nat) (x : Domain) : (s.setDomain d x).latches = s.latches := by unfold State.setDomain; split <;> rfl
@[simp] theorem State.setDomain_fresh (s : State) (d : Nat) (x : Domain) : (s.setDomain d x).fresh = s.fresh := by unfold State.setDomain; split <;> rfl
@[simp] theorem State.setDomain_lc (s : State) (d : Nat) (x : Domain) : (s.setDomain d x).lc = s.lc := by unfold State.setDomain; split <;> rfl
@[simp] theorem State.setDomain_egr (s : State) (d : Nat) (x : Domain) : (s.setDomain d x).egr = s.egr := by unfold State.setDomain; split <;> rfl
@[simp] theorem State.setDomain_slots (s : State) (d : Nat) (x : Domain) : (s.setDomain d x).slots = s.slots := by unfold State.setDomain; split <;> rfl
@[simp] theorem State.setDomain_rx (s : State) (d : Nat) (x : Domain) : (s.setDomain d x).rx = s.rx := by unfold State.setDomain; split <;> rfl
@[simp] theorem State.setDomain_cmps (s : State) (d : Nat) (x : Domain) : (s.setDomain d x).cmps = s.cmps := by unfold State.setDomain; split <;> rfl
@[simp] theorem State.setDomain_safs (s : State) (d : Nat) (x : Domain) : (s.setDomain d x).safs = s.safs := by unfold State.setDomain; split <;> rfl
@[simp] theorem State.setDomain_safKey (s : State) (d : Nat) (x : Domain) : (s.setDomain d x).safKey = s.safKey := by unfold State.setDomain; split <;> rfl
@[simp] theorem State.setDomain_safFaultPin (s : State) (d : Nat) (x : Domain) : (s.setDomain d x).safFaultPin = s.safFaultPin := by unfold State.setDomain; split <;> rfl
@[simp] theorem State.setDomain_lanes (s : State) (d : Nat) (x : Domain) : (s.setDomain d x).lanes = s.lanes := by unfold State.setDomain; split <;> rfl
@[simp] theorem State.setDomain_wires (s : State) (d : Nat) (x : Domain) : (s.setDomain d x).wires = s.wires := by unfold State.setDomain; split <;> rfl
@[simp] theorem State.setDomain_scns (s : State) (d : Nat) (x : Domain) : (s.setDomain d x).scns = s.scns := by unfold State.setDomain; split <;> rfl
@[simp] theorem State.setDomain_trp (s : State) (d : Nat) (x : Domain) : (s.setDomain d x).trp = s.trp := by unfold State.setDomain; split <;> rfl
@[simp] theorem State.setDomain_aud (s : State) (d : Nat) (x : Domain) : (s.setDomain d x).aud = s.aud := by unfold State.setDomain; split <;> rfl
@[simp] theorem State.setDomain_dram (s : State) (d : Nat) (x : Domain) : (s.setDomain d x).dram = s.dram := by unfold State.setDomain; split <;> rfl
@[simp] theorem State.setDomain_tasks (s : State) (d : Nat) (x : Domain) : (s.setDomain d x).tasks = s.tasks := by unfold State.setDomain; split <;> rfl
@[simp] theorem State.setDomain_brk (s : State) (d : Nat) (x : Domain) : (s.setDomain d x).brk = s.brk := by unfold State.setDomain; split <;> rfl
@[simp] theorem State.setDomain_scans (s : State) (d : Nat) (x : Domain) : (s.setDomain d x).scans = s.scans := by unfold State.setDomain; split <;> rfl
@[simp] theorem State.setDomain_trans (s : State) (d : Nat) (x : Domain) : (s.setDomain d x).trans = s.trans := by unfold State.setDomain; split <;> rfl
@[simp] theorem State.setDomain_fw (s : State) (d : Nat) (x : Domain) : (s.setDomain d x).fw = s.fw := by unfold State.setDomain; split <;> rfl
@[simp] theorem State.setDomain_thm (s : State) (d : Nat) (x : Domain) : (s.setDomain d x).thm = s.thm := by unfold State.setDomain; split <;> rfl
@[simp] theorem State.setDomain_sys (s : State) (d : Nat) (x : Domain) : (s.setDomain d x).sys = s.sys := by unfold State.setDomain; split <;> rfl
@[simp] theorem State.setDomain_mirrorQ (s : State) (d : Nat) (x : Domain) : (s.setDomain d x).mirrorQ = s.mirrorQ := by unfold State.setDomain; split <;> rfl
@[simp] theorem State.setDomain_faceStep (s : State) (d : Nat) (x : Domain) : (s.setDomain d x).faceStep = s.faceStep := by unfold State.setDomain; split <;> rfl
@[simp] theorem State.setDomain_effortWas (s : State) (d : Nat) (x : Domain) : (s.setDomain d x).effortWas = s.effortWas := by unfold State.setDomain; split <;> rfl
@[simp] theorem State.setDomain_selWas (s : State) (d : Nat) (x : Domain) : (s.setDomain d x).selWas = s.selWas := by unfold State.setDomain; split <;> rfl
@[simp] theorem State.setDomain_standIns (s : State) (d : Nat) (x : Domain) : (s.setDomain d x).standIns = s.standIns := by unfold State.setDomain; split <;> rfl
@[simp] theorem State.setDomain_fns (s : State) (d : Nat) (x : Domain) : (s.setDomain d x).fns = s.fns := by unfold State.setDomain; split <;> rfl
@[simp] theorem State.setDomain_vfEnable (s : State) (d : Nat) (x : Domain) : (s.setDomain d x).vfEnable = s.vfEnable := by unfold State.setDomain; split <;> rfl
@[simp] theorem State.setDomain_rings (s : State) (d : Nat) (x : Domain) : (s.setDomain d x).rings = s.rings := by unfold State.setDomain; split <;> rfl
@[simp] theorem State.setDomain_masked (s : State) (d : Nat) (x : Domain) : (s.setDomain d x).masked = s.masked := by unfold State.setDomain; split <;> rfl
@[simp] theorem State.setDomain_pba (s : State) (d : Nat) (x : Domain) : (s.setDomain d x).pba = s.pba := by unfold State.setDomain; split <;> rfl
@[simp] theorem State.setDomain_unsigSince (s : State) (d : Nat) (x : Domain) : (s.setDomain d x).unsigSince = s.unsigSince := by unfold State.setDomain; split <;> rfl
@[simp] theorem State.setDomain_ledger (s : State) (d : Nat) (x : Domain) : (s.setDomain d x).ledger = s.ledger := by unfold State.setDomain; split <;> rfl
@[simp] theorem State.setDomain_limits (s : State) (d : Nat) (x : Domain) : (s.setDomain d x).limits = s.limits := by unfold State.setDomain; split <;> rfl
@[simp] theorem State.setDomain_mem (s : State) (d : Nat) (x : Domain) : (s.setDomain d x).mem = s.mem := by unfold State.setDomain; split <;> rfl
@[simp] theorem State.setDomain_free (s : State) (d : Nat) (x : Domain) : (s.setDomain d x).free = s.free := by unfold State.setDomain; split <;> rfl
@[simp] theorem State.setDomain_out (s : State) (d : Nat) (x : Domain) : (s.setDomain d x).out = s.out := by unfold State.setDomain; split <;> rfl
@[simp] theorem State.setDomain_pending (s : State) (d : Nat) (x : Domain) : (s.setDomain d x).pending = s.pending := by unfold State.setDomain; split <;> rfl
@[simp] theorem State.setDomain_get (s : State) (d : Nat) (x : Domain) (g : Field) : (s.setDomain d x).get g = s.get g := by unfold State.setDomain; split <;> rfl

@[simp] theorem State.setPort_regs (s : State) (i : Nat) (p : EgPort) : (s.setPort i p).regs = s.regs := rfl
@[simp] theorem State.setPort_latches (s : State) (i : Nat) (p : EgPort) : (s.setPort i p).latches = s.latches := rfl
@[simp] theorem State.setPort_fresh (s : State) (i : Nat) (p : EgPort) : (s.setPort i p).fresh = s.fresh := rfl
@[simp] theorem State.setPort_lc (s : State) (i : Nat) (p : EgPort) : (s.setPort i p).lc = s.lc := rfl
@[simp] theorem State.setPort_tim (s : State) (i : Nat) (p : EgPort) : (s.setPort i p).tim = s.tim := rfl
@[simp] theorem State.setPort_slots (s : State) (i : Nat) (p : EgPort) : (s.setPort i p).slots = s.slots := rfl
@[simp] theorem State.setPort_rx (s : State) (i : Nat) (p : EgPort) : (s.setPort i p).rx = s.rx := rfl
@[simp] theorem State.setPort_cmps (s : State) (i : Nat) (p : EgPort) : (s.setPort i p).cmps = s.cmps := rfl
@[simp] theorem State.setPort_safs (s : State) (i : Nat) (p : EgPort) : (s.setPort i p).safs = s.safs := rfl
@[simp] theorem State.setPort_safKey (s : State) (i : Nat) (p : EgPort) : (s.setPort i p).safKey = s.safKey := rfl
@[simp] theorem State.setPort_safFaultPin (s : State) (i : Nat) (p : EgPort) : (s.setPort i p).safFaultPin = s.safFaultPin := rfl
@[simp] theorem State.setPort_lanes (s : State) (i : Nat) (p : EgPort) : (s.setPort i p).lanes = s.lanes := rfl
@[simp] theorem State.setPort_wires (s : State) (i : Nat) (p : EgPort) : (s.setPort i p).wires = s.wires := rfl
@[simp] theorem State.setPort_scns (s : State) (i : Nat) (p : EgPort) : (s.setPort i p).scns = s.scns := rfl
@[simp] theorem State.setPort_trp (s : State) (i : Nat) (p : EgPort) : (s.setPort i p).trp = s.trp := rfl
@[simp] theorem State.setPort_aud (s : State) (i : Nat) (p : EgPort) : (s.setPort i p).aud = s.aud := rfl
@[simp] theorem State.setPort_dram (s : State) (i : Nat) (p : EgPort) : (s.setPort i p).dram = s.dram := rfl
@[simp] theorem State.setPort_tasks (s : State) (i : Nat) (p : EgPort) : (s.setPort i p).tasks = s.tasks := rfl
@[simp] theorem State.setPort_brk (s : State) (i : Nat) (p : EgPort) : (s.setPort i p).brk = s.brk := rfl
@[simp] theorem State.setPort_scans (s : State) (i : Nat) (p : EgPort) : (s.setPort i p).scans = s.scans := rfl
@[simp] theorem State.setPort_trans (s : State) (i : Nat) (p : EgPort) : (s.setPort i p).trans = s.trans := rfl
@[simp] theorem State.setPort_fw (s : State) (i : Nat) (p : EgPort) : (s.setPort i p).fw = s.fw := rfl
@[simp] theorem State.setPort_thm (s : State) (i : Nat) (p : EgPort) : (s.setPort i p).thm = s.thm := rfl
@[simp] theorem State.setPort_sys (s : State) (i : Nat) (p : EgPort) : (s.setPort i p).sys = s.sys := rfl
@[simp] theorem State.setPort_mirrorQ (s : State) (i : Nat) (p : EgPort) : (s.setPort i p).mirrorQ = s.mirrorQ := rfl
@[simp] theorem State.setPort_faceStep (s : State) (i : Nat) (p : EgPort) : (s.setPort i p).faceStep = s.faceStep := rfl
@[simp] theorem State.setPort_effortWas (s : State) (i : Nat) (p : EgPort) : (s.setPort i p).effortWas = s.effortWas := rfl
@[simp] theorem State.setPort_selWas (s : State) (i : Nat) (p : EgPort) : (s.setPort i p).selWas = s.selWas := rfl
@[simp] theorem State.setPort_standIns (s : State) (i : Nat) (p : EgPort) : (s.setPort i p).standIns = s.standIns := rfl
@[simp] theorem State.setPort_fns (s : State) (i : Nat) (p : EgPort) : (s.setPort i p).fns = s.fns := rfl
@[simp] theorem State.setPort_vfEnable (s : State) (i : Nat) (p : EgPort) : (s.setPort i p).vfEnable = s.vfEnable := rfl
@[simp] theorem State.setPort_rings (s : State) (i : Nat) (p : EgPort) : (s.setPort i p).rings = s.rings := rfl
@[simp] theorem State.setPort_masked (s : State) (i : Nat) (p : EgPort) : (s.setPort i p).masked = s.masked := rfl
@[simp] theorem State.setPort_pba (s : State) (i : Nat) (p : EgPort) : (s.setPort i p).pba = s.pba := rfl
@[simp] theorem State.setPort_unsigSince (s : State) (i : Nat) (p : EgPort) : (s.setPort i p).unsigSince = s.unsigSince := rfl
@[simp] theorem State.setPort_ledger (s : State) (i : Nat) (p : EgPort) : (s.setPort i p).ledger = s.ledger := rfl
@[simp] theorem State.setPort_limits (s : State) (i : Nat) (p : EgPort) : (s.setPort i p).limits = s.limits := rfl
@[simp] theorem State.setPort_mem (s : State) (i : Nat) (p : EgPort) : (s.setPort i p).mem = s.mem := rfl
@[simp] theorem State.setPort_free (s : State) (i : Nat) (p : EgPort) : (s.setPort i p).free = s.free := rfl
@[simp] theorem State.setPort_out (s : State) (i : Nat) (p : EgPort) : (s.setPort i p).out = s.out := rfl
@[simp] theorem State.setPort_pending (s : State) (i : Nat) (p : EgPort) : (s.setPort i p).pending = s.pending := rfl
@[simp] theorem State.setPort_get (s : State) (i : Nat) (p : EgPort) (g : Field) : (s.setPort i p).get g = s.get g := rfl

@[simp] theorem State.setMeter_regs (s : State) (q : Nat) (m : Meter) : (s.setMeter q m).regs = s.regs := rfl
@[simp] theorem State.setMeter_latches (s : State) (q : Nat) (m : Meter) : (s.setMeter q m).latches = s.latches := rfl
@[simp] theorem State.setMeter_fresh (s : State) (q : Nat) (m : Meter) : (s.setMeter q m).fresh = s.fresh := rfl
@[simp] theorem State.setMeter_lc (s : State) (q : Nat) (m : Meter) : (s.setMeter q m).lc = s.lc := rfl
@[simp] theorem State.setMeter_tim (s : State) (q : Nat) (m : Meter) : (s.setMeter q m).tim = s.tim := rfl
@[simp] theorem State.setMeter_slots (s : State) (q : Nat) (m : Meter) : (s.setMeter q m).slots = s.slots := rfl
@[simp] theorem State.setMeter_rx (s : State) (q : Nat) (m : Meter) : (s.setMeter q m).rx = s.rx := rfl
@[simp] theorem State.setMeter_cmps (s : State) (q : Nat) (m : Meter) : (s.setMeter q m).cmps = s.cmps := rfl
@[simp] theorem State.setMeter_safs (s : State) (q : Nat) (m : Meter) : (s.setMeter q m).safs = s.safs := rfl
@[simp] theorem State.setMeter_safKey (s : State) (q : Nat) (m : Meter) : (s.setMeter q m).safKey = s.safKey := rfl
@[simp] theorem State.setMeter_safFaultPin (s : State) (q : Nat) (m : Meter) : (s.setMeter q m).safFaultPin = s.safFaultPin := rfl
@[simp] theorem State.setMeter_lanes (s : State) (q : Nat) (m : Meter) : (s.setMeter q m).lanes = s.lanes := rfl
@[simp] theorem State.setMeter_wires (s : State) (q : Nat) (m : Meter) : (s.setMeter q m).wires = s.wires := rfl
@[simp] theorem State.setMeter_scns (s : State) (q : Nat) (m : Meter) : (s.setMeter q m).scns = s.scns := rfl
@[simp] theorem State.setMeter_trp (s : State) (q : Nat) (m : Meter) : (s.setMeter q m).trp = s.trp := rfl
@[simp] theorem State.setMeter_aud (s : State) (q : Nat) (m : Meter) : (s.setMeter q m).aud = s.aud := rfl
@[simp] theorem State.setMeter_dram (s : State) (q : Nat) (m : Meter) : (s.setMeter q m).dram = s.dram := rfl
@[simp] theorem State.setMeter_tasks (s : State) (q : Nat) (m : Meter) : (s.setMeter q m).tasks = s.tasks := rfl
@[simp] theorem State.setMeter_brk (s : State) (q : Nat) (m : Meter) : (s.setMeter q m).brk = s.brk := rfl
@[simp] theorem State.setMeter_scans (s : State) (q : Nat) (m : Meter) : (s.setMeter q m).scans = s.scans := rfl
@[simp] theorem State.setMeter_trans (s : State) (q : Nat) (m : Meter) : (s.setMeter q m).trans = s.trans := rfl
@[simp] theorem State.setMeter_fw (s : State) (q : Nat) (m : Meter) : (s.setMeter q m).fw = s.fw := rfl
@[simp] theorem State.setMeter_thm (s : State) (q : Nat) (m : Meter) : (s.setMeter q m).thm = s.thm := rfl
@[simp] theorem State.setMeter_sys (s : State) (q : Nat) (m : Meter) : (s.setMeter q m).sys = s.sys := rfl
@[simp] theorem State.setMeter_mirrorQ (s : State) (q : Nat) (m : Meter) : (s.setMeter q m).mirrorQ = s.mirrorQ := rfl
@[simp] theorem State.setMeter_faceStep (s : State) (q : Nat) (m : Meter) : (s.setMeter q m).faceStep = s.faceStep := rfl
@[simp] theorem State.setMeter_effortWas (s : State) (q : Nat) (m : Meter) : (s.setMeter q m).effortWas = s.effortWas := rfl
@[simp] theorem State.setMeter_selWas (s : State) (q : Nat) (m : Meter) : (s.setMeter q m).selWas = s.selWas := rfl
@[simp] theorem State.setMeter_standIns (s : State) (q : Nat) (m : Meter) : (s.setMeter q m).standIns = s.standIns := rfl
@[simp] theorem State.setMeter_fns (s : State) (q : Nat) (m : Meter) : (s.setMeter q m).fns = s.fns := rfl
@[simp] theorem State.setMeter_vfEnable (s : State) (q : Nat) (m : Meter) : (s.setMeter q m).vfEnable = s.vfEnable := rfl
@[simp] theorem State.setMeter_rings (s : State) (q : Nat) (m : Meter) : (s.setMeter q m).rings = s.rings := rfl
@[simp] theorem State.setMeter_masked (s : State) (q : Nat) (m : Meter) : (s.setMeter q m).masked = s.masked := rfl
@[simp] theorem State.setMeter_pba (s : State) (q : Nat) (m : Meter) : (s.setMeter q m).pba = s.pba := rfl
@[simp] theorem State.setMeter_unsigSince (s : State) (q : Nat) (m : Meter) : (s.setMeter q m).unsigSince = s.unsigSince := rfl
@[simp] theorem State.setMeter_ledger (s : State) (q : Nat) (m : Meter) : (s.setMeter q m).ledger = s.ledger := rfl
@[simp] theorem State.setMeter_limits (s : State) (q : Nat) (m : Meter) : (s.setMeter q m).limits = s.limits := rfl
@[simp] theorem State.setMeter_mem (s : State) (q : Nat) (m : Meter) : (s.setMeter q m).mem = s.mem := rfl
@[simp] theorem State.setMeter_free (s : State) (q : Nat) (m : Meter) : (s.setMeter q m).free = s.free := rfl
@[simp] theorem State.setMeter_out (s : State) (q : Nat) (m : Meter) : (s.setMeter q m).out = s.out := rfl
@[simp] theorem State.setMeter_pending (s : State) (q : Nat) (m : Meter) : (s.setMeter q m).pending = s.pending := rfl
@[simp] theorem State.setMeter_get (s : State) (q : Nat) (m : Meter) (g : Field) : (s.setMeter q m).get g = s.get g := rfl

@[simp] theorem State.setSlot_regs (s : State) (n : Nat) (x : Slot) : (s.setSlot n x).regs = s.regs := rfl
@[simp] theorem State.setSlot_latches (s : State) (n : Nat) (x : Slot) : (s.setSlot n x).latches = s.latches := rfl
@[simp] theorem State.setSlot_fresh (s : State) (n : Nat) (x : Slot) : (s.setSlot n x).fresh = s.fresh := rfl
@[simp] theorem State.setSlot_lc (s : State) (n : Nat) (x : Slot) : (s.setSlot n x).lc = s.lc := rfl
@[simp] theorem State.setSlot_tim (s : State) (n : Nat) (x : Slot) : (s.setSlot n x).tim = s.tim := rfl
@[simp] theorem State.setSlot_egr (s : State) (n : Nat) (x : Slot) : (s.setSlot n x).egr = s.egr := rfl
@[simp] theorem State.setSlot_rx (s : State) (n : Nat) (x : Slot) : (s.setSlot n x).rx = s.rx := rfl
@[simp] theorem State.setSlot_cmps (s : State) (n : Nat) (x : Slot) : (s.setSlot n x).cmps = s.cmps := rfl
@[simp] theorem State.setSlot_safs (s : State) (n : Nat) (x : Slot) : (s.setSlot n x).safs = s.safs := rfl
@[simp] theorem State.setSlot_safKey (s : State) (n : Nat) (x : Slot) : (s.setSlot n x).safKey = s.safKey := rfl
@[simp] theorem State.setSlot_safFaultPin (s : State) (n : Nat) (x : Slot) : (s.setSlot n x).safFaultPin = s.safFaultPin := rfl
@[simp] theorem State.setSlot_lanes (s : State) (n : Nat) (x : Slot) : (s.setSlot n x).lanes = s.lanes := rfl
@[simp] theorem State.setSlot_wires (s : State) (n : Nat) (x : Slot) : (s.setSlot n x).wires = s.wires := rfl
@[simp] theorem State.setSlot_scns (s : State) (n : Nat) (x : Slot) : (s.setSlot n x).scns = s.scns := rfl
@[simp] theorem State.setSlot_trp (s : State) (n : Nat) (x : Slot) : (s.setSlot n x).trp = s.trp := rfl
@[simp] theorem State.setSlot_aud (s : State) (n : Nat) (x : Slot) : (s.setSlot n x).aud = s.aud := rfl
@[simp] theorem State.setSlot_dram (s : State) (n : Nat) (x : Slot) : (s.setSlot n x).dram = s.dram := rfl
@[simp] theorem State.setSlot_tasks (s : State) (n : Nat) (x : Slot) : (s.setSlot n x).tasks = s.tasks := rfl
@[simp] theorem State.setSlot_brk (s : State) (n : Nat) (x : Slot) : (s.setSlot n x).brk = s.brk := rfl
@[simp] theorem State.setSlot_scans (s : State) (n : Nat) (x : Slot) : (s.setSlot n x).scans = s.scans := rfl
@[simp] theorem State.setSlot_trans (s : State) (n : Nat) (x : Slot) : (s.setSlot n x).trans = s.trans := rfl
@[simp] theorem State.setSlot_fw (s : State) (n : Nat) (x : Slot) : (s.setSlot n x).fw = s.fw := rfl
@[simp] theorem State.setSlot_thm (s : State) (n : Nat) (x : Slot) : (s.setSlot n x).thm = s.thm := rfl
@[simp] theorem State.setSlot_sys (s : State) (n : Nat) (x : Slot) : (s.setSlot n x).sys = s.sys := rfl
@[simp] theorem State.setSlot_mirrorQ (s : State) (n : Nat) (x : Slot) : (s.setSlot n x).mirrorQ = s.mirrorQ := rfl
@[simp] theorem State.setSlot_faceStep (s : State) (n : Nat) (x : Slot) : (s.setSlot n x).faceStep = s.faceStep := rfl
@[simp] theorem State.setSlot_effortWas (s : State) (n : Nat) (x : Slot) : (s.setSlot n x).effortWas = s.effortWas := rfl
@[simp] theorem State.setSlot_selWas (s : State) (n : Nat) (x : Slot) : (s.setSlot n x).selWas = s.selWas := rfl
@[simp] theorem State.setSlot_standIns (s : State) (n : Nat) (x : Slot) : (s.setSlot n x).standIns = s.standIns := rfl
@[simp] theorem State.setSlot_fns (s : State) (n : Nat) (x : Slot) : (s.setSlot n x).fns = s.fns := rfl
@[simp] theorem State.setSlot_vfEnable (s : State) (n : Nat) (x : Slot) : (s.setSlot n x).vfEnable = s.vfEnable := rfl
@[simp] theorem State.setSlot_rings (s : State) (n : Nat) (x : Slot) : (s.setSlot n x).rings = s.rings := rfl
@[simp] theorem State.setSlot_masked (s : State) (n : Nat) (x : Slot) : (s.setSlot n x).masked = s.masked := rfl
@[simp] theorem State.setSlot_pba (s : State) (n : Nat) (x : Slot) : (s.setSlot n x).pba = s.pba := rfl
@[simp] theorem State.setSlot_unsigSince (s : State) (n : Nat) (x : Slot) : (s.setSlot n x).unsigSince = s.unsigSince := rfl
@[simp] theorem State.setSlot_ledger (s : State) (n : Nat) (x : Slot) : (s.setSlot n x).ledger = s.ledger := rfl
@[simp] theorem State.setSlot_limits (s : State) (n : Nat) (x : Slot) : (s.setSlot n x).limits = s.limits := rfl
@[simp] theorem State.setSlot_mem (s : State) (n : Nat) (x : Slot) : (s.setSlot n x).mem = s.mem := rfl
@[simp] theorem State.setSlot_free (s : State) (n : Nat) (x : Slot) : (s.setSlot n x).free = s.free := rfl
@[simp] theorem State.setSlot_out (s : State) (n : Nat) (x : Slot) : (s.setSlot n x).out = s.out := rfl
@[simp] theorem State.setSlot_pending (s : State) (n : Nat) (x : Slot) : (s.setSlot n x).pending = s.pending := rfl
@[simp] theorem State.setSlot_get (s : State) (n : Nat) (x : Slot) (g : Field) : (s.setSlot n x).get g = s.get g := rfl

@[simp] theorem State.setScn_regs (s : State) (i : Nat) (x : Scn) : (s.setScn i x).regs = s.regs := rfl
@[simp] theorem State.setScn_latches (s : State) (i : Nat) (x : Scn) : (s.setScn i x).latches = s.latches := rfl
@[simp] theorem State.setScn_fresh (s : State) (i : Nat) (x : Scn) : (s.setScn i x).fresh = s.fresh := rfl
@[simp] theorem State.setScn_lc (s : State) (i : Nat) (x : Scn) : (s.setScn i x).lc = s.lc := rfl
@[simp] theorem State.setScn_tim (s : State) (i : Nat) (x : Scn) : (s.setScn i x).tim = s.tim := rfl
@[simp] theorem State.setScn_egr (s : State) (i : Nat) (x : Scn) : (s.setScn i x).egr = s.egr := rfl
@[simp] theorem State.setScn_slots (s : State) (i : Nat) (x : Scn) : (s.setScn i x).slots = s.slots := rfl
@[simp] theorem State.setScn_rx (s : State) (i : Nat) (x : Scn) : (s.setScn i x).rx = s.rx := rfl
@[simp] theorem State.setScn_cmps (s : State) (i : Nat) (x : Scn) : (s.setScn i x).cmps = s.cmps := rfl
@[simp] theorem State.setScn_safs (s : State) (i : Nat) (x : Scn) : (s.setScn i x).safs = s.safs := rfl
@[simp] theorem State.setScn_safKey (s : State) (i : Nat) (x : Scn) : (s.setScn i x).safKey = s.safKey := rfl
@[simp] theorem State.setScn_safFaultPin (s : State) (i : Nat) (x : Scn) : (s.setScn i x).safFaultPin = s.safFaultPin := rfl
@[simp] theorem State.setScn_lanes (s : State) (i : Nat) (x : Scn) : (s.setScn i x).lanes = s.lanes := rfl
@[simp] theorem State.setScn_wires (s : State) (i : Nat) (x : Scn) : (s.setScn i x).wires = s.wires := rfl
@[simp] theorem State.setScn_trp (s : State) (i : Nat) (x : Scn) : (s.setScn i x).trp = s.trp := rfl
@[simp] theorem State.setScn_aud (s : State) (i : Nat) (x : Scn) : (s.setScn i x).aud = s.aud := rfl
@[simp] theorem State.setScn_dram (s : State) (i : Nat) (x : Scn) : (s.setScn i x).dram = s.dram := rfl
@[simp] theorem State.setScn_tasks (s : State) (i : Nat) (x : Scn) : (s.setScn i x).tasks = s.tasks := rfl
@[simp] theorem State.setScn_brk (s : State) (i : Nat) (x : Scn) : (s.setScn i x).brk = s.brk := rfl
@[simp] theorem State.setScn_scans (s : State) (i : Nat) (x : Scn) : (s.setScn i x).scans = s.scans := rfl
@[simp] theorem State.setScn_trans (s : State) (i : Nat) (x : Scn) : (s.setScn i x).trans = s.trans := rfl
@[simp] theorem State.setScn_fw (s : State) (i : Nat) (x : Scn) : (s.setScn i x).fw = s.fw := rfl
@[simp] theorem State.setScn_thm (s : State) (i : Nat) (x : Scn) : (s.setScn i x).thm = s.thm := rfl
@[simp] theorem State.setScn_sys (s : State) (i : Nat) (x : Scn) : (s.setScn i x).sys = s.sys := rfl
@[simp] theorem State.setScn_mirrorQ (s : State) (i : Nat) (x : Scn) : (s.setScn i x).mirrorQ = s.mirrorQ := rfl
@[simp] theorem State.setScn_faceStep (s : State) (i : Nat) (x : Scn) : (s.setScn i x).faceStep = s.faceStep := rfl
@[simp] theorem State.setScn_effortWas (s : State) (i : Nat) (x : Scn) : (s.setScn i x).effortWas = s.effortWas := rfl
@[simp] theorem State.setScn_selWas (s : State) (i : Nat) (x : Scn) : (s.setScn i x).selWas = s.selWas := rfl
@[simp] theorem State.setScn_standIns (s : State) (i : Nat) (x : Scn) : (s.setScn i x).standIns = s.standIns := rfl
@[simp] theorem State.setScn_fns (s : State) (i : Nat) (x : Scn) : (s.setScn i x).fns = s.fns := rfl
@[simp] theorem State.setScn_vfEnable (s : State) (i : Nat) (x : Scn) : (s.setScn i x).vfEnable = s.vfEnable := rfl
@[simp] theorem State.setScn_rings (s : State) (i : Nat) (x : Scn) : (s.setScn i x).rings = s.rings := rfl
@[simp] theorem State.setScn_masked (s : State) (i : Nat) (x : Scn) : (s.setScn i x).masked = s.masked := rfl
@[simp] theorem State.setScn_pba (s : State) (i : Nat) (x : Scn) : (s.setScn i x).pba = s.pba := rfl
@[simp] theorem State.setScn_unsigSince (s : State) (i : Nat) (x : Scn) : (s.setScn i x).unsigSince = s.unsigSince := rfl
@[simp] theorem State.setScn_ledger (s : State) (i : Nat) (x : Scn) : (s.setScn i x).ledger = s.ledger := rfl
@[simp] theorem State.setScn_limits (s : State) (i : Nat) (x : Scn) : (s.setScn i x).limits = s.limits := rfl
@[simp] theorem State.setScn_mem (s : State) (i : Nat) (x : Scn) : (s.setScn i x).mem = s.mem := rfl
@[simp] theorem State.setScn_free (s : State) (i : Nat) (x : Scn) : (s.setScn i x).free = s.free := rfl
@[simp] theorem State.setScn_out (s : State) (i : Nat) (x : Scn) : (s.setScn i x).out = s.out := rfl
@[simp] theorem State.setScn_pending (s : State) (i : Nat) (x : Scn) : (s.setScn i x).pending = s.pending := rfl
@[simp] theorem State.setScn_get (s : State) (i : Nat) (x : Scn) (g : Field) : (s.setScn i x).get g = s.get g := rfl

@[simp] theorem State.setRcv_regs (s : State) (r : Nat) (x : Rx) : (s.setRcv r x).regs = s.regs := rfl
@[simp] theorem State.setRcv_latches (s : State) (r : Nat) (x : Rx) : (s.setRcv r x).latches = s.latches := rfl
@[simp] theorem State.setRcv_fresh (s : State) (r : Nat) (x : Rx) : (s.setRcv r x).fresh = s.fresh := rfl
@[simp] theorem State.setRcv_lc (s : State) (r : Nat) (x : Rx) : (s.setRcv r x).lc = s.lc := rfl
@[simp] theorem State.setRcv_tim (s : State) (r : Nat) (x : Rx) : (s.setRcv r x).tim = s.tim := rfl
@[simp] theorem State.setRcv_egr (s : State) (r : Nat) (x : Rx) : (s.setRcv r x).egr = s.egr := rfl
@[simp] theorem State.setRcv_slots (s : State) (r : Nat) (x : Rx) : (s.setRcv r x).slots = s.slots := rfl
@[simp] theorem State.setRcv_cmps (s : State) (r : Nat) (x : Rx) : (s.setRcv r x).cmps = s.cmps := rfl
@[simp] theorem State.setRcv_safs (s : State) (r : Nat) (x : Rx) : (s.setRcv r x).safs = s.safs := rfl
@[simp] theorem State.setRcv_safKey (s : State) (r : Nat) (x : Rx) : (s.setRcv r x).safKey = s.safKey := rfl
@[simp] theorem State.setRcv_safFaultPin (s : State) (r : Nat) (x : Rx) : (s.setRcv r x).safFaultPin = s.safFaultPin := rfl
@[simp] theorem State.setRcv_lanes (s : State) (r : Nat) (x : Rx) : (s.setRcv r x).lanes = s.lanes := rfl
@[simp] theorem State.setRcv_wires (s : State) (r : Nat) (x : Rx) : (s.setRcv r x).wires = s.wires := rfl
@[simp] theorem State.setRcv_scns (s : State) (r : Nat) (x : Rx) : (s.setRcv r x).scns = s.scns := rfl
@[simp] theorem State.setRcv_trp (s : State) (r : Nat) (x : Rx) : (s.setRcv r x).trp = s.trp := rfl
@[simp] theorem State.setRcv_aud (s : State) (r : Nat) (x : Rx) : (s.setRcv r x).aud = s.aud := rfl
@[simp] theorem State.setRcv_dram (s : State) (r : Nat) (x : Rx) : (s.setRcv r x).dram = s.dram := rfl
@[simp] theorem State.setRcv_tasks (s : State) (r : Nat) (x : Rx) : (s.setRcv r x).tasks = s.tasks := rfl
@[simp] theorem State.setRcv_brk (s : State) (r : Nat) (x : Rx) : (s.setRcv r x).brk = s.brk := rfl
@[simp] theorem State.setRcv_scans (s : State) (r : Nat) (x : Rx) : (s.setRcv r x).scans = s.scans := rfl
@[simp] theorem State.setRcv_trans (s : State) (r : Nat) (x : Rx) : (s.setRcv r x).trans = s.trans := rfl
@[simp] theorem State.setRcv_fw (s : State) (r : Nat) (x : Rx) : (s.setRcv r x).fw = s.fw := rfl
@[simp] theorem State.setRcv_thm (s : State) (r : Nat) (x : Rx) : (s.setRcv r x).thm = s.thm := rfl
@[simp] theorem State.setRcv_sys (s : State) (r : Nat) (x : Rx) : (s.setRcv r x).sys = s.sys := rfl
@[simp] theorem State.setRcv_mirrorQ (s : State) (r : Nat) (x : Rx) : (s.setRcv r x).mirrorQ = s.mirrorQ := rfl
@[simp] theorem State.setRcv_faceStep (s : State) (r : Nat) (x : Rx) : (s.setRcv r x).faceStep = s.faceStep := rfl
@[simp] theorem State.setRcv_effortWas (s : State) (r : Nat) (x : Rx) : (s.setRcv r x).effortWas = s.effortWas := rfl
@[simp] theorem State.setRcv_selWas (s : State) (r : Nat) (x : Rx) : (s.setRcv r x).selWas = s.selWas := rfl
@[simp] theorem State.setRcv_standIns (s : State) (r : Nat) (x : Rx) : (s.setRcv r x).standIns = s.standIns := rfl
@[simp] theorem State.setRcv_fns (s : State) (r : Nat) (x : Rx) : (s.setRcv r x).fns = s.fns := rfl
@[simp] theorem State.setRcv_vfEnable (s : State) (r : Nat) (x : Rx) : (s.setRcv r x).vfEnable = s.vfEnable := rfl
@[simp] theorem State.setRcv_rings (s : State) (r : Nat) (x : Rx) : (s.setRcv r x).rings = s.rings := rfl
@[simp] theorem State.setRcv_masked (s : State) (r : Nat) (x : Rx) : (s.setRcv r x).masked = s.masked := rfl
@[simp] theorem State.setRcv_pba (s : State) (r : Nat) (x : Rx) : (s.setRcv r x).pba = s.pba := rfl
@[simp] theorem State.setRcv_unsigSince (s : State) (r : Nat) (x : Rx) : (s.setRcv r x).unsigSince = s.unsigSince := rfl
@[simp] theorem State.setRcv_ledger (s : State) (r : Nat) (x : Rx) : (s.setRcv r x).ledger = s.ledger := rfl
@[simp] theorem State.setRcv_limits (s : State) (r : Nat) (x : Rx) : (s.setRcv r x).limits = s.limits := rfl
@[simp] theorem State.setRcv_mem (s : State) (r : Nat) (x : Rx) : (s.setRcv r x).mem = s.mem := rfl
@[simp] theorem State.setRcv_free (s : State) (r : Nat) (x : Rx) : (s.setRcv r x).free = s.free := rfl
@[simp] theorem State.setRcv_out (s : State) (r : Nat) (x : Rx) : (s.setRcv r x).out = s.out := rfl
@[simp] theorem State.setRcv_pending (s : State) (r : Nat) (x : Rx) : (s.setRcv r x).pending = s.pending := rfl
@[simp] theorem State.setRcv_get (s : State) (r : Nat) (x : Rx) (g : Field) : (s.setRcv r x).get g = s.get g := rfl

@[simp] theorem State.setCmp_regs (s : State) (n : Nat) (x : Cmp) : (s.setCmp n x).regs = s.regs := rfl
@[simp] theorem State.setCmp_latches (s : State) (n : Nat) (x : Cmp) : (s.setCmp n x).latches = s.latches := rfl
@[simp] theorem State.setCmp_fresh (s : State) (n : Nat) (x : Cmp) : (s.setCmp n x).fresh = s.fresh := rfl
@[simp] theorem State.setCmp_lc (s : State) (n : Nat) (x : Cmp) : (s.setCmp n x).lc = s.lc := rfl
@[simp] theorem State.setCmp_tim (s : State) (n : Nat) (x : Cmp) : (s.setCmp n x).tim = s.tim := rfl
@[simp] theorem State.setCmp_egr (s : State) (n : Nat) (x : Cmp) : (s.setCmp n x).egr = s.egr := rfl
@[simp] theorem State.setCmp_slots (s : State) (n : Nat) (x : Cmp) : (s.setCmp n x).slots = s.slots := rfl
@[simp] theorem State.setCmp_rx (s : State) (n : Nat) (x : Cmp) : (s.setCmp n x).rx = s.rx := rfl
@[simp] theorem State.setCmp_safs (s : State) (n : Nat) (x : Cmp) : (s.setCmp n x).safs = s.safs := rfl
@[simp] theorem State.setCmp_safKey (s : State) (n : Nat) (x : Cmp) : (s.setCmp n x).safKey = s.safKey := rfl
@[simp] theorem State.setCmp_safFaultPin (s : State) (n : Nat) (x : Cmp) : (s.setCmp n x).safFaultPin = s.safFaultPin := rfl
@[simp] theorem State.setCmp_lanes (s : State) (n : Nat) (x : Cmp) : (s.setCmp n x).lanes = s.lanes := rfl
@[simp] theorem State.setCmp_wires (s : State) (n : Nat) (x : Cmp) : (s.setCmp n x).wires = s.wires := rfl
@[simp] theorem State.setCmp_scns (s : State) (n : Nat) (x : Cmp) : (s.setCmp n x).scns = s.scns := rfl
@[simp] theorem State.setCmp_trp (s : State) (n : Nat) (x : Cmp) : (s.setCmp n x).trp = s.trp := rfl
@[simp] theorem State.setCmp_aud (s : State) (n : Nat) (x : Cmp) : (s.setCmp n x).aud = s.aud := rfl
@[simp] theorem State.setCmp_dram (s : State) (n : Nat) (x : Cmp) : (s.setCmp n x).dram = s.dram := rfl
@[simp] theorem State.setCmp_tasks (s : State) (n : Nat) (x : Cmp) : (s.setCmp n x).tasks = s.tasks := rfl
@[simp] theorem State.setCmp_brk (s : State) (n : Nat) (x : Cmp) : (s.setCmp n x).brk = s.brk := rfl
@[simp] theorem State.setCmp_scans (s : State) (n : Nat) (x : Cmp) : (s.setCmp n x).scans = s.scans := rfl
@[simp] theorem State.setCmp_trans (s : State) (n : Nat) (x : Cmp) : (s.setCmp n x).trans = s.trans := rfl
@[simp] theorem State.setCmp_fw (s : State) (n : Nat) (x : Cmp) : (s.setCmp n x).fw = s.fw := rfl
@[simp] theorem State.setCmp_thm (s : State) (n : Nat) (x : Cmp) : (s.setCmp n x).thm = s.thm := rfl
@[simp] theorem State.setCmp_sys (s : State) (n : Nat) (x : Cmp) : (s.setCmp n x).sys = s.sys := rfl
@[simp] theorem State.setCmp_mirrorQ (s : State) (n : Nat) (x : Cmp) : (s.setCmp n x).mirrorQ = s.mirrorQ := rfl
@[simp] theorem State.setCmp_faceStep (s : State) (n : Nat) (x : Cmp) : (s.setCmp n x).faceStep = s.faceStep := rfl
@[simp] theorem State.setCmp_effortWas (s : State) (n : Nat) (x : Cmp) : (s.setCmp n x).effortWas = s.effortWas := rfl
@[simp] theorem State.setCmp_selWas (s : State) (n : Nat) (x : Cmp) : (s.setCmp n x).selWas = s.selWas := rfl
@[simp] theorem State.setCmp_standIns (s : State) (n : Nat) (x : Cmp) : (s.setCmp n x).standIns = s.standIns := rfl
@[simp] theorem State.setCmp_fns (s : State) (n : Nat) (x : Cmp) : (s.setCmp n x).fns = s.fns := rfl
@[simp] theorem State.setCmp_vfEnable (s : State) (n : Nat) (x : Cmp) : (s.setCmp n x).vfEnable = s.vfEnable := rfl
@[simp] theorem State.setCmp_rings (s : State) (n : Nat) (x : Cmp) : (s.setCmp n x).rings = s.rings := rfl
@[simp] theorem State.setCmp_masked (s : State) (n : Nat) (x : Cmp) : (s.setCmp n x).masked = s.masked := rfl
@[simp] theorem State.setCmp_pba (s : State) (n : Nat) (x : Cmp) : (s.setCmp n x).pba = s.pba := rfl
@[simp] theorem State.setCmp_unsigSince (s : State) (n : Nat) (x : Cmp) : (s.setCmp n x).unsigSince = s.unsigSince := rfl
@[simp] theorem State.setCmp_ledger (s : State) (n : Nat) (x : Cmp) : (s.setCmp n x).ledger = s.ledger := rfl
@[simp] theorem State.setCmp_limits (s : State) (n : Nat) (x : Cmp) : (s.setCmp n x).limits = s.limits := rfl
@[simp] theorem State.setCmp_mem (s : State) (n : Nat) (x : Cmp) : (s.setCmp n x).mem = s.mem := rfl
@[simp] theorem State.setCmp_free (s : State) (n : Nat) (x : Cmp) : (s.setCmp n x).free = s.free := rfl
@[simp] theorem State.setCmp_out (s : State) (n : Nat) (x : Cmp) : (s.setCmp n x).out = s.out := rfl
@[simp] theorem State.setCmp_pending (s : State) (n : Nat) (x : Cmp) : (s.setCmp n x).pending = s.pending := rfl
@[simp] theorem State.setCmp_get (s : State) (n : Nat) (x : Cmp) (g : Field) : (s.setCmp n x).get g = s.get g := rfl

@[simp] theorem State.setLane_regs (s : State) (i : Nat) (x : Lane) : (s.setLane i x).regs = s.regs := rfl
@[simp] theorem State.setLane_latches (s : State) (i : Nat) (x : Lane) : (s.setLane i x).latches = s.latches := rfl
@[simp] theorem State.setLane_fresh (s : State) (i : Nat) (x : Lane) : (s.setLane i x).fresh = s.fresh := rfl
@[simp] theorem State.setLane_lc (s : State) (i : Nat) (x : Lane) : (s.setLane i x).lc = s.lc := rfl
@[simp] theorem State.setLane_tim (s : State) (i : Nat) (x : Lane) : (s.setLane i x).tim = s.tim := rfl
@[simp] theorem State.setLane_egr (s : State) (i : Nat) (x : Lane) : (s.setLane i x).egr = s.egr := rfl
@[simp] theorem State.setLane_slots (s : State) (i : Nat) (x : Lane) : (s.setLane i x).slots = s.slots := rfl
@[simp] theorem State.setLane_rx (s : State) (i : Nat) (x : Lane) : (s.setLane i x).rx = s.rx := rfl
@[simp] theorem State.setLane_cmps (s : State) (i : Nat) (x : Lane) : (s.setLane i x).cmps = s.cmps := rfl
@[simp] theorem State.setLane_safs (s : State) (i : Nat) (x : Lane) : (s.setLane i x).safs = s.safs := rfl
@[simp] theorem State.setLane_safKey (s : State) (i : Nat) (x : Lane) : (s.setLane i x).safKey = s.safKey := rfl
@[simp] theorem State.setLane_safFaultPin (s : State) (i : Nat) (x : Lane) : (s.setLane i x).safFaultPin = s.safFaultPin := rfl
@[simp] theorem State.setLane_wires (s : State) (i : Nat) (x : Lane) : (s.setLane i x).wires = s.wires := rfl
@[simp] theorem State.setLane_scns (s : State) (i : Nat) (x : Lane) : (s.setLane i x).scns = s.scns := rfl
@[simp] theorem State.setLane_trp (s : State) (i : Nat) (x : Lane) : (s.setLane i x).trp = s.trp := rfl
@[simp] theorem State.setLane_aud (s : State) (i : Nat) (x : Lane) : (s.setLane i x).aud = s.aud := rfl
@[simp] theorem State.setLane_dram (s : State) (i : Nat) (x : Lane) : (s.setLane i x).dram = s.dram := rfl
@[simp] theorem State.setLane_tasks (s : State) (i : Nat) (x : Lane) : (s.setLane i x).tasks = s.tasks := rfl
@[simp] theorem State.setLane_brk (s : State) (i : Nat) (x : Lane) : (s.setLane i x).brk = s.brk := rfl
@[simp] theorem State.setLane_scans (s : State) (i : Nat) (x : Lane) : (s.setLane i x).scans = s.scans := rfl
@[simp] theorem State.setLane_trans (s : State) (i : Nat) (x : Lane) : (s.setLane i x).trans = s.trans := rfl
@[simp] theorem State.setLane_fw (s : State) (i : Nat) (x : Lane) : (s.setLane i x).fw = s.fw := rfl
@[simp] theorem State.setLane_thm (s : State) (i : Nat) (x : Lane) : (s.setLane i x).thm = s.thm := rfl
@[simp] theorem State.setLane_sys (s : State) (i : Nat) (x : Lane) : (s.setLane i x).sys = s.sys := rfl
@[simp] theorem State.setLane_mirrorQ (s : State) (i : Nat) (x : Lane) : (s.setLane i x).mirrorQ = s.mirrorQ := rfl
@[simp] theorem State.setLane_faceStep (s : State) (i : Nat) (x : Lane) : (s.setLane i x).faceStep = s.faceStep := rfl
@[simp] theorem State.setLane_effortWas (s : State) (i : Nat) (x : Lane) : (s.setLane i x).effortWas = s.effortWas := rfl
@[simp] theorem State.setLane_selWas (s : State) (i : Nat) (x : Lane) : (s.setLane i x).selWas = s.selWas := rfl
@[simp] theorem State.setLane_standIns (s : State) (i : Nat) (x : Lane) : (s.setLane i x).standIns = s.standIns := rfl
@[simp] theorem State.setLane_fns (s : State) (i : Nat) (x : Lane) : (s.setLane i x).fns = s.fns := rfl
@[simp] theorem State.setLane_vfEnable (s : State) (i : Nat) (x : Lane) : (s.setLane i x).vfEnable = s.vfEnable := rfl
@[simp] theorem State.setLane_rings (s : State) (i : Nat) (x : Lane) : (s.setLane i x).rings = s.rings := rfl
@[simp] theorem State.setLane_masked (s : State) (i : Nat) (x : Lane) : (s.setLane i x).masked = s.masked := rfl
@[simp] theorem State.setLane_pba (s : State) (i : Nat) (x : Lane) : (s.setLane i x).pba = s.pba := rfl
@[simp] theorem State.setLane_unsigSince (s : State) (i : Nat) (x : Lane) : (s.setLane i x).unsigSince = s.unsigSince := rfl
@[simp] theorem State.setLane_ledger (s : State) (i : Nat) (x : Lane) : (s.setLane i x).ledger = s.ledger := rfl
@[simp] theorem State.setLane_limits (s : State) (i : Nat) (x : Lane) : (s.setLane i x).limits = s.limits := rfl
@[simp] theorem State.setLane_mem (s : State) (i : Nat) (x : Lane) : (s.setLane i x).mem = s.mem := rfl
@[simp] theorem State.setLane_free (s : State) (i : Nat) (x : Lane) : (s.setLane i x).free = s.free := rfl
@[simp] theorem State.setLane_out (s : State) (i : Nat) (x : Lane) : (s.setLane i x).out = s.out := rfl
@[simp] theorem State.setLane_pending (s : State) (i : Nat) (x : Lane) : (s.setLane i x).pending = s.pending := rfl
@[simp] theorem State.setLane_get (s : State) (i : Nat) (x : Lane) (g : Field) : (s.setLane i x).get g = s.get g := rfl

@[simp] theorem State.setAudIn_regs (s : State) (k : Nat) (x : AudIn) : (s.setAudIn k x).regs = s.regs := rfl
@[simp] theorem State.setAudIn_latches (s : State) (k : Nat) (x : AudIn) : (s.setAudIn k x).latches = s.latches := rfl
@[simp] theorem State.setAudIn_fresh (s : State) (k : Nat) (x : AudIn) : (s.setAudIn k x).fresh = s.fresh := rfl
@[simp] theorem State.setAudIn_lc (s : State) (k : Nat) (x : AudIn) : (s.setAudIn k x).lc = s.lc := rfl
@[simp] theorem State.setAudIn_tim (s : State) (k : Nat) (x : AudIn) : (s.setAudIn k x).tim = s.tim := rfl
@[simp] theorem State.setAudIn_egr (s : State) (k : Nat) (x : AudIn) : (s.setAudIn k x).egr = s.egr := rfl
@[simp] theorem State.setAudIn_slots (s : State) (k : Nat) (x : AudIn) : (s.setAudIn k x).slots = s.slots := rfl
@[simp] theorem State.setAudIn_rx (s : State) (k : Nat) (x : AudIn) : (s.setAudIn k x).rx = s.rx := rfl
@[simp] theorem State.setAudIn_cmps (s : State) (k : Nat) (x : AudIn) : (s.setAudIn k x).cmps = s.cmps := rfl
@[simp] theorem State.setAudIn_safs (s : State) (k : Nat) (x : AudIn) : (s.setAudIn k x).safs = s.safs := rfl
@[simp] theorem State.setAudIn_safKey (s : State) (k : Nat) (x : AudIn) : (s.setAudIn k x).safKey = s.safKey := rfl
@[simp] theorem State.setAudIn_safFaultPin (s : State) (k : Nat) (x : AudIn) : (s.setAudIn k x).safFaultPin = s.safFaultPin := rfl
@[simp] theorem State.setAudIn_lanes (s : State) (k : Nat) (x : AudIn) : (s.setAudIn k x).lanes = s.lanes := rfl
@[simp] theorem State.setAudIn_wires (s : State) (k : Nat) (x : AudIn) : (s.setAudIn k x).wires = s.wires := rfl
@[simp] theorem State.setAudIn_scns (s : State) (k : Nat) (x : AudIn) : (s.setAudIn k x).scns = s.scns := rfl
@[simp] theorem State.setAudIn_trp (s : State) (k : Nat) (x : AudIn) : (s.setAudIn k x).trp = s.trp := rfl
@[simp] theorem State.setAudIn_dram (s : State) (k : Nat) (x : AudIn) : (s.setAudIn k x).dram = s.dram := rfl
@[simp] theorem State.setAudIn_tasks (s : State) (k : Nat) (x : AudIn) : (s.setAudIn k x).tasks = s.tasks := rfl
@[simp] theorem State.setAudIn_brk (s : State) (k : Nat) (x : AudIn) : (s.setAudIn k x).brk = s.brk := rfl
@[simp] theorem State.setAudIn_scans (s : State) (k : Nat) (x : AudIn) : (s.setAudIn k x).scans = s.scans := rfl
@[simp] theorem State.setAudIn_trans (s : State) (k : Nat) (x : AudIn) : (s.setAudIn k x).trans = s.trans := rfl
@[simp] theorem State.setAudIn_fw (s : State) (k : Nat) (x : AudIn) : (s.setAudIn k x).fw = s.fw := rfl
@[simp] theorem State.setAudIn_thm (s : State) (k : Nat) (x : AudIn) : (s.setAudIn k x).thm = s.thm := rfl
@[simp] theorem State.setAudIn_sys (s : State) (k : Nat) (x : AudIn) : (s.setAudIn k x).sys = s.sys := rfl
@[simp] theorem State.setAudIn_mirrorQ (s : State) (k : Nat) (x : AudIn) : (s.setAudIn k x).mirrorQ = s.mirrorQ := rfl
@[simp] theorem State.setAudIn_faceStep (s : State) (k : Nat) (x : AudIn) : (s.setAudIn k x).faceStep = s.faceStep := rfl
@[simp] theorem State.setAudIn_effortWas (s : State) (k : Nat) (x : AudIn) : (s.setAudIn k x).effortWas = s.effortWas := rfl
@[simp] theorem State.setAudIn_selWas (s : State) (k : Nat) (x : AudIn) : (s.setAudIn k x).selWas = s.selWas := rfl
@[simp] theorem State.setAudIn_standIns (s : State) (k : Nat) (x : AudIn) : (s.setAudIn k x).standIns = s.standIns := rfl
@[simp] theorem State.setAudIn_fns (s : State) (k : Nat) (x : AudIn) : (s.setAudIn k x).fns = s.fns := rfl
@[simp] theorem State.setAudIn_vfEnable (s : State) (k : Nat) (x : AudIn) : (s.setAudIn k x).vfEnable = s.vfEnable := rfl
@[simp] theorem State.setAudIn_rings (s : State) (k : Nat) (x : AudIn) : (s.setAudIn k x).rings = s.rings := rfl
@[simp] theorem State.setAudIn_masked (s : State) (k : Nat) (x : AudIn) : (s.setAudIn k x).masked = s.masked := rfl
@[simp] theorem State.setAudIn_pba (s : State) (k : Nat) (x : AudIn) : (s.setAudIn k x).pba = s.pba := rfl
@[simp] theorem State.setAudIn_unsigSince (s : State) (k : Nat) (x : AudIn) : (s.setAudIn k x).unsigSince = s.unsigSince := rfl
@[simp] theorem State.setAudIn_ledger (s : State) (k : Nat) (x : AudIn) : (s.setAudIn k x).ledger = s.ledger := rfl
@[simp] theorem State.setAudIn_limits (s : State) (k : Nat) (x : AudIn) : (s.setAudIn k x).limits = s.limits := rfl
@[simp] theorem State.setAudIn_mem (s : State) (k : Nat) (x : AudIn) : (s.setAudIn k x).mem = s.mem := rfl
@[simp] theorem State.setAudIn_free (s : State) (k : Nat) (x : AudIn) : (s.setAudIn k x).free = s.free := rfl
@[simp] theorem State.setAudIn_out (s : State) (k : Nat) (x : AudIn) : (s.setAudIn k x).out = s.out := rfl
@[simp] theorem State.setAudIn_pending (s : State) (k : Nat) (x : AudIn) : (s.setAudIn k x).pending = s.pending := rfl
@[simp] theorem State.setAudIn_get (s : State) (k : Nat) (x : AudIn) (g : Field) : (s.setAudIn k x).get g = s.get g := rfl

@[simp] theorem State.setAudOut_regs (s : State) (k : Nat) (x : AudOut) : (s.setAudOut k x).regs = s.regs := rfl
@[simp] theorem State.setAudOut_latches (s : State) (k : Nat) (x : AudOut) : (s.setAudOut k x).latches = s.latches := rfl
@[simp] theorem State.setAudOut_fresh (s : State) (k : Nat) (x : AudOut) : (s.setAudOut k x).fresh = s.fresh := rfl
@[simp] theorem State.setAudOut_lc (s : State) (k : Nat) (x : AudOut) : (s.setAudOut k x).lc = s.lc := rfl
@[simp] theorem State.setAudOut_tim (s : State) (k : Nat) (x : AudOut) : (s.setAudOut k x).tim = s.tim := rfl
@[simp] theorem State.setAudOut_egr (s : State) (k : Nat) (x : AudOut) : (s.setAudOut k x).egr = s.egr := rfl
@[simp] theorem State.setAudOut_slots (s : State) (k : Nat) (x : AudOut) : (s.setAudOut k x).slots = s.slots := rfl
@[simp] theorem State.setAudOut_rx (s : State) (k : Nat) (x : AudOut) : (s.setAudOut k x).rx = s.rx := rfl
@[simp] theorem State.setAudOut_cmps (s : State) (k : Nat) (x : AudOut) : (s.setAudOut k x).cmps = s.cmps := rfl
@[simp] theorem State.setAudOut_safs (s : State) (k : Nat) (x : AudOut) : (s.setAudOut k x).safs = s.safs := rfl
@[simp] theorem State.setAudOut_safKey (s : State) (k : Nat) (x : AudOut) : (s.setAudOut k x).safKey = s.safKey := rfl
@[simp] theorem State.setAudOut_safFaultPin (s : State) (k : Nat) (x : AudOut) : (s.setAudOut k x).safFaultPin = s.safFaultPin := rfl
@[simp] theorem State.setAudOut_lanes (s : State) (k : Nat) (x : AudOut) : (s.setAudOut k x).lanes = s.lanes := rfl
@[simp] theorem State.setAudOut_wires (s : State) (k : Nat) (x : AudOut) : (s.setAudOut k x).wires = s.wires := rfl
@[simp] theorem State.setAudOut_scns (s : State) (k : Nat) (x : AudOut) : (s.setAudOut k x).scns = s.scns := rfl
@[simp] theorem State.setAudOut_trp (s : State) (k : Nat) (x : AudOut) : (s.setAudOut k x).trp = s.trp := rfl
@[simp] theorem State.setAudOut_dram (s : State) (k : Nat) (x : AudOut) : (s.setAudOut k x).dram = s.dram := rfl
@[simp] theorem State.setAudOut_tasks (s : State) (k : Nat) (x : AudOut) : (s.setAudOut k x).tasks = s.tasks := rfl
@[simp] theorem State.setAudOut_brk (s : State) (k : Nat) (x : AudOut) : (s.setAudOut k x).brk = s.brk := rfl
@[simp] theorem State.setAudOut_scans (s : State) (k : Nat) (x : AudOut) : (s.setAudOut k x).scans = s.scans := rfl
@[simp] theorem State.setAudOut_trans (s : State) (k : Nat) (x : AudOut) : (s.setAudOut k x).trans = s.trans := rfl
@[simp] theorem State.setAudOut_fw (s : State) (k : Nat) (x : AudOut) : (s.setAudOut k x).fw = s.fw := rfl
@[simp] theorem State.setAudOut_thm (s : State) (k : Nat) (x : AudOut) : (s.setAudOut k x).thm = s.thm := rfl
@[simp] theorem State.setAudOut_sys (s : State) (k : Nat) (x : AudOut) : (s.setAudOut k x).sys = s.sys := rfl
@[simp] theorem State.setAudOut_mirrorQ (s : State) (k : Nat) (x : AudOut) : (s.setAudOut k x).mirrorQ = s.mirrorQ := rfl
@[simp] theorem State.setAudOut_faceStep (s : State) (k : Nat) (x : AudOut) : (s.setAudOut k x).faceStep = s.faceStep := rfl
@[simp] theorem State.setAudOut_effortWas (s : State) (k : Nat) (x : AudOut) : (s.setAudOut k x).effortWas = s.effortWas := rfl
@[simp] theorem State.setAudOut_selWas (s : State) (k : Nat) (x : AudOut) : (s.setAudOut k x).selWas = s.selWas := rfl
@[simp] theorem State.setAudOut_standIns (s : State) (k : Nat) (x : AudOut) : (s.setAudOut k x).standIns = s.standIns := rfl
@[simp] theorem State.setAudOut_fns (s : State) (k : Nat) (x : AudOut) : (s.setAudOut k x).fns = s.fns := rfl
@[simp] theorem State.setAudOut_vfEnable (s : State) (k : Nat) (x : AudOut) : (s.setAudOut k x).vfEnable = s.vfEnable := rfl
@[simp] theorem State.setAudOut_rings (s : State) (k : Nat) (x : AudOut) : (s.setAudOut k x).rings = s.rings := rfl
@[simp] theorem State.setAudOut_masked (s : State) (k : Nat) (x : AudOut) : (s.setAudOut k x).masked = s.masked := rfl
@[simp] theorem State.setAudOut_pba (s : State) (k : Nat) (x : AudOut) : (s.setAudOut k x).pba = s.pba := rfl
@[simp] theorem State.setAudOut_unsigSince (s : State) (k : Nat) (x : AudOut) : (s.setAudOut k x).unsigSince = s.unsigSince := rfl
@[simp] theorem State.setAudOut_ledger (s : State) (k : Nat) (x : AudOut) : (s.setAudOut k x).ledger = s.ledger := rfl
@[simp] theorem State.setAudOut_limits (s : State) (k : Nat) (x : AudOut) : (s.setAudOut k x).limits = s.limits := rfl
@[simp] theorem State.setAudOut_mem (s : State) (k : Nat) (x : AudOut) : (s.setAudOut k x).mem = s.mem := rfl
@[simp] theorem State.setAudOut_free (s : State) (k : Nat) (x : AudOut) : (s.setAudOut k x).free = s.free := rfl
@[simp] theorem State.setAudOut_out (s : State) (k : Nat) (x : AudOut) : (s.setAudOut k x).out = s.out := rfl
@[simp] theorem State.setAudOut_pending (s : State) (k : Nat) (x : AudOut) : (s.setAudOut k x).pending = s.pending := rfl
@[simp] theorem State.setAudOut_get (s : State) (k : Nat) (x : AudOut) (g : Field) : (s.setAudOut k x).get g = s.get g := rfl

@[simp] theorem State.setAudCh_regs (s : State) (c : Nat) (x : AudCh) : (s.setAudCh c x).regs = s.regs := rfl
@[simp] theorem State.setAudCh_latches (s : State) (c : Nat) (x : AudCh) : (s.setAudCh c x).latches = s.latches := rfl
@[simp] theorem State.setAudCh_fresh (s : State) (c : Nat) (x : AudCh) : (s.setAudCh c x).fresh = s.fresh := rfl
@[simp] theorem State.setAudCh_lc (s : State) (c : Nat) (x : AudCh) : (s.setAudCh c x).lc = s.lc := rfl
@[simp] theorem State.setAudCh_tim (s : State) (c : Nat) (x : AudCh) : (s.setAudCh c x).tim = s.tim := rfl
@[simp] theorem State.setAudCh_egr (s : State) (c : Nat) (x : AudCh) : (s.setAudCh c x).egr = s.egr := rfl
@[simp] theorem State.setAudCh_slots (s : State) (c : Nat) (x : AudCh) : (s.setAudCh c x).slots = s.slots := rfl
@[simp] theorem State.setAudCh_rx (s : State) (c : Nat) (x : AudCh) : (s.setAudCh c x).rx = s.rx := rfl
@[simp] theorem State.setAudCh_cmps (s : State) (c : Nat) (x : AudCh) : (s.setAudCh c x).cmps = s.cmps := rfl
@[simp] theorem State.setAudCh_safs (s : State) (c : Nat) (x : AudCh) : (s.setAudCh c x).safs = s.safs := rfl
@[simp] theorem State.setAudCh_safKey (s : State) (c : Nat) (x : AudCh) : (s.setAudCh c x).safKey = s.safKey := rfl
@[simp] theorem State.setAudCh_safFaultPin (s : State) (c : Nat) (x : AudCh) : (s.setAudCh c x).safFaultPin = s.safFaultPin := rfl
@[simp] theorem State.setAudCh_lanes (s : State) (c : Nat) (x : AudCh) : (s.setAudCh c x).lanes = s.lanes := rfl
@[simp] theorem State.setAudCh_wires (s : State) (c : Nat) (x : AudCh) : (s.setAudCh c x).wires = s.wires := rfl
@[simp] theorem State.setAudCh_scns (s : State) (c : Nat) (x : AudCh) : (s.setAudCh c x).scns = s.scns := rfl
@[simp] theorem State.setAudCh_trp (s : State) (c : Nat) (x : AudCh) : (s.setAudCh c x).trp = s.trp := rfl
@[simp] theorem State.setAudCh_dram (s : State) (c : Nat) (x : AudCh) : (s.setAudCh c x).dram = s.dram := rfl
@[simp] theorem State.setAudCh_tasks (s : State) (c : Nat) (x : AudCh) : (s.setAudCh c x).tasks = s.tasks := rfl
@[simp] theorem State.setAudCh_brk (s : State) (c : Nat) (x : AudCh) : (s.setAudCh c x).brk = s.brk := rfl
@[simp] theorem State.setAudCh_scans (s : State) (c : Nat) (x : AudCh) : (s.setAudCh c x).scans = s.scans := rfl
@[simp] theorem State.setAudCh_trans (s : State) (c : Nat) (x : AudCh) : (s.setAudCh c x).trans = s.trans := rfl
@[simp] theorem State.setAudCh_fw (s : State) (c : Nat) (x : AudCh) : (s.setAudCh c x).fw = s.fw := rfl
@[simp] theorem State.setAudCh_thm (s : State) (c : Nat) (x : AudCh) : (s.setAudCh c x).thm = s.thm := rfl
@[simp] theorem State.setAudCh_sys (s : State) (c : Nat) (x : AudCh) : (s.setAudCh c x).sys = s.sys := rfl
@[simp] theorem State.setAudCh_mirrorQ (s : State) (c : Nat) (x : AudCh) : (s.setAudCh c x).mirrorQ = s.mirrorQ := rfl
@[simp] theorem State.setAudCh_faceStep (s : State) (c : Nat) (x : AudCh) : (s.setAudCh c x).faceStep = s.faceStep := rfl
@[simp] theorem State.setAudCh_effortWas (s : State) (c : Nat) (x : AudCh) : (s.setAudCh c x).effortWas = s.effortWas := rfl
@[simp] theorem State.setAudCh_selWas (s : State) (c : Nat) (x : AudCh) : (s.setAudCh c x).selWas = s.selWas := rfl
@[simp] theorem State.setAudCh_standIns (s : State) (c : Nat) (x : AudCh) : (s.setAudCh c x).standIns = s.standIns := rfl
@[simp] theorem State.setAudCh_fns (s : State) (c : Nat) (x : AudCh) : (s.setAudCh c x).fns = s.fns := rfl
@[simp] theorem State.setAudCh_vfEnable (s : State) (c : Nat) (x : AudCh) : (s.setAudCh c x).vfEnable = s.vfEnable := rfl
@[simp] theorem State.setAudCh_rings (s : State) (c : Nat) (x : AudCh) : (s.setAudCh c x).rings = s.rings := rfl
@[simp] theorem State.setAudCh_masked (s : State) (c : Nat) (x : AudCh) : (s.setAudCh c x).masked = s.masked := rfl
@[simp] theorem State.setAudCh_pba (s : State) (c : Nat) (x : AudCh) : (s.setAudCh c x).pba = s.pba := rfl
@[simp] theorem State.setAudCh_unsigSince (s : State) (c : Nat) (x : AudCh) : (s.setAudCh c x).unsigSince = s.unsigSince := rfl
@[simp] theorem State.setAudCh_ledger (s : State) (c : Nat) (x : AudCh) : (s.setAudCh c x).ledger = s.ledger := rfl
@[simp] theorem State.setAudCh_limits (s : State) (c : Nat) (x : AudCh) : (s.setAudCh c x).limits = s.limits := rfl
@[simp] theorem State.setAudCh_mem (s : State) (c : Nat) (x : AudCh) : (s.setAudCh c x).mem = s.mem := rfl
@[simp] theorem State.setAudCh_free (s : State) (c : Nat) (x : AudCh) : (s.setAudCh c x).free = s.free := rfl
@[simp] theorem State.setAudCh_out (s : State) (c : Nat) (x : AudCh) : (s.setAudCh c x).out = s.out := rfl
@[simp] theorem State.setAudCh_pending (s : State) (c : Nat) (x : AudCh) : (s.setAudCh c x).pending = s.pending := rfl
@[simp] theorem State.setAudCh_get (s : State) (c : Nat) (x : AudCh) (g : Field) : (s.setAudCh c x).get g = s.get g := rfl

@[simp] theorem State.setTask_regs (s : State) (i : Nat) (t : Task) : (s.setTask i t).regs = s.regs := rfl
@[simp] theorem State.setTask_latches (s : State) (i : Nat) (t : Task) : (s.setTask i t).latches = s.latches := rfl
@[simp] theorem State.setTask_fresh (s : State) (i : Nat) (t : Task) : (s.setTask i t).fresh = s.fresh := rfl
@[simp] theorem State.setTask_lc (s : State) (i : Nat) (t : Task) : (s.setTask i t).lc = s.lc := rfl
@[simp] theorem State.setTask_tim (s : State) (i : Nat) (t : Task) : (s.setTask i t).tim = s.tim := rfl
@[simp] theorem State.setTask_egr (s : State) (i : Nat) (t : Task) : (s.setTask i t).egr = s.egr := rfl
@[simp] theorem State.setTask_slots (s : State) (i : Nat) (t : Task) : (s.setTask i t).slots = s.slots := rfl
@[simp] theorem State.setTask_rx (s : State) (i : Nat) (t : Task) : (s.setTask i t).rx = s.rx := rfl
@[simp] theorem State.setTask_cmps (s : State) (i : Nat) (t : Task) : (s.setTask i t).cmps = s.cmps := rfl
@[simp] theorem State.setTask_safs (s : State) (i : Nat) (t : Task) : (s.setTask i t).safs = s.safs := rfl
@[simp] theorem State.setTask_safKey (s : State) (i : Nat) (t : Task) : (s.setTask i t).safKey = s.safKey := rfl
@[simp] theorem State.setTask_safFaultPin (s : State) (i : Nat) (t : Task) : (s.setTask i t).safFaultPin = s.safFaultPin := rfl
@[simp] theorem State.setTask_lanes (s : State) (i : Nat) (t : Task) : (s.setTask i t).lanes = s.lanes := rfl
@[simp] theorem State.setTask_wires (s : State) (i : Nat) (t : Task) : (s.setTask i t).wires = s.wires := rfl
@[simp] theorem State.setTask_scns (s : State) (i : Nat) (t : Task) : (s.setTask i t).scns = s.scns := rfl
@[simp] theorem State.setTask_trp (s : State) (i : Nat) (t : Task) : (s.setTask i t).trp = s.trp := rfl
@[simp] theorem State.setTask_aud (s : State) (i : Nat) (t : Task) : (s.setTask i t).aud = s.aud := rfl
@[simp] theorem State.setTask_dram (s : State) (i : Nat) (t : Task) : (s.setTask i t).dram = s.dram := rfl
@[simp] theorem State.setTask_brk (s : State) (i : Nat) (t : Task) : (s.setTask i t).brk = s.brk := rfl
@[simp] theorem State.setTask_scans (s : State) (i : Nat) (t : Task) : (s.setTask i t).scans = s.scans := rfl
@[simp] theorem State.setTask_trans (s : State) (i : Nat) (t : Task) : (s.setTask i t).trans = s.trans := rfl
@[simp] theorem State.setTask_fw (s : State) (i : Nat) (t : Task) : (s.setTask i t).fw = s.fw := rfl
@[simp] theorem State.setTask_thm (s : State) (i : Nat) (t : Task) : (s.setTask i t).thm = s.thm := rfl
@[simp] theorem State.setTask_sys (s : State) (i : Nat) (t : Task) : (s.setTask i t).sys = s.sys := rfl
@[simp] theorem State.setTask_mirrorQ (s : State) (i : Nat) (t : Task) : (s.setTask i t).mirrorQ = s.mirrorQ := rfl
@[simp] theorem State.setTask_faceStep (s : State) (i : Nat) (t : Task) : (s.setTask i t).faceStep = s.faceStep := rfl
@[simp] theorem State.setTask_effortWas (s : State) (i : Nat) (t : Task) : (s.setTask i t).effortWas = s.effortWas := rfl
@[simp] theorem State.setTask_selWas (s : State) (i : Nat) (t : Task) : (s.setTask i t).selWas = s.selWas := rfl
@[simp] theorem State.setTask_standIns (s : State) (i : Nat) (t : Task) : (s.setTask i t).standIns = s.standIns := rfl
@[simp] theorem State.setTask_fns (s : State) (i : Nat) (t : Task) : (s.setTask i t).fns = s.fns := rfl
@[simp] theorem State.setTask_vfEnable (s : State) (i : Nat) (t : Task) : (s.setTask i t).vfEnable = s.vfEnable := rfl
@[simp] theorem State.setTask_rings (s : State) (i : Nat) (t : Task) : (s.setTask i t).rings = s.rings := rfl
@[simp] theorem State.setTask_masked (s : State) (i : Nat) (t : Task) : (s.setTask i t).masked = s.masked := rfl
@[simp] theorem State.setTask_pba (s : State) (i : Nat) (t : Task) : (s.setTask i t).pba = s.pba := rfl
@[simp] theorem State.setTask_unsigSince (s : State) (i : Nat) (t : Task) : (s.setTask i t).unsigSince = s.unsigSince := rfl
@[simp] theorem State.setTask_ledger (s : State) (i : Nat) (t : Task) : (s.setTask i t).ledger = s.ledger := rfl
@[simp] theorem State.setTask_limits (s : State) (i : Nat) (t : Task) : (s.setTask i t).limits = s.limits := rfl
@[simp] theorem State.setTask_mem (s : State) (i : Nat) (t : Task) : (s.setTask i t).mem = s.mem := rfl
@[simp] theorem State.setTask_free (s : State) (i : Nat) (t : Task) : (s.setTask i t).free = s.free := rfl
@[simp] theorem State.setTask_out (s : State) (i : Nat) (t : Task) : (s.setTask i t).out = s.out := rfl
@[simp] theorem State.setTask_pending (s : State) (i : Nat) (t : Task) : (s.setTask i t).pending = s.pending := rfl
@[simp] theorem State.setTask_get (s : State) (i : Nat) (t : Task) (g : Field) : (s.setTask i t).get g = s.get g := rfl

@[simp] theorem State.withPending_regs (s : State) (l : List Instr) : (s.withPending l).regs = s.regs := rfl
@[simp] theorem State.withPending_latches (s : State) (l : List Instr) : (s.withPending l).latches = s.latches := rfl
@[simp] theorem State.withPending_fresh (s : State) (l : List Instr) : (s.withPending l).fresh = s.fresh := rfl
@[simp] theorem State.withPending_lc (s : State) (l : List Instr) : (s.withPending l).lc = s.lc := rfl
@[simp] theorem State.withPending_tim (s : State) (l : List Instr) : (s.withPending l).tim = s.tim := rfl
@[simp] theorem State.withPending_egr (s : State) (l : List Instr) : (s.withPending l).egr = s.egr := rfl
@[simp] theorem State.withPending_slots (s : State) (l : List Instr) : (s.withPending l).slots = s.slots := rfl
@[simp] theorem State.withPending_rx (s : State) (l : List Instr) : (s.withPending l).rx = s.rx := rfl
@[simp] theorem State.withPending_cmps (s : State) (l : List Instr) : (s.withPending l).cmps = s.cmps := rfl
@[simp] theorem State.withPending_safs (s : State) (l : List Instr) : (s.withPending l).safs = s.safs := rfl
@[simp] theorem State.withPending_safKey (s : State) (l : List Instr) : (s.withPending l).safKey = s.safKey := rfl
@[simp] theorem State.withPending_safFaultPin (s : State) (l : List Instr) : (s.withPending l).safFaultPin = s.safFaultPin := rfl
@[simp] theorem State.withPending_lanes (s : State) (l : List Instr) : (s.withPending l).lanes = s.lanes := rfl
@[simp] theorem State.withPending_wires (s : State) (l : List Instr) : (s.withPending l).wires = s.wires := rfl
@[simp] theorem State.withPending_scns (s : State) (l : List Instr) : (s.withPending l).scns = s.scns := rfl
@[simp] theorem State.withPending_trp (s : State) (l : List Instr) : (s.withPending l).trp = s.trp := rfl
@[simp] theorem State.withPending_aud (s : State) (l : List Instr) : (s.withPending l).aud = s.aud := rfl
@[simp] theorem State.withPending_dram (s : State) (l : List Instr) : (s.withPending l).dram = s.dram := rfl
@[simp] theorem State.withPending_tasks (s : State) (l : List Instr) : (s.withPending l).tasks = s.tasks := rfl
@[simp] theorem State.withPending_brk (s : State) (l : List Instr) : (s.withPending l).brk = s.brk := rfl
@[simp] theorem State.withPending_scans (s : State) (l : List Instr) : (s.withPending l).scans = s.scans := rfl
@[simp] theorem State.withPending_trans (s : State) (l : List Instr) : (s.withPending l).trans = s.trans := rfl
@[simp] theorem State.withPending_fw (s : State) (l : List Instr) : (s.withPending l).fw = s.fw := rfl
@[simp] theorem State.withPending_thm (s : State) (l : List Instr) : (s.withPending l).thm = s.thm := rfl
@[simp] theorem State.withPending_sys (s : State) (l : List Instr) : (s.withPending l).sys = s.sys := rfl
@[simp] theorem State.withPending_mirrorQ (s : State) (l : List Instr) : (s.withPending l).mirrorQ = s.mirrorQ := rfl
@[simp] theorem State.withPending_faceStep (s : State) (l : List Instr) : (s.withPending l).faceStep = s.faceStep := rfl
@[simp] theorem State.withPending_effortWas (s : State) (l : List Instr) : (s.withPending l).effortWas = s.effortWas := rfl
@[simp] theorem State.withPending_selWas (s : State) (l : List Instr) : (s.withPending l).selWas = s.selWas := rfl
@[simp] theorem State.withPending_standIns (s : State) (l : List Instr) : (s.withPending l).standIns = s.standIns := rfl
@[simp] theorem State.withPending_fns (s : State) (l : List Instr) : (s.withPending l).fns = s.fns := rfl
@[simp] theorem State.withPending_vfEnable (s : State) (l : List Instr) : (s.withPending l).vfEnable = s.vfEnable := rfl
@[simp] theorem State.withPending_rings (s : State) (l : List Instr) : (s.withPending l).rings = s.rings := rfl
@[simp] theorem State.withPending_masked (s : State) (l : List Instr) : (s.withPending l).masked = s.masked := rfl
@[simp] theorem State.withPending_pba (s : State) (l : List Instr) : (s.withPending l).pba = s.pba := rfl
@[simp] theorem State.withPending_unsigSince (s : State) (l : List Instr) : (s.withPending l).unsigSince = s.unsigSince := rfl
@[simp] theorem State.withPending_ledger (s : State) (l : List Instr) : (s.withPending l).ledger = s.ledger := rfl
@[simp] theorem State.withPending_limits (s : State) (l : List Instr) : (s.withPending l).limits = s.limits := rfl
@[simp] theorem State.withPending_mem (s : State) (l : List Instr) : (s.withPending l).mem = s.mem := rfl
@[simp] theorem State.withPending_free (s : State) (l : List Instr) : (s.withPending l).free = s.free := rfl
@[simp] theorem State.withPending_out (s : State) (l : List Instr) : (s.withPending l).out = s.out := rfl
@[simp] theorem State.withPending_get (s : State) (l : List Instr) (g : Field) : (s.withPending l).get g = s.get g := rfl

/-! ## Reading back -/

@[simp] theorem State.slot_setSlot (s : State) (n : Nat) (x : Slot) : (s.setSlot n x).slot n = x := by
  simp [State.slot, State.setSlot]

theorem State.slot_setSlot_other (s : State) (n m : Nat) (x : Slot) (h : m ≠ n) : (s.setSlot n x).slot m = s.slot m := by
  simp [State.slot, State.setSlot, Table.getD_put_other _ _ _ _ _ h]

@[simp] theorem State.scn_setScn (s : State) (n : Nat) (x : Scn) : (s.setScn n x).scn n = x := by
  simp [State.scn, State.setScn]

theorem State.scn_setScn_other (s : State) (n m : Nat) (x : Scn) (h : m ≠ n) : (s.setScn n x).scn m = s.scn m := by
  simp [State.scn, State.setScn, Table.getD_put_other _ _ _ _ _ h]

@[simp] theorem State.rcv_setRcv (s : State) (n : Nat) (x : Rx) : (s.setRcv n x).rcv n = x := by
  simp [State.rcv, State.setRcv]

theorem State.rcv_setRcv_other (s : State) (n m : Nat) (x : Rx) (h : m ≠ n) : (s.setRcv n x).rcv m = s.rcv m := by
  simp [State.rcv, State.setRcv, Table.getD_put_other _ _ _ _ _ h]

@[simp] theorem State.cmp_setCmp (s : State) (n : Nat) (x : Cmp) : (s.setCmp n x).cmp n = x := by
  simp [State.cmp, State.setCmp]

theorem State.cmp_setCmp_other (s : State) (n m : Nat) (x : Cmp) (h : m ≠ n) : (s.setCmp n x).cmp m = s.cmp m := by
  simp [State.cmp, State.setCmp, Table.getD_put_other _ _ _ _ _ h]

@[simp] theorem State.lane_setLane (s : State) (n : Nat) (x : Lane) : (s.setLane n x).lane n = x := by
  simp [State.lane, State.setLane]

theorem State.lane_setLane_other (s : State) (n m : Nat) (x : Lane) (h : m ≠ n) : (s.setLane n x).lane m = s.lane m := by
  simp [State.lane, State.setLane, Table.getD_put_other _ _ _ _ _ h]

@[simp] theorem State.audIn_setAudIn (s : State) (n : Nat) (x : AudIn) : (s.setAudIn n x).audIn n = x := by
  simp [State.audIn, State.setAudIn]

theorem State.audIn_setAudIn_other (s : State) (n m : Nat) (x : AudIn) (h : m ≠ n) : (s.setAudIn n x).audIn m = s.audIn m := by
  simp [State.audIn, State.setAudIn, Table.getD_put_other _ _ _ _ _ h]

@[simp] theorem State.audOut_setAudOut (s : State) (n : Nat) (x : AudOut) : (s.setAudOut n x).audOut n = x := by
  simp [State.audOut, State.setAudOut]

theorem State.audOut_setAudOut_other (s : State) (n m : Nat) (x : AudOut) (h : m ≠ n) : (s.setAudOut n x).audOut m = s.audOut m := by
  simp [State.audOut, State.setAudOut, Table.getD_put_other _ _ _ _ _ h]

@[simp] theorem State.audCh_setAudCh (s : State) (n : Nat) (x : AudCh) : (s.setAudCh n x).audCh n = x := by
  simp [State.audCh, State.setAudCh]

theorem State.audCh_setAudCh_other (s : State) (n m : Nat) (x : AudCh) (h : m ≠ n) : (s.setAudCh n x).audCh m = s.audCh m := by
  simp [State.audCh, State.setAudCh, Table.getD_put_other _ _ _ _ _ h]

@[simp] theorem State.port_setPort (s : State) (n : Nat) (x : EgPort) : (s.setPort n x).port n = x := by
  simp [State.port, State.setPort]

theorem State.port_setPort_other (s : State) (n m : Nat) (x : EgPort) (h : m ≠ n) : (s.setPort n x).port m = s.port m := by
  simp [State.port, State.setPort, Table.getD_put_other _ _ _ _ _ h]

@[simp] theorem State.queue_setQueue (s : State) (n : Nat) (x : List QLaunch) : (s.setQueue n x).queue n = x := by
  simp [State.queue, State.setQueue]

theorem State.queue_setQueue_other (s : State) (n m : Nat) (x : List QLaunch) (h : m ≠ n) : (s.setQueue n x).queue m = s.queue m := by
  simp [State.queue, State.setQueue, Table.getD_put_other _ _ _ _ _ h]

@[simp] theorem State.ring_putRing (s : State) (r : Nat) (x : Ring) : (s.putRing r x).ring r = some x := by
  simp [State.ring, State.putRing]

end Sys2Proof.Machine
end

