-- ==== Sys2Proof/Laws/Effects.lean ====
section
/-! SUPPORT. What the shared operations do: clear controls, what is sent, what stays of the rings, latches, and how a descriptor runs. -/

namespace Sys2Proof.Machine

set_option Elab.async false

/-! ## Clear controls -/

theorem fieldKey_id {f g : Field} (h : fieldKey f = fieldKey g) : f.id % 1024 = g.id % 1024 :=
  Decidable.byContradiction fun hc => fieldKey_ne f g hc h

/-- A clear leaves every field that is not listed. -/
theorem State.clear_get (l : List Field) (s : State) (f : Field) (h : fieldKey f ∉ l.map fieldKey) : (s.clear l).get f = s.get f := by
  induction l generalizing s with
  | nil => rfl
  | cons g l ih =>
    rw [List.map_cons, List.mem_cons, not_or] at h
    unfold State.clear
    rw [ih _ h.2, State.get_set_key _ _ _ _ h.1]

/-- A field written through another of the same key and shape. -/
theorem State.get_set_alias (s : State) {f g : Field} (v : Nat) (h : fieldKey g = fieldKey f) (hw : fieldWidth g = fieldWidth f)
    (hr : g.reset = f.reset) : (s.set f v).get g = v % 2 ^ fieldWidth g := by
  have k := State.get_set_same s f v
  unfold State.get State.set at k ⊢
  rw [h, hw, hr]; exact k

/-- A clear leaves each listed field at what was counted in this cycle. -/
theorem State.clear_listed (l : List Field) (s : State) (f : Field) (hf : fieldKey f ∈ l.map fieldKey)
    (hd : ∀ g ∈ l, g.id % 1024 = f.id % 1024 → fieldWidth g = fieldWidth f ∧ g.reset = f.reset) :
    (s.clear l).get f = s.freshBits f % 2 ^ fieldWidth f := by
  induction l generalizing s with
  | nil => cases hf
  | cons y l ih =>
    unfold State.clear
    by_cases hy : fieldKey f ∈ l.map fieldKey
    · rw [ih _ hy (fun x hx => hd x (List.mem_cons_of_mem _ hx))]; rfl
    · rw [State.clear_get _ _ _ hy]
      have hk : fieldKey f = fieldKey y := by simpa [hy] using hf
      have hh := hd y List.mem_cons_self (fieldKey_id hk).symm
      rw [State.get_set_alias _ _ hk hh.1.symm hh.2.symm]
      unfold State.freshBits; rw [hk]

theorem State.clear_part (l : List Field) (s : State) (p : Part) : p.Same s (s.clear l) := by
  induction l generalizing s with
  | nil => cases p <;> rfl
  | cons g l ih => have k := ih (s.set g (s.freshBits g)); cases p <;> exact k

theorem State.clear_out (l : List Field) (s : State) : (s.clear l).out = s.out := by
  induction l generalizing s with
  | nil => rfl
  | cons g l ih => exact ih _

theorem State.clear_pending (l : List Field) (s : State) : (s.clear l).pending = s.pending := by
  induction l generalizing s with
  | nil => rfl
  | cons g l ih => exact ih _

/-! ## Sets of fields -/

/-- Writing several fields leaves the fields of other names. -/
theorem State.setAll_get (l : List (Field × Nat)) (s : State) (f : Field) (h : ∀ e ∈ l, f.id % 1024 ≠ e.1.id % 1024) :
    (s.setAll l).get f = s.get f := by
  induction l generalizing s with
  | nil => rfl
  | cons e l ih =>
    obtain ⟨g, v⟩ := e
    rw [State.setAll, ih _ (fun e he => h e (List.mem_cons_of_mem _ he)), State.get_set_other _ _ _ _ (h _ List.mem_cons_self)]

/-! ## What is sent -/

theorem State.sent_emit (s : State) (o : Output) (p : Output → Prop) (h : p o) : s.Sent (s.emit o) p :=
  ⟨[(s.lc, o)], rfl, _, List.mem_singleton.mpr rfl, h⟩

theorem State.Sent.after {s t u : State} {p : Output → Prop} (h : s.Sent t p) (k : t.out <:+ u.out) : s.Sent u p := by
  obtain ⟨l, hl, e, he, hp⟩ := h
  obtain ⟨m, hm⟩ := k
  exact ⟨m ++ l, by rw [← hm, hl, List.append_assoc], e, List.mem_append_right _ he, hp⟩

theorem State.Sent.before {s t u : State} {p : Output → Prop} (h : t.Sent u p) (k : s.out <:+ t.out) : s.Sent u p := by
  obtain ⟨l, hl, e, he, hp⟩ := h
  obtain ⟨m, hm⟩ := k
  exact ⟨l ++ m, by rw [hl, ← hm, List.append_assoc], e, List.mem_append_left _ he, hp⟩

/-! ## Rings that stay -/

/-- Every ring of s is still there, and functions were not closed. -/
def State.RingsStay (s t : State) : Prop := (∀ r, (s.ring r).isSome → (t.ring r).isSome) ∧ t.fns = s.fns

theorem State.RingsStay.refl (s : State) : s.RingsStay s := ⟨fun _ h => h, rfl⟩

theorem State.RingsStay.trans {s t u : State} (h : s.RingsStay t) (k : t.RingsStay u) : s.RingsStay u :=
  ⟨fun r x => k.1 r (h.1 r x), k.2.trans h.2⟩

theorem State.RingsStay.of_eq {s t : State} (h : t.rings = s.rings) (k : t.fns = s.fns) : s.RingsStay t :=
  ⟨fun r x => by unfold State.ring at x ⊢; rwa [h], k⟩

/-- An operation that changes neither the rings nor the functions. -/
theorem Keeps.ringsStay {w : Nat} {s t : State} (h : Keeps w s t) (a : w.testBit 31 = false := by decide)
    (b : w.testBit 29 = false := by decide) : s.RingsStay t := .of_eq (h.ringsKept a) (h.fnsKept b)

theorem State.RingsStay.eq {u s t : State} (h : u.RingsStay s) (a : t.rings = s.rings) (b : t.fns = s.fns) : u.RingsStay t :=
  h.trans (.of_eq a b)

theorem State.putRing_stay {u s : State} {r : Nat} {x : Ring} (h : u.RingsStay s) : u.RingsStay (s.putRing r x) := by
  refine h.trans ⟨fun q h => ?_, rfl⟩
  unfold State.ring State.putRing at *
  by_cases e : q = r
  · subst e; simp
  · rw [Table.find_put_other _ _ _ _ e]; exact h

theorem State.updRing_stay {u s : State} {r : Nat} {f : Ring → Ring} (h : u.RingsStay s) : u.RingsStay (s.updRing r f) := by
  unfold State.updRing
  split
  · exact h
  · exact State.putRing_stay h

theorem State.emit_stay {u s : State} {o : Output} (h : u.RingsStay s) : u.RingsStay (s.emit o) := h.eq rfl rfl

theorem State.set_stay {u s : State} {f : Field} {v : Nat} (h : u.RingsStay s) : u.RingsStay (s.set f v) := h.eq rfl rfl

theorem State.setAll_stay {u s : State} {l : List (Field × Nat)} (h : u.RingsStay s) : u.RingsStay (s.setAll l) := by
  induction l generalizing s with
  | nil => exact h
  | cons e l ih => exact ih (State.set_stay h)

theorem State.signal_stay {u s : State} {v : Nat} (h : u.RingsStay s) : u.RingsStay (s.signal v) := by
  unfold State.signal
  split
  · exact h.eq rfl rfl
  · exact State.emit_stay h

theorem State.moderate_stay {u s : State} {r : Nat} (h : u.RingsStay s) : u.RingsStay (s.moderate r) := by
  unfold State.moderate
  split
  · exact h
  · split
    · exact h
    · split
      · exact State.signal_stay (State.putRing_stay (h.eq rfl rfl))
      · dsimp only
        split
        · exact (State.putRing_stay h).eq rfl rfl
        · exact State.putRing_stay h

theorem State.bump_stay {u s : State} {f : Field} (h : u.RingsStay s) : u.RingsStay (s.bump f) := by
  unfold State.bump State.count
  split
  · exact h
  · exact h.eq rfl rfl

theorem State.pushEvt_stay {u s : State} {r : Nat} {c : Code} {o : Nat} {d : Detail} (h : u.RingsStay s) :
    u.RingsStay (s.pushEvt r c o d) := by
  unfold State.pushEvt
  split
  · exact h
  · split
    · exact State.bump_stay (State.putRing_stay h)
    · exact State.moderate_stay (State.emit_stay (State.putRing_stay h))

theorem State.pushEvts_stay {l : List Nat} {u s : State} {c : Code} {o : Nat} {d : Detail} (h : u.RingsStay s) :
    u.RingsStay (s.pushEvts c o d l) := by
  induction l generalizing s with
  | nil => exact h
  | cons r l ih => exact ih (State.pushEvt_stay h)

theorem State.latchCode_stay {u s : State} {c : Code} (h : u.RingsStay s) : u.RingsStay (s.latchCode c) := by
  unfold State.latchCode
  split
  · exact h
  · exact h.eq rfl rfl

theorem State.raise_stay {u s : State} {c : Code} {o : Nat} {d : Detail} (h : u.RingsStay s) : u.RingsStay (s.raise c o d) :=
  State.latchCode_stay (State.pushEvts_stay h)

theorem State.raiseLimited_stay {u s : State} {c : Code} {i o : Nat} {d : Detail} (h : u.RingsStay s) :
    u.RingsStay (s.raiseLimited c i o d) := by
  unfold State.raiseLimited
  split
  · exact State.raise_stay (h.eq rfl rfl)
  · exact h

theorem State.ledgerLost_stay {u s : State} (h : u.RingsStay s) : u.RingsStay s.ledgerLost :=
  State.raiseLimited_stay (State.bump_stay h)

theorem State.offer_stay {u s : State} {e : LedgerEntry} (h : u.RingsStay s) : u.RingsStay (s.offer e) := by
  have k := State.set_stay (f := Reg.LDG_NEXT_SEQ) (v := s.get Reg.LDG_NEXT_SEQ + 1) h
  unfold State.offer
  dsimp only
  generalize s.set Reg.LDG_NEXT_SEQ (s.get Reg.LDG_NEXT_SEQ + 1) = s1 at *
  split
  · exact State.ledgerLost_stay k
  · exact k.eq rfl rfl

theorem State.mirrorCfg_stay {u s : State} {off v : Nat} (h : u.RingsStay s) : u.RingsStay (s.mirrorCfg off v) :=
  h.trans (State.mirrorCfg_keeps (m0 := 0x1000000) (.refl _ s)).ringsStay

theorem State.logReg_stay {u s : State} {w : Writer} {off : Nat} {c : Code} {a b : Nat} (h : u.RingsStay s) :
    u.RingsStay (s.logReg w off c a b) := by
  unfold State.logReg
  dsimp only
  split
  · exact State.mirrorCfg_stay (State.offer_stay h)
  · exact State.offer_stay h

theorem State.logDesc_stay {u s : State} {f o : Nat} {c : Code} {a b : Nat} (h : u.RingsStay s) : u.RingsStay (s.logDesc f o c a b) :=
  State.offer_stay h

theorem State.logHash_stay {u s : State} {f o : Nat} {c : Code} {l : List Byte} (h : u.RingsStay s) : u.RingsStay (s.logHash f o c l) :=
  State.offer_stay h

theorem State.logUnit_stay {u s : State} {o i : Nat} {c : Code} {b k : Nat} (h : u.RingsStay s) : u.RingsStay (s.logUnit o i c b k) :=
  State.offer_stay h

theorem State.complete_stay {u s : State} {t : Ticket} {c : Code} {r : Nat} (h : u.RingsStay s) : u.RingsStay (s.complete t c r) := by
  unfold State.complete
  split
  · exact h
  · dsimp only
    have k := State.updRing_stay (r := t.rid) (f := fun x => { x with inFlight := x.inFlight - 1 }) h
    generalize s.updRing t.rid (fun x => { x with inFlight := x.inFlight - 1 }) = s1 at *
    split
    · exact k
    · exact State.moderate_stay (State.emit_stay (State.putRing_stay k))

/-! ## Completions -/

/-- A completion is sent while its function was not reset and its completion ring is there. -/
theorem State.complete_sent (s : State) (t : Ticket) (c : Code) (r : Nat) (he : (s.fn t.fn).epoch = t.epoch)
    (hr : (s.ring t.cpl).isSome) : s.Sent (s.complete t c r)
      (fun o => ∃ q i e, o = .cpl q i e ∧ e.rid = t.rid ∧ e.cookie = t.cookie ∧ e.status = State.ticketStatus t c) := by
  unfold State.complete
  rw [if_neg (fun h => h he)]
  dsimp only
  have hs := (State.updRing_stay (r := t.rid) (f := fun x => { x with inFlight := x.inFlight - 1 }) (.refl s)).1 t.cpl hr
  split
  · next e => rw [e] at hs; cases hs
  · refine State.Sent.after (State.Sent.before (State.sent_emit _ _ _ ?_) ?_) (State.moderate_keeps (m0 := 0x680000000) (.refl _ _)).sent
    · exact ⟨_, _, _, rfl, rfl, rfl, rfl⟩
    · rw [State.putRing_out]
      unfold State.updRing
      split
      · exact List.suffix_refl _
      · exact List.suffix_refl _

/-! ## Descriptors -/

/-- What a consumed descriptor's ticket stands for, and what consuming leaves. -/
theorem State.consume_spec {s : State} {r : Nat} {fence : Bool} (cookie : Nat) (h : s.servable .sub r fence = true) :
    ∃ x, s.ring r = some x ∧
      (s.consume r cookie).2 = { rid := r, cpl := x.pair, fn := x.fn, epoch := (s.fn x.fn).epoch, cookie := cookie } ∧
      (s.ring x.pair).isSome ∧ s.RingsStay (s.consume r cookie).1 := by
  unfold State.servable at h
  rw [Bool.and_eq_true] at h
  have h2 := h.2
  split at h2
  · cases h2
  · next x e =>
    refine ⟨x, e, ?_, ?_, ?_⟩
    · unfold State.consume; rw [e]
    · cases hp : s.ring x.pair with
      | none => unfold State.hasWork at h2; rw [hp] at h2; simp at h2
      | some c => rfl
    · unfold State.consume; rw [e]
      exact State.updRing_stay (State.putRing_stay ((State.RingsStay.refl _).eq rfl rfl))

/-- An accepted descriptor's action runs, after the descriptor was consumed, with a ticket of its own. -/
theorem State.runDesc_accepted {s : State} {o : OpSpec} {d : Desc} {act : Desc → Ticket → State → State} (h : s.Accepts o d) :
    ∃ t u, s.runDesc o d act = act d t u ∧ Keeps 0x81800000 s u ∧ s.RingsStay u ∧ (u.ring t.cpl).isSome ∧
      t = { rid := d.rid.val, cpl := t.cpl, fn := s.submitter d, epoch := (u.fn t.fn).epoch, cookie := d.cookie.toNat } := by
  obtain ⟨h1, h2, h3⟩ := h
  obtain ⟨x, e, ht, hp, hs⟩ := State.consume_spec d.cookie.toNat h1
  have hf : s.submitter d = x.fn := by unfold State.submitter; rw [e]
  rw [hf] at h2 ⊢
  have k1 : Keeps 0x81800000 s (s.consume d.rid.val d.cookie.toNat).1 := (State.consume_keeps (.refl _ _))
  generalize hu : (s.consume d.rid.val d.cookie.toNat) = cu at *
  have k2 : Keeps 0x1000000 cu.1 (cu.1.mirror3 (.ring d.rid.val (cu.1.consOf d.rid.val) o.opcode (some d))) :=
    State.mirror3_keeps (.refl _ _)
  have st := hs.trans k2.ringsStay
  refine ⟨cu.2, cu.1.mirror3 (.ring d.rid.val (cu.1.consOf d.rid.val) o.opcode (some d)), ?_, k1.trans (k2.mono (by decide)), st,
    st.1 _ (by rw [ht]; exact hp), ?_⟩
  · unfold State.runDesc
    rw [if_pos h1]
    simp only [hu]
    rw [show cu.2.fn = x.fn by rw [ht]]
    rw [h2]
    simp only [h3, Bool.false_and, Bool.false_eq_true, if_false]
  · unfold State.fn
    rw [st.2, ht]; rfl

/-- A descriptor that cannot be consumed yet stays. -/
theorem State.runDesc_waits {s : State} {o : OpSpec} {d : Desc} {act : Desc → Ticket → State → State}
    (h : s.servable .sub d.rid.val d.fence = false) : s.runDesc o d act = s := by
  unfold State.runDesc; rw [h]; rfl

/-- A completion for an accepted descriptor is sent, whatever happened to the state in between that kept the rings. -/
theorem State.answers_complete {s u v : State} {d : Desc} {t : Ticket} {c : Code} {r f : Nat} (ho : s.out <:+ v.out)
    (hv : u.RingsStay v) (hr : (u.ring t.cpl).isSome)
    (ht : t = { rid := d.rid.val, cpl := t.cpl, fn := f, epoch := (u.fn t.fn).epoch, cookie := d.cookie.toNat }) :
    s.Answers (v.complete t c r) d c := by
  have he : (v.fn t.fn).epoch = t.epoch := by
    have k : t.epoch = (u.fn t.fn).epoch := congrArg Ticket.epoch ht
    rw [k]; unfold State.fn; rw [hv.2]
  obtain ⟨l, hl, e, hm, q, i, x, h1, h2, h3, h4⟩ := (State.complete_sent v t c r he (hv.1 _ hr)).before ho
  refine ⟨l, hl, e, hm, q, i, x, h1, ?_, ?_, ?_⟩
  · rw [h2, ht]
  · rw [h3, ht]
  · rw [h4]; unfold State.ticketStatus; rw [ht]
    simp only [Bool.false_eq_true, if_false]
    by_cases h : c = 0 <;> simp [h]

/-! ## Counters and latches -/

theorem fieldMax_lt (f : Field) : fieldMax f < 2 ^ fieldWidth f := Nat.sub_lt (Nat.two_pow_pos _) Nat.one_pos

/-- A counter that counts once. -/
theorem State.bump_same (s : State) (f : Field) : (s.bump f).get f = min (s.get f + 1) (fieldMax f) := by
  show (s.set f (min (s.get f + 1) (fieldMax f))).get f = _
  rw [State.get_set_same]
  exact Nat.mod_eq_of_lt (Nat.lt_of_le_of_lt (Nat.min_le_right _ _) (fieldMax_lt f))

theorem State.bump_other (s : State) (f g : Field) (h : g.id % 1024 ≠ f.id % 1024) : (s.bump f).get g = s.get g :=
  State.get_set_other s f g _ h

theorem State.bump_counted (s : State) (f : Field) : s.Counted (s.bump f) f := s.bump_same f

theorem State.Counted.after {s t u : State} {f : Field} (h : s.Counted t f) (k : u.get f = t.get f) : s.Counted u f := k.trans h

/-- No Barker latch was cleared. -/
def State.LatchesStay (s t : State) : Prop :=
  ∀ n b, b < 32 → bit (s.get (Reg.BRK_LATCH n)) b = true → bit (t.get (Reg.BRK_LATCH n)) b = true

theorem State.LatchesStay.refl (s : State) : s.LatchesStay s := fun _ _ _ h => h

theorem State.LatchesStay.trans {s t u : State} (h : s.LatchesStay t) (k : t.LatchesStay u) : s.LatchesStay u :=
  fun n b hb x => k n b hb (h n b hb x)

/-- An operation that does not reach the latches. -/
theorem Keeps.latchesStay {w : Nat} {s t : State} (h : Keeps w s t)
    (hw : w.testBit (64 + (Reg.BRK_LATCH 0).id % 1024) = false := by decide) : s.LatchesStay t :=
  fun n b _ x => by rw [h.regs (Reg.BRK_LATCH n) hw]; exact x

theorem State.Latches.stay {s t : State} {c : Code} (h : s.Latches c) (k : s.LatchesStay t) : t.Latches c :=
  fun n hn => k _ _ (Nat.mod_lt _ (by decide)) (h n hn)

theorem State.flag_latchesStay {u s : State} {k v : Nat} (h : u.LatchesStay s) : u.LatchesStay (s.flag (Reg.BRK_LATCH k) v) := by
  refine h.trans fun n b hb x => ?_
  show bit ((s.set (Reg.BRK_LATCH k) (s.get (Reg.BRK_LATCH k) ||| v)).get (Reg.BRK_LATCH n)) b = true
  by_cases e : n = k
  · subst e
    rw [State.get_set_same, show fieldWidth (Reg.BRK_LATCH n) = 32 from rfl]
    unfold bit at *
    rw [Nat.testBit_mod_two_pow, Nat.testBit_or, x]
    simp [hb]
  · rw [State.get_set_key]
    · exact x
    · intro k2
      unfold fieldKey Reg.BRK_LATCH at k2
      simp only at k2
      omega

theorem State.latchCode_latchesStay {u s : State} {c : Code} (h : u.LatchesStay s) : u.LatchesStay (s.latchCode c) := by
  unfold State.latchCode
  split
  · exact h
  · exact State.flag_latchesStay h

theorem State.raise_latchesStay {u s : State} {c : Code} {o : Nat} {d : Detail} (h : u.LatchesStay s) :
    u.LatchesStay (s.raise c o d) :=
  State.latchCode_latchesStay (h.trans (State.pushEvts_keeps (w := 0x1000000000000680000002) (.refl _ s)).latchesStay)

theorem State.raiseTo_latchesStay {u s : State} {f : Nat} {c : Code} {d : Detail} (h : u.LatchesStay s) :
    u.LatchesStay (s.raiseTo f c d) :=
  State.latchCode_latchesStay (h.trans (State.pushEvts_keeps (w := 0x1000000000000680000002) (.refl _ s)).latchesStay)

theorem State.raiseLimited_latchesStay {u s : State} {c : Code} {i o : Nat} {d : Detail} (h : u.LatchesStay s) :
    u.LatchesStay (s.raiseLimited c i o d) := by
  unfold State.raiseLimited
  split
  · exact State.raise_latchesStay (h.trans fun _ _ _ x => x)
  · exact h

theorem State.ledgerLost_latchesStay {u s : State} (h : u.LatchesStay s) : u.LatchesStay s.ledgerLost :=
  State.raiseLimited_latchesStay (h.trans fun n b _ x => by
    rw [State.bump_other _ _ _ (by show (174 : Nat) % 1024 ≠ _; decide)]; exact x)

theorem State.offer_latchesStay {u s : State} {e : LedgerEntry} (h : u.LatchesStay s) : u.LatchesStay (s.offer e) := by
  have k : u.LatchesStay (s.set Reg.LDG_NEXT_SEQ (s.get Reg.LDG_NEXT_SEQ + 1)) := h.trans fun n b _ x => by
    rw [State.get_set_other _ _ _ _ (by show (174 : Nat) % 1024 ≠ _; decide)]; exact x
  unfold State.offer
  dsimp only
  generalize s.set Reg.LDG_NEXT_SEQ (s.get Reg.LDG_NEXT_SEQ + 1) = s1 at *
  split
  · exact State.ledgerLost_latchesStay k
  · exact k

theorem State.logReg_latchesStay {u s : State} {w : Writer} {off : Nat} {c : Code} {a b : Nat} (h : u.LatchesStay s) :
    u.LatchesStay (s.logReg w off c a b) := by
  unfold State.logReg
  dsimp only
  split
  · exact (State.offer_latchesStay h).trans (State.mirrorCfg_keeps (m0 := 0x1000000) (.refl _ _)).latchesStay
  · exact State.offer_latchesStay h

theorem State.logDesc_latchesStay {u s : State} {f o : Nat} {c : Code} {a b : Nat} (h : u.LatchesStay s) :
    u.LatchesStay (s.logDesc f o c a b) := State.offer_latchesStay h

theorem State.logHash_latchesStay {u s : State} {f o : Nat} {c : Code} {l : List Byte} (h : u.LatchesStay s) :
    u.LatchesStay (s.logHash f o c l) := State.offer_latchesStay h

theorem State.logUnit_latchesStay {u s : State} {o i : Nat} {c : Code} {b k : Nat} (h : u.LatchesStay s) :
    u.LatchesStay (s.logUnit o i c b k) := State.offer_latchesStay h

/-- A raised event sets the latch of its Barker source. -/
theorem State.raise_latches (s : State) (c : Code) (o : Nat) (d : Detail) : (s.raise c o d).Latches c := by
  intro n h
  unfold State.raise State.latchCode
  rw [h]
  generalize s.pushEvts c o d (s.evtRings (fun f => s.receives f o) c) = u
  show bit ((u.set (Reg.BRK_LATCH (n / 32)) (u.get (Reg.BRK_LATCH (n / 32)) ||| 2 ^ (n % 32))).get (Reg.BRK_LATCH (n / 32))) (n % 32) = true
  rw [State.get_set_same]
  unfold bit
  have hw : fieldWidth (Reg.BRK_LATCH (n / 32)) = 32 := rfl
  have hlt : n % 32 < 32 := Nat.mod_lt _ (by decide)
  rw [hw, Nat.testBit_mod_two_pow, Nat.testBit_or, Nat.testBit_two_pow_self]
  simp [hlt]

end Sys2Proof.Machine
end

