-- ==== Sys2Proof/Laws/Frames.lean ====
section
/-! SUPPORT. From the laws that say what an operation may change as a number to frames in the words of Safety.lean. -/

namespace Sys2Proof.Machine

/-- The parts, in the order of their bits. -/
def allParts : List Part :=
  [.latches, .fresh, .lc, .tim, .egr, .slots, .rx, .cmps, .safs, .safKey, .safFaultPin, .lanes, .wires, .scns, .trp, .aud, .dram, .tasks, .brk, .scans,
   .trans, .fw, .thm, .sys, .mirrorQ, .faceStep, .effortWas, .selWas, .standIns, .fns, .vfEnable, .rings, .masked, .pba, .unsigSince, .ledger,
   .limits, .mem, .free]

theorem mem_allParts (p : Part) : p ∈ allParts := by cases p <;> decide

/-- Whether a number names only the given register fields and parts. -/
def covered (w : Nat) (fields : List Nat) (parts : List Part) : Bool :=
  (List.range 1024).all (fun i => !(w.testBit (64 + i)) || fields.contains i) && allParts.all (fun p => !(w.testBit p.index) || parts.contains p)

/-- A part whose bit is zero is kept. -/
theorem Keeps.same {w : Nat} {s t : State} (k : Keeps w s t) (p : Part) (h : w.testBit p.index = false) : p.Same s t := by
  cases p
  · exact k.latchesKept h
  · exact k.freshKept h
  · exact k.lcKept h
  · exact k.timKept h
  · exact k.egrKept h
  · exact k.slotsKept h
  · exact k.rxKept h
  · exact k.cmpsKept h
  · exact k.safsKept h
  · exact k.safKeyKept h
  · exact k.safFaultPinKept h
  · exact k.lanesKept h
  · exact k.wiresKept h
  · exact k.scnsKept h
  · exact k.trpKept h
  · exact k.audKept h
  · exact k.dramKept h
  · exact k.tasksKept h
  · exact k.brkKept h
  · exact k.scansKept h
  · exact k.transKept h
  · exact k.fwKept h
  · exact k.thmKept h
  · exact k.sysKept h
  · exact k.mirrorQKept h
  · exact k.faceStepKept h
  · exact k.effortWasKept h
  · exact k.selWasKept h
  · exact k.standInsKept h
  · exact k.fnsKept h
  · exact k.vfEnableKept h
  · exact k.ringsKept h
  · exact k.maskedKept h
  · exact k.pbaKept h
  · exact k.unsigSinceKept h
  · exact k.ledgerKept h
  · exact k.limitsKept h
  · exact k.memKept h
  · exact k.freeKept h

/-- What an operation keeps, in the words of frames. -/
theorem Keeps.only {w : Nat} {s t : State} {fields : List Nat} {parts : List Part} (k : Keeps w s t) (h : covered w fields parts = true) :
    s.Only fields parts t := by
  rw [covered, Bool.and_eq_true, List.all_eq_true, List.all_eq_true] at h
  refine ⟨k.queue, k.sent, fun f hf hl => k.regs f ?_, fun p hp => k.same p ?_⟩
  · have := h.1 f.id (List.mem_range.2 hl)
    rw [Nat.mod_eq_of_lt hl]
    simpa [hf] using this
  · have := h.2 p (mem_allParts p)
    simpa [hp] using this

/-- An operation whose number leaves memory out keeps every byte. -/
theorem Keeps.sameMemory {w : Nat} {s t : State} (k : Keeps w s t) (h : w.testBit Part.mem.index = false) : s.SameMemory t := by
  intro a
  rw [k.memKept h]

end Sys2Proof.Machine
end

