-- ==== Sys2Proof/Laws/KeepsStep.lean ====
section
/-! SUPPORT. What each operation of Machine/Step.lean may change (Laws/Keeps.lean). -/

namespace Sys2Proof.Machine

set_option Elab.async false
set_option linter.unusedTactic false
set_option linter.unusedSimpArgs false
set_option linter.unreachableTactic false





end Sys2Proof.Machine
end

