-- ==== Sys2Proof/Laws/Registers.lean ====
section
/-! SUPPORT. What a word written to a register reaches always completes: the command of its row, or the value rule of its chapter, answers
a next state. -/

namespace Sys2Proof.Machine

/-- A training helper's control word completes. -/
theorem trnCmd_next (w : Writer) (off c v : Nat) (s : State) : ∃ t, trnCmd w off c v s = .next t := by
  unfold trnCmd
  repeat' first
    | split
    | exact ⟨_, rfl⟩

/-- A mode register access completes. -/
theorem mrCmd_next (w : Writer) (c v : Nat) (s : State) : ∃ t, mrCmd w c v s = .next t := by
  unfold mrCmd
  repeat' first
    | split
    | exact ⟨_, rfl⟩

/-- A slot's command word completes. -/
theorem runCmd_next (w : Writer) (off n v : Nat) (s : State) : ∃ t, runCmd w off n v s = .next t := by
  unfold runCmd
  repeat' first
    | split
    | exact ⟨_, rfl⟩

theorem hifCmd_next {w o v c} (e : hifCmd w o v = some c) (s : State) : ∃ t, c s = .next t := by
  unfold hifCmd at e
  repeat' first
    | split at e
    | dsimp only at e
    | exact (Option.some_ne_none _ e.symm).elim
    | exact Option.some.inj e ▸ ⟨_, rfl⟩
    | exact Option.some.inj e ▸ trnCmd_next _ _ _ _ _
    | exact Option.some.inj e ▸ mrCmd_next _ _ _ _
    | exact Option.some.inj e ▸ runCmd_next _ _ _ _ _

theorem pwrCmd_next {w o v c} (e : pwrCmd w o v = some c) (s : State) : ∃ t, c s = .next t := by
  unfold pwrCmd at e
  repeat' first
    | split at e
    | dsimp only at e
    | exact (Option.some_ne_none _ e.symm).elim
    | exact Option.some.inj e ▸ ⟨_, rfl⟩
    | exact Option.some.inj e ▸ trnCmd_next _ _ _ _ _
    | exact Option.some.inj e ▸ mrCmd_next _ _ _ _
    | exact Option.some.inj e ▸ runCmd_next _ _ _ _ _

theorem thmCmd_next {w o v c} (e : thmCmd w o v = some c) (s : State) : ∃ t, c s = .next t := by
  unfold thmCmd at e
  repeat' first
    | split at e
    | dsimp only at e
    | exact (Option.some_ne_none _ e.symm).elim
    | exact Option.some.inj e ▸ ⟨_, rfl⟩
    | exact Option.some.inj e ▸ trnCmd_next _ _ _ _ _
    | exact Option.some.inj e ▸ mrCmd_next _ _ _ _
    | exact Option.some.inj e ▸ runCmd_next _ _ _ _ _

theorem ldgCmd_next {w o v c} (e : ldgCmd w o v = some c) (s : State) : ∃ t, c s = .next t := by
  unfold ldgCmd at e
  repeat' first
    | split at e
    | dsimp only at e
    | exact (Option.some_ne_none _ e.symm).elim
    | exact Option.some.inj e ▸ ⟨_, rfl⟩
    | exact Option.some.inj e ▸ trnCmd_next _ _ _ _ _
    | exact Option.some.inj e ▸ mrCmd_next _ _ _ _
    | exact Option.some.inj e ▸ runCmd_next _ _ _ _ _

theorem timCmd_next {w off o v c} (e : timCmd w off o v = some c) (s : State) : ∃ t, c s = .next t := by
  unfold timCmd at e
  repeat' first
    | split at e
    | dsimp only at e
    | exact (Option.some_ne_none _ e.symm).elim
    | exact Option.some.inj e ▸ ⟨_, rfl⟩
    | exact Option.some.inj e ▸ trnCmd_next _ _ _ _ _
    | exact Option.some.inj e ▸ mrCmd_next _ _ _ _
    | exact Option.some.inj e ▸ runCmd_next _ _ _ _ _

theorem brkCmd_next {w o v c} (e : brkCmd w o v = some c) (s : State) : ∃ t, c s = .next t := by
  unfold brkCmd at e
  repeat' first
    | split at e
    | dsimp only at e
    | exact (Option.some_ne_none _ e.symm).elim
    | exact Option.some.inj e ▸ ⟨_, rfl⟩
    | exact Option.some.inj e ▸ trnCmd_next _ _ _ _ _
    | exact Option.some.inj e ▸ mrCmd_next _ _ _ _
    | exact Option.some.inj e ▸ runCmd_next _ _ _ _ _

theorem jugCmd_next {w o v c} (e : jugCmd w o v = some c) (s : State) : ∃ t, c s = .next t := by
  unfold jugCmd at e
  repeat' first
    | split at e
    | dsimp only at e
    | exact (Option.some_ne_none _ e.symm).elim
    | exact Option.some.inj e ▸ ⟨_, rfl⟩
    | exact Option.some.inj e ▸ trnCmd_next _ _ _ _ _
    | exact Option.some.inj e ▸ mrCmd_next _ _ _ _
    | exact Option.some.inj e ▸ runCmd_next _ _ _ _ _

theorem chkCmd_next {w off o v c} (e : chkCmd w off o v = some c) (s : State) : ∃ t, c s = .next t := by
  unfold chkCmd at e
  repeat' first
    | split at e
    | dsimp only at e
    | exact (Option.some_ne_none _ e.symm).elim
    | exact Option.some.inj e ▸ ⟨_, rfl⟩
    | exact Option.some.inj e ▸ trnCmd_next _ _ _ _ _
    | exact Option.some.inj e ▸ mrCmd_next _ _ _ _
    | exact Option.some.inj e ▸ runCmd_next _ _ _ _ _

theorem dmcCmd_next {w off o v c} (e : dmcCmd w off o v = some c) (s : State) : ∃ t, c s = .next t := by
  unfold dmcCmd at e
  repeat' first
    | split at e
    | dsimp only at e
    | exact (Option.some_ne_none _ e.symm).elim
    | exact Option.some.inj e ▸ ⟨_, rfl⟩
    | exact Option.some.inj e ▸ trnCmd_next _ _ _ _ _
    | exact Option.some.inj e ▸ mrCmd_next _ _ _ _
    | exact Option.some.inj e ▸ runCmd_next _ _ _ _ _

theorem laneCmd_next {w off o v c} (e : laneCmd w off o v = some c) (s : State) : ∃ t, c s = .next t := by
  unfold laneCmd at e
  repeat' first
    | split at e
    | dsimp only at e
    | exact (Option.some_ne_none _ e.symm).elim
    | exact Option.some.inj e ▸ ⟨_, rfl⟩
    | exact Option.some.inj e ▸ trnCmd_next _ _ _ _ _
    | exact Option.some.inj e ▸ mrCmd_next _ _ _ _
    | exact Option.some.inj e ▸ runCmd_next _ _ _ _ _

theorem aknCmd_next {w off o v c} (e : aknCmd w off o v = some c) (s : State) : ∃ t, c s = .next t := by
  unfold aknCmd at e
  repeat' first
    | split at e
    | dsimp only at e
    | exact (Option.some_ne_none _ e.symm).elim
    | exact Option.some.inj e ▸ ⟨_, rfl⟩
    | exact Option.some.inj e ▸ trnCmd_next _ _ _ _ _
    | exact Option.some.inj e ▸ mrCmd_next _ _ _ _
    | exact Option.some.inj e ▸ runCmd_next _ _ _ _ _

theorem carCmd_next {w off o v c} (e : carCmd w off o v = some c) (s : State) : ∃ t, c s = .next t := by
  unfold carCmd at e
  repeat' first
    | split at e
    | dsimp only at e
    | exact (Option.some_ne_none _ e.symm).elim
    | exact Option.some.inj e ▸ ⟨_, rfl⟩
    | exact Option.some.inj e ▸ trnCmd_next _ _ _ _ _
    | exact Option.some.inj e ▸ mrCmd_next _ _ _ _
    | exact Option.some.inj e ▸ runCmd_next _ _ _ _ _

theorem turnCmd_next {w o v c} (e : turnCmd w o v = some c) (s : State) : ∃ t, c s = .next t := by
  unfold turnCmd at e
  repeat' first
    | split at e
    | dsimp only at e
    | exact (Option.some_ne_none _ e.symm).elim
    | exact Option.some.inj e ▸ ⟨_, rfl⟩
    | exact Option.some.inj e ▸ trnCmd_next _ _ _ _ _
    | exact Option.some.inj e ▸ mrCmd_next _ _ _ _
    | exact Option.some.inj e ▸ runCmd_next _ _ _ _ _

theorem ingCmd_next {w off o v c} (e : ingCmd w off o v = some c) (s : State) : ∃ t, c s = .next t := by
  unfold ingCmd at e
  repeat' first
    | split at e
    | dsimp only at e
    | exact (Option.some_ne_none _ e.symm).elim
    | exact Option.some.inj e ▸ ⟨_, rfl⟩
    | exact Option.some.inj e ▸ trnCmd_next _ _ _ _ _
    | exact Option.some.inj e ▸ mrCmd_next _ _ _ _
    | exact Option.some.inj e ▸ runCmd_next _ _ _ _ _

theorem cmpCmd_next {w o v c} (e : cmpCmd w o v = some c) (s : State) : ∃ t, c s = .next t := by
  unfold cmpCmd at e
  repeat' first
    | split at e
    | dsimp only at e
    | exact (Option.some_ne_none _ e.symm).elim
    | exact Option.some.inj e ▸ ⟨_, rfl⟩
    | exact Option.some.inj e ▸ trnCmd_next _ _ _ _ _
    | exact Option.some.inj e ▸ mrCmd_next _ _ _ _
    | exact Option.some.inj e ▸ runCmd_next _ _ _ _ _

theorem safCmd_next {w o v c} (e : safCmd w o v = some c) (s : State) : ∃ t, c s = .next t := by
  unfold safCmd at e
  repeat' first
    | split at e
    | dsimp only at e
    | exact (Option.some_ne_none _ e.symm).elim
    | exact Option.some.inj e ▸ ⟨_, rfl⟩
    | exact Option.some.inj e ▸ trnCmd_next _ _ _ _ _
    | exact Option.some.inj e ▸ mrCmd_next _ _ _ _
    | exact Option.some.inj e ▸ runCmd_next _ _ _ _ _

theorem encCmd_next {w off o v c} (e : encCmd w off o v = some c) (s : State) : ∃ t, c s = .next t := by
  unfold encCmd at e
  repeat' first
    | split at e
    | dsimp only at e
    | exact (Option.some_ne_none _ e.symm).elim
    | exact Option.some.inj e ▸ ⟨_, rfl⟩
    | exact Option.some.inj e ▸ trnCmd_next _ _ _ _ _
    | exact Option.some.inj e ▸ mrCmd_next _ _ _ _
    | exact Option.some.inj e ▸ runCmd_next _ _ _ _ _

theorem rcCmd_next {w o v c} (e : rcCmd w o v = some c) (s : State) : ∃ t, c s = .next t := by
  unfold rcCmd at e
  repeat' first
    | split at e
    | dsimp only at e
    | exact (Option.some_ne_none _ e.symm).elim
    | exact Option.some.inj e ▸ ⟨_, rfl⟩
    | exact Option.some.inj e ▸ trnCmd_next _ _ _ _ _
    | exact Option.some.inj e ▸ mrCmd_next _ _ _ _
    | exact Option.some.inj e ▸ runCmd_next _ _ _ _ _

theorem decCmd_next {w o v c} (e : decCmd w o v = some c) (s : State) : ∃ t, c s = .next t := by
  unfold decCmd at e
  repeat' first
    | split at e
    | dsimp only at e
    | exact (Option.some_ne_none _ e.symm).elim
    | exact Option.some.inj e ▸ ⟨_, rfl⟩
    | exact Option.some.inj e ▸ trnCmd_next _ _ _ _ _
    | exact Option.some.inj e ▸ mrCmd_next _ _ _ _
    | exact Option.some.inj e ▸ runCmd_next _ _ _ _ _

theorem scnCmd_next {w off o v c} (e : scnCmd w off o v = some c) (s : State) : ∃ t, c s = .next t := by
  unfold scnCmd at e
  repeat' first
    | split at e
    | dsimp only at e
    | exact (Option.some_ne_none _ e.symm).elim
    | exact Option.some.inj e ▸ ⟨_, rfl⟩
    | exact Option.some.inj e ▸ trnCmd_next _ _ _ _ _
    | exact Option.some.inj e ▸ mrCmd_next _ _ _ _
    | exact Option.some.inj e ▸ runCmd_next _ _ _ _ _

theorem audCmd_next {w off o v c} (e : audCmd w off o v = some c) (s : State) : ∃ t, c s = .next t := by
  unfold audCmd at e
  repeat' first
    | split at e
    | dsimp only at e
    | exact (Option.some_ne_none _ e.symm).elim
    | exact Option.some.inj e ▸ ⟨_, rfl⟩
    | exact Option.some.inj e ▸ trnCmd_next _ _ _ _ _
    | exact Option.some.inj e ▸ mrCmd_next _ _ _ _
    | exact Option.some.inj e ▸ runCmd_next _ _ _ _ _

theorem trpCmd_next {w off o v c} (e : trpCmd w off o v = some c) (s : State) : ∃ t, c s = .next t := by
  unfold trpCmd at e
  repeat' first
    | split at e
    | dsimp only at e
    | exact (Option.some_ne_none _ e.symm).elim
    | exact Option.some.inj e ▸ ⟨_, rfl⟩
    | exact Option.some.inj e ▸ trnCmd_next _ _ _ _ _
    | exact Option.some.inj e ▸ mrCmd_next _ _ _ _
    | exact Option.some.inj e ▸ runCmd_next _ _ _ _ _

/-- The command that a written word reaches completes. -/
theorem rowCmd_next {w off v c} (e : rowCmd w off v = some c) (s : State) : ∃ t, c s = .next t := by
  unfold rowCmd at e
  dsimp only at e
  split at e
  · exact hifCmd_next e s
  · exact pwrCmd_next e s
  · exact thmCmd_next e s
  · exact ldgCmd_next e s
  · exact timCmd_next e s
  · exact brkCmd_next e s
  · exact jugCmd_next e s
  · exact chkCmd_next e s
  · exact dmcCmd_next e s
  · exact laneCmd_next e s
  · exact aknCmd_next e s
  · exact carCmd_next e s
  · exact turnCmd_next e s
  · exact ingCmd_next e s
  · exact cmpCmd_next e s
  · exact safCmd_next e s
  · exact encCmd_next e s
  · exact rcCmd_next e s
  · exact decCmd_next e s
  · exact scnCmd_next e s
  · exact audCmd_next e s
  · exact trpCmd_next e s
  · cases e

end Sys2Proof.Machine
end

