-- ==== Sys2Proof/WellFormed.lean ====
section
/-! DEFINITION. Well-formed commands: the conditions that the commands' types leave to a check, each about the data that comes from
outside with a command. The meanings are total all the same. -/

namespace Sys2Proof

/-- A 32-bit access stands at a multiple of 4, a 64-bit access at a multiple of 8, and BAR0 has 16 MiB (R515). -/
def accessOk (off : Nat) (form : AccessForm) : Bool :=
  decide (off < 2 ^ 24) && (match form with
    | .word => off % 4 == 0
    | .double => off % 8 == 0
    | .other => true)

/-- The data that a descriptor's reads return: at most the 16 MiB of a flash bundle (R462). -/
def Desc.wf (d : Desc) : Bool := match d.data with
  | none => true
  | some l => decide (l.length ≤ 2 ^ 24)

/-- An ST 2110-20 packet that is not malformed has one to three rows (R158). -/
def VideoPacket.wf (x : VideoPacket) : Bool := x.malformed || decide (1 ≤ x.rows.length ∧ x.rows.length ≤ 3)

/-- An Ethernet frame has at least 64 B (R324). -/
def EthFrame.wf (f : EthFrame) : Bool := decide (64 ≤ f.len.val)

/-- A slice has at least as many bits in its bytes as it codes (R246). -/
def SliceDone.wf (x : SliceDone) : Bool := decide (x.head ≤ 272 ∧ 1 ≤ x.tail ∧ x.tail ≤ 8)

/-- A Safety Net record covers the lines of one CTU row (R205). -/
def SafLines.wf (x : SafLines) : Bool := decide (1 ≤ x.crcs.length ∧ x.crcs.length ≤ 128)

/-- A housekeeping round reads 24 sensors and 32 voltage channels (R480). -/
def roundWf (temps volts : List (BitVec 16)) : Bool := temps.length == 24 && volts.length == 32

/-- Whether a command's data is well formed. -/
def Instr.wf : Instr → Bool
  | .registerWrite _ off form _ => accessOk off form
  | .lowWordRead _ off form => accessOk off form
  | .ethFrameForward _ f => f.wf
  | .videoPacketRx _ _ x => x.wf
  | .sliceComplete _ _ _ x _ => x.wf
  | .safLineRecord _ x => x.wf
  | .housekeepingRound temps _ volts _ => roundWf temps volts
  | .mode d => d.wf
  | .nop _ d => d.wf
  | .createRing d => d.wf
  | .destroyRing d => d.wf
  | .configWrite d => d.wf
  | .configRead d => d.wf
  | .statsRead d => d.wf
  | .cancelTimed d => d.wf
  | .cmpCommit d => d.wf
  | .surfaceLoad d => d.wf
  | .tableLoad d => d.wf
  | .safLoad d => d.wf
  | .safEnroll d => d.wf
  | .laneRetrain d => d.wf
  | .aknSend d => d.wf
  | .carListLoad d => d.wf
  | .audioCmd d => d.wf
  | .audCaptureRead d => d.wf
  | .audTemplateLoad d => d.wf
  | .dmcMigrate d => d.wf
  | .chkScan d => d.wf
  | .ringRecord _ _ _ d => d.wf
  | .trpTakeover d => d.wf
  | .trpHealthRead d => d.wf
  | .fwStage d => d.wf
  | .fwActivate d => d.wf
  | .fwFlashWrite d _ => d.wf
  | .fwFuse d => d.wf
  | .ldgRead d => d.wf
  | _ => true

end Sys2Proof
end

