-- ==== Sys2Proof/Tests/Slice0.lean ====
section
/-! SUPPORT. Own tests: an ill-formed command for each check of WellFormed, single steps on small states, and for every statement with
hypotheses a state and operands that meet them, clause by clause (`witness_…`). -/

namespace Sys2Proof.Tests

-- One theorem at a time: the closed terms below are large, and a thread for each would not fit in memory.
set_option Elab.async false

open Sys2Proof Sys2Proof.Machine

/-! ## Helpers -/

/-- A device that has booted: out of reset, PHASE STABLE, with the listed fields. -/
def on (l : List (Field × Nat)) : State :=
  ({ State.reset with lc := 1000, sys := { Sys.reset with rstLow := false } } : State).setAll ((Reg.PWR_MODE_STATUS_PHASE, phaseStable) :: l)

/-- A new ring of function 0 without a vector, 256 entries long, one entry produced. -/
def ring (k : RingKind) (pair : Nat) : Ring :=
  { kind := k, state := .active, fn := 0, base := 0, log2 := 8, pair := pair, vector := none, modCount := 0, modUs := 0, mask := 0, slot := 0,
    prod := 1 }

/-- The same with function 0 open at minor 2: its admin rings 0 and 1 are ACTIVE, and a descriptor stands in ring 0. -/
def hosted (l : List (Field × Nat)) : State :=
  { on ((Reg.HIF_FN_STATUS_OPENED 0, 1) :: (Reg.HIF_FN_STATUS_ABI_MINOR 0, 2) :: l) with
    fns := [(0, ⟨0, 0⟩)], rings := [(0, ring .sub 1), (1, { ring .cpl 0 with prod := 0 })] }

/-- An untimed descriptor in ring 0 for an object, its PARAMS given as one little-endian number. -/
def desc (kind : BitVec 4) (index : BitVec 28) (params : BitVec 256) : Desc :=
  { rid := 0, flags := 0, objType := kind, objIndex := index, cookie := 0xC0, launch := 0, params := params, data := none }

/-- The same with an INDIRECT buffer of `len` bytes at host address 0x1000, and the data read there. -/
def descBuf (kind : BitVec 4) (index : BitVec 28) (len : Nat) (data : Option (List Byte)) : Desc :=
  { desc kind index (BitVec.ofNat 256 (0x1000 + len * 2 ^ 64)) with flags := 0x4000, data := data }

/-- The same with the PARAMS given and data read. -/
def descData (kind : BitVec 4) (index : BitVec 28) (params : BitVec 256) (data : List Byte) : Desc :=
  { desc kind index params with data := some data }

/-- The PF. -/
def pf : Writer := .host 0

/-- Supervisor firmware of pair 0. -/
def fw : Writer := .super 0

/-- A single field after a command, none where it does not complete. -/
def after (c : Instr) (s : State) (f : Field) : Option Nat := match exec c s with
  | .next t => some (t.get f)
  | _ => none

/-- An observation of the state after a command. -/
def seen {α : Type} (c : Instr) (s : State) (f : State → α) : Option α := match exec c s with
  | .next t => some (f t)
  | _ => none

/-- Whether a command completes with a next state. -/
def runs (c : Instr) (s : State) : Bool := (seen c s (fun _ => ())).isSome

/-- The full map over both sets, a million pages of each in service. -/
def dram : List (Field × Nat) := [(Reg.DMC_LAYOUT_MAP, mapFull), (Reg.DMC_LAYOUT_NR, 2), (Reg.DMC_LAYOUT_RANK_SIZE, 0), (Reg.DMC_STATUS_SETS, 3),
  (Reg.DMC_SET_FILL_DONE 0, 1), (Reg.DMC_SET_FILL_DONE 1, 1), (Reg.DMC_SET_FILL_FILLED 0, 1000000), (Reg.DMC_SET_FILL_FILLED 1, 1000000)]

/-- An IPv4 UDP flow on lane 0, its addresses and port 0. -/
def flow0 : Flow := { lane := 0, dst := 0, src := 0, port := 0, tags := 0, udp := true }

/-! ## Well-formed commands -/

theorem test_wf_word_access_aligned : (Instr.registerWrite pf 0x100002 .word 0).wf = false := by decide +kernel
theorem test_wf_double_access_aligned : (Instr.lowWordRead pf 0x100004 .double).wf = false := by decide +kernel
theorem test_wf_access_in_bar : (Instr.lowWordRead pf (2 ^ 24) .word).wf = false := by decide +kernel
theorem test_wf_access_accepted : (Instr.registerWrite pf 0x100008 .double 0).wf = true := by decide +kernel
theorem test_wf_descriptor_data : (Instr.fwStage (descBuf 0 0 64 (some [0x4E, 0x50]))).wf = true := by decide +kernel
theorem test_wf_video_rows : (Instr.videoPacketRx 0 0 { flow := flow0, pt := 96, seq := 0, ts := 0, malformed := false, crcOk := true, rows := [] }).wf = false := by
  decide +kernel
theorem test_wf_frame_length : (Instr.ethFrameForward 0 { len := 63, pcp := none, ptp := none, sub := 0, correction := 0, udp := 0, badFcs := false }).wf = false := by
  decide +kernel
theorem test_wf_slice_bits : (Instr.sliceComplete 0 0 0 { head := 8, coded := [], spoil := [], tail := 9, emul := 0 } []).wf = false := by decide +kernel
theorem test_wf_safety_lines : (Instr.safLineRecord 0 { pic := 0, first := 0, seq := 0, state := 0, crcs := [] }).wf = false := by decide +kernel
theorem test_wf_round_sensors : (Instr.housekeepingRound [] 0 [] 0).wf = false := by decide +kernel

/-- A descriptor whose reads return more than a flash bundle's 16 MiB. -/
theorem test_wf_descriptor_too_long (l : List Byte) (h : 2 ^ 24 < l.length) : (Instr.fwStage { desc 0 0 0 with data := some l }).wf = false := by
  simp only [Instr.wf, Desc.wf, decide_eq_false_iff_not]; omega

/-! ## The step -/

theorem test_step_runs_front : step { on [] with pending := [.snap pf, .revert pf] } = exec (.snap pf) { on [] with pending := [.revert pf] } := rfl
theorem test_idle_tick : (match step (on []) with | .next t => t.lc | _ => 0) = 1001 := by decide +kernel
theorem test_reset_is_sound : State.reset.Sound := ⟨by unfold State.regsWf Table.rising; decide +kernel, by decide +kernel⟩
theorem test_no_word_spells_a_command : decodeTableWord 32 0xFFFFFFFF = none ∧ State.reset.withFetchWord 32 0xFFFFFFFF = State.reset := ⟨rfl, rfl⟩

theorem witness_StepRunsFrontCommand : ({ on [] with pending := [.snap pf] } : State).pending = .snap pf :: [] := rfl
theorem witness_IdleStepIsOneTick : (on []).pending = [] ∧ (State.reset.sys.rstLow = true ∨ State.reset.sys.porLow = true) ∧
    (on []).sys.rstLow = false ∧ (on []).sys.porLow = false := by decide +kernel
theorem sound_on (l : List (Field × Nat)) (h : (on l).regsWf ∧ (on l).memWf) : (on l).Sound := ⟨h.1, h.2⟩
theorem witness_StepKeepsSound : (on []).Sound ∧ seen (.snap pf) (on []) (fun t => t.get Reg.TIM_SNAP_LC_LO) = some 1000 :=
  ⟨sound_on [] (by unfold State.regsWf Table.rising; decide +kernel), by decide +kernel⟩
theorem witness_CommandsKeepQueueAndSent : runs (.snap pf) (on []) = true := by decide +kernel

/-! ## Registers -/

/-- A VF does not reach the clear of TIM_DOM_CLR; a HALTED device shuts every register. -/
theorem witness_UnreachedRegistersKeepTheState :
    (∀ f, (fun f => f = Reg.TIM_DOM_CLR_CLR 0) f → (on []).mayWrite (.host 3) f.off = false) ∧
    (on [(Reg.PWR_MODE_STATUS_PHASE, phaseHalted)]).mayWrite fw Reg.TIM_LATE_CLR.off = false ∧
    (on []).mayWrite pf Reg.BRK_SW_SET.off = false ∧ (on []).mayWrite .debug Reg.SAF_CLR_CLR.off = false :=
  ⟨fun f h => by subst h; decide +kernel, by decide +kernel, by decide +kernel, by decide +kernel⟩

/-- The PF reaches the clears but Barker's and Juggler's, which firmware reaches; each function reaches its own. -/
theorem witness_ClearCommandsClearTheirCounters :
    ([Reg.TIM_DOM_CLR_CLR 1, Reg.TIM_LATE_CLR, Reg.ENC_BS_LATE_CLR 3, Reg.PWR_CNT_CLR_CLR, Reg.ING_LANE_CLR_CLR, Reg.ING_RX_CLR 59,
      Reg.CMP_SLOT_CLR_CLR 3, Reg.SAF_CLR_CLR, Reg.ENC_EFFORT_CNT_CLR, Reg.ENC_BS_CLR_CLR 3, Reg.ENC_BS_PKT_CLR_CLR 3, Reg.DEC_BS_CLR_CLR 3,
      Reg.RC_BS_CLR_CLR 3, Reg.SCN_LANE_CLR_CLR 15, Reg.LANE_CLR_CLR 15, Reg.AKN_CLR_CLR 15, Reg.CAR_P_CNT_CLR 15, Reg.CAR_P_Q_CLR 15 7,
      Reg.TRN_CLR_CLR, Reg.AUD_CNT_CLR, Reg.DMC_CLR_CLR, Reg.CHK_CLR 3, Reg.TRP_CLR_CLR, Reg.THM_CLR, Reg.HIF_FN_CLR_CLR 0].all
        (fun f => (on []).mayWrite pf f.off)) = true ∧
    (∀ f : Fin 32, (on []).mayWrite (.host f) (Reg.HIF_FN_CLR_CLR f.val).off = true) ∧
    (on []).mayWrite fw Reg.BRK_CLR_CLR.off = true ∧ (on []).mayWrite fw Reg.JUG_CLR_CLR.off = true := by decide +kernel
theorem test_clear_keeps_same_cycle_event : after (.timLateClr pf)
    { on [(Reg.TIM_LAUNCH_LATE_CNT, 9)] with fresh := [(fieldKey Reg.TIM_LAUNCH_LATE_CNT, 1)] } Reg.TIM_LAUNCH_LATE_CNT = some 1 := by decide +kernel
theorem witness_ClearCommandsChangeNothingElse : runs (.encEffortCntClr pf) (on []) = true ∧ runs (.thmClr pf) (on []) = true ∧
    runs (.hifFnClr 31) (on []) = true := by decide +kernel

/-- FW_PCIE_ADDR has no command of its own. -/
theorem witness_PlainRegisterWriteFollowsAccessCodes :
    let off := Reg.FW_PCIE_ADDR_LO.off
    off % 4 = 0 ∧ off ≠ Reg.PWR_RESET_KEY.off ∧ (viewOf pf = 0 ∨ off < 0x100) ∧ isWindow off = false ∧ (on []).mayWrite pf off = true ∧
    ((viewFields (viewOf pf) off).map fieldKey).Nodup ∧
    (∀ f ∈ viewFields (viewOf pf) off, f.id < 1024 ∧
      f.id ∉ [(Reg.HIF_FN_EVT_LOST_CNT 0).id, Reg.LDG_NEXT_SEQ.id, Reg.LDG_OVERRUN_CNT.id, (Reg.BRK_LATCH 0).id]) := by decide +kernel
theorem witness_PlainRegisterWriteHasNoCommand : ∀ v, rowCmd pf Reg.FW_PCIE_ADDR_LO.off v = none := fun _ => rfl
theorem witness_RegisterWriteRunsTheRowsCommand :
    (Reg.TIM_SNAP_SNAP.off % 4 = 0 ∧ Reg.TIM_SNAP_SNAP.off ≠ Reg.PWR_RESET_KEY.off ∧ (on []).halted = false ∧
      isWindow Reg.TIM_SNAP_SNAP.off = false ∧ viewFields (viewOf pf) Reg.TIM_SNAP_SNAP.off ≠ [] ∧
      (on []).mayWrite pf Reg.TIM_SNAP_SNAP.off = true ∧
      ((rowCmd pf Reg.TIM_SNAP_SNAP.off 1).map (fun c => (match c (on []) with | .next t => t.get Reg.TIM_SNAP_LC_LO | _ => 0))) = some 1000) ∧
    Reg.PWR_RESET_KEY.off % 4 = 0 ∧ (isWindow (launchWindow 263 + 8) = true ∧ (launchWindow 263 + 8 - launchWindow 0) / 4 % 4 ≠ 3) ∧
    (isWindow 0x3D0018 = false ∧ viewFields (viewOf pf) 0x3D0018 = []) ∧ (on [(Reg.PWR_MODE_STATUS_PHASE, phaseHalted)]).halted = true := by
  decide +kernel
theorem test_unaligned_write_is_ignored : exec (.registerWrite pf (Reg.FW_PCIE_ADDR_LO.off + 2) .word 77) (on []) = .next (on []) := rfl
theorem witness_BarAccessesActInTwoForms :
    seen (.lowWordRead pf 8 .word) (on []) (fun t => t.out.length) = some 1 ∧ (8 : Nat) % 8 = 0 ∧ AccessForm.word = .word ∧ (2 : Nat) % 4 ≠ 0 ∧
    (4 : Nat) % 8 ≠ 0 := by decide +kernel
theorem witness_LowWordReadLatchesTheHighWord : 0x20 % 4 = 0 ∧ isLow 0x20 = true ∧ isLow (0x20 - 4) = false ∧
    (pf ≠ .debug ∧ readerView (readerOf pf) = 0) ∧ (on [(Reg.PWR_MODE_STATUS_PHASE, phaseHalted)]).halted = true ∧
    runs (.lowWordRead pf 0x20 .word) (on []) = true := by decide +kernel

/-! ## Egress -/

/-- Port 0 is ACTIVE at 100G, domain 0 enabled. -/
def port0 : List (Field × Nat) := [(Reg.LANE_CFG_MODE 0, 1), (Reg.LANE_STATUS_STATE 0, laneActive), (Reg.TIM_DOM_ENABLE 0, 1)]
/-- A frame of 64 B in an egress queue. -/
def frame : EgFrame := { frame := .arpReply 1 0, len := 64, stamp := 990, row := none, eligible := true, cover := none, tc := none }
def queued : State := { on port0 with egr := { State.reset.egr with queues := [(3, [frame])] } }
def frameIn : EthFrame := { ptp := some (true, 0), pcp := some 3, len := 64, correction := 0, udp := 0, badFcs := false, sub := 0 }
/-- Ports 0 and 1 ACTIVE, lane 0 forwarding to lane 1. -/
def bridge : State := on ([(Reg.LANE_CFG_MODE 1, 1), (Reg.LANE_STATUS_STATE 1, laneActive), (Reg.LANE_FWD_MASK 0, 2), (Reg.PWR_MODE_STATUS_CUR_MODE, 4)] ++ port0)

theorem witness_FramesEnterAndLeaveTheirQueues :
    (bridge.forwards 0 frameIn = true ∧ bridge.forwardPorts 0 = [1] ∧ bridge.portActive 1 = true ∧ (bridge.settleMeters 1).meterMode 11 ≠ 2 ∧
      framesLen (bridge.frames 1 3) + frameIn.len ≤ bridge.get (Reg.CAR_P_Q_QMAX_KB 1 3) * 1024 ∧ bridge.portBytes 1 + frameIn.len ≤ bridge.portBuffer 1) ∧
    (queued.portActive 0 = true ∧ (queued.port 0).freeAt ≤ queued.lc ∧
      (∀ k < 8, ((queued.settleMeters 0).frames 0 k).all (fun g => !((queued.settleMeters 0).oversize 0 k g.len)) = true) ∧
      (queued.settleMeters 0).selected 0 = some (0, 3) ∧ (queued.settleMeters 0).frames 0 3 = frame :: []) := by decide +kernel
theorem test_frame_time : queued.frameTicks 0 64 = 11 := by decide +kernel

def gateShadow : List (Field × Nat) := [(Reg.CAR_P_COUNT 0, 1), (Reg.CAR_P_CYCLE_NS 0, 1000), (Reg.CAR_P_ENTRY_INTERVAL_NS 0 0, 64), (Reg.CAR_P_ENTRY_GATES 0 0, 0xFF)]
/-- The bytes of a CAR_LIST_LOAD: a cycle of 1,000 ns and one entry of 64 ns, or with a cycle of 999 ns. -/
def gateBytes (cycle : Nat) : List Byte :=
  leBytes 4 cycle ++ List.replicate 12 0 ++ leBytes 2 1 ++ List.replicate 14 0 ++ leBytes 4 64 ++ leBytes 4 0xFF

theorem witness_GateListCommitsPendOrAreRefused :
    (let s := on (port0 ++ gateShadow)
     s.mayWrite pf (Reg.CAR_P_COMMIT_COMMIT 0).off = true ∧
      (gateFieldsOk (s.get (Reg.CAR_P_COUNT 0)) (s.get (Reg.CAR_P_CYCLE_NS 0)) (s.get (Reg.CAR_P_BASE_NS 0)) [s.get (Reg.CAR_P_ENTRY_INTERVAL_NS 0 0)]
        && s.domEnabled s.activeDom) = true) ∧
    (on (gateShadow)).domEnabled (on gateShadow).activeDom = false ∧
    (let s := hosted port0
     s.Accepts carListSpec (descBuf 5 0 40 (some (gateBytes 1000))) ∧ gateFieldsOk 1 1000 0 [64] = true ∧ gateFieldsOk 1 999 0 [64] = false ∧
      s.domEnabled s.activeDom = true ∧ (gateBytes 1000).length = 40 ∧ leAt (gateBytes 1000) 0 4 = 1000 ∧ leAt (gateBytes 1000) 16 2 = 1 ∧
      leAt (gateBytes 1000) 32 4 = 64) := by
  unfold State.Accepts; decide +kernel

/-- The list that gateBytes describes. -/
def gates : GateList := { en := false, cycle := 1000 * nsUnits, base := 0, entries := [(64 * nsUnits, 0xFF)] }
def meterValues : List (Field × Nat) := [(Reg.TRN_Q_CIR_MBPS 127, 1), (Reg.TRN_Q_PIR_MBPS 127, 400000), (Reg.TRN_Q_CBS_B 127, 9248), (Reg.TRN_Q_PBS_B 127, 9248)]
theorem witness_GateListsAndMetersTakeEffect :
    (let s : State := { on port0 with egr := { State.reset.egr with ports := [(0, { EgPort.reset with pend := some (gates, 0) })] } }
     (s.port 0).pend = some (gates, 0) ∧ s.domEnabled s.activeDom = true ∧ s.due 1 0 = true) ∧
    (let s := on meterValues
     s.mayWrite pf (Reg.TRN_Q_MODE 127).off = true ∧ 1 ≤ s.get (Reg.TRN_Q_CIR_MBPS 127) ∧ s.get (Reg.TRN_Q_CIR_MBPS 127) ≤ s.get (Reg.TRN_Q_PIR_MBPS 127) ∧
      s.get (Reg.TRN_Q_PIR_MBPS 127) ≤ 400000 ∧ 9248 ≤ s.get (Reg.TRN_Q_CBS_B 127) ∧ 9248 ≤ s.get (Reg.TRN_Q_PBS_B 127) ∧ (s.port 15).freeAt ≤ s.lc) ∧
    (let s : State := { on meterValues with egr := { State.reset.egr with ports := [(15, { EgPort.reset with freeAt := 1001 })] } }
     s.mayWrite pf (Reg.TRN_Q_MODE 127).off = true ∧ s.lc < (s.port 15).freeAt ∧
      after (.trnCtrlWrite pf 127 2 32) s (Reg.TRN_Q_LAST_STATUS 127) = some 0) ∧
    after (.trnCtrlWrite pf 127 2 32) (on meterValues) (Reg.TRN_Q_LAST_STATUS 127) = some 0 ∧
    after (.trnCtrlWrite pf 127 3 32) (on meterValues) (Reg.TRN_Q_LAST_STATUS 127) = some 0x1D03 ∧
    after (.trnCtrlWrite pf 127 2 33) (on meterValues) (Reg.TRN_Q_LAST_STATUS 127) = some 0x1D03 := by decide +kernel

/-! ## Ringmaster -/

theorem witness_SnapStoresOneInstant : (on []).mayWrite pf Reg.TIM_SNAP_SNAP.off = true ∧
    after (.snap pf) (on []) Reg.TIM_SNAP_LC_LO = some 1000 := by decide +kernel
def dom0 : List (Field × Nat) := [(Reg.TIM_DOM_ENABLE 0, 1), (Reg.TIM_DOM_STATE 0, servoLocked)]
theorem witness_TimeDomainsAreControlled :
    (on []).mayWrite pf Reg.TIM_CTRL_REVERT.off = true ∧ (on [(Reg.TIM_CTRL_ACTIVE, 1)]).activeDom ≠ 0 ∧
    ((on ((Reg.TIM_CTRL_ACTIVE, 1) :: dom0)).domEnabled 0 = true ∧ (on ((Reg.TIM_CTRL_ACTIVE, 1) :: dom0)).servo 0 = servoLocked) ∧
    ¬ ((on [(Reg.TIM_CTRL_ACTIVE, 1)]).domEnabled 0 = true) ∧
    ((on []).mayWrite pf (Reg.TIM_DOM_ENABLE 1).off = true ∧ (on []).domEnabled 1 = false) ∧
    ((on dom0).domEnabled 0 = true ∧ (on dom0).disableRefused 0 = false) ∧
    (on ((Reg.ENC_BS_RUN_STATE 0, slotRunning) :: dom0)).disableRefused 0 = true ∧
    ((on []).mayWrite pf (Reg.TIM_DOM_ACCEPT_JUMP 0).off = true ∧ (on [(Reg.TIM_DOM_ENABLE 0, 1), (Reg.TIM_DOM_STATE 0, servoHoldover)]).servo 0 = servoHoldover) ∧
    (on []).mayWrite pf (Reg.TIM_DOM_TOD_SEC 1).off = true := by decide +kernel
/-- A launch word of KIND 0x1 for compositor 0 at LC 2,000, TAG 7. -/
def lword : BitVec 128 := BitVec.ofNat 128 (1 * 2 ^ 124 + 7 * 2 ^ 96 + 2000)
def launch (tag : Nat) : QLaunch := { kind := 1, ref := 0, tag := tag, instant := 2000, accepted := 900, act := .firmware }
theorem witness_LaunchWordsAreQueuedOrRefused :
    ((on []).mayWrite (.super 0) (launchWindow (lwUnit lword.toNat)) = true ∧ (on []).launchValid lword.toNat = true ∧
      ((on []).queue (lwUnit lword.toNat)).length < queueDepth) ∧
    (on []).launchValid 0 = false ∧
    queueDepth ≤ (({ on [] with tim := { Tim.reset with queues := [(0, List.replicate 64 (launch 7))] } } : State).queue 0).length := by decide +kernel
def withQueue (u : Nat) (l : List QLaunch) (s : State) : State := { s with tim := { s.tim with queues := [(u, l)] } }
theorem witness_LaunchCancelRemovesItsTag :
    (on []).mayWrite pf Reg.TIM_LCANCEL_UNIT.off = true ∧ (withQueue 0 [launch 7, launch 8] (on [])).firesNow 0 = false ∧
    (withQueue 0 [{ launch 7 with instant := 1000 }, launch 7] (on [])).firesNow 0 = true ∧
    (withQueue 0 [launch 8] (on [])).queue 0 = [launch 8] ∧ (launch 8).tag ≠ 7 ∧ (on []).ledger.intake.length < ledgerIntake ∧
    seen (.launchCancel pf 0 7) (withQueue 0 [launch 7, launch 8] (on [])) (fun t => (t.queue 0).map (fun q => q.tag)) = some [8] ∧
    seen (.launchCancel pf 0 7) (withQueue 0 [{ launch 7 with instant := 1000 }, launch 7] (on [])) (fun t => (t.queue 0).length) = some 1 := by
  decide +kernel

def header : PtpHeader := { lane := 0, sub := 0, domain := some 0, sender := 5, seq := 1, correction := 0, logInterval := 0, malformed := false }
def announce : Announce := { priority1 := 1, clockClass := 6, accuracy := 0x21, variance := 0, priority2 := 1, grandmaster := 9, stepsRemoved := 0, mac := 0, ip := 0 }
def listening : List (Field × Nat) := [(Reg.TIM_DOM_ENABLE 0, 1), (Reg.TIM_DOM_LANE_MASK 0, 1), (Reg.TIM_DOM_PTP_DOMAIN 0, 0), (Reg.TIM_DOM_SOURCE 0, 0),
  (Reg.LANE_CFG_MODE 0, 1), (Reg.LANE_STATUS_STATE 0, laneActive)]
def slave (x : Domain) : State := { on listening with tim := { Tim.reset with dom0 := { x with master := some ⟨5, announce⟩ } } }
def waitSync : PendingSync := { t2 := 0, corr := 0, seq := 1, sender := 5, mine := true, t1 := none }
theorem witness_TwoStepExchangeIsStamped :
    (let s := slave Domain.reset
     header.malformed = false ∧ s.hears 0 header = true ∧ s.hears 1 header = false ∧ s.fromMaster 0 header = true ∧ (s.domain 0).syncs.find? (fun z => z.names header) = none ∧ (s.domain 0).req = none) ∧
    (let s := slave { Domain.reset with syncs := [waitSync] }
     s.fromMaster 0 header = true ∧ (s.domain 0).syncs.find? (fun z => z.names header) = some waitSync ∧ waitSync.mine = true ∧ (s.domain 0).lastT2 = none ∧
      (((s.stampDt 0 header.sub - waitSync.t2 : Int) : Rat) / nsUnits ≤ (s.domain 0).tsNs) ∧ (s.domain 0).req = none) ∧
    (let s := slave Domain.reset
     s.domEnabled 0 = true ∧ s.get (Reg.TIM_DOM_SOURCE 0) = 0 ∧ bit (s.get (Reg.TIM_DOM_LANE_MASK 0)) 0 = true ∧ s.portActive 0 = true ∧
      (s.domain 0).master.isSome = true) ∧
    (let s := slave { Domain.reset with req := some { seq := 1, t3 := 0, answer := none } }
     s.fromMaster 0 header = true ∧ (s.domain 0).req = some { seq := 1, t3 := 0, answer := none } ∧ (s.domain 0).sync = none) := by decide +kernel
theorem witness_MastersReferencesAndEdgesAct :
    (let s := slave Domain.reset
     header.malformed = false ∧ s.hears 0 header = true ∧ s.hears 1 header = false) ∧
    (let s := on (dom0 ++ [(Reg.TIM_DOM_SOURCE 0, 0)])
     s.domEnabled 0 = true ∧ s.get (Reg.TIM_DOM_SOURCE 0) = 0 ∧ s.servo 0 ≠ servoFreerun) ∧
    (let s : State := { on [] with tim := { Tim.reset with slew := some ⟨0, 0, 0⟩ } }
     s.tim.slew = some ⟨0, 0, 0⟩ ∧ withinTick ((⟨0, 0, 0⟩ : Mapping).at s.lc) ((s.domain s.activeDom).map.at s.lc) = true) ∧
    (let s : State := { on [(Reg.TIM_DOM_ENABLE 0, 1), (Reg.TIM_DOM_SOURCE 0, 1)] with tim := { Tim.reset with dom0 := { Domain.reset with tod := some 5 } } }
     s.domEnabled 0 = true ∧ s.get (Reg.TIM_DOM_SOURCE 0) = 1 ∧ s.get (Reg.TIM_DOM_SOURCE 1) ≠ 1 ∧ (s.domain 0).tod = some 5 ∧
      (s.domain 0).todFresh = false ∧ ¬ (-(1000 * nsUnits : Int) ≤ s.stampDt 0 0 + s.inComp - (5 : Int) * secUnits)) ∧
    (let s : State := { on [(Reg.TIM_DOM_ENABLE 0, 1), (Reg.TIM_DOM_SOURCE 0, 1)] with
        tim := { Tim.reset with dom0 := { Domain.reset with tod := some 5, todFresh := true } } }
     (s.domain 0).tod = some 5 ∧ (s.domain 0).todFresh = true) ∧
    (let s : State := { on [] with tim := { Tim.reset with pllClk10 := true } }
     s.tim.pllClk10 = true ∧ s.on Reg.TIM_REFSTAT_CLK10_OK = false) ∧
    ((on [(Reg.TIM_PPS_OUT_EN, 1), (Reg.TIM_DOM_ENABLE 0, 1)]).on Reg.TIM_PPS_OUT_EN = true ∧
      (on [(Reg.TIM_PPS_OUT_EN, 1), (Reg.TIM_DOM_ENABLE 0, 1)]).outEdge secUnits 0 = none) ∧
    (let s : State := { on [(Reg.TIM_PPS_OUT_EN, 1), (Reg.TIM_DOM_ENABLE 0, 1)] with lc := 0 }
     s.on Reg.TIM_PPS_OUT_EN = true ∧ s.outEdge secUnits 0 = some 0) ∧ (on []).on Reg.TIM_PPS_OUT_EN = false := by decide +kernel

/-! ## Descriptors and the host interface -/

def nopDesc : Desc := desc 0 0 0
/-- A descriptor whose launch word names compositor 0 at LC 2,000. -/
def timedNop : Desc := { nopDesc with flags := 0x8000, launch := BitVec.ofNat 128 (1 * 2 ^ 124 + 7 * 2 ^ 96 + 2000) }
/-- The ticket of a descriptor consumed, and the state with its record for the mirror. -/
def taken (o : OpSpec) (d : Desc) (s : State) : Ticket × State :=
  let (u, k) := s.consume d.rid.val d.cookie.toNat
  (k, u.mirror3 (.ring d.rid.val (u.consOf d.rid.val) o.opcode (some d)))
/-- A STOP of slot 0, timed as timedNop is. -/
def timedStop : Desc := { desc 2 0 2 with flags := 0x8000, launch := timedNop.launch }
theorem witness_DescriptorsWaitFailOrAreTimed :
    (failsNow (fun _ t s => s.complete t 0 0) timedNop (taken nopSpec timedNop (hosted [])).1 (taken nopSpec timedNop (hosted [])).2 = false) ∧
    ((hosted []).descFailure slotCmdSpec ((hosted []).submitter timedStop) timedStop = none ∧ timedStop.timed = true ∧
      failsNow (actSlotCmd []) timedStop (taken slotCmdSpec timedStop (hosted [])).1 (taken slotCmdSpec timedStop (hosted [])).2 = true) ∧
    (descriptorOf (.nop 0 nopDesc) = some (nopSpec, nopDesc)) ∧ (on []).servable .sub 0 false = false ∧
    ((hosted []).servable .sub 0 false = true ∧ (hosted []).descFailure nopSpec ((hosted []).submitter { nopDesc with flags := 1 }) { nopDesc with flags := 1 } = some 0x3402) ∧
    ((hosted []).servable .sub timedNop.rid.val timedNop.fence = true ∧
      (hosted []).descFailure nopSpec ((hosted []).submitter timedNop) timedNop = none ∧ timedNop.timed = true ∧
      ((hosted []).queue (lwUnit timedNop.launch.toNat)).length < queueDepth) ∧
    queueDepth ≤ (({ hosted [] with tim := { Tim.reset with queues := [(0, List.replicate 16
      { kind := 1, ref := 0, tag := 7, instant := 2000, accepted := 900, act := .firmware })] } } : State).queue 0).length :=
  ⟨by decide +kernel, by decide +kernel, rfl, by decide +kernel, by decide +kernel, by decide +kernel, by decide +kernel⟩
theorem test_nop_completes : (seen (.nop 0 nopDesc) (hosted []) (fun t => t.out.length)) = some 1 := by decide +kernel

def admin : List (Field × Nat) := [(Reg.HIF_ADMIN_CFG_SQ_LOG2 0, 6), (Reg.HIF_ADMIN_CFG_CQ_LOG2 0, 16), (Reg.HIF_ADMIN_CFG_VECTOR 0, 0)]
theorem witness_FunctionsAreOpenedClosedAndReset :
    (on []).mayWrite (.host 0) 0x10 = true ∧ (on []).mayWrite (.host 31) 0x10 = true ∧ (on admin).openFailure 0 3 = none ∧
    (on admin).openFailure 0 2 = some 0x9401 ∧ runs (.functionOpen 0 3 2 false) (on admin) = true ∧ runs (.flr 31) (hosted []) = true ∧
    (31 : Fin 32).val ≠ 0 := by decide +kernel
def doorbellValue : BitVec 64 := 2
theorem witness_OwnershipDoorbellsAndInterruptsAct :
    ((on []).mayWrite pf (Reg.HIF_PEN_OWNER_ASSIGNED 255).off = true ∧ (on []).penRefused 255 true 31 = false ∧ (hosted []).penRefused 0 true 31 = true) ∧
    ((on []).mayWrite pf Reg.HIF_SLOT_OWNER_SLOT0.off = true ∧
      ((on []).slotOwnerOk 0 1 && (on []).slotOwnerOk 1 2 && (on []).slotOwnerOk 2 3 && (on []).slotOwnerOk 3 31) = true ∧
      (on [(Reg.ENC_BS_RUN_STATE 3, slotRunning)]).slotOwnerOk 3 31 = false) ∧
    ((31 : Fin 32).val ≠ 0 ∧ (on []).mayWrite pf (Reg.HIF_FN_VEC_COUNT 31).off = true ∧ (on []).vectorsOk 31 512 64 = true ∧ (on []).vectorsOk 31 1 63 = false) ∧
    ((hosted []).halted = false ∧ (hosted []).pageMap 3 0 = none ∧ (hosted []).pageMap 0 0 = some 0 ∧ (hosted []).doorbellRing 0 = (0, false) ∧
      (hosted []).ring 0 = some (ring .sub 1) ∧ (ring .sub 1).indexOk false 2 = true ∧ (ring .sub 1).indexOk false 0 = false ∧
      (ring .sub 1).kind ≠ .evt ∧ bits doorbellValue.toNat 63 50 = 0 ∧ bits doorbellValue.toNat 49 32 = 0 ∧ bits doorbellValue.toNat 31 0 = 2) ∧
    ((ring .sub 1).state = .active ∧ (ring .sub 1).kind = .sub) ∧
    (let x : Ring := { ring .cpl 0 with vector := some 0, unsig := 1 }
     let s : State := { hosted [] with rings := [(1, x)] }
     s.ring 1 = some x ∧ x.vector = some 0 ∧ x.unsig ≠ 0 ∧ s.modExpired 1 x = true ∧
      (let y : Ring := { x with modUs := 1000 }
       let u : State := { hosted [] with rings := [(1, y)], unsigSince := [(1, 1000)] }
       u.ring 1 = some y ∧ u.modExpired 1 y = false) ∧ s.vecMasked (s.globalVec 0 0) = true ∧
      ({ s with masked := [(0, false)] } : State).vecMasked (s.globalVec 0 0) = false) ∧
    Table.getD ({ hosted [] with pba := [(5, true)] } : State).pba 5 false = true := by decide +kernel
/-- PARAMS of CREATE_RING for a SUB ring at host address 0x1000 of 64 entries paired with ring 1. -/
def createDesc : Desc := desc 1 2 (BitVec.ofNat 256 (0x1000 + 6 * 2 ^ 72 + 1 * 2 ^ 80))
theorem witness_RingDescriptorsAct :
    ((0 : BitVec 16).toNat = 0 ∧ (hosted []).Accepts nopSpec nopDesc) ∧
    (knownOpcodes.contains (0xFFFF : BitVec 16).toNat = false ∧ (hosted []).servable .sub 0 false = true) ∧
    ((hosted []).Accepts createSpec createDesc ∧ (hosted []).ledger.intake.length < ledgerIntake) ∧
    (let s : State := { hosted [] with rings := [(0, ring .sub 1), (1, { ring .cpl 0 with prod := 0 }), (2, ring .sub 1)] }
     s.Accepts destroySpec (desc 1 2 0)) ∧
    (let k : Ticket := { rid := 0, cpl := 1, fn := 0, epoch := 0, cookie := 0 }
     let x : Ring := { ring .sub 1 with closing := [k] }
     let s : State := { hosted [] with rings := (hosted []).rings ++ [(2, x)] }
     s.ring 2 = some x ∧ x.closing = [k] ∧ x.closing ≠ [] ∧ x.busy 2 = 0 ∧ (s.fn k.fn).epoch = k.epoch ∧ k.cpl ≠ 2 ∧ (s.ring k.cpl).isSome = true) := by
  unfold State.Accepts; decide +kernel
/-- CONFIG_WRITE of 5 to offset 12 of slot 0's window. -/
def configDesc : Desc := desc 2 0 (BitVec.ofNat 256 (12 + 5 * 2 ^ 32))
theorem witness_ConfigAndCancelDescriptorsAct :
    (hosted []).Accepts configWriteSpec configDesc ∧
    ((hosted []).Accepts configReadSpec (descBuf 2 0 64 none) ∧ objWindow 2 0 = some (0x3C0000, 0x4000)) ∧
    ((hosted []).Accepts statsSpec (descBuf 6 127 64 none)) ∧
    ((hosted []).Accepts cancelSpec (desc 0 0 0) ∧ (hosted []).firesNow 0 = false) := by
  unfold State.Accepts; decide +kernel

/-! ## Slots and ingest -/

theorem witness_SlotsStopAndCommit :
    ((on []).mayWrite pf (Reg.ENC_BS_RUN_CMD 3).off = true ∧ (on [(Reg.ENC_BS_RUN_STATE 3, slotRunning)]).slotState 3 = slotRunning ∧
      (on [(Reg.ENC_BS_RUN_STATE 3, slotStarting)]).slotState 3 = slotStarting ∧ (on []).slotState 3 < 2 ∧
      (on [(Reg.ENC_BS_RUN_STATE 3, slotStopping)]).slotState 3 = slotStopping) ∧
    ((hosted [(Reg.ENC_BS_RUN_STATE 0, slotRunning)]).Accepts slotCmdSpec (desc 2 0 2) ∧ (desc 2 0 2).p 32 1 = 2 ∧
      (hosted [(Reg.ENC_BS_RUN_STATE 0, slotRunning)]).slotState 0 = slotRunning) ∧
    ((hosted []).Accepts slotCmdSpec (desc 2 0 4) ∧ 4 ≤ (desc 2 0 4).p 32 1) ∧
    (on [(Reg.ENC_BS_RUN_STATE 3, slotStopping)]).stopDone 3 = true ∧ (on []).mayCommand 3 pf = true := by
  unfold State.Accepts; decide +kernel
/-- Receiver 0 on lane 0, which carries ingest. -/
def ingest : List (Field × Nat) := [(Reg.LANE_CFG_MODE 0, 1), (Reg.LANE_STATUS_STATE 0, laneActive), (Reg.ING_CTRL_LANE_MASK, 1)]
theorem witness_ReceiversAndIngestLanesAreChecked :
    ((on ingest).mayWrite pf (Reg.ING_RX_ENABLE 0).off = true ∧ (on ingest).on (Reg.ING_RX_ENABLE 0) = false ∧
      (on ingest).enableCode 32 (pathsOf false true) 96 = 0) ∧
    ((on []).enableCode 0 (pathsOf false true) 96 = 0x1502) ∧ (on [(Reg.ING_RX_ENABLE 59, 1)]).on (Reg.ING_RX_ENABLE 59) = true ∧
    ((on []).mayWrite pf Reg.ING_CTRL_LANE_MASK.off = true ∧ popcount 16 0xFF ≤ 8 ∧ 8 < popcount 16 0x1FF) := by decide +kernel
/-- Receivers 32 and 48 take packets on path 0, in HEAD. -/
def receiving (r : Nat) : List (Field × Nat) :=
  [(Reg.PWR_MODE_STATUS_CUR_MODE, 1), (Reg.ING_RX_ENABLE r, 1), (Reg.ING_RX_PATH0_EN r, 1), (Reg.ING_RX_LOSS_MS r, 1), (Reg.ING_RX_PT r, 96)] ++ ingest
/-- Receiver 0 for 8-bit 4:2:2 pictures of 64 × 64. -/
def receivingVideo : List (Field × Nat) :=
  [(Reg.ING_RX_LATE_US 0, 20000), (Reg.ING_RX_SIZE_WIDTH 0, 64), (Reg.ING_RX_SIZE_HEIGHT 0, 64), (Reg.ING_RX_FMT_DEPTH 0, 0)] ++ receiving 0
def anc : Anc := { c := false, line := 9, s := false, hoff := 0, streamNum := 0, did := 0x161, sdid := 0x102, count := 0, words := [] }
def ancPacket (bad : Bool) : AncPacket := { flow := flow0, pt := 96, seq := 1, ts := 0, malformed := bad, crcOk := true, ancs := [anc] }
def openPic : RxPic := { ts := 0, cap := 0, buf := some 0, part := [], valid := 0, isOpen := true }
def videoRow : VideoRow := { line := 0, off := 0, len := 2, c0 := [1, 2], c1 := [3], c2 := [4] }
def video : VideoPacket := { flow := flow0, pt := 96, seq := 1, ts := 0, malformed := false, crcOk := true, rows := [videoRow] }
theorem witness_PacketsLandOrAreCounted :
    (let s : State := { on receivingVideo with rx := [(0, { Rx.reset with pics := [openPic] })] }
     s.takesFlow 0 0 video.flow = true ∧ s.checkUnit 2 3 0 = none ∧ s.badHead 0 (s.videoHead 0 video) = false ∧
      (s.rcv 0).judge (extendSeq 32 (s.rcv 0).newest video.seq.toNat) = 0 ∧ s.timeError (s.rtpDt 90000 video.ts.toNat) = false ∧
      (s.rcv 0).pics.find? (fun q => q.ts == video.ts.toNat) = some openPic ∧ openPic.buf = some 0 ∧ openPic.isOpen = true ∧
      s.picExpired 0 openPic.cap = false ∧ s.safAreaMeets (s.rowAddr 0 0 0 0 0) 2 = none ∧ s.safAreaMeets (s.rowAddr 0 0 1 0 0) 2 = none ∧
      (s.rcv 0).pics.find? (fun q => q.ts == 5) = none ∧ s.videoLate 0 0 (some { openPic with isOpen := false }) = true ∧
      s.badHead 0 (s.videoHead 0 { video with pt := 97 }) = true) ∧
    (let s := on (receiving 48)
     s.takesFlow 48 0 (ancPacket false).flow = true ∧ (96 : BitVec 7).toNat = s.get (Reg.ING_RX_PT 48) ∧
      (97 : BitVec 7).toNat ≠ s.get (Reg.ING_RX_PT 48) ∧ s.safAreaMeets ((s.storeArea 48).base + (s.rcv 48).anc * 1024) 1024 = none ∧
      s.checkUnit 2 3 48 = none ∧ (ancPacket false).malformed = false ∧ (ancPacket true).malformed = true ∧
      (s.rcv 48).judge (extendSeq 16 (s.rcv 48).newest 1) = 0 ∧ s.timeError (s.rtpDt 90000 0) = false ∧ (ancPacket false).ancs = [anc]) ∧
    (let s : State := { on (receiving 48) with rx := [(48, { Rx.reset with newest := some 65537, seen := [65537] })] }
     (s.rcv 48).judge (extendSeq 16 (s.rcv 48).newest 1) = 1) ∧
    (let s : State := { on (receiving 0) with rx := [(0, { Rx.reset with newest := some (2 ^ 32 + 2), seen := [2 ^ 32 + 1] })] }
     (s.rcv 0).judge (extendSeq 32 (s.rcv 0).newest 1) = 1 ∧
      ({ s with rx := [(0, { Rx.reset with newest := some (2 ^ 32 + 262146) })] } : State).takesFlow 0 0 flow0 = true) ∧
    ({ Rx.reset with newest := some (2 ^ 32 + 262146) } : Rx).judge (extendSeq 32 (some (2 ^ 32 + 262146)) 1) = 2 ∧
    (let s : State := { on ((pathUp 0 0, 1) :: receiving 0) with lc := 2000000, rx := [(0, { Rx.reset with last0 := some 0 })] }
     s.lastSeen 0 0 = some 0 ∧ 0 + s.get (Reg.ING_RX_LOSS_MS 0) * 1000 * ticksPerUs ≤ s.lc ∧ s.on (pathUp 0 0) = true) ∧
    ((on ingest).portActive 0 = true ∧ (on ingest).mode ≠ 4) ∧
    (let s := on ((Reg.ING_RX_GROUP 0 0, 0xE0000001) :: receiving 0)
     s.receivesPath 0 0 = true ∧ s.portOf (s.get (Reg.ING_RX_PATH_LANE 0 0)) = s.portOf 0 ∧ s.get (Reg.ING_RX_GROUP 0 0) = (0xE0000001 : BitVec 32).toNat ∧ isMulticast 0xE0000001 = true ∧
      (∀ k : Fin 60, ∀ q : Fin 2, (k, q) ≠ (0, 0) → s.receivesPath k q = false) ∧ (s.settleMeters 0).meterMode (8 * 0 + s.get (Reg.CAR_P_CTRL_CLASS 0)) ≠ 2 ∧
      framesLen (s.frames 0 (s.get (Reg.CAR_P_CTRL_CLASS 0))) + smallFrame ≤ s.get (Reg.CAR_P_Q_QMAX_KB 0 (s.get (Reg.CAR_P_CTRL_CLASS 0))) * 1024 ∧
      s.portBytes 0 + smallFrame ≤ s.portBuffer 0) := by decide +kernel

/-! ## The Safety Net and the compositors -/

/-- A key package of 192 bytes, SEQ 1, its key 64 bytes 7. -/
def keyPackage : List Byte :=
  [1, 0, 2, 0] ++ leBytes 8 1 ++ List.replicate 32 0 ++ leBytes 4 192 ++ List.replicate 16 0 ++ List.replicate 64 7 ++ List.replicate 64 0
/-- The key store with an enrolled key and that package to check. -/
def keyed : State :=
  { on [] with safKey := some 1, safs := [(4, { Saf.reset with checking := [⟨{ rid := 0, cpl := 1, fn := 0, epoch := 0, cookie := 0 }, 900, 192, keyPackage⟩] })] }
/-- The package is accepted where its signature verifies, which Config leaves open. -/
theorem witness_SafetyNetHoldsAPackage (h : Config.verifies 1 (keyPackage.take 128) (keyPackage.drop 128) = true) :
    (keyed.setSaf 4 { keyed.saf 4 with checking := [] }).pkgCode 4 keyPackage = 0 := by
  have hk : (keyed.setSaf 4 { keyed.saf 4 with checking := [] }).safKey = some 1 := rfl
  have hf : (keyed.setSaf 4 { keyed.saf 4 with checking := [] }).pkgForm 4 keyPackage = true := by decide +kernel
  have hl : keyPackage.length - 64 = 128 := by decide +kernel
  have hs : ¬ pkgSeq keyPackage ≤ ((keyed.setSaf 4 { keyed.saf 4 with checking := [] }).saf 4).lastSeq := by decide +kernel
  have hp : pkgPanels keyPackage = [] := by decide +kernel
  have hn : pkgKind keyPackage ≠ 0 := by decide +kernel
  simp [State.pkgCode, hk, hf, hl, h, hs, hp, hn]
theorem witness_SafetyNetHoldsAndProtects :
    ((hosted []).Accepts safLoadSpec (descData 4 0 (BitVec.ofNat 256 (4 * 2 ^ 64)) [1, 2, 3, 4])) ∧
    (let k : Ticket := { rid := 0, cpl := 1, fn := 0, epoch := 0, cookie := 0 }
     let s : State := { on [] with safs := [(3, { Saf.reset with checking := [⟨k, 900, 2, [1, 2]⟩] })] }
     (s.saf 3).checking = ⟨k, 900, [(1 : Byte), 2].length, [1, 2]⟩ :: [] ∧ (s.setSaf 3 { s.saf 3 with checking := [] }).pkgCode 3 [1, 2] ≠ 0) ∧
    (let d := descData 4 4 0 (List.replicate 64 7)
     (hosted []).Accepts safEnrollSpec d ∧ (hosted []).submitter d = 0 ∧ (hosted []).mode = 0 ∧ (hosted []).safKey = none ∧
      (hosted [(Reg.PWR_MODE_STATUS_CUR_MODE, 1)]).mode ≠ 0) ∧
    (let s := on dram
     s.mayWrite pf (Reg.SAF_SLOT_AREA_BASE 3).off = true ∧ s.slotState 3 = slotIdle ∧ ((s.saf 3).cur.isSome || (s.saf 3).pend.isSome || (s.saf 3).policy.held) = false ∧
      s.areaOk (fun t => t == tagSaf 3) ⟨tagSaf 3, 4096, safAreaBytes⟩ = true) ∧
    (on [(Reg.ENC_BS_RUN_STATE 3, slotRunning)]).slotState 3 ≠ slotIdle ∧
    ((on [(Reg.SAF_SLOT_AREA_BASE 0, 1)]).safAreaMeets 4096 1 = some 0 ∧ (on [(Reg.SAF_SLOT_AREA_BASE 0, 1)]).limitOpen 0x8713 0 = true) := by
  unfold State.Accepts; decide +kernel
theorem witness_CompositorCommitsApplyOrAreRefused :
    ((on []).mayWrite pf (Reg.CMP_SLOT_COMMIT_COMMIT 3).off = true ∧ refuses ((on [(Reg.CMP_SLOT_BENCH_FRAMES 3, 0)]).cmpCode 3) = true ∧
      refuses ((on [(Reg.CMP_SLOT_BENCH_FRAMES 3, 1)]).cmpCode 3) = false ∧ (on []).slotState 3 ≠ slotRunning ∧ (on []).slotState 3 ≠ slotStarting ∧
      (on [(Reg.ENC_BS_RUN_STATE 3, slotStarting)]).slotState 3 = slotStarting) ∧
    (hosted []).Accepts cmpCommitSpec (desc 2 3 0) := by
  unfold State.Accepts; decide +kernel
theorem witness_SurfacesTablesAndRowsAct :
    (let d := descData 3 8 (BitVec.ofNat 256 (64 * 2 ^ 64)) (List.replicate 64 1)
     let s := hosted [(bank 1 (Reg.CMP_L_INDEX_OR_PITCH 0 8), 1), (bank 1 (Reg.CMP_L_SURF_H 0 8), 1)]
     (hosted []).Accepts surfaceSpec d ∧ s.Accepts surfaceSpec d ∧ s.get (bank 1 (Reg.CMP_L_INDEX_OR_PITCH 0 8)) * 64 * s.get (bank 1 (Reg.CMP_L_SURF_H 0 8)) = 64 ∧
      d.p 40 4 = 64 ∧ (s.layer 0 8).load = none ∧ s.safAreaMeets (s.backBase 0 8) (d.bytes.take (d.p 40 4)).length = none ∧
      (hosted []).get (bank 1 (Reg.CMP_L_INDEX_OR_PITCH 0 8)) * 64 * (hosted []).get (bank 1 (Reg.CMP_L_SURF_H 0 8)) < d.p 40 4) ∧
    (let k : Ticket := { rid := 0, cpl := 1, fn := 0, epoch := 0, cookie := 0 }
     let s : State := { on [] with cmps := [(3, { Cmp.reset with layers := [(15, { Layer.reset with load := some (k, none) })] })] }
     (s.layer 3 15).load = some (k, none) ∧ (s.layer 3 15).load.isSome = true) ∧
    (let d := descData 2 0 (BitVec.ofNat 256 (4 * 2 ^ 64)) [1]
     (hosted []).Accepts tableSpec d ∧ d.p 40 1 = 4 ∧ (hosted []).tableUsed 0 4 = false ∧
      (on [(bank 1 (Reg.CMP_L_ENABLE 0 0), 1), (bank 1 (Reg.CMP_L_COEF_H 0 0), 0)]).tableUsed 0 4 = true) ∧
    (let b : Bench := { layers := [0, 3], lo := 0, hi := 7, done := none, tiles := [] }
     (({ on [] with cmps := [(3, { Cmp.reset with bench := some b })] } : State).cmp 3).bench = some b ∧ b.done = none) := by
  unfold State.Accepts; decide +kernel

/-! ## Lanes and Aknis Link -/

def laneOn (i m st : Nat) : List (Field × Nat) := [(Reg.LANE_CFG_MODE i, m), (Reg.LANE_CFG_ENABLE i, 1), (Reg.LANE_STATUS_STATE i, st)]
def withLane (i : Nat) (x : Lane) (s : State) : State := { s with lanes := [(i, x)] }
theorem witness_LaneWritesTakeEffectOrAreRefused :
    ((on []).mayWrite pf (Reg.LANE_CFG_MODE 15).off = true ∧ (on []).laneCfgCode 15 0x81000064 = 0 ∧ (on []).laneCfgCode 15 0x86000064 ≠ 0 ∧
      (on []).laneCfgCode 15 0x81000063 ≠ 0 ∧ (on [(Reg.PWR_FENCE_LANE, 2 ^ 15)]).laneCfgCode 15 0x81000064 = 0x1C03) ∧
    ((on []).mayWrite pf (Reg.LANE_TEST_TEST_EN 15).off = true ∧ (on (laneOn 15 1 0)).laneMode 15 ≠ 0 ∧ (on (laneOn 15 1 0)).laneFenced 15 = false ∧
      (on (laneOn 15 1 0)).laneInUse 15 = false ∧ (on []).laneMode 15 = 0) ∧
    ((on []).mayWrite pf (Reg.LANE_MAC_LO 15).off = true ∧ bit (0x100 : BitVec 32).toNat 8 = true ∧ bit (0 : BitVec 32).toNat 8 = false) := by decide +kernel
theorem witness_LanesTrainLockAndAreLost :
    (let s := on (laneOn 3 1 laneDetect)
     s.laneState 3 = laneDetect ∧ s.isEth 3 = true ∧ s.on (Reg.LANE_CFG_AN_EN 3) = false) ∧
    (let s := withLane 3 { Lane.reset with sensed := true } (on ((Reg.LANE_CFG_AN_EN 3, 1) :: laneOn 3 1 laneDetect))
     s.laneState 3 = laneDetect ∧ s.isEth 3 = true ∧ s.on (Reg.LANE_CFG_AN_EN 3) = true ∧ (s.lane 3).sensed = true) ∧
    ((on (laneOn 3 1 laneTrain)).laneState 3 = laneTrain ∧ (on ((Reg.LANE_CFG_FFE_MODE 3, 1) :: laneOn 3 1 laneTrain)).on (Reg.LANE_CFG_FFE_MODE 3) = true) ∧
    (withLane 3 { Lane.reset with peerReady := true, selfReady := true } (on (laneOn 3 1 laneTrain))).bothReady 3 = true ∧
    ((on (laneOn 3 1 laneBitLock)).laneState 3 = laneBitLock ∧ (on (laneOn 3 1 laneBitLock)).isEth 3 = true) ∧
    ((withLane 3 { Lane.reset with failed := true } (on [])).lane 3).failed = true ∧
    ((on (laneOn 3 1 laneActive)).laneServing 3 = true ∧ (on (laneOn 3 1 laneActive)).isEth 3 = true) ∧
    ((withLane 3 { Lane.reset with relock := true } (on (laneOn 3 5 laneSymbolLock))).laneState 3 = laneSymbolLock ∧
      ((withLane 3 { Lane.reset with relock := true } (on (laneOn 3 5 laneSymbolLock))).lane 3).relock = true) ∧
    bit ((on [(Reg.LANE_REFSTAT_OK, 0)]).get Reg.LANE_REFSTAT_OK) 3 = false := by decide +kernel
def goodHeader (ok : Bool) : LinkHeader := { hcrc := ok, kind := 0, len := 0, crClass := 0, crSlots := 0, bad := false, dcrc := true, beyond := false }
def offer : CapOffer := { role := 2, versions := 0x0C, part := 0x4816, mirror := 512, control := 512, turn := 0 }
/-- The engine of lane 15 is being reloaded. -/
def reloading : State :=
  { on (laneOn 15 5 laneCap) with fw := { Fw.reset with update := some { kind := 3, image := ⟨3, 1, [], []⟩, ticket := ⟨0, 1, 0, 0, 0, false, false⟩, left := [15] } } }
theorem witness_LinkMessagesAndFramesAct :
    (reloading.linkReloading 15 = true ∧ (on (laneOn 15 5 laneCap)).linkReloading 15 = false) ∧
    (let s := on (laneOn 15 5 laneBitLock)
     s.isAkn 15 = true ∧ laneBitLock ≤ s.laneState 15 ∧ s.laneState 15 < laneTest ∧ (goodHeader false).hcrc = false) ∧
    (let s := withLane 15 { Lane.reset with heads := [true, true, true] } (on (laneOn 15 5 laneCap))
     s.laneState 15 = laneCap ∧ 4 ≤ (((true :: (s.lane 15).heads).take 64).filter id).length) ∧
    (let s := withLane 15 { Lane.reset with good := 7 } (on (laneOn 15 5 laneBitLock))
     (goodHeader true).hcrc = true ∧ s.laneState 15 = laneBitLock ∧ 7 ≤ (s.lane 15).good) ∧
    ((on (laneOn 15 4 laneActive)).isAkn 15 = true ∧ (on (laneOn 15 4 laneActive)).laneState 15 = laneActive) ∧
    (let s := on ((Reg.AKN_CTRL_VERSIONS 15, 0x0C) :: laneOn 15 5 laneCap)
     s.laneMode 15 = 5 ∧ s.laneState 15 = laneCap ∧ offer.role = 2 ∧ offer.part = 0x4816 ∧
      highestVersion (offer.versions.toNat &&& s.get (Reg.AKN_CTRL_VERSIONS 15)) = 3) ∧
    (let s := withLane 15 { Lane.reset with offer := some offer } (on ((Reg.AKN_CTRL_VERSIONS 15, 0x0C) :: laneOn 15 4 laneCap))
     s.laneMode 15 = 4 ∧ s.laneState 15 = laneCap ∧ (s.lane 15).offer.isSome = true ∧ s.get (Reg.AKN_STATUS_VERSION 15) = 0 ∧
      bit (s.get (Reg.AKN_CTRL_VERSIONS 15)) 2 = true) ∧
    (let e : Echo := ⟨63, 14, 2, 0⟩
     let s := withLane 15 { Lane.reset with echo := some e } (on (laneOn 15 4 laneCap))
     (s.lane 15).echo = some e ∧ s.laneState 15 = laneCap ∧ e.tile = (63 : Fin 64).val ∧ e.done + 1 < 16 ∧ e.tries < 3) ∧
    (let e : Echo := ⟨62, 15, 3, 0⟩
     let s := withLane 15 { Lane.reset with echo := some e } (on ((Reg.AKN_STATUS_TILES_FOUND 15, 64) :: laneOn 15 4 laneCap))
     (s.lane 15).echo = some e ∧ 16 ≤ e.done + 1 ∧ (62 : Fin 64).val + 1 < s.get (Reg.AKN_STATUS_TILES_FOUND 15) ∧ 3 ≤ e.tries) ∧
    ((hosted (laneOn 15 5 laneActive)).Accepts laneRetrainSpec (desc 5 15 0) ∧ (hosted (laneOn 15 5 laneActive)).laneFenced 15 = false ∧
      (hosted [(Reg.PWR_FENCE_LANE, 2 ^ 15)]).laneFenced 15 = true ∧ (hosted []).laneMode 15 = 0 ∧
      (hosted [(Reg.LANE_CFG_MODE 15, 1)]).on (Reg.LANE_CFG_ENABLE 15) = false) ∧
    ((hosted (laneOn 15 5 laneActive)).Accepts aknSendSpec (desc 5 15 (BitVec.ofNat 256 0x0110)) ∧ (hosted []).isAkn 15 = false) ∧
    (let k : Ticket := { rid := 0, cpl := 1, fn := 0, epoch := 0, cookie := 0 }
     let s := withLane 15 { Lane.reset with asked := [(k, 7)] } (on (laneOn 15 5 laneActive))
     s.laneState 15 = laneActive ∧ s.isAkn 15 = true ∧ (s.lane 15).asked.find? (fun e => e.2 == 7) = some (k, 7) ∧
      (s.lane 15).asked.find? (fun e => e.2 == 8) = none) ∧
    (let s := on ([(Reg.LANE_TEST_RX_PAT 15, 1), (Reg.LANE_TEST_SYNC 15, 1)] ++ laneOn 15 1 laneTest)
     s.laneState 15 = laneTest ∧ s.get (Reg.LANE_TEST_RX_PAT 15) ≠ 0 ∧ s.on (Reg.LANE_TEST_SYNC 15) = true) ∧
    (let s := on ((Reg.LANE_IPV4 15, 9) :: laneOn 15 1 laneActive)
     s.portActive 15 = true ∧ s.mode ≠ 4 ∧ s.get (Reg.LANE_IPV4 15) ≠ (8 : BitVec 32).toNat ∧ s.get (Reg.LANE_IPV4 15) = (9 : BitVec 32).toNat ∧
      (s.settleMeters 15).meterMode (8 * 15 + s.get (Reg.CAR_P_CTRL_CLASS 15)) ≠ 2 ∧
      framesLen (s.frames 15 (s.get (Reg.CAR_P_CTRL_CLASS 15))) + 64 ≤ s.get (Reg.CAR_P_Q_QMAX_KB 15 (s.get (Reg.CAR_P_CTRL_CLASS 15))) * 1024 ∧
      s.portBytes 15 + 64 ≤ s.portBuffer 15) := by
  unfold State.Accepts; decide +kernel

/-! ## Encode, decode, scan-out and audio -/

def bsRing : Ring := ring .bsIn 1
/-- Parameter sets of a picture 0 pixels wide, which fit no declaration. -/
def sets : ParamSets :=
  { id := 1, others := false, inOrder := true,
    params := { profile := 0, tier := 0, levelIdc := 0, chroma := 0, depth := 10, width := 0, height := 0,
                tools := { codec := 0, ctu := 128, minCu := 8, transform := 64, halves := true, temporalMv := true, affine4 := true, intraModes := 67,
                           skipTransform := 32, dst4 := false, fixedAlf := true },
                refs := 2, cols := 1, rows := 1, spW := 4, spH := 4, sameSize := true, asPicture := true, crossFilter := false, idMapped := false,
                bitRate := 0, cpbBits := 0, cbr := false } }
def coded (bad : Bool) : CodedPacket :=
  { flow := flow0, pt := 96, seq := 1, ts := 0, malformed := bad, crcOk := true, bytes := 10, content := .head (some sets) none }
/-- A composed row with its cap, of a picture of slot 0 with one column. -/
def encRow : EncRow :=
  { composed := true, lines := [], motions := [], cus := [], cap := some 100000, spoil := false, charge := none, slices := [], held := [], guarded := 0, doneAt := none,
    own := false, launched := false, released := false }
def encPic : EncPic :=
  { n := 5, allow := ⟨0, 0, 1, 0⟩, rc := ⟨0, 0, 0, 0, 0, 0, 0, 0, 0⟩, target := 0, plan := [], qp := [], ps := [[100000, 100000]], hints := [],
    rows := [encRow], head := none, hdr := [], qpLo := 0, qpHi := 0 }
def withPic (p : EncPic) (s : State) : State := { s with slots := [(0, { Slot.reset with pics := [p] })] }
/-- The same picture before its row is composed. -/
def freshPic : EncPic := { encPic with rows := [{ encRow with composed := false }] }
theorem witness_ARowIsComposed :
    let s : State := { withPic freshPic (on [(Reg.TIM_DOM_ENABLE 0, 1), (bank 1 (Reg.ENC_BS_FORMAT_RATE 0), 4)]) with lc := 2000000000 }
    s.rowToCompose 0 = some (freshPic, 0) ∧ s.due 1 (instant (s.c0 0 freshPic.allow freshPic.n + 0 * s.encPr 1 0)) = true := by decide +kernel
def slice : SliceDone := { head := 8, coded := [8, 8, 8, 8], spoil := [], tail := 8, emul := 1 }
theorem witness_SlicesDecodeInputsAndRowsAct :
    (let s := withPic encPic (on [(bank 1 (Reg.ENC_BS_SIZE_WIDTH 0), 1024), (bank 1 (Reg.ENC_BS_SP_W 0), 4)])
     (s.slot 0).pics.find? (fun p => s.sliceOk 0 p 0 0 slice) = some encPic ∧ encPic.rows[0]? = some encRow ∧ encRow.slices.length + 1 ≠ s.encCols 0 ∧
      encRow.released = false ∧ ((s.slot 0).pics.map (fun q => q.n)).Nodup) ∧
    ((on []).mayWrite pf Reg.ENC_CTRL_EFFORT_FLOOR.off = true ∧ (on []).get Reg.ENC_CTRL_THERM_STEP ≤ 5) ∧
    (let s := withPic encPic (on [(Reg.ENC_BS_RUN_STATE 0, slotRunning), (bank 1 (Reg.ENC_BS_PKT_TS_EN 0), 1)])
     s.slotState 0 = slotRunning ∧ s.slotKind 0 = 0 ∧ s.cfgOn Reg.ENC_BS_PKT_TS_EN 0 = true ∧ (s.slot 0).pics = encPic :: [] ∧
      (s.slot 0).ts.packets.length + 2 < 7) ∧
    (let s : State := { hosted [] with rings := [(1, { ring .cpl 0 with prod := 0 }), (2, bsRing)] }
     s.servable .bsIn 2 false = true ∧ s.ring 2 = some bsRing) ∧
    (let s := on ([(bank 1 (Reg.ENC_BS_FORMAT_KIND 0), 1), (Reg.ENC_BS_RUN_STATE 0, slotStarting)] ++ receiving 56)
     s.takesFlow 56 0 (coded false).flow = true ∧ s.checkUnit 2 3 56 = none ∧ s.decTakes 0 = true ∧ (coded true).malformed = true ∧ (coded false).malformed = false ∧
      (96 : BitVec 7).toNat = s.get (Reg.ING_RX_PT 56) ∧ s.setsFit 0 sets = false ∧ s.filtered 0 0 (coded false).content = false ∧
      (({ s with rx := [(56, { Rx.reset with newest := some 65537, seen := [65537] })] } : State).rcv 56).judge (extendSeq 16 (some 65537) 1) = 1 ∧
      (s.rcv 56).judge (extendSeq 16 (s.rcv 56).newest 1) = 0 ∧ s.timeError (s.decCap 0 0) = false) ∧
    ((on (receiving 56)).takesFlow 56 0 flow0 = true ∧ (on (receiving 56)).decTakes 0 = false ∧ (on (receiving 56)).heldDecode 0 = false) ∧
    (let s : State := { on [(Reg.DEC_BS_STREAM_UP 0, 1), (Reg.ENC_BS_RUN_STATE 0, slotRunning)] with lc := 2000000000 }
     s.on (Reg.DEC_BS_STREAM_UP 0) = true ∧ s.slotBusy 0 = true ∧ (s.dec 0).lastAt + 1000 * 1000 * ticksPerUs ≤ s.lc) := by decide +kernel
/-- A picture of a decode slot with one row whose slice is there. -/
def decSlice : DecSlice := { row := 0, sp := 0, frags := [], bytes := 0, got := true, done := false, concealed := false, unchanged := false }
def decPic : DecPic :=
  { id := 1, ts := some 0, cap := 0, p := 0, present := true, stamped := true, idle := false, num := 0, pos := 0, len := 0, gdr := 0,
    base := 0, start := true, sel := [0], load := 0, nextRow := 0, decoded := false, slices := [decSlice], raised := [], latched := 0, same := false, shown := false,
    clears := [] }
theorem witness_DecodedRowsAreOpen :
    (let s : State := { on [(Reg.DEC_BS_JOINED 0, 1), (bank 1 (Reg.ENC_BS_FORMAT_KIND 0), 1), (bank 1 (Reg.ENC_BS_SIZE_WIDTH 0), 128),
        (bank 1 (Reg.ENC_BS_SIZE_HEIGHT 0), 128), (bank 1 (Reg.ENC_BS_SP_W 0), 1), (bank 1 (Reg.ENC_BS_SP_H 0), 1)] with
        slots := [(0, { Slot.reset with dec := { Dec.reset with pics := [decPic] } })] }
     (s.dec 0).pics.find? (fun q => s.rowOpen 0 q 0 0) = some decPic ∧ ((s.dec 0).pics.map (fun q => q.id)).Nodup) := by decide +kernel

def loadFrame : LoadFrame := { pic := 0, p := 0, opened := 0, answered := [], underrun := false, late := [], done := false, blank := false, still := false }
def scanning (f : Option LoadFrame) (l : List (Field × Nat)) : State :=
  { on ([(Reg.SCN_LANE_STATUS_STATE 0, scnRun), (bank 1 (Reg.SCN_LANE_SRC_H 0), 64), (bank 1 (Reg.SCN_LANE_TILES 0), 1), (bank 1 (Reg.SCN_TILE_H 0 0), 16),
      (bank 1 (Reg.SCN_LANE_SRC_KIND 0), 1), (bank 1 (Reg.SCN_LANE_ENABLE 0), 1), (Reg.TIM_DOM_ENABLE 0, 1), (Reg.SCN_LANE_SR_EN 0, 0)] ++ laneOn 0 4 laneActive ++ l) with
    scns := [(0, { Scn.reset with frame := f })] }
theorem witness_ScanOutLanesAct :
    (let s := scanning (some loadFrame) []
     (s.scn 0).frame = some loadFrame ∧ s.scnState 0 = scnRun ∧ loadFrame.blank = false ∧ loadFrame.opened < s.scnGet Reg.SCN_LANE_SRC_H 0 ∧
      s.due 1 (instant (s.lineAt 0 loadFrame loadFrame.opened)) = true ∧ s.due 1 (instant (s.blankAt 0 loadFrame)) = true ∧ (s.scn 0).pend = none ∧
      s.on (Reg.SCN_LANE_SR_EN 0) = false) ∧
    (let s : State := { scanning (some loadFrame) [] with scns := [(0, { Scn.reset with frame := some loadFrame, pend := some (-4000000000) })] }
     (s.scn 0).pend = some (-4000000000) ∧ s.activeMap.tickOf (-4000000000) < s.activeMap.tickOf (instant (s.blankAt 0 loadFrame))) ∧
    (let s := scanning none []
     s.laneMode 0 = 4 ∧ s.laneState 0 = laneActive ∧ s.scnGet Reg.SCN_LANE_TILES 0 ≤ (1 : BitVec 8).toNat ∧ s.scnTile Reg.SCN_TILE_H 0 0 ≤ (16 : BitVec 16).toNat ∧
      (0 : BitVec 8).toNat < s.scnGet Reg.SCN_LANE_TILES 0 ∧ (15 : BitVec 16).toNat < s.scnTile Reg.SCN_TILE_H 0 0 ∧ (s.scn 0).frame = none) ∧
    (let f : LoadFrame := { loadFrame with opened := 16, p := 10000000000 }
     let s := scanning (some f) []
     (s.scn 0).frame = some f ∧ s.scnTile Reg.SCN_TILE_Y 0 0 + 15 < f.opened ∧ f.opened ≤ s.scnTile Reg.SCN_TILE_Y 0 0 + 15 + 16 ∧
      s.due 1 (instant (s.blankAt 0 f)) = false ∧ f.answered.contains (0, 15) = false ∧ s.leadLate 0 (s.scnTile Reg.SCN_TILE_Y 0 0 + 15) f = false ∧
      s.lineShows 0 0 15 f = true ∧ ({ scanning (some f) [(bank 1 (Reg.SCN_LANE_SRC_KIND 0), 0)] with lc := 1000 } : State).lineShows 0 0 15 f = false) ∧
    ((on []).mayWrite pf (Reg.SCN_LANE_COMMIT_COMMIT 0).off = true ∧ (on []).scnCode 0 ≠ 0) := by decide +kernel
/-- Lane 1 with a clone of lane 0's timing written. -/
theorem witness_ScanOutCommits :
    (let s := scanning none ([(Reg.SCN_LANE_CLONE_EN 1, 1), (Reg.SCN_LANE_CLONE_OF 1, 0)] ++ laneOn 1 4 laneActive)
     s.scnCode 1 = 0 ∧ s.scnState 1 = scnOff ∧ (s.set (Reg.SCN_LANE_STATUS_STATE 1) scnRun).scnCode 1 = 0 ∧
      (s.set (Reg.SCN_LANE_STATUS_STATE 1) scnRun).scnState 1 = scnRun) := by decide +kernel

def subframe : Subframe := { sample := 0, parityOk := true, invalid := false, status := false, user := false }
def aes : AesFrame := { sub := 0, valid := true, z := false, a := subframe, b := subframe }
/-- HEAD, with input port 0 enabled and domain 0 running. -/
def audio : List (Field × Nat) := [(Reg.PWR_MODE_STATUS_CUR_MODE, 1), (Reg.AUD_IN_ENABLE 0, 1), (Reg.TIM_DOM_ENABLE 0, 1)]
def withInput (x : AudIn) (l : List (Field × Nat)) : State := { on (audio ++ l) with aud := { Aud.reset with ins := [(0, x)] } }
def audioPacket (bad : Bool) : AudioPacket := { flow := flow0, pt := 96, seq := 1, ts := 0, malformed := bad, crcOk := true, samples := [[5]] }
theorem witness_AudioInputsPortsAndRoutesAct :
    (let s := withInput { AudIn.reset with good := 63 } []
     s.audioOn = true ∧ s.on (Reg.AUD_IN_ENABLE 0) = true ∧ s.domEnabled s.activeDom = true ∧ s.on (Reg.AUD_IN_LOCK 0) = false ∧ aes.valid = true ∧
      63 ≤ (s.audIn 0).good ∧ ((withInput AudIn.reset []).audIn 0).good < 63) ∧
    (let s : State := { withInput AudIn.reset [(Reg.AUD_IN_LOCK 0, 1), (Reg.AUD_IN_ASRC_MODE 0, 0)] with lc := 200000000 }
     s.on (Reg.AUD_IN_LOCK 0) = true ∧ (s.audIn 0).bad = false ∧ ((withInput { AudIn.reset with bad := true } []).audIn 0).bad = true ∧
      s.get (Reg.AUD_IN_ASRC_MODE 0) = 0 ∧ (s.audIn 0).decided = false ∧
      (s.audIn 0).lockAt + 100000 * ticksPerUs ≤ s.lc) ∧
    (let s := withInput { AudIn.reset with decided := true, grid := (100, 100) } [(Reg.AUD_IN_LOCK 0, 1)]
     s.on (Reg.AUD_IN_LOCK 0) = true ∧ (s.audIn 0).decided = true ∧ s.get (Reg.AUD_IN_ASRC 0) = 0 ∧
      samplePeriod (s.get (Reg.AUD_IN_SRATE 0)) / 2 ≤ ratAbs ((s.activeDt : Rat) - (((s.audIn 0).grid.1 : Int) : Rat) * samplePeriod (s.get (Reg.AUD_IN_SRATE 0)))) ∧
    ((on []).on Reg.AUD_MCLK_OK = false ∧ (on [(Reg.AUD_MCLK_OK, 1)]).on Reg.AUD_MCLK_OK = true ∧ (on []).mayWrite pf Reg.AUD_MCLK_RESUME.off = true) ∧
    (let s := on ((Reg.ING_RX_AFMT_CHANNELS 32, 1) :: receiving 32)
     s.takesFlow 32 0 (audioPacket false).flow = true ∧ (96 : BitVec 7).toNat = s.get (Reg.ING_RX_PT 32) ∧ s.checkUnit 2 3 32 = none ∧ (s.rcv 32).judge (extendSeq 16 (s.rcv 32).newest 1) = 0 ∧
      s.timeError (s.rtpDt (rateOfS (s.get (Reg.ING_RX_AFMT_SRATE 32))) 0) = false ∧ 1 ≤ s.get (Reg.ING_RX_AFMT_CHANNELS 32)) ∧
    ((on []).mayWrite pf (0x541000 + 0x40 * 63) = true ∧ bit (0x80000000 : BitVec 32).toNat 31 = true ∧ isAesIn 15 = true ∧ (on []).inputCode 15 0 = 0 ∧
      (on []).inputCode 15 3 ≠ 0 ∧ isAudOut 16 = true ∧ isAudOut 63 = true ∧ (on []).outputCode 16 0 0 = 0 ∧ (on [(Reg.AUD_OUT_CHANNELS 63, 65)]).outputCode 63 0 0 ≠ 0) ∧
    ((on []).mayWrite pf (Reg.AUD_ROUTE_SRC 95).off = true ∧ (on []).routeCode 96 4 0 ≠ 0 ∧ (on []).routeCode 95 4 200000 = 0 ∧ (on []).portOfChan 64 = none ∧
      (on [(Reg.AUD_OUT_ENABLE 16, 1)]).portOfChan 64 = some 16) ∧
    (let s : State := { on (audio ++ [(Reg.AUD_OUT_ENABLE 16, 1)]) with lc := 100000000, aud := { Aud.reset with chans := [(64, { AudCh.reset with pend := some (.mute, 0, none) })] } }
     (s.audCh 64).pend = some (.mute, 0, none) ∧ s.audioOn = true ∧ (s.audCh 64).waits = true ∧ 0 + s.zcTicks ≤ s.lc ∧ s.portOfChan 64 = some 16 ∧
      s.crossesAt (s.audCh 64) (s.routed 64 (s.outSrate 16) (s.nextRelease 16)).1 (s.nextRelease 16) = true ∧
      s.crossesAt { s.audCh 64 with pend := some (.mute, 100, none) } (s.routed 64 (s.outSrate 16) (s.nextRelease 16)).1 (s.nextRelease 16) = false) ∧
    ((hosted [(Reg.AUD_OUT_ENABLE 16, 1)]).Accepts audioCmdSpec (desc 7 16 1) ∧ (hosted [(Reg.AUD_OUT_ENABLE 16, 1)]).on (Reg.AUD_OUT_ENABLE 16) = true ∧
      (hosted []).on (Reg.AUD_OUT_ENABLE 16) = false) ∧
    (hosted []).Accepts templateSpec (descData 7 16 0 (List.replicate 96 0)) ∧ (hosted []).Accepts captureReadSpec (descBuf 7 0 64 none) := by
  unfold State.Accepts
  refine ⟨?_, ?_, ?_, ?_, ?_, ?_, ?_, ?_, ?_, ?_, ?_⟩ <;> decide +kernel

/-! ## DRAM, engines, interrupts and check units -/

theorem witness_LayoutAndTrainingAct :
    ((on []).mayWrite pf Reg.DMC_LAYOUT_COMMIT.off = true ∧ (on []).layoutRefused 0 0 0 0 = true ∧ (on []).layoutRefused 0 0 0 2 = false) ∧
    ((on []).mayWrite pf (Reg.DMC_TRN_GO 7).off = true ∧ (on [(Reg.DMC_RANK_STATE_STATE 15, rankInService)]).helperRefused 7 1 = true ∧
      (on []).helperRefused 7 1 = false ∧ bits (0xFFFFFF : BitVec 32).toNat 23 0 ≠ 0 ∧ bits (0 : BitVec 32).toNat 23 0 = 0) ∧
    (let s : State := { on [(Reg.DMC_TRN_BUSY 7, 1)] with dram := { Dram.reset with ops := [(7, true)] } }
     s.on (Reg.DMC_TRN_BUSY 7) = true ∧ Table.getD s.dram.ops 7 false = true) ∧
    ((on []).mayWrite pf (Reg.DMC_TRN_SET 7).off = true ∧ bits (79 * 2 ^ 24) 30 24 < 80 ∧ 80 ≤ bits (80 * 2 ^ 24) 30 24) ∧
    (on []).mayWrite pf (Reg.DMC_TRN_MR_WRITE 7).off = true := by decide +kernel
def ranked (l : List (Field × Nat)) : State :=
  { on (dram ++ [(Reg.DMC_RANK_STATE_STATE 0, rankInService), (Reg.DMC_RANK_STATE_STATE 15, rankSpare), (Reg.DMC_CE_LIMIT, 1)] ++ l) with
    dram := { Dram.reset with formed := true, serve := [(0, 0)] } }
theorem witness_RankFaultsAndMigrationsAct :
    (let s := on [(Reg.DMC_STATUS_SETS, 3)]
     bit (s.get Reg.DMC_STATUS_SETS) 0 = true ∧ s.on (Reg.DMC_SET_FILL_DONE 0) = false) ∧
    ((ranked []).inService 0 1 = true ∧ (ranked []).rankOf 0 = some 0 ∧ 0 < (ranked []).get Reg.DMC_CE_LIMIT ∧
      (ranked []).get Reg.DMC_CE_LIMIT ≤ ((ranked []).recentErrors 0).length ∧ (ranked []).rankState 0 = rankInService ∧ (ranked []).canMigrate = true ∧
      (ranked []).rankState 0 ≠ rankFilling ∧ (ranked [(Reg.DMC_CE_LIMIT, 0)]).get Reg.DMC_CE_LIMIT = 0) ∧
    ((ranked []).halted = false ∧ (ranked []).spareRank = some 15) ∧
    (let s : State := { ranked [] with rings := (hosted []).rings, fns := [(0, ⟨0, 0⟩)] }
     (s.set (Reg.HIF_FN_STATUS_ABI_MINOR 0) 2).Accepts migrateSpec (desc 0 0 0) ∧ s.rankState 0 = rankInService ∧ s.canMigrate = true ∧ ¬ (255 < 16)) ∧
    (let s : State := { ranked [(Reg.DMC_MIG_CTRL_SRC, 0), (Reg.DMC_MIG_CTRL_DST, 15)] with
        dram := { Dram.reset with serve := [(0, 0)], mig := some { failing := false, tickets := [], acc := 0, since := 0 } } }
     s.dram.mig.isSome = true ∧ s.positionOf (s.get Reg.DMC_MIG_CTRL_SRC) = some 0 ∧ s.get Reg.DMC_MIG_CTRL_SRC ≠ s.get Reg.DMC_MIG_CTRL_DST ∧
      s.get Reg.DMC_MIG_PTR + 1 < s.rankUnits ∧ s.rankUnits ≤ (s.set Reg.DMC_MIG_PTR (s.rankUnits - 1)).get Reg.DMC_MIG_PTR + 1) ∧
    ((ranked []).rankState 15 ≠ rankAbsent ∧ (ranked [(Reg.DMC_REFRESH_NBR_K, 4)]).get Reg.DMC_REFRESH_NBR_K ≠ 0) ∧
    ([3, 3] : List (Fin 20)).eraseDups.length = 1 ∧ ([3, 4] : List (Fin 20)).eraseDups.length = 2 ∧ 3 ≤ ([3, 4, 5] : List (Fin 20)).eraseDups.length ∧
    (ranked []).spareYields 0 = false := by
  unfold State.Accepts; decide +kernel
def task (st : TaskState) (pri : Nat) : Task :=
  { state := st, priority := pri, flags := 1, mask := 1, all := false, affinity := 1, preemptible := true, readyAt := 0, passed := 0, asked := none }
def tasked (l : List (Nat × Task)) : State := { on [(Reg.PWR_PD_ON 0, 0x40)] with tasks := l }
theorem witness_TasksAreScheduled :
    ((tasked []).juggler = true ∧ (tasked []).freeTask = some 0) ∧
    (Table.find (tasked [(4095, task .waiting 0)]).tasks 4095 = some (task .waiting 0) ∧ (task .waiting 0).state ≠ .faulted ∧ Table.find (tasked []).tasks 4095 = none) ∧
    (tasked [(4095, task (.running 95) 0)]).runningOn 95 = some (4095, task (.running 95) 0) ∧
    (let s := tasked [(1, task .ready 7)]
     s.readyTasks = (1, task .ready 7) :: [] ∧
      ((task .ready 7).engines.filter s.engineTakes).find? (fun e => (s.runningOn e).isNone) = some 0) ∧
    (let s := tasked [(1, task .ready 7), (2, task (.running 0) 6)]
     s.readyTasks = (1, task .ready 7) :: [] ∧ (task .ready 7).engines.filter s.engineTakes = [0] ∧ s.runningOn 0 = some (2, task (.running 0) 6) ∧
      (task (.running 0) 6).priority < (task .ready 7).priority ∧ (task .ready 7).asked ≠ some (0, 2) ∧ ({ task (.running 0) 6 with preemptible := false } : Task).preemptible = false ∧ (task (.running 0) 6).preemptible = true) ∧
    ((on []).mayWrite fw Reg.JUG_CTRL_DRAIN.off = true ∧ (on []).isFenced (.engine 95) = false ∧ (on []).mode = modeService) := by decide +kernel
theorem all_taken (x : Task) (l : List Nat) (j : Nat) (h : j ∈ l) : Table.find (l.map (fun i => (i, x))) j = some x := by
  induction l with
  | nil => cases h
  | cons a l ih =>
    simp only [List.map_cons, Table.find]
    by_cases e : j = a
    · rw [if_pos e]
    · rw [if_neg e]; exact ih (by rcases List.mem_cons.1 h with h | h <;> [exact absurd h e; exact h])
/-- Every one of the 4,096 tasks is taken. -/
theorem witness_FullTaskTable : (tasked ((List.range 4096).map (fun i => (i, task .waiting 0)))).freeTask = none := by
  unfold State.freeTask
  rw [List.find?_eq_none]
  intro j h
  have e := all_taken (task .waiting 0) (List.range 4096) j h
  unfold tasked; simp [e]
def claim (n first : Nat) (level : Option Bool) : Claim := { src := n, priority := 1, first := first, level := level }
def raisedSource (c : List (Nat × List Claim)) (soft : List Nat) : State :=
  { on [(Reg.BRK_SRC_CFG_PRIORITY 900, 7), (Reg.BRK_SRC_CFG_TARGET 900, 0), (Reg.BRK_SRC_CFG_PRIORITY 896, 1)] with brk := { claims := c, exits := [], soft := soft } }
theorem witness_SourcesAreClaimedAndReleased :
    ((raisedSource [] [900]).arbitrate 0 = some 900 ∧ (raisedSource [] [900]).claimsOf 0 = [] ∧
      Table.getD (raisedSource [] [900]).brk.exits 0 0 ≤ (raisedSource [] [900]).now5) ∧
    (let s : State := { raisedSource [] [900] with brk := { claims := [], exits := [(0, 5001)], soft := [900] } }
     s.arbitrate 0 = some 900 ∧ s.now5 < Table.getD s.brk.exits 0 0) ∧
    (let s := raisedSource [(0, [claim 896 5001 none])] [896, 900]
     s.arbitrate 0 = some 900 ∧ s.claimsOf 0 = claim 896 5001 none :: [] ∧ s.now5 < 5001) ∧
    (let s := raisedSource [(0, [claim 896 5000 (some true)])] [896, 900]
     s.arbitrate 0 = some 900 ∧ s.claimsOf 0 = claim 896 5000 (some true) :: []) ∧
    ((raisedSource [] []).claimsOf 0).find? (fun c => c.src == 900) = none ∧
    (let s := raisedSource [(0, [claim 900 0 (some false)])] []
     (s.claimsOf 0).find? (fun c => c.src == 900) = some (claim 900 0 (some false)) ∧ (claim 900 0 (some false)).level = some false ∧ s.sourceLevel 900 = false ∧
      ((s.setClaims 0 []).showClaim 900 none).arbitrate 0 = none) ∧
    (let s := raisedSource [(0, [claim 900 0 (some true)])] [900]
     ((s.setClaims 0 []).showClaim 900 none).arbitrate 0 = some 900) ∧
    ((on []).mayWrite fw Reg.BRK_SW_SET.off = true ∧ 896 ≤ bits (0x80000000 + 896) 9 0 ∧ bits 1015 9 0 < 1016) ∧
    ((on []).mayWrite fw (Reg.BRK_LATCH 31).off = true ∧ (on []).ledger.intake.length < ledgerIntake) := by decide +kernel
theorem witness_CheckUnitsAct :
    ((on []).mayWrite pf (Reg.CHK_MODE 3).off = true ∧ (on []).chkCode 3 32 = 0 ∧ (on []).chkCode 3 7 = 0x1161 ∧ (on [(Reg.CHK_BUSY 3, 1)]).chkCode 3 32 = 0x1162) ∧
    (let d := desc 0 0 (BitVec.ofNat 256 (64 * 2 ^ 128))
     (hosted dram).Accepts chkScanSpec d ∧ (hosted dram).get (Reg.CHK_MODE 0) = 0 ∧ (hosted dram).on (Reg.CHK_BUSY 0) = false ∧
      (hosted dram).inService (d.p 40 8) (d.p 48 8) = true ∧ (hosted []).inService (d.p 40 8) (d.p 48 8) = false ∧
      (hosted [(Reg.CHK_BUSY 0, 1)]).on (Reg.CHK_BUSY 0) = true) ∧
    (let k : Ticket := { rid := 0, cpl := 1, fn := 0, epoch := 0, cookie := 0 }
     let x : Scan := { ticket := k, start := 64, len := 1 }
     let s : State := { on [] with scans := [(3, x)] }
     Table.find s.scans 3 = some x ∧ s.dram.poison.find? (fun a => decide (a < x.start + x.len ∧ x.start < a + 64)) = none ∧
      ([64] : List Nat).find? (fun a => decide (a < x.start + x.len ∧ x.start < a + 64)) ≠ none) := by
  unfold State.Accepts; decide +kernel

/-! ## Modes, resets, the boot and take-over -/

/-- An image of 192 bytes for a type: no compatibility entries, 64 bytes of body, a signature of zeros. -/
def imageBytes (kind : Byte) : List Byte :=
  leBytes 4 0x31474449 ++ [kind, 1, 0xB0, 0] ++ leBytes 4 1 ++ List.replicate 4 0 ++ leBytes 4 192 ++ List.replicate 172 0
/-- The directory of a bundle that holds those types one after the other, without its CRC. -/
def directory (l : List Byte) : List Byte :=
  let es := (l.zipIdx).flatMap (fun e => [e.1, 0, 0, 0] ++ leBytes 4 (4096 + 192 * e.2) ++ leBytes 4 192 ++ List.replicate 4 0)
  let d := leBytes 4 0x31444944 ++ leBytes 4 7 ++ leBytes 2 l.length ++ List.replicate 6 0 ++ es
  d ++ List.replicate (4092 - d.length) 0
def bundle (l : List Byte) : List Byte := directory l ++ leBytes 4 (crc32c (directory l)) ++ l.flatMap imageBytes
/-- What Config leaves open of an image: that its signature verifies. -/
def Signed (k : Byte) : Prop := Config.verifies Config.voxniKey ((imageBytes k).take 128) ((imageBytes k).drop 128) = true
theorem crcBit_lt (c : Nat) (h : c < 2 ^ 32) : crcBit crc32cPoly c < 2 ^ 32 := by
  unfold crcBit; split
  · exact Nat.xor_lt_two_pow (by omega) (by decide)
  · omega
theorem crcBytes_lt : ∀ (l : List Byte) (c : Nat), c < 2 ^ 32 → crcBytes crc32cPoly c l < 2 ^ 32
  | [], _, h => h
  | b :: l, c, h => crcBytes_lt l _ (by
    have hb : c ^^^ b.toNat < 2 ^ 32 := Nat.xor_lt_two_pow h (lt_of_lt_of_le b.isLt (by decide))
    exact crcBit_lt _ (crcBit_lt _ (crcBit_lt _ (crcBit_lt _ (crcBit_lt _ (crcBit_lt _ (crcBit_lt _ (crcBit_lt _ hb))))))))
theorem crc32c_lt (l : List Byte) : crc32c l < 2 ^ 32 := Nat.xor_lt_two_pow (crcBytes_lt l _ (by decide)) (by decide)
theorem leNat_leBytes : ∀ n v : Nat, leNat (leBytes n v) = v % 256 ^ n
  | 0, v => by simp [leNat, leBytes, Nat.mod_one]
  | n + 1, v => by
    rw [leBytes, leNat, leNat_leBytes n, pow_succ, Nat.mul_comm (256 ^ n) 256, Nat.mod_mul, BitVec.toNat_ofNat]
theorem padded_length (d : List Byte) (h : d.length ≤ 4092) : (d ++ List.replicate (4092 - d.length) 0).length = 4092 := by
  rw [List.length_append, List.length_replicate]; omega
theorem directory_length : (directory [1, 2, 3, 4]).length = 4092 := padded_length _ (by decide +kernel)
theorem crc_follows (d t : List Byte) (h : d.length = 4092) :
    crc32c ((d ++ leBytes 4 (crc32c d) ++ t).take 4092) = leAt (d ++ leBytes 4 (crc32c d) ++ t) 4092 4 := by
  unfold leAt
  rw [List.append_assoc, List.take_left' h, List.drop_left' h, List.take_left' (by simp [leBytes]), leNat_leBytes]
  exact (Nat.mod_eq_of_lt (crc32c_lt d)).symm
theorem bundle_crc : crc32c ((bundle [1, 2, 3, 4]).take 4092) = leAt (bundle [1, 2, 3, 4]) 4092 4 := crc_follows _ _ directory_length
theorem whole_length (d c t : List Byte) (h : d.length = 4092) (hc : c.length = 4) (ht : t.length = 768) : (d ++ c ++ t).length = 4864 := by
  rw [List.length_append, List.length_append, h, hc, ht]
theorem bundle_length : (bundle [1, 2, 3, 4]).length = 4864 := whole_length _ _ _ directory_length rfl (by decide +kernel)
theorem bundle_form : bundleForm (bundle [1, 2, 3, 4]) = true := by
  have h : leAt (bundle [1, 2, 3, 4]) 0 4 = 0x31444944 ∧ (1 ≤ leAt (bundle [1, 2, 3, 4]) 8 2 ∧ leAt (bundle [1, 2, 3, 4]) 8 2 ≤ 5) ∧
      leAt (bundle [1, 2, 3, 4]) 10 6 = 0 ∧
      (List.range (leAt (bundle [1, 2, 3, 4]) 8 2)).all (fun i => leAt (bundle [1, 2, 3, 4]) (17 + 16 * i) 3 == 0 &&
        leAt (bundle [1, 2, 3, 4]) (28 + 16 * i) 4 == 0) = true ∧
      (bundleEntries (bundle [1, 2, 3, 4])).all (fun e => decide (0 < imgLimit e.1 ∧ e.2.1 % 64 = 0 ∧ e.2.1 + e.2.2 ≤ 4864)) = true ∧
      ((bundleEntries (bundle [1, 2, 3, 4])).map (fun e => e.1)).Nodup := by decide +kernel
  obtain ⟨h1, h2, h3, h4, h5, h6⟩ := h
  have hc := bundle_crc
  have hl := bundle_length
  generalize bundle [1, 2, 3, 4] = b at *
  simp only [bundleForm, hl, h1, h3, hc, beq_self_eq_true, Bool.and_true]
  rw [decide_eq_true h2, h4, h5, decide_eq_true h6]; decide
theorem bundle_images : ∀ k ∈ ([1, 2, 3, 4] : List Byte), bundleImage (bundle [1, 2, 3, 4]) k.toNat = imageBytes k ∧ imgKind (imageBytes k) = k.toNat ∧
    imgForm (imageBytes k) = true ∧ imgLen (imageBytes k) = 192 ∧ k.toNat ≠ 8 ∧ ((imageBytes k).drop 128).take 64 = (imageBytes k).drop 128 ∧
    imgRollback (imageBytes k) = 0 := by decide +kernel
theorem signed_image (s : State) (k : Byte) (hk : k ∈ ([1, 2, 3, 4] : List Byte)) (h : Signed k)
    (hm : s.get (rollbackField k.toNat) = 0) : s.bundleImageCode (bundle [1, 2, 3, 4]) k.toNat = 0 := by
  obtain ⟨hb, hi, hf, hl, hn, hs, hr⟩ := bundle_images k hk
  generalize bundle [1, 2, 3, 4] = b at *
  have hg : s.imgSigned (imageBytes k) = true := by
    unfold State.imgSigned; rw [hi, hl, if_neg hn, hs]; exact h
  unfold State.bundleImageCode State.imgCode
  rw [hb]; dsimp only
  rw [hi, if_neg (by simp), hf, hr, if_neg (by simp), if_neg (by simp [hm]), hg, if_pos rfl]
theorem signed_bundle (s : State) (h : ∀ k ∈ ([1, 2, 3, 4] : List Byte), Signed k)
    (hm : ∀ k ∈ ([1, 2, 3, 4] : List Byte), s.get (rollbackField k.toNat) = 0) : s.bankCode (bundle [1, 2, 3, 4]) = 0 ∧ s.bundleCode (bundle [1, 2, 3, 4]) = 0 := by
  have h1 : s.bundleImageCode (bundle [1, 2, 3, 4]) 1 = 0 := signed_image s 1 (by decide) (h 1 (by decide)) (hm 1 (by decide))
  have h2 : s.bundleImageCode (bundle [1, 2, 3, 4]) 2 = 0 := signed_image s 2 (by decide) (h 2 (by decide)) (hm 2 (by decide))
  have h3 : s.bundleImageCode (bundle [1, 2, 3, 4]) 3 = 0 := signed_image s 3 (by decide) (h 3 (by decide)) (hm 3 (by decide))
  have h4 : s.bundleImageCode (bundle [1, 2, 3, 4]) 4 = 0 := signed_image s 4 (by decide) (h 4 (by decide)) (hm 4 (by decide))
  have he : bundleEntries (bundle [1, 2, 3, 4]) = [(1, 4096, 192), (2, 4288, 192), (3, 4480, 192), (4, 4672, 192)] := by decide +kernel
  have hf := bundle_form
  generalize bundle [1, 2, 3, 4] = b at *
  constructor
  · rw [State.bankCode, hf]; exact h1
  · rw [State.bundleCode, hf, he]; simp only [List.map_cons, List.map_nil, h1, h2, h3, h4]; rfl

/-- An image that was tested with every version 0 image of the other types, and the set of the four. -/
def image (k : Nat) : FwImage := { kind := k, version := 1, compat := [1, 2, 3, 4].map (fun j => (j, 0, 0)), partners := [] }
def tested : Fw := { Fw.reset with images := [(1, image 1), (2, image 2), (3, image 3), (4, image 4)] }
/-- A device whose layout is formed, with lanes 0 and 1 for BRIDGE. -/
def formed (l : List (Field × Nat)) : State :=
  { on ([(Reg.LANE_CFG_MODE 0, 1), (Reg.LANE_CFG_ENABLE 0, 1), (Reg.LANE_STATUS_STATE 0, laneActive), (Reg.LANE_CFG_MODE 1, 1), (Reg.LANE_CFG_ENABLE 1, 1),
      (Reg.LANE_STATUS_STATE 1, laneActive)] ++ l) with dram := { Dram.reset with formed := true }, fw := tested }
def goingTo (m : Nat) (ph : Nat) (back : Bool) (l : List (Field × Nat)) : State :=
  { formed ((Reg.PWR_MODE_STATUS_PHASE, ph) :: l) with
    trans := some { source := 0, target := m, tickets := [], off := [], lanes := [], waves := [], powered := [], back := back } }
/-- A mode request of a writer, as it waits with those of its cycle. -/
def ask (w : Writer) (m : Nat) : ModeAsk := { w := w, target := m, force := false, ticket := none, old := 0, new := 0 }
def asking (l : List ModeAsk) (s : State) : State := { s with sys := { s.sys with asked := l } }
theorem witness_ModesChangeByRequest :
    ((on []).halted = false ∧ (5 < (6 : Fin 16).val) ∧ (on [(Reg.PWR_MODE_STATUS_PHASE, phaseHalted)]).halted = true ∧ viewOf pf = 0 ∧ pf ≠ .debug) ∧
    ((on []).pending = [] ∧ (on []).sys.rstLow = false ∧ (on []).sys.porLow = false ∧ (on []).sys.asked = []) ∧
    ((asking [ask pf 1] (on [])).sys.asked = [ask pf 1] ∧ (asking [ask pf 1] (on [])).modeCode 1 false ≠ 0 ∧
      (asking [ask pf 4] (formed [])).modeCode 4 false = 0) ∧
    ((asking [ask pf 1, ask fw 4] (formed [])).sys.asked = [ask pf 1, ask fw 4] ∧ (ask pf 1).byFirmware = false ∧ (ask fw 4).byFirmware = true ∧
      (asking [ask pf 1, ask fw 4] (formed [])).modeCode 4 false = 0) ∧
    ((on []).mayWrite pf Reg.PWR_MODE_CTRL_TARGET.off = true ∧ (on []).modeCode 1 false ≠ 0 ∧ (formed []).modeCode 4 false = 0) ∧
    ((hosted []).Accepts modeSpec (desc 0 0 5) ∧ (hosted []).modeCode 5 false ≠ 0 ∧
      ({ hosted ((Reg.LANE_CFG_MODE 0, 1) :: (Reg.LANE_CFG_ENABLE 0, 1) :: (Reg.LANE_STATUS_STATE 0, laneActive) :: (Reg.LANE_CFG_MODE 1, 1) ::
        (Reg.LANE_CFG_ENABLE 1, 1) :: [(Reg.LANE_STATUS_STATE 1, laneActive)]) with dram := { Dram.reset with formed := true }, fw := tested } : State).modeCode 4 false = 0) ∧
    ((goingTo 4 phaseDraining false []).phase = phaseDraining ∧ (goingTo 4 phaseDraining false []).dropsSlot 4 = false) ∧
    (goingTo 4 phasePowering false []).phase = phasePowering ∧
    ((goingTo 4 phaseLoading false []).phase = phaseLoading ∧ (goingTo 4 phaseLoading false []).meets 4 = true ∧ (0 : Nat) ≠ modeCatcher) ∧
    ((goingTo 4 phaseLoading true []).mode = modeService) := by
  unfold State.Accepts; decide +kernel
theorem witness_FailedUnitsAreFenced :
    (on []).halted = false ∧ (on []).mode = modeService ∧ UnitId.engine 95 ∉ [UnitId.ringmaster, UnitId.barker, UnitId.housekeeping] ∧
    (on []).isFenced (.engine 95) = false ∧ (on []).activePair < 4 ∧ (on []).pairHealthy (on []).activePair = true ∧
    ((on []).fenceBit (.pair 0)).lowestPair = some 1 ∧ ((on [(Reg.PWR_FENCE_PAIR, 0xE)]).fenceBit (.pair 0)).lowestPair = none := by decide +kernel
def strapped : Boot := { bootSrc := 1, smbAddr := 0, populated := 0xFFFF, failed := [] }
theorem witness_ResetsReturnTheDevice :
    (viewOf pf = 0 ∧ bits (0xA5C30001 : BitVec 32).toNat 31 16 = 0xA5C3 ∧ bit (0xA5C30001 : BitVec 32).toNat 0 = true ∧ (on []).sys.resetAt = none) ∧
    (let s : State := { on [] with sys := { Sys.reset with rstLow := false, resetAt := some 1000 } }
     s.sys.resetAt = some 1000 ∧ 1000 ≤ s.lc ∧ strapped.failed = []) := by decide +kernel
/-- In BOOT, ranks 0 and 1 populated and not trained. -/
def booting (ph : Nat) (l : List (Field × Nat)) : State :=
  { on ((Reg.PWR_MODE_STATUS_PHASE, ph) :: l) with dram := { Dram.reset with populated := 3 } }
theorem bundle_first (s : State) (b : List Byte) (h : s.bankCode b = 0) :
    (bankOrder (some b) none).find? (fun e => s.flashBankCode e.2 == 0) = some (1, some b) := by
  simp only [bankOrder, if_neg (Nat.not_lt_zero _), List.find?_cons, State.flashBankCode, h, beq_self_eq_true]
theorem bundle_fetched (s : State) (b : List Byte) (h : s.bankCode b = 0) (hl : b.length = 4864) (hr : s.get Reg.FW_PCIE_ADDR_LO % 64 = 0) :
    s.pcieCode (bits (0x80001300 : BitVec 32).toNat 24 0) (some b) = 0 := by
  rw [show bits (0x80001300 : BitVec 32).toNat 24 0 = 4864 from by decide]
  simp only [State.pcieCode, hr, List.take_of_length_le (le_of_eq hl), h]; decide
/-- A bundle boots from flash, and over PCIe, where the signatures of its images verify. -/
theorem witness_ABundleBoots (h : ∀ k ∈ ([1, 2, 3, 4] : List Byte), Signed k) :
    ((bankOrder (some (bundle [1, 2, 3, 4])) none).find? (fun e => (booting phaseBoot []).flashBankCode e.2 == 0) = some (1, some (bundle [1, 2, 3, 4]))) ∧
    (booting phaseBootWait [(Reg.PWR_BOOT_BOOT_STRAP, 1)]).pcieCode (bits (0x80001300 : BitVec 32).toNat 24 0) (some (bundle [1, 2, 3, 4])) = 0 :=
  ⟨bundle_first _ _ (signed_bundle _ h (by decide +kernel)).1,
   bundle_fetched _ _ (signed_bundle _ h (by decide +kernel)).1 bundle_length (by decide +kernel)⟩
theorem witness_TheDeviceBoots :
    (State.reset.sys.rstLow = true ∧ State.reset.sys.porLow = false ∧ strapped.failed = [] ∧ State.reset.lowestPair = some 0 ∧
      ({ Sys.reset with porLow := true } : Sys).porLow = true) ∧
    (({ State.reset with sys := { Sys.reset with rstLow := false, porLow := true } } : State).lowestPair = some 0) ∧
    ((booting phaseBoot []).phase = phaseBoot ∧ (booting phaseBoot []).sys.rstLow = false ∧ (booting phaseBoot []).on Reg.PWR_BOOT_BOOT_USED = false ∧
      (booting phaseBoot []).flashBankCode none ≠ 0 ∧ (booting phaseBoot [(Reg.PWR_BOOT_BOOT_STRAP, 0)]).flashBankCode (some []) ≠ 0) ∧
    ((booting phaseBootWait []).mayWrite pf Reg.FW_PCIE_CTRL_LEN.off = true ∧ bit (0x80000000 : BitVec 32).toNat 31 = true ∧
      (booting phaseBootWait [(Reg.PWR_BOOT_BOOT_STRAP, 1)]).get Reg.PWR_BOOT_BOOT_STRAP < 2 ∧ (booting phaseBootWait []).pcieCode 0 none ≠ 0) ∧
    (let s := booting phaseBoot [(Reg.DMC_RANK_STATE_STATE 0, rankTraining), (Reg.DMC_RANK_STATE_STATE 1, rankTraining)]
     bit s.dram.populated 0 = true ∧ bit s.dram.trained 0 = false ∧ s.rankState 0 = rankTraining ∧ s.phase = phaseBoot ∧ bit s.dram.populated 1 = true ∧
      bit s.dram.trained 1 = false ∧ s.rankState 1 ≠ rankRetired) ∧
    (let s : State := { on dom0 with sys := { Sys.reset with rstLow := false, stable := true } }
     s.sys.started = false ∧ s.sys.stable = true ∧ s.servo s.activeDom = servoLocked) := by decide +kernel
def catcher (st : Nat) : List (Field × Nat) :=
  [(Reg.PWR_MODE_STATUS_CUR_MODE, modeCatcher), (Reg.TRP_STATUS_STATE, st), (Reg.TRP_STATUS_ROLE, 2), (Reg.TRP_CTRL_PIN_EN, 1), (Reg.TRP_CTRL_DESC_EN, 1)]
def take (r : Option Nat) : Take := { start := 900, tickets := [], syncing := false, ready := r, sent := 0, spoiled := 0 }
theorem witness_TakeOverRuns :
    ((on [(Reg.TRP_CTRL_PIN_EN, 1)]).halted = false ∧ (on [(Reg.TRP_CTRL_PIN_EN, 1)]).on Reg.TRP_CTRL_PIN_EN = true ∧ (on []).mode ≠ modeCatcher) ∧
    (let s := on (catcher trpReady)
     s.halted = false ∧ s.on Reg.TRP_CTRL_PIN_EN = true ∧ s.mode = modeCatcher ∧ s.trp.take = none ∧ s.phase = phaseStable ∧ s.trpState = trpReady ∧
      (asking [ask pf 1] s).sys.asked ≠ []) ∧
    (let s := on (catcher trpSyncing)
     s.mode = modeCatcher ∧ s.trpState ≠ trpReady ∧ s.trp.ended = false) ∧
    ((hosted [(Reg.TRP_CTRL_DESC_EN, 0)]).Accepts takeSpec (desc 0 0 0) ∧ (hosted [(Reg.TRP_CTRL_DESC_EN, 0)]).on Reg.TRP_CTRL_DESC_EN = false ∧ (hosted (catcher trpReady)).Accepts takeSpec (desc 0 0 0) ∧
      (hosted (catcher trpReady)).on Reg.TRP_CTRL_DESC_EN = true ∧ (hosted [(Reg.TRP_CTRL_DESC_EN, 1)]).mode ≠ modeCatcher) ∧
    (({ on (catcher trpTaking) with trp := { Trp.reset with take := some (take none) } } : State).trp.take = some (take none) ∧ (take none).ready = none ∧
      (on (catcher trpTaking)).halted = false ∧ (on ((Reg.PWR_MODE_STATUS_PHASE, phaseHalted) :: catcher trpTaking)).halted = true ∧
      (take (some 950)).ready = some 950) := by
  unfold State.Accepts; decide +kernel

/-! ## Trapeze -/

/-- Paired over lanes 0 and 1, in a role. -/
def pairedIn (role : Nat) (l : List (Field × Nat)) : List (Field × Nat) :=
  [(Reg.TRP_CTRL_ENABLE, 1), (Reg.TRP_CTRL_MIRROR_LANES, 3), (Reg.TRP_STATUS_ROLE, role)] ++ laneOn 0 5 laneActive ++ laneOn 1 5 laneActive ++ l
def hello (role : BitVec 8) : Hello := { part := 0x2408, role := role, state := 0, set := 0, key := 0, seq := 1, sets := [] }
def partner : Partner := { part := 0x4816, role := 2, state := 0, set := 0, key := 0, seq := 1, sets := [] }
theorem witness_PairingHeartbeatAndRotationAct :
    ((on []).mayWrite pf Reg.TRP_CTRL_ENABLE.off = true ∧ (on []).trpCtrlCode 1 ≠ 0 ∧ (on (laneOn 0 5 0 ++ laneOn 1 5 0)).trpCtrlCode 0x80000003 = 0) ∧
    (on []).mirrorLanes = [] ∧
    (let s := withLane 0 { Lane.reset with control := 4 } (on ((Reg.TRP_CTRL_MIRROR_LANES, 1) :: pairedIn 1 [(Reg.TRP_CTRL_MIRROR_LANES, 1)]))
     s.mirrorLanes = [0] ∧ (s.lane 0).held = [] ∧ 4 ≤ (s.lane 0).control) ∧
    (let s := on (pairedIn 2 [(Reg.TRP_STATUS_STATE, trpWait)])
     s.mirrorLanes.contains 1 = true ∧ s.trpRole = 2 ∧ s.trpState = trpWait ∧ (hello 1).role = 1 ∧ s.unfitMask (hello 1) ≠ 0 ∧
      ({ s with fw := { Fw.reset with images := [(1, { image 1 with partners := [0] })] } } : State).unfitMask (hello 1) = 0) ∧
    ({ Trp.reset with partner := some partner } : Trp).partner.isSome = true ∧
    (let s : State := { on (pairedIn 1 []) with trp := { Trp.reset with pet := some 1000 } }
     s.trp.pet = some 1000 ∧ s.paired = true ∧ s.halted = false ∧ s.lc ≤ 1000 + 2 * s.get Reg.TRP_HB_PERIOD_US * ticksPerUs) ∧
    ((on []).phase = phaseStable ∧ (on []).trp.take = none ∧ (on []).trp.turn = none ∧
      (((List.range 31).map (fun k => ((on []).trp.turnNext + k) % 31)).find? (on []).groupTested).isSome = true) ∧
    ({ Trp.reset with turn := some 30 } : Trp).turn = some 30 ∧ (hosted []).Accepts healthSpec (descBuf 0 0 64 none) := by
  unfold State.Accepts
  refine ⟨?_, ?_, ?_, ?_, ?_, ?_, ?_, ?_, ?_⟩ <;> decide +kernel
def mirrorRec : MirrorRec := .syncStart
def covered : EgFrame := { frame with row := some (0, 5, 2), cover := some (rowOrder 5 2) }
theorem witness_TheFlyerAnswers :
    (let s := on (pairedIn 1 [])
     s.fliesOn 0 = true ∧ later32 (s.get Reg.TRP_ACK) 5 = false) ∧
    ((on (pairedIn 1 [])).fliesOn 0 = true ∧ bit (8 : BitVec 4).toNat (3 : Fin 4) = true ∧
      bit ((on (pairedIn 1 [])).get Reg.SAF_CMP_DIVERGED) (3 : Fin 4) = false) ∧
    (let s : State := { on (pairedIn 1 [(Reg.TRP_STATUS_PARTNER_READY, 1)]) with
        egr := { State.reset.egr with queues := [(0, [covered])] }, trp := { Trp.reset with partner := some partner } }
     s.egr.queues = [(0, [covered])] ∧ covered.row = some ((0 : Fin 4).val, 5, (2 : Fin 64).val) ∧ 5 % 2 ^ 32 = (5 : BitVec 32).toNat ∧
      covered.eligible = true ∧ covered.cover = some (rowOrder 5 2) ∧ s.gated = true ∧ s.flying = true) ∧
    (let s := withLane 0 { Lane.reset with mirror := 512 } { on (pairedIn 1 []) with trp := { Trp.reset with sent := [(1, mirrorRec)] } }
     s.fliesOn 0 = true ∧ s.trp.sent.find? (fun e => e.1 == 1) = some (1, mirrorRec) ∧ s.mirrorPick mirrorRec.slots = some 0) := by decide +kernel
def heldConfig : List (Field × Nat) := dram ++ pairedIn 2 [(Reg.SAF_CMP_AVAILABLE, 1)]
/-- A policy package of 128 bytes for slot 3, SEQ 1, its canvas the slot's. -/
def policyPackage (c : Nat × Nat) : List Byte :=
  [1, 0, 1, 8] ++ leBytes 8 1 ++ List.replicate 20 0 ++ leBytes 2 c.1 ++ leBytes 2 c.2 ++ [0, 0, 0, 8] ++ leBytes 4 0 ++ leBytes 4 128 ++ List.replicate 80 0
/-- A Catcher with an enrolled key whose slot 3 has its area and is configured. -/
def safHeld : State := { on (heldConfig ++ [(Reg.ENC_BS_RUN_STATE 3, slotStopped), (Reg.SAF_SLOT_AREA_BASE 3, 4096)]) with safKey := some 1 }
/-- The package is accepted where its signature verifies, which Config leaves open. -/
theorem witness_TheCatcherHoldsAPackage
    (h : Config.verifies 1 ((policyPackage (safHeld.canvas 3)).take 64) ((policyPackage (safHeld.canvas 3)).drop 64) = true) :
    safHeld.catches = true ∧ safHeld.peerNew = true ∧ safHeld.pkgCode 3 (policyPackage (safHeld.canvas 3)) = 0 := by
  have hk : safHeld.safKey = some 1 := rfl
  have hf : safHeld.pkgForm 3 (policyPackage (safHeld.canvas 3)) = true := by decide +kernel
  have hl : (policyPackage (safHeld.canvas 3)).length - 64 = 64 := by decide +kernel
  have hs : ¬ pkgSeq (policyPackage (safHeld.canvas 3)) ≤ (safHeld.saf 3).lastSeq := by decide +kernel
  have hp : pkgPanels (policyPackage (safHeld.canvas 3)) = [] := by decide +kernel
  have hn : pkgKind (policyPackage (safHeld.canvas 3)) ≠ 0 := by decide +kernel
  have ha : safHeld.get (Reg.SAF_SLOT_AREA_BASE 3) ≠ 0 := by decide +kernel
  refine ⟨by decide +kernel, by decide +kernel, ?_⟩
  simp [State.pkgCode, hk, hf, hl, h, hs, hp, hn, ha]
/-- A Catcher that compares the lines of picture 1 of slot 0, and has asked for message 7 again. -/
def comparing : State := { on heldConfig with trp := { Trp.reset with lines := [(0, 1, 0)], asked := [7] } }
/-- The record of line 0 with a CRC. -/
def lineRecord (c : Nat) : SafLines := { pic := 1, state := 0, first := 0, seq := 0, crcs := [BitVec.ofNat 32 c] }
theorem witness_ALineAgreesOrDiffers :
    (comparing.catches = true ∧ comparing.on Reg.SAF_CMP_AVAILABLE = true ∧ comparing.peerNew = true ∧ (comparing.heldPresent 0 1).isSome = true ∧
      comparing.trp.lines.any (fun e => e.1 == 0 && e.2.1 == 1) = true ∧ (0 : Nat) = (comparing.saf 0).shownSeq % 2 ^ 32 ∧ 0 = (comparing.saf 0).shownState) ∧
    (BitVec.ofNat 32 (comparing.safLineCrc 0 0)).toNat = comparing.safLineCrc 0 0 ∧
    (BitVec.ofNat 32 (comparing.safLineCrc 0 0 + 1)).toNat ≠ comparing.safLineCrc 0 0 := by
  have h : comparing.safLineCrc 0 0 < 2 ^ 32 := crc32c_lt _
  generalize comparing.safLineCrc 0 0 = c at h
  refine ⟨by decide +kernel, ?_, ?_⟩ <;> rw [BitVec.toNat_ofNat] <;> omega
theorem witness_TheCatcherHoldsTheStream :
    ((on heldConfig).catches = true ∧ (on heldConfig).mirrorLanes.contains 1 = true ∧ (1 : BitVec 32).toNat = (on heldConfig).trp.got ∧
      later32 2 (on heldConfig).trp.got = true ∧ 2 ∉ (on heldConfig).trp.ahead) ∧
    (((Reg.fieldsAt 0 (0x440204 : BitVec 32).toNat).getD []).map (fun f => fieldKey (bank 5 f))).Nodup ∧
    ((on heldConfig).peerNew = true ∧
      (let s : State := { on heldConfig with trp := { Trp.reset with partner := some { partner with part := 0x2408 } } }
       s.catches = true ∧ s.peerNew = false)) ∧
    ((on heldConfig).safAreaMeets 4096 512 = none ∧ (4096 : BitVec 39).toNat / 512 * 512 = 4096 ∧ (on heldConfig).inService 4096 512 = true ∧
      (on (pairedIn 2 [])).catches = true ∧ (on (pairedIn 2 [])).inService 4096 1 = false) ∧
    ((on heldConfig).trp.rows = [] ∧ (on heldConfig).pkgCode 3 [] ≠ 0) ∧
    (let s := on (heldConfig ++ [(Reg.TRP_STATUS_STATE, trpSyncing)])
     s.catches = true ∧ s.trpState = trpSyncing ∧ s.heldRunning = []) ∧ (on (heldConfig ++ [(Reg.TRP_STATUS_STATE, trpReady)])).trpState = trpReady ∧
    ((on heldConfig).on Reg.SAF_CMP_AVAILABLE = true ∧ ((0 : Fin 4).val, (1 : BitVec 32).toNat, (0 : Fin 64).val) ∉ (on heldConfig).trp.lines ∧
      128 * (0 : Fin 64).val < ((on heldConfig).canvas 0).2) ∧
    (7 : BitVec 32).toNat ∈ comparing.trp.asked := by
  refine ⟨?_, ?_, ?_, ?_, ?_, ?_, ?_, ?_, ?_⟩ <;> decide +kernel

/-! ## Firmware, the Ledger, housekeeping and launches -/

def update (k : Nat) (l : List Nat) : Update := { kind := k, image := image k, ticket := { rid := 0, cpl := 1, fn := 0, epoch := 0, cookie := 0 }, left := l }
theorem witness_ImagesAreStagedAndActivated :
    ((hosted []).Accepts stageSpec (descBuf 0 0 64 (some [1])) ∧ (hosted []).imgCode [1] ≠ 0) ∧
    ((hosted []).Accepts stageSpec (descBuf 0 0 192 (some (imageBytes 8))) ∧ (hosted []).imgCode (descBuf 0 0 192 (some (imageBytes 8))).bytes = 0) ∧
    ((hosted []).Accepts activateSpec (desc 0 0 4) ∧ (hosted []).activateCode 4 ≠ 0 ∧
      (let s : State := { hosted [] with fw := { tested with pending := [(4, image 4)] } }
       s.activateCode 4 = 0 ∧ Table.find s.fw.pending 4 = some (image 4) ∧ runsSlots s.mode = false)) ∧
    (let s : State := { hosted [(Reg.PWR_MODE_STATUS_CUR_MODE, 1)] with fw := { tested with pending := [(2, image 2), (3, image 3)] } }
     s.activateCode 2 = 0 ∧ s.activateCode 3 = 0 ∧ runsSlots s.mode = true ∧ s.toReload 3 (List.range 16) ≠ []) ∧
    (let s : State := { on [(Reg.JUG_CTRL_DRAINED, 0x80)] with fw := { tested with update := some (update 2 [7]) } }
     s.halted = false ∧ (update 2 [7]).left = 7 :: [] ∧ bit (s.get Reg.JUG_CTRL_DRAINED) 7 = true) ∧
    (let s : State := { on [] with fw := { tested with update := some (update 3 [0, 1]) } }
     s.toReload 3 [1] ≠ [] ∧ s.toReload 3 [] = [] ∧ reloadUnit 3 0 = some (.link 0) ∧ s.isFenced (.link 0) = false ∧ s.mode = modeService ∧
      ([1, 0] : List Nat).contains s.activePair = true) ∧
    ((hosted []).Accepts flashSpec (descData 0 0 0 [1]) ∧ (hosted []).flashCode 1 [1] false ≠ 0) ∧
    ((hosted []).Accepts (fuseSpec (desc 0 0 0x00050102)) (desc 0 0 0x00050102) ∧ (hosted [(Reg.PWR_MODE_STATUS_CUR_MODE, 1)]).mode ≠ modeService ∧
      (hosted []).mode = modeService ∧ (desc 0 0 0x00050102).p 32 1 ≠ 1 ∧ ¬ ((desc 0 0 0x00050102).p 34 1 < (hosted []).get (rollbackField 1))) ∧
    (let d := descData 0 0 1 (List.replicate 64 7)
     (hosted []).Accepts (fuseSpec d) d ∧ d.p 32 1 = 1 ∧ (hosted []).fw.owner = none ∧
      ({ hosted [] with fw := { Fw.reset with owner := some 1 } } : State).fw.owner.isSome = true) := by
  unfold State.Accepts
  refine ⟨?_, ?_, ?_, ?_, ?_, ?_, ?_, ?_, ?_⟩ <;> decide +kernel
/-- A bundle of signed images may be written to flash. -/
theorem witness_ABundleIsWritten (h : ∀ k ∈ ([1, 2, 3, 4] : List Byte), Signed k) : (hosted []).flashCode 4864 (bundle [1, 2, 3, 4]) true = 0 :=
  (if_neg (by decide)).trans ((if_neg (by decide)).trans (signed_bundle _ h (by decide +kernel)).2)
theorem witness_TheLedgerIsReadAndPlaced :
    (let e : LedgerEntry := { dtSec := 0, dtNs := 0, origin := 0, kind := 0, hash := false, originIndex := 0, code := 0, object := 0, old := 0, new := 1,
                              seq := 1, tick := 0 }
     let s : State := { hosted [] with ledger := { State.reset.ledger with buffer := [e] } }
     let d := descBuf 0 0 32 (some [0, 0, 0, 0])
     s.Accepts ldgReadSpec d ∧ (s.ledgerHeld.dropWhile (fun e => later32 (leAt d.bytes 0 4) e.seq)).take (d.p 40 4 / 32) ≠ []) ∧
    ((hosted []).Accepts ldgReadSpec (descBuf 0 0 32 (some [0, 0, 0, 0]))) ∧
    ((on []).mayWrite pf Reg.LDG_RING_LOG2.off = true ∧ (on []).ringValueOk 0 = true ∧ (on dram).ringValueOk (10 * 2 ^ 27) = true ∧
      (on dram).ringValueOk (9 * 2 ^ 27) = false ∧ (on dram).ringValueOk (25 * 2 ^ 27) = false) := by
  unfold State.Accepts; decide +kernel
theorem witness_HousekeepingActs :
    (on [(Reg.PWR_AVS_EN, 1)]).on Reg.PWR_AVS_EN = true ∧ (on []).on Reg.PWR_AVS_EN = false ∧ (on []).mayWrite pf Reg.PWR_AVS_EN.off = true ∧
    (on []).mayWrite pf (Reg.THM_THRESH_SHUTDOWN_C.off + 4 * (2 : Fin 3).val) = true ∧ (on []).thmCode 1 0x4000000F = 0 ∧ (on []).thmCode 1 0x4000001F ≠ 0 ∧ (on []).thmCode 1 0 ≠ 0 := by decide +kernel
theorem witness_TheSidebandAnswers : (on []).smbAnswers 0x58 = true ∧ (on []).smbAnswers 0x59 = false := by decide +kernel
def fired (q : QLaunch) : List QLaunch := [{ q with instant := 1000 }]
theorem witness_LaunchesFire :
    (let s := withQueue 0 (fired (launch 7)) (on [])
     launchOf (.compositionStart 0) = some (0, [1]) ∧ s.queue 0 = { launch 7 with instant := 1000 } :: [] ∧ ([1] : List Nat).contains (launch 7).kind = true ∧
      s.firesNow 0 = true ∧ s.lowerWaits 0 = false ∧ s.past 0 1000 = false ∧ (launch 7).act = .firmware ∧ s.past 0 999 = true) ∧
    (let s := withQueue 160 (fired { launch 7 with kind := 5, instant := 999 }) (on [])
     launchOf (.presentation 0) = some (160, [5]) ∧ s.lowerWaits 160 = false) ∧
    (let s := withQueue 263 (fired { launch 7 with kind := 0xF }) (on [])
     launchOf (.genericEvent 263) = some (263, [0xF]) ∧ s.firesNow 263 = true) := by decide +kernel
/-- A launch that fires now, at the head of a unit's queue. -/
def firing (u kind : Nat) (act : LaunchAct) (s : State) : State :=
  withQueue u [{ kind := kind, ref := 0, tag := 1, instant := s.lc, accepted := 900, act := act }] s
/-- Whether it fires in time with no launch of a lower unit before it. -/
def fires (u kind : Nat) (act : LaunchAct) (s : State) : Bool :=
  (firing u kind act s).firesNow u && !((firing u kind act s).lowerWaits u) && !((firing u kind act s).past 0 s.lc)
theorem witness_LaunchesFireByAct :
    (fires 0 1 (.timed 0 nopDesc (taken nopSpec nopDesc (hosted [])).1) (hosted []) = true ∧
      ((hosted []).fn 0).epoch = (taken nopSpec nopDesc (hosted [])).1.epoch ∧ ((hosted []).ring (taken nopSpec nopDesc (hosted [])).1.cpl).isSome = true) ∧
    fires 0 1 (.composition 0 5) (on []) = true ∧
    (let s := withPic encPic (on [])
     fires 16 2 (.encodeRow 0 5 0) s = true ∧ (s.slot 0).pics.find? (fun y => y.n == 5) = some encPic ∧ 0 < encPic.rows.length) ∧
    fires 128 3 (.release 0 5 0) (on []) = true ∧ fires 144 4 (.gate 0 0) (on []) = true ∧
    (let s : State := { on [(Reg.DEC_BS_JOINED 0, 1)] with slots := [(0, { Slot.reset with dec := { Dec.reset with pics := [decPic], nextId := 2 } })] }
     fires 16 7 (.decodeRow 0 1 0) s = true ∧ s.decPic 0 1 = some decPic ∧ decPic.nextRow = 0 ∧ 1 < (s.dec 0).nextId ∧ s.on (Reg.DEC_BS_JOINED 0) = true ∧
      decPic.idle = false ∧ decPic.ts.isSome = true) ∧
    (let s := scanning (some loadFrame) []
     fires 160 5 (.present 0 0) s = true ∧ s.scnState 0 = scnRun ∧ s.scnMem 0 = true ∧ (s.scn 0).frame = some loadFrame ∧ loadFrame.pic = 0 ∧
      fires 160 8 (.frameStart 0 1) s = true) ∧
    (let s := scanning none [(Reg.SCN_LANE_STATUS_STATE 0, scnTransition)]
     fires 160 8 (.frameStart 0 1) s = true ∧ s.scnMem 0 = true ∧ s.scnState 0 = scnTransition ∧ (s.scn 0).skipped = false) ∧
    (let s := on (audio ++ [(Reg.AUD_OUT_ENABLE 16, 1)])
     fires 208 6 (.sample 16) s = true ∧ launchOf (.sampleRelease 16) = some (208, [6]) ∧ s.audioOn = true ∧ s.on (Reg.AUD_OUT_ENABLE 16) = true) ∧
    (let s := tasked [(1, task .waiting 0)]
     fires 127 0xF .firmware s = true ∧ Table.find s.tasks 1 = some (task .waiting 0) ∧ (task .waiting 0).state ≠ .faulted) ∧
    (let s : State := { on [(Reg.TIM_DOM_ENABLE 0, 1)] with
        tim := { Tim.reset with queues := [(0, fired (launch 7)), (1, fired (launch 7))] } }
     s.firesNow 1 = true ∧ s.lowerWaits 1 = true ∧ s.domEnabled s.activeDom = true) := by
  refine ⟨?_, ?_, ?_, ?_, ?_, ?_, ?_, ?_, ?_, ?_, ?_⟩ <;> decide +kernel
theorem witness_CommandsChangeOnlyWhatTheyName : (mayChange (.snap pf)).isSome = true ∧ runs (.snap pf) (on []) = true ∧
    (mayChange (.videoPacketRx 0 0 video)).isSome = true := by decide +kernel
theorem witness_CommandsOfOneUnitKeepTheOthers : runs (.penOwnerWrite pf 255 true 31) (on []) = true ∧ runs (.chkScanDone 3) (on []) = true ∧
    runs (.laneMacWrite pf 15 true 0) (on []) = true ∧ runs (.trnOpDone 7 []) (on []) = true := by decide +kernel
theorem witness_StoringCommandsKeepOtherBytes :
    (let s : State := { on receivingVideo with rx := [(0, { Rx.reset with pics := [openPic] })] }
     seen (.videoPacketRx 0 0 video) s (fun t => (t.mem.length, Memory.read t.mem 1)) = some (4, 2)) ∧
    (∀ k, State.reset.capMask k = 0 ∧ (State.reset.audIn k).part = []) ∧ runs (.surfRecord 4096 [1] false) (on heldConfig) = true := by
  refine ⟨by decide +kernel, fun k => ⟨by unfold State.capMask; split <;> rfl, rfl⟩, by decide +kernel⟩

/-! ## Slots that start and commit -/

/-- Encode slot 3 STOPPED in HEAD with 1920 × 1080 at 30 Hz in force and a delay of 100 ms, under a locked domain 0. -/
def startable : List (Field × Nat) := dom0 ++ [(Reg.PWR_MODE_STATUS_CUR_MODE, 1), (Reg.ENC_BS_RUN_STATE 3, slotStopped),
  (bank 1 (Reg.ENC_BS_SIZE_WIDTH 3), 1920), (bank 1 (Reg.ENC_BS_SIZE_HEIGHT 3), 1080), (bank 1 (Reg.ENC_BS_FORMAT_RATE 3), 4),
  (bank 1 (Reg.ENC_BS_SP_W 3), 4), (bank 1 (Reg.ENC_BS_SP_H 3), 4), (bank 1 (Reg.ENC_BS_TOOLS_FACE_MASK 3), 0xFFFF),
  (bank 1 (Reg.ENC_BS_COLS_PER_ENG 3), 4), (bank 1 (Reg.ENC_BS_D_NS 3), 100000000)]
/-- What a START that does not set FREERUN_OK and AUTOSTART writes beside CMD. -/
def begun (s : State) : State := s.setAll [(Reg.ENC_BS_RUN_FREERUN_OK 3, 0), (Reg.ENC_BS_RUN_AUTOSTART 3, 0)]
theorem witness_SlotStartAllocatesOrRefuses :
    (on startable).mayWrite pf (Reg.ENC_BS_RUN_CMD 3).off = true ∧ (on startable).mayCommand 3 pf = true ∧
    (on [(Reg.HIF_SLOT_OWNER_SLOT3, 5)]).mayCommand 3 pf = false ∧ (begun (on startable)).startCode 3 false = 0 ∧
    (begun (on [])).startCode 3 false = 0x1305 ∧ (begun (on ((Reg.PWR_FENCE_FACE, 0xFFFE) :: startable ++ [(bank 1 (Reg.ENC_BS_TOOLS_FACE_MASK 3), 2)]))).startCode 3 false = 0x2801 ∧
    (0x2801 : Nat) < 2 ^ 16 := by decide +kernel
/-- Decode slot 3 written for a 3840 × 2160 VVC stream, whole, its area at page 4096. -/
def declared : List (Field × Nat) := dram ++ [(Reg.ENC_BS_FORMAT_KIND 3, 1), (Reg.ENC_BS_COLS_PER_ENG 3, 4), (Reg.DEC_BS_WIDTH 3, 3840),
  (Reg.DEC_BS_HEIGHT 3, 2160), (Reg.DEC_BS_RATE 3, 5), (Reg.DEC_BS_SP_W 3, 5), (Reg.DEC_BS_SP_H 3, 4), (Reg.DEC_BS_WIN_COLS 3, 6),
  (Reg.DEC_BS_WIN_ROWS 3, 5), (Reg.DEC_BS_OUT_W 3, 3840), (Reg.DEC_BS_OUT_H 3, 2160), (Reg.DEC_BS_SBUF_LOG2 3, 20), (Reg.DEC_BS_LOAD_US 3, 1000),
  (Reg.DEC_BS_AREA_BASE 3, 4096)]
theorem witness_SlotsStopAndCommit_accepted : refuses ((begun (on declared)).commitCode 3) = false ∧ (on declared).slotState 3 = slotIdle ∧
    (begun (on (declared ++ [(Reg.DEC_BS_WIDTH 3, 1)]))).mayCommand 3 pf = true ∧
    refuses ((begun (on (declared ++ [(Reg.DEC_BS_WIDTH 3, 1)]))).commitCode 3) = true := by decide +kernel

end Sys2Proof.Tests
end

/-! # Proofs: frames by name

`Keeps` says by one number what an operation may change; `State.Only` says it by the names of fields and parts. The number
of a list of names carries a law of `Keeps` over to its frame. -/

section
namespace Sys2Proof.Machine

theorem testBit_foldl_setBit (l : List Nat) (m j : Nat) :
    (l.foldl (fun m i => m ||| 2 ^ i) m).testBit j = (m.testBit j || decide (j ∈ l)) := by
  induction l generalizing m with
  | nil => simp
  | cons i l ih => simp [ih, Nat.testBit_or, Nat.testBit_two_pow, Bool.or_assoc, eq_comm]

/-- The one bits of a mask are the listed ones. -/
theorem testBit_maskOf (l : List Nat) (j : Nat) : (maskOf l).testBit j = decide (j ∈ l) := by
  unfold maskOf
  rw [testBit_foldl_setBit, Nat.zero_testBit, Bool.false_or]

/-- The parts stand in `allParts` at their bits. -/
theorem Part.getElem_allParts (p : Part) : allParts[p.index]? = some p := by cases p <;> rfl

theorem Part.index_injective : Function.Injective Part.index := fun p q h =>
  Option.some.inj (by rw [← p.getElem_allParts, h, q.getElem_allParts])

theorem Part.index_lt (p : Part) : p.index < 64 := by cases p <;> decide

/-- The number that stands for register fields and parts, by name. -/
def frameMask (m : List Nat × List Part) : Nat := maskOf (m.1.map (64 + ·) ++ m.2.map Part.index)

theorem testBit_frameMask_part {m : List Nat × List Part} {p : Part} (h : p ∉ m.2) :
    (frameMask m).testBit p.index = false := by
  have hp := p.index_lt
  rw [frameMask, testBit_maskOf, decide_eq_false_iff_not, List.mem_append, List.mem_map_of_injective Part.index_injective,
    List.mem_map]
  rintro (⟨i, -, hi⟩ | hm)
  · omega
  · exact h hm

theorem testBit_frameMask_field {m : List Nat × List Part} {n : Nat} (h : n ∉ m.1) :
    (frameMask m).testBit (64 + n) = false := by
  rw [frameMask, testBit_maskOf, decide_eq_false_iff_not, List.mem_append, List.mem_map, List.mem_map]
  rintro (⟨i, hi, e⟩ | ⟨p, -, e⟩)
  · exact h (Nat.add_left_cancel e ▸ hi)
  · have := p.index_lt
    omega

/-- An operation changes only what is named when its number is within that of the names. -/
theorem Keeps.only_of_within {w : Nat} {m : List Nat × List Part} {s t : State} (k : Keeps w s t)
    (h : within w (frameMask m) = true) : s.Only m.1 m.2 t := by
  have km := k.mono h
  refine ⟨km.queue, km.sent, fun f hf hl => km.regs f ?_, fun p hp => km.same p (testBit_frameMask_part hp)⟩
  rw [Nat.mod_eq_of_lt hl]
  exact testBit_frameMask_field hf

/-- A log entry of a write changes the fields and parts of the Ledger and of its events, and nothing else. -/
theorem State.logReg_only (s : State) (w : Writer) (off : Nat) (code : Code) (old new : Nat) :
    s.Only loggedFields (loggedParts ++ [.mirrorQ]) (s.logReg w off code old new) :=
  (State.logReg_keeps (m0 := frameMask (loggedFields, loggedParts ++ [.mirrorQ])) (.refl _ s) (by decide)).only_of_within
    (m := (loggedFields, loggedParts ++ [.mirrorQ])) (beq_iff_eq.2 (Nat.or_self _))

end Sys2Proof.Machine
end

/-! # Proofs: what each command may change -/

section
namespace Sys2Proof.Machine

/-- What a command did stays within its law of `Keeps`, whose number names nothing beyond what `mayChange` names for it. -/
inductive Framed (c : Instr) (s t : State) : Prop
  | named {w : Nat} {m : List Nat × List Part} (kept : Keeps w s t) (names : mayChange c = some m)
      (covers : within w (frameMask m) = true)
  | unnamed {w : Nat} (kept : Keeps w s t) (names : mayChange c = none)

theorem Framed.sound {c : Instr} {s t : State} (h : Framed c s t) (hs : s.Sound) : t.Sound := by
  cases h with
  | named kept _ _ => exact kept.sound hs
  | unnamed kept _ => exact kept.sound hs

theorem Framed.only {c : Instr} {s t : State} {m : List Nat × List Part} (h : Framed c s t) (hm : mayChange c = some m) :
    s.Only m.1 m.2 t := by
  cases h with
  | named kept names covers =>
    obtain rfl := Option.some.inj (names.symm.trans hm)
    exact kept.only_of_within covers
  | unnamed _ names => exact absurd (names.symm.trans hm) (Option.some_ne_none m).symm

set_option maxRecDepth 8000 in
/-- Every command stays within its frame: the law of its meaning, command by command. The match has one arm for each of the 268
commands, which takes more than the usual recursion depth to elaborate. -/
theorem exec_framed {s t : State} : ∀ {c : Instr}, exec c s = .next t → Framed c s t
  | .registerWrite .., e => .unnamed (execRegisterWrite_keeps e) rfl
  | .lowWordRead .., e => .named (execLowWordRead_keeps e) rfl (by decide +kernel)
  | .timDomClr .., e => .named (execTimDomClr_keeps e) rfl (by decide +kernel)
  | .timLateClr .., e => .named (execTimLateClr_keeps e) rfl (by decide +kernel)
  | .encLateClr .., e => .unnamed (execEncLateClr_keeps e) rfl
  | .pwrCntClr .., e => .unnamed (execPwrCntClr_keeps e) rfl
  | .hifFnClr .., e => .unnamed (execHifFnClr_keeps e) rfl
  | .ingLaneClr .., e => .unnamed (execIngLaneClr_keeps e) rfl
  | .ingRxClr .., e => .unnamed (execIngRxClr_keeps e) rfl
  | .cmpSlotClr .., e => .unnamed (execCmpSlotClr_keeps e) rfl
  | .safClr .., e => .unnamed (execSafClr_keeps e) rfl
  | .encEffortCntClr .., e => .unnamed (execEncEffortCntClr_keeps e) rfl
  | .encBsClr .., e => .unnamed (execEncBsClr_keeps e) rfl
  | .encPktClr .., e => .unnamed (execEncPktClr_keeps e) rfl
  | .decBsClr .., e => .unnamed (execDecBsClr_keeps e) rfl
  | .rcBsClr .., e => .unnamed (execRcBsClr_keeps e) rfl
  | .scnLaneClr .., e => .unnamed (execScnLaneClr_keeps e) rfl
  | .laneClr .., e => .named (execLaneClr_keeps e) rfl (by decide +kernel)
  | .aknClr .., e => .named (execAknClr_keeps e) rfl (by decide +kernel)
  | .carSwapCntClr .., e => .unnamed (execCarSwapCntClr_keeps e) rfl
  | .carQueueClr .., e => .unnamed (execCarQueueClr_keeps e) rfl
  | .trnClr .., e => .unnamed (execTrnClr_keeps e) rfl
  | .audCntClr .., e => .unnamed (execAudCntClr_keeps e) rfl
  | .dmcClr .., e => .unnamed (execDmcClr_keeps e) rfl
  | .brkClr .., e => .unnamed (execBrkClr_keeps e) rfl
  | .jugClr .., e => .unnamed (execJugClr_keeps e) rfl
  | .chkClr .., e => .unnamed (execChkClr_keeps e) rfl
  | .trpClr .., e => .named (execTrpClr_keeps e) rfl (by decide +kernel)
  | .thmClr .., e => .unnamed (execThmClr_keeps e) rfl
  | .snap .., e => .named (execSnap_keeps e) rfl (by decide +kernel)
  | .revert .., e => .named (execRevert_keeps e) rfl (by decide +kernel)
  | .domainEnable .., e => .named (execDomainEnable_keeps e) rfl (by decide +kernel)
  | .domainDisable .., e => .named (execDomainDisable_keeps e) rfl (by decide +kernel)
  | .acceptJump .., e => .named (execAcceptJump_keeps e) rfl (by decide +kernel)
  | .todSecWrite .., e => .named (execTodSecWrite_keeps e) rfl (by decide +kernel)
  | .launchWindowWrite .., e => .named (execLaunchWindowWrite_keeps e) rfl (by decide +kernel)
  | .launchCancel .., e => .named (execLaunchCancel_keeps e) rfl (by decide +kernel)
  | .syncRx .., e => .named (execSyncRx_keeps e) rfl (by decide +kernel)
  | .followUpRx .., e => .named (execFollowUpRx_keeps e) rfl (by decide +kernel)
  | .delayReqSend .., e => .named (execDelayReqSend_keeps e) rfl (by decide +kernel)
  | .delayRespRx .., e => .named (execDelayRespRx_keeps e) rfl (by decide +kernel)
  | .announceRx .., e => .named (execAnnounceRx_keeps e) rfl (by decide +kernel)
  | .masterLoss .., e => .named (execMasterLoss_keeps e) rfl (by decide +kernel)
  | .slewEnd .., e => .named (execSlewEnd_keeps e) rfl (by decide +kernel)
  | .ppsInEdge .., e => .named (execPpsInEdge_keeps e) rfl (by decide +kernel)
  | .ppsInLoss .., e => .named (execPpsInLoss_keeps e) rfl (by decide +kernel)
  | .clk10InLoss .., e => .named (execClk10InLoss_keeps e) rfl (by decide +kernel)
  | .pllRefSwitch .., e => .named (execPllRefSwitch_keeps e) rfl (by decide +kernel)
  | .ppsOutEdge .., e => .named (execPpsOutEdge_keeps e) rfl (by decide +kernel)
  | .ethFrameForward .., e => .named (execEthFrameForward_keeps e) rfl (by decide +kernel)
  | .compositionStart .., e => .unnamed (execCompositionStart_keeps e) rfl
  | .encodeRowStart .., e => .unnamed (execEncodeRowStart_keeps e) rfl
  | .packetRelease .., e => .unnamed (execPacketRelease_keeps e) rfl
  | .gateSwitch .., e => .unnamed (execGateSwitch_keeps e) rfl
  | .presentation .., e => .unnamed (execPresentation_keeps e) rfl
  | .sampleRelease .., e => .unnamed (execSampleRelease_keeps e) rfl
  | .decodeRowStart .., e => .unnamed (execDecodeRowStart_keeps e) rfl
  | .scanOutFrameStart .., e => .unnamed (execScanOutFrameStart_keeps e) rfl
  | .genericEvent .., e => .unnamed (execGenericEvent_keeps e) rfl
  | .modeRequest .., e => .named (execModeRequest_keeps e) rfl (by decide +kernel)
  | .mode .., e => .named (execMode_keeps e) rfl (by decide +kernel)
  | .modeDrained .., e => .named (execModeDrained_keeps e) rfl (by decide +kernel)
  | .powerWaveDone .., e => .named (execPowerWaveDone_keeps e) rfl (by decide +kernel)
  | .modeLoadDone .., e => .named (execModeLoadDone_keeps e) rfl (by decide +kernel)
  | .pwrReset .., e => .named (execPwrReset_keeps e) rfl (by decide +kernel)
  | .deviceReset .., e => .unnamed (execDeviceReset_keeps e) rfl
  | .sysRstNRise .., e => .named (execSysRstNRise_keeps e) rfl (by decide +kernel)
  | .pcieReset .., e => .named (execPcieReset_keeps e) rfl (by decide +kernel)
  | .supervisorImageLoaded .., e => .named (execSupervisorImageLoaded_keeps e) rfl (by decide +kernel)
  | .fwPcieGo .., e => .named (execFwPcieGo_keeps e) rfl (by decide +kernel)
  | .rankTrained .., e => .unnamed (execRankTrained_keeps e) rfl
  | .autostartSlotStart .., e => .named (execAutostartSlotStart_keeps e) rfl (by decide +kernel)
  | .lockstepCompareFail .., e => .named (execLockstepCompareFail_keeps e) rfl (by decide +kernel)
  | .unitRuntimeFault .., e => .named (execUnitRuntimeFault_keeps e) rfl (by decide +kernel)
  | .slotStart .., e => .named (execSlotStart_keeps e) rfl (by decide +kernel)
  | .slotStop .., e => .named (execSlotStop_keeps e) rfl (by decide +kernel)
  | .slotCommit .., e => .named (execSlotCommit_keeps e) rfl (by decide +kernel)
  | .slotStopDone .., e => .named (execSlotStopDone_keeps e) rfl (by decide +kernel)
  | .functionOpen .., e => .named (execFunctionOpen_keeps e) rfl (by decide +kernel)
  | .functionClose .., e => .named (execFunctionClose_keeps e) rfl (by decide +kernel)
  | .flr .., e => .named (execFlr_keeps e) rfl (by decide +kernel)
  | .d3hotExit .., e => .named (execD3hotExit_keeps e) rfl (by decide +kernel)
  | .penOwnerWrite .., e => .named (execPenOwnerWrite_keeps e) rfl (by decide +kernel)
  | .slotOwnerWrite .., e => .named (execSlotOwnerWrite_keeps e) rfl (by decide +kernel)
  | .vectorWrite .., e => .named (execVectorWrite_keeps e) rfl (by decide +kernel)
  | .doorbell .., e => .named (execDoorbell_keeps e) rfl (by decide +kernel)
  | .nop .., e => .named (execNop_keeps e) rfl (by decide +kernel)
  | .createRing .., e => .named (execCreateRing_keeps e) rfl (by decide +kernel)
  | .destroyRing .., e => .named (execDestroyRing_keeps e) rfl (by decide +kernel)
  | .destroyRingDone .., e => .named (execDestroyRingDone_keeps e) rfl (by decide +kernel)
  | .configWrite .., e => .named (execConfigWrite_keeps e) rfl (by decide +kernel)
  | .configRead .., e => .named (execConfigRead_keeps e) rfl (by decide +kernel)
  | .statsRead .., e => .named (execStatsRead_keeps e) rfl (by decide +kernel)
  | .cancelTimed .., e => .named (execCancelTimed_keeps e) rfl (by decide +kernel)
  | .ringFetchError .., e => .named (execRingFetchError_keeps e) rfl (by decide +kernel)
  | .msixModerationTimeout .., e => .named (execMsixModerationTimeout_keeps e) rfl (by decide +kernel)
  | .msixUnmask .., e => .named (execMsixUnmask_keeps e) rfl (by decide +kernel)
  | .bsInEntry .., e => .named (execBsInEntry_keeps e) rfl (by decide +kernel)
  | .ingLaneMaskWrite .., e => .named (execIngLaneMaskWrite_keeps e) rfl (by decide +kernel)
  | .receiverEnable .., e => .named (execReceiverEnable_keeps e) rfl (by decide +kernel)
  | .receiverDisable .., e => .named (execReceiverDisable_keeps e) rfl (by decide +kernel)
  | .videoPacketRx .., e => .named (execVideoPacketRx_keeps e) rfl (by decide +kernel)
  | .audioPacketRx .., e => .named (execAudioPacketRx_keeps e) rfl (by decide +kernel)
  | .ancPacketRx .., e => .named (execAncPacketRx_keeps e) rfl (by decide +kernel)
  | .codedPacketRx .., e => .named (execCodedPacketRx_keeps e) rfl (by decide +kernel)
  | .unmatchedFrameRx .., e => .named (execUnmatchedFrameRx_keeps e) rfl (by decide +kernel)
  | .arpRequestRx .., e => .named (execArpRequestRx_keeps e) rfl (by decide +kernel)
  | .pauseFrameRx .., e => .named (execPauseFrameRx_keeps e) rfl (by decide +kernel)
  | .badFcsFrameRx .., e => .named (execBadFcsFrameRx_keeps e) rfl (by decide +kernel)
  | .igmpQueryRx .., e => .named (execIgmpQueryRx_keeps e) rfl (by decide +kernel)
  | .pictureCloseTimeout .., e => .named (execPictureCloseTimeout_keeps e) rfl (by decide +kernel)
  | .pathLossTimeout .., e => .named (execPathLossTimeout_keeps e) rfl (by decide +kernel)
  | .composeRow .., e => .named (execComposeRow_keeps e) rfl (by decide +kernel)
  | .cmpSlotCommit .., e => .named (execCmpSlotCommit_keeps e) rfl (by decide +kernel)
  | .cmpCommit .., e => .named (execCmpCommit_keeps e) rfl (by decide +kernel)
  | .surfaceLoad .., e => .named (execSurfaceLoad_keeps e) rfl (by decide +kernel)
  | .surfaceCopyDone .., e => .named (execSurfaceCopyDone_keeps e) rfl (by decide +kernel)
  | .tableLoad .., e => .named (execTableLoad_keeps e) rfl (by decide +kernel)
  | .benchFlattenDone .., e => .named (execBenchFlattenDone_keeps e) rfl (by decide +kernel)
  | .safLoad .., e => .named (execSafLoad_keeps e) rfl (by decide +kernel)
  | .safPackageChecked .., e => .named (execSafPackageChecked_keeps e) rfl (by decide +kernel)
  | .safEnroll .., e => .named (execSafEnroll_keeps e) rfl (by decide +kernel)
  | .safAreaWrite .., e => .named (execSafAreaWrite_keeps e) rfl (by decide +kernel)
  | .protectedWriteDrop .., e => .named (execProtectedWriteDrop_keeps e) rfl (by decide +kernel)
  | .sliceComplete .., e => .named (execSliceComplete_keeps e) rfl (by decide +kernel)
  | .effortFloorWrite .., e => .named (execEffortFloorWrite_keeps e) rfl (by decide +kernel)
  | .tsPsiTimer .., e => .named (execTsPsiTimer_keeps e) rfl (by decide +kernel)
  | .decodeRowDone .., e => .named (execDecodeRowDone_keeps e) rfl (by decide +kernel)
  | .streamLossTimeout .., e => .named (execStreamLossTimeout_keeps e) rfl (by decide +kernel)
  | .laneLineOpen .., e => .named (execLaneLineOpen_keeps e) rfl (by decide +kernel)
  | .startOfBlanking .., e => .named (execStartOfBlanking_keeps e) rfl (by decide +kernel)
  | .rowReqRx .., e => .named (execRowReqRx_keeps e) rfl (by decide +kernel)
  | .scnLaneCommit .., e => .named (execScnLaneCommit_keeps e) rfl (by decide +kernel)
  | .laneCfgWrite .., e => .named (execLaneCfgWrite_keeps e) rfl (by decide +kernel)
  | .laneTestWrite .., e => .named (execLaneTestWrite_keeps e) rfl (by decide +kernel)
  | .laneMacWrite .., e => .named (execLaneMacWrite_keeps e) rfl (by decide +kernel)
  | .laneRetrain .., e => .named (execLaneRetrain_keeps e) rfl (by decide +kernel)
  | .aknSend .., e => .named (execAknSend_keeps e) rfl (by decide +kernel)
  | .terminationSense .., e => .named (execTerminationSense_keeps e) rfl (by decide +kernel)
  | .autonegComplete .., e => .named (execAutonegComplete_keeps e) rfl (by decide +kernel)
  | .trainingFrameRx .., e => .named (execTrainingFrameRx_keeps e) rfl (by decide +kernel)
  | .bitLock .., e => .named (execBitLock_keeps e) rfl (by decide +kernel)
  | .amLock .., e => .named (execAmLock_keeps e) rfl (by decide +kernel)
  | .trainTimeout .., e => .named (execTrainTimeout_keeps e) rfl (by decide +kernel)
  | .lockTimeout .., e => .named (execLockTimeout_keeps e) rfl (by decide +kernel)
  | .trainRetry .., e => .named (execTrainRetry_keeps e) rfl (by decide +kernel)
  | .farEndLoss .., e => .named (execFarEndLoss_keeps e) rfl (by decide +kernel)
  | .ethLinkFault .., e => .named (execEthLinkFault_keeps e) rfl (by decide +kernel)
  | .slotLockTimeout .., e => .named (execSlotLockTimeout_keeps e) rfl (by decide +kernel)
  | .refclkLoss .., e => .named (execRefclkLoss_keeps e) rfl (by decide +kernel)
  | .refclkReturn .., e => .named (execRefclkReturn_keeps e) rfl (by decide +kernel)
  | .headerSlotRx .., e => .named (execHeaderSlotRx_keeps e) rfl (by decide +kernel)
  | .capOfferRx .., e => .named (execCapOfferRx_keeps e) rfl (by decide +kernel)
  | .capEnumRx .., e => .named (execCapEnumRx_keeps e) rfl (by decide +kernel)
  | .capRetry .., e => .named (execCapRetry_keeps e) rfl (by decide +kernel)
  | .echoRespRx .., e => .named (execEchoRespRx_keeps e) rfl (by decide +kernel)
  | .echoTimeout .., e => .named (execEchoTimeout_keeps e) rfl (by decide +kernel)
  | .ctrlRespRx .., e => .named (execCtrlRespRx_keeps e) rfl (by decide +kernel)
  | .ctrlResponseTimeout .., e => .named (execCtrlResponseTimeout_keeps e) rfl (by decide +kernel)
  | .egressSelect .., e => .named (execEgressSelect_keeps e) rfl (by decide +kernel)
  | .carCommit .., e => .named (execCarCommit_keeps e) rfl (by decide +kernel)
  | .carListLoad .., e => .named (execCarListLoad_keeps e) rfl (by decide +kernel)
  | .gateListSwap .., e => .named (execGateListSwap_keeps e) rfl (by decide +kernel)
  | .trnCtrlWrite .., e => .named (execTrnCtrlWrite_keeps e) rfl (by decide +kernel)
  | .aes3FrameRx .., e => .named (execAes3FrameRx_keeps e) rfl (by decide +kernel)
  | .aes3LockLoss .., e => .named (execAes3LockLoss_keeps e) rfl (by decide +kernel)
  | .asrcDecision .., e => .named (execAsrcDecision_keeps e) rfl (by decide +kernel)
  | .sampleSlip .., e => .named (execSampleSlip_keeps e) rfl (by decide +kernel)
  | .mclkLoss .., e => .named (execMclkLoss_keeps e) rfl (by decide +kernel)
  | .mclkResume .., e => .named (execMclkResume_keeps e) rfl (by decide +kernel)
  | .audPortWrite .., e => .named (execAudPortWrite_keeps e) rfl (by decide +kernel)
  | .audRouteWrite .., e => .named (execAudRouteWrite_keeps e) rfl (by decide +kernel)
  | .zeroCrossingChange .., e => .named (execZeroCrossingChange_keeps e) rfl (by decide +kernel)
  | .zcTimeout .., e => .named (execZcTimeout_keeps e) rfl (by decide +kernel)
  | .audioCmd .., e => .named (execAudioCmd_keeps e) rfl (by decide +kernel)
  | .audCaptureRead .., e => .named (execAudCaptureRead_keeps e) rfl (by decide +kernel)
  | .audTemplateLoad .., e => .named (execAudTemplateLoad_keeps e) rfl (by decide +kernel)
  | .dmcLayoutCommit .., e => .named (execDmcLayoutCommit_keeps e) rfl (by decide +kernel)
  | .trnWrite .., e => .named (execTrnWrite_keeps e) rfl (by decide +kernel)
  | .trnReadCompare .., e => .named (execTrnReadCompare_keeps e) rfl (by decide +kernel)
  | .trnWriteCompare .., e => .named (execTrnWriteCompare_keeps e) rfl (by decide +kernel)
  | .trnOpDone .., e => .named (execTrnOpDone_keeps e) rfl (by decide +kernel)
  | .trnDlySet .., e => .named (execTrnDlySet_keeps e) rfl (by decide +kernel)
  | .mrWrite .., e => .named (execMrWrite_keeps e) rfl (by decide +kernel)
  | .mrRead .., e => .named (execMrRead_keeps e) rfl (by decide +kernel)
  | .setFillDone .., e => .named (execSetFillDone_keeps e) rfl (by decide +kernel)
  | .eccCorrectedRead .., e => .named (execEccCorrectedRead_keeps e) rfl (by decide +kernel)
  | .eccUncorrectableRead .., e => .named (execEccUncorrectableRead_keeps e) rfl (by decide +kernel)
  | .commandRetryFail .., e => .named (execCommandRetryFail_keeps e) rfl (by decide +kernel)
  | .patrolScrub .., e => .named (execPatrolScrub_keeps e) rfl (by decide +kernel)
  | .dmcMigrate .., e => .named (execDmcMigrate_keeps e) rfl (by decide +kernel)
  | .migrationComplete .., e => .named (execMigrationComplete_keeps e) rfl (by decide +kernel)
  | .refresh .., e => .named (execRefresh_keeps e) rfl (by decide +kernel)
  | .taskCreate .., e => .named (execTaskCreate_keeps e) rfl (by decide +kernel)
  | .taskDestroy .., e => .named (execTaskDestroy_keeps e) rfl (by decide +kernel)
  | .taskSignal .., e => .named (execTaskSignal_keeps e) rfl (by decide +kernel)
  | .taskWait .., e => .named (execTaskWait_keeps e) rfl (by decide +kernel)
  | .taskYield .., e => .named (execTaskYield_keeps e) rfl (by decide +kernel)
  | .taskDispatch .., e => .named (execTaskDispatch_keeps e) rfl (by decide +kernel)
  | .jugDrainWrite .., e => .named (execJugDrainWrite_keeps e) rfl (by decide +kernel)
  | .watchdogExpiry .., e => .named (execWatchdogExpiry_keeps e) rfl (by decide +kernel)
  | .barkerEntry .., e => .named (execBarkerEntry_keeps e) rfl (by decide +kernel)
  | .brkComplete .., e => .named (execBrkComplete_keeps e) rfl (by decide +kernel)
  | .brkSwWrite .., e => .named (execBrkSwWrite_keeps e) rfl (by decide +kernel)
  | .brkLatchClear .., e => .named (execBrkLatchClear_keeps e) rfl (by decide +kernel)
  | .chkCtrlWrite .., e => .named (execChkCtrlWrite_keeps e) rfl (by decide +kernel)
  | .chkScan .., e => .named (execChkScan_keeps e) rfl (by decide +kernel)
  | .chkScanDone .., e => .named (execChkScanDone_keeps e) rfl (by decide +kernel)
  | .trpCtrlWrite .., e => .named (execTrpCtrlWrite_keeps e) rfl (by decide +kernel)
  | .helloSend .., e => .named (execHelloSend_keeps e) rfl (by decide +kernel)
  | .helloRx .., e => .named (execHelloRx_keeps e) rfl (by decide +kernel)
  | .partnerLoss .., e => .named (execPartnerLoss_keeps e) rfl (by decide +kernel)
  | .mirrorDataRx .., e => .named (execMirrorDataRx_keeps e) rfl (by decide +kernel)
  | .configRecord .., e => .named (execConfigRecord_keeps e) rfl (by decide +kernel)
  | .surfRecord .., e => .named (execSurfRecord_keeps e) rfl (by decide +kernel)
  | .refRecord n pic _ _ _, e => .named (execRefRecord_keeps (_n := n) (_pic := pic) e) rfl (by decide +kernel)
  | .sliceRecord .., e => .named (execSliceRecord_keeps e) rfl (by decide +kernel)
  | .ckptRecord .., e => .named (execCkptRecord_keeps e) rfl (by decide +kernel)
  | .rowEndRecord _ _ _ _ count, e => .named (execRowEndRecord_keeps (_count := count) e) rfl (by decide +kernel)
  | .safPkgRecord .., e => .named (execSafPkgRecord_keeps e) rfl (by decide +kernel)
  | .safLineRecord .., e => .named (execSafLineRecord_keeps e) rfl (by decide +kernel)
  | .ringRecord .., e => .named (execRingRecord_keeps e) rfl (by decide +kernel)
  | .syncStartRecord .., e => .named (execSyncStartRecord_keeps e) rfl (by decide +kernel)
  | .syncEndRecord .., e => .named (execSyncEndRecord_keeps e) rfl (by decide +kernel)
  | .safLineMissingTimeout .., e => .named (execSafLineMissingTimeout_keeps e) rfl (by decide +kernel)
  | .divergenceRx .., e => .named (execDivergenceRx_keeps e) rfl (by decide +kernel)
  | .ackRx .., e => .named (execAckRx_keeps e) rfl (by decide +kernel)
  | .uncoveredRelease .., e => .named (execUncoveredRelease_keeps e) rfl (by decide +kernel)
  | .resendRequestRx .., e => .named (execResendRequestRx_keeps e) rfl (by decide +kernel)
  | .resendTimeout .., e => .named (execResendTimeout_keeps e) rfl (by decide +kernel)
  | .resyncRequestRx .., e => .named (execResyncRequestRx_keeps e) rfl (by decide +kernel)
  | .heartbeatToggle .., e => .named (execHeartbeatToggle_keeps e) rfl (by decide +kernel)
  | .pet .., e => .named (execPet_keeps e) rfl (by decide +kernel)
  | .trpTakeN .., e => .named (execTrpTakeN_keeps e) rfl (by decide +kernel)
  | .trpTakeover .., e => .named (execTrpTakeover_keeps e) rfl (by decide +kernel)
  | .testTurn .., e => .named (execTestTurn_keeps e) rfl (by decide +kernel)
  | .trpHealthRead .., e => .named (execTrpHealthRead_keeps e) rfl (by decide +kernel)
  | .fwStage .., e => .named (execFwStage_keeps e) rfl (by decide +kernel)
  | .fwActivate .., e => .named (execFwActivate_keeps e) rfl (by decide +kernel)
  | .updateGroupDrained .., e => .named (execUpdateGroupDrained_keeps e) rfl (by decide +kernel)
  | .fwFlashWrite .., e => .named (execFwFlashWrite_keeps e) rfl (by decide +kernel)
  | .flashWriteDone .., e => .named (execFlashWriteDone_keeps e) rfl (by decide +kernel)
  | .fwFuse .., e => .named (execFwFuse_keeps e) rfl (by decide +kernel)
  | .ldgRead .., e => .named (execLdgRead_keeps e) rfl (by decide +kernel)
  | .ldgRingWrite .., e => .named (execLdgRingWrite_keeps e) rfl (by decide +kernel)
  | .housekeepingRound .., e => .named (execHousekeepingRound_keeps e) rfl (by decide +kernel)
  | .avsFail .., e => .named (execAvsFail_keeps e) rfl (by decide +kernel)
  | .avsEnWrite .., e => .named (execAvsEnWrite_keeps e) rfl (by decide +kernel)
  | .thmWrite .., e => .named (execThmWrite_keeps e) rfl (by decide +kernel)
  | .thermtripAnalogue .., e => .named (execThermtripAnalogue_keeps e) rfl (by decide +kernel)
  | .railDrop .., e => .unnamed (execRailDrop_keeps e) rfl
  | .smbThmStatus .., e => .named (execSmbThmStatus_keeps e) rfl (by decide +kernel)
  | .smbTmax .., e => .named (execSmbTmax_keeps e) rfl (by decide +kernel)
  | .smbModeStatus .., e => .named (execSmbModeStatus_keeps e) rfl (by decide +kernel)
  | .smbReason .., e => .named (execSmbReason_keeps e) rfl (by decide +kernel)
  | .smbChipId .., e => .named (execSmbChipId_keeps e) rfl (by decide +kernel)
  | .smbSensor .., e => .named (execSmbSensor_keeps e) rfl (by decide +kernel)
  | .smbVoltage .., e => .named (execSmbVoltage_keeps e) rfl (by decide +kernel)
  | .smbHealth .., e => .named (execSmbHealth_keeps e) rfl (by decide +kernel)
  | .smbNak .., e => .named (execSmbNak_keeps e) rfl (by decide +kernel)
  | .readyInstant .., e => .named (execReadyInstant_keeps e) rfl (by decide +kernel)
  | .takeoverComplete .., e => .named (execTakeoverComplete_keeps e) rfl (by decide +kernel)
  | .engineReloadDone .., e => .named (execEngineReloadDone_keeps e) rfl (by decide +kernel)
  | .testTurnEnd .., e => .named (execTestTurnEnd_keeps e) rfl (by decide +kernel)
  | .prbsCheckerSync .., e => .named (execPrbsCheckerSync_keeps e) rfl (by decide +kernel)
  | .clk10InReturn .., e => .named (execClk10InReturn_keeps e) rfl (by decide +kernel)
  | .audMclkInReturn .., e => .named (execAudMclkInReturn_keeps e) rfl (by decide +kernel)
  | .powerOnResetRelease .., e => .named (execPowerOnResetRelease_keeps e) rfl (by decide +kernel)

/-- What a step can do: a tick when no command waits, else the front command. -/
theorem step_cases {s t : State} (h : step s = .next t) :
    (s.pending = [] ∧ t = s.tick) ∨ ∃ c l, s.pending = c :: l ∧ exec c (s.withPending l) = .next t := by
  unfold step at h
  split at h
  · next hp => exact .inl ⟨hp, (Host.Outcome.next.inj h).symm⟩
  · next c l hp => exact .inr ⟨c, l, hp, h⟩

theorem State.Sound.withPending {s : State} (h : s.Sound) (l : List Instr) : (s.withPending l).Sound := ⟨h.regs, h.mem⟩

theorem State.Sound.tick {s : State} (h : s.Sound) : s.tick.Sound :=
  (State.tick_keeps (m0 := anything) (.refl _ s) (by decide)).sound h

/-- Settles O4: a step is a tick or the front command, and the law of each keeps the two stores canonical. -/
theorem stepKeepsSound : Obligations.StepKeepsSound := by
  intro s t hs e
  rcases step_cases e with ⟨-, rfl⟩ | ⟨c, l, -, hc⟩
  · exact hs.tick
  · exact (exec_framed hc).sound (hs.withPending l)

/-- Settles O58: each command's law of `Keeps` names only what `mayChange` names. -/
theorem commandsChangeOnlyWhatTheyName : Obligations.CommandsChangeOnlyWhatTheyName :=
  fun _ _ _ _ _ hm e => (exec_framed e).only hm

end Sys2Proof.Machine
end

/-! # Proofs: clear controls (R16) -/

section
namespace Sys2Proof.Machine

theorem State.byWriter_reached {s : State} {w : Writer} {off : Nat} (h : s.mayWrite w off = true) (f : State → State) :
    s.byWriter w off f = f s := if_pos h

theorem State.byWriter_unreached {s : State} {w : Writer} {off : Nat} (h : s.mayWrite w off = false) (f : State → State) :
    s.byWriter w off f = s := by
  rw [State.byWriter, h]
  rfl

/-! ## Fields of one name have one shape -/

/-- Fields of one name in a list agree in width and reset value. -/
def OneShape (l : List Field) : Prop :=
  ∀ f ∈ l, ∀ g ∈ l, g.id % 1024 = f.id % 1024 → fieldWidth g = fieldWidth f ∧ g.reset = f.reset

/-- The name, the width and the reset value of a field. -/
def fieldShape (f : Field) : Nat × Nat × Nat := (f.id % 1024, fieldWidth f, f.reset)

theorem OneShape.singleton (f : Field) : OneShape [f] := by
  intro a ha b hb _
  rw [List.mem_singleton.1 ha, List.mem_singleton.1 hb]
  exact ⟨rfl, rfl⟩

/-- A list whose fields all look like those of a sample has one shape to a name when the sample has. -/
theorem OneShape.of_sample {l m : List Field} (hm : OneShape m) (h : ∀ f ∈ l, fieldShape f ∈ m.map fieldShape) :
    OneShape l := by
  intro f hf g hg hid
  obtain ⟨f', hf', ef⟩ := List.mem_map.1 (h f hf)
  obtain ⟨g', hg', eg⟩ := List.mem_map.1 (h g hg)
  simp only [fieldShape, Prod.mk.injEq] at ef eg
  obtain ⟨fi, fw, fr⟩ := ef
  obtain ⟨gi, gw, gr⟩ := eg
  obtain ⟨hw, hr⟩ := hm f' hf' g' hg' (by omega)
  exact ⟨by omega, by omega⟩

/-- The counters of unit n are copies of those of unit 0. -/
theorem OneShape.of_copy {l m : List Field} (hm : OneShape m) (h : l.map fieldShape = m.map fieldShape) : OneShape l :=
  hm.of_sample fun _ hf => h ▸ List.mem_map_of_mem hf

/-- Counters of one index and others of each index have one shape to a name when those of index 0 have. -/
theorem OneShape.append_each {l : List Field} {g : Nat → List Field} {n : Nat} (h : OneShape (l ++ g 0))
    (hg : ∀ i, (g i).map fieldShape = (g 0).map fieldShape) : OneShape (l ++ each n g) :=
  h.of_sample fun f hf => by
    rw [List.map_append]
    rcases List.mem_append.1 hf with hl | he
    · exact List.mem_append_left _ (List.mem_map_of_mem hl)
    · obtain ⟨i, -, hi⟩ := List.mem_flatMap.1 he
      exact List.mem_append_right _ (hg i ▸ List.mem_map_of_mem hi)

theorem OneShape.each {g : Nat → List Field} {n : Nat} (h : OneShape (g 0))
    (hg : ∀ i, (g i).map fieldShape = (g 0).map fieldShape) : OneShape (each n g) :=
  .append_each (l := []) h hg

/-! ## What a clear control does -/

/-- A cleared counter of a list of one shape reads what was counted in this cycle. -/
theorem OneShape.cleared {l m : List Field} (h : OneShape l) (hm : ∀ f ∈ m, f ∈ l) (s : State) : s.Cleared (s.clear l) m :=
  fun f hf => State.clear_listed l s f (List.mem_map_of_mem (hm f hf)) (h f (hm f hf))

/-- A clear control that its writer reaches clears its counters. -/
theorem OneShape.clearBy_cleared {l m : List Field} (h : OneShape l) (hm : ∀ f ∈ m, f ∈ l) {s : State} {w : Writer}
    {clr : Field} (hw : s.mayWrite w clr.off = true) : s.Cleared (s.clearBy w clr l) m := by
  rw [State.clearBy, State.byWriter_reached hw]
  exact h.cleared hm s

/-- Fields that no log entry touches. -/
def Unlogged (l : List Field) : Prop := ∀ i ∈ l.map Field.id, i ∉ loggedFields ∧ i < 1024

/-- A clear control that is logged clears its counters too. -/
theorem OneShape.clearLogged_cleared {l : List Field} (h : OneShape l) (hl : Unlogged l) {s : State} {w : Writer}
    {clr : Field} (hw : s.mayWrite w clr.off = true) : s.Cleared (s.clearLogged w clr l) l := by
  rw [State.clearLogged, State.byWriter_reached hw]
  intro f hf
  obtain ⟨hlog, hid⟩ := hl f.id (List.mem_map_of_mem hf)
  rw [((s.clear l).logReg_only w clr.off 0 0 0).regs f hlog hid]
  exact h.cleared (fun _ hg => hg) s f hf

/-- Clearing counters changes them and nothing else. -/
theorem State.clear_onlyFields (s : State) (l : List Field) : s.OnlyFields l (s.clear l) :=
  ⟨s.clear_pending l, s.clear_out l, s.clear_get l, s.clear_part l⟩

theorem State.OnlyFields.refl (s : State) (l : List Field) : s.OnlyFields l s :=
  ⟨rfl, rfl, fun _ _ => rfl, fun p => by cases p <;> rfl⟩

/-- A clear control that is not logged changes its counters and nothing else, whoever writes it. -/
theorem State.clearBy_onlyFields {s t : State} {w : Writer} {clr : Field} {l : List Field}
    (e : (Host.Outcome.next (s.clearBy w clr l) : Host.Outcome State Fault Refusal) = .next t) : s.OnlyFields l t := by
  obtain rfl := Host.Outcome.next.inj e
  unfold State.clearBy State.byWriter
  split
  · exact s.clear_onlyFields l
  · exact .refl s l

/-! ## The counters of each clear control -/

theorem oneShape_domCounters (n : Nat) : OneShape (domCounters n) :=
  .of_copy (m := domCounters 0) (by unfold OneShape; decide) rfl

theorem unlogged_domCounters (n : Nat) : Unlogged (domCounters n) := by
  have h : Unlogged (domCounters 0) := by unfold Unlogged; decide
  exact h

theorem oneShape_pwrCounters : OneShape pwrCounters := by unfold OneShape; decide

theorem oneShape_fnCounters (f : Nat) : OneShape (fnCounters f) :=
  .of_copy (m := fnCounters 0) (by unfold OneShape; decide) rfl

theorem oneShape_ingLaneCounters : OneShape ingLaneCounters :=
  .each (.singleton _) fun _ => rfl

theorem oneShape_rxCounters (r : Nat) : OneShape (rxCounters r) :=
  .of_copy (m := rxCounters 0) (by unfold OneShape; decide +kernel) rfl

theorem oneShape_cmpCounters (n : Nat) : OneShape (cmpCounters n) :=
  .append_each (.of_copy (m := (cmpCounters 0).take 6) (by unfold OneShape; decide +kernel) rfl) fun _ => rfl

theorem oneShape_safCounters : OneShape safCounters :=
  .append_each (by unfold OneShape; decide) fun _ => rfl

theorem oneShape_encCounters (n : Nat) : OneShape (encCounters n) :=
  .of_copy (m := encCounters 0) (by unfold OneShape; decide) rfl

theorem oneShape_pktCounters (n : Nat) : OneShape (pktCounters n) :=
  .each (.singleton _) fun _ => rfl

theorem oneShape_decCounters (n : Nat) : OneShape (decCounters n) :=
  .of_copy (m := decCounters 0) (by unfold OneShape; decide +kernel) rfl

theorem oneShape_rcCounters (n : Nat) : OneShape (rcCounters n) :=
  .of_copy (m := rcCounters 0) (by unfold OneShape; decide) rfl

theorem oneShape_scnCounters (i : Nat) : OneShape (scnCounters i) :=
  .of_copy (m := scnCounters 0) (by unfold OneShape; decide +kernel) rfl

theorem oneShape_laneCounters (i : Nat) : OneShape (laneCounters i) :=
  .of_copy (m := laneCounters 0) (by unfold OneShape; decide +kernel) rfl

theorem unlogged_laneCounters (i : Nat) : Unlogged (laneCounters i) := by
  have h : Unlogged (laneCounters 0) := by unfold Unlogged; decide
  exact h

theorem oneShape_aknCounters (i : Nat) : OneShape (aknCounters i) :=
  .of_copy (m := aknCounters 0) (by unfold OneShape; decide) rfl

theorem unlogged_aknCounters (i : Nat) : Unlogged (aknCounters i) := by
  have h : Unlogged (aknCounters 0) := by unfold Unlogged; decide
  exact h

theorem oneShape_queueCounters (i c : Nat) : OneShape (queueCounters i c) :=
  .of_copy (m := queueCounters 0 0) (by unfold OneShape; decide +kernel) rfl

theorem oneShape_trnCounters : OneShape trnCounters :=
  .each (by unfold OneShape; decide) fun _ => rfl

theorem oneShape_audCounters : OneShape audCounters :=
  .of_sample (m := audCounters.take 7 ++ [Reg.AUD_OUT_UNDERRUN_CNT 0, Reg.AUD_OUT_ZC_TO_CNT 0, Reg.AUD_OUT_PKT_CNT 0])
    (by unfold OneShape; decide +kernel) (by decide +kernel)

theorem oneShape_dmcCounters : OneShape dmcCounters :=
  .of_sample (m := dmcCounters.take 3 ++ [Reg.DMC_MIG_CNT, Reg.DMC_POISON_COPY_CNT, Reg.DMC_NBR_CNT])
    (by unfold OneShape; decide +kernel) (by decide +kernel)

theorem oneShape_brkCounters : OneShape brkCounters :=
  .each (by unfold OneShape; decide) fun _ => rfl

theorem oneShape_jugCounters : OneShape jugCounters := by unfold OneShape; decide +kernel

theorem oneShape_chkCounters (n : Nat) : OneShape (chkCounters n) :=
  .of_copy (m := chkCounters 0) (by unfold OneShape; decide) rfl

theorem oneShape_trpCounters : OneShape trpCounters := by unfold OneShape; decide +kernel

theorem oneShape_thmCounters : OneShape thmCounters := by unfold OneShape; decide

/-! ## The obligations -/

/-- The fields of one index are among those of each index. -/
theorem mem_each {n : Nat} {g : Nat → List Field} {f : Field} (i : Fin n) (h : f ∈ g i) : f ∈ each n g :=
  List.mem_flatMap.2 ⟨i, List.mem_range.2 i.isLt, h⟩

theorem mem_append_each {n : Nat} {g : Nat → List Field} {l : List Field} {f : Field} (i : Fin n) (h : f ∈ l ++ g i) :
    f ∈ l ++ each n g :=
  List.mem_append.2 ((List.mem_append.1 h).imp_right (mem_each i))

theorem mem_each_append {n : Nat} {g : Nat → List Field} {l : List Field} {f : Field} (i : Fin n) (h : f ∈ g i ++ l) :
    f ∈ each n g ++ l :=
  List.mem_append.2 ((List.mem_append.1 h).imp_left (mem_each i))

/-- Settles O7: a reached clear control clears a list in which every counter has one shape. -/
theorem clearCommandsClearTheirCounters : Obligations.ClearCommandsClearTheirCounters := by
  intro s w
  exact ⟨
    fun n hw => ⟨_, rfl, (oneShape_domCounters n).clearLogged_cleared (unlogged_domCounters n) hw⟩,
    fun hw => ⟨_, rfl, (OneShape.singleton _).clearLogged_cleared (by unfold Unlogged; decide) hw⟩,
    fun _ hw => ⟨_, rfl, (OneShape.singleton _).clearBy_cleared (fun _ h => h) hw⟩,
    fun hw => ⟨_, rfl, oneShape_pwrCounters.clearBy_cleared (fun _ h => h) hw⟩,
    fun f hw => ⟨_, rfl, (oneShape_fnCounters f).clearBy_cleared (fun _ h => h) hw⟩,
    fun i hw => ⟨_, rfl, oneShape_ingLaneCounters.clearBy_cleared (fun _ h => mem_each i h) hw⟩,
    fun r hw => ⟨_, rfl, (oneShape_rxCounters r).clearBy_cleared (fun _ h => h) hw⟩,
    fun n l hw => ⟨_, rfl, (oneShape_cmpCounters n).clearBy_cleared (fun _ h => mem_append_each l h) hw⟩,
    fun n hw => ⟨_, rfl, oneShape_safCounters.clearBy_cleared (fun _ h => mem_append_each n h) hw⟩,
    fun hw => ⟨_, rfl, (OneShape.singleton _).clearBy_cleared (fun _ h => h) hw⟩,
    fun n hw => ⟨_, rfl, (oneShape_encCounters n).clearBy_cleared (fun _ h => h) hw⟩,
    fun n m hw => ⟨_, rfl, (oneShape_pktCounters n).clearBy_cleared (fun _ h => mem_each m h) hw⟩,
    fun n hw => ⟨_, rfl, (oneShape_decCounters n).clearBy_cleared (fun _ h => h) hw⟩,
    fun n hw => ⟨_, rfl, (oneShape_rcCounters n).clearBy_cleared (fun _ h => h) hw⟩,
    fun i hw => ⟨_, rfl, (oneShape_scnCounters i).clearBy_cleared (fun _ h => h) hw⟩,
    fun i hw => ⟨_, rfl, (oneShape_laneCounters i).clearLogged_cleared (unlogged_laneCounters i) hw⟩,
    fun i hw => ⟨_, rfl, (oneShape_aknCounters i).clearLogged_cleared (unlogged_aknCounters i) hw⟩,
    fun _ hw => ⟨_, rfl, (OneShape.singleton _).clearBy_cleared (fun _ h => h) hw⟩,
    fun i c hw => ⟨_, rfl, (oneShape_queueCounters i c).clearBy_cleared (fun _ h => h) hw⟩,
    fun q hw => ⟨_, rfl, oneShape_trnCounters.clearBy_cleared (fun _ h => mem_each q h) hw⟩,
    fun hw => ⟨_, rfl, oneShape_audCounters.clearBy_cleared (fun _ h => h) hw⟩,
    fun p hw => ⟨_, rfl, oneShape_dmcCounters.clearBy_cleared (fun _ h => mem_each_append p h) hw⟩,
    fun p hw => ⟨_, rfl, oneShape_brkCounters.clearBy_cleared (fun _ h => mem_each p h) hw⟩,
    fun hw => ⟨_, rfl, oneShape_jugCounters.clearBy_cleared (fun _ h => h) hw⟩,
    fun n hw => ⟨_, rfl, (oneShape_chkCounters n).clearBy_cleared (fun _ h => h) hw⟩,
    fun hw => ⟨_, rfl, oneShape_trpCounters.clearLogged_cleared (by unfold Unlogged; decide) hw⟩,
    fun hw => ⟨_, rfl, oneShape_thmCounters.clearBy_cleared (fun _ h => h) hw⟩⟩

/-- Settles O8: each of these commands is one unlogged clear control, which changes its list alone. -/
theorem clearCommandsChangeNothingElse : Obligations.ClearCommandsChangeNothingElse := by
  intro s t w
  exact ⟨fun _ => State.clearBy_onlyFields, State.clearBy_onlyFields, fun _ => State.clearBy_onlyFields,
    State.clearBy_onlyFields, fun _ => State.clearBy_onlyFields, fun _ => State.clearBy_onlyFields,
    State.clearBy_onlyFields, State.clearBy_onlyFields, fun _ => State.clearBy_onlyFields,
    fun _ => State.clearBy_onlyFields, fun _ => State.clearBy_onlyFields, fun _ => State.clearBy_onlyFields,
    fun _ => State.clearBy_onlyFields, fun _ => State.clearBy_onlyFields, fun _ _ => State.clearBy_onlyFields,
    State.clearBy_onlyFields, State.clearBy_onlyFields, State.clearBy_onlyFields, State.clearBy_onlyFields,
    State.clearBy_onlyFields, fun _ => State.clearBy_onlyFields, State.clearBy_onlyFields⟩

end Sys2Proof.Machine
end

/-! # Proofs: words written (R13 to R15, R75, R81, R98) -/

section
namespace Sys2Proof.Machine

/-! ## Fields by their access codes -/

theorem State.fieldAfter_congr {s t : State} {f : Field} (hg : t.get f = s.get f) (hb : t.freshBits f = s.freshBits f) (v : Nat) :
    t.fieldAfter f v = s.fieldAfter f v := by
  unfold State.fieldAfter
  rw [hg, hb]

/-- Writing fields leaves the others. -/
theorem State.putFields_get_other (l : List Field) (s : State) (v : Nat) (f : Field) (h : fieldKey f ∉ l.map fieldKey) :
    (s.putFields v l).get f = s.get f := by
  induction l generalizing s with
  | nil => rfl
  | cons g l ih =>
    rw [List.map_cons, List.mem_cons, not_or] at h
    rw [State.putFields, ih _ h.2, State.get_set_key _ _ _ _ h.1]

/-- Each of several different fields takes the value of its access code. -/
theorem State.putFields_get (l : List Field) (s : State) (v : Nat) (hn : (l.map fieldKey).Nodup) (f : Field) (hf : f ∈ l) :
    (s.putFields v l).get f = s.fieldAfter f v % 2 ^ fieldWidth f := by
  induction l generalizing s with
  | nil => cases hf
  | cons g l ih =>
    rw [List.map_cons, List.nodup_cons] at hn
    rw [State.putFields]
    rcases List.mem_cons.1 hf with rfl | hl
    · rw [State.putFields_get_other _ _ _ _ hn.1, State.get_set_same]
    · have hk : fieldKey f ≠ fieldKey g := fun e => hn.1 (e ▸ List.mem_map_of_mem hl)
      rw [ih _ hn.2 hl, State.fieldAfter_congr (State.get_set_key _ _ _ _ hk) rfl]

/-- A word of RO and WO fields alone keeps every field. -/
theorem State.fieldAfter_of_not_writable {l : List Field} (h : writable l = false) {f : Field} (hf : f ∈ l) (s : State) (v : Nat) :
    s.fieldAfter f v = s.get f := by
  have hw := List.any_eq_false.1 h f hf
  unfold State.fieldAfter
  cases ha : f.acc with
  | rw => simp [ha] at hw
  | w1c => simp [ha] at hw
  | ro => rfl
  | wo => rfl

theorem State.noteSelection_get (s : State) (off : Nat) (f : Field) : (s.noteSelection off).get f = s.get f :=
  (State.noteSelection_keeps (m0 := 0x8000000) (.refl _ s)).regs f
    (Nat.testBit_eq_false_of_lt (Nat.lt_of_lt_of_le (by decide : 0x8000000 < 2 ^ 64) (Nat.pow_le_pow_right (by decide) (by omega))))

theorem State.noteSelection_freshBits (s : State) (off : Nat) (f : Field) : (s.noteSelection off).freshBits f = s.freshBits f := by
  unfold State.freshBits
  rw [(State.noteSelection_keeps (m0 := 0x8000000) (.refl _ s)).freshKept (by decide)]

/-- A plain write changes the fields of its word, when no log entry touches them, by their access codes. -/
theorem State.plainWrite_get (s : State) (w : Writer) (off v : Nat) (hn : ((viewFields (viewOf w) off).map fieldKey).Nodup)
    (f : Field) (hf : f ∈ viewFields (viewOf w) off) (hlog : f.id ∉ loggedFields) (hid : f.id < 1024) :
    (s.plainWrite w off v).get f % 2 ^ fieldWidth f = s.fieldAfter f v % 2 ^ fieldWidth f := by
  unfold State.plainWrite
  split
  · rw [State.logWord, (State.logReg_only _ w off 0 _ _).regs f hlog hid, State.applyWord, State.putFields_get _ _ _ hn f hf,
      State.fieldAfter_congr (s.noteSelection_get off f) (s.noteSelection_freshBits off f), Nat.mod_mod]
  · next h => rw [State.fieldAfter_of_not_writable (Bool.not_eq_true _ ▸ h) hf]

/-! ## What a written word reaches -/

theorem State.halted_of_mayWrite {s : State} {w : Writer} {off : Nat} (h : s.mayWrite w off = true) : s.halted = false := by
  unfold State.mayWrite at h
  rw [Bool.and_eq_true, Bool.not_eq_true'] at h
  exact h.1

theorem State.mayWrite_of_halted {s : State} (h : s.halted = true) (w : Writer) (off : Nat) : s.mayWrite w off = false := by
  unfold State.mayWrite
  rw [h]
  rfl

/-- Firmware reaches every register of a device that is not HALTED. -/
theorem State.mayWrite_super {s : State} (h : s.halted = false) (p : Fin 4) (off : Nat) : s.mayWrite (.super p) off = true := by
  unfold State.mayWrite
  rw [h]
  rfl

theorem State.run_eq {s t : State} {c : Cmd} (h : c s = .next t) : s.run c = t := by
  rw [State.run, h]

/-- A word for PWR_RESET is heard in every state (R98). -/
theorem State.writeWord_reset (s : State) (w : Writer) (v : Nat) : s.writeWord w Reg.PWR_RESET_KEY.off v = s.pwrResetWrite w v :=
  if_pos rfl

/-- Past PWR_RESET, a device that is not HALTED takes a word of the queue window there. -/
theorem State.writeWord_window {s : State} (hh : s.halted = false) {off : Nat} (ho : isWindow off = true) (w : Writer) (v : Nat) :
    s.writeWord w off v = s.windowWord w off v := by
  have hr : off ≠ Reg.PWR_RESET_KEY.off := by
    rintro rfl
    revert ho
    decide
  rw [State.writeWord, if_neg hr, if_neg (by simp [hh]), if_pos ho]

/-- A word that its writer reaches runs the command of its row. -/
theorem State.writeWord_row {s t : State} {w : Writer} {off v : Nat} {c : Cmd} (hr : off ≠ Reg.PWR_RESET_KEY.off)
    (hw : isWindow off = false) (hf : viewFields (viewOf w) off ≠ []) (hm : s.mayWrite w off = true)
    (hc : rowCmd w off v = some c) (ht : c s = .next t) : s.writeWord w off v = t := by
  rw [State.writeWord, if_neg hr, if_neg (by simp [State.halted_of_mayWrite hm]), if_neg (by simp [hw]), if_neg (by simpa using hf),
    State.byWriter_reached hm, hc]
  exact State.run_eq ht

/-- A word that its writer reaches and that has no command of its own is written by its access codes. -/
theorem State.writeWord_plain {s : State} {w : Writer} {off v : Nat} (hr : off ≠ Reg.PWR_RESET_KEY.off)
    (hw : isWindow off = false) (hm : s.mayWrite w off = true) (hc : rowCmd w off v = none) :
    s.writeWord w off v = s.plainWrite w off v := by
  rw [State.writeWord, if_neg hr, if_neg (by simp [State.halted_of_mayWrite hm]), if_neg (by simp [hw])]
  split
  · next h =>
    rw [State.plainWrite, List.isEmpty_iff.1 h]
    rfl
  · rw [State.byWriter_reached hm, hc]

/-- A word outside the registers of its writer's view changes nothing (R14). -/
theorem State.writeWord_outside {s : State} {w : Writer} {off : Nat} (hr : off ≠ Reg.PWR_RESET_KEY.off)
    (hm : off ≠ Reg.PWR_MODE_CTRL_TARGET.off) (hw : isWindow off = false) (hf : viewFields (viewOf w) off = []) (v : Nat) :
    s.writeWord w off v = s := by
  rw [State.writeWord, if_neg hr, if_neg (by simp [hm]), if_neg (by simp [hw]), if_pos (by simp [hf])]

/-- A HALTED device ignores every word but those for PWR_RESET and a mode request (R81, R98). -/
theorem State.writeWord_halted {s : State} (h : s.halted = true) {w : Writer} {off : Nat} (hr : off ≠ Reg.PWR_RESET_KEY.off)
    (hm : off ≠ Reg.PWR_MODE_CTRL_TARGET.off) (v : Nat) : s.writeWord w off v = s := by
  have hw : ∀ f, s.byWriter w off f = s := State.byWriter_unreached (State.mayWrite_of_halted h w off)
  rw [State.writeWord, if_neg hr, if_neg (by simp [hm])]
  split
  · cases w with
    | super p => exact hw (fun s => s.windowWrite p off v)
    | host f => rfl
    | debug => rfl
  · rw [hw, ite_self]

/-- A low word of the queue window is held (R75). -/
theorem State.windowWrite_held (s : State) (p : Fin 4) {off : Nat} (v : Nat) (h : (off - launchWindow 0) / 4 % 4 ≠ 3) :
    Table.find (s.windowWrite p off v).tim.window ((off - launchWindow 0) / 4) = some v := by
  unfold State.windowWrite
  simp only [h, if_false, Table.find_put_same]

/-! ## The forms of an access (R515) -/

theorem exec_registerWrite_word {off : Nat} (h : off % 4 = 0) (w : Writer) (v : BitVec 64) (s : State) :
    exec (.registerWrite w off .word v) s = .next (s.writeWord w off (v.toNat % 2 ^ 32)) := by
  show Host.Outcome.next (if off % 4 = 0 then _ else s) = _
  rw [if_pos h]

theorem exec_registerWrite_double {off : Nat} (h : off % 8 = 0) (w : Writer) (v : BitVec 64) (s : State) :
    exec (.registerWrite w off .double v) s =
      .next ((s.writeWord w off (v.toNat % 2 ^ 32)).writeWord w (off + 4) (v.toNat / 2 ^ 32)) := by
  show Host.Outcome.next (if off % 8 = 0 then _ else s) = _
  rw [if_pos h]

/-- The forms of an access that do not act. -/
def Inert (off : Nat) (form : AccessForm) : Prop :=
  form = .other ∨ (form = .word ∧ off % 4 ≠ 0) ∨ (form = .double ∧ off % 8 ≠ 0)

theorem exec_registerWrite_inert {off : Nat} {form : AccessForm} (h : Inert off form) (w : Writer) (v : BitVec 64) (s : State) :
    exec (.registerWrite w off form v) s = .next s := by
  rcases h with rfl | ⟨rfl, h⟩ | ⟨rfl, h⟩
  · rfl
  · exact congrArg Host.Outcome.next (if_neg h)
  · exact congrArg Host.Outcome.next (if_neg h)

theorem State.readAs_inert {off : Nat} {form : AccessForm} (h : Inert off form) (s : State) (r : Nat) :
    s.readAs r off form = s.emit (.readData r off 0) := by
  rcases h with rfl | ⟨rfl, h⟩ | ⟨rfl, h⟩
  · rfl
  · exact if_neg h
  · exact if_neg h

theorem State.readAs_word {off : Nat} (h : off % 4 = 0) (s : State) (r : Nat) :
    s.readAs r off .word = State.answer r off (s.readWord r off) := if_pos h

theorem State.readAs_double {off : Nat} (h : off % 8 = 0) (s : State) (r : Nat) :
    s.readAs r off .double = State.answer r off ((s.readWord r off).1 + ((s.readWord r off).2.readWord r (off + 4)).1 * 2 ^ 32,
      ((s.readWord r off).2.readWord r (off + 4)).2) := if_pos h

theorem exec_lowWordRead {w : Writer} (h : w ≠ .debug) (off : Nat) (form : AccessForm) (s : State) :
    exec (.lowWordRead w off form) s = .next (s.readAs (readerOf w) off form) :=
  congrArg Host.Outcome.next (if_neg h)

/-- A HALTED device has gated the debug window (R98). -/
theorem exec_lowWordRead_gated {s : State} (h : s.halted = true) (off : Nat) (form : AccessForm) :
    exec (.lowWordRead .debug off form) s = .next s :=
  congrArg Host.Outcome.next ((if_pos rfl).trans (if_pos h))

/-- A read through the debug window is logged (R468). -/
theorem exec_lowWordRead_debug {s : State} (h : s.halted = false) (off : Nat) (form : AccessForm) :
    exec (.lowWordRead .debug off form) s =
      .next ((s.readAs 32 off form).logReg .debug off 0 (s.readWord 32 off).1 (s.readWord 32 off).1) :=
  congrArg Host.Outcome.next ((if_pos rfl).trans (if_neg (by simp [h])))

/-! ## The obligations -/

/-- Settles O18: a register without a command of its own is written plainly. -/
theorem plainRegisterWriteFollowsAccessCodes : Obligations.PlainRegisterWriteFollowsAccessCodes := by
  intro w off value s ha hr _ hw hm hc hn hf
  refine ⟨_, exec_registerWrite_word ha w value s, fun f h => ?_⟩
  obtain ⟨hid, hlog⟩ := hf f h
  rw [State.writeWord_plain hr hw hm (hc _)]
  exact s.plainWrite_get w off _ hn f h hlog hid

/-- Settles O19: each clause is the rule of `writeWord` for what the word reaches. -/
theorem registerWriteRunsTheRowsCommand : Obligations.RegisterWriteRunsTheRowsCommand := by
  intro w off value s ha
  refine ⟨fun c hr _ hw hf hm hc => ?_, ?_, fun p hh hw hlow => ?_, fun hr hm h => ?_⟩
  · obtain ⟨t, ht⟩ := rowCmd_next hc s
    exact ⟨t, by rw [exec_registerWrite_word ha, State.writeWord_row hr hw hf hm hc ht], ht⟩
  · rintro rfl
    refine ⟨_, exec_registerWrite_word ha w value s, ?_⟩
    rw [State.writeWord_reset, ← BitVec.toNat_setWidth]
    rfl
  · refine ⟨_, exec_registerWrite_word ha _ value s, ?_⟩
    rw [State.writeWord_window hh hw, State.windowWord, State.byWriter_reached (State.mayWrite_super hh p off)]
    exact s.windowWrite_held p _ hlow
  · refine ⟨_, exec_registerWrite_word ha w value s, ?_⟩
    rcases h with ⟨hw, hf⟩ | hh
    · exact State.writeWord_outside hr hm hw hf _
    · exact State.writeWord_halted hh hr hm _

theorem toNat_high (v : BitVec 64) : (v >>> 32).toNat % 2 ^ 32 = v.toNat / 2 ^ 32 := by
  rw [BitVec.toNat_ushiftRight, Nat.shiftRight_eq_div_pow]
  exact Nat.mod_eq_of_lt (Nat.div_lt_of_lt_mul v.isLt)

/-- Settles O20: an access in neither form is inert, and one of a double word is two of words. -/
theorem barAccessesActInTwoForms : Obligations.BarAccessesActInTwoForms := by
  intro off form s
  refine ⟨fun h => ⟨fun w v => exec_registerWrite_inert h w v s, fun w hw => ?_⟩, fun h => ⟨fun w v => ?_, fun w hw => ?_⟩⟩
  · rw [exec_lowWordRead hw, State.readAs_inert h]
  · refine ⟨_, _, exec_registerWrite_word (by omega) w v s, exec_registerWrite_word (by omega) w _ _, ?_⟩
    rw [exec_registerWrite_double h, toNat_high]
  · let low := s.readWord (readerOf w) off
    let high := low.2.readWord (readerOf w) (off + 4)
    refine ⟨low.1, high.1, low.2, high.2, ?_, ?_, ?_⟩
    · rw [exec_lowWordRead hw, State.readAs_word (by omega), State.answer]
    · rw [exec_lowWordRead hw, State.readAs_word (by omega), State.answer]
    · rw [exec_lowWordRead hw, State.readAs_double h, State.answer]

end Sys2Proof.Machine
end

/-! # Proofs: words read (R12) -/

section
namespace Sys2Proof.Machine

theorem State.readWord_sent (s : State) (r off : Nat) : s.out <:+ (s.readWord r off).2.out :=
  (State.readWord_keeps (m0 := anything) (.refl _ s) (by decide)).sent

/-- A read's answer is sent. -/
theorem State.answer_sent (s : State) (r off : Nat) :
    s.Sent (State.answer r off (s.readWord r off)) (fun o => o = .readData r off (s.readWord r off).1) :=
  (State.sent_emit (s.readWord r off).2 _ (fun o => o = .readData r off (s.readWord r off).1) rfl).before (s.readWord_sent r off)

/-- Whether a reader sees the 64-bit quantity at an offset: a VF those of its own view alone. -/
def SeesQuantity (r off : Nat) : Prop := readerView r = 0 ∨ off < 0x100

/-- The high word that the read of a low word finds. -/
def State.highWord (s : State) (r off : Nat) : Nat :=
  ((s.readFields (readable (viewFields (readerView r) off))).2.readFields (readable (viewFields (readerView r) (off + 4)))).1

/-- The read of a low word latches the high word for its reader. -/
theorem State.readWord_low_latches {r off : Nat} (hl : isLow off = true) (hh : isLow (off - 4) = false)
    (hv : SeesQuantity r off) (s : State) (d : Nat) :
    Table.getD (s.readWord r off).2.latches (latchKey r (off + 4)) d = s.highWord r off := by
  unfold State.readWord
  rw [if_neg (by simp [hh])]
  dsimp only
  rw [if_pos ⟨hl, hv⟩]
  exact Table.getD_put_same _ _ _ _

/-- The read of a high word answers with the latch. -/
theorem State.readWord_high {r off : Nat} (hl : isLow off = true) (hv : SeesQuantity r (off + 4)) (s : State) :
    ∃ d, (s.readWord r (off + 4)).1 = Table.getD s.latches (latchKey r (off + 4)) d := by
  unfold State.readWord
  rw [if_pos ⟨by omega, hl, hv⟩]
  exact ⟨_, rfl⟩

/-- Settles O21: an answer is sent, a low word's read leaves the high word in the latch, and the high word's read takes it from there. -/
theorem lowWordReadLatchesTheHighWord : Obligations.LowWordReadLatchesTheHighWord := by
  intro w off s ha
  refine ⟨fun h => ?_, fun hw hh => ?_, fun hw hl hp hv t u e hu => ?_⟩
  · by_cases hw : w = .debug
    · subst hw
      have hh : s.halted = false := h.resolve_left (fun x => x rfl)
      refine ⟨_, exec_lowWordRead_debug hh off .word, ?_⟩
      rw [State.readAs_word ha]
      exact (s.answer_sent 32 off).after (State.logReg_only _ .debug off 0 _ _).sent
    · refine ⟨_, exec_lowWordRead hw off .word s, ?_⟩
      rw [State.readAs_word ha]
      exact s.answer_sent (readerOf w) off
  · subst hw
    exact ⟨s, exec_lowWordRead_gated hh off .word, rfl⟩
  · rw [exec_lowWordRead hw, State.readAs_word ha] at e
    obtain rfl := Host.Outcome.next.inj e
    obtain ⟨d, hd⟩ := State.readWord_high hl hv u
    have hlow : SeesQuantity (readerOf w) off := hv.imp_right (by omega)
    have hhigh : (u.readWord (readerOf w) (off + 4)).1 = s.highWord (readerOf w) off := by
      rw [hd, hu]
      exact State.readWord_low_latches hl hp hlow s d
    refine ⟨_, exec_lowWordRead hw (off + 4) .word u, ?_⟩
    rw [State.readAs_word (by omega)]
    have hs := u.answer_sent (readerOf w) (off + 4)
    rwa [hhigh] at hs

end Sys2Proof.Machine
end

/-! # Proofs: the state after reset -/

section
namespace Sys2Proof.Machine

theorem State.reset_sound : State.reset.Sound := ⟨.nil, .nil, fun _ h => nomatch h⟩

/-- Settles O3: both stores are empty, so every field reads its reset value and every address the fill. -/
theorem resetStateIsSound : Obligations.ResetStateIsSound :=
  ⟨State.reset_sound, rfl, rfl, fun _ => rfl, fun _ => rfl⟩

end Sys2Proof.Machine
end

/-! # Proofs: a tick (R39, R40) -/

section
namespace Sys2Proof.Machine

theorem within_self (a : Nat) : within a a = true := beq_iff_eq.2 (Nat.or_self a)

/-- A law of `Keeps` for a field whose copies share the name of `g`. -/
theorem Keeps.get_like {w : Nat} {s t : State} (k : Keeps w s t) {f : Field} (g : Field) (hf : f.id = g.id)
    (h : w.testBit (64 + g.id % 1024) = false) : t.get f = s.get f :=
  k.regs f (by rw [hf, h])

/-- What each step of a fold leaves, the fold leaves. -/
theorem foldl_same {α β γ : Type} (v : α → γ) {f : α → β → α} (h : ∀ a b, v (f a b) = v a) (l : List β) (a : α) :
    v (l.foldl f a) = v a := by
  induction l generalizing a with
  | nil => rfl
  | cons b l ih => exact (ih _).trans (h a b)

/-- The local count is the one thing of a tick's time that advances by itself; mappings and the 10 MHz output follow it. -/
theorem State.tickTime_lc (s : State) : s.tickTime.lc = s.lc + 1 := by
  let t : State := { s with lc := s.lc + 1 }
  have h0 : (t.governs 0).lc = s.lc + 1 := (State.governs_keeps (.refl _ t) (within_self _)).lcKept rfl
  have h1 : ((t.governs 0).governs 1).lc = s.lc + 1 :=
    ((State.governs_keeps (.refl _ (t.governs 0)) (within_self _)).lcKept rfl).trans h0
  exact ((State.clk10Tick_keeps (.refl _ ((t.governs 0).governs 1)) (within_self _)).lcKept rfl).trans h1

/-- What else a tick brings leaves the local count. -/
theorem State.advance_lc (s : State) : s.advance.lc = s.lc + 1 := by
  unfold State.advance
  rw [(State.barkerTick_keeps (.refl _ _) (within_self _)).lcKept rfl,
    (State.migrationTick_keeps (.refl _ _) (within_self _)).lcKept rfl,
    (State.fillTick_keeps (.refl _ _) (within_self _)).lcKept rfl,
    (State.presentTick_keeps (.refl _ _) (within_self _)).lcKept rfl,
    (State.armAudio_keeps (.refl _ _) (within_self _)).lcKept rfl,
    (State.trapezeTick_keeps (.refl _ _) (within_self _)).lcKept rfl,
    (State.ledgerTick_keeps (.refl _ _) (within_self _)).lcKept rfl, State.tickTime_lc]

theorem State.judgeAsked_lc (s : State) : s.judgeAsked.lc = s.lc :=
  (State.judgeAsked_keeps (.refl _ s) (within_self _)).lcKept rfl

theorem State.tick_pending (s : State) : s.tick.pending = s.pending :=
  (State.tick_keeps (m0 := anything) (.refl _ s) (by decide)).queue

theorem State.tick_held {s : State} (h : s.sys.rstLow = true ∨ s.sys.porLow = true) : s.tick = s := by
  rw [State.tick, if_pos]
  simpa [State.heldInReset] using h

theorem State.tick_lc {s : State} (hr : s.sys.rstLow = false) (hp : s.sys.porLow = false) : s.tick.lc = s.lc + 1 := by
  rw [State.tick, if_neg (by simp [State.heldInReset, hr, hp]), State.advance_lc, State.judgeAsked_lc]

theorem step_idle {s : State} (h : s.pending = []) : step s = .next s.tick := by
  unfold step
  rw [h]

/-- Settles O2: an idle step is the tick, which a reset holds and which else advances the local count alone. -/
theorem idleStepIsOneTick : Obligations.IdleStepIsOneTick := by
  intro s h
  refine ⟨fun hr => ?_, fun hr hp => ⟨s.tick, step_idle h, State.tick_lc hr hp, s.tick_pending.trans h⟩⟩
  rw [step_idle h, State.tick_held hr]

end Sys2Proof.Machine
end

/-! # Proofs: the snapshot and the launch words (R45, R65, R72, R73) -/

section
namespace Sys2Proof.Machine

/-! ## Fields written together -/

theorem State.setAll_get_key (l : List (Field × Nat)) (s : State) (f : Field) (h : fieldKey f ∉ l.map (fun e => fieldKey e.1)) :
    (s.setAll l).get f = s.get f := by
  induction l generalizing s with
  | nil => rfl
  | cons e l ih =>
    rw [List.map_cons, List.mem_cons, not_or] at h
    exact (ih (s.set e.1 e.2) h.2).trans (State.get_set_key _ _ _ _ h.1)

/-- Of fields with different keys that are written together each reads the value written for it. -/
theorem State.setAll_reads {l : List (Field × Nat)} (hn : (l.map (fun e => fieldKey e.1)).Nodup) (s : State) {e : Field × Nat}
    (he : e ∈ l) : (s.setAll l).get e.1 = e.2 % 2 ^ fieldWidth e.1 := by
  induction l generalizing s with
  | nil => cases he
  | cons g l ih =>
    rw [List.map_cons, List.nodup_cons] at hn
    rcases List.mem_cons.1 he with rfl | hl
    · exact (State.setAll_get_key l _ _ hn.1).trans (State.get_set_same _ _ _)
    · exact ih hn.2 (s.set g.1 g.2) hl

/-! ## The snapshot -/

/-- The DT that a snapshot stores for the primary, the secondary and the active domain. -/
def State.snapDtOf (s : State) (m : Nat) : Int := if m = 2 then s.activeDt else s.domDt m

/-- The fields of one snapshot DT, with a DT's value. -/
def snapDtFields (m : Nat) (t : Int) : List (Field × Nat) :=
  [(Reg.TIM_SNAP_DT_SEC_LO m, dtSec t), (Reg.TIM_SNAP_DT_SEC_HI m, dtSec t / 2 ^ 32), (Reg.TIM_SNAP_DT_NS m, dtNs t),
    (Reg.TIM_SNAP_DT_FRAC m, dtFrac t)]

/-- The fields of the snapshot, with their values of this tick. -/
def State.snapFields (s : State) : List (Field × Nat) :=
  (Reg.TIM_SNAP_LC_LO, s.lc) :: (Reg.TIM_SNAP_LC_HI, s.lc / 2 ^ 32) ::
    ([0, 1, 2] : List Nat).flatMap (fun m => snapDtFields m (s.snapDtOf m))

theorem State.snap_eq (s : State) : s.snap = s.setAll s.snapFields := rfl

theorem State.snapFields_nodup (s : State) : (s.snapFields.map (fun e => fieldKey e.1)).Nodup := by
  have h : (([Reg.TIM_SNAP_LC_LO, Reg.TIM_SNAP_LC_HI] ++ ([0, 1, 2] : List Nat).flatMap (fun m =>
    [Reg.TIM_SNAP_DT_SEC_LO m, Reg.TIM_SNAP_DT_SEC_HI m, Reg.TIM_SNAP_DT_NS m, Reg.TIM_SNAP_DT_FRAC m])).map fieldKey).Nodup := by
    decide
  exact h

theorem State.mem_snapFields (s : State) {m : Nat} (hm : m < 3) {e : Field × Nat} (he : e ∈ snapDtFields m (s.snapDtOf m)) :
    e ∈ s.snapFields :=
  List.mem_cons_of_mem _ (List.mem_cons_of_mem _ (List.mem_flatMap.2 ⟨m, by simpa using (by omega : m = 0 ∨ m = 1 ∨ m = 2), he⟩))

/-- The log entry of a snapshot touches none of its fields. -/
theorem State.snap_logged_get (s : State) (w : Writer) {e : Field × Nat} (he : e ∈ s.snapFields) (hlog : e.1.id ∉ loggedFields)
    (hid : e.1.id < 1024) : (s.snap.logTim w Reg.TIM_SNAP_SNAP 0 1).get e.1 = e.2 % 2 ^ fieldWidth e.1 :=
  ((s.snap.logReg_only w _ 0 0 1).regs e.1 hlog hid).trans
    ((congrArg (State.get · e.1) s.snap_eq).trans (State.setAll_reads s.snapFields_nodup s he))

theorem State.snapFields_unlogged (s : State) : ∀ i ∈ s.snapFields.map (fun e => e.1.id), i ∉ loggedFields ∧ i < 1024 := by
  have h : ∀ i ∈ [Reg.TIM_SNAP_LC_LO.id, Reg.TIM_SNAP_LC_HI.id] ++ ([0, 1, 2] : List Nat).flatMap (fun m =>
    [(Reg.TIM_SNAP_DT_SEC_LO m).id, (Reg.TIM_SNAP_DT_SEC_HI m).id, (Reg.TIM_SNAP_DT_NS m).id, (Reg.TIM_SNAP_DT_FRAC m).id]),
      i ∉ loggedFields ∧ i < 1024 := by decide
  exact h

/-- Settles O12: a snapshot writes fields with different keys from one state, and its log entry touches none of them. -/
theorem snapStoresOneInstant : Obligations.SnapStoresOneInstant := by
  intro w s hw dt
  refine ⟨s.snap.logTim w Reg.TIM_SNAP_SNAP 0 1, congrArg Host.Outcome.next (State.byWriter_reached hw _), ?_⟩
  have reads : ∀ e ∈ s.snapFields, (s.snap.logTim w Reg.TIM_SNAP_SNAP 0 1).get e.1 = e.2 % 2 ^ fieldWidth e.1 := fun e he =>
    have h := s.snapFields_unlogged _ (List.mem_map_of_mem he)
    s.snap_logged_get w he h.1 h.2
  have one : ∀ m < 3, ∀ e ∈ snapDtFields m (dt m), (s.snap.logTim w Reg.TIM_SNAP_SNAP 0 1).get e.1 = e.2 % 2 ^ fieldWidth e.1 :=
    fun m hm e he => reads e (s.mem_snapFields hm he)
  exact ⟨reads (Reg.TIM_SNAP_LC_LO, _) (.head _), reads (Reg.TIM_SNAP_LC_HI, _) (.tail _ (.head _)), fun m hm =>
    ⟨one m hm (Reg.TIM_SNAP_DT_SEC_LO m, _) (.head _), one m hm (Reg.TIM_SNAP_DT_SEC_HI m, _) (.tail _ (.head _)),
      one m hm (Reg.TIM_SNAP_DT_NS m, _) (.tail _ (.tail _ (.head _))),
      one m hm (Reg.TIM_SNAP_DT_FRAC m, _) (.tail _ (.tail _ (.tail _ (.head _))))⟩⟩

/-! ## Launch words -/

theorem State.logReg_tim (s : State) (w : Writer) (off : Nat) (code : Code) (old new : Nat) :
    (s.logReg w off code old new).tim = s.tim :=
  (s.logReg_only w off code old new).rest .tim (by decide)

/-- A launch queue is a part of Ringmaster. -/
theorem State.queue_of_tim {s t : State} (h : t.tim = s.tim) (u : Nat) : t.queue u = s.queue u := by
  unfold State.queue
  rw [h]

/-- The launch that supervisor firmware's word stands for, accepted now (R64). -/
def State.wordLaunch (s : State) (w : Nat) : QLaunch :=
  { kind := lwKind w, ref := lwRef w, tag := lwTag w, instant := lwInstant w, accepted := s.lc, act := .firmware }

/-- A valid launch word for a queue with room is queued. -/
theorem State.launchWrite_queued {s : State} {w : Nat} (hv : s.launchValid w = true)
    (hq : (s.queue (lwUnit w)).length < queueDepth) (p : Nat) :
    (s.launchWrite p w).queue (lwUnit w) = s.queue (lwUnit w) ++ [s.wordLaunch w] := by
  unfold State.launchWrite
  rw [if_neg (by simp [hv]), if_neg (by omega), State.queue_of_tim (State.logReg_tim _ _ _ _ _ _), State.enqueue,
    if_neg (by omega), State.queue_setQueue]
  rfl

/-- An invalid launch word, and one for a full queue, is only logged. -/
theorem State.launchWrite_refused {s : State} {w : Nat}
    (h : s.launchValid w = false ∨ queueDepth ≤ (s.queue (lwUnit w)).length) (p : Nat) : (s.launchWrite p w).tim = s.tim := by
  unfold State.launchWrite
  dsimp only
  split
  · exact s.logReg_tim _ _ _ _ _
  · next hv =>
    rw [if_pos (h.resolve_left (by simpa using hv))]
    exact s.logReg_tim _ _ _ _ _

/-- Settles O14: the two rules of a launch word, once its writer reaches the queue window. -/
theorem launchWordsAreQueuedOrRefused : Obligations.LaunchWordsAreQueuedOrRefused := by
  intro p w s hw
  have run : exec (.launchWindowWrite p w) s = .next (s.launchWrite p w.toNat) :=
    congrArg Host.Outcome.next (State.byWriter_reached hw _)
  exact ⟨fun hv hq => ⟨_, run, State.launchWrite_queued hv hq p⟩, fun h => ⟨_, run, State.launchWrite_refused h p⟩⟩

/-! ## Cancelled launches -/

/-- Completions of cancelled launches leave Ringmaster as it is. -/
theorem State.cancelled_tim (l : List QLaunch) (s : State) : (s.cancelled l).tim = s.tim :=
  (State.cancelled_keeps (.refl _ s) (within_self _)).timKept rfl

/-- What a cancel leaves of its unit's queue. -/
theorem State.cancel_queue (s : State) (u : Nat) (p : QLaunch → Bool) :
    (s.cancel u p).queue u = (s.queue u).filter (fun q => !(p q)) := by
  rw [State.cancel, State.queue_of_tim (State.cancelled_tim _ _), State.queue_setQueue]

theorem State.cancel_queue_other (s : State) {u v : Nat} (h : v ≠ u) (p : QLaunch → Bool) : (s.cancel u p).queue v = s.queue v := by
  rw [State.cancel, State.queue_of_tim (State.cancelled_tim _ _), State.queue_setQueue_other _ _ _ _ h]

theorem State.cancel_fired (s : State) (u : Nat) (p : QLaunch → Bool) : (s.cancel u p).tim.fired = s.tim.fired := by
  rw [State.cancel, State.cancelled_tim]
  rfl

/-- A cancel that finds none of its launches rewrites its queue as it stands. -/
theorem State.cancel_none {s : State} {u : Nat} {p : QLaunch → Bool} (h : ∀ q ∈ s.queue u, p q = false) :
    s.cancel u p = s.setQueue u (s.queue u) := by
  rw [State.cancel, List.filter_eq_self.2 (fun q hq => by simp [h q hq]),
    List.filter_eq_nil_iff.2 (fun q hq => by simp [h q hq]), State.cancelled]

/-- A launch that fires now stands at the head of its queue. -/
theorem State.launchCancel_fires {s : State} {u : Nat} {q : QLaunch} {l : List QLaunch} (hf : s.firesNow u = true)
    (hq : s.queue u = q :: l) (tag : Nat) :
    s.launchCancel u tag = ((s.setQueue u l).cancel u (fun x => x.tag == tag)).setQueue u (q :: l.filter (fun x => !(x.tag == tag))) := by
  rw [State.launchCancel, if_pos hf, hq]

theorem State.launchCancel_waits {s : State} {u : Nat} (hf : s.firesNow u = false) (tag : Nat) :
    s.launchCancel u tag = s.cancel u (fun x => x.tag == tag) := by
  rw [State.launchCancel, if_neg (by simp [hf])]

theorem State.queue_of_firesNow {s : State} {u : Nat} (hf : s.firesNow u = true) : ∃ q l, s.queue u = q :: l := by
  unfold State.firesNow at hf
  split at hf
  · cases hf
  · next q l h => exact ⟨q, l, h⟩

/-- A cancel touches no other queue. -/
theorem State.launchCancel_queue_other (s : State) {u v : Nat} (h : v ≠ u) (tag : Nat) :
    (s.launchCancel u tag).queue v = s.queue v := by
  cases hf : s.firesNow u with
  | false => rw [State.launchCancel_waits hf, State.cancel_queue_other _ h]
  | true =>
    obtain ⟨q, l, hq⟩ := State.queue_of_firesNow hf
    rw [State.launchCancel_fires hf hq, State.queue_setQueue_other _ _ _ _ h, State.cancel_queue_other _ h,
      State.queue_setQueue_other _ _ _ _ h]

/-- A cancel touches no launch that has fired. -/
theorem State.launchCancel_fired (s : State) (u tag : Nat) : (s.launchCancel u tag).tim.fired = s.tim.fired := by
  cases hf : s.firesNow u with
  | false => rw [State.launchCancel_waits hf, State.cancel_fired]
  | true =>
    obtain ⟨q, l, hq⟩ := State.queue_of_firesNow hf
    rw [State.launchCancel_fires hf hq]
    exact State.cancel_fired _ _ _

/-- A cancel of a tag that no launch of the unit carries changes no more than Ringmaster, whose queue of the unit stays. -/
theorem State.launchCancel_none {s : State} {u tag : Nat} (h : ∀ q ∈ s.queue u, q.tag ≠ tag) :
    ∃ x : Tim, s.launchCancel u tag = { s with tim := x } ∧ (s.launchCancel u tag).queue u = s.queue u := by
  cases hf : s.firesNow u with
  | false =>
    rw [State.launchCancel_waits hf, State.cancel_none (fun q hq => by simpa using h q hq)]
    exact ⟨_, rfl, State.queue_setQueue _ _ _⟩
  | true =>
    obtain ⟨q, l, hq⟩ := State.queue_of_firesNow hf
    have hl : ∀ x ∈ l, x.tag ≠ tag := fun x hx => h x (hq ▸ List.mem_cons_of_mem _ hx)
    rw [State.launchCancel_fires hf hq, State.cancel_none (fun x hx => by simpa using hl x (by simpa using hx)),
      List.filter_eq_self.2 (fun x hx => by simpa using hl x hx), hq]
    exact ⟨_, rfl, State.queue_setQueue _ _ _⟩

/-! ## The Ledger with room -/

/-- An entry that finds room in the intake queue raises nothing. -/
theorem State.offer_room {s : State} (h : s.ledger.intake.length < ledgerIntake) (e : LedgerEntry) :
    ∃ x : Ledger, s.offer e = { s.set Reg.LDG_NEXT_SEQ (s.get Reg.LDG_NEXT_SEQ + 1) with ledger := x } := by
  unfold State.offer
  rw [if_neg (by omega)]
  exact ⟨_, rfl⟩

/-- A logged write with room in the intake queue sends nothing and raises nothing. -/
theorem State.logReg_room {s : State} (h : s.ledger.intake.length < ledgerIntake) (w : Writer) (off : Nat) (code : Code) (old new : Nat) :
    (s.logReg w off code old new).out = s.out ∧
      ∀ i, (s.logReg w off code old new).get (Reg.BRK_LATCH i) = s.get (Reg.BRK_LATCH i) := by
  obtain ⟨x, hx⟩ := State.offer_room h (s.ledgerEntry (originOf w) (originIndexOf w) 0 false code off old new)
  have key : ∀ i, (s.set Reg.LDG_NEXT_SEQ (s.get Reg.LDG_NEXT_SEQ + 1)).get (Reg.BRK_LATCH i) = s.get (Reg.BRK_LATCH i) := fun i =>
    State.get_set_other _ _ _ _ (show (Reg.BRK_LATCH 0).id % 1024 ≠ Reg.LDG_NEXT_SEQ.id % 1024 by decide)
  unfold State.logReg
  rw [hx]
  dsimp only
  split
  · unfold State.mirrorCfg State.mirror
    split_ifs <;> exact ⟨rfl, key⟩
  · exact ⟨rfl, key⟩

/-- Settles O15: what a cancel does to its queue and leaves of the others, once its writer reaches TIM_LCANCEL. -/
theorem launchCancelRemovesItsTag : Obligations.LaunchCancelRemovesItsTag := by
  intro w u tag s hw
  refine ⟨_, congrArg Host.Outcome.next (State.byWriter_reached hw _), ?_⟩
  let v := s.launchCancel u.toNat tag.toNat
  have htim : (v.logTim w Reg.TIM_LCANCEL_UNIT 0 (u.toNat * 2 ^ 16 + tag.toNat)).tim = v.tim := State.logReg_tim _ _ _ _ _ _
  refine ⟨fun hf => ?_, fun q l hf hq => ?_, fun x hx => ?_, ?_, fun hn hl => ?_⟩
  · rw [State.queue_of_tim htim]
    exact (congrArg (State.queue · u.toNat) (State.launchCancel_waits hf _)).trans (State.cancel_queue _ _ _)
  · rw [State.queue_of_tim htim]
    exact (congrArg (State.queue · u.toNat) (State.launchCancel_fires hf hq _)).trans (State.queue_setQueue _ _ _)
  · rw [State.queue_of_tim htim]
    exact State.launchCancel_queue_other s hx _
  · rw [htim]
    exact State.launchCancel_fired s _ _
  · obtain ⟨x, hx, hqueue⟩ := State.launchCancel_none hn
    obtain ⟨hout, hlatch⟩ := State.logReg_room (s := v) (by rw [show v = _ from hx]; exact hl) w Reg.TIM_LCANCEL_UNIT.off 0 0
      (u.toNat * 2 ^ 16 + tag.toNat)
    refine ⟨(State.queue_of_tim htim _).trans hqueue, hout.trans ?_, fun i => (hlatch i).trans ?_⟩
    · rw [show v = _ from hx]
    · rw [show v = _ from hx]
      rfl

end Sys2Proof.Machine
end

/-! # Proofs: time domains under control (R41, R53, R54, R57, R516) -/

section
namespace Sys2Proof.Machine

/-! ## A domain's state -/

@[simp] theorem State.domain_setDomain (s : State) (d : Nat) (x : Domain) : (s.setDomain d x).domain d = x := by
  unfold State.setDomain State.domain
  split <;> rfl

theorem State.domain_of_tim {s t : State} (h : t.tim = s.tim) (d : Nat) : t.domain d = s.domain d := by
  unfold State.domain
  rw [h]

@[simp] theorem State.setAll_tim (l : List (Field × Nat)) (s : State) : (s.setAll l).tim = s.tim := by
  induction l generalizing s with
  | nil => rfl
  | cons e l ih => exact ih _

@[simp] theorem State.setAll_domain (s : State) (l : List (Field × Nat)) (d : Nat) : (s.setAll l).domain d = s.domain d :=
  State.domain_of_tim (s.setAll_tim l) d

/-! ## What a logged write leaves -/

theorem State.logReg_activeDom (s : State) (w : Writer) (off : Nat) (code : Code) (old new : Nat) :
    (s.logReg w off code old new).activeDom = s.activeDom :=
  (s.logReg_only w off code old new).regs Reg.TIM_CTRL_ACTIVE (by decide) (by decide)

/-- Lanes that come up or go down leave Ringmaster. -/
theorem State.relane_tim (s : State) : s.relane.tim = s.tim :=
  (State.relane_keeps (.refl _ s) (within_self _)).timKept rfl

/-- A logged write that brings lanes up or down leaves the mapping and the servo of every domain. -/
structure State.SameDomains (s t : State) : Prop where
  enabled : ∀ d, t.domEnabled d = s.domEnabled d
  servo : ∀ d, t.servo d = s.servo d
  rate : ∀ d, t.get (Reg.TIM_DOM_RATE d) = s.get (Reg.TIM_DOM_RATE d)
  domain : ∀ d, t.domain d = s.domain d

theorem State.SameDomains.trans {s t u : State} (h : s.SameDomains t) (k : t.SameDomains u) : s.SameDomains u :=
  ⟨fun d => (k.enabled d).trans (h.enabled d), fun d => (k.servo d).trans (h.servo d), fun d => (k.rate d).trans (h.rate d),
    fun d => (k.domain d).trans (h.domain d)⟩

/-- An operation that reaches neither the three fields nor the domains. -/
theorem Keeps.sameDomains {w : Nat} {s t : State} (k : Keeps w s t) (hd : ∀ d, t.domain d = s.domain d)
    (he : w.testBit (64 + (Reg.TIM_DOM_ENABLE 0).id % 1024) = false := by decide)
    (hs : w.testBit (64 + (Reg.TIM_DOM_STATE 0).id % 1024) = false := by decide)
    (hr : w.testBit (64 + (Reg.TIM_DOM_RATE 0).id % 1024) = false := by decide) : s.SameDomains t :=
  ⟨fun _ => congrArg (· != 0) (k.get_like (Reg.TIM_DOM_ENABLE 0) rfl he), fun _ => k.get_like (Reg.TIM_DOM_STATE 0) rfl hs,
    fun _ => k.get_like (Reg.TIM_DOM_RATE 0) rfl hr, hd⟩

theorem State.logReg_sameDomains (s : State) (w : Writer) (off : Nat) (code : Code) (old new : Nat) :
    s.SameDomains (s.logReg w off code old new) :=
  (State.logReg_keeps (.refl _ s) (within_self _)).sameDomains (State.domain_of_tim (s.logReg_tim w off code old new))

theorem State.relane_sameDomains (s : State) : s.SameDomains s.relane :=
  (State.relane_keeps (.refl _ s) (within_self _)).sameDomains (State.domain_of_tim s.relane_tim)

/-! ## REVERT -/

/-- A switch makes the domain the active one. -/
theorem State.switchTo_activeDom (s : State) (d : Fin 2) : (s.switchTo d).activeDom = d := by
  have hd : d.val % 2 ^ fieldWidth Reg.TIM_CTRL_ACTIVE = d := Nat.mod_eq_of_lt d.isLt
  have hn : ∀ v : Nat, (([(Reg.TIM_CTRL_ACTIVE, d.val), (Reg.TIM_CTRL_SLEWING, v)] : List (Field × Nat)).map
      (fun e => fieldKey e.1)).Nodup := fun v => by
    have h : ([fieldKey Reg.TIM_CTRL_ACTIVE, fieldKey Reg.TIM_CTRL_SLEWING] : List Nat).Nodup := by decide
    exact h
  unfold State.switchTo
  dsimp only
  split
  · exact (State.setAll_reads (hn 0) _ (.head _)).trans hd
  · exact (State.setAll_reads (hn 1) _ (.head _)).trans hd

theorem exec_revert {s : State} {w : Writer} (hw : s.mayWrite w Reg.TIM_CTRL_REVERT.off = true) :
    exec (.revert w) s = .next (s.revert w) :=
  congrArg Host.Outcome.next (State.byWriter_reached hw _)

/-- With the primary LOCKED, REVERT switches to it. -/
theorem State.revert_locked {s : State} (ha : s.activeDom ≠ 0) (he : s.domEnabled 0 = true) (hs : s.servo 0 = servoLocked)
    (w : Writer) : (s.revert w).activeDom = 0 := by
  have act : s.revertAct = (s.switchTo 0, 0) := by rw [State.revertAct, if_neg ha, if_pos ⟨he, hs⟩]
  rw [State.revert, act]
  exact (State.logReg_activeDom _ _ _ _ _ _).trans (s.switchTo_activeDom 0)

/-- With the primary not LOCKED, REVERT raises 0x1206 and the active domain stays. -/
theorem State.revert_refused {s : State} (ha : s.activeDom ≠ 0) (h : ¬ (s.domEnabled 0 = true ∧ s.servo 0 = servoLocked))
    (w : Writer) : (s.revert w).activeDom = s.activeDom ∧ (s.revert w).Latches 0x1206 := by
  have act : s.revertAct = (s.raise 0x1206 objDevice {}, 0x1206) := by rw [State.revertAct, if_neg ha, if_neg h]
  rw [State.revert, act]
  refine ⟨(State.logReg_activeDom _ _ _ _ _ _).trans ?_,
    (State.raise_latches s 0x1206 objDevice {}).stay (State.logReg_latchesStay (.refl _))⟩
  exact (State.raise_keeps (.refl _ s) (within_self _)).regs _ rfl

/-! ## Enabling and disabling -/

theorem State.renewX_tim (s : State) (i : Nat) : (s.renewX i).tim = s.tim :=
  (State.renewX_keeps (.refl _ s) (within_self _)).timKept rfl

theorem State.queueGate_domain (s : State) (i d : Nat) : (s.queueGate i).domain d = s.domain d := by
  unfold State.queueGate
  dsimp only
  split <;> rfl

/-- Gate lists computed again leave the domains. -/
theorem State.renewGates_domain (s : State) (d : Nat) : s.renewGates.domain d = s.domain d :=
  foldl_same (fun t : State => t.domain d)
    (fun t i => (State.queueGate_domain (t.renewX i) i d).trans (State.domain_of_tim (t.renewX_tim i) d)) _ s

theorem State.renewGates_sameDomains (s : State) : s.SameDomains s.renewGates :=
  (State.renewGates_keeps (.refl _ s) (within_self _)).sameDomains s.renewGates_domain

/-- A domain in FREERUN at DT 0 from this tick, with RATE 0. -/
structure State.Freeruns (s : State) (d lc : Nat) : Prop where
  enabled : s.domEnabled d = true
  servo : s.servo d = servoFreerun
  rate : s.get (Reg.TIM_DOM_RATE d) = 0
  map : (s.domain d).map = ⟨0, lc, 0⟩

theorem State.Freeruns.same {s t : State} {d lc : Nat} (h : s.Freeruns d lc) (k : s.SameDomains t) : t.Freeruns d lc :=
  ⟨(k.enabled d).trans h.enabled, (k.servo d).trans h.servo, (k.rate d).trans h.rate, by rw [k.domain d, h.map]⟩

/-- The fields of a domain that is enabled have keys of their own. -/
theorem domainFields_nodup (d a b c : Nat) : (([(Reg.TIM_DOM_ENABLE d, a), (Reg.TIM_DOM_STATE d, b), (Reg.TIM_DOM_RATE d, c)] :
    List (Field × Nat)).map (fun e => fieldKey e.1)).Nodup := by
  have hes : fieldKey (Reg.TIM_DOM_ENABLE d) ≠ fieldKey (Reg.TIM_DOM_STATE d) :=
    fieldKey_ne _ _ (show (Reg.TIM_DOM_ENABLE 0).id % 1024 ≠ (Reg.TIM_DOM_STATE 0).id % 1024 by decide)
  have her : fieldKey (Reg.TIM_DOM_ENABLE d) ≠ fieldKey (Reg.TIM_DOM_RATE d) :=
    fieldKey_ne _ _ (show (Reg.TIM_DOM_ENABLE 0).id % 1024 ≠ (Reg.TIM_DOM_RATE 0).id % 1024 by decide)
  have hsr : fieldKey (Reg.TIM_DOM_STATE d) ≠ fieldKey (Reg.TIM_DOM_RATE d) :=
    fieldKey_ne _ _ (show (Reg.TIM_DOM_STATE 0).id % 1024 ≠ (Reg.TIM_DOM_RATE 0).id % 1024 by decide)
  simp [hes, her, hsr]

/-- The fields and the state of a domain as enabling writes them. -/
theorem State.enabled_freeruns (s : State) (d lc : Nat) {x : Domain} (hx : x.map = ⟨0, lc, 0⟩) :
    ((s.setDomain d x).setAll [(Reg.TIM_DOM_ENABLE d, 1), (Reg.TIM_DOM_STATE d, servoFreerun), (Reg.TIM_DOM_RATE d, 0)]).Freeruns d lc := by
  have reads {e : Field × Nat} := State.setAll_reads (e := e) (domainFields_nodup d 1 servoFreerun 0) (s.setDomain d x)
  refine ⟨congrArg (· != 0) (reads (.head _)), reads (.tail _ (.head _)), reads (.tail _ (.tail _ (.head _))), ?_⟩
  rw [State.setAll_domain, State.domain_setDomain, hx]

/-- Dropping the frozen mapping and the slew leaves the domains. -/
theorem State.unfrozen_sameDomains (s : State) : s.SameDomains { s with tim := { s.tim with frozen := none, slew := none } } :=
  ⟨fun _ => rfl, fun _ => rfl, fun _ => rfl, fun _ => rfl⟩

theorem State.domainEnable_freeruns {s : State} {d : Nat} (h : s.domEnabled d = false) : (s.domainEnable d).Freeruns d s.lc := by
  unfold State.domainEnable
  rw [if_neg (by simp [h])]
  dsimp only
  have on := s.enabled_freeruns d s.lc (x := { Domain.reset with
    map := ⟨0, s.lc, 0⟩, reqSeq := (s.domain d).reqSeq, tod := (s.domain d).tod, todFresh := (s.domain d).todFresh }) rfl
  split
  · exact (on.same (State.unfrozen_sameDomains _)).same (State.renewGates_sameDomains _)
  · exact on

/-- A domain that is out: not enabled, with no servo state and no master. -/
structure State.Disabled (s : State) (d : Nat) : Prop where
  enabled : s.domEnabled d = false
  servo : s.servo d = 0
  master : (s.domain d).master = none

theorem State.Disabled.same {s t : State} {d : Nat} (h : s.Disabled d) (k : s.SameDomains t) : t.Disabled d :=
  ⟨(k.enabled d).trans h.enabled, (k.servo d).trans h.servo, by rw [k.domain d, h.master]⟩

theorem State.domainDisable_disabled (s : State) (d : Nat) : (s.domainDisable d).Disabled d := by
  unfold State.domainDisable
  dsimp only
  generalize State.cancelAll _ _ = s2
  have reads {e : Field × Nat} := State.setAll_reads (e := e) (l := [(Reg.TIM_DOM_ENABLE d, 0), (Reg.TIM_DOM_STATE d, 0)])
    (List.Nodup.sublist (by simp) (domainFields_nodup d 0 0 0))
    (s2.setDomain d { s2.domain d with next := [], master := none, heard := [], syncs := [], sync := none, req := none })
  refine ⟨congrArg (· != 0) (reads (.head _)), reads (.tail _ (.head _)), ?_⟩
  rw [State.setAll_domain, State.domain_setDomain]

theorem exec_domainEnable {s : State} {w : Writer} {d : Fin 2} (hw : s.mayWrite w (Reg.TIM_DOM_ENABLE d.val).off = true) :
    exec (.domainEnable w d) s = .next ((s.domainEnable d).logReg w (Reg.TIM_DOM_ENABLE d).off 0 (s.get (Reg.TIM_DOM_ENABLE d)) 1).relane :=
  congrArg Host.Outcome.next (State.byWriter_reached hw _)

/-- Disabling an enabled domain that no slot holds is done and logged. -/
theorem exec_domainDisable {s : State} {w : Writer} {d : Fin 2} (hw : s.mayWrite w (Reg.TIM_DOM_ENABLE d.val).off = true)
    (he : s.domEnabled d = true) (hr : s.disableRefused d = false) :
    exec (.domainDisable w d) s =
      .next ((s.domainDisable d).logReg w (Reg.TIM_DOM_ENABLE d).off 0 (s.get (Reg.TIM_DOM_ENABLE d)) 0).relane := by
  refine (congrArg Host.Outcome.next (State.byWriter_reached hw _)).trans (congrArg Host.Outcome.next ?_)
  simp [he, hr]

/-- Disabling the active domain while a slot follows it is only logged, with 0x1201. -/
theorem exec_domainDisable_refused {s : State} {w : Writer} {d : Fin 2} (hw : s.mayWrite w (Reg.TIM_DOM_ENABLE d.val).off = true)
    (he : s.domEnabled d = true) (hr : s.disableRefused d = true) :
    exec (.domainDisable w d) s =
      .next (s.logReg w (Reg.TIM_DOM_ENABLE d).off 0x1201 (s.get (Reg.TIM_DOM_ENABLE d)) (s.get (Reg.TIM_DOM_ENABLE d))) := by
  refine (congrArg Host.Outcome.next (State.byWriter_reached hw _)).trans (congrArg Host.Outcome.next ?_)
  simp [he, hr]

/-! ## ACCEPT_JUMP and TOD_SEC -/

theorem State.toServo_servo (s : State) (d : Nat) {st : Nat} (h : st % 2 ^ fieldWidth (Reg.TIM_DOM_STATE d) = st) :
    (s.toServo d st).servo d = st :=
  (State.setDomain_get _ _ _ _).trans ((State.get_set_same _ _ _).trans h)

/-- A domain in HOLDOVER goes to ACQUIRE, its jump accepted. -/
theorem State.acceptJump_acquires {s : State} {d : Nat} (he : s.domEnabled d = true) (hs : s.servo d = servoHoldover) :
    (s.acceptJump d).servo d = servoAcquire ∧ ((s.acceptJump d).domain d).acceptJump = true := by
  rw [State.acceptJump, if_pos ⟨he, hs⟩]
  exact ⟨(State.setDomain_get _ _ _ _).trans (s.toServo_servo d rfl), by rw [State.domain_setDomain]⟩

/-- The second written is the low word of the second that the next PPS_IN edge denotes. -/
theorem State.todWrite_names (s : State) (d : Nat) {sec : Nat} (h : sec < 2 ^ 32) :
    ((s.todWrite d sec).domain d).todFresh = true ∧ ∃ x, ((s.todWrite d sec).domain d).tod = some x ∧ x % 2 ^ 32 = sec := by
  rw [State.todWrite, State.domain_setDomain]
  exact ⟨rfl, _, rfl, by rw [Nat.mul_add_mod', Nat.mod_eq_of_lt h]⟩

theorem exec_acceptJump {s : State} {w : Writer} {d : Fin 2} (hw : s.mayWrite w (Reg.TIM_DOM_ACCEPT_JUMP d.val).off = true) :
    exec (.acceptJump w d) s = .next ((s.acceptJump d).logTim w (Reg.TIM_DOM_ACCEPT_JUMP d) 0 (2 ^ 30)) :=
  congrArg Host.Outcome.next (State.byWriter_reached hw _)

theorem exec_todSecWrite {s : State} {w : Writer} {d : Fin 2} {sec : BitVec 32}
    (hw : s.mayWrite w (Reg.TIM_DOM_TOD_SEC d.val).off = true) :
    exec (.todSecWrite w d sec) s = .next ((s.todWrite d sec.toNat).logTim w (Reg.TIM_DOM_TOD_SEC d) 0 sec.toNat) :=
  congrArg Host.Outcome.next (State.byWriter_reached hw _)

/-- Settles O13: each control's own effect, which the log entry and the lanes it brings up or down leave. -/
theorem timeDomainsAreControlled : Obligations.TimeDomainsAreControlled := by
  refine ⟨fun w s hw ha => ⟨fun he hs => ⟨_, exec_revert hw, State.revert_locked ha he hs w⟩,
      fun h => ⟨_, exec_revert hw, State.revert_refused ha h w⟩⟩,
    fun w d s hw => ⟨fun h => ?_, fun he hr => ?_, fun he hr => ?_⟩, fun w d s => ⟨fun hw he hs => ?_, fun sec hw => ?_⟩⟩
  · obtain ⟨hen, hsv, hrate, hmap⟩ :=
      ((State.domainEnable_freeruns h).same (State.logReg_sameDomains _ w _ _ _ _)).same (State.relane_sameDomains _)
    exact ⟨_, exec_domainEnable hw, hen, hsv, hrate, hmap⟩
  · obtain ⟨hen, hsv, hm⟩ :=
      ((s.domainDisable_disabled d).same (State.logReg_sameDomains _ w _ _ _ _)).same (State.relane_sameDomains _)
    exact ⟨_, exec_domainDisable hw he hr, hen, hsv, hm⟩
  · exact ⟨_, exec_domainDisable_refused hw he hr, ((s.logReg_sameDomains _ _ _ _ _).enabled d).trans he, s.logReg_tim _ _ _ _ _⟩
  · obtain ⟨hsv, hj⟩ := State.acceptJump_acquires he hs
    have same := State.logReg_sameDomains (s.acceptJump d) w (Reg.TIM_DOM_ACCEPT_JUMP d).off 0 0 (2 ^ 30)
    exact ⟨_, exec_acceptJump hw, (same.servo d).trans hsv, (congrArg Domain.acceptJump (same.domain d)).trans hj⟩
  · have same := State.logReg_sameDomains (s.todWrite d sec.toNat) w (Reg.TIM_DOM_TOD_SEC d).off 0 0 sec.toNat
    refine ⟨_, exec_todSecWrite hw, ?_⟩
    dsimp only [State.logTim]
    rw [same.domain d]
    exact s.todWrite_names d sec.isLt

end Sys2Proof.Machine
end

/-! # Proofs: descriptors (R86, R119 to R126) -/

section
namespace Sys2Proof.Machine

open Sys2Proof

/-- An open VF 1 whose admin rings 64 and 65 stand ACTIVE on pen 1, one descriptor in ring 64. -/
def vfHosted : State :=
  { Tests.on [(Reg.HIF_FN_STATUS_OPENED 1, 1), (Reg.HIF_FN_STATUS_ABI_MINOR 1, 2)] with
    fns := [(0, ⟨0, 0⟩), (1, ⟨0, 1⟩)]
    rings := [(64, { Tests.ring .sub 65 with fn := 1 }), (65, { Tests.ring .cpl 64 with fn := 1, prod := 0 })] }

/-- Its descriptor: MODE, which only the PF may post. -/
def vfMode : Desc := { Tests.desc 0 0 5 with rid := 64 }

theorem vfMode_servable : vfHosted.servable .sub vfMode.rid.val vfMode.fence = true := by decide +kernel

/-- A MODE command that a VF posts fails with 0x1303. -/
theorem vfMode_fails : vfHosted.descFailure modeSpec (vfHosted.submitter vfMode) vfMode = some 0x1303 := by decide +kernel

/-- The refusal is counted (R86). -/
theorem vfMode_counted : Tests.after (.mode vfMode) vfHosted Reg.PWR_REFUSED_CNT = some 1 := by decide +kernel

theorem vfMode_uncounted : vfHosted.get Reg.PWR_REFUSED_CNT = 0 := by decide +kernel

/-- Refutes O22: the second clause lets a failed descriptor change no register field but six, and PWR_REFUSED_CNT is none of them, yet
a MODE command posted by a VF fails its check with 0x1303 and is counted there (R86). -/
theorem not_descriptorsWaitFailOrAreTimed : ¬ Obligations.DescriptorsWaitFailOrAreTimed := by
  rintro ⟨-, fails, -⟩
  obtain ⟨t, ht, -, -, -, -, -, keeps⟩ :=
    fails (.mode vfMode) modeSpec vfMode vfHosted 0x1303 rfl vfMode_servable vfMode_fails
  have counted : t.get Reg.PWR_REFUSED_CNT = 1 := by
    have h := vfMode_counted
    rw [Tests.after, ht] at h
    exact Option.some.inj h
  have kept : t.get Reg.PWR_REFUSED_CNT = 0 := (keeps Reg.PWR_REFUSED_CNT (by decide) (by decide)).trans vfMode_uncounted
  omega

end Sys2Proof.Machine
end

/-! # Proofs: resets (R39, R87, R506) -/

section
namespace Sys2Proof.Machine

open Sys2Proof

/-! ## PWR_RESET -/

/-- With its key PWR_RESET sets the timer of the reset, which the log entry leaves. -/
theorem State.pwrResetWrite_keyed {s : State} {w : Writer} {v : Nat}
    (ok : viewOf w = 0 ∧ (w ≠ .debug ∨ s.halted = false) ∧ bits v 31 16 = 0xA5C3 ∧ bit v 0 ∧ s.sys.resetAt.isNone) :
    (s.pwrResetWrite w v).sys.resetAt = some (s.lc + ticksPerUs) := by
  rw [State.pwrResetWrite, if_pos ok, (State.logReg_only _ _ _ _ _ _).rest .sys (by decide)]

theorem State.pwrResetWrite_ignored {s : State} {w : Writer} {v : Nat}
    (h : ¬ (viewOf w = 0 ∧ (w ≠ .debug ∨ s.halted = false) ∧ bits v 31 16 = 0xA5C3 ∧ bit v 0 ∧ s.sys.resetAt.isNone)) :
    s.pwrResetWrite w v = s :=
  if_neg h

/-! ## A device reset -/

/-- The state a reset starts from, before the fused fields are written back. -/
def State.resetTo (s : State) (rstLow porLow : Bool) : State :=
  { State.reset with
    fw := { Fw.reset with owner := s.fw.owner }
    sys := { Sys.reset with rstLow := rstLow, porLow := porLow }
    out := s.out, free := s.free, pending := s.pending }

/-- The fused fields with their values. -/
def State.fusedValues (s : State) : List (Field × Nat) := fusedFields.map (fun f => (f, s.get f))

theorem State.fusedValues_keys (s : State) : s.fusedValues.map (fun e => fieldKey e.1) = fusedFields.map fieldKey := List.map_map

/-- The pins a reset releases touch nothing of the state. -/
theorem State.deviceReset_from (s : State) (r p : Bool) :
    Keeps 0 ((s.resetTo r p).setAll s.fusedValues) (s.deviceReset r p) :=
  State.releasePins_keeps (.refl _ _) (within_self _)

theorem State.deviceReset_pending (s : State) (r p : Bool) : (s.deviceReset r p).pending = s.pending := (s.deviceReset_from r p).queue

theorem State.deviceReset_mem (s : State) (r p : Bool) : (s.deviceReset r p).mem = [] := (s.deviceReset_from r p).memKept rfl

theorem State.deviceReset_lc (s : State) (r p : Bool) : (s.deviceReset r p).lc = 0 := (s.deviceReset_from r p).lcKept rfl

theorem State.deviceReset_rings (s : State) (r p : Bool) : (s.deviceReset r p).rings = [] := (s.deviceReset_from r p).ringsKept rfl

theorem State.deviceReset_sys (s : State) (r p : Bool) :
    (s.deviceReset r p).sys = { Sys.reset with rstLow := r, porLow := p } :=
  (s.deviceReset_from r p).sysKept rfl

/-- A field that is not fused reads its reset value. -/
theorem State.deviceReset_get {f : Field} (h : fieldKey f ∉ fusedFields.map fieldKey) (s : State) (r p : Bool) :
    (s.deviceReset r p).get f = f.reset := by
  rw [(s.deviceReset_from r p).regs f (Nat.zero_testBit _)]
  exact State.setAll_get_key _ _ _ (s.fusedValues_keys ▸ h)

theorem State.fusedValues_nodup (s : State) : (s.fusedValues.map (fun e => fieldKey e.1)).Nodup := by
  rw [State.fusedValues_keys]
  decide

/-- A fused field keeps its value. -/
theorem State.deviceReset_fused {f : Field} (h : f ∈ fusedFields) (s : State) (r p : Bool) :
    (s.deviceReset r p).get f = s.get f % 2 ^ fieldWidth f := by
  rw [(s.deviceReset_from r p).regs f (Nat.zero_testBit _)]
  exact State.setAll_reads (e := (f, s.get f)) s.fusedValues_nodup _ (List.mem_map_of_mem h)

/-! ## The boot that follows the timer's reset -/

theorem State.setPds_get {f : Field} (hf : f.id % 1024 ≠ (Reg.PWR_PD_ON 0).id % 1024) (s : State) (on : Bool) (l : List Nat) :
    (s.setPds on l).get f = s.get f :=
  foldl_same (fun t : State => t.get f) (fun _ p => State.get_set_key _ (Reg.PWR_PD_ON (p / 32)) _ _ (fieldKey_ne _ _ hf)) l s

theorem State.setPds_lc (s : State) (on : Bool) (l : List Nat) : (s.setPds on l).lc = s.lc :=
  (State.setPds_keeps (.refl _ s) (within_self _)).lcKept rfl

/-- With no pair fenced pair 0 is the lowest healthy one. -/
theorem State.lowestPair_unfenced {s : State} (h : s.get Reg.PWR_FENCE_PAIR = 0) : s.lowestPair = some 0 := by
  simp [State.lowestPair, State.pairHealthy, h, fourSlots, bit]

/-- The boot ROM, no unit failing its self-test and no pair fenced: pair 0 is the active one, and the strap names the boot path. -/
theorem State.boot_unfailed {s : State} {b : Boot} (hb : b.failed = []) (hf : s.get Reg.PWR_FENCE_PAIR = 0) (strap smb : Nat) :
    (s.boot strap smb b).lc = s.lc ∧ (s.boot strap smb b).activePair = 0 ∧
      (s.boot strap smb b).phase = if strap = 1 then phaseBootWait else phaseBoot := by
  let s0 : State := { s with sys := { s.sys with smbAddr := smb }, dram := { s.dram with populated := b.populated.toNat } }
  let s1 := (s0.set Reg.PWR_BOOT_BOOT_STRAP strap).setPds true [0, 1]
  let s2 := s1.set Reg.PWR_MODE_STATUS_ACTIVE_PAIR 0
  let phase := if strap = 1 then phaseBootWait else phaseBoot
  have hl : s1.lowestPair = some 0 := State.lowestPair_unfenced
    ((State.setPds_get (by decide) _ _ _).trans ((State.get_set_key _ _ _ _ (by decide)).trans hf))
  have booted : s.boot strap smb b =
      (s2.setPds true (s2.neededPds modeService)).set Reg.PWR_MODE_STATUS_PHASE phase := by
    rw [State.boot, hb]
    simp only [State.bootFences]
    rw [show State.lowestPair _ = some 0 from hl]
    rfl
  rw [booted]
  refine ⟨(State.setPds_lc _ _ _).trans (State.setPds_lc _ _ _), ?_, ?_⟩
  · exact (State.get_set_key _ _ _ _ (by decide)).trans ((State.setPds_get (by decide) _ _ _).trans (State.get_set_same _ _ _))
  · refine (State.get_set_same _ _ _).trans (Nat.mod_eq_of_lt ?_)
    show phase < _
    unfold phase
    split <;> decide

/-- The timer's reset is done at its tick, and the device boots at once by the strap sampled before. -/
theorem State.resetFrom_timer {s : State} {b : Boot} {r : Nat} (hr : s.sys.resetAt = some r) (hl : r ≤ s.lc) :
    s.resetFrom (.timer b) = (s.deviceReset false false).boot (s.get Reg.PWR_BOOT_BOOT_STRAP) s.sys.smbAddr b := by
  simp only [State.resetFrom, hr, if_neg (Nat.not_lt.2 hl)]

/-- Settles O47: a reset is the reset state with the fused fields written back. -/
theorem resetsReturnTheDevice : Obligations.ResetsReturnTheDevice := by
  intro s
  refine ⟨fun w v => ⟨fun ok => ⟨_, rfl, ?_⟩, fun h => ⟨_, rfl, ?_⟩⟩, fun c hc => ?_, fun b r hr hl hb => ?_⟩
  · exact State.pwrResetWrite_keyed (by simpa only [Option.isNone_iff_eq_none] using ok)
  · exact State.pwrResetWrite_ignored (by simpa only [Option.isNone_iff_eq_none] using h)
  · rcases List.mem_pair.1 hc with rfl | rfl
    · refine ⟨s.deviceReset true s.sys.porLow, rfl, s.deviceReset_pending _ _, s.deviceReset_mem _ _, s.deviceReset_lc _ _,
        s.deviceReset_rings _ _, fun _ => ?_, fun h => (nomatch h), fun f hf => State.deviceReset_get hf _ _ _,
        fun f hf => State.deviceReset_fused hf _ _ _⟩
      rw [State.deviceReset_sys]
      exact ⟨rfl, rfl⟩
    · refine ⟨s.deviceReset s.sys.rstLow true, rfl, s.deviceReset_pending _ _, s.deviceReset_mem _ _, s.deviceReset_lc _ _,
        s.deviceReset_rings _ _, fun h => (nomatch h), fun _ => ?_, fun f hf => State.deviceReset_get hf _ _ _,
        fun f hf => State.deviceReset_fused hf _ _ _⟩
      rw [State.deviceReset_sys]
      exact ⟨rfl, rfl⟩
  · obtain ⟨hlc, hpair, hphase⟩ := State.boot_unfailed hb (State.deviceReset_get (by decide) s false false)
      (s.get Reg.PWR_BOOT_BOOT_STRAP) s.sys.smbAddr
    exact ⟨_, congrArg Host.Outcome.next (State.resetFrom_timer hr hl), hlc.trans (s.deviceReset_lc _ _), hpair, hphase⟩

end Sys2Proof.Machine
end

/-! # Proofs: masters, references and edges (R40, R47, R52, R54, R56, R62, R63) -/

section
namespace Sys2Proof.Machine

open Sys2Proof

/-! ## A message that one domain hears -/

theorem State.hears_of_get {s t : State} (k : ∀ f, t.get f = s.get f) (d : Nat) (h : PtpHeader) : t.hears d h = s.hears d h := by
  simp only [State.hears, State.domEnabled, State.on, k]

/-- A well-formed message that only domain d hears is delivered to d alone, when its effect there leaves the fields. -/
theorem State.ptp_heard {s : State} {h : PtpHeader} {d : Fin 2} {act : Nat → State → State} (hm : h.malformed = false)
    (hd : s.hears d h = true) (ho : s.hears (1 - d.val) h = false) (k : ∀ f, (act d s).get f = s.get f) : s.ptp h act = act d s := by
  have other : (act d s).hears (1 - d.val) h = false := (State.hears_of_get k _ h).trans ho
  unfold State.ptp
  simp only [hm, Bool.false_eq_true, false_and, if_false]
  fin_cases d
  · simp only [Nat.sub_zero] at hd other ⊢
    simp [hd, other]
  · simp only [Nat.sub_self] at hd ho ⊢
    simp [hd, ho]

/-! ## Masters -/

theorem State.selectMaster_get (s : State) (d : Nat) (f : Field) : (s.selectMaster d).get f = s.get f := by
  simp only [State.selectMaster]
  split <;> exact State.setDomain_get _ _ _ _

/-- Selection takes the best master heard. -/
theorem State.selectMaster_master (s : State) (d : Nat) : ((s.selectMaster d).domain d).master = bestMaster (s.domain d).heard := by
  simp only [State.selectMaster]
  split <;> rw [State.domain_setDomain]

theorem State.selectMaster_heard (s : State) (d : Nat) : ((s.selectMaster d).domain d).heard = (s.domain d).heard := by
  simp only [State.selectMaster]
  split <;> rw [State.domain_setDomain]

/-- An Announce is the newest heard, and the best one heard is the master. -/
theorem State.announceRx_heard (s : State) (h : PtpHeader) (a : Announce) (d : Nat) :
    ((s.announceRx h a d).domain d).heard = ⟨h.sender.toNat, a⟩ :: (s.domain d).heard.filter (fun m => m.sender != h.sender.toNat) := by
  rw [State.announceRx, State.selectMaster_heard, State.domain_setDomain]

theorem State.announceRx_master (s : State) (h : PtpHeader) (a : Announce) (d : Nat) :
    ((s.announceRx h a d).domain d).master = bestMaster ((s.announceRx h a d).domain d).heard := by
  rw [State.announceRx, State.selectMaster_heard, State.selectMaster_master]

theorem exec_announceRx {s : State} {h : PtpHeader} {d : Fin 2} (hm : h.malformed = false) (hd : s.hears d h = true)
    (ho : s.hears (1 - d.val) h = false) (a : Announce) : exec (.announceRx h a) s = .next (s.announceRx h a d) :=
  congrArg Host.Outcome.next (State.ptp_heard (act := fun d s => s.announceRx h a d) hm hd ho
    fun f => (State.selectMaster_get _ _ f).trans (State.setDomain_get _ _ _ f))

/-! ## HOLDOVER -/

theorem State.primaryLeft_latchesStay (s : State) : s.LatchesStay s.primaryLeft := by
  unfold State.primaryLeft
  split
  · exact State.logUnit_latchesStay (State.raise_latchesStay (State.switchTo_keeps (.refl _ s) (within_self _)).latchesStay)
  · exact .refl s

/-- A domain in HOLDOVER by the loss of its master or reference, before the event is raised. -/
def State.lossHeld (s : State) (d : Nat) : State :=
  ((s.drive d (s.domain d).integ false).toServo d servoHoldover).flag (Reg.TIM_DOM_LOSS_FLAG d) 1

theorem State.lossHeld_servo (s : State) (d : Nat) : (s.lossHeld d).servo d = servoHoldover := by
  refine (State.get_set_key _ _ _ _ (fieldKey_ne _ _ ?_)).trans (State.toServo_servo _ d rfl)
  show (Reg.TIM_DOM_STATE 0).id % 1024 ≠ (Reg.TIM_DOM_LOSS_FLAG 0).id % 1024
  decide

/-- A flag of one bit that is set reads 1. -/
theorem State.flag_one {f : Field} (hw : fieldWidth f = 1) (s : State) : (s.flag f 1).get f = 1 := by
  rw [State.flag, State.freshen_get, State.get_set_same, hw, pow_one, Nat.or_mod_two_eq_one.2 (.inr rfl)]

theorem State.lossHeld_latchesStay (s : State) (d : Nat) : s.LatchesStay (s.lossHeld d) := by
  intro n b _ h
  have servo : ((s.drive d (s.domain d).integ false).toServo d servoHoldover).get (Reg.BRK_LATCH n) = s.get (Reg.BRK_LATCH n) :=
    Eq.trans ((State.toServo_keeps (.refl _ _) (within_self _)).get_like (Reg.BRK_LATCH 0) rfl rfl)
      ((State.drive_keeps (.refl _ s) (within_self _)).get_like (Reg.BRK_LATCH 0) rfl rfl)
  rw [← h, ← servo]
  refine congrArg (bit · b) (State.get_set_other _ _ _ _ ?_)
  show (Reg.BRK_LATCH 0).id % 1024 ≠ (Reg.TIM_DOM_LOSS_FLAG 0).id % 1024
  decide

/-- A domain that lost its master or reference: the state it is held in, the event, and what follows when the primary left LOCKED. -/
theorem State.toHoldover_loss (s : State) (d : Nat) (code : Code) (w16 : Nat) :
    s.toHoldover d (Reg.TIM_DOM_LOSS_FLAG d) code w16 = (s.lossHeld d).raise code objDevice { w16 := w16 } ∨
      s.toHoldover d (Reg.TIM_DOM_LOSS_FLAG d) code w16 = ((s.lossHeld d).raise code objDevice { w16 := w16 }).primaryLeft := by
  simp only [State.toHoldover]
  split
  · exact .inr rfl
  · exact .inl rfl

theorem State.toHoldover_loss_get (s : State) (d : Nat) (code : Code) (w16 : Nat) {f : Field} (g : Field) (hf : f.id = g.id)
    (hr : Nat.testBit 0x400000000000000000000000000000000000001000000000000680000002 (64 + g.id % 1024) = false := by decide)
    (hp : Nat.testBit 0x400000000000031800000000000000000000001000000000001e8000000a (64 + g.id % 1024) = false := by decide) :
    (s.toHoldover d (Reg.TIM_DOM_LOSS_FLAG d) code w16).get f = (s.lossHeld d).get f := by
  have raised := (State.raise_keeps (.refl _ (s.lossHeld d)) (code := code) (obj := objDevice) (d := { w16 := w16 })
    (within_self _)).get_like g hf hr
  rcases s.toHoldover_loss d code w16 with h | h
  · rw [h, raised]
  · rw [h, (State.primaryLeft_keeps (.refl _ _) (within_self _)).get_like g hf hp, raised]

theorem State.toHoldover_loss_latches (s : State) (d : Nat) (code : Code) (w16 : Nat) :
    s.LatchesStay (s.toHoldover d (Reg.TIM_DOM_LOSS_FLAG d) code w16) ∧
      (s.toHoldover d (Reg.TIM_DOM_LOSS_FLAG d) code w16).Latches code := by
  have raised := (s.lossHeld d).raise_latches code objDevice { w16 := w16 }
  have stay := State.raise_latchesStay (c := code) (o := objDevice) (d := { w16 := w16 }) (s.lossHeld_latchesStay d)
  rcases s.toHoldover_loss d code w16 with h | h
  · rw [h]
    exact ⟨stay, raised⟩
  · rw [h]
    exact ⟨stay.trans (State.primaryLeft_latchesStay _), raised.stay (State.primaryLeft_latchesStay _)⟩

/-- A domain that had left FREERUN and loses its master goes to HOLDOVER, LOSS set and 0x5202 raised. -/
theorem State.masterLoss_holds {s : State} {d : Nat} (he : s.domEnabled d = true) (hsrc : s.get (Reg.TIM_DOM_SOURCE d) = 0)
    (hs : s.servo d ≠ servoFreerun) :
    (s.masterLoss d).servo d = servoHoldover ∧ (s.masterLoss d).get (Reg.TIM_DOM_LOSS_FLAG d) = 1 ∧ (s.masterLoss d).Latches 0x5202 := by
  unfold State.masterLoss
  simp only [he, hsrc, hs, beq_self_eq_true, Bool.and_self, if_true, if_false]
  exact ⟨(State.toHoldover_loss_get _ d _ _ (f := Reg.TIM_DOM_STATE d) (Reg.TIM_DOM_STATE 0) rfl).trans (State.lossHeld_servo _ d),
    (State.toHoldover_loss_get _ d _ _ (f := Reg.TIM_DOM_LOSS_FLAG d) (Reg.TIM_DOM_LOSS_FLAG 0) rfl).trans (State.flag_one rfl _),
    (State.toHoldover_loss_latches _ d _ _).2⟩

/-! ## Slews -/

theorem State.slewEnd_within {s : State} {m : Mapping} (hm : s.tim.slew = some m)
    (hw : withinTick (m.at s.lc) ((s.domain s.activeDom).map.at s.lc) = true) :
    s.slewEnd = ({ s with tim := { s.tim with slew := none } } : State).set Reg.TIM_CTRL_SLEWING 0 := by
  simp only [State.slewEnd, hm, hw, if_true]

/-! ## PPS_IN -/

/-- A domain that follows another source takes nothing from an edge. -/
theorem State.ppsAt_elsewhere {s : State} {d : Nat} (h : s.get (Reg.TIM_DOM_SOURCE d) ≠ 1) (sub : Nat) : s.ppsAt sub d = s :=
  if_neg (by simp [h])

/-- The offset from its second of an edge that a domain stamps. -/
def State.edgeOffset (s : State) (d sub sec : Nat) : Int := s.stampDt d sub + s.inComp - (sec : Int) * secUnits

/-- The domain's state after an edge: the next edge denotes the next second. -/
def State.nextSecond (s : State) (d sec : Nat) : State :=
  s.setDomain d { s.domain d with tod := some ((sec + 1) % 2 ^ 48), todFresh := false }

/-- An edge more than 1 µs off its second is counted discarded. -/
theorem State.ppsAt_discards {s : State} {d sub sec : Nat} (he : s.domEnabled d = true) (hs : s.get (Reg.TIM_DOM_SOURCE d) = 1)
    (ht : (s.domain d).tod = some sec) (hf : (s.domain d).todFresh = false)
    (hoff : ¬ (-(1000 * nsUnits : Int) ≤ s.edgeOffset d sub sec ∧ s.edgeOffset d sub sec ≤ 1000 * nsUnits)) :
    s.ppsAt sub d = (s.nextSecond d sec).bump (Reg.TIM_DOM_DISCARD_CNT d) := by
  unfold State.edgeOffset at hoff
  unfold State.ppsAt
  simp only [he, hs, ht, hf, hoff, beq_self_eq_true, Bool.and_self, if_true, Bool.not_false, decide_false]
  rfl

/-- The first edge after TOD_SEC is a sample. -/
theorem State.ppsAt_samples {s : State} {d sub sec : Nat} (he : s.domEnabled d = true) (hs : s.get (Reg.TIM_DOM_SOURCE d) = 1)
    (ht : (s.domain d).tod = some sec) (hf : (s.domain d).todFresh = true) :
    s.ppsAt sub d = (s.nextSecond d sec).sample d ((s.edgeOffset d sub sec : Rat) / nsUnits) 1000000000 none
      (s.stampDt d sub + s.inComp) := by
  unfold State.ppsAt
  simp only [he, hs, ht, hf, beq_self_eq_true, Bool.and_self, if_true, Bool.not_true, Bool.false_and, Bool.false_eq_true, if_false]
  rfl

/-- PPS_IN present, the state each domain takes the edge in. -/
def State.ppsPresent (s : State) : State := s.set Reg.TIM_REFSTAT_PPS_OK 1

theorem State.ppsPresent_get {f : Field} (hf : fieldKey f ≠ fieldKey Reg.TIM_REFSTAT_PPS_OK) (s : State) : s.ppsPresent.get f = s.get f :=
  State.get_set_key _ _ _ _ hf

/-- An edge makes PPS_IN present, whatever the next second's name. -/
theorem State.nextSecond_pps (s : State) (d sec : Nat) : (s.ppsPresent.nextSecond d sec).get Reg.TIM_REFSTAT_PPS_OK = 1 :=
  (State.setDomain_get _ _ _ _).trans (State.get_set_same _ _ _)

theorem State.ppsPresent_domEnabled (s : State) : s.ppsPresent.domEnabled 0 = s.domEnabled 0 :=
  congrArg (· != 0) (s.ppsPresent_get (by decide))

theorem State.ppsPresent_edgeOffset (s : State) (d sub sec : Nat) : s.ppsPresent.edgeOffset d sub sec = s.edgeOffset d sub sec := by
  have comp : s.ppsPresent.inComp = s.inComp := congrArg (fun n => signed 16 n * nsUnits) (s.ppsPresent_get (by decide))
  rw [State.edgeOffset, comp]
  rfl

/-- What an edge leaves at a domain that follows another source, as seen after the edge at domain 0. -/
theorem State.ppsInEdge_primary {s : State} (h : s.get (Reg.TIM_DOM_SOURCE 1) ≠ 1) (sub : Nat) :
    s.ppsInEdge sub = s.ppsPresent.ppsAt sub 0 := by
  refine State.ppsAt_elsewhere ?_ sub
  rw [(State.ppsAt_keeps (.refl _ _) (within_self _)).regs (Reg.TIM_DOM_SOURCE 1) rfl, State.get_set_key _ _ _ _ (by decide)]
  exact h

theorem State.Counted.before {s t u : State} {f : Field} (h : t.Counted u f) (k : t.get f = s.get f) : s.Counted u f := by
  rw [State.Counted, ← k]
  exact h

/-- A sample without a path delay writes THETA, which the servo leaves. -/
theorem State.sample_theta (s : State) (d : Nat) (theta ts : Rat) (t2 : Int) :
    (s.sample d theta ts none t2).get (Reg.TIM_DOM_THETA d) = thetaNs theta % 2 ^ 32 := by
  have servo : (s.sample d theta ts none t2).get (Reg.TIM_DOM_THETA d) =
      (s.set (Reg.TIM_DOM_THETA d) (thetaNs theta)).get (Reg.TIM_DOM_THETA d) :=
    (State.servoSample_keeps (.refl _ _) (within_self _)).get_like (f := Reg.TIM_DOM_THETA d) (Reg.TIM_DOM_THETA 0) rfl rfl
  rw [servo, State.get_set_same]
  rfl

/-! ## References lost -/

theorem State.ppsLost_latchesStay {u s : State} (h : u.LatchesStay s) (d : Nat) : u.LatchesStay (s.ppsLost d) := by
  unfold State.ppsLost
  split
  · exact h.trans (State.toHoldover_loss_latches _ d _ _).1
  · exact h

/-- PPS_IN lost, before the domains that follow it. -/
def State.ppsGone (s : State) : State :=
  ((s.set Reg.TIM_REFSTAT_PPS_OK 0).flag Reg.TIM_REFSTAT_PPS_LOST 1).raise 0x5204 objDevice { w16 := 1 }

theorem State.ppsInLoss_keeps_gone (s : State) :
    Keeps 0x400000015000031800000000000000000000001000000000001e8000000a s.ppsGone s.ppsInLoss :=
  State.ppsLost_keeps (State.ppsLost_keeps (.refl _ s.ppsGone) (within_self _)) (within_self _)

theorem State.ppsInLoss_lost (s : State) :
    s.ppsInLoss.get Reg.TIM_REFSTAT_PPS_OK = 0 ∧ s.ppsInLoss.get Reg.TIM_REFSTAT_PPS_LOST = 1 ∧ s.ppsInLoss.Latches 0x5204 := by
  have raised (f : Field) (h : Nat.testBit _ _ = false) := (State.raise_keeps (.refl _ ((s.set Reg.TIM_REFSTAT_PPS_OK 0).flag
    Reg.TIM_REFSTAT_PPS_LOST 1)) (code := 0x5204) (obj := objDevice) (d := { w16 := 1 }) (within_self _)).regs f h
  refine ⟨?_, ?_, ?_⟩
  · exact (s.ppsInLoss_keeps_gone.regs _ rfl).trans ((raised _ rfl).trans
      ((State.get_set_key _ _ _ _ (by decide)).trans (State.get_set_same _ _ _)))
  · exact (s.ppsInLoss_keeps_gone.regs _ rfl).trans ((raised _ rfl).trans (State.flag_one rfl _))
  · exact (State.raise_latches _ _ _ _).stay (State.ppsLost_latchesStay (State.ppsLost_latchesStay (.refl _) 0) 1)

theorem State.clk10InLoss_lost (s : State) :
    s.clk10InLoss.get Reg.TIM_REFSTAT_CLK10_OK = 0 ∧ s.clk10InLoss.get Reg.TIM_REFSTAT_CLK10_LOST = 1 ∧ s.clk10InLoss.Latches 0x5204 := by
  have raised (f : Field) (h : Nat.testBit _ _ = false) := (State.raise_keeps (.refl _ ((s.set Reg.TIM_REFSTAT_CLK10_OK 0).flag
    Reg.TIM_REFSTAT_CLK10_LOST 1)) (code := 0x5204) (obj := objDevice) (d := {}) (within_self _)).regs f h
  exact ⟨(raised _ rfl).trans ((State.get_set_key _ _ _ _ (by decide)).trans (State.get_set_same _ _ _)),
    (raised _ rfl).trans (State.flag_one rfl _), State.raise_latches _ _ _ _⟩

/-! ## PPS_OUT -/

theorem exec_ppsOutEdge_rises {s : State} {j : Nat} (hon : s.on Reg.TIM_PPS_OUT_EN = true) (hj : s.outEdge secUnits 0 = some j) :
    exec .ppsOutEdge s = .next (s.emit (.pulse .ppsOut (s.get Reg.TIM_PPS_WIDTH_US) j)) := by
  show execPpsOutEdge s = _
  simp only [execPpsOutEdge, hj, hon, if_true]

theorem exec_ppsOutEdge_none {s : State} (h : s.on Reg.TIM_PPS_OUT_EN = false ∨ s.outEdge secUnits 0 = none) :
    exec .ppsOutEdge s = .next s := by
  show execPpsOutEdge s = _
  rcases h with h | h
  · simp only [execPpsOutEdge, h, Bool.false_eq_true, if_false]
    split <;> rfl
  · simp only [execPpsOutEdge, h]

/-- Settles O17: each command's one effect, and what the event that goes with it leaves. -/
theorem mastersReferencesAndEdgesAct : Obligations.MastersReferencesAndEdgesAct := by
  refine ⟨fun d s => ⟨fun h a hm hd ho => ?_, fun he hsrc hs => ⟨_, rfl, State.masterLoss_holds he hsrc hs⟩⟩,
    fun s => ⟨fun m hm hw => ?_, fun sub sec he hs ho ht => ⟨fun hf hoff => ?_, fun hf => ?_⟩, ⟨_, rfl, s.ppsInLoss_lost⟩,
      ⟨_, rfl, s.clk10InLoss_lost⟩, ⟨_, rfl, State.get_set_same _ _ _⟩, fun hp hc => ?_, fun j hon hj => ?_, fun h => ?_⟩⟩
  · exact ⟨_, exec_announceRx hm hd ho a, s.announceRx_heard h a d, s.announceRx_master h a d⟩
  · exact ⟨_, congrArg Host.Outcome.next (State.slewEnd_within hm hw), rfl, State.get_set_same _ _ _⟩
  · have edge := (State.ppsInEdge_primary ho sub).trans (State.ppsAt_discards (s.ppsPresent_domEnabled.trans he)
      ((State.ppsPresent_get (by decide) s).trans hs) ht hf (by rwa [State.ppsPresent_edgeOffset]))
    have counted := State.bump_counted (s.ppsPresent.nextSecond 0 sec) (Reg.TIM_DOM_DISCARD_CNT 0)
    refine ⟨_, congrArg Host.Outcome.next edge, ?_,
      counted.before ((State.setDomain_get _ _ _ _).trans (s.ppsPresent_get (by decide))), rfl⟩
    exact (State.bump_other _ _ _ (by decide)).trans (s.nextSecond_pps 0 sec)
  · have edge := (State.ppsInEdge_primary ho sub).trans (State.ppsAt_samples (sub := sub) (s.ppsPresent_domEnabled.trans he)
      ((State.ppsPresent_get (by decide) s).trans hs) ht hf)
    refine ⟨_, congrArg Host.Outcome.next edge, ?_, ?_⟩
    · exact ((State.sample_keeps (.refl _ _) (within_self _)).regs _ rfl).trans (s.nextSecond_pps 0 sec)
    · rw [State.sample_theta, State.ppsPresent_edgeOffset]
      rfl
  · exact ⟨_, congrArg Host.Outcome.next (if_pos (by simp [hp, hc])), rfl⟩
  · exact ⟨_, exec_ppsOutEdge_rises hon hj, State.sent_emit _ _ _ rfl⟩
  · exact ⟨_, exec_ppsOutEdge_none h, rfl⟩

end Sys2Proof.Machine
end

/-! # Proofs: frames into and out of the egress queues (R59, R324, R340, R341, R344) -/

section
namespace Sys2Proof.Machine

open Sys2Proof

/-- A fold whose every step leaves the state it starts from leaves it. -/
theorem foldl_fixed_of_mem {α β : Type} {f : α → β → α} {a : α} {l : List β} (h : ∀ b ∈ l, f a b = a) : l.foldl f a = a := by
  induction l with
  | nil => rfl
  | cons b l ih =>
    rw [List.foldl_cons, h b List.mem_cons_self]
    exact ih fun c hc => h c (List.mem_cons_of_mem _ hc)

/-! ## What leaves the queues and the transmitters -/

/-- Neither a queue nor a transmitter changes, and what was sent stays sent. -/
structure State.EgressStays (s t : State) : Prop where
  queues : t.egr.queues = s.egr.queues
  ports : t.egr.ports = s.egr.ports
  sent : s.out <:+ t.out

theorem State.EgressStays.trans {s t u : State} (h : s.EgressStays t) (k : t.EgressStays u) : s.EgressStays u :=
  ⟨k.queues.trans h.queues, k.ports.trans h.ports, h.sent.trans k.sent⟩

theorem State.EgressStays.refl (s : State) : s.EgressStays s := ⟨rfl, rfl, List.suffix_refl _⟩

theorem Keeps.egressStays {w : Nat} {s t : State} (k : Keeps w s t) (h : w.testBit 4 = false := by decide) : s.EgressStays t :=
  ⟨congrArg _ (k.egrKept h), congrArg _ (k.egrKept h), k.sent⟩

theorem State.EgressStays.frames {s t : State} (h : s.EgressStays t) (i c : Nat) : t.frames i c = s.frames i c := by
  rw [State.frames, h.queues, State.frames]

theorem State.EgressStays.port {s t : State} (h : s.EgressStays t) (i : Nat) : t.port i = s.port i := by
  rw [State.port, h.ports, State.port]

theorem State.setMeter_egressStays (s : State) (q : Nat) (m : Meter) : s.EgressStays (s.setMeter q m) := ⟨rfl, rfl, List.suffix_refl _⟩

/-- The meter of a frame that leaves: what its mode takes and counts. -/
def State.metered (s : State) (q pass : Nat) (m : Meter) (mode : Nat) : State :=
  if mode = 1 then (s.setMeter q m).countColour q pass else if mode = 0 then s.countColour q 0 else s

theorem State.countColour_egressStays (s : State) (q colour : Nat) : s.EgressStays (s.countColour q colour) :=
  (State.countColour_keeps (.refl _ s) (within_self _)).egressStays

theorem State.bump_egressStays (s : State) (f : Field) : s.EgressStays (s.bump f) := ⟨rfl, rfl, List.suffix_refl _⟩

theorem State.EgressStays.ite {s t u : State} {p : Prop} [Decidable p] (h : s.EgressStays t) (k : s.EgressStays u) :
    s.EgressStays (if p then t else u) := by
  split
  · exact h
  · exact k

theorem State.metered_egressStays (s : State) (q pass : Nat) (m : Meter) (mode : Nat) : s.EgressStays (s.metered q pass m mode) :=
  .ite (.trans (s.setMeter_egressStays q m) (State.countColour_egressStays _ _ _)) (.ite (s.countColour_egressStays _ _) (.refl s))

theorem State.frames_setFrames (s : State) (i c : Nat) (l : List EgFrame) : (s.setFrames i c l).frames i c = l :=
  (Table.getD_put_same ..)

/-! ## Meters that come into force -/

theorem State.copyBank_egr (l : List Field) (s : State) (a b : Nat) : (s.copyBank a b l).egr = s.egr := by
  induction l generalizing s with
  | nil => rfl
  | cons f l ih => exact ih _

/-- Meters that come into force leave the queues. -/
theorem State.settleMeters_frames (s : State) (i j c : Nat) : (s.settleMeters i).frames j c = s.frames j c := by
  simp only [State.settleMeters]
  split
  · rfl
  · refine foldl_same (fun t : State => t.frames j c) (fun t q => ?_) _ _
    show Table.getD (t.copyBank 2 1 (meterFields q)).egr.queues (8 * j + c) [] = _
    rw [State.copyBank_egr]
    rfl

theorem State.settleMeters_portBytes (s : State) (i j : Nat) : (s.settleMeters i).portBytes j = s.portBytes j := by
  simp only [State.portBytes, State.settleMeters_frames]

theorem State.settleMeters_lc (s : State) (i : Nat) : (s.settleMeters i).lc = s.lc :=
  (State.settleMeters_keeps (.refl _ s) (within_self _)).lcKept rfl

theorem State.settleMeters_laneMode (s : State) (i j : Nat) : (s.settleMeters i).laneMode j = s.laneMode j :=
  (State.settleMeters_keeps (.refl _ s) (within_self _)).get_like (Reg.LANE_CFG_MODE 0) rfl rfl

theorem State.settleMeters_laneState (s : State) (i j : Nat) : (s.settleMeters i).laneState j = s.laneState j :=
  (State.settleMeters_keeps (.refl _ s) (within_self _)).get_like (Reg.LANE_STATUS_STATE 0) rfl rfl

theorem State.settleMeters_portActive (s : State) (i j : Nat) : (s.settleMeters i).portActive j = s.portActive j := by
  simp only [State.portActive, State.isPort, State.portLanes, State.settleMeters_laneMode, State.settleMeters_laneState]

theorem State.settleMeters_portBuffer (s : State) (i j : Nat) : (s.settleMeters i).portBuffer j = s.portBuffer j := by
  simp only [State.portBuffer, State.settleMeters_laneMode]

theorem State.settleMeters_frameTicks (s : State) (i j len : Nat) : (s.settleMeters i).frameTicks j len = s.frameTicks j len := by
  simp only [State.frameTicks, State.settleMeters_laneMode]

theorem State.settleMeters_room (s : State) (i j c : Nat) :
    (s.settleMeters i).get (Reg.CAR_P_Q_QMAX_KB j c) = s.get (Reg.CAR_P_Q_QMAX_KB j c) :=
  (State.settleMeters_keeps (.refl _ s) (within_self _)).get_like (Reg.CAR_P_Q_QMAX_KB 0 0) rfl rfl

/-! ## A frame enters -/

/-- A frame of no row enters the queue of an ACTIVE port when its meter does not police and the queue and the port have room. -/
theorem State.enterQueue_frames {s : State} {i c : Nat} {f : EgFrame} (ha : s.portActive i = true) (hr : f.row = none)
    (hm : (s.settleMeters i).meterMode (8 * i + c) ≠ 2) (hq : framesLen (s.frames i c) + f.len ≤ s.get (Reg.CAR_P_Q_QMAX_KB i c) * 1024)
    (hp : s.portBytes i + f.len ≤ s.portBuffer i) :
    (s.enterQueue i c f).frames i c = s.frames i c ++ [{ f with stamp := s.lc, eligible := true }] := by
  have room : ¬ (s.get (Reg.CAR_P_Q_QMAX_KB i c) * 1024 < framesLen (s.frames i c) + f.len
      ∨ s.portBuffer i < s.portBytes i + f.len) := by
    omega
  simp only [State.enterQueue, State.settleMeters_portActive, State.settleMeters_room, State.settleMeters_frames,
    State.settleMeters_portBuffer, State.settleMeters_portBytes, State.settleMeters_lc, ha, hm, room, hr, Bool.not_true, Bool.not_false,
    Bool.false_eq_true, if_false, false_and, State.frames_setFrames]

/-! ## A frame leaves -/

/-- A queue whose head can pass loses nothing to the guard. -/
theorem State.dropOversize_fits {s : State} {i c : Nat} (h : ∀ f l, s.frames i c = f :: l → s.oversize i c f.len = false) (n : Nat) :
    State.dropOversize i c n s = s := by
  cases n with
  | zero => rfl
  | succ n =>
    unfold State.dropOversize
    split
    · rfl
    · next f l e => rw [h f l e]; rfl

/-- The statistics of a frame that leaves touch neither the queues nor the transmitters. -/
theorem State.startFrame_leaves {s : State} {i c : Nat} {f : EgFrame} {l : List EgFrame} (h : s.frames i c = f :: l) (pass : Nat) :
    ∃ x, ((s.setFrames i c l).setPort i { s.port i with freeAt := s.lc + s.frameTicks i f.len }).EgressStays x ∧
      s.startFrame i pass c = x.emit (.frame i c (s.addresses i (s.correct i f).1) (s.stampTs i f (s.correct i f).1)) := by
  simp only [State.startFrame, h]
  refine ⟨_, .trans ?_ (State.countSent_keeps (.refl _ _) (within_self _)).egressStays, rfl⟩
  refine .ite (.trans ?_ (State.bump_egressStays _ _)) ?_
  all_goals
    refine .ite (.trans (.trans ?_ (State.bump_egressStays _ _)) (State.raiseLimited_keeps (.refl _ _) (within_self _)).egressStays) ?_
  all_goals
    exact State.EgressStays.trans (State.metered_egressStays _ (8 * i + c) pass _ (s.meterMode (8 * i + c)))
      ⟨rfl, rfl, List.suffix_refl _⟩

/-- A free transmitter of an ACTIVE port whose queue heads can all pass starts the head selected. -/
theorem State.egressSelect_starts {s : State} {i pass c : Nat} (ha : s.portActive i = true) (hf : (s.port i).freeAt ≤ s.lc)
    (ho : ∀ k < 8, ∀ g m, (s.settleMeters i).frames i k = g :: m → (s.settleMeters i).oversize i k g.len = false)
    (hs : (s.settleMeters i).selected i = some (pass, c)) : s.egressSelect i = (s.settleMeters i).startFrame i pass c := by
  have fits : ([0, 1, 2, 3, 4, 5, 6, 7] : List Nat).foldl (fun s c => State.dropOversize i c (s.frames i c).length s) (s.settleMeters i) =
      s.settleMeters i :=
    foldl_fixed_of_mem fun k hk => State.dropOversize_fits (ho k (List.mem_range.1 hk)) _
  simp only [State.egressSelect, ha, hf, decide_true, Bool.and_self, if_true, fits, hs]

/-- A frame that one ACTIVE port is to send enters its queue there. -/
theorem State.forward_one {s : State} {i k : Nat} {f : EthFrame} (h : s.forwards i f = true) (hp : s.forwardPorts i = [k]) :
    s.forward i f = s.enterQueue k (match f.pcp with | some c => c.val | none => s.get (Reg.CAR_P_DEFAULT_CLASS k))
      { frame := .forwarded i f.correction f.udp.toNat f.badFcs, len := f.len, stamp := s.lc, row := none, eligible := true,
        cover := none,
        tc := match f.ptp with
          | some (true, dom) => some (16 * s.lc + f.sub.val, dom.toNat)
          | _ => none } := by
  simp only [State.forward, h, hp, if_true, List.foldl_cons, List.foldl_nil] <;> rfl

/-- Settles O9: admission appends the frame to its queue; the start of the head selected takes it off, and its statistics leave the
queues and the transmitter. -/
theorem framesEnterAndLeaveTheirQueues : Obligations.FramesEnterAndLeaveTheirQueues := by
  refine ⟨fun i f s k h hp ha hm hq hb => ?_, fun i s pass c f l ha hf ho hs hl => ?_⟩
  · exact ⟨_, congrArg Host.Outcome.next (State.forward_one h hp), State.enterQueue_frames ha rfl hm hq hb⟩
  · obtain ⟨x, stays, started⟩ := State.startFrame_leaves hl pass
    refine ⟨_, congrArg Host.Outcome.next ((State.egressSelect_starts ha hf ho hs).trans started), ?_, ?_, ?_⟩
    · refine (State.sent_emit x _ (fun o => o = _) rfl).before ?_
      exact (State.settleMeters_keeps (.refl _ s) (within_self _)).sent.trans stays.sent
    · exact (stays.frames i c).trans (State.frames_setFrames _ _ _ _)
    · have freeAt := congrArg EgPort.freeAt (stays.port i)
      rw [State.port_setPort, State.settleMeters_lc, State.settleMeters_frameTicks] at freeAt
      exact freeAt

end Sys2Proof.Machine
end

/-! # Proofs: an audio output's frame (R361, R364 to R367, R516) -/

section
namespace Sys2Proof.Machine

open Sys2Proof

/-! ## Releases leave the outputs and the latches -/

/-- No Barker latch was cleared and no audio output changed. -/
structure State.OutsStay (s t : State) : Prop where
  latches : s.LatchesStay t
  outs : t.aud.outs = s.aud.outs

theorem State.OutsStay.refl (s : State) : s.OutsStay s := ⟨.refl s, rfl⟩

theorem State.OutsStay.trans {s t u : State} (h : s.OutsStay t) (k : t.OutsStay u) : s.OutsStay u :=
  ⟨h.latches.trans k.latches, k.outs.trans h.outs⟩

theorem State.OutsStay.ite {s t u : State} {p : Prop} [Decidable p] (h : s.OutsStay t) (k : s.OutsStay u) :
    s.OutsStay (if p then t else u) := by
  split
  · exact h
  · exact k

theorem Keeps.outsStay {w : Nat} {s t : State} (k : Keeps w s t) (h : w.testBit 15 = false := by decide)
    (hl : w.testBit (64 + (Reg.BRK_LATCH 0).id % 1024) = false := by decide) : s.OutsStay t :=
  ⟨k.latchesStay hl, congrArg _ (k.audKept h)⟩

theorem State.setAudCh_outsStay (s : State) (c : Nat) (x : AudCh) : s.OutsStay (s.setAudCh c x) := ⟨fun _ _ _ h => h, rfl⟩

theorem State.routed_outsStay (s : State) (c srate : Nat) (y : Rat) : s.OutsStay (s.routed c srate y).2 := by
  simp only [State.routed]
  split
  · exact .refl s
  · split
    · split
      · exact s.setAudCh_outsStay _ _
      · exact (State.inSample_keeps (.refl _ s) (within_self _)).outsStay
    · exact (State.inSample_keeps (.refl _ s) (within_self _)).outsStay

theorem State.switchRoute_outsStay (s : State) (c src sel us : Nat) : s.OutsStay (s.switchRoute c src sel us) :=
  ⟨(State.switchRoute_keeps (.refl _ s) (within_self _)).latchesStay, rfl⟩

theorem State.cmdDone_outsStay (s : State) (x : Option (Nat × Ticket)) : s.OutsStay (s.cmdDone x) :=
  (State.cmdDone_keeps (.refl _ s) (within_self _)).outsStay

theorem State.applyChange_outsStay (s : State) (c : Nat) (ramp : Bool) : s.OutsStay (s.applyChange c ramp) := by
  have changed (x : AudCh) (cmd : Option (Nat × Ticket)) : s.OutsStay ((s.setAudCh c x).cmdDone cmd) :=
    (s.setAudCh_outsStay c x).trans (State.cmdDone_outsStay _ cmd)
  simp only [State.applyChange]
  split
  · exact .refl s
  · split
    case h_1 => exact changed _ _
    case h_2 => exact changed _ _
    case h_3 => exact changed _ _
    case h_4 => exact changed _ _
    case h_5 => exact s.setAudCh_outsStay c _
    case h_6 =>
      split
      · exact s.setAudCh_outsStay c _
      · exact (s.setAudCh_outsStay c _).trans (State.switchRoute_outsStay _ _ _ _ _)
    case h_7 => exact s.switchRoute_outsStay _ _ _ _

/-- A missing sample is counted and its event raised at most once a second. -/
theorem State.underrun_outsStay (s : State) (k : Nat) :
    s.OutsStay ((s.bump (Reg.AUD_OUT_UNDERRUN_CNT k)).raiseLimited 0x6E03 k (objAudio k) {}) := by
  have counted : s.LatchesStay (s.bump (Reg.AUD_OUT_UNDERRUN_CNT k)) := fun n b _ h => by
    rw [State.bump_other s (Reg.AUD_OUT_UNDERRUN_CNT k) (Reg.BRK_LATCH n)
      (show (Reg.BRK_LATCH 0).id % 1024 ≠ (Reg.AUD_OUT_UNDERRUN_CNT 0).id % 1024 by decide)]
    exact h
  exact ⟨State.raiseLimited_latchesStay counted,
    congrArg Aud.outs ((State.raiseLimited_keeps (.refl _ (s.bump (Reg.AUD_OUT_UNDERRUN_CNT k))) (within_self _)).audKept rfl)⟩

theorem State.releaseSample_outsStay (s : State) (k c : Nat) (y : Rat) : s.OutsStay (s.releaseSample k c y).2 := by
  have routed := s.routed_outsStay c (s.outSrate k) y
  simp only [State.releaseSample]
  generalize s.routed c (s.outSrate k) y = r at routed
  obtain ⟨v, s0⟩ := r
  have changed : s.OutsStay (if s0.crossesAt (s0.audCh c) v y then s0.applyChange c false else s0) := by
    split
    · exact routed.trans (s0.applyChange_outsStay c false)
    · exact routed
  dsimp only at changed ⊢
  generalize (if s0.crossesAt (s0.audCh c) v y then s0.applyChange c false else s0) = s1 at changed
  generalize (s1.audCh c).step (perMs (s.outSrate k)) v = z
  obtain ⟨r, x0, fresh⟩ := z
  have played (x : AudCh) : s.OutsStay (if fresh = true then
      ((s1.setAudCh c x).bump (Reg.AUD_OUT_UNDERRUN_CNT k)).raiseLimited 0x6E03 k (objAudio k) {} else s1.setAudCh c x) :=
    have kept := changed.trans (s1.setAudCh_outsStay c x)
    .ite (kept.trans (State.underrun_outsStay _ k)) kept
  dsimp only
  split
  · exact .ite ((played _).trans (State.switchRoute_outsStay _ _ _ _ _)) (played _)
  · exact played _

theorem State.releaseChans_outsStay (k : Nat) (y : Rat) (l : List Nat) (s : State) : s.OutsStay (State.releaseChans k y l s).2 := by
  induction l generalizing s with
  | nil => exact .refl s
  | cons c l ih => exact (s.releaseSample_outsStay k c y).trans (ih _)

/-! ## The frame of an AES3 output -/

/-- An output's frame leaves everything else, clears no Barker latch and takes no output's index back. -/
structure State.FrameLeft (s t : State) : Prop where
  rest : Keeps 0xe0010000000000000000000000000000000000000000000000000000000000000000000000000000000000000000000000000000000000000000000000000000000000400000000000000000000000000000000000001000000000005680008002 s t
  latches : s.LatchesStay t
  index : ∀ j, (s.audOut j).index ≤ (t.audOut j).index

theorem State.FrameLeft.refl (s : State) : s.FrameLeft s := ⟨.refl _ s, .refl s, fun _ => le_rfl⟩

theorem State.FrameLeft.trans {s t u : State} (h : s.FrameLeft t) (k : t.FrameLeft u) : s.FrameLeft u :=
  ⟨h.rest.trans k.rest, h.latches.trans k.latches, fun j => (h.index j).trans (k.index j)⟩

theorem State.FrameLeft.setAudOut {s t : State} (f : s.FrameLeft t) {k : Nat} {x : AudOut} (h : (s.audOut k).index ≤ x.index) :
    s.FrameLeft (t.setAudOut k x) := by
  refine ⟨f.rest.trans (State.setAudOut_keeps (.refl _ t)), f.latches, fun j => ?_⟩
  by_cases e : j = k
  · rw [e, State.audOut_setAudOut]
    exact h
  · rw [State.audOut_setAudOut_other _ _ _ _ e]
    exact f.index j

theorem State.setAudOut_left {s : State} {k : Nat} {x : AudOut} (h : (s.audOut k).index ≤ x.index) : s.FrameLeft (s.setAudOut k x) :=
  (State.FrameLeft.refl s).setAudOut h

theorem State.OutsStay.index {s t : State} (h : s.OutsStay t) (j : Nat) : (s.audOut j).index ≤ (t.audOut j).index := by
  rw [State.audOut, State.audOut, h.outs]

theorem State.releaseChans_left (k : Nat) (y : Rat) (l : List Nat) (s : State) : s.FrameLeft (State.releaseChans k y l s).2 :=
  have stay := State.releaseChans_outsStay k y l s
  ⟨State.releaseChans_keeps (.refl _ s) (within_self _), stay.latches, stay.index⟩

theorem State.emit_left (s : State) (o : Output) : s.FrameLeft (s.emit o) :=
  ⟨State.emit_keeps (.refl _ s), .refl _, fun _ => le_rfl⟩

/-- A new template is taken at the start of a block. -/
theorem State.newTemplate_left (s : State) (k : Nat) (p : Prop) [Decidable p] :
    s.FrameLeft (if p then (match (s.audOut k).waiting with
      | some t => s.setAudOut k { s.audOut k with template := some t, waiting := none }
      | none => s) else s) := by
  split
  · split
    · exact State.setAudOut_left le_rfl
    · exact .refl s
  · exact .refl s

theorem State.releaseFrame_left (s : State) (k i : Nat) : s.FrameLeft (s.releaseFrame k i) :=
  ((s.newTemplate_left k (i % 192 = 0)).trans (State.releaseChans_left k (s.releaseDt k i) (s.outChans k) _)).trans (State.emit_left _ _)

/-- While the active domain is disabled no release is queued. -/
theorem State.armPort_idle {s : State} (h : s.domEnabled s.activeDom = false) (k : Nat) : s.armPort k = s :=
  if_neg (by simp [h])

/-- A frame reaches neither the active domain nor its enable. -/
theorem State.FrameLeft.activeOff {s t : State} (k : s.FrameLeft t) (h : s.domEnabled s.activeDom = false) :
    t.domEnabled t.activeDom = false := by
  have ha : t.activeDom = s.activeDom := k.rest.regs Reg.TIM_CTRL_ACTIVE rfl
  rw [ha, ← h]
  exact congrArg (· != 0) (k.rest.get_like (Reg.TIM_DOM_ENABLE 0) rfl rfl)

/-- The frame of an AES3 output while the active domain is disabled. -/
theorem sampleFired_left {s : State} {k : Nat} (hk : isAesOut k = true) (h : s.domEnabled s.activeDom = false) :
    s.FrameLeft (sampleFired k s) := by
  simp only [sampleFired, hk, if_true]
  split
  · have frame (x : Int) := (s.releaseFrame_left k (s.audOut k).index).setAudOut (k := k)
      (x := { (s.releaseFrame k (s.audOut k).index).audOut k with index := (s.audOut k).index + 1, shift := x }) (Nat.le_succ _)
    rw [State.armPort_idle ((frame _).activeOff h)]
    exact frame _
  · exact .refl s

theorem State.frozenFrame_left (s : State) (k : Nat) : s.FrameLeft (s.frozenFrame k) := by
  simp only [State.frozenFrame]
  split
  · exact .refl s
  · split
    case isTrue h =>
      simp only [Bool.and_eq_true, Bool.not_eq_true'] at h
      obtain ⟨⟨⟨⟨hk, -⟩, -⟩, hoff⟩, -⟩ := h
      have moved (i : Nat) : s.FrameLeft (s.setAudOut k { s.audOut k with index := max (s.audOut k).index i }) :=
        State.setAudOut_left (le_max_left _ _)
      exact (moved _).trans (sampleFired_left hk ((moved _).activeOff hoff))
    case isFalse => exact .refl s

end Sys2Proof.Machine
end

/-! # Proofs: launches that fire (R68 to R74, R124, R407, R411) -/

section
namespace Sys2Proof.Machine

open Sys2Proof

/-! ## The head of a queue fires -/

/-- The state a launch acts on: its word is taken from its unit's queue, and the unit has fired in this tick. -/
def State.popped (s : State) (u : Nat) (l : List QLaunch) : State :=
  { s.setQueue u l with tim := { (s.setQueue u l).tim with fired := Table.put (s.setQueue u l).tim.fired u s.lc } }

theorem State.popped_queue (s : State) (u : Nat) (l : List QLaunch) : (s.popped u l).queue u = l := s.queue_setQueue u l

theorem State.popped_fired (s : State) (u : Nat) (l : List QLaunch) : Table.find (s.popped u l).tim.fired u = some s.lc :=
  Table.find_put_same ..

/-- While a launch of a lower unit is to fire nothing happens (R74). -/
theorem State.fireHead_waits {s : State} {u : Nat} (h : s.lowerWaits u = true) (kinds : List Nat) (decided : List (Fin 64 × Nat)) :
    s.fireHead u kinds decided = s := by
  unfold State.fireHead
  split
  · rfl
  · rw [if_pos (by simp [h])]

/-- A launch that fires, and no late presentation, acts, late or not. -/
theorem State.fireHead_fires {s : State} {u : Nat} {kinds : List Nat} {q : QLaunch} {l : List QLaunch} (hq : s.queue u = q :: l)
    (hk : kinds.contains q.kind = true) (hf : s.firesNow u = true) (hw : s.lowerWaits u = false)
    (hp : (s.past q.ref q.instant && q.kind == 5) = false) (decided : List (Fin 64 × Nat)) :
    s.fireHead u kinds decided = (if s.past q.ref q.instant then (s.popped u l).lateLaunch u q.tag else s.popped u l).launchActs u q
      (s.past q.ref q.instant) decided := by
  simp only [State.fireHead, hq, hk, hf, hw, hp, Bool.not_true, Bool.or_self, Bool.false_eq_true, if_false]
  rfl

theorem State.fireHead_onTime {s : State} {u : Nat} {kinds : List Nat} {q : QLaunch} {l : List QLaunch} (hq : s.queue u = q :: l)
    (hk : kinds.contains q.kind = true) (hf : s.firesNow u = true) (hw : s.lowerWaits u = false) (hp : s.past q.ref q.instant = false)
    (decided : List (Fin 64 × Nat)) : s.fireHead u kinds decided = (s.popped u l).launchActs u q false decided := by
  rw [State.fireHead_fires hq hk hf hw (by rw [hp, Bool.false_and]), hp]
  rfl

theorem State.fireHead_late {s : State} {u : Nat} {kinds : List Nat} {q : QLaunch} {l : List QLaunch} (hq : s.queue u = q :: l)
    (hk : kinds.contains q.kind = true) (hf : s.firesNow u = true) (hw : s.lowerWaits u = false) (hp : s.past q.ref q.instant = true)
    (h5 : q.kind ≠ 5) (decided : List (Fin 64 × Nat)) :
    s.fireHead u kinds decided = ((s.popped u l).lateLaunch u q.tag).launchActs u q true decided := by
  rw [State.fireHead_fires hq hk hf hw (by simp [h5]), hp]
  rfl

/-- A late presentation is discarded. -/
theorem State.fireHead_discards {s : State} {u : Nat} {kinds : List Nat} {q : QLaunch} {l : List QLaunch} (hq : s.queue u = q :: l)
    (hk : kinds.contains q.kind = true) (hf : s.firesNow u = true) (hw : s.lowerWaits u = false)
    (hp : (s.past q.ref q.instant && q.kind == 5) = true) (decided : List (Fin 64 × Nat)) :
    s.fireHead u kinds decided = (s.setQueue u l).launchDiscard q := by
  simp only [State.fireHead, hq, hk, hf, hw, hp, Bool.not_true, Bool.or_self, Bool.false_eq_true, if_false, if_true]

/-! ## The commands -/

/-- The unit of a launch command. -/
theorem launchOf_unit {c : Instr} {u : Nat} {kinds : List Nat} (h : launchOf c = some (u, kinds)) : u < 264 := by
  unfold launchOf at h
  split at h
  all_goals
    simp only [Option.some.injEq, Prod.mk.injEq, reduceCtorEq] at h
    try omega

/-- A launch command fires the head of its unit's queue; after the release of a sample the output's frame goes on while the active
domain is disabled. -/
theorem exec_launch {c : Instr} {u : Nat} {kinds : List Nat} (h : launchOf c = some (u, kinds)) (s : State) :
    ∃ decided t, exec c s = .next t ∧ (s.fireHead u kinds decided).FrameLeft t ∧
      (s.domEnabled s.activeDom = true → t = s.fireHead u kinds decided) := by
  unfold launchOf at h
  split at h
  case h_6 k =>
    simp only [Option.some.injEq, Prod.mk.injEq] at h
    obtain ⟨rfl, rfl⟩ := h
    refine ⟨[], _, rfl, ?_, fun on => if_pos on⟩
    split
    · exact .refl _
    · exact State.frozenFrame_left _ _
  case h_10 => cases h
  all_goals
    simp only [Option.some.injEq, Prod.mk.injEq] at h
    obtain ⟨rfl, rfl⟩ := h
    exact ⟨_, _, rfl, .refl _, fun _ => rfl⟩

/-! ## A bare launch word -/

theorem State.bareLaunch_latchesStay (s : State) (u kind tag : Nat) : s.LatchesStay (s.bareLaunch u kind tag) := by
  unfold State.bareLaunch
  split
  · exact (State.launchTask_keeps (.refl _ s) (within_self _)).latchesStay
  · split
    · exact State.flag_latchesStay (.refl s)
    · exact .refl s

/-- A generic event at a supervisor sets its launch source. -/
theorem State.bareLaunch_latches {u : Nat} (h : 256 ≤ u) (hu : u < 264) (s : State) (kind tag : Nat) :
    bit ((s.bareLaunch u kind tag).get (Reg.BRK_LATCH 31)) (u - 232) = true := by
  rw [State.bareLaunch, if_neg (by omega), if_pos ⟨h, hu⟩, State.latch]
  have hn : (1016 + (u - 256)) / 32 = 31 := by omega
  have hb : (1016 + (u - 256)) % 32 = u - 232 := by omega
  have hw : fieldWidth (Reg.BRK_LATCH 31) = 32 := rfl
  rw [hn, hb, State.flag, State.freshen_get, State.get_set_same, bit, hw, Nat.testBit_mod_two_pow, Nat.testBit_or,
    Nat.testBit_two_pow_self]
  simp only [Bool.or_true, Bool.and_true, decide_eq_true_eq]
  omega

/-- A launch word of KIND 0xF at a slice engine sets flag 31 of its task. -/
theorem State.bareLaunch_signals {s : State} {u tag : Nat} {x : Task} (h : 32 ≤ u) (hu : u < 128) (ht : tag < 4096)
    (hx : Table.find s.tasks tag = some x) (hs : x.state ≠ .faulted) :
    Table.find (s.bareLaunch u 0xF tag).tasks tag = some (({ x with flags := x.flags ||| 2 ^ 31 } : Task).wake s.lc) := by
  rw [State.bareLaunch, if_pos ⟨h, hu⟩, State.launchTask]
  simp only [Nat.div_eq_of_lt ht, Nat.mod_eq_of_lt ht, hx, hs, State.signalTask, Option.isNone_some, ne_eq, not_true_eq_false,
    Bool.false_eq_true, or_self, if_false, Nat.reduceEqDiff]
  exact Table.find_put_same ..

/-! ## A late launch -/

theorem State.lateLaunch_tim (s : State) (u tag : Nat) : (s.lateLaunch u tag).tim = s.tim :=
  (State.lateLaunch_keeps (.refl _ s) (within_self _)).timKept rfl

theorem State.lateLaunch_tasks (s : State) (u tag : Nat) : (s.lateLaunch u tag).tasks = s.tasks :=
  (State.lateLaunch_keeps (.refl _ s) (within_self _)).tasksKept rfl

theorem State.lateLaunch_lc (s : State) (u tag : Nat) : (s.lateLaunch u tag).lc = s.lc :=
  (State.lateLaunch_keeps (.refl _ s) (within_self _)).lcKept rfl

theorem State.lateLaunch_counted (s : State) (u tag : Nat) : s.Counted (s.lateLaunch u tag) Reg.TIM_LAUNCH_LATE_CNT :=
  (s.bump_counted _).after ((State.raise_keeps (.refl _ _) (within_self _)).regs _ rfl)

theorem State.lateLaunch_latches (s : State) (u tag : Nat) : (s.lateLaunch u tag).Latches 0x5001 := State.raise_latches _ _ _ _

end Sys2Proof.Machine
end

/-! # Proofs: launches of encode slots, rows' packets and gates (R173, R250, R343, R346) -/

section
namespace Sys2Proof.Machine

open Sys2Proof

theorem State.slot_of_slots {s t : State} (h : t.slots = s.slots) (n : Nat) : t.slot n = s.slot n := by
  rw [State.slot, h, State.slot]

/-- Replacing by `q` what a test that `q` passes finds, the test finds `q`. -/
theorem find?_replaced {α : Type} {p : α → Bool} {l : List α} {x q : α} (h : l.find? p = some x) (hq : p q = true) :
    (l.map (fun y => if p y = true then q else y)).find? p = some q := by
  have same : (p ∘ fun y => if p y = true then q else y) = p := by
    funext y
    by_cases hy : p y = true <;> simp [hy, hq]
  rw [List.find?_map, same, h, Option.map_some, if_pos (List.find?_some h)]

/-! ## A composition starts -/

/-- The launches that a composition start queues leave the slots. -/
theorem State.queuedRows_slots (s : State) (units : List Nat) (x : Int) (act : LaunchAct) (n pic : Nat) :
    ((units.foldl (fun (t : State) u => t.launchAt u 2 x act) s).queueComposition n pic).slots = s.slots :=
  ((State.queueComposition_keeps (.refl _ _) (within_self _)).slotsKept rfl).trans
    (foldl_same (f := fun (t : State) u => t.launchAt u 2 x act) (fun t => t.slots) (fun _ _ => rfl) units s)

theorem State.queuedRows_get (s : State) (units : List Nat) (x : Int) (act : LaunchAct) (n pic : Nat) (f : Field) :
    ((units.foldl (fun (t : State) u => t.launchAt u 2 x act) s).queueComposition n pic).get f = s.get f := by
  have queued : ∀ t : State, (t.queueComposition n pic).get f = t.get f := fun t => by
    unfold State.queueComposition
    split <;> rfl
  exact (queued _).trans (foldl_same (f := fun (t : State) u => t.launchAt u 2 x act) (fun t => t.get f) (fun _ _ => rfl) units s)

theorem State.setAll_slots (l : List (Field × Nat)) (s : State) : (s.setAll l).slots = s.slots := by
  induction l generalizing s with
  | nil => rfl
  | cons e l ih => exact ih _

/-- The slot after an update that fields shown and a free counter follow. -/
theorem State.shown_slot (s : State) (n : Nat) (g : Slot → Slot) (l : List (Field × Nat)) (k : Nat) :
    ({ (s.updSlot n g).setAll l with free := k } : State).slot n = g (s.slot n) :=
  (State.slot_of_slots (State.setAll_slots l _) n).trans (State.slot_setSlot _ _ _)

/-- A composition start plans its picture as the slot's newest and expects the next. -/
theorem State.compositionStart_plans (s : State) (n pic : Nat) : ∃ l p, p.n = pic ∧
    ((s.compositionStart n pic).slot n).pics = l ++ [p] ∧ ((s.compositionStart n pic).slot n).next = pic + 1 := by
  unfold State.compositionStart
  dsimp only
  rw [State.slot_of_slots (State.queuedRows_slots _ _ _ _ _ _), State.shown_slot]
  exact ⟨_, State.planOf _ n pic _ _, rfl, rfl, rfl⟩

/-- What a compositor settles leaves the states of slots. -/
theorem State.cmpLatch_slotState (s : State) (n pic : Nat) (t p : Rat) : (s.cmpLatch n pic t p).slotState n = s.slotState n :=
  (State.cmpLatch_keeps (.refl _ s) (within_self _)).get_like (Reg.ENC_BS_RUN_STATE 0) rfl rfl

/-- The caps in force that a composition start shows stand beside the slot's state. -/
theorem State.shown_slotState (s : State) (n a b k : Nat) (g : Slot → Slot) :
    ({ (s.updSlot n g).setAll [(Reg.RC_BS_ROW_MAX_EFF n, a), (Reg.RC_BS_ROW_FLOOR_EFF n, b)] with free := k } : State).slotState n =
      s.slotState n := by
  refine State.setAll_get _ (s.updSlot n g) (Reg.ENC_BS_RUN_STATE n) fun e he => ?_
  rcases List.mem_pair.1 he with rfl | rfl
  · show (Reg.ENC_BS_RUN_STATE 0).id % 1024 ≠ (Reg.RC_BS_ROW_MAX_EFF 0).id % 1024
    decide
  · show (Reg.ENC_BS_RUN_STATE 0).id % 1024 ≠ (Reg.RC_BS_ROW_FLOOR_EFF 0).id % 1024
    decide

/-- A STARTING slot is RUNNING from its first composition start. -/
theorem State.compositionStart_runs {s : State} {n : Nat} (h : s.slotState n = slotStarting) (pic : Nat) :
    (s.compositionStart n pic).slotState n = slotRunning := by
  unfold State.compositionStart
  dsimp only
  rw [if_pos h, State.slotState, State.queuedRows_get, ← State.slotState, State.shown_slotState,
    State.cmpLatch_slotState, State.slotState, State.get_set_same]
  rfl

/-! ## A row of an encode slot -/

/-- Changing a row otherwise leaves every row's cap. -/
theorem cap_modify {f : EncRow → EncRow} (hf : ∀ r, (f r).cap = r.cap) (rows : List EncRow) (j k : Nat) :
    ((rows.modify j f).getD k EncRow.blank).cap = (rows.getD k EncRow.blank).cap := by
  rw [List.getD_eq_getElem?_getD, List.getD_eq_getElem?_getD, List.getElem?_modify]
  cases rows[k]? with
  | none => rfl
  | some r =>
    by_cases h : j = k <;> simp [h, hf]

theorem EncPic.decide_length (p : EncPic) (l : List (Fin 64 × Nat)) : (p.decide l).rows.length = p.rows.length :=
  foldl_same List.length (fun _ _ => List.length_modify _ _ _) l p.rows

theorem State.codeRow_cap (s : State) (n face k step : Nat) (p : EncPic) (j : Nat) :
    ((s.codeRow n face k step p).rows.getD j EncRow.blank).cap = (p.rows.getD j EncRow.blank).cap := by
  unfold State.codeRow
  dsimp only
  exact cap_modify (by intro r; rfl) p.rows k j

/-- Row k of the slot's picture has a cap. -/
def State.RowCapped (s : State) (n pic k : Nat) : Prop :=
  ∃ y, (s.slot n).pics.find? (fun y => y.n == pic) = some y ∧ (y.rows.getD k EncRow.blank).cap.isSome = true

theorem State.RowCapped.of_slots {s t : State} {n pic k : Nat} (h : s.RowCapped n pic k) (e : t.slots = s.slots) : t.RowCapped n pic k := by
  rw [State.RowCapped, State.slot_of_slots e]
  exact h

/-- Replacing the slot's picture by one whose row has a cap. -/
theorem State.setPic_capped {s : State} {n pic k : Nat} {x q : EncPic} (hx : (s.slot n).pics.find? (fun y => y.n == pic) = some x)
    (hq : q.n = pic) (hc : (q.rows.getD k EncRow.blank).cap.isSome = true) : (s.setPic n q).RowCapped n pic k := by
  refine ⟨q, ?_, hc⟩
  rw [State.setPic, State.updSlot, State.slot_setSlot]
  subst hq
  simpa only [beq_iff_eq] using find?_replaced hx (beq_self_eq_true q.n)

/-- A Face that codes its share of a row leaves the caps. -/
theorem State.RowCapped.faceRow {s : State} {n pic k : Nat} (h : s.RowCapped n pic k) (u j : Nat) :
    (s.faceRow u n pic j).RowCapped n pic k := by
  obtain ⟨y, hy, hc⟩ := h
  unfold State.faceRow
  rw [hy]
  dsimp only
  split
  · have hn : y.n = pic := by simpa using List.find?_some hy
    refine State.setPic_capped hy hn ?_
    rw [State.codeRow_cap]
    exact hc
  · exact ⟨y, hy, hc⟩

/-- Count a row, and the first of its picture with its event, when it is a Spoil row (R250). -/
def State.noteSpoil (s : State) (n pic k : Nat) (p : EncPic) (spoil : Bool) : State :=
  if spoil then
    let s3 := s.bump (Reg.RC_BS_SPOIL_ROW_CNT n)
    if (p.rows.take k).all (fun r => !r.spoil) then
      (s3.bump (Reg.RC_BS_SPOIL_PIC_CNT n)).raise 0x6901 (objSlot n) { w16 := k, w20 := pic % 2 ^ 32 }
    else s3
  else s

theorem State.noteSpoil_slots (s : State) (n pic k : Nat) (p : EncPic) (spoil : Bool) : (s.noteSpoil n pic k p spoil).slots = s.slots := by
  unfold State.noteSpoil
  dsimp only
  split
  · split
    · exact (State.raise_keeps (.refl _ _) (within_self _)).slotsKept rfl
    · rfl
  · rfl

theorem State.takeEffort_slots (s : State) (u : Nat) : (s.takeEffort u).slots = s.slots :=
  (State.takeEffort_keeps (.refl _ s) (within_self _)).slotsKept rfl

theorem State.checkpoint_slots (s : State) (n pic row : Nat) (p : Option EncPic) : (s.checkpoint n pic row p).slots = s.slots :=
  (State.checkpoint_keeps (.refl _ s) (within_self _)).slotsKept rfl

/-- A row that is given a cap has it. -/
theorem givenCap_cap {rows : List EncRow} {k : Nat} (hk : k < rows.length) (cap : Nat) (spoil : Bool) :
    ((rows.modify k (fun r => { r with cap := some cap, spoil := spoil })).getD k EncRow.blank).cap = some cap := by
  rw [List.getD_eq_getElem?_getD, List.getElem?_modify, List.getElem?_eq_getElem hk]
  simp

/-- A row without a cap is given one and its checkpoint sent; one with a cap only has its charges noted. -/
def State.capRow (s : State) (n pic k : Nat) (p : EncPic) : State :=
  if (p.rows.getD k { EncRow.blank with cap := some 0 }).cap.isSome then s.setPic n p
  else
    let (cap, spoil) := s.admission p k
    let q := { p with rows := p.rows.modify k (fun r => { r with cap := some cap, spoil := spoil }) }
    let s2 := s.setPic n q
    (s2.noteSpoil n pic k p spoil).checkpoint n pic k (some q)

theorem State.capRow_capped {s : State} {n pic k : Nat} {x p : EncPic} (hx : (s.slot n).pics.find? (fun y => y.n == pic) = some x)
    (hp : p.n = pic) (hk : k < p.rows.length) : (s.capRow n pic k p).RowCapped n pic k := by
  unfold State.capRow
  split
  case isTrue h =>
    refine State.setPic_capped hx hp ?_
    rw [List.getD_eq_getElem _ _ hk] at h ⊢
    exact h
  case isFalse =>
    dsimp only
    refine .of_slots (.of_slots (State.setPic_capped hx ?_ ?_) (State.noteSpoil_slots _ n pic k p _)) (State.checkpoint_slots _ n pic k _)
    · exact hp
    · exact congrArg Option.isSome (givenCap_cap hk _ _)

/-- A unit that starts a row of a picture: the row gets its cap, its share is coded, and the next row queued. -/
theorem State.encodeRowStart_eq {s : State} {n pic : Nat} {x : EncPic} {u : Nat}
    (hx : ((s.takeEffort u).slot n).pics.find? (fun y => y.n == pic) = some x) (k : Nat) (decided : List (Fin 64 × Nat)) :
    s.encodeRowStart u n pic k decided =
      let coded := ((s.takeEffort u).capRow n pic k (x.decide decided)).faceRow u n pic k
      if k + 1 < (x.decide decided).rows.length then
        coded.launchAt u 2 (instant (s.rowStartAt n (x.decide decided).allow pic (k + 1))) (.encodeRow n pic (k + 1)) else coded := by
  unfold State.encodeRowStart
  dsimp only
  rw [hx]
  rfl

/-- The first unit to start a row of a picture has it capped. -/
theorem State.encodeRowStart_capped {s : State} {n pic k : Nat} {x : EncPic}
    (hx : (s.slot n).pics.find? (fun y => y.n == pic) = some x) (hk : k < x.rows.length) (u : Nat) (decided : List (Fin 64 × Nat)) :
    (s.encodeRowStart u n pic k decided).RowCapped n pic k := by
  have hn : x.n = pic := by simpa using List.find?_some hx
  have hx0 : ((s.takeEffort u).slot n).pics.find? (fun y => y.n == pic) = some x := by
    rw [State.slot_of_slots (s.takeEffort_slots u)]
    exact hx
  have coded := (State.capRow_capped (p := x.decide decided) hx0 hn ((EncPic.decide_length x decided).symm ▸ hk)).faceRow u k
  rw [State.encodeRowStart_eq hx0]
  dsimp only
  split
  · exact coded.of_slots rfl
  · exact coded

/-! ## The packets of a row -/

theorem State.frames_setFrames_other (s : State) (i : Nat) {c j : Nat} (h : j ≠ c) (l : List EgFrame) :
    (s.setFrames i c l).frames i j = s.frames i j :=
  Table.getD_put_other _ _ _ _ _ (by omega)

/-- A packet once the rows of slot `n` up to `o` are released. -/
def EgFrame.releasedTo (n o : Nat) (f : EgFrame) : EgFrame :=
  match f.row with
  | some (k, p, r) => if k = n ∧ rowOrder p r ≤ o then { f with eligible := true } else f
  | none => f

theorem EgFrame.releasedTo_row (n o : Nat) (f : EgFrame) : (f.releasedTo n o).row = f.row := by
  unfold EgFrame.releasedTo
  split
  · split <;> rfl
  · rfl

theorem EgFrame.releasedTo_eligible {n o p r : Nat} {f : EgFrame} (hr : f.row = some (n, p, r)) (h : rowOrder p r ≤ o) :
    (f.releasedTo n o).eligible = true := by
  simp only [EgFrame.releasedTo, hr, h, and_self, if_true]

/-- Every packet of queue `c` of a port is as the release leaves it. -/
def State.QueueReleased (s : State) (i n o c : Nat) : Prop := ∀ f ∈ s.frames i c, ∃ g : EgFrame, f = g.releasedTo n o

/-- Release the rows of one queue. -/
def State.releaseQueue (s : State) (i n o c : Nat) : State := s.setFrames i c ((s.frames i c).map (EgFrame.releasedTo n o))

theorem State.releaseQueue_released (s : State) (i n o c : Nat) : (s.releaseQueue i n o c).QueueReleased i n o c := by
  intro f hf
  rw [State.releaseQueue, State.frames_setFrames] at hf
  obtain ⟨g, -, rfl⟩ := List.mem_map.1 hf
  exact ⟨g, rfl⟩

theorem State.QueueReleased.releaseQueue {s : State} {i n o c : Nat} (h : s.QueueReleased i n o c) (j : Nat) :
    (s.releaseQueue i n o j).QueueReleased i n o c := by
  by_cases e : c = j
  · rw [e]
    exact s.releaseQueue_released i n o j
  · rw [State.QueueReleased, State.releaseQueue, State.frames_setFrames_other _ _ e]
    exact h

theorem State.releaseQueues_released (i n o : Nat) (l : List Nat) (s : State) {c : Nat} (h : c ∈ l ∨ s.QueueReleased i n o c) :
    (l.foldl (fun (t : State) c => t.releaseQueue i n o c) s).QueueReleased i n o c := by
  induction l generalizing s with
  | nil => exact h.resolve_left List.not_mem_nil
  | cons j l ih =>
    refine ih _ ?_
    rcases h with h | h
    · rcases List.mem_cons.1 h with rfl | h
      · exact .inr (s.releaseQueue_released i n o c)
      · exact .inl h
    · exact .inr (h.releaseQueue j)

/-- Note up to which row a slot's packets are released on a port. -/
def State.noteReleased (s : State) (i n o : Nat) : State :=
  { s with egr := { s.egr with released := Table.put s.egr.released (4 * i + n) o } }

/-- The packets of a released row, and of those before it, may go. -/
theorem State.releaseRow_eligible (s : State) (i n pic row : Nat) {j : Nat} (hj : j < 8) {f : EgFrame}
    (hf : f ∈ (s.releaseRow i n pic row).frames i j) {p r : Nat} (hr : f.row = some (n, p, r)) (ho : rowOrder p r ≤ rowOrder pic row) :
    f.eligible = true := by
  let o := max (rowOrder pic row) (Table.getD s.egr.released (4 * i + n) 0)
  have released := State.releaseQueues_released i n o [0, 1, 2, 3, 4, 5, 6, 7] (s.noteReleased i n o) (c := j)
    (.inl (show j ∈ List.range 8 from List.mem_range.2 hj))
  obtain ⟨g, rfl⟩ := released f hf
  rw [EgFrame.releasedTo_row] at hr
  exact EgFrame.releasedTo_eligible hr (ho.trans (le_max_left _ _))

/-! ## Gates -/

/-- A gate switch opens the gates of its tick. -/
theorem State.gateFired_gates (s : State) (i : Nat) : ((s.gateFired i).port i).gates = s.gatesOpen i s.lc := by
  have kept := (State.queueGate_keeps (.refl _ (s.setPort i { s.port i with gates := s.gatesOpen i s.lc })) (i := i)
    (within_self _)).egrKept rfl
  rw [State.port, State.gateFired, kept]
  exact congrArg EgPort.gates (State.port_setPort _ _ _)

end Sys2Proof.Machine
end

/-! # Proofs: row deadlines of decode slots (R274, R281) -/

section
namespace Sys2Proof.Machine

open Sys2Proof

/-! ## Slices of a picture -/

/-- Replacing by `q` what another test finds, a test that `q` fails finds what it found. -/
theorem find?_replaced_other {α : Type} {p r : α → Bool} {q : α} (hq : p q = false)
    (hr : ∀ y, r y = true → p y = false) (l : List α) :
    (l.map (fun y => if r y = true then q else y)).find? p = l.find? p := by
  have same : (p ∘ fun y => if r y = true then q else y) = p := by
    funext y
    by_cases hy : r y = true
    · simp [hy, hq, hr y hy]
    · simp [hy]
  rw [List.find?_map, same]
  cases h : l.find? p with
  | none => rfl
  | some y =>
    have hy : r y ≠ true := fun e => by simpa [List.find?_some h] using hr y e
    rw [Option.map_some, if_neg hy]

theorem DecPic.slice_putSlice (q : DecPic) (x : DecSlice) : (q.putSlice x).slice x.row x.sp = some x := by
  unfold DecPic.putSlice
  split
  case isTrue h =>
    obtain ⟨d, hd⟩ := Option.isSome_iff_exists.1 h
    have found := find?_replaced (q := x) hd (by simp)
    simpa only [DecPic.slice, Bool.and_eq_true, beq_iff_eq] using found
  case isFalse h =>
    have none : q.slices.find? (fun d => d.row == x.row && d.sp == x.sp) = none := Option.not_isSome_iff_eq_none.1 h
    simp only [DecPic.slice, List.find?_append, none, List.find?_cons, beq_self_eq_true, Bool.and_self, Option.none_or]

theorem DecPic.slice_putSlice_other (q : DecPic) {x : DecSlice} {k sp : Nat} (h : ¬ (x.row = k ∧ x.sp = sp)) :
    (q.putSlice x).slice k sp = q.slice k sp := by
  have hx : (x.row == k && x.sp == sp) = false := by simpa using h
  unfold DecPic.putSlice
  split
  · have kept := find?_replaced_other (p := fun d : DecSlice => d.row == k && d.sp == sp) (r := fun d => d.row == x.row && d.sp == x.sp)
      hx (fun y hy => ?_) q.slices
    · simpa only [DecPic.slice, Bool.and_eq_true, beq_iff_eq] using kept
    · obtain ⟨hr, hs⟩ : y.row = x.row ∧ y.sp = x.sp := by simpa using hy
      rw [hr, hs]
      exact hx
  · simp only [DecPic.slice, List.find?_append, List.find?_cons, hx, List.find?_nil, Option.or_none]

/-- The slice of row k of a subpicture is concealed. -/
def DecPic.Conceals (q : DecPic) (k sp : Nat) : Prop := ∃ d, q.slice k sp = some d ∧ d.concealed = true

theorem DecPic.Conceals.putSlice {q : DecPic} {k sp : Nat} (h : q.Conceals k sp) {x : DecSlice} (hx : x.concealed = true) :
    (q.putSlice x).Conceals k sp := by
  by_cases e : x.row = k ∧ x.sp = sp
  · obtain ⟨rfl, rfl⟩ := e
    exact ⟨x, q.slice_putSlice x, hx⟩
  · obtain ⟨d, hd, hc⟩ := h
    exact ⟨d, (q.slice_putSlice_other e).trans hd, hc⟩

/-! ## The pictures of a slot -/

@[simp] theorem State.dec_updDec (s : State) (n : Nat) (f : Dec → Dec) : (s.updDec n f).dec n = f (s.dec n) := by
  rw [State.updDec, State.setDec, State.updSlot, State.dec, State.slot_setSlot]

theorem State.decPic_setDecPic {s : State} {n : Nat} {x q : DecPic} (h : s.decPic n q.id = some x) :
    (s.setDecPic n q).decPic n q.id = some q := by
  rw [State.decPic, State.setDecPic, State.dec_updDec]
  simpa only [beq_iff_eq] using find?_replaced h (beq_self_eq_true q.id)

/-- A picture keeps its next row and its concealed slices, and no order number is given twice. -/
structure State.PicGrows (s t : State) (n id : Nat) : Prop where
  next : (s.dec n).nextId ≤ (t.dec n).nextId
  pic : ∀ y, s.decPic n id = some y →
    ∃ z, t.decPic n id = some z ∧ z.nextRow = y.nextRow ∧ ∀ k sp, y.Conceals k sp → z.Conceals k sp

theorem State.PicGrows.trans {s t u : State} {n id : Nat} (h : s.PicGrows t n id) (k : t.PicGrows u n id) : s.PicGrows u n id := by
  refine ⟨h.next.trans k.next, fun y hy => ?_⟩
  obtain ⟨z, hz, hr, hc⟩ := h.pic y hy
  obtain ⟨w, hw, hr', hc'⟩ := k.pic z hz
  exact ⟨w, hw, hr'.trans hr, fun k sp hs => hc' k sp (hc k sp hs)⟩

theorem State.PicGrows.of_pics {s t : State} {n : Nat} (hp : (t.dec n).pics = (s.dec n).pics) (hn : (t.dec n).nextId = (s.dec n).nextId)
    (id : Nat) : s.PicGrows t n id := by
  refine ⟨hn.ge, fun y hy => ⟨y, ?_, rfl, fun _ _ h => h⟩⟩
  rw [State.decPic, hp]
  exact hy

theorem State.PicGrows.of_slots {s t : State} (h : t.slots = s.slots) (n id : Nat) : s.PicGrows t n id := by
  have dec : t.dec n = s.dec n := congrArg Slot.dec (State.slot_of_slots h n)
  exact .of_pics (congrArg _ dec) (congrArg _ dec) id

theorem Keeps.picGrows {w : Nat} {s t : State} (k : Keeps w s t) (n id : Nat) (h : w.testBit 5 = false := by decide) :
    s.PicGrows t n id :=
  .of_slots (k.slotsKept h) n id

theorem State.PicGrows.ite {s t u : State} {n id : Nat} {p : Prop} [Decidable p] (h : s.PicGrows t n id) (k : s.PicGrows u n id) :
    s.PicGrows (if p then t else u) n id := by
  split
  · exact h
  · exact k

theorem State.PicGrows.refl (s : State) (n id : Nat) : s.PicGrows s n id := .of_slots rfl n id

/-- What each step of a fold keeps of a picture the fold keeps. -/
theorem State.PicGrows.foldl {β : Type} {f : State → β → State} {n id : Nat} (h : ∀ t b, State.PicGrows t (f t b) n id)
    (l : List β) (s : State) : s.PicGrows (l.foldl f s) n id := by
  induction l generalizing s with
  | nil => exact .refl s n id
  | cons b l ih => exact (h s b).trans (ih _)

/-- A picture replaced by one with the same next row and its concealed slices. -/
theorem State.setDecPic_grows {s : State} {n : Nat} {x q : DecPic} (h : s.decPic n q.id = some x) (hr : q.nextRow = x.nextRow)
    (hc : ∀ k sp, x.Conceals k sp → q.Conceals k sp) : s.PicGrows (s.setDecPic n q) n q.id := by
  refine ⟨?_, fun y hy => ⟨q, State.decPic_setDecPic h, ?_, ?_⟩⟩
  · rw [State.setDecPic, State.dec_updDec]
  all_goals
    obtain rfl : x = y := Option.some.inj (h.symm.trans hy)
    assumption

/-! ## Concealing -/

theorem State.markSp_grows (s : State) (n sp num pos id : Nat) : s.PicGrows (s.markSp n sp num pos) n id := by
  unfold State.markSp
  refine .trans (.of_pics ?_ ?_ id) ((State.showMarks_keeps (.refl _ _) (within_self _)).picGrows n id)
  all_goals rw [State.dec_updDec]

theorem State.markFresh_grows (s : State) (n : Nat) (q : DecPic) (id : Nat) : s.PicGrows (s.markFresh n q) n id := by
  unfold State.markFresh
  exact .ite (.foldl (fun t sp => t.markSp_grows n sp _ _ id) _ s) (.refl s n id)

/-- The slice that a concealed row of a subpicture leaves. -/
theorem DecPic.blank_key (q : DecPic) (k sp : Nat) :
    ((q.slice k sp).getD (DecSlice.blank k sp)).row = k ∧ ((q.slice k sp).getD (DecSlice.blank k sp)).sp = sp := by
  cases h : q.slice k sp with
  | none => exact ⟨rfl, rfl⟩
  | some d => simpa using List.find?_some h

/-- A slice of a row that is concealed. -/
def DecPic.concealedSlice (q : DecPic) (k sp : Nat) : DecSlice :=
  { (q.slice k sp).getD (DecSlice.blank k sp) with frags := [], bytes := 0, got := false, concealed := true }

theorem DecPic.concealedSlice_conceals (q : DecPic) (k sp : Nat) : (q.putSlice (q.concealedSlice k sp)).Conceals k sp := by
  obtain ⟨hr, hs⟩ := q.blank_key k sp
  refine ⟨q.concealedSlice k sp, ?_, rfl⟩
  have put := q.slice_putSlice (q.concealedSlice k sp)
  rwa [show (q.concealedSlice k sp).row = k from hr, show (q.concealedSlice k sp).sp = sp from hs] at put

/-- A picture whose row is concealed: what has arrived of the slice leaves the buffer. -/
theorem State.conceal_pic {s : State} {n id : Nat} {q : DecPic} (h : s.decPic n id = some q) (k sp : Nat) :
    s.PicGrows (s.conceal n id k sp) n id ∧ ∃ z, (s.conceal n id k sp).decPic n id = some z ∧ z.Conceals k sp := by
  obtain rfl : q.id = id := by simpa using List.find?_some h
  have replaced : s.PicGrows (s.setDecPic n (q.putSlice (q.concealedSlice k sp))) n q.id :=
    State.setDecPic_grows (q := q.putSlice (q.concealedSlice k sp)) h rfl fun _ _ hc => hc.putSlice rfl
  have marked : State.PicGrows (s.setDecPic n (q.putSlice (q.concealedSlice k sp))) (s.conceal n q.id k sp) n q.id := by
    rw [State.conceal, h]
    refine .trans (.of_pics ?_ ?_ _) (State.markSp_grows _ n sp q.num q.pos _)
    all_goals rw [State.dec_updDec]; rfl
  obtain ⟨z, hz, -, hc⟩ := marked.pic _ (State.decPic_setDecPic (q := q.putSlice (q.concealedSlice k sp)) h)
  exact ⟨replaced.trans marked, z, hz, hc k sp (q.concealedSlice_conceals k sp)⟩

theorem State.conceal_grows (s : State) (n id k sp : Nat) : s.PicGrows (s.conceal n id k sp) n id := by
  cases h : s.decPic n id with
  | none =>
    rw [State.conceal, h]
    exact .refl s n id
  | some q => exact (State.conceal_pic h k sp).1

/-- Every subpicture of a list is concealed in the picture's row. -/
theorem State.conceals_all {s : State} {n id k : Nat} {q : DecPic} (h : s.decPic n id = some q) {l : List Nat} {sp : Nat} (hsp : sp ∈ l) :
    ∃ z, (l.foldl (fun (t : State) sp => t.conceal n id k sp) s).decPic n id = some z ∧ z.Conceals k sp := by
  induction l generalizing s q with
  | nil => cases hsp
  | cons j l ih =>
    obtain ⟨grows, z, hz, hc⟩ := State.conceal_pic h k j
    rcases List.mem_cons.1 hsp with rfl | hsp
    · obtain ⟨w, hw, -, hcw⟩ := (State.PicGrows.foldl (fun t sp => t.conceal_grows n id k sp) l _).pic z hz
      exact ⟨w, hw, hcw k sp hc⟩
    · exact ih hz hsp

theorem State.oncePic_grows (s : State) (n id : Nat) (c : Code) (w16 : Nat) : s.PicGrows (s.oncePic n id c w16) n id := by
  unfold State.oncePic
  split
  · exact .refl s n id
  · next q h =>
    obtain rfl : q.id = id := by simpa using List.find?_some h
    refine .ite (.refl s n _) ?_
    have raised : s.PicGrows (s.setDecPic n { q with raised := c :: q.raised }) n q.id :=
      State.setDecPic_grows (q := { q with raised := c :: q.raised }) h rfl fun _ _ hc => hc
    exact raised.trans ((State.raise_keeps (.refl _ _) (within_self _)).picGrows n _)

/-! ## A row deadline -/

/-- The subpictures of a row whose slice is not done. -/
def State.openSps (s : State) (n : Nat) (q : DecPic) (k : Nat) : List Nat :=
  (s.liveSps n q k).filter (fun sp => match q.slice k sp with | some d => !d.done | none => true)

/-- Those of which nothing whole has arrived. -/
def State.missedSps (s : State) (n : Nat) (q : DecPic) (k : Nat) : List Nat :=
  (s.openSps n q k).filter (fun sp => match q.slice k sp with | some d => !d.got | none => true)

theorem State.mem_missedSps {s : State} {n : Nat} {q : DecPic} {k sp : Nat} (h : sp ∈ s.liveSps n q k) (hn : q.slice k sp = none) :
    sp ∈ s.missedSps n q k := by
  simp [State.missedSps, State.openSps, h, hn]

/-- The picture once its row is judged. -/
def State.judged (s : State) (n : Nat) (q : DecPic) (k : Nat) : State := s.setDecPic n { q with nextRow := k + 1 }

/-- A picture without its stamp at its first row is counted, and its fresh subpictures are marked. -/
def State.firstRow (s t : State) (n : Nat) (q : DecPic) (k : Nat) : State :=
  if k = (s.windowRows n).1 ∧ q.ts.isSome then
    (if q.stamped then t else (t.bump (Reg.DEC_BS_NOSTAMP_CNT n)).raise 0x6A04 (objSlot n) {}).markFresh n q
  else t

/-- What becomes of the slices that did not arrive. -/
def State.missRow (s t : State) (n : Nat) (q : DecPic) (k : Nat) : State :=
  if q.ts.isSome ∧ s.on (Reg.DEC_BS_JOINED n) then
    let s2 := ((s.missedSps n q k).foldl (fun (t : State) sp => t.conceal n q.id k sp) t).count (Reg.DEC_BS_MISS_SLICE_CNT n)
      (s.missedSps n q k).length
    if s.missedSps n q k = [] then s2 else s2.oncePic n q.id 0x6A01 (s.missedSps n q k).length
  else (s.openSps n q k).foldl (fun (t : State) sp => t.conceal n q.id k sp) t

/-- A picture of which no packet came is counted at its last row; the row's checkpoint is sent. -/
def State.lastRow (s t : State) (n : Nat) (q : DecPic) (k : Nat) : State :=
  (if k + 1 = (s.windowRows n).2 ∧ !(q.ts.isSome) then (t.bump (Reg.DEC_BS_MISS_PIC_CNT n)).raise 0x6A03 (objSlot n) {} else t).checkpoint
    n q.num k none

theorem State.rowDeadline_eq (s : State) (n : Nat) (q : DecPic) (k : Nat) :
    s.rowDeadline n q k = if q.idle || !(s.goesOn n q) then s.judged n q k
      else s.lastRow (s.missRow (s.firstRow (s.judged n q k) n q k) n q k) n q k := rfl

theorem State.count_slots (s : State) (f : Field) (m : Nat) : (s.count f m).slots = s.slots := by
  unfold State.count
  split <;> rfl

theorem State.firstRow_grows (s t : State) (n : Nat) (q : DecPic) (k id : Nat) : t.PicGrows (s.firstRow t n q k) n id := by
  refine .ite (.trans (.ite (.refl t n id) ?_) (State.markFresh_grows _ n q id)) (.refl t n id)
  exact .trans (.of_slots (t.count_slots (Reg.DEC_BS_NOSTAMP_CNT n) 1) n id) ((State.raise_keeps (.refl _ _) (within_self _)).picGrows n id)

theorem State.lastRow_grows (s t : State) (n : Nat) (q : DecPic) (k id : Nat) : t.PicGrows (s.lastRow t n q k) n id := by
  refine .trans (.ite ?_ (.refl t n id)) ((State.checkpoint_keeps (.refl _ _) (within_self _)).picGrows n id)
  exact .trans (.of_slots (t.count_slots (Reg.DEC_BS_MISS_PIC_CNT n) 1) n id)
    ((State.raise_keeps (.refl _ _) (within_self _)).picGrows n id)

/-- The counts and the event of missing slices, after they are concealed. -/
theorem State.missCounted_grows (t : State) (n : Nat) (l : List Nat) (id : Nat) :
    t.PicGrows (if l = [] then t.count (Reg.DEC_BS_MISS_SLICE_CNT n) l.length
      else (t.count (Reg.DEC_BS_MISS_SLICE_CNT n) l.length).oncePic n id 0x6A01 l.length) n id :=
  have counted := State.PicGrows.of_slots (t.count_slots (Reg.DEC_BS_MISS_SLICE_CNT n) l.length) n id
  .ite counted (counted.trans (State.oncePic_grows _ n id _ _))

theorem State.missRow_grows (s t : State) (n : Nat) (q : DecPic) (k : Nat) : t.PicGrows (s.missRow t n q k) n q.id :=
  .ite (.trans (.foldl (fun t sp => t.conceal_grows n q.id k sp) _ t) (State.missCounted_grows _ n _ _))
    (.foldl (fun t sp => t.conceal_grows n q.id k sp) _ t)

/-- In a joined slot the missing slices of a picture's row are concealed. -/
theorem State.missRow_conceals {s t : State} {n : Nat} {q y : DecPic} {k sp : Nat}
    (hj : q.ts.isSome = true ∧ s.on (Reg.DEC_BS_JOINED n) = true) (ht : t.decPic n q.id = some y) (hsp : sp ∈ s.missedSps n q k) :
    ∃ z, (s.missRow t n q k).decPic n q.id = some z ∧ z.Conceals k sp := by
  obtain ⟨z, hz, hc⟩ := State.conceals_all (k := k) ht hsp
  obtain ⟨w, hw, -, hcw⟩ := (State.missCounted_grows _ n (s.missedSps n q k) q.id).pic z hz
  refine ⟨w, ?_, hcw k sp hc⟩
  rw [State.missRow, if_pos hj]
  exact hw

/-- The slices that a row deadline finds missing. -/
def State.Misses (s : State) (n : Nat) (q : DecPic) (k sp : Nat) : Prop :=
  s.on (Reg.DEC_BS_JOINED n) = true ∧ q.idle = false ∧ q.ts.isSome = true ∧ sp ∈ s.liveSps n q k ∧ q.slice k sp = none

/-- A row deadline judges the row and conceals what it finds missing. -/
theorem State.rowDeadline_judges {s : State} {n : Nat} {q : DecPic} (h : s.decPic n q.id = some q) (k : Nat) :
    (s.dec n).nextId ≤ ((s.rowDeadline n q k).dec n).nextId ∧
      ∃ y, (s.rowDeadline n q k).decPic n q.id = some y ∧ y.nextRow = k + 1 ∧ ∀ sp, s.Misses n q k sp → y.Conceals k sp := by
  have judged : (s.judged n q k).decPic n q.id = some { q with nextRow := k + 1 } :=
    State.decPic_setDecPic (q := { q with nextRow := k + 1 }) h
  have next : ((s.judged n q k).dec n).nextId = (s.dec n).nextId := by rw [State.judged, State.setDecPic, State.dec_updDec]
  rw [State.rowDeadline_eq]
  split
  case isTrue idle =>
    refine ⟨next.ge, _, judged, rfl, fun sp ⟨_, hi, ht, _, _⟩ => ?_⟩
    simp [hi, State.goesOn, ht] at idle
  case isFalse =>
    have first := s.firstRow_grows (s.judged n q k) n q k q.id
    have miss := s.missRow_grows (s.firstRow (s.judged n q k) n q k) n q k
    have last := s.lastRow_grows (s.missRow (s.firstRow (s.judged n q k) n q k) n q k) n q k q.id
    obtain ⟨y, hy, hr, -⟩ := first.pic _ judged
    obtain ⟨z, hz, hr', -⟩ := miss.pic _ hy
    obtain ⟨w, hw, hr'', hc⟩ := last.pic _ hz
    refine ⟨next.ge.trans ((first.trans miss).trans last).next, w, hw, hr''.trans (hr'.trans hr), fun sp hm => ?_⟩
    obtain ⟨hj, -, ht, hsp, hn⟩ := hm
    obtain ⟨z', hz', hcz⟩ := State.missRow_conceals ⟨ht, hj⟩ hy (State.mem_missedSps hsp hn)
    obtain rfl : z = z' := Option.some.inj (hz.symm.trans hz')
    exact hc k sp hcz

/-! ## A row of a decode slot -/

theorem find?_insertPic {id : Nat} {q : DecPic} (h : q.id ≠ id) (l : List DecPic) :
    (insertPic q l).find? (fun x => x.id == id) = l.find? (fun x => x.id == id) := by
  induction l with
  | nil => simp [insertPic, h]
  | cons x l ih =>
    unfold insertPic
    split
    · simp [h]
    · simp only [List.find?_cons, ih]

/-- A picture entered under a new order number. -/
theorem State.addPic_grows {s : State} {n id : Nat} {q : DecPic} (h : q.id ≠ id) : s.PicGrows (s.addPic n q) n id := by
  refine ⟨?_, fun y hy => ⟨y, ?_, rfl, fun _ _ hc => hc⟩⟩
  · rw [State.addPic, State.dec_updDec]
    exact Nat.le_succ _
  · rw [State.addPic, State.decPic, State.dec_updDec]
    exact (find?_insertPic h _).trans hy

theorem State.expectNext_grows {s : State} {n id : Nat} (h : id < (s.dec n).nextId) (q : DecPic) : s.PicGrows (s.expectNext n q) n id := by
  unfold State.expectNext
  exact .ite (.refl s n id) (State.addPic_grows (show (s.dec n).nextId ≠ id by omega))

/-- The picture's frame is queued and the next picture expected. -/
theorem State.shown_grows {s : State} {n id : Nat} (h : id < (s.dec n).nextId) (q : DecPic) (p : Prop) [Decidable p] :
    s.PicGrows (if p then (s.expectNext n q).queueShow n q else s) n id :=
  .ite ((State.expectNext_grows h q).trans ((State.queueShow_keeps (.refl _ _) (within_self _)).picGrows n id)) (.refl s n id)

/-- The launches of the rows to come leave the pictures. -/
theorem State.nextRow_grows (t : State) (u n k hi : Nat) (q : DecPic) (id : Nat) : t.PicGrows (if k + 1 < hi then t.launchRow u n q (k + 1)
    else match t.picAfter n q with
      | some x => if (t.queue u).any (QLaunch.decodes n) then t else t.launchRow u n x x.nextRow
      | none => t) n id := by
  have launched (x : DecPic) (j : Nat) : t.PicGrows (t.launchRow u n x j) n id :=
    (State.launchRow_keeps (.refl _ t) (within_self _)).picGrows n id
  refine .ite (launched _ _) ?_
  split
  · exact .ite (.refl t n id) (launched _ _)
  · exact .refl t n id

/-- The first Face to start a row of a decode slot has it judged. -/
theorem State.decodeRowStart_judges {s : State} {n id k : Nat} {q : DecPic} (h : s.decPic n id = some q) (hk : q.nextRow = k)
    (hid : id < (s.dec n).nextId) (u : Nat) :
    ∃ y, (s.decodeRowStart u n id k).decPic n id = some y ∧ y.nextRow = k + 1 ∧ ∀ sp, s.Misses n q k sp → y.Conceals k sp := by
  obtain rfl : q.id = id := by simpa using List.find?_some h
  obtain ⟨next, y, hy, hr, hc⟩ := State.rowDeadline_judges h k
  have shown := State.shown_grows (hid.trans_le next) q (k = (s.windowRows n).1 ∧ s.goesOn n q = true ∧ q.present = true)
  have after := shown.trans (State.nextRow_grows _ u n k (s.windowRows n).2 q q.id)
  obtain ⟨z, hz, hrz, hcz⟩ := after.pic y hy
  refine ⟨z, ?_, hrz.trans hr, fun sp hm => hcz k sp (hc sp hm)⟩
  unfold State.decodeRowStart
  simp only [h, hk, if_true]
  exact hz

end Sys2Proof.Machine
end

/-! # Proofs: what fired launches do (R24, R68 to R74) -/

section
namespace Sys2Proof.Machine

open Sys2Proof

/-! ## Lanes, samples and completions -/

/-- A presentation on a lane that has loaded the picture of a memory source counts the frame. -/
theorem State.presentFired_counts {s : State} {i p : Nat} {f : LoadFrame} (hr : s.scnState i = scnRun) (hm : s.scnMem i = true)
    (hf : (s.scn i).frame = some f) (hp : f.pic = p) : s.Counted (s.presentFired i p) (Reg.SCN_LANE_FRAME_CNT i) := by
  have hoff : s.scnState i ≠ scnOff := by rw [hr]; decide
  rw [State.presentFired, if_neg hoff, if_pos hm, State.flip, hf]
  dsimp only
  rw [if_pos ⟨hr, hp⟩]
  refine .after (.before (State.bump_counted _ _) ?_) ((State.sendLink_keeps (.refl _ _) (within_self _)).get_like
    (f := Reg.SCN_LANE_FRAME_CNT i) (Reg.SCN_LANE_FRAME_CNT 0) rfl rfl)
  rfl

/-- The lane of a memory source at its frame start, before the next one is queued. -/
theorem State.frameStartFired_mem {s : State} {i : Nat} (hoff : s.scnState i ≠ scnOff) (hm : s.scnMem i = true) (p : Nat) :
    s.frameStartFired i p =
      (s.frameBegin i p p ((p : Rat) * framePeriodU (s.scnGet Reg.SCN_LANE_MEM_RATE i)) false).queueMem i (p + 1) := by
  rw [State.frameStartFired, if_neg hoff, if_pos hm]

/-- The transition frame is left out. -/
theorem State.frameStartFired_skips {s : State} {i : Nat} (hm : s.scnMem i = true) (hst : s.scnState i = scnTransition)
    (hs : (s.scn i).skipped = false) (p : Nat) :
    ((s.frameStartFired i p).scn i).skipped = true ∧ ((s.frameStartFired i p).scn i).frame = none := by
  have hoff : s.scnState i ≠ scnOff := by rw [hst]; decide
  have begun : s.frameBegin i p p ((p : Rat) * framePeriodU (s.scnGet Reg.SCN_LANE_MEM_RATE i)) false =
      s.setScn i { s.scn i with skipped := true, frame := none } := by
    simp only [State.frameBegin, hst, hs, scnTransition, scnWait, scnRun, Nat.reduceEqDiff, if_false, if_true, Bool.false_eq_true]
  have scn : (s.frameStartFired i p).scn i = { s.scn i with skipped := true, frame := none } := by
    rw [State.frameStartFired_mem hoff hm, begun]
    exact (congrArg (Table.getD · i Scn.reset) ((State.queueMem_keeps (.refl _ _) (within_self _)).scnsKept rfl)).trans
      (State.scn_setScn _ _ _)
  rw [scn]
  exact ⟨rfl, rfl⟩

/-- The frame that a lane of a memory source begins to load. -/
def State.memFrame (s : State) (i p : Nat) : LoadFrame :=
  { pic := p, p := (p : Rat) * framePeriodU (s.scnGet Reg.SCN_LANE_MEM_RATE i), opened := 0, answered := [], underrun := false, late := [],
    done := false, blank := false, still := false }

/-- A running lane of a memory source begins to load its frame. -/
theorem State.frameStartFired_loads {s : State} {i : Nat} (hm : s.scnMem i = true) (hst : s.scnState i = scnRun) (p : Nat) :
    (s.frameStartFired i p).scnState i = scnRun ∧ ((s.frameStartFired i p).scn i).skipped = false ∧
      ((s.frameStartFired i p).scn i).frame = some (s.memFrame i p) := by
  have hoff : s.scnState i ≠ scnOff := by rw [hst]; decide
  let loaded := (s.setScn i { s.scn i with frame := some (s.memFrame i p), skipped := false }).set (Reg.SCN_LANE_STATUS_STATE i) scnRun
  have begun : s.frameBegin i p p ((p : Rat) * framePeriodU (s.scnGet Reg.SCN_LANE_MEM_RATE i)) false =
      loaded.sendLink i (.frameStart (p % 2 ^ 32)) := by
    simp only [State.frameBegin, hst, scnWait, scnRun, Nat.reduceEqDiff, if_false, if_true]
    rfl
  have kept : Keeps 0x1008 loaded (s.frameStartFired i p) := by
    rw [State.frameStartFired_mem hoff hm, begun]
    exact State.queueMem_keeps (State.sendLink_keeps (.refl _ loaded))
  have scn : (s.frameStartFired i p).scn i = { s.scn i with frame := some (s.memFrame i p), skipped := false } :=
    (congrArg (Table.getD · i Scn.reset) (kept.scnsKept rfl)).trans (State.scn_setScn s i _)
  rw [scn]
  have state := kept.get_like (f := Reg.SCN_LANE_STATUS_STATE i) (Reg.SCN_LANE_STATUS_STATE 0) rfl rfl
  exact ⟨state.trans (State.get_set_same _ _ _), rfl, rfl⟩

theorem State.armPort_index (s : State) (k : Nat) : (s.audOut k).index ≤ ((s.armPort k).audOut k).index := by
  unfold State.armPort
  split
  · have moved (x : AudOut) (t : Int) : ((s.setAudOut k x).launchAt (audUnit k) 6 t (.sample k)).audOut k = x :=
      State.audOut_setAudOut s k x
    dsimp only
    rw [moved]
    exact le_max_left _ _
  · exact le_rfl

/-- A sample that goes out moves its output's index on. -/
theorem sampleFired_index {s : State} {k : Nat} (ha : s.audioOn = true) (he : s.on (Reg.AUD_OUT_ENABLE k) = true) :
    (s.audOut k).index < ((sampleFired k s).audOut k).index := by
  simp only [sampleFired, ha, he, Bool.and_self, if_true]
  refine lt_of_lt_of_le ?_ (State.armPort_index _ k)
  rw [State.audOut_setAudOut]
  exact Nat.lt_succ_self _

theorem State.Sent.imp {s t : State} {p q : Output → Prop} (h : s.Sent t p) (k : ∀ o, p o → q o) : s.Sent t q := by
  obtain ⟨l, hl, e, he, hp⟩ := h
  exact ⟨l, hl, e, he, k _ hp⟩

/-! ## A launch command whose head fires -/

/-- A launch command finds a head of its kinds that fires, and no lower unit's waits. -/
structure State.Fires (s : State) (c : Instr) (u : Nat) (kinds : List Nat) (q : QLaunch) (l : List QLaunch) : Prop where
  launch : launchOf c = some (u, kinds)
  queue : s.queue u = q :: l
  kind : kinds.contains q.kind = true
  now : s.firesNow u = true
  lowest : s.lowerWaits u = false

section
variable {s : State} {c : Instr} {u : Nat} {kinds : List Nat} {q : QLaunch} {l : List QLaunch}

theorem State.Fires.onTime (h : s.Fires c u kinds q l) (hl : s.past q.ref q.instant = false) :
    ∃ decided t, exec c s = .next t ∧ ((s.popped u l).launchActs u q false decided).FrameLeft t := by
  obtain ⟨decided, t, ht, left, -⟩ := exec_launch h.launch s
  rw [State.fireHead_onTime h.queue h.kind h.now h.lowest hl] at left
  exact ⟨decided, t, ht, left⟩

theorem State.Fires.late (h : s.Fires c u kinds q l) (hl : s.past q.ref q.instant = true) (h5 : q.kind ≠ 5) :
    ∃ decided t, exec c s = .next t ∧ (((s.popped u l).lateLaunch u q.tag).launchActs u q true decided).FrameLeft t := by
  obtain ⟨decided, t, ht, left, -⟩ := exec_launch h.launch s
  rw [State.fireHead_late h.queue h.kind h.now h.lowest hl h5] at left
  exact ⟨decided, t, ht, left⟩

theorem State.Fires.discards (h : s.Fires c u kinds q l) (hl : s.past q.ref q.instant = true) (h5 : q.kind = 5) :
    ∃ t, exec c s = .next t ∧ ((s.setQueue u l).launchDiscard q).FrameLeft t := by
  obtain ⟨decided, t, ht, left, -⟩ := exec_launch h.launch s
  rw [State.fireHead_discards h.queue h.kind h.now h.lowest (by rw [hl, h5]; rfl)] at left
  exact ⟨t, ht, left⟩

end

/-! ## Bare launch words of firmware -/

/-- A bare launch word and the frame after it leave the queues. -/
theorem State.FrameLeft.bare_tim {s t : State} {u kind tag : Nat} (h : (s.bareLaunch u kind tag).FrameLeft t) : t.tim = s.tim :=
  (h.rest.timKept rfl).trans ((State.bareLaunch_keeps (.refl _ s) (within_self _)).timKept rfl)

theorem State.popped_taken {s t : State} {u : Nat} {l : List QLaunch} (h : t.tim = (s.popped u l).tim) :
    t.queue u = l ∧ Table.find t.tim.fired u = some s.lc := by
  refine ⟨(State.queue_of_tim h u).trans (s.popped_queue u l), ?_⟩
  rw [h]
  exact s.popped_fired u l

/-- The late launch stays counted and its event raised. -/
theorem State.FrameLeft.bare_late {s t : State} {u kind tag : Nat} (h : ((s.lateLaunch u tag).bareLaunch u kind tag).FrameLeft t) :
    s.Counted t Reg.TIM_LAUNCH_LATE_CNT ∧ t.Latches 0x5001 := by
  have bare := (State.bareLaunch_keeps (.refl _ (s.lateLaunch u tag)) (u := u) (kind := kind) (tag := tag) (within_self _)).regs
    Reg.TIM_LAUNCH_LATE_CNT rfl
  exact ⟨(s.lateLaunch_counted u tag).after ((h.rest.regs _ rfl).trans bare),
    (s.lateLaunch_latches u tag).stay ((State.bareLaunch_latchesStay _ u kind tag).trans h.latches)⟩

theorem State.FrameLeft.signalled {s t : State} {u tag : Nat} {x : Task} (h : (s.bareLaunch u 0xF tag).FrameLeft t) (hu : 32 ≤ u)
    (hu' : u < 128) (ht : tag < 4096) (hx : Table.find s.tasks tag = some x) (hs : x.state ≠ .faulted) :
    Table.find t.tasks tag = some (({ x with flags := x.flags ||| 2 ^ 31 } : Task).wake s.lc) := by
  rw [h.rest.tasksKept rfl]
  exact State.bareLaunch_signals hu hu' ht hx hs

end Sys2Proof.Machine
end

/-! # Proofs: launches fire (R68 to R74) -/

section
namespace Sys2Proof.Machine

open Sys2Proof

section
variable {s : State} {c : Instr} {u : Nat} {kinds : List Nat} {q : QLaunch} {l : List QLaunch}

/-! ## Firmware's launches -/

theorem State.Fires.firmware_onTime (h : s.Fires c u kinds q l) (ha : q.act = .firmware) (hl : s.past q.ref q.instant = false) :
    ∃ t, exec c s = .next t ∧ ((s.popped u l).bareLaunch u q.kind q.tag).FrameLeft t := by
  obtain ⟨_, t, ht, left⟩ := h.onTime hl
  simp only [State.launchActs, ha] at left
  exact ⟨t, ht, left⟩

theorem State.Fires.firmware_late (h : s.Fires c u kinds q l) (ha : q.act = .firmware) (hl : s.past q.ref q.instant = true)
    (h5 : q.kind ≠ 5) :
    ∃ t, exec c s = .next t ∧ (((s.popped u l).lateLaunch u q.tag).bareLaunch u q.kind q.tag).FrameLeft t := by
  obtain ⟨_, t, ht, left⟩ := h.late hl h5
  simp only [State.launchActs, ha] at left
  exact ⟨t, ht, left⟩

/-- A launch on time leaves its queue. -/
theorem State.Fires.taken (h : s.Fires c u kinds q l) (ha : q.act = .firmware) (hl : s.past q.ref q.instant = false) :
    Completes c s (fun t => t.queue u = l ∧ Table.find t.tim.fired u = some s.lc) := by
  obtain ⟨t, ht, left⟩ := h.firmware_onTime ha hl
  exact ⟨t, ht, State.popped_taken left.bare_tim⟩

/-- A late launch leaves its queue, is counted and raises 0x5001. -/
theorem State.Fires.takenLate (h : s.Fires c u kinds q l) (ha : q.act = .firmware) (hl : s.past q.ref q.instant = true)
    (h5 : q.kind ≠ 5) :
    Completes c s (fun t => t.queue u = l ∧ Table.find t.tim.fired u = some s.lc ∧
      s.Counted t Reg.TIM_LAUNCH_LATE_CNT ∧ t.Latches 0x5001) := by
  obtain ⟨t, ht, left⟩ := h.firmware_late ha hl h5
  obtain ⟨hq, hf⟩ := State.popped_taken (left.bare_tim.trans (State.lateLaunch_tim _ _ _))
  obtain ⟨counted, latched⟩ := left.bare_late
  exact ⟨t, ht, hq, hf, counted, latched⟩

/-- A late presentation leaves its queue and is not counted. -/
theorem State.Fires.discarded (h : s.Fires c u kinds q l) (ha : q.act = .firmware) (hl : s.past q.ref q.instant = true) (h5 : q.kind = 5) :
    Completes c s (fun t => t.queue u = l ∧ t.get Reg.TIM_LAUNCH_LATE_CNT = s.get Reg.TIM_LAUNCH_LATE_CNT) := by
  obtain ⟨t, ht, left⟩ := h.discards hl h5
  rw [State.launchDiscard, ha] at left
  exact ⟨t, ht, (State.queue_of_tim (left.rest.timKept rfl) u).trans (s.queue_setQueue u l), left.rest.regs _ rfl⟩

/-- A launch at a supervisor sets its source. -/
theorem State.Fires.latches (h : s.Fires c u kinds q l) (ha : q.act = .firmware) (hu : 256 ≤ u) (hl : s.past q.ref q.instant = false) :
    Completes c s (fun t => bit (t.get (Reg.BRK_LATCH 31)) (u - 232) = true) := by
  obtain ⟨t, ht, left⟩ := h.firmware_onTime ha hl
  have hlt : u < 264 := launchOf_unit h.launch
  exact ⟨t, ht, left.latches 31 _ (by omega) (State.bareLaunch_latches hu hlt _ _ _)⟩

/-- A launch at a slice engine signals its task, late or not. -/
theorem State.Fires.signals (h : s.Fires c u kinds q l) (ha : q.act = .firmware) (hu : 32 ≤ u) (hu' : u < 128) (hk : q.kind = 0xF)
    (ht : q.tag < 4096) {x : Task} (hx : Table.find s.tasks q.tag = some x) (hs : x.state ≠ .faulted) :
    Completes c s (fun t => Table.find t.tasks q.tag = some (({ x with flags := x.flags ||| 2 ^ 31 } : Task).wake s.lc)) := by
  cases hl : s.past q.ref q.instant with
  | false =>
    obtain ⟨t, ht', left⟩ := h.firmware_onTime ha hl
    rw [hk] at left
    exact ⟨t, ht', left.signalled hu hu' ht hx hs⟩
  | true =>
    obtain ⟨t, ht', left⟩ := h.firmware_late ha hl (by rw [hk]; decide)
    rw [hk] at left
    have signalled := left.signalled hu hu' ht (((congrArg (Table.find · q.tag) (State.lateLaunch_tasks _ u q.tag)).trans hx)) hs
    rw [State.lateLaunch_lc] at signalled
    exact ⟨t, ht', signalled⟩

/-! ## The device's own launches -/

/-- A timed descriptor of opcode 0 is completed. -/
theorem State.Fires.completes (h : s.Fires c u kinds q l) {d : Desc} {k : Ticket} (ha : q.act = .timed 0 d k)
    (hl : s.past q.ref q.instant = false) (he : (s.fn k.fn).epoch = k.epoch) (hr : (s.ring k.cpl).isSome = true) :
    Completes c s (fun t => s.Sent t (fun o => ∃ r i e, o = .cpl r i e ∧ e.cookie = k.cookie ∧
      e.status = State.ticketStatus { k with late := false } 0)) := by
  obtain ⟨_, t, ht, left⟩ := h.onTime hl
  simp only [State.launchActs, ha] at left
  have sent := (State.complete_sent (s.popped u l) { k with late := false } 0 0 he hr).before (s := s) (List.suffix_refl _)
  refine ⟨t, ht, (sent.after left.rest.sent).imp ?_⟩
  rintro o ⟨r, i, e, ho, -, hc, hs⟩
  exact ⟨r, i, e, ho, hc, hs⟩

/-- A composition starts. -/
theorem State.Fires.composes (h : s.Fires c u kinds q l) {n p : Nat} (ha : q.act = .composition n p) (hl : s.past q.ref q.instant = false) :
    Completes c s (fun t => (t.slot n).next = p + 1 ∧ ((t.slot n).pics.getLast?.map (fun x => x.n)) = some p ∧
      (s.slotState n = slotStarting → t.slotState n = slotRunning)) := by
  obtain ⟨_, t, ht, left⟩ := h.onTime hl
  simp only [State.launchActs, ha] at left
  obtain ⟨pics, x, hx, hp, hn⟩ := (s.popped u l).compositionStart_plans n p
  have slot := State.slot_of_slots (left.rest.slotsKept rfl) n
  have state : t.slotState n = ((s.popped u l).compositionStart n p).slotState n :=
    left.rest.get_like (f := Reg.ENC_BS_RUN_STATE n) (Reg.ENC_BS_RUN_STATE 0) rfl rfl
  refine ⟨t, ht, ?_, ?_, fun hst => ?_⟩
  · rw [slot, hn]
  · rw [slot, hp, List.getLast?_concat, Option.map_some, hx]
  · exact state.trans (State.compositionStart_runs (s := s.popped u l) hst p)

/-- A row of an encoder gets its cap. -/
theorem State.Fires.caps (h : s.Fires c u kinds q l) {n p k : Nat} {x : EncPic} (ha : q.act = .encodeRow n p k)
    (hl : s.past q.ref q.instant = false) (hx : (s.slot n).pics.find? (fun y => y.n == p) = some x) (hk : k < x.rows.length) :
    Completes c s (fun t => t.RowCapped n p k) := by
  obtain ⟨decided, t, ht, left⟩ := h.onTime hl
  simp only [State.launchActs, ha] at left
  exact ⟨t, ht, (State.encodeRowStart_capped (s := s.popped u l) hx hk u decided).of_slots (left.rest.slotsKept rfl)⟩

/-- A row's packets may go. -/
theorem State.Fires.releases (h : s.Fires c u kinds q l) {n p k : Nat} (ha : q.act = .release n p k) (hl : s.past q.ref q.instant = false) :
    Completes c s (fun t => ∀ j < 8, ∀ f ∈ t.frames (u - 128) j, ∀ p' r, f.row = some (n, p', r) → rowOrder p' r ≤ rowOrder p k →
      f.eligible = true) := by
  obtain ⟨_, t, ht, left⟩ := h.onTime hl
  simp only [State.launchActs, ha] at left
  refine ⟨t, ht, fun j hj f hf p' r hr ho => ?_⟩
  rw [State.frames, left.rest.egrKept rfl] at hf
  exact State.releaseRow_eligible _ _ _ _ _ hj hf hr ho

/-- A port's gates change. -/
theorem State.Fires.switches (h : s.Fires c u kinds q l) {i x : Nat} (ha : q.act = .gate i x) (hl : s.past q.ref q.instant = false) :
    Completes c s (fun t => (t.port i).gates = s.gatesOpen i s.lc) := by
  obtain ⟨_, t, ht, left⟩ := h.onTime hl
  simp only [State.launchActs, ha] at left
  have port : t.port i = ((s.popped u l).gateFired i).port i :=
    congrArg (fun e : Egress => Table.getD e.ports i EgPort.reset) (left.rest.egrKept rfl)
  exact ⟨t, ht, (congrArg EgPort.gates port).trans ((s.popped u l).gateFired_gates i)⟩

/-- A row of a decode slot is judged. -/
theorem State.Fires.judges (h : s.Fires c u kinds q l) {n id k : Nat} {x : DecPic} (ha : q.act = .decodeRow n id k)
    (hl : s.past q.ref q.instant = false) (hx : s.decPic n id = some x) (hk : x.nextRow = k) (hid : id < (s.dec n).nextId) :
    Completes c s (fun t => (∃ y, t.decPic n id = some y ∧ y.nextRow = k + 1) ∧
      (s.on (Reg.DEC_BS_JOINED n) = true → x.idle = false → x.ts.isSome = true → ∀ sp ∈ s.liveSps n x k, x.slice k sp = none →
        ∃ y d, t.decPic n id = some y ∧ y.slice k sp = some d ∧ d.concealed = true)) := by
  obtain ⟨_, t, ht, left⟩ := h.onTime hl
  simp only [State.launchActs, ha] at left
  obtain ⟨y, hy, hr, hc⟩ := State.decodeRowStart_judges (s := s.popped u l) hx hk hid u
  have hy' : t.decPic n id = some y := by
    rw [State.decPic, State.dec, State.slot_of_slots (left.rest.slotsKept rfl)]
    exact hy
  refine ⟨t, ht, ⟨y, hy', hr⟩, fun hj hi hts sp hsp hn => ?_⟩
  obtain ⟨d, hd, hdc⟩ := hc sp ⟨hj, hi, hts, hsp, hn⟩
  exact ⟨y, d, hy', hd, hdc⟩

/-- A lane counts a presented frame. -/
theorem State.Fires.presents (h : s.Fires c u kinds q l) {i p : Nat} {f : LoadFrame} (ha : q.act = .present i p)
    (hl : s.past q.ref q.instant = false) (hr : s.scnState i = scnRun) (hm : s.scnMem i = true) (hf : (s.scn i).frame = some f)
    (hp : f.pic = p) : Completes c s (fun t => s.Counted t (Reg.SCN_LANE_FRAME_CNT i)) := by
  obtain ⟨_, t, ht, left⟩ := h.onTime hl
  simp only [State.launchActs, ha] at left
  refine ⟨t, ht, .after (t := (s.popped u l).presentFired i p) ?_ (left.rest.get_like (Reg.SCN_LANE_FRAME_CNT 0) rfl rfl)⟩
  exact State.presentFired_counts (s := s.popped u l) hr hm hf hp

/-- A lane begins to load its frame, or leaves its transition frame out. -/
theorem State.Fires.loads (h : s.Fires c u kinds q l) {i p : Nat} (ha : q.act = .frameStart i p) (hl : s.past q.ref q.instant = false)
    (hm : s.scnMem i = true) :
    (s.scnState i = scnTransition → (s.scn i).skipped = false → Completes c s (fun t => (t.scn i).skipped = true ∧ (t.scn i).frame = none)) ∧
    (s.scnState i = scnRun → Completes c s (fun t => t.scnState i = scnRun ∧ (t.scn i).skipped = false ∧
      (t.scn i).frame = some (s.memFrame i p))) := by
  obtain ⟨_, t, ht, left⟩ := h.onTime hl
  simp only [State.launchActs, ha] at left
  have scn : t.scn i = ((s.popped u l).frameStartFired i p).scn i := congrArg (Table.getD · i Scn.reset) (left.rest.scnsKept rfl)
  have state : t.scnState i = ((s.popped u l).frameStartFired i p).scnState i := left.rest.get_like (Reg.SCN_LANE_STATUS_STATE 0) rfl rfl
  refine ⟨fun hst hs => ⟨t, ht, ?_⟩, fun hst => ⟨t, ht, ?_⟩⟩
  · dsimp only
    rw [scn]
    exact State.frameStartFired_skips (s := s.popped u l) hm hst hs p
  · dsimp only
    rw [scn, state]
    exact State.frameStartFired_loads (s := s.popped u l) hm hst p

/-- A sample goes out. -/
theorem State.Fires.sends (h : s.Fires c u kinds q l) {k : Nat} (ha : q.act = .sample k) (hl : s.past q.ref q.instant = false)
    (hon : s.audioOn = true) (he : s.on (Reg.AUD_OUT_ENABLE k) = true) :
    Completes c s (fun t => (s.audOut k).index < (t.audOut k).index) := by
  obtain ⟨_, t, ht, left⟩ := h.onTime hl
  simp only [State.launchActs, ha] at left
  exact ⟨t, ht, (sampleFired_index (s := s.popped u l) hon he).trans_le (left.index k)⟩

end

/-- Settles O57: the head is taken, counted when late, and its act runs on what is left; an output's frame that follows the release of a
sample, while the active domain is disabled, leaves all of it. -/
theorem launchesFire : Obligations.LaunchesFire := by
  intro c u kinds q l s launch queue kind now
  refine ⟨fun waits on => ?_, fun lowest => ?_⟩
  · obtain ⟨decided, t, ht, -, same⟩ := exec_launch launch s
    exact ⟨t, ht, (same on).trans (State.fireHead_waits waits kinds decided)⟩
  · have h : s.Fires c u kinds q l := ⟨launch, queue, kind, now, lowest⟩
    exact ⟨h.taken, h.takenLate, h.discarded, h.latches, fun x ha hu hu' hk ht hx hs => h.signals ha hu hu' hk ht hx hs,
      fun d k ha hl he hr => h.completes ha hl he hr, fun n p ha hl => h.composes ha hl, fun n p k x ha hl hx hk => h.caps ha hl hx hk,
      fun n p k ha hl => h.releases ha hl, fun i x ha hl => h.switches ha hl,
      fun n id k x ha hl hx hk hid => h.judges ha hl hx hk hid, fun i p f ha hl hr hm hf hp => h.presents ha hl hr hm hf hp,
      fun i p ha hl hm => h.loads ha hl hm, fun k ha hl hon he => h.sends ha hl hon he⟩

end Sys2Proof.Machine
end

/-! # Proofs: writers that do not reach a register (R81, R98, R107, R204, R423) -/

section
namespace Sys2Proof.Machine

/-- A mode request is heard of a HALTED device's PF or firmware, and else of a writer that reaches PWR_MODE_CTRL. -/
theorem State.modeWrite_unheard {s : State} {w : Writer} (hw : s.mayWrite w Reg.PWR_MODE_CTRL_TARGET.off = false)
    (h : s.halted = false ∨ viewOf w ≠ 0 ∨ w = .debug) (m : Nat) (force req : Bool) : s.modeWrite w m force req = s := by
  unfold State.modeWrite
  dsimp only
  split
  next halted =>
    refine if_neg fun heard => ?_
    simp only [Bool.and_eq_true, beq_iff_eq, bne_iff_ne] at heard
    obtain ⟨⟨-, pf⟩, open_⟩ := heard
    rcases h with running | vf | debug
    · exact Bool.false_ne_true (running.symm.trans halted)
    · exact vf pf
    · exact open_ debug
  next => exact State.byWriter_unreached hw _

theorem State.slotCommand_unreached {s : State} {w : Writer} {n : Nat} (hw : s.mayWrite w (Reg.ENC_BS_RUN_CMD n).off = false)
    (freerun autostart : Bool) (cmd : Nat) (failed : List UnitId) : s.slotCommand (.reg w freerun autostart) n cmd failed = s := by
  unfold State.slotCommand
  exact State.byWriter_unreached hw _

theorem State.audRouteWrite_unreached {s : State} {w : Writer} {c : Nat} (hw : s.mayWrite w (Reg.AUD_ROUTE_SRC c).off = false) (v : Nat) :
    s.audRouteWrite w c v = s := by
  unfold State.audRouteWrite
  exact State.byWriter_unreached hw _

theorem State.helperGo_unreached {s : State} {w : Writer} {c : Nat} (hw : s.mayWrite w (Reg.DMC_TRN_GO c).off = false) (op v : Nat) :
    s.helperGo w c op v = s := by
  unfold State.helperGo
  exact State.byWriter_unreached hw _

theorem State.chkWrite_unreached {s : State} {w : Writer} {n : Nat} (hw : s.mayWrite w (Reg.CHK_MODE n).off = false) (v : Nat) :
    s.chkWrite w n v = s := by
  unfold State.chkWrite
  exact State.byWriter_unreached hw _

theorem State.trpCtrlWrite_unreached {s : State} {w : Writer} (hw : s.mayWrite w Reg.TRP_CTRL_ENABLE.off = false) (v : Nat) :
    s.trpCtrlWrite w v = s := by
  unfold State.trpCtrlWrite
  exact State.byWriter_unreached hw _

/-- A START that changes nothing fences no unit, so nothing follows of its self-tests. -/
theorem exec_slotStart_inert {s : State} {src : SlotSrc} {n : Fin 4} {failed : List UnitId}
    (h : s.slotCommand src n 1 failed = s) : exec (.slotStart src n failed) s = .next s := by
  show execSlotStart src n failed s = _
  simp [execSlotStart, h]

/-- Settles O6: a command is its effect by its writer (`byWriter`), which is nothing for a writer that does not reach the register. -/
theorem unreachedRegistersKeepTheState : Obligations.UnreachedRegistersKeepTheState := by
  intro s w shut closed
  have inert {f : Field} (h : shut f) (act : State → State) :
      (Host.Outcome.next (s.byWriter w f.off act) : Host.Outcome State Fault Refusal) = .next s :=
    congrArg Host.Outcome.next (State.byWriter_unreached (closed f h) act)
  have same {t : State} (h : t = s) : (Host.Outcome.next t : Host.Outcome State Fault Refusal) = .next s := congrArg _ h
  exact ⟨fun _ h => inert h _, fun h => inert h _, fun _ h => inert h _, fun h => inert h _, fun h => inert h _, fun _ h => inert h _,
    fun _ h => inert h _, fun h => inert h _, fun h => inert h _, fun _ h => inert h _, fun _ h => inert h _, fun _ h => inert h _,
    fun _ h => inert h _, fun _ h => inert h _, fun _ h => inert h _, fun _ h => inert h _, fun _ h => inert h _, fun _ _ h => inert h _,
    fun h => inert h _, fun h => inert h _, fun h => inert h _, fun h => inert h _, fun h => inert h _, fun _ h => inert h _,
    fun h => inert h _, fun h => inert h _, fun h => inert h _, fun h => inert h _, fun _ h => ⟨inert h _, inert h _⟩,
    fun _ h => inert h _, fun _ _ h => inert h _, fun _ _ h => inert h _,
    fun m force h who => same (State.modeWrite_unheard (closed _ h) who m force true),
    fun _ _ h => inert h _,
    fun n a b l h => ⟨exec_slotStart_inert (State.slotCommand_unreached (closed _ h) a b 1 l),
      same (State.slotCommand_unreached (closed _ h) a b 2 []), same (State.slotCommand_unreached (closed _ h) a b 3 [])⟩,
    fun _ _ _ h => inert h _, fun _ _ _ _ h => inert h _, fun _ h => inert h _, fun _ _ _ _ h => inert h _,
    fun _ _ _ _ _ h => inert h _, fun _ h => inert h _, fun _ _ h => inert h _, fun _ h => inert h _, fun _ h => inert h _,
    fun _ _ h => inert h _, fun _ _ h => inert h _, fun _ _ _ h => inert h _, fun _ h => inert h _, fun _ _ _ h => inert h _,
    fun h => inert h _, fun _ v h => same (State.audRouteWrite_unreached (closed _ h) v.toNat), fun _ h => inert h _,
    fun _ v h => ⟨same (State.helperGo_unreached (closed _ h) 0 v.toNat), same (State.helperGo_unreached (closed _ h) 1 v.toNat),
      same (State.helperGo_unreached (closed _ h) 2 v.toNat)⟩,
    fun _ _ h => inert h _, fun _ _ _ h => ⟨inert h _, inert h _⟩, fun _ h => inert h _, fun _ h => inert h _, fun _ _ h => inert h _,
    fun _ v h => same (State.chkWrite_unreached (closed _ h) v.toNat), fun v h => same (State.trpCtrlWrite_unreached (closed _ h) v.toNat),
    fun _ h => inert h _, fun _ h => inert h _⟩

end Sys2Proof.Machine
end

/-! # Proofs: START of a slot (R99 to R102, R111) -/

section
namespace Sys2Proof.Machine

open Sys2Proof

/-- A value that fits its field reads back. -/
theorem State.get_set_fits {f : Field} {v : Nat} (h : v < 2 ^ fieldWidth f) (s : State) : (s.set f v).get f = v :=
  (State.get_set_same _ _ _).trans (Nat.mod_eq_of_lt h)

/-- Writing fields of other names leaves a field. -/
theorem State.setAll_get_name {l : List (Field × Nat)} {f : Field} (s : State) (h : f.id % 1024 ∉ l.map (fun e => e.1.id % 1024)) :
    (s.setAll l).get f = s.get f :=
  State.setAll_get l s f fun _ he same => h (same ▸ List.mem_map_of_mem he)

/-! ## A command written to ENC_BSn_RUN -/

/-- The flags beside CMD are written with it. -/
def State.runFlags (s : State) (n : Nat) (freerun autostart : Bool) : State :=
  s.setAll [(Reg.ENC_BS_RUN_FREERUN_OK n, b2n freerun), (Reg.ENC_BS_RUN_AUTOSTART n, b2n autostart)]

theorem State.runFlags_slotState (s : State) (n : Nat) (freerun autostart : Bool) (k : Nat) :
    (s.runFlags n freerun autostart).slotState k = s.slotState k :=
  State.setAll_get_name _ (show (Reg.ENC_BS_RUN_STATE 0).id % 1024 ∉
    [Reg.ENC_BS_RUN_FREERUN_OK 0, Reg.ENC_BS_RUN_AUTOSTART 0].map (fun f => f.id % 1024) by decide)

/-- The answer to a command: LAST_STATUS and a log entry. -/
def State.runAnswered (s : State) (w : Writer) (n : Nat) (code : Code) (word : Nat) : State :=
  (s.set (Reg.ENC_BS_RUN_LAST_STATUS n) code).logReg w (Reg.ENC_BS_RUN_CMD n).off code 0 word

theorem State.runAnswered_slotState (s : State) (w : Writer) (n : Nat) (code : Code) (word k : Nat) :
    (s.runAnswered w n code word).slotState k = s.slotState k :=
  Eq.trans ((State.logReg_keeps (.refl _ _) (within_self _)).get_like (Reg.ENC_BS_RUN_STATE 0) rfl rfl)
    (State.get_set_other _ _ _ _ (show (Reg.ENC_BS_RUN_STATE 0).id % 1024 ≠ (Reg.ENC_BS_RUN_LAST_STATUS 0).id % 1024 by decide))

theorem State.runAnswered_status {code : Code} (h : code < 2 ^ 16) (s : State) (w : Writer) (n word : Nat) :
    (s.runAnswered w n code word).get (Reg.ENC_BS_RUN_LAST_STATUS n) = code :=
  Eq.trans ((State.logReg_keeps (.refl _ _) (within_self _)).get_like (Reg.ENC_BS_RUN_LAST_STATUS 0) rfl rfl) (State.get_set_fits h _)

theorem State.runAnswered_slots (s : State) (w : Writer) (n : Nat) (code : Code) (word : Nat) :
    (s.runAnswered w n code word).slots = s.slots :=
  (State.logReg_keeps (.refl _ _) (within_self _)).slotsKept rfl

section
variable {s : State} {w : Writer} {n : Nat} (hw : s.mayWrite w (Reg.ENC_BS_RUN_CMD n).off = true)
include hw

/-- A function that does not own the slot is answered 0x3403, whatever it commands. -/
theorem State.slotCommand_disowned (ho : s.mayCommand n w = false) (freerun autostart : Bool) (cmd : Nat) (failed : List UnitId) :
    ∃ word, s.slotCommand (.reg w freerun autostart) n cmd failed = (s.runFlags n freerun autostart).runAnswered w n 0x3403 word := by
  refine ⟨cmd * 2 ^ 28 + b2n freerun * 2 ^ 27 + b2n autostart * 2 ^ 26, ?_⟩
  unfold State.slotCommand
  dsimp only
  rw [State.byWriter_reached hw, ho]
  rfl

/-- START by a writer that may command the slot. -/
theorem State.slotCommand_start (ho : s.mayCommand n w = true) (freerun autostart : Bool) :
    ∃ word, s.slotCommand (.reg w freerun autostart) n 1 [] =
      ((s.runFlags n freerun autostart).slotStart n freerun []).1.runAnswered w n
        ((s.runFlags n freerun autostart).slotStart n freerun []).2 word := by
  refine ⟨1 * 2 ^ 28 + b2n freerun * 2 ^ 27 + b2n autostart * 2 ^ 26, ?_⟩
  unfold State.slotCommand
  dsimp only
  rw [State.byWriter_reached hw, ho]
  rfl

end

/-! ## The checks of START, and what it does -/

theorem State.slotStart_refused {s : State} {n : Nat} {freerun : Bool} (h : s.startCode n freerun ≠ 0) (failed : List UnitId) :
    s.slotStart n freerun failed = (s, s.startCode n freerun) :=
  if_pos h

/-- The checks of START include that the columns have a placement. -/
theorem State.placement_of_startCode {s : State} {n : Nat} {freerun : Bool} (h : s.startCode n freerun = 0) :
    ∃ faces, s.placement n = some faces := by
  by_contra hp
  have hn : (s.placement n).isNone = true := by simpa [Option.eq_none_iff_forall_ne_some] using hp
  simp only [State.startCode, hn, if_true] at h
  split at h
  · cases h
  split at h
  next budget => exact budget.2 h
  split at h
  · cases h
  split at h <;> cases h

/-- Allocation gives the slot its Faces. -/
theorem State.allocate_faces (s : State) (n : Nat) (faces engines : List Nat) (u : Nat) :
    ((s.allocate n faces engines u).slot n).faces = faces := by
  unfold State.allocate
  dsimp only
  rw [State.slot_of_slots ((State.reloadTables_keeps (.refl _ _) (within_self _)).slotsKept rfl),
    State.slot_of_slots ((State.setPds_keeps (.refl _ _) (within_self _)).slotsKept rfl),
    State.slot_of_slots ((State.showFaces_keeps (.refl _ _) (within_self _)).slotsKept rfl),
    State.slot_of_slots (State.setAll_slots _ _), State.updSlot, State.slot_setSlot]

/-- The counters and the first launch of a slot that starts. -/
def State.startShown (s : State) (kind n first : Nat) : State :=
  if kind = 0 then
    (s.setAll [(Reg.ENC_BS_FIRST_PIC n, first), (Reg.ENC_BS_PIC_CNT n, 0), (Reg.ENC_BS_SWEEP_CNT n, 0), (Reg.RC_BS_FULLNESS n, 0),
      (Reg.ENC_BS_FIRST_SWEEP n, 1), (Reg.ENC_BS_SWEEP_POS n, 0)]).queueComposition n first
  else s.setAll [(Reg.DEC_BS_JOINED n, 0), (Reg.DEC_BS_STREAM_UP n, 0), (Reg.DEC_BS_CONC_SP n, 0)]

theorem State.startShown_slotState (s : State) (kind n first k : Nat) : (s.startShown kind n first).slotState k = s.slotState k := by
  unfold State.startShown
  split
  · exact Eq.trans ((State.queueComposition_keeps (.refl _ _) (within_self _)).get_like (Reg.ENC_BS_RUN_STATE 0) rfl rfl)
      (State.setAll_get_name _ (show (Reg.ENC_BS_RUN_STATE 0).id % 1024 ∉ [Reg.ENC_BS_FIRST_PIC 0, Reg.ENC_BS_PIC_CNT 0,
        Reg.ENC_BS_SWEEP_CNT 0, Reg.RC_BS_FULLNESS 0, Reg.ENC_BS_FIRST_SWEEP 0, Reg.ENC_BS_SWEEP_POS 0].map (fun f => f.id % 1024) by decide))
  · exact State.setAll_get_name _ (show (Reg.ENC_BS_RUN_STATE 0).id % 1024 ∉
      [Reg.DEC_BS_JOINED 0, Reg.DEC_BS_STREAM_UP 0, Reg.DEC_BS_CONC_SP 0].map (fun f => f.id % 1024) by decide)

theorem State.startShown_slots (s : State) (kind n first : Nat) : (s.startShown kind n first).slots = s.slots := by
  unfold State.startShown
  split
  · exact ((State.queueComposition_keeps (.refl _ _) (within_self _)).slotsKept rfl).trans (State.setAll_slots _ _)
  · exact State.setAll_slots _ _

theorem State.slotState_setSlot_starting (s : State) (n : Nat) (x : Slot) :
    ((s.set (Reg.ENC_BS_RUN_STATE n) slotStarting).setSlot n x).slotState n = slotStarting :=
  State.get_set_fits (f := Reg.ENC_BS_RUN_STATE n) (show slotStarting < 2 ^ 4 by decide) s

/-- START that passes its checks: STARTING, on the Faces of the placement. -/
theorem State.slotStart_starts {s : State} {n : Nat} {freerun : Bool} (h : s.startCode n freerun = 0) :
    ∃ t, s.slotStart n freerun [] = (t, 0) ∧ t.slotState n = slotStarting ∧ some (t.slot n).faces = s.placement n := by
  obtain ⟨faces, hp⟩ := State.placement_of_startCode h
  unfold State.slotStart
  dsimp only
  rw [if_neg (not_not.2 h), hp]
  refine ⟨_, rfl, (State.startShown_slotState _ _ _ _ _).trans (State.slotState_setSlot_starting _ _ _), ?_⟩
  refine congrArg some ((congrArg Slot.faces (State.slot_of_slots (State.startShown_slots _ _ _ _) n)).trans ?_)
  rw [State.slot_setSlot]
  exact State.allocate_faces s n faces _ _

/-- Settles O27: a command's answer shows its code, and what START does before it is answered is the allocation or nothing. -/
theorem slotStartAllocatesOrRefuses : Obligations.SlotStartAllocatesOrRefuses := by
  intro w freerun autostart n s hw u
  have hu : s.runFlags n freerun autostart = u := rfl
  refine ⟨fun ho c hc => ?_, fun ho hs => ?_, fun c ho hs hc hlt => ?_⟩
  · obtain ⟨cmd, hcmd⟩ : ∃ cmd, exec c s = .next (s.slotCommand (.reg w freerun autostart) n cmd []) := by
      rcases hc with rfl | rfl | rfl
      exacts [⟨1, rfl⟩, ⟨2, rfl⟩, ⟨3, rfl⟩]
    obtain ⟨word, answered⟩ := State.slotCommand_disowned hw ho freerun autostart cmd []
    rw [answered] at hcmd
    exact ⟨_, hcmd, (State.runAnswered_slotState _ _ _ _ _ _).trans (State.runFlags_slotState _ _ _ _ _),
      State.runAnswered_status (by decide) _ _ _ _, State.runAnswered_slots _ _ _ _ _⟩
  · obtain ⟨word, answered⟩ := State.slotCommand_start hw ho freerun autostart
    obtain ⟨t, started, starting, faces⟩ := State.slotStart_starts hs
    rw [hu, started] at answered
    dsimp only at answered
    refine ⟨_, congrArg Host.Outcome.next answered, (State.runAnswered_slotState _ _ _ _ _ _).trans starting,
      State.runAnswered_status (by decide) _ _ _ _, ?_⟩
    rw [State.slot_of_slots (State.runAnswered_slots _ _ _ _ _)]
    exact faces
  · obtain ⟨word, answered⟩ := State.slotCommand_start hw ho freerun autostart
    have refused := State.slotStart_refused (hs.trans_ne hc) []
    rw [hu, refused, hs] at answered
    exact ⟨_, congrArg Host.Outcome.next answered,
      (State.runAnswered_slotState _ _ _ _ _ _).trans (State.runFlags_slotState _ _ _ _ _),
      State.runAnswered_status hlt _ _ _ _, State.runAnswered_slots _ _ _ _ _⟩

end Sys2Proof.Machine
end

/-! # Proofs: bits set and cleared, and the power domains that are on -/

section
namespace Sys2Proof.Machine

open Sys2Proof

theorem testBit_setBit (n i j : Nat) : (setBit n i).testBit j = (n.testBit j || decide (i = j)) := by
  rw [setBit, Nat.testBit_or, Nat.testBit_two_pow]

theorem testBit_sub_two_pow {n i : Nat} (h : n.testBit i = true) (j : Nat) :
    (n - 2 ^ i).testBit j = (n.testBit j && decide (i ≠ j)) := by
  induction i generalizing n j with
  | zero =>
    have odd : n % 2 = 1 := by simpa using h
    cases j with
    | zero => simp; omega
    | succ j =>
      have half : (n - 2 ^ 0) / 2 = n / 2 := by omega
      simp only [Nat.testBit_add_one, half]; simp
  | succ i ih =>
    rw [Nat.testBit_add_one] at h
    have le := Nat.ge_two_pow_of_testBit h
    cases j with
    | zero => simp [Nat.pow_succ]; omega
    | succ j =>
      have half : (n - 2 ^ (i + 1)) / 2 = n / 2 - 2 ^ i := by rw [Nat.pow_succ]; omega
      simp only [Nat.testBit_add_one, half, ih h]; simp

theorem testBit_clearBit (n i j : Nat) : (clearBit n i).testBit j = (n.testBit j && decide (i ≠ j)) := by
  unfold clearBit
  split
  next h => exact testBit_sub_two_pow h j
  next h =>
    by_cases same : i = j
    · subst same; simp [h]
    · simp [same]

/-- The registers of the power domains are apart. -/
theorem fieldKey_pdOn_injective {a b : Nat} (h : fieldKey (Reg.PWR_PD_ON a) = fieldKey (Reg.PWR_PD_ON b)) : a = b := by
  simp only [fieldKey, Reg.PWR_PD_ON] at h
  omega

/-- Turning a domain on or off is seen of this domain alone. -/
theorem State.pdOn_setPd (s : State) (on : Bool) (p q : Nat) : (s.setPd on p).pdOn q = if q = p then on else s.pdOn q := by
  unfold State.pdOn State.setPd
  by_cases word : q / 32 = p / 32
  · have bits : q % 32 = p % 32 ↔ q = p := by omega
    rw [word, State.get_set_same, bit, show fieldWidth (Reg.PWR_PD_ON (p / 32)) = 32 from rfl, Nat.testBit_mod_two_pow]
    cases on <;> by_cases h : q = p <;>
      simp [testBit_setBit, testBit_clearBit, h, bit, Nat.mod_lt, eq_comm (a := p % 32), bits]
  · have apart : q ≠ p := fun h => word (h ▸ rfl)
    rw [State.get_set_key _ _ _ _ fun h => word (fieldKey_pdOn_injective h), if_neg apart]

theorem State.pdOn_setPds (s : State) (on : Bool) (l : List Nat) (q : Nat) :
    (s.setPds on l).pdOn q = if q ∈ l then on else s.pdOn q := by
  unfold State.setPds
  induction l generalizing s with
  | nil => simp
  | cons p l ih =>
    rw [List.foldl_cons, ih, State.pdOn_setPd]
    by_cases h : q ∈ l <;> simp [h]

/-- What leaves the power registers leaves the domains. -/
theorem Keeps.pdOn {w : Nat} {s t : State} (k : Keeps w s t) (h : w.testBit 121 = false) (p : Nat) : t.pdOn p = s.pdOn p :=
  congrArg (fun v => bit v (p % 32)) (k.get_like (Reg.PWR_PD_ON 0) rfl h)

end Sys2Proof.Machine
end

/-! # Proofs: fencing and halting (R96, R98) -/

section
namespace Sys2Proof.Machine

open Sys2Proof

/-! ## The fence bits -/

/-- What leaves the fence registers leaves every unit's fence. -/
theorem Keeps.isFenced {w : Nat} {s t : State} (k : Keeps w s t) (h : ∀ i < 7, w.testBit (109 + i) = false) (u : UnitId) :
    t.isFenced u = s.isFenced u := by
  have pair := k.get_like Reg.PWR_FENCE_PAIR rfl (h 0 (by decide))
  have cmp := k.get_like Reg.PWR_FENCE_CMP rfl (h 1 (by decide))
  have face := k.get_like Reg.PWR_FENCE_FACE rfl (h 2 (by decide))
  have lane := k.get_like Reg.PWR_FENCE_LANE rfl (h 3 (by decide))
  have engine i : t.get (Reg.PWR_FENCE_ENGINE i) = s.get (Reg.PWR_FENCE_ENGINE i) :=
    k.get_like (Reg.PWR_FENCE_ENGINE 0) rfl (h 4 (by decide))
  have audio := k.get_like Reg.PWR_FENCE_AUDIO rfl (h 5 (by decide))
  have link := k.get_like Reg.PWR_FENCE_LINK rfl (h 6 (by decide))
  cases u <;> simp only [State.isFenced, State.cmpHealthy, State.faceHealthy, State.engineHealthy, *]

/-- A bit set in a field that has it reads 1. -/
theorem State.bit_get_setBit {f : Field} {i : Nat} (h : i < fieldWidth f) (s : State) (v : Nat) :
    bit ((s.set f (setBit v i)).get f) i = true := by
  rw [State.get_set_same, bit, Nat.testBit_mod_two_pow, testBit_setBit]
  simp [h]

/-- Ringmaster, Barker and housekeeping are not fenced (R96). -/
def floorUnits : List UnitId := [UnitId.ringmaster, UnitId.barker, UnitId.housekeeping]

theorem State.isFenced_fenceBit {u : UnitId} (hu : u ∉ floorUnits) (s : State) : (s.fenceBit u).isFenced u = true := by
  cases u with
  | pair p => exact State.bit_get_setBit p.isLt _ _
  | cmp i => exact congrArg (!!·) (State.bit_get_setBit i.isLt _ _)
  | face i => exact congrArg (!!·) (State.bit_get_setBit i.isLt _ _)
  | engine e => exact congrArg (!!·) (State.bit_get_setBit (f := Reg.PWR_FENCE_ENGINE (e / 32)) (Nat.mod_lt _ (show 0 < 32 by decide)) _ _)
  | lane i => exact State.bit_get_setBit i.isLt _ _
  | link i =>
    refine Eq.trans (congrArg (bit · i) (State.get_set_other _ _ _ _ ?_)) (State.bit_get_setBit (f := Reg.PWR_FENCE_LINK) i.isLt _ _)
    decide
  | dsp i => exact State.bit_get_setBit i.isLt _ _
  | ringmaster => simp [floorUnits] at hu
  | barker => simp [floorUnits] at hu
  | housekeeping => simp [floorUnits] at hu

/-! ## Halting -/

theorem State.driveFault_faultPin (s : State) : s.driveFault.sys.faultPin = true := by
  unfold State.driveFault
  split
  · assumption
  · rfl

/-- The two registers that a halt writes. -/
def haltShows (reason : Code) : List (Field × Nat) := [(Reg.PWR_SERVICE_REASON, reason), (Reg.PWR_MODE_STATUS_PHASE, phaseHalted)]

theorem haltShows_nodup (reason : Code) : ((haltShows reason).map fun e => fieldKey e.1).Nodup :=
  show [fieldKey Reg.PWR_SERVICE_REASON, fieldKey Reg.PWR_MODE_STATUS_PHASE].Nodup by decide

/-- A halt leaves no memory, no transition and no take-over, FAULT_N low, and shows its reason. -/
theorem State.halt_eq {s : State} (h : s.halted = false) (reason : Code) :
    ∃ u : State, u.sys.faultPin = true ∧
      s.halt reason = ({ u with trans := none, mem := [], trp := { u.trp with take := none, turn := none } } : State).setAll (haltShows reason) := by
  unfold State.halt
  rw [if_neg (by simp [h])]
  exact ⟨_, State.driveFault_faultPin _, rfl⟩

theorem State.setAll_haltShows_halted (s : State) (reason : Code) : (s.setAll (haltShows reason)).halted = true :=
  beq_iff_eq.2 (State.setAll_reads (e := (Reg.PWR_MODE_STATUS_PHASE, phaseHalted)) (haltShows_nodup reason) s (.tail _ (.head _)))

theorem State.halt_halted (s : State) (reason : Code) : (s.halt reason).halted = true := by
  by_cases h : s.halted = true
  · rw [State.halt, if_pos h, h]
  · obtain ⟨u, -, eq⟩ := State.halt_eq (Bool.not_eq_true _ ▸ h) reason
    rw [eq]
    exact State.setAll_haltShows_halted _ _

/-! ## What follows a fencing -/

/-- In SERVICE, and while no mode is stable, no minimum is judged (R98). -/
theorem State.checkMinimum_idle {s : State} (h : s.mode = modeService ∨ s.phase ≠ phaseStable) : s.checkMinimum = s :=
  if_neg fun ⟨stable, mode, _⟩ => h.elim mode fun h => h stable

/-- With a healthy pair left a lost pair hands over, if it was the active one. -/
theorem State.pairLost_some {s : State} {q : Nat} (h : s.lowestPair = some q) (p : Nat) :
    s.pairLost p = if (s.dropClaims p).activePair = p then
      ((s.dropClaims p).set Reg.PWR_MODE_STATUS_ACTIVE_PAIR q).setPd true (2 + q) else s.dropClaims p := by
  have same : (s.dropClaims p).lowestPair = s.lowestPair := by
    unfold State.lowestPair State.pairHealthy
    rw [(State.dropClaims_keeps (.refl _ s) (within_self _)).get_like Reg.PWR_FENCE_PAIR rfl rfl]
  unfold State.pairLost
  dsimp only
  rw [same, h]

/-- Without a healthy pair the device halts (R98). -/
theorem State.pairLost_none {s : State} (h : s.lowestPair = none) (p : Nat) : s.pairLost p = (s.dropClaims p).halt 0xF304 := by
  have same : (s.dropClaims p).lowestPair = s.lowestPair := by
    unfold State.lowestPair State.pairHealthy
    rw [(State.dropClaims_keeps (.refl _ s) (within_self _)).get_like Reg.PWR_FENCE_PAIR rfl rfl]
  unfold State.pairLost
  dsimp only
  rw [same, h]

/-- A lost pair leaves PHASE, or halts the device. -/
theorem State.pairLost_phase (s : State) (p : Nat) : (s.pairLost p).phase = s.phase ∨ (s.pairLost p).halted = true := by
  have claims : (s.dropClaims p).phase = s.phase :=
    (State.dropClaims_keeps (.refl _ s) (within_self _)).get_like Reg.PWR_MODE_STATUS_PHASE rfl rfl
  cases h : s.lowestPair with
  | none => exact .inr (State.pairLost_none h p ▸ State.halt_halted _ _)
  | some q =>
    left
    rw [State.pairLost_some h]
    split
    · exact Eq.trans ((State.setPd_keeps (.refl _ _) (within_self _)).get_like Reg.PWR_MODE_STATUS_PHASE rfl rfl)
        (Eq.trans (State.get_set_other _ _ _ _ (by decide)) claims)
    · exact claims

theorem State.afterFence_phase (s : State) (u : UnitId) : (s.afterFence u).phase = s.phase ∨ (s.afterFence u).halted = true := by
  have down (i : Nat) : ((s.laneTo i laneDown).endRetrain i 0x1C03).phase = s.phase :=
    ((State.endRetrain_keeps (.refl _ _) (within_self _)).get_like Reg.PWR_MODE_STATUS_PHASE rfl rfl).trans
      ((State.laneTo_keeps (.refl _ _) (within_self _)).get_like Reg.PWR_MODE_STATUS_PHASE rfl rfl)
  cases u with
  | lane i => exact .inl (down i)
  | link i => exact .inl (down i)
  | engine e => exact .inl ((State.taskFault_keeps (.refl _ s) (within_self _)).get_like Reg.PWR_MODE_STATUS_PHASE rfl rfl)
  | pair p => exact State.pairLost_phase s p
  | _ => exact .inl rfl

/-- While no minimum is judged, a fencing is the fence bit and what follows it. -/
theorem State.fence_eq {s : State} {u : UnitId} (hu : u ∉ floorUnits) (hf : s.isFenced u = false)
    (h : s.mode = modeService ∨ s.phase ≠ phaseStable) : s.fence u = (s.fenceCore u).afterFence u := by
  have mode : ((s.fenceCore u).afterFence u).mode = s.mode :=
    ((State.afterFence_keeps (.refl _ _) (within_self _)).get_like Reg.PWR_MODE_STATUS_CUR_MODE rfl rfl).trans
      ((State.fenceCore_keeps (.refl _ _) (within_self _)).get_like Reg.PWR_MODE_STATUS_CUR_MODE rfl rfl)
  have phase : (s.fenceCore u).phase = s.phase := (State.fenceCore_keeps (.refl _ _) (within_self _)).get_like Reg.PWR_MODE_STATUS_PHASE rfl rfl
  have idle : ((s.fenceCore u).afterFence u).mode = modeService ∨ ((s.fenceCore u).afterFence u).phase ≠ phaseStable := by
    refine h.imp mode.trans fun h => ?_
    rcases State.afterFence_phase (s.fenceCore u) u with kept | halts
    · rw [kept, phase]; exact h
    · rw [beq_iff_eq.1 halts]; decide
  have eq : s.fence u = ((s.fenceCore u).afterFence u).checkMinimum := by
    cases u with
    | ringmaster => simp [floorUnits] at hu
    | barker => simp [floorUnits] at hu
    | housekeeping => simp [floorUnits] at hu
    | _ => exact if_neg (by simp [hf])
  rw [eq, State.checkMinimum_idle idle]

/-- What a fencing does after the fence bit and before what follows it, leaves the fences, ACTIVE_PAIR and PHASE. -/
theorem State.fenceCore_fences {s : State} {u : UnitId} (hf : s.isFenced u = false) (v : UnitId) :
    (s.fenceCore u).isFenced v = (s.fenceBit u).isFenced v := by
  unfold State.fenceCore
  rw [if_neg (by simp [hf])]
  dsimp only
  rw [(State.setPds_keeps (.refl _ _) (within_self _)).isFenced (by decide),
    (Keeps.foldl _ _ (.refl _ _) fun _ _ k => State.slotToFault_keeps k (within_self _)).isFenced (by decide),
    (State.logUnit_keeps (.refl _ _) (within_self _)).isFenced (by decide),
    (State.raise_keeps (.refl _ _) (within_self _)).isFenced (by decide)]

/-- What follows a fencing leaves the fences. -/
theorem State.fence_fences {s : State} {u : UnitId} (hu : u ∉ floorUnits) (hf : s.isFenced u = false)
    (h : s.mode = modeService ∨ s.phase ≠ phaseStable) (v : UnitId) : (s.fence u).isFenced v = (s.fenceBit u).isFenced v := by
  rw [State.fence_eq hu hf h, (State.afterFence_keeps (.refl _ _) (within_self _)).isFenced (by decide), State.fenceCore_fences hf]

/-- The lowest healthy pair follows from the fences. -/
theorem State.lowestPair_of_fences {s t : State} (h : ∀ u, t.isFenced u = s.isFenced u) : t.lowestPair = s.lowestPair := by
  have pairs : ∀ p ∈ fourSlots, t.pairHealthy p = s.pairHealthy p := by
    intro p hp
    have lt : p < 4 := by simp [fourSlots] at hp; omega
    exact congrArg (!·) (h (.pair ⟨p, lt⟩))
  exact List.find?_congr pairs

/-- The lowest healthy pair is one of the four. -/
theorem State.lowestPair_lt {s : State} {q : Nat} (h : s.lowestPair = some q) : q < 4 := by
  have mem := List.mem_of_find?_eq_some h
  simp [fourSlots] at mem
  omega

theorem State.setPd_activePair (s : State) (on : Bool) (p : Nat) : (s.setPd on p).activePair = s.activePair :=
  (State.setPd_keeps (.refl _ s) (within_self _)).get_like Reg.PWR_MODE_STATUS_ACTIVE_PAIR rfl rfl

/-- The active pair lost: supervision moves to the lowest healthy pair, which is powered (R96), or the device halts (R98). -/
theorem State.pairLost_active {s : State} {p : Nat} (hp : s.activePair = p) :
    (∀ q, s.lowestPair = some q → (s.pairLost p).activePair = q ∧ (s.pairLost p).pdOn (2 + q) = true) ∧
      (s.lowestPair = none → (s.pairLost p).halted = true) := by
  refine ⟨fun q hq => ?_, fun hn => State.pairLost_none hn p ▸ State.halt_halted _ _⟩
  have active : (s.dropClaims p).activePair = p :=
    ((State.dropClaims_keeps (.refl _ s) (within_self _)).get_like Reg.PWR_MODE_STATUS_ACTIVE_PAIR rfl rfl).trans hp
  rw [State.pairLost_some hq, if_pos active, State.setPd_activePair, State.pdOn_setPd, if_pos rfl]
  exact ⟨State.get_set_fits (State.lowestPair_lt hq) _, rfl⟩

/-- Settles O46: a fencing sets the unit's bit and nothing after it clears one; a floor unit's failure, or that of the last pair, halts
the device; else the lowest healthy pair takes over. -/
theorem failedUnitsAreFenced : Obligations.FailedUnitsAreFenced := by
  intro s running
  refine ⟨fun u hu => ?_, fun unjudged => ⟨fun u hu hf => ?_, fun lt healthy => ?_⟩⟩
  · obtain ⟨v, fault, eq⟩ := State.halt_eq running 0xF304
    have halts : exec (.unitRuntimeFault u) s = .next (s.halt 0xF304) := by
      have fence : s.fence u = s.halt 0xF304 := by
        simp only [List.mem_cons, List.not_mem_nil, or_false] at hu
        rcases hu with rfl | rfl | rfl <;> rfl
      exact congrArg Host.Outcome.next ((if_neg (by simp [running])).trans fence)
    refine ⟨_, halts, State.halt_halted _ _, ?_⟩
    rw [eq]
    exact ⟨State.setAll_reads (e := (Reg.PWR_SERVICE_REASON, 0xF304)) (haltShows_nodup _) _ (.head _), rfl, fault, rfl⟩
  · refine ⟨s.fence u, congrArg Host.Outcome.next (if_neg (by simp [running])), ?_⟩
    exact (State.fence_fences hu hf unjudged u).trans (State.isFenced_fenceBit hu s)
  · have hu : UnitId.pair ⟨s.activePair, lt⟩ ∉ floorUnits := by simp [floorUnits]
    have hf : s.isFenced (.pair ⟨s.activePair, lt⟩) = false := Bool.not_eq_true' _ ▸ healthy
    refine ⟨s.fence (.pair ⟨s.activePair, lt⟩), ?_, ?_⟩
    · exact congrArg Host.Outcome.next ((dif_pos lt).trans (if_neg (by simp [running])))
    · have fenced := (State.fence_fences hu hf unjudged _).trans (State.isFenced_fenceBit hu s)
      have low := State.lowestPair_of_fences (State.fenceCore_fences hf)
      have active : (s.fenceCore (.pair ⟨s.activePair, lt⟩)).activePair = s.activePair :=
        (State.fenceCore_keeps (.refl _ _) (within_self _)).get_like Reg.PWR_MODE_STATUS_ACTIVE_PAIR rfl rfl
      obtain ⟨moves, halts⟩ := State.pairLost_active active
      rw [low] at moves halts
      rw [State.fence_eq hu hf unjudged] at fenced ⊢
      exact ⟨congrArg (!·) fenced, moves, halts⟩

end Sys2Proof.Machine
end

/-! # Proofs: the modes' shared steps (R79 to R82) -/

section
namespace Sys2Proof.Machine

open Sys2Proof

/-! ## Requests refused and answered -/

theorem State.modeRefuse_status {c : Code} (h : c < 2 ^ 16) (s : State) : (s.modeRefuse c).1.get Reg.PWR_MODE_STATUS_LAST_STATUS = c :=
  State.get_set_fits h _

theorem State.modeRefuse_counted (s : State) (c : Code) : s.Counted (s.modeRefuse c).1 Reg.PWR_REFUSED_CNT :=
  (s.bump_counted Reg.PWR_REFUSED_CNT).after (State.get_set_other _ _ _ _ (by decide))

/-- An answer leaves the mode registers. -/
theorem State.answerAsk_get (s : State) (a : ModeAsk) (c : Code) {f : Field}
    (h : Nat.testBit 0x400000000000001800000000000000000000001000000000001e81100002 (64 + f.id % 1024) = false) :
    (s.answerAsk a c).get f = s.get f :=
  (State.answerAsk_keeps (.refl _ s) (within_self _)).regs f h

/-- A refusal leaves the transition under way. -/
theorem State.answerAsk_refused_trans {c : Code} (h : c ≠ 0) (s : State) (a : ModeAsk) : (s.answerAsk a c).trans = s.trans := by
  unfold State.answerAsk
  split
  · exact (State.logReg_keeps (.refl _ s) (within_self _)).transKept rfl
  · dsimp only
    rw [if_pos h]
    exact ((State.complete_keeps (.refl _ _) (within_self _)).transKept rfl).trans
      ((State.logDesc_keeps (.refl _ _) (within_self _)).transKept rfl)

/-- An accepted request's descriptor waits for the transition's end. -/
theorem State.answerAsk_accepted_trans (s : State) (a : ModeAsk) :
    (s.answerAsk a 0).trans = s.trans.map fun x => { x with tickets := x.tickets ++ a.ticket.toList } := by
  unfold State.answerAsk
  split
  next none =>
    rw [(State.logReg_keeps (.refl _ s) (within_self _)).transKept rfl, none]
    simp
  next t some =>
    dsimp only
    rw [if_neg (not_not.2 rfl), some]
    exact congrArg (Option.map _) ((State.logDesc_keeps (.refl _ _) (within_self _)).transKept rfl)

theorem State.refuseAsk_status (s : State) (a : ModeAsk) : (s.refuseAsk a).get Reg.PWR_MODE_STATUS_LAST_STATUS = 0x1302 :=
  (State.answerAsk_get _ _ _ (by decide)).trans (State.modeRefuse_status (by decide) s)

theorem State.refuseAsk_counted (s : State) (a : ModeAsk) : s.Counted (s.refuseAsk a) Reg.PWR_REFUSED_CNT :=
  (s.modeRefuse_counted 0x1302).after (State.answerAsk_get _ _ _ (by decide))

/-! ## A mode is entered -/

/-- Outside CATCHER the role follows from the mode with no register set aside. -/
theorem State.setRole_get {s : State} (h : s.mode ≠ modeCatcher) {f : Field}
    (hf : f.id % 1024 ∉ [Reg.TRP_STATUS_ROLE, Reg.TRP_STATUS_STATE].map (fun g => g.id % 1024)) : s.setRole.get f = s.get f := by
  have role : (if !s.paired then 0 else if runsSlots s.mode then 1 else if s.mode = modeCatcher then 2 else 0) ≠ 2 := by
    rw [if_neg h]
    split
    · decide
    · split <;> decide
  unfold State.setRole
  dsimp only
  rw [if_neg (fun aside => role aside.1)]
  exact State.setAll_get_name s hf

/-- The registers that entering mode m writes, and what they show. -/
def modeShows (m : Nat) : List (Field × Nat) :=
  [(Reg.PWR_MODE_STATUS_CUR_MODE, m), (Reg.PWR_MODE_STATUS_TARGET_MODE, m), (Reg.PWR_MODE_STATUS_PHASE, phaseStable)]

def modeFields : List Field := [Reg.PWR_MODE_STATUS_CUR_MODE, Reg.PWR_MODE_STATUS_TARGET_MODE, Reg.PWR_MODE_STATUS_PHASE]

theorem modeShows_fields (m : Nat) : (modeShows m).map Prod.fst = modeFields := rfl

section
variable {m : Nat} (h : m < modeCatcher) (s : State)
include h

theorem State.setAll_modeShows_reads : (s.setAll (modeShows m)).Reads (modeShows m) := by
  have nodup : ((modeShows m).map fun e => fieldKey e.1).Nodup :=
    show (modeFields.map fieldKey).Nodup by decide
  have fits : m % 2 ^ 4 = m := Nat.mod_eq_of_lt (Nat.lt_trans h (by decide))
  intro e he
  rw [State.setAll_reads nodup s he]
  simp only [modeShows, List.mem_cons, List.not_mem_nil, or_false] at he
  rcases he with rfl | rfl | rfl
  exacts [fits, fits, rfl]

theorem State.bump_modeShows_mode : ((s.setAll (modeShows m)).bump Reg.PWR_MODE_CHANGE_CNT).mode = m :=
  (State.bump_other _ _ _ (by decide)).trans (State.setAll_modeShows_reads h s _ (.head _))

theorem State.bump_modeShows_ne : ((s.setAll (modeShows m)).bump Reg.PWR_MODE_CHANGE_CNT).mode ≠ modeCatcher :=
  (State.bump_modeShows_mode h s).trans_ne h.ne

/-- Entering a mode other than CATCHER leaves every register but its own and the role's. -/
theorem State.enterMode_get {f : Field}
    (hf : f.id % 1024 ∉ [Reg.PWR_MODE_STATUS_CUR_MODE, Reg.PWR_MODE_STATUS_TARGET_MODE, Reg.PWR_MODE_STATUS_PHASE, Reg.PWR_MODE_CHANGE_CNT,
      Reg.TRP_STATUS_ROLE, Reg.TRP_STATUS_STATE].map (fun g => g.id % 1024)) : (s.enterMode m).get f = s.get f := by
  simp only [List.map_cons, List.map_nil, List.mem_cons, List.not_mem_nil, or_false, not_or] at hf
  obtain ⟨cur, target, phase, count, role, state⟩ := hf
  exact (State.setRole_get (State.bump_modeShows_ne h s) (by simp [role, state])).trans
    ((State.bump_other _ _ _ count).trans (State.setAll_get_name s (by simp [modeShows, cur, target, phase])))

theorem State.enterMode_reads : (s.enterMode m).Reads (modeShows m) := by
  have apart : ∀ f ∈ modeFields, f.id % 1024 ∉ [Reg.TRP_STATUS_ROLE, Reg.TRP_STATUS_STATE].map (fun g => g.id % 1024) ∧
      f.id % 1024 ≠ Reg.PWR_MODE_CHANGE_CNT.id % 1024 := by decide
  intro e he
  obtain ⟨role, count⟩ := apart e.1 (modeShows_fields m ▸ List.mem_map_of_mem he)
  exact (State.setRole_get (State.bump_modeShows_ne h s) role).trans
    ((State.bump_other _ _ _ count).trans (State.setAll_modeShows_reads h s e he))

theorem State.enterMode_mode : (s.enterMode m).mode = m := State.enterMode_reads h s _ (.head _)

theorem State.enterMode_target : (s.enterMode m).get Reg.PWR_MODE_STATUS_TARGET_MODE = m :=
  State.enterMode_reads h s _ (.tail _ (.head _))

theorem State.enterMode_phase : (s.enterMode m).phase = phaseStable := State.enterMode_reads h s _ (.tail _ (.tail _ (.head _)))

theorem State.enterMode_counted : s.Counted (s.enterMode m) Reg.PWR_MODE_CHANGE_CNT :=
  ((State.bump_counted _ _).before (State.setAll_get_name (l := modeShows m) s
    (show Reg.PWR_MODE_CHANGE_CNT.id % 1024 ∉ modeFields.map (fun g => g.id % 1024) by decide))).after
    (State.setRole_get (State.bump_modeShows_ne h s) (by decide))

end

/-! ## A transition ends -/

/-- The end of a transition with a status: its lanes come up, and their quads are powered. -/
def State.transOver (s : State) (x : Trans) (c : Code) : State := ((s.transEnd x c).lanesOnFor).quadPds

theorem State.transOver_trans (s : State) (x : Trans) (c : Code) : (s.transOver x c).trans = none := by
  refine ((State.quadPds_keeps (.refl _ _) (within_self _)).transKept rfl).trans
    (((State.lanesOnFor_keeps (.refl _ _) (within_self _)).transKept rfl).trans ?_)
  exact ((State.completeAll_keeps (.refl _ _) (within_self _)).transKept rfl).trans
    ((State.logUnit_keeps (.refl _ _) (within_self _)).transKept rfl)

theorem State.transOver_status {c : Code} (h : c < 2 ^ 16) (s : State) (x : Trans) :
    (s.transOver x c).get Reg.PWR_MODE_STATUS_LAST_STATUS = c := by
  refine ((State.quadPds_keeps (.refl _ _) (within_self _)).get_like _ rfl rfl).trans
    (((State.lanesOnFor_keeps (.refl _ _) (within_self _)).get_like _ rfl rfl).trans ?_)
  exact ((State.completeAll_keeps (.refl _ _) (within_self _)).get_like _ rfl rfl).trans
    (((State.logUnit_keeps (.refl _ _) (within_self _)).get_like _ rfl rfl).trans (State.get_set_fits h _))

/-- The end of a transition leaves the mode in force, its count and SERVICE's reason. -/
theorem State.transOver_get (s : State) (x : Trans) (c : Code) {f : Field} (hf : f ∈ [Reg.PWR_MODE_STATUS_CUR_MODE, Reg.PWR_MODE_STATUS_TARGET_MODE,
    Reg.PWR_MODE_STATUS_PHASE, Reg.PWR_MODE_CHANGE_CNT, Reg.PWR_SERVICE_REASON]) : (s.transOver x c).get f = s.get f := by
  have kept : ∀ g ∈ [Reg.PWR_MODE_STATUS_CUR_MODE, Reg.PWR_MODE_STATUS_TARGET_MODE, Reg.PWR_MODE_STATUS_PHASE, Reg.PWR_MODE_CHANGE_CNT,
      Reg.PWR_SERVICE_REASON], Nat.testBit 0x2000000000000000000000000000000 (64 + g.id % 1024) = false ∧
      Nat.testBit 0x800000000000000000000000000000000000000000000000000000002000000000000000000000000000800 (64 + g.id % 1024) = false ∧
      Nat.testBit 0x400000000000001800000000000000000100001000000000001e80100002 (64 + g.id % 1024) = false := by decide
  obtain ⟨quads, lanes, ends⟩ := kept f hf
  exact ((State.quadPds_keeps (.refl _ _) (within_self _)).regs f quads).trans
    (((State.lanesOnFor_keeps (.refl _ _) (within_self _)).regs f lanes).trans ((State.transEnd_keeps (.refl _ _) (within_self _)).regs f ends))

end Sys2Proof.Machine
end

/-! # Proofs: mode requests and transitions (R79 to R82, R478) -/

section
namespace Sys2Proof.Machine

open Sys2Proof

/-! ## A request waits with those of its cycle -/

/-- A written request, as it waits. -/
def State.writtenAsk (s : State) (w : Writer) (m : Nat) (force : Bool) : ModeAsk :=
  { w := w, target := m, force := force, ticket := none, old := s.get Reg.PWR_MODE_CTRL_TARGET, new := 1 * 2 ^ 31 + b2n force * 2 ^ 30 + m }

section
variable {s : State} {w : Writer} {m : Nat}

theorem State.modeWrite_reserved (running : s.halted = false) (hw : s.mayWrite w Reg.PWR_MODE_CTRL_TARGET.off = true) (hm : 5 < m) (force : Bool) :
    s.modeWrite w m force true = (s.modeRefuse 0x1301).1.logReg w Reg.PWR_MODE_CTRL_TARGET.off 0x1301 (s.writtenAsk w m force).old
      (s.writtenAsk w m force).new := by
  unfold State.modeWrite
  dsimp only
  rw [if_neg (by simp [running]), State.byWriter_reached hw, if_pos hm]
  rfl

theorem State.modeWrite_stored (running : s.halted = false) (hw : s.mayWrite w Reg.PWR_MODE_CTRL_TARGET.off = true) (hm : m ≤ 5) (force : Bool) :
    s.modeWrite w m force true = (s.set Reg.PWR_MODE_CTRL_TARGET m).ask (s.writtenAsk w m force) := by
  unfold State.modeWrite
  dsimp only
  rw [if_neg (by simp [running]), State.byWriter_reached hw, if_neg (by omega)]
  rfl

theorem State.modeWrite_halted (halted : s.halted = true) (pf : viewOf w = 0) (firmware : w ≠ .debug) (force : Bool) :
    s.modeWrite w m force true = s.ask (s.writtenAsk w m force) := by
  unfold State.modeWrite
  dsimp only
  rw [if_pos halted, if_pos (by simp [pf, firmware])]
  rfl

end

/-- Consuming a descriptor leaves the requests of the cycle. -/
theorem State.consume_asked (s : State) (r cookie : Nat) : (s.consume r cookie).1.sys.asked = s.sys.asked := by
  unfold State.consume
  split
  · rfl
  next x _ =>
    exact (congrArg Sys.asked ((State.updRing_keeps (State.putRing_keeps (.refl 0x80000000 _))).sysKept rfl)).trans rfl

/-- MODE's request waits with its descriptor. -/
theorem State.mode_waits {s : State} {d : Desc} (h : s.Accepts modeSpec d) :
    ∃ (u : State) (k : Ticket), s.runDesc modeSpec d actMode = actMode d k u ∧ u.sys.asked = s.sys.asked ∧ u.trans = s.trans ∧
      k.rid = d.rid.val ∧ k.cookie = d.cookie.toNat := by
  obtain ⟨servable, sound, settled⟩ := h
  obtain ⟨x, ring, ticket, -, -⟩ := State.consume_spec d.cookie.toNat servable
  have consumed : Keeps 0x80800000 s (s.consume d.rid.val d.cookie.toNat).1 := State.consume_keeps (.refl _ _)
  have asked := s.consume_asked d.rid.val d.cookie.toNat
  have submitter : s.submitter d = x.fn := by unfold State.submitter; rw [ring]
  generalize hu : s.consume d.rid.val d.cookie.toNat = cu at *
  have mirrored : Keeps 0x1000000 cu.1 (cu.1.mirror3 (.ring d.rid.val (cu.1.consOf d.rid.val) modeSpec.opcode (some d))) :=
    State.mirror3_keeps (.refl _ _)
  refine ⟨_, cu.2, ?_, (congrArg Sys.asked (mirrored.sysKept rfl)).trans asked, (mirrored.transKept rfl).trans (consumed.transKept rfl),
    by rw [ticket], by rw [ticket]⟩
  unfold State.runDesc
  rw [if_pos servable]
  simp only [hu]
  rw [show cu.2.fn = x.fn by rw [ticket], ← submitter, sound]
  simp only [settled, Bool.false_and, Bool.false_eq_true, if_false]

/-! ## The requests of a cycle are judged -/

/-- The state in which the requests of a cycle are judged: none waits. -/
def State.unasked (s : State) : State := { s with sys := { s.sys with asked := [] } }

/-- One request of the cycle judged and answered. -/
def State.judgeAsk (s : State) (a : ModeAsk) : State :=
  (s.unasked.modeRequest a.target a.force).1.answerAsk a (s.unasked.modeRequest a.target a.force).2

theorem State.judgeAsked_single {s : State} {a : ModeAsk} (h : s.sys.asked = [a]) : s.judgeAsked = s.judgeAsk a := by
  unfold State.judgeAsked
  rw [h]
  cases f : a.byFirmware <;> simp only [List.filter_cons, List.filter_nil, f] <;> rfl

/-- Firmware's request is judged before the host's, which is refused (R80). -/
theorem State.judgeAsked_firmware {s : State} {a b : ModeAsk} (h : s.sys.asked = [a, b]) (host : a.byFirmware = false)
    (firmware : b.byFirmware = true) : s.judgeAsked = (s.judgeAsk b).refuseAsk a := by
  unfold State.judgeAsked
  rw [h]
  simp only [List.filter_cons, List.filter_nil, host, firmware]
  rfl

/-- Every code of a check is a code of sixteen bits. -/
theorem State.modeCode_lt (s : State) (m : Nat) (force : Bool) : s.modeCode m force < 2 ^ 16 := by
  unfold State.modeCode
  repeat' split
  all_goals decide

theorem transitionAllowed_le {a b : Nat} (h : transitionAllowed a b = true) : b ≤ 5 := by
  simp [transitionAllowed, modeService, modeHead, modeCluster, modeRelay] at h
  omega

/-- An accepted request's target is a mode. -/
theorem State.modeCode_target {s : State} {m : Nat} {force : Bool} (h : s.modeCode m force = 0) : m ≤ 5 := by
  unfold State.modeCode at h
  split at h
  · cases h
  split at h
  · cases h
  next allowed =>
    refine transitionAllowed_le (a := s.mode) ?_
    by_contra refused
    exact allowed (.inl (by simp [refused]))

section
variable {s : State} {a : ModeAsk}

theorem State.judgeAsk_refused (h : s.modeCode a.target a.force ≠ 0) :
    s.judgeAsk a = (s.unasked.modeRefuse (s.modeCode a.target a.force)).1.answerAsk a (s.modeCode a.target a.force) := by
  have refused : s.unasked.modeRequest a.target a.force = s.unasked.modeRefuse (s.modeCode a.target a.force) := if_pos h
  unfold State.judgeAsk
  rw [refused]
  rfl

theorem State.judgeAsk_accepted (h : s.modeCode a.target a.force = 0) : s.judgeAsk a = (s.unasked.modeStart a.target).answerAsk a 0 := by
  have accepted : s.unasked.modeRequest a.target a.force = (s.unasked.modeStart a.target, 0) := if_neg (not_not.2 h)
  unfold State.judgeAsk
  rw [accepted]

end

/-! ## Step 2 -/

/-- A transition from the mode in force, at its beginning. -/
def State.begun (s : State) (m : Nat) (l : List Ticket) : Trans :=
  { source := s.mode, target := m, tickets := l, off := [], lanes := [], waves := [], powered := [], back := false }

/-- The registers that the start of a transition writes. -/
def drainShows (m : Nat) : List (Field × Nat) := [(Reg.PWR_MODE_STATUS_TARGET_MODE, m), (Reg.PWR_MODE_STATUS_PHASE, phaseDraining)]

section
variable {m : Nat} (h : m ≤ 5) (s : State)
include h

theorem State.setAll_drainShows_reads : (s.setAll (drainShows m)).Reads (drainShows m) := by
  have nodup : ((drainShows m).map fun e => fieldKey e.1).Nodup :=
    show ([Reg.PWR_MODE_STATUS_TARGET_MODE, Reg.PWR_MODE_STATUS_PHASE].map fieldKey).Nodup by decide
  have fits : m % 2 ^ 4 = m := Nat.mod_eq_of_lt (Nat.lt_of_le_of_lt h (by decide))
  intro e he
  rw [State.setAll_reads nodup s he]
  simp only [drainShows, List.mem_cons, List.not_mem_nil, or_false] at he
  rcases he with rfl | rfl
  exacts [fits, rfl]

end

/-- The slots that stop as a transition starts leave PHASE and TARGET_MODE. -/
theorem State.modeStart_get (s : State) (m : Nat) {f : Field} (hf : f ∈ [Reg.PWR_MODE_STATUS_TARGET_MODE, Reg.PWR_MODE_STATUS_PHASE]) :
    (s.modeStart m).get f = (s.memLanesOff.setAll (drainShows m)).get f := by
  have slots := Keeps.foldl (fun (t : State) n => (t.slotStop n).1) (fourSlots.filter fun n => s.slotBusy n && !(modeKeeps m (s.slotKind n)))
    (.refl _ { s.memLanesOff.setAll (drainShows m) with trp := { (s.memLanesOff.setAll (drainShows m)).trp with turn := none },
                                                        trans := some (s.begun m []) })
    fun _ _ k => State.slotStop_keeps k (within_self _)
  simp only [List.mem_cons, List.not_mem_nil, or_false] at hf
  rcases hf with rfl | rfl
  · exact slots.get_like _ rfl rfl
  · exact slots.get_like _ rfl rfl

theorem State.modeStart_trans (s : State) (m : Nat) : (s.modeStart m).trans = some (s.begun m []) := by
  unfold State.modeStart
  exact (Keeps.foldl _ _ (.refl _ _) fun _ _ k => State.slotStop_keeps k (within_self _)).transKept rfl

theorem State.modeStart_target {m : Nat} (h : m ≤ 5) (s : State) : (s.modeStart m).get Reg.PWR_MODE_STATUS_TARGET_MODE = m :=
  (s.modeStart_get m (.head _)).trans (State.setAll_drainShows_reads h _ _ (.head _))

theorem State.modeStart_phase {m : Nat} (h : m ≤ 5) (s : State) : (s.modeStart m).phase = phaseDraining :=
  (s.modeStart_get m (.tail _ (.head _))).trans (State.setAll_drainShows_reads h _ _ (.tail _ (.head _)))

/-! ## Steps 3 to 6 -/

/-- Gating turns its domains off. -/
theorem State.gateOff_pdOn {s : State} {off : List Nat} {p : Nat} (h : p ∈ off) : (s.gateOff off).pdOn p = false := by
  unfold State.gateOff
  dsimp only
  rw [State.pdOn_setPds, if_pos h]

theorem State.pdOn_set (s : State) {f : Field} (v : Nat) (h : f.id % 1024 ≠ (Reg.PWR_PD_ON 0).id % 1024) (p : Nat) :
    (s.set f v).pdOn p = s.pdOn p :=
  congrArg (fun v => bit v (p % 32)) (State.get_set_other _ _ _ _ (show (Reg.PWR_PD_ON (p / 32)).id % 1024 ≠ _ from h.symm))

/-- The phase that follows power waves left, or none. -/
def phaseAfter (waves : List Nat) : Nat := if waves.isEmpty then phaseLoading else phasePowering

theorem State.set_phaseAfter (s : State) (waves : List Nat) : (s.set Reg.PWR_MODE_STATUS_PHASE (phaseAfter waves)).phase = phaseAfter waves := by
  refine State.get_set_fits (f := Reg.PWR_MODE_STATUS_PHASE) ?_ s
  unfold phaseAfter
  split <;> decide

/-- Memory contents and maps of BRIDGE leave the power domains (R380, R394). -/
def State.remapped (s : State) (x : Trans) : State :=
  if x.target = modeBridge then s.migrationDone.toFloor else if x.source = modeBridge ∧ s.dram.formed then s.toFull else s

theorem State.remapped_pdOn (s : State) (x : Trans) (p : Nat) : (s.remapped x).pdOn p = s.pdOn p := by
  unfold State.remapped
  split
  · exact ((State.toFloor_keeps (.refl _ _) (within_self _)).pdOn rfl p).trans ((State.migrationDone_keeps (.refl _ _) (within_self _)).pdOn rfl p)
  · split
    · exact (State.toFull_keeps (.refl _ _) (within_self _)).pdOn rfl p
    · rfl

/-- Step 3 gates the domains that the target does not need (R82). -/
theorem State.modeDrained_spec {s : State} {x : Trans} (hx : s.trans = some x) (draining : s.phase = phaseDraining)
    (drained : s.dropsSlot x.target = false) : ∃ y : Trans, s.modeDrained.trans = some y ∧ y.source = x.source ∧ y.target = x.target ∧
      y.tickets = x.tickets ∧ y.powered = [] ∧ (∀ p ∈ y.off, s.modeDrained.pdOn p = false) ∧ s.modeDrained.phase = phaseAfter y.waves := by
  have goes : ¬(s.phase ≠ phaseDraining ∨ s.dropsSlot x.target = true) := by simp [draining, drained]
  unfold State.modeDrained
  rw [hx]
  dsimp only
  rw [if_neg goes]
  refine ⟨_, rfl, rfl, rfl, rfl, rfl, fun p hp => ?_, State.set_phaseAfter _ _⟩
  rw [State.pdOn_set _ _ (by decide)]
  exact (State.remapped_pdOn _ x p).trans (State.gateOff_pdOn hp)

/-- A power wave turns on up to eight domains (R478). -/
theorem State.waveDone_spec {s : State} {x : Trans} (hx : s.trans = some x) (powering : s.phase = phasePowering) :
    (∀ p ∈ x.waves.take 8, s.waveDone.pdOn p = true) ∧
      s.waveDone.trans = some { x with waves := x.waves.drop 8, powered := x.powered ++ x.waves.take 8 } ∧
      s.waveDone.phase = phaseAfter (x.waves.drop 8) := by
  unfold State.waveDone
  rw [hx]
  dsimp only
  rw [if_neg (not_not.2 powering)]
  refine ⟨fun p hp => ?_, rfl, State.set_phaseAfter _ _⟩
  have on : (s.setPds true (x.waves.take 8)).pdOn p = true := by rw [State.pdOn_setPds, if_pos hp]
  refine (State.pdOn_set _ _ (by decide) p).trans ?_
  refine Eq.trans (b := (if (x.waves.take 8).contains 6 then (s.setPds true (x.waves.take 8)).jugglerReset
    else s.setPds true (x.waves.take 8)).pdOn p) rfl ?_
  split
  · exact ((State.jugglerReset_keeps (.refl _ _) (within_self _)).pdOn rfl p).trans on
  · exact on

/-- Audio is reset as its domain was powered. -/
def State.audioAfter (s : State) (x : Trans) : State := if x.powered.contains 55 then s.audioPowered else s

theorem State.audioAfter_get (s : State) (x : Trans) (f : Field) : (s.audioAfter x).get f = s.get f := by
  unfold State.audioAfter
  split
  · have parts : Nat.testBit 0x680008008 (64 + f.id % 1024) = false :=
      Nat.testBit_lt_two_pow (Nat.lt_of_lt_of_le (by decide) (Nat.pow_le_pow_right (by decide) (Nat.le_add_right 64 _)))
    exact (State.audioPowered_keeps (.refl _ s) (within_self _)).regs f parts
  · rfl

/-- The mode is entered from a mode other than CATCHER (R82, step 6). -/
theorem State.modeEntered_eq {s : State} {x : Trans} (h : x.source ≠ modeCatcher) :
    s.modeEntered x false = (((s.enterMode x.target).set Reg.PWR_SERVICE_REASON 0).audioAfter x).transOver x 0 := by
  unfold State.modeEntered
  dsimp only
  rw [if_neg h]
  rfl

/-- The device is back in its source mode (R84). -/
theorem State.modeBack_eq {s : State} {x : Trans} (h : s.mode = modeService) :
    ∃ u : State, s.modeBack x = ((u.setAll [(Reg.PWR_MODE_STATUS_TARGET_MODE, modeService), (Reg.PWR_MODE_STATUS_PHASE, phaseStable)]).audioAfter
      x).transOver x 0x2301 ∧ u.mode = modeService := by
  let u := s.gateOff (s.onPds.filter fun p => !((s.neededPds s.mode).contains p))
  have mode : u.mode = modeService := ((State.gateOff_keeps (.refl _ s) (within_self _)).get_like Reg.PWR_MODE_STATUS_CUR_MODE rfl rfl).trans h
  have back : s.modeBack x = (((u.setAll [(Reg.PWR_MODE_STATUS_TARGET_MODE, s.mode), (Reg.PWR_MODE_STATUS_PHASE, phaseStable)]).audioAfter
      x).transOver x 0x2301).checkMinimum := rfl
  refine ⟨u, ?_, mode⟩
  rw [back, h, State.checkMinimum_idle (.inl ?_)]
  exact (State.transOver_get _ x _ (.head _)).trans ((State.audioAfter_get _ _ _).trans
    ((State.setAll_get_name (l := [(Reg.PWR_MODE_STATUS_TARGET_MODE, modeService), (Reg.PWR_MODE_STATUS_PHASE, phaseStable)]) u
      (by decide)).trans mode))

section
variable {s : State} {x : Trans} (hx : s.trans = some x) (loading : s.phase = phaseLoading)
include hx loading

/-- The load that leads back to the source (R84). -/
theorem State.modeLoaded_back (back : x.back = true) : s.modeLoaded [] 0 = s.modeBack x := by
  have running : s.halted = false := by rw [State.halted, loading]; rfl
  unfold State.modeLoaded
  rw [hx]
  dsimp only
  rw [if_neg (not_not.2 loading)]
  simp only [List.filter_nil, State.stageReloads, State.fenceAll, running, back, if_true, Bool.false_eq_true, if_false]

/-- With every unit tested good the load leads to the target whose minimum is met. -/
theorem State.modeLoaded_good (forth : x.back = false) (meets : s.meets x.target = true) : s.modeLoaded [] 0 = s.modeEntered x false := by
  have running : s.halted = false := by rw [State.halted, loading]; rfl
  unfold State.modeLoaded
  rw [hx]
  dsimp only
  rw [if_neg (not_not.2 loading)]
  simp only [List.filter_nil, State.stageReloads, State.fenceAll, running, forth, meets, if_true, Bool.false_eq_true, if_false, List.isEmpty_nil,
    Bool.not_true]

end

/-! ## The mode after a transition -/

/-- The mode entered with every unit tested good. -/
theorem State.modeEntered_spec {s : State} {x : Trans} (h : x.source ≠ modeCatcher) (target : x.target < modeCatcher) :
    let t := s.modeEntered x false
    t.mode = x.target ∧ t.phase = phaseStable ∧ t.trans = none ∧ s.Counted t Reg.PWR_MODE_CHANGE_CNT ∧
      t.Reads [(Reg.PWR_MODE_STATUS_TARGET_MODE, x.target), (Reg.PWR_MODE_STATUS_LAST_STATUS, 0), (Reg.PWR_SERVICE_REASON, 0)] := by
  intro t
  have ht : t = (((s.enterMode x.target).set Reg.PWR_SERVICE_REASON 0).audioAfter x).transOver x 0 := State.modeEntered_eq h
  have kept {f : Field} (hf : f ∈ [Reg.PWR_MODE_STATUS_CUR_MODE, Reg.PWR_MODE_STATUS_TARGET_MODE, Reg.PWR_MODE_STATUS_PHASE,
      Reg.PWR_MODE_CHANGE_CNT, Reg.PWR_SERVICE_REASON]) : t.get f = ((s.enterMode x.target).set Reg.PWR_SERVICE_REASON 0).get f := by
    rw [ht, State.transOver_get _ x 0 hf, State.audioAfter_get]
  refine ⟨?_, ?_, ?_, ?_, ?_⟩
  · exact ((kept (by simp)).trans (State.get_set_other _ _ _ _ (by decide))).trans (State.enterMode_mode target s)
  · exact ((kept (by simp)).trans (State.get_set_other _ _ _ _ (by decide))).trans (State.enterMode_phase target s)
  · rw [ht, State.transOver_trans]
  · exact (State.enterMode_counted target s).after ((kept (by simp)).trans (State.get_set_other _ _ _ _ (by decide)))
  · intro e he
    simp only [List.mem_cons, List.not_mem_nil, or_false] at he
    rcases he with rfl | rfl | rfl
    · exact ((kept (by simp)).trans (State.get_set_other _ Reg.PWR_SERVICE_REASON Reg.PWR_MODE_STATUS_TARGET_MODE _ (by decide))).trans
        (State.enterMode_target target s)
    · rw [ht]
      exact State.transOver_status (by decide) _ _
    · exact (kept (by simp)).trans (State.get_set_fits (by decide) _)

theorem State.modeBack_spec {s : State} (x : Trans) (h : s.mode = modeService) :
    (s.modeBack x).mode = modeService ∧ (s.modeBack x).phase = phaseStable ∧ (s.modeBack x).trans = none ∧
      (s.modeBack x).get Reg.PWR_MODE_STATUS_LAST_STATUS = 0x2301 := by
  obtain ⟨u, back, mode⟩ := State.modeBack_eq (x := x) h
  rw [back]
  refine ⟨?_, ?_, State.transOver_trans _ _ _, State.transOver_status (by decide) _ _⟩
  · exact (State.transOver_get _ _ _ (by simp)).trans ((State.audioAfter_get _ _ _).trans ((State.setAll_get_name u (by decide)).trans mode))
  · exact (State.transOver_get _ _ _ (by simp)).trans ((State.audioAfter_get _ _ _).trans
      (State.setAll_reads (e := (Reg.PWR_MODE_STATUS_PHASE, phaseStable)) (by decide) u (.tail _ (.head _))))

/-! ## What the judged request did -/

section
variable {s : State} {a : ModeAsk}

theorem State.judgeAsk_refused_spec (h : s.modeCode a.target a.force ≠ 0) :
    let t := s.judgeAsk a
    t.sys.asked = [] ∧ t.get Reg.PWR_MODE_STATUS_LAST_STATUS = s.modeCode a.target a.force ∧ s.Counted t Reg.PWR_REFUSED_CNT ∧
      t.trans = s.trans ∧ t.mode = s.mode := by
  intro t
  have ht : t = (s.unasked.modeRefuse _).1.answerAsk a _ := State.judgeAsk_refused h
  rw [ht]
  refine ⟨?_, (State.answerAsk_get _ _ _ (by decide)).trans (State.modeRefuse_status (s.modeCode_lt _ _) _),
    (s.unasked.modeRefuse_counted _).after (State.answerAsk_get _ _ _ (by decide)),
    (State.answerAsk_refused_trans h _ a).trans ((State.modeRefuse_keeps (.refl _ _) (within_self _)).transKept rfl),
    (State.answerAsk_get _ _ _ (by decide)).trans ((State.modeRefuse_keeps (.refl _ s.unasked) (within_self _)).get_like _ rfl rfl)⟩
  exact congrArg Sys.asked (((State.answerAsk_keeps (.refl _ _) (within_self _)).sysKept rfl).trans
    ((State.modeRefuse_keeps (.refl _ s.unasked) (within_self _)).sysKept rfl))

theorem State.judgeAsk_accepted_spec (h : s.modeCode a.target a.force = 0) :
    let t := s.judgeAsk a
    t.sys.asked = [] ∧ t.phase = phaseDraining ∧ t.mode = s.mode ∧ t.get Reg.PWR_MODE_STATUS_TARGET_MODE = a.target ∧
      t.trans = some (s.begun a.target a.ticket.toList) ∧ t.get Reg.PWR_REFUSED_CNT = s.get Reg.PWR_REFUSED_CNT := by
  intro t
  have ht : t = (s.unasked.modeStart a.target).answerAsk a 0 := State.judgeAsk_accepted h
  have target := State.modeCode_target h
  rw [ht]
  refine ⟨?_, (State.answerAsk_get _ _ _ (by decide)).trans (State.modeStart_phase target _),
    (State.answerAsk_get _ _ _ (by decide)).trans ((State.modeStart_keeps (.refl _ s.unasked) (within_self _)).get_like _ rfl rfl),
    (State.answerAsk_get _ _ _ (by decide)).trans (State.modeStart_target target _),
    (State.answerAsk_accepted_trans _ a).trans (by rw [State.modeStart_trans]; rfl),
    (State.answerAsk_get _ _ _ (by decide)).trans ((State.modeStart_keeps (.refl _ s.unasked) (within_self _)).get_like _ rfl rfl)⟩
  exact congrArg Sys.asked (((State.answerAsk_keeps (.refl _ _) (within_self _)).sysKept rfl).trans
    ((State.modeStart_keeps (.refl _ s.unasked) (within_self _)).sysKept rfl))

end

/-! ## The obligation -/

/-- A mode request written is stored and waits, or is refused. -/
theorem State.modeRequest_written (s : State) (w : Writer) (m : Fin 16) (force : Bool) :
    let waits := fun t : State => ∃ a : ModeAsk, t.sys.asked = s.sys.asked ++ [a] ∧ a.w = w ∧ a.target = m.val ∧ a.force = force ∧ a.ticket = none
    (s.halted = false → s.mayWrite w Reg.PWR_MODE_CTRL_TARGET.off = true →
      (5 < m.val → Completes (.modeRequest w m force) s (fun t => t.get Reg.PWR_MODE_STATUS_LAST_STATUS = 0x1301 ∧
        s.Counted t Reg.PWR_REFUSED_CNT ∧ t.sys.asked = s.sys.asked ∧ t.trans = s.trans ∧
        t.get Reg.PWR_MODE_CTRL_TARGET = s.get Reg.PWR_MODE_CTRL_TARGET)) ∧
      (m.val ≤ 5 → Completes (.modeRequest w m force) s (fun t => waits t ∧ t.get Reg.PWR_MODE_CTRL_TARGET = m.val ∧ t.trans = s.trans))) ∧
    (s.halted = true → viewOf w = 0 → w ≠ .debug → Completes (.modeRequest w m force) s (fun t => waits t ∧ t.regs = s.regs)) := by
  intro waits
  refine ⟨fun running hw => ⟨fun reserved => ?_, fun le => ?_⟩, fun halted pf firmware => ?_⟩
  · refine ⟨_, congrArg Host.Outcome.next (State.modeWrite_reserved running hw reserved force), ?_⟩
    have logged := State.logReg_keeps (w := w) (off := Reg.PWR_MODE_CTRL_TARGET.off) (code := 0x1301) (old := (s.writtenAsk w m force).old)
      (new := (s.writtenAsk w m force).new) (.refl _ (s.modeRefuse 0x1301).1) (within_self _)
    have refused := State.modeRefuse_keeps (c := 0x1301) (.refl _ s) (within_self _)
    exact ⟨(logged.get_like _ rfl rfl).trans (State.modeRefuse_status (by decide) s), (s.modeRefuse_counted _).after (logged.get_like _ rfl rfl),
      congrArg Sys.asked ((logged.sysKept rfl).trans (refused.sysKept rfl)), (logged.transKept rfl).trans (refused.transKept rfl),
      (logged.get_like _ rfl rfl).trans (refused.get_like _ rfl rfl)⟩
  · exact ⟨_, congrArg Host.Outcome.next (State.modeWrite_stored running hw le force), ⟨_, rfl, rfl, rfl, rfl, rfl⟩,
      State.get_set_fits (f := Reg.PWR_MODE_CTRL_TARGET) m.isLt s, rfl⟩
  · exact ⟨_, congrArg Host.Outcome.next (State.modeWrite_halted halted pf firmware force), ⟨_, rfl, rfl, rfl, rfl, rfl⟩, rfl⟩

/-- Settles O45: a request waits until its cycle's requests are judged; the judged one is refused or starts its transition, whose steps
each do their part. -/
theorem modesChangeByRequest : Obligations.ModesChangeByRequest := by
  intro s begun
  refine ⟨s.modeRequest_written, fun d hd => ?_, fun idle rst por => ?_, fun none => ?_, fun a one => ⟨fun refused => ?_, fun accepted => ?_⟩,
    fun a b two host firmware accepted => ?_, fun x hx => ⟨fun draining drained => ?_, fun powering => ?_,
    fun loading forth meets target source => ?_, fun loading back service => ?_⟩⟩
  · obtain ⟨u, k, runs, asked, trans, rid, cookie⟩ := State.mode_waits hd
    exact ⟨_, congrArg Host.Outcome.next runs, trans, _, k, congrArg (· ++ [_]) asked, rfl, rfl, rfl, rfl, rid, cookie⟩
  · exact (step_idle idle).trans (congrArg Host.Outcome.next (if_neg (by simp [State.heldInReset, rst, por])))
  · unfold State.judgeAsked
    rw [none]
    rfl
  · rw [State.judgeAsked_single one]
    exact State.judgeAsk_refused_spec refused
  · rw [State.judgeAsked_single one]
    obtain ⟨asked, phase, mode, target, trans, -⟩ := State.judgeAsk_accepted_spec accepted
    exact ⟨asked, phase, mode, target, trans⟩
  · rw [State.judgeAsked_firmware two host firmware]
    obtain ⟨-, phase, -, target, -, counted⟩ := State.judgeAsk_accepted_spec accepted
    have others := State.refuseAsk_keeps (a := a) (.refl _ (s.judgeAsk b)) (within_self _)
    exact ⟨(others.get_like _ rfl rfl).trans phase, (others.get_like _ rfl rfl).trans target, State.refuseAsk_status _ a,
      (State.refuseAsk_counted _ a).before counted⟩
  · obtain ⟨y, trans, source, target, tickets, powered, off, phase⟩ := State.modeDrained_spec hx draining drained
    exact ⟨_, rfl, y, trans, source, target, tickets, powered, off, phase⟩
  · obtain ⟨on, trans, phase⟩ := State.waveDone_spec hx powering
    exact ⟨_, rfl, fun p hp _ => on p hp, trans, phase⟩
  · exact ⟨_, congrArg Host.Outcome.next (State.modeLoaded_good hx loading forth meets), State.modeEntered_spec source target⟩
  · exact ⟨_, congrArg Host.Outcome.next (State.modeLoaded_back hx loading back), State.modeBack_spec x service⟩

end Sys2Proof.Machine
end

/-! # Proofs: orders of take-over (R81, R440, R441) -/

section
namespace Sys2Proof.Machine

open Sys2Proof

/-! ## Orders turned away -/

theorem State.takeRefused_status {c : Code} (h : c < 2 ^ 16) (s : State) (t : Option Ticket) :
    (s.takeRefused t c).get Reg.TRP_STATUS_LAST_STATUS = c :=
  ((State.completeAll_keeps (.refl _ _) (within_self _)).get_like _ rfl rfl).trans
    (((State.logUnit_keeps (.refl _ _) (within_self _)).get_like _ rfl rfl).trans (State.get_set_fits h _))

theorem State.takeRefused_trp (s : State) (t : Option Ticket) (c : Code) : (s.takeRefused t c).trp = s.trp :=
  (State.takeRefused_keeps (.refl _ s) (within_self _)).trpKept rfl

/-- The descriptor of an order turned away completes with the order's status. -/
theorem State.takeRefused_answers {s u : State} {d : Desc} {t : Ticket} (c : Code) (sent : s.out <:+ u.out) (ring : (u.ring t.cpl).isSome)
    (ht : t = { rid := d.rid.val, cpl := t.cpl, fn := s.submitter d, epoch := (u.fn t.fn).epoch, cookie := d.cookie.toNat }) :
    s.Answers (u.takeRefused (some t) c) d c :=
  State.answers_complete
    (sent.trans (State.logUnit_keeps (.refl _ (u.set Reg.TRP_STATUS_LAST_STATUS c)) (within_self _)).sent)
    (State.logUnit_stay (State.set_stay (.refl u))) ring ht

/-! ## Which order is carried out -/

section
variable {s : State} (t : Option Ticket)

theorem State.takeOrder_elsewhere (h : s.mode ≠ modeCatcher) : s.takeOrder t = s.takeRefused t 0x2171 := if_pos h

theorem State.takeOrder_ready (catcher : s.mode = modeCatcher) (none : s.trp.take = none) (stable : s.phase = phaseStable)
    (ready : s.trpState = trpReady) : s.takeOrder t = (s.takeStart t false).logUnit originHw 0 0 blockTrp 0 := by
  unfold State.takeOrder
  rw [if_neg (not_not.2 catcher), none]
  exact if_pos ⟨stable, ready⟩

theorem State.takeOrder_early (catcher : s.mode = modeCatcher) (none : s.trp.take = none) (waits : s.trpState ≠ trpReady)
    (snapshot : s.trpState = trpSyncing → s.trp.ended = false) : s.takeOrder t = s.takeRefused t 0xB172 := by
  unfold State.takeOrder
  rw [if_neg (not_not.2 catcher), none]
  dsimp only
  rw [if_neg fun ready => waits ready.2, if_neg fun syncing => by simp [snapshot syncing.2.1] at syncing]

end

/-! ## The take-over instant -/

/-- Mode requests still checking are refused with 0x1302 (R81). -/
theorem State.refuseAsked_status {s : State} (h : s.sys.asked ≠ []) : s.refuseAsked.get Reg.PWR_MODE_STATUS_LAST_STATUS = 0x1302 := by
  unfold State.refuseAsked
  rw [← List.dropLast_append_getLast h, List.foldl_append]
  exact State.refuseAsk_status _ _

theorem State.refuseAsked_asked (s : State) : s.refuseAsked.sys.asked = [] :=
  foldl_same (fun t : State => t.sys.asked) (fun t _ => congrArg Sys.asked ((State.refuseAsk_keeps (.refl _ t) (within_self _)).sysKept rfl)) _ _

/-- A test turn's group is gated as the take-over starts. -/
def State.turnGated (s : State) : State :=
  match s.trp.turn with
  | none => s
  | some g => s.setPds false ((s.groupPds g).filter fun p => !((s.neededPds s.mode).contains p))

theorem State.turnGated_keeps (s : State) : Keeps 0x2000000000000000000000000000000 s s.turnGated := by
  unfold State.turnGated
  split
  · exact .refl _ _
  · exact State.setPds_keeps (.refl _ _)

/-- The take-over that starts. -/
def State.taking (s : State) (t : Option Ticket) (syncing : Bool) : Take :=
  { start := s.lc, tickets := t.toList, syncing := syncing, ready := none, sent := 0, spoiled := 0 }

/-- What the registers show as it starts. -/
def State.takeShows (s : State) : List (Field × Nat) :=
  [(Reg.PWR_MODE_STATUS_PHASE, phaseTakeover), (Reg.TRP_TAKE_SEC, s.dtSec32), (Reg.TRP_TAKE_NS, s.dtNsNow), (Reg.TRP_STATUS_LAST_STATUS, 0)]

def takeFields : List Field := [Reg.PWR_MODE_STATUS_PHASE, Reg.TRP_TAKE_SEC, Reg.TRP_TAKE_NS, Reg.TRP_STATUS_LAST_STATUS]

theorem State.takeShows_reads {u : State} (s : State) {e : Field × Nat} (he : e ∈ s.takeShows) :
    (u.setAll s.takeShows).get e.1 = e.2 % 2 ^ fieldWidth e.1 :=
  State.setAll_reads (l := s.takeShows) (show (takeFields.map fieldKey).Nodup by decide) u he

/-- The take-over starts, before Trapeze enters its state. -/
def State.takeOpened (s : State) (t : Option Ticket) (syncing : Bool) : State :=
  ({ s.refuseAsked.turnGated with trp := { s.refuseAsked.turnGated.trp with take := some (s.taking t syncing), turn := none } } : State).setAll
    s.takeShows

theorem State.takeStart_eq (s : State) (t : Option Ticket) : s.takeStart t false = (s.takeOpened t false).toTrp trpTaking := rfl

theorem State.toTrp_trp (s : State) (st : Nat) : (s.toTrp st).trp.take = s.trp.take ∧ (s.toTrp st).trp.turn = s.trp.turn := by
  unfold State.toTrp
  split
  · exact ⟨rfl, rfl⟩
  · dsimp only
    split
    · rw [(State.raise_keeps (.refl _ _) (within_self _)).trpKept rfl]
      exact ⟨rfl, rfl⟩
    · exact ⟨rfl, rfl⟩

theorem State.toTrp_trpState {st : Nat} (h : st < 2 ^ 4) (s : State) : (s.toTrp st).trpState = st := by
  unfold State.toTrp
  split
  · assumption
  · have entered : (s.set Reg.TRP_STATUS_STATE st).touch.trpState = st := State.get_set_fits h s
    dsimp only
    split
    · exact ((State.raise_keeps (.refl _ _) (within_self _)).get_like Reg.TRP_STATUS_STATE rfl rfl).trans entered
    · exact entered

/-- What a take-over that started shows, and what it refused. -/
theorem State.takeStart_spec (s : State) (t : Option Ticket) :
    let u := s.takeStart t false
    u.trp.take = some (s.taking t false) ∧ u.phase = phaseTakeover ∧ u.trpState = trpTaking ∧ u.get Reg.TRP_STATUS_LAST_STATUS = 0 ∧
      u.trp.turn = none ∧ u.sys.asked = [] ∧ (s.sys.asked ≠ [] → u.get Reg.PWR_MODE_STATUS_LAST_STATUS = 0x1302) := by
  intro u
  have hu : u = (s.takeOpened t false).toTrp trpTaking := s.takeStart_eq t
  have toTrp := State.toTrp_keeps (st := trpTaking) (.refl _ (s.takeOpened t false)) (within_self _)
  rw [hu]
  refine ⟨(State.toTrp_trp _ _).1, (toTrp.get_like _ rfl rfl).trans (State.takeShows_reads s (.head _)), State.toTrp_trpState (by decide) _,
    (toTrp.get_like _ rfl rfl).trans (State.takeShows_reads s (e := (Reg.TRP_STATUS_LAST_STATUS, 0)) (by simp [State.takeShows])),
    (State.toTrp_trp _ _).2, ?_, fun asked => ?_⟩
  · exact (congrArg Sys.asked ((toTrp.sysKept rfl).trans (s.refuseAsked.turnGated_keeps.sysKept rfl))).trans s.refuseAsked_asked
  · refine (toTrp.get_like _ rfl rfl).trans (Eq.trans (State.setAll_get_name _ ?_) ?_)
    · show Reg.PWR_MODE_STATUS_LAST_STATUS.id % 1024 ∉ takeFields.map (fun f => f.id % 1024)
      decide
    · exact (s.refuseAsked.turnGated_keeps.get_like _ rfl rfl).trans (State.refuseAsked_status asked)

/-! ## Orders by the pin and by a descriptor -/

/-- An order carried out at once: the take-over's start, and its log entry. -/
theorem State.takeStart_logged (s : State) (t : Option Ticket) :
    let u := (s.takeStart t false).logUnit originHw 0 0 blockTrp 0
    u.trp.take = some (s.taking t false) ∧ u.phase = phaseTakeover ∧ u.trpState = trpTaking ∧ u.get Reg.TRP_STATUS_LAST_STATUS = 0 ∧
      u.trp.turn = none ∧ u.sys.asked = [] ∧ (s.sys.asked ≠ [] → u.get Reg.PWR_MODE_STATUS_LAST_STATUS = 0x1302) := by
  intro u
  obtain ⟨take, phase, state, status, turn, asked, refused⟩ := s.takeStart_spec t
  have logged := State.logUnit_keeps (origin := originHw) (oidx := 0) (code := 0) (block := blockTrp) (index := 0)
    (.refl _ (s.takeStart t false)) (within_self _)
  have trp := logged.trpKept rfl
  exact ⟨(congrArg Trp.take trp).trans take, (logged.get_like _ rfl rfl).trans phase, (logged.get_like _ rfl rfl).trans state,
    (logged.get_like _ rfl rfl).trans status, (congrArg Trp.turn trp).trans turn, (congrArg Sys.asked (logged.sysKept rfl)).trans asked,
    fun h => (logged.get_like _ rfl rfl).trans (refused h)⟩

theorem State.takeover_enabled {s u : State} (on : s.on Reg.TRP_CTRL_DESC_EN = true) (kept : Keeps 0x81800000 s u) (d : Desc) (k : Ticket) :
    actTakeover d k u = u.takeOrder (some k) :=
  if_pos ((congrArg (· != 0) (kept.get_like Reg.TRP_CTRL_DESC_EN rfl rfl)).trans on)

section
variable {s : State} {d : Desc} (h : s.Accepts takeSpec d)
include h

/-- An order by a descriptor reaches Trapeze with its ticket, the descriptor consumed. -/
theorem State.takeover_runs : ∃ (k : Ticket) (u : State), exec (.trpTakeover d) s = .next (actTakeover d k u) ∧ Keeps 0x81800000 s u ∧
    k.rid = d.rid.val ∧ k.cookie = d.cookie.toNat ∧ ∀ c, s.Answers (u.takeRefused (some k) c) d c := by
  obtain ⟨k, u, runs, kept, -, ring, ticket⟩ := State.runDesc_accepted (act := actTakeover) h
  exact ⟨k, u, congrArg Host.Outcome.next runs, kept, by rw [ticket], by rw [ticket],
    fun c => State.takeRefused_answers c kept.sent ring ticket⟩

/-- Without DESC_EN the order is turned away. -/
theorem State.takeover_disabled (off : s.on Reg.TRP_CTRL_DESC_EN = false) :
    Completes (.trpTakeover d) s (fun t => s.Answers t d 0xB172 ∧ t.trp = s.trp) := by
  obtain ⟨k, u, runs, kept, -, -, answers⟩ := State.takeover_runs h
  have enabled : ¬ u.on Reg.TRP_CTRL_DESC_EN = true := by
    rw [State.on, kept.get_like Reg.TRP_CTRL_DESC_EN rfl rfl]
    exact Bool.not_eq_true _ ▸ off
  have away : actTakeover d k u = u.takeRefused (some k) 0xB172 := if_neg enabled
  rw [away] at runs
  exact ⟨_, runs, answers _, (State.takeRefused_trp _ _ _).trans (kept.trpKept rfl)⟩

variable (on : s.on Reg.TRP_CTRL_DESC_EN = true)
include on

/-- Out of CATCHER the order is turned away. -/
theorem State.takeover_elsewhere (mode : s.mode ≠ modeCatcher) :
    Completes (.trpTakeover d) s (fun t => s.Answers t d 0x2171 ∧ t.trp = s.trp) := by
  obtain ⟨k, u, runs, kept, -, -, answers⟩ := State.takeover_runs h
  rw [State.takeover_enabled on kept, State.takeOrder_elsewhere _ ((kept.get_like Reg.PWR_MODE_STATUS_CUR_MODE rfl rfl).trans_ne mode)] at runs
  exact ⟨_, runs, answers _, (State.takeRefused_trp _ _ _).trans (kept.trpKept rfl)⟩

/-- A READY Catcher takes over at once, and the descriptor waits for the end. -/
theorem State.takeover_ready (catcher : s.mode = modeCatcher) (none : s.trp.take = none) (stable : s.phase = phaseStable)
    (ready : s.trpState = trpReady) : Completes (.trpTakeover d) s (fun t => t.phase = phaseTakeover ∧ ∃ (x : Take) (k : Ticket),
      t.trp.take = some x ∧ x.start = s.lc ∧ x.tickets = [k] ∧ k.rid = d.rid.val ∧ k.cookie = d.cookie.toNat) := by
  obtain ⟨k, u, runs, kept, rid, cookie, -⟩ := State.takeover_runs h
  rw [State.takeover_enabled on kept, State.takeOrder_ready _ ((kept.get_like Reg.PWR_MODE_STATUS_CUR_MODE rfl rfl).trans catcher)
    ((congrArg Trp.take (kept.trpKept rfl)).trans none) ((kept.get_like Reg.PWR_MODE_STATUS_PHASE rfl rfl).trans stable)
    ((kept.get_like Reg.TRP_STATUS_STATE rfl rfl).trans ready)] at runs
  obtain ⟨take, phase, -⟩ := u.takeStart_logged (some k)
  exact ⟨_, runs, phase, _, k, take, kept.lcKept rfl, rfl, rid, cookie⟩

end

/-- Orders by the pin while it is enabled. -/
theorem State.takePin_orders {s : State} (running : s.halted = false) (enabled : s.on Reg.TRP_CTRL_PIN_EN = true) :
    exec .trpTakeN s = .next (s.takeOrder none) :=
  congrArg Host.Outcome.next (if_neg (by simp [running, enabled]))

end Sys2Proof.Machine
end

/-! # Proofs: a take-over's slots go on at T_r (R442, R443, R445) -/

section
namespace Sys2Proof.Machine

open Sys2Proof

/-- What the end of a take-over needs of it: its instant, its descriptors, and T_r. What was sent and spoiled is left out. -/
def Take.notes (x : Take) : Nat × List Ticket × Option Nat := (x.start, x.tickets, x.ready)

def State.takeNotes (s : State) : Option (Nat × List Ticket × Option Nat) := s.trp.take.map Take.notes

/-- What leaves the take-over leaves its notes. -/
theorem State.takeNotes_of_take {s t : State} (h : t.trp.take = s.trp.take) : t.takeNotes = s.takeNotes := congrArg (Option.map Take.notes) h

theorem Keeps.takeNotes {w : Nat} {s t : State} (k : Keeps w s t) (h : w.testBit 14 = false) : t.takeNotes = s.takeNotes :=
  State.takeNotes_of_take (congrArg Trp.take (k.trpKept h))

/-- Everything but Trapeze. -/
def besideTrp : Nat := anything - 2 ^ 14

theorem besideTrp_field (f : Field) : besideTrp.testBit (64 + f.id % 1024) = true := by
  have all : ∀ i < 1024, besideTrp.testBit (64 + i) = true := by decide +kernel
  exact all _ (Nat.mod_lt _ (by decide))

theorem Keeps.besideTrp_notes {s t : State} (k : Keeps besideTrp s t) : t.takeNotes = s.takeNotes := k.takeNotes (by decide +kernel)

theorem Keeps.besideTrp_take {s t : State} (k : Keeps besideTrp s t) : t.trp.take = s.trp.take := congrArg Trp.take (k.trpKept (by decide +kernel))

/-! ## Decode slots -/

/-- A checkpoint reaches the mirror stream and the rings' last indices, not the take-over. -/
theorem State.checkpoint_take (s : State) (n pic row : Nat) (p : Option EncPic) : (s.checkpoint n pic row p).trp.take = s.trp.take := by
  unfold State.checkpoint
  split
  · exact (congrArg Trp.take ((State.mirror_keeps (.refl _ s) (within_self _)).trpKept rfl) :
      (s.mirror (.ckpt n pic (s.ckptOf n row p))).trp.take = s.trp.take)
  · rfl

theorem State.rowDeadline_take (s : State) (n : Nat) (q : DecPic) (k : Nat) : (s.rowDeadline n q k).trp.take = s.trp.take := by
  unfold State.rowDeadline
  dsimp only
  have judged : Keeps besideTrp s (s.setDecPic n { q with nextRow := k + 1 }) := State.setDecPic_keeps (.refl _ _)
  generalize s.setDecPic n { q with nextRow := k + 1 } = s0 at *
  split
  · exact judged.besideTrp_take
  · rw [State.checkpoint_take]
    refine Keeps.besideTrp_take (judged.trans ?_)
    refine .ite _ (State.raise_keeps (State.bump_keeps (besideTrp_field _) ?missed)) ?missed
    refine .ite _ (.ite _ ?counted (State.oncePic_keeps ?counted)) (Keeps.foldl _ _ ?started fun _ _ k => State.conceal_keeps k)
    case counted => exact State.count_keeps (besideTrp_field _) (Keeps.foldl _ _ ?started fun _ _ k => State.conceal_keeps k)
    case started =>
      exact .ite _ (State.markFresh_keeps (.ite _ (.refl _ _) (State.raise_keeps (State.bump_keeps (besideTrp_field _) (.refl _ _))))) (.refl _ _)

theorem State.takeDecRow_take (s : State) (n id k : Nat) : (s.takeDecRow n id k).trp.take = s.trp.take := by
  unfold State.takeDecRow
  split
  · rfl
  · split
    · rfl
    · split
      · exact congrArg Trp.take ((State.setDecPic_keeps (.refl _ s) (within_self _)).trpKept rfl)
      · split
        · exact State.rowDeadline_take _ _ _ _
        · rfl

theorem State.resumeDecode_take (s : State) (n : Nat) : (s.resumeDecode n).trp.take = s.trp.take := by
  unfold State.resumeDecode
  dsimp only
  refine (foldl_same (fun t : State => t.trp.take) (fun t id => ?_) _ _).trans ?_
  · split
    · rfl
    · split
      · exact (State.retirePic_keeps (.refl _ t)).besideTrp_take
      · have rows (l : List Nat) (f : Nat → Nat) : (l.foldl (fun u k => u.takeDecRow n id (f k)) t).trp.take = t.trp.take :=
          foldl_same (fun u : State => u.trp.take) (fun u k => u.takeDecRow_take n id (f k)) l t
        split
        · exact rows _ _
        · exact (Keeps.besideTrp_take (.ite _
            (State.queueShow_keeps (State.expectNext_keeps (.ite _ (State.enqueuePic_keeps (.refl _ _)) (.refl _ _))))
            (.ite _ (State.enqueuePic_keeps (.refl _ _)) (.refl _ _)))).trans (rows _ _)
  · refine (Keeps.besideTrp_take (State.set_keeps (besideTrp_field _) (.refl _ _))).trans ?_
    split
    · split
      · exact (State.takeMarks_keeps (.refl _ s)).besideTrp_take
      · rfl
    · exact Keeps.besideTrp_take (State.set_keeps (besideTrp_field _) (State.set_keeps (besideTrp_field _) (.refl _ s)))

/-! ## Encode slots -/

/-- Rows sent and spoiled are counted, the notes stay. -/
theorem State.takeNotes_counted (s : State) (sent spoiled : Nat) :
    ({ s with trp := { s.trp with take := s.trp.take.map fun x =>
      { x with sent := x.sent + sent, spoiled := x.spoiled + spoiled } } } : State).takeNotes = s.takeNotes :=
  Option.map_map _ _ _

theorem State.takePic_notes (s : State) (n : Nat) (p : EncPic) (since : Rat) : (s.takePic n p since).takeNotes = s.takeNotes := by
  unfold State.takePic
  dsimp only
  split
  · rfl
  · have head {c : Prop} [Decidable c] (x : EncPic) (g : Slot → Slot) :
        (if c then (s.updSlot n g).sendHead n x else s.updSlot n g).takeNotes = s.takeNotes :=
      Keeps.besideTrp_notes (.ite c (State.sendHead_keeps (State.updSlot_keeps (.refl _ _))) (State.updSlot_keeps (.refl _ _)))
    split
    · exact (State.takeNotes_counted _ _ _).trans (head _ _)
    · refine (Keeps.besideTrp_notes (State.raise_keeps (State.bump_keeps (besideTrp_field _)
        (State.count_keeps (besideTrp_field _) (.refl _ _))))).trans ?_
      exact (State.takeNotes_counted _ _ _).trans (head _ _)

theorem State.takePics_notes (s : State) (n : Nat) (a : Allow) (upto : Nat) : (s.takePics n a upto).takeNotes = s.takeNotes := by
  unfold State.takePics
  split
  · rfl
  · dsimp only
    split
    · rfl
    · exact (foldl_same State.takeNotes (fun t _ => State.takePic_notes t _ _ _) _ _).trans
        (Keeps.besideTrp_notes (State.set_keeps (besideTrp_field _) (State.updSlot_keeps (.refl _ s))))

theorem State.resumeEncode_notes (s : State) (n : Nat) : (s.resumeEncode n).takeNotes = s.takeNotes := by
  unfold State.resumeEncode
  dsimp only
  refine (Keeps.besideTrp_notes (State.queueComposition_keeps (State.flushRows_keeps (State.updSlot_keeps (.refl _ _))))).trans
    ((State.takePics_notes _ _ _ _).trans ?_)
  exact (Keeps.besideTrp_notes (State.setAll_keeps (fun _ _ => besideTrp_field _) (.refl _ _))).trans rfl

/-! ## A slot goes on -/

theorem State.resumeSlot_notes (s : State) (syncing : Bool) (n : Nat) : (s.resumeSlot syncing n).takeNotes = s.takeNotes := by
  have stopped : (s.set (Reg.ENC_BS_RUN_STATE n) slotStopped).takeNotes = s.takeNotes := rfl
  unfold State.resumeSlot
  dsimp only
  generalize s.set (Reg.ENC_BS_RUN_STATE n) slotStopped = s0 at *
  rw [← stopped]
  have fault : ((s0.set (Reg.ENC_BS_RUN_STATE n) slotFault).raise 0xF303 (objSlot n) {}).takeNotes = s0.takeNotes :=
    Keeps.besideTrp_notes (State.raise_keeps (State.set_keeps (besideTrp_field _) (.refl _ _)))
  split
  · split
    · exact Keeps.besideTrp_notes (State.slotStart_keeps (.refl _ _))
    · exact fault
  · split
    · split
      · refine (Keeps.besideTrp_notes (State.resumeWords_keeps (.refl _ _))).trans ?_
        have allocated {f e : List Nat} {u : Nat} : ((s0.allocate n f e u).set (Reg.ENC_BS_RUN_STATE n) slotStarting).takeNotes = s0.takeNotes :=
          Keeps.besideTrp_notes (State.set_keeps (besideTrp_field _) (State.allocate_keeps (.refl _ _)))
        split
        · exact (State.resumeEncode_notes _ _).trans allocated
        · exact (State.takeNotes_of_take (State.resumeDecode_take _ _)).trans allocated
      · exact fault
    · exact fault

end Sys2Proof.Machine
end

/-! # Proofs: T_r and the end of a take-over (R98, R442, R448) -/

section
namespace Sys2Proof.Machine

open Sys2Proof

/-! ## Falling back to SERVICE -/

/-- The fields that tell of a fall back to SERVICE. -/
def serviceFields : List Field := [Reg.PWR_MODE_STATUS_CUR_MODE, Reg.PWR_MODE_STATUS_PHASE, Reg.PWR_SERVICE_REASON]

/-- A test turn is abandoned, and domains and lanes come up. -/
def State.poweredFor (s : State) (need : List Nat) : State :=
  ((({ s with trp := { s.trp with turn := none } } : State).setPds true need).lanesOnFor).quadPds

theorem State.poweredFor_get (s : State) (need : List Nat) {f : Field} (hf : f ∈ serviceFields) : (s.poweredFor need).get f = s.get f := by
  have powered := State.setPds_keeps (on := true) (l := need) (.refl _ { s with trp := { s.trp with turn := none } }) (within_self _)
  have lanes := State.lanesOnFor_keeps (.refl _ (({ s with trp := { s.trp with turn := none } } : State).setPds true need)) (within_self _)
  have quads := State.quadPds_keeps (.refl _ (({ s with trp := { s.trp with turn := none } } : State).setPds true need).lanesOnFor) (within_self _)
  simp only [serviceFields, List.mem_cons, List.not_mem_nil, or_false] at hf
  rcases hf with rfl | rfl | rfl
  all_goals exact (quads.get_like _ rfl rfl).trans ((lanes.get_like _ rfl rfl).trans (powered.get_like _ rfl rfl))

theorem State.poweredFor_notes (s : State) (need : List Nat) : (s.poweredFor need).takeNotes = s.takeNotes :=
  (Keeps.besideTrp_notes (State.quadPds_keeps (State.lanesOnFor_keeps (State.setPds_keeps
    (.refl _ { s with trp := { s.trp with turn := none } }))))).trans rfl

section
variable (s : State) (off : List Nat) (c : Prop) [Decidable c]

/-- Gating domains, and mapping memory in full, leave the mode and its reason. -/
theorem State.gateOff_toFull_get {f : Field} (hf : f ∈ serviceFields) : (if c then (s.gateOff off).toFull else s.gateOff off).get f = s.get f := by
  have gated := State.gateOff_keeps (off := off) (.refl _ s) (within_self _)
  have full := State.toFull_keeps (.refl _ (s.gateOff off)) (within_self _)
  simp only [serviceFields, List.mem_cons, List.not_mem_nil, or_false] at hf
  split
  · rcases hf with rfl | rfl | rfl
    all_goals exact (full.get_like _ rfl rfl).trans (gated.get_like _ rfl rfl)
  · rcases hf with rfl | rfl | rfl
    all_goals exact gated.get_like _ rfl rfl

theorem State.gateOff_toFull_notes : (if c then (s.gateOff off).toFull else s.gateOff off).takeNotes = s.takeNotes :=
  Keeps.besideTrp_notes (.ite c (State.toFull_keeps (State.gateOff_keeps (.refl _ s))) (State.gateOff_keeps (.refl _ s)))

end

/-- A device that no longer meets its mode's minimum is in SERVICE, and a take-over goes on (R98). -/
theorem State.dropToService_spec {s : State} (h : s.mode ≠ modeCatcher) :
    s.dropToService.mode = modeService ∧ s.dropToService.phase = phaseStable ∧ s.dropToService.get Reg.PWR_SERVICE_REASON = 0x2301 ∧
      s.dropToService.takeNotes = s.takeNotes := by
  have service : modeService < modeCatcher := by decide
  unfold State.dropToService
  extract_lets logged mode entered need gated mapped unpaired
  have faults : Keeps _ s (fourSlots.foldl (fun (t : State) n => t.slotToFault n) s) :=
    Keeps.foldl _ _ (.refl _ _) fun _ _ k => State.slotToFault_keeps k (within_self _)
  have from_ : mode = s.mode := ((State.logUnit_keeps (.refl _ _) (within_self _)).get_like Reg.PWR_MODE_STATUS_CUR_MODE rfl rfl).trans
    (faults.get_like Reg.PWR_MODE_STATUS_CUR_MODE rfl rfl)
  have paired : unpaired = mapped := if_neg (from_.trans_ne h)
  have shown {f : Field} (hf : f ∈ serviceFields) : (unpaired.poweredFor need).get f = entered.get f :=
    (State.poweredFor_get _ _ hf).trans ((congrArg (fun t : State => t.get f) paired).trans (State.gateOff_toFull_get entered _ _ hf))
  have notes : (unpaired.poweredFor need).takeNotes = s.takeNotes := calc
    _ = unpaired.takeNotes := State.poweredFor_notes _ _
    _ = mapped.takeNotes := congrArg State.takeNotes paired
    _ = entered.takeNotes := State.gateOff_toFull_notes entered _ _
    _ = logged.takeNotes := Keeps.besideTrp_notes (State.enterMode_keeps (State.set_keeps (besideTrp_field _) (.refl _ _)))
    _ = s.takeNotes := Keeps.besideTrp_notes (State.logUnit_keeps (Keeps.foldl _ _ (.refl _ _) fun _ _ k => State.slotToFault_keeps k))
  exact ⟨(shown (by simp [serviceFields])).trans (State.enterMode_mode service _),
    (shown (by simp [serviceFields])).trans (State.enterMode_phase service _),
    (shown (by simp [serviceFields])).trans ((State.enterMode_get service _ (by decide)).trans (State.get_set_fits (by decide) _)),
    notes⟩

theorem State.checkMinimum_spec {s : State} (slots : runsSlots s.mode = true) (stable : s.phase = phaseStable) :
    s.checkMinimum.phase = phaseStable ∧ s.checkMinimum.takeNotes = s.takeNotes ∧
      (runsSlots s.checkMinimum.mode = true ∨ (s.checkMinimum.mode = modeService ∧ s.checkMinimum.get Reg.PWR_SERVICE_REASON = 0x2301)) := by
  have out : s.mode ≠ modeCatcher := fun h => by rw [h] at slots; exact absurd slots (by decide)
  unfold State.checkMinimum
  split
  · obtain ⟨mode, phase, reason, notes⟩ := State.dropToService_spec out
    exact ⟨phase, notes, .inr ⟨mode, reason⟩⟩
  · exact ⟨stable, rfl, .inl slots⟩

/-! ## T_r -/

/-- The Flyer's mode runs slots. -/
theorem State.flyerMode_runs (s : State) (running : List Nat) : runsSlots (s.flyerMode running) = true := by
  unfold State.flyerMode
  dsimp only
  generalize hl : List.filter (fun m => running.all fun n => modeKeeps m (s.slotKind n)) [modeHead, modeCluster, modeRelay] = ok
  generalize Config.free s.free % ok.length = i
  rw [List.getD_eq_getElem?_getD]
  cases found : ok[i]? with
  | none => rfl
  | some m =>
    have mem : m ∈ [modeHead, modeCluster, modeRelay] := List.mem_of_mem_filter (hl ▸ List.mem_of_getElem? found)
    simp only [List.mem_cons, List.not_mem_nil, or_false] at mem
    rcases mem with rfl | rfl | rfl <;> rfl

theorem runsSlots_lt {m : Nat} (h : runsSlots m = true) : m < modeCatcher := by
  simp only [runsSlots, Bool.or_eq_true, beq_iff_eq] at h
  rcases h with (rfl | rfl) | rfl <;> decide

/-- Everything but CUR_MODE and PHASE. -/
def besideMode : Nat := anything - 2 ^ 100 - 2 ^ 102

theorem besideMode_field {f : Field} (h : f.id % 1024 ∉ [Reg.PWR_MODE_STATUS_CUR_MODE, Reg.PWR_MODE_STATUS_PHASE].map (fun g => g.id % 1024)) :
    besideMode.testBit (64 + f.id % 1024) = true := by
  have all : ∀ i < 1024, i ∉ [Reg.PWR_MODE_STATUS_CUR_MODE, Reg.PWR_MODE_STATUS_PHASE].map (fun g => g.id % 1024) →
      besideMode.testBit (64 + i) = true := by decide +kernel
  exact all _ (Nat.mod_lt _ (by decide)) h

theorem Keeps.besideMode_mode {s t : State} (k : Keeps besideMode s t) : t.mode = s.mode :=
  k.get_like Reg.PWR_MODE_STATUS_CUR_MODE rfl (by decide +kernel)

theorem Keeps.besideMode_phase {s t : State} (k : Keeps besideMode s t) : t.phase = s.phase :=
  k.get_like Reg.PWR_MODE_STATUS_PHASE rfl (by decide +kernel)

/-- A stable mode that runs slots stays in force. -/
theorem Keeps.besideMode_runs {s t : State} (k : Keeps besideMode s t) {m : Nat} (entered : s.mode = m ∧ s.phase = phaseStable)
    (slots : runsSlots m = true) : runsSlots t.mode = true ∧ t.phase = phaseStable := by
  rw [k.besideMode_mode, k.besideMode_phase, entered.1]
  exact ⟨slots, entered.2⟩

theorem State.touch_notes (s : State) : s.touch.takeNotes = s.takeNotes := rfl

/-- At T_r the device is in the Flyer's mode before its minimum is judged (R442). -/
theorem State.readyInstant_spec {s : State} {x : Take} (hx : s.trp.take = some x) (none : x.ready = none) (running : s.halted = false) :
    ∃ u : State, s.readyInstant = u.checkMinimum ∧ (runsSlots u.mode = true ∧ u.phase = phaseStable) ∧
      u.takeNotes = some (x.start, x.tickets, some s.lc) := by
  have slots : runsSlots (s.flyerMode s.heldRunning) = true := s.flyerMode_runs _
  have lt := runsSlots_lt slots
  unfold State.readyInstant
  rw [hx]
  dsimp only
  rw [if_neg (by simp [none, running])]
  refine ⟨_, rfl, Keeps.besideMode_runs (s := ({ s.installHeld with free := s.free + 1 } : State).enterMode (s.flyerMode s.heldRunning))
    ?kept ⟨State.enterMode_mode lt _, State.enterMode_phase lt _⟩ slots, ?notes⟩
  case kept =>
    refine State.touch_keeps (State.quadPds_keeps (State.lanesOnFor_keeps (State.audioPowered_keeps (State.set_keeps (besideMode_field (by decide))
      (State.resumePorts_keeps (Keeps.foldl _ _ (Keeps.mk' ?_) fun _ _ k => State.resumeSlot_keeps k))))))
    have state (n : Nat) : besideMode.testBit (64 + (Reg.ENC_BS_RUN_STATE n).id % 1024) = true :=
      besideMode_field (f := Reg.ENC_BS_RUN_STATE 0) (by decide)
    exact State.jugglerReset_keeps (Keeps.foldl _ _ (State.setPds_keeps (Keeps.foldl _ _ (.refl _ _) fun _ _ k => State.set_keeps (state _) k))
      fun _ _ k => State.showCfg_keeps k)
  case notes =>
    refine (State.touch_notes _).trans ((Keeps.besideTrp_notes (State.quadPds_keeps (State.lanesOnFor_keeps (State.audioPowered_keeps
      (State.set_keeps (besideTrp_field _) (State.resumePorts_keeps (.refl _ _))))))).trans ?_)
    exact (foldl_same State.takeNotes (fun t n => t.resumeSlot_notes x.syncing n) _ _).trans rfl

/-! ## The end of a take-over -/

/-- A code with a Barker source sets its latch. -/
theorem State.latchCode_latches (s : State) (c : Code) : (s.latchCode c).Latches c := by
  intro n h
  unfold State.latchCode
  rw [h]
  exact State.bit_get_setBit (f := Reg.BRK_LATCH (n / 32)) (Nat.mod_lt _ (show 0 < 32 by decide)) _ _

/-- What holds of Trapeze once a take-over has ended. -/
def Trp.afterTake (x : Trp) : Trp :=
  { x with take := none, next := x.got, sent := [], rowEnds := [], ckpts := [], rows := [], descs := [], rings := [], ringPrev := [],
           lines := [], ahead := [], asked := [], ended := false }

/-- The end is announced: 0x0172, counted, logged, and the descriptors of the orders complete (R448). -/
def State.announceTake (s : State) (tickets : List Ticket) (d : Detail) : State :=
  (((((((s.pushEvts 0x0172 objDevice d (s.evtRings (fun _ => true) 0x0172)).latchCode 0x0172).bump Reg.TRP_TAKEOVER_CNT).set
    Reg.TRP_STATUS_LAST_STATUS 0x0172).logUnit originHw 0 0x0172 blockTrp 0).completeAll 0x0172 tickets).touch)

theorem State.announceTake_spec (s : State) (tickets : List Ticket) (d : Detail) :
    let t := s.announceTake tickets d
    t.trp.take = s.trp.take ∧ t.trp.descs = s.trp.descs ∧ t.get Reg.TRP_STATUS_LAST_STATUS = 0x0172 ∧ s.Counted t Reg.TRP_TAKEOVER_CNT ∧
      t.Latches 0x0172 := by
  intro t
  let latched := (s.pushEvts 0x0172 objDevice d (s.evtRings (fun _ => true) 0x0172)).latchCode 0x0172
  let shown := (latched.bump Reg.TRP_TAKEOVER_CNT).set Reg.TRP_STATUS_LAST_STATUS 0x0172
  let logged := shown.logUnit originHw 0 0x0172 blockTrp 0
  have pushes := State.pushEvts_keeps (c := 0x0172) (o := objDevice) (d := d) (l := s.evtRings (fun _ => true) 0x0172) (.refl _ s) (within_self _)
  have latches : Keeps _ _ latched := State.latchCode_keeps (.refl _ _) (within_self _)
  have logs : Keeps _ _ logged := State.logUnit_keeps (.refl _ shown) (within_self _)
  have completes := State.completeAll_keeps (c := 0x0172) (l := tickets) (.refl _ logged) (within_self _)
  have trp : (logged.completeAll 0x0172 tickets).trp = s.trp := by
    rw [completes.trpKept rfl, logs.trpKept rfl, show shown.trp = latched.trp from rfl, latches.trpKept rfl, pushes.trpKept rfl]
  have count : latched.get Reg.TRP_TAKEOVER_CNT = s.get Reg.TRP_TAKEOVER_CNT := (latches.get_like _ rfl rfl).trans (pushes.get_like _ rfl rfl)
  have kept : shown.LatchesStay t := (State.logUnit_latchesStay (.refl shown)).trans completes.latchesStay
  have flags (n : Nat) : shown.get (Reg.BRK_LATCH n) = latched.get (Reg.BRK_LATCH n) :=
    (State.get_set_other _ Reg.TRP_STATUS_LAST_STATUS (Reg.BRK_LATCH n) _
      (show (Reg.BRK_LATCH 0).id % 1024 ≠ Reg.TRP_STATUS_LAST_STATUS.id % 1024 by decide)).trans
      (State.bump_other _ Reg.TRP_TAKEOVER_CNT (Reg.BRK_LATCH n) (show (Reg.BRK_LATCH 0).id % 1024 ≠ Reg.TRP_TAKEOVER_CNT.id % 1024 by decide))
  have bumped : latched.LatchesStay shown := fun n _ _ set => by rw [flags n]; exact set
  refine ⟨(congrArg Trp.take trp :), (congrArg Trp.descs trp :), ?_, ?_, ((State.latchCode_latches _ _).stay bumped).stay kept⟩
  · exact (completes.get_like _ rfl rfl).trans ((logs.get_like _ rfl rfl).trans (State.get_set_fits (by decide) _))
  · exact ((latched.bump_counted _).before count).after ((completes.get_like _ rfl rfl).trans ((logs.get_like _ rfl rfl).trans
      (State.get_set_other _ _ _ _ (by decide))))

/-- The functions opened, rings placed and descriptors settled as a take-over ends leave its count. -/
theorem State.takeoverComplete_eq {s : State} {x : Take} {r : Nat} (hx : s.trp.take = some x) (ready : x.ready = some r) (found : List (Nat × Nat)) :
    ∃ (u : State) (d : Detail), s.takeoverComplete found = ({ u with trp := u.trp.afterTake } : State).announceTake x.tickets d ∧
      u.get Reg.TRP_TAKEOVER_CNT = s.get Reg.TRP_TAKEOVER_CNT := by
  unfold State.takeoverComplete
  rw [hx]
  dsimp only
  rw [ready]
  refine ⟨_, _, rfl, ?_⟩
  refine (foldl_same (fun a : State × Nat × Nat => a.1.get Reg.TRP_TAKEOVER_CNT)
    (fun a _ => (State.settle_keeps (.refl _ a.1) (within_self _)).get_like _ rfl rfl) _ _).trans ?_
  refine ((State.placeRings_keeps (.refl _ _) (within_self _)).get_like _ rfl rfl).trans ?_
  exact foldl_same (fun t : State => t.get Reg.TRP_TAKEOVER_CNT)
    (fun t _ => (State.openFn_keeps (.refl _ t.draw.2) (within_self _)).get_like Reg.TRP_TAKEOVER_CNT rfl rfl) _ _

/-- A take-over that ends at its T_r (R448). -/
theorem State.takeoverComplete_spec {s : State} {x : Take} {r : Nat} (hx : s.trp.take = some x) (ready : x.ready = some r)
    (found : List (Nat × Nat)) :
    let t := s.takeoverComplete found
    t.trp.take = none ∧ t.trp.descs = [] ∧ t.get Reg.TRP_STATUS_LAST_STATUS = 0x0172 ∧ s.Counted t Reg.TRP_TAKEOVER_CNT ∧ t.Latches 0x0172 := by
  intro t
  obtain ⟨u, d, ends, count⟩ := State.takeoverComplete_eq hx ready found
  obtain ⟨take, descs, status, counted, latches⟩ := State.announceTake_spec { u with trp := u.trp.afterTake } x.tickets d
  rw [← ends] at take descs status counted latches
  exact ⟨take, descs, status, counted.before count, latches⟩

/-- Settles O49: an order is turned away or starts the take-over; at T_r the Flyer's mode is entered and its minimum judged, with the
take-over's notes kept for its end. -/
theorem takeOverRuns : Obligations.TakeOverRuns := by
  intro s
  refine ⟨fun running enabled => ⟨fun mode => ?_, fun catcher none stable ready => ?_, fun catcher none waits snapshot => ?_⟩,
    fun d hd => ⟨State.takeover_disabled hd, State.takeover_elsewhere hd, State.takeover_ready hd⟩,
    fun x hx none => ⟨fun running => ?_, fun halted => ?_⟩, fun x r l hx ready => ?_⟩
  · exact ⟨_, (State.takePin_orders running enabled).trans (congrArg Host.Outcome.next (State.takeOrder_elsewhere _ mode)),
      State.takeRefused_status (by decide) s _, State.takeRefused_trp s _ _⟩
  · exact ⟨_, (State.takePin_orders running enabled).trans (congrArg Host.Outcome.next (State.takeOrder_ready _ catcher none stable ready)),
      s.takeStart_logged Option.none⟩
  · exact ⟨_, (State.takePin_orders running enabled).trans (congrArg Host.Outcome.next (State.takeOrder_early _ catcher none waits snapshot)),
      State.takeRefused_status (by decide) s _, State.takeRefused_trp s _ _⟩
  · obtain ⟨u, enters, ⟨slots, stable⟩, notes⟩ := State.readyInstant_spec hx none running
    obtain ⟨phase, kept, mode⟩ := State.checkMinimum_spec slots stable
    obtain ⟨y, hy, same⟩ := Option.map_eq_some_iff.1 (kept.trans notes)
    simp only [Take.notes, Prod.mk.injEq] at same
    obtain ⟨start, tickets, ready⟩ := same
    exact ⟨_, congrArg Host.Outcome.next enters, phase, mode, y, hy, ready, start, tickets⟩
  · refine ⟨s, congrArg Host.Outcome.next ?_, rfl⟩
    unfold State.readyInstant
    rw [hx]
    exact if_pos (.inr halted)
  · exact ⟨_, rfl, State.takeoverComplete_spec hx ready _⟩

end Sys2Proof.Machine
end

/-! # Proofs: the contexts of rings (R117, R119, R131)

Records, events and completions move a ring's indices and its counts; what CREATE_RING gave the ring, its state and the requests
to destroy it stay. -/

section
namespace Sys2Proof.Machine

-- One theorem at a time: the text is compiled as one, and more threads would not fit in memory.
set_option Elab.async false

open Sys2Proof

/-- A ring without its indices and counts. -/
def Ring.context (x : Ring) : Ring :=
  { x with prod := 0, cons := 0, fill := 0, reserved := 0, inFlight := 0, lost := 0, unsig := 0 }

theorem Ring.kept_of_context {x y : Ring} (h : y.context = x.context) :
    y.kind = x.kind ∧ y.state = x.state ∧ y.fn = x.fn ∧ y.closing = x.closing := by
  simp only [Ring.context, Ring.mk.injEq] at h
  obtain ⟨kind, state, fn, -, -, -, -, -, -, -, -, -, -, -, -, -, -, -, closing⟩ := h
  exact ⟨kind, state, fn, closing⟩

/-- The same rings exist, each with the same context. -/
def State.SameContexts (s t : State) : Prop := ∀ r, (t.ring r).map Ring.context = (s.ring r).map Ring.context

theorem State.SameContexts.refl (s : State) : s.SameContexts s := fun _ => rfl

theorem State.SameContexts.trans {s t u : State} (h : s.SameContexts t) (k : t.SameContexts u) : s.SameContexts u :=
  fun r => (k r).trans (h r)

theorem State.SameContexts.same_rings {s t u : State} (h : s.SameContexts t) (e : u.rings = t.rings) : s.SameContexts u := fun r => by
  rw [← h r]
  unfold State.ring
  rw [e]

theorem Keeps.sameContexts {w : Nat} {s t : State} (k : Keeps w s t) (h : w.testBit 31 = false := by decide) : s.SameContexts t :=
  (State.SameContexts.refl s).same_rings (k.ringsKept h)

/-- A ring that is there after was there before. -/
theorem State.SameContexts.before {s t : State} (h : s.SameContexts t) {r : Nat} {y : Ring} (hy : t.ring r = some y) :
    ∃ x, s.ring r = some x ∧ y.context = x.context := by
  have hr := h r
  rw [hy] at hr
  obtain ⟨x, hx, hc⟩ := Option.map_eq_some_iff.1 hr.symm
  exact ⟨x, hx, hc.symm⟩

/-- A ring that was there before is there after. -/
theorem State.SameContexts.after {s t : State} (h : s.SameContexts t) {r : Nat} {x : Ring} (hx : s.ring r = some x) :
    ∃ y, t.ring r = some y ∧ y.context = x.context := by
  have hr := h r
  rw [hx] at hr
  exact Option.map_eq_some_iff.1 hr

theorem State.SameContexts.none {s t : State} (h : s.SameContexts t) {r : Nat} (hr : s.ring r = none) : t.ring r = none := by
  have k := h r
  rw [hr] at k
  exact Option.map_eq_none_iff.1 k

theorem State.ring_putRing_other (s : State) {r q : Nat} (x : Ring) (h : q ≠ r) : (s.putRing r x).ring q = s.ring q :=
  Table.find_put_other _ _ _ _ h

theorem State.putRing_contexts {u s : State} {r : Nat} {x y : Ring} (h : u.SameContexts s) (hx : s.ring r = some x)
    (hy : y.context = x.context := by rfl) : u.SameContexts (s.putRing r y) := fun q => by
  rw [← h q]
  by_cases hq : q = r
  · rw [hq, State.ring_putRing, hx, Option.map_some, Option.map_some, hy]
  · rw [State.ring_putRing_other _ _ hq]

theorem State.updRing_contexts {u s : State} {r : Nat} {f : Ring → Ring} (h : u.SameContexts s)
    (hf : ∀ x, (f x).context = x.context := by exact fun _ => rfl) : u.SameContexts (s.updRing r f) := by
  unfold State.updRing
  split
  · exact h
  · next x hx => exact State.putRing_contexts h hx (hf x)

theorem State.signal_contexts {u s : State} {v : Nat} (h : u.SameContexts s) : u.SameContexts (s.signal v) :=
  h.trans (State.signal_keeps (.refl _ s) (within_self _)).sameContexts

theorem State.bump_contexts {u s : State} {f : Field} (h : u.SameContexts s) : u.SameContexts (s.bump f) := by
  unfold State.bump State.count
  split <;> exact h

theorem State.moderate_contexts {u s : State} {r : Nat} (h : u.SameContexts s) : u.SameContexts (s.moderate r) := by
  unfold State.moderate
  split
  · exact h
  · next x hx =>
    split
    · exact h
    · split
      · exact State.signal_contexts (State.putRing_contexts (h.same_rings rfl) hx)
      · dsimp only
        split
        · exact (State.putRing_contexts h hx).same_rings rfl
        · exact State.putRing_contexts h hx

theorem State.pushEvt_contexts {u s : State} {r : Nat} {c : Code} {o : Nat} {d : Detail} (h : u.SameContexts s) :
    u.SameContexts (s.pushEvt r c o d) := by
  unfold State.pushEvt
  split
  · exact h
  · next x hx =>
    split
    · exact State.bump_contexts (State.putRing_contexts h hx)
    · exact State.moderate_contexts ((State.putRing_contexts h hx).same_rings rfl)

theorem State.pushEvts_contexts {l : List Nat} {u s : State} {c : Code} {o : Nat} {d : Detail} (h : u.SameContexts s) :
    u.SameContexts (s.pushEvts c o d l) := by
  induction l generalizing s with
  | nil => exact h
  | cons r l ih => exact ih (State.pushEvt_contexts h)

theorem State.latchCode_contexts {u s : State} {c : Code} (h : u.SameContexts s) : u.SameContexts (s.latchCode c) := by
  unfold State.latchCode
  split <;> exact h

theorem State.raise_contexts {u s : State} {c : Code} {o : Nat} {d : Detail} (h : u.SameContexts s) :
    u.SameContexts (s.raise c o d) :=
  State.latchCode_contexts (State.pushEvts_contexts h)

theorem State.ledgerLost_contexts {u s : State} (h : u.SameContexts s) : u.SameContexts s.ledgerLost := by
  unfold State.ledgerLost State.raiseLimited
  split
  · exact State.raise_contexts ((State.bump_contexts (f := Reg.LDG_OVERRUN_CNT) h).same_rings rfl)
  · exact State.bump_contexts h

/-- An entry offered to the Ledger, one that is lost included. -/
theorem State.offer_contexts {u s : State} {e : LedgerEntry} (h : u.SameContexts s) : u.SameContexts (s.offer e) := by
  unfold State.offer
  dsimp only
  split
  · exact State.ledgerLost_contexts (h.same_rings rfl)
  · exact h.same_rings rfl

theorem State.logReg_contexts {u s : State} {w : Writer} {off : Nat} {c : Code} {old new : Nat} (h : u.SameContexts s) :
    u.SameContexts (s.logReg w off c old new) := by
  unfold State.logReg
  dsimp only
  split
  · exact (State.offer_contexts h).trans (State.mirrorCfg_keeps (.refl _ _) (within_self _)).sameContexts
  · exact State.offer_contexts h

theorem State.complete_contexts {u s : State} {k : Ticket} {c : Code} {v : Nat} (h : u.SameContexts s) :
    u.SameContexts (s.complete k c v) := by
  unfold State.complete
  split
  · exact h
  · dsimp only
    split
    · exact State.updRing_contexts h
    · next x hx => exact State.moderate_contexts ((State.putRing_contexts (State.updRing_contexts h) hx).same_rings rfl)

theorem State.completeAll_contexts {l : List Ticket} {u s : State} {c : Code} (h : u.SameContexts s) :
    u.SameContexts (s.completeAll c l) := by
  induction l generalizing s with
  | nil => exact h
  | cons k l ih => exact ih (State.complete_contexts h)

/-- A descriptor that is consumed moves indices and counts alone. -/
theorem State.consume_contexts {u s : State} {r cookie : Nat} (h : u.SameContexts s) : u.SameContexts (s.consume r cookie).1 := by
  unfold State.consume
  split
  · exact h
  · next x hx => exact State.updRing_contexts (State.putRing_contexts (h.same_rings rfl) hx)

end Sys2Proof.Machine
end

/-! # Proofs: NOP, CREATE_RING and DESTROY_RING (R119, R121, R122) -/

section
namespace Sys2Proof.Machine

-- One theorem at a time: the text is compiled as one, and more threads would not fit in memory.
set_option Elab.async false

open Sys2Proof

/-! ## A descriptor that is consumed -/

/-- The state in which a consumed descriptor of opcode `op` acts. -/
def State.taken (s : State) (op : Nat) (d : Desc) : State :=
  (s.consume d.rid.val d.cookie.toNat).1.mirror3
    (.ring d.rid.val ((s.consume d.rid.val d.cookie.toNat).1.consOf d.rid.val) op (some d))

/-- The ticket of a consumed descriptor. -/
def State.ticketOf (s : State) (d : Desc) : Ticket := (s.consume d.rid.val d.cookie.toNat).2

theorem State.taken_keeps (s : State) (op : Nat) (d : Desc) : Keeps 0x81800000 s (s.taken op d) :=
  State.mirror3_keeps (State.consume_keeps (.refl _ s))

theorem State.taken_contexts (s : State) (op : Nat) (d : Desc) : s.SameContexts (s.taken op d) :=
  (State.consume_contexts (.refl s)).trans (State.mirror3_keeps (.refl _ _) (within_self _)).sameContexts

section
variable {s : State} {d : Desc} (h : s.servable .sub d.rid.val d.fence = true)
include h

/-- A consumed descriptor stands in a ring of its submitter, which names the ring that its completion is promised in. -/
theorem State.ticketOf_eq : ∃ x, s.ring d.rid.val = some x ∧ (s.ring x.pair).isSome ∧ (s.ticketOf d) =
    { rid := d.rid.val, cpl := x.pair, fn := s.submitter d, epoch := (s.fn (s.submitter d)).epoch, cookie := d.cookie.toNat } := by
  obtain ⟨x, hx, hk, hp, -⟩ := State.consume_spec d.cookie.toNat h
  have hf : s.submitter d = x.fn := by unfold State.submitter; rw [hx]
  exact ⟨x, hx, hp, by rw [hf]; exact hk⟩

theorem State.taken_stay (op : Nat) : s.RingsStay (s.taken op d) := by
  obtain ⟨-, -, -, -, stay⟩ := State.consume_spec d.cookie.toNat h
  exact stay.trans (State.mirror3_keeps (.refl _ _) (within_self _)).ringsStay

/-- A completion answers the descriptor, after whatever kept the rings since it was consumed. -/
theorem State.taken_answers {op : Nat} {v : State} (ho : (s.taken op d).out <:+ v.out) (hv : (s.taken op d).RingsStay v) (c : Code)
    (r : Nat) : s.Answers (v.complete (s.ticketOf d) c r) d c := by
  obtain ⟨x, -, hp, hk⟩ := State.ticketOf_eq h
  have stay := State.taken_stay h op
  refine State.answers_complete (u := s.taken op d) (f := s.submitter d) ((s.taken_keeps op d).sent.trans ho) hv ?_ ?_
  · rw [hk]
    exact stay.1 _ hp
  · rw [hk]
    unfold State.fn
    rw [stay.2]

end

/-- An accepted descriptor acts on the state in which it was consumed. -/
theorem State.runDesc_acts {s : State} {o : OpSpec} {d : Desc} (h : s.Accepts o d) (act : Desc → Ticket → State → State) :
    s.runDesc o d act = act d (s.ticketOf d) (s.taken o.opcode d) := by
  obtain ⟨serves, passes, untimed⟩ := h
  obtain ⟨x, -, -, hk⟩ := State.ticketOf_eq serves
  have hf : (s.consume d.rid.val d.cookie.toNat).2.fn = s.submitter d := congrArg Ticket.fn hk
  unfold State.runDesc
  rw [if_pos serves]
  dsimp only
  rw [hf, passes, untimed]
  rfl

/-! ## NOP and unknown opcodes -/

theorem exec_nop {op : BitVec 16} (h : op.toNat = 0) (d : Desc) (s : State) :
    exec (.nop op d) s = .next (s.runDesc nopSpec d (fun _ k t => t.complete k 0 0)) :=
  congrArg Host.Outcome.next (if_pos h)

theorem exec_nop_unknown {op : BitVec 16} {d : Desc} {s : State} (h : knownOpcodes.contains op.toNat = false)
    (serves : s.servable .sub d.rid.val d.fence = true) :
    exec (.nop op d) s = .next ((s.taken op.toNat d).failDesc (s.ticketOf d) d.obj 0x3401) := by
  have nonzero : op.toNat ≠ 0 := fun h0 => by
    rw [h0] at h
    exact absurd h (by decide)
  refine congrArg Host.Outcome.next ?_
  rw [if_neg nonzero, if_neg (by rw [h]; exact Bool.false_ne_true), State.unknownOpcode, if_pos serves]
  rfl

/-! ## CREATE_RING -/

/-- An entry of the Ledger that finds room leaves the rings. -/
theorem State.logDesc_rings {s : State} (h : s.ledger.intake.length < ledgerIntake) (f o : Nat) (c : Code) (old new : Nat) :
    (s.logDesc f o c old new).rings = s.rings := by
  obtain ⟨x, hx⟩ := State.offer_room h (s.ledgerEntry (if f = 0 then 0 else 1) f 1 false c o old new)
  rw [State.logDesc, hx]
  rfl

theorem State.moderate_ring_other (s : State) {r q : Nat} (h : q ≠ r) : (s.moderate r).ring q = s.ring q := by
  have signalled (t : State) (v : Nat) : (t.signal v).ring q = t.ring q :=
    congrArg (Table.find · q) ((State.signal_keeps (.refl _ t) (within_self _)).ringsKept rfl)
  unfold State.moderate
  split
  · rfl
  · split
    · rfl
    · split
      · rw [signalled]
        exact State.ring_putRing_other _ _ h
      · dsimp only
        split <;> exact State.ring_putRing_other _ _ h

theorem State.updRing_ring_other (s : State) {r q : Nat} (f : Ring → Ring) (h : q ≠ r) : (s.updRing r f).ring q = s.ring q := by
  unfold State.updRing
  split
  · rfl
  · exact State.ring_putRing_other _ _ h

/-- A completion changes no ring but the one its descriptor stood in and the one it is written to. -/
theorem State.complete_ring_other (s : State) {k : Ticket} {q : Nat} (hr : q ≠ k.rid) (hc : q ≠ k.cpl) (c : Code) (v : Nat) :
    (s.complete k c v).ring q = s.ring q := by
  unfold State.complete
  split
  · rfl
  · dsimp only
    split
    · exact s.updRing_ring_other _ hr
    · exact (State.moderate_ring_other _ hc).trans ((State.ring_putRing_other _ _ hc).trans (s.updRing_ring_other _ hr))

/-- The ring that CREATE_RING makes for a function. -/
def createdRing (d : Desc) (f : Nat) : Ring :=
  { newRing (ringKind (d.p 40 1)) f (d.p 32 8) (d.p 41 1) (d.p 42 2)
      (if ringKind (d.p 40 1) = .sub ∨ ringKind (d.p 40 1) = .bsIn ∨ d.p 44 2 = 0xFFFF then none else some (d.p 44 2)) with
    modCount := d.p 46 2, modUs := d.p 48 2, mask := d.p 50 2, slot := d.p 52 1 }

theorem actCreateRing_eq (d : Desc) (k : Ticket) (s : State) : actCreateRing d k s =
    ((s.putRing d.objIndex.toNat (createdRing d k.fn)).logDesc k.fn d.obj 0 0 (d.p 40 1)).complete k 0 0 := rfl

/-- A descriptor that passes its checks passes check 7. -/
theorem State.ringOk_of_passes {s : State} {o : OpSpec} {f : Nat} {d : Desc} (h : s.descFailure o f d = none) : o.ringOk s d = true := by
  unfold State.descFailure at h
  split_ifs at h
  simp_all

/-- CREATE_RING names a ring that is not there. -/
theorem State.created_absent {s : State} {d : Desc} (h : s.Accepts createSpec d) : s.ring d.objIndex.toNat = none := by
  have ok : createRingOk s d = true := State.ringOk_of_passes h.2.1
  unfold createRingOk at ok
  simp only [Bool.and_eq_true] at ok
  exact Option.isNone_iff_eq_none.1 ok.1.1.1.1

theorem State.createRing_ring {s : State} {d : Desc} (h : s.Accepts createSpec d) (room : s.ledger.intake.length < ledgerIntake) :
    (actCreateRing d (s.ticketOf d) (s.taken createSpec.opcode d)).ring d.objIndex.toNat = some (createdRing d (s.submitter d)) := by
  obtain ⟨x, hx, hp, hk⟩ := State.ticketOf_eq h.1
  have absent := State.created_absent h
  have notRid : d.objIndex.toNat ≠ (s.ticketOf d).rid := fun e => by
    rw [e, hk, hx] at absent
    cases absent
  have notCpl : d.objIndex.toNat ≠ (s.ticketOf d).cpl := fun e => by
    rw [e, hk] at absent
    rw [absent] at hp
    cases hp
  have room' : ((s.taken createSpec.opcode d).putRing d.objIndex.toNat
      (createdRing d (s.ticketOf d).fn)).ledger.intake.length < ledgerIntake := by
    rw [State.putRing_ledger, (s.taken_keeps _ d).ledgerKept rfl]
    exact room
  rw [actCreateRing_eq, State.complete_ring_other _ notRid notCpl]
  refine (congrArg (Table.find · _) (State.logDesc_rings room' _ _ _ _ _)).trans ((State.ring_putRing _ _ _).trans ?_)
  rw [hk]

theorem State.createRing_answers {s : State} {d : Desc} (h : s.Accepts createSpec d) :
    s.Answers (actCreateRing d (s.ticketOf d) (s.taken createSpec.opcode d)) d 0 := by
  rw [actCreateRing_eq]
  have put := State.putRing_keeps (r := d.objIndex.toNat) (x := createdRing d (s.ticketOf d).fn)
    (.refl _ (s.taken createSpec.opcode d)) (within_self _)
  exact State.taken_answers h.1 (put.sent.trans (State.logDesc_keeps (.refl _ _) (within_self _)).sent)
    (State.logDesc_stay (State.putRing_stay (.refl _))) 0 0

/-! ## DESTROY_RING -/

/-- DESTROY_RING names a ring that is there. -/
theorem State.destroyed_present {s : State} {d : Desc} (h : s.Accepts destroySpec d) : ∃ x, s.ring d.objIndex.toNat = some x := by
  have ok : destroyRingOk s d = true := State.ringOk_of_passes h.2.1
  unfold destroyRingOk at ok
  simp only [Bool.and_eq_true] at ok
  exact Option.isSome_iff_exists.1 ok.1

/-- DESTROY_RING adds its ticket to those that wait for the ring's end. -/
theorem State.destroyRing_closing {s : State} {r : Nat} {x : Ring} (hx : s.ring r = some x) (k : Ticket) (f o : Nat) (c : Code)
    (old new : Nat) : ∃ y, ((s.updRing r (fun x => { x with closing := x.closing ++ [k] })).logDesc f o c old new).ring r = some y ∧
      y.closing = x.closing ++ [k] := by
  have put : (s.updRing r (fun x => { x with closing := x.closing ++ [k] })).ring r = some { x with closing := x.closing ++ [k] } := by
    unfold State.updRing
    rw [hx]
    exact State.ring_putRing _ _ _
  obtain ⟨y, hy, same⟩ := (State.offer_contexts (.refl _)).after put
  obtain ⟨-, -, -, closing⟩ := Ring.kept_of_context same
  exact ⟨y, hy, closing⟩

/-- Completing a list of tickets answers each whose function was not reset and whose completion ring is there. -/
theorem State.completeAll_sent {l : List Ticket} {s : State} {c : Code} {k : Ticket} (hk : k ∈ l) (he : (s.fn k.fn).epoch = k.epoch)
    (hr : (s.ring k.cpl).isSome) : s.Sent (s.completeAll c l)
      (fun o => ∃ q i e, o = .cpl q i e ∧ e.rid = k.rid ∧ e.cookie = k.cookie ∧ e.status = State.ticketStatus k c) := by
  induction l generalizing s with
  | nil => cases hk
  | cons a l ih =>
    rcases List.mem_cons.1 hk with rfl | hl
    · exact (s.complete_sent k c 0 he hr).after (State.completeAll_keeps (.refl _ _) (within_self _)).sent
    · have stay : s.RingsStay (s.complete a c 0) := State.complete_stay (.refl s)
      have epoch : ((s.complete a c 0).fn k.fn).epoch = k.epoch := by
        rw [State.fn, stay.2]
        exact he
      exact (ih hl epoch (stay.1 _ hr)).before (State.complete_keeps (.refl _ _) (within_self _)).sent

/-- A ring that is DISABLED. -/
def State.withoutRing (s : State) (r : Nat) : State :=
  { s with rings := Table.del s.rings r, unsigSince := Table.del s.unsigSince r }

theorem State.withoutRing_same (s : State) (r : Nat) : (s.withoutRing r).ring r = none := Table.find_del_same _ _

theorem State.withoutRing_other (s : State) {r q : Nat} (h : q ≠ r) : (s.withoutRing r).ring q = s.ring q :=
  Table.find_del_other _ _ _ h

theorem State.destroyDone_ends {s : State} {r : Nat} {x : Ring} (hx : s.ring r = some x) (hc : x.closing ≠ []) (hb : x.busy r = 0) :
    s.destroyDone r = (s.withoutRing r).completeAll 0 x.closing := by
  unfold State.destroyDone
  rw [hx]
  exact if_pos (by simp [hc, hb])

/-! ## The obligation -/

/-- Settles O25: an accepted descriptor acts with the ticket of its completion, and a ring with nothing in flight is gone before the
requests to destroy it complete. -/
theorem ringDescriptorsAct : Obligations.RingDescriptorsAct := by
  refine ⟨fun op d s => ⟨fun h0 ok => ?_, fun unknown serves => ?_⟩,
    fun s => ⟨fun d ok room => ?_, fun d ok => ?_, fun r x hx hc hb => ?_⟩⟩
  · exact ⟨_, (exec_nop h0 d s).trans (congrArg Host.Outcome.next (State.runDesc_acts ok _)),
      State.taken_answers ok.1 (List.suffix_refl _) (.refl _) 0 0⟩
  · refine ⟨_, exec_nop_unknown unknown serves, State.taken_answers (op := op.toNat) serves ?_ ?_ 0x3401 0⟩
    · exact (List.suffix_refl _).trans (State.logDesc_keeps (.refl _ ((s.taken op.toNat d).bump _)) (within_self _)).sent
    · exact State.logDesc_stay (State.bump_stay (.refl _))
  · exact ⟨_, congrArg Host.Outcome.next (State.runDesc_acts ok actCreateRing), State.createRing_answers ok,
      _, State.createRing_ring ok room, rfl, rfl, rfl, rfl, rfl, rfl, rfl, rfl, rfl, rfl⟩
  · obtain ⟨x, hx⟩ := State.destroyed_present ok
    obtain ⟨z, hz, same⟩ := (s.taken_contexts destroySpec.opcode d).after hx
    obtain ⟨-, -, -, kept⟩ := Ring.kept_of_context same
    obtain ⟨y, hy, added⟩ := State.destroyRing_closing hz (s.ticketOf d) (s.ticketOf d).fn d.obj 0 1 0
    obtain ⟨_, -, -, hk⟩ := State.ticketOf_eq ok.1
    refine ⟨_, congrArg Host.Outcome.next (State.runDesc_acts ok actDestroyRing), x, y, s.ticketOf d, hx, hy, ?_, ?_, ?_⟩
    · rw [added, kept]
    · rw [hk]
    · rw [hk]
  · refine ⟨_, congrArg Host.Outcome.next (State.destroyDone_ends hx hc hb), ?_, fun k hk he other there => ?_⟩
    · exact (State.completeAll_contexts (.refl _)).none (s.withoutRing_same r)
    · rw [← s.withoutRing_other other] at there
      exact (State.completeAll_sent (s := s.withoutRing r) hk he there).before (List.suffix_refl _)

end Sys2Proof.Machine
end

/-! # Proofs: functions opened, closed and reset (R105, R114, R141) -/

section
namespace Sys2Proof.Machine

-- One theorem at a time: the text is compiled as one, and more threads would not fit in memory.
set_option Elab.async false

open Sys2Proof

/-! ## Fields and rings kept -/

theorem State.setAll_rings (l : List (Field × Nat)) (s : State) : (s.setAll l).rings = s.rings := by
  induction l generalizing s with
  | nil => rfl
  | cons e l ih => exact ih _

theorem State.setAll_fns (l : List (Field × Nat)) (s : State) : (s.setAll l).fns = s.fns := by
  induction l generalizing s with
  | nil => rfl
  | cons e l ih => exact ih _

/-- A log entry leaves a field of a name that is none of its own. -/
theorem State.logReg_get (s : State) (w : Writer) (off : Nat) (c : Code) (old new : Nat) {f : Field} (g : Field) (hf : f.id = g.id)
    (hg : g.id ∉ loggedFields := by decide) (hl : g.id < 1024 := by decide) : (s.logReg w off c old new).get f = s.get f :=
  (s.logReg_only w off c old new).regs f (hf ▸ hg) (hf ▸ hl)

theorem State.logReg_fns (s : State) (w : Writer) (off : Nat) (c : Code) (old new : Nat) : (s.logReg w off c old new).fns = s.fns :=
  (s.logReg_only w off c old new).rest .fns (by decide)

/-- Fields written together, then logged, read as written. -/
theorem State.setAll_logReg_reads {l : List (Field × Nat)} (hn : (l.map (fun e => fieldKey e.1)).Nodup)
    (hl : ∀ i ∈ l.map (fun e => e.1.id), i ∉ loggedFields ∧ i < 1024) (hw : ∀ e ∈ l, e.2 < 2 ^ fieldWidth e.1) (s : State) (w : Writer)
    (off : Nat) (c : Code) (old new : Nat) : ((s.setAll l).logReg w off c old new).Reads l := fun e he => by
  obtain ⟨unlogged, small⟩ := hl _ (List.mem_map_of_mem he)
  rw [(State.logReg_only _ w off c old new).regs _ unlogged small, State.setAll_reads hn s he, Nat.mod_eq_of_lt (hw e he)]

/-! ## OPEN -/

/-- The state in which an OPEN is judged: the version the host asks for is shown. -/
def State.asked (s : State) (f major minor : Nat) : State :=
  s.setAll [(Reg.HIF_FN_OPEN_HOST_MAJOR f, major), (Reg.HIF_FN_OPEN_HOST_MINOR f, minor)]

/-- The version asked for stands in no field of another name. -/
theorem State.asked_get (s : State) (f major minor : Nat) (R : Nat → Field) (i : Nat) (hR : ∀ i, (R i).id = (R 0).id := by exact fun _ => rfl)
    (hn : (R 0).id % 1024 ∉ [Reg.HIF_FN_OPEN_HOST_MAJOR 0, Reg.HIF_FN_OPEN_HOST_MINOR 0].map (fun g => g.id % 1024) := by decide) :
    (s.asked f major minor).get (R i) = s.get (R i) :=
  State.setAll_get_name s (by rw [hR i]; exact hn)

theorem State.asked_pensOf (s : State) (f major minor g : Nat) : (s.asked f major minor).pensOf g = s.pensOf g := by
  simp only [State.pensOf, State.ownsPen, State.on, s.asked_get f major minor Reg.HIF_PEN_OWNER_ASSIGNED,
    s.asked_get f major minor Reg.HIF_PEN_OWNER_FUNCTION]

theorem State.asked_openFailure (s : State) (f major minor : Nat) :
    (s.asked f major minor).openFailure f major = s.openFailure f major := by
  unfold State.openFailure State.vecCount State.on
  rw [State.asked_pensOf, s.asked_get f major minor Reg.HIF_FN_STATUS_OPENED, s.asked_get f major minor Reg.HIF_ADMIN_BASE_LO,
    s.asked_get f major minor Reg.HIF_ADMIN_CFG_SQ_LOG2, s.asked_get f major minor Reg.HIF_ADMIN_CFG_CQ_LOG2,
    s.asked_get f major minor Reg.HIF_ADMIN_CFG_VECTOR, s.asked_get f major minor Reg.HIF_FN_VEC_COUNT]

theorem State.openFailure_lt {s : State} {f major : Nat} {c : Code} (h : s.openFailure f major = some c) : c < 2 ^ 16 := by
  unfold State.openFailure at h
  split_ifs at h <;> cases h <;> decide

/-- What an OPEN shows of a function. -/
def openShows (f minor : Nat) : List (Field × Nat) :=
  [(Reg.HIF_FN_STATUS_OPENED f, 1), (Reg.HIF_FN_STATUS_ABI_MAJOR f, 3), (Reg.HIF_FN_STATUS_ABI_MINOR f, min minor 2),
    (Reg.HIF_FN_LAST_STATUS f, 0)]

theorem openShows_nodup (f minor : Nat) : ((openShows f minor).map (fun e => fieldKey e.1)).Nodup := by
  have names : ((openShows f minor).map (fun e => fieldKey e.1 % 1024)).Nodup := by
    simp only [openShows, List.map_cons, List.map_nil, fieldKey, Nat.add_mul_mod_self_left, Nat.mod_mod]
    exact (by decide : ([9, 10, 11, 13] : List Nat).Nodup)
  exact List.Nodup.of_map (· % 1024) (by rw [List.map_map]; exact names)

theorem openShows_unlogged (f minor : Nat) : ∀ i ∈ (openShows f minor).map (fun e => e.1.id), i ∉ loggedFields ∧ i < 1024 :=
  (by decide : ∀ i ∈ [Reg.HIF_FN_STATUS_OPENED 0, Reg.HIF_FN_STATUS_ABI_MAJOR 0, Reg.HIF_FN_STATUS_ABI_MINOR 0,
    Reg.HIF_FN_LAST_STATUS 0].map Field.id, i ∉ loggedFields ∧ i < 1024)

theorem openShows_fits (f minor : Nat) : ∀ e ∈ openShows f minor, e.2 < 2 ^ fieldWidth e.1 := by
  simp [openShows, fieldWidth, Reg.HIF_FN_STATUS_OPENED, Reg.HIF_FN_STATUS_ABI_MAJOR, Reg.HIF_FN_STATUS_ABI_MINOR,
    Reg.HIF_FN_LAST_STATUS]

/-- The admin rings of a function that is opened. -/
def State.withAdmin (s : State) (f : Nat) : State :=
  let p := (s.pensOf f).headD 0
  let base := s.get64 (Reg.HIF_ADMIN_BASE_LO f) (Reg.HIF_ADMIN_BASE_HI f)
  let sq := s.get (Reg.HIF_ADMIN_CFG_SQ_LOG2 f)
  (s.putRing (64 * p) (newRing .sub f base sq (64 * p + 1) none)).putRing (64 * p + 1)
    (newRing .cpl f (base + 64 * 2 ^ sq) (s.get (Reg.HIF_ADMIN_CFG_CQ_LOG2 f)) 0 (some (s.get (Reg.HIF_ADMIN_CFG_VECTOR f))))

theorem State.openFn_eq (s : State) (f minor : Nat) : s.openFn f minor =
    ({ s.withAdmin f with fns := Table.put (s.withAdmin f).fns f { (s.withAdmin f).fn f with pen := (s.pensOf f).headD 0 } } : State).setAll
      (openShows f minor) := rfl

/-- A ring of a kind that stands ACTIVE for a function. -/
def State.Stands (s : State) (r : Nat) (k : RingKind) (f : Nat) : Prop :=
  ∃ x, s.ring r = some x ∧ x.kind = k ∧ x.state = .active ∧ x.fn = f

theorem State.Stands.same {s t : State} {r : Nat} {k : RingKind} {f : Nat} (h : s.Stands r k f) (same : s.SameContexts t) :
    t.Stands r k f := by
  obtain ⟨x, hx, kind, state, fn⟩ := h
  obtain ⟨y, hy, hc⟩ := same.after hx
  obtain ⟨kind', state', fn', -⟩ := Ring.kept_of_context hc
  exact ⟨y, hy, kind'.trans kind, state'.trans state, fn'.trans fn⟩

theorem State.openFn_stands (s : State) (f minor : Nat) :
    (s.openFn f minor).Stands (64 * (s.pensOf f).headD 0) .sub f ∧ (s.openFn f minor).Stands (64 * (s.pensOf f).headD 0 + 1) .cpl f := by
  have rings (r : Nat) : (s.openFn f minor).ring r = (s.withAdmin f).ring r := by
    rw [State.openFn_eq]
    exact congrArg (Table.find · r) (State.setAll_rings _ _)
  exact ⟨⟨_, (rings _).trans ((State.ring_putRing_other _ _ (by omega)).trans (State.ring_putRing _ _ _)), rfl, rfl, rfl⟩,
    ⟨_, (rings _).trans (State.ring_putRing _ _ _), rfl, rfl, rfl⟩⟩

theorem State.openFn_logReg_reads (s : State) (f minor : Nat) (w : Writer) (off : Nat) (c : Code) (old new : Nat) :
    ((s.openFn f minor).logReg w off c old new).Reads (openShows f minor) := by
  rw [State.openFn_eq]
  exact State.setAll_logReg_reads (openShows_nodup f minor) (openShows_unlogged f minor) (openShows_fits f minor) _ w off c old new

theorem State.functionOpen_opens {s : State} {f major : Nat} (h : s.openFailure f major = none) (minor : Nat) :
    s.functionOpen f major minor false = (s.asked f major minor).openFn f minor := by
  have judged := (s.asked_openFailure f major minor).trans h
  unfold State.asked at judged ⊢
  simp [State.functionOpen, judged]

theorem State.functionOpen_fails {s : State} {f major : Nat} {c : Code} (h : s.openFailure f major = some c) (minor : Nat) :
    s.functionOpen f major minor false = (s.asked f major minor).set (Reg.HIF_FN_LAST_STATUS f) c := by
  have judged := (s.asked_openFailure f major minor).trans h
  unfold State.asked at judged ⊢
  simp [State.functionOpen, judged]

theorem exec_functionOpen {s : State} {f : Fin 32} (hw : s.mayWrite (.host f) 0x10 = true) (major minor : BitVec 8) (close : Bool) :
    ∃ c word, exec (.functionOpen f major minor close) s =
      .next ((s.functionOpen f major.toNat minor.toNat close).logReg (.host f) 0x10 c 0 word) :=
  ⟨_, _, congrArg Host.Outcome.next (State.byWriter_reached hw _)⟩

/-! ## CLOSE and the resets -/

theorem Table.mem_of_find {α : Type} {t : Table α} {k : Nat} {x : α} (h : Table.find t k = some x) : (k, x) ∈ t := by
  induction t with
  | nil => cases h
  | cons e t ih =>
    obtain ⟨q, v⟩ := e
    unfold Table.find at h
    split at h
    · next hk => rw [hk, Option.some.inj h]; exact List.mem_cons_self
    · exact List.mem_cons_of_mem _ (ih h)

/-- The first entry of a key stays first when it is kept. -/
theorem Table.find_keep {α : Type} {t : Table α} {k : Nat} {x : α} {p : Nat → α → Bool} (h : Table.find t k = some x)
    (hp : p k x = true) : Table.find (Table.keep t p) k = some x := by
  induction t with
  | nil => cases h
  | cons e t ih =>
    obtain ⟨q, v⟩ := e
    unfold Table.find at h
    unfold Table.keep
    split at h
    · next hk =>
      obtain rfl := Option.some.inj h
      subst hk
      rw [List.filter_cons_of_pos (p := fun e : Nat × α => p e.1 e.2) hp, Table.find, if_pos rfl]
    · next hk =>
      by_cases hq : p q v = true
      · rw [List.filter_cons_of_pos (p := fun e : Nat × α => p e.1 e.2) hq, Table.find, if_neg hk]
        exact ih h
      · rw [List.filter_cons_of_neg (p := fun e : Nat × α => p e.1 e.2) hq]
        exact ih h

/-- A function that is closed has no ring and is not open. -/
structure State.Closed (s : State) (f : Nat) : Prop where
  rings : ∀ e ∈ s.rings, e.2.fn ≠ f
  opened : s.get (Reg.HIF_FN_STATUS_OPENED f) = 0

theorem State.Closed.ring {s : State} {f : Nat} (h : s.Closed f) {r : Nat} {x : Ring} (hx : s.ring r = some x) : x.fn ≠ f :=
  h.rings _ (Table.mem_of_find hx)

/-- What closing shows of a function. -/
def closeShows (f : Nat) : List (Field × Nat) := [(Reg.HIF_FN_STATUS_OPENED f, 0), (Reg.HIF_FN_STATUS_ABI_MAJOR f, 0)]

theorem State.closeFn_rings (s : State) (f : Nat) : (s.closeFn f).rings = Table.keep s.rings (fun _ x => x.fn != f) :=
  State.setAll_rings _ _

theorem State.closeFn_epoch (s : State) (f : Nat) : ((s.closeFn f).fn f).epoch = (s.fn f).epoch + 1 := by
  have fns : (s.closeFn f).fns = Table.put s.fns f { s.fn f with epoch := (s.fn f).epoch + 1 } := State.setAll_fns _ _
  rw [State.fn, fns, Table.getD_put_same]

theorem State.closeFn_get_key (s : State) (f : Nat) {g : Field} (h : fieldKey g ∉ (closeShows f).map (fun e => fieldKey e.1)) :
    (s.closeFn f).get g = s.get g :=
  State.setAll_get_key (closeShows f) _ g h

theorem closeShows_nodup (f : Nat) : ((closeShows f).map (fun e => fieldKey e.1)).Nodup := by
  have apart : fieldKey (Reg.HIF_FN_STATUS_OPENED f) ≠ fieldKey (Reg.HIF_FN_STATUS_ABI_MAJOR f) :=
    fieldKey_ne _ _ (show (Reg.HIF_FN_STATUS_OPENED 0).id % 1024 ≠ (Reg.HIF_FN_STATUS_ABI_MAJOR 0).id % 1024 by decide)
  simp [closeShows, apart]

theorem State.closeFn_closed (s : State) (f : Nat) : (s.closeFn f).Closed f := by
  refine ⟨fun e he => ?_, State.setAll_reads (closeShows_nodup f) _ (.head _)⟩
  rw [State.closeFn_rings] at he
  simpa using (List.mem_filter.1 he).2

theorem State.Closed.closeFn {s : State} {g : Nat} (h : s.Closed g) (f : Nat) : (s.closeFn f).Closed g := by
  by_cases hf : g = f
  · exact hf ▸ s.closeFn_closed g
  · refine ⟨fun e he => ?_, (s.closeFn_get_key f ?_).trans h.opened⟩
    · rw [State.closeFn_rings] at he
      exact h.rings e (List.mem_filter.1 he).1
    · simp only [closeShows, List.map_cons, List.map_nil, fieldKey, Reg.HIF_FN_STATUS_OPENED, Reg.HIF_FN_STATUS_ABI_MAJOR,
        List.mem_cons, List.not_mem_nil, or_false]
      omega

theorem State.closeVfs_closed (s : State) {n g : Nat} (h0 : g ≠ 0) (hn : g ≤ n) : (s.closeVfs n).Closed g := by
  induction n with
  | zero => omega
  | succ n ih =>
    by_cases hg : g = n + 1
    · subst hg
      exact State.closeFn_closed _ _
    · exact (ih (by omega)).closeFn (n + 1)

/-- With the PF closed last, every function is closed. -/
theorem State.closeAll_closed (s : State) (g : Fin 32) : ((s.closeVfs 31).closeFn 0).Closed g := by
  by_cases hg : g.val = 0
  · rw [hg]
    exact State.closeFn_closed _ _
  · exact (s.closeVfs_closed hg (by omega)).closeFn 0

theorem exec_functionClose {s : State} {f : Fin 32} (hw : s.mayWrite (.host f) 0x10 = true) : exec (.functionClose f) s =
    .next (((s.closeFn f).set (Reg.HIF_FN_LAST_STATUS f) 0).logReg (.host f) 0x10 0 0 (2 ^ 30)) :=
  congrArg Host.Outcome.next (State.byWriter_reached hw _)

/-! ## Fields returned to their reset values -/

theorem State.resetFields_rings (l : List Field) (s : State) : (s.resetFields l).rings = s.rings := by
  induction l generalizing s with
  | nil => rfl
  | cons f l ih => exact ih _

theorem State.resetFields_vfEnable (l : List Field) (s : State) : (s.resetFields l).vfEnable = s.vfEnable := by
  induction l generalizing s with
  | nil => rfl
  | cons f l ih => exact ih _

theorem State.resetFields_get_key (l : List Field) (s : State) {f : Field} (h : fieldKey f ∉ l.map fieldKey) :
    (s.resetFields l).get f = s.get f := by
  induction l generalizing s with
  | nil => rfl
  | cons g l ih =>
    rw [List.map_cons, List.mem_cons, not_or] at h
    exact (ih _ h.2).trans (State.get_set_key _ _ _ _ h.1)

theorem State.resetFields_get_name (l : List Field) (s : State) {f : Field} (h : f.id % 1024 ∉ l.map (fun g => g.id % 1024)) :
    (s.resetFields l).get f = s.get f :=
  State.resetFields_get_key l s fun hf => by
    obtain ⟨g, hg, key⟩ := List.mem_map.1 hf
    exact h (List.mem_map.2 ⟨g, hg, fieldKey_id key⟩)

/-- A listed field reads its reset value, when no other field of the list has its key. -/
theorem State.resetFields_reset {l : List Field} (s : State) {f : Field} (hf : f ∈ l) (only : ∀ g ∈ l, fieldKey g = fieldKey f → g = f)
    (fits : f.reset < 2 ^ fieldWidth f) : (s.resetFields l).get f = f.reset := by
  induction l generalizing s with
  | nil => cases hf
  | cons g l ih =>
    by_cases hl : fieldKey f ∈ l.map fieldKey
    · obtain ⟨h, hh, same⟩ := List.mem_map.1 hl
      obtain rfl := only h (List.mem_cons_of_mem _ hh) same
      exact ih _ hh (fun x hx => only x (List.mem_cons_of_mem _ hx))
    · obtain rfl : f = g := (List.mem_cons.1 hf).resolve_right fun h => hl (List.mem_map_of_mem h)
      exact (State.resetFields_get_key l _ hl).trans ((State.get_set_same _ _ _).trans (Nat.mod_eq_of_lt fits))

/-- The PF-only registers leave out what a function shows of itself. -/
theorem opened_unlisted (f : Nat) : (Reg.HIF_FN_STATUS_OPENED f).id % 1024 ∉ pfOnlyHif.map (fun g => g.id % 1024) := by
  have h : (Reg.HIF_FN_STATUS_OPENED 0).id % 1024 ∉ pfOnlyHif.map (fun g => g.id % 1024) := by decide +kernel
  exact h

theorem penOwner_listed (p : Fin 256) : Reg.HIF_PEN_OWNER_ASSIGNED p.val ∈ pfOnlyHif :=
  List.mem_append_left _ (List.mem_append_left _ (List.mem_flatMap.2 ⟨p, List.mem_range.2 p.isLt, .head _⟩))

/-- The PF-only registers hold a pen's assignment once. -/
theorem penOwner_only (p : Fin 256) : ∀ g ∈ pfOnlyHif, fieldKey g = fieldKey (Reg.HIF_PEN_OWNER_ASSIGNED p.val) →
    g = Reg.HIF_PEN_OWNER_ASSIGNED p.val := by
  have named : ∀ g ∈ pfOnlyHif, g.id % 1024 = 22 → g = Reg.HIF_PEN_OWNER_ASSIGNED ((g.off - 0x1000) / 4) := by decide +kernel
  intro g hg key
  have hn := named g hg (fieldKey_id key)
  rw [hn] at key ⊢
  have same : (g.off - 0x1000) / 4 = p := by
    simp only [fieldKey, Reg.HIF_PEN_OWNER_ASSIGNED] at key
    omega
  rw [same]

theorem penOwner_fits (p : Nat) : (Reg.HIF_PEN_OWNER_ASSIGNED p).reset < 2 ^ fieldWidth (Reg.HIF_PEN_OWNER_ASSIGNED p) := by
  show (if p = 0 then 1 else 0) < 2
  split <;> decide

/-- A reset of the PF closes every function and returns the pens to their reset owners. -/
structure State.AllReset (t : State) : Prop where
  rings : ∀ r x, t.ring r = some x → 32 ≤ x.fn
  vfEnable : t.vfEnable = false
  opened : ∀ g : Fin 32, t.get (Reg.HIF_FN_STATUS_OPENED g.val) = 0
  pens : ∀ p : Fin 256, t.get (Reg.HIF_PEN_OWNER_ASSIGNED p.val) = (Reg.HIF_PEN_OWNER_ASSIGNED p.val).reset

theorem State.flr_pf (s : State) : (s.flr 0).AllReset := by
  have closed := s.closeAll_closed
  rw [State.flr, if_pos rfl]
  generalize (s.closeVfs 31).closeFn 0 = u at *
  refine ⟨fun r x hx => ?_, State.resetFields_vfEnable _ _, fun g => ?_, fun p => ?_⟩
  · rw [State.ring, State.resetFields_rings] at hx
    by_contra small
    exact (closed ⟨x.fn, by omega⟩).ring hx rfl
  · exact (State.resetFields_get_name pfOnlyHif _ (opened_unlisted g)).trans (closed g).opened
  · exact State.resetFields_reset _ (penOwner_listed p) (penOwner_only p) (penOwner_fits p)

theorem State.flr_vf (s : State) {f : Nat} (h : f ≠ 0) : s.flr f = s.closeFn f := if_neg h

/-! ## The obligation -/

/-- Settles O23: an OPEN that passes puts the admin rings in place and one that fails leaves the rings; a closed function has no ring, and
a reset of the PF closes every function. -/
theorem functionsAreOpenedClosedAndReset : Obligations.FunctionsAreOpenedClosedAndReset := by
  refine ⟨fun f s hw => ⟨fun major minor passes => ?_, fun major minor c fails => ?_, ?_⟩, fun s => ⟨fun f hf c hc => ?_, fun c hc => ?_⟩⟩
  · obtain ⟨c, word, e⟩ := exec_functionOpen hw major minor false
    rw [State.functionOpen_opens passes] at e
    have logged := State.logReg_contexts (w := .host f) (off := 0x10) (c := c) (old := 0) (new := word)
      (.refl ((s.asked f major.toNat minor.toNat).openFn f minor.toNat))
    obtain ⟨sub, cpl⟩ := (s.asked f major.toNat minor.toNat).openFn_stands f minor.toNat
    rw [State.asked_pensOf] at sub cpl
    exact ⟨_, e, State.openFn_logReg_reads _ _ _ _ _ _ _ _, sub.same logged, cpl.same logged⟩
  · obtain ⟨c', word, e⟩ := exec_functionOpen hw major minor false
    rw [State.functionOpen_fails fails] at e
    refine ⟨_, e, ?_, fun r hr => ?_⟩
    · have fits : c < 2 ^ fieldWidth (Reg.HIF_FN_LAST_STATUS f.val) := State.openFailure_lt fails
      exact (State.logReg_get (f := Reg.HIF_FN_LAST_STATUS f) _ _ _ _ _ _ (Reg.HIF_FN_LAST_STATUS 0) rfl).trans (State.get_set_fits fits _)
    · obtain ⟨y, hy⟩ := Option.isSome_iff_exists.1 hr
      obtain ⟨x, hx, -⟩ := (State.logReg_contexts (.refl _)).before hy
      rw [State.ring, State.set_rings, State.asked, State.setAll_rings] at hx
      exact Option.isSome_iff_exists.2 ⟨x, hx⟩
  · have logged := State.logReg_contexts (w := .host f) (off := 0x10) (c := 0) (old := 0) (new := 2 ^ 30)
      (.refl ((s.closeFn f).set (Reg.HIF_FN_LAST_STATUS f) 0))
    refine ⟨_, exec_functionClose hw, fun r y hy => ?_, fun r x hx other => ?_, ?_, ?_⟩
    · obtain ⟨x, hx, same⟩ := logged.before hy
      obtain ⟨-, -, fn, -⟩ := Ring.kept_of_context same
      rw [fn]
      exact (s.closeFn_closed f).ring hx
    · have kept : (s.closeFn f).ring r = some x := by
        rw [State.ring, State.closeFn_rings]
        exact Table.find_keep hx (by simpa using other)
      obtain ⟨y, hy, -⟩ := logged.after kept
      exact Option.isSome_iff_exists.2 ⟨y, hy⟩
    · intro e he
      simp only [List.mem_cons, List.not_mem_nil, or_false] at he
      rcases he with rfl | rfl
      · refine (State.logReg_get (f := Reg.HIF_FN_STATUS_OPENED f) _ _ _ _ _ _ (Reg.HIF_FN_STATUS_OPENED 0) rfl).trans ?_
        refine (State.get_set_other _ _ _ _ ?_).trans (s.closeFn_closed f).opened
        exact show (Reg.HIF_FN_STATUS_OPENED 0).id % 1024 ≠ (Reg.HIF_FN_LAST_STATUS 0).id % 1024 by decide
      · refine (State.logReg_get (f := Reg.HIF_FN_LAST_STATUS f) _ _ _ _ _ _ (Reg.HIF_FN_LAST_STATUS 0) rfl).trans ?_
        exact State.get_set_same _ _ _
    · rw [State.fn, State.logReg_fns]
      exact s.closeFn_epoch f
  · have e : exec c s = .next (s.closeFn f) := by
      rcases hc with rfl | rfl <;> exact congrArg Host.Outcome.next (s.flr_vf hf)
    exact ⟨_, e, fun r x hx => (s.closeFn_closed f).ring hx, (s.closeFn_closed f).opened, s.closeFn_epoch f⟩
  · obtain ⟨u, e⟩ : ∃ u : State, exec c s = .next (u.flr 0) := by
      rcases hc with rfl | rfl | rfl
      · exact ⟨s, rfl⟩
      · exact ⟨s, rfl⟩
      · exact ⟨_, rfl⟩
    obtain ⟨rings, vfEnable, opened, pens⟩ := u.flr_pf
    exact ⟨_, e, rings, vfEnable, opened, pens⟩

end Sys2Proof.Machine
end

/-! # Proofs: rows decoded (R275, R280) -/

section
namespace Sys2Proof.Machine

-- One theorem at a time: the text is compiled as one, and more threads would not fit in memory.
set_option Elab.async false

open Sys2Proof

/-- The state of `Tests.witness_DecodedRowsAreOpen`, with a value in the fence counter of slot 0 that its 16 bits do not hold. -/
def fenceOverfull : State :=
  let s := Tests.on [(Reg.DEC_BS_JOINED 0, 1), (bank 1 (Reg.ENC_BS_FORMAT_KIND 0), 1), (bank 1 (Reg.ENC_BS_SIZE_WIDTH 0), 128),
    (bank 1 (Reg.ENC_BS_SIZE_HEIGHT 0), 128), (bank 1 (Reg.ENC_BS_SP_W 0), 1), (bank 1 (Reg.ENC_BS_SP_H 0), 1)]
  { s with
    regs := Table.put s.regs (fieldKey (Reg.DEC_BS_FENCE_CNT 0)) 65536
    slots := [(0, { Slot.reset with dec := { Dec.reset with pics := [Tests.decPic] } })] }

/-- A row decoded with no error and no stray access. -/
def cleanRow : RowResult := { errored := false, fenced := false, strays := 0, xtile := false, unchanged := false }

theorem fenceOverfull_open : (fenceOverfull.dec 0).pics.find? (fun q => fenceOverfull.rowOpen 0 q 0 0) = some Tests.decPic := by
  decide +kernel

theorem fenceOverfull_nodup : ((fenceOverfull.dec 0).pics.map (fun q => q.id)).Nodup := by decide +kernel

theorem decPic_whole : ∀ d, Tests.decPic.slice 0 0 = some d → d.concealed = false := by
  intro d hd
  obtain rfl := Option.some.inj hd
  rfl

/-- A row without strays leaves the counter as it stands. -/
theorem fenceOverfull_kept : Tests.after (.decodeRowDone 0 0 0 cleanRow) fenceOverfull (Reg.DEC_BS_FENCE_CNT 0) = some 65536 := by
  decide +kernel

/-- The counter is bounded where it counts, not where it stands. -/
theorem fenceOverfull_bounded :
    min (fenceOverfull.get (Reg.DEC_BS_FENCE_CNT 0) + cleanRow.strays) (fieldMax (Reg.DEC_BS_FENCE_CNT 0)) = 65535 := by decide +kernel

/-- Refutes O37: a clean row without strays counts nothing, so a fence counter that stores 65,536 keeps it, while the clause of the clean
row takes the smaller of it and the counter's largest value 65,535. The statement ranges over every state, this one included, though
writes and counts store no value beyond a field's width. -/
theorem not_slicesDecodeInputsAndRowsAct : ¬ Obligations.SlicesDecodeInputsAndRowsAct := by
  rintro ⟨-, acts⟩
  obtain ⟨-, -, rows, -⟩ := acts fenceOverfull
  obtain ⟨-, -, clean⟩ := rows 0 0 0 cleanRow Tests.decPic fenceOverfull_open fenceOverfull_nodup
  obtain ⟨t, ht, -, counted⟩ := clean decPic_whole rfl rfl
  have kept : t.get (Reg.DEC_BS_FENCE_CNT 0) = 65536 := by
    have h := fenceOverfull_kept
    rw [Tests.after, ht] at h
    exact Option.some.inj h
  have bounded : t.get (Reg.DEC_BS_FENCE_CNT 0) = 65535 := counted.trans fenceOverfull_bounded
  omega

end Sys2Proof.Machine
end

/-! # Proofs: commands of one unit keep the others' registers (R109, R203, R325, R352, R360, R383, R384, R421)

A command's frame by name holds the parts and the outputs; what is left to say is that its register fields are those of its own unit. -/

section
namespace Sys2Proof.Machine

-- One theorem at a time: the text is compiled as one, and more threads would not fit in memory.
set_option Elab.async false

open Sys2Proof

/-! ## Register fields kept, one by one -/

/-- No register field changes but the listed ones and those of the log. -/
structure State.RegsAt (l : List Field) (s t : State) : Prop where
  regs : ∀ f : Field, fieldKey f ∉ l.map fieldKey → f.id ∉ loggedFields → f.id < 1024 → t.get f = s.get f

theorem State.RegsAt.refl (l : List Field) (s : State) : s.RegsAt l s := ⟨fun _ _ _ _ => rfl⟩

section
variable {l : List Field} {s t : State}

/-- A change that keeps every unlisted field but those of the log. -/
theorem State.RegsAt.then {u : State} (h : s.RegsAt l t)
    (k : ∀ f : Field, fieldKey f ∉ l.map fieldKey → f.id ∉ loggedFields → f.id < 1024 → u.get f = t.get f) : s.RegsAt l u :=
  ⟨fun f hf hu hs => (k f hf hu hs).trans (h.regs f hf hu hs)⟩

/-- A change of parts alone. -/
theorem State.RegsAt.parts {u : State} (h : s.RegsAt l t) (same : ∀ f, u.get f = t.get f) : s.RegsAt l u :=
  h.then fun f _ _ _ => same f

theorem State.RegsAt.dram (d : Dram) (h : s.RegsAt l t) : s.RegsAt l { t with dram := d } := h.parts fun _ => rfl

theorem State.RegsAt.scans (x : Table Scan) (h : s.RegsAt l t) : s.RegsAt l { t with scans := x } := h.parts fun _ => rfl

theorem State.RegsAt.set {f : Field} (hf : f ∈ l) (v : Nat) (h : s.RegsAt l t) : s.RegsAt l (t.set f v) :=
  h.then fun _ hg _ _ => State.get_set_key _ _ _ _ fun key => hg (key ▸ List.mem_map_of_mem hf)

theorem State.RegsAt.setAll {fs : List (Field × Nat)} (hf : ∀ e ∈ fs, e.1 ∈ l) (h : s.RegsAt l t) : s.RegsAt l (t.setAll fs) := by
  induction fs generalizing t with
  | nil => exact h
  | cons e fs ih => exact ih (fun x hx => hf x (List.mem_cons_of_mem _ hx)) (h.set (hf e List.mem_cons_self) e.2)

theorem State.RegsAt.copyBank {fs : List Field} {src dst : Nat} (hf : ∀ f ∈ fs, bank dst f ∈ l) (h : s.RegsAt l t) :
    s.RegsAt l (t.copyBank src dst fs) := by
  induction fs generalizing t with
  | nil => exact h
  | cons f fs ih => exact ih (fun x hx => hf x (List.mem_cons_of_mem _ hx)) (h.set (hf f List.mem_cons_self) _)

theorem State.RegsAt.logReg (w : Writer) (off : Nat) (c : Code) (old new : Nat) (h : s.RegsAt l t) :
    s.RegsAt l (t.logReg w off c old new) :=
  h.then fun f _ hu hs => (t.logReg_only w off c old new).regs f hu hs

theorem State.RegsAt.complete (k : Ticket) (c : Code) (r : Nat) (h : s.RegsAt l t) : s.RegsAt l (t.complete k c r) :=
  h.then fun f _ hu hs => ((State.complete_keeps (t := k) (status := c) (result := r) (.refl _ t) (within_self _)).only_of_within
    (m := (loggedFields, loggedParts)) (by decide +kernel)).regs f hu hs

theorem State.RegsAt.ite {p : Prop} [Decidable p] {u : State} (h : s.RegsAt l t) (k : s.RegsAt l u) :
    s.RegsAt l (if p then t else u) := by
  split <;> assumption

theorem State.RegsAt.byWriter {w : Writer} {off : Nat} {g : State → State} (h : s.RegsAt l (g s)) : s.RegsAt l (s.byWriter w off g) :=
  .ite h (.refl l s)

theorem State.RegsAt.installMeter {q : Nat} (hq : ∀ f ∈ meterFields q, bank 1 f ∈ l) (h : s.RegsAt l t) :
    s.RegsAt l (t.installMeter q) :=
  (h.copyBank hq).parts (State.setMeter_get _ _ _)

theorem State.RegsAt.installMeters {qs : List Nat} (hq : ∀ q ∈ qs, ∀ f ∈ meterFields q, bank 1 f ∈ l) (h : s.RegsAt l t) :
    s.RegsAt l (qs.foldl (fun u q => u.installMeter q) t) := by
  induction qs generalizing t with
  | nil => exact h
  | cons q qs ih =>
    rw [List.forall_mem_cons] at hq
    rw [List.foldl_cons]
    exact ih hq.2 (h.installMeter hq.1)

/-- The meters of a port that wait for its frame boundary come into force; the fields of the others stay. -/
theorem State.RegsAt.settleMeters {i : Nat} (hq : ∀ q ∈ (t.port i).turning, ∀ f ∈ meterFields q, bank 1 f ∈ l) (h : s.RegsAt l t) :
    s.RegsAt l (t.settleMeters i) := by
  unfold State.settleMeters
  dsimp only
  split
  · exact h
  · exact .installMeters hq (h.parts (t.setPort_get i _))

/-- The frame of a command, with its register fields one by one. -/
theorem State.onlyAt_of_regs {c : Instr} {fields : List Nat} {named parts : List Part} (e : exec c s = .next t)
    (names : mayChange c = some (fields, named)) (hp : ∀ p ∈ named, p ∈ parts) (regs : s.RegsAt l t) : s.OnlyAt l parts t := by
  obtain ⟨queue, sent, -, rest⟩ := (exec_framed e).only names
  exact ⟨queue, sent, regs.regs, fun p outside => rest p (mt (hp p) outside)⟩

end

/-! ## The commands -/

/-- The parts that the log entry of a write may change. -/
def loggedWriteParts : List Part := loggedParts ++ [.mirrorQ]

section
variable {w : Writer} {s t : State}

theorem penOwnerWrite_onlyAt {p : Fin 256} {a : Bool} {f : Fin 32} (e : exec (.penOwnerWrite w p a f) s = .next t) :
    s.OnlyAt [Reg.HIF_PEN_OWNER_ASSIGNED p.val, Reg.HIF_PEN_OWNER_FUNCTION p.val, Reg.HIF_SETUP_STATUS_LAST_STATUS]
      loggedWriteParts t := by
  refine State.onlyAt_of_regs e rfl (by decide) ?_
  obtain rfl := Host.Outcome.next.inj e
  refine State.RegsAt.byWriter ?_
  split
  · exact .logReg _ _ _ _ _ (.set (by simp) _ (.refl _ s))
  · exact .logReg _ _ _ _ _ (.setAll (by simp) (.refl _ s))

theorem laneMacWrite_onlyAt {i : Fin 16} {high : Bool} {v : BitVec 32} (e : exec (.laneMacWrite w i high v) s = .next t) :
    s.OnlyAt [Reg.LANE_MAC_LO i.val, Reg.LANE_MAC_HI i.val, Reg.LANE_STATUS_LAST_STATUS i.val] loggedWriteParts t := by
  refine State.onlyAt_of_regs e rfl (by decide) ?_
  obtain rfl := Host.Outcome.next.inj e
  refine State.RegsAt.byWriter ?_
  unfold State.laneMacWrite
  dsimp only
  split
  · exact .logReg _ _ _ _ _ (.set (by simp) _ (.refl _ s))
  · exact .logReg _ _ _ _ _ (.set (by cases high <;> simp) _ (.refl _ s))

/-- The fields that a write of a meter's control may change: its own, and those in force of the meters that wait with it. -/
def State.trnFields (s : State) (q : Nat) : List Field :=
  [Reg.TRN_Q_MODE q, Reg.TRN_Q_OVH q, Reg.TRN_Q_LAST_STATUS q] ++ (meterFields q).map (bank 2) ++
    (q :: (s.port (q / 8)).turning).flatMap (fun x => (meterFields x).map (bank 1))

theorem State.trnWrite_regs (s : State) (q mode ovh : Nat) : s.RegsAt (s.trnFields q) (s.trnWrite q mode ovh) := by
  have waiting {x : Nat} (hx : x ∈ q :: (s.port (q / 8)).turning) : ∀ f ∈ meterFields x, bank 1 f ∈ s.trnFields q := fun f hf =>
    List.mem_append_right _ (List.mem_flatMap.2 ⟨x, hx, List.mem_map_of_mem hf⟩)
  unfold State.trnWrite
  dsimp only
  split
  · refine State.RegsAt.settleMeters (fun x hx => waiting ?_) ?_
    · rw [State.port_setPort, List.mem_cons] at hx
      refine List.mem_cons.2 (hx.imp_right fun kept => ?_)
      rw [State.port, State.copyBank_egr] at kept
      exact List.mem_of_mem_filter kept
    · refine State.RegsAt.parts (.copyBank (fun f hf => ?_) (.setAll ?_ (.refl _ s))) (State.setPort_get _ _ _)
      · exact List.mem_append_left _ (List.mem_append_right _ (List.mem_map_of_mem hf))
      · simp [State.trnFields]
  · exact .set (by simp [State.trnFields]) _ (.refl _ s)

theorem trnCtrlWrite_onlyAt {q : Fin 128} {m : Fin 4} {o : Fin 64} (e : exec (.trnCtrlWrite w q m o) s = .next t) :
    s.OnlyAt (s.trnFields q) (loggedWriteParts ++ [.egr]) t := by
  refine State.onlyAt_of_regs e rfl (by decide) ?_
  obtain rfl := Host.Outcome.next.inj e
  exact .byWriter (.logReg _ _ _ _ _ (s.trnWrite_regs q m o))

theorem safAreaWrite_onlyAt {n : Fin 4} {v : BitVec 27} (e : exec (.safAreaWrite w n v) s = .next t) :
    s.OnlyAt [Reg.SAF_SLOT_AREA_BASE n.val, Reg.SAF_SLOT_STATE_LAST_STATUS n.val] loggedWriteParts t := by
  refine State.onlyAt_of_regs e rfl (by decide) ?_
  obtain rfl := Host.Outcome.next.inj e
  refine State.RegsAt.byWriter ?_
  unfold State.safAreaWrite
  dsimp only
  split
  · exact .logReg _ _ _ _ _ (.setAll (by simp) (.refl _ s))
  · exact .logReg _ _ _ _ _ (.set (by simp) _ (.refl _ s))

theorem todSecWrite_onlyAt {d : Fin 2} {v : BitVec 32} (e : exec (.todSecWrite w d v) s = .next t) :
    s.OnlyAt [Reg.TIM_DOM_TOD_SEC d.val] (loggedWriteParts ++ [.tim]) t := by
  refine State.onlyAt_of_regs e rfl (by decide) ?_
  obtain rfl := Host.Outcome.next.inj e
  exact .byWriter (.logReg _ _ _ _ _ (.parts (.refl _ s) (State.setDomain_get _ _ _)))

/-- The fields of a channel's training operation. -/
def trainingFields (c : Nat) : List Field :=
  [Reg.DMC_TRN_BUSY c, Reg.DMC_TRN_OP c, Reg.DMC_TRN_PATTERN c, Reg.DMC_TRN_RANK c, Reg.DMC_TRN_LEN c, Reg.DMC_TRN_LAST_STATUS c]

theorem State.helperGo_regs (s : State) (w : Writer) (c op v : Nat) : s.RegsAt (trainingFields c) (s.helperGo w c op v) := by
  unfold State.helperGo
  refine State.RegsAt.byWriter ?_
  refine State.RegsAt.logReg _ _ _ _ _ (.set (by simp [trainingFields]) _ (.ite (.refl _ s) ?_))
  refine State.RegsAt.parts (.setAll ?_ (.dram _ (.refl _ s))) (State.emit_get _ _)
  simp [trainingFields]

theorem training_onlyAt {c : Fin 8} {v : BitVec 32} {x : Instr}
    (hx : x ∈ [Instr.trnWrite w c v, Instr.trnReadCompare w c v, Instr.trnWriteCompare w c v]) (e : exec x s = .next t) :
    s.OnlyAt (trainingFields c) (loggedWriteParts ++ [.dram]) t := by
  have regs (op : Nat) (e : s.helperGo w c op v.toNat = t) : s.RegsAt (trainingFields c) t :=
    e ▸ s.helperGo_regs w c op v.toNat
  simp only [List.mem_cons, List.not_mem_nil, or_false] at hx
  rcases hx with rfl | rfl | rfl
  · exact State.onlyAt_of_regs e rfl (by decide) (regs 0 (Host.Outcome.next.inj e))
  · exact State.onlyAt_of_regs e rfl (by decide) (regs 1 (Host.Outcome.next.inj e))
  · exact State.onlyAt_of_regs e rfl (by decide) (regs 2 (Host.Outcome.next.inj e))

/-- The fields of a channel that the end of its training operation may change. -/
def trainedFields (c : Nat) : List Field := [Reg.DMC_TRN_BUSY c, Reg.DMC_TRN_LAST_STATUS c] ++ (List.range 20).map (Reg.DMC_TRN_ERR c)

theorem State.RegsAt.countErr {c : Nat} {u : State} (lane : Fin 80) (n : Nat) (h : s.RegsAt (trainedFields c) u) :
    s.RegsAt (trainedFields c) (u.countErr c lane n) :=
  h.set (List.mem_append_right _ (List.mem_map_of_mem (List.mem_range.2 (by omega)))) _

theorem trnOpDone_onlyAt {c : Fin 8} {errors : List (Fin 80 × Fin 65536)} (e : exec (.trnOpDone c errors) s = .next t) :
    s.OnlyAt (trainedFields c) [.dram] t := by
  refine State.onlyAt_of_regs e rfl (by decide) ?_
  obtain rfl := Host.Outcome.next.inj e
  have counted (u : State) (hu : s.RegsAt (trainedFields c) u) :
      s.RegsAt (trainedFields c) (errors.foldl (fun t e => t.countErr c e.1 e.2) u) := by
    induction errors generalizing u with
    | nil => exact hu
    | cons x errors ih => exact ih rfl _ (hu.countErr x.1 x.2)
  have ended (d : Dram) : s.RegsAt (trainedFields c)
      (({ s with dram := d } : State).setAll [(Reg.DMC_TRN_BUSY c, 0), (Reg.DMC_TRN_LAST_STATUS c, 0)]) :=
    .setAll (by simp [trainedFields]) (.dram d (.refl _ s))
  split
  · dsimp only
    split
    · exact counted _ (ended _)
    · exact ended _
  · exact .refl _ s

theorem trnDlySet_onlyAt {c : Fin 8} {v : BitVec 32} (e : exec (.trnDlySet w c v) s = .next t) :
    s.OnlyAt [Reg.DMC_TRN_LANE c.val, Reg.DMC_TRN_RD_DLY c.val, Reg.DMC_TRN_WR_DLY c.val, Reg.DMC_TRN_VREF c.val, Reg.DMC_STATUS_LAST_STATUS]
      (loggedWriteParts ++ [.dram]) t := by
  refine State.onlyAt_of_regs e rfl (by decide) ?_
  obtain rfl := Host.Outcome.next.inj e
  refine State.RegsAt.byWriter ?_
  split
  · exact .logReg _ _ _ _ _ (.setAll (by simp) (.dram _ (.refl _ s)))
  · exact .logReg _ _ _ _ _ (.set (by simp) _ (.refl _ s))

theorem modeRegister_onlyAt {c : Fin 8} {a x : BitVec 8} {y : Instr} (hy : y ∈ [Instr.mrWrite w c a x, Instr.mrRead w c a x])
    (e : exec y s = .next t) : s.OnlyAt [Reg.DMC_TRN_MR_ADDR c.val, Reg.DMC_TRN_MR_DATA c.val] loggedWriteParts t := by
  have shown : s.RegsAt [Reg.DMC_TRN_MR_ADDR c.val, Reg.DMC_TRN_MR_DATA c.val]
      (s.setAll [(Reg.DMC_TRN_MR_ADDR c.val, a.toNat), (Reg.DMC_TRN_MR_DATA c.val, x.toNat)]) := .setAll (by simp) (.refl _ s)
  simp only [List.mem_cons, List.not_mem_nil, or_false] at hy
  rcases hy with rfl | rfl
  · refine State.onlyAt_of_regs e rfl (by decide) ?_
    obtain rfl := Host.Outcome.next.inj e
    exact .byWriter (.logReg _ _ _ _ _ (.parts shown (State.emit_get _ _)))
  · refine State.onlyAt_of_regs e rfl (by decide) ?_
    obtain rfl := Host.Outcome.next.inj e
    exact .byWriter (.logReg _ _ _ _ _ shown)

theorem chkCtrlWrite_onlyAt {n : Fin 4} {v : BitVec 32} (e : exec (.chkCtrlWrite w n v) s = .next t) :
    s.OnlyAt [Reg.CHK_MODE n.val, Reg.CHK_REFIN n.val, Reg.CHK_REFOUT n.val, Reg.CHK_ATTACH_KIND n.val, Reg.CHK_ATTACH_INDEX n.val,
      Reg.CHK_WIDTH n.val, Reg.CHK_LAST_STATUS n.val] loggedWriteParts t := by
  refine State.onlyAt_of_regs e rfl (by decide) ?_
  obtain rfl := Host.Outcome.next.inj e
  unfold State.chkWrite
  refine State.RegsAt.byWriter ?_
  refine State.RegsAt.logReg _ _ _ _ _ (.set (by simp) _ (.ite (.refl _ s) (.setAll (by simp) (.refl _ s))))

theorem chkScanDone_onlyAt {n : Fin 4} (e : exec (.chkScanDone n) s = .next t) :
    s.OnlyAt [Reg.CHK_BUSY n.val, Reg.CHK_LAST_STATUS n.val, Reg.CHK_RESULT_LO n.val, Reg.CHK_RESULT_HI n.val] (loggedParts ++ [.scans]) t := by
  refine State.onlyAt_of_regs e rfl (by decide) ?_
  obtain rfl := Host.Outcome.next.inj e
  unfold State.scanDone
  split
  · exact .refl _ s
  · next x hx =>
    have ended : s.RegsAt [Reg.CHK_BUSY n.val, Reg.CHK_LAST_STATUS n.val, Reg.CHK_RESULT_LO n.val, Reg.CHK_RESULT_HI n.val]
        (({ s with scans := Table.del s.scans n } : State).set (Reg.CHK_BUSY n) 0) :=
      .set (by simp) _ (.scans _ (.refl _ s))
    dsimp only
    split
    · exact .complete _ _ _ (.set (by simp) _ ended)
    · exact .complete _ _ _ (.set (by simp) _ (.set (by simp) _ (.set (by simp) _ ended)))

theorem asrcDecision_onlyAt {k : Fin 16} {ppm : BitVec 16} (e : exec (.asrcDecision k ppm) s = .next t) :
    s.OnlyAt [Reg.AUD_IN_RATE_PPM k.val, Reg.AUD_IN_ASRC k.val] (loggedParts ++ [.aud]) t := by
  refine State.onlyAt_of_regs e rfl (by decide) ?_
  obtain rfl := Host.Outcome.next.inj e
  unfold State.asrcDecide
  dsimp only
  split
  · exact .set (by simp) _ (.parts (.set (by simp) _ (.refl _ s)) (State.setAudIn_get _ _ _))
  · exact .refl _ s

end

/-! ## The obligation -/

/-- Settles O59: each command's frame, its register fields named one by one. -/
theorem commandsOfOneUnitKeepTheOthers : Obligations.CommandsOfOneUnitKeepTheOthers := fun _ _ _ =>
  ⟨fun _ _ _ => penOwnerWrite_onlyAt, fun _ _ _ => laneMacWrite_onlyAt, fun _ _ _ => trnCtrlWrite_onlyAt, fun _ _ => safAreaWrite_onlyAt,
    fun _ _ => todSecWrite_onlyAt, fun _ _ _ => training_onlyAt, fun _ _ => trnOpDone_onlyAt, fun _ _ => trnDlySet_onlyAt,
    fun _ _ _ _ => modeRegister_onlyAt, fun _ _ => chkCtrlWrite_onlyAt, fun _ => chkScanDone_onlyAt, fun _ _ => asrcDecision_onlyAt⟩

end Sys2Proof.Machine
end

/-! # Proofs: receivers and the lanes that carry ingest (R144 to R147, R162) -/

section
namespace Sys2Proof.Machine

-- One theorem at a time: the text is compiled as one, and more threads would not fit in memory.
set_option Elab.async false

open Sys2Proof

/-! ## The enable word of a receiver -/

/-- Fields of different names have different keys. -/
theorem keys_nodup {l : List (Field × Nat)} {names : List Nat} (hn : l.map (fun e => e.1.id % 1024) = names)
    (h : names.Nodup := by decide) : (l.map (fun e => fieldKey e.1)).Nodup := by
  subst hn
  exact List.pairwise_map.2 ((List.pairwise_map.1 h).imp fun ne => fieldKey_ne _ _ ne)

/-- What keeps the names of a list keeps what its fields read. -/
theorem Keeps.reads {w : Nat} {s t : State} (k : Keeps w s t) {l : List (Field × Nat)} {names : List Nat}
    (hn : l.map (fun e => e.1.id % 1024) = names) (h : s.Reads l) (hw : ∀ i ∈ names, w.testBit (64 + i) = false := by decide) : t.Reads l :=
  fun e he => (k.regs e.1 (hw _ (hn ▸ List.mem_map_of_mem he))).trans (h e he)

theorem b2n_lt (b : Bool) : b2n b < 2 := by cases b <;> decide

/-- What a write of ING_RXr_CTRL puts into the word. -/
def rxWord (r : Nat) (path1 path0 : Bool) (pt : Nat) (on : Bool) : List (Field × Nat) :=
  [(Reg.ING_RX_PATH1_EN r, b2n path1), (Reg.ING_RX_PATH0_EN r, b2n path0), (Reg.ING_RX_PT r, pt), (Reg.ING_RX_ENABLE r, b2n on)]

/-- The names of the word's fields. -/
def rxNames : List Nat :=
  [Reg.ING_RX_PATH1_EN 0, Reg.ING_RX_PATH0_EN 0, Reg.ING_RX_PT 0, Reg.ING_RX_ENABLE 0].map (fun f => f.id % 1024)

theorem rxWord_names (r : Nat) (path1 path0 : Bool) (pt : Nat) (on : Bool) :
    (rxWord r path1 path0 pt on).map (fun e => e.1.id % 1024) = rxNames := rfl

theorem rxWord_nodup (r : Nat) (path1 path0 : Bool) (pt : Nat) (on : Bool) :
    ((rxWord r path1 path0 pt on).map (fun e => fieldKey e.1)).Nodup :=
  keys_nodup (rxWord_names r path1 path0 pt on)

theorem rxWord_fits (r : Nat) (path1 path0 : Bool) {pt : Nat} (hpt : pt < 2 ^ 7) (on : Bool) :
    ∀ e ∈ rxWord r path1 path0 pt on, e.2 < 2 ^ fieldWidth e.1 := by
  simp only [rxWord, List.forall_mem_cons, List.not_mem_nil, false_implies, implies_true, and_true]
  exact ⟨b2n_lt path1, b2n_lt path0, hpt, b2n_lt on⟩

/-- The groups of paths turned off are left, those of paths turned on are joined, and SIGNAL follows (R145, R152). -/
def State.pathsFollow (s : State) (r : Nat) (was now : List Nat) (on : Bool) : State :=
  ((now.filter (fun p => !(was.contains p))).foldl (fun t p => t.igmpJoin r p)
    ((was.filter (fun p => !(now.contains p))).foldl (fun t p => t.pathOff r p) s)).signalLost r on

/-- The paths' following leaves the enable word and its status. -/
theorem State.pathsFollow_keeps (s : State) (r : Nat) (was now : List Nat) (on : Bool) :
    Keeps 0x70000000fec0a600000000000000000000000000000000000000000400000000000000000000000000000000000001000000000001680000012 s
      (s.pathsFollow r was now on) :=
  State.signalLost_keeps (Keeps.foldl _ _ (Keeps.foldl _ _ (.refl _ _) fun _ _ h => State.pathOff_keeps h) fun _ _ h => State.igmpJoin_keeps h)

/-- The code of a write of the enable word: the checks are those of enabling a disabled receiver. -/
def State.rxCode (s : State) (r : Nat) (enable path1 path0 : Bool) (pt : Nat) : Code :=
  if enable ∧ !(s.on (Reg.ING_RX_ENABLE r)) then s.enableCode r (pathsOf path1 path0) pt else 0

/-- The state after a write of the enable word that leaves the receiver enabled or not. -/
def State.rxWritten (s : State) (r : Nat) (path1 path0 : Bool) (pt : Nat) (on : Bool) : State :=
  (s.setAll (rxWord r path1 path0 pt on)).pathsFollow r (s.rxPaths r) (if on then pathsOf path1 path0 else []) on

theorem State.rxCtrl_on (s : State) (r : Nat) (path1 path0 : Bool) (pt : Nat) :
    s.rxCtrl r true path1 path0 pt =
      ((s.rxWritten r path1 path0 pt (s.rxCode r true path1 path0 pt == 0)).set (Reg.ING_RX_LAST_STATUS r) (s.rxCode r true path1 path0 pt),
        s.rxCode r true path1 path0 pt) := rfl

theorem State.rxCtrl_off (s : State) (r : Nat) (path1 path0 : Bool) (pt : Nat) :
    s.rxCtrl r false path1 path0 pt = ((s.rxWritten r path1 path0 pt false).setRcv r Rx.reset, s.rxCode r false path1 path0 pt) := rfl

/-- After a write the word shows what was written, with ENABLE as the checks left it. -/
theorem State.rxWritten_reads (s : State) (r : Nat) (path1 path0 : Bool) {pt : Nat} (hpt : pt < 2 ^ 7) (on : Bool) :
    (s.rxWritten r path1 path0 pt on).Reads (rxWord r path1 path0 pt on) := by
  refine (State.pathsFollow_keeps _ _ _ _ _).reads (rxWord_names r path1 path0 pt on) fun e he => ?_
  rw [State.setAll_reads (rxWord_nodup _ _ _ _ _) s he, Nat.mod_eq_of_lt (rxWord_fits r path1 path0 hpt on e he)]

/-- A write that keeps or puts the receiver on shows the word and the status, logged or not. -/
theorem State.rxWritten_status_reads (s : State) (r : Nat) (path1 path0 : Bool) {pt : Nat} (hpt : pt < 2 ^ 7) (on : Bool) {c : Code}
    (hc : c < 2 ^ 16) (w : Writer) (off d old new : Nat) :
    (((s.rxWritten r path1 path0 pt on).set (Reg.ING_RX_LAST_STATUS r) c).logReg w off d old new).Reads
      ((Reg.ING_RX_LAST_STATUS r, c) :: rxWord r path1 path0 pt on) := by
  refine (State.logReg_keeps (.refl _ _) (within_self _)).reads (names := (Reg.ING_RX_LAST_STATUS 0).id % 1024 :: rxNames) rfl
    (List.forall_mem_cons.2 ⟨State.get_set_fits hc _, fun e he => ?_⟩)
  rw [State.get_set_other, s.rxWritten_reads r path1 path0 hpt on e he]
  exact (by decide : ∀ i ∈ rxNames, i ≠ (Reg.ING_RX_LAST_STATUS 0).id % 1024) _
    (rxWord_names r path1 path0 pt on ▸ List.mem_map_of_mem he)

/-! ## The write of the word by a command -/

/-- A command that reaches the word does what `rxCtrl` does, then logs it. -/
theorem State.rxCtrlWrite_reached {s : State} {w : Writer} {r : Nat} (h : s.mayWrite w (Reg.ING_RX_ENABLE r).off = true)
    (enable path1 path0 : Bool) (pt : Nat) :
    ∃ old new, s.rxCtrlWrite w r enable path1 path0 pt = (s.rxCtrl r enable path1 path0 pt).1.logReg w (Reg.ING_RX_ENABLE r).off
      (s.rxCtrl r enable path1 path0 pt).2 old new :=
  ⟨_, _, State.byWriter_reached h _⟩

/-- A write with ENABLE 1 shows its word, on where the code is 0, and the code. -/
theorem State.rxCtrlWrite_on_reads {s : State} {w : Writer} {r : Nat} (h : s.mayWrite w (Reg.ING_RX_ENABLE r).off = true)
    (path1 path0 : Bool) {pt : Nat} (hpt : pt < 2 ^ 7) {c : Code} (hc : s.rxCode r true path1 path0 pt = c) (fits : c < 2 ^ 16) :
    (s.rxCtrlWrite w r true path1 path0 pt).Reads ((Reg.ING_RX_LAST_STATUS r, c) :: rxWord r path1 path0 pt (c == 0)) := by
  obtain ⟨old, new, written⟩ := State.rxCtrlWrite_reached h true path1 path0 pt
  rw [written, State.rxCtrl_on, hc]
  exact State.rxWritten_status_reads s r path1 path0 hpt (c == 0) fits w _ _ old new

/-- A write with ENABLE 0 disables the receiver, which forgets what it received. -/
theorem State.rxCtrlWrite_off {s : State} {w : Writer} {r : Nat} (h : s.mayWrite w (Reg.ING_RX_ENABLE r).off = true)
    (path1 path0 : Bool) {pt : Nat} (hpt : pt < 2 ^ 7) :
    (s.rxCtrlWrite w r false path1 path0 pt).rcv r = Rx.reset ∧ (s.rxCtrlWrite w r false path1 path0 pt).get (Reg.ING_RX_ENABLE r) = 0 := by
  obtain ⟨old, new, written⟩ := State.rxCtrlWrite_reached h false path1 path0 pt
  rw [written, State.rxCtrl_off]
  constructor
  · unfold State.rcv
    rw [(State.logReg_keeps (.refl _ _) (within_self _)).rxKept rfl]
    exact State.rcv_setRcv _ _ _
  · rw [(State.logReg_keeps (.refl _ _) (within_self _)).get_like (f := Reg.ING_RX_ENABLE r) (Reg.ING_RX_ENABLE 0) rfl rfl,
      State.setRcv_get]
    exact s.rxWritten_reads r path1 path0 hpt false (Reg.ING_RX_ENABLE r, b2n false) (by simp [rxWord])

/-- The names of the lane mask and its status, which no log entry writes. -/
def laneMaskNames : List Nat := [Reg.ING_CTRL_LANE_MASK, Reg.ING_CTRL_LAST_STATUS].map Field.id

/-- Settles O29. A write of a receiver's word does what `rxCtrl` says and is logged; the paths' following and the log leave the word, so it
reads as written (R144 to R147). A lane mask is its own field beside the status (R144). -/
theorem receiversAndIngestLanesAreChecked : Obligations.ReceiversAndIngestLanesAreChecked := by
  unfold Obligations.ReceiversAndIngestLanesAreChecked
  refine ⟨fun w r path1 path0 pt s hw => ⟨fun off ok => ?_, fun c off bad ne fits => ?_, ?_, fun on => ?_⟩,
    fun w mask s hw => ⟨fun few => ?_, fun many => ?_⟩⟩
  · have hc : s.rxCode r true path1 path0 pt.toNat = 0 := by simp [State.rxCode, off, ok]
    refine ⟨_, rfl, fun e he => State.rxCtrlWrite_on_reads hw path1 path0 pt.isLt hc (by decide) e ?_⟩
    simpa [rxWord, b2n, or_comm, or_left_comm, or_assoc] using he
  · have hc : s.rxCode r true path1 path0 pt.toNat = c := by simp [State.rxCode, off, bad]
    refine ⟨_, rfl, fun e he => State.rxCtrlWrite_on_reads hw path1 path0 pt.isLt hc fits e ?_⟩
    simp only [List.mem_cons, List.not_mem_nil, or_false] at he
    rcases he with rfl | rfl <;> simp [rxWord, b2n, ne]
  · exact ⟨_, rfl, State.rxCtrlWrite_off hw path1 path0 pt.isLt⟩
  · have hc : s.rxCode r true path1 path0 pt.toNat = 0 := by simp [State.rxCode, on]
    refine ⟨_, rfl, fun e he => State.rxCtrlWrite_on_reads hw path1 path0 pt.isLt hc (by decide) e ?_⟩
    simp only [List.mem_cons, List.not_mem_nil, or_false] at he
    rcases he with rfl | rfl | rfl <;> simp [rxWord, b2n]
  · refine ⟨_, congrArg Host.Outcome.next ((State.byWriter_reached hw _).trans (if_pos few)), ?_⟩
    exact State.setAll_logReg_reads (l := [(Reg.ING_CTRL_LANE_MASK, mask.toNat), (Reg.ING_CTRL_LAST_STATUS, 0)])
      (keys_nodup (names := laneMaskNames) rfl) (by decide : ∀ i ∈ laneMaskNames, i ∉ loggedFields ∧ i < 1024)
      (List.forall_mem_cons.2 ⟨mask.isLt, List.forall_mem_singleton.2 (by decide)⟩) s w _ _ _ _
  · refine ⟨_, congrArg Host.Outcome.next ((State.byWriter_reached hw _).trans (if_neg (by omega))), ?_⟩
    refine List.forall_mem_cons.2 ⟨?_, List.forall_mem_singleton.2 ?_⟩
    · exact (State.logReg_get _ w _ _ _ _ Reg.ING_CTRL_LANE_MASK rfl).trans (State.get_set_other _ _ _ _ (by decide))
    · exact (State.logReg_get _ w _ _ _ _ Reg.ING_CTRL_LAST_STATUS rfl).trans (State.get_set_fits (by decide) _)

end Sys2Proof.Machine
end

/-! # Proofs: packets of a receiver (R143, R150 to R154, R158) -/

section
namespace Sys2Proof.Machine

-- One theorem at a time: the text is compiled as one, and more threads would not fit in memory.
set_option Elab.async false

open Sys2Proof

/-! ## What the checks and the placement of packets read -/

/-- The names of the fields by which packets are checked and placed: the receiver's payload type, format, buffers and closing time, the
attachments of check units, the Safety Net areas, and the active domain. -/
def ingestNames : List Nat :=
  [Reg.ING_RX_PT 0, Reg.ING_RX_FMT_SAMPLING 0, Reg.ING_RX_FMT_DEPTH 0, Reg.ING_RX_FMT_RATE 0, Reg.ING_RX_SIZE_WIDTH 0,
    Reg.ING_RX_SIZE_HEIGHT 0, Reg.ING_RX_FS_BASE 0, Reg.ING_RX_LATE_US 0, Reg.ING_RX_NFMT_ANC_LOG2 0, Reg.CHK_MODE 0,
    Reg.CHK_ATTACH_KIND 0, Reg.CHK_ATTACH_INDEX 0, Reg.SAF_SLOT_AREA_BASE 0, Reg.TIM_CTRL_ACTIVE, Reg.TIM_DOM_ENABLE 0].map
    (fun f => f.id % 1024)

/-- What packets are checked and placed by is the same in two states. -/
structure State.SameIngest (s t : State) : Prop where
  regs : ∀ f : Field, f.id % 1024 ∈ ingestNames → t.get f = s.get f
  tim : t.tim = s.tim
  lc : t.lc = s.lc

theorem State.SameIngest.refl (s : State) : s.SameIngest s := ⟨fun _ _ => rfl, rfl, rfl⟩

theorem State.SameIngest.trans {s t u : State} (h : s.SameIngest t) (k : t.SameIngest u) : s.SameIngest u :=
  ⟨fun f hf => (k.regs f hf).trans (h.regs f hf), k.tim.trans h.tim, k.lc.trans h.lc⟩

theorem Keeps.sameIngest {w : Nat} {s t : State} (k : Keeps w s t)
    (hr : ∀ i ∈ ingestNames, w.testBit (64 + i) = false := by decide) (ht : w.testBit 3 = false := by decide)
    (hl : w.testBit 2 = false := by decide) : s.SameIngest t :=
  ⟨fun f hf => k.regs f (hr _ hf), k.timKept ht, k.lcKept hl⟩

namespace State.SameIngest

variable {s t : State} (h : s.SameIngest t)
include h

/-- A field of one of the names, told by a copy of it. -/
theorem get {f : Field} (g : Field) (hf : f.id = g.id) (hg : g.id % 1024 ∈ ingestNames := by decide) : t.get f = s.get f :=
  h.regs f (hf ▸ hg)

theorem badHead (r : Nat) (x : RxHead) : t.badHead r x = s.badHead r x := by
  simp only [State.badHead, h.get (f := Reg.ING_RX_PT r) (Reg.ING_RX_PT 0) rfl]

theorem checkUnit (mode kind index : Nat) : t.checkUnit mode kind index = s.checkUnit mode kind index := by
  simp only [State.checkUnit, fun c => h.get (f := Reg.CHK_MODE c) (Reg.CHK_MODE 0) rfl,
    fun c => h.get (f := Reg.CHK_ATTACH_KIND c) (Reg.CHK_ATTACH_KIND 0) rfl,
    fun c => h.get (f := Reg.CHK_ATTACH_INDEX c) (Reg.CHK_ATTACH_INDEX 0) rfl]

theorem activeDom : t.activeDom = s.activeDom := h.get Reg.TIM_CTRL_ACTIVE rfl

theorem activeMap : t.activeMap = s.activeMap := by
  unfold State.activeMap State.domain
  rw [h.activeDom, h.tim]

theorem activeDt : t.activeDt = s.activeDt := by
  unfold State.activeDt State.domEnabled State.on
  rw [h.activeDom, h.activeMap, h.lc, h.get (f := Reg.TIM_DOM_ENABLE s.activeDom) (Reg.TIM_DOM_ENABLE 0) rfl]

theorem timeError (cap : Rat) : t.timeError cap = s.timeError cap := by
  simp only [State.timeError, h.activeDt]

theorem storeBase (r : Nat) : (t.storeArea r).base = (s.storeArea r).base := by
  simp only [State.storeArea, h.get (f := Reg.ING_RX_FS_BASE r) (Reg.ING_RX_FS_BASE 0) rfl]

theorem rowAddr (r b q l o : Nat) : t.rowAddr r b q l o = s.rowAddr r b q l o := by
  simp only [State.rowAddr, h.storeBase, h.get (f := Reg.ING_RX_SIZE_WIDTH r) (Reg.ING_RX_SIZE_WIDTH 0) rfl,
    h.get (f := Reg.ING_RX_SIZE_HEIGHT r) (Reg.ING_RX_SIZE_HEIGHT 0) rfl,
    h.get (f := Reg.ING_RX_FMT_SAMPLING r) (Reg.ING_RX_FMT_SAMPLING 0) rfl,
    h.get (f := Reg.ING_RX_FMT_DEPTH r) (Reg.ING_RX_FMT_DEPTH 0) rfl]

theorem safAreaMeets (a len : Nat) : t.safAreaMeets a len = s.safAreaMeets a len := by
  simp only [State.safAreaMeets, State.safArea, fun n => h.get (f := Reg.SAF_SLOT_AREA_BASE n) (Reg.SAF_SLOT_AREA_BASE 0) rfl]

end State.SameIngest

/-! ## Writes of a device's engines (R204) -/

theorem State.deviceStore_free {s : State} {a : Nat} {l : List Byte} (h : s.safAreaMeets a l.length = none) :
    s.deviceStore a l = s.store a l := by
  unfold State.deviceStore
  rw [h]

/-- A write leaves every byte beside it, dropped or not. -/
theorem State.deviceStore_beside (s : State) {a : Nat} {l : List Byte} {y : Nat} (h : y < a ∨ a + l.length ≤ y) :
    Memory.read (s.deviceStore a l).mem y = Memory.read s.mem y := by
  unfold State.deviceStore
  split
  · rw [(State.dropProtected_keeps (.refl _ _) (within_self _)).memKept rfl]
  · exact Memory.read_writeAll_outside l s.mem a y h

theorem State.deviceStore_sameIngest (s : State) (a : Nat) (l : List Byte) : s.SameIngest (s.deviceStore a l) :=
  (State.deviceStore_keeps (.refl _ _) (within_self _)).sameIngest

/-! ## The samples of a row (R153, R154) -/

/-- The writes of a row: an address and its bytes for each plane. -/
def State.rowWrites (s : State) (r b : Nat) (row : VideoRow) : List (Nat × List Byte) :=
  (rowPlanes (s.get (Reg.ING_RX_FMT_SAMPLING r)) row).map (fun e =>
    (s.rowAddr r b e.1 row.line.toNat row.off.toNat, (e.2.take row.len.toNat).flatMap (sampleBytes (s.get (Reg.ING_RX_FMT_DEPTH r)))))

theorem State.SameIngest.rowWrites {s t : State} (h : s.SameIngest t) (r b : Nat) (row : VideoRow) :
    t.rowWrites r b row = s.rowWrites r b row := by
  simp only [State.rowWrites, h.rowAddr, h.get (f := Reg.ING_RX_FMT_SAMPLING r) (Reg.ING_RX_FMT_SAMPLING 0) rfl,
    h.get (f := Reg.ING_RX_FMT_DEPTH r) (Reg.ING_RX_FMT_DEPTH 0) rfl]

/-- Writes of the engines, in order. -/
def State.deviceStores (s : State) (l : List (Nat × List Byte)) : State := l.foldl (fun t e => t.deviceStore e.1 e.2) s

theorem State.deviceStores_sameIngest (l : List (Nat × List Byte)) (s : State) : s.SameIngest (s.deviceStores l) := by
  induction l generalizing s with
  | nil => exact .refl s
  | cons e l ih => exact (s.deviceStore_sameIngest e.1 e.2).trans (ih _)

theorem State.deviceStores_rx (l : List (Nat × List Byte)) (s : State) : (s.deviceStores l).rx = s.rx :=
  foldl_same State.rx (fun _ _ => (State.deviceStore_keeps (.refl _ _) (within_self _)).rxKept rfl) l s

theorem State.deviceStores_beside {l : List (Nat × List Byte)} {y : Nat} (h : ∀ e ∈ l, y < e.1 ∨ e.1 + e.2.length ≤ y) (s : State) :
    Memory.read (s.deviceStores l).mem y = Memory.read s.mem y := by
  induction l generalizing s with
  | nil => rfl
  | cons e l ih =>
    exact (ih (fun d hd => h d (List.mem_cons_of_mem _ hd)) _).trans (s.deviceStore_beside (h e List.mem_cons_self))

/-- Writes that touch no Safety Net area are all made. -/
theorem State.deviceStores_mem {l : List (Nat × List Byte)} {s : State} (h : ∀ e ∈ l, s.safAreaMeets e.1 e.2.length = none) :
    (s.deviceStores l).mem = l.foldl (fun (m : List Host.Cell) e => Memory.writeAll m e.1 e.2) s.mem := by
  induction l generalizing s with
  | nil => rfl
  | cons e l ih =>
    have free := State.deviceStore_free (h e List.mem_cons_self)
    refine (ih fun d hd => ?_).trans ?_
    · rw [(s.deviceStore_sameIngest e.1 e.2).safAreaMeets]
      exact h d (List.mem_cons_of_mem _ hd)
    · simp only [free, List.foldl_cons]
      rfl

/-- A row's samples are its writes, made in order. -/
theorem State.storeRow_eq (s : State) (r b : Nat) (row : VideoRow) : s.storeRow r b row = s.deviceStores (s.rowWrites r b row) := by
  unfold State.storeRow State.deviceStores State.rowWrites
  rw [List.foldl_map]
  refine (List.foldl_rel (r := fun t u => t = u ∧ s.SameIngest t) ⟨rfl, .refl s⟩ ?_).1
  rintro e _ t _ ⟨rfl, h⟩
  rw [h.rowAddr, h.get (f := Reg.ING_RX_FMT_DEPTH r) (Reg.ING_RX_FMT_DEPTH 0) rfl]
  exact ⟨rfl, h.trans (t.deviceStore_sameIngest _ _)⟩

/-- Rows are stored as the writes that a state with the same format and places makes of them. -/
theorem State.storeRows_eq {s t : State} (h : s.SameIngest t) (r b : Nat) (rows : List VideoRow) :
    rows.foldl (fun (t : State) row => t.storeRow r b row) t = t.deviceStores (rows.flatMap (s.rowWrites r b)) := by
  induction rows generalizing t with
  | nil => rfl
  | cons row rows ih =>
    rw [List.foldl_cons, State.storeRow_eq, h.rowWrites, ih (h.trans (State.deviceStores_sameIngest _ _)), List.flatMap_cons]
    exact (List.foldl_append ..).symm

/-! ## A packet seen on a path (R152) -/

/-- A law of `Keeps` for the UP bit of a path. -/
theorem Keeps.pathUp {w : Nat} {s t : State} (k : Keeps w s t) (r p : Nat)
    (h : ∀ i ∈ [Reg.ING_RX_PATH0_UP 0, Reg.ING_RX_PATH1_UP 0].map Field.id, w.testBit (64 + i % 1024) = false := by decide) :
    t.get (pathUp r p) = s.get (pathUp r p) := by
  unfold Machine.pathUp
  split
  · exact k.regs _ (h _ List.mem_cons_self)
  · exact k.regs _ (h _ (List.mem_cons_of_mem _ List.mem_cons_self))

theorem pathUp_width (r p : Nat) : fieldWidth (pathUp r p) = 1 := by
  unfold pathUp
  split <;> rfl

theorem pathUp_name_ne (r p : Nat) {f : Field} (h : f.id % 1024 ∉ [Reg.ING_RX_PATH0_UP 0, Reg.ING_RX_PATH1_UP 0].map Field.id) :
    (pathUp r p).id % 1024 ≠ f.id % 1024 := by
  unfold pathUp
  split <;> intro e
  · exact h (e ▸ List.mem_cons_self)
  · exact h (e ▸ List.mem_cons_of_mem _ List.mem_cons_self)

theorem State.pathSeen_sameIngest (s : State) (r p : Nat) : s.SameIngest (s.pathSeen r p) :=
  (State.pathSeen_keeps (.refl _ _) (within_self _)).sameIngest

/-- A path comes UP unless it is; one that had been UP before is back. -/
def State.comeUp (s : State) (r p : Nat) (back : Bool) : State :=
  if s.on (pathUp r p) then s
  else
    let t := s.setAll [(pathUp r p, 1), (Reg.ING_RX_SIGNAL r, 1)]
    if back then t.raise 0x0501 objDevice (rxDetail r 0) else t

theorem State.pathSeen_eq (s : State) (r p : Nat) : s.pathSeen r p =
    (s.setRcv r (if p = 0 then { s.rcv r with last0 := some s.lc } else { s.rcv r with last1 := some s.lc })).comeUp r p
      (s.lastSeen r p).isSome := rfl

theorem State.comeUp_rx (s : State) (r p : Nat) (back : Bool) : (s.comeUp r p back).rx = s.rx := by
  unfold State.comeUp
  dsimp only
  split
  · rfl
  · split
    · exact (State.raise_keeps (.refl _ _) (within_self _)).rxKept rfl
    · rfl

theorem State.comeUp_up (s : State) (r p : Nat) (back : Bool) : (s.comeUp r p back).on (pathUp r p) = true := by
  have set : (s.setAll [(pathUp r p, 1), (Reg.ING_RX_SIGNAL r, 1)]).get (pathUp r p) = 1 :=
    (State.get_set_other _ _ _ _ (pathUp_name_ne r p (f := Reg.ING_RX_SIGNAL r)
      (by decide : (Reg.ING_RX_SIGNAL 0).id % 1024 ∉ _))).trans (State.get_set_fits (by rw [pathUp_width]; decide) s)
  unfold State.comeUp
  dsimp only
  split
  · assumption
  · unfold State.on
    split
    · rw [(State.raise_keeps (.refl _ _) (within_self _)).pathUp r p, set]
      rfl
    · rw [set]
      rfl

/-- The path of a packet is UP. -/
theorem State.pathSeen_up (s : State) (r p : Nat) : (s.pathSeen r p).on (pathUp r p) = true := State.comeUp_up _ _ _ _

/-- Of the receiver, a packet seen changes only when its paths last had one. -/
theorem State.pathSeen_rcv (s : State) (r p : Nat) :
    ∃ a b, (s.pathSeen r p).rcv r = { s.rcv r with last0 := a, last1 := b } := by
  have seen : ∀ x back, ((s.setRcv r x).comeUp r p back).rcv r = x := fun x back => by
    unfold State.rcv
    rw [State.comeUp_rx]
    exact State.rcv_setRcv s r x
  rw [State.pathSeen_eq, seen]
  by_cases h : p = 0
  · exact ⟨some s.lc, (s.rcv r).last1, if_pos h⟩
  · exact ⟨(s.rcv r).last0, some s.lc, if_neg h⟩

/-! ## What becomes of a packet (R150, R158) -/

/-- Of the receiver, accepting changes the window and what path 1 gave in this cycle. -/
theorem State.acceptPacket_rcv (s : State) (r p e : Nat) :
    ∃ z, (s.acceptPacket r p e).rcv r = { (s.rcv r).accept e with second := z } := by
  have noted : ∀ y, ((s.setRcv r y).countPkt r p).rcv r = y := fun y => by
    refine Eq.trans ?_ (State.rcv_setRcv s r y)
    unfold State.rcv
    rw [(State.countPkt_keeps (.refl _ _) (within_self _)).rxKept rfl]
  refine Exists.imp (fun z hz => (noted _).trans hz) ?_
  by_cases h : p = 1
  · exact ⟨_, if_pos h⟩
  · exact ⟨(s.rcv r).second, if_neg h⟩

/-- With no unit that strips CRCs on the receiver, a packet goes on. -/
theorem State.checkStrip_none {s : State} {r : Nat} (h : s.checkUnit 2 3 r = none) (crcOk : Bool) : s.checkStrip r crcOk = (s, true) := by
  unfold State.checkStrip
  rw [h]

/-- The packets of a path that no unit strips. -/
structure State.Taken (s : State) (r p : Nat) (x : Flow) : Prop where
  flow : s.takesFlow r p x = true
  unchecked : s.checkUnit 2 3 r = none

theorem State.Taken.strip {s : State} {r p : Nat} {x : Flow} (taken : s.Taken r p x) (crcOk : Bool) :
    (s.pathSeen r p).checkStrip r crcOk = (s.pathSeen r p, true) :=
  State.checkStrip_none (((s.pathSeen_sameIngest r p).checkUnit 2 3 r).trans taken.unchecked) crcOk

section
variable {s : State} {r p : Nat} {h : RxHead} {act : State → State} (taken : s.Taken r p h.flow)
include taken

theorem State.Taken.malformed (bad : s.badHead r h = true) : s.rxPacket r p h act = (s.pathSeen r p).rxMalformed r := by
  simp only [State.rxPacket, taken.flow, taken.strip, (s.pathSeen_sameIngest r p).badHead, bad, if_true, Bool.not_true,
    Bool.false_eq_true, if_false]

/-- A packet that is not malformed is judged by the window as it stands. -/
theorem State.Taken.judged (ok : s.badHead r h = false) :
    let u := s.pathSeen r p
    let e := extendSeq h.width (s.rcv r).newest h.seq
    s.rxPacket r p h act =
      if (s.rcv r).judge e = 1 then u.duplicate r p e
      else if (s.rcv r).judge e = 2 then u.bump (Reg.ING_RX_LATE_CNT r)
      else if h.cap.any s.timeError then u.bump (Reg.ING_RX_TIME_ERR_CNT r)
      else act (u.acceptPacket r p e) := by
  obtain ⟨a, b, seen⟩ := s.pathSeen_rcv r p
  have same := s.pathSeen_sameIngest r p
  simp only [State.rxPacket, taken.flow, taken.strip, same.badHead, ok, if_true, Bool.not_true, Bool.false_eq_true, if_false, seen]
  cases hc : h.cap with
  | none => rfl
  | some c => simp only [same.timeError, Option.any_some]; rfl

end

/-- A malformed packet is counted and nothing of it is stored. -/
theorem State.rxMalformed_counted (s : State) (r : Nat) : s.Counted (s.rxMalformed r) (Reg.ING_RX_FMT_ERR_CNT r) := by
  refine (s.bump_counted (Reg.ING_RX_FMT_ERR_CNT r)).after ?_
  unfold State.rxMalformed
  dsimp only
  split
  · exact (State.raise_keeps (State.logUnit_keeps (Keeps.refl 0x400000000000001800000000000000000000001000000000001e80000002 _))).get_like
      (Reg.ING_RX_FMT_ERR_CNT 0) rfl rfl
  · rfl

end Sys2Proof.Machine
end

/-! # Proofs: packets land or are counted; timeouts, frames and queries (R143, R145, R148, R150 to R158) -/

section
namespace Sys2Proof.Machine

-- One theorem at a time: the text is compiled as one, and more threads would not fit in memory.
set_option Elab.async false

open Sys2Proof

/-! ## Counters of two words -/

/-- A quantity written in two words of 32 bits reads back. -/
theorem State.set64_get64 {lo hi : Field} (hne : lo.id % 1024 ≠ hi.id % 1024) (hl : fieldWidth lo = 32) (hh : fieldWidth hi = 32)
    {v : Nat} (hv : v < 2 ^ 64) (s : State) : (s.set64 lo hi v).get64 lo hi = v := by
  unfold State.get64 State.set64
  rw [State.get_set_other _ _ _ _ hne, State.get_set_same, State.get_set_same, hl, hh]
  omega

/-- A counter of two words counts one event and saturates (R16). -/
theorem State.count64_get64 {lo hi : Field} (hne : lo.id % 1024 ≠ hi.id % 1024) (hl : fieldWidth lo = 32) (hh : fieldWidth hi = 32)
    (s : State) : (s.count64 lo hi 1).get64 lo hi = min (s.get64 lo hi + 1) (2 ^ 64 - 1) :=
  State.set64_get64 hne hl hh (by omega) s

/-- A law of `Keeps` for a counter of two words. -/
theorem Keeps.get64_like {w : Nat} {s t : State} (k : Keeps w s t) {lo hi : Field} (g h : Field) (hl : lo.id = g.id) (hh : hi.id = h.id)
    (hg : w.testBit (64 + g.id % 1024) = false) (hw : w.testBit (64 + h.id % 1024) = false) : t.get64 lo hi = s.get64 lo hi := by
  unfold State.get64
  rw [k.get_like g hl hg, k.get_like h hh hw]

/-! ## Duplicates (R150, R151) -/

/-- The duplicates of a receiver. -/
def State.dups (s : State) (r : Nat) : Nat := s.get64 (Reg.ING_RX_DUP_CNT_LO r) (Reg.ING_RX_DUP_CNT_HI r)

theorem Keeps.dups {w : Nat} {s t : State} (k : Keeps w s t) (r : Nat)
    (hl : w.testBit (64 + (Reg.ING_RX_DUP_CNT_LO 0).id % 1024) = false := by decide)
    (hh : w.testBit (64 + (Reg.ING_RX_DUP_CNT_HI 0).id % 1024) = false := by decide) : t.dups r = s.dups r :=
  k.get64_like (Reg.ING_RX_DUP_CNT_LO 0) (Reg.ING_RX_DUP_CNT_HI 0) rfl rfl hl hh

theorem State.countDup_dups (s : State) (r : Nat) : (s.countDup r).dups r = min (s.dups r + 1) (2 ^ 64 - 1) :=
  State.count64_get64 (lo := Reg.ING_RX_DUP_CNT_LO r) (hi := Reg.ING_RX_DUP_CNT_HI r)
    (by decide : (Reg.ING_RX_DUP_CNT_LO 0).id % 1024 ≠ (Reg.ING_RX_DUP_CNT_HI 0).id % 1024) rfl rfl s

/-- Exchanging which path gave the packet leaves the duplicates to be counted. -/
theorem State.duplicate_dups (s : State) (r p e : Nat) : (s.duplicate r p e).dups r = min (s.dups r + 1) (2 ^ 64 - 1) := by
  unfold State.duplicate
  dsimp only
  split
  · rw [State.countDup_dups, (State.countPkt_keeps (State.uncountSecond_keeps (State.setRcv_keeps
      (Keeps.refl 0x1e0000000000000000000000000000000000000000000000000000000000000000000000000000000000000000000000000000000000000000000042 s)))).dups r]
  · exact s.countDup_dups r

/-! ## What is accepted (R150, R151) -/

/-- A packet accepted, with the window as it stood before. -/
def State.accepted (s : State) (r p e : Nat) : State := (s.pathSeen r p).acceptPacket r p e

theorem State.accepted_keeps (s : State) (r p e : Nat) :
    Keeps 0x1e0007000000000000000000000000000000000000000000000000000000400000000000000000000000000000000000001000000000000680000042 s (s.accepted r p e) :=
  State.acceptPacket_keeps (State.pathSeen_keeps (.refl _ _))

theorem State.accepted_rcv (s : State) (r p e : Nat) :
    ∃ a b z, (s.accepted r p e).rcv r = { (s.rcv r).accept e with last0 := a, last1 := b, second := z } := by
  obtain ⟨a, b, seen⟩ := s.pathSeen_rcv r p
  obtain ⟨z, noted⟩ := (s.pathSeen r p).acceptPacket_rcv r p e
  exact ⟨a, b, z, by rw [State.accepted, noted, seen]; rfl⟩

theorem State.accepted_up (s : State) (r p e : Nat) : (s.accepted r p e).on (pathUp r p) = true := by
  unfold State.on
  rw [State.accepted, (State.acceptPacket_keeps (.refl _ _) (within_self _)).pathUp r p]
  exact s.pathSeen_up r p

/-! ## What is counted and not stored (R150, R158) -/

/-- A packet counted as late by the receiver's path. -/
theorem State.late_counted (s : State) (r p : Nat) : 
    s.Counted ((s.pathSeen r p).bump (Reg.ING_RX_LATE_CNT r)) (Reg.ING_RX_LATE_CNT r) ∧
    ((s.pathSeen r p).bump (Reg.ING_RX_LATE_CNT r)).mem = s.mem := by
  have seen := State.pathSeen_keeps (r := r) (p := p) (.refl _ s) (within_self _)
  exact ⟨(State.bump_counted _ _).before (seen.get_like (Reg.ING_RX_LATE_CNT 0) rfl rfl), seen.memKept rfl⟩

section
variable {s : State} {r p : Nat} {h : RxHead} {act : State → State} (taken : s.Taken r p h.flow)
include taken

theorem State.Taken.malformed_counted (bad : s.badHead r h = true) :
    s.Counted (s.rxPacket r p h act) (Reg.ING_RX_FMT_ERR_CNT r) ∧ (s.rxPacket r p h act).mem = s.mem := by
  have seen := State.pathSeen_keeps (r := r) (p := p) (.refl _ s) (within_self _)
  rw [taken.malformed bad]
  exact ⟨(State.rxMalformed_counted _ r).before (seen.get_like (Reg.ING_RX_FMT_ERR_CNT 0) rfl rfl),
    ((State.rxMalformed_keeps (.refl _ _) (within_self _)).memKept rfl).trans (seen.memKept rfl)⟩

theorem State.Taken.duplicate_counted (ok : s.badHead r h = false)
    (dup : (s.rcv r).judge (extendSeq h.width (s.rcv r).newest h.seq) = 1) :
    (s.rxPacket r p h act).mem = s.mem ∧ (s.rxPacket r p h act).dups r = min (s.dups r + 1) (2 ^ 64 - 1) := by
  have seen := State.pathSeen_keeps (r := r) (p := p) (.refl _ s) (within_self _)
  rw [taken.judged ok, if_pos dup, State.duplicate_dups, seen.dups r]
  exact ⟨((State.duplicate_keeps (.refl _ _) (within_self _)).memKept rfl).trans (seen.memKept rfl), rfl⟩

theorem State.Taken.accepted (ok : s.badHead r h = false) (new : (s.rcv r).judge (extendSeq h.width (s.rcv r).newest h.seq) = 0)
    {cap : Rat} (hc : h.cap = some cap) (near : s.timeError cap = false) :
    s.rxPacket r p h act = act (s.accepted r p (extendSeq h.width (s.rcv r).newest h.seq)) := by
  rw [taken.judged ok, if_neg (by rw [new]; decide), if_neg (by rw [new]; decide), hc]
  exact if_neg (by simp [near])

end

/-! ## Pictures (R153 to R157) -/

/-- A picture after all pictures of a timestamp were closed. -/
def RxPic.closedAt (ts : Nat) (q : RxPic) : RxPic := if q.ts = ts then { q with isOpen := false, part := [] } else q

theorem State.count_rx (s : State) (f : Field) (n : Nat) : (s.count f n).rx = s.rx := by
  unfold State.count
  split <;> rfl

theorem State.count_mem (s : State) (f : Field) (n : Nat) : (s.count f n).mem = s.mem := by
  unfold State.count
  split <;> rfl

theorem State.showWriteBuf_rx (s : State) (r : Nat) : (s.showWriteBuf r).rx = s.rx :=
  (State.showWriteBuf_keeps (.refl _ _) (within_self _)).rxKept rfl

/-- Closing closes the pictures of a timestamp and leaves the rest of the receiver. -/
theorem State.closePic_rcv (s : State) (r ts : Nat) :
    (s.closePic r ts).rcv r = { s.rcv r with pics := (s.rcv r).pics.map (RxPic.closedAt ts) } := by
  refine Eq.trans ?_ (State.rcv_setRcv s r _)
  unfold State.closePic State.rcv
  dsimp only
  split
  · rw [State.showWriteBuf_rx]
    rfl
  · rw [(State.raise_keeps (.refl _ _) (within_self _)).rxKept rfl, State.count_rx, State.showWriteBuf_rx]
    rfl

/-- Of pictures closed in turn, one still open was there before and is none of them. -/
theorem State.closePics_open {r : Nat} (l : List RxPic) {s : State} {q : RxPic}
    (hq : q ∈ ((l.foldl (fun t y => t.closePic r y.ts) s).rcv r).pics) (ho : q.isOpen = true) :
    q ∈ (s.rcv r).pics ∧ ∀ y ∈ l, q.ts ≠ y.ts := by
  induction l generalizing s with
  | nil => exact ⟨hq, fun _ h => nomatch h⟩
  | cons y l ih =>
    obtain ⟨there, others⟩ := ih hq
    rw [State.closePic_rcv] at there
    obtain ⟨x, hx, rfl⟩ := List.mem_map.1 there
    have ne : x.ts ≠ y.ts := fun same => by
      rw [RxPic.closedAt, if_pos same] at ho
      exact Bool.noConfusion ho
    rw [RxPic.closedAt, if_neg ne] at others ⊢
    exact ⟨hx, List.forall_mem_cons.2 ⟨ne, others⟩⟩

/-- The samples of the rows are written, no Safety Net area being touched, and the window stays. -/
theorem State.fillPic_rows {s t : State} (same : s.SameIngest t) {r b : Nat} {x : VideoPacket} {q : RxPic}
    (hq : (t.rcv r).pics.find? (fun q => q.ts == x.ts.toNat) = some q) (hb : q.buf = some b)
    (free : ∀ e ∈ x.rows.flatMap (s.rowWrites r b), s.safAreaMeets e.1 e.2.length = none) :
    (t.fillPic r x).mem = (x.rows.flatMap (s.rowWrites r b)).foldl (fun (m : List Host.Cell) e => Memory.writeAll m e.1 e.2) t.mem ∧
      ((t.fillPic r x).rcv r).newest = (t.rcv r).newest := by
  unfold State.fillPic
  simp only [hq, Option.bind_some, hb]
  generalize hu : t.setRcv r _ = u
  have sameU : s.SameIngest u := same.trans (hu ▸ (State.setRcv_keeps (.refl _ _) (within_self _)).sameIngest)
  have memU : u.mem = t.mem := hu ▸ rfl
  have newestU : (u.rcv r).newest = (t.rcv r).newest := hu ▸ by rw [State.rcv_setRcv]
  rw [State.storeRows_eq sameU]
  have mem := State.deviceStores_mem (s := u) (l := x.rows.flatMap (s.rowWrites r b)) fun e he => (sameU.safAreaMeets _ _).trans (free e he)
  have rx : (u.deviceStores (x.rows.flatMap (s.rowWrites r b))).rx = u.rx := State.deviceStores_rx _ _
  split
  · refine ⟨((State.closePic_keeps (.refl _ _) (within_self _)).memKept rfl).trans (mem.trans (memU ▸ rfl)), ?_⟩
    rw [State.closePic_rcv, State.rcv, rx]
    exact newestU
  · refine ⟨mem.trans (memU ▸ rfl), ?_⟩
    rw [State.rcv, rx]
    exact newestU

/-! ## Video packets (R150 to R158) -/

/-- The picture of a timestamp. -/
def State.rxPic (s : State) (r : Nat) (x : VideoPacket) : Option RxPic := (s.rcv r).pics.find? (fun q => q.ts == x.ts.toNat)

/-- What an accepted video packet does: it opens its picture where there is none, and fills it. -/
def State.videoAct (s : State) (r : Nat) (x : VideoPacket) (t : State) : State :=
  (if (s.rxPic r x).isSome then t else t.openPic r x.ts.toNat (s.rtpDt 90000 x.ts.toNat)).fillPic r x

section
variable {s : State} {r p : Nat} {x : VideoPacket} (taken : s.Taken r p x.flow)

theorem State.videoRx_malformed (bad : s.badHead r (s.videoHead r x) = true) :
    s.videoRx r p x = s.rxPacket r p (s.videoHead r x) (s.videoAct r x) := by
  simp only [State.videoRx, bad, Bool.not_true, Bool.and_false, Bool.false_and, Bool.false_eq_true, if_false]
  rfl

/-- A packet of no dropped picture comes to the checks of every packet, unless it is new, in time and late for its picture. -/
theorem State.videoRx_buffered (ok : s.badHead r (s.videoHead r x) = false) (buffered : ∀ y, s.rxPic r x = some y → y.buf.isSome = true) :
    s.videoRx r p x =
      if s.takesFlow r p x.flow && (x.crcOk || (s.checkUnit 2 3 r).isNone) && s.videoLate r x.ts.toNat (s.rxPic r x)
          && (s.rcv r).judge (extendSeq 32 (s.rcv r).newest x.seq.toNat) == 0 && !(s.timeError (s.rtpDt 90000 x.ts.toNat)) then
        ((s.pathSeen r p).checkStrip r x.crcOk).1.bump (Reg.ING_RX_LATE_CNT r)
      else s.rxPacket r p (s.videoHead r x) (s.videoAct r x) := by
  have kept : (match s.rxPic r x with | some q => q.buf.isNone | none => false) = false := by
    cases h : s.rxPic r x with
    | none => rfl
    | some q => simpa using buffered q h
  unfold State.videoRx
  dsimp only
  refine (if_neg fun dropped => Bool.noConfusion (kept.symm.trans (Bool.and_eq_true_iff.1 dropped).2)).trans ?_
  rw [ok]
  simp only [Bool.not_false, Bool.and_true]
  rfl

/-- A packet of no dropped picture that its picture does not await comes to the checks of every packet. -/
theorem State.videoRx_checked (ok : s.badHead r (s.videoHead r x) = false)
    (buffered : ∀ y, s.rxPic r x = some y → y.buf.isSome = true)
    (go : s.videoLate r x.ts.toNat (s.rxPic r x) = false ∨ (s.rcv r).judge (extendSeq 32 (s.rcv r).newest x.seq.toNat) ≠ 0) :
    s.videoRx r p x = s.rxPacket r p (s.videoHead r x) (s.videoAct r x) := by
  rw [State.videoRx_buffered ok buffered, if_neg]
  rcases go with h | h <;> simp [h]

include taken

/-- A late packet is counted, by the window or by its picture. -/
theorem State.Taken.videoRx_late (ok : s.badHead r (s.videoHead r x) = false)
    (buffered : ∀ y, s.rxPic r x = some y → y.buf.isSome = true)
    (late : (s.rcv r).judge (extendSeq 32 (s.rcv r).newest x.seq.toNat) = 2 ∨
      ((s.rcv r).judge (extendSeq 32 (s.rcv r).newest x.seq.toNat) = 0 ∧ s.timeError (s.rtpDt 90000 x.ts.toNat) = false ∧
        s.videoLate r x.ts.toNat (s.rxPic r x) = true)) :
    s.videoRx r p x = (s.pathSeen r p).bump (Reg.ING_RX_LATE_CNT r) := by
  rcases late with behind | ⟨new, near, late⟩
  · rw [State.videoRx_checked ok buffered (.inr (by omega))]
    have judged := taken.judged (h := s.videoHead r x) (act := s.videoAct r x) ok
    have behind : (s.rcv r).judge (extendSeq (s.videoHead r x).width (s.rcv r).newest (s.videoHead r x).seq) = 2 := behind
    rw [judged, behind]
    rfl
  · rw [State.videoRx_buffered ok buffered, if_pos (by simp [taken.flow, taken.unchecked, new, near, late]), taken.strip]

/-- A packet of an open picture with a buffer, new and in time, is accepted and fills it. -/
theorem State.Taken.videoRx_accepted (ok : s.badHead r (s.videoHead r x) = false)
    (new : (s.rcv r).judge (extendSeq 32 (s.rcv r).newest x.seq.toNat) = 0) (near : s.timeError (s.rtpDt 90000 x.ts.toNat) = false)
    {q : RxPic} {b : Nat} (hq : s.rxPic r x = some q) (hb : q.buf = some b) (ho : q.isOpen = true) (he : s.picExpired r q.cap = false) :
    s.videoRx r p x = (s.accepted r p (extendSeq 32 (s.rcv r).newest x.seq.toNat)).fillPic r x := by
  have buffered : ∀ y, s.rxPic r x = some y → y.buf.isSome = true := fun y hy => by
    rw [← Option.some.inj (hq.symm.trans hy), hb]
    rfl
  have awaited : s.videoLate r x.ts.toNat (s.rxPic r x) = false := by
    rw [hq]
    simp [State.videoLate, ho, he]
  rw [State.videoRx_checked ok buffered (.inl awaited), taken.accepted ok new rfl near, State.videoAct, hq]
  rfl

end

/-- Where a packet's samples stand, its path UP and its number noted. -/
theorem State.accepted_fillPic (s : State) (r p e : Nat) {b : Nat} {x : VideoPacket} {q : RxPic} (hq : s.rxPic r x = some q)
    (hb : q.buf = some b) (free : ∀ e ∈ x.rows.flatMap (s.rowWrites r b), s.safAreaMeets e.1 e.2.length = none) :
    ((s.accepted r p e).fillPic r x).on (pathUp r p) = true ∧
      (((s.accepted r p e).fillPic r x).rcv r).newest = ((s.rcv r).accept e).newest ∧
      ((s.accepted r p e).fillPic r x).mem =
        (x.rows.flatMap (s.rowWrites r b)).foldl (fun (m : List Host.Cell) e => Memory.writeAll m e.1 e.2) s.mem := by
  obtain ⟨a, c, z, noted⟩ := s.accepted_rcv r p e
  have kept := s.accepted_keeps r p e
  have pic : ((s.accepted r p e).rcv r).pics.find? (fun q => q.ts == x.ts.toNat) = some q := by
    rw [noted]
    exact hq
  obtain ⟨mem, newest⟩ := State.fillPic_rows kept.sameIngest pic hb free
  refine ⟨?_, newest.trans (by rw [noted]), mem.trans (by rw [kept.memKept rfl])⟩
  unfold State.on
  rw [(State.fillPic_keeps (.refl _ _) (within_self _)).pathUp r p]
  exact s.accepted_up r p e

/-! ## Ancillary packets (R148) -/

theorem State.store_mem (s : State) (a : Nat) (l : List Byte) : (s.store a l).mem = Memory.writeAll s.mem a l := rfl

/-- The next entry of an ancillary store takes an ANC packet, no Safety Net area being touched; the count of entries advances. -/
theorem State.ancWrite_stores {s : State} {r : Nat} {cap : Rat} {a : Anc} {addr : Nat}
    (ha : addr = (s.storeArea r).base + (s.rcv r).anc % 2 ^ s.get (Reg.ING_RX_NFMT_ANC_LOG2 r) * 1024)
    (free : s.safAreaMeets addr (ancEntry cap a).length = none) :
    ((s.ancWrite r cap a).rcv r).anc = (s.rcv r).anc + 1 ∧ (s.ancWrite r cap a).mem = Memory.writeAll s.mem addr (ancEntry cap a) := by
  let u := (s.store addr (ancEntry cap a)).setRcv r { s.rcv r with anc := (s.rcv r).anc + 1 }
  have written : s.ancWrite r cap a =
      if 2 ^ s.get (Reg.ING_RX_NFMT_ANC_LOG2 r) ≤ (s.rcv r).anc then u.bump (Reg.ING_RX_FS_DROP_CNT r) else u := by
    unfold State.ancWrite
    dsimp only
    rw [← ha, State.deviceStore_free free]
  have rx : (s.ancWrite r cap a).rx = u.rx := by
    rw [written]
    split
    · exact State.count_rx _ _ _
    · rfl
  have mem : (s.ancWrite r cap a).mem = u.mem := by
    rw [written]
    split
    · exact State.count_mem _ _ _
    · rfl
  refine ⟨?_, mem.trans ((State.setRcv_mem _ r _).trans (State.store_mem s addr _))⟩
  unfold State.rcv
  rw [rx]
  exact congrArg Rx.anc (State.rcv_setRcv _ r _)

/-! ## Paths without packets (R152) -/

theorem State.signalLost_pathUp (s : State) (r p : Nat) (enabled : Bool) :
    (s.signalLost r enabled).get (pathUp r p) = s.get (pathUp r p) := by
  have shown : (s.set (Reg.ING_RX_SIGNAL r) 0).get (pathUp r p) = s.get (pathUp r p) :=
    State.get_set_other _ _ _ _ (pathUp_name_ne r p (f := Reg.ING_RX_SIGNAL r) (by decide : (Reg.ING_RX_SIGNAL 0).id % 1024 ∉ _))
  unfold State.signalLost
  split
  · cases enabled
    · exact shown
    · exact ((State.raise_keeps (.refl _ _) (within_self _)).pathUp r p).trans shown
  · rfl

theorem State.signalLost_latchesStay (s : State) (r : Nat) (enabled : Bool) : s.LatchesStay (s.signalLost r enabled) := by
  have shown : s.LatchesStay (s.set (Reg.ING_RX_SIGNAL r) 0) := fun n b _ h => by
    rw [State.get_set_other _ _ _ _ (by show (Reg.BRK_LATCH 0).id % 1024 ≠ (Reg.ING_RX_SIGNAL 0).id % 1024; decide)]
    exact h
  unfold State.signalLost
  split
  · cases enabled
    · exact shown
    · exact State.raise_latchesStay shown
  · exact .refl s

/-- A path that goes DOWN reads 0, is counted and raises 0x6503. -/
theorem State.pathDown_acts {s : State} {r p : Nat} (up : s.on (pathUp r p) = true) :
    (s.pathDown r p).get (pathUp r p) = 0 ∧ s.Counted (s.pathDown r p) (Reg.ING_RX_PATH_DOWN_CNT r) ∧ (s.pathDown r p).Latches 0x6503 := by
  let t := (s.set (pathUp r p) 0).bump (Reg.ING_RX_PATH_DOWN_CNT r)
  let u := t.raise 0x6503 objDevice (rxDetail r 0)
  have down : s.pathDown r p = u.signalLost r true := if_pos up
  have raised : Keeps _ t u := State.raise_keeps (.refl _ _) (within_self _)
  have follows : Keeps _ u (u.signalLost r true) := State.signalLost_keeps (.refl _ _) (within_self _)
  rw [down]
  refine ⟨?_, ?_, (State.raise_latches _ _ _ _).stay (State.signalLost_latchesStay _ _ _)⟩
  · rw [State.signalLost_pathUp, raised.pathUp r p, State.bump_other _ _ _ (pathUp_name_ne r p (f := Reg.ING_RX_PATH_DOWN_CNT r)
      (by decide : (Reg.ING_RX_PATH_DOWN_CNT 0).id % 1024 ∉ _)), State.get_set_same, Nat.zero_mod]
  · refine (((State.bump_counted _ _).before ?_).after (raised.get_like (Reg.ING_RX_PATH_DOWN_CNT 0) rfl rfl)).after
      (follows.get_like (Reg.ING_RX_PATH_DOWN_CNT 0) rfl rfl)
    exact State.get_set_other _ _ _ _ (pathUp_name_ne r p (f := Reg.ING_RX_PATH_DOWN_CNT r)
      (by decide : (Reg.ING_RX_PATH_DOWN_CNT 0).id % 1024 ∉ _)).symm

/-! ## Queries (R145) -/

/-- What decides whether a packet can arrive on a path, and what a report of its group says, is the same in two states. -/
structure State.SamePaths (s t : State) : Prop where
  mode : t.mode = s.mode
  enable : ∀ r, t.get (Reg.ING_RX_ENABLE r) = s.get (Reg.ING_RX_ENABLE r)
  en : ∀ r p, t.get (pathEn r p) = s.get (pathEn r p)
  lane : ∀ r p, t.get (Reg.ING_RX_PATH_LANE r p) = s.get (Reg.ING_RX_PATH_LANE r p)
  laneMode : ∀ i, t.laneMode i = s.laneMode i
  laneState : ∀ i, t.laneState i = s.laneState i

theorem State.SamePaths.portOf {s t : State} (h : s.SamePaths t) (i : Nat) : t.portOf i = s.portOf i := by
  simp only [State.portOf, h.laneMode]

theorem State.SamePaths.receivesPath {s t : State} (h : s.SamePaths t) (r p : Nat) : t.receivesPath r p = s.receivesPath r p := by
  simp only [State.receivesPath, State.ingestOn, State.pathInUse, State.on, State.portActive, State.isPort, State.portLanes, h.portOf,
    h.mode, h.enable, h.en, h.lane, h.laneMode, h.laneState]

theorem State.igmpJoin_samePaths (s : State) (r p : Nat) : s.SamePaths (s.igmpJoin r p) := by
  have kept : Keeps _ s (s.igmpJoin r p) := State.igmpJoin_keeps (.refl _ _) (within_self _)
  refine ⟨kept.get_like Reg.PWR_MODE_STATUS_CUR_MODE rfl rfl, fun _ => kept.get_like (Reg.ING_RX_ENABLE 0) rfl rfl, fun r p => ?_,
    fun _ _ => kept.get_like (Reg.ING_RX_PATH_LANE 0 0) rfl rfl, fun _ => kept.get_like (Reg.LANE_CFG_MODE 0) rfl rfl,
    fun _ => kept.get_like (Reg.LANE_STATUS_STATE 0) rfl rfl⟩
  unfold pathEn
  split
  · exact kept.get_like (Reg.ING_RX_PATH0_EN 0) rfl rfl
  · exact kept.get_like (Reg.ING_RX_PATH1_EN 0) rfl rfl

/-- Whether a group's query on a lane asks for the report of a path. -/
def State.asksPath (s : State) (i g r p : Nat) : Bool :=
  s.receivesPath r p && s.portOf (s.get (Reg.ING_RX_PATH_LANE r p)) == s.portOf i && s.get (Reg.ING_RX_GROUP r p) == g

/-- Every path, in the order in which a query's reports go out. -/
def allPaths : List (Nat × Nat) := (List.range 60).flatMap (fun r => [(r, 0), (r, 1)])

/-- A query takes the paths in turn. -/
theorem execIgmpQueryRx_group (i : Fin 16) (g : BitVec 32) (s : State) :
    execIgmpQueryRx i (.group g) s = .next (allPaths.foldl (fun t e =>
      if t.asksPath i g.toNat e.1 e.2 then t.igmpJoin e.1 e.2 else t) s) := by
  unfold execIgmpQueryRx allPaths
  rw [List.foldl_flatMap]
  rfl

theorem allPaths_lt : ∀ e ∈ allPaths, e.1 < 60 ∧ e.2 < 2 := by decide

/-- A fold that acts at one element only acts once. -/
theorem foldl_once {α β : Type} {f : α → β → α} {a c : α} {b : β} {l : List β} (hb : b ∈ l) (act : f a b = c)
    (before : ∀ x ∈ l, x ≠ b → f a x = a) (after : ∀ x ∈ l, x ≠ b → f c x = c) (hn : l.Nodup) : l.foldl f a = c := by
  obtain ⟨u, v, rfl⟩ := List.append_of_mem hb
  have apart := List.nodup_middle.1 hn
  have other : ∀ x ∈ u ++ v, x ≠ b := fun x hx e => (List.nodup_cons.1 apart).1 (e ▸ hx)
  have inside : ∀ x ∈ u ++ v, x ∈ u ++ b :: v := fun x hx => by
    simp only [List.mem_append, List.mem_cons] at hx ⊢
    tauto
  rw [List.foldl_append, List.foldl_cons,
    foldl_fixed_of_mem fun x hx => before x (inside x (List.mem_append_left _ hx)) (other x (List.mem_append_left _ hx)), act]
  exact foldl_fixed_of_mem fun x hx => after x (inside x (List.mem_append_right _ hx)) (other x (List.mem_append_right _ hx))

/-- One path alone is asked for: its report is what the query leaves. -/
theorem State.igmpQuery_once {s : State} {i : Fin 16} {g : BitVec 32} {r : Fin 60} {p : Fin 2} (asked : s.asksPath i g.toNat r p = true)
    (alone : ∀ (m : Fin 60) (q : Fin 2), (m, q) ≠ (r, p) →
      ¬ (s.receivesPath m q = true ∧ s.portOf (s.get (Reg.ING_RX_PATH_LANE m.val q.val)) = s.portOf i)) :
    execIgmpQueryRx i (.group g) s = .next (s.igmpJoin r p) := by
  have unasked : ∀ t, s.SamePaths t → ∀ e ∈ allPaths, e ≠ (r.val, p.val) → t.asksPath i g.toNat e.1 e.2 = false := fun t h e he ne => by
    obtain ⟨hr, hp⟩ := allPaths_lt e he
    have none : ¬ (s.receivesPath e.1 e.2 = true ∧ s.portOf (s.get (Reg.ING_RX_PATH_LANE e.1 e.2)) = s.portOf i) :=
      alone ⟨e.1, hr⟩ ⟨e.2, hp⟩ fun same => ne (Prod.ext (congrArg (fun x => x.1.val) same) (congrArg (fun x => x.2.val) same))
    refine Bool.eq_false_iff.2 fun yes => none ?_
    simp only [State.asksPath, h.receivesPath, h.portOf, h.lane, Bool.and_eq_true, beq_iff_eq] at yes
    exact yes.1
  rw [execIgmpQueryRx_group]
  refine congrArg Host.Outcome.next (foldl_once (b := (r.val, p.val)) ?_ (if_pos asked) (fun e he ne => ?_) (fun e he ne => ?_) (by decide))
  · have hr := r.isLt
    have hp := p.isLt
    simp only [allPaths, List.mem_flatMap, List.mem_range]
    exact ⟨r.val, hr, by simp; omega⟩
  · rw [unasked s ⟨rfl, fun _ => rfl, fun _ _ => rfl, fun _ _ => rfl, fun _ => rfl, fun _ => rfl⟩ e he ne]
    rfl
  · rw [unasked _ (s.igmpJoin_samePaths r p) e he ne]
    rfl

/-! ## The obligation -/

/-- The head of an ancillary packet. -/
def State.ancHead (s : State) (x : AncPacket) : RxHead :=
  { flow := x.flow, pt := x.pt.toNat, width := 16, seq := x.seq.toNat, malformed := x.malformed, crcOk := x.crcOk,
    cap := some (s.rtpDt 90000 x.ts.toNat) }

/-- What an accepted ancillary packet does: each ANC packet in it takes an entry. -/
def State.ancAct (s : State) (r : Nat) (x : AncPacket) (t : State) : State :=
  x.ancs.foldl (fun t a => t.ancWrite r (s.rtpDt 90000 x.ts.toNat) a) t

theorem State.ancAct_one {s t : State} {r : Nat} {x : AncPacket} {a : Anc} (one : x.ancs = [a]) :
    s.ancAct r x t = t.ancWrite r (s.rtpDt 90000 x.ts.toNat) a := by
  unfold State.ancAct
  rw [one]
  rfl

theorem execAncPacketRx_eq (r : Fin 8) (p : Fin 2) (x : AncPacket) (s : State) :
    exec (.ancPacketRx r p x) s = .next (s.rxPacket (48 + r) p (s.ancHead x) (s.ancAct (48 + r) x)) := rfl

theorem State.ancHead_bad {s : State} {r : Nat} {x : AncPacket} :
    s.badHead r (s.ancHead x) = true ↔ x.malformed = true ∨ x.pt.toNat ≠ s.get (Reg.ING_RX_PT r) := by
  simp [State.badHead, State.ancHead]

theorem State.ancHead_good {s : State} {r : Nat} {x : AncPacket} (ok : x.malformed = false) (pt : x.pt.toNat = s.get (Reg.ING_RX_PT r)) :
    s.badHead r (s.ancHead x) = false := by
  simp [State.badHead, State.ancHead, ok, pt]

/-- The one ANC packet of an accepted packet stands in the next entry, and no other byte changes. -/
theorem State.accepted_ancWrite (s : State) (r p e : Nat) {cap : Rat} {a : Anc} {addr : Nat}
    (ha : addr = (s.storeArea r).base + (s.rcv r).anc % 2 ^ s.get (Reg.ING_RX_NFMT_ANC_LOG2 r) * 1024)
    (free : s.safAreaMeets addr (ancEntry cap a).length = none) :
    (((s.accepted r p e).ancWrite r cap a).rcv r).anc = (s.rcv r).anc + 1 ∧
      ((s.accepted r p e).ancWrite r cap a).mem = Memory.writeAll s.mem addr (ancEntry cap a) := by
  obtain ⟨l0, l1, z, noted⟩ := s.accepted_rcv r p e
  have kept := s.accepted_keeps r p e
  have anc : ((s.accepted r p e).rcv r).anc = (s.rcv r).anc := by
    rw [noted]
    rfl
  obtain ⟨count, mem⟩ := State.ancWrite_stores (s := s.accepted r p e) (r := r) (cap := cap) (a := a) (addr := addr)
    (by rw [anc, kept.sameIngest.storeBase, kept.sameIngest.get (f := Reg.ING_RX_NFMT_ANC_LOG2 r) (Reg.ING_RX_NFMT_ANC_LOG2 0) rfl]; exact ha)
    ((kept.sameIngest.safAreaMeets _ _).trans free)
  exact ⟨count.trans (by rw [anc]), mem.trans (by rw [kept.memKept rfl])⟩

/-- The report of a group joined stands in the control queue of its port, which has room. -/
theorem State.igmpJoin_frames {s : State} {r p k g : Nat} (hk : s.portOf (s.get (Reg.ING_RX_PATH_LANE r p)) = k)
    (hg : s.get (Reg.ING_RX_GROUP r p) = g) (multicast : isMulticast g = true) (active : s.portActive k = true)
    (unpoliced : (s.settleMeters k).meterMode (8 * k + s.get (Reg.CAR_P_CTRL_CLASS k)) ≠ 2)
    (room : framesLen (s.frames k (s.get (Reg.CAR_P_CTRL_CLASS k))) + smallFrame
      ≤ s.get (Reg.CAR_P_Q_QMAX_KB k (s.get (Reg.CAR_P_CTRL_CLASS k))) * 1024)
    (buffered : s.portBytes k + smallFrame ≤ s.portBuffer k) :
    (s.igmpJoin r p).frames k (s.get (Reg.CAR_P_CTRL_CLASS k)) = s.frames k (s.get (Reg.CAR_P_CTRL_CLASS k)) ++
      [{ frame := .igmpReport g (s.get (Reg.ING_RX_SRC r p)), len := smallFrame, stamp := s.lc, row := none, eligible := true,
         cover := none, tc := none }] := by
  have joined : s.igmpJoin r p = s.originate k (.igmpReport g (s.get (Reg.ING_RX_SRC r p))) smallFrame := by
    unfold State.igmpJoin
    dsimp only
    rw [hg, hk, if_pos multicast]
  rw [joined]
  exact State.enterQueue_frames active rfl unpoliced room buffered

/-- Settles O30. A packet goes through the checks of every packet as the state before it decides them, since being seen leaves what they read;
each clause is what its branch does (R150 to R158). Timeouts, frames and queries act as their own operations say. -/
theorem packetsLandOrAreCounted : Obligations.PacketsLandOrAreCounted := by
  unfold Obligations.PacketsLandOrAreCounted
  refine ⟨fun s => ⟨fun r p x q b flow unchecked ok new near hq hb ho he => ?_, fun r p x a flow unchecked good pt new near one => ?_⟩,
    fun p s => ⟨fun r x flow unchecked => ⟨fun bad => ?_, fun good pt dup => ?_⟩,
      fun r x flow unchecked => ⟨fun bad => ?_, fun ok buffered dup => ?_, fun ok buffered late => ?_⟩⟩,
    fun s => ⟨fun r => ?_, fun r p k seen quiet up => ?_, fun i active notBridge => ?_, fun i g r p => ?_⟩⟩
  · intro writes free
    have taken : s.Taken r p x.flow := ⟨flow, unchecked⟩
    exact ⟨_, congrArg Host.Outcome.next (taken.videoRx_accepted ok new near hq hb ho he), s.accepted_fillPic r p _ hq hb free⟩
  · intro e addr free
    have taken : s.Taken (48 + r) p (s.ancHead x).flow := ⟨flow, unchecked⟩
    have landed := (taken.accepted (act := s.ancAct (48 + r) x) (State.ancHead_good good pt) new rfl near).trans (State.ancAct_one one)
    obtain ⟨count, mem⟩ := s.accepted_ancWrite (48 + r) p _ (cap := s.rtpDt 90000 x.ts.toNat) (a := a) (addr := addr) rfl free
    refine ⟨_, (execAncPacketRx_eq r p x s).trans (congrArg Host.Outcome.next landed), count, fun i h => ?_, fun y beside => ?_⟩
    · exact (congrArg (fun m => Memory.read m (addr + i)) mem).trans (Memory.read_writeAll_inside _ _ _ _ h)
    · have outside : y < addr ∨ addr + e.length ≤ y := by
        by_contra inside
        exact beside (by omega)
      exact (congrArg (fun m => Memory.read m y) mem).trans (Memory.read_writeAll_outside _ _ _ _ outside)
  · have taken : s.Taken (48 + r) p (s.ancHead x).flow := ⟨flow, unchecked⟩
    exact ⟨_, execAncPacketRx_eq r p x s, taken.malformed_counted (State.ancHead_bad.2 bad)⟩
  · have taken : s.Taken (48 + r) p (s.ancHead x).flow := ⟨flow, unchecked⟩
    exact ⟨_, execAncPacketRx_eq r p x s, taken.duplicate_counted (State.ancHead_good good pt) dup⟩
  · have taken : s.Taken r p (s.videoHead r x).flow := ⟨flow, unchecked⟩
    exact ⟨_, congrArg Host.Outcome.next (State.videoRx_malformed bad), taken.malformed_counted bad⟩
  · have taken : s.Taken r p (s.videoHead r x).flow := ⟨flow, unchecked⟩
    exact ⟨_, congrArg Host.Outcome.next (State.videoRx_checked ok buffered (.inr (by rw [dup]; decide))), taken.duplicate_counted ok dup⟩
  · have taken : s.Taken r p x.flow := ⟨flow, unchecked⟩
    exact ⟨_, congrArg Host.Outcome.next (taken.videoRx_late ok buffered late), s.late_counted r p⟩
  · refine ⟨_, rfl, fun q hq ho => Bool.eq_false_iff.2 fun expired => ?_⟩
    obtain ⟨there, others⟩ := State.closePics_open _ hq ho
    exact others q (List.mem_filter.2 ⟨there, by rw [ho, expired]; rfl⟩) rfl
  · have timeout : execPathLossTimeout r p s = .next (s.pathDown r p) := by
      unfold execPathLossTimeout
      rw [seen]
      exact congrArg _ (if_pos quiet)
    exact ⟨_, timeout, State.pathDown_acts up⟩
  · refine ⟨_, rfl, ?_⟩
    rw [State.unmatched, active, if_pos (by simp [notBridge])]
    exact State.bump_counted _ _
  · intro k receives onPort group multicast alone c unpoliced room buffered
    have active : s.portActive k = true := by
      rw [← onPort]
      exact (Bool.and_eq_true_iff.1 receives).2
    have asked : s.asksPath i g.toNat r p = true := by
      rw [State.asksPath, receives, onPort, group, beq_self_eq_true g.toNat, beq_iff_eq.2 (rfl : k = s.portOf i)]
      rfl
    exact ⟨_, State.igmpQuery_once asked alone, State.igmpJoin_frames onPort group multicast active unpoliced room buffered⟩

end Sys2Proof.Machine
end

/-! # Proofs: the bytes beside what a storing command writes (R148, R153, R154, R203, R432, R433) -/

section
namespace Sys2Proof.Machine

-- One theorem at a time: the text is compiled as one, and more threads would not fit in memory.
set_option Elab.async false

open Sys2Proof

/-- A byte of memory is the same in two states. -/
def State.SameByte (y : Nat) (s t : State) : Prop := Memory.read t.mem y = Memory.read s.mem y

theorem State.SameByte.trans {y : Nat} {s t u : State} (h : s.SameByte y t) (k : t.SameByte y u) : s.SameByte y u := Eq.trans k h

theorem State.SameByte.ite {y : Nat} {s t u : State} {c : Prop} [Decidable c] (h : s.SameByte y t) (k : s.SameByte y u) :
    s.SameByte y (if c then t else u) := by
  split <;> assumption

theorem State.SameByte.of_mem {y : Nat} {s t : State} (h : t.mem = s.mem) : s.SameByte y t := congrArg (fun m => Memory.read m y) h

theorem Keeps.sameByte {w : Nat} {s t : State} (k : Keeps w s t) (y : Nat) (hw : w.testBit 37 = false := by decide) : s.SameByte y t :=
  .of_mem (k.memKept hw)

/-- A fold whose every step keeps a byte keeps it. -/
theorem foldl_sameByte {α : Type} {y : Nat} {f : State → α → State} {l : List α} (h : ∀ t : State, ∀ x ∈ l, t.SameByte y (f t x)) (s : State) :
    s.SameByte y (l.foldl f s) :=
  List.foldlRecOn l f (motive := fun t => s.SameByte y t) rfl fun t ht x hx => ht.trans (h t x hx)

/-- What packets are checked and placed by is the same, and so is a byte. -/
structure State.SameStore (y : Nat) (s t : State) : Prop where
  ingest : s.SameIngest t
  byte : s.SameByte y t

theorem State.SameStore.refl (y : Nat) (s : State) : s.SameStore y s := ⟨.refl s, rfl⟩

theorem State.SameStore.trans {y : Nat} {s t u : State} (h : s.SameStore y t) (k : t.SameStore y u) : s.SameStore y u :=
  ⟨h.ingest.trans k.ingest, h.byte.trans k.byte⟩

theorem Keeps.sameStore {w : Nat} {s t : State} (k : Keeps w s t) (y : Nat)
    (hr : ∀ i ∈ ingestNames, w.testBit (64 + i) = false := by decide) (ht : w.testBit 3 = false := by decide)
    (hl : w.testBit 2 = false := by decide) (hm : w.testBit 37 = false := by decide) : s.SameStore y t :=
  ⟨k.sameIngest hr ht hl, k.sameByte y hm⟩

/-! ## Packets (R148, R153, R154) -/

/-- A packet seen and stripped stores nothing. -/
theorem State.seen_sameStore (s : State) (r p y : Nat) (crcOk : Bool) : s.SameStore y ((s.pathSeen r p).checkStrip r crcOk).1 :=
  ((State.pathSeen_keeps (.refl _ _) (within_self _)).sameStore y).trans
    ((State.checkStrip_keeps (.refl _ _) (within_self _)).sameStore y)

/-- What the checks of a packet may change: its receiver, the counts, and what a raised event and its log entry change. -/
def checkMask : Nat :=
  0x7e013700000040000000000000000000000000000000000000c000000000400000000000001800000000000000000000001000000000001e80000042

/-- A packet was counted by its checks, or came through them to its kind's action. -/
def State.Checked (act : State → State) (s t : State) : Prop := Keeps checkMask s t ∨ ∃ u, Keeps checkMask s u ∧ t = act u

theorem State.Checked.ite {act : State → State} {s t u : State} {c : Prop} [Decidable c] (h : s.Checked act t) (k : s.Checked act u) :
    s.Checked act (if c then t else u) := by
  split <;> assumption

theorem State.rxPacket_checked (s : State) (r p : Nat) (h : RxHead) (act : State → State) : s.Checked act (s.rxPacket r p h act) := by
  have seen : Keeps checkMask s ((s.pathSeen r p).checkStrip r h.crcOk).1 := State.checkStrip_keeps (State.pathSeen_keeps (.refl _ _))
  have late : checkMask.testBit (64 + (Reg.ING_RX_LATE_CNT 0).id % 1024) = true := by decide
  have astray : checkMask.testBit (64 + (Reg.ING_RX_TIME_ERR_CNT 0).id % 1024) = true := by decide
  unfold State.rxPacket
  dsimp only
  generalize ((s.pathSeen r p).checkStrip r h.crcOk).1 = u at seen
  exact .ite (.ite (.inl seen) (.ite (.inl (State.rxMalformed_keeps seen)) (.ite (.inl (State.duplicate_keeps seen))
    (.ite (.inl (State.bump_keeps late seen)) (.ite (.inl (State.bump_keeps astray seen)) (.inr ⟨_, State.acceptPacket_keeps seen, rfl⟩))))))
    (.inl (State.strayFrame_keeps (.refl _ _)))

/-- A packet stores nothing before its kind's action does. -/
theorem State.rxPacket_sameByte {s : State} {r p y : Nat} {h : RxHead} {act : State → State}
    (acts : ∀ u, s.SameStore y u → s.SameByte y (act u)) : s.SameByte y (s.rxPacket r p h act) := by
  rcases s.rxPacket_checked r p h act with counted | ⟨u, kept, acted⟩
  · exact counted.sameByte y
  · exact acted ▸ acts u (kept.sameStore y)

/-- Filling a picture leaves every byte beside its rows' writes. -/
theorem State.fillPic_sameByte {s t : State} {r y : Nat} {x : VideoPacket} (same : s.SameStore y t)
    (beside : ∀ b, ∀ e ∈ x.rows.flatMap (s.rowWrites r b), y < e.1 ∨ e.1 + e.2.length ≤ y) : s.SameByte y (t.fillPic r x) := by
  unfold State.fillPic
  dsimp only
  generalize hu : t.setRcv r _ = u
  have sameU : s.SameStore y u := same.trans (hu ▸ (State.setRcv_keeps (.refl _ _) (within_self _)).sameStore y)
  have closing : ∀ v : State, ∀ c : Bool, s.SameByte y v → s.SameByte y (if c = true then v.closePic r x.ts.toNat else v) := fun v c stored =>
    .ite (stored.trans ((State.closePic_keeps (.refl _ _) (within_self _)).sameByte y)) stored
  cases ((t.rcv r).pics.find? (fun q => q.ts == x.ts.toNat)).bind (fun q => q.buf) with
  | none => exact closing u _ sameU.byte
  | some b =>
    refine closing _ _ ?_
    dsimp only
    rw [State.storeRows_eq sameU.ingest]
    exact sameU.byte.trans (State.deviceStores_beside (beside b) u)

theorem State.videoRx_sameByte {s : State} {r p y : Nat} {x : VideoPacket}
    (beside : ∀ b, ∀ e ∈ x.rows.flatMap (s.rowWrites r b), y < e.1 ∨ e.1 + e.2.length ≤ y) : s.SameByte y (s.videoRx r p x) := by
  have seen := (s.seen_sameStore r p y x.crcOk).byte
  refine .ite seen (.ite seen (State.rxPacket_sameByte fun u same => State.fillPic_sameByte ?_ beside))
  split
  · exact same
  · exact same.trans ((State.openPic_keeps (.refl _ _) (within_self _)).sameStore y)

theorem leBytes_length (n v : Nat) : (leBytes n v).length = n := by
  induction n generalizing v with
  | zero => rfl
  | succ n ih => exact congrArg (· + 1) (ih _)

/-- An entry of an ancillary store has 1024 bytes. -/
theorem ancEntry_length (cap : Rat) (a : Anc) : (ancEntry cap a).length = 1024 := by
  have words : ((a.words.take 256).flatMap word10).length ≤ 512 := by
    have two : ∀ x ∈ a.words.take 256, (word10 x).length = 2 := fun x _ => leBytes_length 2 _
    rw [List.length_flatMap, List.map_congr_left two, List.map_const', List.sum_replicate, List.length_take]
    simp only [smul_eq_mul]
    omega
  simp only [ancEntry, List.length_append, List.length_replicate, leBytes_length, word10] at words ⊢
  omega

/-- An entry leaves every byte beside its store. -/
theorem State.ancWrite_sameStore {s t : State} {r y : Nat} {cap : Rat} {a : Anc} (same : s.SameStore y t)
    (beside : y < (s.storeArea r).base ∨ (s.storeArea r).base + 1024 * 2 ^ s.get (Reg.ING_RX_NFMT_ANC_LOG2 r) ≤ y) :
    s.SameStore y (t.ancWrite r cap a) := by
  refine ⟨same.ingest.trans ((State.ancWrite_keeps (.refl _ _) (within_self _)).sameIngest), ?_⟩
  have slot : ∀ k, k % 2 ^ s.get (Reg.ING_RX_NFMT_ANC_LOG2 r) < 2 ^ s.get (Reg.ING_RX_NFMT_ANC_LOG2 r) :=
    fun k => Nat.mod_lt _ (Nat.two_pow_pos _)
  have entry : ∀ k, t.SameByte y (t.deviceStore ((t.storeArea r).base + k % 2 ^ t.get (Reg.ING_RX_NFMT_ANC_LOG2 r) * 1024) (ancEntry cap a)) :=
    fun k => t.deviceStore_beside (by
      rw [ancEntry_length, same.ingest.storeBase, same.ingest.get (f := Reg.ING_RX_NFMT_ANC_LOG2 r) (Reg.ING_RX_NFMT_ANC_LOG2 0) rfl]
      have := slot k
      omega)
  refine same.byte.trans ?_
  unfold State.ancWrite
  dsimp only
  split
  · exact (entry _).trans (.of_mem (State.count_mem _ _ _))
  · exact entry _

/-! ## Safety Net packages (R196, R203) -/

/-- A package that is held leaves every byte beside the parts of its area: the two of content and the policy's. -/
theorem State.pkgHold_sameByte {s : State} {k y : Nat} {l : List Byte}
    (beside : ∀ part < 3, y < s.safAddr k part ∨ s.safAddr k part + l.length ≤ y)
    (parts : ∀ c, (s.saf k).cur = some c → c.part = 0 ∨ c.part = 1) : s.SameByte y (s.pkgHold k l) := by
  have placed : ∀ part x, part < 3 → s.SameByte y ((s.store (s.safAddr k part) l).setSaf k x) := fun part x h =>
    (show s.SameByte y (s.store (s.safAddr k part) l) from Memory.read_writeAll_outside l s.mem _ y (beside part h)).trans
      ((State.setSaf_keeps (.refl _ _) (within_self _)).sameByte y)
  unfold State.pkgHold
  refine .ite ?_ (.ite (placed 2 _ (by decide)) ?_)
  · exact ((State.setSaf_keeps (.refl _ _) (within_self _)).sameByte y).trans ((State.setKey_keeps (.refl _ _) (within_self _)).sameByte y)
  · cases hc : (s.saf k).cur with
    | none => exact placed 0 _ (by decide)
    | some c =>
      refine placed (1 - c.part) _ ?_
      have := parts c hc
      omega

theorem State.setAll_safs (l : List (Field × Nat)) (s : State) : (s.setAll l).safs = s.safs := by
  induction l generalizing s with
  | nil => rfl
  | cons e l ih => exact ih _

theorem State.setSaf_safs (s : State) (k : Nat) (x : Saf) : (s.setSaf k x).safs = Table.put s.safs k x := by
  unfold State.setSaf
  dsimp only
  split
  · exact State.setAll_safs _ _
  · rfl

theorem State.saf_setSaf (s : State) (k : Nat) (x : Saf) : (s.setSaf k x).saf k = x := by
  unfold State.saf
  rw [State.setSaf_safs]
  exact Table.getD_put_same _ _ _ _

/-- The status of an accepted package, shown for a slot. -/
def State.showAccepted (s : State) (k : Nat) : State := if k < 4 then s.set (Reg.SAF_SLOT_STATE_LAST_STATUS k) 0 else s

theorem State.showAccepted_safs (s : State) (k : Nat) : (s.showAccepted k).safs = s.safs := by
  unfold State.showAccepted
  split <;> rfl

theorem State.showAccepted_mem (s : State) (k : Nat) : (s.showAccepted k).mem = s.mem := by
  unfold State.showAccepted
  split <;> rfl

theorem State.showAccepted_base (s : State) (k : Nat) :
    (s.showAccepted k).get (Reg.SAF_SLOT_AREA_BASE k) = s.get (Reg.SAF_SLOT_AREA_BASE k) := by
  unfold State.showAccepted
  split
  · exact State.get_set_other _ _ _ _ (by decide : (Reg.SAF_SLOT_AREA_BASE 0).id % 1024 ≠ (Reg.SAF_SLOT_STATE_LAST_STATUS 0).id % 1024)
  · rfl

/-- What a package that is refused may change: its object, its slot's status and count, and what its completion and its log entry change. -/
def refusedMask : Nat :=
  0xf3f0000000000000000000000000000000000000000000000000000000000000000000000000000400000000000001800000000000000000000001000000000001e80000102

theorem refused_status : refusedMask.testBit (64 + (Reg.SAF_SLOT_STATE_LAST_STATUS 0).id % 1024) = true := by decide

theorem refused_count : refusedMask.testBit (64 + (Reg.SAF_SLOT_REFUSED_CNT 0).id % 1024) = true := by decide

/-- A package checked leaves every byte beside its area's parts. -/
theorem State.safChecked_sameByte {s : State} {k a : Nat} {y : SafCheck} {rest : List SafCheck} (waits : (s.saf k).checking = y :: rest)
    (beside : ∀ part < 3, a < s.safAddr k part ∨ s.safAddr k part + y.bytes.length ≤ a)
    (parts : ∀ c, (s.saf k).cur = some c → c.part = 0 ∨ c.part = 1) : s.SameByte a (s.safChecked k) := by
  obtain ⟨t, start, len, l⟩ := y
  let u := s.setSaf k { s.saf k with checking := rest }
  have taken : Keeps _ s u := State.setSaf_keeps (.refl _ _) (within_self _)
  have cur : ((u.showAccepted k).saf k).cur = (s.saf k).cur := by
    have same : (u.showAccepted k).saf k = u.saf k := congrArg (fun t => Table.getD t k Saf.reset) (u.showAccepted_safs k)
    rw [same, State.saf_setSaf]
  have held : (u.showAccepted k).SameByte a ((u.showAccepted k).pkgHold k l) := by
    refine State.pkgHold_sameByte (fun part h => ?_) ?_
    · unfold State.safAddr
      rw [u.showAccepted_base k, taken.get_like (f := Reg.SAF_SLOT_AREA_BASE k) (Reg.SAF_SLOT_AREA_BASE 0) rfl rfl]
      exact beside part h
    · rw [cur]
      exact parts
  have accepted : s.SameByte a ((u.showAccepted k).pkgHold k l) :=
    ((taken.sameByte a).trans (.of_mem (u.showAccepted_mem k))).trans held
  unfold State.safChecked
  rw [waits]
  dsimp only
  refine .ite ?_ ?_
  · refine accepted.trans (Keeps.sameByte (w := 0x400000000000001800000000000000000000001000000000001e81000002) ?_ a)
    exact State.complete_keeps (State.offer_keeps (State.mirror3_keeps (.refl _ _)))
  · refine Keeps.sameByte (w := refusedMask) ?_ a
    refine State.complete_keeps (State.logHash_keeps (.ite _ ?_ (State.setSaf_keeps (.refl _ s))))
    exact State.set_keeps refused_status (State.bump_keeps refused_count (State.setSaf_keeps (.refl _ s)))

/-! ## Mirrored data (R432, R433) -/

/-- Data at a device address leaves every byte beside it. -/
theorem State.mirrorStore_sameByte (s : State) {a y : Nat} {l : List Byte} (beside : y < a ∨ a + l.length ≤ y) (poison : Bool) :
    s.SameByte y (s.mirrorStore a l poison) := by
  have stored : s.SameByte y (s.deviceStore a l) := s.deviceStore_beside beside
  refine .ite (.ite (stored.trans ?_) stored) rfl
  exact (State.poisonRange_keeps (.refl _ _) (within_self _)).sameByte y

/-- A block leaves every byte beside its 512. -/
theorem State.refBlock_sameByte (s : State) {a y : Nat} (sectors : Nat) (l : List Byte) (poison : Bool) (beside : y < a ∨ a + 512 ≤ y) :
    s.SameByte y (s.refBlock a sectors l poison) := by
  have short : (l.take 512).length ≤ 512 := List.length_take_le _ _
  exact .ite ((s.mirrorStore_sameByte (by omega) poison).trans ((State.putRun_keeps (.refl _ _) (within_self _)).sameByte y)) rfl

/-- Blocks leave every byte beside them. -/
theorem State.refBlocks_sameByte (s : State) {a y : Nat} (blocks : List (Fin 8 × List Byte)) (poison : Bool)
    (beside : y < a ∨ a + 512 * blocks.length ≤ y) :
    s.SameByte y (blocks.zipIdx.foldl (fun (t : State) e => t.refBlock (a + 512 * e.2) e.1.1 e.1.2 poison) s) := by
  refine foldl_sameByte (fun t e he => t.refBlock_sameByte _ _ _ ?_) s
  have index := List.snd_lt_of_mem_zipIdx he
  omega

end Sys2Proof.Machine
end

/-! # Proofs: audio inputs and their capture rings (R357 to R360, R370) -/

section
namespace Sys2Proof.Machine

-- One theorem at a time: the text is compiled as one, and more threads would not fit in memory.
set_option Elab.async false

open Sys2Proof

/-! ## Samples kept -/

/-- Nothing but the samples kept of the channels differs. -/
def State.OnlySamples (s t : State) : Prop := ∃ m, t = { s with aud := { s.aud with samples := m } }

theorem State.OnlySamples.refl (s : State) : s.OnlySamples s := ⟨s.aud.samples, rfl⟩

theorem State.OnlySamples.trans {s t u : State} (h : s.OnlySamples t) (k : t.OnlySamples u) : s.OnlySamples u := by
  obtain ⟨m, rfl⟩ := h
  obtain ⟨n, rfl⟩ := k
  exact ⟨n, rfl⟩

theorem State.OnlySamples.ite {s t u : State} {c : Prop} [Decidable c] (h : s.OnlySamples t) (k : s.OnlySamples u) :
    s.OnlySamples (if c then t else u) := by
  split <;> assumption

theorem State.OnlySamples.audIn {s t : State} (h : s.OnlySamples t) (k : Nat) : t.audIn k = s.audIn k := by
  obtain ⟨m, rfl⟩ := h
  rfl

theorem State.OnlySamples.get {s t : State} (h : s.OnlySamples t) (f : Field) : t.get f = s.get f := by
  obtain ⟨m, rfl⟩ := h
  rfl

theorem State.OnlySamples.mem {s t : State} (h : s.OnlySamples t) : t.mem = s.mem := by
  obtain ⟨m, rfl⟩ := h
  rfl

theorem State.keepSample_only (s : State) (c : Nat) (cap : Rat) (v : Int) : s.OnlySamples (s.keepSample c cap v) := ⟨_, rfl⟩

theorem State.placeSync_only (s : State) (j c : Nat) (g v : Int) : s.OnlySamples (s.placeSync j c g v) := s.keepSample_only _ _ _

/-- A fold whose every step changes only samples changes only samples. -/
theorem foldl_onlySamples {α : Type} {f : State → α → State} {l : List α} {s : State} (h : ∀ t x, s.OnlySamples t → s.OnlySamples (f t x)) :
    s.OnlySamples (l.foldl f s) :=
  List.foldlRecOn l f (motive := fun t => s.OnlySamples t) (.refl s) fun t ht x _ => h t x ht

theorem State.keepSamples_only (s : State) (first : Nat) (cap : Rat) (v : Nat → Int) (l : List Nat) :
    s.OnlySamples (l.foldl (fun (t : State) c => t.keepSample (first + c) cap (v c)) s) :=
  foldl_onlySamples fun t _ h => h.trans (t.keepSample_only _ _ _)

theorem State.rampOut_only (s : State) (j : Nat) : s.OnlySamples (s.rampOut j) :=
  foldl_onlySamples fun _ _ h => (h.trans (State.placeSync_only _ _ _ _ _)).trans (State.placeSync_only _ _ _ _ _)

/-! ## Capture rings (R370) -/

/-- No channel of an input is captured and no block of it is under way. -/
structure State.Silent (s : State) (k : Nat) : Prop where
  mask : s.capMask k = 0
  part : (s.audIn k).part = []

theorem State.Silent.congr {s t : State} {k : Nat} (h : s.Silent k) (part : (t.audIn k).part = (s.audIn k).part)
    (lo : t.get (Reg.AUD_IN_CAP_MASK_LO k) = s.get (Reg.AUD_IN_CAP_MASK_LO k))
    (hi : t.get (Reg.AUD_IN_CAP_MASK_HI k) = s.get (Reg.AUD_IN_CAP_MASK_HI k)) : t.Silent k := by
  refine ⟨?_, part.trans h.part⟩
  rw [State.capMask, lo, hi]
  exact h.mask

/-- What keeps the masks of the capture rings, and the block under way of one, leaves it silent. -/
theorem State.Silent.keeps {s t : State} {k w : Nat} (h : s.Silent k) (part : (t.audIn k).part = (s.audIn k).part) (kept : Keeps w s t)
    (lo : w.testBit (64 + (Reg.AUD_IN_CAP_MASK_LO 0).id % 1024) = false := by decide)
    (hi : w.testBit (64 + (Reg.AUD_IN_CAP_MASK_HI 0).id % 1024) = false := by decide) : t.Silent k :=
  h.congr part (kept.get_like (Reg.AUD_IN_CAP_MASK_LO 0) rfl lo) (kept.get_like (Reg.AUD_IN_CAP_MASK_HI 0) rfl hi)

theorem State.Silent.only {s t : State} {k : Nat} (h : s.Silent k) (only : s.OnlySamples t) : t.Silent k :=
  h.congr (congrArg AudIn.part (only.audIn k)) (only.get _) (only.get _)

theorem State.Silent.capture {s : State} {k : Nat} (h : s.Silent k) (cap : Rat) (v : List Int) (loss : Bool) : s.capture k cap v loss = s := by
  unfold State.capture
  dsimp only
  rw [h.part, h.mask]
  rfl

theorem State.Silent.captureGap {s : State} {k : Nat} (h : s.Silent k) (v : List Int) (n : Nat) : State.captureGap k v n s = s := by
  cases n with
  | zero => rfl
  | succ n =>
    unfold State.captureGap
    rw [h.part]
    rfl

/-- A silent input's samples are kept and nothing else. -/
theorem State.Silent.netSamples {s : State} {r : Nat} (h : s.Silent r) (cap : Rat) (x : AudioPacket) : s.OnlySamples (s.netSamples r cap x) := by
  refine foldl_onlySamples fun t i only => ?_
  have silent := h.only only
  dsimp only
  rw [silent.captureGap]
  rw [(silent.only (State.keepSamples_only _ _ _ _ _)).capture]
  exact only.trans (State.keepSamples_only _ _ _ _ _)

/-- A block written changes what is under way of it and its number, and no other part of its input. -/
theorem State.writeBlock_audIn (s : State) (k : Nat) :
    (s.writeBlock k).audIn k = { s.audIn k with seq := ((s.audIn k).seq + 1) % 2 ^ 32, part := [], loss := false } := by
  refine Eq.trans ?_ (State.audIn_setAudIn s k _)
  unfold State.writeBlock State.audIn
  dsimp only
  split
  · rw [(State.deviceStore_keeps (.refl _ _) (within_self _)).audKept rfl]
  · rfl

/-- What capturing leaves of an input: everything but its block. -/
theorem State.capture_audIn (s : State) (k : Nat) (cap : Rat) (v : List Int) (loss : Bool) :
    ∃ m start part lost seq, (s.capture k cap v loss).audIn k =
      { s.audIn k with mask := m, start := start, part := part, loss := lost, seq := seq } := by
  unfold State.capture
  dsimp only
  generalize (if (s.audIn k).part.isEmpty then s.capMask k else (s.audIn k).mask) = m
  split
  · exact ⟨_, _, _, _, _, rfl⟩
  · split
    · rw [State.writeBlock_audIn, State.audIn_setAudIn]
      exact ⟨_, _, _, _, _, rfl⟩
    · rw [State.audIn_setAudIn]
      exact ⟨_, _, _, _, _, rfl⟩

/-! ## Frames of a locked input (R359) -/

/-- The status blocks of an input once the block of channel c is taken, or refused by its CRCC. -/
def AudIn.statusTaken (y : AudIn) (c : Nat) (b : List Byte) : List Byte :=
  if ((b.drop 23).headD 0).toNat = crcc b then (if c = 0 then b ++ y.status.drop 24 else y.status.take 24 ++ b) else y.status

theorem State.takeStatus_audIn (s : State) (j c : Nat) (b : List Byte) :
    (s.takeStatus j c b).audIn j = { s.audIn j with status := (s.audIn j).statusTaken c b } := by
  unfold State.takeStatus AudIn.statusTaken
  dsimp only
  split
  · exact State.audIn_setAudIn s j _
  · rfl

theorem State.takeBits_audIn (s : State) (j : Nat) (f : AesFrame) :
    ∃ b u l, (s.takeBits j f).audIn j = { s.audIn j with block := b, user := u, status := l } := by
  unfold State.takeBits
  dsimp only
  split
  · exact ⟨_, _, _, rfl⟩
  · split
    · exact ⟨_, _, _, State.audIn_setAudIn s j _⟩
    · rw [State.takeStatus_audIn, State.takeStatus_audIn, State.audIn_setAudIn]
      exact ⟨_, _, _, rfl⟩

/-- A frame's status and user bits and its errors are noted. -/
def State.aesNoted (s : State) (j : Nat) (f : AesFrame) : State :=
  if f.valid then
    ((s.count (Reg.AUD_IN_PARITY_CNT j) (b2n (!f.a.parityOk) + b2n (!f.b.parityOk))).count (Reg.AUD_IN_INVALID_CNT j)
      (b2n f.a.invalid + b2n f.b.invalid)).takeBits j f
  else s

theorem State.count_aud (s : State) (f : Field) (n : Nat) : (s.count f n).aud = s.aud := by
  unfold State.count
  split <;> rfl

theorem State.aesNoted_audIn (s : State) (j : Nat) (f : AesFrame) :
    ∃ b u l, (s.aesNoted j f).audIn j = { s.audIn j with block := b, user := u, status := l } := by
  unfold State.aesNoted
  split
  · obtain ⟨b, u, l, taken⟩ := State.takeBits_audIn ((s.count (Reg.AUD_IN_PARITY_CNT j) _).count (Reg.AUD_IN_INVALID_CNT j) _) j f
    refine ⟨b, u, l, taken.trans ?_⟩
    unfold State.audIn
    rw [State.count_aud, State.count_aud]
  · exact ⟨_, _, _, rfl⟩

/-- What noting a frame may change: its input's errors and status, and the input itself. -/
def notedMask : Nat :=
  0x35800000000000000000000000000000000000000000000000000000000000000000000000000000000000000000000000000000000000000000000000000000000000000000000000000000000000000000000000000000000000008002

theorem State.aesNoted_keeps (s : State) (j : Nat) (f : AesFrame) : Keeps notedMask s (s.aesNoted j f) := by
  have parity : notedMask.testBit (64 + (Reg.AUD_IN_PARITY_CNT 0).id % 1024) = true := by decide
  have invalid : notedMask.testBit (64 + (Reg.AUD_IN_INVALID_CNT 0).id % 1024) = true := by decide
  exact .ite _ (State.takeBits_keeps (State.count_keeps invalid (State.count_keeps parity (.refl _ _)))) (.refl _ _)

/-- A frame of a locked input is noted, its values are kept as the last ones, and what is placed on the grid comes to the capture ring. -/
theorem State.aesFrame_captures (s : State) (j : Nat) (f : AesFrame) (x : Rat) :
    ∃ fade grid t v loss, s.aesFrame j f x = t.capture j x v loss ∧
      ((s.aesNoted j f).setAudIn j { (s.aesNoted j f).audIn j with
        last := (subValue f.valid f.a (s.audIn j).last.1, subValue f.valid f.b (s.audIn j).last.2), fade := fade, grid := grid }).OnlySamples t := by
  refine ⟨if (s.audIn j).decided then min (perMs (s.get (Reg.AUD_IN_SRATE j))) ((s.audIn j).fade + 1) else 0,
    ((s.audIn j).grid.1 + 1, (s.audIn j).grid.2 + 1), _, _, _, rfl, ?_⟩
  exact .ite ((State.placeSync_only _ _ _ _ _).trans (State.placeSync_only _ _ _ _ _)) (.refl _)

/-- The values of a frame of a locked input are its last ones, and whether it was valid stays noted. -/
theorem State.aesFrame_last (s : State) (j : Nat) (f : AesFrame) (x : Rat) :
    ((s.aesFrame j f x).audIn j).bad = (s.audIn j).bad ∧ ((s.aesFrame j f x).audIn j).last =
      (subValue f.valid f.a (s.audIn j).last.1, subValue f.valid f.b (s.audIn j).last.2) := by
  obtain ⟨fade, grid, t, v, loss, placed, only⟩ := s.aesFrame_captures j f x
  obtain ⟨m, start, part, lost, seq, captured⟩ := t.capture_audIn j x v loss
  obtain ⟨b, u, l, noted⟩ := s.aesNoted_audIn j f
  rw [placed, captured, only.audIn, State.audIn_setAudIn, noted]
  exact ⟨rfl, rfl⟩

/-- A frame of a silent input stores nothing. -/
theorem State.Silent.aesFrame_mem {s : State} {j : Nat} (h : s.Silent j) (f : AesFrame) (x : Rat) : (s.aesFrame j f x).mem = s.mem := by
  obtain ⟨fade, grid, t, v, loss, placed, only⟩ := s.aesFrame_captures j f x
  obtain ⟨b, u, l, noted⟩ := s.aesNoted_audIn j f
  have kept := s.aesNoted_keeps j f
  have silent : ((s.aesNoted j f).setAudIn j { (s.aesNoted j f).audIn j with
      last := (subValue f.valid f.a (s.audIn j).last.1, subValue f.valid f.b (s.audIn j).last.2), fade := fade, grid := grid }).Silent j :=
    h.keeps (by rw [State.audIn_setAudIn, noted]) (State.setAudIn_keeps kept)
  rw [placed, (silent.only only).capture, only.mem]
  exact kept.memKept rfl

/-! ## Lock (R358, R360) -/

/-- The end of a lock, once the channels' ramps are placed and the block under way is filled. -/
def State.aesEnd (s : State) (j : Nat) (rate : Bool) (silentAt : Rat) : State :=
  let s3 := (s.setAudIn j { s.audIn j with
    good := 0, bad := false, decided := false, block := none, kinds := ((silentAt, 0) :: (s.audIn j).kinds).take 16 }).setAll
      [(Reg.AUD_IN_LOCK j, 0), (Reg.AUD_IN_ASRC j, 0)]
  let s4 := if rate then (s3.bump (Reg.AUD_IN_RATE_ERR_CNT j)).raise 0x6E02 (objAudio j) {} else s3
  (s4.bump (Reg.AUD_IN_LOSS_CNT j)).raise 0x6E01 (objAudio j) {}

/-- A decided input's channels ramp out. -/
def State.aesRamped (s : State) (j : Nat) : State :=
  if (s.audIn j).decided then (if s.get (Reg.AUD_IN_ASRC j) = 0 then s else s.regrid j).rampOut j else s

theorem State.aesLoss_locked {s : State} {j : Nat} (h : s.on (Reg.AUD_IN_LOCK j) = true) (rate : Bool) :
    s.aesLoss j rate = (State.captureGap j [0, 0] 96 (s.aesRamped j)).aesEnd j rate ((s.activeDt : Rat) + usU 1000) := if_pos h

/-- A silent input that loses its lock stores nothing. -/
theorem State.Silent.aesLoss_mem {s : State} {j : Nat} (h : s.Silent j) (rate : Bool) : (s.aesLoss j rate).mem = s.mem := by
  have regridded : ∀ u : State, u.Silent j → (u.regrid j).Silent j := fun u hu =>
    hu.congr ((congrArg AudIn.part (State.audIn_setAudIn u j _)).trans rfl) rfl rfl
  have ramped : (s.aesRamped j).Silent j ∧ (s.aesRamped j).mem = s.mem := by
    unfold State.aesRamped
    split
    · split
      · exact ⟨h.only (State.rampOut_only _ _), (State.rampOut_only _ _).mem⟩
      · exact ⟨(regridded s h).only (State.rampOut_only _ _), (State.rampOut_only _ _).mem⟩
    · exact ⟨h, rfl⟩
  cases locked : s.on (Reg.AUD_IN_LOCK j) with
  | false => exact congrArg State.mem (if_neg (by rw [locked]; decide))
  | true =>
    rw [State.aesLoss_locked locked, ramped.1.captureGap]
    refine ((State.raise_keeps (.refl _ _) (within_self _)).memKept rfl).trans ((State.count_mem _ _ _).trans ?_)
    cases rate with
    | false => exact ramped.2
    | true => exact ((State.raise_keeps (.refl _ _) (within_self _)).memKept rfl).trans ((State.count_mem _ _ _).trans ramped.2)

/-- A frame of a silent input stores nothing, whatever the input's lock. -/
theorem State.Silent.aesRx_mem {s : State} {j : Nat} (h : s.Silent j) (f : AesFrame) : (s.aesRx j f).mem = s.mem := by
  have noted : (s.setAudIn j { s.audIn j with bad := !f.valid }).Silent j := 
    h.congr (by rw [State.audIn_setAudIn]) rfl rfl
  unfold State.aesRx
  dsimp only
  split
  · split
    · split
      · exact h.aesLoss_mem false
      · exact noted.aesFrame_mem f _
    · split
      · split
        · exact (State.aesLock_keeps (.refl _ _) (within_self _)).memKept rfl
        · rfl
      · rfl
  · rfl

/-- Settles O60. Each storing command's writes stand where its own equation places them, and a byte beside them keeps its value through each; what
else the command does reaches no memory. A silent input's samples come to no ring. -/
theorem storingCommandsKeepOtherBytes : Obligations.StoringCommandsKeepOtherBytes := by
  unfold Obligations.StoringCommandsKeepOtherBytes
  intro s t a
  refine ⟨fun r p x ran beside => ?_, fun r p x ran beside => ?_, fun k y rest waits ran beside parts => ?_,
    fun n l ran beside parts => ?_, fun n pic b l poison ran beside => ?_, fun b l poison ran beside => ?_,
    fun quiet => ⟨fun r p x ran => ?_, fun j f ran => ?_⟩⟩ <;> cases ran
  · refine State.videoRx_sameByte fun b e he => ?_
    obtain ⟨row, hrow, hw⟩ := List.mem_flatMap.1 he
    obtain ⟨plane, hplane, rfl⟩ := List.mem_map.1 hw
    exact beside b row hrow plane hplane
  · refine State.rxPacket_sameByte fun u same => ?_
    exact (List.foldlRecOn x.ancs _ (motive := fun t => s.SameStore a t) same fun t ht _ _ => State.ancWrite_sameStore ht beside).byte
  · exact State.safChecked_sameByte waits beside parts
  · refine State.SameByte.ite (s := s) rfl (.ite ((State.strayRecord_keeps (.refl _ _) (within_self _)).sameByte a) (.ite ?_ rfl))
    exact (State.pkgHold_sameByte beside parts).trans ((State.descShown_keeps (.refl _ _) (within_self _)).sameByte a)
  · exact State.SameByte.ite (s := s) (s.refBlocks_sameByte l poison beside) rfl
  · exact State.SameByte.ite (s := s) ((s.mirrorStore_sameByte beside poison).trans
      ((State.descShown_keeps (.refl _ _) (within_self _)).sameByte a)) rfl
  · rcases s.rxPacket_checked (32 + r) p _ _ with counted | ⟨u, kept, acted⟩
    · exact counted.sameByte a
    · have silent : s.Silent (32 + r) := ⟨(quiet _).1, (quiet _).2⟩
      have part : (u.audIn (32 + r)).part = (s.audIn (32 + r)).part := by rw [State.audIn, kept.audKept rfl]; rfl
      have stored := ((silent.keeps part kept).netSamples (s.rtpDt (rateOfS (s.get (Reg.ING_RX_AFMT_SRATE (32 + r.val)))) x.ts.toNat) x).mem
      exact acted ▸ State.SameByte.of_mem (stored.trans (kept.memKept rfl))
  · exact State.SameByte.of_mem (State.Silent.aesRx_mem ⟨(quiet j).1, (quiet j).2⟩ f)

end Sys2Proof.Machine
end

/-! # Proofs: what the audio inputs do (R147, R357 to R360, R362, R363) -/

section
namespace Sys2Proof.Machine

-- One theorem at a time: the text is compiled as one, and more threads would not fit in memory.
set_option Elab.async false

open Sys2Proof

/-! ## Signed values -/

/-- The signed number that a word's bits stand for. -/
theorem signed_toNat {w : Nat} (x : BitVec w) (hw : 0 < w) : signed w x.toNat = x.toInt := by
  have small := x.isLt
  have half : 2 ^ w = 2 * 2 ^ (w - 1) := by rw [← Nat.pow_succ', Nat.succ_eq_add_one, Nat.sub_add_cancel hw]
  rw [signed, BitVec.toInt_eq_toNat_cond, Nat.mod_eq_of_lt small]
  split <;> split <;> omega

/-- A raised event leaves a field of a name that is none of its own. -/
theorem State.raise_get (s : State) (c : Code) (o : Nat) (d : Detail) (f g : Field) (hf : f.id = g.id)
    (h : Nat.testBit 0x400000000000000000000000000000000000001000000000000680000002 (64 + g.id % 1024) = false := by decide) :
    (s.raise c o d).get f = s.get f :=
  (State.raise_keeps (.refl _ s) (within_self _)).get_like g hf h

/-! ## AES3 inputs (R357, R358) -/

/-- An AES3 input whose frames count: Calliope is powered, the input enabled, the active domain too. -/
def State.aesLive (s : State) (j : Nat) : Bool := s.audioOn && s.on (Reg.AUD_IN_ENABLE j) && s.domEnabled s.activeDom

section
variable {s : State} {j : Nat} {f : AesFrame} (live : s.aesLive j = true)
include live

/-- The 64th valid frame in a row gains lock. -/
theorem State.aesRx_locks (lock : s.on (Reg.AUD_IN_LOCK j) = false) (ok : (f.valid && f.a.parityOk && f.b.parityOk) = true)
    (run : 63 ≤ (s.audIn j).good) :
    s.aesRx j f = (s.setAudIn j { s.audIn j with good := 0 }).aesLock j (s.activeMap.at16 s.lc f.sub.val : Int) :=
  (if_pos live).trans ((if_neg (by rw [lock]; decide)).trans ((if_pos ok).trans (if_pos run)))

/-- An earlier valid frame is counted. -/
theorem State.aesRx_counts (lock : s.on (Reg.AUD_IN_LOCK j) = false) (ok : (f.valid && f.a.parityOk && f.b.parityOk) = true)
    (run : (s.audIn j).good < 63) : s.aesRx j f = s.setAudIn j { s.audIn j with good := (s.audIn j).good + 1 } :=
  (if_pos live).trans ((if_neg (by rw [lock]; decide)).trans ((if_pos ok).trans (if_neg (by omega))))

/-- A frame of a locked input is taken, unless it is the second invalid one running. -/
theorem State.aesRx_takes (lock : s.on (Reg.AUD_IN_LOCK j) = true) (go : f.valid = true ∨ (s.audIn j).bad = false) :
    s.aesRx j f = (s.setAudIn j { s.audIn j with bad := !f.valid }).aesFrame j f (s.activeMap.at16 s.lc f.sub.val : Int) :=
  (if_pos live).trans ((if_pos lock).trans (if_neg (by rcases go with h | h <;> simp [h])))

/-- The second invalid frame running ends the lock. -/
theorem State.aesRx_loses (lock : s.on (Reg.AUD_IN_LOCK j) = true) (invalid : f.valid = false) (bad : (s.audIn j).bad = true) :
    s.aesRx j f = s.aesLoss j false :=
  (if_pos live).trans ((if_pos lock).trans (if_pos (by rw [invalid, bad]; rfl)))

end

/-- Gaining lock sets LOCK and raises 0x0E01, whatever mapping the mode decides. -/
theorem State.aesLock_acts (s : State) (j : Nat) (x : Rat) : (s.aesLock j x).get (Reg.AUD_IN_LOCK j) = 1 ∧ (s.aesLock j x).Latches 0x0E01 := by
  let u := (s.setAudIn j { s.audIn j with lockAt := s.lc, decided := false, fade := 0, block := none }).set (Reg.AUD_IN_LOCK j) 1
  let t := u.raise 0x0E01 (objAudio j) {}
  have raised : t.get (Reg.AUD_IN_LOCK j) = 1 :=
    (u.raise_get _ _ _ (Reg.AUD_IN_LOCK j) (Reg.AUD_IN_LOCK 0) rfl).trans (State.get_set_fits (by decide : 1 < 2 ^ 1) _)
  have latched : t.Latches 0x0E01 := State.raise_latches _ _ _ _
  have mapped : ∀ v, (t.mapInput j v x).get (Reg.AUD_IN_LOCK j) = 1 ∧ (t.mapInput j v x).Latches 0x0E01 := fun v => by
    have kept : Keeps _ t (t.mapInput j v x) := State.mapInput_keeps (.refl _ _) (within_self _)
    exact ⟨(kept.get_like (f := Reg.AUD_IN_LOCK j) (Reg.AUD_IN_LOCK 0) rfl rfl).trans raised, latched.stay kept.latchesStay⟩
  unfold State.aesLock
  dsimp only
  split
  · exact mapped true
  · split
    · exact mapped false
    · exact ⟨raised, latched⟩

/-- An input that lost its lock, nothing counted yet. -/
def State.aesUnlocked (s : State) (j : Nat) (y : Rat) : State :=
  (s.setAudIn j { s.audIn j with
    good := 0, bad := false, decided := false, block := none, kinds := ((y, 0) :: (s.audIn j).kinds).take 16 }).setAll
      [(Reg.AUD_IN_LOCK j, 0), (Reg.AUD_IN_ASRC j, 0)]

/-- A lock lost by its rate is counted and raised as such. -/
def State.rateLost (s : State) (j : Nat) (rate : Bool) : State :=
  if rate then (s.bump (Reg.AUD_IN_RATE_ERR_CNT j)).raise 0x6E02 (objAudio j) {} else s

theorem State.aesEnd_eq (s : State) (j : Nat) (rate : Bool) (y : Rat) : s.aesEnd j rate y =
    ((((s.aesUnlocked j y).rateLost j rate).bump (Reg.AUD_IN_LOSS_CNT j)).raise 0x6E01 (objAudio j) {}) := rfl

theorem State.aesUnlocked_lock (s : State) (j : Nat) (y : Rat) : (s.aesUnlocked j y).get (Reg.AUD_IN_LOCK j) = 0 :=
  (State.get_set_other _ (Reg.AUD_IN_ASRC j) (Reg.AUD_IN_LOCK j) _
    (by decide : (Reg.AUD_IN_LOCK 0).id % 1024 ≠ (Reg.AUD_IN_ASRC 0).id % 1024)).trans (State.get_set_fits (by decide : 0 < 2 ^ 1) _)

theorem State.aesUnlocked_get (s : State) (j : Nat) (y : Rat) (f g : Field) (hf : f.id = g.id)
    (hg : g.id % 1024 ∉ [Reg.AUD_IN_LOCK 0, Reg.AUD_IN_ASRC 0].map (fun h => h.id % 1024) := by decide) :
    (s.aesUnlocked j y).get f = s.get f :=
  State.setAll_get_name _ (hf ▸ hg)

/-- What a lock lost by its rate may change. -/
def rateMask : Nat :=
  0x40000000000000000000000000000000000000000000000000000000000000000000000000000000000000000000000000000000000000000000000000000000400000000000000000000000000000000000001000000000000680000002

theorem State.rateLost_keeps (s : State) (j : Nat) (rate : Bool) : Keeps rateMask s (s.rateLost j rate) := by
  have counts : rateMask.testBit (64 + (Reg.AUD_IN_RATE_ERR_CNT 0).id % 1024) = true := by decide
  exact .ite _ (State.raise_keeps (State.bump_keeps counts (.refl _ _))) (.refl _ _)

theorem State.rateLost_counted (s : State) (j : Nat) : s.Counted (s.rateLost j true) (Reg.AUD_IN_RATE_ERR_CNT j) :=
  (s.bump_counted _).after (State.raise_get _ 0x6E02 (objAudio j) {} (Reg.AUD_IN_RATE_ERR_CNT j) (Reg.AUD_IN_RATE_ERR_CNT 0) rfl)

/-- Losing lock clears LOCK, is counted and raises 0x6E01; lost by its rate, it counts that too. -/
theorem State.aesEnd_acts (s : State) (j : Nat) (rate : Bool) (y : Rat) :
    (s.aesEnd j rate y).get (Reg.AUD_IN_LOCK j) = 0 ∧ s.Counted (s.aesEnd j rate y) (Reg.AUD_IN_LOSS_CNT j) ∧
      (s.aesEnd j rate y).Latches 0x6E01 ∧ (rate = true → s.Counted (s.aesEnd j rate y) (Reg.AUD_IN_RATE_ERR_CNT j)) := by
  have rated := (s.aesUnlocked j y).rateLost_keeps j rate
  rw [State.aesEnd_eq]
  refine ⟨?_, ?_, State.raise_latches _ _ _ _, fun hr => ?_⟩
  · rw [State.raise_get _ _ _ _ (Reg.AUD_IN_LOCK j) (Reg.AUD_IN_LOCK 0) rfl, State.bump_other _ (Reg.AUD_IN_LOSS_CNT j) (Reg.AUD_IN_LOCK j)
      (by decide : (Reg.AUD_IN_LOCK 0).id % 1024 ≠ (Reg.AUD_IN_LOSS_CNT 0).id % 1024),
      rated.get_like (f := Reg.AUD_IN_LOCK j) (Reg.AUD_IN_LOCK 0) rfl rfl, State.aesUnlocked_lock]
  · refine ((State.bump_counted _ _).before ?_).after (State.raise_get _ _ _ _ (Reg.AUD_IN_LOSS_CNT j) (Reg.AUD_IN_LOSS_CNT 0) rfl)
    rw [rated.get_like (f := Reg.AUD_IN_LOSS_CNT j) (Reg.AUD_IN_LOSS_CNT 0) rfl rfl,
      s.aesUnlocked_get j y (Reg.AUD_IN_LOSS_CNT j) (Reg.AUD_IN_LOSS_CNT 0) rfl]
  · subst hr
    refine ((State.rateLost_counted _ j).before (s.aesUnlocked_get j y (Reg.AUD_IN_RATE_ERR_CNT j) (Reg.AUD_IN_RATE_ERR_CNT 0) rfl)).after ?_
    rw [State.raise_get _ _ _ _ (Reg.AUD_IN_RATE_ERR_CNT j) (Reg.AUD_IN_RATE_ERR_CNT 0) rfl]
    exact State.bump_other _ (Reg.AUD_IN_LOSS_CNT j) (Reg.AUD_IN_RATE_ERR_CNT j)
      (by decide : (Reg.AUD_IN_RATE_ERR_CNT 0).id % 1024 ≠ (Reg.AUD_IN_LOSS_CNT 0).id % 1024)

theorem State.aesRamped_keeps (s : State) (j : Nat) : Keeps 0x8000 s (s.aesRamped j) := by
  unfold State.aesRamped
  exact .ite _ (State.rampOut_keeps (.ite _ (.refl _ _) (State.regrid_keeps (.refl _ _)))) (.refl _ _)

/-- A locked input that loses its lock. -/
theorem State.aesLoss_acts {s : State} {j : Nat} (lock : s.on (Reg.AUD_IN_LOCK j) = true) (rate : Bool) :
    (s.aesLoss j rate).get (Reg.AUD_IN_LOCK j) = 0 ∧ s.Counted (s.aesLoss j rate) (Reg.AUD_IN_LOSS_CNT j) ∧
      (s.aesLoss j rate).Latches 0x6E01 ∧ (rate = true → s.Counted (s.aesLoss j rate) (Reg.AUD_IN_RATE_ERR_CNT j)) := by
  have ramped := s.aesRamped_keeps j
  have filled : Keeps _ (s.aesRamped j) (State.captureGap j [0, 0] 96 (s.aesRamped j)) := State.captureGap_keeps (.refl _ _) (within_self _)
  rw [State.aesLoss_locked lock]
  obtain ⟨off, lost, latched, rated⟩ := State.aesEnd_acts (State.captureGap j [0, 0] 96 (s.aesRamped j)) j rate ((s.activeDt : Rat) + usU 1000)
  refine ⟨off, lost.before ?_, latched, fun hr => (rated hr).before ?_⟩
  · rw [filled.get_like (f := Reg.AUD_IN_LOSS_CNT j) (Reg.AUD_IN_LOSS_CNT 0) rfl rfl,
      ramped.get_like (f := Reg.AUD_IN_LOSS_CNT j) (Reg.AUD_IN_LOSS_CNT 0) rfl rfl]
  · rw [filled.get_like (f := Reg.AUD_IN_RATE_ERR_CNT j) (Reg.AUD_IN_RATE_ERR_CNT 0) rfl rfl,
      ramped.get_like (f := Reg.AUD_IN_RATE_ERR_CNT j) (Reg.AUD_IN_RATE_ERR_CNT 0) rfl rfl]

/-! ## Mapping and slips (R360) -/

/-- The measured input of an AUTO mapping is decided, and shows its rate and whether it is asynchronous. -/
theorem State.asrcDecide_acts {s : State} {j : Nat} (ppm : BitVec 16) (lock : s.on (Reg.AUD_IN_LOCK j) = true)
    (auto : s.get (Reg.AUD_IN_ASRC_MODE j) = 0) (open_ : (s.audIn j).decided = false) (measured : (s.audIn j).lockAt + 100000 * ticksPerUs ≤ s.lc) :
    ((s.asrcDecide j ppm.toNat).audIn j).decided = true ∧ (s.asrcDecide j ppm.toNat).Reads
      [(Reg.AUD_IN_RATE_PPM j, ppm.toNat), (Reg.AUD_IN_ASRC j, if 50 < ppm.toInt.natAbs then 1 else 0)] := by
  have decides : s.asrcDecide j ppm.toNat =
      (s.set (Reg.AUD_IN_RATE_PPM j) ppm.toNat).mapInput j (decide (50 < (signed 16 ppm.toNat).natAbs)) s.activeDt :=
    if_pos (by simp [lock, auto, open_, measured])
  rw [decides, signed_toNat ppm (by decide)]
  refine ⟨congrArg AudIn.decided (State.audIn_setAudIn _ j _), List.forall_mem_cons.2 ⟨?_, List.forall_mem_singleton.2 ?_⟩⟩
  · exact (State.get_set_other _ (Reg.AUD_IN_ASRC j) (Reg.AUD_IN_RATE_PPM j) _
      (by decide : (Reg.AUD_IN_RATE_PPM 0).id % 1024 ≠ (Reg.AUD_IN_ASRC 0).id % 1024)).trans (State.get_set_fits ppm.isLt s)
  · refine (State.get_set_fits (f := Reg.AUD_IN_ASRC j) (b2n_lt _) _).trans ?_
    simp only [b2n, decide_eq_true_eq]

/-- The grid of a channel. -/
def AudIn.gridOf (y : AudIn) (c : Nat) : Int := if c = 0 then y.grid.1 else y.grid.2

theorem AudIn.gridOf_moved (y : AudIn) (c : Nat) (g a b : Int) :
    ({ y with grid := if c = 0 then (g, a) else (b, g) } : AudIn).gridOf c = g := by
  unfold AudIn.gridOf
  split <;> rfl

/-- A slip of a synchronous channel moves its grid by one sample, is counted and raises 0x6E04. -/
theorem State.slip_acts {s : State} {j c : Nat} (lock : s.on (Reg.AUD_IN_LOCK j) = true) (decided : (s.audIn j).decided = true)
    (sync : s.get (Reg.AUD_IN_ASRC j) = 0) {err : Rat}
    (he : err = (s.activeDt : Rat) - ((s.audIn j).gridOf c : Rat) * samplePeriod (s.get (Reg.AUD_IN_SRATE j)))
    (half : samplePeriod (s.get (Reg.AUD_IN_SRATE j)) / 2 ≤ ratAbs err) :
    s.Counted (s.slip j c) (Reg.AUD_IN_SLIP_CNT j) ∧ (s.slip j c).Latches 0x6E04 ∧
      ((s.slip j c).audIn j).gridOf c = (s.audIn j).gridOf c + (if 0 < err then 1 else -1) := by
  let u := if 0 < err then s.placeSync j c ((s.audIn j).gridOf c) (if c = 0 then (s.audIn j).last.1 else (s.audIn j).last.2) else s
  let g := (s.audIn j).gridOf c + (if 0 < err then 1 else -1)
  let v := u.setAudIn j { u.audIn j with grid := if c = 0 then (g, (s.audIn j).grid.2) else ((s.audIn j).grid.1, g) }
  have placed : s.OnlySamples u := .ite (State.placeSync_only _ _ _ _ _) (.refl s)
  have slips : s.slip j c = (v.bump (Reg.AUD_IN_SLIP_CNT j)).raise 0x6E04 (objAudio j) {} := by
    subst he
    exact if_pos (Bool.and_eq_true_iff.2 ⟨by simp [lock, decided, sync], decide_eq_true half⟩)
  rw [slips]
  refine ⟨((State.bump_counted v _).before (placed.get _)).after (State.raise_get _ _ _ _ (Reg.AUD_IN_SLIP_CNT j) (Reg.AUD_IN_SLIP_CNT 0) rfl),
    State.raise_latches _ _ _ _, ?_⟩
  have kept : (((v.bump (Reg.AUD_IN_SLIP_CNT j)).raise 0x6E04 (objAudio j) {}).audIn j) = v.audIn j := by
    unfold State.audIn
    rw [(State.raise_keeps (.refl _ _) (within_self _)).audKept rfl]
    rfl
  rw [kept, State.audIn_setAudIn]
  exact AudIn.gridOf_moved _ _ _ _ _

/-! ## AUD_MCLK_IN (R362, R363) -/

/-- AUD_MCLK_IN's loss is shown, counted and raised, and the outputs' clock is their own. -/
theorem State.mclkLoss_acts {s : State} (ok : s.on Reg.AUD_MCLK_OK = true) : Completes .mclkLoss s (fun t =>
    t.get Reg.AUD_MCLK_OK = 0 ∧ s.Counted t Reg.AUD_MCLK_LOSS_CNT ∧ t.Latches 0x5E01 ∧ t.aud.mclk = false) := by
  refine ⟨_, congrArg Host.Outcome.next (if_pos ok), ?_, ?_, State.raise_latches _ _ _ _, ?_⟩
  · rw [State.raise_get _ _ _ _ _ Reg.AUD_MCLK_OK rfl, State.bump_other _ _ _ (by decide)]
    exact (State.get_set_other _ _ _ _ (by decide)).trans (State.get_set_fits (by decide) _)
  · refine ((State.bump_counted _ _).before ?_).after (State.raise_get _ _ _ _ _ Reg.AUD_MCLK_LOSS_CNT rfl)
    exact (State.get_set_other _ _ _ _ (by decide)).trans (State.get_set_other _ _ _ _ (by decide))
  · rw [(State.raise_keeps (.refl _ _) (within_self _)).audKept rfl]
    rfl

/-- The status of a resume, written and logged, leaves Calliope and the latches. -/
theorem State.audStatus_written (s : State) (w : Writer) (old new : Nat) {c : Code} (hc : c < 2 ^ 16) :
    ((s.set Reg.AUD_LAST_STATUS c).logReg w Reg.AUD_MCLK_RESUME.off c old new).get Reg.AUD_LAST_STATUS = c ∧
      ((s.set Reg.AUD_LAST_STATUS c).logReg w Reg.AUD_MCLK_RESUME.off c old new).aud = s.aud ∧
      s.LatchesStay ((s.set Reg.AUD_LAST_STATUS c).logReg w Reg.AUD_MCLK_RESUME.off c old new) :=
  ⟨(State.logReg_get _ _ _ _ _ _ Reg.AUD_LAST_STATUS rfl).trans (State.get_set_fits hc s),
    (State.logReg_keeps (.refl _ _) (within_self _)).audKept rfl,
    State.logReg_latchesStay fun n b _ x => by
      rwa [State.get_set_other _ Reg.AUD_LAST_STATUS (Reg.BRK_LATCH n) _ (by decide : (Reg.BRK_LATCH 0).id % 1024 ≠ Reg.AUD_LAST_STATUS.id % 1024)]⟩

/-- A resume while AUD_MCLK_IN is there takes it again as its enable says, and raises 0x0E02; without it, it is refused. -/
theorem State.mclkResume_acts {s : State} {w : Writer} (hw : s.mayWrite w Reg.AUD_MCLK_RESUME.off = true) :
    (s.on Reg.AUD_MCLK_OK = true → Completes (.mclkResume w) s (fun t => t.aud.mclk = s.on Reg.AUD_MCLK_EN ∧ t.get Reg.AUD_LAST_STATUS = 0 ∧
      t.Latches 0x0E02)) ∧
    (s.on Reg.AUD_MCLK_OK = false → Completes (.mclkResume w) s (fun t => t.aud = s.aud ∧ t.get Reg.AUD_LAST_STATUS = 0x2E01)) := by
  refine ⟨fun ok => ⟨_, congrArg Host.Outcome.next (State.byWriter_reached hw _), ?_⟩,
    fun off => ⟨_, congrArg Host.Outcome.next (State.byWriter_reached hw _), ?_⟩⟩
  · dsimp only
    rw [if_pos ok, if_pos rfl]
    generalize hu : ({ s with aud := { s.aud with mclk := s.on Reg.AUD_MCLK_EN } } : State).raise 0x0E02 objDevice {} = u
    obtain ⟨status, aud, stay⟩ := u.audStatus_written w 0 (2 ^ 30) (by decide : 0 < 2 ^ 16)
    refine ⟨?_, status, (hu ▸ State.raise_latches _ _ _ _ : u.Latches 0x0E02).stay stay⟩
    rw [aud, ← hu, (State.raise_keeps (.refl _ _) (within_self _)).audKept rfl]
  · dsimp only
    rw [show (if s.on Reg.AUD_MCLK_OK then 0 else 0x2E01 : Code) = 0x2E01 from if_neg (by rw [off]; decide), if_neg (by decide)]
    obtain ⟨status, aud, -⟩ := s.audStatus_written w 0 (2 ^ 30) (by decide : 0x2E01 < 2 ^ 16)
    exact ⟨aud, status⟩

/-! ## Packets of a network input (R147) -/

theorem State.writeBlock_samples (s : State) (k : Nat) : (s.writeBlock k).aud.samples = s.aud.samples := by
  unfold State.writeBlock
  dsimp only
  split
  · rw [(State.deviceStore_keeps (.refl _ _) (within_self _)).audKept rfl]
    rfl
  · rfl

theorem State.capture_samples (s : State) (k : Nat) (cap : Rat) (v : List Int) (loss : Bool) :
    (s.capture k cap v loss).aud.samples = s.aud.samples := by
  unfold State.capture
  dsimp only
  generalize (if (s.audIn k).part.isEmpty then s.capMask k else (s.audIn k).mask) = m
  split
  · rfl
  · split
    · rw [State.writeBlock_samples]
      rfl
    · rfl

/-- Of samples kept of channels in turn, the first channel's stands at its head. -/
theorem State.keepSamples_head (s : State) (first : Nat) (cap : Rat) (v : Nat → Int) {n : Nat} (hn : 1 ≤ n) :
    (⟨cap, v 0, s.lc⟩ : AudSample) ∈
      Table.getD ((List.range n).foldl (fun (t : State) c => t.keepSample (first + c) cap (v c)) s).aud.samples first [] := by
  obtain ⟨n, rfl⟩ := Nat.exists_eq_add_of_le' hn
  rw [List.range_succ_eq_map, List.foldl_cons, List.foldl_map]
  refine List.foldlRecOn (List.range n) _
    (motive := fun t : State => (⟨cap, v 0, s.lc⟩ : AudSample) ∈ Table.getD t.aud.samples first []) ?_ fun t ht c _ => ?_
  · exact (Table.getD_put_same ..).symm ▸ List.mem_cons_self
  · have apart : first ≠ first + (c + 1) := by omega
    exact (Table.getD_put_other _ _ _ _ _ apart).symm ▸ ht

/-- A packet of one sample for each channel has the first channel's kept, at its own time. -/
theorem State.netSamples_one {s : State} {r : Nat} {cap : Rat} {x : AudioPacket} {v : BitVec 24} (one : x.samples = [[v]])
    (chans : 1 ≤ s.get (Reg.ING_RX_AFMT_CHANNELS r)) :
    (⟨cap, v.toInt, s.lc⟩ : AudSample) ∈ Table.getD (s.netSamples r cap x).aud.samples (s.get (Reg.ING_RX_AFMT_FIRST_CH r)) [] := by
  let per := samplePeriod (s.get (Reg.ING_RX_AFMT_SRATE r))
  let val := fun c => signed 24 ((([[v]] : List (List (BitVec 24))).getD c []).getD 0 0).toNat
  have samples : ∀ u : State, u.lc = s.lc → (⟨cap, v.toInt, s.lc⟩ : AudSample) ∈ Table.getD
      ((List.range (s.get (Reg.ING_RX_AFMT_CHANNELS r))).foldl (fun (t : State) c =>
        t.keepSample (s.get (Reg.ING_RX_AFMT_FIRST_CH r) + c) (cap + ((0 : Nat) : Rat) * per) (val c)) u).aud.samples
      (s.get (Reg.ING_RX_AFMT_FIRST_CH r)) [] := fun u hu => by
    have head := u.keepSamples_head (s.get (Reg.ING_RX_AFMT_FIRST_CH r)) (cap + ((0 : Nat) : Rat) * per) val chans
    rw [hu, show val 0 = v.toInt from signed_toNat v (by decide)] at head
    simpa using head
  unfold State.netSamples
  rw [one]
  dsimp only
  rw [show (([[v]] : List (List (BitVec 24))).map (fun l => l.length)).foldl max 0 = 1 from rfl, List.range_one, List.foldl_cons, List.foldl_nil,
    State.capture_samples]
  exact samples _ ((State.captureGap_keeps (.refl _ _) (within_self _)).lcKept rfl)

/-- A packet of a network input that is accepted keeps its path UP. -/
theorem State.netSamples_up (s : State) (r p : Nat) (cap : Rat) (x : AudioPacket) :
    (s.netSamples r cap x).get (pathUp r p) = s.get (pathUp r p) :=
  (State.netSamples_keeps (.refl _ s) (within_self _)).pathUp r p

/-- What the checks of every packet see of an audio packet (R147). -/
def State.audioHead (s : State) (r : Nat) (x : AudioPacket) : RxHead :=
  { flow := x.flow, pt := x.pt.toNat, width := 16, seq := x.seq.toNat, malformed := x.malformed, crcOk := x.crcOk,
    cap := some (s.rtpDt (rateOfS (s.get (Reg.ING_RX_AFMT_SRATE r))) x.ts.toNat) }

theorem execAudioPacketRx_eq (r : Fin 16) (p : Fin 2) (x : AudioPacket) (s : State) :
    execAudioPacketRx r p x s = .next (s.rxPacket (32 + r) p (s.audioHead (32 + r) x)
      (fun s' => s'.netSamples (32 + r) (s.rtpDt (rateOfS (s.get (Reg.ING_RX_AFMT_SRATE (32 + r.val)))) x.ts.toNat) x)) := rfl

theorem State.audioHead_bad {s : State} {r : Nat} {x : AudioPacket} :
    s.badHead r (s.audioHead r x) = true ↔ x.malformed = true ∨ x.pt.toNat ≠ s.get (Reg.ING_RX_PT r) := by
  simp [State.badHead, State.audioHead]

section
variable {s : State} {r p : Nat} {x : AudioPacket} (taken : s.Taken r p x.flow)
include taken

/-- A bad audio packet is counted and leaves Calliope. -/
theorem State.Taken.audio_bad (act : State → State) (bad : x.malformed = true ∨ x.pt.toNat ≠ s.get (Reg.ING_RX_PT r)) :
    s.Counted (s.rxPacket r p (s.audioHead r x) act) (Reg.ING_RX_FMT_ERR_CNT r) ∧ (s.rxPacket r p (s.audioHead r x) act).aud = s.aud := by
  have same : s.Taken r p (s.audioHead r x).flow := taken
  have isBad := State.audioHead_bad.2 bad
  refine ⟨(same.malformed_counted isBad).1, ?_⟩
  rw [same.malformed isBad, (State.rxMalformed_keeps (.refl _ _) (within_self _)).audKept rfl,
    (State.pathSeen_keeps (.refl _ _) (within_self _)).audKept rfl]

/-- An accepted audio packet of one sample has it kept for the receiver's first channel. -/
theorem State.Taken.audio_one {cap : Rat} {v : BitVec 24} (ok : ¬ (x.malformed = true ∨ x.pt.toNat ≠ s.get (Reg.ING_RX_PT r)))
    (new : (s.rcv r).judge (extendSeq 16 (s.rcv r).newest x.seq.toNat) = 0)
    (hc : cap = s.rtpDt (rateOfS (s.get (Reg.ING_RX_AFMT_SRATE r))) x.ts.toNat) (near : s.timeError cap = false)
    (one : x.samples = [[v]]) (chans : 1 ≤ s.get (Reg.ING_RX_AFMT_CHANNELS r)) :
    let t := s.rxPacket r p (s.audioHead r x) (fun s' => s'.netSamples r cap x)
    t.on (pathUp r p) = true ∧ (⟨cap, v.toInt, s.lc⟩ : AudSample) ∈ Table.getD t.aud.samples (s.get (Reg.ING_RX_AFMT_FIRST_CH r)) [] := by
  intro t
  let u := s.accepted r p (extendSeq 16 (s.rcv r).newest x.seq.toNat)
  have same : s.Taken r p (s.audioHead r x).flow := taken
  have kept := s.accepted_keeps r p (extendSeq 16 (s.rcv r).newest x.seq.toNat)
  have first : u.get (Reg.ING_RX_AFMT_FIRST_CH r) = s.get (Reg.ING_RX_AFMT_FIRST_CH r) := kept.get_like (Reg.ING_RX_AFMT_FIRST_CH 0) rfl rfl
  have chans' : u.get (Reg.ING_RX_AFMT_CHANNELS r) = s.get (Reg.ING_RX_AFMT_CHANNELS r) := kept.get_like (Reg.ING_RX_AFMT_CHANNELS 0) rfl rfl
  have lands : t = u.netSamples r cap x :=
    same.accepted (Bool.eq_false_iff.2 fun h => ok (State.audioHead_bad.1 h)) new (congrArg some hc.symm) near
  have stored := State.netSamples_one (s := u) (r := r) (cap := cap) one (chans'.symm ▸ chans)
  rw [lands]
  refine ⟨?_, ?_⟩
  · rw [State.on, State.netSamples_up]
    exact s.accepted_up r p _
  · rwa [first, show u.lc = s.lc from kept.lcKept rfl] at stored

end

end Sys2Proof.Machine
end

/-! # Proofs: audio ports and routes (R367, R373) -/

section
namespace Sys2Proof.Machine

-- One theorem at a time: the text is compiled as one, and more threads would not fit in memory.
set_option Elab.async false

open Sys2Proof

/-! ## Words that a write takes apart -/

theorem bits_lt (n hi lo : Nat) : bits n hi lo < 2 ^ (hi + 1 - lo) := Nat.mod_lt _ (Nat.two_pow_pos _)

theorem b2n_bit (n i : Nat) : b2n (bit n i) = bits n i i := by
  have one : i + 1 - i = 1 := by omega
  rw [b2n, bit, bits, one, Nat.testBit_eq_decide_div_mod_eq]
  by_cases h : n / 2 ^ i % 2 = 1
  · simp [h]
  · simp [h]
    omega

theorem code_ite {p : Prop} [Decidable p] {a b : Code} (ha : a < 2 ^ 16) (hb : b < 2 ^ 16) : (if p then a else b) < 2 ^ 16 := by
  split
  · exact ha
  · exact hb

/-- Fields that read what they were given still do once a status of another name is written and logged, and so does the status. -/
theorem State.statusLogged_reads {u : State} {l : List (Field × Nat)} (shown : u.Reads l) {f : Field} {c : Code} (fits : c < 2 ^ fieldWidth f)
    {i : Nat} {ids : List Nat} (hf : f.id = i) (hl : l.map (fun e => e.1.id) = ids) (w : Writer) (off old new : Nat)
    (apart : ∀ j ∈ ids, j % 1024 ≠ i % 1024 := by decide) (unlogged : ∀ j ∈ i :: ids, j ∉ loggedFields ∧ j < 1024 := by decide) :
    ((u.set f c).logReg w off c old new).Reads (l ++ [(f, c)]) := by
  subst hf hl
  have kept : ∀ g : Field, g.id ∈ f.id :: l.map (fun e => e.1.id) →
      ((u.set f c).logReg w off c old new).get g = (u.set f c).get g := fun g hg =>
    (State.logReg_only _ w off c old new).regs g (unlogged _ hg).1 (unlogged _ hg).2
  refine List.forall_mem_append.2 ⟨fun e he => ?_, List.forall_mem_singleton.2 ?_⟩
  · have named : e.1.id ∈ l.map (fun e => e.1.id) := List.mem_map_of_mem he
    rw [kept _ (List.mem_cons_of_mem _ named), State.get_set_other _ _ _ _ (apart _ named), shown e he]
  · exact (kept f List.mem_cons_self).trans (State.get_set_fits fits u)

/-! ## Input ports (R373) -/

/-- The names of an AES3 input's settings. -/
def inNames : List Nat := [Reg.AUD_IN_ENABLE 0, Reg.AUD_IN_SRATE 0, Reg.AUD_IN_ASRC_MODE 0].map Field.id

theorem State.inputCode_fits (s : State) (k mode : Nat) : s.inputCode k mode < 2 ^ 16 :=
  code_ite (by decide) (code_ite (by decide) (by decide))

/-- What a write that reaches a port's CTRL does with it, the port's status and the log. -/
def State.portCtrl (s : State) (k v : Nat) : State × Code :=
  if isAudIn k then s.inWrite k (b2n (bit v 31)) (b2n (bit v 30)) (bits v 29 28)
  else s.outWrite k (b2n (bit v 31)) (b2n (bit v 30)) (bits v 29 29) (bits v 28 28)

theorem State.audPortWrite_reached {s : State} {w : Writer} {k v : Nat} (hw : s.mayWrite w (0x541000 + 0x40 * k) = true) :
    ∃ old new, s.audPortWrite w k v = ((s.portCtrl k v).1.set (audStatus k) (s.portCtrl k v).2).logReg w (0x541000 + 0x40 * k)
      (s.portCtrl k v).2 old new := by
  unfold State.audPortWrite
  dsimp only
  rw [State.byWriter_reached hw]
  exact ⟨_, _, rfl⟩

theorem State.inWrite_on {s : State} {k : Nat} (aes : isAesIn k = true) (off : s.on (Reg.AUD_IN_ENABLE k) = false) (srate mode : Nat) :
    s.inWrite k 1 srate mode =
    if s.inputCode k mode ≠ 0 then (s, s.inputCode k mode)
    else (s.setAll [(Reg.AUD_IN_ENABLE k, 1), (Reg.AUD_IN_SRATE k, srate), (Reg.AUD_IN_ASRC_MODE k, mode)], 0) := by
  have notNet : isNetIn k = false := by
    simp only [isAesIn, isNetIn, decide_eq_true_eq, decide_eq_false_iff_not] at aes ⊢
    omega
  unfold State.inWrite
  simp [notNet, off]

/-! ## Output ports (R373) -/

theorem State.outputCode_fits (s : State) (k srate ptime : Nat) : s.outputCode k srate ptime < 2 ^ 16 :=
  code_ite (by decide) (code_ite (by decide) (code_ite (by decide) (by decide)))

/-- The settings of an output port that is enabled. -/
def outSettings (k srate mute ptime : Nat) : List (Field × Nat) :=
  [(Reg.AUD_OUT_ENABLE k, 1), (Reg.AUD_OUT_SRATE k, srate), (Reg.AUD_OUT_MUTE k, mute), (Reg.AUD_OUT_PTIME k, ptime)]

/-- The names of an output port's settings. -/
def outNames : List Nat := [Reg.AUD_OUT_ENABLE 0, Reg.AUD_OUT_SRATE 0, Reg.AUD_OUT_MUTE 0, Reg.AUD_OUT_PTIME 0].map Field.id

/-- An output port that is enabled: its settings are in force, its channels muted as written, its first release armed. -/
def State.outEnabled (s : State) (k srate mute ptime : Nat) : State :=
  ((s.outChans k).foldl (fun (t : State) c => t.setAudCh c { t.audCh c with muted := mute == 1 })
    (s.setAll (outSettings k srate mute ptime))).armPort k

theorem State.outWrite_on {s : State} {k : Nat} (off : s.on (Reg.AUD_OUT_ENABLE k) = false) (srate mute ptime : Nat) {p : Nat}
    (hp : p = if isTx k then ptime else s.get (Reg.AUD_OUT_PTIME k)) :
    s.outWrite k 1 srate mute ptime =
      if s.outputCode k srate p ≠ 0 then (s, s.outputCode k srate p) else (s.outEnabled k srate mute p, 0) := by
  subst hp
  unfold State.outWrite
  simp [off]
  rfl

/-- The channels of a port that is enabled and its release leave the registers. -/
theorem State.outEnabled_reads (s : State) (k : Nat) {srate mute ptime : Nat} (hs : srate < 2) (hm : mute < 2) :
    (s.outEnabled k srate mute ptime).Reads [(Reg.AUD_OUT_ENABLE k, 1), (Reg.AUD_OUT_SRATE k, srate), (Reg.AUD_OUT_MUTE k, mute)] := by
  have kept : Keeps 0x8008 (s.setAll (outSettings k srate mute ptime)) (s.outEnabled k srate mute ptime) :=
    State.armPort_keeps (Keeps.foldl _ _ (.refl _ _) fun _ _ h => State.setAudCh_keeps h)
  refine kept.reads (names := outNames.take 3) rfl (fun e he => ?_)
  have settings := State.setAll_reads (keys_nodup (l := outSettings k srate mute ptime) (names := outNames) rfl) s
    (List.mem_append_left [(Reg.AUD_OUT_PTIME k, ptime)] he)
  rw [settings]
  simp only [List.mem_cons, List.not_mem_nil, or_false] at he
  rcases he with rfl | rfl | rfl
  · rfl
  · exact Nat.mod_eq_of_lt hs
  · exact Nat.mod_eq_of_lt hm

/-! ## A port's write (R373) -/

/-- A write with ENABLE 1 of a disabled AES3 input puts it on with what was written, or shows why not. -/
theorem State.aesInWrite_acts {s : State} {w : Writer} {k v : Nat} (hw : s.mayWrite w (0x541000 + 0x40 * k) = true) (en : bit v 31 = true)
    (aes : isAesIn k = true) (off : s.on (Reg.AUD_IN_ENABLE k) = false) :
    (s.inputCode k (bits v 29 28) = 0 → (s.audPortWrite w k v).Reads [(Reg.AUD_IN_ENABLE k, 1), (Reg.AUD_IN_SRATE k, bits v 30 30),
      (Reg.AUD_IN_ASRC_MODE k, bits v 29 28), (Reg.AUD_IN_LAST_STATUS k, 0)]) ∧
    (s.inputCode k (bits v 29 28) ≠ 0 → (s.audPortWrite w k v).Reads
      [(Reg.AUD_IN_ENABLE k, s.get (Reg.AUD_IN_ENABLE k)), (Reg.AUD_IN_LAST_STATUS k, s.inputCode k (bits v 29 28))]) := by
  obtain ⟨old, new, written⟩ := State.audPortWrite_reached (v := v) hw
  have input : isAudIn k = true := by rw [isAudIn, aes, Bool.true_or]
  have status : audStatus k = Reg.AUD_IN_LAST_STATUS k := if_pos input
  have ctrl : s.portCtrl k v = s.inWrite k 1 (bits v 30 30) (bits v 29 28) := by
    rw [State.portCtrl, if_pos input, en, b2n_bit]
    rfl
  rw [written, status, ctrl, State.inWrite_on aes off]
  refine ⟨fun ok => ?_, fun bad => ?_⟩
  · rw [if_neg (not_not.2 ok)]
    let l := [(Reg.AUD_IN_ENABLE k, 1), (Reg.AUD_IN_SRATE k, bits v 30 30), (Reg.AUD_IN_ASRC_MODE k, bits v 29 28)]
    have fits : ∀ e ∈ l, e.2 < 2 ^ fieldWidth e.1 := by
      simp only [l, List.forall_mem_cons, List.not_mem_nil, false_implies, implies_true, and_true]
      exact ⟨(by decide : 1 < 2 ^ 1), bits_lt _ _ _, bits_lt _ _ _⟩
    have shown : (s.setAll l).Reads l := fun e he => by
      rw [State.setAll_reads (keys_nodup (names := inNames) rfl) s he, Nat.mod_eq_of_lt (fits e he)]
    exact State.statusLogged_reads shown (f := Reg.AUD_IN_LAST_STATUS k) (by decide : 0 < 2 ^ 16)
      (i := (Reg.AUD_IN_LAST_STATUS 0).id) (ids := inNames) rfl rfl _ _ _ _
  · rw [if_pos bad]
    exact State.statusLogged_reads (l := [(Reg.AUD_IN_ENABLE k, s.get (Reg.AUD_IN_ENABLE k))]) (List.forall_mem_singleton.2 rfl)
      (f := Reg.AUD_IN_LAST_STATUS k) (s.inputCode_fits k _) (i := (Reg.AUD_IN_LAST_STATUS 0).id) (ids := inNames.take 1) rfl rfl _ _ _ _

/-- A write with ENABLE 1 of a disabled output puts it on with what was written, or shows why not. -/
theorem State.audOutWrite_acts {s : State} {w : Writer} {k v : Nat} (hw : s.mayWrite w (0x541000 + 0x40 * k) = true) (en : bit v 31 = true)
    (out : isAudOut k = true) (off : s.on (Reg.AUD_OUT_ENABLE k) = false) {c : Code}
    (hc : c = s.outputCode k (bits v 30 30) (if isTx k then bits v 28 28 else s.get (Reg.AUD_OUT_PTIME k))) :
    (c = 0 → (s.audPortWrite w k v).Reads [(Reg.AUD_OUT_ENABLE k, 1), (Reg.AUD_OUT_SRATE k, bits v 30 30),
      (Reg.AUD_OUT_MUTE k, bits v 29 29), (Reg.AUD_OUT_LAST_STATUS k, 0)]) ∧
    (c ≠ 0 → (s.audPortWrite w k v).Reads [(Reg.AUD_OUT_ENABLE k, s.get (Reg.AUD_OUT_ENABLE k)), (Reg.AUD_OUT_LAST_STATUS k, c)]) := by
  obtain ⟨old, new, written⟩ := State.audPortWrite_reached (v := v) hw
  have notInput : isAudIn k = false := by
    simp only [isAudOut, isAesOut, isTx, isAudIn, isAesIn, isNetIn, Bool.or_eq_true, Bool.or_eq_false_iff, decide_eq_true_eq,
      decide_eq_false_iff_not] at out ⊢
    omega
  have status : audStatus k = Reg.AUD_OUT_LAST_STATUS k := if_neg (by rw [notInput]; decide)
  have ctrl : s.portCtrl k v = s.outWrite k 1 (bits v 30 30) (bits v 29 29) (bits v 28 28) := by
    rw [State.portCtrl, notInput, en, b2n_bit]
    rfl
  rw [written, status, ctrl, State.outWrite_on off _ _ _ rfl, ← hc]
  refine ⟨fun ok => ?_, fun bad => ?_⟩
  · rw [if_neg (not_not.2 ok)]
    exact State.statusLogged_reads (s.outEnabled_reads k (bits_lt v 30 30) (bits_lt v 29 29)) (f := Reg.AUD_OUT_LAST_STATUS k)
      (by decide : 0 < 2 ^ 16) (i := (Reg.AUD_OUT_LAST_STATUS 0).id) (ids := outNames.take 3) rfl rfl _ _ _ _
  · rw [if_pos bad]
    exact State.statusLogged_reads (l := [(Reg.AUD_OUT_ENABLE k, s.get (Reg.AUD_OUT_ENABLE k))]) (List.forall_mem_singleton.2 rfl)
      (f := Reg.AUD_OUT_LAST_STATUS k) (hc ▸ s.outputCode_fits k _ _) (i := (Reg.AUD_OUT_LAST_STATUS 0).id) (ids := outNames.take 1) rfl rfl _ _ _ _

end Sys2Proof.Machine
end

/-! # Proofs: audio routes and the changes of channels (R367, R373) -/

section
namespace Sys2Proof.Machine

-- One theorem at a time: the text is compiled as one, and more threads would not fit in memory.
set_option Elab.async false

open Sys2Proof

/-! ## Pending changes (R367) -/

/-- A command that ends leaves every channel. -/
theorem State.cmdDone_audCh (s : State) (x : Option (Nat × Ticket)) (c : Nat) : (s.cmdDone x).audCh c = s.audCh c := by
  unfold State.audCh
  rw [(State.cmdDone_keeps (.refl _ s) (within_self _)).audKept rfl]

/-- A change made pending is the channel's alone. -/
theorem State.pendChange_audCh (s : State) (c : Nat) (a : AudChange) (cmd : Option (Nat × Ticket)) :
    (s.pendChange c a cmd).audCh c = { s.audCh c with pend := some (a, s.lc, cmd) } := by
  unfold State.pendChange
  dsimp only
  split
  · rw [State.cmdDone_audCh, State.audCh_setAudCh]
  · rw [State.audCh_setAudCh]

theorem State.pendChange_audCh_other (s : State) {c d : Nat} (apart : d ≠ c) (a : AudChange) (cmd : Option (Nat × Ticket)) :
    (s.pendChange c a cmd).audCh d = s.audCh d := by
  unfold State.pendChange
  dsimp only
  split
  · rw [State.cmdDone_audCh, State.audCh_setAudCh_other _ _ _ _ apart]
  · rw [State.audCh_setAudCh_other _ _ _ _ apart]

/-! ## Routes (R373) -/

theorem State.routeCode_fits (s : State) (src sel us : Nat) : s.routeCode src sel us < 2 ^ 16 :=
  code_ite (by decide) (code_ite (by decide) (by decide))

/-- The fields of a channel's route. -/
def routeFields (c : Nat) : List Field := [Reg.AUD_ROUTE_SRC c, Reg.AUD_ROUTE_DELAY_SEL c, Reg.AUD_ROUTE_DELAY_US c]

def routeNames : List Nat := (routeFields 0).map Field.id

/-- What leaves the fields of a route leaves the route in force. -/
theorem Keeps.route {w : Nat} {s t : State} (k : Keeps w s t) (c : Nat) (h : ∀ i ∈ routeNames, w.testBit (64 + i % 1024) = false := by decide) :
    t.route c = s.route c := by
  have named : (routeFields c).map Field.id = routeNames := rfl
  have kept : ∀ f ∈ routeFields c, t.get (bank 1 f) = s.get (bank 1 f) := fun f hf =>
    k.get_like (f := bank 1 f) f rfl (h f.id (named ▸ List.mem_map_of_mem hf))
  unfold State.route
  rw [kept _ (by simp [routeFields]), kept _ (by simp [routeFields]), kept _ (by simp [routeFields])]

/-- A route as written. -/
def routeWord (c src sel us : Nat) : List (Field × Nat) :=
  [(Reg.AUD_ROUTE_SRC c, src), (Reg.AUD_ROUTE_DELAY_SEL c, sel), (Reg.AUD_ROUTE_DELAY_US c, us)]

/-- What the word of a route holds. -/
theorem routeWord_fits (c v : Nat) : ∀ e ∈ routeWord c (bits v 31 24) (bits v 23 20) (bits v 19 0), e.2 < 2 ^ fieldWidth e.1 := by
  simp only [routeWord, List.forall_mem_cons, List.not_mem_nil, false_implies, implies_true, and_true]
  exact ⟨bits_lt _ _ _, bits_lt _ _ _, bits_lt _ _ _⟩

/-- A route that was written reads as written. -/
theorem State.routeWord_reads (s : State) (c v : Nat) :
    (s.setAll (routeWord c (bits v 31 24) (bits v 23 20) (bits v 19 0))).Reads (routeWord c (bits v 31 24) (bits v 23 20) (bits v 19 0)) :=
  fun e he => by
    rw [State.setAll_reads (keys_nodup (l := routeWord c _ _ _) (names := routeNames) rfl) s he, Nat.mod_eq_of_lt (routeWord_fits c v e he)]

/-- A copy of fields leaves a field of another name. -/
theorem State.copyBank_other {l : List Field} {f : Field} (hf : f.id % 1024 ∉ l.map (fun g => g.id % 1024)) (s : State) (a b : Nat) :
    (s.copyBank a b l).get f = s.get f := by
  induction l generalizing s with
  | nil => rfl
  | cons g l ih =>
    obtain ⟨apart, rest⟩ := not_or.1 (fun h => hf (List.mem_cons.2 h))
    exact (ih rest _).trans (State.get_set_other s (bank b g) f _ apart)

/-- A copied field reads what it was copied from. -/
theorem State.copyBank_reads {l : List Field} (hn : (l.map (fun g => g.id % 1024)).Nodup) {f : Field} (hf : f ∈ l) (s : State) (a b : Nat) :
    (s.copyBank a b l).get (bank b f) = s.get (bank a f) % 2 ^ fieldWidth f := by
  induction l generalizing s with
  | nil => cases hf
  | cons g l ih =>
    obtain ⟨new, rest⟩ := List.nodup_cons.1 hn
    rcases List.mem_cons.1 hf with rfl | hl
    · exact (State.copyBank_other (f := bank b f) new _ a b).trans (State.get_set_same _ _ _)
    · have apart : f.id % 1024 ≠ g.id % 1024 := fun same => new (List.mem_map.2 ⟨f, hl, same⟩)
      exact (ih rest hl _).trans (congrArg (· % 2 ^ fieldWidth f) (State.get_set_other s (bank b g) (bank a f) _ apart))

/-- A route is in force once its word is copied. -/
theorem State.copyBank_route {s : State} {c src sel us : Nat} (shown : s.Reads (routeWord c src sel us))
    (fits : ∀ e ∈ routeWord c src sel us, e.2 < 2 ^ fieldWidth e.1) : (s.copyBank 0 1 (routeFields c)).route c = (src, sel, us) := by
  have copied : ∀ e ∈ routeWord c src sel us, (s.copyBank 0 1 (routeFields c)).get (bank 1 e.1) = e.2 := fun e he => by
    have named : e.1 ∈ routeFields c := List.mem_map_of_mem (f := Prod.fst) he
    have apart : ((routeFields c).map (fun g => g.id % 1024)).Nodup := (by decide : routeNames.Nodup)
    have kept : s.get (bank 0 e.1) = e.2 := by
      rw [← shown e he]
      simp only [routeWord, List.mem_cons, List.not_mem_nil, or_false] at he
      rcases he with rfl | rfl | rfl <;> rfl
    rw [State.copyBank_reads apart named, kept, Nat.mod_eq_of_lt (fits e he)]
  simp only [routeWord, List.forall_mem_cons, List.not_mem_nil, false_implies, implies_true, and_true] at copied
  obtain ⟨hsrc, hsel, hus⟩ := copied
  rw [State.route, hsrc, hsel, hus]

/-- Where the status of a channel's route shows: at the port that sends the channel, else at the AES3 output it is of. -/
def State.routeJudged (s : State) (c : Nat) (code : Code) : Option Nat → State
  | some k => s.set (Reg.AUD_OUT_LAST_STATUS k) code
  | none => if 64 ≤ c then s.set (Reg.AUD_OUT_LAST_STATUS (16 + (c - 64) / 2)) code else s

/-- The status of a route is shown beside everything else. -/
def routeJudgedMask : Nat :=
  0x8000000000000000000000000000000000000000000000000000000000000000000000000000000000000000000000000000000000000000000000000000000000400000000000001800000000000000000000001000000000001e81000002

theorem State.routeJudged_keeps (s : State) (c : Nat) (code : Code) (port : Option Nat) : Keeps routeJudgedMask s (s.routeJudged c code port) := by
  have shows : ∀ k, routeJudgedMask.testBit (64 + (Reg.AUD_OUT_LAST_STATUS k).id % 1024) = true := fun _ =>
    (by decide : routeJudgedMask.testBit (64 + (Reg.AUD_OUT_LAST_STATUS 0).id % 1024) = true)
  cases port with
  | some k => exact State.set_keeps (shows k) (.refl _ _)
  | none => exact .ite _ (State.set_keeps (shows _) (.refl _ _)) (.refl _ _)

/-- A route that passes, taken at once or by a change of the port's channel. -/
def State.routeTaken (s : State) (c src sel us : Nat) : Option Nat → State
  | some _ => (s.setAll (routeWord c src sel us)).pendChange c (.route src sel us) none
  | none => ((s.setAll (routeWord c src sel us)).copyBank 0 1 (routeFields c)).setAudCh c
      { (s.setAll (routeWord c src sel us)).audCh c with broken := false }

theorem State.audRouteWrite_reached {s : State} {w : Writer} {c v : Nat} (hw : s.mayWrite w (Reg.AUD_ROUTE_SRC c).off = true) {code : Code}
    (hc : code = s.routeCode (bits v 31 24) (bits v 23 20) (bits v 19 0)) :
    ∃ old new, s.audRouteWrite w c v =
      ((if code ≠ 0 then s else s.routeTaken c (bits v 31 24) (bits v 23 20) (bits v 19 0) (s.portOfChan c)).routeJudged c code
        (s.portOfChan c)).logReg w (Reg.AUD_ROUTE_SRC c).off code old new := by
  subst hc
  unfold State.audRouteWrite
  dsimp only
  rw [State.byWriter_reached hw]
  exact ⟨_, _, rfl⟩

/-- A route's status and its log entry leave the routes and Calliope. -/
theorem State.routeShown_kept (s : State) (c : Nat) (code : Code) (port : Option Nat) (w : Writer) (off old new : Nat) :
    ((s.routeJudged c code port).logReg w off code old new).route c = s.route c ∧
      ((s.routeJudged c code port).logReg w off code old new).aud = s.aud := by
  have kept : Keeps routeJudgedMask s ((s.routeJudged c code port).logReg w off code old new) :=
    State.logReg_keeps (s.routeJudged_keeps c code port)
  exact ⟨kept.route c, kept.audKept rfl⟩

/-- Writing the bank that software writes leaves the route in force. -/
theorem State.routeWord_route (s : State) {c : Nat} (_ : c < 96) (src sel us : Nat) :
    (s.setAll (routeWord c src sel us)).route c = s.route c := by
  have apart : ∀ f ∈ routeFields c, ∀ g ∈ routeFields c, fieldKey (bank 1 f) ≠ fieldKey g := by
    simp only [routeFields, List.forall_mem_cons, List.not_mem_nil, false_implies, implies_true, and_true, fieldKey, bank,
      Reg.AUD_ROUTE_SRC, Reg.AUD_ROUTE_DELAY_SEL, Reg.AUD_ROUTE_DELAY_US]
    omega
  have kept : ∀ f ∈ routeFields c, (s.setAll (routeWord c src sel us)).get (bank 1 f) = s.get (bank 1 f) := fun f hf => by
    have apartF := apart f hf
    simp only [routeFields, List.forall_mem_cons, List.not_mem_nil, false_implies, implies_true, and_true] at apartF
    obtain ⟨hsrc, hsel, hus⟩ := apartF
    exact (State.get_set_key _ _ _ _ hus).trans ((State.get_set_key _ _ _ _ hsel).trans (State.get_set_key _ _ _ _ hsrc))
  unfold State.route
  rw [kept _ (by simp [routeFields]), kept _ (by simp [routeFields]), kept _ (by simp [routeFields])]

/-- A route that fails a check is refused at its port; one that passes is in force at once, or waits as a change of its port's channel. -/
theorem State.audRouteWrite_acts {s : State} {w : Writer} {c v : Nat} (hc : c < 96) (hw : s.mayWrite w (Reg.AUD_ROUTE_SRC c).off = true) :
    let src := bits v 31 24
    let sel := bits v 23 20
    let us := bits v 19 0
    let t := s.audRouteWrite w c v
    (s.routeCode src sel us ≠ 0 → t.route c = s.route c ∧ t.aud = s.aud ∧
      ∀ k, s.portOfChan c = some k → t.get (Reg.AUD_OUT_LAST_STATUS k) = s.routeCode src sel us) ∧
    (s.routeCode src sel us = 0 → s.portOfChan c = none → t.route c = (src, sel, us)) ∧
    (∀ k, s.routeCode src sel us = 0 → s.portOfChan c = some k → t.route c = s.route c ∧
      (t.audCh c).pend = some (.route src sel us, s.lc, none) ∧ t.Reads [(Reg.AUD_ROUTE_SRC c, src), (Reg.AUD_ROUTE_DELAY_SEL c, sel),
        (Reg.AUD_ROUTE_DELAY_US c, us), (Reg.AUD_OUT_LAST_STATUS k, 0)]) := by
  intro src sel us t
  have fits := s.routeCode_fits src sel us
  generalize hcode : s.routeCode src sel us = code at fits
  obtain ⟨old, new, written⟩ := State.audRouteWrite_reached hw hcode.symm
  have ht : t = _ := written
  refine ⟨fun bad => ?_, fun ok alone => ?_, fun k ok port => ?_⟩
  · rw [if_pos bad] at ht
    obtain ⟨route, aud⟩ := s.routeShown_kept c code (s.portOfChan c) w (Reg.AUD_ROUTE_SRC c).off old new
    refine ⟨ht ▸ route, ht ▸ aud, fun k port => ?_⟩
    rw [ht, port]
    exact (State.logReg_get _ _ _ _ _ _ (f := Reg.AUD_OUT_LAST_STATUS k) (Reg.AUD_OUT_LAST_STATUS 0) rfl).trans (State.get_set_fits fits s)
  · subst ok
    rw [if_neg (not_not.2 rfl), alone] at ht
    rw [ht, (State.routeShown_kept _ c 0 none w (Reg.AUD_ROUTE_SRC c).off old new).1]
    exact State.copyBank_route (s.routeWord_reads c v) (routeWord_fits c v)
  · subst ok
    let u := (s.setAll (routeWord c src sel us)).pendChange c (.route src sel us) none
    rw [if_neg (not_not.2 rfl), port] at ht
    obtain ⟨route, aud⟩ := u.routeShown_kept c 0 (some k) w (Reg.AUD_ROUTE_SRC c).off old new
    have kept : Keeps 0x680008000 (s.setAll (routeWord c src sel us)) u := State.pendChange_keeps (.refl _ _)
    refine ⟨?_, ?_, ?_⟩
    · exact ht ▸ route.trans ((kept.route c).trans (s.routeWord_route hc src sel us))
    · have same : t.audCh c = u.audCh c := congrArg (fun a : Aud => Table.getD a.chans c AudCh.reset) (ht ▸ aud)
      rw [same, State.pendChange_audCh]
      rfl
    · rw [ht]
      exact State.statusLogged_reads (kept.reads (names := routeNames) rfl (s.routeWord_reads c v)) (f := Reg.AUD_OUT_LAST_STATUS k)
        (by decide : 0 < 2 ^ 16) (i := (Reg.AUD_OUT_LAST_STATUS 0).id) (ids := routeNames) rfl rfl _ _ _ _

end Sys2Proof.Machine
end

/-! # Proofs: crossings and the descriptors of audio ports (R367 to R370) -/

section
namespace Sys2Proof.Machine

-- One theorem at a time: the text is compiled as one, and more threads would not fit in memory.
set_option Elab.async false

open Sys2Proof

/-! ## Crossings (R367) -/

section
variable {s : State} {c n : Nat} {a : AudChange} {cmd : Option (Nat × Ticket)} (pending : (s.audCh c).pend = some (a, n, cmd))
include pending

/-- A start or stop that applies starts or stops its channel. -/
theorem State.applyChange_starts (ha : a = .start ∨ a = .stop) (ramp : Bool) :
    ((s.applyChange c ramp).audCh c).pend = none ∧ ((s.applyChange c ramp).audCh c).started = decide (a = .start) := by
  unfold State.applyChange
  rcases ha with rfl | rfl <;> simp [pending, State.cmdDone_audCh]

/-- A mute or unmute that applies mutes or unmutes its channel. -/
theorem State.applyChange_mutes (ha : a = .mute ∨ a = .unmute) (ramp : Bool) :
    ((s.applyChange c ramp).audCh c).pend = none ∧ ((s.applyChange c ramp).audCh c).muted = decide (a = .mute) := by
  unfold State.applyChange
  rcases ha with rfl | rfl <;> simp [pending, State.cmdDone_audCh]

/-- Every change but the switch within a route change waits for a crossing. -/
theorem AudCh.waits_of (ha : ∀ src sel us, a ≠ .switch src sel us) : (s.audCh c).waits = true := by
  unfold AudCh.waits
  rw [pending]
  cases a with
  | switch src sel us => exact absurd rfl (ha src sel us)
  | _ => rfl

end

/-- Whether the next sample of a channel is a crossing that its change waits for, where a port sends the channel. -/
def State.Crosses (s : State) (c : Nat) : Prop := ∀ k, s.portOfChan c = some k →
  s.crossesAt (s.audCh c) (s.routed c (s.outSrate k) (s.nextRelease k)).1 (s.nextRelease k) = true

theorem State.crossing_applies {s : State} {c : Nat} (live : s.audioOn = true) (waits : (s.audCh c).waits = true) (crosses : s.Crosses c) :
    s.crossing c = s.applyChange c false := by
  unfold State.crossing
  rw [live, waits]
  cases port : s.portOfChan c with
  | none => rfl
  | some k => exact if_pos (crosses k port)

theorem State.crossing_stays {s : State} {c : Nat} (stays : ¬ s.Crosses c) : s.crossing c = s := by
  obtain ⟨k, hk⟩ := not_forall.1 stays
  obtain ⟨port, no⟩ := Classical.not_imp.1 hk
  unfold State.crossing
  rw [port]
  split
  · exact if_neg no
  · rfl

/-- A change that waited too long for its crossing applies all the same, counted at its port and raised. -/
theorem State.crossingTimeout_acts {s : State} {c n k : Nat} {a : AudChange} {cmd : Option (Nat × Ticket)}
    (pending : (s.audCh c).pend = some (a, n, cmd)) (live : s.audioOn = true) (waits : (s.audCh c).waits = true)
    (late : n + s.zcTicks ≤ s.lc) (port : s.portOfChan c = some k) :
    s.Counted (s.crossingTimeout c) (Reg.AUD_OUT_ZC_TO_CNT k) ∧ (s.crossingTimeout c).Latches 0x0E03 := by
  have applies : s.crossingTimeout c = ((s.applyChange c true).bump (Reg.AUD_OUT_ZC_TO_CNT k)).raise 0x0E03 (objAudio k) {} := by
    unfold State.crossingTimeout
    rw [pending]
    dsimp only
    rw [live, waits, decide_eq_true late, port]
    rfl
  rw [applies]
  exact ⟨((State.bump_counted _ _).before ((State.applyChange_keeps (.refl _ s) (within_self _)).get_like (f := Reg.AUD_OUT_ZC_TO_CNT k)
      (Reg.AUD_OUT_ZC_TO_CNT 0) rfl rfl)).after (State.raise_get _ _ _ _ (Reg.AUD_OUT_ZC_TO_CNT k) (Reg.AUD_OUT_ZC_TO_CNT 0) rfl),
    State.raise_latches _ _ _ _⟩

end Sys2Proof.Machine
end

/-! # Proofs: the descriptors of audio ports (R368 to R370) -/

section
namespace Sys2Proof.Machine

-- One theorem at a time: the text is compiled as one, and more threads would not fit in memory.
set_option Elab.async false

open Sys2Proof

/-! ## Changes of a whole port (R368) -/

/-- A change of a port's channels is pending on each of them. -/
theorem State.pendChanges_pend (l : List Nat) (s : State) (a : AudChange) (cmd : Option (Nat × Ticket)) {c : Nat}
    (hc : c ∈ l ∨ ((s.audCh c).pend = some (a, s.lc, cmd))) :
    ((l.foldl (fun (t : State) c => t.pendChange c a cmd) s).audCh c).pend = some (a, s.lc, cmd) := by
  induction l generalizing s with
  | nil => exact hc.resolve_left List.not_mem_nil
  | cons d l ih =>
    have lc : (s.pendChange d a cmd).lc = s.lc := (State.pendChange_keeps (.refl _ s) (within_self _)).lcKept rfl
    rw [List.foldl_cons, ← lc]
    refine ih _ ?_
    by_cases same : c = d
    · subst same
      exact .inr (by rw [State.pendChange_audCh, lc])
    · refine hc.imp (fun h => (List.mem_cons.1 h).resolve_left same) fun h => ?_
      rw [State.pendChange_audCh_other s same, lc, h]

/-- The channels of a port are those of a state that reads the same registers. -/
theorem Keeps.outChans {w : Nat} {s t : State} (h : Keeps w s t) (k : Nat)
    (hw : w.testBit (64 + (Reg.AUD_OUT_CHANNELS 0).id % 1024) = false ∧ w.testBit (64 + (Reg.AUD_OUT_FIRST_CH 0).id % 1024) = false := by decide) :
    t.outChans k = s.outChans k := by
  unfold State.outChans
  rw [h.get_like (f := Reg.AUD_OUT_CHANNELS k) (Reg.AUD_OUT_CHANNELS 0) rfl hw.1,
    h.get_like (f := Reg.AUD_OUT_FIRST_CH k) (Reg.AUD_OUT_FIRST_CH 0) rfl hw.2]

/-- The change that a command asks for (R368). -/
def audChangeOf (d : Desc) : AudChange :=
  if d.p 32 1 = 1 then .start else if d.p 32 1 = 2 then .stop else if d.p 32 1 = 3 then .mute else .unmute

/-- The status of an AUDIO_CMD is shown and logged. -/
def State.audioCmdShown (s : State) (d : Desc) (fn : Nat) (c : Code) : State :=
  (s.set (Reg.AUD_OUT_LAST_STATUS d.objIndex.toNat) c).logDesc fn d.obj c 0 (d.p 32 1)

theorem State.audioCmdShown_keeps (s : State) (d : Desc) (fn : Nat) (c : Code) : Keeps routeJudgedMask s (s.audioCmdShown d fn c) := by
  have shows : routeJudgedMask.testBit (64 + (Reg.AUD_OUT_LAST_STATUS 0).id % 1024) = true := by decide
  exact State.logDesc_keeps (State.set_keeps shows (.refl _ _))

theorem State.audioCmdShown_status (s : State) (d : Desc) (fn : Nat) {c : Code} (hc : c < 2 ^ 16) :
    (s.audioCmdShown d fn c).get (Reg.AUD_OUT_LAST_STATUS d.objIndex.toNat) = c :=
  ((State.logDesc_keeps (.refl _ _) (within_self _)).get_like (f := Reg.AUD_OUT_LAST_STATUS d.objIndex.toNat) (Reg.AUD_OUT_LAST_STATUS 0)
    rfl rfl).trans (State.get_set_fits hc s)

theorem actAudioCmd_on {s : State} {d : Desc} (t : Ticket) (on : s.on (Reg.AUD_OUT_ENABLE d.objIndex.toNat) = true) :
    actAudioCmd d t s = ({ s.audioCmdShown d t.fn 0 with
      aud := { (s.audioCmdShown d t.fn 0).aud with cmd := (s.audioCmdShown d t.fn 0).aud.cmd + 1 } } : State).portChange d.objIndex.toNat
        (audChangeOf d) (some ((s.audioCmdShown d t.fn 0).aud.cmd, t)) := if_pos on

theorem actAudioCmd_off {s : State} {d : Desc} (t : Ticket) (off : s.on (Reg.AUD_OUT_ENABLE d.objIndex.toNat) = false) :
    actAudioCmd d t s = (s.audioCmdShown d t.fn 0x2E01).complete t 0x2E01 0 := if_neg (by rw [off]; decide)

/-- Being consumed leaves whether a port is enabled. -/
theorem State.taken_on (s : State) (op : Nat) (d : Desc) (f : Field) : (s.taken op d).on f = s.on f := by
  have small : Nat.testBit 0x81800000 (64 + f.id % 1024) = false :=
    Nat.testBit_lt_two_pow ((by decide : 0x81800000 < 2 ^ 64).trans_le (Nat.pow_le_pow_right (by decide) (Nat.le_add_right 64 _)))
  unfold State.on
  rw [(s.taken_keeps op d).get_like f rfl small]

/-- AUDIO_CMD of an output that is not enabled is refused. -/
theorem State.audioCmd_refused {s : State} {d : Desc} (ok : s.Accepts audioCmdSpec d)
    (off : s.on (Reg.AUD_OUT_ENABLE d.objIndex.toNat) = false) :
    s.Answers (s.runDesc audioCmdSpec d actAudioCmd) d 0x2E01 ∧
      (s.runDesc audioCmdSpec d actAudioCmd).get (Reg.AUD_OUT_LAST_STATUS d.objIndex.toNat) = 0x2E01 := by
  rw [State.runDesc_acts ok, actAudioCmd_off _ ((s.taken_on _ d _).trans off)]
  refine ⟨State.taken_answers ok.1 (State.audioCmdShown_keeps _ d _ _).sent (State.logDesc_stay (State.set_stay (.refl _))) _ _, ?_⟩
  rw [(State.complete_keeps (.refl _ _) (within_self _)).get_like (f := Reg.AUD_OUT_LAST_STATUS d.objIndex.toNat) (Reg.AUD_OUT_LAST_STATUS 0) rfl rfl]
  exact State.audioCmdShown_status _ d _ (by decide)

/-- AUDIO_CMD of an enabled output makes its change pending on each of the port's channels. -/
theorem State.audioCmd_pends {s : State} {d : Desc} (ok : s.Accepts audioCmdSpec d)
    (on : s.on (Reg.AUD_OUT_ENABLE d.objIndex.toNat) = true) :
    (s.runDesc audioCmdSpec d actAudioCmd).get (Reg.AUD_OUT_LAST_STATUS d.objIndex.toNat) = 0 ∧
      ∀ c ∈ s.outChans d.objIndex.toNat, ((s.runDesc audioCmdSpec d actAudioCmd).audCh c).pend =
        some ((audChangeOf d), s.lc, some (s.aud.cmd, s.ticketOf d)) := by
  let u := (s.taken audioCmdSpec.opcode d).audioCmdShown d (s.ticketOf d).fn 0
  let v : State := { u with aud := { u.aud with cmd := u.aud.cmd + 1 } }
  have taken := s.taken_keeps audioCmdSpec.opcode d
  have shown := (s.taken audioCmdSpec.opcode d).audioCmdShown_keeps d (s.ticketOf d).fn 0
  have acts : s.runDesc audioCmdSpec d actAudioCmd = v.portChange d.objIndex.toNat (audChangeOf d) (some (u.aud.cmd, s.ticketOf d)) := by
    rw [State.runDesc_acts ok, actAudioCmd_on _ ((s.taken_on _ d _).trans on)]
  have lc : v.lc = s.lc := (shown.lcKept rfl).trans (taken.lcKept rfl)
  have cmd : u.aud.cmd = s.aud.cmd := congrArg Aud.cmd ((shown.audKept rfl).trans (taken.audKept rfl))
  have chans : v.outChans d.objIndex.toNat = s.outChans d.objIndex.toNat := (shown.outChans _).trans (taken.outChans _)
  rw [acts]
  refine ⟨?_, fun c hc => ?_⟩
  · rw [(State.portChange_keeps (.refl _ _) (within_self _)).get_like
      (f := Reg.AUD_OUT_LAST_STATUS d.objIndex.toNat) (Reg.AUD_OUT_LAST_STATUS 0) rfl rfl]
    exact State.audioCmdShown_status _ d _ (by decide)
  · rw [← lc, ← cmd]
    exact State.pendChanges_pend _ v _ _ (.inl (chans ▸ hc))

/-! ## Templates and captures (R369, R370) -/

/-- AUD_TEMPLATE_LOAD of an output that is not enabled is refused and leaves Calliope. -/
theorem State.templateLoad_refused {s : State} {d : Desc} (ok : s.Accepts templateSpec d)
    (off : s.on (Reg.AUD_OUT_ENABLE d.objIndex.toNat) = false) :
    s.Answers (s.runDesc templateSpec d actTemplateLoad) d 0x2E01 ∧ (s.runDesc templateSpec d actTemplateLoad).aud = s.aud := by
  have acts : s.runDesc templateSpec d actTemplateLoad = ((s.taken templateSpec.opcode d).logHash (s.ticketOf d).fn d.obj 0x2E01
      (d.bytes.take 96)).complete (s.ticketOf d) 0x2E01 0 :=
    (State.runDesc_acts ok _).trans (if_neg (by rw [s.taken_on _ d, off]; decide))
  rw [acts]
  refine ⟨State.taken_answers ok.1 (State.logHash_keeps (.refl _ _) (within_self _)).sent (State.logHash_stay (.refl _)) _ _, ?_⟩
  exact ((State.complete_keeps (.refl _ _) (within_self _)).audKept rfl).trans
    (((State.logHash_keeps (.refl _ _) (within_self _)).audKept rfl).trans ((s.taken_keeps _ d).audKept rfl))

/-- AUD_TEMPLATE_LOAD of an enabled output has its template wait for the next block. -/
theorem State.templateLoad_waits {s : State} {d : Desc} (ok : s.Accepts templateSpec d)
    (on : s.on (Reg.AUD_OUT_ENABLE d.objIndex.toNat) = true) :
    s.Answers (s.runDesc templateSpec d actTemplateLoad) d 0 ∧
      ((s.runDesc templateSpec d actTemplateLoad).audOut d.objIndex.toNat).waiting = some (d.bytes.take 96) := by
  let u := s.taken templateSpec.opcode d
  let v := u.setAudOut d.objIndex.toNat { u.audOut d.objIndex.toNat with waiting := some (d.bytes.take 96) }
  have set : Keeps _ u v := State.setAudOut_keeps (.refl _ u) (within_self _)
  have acts : s.runDesc templateSpec d actTemplateLoad = (v.logHash (s.ticketOf d).fn d.obj 0 (d.bytes.take 96)).complete (s.ticketOf d) 0 0 :=
    (State.runDesc_acts ok _).trans (if_pos ((s.taken_on _ d _).trans on))
  rw [acts]
  refine ⟨State.taken_answers ok.1 (set.sent.trans (State.logHash_keeps (.refl _ _) (within_self _)).sent)
    (State.logHash_stay set.ringsStay) _ _, ?_⟩
  have aud : ((v.logHash (s.ticketOf d).fn d.obj 0 (d.bytes.take 96)).complete (s.ticketOf d) 0 0).aud = v.aud :=
    ((State.complete_keeps (.refl _ _) (within_self _)).audKept rfl).trans ((State.logHash_keeps (.refl _ _) (within_self _)).audKept rfl)
  unfold State.audOut
  rw [aud]
  exact congrArg AudOut.waiting (State.audOut_setAudOut u d.objIndex.toNat _)

theorem Memory.readAll_length (m : List Host.Cell) (a n : Nat) : (Memory.readAll m a n).length = n := by
  induction n generalizing a with
  | zero => rfl
  | succ n ih => exact congrArg (· + 1) (ih (a + 1))

/-- Blocks read one after another are as long as so many blocks. -/
theorem Memory.blocks_length (m : List Host.Cell) (a : Nat → Nat) (size n : Nat) :
    ((List.range n).flatMap (fun i => Memory.readAll m (a i) size)).length = n * size := by
  simp [List.length_flatMap, Memory.readAll_length]

/-- The whole blocks that fit a buffer, or none at all, fit it. -/
theorem wholeBlocks_fit (p : Prop) [Decidable p] (room size there : Nat) :
    (if p then 0 else min (room / size) there) * size ≤ room := by
  split
  · omega
  · exact (Nat.mul_le_mul_right _ (Nat.min_le_left _ _)).trans (Nat.div_mul_le_self _ _)

/-- AUD_CAPTURE_READ writes whole blocks, no more than it was given room for. -/
theorem State.captureRead_acts {s : State} {d : Desc} (ok : s.Accepts captureReadSpec d) :
    s.Answers (s.runDesc captureReadSpec d actCaptureRead) d 0 ∧ s.Sent (s.runDesc captureReadSpec d actCaptureRead)
      (fun o => ∃ l ep, o = .hostWrite (s.submitter d) (d.p 32 8) l ep ∧ l.length ≤ d.p 40 4) := by
  let u := s.taken captureReadSpec.opcode d
  obtain ⟨x, -, -, ticket⟩ := State.ticketOf_eq ok.1
  have writes : ∃ l ep r, l.length ≤ d.p 40 4 ∧ s.runDesc captureReadSpec d actCaptureRead =
      (u.hostWriteEp (s.ticketOf d) (d.p 32 8) l ep).complete (s.ticketOf d) 0 r := by
    refine ⟨_, _, _, ?_, State.runDesc_acts ok _⟩
    rw [Memory.blocks_length]
    exact wholeBlocks_fit _ _ _ _
  obtain ⟨l, ep, r, room, acts⟩ := writes
  have emits : u.hostWriteEp (s.ticketOf d) (d.p 32 8) l ep = u.emit (.hostWrite (s.submitter d) (d.p 32 8) l ep) := by
    have epoch : (u.fn (s.submitter d)).epoch = (s.fn (s.submitter d)).epoch := by
      unfold State.fn
      rw [(State.taken_stay ok.1 _).2]
    unfold State.hostWriteEp
    rw [ticket]
    exact if_neg (not_not.2 epoch)
  rw [acts, emits]
  refine ⟨State.taken_answers ok.1 (List.suffix_cons _ _) (State.emit_stay (.refl _)) _ _, ?_⟩
  exact ((State.sent_emit u _ _ ⟨l, ep, rfl, room⟩).before (s.taken_keeps _ d).sent).after (State.complete_keeps (.refl _ _) (within_self _)).sent

/-! ## The audio family (O39) -/

theorem AudIn.gridOf_fin (y : AudIn) (c : Fin 2) : (if c = 0 then y.grid.1 else y.grid.2) = y.gridOf c.val := by
  unfold AudIn.gridOf
  simp only [Fin.ext_iff, Fin.val_zero]

/-- What a frame does to an AES3 input that is live (R357 to R359). -/
theorem State.aesRx_acts {s : State} {j : Nat} {f : AesFrame} (live : s.aesLive j = true) :
    (s.on (Reg.AUD_IN_LOCK j) = false → f.valid = true → f.a.parityOk = true → f.b.parityOk = true →
      (63 ≤ (s.audIn j).good → (s.aesRx j f).get (Reg.AUD_IN_LOCK j) = 1 ∧ (s.aesRx j f).Latches 0x0E01) ∧
      ((s.audIn j).good < 63 → ((s.aesRx j f).audIn j).good = (s.audIn j).good + 1)) ∧
    (s.on (Reg.AUD_IN_LOCK j) = true → f.valid = true ∨ (s.audIn j).bad = false → ((s.aesRx j f).audIn j).bad = !f.valid ∧
      ((s.aesRx j f).audIn j).last = (subValue f.valid f.a (s.audIn j).last.1, subValue f.valid f.b (s.audIn j).last.2)) ∧
    (s.on (Reg.AUD_IN_LOCK j) = true → f.valid = false → (s.audIn j).bad = true → (s.aesRx j f).get (Reg.AUD_IN_LOCK j) = 0 ∧
      s.Counted (s.aesRx j f) (Reg.AUD_IN_LOSS_CNT j) ∧ (s.aesRx j f).Latches 0x6E01) := by
  refine ⟨fun lock valid pa pb => ⟨fun run => ?_, fun run => ?_⟩, fun lock go => ?_, fun lock invalid bad => ?_⟩
  · rw [State.aesRx_locks live lock (by rw [valid, pa, pb]; rfl) run]
    exact State.aesLock_acts _ _ _
  · rw [State.aesRx_counts live lock (by rw [valid, pa, pb]; rfl) run, State.audIn_setAudIn]
  · rw [State.aesRx_takes live lock go]
    have framed := State.aesFrame_last (s.setAudIn j { s.audIn j with bad := !f.valid }) j f (s.activeMap.at16 s.lc f.sub.val : Int)
    rwa [State.audIn_setAudIn] at framed
  · rw [State.aesRx_loses live lock invalid bad]
    obtain ⟨off, lost, latched, -⟩ := State.aesLoss_acts lock false
    exact ⟨off, lost, latched⟩

/-- Settles O39. Inputs: a frame, a lost lock, a mapping and a slip each end in the write that their clause names. Ports and routes: the code
decides between the settings and the status, and what the log writes is none of them. Changes wait on their channel until they apply. The
descriptors act on the state in which they were consumed, which reads and holds what theirs did (R357 to R373). -/
theorem audioInputsPortsAndRoutesAct : Obligations.AudioInputsPortsAndRoutesAct := by
  unfold Obligations.AudioInputsPortsAndRoutesAct
  refine ⟨fun s => ⟨fun j f live enabled domain => ?_, fun j rate lock => ⟨_, rfl, State.aesLoss_acts lock rate⟩,
      fun j ppm lock auto undecided measured => ⟨_, rfl, State.asrcDecide_acts ppm lock auto undecided measured⟩, fun j c lock decided sync => ?_,
      State.mclkLoss_acts, ⟨_, rfl, State.get_set_fits (by decide : 1 < 2 ^ 1) s⟩, fun w hw => State.mclkResume_acts hw,
      fun r p x flow unchecked => ?_⟩,
    fun s => ⟨fun w k v hw en => ⟨fun aes off => ?_, fun out off => ?_⟩, fun w c v hw => ?_, fun c a n cmd pending live => ?_,
      fun d ok => ?_,
      fun d ok => ⟨fun off => ⟨_, rfl, State.templateLoad_refused ok off⟩, fun on => ⟨_, rfl, State.templateLoad_waits ok on⟩⟩,
      fun d ok => ⟨_, rfl, State.captureRead_acts ok⟩⟩⟩
  · have aesLive : s.aesLive j = true := by rw [State.aesLive, live, enabled, domain]; rfl
    obtain ⟨unlocked, locked, loses⟩ := State.aesRx_acts (f := f) aesLive
    exact ⟨fun lock valid pa pb => ⟨fun run => ⟨_, rfl, (unlocked lock valid pa pb).1 run⟩,
        fun run => ⟨_, rfl, (unlocked lock valid pa pb).2 run⟩⟩,
      fun lock go => ⟨_, rfl, locked lock go⟩, fun lock invalid bad => ⟨_, rfl, loses lock invalid bad⟩⟩
  · intro per g err half
    have channel : ∀ y : AudIn, (if c = 0 then y.grid.1 else y.grid.2) = y.gridOf c.val := fun y => y.gridOf_fin c
    have grid : g = (s.audIn j).gridOf c.val := channel _
    obtain ⟨counted, latched, moved⟩ := State.slip_acts (c := c.val) lock decided sync (err := err) (by rw [← grid]) half
    exact ⟨_, rfl, counted, latched, (channel _).trans (grid ▸ moved)⟩
  · intro bad
    have taken : s.Taken (32 + r) p x.flow := ⟨flow, unchecked⟩
    exact ⟨fun isBad => ⟨_, execAudioPacketRx_eq r p x s, taken.audio_bad _ isBad⟩, fun v ok new => fun near one chans =>
      ⟨_, execAudioPacketRx_eq r p x s, (taken.audio_one ok new rfl near one chans).imp_right fun kept => ⟨_, kept, rfl, rfl, rfl⟩⟩⟩
  · obtain ⟨passes, fails⟩ := State.aesInWrite_acts hw en aes off
    exact ⟨fun ok => ⟨_, rfl, passes ok⟩, fun bad => ⟨_, rfl, fails bad⟩⟩
  · obtain ⟨passes, fails⟩ := State.audOutWrite_acts hw en out off rfl
    exact ⟨fun ok => ⟨_, rfl, passes ok⟩, fun bad => ⟨_, rfl, fails bad⟩⟩
  · obtain ⟨fails, alone, waits⟩ := State.audRouteWrite_acts (v := v.toNat) c.isLt hw
    exact ⟨fun bad => ⟨_, rfl, fails bad⟩, fun ok port => ⟨_, rfl, alone ok port⟩, fun k ok port => ⟨_, rfl, waits k ok port⟩⟩
  · intro crosses
    refine ⟨fun ha cross => ⟨_, rfl, ?_⟩, fun ha cross => ⟨_, rfl, ?_⟩, fun stays => ⟨_, rfl, State.crossing_stays stays⟩,
      fun k waits late port => ⟨_, rfl, State.crossingTimeout_acts pending live waits late port⟩⟩
    · rw [State.crossing_applies live (AudCh.waits_of pending (by rcases ha with rfl | rfl <;> simp)) cross]
      exact State.applyChange_starts pending ha false
    · rw [State.crossing_applies live (AudCh.waits_of pending (by rcases ha with rfl | rfl <;> simp)) cross]
      exact State.applyChange_mutes pending ha false
  · refine ⟨fun off => ⟨_, rfl, State.audioCmd_refused ok off⟩, fun on => ?_⟩
    obtain ⟨status, pends⟩ := State.audioCmd_pends ok on
    obtain ⟨x, -, -, ticket⟩ := State.ticketOf_eq ok.1
    exact ⟨_, rfl, status, s.ticketOf d, ticket ▸ rfl, ticket ▸ rfl, pends⟩

end Sys2Proof.Machine
end

/-! # Proofs: commits of the compositors (R189, R190) -/

section
namespace Sys2Proof.Machine

-- One theorem at a time: the text is compiled as one, and more threads would not fit in memory.
set_option Elab.async false

open Sys2Proof

/-! ## What a consumed descriptor leaves -/

/-- Being consumed leaves what no ring, no MIRROR record and no round of the rings tells. -/
theorem State.taken_reads {α : Type} (v : State → α) (h : ∀ (t : State) r m y, v { t with rings := r, mirrorQ := m, sys := y } = v t)
    (s : State) (op : Nat) (d : Desc) : v (s.taken op d) = v s := by
  have mirrored : ∀ (t : State) x, v (t.mirror3 x) = v t := fun t x => by
    unfold State.mirror3 State.mirror
    split
    · rfl
    · split
      · split
        · exact h t t.rings _ t.sys
        · rfl
      · rfl
  have consumed : v (s.consume d.rid.val d.cookie.toNat).1 = v s := by
    unfold State.consume State.updRing
    split
    · rfl
    · dsimp only
      split
      · exact h s _ s.mirrorQ _
      · exact h s _ s.mirrorQ _
  exact (mirrored _ _).trans consumed

section
variable (s : State) (op : Nat) (d : Desc)

@[simp] theorem State.taken_get (f : Field) : (s.taken op d).get f = s.get f := State.taken_reads (·.get f) (fun _ _ _ _ => rfl) s op d

@[simp] theorem State.taken_lc : (s.taken op d).lc = s.lc := State.taken_reads State.lc (fun _ _ _ _ => rfl) s op d

@[simp] theorem State.taken_cmp (n : Nat) : (s.taken op d).cmp n = s.cmp n := State.taken_reads (·.cmp n) (fun _ _ _ _ => rfl) s op d

@[simp] theorem State.taken_cmpCode (n : Nat) : (s.taken op d).cmpCode n = s.cmpCode n :=
  State.taken_reads (·.cmpCode n) (fun _ _ _ _ => rfl) s op d

end

/-! ## The shadowed fields (R189) -/

/-- The field of slot 0, and of its layer 0, that is at slot n and layer l. -/
def cmpFieldAt (n l : Nat) (f : Field) : Field := { f with off := f.off + 0x4000 * n + 0x40 * l }

/-- One shadowed field of each name: those of slot 0, then those of its layer 0. -/
def cmpSample : List Field := (cmpFields 0).take 12 ++ layerFields 0 0

theorem cmpFields_eq (n : Nat) : cmpFields n = ((cmpFields 0).take 12).map (cmpFieldAt n 0) ++
    layers16.flatMap (fun l => (layerFields 0 0).map (cmpFieldAt n l)) := rfl

/-- A shadowed field is that of its name, of a slot and a layer. -/
theorem exists_of_mem_cmpFields {n : Nat} {f : Field} (hf : f ∈ cmpFields n) :
    ∃ g ∈ cmpSample, ∃ l < 16, f = cmpFieldAt n l g := by
  rw [cmpFields_eq] at hf
  rcases List.mem_append.1 hf with slot | layer
  · obtain ⟨g, hg, rfl⟩ := List.mem_map.1 slot
    exact ⟨g, List.mem_append_left _ hg, 0, by decide, rfl⟩
  · obtain ⟨l, hl, named⟩ := List.mem_flatMap.1 layer
    obtain ⟨g, hg, rfl⟩ := List.mem_map.1 named
    exact ⟨g, List.mem_append_right _ hg, l, List.mem_range.1 hl, rfl⟩

theorem oneShape_cmpFields (n : Nat) : OneShape (cmpFields n) :=
  .of_sample (m := cmpSample) (by unfold OneShape; decide +kernel) fun f hf => by
    obtain ⟨g, hg, l, -, rfl⟩ := exists_of_mem_cmpFields hf
    exact List.mem_map.2 ⟨g, hg, rfl⟩

/-- The numbers of the shadowed fields. -/
def cmpNames : List Nat := cmpSample.map (fun f => f.id % 1024)

theorem mem_cmpNames {n : Nat} {f : Field} (hf : f ∈ cmpFields n) : f.id % 1024 ∈ cmpNames := by
  obtain ⟨g, hg, l, -, rfl⟩ := exists_of_mem_cmpFields hf
  exact List.mem_map_of_mem (f := fun f => f.id % 1024) hg

/-- A shadowed field is the one that software wrote, and its key leaves room for the bank. -/
theorem cmpFields_written {n : Nat} (hn : n < 4) {f : Field} (hf : f ∈ cmpFields n) : bank 0 f = f ∧ fieldKey f < 2 ^ 50 := by
  have sample : ∀ g ∈ cmpSample, bank 0 g = g ∧ g.lsb < 32 ∧ g.off < 0x3d0000 ∧ g.fn = 0 ∧ g.bank = 0 := by decide +kernel
  obtain ⟨g, hg, l, hl, rfl⟩ := exists_of_mem_cmpFields hf
  obtain ⟨written, lsb, off, fn, zero⟩ := sample g hg
  refine ⟨?_, ?_⟩
  · rw [bank, cmpFieldAt, zero]
  · simp only [fieldKey, cmpFieldAt, fn, zero]
    omega

/-- The copies of a shadowed field in two banks have two keys. -/
theorem cmpFields_banks_apart {n : Nat} (hn : n < 4) {a b : Nat} (hab : a ≠ b) {f g : Field} (hf : f ∈ cmpFields n) (hg : g ∈ cmpFields n) :
    fieldKey (bank a f) ≠ fieldKey (bank b g) := by
  have key : ∀ b, ∀ h ∈ cmpFields n, fieldKey (bank b h) = fieldKey h + 2 ^ 50 * b := fun b h hh => by
    have written : h.bank = 0 := congrArg Field.bank (cmpFields_written hn hh).1.symm
    simp only [fieldKey, bank, written]
    omega
  have hf' := (cmpFields_written hn hf).2
  have hg' := (cmpFields_written hn hg).2
  rw [key a f hf, key b g hg]
  omega

/-! ## Copies from bank to bank -/

theorem State.copyBank_get {l : List Field} {b : Nat} {f : Field} (h : ∀ g ∈ l, fieldKey f ≠ fieldKey (bank b g)) (s : State) (a : Nat) :
    (s.copyBank a b l).get f = s.get f := by
  induction l generalizing s with
  | nil => rfl
  | cons g l ih =>
    obtain ⟨new, rest⟩ := List.forall_mem_cons.1 h
    exact (ih rest _).trans (State.get_set_key _ _ _ _ new)

theorem fieldKey_bank_congr {f g : Field} {b : Nat} (h : fieldKey (bank b f) = fieldKey (bank b g)) (a : Nat) :
    fieldKey (bank a f) = fieldKey (bank a g) := by
  simp only [fieldKey, bank] at h ⊢
  omega

theorem State.copyBank_cmps (l : List Field) (s : State) (a b : Nat) : (s.copyBank a b l).cmps = s.cmps := by
  induction l generalizing s with
  | nil => rfl
  | cons f l ih => exact ih _

/-- A field whose key is that of a listed one reads in the one bank what it reads in the other, where the listed fields of its name
have its shape. -/
theorem State.copyBank_listed (l : List Field) (s : State) {a b : Nat} {f : Field}
    (hf : fieldKey (bank b f) ∈ l.map (fun g => fieldKey (bank b g)))
    (shape : ∀ g ∈ l, g.id % 1024 = f.id % 1024 → fieldWidth g = fieldWidth f ∧ g.reset = f.reset)
    (apart : ∀ g ∈ l, fieldKey (bank a f) ≠ fieldKey (bank b g)) :
    (s.copyBank a b l).get (bank b f) = s.get (bank a f) % 2 ^ fieldWidth f := by
  induction l generalizing s with
  | nil => cases hf
  | cons g l ih =>
    obtain ⟨gShape, shape⟩ := List.forall_mem_cons.1 shape
    obtain ⟨gApart, apart⟩ := List.forall_mem_cons.1 apart
    by_cases later : fieldKey (bank b f) ∈ l.map (fun g => fieldKey (bank b g))
    · exact (ih _ later shape apart).trans (congrArg (· % 2 ^ fieldWidth f) (State.get_set_key _ _ _ _ gApart))
    · have key : fieldKey (bank b f) = fieldKey (bank b g) := (List.mem_cons.1 hf).resolve_right later
      obtain ⟨width, reset⟩ := gShape (fieldKey_id (f := bank b f) (g := bank b g) key).symm
      have source : s.get (bank a g) = s.get (bank a f) := by
        rw [State.get, State.get, fieldKey_bank_congr key a]
        exact congrArg (Table.getD s.regs _) reset
      have kept := (s.set (bank b g) (s.get (bank a g))).copyBank_get (f := bank b f)
        (fun h hh same => later (List.mem_map.2 ⟨h, hh, same.symm⟩)) a
      exact kept.trans ((State.get_set_alias _ _ key width.symm reset.symm).trans (by rw [source]; rfl))

/-- The fields of a slot's compositor reach another bank. -/
theorem State.copyBank_cmpFields {n : Nat} (hn : n < 4) {a b : Nat} (hab : a ≠ b) {f : Field} (hf : f ∈ cmpFields n) (s : State) :
    (s.copyBank a b (cmpFields n)).get (bank b f) = s.get (bank a f) % 2 ^ fieldWidth f :=
  State.copyBank_listed _ s (List.mem_map_of_mem hf) (oneShape_cmpFields n f hf) fun _ hg => cmpFields_banks_apart hn hab hf hg

theorem State.copyBank_cmpFields_other {n : Nat} (hn : n < 4) {b c : Nat} (hbc : c ≠ b) {f : Field} (hf : f ∈ cmpFields n) (s : State) (a : Nat) :
    (s.copyBank a b (cmpFields n)).get (bank c f) = s.get (bank c f) :=
  State.copyBank_get (fun _ hg => cmpFields_banks_apart hn hbc hf hg) s a

/-- What leaves the registers of the shadowed names leaves each of their copies. -/
theorem Keeps.cmpKept {w : Nat} {s t : State} (k : Keeps w s t) {n : Nat} {f : Field} (hf : f ∈ cmpFields n) (b : Nat)
    (h : ∀ i ∈ cmpNames, w.testBit (64 + i) = false := by decide +kernel) : t.get (bank b f) = s.get (bank b f) :=
  k.regs (bank b f) (h (f.id % 1024) (mem_cmpNames hf))

theorem Keeps.cmpSame {w : Nat} {s t : State} (k : Keeps w s t) (n : Nat) (h : w.testBit 7 = false := by decide +kernel) : t.cmp n = s.cmp n :=
  congrArg (fun x => Table.getD x n Cmp.reset) (k.cmpsKept h)

/-! ## A configuration in force -/

/-- What the compositor shows of a slot's configuration in force: the lagged layers and the state of the Bench. -/
def State.cmpShown (s : State) (n : Nat) : State :=
  let t := s.set (Reg.CMP_SLOT_STATUS_LAG n) (s.lagMask 1 n)
  if t.get (bank 1 (Reg.CMP_SLOT_BENCH_EN n)) = 0 then
    (t.updCmp n (fun c => { c with bench := none })).set (Reg.CMP_SLOT_STATUS_BENCH_STATE n) 0
  else if t.get (Reg.CMP_SLOT_STATUS_BENCH_STATE n) = 0 then t.set (Reg.CMP_SLOT_STATUS_BENCH_STATE n) 1 else t

/-- What a configuration that comes into force may change beside its fields: the compositors, and the status of slots and layers. -/
def cmpStatusMask : Nat :=
  frameMask ([(Reg.CMP_SLOT_STATUS_LAG 0).id, (Reg.CMP_SLOT_STATUS_BENCH_STATE 0).id, (Reg.CMP_L_FILLED 0 0).id], [.cmps])

theorem cmpStatus_lag : cmpStatusMask.testBit (64 + (Reg.CMP_SLOT_STATUS_LAG 0).id % 1024) = true := by decide +kernel
theorem cmpStatus_bench : cmpStatusMask.testBit (64 + (Reg.CMP_SLOT_STATUS_BENCH_STATE 0).id % 1024) = true := by decide +kernel
theorem cmpStatus_filled : cmpStatusMask.testBit (64 + (Reg.CMP_L_FILLED 0 0).id % 1024) = true := by decide +kernel
theorem cmpStatus_cmps : within 0x80 cmpStatusMask = true := by decide +kernel

theorem State.cmpShown_keeps (s : State) (n : Nat) : Keeps cmpStatusMask s (s.cmpShown n) := by
  have lag : Keeps cmpStatusMask s (s.set (Reg.CMP_SLOT_STATUS_LAG n) (s.lagMask 1 n)) := State.set_keeps cmpStatus_lag (.refl _ s)
  exact .ite _ (State.set_keeps cmpStatus_bench (State.updCmp_keeps lag cmpStatus_cmps)) (.ite _ (State.set_keeps cmpStatus_bench lag) lag)

/-- A bank comes into force: the layers that it changes begin anew, its fields are copied, and the status follows. -/
theorem State.cmpApply_eq (s : State) (b n : Nat) :
    ∃ t, Keeps cmpStatusMask s t ∧ s.cmpApply b n = (t.copyBank b 1 (cmpFields n)).cmpShown n := by
  refine ⟨_, ?_, rfl⟩
  refine .foldl _ _ (.refl _ s) fun t l h => ?_
  dsimp only
  exact .ite _ (State.set_keeps cmpStatus_filled (State.setLayer_keeps h cmpStatus_cmps)) (.ite _ (State.setLayer_keeps h cmpStatus_cmps) h)

/-- Every shadowed field of a bank that comes into force reads so. -/
theorem State.cmpApply_reads {n : Nat} (hn : n < 4) {f : Field} (hf : f ∈ cmpFields n) (s : State) {b : Nat} (hb : b ≠ 1) :
    (s.cmpApply b n).get (bank 1 f) = s.get (bank b f) % 2 ^ fieldWidth f := by
  obtain ⟨t, kept, applied⟩ := s.cmpApply_eq b n
  rw [applied, (State.cmpShown_keeps _ n).cmpKept hf 1, State.copyBank_cmpFields hn hb hf, kept.cmpKept hf b]

/-! ## A commit (R189, R190) -/

/-- Of two codes either fits a status field. -/
theorem Code.ite_lt {p : Prop} [Decidable p] {a b : Code} (ha : a < 2 ^ 16) (hb : b < 2 ^ 16) : (if p then a else b) < 2 ^ 16 := by
  split <;> assumption

theorem State.cmpCode_lt (s : State) (n : Nat) : s.cmpCode n < 2 ^ 16 := by
  unfold State.cmpCode
  iterate 9 refine Code.ite_lt (by decide) ?_
  decide

/-- The ticket of a commit, where one stands for it, completes. -/
def State.completeAny (s : State) (t : Option Ticket) (c : Code) (r : Nat) : State :=
  match t with
  | some t => s.complete t c r
  | none => s

theorem State.completeAny_some (s : State) (t : Ticket) (c : Code) (r : Nat) : s.completeAny (some t) c r = s.complete t c r := rfl

theorem State.completeAny_keeps (s : State) (t : Option Ticket) (c : Code) (r : Nat) : Keeps 0x680000000 s (s.completeAny t c r) := by
  cases t with
  | none => exact .refl _ s
  | some t => exact State.complete_keeps (.refl _ s)

/-- The status of a commit is shown. -/
def State.cmpJudged (s : State) (n : Nat) : State := s.set (Reg.CMP_SLOT_COMMIT_LAST_STATUS n) (s.cmpCode n)

theorem State.cmpJudged_status (s : State) (n : Nat) : (s.cmpJudged n).get (Reg.CMP_SLOT_COMMIT_LAST_STATUS n) = s.cmpCode n :=
  State.get_set_fits (s.cmpCode_lt n) s

theorem State.cmpJudged_get (s : State) {n : Nat} {f : Field} (hf : f ∈ cmpFields n) (b : Nat) :
    (s.cmpJudged n).get (bank b f) = s.get (bank b f) := by
  have apart : ∀ i ∈ cmpNames, i ≠ (Reg.CMP_SLOT_COMMIT_LAST_STATUS 0).id % 1024 := by decide +kernel
  exact State.get_set_other _ _ _ _ (apart (f.id % 1024) (mem_cmpNames hf))

/-- A slot whose commits wait for its next picture (R189). -/
def State.cmpWaits (s : State) (n : Nat) : Prop := s.slotState n = slotRunning ∨ s.slotState n = slotStarting

@[simp] theorem State.taken_cmpWaits (s : State) (op : Nat) (d : Desc) (n : Nat) : (s.taken op d).cmpWaits n = s.cmpWaits n :=
  State.taken_reads (·.cmpWaits n) (fun _ _ _ _ => rfl) s op d

section
variable {s : State} {n : Nat}

theorem State.cmpCommit_refused (h : refuses (s.cmpCode n) = true) (t : Option Ticket) :
    (s.cmpCommit n t).1 = (s.cmpJudged n).completeAny t (s.cmpCode n) 0 :=
  congrArg Prod.fst (if_pos h)

theorem State.cmpCommit_waits (h : refuses (s.cmpCode n) = false) (waits : s.cmpWaits n) (t : Option Ticket) :
    (s.cmpCommit n t).1 = ((s.cmpJudged n).copyBank 0 2 (cmpFields n)).updCmp n
      (fun x => { x with pendAt := some s.lc, tickets := x.tickets ++ t.toList }) := by
  unfold State.cmpWaits at waits
  unfold State.cmpCommit
  dsimp only
  rw [h, if_neg Bool.false_ne_true, if_pos waits]
  rfl

theorem State.cmpCommit_applies (h : refuses (s.cmpCode n) = false) (free : ¬ s.cmpWaits n) (t : Option Ticket) :
    (s.cmpCommit n t).1 = ((s.cmpJudged n).cmpApply 0 n).completeAny t (s.cmpCode n) ((((s.cmpJudged n).cmpApply 0 n).slot n).next % 2 ^ 32) := by
  unfold State.cmpWaits at free
  unfold State.cmpCommit
  dsimp only
  rw [h, if_neg Bool.false_ne_true, if_neg free]
  rfl

/-- A commit shows its status, whatever becomes of it. -/
theorem State.cmpCommit_status (s : State) (n : Nat) (t : Option Ticket) :
    (s.cmpCommit n t).1.get (Reg.CMP_SLOT_COMMIT_LAST_STATUS n) = s.cmpCode n := by
  have completed : ∀ (u : State) (c : Code) (r : Nat), (u.completeAny t c r).get (Reg.CMP_SLOT_COMMIT_LAST_STATUS n) =
      u.get (Reg.CMP_SLOT_COMMIT_LAST_STATUS n) := fun u c r =>
    (u.completeAny_keeps t c r).get_like (Reg.CMP_SLOT_COMMIT_LAST_STATUS 0) rfl (by decide)
  by_cases refused : refuses (s.cmpCode n) = true
  · rw [State.cmpCommit_refused refused, completed, s.cmpJudged_status]
  rw [Bool.not_eq_true] at refused
  by_cases waits : s.cmpWaits n
  · have other : ∀ f ∈ cmpFields n, fieldKey (Reg.CMP_SLOT_COMMIT_LAST_STATUS n) ≠ fieldKey (bank 2 f) := fun f hf same => by
      have apart : ∀ i ∈ cmpNames, (Reg.CMP_SLOT_COMMIT_LAST_STATUS 0).id % 1024 ≠ i := by decide +kernel
      exact apart (f.id % 1024) (mem_cmpNames hf) (fieldKey_id (f := Reg.CMP_SLOT_COMMIT_LAST_STATUS n) (g := bank 2 f) same)
    rw [State.cmpCommit_waits refused waits]
    exact ((State.setCmp_get _ _ _ _).trans (State.copyBank_get other _ _)).trans (s.cmpJudged_status n)
  · have applied := (State.cmpApply_keeps (b := 0) (n := n) (.refl _ (s.cmpJudged n)) (within_self _)).get_like
      (f := Reg.CMP_SLOT_COMMIT_LAST_STATUS n) (Reg.CMP_SLOT_COMMIT_LAST_STATUS 0) rfl (by decide +kernel)
    rw [State.cmpCommit_applies refused waits, completed, applied, s.cmpJudged_status]

variable {f : Field} (hf : f ∈ cmpFields n) (t : Option Ticket)
include hf

theorem State.cmpCommit_refused_get (h : refuses (s.cmpCode n) = true) (b : Nat) :
    (s.cmpCommit n t).1.get (bank b f) = s.get (bank b f) := by
  rw [State.cmpCommit_refused h, (State.completeAny_keeps _ t _ _).cmpKept hf b, s.cmpJudged_get hf]

variable (hn : n < 4) (h : refuses (s.cmpCode n) = false)
include hn h

/-- A commit that waits copies what was written beside what is in force. -/
theorem State.cmpCommit_waits_get (waits : s.cmpWaits n) : (s.cmpCommit n t).1.get (bank 1 f) = s.get (bank 1 f) ∧
    (s.cmpCommit n t).1.get (bank 2 f) = s.get f % 2 ^ fieldWidth f := by
  rw [State.cmpCommit_waits h waits, State.updCmp, State.setCmp_get, State.setCmp_get,
    State.copyBank_cmpFields_other hn (by decide) hf, State.copyBank_cmpFields hn (by decide) hf, s.cmpJudged_get hf, s.cmpJudged_get hf,
    (cmpFields_written hn hf).1]
  exact ⟨rfl, rfl⟩

/-- A commit that does not wait brings what was written into force. -/
theorem State.cmpCommit_applies_get (free : ¬ s.cmpWaits n) :
    (s.cmpCommit n t).1.get (bank 1 f) = s.get f % 2 ^ fieldWidth f := by
  rw [State.cmpCommit_applies h free, (State.completeAny_keeps _ t _ _).cmpKept hf 1, State.cmpApply_reads hn hf _ (by decide),
    s.cmpJudged_get hf, (cmpFields_written hn hf).1]

end

theorem State.cmpCommit_waits_cmp {s : State} {n : Nat} (h : refuses (s.cmpCode n) = false) (waits : s.cmpWaits n) (t : Option Ticket) :
    ((s.cmpCommit n t).1.cmp n).pendAt = some s.lc ∧ ((s.cmpCommit n t).1.cmp n).tickets = (s.cmp n).tickets ++ t.toList := by
  have kept : ((s.cmpJudged n).copyBank 0 2 (cmpFields n)).cmps = s.cmps := State.copyBank_cmps _ _ _ _
  rw [State.cmpCommit_waits h waits, State.updCmp, State.cmp_setCmp]
  exact ⟨rfl, congrArg (fun x => (Table.getD x n Cmp.reset).tickets ++ t.toList) kept⟩

/-- What a commit of s that tickets stand for has done in t (R189, R190). -/
def State.CmpCommitted (s : State) (n : Nat) (tickets : List Ticket) (t : State) : Prop :=
  t.get (Reg.CMP_SLOT_COMMIT_LAST_STATUS n) = s.cmpCode n ∧
  (refuses (s.cmpCode n) = true → ∀ f ∈ cmpFields n, ∀ b, t.get (bank b f) = s.get (bank b f)) ∧
  (refuses (s.cmpCode n) = false → s.cmpWaits n → (t.cmp n).pendAt = some s.lc ∧ (t.cmp n).tickets = (s.cmp n).tickets ++ tickets ∧
    ∀ f ∈ cmpFields n, t.get (bank 1 f) = s.get (bank 1 f) ∧ t.get (bank 2 f) = s.get f % 2 ^ fieldWidth f) ∧
  (refuses (s.cmpCode n) = false → ¬ s.cmpWaits n → ∀ f ∈ cmpFields n, t.get (bank 1 f) = s.get f % 2 ^ fieldWidth f)

theorem State.cmpCommit_acts (s : State) {n : Nat} (hn : n < 4) (t : Option Ticket) : s.CmpCommitted n t.toList (s.cmpCommit n t).1 := by
  refine ⟨s.cmpCommit_status n t, fun refused f hf b => State.cmpCommit_refused_get hf t refused b, fun passes waits => ?_,
    fun passes free f hf => State.cmpCommit_applies_get hf t hn passes free⟩
  obtain ⟨pends, tickets⟩ := State.cmpCommit_waits_cmp passes waits t
  exact ⟨pends, tickets, fun f hf => State.cmpCommit_waits_get hf t hn passes waits⟩

/-- A commit of the state in which its descriptor was consumed is one of the state before. -/
theorem State.CmpCommitted.of_taken {s t : State} {op n : Nat} {d : Desc} {tickets : List Ticket}
    (h : (s.taken op d).CmpCommitted n tickets t) : s.CmpCommitted n tickets t := by
  simpa only [State.CmpCommitted, State.taken_get, State.taken_lc, State.taken_cmp, State.taken_cmpCode, State.taken_cmpWaits] using h

/-- What leaves the compositors and their fields leaves what a commit has done. -/
theorem State.CmpCommitted.after {s t u : State} {n w : Nat} {tickets : List Ticket} (h : s.CmpCommitted n tickets t) (k : Keeps w t u)
    (hs : w.testBit (64 + (Reg.CMP_SLOT_COMMIT_LAST_STATUS 0).id % 1024) = false := by decide +kernel)
    (hf : ∀ i ∈ cmpNames, w.testBit (64 + i) = false := by decide +kernel) (hc : w.testBit 7 = false := by decide +kernel) :
    s.CmpCommitted n tickets u := by
  obtain ⟨status, refused, waits, applies⟩ := h
  have cmps := k.cmpSame n hc
  refine ⟨?_, fun h f mem b => (k.cmpKept mem b hf).trans (refused h f mem b), fun h wait => ?_,
    fun h free f mem => (k.cmpKept mem 1 hf).trans (applies h free f mem)⟩
  · rw [k.get_like (f := Reg.CMP_SLOT_COMMIT_LAST_STATUS n) (Reg.CMP_SLOT_COMMIT_LAST_STATUS 0) rfl hs, status]
  obtain ⟨pends, stand, copied⟩ := waits h wait
  refine ⟨cmps ▸ pends, cmps ▸ stand, fun f mem => ?_⟩
  rw [k.cmpKept mem 1 hf, k.cmpKept mem 2 hf]
  exact copied f mem

/-! ## The commands -/

/-- What a log entry and its record to a Catcher may change. -/
def recordMask : Nat := frameMask (loggedFields, loggedParts ++ [.mirrorQ])

/-- A commit written to CMP_SLOTn_COMMIT. -/
theorem State.cmpSlotCommit_acts {w : Writer} {n : Fin 4} {s : State} (h : s.mayWrite w (Reg.CMP_SLOT_COMMIT_COMMIT n.val).off = true) :
    ∃ t, exec (.cmpSlotCommit w n) s = .next t ∧ s.CmpCommitted n [] t :=
  ⟨_, congrArg Host.Outcome.next (State.byWriter_reached h _), (s.cmpCommit_acts n.isLt none).after
    (State.logReg_keeps (m0 := recordMask) (.refl _ _) (by decide +kernel))⟩

/-- A descriptor that passes its checks names an object of its opcode. -/
theorem State.object_of_passes {s : State} {o : OpSpec} {f : Nat} {d : Desc} (h : s.descFailure o f d = none) :
    o.object d.objType.toNat d.objIndex.toNat = true := by
  unfold State.descFailure at h
  split at h
  · cases h
  split at h
  · cases h
  split at h
  · cases h
  next formed =>
    rw [not_or, not_or] at formed
    simpa using formed.2.1

section
variable {s : State} {d : Desc} (ok : s.Accepts cmpCommitSpec d)
include ok

theorem State.cmpCommit_slot : d.objIndex.toNat < 4 :=
  of_decide_eq_true (Bool.and_eq_true_iff.1 (State.object_of_passes ok.2.1)).2

/-- The completion of a commit that refuses its configuration or brings it into force answers its descriptor. -/
theorem State.cmpCommit_answers (now : refuses (s.cmpCode d.objIndex.toNat) = true ∨ ¬ s.cmpWaits d.objIndex.toNat) :
    s.Answers ((s.taken cmpCommitSpec.opcode d).cmpCommit d.objIndex.toNat (some (s.ticketOf d))).1 d (s.cmpCode d.objIndex.toNat) := by
  let u := s.taken cmpCommitSpec.opcode d
  have judged : u.RingsStay (u.cmpJudged d.objIndex.toNat) := State.set_stay (.refl u)
  have sent : u.out <:+ (u.cmpJudged d.objIndex.toNat).out := List.suffix_refl _
  rw [← State.taken_cmpCode s cmpCommitSpec.opcode d, ← State.taken_cmpWaits s cmpCommitSpec.opcode d] at now
  rw [← State.taken_cmpCode s cmpCommitSpec.opcode d]
  by_cases refused : refuses (u.cmpCode d.objIndex.toNat) = true
  · rw [State.cmpCommit_refused refused, State.completeAny_some]
    exact State.taken_answers ok.1 sent judged _ _
  · have applied := State.cmpApply_keeps (b := 0) (n := d.objIndex.toNat) (.refl _ (u.cmpJudged d.objIndex.toNat)) (within_self _)
    have free := now.resolve_left refused
    rw [Bool.not_eq_true] at refused
    rw [State.cmpCommit_applies refused free, State.completeAny_some]
    exact State.taken_answers ok.1 (sent.trans applied.sent) (judged.trans applied.ringsStay) _ _

/-- A commit ordered by CMP_COMMIT. -/
theorem State.cmpCommitDesc_acts : ∃ t, exec (.cmpCommit d) s = .next t ∧ s.CmpCommitted d.objIndex.toNat [s.ticketOf d] t ∧
    (refuses (s.cmpCode d.objIndex.toNat) = true ∨ ¬ s.cmpWaits d.objIndex.toNat → s.Answers t d (s.cmpCode d.objIndex.toNat)) := by
  let u := s.taken cmpCommitSpec.opcode d
  let r := u.cmpCommit d.objIndex.toNat (some (s.ticketOf d))
  have entry : Keeps recordMask r.1 (r.1.logDesc (s.ticketOf d).fn d.obj r.2 0 0) := State.logDesc_keeps (.refl _ _) (by decide +kernel)
  have logged : Keeps recordMask r.1 (actCmpCommit d (s.ticketOf d) u) := .ite _ (State.mirrorCfg_keeps entry (by decide +kernel)) entry
  exact ⟨_, congrArg Host.Outcome.next (State.runDesc_acts ok actCmpCommit),
    ((u.cmpCommit_acts (State.cmpCommit_slot ok) (some (s.ticketOf d))).after logged).of_taken,
    fun now => (State.cmpCommit_answers ok now).after logged.sent⟩

end

/-- Settles O32: a commit shows its status; one that is refused copies nothing, one that waits copies what was written to the bank
that waits, and any other copies it to the bank in force, whatever else it brings. Its log entry touches none of these fields
(R189, R190). -/
theorem compositorCommitsApplyOrAreRefused : Obligations.CompositorCommitsApplyOrAreRefused := by
  refine fun s => ⟨fun w n hw => ?_, fun d ok => ?_⟩
  · obtain ⟨t, runs, status, refused, waits, applies⟩ := State.cmpSlotCommit_acts hw
    refine ⟨fun h => ⟨t, runs, status, fun f hf => ⟨refused h f hf 1, refused h f hf 2⟩⟩, fun h wait => ?_,
      fun h free => ⟨t, runs, status, applies h free⟩⟩
    obtain ⟨pends, -, copied⟩ := waits h wait
    exact ⟨t, runs, status, pends, copied⟩
  · obtain ⟨t, runs, ⟨-, refused, waits, applies⟩, answers⟩ := State.cmpCommitDesc_acts ok
    obtain ⟨_, -, -, ticket⟩ := State.ticketOf_eq ok.1
    refine ⟨fun h => ⟨t, runs, answers (.inl h), fun f hf => refused h f hf 1⟩, fun h wait => ?_,
      fun h free => ⟨t, runs, answers (.inr free), applies h free⟩⟩
    obtain ⟨pends, stand, copied⟩ := waits h wait
    exact ⟨t, runs, pends, ⟨s.ticketOf d, stand, by rw [ticket], by rw [ticket]⟩, copied⟩

end Sys2Proof.Machine
end

/-! # Proofs: surfaces, tables, the Bench and composed rows (R166, R167, R176, R178, R183, R184) -/

section
namespace Sys2Proof.Machine

-- One theorem at a time: the text is compiled as one, and more threads would not fit in memory.
set_option Elab.async false

open Sys2Proof

/-! ## Data stored -/

/-- A run of bytes is stored: it reads back, and every byte beside it stays. -/
theorem Memory.stored_of_writeAll {m m' : List Host.Cell} {a : Nat} {l : List Byte} (h : m' = Memory.writeAll m a l) :
    (∀ i, (hi : i < l.length) → Memory.read m' (a + i) = l[i]) ∧
      ∀ b, b < a ∨ a + l.length ≤ b → Memory.read m' b = Memory.read m b := by
  subst h
  exact ⟨fun i hi => Memory.read_writeAll_inside l m a i hi, fun b hb => Memory.read_writeAll_outside l m a b hb⟩

theorem State.deviceStore_stay {u s : State} {a : Nat} {l : List Byte} (h : u.RingsStay s) : u.RingsStay (s.deviceStore a l) := by
  unfold State.deviceStore
  split
  · exact State.raiseLimited_stay (State.logUnit_stay (State.bump_stay h))
  · exact h.eq rfl rfl

/-! ## Descriptors refused -/

@[simp] theorem State.taken_mem (s : State) (op : Nat) (d : Desc) : (s.taken op d).mem = s.mem :=
  State.taken_reads State.mem (fun _ _ _ _ => rfl) s op d

/-- A descriptor whose action fails is answered with the code. -/
theorem State.failDesc_answers {s : State} {o : OpSpec} {d : Desc} (ok : s.Accepts o d) {c : Code} (hc : c ≠ 0x1303) (obj : Nat) :
    s.Answers ((s.taken o.opcode d).failDesc (s.ticketOf d) obj c) d c := by
  unfold State.failDesc
  rw [if_neg hc]
  have sent := (State.logDesc_keeps (f := (s.ticketOf d).fn) (obj := obj) (code := c) (old := 0) (new := 0)
    (.refl _ ((s.taken o.opcode d).bump (Reg.HIF_FN_DESC_ERR_CNT (s.ticketOf d).fn))) (within_self _)).sent
  exact State.taken_answers ok.1 ((List.suffix_refl _).trans sent) (State.logDesc_stay (State.bump_stay (.refl _))) c 0

/-- A descriptor that is refused with a code is answered with it, and nothing is stored. -/
theorem State.refused_answers {s : State} {o : OpSpec} {d : Desc} (ok : s.Accepts o d) (c : Code) (l : List Byte) :
    s.Answers (((s.taken o.opcode d).logHash (s.ticketOf d).fn d.obj c l).complete (s.ticketOf d) c 0) d c ∧
      (((s.taken o.opcode d).logHash (s.ticketOf d).fn d.obj c l).complete (s.ticketOf d) c 0).mem = s.mem := by
  have logged := State.logHash_keeps (f := (s.ticketOf d).fn) (obj := d.obj) (code := c) (content := l) (.refl _ (s.taken o.opcode d)) (within_self _)
  refine ⟨State.taken_answers ok.1 logged.sent (State.logHash_stay (.refl _)) c 0, ?_⟩
  exact ((State.complete_keeps (.refl _ _) (within_self _)).memKept rfl).trans ((logged.memKept rfl).trans (s.taken_mem _ d))

/-! ## Surfaces (R176) -/

theorem State.layer_of_cmps {s t : State} (h : t.cmps = s.cmps) (n l : Nat) : t.layer n l = s.layer n l :=
  congrArg (fun x => Table.getD (Table.getD x n Cmp.reset).layers l Layer.reset) h

@[simp] theorem State.layer_setLayer (s : State) (n l : Nat) (x : Layer) : (s.setLayer n l x).layer n l = x := by
  unfold State.layer State.setLayer State.updCmp
  rw [State.cmp_setCmp]
  exact Table.getD_put_same _ _ _ _

/-- The bytes of a surface of a graphics layer in force: PITCH × 64 B × SURF_H. -/
def State.surfaceBytes (s : State) (n l : Nat) : Nat :=
  s.get (bank 1 (Reg.CMP_L_INDEX_OR_PITCH n l)) * 64 * s.get (bank 1 (Reg.CMP_L_SURF_H n l))

/-- Data stored at the back surface of a layer, with the ticket that waits for its copy. -/
def State.surfaceStored (s : State) (n l : Nat) (data : List Byte) (t : Ticket) : State :=
  ((s.deviceStore (s.backBase n l) data).setLayer n l { s.layer n l with load := some (t, none) }).set (Reg.CMP_L_LOAD_PENDING n l) 1

section
variable {s : State} {d : Desc}

theorem actSurfaceLoad_long (h : s.surfaceBytes (d.objIndex.toNat / 16) (d.objIndex.toNat % 16) < d.p 40 4) (t : Ticket) :
    actSurfaceLoad d t s = s.failDesc t d.obj 0x3402 := if_pos h

theorem actSurfaceLoad_busy (h : d.p 40 4 ≤ s.surfaceBytes (d.objIndex.toNat / 16) (d.objIndex.toNat % 16))
    (busy : (s.layer (d.objIndex.toNat / 16) (d.objIndex.toNat % 16)).load.isSome = true) (t : Ticket) :
    actSurfaceLoad d t s = (s.logHash t.fn d.obj 0x2601 d.bytes).complete t 0x2601 0 :=
  (if_neg (Nat.not_lt.2 h)).trans (if_pos busy)

theorem actSurfaceLoad_begins (h : d.p 40 4 ≤ s.surfaceBytes (d.objIndex.toNat / 16) (d.objIndex.toNat % 16))
    (idle : (s.layer (d.objIndex.toNat / 16) (d.objIndex.toNat % 16)).load = none) (t : Ticket) :
    actSurfaceLoad d t s = ((s.surfaceStored (d.objIndex.toNat / 16) (d.objIndex.toNat % 16) (d.bytes.take (d.p 40 4)) t).mirrorSurf
      (s.backBase (d.objIndex.toNat / 16) (d.objIndex.toNat % 16)) (d.bytes.take (d.p 40 4))).logHash t.fn d.obj 0 d.bytes :=
  (if_neg (Nat.not_lt.2 h)).trans (if_neg (by rw [idle]; decide))

end

/-- What leaves the compositors, memory and LOAD_PENDING leaves a load that waits for its copy. -/
theorem State.surfaceStored_after {s u : State} {n l w : Nat} {data : List Byte} {t : Ticket}
    (apart : s.safAreaMeets (s.backBase n l) data.length = none) (k : Keeps w (s.surfaceStored n l data t) u)
    (hp : w.testBit (64 + (Reg.CMP_L_LOAD_PENDING 0 0).id % 1024) = false := by decide +kernel)
    (hc : w.testBit 7 = false := by decide +kernel) (hm : w.testBit 37 = false := by decide +kernel) :
    (u.layer n l).load = some (t, none) ∧ u.get (Reg.CMP_L_LOAD_PENDING n l) = 1 ∧ u.mem = Memory.writeAll s.mem (s.backBase n l) data := by
  refine ⟨?_, ?_, (k.memKept hm).trans ?_⟩
  · rw [State.layer_of_cmps (k.cmpsKept hc)]
    exact congrArg Layer.load (State.layer_setLayer _ n l _)
  · rw [k.get_like (f := Reg.CMP_L_LOAD_PENDING n l) (Reg.CMP_L_LOAD_PENDING 0 0) rfl hp]
    exact State.get_set_fits (by decide : 1 < 2 ^ 1) _
  · exact congrArg State.mem (State.deviceStore_free apart)

@[simp] theorem State.taken_surfaceBytes (s : State) (op : Nat) (d : Desc) (n l : Nat) :
    (s.taken op d).surfaceBytes n l = s.surfaceBytes n l :=
  State.taken_reads (·.surfaceBytes n l) (fun _ _ _ _ => rfl) s op d

@[simp] theorem State.taken_layer (s : State) (op : Nat) (d : Desc) (n l : Nat) : (s.taken op d).layer n l = s.layer n l :=
  State.taken_reads (·.layer n l) (fun _ _ _ _ => rfl) s op d

@[simp] theorem State.taken_backBase (s : State) (op : Nat) (d : Desc) (n l : Nat) : (s.taken op d).backBase n l = s.backBase n l :=
  State.taken_reads (·.backBase n l) (fun _ _ _ _ => rfl) s op d

@[simp] theorem State.taken_safAreaMeets (s : State) (op : Nat) (d : Desc) (a len : Nat) :
    (s.taken op d).safAreaMeets a len = s.safAreaMeets a len :=
  State.taken_reads (·.safAreaMeets a len) (fun _ _ _ _ => rfl) s op d

/-- SURFACE_LOAD: refused when it is too long or beside another, and else stored at the layer's back surface (R176). -/
theorem State.surfaceLoad_acts {s : State} {d : Desc} (ok : s.Accepts surfaceSpec d) {n l : Nat} (hn : d.objIndex.toNat / 16 = n)
    (hl : d.objIndex.toNat % 16 = l) {t : State} (ht : t = s.runDesc surfaceSpec d actSurfaceLoad) :
    (s.surfaceBytes n l < d.p 40 4 → s.Answers t d 0x3402) ∧
    (d.p 40 4 ≤ s.surfaceBytes n l → (s.layer n l).load.isSome = true → s.Answers t d 0x2601 ∧ t.mem = s.mem) ∧
    (d.p 40 4 ≤ s.surfaceBytes n l → (s.layer n l).load = none → s.safAreaMeets (s.backBase n l) (d.bytes.take (d.p 40 4)).length = none →
      (t.layer n l).load = some (s.ticketOf d, none) ∧ t.get (Reg.CMP_L_LOAD_PENDING n l) = 1 ∧
      t.mem = Memory.writeAll s.mem (s.backBase n l) (d.bytes.take (d.p 40 4))) := by
  subst hn hl ht
  rw [State.runDesc_acts ok]
  refine ⟨fun long => ?_, fun fits busy => ?_, fun fits idle apart => ?_⟩
  · rw [actSurfaceLoad_long (by rwa [State.taken_surfaceBytes])]
    exact State.failDesc_answers ok (by decide) d.obj
  · rw [actSurfaceLoad_busy (by rwa [State.taken_surfaceBytes]) (by rwa [State.taken_layer])]
    exact State.refused_answers ok 0x2601 d.bytes
  · rw [actSurfaceLoad_begins (by rwa [State.taken_surfaceBytes]) (by rwa [State.taken_layer]), ← s.taken_mem surfaceSpec.opcode d,
      ← s.taken_backBase surfaceSpec.opcode d]
    refine State.surfaceStored_after (w := recordMask) (by rwa [State.taken_backBase, State.taken_safAreaMeets]) ?_
    exact State.logHash_keeps (State.mirrorSurf_keeps (.refl _ _) (by decide +kernel)) (by decide +kernel)

theorem exec_surfaceCopyDone {n : Fin 4} {l : Fin 16} {s : State} {k : Ticket} (h : (s.layer n l).load = some (k, none)) :
    exec (.surfaceCopyDone n l) s = .next (s.setLayer n l { s.layer n l with load := some (k, some s.lc) }) := by
  refine congrArg Host.Outcome.next ?_
  rw [h]

/-! ## Tables (R178, R183) -/

/-- A table's data in the slot's table area, where the configuration in force places one. -/
def State.tableStored (s : State) (n : Nat) (a : Nat) (data : List Byte) : State :=
  if s.get (bank 1 (Reg.CMP_SLOT_TABLE_BASE n)) * 4096 = 0 then s else (s.deviceStore a data).mirrorSurf a data

/-- The bytes of the table that a TABLE_LOAD brings. -/
def tableData (d : Desc) : List Byte := d.bytes.take (tablePlace (d.p 40 1)).2

/-- The place of that table in the slot's table area. -/
def State.tableAddr (s : State) (d : Desc) : Nat :=
  s.get (bank 1 (Reg.CMP_SLOT_TABLE_BASE d.objIndex.toNat)) * 4096 + (tablePlace (d.p 40 1)).1

/-- A table held. -/
def Cmp.hold (c : Cmp) (k : Nat) (data : List Byte) : Cmp :=
  { c with luts := if k < 4 then setBit c.luts k else c.luts, tables := Table.put c.tables k data }

theorem Cmp.hold_bit {k : Nat} (h : k < 4) (c : Cmp) (data : List Byte) : bit (c.hold k data).luts k = true := by
  unfold Cmp.hold bit
  simp [h, testBit_setBit]

theorem Cmp.hold_find (c : Cmp) (k : Nat) (data : List Byte) : Table.find (c.hold k data).tables k = some data := Table.find_put_same ..

theorem actTableLoad_used {s : State} {d : Desc} (h : s.tableUsed d.objIndex.toNat (d.p 40 1) = true) (t : Ticket) :
    actTableLoad d t s = (s.logHash t.fn d.obj 0x2603 (tableData d)).complete t 0x2603 0 := if_pos h

theorem actTableLoad_holds {s : State} {d : Desc} (h : s.tableUsed d.objIndex.toNat (d.p 40 1) = false) (t : Ticket) :
    actTableLoad d t s = (((s.tableStored d.objIndex.toNat (s.tableAddr d) (tableData d)).updCmp d.objIndex.toNat
      (·.hold (d.p 40 1) (tableData d))).logHash t.fn d.obj 0 (tableData d)).complete t 0 0 :=
  if_neg (by rw [h]; decide)

/-- What storing a table may change: memory, the count of dropped writes with its event, and the records to a Catcher. -/
def tableStoreMask : Nat := frameMask (Reg.SAF_PROTECT_CNT.id :: loggedFields, loggedParts ++ [.mirrorQ, .dram, .mem])

theorem State.tableStored_keeps (s : State) (n a : Nat) (data : List Byte) : Keeps tableStoreMask s (s.tableStored n a data) :=
  .ite _ (.refl _ s) (State.mirrorSurf_keeps (State.deviceStore_keeps (.refl _ s) (by decide +kernel)) (by decide +kernel))

theorem State.tableStored_stay (s : State) (n a : Nat) (data : List Byte) : s.RingsStay (s.tableStored n a data) := by
  unfold State.tableStored
  split
  · exact .refl s
  · exact (State.deviceStore_stay (.refl s)).trans (State.mirrorSurf_keeps (.refl _ _) (within_self _)).ringsStay

theorem State.tableStored_mem {s : State} {n a : Nat} {data : List Byte} (base : s.get (bank 1 (Reg.CMP_SLOT_TABLE_BASE n)) ≠ 0)
    (apart : s.safAreaMeets a data.length = none) : (s.tableStored n a data).mem = Memory.writeAll s.mem a data := by
  unfold State.tableStored
  rw [if_neg (by omega), State.deviceStore_free apart]
  exact (State.mirrorSurf_keeps (.refl _ _) (within_self _)).memKept rfl

@[simp] theorem State.taken_tableUsed (s : State) (op : Nat) (d : Desc) (n k : Nat) : (s.taken op d).tableUsed n k = s.tableUsed n k :=
  State.taken_reads (·.tableUsed n k) (fun _ _ _ _ => rfl) s op d

@[simp] theorem State.taken_tableAddr (s : State) (op : Nat) (d e : Desc) : (s.taken op d).tableAddr e = s.tableAddr e :=
  State.taken_reads (·.tableAddr e) (fun _ _ _ _ => rfl) s op d

/-- TABLE_LOAD: refused when an enabled layer uses the table, and else held and stored in the slot's table area (R178, R183). -/
theorem State.tableLoad_acts {s : State} {d : Desc} (ok : s.Accepts tableSpec d) {n k : Nat} (hn : d.objIndex.toNat = n)
    (hk : d.p 40 1 = k) {t : State} (ht : t = s.runDesc tableSpec d actTableLoad) :
    (s.tableUsed n k = true → s.Answers t d 0x2603 ∧ t.mem = s.mem) ∧
    (s.tableUsed n k = false → s.Answers t d 0 ∧ t.cmp n = (s.cmp n).hold k (tableData d) ∧
      (s.get (bank 1 (Reg.CMP_SLOT_TABLE_BASE n)) ≠ 0 → s.safAreaMeets (s.tableAddr d) (tableData d).length = none →
        t.mem = Memory.writeAll s.mem (s.tableAddr d) (tableData d))) := by
  subst hn hk ht
  rw [State.runDesc_acts ok]
  refine ⟨fun used => ?_, fun unused => ?_⟩
  · rw [actTableLoad_used (by rwa [State.taken_tableUsed])]
    exact State.refused_answers ok 0x2603 (tableData d)
  · rw [actTableLoad_holds (by rwa [State.taken_tableUsed]), State.taken_tableAddr]
    let u := s.taken tableSpec.opcode d
    let v := u.tableStored d.objIndex.toNat (s.tableAddr d) (tableData d)
    let x := v.updCmp d.objIndex.toNat (·.hold (d.p 40 1) (tableData d))
    have stored : Keeps tableStoreMask u v := u.tableStored_keeps _ _ _
    have held : Keeps 0x80 v x := State.updCmp_keeps (.refl _ v)
    have logged : Keeps recordMask x (x.logHash (s.ticketOf d).fn d.obj 0 (tableData d)) := State.logHash_keeps (.refl _ x) (by decide +kernel)
    have answered : Keeps 0x680000000 (x.logHash (s.ticketOf d).fn d.obj 0 (tableData d)) _ :=
      State.complete_keeps (t := s.ticketOf d) (status := 0) (result := 0) (.refl _ _)
    refine ⟨State.taken_answers ok.1 ((stored.sent.trans held.sent).trans logged.sent)
      (State.logHash_stay ((u.tableStored_stay _ _ _).trans held.ringsStay)) 0 0, ?_, fun base apart => ?_⟩
    · have cmps : v.cmp d.objIndex.toNat = s.cmp d.objIndex.toNat := (stored.cmpSame _).trans (s.taken_cmp _ d _)
      rw [answered.cmpSame, logged.cmpSame]
      exact (State.cmp_setCmp _ _ _).trans (by rw [cmps])
    · rw [answered.memKept (by decide +kernel), logged.memKept (by decide +kernel), held.memKept (by decide +kernel),
        ← s.taken_mem tableSpec.opcode d]
      exact State.tableStored_mem (by rwa [State.taken_get]) (by rwa [State.taken_safAreaMeets])

/-! ## The Bench (R184) -/

/-- The lines of the Bench's surface: an address and its bytes for each line of the canvas. -/
def State.benchLines (s : State) (n : Nat) (layers : List Nat) : List (Nat × List Byte) :=
  (List.range (s.canvas n).2).map (fun y =>
    (s.benchAddr n y, (List.range (s.canvas n).1).flatMap (fun x => benchBytes (s.benchPixel n x y layers))))

/-- The Bench once it is flattened: the classes of its tiles are known. -/
def State.benchDone (s : State) (n : Nat) (b : Bench) : Bench :=
  { b with done := some s.lc, tiles := (List.range (tilesOf (s.canvas n).2)).flatMap (fun ty =>
      (List.range (tilesOf (s.canvas n).1)).map (fun tx => s.tileClass n b.layers tx ty)) }

theorem State.benchFlatten_eq (s : State) (n : Nat) (b : Bench) :
    s.benchFlatten n b = (s.deviceStores (s.benchLines n b.layers)).updCmp n (fun c => { c with bench := some (s.benchDone n b) }) := by
  unfold State.deviceStores State.benchLines
  rw [List.foldl_map]
  rfl

theorem exec_benchFlattenDone {n : Fin 4} {b : Bench} {s : State} (run : (s.cmp n).bench = some b) (unfinished : b.done = none) :
    exec (.benchFlattenDone n) s = .next ((s.benchFlatten n b).bump (Reg.CMP_SLOT_BCNT_BENCH_FLAT_CNT n)) := by
  refine congrArg Host.Outcome.next ?_
  rw [run]
  exact if_pos (by rw [unfinished]; rfl)

/-- A Bench run that is flattened is counted, its tiles are classed, and its lines are stored. -/
theorem State.benchFlatten_acts (s : State) (n : Nat) (b : Bench) {t : State}
    (ht : t = (s.benchFlatten n b).bump (Reg.CMP_SLOT_BCNT_BENCH_FLAT_CNT n)) :
    s.Counted t (Reg.CMP_SLOT_BCNT_BENCH_FLAT_CNT n) ∧ (t.cmp n).bench = some (s.benchDone n b) ∧
      ((∀ e ∈ s.benchLines n b.layers, s.safAreaMeets e.1 e.2.length = none) →
        t.mem = (s.benchLines n b.layers).foldl (fun (m : List Host.Cell) e => Memory.writeAll m e.1 e.2) s.mem) := by
  subst ht
  have flattened := State.benchFlatten_keeps (n := n) (b := b) (.refl _ s) (within_self _)
  have count : (s.benchFlatten n b).get (Reg.CMP_SLOT_BCNT_BENCH_FLAT_CNT n) = s.get (Reg.CMP_SLOT_BCNT_BENCH_FLAT_CNT n) :=
    flattened.get_like (Reg.CMP_SLOT_BCNT_BENCH_FLAT_CNT 0) rfl (by decide +kernel)
  refine ⟨?_, ?_, fun apart => ?_⟩
  · rw [State.Counted, ← count]
    exact State.bump_same _ _
  · show ((s.benchFlatten n b).cmp n).bench = _
    rw [State.benchFlatten_eq, State.updCmp, State.cmp_setCmp]
  · show (s.benchFlatten n b).mem = _
    rw [State.benchFlatten_eq, State.updCmp, State.setCmp_mem, State.deviceStores_mem apart]

/-! ## Composed rows (R166, R167, R175) -/

/-- The state in which row k of a slot is composed: its source lines are judged. -/
def State.rowJudged (s : State) (n k : Nat) : State :=
  ((s.enabledLayers 1 n).filter isVideoLayer).foldl
    (fun (t : State) l => t.judgeLines n l (128 * k) (min (128 * (k + 1)) (s.canvas n).2)) s

theorem State.rowJudged_slots (s : State) (n k : Nat) : (s.rowJudged n k).slots = s.slots :=
  foldl_same State.slots (fun _ _ => (State.judgeLines_keeps (.refl _ _) (within_self _)).slotsKept rfl) _ s

/-- A picture whose row k is composed, with its lines. -/
def EncPic.compose (p : EncPic) (k : Nat) (lines : List (List (List Nat))) : EncPic :=
  { p with rows := p.rows.modify k (fun r => { r with composed := true, lines := lines }) }

/-- A row composed stands in its picture, whatever else its composition ends. -/
theorem State.composeRow_slots {s : State} {n k : Nat} {p : EncPic} (row : s.rowToCompose n = some (p, k))
    (due : s.due 1 (instant (s.c0 n p.allow p.n + k * s.encPr 1 n)) = true) :
    (s.composeRow n).slots = ((s.rowJudged n k).setPic n (p.compose k ((s.rowJudged n k).composedLines n k))).slots := by
  let u := (s.rowJudged n k).setPic n (p.compose k ((s.rowJudged n k).composedLines n k))
  have record : (u.mirrorSafRow n p.n k).slots = u.slots := (State.mirrorSafRow_keeps (.refl _ u) (within_self _)).slotsKept rfl
  have composes : s.composeRow n = if k + 1 = p.rows.length then
      ((u.mirrorSafRow n p.n k).set (Reg.ENC_BS_SWEEP_POS n) ((p.n - (s.slot n).first) % (max 1 (s.get (Reg.ENC_BS_SWEEP_LEN n))))).cmpEnd n
    else u.mirrorSafRow n p.n k := by
    unfold State.composeRow
    rw [row]
    exact if_pos due
  rw [composes]
  split
  · exact ((State.cmpEnd_keeps (.refl _ _) (within_self _)).slotsKept rfl).trans record
  · exact record

theorem State.composeRow_pics {s : State} {n k : Nat} {p : EncPic} (row : s.rowToCompose n = some (p, k))
    (due : s.due 1 (instant (s.c0 n p.allow p.n + k * s.encPr 1 n)) = true) :
    ((s.composeRow n).slot n).pics = (s.slot n).pics.map (fun q =>
      if q.n = p.n then p.compose k ((s.rowJudged n k).composedLines n k) else q) := by
  rw [State.slot_of_slots (State.composeRow_slots row due), State.setPic, State.updSlot, State.slot_setSlot,
    State.slot_of_slots (s.rowJudged_slots n k)]
  rfl

/-! ## The obligation -/

/-- Settles O33: a load is refused before it touches anything, or its data stands in memory with what it leaves beside it; a flattened
Bench run and a composed row are what their definitions say, written where they stand (R166, R167, R176, R178, R183, R184). -/
theorem surfacesTablesAndRowsAct : Obligations.SurfacesTablesAndRowsAct := by
  refine fun s => ⟨fun d ok => ?_, fun n l k waits =>
      ⟨_, exec_surfaceCopyDone waits, congrArg Layer.load (State.layer_setLayer s n l _)⟩, fun d ok => ?_, fun n b run unfinished => ?_,
    fun n p k row due => ⟨_, rfl, State.composeRow_pics row due⟩⟩
  · obtain ⟨long, busy, begins⟩ := State.surfaceLoad_acts ok rfl rfl rfl
    obtain ⟨_, -, -, ticket⟩ := State.ticketOf_eq ok.1
    refine ⟨fun h => ⟨_, rfl, long h⟩, fun h there => ⟨_, rfl, busy h there⟩, fun h idle apart => ⟨_, rfl, ?_⟩⟩
    obtain ⟨load, pending, mem⟩ := begins h idle apart
    obtain ⟨inside, beside⟩ := Memory.stored_of_writeAll mem
    exact ⟨⟨s.ticketOf d, load, by rw [ticket], by rw [ticket]⟩, pending, inside, beside⟩
  · obtain ⟨used, holds⟩ := State.tableLoad_acts ok rfl rfl rfl
    refine ⟨fun h => ⟨_, rfl, used h⟩, fun h => ⟨_, rfl, ?_⟩⟩
    obtain ⟨answers, held, stored⟩ := holds h
    refine ⟨answers, fun few => held ▸ Cmp.hold_bit few _ _, held ▸ Cmp.hold_find _ _ _, fun base apart => ?_⟩
    exact Memory.stored_of_writeAll (stored base apart)
  · obtain ⟨counted, classed, stored⟩ := s.benchFlatten_acts n b rfl
    exact ⟨_, exec_benchFlattenDone run unfinished, counted, classed, stored⟩

end Sys2Proof.Machine
end

/-! # Proofs: Safety Net packages, the key and the protected areas (R193, R194, R196, R203, R204)

A package checked is held in full or refused with its code, whatever its completion and its log entry change after that. -/

section
namespace Sys2Proof.Machine

-- One theorem at a time: the text is compiled as one, and more threads would not fit in memory.
set_option Elab.async false

open Sys2Proof

/-! ## Safety Net objects (R195 to R202) -/

theorem State.saf_of_safs {s t : State} (h : t.safs = s.safs) (k : Nat) : t.saf k = s.saf k :=
  congrArg (fun x => Table.getD x k Saf.reset) h

theorem Keeps.safSame {w : Nat} {s t : State} (k : Keeps w s t) (n : Nat) (h : w.testBit 8 = false := by decide) : t.saf n = s.saf n :=
  State.saf_of_safs (k.safsKept h) n

@[simp] theorem State.taken_saf (s : State) (op : Nat) (d : Desc) (k : Nat) : (s.taken op d).saf k = s.saf k :=
  State.taken_reads (·.saf k) (fun _ _ _ _ => rfl) s op d

@[simp] theorem State.taken_safKey (s : State) (op : Nat) (d : Desc) : (s.taken op d).safKey = s.safKey :=
  State.taken_reads State.safKey (fun _ _ _ _ => rfl) s op d

@[simp] theorem State.taken_mode (s : State) (op : Nat) (d : Desc) : (s.taken op d).mode = s.mode :=
  State.taken_reads State.mode (fun _ _ _ _ => rfl) s op d

@[simp] theorem State.setKey_safKey (s : State) (key : Nat) (l : List Byte) : (s.setKey key l).safKey = some key :=
  foldl_same (f := fun (t : State) i => t.set (Reg.SAF_KEY i) (digestWord (Config.sha256 l) i)) State.safKey (fun _ _ => rfl) _ _

/-! ## A package is held (R194, R196, R197, R203) -/

/-- What holding a package does: what waits stays, its number is the object's last, and by its kind it is pending content, a policy in
force, each with its bytes in place, or the key. -/
structure State.HoldsPkg (s : State) (k : Nat) (l : List Byte) (t : State) : Prop where
  checking : (t.saf k).checking = (s.saf k).checking
  lastSeq : (t.saf k).lastSeq = pkgSeq l
  content : pkgKind l = 0 → ∃ q, (t.saf k).pend = some q ∧ q.seq = pkgSeq l ∧ q.from_ = pkgFrom l ∧ q.until_ = pkgUntil l ∧
    t.mem = Memory.writeAll s.mem (s.safAddr k q.part) l
  policy : pkgKind l = 1 → (t.saf k).policy.held = true ∧ (t.saf k).policy.panels = pkgPanels l ∧
    t.mem = Memory.writeAll s.mem (s.safAddr k 2) l
  key : pkgKind l = 2 → t.safKey = some (beNat ((l.drop 64).take 64))

/-- A package stored in a part of its area, its object written. -/
theorem State.mem_store_setSaf (s : State) (a : Nat) (l : List Byte) (k : Nat) (x : Saf) :
    ((s.store a l).setSaf k x).mem = Memory.writeAll s.mem a l :=
  (State.setSaf_keeps (.refl _ (s.store a l)) (within_self _)).memKept rfl

theorem State.pkgHold_holds (s : State) (k : Nat) (l : List Byte) : s.HoldsPkg k l (s.pkgHold k l) := by
  unfold State.pkgHold
  dsimp only
  split
  next isKey =>
    have saf : ∀ (u : State) x, ((u.setSaf k x).setKey (beNat ((l.drop 64).take 64)) ((l.drop 64).take 64)).saf k = x := fun u x =>
      ((State.setKey_keeps (.refl _ _) (within_self _)).safSame k).trans (u.saf_setSaf k x)
    exact ⟨by rw [saf], by rw [saf], fun h => absurd (h.symm.trans isKey) (by decide), fun h => absurd (h.symm.trans isKey) (by decide),
      fun _ => State.setKey_safKey _ _ _⟩
  next notKey =>
    split
    next isPolicy =>
      refine ⟨by rw [State.saf_setSaf], by rw [State.saf_setSaf], fun h => absurd (h.symm.trans isPolicy) (by decide), fun _ => ?_,
        fun h => absurd h notKey⟩
      rw [State.saf_setSaf]
      exact ⟨rfl, rfl, State.mem_store_setSaf _ _ _ _ _⟩
    next notPolicy =>
      refine ⟨by rw [State.saf_setSaf], by rw [State.saf_setSaf], fun _ => ?_, fun h => absurd h notPolicy, fun h => absurd h notKey⟩
      rw [State.saf_setSaf]
      exact ⟨_, rfl, rfl, rfl, rfl, State.mem_store_setSaf _ _ _ _ _⟩

/-- What leaves the objects, the key and memory leaves a package held. -/
theorem State.HoldsPkg.after {s t u : State} {k w : Nat} {l : List Byte} (h : s.HoldsPkg k l t) (kept : Keeps w t u)
    (safs : w.testBit 8 = false := by decide) (key : w.testBit 9 = false := by decide) (mem : w.testBit 37 = false := by decide) :
    s.HoldsPkg k l u := by
  have saf : u.saf k = t.saf k := kept.safSame k safs
  have same : u.mem = t.mem := kept.memKept mem
  constructor
  · rw [saf]; exact h.checking
  · rw [saf]; exact h.lastSeq
  · rw [saf, same]; exact h.content
  · rw [saf, same]; exact h.policy
  · rw [kept.safKeyKept key]; exact h.key

/-! ## A package is checked (R196) -/

/-- What writing a Safety Net object may change: the objects, and the fields that show a slot's. -/
def safMask : Nat :=
  frameMask ([Reg.SAF_SLOT_STATE_STATE 0, Reg.SAF_SLOT_STATE_PENDING 0, Reg.SAF_SLOT_STATE_REQUIRE 0, Reg.SAF_SLOT_STATE_FAULT_ACTION 0,
    Reg.SAF_SLOT_SEQ_LO 0, Reg.SAF_SLOT_SEQ_HI 0, Reg.SAF_SLOT_UNTIL_SEC 0, Reg.SAF_SLOT_UNTIL_NS 0].map Field.id, [.safs])

theorem State.setSaf_shows (s : State) (k : Nat) (x : Saf) : Keeps safMask s (s.setSaf k x) := State.setSaf_keeps (.refl _ s) (by decide +kernel)

/-- The oldest package of an object is taken for its checking. -/
def State.checkNext (s : State) (k : Nat) (rest : List SafCheck) : State := s.setSaf k { s.saf k with checking := rest }

/-- The state in which an accepted package is held. -/
def State.checkPassed (s : State) (k : Nat) (rest : List SafCheck) : State := (s.checkNext k rest).showAccepted k

theorem State.checkNext_saf (s : State) (k : Nat) (rest : List SafCheck) : (s.checkNext k rest).saf k = { s.saf k with checking := rest } :=
  State.saf_setSaf s k _

theorem State.checkNext_keeps (s : State) (k : Nat) (rest : List SafCheck) : Keeps safMask s (s.checkNext k rest) := s.setSaf_shows k _

theorem State.checkPassed_checking (s : State) (k : Nat) (rest : List SafCheck) : ((s.checkPassed k rest).saf k).checking = rest := by
  rw [State.checkPassed, State.saf_of_safs (State.showAccepted_safs _ k), State.checkNext_saf]

theorem State.checkPassed_mem (s : State) (k : Nat) (rest : List SafCheck) : (s.checkPassed k rest).mem = s.mem :=
  (State.showAccepted_mem _ k).trans ((s.checkNext_keeps k rest).memKept (by decide +kernel))

theorem State.checkPassed_safAddr (s : State) (k : Nat) (rest : List SafCheck) (part : Nat) :
    (s.checkPassed k rest).safAddr k part = s.safAddr k part := by
  have base : (s.checkPassed k rest).get (Reg.SAF_SLOT_AREA_BASE k) = s.get (Reg.SAF_SLOT_AREA_BASE k) :=
    (State.showAccepted_base _ k).trans ((s.checkNext_keeps k rest).get_like (Reg.SAF_SLOT_AREA_BASE 0) rfl (by decide +kernel))
  rw [State.safAddr, State.safAddr, base]

theorem State.pkgCode_lt (s : State) (k : Nat) (l : List Byte) : s.pkgCode k l < 2 ^ 16 := by
  unfold State.pkgCode
  dsimp only
  refine Code.ite_lt (by decide) ?_
  split
  · decide
  · refine Code.ite_lt (by decide) (Code.ite_lt (by decide) (Code.ite_lt (by decide) (Code.ite_lt (by decide) (Code.ite_lt ?_ ?_)))) <;> decide

/-- A slot whose package failed, counted and with its code. -/
def State.checkFailed (s : State) (k : Nat) (c : Code) : State :=
  (s.bump (Reg.SAF_SLOT_REFUSED_CNT k)).set (Reg.SAF_SLOT_STATE_LAST_STATUS k) c

theorem State.checkFailed_shows {s : State} {k : Nat} {c : Code} (hc : c < 2 ^ 16) :
    s.Counted (s.checkFailed k c) (Reg.SAF_SLOT_REFUSED_CNT k) ∧ (s.checkFailed k c).get (Reg.SAF_SLOT_STATE_LAST_STATUS k) = c :=
  ⟨(s.bump_counted _).after (State.get_set_other _ _ _ _
      (show (Reg.SAF_SLOT_REFUSED_CNT 0).id % 1024 ≠ (Reg.SAF_SLOT_STATE_LAST_STATUS 0).id % 1024 by decide)), State.get_set_fits hc _⟩

section
variable {s : State} {k c : Nat} {x : Ticket} {l : List Byte} {rest : List SafCheck}
  (waits : (s.saf k).checking = ⟨x, c, l.length, l⟩ :: rest)
include waits

/-- A package that passes every check is held, and what follows leaves it. -/
theorem State.safChecked_holds (ok : (s.checkNext k rest).pkgCode k l = 0) : (s.checkPassed k rest).HoldsPkg k l (s.safChecked k) := by
  have recorded : Keeps recordMask ((s.checkPassed k rest).pkgHold k l) (s.safChecked k) := by
    unfold State.safChecked
    rw [waits]
    dsimp only
    rw [if_pos rfl]
    split
    · exact State.complete_keeps (State.offer_keeps (State.mirror3_keeps (.refl _ _) (by decide +kernel)) (by decide +kernel)) (by decide +kernel)
    · next bad => exact absurd ok bad
  exact ((s.checkPassed k rest).pkgHold_holds k l).after recorded (by decide +kernel) (by decide +kernel) (by decide +kernel)

/-- A package of a slot that fails is counted and shown with its code, and leaves the slot's Safety Net. -/
theorem State.safChecked_refuses (slot : k < 4) (bad : (s.checkNext k rest).pkgCode k l ≠ 0) :
    (s.safChecked k).saf k = { s.saf k with checking := rest } ∧ s.Counted (s.safChecked k) (Reg.SAF_SLOT_REFUSED_CNT k) ∧
      (s.safChecked k).get (Reg.SAF_SLOT_STATE_LAST_STATUS k) = (s.checkNext k rest).pkgCode k l := by
  let u := s.checkNext k rest
  have kept : Keeps recordMask (u.checkFailed k (u.pkgCode k l)) (s.safChecked k) := by
    unfold State.safChecked
    rw [waits]
    dsimp only
    rw [if_pos rfl, if_pos slot]
    split
    · next ok => exact absurd ok bad
    · exact State.complete_keeps (State.logHash_keeps (.refl _ _) (by decide +kernel)) (by decide +kernel)
  have count : u.get (Reg.SAF_SLOT_REFUSED_CNT k) = s.get (Reg.SAF_SLOT_REFUSED_CNT k) :=
    (s.checkNext_keeps k rest).get_like (Reg.SAF_SLOT_REFUSED_CNT 0) rfl (by decide +kernel)
  obtain ⟨counted, status⟩ := State.checkFailed_shows (s := u) (k := k) (u.pkgCode_lt k l)
  refine ⟨(kept.safSame k (by decide +kernel)).trans (s.checkNext_saf k rest), (counted.before count).after ?_, Eq.trans ?_ status⟩
  · exact kept.get_like (Reg.SAF_SLOT_REFUSED_CNT 0) rfl (by decide +kernel)
  · exact kept.get_like (Reg.SAF_SLOT_STATE_LAST_STATUS 0) rfl (by decide +kernel)

end

/-! ## SAF_LOAD and SAF_ENROLL (R193, R194, R196) -/

/-- A package loaded waits with those of its object. -/
theorem State.safLoad_waits {s : State} {d : Desc} (ok : s.Accepts safLoadSpec d) :
    ((s.runDesc safLoadSpec d actSafLoad).saf d.objIndex.toNat).checking =
      queueCheck ⟨s.ticketOf d, s.lc, d.p 40 4, d.bytes⟩ (s.saf d.objIndex.toNat).checking := by
  rw [State.runDesc_acts ok, actSafLoad, State.saf_setSaf, State.taken_saf, State.taken_lc]

/-- Who may enroll the first key. -/
def State.mayEnroll (s : State) (d : Desc) : Prop := s.submitter d = 0 ∧ s.mode = 0 ∧ s.safKey = none

theorem State.safEnroll_acts {s : State} {d : Desc} (ok : s.Accepts safEnrollSpec d) :
    (s.mayEnroll d → s.Answers (s.runDesc safEnrollSpec d actSafEnroll) d 0 ∧
      (s.runDesc safEnrollSpec d actSafEnroll).safKey = some (beNat (d.bytes.take 64))) ∧
    (¬ s.mayEnroll d → s.Answers (s.runDesc safEnrollSpec d actSafEnroll) d 0x8704 ∧
      (s.runDesc safEnrollSpec d actSafEnroll).safKey = s.safKey) := by
  obtain ⟨_, -, -, ticket⟩ := State.ticketOf_eq ok.1
  have fn : (s.ticketOf d).fn = s.submitter d := congrArg Ticket.fn ticket
  have judged : ((s.ticketOf d).fn = 0 ∧ (s.taken safEnrollSpec.opcode d).mode = 0 ∧ (s.taken safEnrollSpec.opcode d).safKey = none) ↔
      s.mayEnroll d := by
    rw [fn, State.taken_mode, State.taken_safKey, State.mayEnroll]
  have recorded : ∀ (t : State) (c : Code),
      ((t.logHash (s.ticketOf d).fn d.obj c (d.bytes.take 64)).complete (s.ticketOf d) c 0).safKey = t.safKey := fun t c =>
    ((State.complete_keeps (.refl _ _) (within_self _)).safKeyKept rfl).trans ((State.logHash_keeps (.refl _ t) (within_self _)).safKeyKept rfl)
  rw [State.runDesc_acts ok]
  unfold actSafEnroll
  refine ⟨fun may => ?_, fun not => ?_⟩
  · rw [if_pos (judged.2 may)]
    have enrolled := State.setKey_keeps (key := beNat (d.bytes.take 64)) (bytes := d.bytes.take 64)
      (.refl _ (s.taken safEnrollSpec.opcode d)) (within_self _)
    refine ⟨State.taken_answers ok.1 ?_ (State.logHash_stay enrolled.ringsStay) 0 0, (recorded _ 0).trans (State.setKey_safKey _ _ _)⟩
    exact enrolled.sent.trans (State.logHash_keeps (.refl _ _) (within_self _)).sent
  · rw [if_neg (mt judged.1 not)]
    exact ⟨(State.refused_answers ok 0x8704 (d.bytes.take 64)).1, (recorded _ _).trans (State.taken_safKey _ _ _)⟩

/-! ## Safety Net areas (R203, R204) -/

/-- Whether a slot's area may be moved: the slot is at rest, nothing is held and the new place is free. -/
def State.areaFree (s : State) (n v : Nat) : Prop :=
  (s.slotState n = slotIdle ∨ s.slotState n = slotStopped) ∧ ((s.saf n).cur.isSome || (s.saf n).pend.isSome || (s.saf n).policy.held) = false ∧
    (v = 0 ∨ s.areaOk (fun t => t == tagSaf n) ⟨tagSaf n, v * 4096, safAreaBytes⟩ = true)

/-- What a written area address shows. -/
def areaShows (n v : Nat) (c : Code) : List (Field × Nat) := [(Reg.SAF_SLOT_AREA_BASE n, v), (Reg.SAF_SLOT_STATE_LAST_STATUS n, c)]

theorem areaShows_nodup (n v : Nat) (c : Code) : ((areaShows n v c).map (fun e => fieldKey e.1)).Nodup :=
  keys_nodup (names := (areaShows 0 0 0).map (fun e => e.1.id % 1024)) rfl (by decide +kernel)

/-- A slot's area takes the address written where R203 allows it. -/
theorem State.safAreaWrite_free {s : State} {n v : Nat} (free : s.areaFree n v) (hv : v < 2 ^ 27) (w : Writer) :
    (s.safAreaWrite w n v).Reads (areaShows n v 0) := by
  obtain ⟨rest, unheld, place⟩ := free
  unfold State.safAreaWrite
  dsimp only
  rw [if_pos ⟨rest, by rw [unheld]; rfl, by simpa using place⟩]
  refine State.setAll_logReg_reads (areaShows_nodup n v 0) ?_ ?_ s w _ _ _ _
  · exact (by decide +kernel : ∀ i ∈ (areaShows 0 0 0).map (fun e => e.1.id), i ∉ loggedFields ∧ i < 1024)
  · exact List.forall_mem_cons.2 ⟨hv, List.forall_mem_singleton.2 (by decide : 0 < 2 ^ 16)⟩

/-- Elsewhere it stays, and the slot shows 0x1702. -/
theorem State.safAreaWrite_bound {s : State} {n v : Nat} (bound : ¬ s.areaFree n v) (w : Writer) :
    (s.safAreaWrite w n v).Reads (areaShows n (s.get (Reg.SAF_SLOT_AREA_BASE n)) 0x1702) := by
  unfold State.safAreaWrite
  dsimp only
  rw [if_neg fun h => bound ⟨h.1, by simpa using h.2.1, by simpa using h.2.2⟩]
  let u := s.set (Reg.SAF_SLOT_STATE_LAST_STATUS n) 0x1702
  have base : u.get (Reg.SAF_SLOT_AREA_BASE n) = s.get (Reg.SAF_SLOT_AREA_BASE n) := State.get_set_other _ _ _ _
    (show (Reg.SAF_SLOT_AREA_BASE 0).id % 1024 ≠ (Reg.SAF_SLOT_STATE_LAST_STATUS 0).id % 1024 by decide)
  have status : u.get (Reg.SAF_SLOT_STATE_LAST_STATUS n) = 0x1702 := State.get_set_fits (by decide : 0x1702 < 2 ^ 16) s
  refine List.forall_mem_cons.2 ⟨Eq.trans ?_ base, List.forall_mem_singleton.2 (Eq.trans ?_ status)⟩
  · exact u.logReg_get w _ _ _ _ (Reg.SAF_SLOT_AREA_BASE 0) rfl
  · exact u.logReg_get w _ _ _ _ (Reg.SAF_SLOT_STATE_LAST_STATUS 0) rfl

/-! ## Protected bytes (R204) -/

theorem Keeps.limitOpen {w : Nat} {s t : State} (k : Keeps w s t) (c : Code) (i : Nat) (limits : w.testBit 36 = false := by decide)
    (lc : w.testBit 2 = false := by decide) : t.limitOpen c i = s.limitOpen c i := by
  unfold State.limitOpen
  rw [k.limitsKept limits, k.lcKept lc]

/-- An event raised leaves the limit of another code. -/
theorem State.raiseLimited_limitOpen (s : State) {c e : Nat} (h : c ≠ e) (o : Nat) (d : Detail) :
    (s.raiseLimited e 0 o d).limitOpen c 0 = s.limitOpen c 0 := by
  unfold State.raiseLimited
  split
  · refine ((State.raise_keeps (.refl _ _) (within_self _)).limitOpen c 0).trans ?_
    unfold State.limitOpen State.limitNote
    dsimp only
    rw [Table.find_put_other _ (e * 2 ^ 16 + 0) (c * 2 ^ 16 + 0) _ (by omega)]
  · rfl

theorem State.offer_limitOpen (s : State) {c : Nat} (h : c ≠ 0x2183) (e : LedgerEntry) : (s.offer e).limitOpen c 0 = s.limitOpen c 0 := by
  unfold State.offer
  dsimp only
  split
  · exact State.raiseLimited_limitOpen _ h _ _
  · rfl

/-- A write into a protected area is dropped: counted, nothing is stored, and it is raised unless that was done within a second. -/
theorem State.dropProtected_acts (s : State) (o n : Nat) : s.Counted (s.dropProtected o n) Reg.SAF_PROTECT_CNT ∧
    (s.dropProtected o n).mem = s.mem ∧ (s.limitOpen 0x8713 0 = true → (s.dropProtected o n).Latches 0x8713) := by
  have logged := State.logUnit_keeps (origin := o) (oidx := 0) (code := 0x8713) (block := blockOf Reg.SAF_CLR_CLR.off) (index := n)
    (.refl _ (s.bump Reg.SAF_PROTECT_CNT)) (within_self _)
  refine ⟨(s.bump_counted _).after ?_, (State.dropProtected_keeps (.refl _ s) (within_self _)).memKept rfl, fun opened => ?_⟩
  · exact ((State.raiseLimited_keeps (.refl _ _) (within_self _)).get_like _ rfl rfl).trans (logged.get_like _ rfl rfl)
  · unfold State.dropProtected State.raiseLimited
    have openStill : ((s.bump Reg.SAF_PROTECT_CNT).logUnit o 0 0x8713 (blockOf Reg.SAF_CLR_CLR.off) n).limitOpen 0x8713 0 = true :=
      (State.offer_limitOpen _ (by decide) _).trans opened
    rw [if_pos openStill]
    exact State.raise_latches _ _ _ _

/-! ## The obligation -/

/-- Settles O31: a package checked is held in full or refused with its code; the key, the areas and what they protect follow their own
checks. That an address of 0 is taken unchecked is the model's choice (log entry 41). -/
theorem safetyNetHoldsAndProtects : Obligations.SafetyNetHoldsAndProtects := by
  refine ⟨fun s => ⟨fun d ok => ?_, fun k x c l rest waits => ⟨fun good => ?_, fun bad slot => ?_⟩, fun d ok => ?_⟩,
    fun s => ⟨fun w n v reached => ?_, fun o a n meets => ?_⟩⟩
  · obtain ⟨_, -, -, ticket⟩ := State.ticketOf_eq ok.1
    exact ⟨_, rfl, s.ticketOf d, by rw [ticket], by rw [ticket], State.safLoad_waits ok⟩
  · obtain ⟨checking, seq, content, policy, key⟩ := State.safChecked_holds waits good
    rw [State.checkPassed_mem] at content policy
    simp only [State.checkPassed_safAddr] at content policy
    refine ⟨_, rfl, checking.trans (s.checkPassed_checking k rest), seq, fun kind => ?_, fun kind => ?_, key⟩
    · obtain ⟨q, pend, number, start, till, mem⟩ := content kind
      exact ⟨q, pend, number, start, till, (Memory.stored_of_writeAll mem).1⟩
    · obtain ⟨held, panels, mem⟩ := policy kind
      exact ⟨held, panels, (Memory.stored_of_writeAll mem).1⟩
  · exact ⟨_, rfl, State.safChecked_refuses waits slot bad⟩
  · obtain ⟨first, refused⟩ := State.safEnroll_acts ok
    exact ⟨fun may => ⟨_, rfl, first may⟩, fun not => ⟨_, rfl, refused not⟩⟩
  · have ran : exec (.safAreaWrite w n v) s = .next (s.safAreaWrite w n v.toNat) :=
      congrArg Host.Outcome.next (State.byWriter_reached reached _)
    have zero : v = 0 ↔ v.toNat = 0 := by rw [← BitVec.toNat_inj]; rfl
    refine ⟨fun free => ⟨_, ran, State.safAreaWrite_free ?_ v.isLt w⟩, fun bound => ⟨_, ran, State.safAreaWrite_bound (mt ?_ bound) w⟩⟩
    · rwa [State.areaFree, ← zero]
    · rw [State.areaFree, ← zero]; exact id
  · exact ⟨s.dropProtected o n, congrArg Host.Outcome.next (by rw [meets]), s.dropProtected_acts o n⟩

end Sys2Proof.Machine
end

/-! # Proofs: banks of keys, and the fields of the words that a Catcher holds live (R428, R429) -/

section
namespace Sys2Proof.Machine

-- One theorem at a time: the text is compiled as one, and more threads would not fit in memory.
set_option Elab.async false

open Sys2Proof

/-! ## Banks of keys -/

/-- Whether a field's place leaves room for the bank in its key. -/
def fieldPlaced (f : Field) : Bool := decide (f.lsb < 32 ∧ f.off < 2 ^ 29 ∧ f.fn < 64)

theorem keyBank_fieldKey {f : Field} (h : fieldPlaced f = true) (b : Nat) : keyBank (fieldKey (bank b f)) = b := by
  obtain ⟨lsb, off, fn⟩ := of_decide_eq_true h
  simp only [keyBank, fieldKey, bank]
  omega

/-- Copies of placed fields in two banks have two keys. -/
theorem fieldKey_banks_ne {f g : Field} (hf : fieldPlaced f = true) (hg : fieldPlaced g = true) {a b : Nat} (h : a ≠ b) :
    fieldKey (bank a f) ≠ fieldKey (bank b g) := fun e => h (by
  rw [← keyBank_fieldKey hf a, ← keyBank_fieldKey hg b, e])

/-- A copy between banks leaves every other bank. -/
theorem State.copyBank_other_bank {l : List Field} (placed : ∀ g ∈ l, fieldPlaced g = true) {f : Field} (hf : fieldPlaced f = true) {b c : Nat}
    (h : c ≠ b) (s : State) (a : Nat) : (s.copyBank a b l).get (bank c f) = s.get (bank c f) :=
  State.copyBank_get (fun g hg => fieldKey_banks_ne hf (placed g hg) h) s a

theorem slotFields_placed {n : Nat} (hn : n < 4) (kind : Nat) : ∀ g ∈ slotFields kind n, fieldPlaced g = true := by
  unfold slotFields
  split
  · exact (by decide +kernel : ∀ n < 4, ∀ g ∈ Reg.ENC_BS_D_NS n :: (fixedEncode n ++ liveEncode n), fieldPlaced g = true) n hn
  · exact (by decide +kernel : ∀ n < 4, ∀ g ∈ fixedDecode n ++ [Reg.DEC_BS_LOAD_US n], fieldPlaced g = true) n hn

theorem cmpFields_placed : ∀ n < 4, ∀ g ∈ cmpFields n, fieldPlaced g = true := by decide +kernel

theorem scnFields_placed : ∀ i < 16, ∀ g ∈ scnFields i, fieldPlaced g = true := by decide +kernel

theorem meterFields_placed : ∀ q < 128, ∀ g ∈ meterFields q, fieldPlaced g = true := by decide +kernel

theorem routeFields_placed : ∀ c < 96, ∀ g ∈ routeFields c, fieldPlaced g = true := by decide +kernel

/-! ## Fields of the words that a Catcher holds live (R429) -/

theorem Reg.mem_joinWords {l : List (Option (List Field))} {f : Field} (hf : f ∈ (Reg.joinWords l).getD []) :
    ∃ w ∈ l, f ∈ w.getD [] := by
  induction l with
  | nil => cases hf
  | cons w l ih =>
    have later : f ∈ (Reg.joinWords l).getD [] → ∃ v ∈ w :: l, f ∈ v.getD [] := fun h => by
      obtain ⟨v, hv, mem⟩ := ih h
      exact ⟨v, List.mem_cons_of_mem _ hv, mem⟩
    cases w with
    | none => exact later hf
    | some w =>
      have here : f ∈ w → ∃ v ∈ some w :: l, f ∈ v.getD [] := fun h => ⟨some w, List.mem_cons_self, h⟩
      unfold Reg.joinWords at hf
      split at hf
      · exact here hf
      · next rest joined =>
        rcases List.mem_append.1 hf with h | h
        · exact here h
        · exact later (by rw [joined]; exact h)

/-- What holds of the fields of an array at each of its indices holds of the fields of its words. -/
theorem Reg.wordAt_forall {P : Field → Bool} {base s1 c1 s2 c2 : Nat} {l : Nat → Nat → List Field}
    (h : ∀ i < max 1 c1, ∀ j < max 1 c2, ∀ f ∈ l i j, P f = true) (o : Nat) : ∀ f ∈ (Reg.wordAt base s1 c1 s2 c2 o l).getD [], P f = true := by
  unfold Reg.wordAt
  split
  · exact fun _ hf => nomatch hf
  · split
    · split
      · exact h 0 (by omega) 0 (by omega)
      · exact fun _ hf => nomatch hf
    · split
      · split
        · next at1 => exact h _ (by omega) 0 (by omega)
        · exact fun _ hf => nomatch hf
      · split
        · next at2 => exact h _ (by omega) _ (by omega)
        · exact fun _ hf => nomatch hf

/-- What the following of receivers may change. -/
def followMask : Nat :=
  0x70000000fec0a600000000000000000000000000000000000000000400000000000000000000000000000000000001000000000001680000052

/-- Whether a field is placed, and software's write of it is none that the following of receivers changes. -/
def fieldFollowed (f : Field) : Bool := fieldPlaced f && (f.acc != .rw || !(followMask.testBit (64 + f.id % 1024)))

theorem ingWords_followed (o : Nat) : ∀ w ∈ Reg.ingWords o, ∀ f ∈ w.getD [], fieldFollowed f = true := by
  unfold Reg.ingWords
  iterate 23 refine List.forall_mem_cons.2 ⟨Reg.wordAt_forall (by decide +kernel) o, ?_⟩
  exact fun _ h => nomatch h

theorem safWords_followed (o : Nat) : ∀ w ∈ Reg.safWords o, ∀ f ∈ w.getD [], fieldFollowed f = true := by
  unfold Reg.safWords
  iterate 13 refine List.forall_mem_cons.2 ⟨Reg.wordAt_forall (by decide +kernel) o, ?_⟩
  exact fun _ h => nomatch h

theorem liveOffset_block {off : Nat} (h : liveOffset off = true) : off / 0x40000 = 14 ∨ off / 0x40000 = 16 := by
  rcases Bool.or_eq_true_iff.1 h with ing | saf
  · exact .inl (eq_of_beq ing)
  · obtain ⟨n, hn, e⟩ := List.any_eq_true.1 saf
    rw [← eq_of_beq e]
    exact .inr ((by decide : ∀ n ∈ fourSlots, (Reg.SAF_SLOT_AREA_BASE n).off / 0x40000 = 16) n hn)

theorem liveOffset_followed {off : Nat} (live : liveOffset off = true) {f : Field} (hf : f ∈ (Reg.fieldsAt 0 off).getD []) :
    fieldFollowed f = true := by
  unfold Reg.fieldsAt at hf
  split at hf
  · cases hf
  · rw [if_neg (fun h => h.1 rfl)] at hf
    obtain ⟨w, hw, mem⟩ := Reg.mem_joinWords hf
    unfold Reg.blockWords at hw
    rcases liveOffset_block live with block | block
    · rw [block] at hw
      exact ingWords_followed off w hw f mem
    · rw [block] at hw
      exact safWords_followed off w hw f mem

end Sys2Proof.Machine
end

/-! # Proofs: the configuration that a Catcher holds (R428, R429) -/

section
namespace Sys2Proof.Machine

-- One theorem at a time: the text is compiled as one, and more threads would not fit in memory.
set_option Elab.async false

open Sys2Proof

/-! ## CONFIG records (R428, R429) -/

/-- The RW fields of a word in a bank, with their bits of its value. -/
def heldWord (b off v : Nat) : List (Field × Nat) :=
  (((Reg.fieldsAt 0 off).getD []).filter (fun f => f.acc == .rw)).map (fun f => (bank b f, bits v f.msb f.lsb))

theorem State.heldWrite_eq (s : State) (b off v : Nat) : s.heldWrite b off v = s.setAll (heldWord b off v) := by
  unfold State.heldWrite heldWord
  generalize ((Reg.fieldsAt 0 off).getD []).filter (fun f => f.acc == .rw) = l
  induction l generalizing s with
  | nil => rfl
  | cons f l ih => exact ih _

theorem mem_heldWord {b off v : Nat} {f : Field} (hf : f ∈ (Reg.fieldsAt 0 off).getD []) (rw : f.acc = .rw) :
    (bank b f, bits v f.msb f.lsb) ∈ heldWord b off v :=
  List.mem_map_of_mem (List.mem_filter.2 ⟨hf, beq_iff_eq.2 rw⟩)

theorem heldWord_nodup {b off v : Nat} (h : (((Reg.fieldsAt 0 off).getD []).map (fun f => fieldKey (bank b f))).Nodup) :
    ((heldWord b off v).map (fun e => fieldKey e.1)).Nodup := by
  rw [heldWord, List.map_map]
  exact h.sublist (List.filter_sublist.map _)

/-- A word written in the held configuration stands there, each field cut to its width. -/
theorem State.heldWrite_reads {off : Nat} (distinct : (((Reg.fieldsAt 0 off).getD []).map (fun f => fieldKey (bank 5 f))).Nodup) (s : State)
    (v : Nat) {f : Field} (hf : f ∈ (Reg.fieldsAt 0 off).getD []) (rw : f.acc = .rw) :
    (s.heldWrite 5 off v).get (bank 5 f) = bits v f.msb f.lsb % 2 ^ fieldWidth f := by
  rw [State.heldWrite_eq]
  exact State.setAll_reads (heldWord_nodup distinct) s (mem_heldWord hf rw)

/-- A word that a Catcher holds live leaves the held configuration, when software's own is written. -/
theorem State.heldWrite_live {off : Nat} (live : liveOffset off = true) (s : State) (v : Nat) {f : Field} (hf : fieldPlaced f = true) :
    (s.heldWrite 0 off v).get (bank 5 f) = s.get (bank 5 f) := by
  rw [State.heldWrite_eq]
  refine State.setAll_get_key _ _ _ fun among => ?_
  obtain ⟨e, he, same⟩ := List.mem_map.1 among
  obtain ⟨g, hg, rfl⟩ := List.mem_map.1 he
  have placed := (Bool.and_eq_true_iff.1 (liveOffset_followed live (List.mem_of_mem_filter hg))).1
  exact fieldKey_banks_ne placed hf (by decide : 0 ≠ 5) same

/-- The fields of the held configuration that a command among the registers writes. -/
def heldStates : List Field := [Reg.ENC_BS_RUN_STATE 0, Reg.CAR_P_PENDING 0]

/-- A command among the registers of the held configuration writes no other field of it than a slot's STATE and a port's PENDING. -/
theorem State.heldCommand_get (s : State) (off v : Nat) {f : Field} (hf : fieldPlaced f = true)
    (other : ∀ g ∈ heldStates, f.id % 1024 ≠ g.id % 1024) : (s.heldCommand off v).get (bank 5 f) = s.get (bank 5 f) := by
  have state : ∀ (t : State) n x, (t.set (bank 5 (Reg.ENC_BS_RUN_STATE n)) x).get (bank 5 f) = t.get (bank 5 f) := fun t n x =>
    State.get_set_other _ _ _ _ (other (Reg.ENC_BS_RUN_STATE 0) (.head _))
  have pending : ∀ (t : State) i x, (t.set (bank 5 (Reg.CAR_P_PENDING i)) x).get (bank 5 f) = t.get (bank 5 f) := fun t i x =>
    State.get_set_other _ _ _ _ (other (Reg.CAR_P_PENDING 0) (.tail _ (.head _)))
  have four : ∀ {n : Nat}, n ∈ fourSlots → n < 4 := fun h => (by decide : ∀ n ∈ fourSlots, n < 4) _ h
  unfold State.heldCommand
  split
  next n found =>
    have hn := four (List.mem_of_find?_eq_some found)
    have copied := s.copyBank_other_bank (slotFields_placed hn (s.get (bank 5 (Reg.ENC_BS_FORMAT_KIND n)))) hf (by decide : 5 ≠ 1) 5
    dsimp only
    split
    · split
      · exact (state _ _ _).trans copied
      · exact copied
    · split
      · exact state _ _ _
      · split
        · exact state _ _ _
        · rfl
  next n _ found =>
    split
    · exact s.copyBank_other_bank (cmpFields_placed n (four (List.mem_of_find?_eq_some found))) hf (by decide : 5 ≠ 1) 5
    · rfl
  next =>
    split
    next i found =>
      split
      · exact s.copyBank_other_bank (scnFields_placed i (List.mem_range.1 (List.mem_of_find?_eq_some found))) hf (by decide : 5 ≠ 6) 5
      · rfl
    next =>
      split
      · exact pending _ _ _
      · rfl
    next =>
      split
      next q found =>
        exact s.copyBank_other_bank (meterFields_placed q (List.mem_range.1 (List.mem_of_find?_eq_some found))) hf (by decide : 5 ≠ 6) 5
      next c _ found =>
        exact s.copyBank_other_bank (routeFields_placed c (List.mem_range.1 (List.mem_of_find?_eq_some found))) hf (by decide : 5 ≠ 6) 5
      next => rfl

/-- A change of the held configuration stands there; what follows it at once leaves it. -/
theorem State.heldConfig_reads {off : Nat} (distinct : (((Reg.fieldsAt 0 off).getD []).map (fun f => fieldKey (bank 5 f))).Nodup) (s : State)
    (v : Nat) {f : Field} (hf : f ∈ (Reg.fieldsAt 0 off).getD []) (rw : f.acc = .rw) (placed : fieldPlaced f = true)
    (other : ∀ g ∈ heldStates, f.id % 1024 ≠ g.id % 1024) :
    (s.heldConfig off v).get (bank 5 f) = bits v f.msb f.lsb % 2 ^ fieldWidth f := by
  have held : ((s.heldWrite 5 off v).heldCommand off v).get (bank 5 f) = bits v f.msb f.lsb % 2 ^ fieldWidth f :=
    (State.heldCommand_get _ off v placed other).trans (s.heldWrite_reads distinct v hf rw)
  unfold State.heldConfig
  dsimp only
  split
  next now =>
    have live := (Bool.and_eq_true_iff.1 now).1
    have followed := (Bool.and_eq_true_iff.1 (liveOffset_followed live hf)).2
    have follow : Keeps followMask (((s.heldWrite 5 off v).heldCommand off v).heldWrite 0 off v) _ :=
      State.rxFollow_keeps (before := (s.heldWrite 5 off v).heldCommand off v) (.refl _ _)
    have kept : followMask.testBit (64 + f.id % 1024) = false := by simpa [rw] using followed
    exact (follow.regs (bank 5 f) kept).trans ((State.heldWrite_live live _ v placed).trans held)
  next => exact held

theorem exec_configRecord {s : State} (catches : s.catches = true) (off v : BitVec 32) : exec (.configRecord [(off, v)]) s =
    .next ((s.heldConfig off.toNat v.toNat).descShown (fun x => [0x0010, 0x0011, 0x0100].contains x.opcode)) :=
  congrArg Host.Outcome.next (if_pos catches)

end Sys2Proof.Machine
end

/-! # Proofs: the order of the stream, mirrored data and held rows (R432 to R435) -/

section
namespace Sys2Proof.Machine

-- One theorem at a time: the text is compiled as one, and more threads would not fit in memory.
set_option Elab.async false

open Sys2Proof

/-! ## SEQ order (R432, R435) -/

/-- Malformed records of a message are counted and raised. -/
def State.malformedSeen (s : State) (bad : Nat) : State :=
  if bad = 0 then s else (s.count Reg.TRP_MALFORMED_CNT bad).raiseLimited 0x4171 0 objDevice {}

/-- What counting malformed records may change. -/
def malformedMask : Nat :=
  frameMask ([Reg.TRP_MALFORMED_CNT, Reg.HIF_FN_EVT_LOST_CNT 0, Reg.BRK_LATCH 0].map Field.id, [.fresh, .rings, .pba, .unsigSince, .limits])

theorem State.malformedSeen_keeps (s : State) (bad : Nat) : Keeps malformedMask s (s.malformedSeen bad) :=
  .ite _ (.refl _ s) (State.raiseLimited_keeps (State.count_keeps (by decide +kernel) (.refl _ s) (by decide +kernel)) (by decide +kernel))

theorem State.malformedSeen_trp (s : State) (bad : Nat) : (s.malformedSeen bad).trp = s.trp := (s.malformedSeen_keeps bad).trpKept (by decide +kernel)

theorem State.count_get {n : Nat} (h : 0 < n) (s : State) (f : Field) : (s.count f n).get f = min (s.get f + n) (fieldMax f) := by
  unfold State.count
  rw [if_neg (by omega)]
  exact State.get_set_fits (Nat.lt_of_le_of_lt (Nat.min_le_right _ _) (fieldMax_lt f)) s

theorem State.malformedSeen_counts {bad : Nat} (h : 0 < bad) (s : State) : (s.malformedSeen bad).get Reg.TRP_MALFORMED_CNT =
    min (s.get Reg.TRP_MALFORMED_CNT + bad) (fieldMax Reg.TRP_MALFORMED_CNT) := by
  unfold State.malformedSeen
  rw [if_neg (by omega)]
  exact ((State.raiseLimited_keeps (.refl _ _) (within_self _)).get_like _ rfl rfl).trans (State.count_get h s _)

/-- The stream is in up to a SEQ. -/
def State.absorbed (s : State) (q : Nat) : State :=
  ({ s with trp := { s.trp with
    got := q, ahead := s.trp.ahead.filter (fun a => !(later32 q a)), asked := s.trp.asked.filter (fun a => !(later32 q a)) } } : State).set
      Reg.TRP_SEQ ((q + 2 ^ 32 - 1) % 2 ^ 32)

/-- The SEQs before one that have neither come nor been asked for. -/
def State.gapTo (s : State) (seq : Nat) : List Nat :=
  ((List.range (sub32 seq s.trp.got)).map (fun k => (s.trp.got + k) % 2 ^ 32)).filter
    (fun q => !(s.trp.ahead.contains q) && !(s.trp.asked.contains q))

/-- A message ahead of the contiguous SEQ is held, and the gap before it is to be asked for. -/
def State.heldAhead (s : State) (seq : Nat) : State :=
  { s with trp := { s.trp with ahead := seq :: s.trp.ahead, asked := (s.trp.asked ++ s.gapTo seq).filter (fun q => q != seq) } }

theorem State.sendPeer_trp (s : State) (topic addr v : Nat) : (s.sendPeer topic addr v).trp = s.trp :=
  (State.sendPeer_keeps (.refl _ s) (within_self _)).trpKept rfl

section
variable {s : State} {i seq : Nat} (takes : s.catches = true ∧ s.mirrorLanes.contains i = true) (bad : Nat)
include takes

theorem State.mirrorDataRx_next (next : seq = s.trp.got) : s.mirrorDataRx i seq bad =
    (s.malformedSeen bad).absorbed (absorb s.trp.ahead s.trp.ahead.length ((seq + 1) % 2 ^ 32)) := by
  have trp := s.malformedSeen_trp bad
  rw [← trp] at next ⊢
  unfold State.mirrorDataRx
  rw [if_pos takes]
  exact if_pos next

theorem State.mirrorDataRx_ahead (later : later32 seq s.trp.got = true) (new : seq ∉ s.trp.ahead) :
    s.mirrorDataRx i seq bad = ((s.malformedSeen bad).gapTo seq).foldl (fun t q => t.sendPeer 0x12 q 0) ((s.malformedSeen bad).heldAhead seq) := by
  have trp := s.malformedSeen_trp bad
  have other : seq ≠ s.trp.got := fun same => by
    have early := (of_decide_eq_true later).1
    rw [← same, sub32] at early
    omega
  have after : later32 seq s.trp.got ∧ !(s.trp.ahead.contains seq) := ⟨later, by simpa using new⟩
  rw [← trp] at other after
  unfold State.mirrorDataRx
  rw [if_pos takes]
  exact (if_neg other).trans (if_pos after)

end

/-- Asking for a gap leaves what the stream tracks. -/
theorem State.askFor_trp (l : List Nat) (s : State) : (l.foldl (fun (t : State) q => t.sendPeer 0x12 q 0) s).trp = s.trp :=
  foldl_same State.trp (fun t q => t.sendPeer_trp 0x12 q 0) l s

theorem State.resendTimeout_trp {s : State} {seq : Nat} (catches : s.catches = true) (asked : seq ∈ s.trp.asked) :
    ∃ got, (s.resendTimeout seq).trp = { s.trp with got := got, ahead := [], asked := [] } := by
  unfold State.resendTimeout
  rw [if_pos ⟨catches, List.contains_iff_mem.2 asked⟩]
  exact ⟨_, State.sendPeer_trp _ _ _ _⟩

/-! ## Mirrored data (R433) -/

theorem mem_insertLine {a b : Nat} {l : List Nat} : b ∈ insertLine a l ↔ b = a ∨ b ∈ l := by
  induction l with
  | nil => simp [insertLine]
  | cons x l ih =>
    unfold insertLine
    split
    · simp
    · split
      · next same => simp [same]
      · simp [ih, or_left_comm]

theorem mem_insertLines {g : Nat → Nat} {ks : List Nat} {b : Nat} {l : List Nat} (h : b ∈ l ∨ ∃ k ∈ ks, b = g k) :
    b ∈ ks.foldl (fun l k => insertLine (g k) l) l := by
  induction ks generalizing l with
  | nil => simpa using h
  | cons k ks ih =>
    refine ih ?_
    rcases h with old | ⟨j, hj, rfl⟩
    · exact .inl (mem_insertLine.2 (.inr old))
    · rcases List.mem_cons.1 hj with rfl | later
      · exact .inl (mem_insertLine.2 (.inl rfl))
      · exact .inr ⟨j, later, rfl⟩

/-- The line that a range of bytes begins in is poisoned with it. -/
theorem State.poisonRange_first (s : State) (a : Nat) {len : Nat} (h : 0 < len) : 64 * (a / 64) ∈ (s.poisonRange a len).dram.poison := by
  refine mem_insertLines (.inr ⟨0, List.mem_range.2 ?_, rfl⟩)
  unfold ceilDiv
  omega

theorem State.mirrorStore_stores {s : State} {a : Nat} {l : List Byte} (there : s.inService a l.length = true)
    (apart : s.safAreaMeets a l.length = none) (poison : Bool) : (s.mirrorStore a l poison).mem = Memory.writeAll s.mem a l ∧
      (poison = true → l ≠ [] → 64 * (a / 64) ∈ (s.mirrorStore a l poison).dram.poison) := by
  unfold State.mirrorStore
  rw [if_pos there, State.deviceStore_free apart]
  cases poison with
  | false => exact ⟨rfl, nofun⟩
  | true => exact ⟨rfl, fun _ some => State.poisonRange_first _ a (List.length_pos_iff.2 some)⟩

theorem State.mirrorStore_absent {s : State} {a : Nat} {l : List Byte} (gone : s.inService a l.length = false) (poison : Bool) :
    s.mirrorStore a l poison = s := if_neg (by rw [gone]; decide)

theorem State.refBlock_mem {s : State} {a sectors : Nat} {l : List Byte} (short : l.length ≤ 512) (block : s.inService a 512 = true)
    (there : s.inService a l.length = true) (apart : s.safAreaMeets a l.length = none) (poison : Bool) :
    (s.refBlock a sectors l poison).mem = Memory.writeAll s.mem a l := by
  unfold State.refBlock
  rw [if_pos block, List.take_of_length_le short]
  exact (State.mirrorStore_stores there apart poison).1

/-! ## Rows held (R434) -/

theorem find?_of_unique {α : Type} {p : α → Bool} {l : List α} {x : α} (hx : x ∈ l) (px : p x = true) (only : ∀ y ∈ l, p y = true → y = x) :
    l.find? p = some x := by
  obtain ⟨y, found⟩ := Option.isSome_iff_exists.1 (List.find?_isSome.2 ⟨x, hx, px⟩)
  rw [found, only y (List.mem_of_find?_eq_some found) (List.find?_some found)]

theorem eraseDups_constant {l : List Nat} {a : Nat} (some : l ≠ []) (same : ∀ b ∈ l, b = a) : l.eraseDups = [a] := by
  cases l with
  | nil => exact absurd rfl some
  | cons b l =>
    obtain ⟨rfl, rest⟩ := List.forall_mem_cons.1 same
    rw [List.eraseDups_cons, List.filter_eq_nil_iff.2 fun c hc => by simp [rest c hc]]
    rfl

/-- Whether a held row is that of a place. -/
def HeldRow.at (n pic row : Nat) (x : HeldRow) : Bool := x.slot == n && x.pic == pic && x.row == row

theorem State.heldRow_eq (s : State) (n pic row : Nat) : s.heldRow n pic row =
    (s.trp.rows.find? (HeldRow.at n pic row)).getD { slot := n, pic := pic, row := row, slices := [], endSeq := none } := rfl

theorem HeldRow.at_iff {n pic row : Nat} {x : HeldRow} : x.at n pic row = true ↔ x.slot = n ∧ x.pic = pic ∧ x.row = row := by
  simp [HeldRow.at, and_assoc]

theorem State.heldRow_at (s : State) (n pic row : Nat) : (s.heldRow n pic row).at n pic row = true := by
  rw [State.heldRow_eq]
  cases found : s.trp.rows.find? (HeldRow.at n pic row) with
  | none => exact HeldRow.at_iff.2 ⟨rfl, rfl, rfl⟩
  | some x => exact List.find?_some found

theorem State.heldRow_of_rows {s t : State} (h : t.trp.rows = s.trp.rows) (n pic row : Nat) : t.heldRow n pic row = s.heldRow n pic row := by
  rw [State.heldRow_eq, State.heldRow_eq, h]

/-- The rows with one put among them, before old pictures leave. -/
def State.rowsWith (s : State) (x : HeldRow) : List HeldRow :=
  if s.trp.rows.any (HeldRow.at x.slot x.pic x.row) then
    s.trp.rows.map (fun y => if y.slot = x.slot ∧ y.pic = x.pic ∧ y.row = x.row then x else y)
  else s.trp.rows ++ [x]

theorem State.mem_rowsWith {s : State} {x y : HeldRow} (hy : y ∈ s.rowsWith x) : y = x ∨ (y ∈ s.trp.rows ∧ ¬ y.at x.slot x.pic x.row = true) := by
  unfold State.rowsWith at hy
  split at hy
  · obtain ⟨z, hz, rfl⟩ := List.mem_map.1 hy
    split
    · exact .inl rfl
    · next apart => exact .inr ⟨hz, mt HeldRow.at_iff.1 apart⟩
  · next none =>
    rcases List.mem_append.1 hy with old | new
    · exact .inr ⟨old, fun h => none (List.any_eq_true.2 ⟨y, old, h⟩)⟩
    · exact .inl (List.mem_singleton.1 new)

theorem State.self_mem_rowsWith (s : State) (x : HeldRow) : x ∈ s.rowsWith x := by
  unfold State.rowsWith
  split
  · next some =>
    obtain ⟨y, hy, same⟩ := List.any_eq_true.1 some
    exact List.mem_map.2 ⟨y, hy, if_pos (HeldRow.at_iff.1 same)⟩
  · exact List.mem_append_right _ (List.mem_singleton.2 rfl)

/-- A row put is the one held of its place, while its slot holds rows of its picture alone. -/
theorem State.heldRow_putHeldRow {s : State} {x : HeldRow} {n pic row : Nat} (place : x.at n pic row = true)
    (only : ∀ y ∈ s.trp.rows, y.slot = n → y.pic = pic) : (s.putHeldRow x).heldRow n pic row = x := by
  obtain ⟨rfl, rfl, rfl⟩ := HeldRow.at_iff.1 place
  have one : heldPics x.slot (s.rowsWith x) = [x.pic] := by
    refine eraseDups_constant ?_ fun p hp => ?_
    · exact List.ne_nil_of_mem (List.mem_map_of_mem (List.mem_filter.2 ⟨s.self_mem_rowsWith x, beq_self_eq_true _⟩))
    · obtain ⟨y, hy, rfl⟩ := List.mem_map.1 hp
      obtain ⟨among, slot⟩ := List.mem_filter.1 hy
      rcases State.mem_rowsWith among with rfl | ⟨old, -⟩
      · rfl
      · exact only y old (eq_of_beq slot)
  have rows : (s.putHeldRow x).trp.rows = (s.rowsWith x).filter (fun y => y.slot != x.slot ||
      ((heldPics x.slot (s.rowsWith x)).drop ((heldPics x.slot (s.rowsWith x)).length - (s.cfg Reg.ENC_BS_TOOLS_NUM_REF x.slot + 2))).contains y.pic) := rfl
  rw [State.heldRow_eq, rows, one, find?_of_unique (x := x)]
  · rfl
  · refine List.mem_filter.2 ⟨s.self_mem_rowsWith x, ?_⟩
    simp
  · exact place
  · intro y hy at'
    rcases State.mem_rowsWith (List.mem_of_mem_filter hy) with same | ⟨-, apart⟩
    · exact same
    · exact absurd at' apart

end Sys2Proof.Machine
end

/-! # Proofs: acknowledgement, the snapshot and safety lines (R206, R427, R435, R436, R452) -/

section
namespace Sys2Proof.Machine

-- One theorem at a time: the text is compiled as one, and more threads would not fit in memory.
set_option Elab.async false

open Sys2Proof

/-! ## Acknowledgement and readiness (R427, R435) -/

theorem State.sendAck_trp (s : State) : s.sendAck.trp = { s.trp with ackAt := s.lc } :=
  congrArg (fun x : Trp => { x with ackAt := s.lc }) (s.sendPeer_trp 0x11 0 (s.get Reg.TRP_SEQ))

theorem State.sendAck_ack (s : State) : s.sendAck.get Reg.TRP_ACK = s.get Reg.TRP_SEQ % 2 ^ 32 := State.get_set_same _ _ _

/-- Entering a state changes the time of the health report alone among what take-over tracks. -/
theorem State.toTrp_updated (s : State) (st : Nat) : ∃ at', (s.toTrp st).trp = { s.trp with updated := at' } := by
  unfold State.toTrp
  split
  · exact ⟨s.trp.updated, rfl⟩
  · dsimp only
    split
    · exact ⟨_, (State.raise_keeps (.refl _ _) (within_self _)).trpKept rfl⟩
    · exact ⟨_, rfl⟩

theorem State.tryReady_updated (s : State) : ∃ at', s.tryReady.trp = { s.trp with updated := at' } := by
  unfold State.tryReady
  split
  · exact s.toTrp_updated trpReady
  · exact ⟨s.trp.updated, rfl⟩

theorem State.tryReady_ended (s : State) : s.tryReady.trp.ended = s.trp.ended := by
  obtain ⟨at', ready⟩ := s.tryReady_updated
  rw [ready]

/-- A whole snapshot with no running slot makes the device ready. -/
theorem State.tryReady_ready {s : State} (syncing : s.trpState = trpSyncing) (ended : s.trp.ended = true) (idle : s.heldRunning = []) :
    s.tryReady = s.toTrp trpReady := by
  unfold State.tryReady
  rw [if_pos ⟨syncing, ended, by rw [idle]; rfl⟩]

theorem State.toTrp_ready_latches {s : State} (syncing : s.trpState = trpSyncing) : (s.toTrp trpReady).Latches 0x0171 := by
  unfold State.toTrp
  rw [if_neg (by rw [syncing]; decide)]
  exact State.raise_latches _ _ _ _

/-- A row's end is held, with the stream acknowledged up to its contiguous SEQ. -/
theorem State.rowEnd_holds {s : State} {x : HeldRow} {n pic row : Nat} (place : x.at n pic row = true)
    (only : ∀ y ∈ s.trp.rows, y.slot = n → y.pic = pic) : ((s.putHeldRow x).sendAck.tryReady).heldRow n pic row = x ∧
      ((s.putHeldRow x).sendAck.tryReady).get Reg.TRP_ACK = s.get Reg.TRP_SEQ % 2 ^ 32 ∧
      ((s.putHeldRow x).sendAck.tryReady).trp.ackAt = s.lc := by
  obtain ⟨at', ready⟩ := (s.putHeldRow x).sendAck.tryReady_updated
  rw [State.sendAck_trp] at ready
  refine ⟨(State.heldRow_of_rows (s := s.putHeldRow x) (by rw [ready]) n pic row).trans (State.heldRow_putHeldRow place only), ?_, congrArg Trp.ackAt ready⟩
  exact ((State.tryReady_keeps (.refl _ _) (within_self _)).get_like _ rfl rfl).trans (State.sendAck_ack _)

/-! ## The snapshot (R436) -/

/-- Entries of some keys alone stay of a table. -/
theorem Table.find_filter_key {α : Type} (t : Table α) (p : Nat → Bool) (k : Nat) :
    Table.find (t.filter (fun e => p e.1)) k = if p k then Table.find t k else none := by
  induction t with
  | nil => simp [Table.find]
  | cons e t ih =>
    obtain ⟨q, v⟩ := e
    by_cases here : k = q
    · subst here
      cases hp : p k <;> simp_all [Table.find]
    · cases hp : p q <;> simp_all [Table.find]

/-- Putting entries under other keys leaves a key. -/
theorem Table.find_putAll_other {α β : Type} {key : β → Nat} {val : β → α} {k : Nat} {l : List β} (h : ∀ e ∈ l, key e ≠ k) (t : Table α) :
    Table.find (l.foldl (fun (t : Table α) e => Table.put t (key e) (val e)) t) k = Table.find t k := by
  induction l generalizing t with
  | nil => rfl
  | cons e l ih =>
    obtain ⟨first, rest⟩ := List.forall_mem_cons.1 h
    exact (ih rest _).trans (Table.find_put_other _ _ _ _ first.symm)

/-- The device as SYNC_START leaves its held configuration. -/
def State.syncEmptied (s : State) : State :=
  { s with regs := s.regs.filter (fun e => !(keyBank e.1 == 5 || keyBank e.1 == 6)), trp := { s.trp with ended := false, rows := [], ckpts := [] } }

theorem State.syncEmptied_get (s : State) {b : Nat} (hb : b = 5 ∨ b = 6) {f : Field} (hf : fieldPlaced f = true) :
    s.syncEmptied.get (bank b f) = f.reset := by
  have gone := Table.find_filter_key s.regs (fun k => !(keyBank k == 5 || keyBank k == 6)) (fieldKey (bank b f))
  rw [keyBank_fieldKey hf, if_neg (by rcases hb with rfl | rfl <;> decide)] at gone
  show (Table.find s.syncEmptied.regs _).getD f.reset = f.reset
  rw [show Table.find s.syncEmptied.regs (fieldKey (bank b f)) = none from gone]
  rfl

/-- Entering SYNCING leaves the other banks. -/
theorem State.toTrp_syncing_get (s : State) {b : Nat} (hb : 0 ≠ b) {f : Field} (hf : fieldPlaced f = true) :
    (s.toTrp trpSyncing).get (bank b f) = s.get (bank b f) := by
  unfold State.toTrp
  split
  · rfl
  · dsimp only
    rw [if_neg (by decide)]
    show (s.set Reg.TRP_STATUS_STATE trpSyncing).get (bank b f) = _
    exact State.get_set_key s _ _ _ (fieldKey_banks_ne (show fieldPlaced Reg.TRP_STATUS_STATE = true by decide) hf hb).symm

/-- The configuration that a Catcher holds live, put in force from the held one. -/
def State.liveRegs (s : State) : Table Nat :=
  (s.regs.filter (fun e => keyBank e.1 == 5 && isLiveKey (rebank 0 e.1) && keyRw e.1)).foldl
    (fun (t : Table Nat) e => Table.put t (rebank 0 e.1) e.2) (s.regs.filter (fun e => !(isLiveKey e.1 && keyRw e.1)))

/-- The device at SYNC_END, before its receivers follow. -/
def State.syncLive (s : State) : State := { s with regs := s.liveRegs, trp := { s.trp with ended := true } }

theorem State.syncEnd_eq (s : State) : s.syncEnd = (s.syncLive.rxFollow s).tryReady := rfl

/-- A field that a Catcher does not hold live is none of what SYNC_END puts in force. -/
theorem State.syncLive_get (s : State) {f : Field} (other : isLiveKey (fieldKey f) = false) : s.syncLive.get f = s.get f := by
  have kept : Table.find s.liveRegs (fieldKey f) = Table.find s.regs (fieldKey f) := by
    refine (Table.find_putAll_other (fun e he same => ?_) _).trans ?_
    · have live := (List.mem_filter.1 he).2
      rw [same, other] at live
      simp at live
    · rw [Table.find_filter_key s.regs (fun k => !(isLiveKey k && keyRw k)), other]
      rfl
  exact congrArg (fun o : Option Nat => o.getD f.reset) kept

theorem State.synced_get (s : State) {f : Field} (other : isLiveKey (fieldKey f) = false) (kept : followMask.testBit (64 + f.id % 1024) = false) :
    (s.syncLive.rxFollow s).get f = s.get f :=
  ((State.rxFollow_keeps (m0 := followMask) (.refl _ _)).regs f kept).trans (s.syncLive_get other)

theorem State.synced_ended (s : State) : (s.syncLive.rxFollow s).trp.ended = true := by
  have follow : Keeps followMask s.syncLive (s.syncLive.rxFollow s) := State.rxFollow_keeps (.refl _ _)
  rw [follow.trpKept (by decide +kernel)]
  rfl

theorem State.synced_running (s : State) : (s.syncLive.rxFollow s).heldRunning = s.heldRunning := by
  refine List.filter_congr fun n hn => ?_
  rw [s.synced_get ((by decide : ∀ n ∈ fourSlots, isLiveKey (fieldKey (bank 5 (Reg.ENC_BS_RUN_STATE n))) = false) n hn)
    (show followMask.testBit (64 + (Reg.ENC_BS_RUN_STATE 0).id % 1024) = false by decide)]

/-- SYNC_END completes the snapshot. -/
theorem State.syncEnd_completes (s : State) : s.syncEnd.trp.ended = true ∧
    (s.trpState = trpSyncing → s.heldRunning = [] → s.syncEnd.trpState = trpReady ∧ s.syncEnd.Latches 0x0171) := by
  rw [State.syncEnd_eq]
  constructor
  · rw [State.tryReady_ended, s.synced_ended]
  · intro syncing idle
    have same : (s.syncLive.rxFollow s).trpState = trpSyncing := (s.synced_get (f := Reg.TRP_STATUS_STATE) (by decide) (by decide)).trans syncing
    rw [State.tryReady_ready same s.synced_ended (s.synced_running.trans idle)]
    exact ⟨State.toTrp_trpState (by decide) _, State.toTrp_ready_latches same⟩

/-! ## Safety lines (R206) -/

/-- What showing a divergence and telling the partner may change. -/
def divergedMask : Nat :=
  frameMask ([Reg.SAF_CMP_DIVERGED, Reg.HIF_FN_EVT_LOST_CNT 0, Reg.BRK_LATCH 0].map Field.id,
    [.fresh, .rings, .pba, .unsigSince, .lanes, .wires, .trp])

theorem State.diverged_keeps (s : State) (mask : Nat) : Keeps divergedMask s ((s.setDiverged mask).sendPeer 0x13 0 mask) :=
  State.sendPeer_keeps (State.setDiverged_keeps (.refl _ s) (by decide +kernel)) (by decide +kernel)

/-- A line that agrees ends the run of mismatches. -/
theorem State.compareLine_same (s : State) (n : Nat) : ((s.compareLine n true).saf n).miss = 0 ∧
    (s.compareLine n true).get Reg.SAF_MISMATCH_CNT = s.get Reg.SAF_MISMATCH_CNT := by
  unfold State.compareLine
  dsimp only
  rw [if_pos rfl]
  generalize hx : ({ s.saf n with miss := 0, hits := min 128 ((s.saf n).hits + 1) } : Saf) = x
  have miss : ((s.setSaf n x).saf n).miss = 0 := by rw [State.saf_setSaf, ← hx]
  have count : (s.setSaf n x).get Reg.SAF_MISMATCH_CNT = s.get Reg.SAF_MISMATCH_CNT := (s.setSaf_shows n x).get_like _ rfl (by decide +kernel)
  split
  · have told := (s.setSaf n x).diverged_keeps (clearBit (s.get Reg.SAF_CMP_DIVERGED) n)
    exact ⟨(congrArg Saf.miss (told.safSame n (by decide +kernel))).trans miss, (told.get_like _ rfl (by decide +kernel)).trans count⟩
  · exact ⟨miss, count⟩

/-- A line that differs is counted and ends the run of matches. -/
theorem State.compareLine_differs (s : State) (n : Nat) : ((s.compareLine n false).saf n).miss = (s.saf n).miss + 1 ∧
    ((s.compareLine n false).saf n).hits = 0 ∧ s.Counted (s.compareLine n false) Reg.SAF_MISMATCH_CNT := by
  unfold State.compareLine
  dsimp only
  rw [if_neg (by decide)]
  generalize hx : ({ s.saf n with miss := (s.saf n).miss + 1, hits := 0 } : Saf) = x
  have judged : ((s.setSaf n x).bump Reg.SAF_MISMATCH_CNT).saf n = x :=
    ((State.bump_keeps (w := frameMask ([Reg.SAF_MISMATCH_CNT.id], [.fresh])) (by decide +kernel) (.refl _ _) (by decide +kernel)).safSame n
      (by decide +kernel)).trans (s.saf_setSaf n x)
  have count : s.Counted ((s.setSaf n x).bump Reg.SAF_MISMATCH_CNT) Reg.SAF_MISMATCH_CNT :=
    ((s.setSaf n x).bump_counted _).before ((s.setSaf_shows n x).get_like _ rfl (by decide +kernel))
  split
  · have told := ((s.setSaf n x).bump Reg.SAF_MISMATCH_CNT).diverged_keeps (setBit (s.get Reg.SAF_CMP_DIVERGED) n)
    have saf := (told.safSame n (by decide +kernel)).trans judged
    exact ⟨(congrArg Saf.miss saf).trans (by rw [← hx]), (congrArg Saf.hits saf).trans (by rw [← hx]),
      count.after (told.get_like _ rfl (by decide +kernel))⟩
  · exact ⟨by rw [judged, ← hx], by rw [judged, ← hx], count⟩

/-- A record of one line of a picture already latched, of the same package and state, has that line compared. -/
theorem State.safLines_one {s : State} {n : Nat} {x : SafLines} {c : BitVec 32} (present : (s.heldPresent n x.pic.toNat).isSome = true)
    (one : x.crcs = [c]) (latched : s.trp.lines.any (fun e => e.1 == n && e.2.1 == x.pic.toNat) = true)
    (seq : x.seq.toNat = (s.saf n).shownSeq % 2 ^ 32) (state : x.state.toNat = (s.saf n).shownState) :
    s.safLines n x = (s.compareLine n (c.toNat == s.safLineCrc n x.first)).noteLines n x.pic.toNat (x.first.val / 128) := by
  obtain ⟨p, found⟩ := Option.isSome_iff_exists.1 present
  unfold State.safLines
  dsimp only
  rw [found]
  dsimp only
  rw [if_pos latched, if_neg (fun h => h.elim (absurd seq) (absurd state)), one]
  rfl

/-! ## Records that a Catcher takes, and those that it ignores (R433, R452) -/

/-- A command that acts under a condition that holds. -/
theorem Completes.ifPos {c : Instr} {s t u : State} {b : Prop} [Decidable b] {P : State → Prop} (acts : exec c s = .next (if b then t else u))
    (h : b) (p : P t) : Completes c s P := ⟨t, acts.trans (congrArg Host.Outcome.next (if_pos h)), p⟩

section
variable {c : Instr} {s u : State} {P : State → Prop} (catches : s.catches = true)
  (acts : exec c s = .next (if !s.catches then s else if !s.peerNew then s.strayRecord else u))
include catches acts

theorem Completes.known (known : s.peerNew = true) (p : P u) : Completes c s P := ⟨u, by rw [acts, catches, known]; rfl, p⟩

/-- A record that the partner has no business to send is counted, and nothing else of the stream is. -/
theorem Completes.stray (stray : s.peerNew = false) : Completes c s (fun t => s.Counted t Reg.TRP_MALFORMED_CNT ∧ t.trp = s.trp ∧ t.safs = s.safs) :=
  ⟨s.malformedSeen 1, by rw [acts, catches, stray]; rfl, s.malformedSeen_counts (by decide), s.malformedSeen_trp 1,
    (s.malformedSeen_keeps 1).safsKept (by decide +kernel)⟩

end

end Sys2Proof.Machine
end

/-! # Proofs: a Catcher holds the stream (R428, R432 to R437, R447, R448, R452) -/

section
namespace Sys2Proof.Machine

-- One theorem at a time: the text is compiled as one, and more threads would not fit in memory.
set_option Elab.async false

open Sys2Proof

/-! ## What a Catcher does with each record -/

section
variable {s : State} (catches : s.catches = true)
include catches

theorem completes_mirrorDataRx_next {i : Fin 16} {q : BitVec 32} (bad : Nat) (lane : s.mirrorLanes.contains i.val = true) (next : q.toNat = s.trp.got) :
    Completes (.mirrorDataRx i q bad) s (fun t =>
      t.trp.got = absorb s.trp.ahead s.trp.ahead.length ((q.toNat + 1) % 2 ^ 32) ∧ t.get Reg.TRP_SEQ = (t.trp.got + 2 ^ 32 - 1) % 2 ^ 32 ∧
      (0 < bad → t.get Reg.TRP_MALFORMED_CNT = min (s.get Reg.TRP_MALFORMED_CNT + bad) (fieldMax Reg.TRP_MALFORMED_CNT))) := by
  refine ⟨_, congrArg Host.Outcome.next (State.mirrorDataRx_next ⟨catches, lane⟩ bad next), rfl, ?_, fun some => ?_⟩
  · exact State.get_set_fits (Nat.mod_lt _ (by decide)) _
  · exact (State.get_set_other _ Reg.TRP_SEQ Reg.TRP_MALFORMED_CNT _ (by decide)).trans (State.malformedSeen_counts some s)

theorem completes_mirrorDataRx_ahead {i : Fin 16} {q : BitVec 32} (bad : Nat) (lane : s.mirrorLanes.contains i.val = true)
    (later : later32 q.toNat s.trp.got = true) (new : q.toNat ∉ s.trp.ahead) : Completes (.mirrorDataRx i q bad) s (fun t =>
      t.trp.got = s.trp.got ∧ t.trp.ahead = q.toNat :: s.trp.ahead ∧ q.toNat ∉ t.trp.asked) := by
  refine ⟨_, congrArg Host.Outcome.next (State.mirrorDataRx_ahead ⟨catches, lane⟩ bad later new), ?_⟩
  beta_reduce
  rw [State.askFor_trp, State.heldAhead, State.malformedSeen_trp]
  exact ⟨rfl, rfl, fun among => by simpa using (List.mem_filter.1 among).2⟩

theorem completes_configRecord {off : BitVec 32} (v : BitVec 32)
    (distinct : (((Reg.fieldsAt 0 off.toNat).getD []).map (fun f => fieldKey (bank 5 f))).Nodup) : Completes (.configRecord [(off, v)]) s (fun t =>
      ∀ f ∈ (Reg.fieldsAt 0 off.toNat).getD [], f.acc = .rw → f.id < 1024 → f.lsb < 32 → f.off < 2 ^ 29 → f.fn < 64 →
        f.id ≠ (Reg.ENC_BS_RUN_STATE 0).id → f.id ≠ (Reg.CAR_P_PENDING 0).id →
        t.get (bank 5 f) = bits v.toNat f.msb f.lsb % 2 ^ fieldWidth f) := by
  refine ⟨_, exec_configRecord catches off v, fun f hf rw small lsb place fn state pending => ?_⟩
  refine s.heldConfig_reads distinct v.toNat hf rw (decide_eq_true ⟨lsb, place, fn⟩) fun g hg => ?_
  rw [Nat.mod_eq_of_lt small]
  rcases List.mem_cons.1 hg with rfl | hg
  · exact state
  · obtain rfl := List.mem_singleton.1 hg
    exact pending

theorem completes_surfRecord {a : BitVec 39} {l : List Byte} (poison : Bool) (there : s.inService a.toNat l.length = true)
    (apart : s.safAreaMeets a.toNat l.length = none) : Completes (.surfRecord a l poison) s (fun t =>
      (∀ k, (h : k < l.length) → Memory.read t.mem (a.toNat + k) = l[k]) ∧
      (∀ b, b < a.toNat ∨ a.toNat + l.length ≤ b → Memory.read t.mem b = Memory.read s.mem b) ∧
      (poison = true → l ≠ [] → 64 * (a.toNat / 64) ∈ t.dram.poison)) := by
  obtain ⟨mem, lines⟩ := State.mirrorStore_stores there apart poison
  obtain ⟨stored, others⟩ := Memory.stored_of_writeAll mem
  exact .ifPos rfl catches ⟨stored, others, lines⟩

theorem completes_surfRecord_absent {a : BitVec 39} {l : List Byte} (poison : Bool) (gone : s.inService a.toNat l.length = false) :
    Completes (.surfRecord a l poison) s (fun t => t.mem = s.mem) := by
  have same : (s.mirrorStore a.toNat l poison).mem = s.mem := by rw [State.mirrorStore_absent gone]
  exact .ifPos rfl catches same

theorem exec_refRecord (n : Fin 4) (pic : BitVec 32) (a : BitVec 39) (sectors : Fin 8) (l : List Byte) (poison : Bool) :
    exec (.refRecord n pic a [(sectors, l)] poison) s = .next (s.refBlock (a.toNat / 512 * 512) sectors l poison) := by
  have one : [(sectors, l)].zipIdx.foldl (fun (t : State) e => t.refBlock (a.toNat / 512 * 512 + 512 * e.2) e.1.1 e.1.2 poison) s =
    s.refBlock (a.toNat / 512 * 512) sectors l poison := by simp
  exact congrArg Host.Outcome.next ((if_pos catches).trans one)

theorem completes_refRecord (n : Fin 4) (pic : BitVec 32) {a : BitVec 39} (sectors : Fin 8) {l : List Byte} (poison : Bool) (short : l.length ≤ 512)
    (block : s.inService (a.toNat / 512 * 512) 512 = true) (there : s.inService (a.toNat / 512 * 512) l.length = true)
    (apart : s.safAreaMeets (a.toNat / 512 * 512) l.length = none) : Completes (.refRecord n pic a [(sectors, l)] poison) s (fun t =>
      (∀ k, (h : k < l.length) → Memory.read t.mem (a.toNat / 512 * 512 + k) = l[k]) ∧
      ∀ b, b < a.toNat / 512 * 512 ∨ a.toNat / 512 * 512 + l.length ≤ b → Memory.read t.mem b = Memory.read s.mem b) :=
  ⟨_, exec_refRecord catches n pic a sectors l poison, Memory.stored_of_writeAll (State.refBlock_mem short block there apart poison)⟩

theorem completes_sliceRecord {n : Fin 4} {pic : BitVec 32} (row : Fin 64) (only : ∀ y ∈ s.trp.rows, y.slot = n.val → y.pic = pic.toNat)
    (sp : BitVec 16) (b : BitVec 32) : Completes (.sliceRecord n pic row sp b) s (fun t =>
      (t.heldRow n pic.toNat row).slices = addSlice sp.toNat b.toNat (s.heldRow n pic.toNat row).slices) := by
  have place : HeldRow.at n pic.toNat row
    { s.heldRow n pic.toNat row with slices := addSlice sp.toNat b.toNat (s.heldRow n pic.toNat row).slices } = true := s.heldRow_at n pic.toNat row
  exact .ifPos rfl catches (congrArg HeldRow.slices (State.heldRow_putHeldRow place only))

theorem completes_rowEndRecord {n : Fin 4} {pic : BitVec 32} (row : Fin 64) (only : ∀ y ∈ s.trp.rows, y.slot = n.val → y.pic = pic.toNat)
    (q c : BitVec 32) : Completes (.rowEndRecord n pic row q c) s (fun t => (t.heldRow n pic.toNat row).endSeq = some q.toNat ∧
      t.get Reg.TRP_ACK = s.get Reg.TRP_SEQ % 2 ^ 32 ∧ t.trp.ackAt = s.lc) := by
  have place : HeldRow.at n pic.toNat row { s.heldRow n pic.toNat row with endSeq := some q.toNat } = true := s.heldRow_at n pic.toNat row
  obtain ⟨held, acks⟩ := State.rowEnd_holds place only
  exact .ifPos rfl catches ⟨congrArg HeldRow.endSeq held, acks⟩

theorem completes_ckptRecord (n : Fin 4) (pic : BitVec 32) (c : CkptIn) :
    Completes (.ckptRecord n pic c) s (fun t => Table.find t.trp.ckpts n = some (pic.toNat, c)) :=
  .ifPos rfl catches (Table.find_put_same s.trp.ckpts n.val (pic.toNat, c))

theorem completes_safPkgRecord_held (known : s.peerNew = true) {n : Fin 4} {l : List Byte} (passes : s.pkgCode n l = 0) :
    Completes (.safPkgRecord n l) s (fun t => (t.saf n).lastSeq = pkgSeq l) :=
  .known catches rfl known (by
    rw [if_pos passes]
    exact (s.pkgHold_holds n l).lastSeq)

theorem completes_safPkgRecord_refused (known : s.peerNew = true) {n : Fin 4} {l : List Byte} (fails : s.pkgCode n l ≠ 0) :
    Completes (.safPkgRecord n l) s (fun t => s.Counted t (Reg.SAF_SLOT_REFUSED_CNT n.val) ∧ t.saf n = s.saf n) :=
  .known catches rfl known (by
    rw [if_neg fails]
    exact ⟨(State.checkFailed_shows (s.pkgCode_lt n l)).1, rfl⟩)

theorem completes_ringRecord (known : s.peerNew = true) (r : Fin 16384) (c : BitVec 32) (o : BitVec 16) (d : Desc) :
    Completes (.ringRecord r c o d) s (fun t =>
      t.trp.descs = s.trp.descs ++ [{ rid := r, cons := c.toNat, opcode := o.toNat, d := d, shown := false }] ∧
      (o = 2 → Table.find t.trp.rings d.objIndex.toNat = none)) :=
  .known catches rfl known ⟨rfl, by
    rintro rfl
    exact Table.find_del_same s.trp.rings d.objIndex.toNat⟩

theorem completes_stray (stray : s.peerNew = false) (n : Fin 4) (l : List Byte) (r : Fin 16384) (c : BitVec 32) (o : BitVec 16) (d : Desc)
    (x : SafLines) : ∀ y ∈ [Instr.safPkgRecord n l, .ringRecord r c o d, .safLineRecord n x],
      Completes y s (fun t => s.Counted t Reg.TRP_MALFORMED_CNT ∧ t.trp = s.trp ∧ t.safs = s.safs) := by
  refine List.forall_mem_cons.2 ⟨.stray catches rfl stray, List.forall_mem_cons.2 ⟨.stray catches rfl stray, fun y hy => ?_⟩⟩
  obtain rfl := List.mem_singleton.1 hy
  exact .stray catches rfl stray

theorem completes_syncStartRecord : Completes .syncStartRecord s (fun t =>
    t.trp.ended = false ∧ t.trp.rows = [] ∧ t.trp.ckpts = [] ∧ (s.trpState = trpReady → t.trpState = trpSyncing) ∧
      ∀ f : Field, f.lsb < 32 → f.off < 2 ^ 29 → f.fn < 64 → t.get (bank 5 f) = f.reset ∧ t.get (bank 6 f) = f.reset) := by
  refine .ifPos rfl catches (t := if s.trpState = trpReady then s.syncEmptied.toTrp trpSyncing else s.syncEmptied) ?_
  have empty : ∀ f : Field, f.lsb < 32 → f.off < 2 ^ 29 → f.fn < 64 → fieldPlaced f = true := fun _ lsb off fn => decide_eq_true ⟨lsb, off, fn⟩
  split
  · obtain ⟨at', trp⟩ := s.syncEmptied.toTrp_updated trpSyncing
    rw [trp]
    refine ⟨rfl, rfl, rfl, fun _ => State.toTrp_trpState (by decide) _, fun f lsb off fn => ⟨?_, ?_⟩⟩
    · exact (s.syncEmptied.toTrp_syncing_get (by decide) (empty f lsb off fn)).trans (s.syncEmptied_get (.inl rfl) (empty f lsb off fn))
    · exact (s.syncEmptied.toTrp_syncing_get (by decide) (empty f lsb off fn)).trans (s.syncEmptied_get (.inr rfl) (empty f lsb off fn))
  · next other =>
    exact ⟨rfl, rfl, rfl, fun ready => absurd ready other, fun f lsb off fn =>
      ⟨s.syncEmptied_get (.inl rfl) (empty f lsb off fn), s.syncEmptied_get (.inr rfl) (empty f lsb off fn)⟩⟩

theorem completes_safLineRecord (compares : s.on Reg.SAF_CMP_AVAILABLE = true) (known : s.peerNew = true) {n : Fin 4} {x : SafLines} {c : BitVec 32}
    (present : (s.heldPresent n x.pic.toNat).isSome = true) (one : x.crcs = [c])
    (latched : s.trp.lines.any (fun e => e.1 == n.val && e.2.1 == x.pic.toNat) = true)
    (seq : x.seq.toNat = (s.saf n).shownSeq % 2 ^ 32) (state : x.state.toNat = (s.saf n).shownState) {P : State → Prop}
    (judged : P ((s.compareLine n (c.toNat == s.safLineCrc n x.first)).noteLines n x.pic.toNat (x.first.val / 128))) :
    Completes (.safLineRecord n x) s P :=
  .known catches rfl known (by rwa [if_pos compares, State.safLines_one present one latched seq state])

theorem completes_safLineMissingTimeout (compares : s.on Reg.SAF_CMP_AVAILABLE = true) {n : Fin 4} {pic : BitVec 32} {row : Fin 64}
    (unjudged : (n.val, pic.toNat, row.val) ∉ s.trp.lines) (shown : 128 * row.val < (s.canvas n).2) :
    Completes (.safLineMissingTimeout n pic row) s (fun t => t.get Reg.SAF_MISSING_CNT =
      min (s.get Reg.SAF_MISSING_CNT + min 128 ((s.canvas n).2 - 128 * row)) (fieldMax Reg.SAF_MISSING_CNT) ∧
      (n.val, pic.toNat, row.val) ∈ t.trp.lines) := by
  refine .ifPos rfl ⟨catches, compares, by simpa using unjudged⟩ ⟨State.count_get (by omega) s Reg.SAF_MISSING_CNT, ?_⟩
  exact List.mem_cons_self

theorem completes_resendTimeout {q : BitVec 32} (asked : q.toNat ∈ s.trp.asked) :
    Completes (.resendTimeout q) s (fun t => t.trp.ahead = [] ∧ t.trp.asked = []) := by
  obtain ⟨got, trp⟩ := State.resendTimeout_trp catches asked
  exact ⟨_, rfl, congrArg Trp.ahead trp, congrArg Trp.asked trp⟩

end

/-- Settles O52, record by record. Three clauses rest on choices of the model's log: a resend that is given up leaves nothing ahead and
nothing asked for (entry 86, DESIGN CHOICE), a record marked POISON leaves its lines poisoned (entry 67, DEDUCED), and the Catcher latches
its Safety Net for a picture at the picture's first row (entry 68, DEDUCED). -/
theorem theCatcherHoldsTheStream : Obligations.TheCatcherHoldsTheStream := by
  intro s catches
  refine ⟨fun i q bad lane => ⟨completes_mirrorDataRx_next catches bad lane, completes_mirrorDataRx_ahead catches bad lane⟩,
    fun off v => completes_configRecord catches v,
    fun a l poison => ⟨completes_surfRecord catches poison, completes_surfRecord_absent catches poison,
      fun n pic sectors => completes_refRecord catches n pic sectors poison⟩,
    fun n pic row only => ⟨completes_sliceRecord catches row only, completes_rowEndRecord catches row only⟩,
    completes_ckptRecord catches,
    fun n l => ⟨fun known => completes_safPkgRecord_held catches known, fun known => completes_safPkgRecord_refused catches known⟩,
    completes_ringRecord catches, completes_stray catches, completes_syncStartRecord catches,
    .ifPos rfl catches s.syncEnd_completes,
    fun compares => ⟨fun n x c known present one latched seq state => ⟨fun same => ?_, fun differs => ?_⟩,
      fun n pic row => completes_safLineMissingTimeout catches compares⟩,
    fun q => completes_resendTimeout catches⟩
  · refine completes_safLineRecord catches compares known present one latched seq state ?_
    rw [beq_iff_eq.2 same]
    exact s.compareLine_same n
  · refine completes_safLineRecord catches compares known present one latched seq state ?_
    rw [beq_eq_false_iff_ne.2 differs]
    exact s.compareLine_differs n

end Sys2Proof.Machine
end
